-- ==== Sys2Proof/Word.lean ====
section
/-!
DEFINITION. The word types of the LH6480: a register is 32 bits, accessed whole (R10); memory is addressed by the byte (R6).
-/
namespace Sys2Proof

/-- A register or memory word of 32 bits (R10). -/
abbrev Word := BitVec 32

/-- A byte of memory. -/
abbrev Byte := BitVec 8

end Sys2Proof
end

