-- ==== Sys2Proof/Types.lean ====
section
/-!
DEFINITION. The kinds of operand that the commands carry: who sends a register access (R25, R38), which comparator, which
gate output, and so on. They are plain data.
-/
namespace Sys2Proof

/-- The masters that send bus accesses (R25, R38). The class numbers of R38 are 1 host, 2 control pair, 3 service pair,
4 debug. -/
inductive Master
  | host | ctrl | svc | debug
  deriving DecidableEq, Repr

/-- Owner class of a master (R38). -/
def Master.cls : Master → Nat
  | .host => 1 | .ctrl => 2 | .svc => 3 | .debug => 4

/-- A core pair (R465): control or service. -/
inductive Pair
  | control | service
  deriving DecidableEq, Repr

/-- A comparator of a tile (R125). -/
inductive Cmp
  | a | b
  deriving DecidableEq, Repr

/-- A gate output of a tile (R115). -/
inductive Out
  | h | l
  deriving DecidableEq, Repr

/-- Supply inputs whose rise or fall the cellar watches (R18). -/
inductive Edge
  | rising | falling
  deriving DecidableEq, Repr

/-- What the check bits of a stored word show on a read (R84, R472): no error, a single-bit error that is corrected, or an
uncorrectable one. A flaw is a fact about the storage cells, which a command brings with it. -/
inductive Flaw
  | clean | single | double
  deriving DecidableEq, Repr

/-- A galley entry in error that a reader may meet (R84). -/
structure EntryFlaw where
  entry : Nat
  kind : Flaw
  deriving DecidableEq, Repr

/-- What a read of entry `i` meets among the entries in error. -/
def flawAt (l : List EntryFlaw) (i : Nat) : Flaw := ((l.find? (fun f => decide (f.entry = i))).map (·.kind)).getD .clean

/-- What an OTP operation finds in the cells (R450–R452): the pulses used, the bits that would not burn, the weak and leaky bits
of a margin read with the first word concerned, and the words whose two sensing passes differ, each with the OR of both. -/
structure OtpFacts where
  pulses : Nat := 0
  bad : Word := 0
  weak : Nat := 0
  leak : Nat := 0
  first : Nat := 0
  diff : List (Nat × Word) := []
  deriving DecidableEq, Repr

/-- Who reads a memory (R472, R473): a master, or the engine of a ring. -/
inductive Reader
  | master (m : Master)
  | ring (n : Fin 96)
  deriving DecidableEq, Repr

/-- What the write controller of the MRAM finds (R501, R507): how many units needed a second write, the unit that failed
twice, and the units that a scan or a slot read finds uncorrectable. -/
structure MramFacts where
  retries : Nat := 0
  bad : Option (Fin 32768) := none
  ue : List (Fin 32768) := []
  deriving DecidableEq, Repr

/-- Format of a CAN frame (R514, R518). -/
inductive CanFmt
  | cc | fd | xl
  deriving DecidableEq, Repr

/-- A whole CAN frame as received: `id` in the form of R517, data in bus order, and the stamp of its start-of-frame bit. `bad`
tells an uncorrectable error in the frame buffer (R535), `lost` that a frame of the controller's own lost arbitration to it
(R519). -/
structure CanFrame where
  fmt : CanFmt := .cc
  xtd : Bool := false
  rtr : Bool := false
  brs : Bool := false
  esi : Bool := false
  sec : Bool := false
  id : BitVec 29 := 0
  af : BitVec 32 := 0
  data : List (BitVec 8) := []
  folio : BitVec 32 := 0
  angle : BitVec 16 := 0
  bad : Bool := false
  lost : Bool := false
  deriving DecidableEq, Repr

/-- A whole T1S frame as received: from the destination address to the end of the payload; whether its FCS holds; how many 2.5 ns
clocks ago its start-frame delimiter came, the untrimmed cellar tick count there, and the stamp (R522, R523). -/
structure T1sFrame where
  bytes : List (BitVec 8) := []
  fcsOk : Bool := true
  age : BitVec 32 := 0
  ticks : BitVec 32 := 0
  folio : BitVec 32 := 0
  angle : BitVec 16 := 0
  bad : Bool := false
  deriving DecidableEq, Repr

/-- What an error on a CAN bus does to the counters of ISO 11898-1 (R514): a transmitter counts 8 in TEC, a receiver 1 in REC, a
receiver that sees a dominant bit after its error flag 8, and an exempted transmitter nothing. -/
inductive CanError
  | tx | rx | rxDominant | exempt
  deriving DecidableEq, Repr

/-- The balls whose level the device decides (R544, R547). -/
inductive Ball
  | pwm (n : Fin 24) (o : Out)
  | alive | faultN | disch | stair
  | rstout (k : Fin 4)
  | pwron | hrdy
  | mx (k : Fin 27)
  deriving DecidableEq, Repr

/-- The network controllers that transmit (R519, R522). -/
inductive Net
  | can (n : Fin 2)
  | t1s
  deriving DecidableEq, Repr

/-- What a write of a register brings with it beside the word, for the few registers whose effect depends on it: whether VSYS and
the junction temperature permit burning OTP (R578), the transmit buffers whose frames are on the bus (R519), the raw tick count
of a capture in units of 1/65,536 tick (R379), and the galley entries in error that a reader may meet (R84). -/
structure WriteFacts where
  burn : Bool := true
  started : BitVec 8 := 0
  ticks : Nat := 0
  flaws : List EntryFlaw := []
  deriving DecidableEq, Repr

/-- An error that the scrubber meets (R475): byte address of the word, whether it can be corrected, and the bit in error. -/
structure ScrubError where
  addr : BitVec 32
  double : Bool
  bit : Fin 39
  deriving DecidableEq, Repr

/-- How a source changes (R397). -/
inductive Happening
  | begins | ends | instant
  deriving DecidableEq, Repr

/-- The way by which an Ammir frame comes: the host port, or the fragments of a boot path (R431, R529). -/
inductive Way
  | port
  | can
  | t1s
  deriving DecidableEq, Repr

end Sys2Proof
end

