-- ==== Sys2Proof/Syntax.lean ====
section
/-!
DEFINITION. The commands of the LH6480: one constructor per row of the opcode table, with the operands that the spec gives the
command, first the commands with operands and then those without. What an analogue or external event brings with it (a
measured value, a level, a flaw of a storage cell) is an operand.
-/
namespace Sys2Proof

/-- A command: a write or a read by a master, a request of the host, or an event that the device meets. -/
inductive Instr
  /-- Once VSYS has stood above 2.60 V for 1 ms, the island is released, runs ISL_BIST and loads the sequencer program
  from OTP. (R349) -/
  | islandPowerOn (pass : Bool)
  /-- SYS.CMD ARM checks the six arming conditions and takes the device from READY to RUN, or refuses the command with a
  cause. (R20) -/
  | arm (m : Master)
  /-- SYS.CMD DISARM takes the device from RUN to READY and stops the groups in order. (R18) -/
  | disarm (m : Master)
  /-- SYS.CMD HIBERNATE runs the SLEEP program and takes the device from READY to HIBERNATE. (R350) -/
  | hibernate (m : Master)
  /-- SYS.CMD CELLAR runs SLEEP, DOWN and the unwind and takes the device from READY to CELLAR. (R350) -/
  | cellar (m : Master)
  /-- SYS.CMD SAFE_EXIT leaves SAFE for READY or BOOT unless a SAFE or RESET source is active or a backup reaction is in
  force. (R414) -/
  | safeExit (m : Master)
  /-- SYS.CMD RESET makes a device reset once every due Scaolo check has been made; the device then enters BOOT. (R416)
  -/
  | reset (m : Master)
  /-- A SYS.CMD write with a wrong key or an invalid command is ignored and records its cause. (R23) -/
  | sysCmdInvalid (m : Master) (w : Word)
  /-- A page CLAIM write with OP claim takes a free key, or is refused with CONFLICT or INVALID. (R39) -/
  | claim (m : Master) (page : BitVec 8) (tag : BitVec 16)
  /-- A page CLAIM write with OP release frees the key, or is refused with CONFLICT, BUSY or INVALID. (R41) -/
  | release (m : Master) (page : BitVec 8) (tag : BitVec 16)
  /-- KR_REQ with OP claim set takes every key of the masked window, or none of them. (R40) -/
  | claimSet (m : Master) (win : BitVec 5) (tag : BitVec 16)
  /-- KR_REQ with OP release set releases every key of the masked window, or none of them. (R40) -/
  | releaseSet (m : Master) (win : BitVec 5) (tag : BitVec 16)
  /-- A write to a register that has no row of its own updates the permitted fields, or is refused with REFUSED or a bus
  fault. (R34) -/
  | registerWrite (m : Master) (a : Word) (w : Word) (f : WriteFacts)
  /-- A write of CTRL.ENABLE to a page with no enable rule of its own takes effect only under the key rule; otherwise
  NOKEY is set. (R43) -/
  | enableWrite (m : Master) (page : BitVec 8) (on : Bool)
  /-- CTRL.SOFT_RESET returns the block-specific registers to their reset values when the block is idle. (R30) -/
  | softReset (m : Master) (page : BitVec 8) (on : Bool)
  /-- A write of 1 to LOCK freezes the RWL fields of the page until device reset; on FAULT it also writes CONFIG_CRC.
  (R30) -/
  | lockSet (m : Master) (page : BitVec 8)
  /-- A write of EVENT_SET raises events as if they had occurred, except in RUN, where the write is refused. (R33) -/
  | eventSet (m : Master) (page : BitVec 8) (w : Word)
  /-- A W1C write to FAULT clears the bits; a bit whose condition still holds sets again as a repeat, and a tile or cut
  whose cause has gone is released. (R32) -/
  | faultClear (m : Master) (page : BitVec 8) (w : Word)
  /-- A read of TIMEBASE.ANGLE latches the folio of the same clock into FOLIO_AT_ANGLE. (R52) -/
  | angleRead (m : Master)
  /-- A change of TIMEBASE.CTRL.ENABLE starts a folio at angle 0 with a source request, or freezes angle and folio as
  STOPPED. (R50) -/
  | timebaseEnable (m : Master) (on : Bool) (fl : List EntryFlaw)
  /-- A write of SRC_SEL.SRC makes the latest source request pending; a MASTER request can be refused, and a request for
  the active source cancels what is pending. (R64) -/
  | sourceRequest (m : Master) (w : Word)
  /-- A write of MASTER_FREQ or VIRT_FREQ is range-checked and takes effect at the next angle 0. (R62) -/
  | freqWrite (m : Master) (virt : Bool) (w : Word)
  /-- The timebase issues an angle count. (R49) -/
  | angleSlot (fl : List EntryFlaw)
  /-- Angle 0 opens a new folio and advances k and L. (R50) -/
  | folioBoundary (fl : List EntryFlaw)
  /-- Every 10 µs the grid PLL takes the newest line results and updates its estimate. (R55) -/
  | pllUpdate (angle : BitVec 16) (freq : BitVec 32) (amp : BitVec 16) (err : BitVec 32)
  /-- A rising SYNCIN edge places the locked CREF reference instant. (R67) -/
  | syncinEdge (interval : BitVec 32)
  /-- A follower takes a whole FMARK frame, judges it, locks or corrects its rate, and takes an FMARK proof. (R71) -/
  | fmarkFrameReceived (cells : List (BitVec 16 × BitVec 16)) (err : BitVec 32) (rate : BitVec 32) (fl : List EntryFlaw)
  /-- A write of PROOF.TAKE triggers a proof on the next clock. (R74) -/
  | proofTake (m : Master)
  /-- A write of HOLD changes the writer's own hold bit or clears AUTO. (R76) -/
  | proofHoldWrite (m : Master) (w : Word)
  /-- A change of GALLEY.CTRL.ENABLE starts firing at the next angle 0, or stops firing, discards deferred actions and
  closes the windows. (R89) -/
  | galleyEnable (m : Master) (on : Bool)
  /-- A write to a galley entry updates its check bits, or is refused with a bus fault if the entry lies in a live or
  pending range. (R85) -/
  | galleyEntryWrite (m : Master) (i : Fin 32768) (w : Word)
  /-- A bus read of a galley entry corrects a single-bit error, or ends with a bus fault and GAL_ECC on an uncorrectable
  one. (R84) -/
  | galleyEntryRead (m : Master) (i : Fin 32768) (flaw : Flaw)
  /-- IMPOSE with OP impose checks NOKEY, RANGE and OVERLAP, replaces any pending request of the sheet and starts or
  queues the scan. (R91) -/
  | impose (m : Master) (sheet : Fin 16)
  /-- IMPOSE with OP cancel cancels the sheet's pending request if the writer holds the sheet key. (R93) -/
  | imposeCancel (m : Master) (sheet : Fin 16)
  /-- The scan of a new range ends with a pass or a refusal, and any queued request's scan starts. (R91) -/
  | imposeScanDone (fl : List EntryFlaw)
  /-- A write of WL_ADDR or WL_FIELD is taken, or refused whole if it would leave VALID = 1 on an entry that fails the
  conditions. (R96) -/
  | whitelistWrite (m : Master) (i : Fin 32) (field : Bool) (w : Word)
  /-- A write of TILE CTRL.ENABLE is refused with CFG_BAD for an inconsistent period, dead-time or valley configuration.
  (R121) -/
  | tileEnable (m : Master) (n : Fin 24) (on : Bool)
  /-- At a tile carrier-period start, the tile ends the last period, takes new period values, clamps the period and
  updates the trim and CONSEC. (R112) -/
  | tilePeriodStart (n : Fin 24)
  /-- CONSEC reaches NCYC, so the tile signals its group and CONSEC returns to 0. (R131) -/
  | ncycReached (n : Fin 24)
  /-- A write of CAL_CTRL.RUN starts a delay-line measurement. (R110) -/
  | calRun (m : Master) (n : Fin 24) (w : Word)
  /-- The calibration interval expires and starts a delay-line measurement. (R110) -/
  | calInterval (n : Fin 24)
  /-- A measurement completes; a valid result replaces the tap table, and an invalid one raises TILE_CAL. (R110) -/
  | calDone (n : Fin 24) (cpc : BitVec 16)
  /-- A comparator trips or releases, and its function ends a pulse, counts a valley, stops the tile or counts: `uv` is its input
  in µV at position `x` of the period. (R126) -/
  | comparatorCrossing (n : Fin 24) (c : Cmp) (uv : BitVec 22) (x : BitVec 22)
  /-- Blanking ends with the comparator still tripped, so its action takes place then. (R128) -/
  | blankingEnd (n : Fin 24) (c : Cmp) (x : BitVec 22)
  /-- A gate readback differs from its command for 20 ns, or both outputs read high, so the tile stops immediately and
  TILE_OUTPUT is raised. (R120) -/
  | outputMismatch (n : Fin 24) (detail : Fin 4)
  /-- A write of CONV CTRL.ENABLE binds the tiles if the key, role and phase checks pass, or sets CFG_BAD. (R139) -/
  | convEnable (m : Master) (g : Fin 8) (on : Bool)
  /-- A write of GROUP_CTRL requests or withdraws the group's run. (R141) -/
  | groupGo (m : Master) (g : Fin 8) (w : Word)
  /-- With GO, RUN and a valid angle, the group checks its tiles and leaves STOPPED for SOFT_START. (R150) -/
  | groupStart (g : Fin 8)
  /-- At the lead's period start, the group applies collected actions and commands, slews the reference, evaluates
  residuals and decides add, shed, burst and hiccup. (R144) -/
  | groupUpdatePoint (g : Fin 8)
  /-- At the sampling instant, the law engine takes the newest feedback and computes the output within 200 ns. (R151) -/
  | lawSample (g : Fin 8)
  /-- A write of REF sets the reference target and the slew rate. (R156) -/
  | refWrite (m : Master) (g : Fin 8) (w : Word)
  /-- LAW_CTRL.LOAD puts every staged coefficient into use at the next update point. (R154) -/
  | lawLoad (m : Master) (g : Fin 8)
  /-- LAW_CTRL.CLEAR clears the histories and the outer loop at the next update point. (R154) -/
  | lawClear (m : Master) (g : Fin 8)
  /-- The hiccup off-time expires, so RETRY counts 1 and the group enters SOFT_START. (R175) -/
  | hiccupOffExpiry (g : Fin 8)
  /-- A clean run of HICCUP_CLEAN.TIME returns RETRY to 0. (R176) -/
  | hiccupCleanExpiry (g : Fin 8)
  /-- The verdict count reaches CONFIRM, so the group sheds the failed phase or latches. (R181) -/
  | phaseFailureDecision (g : Fin 8)
  /-- PROT_CTRL.UNLATCH takes a LATCHED group to STOPPED with RETRY 0. (R177) -/
  | unlatch (m : Master) (g : Fin 8)
  /-- PROT_CTRL.RESTORE in STOPPED clears FAILED and returns every phase to N_avail. (R184) -/
  | convRestore (m : Master) (g : Fin 8)
  /-- DCMD START switches DISCH on, except in RUN. (R191) -/
  | dischStart (m : Master)
  /-- DCMD STOP ends a discharge that START began. (R191) -/
  | dischStop (m : Master)
  /-- DCMD CIRCULATE switches DISCH on and drives the named group at RES_PER and RES_ON. (R192) -/
  | circulate (m : Master)
  /-- DCMD TEST pulses DISCH for 20 µs on and 20 µs off and checks the readback and results. (R193) -/
  | test (m : Master)
  /-- The 40 µs test ends and sets CHECKED or CHECK_FAIL. (R193) -/
  | dischTestDone (readback : Bool)
  /-- The DISCH readback differs from its command for 1 µs, so DISCH_OUTPUT is raised. (R190) -/
  | dischOutput (detail : Fin 3)
  /-- A change of ADC CTRL.ENABLE starts conversion or abandons the conversion in progress. (R200) -/
  | adcEnable (m : Master) (c : Fin 16) (on : Bool)
  /-- A fast conversion ends, and its calibrated result goes to the direct path, the bins and the streams, and to
  open-wire and DISCH. (R201) -/
  | conversionResult (c : Fin 16) (uv : BitVec 24) (lsb : Bool)
  /-- After the low-power conversion and 1 µs, the converter resumes full rate and sets FULL_RATE. (R206) -/
  | lpExit (c : Fin 16)
  /-- 1 µs after the next bin opens, the bin word is written, and COMPLETE_FOLIO advances when the folio is complete.
  (R209) -/
  | binClose (h : Fin 64)
  /-- A write of CH with EN = 1 is refused if the buffer lies outside frame memory or overlaps. (R213) -/
  | binChannelEnable (m : Master) (h : Fin 64) (w : Word)
  /-- A write of STREAM EN = 1 is refused unless the ring and its size fit. (R215) -/
  | streamEnable (m : Master) (c : Fin 16) (k : Fin 4) (w : Word)
  /-- A core producer's write of PI is accepted or refused with PI_REFUSED. (R219) -/
  | piWrite (m : Master) (n : Fin 96) (w : Word)
  /-- A consumer's write of CI is accepted or refused with CI_REFUSED. (R220) -/
  | ciWrite (m : Master) (n : Fin 96) (w : Word)
  /-- CMD.CLR_OVF clears OVERFLOW, and the next record written is a GAP. (R221) -/
  | clrOvf (m : Master) (n : Fin 96)
  /-- A write of RING CTRL.ENABLE checks the size, base, area and policy, or is refused. (R222) -/
  | ringEnable (m : Master) (n : Fin 96) (on : Bool)
  /-- Each µs the monitor converts one channel, updates RESULT and judges that channel's domain. (R223) -/
  | monitorConversion (raw : BitVec 12) (corr : BitVec 8) (sat : Bool)
  /-- Every HIB_CFG.PERIOD in HIBERNATE, the monitor powers up and scans the masked channels. (R224) -/
  | hibScanCycle (vals : List (BitVec 12 × BitVec 8))
  /-- No conversion within 2 µs raises ADC_STALL. (R226) -/
  | adcStall (c : Fin 16)
  /-- A write of CHG CTRL.ENABLE is refused on a bad configuration; a write of 0 takes the charge manager to IDLE.
  (R275) -/
  | chgEnable (m : Master) (on : Bool)
  /-- Each 1 ms the charge manager evaluates its inputs, limit, zone, pilot term, S2 and regulator, and makes its
  transitions. (R245) -/
  | chgTick (ohms : BitVec 32)
  /-- A pilot period is measured for PWM validity and plateaus; in V2V the CPGEN low plateau is checked. (R255) -/
  | pilotPeriod (high : BitVec 16) (low : BitVec 16) (on : BitVec 32) (total : BitVec 32)
  /-- After AVG periods, DUTY and the pilot term are renewed. (R255) -/
  | dutyUpdate (err : Fin 11)
  /-- A write of BMS_IN is accepted only after a good check of the BMS unit, or is refused. (R259) -/
  | bmsInWrite (m : Master) (w : Word)
  /-- CMD START sets the START flag. (R274) -/
  | chgStart (m : Master)
  /-- CMD PAUSE raises the HOST suspend cause. (R274) -/
  | pause (m : Master)
  /-- CMD RESUME clears TIMER, BATTERY_LOST and HOST, and leaves SUSPEND if the mask is empty. (R251) -/
  | resume (m : Master)
  /-- CMD STOP ends a session orderly into DONE, or ends REVERSE at once. (R248) -/
  | chgStop (m : Master)
  /-- CMD V2L enters REVERSE if the inlet, cable, temperature and groups permit. (R269) -/
  | v2l (m : Master)
  /-- CMD V2V enters REVERSE as supply side, with the CPGEN and current checks. (R269) -/
  | v2v (m : Master)
  /-- CMD CLEAR takes the charge manager from FAULT to IDLE once the cause has gone. (R248) -/
  | clear (m : Master)
  /-- CMD RESTART takes the charge manager from DONE to DETECT and resets both timers. (R248) -/
  | restart (m : Master)
  /-- A write of GAUGE CTRL.ENABLE enters RUN or WAIT_RESTORE after its checks, or returns the gauge to DISABLED. (R283)
  -/
  | gaugeEnable (m : Master) (on : Bool)
  /-- Each 1 ms the gauge counts charge, forms I_NOW and V_NOW and applies any accepted restore. (R284) -/
  | gaugeTick (store : Flaw)
  /-- A write of REC_ACK with the pending SEQ acknowledges the record and commits its capacity. (R301) -/
  | recAck (m : Master) (seq : Word)
  /-- Command RESTORE checks the mailbox record and loads it at the next tick boundary. (R302) -/
  | gaugeRestore (m : Master)
  /-- Command INIT discards the charge counted so far and enters INIT_WAIT. (R304) -/
  | init (m : Master)
  /-- Command DISCARD clears the kept state and enters WAIT_RESTORE. (R306) -/
  | discard (m : Master)
  /-- Command PUBLISH is a trigger for forming a record. (R300) -/
  | publish (m : Master)
  /-- Command UNFREEZE returns the gauge to its earlier state and sets COULOMB_DRIFT. (R281) -/
  | unfreeze (m : Master)
  /-- Each 1 ms the backup charger updates its state and timers. (R315) -/
  | chargerTick (vbak : BitVec 16) (ibak : BitVec 16)
  /-- Once a second the TBAK NTC is measured and the zone is updated after three equal readings. (R317) -/
  | tbakMeasurement (uv : BitVec 24)
  /-- BAK_CMD.RESTART resets the timers and leaves TIMED_OUT. (R318) -/
  | bakRestart (m : Master)
  /-- NCYC consecutive cycle-limited periods stop the buck for OFF ms, or latch it after RETRY_MAX. (R327) `run` is the number of these periods. -/
  | buckHiccup (k : Fin 4) (run : BitVec 8)
  /-- The off-time expires and the buck restarts with a soft start. (R327) -/
  | buckHiccupRestart (k : Fin 4)
  /-- 10 ms without a cycle-limited period sets the buck's retry count to 0. (R327) -/
  | buckCleanRun (k : Fin 4)
  /-- A write of UNLATCH clears a buck latch while its domain is disabled. (R327) -/
  | supplyUnlatch (m : Master) (mask : BitVec 4)
  /-- A low peak current for 64 periods puts the buck into burst. (R326) -/
  | buckBurstEntry (k : Fin 4)
  /-- The output falls 1 % below target, so the buck switches 4 periods. (R326) -/
  | buckBurstWake (k : Fin 4) (high : Bool)
  /-- The sync window condition fails while the PLL runs, so the buck runs from its own oscillator and REG_SYNC is
  raised. (R324) -/
  | regSyncLoss (k : Fin 4)
  /-- An LDO held at its limit for 1 ms raises REG_ILIM. (R322) -/
  | ldoIlim (k : Fin 5)
  /-- RC100 or ISLRC leaves its criterion, so CLK_RC or CLK_ISLAND is raised. (R331) -/
  | clockMonitorAlarm (isl : Bool) (good : Bool)
  /-- A sequencer END step ends the program, stalling in a power-down run, and may release the service pair. (R352) -/
  | stepEnd (bootsel : Fin 4) (diff : List (Nat × Word))
  /-- The stretch expires and the RSTOUT output is released. (R360) -/
  | rstoutRelease (k : Fin 4)
  /-- CONFIRM + 1 in-window results in RAMP make the domain ON. (R345) -/
  | domainOn (n : Fin 16)
  /-- CONFIRM + 1 results below UV raise DOM_UV, with a cut where configured. (R346) -/
  | railUv (n : Fin 16)
  /-- CONFIRM + 1 results above OV raise DOM_OV, with a cut where configured. (R346) -/
  | railOv (n : Fin 16)
  /-- A domain not OFF within OFF_TIME raises DOM_OFF_TIMEOUT, and the stalled step proceeds. (R354) -/
  | domOffTimeout (n : Fin 16)
  /-- SEQ CMD RUN_AUX starts program AUX[k]. (R350) -/
  | runAux (m : Master) (k : Fin 8)
  /-- SEQ CMD GO_SET sets a GO flag. (R353) -/
  | goSet (m : Master) (k : Fin 8)
  /-- SEQ CMD STOP_AUX ends the AUX program at the next step boundary. (R365) -/
  | stopAux (m : Master)
  /-- A write to a CELLAR or RTC register lands in the cellar within 3 cellar ticks. (R369) -/
  | cellarWriteSync (rtc : Bool) (ticks : BitVec 48)
  /-- A read of RTC.SEC latches the reader's calendar shadow. (R373) -/
  | secRead (m : Master) (sub : Fin 1024)
  /-- CMD.COMMIT sets COMMIT_PEND. (R374) -/
  | commit (m : Master)
  /-- A write of TRIM sets the correction and clears the accumulator. (R378) -/
  | trimWrite (m : Master) (w : Word)
  /-- CMD.MEAS_START starts rate measurements against the selected reference. (R379) -/
  | measStart (m : Master)
  /-- CMD.MEAS_STOP ends the measurement with END 0x6. (R380) -/
  | measStop (m : Master)
  /-- CMD.NREF_CAPTURE latches the tick count with the host reference time. (R379) -/
  | nrefCapture (m : Master) (ticks : BitVec 48)
  /-- A measurement interval ends with an END code, and AUTO may write TRIM. (R380) -/
  | measIntervalEnd (ticks : BitVec 48)
  /-- A WAKE input meets its edge or level condition for DEB, which is a wake event. (R384) It has stood at `high` for `held`/1,024 s. -/
  | wakeInput (i : Fin 4) (high : Bool) (held : BitVec 8)
  /-- The cellar's pilot reading changes between A and not-A, which may be a wake event. (R385) It has stood at `mv` mV,
  signed, for `held`/1,024 s. -/
  | pilotDetectorChange (mv : BitVec 16) (held : BitVec 8)
  /-- PWRON_CTRL.ASSERT asserts PWRON. (R388) -/
  | pwronAssert (m : Master)
  /-- PWRON_CTRL.RELEASE releases PWRON in LEVEL mode. (R388) -/
  | pwronRelease (m : Master)
  /-- A source becomes active or repeats, so the reaction of its severity starts. (R399) -/
  | faultEvent (src : Fin 512) (how : Happening) (detail : BitVec 16)
  /-- A write of HIST_RD advances the consumer index, or is refused. (R409) -/
  | histRdWrite (m : Master) (w : Word)
  /-- A write of SEV fields is range-checked against MINSEV and copied to Scaolo. (R398) -/
  | sevWrite (m : Master) (i : Fin 48) (w : Word)
  /-- FAULT CMD CLR_FF clears FF_VALID. (R410) -/
  | clrFf (m : Master)
  /-- FAULT CMD CLR_RECOV clears RECOV_LATCHED and COUNT. (R413) -/
  | clrRecov (m : Master)
  /-- FAULT CMD CLR_LOST clears STATUS.LOST. (R409) -/
  | clrLost (m : Master)
  /-- FAULT CMD INJECT raises a source as one event, except in RUN. (R427) -/
  | inject (m : Master) (src : Fin 512)
  /-- 1,800 island clocks after a SAFE event Scaolo checks the reaction, and makes the backup reaction if the check
  fails. (R416) -/
  | reactionCheck (aliveLow : Bool) (faultnLow : Bool) (dischHigh : Bool)
  /-- Every 10 µs Scaolo compares its severity copy with the collector's, raising ISL_CONFIG on a difference. (R415) -/
  | configCompare (upset : Option (Fin 48))
  /-- The two copies of the island logic differ, raising ISL_COMPARE. (R417) -/
  | islandCompareMismatch (differ : Bool)
  /-- Every 10 µs the monitor band-gap is compared with the island reference, and three differences raise ISL_REF.
  (R417) -/
  | referenceCompare (diff : BitVec 16)
  /-- The ALIVE readback differs for 10 µs, raising ISL_ALIVE_RB. (R404) It has stood so for `us` µs. -/
  | aliveReadback (differs : Bool) (us : BitVec 8)
  /-- FAULT_N reads high for 10 µs while asserted, raising ISL_FAULTN_RB. (R405) It has stood so for `us` µs. -/
  | faultnReadback (high : Bool) (us : BitVec 8)
  /-- Every INTERVAL Scaolo drives each tile's stop line and checks the acknowledgement. (R418) -/
  | pathtest (n : Fin 24) (ack : Bool)
  /-- The self-tests complete and set DONE and PASS, or raise ISL_SELFTEST. (R419) Bits of `failed` name tests that failed,
  bits of `trims` the converters whose factory trim failed, bit 16 the monitor. -/
  | selftestDone (failed : BitVec 10) (trims : BitVec 17)
  /-- A write of SCAOLO ARM sets ARMED if every check passes, or reports the first failing check. (R423) -/
  | scaoloArm (m : Master)
  /-- An Ammir BOOT_HEADER transfer is checked, then SEGMENTS is entered or a failure leads to HOLDOFF. (R438) -/
  | bootHeader (tag : BitVec 8) (bytes : List Byte)
  /-- An Ammir BOOT_SEGMENT transfer is hashed, then copied to its load ranges or refused. (R437) -/
  | bootSegment (tag : BitVec 8) (k : Word) (len : BitVec 16) (bytes : List Byte)
  /-- An Ammir BOOT_COLOPHON transfer is received, and its checks start. (R438) -/
  | bootColophon (tag : BitVec 8) (bytes : List Byte)
  /-- A CAN or T1S boot fragment is received and reassembled into an Ammir frame. (R529) -/
  | bootFragment (way : Way) (first : Bool) (last : Bool) (count : BitVec 16) (bytes : List Byte)
  /-- SECBOOT CMD ARB_ADVANCE burns the anti-rollback counter up to V. (R441) -/
  | arbAdvance (m : Master) (v : BitVec 8) (burn : Bool)
  /-- SECBOOT CMD REVOKE burns a slot's revocation bit. (R440) -/
  | revoke (m : Master) (slot : BitVec 8) (burn : Bool)
  /-- SECBOOT CMD ATTEST forms the attestation report. (R448) -/
  | attest (m : Master)
  /-- SECBOOT CMD SESS_CLOSE ends the host session. (R444) -/
  | sessClose (m : Master)
  /-- The Ammir SESS_CHALLENGE command issues a session nonce. (R444) -/
  | sessChallenge (tag : BitVec 8) (healthy : Bool)
  /-- The Ammir SESS_RESPONSE command opens a session on a correct MAC, or voids the nonce. (R444) -/
  | sessResponse (tag : BitVec 8) (bytes : List Byte)
  /-- The Ammir SESS_CLOSE command ends the session. (R444) -/
  | hostSessClose (tag : BitVec 8)
  /-- DBG_CMD CHALLENGE issues a debug nonce. (R446) -/
  | challenge (m : Master)
  /-- DBG_CMD SUBMIT checks the token and unlocks debug or raises DBG_TOKEN. (R446) -/
  | submit (m : Master)
  /-- DBG_CMD RELOCK locks debug again. (R447) -/
  | relock (m : Master)
  /-- OTP CMD PROGRAM burns DATA into a word with verify pulses. (R451) -/
  | program (m : Master) (burn : Bool)
  /-- OTP CMD REBURN programs a word with its shadow value. (R452) -/
  | reburn (m : Master) (burn : Bool)
  /-- OTP CMD MARGIN reads a region at margin and reports weak and leaky bits. (R452) -/
  | margin (m : Master)
  /-- OTP CMD RESENSE senses OTP into the shadows again. (R450) -/
  | resense (m : Master)
  /-- An OTP command completes with its result and senses the word again. (R451) -/
  | otpCommandDone (x : OtpFacts)
  /-- A write of SLOCK sets sticky region locks. (R453) -/
  | slockWrite (m : Master) (w : Word)
  /-- A core pair executes an instruction, or takes an exception. (R466) -/
  | coreInstruction (i : Pair) (ff : Flaw) (df : Flaw) (bit : Fin 72)
  /-- Both cores execute WFI, so the pair's clock stops. (R481) -/
  | wfi (i : Pair)
  /-- A request-line edge restarts a stopped pair's clock. (R481) -/
  | wfiWake (i : Pair)
  /-- The lockstep comparator finds a difference, so the pair stops and CORE_LOCK is raised. (R467) -/
  | lockstepMismatch (i : Pair)
  /-- A read of TCM, SRAM or frame memory corrects a single-bit error, or faults on an uncorrectable one. (R473) -/
  | memoryRead (r : Reader) (a : Word) (flaw : Flaw) (bit : Fin 39)
  /-- A byte or halfword store makes a read-modify-write, refused on an uncorrectable error. (R474) -/
  | subwordStore (m : Master) (a : Word) (half : Bool) (v : Word) (flaw : Flaw) (bit : Fin 39)
  /-- Every SCRUB seconds the scrubber reads and corrects all memory, and may raise MEM_CORR. (R475) -/
  | scrubPass (errors : List ScrubError)
  /-- The zero-clearing of a memory after its domain enters ON completes. (R476) -/
  | memoryClearDone (n : Fin 16)
  /-- A write of SEC_CFG by a secure master clears SECURE bits for good, or sets TCM_SEC. (R468) -/
  | secCfgWrite (m : Master) (w : Word)
  /-- PAIR_CTRL HALT stops a pair at the next instruction boundary. (R471) -/
  | pairHalt (m : Master) (i : Pair)
  /-- PAIR_CTRL STEP executes one instruction. (R471) -/
  | pairStep (m : Master) (i : Pair) (ff : Flaw) (df : Flaw) (bit : Fin 72)
  /-- PAIR_CTRL RESUME continues execution. (R471) -/
  | pairResume (m : Master) (i : Pair)
  /-- An access of PAIR_REG_DATA reads or writes a register of a halted pair. (R471) -/
  | pairRegAccess (m : Master) (write : Bool) (w : Word)
  /-- A rising request line sets PENDING, or counts as lost. (R478) -/
  | interruptEdge (i : Fin 2) (src : Fin 256)
  /-- The winning pending source is delivered and pushed on the level stack. (R479) -/
  | interruptDelivery (i : Fin 2)
  /-- A write of EOI completes the source and pops the stack. (R480) -/
  | eoi (m : Master) (i : Fin 2) (src : Fin 256)
  /-- A write of SWI makes an edge on a software source. (R477) -/
  | swi (m : Master) (i : Fin 2) (set : BitVec 16)
  /-- A write of CLR_PEND clears the source's PENDING bit. (R478) -/
  | clrPend (m : Master) (i : Fin 2) (src : Fin 256)
  /-- A write of PRIO sets the priority, and sets PENDING if the line is high. (R482) -/
  | prioWrite (m : Master) (i : Fin 2) (k : Fin 32) (w : Word)
  /-- The TICK period expires and gives an edge on source 0xF0. (R477) -/
  | tick (i : Fin 2)
  /-- A read of MBOX LOCK takes a free mailbox or reports the holder. (R483) -/
  | lockRead (m : Master) (n : Fin 8)
  /-- The holder's write of 0 to LOCK frees the mailbox. (R483) -/
  | lockRelease (m : Master) (n : Fin 8)
  /-- The holder writes message words. (R483) -/
  | msgWrite (m : Master) (n : Fin 8) (k : Fin 16) (w : Word)
  /-- The holder sets doorbell bits, so the mailbox becomes FULL. (R483) -/
  | dbSet (m : Master) (n : Fin 8) (w : Word)
  /-- A receiver's write of DONE clears the doorbell, frees the mailbox and signals EMPTIED. (R483) -/
  | done (m : Master) (n : Fin 8)
  /-- A mailbox LOCKED for TIMEOUT returns to FREE and raises MBOX_LOCK. (R486) -/
  | lockTimeout (n : Fin 8)
  /-- MRAM CMD WRITE copies the buffer to the array, or is refused. (R499) -/
  | mramWrite (m : Master)
  /-- MRAM CMD SR_WRITE writes the next slot of a ring. (R508) -/
  | srWrite (m : Master) (r : Fin 16)
  /-- MRAM CMD SR_READ copies the newest valid slot into the buffer. (R509) -/
  | srRead (m : Master) (r : Fin 16)
  /-- MRAM CMD SR_RESCAN scans a ring again. (R507) -/
  | srRescan (m : Master) (r : Fin 16)
  /-- A write of SR_CFG EN checks the area and starts a scan. (R505) -/
  | srEnable (m : Master) (r : Fin 16) (w : Word)
  /-- A ring scan ends and sets NEWEST, VALID and SR_NSEQ. (R507) -/
  | srScanDone (ue : List (Fin 32768))
  /-- An MRAM command completes with its result, after verify retries. (R500) -/
  | mramCommandDone (x : MramFacts)
  /-- A read-window access corrects or faults, and stalls on the unit in progress. (R496) -/
  | mramWindowRead (r : Reader) (x : BitVec 18) (size : Fin 3) (flaw : Flaw) (bit : Fin 72)
  /-- A whole CAN frame is filtered and written to its receive ring as a TYPE 0x7 record. (R518) -/
  | canFrameReceived (n : Fin 2) (f : CanFrame)
  /-- A whole T1S frame is accepted, written as a TYPE 0x8 record, and a Sync latches CAP_TS. (R522) -/
  | t1sFrameReceived (f : T1sFrame)
  /-- TX_CTRL.REQ copies a record into the transmit buffer and makes it pending, or sets TX_BAD. (R519) -/
  | txRequest (m : Master) (c : Net) (req : BitVec 8)
  /-- TX_CTRL.ABORT withdraws a pending frame that has not started. (R519) -/
  | txAbort (m : Master) (c : Net) (req : BitVec 8) (started : BitVec 8)
  /-- A pending frame is sent, so DONE is set and any SFD timestamp is written. (R519) `age` tells how many clocks ago its
  start-frame delimiter came, `bad` an uncorrectable error in the frame buffer; the stamp is that of a CAN frame sent in
  loopback. -/
  | frameSent (c : Net) (age : BitVec 32) (coll : BitVec 8) (bad : Bool) (folio : Word) (angle : BitVec 16)
  /-- The controller goes bus-off and raises CAN_BUSOFF. (R520) -/
  | busOff (n : Fin 2)
  /-- CAN CMD.RECOVER begins the bus-off recovery. (R520) -/
  | recover (m : Master) (n : Fin 2)
  /-- After 128 sequences of 11 recessive bits the controller rejoins the bus. (R514) -/
  | busOffRecovery (n : Fin 2) (seqs : BitVec 8)
  /-- PTP_CMD.COMMIT makes a gPTP capture for the RTC measurement, or is refused as late. (R523) -/
  | ptpCommit (m : Master)
  /-- CAN RXD low for DOM µs in HIBERNATE is a bus wake event. (R524) -/
  | busWake (n : Fin 2) (us : BitVec 16)
  /-- The Ammir STATUS command returns the boot status and HSTATUS. (R527) -/
  | status (tag : BitVec 8)
  /-- The Ammir READ command reads consecutive words under the access rules. (R526) -/
  | read (tag : BitVec 8) (len : BitVec 16) (a : Word)
  /-- The Ammir WRITE command writes consecutive words under the access rules. (R526) -/
  | write (tag : BitVec 8) (a : Word) (words : List Word)
  /-- A write of CHECK EN is refused if the fields overlap or the observed ring is disabled. (R531) -/
  | checkEnable (m : Master) (n : Fin 4) (on : Bool)
  /-- CHECK CMD.START loads INIT. (R531) -/
  | checkStart (m : Master) (n : Fin 4)
  /-- A write of DIN1, DIN2 or DIN4 feeds bytes into the CRC. (R531) -/
  | dinWrite (m : Master) (n : Fin 4) (size : Fin 3) (w : Word)
  /-- CHECK CMD.FINISH forms the result, compares it and judges the alive counter. (R531) -/
  | finish (m : Master) (n : Fin 4)
  /-- CHECK CMD.RESYNC makes the next check INIT. (R532) -/
  | resync (m : Master) (n : Fin 4)
  /-- An observed matching ring record is checked for CRC and alive counter, or counted as missed. (R531) -/
  | checkRecord (n : Fin 4)
  /-- A write of MXCFG takes effect only for the key holder, or sets NOKEY. (R548) -/
  | mxcfgWrite (m : Master) (k : Fin 27) (w : Word)
  /-- A write of GPIO_OUT or GPIO_OE changes only the bits the writer may change. (R548) -/
  | gpioWrite (m : Master) (oe : Bool) (w : Word)
  /-- AGE_CMD.MEASURE starts a 1 ms ageing measurement. (R587) -/
  | measure (m : Master)
  /-- The measurement ends and writes SHIFT, with AGE_WARN if it is low. (R587) -/
  | ageMeasureDone (ns : Word) (nr : Word)
  /-- The 500 µs soft start of a buck ends and the buck regulates, which clears its REG_STATUS.HICCUP bit after a hiccup
  restart. (R327) -/
  | buckSoftStartEnd (k : Fin 4)
  /-- A bit, stuff, CRC, form or acknowledgement error on the bus changes TEC or REC, counts in ERR_FRAMES and may move
  the controller to error-passive. (R514) -/
  | canErrorFrame (n : Fin 2) (e : CanError)
  /-- A host request frame that fails its CRC, names an unknown command or carries an invalid LEN is answered with
  RESULT 0x01, 0x02 or 0x03, counts in CRC_ERRS and may raise HP_CRC or a boot failure 0x12. (R528) -/
  | requestFrameRefused (cmd : BitVec 8) (tag : BitVec 8) (len : BitVec 16) (crcOk : Bool) (bad : Bool)
  /-- An ideal-diode switch reaches its 3.0 A limit and sets EVENT.PATH_ILIM while it limits. (R312) -/
  | pathCurrentLimit (bak : Bool)
  /-- VSYS falls 20 mV below VBAK, or rises again, so the VBAK switch starts or stops conducting and PATH_STATUS.ON_BAK
  changes. (R312) -/
  | vbakSwitchChange (on : Bool)
  /-- VBAK or VSYS rising above 2.20 V resets the cellar and takes the device from OFF to CELLAR. (R368) -/
  | cellarPowerOn
  /-- VBAK and VSYS both falling below 2.00 V takes the device from CELLAR to OFF. (R18) -/
  | cellarOff
  /-- VSYS has stood above 2.60 V for 1 ms with a wake event or AUTOSTART, so the device goes from CELLAR or HIBERNATE
  to BOOT. (R18) -/
  | vsysQualified
  /-- VSYS below 2.45 V for 10 µs completes the SAFE reaction, ends every sequencer program and takes the device to
  CELLAR. (R19) -/
  | brownOut
  /-- VSYS has not reached 2.60 V within PWRON_WAIT, so PWRON is released, PWRON_FAIL is set and the device stays in
  CELLAR. (R389) -/
  | pwronWaitExpiry
  /-- The phase error has stayed within LOCK_WIN for LOCK_CONFIRM cycles, so PLL_LOCK sets and any TRACKED switch or
  supervision starts. (R56) -/
  | pllLockDeclared
  /-- Amplitude below LEVEL for TIME, or frequency out of range for 2 cycles, drops lock and changes TRACKED to
  HOLDOVER. (R57) -/
  | lossOfGrid
  /-- The phase error exceeds LIMIT on CONFIRM + 1 updates, so lock falls and TRACKED changes to HOLDOVER. (R58) -/
  | phaseJump
  /-- In supervised MASTER the PLL angle departs from the master angle beyond LIMIT, so TB_MASTER_JUMP is raised. (R61)
  -/
  | masterJump
  /-- After 64 consecutive edges within ±156.25 ps, SYNC_LOCK is set. (R68) -/
  | syncLockAcquired
  /-- No SYNCIN edge within 2 CREF periods, so SYNC_LOCK falls and TB_SYNC is raised. (R68) -/
  | syncLoss
  /-- No FMARK start edge within 2 expected folios, so the follower drops FMARK_LOCK and enters HOLDOVER. (R72) -/
  | fmarkTimeout
  /-- The PERIODIC interval expires and triggers a proof. (R74) -/
  | proofPeriodic
  /-- A hold that lasts longer than HOLD_MAX clears every hold bit and counts in EXPIRED. (R76) -/
  | holdExpired
  /-- In each slot the galley fires up to 16 due and deferred actions in order, and defers or drops the rest. (R101) -/
  | galleySlot
  /-- After DISARM or HALT with the enable set, DISCH switches on once every tile is stopped or held. (R188) -/
  | dischDisarmTrigger
  /-- After HOLD ms below THRESH, and at least 200 µs after a SAFE or brown-out trigger, DISCH switches off. (R189) -/
  | dischHoldExpiry
  /-- No result below THRESH within DTIME.TIME, so DSTATE becomes TIMED_OUT. (R189) -/
  | dischTimeout
  /-- A scan that has not completed within its limit raises MON_STALL. (R225) -/
  | monStall
  /-- An open-wire round starts and tests the selected inputs in turn. (R227) -/
  | owRoundStart
  /-- After THR_SETTLE the next result of the input is taken as u or d, and the pull sources are switched. (R228) -/
  | owSettleSample
  /-- A step or total safety timer expires, so TIMER is set and CHG_TIMER is raised. (R268) -/
  | chgTimerExpiry
  /-- A step's exit condition has held for CONFIRM ms, so the next step, TOPOFF or DONE is taken. (R266) -/
  | stepExit
  /-- PRECHARGE has not completed within PRE_CFG.TIME, so the charge manager enters FAULT. (R248) -/
  | prechargeTimeout
  /-- STOP_TIME after the zero reference, GO of both groups is cleared. (R247) -/
  | orderlyEndTimeout
  /-- S2 closed for GRID_WAIT without PRECHARGE raises the NO_GRID suspend cause. (R250) -/
  | gridWaitExpiry
  /-- SUSP_MASK has read 0 for the RESUME delay, so SUSPEND is left for DETECT. (R251) -/
  | resumeDelayExpiry
  /-- The pilot fails to follow S2 within 100 ms, so CHG_S2 is raised. (R253) -/
  | s2Timeout
  /-- A plateau has held in a new window for 3 periods or 3 ms, so the pilot state changes. (R254) -/
  | pilotStateChange
  /-- Every hundredth tick the Kalman filter predicts and updates, or re-anchors at rest, and may form a record and a
  report. (R287) -/
  | filterRun
  /-- REJ_RUN reaches N_REJ, so COULOMB_DRIFT is set and GAUGE_DRIFT is raised. (R288) -/
  | gaugeDrift
  /-- With a record pending and the mailbox lock obtained, the gauge writes the record and rings the doorbell. (R300) -/
  | recordPublish
  /-- In HIBERNATE the sense input has stayed beyond LO or HI for TIME ms, which is a wake event. (R297) AF[`i`] has read `code`, in
  610.35 µV, for `ms` ms. -/
  | iwake (i : Fin 64) (code : BitVec 12) (ms : BitVec 16)
  /-- VIN has met its conditions for DEB ms, so VIN_OK sets, possibly as an on request. (R313) VIN and VBAK in mV have stood so for `ms` ms. -/
  | vinOkSet (vin : BitVec 16) (vbak : BitVec 16) (ms : BitVec 16)
  /-- VIN falls below UV or below VSYS, so VIN_OK clears within 10 µs. (R313) Both in mV. -/
  | vinLost (vin : BitVec 16) (vsys : BitVec 16)
  /-- VIN_OK has stayed 0 for VIN_HOLD with VIN_OFF = 1, so an off request acts by state. (R355) -/
  | offRequest
  /-- The pre-charge or total timer expires, so the charger enters TIMED_OUT and BAK_TIMER is raised. (R318) -/
  | bakTimerExpiry
  /-- The boost current has been held at ILIM for 100 ms, so the boost enters LIMITED. (R320) -/
  | relCurrentLimit
  /-- The boost run time reaches TIME, so the boost enters LIMITED. (R320) -/
  | relTimeLimit
  /-- VBAK below UVLO pauses the boost, and repeated pauses lead to LIMITED. (R320) VBAK in mV. -/
  | relUvPause (vbak : BitVec 16)
  /-- VBAK back at UVLO + 100 mV resumes switching. (R320) VBAK in mV. -/
  | relUvResume (vbak : BitVec 16)
  /-- The COOL time ends, and a pending enable starts the boost. (R319) -/
  | relCoolEnd
  /-- After reset, the system clock changes to the PLL once the PLL locks. (R330) -/
  | sysclkToPll
  /-- XTAL not qualified within 10 ms, so the PLL locks on RC100 / 4 and CLK_XTAL is raised. (R330) -/
  | xtalQualifyTimeout
  /-- Loss of XTAL changes the PLL reference to RC100 / 4 without a gap. (R332) -/
  | xtalLoss
  /-- With AUTO_BACK, after 10 ms of good XTAL the reference returns to XTAL. (R332) -/
  | xtalBack
  /-- Loss of the PLL changes the system clock to RC100 and raises CLK_PLL. (R333) -/
  | pllLoss
  /-- No XTAL32 edge for 4 ms, so the calendar continues on the cellar RC and X32_FAIL is set. (R377) -/
  | x32Loss
  /-- XTAL32 has run 1 s without a missing edge, so ON_RC clears. (R377) -/
  | x32Recovery
  /-- An ENABLE step switches a domain on into RAMP, subject to the parent rule. (R352) -/
  | stepEnable
  /-- A DISABLE step stalls until the previous domain is OFF, then switches its domain to FALLING. (R354) -/
  | stepDisable
  /-- A WAIT step starts a timed wait. (R352) -/
  | stepWait
  /-- The WAIT time elapses and the program continues. (R352) -/
  | waitExpiry
  /-- A WAITV step waits for a domain to be ON. (R352) -/
  | stepWaitv
  /-- The WAITV timeout expires, so the program jumps to TARGET. (R352) -/
  | waitvTimeout
  /-- A CHECK step tests a condition, clearing a GO flag it finds, and jumps or continues. (R353) -/
  | stepCheck
  /-- A JUMP step jumps to TARGET. (R352) -/
  | stepJump
  /-- A STAIR step releases the line until STAIR_NUM reaches NUMBER. (R358) -/
  | stepStair
  /-- The STAIR line has stayed high for 1 µs, so STAIR_NUM advances and the member pulls low 4 µs later. (R358) -/
  | stairRise
  /-- A STAIR step times out, so SEQ_STAIR is raised and the program jumps to TARGET. (R358) -/
  | stairTimeout
  /-- A RESET step asserts an RSTOUT, or starts its stretched release. (R360) -/
  | stepReset
  /-- A MARK step records LAST_MARK and a LOG entry of SEQ_MARK. (R352) -/
  | stepMark
  /-- A step with a reserved bit or unknown OP raises SEQ_STEP and stops the program with PHASE ERROR. (R352) -/
  | stepInvalid
  /-- The hold-off ends, and the device wakes or UP runs from PARKED, or a VIN request is dropped. (R356) -/
  | holdOffEnd
  /-- The calendar advances a second, wraps the epoch if due, and evaluates the alarms. (R381) -/
  | secondRollover
  /-- At the next 1/1,024 s boundary the staged calendar is checked and taken or rejected. (R374) -/
  | commitApply
  /-- In PULSE mode, PWRON is released WIDTH ms after its assertion. (R388) -/
  | pwronPulseEnd
  /-- The collector records one pending event per 10 ns, coalescing repeats, overrunning and copying the first fault.
  (R406) -/
  | historyRecord
  /-- The quiet period elapses, so the device leaves SAFE or sets RECOV_LATCHED. (R413) -/
  | quietPeriodElapsed
  /-- The recovery window ends, so COUNT returns to 0. (R413) -/
  | recovWindowEnd
  /-- Once recording and the due checks are complete, a RESET reaction makes a device reset. (R402) -/
  | deviceResetByReaction
  /-- At the end of UP or WAKE the start-up self-tests start in hardware. (R419) -/
  | selftestRun
  /-- The colophon checks complete, with a pass or a failure code. (R438) -/
  | colophonVerified
  /-- After verification and self-test DONE, the ROM locks, records the image and starts both pairs: BOOT to READY.
  (R443) -/
  | bootRelease
  /-- 1,000 ms without a transfer in SEGMENTS or WAIT_COLOPHON is a failure with code 0x11. (R436) -/
  | bootTransferTimeout
  /-- 100 ms after a failure the ROM returns to WAIT_HEADER. (R439) -/
  | bootHoldoffEnd
  /-- A gap of more than 10 ms discards the partial frame as a CRC failure. (R529) -/
  | fragmentGapTimeout
  /-- SESS_CFG.IDLE ms without a host transfer ends the session. (R444) -/
  | sessionIdleTimeout
  /-- A session nonce expires after 10 s. (R444) -/
  | nonceExpiry
  /-- No PLCA beacon for 8 cycles raises T1S_PLCA. (R535) -/
  | t1sPlca (cycles : BitVec 8)
  /-- HP_CS_N low for 10 µs in HIBERNATE is a host-port wake event. (R524) -/
  | hostPortWake (us : BitVec 8)
  /-- Opcode 0x0B returns the response to the last request. (R525) -/
  | responseRead
  /-- Opcode 0x05 returns the two status words and their CRC. (R525) -/
  | statusWordsRead
  /-- At a 1/1,024 s boundary where the trim accumulator reaches 10^7, the cellar counts the next tick twice or skips it
  and CORRECTIONS counts 1. (R378) -/
  | trimCorrection
  /-- VREL reaches REL_CFG.VREL at the end of its 5 V/ms ramp and the release boost passes from SOFT_START to ON. (R319)
  -/
  | relSoftStartEnd
  deriving DecidableEq, Repr

end Sys2Proof
end

