-- ==== Sys2Proof/Machine/Sparse.lean ====
section
/-!
DEFINITION. Sparse stores: a list of (key, value) pairs in one canonical form, keys strictly rising and no entry equal to
what an unlisted key reads as. The register file, the key rack and the memory are such stores.
-/
namespace Sys2Proof.Machine.Sparse

variable {α : Type}

/-- What key `a` reads as. -/
def get (dflt : Nat → α) : List (Nat × α) → Nat → α
  | [], a => dflt a
  | (k, v) :: r, a => if a = k then v else get dflt r a

/-- The store without an entry for key `a`, which then reads as unlisted. -/
def drop (l : List (Nat × α)) (a : Nat) : List (Nat × α) := l.filter (fun e => e.1 != a)

/-- An entry put before the first one with a higher key. -/
def insert : List (Nat × α) → Nat → α → List (Nat × α)
  | [], a, v => [(a, v)]
  | (k, w) :: r, a, v => if a < k then (a, v) :: (k, w) :: r else (k, w) :: insert r a v

/-- The store after key `a` has been given value `v`. Writing what an unlisted key reads as removes the entry. -/
def put [DecidableEq α] (dflt : Nat → α) (l : List (Nat × α)) (a : Nat) (v : α) : List (Nat × α) :=
  if v = dflt a then drop l a else insert (drop l a) a v

/-- The list is canonical and every key of it is at least `lo`. -/
def wfFrom [DecidableEq α] (dflt : Nat → α) : Nat → List (Nat × α) → Bool
  | _, [] => true
  | lo, (k, v) :: r => decide (lo ≤ k) && decide (v ≠ dflt k) && wfFrom dflt (k + 1) r

/-- The list is in canonical form. -/
def wf [DecidableEq α] (dflt : Nat → α) (l : List (Nat × α)) : Bool := wfFrom dflt 0 l

/-- Only the entries whose key passes the test stay; the others read as unlisted. -/
def keep (p : Nat → Bool) (l : List (Nat × α)) : List (Nat × α) := l.filter (fun e => p e.1)

end Sys2Proof.Machine.Sparse
end

