-- ==== Sys2Proof/Machine/Mem.lean ====
section
/-!
DEFINITION. Memory (R6, R24): bytes by address, in the canonical form of Machine/Sparse.lean. Words lie low byte first (R6).
An address that nothing has written reads 0: the memories are cleared when their domain enters ON (R476), and for the others
the spec gives no contents (log entry 2).
-/
namespace Sys2Proof.Machine

/-- Memory contents. -/
abbrev Mem := List Host.Cell

/-- What an unlisted address reads as. -/
def memDefault : Nat → Byte := fun _ => 0

namespace Mem

/-- The byte at an address. -/
def byte (m : Mem) (a : Nat) : Byte := Sparse.get memDefault m a

/-- The memory after one byte has been written. -/
def setByte (m : Mem) (a : Nat) (b : Byte) : Mem := Sparse.put memDefault m a b

/-- Whether the list is in canonical form. -/
def wf (m : Mem) : Bool := Sparse.wf memDefault m

/-- `n` bytes from address `a`, as a number, low byte first. -/
def read (m : Mem) (a : Nat) : Nat → Nat
  | 0 => 0
  | n + 1 => (m.byte a).toNat + 256 * read m (a + 1) n

/-- `n` bytes of the number `v` written from address `a`, low byte first. -/
def write (m : Mem) (a v : Nat) : Nat → Mem
  | 0 => m
  | n + 1 => write (m.setByte a (BitVec.ofNat 8 v)) (a + 1) (v / 256) n

/-- The word at an address. -/
def word (m : Mem) (a : Nat) : Word := BitVec.ofNat 32 (m.read a 4)

/-- The memory after a word has been written. -/
def setWord (m : Mem) (a : Nat) (w : Word) : Mem := m.write a w.toNat 4

/-- The words of a list written from address `a`. -/
def setWords (m : Mem) (a : Nat) : List Word → Mem
  | [] => m
  | w :: l => setWords (m.setWord a w) (a + 4) l

/-- The bytes of a list from address `a` written. -/
def writeBytes (m : Mem) (a : Nat) : List Byte → Mem
  | [] => m
  | b :: l => writeBytes (m.setByte a b) (a + 1) l

/-- `n` bytes from address `a`, lowest address first. -/
def bytes (m : Mem) (a n : Nat) : List Byte := (List.range n).map (fun i => m.byte (a + i))

end Mem
end Sys2Proof.Machine
end

