-- ==== Sys2Proof/Config.lean ====
section
/-!
DEFINITION. What the spec leaves open. Every constant here is opaque: it has no body, so no proof can see what it is and a
statement that mentions one holds whatever it is. Each is named in the assumption log.
-/
namespace Sys2Proof.Config

/-- A value the spec leaves open, one for each number of the counter `State.dev.fresh` (log entry 3). -/
opaque freeWord : Nat → Word

/-- The `n`-th block of 32 bytes that the random source delivers (R444, R446; log entry 4). -/
opaque nonce : Nat → BitVec 256

/-- `e^x` as the gauge forms it, on binary32 bit patterns (R286; log entry 5). -/
opaque exp32 : Word → Word

/-- The natural logarithm as the gauge forms it, on binary32 bit patterns (R293; log entry 5). -/
opaque ln32 : Word → Word

/-- What the factory has burned into OTP word `w` of region 0: the device identity and the factory trim (R449; log entry
12). -/
opaque factoryWord : Nat → Word

end Sys2Proof.Config
end

