-- ==== Sys2Proof/Machine/RegTable.lean ====
section
/-!
DEFINITION. The register tables of every page as data: what each register resets to, which of its bits a master writes
and under what access type (R11), which fields have a stated range (R54), whether it is a proof-capable counter (R35),
whether it is banked per master (R47, R105, R512), and what kind of reset it survives (R31, R314, R349, R411, R282).
-/
namespace Sys2Proof.Machine

/-- A range that a field table states (R54). -/
inductive RangeSpec
  | u (lo hi : Nat)          -- unsigned, both ends included
  | s (lo hi : Int)          -- signed, both ends included
  | oneOf (l : List Nat)     -- the listed codes only
  | above (lo w : Nat)       -- greater than the field at bit `lo`, width `w`, of the same word
  | aboveSigned (lo w : Nat) -- the same, both read as signed numbers
  | deadTime                 -- R136: 0–1,024 edge steps, or 0–4,000 clocks with COARSE, bit 15, set
  deriving DecidableEq, Repr

/-- A field with a range: lowest bit, width, range. -/
structure FRange where
  lo : Nat
  w : Nat
  spec : RangeSpec
  deriving DecidableEq, Repr

/-- Which resets a register survives: none, device reset and HIBERNATE (kept in the island), or all but the cellar
power-on reset. -/
inductive Keep
  | dev | island | cellar
  deriving DecidableEq, Repr

/-- One register, or one array of `n` registers 4 bytes apart. The masks say which bits each access type of R11 governs;
a bit in none of them is not changed by a plain write. -/
structure RegDesc where
  ofs : Nat
  n : Nat
  reset : Nat
  rw : Nat
  rwl : Nat
  rwi : Nat
  w1c : Nat
  keep : Keep
  proof : Bool
  banked : Bool
  ranges : List FRange
  deriving DecidableEq, Repr

/-- The kinds of page, in page order (R26). -/
inductive PageKind
  | sys | keyrack | pinmux | clk | supply | path | seq | cellar | rtc | fault | scaolo | otp | rompatch | secboot | debug | mram | dom | timebase | proof | galley | chg | gauge | disch | monadc | bin | openwire | cal | intc | hostport | t1s | can | conv | check | tile | adc | mbox | ring
  deriving DecidableEq, Repr

/-- A page of the directory (R26): its kind and its instance number. -/
structure Page where
  kind : PageKind
  inst : Nat
  deriving DecidableEq, Repr

namespace RegTable

/-- SYS page registers. -/
def sys : List RegDesc :=
  [ ⟨0x180, 1, 0, 0, 0, 0, 0, .dev, false, false, []⟩,
    ⟨0x184, 1, 0, 0, 0, 0, 0, .dev, false, false, []⟩,
    ⟨0x188, 1, 0, 0x33FFF, 0, 0, 0, .dev, false, false, []⟩,
    ⟨0x18C, 1, 0, 0xFFFFFFFF, 0, 0, 0, .dev, false, false, []⟩,
    ⟨0x190, 1, 7, 3, 4, 0, 0, .dev, false, false, []⟩,
    ⟨0x194, 1, 0, 0, 0xFFFFFFFF, 0, 0, .dev, false, false, []⟩,
    ⟨0x198, 1, 0, 0, 0xFFFFFFFF, 0, 0, .dev, false, false, []⟩,
    ⟨0x19C, 1, 0x10003C, 0xFFFFFFFF, 0, 0, 0, .dev, false, false, [⟨16, 16, .u 1 65535⟩]⟩,
    ⟨0x1A0, 1, 0, 0, 0, 0, 0, .dev, false, false, []⟩,
    ⟨0x1A4, 1, 0, 0, 0, 0, 0, .dev, false, false, []⟩,
    ⟨0x200, 1, 0, 0, 0, 0, 0, .dev, true, false, []⟩,
    ⟨0x204, 1, 0, 0, 0, 0, 0, .dev, true, false, []⟩,
    ⟨0x208, 1, 0, 0, 0, 0, 0, .dev, true, false, []⟩,
    ⟨0x20C, 1, 0, 0, 0, 0, 0, .dev, true, false, []⟩,
    ⟨0x210, 1, 0, 0, 0, 0, 0, .dev, true, false, []⟩,
    ⟨0x214, 1, 0, 0, 0, 0, 0, .dev, true, false, []⟩,
    ⟨0x108, 1, 0x101, 0, 0, 0, 0, .dev, false, false, []⟩,
    ⟨0x10C, 1, 0, 0, 0, 0, 0, .dev, false, false, []⟩,
    ⟨0x110, 1, 0, 0, 0, 0, 0, .dev, false, false, []⟩,
    ⟨0x114, 1, 0xFED4, 0xFFFF, 0, 0, 0, .dev, false, false, [⟨0, 16, .s (-10000) 0⟩]⟩,
    ⟨0x218, 1, 0, 0, 0, 0, 0, .dev, true, false, []⟩,
    ⟨0x21C, 1, 0, 0, 0, 0, 0, .dev, true, false, []⟩,
    ⟨0x100, 1, 0x112, 0, 0, 0, 0, .cellar, false, false, []⟩,
    ⟨0x104, 1, 0, 0, 0, 0, 0, .dev, false, false, []⟩ ]

/-- KEYRACK page registers. -/
def keyrack : List RegDesc :=
  [ ⟨0x100, 1, 0, 0x3FF, 0, 0, 0, .dev, false, false, []⟩,
    ⟨0x104, 1, 0, 0, 0, 0, 0, .dev, false, false, []⟩,
    ⟨0x108, 1, 0, 0xFFFFFFFF, 0, 0, 0, .dev, false, true, []⟩,
    ⟨0x10C, 1, 0, 0, 0, 0, 0, .dev, false, false, []⟩,
    ⟨0x110, 1, 0, 0, 0, 0, 0, .dev, false, true, []⟩,
    ⟨0x114, 1, 0, 0, 0, 0, 0, .dev, true, false, []⟩,
    ⟨0x118, 1, 0, 0, 0, 0, 0, .dev, false, false, []⟩ ]

/-- PINMUX page registers. -/
def pinmux : List RegDesc :=
  [ ⟨0x100, 5, 8, 0xF3F, 0x3000, 0, 0, .dev, false, false, [⟨2, 2, .u 0 2⟩]⟩,
    ⟨0x114, 4, 4, 0xF3F, 0x3000, 0, 0, .dev, false, false, [⟨2, 2, .u 0 2⟩]⟩,
    ⟨0x124, 2, 0, 0xF3F, 0x3000, 0, 0, .dev, false, false, [⟨2, 2, .u 0 2⟩]⟩,
    ⟨0x12C, 16, 8, 0xF3F, 0x3000, 0, 0, .dev, false, false, [⟨2, 2, .u 0 2⟩]⟩,
    ⟨0x180, 1, 0, 0x7FFFFFF, 0, 0, 0, .dev, false, false, []⟩,
    ⟨0x184, 1, 0, 0x7FFFFFF, 0, 0, 0, .dev, false, false, []⟩,
    ⟨0x188, 1, 0, 0, 0, 0, 0, .dev, false, false, []⟩ ]

/-- CLK page registers. -/
def clk : List RegDesc :=
  [ ⟨0x100, 1, 2, 0, 2, 0, 0, .dev, false, false, []⟩,
    ⟨0x104, 1, 0, 0, 0, 0, 0, .dev, false, false, []⟩,
    ⟨0x200, 1, 0, 0, 0, 0, 0, .dev, true, false, []⟩,
    ⟨0x204, 1, 0, 0, 0, 0, 0, .dev, true, false, []⟩,
    ⟨0x208, 1, 0, 0, 0, 0, 0, .dev, true, false, []⟩ ]

/-- SUPPLY page registers. -/
def supply : List RegDesc :=
  [ ⟨0x100, 1, 0x1400, 0, 0x1FF00, 0, 0, .dev, false, false, [⟨8, 9, .u 1 400⟩]⟩,
    ⟨0x110, 1, 0x500, 0, 0x7FF, 0x1FF0000, 0, .dev, false, false, [⟨16, 9, .u 0 300⟩]⟩,
    ⟨0x114, 1, 0x540, 0, 0x7FF, 0x1FF0000, 0, .dev, false, false, [⟨16, 9, .u 0 300⟩]⟩,
    ⟨0x118, 1, 0x580, 0, 0x7FF, 0x1FF0000, 0, .dev, false, false, [⟨16, 9, .u 0 300⟩]⟩,
    ⟨0x11C, 1, 0x3C05C0, 0, 0x7FF, 0x1FF0000, 0, .dev, false, false, [⟨16, 9, .u 0 300⟩]⟩,
    ⟨0x120, 4, 0x3080020, 0, 0xF3F00FF, 0, 0, .dev, false, false, [⟨0, 8, .u 1 255⟩, ⟨16, 6, .u 1 64⟩]⟩,
    ⟨0x130, 1, 0, 0, 0, 0x3F, 0, .dev, false, false, [⟨0, 6, .u 0 42⟩]⟩,
    ⟨0x140, 1, 0, 0, 0, 0, 0, .dev, false, false, []⟩,
    ⟨0x144, 1, 0, 0, 0, 0, 0, .dev, false, false, []⟩,
    ⟨0x200, 4, 0, 0, 0, 0, 0, .dev, true, false, []⟩,
    ⟨0x210, 1, 0, 0, 0, 0, 0, .dev, true, false, []⟩,
    ⟨0x214, 1, 0, 0, 0, 0, 0, .dev, true, false, []⟩,
    ⟨0x218, 1, 0, 0, 0, 0, 0, .dev, true, false, []⟩,
    ⟨0x21C, 1, 0, 0, 0, 0, 0, .dev, true, false, []⟩ ]

/-- PATH page registers. -/
def path : List RegDesc :=
  [ ⟨0x100, 1, 0xA0008, 0, 0xFF003F, 0, 0, .cellar, false, false, [⟨0, 6, .u 0 38⟩, ⟨16, 8, .u 1 255⟩]⟩,
    ⟨0x104, 1, 0xA6E2808, 0, 0xFFFFFF0F, 0, 0, .cellar, false, false, [⟨0, 2, .u 0 2⟩, ⟨8, 8, .u 0 70⟩, ⟨16, 8, .u 0 135⟩, ⟨24, 8, .u 5 50⟩]⟩,
    ⟨0x108, 1, 0xA010A, 0, 0xFF3F3F, 0, 0, .cellar, false, false, [⟨0, 6, .u 1 50⟩, ⟨8, 6, .u 1 50⟩, ⟨16, 8, .u 1 255⟩]⟩,
    ⟨0x10C, 1, 0x303C1E, 0, 0xFFFFFF, 0, 0, .cellar, false, false, [⟨0, 8, .u 1 255⟩, ⟨8, 8, .u 1 255⟩, ⟨16, 8, .u 6 90⟩]⟩,
    ⟨0x110, 1, 0x3B54A6BE, 0, 0xFFFFFFFF, 0, 0, .cellar, false, false, []⟩,
    ⟨0x114, 1, 0, 0, 0, 0, 0, .dev, false, false, []⟩,
    ⟨0x118, 1, 0xA320F78, 0, 0x3F3F0FFF, 0, 0, .dev, false, false, [⟨0, 8, .u 90 150⟩, ⟨8, 4, .u 1 15⟩, ⟨16, 6, .u 1 50⟩, ⟨24, 6, .u 1 60⟩]⟩,
    ⟨0x11C, 1, 0x14, 0, 0x7F, 0, 0, .dev, false, false, [⟨0, 7, .u 10 80⟩]⟩,
    ⟨0x120, 1, 0xE0, 0, 0, 0, 0, .cellar, false, false, []⟩,
    ⟨0x124, 1, 0, 0, 0, 0, 0, .dev, false, false, []⟩,
    ⟨0x128, 1, 0, 0, 0, 0, 0, .cellar, false, false, []⟩,
    ⟨0x200, 1, 0, 0, 0, 0, 0, .dev, true, false, []⟩,
    ⟨0x204, 1, 0, 0, 0, 0, 0, .dev, true, false, []⟩,
    ⟨0x208, 1, 0, 0, 0, 0, 0, .dev, true, false, []⟩,
    ⟨0x20C, 1, 0, 0, 0, 0, 0, .dev, true, false, []⟩,
    ⟨0x210, 1, 0, 0, 0, 0, 0, .dev, true, false, []⟩,
    ⟨0x214, 1, 0, 0, 0, 0, 0, .dev, true, false, []⟩ ]

/-- SEQ page registers. -/
def seq : List RegDesc :=
  [ ⟨0x100, 1, 0xA0000, 0, 0x3FFFF01, 0, 0, .island, false, false, [⟨16, 10, .u 10 1000⟩]⟩,
    ⟨0x104, 1, 0x48383000, 0, 0xFFFF0000, 0, 0, .island, false, false, []⟩,
    ⟨0x108, 1, 0xFFFFFFFF, 0, 0xFFFFFFFF, 0, 0, .island, false, false, []⟩,
    ⟨0x10C, 1, 0, 0, 0, 0, 0, .island, false, false, []⟩,
    ⟨0x110, 1, 0, 0, 0, 0, 0, .island, false, false, []⟩,
    ⟨0x114, 1, 0, 0, 0, 0, 0, .island, false, false, []⟩,
    ⟨0x118, 1, 0, 0, 0, 0, 0, .island, false, false, []⟩,
    ⟨0x11C, 1, 0, 0, 0, 0, 0, .island, false, false, []⟩,
    ⟨0x120, 1, 0, 0, 0, 0, 0, .island, false, false, []⟩,
    ⟨0x124, 1, 0xF, 0, 0, 0, 0, .island, false, false, []⟩,
    ⟨0x130, 4, 1, 0, 0x3FF, 0, 0, .island, false, false, [⟨0, 10, .u 1 1000⟩]⟩,
    ⟨0x200, 1, 0, 0, 0, 0, 0, .island, true, false, []⟩,
    ⟨0x204, 1, 0, 0, 0, 0, 0, .island, true, false, []⟩,
    ⟨0x208, 1, 0, 0, 0, 0, 0, .island, true, false, []⟩,
    ⟨0x20C, 1, 0, 0, 0, 0, 0, .island, true, false, []⟩,
    ⟨0x210, 1, 0, 0, 0, 0, 0, .island, true, false, []⟩,
    ⟨0x214, 1, 0, 0, 0, 0, 0, .island, true, false, []⟩,
    ⟨0x400, 128, 0, 0, 0, 0, 0, .island, false, false, []⟩,
    ⟨0x600, 128, 0, 0, 0xFFFFFFFF, 0, 0, .island, false, false, []⟩ ]

/-- CELLAR page registers. -/
def cellar : List RegDesc :=
  [ ⟨0x100, 1, 1, 0, 3, 0, 0, .cellar, false, false, []⟩,
    ⟨0x104, 1, 0x1F4, 0x7FF, 0, 0, 0, .cellar, false, false, [⟨0, 11, .u 10 2000⟩]⟩,
    ⟨0x108, 1, 0x64, 0x7FF, 0, 0, 0, .cellar, false, false, [⟨0, 11, .u 1 2000⟩]⟩,
    ⟨0x10C, 1, 0, 0, 0, 0, 0, .cellar, false, false, []⟩,
    ⟨0x110, 4, 0xA00, 0xFF3F, 0, 0, 0, .cellar, false, false, [⟨1, 3, .u 0 4⟩, ⟨4, 2, .u 0 2⟩]⟩,
    ⟨0x120, 1, 0x301, 0xFF07, 0, 0, 0, .cellar, false, false, [⟨1, 2, .u 0 2⟩, ⟨8, 8, .u 1 255⟩]⟩,
    ⟨0x124, 1, 0, 0, 0, 0, 0, .cellar, false, false, []⟩,
    ⟨0x128, 1, 0, 0, 0, 0, 0xFFF, .cellar, false, false, []⟩,
    ⟨0x12C, 1, 0, 0, 0, 0, 0, .cellar, false, false, []⟩,
    ⟨0x140, 16, 0, 0xFFFFFFFF, 0, 0, 0, .cellar, false, false, []⟩,
    ⟨0x200, 1, 0, 0, 0, 0, 0, .cellar, true, false, []⟩,
    ⟨0x204, 1, 0, 0, 0, 0, 0, .cellar, true, false, []⟩,
    ⟨0x208, 1, 0, 0, 0, 0, 0, .cellar, true, false, []⟩ ]

/-- RTC page registers. -/
def rtc : List RegDesc :=
  [ ⟨0x100, 1, 0, 0, 0, 0, 0, .cellar, false, false, []⟩,
    ⟨0x104, 1, 0, 0, 0, 0, 0, .cellar, false, false, []⟩,
    ⟨0x108, 1, 0x50000101, 0, 0, 0, 0, .cellar, false, false, []⟩,
    ⟨0x10C, 1, 0, 0, 0, 0, 0, .cellar, false, false, []⟩,
    ⟨0x110, 1, 0, 0, 0, 0, 0, .cellar, false, false, []⟩,
    ⟨0x114, 1, 0, 0x3F, 0, 0, 0, .cellar, false, false, []⟩,
    ⟨0x118, 1, 0, 0x1F3F, 0, 0, 0, .cellar, false, false, []⟩,
    ⟨0x11C, 1, 0x101, 0x1FF0F1F, 0, 0, 0, .cellar, false, false, []⟩,
    ⟨0x120, 1, 0, 0, 0, 0, 0, .cellar, false, false, []⟩,
    ⟨0x124, 1, 0, 0, 0, 0, 0, .cellar, false, false, []⟩,
    ⟨0x128, 1, 0, 0, 0, 0, 0x1F, .cellar, false, false, []⟩,
    ⟨0x140, 1, 0, 0x7037F, 0, 0, 0, .cellar, false, false, []⟩,
    ⟨0x144, 1, 0, 0x71F3F3F, 0, 0, 0, .cellar, false, false, [⟨0, 6, .u 0 59⟩, ⟨8, 6, .u 0 59⟩, ⟨16, 5, .u 0 23⟩, ⟨24, 3, .u 0 6⟩]⟩,
    ⟨0x148, 1, 0x101, 0xF1F, 0, 0, 0, .cellar, false, false, [⟨0, 5, .u 1 31⟩, ⟨8, 4, .u 1 12⟩]⟩,
    ⟨0x14C, 1, 0, 0xFFFFFFFF, 0, 0, 0, .cellar, false, false, []⟩,
    ⟨0x160, 1, 0, 0xFFFF, 0, 0, 0, .cellar, false, false, [⟨0, 16, .s (-2000) 2000⟩]⟩,
    ⟨0x164, 1, 0x3C1200, 0xFFF1F0F, 0, 0, 0, .cellar, false, false, [⟨0, 2, .u 0 2⟩, ⟨8, 5, .u 10 24⟩, ⟨16, 12, .u 1 4095⟩]⟩,
    ⟨0x168, 1, 0, 0, 0, 0, 0, .cellar, false, false, []⟩,
    ⟨0x16C, 1, 0, 0xFFFFFFFF, 0, 0, 0, .cellar, false, false, []⟩,
    ⟨0x170, 1, 0, 0x3FFFFFFF, 0, 0, 0, .cellar, false, false, [⟨0, 30, .u 0 999999999⟩]⟩,
    ⟨0x200, 1, 0, 0, 0, 0, 0, .cellar, true, false, []⟩,
    ⟨0x204, 1, 0, 0, 0, 0, 0, .cellar, true, false, []⟩,
    ⟨0x208, 1, 0, 0, 0, 0, 0, .cellar, true, false, []⟩,
    ⟨0x20C, 1, 0, 0, 0, 0, 0, .cellar, true, false, []⟩,
    ⟨0x210, 1, 0, 0, 0, 0, 0, .cellar, true, false, []⟩ ]

/-- FAULT page registers. -/
def fault : List RegDesc :=
  [ ⟨0x100, 1, 0x30064, 0x7FFFF, 0, 0, 0, .dev, false, false, [⟨0, 16, .u 1 60000⟩, ⟨16, 3, .u 0 5⟩]⟩,
    ⟨0x104, 1, 0x2580003, 0, 0xFFFF00FF, 0, 0, .dev, false, false, [⟨16, 16, .u 1 65535⟩]⟩,
    ⟨0x108, 1, 0, 0, 0, 0, 0, .island, false, false, []⟩,
    ⟨0x10C, 1, 0xFF, 0, 0xFF, 0, 0, .dev, false, false, []⟩,
    ⟨0x110, 1, 0, 0, 0, 0, 0, .dev, false, false, []⟩,
    ⟨0x114, 1, 0, 0, 0, 0, 0, .dev, false, false, []⟩,
    ⟨0x118, 1, 0, 0, 0, 0, 0, .island, false, false, []⟩,
    ⟨0x11C, 1, 0, 0xFFFFFFFF, 0, 0, 0, .island, false, false, []⟩,
    ⟨0x140, 12, 0, 0, 0, 0, 0, .dev, false, false, []⟩,
    ⟨0x200, 48, 0, 0, 0x77777777, 0, 0, .dev, false, false, []⟩,
    ⟨0x300, 48, 0, 0, 0, 0, 0, .dev, false, false, []⟩,
    ⟨0x400, 128, 0, 0, 0, 0, 0, .island, false, false, []⟩,
    ⟨0x600, 4, 0, 0, 0, 0, 0, .island, false, false, []⟩,
    ⟨0x700, 1, 0, 0, 0, 0, 0, .island, true, false, []⟩,
    ⟨0x704, 1, 0, 0, 0, 0, 0, .island, true, false, []⟩,
    ⟨0x708, 1, 0, 0, 0, 0, 0, .island, true, false, []⟩,
    ⟨0x70C, 1, 0, 0, 0, 0, 0, .island, true, false, []⟩,
    ⟨0x710, 1, 0, 0, 0, 0, 0, .island, true, false, []⟩,
    ⟨0x714, 1, 0, 0, 0, 0, 0, .island, true, false, []⟩,
    ⟨0x718, 1, 0, 0, 0, 0, 0, .island, true, false, []⟩ ]

/-- SCAOLO page registers. -/
def scaolo : List RegDesc :=
  [ ⟨0x100, 1, 0, 0, 0, 0, 0, .dev, false, false, []⟩,
    ⟨0x104, 1, 0, 0, 0, 0, 0, .dev, false, false, []⟩,
    ⟨0x108, 1, 0xA, 0, 0x17F, 0, 0, .dev, false, false, [⟨0, 7, .u 10 100⟩]⟩,
    ⟨0x10C, 1, 0x64, 0, 0x103FF, 0, 0, .dev, false, false, [⟨0, 10, .u 1 1000⟩]⟩,
    ⟨0x110, 1, 0, 0, 0, 0, 0, .dev, false, false, []⟩,
    ⟨0x114, 1, 0, 0, 0, 0, 0, .dev, false, false, []⟩,
    ⟨0x118, 1, 0, 0, 0, 0, 0, .dev, false, false, []⟩,
    ⟨0x140, 12, 0, 0, 0, 0, 0, .dev, false, false, []⟩,
    ⟨0x200, 1, 0, 0, 0, 0, 0, .dev, true, false, []⟩,
    ⟨0x204, 1, 0, 0, 0, 0, 0, .dev, true, false, []⟩ ]

/-- OTP page registers. -/
def otp : List RegDesc :=
  [ ⟨0x100, 1, 0, 0, 0, 0, 0, .dev, false, false, []⟩,
    ⟨0x104, 1, 0, 0x703FF, 0, 0, 0, .dev, false, false, []⟩,
    ⟨0x108, 1, 0, 0xFFFFFFFF, 0, 0, 0, .dev, false, false, []⟩,
    ⟨0x10C, 1, 0, 0, 0, 0, 0, .dev, false, false, []⟩,
    ⟨0x110, 1, 0, 0, 0, 0, 0, .dev, false, false, []⟩,
    ⟨0x114, 1, 0, 0, 0, 0, 0, .dev, false, false, []⟩,
    ⟨0x118, 1, 0, 0, 0, 0, 0, .dev, false, false, []⟩,
    ⟨0x200, 1, 0, 0, 0, 0, 0, .dev, true, false, []⟩,
    ⟨0x204, 1, 0, 0, 0, 0, 0, .dev, true, false, []⟩,
    ⟨0x208, 1, 0, 0, 0, 0, 0, .dev, true, false, []⟩,
    ⟨0x20C, 1, 0, 0, 0, 0, 0, .dev, true, false, []⟩ ]

/-- ROMPATCH page registers. -/
def rompatch : List RegDesc :=
  [ ⟨0x100, 1, 0, 0, 0, 0, 0, .dev, false, false, []⟩,
    ⟨0x104, 1, 0, 0, 0, 0, 0, .dev, false, false, []⟩,
    ⟨0x108, 1, 0, 0, 0, 0, 0, .dev, false, false, []⟩,
    ⟨0x200, 1, 0, 0, 0, 0, 0, .dev, true, false, []⟩ ]

/-- SECBOOT page registers. -/
def secboot : List RegDesc :=
  [ ⟨0x100, 1, 0, 0, 0, 0, 0, .dev, false, false, []⟩,
    ⟨0x104, 1, 0, 0, 0, 0, 0, .dev, false, false, []⟩,
    ⟨0x108, 1, 0, 0, 0, 0, 0, .dev, false, false, []⟩,
    ⟨0x10C, 1, 0, 0, 0, 0, 0, .dev, false, false, []⟩,
    ⟨0x110, 8, 0, 0, 0, 0, 0, .dev, false, false, []⟩,
    ⟨0x130, 1, 0, 0, 0, 0, 0, .dev, false, false, []⟩,
    ⟨0x134, 1, 0, 0, 0, 0, 0, .dev, false, false, []⟩,
    ⟨0x138, 1, 0x3E8, 0, 0x1FFFF, 0, 0, .dev, false, false, [⟨0, 16, .u 1 65535⟩]⟩,
    ⟨0x13C, 1, 0, 0, 0, 0, 0, .dev, false, false, []⟩,
    ⟨0x140, 8, 0, 0, 0, 0, 0, .dev, false, false, []⟩,
    ⟨0x160, 8, 0, 0xFFFFFFFF, 0, 0, 0, .dev, false, false, []⟩,
    ⟨0x180, 28, 0, 0, 0, 0, 0, .dev, false, false, []⟩,
    ⟨0x200, 1, 0, 0, 0, 0, 0, .dev, true, false, []⟩,
    ⟨0x204, 1, 0, 0, 0, 0, 0, .dev, true, false, []⟩,
    ⟨0x208, 1, 0, 0, 0, 0, 0, .dev, true, false, []⟩,
    ⟨0x20C, 1, 0, 0, 0, 0, 0, .dev, true, false, []⟩,
    ⟨0x210, 1, 0, 0, 0, 0, 0, .dev, true, false, []⟩ ]

/-- DEBUG page registers. -/
def debug : List RegDesc :=
  [ ⟨0x100, 1, 0, 0, 0, 0, 0, .dev, false, false, []⟩,
    ⟨0x104, 1, 0, 0, 0, 0, 0, .dev, false, false, []⟩,
    ⟨0x108, 1, 0, 0, 0, 0, 0, .dev, false, false, []⟩,
    ⟨0x110, 8, 0, 0, 0, 0, 0, .dev, false, false, []⟩,
    ⟨0x130, 1, 0, 0, 0, 0, 0, .dev, false, false, []⟩,
    ⟨0x140, 44, 0, 0, 0, 0, 0, .dev, false, false, []⟩,
    ⟨0x200, 1, 0, 0, 0, 0, 0, .dev, true, false, []⟩,
    ⟨0x204, 1, 0, 0, 0, 0, 0, .dev, true, false, []⟩ ]

/-- MRAM page registers. -/
def mram : List RegDesc :=
  [ ⟨0x100, 1, 0, 0, 0, 0, 0, .dev, false, false, []⟩,
    ⟨0x104, 1, 0, 0x3FFFF, 0, 0, 0, .dev, false, true, [⟨0, 18, .u 0 0x3FFFC⟩]⟩,
    ⟨0x108, 1, 0, 0x1FF, 0, 0, 0, .dev, false, true, [⟨0, 9, .u 4 256⟩]⟩,
    ⟨0x10C, 1, 0, 0, 0, 0, 0, .dev, false, true, []⟩,
    ⟨0x110, 1, 0, 0, 3, 0, 0, .dev, false, false, []⟩,
    ⟨0x114, 1, 0, 0, 0, 0, 0, .dev, false, false, []⟩,
    ⟨0x118, 1, 0, 0, 0, 0, 0, .dev, false, true, []⟩,
    ⟨0x140, 16, 0, 0xFFF3FFF1, 0, 0, 0, .dev, false, false, [⟨20, 4, .u 4 8⟩, ⟨24, 8, .u 1 255⟩]⟩,
    ⟨0x180, 16, 0x40000, 0, 0, 0, 0, .dev, false, false, []⟩,
    ⟨0x1C0, 16, 0, 0, 0, 0, 0, .dev, false, false, []⟩,
    ⟨0x200, 1, 0, 0, 0, 0, 0, .dev, true, false, []⟩,
    ⟨0x204, 1, 0, 0, 0, 0, 0, .dev, true, false, []⟩,
    ⟨0x208, 1, 0, 0, 0, 0, 0, .dev, true, false, []⟩,
    ⟨0x20C, 1, 0, 0, 0, 0, 0, .dev, true, false, []⟩,
    ⟨0x210, 1, 0, 0, 0, 0, 0, .dev, true, false, []⟩,
    ⟨0x214, 1, 0, 0, 0, 0, 0, .dev, true, false, []⟩,
    ⟨0x400, 64, 0, 0xFFFFFFFF, 0, 0, 0, .dev, false, true, []⟩ ]

/-- DOM page registers. -/
def dom : List RegDesc :=
  [ ⟨0x100, 1, 1, 0, 0x17, 0, 0, .dev, false, false, [⟨0, 3, .u 0 5⟩]⟩,
    ⟨0x104, 1, 0, 0, 0xFFFFFFFF, 0, 0, .dev, false, false, [⟨16, 16, .above 0 16⟩]⟩,
    ⟨0x108, 1, 0x1F40000, 0, 0xFFFFFFFF, 0, 0, .dev, false, false, [⟨16, 16, .u 1 65535⟩]⟩,
    ⟨0x200, 1, 0, 0, 0, 0, 0, .dev, true, false, []⟩,
    ⟨0x204, 1, 0, 0, 0, 0, 0, .dev, true, false, []⟩,
    ⟨0x208, 1, 0, 0, 0, 0, 0, .dev, true, false, []⟩,
    ⟨0x20C, 1, 0, 0, 0, 0, 0, .dev, true, false, []⟩,
    ⟨0x210, 1, 0, 0, 0, 0, 0, .dev, true, false, []⟩ ]

/-- TIMEBASE page registers. -/
def timebase : List RegDesc :=
  [ ⟨0x100, 1, 3, 0x17, 0, 0x300, 0, .dev, false, false, [⟨0, 3, .oneOf [1, 2, 3]⟩, ⟨8, 2, .u 0 2⟩]⟩,
    ⟨0x104, 1, 0, 0, 0, 0, 0, .dev, false, false, []⟩,
    ⟨0x108, 1, 0, 0, 0, 0, 0, .dev, false, false, []⟩,
    ⟨0x10C, 1, 0, 0, 0, 0, 0, .dev, false, false, []⟩,
    ⟨0x110, 1, 0, 0, 0, 0, 0, .dev, false, false, []⟩,
    ⟨0x114, 1, 0, 0, 0, 0, 0, .dev, false, false, []⟩,
    ⟨0x118, 1, 0, 0, 0, 0, 0, .dev, false, false, []⟩,
    ⟨0x11C, 1, 0, 0, 0, 0, 0, .dev, false, false, []⟩,
    ⟨0x120, 1, 0x320000, 0xFFFFFFFF, 0, 0, 0, .dev, false, false, [⟨0, 32, .u 2621440 4587520⟩]⟩,
    ⟨0x124, 1, 0x320000, 0xFFFFFFFF, 0, 0, 0, .dev, false, false, [⟨0, 32, .u 65536 655360000⟩]⟩,
    ⟨0x128, 1, 0x20100, 0, 0, 0x33F3F3F, 0, .dev, false, false, [⟨24, 2, .u 0 2⟩]⟩,
    ⟨0x12C, 1, 0x32002, 0xFFF07, 0, 0, 0, .dev, false, false, [⟨8, 8, .u 1 255⟩, ⟨16, 4, .u 1 15⟩]⟩,
    ⟨0x130, 1, 0x32019A, 0xFF0FFF, 0, 0, 0, .dev, false, false, [⟨16, 8, .u 1 200⟩]⟩,
    ⟨0x134, 1, 0x3071C, 0xF3FFF, 0, 0, 0, .dev, false, false, [⟨0, 14, .u 1 16383⟩]⟩,
    ⟨0x138, 1, 0, 0, 0, 0x71, 0, .dev, false, false, []⟩,
    ⟨0x13C, 1, 0x3E800, 0x3FFFFF, 0, 0, 0, .dev, false, false, [⟨0, 22, .u 12800 2560000⟩]⟩,
    ⟨0x140, 1, 0, 0xFFFF, 0, 0, 0, .dev, false, false, []⟩,
    ⟨0x144, 1, 0x1000000, 0, 0, 0xFFF03FF, 0, .dev, false, false, [⟨16, 12, .u 1 4095⟩]⟩,
    ⟨0x180, 1, 0, 0, 0, 0, 0, .dev, true, false, []⟩,
    ⟨0x184, 1, 0, 0, 0, 0, 0, .dev, true, false, []⟩,
    ⟨0x188, 1, 0, 0, 0, 0, 0, .dev, true, false, []⟩,
    ⟨0x18C, 1, 0, 0, 0, 0, 0, .dev, true, false, []⟩,
    ⟨0x190, 1, 0, 0, 0, 0, 0, .dev, true, false, []⟩,
    ⟨0x194, 1, 0, 0, 0, 0, 0, .dev, true, false, []⟩,
    ⟨0x198, 1, 0, 0, 0, 0, 0, .dev, true, false, []⟩ ]

/-- PROOF page registers. -/
def proof : List RegDesc :=
  [ ⟨0x100, 1, 3, 0xF0F0F, 0, 0, 0, .dev, false, false, []⟩,
    ⟨0x104, 1, 0, 0, 0, 0, 0, .dev, false, false, []⟩,
    ⟨0x108, 1, 0xF4240, 0xFFFFFF, 0, 0, 0, .dev, false, false, [⟨0, 24, .u 1 16777215⟩]⟩,
    ⟨0x10C, 1, 0, 0xF, 0, 0, 0x10, .dev, false, false, []⟩,
    ⟨0x110, 1, 0x2710, 0x1FFFF, 0, 0, 0, .dev, false, false, [⟨0, 17, .u 1 100000⟩]⟩,
    ⟨0x114, 1, 0, 0, 0, 0, 0, .dev, false, false, []⟩,
    ⟨0x118, 1, 0, 0, 0, 0, 0, .dev, false, false, []⟩,
    ⟨0x11C, 1, 0, 0, 0, 0, 0, .dev, true, false, []⟩,
    ⟨0x120, 1, 0, 0, 0, 0, 0, .dev, true, false, []⟩,
    ⟨0x124, 1, 0, 0, 0, 0, 0, .dev, true, false, []⟩ ]

/-- GALLEY page registers. -/
def galley : List RegDesc :=
  [ ⟨0x100, 1, 0, 0, 0, 0, 0, .dev, false, false, []⟩,
    ⟨0x104, 1, 0, 0x7FFF3FFF, 0, 0, 0, .dev, false, true, [⟨16, 15, .u 0 16384⟩]⟩,
    ⟨0x108, 1, 0, 0xFFFF, 0, 0, 0, .dev, false, true, []⟩,
    ⟨0x10C, 1, 0, 0, 0, 0, 0, .dev, false, false, []⟩,
    ⟨0x110, 1, 0, 0, 0, 0, 0, .dev, false, false, []⟩,
    ⟨0x114, 1, 0, 0, 0, 0, 0, .dev, false, false, []⟩,
    ⟨0x118, 1, 0, 0, 0, 0, 0, .dev, false, false, []⟩,
    ⟨0x11C, 1, 0, 0, 0, 0, 0, .dev, false, false, []⟩,
    ⟨0x140, 16, 0, 0, 0, 0, 0, .dev, false, false, []⟩,
    ⟨0x180, 16, 0, 0, 0, 0, 0, .dev, false, false, []⟩,
    ⟨0x1C0, 16, 0, 0, 0, 0, 0, .dev, false, false, []⟩,
    ⟨0x200, 16, 0, 0, 0, 0, 0, .dev, false, false, []⟩,
    ⟨0x240, 16, 0, 0, 0, 0, 0, .dev, true, false, []⟩,
    ⟨0x280, 32, 0, 0, 0x800FFFFF, 0, 0, .dev, false, false, []⟩,
    ⟨0x300, 32, 0, 0, 0x1F1F, 0, 0, .dev, false, false, []⟩,
    ⟨0x400, 1, 0, 0, 0, 0, 0, .dev, true, false, []⟩,
    ⟨0x404, 1, 0, 0, 0, 0, 0, .dev, true, false, []⟩,
    ⟨0x408, 1, 0, 0, 0, 0, 0, .dev, true, false, []⟩,
    ⟨0x40C, 1, 0, 0, 0, 0, 0, .dev, true, false, []⟩,
    ⟨0x410, 1, 0, 0, 0, 0, 0, .dev, true, false, []⟩,
    ⟨0x414, 1, 0, 0, 0, 0, 0, .dev, true, false, []⟩,
    ⟨0x418, 1, 0, 0, 0, 0, 0, .dev, true, false, []⟩,
    ⟨0x41C, 1, 0, 0, 0, 0, 0, .dev, true, false, []⟩,
    ⟨0x420, 1, 0, 0, 0, 0, 0, .dev, true, false, []⟩ ]

/-- CHG page registers. -/
def chg : List RegDesc :=
  [ ⟨0x100, 1, 0x100C, 0, 0, 0x3770F, 0, .dev, false, false, []⟩,
    ⟨0x104, 1, 0, 0, 0, 0, 0, .dev, false, false, []⟩,
    ⟨0x108, 1, 0, 0, 0, 0x3F3F3F, 0, .dev, false, false, []⟩,
    ⟨0x10C, 1, 0, 0, 0, 0xFFFFFFFF, 0, .dev, false, false, []⟩,
    ⟨0x110, 1, 0, 0, 0, 0xFFFFFFFF, 0, .dev, false, false, []⟩,
    ⟨0x114, 1, 0, 0, 0, 0xFFFFFFFF, 0, .dev, false, false, []⟩,
    ⟨0x118, 1, 0x1000100, 0xFFFFFFFF, 0, 0, 0, .dev, false, false, []⟩,
    ⟨0x11C, 1, 0x2580C80, 0xFFFFFFFF, 0, 0, 0, .dev, false, false, []⟩,
    ⟨0x120, 1, 0x41A0352, 0xFFFFFFFF, 0, 0, 0, .dev, false, false, [⟨16, 16, .aboveSigned 0 16⟩]⟩,
    ⟨0x124, 1, 0, 0, 0, 0xBFBFBFBF, 0, .dev, false, false, [⟨0, 5, .u 0 23⟩, ⟨8, 5, .u 0 23⟩, ⟨16, 5, .u 0 23⟩, ⟨24, 5, .u 0 23⟩]⟩,
    ⟨0x128, 1, 0x1F46408, 0xFFFFFF3F, 0, 0, 0, .dev, false, false, [⟨0, 6, .u 1 64⟩, ⟨8, 8, .u 1 255⟩, ⟨16, 16, .u 1 65535⟩]⟩,
    ⟨0x12C, 1, 0x1F4, 0xFFFF, 0, 0, 0, .dev, false, false, [⟨0, 16, .u 1 65535⟩]⟩,
    ⟨0x130, 1, 0x80008000, 0xFFFFFFFF, 0, 0, 0, .dev, false, false, []⟩,
    ⟨0x134, 1, 0, 0xFFFF, 0, 0, 0, .dev, false, false, []⟩,
    ⟨0x138, 1, 0x32050000, 0xFFFFFFFF, 0, 0, 0, .dev, false, false, [⟨24, 8, .u 1 255⟩]⟩,
    ⟨0x13C, 1, 0x2D00032, 0xFFFFFFFF, 0, 0, 0, .dev, false, false, [⟨16, 16, .u 1 65535⟩]⟩,
    ⟨0x140, 1, 0, 0, 0xFFFFFFFF, 0, 0, .dev, false, false, []⟩,
    ⟨0x144, 1, 0, 0, 0x1FFFFFFF, 0, 0, .dev, false, false, []⟩,
    ⟨0x148, 1, 0x6403E8, 0xFFFFFFFF, 0, 0, 0, .dev, false, false, [⟨0, 16, .u 1 65535⟩]⟩,
    ⟨0x14C, 1, 0xA, 0xFFFF, 0, 0, 0, .dev, false, false, []⟩,
    ⟨0x150, 7, 0, 0, 0xFFFF, 0, 0, .dev, false, false, []⟩,
    ⟨0x170, 8, 0x164, 0, 0x71FF, 0, 0, .dev, false, false, [⟨0, 8, .u 1 100⟩]⟩,
    ⟨0x190, 1, 0, 0xFFFFFFFF, 0, 0, 0, .dev, false, false, []⟩,
    ⟨0x194, 1, 0, 0xFFFF, 0, 0, 0, .dev, false, false, []⟩,
    ⟨0x198, 1, 0x640, 0xFFFF, 0, 0, 0, .dev, false, false, []⟩,
    ⟨0x19C, 1, 0, 0xFFFF, 0, 0, 0, .dev, false, false, []⟩,
    ⟨0x1A0, 16, 0, 0, 0xFFFFFFFF, 0, 0, .dev, false, false, []⟩,
    ⟨0x400, 128, 0, 0, 0xFFFFFFFF, 0, 0, .dev, false, false, []⟩,
    ⟨0x600, 1, 0, 0, 0, 0, 0, .dev, false, false, []⟩,
    ⟨0x604, 1, 0, 0, 0, 0, 0, .dev, false, false, []⟩,
    ⟨0x608, 1, 0, 0, 0, 0, 0, .dev, false, false, []⟩,
    ⟨0x60C, 1, 0x70000, 0, 0, 0, 0, .dev, false, false, []⟩,
    ⟨0x610, 1, 0, 0, 0, 0, 0, .dev, false, false, []⟩,
    ⟨0x614, 1, 0x80008000, 0, 0, 0, 0, .dev, false, false, []⟩,
    ⟨0x618, 1, 0, 0, 0, 0, 0, .dev, false, false, []⟩,
    ⟨0x61C, 1, 0, 0, 0, 0, 0, .dev, false, false, []⟩,
    ⟨0x620, 1, 0, 0, 0, 0, 0, .dev, false, false, []⟩,
    ⟨0x624, 1, 0, 0, 0, 0, 0, .dev, false, false, []⟩,
    ⟨0x628, 1, 0, 0, 0, 0, 0, .dev, false, false, []⟩,
    ⟨0x62C, 1, 0, 0, 0, 0, 0, .dev, false, false, []⟩,
    ⟨0x630, 1, 0, 0, 0, 0, 0, .dev, false, false, []⟩,
    ⟨0x700, 1, 0, 0, 0, 0, 0, .dev, true, false, []⟩,
    ⟨0x704, 1, 0, 0, 0, 0, 0, .dev, true, false, []⟩,
    ⟨0x708, 1, 0, 0, 0, 0, 0, .dev, true, false, []⟩,
    ⟨0x70C, 1, 0, 0, 0, 0, 0, .dev, true, false, []⟩,
    ⟨0x710, 1, 0, 0, 0, 0, 0, .dev, true, false, []⟩,
    ⟨0x714, 1, 0, 0, 0, 0, 0, .dev, true, false, []⟩,
    ⟨0x718, 1, 0, 0, 0, 0, 0, .dev, true, false, []⟩ ]

/-- GAUGE page registers. -/
def gauge : List RegDesc :=
  [ ⟨0x100, 1, 0x10000, 0, 0, 0xFFF73F3F, 0, .dev, false, false, [⟨24, 7, .u 0 95⟩]⟩,
    ⟨0x104, 1, 0, 0, 0, 0, 0, .dev, false, false, []⟩,
    ⟨0x108, 1, 0, 0, 0, 0xFFFFFFFF, 0, .dev, false, false, []⟩,
    ⟨0x10C, 1, 0, 0, 0, 0xFFFFFFFF, 0, .dev, false, false, []⟩,
    ⟨0x110, 1, 0, 0, 0, 0xFFFFFFFF, 0, .dev, false, false, []⟩,
    ⟨0x114, 1, 0x60, 0, 0, 0xFF, 0, .dev, false, false, [⟨0, 8, .u 1 255⟩]⟩,
    ⟨0x118, 1, 0, 0, 0, 0xFFFF, 0, .dev, false, false, []⟩,
    ⟨0x11C, 1, 0x25801F4, 0xFFFFFFFF, 0, 0, 0, .dev, false, false, [⟨16, 16, .u 1 65535⟩]⟩,
    ⟨0x120, 1, 0x140030, 0xFF00FF, 0, 0, 0, .dev, false, false, [⟨0, 8, .u 1 255⟩, ⟨16, 8, .u 1 255⟩]⟩,
    ⟨0x124, 1, 0x38D1B717, 0xFFFFFFFF, 0, 0, 0, .dev, false, false, []⟩,
    ⟨0x128, 1, 0x3C23D70A, 0xFFFFFFFF, 0, 0, 0, .dev, false, false, []⟩,
    ⟨0x12C, 1, 0x358637BD, 0xFFFFFFFF, 0, 0, 0, .dev, false, false, []⟩,
    ⟨0x130, 1, 0x38D1B717, 0xFFFFFFFF, 0, 0, 0, .dev, false, false, []⟩,
    ⟨0x134, 1, 0x3E84014, 0xFFFFFFFF, 0, 0, 0, .dev, false, false, [⟨0, 8, .u 2 255⟩, ⟨16, 16, .u 1 65535⟩]⟩,
    ⟨0x138, 1, 0x1388000A, 0xFFFFFFFF, 0, 0, 0, .dev, false, false, [⟨16, 16, .above 0 16⟩]⟩,
    ⟨0x13C, 1, 0x50E10, 0x1FFFFFFF, 0, 0, 0, .dev, false, false, [⟨16, 8, .u 1 255⟩]⟩,
    ⟨0x140, 1, 0, 0xFFFFFFFF, 0, 0, 0, .dev, false, false, []⟩,
    ⟨0x144, 1, 0x8000, 0xFFFF, 0, 0, 0, .dev, false, false, []⟩,
    ⟨0x148, 1, 0xFFF0000, 0xFFF8FFF, 0, 0, 0, .dev, false, false, [⟨16, 12, .above 0 12⟩]⟩,
    ⟨0x14C, 1, 0x500, 0xFF3F, 0, 0, 0, .dev, false, false, [⟨8, 8, .u 1 255⟩]⟩,
    ⟨0x150, 4, 0, 0, 0xFFFF, 0, 0, .dev, false, false, []⟩,
    ⟨0x180, 1, 0, 0, 0, 0, 0, .dev, false, false, []⟩,
    ⟨0x184, 1, 0, 0, 0, 0, 0, .dev, false, false, []⟩,
    ⟨0x188, 1, 0, 0, 0, 0, 0, .island, false, false, []⟩,
    ⟨0x18C, 1, 0, 0, 0, 0, 0, .island, false, false, []⟩,
    ⟨0x190, 1, 0, 0, 0, 0, 0, .island, false, false, []⟩,
    ⟨0x194, 1, 0, 0, 0, 0, 0, .island, false, false, []⟩,
    ⟨0x198, 1, 0, 0, 0, 0, 0, .island, false, false, []⟩,
    ⟨0x19C, 1, 0, 0, 0, 0, 0, .island, false, false, []⟩,
    ⟨0x1A0, 1, 0, 0, 0, 0, 0, .island, false, false, []⟩,
    ⟨0x1A4, 1, 0, 0, 0, 0, 0, .island, false, false, []⟩,
    ⟨0x1A8, 1, 0, 0, 0, 0, 0, .island, false, false, []⟩,
    ⟨0x1AC, 1, 0, 0, 0, 0, 0, .dev, false, false, []⟩,
    ⟨0x1B0, 1, 0, 0, 0, 0, 0, .dev, false, false, []⟩,
    ⟨0x1B4, 1, 0, 0, 0, 0, 0, .dev, false, false, []⟩,
    ⟨0x1B8, 1, 0, 0, 0, 0, 0, .island, false, false, []⟩,
    ⟨0x1BC, 1, 0, 0, 0, 0, 0, .island, false, false, []⟩,
    ⟨0x1C0, 1, 0, 0, 0, 0, 0, .island, false, false, []⟩,
    ⟨0x1C4, 1, 0, 0, 0, 0, 0, .dev, false, false, []⟩,
    ⟨0x1C8, 1, 0, 0, 0, 0, 0, .dev, false, false, []⟩,
    ⟨0x1CC, 1, 0, 0, 0, 0, 0, .dev, false, false, []⟩,
    ⟨0x1D0, 1, 0, 0, 0, 0, 0, .dev, false, false, []⟩,
    ⟨0x1D4, 1, 0, 0, 0, 0, 0, .dev, false, false, []⟩,
    ⟨0x1D8, 1, 0, 0, 0, 0, 0, .dev, false, false, []⟩,
    ⟨0x1DC, 1, 0, 0, 0, 0, 0, .island, false, false, []⟩,
    ⟨0x1E0, 1, 0, 0, 0, 0, 0, .dev, false, false, []⟩,
    ⟨0x1E4, 1, 0, 0, 0, 0, 0, .dev, false, false, []⟩,
    ⟨0x1E8, 1, 0, 0, 0, 0, 0, .dev, false, false, []⟩,
    ⟨0x200, 2, 0, 0, 0, 0, 0, .island, true, false, []⟩,
    ⟨0x208, 1, 0, 0, 0, 0, 0, .dev, true, false, []⟩,
    ⟨0x20C, 1, 0, 0, 0, 0, 0, .dev, true, false, []⟩,
    ⟨0x210, 1, 0, 0, 0, 0, 0, .dev, true, false, []⟩,
    ⟨0x214, 1, 0, 0, 0, 0, 0, .dev, true, false, []⟩,
    ⟨0x218, 1, 0, 0, 0, 0, 0, .dev, true, false, []⟩,
    ⟨0x21C, 1, 0, 0, 0, 0, 0, .dev, true, false, []⟩,
    ⟨0x220, 1, 0, 0, 0, 0, 0, .dev, true, false, []⟩,
    ⟨0x224, 1, 0, 0, 0, 0, 0, .dev, true, false, []⟩,
    ⟨0x228, 1, 0, 0, 0, 0, 0, .dev, true, false, []⟩,
    ⟨0x400, 128, 0, 0, 0xFFFFFFFF, 0, 0, .dev, false, false, []⟩ ]

/-- DISCH page registers. -/
def disch : List RegDesc :=
  [ ⟨0x100, 1, 0, 0, 0xFFFF773F, 0, 0, .dev, false, false, [⟨16, 16, .u 0 32767⟩]⟩,
    ⟨0x104, 1, 0x6400C8, 0, 0x3FF01FF, 0, 0, .dev, false, false, [⟨0, 9, .u 10 500⟩, ⟨16, 10, .u 0 1000⟩]⟩,
    ⟨0x108, 1, 0, 0, 0, 0, 0, .dev, false, false, []⟩,
    ⟨0x10C, 1, 0x3E800, 0, 0x3FFFFF, 0, 0, .dev, false, false, [⟨0, 22, .u 12800 2560000⟩]⟩,
    ⟨0x110, 1, 0x1F400, 0, 0x3FFFFF, 0, 0, .dev, false, false, []⟩,
    ⟨0x114, 1, 0, 0, 0, 0, 0, .dev, false, false, []⟩,
    ⟨0x118, 1, 0, 0, 0, 0, 0, .dev, false, false, []⟩,
    ⟨0x180, 1, 0, 0, 0, 0, 0, .dev, true, false, []⟩,
    ⟨0x184, 1, 0, 0, 0, 0, 0, .dev, true, false, []⟩,
    ⟨0x188, 1, 0, 0, 0, 0, 0, .dev, true, false, []⟩ ]

/-- MONADC page registers. -/
def monadc : List RegDesc :=
  [ ⟨0x100, 1, 0x64, 0, 0x3FF, 0, 0, .dev, false, false, [⟨0, 10, .u 1 1000⟩]⟩,
    ⟨0x104, 1, 0, 0, 0xFFFFFFFF, 0, 0, .dev, false, false, []⟩,
    ⟨0x108, 1, 0, 0, 0xFF, 0, 0, .dev, false, false, []⟩,
    ⟨0x140, 40, 0, 0, 0, 0, 0, .dev, false, false, []⟩,
    ⟨0x200, 1, 0, 0, 0, 0, 0, .dev, true, false, []⟩,
    ⟨0x204, 1, 0, 0, 0, 0, 0, .dev, true, false, []⟩,
    ⟨0x208, 1, 0, 0, 0, 0, 0, .dev, true, false, []⟩ ]

/-- BIN page registers. -/
def bin : List RegDesc :=
  [ ⟨0x100, 1, 0, 0, 0, 0, 0, .dev, false, false, []⟩,
    ⟨0x104, 1, 0, 0, 0, 0, 0, .dev, false, false, []⟩,
    ⟨0x108, 1, 0, 0, 0, 0, 0, .dev, false, false, []⟩,
    ⟨0x200, 64, 0, 0x9FFF773F, 0, 0, 0, .dev, false, false, [⟨8, 3, .u 0 4⟩]⟩,
    ⟨0x300, 64, 0, 0, 0, 0, 0, .dev, false, false, []⟩,
    ⟨0x400, 1, 0, 0, 0, 0, 0, .dev, true, false, []⟩,
    ⟨0x404, 1, 0, 0, 0, 0, 0, .dev, true, false, []⟩,
    ⟨0x408, 1, 0, 0, 0, 0, 0, .dev, true, false, []⟩,
    ⟨0x40C, 1, 0, 0, 0, 0, 0, .dev, true, false, []⟩ ]

/-- OPENWIRE page registers. -/
def openwire : List RegDesc :=
  [ ⟨0x100, 1, 0x3003E8, 0xF1FFFF, 0, 0, 0, .dev, false, false, [⟨0, 16, .u 0 10000⟩, ⟨20, 4, .u 1 15⟩]⟩,
    ⟨0x110, 6, 0, 0xFFFFFFFF, 0, 0, 0, .dev, false, false, []⟩,
    ⟨0x130, 6, 0, 0xFFFFFFFF, 0, 0, 0, .dev, false, false, []⟩,
    ⟨0x150, 4, 0x33330A3E, 0xFFFFFFFF, 0, 0, 0, .dev, false, false, [⟨0, 16, .u 1 32767⟩, ⟨16, 16, .above 0 16⟩]⟩,
    ⟨0x160, 4, 0x7D0002BC, 0xFFFFFFFF, 0, 0, 0, .dev, false, false, []⟩,
    ⟨0x170, 4, 0xA, 0xFFFF, 0, 0, 0, .dev, false, false, [⟨0, 16, .u 1 65535⟩]⟩,
    ⟨0x180, 11, 0, 0, 0, 0, 0, .dev, false, false, []⟩,
    ⟨0x1B0, 1, 0, 0, 0, 0, 0, .dev, false, false, []⟩,
    ⟨0x1B4, 1, 0, 0, 0, 0, 0, .dev, false, false, []⟩,
    ⟨0x200, 1, 0, 0, 0, 0, 0, .dev, true, false, []⟩,
    ⟨0x204, 1, 0, 0, 0, 0, 0, .dev, true, false, []⟩,
    ⟨0x208, 1, 0, 0, 0, 0, 0, .dev, true, false, []⟩,
    ⟨0x20C, 1, 0, 0, 0, 0, 0, .dev, true, false, []⟩ ]

/-- CAL page registers. -/
def cal : List RegDesc :=
  [ ⟨0x100, 88, 0x4000, 0, 0xFFFFFFFF, 0, 0, .dev, false, false, []⟩,
    ⟨0x280, 1, 0, 0, 0, 0, 0, .dev, false, false, []⟩ ]

/-- INTC page registers. -/
def intc : List RegDesc :=
  [ ⟨0x100, 32, 0, 0xFFFFFFFF, 0, 0, 0, .dev, false, false, []⟩,
    ⟨0x180, 8, 0, 0, 0, 0, 0, .dev, false, false, []⟩,
    ⟨0x1A0, 8, 0, 0, 0, 0, 0, .dev, false, false, []⟩,
    ⟨0x1C0, 1, 0, 0xF, 0, 0, 0, .dev, false, false, []⟩,
    ⟨0x1C4, 1, 0, 0, 0, 0, 0, .dev, false, false, []⟩,
    ⟨0x1C8, 1, 0, 0, 0, 0, 0, .dev, false, false, []⟩,
    ⟨0x1CC, 1, 0, 0, 0, 0, 0, .dev, false, false, []⟩,
    ⟨0x1D0, 1, 0, 0xFFFFFF, 0, 0, 0, .dev, false, false, []⟩,
    ⟨0x1D4, 1, 0, 0, 0, 0, 0, .dev, false, false, []⟩,
    ⟨0x200, 64, 0, 0, 0, 0, 0, .dev, true, false, []⟩,
    ⟨0x300, 1, 0, 0, 0, 0, 0, .dev, true, false, []⟩,
    ⟨0x304, 1, 0, 0, 0, 0, 0, .dev, true, false, []⟩,
    ⟨0x308, 1, 0, 0, 0, 0, 0, .dev, true, false, []⟩,
    ⟨0x400, 256, 0, 0xFFFFFFFF, 0, 0, 0, .dev, false, false, []⟩ ]

/-- HOSTPORT page registers. -/
def hostport : List RegDesc :=
  [ ⟨0x100, 1, 1, 0, 1, 0, 0, .dev, false, false, []⟩,
    ⟨0x104, 1, 2, 0, 0, 0, 0, .dev, false, false, []⟩,
    ⟨0x200, 1, 0, 0, 0, 0, 0, .dev, true, false, []⟩,
    ⟨0x204, 1, 0, 0, 0, 0, 0, .dev, true, false, []⟩,
    ⟨0x208, 1, 0, 0, 0, 0, 0, .dev, true, false, []⟩ ]

/-- T1S page registers. -/
def t1s : List RegDesc :=
  [ ⟨0x100, 1, 0, 0, 0, 7, 0, .dev, false, false, []⟩,
    ⟨0x104, 1, 0x82000, 0, 0, 0xFFFFFFFF, 0, .dev, false, false, [⟨0, 8, .u 0 254⟩, ⟨8, 8, .u 1 255⟩]⟩,
    ⟨0x108, 1, 0, 0, 0, 0xFFFFFFFF, 0, .dev, false, false, []⟩,
    ⟨0x10C, 1, 0, 0, 0, 0xFFFF, 0, .dev, false, false, []⟩,
    ⟨0x110, 1, 0, 0, 0, 0x7F, 0, .dev, false, false, [⟨0, 7, .u 0 95⟩]⟩,
    ⟨0x114, 1, 0, 0, 0, 0, 0, .dev, false, false, []⟩,
    ⟨0x118, 2, 0, 0, 0, 0, 0, .dev, false, false, []⟩,
    ⟨0x120, 1, 0, 0, 0, 0, 0, .dev, false, false, []⟩,
    ⟨0x124, 1, 0, 0xFFFFFFFF, 0, 0, 0, .dev, false, false, []⟩,
    ⟨0x128, 1, 0, 0x3FFFFFFF, 0, 0, 0, .dev, false, false, [⟨0, 30, .u 0 999999999⟩]⟩,
    ⟨0x12C, 1, 0, 0, 0, 0, 0, .dev, false, false, []⟩,
    ⟨0x140, 8, 0, 0xFFFFFFFF, 0, 0, 0, .dev, false, false, []⟩,
    ⟨0x160, 1, 0, 0, 0, 0, 0, .dev, false, false, []⟩,
    ⟨0x180, 32, 0, 0, 0, 0xFFFFFFFF, 0, .dev, false, false, []⟩,
    ⟨0x200, 1, 0, 0, 0, 0, 0, .dev, true, false, []⟩,
    ⟨0x204, 1, 0, 0, 0, 0, 0, .dev, true, false, []⟩,
    ⟨0x208, 1, 0, 0, 0, 0, 0, .dev, true, false, []⟩,
    ⟨0x20C, 1, 0, 0, 0, 0, 0, .dev, true, false, []⟩,
    ⟨0x210, 1, 0, 0, 0, 0, 0, .dev, true, false, []⟩ ]

/-- CAN page registers. -/
def can : List RegDesc :=
  [ ⟨0x100, 1, 0x11, 0, 0, 0x7F, 0, .dev, false, false, []⟩,
    ⟨0x104, 1, 0x1F1F7E00, 0, 0, 0x7F7FFF1F, 0, .dev, false, false, []⟩,
    ⟨0x108, 1, 0x9091C00, 0, 0, 0x7F7FFF1F, 0, .dev, false, false, []⟩,
    ⟨0x10C, 1, 0x1010400, 0, 0, 0x7F7FFF1F, 0, .dev, false, false, []⟩,
    ⟨0x110, 1, 0, 0, 0, 0xFF, 0, .dev, false, false, []⟩,
    ⟨0x114, 1, 0, 0, 0, 0x7F7F7F7F, 0, .dev, false, false, [⟨0, 7, .u 0 95⟩, ⟨8, 7, .u 0 95⟩, ⟨16, 7, .u 0 95⟩, ⟨24, 7, .u 0 95⟩]⟩,
    ⟨0x118, 1, 0, 0, 0, 0, 0, .dev, false, false, []⟩,
    ⟨0x11C, 1, 0, 0, 0, 0, 0, .dev, false, false, []⟩,
    ⟨0x120, 1, 0x501, 0xFF01, 0, 0, 0, .dev, false, false, []⟩,
    ⟨0x140, 8, 0, 0xFFFFFFFF, 0, 0, 0, .dev, false, false, []⟩,
    ⟨0x160, 1, 0, 0, 0, 0, 0xFF0000, .dev, false, false, []⟩,
    ⟨0x200, 1, 0, 0, 0, 0, 0, .dev, true, false, []⟩,
    ⟨0x204, 1, 0, 0, 0, 0, 0, .dev, true, false, []⟩,
    ⟨0x208, 1, 0, 0, 0, 0, 0, .dev, true, false, []⟩,
    ⟨0x20C, 1, 0, 0, 0, 0, 0, .dev, true, false, []⟩,
    ⟨0x210, 1, 0, 0, 0, 0, 0, .dev, true, false, []⟩,
    ⟨0x214, 1, 0, 0, 0, 0, 0, .dev, true, false, []⟩,
    ⟨0x400, 256, 0xC0000000, 0, 0, 0xFFFFFFFF, 0, .dev, false, false, []⟩ ]

/-- CONV page registers. -/
def conv : List RegDesc :=
  [ ⟨0x100, 1, 0, 7, 0, 0, 0, .dev, false, false, []⟩,
    ⟨0x104, 1, 0x100, 0, 0, 0x1F7F, 0, .dev, false, false, [⟨0, 2, .u 0 2⟩, ⟨2, 2, .u 0 1⟩, ⟨4, 3, .u 0 3⟩, ⟨9, 4, .s (-4) 4⟩]⟩,
    ⟨0x108, 12, 0, 0, 0, 0x8007071F, 0, .dev, false, false, [⟨0, 5, .u 0 23⟩, ⟨8, 3, .u 0 5⟩, ⟨16, 3, .u 0 5⟩]⟩,
    ⟨0x140, 1, 0x3200, 0x3FFFFF, 0, 0, 0, .dev, false, false, [⟨0, 22, .u 12800 2560000⟩]⟩,
    ⟨0x144, 1, 0x271000, 0x3FFFFF, 0, 0, 0, .dev, false, false, [⟨0, 22, .u 12800 2560000⟩]⟩,
    ⟨0x148, 1, 0, 0x3FFFFF, 0, 0, 0, .dev, false, false, []⟩,
    ⟨0x14C, 1, 0x8000, 0xFFFF, 0, 0, 0, .dev, false, false, []⟩,
    ⟨0x150, 1, 0, 0, 0, 0x3F3F3F3F, 0, .dev, false, false, []⟩,
    ⟨0x154, 1, 0x1180118, 0, 0, 0xFF1F031F, 0, .dev, false, false, [⟨0, 5, .u 8 30⟩, ⟨16, 5, .u 8 30⟩, ⟨24, 8, .u 1 255⟩]⟩,
    ⟨0x158, 4, 0, 0xFFFFFFFF, 0, 0, 0, .dev, false, false, []⟩,
    ⟨0x168, 3, 0, 0xFFFFFFFF, 0, 0, 0, .dev, false, false, []⟩,
    ⟨0x174, 1, 0, 0xFFFFFFFF, 0, 0, 0, .dev, false, false, []⟩,
    ⟨0x178, 1, 0x73333333, 0xFFFFFFFF, 0, 0, 0, .dev, false, false, []⟩,
    ⟨0x17C, 1, 0, 0xFFFFFFFF, 0, 0, 0, .dev, false, false, []⟩,
    ⟨0x180, 1, 0, 0xFFFFFFFF, 0, 0, 0, .dev, false, false, []⟩,
    ⟨0x184, 1, 0, 0, 0, 0, 0, .dev, false, false, []⟩,
    ⟨0x190, 1, 0, 0xFFFFFFFF, 0, 0, 0, .dev, false, false, []⟩,
    ⟨0x194, 1, 0, 0xFFFFFFFF, 0, 0, 0, .dev, false, false, []⟩,
    ⟨0x198, 1, 0, 0xFFFFFFFF, 0, 0, 0, .dev, false, false, []⟩,
    ⟨0x19C, 1, 0, 0x1FFFFFF, 0, 0, 0, .dev, false, false, []⟩,
    ⟨0x1A0, 1, 0, 0x1FFFFFF, 0, 0, 0, .dev, false, false, []⟩,
    ⟨0x1A4, 1, 0, 0, 0, 0, 0, .dev, false, false, []⟩,
    ⟨0x1A8, 1, 0, 0, 0, 0, 0, .dev, false, false, []⟩,
    ⟨0x1AC, 1, 0, 0xFFFF0000, 0, 3, 0, .dev, false, false, []⟩,
    ⟨0x1B0, 1, 0xB6, 0, 0, 0x1FFFF, 0, .dev, false, false, [⟨0, 16, .u 0 8192⟩]⟩,
    ⟨0x1B4, 1, 0x647FFFFF, 0xFFFFFFFF, 0, 0, 0, .dev, false, false, [⟨0, 24, .u 0 8388607⟩, ⟨24, 8, .u 0 100⟩]⟩,
    ⟨0x1B8, 1, 0, 0, 0, 0, 0, .dev, false, false, []⟩,
    ⟨0x1BC, 1, 0x11, 0, 0, 0x1F3FF, 0, .dev, false, false, [⟨0, 4, .u 1 12⟩, ⟨4, 4, .u 1 12⟩]⟩,
    ⟨0x1C0, 1, 0, 0xFFFFFFFF, 0, 0, 0, .dev, false, false, [⟨16, 16, .u 1 65535⟩]⟩,
    ⟨0x1C4, 1, 0, 0xFFFFFFFF, 0, 0, 0, .dev, false, false, [⟨16, 16, .u 1 65535⟩]⟩,
    ⟨0x1C8, 1, 3, 3, 0, 0, 0, .dev, false, false, []⟩,
    ⟨0x1CC, 1, 0, 0xFFFFFFFF, 0, 0, 0, .dev, false, false, [⟨16, 16, .u 1 65535⟩]⟩,
    ⟨0x1D0, 1, 0, 0xFFFF, 0, 0, 0, .dev, false, false, []⟩,
    ⟨0x1D4, 1, 0x100, 0xFFFFFFF6, 0, 1, 0, .dev, false, false, [⟨8, 8, .u 1 255⟩]⟩,
    ⟨0x1D8, 1, 0x1000, 0xFFFF, 0, 0, 0, .dev, false, false, []⟩,
    ⟨0x1DC, 1, 0x100, 0xFFFFFF, 0, 0, 0, .dev, false, false, []⟩,
    ⟨0x1E0, 1, 0, 0, 0, 0, 0, .dev, false, false, []⟩,
    ⟨0x1E4, 1, 0, 0, 0, 0, 0, .dev, false, false, []⟩,
    ⟨0x1E8, 1, 0, 0, 0, 0, 0, .dev, false, false, []⟩,
    ⟨0x200, 2, 0, 0, 0, 0, 0, .dev, true, false, []⟩,
    ⟨0x208, 2, 0, 0, 0, 0, 0, .dev, true, false, []⟩,
    ⟨0x210, 1, 0, 0, 0, 0, 0, .dev, true, false, []⟩,
    ⟨0x214, 1, 0, 0, 0, 0, 0, .dev, true, false, []⟩,
    ⟨0x218, 1, 0, 0, 0, 0, 0, .dev, true, false, []⟩,
    ⟨0x21C, 1, 0, 0, 0, 0, 0, .dev, true, false, []⟩,
    ⟨0x220, 1, 0, 0, 0, 0, 0, .dev, true, false, []⟩,
    ⟨0x224, 1, 0, 0, 0, 0, 0, .dev, true, false, []⟩,
    ⟨0x228, 1, 0, 0, 0, 0, 0, .dev, true, false, []⟩,
    ⟨0x22C, 1, 0, 0, 0, 0, 0, .dev, true, false, []⟩,
    ⟨0x230, 1, 0, 0, 0, 0, 0, .dev, true, false, []⟩,
    ⟨0x234, 1, 0, 0, 0, 0, 0, .dev, true, false, []⟩,
    ⟨0x300, 1, 0, 0, 0, 0, 0, .dev, false, false, []⟩,
    ⟨0x304, 1, 0x3000064, 0xFF01FFFF, 0, 0, 0, .dev, false, false, [⟨0, 17, .u 1 100000⟩]⟩,
    ⟨0x308, 1, 0x64, 0xFFFF, 0, 0, 0, .dev, false, false, [⟨0, 16, .u 1 65535⟩]⟩,
    ⟨0x30C, 1, 0, 0, 0, 0xFFFF0001, 0, .dev, false, false, [⟨16, 16, .u 0 32767⟩]⟩,
    ⟨0x310, 1, 0x400010, 0xFFFFFF, 0, 0, 0, .dev, false, false, [⟨0, 16, .u 0 32767⟩]⟩,
    ⟨0x314, 1, 0x800010, 0xFFFFFF, 0, 0, 0, .dev, false, false, [⟨0, 16, .u 0 32767⟩]⟩,
    ⟨0x318, 1, 0, 0, 0, 7, 0, .dev, false, false, []⟩,
    ⟨0x31C, 1, 0xFFFF7FFF, 0xFFFFFFFF, 0, 0, 0, .dev, false, false, [⟨0, 16, .u 0 32767⟩, ⟨16, 16, .u 1 65535⟩]⟩,
    ⟨0x320, 1, 0x7FFF0000, 0xFFFFFFFF, 0, 0, 0, .dev, false, false, [⟨0, 16, .u 0 32767⟩, ⟨16, 16, .u 0 32767⟩]⟩,
    ⟨0x324, 1, 0, 0, 0, 0, 0, .dev, false, false, []⟩,
    ⟨0x328, 1, 0, 0, 0, 0, 0, .dev, false, false, []⟩,
    ⟨0x380, 1, 0, 0, 0, 0, 0, .dev, true, false, []⟩,
    ⟨0x384, 1, 0, 0, 0, 0, 0, .dev, true, false, []⟩,
    ⟨0x388, 1, 0, 0, 0, 0, 0, .dev, true, false, []⟩,
    ⟨0x38C, 1, 0, 0, 0, 0, 0, .dev, true, false, []⟩,
    ⟨0x390, 1, 0, 0, 0, 0, 0, .dev, true, false, []⟩,
    ⟨0x394, 1, 0, 0, 0, 0, 0, .dev, true, false, []⟩ ]

/-- CHECK page registers. -/
def check : List RegDesc :=
  [ ⟨0x100, 1, 0x30020, 0, 0, 0xF1F7F, 0, .dev, false, false, [⟨0, 7, .u 3 64⟩, ⟨16, 4, .u 1 15⟩]⟩,
    ⟨0x104, 1, 0, 0, 0, 0xFFFFFFFF, 0, .dev, false, false, []⟩,
    ⟨0x108, 1, 0, 0, 0, 0xFFFFFFFF, 0, .dev, false, false, []⟩,
    ⟨0x10C, 1, 0, 0, 0, 0xFFFFFFFF, 0, .dev, false, false, []⟩,
    ⟨0x110, 1, 0, 0, 0, 0xFFFFFFFF, 0, .dev, false, false, []⟩,
    ⟨0x114, 1, 0, 0, 0, 0xFFFFFFFF, 0, .dev, false, false, []⟩,
    ⟨0x118, 1, 0, 0, 0, 0xFFFFFFFF, 0, .dev, false, false, []⟩,
    ⟨0x11C, 1, 0, 0, 0, 0x7F, 0, .dev, false, false, [⟨0, 7, .u 0 95⟩]⟩,
    ⟨0x120, 1, 0, 0, 0, 0xFFFFFFFF, 0, .dev, false, false, []⟩,
    ⟨0x124, 1, 0, 0, 0, 0xFFFFFFFF, 0, .dev, false, false, []⟩,
    ⟨0x128, 1, 0, 0, 0, 0x7FFFFF, 0, .dev, false, false, [⟨11, 12, .u 1 2048⟩]⟩,
    ⟨0x12C, 1, 0, 0, 0, 0, 0, .dev, false, false, []⟩,
    ⟨0x130, 1, 0, 0, 0, 0, 0, .dev, false, false, []⟩,
    ⟨0x134, 1, 0, 0, 0, 0, 0, .dev, false, false, []⟩,
    ⟨0x138, 1, 0, 0, 0, 0, 0, .dev, false, false, []⟩,
    ⟨0x13C, 1, 0, 0xFFFFFFFF, 0, 0, 0, .dev, false, false, []⟩,
    ⟨0x140, 1, 0, 0xFFFFFFFF, 0, 0, 0, .dev, false, false, []⟩,
    ⟨0x144, 1, 0, 0, 0, 0, 0, .dev, false, false, []⟩,
    ⟨0x148, 1, 0, 0, 0, 0, 0, .dev, false, false, []⟩,
    ⟨0x14C, 1, 0, 0, 0, 0, 0, .dev, false, false, []⟩,
    ⟨0x150, 1, 0, 0, 0, 0, 0, .dev, false, false, []⟩,
    ⟨0x154, 1, 0, 0, 0, 0x3FFFF7FF, 0, .dev, false, false, [⟨26, 4, .u 1 8⟩]⟩,
    ⟨0x200, 1, 0, 0, 0, 0, 0, .dev, true, false, []⟩,
    ⟨0x204, 1, 0, 0, 0, 0, 0, .dev, true, false, []⟩,
    ⟨0x208, 1, 0, 0, 0, 0, 0, .dev, true, false, []⟩,
    ⟨0x20C, 1, 0, 0, 0, 0, 0, .dev, true, false, []⟩,
    ⟨0x210, 1, 0, 0, 0, 0, 0, .dev, true, false, []⟩ ]

/-- TILE page registers. -/
def tile : List RegDesc :=
  [ ⟨0x100, 1, 0x30, 0, 0, 0x37, 0, .dev, false, false, [⟨0, 3, .u 0 4⟩, ⟨4, 2, .u 1 3⟩]⟩,
    ⟨0x104, 1, 0x2000200, 0, 0, 0xFFF8FFF, 0, .dev, false, false, [⟨0, 12, .deadTime⟩, ⟨16, 12, .deadTime⟩]⟩,
    ⟨0x108, 1, 0x14, 0, 0, 0xFF, 0, .dev, false, false, []⟩,
    ⟨0x10C, 1, 0x3200, 0, 0, 0x3FFFFF, 0, .dev, false, false, [⟨0, 22, .u 12800 2560000⟩]⟩,
    ⟨0x110, 1, 0x271000, 0, 0, 0x3FFFFF, 0, .dev, false, false, [⟨0, 22, .u 12800 2560000⟩]⟩,
    ⟨0x114, 1, 0, 0x703FF, 0, 0, 0, .dev, false, false, []⟩,
    ⟨0x118, 1, 0x20, 0, 0, 0x3FF, 0, .dev, false, false, [⟨0, 10, .u 1 1023⟩]⟩,
    ⟨0x120, 1, 0x20, 0xFF030078, 0, 0x3F87, 0, .dev, false, false, [⟨0, 3, .u 0 5⟩]⟩,
    ⟨0x124, 1, 0xFFF, 0xFFF, 0, 0, 0, .dev, false, false, []⟩,
    ⟨0x128, 1, 0, 0xFFFF, 0, 0, 0, .dev, false, false, []⟩,
    ⟨0x130, 1, 0x20, 0xFF030078, 0, 0x3F87, 0, .dev, false, false, [⟨0, 3, .u 0 5⟩]⟩,
    ⟨0x134, 1, 0xFFF, 0xFFF, 0, 0, 0, .dev, false, false, []⟩,
    ⟨0x138, 1, 0, 0xFFFF, 0, 0, 0, .dev, false, false, []⟩,
    ⟨0x140, 1, 0, 0, 0, 0xFFF033F, 0, .dev, false, false, []⟩,
    ⟨0x144, 1, 0, 0xFFFF, 0, 0, 0, .dev, false, false, []⟩,
    ⟨0x148, 1, 0, 0, 0, 0, 0, .dev, false, false, []⟩,
    ⟨0x150, 1, 0x64, 0x3FF, 0, 0, 0, .dev, false, false, [⟨0, 10, .u 1 1000⟩]⟩,
    ⟨0x154, 1, 0, 0, 0, 0, 0, .dev, false, false, []⟩,
    ⟨0x160, 1, 0, 0, 0, 0, 0, .dev, false, false, []⟩,
    ⟨0x164, 1, 0, 0, 0, 0, 0, .dev, false, false, []⟩,
    ⟨0x168, 1, 0, 0, 0, 0, 0, .dev, false, false, []⟩,
    ⟨0x16C, 1, 0, 0, 0, 0, 0, .dev, false, false, []⟩,
    ⟨0x200, 2, 0, 0, 0, 0, 0, .dev, true, false, []⟩,
    ⟨0x208, 1, 0, 0, 0, 0, 0, .dev, true, false, []⟩,
    ⟨0x20C, 1, 0, 0, 0, 0, 0, .dev, true, false, []⟩,
    ⟨0x210, 1, 0, 0, 0, 0, 0, .dev, true, false, []⟩,
    ⟨0x214, 1, 0, 0, 0, 0, 0, .dev, true, false, []⟩,
    ⟨0x218, 1, 0, 0, 0, 0, 0, .dev, true, false, []⟩,
    ⟨0x21C, 1, 0, 0, 0, 0, 0, .dev, true, false, []⟩,
    ⟨0x220, 1, 0, 0, 0, 0, 0, .dev, true, false, []⟩,
    ⟨0x224, 1, 0, 0, 0, 0, 0, .dev, true, false, []⟩,
    ⟨0x228, 1, 0, 0, 0, 0, 0, .dev, true, false, []⟩,
    ⟨0x22C, 1, 0, 0, 0, 0, 0, .dev, true, false, []⟩ ]

/-- ADC page registers. -/
def adc : List RegDesc :=
  [ ⟨0x100, 1, 1, 0x11F, 0, 0, 0, .dev, false, false, [⟨0, 5, .u 1 16⟩]⟩,
    ⟨0x110, 16, 0, 0x80FFFFFF, 0, 0, 0, .dev, false, false, [⟨3, 3, .u 0 5⟩]⟩,
    ⟨0x160, 4, 0, 0x81FF7F0F, 0, 0, 0, .dev, false, false, [⟨8, 7, .u 0 95⟩, ⟨16, 4, .u 0 8⟩]⟩,
    ⟨0x180, 4, 0, 0, 0, 0, 0, .dev, false, false, []⟩,
    ⟨0x200, 2, 0, 0, 0, 0, 0, .dev, true, false, []⟩,
    ⟨0x208, 1, 0, 0, 0, 0, 0, .dev, true, false, []⟩,
    ⟨0x20C, 1, 0, 0, 0, 0, 0, .dev, true, false, []⟩,
    ⟨0x210, 1, 0, 0, 0, 0, 0, .dev, true, false, []⟩,
    ⟨0x214, 1, 0, 0, 0, 0, 0, .dev, true, false, []⟩,
    ⟨0x218, 1, 0, 0, 0, 0, 0, .dev, true, false, []⟩ ]

/-- MBOX page registers. -/
def mbox : List RegDesc :=
  [ ⟨0x100, 1, 0, 0, 0, 0, 0, .dev, false, false, []⟩,
    ⟨0x104, 1, 0, 0, 0, 0, 0, .dev, false, false, []⟩,
    ⟨0x108, 1, 0, 0, 0, 0, 0, .dev, false, false, []⟩,
    ⟨0x10C, 1, 0, 0xFFFFFFFF, 0, 0, 0, .dev, false, false, []⟩,
    ⟨0x110, 1, 0, 0, 0, 0, 0, .dev, false, false, []⟩,
    ⟨0x114, 1, 0x10064, 0x1FFFF, 0, 0, 0, .dev, false, false, []⟩,
    ⟨0x118, 1, 0, 0, 0, 0, 0, .dev, false, false, []⟩,
    ⟨0x140, 16, 0, 0xFFFFFFFF, 0, 0, 0, .dev, false, false, []⟩,
    ⟨0x200, 1, 0, 0, 0, 0, 0, .dev, true, false, []⟩,
    ⟨0x204, 1, 0, 0, 0, 0, 0, .dev, true, false, []⟩,
    ⟨0x208, 1, 0, 0, 0, 0, 0, .dev, true, false, []⟩,
    ⟨0x20C, 1, 0, 0, 0, 0, 0, .dev, true, false, []⟩ ]

/-- RING page registers. -/
def ring : List RegDesc :=
  [ ⟨0x100, 1, 0xFF0006, 0, 0, 0xFF031F, 0, .dev, false, false, [⟨0, 5, .u 6 20⟩]⟩,
    ⟨0x104, 1, 0, 0, 0, 0xFFFFFFFF, 0, .dev, false, false, []⟩,
    ⟨0x108, 1, 0, 0x1FFFFF, 0, 0, 0, .dev, false, false, []⟩,
    ⟨0x10C, 1, 0, 0, 0, 0, 0, .dev, true, false, []⟩,
    ⟨0x110, 1, 0, 0xFFFFFFFF, 0, 0, 0, .dev, false, false, []⟩,
    ⟨0x114, 1, 0, 0, 0, 0, 0, .dev, false, false, []⟩,
    ⟨0x118, 1, 0, 0, 0, 0, 0, .dev, false, false, []⟩,
    ⟨0x11C, 1, 0, 0, 0, 0, 0, .dev, false, false, []⟩,
    ⟨0x200, 1, 0, 0, 0, 0, 0, .dev, true, false, []⟩,
    ⟨0x204, 1, 0, 0, 0, 0, 0, .dev, true, false, []⟩,
    ⟨0x208, 1, 0, 0, 0, 0, 0, .dev, true, false, []⟩,
    ⟨0x20C, 1, 0, 0, 0, 0, 0, .dev, true, false, []⟩ ]

end RegTable

/-- The registers of a page kind, header excepted. -/
def RegTable.regsOf : PageKind → List RegDesc
  | .sys => RegTable.sys
  | .keyrack => RegTable.keyrack
  | .pinmux => RegTable.pinmux
  | .clk => RegTable.clk
  | .supply => RegTable.supply
  | .path => RegTable.path
  | .seq => RegTable.seq
  | .cellar => RegTable.cellar
  | .rtc => RegTable.rtc
  | .fault => RegTable.fault
  | .scaolo => RegTable.scaolo
  | .otp => RegTable.otp
  | .rompatch => RegTable.rompatch
  | .secboot => RegTable.secboot
  | .debug => RegTable.debug
  | .mram => RegTable.mram
  | .dom => RegTable.dom
  | .timebase => RegTable.timebase
  | .proof => RegTable.proof
  | .galley => RegTable.galley
  | .chg => RegTable.chg
  | .gauge => RegTable.gauge
  | .disch => RegTable.disch
  | .monadc => RegTable.monadc
  | .bin => RegTable.bin
  | .openwire => RegTable.openwire
  | .cal => RegTable.cal
  | .intc => RegTable.intc
  | .hostport => RegTable.hostport
  | .t1s => RegTable.t1s
  | .can => RegTable.can
  | .conv => RegTable.conv
  | .check => RegTable.check
  | .tile => RegTable.tile
  | .adc => RegTable.adc
  | .mbox => RegTable.mbox
  | .ring => RegTable.ring

/-- First page number and number of instances of a page kind (R26). -/
def PageKind.first : PageKind → Nat × Nat
  | .sys => (0x00, 1)
  | .keyrack => (0x01, 1)
  | .pinmux => (0x02, 1)
  | .clk => (0x03, 1)
  | .supply => (0x04, 1)
  | .path => (0x05, 1)
  | .seq => (0x06, 1)
  | .cellar => (0x07, 1)
  | .rtc => (0x08, 1)
  | .fault => (0x09, 1)
  | .scaolo => (0x0A, 1)
  | .otp => (0x0B, 1)
  | .rompatch => (0x0C, 1)
  | .secboot => (0x0D, 1)
  | .debug => (0x0E, 1)
  | .mram => (0x0F, 1)
  | .dom => (0x10, 16)
  | .timebase => (0x20, 1)
  | .proof => (0x21, 1)
  | .galley => (0x22, 1)
  | .chg => (0x23, 1)
  | .gauge => (0x24, 1)
  | .disch => (0x25, 1)
  | .monadc => (0x26, 1)
  | .bin => (0x27, 1)
  | .openwire => (0x28, 1)
  | .cal => (0x29, 1)
  | .intc => (0x2A, 2)
  | .hostport => (0x2C, 1)
  | .t1s => (0x2D, 1)
  | .can => (0x2E, 2)
  | .conv => (0x30, 8)
  | .check => (0x38, 4)
  | .tile => (0x40, 24)
  | .adc => (0x60, 16)
  | .mbox => (0x70, 8)
  | .ring => (0x80, 96)

/-- Counter words that the proof mirror of a page of this kind shows (PAGE_CAPS.MIRROR_WORDS, R30). -/
def PageKind.mirrorWords : PageKind → Nat
  | .sys => 8
  | .keyrack => 1
  | .pinmux => 0
  | .clk => 3
  | .supply => 8
  | .path => 6
  | .seq => 6
  | .cellar => 3
  | .rtc => 5
  | .fault => 7
  | .scaolo => 2
  | .otp => 4
  | .rompatch => 1
  | .secboot => 5
  | .debug => 2
  | .mram => 6
  | .dom => 5
  | .timebase => 7
  | .proof => 3
  | .galley => 25
  | .chg => 7
  | .gauge => 11
  | .disch => 3
  | .monadc => 3
  | .bin => 4
  | .openwire => 4
  | .cal => 0
  | .intc => 67
  | .hostport => 3
  | .t1s => 5
  | .can => 6
  | .conv => 20
  | .check => 5
  | .tile => 12
  | .adc => 7
  | .mbox => 4
  | .ring => 5

/-- Bit of EVENT that is RANGE on a page of this kind, where the page has one (R54 and the field tables). -/
def PageKind.rangeBit : PageKind → Option Nat
  | .sys => none
  | .keyrack => none
  | .pinmux => some 8
  | .clk => none
  | .supply => some 12
  | .path => some 15
  | .seq => some 11
  | .cellar => some 10
  | .rtc => some 14
  | .fault => some 13
  | .scaolo => some 10
  | .otp => some 10
  | .rompatch => none
  | .secboot => some 10
  | .debug => some 10
  | .mram => some 12
  | .dom => some 11
  | .timebase => some 18
  | .proof => none
  | .galley => none
  | .chg => some 16
  | .gauge => some 18
  | .disch => none
  | .monadc => some 9
  | .bin => some 11
  | .openwire => some 11
  | .cal => none
  | .intc => some 9
  | .hostport => some 9
  | .t1s => some 11
  | .can => some 11
  | .conv => some 20
  | .check => some 10
  | .tile => some 16
  | .adc => some 12
  | .mbox => some 11
  | .ring => none

/-- FIRST and PER of the fault sources of a page kind (R396); none where the kind has no sources. -/
def PageKind.sources : PageKind → Option (Nat × Nat)
  | .sys => some (0, 10)
  | .keyrack => some (10, 1)
  | .pinmux => none
  | .clk => some (11, 5)
  | .supply => some (16, 3)
  | .path => some (19, 3)
  | .seq => some (22, 3)
  | .cellar => none
  | .rtc => none
  | .fault => some (25, 2)
  | .scaolo => some (27, 16)
  | .otp => some (43, 3)
  | .rompatch => some (46, 1)
  | .secboot => some (47, 2)
  | .debug => some (49, 1)
  | .mram => some (50, 2)
  | .dom => some (52, 3)
  | .timebase => some (100, 5)
  | .proof => none
  | .galley => some (105, 2)
  | .chg => some (107, 7)
  | .gauge => some (114, 2)
  | .disch => some (116, 2)
  | .monadc => some (118, 2)
  | .bin => none
  | .openwire => some (120, 2)
  | .cal => none
  | .intc => some (122, 1)
  | .hostport => some (124, 2)
  | .t1s => some (126, 2)
  | .can => some (128, 2)
  | .conv => some (132, 5)
  | .check => some (172, 1)
  | .tile => some (176, 3)
  | .adc => some (248, 2)
  | .mbox => some (280, 1)
  | .ring => some (288, 1)

/-- Default and locked minimum severity of FAULT bit `b` of a page kind, 0 LOG to 5 RESET (the fault tables of the
block chapters: R78, R104, R134, R171, R194, R233, R277, R308, R335, R363, R417, R456, R488, R511, R535). DOM has two
classes of domain (R363) and is given by `domSeverity`. -/
def PageKind.severities : PageKind → List (Nat × Nat)
  | .sys => [(5, 4), (5, 4), (4, 4), (4, 4), (4, 3), (1, 0), (0, 0), (0, 0)]
  | .keyrack => [(1, 1)]
  | .pinmux => []
  | .clk => [(1, 0), (4, 4), (1, 1), (4, 4), (1, 0)]
  | .supply => [(4, 3), (1, 0), (0, 0)]
  | .path => [(1, 0), (1, 0), (1, 0)]
  | .seq => [(3, 1), (1, 0), (0, 0)]
  | .cellar => []
  | .rtc => []
  | .fault => [(1, 1), (0, 0)]
  | .scaolo => [(4, 4), (4, 4), (4, 4), (4, 4), (4, 4), (4, 4), (4, 3), (3, 1), (4, 4)]
  | .otp => [(3, 1), (1, 0), (1, 0)]
  | .rompatch => [(3, 1)]
  | .secboot => [(0, 0), (1, 0)]
  | .debug => [(1, 0)]
  | .mram => [(1, 0), (1, 0)]
  | .dom => []
  | .timebase => [(1, 0), (1, 0), (4, 3), (1, 0), (1, 0)]
  | .proof => []
  | .galley => [(1, 0), (3, 1)]
  | .chg => [(1, 0), (1, 0), (1, 0), (3, 1), (3, 1), (3, 3), (3, 1)]
  | .gauge => [(1, 0), (1, 0)]
  | .disch => [(4, 3), (4, 3)]
  | .monadc => [(4, 4), (3, 3)]
  | .bin => []
  | .openwire => [(1, 0), (1, 0)]
  | .cal => []
  | .intc => [(1, 0)]
  | .hostport => [(1, 0), (1, 0)]
  | .t1s => [(1, 0), (1, 0)]
  | .can => [(1, 0), (1, 0)]
  | .conv => [(3, 1), (2, 1), (3, 3), (3, 3), (3, 3)]
  | .check => [(0, 0)]
  | .tile => [(1, 0), (3, 1), (4, 3)]
  | .adc => [(3, 1), (3, 3)]
  | .mbox => [(1, 0)]
  | .ring => [(1, 0)]

end Sys2Proof.Machine
end

