-- ==== Sys2Proof/Machine/Dev.lean ====
section
/-!
DEFINITION. The state of the blocks beside their registers: what the spec gives a block and no register shows. Each block
has a structure of its own; `Dev` gathers them with the register file. All of it is plain data.
-/
namespace Sys2Proof.Machine

/-- Register contents by key, in one canonical form: keys strictly rising, and no entry equal to the register's reset
value. The key of register `ofs` of page `p` in bank `b` is `b * 0x100000 + p * 0x1000 + ofs` (R24, R28; banks R47). -/
abbrev RegFile := List (Nat × Word)

/-! ## Stage tiles (R107–R136) -/

/-- What its group asks of a tile at the tile's next period start (R122, R150, R163). -/
inductive Want
  | stop | hold | run
  deriving DecidableEq, Repr

/-- The RW fields of a tile as taken into use at the last period start (R112). -/
structure TileLive where
  valley : Word := 0
  cfgA : Word := 0x20#32
  cfgB : Word := 0x20#32
  slopeA : Word := 0
  slopeB : Word := 0
  gain : Word := 0
  deriving DecidableEq, Repr

/-- A tile beside its registers. Positions are edge steps from the period start S (R107, R108). -/
structure TileS where
  start : Nat := 0                       -- S of the present period, edge steps since reset (R108)
  want : Want := .stop
  gPer : Nat := 0                        -- period, on-time, phase and thresholds supplied by the group (R112)
  gOn : Nat := 0
  gPhase : Nat := 0
  gDac : Nat := 0
  swapOut : Bool := false                -- the group exchanges the OUT fields (R148)
  swapLive : Bool := false               -- that exchange as taken at the period start (R112)
  share : Int := 0                       -- share and hold for the trim (R132, R133, R164)
  hold : Bool := false
  live : TileLive := {}
  len : Nat := 0                         -- length of the present period (R117); in VALLEY mode the longest it can be
  lastLen : Nat := 0                     -- length of the period before (R149)
  hTodo : List (Nat × Nat) := []         -- pulses of this period still to rise: rising edge, scheduled fall (R114, R118)
  lTodo : List (Nat × Nat) := []
  hSched : List (Nat × Nat) := []        -- pulses that have risen in it or were carried into it (R115, R119)
  lSched : List (Nat × Nat) := []
  riseH : Nat := 0                       -- last rising edges, edge steps since reset (R127)
  riseL : Nat := 0
  limited : Bool := false                -- the period is cycle-limited (R130)
  dropped : Bool := false                -- a pulse was dropped in it (R119)
  valleys : Nat := 0                     -- valley detections counted in it (R116)
  valleyAt : Option Nat := none          -- position of the detection that ends it (R116)
  trimAcc : Int := 0                     -- acc of R132
  trimSum : Int := 0                     -- results of TRIM_CFG.IN in this period
  trimN : Nat := 0
  tableCpc : Nat := 0                    -- CPC of the tap table in use, 1/16 cell (R109)
  pendCpc : Option Nat := none           -- a valid result waiting for the period start (R110)
  lastCpc : Option Nat := none           -- the last valid measurement (R109)
  calBusy : Bool := false
  blankA : List (Nat × Bool) := []       -- blanking intervals: end in edge steps since reset, tripped inside it (R128)
  blankB : List (Nat × Bool) := []
  tripAt : Option Nat := none            -- clock on which TILE_TRIP was raised (R134)
  killSafe : Bool := false               -- causes that hold the tile in KILLED (R124)
  killTrip : Bool := false
  killOut : Bool := false
  deriving DecidableEq, Repr

/-! ## Converter groups (R137–R187) -/

/-- The law coefficients in use, as against the staged registers (R154). -/
structure LawSet where
  b : Vector Int 4 := Vector.replicate 4 0
  a : Vector Int 3 := Vector.replicate 3 0
  outMin : Int := 0
  outMax : Int := 0x73333333
  kp : Int := 0
  ki : Int := 0
  deriving DecidableEq, Repr

/-- The histories of one channel of the law engine (R151). -/
structure LawHist where
  e1 : Int := 0
  e2 : Int := 0
  e3 : Int := 0
  u1 : Int := 0
  u2 : Int := 0
  u3 : Int := 0
  deriving DecidableEq, Repr

/-- A command or galley action collected for a group's next update point (R103, R156, R160). -/
inductive GroupCmd
  | ref (v : Int)                                   -- REF write, REF_SET or the charge manager: a new target
  | step (v : Int)                                  -- REF_STEP
  | permit (add shed wrAdd wrShed : Bool)           -- PHASE_PERMIT
  | probe (down : Bool) (pct ms : Nat)              -- PROBE_START
  deriving DecidableEq, Repr

/-- A probe step in progress (R160). -/
structure ProbeRun where
  down : Bool
  pct : Nat
  left : Nat             -- edge steps until the step ends
  deriving DecidableEq, Repr

/-- A mean over a group period: sum and number of the results delivered (R161, R179, R207). -/
structure MeanAcc where
  sum : Int := 0
  n : Nat := 0
  deriving DecidableEq, Repr

/-- A group beside its registers. `p` is the present reference P in units of 1/25,600,000 of a Q15.16 step, so that a
slew in 2^−16 code per ms over edge steps of 39.0625 ps is exact (R157). Times are edge steps. -/
structure ConvS where
  target : Int := 0
  rateUp : Bool := true
  rate : Nat := 0                        -- RATE and UNIT fixed by the latest command (R157)
  rateUs : Bool := false
  p : Int := 0
  law : LawSet := {}
  hist : Vector LawHist 3 := Vector.replicate 3 {}
  integ : Int := 0                       -- outer integrator and held output (R155)
  held : Int := 0
  outerCnt : Nat := 0
  loadReq : Bool := false                -- LAW_CTRL requests waiting for U (R154)
  clearReq : Bool := false
  collected : List GroupCmd := []
  per : Nat := 0                         -- group period in use
  frame : Nat := 0                       -- frame origin F, edge steps since reset (R142)
  uAt : Nat := 0                         -- the last update point, edge steps since reset (R144)
  askRun : Bool := false                 -- the tiles wait for the first U of a soft start (R150)
  vSamp : Int := 0                       -- results taken at the sampling instant: FB.IN_V, IN_I, IN_FB (R144, R166, R170)
  iSamp : Int := 0
  ySamp : Int := 0
  cleanRun : Nat := 0                    -- clocks of clean run before `cleanFrom` (R176)
  cleanFrom : Option Nat := none         -- clock from which the clean-run timer counts
  hicFrom : Nat := 0                     -- clock of the entry into HICCUP (R175)
  verdictDue : Option (Option Int) := none -- a decision of R181 is due at this U: the mean of its period
  addT : Nat := 0                        -- consecutive periods of R161, R165
  shedT : Nat := 0
  burstT : Nat := 0
  burstLeft : Nat := 0                   -- periods left of the present burst (R166)
  waking : Bool := false                 -- low power withdrawn; the first burst waits for full rate (R168)
  holdT : Nat := 0                       -- periods left of the hold after a change or a burst (R164)
  changeT : Nat := 0                     -- periods left of the 16 after an add or shed (R16)
  probe : Option ProbeRun := none
  signals : List Nat := []               -- slots whose tiles signalled since the last U (R174)
  limitedSeen : Bool := false            -- a cycle-limited period in any tile since the last U (R160)
  sinceLimited : Nat := 16               -- carrier periods since the last cycle-limited one, up to 16 (R16)
  begun : Bool := false                  -- an update point has opened a period since the group left STOPPED
  interval : Nat := 0                    -- edge steps from the present U to the next
  elapsed : Nat := 0                     -- edge steps from the last U to the present one
  sampled : Bool := true                 -- the law engine has computed since the last U (R152)
  slewOpen : Bool := false               -- the latest command's target has not been reached (R158)
  iTot : MeanAcc := {}                   -- total current over the group period (R161)
  iPh : Vector MeanAcc 12 := Vector.replicate 12 {}   -- phase currents by binding slot (R179)
  iHist : List Int := []                 -- means of the consecutive switching periods before, newest first (R185)
  vPrev : Option Int := none             -- v at the last sampling instant, in a switching period (R185)
  sampOff : Nat := 0                     -- that instant after its U
  rNow : Vector Int 3 := Vector.replicate 3 0          -- r of each channel (R158)
  suspect : Option Nat := none           -- phase that every counted verdict named (R181)
  mixed : Bool := false                  -- counted verdicts did not all name one phase
  healthy : Bool := true                 -- the last verdict was HEALTHY (R197, SUSPECT)
  circ : Bool := false                   -- the group circulates for DISCH (R192)
  deriving DecidableEq, Repr

/-! ## DC-link discharge (R188–R195) -/

/-- The discharge block beside its registers. -/
structure DischS where
  on : Bool := false                     -- command to the ball
  byStart : Bool := false                -- the discharge began by command START (R191)
  since : Nat := 0                       -- clock on which DISCH was switched on
  holdFrom : Nat := 0                    -- clock on which HOLD began (R189)
  guardUntil : Nat := 0                  -- clock until which a SAFE or brown-out trigger keeps it on (R189)
  armed : Bool := false                  -- a DISARM or HALT trigger waits for the tiles (R188)
  armedHalt : Bool := false
  tests : Nat := 0                       -- results of AF[IN] during a TEST, and an open-wire flag among them (R193)
  testOw : Bool := false
  deriving DecidableEq, Repr

/-! ## Fault collection and Scaolo (R396–R429) -/

/-- An event or repeat waiting to be recorded (R406, R407). -/
structure FaultEvent where
  src : Nat
  sev : Nat
  folio : Word
  angle : Word
  data : Word
  again : Bool := false                  -- a repeat (R397)
  deriving DecidableEq, Repr

/-- The collector and the island beside their registers. -/
structure FaultS where
  pend : List FaultEvent := []           -- the pending set, oldest first (R406)
  reps : List (Nat × Nat) := []          -- REPEAT increments of sources already pending
  quietSince : Option Nat := none        -- clock at which the quiet timer stood at 0 (R412)
  windowFrom : Nat := 0                  -- clock at which the recovery window opened (R413)
  causes : List (Nat × Word) := []       -- what FAULT_CAUSE takes for a source that is active (R32)
  checks : List Nat := []                -- clocks of the events whose Scaolo checks are due, oldest first (R416)
  resetAt : Nat := 0                     -- clock of the latest RESET reaction (R402)
  resetDue : Bool := false               -- a RESET reaction waits for its device reset (R402)
  cmdReset : Bool := false               -- SYS.CMD RESET waits for the due checks (R416)
  backup : Bool := false                 -- backup reaction in force (R416)
  brown : Bool := false                  -- the reaction to a brown-out is made; the domains fall (R19)
  faultnLatch : Bool := true             -- FAULT_N asserted until the next self-test pass (R405)
  sevCopy : List (Nat × Word) := []      -- Scaolo's copy of SEV words that differ from reset (R415)
  refDiffs : Nat := 0                    -- consecutive differing band-gap comparisons (R417)
  ptBoot : Vector Bool 24 := Vector.replicate 24 false   -- tiles tested since the latest entry into BOOT (R418)
  ptLast : Vector Nat 24 := Vector.replicate 24 0   -- clock of each tile's last stop-line test (R418)
  selftestRun : Bool := false
  deriving DecidableEq, Repr

/-! ## Angle timebase and proofs (R48–R82) -/

/-- The catch-up to the grid of R63. -/
inductive Slew
  | none
  | toGrid     -- the folio in progress ends on a grid angle 0
  | complete   -- the folio completes at its present rate; the search follows at angle 0
  deriving DecidableEq, Repr

/-- The timebase beside its registers. Rates are Hz × 65,536. -/
structure TbS where
  started : Bool := false                -- ENABLE has been 1 since reset (R50)
  slew : Slew := .none
  dropTracked : Bool := false            -- lock fell, or the request was replaced, during the catch-up (R63, R64)
  phi : Nat := 0                         -- PHI; a wrap that is due shows above bit 47 (R48)
  lines : Vector Int 3 := Vector.replicate 3 0         -- what the PLL took from the line inputs at its last update (R55)
  amp : Nat := 0                         -- reference amplitude at the last PLL update (R57, R60)
  gridFreq : Nat := 0                    -- PLL frequency estimate
  heldFreq : Nat := 0                    -- mean of the last locked tracked cycle (R53)
  followFreq : Nat := 0                  -- rate a follower has taken from FMARK (R71)
  freqSum : Nat := 0                     -- PLL frequencies of the present tracked cycle, and their number
  freqN : Nat := 0
  nextFolio : Option Nat := none         -- folio at which a regained follower continues (R72)
  phaseErr : Int := 0
  masterErr : Int := 0                   -- PLL angle minus master angle (R61)
  masterRun : Nat := 0
  crefFrom : Nat := 0                    -- a reference instant of CREF and its period in use, edge steps (R67, R68)
  crefPer : Nat := 256000
  syncAt : Nat := 0                      -- the last SYNCIN edge, edge steps (R68)
  jumpRun : Nat := 0                     -- consecutive updates beyond JUMP_CFG.LIMIT (R58, R61)
  lockRun : Nat := 0                     -- consecutive PLL cycles within LOCK_WIN (R56)
  inWin : Bool := false                  -- every update of the present PLL cycle was within it
  lowRun : Nat := 0                      -- consecutive updates with the amplitude below LEVEL (R57)
  offRun : Nat := 0                      -- consecutive PLL cycles outside 40–70 Hz (R57)
  offCycle : Bool := false               -- every update of the present PLL cycle was outside
  fmValid : Nat := 0                     -- progress of the lock rule of R71: valid frames in order so far
  fmLast : Word := 0                     -- folio of the last valid frame
  fmBad : Nat := 0                       -- consecutive folios with an error (R72)
  fmHeld : Bool := false                 -- FMARK was locked and has been lost (R72)
  fmDead : Bool := false                 -- only a device reset lets the follower rejoin (R72)
  fmAt : Nat := 0                        -- clock of the last frame (R72)
  fmOut : List Nat := []                 -- high times in ns of the cells of the frame that is sent (R69)
  syncGood : Nat := 0                    -- consecutive edges within ±156.25 ps (R68)
  deriving DecidableEq, Repr

/-- One proof bank: its stamp and its copy of the counters (R73). -/
structure Bank where
  seq : Word := 0
  folio : Word := 0
  angle : Word := 0
  rtc : Word := 0
  copy : RegFile := []
  deriving DecidableEq, Repr

/-- The proof unit beside its registers. -/
structure ProofS where
  active : Bank := {}
  other : Bank := {}
  holdSince : Nat := 0                   -- clock at which the present hold began (R76)
  periodFrom : Nat := 0                  -- clock from which PERIODIC counts (R74)
  copyAt : Option Nat := none            -- clock of the last copy; the bank flips on the next one (R75)
  missAt : Option Nat := none            -- clock on which a proof was last missed under a hold (R76)
  wait : Nat := 0                        -- triggers of the clock of a flip, which wait for the next clock (R75)
  deriving DecidableEq, Repr

/-! ## Galley (R83–R106) -/

/-- An action that is due: where it came from and what it says (R83, R101). -/
structure Act where
  gen : Nat              -- 0 for the ending folio, 1 for the new one, within one slot
  sheet : Nat
  entry : Nat
  code : Nat
  target : Nat
  operand : Nat
  deriving DecidableEq, Repr

/-- A pending impose request (R91–R93). -/
structure ImposeReq where
  base : Nat
  len : Nat
  div : Nat              -- divider minus 1
  passed : Bool := false
  deriving DecidableEq, Repr

/-- The galley beside its registers and its entries in memory. -/
structure GalS where
  running : Bool := false                -- ENABLE has taken effect at an angle 0 (R89)
  k : Vector Nat 16 := Vector.replicate 16 0          -- folio boundaries since the impose (R87)
  cur : Vector Nat 16 := Vector.replicate 16 0        -- next entry to read (SHEET_CURSOR shows its low 14 bits)
  pend : Vector (Option ImposeReq) 16 := Vector.replicate 16 none
  scanQ : List Nat := []                 -- sheets waiting for their scan, the one being scanned first (R93)
  due : List Act := []                   -- due in the present slot
  deferred : List Act := []              -- oldest first, at most 64 (R102)
  deriving DecidableEq, Repr

/-! ## Measurement (R200–R244) -/

/-- Newest delivered result of a fast input (R207). -/
structure AfRes where
  val : Int := 0
  seen : Bool := false                   -- delivered since the converter was enabled
  raw : Int := 0                         -- factory-corrected value of the last result without the OW flag (R228)
  deriving DecidableEq, Repr

/-- A decimation group in progress of one input of one stream (R214). -/
structure DecAcc where
  n : Nat := 0
  sum : Int := 0
  sat : Bool := false
  ow : Bool := false
  lp : Bool := false
  deriving DecidableEq, Repr

/-- A fast converter beside its registers. -/
structure AdcS where
  slots : Vector Word 16 := Vector.replicate 16 0      -- list in use, taken at slot 0 (R200)
  len : Nat := 1
  cur : Nat := 0                         -- slot in progress
  lpEn : Bool := false                   -- LP_EN of the list in use (R200)
  since : Nat := 0                       -- clock on which the conversion in progress started (R200, R201)
  held : Option (Word × Nat × Nat) := none  -- folio, angle and WIN_STATE at its hold instant (R201, R214)
  lastDone : Nat := 0                    -- clock on which a conversion was last completed (R226)
  low : Bool := false                    -- converting at low power (R206)
  leaving : Bool := false                -- leaving low power
  dec : List (Nat × DecAcc) := []        -- by 4 × stream + input
  deriving DecidableEq, Repr

/-- What has been accumulated in one open bin (R209). -/
structure BinAcc where
  folio : Word
  idx : Nat
  sum : Int := 0
  n : Nat := 0
  sat : Bool := false
  lp : Bool := false
  deriving DecidableEq, Repr

/-- A binned channel beside its registers (R208–R213). -/
structure BinS where
  next : Option (Word × Nat) := none     -- the bin that closes next, while the channel runs
  accs : List BinAcc := []               -- open bins in which results have fallen
  last : Int := 0                        -- last written MEAN
  openAt : Nat := 0                      -- clock on which the present bin's first count was issued (R209)
  done : Option Word := none             -- folio whose last bin was written last
  deriving DecidableEq, Repr

/-- A ring beside its registers (R216–R222). -/
structure RingS where
  lastFolio : Option Word := none        -- folio of the last STAMP record (R218)
  dropRun : Nat := 0                     -- records dropped since OVERFLOW was set (R221)
  gapDue : Bool := false                 -- the next record written is a GAP
  deriving DecidableEq, Repr

/-- Open-wire diagnosis (R227–R231). -/
inductive OwPhase
  | idle | up | down
  deriving DecidableEq, Repr

/-- Open-wire diagnosis beside its registers. -/
structure OwS where
  inRound : Bool := false
  input : Nat := 0                       -- input under test
  phase : OwPhase := .idle
  n : Int := 0
  u : Int := 0
  seen : Option Int := none              -- the result of the input under test that the present step takes
  since : Nat := 0                       -- clock on which the pull source was last switched
  tail : List Nat := []                  -- inputs whose next result still carries OW (R228)
  roundFrom : Option Nat := none         -- clock on which the last round started (R227)
  run : List (Nat × Nat × Nat) := []     -- input, candidate verdict, consecutive tests (R231)
  deriving DecidableEq, Repr

/-- The monitor converter beside its registers (R223–R225). -/
structure MonS where
  chan : Nat := 0                        -- channel in progress
  since : Nat := 0                       -- clock on which its conversion started (R223)
  scanFrom : Nat := 0                    -- clock on which the scan, or the cycle in HIBERNATE, started (R224, R225)
  hib : Nat := 0                         -- in HIBERNATE: place of the channel in progress among the masked ones (R225)
  calPrev : List (Nat × Word × Nat) := []  -- UCAL words replaced on a clock: input, previous word, clock (R203)
  raw : List (Nat × Int) := []           -- factory-corrected value of the slow channels' last results
  deriving DecidableEq, Repr

/-! ## Domains (R342–R348) -/

/-- Consecutive results of a domain's judgement (R345, R346). -/
structure DomS where
  inRun : Nat := 0
  uvRun : Nat := 0
  ovRun : Nat := 0
  since : Nat := 0                       -- clock at which the present state was entered
  late : Bool := false                   -- OFF_TIME has elapsed in FALLING (R354)
  deriving DecidableEq, Repr

/-! ## Charge manager (R245–R279) -/

/-- A sum of squares and its number of results: what the rms value of a line input needs (R269). -/
structure SqAcc where
  sum : Nat := 0
  n : Nat := 0
  deriving DecidableEq, Repr

/-- The profile entry in use (R263, R264). -/
structure ChgEntry where
  iLim : Nat := 0
  vLim : Nat := 0
  exitVal : Nat := 0
  exit : Nat := 0                        -- 0 VOLT, 1 CURR, 2 TIME
  last : Bool := false
  safe : Nat := 0                        -- units of 10 s
  zone : Nat := 0
  deriving DecidableEq, Repr

/-- How far an end of a session has come (R247). -/
inductive ChgEnding
  | none
  | ramp         -- reference 0 commanded; the current falls
  | groups       -- GO cleared; the groups stop in order
  deriving DecidableEq, Repr

/-- What R253 still expects of the pilot. -/
inductive S2Watch
  | none
  | closing      -- S2 closed; C not seen yet
  | closed       -- C seen; B must not return
  | opening      -- S2 opened; C must be left
  deriving DecidableEq, Repr

/-- What CPGEN puts out (R272). -/
inductive CpGen
  | idle | high | pwm | low
  deriving DecidableEq, Repr

/-- What has happened to the device since a tick of the charge manager (R249, R250). -/
structure ChgSeen where
  reacted : Bool := false                -- a HALT or SAFE reaction of the device
  disarmed : Bool := false               -- a DISARM
  battLost : Bool := false               -- CONV_BATTERY_LOST of a group
  latched : Bool := false                -- a group has entered LATCHED for another reason
  deriving DecidableEq, Repr

/-- The charge manager beside its registers. -/
structure ChgS where
  reacted : Bool := false                -- since the last tick: a HALT or SAFE reaction of the device (R249)
  disarmed : Bool := false               -- a DISARM (R250)
  battLost : Bool := false               -- CONV_BATTERY_LOST of a group (R250)
  latched : Bool := false                -- a group has entered LATCHED for another reason (R249)
  seen : ChgSeen := {}                   -- those four as the present tick found them
  pilotBad : Bool := false               -- PILOT stood at the last tick with the pilot in D, E, F or INVALID (R250)
  ending : ChgEnding := .none
  endT : Nat := 0                        -- whole ticks since reference 0 was commanded
  endNew : Bool := false                 -- it was commanded since the last tick ended
  s2T : Nat := 0                         -- ticks since S2 was last switched
  watch : S2Watch := .none
  preT : Nat := 0                        -- ticks in PRECHARGE
  zeroT : Nat := 0                       -- ticks with SUSP_MASK 0 in SUSPEND
  conf : Nat := 0                        -- confirmation count (R266, R270)
  entry : ChgEntry := {}
  eqStep : Nat := 0                      -- equivalent counts in 1/256 ms (R267)
  eqTotal : Nat := 0
  expire : Nat := 0                      -- timers that expired on the last tick: bit 0 step, bit 1 total (R268)
  expired : Nat := 0                     -- the timers that RESUME resets (R251)
  exitMet : Bool := false                -- the step's exit was met on the last tick (R266)
  iAcc : MeanAcc := {}                   -- results of the present tick (R245)
  vAcc : MeanAcc := {}
  lAcc : MeanAcc := {}
  iOut : Int := 0
  vOut : Int := 0
  vLink : Int := 0
  sq : Vector SqAcc 3 := Vector.replicate 3 {}                 -- line inputs in the present tick (R269)
  sqHist : Vector (List SqAcc) 3 := Vector.replicate 3 []      -- and in the 20 before it, newest first
  zLo : Option Nat := none               -- tracked zones of T_LO and T_HI (R262)
  zHi : Option Nat := none
  ntc : Vector (Option Int) 4 := Vector.replicate 4 none       -- readings of the NTC slots; none unknown (R260)
  known : Bool := false                  -- the temperature is known (R261)
  bmsAge : Option Nat := none            -- ticks since the last accepted BMS write (R261)
  bmsDone : Nat := 0                     -- check units that have completed a check since that write, by bit (R259)
  term : Nat := 0                        -- pilot term (R256)
  therm : Nat := 0                       -- thermal term (R258)
  cand : Nat := 7                        -- window of the latest plateau and how long it has been held (R254)
  candRun : Nat := 0                     -- consecutive pilot periods in it
  candNs : Nat := 0                      -- ns without PWM in it
  flatHigh : Nat := 0                    -- ns without an edge, at the high and at the low level (R255)
  flatLow : Nat := 0
  perOn : Nat := 0                       -- high time and duration of the periods for DUTY, ns (R255)
  perTot : Nat := 0
  perN : Nat := 0
  v2v : Bool := false                    -- the REVERSE in progress is V2V
  cpgen : CpGen := .idle
  cpDuty : Nat := 0
  cpBad : Nat := 0                       -- how long the low plateau has not been below −11.0 V, 1,000,000 a period (R273)
  deriving DecidableEq, Repr

/-! ## Local supply, power path and clocks (R311–R341) -/

/-- A buck beside its registers (R325–R327). -/
structure BuckS where
  soft : Bool := false                   -- soft start in progress
  off : Bool := false                    -- in a hiccup off-time
  since : Nat := 0                       -- clock at which the soft start or the off-time began
  retry : Nat := 0
  deriving DecidableEq, Repr

/-- The release boost beside its registers (R319–R321). -/
structure BoostS where
  enabled : Bool := false                -- DOM[9] is enabled
  from' : Nat := 0                       -- REL_STATE before UV_PAUSE
  pauses : Nat := 0                      -- in this run
  pausedClk : Nat := 0                   -- clocks paused in this run before the present pause
  pauseFrom : Nat := 0                   -- clock at which the present pause began
  startAt : Nat := 0                     -- clock at which the run started
  coolFrom : Nat := 0                    -- clock at which the boost stopped
  deriving DecidableEq, Repr

/-- The backup charger beside its registers; times in ms (R315–R318). -/
structure BakS where
  preT : Nat := 0
  totT : Nat := 0
  termT : Nat := 0                       -- current below ITERM
  from' : Nat := 0                       -- state before SUSPEND
  cand : Nat := 7                        -- zone of the latest measurements and how many agreed (R317)
  candRun : Nat := 0
  deriving DecidableEq, Repr

/-- Supply, path and clocks beside their registers. -/
structure SupplyS where
  buck : Vector BuckS 4 := Vector.replicate 4 {}
  boost : BoostS := {}
  bak : BakS := {}
  pllLost : Bool := false                -- the PLL was lost since the last device reset (R333)
  vinLostAt : Nat := 0                   -- clock at which VIN_OK last cleared, or of the cellar power-on reset (R355)
  xtalAt : Nat := 0                      -- clock at which XTAL was last lost, or of the last device reset (R332)
  deriving DecidableEq, Repr

/-! ## Shadow gauge (R280–R310) -/

/-- A probe step that the gauge follows (R292): the clock of its first update point, its duration in ms, the length of its baseline
in clocks, and the charge and the count at that moment; then what the baseline and the windows t0, t1 and t2 gave. -/
structure GaugeProbe where
  start : Nat
  ms : Nat
  pre : Nat
  q : Word
  cc : Int
  i0 : MeanAcc := {}
  v0 : MeanAcc := {}
  span : Int := 0                        -- of I_NOW over the ticks of the baseline (R294)
  i : Vector MeanAcc 3 := Vector.replicate 3 {}
  v : Vector MeanAcc 3 := Vector.replicate 3 {}
  ccs : Vector Int 3                     -- CC as the last tick at or before each window's time left it
  deriving DecidableEq, Repr

/-- The gauge beside its registers. Binary32 values are words. -/
structure GaugeS where
  iAcc : MeanAcc := {}                   -- results of the present tick (R284)
  vAcc : MeanAcc := {}
  iPrev : Option MeanAcc := none         -- the previous means
  vPrev : Option MeanAcc := none
  pend : Int := 0                        -- charge counted since WAIT_RESTORE was entered, µC (R303)
  ccPrev : Int := 0                      -- CC at the last filter run; kept (R287)
  pqv : Word := 0                        -- off-diagonal covariance; kept (R285)
  pqc : Word := 0
  pvc : Word := 0
  restT : Nat := 0                       -- ticks of rest (R289)
  ticks : Nat := 0                       -- ticks since the last filter instant (R287)
  lastT : Option Int := none             -- last known T in 0.05 °C (R291)
  runSince : Nat := 0                    -- clock at which RUN was entered (R294)
  iLog : List (Nat × Int) := []          -- results of the longest baseline with their clocks, newest first (R292)
  vLog : List (Nat × Int) := []
  tickLog : List (Nat × Int) := []       -- its ticks with I_NOW (R294)
  probe : Option GaugeProbe := none
  restore : Option (List Word) := none   -- an accepted record waiting for the tick boundary (R303)
  record : List Word := []                -- the record formed last; kept (R300)
  recAt : Nat := 0                       -- clock at which it was formed, or RUN was entered with none
  svLow : Bool := false                  -- SOC_V lies below 0 %, above 100 % (R290)
  svHigh : Bool := false
  pubReq : Bool := false                 -- command PUBLISH, or an anchor, since the last filter run
  driftDue : Bool := false               -- REJ_RUN has reached N_REJ (R288)
  frozenFrom : Nat := 0                  -- GSTATE before FROZEN (R281)
  hibFrom : Option Nat := none           -- clock from which HIB_TIME counts (R296)
  gapFrom : Option Nat := none           -- clock from which WAKE_GAP counts
  resumeDue : Bool := false              -- the corrections of R298 are due before the first tick
  deriving DecidableEq, Repr

/-! ## Sequencer (R349–R365) -/

/-- What the step in progress waits for (R352, R358). -/
inductive SeqWait
  | none | time | waitv | stair
  deriving DecidableEq, Repr

/-- What a power-down run leads to (R350, R355). -/
inductive SeqGoal
  | none | hibernate | cellar | parked
  deriving DecidableEq, Repr

/-- The sequencer beside its registers. -/
structure SeqS where
  upDue : Bool := true                   -- BOOT has been entered and UP has not begun yet (R350)
  pc : Nat := 0                          -- step in progress or next
  wait : SeqWait := .none
  waitAt : Nat := 0                      -- clock at which that wait began
  offAt : Nat := 0                       -- clock at which a domain last entered OFF (R356)
  relAt : Vector Nat 4 := Vector.replicate 4 0   -- clock at which the stretch of each RSTOUT began (R360)
  lastDis : Option Nat := none           -- domain that the next DISABLE of this run stalls on (R354)
  left : List Nat := []                  -- what the unwind still has to disable, first one first (R354)
  stopReq : Bool := false                -- STOP_AUX waits for the step boundary
  goal : SeqGoal := .none
  vinReq : Bool := false                 -- the latched on request includes one from VIN_OK (R356)
  wakeCan : Nat := 0                     -- wake settings as SLEEP latched them: WAKE_CFG.EN by bit, CFG.WAKE_EN (R524)
  wakeHost : Bool := false
  wakeDom : Vector Nat 2 := Vector.replicate 2 0   -- µs that WAKE_CFG.DOM asks for, as SLEEP latched them (R524)
  deriving DecidableEq, Repr

/-! ## Cellar and calendar (R368–R395) -/

/-- How a measurement of the rate stands (R379). -/
structure MeasS where
  opened : Bool := false                 -- an interval is open
  onRc : Bool := false                   -- ON_RC was 1 in it (R380)
  lost : Bool := false                   -- the grid reference has failed in it (R380, END 0x2)
  folio : Word := 0                      -- folio at its start, for the grid
  ref : Nat := 0                         -- reference time in ns at its opening capture, and the raw tick count there
  tick : Nat := 0
  due : Option (Nat × Nat) := none       -- the capture that ends it
  deriving DecidableEq, Repr

/-- The cellar beside its registers. -/
structure CellarS where
  autoDue : Bool := false                -- no BOOT since the cellar power-on reset (R18)
  islandUp : Bool := false               -- the island has been released and has loaded its program (R349)
  wakeDue : Nat := 0                     -- sources of the wake event that waits for VSYS or a hold-off (R386, R387)
  wakeAt : Nat := 0                      -- its clock and its LINEAR
  wakeLin : Word := 0
  pwronAt : Nat := 0                     -- clock of the latest assertion of PWRON (R388)
  wakeHeld : Vector Bool 4 := Vector.replicate 4 false   -- level that each WAKE input last held for DEB (R384)
  x32At : Nat := 0                       -- clock at which XTAL32 last missed its edges (R377)
  holdOff : Bool := false                -- the hold-off runs in CELLAR (R387)
  holdEnd : Nat := 0                     -- clock at which it ends
  transit : List (Nat × Master × Nat × Word) := []   -- write under way to a page: page, writer, offset, word (R369)
  trimAcc : Nat := 0                     -- acc of R378
  calMatch : Bool := false               -- the calendar alarm matched at its last evaluation (R381)
  meas : MeasS := {}
  deriving DecidableEq, Repr

/-! ## Start-up, OTP and debug (R430–R464) -/

/-- An OTP operation under way (R440, R441, R450–R452). -/
inductive OtpJob
  | none
  | program (w : Nat) (v : Word)
  | margin (region : Nat)
  | resense
  | arb (v : Nat)
  | revoke (slot : Nat)
  deriving DecidableEq, Repr

/-- Start-up beside its registers. Bytes are numbers below 256, in the order received. -/
structure BootS where
  hdr : List Nat := []                   -- the header in use
  col : List Nat := []                   -- the colophon being checked
  verified : Bool := false               -- its checks have passed (R438)
  frag : Option (List Nat × Nat) := none -- partial frame of a boot path and its next fragment count (R529)
  xferAt : Nat := 0                      -- clock of the last accepted transfer (R436)
  failAt : Nat := 0                      -- clock at which HOLDOFF began (R439)
  fragAt : Nat := 0                      -- clock of the last fragment (R529)
  nonceAt : Nat := 0                     -- clock at which the session nonce was issued (R444)
  jobAt : Nat := 0                       -- clock at which the OTP operation under way began (R450, R451)
  blockUntil : Nat := 0                  -- clock until which no challenge is issued (R444)
  otp : List (Nat × Word) := []          -- OTP cells by word, and their shadow (R449, R450)
  shadow : List (Nat × Word) := []
  job : OtpJob := .none
  token : List (Nat × Word) := []        -- TOKEN words written (R446)
  deriving DecidableEq, Repr

/-! ## Cores, interrupts and memory (R465–R492) -/

/-- A core pair (R465, R466): one architectural state, since its cores run in lockstep. -/
structure CoreS where
  pc : Word := 0
  x : Vector Word 32 := Vector.replicate 32 0
  f : Vector Word 32 := Vector.replicate 32 0
  fcsr : Nat := 0
  mach : Bool := true                    -- machine mode
  mstatus : Nat := 0x1800
  mtvec : Nat := 0
  mscratch : Word := 0
  mepc : Nat := 0
  mcause : Word := 0
  mtval : Word := 0
  mie : Nat := 0
  mcounteren : Nat := 0
  mcountinhibit : Nat := 0
  cycle : Nat := 0                       -- mcycle at clock cycAt from which it counts; none while it does not
  cycAt : Option Nat := none
  minstret : Nat := 0
  mintsrc : Nat := 0
  pmpcfg : Vector Nat 16 := Vector.replicate 16 0
  pmpaddr : Vector Word 16 := Vector.replicate 16 0
  deriving DecidableEq, Repr

/-- The compute side beside its registers. -/
structure CompS where
  core : Vector CoreS 2 := Vector.replicate 2 {}
  stack : Vector (List Nat) 2 := Vector.replicate 2 []   -- level stacks, top first (R479, R480)
  corr : Vector Nat 3 := Vector.replicate 3 0            -- corrections in the present scrub period (R475)
  scrubAt : Nat := 0                     -- clock at which the present scrub period began (R475)
  tickAt : Vector Nat 2 := Vector.replicate 2 0          -- clock of the last edge of TICK, or of the write that started it (R477)
  lockAt : Vector Nat 8 := Vector.replicate 8 0          -- clock at which each mailbox was last LOCKED (R486)
  cycLost : Bool := false                -- the pairs have run on a clock other than 400 MHz since the last device reset
  clearDue : List Nat := []              -- domains whose memory is being cleared (R476)
  resetAt : Nat := 0                     -- clock of the last device reset
  runClk : Nat := 0                      -- clocks spent in RUN since device reset (R588)
  ageBusy : Bool := false                -- an ageing measurement runs (R587)
  ageAt : Nat := 0                       -- clock at which it began
  deriving DecidableEq, Repr

/-! ## Parameter store (R495–R510) -/

/-- The one job of the write controller (R498, R507): a command of a master, or a scan. -/
inductive MramJob
  | none
  | write (who : Master) (ofs : Nat) (bytes : List Nat)
  | srWrite (who : Master) (ring slot seq : Nat) (bytes : List Nat)   -- the whole slot, header first
  | srRead (who : Master) (ring : Nat)
  | rescan (who : Master) (ring : Nat)
  | scan (ring : Nat)
  deriving DecidableEq, Repr

/-- The write controller beside its registers; the array is memory at 0x5000_0000. -/
structure MramS where
  job : MramJob := .none
  scanQ : List Nat := []                 -- rings whose scan waits for the job
  dropEn : Option Nat := none            -- ring that is disabled when its SR_WRITE has completed (R510)
  stalled : List (Reader × Nat × Nat × Flaw × Nat) := []   -- reads that wait for the command: address, bytes (R503)
  jobAt : Nat := 0                       -- clock at which the job began (R500, R507)
  deriving DecidableEq, Repr

/-! ## Network and check units (R514–R535) -/

/-- A network controller beside its registers: the records copied by REQ, by buffer; none empty, none not pending (R519). -/
structure NetS where
  tx : Vector (List Word) 8 := Vector.replicate 8 []
  txAddr : Vector Nat 8 := Vector.replicate 8 0   -- address that each record was copied from (R522)
  offDue : Bool := false                 -- TEC has passed 255 (CAN, R514)
  recov : Bool := false                  -- the recovery of R514 is under way (CAN)
  capAt : Option Nat := none             -- clock of the Sync latch (T1S, R523)
  deriving DecidableEq, Repr

/-- A check-value unit beside its registers (R531, R532). -/
structure CheckS where
  crc : Nat := 0
  last : Nat := 0                        -- l of R532
  init : Bool := true                    -- the next check is INIT
  seen : Option (List Word) := none      -- record whose check is under way
  seenAt : Nat := 0                      -- clock at which it came (R530, R531)
  deriving DecidableEq, Repr

/-- A response frame (R526). -/
structure Response where
  cmd : Nat
  tag : Nat
  len : Nat
  result : Nat
  data : List Word
  deriving DecidableEq, Repr

/-- The host port beside its registers. -/
structure HostS where
  resp : Option Response := none         -- ready and unread (R525)
  crcRun : Nat := 0                      -- consecutive RESULT 0x01 (R528)
  out : List Nat := []                   -- bytes that the device put out on the last read of the port (R525)
  lastAt : Nat := 0                      -- clock of the last host transfer (R444)
  deriving DecidableEq, Repr

/-! ## The blocks together -/

/-- Owner tags by key number; an unlisted key is free (R37, R38). -/
abbrev KeyFile := List (Nat × BitVec 16)

/-- The safety keys (R44). -/
def safetyKeys : List Nat := [0x2DC, 0x2DD, 0x2DE, 0x2DF, 0x2E0]

/-- The key rack from device reset onward (R44, R45). -/
def keysAtReset : KeyFile := safetyKeys.map (fun k => (k, 0xF000#16))


/-- What the last access of a bus, host or debug command answered (R34). -/
inductive BusResult
  | none
  | done
  | data (w : Word)
  | fault
  deriving DecidableEq, Repr

/-- Everything but the queue: the register file, the key rack, the memories and the blocks. -/
structure Dev where
  regs : RegFile := []
  keys : KeyFile := keysAtReset
  mem : List Host.Cell := []              -- R24; canonical, see Machine/Mem.lean
  now : Nat := 0                         -- 400 MHz clocks since power-on (log entry 6)
  fresh : Nat := 0                       -- free values taken so far (the model's own field, log entry 3)
  bus : BusResult := .none               -- answer of the last access
  tile : Vector TileS 24 := Vector.replicate 24 {}
  conv : Vector ConvS 8 := Vector.replicate 8 {}
  disch : DischS := {}
  fc : FaultS := {}
  tb : TbS := {}
  proof : ProofS := {}
  gal : GalS := {}
  af : Vector AfRes 64 := Vector.replicate 64 {}
  adc : Vector AdcS 16 := Vector.replicate 16 {}
  bin : Vector BinS 64 := Vector.replicate 64 {}
  ring : Vector RingS 96 := Vector.replicate 96 {}
  ow : OwS := {}
  mon : MonS := {}
  dom : Vector DomS 16 := Vector.replicate 16 {}
  chg : ChgS := {}
  gauge : GaugeS := {}
  supply : SupplyS := {}
  seq : SeqS := {}
  cel : CellarS := {}
  boot : BootS := {}
  comp : CompS := {}
  mram : MramS := {}
  net : Vector NetS 3 := Vector.replicate 3 {}        -- CAN[0], CAN[1], T1S
  check : Vector CheckS 4 := Vector.replicate 4 {}
  host : HostS := {}
  deriving DecidableEq, Repr

end Sys2Proof.Machine
end

