-- ==== Sys2Proof/Machine/RegNames.lean ====
section
/-!
DEFINITION. The registers and fields of the register pages by the manual's own names: `R.<PAGE>.<REGISTER>` is a byte
offset within the page, `F.<PAGE>.<REGISTER>_<FIELD>` a field (offset, lowest bit, width), `B.<PAGE>.<SOURCE>` the FAULT
bit of a source. The offsets and bits are those of the register tables of the spec (R29, R30 for the common header; each
page's own two tables, named at its namespace).
-/
namespace Sys2Proof.Machine

/-- A field of a page register: byte offset of the register, lowest bit, width (R28, R30). -/
structure Fld where
  ofs : Nat
  lo : Nat
  w : Nat
  deriving DecidableEq, Repr

/-- The same field of entry `i` of a register array (arrays stand 4 bytes apart). -/
def Fld.at (f : Fld) (i : Nat) : Fld := { f with ofs := f.ofs + 4 * i }

/-! Common header and common control: R29, R30. -/
namespace R.HDR
def PAGE_ID : Nat := 0x000
def PAGE_CAPS : Nat := 0x004
def CLAIM : Nat := 0x008
def LOCK : Nat := 0x00C
def STATUS : Nat := 0x010
def EVENT : Nat := 0x014
def EVENT_MASK : Nat := 0x018
def EVENT_SET : Nat := 0x01C
def FAULT : Nat := 0x020
def FAULT_CAUSE : Nat := 0x024
def PROOF_SEQ : Nat := 0x028
def CTRL : Nat := 0x040
def INT_ROUTE : Nat := 0x044
def ACCESS : Nat := 0x048
def REFUSED_AT : Nat := 0x04C
end R.HDR
namespace F.HDR
def PAGE_ID_INSTANCE : Fld := ⟨0x000, 0, 8⟩
def PAGE_ID_TYPE : Fld := ⟨0x000, 8, 8⟩
def PAGE_ID_VERSION : Fld := ⟨0x000, 16, 8⟩
def PAGE_ID_FAMILY : Fld := ⟨0x000, 24, 8⟩
def PAGE_CAPS_PROOF : Fld := ⟨0x004, 0, 1⟩
def PAGE_CAPS_CLAIMABLE : Fld := ⟨0x004, 1, 1⟩
def PAGE_CAPS_SECURE : Fld := ⟨0x004, 2, 1⟩
def PAGE_CAPS_PRECLAIMED : Fld := ⟨0x004, 3, 1⟩
def PAGE_CAPS_MIRROR_WORDS : Fld := ⟨0x004, 16, 9⟩
def CLAIM_OP : Fld := ⟨0x008, 0, 2⟩
def CLAIM_PRE : Fld := ⟨0x008, 2, 1⟩
def CLAIM_OWNER : Fld := ⟨0x008, 16, 16⟩
def LOCK_LOCK : Fld := ⟨0x00C, 0, 1⟩
def STATUS_IDLE : Fld := ⟨0x010, 0, 1⟩
def STATUS_ENABLED : Fld := ⟨0x010, 1, 1⟩
def STATUS_CLAIMED : Fld := ⟨0x010, 2, 1⟩
def STATUS_LOCKED : Fld := ⟨0x010, 3, 1⟩
def EVENT_CONFLICT : Fld := ⟨0x014, 0, 1⟩
def EVENT_NOKEY : Fld := ⟨0x014, 1, 1⟩
def EVENT_REFUSED : Fld := ⟨0x014, 2, 1⟩
def CTRL_ENABLE : Fld := ⟨0x040, 0, 1⟩
def CTRL_SOFT_RESET : Fld := ⟨0x040, 1, 1⟩
def INT_ROUTE_TO_CTRL : Fld := ⟨0x044, 0, 1⟩
def INT_ROUTE_TO_SVC : Fld := ⟨0x044, 1, 1⟩
def ACCESS_CTRL_PAIR : Fld := ⟨0x048, 0, 1⟩
def ACCESS_SVC_PAIR : Fld := ⟨0x048, 1, 1⟩
def ACCESS_HOST : Fld := ⟨0x048, 2, 1⟩
def ACCESS_DEBUG : Fld := ⟨0x048, 3, 1⟩
def REFUSED_AT_OFFSET : Fld := ⟨0x04C, 0, 12⟩
def REFUSED_AT_MASTER : Fld := ⟨0x04C, 12, 4⟩
def REFUSED_AT_COUNT : Fld := ⟨0x04C, 16, 16⟩
end F.HDR
/-! SYS page: R489, R589, R22, R23, R490, R590. -/
namespace R.SYS
def PAIR_STATUS : Nat := 0x180
def PAIR_CTRL : Nat := 0x184
def PAIR_REG_SEL : Nat := 0x188
def PAIR_REG_DATA : Nat := 0x18C
def SEC_CFG : Nat := 0x190
def SRAM_SEC_LO : Nat := 0x194
def SRAM_SEC_HI : Nat := 0x198
def ECC_CFG : Nat := 0x19C
def ECC_LAST : Nat := 0x1A0
def ECC_LAST_INFO : Nat := 0x1A4
def CORR_TCM : Nat := 0x200
def CORR_SRAM : Nat := 0x204
def CORR_FRAME : Nat := 0x208
def UE_COUNT : Nat := 0x20C
def BUS_ERRS : Nat := 0x210
def SCRUB_PASSES : Nat := 0x214
def COMPAT : Nat := 0x108
def AGE_CMD : Nat := 0x10C
def AGE_RESULT : Nat := 0x110
def AGE_CFG : Nat := 0x114
def RUN_SECONDS : Nat := 0x218
def AGE_RUNS : Nat := 0x21C
def STATE : Nat := 0x100
def CMD : Nat := 0x104
end R.SYS
namespace F.SYS
def PAIR_STATUS_CTRL : Fld := ⟨0x180, 0, 2⟩
def PAIR_STATUS_SVC : Fld := ⟨0x180, 2, 2⟩
def PAIR_STATUS_CTRL_STOPPED : Fld := ⟨0x180, 4, 1⟩
def PAIR_STATUS_SVC_STOPPED : Fld := ⟨0x180, 5, 1⟩
def PAIR_CTRL_OP : Fld := ⟨0x184, 0, 2⟩
def PAIR_CTRL_PAIR : Fld := ⟨0x184, 4, 1⟩
def PAIR_REG_SEL_INDEX : Fld := ⟨0x188, 0, 12⟩
def PAIR_REG_SEL_SPACE : Fld := ⟨0x188, 12, 2⟩
def PAIR_REG_SEL_WRITE : Fld := ⟨0x188, 16, 1⟩
def PAIR_REG_SEL_PAIR : Fld := ⟨0x188, 17, 1⟩
def PAIR_REG_DATA_DATA : Fld := ⟨0x18C, 0, 32⟩
def SEC_CFG_CTRL_SECURE : Fld := ⟨0x190, 0, 1⟩
def SEC_CFG_SVC_SECURE : Fld := ⟨0x190, 1, 1⟩
def SEC_CFG_TCM_SEC : Fld := ⟨0x190, 2, 1⟩
def SRAM_SEC_LO_BLOCK : Fld := ⟨0x194, 0, 32⟩
def SRAM_SEC_HI_BLOCK : Fld := ⟨0x198, 0, 32⟩
def ECC_CFG_SCRUB : Fld := ⟨0x19C, 0, 16⟩
def ECC_CFG_CORR_MAX : Fld := ⟨0x19C, 16, 16⟩
def ECC_LAST_ADDR : Fld := ⟨0x1A0, 0, 32⟩
def ECC_LAST_INFO_MEM : Fld := ⟨0x1A4, 0, 2⟩
def ECC_LAST_INFO_UE : Fld := ⟨0x1A4, 2, 1⟩
def ECC_LAST_INFO_BY_SCRUB : Fld := ⟨0x1A4, 3, 1⟩
def ECC_LAST_INFO_BIT : Fld := ⟨0x1A4, 4, 7⟩
def ECC_LAST_INFO_MASTER : Fld := ⟨0x1A4, 12, 4⟩
def COMPAT_STEPPING : Fld := ⟨0x108, 0, 4⟩
def COMPAT_LEVEL_MAX : Fld := ⟨0x108, 8, 4⟩
def COMPAT_LEVEL : Fld := ⟨0x108, 16, 4⟩
def AGE_CMD_MEASURE : Fld := ⟨0x10C, 0, 1⟩
def AGE_CMD_KEY : Fld := ⟨0x10C, 16, 16⟩
def AGE_RESULT_SHIFT : Fld := ⟨0x110, 0, 16⟩
def AGE_RESULT_VALID : Fld := ⟨0x110, 16, 1⟩
def AGE_CFG_WARN : Fld := ⟨0x114, 0, 16⟩
def RUN_SECONDS_COUNT : Fld := ⟨0x218, 0, 32⟩
def AGE_RUNS_COUNT : Fld := ⟨0x21C, 0, 32⟩
def STATE_STATE : Fld := ⟨0x100, 0, 3⟩
def STATE_PREV : Fld := ⟨0x100, 4, 3⟩
def STATE_CAUSE : Fld := ⟨0x100, 8, 8⟩
def STATE_TRANS_SEQ : Fld := ⟨0x100, 16, 16⟩
def CMD_CMD : Fld := ⟨0x104, 0, 8⟩
def CMD_KEY : Fld := ⟨0x104, 16, 16⟩
end F.SYS
namespace B.SYS
def CORE_LOCK_CTRL : Nat := 0
def CORE_LOCK_SVC : Nat := 1
def MEM_UE_TCM : Nat := 2
def MEM_UE_SRAM : Nat := 3
def MEM_UE_FRAME : Nat := 4
def MEM_CORR : Nat := 5
def BUS_ERR : Nat := 6
def SYS_CMD : Nat := 7
end B.SYS
/-! KEYRACK page: R47. -/
namespace R.KEYRACK
def KR_SEL : Nat := 0x100
def KR_KEY : Nat := 0x104
def KR_MASK : Nat := 0x108
def KR_REQ : Nat := 0x10C
def KR_RESULT : Nat := 0x110
def KR_CONFLICTS : Nat := 0x114
def KR_LAST_CONFLICT : Nat := 0x118
end R.KEYRACK
namespace F.KEYRACK
def KR_SEL_KEY : Fld := ⟨0x100, 0, 10⟩
def KR_REQ_OP : Fld := ⟨0x10C, 0, 2⟩
def KR_REQ_WINDOW : Fld := ⟨0x10C, 5, 5⟩
def KR_REQ_OWNER : Fld := ⟨0x10C, 16, 16⟩
def KR_RESULT_RESULT : Fld := ⟨0x110, 0, 4⟩
def KR_RESULT_KEY : Fld := ⟨0x110, 4, 10⟩
def KR_RESULT_HOLDER : Fld := ⟨0x110, 16, 16⟩
def KR_LAST_CONFLICT_KEY : Fld := ⟨0x118, 0, 10⟩
def KR_LAST_CONFLICT_REQUESTER : Fld := ⟨0x118, 16, 16⟩
end F.KEYRACK
namespace B.KEYRACK
def KR_SAFETY_KEY : Nat := 0
end B.KEYRACK
/-! PINMUX page: R551, R552. -/
namespace R.PINMUX
def MXCFG : Nat := 0x100
def GPIO_OUT : Nat := 0x180
def GPIO_OE : Nat := 0x184
def GPIO_IN : Nat := 0x188
end R.PINMUX
namespace F.PINMUX
def EVENT_RANGE : Fld := ⟨0x014, 8, 1⟩
def MXCFG_FUNC : Fld := ⟨0x100, 0, 2⟩
def MXCFG_PULL : Fld := ⟨0x100, 2, 2⟩
def MXCFG_DRIVE : Fld := ⟨0x100, 4, 1⟩
def MXCFG_OD : Fld := ⟨0x100, 5, 1⟩
def MXCFG_WSEL : Fld := ⟨0x100, 8, 4⟩
def MXCFG_SAFE_EN : Fld := ⟨0x100, 12, 1⟩
def MXCFG_SAFE_LVL : Fld := ⟨0x100, 13, 1⟩
def GPIO_OUT_MX : Fld := ⟨0x180, 0, 27⟩
def GPIO_OE_MX : Fld := ⟨0x184, 0, 27⟩
def GPIO_IN_MX : Fld := ⟨0x188, 0, 27⟩
end F.PINMUX
/-! CLK page: R336, R337. -/
namespace R.CLK
def CLK_CFG : Nat := 0x100
def CLK_STATUS : Nat := 0x104
def XTAL_LOSSES : Nat := 0x200
def SWITCHES : Nat := 0x204
def MON_ALARMS : Nat := 0x208
end R.CLK
namespace F.CLK
def EVENT_SWITCHED : Fld := ⟨0x014, 8, 1⟩
def EVENT_XTAL_LOST : Fld := ⟨0x014, 9, 1⟩
def EVENT_XTAL_BACK : Fld := ⟨0x014, 10, 1⟩
def FAULT_CAUSE_CODE : Fld := ⟨0x024, 0, 8⟩
def CLK_CFG_EXT : Fld := ⟨0x100, 0, 1⟩
def CLK_CFG_AUTO_BACK : Fld := ⟨0x100, 1, 1⟩
def CLK_STATUS_SYSSRC : Fld := ⟨0x104, 0, 2⟩
def CLK_STATUS_XTAL_OK : Fld := ⟨0x104, 2, 1⟩
def CLK_STATUS_PLL_LOCK : Fld := ⟨0x104, 3, 1⟩
def CLK_STATUS_RC_OK : Fld := ⟨0x104, 4, 1⟩
def CLK_STATUS_ISL_OK : Fld := ⟨0x104, 5, 1⟩
def CLK_STATUS_X32_OK : Fld := ⟨0x104, 6, 1⟩
end F.CLK
namespace B.CLK
def CLK_XTAL : Nat := 0
def CLK_PLL : Nat := 1
def CLK_RC : Nat := 2
def CLK_ISLAND : Nat := 3
def CLK_X32 : Nat := 4
end B.CLK
/-! SUPPLY page: R338, R339. -/
namespace R.SUPPLY
def CFG : Nat := 0x100
def BUCK_CFG : Nat := 0x110
def BUCK_PROT : Nat := 0x120
def LDO_CFG : Nat := 0x130
def REG_STATUS : Nat := 0x140
def UNLATCH : Nat := 0x144
def HICCUPS : Nat := 0x200
def LATCHES : Nat := 0x210
def BURSTS : Nat := 0x214
def ROTATIONS : Nat := 0x218
def SYNC_LOSSES : Nat := 0x21C
end R.SUPPLY
namespace F.SUPPLY
def EVENT_HICCUP : Fld := ⟨0x014, 8, 1⟩
def EVENT_LATCH : Fld := ⟨0x014, 9, 1⟩
def EVENT_SYNC_LOST : Fld := ⟨0x014, 10, 1⟩
def EVENT_CMD_REFUSED : Fld := ⟨0x014, 11, 1⟩
def EVENT_RANGE : Fld := ⟨0x014, 12, 1⟩
def FAULT_CAUSE_CODE : Fld := ⟨0x024, 0, 8⟩
def FAULT_CAUSE_DETAIL : Fld := ⟨0x024, 16, 16⟩
def CFG_PAIR : Fld := ⟨0x100, 0, 1⟩
def CFG_MULT : Fld := ⟨0x100, 8, 9⟩
def BUCK_CFG_PHASE : Fld := ⟨0x110, 0, 8⟩
def BUCK_CFG_BURST_EN : Fld := ⟨0x110, 8, 1⟩
def BUCK_CFG_ILIM : Fld := ⟨0x110, 9, 2⟩
def BUCK_CFG_VOUT : Fld := ⟨0x110, 16, 9⟩
def BUCK_PROT_NCYC : Fld := ⟨0x120, 0, 8⟩
def BUCK_PROT_OFF : Fld := ⟨0x120, 16, 6⟩
def BUCK_PROT_RETRY_MAX : Fld := ⟨0x120, 24, 4⟩
def LDO_CFG_VEXT : Fld := ⟨0x130, 0, 6⟩
def REG_STATUS_ON : Fld := ⟨0x140, 0, 9⟩
def REG_STATUS_BURST : Fld := ⟨0x140, 9, 4⟩
def REG_STATUS_HICCUP : Fld := ⟨0x140, 13, 4⟩
def REG_STATUS_LATCHED : Fld := ⟨0x140, 17, 4⟩
def REG_STATUS_SYNCED : Fld := ⟨0x140, 21, 4⟩
def REG_STATUS_LEAD : Fld := ⟨0x140, 25, 1⟩
def UNLATCH_BUCK : Fld := ⟨0x144, 0, 4⟩
end F.SUPPLY
namespace B.SUPPLY
def REG_LATCH : Nat := 0
def REG_ILIM : Nat := 1
def REG_SYNC : Nat := 2
end B.SUPPLY
/-! PATH page: R340, R341. -/
namespace R.PATH
def VIN_CFG : Nat := 0x100
def BAK_CFG : Nat := 0x104
def BAK_CUR : Nat := 0x108
def BAK_TIME : Nat := 0x10C
def BAK_ZONE : Nat := 0x110
def BAK_CMD : Nat := 0x114
def REL_CFG : Nat := 0x118
def REL_UV : Nat := 0x11C
def PATH_STATUS : Nat := 0x120
def BAK_MEAS : Nat := 0x124
def BAK_ELAPSED : Nat := 0x128
def VIN_LOSSES : Nat := 0x200
def BAK_CYCLES : Nat := 0x204
def BAK_SUSPENDS : Nat := 0x208
def REL_RUNS : Nat := 0x20C
def REL_PAUSES : Nat := 0x210
def REL_STOPS : Nat := 0x214
end R.PATH
namespace F.PATH
def EVENT_VIN_LOST : Fld := ⟨0x014, 8, 1⟩
def EVENT_VIN_BACK : Fld := ⟨0x014, 9, 1⟩
def EVENT_PATH_ILIM : Fld := ⟨0x014, 10, 1⟩
def EVENT_BAK_DONE : Fld := ⟨0x014, 11, 1⟩
def EVENT_ZONE_CHANGE : Fld := ⟨0x014, 12, 1⟩
def EVENT_REL_STOP : Fld := ⟨0x014, 13, 1⟩
def EVENT_CFG_BAD : Fld := ⟨0x014, 14, 1⟩
def EVENT_RANGE : Fld := ⟨0x014, 15, 1⟩
def FAULT_CAUSE_CODE : Fld := ⟨0x024, 0, 8⟩
def FAULT_CAUSE_DETAIL : Fld := ⟨0x024, 16, 16⟩
def VIN_CFG_UV : Fld := ⟨0x100, 0, 6⟩
def VIN_CFG_DEB : Fld := ⟨0x100, 16, 8⟩
def BAK_CFG_CELL : Fld := ⟨0x104, 0, 2⟩
def BAK_CFG_EN : Fld := ⟨0x104, 2, 1⟩
def BAK_CFG_TEMP_EN : Fld := ⟨0x104, 3, 1⟩
def BAK_CFG_VPRE : Fld := ⟨0x104, 8, 8⟩
def BAK_CFG_VCV : Fld := ⟨0x104, 16, 8⟩
def BAK_CFG_VRECHG : Fld := ⟨0x104, 24, 8⟩
def BAK_CUR_ICC : Fld := ⟨0x108, 0, 6⟩
def BAK_CUR_IPRE : Fld := ⟨0x108, 8, 6⟩
def BAK_CUR_ITERM : Fld := ⟨0x108, 16, 8⟩
def BAK_TIME_PRE_TIME : Fld := ⟨0x10C, 0, 8⟩
def BAK_TIME_TERM_TIME : Fld := ⟨0x10C, 8, 8⟩
def BAK_TIME_TOTAL : Fld := ⟨0x10C, 16, 8⟩
def BAK_ZONE_COLD : Fld := ⟨0x110, 0, 8⟩
def BAK_ZONE_COOL : Fld := ⟨0x110, 8, 8⟩
def BAK_ZONE_WARM : Fld := ⟨0x110, 16, 8⟩
def BAK_ZONE_HOT : Fld := ⟨0x110, 24, 8⟩
def BAK_CMD_RESTART : Fld := ⟨0x114, 0, 1⟩
def REL_CFG_VREL : Fld := ⟨0x118, 0, 8⟩
def REL_CFG_ILIM : Fld := ⟨0x118, 8, 4⟩
def REL_CFG_TIME : Fld := ⟨0x118, 16, 6⟩
def REL_CFG_COOL : Fld := ⟨0x118, 24, 6⟩
def REL_UV_UVLO : Fld := ⟨0x11C, 0, 7⟩
def PATH_STATUS_VIN_OK : Fld := ⟨0x120, 0, 1⟩
def PATH_STATUS_ON_BAK : Fld := ⟨0x120, 1, 1⟩
def PATH_STATUS_BAK_STATE : Fld := ⟨0x120, 2, 3⟩
def PATH_STATUS_ZONE : Fld := ⟨0x120, 5, 3⟩
def PATH_STATUS_REL_STATE : Fld := ⟨0x120, 8, 3⟩
def PATH_STATUS_DOM9_MASKED : Fld := ⟨0x120, 11, 1⟩
def PATH_STATUS_TBAK : Fld := ⟨0x120, 16, 8⟩
def BAK_MEAS_VBAK : Fld := ⟨0x124, 0, 16⟩
def BAK_MEAS_IBAK : Fld := ⟨0x124, 16, 16⟩
def BAK_ELAPSED_TOTAL_MIN : Fld := ⟨0x128, 0, 16⟩
def BAK_ELAPSED_PRE_MIN : Fld := ⟨0x128, 16, 16⟩
end F.PATH
namespace B.PATH
def BAK_TIMER : Nat := 0
def BAK_NTC : Nat := 1
def REL_FAULT : Nat := 2
end B.PATH
/-! SEQ page: R364, R365. -/
namespace R.SEQ
def SEQ_CFG : Nat := 0x100
def ENTRY : Nat := 0x104
def AUX_ENTRY : Nat := 0x108
def CMD : Nat := 0x10C
def SEQ_STATUS : Nat := 0x110
def ORDER_LO : Nat := 0x114
def ORDER_HI : Nat := 0x118
def ORDER_DEPTH : Nat := 0x11C
def LAST_MARK : Nat := 0x120
def RST_STATUS : Nat := 0x124
def RST_CFG : Nat := 0x130
def RUNS : Nat := 0x200
def ABORTS : Nat := 0x204
def ADVANCES : Nat := 0x208
def STAIR_TIMEOUTS : Nat := 0x20C
def MARKS : Nat := 0x210
def BAD_STEPS : Nat := 0x214
def PROG : Nat := 0x400
end R.SEQ
namespace F.SEQ
def EVENT_MARK : Fld := ⟨0x014, 8, 1⟩
def EVENT_PROG_END : Fld := ⟨0x014, 9, 1⟩
def EVENT_CMD_REFUSED : Fld := ⟨0x014, 10, 1⟩
def EVENT_RANGE : Fld := ⟨0x014, 11, 1⟩
def FAULT_CAUSE_CODE : Fld := ⟨0x024, 0, 8⟩
def FAULT_CAUSE_DETAIL : Fld := ⟨0x024, 16, 16⟩
def SEQ_CFG_VIN_OFF : Fld := ⟨0x100, 0, 1⟩
def SEQ_CFG_STAIR_EN : Fld := ⟨0x100, 1, 1⟩
def SEQ_CFG_VIN_HOLD : Fld := ⟨0x100, 8, 8⟩
def SEQ_CFG_HOLDOFF : Fld := ⟨0x100, 16, 10⟩
def ENTRY_UP : Fld := ⟨0x104, 0, 8⟩
def ENTRY_DOWN : Fld := ⟨0x104, 8, 8⟩
def ENTRY_SLEEP : Fld := ⟨0x104, 16, 8⟩
def ENTRY_WAKE : Fld := ⟨0x104, 24, 8⟩
def AUX_ENTRY_AUX0 : Fld := ⟨0x108, 0, 8⟩
def AUX_ENTRY_AUX1 : Fld := ⟨0x108, 8, 8⟩
def AUX_ENTRY_AUX2 : Fld := ⟨0x108, 16, 8⟩
def AUX_ENTRY_AUX3 : Fld := ⟨0x108, 24, 8⟩
def CMD_OP : Fld := ⟨0x10C, 0, 3⟩
def CMD_ARG : Fld := ⟨0x10C, 4, 3⟩
def CMD_KEY : Fld := ⟨0x10C, 16, 16⟩
def SEQ_STATUS_PHASE : Fld := ⟨0x110, 0, 4⟩
def SEQ_STATUS_STEP : Fld := ⟨0x110, 4, 8⟩
def SEQ_STATUS_ON_REQ : Fld := ⟨0x110, 12, 1⟩
def SEQ_STATUS_OFF_REQ : Fld := ⟨0x110, 13, 1⟩
def SEQ_STATUS_GO : Fld := ⟨0x110, 16, 8⟩
def SEQ_STATUS_STAIR_NUM : Fld := ⟨0x110, 24, 4⟩
def SEQ_STATUS_STAIR_LINE : Fld := ⟨0x110, 28, 1⟩
def SEQ_STATUS_STAIR_REL : Fld := ⟨0x110, 29, 1⟩
def ORDER_LO_ORDER_LO0 : Fld := ⟨0x114, 0, 4⟩
def ORDER_LO_ORDER_LO1 : Fld := ⟨0x114, 4, 4⟩
def ORDER_LO_ORDER_LO2 : Fld := ⟨0x114, 8, 4⟩
def ORDER_LO_ORDER_LO3 : Fld := ⟨0x114, 12, 4⟩
def ORDER_LO_ORDER_LO4 : Fld := ⟨0x114, 16, 4⟩
def ORDER_LO_ORDER_LO5 : Fld := ⟨0x114, 20, 4⟩
def ORDER_LO_ORDER_LO6 : Fld := ⟨0x114, 24, 4⟩
def ORDER_LO_ORDER_LO7 : Fld := ⟨0x114, 28, 4⟩
def ORDER_HI_ORDER_HI0 : Fld := ⟨0x118, 0, 4⟩
def ORDER_HI_ORDER_HI1 : Fld := ⟨0x118, 4, 4⟩
def ORDER_HI_ORDER_HI2 : Fld := ⟨0x118, 8, 4⟩
def ORDER_HI_ORDER_HI3 : Fld := ⟨0x118, 12, 4⟩
def ORDER_HI_ORDER_HI4 : Fld := ⟨0x118, 16, 4⟩
def ORDER_HI_ORDER_HI5 : Fld := ⟨0x118, 20, 4⟩
def ORDER_HI_ORDER_HI6 : Fld := ⟨0x118, 24, 4⟩
def ORDER_HI_ORDER_HI7 : Fld := ⟨0x118, 28, 4⟩
def ORDER_DEPTH_DEPTH : Fld := ⟨0x11C, 0, 5⟩
def LAST_MARK_CODE : Fld := ⟨0x120, 0, 8⟩
def LAST_MARK_STEP : Fld := ⟨0x120, 8, 8⟩
def RST_STATUS_ASSERTED : Fld := ⟨0x124, 0, 4⟩
def RST_STATUS_STRETCHING : Fld := ⟨0x124, 4, 4⟩
def RST_CFG_STRETCH : Fld := ⟨0x130, 0, 10⟩
def PROG_STEP : Fld := ⟨0x400, 0, 32⟩
end F.SEQ
namespace B.SEQ
def SEQ_STEP : Nat := 0
def SEQ_STAIR : Nat := 1
def SEQ_MARK : Nat := 2
end B.SEQ
/-! CELLAR page: R394, R395. -/
namespace R.CELLAR
def POLICY : Nat := 0x100
def PWRON_WAIT : Nat := 0x104
def PWRON_PULSE : Nat := 0x108
def PWRON_CTRL : Nat := 0x10C
def WAKE_CFG : Nat := 0x110
def PILOT_WAKE : Nat := 0x120
def WAKE_REC : Nat := 0x124
def WAKE_PEND : Nat := 0x128
def LAST_WAKE : Nat := 0x12C
def SCRATCH : Nat := 0x140
def WAKES : Nat := 0x200
def PWRON_FAILS : Nat := 0x204
def HOLDOFFS : Nat := 0x208
end R.CELLAR
namespace F.CELLAR
def EVENT_WAKE_SEEN : Fld := ⟨0x014, 8, 1⟩
def EVENT_PWRON_FAIL : Fld := ⟨0x014, 9, 1⟩
def EVENT_RANGE : Fld := ⟨0x014, 10, 1⟩
def STATUS_PWRON : Fld := ⟨0x010, 8, 1⟩
def STATUS_PWRON_FAIL : Fld := ⟨0x010, 9, 1⟩
def STATUS_SYNC_BUSY : Fld := ⟨0x010, 10, 1⟩
def STATUS_WAKE_LEVEL : Fld := ⟨0x010, 11, 4⟩
def STATUS_PILOT_A : Fld := ⟨0x010, 15, 1⟩
def POLICY_AUTOSTART : Fld := ⟨0x100, 0, 1⟩
def POLICY_PWRON_MODE : Fld := ⟨0x100, 1, 1⟩
def PWRON_WAIT_WAIT : Fld := ⟨0x104, 0, 11⟩
def PWRON_PULSE_WIDTH : Fld := ⟨0x108, 0, 11⟩
def PWRON_CTRL_ASSERT : Fld := ⟨0x10C, 0, 1⟩
def PWRON_CTRL_RELEASE : Fld := ⟨0x10C, 1, 1⟩
def PWRON_CTRL_KEY : Fld := ⟨0x10C, 16, 16⟩
def WAKE_CFG_EN : Fld := ⟨0x110, 0, 1⟩
def WAKE_CFG_MODE : Fld := ⟨0x110, 1, 3⟩
def WAKE_CFG_PULL : Fld := ⟨0x110, 4, 2⟩
def WAKE_CFG_DEB : Fld := ⟨0x110, 8, 8⟩
def PILOT_WAKE_EN : Fld := ⟨0x120, 0, 1⟩
def PILOT_WAKE_DIR : Fld := ⟨0x120, 1, 2⟩
def PILOT_WAKE_DEB : Fld := ⟨0x120, 8, 8⟩
def WAKE_REC_SRC : Fld := ⟨0x124, 0, 12⟩
def WAKE_PEND_SRC : Fld := ⟨0x128, 0, 12⟩
def LAST_WAKE_SECONDS : Fld := ⟨0x12C, 0, 32⟩
def SCRATCH_DATA : Fld := ⟨0x140, 0, 32⟩
end F.CELLAR
/-! RTC page: R392, R393. -/
namespace R.RTC
def SEC : Nat := 0x100
def TIME : Nat := 0x104
def DATE : Nat := 0x108
def LINEAR : Nat := 0x10C
def LINEAR_HI : Nat := 0x110
def STAGE_SEC : Nat := 0x114
def STAGE_TIME : Nat := 0x118
def STAGE_DATE : Nat := 0x11C
def CMD : Nat := 0x120
def SET_DELTA : Nat := 0x124
def FLAGS : Nat := 0x128
def ALARM_CFG : Nat := 0x140
def ALARM_TIME : Nat := 0x144
def ALARM_DATE : Nat := 0x148
def ALARM_LIN : Nat := 0x14C
def TRIM : Nat := 0x160
def MEAS_CFG : Nat := 0x164
def MEAS_RESULT : Nat := 0x168
def NREF_SEC : Nat := 0x16C
def NREF_NS : Nat := 0x170
def COMMITS : Nat := 0x200
def REJECTS : Nat := 0x204
def ALARMS : Nat := 0x208
def CORRECTIONS : Nat := 0x20C
def MEASUREMENTS : Nat := 0x210
end R.RTC
namespace F.RTC
def EVENT_COMMITTED : Fld := ⟨0x014, 8, 1⟩
def EVENT_REJECTED : Fld := ⟨0x014, 9, 1⟩
def EVENT_ALARM : Fld := ⟨0x014, 10, 1⟩
def EVENT_MEAS_DONE : Fld := ⟨0x014, 11, 1⟩
def EVENT_MEAS_ABORT : Fld := ⟨0x014, 12, 1⟩
def EVENT_X32_FAIL : Fld := ⟨0x014, 13, 1⟩
def EVENT_RANGE : Fld := ⟨0x014, 14, 1⟩
def STATUS_CAL_VALID : Fld := ⟨0x010, 8, 1⟩
def STATUS_COMMIT_PEND : Fld := ⟨0x010, 9, 1⟩
def STATUS_ON_RC : Fld := ⟨0x010, 10, 1⟩
def STATUS_MEAS_RUN : Fld := ⟨0x010, 11, 1⟩
def STATUS_SYNC_BUSY : Fld := ⟨0x010, 12, 1⟩
def SEC_SEC : Fld := ⟨0x100, 0, 6⟩
def SEC_SUB : Fld := ⟨0x100, 16, 10⟩
def TIME_MIN : Fld := ⟨0x104, 0, 6⟩
def TIME_HOUR : Fld := ⟨0x104, 8, 5⟩
def DATE_DAY : Fld := ⟨0x108, 0, 5⟩
def DATE_MONTH : Fld := ⟨0x108, 8, 4⟩
def DATE_YEAR : Fld := ⟨0x108, 16, 9⟩
def DATE_WDAY : Fld := ⟨0x108, 28, 3⟩
def LINEAR_SECONDS : Fld := ⟨0x10C, 0, 32⟩
def LINEAR_HI_SECONDS : Fld := ⟨0x110, 0, 16⟩
def STAGE_SEC_SEC : Fld := ⟨0x114, 0, 6⟩
def STAGE_TIME_MIN : Fld := ⟨0x118, 0, 6⟩
def STAGE_TIME_HOUR : Fld := ⟨0x118, 8, 5⟩
def STAGE_DATE_DAY : Fld := ⟨0x11C, 0, 5⟩
def STAGE_DATE_MONTH : Fld := ⟨0x11C, 8, 4⟩
def STAGE_DATE_YEAR : Fld := ⟨0x11C, 16, 9⟩
def CMD_COMMIT : Fld := ⟨0x120, 0, 1⟩
def CMD_MEAS_START : Fld := ⟨0x120, 1, 1⟩
def CMD_MEAS_STOP : Fld := ⟨0x120, 2, 1⟩
def CMD_NREF_CAPTURE : Fld := ⟨0x120, 3, 1⟩
def SET_DELTA_DELTA : Fld := ⟨0x124, 0, 32⟩
def FLAGS_DATE_ERR : Fld := ⟨0x128, 0, 1⟩
def FLAGS_EPOCH_WRAP : Fld := ⟨0x128, 1, 1⟩
def FLAGS_X32_FAIL : Fld := ⟨0x128, 2, 1⟩
def FLAGS_CAL_ALARM : Fld := ⟨0x128, 3, 1⟩
def FLAGS_LIN_ALARM : Fld := ⟨0x128, 4, 1⟩
def ALARM_CFG_CAL_EN : Fld := ⟨0x140, 0, 1⟩
def ALARM_CFG_MATCH : Fld := ⟨0x140, 1, 6⟩
def ALARM_CFG_CAL_WAKE : Fld := ⟨0x140, 8, 1⟩
def ALARM_CFG_CAL_PWRON : Fld := ⟨0x140, 9, 1⟩
def ALARM_CFG_LIN_EN : Fld := ⟨0x140, 16, 1⟩
def ALARM_CFG_LIN_WAKE : Fld := ⟨0x140, 17, 1⟩
def ALARM_CFG_LIN_PWRON : Fld := ⟨0x140, 18, 1⟩
def ALARM_TIME_SEC : Fld := ⟨0x144, 0, 6⟩
def ALARM_TIME_MIN : Fld := ⟨0x144, 8, 6⟩
def ALARM_TIME_HOUR : Fld := ⟨0x144, 16, 5⟩
def ALARM_TIME_WDAY : Fld := ⟨0x144, 24, 3⟩
def ALARM_DATE_DAY : Fld := ⟨0x148, 0, 5⟩
def ALARM_DATE_MONTH : Fld := ⟨0x148, 8, 4⟩
def ALARM_LIN_SECONDS : Fld := ⟨0x14C, 0, 32⟩
def TRIM_PPM : Fld := ⟨0x160, 0, 16⟩
def MEAS_CFG_SRC : Fld := ⟨0x164, 0, 2⟩
def MEAS_CFG_NOM : Fld := ⟨0x164, 2, 1⟩
def MEAS_CFG_AUTO : Fld := ⟨0x164, 3, 1⟩
def MEAS_CFG_WIN_LOG : Fld := ⟨0x164, 8, 5⟩
def MEAS_CFG_MIN_SPAN : Fld := ⟨0x164, 16, 12⟩
def MEAS_RESULT_PPM : Fld := ⟨0x168, 0, 16⟩
def MEAS_RESULT_VALID : Fld := ⟨0x168, 16, 1⟩
def MEAS_RESULT_END : Fld := ⟨0x168, 17, 3⟩
def NREF_SEC_SEC : Fld := ⟨0x16C, 0, 32⟩
def NREF_NS_NS : Fld := ⟨0x170, 0, 30⟩
end F.RTC
/-! FAULT page: R426, R427. -/
namespace R.FAULT
def CFG : Nat := 0x100
def RECOV_CFG : Nat := 0x104
def RECOV_STATUS : Nat := 0x108
def DERATE_GROUPS : Nat := 0x10C
def CMD : Nat := 0x110
def QUIET_LEFT : Nat := 0x114
def HIST_WR : Nat := 0x118
def HIST_RD : Nat := 0x11C
def ACTIVE : Nat := 0x140
def SEV : Nat := 0x200
def MINSEV : Nat := 0x300
def HIST : Nat := 0x400
def FF : Nat := 0x600
def RAISED : Nat := 0x700
def COALESCED : Nat := 0x704
def OVERRUN : Nat := 0x708
def RECOVERIES : Nat := 0x70C
def HALTS : Nat := 0x710
def SAFES : Nat := 0x714
def RESETS : Nat := 0x718
end R.FAULT
namespace F.FAULT
def STATUS_MAX_ACTIVE : Fld := ⟨0x010, 8, 3⟩
def STATUS_QUIET_RUN : Fld := ⟨0x010, 11, 1⟩
def STATUS_FF_VALID : Fld := ⟨0x010, 12, 1⟩
def STATUS_LOST : Fld := ⟨0x010, 13, 1⟩
def STATUS_RECOV_LATCHED : Fld := ⟨0x010, 14, 1⟩
def EVENT_ALERT : Fld := ⟨0x014, 8, 1⟩
def EVENT_DERATE : Fld := ⟨0x014, 9, 1⟩
def EVENT_HALT : Fld := ⟨0x014, 10, 1⟩
def EVENT_SAFE : Fld := ⟨0x014, 11, 1⟩
def EVENT_RECOVERED : Fld := ⟨0x014, 12, 1⟩
def EVENT_RANGE : Fld := ⟨0x014, 13, 1⟩
def FAULT_CAUSE_CODE : Fld := ⟨0x024, 0, 8⟩
def FAULT_CAUSE_DETAIL : Fld := ⟨0x024, 16, 16⟩
def CFG_QUIET : Fld := ⟨0x100, 0, 16⟩
def CFG_FF_MIN : Fld := ⟨0x100, 16, 3⟩
def RECOV_CFG_MAX : Fld := ⟨0x104, 0, 8⟩
def RECOV_CFG_WINDOW : Fld := ⟨0x104, 16, 16⟩
def RECOV_STATUS_COUNT : Fld := ⟨0x108, 0, 8⟩
def RECOV_STATUS_LATCHED : Fld := ⟨0x108, 8, 1⟩
def RECOV_STATUS_LEFT : Fld := ⟨0x108, 16, 16⟩
def DERATE_GROUPS_GROUPS : Fld := ⟨0x10C, 0, 8⟩
def CMD_OP : Fld := ⟨0x110, 0, 4⟩
def CMD_SOURCE : Fld := ⟨0x110, 4, 9⟩
def CMD_KEY : Fld := ⟨0x110, 16, 16⟩
def QUIET_LEFT_MS : Fld := ⟨0x114, 0, 16⟩
def HIST_WR_COUNT : Fld := ⟨0x118, 0, 32⟩
def HIST_RD_COUNT : Fld := ⟨0x11C, 0, 32⟩
def SEV_SEV0 : Fld := ⟨0x200, 0, 3⟩
def SEV_SEV1 : Fld := ⟨0x200, 4, 3⟩
def SEV_SEV2 : Fld := ⟨0x200, 8, 3⟩
def SEV_SEV3 : Fld := ⟨0x200, 12, 3⟩
def SEV_SEV4 : Fld := ⟨0x200, 16, 3⟩
def SEV_SEV5 : Fld := ⟨0x200, 20, 3⟩
def SEV_SEV6 : Fld := ⟨0x200, 24, 3⟩
def SEV_SEV7 : Fld := ⟨0x200, 28, 3⟩
def MINSEV_MINSEV0 : Fld := ⟨0x300, 0, 3⟩
def MINSEV_MINSEV1 : Fld := ⟨0x300, 4, 3⟩
def MINSEV_MINSEV2 : Fld := ⟨0x300, 8, 3⟩
def MINSEV_MINSEV3 : Fld := ⟨0x300, 12, 3⟩
def MINSEV_MINSEV4 : Fld := ⟨0x300, 16, 3⟩
def MINSEV_MINSEV5 : Fld := ⟨0x300, 20, 3⟩
def MINSEV_MINSEV6 : Fld := ⟨0x300, 24, 3⟩
def MINSEV_MINSEV7 : Fld := ⟨0x300, 28, 3⟩
end F.FAULT
namespace B.FAULT
def FC_HIST_ECC : Nat := 0
def FC_OVERRUN : Nat := 1
end B.FAULT
/-! SCAOLO page: R428, R429. -/
namespace R.SCAOLO
def ARM : Nat := 0x100
def ARM_STATUS : Nat := 0x104
def ALIVE_CFG : Nat := 0x108
def PATHTEST_CFG : Nat := 0x10C
def SELFTEST : Nat := 0x110
def ISL_STATUS : Nat := 0x114
def CONFIG_CRC : Nat := 0x118
def GMASK : Nat := 0x140
def PATHTESTS : Nat := 0x200
def BACKUPS : Nat := 0x204
end R.SCAOLO
namespace F.SCAOLO
def EVENT_ARMED : Fld := ⟨0x014, 8, 1⟩
def EVENT_SELFTEST_DONE : Fld := ⟨0x014, 9, 1⟩
def EVENT_RANGE : Fld := ⟨0x014, 10, 1⟩
def FAULT_CAUSE_CODE : Fld := ⟨0x024, 0, 8⟩
def FAULT_CAUSE_DETAIL : Fld := ⟨0x024, 16, 16⟩
def ARM_ARM : Fld := ⟨0x100, 0, 1⟩
def ARM_KEY : Fld := ⟨0x100, 16, 16⟩
def ARM_STATUS_ARMED : Fld := ⟨0x104, 0, 1⟩
def ARM_STATUS_RESULT : Fld := ⟨0x104, 4, 4⟩
def ALIVE_CFG_FREQ : Fld := ⟨0x108, 0, 7⟩
def ALIVE_CFG_EN : Fld := ⟨0x108, 8, 1⟩
def PATHTEST_CFG_INTERVAL : Fld := ⟨0x10C, 0, 10⟩
def PATHTEST_CFG_EN : Fld := ⟨0x10C, 16, 1⟩
def SELFTEST_PASSED : Fld := ⟨0x110, 0, 10⟩
def SELFTEST_DONE : Fld := ⟨0x110, 30, 1⟩
def SELFTEST_PASS : Fld := ⟨0x110, 31, 1⟩
def ISL_STATUS_ALIVE_RUN : Fld := ⟨0x114, 0, 1⟩
def ISL_STATUS_ALIVE_RB : Fld := ⟨0x114, 1, 1⟩
def ISL_STATUS_FAULTN_ASSERTED : Fld := ⟨0x114, 2, 1⟩
def ISL_STATUS_FAULTN_RB : Fld := ⟨0x114, 3, 1⟩
def ISL_STATUS_BACKUP : Fld := ⟨0x114, 4, 1⟩
def ISL_STATUS_PT_AGE : Fld := ⟨0x114, 16, 16⟩
def CONFIG_CRC_CRC : Fld := ⟨0x118, 0, 32⟩
end F.SCAOLO
namespace B.SCAOLO
def ISL_SELFTEST : Nat := 0
def ISL_COMPARE : Nat := 1
def ISL_CONFIG : Nat := 2
def ISL_REACTION : Nat := 3
def ISL_ALIVE_RB : Nat := 4
def ISL_FAULTN_RB : Nat := 5
def ISL_REF : Nat := 6
def ISL_PATHTEST : Nat := 7
def ISL_ECC : Nat := 8
end B.SCAOLO
/-! OTP page: R459, R460. -/
namespace R.OTP
def CMD : Nat := 0x100
def ADDR : Nat := 0x104
def DATA : Nat := 0x108
def CMD_STATUS : Nat := 0x10C
def WEAK : Nat := 0x110
def FUSE_LOCK : Nat := 0x114
def SLOCK : Nat := 0x118
def PROGRAMS : Nat := 0x200
def PROG_FAILS : Nat := 0x204
def SENSES : Nat := 0x208
def WEAK_FOUND : Nat := 0x20C
end R.OTP
namespace F.OTP
def EVENT_DONE : Fld := ⟨0x014, 8, 1⟩
def EVENT_WEAK_SEEN : Fld := ⟨0x014, 9, 1⟩
def EVENT_RANGE : Fld := ⟨0x014, 10, 1⟩
def CMD_OP : Fld := ⟨0x100, 0, 3⟩
def CMD_KEY : Fld := ⟨0x100, 16, 16⟩
def ADDR_WORD : Fld := ⟨0x104, 0, 10⟩
def ADDR_REGION : Fld := ⟨0x104, 16, 3⟩
def CMD_STATUS_BUSY : Fld := ⟨0x10C, 0, 1⟩
def CMD_STATUS_RESULT : Fld := ⟨0x10C, 4, 4⟩
def CMD_STATUS_PULSES : Fld := ⟨0x10C, 8, 4⟩
def WEAK_FIRST : Fld := ⟨0x110, 0, 10⟩
def WEAK_WEAK_BITS : Fld := ⟨0x110, 16, 8⟩
def WEAK_LEAK_BITS : Fld := ⟨0x110, 24, 8⟩
def FUSE_LOCK_WL : Fld := ⟨0x114, 0, 8⟩
def FUSE_LOCK_RL : Fld := ⟨0x114, 8, 8⟩
def SLOCK_WL : Fld := ⟨0x118, 0, 8⟩
def SLOCK_RL : Fld := ⟨0x118, 8, 8⟩
end F.OTP
namespace B.OTP
def OTP_SENSE : Nat := 0
def OTP_PROG : Nat := 1
def OTP_WEAK : Nat := 2
end B.OTP
/-! ROMPATCH page: R461, R462. -/
namespace R.ROMPATCH
def PATCH_STATUS : Nat := 0x100
def USED_LO : Nat := 0x104
def USED_HI : Nat := 0x108
def HITS : Nat := 0x200
end R.ROMPATCH
namespace F.ROMPATCH
def PATCH_STATUS_ACTIVE : Fld := ⟨0x100, 0, 7⟩
def PATCH_STATUS_BAD : Fld := ⟨0x100, 8, 7⟩
def PATCH_STATUS_FIRST_BAD : Fld := ⟨0x100, 16, 6⟩
def USED_LO_USED : Fld := ⟨0x104, 0, 32⟩
def USED_HI_USED : Fld := ⟨0x108, 0, 32⟩
end F.ROMPATCH
namespace B.ROMPATCH
def RP_BAD : Nat := 0
end B.ROMPATCH
/-! SECBOOT page: R457, R458. -/
namespace R.SECBOOT
def BOOT_STATUS : Nat := 0x100
def BOOT_CFG : Nat := 0x104
def LAST_FAIL : Nat := 0x108
def IMAGE_INFO : Nat := 0x10C
def IMAGE_DIGEST : Nat := 0x110
def CMD : Nat := 0x130
def CMD_STATUS : Nat := 0x134
def SESS_CFG : Nat := 0x138
def SESS_STATUS : Nat := 0x13C
def SESS_NONCE : Nat := 0x140
def ATT_NONCE : Nat := 0x160
def ATT_REPORT : Nat := 0x180
def ATTEMPTS : Nat := 0x200
def FAILURES : Nat := 0x204
def SESSIONS : Nat := 0x208
def SESS_FAILS : Nat := 0x20C
def ATTESTS : Nat := 0x210
end R.SECBOOT
namespace F.SECBOOT
def EVENT_RELEASED : Fld := ⟨0x014, 8, 1⟩
def EVENT_SESSION : Fld := ⟨0x014, 9, 1⟩
def EVENT_RANGE : Fld := ⟨0x014, 10, 1⟩
def BOOT_STATUS_STATE : Fld := ⟨0x100, 0, 4⟩
def BOOT_STATUS_CODE : Fld := ⟨0x100, 4, 8⟩
def BOOT_STATUS_SEG : Fld := ⟨0x100, 12, 7⟩
def BOOT_STATUS_PROVISIONING : Fld := ⟨0x100, 19, 1⟩
def BOOT_STATUS_HOLD_MS : Fld := ⟨0x100, 24, 8⟩
def BOOT_CFG_BOOTSEL : Fld := ⟨0x104, 0, 2⟩
def BOOT_CFG_PATH : Fld := ⟨0x104, 2, 2⟩
def BOOT_CFG_DENY : Fld := ⟨0x104, 4, 3⟩
def BOOT_CFG_FORCE : Fld := ⟨0x104, 7, 1⟩
def BOOT_CFG_FORCE_PATH : Fld := ⟨0x104, 8, 2⟩
def BOOT_CFG_DBG_LIMIT : Fld := ⟨0x104, 10, 2⟩
def LAST_FAIL_CODE : Fld := ⟨0x108, 0, 8⟩
def LAST_FAIL_SEG : Fld := ⟨0x108, 8, 7⟩
def IMAGE_INFO_KEY_INDEX : Fld := ⟨0x10C, 0, 2⟩
def IMAGE_INFO_PROVISIONING : Fld := ⟨0x10C, 2, 1⟩
def IMAGE_INFO_ARB : Fld := ⟨0x10C, 8, 8⟩
def IMAGE_INFO_COUNTER : Fld := ⟨0x10C, 16, 8⟩
def CMD_OP : Fld := ⟨0x130, 0, 4⟩
def CMD_ARG : Fld := ⟨0x130, 4, 8⟩
def CMD_KEY : Fld := ⟨0x130, 16, 16⟩
def CMD_STATUS_BUSY : Fld := ⟨0x134, 0, 1⟩
def CMD_STATUS_RESULT : Fld := ⟨0x134, 4, 8⟩
def SESS_CFG_IDLE : Fld := ⟨0x138, 0, 16⟩
def SESS_CFG_WINDOW : Fld := ⟨0x138, 16, 1⟩
def SESS_STATUS_OPEN : Fld := ⟨0x13C, 0, 1⟩
def SESS_STATUS_NONCE_VALID : Fld := ⟨0x13C, 1, 1⟩
end F.SECBOOT
namespace B.SECBOOT
def SB_FAIL : Nat := 0
def SB_SESSION : Nat := 1
end B.SECBOOT
/-! DEBUG page: R463, R464. -/
namespace R.DEBUG
def DBG_STATUS : Nat := 0x100
def DEVICE_ID_LO : Nat := 0x104
def DEVICE_ID_HI : Nat := 0x108
def NONCE : Nat := 0x110
def DBG_CMD : Nat := 0x130
def TOKEN : Nat := 0x140
def UNLOCKS : Nat := 0x200
def UNLOCK_FAILS : Nat := 0x204
end R.DEBUG
namespace F.DEBUG
def EVENT_UNLOCKED : Fld := ⟨0x014, 8, 1⟩
def EVENT_REFUSED_TOKEN : Fld := ⟨0x014, 9, 1⟩
def EVENT_RANGE : Fld := ⟨0x014, 10, 1⟩
def DBG_STATUS_LEVEL : Fld := ⟨0x100, 0, 2⟩
def DBG_STATUS_NONCE_VALID : Fld := ⟨0x100, 2, 1⟩
def DBG_STATUS_RESULT : Fld := ⟨0x100, 4, 8⟩
def DBG_STATUS_LIMIT : Fld := ⟨0x100, 12, 2⟩
def DBG_CMD_OP : Fld := ⟨0x130, 0, 2⟩
def TOKEN_WORD : Fld := ⟨0x140, 0, 32⟩
end F.DEBUG
namespace B.DEBUG
def DBG_TOKEN : Nat := 0
end B.DEBUG
/-! MRAM page: R512, R513. -/
namespace R.MRAM
def CMD : Nat := 0x100
def ADDR : Nat := 0x104
def LEN : Nat := 0x108
def CMD_STATUS : Nat := 0x10C
def PROTECT : Nat := 0x110
def ECC_LAST : Nat := 0x114
def SR_SEQ : Nat := 0x118
def SR_CFG : Nat := 0x140
def SR_STATUS : Nat := 0x180
def SR_NSEQ : Nat := 0x1C0
def COMMANDS : Nat := 0x200
def CORRECTED : Nat := 0x204
def UE_COUNT : Nat := 0x208
def VERIFY_RETRIES : Nat := 0x20C
def SR_WRITES : Nat := 0x210
def SR_FALLBACKS : Nat := 0x214
def BUF : Nat := 0x400
end R.MRAM
namespace F.MRAM
def STATUS_JOB : Fld := ⟨0x010, 8, 1⟩
def EVENT_DONE : Fld := ⟨0x014, 8, 1⟩
def EVENT_SR_SCANNED : Fld := ⟨0x014, 9, 1⟩
def EVENT_CMD_REFUSED : Fld := ⟨0x014, 10, 1⟩
def EVENT_CFG_BAD : Fld := ⟨0x014, 11, 1⟩
def EVENT_RANGE : Fld := ⟨0x014, 12, 1⟩
def FAULT_CAUSE_CODE : Fld := ⟨0x024, 0, 8⟩
def FAULT_CAUSE_DETAIL : Fld := ⟨0x024, 16, 16⟩
def CMD_OP : Fld := ⟨0x100, 0, 4⟩
def CMD_RING : Fld := ⟨0x100, 4, 4⟩
def CMD_KEY : Fld := ⟨0x100, 16, 16⟩
def ADDR_OFFSET : Fld := ⟨0x104, 0, 18⟩
def LEN_BYTES : Fld := ⟨0x108, 0, 9⟩
def CMD_STATUS_BUSY : Fld := ⟨0x10C, 0, 1⟩
def CMD_STATUS_RESULT : Fld := ⟨0x10C, 4, 4⟩
def CMD_STATUS_UNITS : Fld := ⟨0x10C, 8, 13⟩
def PROTECT_BP : Fld := ⟨0x110, 0, 2⟩
def ECC_LAST_UNIT : Fld := ⟨0x114, 0, 15⟩
def ECC_LAST_BIT : Fld := ⟨0x114, 16, 6⟩
def SR_SEQ_SEQ : Fld := ⟨0x118, 0, 32⟩
def SR_CFG_EN : Fld := ⟨0x140, 0, 1⟩
def SR_CFG_BASE : Fld := ⟨0x140, 4, 14⟩
def SR_CFG_SLOT_LOG : Fld := ⟨0x140, 20, 4⟩
def SR_CFG_NM1 : Fld := ⟨0x140, 24, 8⟩
def SR_STATUS_NEWEST : Fld := ⟨0x180, 0, 8⟩
def SR_STATUS_VALID : Fld := ⟨0x180, 8, 9⟩
def SR_STATUS_SCANNING : Fld := ⟨0x180, 17, 1⟩
def SR_STATUS_EMPTY : Fld := ⟨0x180, 18, 1⟩
def SR_NSEQ_SEQ : Fld := ⟨0x1C0, 0, 32⟩
def BUF_DATA : Fld := ⟨0x400, 0, 32⟩
end F.MRAM
namespace B.MRAM
def MRAM_UE : Nat := 0
def MRAM_WRITE : Nat := 1
end B.MRAM
/-! DOM page: R366, R367. -/
namespace R.DOM
def DCFG : Nat := 0x100
def WIN : Nat := 0x104
def OFF_CFG : Nat := 0x108
def ENABLES : Nat := 0x200
def UV_EVENTS : Nat := 0x204
def OV_EVENTS : Nat := 0x208
def OFF_TIMEOUTS : Nat := 0x20C
def CUTS : Nat := 0x210
end R.DOM
namespace F.DOM
def STATUS_DSTATE : Fld := ⟨0x010, 8, 3⟩
def STATUS_IN_WIN : Fld := ⟨0x010, 11, 1⟩
def STATUS_MASKED : Fld := ⟨0x010, 12, 1⟩
def STATUS_CUT : Fld := ⟨0x010, 13, 1⟩
def EVENT_REACHED_ON : Fld := ⟨0x014, 8, 1⟩
def EVENT_REACHED_OFF : Fld := ⟨0x014, 9, 1⟩
def EVENT_CUT : Fld := ⟨0x014, 10, 1⟩
def EVENT_RANGE : Fld := ⟨0x014, 11, 1⟩
def FAULT_CAUSE_CODE : Fld := ⟨0x024, 0, 8⟩
def FAULT_CAUSE_DETAIL : Fld := ⟨0x024, 16, 16⟩
def DCFG_CONFIRM : Fld := ⟨0x100, 0, 3⟩
def DCFG_CUT : Fld := ⟨0x100, 4, 1⟩
def WIN_UV : Fld := ⟨0x104, 0, 16⟩
def WIN_OV : Fld := ⟨0x104, 16, 16⟩
def OFF_CFG_OFF : Fld := ⟨0x108, 0, 16⟩
def OFF_CFG_OFF_TIME : Fld := ⟨0x108, 16, 16⟩
end F.DOM
namespace B.DOM
def DOM_UV : Nat := 0
def DOM_OV : Nat := 1
def DOM_OFF_TIMEOUT : Nat := 2
end B.DOM
/-! TIMEBASE page: R79, R80. -/
namespace R.TIMEBASE
def SRC_SEL : Nat := 0x100
def SRC_STATUS : Nat := 0x104
def FOLIO : Nat := 0x108
def ANGLE : Nat := 0x10C
def FOLIO_AT_ANGLE : Nat := 0x110
def FOLIO_EPOCH : Nat := 0x114
def FREQ : Nat := 0x118
def GRID_ANGLE : Nat := 0x11C
def MASTER_FREQ : Nat := 0x120
def VIRT_FREQ : Nat := 0x124
def LINE_SEL : Nat := 0x128
def PLL_CFG : Nat := 0x12C
def LOSS_CFG : Nat := 0x130
def JUMP_CFG : Nat := 0x134
def SYNC_CTRL : Nat := 0x138
def CREF_PERIOD : Nat := 0x13C
def SYNC_OFFSET : Nat := 0x140
def FMARK_CFG : Nat := 0x144
def CYCLES : Nat := 0x180
def LOSSES : Nat := 0x184
def JUMPS : Nat := 0x188
def SWITCHES : Nat := 0x18C
def FMARK_GOOD : Nat := 0x190
def FMARK_BAD : Nat := 0x194
def SYNC_MISSED : Nat := 0x198
end R.TIMEBASE
namespace F.TIMEBASE
def EVENT_LOCK : Fld := ⟨0x014, 8, 1⟩
def EVENT_LOSS : Fld := ⟨0x014, 9, 1⟩
def EVENT_JUMP : Fld := ⟨0x014, 10, 1⟩
def EVENT_SWITCHED : Fld := ⟨0x014, 11, 1⟩
def EVENT_SRC_REFUSED : Fld := ⟨0x014, 12, 1⟩
def EVENT_FOLIO_WRAP : Fld := ⟨0x014, 13, 1⟩
def EVENT_FMARK_LOCK : Fld := ⟨0x014, 14, 1⟩
def EVENT_FMARK_ERR : Fld := ⟨0x014, 15, 1⟩
def EVENT_SYNC_LOCK : Fld := ⟨0x014, 16, 1⟩
def EVENT_SYNC_LOSS : Fld := ⟨0x014, 17, 1⟩
def EVENT_RANGE : Fld := ⟨0x014, 18, 1⟩
def FAULT_CAUSE_CODE : Fld := ⟨0x024, 0, 8⟩
def FAULT_CAUSE_ERROR : Fld := ⟨0x024, 16, 16⟩
def SRC_SEL_SRC : Fld := ⟨0x100, 0, 3⟩
def SRC_SEL_AUTO_TRACK : Fld := ⟨0x100, 4, 1⟩
def SRC_SEL_ROLE : Fld := ⟨0x100, 8, 2⟩
def SRC_STATUS_ACTIVE : Fld := ⟨0x104, 0, 3⟩
def SRC_STATUS_PENDING : Fld := ⟨0x104, 4, 3⟩
def SRC_STATUS_SLEWING : Fld := ⟨0x104, 8, 1⟩
def SRC_STATUS_PLL_LOCK : Fld := ⟨0x104, 9, 1⟩
def SRC_STATUS_GRID_OK : Fld := ⟨0x104, 10, 1⟩
def SRC_STATUS_ANGLE_VALID : Fld := ⟨0x104, 11, 1⟩
def SRC_STATUS_FMARK_LOCK : Fld := ⟨0x104, 12, 1⟩
def SRC_STATUS_SYNC_LOCK : Fld := ⟨0x104, 13, 1⟩
def SRC_STATUS_SUPERVISED : Fld := ⟨0x104, 14, 1⟩
def FOLIO_FOLIO : Fld := ⟨0x108, 0, 32⟩
def ANGLE_ANGLE : Fld := ⟨0x10C, 0, 16⟩
def FOLIO_AT_ANGLE_FOLIO : Fld := ⟨0x110, 0, 32⟩
def FOLIO_EPOCH_EPOCH : Fld := ⟨0x114, 0, 16⟩
def FREQ_FREQ : Fld := ⟨0x118, 0, 32⟩
def GRID_ANGLE_ANGLE : Fld := ⟨0x11C, 0, 16⟩
def MASTER_FREQ_FREQ : Fld := ⟨0x120, 0, 32⟩
def VIRT_FREQ_FREQ : Fld := ⟨0x124, 0, 32⟩
def LINE_SEL_IN0 : Fld := ⟨0x128, 0, 6⟩
def LINE_SEL_IN1 : Fld := ⟨0x128, 8, 6⟩
def LINE_SEL_IN2 : Fld := ⟨0x128, 16, 6⟩
def LINE_SEL_MODE : Fld := ⟨0x128, 24, 2⟩
def PLL_CFG_BW : Fld := ⟨0x12C, 0, 3⟩
def PLL_CFG_LOCK_WIN : Fld := ⟨0x12C, 8, 8⟩
def PLL_CFG_LOCK_CONFIRM : Fld := ⟨0x12C, 16, 4⟩
def LOSS_CFG_LEVEL : Fld := ⟨0x130, 0, 12⟩
def LOSS_CFG_TIME : Fld := ⟨0x130, 16, 8⟩
def JUMP_CFG_LIMIT : Fld := ⟨0x134, 0, 14⟩
def JUMP_CFG_CONFIRM : Fld := ⟨0x134, 16, 4⟩
def SYNC_CTRL_CREF_SRC : Fld := ⟨0x138, 0, 1⟩
def SYNC_CTRL_SYNCOUT_EN : Fld := ⟨0x138, 4, 1⟩
def SYNC_CTRL_FMARK_OUT_EN : Fld := ⟨0x138, 5, 1⟩
def SYNC_CTRL_FMARK_IN_EN : Fld := ⟨0x138, 6, 1⟩
def CREF_PERIOD_PERIOD : Fld := ⟨0x13C, 0, 22⟩
def SYNC_OFFSET_OFFSET : Fld := ⟨0x140, 0, 16⟩
def FMARK_CFG_DELAY : Fld := ⟨0x144, 0, 10⟩
def FMARK_CFG_TOL : Fld := ⟨0x144, 16, 12⟩
end F.TIMEBASE
namespace B.TIMEBASE
def TB_LOSS : Nat := 0
def TB_JUMP : Nat := 1
def TB_MASTER_JUMP : Nat := 2
def TB_FMARK : Nat := 3
def TB_SYNC : Nat := 4
end B.TIMEBASE
/-! PROOF page: R81, R82. -/
namespace R.PROOF
def TRIG_EN : Nat := 0x100
def TAKE : Nat := 0x104
def PERIOD : Nat := 0x108
def HOLD : Nat := 0x10C
def HOLD_MAX : Nat := 0x110
def SEQ : Nat := 0x114
def LAST : Nat := 0x118
def MISSED : Nat := 0x11C
def MERGED : Nat := 0x120
def EXPIRED : Nat := 0x124
end R.PROOF
namespace F.PROOF
def EVENT_TAKEN : Fld := ⟨0x014, 8, 1⟩
def EVENT_MISSED : Fld := ⟨0x014, 9, 1⟩
def EVENT_HOLD_EXPIRED : Fld := ⟨0x014, 10, 1⟩
def TRIG_EN_REG : Fld := ⟨0x100, 0, 1⟩
def TRIG_EN_GALLEY : Fld := ⟨0x100, 1, 1⟩
def TRIG_EN_FMARK : Fld := ⟨0x100, 2, 1⟩
def TRIG_EN_PERIODIC : Fld := ⟨0x100, 3, 1⟩
def TRIG_EN_FMARK_DIV : Fld := ⟨0x100, 8, 4⟩
def TRIG_EN_AUTOHOLD : Fld := ⟨0x100, 16, 4⟩
def TAKE_TAKE : Fld := ⟨0x104, 0, 1⟩
def PERIOD_PERIOD : Fld := ⟨0x108, 0, 24⟩
def HOLD_CTRL : Fld := ⟨0x10C, 0, 1⟩
def HOLD_SVC : Fld := ⟨0x10C, 1, 1⟩
def HOLD_HOST : Fld := ⟨0x10C, 2, 1⟩
def HOLD_DEBUG : Fld := ⟨0x10C, 3, 1⟩
def HOLD_AUTO : Fld := ⟨0x10C, 4, 1⟩
def HOLD_MAX_LIMIT : Fld := ⟨0x110, 0, 17⟩
def SEQ_SEQ : Fld := ⟨0x114, 0, 32⟩
def LAST_TRIG : Fld := ⟨0x118, 0, 4⟩
def LAST_BANK : Fld := ⟨0x118, 8, 1⟩
end F.PROOF
/-! GALLEY page: R105, R106. -/
namespace R.GALLEY
def IMPOSE : Nat := 0x100
def NEXT_RANGE : Nat := 0x104
def NEXT_DIV : Nat := 0x108
def IMPOSE_STATUS : Nat := 0x10C
def IMPOSE_BAD : Nat := 0x110
def WIN_STATE : Nat := 0x114
def LAST_SKIP : Nat := 0x118
def LAST_DEFER : Nat := 0x11C
def IRQ_DATA : Nat := 0x140
def SHEET_RANGE : Nat := 0x180
def SHEET_DIV : Nat := 0x1C0
def SHEET_CURSOR : Nat := 0x200
def SHEET_LIVE : Nat := 0x240
def WL_ADDR : Nat := 0x280
def WL_FIELD : Nat := 0x300
def EXECUTED : Nat := 0x400
def DEFERRED : Nat := 0x404
def DROPPED : Nat := 0x408
def SKIPPED : Nat := 0x40C
def IMPOSES : Nat := 0x410
def WRITE_REFUSED : Nat := 0x414
def WL_REFUSED : Nat := 0x418
def ECC_CORRECTED : Nat := 0x41C
def IRQ_OVERRUN : Nat := 0x420
end R.GALLEY
namespace F.GALLEY
def EVENT_IMPOSED : Fld := ⟨0x014, 8, 1⟩
def EVENT_IMPOSE_FAIL : Fld := ⟨0x014, 9, 1⟩
def EVENT_DEFER : Fld := ⟨0x014, 10, 1⟩
def EVENT_SKIP : Fld := ⟨0x014, 11, 1⟩
def EVENT_WL_REFUSED : Fld := ⟨0x014, 12, 1⟩
def EVENT_WRITE_REFUSED : Fld := ⟨0x014, 13, 1⟩
def EVENT_DROP : Fld := ⟨0x014, 14, 1⟩
def EVENT_IRQ : Fld := ⟨0x014, 16, 16⟩
def IMPOSE_SHEET : Fld := ⟨0x100, 0, 4⟩
def IMPOSE_OP : Fld := ⟨0x100, 4, 2⟩
def NEXT_RANGE_BASE : Fld := ⟨0x104, 0, 14⟩
def NEXT_RANGE_LEN : Fld := ⟨0x104, 16, 15⟩
def NEXT_DIV_DIV : Fld := ⟨0x108, 0, 16⟩
def IMPOSE_STATUS_PENDING : Fld := ⟨0x10C, 0, 16⟩
def IMPOSE_STATUS_LAST_SHEET : Fld := ⟨0x10C, 16, 4⟩
def IMPOSE_STATUS_RESULT : Fld := ⟨0x10C, 20, 4⟩
def IMPOSE_STATUS_SCANNING : Fld := ⟨0x10C, 24, 1⟩
def IMPOSE_BAD_ENTRY : Fld := ⟨0x110, 0, 14⟩
def WIN_STATE_WIN : Fld := ⟨0x114, 0, 16⟩
def LAST_SKIP_ENTRY : Fld := ⟨0x118, 0, 14⟩
def LAST_SKIP_CAUSE : Fld := ⟨0x118, 16, 4⟩
def LAST_DEFER_ANGLE : Fld := ⟨0x11C, 0, 16⟩
def LAST_DEFER_FOLIO : Fld := ⟨0x11C, 16, 16⟩
def IRQ_DATA_DATA : Fld := ⟨0x140, 0, 24⟩
def SHEET_RANGE_BASE : Fld := ⟨0x180, 0, 14⟩
def SHEET_RANGE_LEN : Fld := ⟨0x180, 16, 15⟩
def SHEET_DIV_DIV : Fld := ⟨0x1C0, 0, 16⟩
def SHEET_CURSOR_ENTRY : Fld := ⟨0x200, 0, 14⟩
def WL_ADDR_ADDR : Fld := ⟨0x280, 0, 20⟩
def WL_ADDR_VALID : Fld := ⟨0x280, 31, 1⟩
def WL_FIELD_SHIFT : Fld := ⟨0x300, 0, 5⟩
def WL_FIELD_WIDTH : Fld := ⟨0x300, 8, 5⟩
end F.GALLEY
namespace B.GALLEY
def GAL_DROP : Nat := 0
def GAL_ECC : Nat := 1
end B.GALLEY
/-! CHG page: R278, R279. -/
namespace R.CHG
def CFG : Nat := 0x100
def CMD : Nat := 0x104
def MEAS : Nat := 0x108
def SCALE_I : Nat := 0x10C
def SCALE_V : Nat := 0x110
def REF_GAIN : Nat := 0x114
def REG_GAIN : Nat := 0x118
def LIMIT_CFG : Nat := 0x11C
def THERM_CFG : Nat := 0x120
def NTC_CFG : Nat := 0x124
def PILOT_CFG : Nat := 0x128
def BMS_CFG : Nat := 0x12C
def BMS_IN : Nat := 0x130
def PACK_V : Nat := 0x134
def PRE_CFG : Nat := 0x138
def TIMER_CFG : Nat := 0x13C
def TOPOFF_CFG : Nat := 0x140
def TOPOFF_TIME : Nat := 0x144
def EXIT_CFG : Nat := 0x148
def ZONE_HYST : Nat := 0x14C
def ZONE_EDGE : Nat := 0x150
def ZONE_CFG : Nat := 0x170
def REV_CFG : Nat := 0x190
def REV_VMIN : Nat := 0x194
def V2V_I : Nat := 0x198
def HLC_I : Nat := 0x19C
def NTC_TAB : Nat := 0x1A0
def PROFILE : Nat := 0x400
def CSTATE : Nat := 0x600
def PILOT : Nat := 0x604
def PILOT_LEVEL : Nat := 0x608
def PP : Nat := 0x60C
def LIMIT : Nat := 0x610
def TEMPS : Nat := 0x614
def OUTPUT : Nat := 0x618
def I_CMD : Nat := 0x61C
def STEP_EQ : Nat := 0x620
def STEP_RT : Nat := 0x624
def TOTAL_EQ : Nat := 0x628
def TOTAL_RT : Nat := 0x62C
def LAST_CMD : Nat := 0x630
def SESSIONS : Nat := 0x700
def SUSPENDS : Nat := 0x704
def EXPIRIES : Nat := 0x708
def PILOT_ERRS : Nat := 0x70C
def BMS_OK : Nat := 0x710
def BMS_BAD : Nat := 0x714
def REVERSES : Nat := 0x718
end R.CHG
namespace F.CHG
def EVENT_STATE_CHANGE : Fld := ⟨0x014, 8, 1⟩
def EVENT_STEP_CHANGE : Fld := ⟨0x014, 9, 1⟩
def EVENT_ZONE_CHANGE : Fld := ⟨0x014, 10, 1⟩
def EVENT_TERM_CHANGE : Fld := ⟨0x014, 11, 1⟩
def EVENT_BMS_REFUSED : Fld := ⟨0x014, 12, 1⟩
def EVENT_SUPPLY_OK : Fld := ⟨0x014, 13, 1⟩
def EVENT_CMD_REFUSED : Fld := ⟨0x014, 14, 1⟩
def EVENT_CFG_BAD : Fld := ⟨0x014, 15, 1⟩
def EVENT_RANGE : Fld := ⟨0x014, 16, 1⟩
def FAULT_CAUSE_CODE : Fld := ⟨0x024, 0, 8⟩
def FAULT_CAUSE_DETAIL : Fld := ⟨0x024, 16, 16⟩
def CFG_AUTO_START : Fld := ⟨0x100, 0, 1⟩
def CFG_PP_MODE : Fld := ⟨0x100, 1, 1⟩
def CFG_THREE : Fld := ⟨0x100, 2, 1⟩
def CFG_BMS_REQ : Fld := ⟨0x100, 3, 1⟩
def CFG_IN_GROUP : Fld := ⟨0x100, 8, 3⟩
def CFG_OUT_GROUP : Fld := ⟨0x100, 12, 3⟩
def CFG_BMS_UNIT : Fld := ⟨0x100, 16, 2⟩
def CMD_OP : Fld := ⟨0x104, 0, 4⟩
def CMD_KEY : Fld := ⟨0x104, 16, 16⟩
def MEAS_IN_IOUT : Fld := ⟨0x108, 0, 6⟩
def MEAS_IN_VOUT : Fld := ⟨0x108, 8, 6⟩
def MEAS_IN_VLINK : Fld := ⟨0x108, 16, 6⟩
def SCALE_I_SCALE : Fld := ⟨0x10C, 0, 32⟩
def SCALE_V_SCALE : Fld := ⟨0x110, 0, 32⟩
def REF_GAIN_GAIN : Fld := ⟨0x114, 0, 32⟩
def REG_GAIN_KI_I : Fld := ⟨0x118, 0, 16⟩
def REG_GAIN_KI_V : Fld := ⟨0x118, 16, 16⟩
def LIMIT_CFG_CAP : Fld := ⟨0x11C, 0, 16⟩
def LIMIT_CFG_I_MIN : Fld := ⟨0x11C, 16, 16⟩
def THERM_CFG_T_START : Fld := ⟨0x120, 0, 16⟩
def THERM_CFG_T_STOP : Fld := ⟨0x120, 16, 16⟩
def NTC_CFG_IN0 : Fld := ⟨0x124, 0, 5⟩
def NTC_CFG_IN1 : Fld := ⟨0x124, 8, 5⟩
def NTC_CFG_IN2 : Fld := ⟨0x124, 16, 5⟩
def NTC_CFG_IN3 : Fld := ⟨0x124, 24, 5⟩
def NTC_CFG_CLASS0 : Fld := ⟨0x124, 5, 1⟩
def NTC_CFG_CLASS1 : Fld := ⟨0x124, 13, 1⟩
def NTC_CFG_CLASS2 : Fld := ⟨0x124, 21, 1⟩
def NTC_CFG_CLASS3 : Fld := ⟨0x124, 29, 1⟩
def NTC_CFG_EN0 : Fld := ⟨0x124, 7, 1⟩
def NTC_CFG_EN1 : Fld := ⟨0x124, 15, 1⟩
def NTC_CFG_EN2 : Fld := ⟨0x124, 23, 1⟩
def NTC_CFG_EN3 : Fld := ⟨0x124, 31, 1⟩
def PILOT_CFG_AVG : Fld := ⟨0x128, 0, 6⟩
def PILOT_CFG_GRID_WAIT : Fld := ⟨0x128, 8, 8⟩
def PILOT_CFG_STOP_TIME : Fld := ⟨0x128, 16, 16⟩
def BMS_CFG_STALE : Fld := ⟨0x12C, 0, 16⟩
def BMS_IN_T_MIN : Fld := ⟨0x130, 0, 16⟩
def BMS_IN_T_MAX : Fld := ⟨0x130, 16, 16⟩
def PACK_V_VOLTS : Fld := ⟨0x134, 0, 16⟩
def PRE_CFG_LINK_MIN : Fld := ⟨0x138, 0, 16⟩
def PRE_CFG_MATCH : Fld := ⟨0x138, 16, 8⟩
def PRE_CFG_TIME : Fld := ⟨0x138, 24, 8⟩
def TIMER_CFG_FLOW_MIN : Fld := ⟨0x13C, 0, 16⟩
def TIMER_CFG_TOTAL : Fld := ⟨0x13C, 16, 16⟩
def TOPOFF_CFG_V_LIM : Fld := ⟨0x140, 0, 16⟩
def TOPOFF_CFG_I_EXIT : Fld := ⟨0x140, 16, 16⟩
def TOPOFF_TIME_TIME : Fld := ⟨0x144, 0, 16⟩
def TOPOFF_TIME_SAFE : Fld := ⟨0x144, 16, 13⟩
def EXIT_CFG_CONFIRM : Fld := ⟨0x148, 0, 16⟩
def EXIT_CFG_RESUME : Fld := ⟨0x148, 16, 16⟩
def ZONE_HYST_HYST : Fld := ⟨0x14C, 0, 16⟩
def ZONE_EDGE_EDGE : Fld := ⟨0x150, 0, 16⟩
def ZONE_CFG_REDUCE : Fld := ⟨0x170, 0, 8⟩
def ZONE_CFG_SUSP : Fld := ⟨0x170, 8, 1⟩
def ZONE_CFG_RANK : Fld := ⟨0x170, 12, 3⟩
def REV_CFG_REV_I : Fld := ⟨0x190, 0, 16⟩
def REV_CFG_VIN_MAX : Fld := ⟨0x190, 16, 16⟩
def REV_VMIN_VOLTS : Fld := ⟨0x194, 0, 16⟩
def V2V_I_CURRENT : Fld := ⟨0x198, 0, 16⟩
def HLC_I_CURRENT : Fld := ⟨0x19C, 0, 16⟩
def NTC_TAB_CODE : Fld := ⟨0x1A0, 0, 16⟩
def NTC_TAB_TEMP : Fld := ⟨0x1A0, 16, 16⟩
def CSTATE_STATE : Fld := ⟨0x600, 0, 4⟩
def CSTATE_STEP : Fld := ⟨0x600, 4, 3⟩
def CSTATE_LIMITED : Fld := ⟨0x600, 7, 1⟩
def CSTATE_ZONE : Fld := ⟨0x600, 8, 3⟩
def CSTATE_VCTRL : Fld := ⟨0x600, 11, 1⟩
def CSTATE_CAUSE : Fld := ⟨0x600, 12, 8⟩
def CSTATE_SUSP_MASK : Fld := ⟨0x600, 20, 9⟩
def CSTATE_S2 : Fld := ⟨0x600, 29, 1⟩
def CSTATE_SUPPLY_OK : Fld := ⟨0x600, 30, 1⟩
def CSTATE_START : Fld := ⟨0x600, 31, 1⟩
def PILOT_STATE : Fld := ⟨0x604, 0, 3⟩
def PILOT_PWM : Fld := ⟨0x604, 3, 1⟩
def PILOT_HLC : Fld := ⟨0x604, 4, 1⟩
def PILOT_DUTY : Fld := ⟨0x604, 16, 14⟩
def PILOT_LEVEL_HIGH : Fld := ⟨0x608, 0, 16⟩
def PILOT_LEVEL_LOW : Fld := ⟨0x608, 16, 16⟩
def PP_OHMS : Fld := ⟨0x60C, 0, 16⟩
def PP_RATING : Fld := ⟨0x60C, 16, 4⟩
def LIMIT_I_LIM_IN : Fld := ⟨0x610, 0, 16⟩
def LIMIT_TERM : Fld := ⟨0x610, 16, 3⟩
def TEMPS_T_LO : Fld := ⟨0x614, 0, 16⟩
def TEMPS_T_HI : Fld := ⟨0x614, 16, 16⟩
def OUTPUT_I_OUT : Fld := ⟨0x618, 0, 16⟩
def OUTPUT_V_OUT : Fld := ⟨0x618, 16, 16⟩
def I_CMD_I_CMD : Fld := ⟨0x61C, 0, 16⟩
def STEP_EQ_MS : Fld := ⟨0x620, 0, 32⟩
def STEP_RT_MS : Fld := ⟨0x624, 0, 32⟩
def TOTAL_EQ_MS : Fld := ⟨0x628, 0, 32⟩
def TOTAL_RT_MS : Fld := ⟨0x62C, 0, 32⟩
def LAST_CMD_OP : Fld := ⟨0x630, 0, 4⟩
def LAST_CMD_RESULT : Fld := ⟨0x630, 8, 8⟩
end F.CHG
namespace B.CHG
def CHG_TIMER : Nat := 0
def CHG_TEMP : Nat := 1
def CHG_PILOT : Nat := 2
def CHG_S2 : Nat := 3
def CHG_PRECHARGE : Nat := 4
def CHG_CPGEN : Nat := 5
def CHG_PROFILE : Nat := 6
end B.CHG
/-! GAUGE page: R309, R310. -/
namespace R.GAUGE
def CFG : Nat := 0x100
def CMD : Nat := 0x104
def I_SCALE : Nat := 0x108
def V_SCALE : Nat := 0x10C
def V_OFFSET : Nat := 0x110
def SERIES : Nat := 0x114
def CAP_NOM : Nat := 0x118
def REST : Nat := 0x11C
def GATE : Nat := 0x120
def RV : Nat := 0x124
def QQ : Nat := 0x128
def QV : Nat := 0x12C
def QC : Nat := 0x130
def PROBE_CFG : Nat := 0x134
def R_LIMITS : Nat := 0x138
def PUB_CFG : Nat := 0x13C
def DRAIN : Nat := 0x140
def TEMP_HOST : Nat := 0x144
def IWAKE_CFG : Nat := 0x148
def IWAKE_SEL : Nat := 0x14C
def OCV_T : Nat := 0x150
def SOC : Nat := 0x180
def SOC_V : Nat := 0x184
def Q : Nat := 0x188
def VP : Nat := 0x18C
def CAP : Nat := 0x190
def P_QQ : Nat := 0x194
def P_VV : Nat := 0x198
def P_CC : Nat := 0x19C
def RSER : Nat := 0x1A0
def RPOL : Nat := 0x1A4
def CPOL : Nat := 0x1A8
def INNOV : Nat := 0x1AC
def Q_COUL : Nat := 0x1B0
def Q_VOLT : Nat := 0x1B4
def CAP_COMMIT : Nat := 0x1B8
def REC_SEQ : Nat := 0x1BC
def ACK_SEQ : Nat := 0x1C0
def REC_ACK : Nat := 0x1C4
def LAST_CMD : Nat := 0x1C8
def LAST_FIT : Nat := 0x1CC
def FIT_RSER : Nat := 0x1D0
def FIT_RPOL : Nat := 0x1D4
def FIT_CPOL : Nat := 0x1D8
def HIB_TIME : Nat := 0x1DC
def WAKE_GAP : Nat := 0x1E0
def I_NOW : Nat := 0x1E4
def V_NOW : Nat := 0x1E8
def CC : Nat := 0x200
def FILTER_RUNS : Nat := 0x208
def REJECTS : Nat := 0x20C
def ANCHORS : Nat := 0x210
def FITS : Nat := 0x214
def FIT_REJECTS : Nat := 0x218
def PUBLISHED : Nat := 0x21C
def RESTORES : Nat := 0x220
def GAP_TICKS : Nat := 0x224
def UPD_SKIPPED : Nat := 0x228
def OCV_TAB : Nat := 0x400
end R.GAUGE
namespace F.GAUGE
def STATUS_GSTATE : Fld := ⟨0x010, 8, 3⟩
def STATUS_RETAINED : Fld := ⟨0x010, 11, 1⟩
def STATUS_COULOMB_DRIFT : Fld := ⟨0x010, 12, 1⟩
def STATUS_AT_REST : Fld := ⟨0x010, 13, 1⟩
def STATUS_T_OLD : Fld := ⟨0x010, 14, 1⟩
def STATUS_OUT_LOW : Fld := ⟨0x010, 15, 1⟩
def STATUS_OUT_HIGH : Fld := ⟨0x010, 16, 1⟩
def STATUS_PENDING : Fld := ⟨0x010, 17, 1⟩
def STATUS_SOC_V_FRESH : Fld := ⟨0x010, 18, 1⟩
def STATUS_GAP : Fld := ⟨0x010, 19, 1⟩
def STATUS_REJ_RUN : Fld := ⟨0x010, 24, 8⟩
def EVENT_DRIFT : Fld := ⟨0x014, 8, 1⟩
def EVENT_ANCHOR : Fld := ⟨0x014, 9, 1⟩
def EVENT_FIT : Fld := ⟨0x014, 10, 1⟩
def EVENT_FIT_REJECT : Fld := ⟨0x014, 11, 1⟩
def EVENT_PUBLISH : Fld := ⟨0x014, 12, 1⟩
def EVENT_ACK : Fld := ⟨0x014, 13, 1⟩
def EVENT_RESTORED : Fld := ⟨0x014, 14, 1⟩
def EVENT_FROZEN : Fld := ⟨0x014, 15, 1⟩
def EVENT_CMD_REFUSED : Fld := ⟨0x014, 16, 1⟩
def EVENT_CFG_BAD : Fld := ⟨0x014, 17, 1⟩
def EVENT_RANGE : Fld := ⟨0x014, 18, 1⟩
def FAULT_CAUSE_CODE : Fld := ⟨0x024, 0, 8⟩
def FAULT_CAUSE_DETAIL : Fld := ⟨0x024, 16, 16⟩
def CFG_IN_I : Fld := ⟨0x100, 0, 6⟩
def CFG_IN_V : Fld := ⟨0x100, 8, 6⟩
def CFG_GROUP : Fld := ⟨0x100, 16, 3⟩
def CFG_MBOX : Fld := ⟨0x100, 20, 3⟩
def CFG_TSRC : Fld := ⟨0x100, 23, 1⟩
def CFG_REP_RING : Fld := ⟨0x100, 24, 7⟩
def CFG_REP_EN : Fld := ⟨0x100, 31, 1⟩
def CMD_OP : Fld := ⟨0x104, 0, 4⟩
def CMD_KEY : Fld := ⟨0x104, 16, 16⟩
def I_SCALE_VALUE : Fld := ⟨0x108, 0, 32⟩
def V_SCALE_VALUE : Fld := ⟨0x10C, 0, 32⟩
def V_OFFSET_VALUE : Fld := ⟨0x110, 0, 32⟩
def SERIES_CELLS : Fld := ⟨0x114, 0, 8⟩
def CAP_NOM_CAP : Fld := ⟨0x118, 0, 16⟩
def REST_I : Fld := ⟨0x11C, 0, 16⟩
def REST_TIME : Fld := ⟨0x11C, 16, 16⟩
def GATE_SIGMA : Fld := ⟨0x120, 0, 8⟩
def GATE_N_REJ : Fld := ⟨0x120, 16, 8⟩
def RV_VALUE : Fld := ⟨0x124, 0, 32⟩
def QQ_VALUE : Fld := ⟨0x128, 0, 32⟩
def QV_VALUE : Fld := ⟨0x12C, 0, 32⟩
def QC_VALUE : Fld := ⟨0x130, 0, 32⟩
def PROBE_CFG_PRE : Fld := ⟨0x134, 0, 8⟩
def PROBE_CFG_ALPHA : Fld := ⟨0x134, 8, 8⟩
def PROBE_CFG_DI_MIN : Fld := ⟨0x134, 16, 16⟩
def R_LIMITS_R_MIN : Fld := ⟨0x138, 0, 16⟩
def R_LIMITS_R_MAX : Fld := ⟨0x138, 16, 16⟩
def PUB_CFG_PERIOD : Fld := ⟨0x13C, 0, 16⟩
def PUB_CFG_CAP_DELTA : Fld := ⟨0x13C, 16, 8⟩
def PUB_CFG_DOORBELL : Fld := ⟨0x13C, 24, 5⟩
def DRAIN_HIB_DRAIN : Fld := ⟨0x140, 0, 16⟩
def DRAIN_GAP_I : Fld := ⟨0x140, 16, 16⟩
def TEMP_HOST_TEMP : Fld := ⟨0x144, 0, 16⟩
def IWAKE_CFG_LO : Fld := ⟨0x148, 0, 12⟩
def IWAKE_CFG_EN : Fld := ⟨0x148, 15, 1⟩
def IWAKE_CFG_HI : Fld := ⟨0x148, 16, 12⟩
def IWAKE_SEL_IN : Fld := ⟨0x14C, 0, 6⟩
def IWAKE_SEL_TIME : Fld := ⟨0x14C, 8, 8⟩
def OCV_T_TEMP : Fld := ⟨0x150, 0, 16⟩
def SOC_VALUE : Fld := ⟨0x180, 0, 32⟩
def SOC_V_VALUE : Fld := ⟨0x184, 0, 32⟩
def Q_VALUE : Fld := ⟨0x188, 0, 32⟩
def VP_VALUE : Fld := ⟨0x18C, 0, 32⟩
def CAP_VALUE : Fld := ⟨0x190, 0, 32⟩
def P_QQ_VALUE : Fld := ⟨0x194, 0, 32⟩
def P_VV_VALUE : Fld := ⟨0x198, 0, 32⟩
def P_CC_VALUE : Fld := ⟨0x19C, 0, 32⟩
def RSER_VALUE : Fld := ⟨0x1A0, 0, 32⟩
def RPOL_VALUE : Fld := ⟨0x1A4, 0, 32⟩
def CPOL_VALUE : Fld := ⟨0x1A8, 0, 32⟩
def INNOV_VALUE : Fld := ⟨0x1AC, 0, 32⟩
def Q_COUL_VALUE : Fld := ⟨0x1B0, 0, 32⟩
def Q_VOLT_VALUE : Fld := ⟨0x1B4, 0, 32⟩
def CAP_COMMIT_VALUE : Fld := ⟨0x1B8, 0, 32⟩
def REC_SEQ_SEQ : Fld := ⟨0x1BC, 0, 32⟩
def ACK_SEQ_SEQ : Fld := ⟨0x1C0, 0, 32⟩
def REC_ACK_SEQ : Fld := ⟨0x1C4, 0, 32⟩
def LAST_CMD_OP : Fld := ⟨0x1C8, 0, 4⟩
def LAST_CMD_RESULT : Fld := ⟨0x1C8, 8, 8⟩
def LAST_FIT_RESULT : Fld := ⟨0x1CC, 0, 4⟩
def LAST_FIT_DI : Fld := ⟨0x1CC, 16, 16⟩
def FIT_RSER_VALUE : Fld := ⟨0x1D0, 0, 32⟩
def FIT_RPOL_VALUE : Fld := ⟨0x1D4, 0, 32⟩
def FIT_CPOL_VALUE : Fld := ⟨0x1D8, 0, 32⟩
def HIB_TIME_VALUE : Fld := ⟨0x1DC, 0, 32⟩
def WAKE_GAP_VALUE : Fld := ⟨0x1E0, 0, 32⟩
def I_NOW_VALUE : Fld := ⟨0x1E4, 0, 32⟩
def V_NOW_VALUE : Fld := ⟨0x1E8, 0, 32⟩
def OCV_TAB_POINT0 : Fld := ⟨0x400, 0, 16⟩
def OCV_TAB_POINT1 : Fld := ⟨0x400, 16, 16⟩
end F.GAUGE
namespace B.GAUGE
def GAUGE_DRIFT : Nat := 0
def GAUGE_STATE : Nat := 1
end B.GAUGE
/-! DISCH page: R198, R199. -/
namespace R.DISCH
def DCFG : Nat := 0x100
def DTIME : Nat := 0x104
def DCMD : Nat := 0x108
def RES_PER : Nat := 0x10C
def RES_ON : Nat := 0x110
def LAST_TIME : Nat := 0x114
def VOLTAGE : Nat := 0x118
def DISCHARGES : Nat := 0x180
def TIMEOUTS : Nat := 0x184
def CHECKS : Nat := 0x188
end R.DISCH
namespace F.DISCH
def STATUS_DSTATE : Fld := ⟨0x010, 8, 3⟩
def STATUS_CHECKED : Fld := ⟨0x010, 11, 1⟩
def STATUS_BALL : Fld := ⟨0x010, 12, 1⟩
def STATUS_BELOW : Fld := ⟨0x010, 13, 1⟩
def STATUS_TRIGGER : Fld := ⟨0x010, 14, 3⟩
def EVENT_DONE : Fld := ⟨0x014, 8, 1⟩
def EVENT_CHECK_PASS : Fld := ⟨0x014, 9, 1⟩
def EVENT_CHECK_FAIL : Fld := ⟨0x014, 10, 1⟩
def EVENT_CMD_REFUSED : Fld := ⟨0x014, 11, 1⟩
def FAULT_CAUSE_CODE : Fld := ⟨0x024, 0, 8⟩
def FAULT_CAUSE_DETAIL : Fld := ⟨0x024, 16, 16⟩
def DCFG_IN : Fld := ⟨0x100, 0, 6⟩
def DCFG_ON_DISARM : Fld := ⟨0x100, 8, 1⟩
def DCFG_ON_HALT : Fld := ⟨0x100, 9, 1⟩
def DCFG_RES_EN : Fld := ⟨0x100, 10, 1⟩
def DCFG_RES_GROUP : Fld := ⟨0x100, 12, 3⟩
def DCFG_THRESH : Fld := ⟨0x100, 16, 16⟩
def DTIME_TIME : Fld := ⟨0x104, 0, 9⟩
def DTIME_HOLD : Fld := ⟨0x104, 16, 10⟩
def DCMD_OP : Fld := ⟨0x108, 0, 3⟩
def DCMD_KEY : Fld := ⟨0x108, 16, 16⟩
def RES_PER_VALUE : Fld := ⟨0x10C, 0, 22⟩
def RES_ON_VALUE : Fld := ⟨0x110, 0, 22⟩
def LAST_TIME_MS : Fld := ⟨0x114, 0, 16⟩
def VOLTAGE_CODE : Fld := ⟨0x118, 0, 16⟩
end F.DISCH
namespace B.DISCH
def DISCH_TIMEOUT : Nat := 0
def DISCH_OUTPUT : Nat := 1
end B.DISCH
/-! MONADC page: R240, R241. -/
namespace R.MONADC
def HIB_CFG : Nat := 0x100
def HIB_MASK_LO : Nat := 0x104
def HIB_MASK_HI : Nat := 0x108
def RESULT : Nat := 0x140
def SCANS : Nat := 0x200
def HIB_SCANS : Nat := 0x204
def STALLS : Nat := 0x208
end R.MONADC
namespace F.MONADC
def EVENT_SCAN_DONE : Fld := ⟨0x014, 8, 1⟩
def EVENT_RANGE : Fld := ⟨0x014, 9, 1⟩
def HIB_CFG_PERIOD : Fld := ⟨0x100, 0, 10⟩
def HIB_MASK_LO_CH : Fld := ⟨0x104, 0, 32⟩
def HIB_MASK_HI_CH : Fld := ⟨0x108, 0, 8⟩
def RESULT_RESULT : Fld := ⟨0x140, 0, 16⟩
def RESULT_SAT : Fld := ⟨0x140, 16, 1⟩
def RESULT_OW : Fld := ⟨0x140, 17, 1⟩
def RESULT_SCAN : Fld := ⟨0x140, 24, 8⟩
end F.MONADC
namespace B.MONADC
def MON_STALL : Nat := 0
def MON_TRIM : Nat := 1
end B.MONADC
/-! BIN page: R236, R237. -/
namespace R.BIN
def COMPLETE_FOLIO : Nat := 0x100
def SUSPENDED_LO : Nat := 0x104
def SUSPENDED_HI : Nat := 0x108
def CH : Nat := 0x200
def CH_FROM : Nat := 0x300
def CYCLES : Nat := 0x400
def EMPTY_BINS : Nat := 0x404
def DISCARDED : Nat := 0x408
def SUSPENSIONS : Nat := 0x40C
end R.BIN
namespace F.BIN
def EVENT_CYCLE_DONE : Fld := ⟨0x014, 8, 1⟩
def EVENT_SUSPEND : Fld := ⟨0x014, 9, 1⟩
def EVENT_CFG_BAD : Fld := ⟨0x014, 10, 1⟩
def EVENT_RANGE : Fld := ⟨0x014, 11, 1⟩
def COMPLETE_FOLIO_FOLIO : Fld := ⟨0x100, 0, 32⟩
def SUSPENDED_LO_CH : Fld := ⟨0x104, 0, 32⟩
def SUSPENDED_HI_CH : Fld := ⟨0x108, 0, 32⟩
def CH_IN : Fld := ⟨0x200, 0, 6⟩
def CH_KSEL : Fld := ⟨0x200, 8, 3⟩
def CH_DEPTH : Fld := ⟨0x200, 12, 3⟩
def CH_BASE : Fld := ⟨0x200, 16, 13⟩
def CH_EN : Fld := ⟨0x200, 31, 1⟩
def CH_FROM_FOLIO : Fld := ⟨0x300, 0, 32⟩
end F.BIN
/-! OPENWIRE page: R242, R243. -/
namespace R.OPENWIRE
def OW_CFG : Nat := 0x100
def OW_SEL : Nat := 0x110
def OW_SET : Nat := 0x130
def THR_SHIFT : Nat := 0x150
def THR_RAIL : Nat := 0x160
def THR_SETTLE : Nat := 0x170
def VERDICT : Nat := 0x180
def LAST_TEST : Nat := 0x1B0
def LAST_UD : Nat := 0x1B4
def TESTS : Nat := 0x200
def SKIPPED : Nat := 0x204
def FINDINGS : Nat := 0x208
def ROUNDS : Nat := 0x20C
end R.OPENWIRE
namespace F.OPENWIRE
def EVENT_ROUND_DONE : Fld := ⟨0x014, 8, 1⟩
def EVENT_FINDING : Fld := ⟨0x014, 9, 1⟩
def EVENT_CLEARED : Fld := ⟨0x014, 10, 1⟩
def EVENT_RANGE : Fld := ⟨0x014, 11, 1⟩
def OW_CFG_ROUND : Fld := ⟨0x100, 0, 16⟩
def OW_CFG_IN_RUN : Fld := ⟨0x100, 16, 1⟩
def OW_CFG_CONFIRM : Fld := ⟨0x100, 20, 4⟩
def OW_SEL_OW_SEL0 : Fld := ⟨0x110, 0, 2⟩
def OW_SEL_OW_SEL1 : Fld := ⟨0x110, 2, 2⟩
def OW_SEL_OW_SEL2 : Fld := ⟨0x110, 4, 2⟩
def OW_SEL_OW_SEL3 : Fld := ⟨0x110, 6, 2⟩
def OW_SEL_OW_SEL4 : Fld := ⟨0x110, 8, 2⟩
def OW_SEL_OW_SEL5 : Fld := ⟨0x110, 10, 2⟩
def OW_SEL_OW_SEL6 : Fld := ⟨0x110, 12, 2⟩
def OW_SEL_OW_SEL7 : Fld := ⟨0x110, 14, 2⟩
def OW_SEL_OW_SEL8 : Fld := ⟨0x110, 16, 2⟩
def OW_SEL_OW_SEL9 : Fld := ⟨0x110, 18, 2⟩
def OW_SEL_OW_SEL10 : Fld := ⟨0x110, 20, 2⟩
def OW_SEL_OW_SEL11 : Fld := ⟨0x110, 22, 2⟩
def OW_SEL_OW_SEL12 : Fld := ⟨0x110, 24, 2⟩
def OW_SEL_OW_SEL13 : Fld := ⟨0x110, 26, 2⟩
def OW_SEL_OW_SEL14 : Fld := ⟨0x110, 28, 2⟩
def OW_SEL_OW_SEL15 : Fld := ⟨0x110, 30, 2⟩
def OW_SET_OW_SET0 : Fld := ⟨0x130, 0, 2⟩
def OW_SET_OW_SET1 : Fld := ⟨0x130, 2, 2⟩
def OW_SET_OW_SET2 : Fld := ⟨0x130, 4, 2⟩
def OW_SET_OW_SET3 : Fld := ⟨0x130, 6, 2⟩
def OW_SET_OW_SET4 : Fld := ⟨0x130, 8, 2⟩
def OW_SET_OW_SET5 : Fld := ⟨0x130, 10, 2⟩
def OW_SET_OW_SET6 : Fld := ⟨0x130, 12, 2⟩
def OW_SET_OW_SET7 : Fld := ⟨0x130, 14, 2⟩
def OW_SET_OW_SET8 : Fld := ⟨0x130, 16, 2⟩
def OW_SET_OW_SET9 : Fld := ⟨0x130, 18, 2⟩
def OW_SET_OW_SET10 : Fld := ⟨0x130, 20, 2⟩
def OW_SET_OW_SET11 : Fld := ⟨0x130, 22, 2⟩
def OW_SET_OW_SET12 : Fld := ⟨0x130, 24, 2⟩
def OW_SET_OW_SET13 : Fld := ⟨0x130, 26, 2⟩
def OW_SET_OW_SET14 : Fld := ⟨0x130, 28, 2⟩
def OW_SET_OW_SET15 : Fld := ⟨0x130, 30, 2⟩
def THR_SHIFT_SHIFT_OK : Fld := ⟨0x150, 0, 16⟩
def THR_SHIFT_SHIFT_OPEN : Fld := ⟨0x150, 16, 16⟩
def THR_RAIL_RAIL_LO : Fld := ⟨0x160, 0, 16⟩
def THR_RAIL_RAIL_HI : Fld := ⟨0x160, 16, 16⟩
def THR_SETTLE_SETTLE : Fld := ⟨0x170, 0, 16⟩
def VERDICT_VERDICT0 : Fld := ⟨0x180, 0, 4⟩
def VERDICT_VERDICT1 : Fld := ⟨0x180, 4, 4⟩
def VERDICT_VERDICT2 : Fld := ⟨0x180, 8, 4⟩
def VERDICT_VERDICT3 : Fld := ⟨0x180, 12, 4⟩
def VERDICT_VERDICT4 : Fld := ⟨0x180, 16, 4⟩
def VERDICT_VERDICT5 : Fld := ⟨0x180, 20, 4⟩
def VERDICT_VERDICT6 : Fld := ⟨0x180, 24, 4⟩
def VERDICT_VERDICT7 : Fld := ⟨0x180, 28, 4⟩
def LAST_TEST_INPUT : Fld := ⟨0x1B0, 0, 7⟩
def LAST_TEST_RESULT : Fld := ⟨0x1B0, 8, 4⟩
def LAST_TEST_N : Fld := ⟨0x1B0, 16, 16⟩
def LAST_UD_U : Fld := ⟨0x1B4, 0, 16⟩
def LAST_UD_D : Fld := ⟨0x1B4, 16, 16⟩
end F.OPENWIRE
namespace B.OPENWIRE
def OW_DETECT : Nat := 0
def OW_PULL : Nat := 1
end B.OPENWIRE
/-! CAL page: R244. -/
namespace R.CAL
def UCAL : Nat := 0x100
def FACTORY : Nat := 0x280
end R.CAL
namespace F.CAL
def UCAL_GAIN : Fld := ⟨0x100, 0, 16⟩
def UCAL_OFFSET : Fld := ⟨0x100, 16, 16⟩
def FACTORY_FAST_OK : Fld := ⟨0x280, 0, 16⟩
def FACTORY_MON_OK : Fld := ⟨0x280, 16, 1⟩
end F.CAL
/-! INTC page: R491, R492. -/
namespace R.INTC
def PRIO : Nat := 0x100
def PENDING : Nat := 0x180
def ACTIVE : Nat := 0x1A0
def THRESH : Nat := 0x1C0
def LEVEL : Nat := 0x1C4
def EOI : Nat := 0x1C8
def SWI : Nat := 0x1CC
def TICK : Nat := 0x1D0
def CLR_PEND : Nat := 0x1D4
def LOST : Nat := 0x200
def DELIVERED : Nat := 0x300
def LOST_TOTAL : Nat := 0x304
def WAKES : Nat := 0x308
def VECTOR : Nat := 0x400
end R.INTC
namespace F.INTC
def EVENT_EOI_BAD : Fld := ⟨0x014, 8, 1⟩
def EVENT_RANGE : Fld := ⟨0x014, 9, 1⟩
def FAULT_CAUSE_CODE : Fld := ⟨0x024, 0, 8⟩
def FAULT_CAUSE_DETAIL : Fld := ⟨0x024, 16, 16⟩
def PRIO_PRIO0 : Fld := ⟨0x100, 0, 4⟩
def PRIO_PRIO1 : Fld := ⟨0x100, 4, 4⟩
def PRIO_PRIO2 : Fld := ⟨0x100, 8, 4⟩
def PRIO_PRIO3 : Fld := ⟨0x100, 12, 4⟩
def PRIO_PRIO4 : Fld := ⟨0x100, 16, 4⟩
def PRIO_PRIO5 : Fld := ⟨0x100, 20, 4⟩
def PRIO_PRIO6 : Fld := ⟨0x100, 24, 4⟩
def PRIO_PRIO7 : Fld := ⟨0x100, 28, 4⟩
def PENDING_PENDING0 : Fld := ⟨0x180, 0, 1⟩
def PENDING_PENDING1 : Fld := ⟨0x180, 1, 1⟩
def PENDING_PENDING2 : Fld := ⟨0x180, 2, 1⟩
def PENDING_PENDING3 : Fld := ⟨0x180, 3, 1⟩
def PENDING_PENDING4 : Fld := ⟨0x180, 4, 1⟩
def PENDING_PENDING5 : Fld := ⟨0x180, 5, 1⟩
def PENDING_PENDING6 : Fld := ⟨0x180, 6, 1⟩
def PENDING_PENDING7 : Fld := ⟨0x180, 7, 1⟩
def PENDING_PENDING8 : Fld := ⟨0x180, 8, 1⟩
def PENDING_PENDING9 : Fld := ⟨0x180, 9, 1⟩
def PENDING_PENDING10 : Fld := ⟨0x180, 10, 1⟩
def PENDING_PENDING11 : Fld := ⟨0x180, 11, 1⟩
def PENDING_PENDING12 : Fld := ⟨0x180, 12, 1⟩
def PENDING_PENDING13 : Fld := ⟨0x180, 13, 1⟩
def PENDING_PENDING14 : Fld := ⟨0x180, 14, 1⟩
def PENDING_PENDING15 : Fld := ⟨0x180, 15, 1⟩
def PENDING_PENDING16 : Fld := ⟨0x180, 16, 1⟩
def PENDING_PENDING17 : Fld := ⟨0x180, 17, 1⟩
def PENDING_PENDING18 : Fld := ⟨0x180, 18, 1⟩
def PENDING_PENDING19 : Fld := ⟨0x180, 19, 1⟩
def PENDING_PENDING20 : Fld := ⟨0x180, 20, 1⟩
def PENDING_PENDING21 : Fld := ⟨0x180, 21, 1⟩
def PENDING_PENDING22 : Fld := ⟨0x180, 22, 1⟩
def PENDING_PENDING23 : Fld := ⟨0x180, 23, 1⟩
def PENDING_PENDING24 : Fld := ⟨0x180, 24, 1⟩
def PENDING_PENDING25 : Fld := ⟨0x180, 25, 1⟩
def PENDING_PENDING26 : Fld := ⟨0x180, 26, 1⟩
def PENDING_PENDING27 : Fld := ⟨0x180, 27, 1⟩
def PENDING_PENDING28 : Fld := ⟨0x180, 28, 1⟩
def PENDING_PENDING29 : Fld := ⟨0x180, 29, 1⟩
def PENDING_PENDING30 : Fld := ⟨0x180, 30, 1⟩
def PENDING_PENDING31 : Fld := ⟨0x180, 31, 1⟩
def ACTIVE_ACTIVE0 : Fld := ⟨0x1A0, 0, 1⟩
def ACTIVE_ACTIVE1 : Fld := ⟨0x1A0, 1, 1⟩
def ACTIVE_ACTIVE2 : Fld := ⟨0x1A0, 2, 1⟩
def ACTIVE_ACTIVE3 : Fld := ⟨0x1A0, 3, 1⟩
def ACTIVE_ACTIVE4 : Fld := ⟨0x1A0, 4, 1⟩
def ACTIVE_ACTIVE5 : Fld := ⟨0x1A0, 5, 1⟩
def ACTIVE_ACTIVE6 : Fld := ⟨0x1A0, 6, 1⟩
def ACTIVE_ACTIVE7 : Fld := ⟨0x1A0, 7, 1⟩
def ACTIVE_ACTIVE8 : Fld := ⟨0x1A0, 8, 1⟩
def ACTIVE_ACTIVE9 : Fld := ⟨0x1A0, 9, 1⟩
def ACTIVE_ACTIVE10 : Fld := ⟨0x1A0, 10, 1⟩
def ACTIVE_ACTIVE11 : Fld := ⟨0x1A0, 11, 1⟩
def ACTIVE_ACTIVE12 : Fld := ⟨0x1A0, 12, 1⟩
def ACTIVE_ACTIVE13 : Fld := ⟨0x1A0, 13, 1⟩
def ACTIVE_ACTIVE14 : Fld := ⟨0x1A0, 14, 1⟩
def ACTIVE_ACTIVE15 : Fld := ⟨0x1A0, 15, 1⟩
def ACTIVE_ACTIVE16 : Fld := ⟨0x1A0, 16, 1⟩
def ACTIVE_ACTIVE17 : Fld := ⟨0x1A0, 17, 1⟩
def ACTIVE_ACTIVE18 : Fld := ⟨0x1A0, 18, 1⟩
def ACTIVE_ACTIVE19 : Fld := ⟨0x1A0, 19, 1⟩
def ACTIVE_ACTIVE20 : Fld := ⟨0x1A0, 20, 1⟩
def ACTIVE_ACTIVE21 : Fld := ⟨0x1A0, 21, 1⟩
def ACTIVE_ACTIVE22 : Fld := ⟨0x1A0, 22, 1⟩
def ACTIVE_ACTIVE23 : Fld := ⟨0x1A0, 23, 1⟩
def ACTIVE_ACTIVE24 : Fld := ⟨0x1A0, 24, 1⟩
def ACTIVE_ACTIVE25 : Fld := ⟨0x1A0, 25, 1⟩
def ACTIVE_ACTIVE26 : Fld := ⟨0x1A0, 26, 1⟩
def ACTIVE_ACTIVE27 : Fld := ⟨0x1A0, 27, 1⟩
def ACTIVE_ACTIVE28 : Fld := ⟨0x1A0, 28, 1⟩
def ACTIVE_ACTIVE29 : Fld := ⟨0x1A0, 29, 1⟩
def ACTIVE_ACTIVE30 : Fld := ⟨0x1A0, 30, 1⟩
def ACTIVE_ACTIVE31 : Fld := ⟨0x1A0, 31, 1⟩
def THRESH_THRESH : Fld := ⟨0x1C0, 0, 4⟩
def LEVEL_LEVEL : Fld := ⟨0x1C4, 0, 4⟩
def LEVEL_DEPTH : Fld := ⟨0x1C4, 4, 4⟩
def LEVEL_TOP : Fld := ⟨0x1C4, 8, 8⟩
def EOI_SOURCE : Fld := ⟨0x1C8, 0, 8⟩
def SWI_SET : Fld := ⟨0x1CC, 0, 16⟩
def TICK_PERIOD : Fld := ⟨0x1D0, 0, 24⟩
def CLR_PEND_SOURCE : Fld := ⟨0x1D4, 0, 8⟩
def LOST_LOST0 : Fld := ⟨0x200, 0, 8⟩
def LOST_LOST1 : Fld := ⟨0x200, 8, 8⟩
def LOST_LOST2 : Fld := ⟨0x200, 16, 8⟩
def LOST_LOST3 : Fld := ⟨0x200, 24, 8⟩
def VECTOR_ADDR : Fld := ⟨0x400, 0, 32⟩
end F.INTC
namespace B.INTC
def INTC_ORDER : Nat := 0
end B.INTC
/-! HOSTPORT page: R540. -/
namespace R.HOSTPORT
def CFG : Nat := 0x100
def HSTATUS : Nat := 0x104
def FRAMES : Nat := 0x200
def CRC_ERRS : Nat := 0x204
def DENIED : Nat := 0x208
end R.HOSTPORT
namespace F.HOSTPORT
def EVENT_CRC_ERR : Fld := ⟨0x014, 8, 1⟩
def EVENT_RANGE : Fld := ⟨0x014, 9, 1⟩
def CFG_WAKE_EN : Fld := ⟨0x100, 0, 1⟩
def FRAMES_COUNT : Fld := ⟨0x200, 0, 32⟩
def CRC_ERRS_COUNT : Fld := ⟨0x204, 0, 32⟩
def DENIED_COUNT : Fld := ⟨0x208, 0, 32⟩
end F.HOSTPORT
namespace B.HOSTPORT
def HP_CRC : Nat := 0
def HP_RAM : Nat := 1
end B.HOSTPORT
/-! T1S page: R538, R539. -/
namespace R.T1S
def MODE : Nat := 0x100
def PLCA : Nat := 0x104
def MAC_LO : Nat := 0x108
def MAC_HI : Nat := 0x10C
def RX_RING : Nat := 0x110
def PHY_STATUS : Nat := 0x114
def CAP_TS : Nat := 0x118
def CAP_TICKS : Nat := 0x120
def GM_SEC : Nat := 0x124
def GM_NS : Nat := 0x128
def PTP_CMD : Nat := 0x12C
def TXBUF : Nat := 0x140
def TX_CTRL : Nat := 0x160
def MCAST : Nat := 0x180
def RX_FRAMES : Nat := 0x200
def TX_FRAMES : Nat := 0x204
def RX_ERRS : Nat := 0x208
def RX_DROPPED : Nat := 0x20C
def COLLISIONS : Nat := 0x210
end R.T1S
namespace F.T1S
def EVENT_TX_DONE : Fld := ⟨0x014, 8, 1⟩
def EVENT_TX_BAD : Fld := ⟨0x014, 9, 1⟩
def EVENT_PTP_LATE : Fld := ⟨0x014, 10, 1⟩
def EVENT_RANGE : Fld := ⟨0x014, 11, 1⟩
def MODE_PLCA_EN : Fld := ⟨0x100, 0, 1⟩
def MODE_COORD : Fld := ⟨0x100, 1, 1⟩
def MODE_PROMISC : Fld := ⟨0x100, 2, 1⟩
def PLCA_NODE_ID : Fld := ⟨0x104, 0, 8⟩
def PLCA_NODE_COUNT : Fld := ⟨0x104, 8, 8⟩
def PLCA_TO_TMR : Fld := ⟨0x104, 16, 8⟩
def PLCA_MAX_BC : Fld := ⟨0x104, 24, 8⟩
def MAC_LO_ADDR : Fld := ⟨0x108, 0, 32⟩
def MAC_HI_ADDR : Fld := ⟨0x10C, 0, 16⟩
def RX_RING_RING : Fld := ⟨0x110, 0, 7⟩
def PHY_STATUS_LINK_ACTIVE : Fld := ⟨0x114, 0, 1⟩
def PHY_STATUS_PLCA_STATUS : Fld := ⟨0x114, 1, 1⟩
def PHY_STATUS_BEACON_SEEN : Fld := ⟨0x114, 2, 1⟩
def GM_NS_NS : Fld := ⟨0x128, 0, 30⟩
def PTP_CMD_COMMIT : Fld := ⟨0x12C, 0, 1⟩
end F.T1S
namespace B.T1S
def T1S_PLCA : Nat := 0
def T1S_RAM : Nat := 1
end B.T1S
/-! CAN page: R536, R537. -/
namespace R.CAN
def MODE : Nat := 0x100
def NBT : Nat := 0x104
def DBT : Nat := 0x108
def XBT : Nat := 0x10C
def TDC : Nat := 0x110
def RX_RING : Nat := 0x114
def ERR : Nat := 0x118
def CMD : Nat := 0x11C
def WAKE_CFG : Nat := 0x120
def TXBUF : Nat := 0x140
def TX_CTRL : Nat := 0x160
def RX_FRAMES : Nat := 0x200
def TX_FRAMES : Nat := 0x204
def NOMATCH : Nat := 0x208
def RX_DROPPED : Nat := 0x20C
def ERR_FRAMES : Nat := 0x210
def BUSOFFS : Nat := 0x214
def FILT : Nat := 0x400
end R.CAN
namespace F.CAN
def STATUS_CLK_DEGRADED : Fld := ⟨0x010, 8, 1⟩
def EVENT_TX_DONE : Fld := ⟨0x014, 8, 1⟩
def EVENT_TX_BAD : Fld := ⟨0x014, 9, 1⟩
def EVENT_BUSOFF : Fld := ⟨0x014, 10, 1⟩
def EVENT_RANGE : Fld := ⟨0x014, 11, 1⟩
def MODE_FD_EN : Fld := ⟨0x100, 0, 1⟩
def MODE_XL_EN : Fld := ⟨0x100, 1, 1⟩
def MODE_LISTEN : Fld := ⟨0x100, 2, 1⟩
def MODE_LOOPBACK : Fld := ⟨0x100, 3, 1⟩
def MODE_AUTO_REC : Fld := ⟨0x100, 4, 1⟩
def MODE_SINGLE_SHOT : Fld := ⟨0x100, 5, 1⟩
def MODE_RESTRICTED : Fld := ⟨0x100, 6, 1⟩
def NBT_BRP : Fld := ⟨0x104, 0, 5⟩
def NBT_SEG1 : Fld := ⟨0x104, 8, 8⟩
def NBT_SEG2 : Fld := ⟨0x104, 16, 7⟩
def NBT_SJW : Fld := ⟨0x104, 24, 7⟩
def DBT_BRP : Fld := ⟨0x108, 0, 5⟩
def DBT_SEG1 : Fld := ⟨0x108, 8, 8⟩
def DBT_SEG2 : Fld := ⟨0x108, 16, 7⟩
def DBT_SJW : Fld := ⟨0x108, 24, 7⟩
def XBT_BRP : Fld := ⟨0x10C, 0, 5⟩
def XBT_SEG1 : Fld := ⟨0x10C, 8, 8⟩
def XBT_SEG2 : Fld := ⟨0x10C, 16, 7⟩
def XBT_SJW : Fld := ⟨0x10C, 24, 7⟩
def TDC_OFFSET : Fld := ⟨0x110, 0, 8⟩
def RX_RING_RING0 : Fld := ⟨0x114, 0, 7⟩
def RX_RING_RING1 : Fld := ⟨0x114, 8, 7⟩
def RX_RING_RING2 : Fld := ⟨0x114, 16, 7⟩
def RX_RING_RING3 : Fld := ⟨0x114, 24, 7⟩
def ERR_TEC : Fld := ⟨0x118, 0, 8⟩
def ERR_REC : Fld := ⟨0x118, 8, 8⟩
def ERR_ESTATE : Fld := ⟨0x118, 16, 2⟩
def CMD_RECOVER : Fld := ⟨0x11C, 0, 1⟩
def WAKE_CFG_EN : Fld := ⟨0x120, 0, 1⟩
def WAKE_CFG_DOM : Fld := ⟨0x120, 8, 8⟩
def TX_CTRL_REQ : Fld := ⟨0x160, 0, 8⟩
def TX_CTRL_ABORT : Fld := ⟨0x160, 8, 8⟩
def TX_CTRL_DONE : Fld := ⟨0x160, 16, 8⟩
def TX_CTRL_PEND : Fld := ⟨0x160, 24, 8⟩
end F.CAN
namespace B.CAN
def CAN_BUSOFF : Nat := 0
def CAN_RAM : Nat := 1
end B.CAN
/-! CONV page: R172, R196, R173, R197. -/
namespace R.CONV
def GROUP_CTRL : Nat := 0x100
def TOPOLOGY : Nat := 0x104
def BIND : Nat := 0x108
def CARRIER_MIN : Nat := 0x140
def CARRIER_MAX : Nat := 0x144
def SEC_SHIFT : Nat := 0x148
def SAMPLE : Nat := 0x14C
def FB : Nat := 0x150
def LAW_CFG : Nat := 0x154
def LAW_B : Nat := 0x158
def LAW_A : Nat := 0x168
def OUT_MIN : Nat := 0x174
def OUT_MAX : Nat := 0x178
def OUTER_KP : Nat := 0x17C
def OUTER_KI : Nat := 0x180
def LAW_CTRL : Nat := 0x184
def REF : Nat := 0x190
def REF_MIN : Nat := 0x194
def REF_MAX : Nat := 0x198
def SLEW_UP : Nat := 0x19C
def SLEW_DOWN : Nat := 0x1A0
def REF_LIVE : Nat := 0x1A4
def REF_EFF : Nat := 0x1A8
def SHAPE : Nat := 0x1AC
def LINE_CFG : Nat := 0x1B0
def POWER_LIMIT : Nat := 0x1B4
def LIMIT_EFF : Nat := 0x1B8
def PHASE_CFG : Nat := 0x1BC
def PHASE_ADD : Nat := 0x1C0
def PHASE_SHED : Nat := 0x1C4
def PHASE_PERMIT : Nat := 0x1C8
def BURST_ENTER : Nat := 0x1CC
def BURST_EXIT : Nat := 0x1D0
def BURST_CFG : Nat := 0x1D4
def SHARE_GAIN : Nat := 0x1D8
def ROT_MIN : Nat := 0x1DC
def ACTIVE : Nat := 0x1E0
def LAW_OUT : Nat := 0x1E4
def PROBE : Nat := 0x1E8
def ENERGY : Nat := 0x200
def PERIODS : Nat := 0x208
def LATE : Nat := 0x210
def SATURATED : Nat := 0x214
def ADDS : Nat := 0x218
def SHEDS : Nat := 0x21C
def BURSTS : Nat := 0x220
def ROTATIONS : Nat := 0x224
def PROBES : Nat := 0x228
def PROBE_ABORTS : Nat := 0x22C
def COMMANDS : Nat := 0x230
def LIMITED : Nat := 0x234
def PROT_CTRL : Nat := 0x300
def HICCUP_CFG : Nat := 0x304
def HICCUP_CLEAN : Nat := 0x308
def RES_CFG : Nat := 0x30C
def RES_SUM : Nat := 0x310
def RES_DEF : Nat := 0x314
def BATT_CFG : Nat := 0x318
def BATT_V : Nat := 0x31C
def BATT_I : Nat := 0x320
def PROT_STATUS : Nat := 0x324
def RES_LAST : Nat := 0x328
def HICCUPS : Nat := 0x380
def LATCHES : Nat := 0x384
def PHASE_FAILS : Nat := 0x388
def AMBIGUOUS : Nat := 0x38C
def BATT_LOSSES : Nat := 0x390
def SUSPECT_PERIODS : Nat := 0x394
end R.CONV
namespace F.CONV
def STATUS_GSTATE : Fld := ⟨0x010, 8, 3⟩
def STATUS_SLEW_DONE : Fld := ⟨0x010, 11, 1⟩
def STATUS_SAT : Fld := ⟨0x010, 12, 1⟩
def STATUS_PROBING : Fld := ⟨0x010, 13, 1⟩
def STATUS_HALF : Fld := ⟨0x010, 14, 1⟩
def STATUS_LIMITED : Fld := ⟨0x010, 15, 1⟩
def STATUS_N_AVAIL : Fld := ⟨0x010, 16, 4⟩
def STATUS_LP_GRANTED : Fld := ⟨0x010, 20, 1⟩
def STATUS_DERATED : Fld := ⟨0x010, 21, 1⟩
def EVENT_SLEW_DONE : Fld := ⟨0x014, 8, 1⟩
def EVENT_ADDED : Fld := ⟨0x014, 9, 1⟩
def EVENT_SHED : Fld := ⟨0x014, 10, 1⟩
def EVENT_BURST_IN : Fld := ⟨0x014, 11, 1⟩
def EVENT_BURST_OUT : Fld := ⟨0x014, 12, 1⟩
def EVENT_WAKE : Fld := ⟨0x014, 13, 1⟩
def EVENT_LATE : Fld := ⟨0x014, 14, 1⟩
def EVENT_SAT : Fld := ⟨0x014, 15, 1⟩
def EVENT_PROBE_END : Fld := ⟨0x014, 16, 1⟩
def EVENT_PROBE_ABORT : Fld := ⟨0x014, 17, 1⟩
def EVENT_ANGLE_STOP : Fld := ⟨0x014, 18, 1⟩
def EVENT_CFG_BAD : Fld := ⟨0x014, 19, 1⟩
def EVENT_RANGE : Fld := ⟨0x014, 20, 1⟩
def FAULT_CAUSE_CODE : Fld := ⟨0x024, 0, 8⟩
def FAULT_CAUSE_SLOT : Fld := ⟨0x024, 16, 16⟩
def EVENT_HICCUP_IN : Fld := ⟨0x014, 21, 1⟩
def EVENT_HICCUP_OUT : Fld := ⟨0x014, 22, 1⟩
def EVENT_SUSPECT : Fld := ⟨0x014, 23, 1⟩
def EVENT_UNLATCHED : Fld := ⟨0x014, 24, 1⟩
def GROUP_CTRL_GO : Fld := ⟨0x100, 0, 1⟩
def GROUP_CTRL_DIR : Fld := ⟨0x100, 1, 1⟩
def GROUP_CTRL_START_FROM : Fld := ⟨0x100, 2, 1⟩
def TOPOLOGY_TOPO : Fld := ⟨0x104, 0, 2⟩
def TOPOLOGY_LINES : Fld := ⟨0x104, 2, 2⟩
def TOPOLOGY_ACT : Fld := ⟨0x104, 4, 3⟩
def TOPOLOGY_SYNC : Fld := ⟨0x104, 8, 1⟩
def TOPOLOGY_SCALE : Fld := ⟨0x104, 9, 4⟩
def BIND_TILE : Fld := ⟨0x108, 0, 5⟩
def BIND_ROLE : Fld := ⟨0x108, 8, 3⟩
def BIND_PHASE_NO : Fld := ⟨0x108, 16, 3⟩
def BIND_VALID : Fld := ⟨0x108, 31, 1⟩
def CARRIER_MIN_VALUE : Fld := ⟨0x140, 0, 22⟩
def CARRIER_MAX_VALUE : Fld := ⟨0x144, 0, 22⟩
def SEC_SHIFT_VALUE : Fld := ⟨0x148, 0, 22⟩
def SAMPLE_POS : Fld := ⟨0x14C, 0, 16⟩
def FB_IN_FB : Fld := ⟨0x150, 0, 6⟩
def FB_IN_OUTER : Fld := ⟨0x150, 8, 6⟩
def FB_IN_I : Fld := ⟨0x150, 16, 6⟩
def FB_IN_V : Fld := ⟨0x150, 24, 6⟩
def LAW_CFG_QS : Fld := ⟨0x154, 0, 5⟩
def LAW_CFG_AW : Fld := ⟨0x154, 8, 1⟩
def LAW_CFG_OUTER_EN : Fld := ⟨0x154, 9, 1⟩
def LAW_CFG_OQS : Fld := ⟨0x154, 16, 5⟩
def LAW_CFG_OUTER_DIV : Fld := ⟨0x154, 24, 8⟩
def LAW_B_VALUE : Fld := ⟨0x158, 0, 32⟩
def LAW_A_VALUE : Fld := ⟨0x168, 0, 32⟩
def OUT_MIN_VALUE : Fld := ⟨0x174, 0, 32⟩
def OUT_MAX_VALUE : Fld := ⟨0x178, 0, 32⟩
def OUTER_KP_VALUE : Fld := ⟨0x17C, 0, 32⟩
def OUTER_KI_VALUE : Fld := ⟨0x180, 0, 32⟩
def LAW_CTRL_LOAD : Fld := ⟨0x184, 0, 1⟩
def LAW_CTRL_CLEAR : Fld := ⟨0x184, 1, 1⟩
def REF_VALUE : Fld := ⟨0x190, 0, 32⟩
def REF_MIN_VALUE : Fld := ⟨0x194, 0, 32⟩
def REF_MAX_VALUE : Fld := ⟨0x198, 0, 32⟩
def SLEW_UP_RATE : Fld := ⟨0x19C, 0, 24⟩
def SLEW_UP_UNIT : Fld := ⟨0x19C, 24, 1⟩
def SLEW_DOWN_RATE : Fld := ⟨0x1A0, 0, 24⟩
def SLEW_DOWN_UNIT : Fld := ⟨0x1A0, 24, 1⟩
def REF_LIVE_VALUE : Fld := ⟨0x1A4, 0, 32⟩
def REF_EFF_VALUE : Fld := ⟨0x1A8, 0, 32⟩
def SHAPE_MODE : Fld := ⟨0x1AC, 0, 2⟩
def SHAPE_PHASE : Fld := ⟨0x1AC, 16, 16⟩
def LINE_CFG_BLANK : Fld := ⟨0x1B0, 0, 16⟩
def LINE_CFG_POL : Fld := ⟨0x1B0, 16, 1⟩
def POWER_LIMIT_LIMIT : Fld := ⟨0x1B4, 0, 24⟩
def POWER_LIMIT_DERATE : Fld := ⟨0x1B4, 24, 8⟩
def LIMIT_EFF_VALUE : Fld := ⟨0x1B8, 0, 32⟩
def PHASE_CFG_LOAD_MIN : Fld := ⟨0x1BC, 0, 4⟩
def PHASE_CFG_MIN_PHASES : Fld := ⟨0x1BC, 4, 4⟩
def PHASE_CFG_ADD_EN : Fld := ⟨0x1BC, 8, 1⟩
def PHASE_CFG_SHED_EN : Fld := ⟨0x1BC, 9, 1⟩
def PHASE_CFG_WIN : Fld := ⟨0x1BC, 12, 4⟩
def PHASE_CFG_WIN_EN : Fld := ⟨0x1BC, 16, 1⟩
def PHASE_ADD_LEVEL : Fld := ⟨0x1C0, 0, 16⟩
def PHASE_ADD_TIME : Fld := ⟨0x1C0, 16, 16⟩
def PHASE_SHED_LEVEL : Fld := ⟨0x1C4, 0, 16⟩
def PHASE_SHED_TIME : Fld := ⟨0x1C4, 16, 16⟩
def PHASE_PERMIT_ADD : Fld := ⟨0x1C8, 0, 1⟩
def PHASE_PERMIT_SHED : Fld := ⟨0x1C8, 1, 1⟩
def BURST_ENTER_LEVEL : Fld := ⟨0x1CC, 0, 16⟩
def BURST_ENTER_TIME : Fld := ⟨0x1CC, 16, 16⟩
def BURST_EXIT_LEVEL : Fld := ⟨0x1D0, 0, 16⟩
def BURST_CFG_EN : Fld := ⟨0x1D4, 0, 1⟩
def BURST_CFG_LP : Fld := ⟨0x1D4, 1, 1⟩
def BURST_CFG_WIN_EN : Fld := ⟨0x1D4, 2, 1⟩
def BURST_CFG_WIN : Fld := ⟨0x1D4, 4, 4⟩
def BURST_CFG_LEN : Fld := ⟨0x1D4, 8, 8⟩
def BURST_CFG_BAND : Fld := ⟨0x1D4, 16, 16⟩
def SHARE_GAIN_GAIN : Fld := ⟨0x1D8, 0, 16⟩
def ROT_MIN_MIN : Fld := ⟨0x1DC, 0, 24⟩
def ACTIVE_MASK : Fld := ⟨0x1E0, 0, 12⟩
def ACTIVE_N : Fld := ⟨0x1E0, 16, 4⟩
def ACTIVE_LEAD : Fld := ⟨0x1E0, 24, 4⟩
def PROBE_STATE : Fld := ⟨0x1E8, 0, 2⟩
def PROBE_LEFT : Fld := ⟨0x1E8, 8, 16⟩
def PROT_CTRL_UNLATCH : Fld := ⟨0x300, 0, 1⟩
def PROT_CTRL_RESTORE : Fld := ⟨0x300, 1, 1⟩
def HICCUP_CFG_OFF : Fld := ⟨0x304, 0, 17⟩
def HICCUP_CFG_RETRY_MAX : Fld := ⟨0x304, 24, 8⟩
def HICCUP_CLEAN_TIME : Fld := ⟨0x308, 0, 16⟩
def RES_CFG_EN : Fld := ⟨0x30C, 0, 1⟩
def RES_CFG_DET_MIN : Fld := ⟨0x30C, 16, 16⟩
def RES_SUM_ABS : Fld := ⟨0x310, 0, 16⟩
def RES_SUM_REL : Fld := ⟨0x310, 16, 8⟩
def RES_DEF_ABS : Fld := ⟨0x314, 0, 16⟩
def RES_DEF_REL : Fld := ⟨0x314, 16, 8⟩
def BATT_CFG_OV_EN : Fld := ⟨0x318, 0, 1⟩
def BATT_CFG_RATE_EN : Fld := ⟨0x318, 1, 1⟩
def BATT_CFG_COLLAPSE_EN : Fld := ⟨0x318, 2, 1⟩
def BATT_V_OV_LEVEL : Fld := ⟨0x31C, 0, 16⟩
def BATT_V_DV_RATE : Fld := ⟨0x31C, 16, 16⟩
def BATT_I_LOW : Fld := ⟨0x320, 0, 16⟩
def BATT_I_ARM : Fld := ⟨0x320, 16, 16⟩
def PROT_STATUS_RETRY : Fld := ⟨0x324, 0, 8⟩
def PROT_STATUS_FAILED : Fld := ⟨0x324, 8, 12⟩
def PROT_STATUS_SUSPECT : Fld := ⟨0x324, 20, 4⟩
def PROT_STATUS_VERDICT : Fld := ⟨0x324, 24, 3⟩
def PROT_STATUS_BATT_CAUSE : Fld := ⟨0x324, 28, 2⟩
def RES_LAST_SUM : Fld := ⟨0x328, 0, 16⟩
def RES_LAST_COUNT : Fld := ⟨0x328, 16, 7⟩
def RES_LAST_CONFIRM : Fld := ⟨0x328, 24, 7⟩
end F.CONV
namespace B.CONV
def CONV_HICCUP_LATCH : Nat := 0
def CONV_PHASE_LOST : Nat := 1
def CONV_PHASE_AMBIGUOUS : Nat := 2
def CONV_TOO_FEW : Nat := 3
def CONV_BATTERY_LOST : Nat := 4
end B.CONV
/-! CHECK page: R541, R542. -/
namespace R.CHECK
def CFG : Nat := 0x100
def POLY_LO : Nat := 0x104
def POLY_HI : Nat := 0x108
def INIT_LO : Nat := 0x10C
def INIT_HI : Nat := 0x110
def XOROUT_LO : Nat := 0x114
def XOROUT_HI : Nat := 0x118
def RING_CFG : Nat := 0x11C
def MATCH_ID : Nat := 0x120
def MATCH_MASK : Nat := 0x124
def LAYOUT : Nat := 0x128
def CMD : Nat := 0x12C
def DIN1 : Nat := 0x130
def DIN2 : Nat := 0x134
def DIN4 : Nat := 0x138
def EXPECT_LO : Nat := 0x13C
def EXPECT_HI : Nat := 0x140
def AC_IN : Nat := 0x144
def RESULT_LO : Nat := 0x148
def RESULT_HI : Nat := 0x14C
def VERDICT : Nat := 0x150
def LAYOUT_2 : Nat := 0x154
def CHECKS : Nat := 0x200
def CRC_BAD : Nat := 0x204
def REPEATS : Nat := 0x208
def SKIPS : Nat := 0x20C
def MISSED : Nat := 0x210
end R.CHECK
namespace F.CHECK
def EVENT_DONE : Fld := ⟨0x014, 8, 1⟩
def EVENT_CFG_BAD : Fld := ⟨0x014, 9, 1⟩
def EVENT_RANGE : Fld := ⟨0x014, 10, 1⟩
def CFG_WIDTH : Fld := ⟨0x100, 0, 7⟩
def CFG_REFIN : Fld := ⟨0x100, 8, 1⟩
def CFG_REFOUT : Fld := ⟨0x100, 9, 1⟩
def CFG_SRC : Fld := ⟨0x100, 10, 1⟩
def CFG_GUARD_EN : Fld := ⟨0x100, 11, 1⟩
def CFG_CRC_BE : Fld := ⟨0x100, 12, 1⟩
def CFG_BAD_MAX : Fld := ⟨0x100, 16, 4⟩
def RING_CFG_RING : Fld := ⟨0x11C, 0, 7⟩
def LAYOUT_DATA_OFS : Fld := ⟨0x128, 0, 11⟩
def LAYOUT_DATA_LEN : Fld := ⟨0x128, 11, 12⟩
def CMD_START : Fld := ⟨0x12C, 0, 1⟩
def CMD_FINISH : Fld := ⟨0x12C, 1, 1⟩
def CMD_RESYNC : Fld := ⟨0x12C, 2, 1⟩
def VERDICT_CRC_OK : Fld := ⟨0x150, 0, 1⟩
def VERDICT_AC : Fld := ⟨0x150, 1, 3⟩
def VERDICT_BAD_RUN : Fld := ⟨0x150, 4, 8⟩
def VERDICT_SEQ : Fld := ⟨0x150, 16, 16⟩
def LAYOUT_2_CRC_POS : Fld := ⟨0x154, 0, 11⟩
def LAYOUT_2_AC_POS : Fld := ⟨0x154, 12, 14⟩
def LAYOUT_2_AC_BITS : Fld := ⟨0x154, 26, 4⟩
end F.CHECK
namespace B.CHECK
def CHK_RUN : Nat := 0
end B.CHECK
/-! TILE page: R135, R136. -/
namespace R.TILE
def MODE : Nat := 0x100
def DEADTIME : Nat := 0x104
def MIN_PULSE : Nat := 0x108
def PER_MIN : Nat := 0x10C
def PER_MAX : Nat := 0x110
def VALLEY_CFG : Nat := 0x114
def NCYC : Nat := 0x118
def CMPA_CFG : Nat := 0x120
def CMPA_DAC : Nat := 0x124
def CMPA_SLOPE : Nat := 0x128
def CMPB_CFG : Nat := 0x130
def CMPB_DAC : Nat := 0x134
def CMPB_SLOPE : Nat := 0x138
def TRIM_CFG : Nat := 0x140
def TRIM_GAIN : Nat := 0x144
def TRIM : Nat := 0x148
def CAL_CTRL : Nat := 0x150
def CAL_STATUS : Nat := 0x154
def LIVE_PER : Nat := 0x160
def LIVE_ON : Nat := 0x164
def LIVE_PHASE : Nat := 0x168
def LIVE_DAC : Nat := 0x16C
def PERIODS : Nat := 0x200
def CYCLIM : Nat := 0x208
def CONSEC : Nat := 0x20C
def CMPA_TRIPS : Nat := 0x210
def CMPB_TRIPS : Nat := 0x214
def BLANKED : Nat := 0x218
def PULSE_DROPS : Nat := 0x21C
def PER_CLAMPS : Nat := 0x220
def VALLEY_MISS : Nat := 0x224
def CAL_RUNS : Nat := 0x228
def OUT_ERRS : Nat := 0x22C
end R.TILE
namespace F.TILE
def STATUS_TSTATE : Fld := ⟨0x010, 8, 3⟩
def STATUS_CAL_VALID : Fld := ⟨0x010, 11, 1⟩
def STATUS_CMPA_OUT : Fld := ⟨0x010, 12, 1⟩
def STATUS_CMPB_OUT : Fld := ⟨0x010, 13, 1⟩
def STATUS_TRIM_SAT : Fld := ⟨0x010, 14, 1⟩
def STATUS_BOUND : Fld := ⟨0x010, 15, 1⟩
def STATUS_GROUP : Fld := ⟨0x010, 16, 3⟩
def EVENT_CYCLIM : Fld := ⟨0x014, 8, 1⟩
def EVENT_NCYC_REACHED : Fld := ⟨0x014, 9, 1⟩
def EVENT_PULSE_DROP : Fld := ⟨0x014, 10, 1⟩
def EVENT_PER_CLAMP : Fld := ⟨0x014, 11, 1⟩
def EVENT_VALLEY_MISS : Fld := ⟨0x014, 12, 1⟩
def EVENT_CAL_DONE : Fld := ⟨0x014, 13, 1⟩
def EVENT_CFG_BAD : Fld := ⟨0x014, 14, 1⟩
def EVENT_TRIM_SAT : Fld := ⟨0x014, 15, 1⟩
def EVENT_RANGE : Fld := ⟨0x014, 16, 1⟩
def FAULT_CAUSE_CODE : Fld := ⟨0x024, 0, 8⟩
def FAULT_CAUSE_DETAIL : Fld := ⟨0x024, 16, 16⟩
def MODE_MODE : Fld := ⟨0x100, 0, 3⟩
def MODE_OUTS : Fld := ⟨0x100, 4, 2⟩
def DEADTIME_DT_RISE : Fld := ⟨0x104, 0, 12⟩
def DEADTIME_COARSE : Fld := ⟨0x104, 15, 1⟩
def DEADTIME_DT_FALL : Fld := ⟨0x104, 16, 12⟩
def MIN_PULSE_MIN : Fld := ⟨0x108, 0, 8⟩
def PER_MIN_PERIOD : Fld := ⟨0x10C, 0, 22⟩
def PER_MAX_PERIOD : Fld := ⟨0x110, 0, 22⟩
def VALLEY_CFG_DELAY : Fld := ⟨0x114, 0, 10⟩
def VALLEY_CFG_SKIP : Fld := ⟨0x114, 16, 3⟩
def NCYC_NCYC : Fld := ⟨0x118, 0, 10⟩
def CMPA_CFG_FUNC : Fld := ⟨0x120, 0, 3⟩
def CMPA_CFG_OUT : Fld := ⟨0x120, 3, 1⟩
def CMPA_CFG_POL : Fld := ⟨0x120, 4, 1⟩
def CMPA_CFG_HYST : Fld := ⟨0x120, 5, 2⟩
def CMPA_CFG_DAC_SRC : Fld := ⟨0x120, 7, 1⟩
def CMPA_CFG_IN : Fld := ⟨0x120, 8, 6⟩
def CMPA_CFG_BLANK_EDGE : Fld := ⟨0x120, 16, 2⟩
def CMPA_CFG_BLANK : Fld := ⟨0x120, 24, 8⟩
def CMPA_DAC_VALUE : Fld := ⟨0x124, 0, 12⟩
def CMPA_SLOPE_SLOPE : Fld := ⟨0x128, 0, 16⟩
def CMPB_CFG_FUNC : Fld := ⟨0x130, 0, 3⟩
def CMPB_CFG_OUT : Fld := ⟨0x130, 3, 1⟩
def CMPB_CFG_POL : Fld := ⟨0x130, 4, 1⟩
def CMPB_CFG_HYST : Fld := ⟨0x130, 5, 2⟩
def CMPB_CFG_DAC_SRC : Fld := ⟨0x130, 7, 1⟩
def CMPB_CFG_IN : Fld := ⟨0x130, 8, 6⟩
def CMPB_CFG_BLANK_EDGE : Fld := ⟨0x130, 16, 2⟩
def CMPB_CFG_BLANK : Fld := ⟨0x130, 24, 8⟩
def CMPB_DAC_VALUE : Fld := ⟨0x134, 0, 12⟩
def CMPB_SLOPE_SLOPE : Fld := ⟨0x138, 0, 16⟩
def TRIM_CFG_IN : Fld := ⟨0x140, 0, 6⟩
def TRIM_CFG_EN : Fld := ⟨0x140, 8, 1⟩
def TRIM_CFG_TARGET : Fld := ⟨0x140, 9, 1⟩
def TRIM_CFG_MAX : Fld := ⟨0x140, 16, 12⟩
def TRIM_GAIN_KI : Fld := ⟨0x144, 0, 16⟩
def TRIM_VALUE : Fld := ⟨0x148, 0, 16⟩
def TRIM_SAT : Fld := ⟨0x148, 16, 1⟩
def TRIM_FROZEN : Fld := ⟨0x148, 17, 1⟩
def CAL_CTRL_INTERVAL : Fld := ⟨0x150, 0, 10⟩
def CAL_CTRL_RUN : Fld := ⟨0x150, 16, 1⟩
def CAL_STATUS_CPC : Fld := ⟨0x154, 0, 12⟩
def CAL_STATUS_VALID : Fld := ⟨0x154, 16, 1⟩
def CAL_STATUS_LAST_FAILED : Fld := ⟨0x154, 17, 1⟩
def LIVE_PER_VALUE : Fld := ⟨0x160, 0, 22⟩
def LIVE_ON_VALUE : Fld := ⟨0x164, 0, 22⟩
def LIVE_PHASE_VALUE : Fld := ⟨0x168, 0, 22⟩
def LIVE_DAC_A : Fld := ⟨0x16C, 0, 12⟩
def LIVE_DAC_B : Fld := ⟨0x16C, 16, 12⟩
end F.TILE
namespace B.TILE
def TILE_CAL : Nat := 0
def TILE_TRIP : Nat := 1
def TILE_OUTPUT : Nat := 2
end B.TILE
/-! ADC page: R234, R235. -/
namespace R.ADC
def LIST : Nat := 0x100
def SLOT : Nat := 0x110
def STREAM : Nat := 0x160
def LAST : Nat := 0x180
def CONVERSIONS : Nat := 0x200
def SATURATIONS : Nat := 0x208
def LP_ENTRIES : Nat := 0x20C
def OW_WITHHELD : Nat := 0x210
def STREAM_RECORDS : Nat := 0x214
def GATED : Nat := 0x218
end R.ADC
namespace F.ADC
def STATUS_FULL_RATE : Fld := ⟨0x010, 8, 1⟩
def STATUS_LP_ALLOWED : Fld := ⟨0x010, 9, 1⟩
def EVENT_LP_IN : Fld := ⟨0x014, 8, 1⟩
def EVENT_LP_OUT : Fld := ⟨0x014, 9, 1⟩
def EVENT_SAT : Fld := ⟨0x014, 10, 1⟩
def EVENT_CFG_BAD : Fld := ⟨0x014, 11, 1⟩
def EVENT_RANGE : Fld := ⟨0x014, 12, 1⟩
def LIST_LEN : Fld := ⟨0x100, 0, 5⟩
def LIST_LP_EN : Fld := ⟨0x100, 8, 1⟩
def SLOT_IN : Fld := ⟨0x110, 0, 2⟩
def SLOT_BIP : Fld := ⟨0x110, 2, 1⟩
def SLOT_GAIN : Fld := ⟨0x110, 3, 3⟩
def SLOT_OFS_EN : Fld := ⟨0x110, 6, 1⟩
def SLOT_FULL : Fld := ⟨0x110, 7, 1⟩
def SLOT_ACQ : Fld := ⟨0x110, 8, 4⟩
def SLOT_OFS : Fld := ⟨0x110, 12, 12⟩
def SLOT_VALID : Fld := ⟨0x110, 31, 1⟩
def STREAM_INPUTS : Fld := ⟨0x160, 0, 4⟩
def STREAM_RING : Fld := ⟨0x160, 8, 7⟩
def STREAM_DEC : Fld := ⟨0x160, 16, 4⟩
def STREAM_WIN : Fld := ⟨0x160, 20, 4⟩
def STREAM_GATE_EN : Fld := ⟨0x160, 24, 1⟩
def STREAM_EN : Fld := ⟨0x160, 31, 1⟩
def LAST_RESULT : Fld := ⟨0x180, 0, 16⟩
def LAST_SAT : Fld := ⟨0x180, 16, 1⟩
def LAST_OW : Fld := ⟨0x180, 17, 1⟩
def LAST_LP : Fld := ⟨0x180, 18, 1⟩
end F.ADC
namespace B.ADC
def ADC_STALL : Nat := 0
def ADC_TRIM : Nat := 1
end B.ADC
/-! MBOX page: R493, R494. -/
namespace R.MBOX
def LOCK : Nat := 0x100
def DB_SET : Nat := 0x104
def DOORBELL : Nat := 0x108
def DB_MASK : Nat := 0x10C
def DONE : Nat := 0x110
def CFG : Nat := 0x114
def STATE : Nat := 0x118
def MSG : Nat := 0x140
def SENDS : Nat := 0x200
def EMPTIES : Nat := 0x204
def DENIED : Nat := 0x208
def EXPIRIES : Nat := 0x20C
end R.MBOX
namespace F.MBOX
def EVENT_DOORBELL : Fld := ⟨0x014, 8, 1⟩
def EVENT_EMPTIED : Fld := ⟨0x014, 9, 1⟩
def EVENT_LOCK_EXPIRED : Fld := ⟨0x014, 10, 1⟩
def EVENT_RANGE : Fld := ⟨0x014, 11, 1⟩
def FAULT_CAUSE_CODE : Fld := ⟨0x024, 0, 8⟩
def FAULT_CAUSE_DETAIL : Fld := ⟨0x024, 16, 16⟩
def LOCK_HOLDER : Fld := ⟨0x100, 0, 4⟩
def DB_SET_BELL : Fld := ⟨0x104, 0, 32⟩
def DOORBELL_BELL : Fld := ⟨0x108, 0, 32⟩
def DB_MASK_BELL : Fld := ⟨0x10C, 0, 32⟩
def DONE_DONE : Fld := ⟨0x110, 0, 1⟩
def CFG_TIMEOUT : Fld := ⟨0x114, 0, 16⟩
def CFG_HOST_NOTIFY : Fld := ⟨0x114, 16, 1⟩
def STATE_STATE : Fld := ⟨0x118, 0, 2⟩
def STATE_HOLDER : Fld := ⟨0x118, 4, 3⟩
def STATE_LAST_HOLDER : Fld := ⟨0x118, 8, 3⟩
def MSG_WORD : Fld := ⟨0x140, 0, 32⟩
end F.MBOX
namespace B.MBOX
def MBOX_LOCK : Nat := 0
end B.MBOX
/-! RING page: R238, R239. -/
namespace R.RING
def CFG : Nat := 0x100
def BASE : Nat := 0x104
def WATERMARK : Nat := 0x108
def PI : Nat := 0x10C
def CI : Nat := 0x110
def FILL : Nat := 0x114
def CMD : Nat := 0x118
def HIGH_FILL : Nat := 0x11C
def RECORDS : Nat := 0x200
def DROPPED : Nat := 0x204
def OVERWRITTEN : Nat := 0x208
def MARKS : Nat := 0x20C
end R.RING
namespace F.RING
def STATUS_EMPTY : Fld := ⟨0x010, 8, 1⟩
def STATUS_FULL : Fld := ⟨0x010, 9, 1⟩
def STATUS_OVERFLOW : Fld := ⟨0x010, 10, 1⟩
def STATUS_ABOVE_WM : Fld := ⟨0x010, 11, 1⟩
def EVENT_WATERMARK : Fld := ⟨0x014, 8, 1⟩
def EVENT_OVERFLOW : Fld := ⟨0x014, 9, 1⟩
def EVENT_CI_REFUSED : Fld := ⟨0x014, 10, 1⟩
def EVENT_PI_REFUSED : Fld := ⟨0x014, 11, 1⟩
def EVENT_CFG_BAD : Fld := ⟨0x014, 12, 1⟩
def CFG_SIZE_LOG : Fld := ⟨0x100, 0, 5⟩
def CFG_POLICY : Fld := ⟨0x100, 8, 1⟩
def CFG_STAMP : Fld := ⟨0x100, 9, 1⟩
def CFG_PRODUCER : Fld := ⟨0x100, 16, 8⟩
def BASE_ADDR : Fld := ⟨0x104, 0, 32⟩
def WATERMARK_BYTES : Fld := ⟨0x108, 0, 21⟩
def PI_INDEX : Fld := ⟨0x10C, 0, 32⟩
def CI_INDEX : Fld := ⟨0x110, 0, 32⟩
def FILL_BYTES : Fld := ⟨0x114, 0, 21⟩
def CMD_CLR_OVF : Fld := ⟨0x118, 0, 1⟩
def HIGH_FILL_BYTES : Fld := ⟨0x11C, 0, 21⟩
end F.RING
namespace B.RING
def RING_BUS : Nat := 0
end B.RING

end Sys2Proof.Machine
end

