-- ==== Sys2Proof/Machine/Ops.lean ====
section
/-!
DEFINITION. The named operations over the register file: reset values (R30, R31 and the register tables), reads and writes
of registers and fields, counters, and the arithmetic helpers that several blocks share.
-/
namespace Sys2Proof.Machine

/-! ## Numbers -/

/-- Bits `lo` to `lo + w − 1` of `n`. -/
def bitsOf (n lo w : Nat) : Nat := (n >>> lo) % 2 ^ w

/-- `n` with bits `lo` to `lo + w − 1` replaced by those of `v`. -/
def setBits (n lo w v : Nat) : Nat :=
  (n - ((n >>> lo) % 2 ^ w) <<< lo) + (v % 2 ^ w) <<< lo

/-- Two's complement reading of a `w`-bit number. -/
def toSigned (w n : Nat) : Int :=
  let m := n % 2 ^ w
  if 2 * m < 2 ^ w then (m : Int) else (m : Int) - (2 ^ w : Nat)

/-- The `w`-bit two's complement of an integer. -/
def ofSigned (w : Nat) (i : Int) : Nat := (i % ((2 ^ w : Nat) : Int)).toNat

/-- Arithmetic shift right: division by a power of two, rounded toward minus infinity. -/
def asr (i : Int) (n : Nat) : Int := i / ((2 ^ n : Nat) : Int)

/-- `i` held between `lo` and `hi`. -/
def clampI (i lo hi : Int) : Int := if i < lo then lo else if hi < i then hi else i

/-- `n` held between `lo` and `hi`; the lower limit where the limits cross. -/
def clampN (n lo hi : Nat) : Nat := if n < lo then lo else if hi < n then (if hi < lo then lo else hi) else n

/-- Saturation to 32 bits signed (R151). -/
def sat32 (i : Int) : Int := clampI i (-2147483648) 2147483647

/-- Quotient rounded to the nearest integer, halves away from zero (R209). -/
def divRound (a : Int) (n : Nat) : Int :=
  if n = 0 then 0
  else if 0 ≤ a then ((2 * a.toNat + n) / (2 * n) : Nat) else -(((2 * (-a).toNat + n) / (2 * n) : Nat) : Int)

/-- Difference modulo 2^32 (R217, R409). -/
def sub32 (a b : Nat) : Nat := (4294967296 + a - b % 4294967296) % 4294967296

/-- Sum modulo 2^32. -/
def add32 (a b : Nat) : Nat := (a + b) % 4294967296

/-- Whether bit `i` of `n` is 1. -/
def bitAt (n i : Nat) : Bool := (n >>> i) % 2 = 1

/-- `1` for true and `0` for false. -/
def b2n (b : Bool) : Nat := if b then 1 else 0

/-- Element `i` of a vector, or `x` where there is none. -/
def vget {α : Type} {n : Nat} (v : Vector α n) (i : Nat) (x : α) : α := v.toList.getD i x

/-- The vector with element `i` changed by `f`; unchanged where there is none. -/
def vmod {α : Type} {n : Nat} (v : Vector α n) (i : Nat) (f : α → α) : Vector α n :=
  if h : i < n then v.set i (f v[i]) h else v

/-- The numbers 0 to n − 1 that pass a test, in rising order. -/
def numbers (n : Nat) (p : Nat → Bool) : List Nat := (List.range n).filter p

/-! ## Pages and reset values -/

/-- Number of page `inst` of a kind (R26). -/
def pg (k : PageKind) (inst : Nat := 0) : Nat := k.first.1 + inst

/-- Every page kind, in page order. -/
def PageKind.all : List PageKind :=
  [.sys, .keyrack, .pinmux, .clk, .supply, .path, .seq, .cellar, .rtc, .fault, .scaolo, .otp, .rompatch, .secboot, .debug,
   .mram, .dom, .timebase, .proof, .galley, .chg, .gauge, .disch, .monadc, .bin, .openwire, .cal, .intc, .hostport, .t1s,
   .can, .conv, .check, .tile, .adc, .mbox, .ring]

/-- The page of a page number; none where the number is reserved (R26). -/
def pageOf (p : Nat) : Option Page :=
  (PageKind.all.find? (fun k => decide (k.first.1 ≤ p) && decide (p < k.first.1 + k.first.2))).map
    (fun k => ⟨k, p - k.first.1⟩)

/-- The descriptor that covers offset `ofs` of a page of kind `k`. -/
def descOf (k : PageKind) (ofs : Nat) : Option RegDesc :=
  (RegTable.regsOf k).find? (fun r => decide (r.ofs ≤ ofs) && decide (ofs < r.ofs + 4 * r.n))

/-- The built-in start program (R361), by step. -/
def builtinProgram : List (Nat × Nat) :=
  [(0x00, 0x10000000), (0x01, 0x400C8280), (0x02, 0x10000001), (0x03, 0x400C8281), (0x04, 0x10000002),
   (0x05, 0x400C8282), (0x06, 0x10000004), (0x07, 0x10000005), (0x08, 0x400C8284), (0x09, 0x400C8285),
   (0x0A, 0x1000000B), (0x0B, 0x1000000A), (0x0C, 0x1000000C), (0x0D, 0x1000000E), (0x0E, 0x1000000F),
   (0x0F, 0x1000000D), (0x10, 0x400C828B), (0x11, 0x400C828A), (0x12, 0x400C828C), (0x13, 0x400C828E),
   (0x14, 0x400C828F), (0x15, 0x400C828D), (0x16, 0x10000006), (0x17, 0x10000007), (0x18, 0x400C8286),
   (0x19, 0x400C8287), (0x1A, 0x80000000), (0x1B, 0x80000001), (0x1C, 0x90000001)] ++
  [(0x28, 0x900000E0), (0x30, 0x80000010), (0x31, 0x80000011), (0x38, 0x80000010), (0x39, 0x80000011),
   (0x3A, 0x20000007), (0x3B, 0x2000000D), (0x3C, 0x2000000F), (0x3D, 0x2000000E), (0x3E, 0x2000000C),
   (0x3F, 0x2000000A), (0x40, 0x2000000B), (0x41, 0x20000005), (0x42, 0x20000004), (0x43, 0x20000002),
   (0x44, 0x20000001), (0x45, 0x20000000), (0x48, 0x60000000)]

/-- UV, OV and OFF thresholds of the domains at reset (R342). -/
def domThresholds : List (Nat × Nat × Nat) :=
  [(9961, 11010, 1311), (22413, 24773, 2621), (20546, 22708, 1966), (7471, 8258, 655), (22413, 24773, 2621),
   (16220, 16548, 1638), (20546, 22708, 1966), (20546, 22708, 1966), (7471, 8258, 655), (18678, 20644, 1638),
   (9961, 11010, 1311), (9961, 11010, 1311), (9961, 11010, 1311), (9961, 11010, 1311), (9961, 11010, 1311),
   (9961, 11010, 1311)]

/-- The domains whose DOM_UV and DOM_OV stand in the upper rows of R363. -/
def strictDomain (i : Nat) : Bool := i ≤ 2 || i = 4 || i = 5 || i = 7 || (10 ≤ i && i ≤ 15)

/-- Default and locked minimum severity of bit `b` of instance `i` of a page kind (R363 and the other fault tables). -/
def severityPair (k : PageKind) (i b : Nat) : Nat × Nat :=
  match k with
  | .dom =>
    if b = 0 then (if strictDomain i then (4, 3) else (1, 0))
    else if b = 1 then (if strictDomain i then (4, 4) else (3, 1))
    else if b = 2 then (1, 0) else (0, 0)
  | _ => k.severities.getD b (0, 0)

/-- Page kind, instance and bit of a fault source number (R396); none for a number no page has. -/
def sourceOf (s : Nat) : Option (PageKind × Nat × Nat) :=
  (PageKind.all.find? (fun k =>
    match k.sources with
    | some (f, per) => decide (f ≤ s) && decide (s < f + per * k.first.2)
    | none => false)).bind (fun k =>
    match k.sources with
    | some (f, per) => some (k, (s - f) / per, (s - f) % per)
    | none => none)

/-- Source number of bit `b` of instance `i` of a page kind (R396). -/
def srcNo (k : PageKind) (i b : Nat) : Nat :=
  match k.sources with
  | some (f, per) => f + per * i + b
  | none => 0

/-- Default or locked minimum severity of a source (R398). -/
def sevPairOf (s : Nat) : Nat × Nat :=
  match sourceOf s with
  | some (k, i, b) => severityPair k i b
  | none => (0, 0)

/-- The word of SEV (`min` false) or MINSEV (`min` true) that holds sources 8w to 8w + 7 (R427). -/
def sevWord (min : Bool) (w : Nat) : Nat :=
  (List.range 8).foldl (fun acc j =>
    let p := sevPairOf (8 * w + j)
    acc + (if min then p.2 else p.1) * 16 ^ j) 0

/-- The sources that GMASK marks (R423). -/
def gmaskSource (s : Nat) : Bool :=
  match sourceOf s with
  | some (.sys, _, b) => decide (b ≤ 4)
  | some (.clk, _, b) => b = 1 || b = 3
  | some (.dom, i, b) => strictDomain i && (b = 0 || b = 1)
  | some (.monadc, _, b) => b = 0
  | some (.disch, _, b) => b = 1
  | some (.tile, _, b) => b = 2
  | some (.conv, _, b) => b = 2 || b = 3
  | some (.scaolo, _, b) => decide (b ≤ 6) || b = 8
  | _ => false

/-- Word `w` of GMASK (R423, R428). -/
def gmaskWord (w : Nat) : Nat :=
  (List.range 32).foldl (fun acc j => if gmaskSource (32 * w + j) then acc + 2 ^ j else acc) 0

/-- Reset value of a register of the common header or common control (R29, R30). Bit 8 of STATUS on an ADC page is
FULL_RATE, which resets to 1 (R235). -/
def headerReset (k : PageKind) (ofs : Nat) : Nat :=
  if ofs = R.HDR.INT_ROUTE then 1
  else if ofs = R.HDR.ACCESS then 3
  else if ofs = R.HDR.STATUS then (match k with | .adc => 0x100 | _ => 0)
  else 0

/-- Reset value of the register at `ofs` of page `p`. -/
def resetNat (p ofs : Nat) : Nat :=
  match pageOf p with
  | none => 0
  | some ⟨k, i⟩ =>
    if ofs < 0x100 then headerReset k ofs
    else match k, descOf k ofs with
      | _, none => 0
      | .fault, some r =>
        if r.ofs = R.FAULT.SEV then sevWord false ((ofs - r.ofs) / 4)
        else if r.ofs = R.FAULT.MINSEV then sevWord true ((ofs - r.ofs) / 4) else r.reset
      | .scaolo, some r => if r.ofs = R.SCAOLO.GMASK then gmaskWord ((ofs - r.ofs) / 4) else r.reset
      | .seq, some r => if r.ofs = R.SEQ.PROG then (builtinProgram.lookup ((ofs - r.ofs) / 4)).getD 0 else r.reset
      | .dom, some r =>
        let t := domThresholds.getD i (0, 0, 0)
        if r.ofs = R.DOM.WIN then t.2.1 * 65536 + t.1
        else if r.ofs = R.DOM.OFF_CFG then r.reset + t.2.2 else r.reset
      | .can, some r => if r.ofs = R.CAN.FILT then (if ((ofs - r.ofs) / 4) % 2 = 0 then 0xC0000000 else 0) else r.reset
      | _, some r => r.reset

/-- Key of a register in the register file: bank, page, offset. -/
def regKey (p ofs : Nat) (bank : Nat := 0) : Nat := bank * 0x100000 + p * 0x1000 + ofs

/-- What an unlisted key of the register file reads as: the register's reset value, in every bank. -/
def regDefault (key : Nat) : Word :=
  BitVec.ofNat 32 (resetNat ((key % 0x100000) / 0x1000) (key % 0x1000))

/-! ## Registers and fields -/

namespace Dev

/-- Content of the register at `ofs` of page `p`. -/
def reg (d : Dev) (p ofs : Nat) (bank : Nat := 0) : Word := Sparse.get regDefault d.regs (regKey p ofs bank)

/-- The register written whole. -/
def setReg (d : Dev) (p ofs : Nat) (v : Word) (bank : Nat := 0) : Dev :=
  { d with regs := Sparse.put regDefault d.regs (regKey p ofs bank) v }

/-- Value of a field, unsigned. -/
def fld (d : Dev) (p : Nat) (f : Fld) : Nat := bitsOf (d.reg p f.ofs).toNat f.lo f.w

/-- Value of a field, signed. -/
def sfld (d : Dev) (p : Nat) (f : Fld) : Int := toSigned f.w (d.fld p f)

/-- Whether a field is not 0. -/
def flag (d : Dev) (p : Nat) (f : Fld) : Bool := d.fld p f != 0

/-- The field given a value (its low `f.w` bits). -/
def setFld (d : Dev) (p : Nat) (f : Fld) (v : Nat) : Dev :=
  d.setReg p f.ofs (BitVec.ofNat 32 (setBits (d.reg p f.ofs).toNat f.lo f.w v))

/-- A one-bit field set or cleared. -/
def setFlag (d : Dev) (p : Nat) (f : Fld) (b : Bool) : Dev := d.setFld p f (b2n b)

/-- A 32-bit counter advanced by `n`; it wraps (R80, R427 and the like). -/
def bump (d : Dev) (p ofs : Nat) (n : Nat := 1) : Dev :=
  d.setReg p ofs (d.reg p ofs + BitVec.ofNat 32 n)

/-- A 64-bit counter in two words, low word first, advanced by an integer (R73, R130, R170). -/
def bump64 (d : Dev) (p ofs : Nat) (i : Int) : Dev :=
  let v := (d.reg p ofs).toNat + (d.reg p (ofs + 4)).toNat * 4294967296
  let w := ofSigned 64 (v + i)
  (d.setReg p ofs (BitVec.ofNat 32 w)).setReg p (ofs + 4) (BitVec.ofNat 32 (w / 4294967296))

/-- A field saturating upward by one. -/
def bumpFldSat (d : Dev) (p : Nat) (f : Fld) : Dev :=
  if d.fld p f + 1 < 2 ^ f.w then d.setFld p f (d.fld p f + 1) else d

/-- A free value and the state that has taken it (log entry 3). -/
def takeFree (d : Dev) : Word × Dev := (Config.freeWord d.fresh, { d with fresh := d.fresh + 1 })

/-- A result as a `w`-bit field shows it. Where it lies outside `lo` to `hi` the spec states no value: a free one
(log entry 3). -/
def fit (d : Dev) (w : Nat) (lo hi v : Int) : Nat × Dev :=
  if lo ≤ v ∧ v ≤ hi then (ofSigned w v, d) else (d.takeFree.1.toNat % 2 ^ w, d.takeFree.2)

/-- Tile `n` beside its registers. -/
def tileS (d : Dev) (n : Nat) : TileS := vget d.tile n {}

/-- Tile `n` changed. -/
def modTile (d : Dev) (n : Nat) (f : TileS → TileS) : Dev := { d with tile := vmod d.tile n f }

/-- Group `n` beside its registers. -/
def convS (d : Dev) (n : Nat) : ConvS := vget d.conv n {}

/-- Group `n` changed. -/
def modConv (d : Dev) (n : Nat) (f : ConvS → ConvS) : Dev := { d with conv := vmod d.conv n f }

/-- `f` done for each element of a list, in order. -/
def each {α : Type} (d : Dev) (l : List α) (f : Dev → α → Dev) : Dev := l.foldl f d

end Dev

end Sys2Proof.Machine
end

