-- ==== Sys2Proof/Machine/Flags.lean ====
section
/-!
DEFINITION. The flags every page carries: EVENT and FAULT bits, the fault sources they are (R32, R396, R397), their
severities (R398), the device state (R17, R22), and what follows from them: the DERATE reaction in force (R400), ALIVE and
FAULT_N (R404, R405).
-/
namespace Sys2Proof.Machine

/-- What an unlisted key holds: no owner. -/
def keyDefault : Nat → BitVec 16 := fun _ => 0

namespace Dev

/-- Owner tag of a key (R37). -/
def keyTag (d : Dev) (k : Nat) : BitVec 16 := Sparse.get keyDefault d.keys k

/-! ## Device state -/

/-- SYS.STATE.STATE: 1 CELLAR, 2 BOOT, 3 READY, 4 RUN, 5 SAFE, 6 HIBERNATE, 0 OFF (R22). -/
def state (d : Dev) : Nat := d.fld (pg .sys) F.SYS.STATE_STATE

/-- The grid reference of a rate measurement has failed (R380). -/
def measLost (d : Dev) : Dev := { d with cel := { d.cel with meas := { d.cel.meas with lost := true } } }

/-- A transition of the device, recorded in SYS.STATE (R18, R22); a rate measurement against the grid does not outlast BOOT, READY,
RUN and SAFE (R380). -/
def transition (d : Dev) (st cause : Nat) : Dev :=
  let old := (d.reg (pg .sys) R.SYS.STATE).toNat
  let d := if 2 ≤ st ∧ st ≤ 5 then d else d.measLost
  d.setReg (pg .sys) R.SYS.STATE
    (BitVec.ofNat 32 (st + 16 * bitsOf old 0 3 + 256 * cause + 65536 * ((bitsOf old 16 16 + 1) % 65536)))

/-- A refused command: its cause in SYS.STATE.CAUSE (R20, R23). -/
def refuseCmd (d : Dev) (cause : Nat) : Dev := d.setFld (pg .sys) F.SYS.STATE_CAUSE cause

/-! ## Events -/

/-- An EVENT bit of page `p` set (R29). -/
def event (d : Dev) (p : Nat) (f : Fld) : Dev := d.setFld p f 1

/-- EVENT.RANGE of page `p` set, where the page has the bit (R54). -/
def eventRange (d : Dev) (p : Nat) : Dev :=
  match pageOf p with
  | some ⟨k, _⟩ => (match k.rangeBit with | some b => d.event p ⟨R.HDR.EVENT, b, 1⟩ | none => d)
  | none => d

/-! ## Sources -/

/-- Severity that the SEV field of a source sets (R398, R427). -/
def sevOf (d : Dev) (s : Nat) : Nat :=
  bitsOf (d.reg (pg .fault) (R.FAULT.SEV + 4 * (s / 8))).toNat (4 * (s % 8)) 3

/-- Whether a source is active (R397). -/
def active (d : Dev) (s : Nat) : Bool := bitAt (d.reg (pg .fault) (R.FAULT.ACTIVE + 4 * (s / 32))).toNat (s % 32)

/-- The active bit of a source set or cleared. -/
def setActive (d : Dev) (s : Nat) (on : Bool) : Dev :=
  d.setFld (pg .fault) ⟨R.FAULT.ACTIVE + 4 * (s / 32), s % 32, 1⟩ (b2n on)

/-- The active sources, in rising order. -/
def activeList (d : Dev) : List Nat :=
  (List.range 12).flatMap (fun w =>
    let v := (d.reg (pg .fault) (R.FAULT.ACTIVE + 4 * w)).toNat
    if v = 0 then [] else (numbers 32 (bitAt v)).map (fun b => 32 * w + b))

/-- Whether a source of severity SAFE or RESET is active (R404, R412, R414). -/
def safeActive (d : Dev) : Bool := d.activeList.any (fun s => decide (4 ≤ d.sevOf s))

/-- Whether a FAULT bit of page `(k, i)` is set. -/
def faultBit (d : Dev) (k : PageKind) (i b : Nat) : Bool := bitAt (d.reg (pg k i) R.HDR.FAULT).toNat b

/-- Whether a source has a FAULT bit of its own: SEQ_MARK and SYS_CMD have none (R417, R488). -/
def hasFaultBit (k : PageKind) (b : Nat) : Bool :=
  !((k == .seq && b == B.SEQ.SEQ_MARK) || (k == .sys && b == B.SYS.SYS_CMD))

/-- A FAULT bit sets; FAULT_CAUSE captures its cause if no FAULT bit of the page was set (R32). -/
def setFault (d : Dev) (k : PageKind) (i b : Nat) (cause : Word) : Dev :=
  if hasFaultBit k b then
    let old := d.reg (pg k i) R.HDR.FAULT
    let d := if old = 0 then d.setReg (pg k i) R.HDR.FAULT_CAUSE cause else d
    d.setReg (pg k i) R.HDR.FAULT (old ||| BitVec.ofNat 32 (2 ^ b))
  else d

/-- The FAULT bits that are set, as page kind, instance and bit. -/
def faultBits (d : Dev) : List (PageKind × Nat × Nat) :=
  d.regs.flatMap (fun e =>
    if e.1 % 0x1000 = R.HDR.FAULT ∧ e.1 < 0x100000 then
      match pageOf (e.1 / 0x1000) with
      | some ⟨k, i⟩ => (numbers 32 (bitAt e.2.toNat)).map (fun b => (k, i, b))
      | none => []
    else [])

/-- Whether a FAULT bit of a source of severity `sev` or higher is set. -/
def faultAtOrAbove (d : Dev) (sev : Nat) : Bool :=
  d.faultBits.any (fun f => decide (sev ≤ d.sevOf (srcNo f.1 f.2.1 f.2.2)))

/-- Whether the DERATE reaction is in force for group `n` (R400). -/
def derated (d : Dev) (n : Nat) : Bool :=
  d.faultBits.any (fun f =>
    decide (2 ≤ d.sevOf (srcNo f.1 f.2.1 f.2.2)) &&
    (match f.1 with
     | .conv => f.2.1 == n
     | .tile => d.flag (pg .tile f.2.1) F.TILE.STATUS_BOUND && d.fld (pg .tile f.2.1) F.TILE.STATUS_GROUP == n
     | _ => bitAt (d.fld (pg .fault) F.FAULT.DERATE_GROUPS_GROUPS) n))

/-- The present angle (R49). -/
def angle (d : Dev) : Nat := d.fld (pg .timebase) F.TIMEBASE.ANGLE_ANGLE

/-- The angle that a stamp of this clock carries: the highest count that PHI has reached in it, and no count of the next folio
(R49; log entry 7). -/
def stampAngle (d : Dev) : Nat :=
  if d.fld (pg .timebase) F.TIMEBASE.SRC_STATUS_ACTIVE = 0 then d.angle else max d.angle (min 65535 (d.tb.phi / 4294967296))

/-- Edge steps since the last reference instant of CREF (R67). -/
def crefPhase (d : Dev) : Nat := (d.now * 64 + d.tb.crefPer - d.tb.crefFrom % d.tb.crefPer) % d.tb.crefPer

/-- The next reference instant of CREF, in edge steps since reset (R67, R142). -/
def crefNext (d : Dev) : Nat := d.now * 64 + d.tb.crefPer - d.crefPhase

/-! ## ALIVE and FAULT_N -/

/-- ALIVE toggles (R404). -/
def alive (d : Dev) : Bool :=
  d.flag (pg .scaolo) F.SCAOLO.SELFTEST_PASS && d.flag (pg .scaolo) F.SCAOLO.ALIVE_CFG_EN &&
  (d.state == 2 || d.state == 3 || d.state == 4) && !d.safeActive &&
  !d.active (srcNo .scaolo 0 B.SCAOLO.ISL_SELFTEST) && !d.active (srcNo .scaolo 0 B.SCAOLO.ISL_COMPARE) &&
  !d.active (srcNo .scaolo 0 B.SCAOLO.ISL_CONFIG) && !d.active (srcNo .scaolo 0 B.SCAOLO.ISL_ECC) && !d.fc.backup &&
  !d.fc.brown

/-- FAULT_N is asserted (R405). In CELLAR and OFF it is undriven. -/
def faultN (d : Dev) : Bool := decide (2 ≤ d.state) && (d.state == 5 || d.fc.faultnLatch || d.fc.backup || d.fc.brown)

/-- The island stands: it is unpowered in CELLAR and OFF (R17, R403). -/
def islandOn (d : Dev) : Bool := decide (2 ≤ d.state)

end Dev
end Sys2Proof.Machine
end

