-- ==== Sys2Proof/Machine/Edge.lean ====
section
/-!
DEFINITION. The edges of a stage tile within a carrier period (R107–R109, R114, R115, R118, R119, R126–R130): the pulses that the
layout left to rise, those that have risen, and the comparators that end them. Positions are edge steps from the start S of the
present period.
-/
namespace Sys2Proof.Machine

/-! ## The edge grid -/

/-- Cells of the tap for fine code `k` with CPC in 1/16 cell: round(k × CPC / 64) (R109). -/
def tapCells (k cpc16 : Nat) : Nat := (k * cpc16 + 512) / 1024

/-- Launching clock and fine code of an edge at position E (R107). -/
def edgeClock (e : Nat) : Nat × Nat := (e / 64, e % 64)

/-- A high interval, its start included and its end not; of a pulse still to rise, its rising edge and its scheduled fall. -/
abbrev Interval := Nat × Nat

/-- Nominal high intervals of PWMH and PWML by mode, period length and on-time (R114). At duty 0 the two PWML intervals of
PWM_TRI merge (R115). -/
def nominal (mode len t : Nat) : List Interval × List Interval :=
  let ne := fun (l : List Interval) => l.filter (fun i => decide (i.1 < i.2))
  if mode = 1 then
    let a := (len - t) / 2
    (ne [(a, a + t)], ne (if t = 0 then [(0, len)] else [(0, a), (a + t, len)]))
  else if mode = 2 ∨ mode = 3 then (ne [(0, len / 2)], ne [(len / 2, len)])
  else (ne [(0, t)], ne [(t, len)])

/-- Of an output's nominal intervals, the one that continues a level carried across the boundary, and the pulses that rise after
dead time (R115, R118). -/
def layOutput (dt : Nat) (carried : Bool) (l : List Interval) : List Interval × List Interval :=
  let on := fun (i : Interval) => carried && i.1 == 0
  (l.filter on, (l.filter (fun i => !on i)).map (fun i => (i.1 + dt, i.2)))

/-- Whether an output is high just before the end of a period of length `len`. -/
def highAtEnd (len : Nat) (l : List Interval) : Bool := l.any (fun i => decide (len ≤ i.2) && decide (i.1 < len))

/-- The interval that is high at position `x`, if any. -/
def highAt (l : List Interval) (x : Nat) : Option Interval := l.find? (fun i => decide (i.1 ≤ x) && decide (x < i.2))

/-- The interval that is high at `x` ends at `e`. -/
def cutAt (l : List Interval) (x e : Nat) : List Interval :=
  (l.map (fun i => if i.1 ≤ x ∧ x < i.2 then (i.1, e) else i)).filter (fun i => decide (i.1 < i.2))

/-- The other output of the tile. -/
def otherOut : Out → Out
  | .h => .l
  | .l => .h

/-- Pulses of an output still to rise. -/
def TileS.todo (t : TileS) : Out → List Interval
  | .h => t.hTodo
  | .l => t.lTodo

/-- Pulses of an output that have risen, or were carried into the period. -/
def TileS.sched (t : TileS) : Out → List Interval
  | .h => t.hSched
  | .l => t.lSched

/-- The pulses still to rise changed. -/
def TileS.withTodo (t : TileS) (o : Out) (l : List Interval) : TileS :=
  match o with | .h => { t with hTodo := l } | .l => { t with lTodo := l }

/-- The risen pulses changed. -/
def TileS.withSched (t : TileS) (o : Out) (l : List Interval) : TileS :=
  match o with | .h => { t with hSched := l } | .l => { t with lSched := l }

/-- A pulse emitted: its rising edge starts the ramp of R127. -/
def TileS.emit (t : TileS) (o : Out) (i : Interval) : TileS :=
  let t := t.withSched o (t.sched o ++ [i])
  match o with | .h => { t with riseH := t.start + i.1 } | .l => { t with riseL := t.start + i.1 }

/-- Blanking intervals of a comparator that have not been ended: their ends, in edge steps since reset, and whether the comparator
has tripped in them (R128). -/
def TileS.blanks (t : TileS) : Cmp → List (Nat × Bool)
  | .a => t.blankA
  | .b => t.blankB

/-- The blanking intervals changed. -/
def TileS.withBlanks (t : TileS) (c : Cmp) (l : List (Nat × Bool)) : TileS :=
  match c with | .a => { t with blankA := l } | .b => { t with blankB := l }

/-- The outputs low, and nothing left to rise. -/
def TileS.low (t : TileS) : TileS := { t with hTodo := [], lTodo := [], hSched := [], lSched := [] }

/-- Where a pulse still to rise is judged: its rising edge, or its fall where dead time leaves nothing of it. -/
def dueAt (i : Interval) : Nat := min i.1 i.2

/-- The next pulse to rise at or before position `x`. -/
def TileS.nextRise (t : TileS) (x : Nat) : Option (Out × Interval) :=
  let first := fun (o : Out) => (t.todo o).head?.filter (fun i => decide (dueAt i ≤ x))
  match first .h, first .l with
  | some i, some j => if dueAt i ≤ dueAt j then some (.h, i) else some (.l, j)
  | some i, none => some (.h, i)
  | none, some j => some (.l, j)
  | none, none => none

namespace Dev

/-- TSTATE of tile `n` (R122): 0 DISABLED, 1 STOPPED, 2 HELD, 3 SWITCHING, 4 KILLED. -/
def tstate (d : Dev) (n : Nat) : Nat := d.fld (pg .tile n) F.TILE.STATUS_TSTATE

/-- MODE (R114). -/
def tileMode (d : Dev) (n : Nat) : Nat := d.fld (pg .tile n) F.TILE.MODE_MODE

/-- Dead time of an output of tile `n` in edge steps: DT_RISE for PWMH, DT_FALL for PWML (R118). -/
def deadTime (d : Dev) (n : Nat) (o : Out) : Nat :=
  let p := pg .tile n
  d.fld p (match o with | .h => F.TILE.DEADTIME_DT_RISE | .l => F.TILE.DEADTIME_DT_FALL) *
    (if d.flag p F.TILE.DEADTIME_COARSE then 64 else 1)

/-- Whether the tile drives an output (R115). -/
def outUsed (d : Dev) (n : Nat) (o : Out) : Bool :=
  d.flag (pg .tile n) ⟨R.TILE.MODE, (match o with | .h => 4 | .l => 5), 1⟩

/-! ## Comparators in use (R112, R125–R127) -/

/-- Key of a comparator (R37). -/
def cmpKey (n : Nat) : Cmp → Nat
  | .a => 0x118 + 2 * n
  | .b => 0x119 + 2 * n

/-- FUNC of a comparator as its register holds it (R126). -/
def cmpSet (d : Dev) (n : Nat) (c : Cmp) : Nat :=
  d.fld (pg .tile n) (match c with | .a => F.TILE.CMPA_CFG_FUNC | .b => F.TILE.CMPB_CFG_FUNC)

/-- FUNC of a comparator as it acts: OFF unless one owner holds its key and the tile's (R125). -/
def cmpFunc (d : Dev) (n : Nat) (c : Cmp) : Nat :=
  let t := d.keyTag (cmpKey n c)
  if t != 0 && t == d.keyTag (0x100 + n) then d.cmpSet n c else 0

/-- STATUS bit of a comparator (R126). -/
def cmpFlag (c : Cmp) : Fld := match c with | .a => F.TILE.STATUS_CMPA_OUT | .b => F.TILE.STATUS_CMPB_OUT

/-- Configuration word, slope and start threshold of a comparator: in SWITCHING as taken at the period start (R112), else as the
registers hold them (log entry 34). -/
def cmpLive (d : Dev) (n : Nat) (c : Cmp) : Word × Word × Nat :=
  let p := pg .tile n
  let t := d.tileS n
  if d.tstate n = 3 then
    match c with
    | .a => (t.live.cfgA, t.live.slopeA, d.fld p F.TILE.LIVE_DAC_A)
    | .b => (t.live.cfgB, t.live.slopeB, d.fld p F.TILE.LIVE_DAC_B)
  else
    match c with
    | .a => (d.reg p R.TILE.CMPA_CFG, d.reg p R.TILE.CMPA_SLOPE, d.fld p F.TILE.CMPA_DAC_VALUE)
    | .b => (d.reg p R.TILE.CMPB_CFG, d.reg p R.TILE.CMPB_SLOPE, d.fld p F.TILE.CMPB_DAC_VALUE)

/-- The output that a comparator acts on, with the group's exchange of R148 for PEAK_LIMIT. -/
def cmpOut (d : Dev) (n : Nat) (c : Cmp) : Out :=
  let o := bitAt (d.cmpLive n c).1.toNat 3
  if o != ((d.tileS n).swapLive && d.cmpFunc n c == 1) then .l else .h

/-- Whether a blanking interval of the comparator covers position `x` (R128). -/
def blanked (d : Dev) (n : Nat) (c : Cmp) (x : Nat) : Bool :=
  ((d.tileS n).blanks c).any (fun b => decide ((d.tileS n).start + x < b.1))

/-- Whether a comparator's function ends pulses: PEAK_LIMIT or ZCD (R126). -/
def cmpCuts (d : Dev) (n : Nat) (c : Cmp) : Bool := d.cmpFunc n c == 1 || d.cmpFunc n c == 2

/-! ## Pulses -/

/-- PEAK_LIMIT or ZCD ends the OUT pulse at position `x`, and the whole of it where it rose on the clock of the action. After
PEAK_LIMIT the other output's pulse starts as if the nominal end had fallen here; where the nominal end is the end of the period,
PWML is left the rest of it (R126, R129, R130). -/
def cutPulse (d : Dev) (n : Nat) (c : Cmp) (x : Nat) : Dev :=
  let t := d.tileS n
  let o := d.cmpOut n c
  let oth := otherOut o
  let peak := d.cmpFunc n c == 1
  match highAt (t.sched o) x with
  | none => d
  | some i =>
    let e := if (t.start + i.1) / 64 = (t.start + x) / 64 then i.1 else x
    let rest := match t.todo oth with
      | j :: r => (e + d.deadTime n oth, j.2) :: r
      | [] => if o == .h && d.outUsed n .l then [(e + d.deadTime n .l, t.len)] else []
    d.modTile n (fun t =>
      let t := t.withSched o (cutAt (t.sched o) x e)
      if peak then { t.withTodo oth rest with limited := true } else t)

/-- A rising edge of `o` at position `x` starts the blanking of a comparator that names it (R128). -/
def blankFrom (d : Dev) (n : Nat) (o : Out) (x : Nat) (c : Cmp) : Dev :=
  let cfg := (d.cmpLive n c).1.toNat
  let len := 64 * bitsOf cfg 24 8
  if bitAt cfg (match o with | .h => 16 | .l => 17) && decide (0 < len) then
    d.modTile n (fun t => t.withBlanks c (t.blanks c ++ [(t.start + x + len, false)]))
  else d

/-- A pulse of `o` that rises at `x` under a comparator still tripped and not blanked ends there: the comparator's output is a
level (R128, R129; log entry 34). -/
def levelAt (d : Dev) (n : Nat) (o : Out) (x : Nat) (c : Cmp) : Dev :=
  if d.cmpCuts n c && d.cmpOut n c == o && d.flag (pg .tile n) (cmpFlag c) && !d.blanked n c x then d.cutPulse n c x else d

/-- A pulse comes to its rising edge: dropped if its high time would be too short, else emitted (R118, R119). -/
def rise (d : Dev) (n : Nat) (o : Out) (i : Interval) : Dev :=
  let p := pg .tile n
  let d := d.modTile n (fun t => t.withTodo o (t.todo o).tail)
  if i.2 < i.1 + 64 * d.fld p F.TILE.MIN_PULSE_MIN then
    ((d.bump p R.TILE.PULSE_DROPS).event p F.TILE.EVENT_PULSE_DROP).modTile n (fun t => { t with dropped := true })
  else if i.2 ≤ i.1 then d
  else
    let d := d.modTile n (fun t => t.emit o i)
    let d := (d.blankFrom n o i.1 .a).blankFrom n o i.1 .b
    (d.levelAt n o i.1 .a).levelAt n o i.1 .b

/-- Up to `k` pulses come to their rising edges at or before position `x`. -/
def rises (d : Dev) (n x : Nat) : Nat → Dev
  | 0 => d
  | k + 1 =>
    match (d.tileS n).nextRise x with
    | none => d
    | some (o, i) => (d.rise n o i).rises n x k

/-- The edges of tile `n` up to position `x`. A period has at most five rising edges: three nominal intervals, and one that each
PEAK_LIMIT action opens. -/
def tileAdvance (d : Dev) (n x : Nat) : Dev := if d.tstate n = 3 then d.rises n x 5 else d

/-- A valid calibration that waited is taken into use (R110). -/
def takeTable (d : Dev) (n : Nat) : Dev :=
  match (d.tileS n).pendCpc with
  | none => d
  | some c => (d.setFld (pg .tile n) F.TILE.CAL_STATUS_CPC c).modTile n (fun t => { t with tableCpc := c, pendCpc := none })

/-- Tile `n` stops switching: its outputs are low, and a waiting tap table is taken at once (R110, R123). -/
def outputsLow (d : Dev) (n : Nat) : Dev := (d.takeTable n).modTile n TileS.low

end Dev
end Sys2Proof.Machine
end

