-- ==== Sys2Proof/Machine/Float.lean ====
section
/-!
DEFINITION. IEEE 754 binary32 arithmetic as the shadow gauge uses it (R285): every operation rounds to nearest, ties to
even. An operation on a value that is not finite, or a division by 0, yields a NaN: the gauge gives up such a run whatever
the value would have been (R287).
-/
namespace Sys2Proof.Machine.F32

/-- The NaN that stands for every result that is not finite. -/
def nan : Word := 0x7FC00000#32

/-- Whether a pattern is finite. -/
def finite (w : Word) : Bool := bitsOf w.toNat 23 8 != 255

/-- Sign. -/
def neg (w : Word) : Bool := bitAt w.toNat 31

/-- Magnitude of a finite value as numerator and denominator. -/
def mag (w : Word) : Nat × Nat :=
  let e := bitsOf w.toNat 23 8
  let f := bitsOf w.toNat 0 23
  let m := if e = 0 then f else f + 8388608
  let x := if e = 0 then 1 else e
  if 150 ≤ x then (m * 2 ^ (x - 150), 1) else (m, 2 ^ (150 - x))

/-- A finite value as an exact fraction. -/
def num (w : Word) : Int := if neg w then -(mag w).1 else (mag w).1

/-- Its denominator. -/
def den (w : Word) : Nat := (mag w).2

/-- Quotient and doubled remainder comparison of `n / d / 2^e`: the integer nearest, ties to even. -/
def roundAt (n d : Nat) (e : Int) : Nat :=
  let a := if e < 0 then n * 2 ^ (-e).toNat else n
  let b := if e < 0 then d else d * 2 ^ e.toNat
  let q := a / b
  let r := a % b
  if b < 2 * r ∨ (2 * r = b ∧ q % 2 = 1) then q + 1 else q

/-- Exponent of the last place of `n / d`. -/
def ulpExp (n d : Nat) : Int :=
  let e : Int := (Nat.log2 n : Int) - Nat.log2 d - 24
  let big := if e < 0 then decide (d * 16777216 ≤ n * 2 ^ (-e).toNat) else decide (d * 2 ^ e.toNat * 16777216 ≤ n)
  max (if big then e + 1 else e) (-149)

/-- The binary32 value nearest to `n / d` with the given sign. -/
def ofMag (s : Bool) (n d : Nat) : Word :=
  let sg := if s then 2147483648 else 0
  if n = 0 ∨ d = 0 then BitVec.ofNat 32 sg
  else
    let e := ulpExp n d
    let q := roundAt n d e
    let e' : Int := if q = 16777216 then e + 1 else e
    let q' := if q = 16777216 then 8388608 else q
    if q' < 8388608 then BitVec.ofNat 32 (sg + q')
    else if 105 ≤ e' then nan
    else BitVec.ofNat 32 (sg + (e' + 150).toNat * 8388608 + (q' - 8388608))

/-- The value nearest to an integer over a natural number. -/
def ofFrac (n : Int) (d : Nat) : Word := ofMag (decide (n < 0)) n.natAbs d

/-- The value nearest to an integer. -/
def ofInt (n : Int) : Word := ofFrac n 1

/-- Sum. -/
def add (a b : Word) : Word :=
  if !finite a || !finite b then nan
  else
    let n := num a * den b + num b * den a
    if n = 0 then (if neg a && neg b then 0x80000000#32 else 0) else ofFrac n (den a * den b)

/-- Change of sign. -/
def opp (a : Word) : Word := if finite a then a ^^^ 0x80000000#32 else nan

/-- Difference. -/
def sub (a b : Word) : Word := add a (opp b)

/-- Product. -/
def mul (a b : Word) : Word :=
  if !finite a || !finite b then nan
  else ofMag (neg a != neg b) ((mag a).1 * (mag b).1) (den a * den b)

/-- Quotient. -/
def div (a b : Word) : Word :=
  if !finite a || !finite b || (mag b).1 = 0 then nan
  else ofMag (neg a != neg b) ((mag a).1 * den b) (den a * (mag b).1)

/-- `e^x`, whose value the spec leaves to the device (log entry 5). -/
def exp (a : Word) : Word := if finite a then Config.exp32 a else nan

/-- The natural logarithm (log entry 5). -/
def ln (a : Word) : Word := if finite a then Config.ln32 a else nan

/-- `a ≤ b` for finite values. -/
def le (a b : Word) : Bool := finite a && finite b && decide (num a * den b ≤ num b * den a)

/-- `a < b` for finite values. -/
def lt (a b : Word) : Bool := finite a && finite b && decide (num a * den b < num b * den a)

/-- Finite and above 0. -/
def pos (a : Word) : Bool := lt 0 a

/-- Largest integer not above a finite value. -/
def floor (a : Word) : Int := num a / (den a : Int)

/-- The value times `k`, rounded to the nearest integer. -/
def scaled (a : Word) (k : Nat) : Int := divRound (num a * k) (den a)

end Sys2Proof.Machine.F32
end

