-- ==== Sys2Proof/Machine/GaugeFit.lean ====
section
/-!
DEFINITION. The shadow gauge's battery model and probe fit (R281 for FROZEN, R285, R286, R290, R292–R295). The group's
update points start and end what the gauge measures here.
-/
namespace Sys2Proof.Machine

/-- Constant 10^−n as binary32. -/
def tenth (n : Nat) : Word := F32.ofFrac 1 (10 ^ n)

namespace Dev

/-- A part of the gauge beside its registers changed. -/
def modGauge (d : Dev) (f : GaugeS → GaugeS) : Dev := { d with gauge := f d.gauge }

/-- GSTATE of the gauge: 0 DISABLED, 1 WAIT_RESTORE, 2 INIT_WAIT, 3 RUN, 4 FROZEN (R280). -/
def gaugeState (d : Dev) : Nat := d.fld (pg .gauge) F.GAUGE.STATUS_GSTATE

/-- GSTATE changed. -/
def setGaugeState (d : Dev) (st : Nat) : Dev := d.setFld (pg .gauge) F.GAUGE.STATUS_GSTATE st

/-- A binary32 register. -/
def gf (d : Dev) (ofs : Nat) : Word := d.reg (pg .gauge) ofs

/-- CC (R284). -/
def gaugeCc (d : Dev) : Int :=
  toSigned 64 ((d.reg (pg .gauge) R.GAUGE.CC).toNat + 4294967296 * (d.reg (pg .gauge) (R.GAUGE.CC + 4)).toNat)

/-- Whether a battery loss of group `g` freezes the gauge (R281). -/
def gaugeWatches (d : Dev) (g : Nat) : Bool :=
  d.fld (pg .gauge) F.GAUGE.CFG_GROUP == g ||
  (d.flag (pg .chg) F.HDR.CTRL_ENABLE &&
    (d.fld (pg .chg) F.CHG.CFG_IN_GROUP == g || d.fld (pg .chg) F.CHG.CFG_OUT_GROUP == g))

/-- CONV_BATTERY_LOST of a watched group: FROZEN, in which no tick takes means (R281, R284). -/
def gaugeFreeze (d : Dev) (g : Nat) : Dev :=
  let st := d.gaugeState
  if d.gaugeWatches g ∧ 1 ≤ st ∧ st ≤ 3 then
    ((d.setGaugeState 4).event (pg .gauge) F.GAUGE.EVENT_FROZEN).modGauge (fun x => { x with
      frozenFrom := st, iAcc := {}, vAcc := {} })
  else d

/-! ## Open-circuit voltage (R286) -/

/-- Point `p` of column `c` in units of 0.1 mV. -/
def ocvPoint (d : Dev) (c p : Nat) : Nat :=
  let i := 64 * c + p
  bitsOf (d.reg (pg .gauge) (R.GAUGE.OCV_TAB + 4 * (i / 2))).toNat (16 * (i % 2)) 16

/-- OCV_T of a column in 0.1 °C. -/
def ocvT (d : Dev) (c : Nat) : Int := d.sfld (pg .gauge) (F.GAUGE.OCV_T_TEMP.at c)

/-- Point `p` in V at a temperature in 0.05 °C: linear in T between the two columns that bracket it, the nearest column
outside them. -/
def ocvAt (d : Dev) (t : Int) (p : Nat) : Word :=
  let v := fun c => F32.mul (F32.ofInt (d.ocvPoint c p)) (tenth 4)
  if t ≤ 2 * d.ocvT 0 then v 0
  else
    match [0, 1, 2].find? (fun c => decide (t ≤ 2 * d.ocvT (c + 1))) with
    | none => v 3
    | some c =>
      let f := F32.ofFrac (t - 2 * d.ocvT c) (2 * (d.ocvT (c + 1) - d.ocvT c)).toNat
      F32.add (v c) (F32.mul (F32.sub (v (c + 1)) (v c)) f)

/-- The segment of the state of charge `s`, ends extended. -/
def ocvSeg (s : Word) : Nat := (clampI (F32.floor (F32.mul s (F32.ofInt 63))) 0 62).toNat

/-- ocv(s, T). -/
def ocv (d : Dev) (s : Word) (t : Int) : Word :=
  let j := ocvSeg s
  let a := d.ocvAt t j
  let b := d.ocvAt t (j + 1)
  F32.add a (F32.mul (F32.sub b a) (F32.sub (F32.mul s (F32.ofInt 63)) (F32.ofInt j)))

/-- ocv′(s, T). -/
def ocvSlope (d : Dev) (s : Word) (t : Int) : Word :=
  let j := ocvSeg s
  F32.mul (F32.sub (d.ocvAt t (j + 1)) (d.ocvAt t j)) (F32.ofInt 63)

/-- ocvinv(v, T). -/
def ocvInv (d : Dev) (v : Word) (t : Int) : Word :=
  let j := ((List.range 63).filter (fun j => F32.le (d.ocvAt t j) v)).length - 1
  let a := d.ocvAt t j
  let b := d.ocvAt t (j + 1)
  F32.div (F32.add (F32.ofInt j) (F32.div (F32.sub v a) (F32.sub b a))) (F32.ofInt 63)

/-- SERIES as binary32. -/
def series (d : Dev) : Word := F32.ofInt (d.fld (pg .gauge) F.GAUGE.SERIES_CELLS)

/-- A resistance limit of R_LIMITS in Ω. -/
def ohmLimit (d : Dev) (f : Fld) : Word := F32.mul (F32.ofInt (d.fld (pg .gauge) f)) (tenth 4)

/-! ## Probe steps (R292–R295) -/

/-- Mean over the entries of a log in `[lo, hi)`. -/
def windowMean (log : List (Nat × Int)) (lo hi : Nat) : MeanAcc :=
  let l := log.filter (fun e => decide (lo ≤ e.1) && decide (e.1 < hi))
  ⟨l.foldl (fun s e => s + e.2) 0, l.length⟩

/-- A mean of codes of AF[IN_I] in A. -/
def meanAmps (d : Dev) (m : MeanAcc) : Word :=
  F32.ofFrac (m.sum * d.sfld (pg .gauge) F.GAUGE.I_SCALE_VALUE) (m.n * 65536000)

/-- A mean of codes of AF[IN_V] in V. -/
def meanVolts (d : Dev) (m : MeanAcc) : Word :=
  F32.ofFrac (m.sum * d.fld (pg .gauge) F.GAUGE.V_SCALE_VALUE + m.n * 65536 * d.sfld (pg .gauge) F.GAUGE.V_OFFSET_VALUE)
    (m.n * 65536000)

/-- The clock of window `k` of a step: t0 = 1 ms, t1 = (t0 + t2) / 2, t2 = DURATION − 1 ms (R292). -/
def probeClock (p : GaugeProbe) (k : Nat) : Nat :=
  p.start + (match k with | 0 => 2 | 1 => p.ms | _ => 2 * p.ms - 2) * 200000

/-- A delivered result taken into the windows whose 100 µs hold it (R292). -/
def probeTake (p : GaugeProbe) (now : Nat) (v : Int) (l : Vector MeanAcc 3) : Vector MeanAcc 3 :=
  Vector.ofFn (fun k => if probeClock p k.val ≤ now + 20000 ∧ now < probeClock p k.val + 20000
    then ⟨l[k].sum + v, l[k].n + 1⟩ else l[k])

/-- What the windows of a step gave: the mean current steps and the corrected voltage steps (R292). -/
structure StepData where
  i0 : Word
  v0 : Word
  i : Vector Word 3
  v : Vector Word 3
  deriving DecidableEq, Repr

/-- Window `k` of a step: mean current, mean voltage with the open-circuit rise taken out. -/
def stepWindow (d : Dev) (p : GaugeProbe) (temp : Int) (k : Fin 3) : Option (Word × Word) :=
  if p.i[k].n = 0 ∨ p.v[k].n = 0 then none
  else
    let cap := d.gf R.GAUGE.CAP
    let s0 := F32.div p.q cap
    let s := F32.div (F32.add p.q (F32.mul (F32.ofInt (p.ccs[k] - p.cc)) (tenth 6))) cap
    let rise := F32.mul d.series (F32.sub (d.ocv s temp) (d.ocv s0 temp))
    some (d.meanAmps p.i[k], F32.sub (d.meanVolts p.v[k]) rise)

/-- The data of a whole step; none where a window or the baseline holds no result (R292, code 0x9). -/
def stepData (d : Dev) (p : GaugeProbe) (temp : Int) : Option StepData :=
  if p.i0.n = 0 ∨ p.v0.n = 0 then none
  else match d.stepWindow p temp 0, d.stepWindow p temp 1, d.stepWindow p temp 2 with
    | some a, some b, some c => some ⟨d.meanAmps p.i0, d.meanVolts p.v0, #v[a.1, b.1, c.1], #v[a.2, b.2, c.2]⟩
    | _, _, _ => none

/-- Span of I_NOW over the ticks of the last `pre` clocks (R294). -/
def baselineSpan (d : Dev) (pre : Nat) : Int :=
  let l := (d.gauge.tickLog.filter (fun e => decide (d.now ≤ e.1 + pre) && decide (e.1 < d.now))).map (·.2)
  match l with
  | [] => 0
  | x :: l => l.foldl max x - l.foldl min x

/-- dI of a step (R292). -/
def StepData.dI (s : StepData) : Word :=
  F32.sub (F32.div (F32.add (F32.add s.i[0] s.i[1]) s.i[2]) (F32.ofInt 3)) s.i0

/-- x, b1 and r0 of a step (R293). -/
def StepData.shape (s : StepData) : Word × Word × Word :=
  let r := fun (k : Fin 3) => F32.div (F32.sub s.v[k] s.v0) s.dI
  let b1 := F32.sub (r 1) (r 0)
  let b2 := F32.sub (r 2) (r 0)
  (F32.sub (F32.div b2 b1) (F32.ofInt 1), b1, r 0)

/-- RSER_f, RPOL_f and CPOL_f (R293). -/
def fitOf (p : GaugeProbe) (x b1 r0 : Word) : Word × Word × Word :=
  let h := F32.ofFrac ((p.ms : Int) - 2) 2000
  let tau := F32.div (F32.opp h) (F32.ln x)
  let e := F32.exp (F32.div (F32.opp (tenth 3)) tau)
  let one := F32.ofInt 1
  let rp := F32.div b1 (F32.mul e (F32.sub one x))
  (F32.sub r0 (F32.mul rp (F32.sub one e)), rp, F32.div tau rp)

/-- A value moved toward its fit (R295). -/
def blend (d : Dev) (old new : Word) : Word :=
  F32.add old (F32.div (F32.mul (F32.sub new old) (F32.ofInt (d.fld (pg .gauge) F.GAUGE.PROBE_CFG_ALPHA))) (F32.ofInt 256))

/-- The result of a fit recorded (R294). -/
def fitResult (d : Dev) (code : Nat) : Dev :=
  let p := pg .gauge
  let d := d.setFld p F.GAUGE.LAST_FIT_RESULT code
  if code = 1 then (d.bump p R.GAUGE.FITS).event p F.GAUGE.EVENT_FIT
  else (d.bump p R.GAUGE.FIT_REJECTS).event p F.GAUGE.EVENT_FIT_REJECT

/-- The fit past its data (R293–R295): SMALL_STEP, SHAPE, RANGE or OK. -/
def fitData (d : Dev) (q : GaugeProbe) (s : StepData) : Dev :=
  let p := pg .gauge
  let dI := s.dI
  let r := d.fit 16 (-32768) 32767 (F32.scaled dI 100)
  let d := r.2.setFld p F.GAUGE.LAST_FIT_DI r.1
  let min' := F32.mul (F32.ofInt (d.fld p F.GAUGE.PROBE_CFG_DI_MIN)) (tenth 3)
  let sh := s.shape
  if F32.lt dI min' ∧ F32.lt (F32.opp min') dI then d.fitResult 3
  else if !(F32.lt 0 sh.2.1 && F32.lt 0 sh.1 && F32.lt sh.1 (F32.ofInt 1)) then d.fitResult 5
  else
    let f := fitOf q sh.1 sh.2.1 sh.2.2
    let d := ((d.setReg p R.GAUGE.FIT_RSER f.1).setReg p R.GAUGE.FIT_RPOL f.2.1).setReg p R.GAUGE.FIT_CPOL f.2.2
    let lo := d.ohmLimit F.GAUGE.R_LIMITS_R_MIN
    let hi := d.ohmLimit F.GAUGE.R_LIMITS_R_MAX
    let ok := fun r => F32.le lo r && F32.le r hi
    if ok f.1 && ok f.2.1 then
      let d := d.setReg p R.GAUGE.RSER (d.blend (d.gf R.GAUGE.RSER) f.1)
      let d := d.setReg p R.GAUGE.RPOL (d.blend (d.gf R.GAUGE.RPOL) f.2.1)
      (d.setReg p R.GAUGE.CPOL (d.blend (d.gf R.GAUGE.CPOL) f.2.2)).fitResult 1
    else d.fitResult 6

/-- A probe step of the gauge's group starts: the baseline of the last PRE ms is taken (R292). -/
def gaugeProbeStart (d : Dev) (g ms : Nat) : Dev :=
  if g = d.fld (pg .gauge) F.GAUGE.CFG_GROUP ∧ d.gaugeState ≠ 0 then
    let q := F32.add (d.gf R.GAUGE.Q) (F32.mul (F32.ofInt (d.gaugeCc - d.gauge.ccPrev)) (tenth 6))
    let pre := d.fld (pg .gauge) F.GAUGE.PROBE_CFG_PRE * 400000
    d.modGauge (fun x => { x with probe := some {
      start := d.now, ms := ms, pre := pre, q := q, cc := d.gaugeCc, span := d.baselineSpan pre,
      i0 := windowMean x.iLog (d.now - pre) d.now, v0 := windowMean x.vLog (d.now - pre) d.now,
      ccs := Vector.replicate 3 d.gaugeCc } })
  else d

/-- The step has ended, in order or by an abort: the fit is judged (R293, R294). -/
def gaugeProbeEnd (d : Dev) (g : Nat) (aborted : Bool) : Dev :=
  match d.gauge.probe with
  | none => d
  | some q =>
    if g ≠ d.fld (pg .gauge) F.GAUGE.CFG_GROUP then d
    else
      let p := pg .gauge
      let d := d.modGauge (fun x => { x with probe := none })
      let temp := match d.gauge.lastT with
        | some t => (t, d)
        | none => (toSigned 16 d.takeFree.1.toNat, d.takeFree.2)
      if d.gaugeState ≠ 3 ∨ q.start < d.gauge.runSince + q.pre then d.fitResult 8
      else if aborted then d.fitResult 2
      else if q.ms < 10 then d.fitResult 7
      else
        match temp.2.stepData q temp.1 with
        | none => temp.2.fitResult 9
        | some s =>
          if (d.fld p F.GAUGE.PROBE_CFG_DI_MIN : Int) < 4 * q.span then temp.2.fitResult 4
          else temp.2.fitData q s

/-- A delivered result for the gauge: the means of the tick while charge is counted, the log of the longest baseline, and the windows of
a step (R284, R292). -/
def gaugeResult (d : Dev) (i : Nat) (v : Int) : Dev :=
  let p := pg .gauge
  let st := d.gaugeState
  if st = 0 then d
  else
    let x := d.gauge
    let log := fun (l : List (Nat × Int)) => (d.now, v) :: l.filter (fun e => decide (d.now ≤ e.1 + 102000000))
    let add := fun (m : MeanAcc) => if st = 4 then m else ⟨m.sum + v, m.n + 1⟩
    let x := if i = d.fld p F.GAUGE.CFG_IN_I then
        { x with iAcc := add x.iAcc, iLog := log x.iLog, probe := x.probe.map (fun q => { q with i := probeTake q d.now v q.i }) }
      else x
    let x := if i = d.fld p F.GAUGE.CFG_IN_V then
        { x with vAcc := add x.vAcc, vLog := log x.vLog, probe := x.probe.map (fun q => { q with v := probeTake q d.now v q.v }) }
      else x
    { d with gauge := x }

end Dev
end Sys2Proof.Machine
end

