-- ==== Sys2Proof/Machine/Crypto.lean ====
section
/-!
DEFINITION. The standards that start-up names: SHA-256 of FIPS 180-4, HMAC of FIPS 198-1, and the verification of ECDSA on
P-256 of FIPS 186-5 (R5, R435, R444, R446, R448). The spec names the standards; their constants are taken from them (log
entry 11). Bytes are numbers below 256.
-/
namespace Sys2Proof.Machine.Crypto

/-! ## SHA-256 -/

/-- Rotation right of a 32-bit number. -/
def rotr (x n : Nat) : Nat := (x >>> n) ||| ((x <<< (32 - n)) % 4294967296)

/-- The round constants. -/
def k256 : List Nat :=
  [0x428a2f98, 0x71374491, 0xb5c0fbcf, 0xe9b5dba5, 0x3956c25b, 0x59f111f1, 0x923f82a4, 0xab1c5ed5] ++
  [0xd807aa98, 0x12835b01, 0x243185be, 0x550c7dc3, 0x72be5d74, 0x80deb1fe, 0x9bdc06a7, 0xc19bf174] ++
  [0xe49b69c1, 0xefbe4786, 0x0fc19dc6, 0x240ca1cc, 0x2de92c6f, 0x4a7484aa, 0x5cb0a9dc, 0x76f988da] ++
  [0x983e5152, 0xa831c66d, 0xb00327c8, 0xbf597fc7, 0xc6e00bf3, 0xd5a79147, 0x06ca6351, 0x14292967] ++
  [0x27b70a85, 0x2e1b2138, 0x4d2c6dfc, 0x53380d13, 0x650a7354, 0x766a0abb, 0x81c2c92e, 0x92722c85] ++
  [0xa2bfe8a1, 0xa81a664b, 0xc24b8b70, 0xc76c51a3, 0xd192e819, 0xd6990624, 0xf40e3585, 0x106aa070] ++
  [0x19a4c116, 0x1e376c08, 0x2748774c, 0x34b0bcb5, 0x391c0cb3, 0x4ed8aa4a, 0x5b9cca4f, 0x682e6ff3] ++
  [0x748f82ee, 0x78a5636f, 0x84c87814, 0x8cc70208, 0x90befffa, 0xa4506ceb, 0xbef9a3f7, 0xc67178f2]

/-- The initial hash value. -/
def h256 : List Nat :=
  [0x6a09e667, 0xbb67ae85, 0x3c6ef372, 0xa54ff53a, 0x510e527f, 0x9b05688c, 0x1f83d9ab, 0x5be0cd19]

/-- A number as bytes, highest first. -/
def bytesBE (n : Nat) : Nat → List Nat
  | 0 => []
  | k + 1 => bytesBE (n / 256) k ++ [n % 256]

/-- A number as bytes, lowest first. -/
def bytesLE (n : Nat) : Nat → List Nat
  | 0 => []
  | k + 1 => (n % 256) :: bytesLE (n / 256) k

/-- The number that bytes spell, highest first. -/
def numBE (l : List Nat) : Nat := l.foldl (fun (a : Nat) b => 256 * a + b) 0

/-- The number that bytes spell, lowest first. -/
def numLE (l : List Nat) : Nat := l.foldr (fun b (a : Nat) => b + 256 * a) 0

/-- The message schedule, newest word first, from the sixteen words of a block. -/
def schedule : Nat → List Nat → List Nat
  | 0, w => w
  | n + 1, w =>
    let a := w.getD 1 0
    let b := w.getD 14 0
    let s1 := rotr a 17 ^^^ rotr a 19 ^^^ (a >>> 10)
    let s0 := rotr b 7 ^^^ rotr b 18 ^^^ (b >>> 3)
    schedule n (((s1 + w.getD 6 0 + s0 + w.getD 15 0) % 4294967296) :: w)

/-- The working variables of the compression. -/
structure Work where
  a : Nat
  b : Nat
  c : Nat
  d : Nat
  e : Nat
  f : Nat
  g : Nat
  h : Nat

/-- One round. -/
def round (s : Work) (kw : Nat) : Work :=
  let t1 := s.h + (rotr s.e 6 ^^^ rotr s.e 11 ^^^ rotr s.e 25) + ((s.e &&& s.f) ^^^ ((4294967295 - s.e) &&& s.g)) + kw
  let t2 := (rotr s.a 2 ^^^ rotr s.a 13 ^^^ rotr s.a 22) + ((s.a &&& s.b) ^^^ (s.a &&& s.c) ^^^ (s.b &&& s.c))
  ⟨(t1 + t2) % 4294967296, s.a, s.b, s.c, (s.d + t1) % 4294967296, s.e, s.f, s.g⟩

/-- Hash value after a block of sixteen words. -/
def compress (h w : List Nat) : List Nat :=
  let ws := (schedule 48 w.reverse).reverse
  let s : Work := ⟨h.getD 0 0, h.getD 1 0, h.getD 2 0, h.getD 3 0, h.getD 4 0, h.getD 5 0, h.getD 6 0, h.getD 7 0⟩
  let r := (k256.zip ws).foldl (fun s p => round s (p.1 + p.2)) s
  (h.zip [r.a, r.b, r.c, r.d, r.e, r.f, r.g, r.h]).map (fun p => (p.1 + p.2) % 4294967296)

/-- `n` blocks of a padded message. -/
def blocks : Nat → List Nat → List Nat → List Nat
  | 0, h, _ => h
  | n + 1, h, m =>
    let w := (List.range 16).map (fun i => numBE ((m.drop (4 * i)).take 4))
    blocks n (compress h w) (m.drop 64)

/-- SHA-256 of a byte string, as 32 bytes. -/
def sha256 (m : List Nat) : List Nat :=
  let n := m.length
  let pad := (119 - n % 64) % 64
  let p := m ++ [0x80] ++ List.replicate pad 0 ++ bytesBE (8 * n) 8
  (blocks (p.length / 64) h256 p).flatMap (fun w => bytesBE w 4)

/-- HMAC-SHA-256 with a key of at most 64 bytes. -/
def hmac (key m : List Nat) : List Nat :=
  let k := key ++ List.replicate (64 - key.length) 0
  sha256 (k.map (fun b => b ^^^ 0x5C) ++ sha256 (k.map (fun b => b ^^^ 0x36) ++ m))

/-! ## ECDSA on P-256 -/

/-- The field prime. -/
def p256 : Nat := 0xffffffff00000001000000000000000000000000ffffffffffffffffffffffff

/-- The order of the base point. -/
def n256 : Nat := 0xffffffff00000000ffffffffffffffffbce6faada7179e84f3b9cac2fc632551

/-- The coefficient b. -/
def b256 : Nat := 0x5ac635d8aa3a93e7b3ebbd55769886bc651d06b0cc53b0f63bce3c3e27d2604b

/-- The base point. -/
def g256 : Nat × Nat :=
  (0x6b17d1f2e12c4247f8bce6e563a440f277037d812deb33a0f4a13945d898c296,
   0x4fe342e2fe1a7f9b8ee7eb4a7c0f9e162bce33576b315ececbb6406837bf51f5)

/-- `x^e mod m`, over `k` bits of the exponent. -/
def powMod (x m : Nat) : Nat → Nat → Nat
  | 0, _ => 1
  | k + 1, e =>
    let r := powMod x m k (e / 2)
    let r2 := r * r % m
    if e % 2 = 1 then r2 * x % m else r2

/-- Inverse modulo a prime. -/
def invMod (x m : Nat) : Nat := powMod (x % m) m 256 (m - 2)

/-- Difference modulo the field prime. -/
def subP (a b : Nat) : Nat := (a % p256 + p256 - b % p256) % p256

/-- A point in Jacobian coordinates; Z = 0 at infinity. -/
structure Pt where
  x : Nat
  y : Nat
  z : Nat

/-- The double of a point. -/
def dbl (q : Pt) : Pt :=
  if q.z = 0 ∨ q.y = 0 then ⟨1, 1, 0⟩
  else
    let delta := q.z * q.z % p256
    let gamma := q.y * q.y % p256
    let beta := q.x * gamma % p256
    let alpha := 3 * subP q.x delta * (q.x + delta) % p256
    let x3 := subP (alpha * alpha) (8 * beta)
    ⟨x3, subP (alpha * subP (4 * beta) x3) (8 * gamma * gamma), 2 * q.y * q.z % p256⟩

/-- The sum of two points. -/
def addPt (a b : Pt) : Pt :=
  if a.z = 0 then b else if b.z = 0 then a
  else
    let za := a.z * a.z % p256
    let zb := b.z * b.z % p256
    let u1 := a.x * zb % p256
    let u2 := b.x * za % p256
    let s1 := a.y * zb * b.z % p256
    let s2 := b.y * za * a.z % p256
    if u1 = u2 then (if s1 = s2 then dbl a else ⟨1, 1, 0⟩)
    else
      let h := subP u2 u1
      let r := subP s2 s1
      let h2 := h * h % p256
      let h3 := h * h2 % p256
      let v := u1 * h2 % p256
      let x3 := subP (r * r) (h3 + 2 * v)
      ⟨x3, subP (r * subP v x3) (s1 * h3), a.z * b.z * h % p256⟩

/-- `u·a + v·b` over `k` bits. -/
def combine (a b ab : Pt) : Nat → Nat → Nat → Pt
  | 0, _, _ => ⟨1, 1, 0⟩
  | k + 1, u, v =>
    let r := dbl (combine a b ab k (u / 2) (v / 2))
    if u % 2 = 1 then (if v % 2 = 1 then addPt r ab else addPt r a)
    else if v % 2 = 1 then addPt r b else r

/-- Whether (x, y) is a point of P-256. -/
def onCurve (x y : Nat) : Bool :=
  decide (x < p256) && decide (y < p256) && decide (y * y % p256 = subP (x * x * x + b256) (3 * x))

/-- Verification of a signature (r, s) on a hash value with the public key (x, y). A key that is no point fails (R435). -/
def verify (x y r s hash : Nat) : Bool :=
  if onCurve x y && decide (0 < r) && decide (r < n256) && decide (0 < s) && decide (s < n256) then
    let w := invMod s n256
    let g : Pt := ⟨g256.1, g256.2, 1⟩
    let q : Pt := ⟨x, y, 1⟩
    let t := combine g q (addPt g q) 256 (hash * w % n256) (r * w % n256)
    if t.z = 0 then false
    else
      let zi := invMod t.z p256
      decide (t.x * zi % p256 * zi % p256 % n256 = r)
  else false

end Sys2Proof.Machine.Crypto
end

