-- ==== Sys2Proof/Machine/Image.lean ====
section
/-!
DEFINITION. The Foentoz image (R432–R434): where its fields stand, its load ranges, and the discard of an attempt.
-/
namespace Sys2Proof.Machine

/-- `n` bytes from offset `o`, as a little-endian number (R432). -/
def le (l : List Nat) (o n : Nat) : Nat := Crypto.numLE ((l.drop o).take n)

/-- `n` bytes from offset `o`. -/
def sub (l : List Nat) (o n : Nat) : List Nat := (l.drop o).take n

namespace Image

/-- IMAGE_LEN. -/
def len (h : List Nat) : Nat := le h 8 4

/-- SEG_COUNT. -/
def segs (h : List Nat) : Nat := le h 12 4

/-- The load ranges: destination and length, in index order. -/
def ranges (h : List Nat) : List (Nat × Nat) := (List.range 8).map (fun i => (le h (0x20 + 8 * i) 4, le h (0x24 + 8 * i) 4))

/-- Length of segment `k` (R433). -/
def segLen (h : List Nat) (k : Nat) : Nat := min 65536 (len h - 65536 * k)

/-- A range of addresses lies wholly within a memory that starts at `base` and has `size` bytes. -/
def within (base size a n : Nat) : Bool := decide (base ≤ a) && decide (a + n ≤ base + size)

/-- Instruction TCM, data TCM and system SRAM (R24). -/
def inItcm (a n : Nat) : Bool := within 0x10000000 0x80000 a n

/-- Data TCM. -/
def inDtcm (a n : Nat) : Bool := within 0x10080000 0x180000 a n

/-- System SRAM. -/
def inSram (a n : Nat) : Bool := within 0x20000000 0x400000 a n

/-- The bytes `seg` of a body, which start at body offset `off`, copied to the load ranges; `pos` is the body offset of the
first range (R433, R437). -/
def load (m : Mem) (seg : List Nat) (off : Nat) : List (Nat × Nat) → Nat → Mem
  | [], _ => m
  | (dest, n) :: l, pos =>
    let lo := max off pos
    let hi := min (off + seg.length) (pos + n)
    let m := if lo < hi then m.writeBytes (dest + (lo - pos)) ((sub seg (lo - off) (hi - lo)).map (BitVec.ofNat 8)) else m
    load m seg off l (pos + n)

/-- The part of the load ranges that holds the first `n` body bytes. -/
def filled : List (Nat × Nat) → Nat → List (Nat × Nat)
  | [], _ => []
  | (dest, len) :: l, n => (dest, min len n) :: filled l (n - len)

/-- Every byte of some ranges set to 0 (R439). -/
def clear (m : Mem) (l : List (Nat × Nat)) : Mem :=
  Sparse.keep (fun a => !l.any (fun r => decide (r.1 ≤ a) && decide (a < r.1 + r.2))) m

end Image

namespace Dev

/-- The attempt is discarded: the bytes of the SEG segments that it has copied are set to 0 (R439). -/
def bootDiscard (d : Dev) : Dev :=
  { d with mem := Image.clear d.mem (Image.filled (Image.ranges d.boot.hdr)
             (65536 * d.fld (pg .secboot) F.SECBOOT.BOOT_STATUS_SEG)),
           boot := { d.boot with hdr := [], col := [], verified := false, frag := none } }

/-- A failure's code and segment in BOOT_STATUS and LAST_FAIL, and its count (R439). -/
def bootFailed (d : Dev) (code seg : Nat) : Dev :=
  let p := pg .secboot
  let d := d.setFld p F.SECBOOT.BOOT_STATUS_CODE code
  (d.setReg p R.SECBOOT.LAST_FAIL (BitVec.ofNat 32 (code + 256 * (seg % 128)))).bump p R.SECBOOT.FAILURES

/-- STATE of the boot ROM (R436). -/
def bootState (d : Dev) : Nat := d.fld (pg .secboot) F.SECBOOT.BOOT_STATUS_STATE

/-- STATE changed. -/
def setBootState (d : Dev) (n : Nat) : Dev := d.setFld (pg .secboot) F.SECBOOT.BOOT_STATUS_STATE n

end Dev
end Sys2Proof.Machine
end

