-- ==== Sys2Proof/Machine/React.lean ====
section
/-!
DEFINITION. Raising a fault source and what follows (R397–R403, R406): the FAULT bit, the record, and the reaction of the
source's severity. Every block raises its sources through `raise`.
-/
namespace Sys2Proof.Machine
namespace Dev

/-! ## What the reactions do to the stages -/

/-- Entry of tile `n` into STOPPED: trim and CONSEC return to 0 (R124, R133). -/
def tileStopped (d : Dev) (n : Nat) : Dev :=
  let p := pg .tile n
  let d := (d.setFld p F.TILE.STATUS_TSTATE 1).setReg p R.TILE.CONSEC 0
  let d := (d.setReg p R.TILE.TRIM 0).setFlag p F.TILE.STATUS_TRIM_SAT false
  (d.outputsLow n).modTile n (fun t => { t with trimAcc := 0, trimSum := 0, trimN := 0, limited := false, dropped := false })

/-- Both outputs of tile `n` fall at once (R123): the edges before this clock have been made, the later ones never come. -/
def stopNow (d : Dev) (n : Nat) : Dev := (d.tileAdvance n (d.now * 64 - (d.tileS n).start)).outputsLow n

/-- Immediate stop of tile `n` into KILLED, with its cause (R123). A DISABLED tile is not touched. -/
def killTile (d : Dev) (n : Nat) (cause : TileS → TileS) : Dev :=
  if d.tstate n = 0 then d
  else ((d.stopNow n).setFld (pg .tile n) F.TILE.STATUS_TSTATE 4).modTile n cause

/-- A KILLED tile whose every cause has gone enters STOPPED (R124). -/
def unkillTile (d : Dev) (n : Nat) : Dev :=
  let t := d.tileS n
  if d.tstate n = 4 && !t.killSafe && !t.killTrip && !t.killOut then d.tileStopped n else d

/-- GSTATE of group `n` (R140). -/
def gstate (d : Dev) (n : Nat) : Nat := d.fld (pg .conv n) F.CONV.STATUS_GSTATE

/-- What the tiles bound to group `g` are asked for at their next period starts (R122, R137). -/
def wantTiles (d : Dev) (g : Nat) (w : Want) : Dev :=
  d.each (numbers 24 (fun n => d.flag (pg .tile n) F.TILE.STATUS_BOUND && d.fld (pg .tile n) F.TILE.STATUS_GROUP == g))
    (fun d n => d.modTile n (fun t => { t with want := w }))

/-- A running probe step of group `g` aborted (R160). -/
def abortProbe (d : Dev) (g : Nat) : Dev :=
  let p := pg .conv g
  if (d.convS g).probe.isSome then
    let d := ((d.event p F.CONV.EVENT_PROBE_ABORT).bump p R.CONV.PROBE_ABORTS).setReg p R.CONV.PROBE 0
    let d := (d.setFlag p F.CONV.STATUS_PROBING false).modConv g
      (fun c => { c with probe := none, addT := 0, shedT := 0, burstT := 0 })
    d.gaugeProbeEnd g true
  else d

/-- A circulation of group `g` ends as the group stops; the resistor discharge goes on (R192). -/
def endCirc (d : Dev) (g : Nat) : Dev :=
  if (d.convS g).circ then
    let d := if d.fld (pg .disch) F.DISCH.STATUS_DSTATE = 3 then d.setFld (pg .disch) F.DISCH.STATUS_DSTATE 1 else d
    d.modConv g (fun c => { c with circ := false })
  else d

/-- The clean-run timer of group `g` pauses as the group leaves RUNNING, BURST and SLEEP (R176). -/
def cleanPause (d : Dev) (g : Nat) : Dev :=
  d.modConv g (fun c => { c with
    cleanRun := c.cleanRun + (match c.cleanFrom with | some t => d.now - t | none => 0), cleanFrom := none })

/-- What ends with the running of group `g`: probe steps begun or collected, circulation, signals, histories, a decision due. -/
def endRun (d : Dev) (g : Nat) : Dev :=
  let d := ((d.abortProbe g).endCirc g).cleanPause g
  d.modConv g (fun c => { c with
    signals := [], iHist := [], vPrev := none, waking := false, begun := false, askRun := false, verdictDue := none,
    collected := c.collected.filter (fun x => match x with | .probe _ _ _ => false | _ => true) })

/-- Group `g` enters STOPPED: its tiles stop in order (R123, R141). -/
def enterStopped (d : Dev) (g : Nat) : Dev :=
  let p := pg .conv g
  let d := (d.endRun g).wantTiles g .stop
  (d.setFld p F.CONV.STATUS_GSTATE 1).setFlag p F.CONV.STATUS_LP_GRANTED false

/-- GO of group `n` cleared: the group stops in order and enters STOPPED, unless it is DISABLED or LATCHED (R141, R177). A
SAFE reaction has killed the tiles before. -/
def clearGo (d : Dev) (n : Nat) : Dev :=
  let d := d.setFlag (pg .conv n) F.CONV.GROUP_CTRL_GO false
  if d.gstate n ≤ 1 ∨ d.gstate n = 7 then d else d.enterStopped n

/-- The command to the DISCH ball. BALL follows it unless the readback is known to differ (R190). -/
def driveDisch (d : Dev) (on : Bool) : Dev :=
  let d := if d.active (srcNo .disch 0 B.DISCH.DISCH_OUTPUT) then d else d.setFlag (pg .disch) F.DISCH.STATUS_BALL on
  { d with disch := { d.disch with on := on } }

/-- DISCH switched on by a trigger, or the trigger recorded while a discharge is in progress (R188). `guard` marks the
SAFE and brown-out triggers, which keep DISCH on for at least 200 µs (R189): 80,000 clocks. -/
def dischOn (d : Dev) (trig : Nat) (guard byStart : Bool) : Dev :=
  let p := pg .disch
  let d := d.setFld p F.DISCH.STATUS_TRIGGER trig
  let d := if guard then { d with disch := { d.disch with guardUntil := d.now + 80000 } } else d
  let st := d.fld p F.DISCH.STATUS_DSTATE
  if d.disch.on && st != 5 then d
  else
    let d := (d.setFld p F.DISCH.STATUS_DSTATE 1).driveDisch true
    { d with disch := { d.disch with byStart := byStart, since := d.now } }

/-! ## Reactions by severity -/

/-- The quiet timer stands at 0 and counts from now while no SAFE or RESET source is active (R412). -/
def restartQuiet (d : Dev) : Dev :=
  { d with fc := { d.fc with quietSince := if d.state = 5 && !d.safeActive then some d.now else none } }

/-- The charge manager learns of a HALT or SAFE reaction (R249). -/
def chgReacted (d : Dev) : Dev := { d with chg := { d.chg with reacted := true } }

/-- HALT (R399): from RUN to READY with cause 0x06, GO of every group cleared; DISCH waits for the tiles (R188). -/
def haltReaction (d : Dev) : Dev :=
  let d := d.chgReacted
  if d.state = 4 then
    let d := d.transition 3 0x06
    let d := d.each (List.range 8) clearGo
    if d.flag (pg .disch) F.DISCH.DCFG_ON_HALT then
      { d with disch := { d.disch with armed := true, armedHalt := true } } else d
  else d

/-- An event or repeat put into the pending set and counted in RAISED (R406). -/
def record (d : Dev) (s sev : Nat) (data : Word) (isRepeat : Bool) : Dev :=
  let d := d.bump (pg .fault) R.FAULT.RAISED
  if d.fc.pend.any (fun e => e.src == s) then
    { d with fc := { d.fc with
        reps := (s, (d.fc.reps.lookup s).getD 0 + 1) :: d.fc.reps.filter (fun e => e.1 != s) } }
  else
    let ev : FaultEvent := ⟨s, sev, d.reg (pg .timebase) R.TIMEBASE.FOLIO, BitVec.ofNat 32 d.stampAngle, data,
      isRepeat⟩
    { d with fc := { d.fc with pend := d.fc.pend ++ [ev] } }

/-- What FAULT_CAUSE captures: the bit number plus 1 and the detail. -/
def causeWord (b detail : Nat) : Word := BitVec.ofNat 32 (b + 1 + 65536 * (detail % 65536))

/-- A download that a SAFE reaction ends: code 0x16, recorded as SB_FAIL (R438, R439, R455). The ROM rests until the next
BOOT. -/
def bootInterrupted (d : Dev) : Dev :=
  let st := d.bootState
  if d.state = 2 ∧ 2 ≤ st ∧ st ≤ 4 then
    let seg := d.fld (pg .secboot) F.SECBOOT.BOOT_STATUS_SEG
    let d := (d.bootDiscard.bootFailed 0x16 seg).setBootState 7
    let w := causeWord B.SECBOOT.SB_FAIL (0x16 + 256 * seg)
    let s := srcNo .secboot 0 B.SECBOOT.SB_FAIL
    (d.setFault .secboot 0 B.SECBOOT.SB_FAIL w).record s (d.sevOf s) w false
  else d

/-- SAFE (R401): stages stopped at once, DISCH on, GO cleared, SYS.STATE changed; for an event, not for a repeat, a Scaolo check is
due (R397, R416). -/
def safeReaction (d : Dev) (isRepeat : Bool) : Dev :=
  let d := d.each (List.range 24) (fun d n => d.killTile n (fun t => { t with killSafe := true }))
  let d := d.dischOn 3 true false
  let d := d.each (List.range 8) clearGo
  let d := d.bootInterrupted
  let d := if 2 ≤ d.state ∧ d.state ≤ 4 then d.transition 5 0x07 else d
  let d := if isRepeat then d else { d with fc := { d.fc with checks := d.fc.checks ++ [d.now] } }
  d.chgReacted.restartQuiet

/-- The addition of RESET (R402): a device reset is due, with FAULT_N asserted until its self-tests have passed (R405), unless the
recovery limit has been reached. -/
def resetReaction (d : Dev) : Dev :=
  if d.fld (pg .fault) F.FAULT.RECOV_STATUS_COUNT < d.fld (pg .fault) F.FAULT.RECOV_CFG_MAX then
    { d with fc := { d.fc with resetDue := true, resetAt := d.now, faultnLatch := true } }
  else
    (d.setFlag (pg .fault) F.FAULT.RECOV_STATUS_LATCHED true).setFlag (pg .fault) F.FAULT.STATUS_RECOV_LATCHED true

/-- The reaction of a severity and of those below it, for an event, or for a repeat at HALT and above (R399). In
HIBERNATE only FAULT_N reacts (R403). -/
def react (d : Dev) (sev : Nat) (isRepeat : Bool) : Dev :=
  let f := pg .fault
  if d.state = 6 then
    if 4 ≤ sev then { d with fc := { d.fc with faultnLatch := true } } else d
  else if isRepeat && sev < 3 then d
  else
    let d := if 1 ≤ sev then d.event f F.FAULT.EVENT_ALERT else d
    let d := if 2 ≤ sev then d.event f F.FAULT.EVENT_DERATE else d
    let d := if 3 ≤ sev then d.event f F.FAULT.EVENT_HALT else d
    let d := if sev = 3 then (d.bump f R.FAULT.HALTS).haltReaction else d
    let d := if 4 ≤ sev then ((d.event f F.FAULT.EVENT_SAFE).bump f R.FAULT.SAFES).safeReaction isRepeat else d
    if 5 ≤ sev then d.resetReaction else d

/-- An event or a repeat of a source: recorded, and acted on at its severity. -/
def actOn (d : Dev) (s : Nat) (data : Word) (isRepeat : Bool) : Dev :=
  let sev := d.sevOf s
  (d.record s sev data isRepeat).react sev isRepeat

/-- Bit `b` of instance `i` of a page kind raised. A level condition makes its source active, and is an event only if it
was not active before; an instant one is always an event (R397). -/
def raiseWith (d : Dev) (k : PageKind) (i b : Nat) (cause data : Word) (level : Bool) : Dev :=
  let s := srcNo k i b
  if !d.islandOn || (level && d.active s) then d
  else
    let d := if level then { d.setActive s true with fc := { d.fc with
        causes := (s, cause) :: d.fc.causes.filter (fun e => e.1 != s) } } else d
    (d.setFault k i b cause).actOn s data false

/-- A source whose condition is an instant (R397). -/
def raise (d : Dev) (k : PageKind) (i b : Nat) (detail : Nat := 0) : Dev :=
  d.raiseWith k i b (causeWord b detail) (causeWord b detail) false

/-- A source whose condition now holds. -/
def raiseLevel (d : Dev) (k : PageKind) (i b : Nat) (detail : Nat := 0) : Dev :=
  d.raiseWith k i b (causeWord b detail) (causeWord b detail) true

/-- A source whose condition holds no longer. The quiet timer starts when the last SAFE or RESET source ends (R412). -/
def lower (d : Dev) (k : PageKind) (i b : Nat) : Dev :=
  let s := srcNo k i b
  if d.active s then
    let d := d.setActive s false
    if d.state = 5 && d.fc.quietSince.isNone then d.restartQuiet else d
  else d

/-! ## Function TRIP of the comparators (R126, R134) -/

/-- The comparators of tile `n` that trip it: bit 0 CMPA, bit 1 CMPB. None acts in DISABLED. -/
def tripMask (d : Dev) (n : Nat) : Nat :=
  let on := fun c => d.tstate n != 0 && d.cmpFunc n c == 4 && d.flag (pg .tile n) (cmpFlag c)
  b2n (on .a) + 2 * b2n (on .b)

/-- What FAULT_CAUSE takes for TILE_TRIP is the present mask. On the clock on which TILE_TRIP was raised, the cause already captured
and recorded follows it (R32, R134). -/
def tripCause (d : Dev) (n : Nat) : Dev :=
  let s := srcNo .tile n B.TILE.TILE_TRIP
  let w := causeWord B.TILE.TILE_TRIP (d.tripMask n)
  let same := (d.tileS n).tripAt == some d.now
  let d := if same && d.fld (pg .tile n) F.TILE.FAULT_CAUSE_CODE == B.TILE.TILE_TRIP + 1 then
      d.setReg (pg .tile n) R.HDR.FAULT_CAUSE w else d
  { d with fc := { d.fc with
      causes := d.fc.causes.map (fun e => if e.1 = s then (s, w) else e),
      pend := if same then d.fc.pend.map (fun e => if e.src = s then { e with data := w } else e) else d.fc.pend } }

/-- Function TRIP by its level: immediate stop and TILE_TRIP while a comparator trips; with none left the source is lowered, and the
tile leaves KILLED once FAULT.TILE_TRIP is clear (R124, R126). -/
def tripLevel (d : Dev) (n : Nat) : Dev :=
  let s := srcNo .tile n B.TILE.TILE_TRIP
  let m := d.tripMask n
  if m ≠ 0 then
    if d.active s then d.tripCause n
    else ((d.killTile n (fun t => { t with killTrip := true, tripAt := some d.now })).raiseLevel .tile n B.TILE.TILE_TRIP m)
  else if d.active s then
    let d := d.lower .tile n B.TILE.TILE_TRIP
    if d.faultBit .tile n B.TILE.TILE_TRIP then d else (d.modTile n (fun t => { t with killTrip := false })).unkillTile n
  else d

/-- After a change of FUNC or of a key: a comparator not in operation shows no trip (R125, R126). -/
def cmpSettle (d : Dev) (n : Nat) : Dev :=
  let off := fun (d : Dev) (c : Cmp) => if d.cmpFunc n c = 0 then d.setFlag (pg .tile n) (cmpFlag c) false else d
  (off (off d .a) .b).tripLevel n

/-- A condition that holds or no longer holds. -/
def level (d : Dev) (k : PageKind) (i b : Nat) (holds : Bool) (detail : Nat := 0) : Dev :=
  if holds then d.raiseLevel k i b detail else d.lower k i b

/-- A FAULT bit cleared while its condition still holds sets again, as a repeat (R32, R397). -/
def refault (d : Dev) (k : PageKind) (i b : Nat) (cause : Word) : Dev :=
  (d.setFault k i b cause).actOn (srcNo k i b) cause true

end Dev
end Sys2Proof.Machine
end

