-- ==== Sys2Proof/Machine/Secure.lean ====
section
/-!
DEFINITION. Regions of the address map (R24), who reaches them (R25, R445, R447), the secure state (R27, R468), secure memory
(R469), and what a bus fault leaves (R34, R488).
-/
namespace Sys2Proof.Machine

/-- The regions of R24. -/
inductive Region
  | rom | itcm | dtcm | sram | frame | galley | pages | mram | otp
  deriving DecidableEq, Repr

/-- The region that holds `n` bytes from address `a`. -/
def regionOf (a n : Nat) : Option Region :=
  let within := fun (base size : Nat) => decide (base ≤ a) && decide (a + n ≤ base + size)
  if within 0 0x40000 then some .rom
  else if within 0x10000000 0x80000 then some .itcm
  else if within 0x10080000 0x180000 then some .dtcm
  else if within 0x20000000 0x400000 then some .sram
  else if within 0x30000000 0x200000 then some .frame
  else if within 0x38000000 0x20000 then some .galley
  else if within 0x40000000 0x100000 then some .pages
  else if within 0x50000000 0x40000 then some .mram
  else if within 0x60000000 0x1000 then some .otp
  else none

namespace Dev

/-- A host session is open (R444). -/
def sessionOpen (d : Dev) : Bool := d.flag (pg .secboot) F.SECBOOT.SESS_STATUS_OPEN

/-- Debug level (R447). -/
def debugLevel (d : Dev) : Nat := d.fld (pg .debug) F.DEBUG.DBG_STATUS_LEVEL

/-- The master is in the secure state (R27, R445, R447, R468). -/
def secure (d : Dev) : Master → Bool
  | .ctrl => (vget d.comp.core 0 {}).mach && d.flag (pg .sys) F.SYS.SEC_CFG_CTRL_SECURE
  | .svc => (vget d.comp.core 1 {}).mach && d.flag (pg .sys) F.SYS.SEC_CFG_SVC_SECURE
  | .host => d.sessionOpen
  | .debug => d.debugLevel == 2

/-- Secure memory: marked blocks of system SRAM, and all TCM while TCM_SEC is 1 (R469). -/
def memSecure (d : Dev) (a : Nat) : Bool :=
  match regionOf a 1 with
  | some .itcm => d.flag (pg .sys) F.SYS.SEC_CFG_TCM_SEC
  | some .dtcm => d.flag (pg .sys) F.SYS.SEC_CFG_TCM_SEC
  | some .sram =>
    let b := (a - 0x20000000) / 0x10000
    if b < 32 then bitAt (d.reg (pg .sys) R.SYS.SRAM_SEC_LO).toNat b
    else bitAt (d.reg (pg .sys) R.SYS.SRAM_SEC_HI).toNat (b - 32)
  | _ => false

/-- A bus fault counted and reported, with the class of the master (R488). Ring engines have class 5. -/
def busErr (d : Dev) (cls : Nat) : Dev :=
  (d.bump (pg .sys) R.SYS.BUS_ERRS).raise .sys 0 B.SYS.BUS_ERR cls

/-- An access by a master that ends with a bus fault. -/
def busFault (d : Dev) (m : Master) : Dev := { d.busErr m.cls with bus := .fault }

/-- A refused write marked: EVENT.REFUSED and REFUSED_AT (R30, R34). -/
def refuse (d : Dev) (m : Master) (p ofs : Nat) : Dev :=
  let n := d.fld p F.HDR.REFUSED_AT_COUNT
  (d.event p F.HDR.EVENT_REFUSED).setReg p R.HDR.REFUSED_AT
    (BitVec.ofNat 32 (ofs % 4096 + 4096 * m.cls + 65536 * min (n + 1) 0xFFFF))

/-- The blocks have supply and the masters can reach them: BOOT, READY, RUN and SAFE (R17). -/
def busLive (d : Dev) : Bool := decide (2 ≤ d.state) && decide (d.state ≤ 5)

/-- MBOX[4..7], which the host reaches outside a session (R445). -/
def openBox (p : Nat) : Bool := decide (0x74 ≤ p) && decide (p ≤ 0x77)

/-- Whether a master reaches `n` bytes from an address (R25, R445–R447); `wr` tells a write. The DEBUG page has an access port
of its own for debug. -/
def reaches (d : Dev) (m : Master) (a n : Nat) (wr : Bool) : Bool :=
  match regionOf a n with
  | none => false
  | some r =>
    if wr && (r == .rom || r == .mram || r == .otp) then false
    else match m, r with
      | .ctrl, _ => true
      | .svc, _ => true
      | .host, .pages => d.sessionOpen || openBox ((a - 0x40000000) / 0x1000)
      | .host, .rom => false
      | .host, .mram => false
      | .host, .otp => false
      | .host, _ => d.sessionOpen && d.flag (pg .secboot) F.SECBOOT.SESS_CFG_WINDOW
      | .debug, .pages => decide (1 ≤ d.debugLevel) || (a - 0x40000000) / 0x1000 == pg .debug
      | .debug, _ => decide (1 ≤ d.debugLevel)

end Dev
end Sys2Proof.Machine
end

