-- ==== Sys2Proof/Machine/Ring.lean ====
section
/-!
DEFINITION. Rings (R216–R222, R238, R239): records, indexes, policies, enable.
-/
namespace Sys2Proof.Machine

/-- Length in bytes of the record that begins with word `w` (R216, R305, R518, R522). -/
def recordLen (w : Nat) : Nat :=
  let t := bitsOf w 28 4
  if t = 0xF then bitsOf w 0 24
  else if t = 0x6 then 16
  else if t = 0x7 then 16 + 8 * ((bitsOf w 0 12 + 7) / 8)
  else if t = 0x8 then 16 + 8 * ((bitsOf w 0 11 + 7) / 8)
  else 8

namespace Dev

/-- Ring `n` beside its registers. -/
def ringS (d : Dev) (n : Nat) : RingS := vget d.ring n {}

/-- Ring `n` changed. -/
def modRing (d : Dev) (n : Nat) (f : RingS → RingS) : Dev := { d with ring := vmod d.ring n f }

/-- Storage size in bytes. -/
def ringSize (d : Dev) (n : Nat) : Nat := 2 ^ d.fld (pg .ring n) F.RING.CFG_SIZE_LOG

/-- Producer index. -/
def ringPi (d : Dev) (n : Nat) : Nat := (d.reg (pg .ring n) R.RING.PI).toNat

/-- Consumer index. -/
def ringCi (d : Dev) (n : Nat) : Nat := (d.reg (pg .ring n) R.RING.CI).toNat

/-- Address of the byte at PI. -/
def ringTail (d : Dev) (n : Nat) : Nat := (d.reg (pg .ring n) R.RING.BASE).toNat + d.ringPi n % d.ringSize n

/-- FILL (R217). -/
def ringFill (d : Dev) (n : Nat) : Nat := sub32 (d.ringPi n) (d.ringCi n)

/-- Whether a ring is enabled. -/
def ringOn (d : Dev) (n : Nat) : Bool := decide (n < 96) && d.flag (pg .ring n) F.HDR.CTRL_ENABLE

/-- PRODUCER. -/
def ringProducer (d : Dev) (n : Nat) : Nat := d.fld (pg .ring n) F.RING.CFG_PRODUCER

/-- The highest fill follows the fill. -/
def noteHighFill (d : Dev) (n : Nat) : Dev :=
  if d.fld (pg .ring n) F.RING.HIGH_FILL_BYTES < d.ringFill n then
    d.setReg (pg .ring n) R.RING.HIGH_FILL (BitVec.ofNat 32 (d.ringFill n))
  else d

/-- WATERMARK where the fill has reached the mark from below. -/
def noteWatermark (d : Dev) (n before : Nat) : Dev :=
  if d.fld (pg .ring n) F.RING.WATERMARK_BYTES ≠ 0 ∧ before < d.fld (pg .ring n) F.RING.WATERMARK_BYTES ∧
      d.fld (pg .ring n) F.RING.WATERMARK_BYTES ≤ d.ringFill n then d.event (pg .ring n) F.RING.EVENT_WATERMARK
  else d

/-- PI advanced: HIGH_FILL and the watermark (R220, R238). -/
def advancePi (d : Dev) (n bytes : Nat) : Dev :=
  ((d.setReg (pg .ring n) R.RING.PI (BitVec.ofNat 32 (add32 (d.ringPi n) bytes))).noteHighFill n).noteWatermark n (d.ringFill n)

/-- Bytes of padding that a record of `len` bytes needs before it (R218). -/
def padFor (d : Dev) (n len : Nat) : Nat :=
  let size := d.ringSize n
  let room := size - d.ringPi n % size
  if room < len then room else 0

/-- Free bytes of a ring. -/
def ringFree (d : Dev) (n : Nat) : Nat := d.ringSize n - d.ringFill n

/-- Whole records passed over, oldest first, until `need` bytes are free (R221). -/
def passOver (d : Dev) (n need : Nat) : Nat → Dev
  | 0 => d
  | fuel + 1 =>
    if need ≤ d.ringFree n ∨ d.ringFill n = 0 then d
    else
      let p := pg .ring n
      let a := (d.reg p R.RING.BASE).toNat + d.ringCi n % d.ringSize n
      let len := max 8 (recordLen (Mem.word d.mem a).toNat)
      passOver ((d.setReg p R.RING.CI (BitVec.ofNat 32 (add32 (d.ringCi n) len))).bump p R.RING.OVERWRITTEN) n need fuel

/-- The words of a record written into storage at PI, and PI advanced past it. -/
def storeRecord (d : Dev) (n : Nat) (ws : List Word) : Dev :=
  ({ d with mem := Mem.setWords d.mem (d.ringTail n) ws }.bump (pg .ring n) R.RING.RECORDS).advancePi n (4 * ws.length)

/-- Padding from PI to the end of storage, marked by its first word (R218). -/
def storePad (d : Dev) (n pad : Nat) : Dev :=
  if pad = 0 then d
  else { d with mem := Mem.setWord d.mem (d.ringTail n) (BitVec.ofNat 32 (0xF0000000 + pad)) }.advancePi n pad

/-- Ring engines are not secure: storage that is secure memory ends a write with a bus fault (R34, R222, R468, R469). -/
def ringBlocked (d : Dev) (n len : Nat) : Option Nat :=
  let a := (d.reg (pg .ring n) R.RING.BASE).toNat
  let size := d.ringSize n
  ((List.range (len / 4)).map (fun i => a + (d.ringPi n + 4 * i) % size)).find? d.memSecure

/-- One record written if it fits, by the ring's policy, with the padding it needs (R218, R221). The flag says whether it
was written. A bus fault discards the record (R222). -/
def fitRecord (d : Dev) (n : Nat) (ws : List Word) : Dev × Bool :=
  let p := pg .ring n
  let len := 4 * ws.length
  let pad := d.padFor n len
  let need := pad + len
  let oldest := d.flag p F.RING.CFG_POLICY
  if oldest = false ∧ d.ringFree n < need then
    let d := (d.setFlag p F.RING.STATUS_OVERFLOW true).event p F.RING.EVENT_OVERFLOW
    ((d.bump p R.RING.DROPPED).modRing n (fun r => { r with dropRun := 1 }), false)
  else if d.ringSize n < need then (d.bump p R.RING.DROPPED, false)
  else if let some a := d.ringBlocked n need then
    (((d.busErr 5).raise .ring n B.RING.RING_BUS a).bump p R.RING.DROPPED, false)
  else
    let d := if oldest then d.passOver n need (d.ringSize n / 8) else d
    ((d.storePad n pad).storeRecord n ws, true)

/-- Second word of a stamp: angle and folio bits 15:0 (R216). -/
def stampWord (folio angle : Nat) : Word := BitVec.ofNat 32 (angle % 65536 + 65536 * (folio % 65536))

/-- One more record dropped while the ring overflows. -/
def dropRecord (d : Dev) (n : Nat) : Dev :=
  (d.bump (pg .ring n) R.RING.DROPPED).modRing n (fun r => { r with dropRun := r.dropRun + 1 })

/-- The GAP record that is due (R221). The flag says whether records may follow. -/
def putGap (d : Dev) (n folio : Nat) : Dev × Bool :=
  if (d.ringS n).gapDue then
    let g := d.fitRecord n [BitVec.ofNat 32 (0x50000000 + min (d.ringS n).dropRun 0xFFFFFF), stampWord folio d.stampAngle]
    (if g.2 then g.1.modRing n (fun r => { r with gapDue := false, dropRun := 0 }) else g.1, g.2)
  else (d, true)

/-- The STAMP record of a new folio (R216). The flag says whether records may follow. -/
def putStamp (d : Dev) (n folio : Nat) : Dev × Bool :=
  if d.flag (pg .ring n) F.RING.CFG_STAMP && (d.ringS n).lastFolio != some (BitVec.ofNat 32 folio) then
    let g := d.fitRecord n [BitVec.ofNat 32 (0x40000000 + folio / 65536), stampWord folio d.stampAngle]
    (if g.2 then g.1.modRing n (fun r => { r with lastFolio := some (BitVec.ofNat 32 folio) }) else g.1, g.2)
  else (d, true)

/-- A record handed to the ring engine at the folio and angle of the moment (R218, R219, R221): a GAP and a STAMP go ahead where
they are due. The flag says whether the record was written. -/
def ringPut (d : Dev) (n : Nat) (ws : List Word) : Dev × Bool :=
  if !d.ringOn n then (d, false)
  else if d.flag (pg .ring n) F.RING.STATUS_OVERFLOW then (d.dropRecord n, false)
  else
    let folio := (d.reg (pg .timebase) R.TIMEBASE.FOLIO).toNat
    let g := d.putGap n folio
    if !g.2 then (g.1.dropRecord n, false)
    else
      let s := g.1.putStamp n folio
      if !s.2 then (s.1.dropRecord n, false) else s.1.fitRecord n ws

/-- A RING_MARK action (R94, R216, R219). -/
def ringMark (d : Dev) (n mark : Nat) : Dev :=
  if d.ringProducer n = 0xFF then d.bump (pg .ring n) R.RING.DROPPED
  else
    let folio := (d.reg (pg .timebase) R.TIMEBASE.FOLIO).toNat
    let r := d.ringPut n [BitVec.ofNat 32 (0x30000000 + mark % 16777216), stampWord folio d.stampAngle]
    if r.2 then r.1.bump (pg .ring n) R.RING.MARKS else r.1

/-! ## Index writes and enable (R219–R222) -/

/-- A write of PI by a core producer (R219). -/
def piWrite (d : Dev) (n v : Nat) : Dev :=
  let p := pg .ring n
  if d.ringProducer n ≠ 0xFF then d
  else if v % 8 = 0 ∧ sub32 v (d.ringPi n) ≤ d.ringFree n then d.advancePi n (sub32 v (d.ringPi n))
  else d.event p F.RING.EVENT_PI_REFUSED

/-- A write of CI by the consumer (R220). -/
def ciWrite (d : Dev) (n v : Nat) : Dev :=
  let p := pg .ring n
  if v % 8 = 0 ∧ sub32 v (d.ringCi n) ≤ d.ringFill n then d.setReg p R.RING.CI (BitVec.ofNat 32 v)
  else d.event p F.RING.EVENT_CI_REFUSED

/-- CMD.CLR_OVF (R221). -/
def clrOvf (d : Dev) (n : Nat) : Dev :=
  let p := pg .ring n
  if d.flag p F.RING.STATUS_OVERFLOW then
    (d.setFlag p F.RING.STATUS_OVERFLOW false).modRing n (fun r => { r with gapDue := true })
  else d

/-- Buffer of a binned channel: first byte and length (R210). -/
def binBuffer (d : Dev) (h : Nat) : Nat × Nat :=
  let p := pg .bin
  (0x30000000 + 256 * d.fld p (F.BIN.CH_BASE.at h),
   d.fld p (F.BIN.CH_DEPTH.at h) * 2 ^ (9 + d.fld p (F.BIN.CH_KSEL.at h)) * 4)

/-- Storage of a ring. -/
def ringStore (d : Dev) (n : Nat) : Nat × Nat := ((d.reg (pg .ring n) R.RING.BASE).toNat, d.ringSize n)

/-- Whether two byte ranges share a byte. -/
def bytesMeet (a b : Nat × Nat) : Bool := decide (a.1 < b.1 + b.2) && decide (b.1 < a.1 + a.2)

/-- Whether a byte range lies in another. -/
def bytesIn (a : Nat × Nat) (lo hi : Nat) : Bool := decide (lo ≤ a.1) && decide (a.1 + a.2 ≤ hi)

/-- Whether a range meets the storage of an enabled ring or the buffer of an enabled channel, but for ring `exR` and channel
`exB` (R213, R222). -/
def storageTaken (d : Dev) (a : Nat × Nat) (exR exB : Nat) : Bool :=
  (List.range 96).any (fun n => n != exR && d.ringOn n && bytesMeet a (d.ringStore n)) ||
  (List.range 64).any (fun h => h != exB && d.flag (pg .bin) (F.BIN.CH_EN.at h) && bytesMeet a (d.binBuffer h))

/-- The checks of R222. -/
def ringConfigOk (d : Dev) (n : Nat) : Bool :=
  let p := pg .ring n
  let lg := d.fld p F.RING.CFG_SIZE_LOG
  let st := d.ringStore n
  decide (6 ≤ lg) && decide (lg ≤ 20) && decide (st.1 % 2 ^ lg = 0) &&
  (bytesIn st 0x10080000 0x10200000 || bytesIn st 0x20000000 0x20400000 || bytesIn st 0x30000000 0x30200000) &&
  !d.storageTaken st n 64 && !(d.flag p F.RING.CFG_POLICY && d.ringProducer n == 0xFF)

/-- Whether an enabled producer, the ring's PRODUCER, names the ring (R222): a stream, the gauge's report, or a network
controller. -/
def ringInUse (d : Dev) (n : Nat) : Bool :=
  let mine := fun (p : Nat) => d.ringProducer n == p && d.flag p F.HDR.CTRL_ENABLE
  (List.range 16).any (fun c => (List.range 4).any (fun s =>
    d.flag (pg .adc c) (F.ADC.STREAM_EN.at s) && d.fld (pg .adc c) (F.ADC.STREAM_RING.at s) == n)) ||
  (mine (pg .gauge) && d.flag (pg .gauge) F.GAUGE.CFG_REP_EN && d.fld (pg .gauge) F.GAUGE.CFG_REP_RING == n) ||
  (List.range 2).any (fun c => mine (pg .can c) && (List.range 4).any (fun k =>
    bitsOf (d.reg (pg .can c) R.CAN.RX_RING).toNat (8 * k) 7 == n)) ||
  (mine (pg .t1s) && d.fld (pg .t1s) F.T1S.RX_RING_RING == n)

/-- ENABLE of a ring set, its key check passed, or cleared (R217, R222). The flag says whether a write of 0 was refused. -/
def ringEnable (d : Dev) (n : Nat) (on : Bool) : Dev × Bool :=
  let p := pg .ring n
  if on then
    if d.ringOn n then (d, false)
    else if d.ringConfigOk n then
      let d := (d.setReg p R.RING.PI 0).setReg p R.RING.CI 0
      let d := ((d.setReg p R.RING.HIGH_FILL 0).setFlag p F.RING.STATUS_OVERFLOW false).modRing n (fun _ => {})
      (d.setFld p F.HDR.CTRL_ENABLE 1, false)
    else (d.event p F.RING.EVENT_CFG_BAD, false)
  else if d.ringOn n && d.ringInUse n then (d, true)
  else (d.setFld p F.HDR.CTRL_ENABLE 0, false)

end Dev
end Sys2Proof.Machine
end

