-- ==== Sys2Proof/Machine/Bin.lean ====
section
/-!
DEFINITION. Angle binning (R208–R213, R236, R237).
-/
namespace Sys2Proof.Machine
namespace Dev

/-- Channel `h` beside its registers. -/
def binS (d : Dev) (h : Nat) : BinS := vget d.bin h {}

/-- Channel `h` changed. -/
def modBin (d : Dev) (h : Nat) (f : BinS → BinS) : Dev := { d with bin := vmod d.bin h f }

/-- The enabled channels. -/
def binsOn (d : Dev) : List Nat := numbers 64 (fun h => d.flag (pg .bin) (F.BIN.CH_EN.at h))

/-- k of a channel (R208). -/
def binK (d : Dev) (h : Nat) : Nat := 9 + d.fld (pg .bin) (F.BIN.CH_KSEL.at h)

/-- The bit of a channel in SUSPENDED. -/
def suspendBit (h : Nat) : Fld := ⟨R.BIN.SUSPENDED_LO + 4 * (h / 32), h % 32, 1⟩

/-- Suspension of a channel judged at the present rate (R212). -/
def binSuspend (d : Dev) (h : Nat) : Dev :=
  let p := pg .bin
  let fast := decide (1000000 * 65536 < (d.reg (pg .timebase) R.TIMEBASE.FREQ).toNat * 2 ^ d.binK h)
  let was := d.flag p (suspendBit h)
  if fast && !was then
    (((d.setFlag p (suspendBit h) true).event p F.BIN.EVENT_SUSPEND).bump p R.BIN.SUSPENSIONS).modBin h
      (fun s => { s with next := none, accs := [], done := none })
  else if !fast && was then d.setFlag p (suspendBit h) false
  else d

/-- The rate has changed: every enabled channel is judged. -/
def binRate (d : Dev) : Dev := d.each d.binsOn binSuspend

/-- Angle 0 of a folio: an enabled channel that is not running begins (R212). -/
def binBoundary (d : Dev) : Dev :=
  let p := pg .bin
  let f := d.reg (pg .timebase) R.TIMEBASE.FOLIO
  if d.flag p F.HDR.CTRL_ENABLE then
    d.each d.binsOn (fun d h =>
      if (d.binS h).next.isNone ∧ !d.flag p (suspendBit h) then
        (d.setReg p (R.BIN.CH_FROM + 4 * h) f).modBin h (fun s => { s with
          next := some (f, 0), accs := [], done := none, openAt := d.now })
      else d.modBin h (fun s => { s with openAt := d.now }))
  else d

/-- Count `a` issued: the channels whose bin it opens note the clock (R209). -/
def binEdge (d : Dev) (a : Nat) : Dev :=
  d.each (d.binsOn.filter (fun h => a % 2 ^ (16 - d.binK h) == 0)) (fun d h => d.modBin h (fun s => { s with openAt := d.now }))

/-- CTRL.ENABLE of the page changed: no channel bins while it is 0 (R236). -/
def binEnable (d : Dev) (on : Bool) : Dev :=
  let d := d.setFlag (pg .bin) F.HDR.CTRL_ENABLE on
  if on then d else d.each d.binsOn (fun d h => d.modBin h (fun s => { s with next := none, accs := [], done := none }))

/-- The timebase stops: open bins are discarded (R212). -/
def binStopped (d : Dev) : Dev :=
  let open' := d.binsOn.filter (fun h => (d.binS h).next.isSome)
  let d := if open'.isEmpty then d else d.bump (pg .bin) R.BIN.DISCARDED
  d.each open' (fun d h => d.modBin h (fun s => { s with next := none, accs := [], done := none }))

/-- A result added to the bin it falls in. -/
def addToBin (f : Word) (b : Nat) (v : Int) (sat lp : Bool) : List BinAcc → List BinAcc
  | [] => [{ folio := f, idx := b, sum := v, n := 1, sat := sat, lp := lp }]
  | a :: l =>
    if a.folio = f ∧ a.idx = b then { a with sum := a.sum + v, n := a.n + 1, sat := a.sat || sat, lp := a.lp || lp } :: l
    else a :: addToBin f b v sat lp l

/-- A result of input `i` with its stamp, which the channels that bin the input accumulate (R208). -/
def binResult (d : Dev) (i : Nat) (folio : Word) (angle : Nat) (v : Int) (sat lp : Bool) : Dev :=
  d.each (d.binsOn.filter (fun h => d.fld (pg .bin) (F.BIN.CH_IN.at h) == i && (d.binS h).next.isSome)) (fun d h =>
    d.modBin h (fun s => { s with accs := addToBin folio (angle / 2 ^ (16 - d.binK h)) v sat lp s.accs }))

/-- Whether a channel has written the last bin of folio `f`, or of one after it. -/
def binDone (d : Dev) (f : Word) (h : Nat) : Bool :=
  match (d.binS h).done with
  | some g => decide (sub32 g.toNat f.toNat < 2147483648)
  | none => false

/-- The folio has been completed by every enabled channel (R211). -/
def binComplete (d : Dev) (f : Word) : Dev :=
  let p := pg .bin
  if d.binsOn.all (d.binDone f) then ((d.setReg p R.BIN.COMPLETE_FOLIO f).event p F.BIN.EVENT_CYCLE_DONE).bump p R.BIN.CYCLES else d

/-- The word of a closed bin (R209). -/
def binWord (a : Option BinAcc) (last : Int) (folio : Word) : Int × Word :=
  let tag := 268435456 * (folio.toNat % 16)
  match a with
  | some a =>
    let v := divRound a.sum a.n
    (v, BitVec.ofNat 32 (ofSigned 16 v + 65536 * min a.n 255 + 33554432 * b2n a.sat + 67108864 * b2n a.lp + tag))
  | none => (last, BitVec.ofNat 32 (ofSigned 16 last + 16777216 + tag))

/-- The bin of channel `h` that closes next is closed, 1 µs after the next one has opened (R209–R211). -/
def binClose (d : Dev) (h : Nat) : Dev :=
  let p := pg .bin
  match (d.binS h).next with
  | none => d
  | some (f, b) =>
    let k := d.binK h
    let now := d.reg (pg .timebase) R.TIMEBASE.FOLIO
    let here := d.angle / 2 ^ (16 - k)
    let early := if b + 1 = 2 ^ k then decide (now.toNat = add32 f.toNat 1) && here == 0 else now == f && here == b + 1
    if (now = f ∧ here ≤ b) ∨ (early ∧ d.now < (d.binS h).openAt + 400) then d
    else
      let acc := (d.binS h).accs.find? (fun a => a.folio == f && a.idx == b)
      let w := binWord acc (d.binS h).last f
      let a := (d.binBuffer h).1 + ((f.toNat % d.fld p (F.BIN.CH_DEPTH.at h)) * 2 ^ k + b) * 4
      let d := if acc.isNone then d.bump p R.BIN.EMPTY_BINS else d
      let lastBin := decide (b + 1 = 2 ^ k)
      let d := d.modBin h (fun s => { s with
        next := some (if lastBin then (now, 0) else (f, b + 1)),
        accs := s.accs.filter (fun a => !(a.folio == f && a.idx == b)), last := w.1,
        done := if lastBin then some f else s.done })
      let d := { d with mem := Mem.setWord d.mem a w.2 }
      if lastBin then d.binComplete f else d

/-- The word that a channel takes: a K beyond 4 stays as it was (R54). -/
def binWritten (d : Dev) (h : Nat) (w : Word) : Nat :=
  let v := w.toNat &&& 0x9FFF773F
  if bitsOf w.toNat 8 3 ≤ 4 then v else setBits v 8 3 (bitsOf (d.reg (pg .bin) (F.BIN.CH_EN.at h).ofs).toNat 8 3)

/-- A channel switched off; it keeps its last written MEAN. A folio that it alone had not written is complete without it (R209,
R211). -/
def binOff (d : Dev) (h : Nat) : Dev :=
  let e := ((d.setFlag (pg .bin) (F.BIN.CH_EN.at h) false).setFlag (pg .bin) (suspendBit h) false).modBin h
    (fun s => { last := s.last })
  let rest := e.binsOn.filterMap (fun x => (e.binS x).done)
  match rest.find? (fun f => e.binsOn.all (e.binDone f)) with
  | some f => if d.binDone f h then e else e.binComplete f
  | none => e

/-- A channel switched on, where its depth and its buffer serve. -/
def binOn (d : Dev) (h depth : Nat) : Dev :=
  let p := pg .bin
  let buf := d.binBuffer h
  if depth < 2 ∨ !bytesIn buf 0x30000000 0x30200000 ∨ d.storageTaken buf 96 h then d.event p F.BIN.EVENT_CFG_BAD
  else ((d.setFlag p (F.BIN.CH_EN.at h) true).modBin h (fun s => { last := s.last })).binSuspend h

/-- The channel word of a write, judged under R213 and R34. `none`: the write would change a fixed field while EN = 1. -/
def binChannelWrite (d : Dev) (h : Nat) (w : Word) : Option Dev :=
  let p := pg .bin
  let f := F.BIN.CH_EN.at h
  let old := (d.reg p f.ofs).toNat
  let v := d.binWritten h w
  let d := if bitsOf w.toNat 8 3 ≤ 4 then d else d.eventRange p
  if bitAt old 31 then
    if bitsOf v 0 31 ≠ bitsOf old 0 31 then none
    else if bitAt v 31 then some d
    else some (d.binOff h)
  else
    let d := d.setReg p f.ofs (BitVec.ofNat 32 (bitsOf v 0 31))
    if bitAt v 31 then some (d.binOn h (bitsOf v 12 3)) else some d

end Dev
end Sys2Proof.Machine
end

