-- ==== Sys2Proof/Machine/Tile.lean ====
section
/-!
DEFINITION. Stage tiles (R107–R136): the layout of a carrier period, its end, cycle-limited periods, the trim, the delay-line
calibration. Positions are edge steps from the start of the present period.
-/
namespace Sys2Proof.Machine

namespace Dev

/-- The checks under which CTRL.ENABLE of a tile is refused with CFG_BAD (R121). -/
def tileConfigBad (d : Dev) (n : Nat) : Bool :=
  let p := pg .tile n
  let pmin := d.fld p F.TILE.PER_MIN_PERIOD
  let valleyCmp := d.cmpSet n .a == 3 || d.cmpSet n .b == 3
  decide (d.fld p F.TILE.PER_MAX_PERIOD < pmin) ||
  decide (pmin < d.deadTime n .h + d.deadTime n .l + 128 * d.fld p F.TILE.MIN_PULSE_MIN) ||
  (valleyCmp != (d.tileMode n == 4))

/-- ENABLE of a tile set (its key checks passed): STOPPED, or CFG_BAD (R121, R122). -/
def tileEnable (d : Dev) (n : Nat) (on : Bool) : Dev :=
  let p := pg .tile n
  if on then
    if d.flag p F.HDR.CTRL_ENABLE then d
    else if d.tileConfigBad n then d.event p F.TILE.EVENT_CFG_BAD
    else ((d.setFld p F.HDR.CTRL_ENABLE 1).tileStopped n).tripLevel n
  else
    if d.flag p F.HDR.CTRL_ENABLE then
      (((d.setFld p F.HDR.CTRL_ENABLE 0).tileStopped n).setFld p F.TILE.STATUS_TSTATE 0).tripLevel n
    else d

/-! ## Period start -/

/-- The on-time or the threshold with the trim added, clamped to its range (R132). -/
def addTrim (v : Nat) (trim : Int) (top : Nat) : Nat := (clampI (v + trim) 0 top).toNat

/-- The trim in use (R132). -/
def trimNow (d : Dev) (n : Nat) : Int := d.sfld (pg .tile n) F.TILE.TRIM_VALUE

/-- The end of a period in SWITCHING: PERIODS, cycle limiting and CONSEC (R130), and the trim for the next (R132, R133). -/
def endPeriod (d : Dev) (n : Nat) : Dev :=
  let p := pg .tile n
  let t := d.tileS n
  let d := d.bump64 p R.TILE.PERIODS 1
  let d := if t.limited then ((d.bump p R.TILE.CYCLIM).bump p R.TILE.CONSEC).event p F.TILE.EVENT_CYCLIM
           else d.setReg p R.TILE.CONSEC 0
  let d := if d.flag p F.TILE.TRIM_CFG_EN then
      if t.limited || t.dropped || t.hold || t.trimN == 0 then d.setFlag p F.TILE.TRIM_FROZEN true
      else
        let lim : Int := d.fld p F.TILE.TRIM_CFG_MAX * 65536
        let mean := divRound t.trimSum t.trimN
        let acc := clampI (t.trimAcc + (t.share - mean) * bitsOf t.live.gain.toNat 0 16) (-lim) lim
        let sat := acc = lim ∨ acc = -lim
        let d := d.setReg p R.TILE.TRIM (BitVec.ofNat 32 (ofSigned 16 (asr acc 16) + (if sat then 65536 else 0)))
        let d := d.setFlag p F.TILE.STATUS_TRIM_SAT sat
        let d := if sat then d.event p F.TILE.EVENT_TRIM_SAT else d
        d.modTile n (fun t => { t with trimAcc := acc })
    else d
  if t.limited then
    if d.flag p F.TILE.STATUS_BOUND then
      d.modConv (d.fld p F.TILE.STATUS_GROUP) (fun c => { c with
        limitedSeen := true, sinceLimited := 0, cleanRun := 0, cleanFrom := c.cleanFrom.map (fun _ => d.now) })
    else d
  else d

/-- The period taken into use: the group's value held to PER_MIN–PER_MAX (R113). -/
def takePeriod (d : Dev) (n : Nat) : Nat × Dev :=
  let p := pg .tile n
  let lo := d.fld p F.TILE.PER_MIN_PERIOD
  let hi := d.fld p F.TILE.PER_MAX_PERIOD
  let v := (d.tileS n).gPer
  let c := clampN v lo hi
  if c = v then (v, d) else (c, (d.bump p R.TILE.PER_CLAMPS).event p F.TILE.EVENT_PER_CLAMP)

/-- The phase change made in this period: its signed part and the phase reached (R117). -/
def takePhase (per pmin old new : Nat) : Int × Nat :=
  if per = 0 then (0, new)
  else
    let raw := (((new : Int) - old) % (per : Int))
    let delta := if 2 * raw ≤ (per : Int) then raw else raw - per
    if (per : Int) + delta < pmin then
      let part := (pmin : Int) - per
      (part, (((old : Int) + part) % (per : Int)).toNat)
    else (delta, new % per)

/-- The thresholds taken into use: from the register or the group, with the trim for PEAK_LIMIT (R112, R132). -/
def takeDac (d : Dev) (n : Nat) (c : Cmp) : Nat :=
  let p := pg .tile n
  let group := d.flag p (match c with | .a => F.TILE.CMPA_CFG_DAC_SRC | .b => F.TILE.CMPB_CFG_DAC_SRC)
  let base := if group then (d.tileS n).gDac
    else d.fld p (match c with | .a => F.TILE.CMPA_DAC_VALUE | .b => F.TILE.CMPB_DAC_VALUE)
  if d.flag p F.TILE.TRIM_CFG_EN && d.flag p F.TILE.TRIM_CFG_TARGET && d.cmpFunc n c == 1 then addTrim base (d.trimNow n) 4095
  else base

/-- Values of R112 taken into use, and the period laid out (R114–R119). `fresh` marks the first period after an entry into
SWITCHING, which begins at its slot (R117, R124). In VALLEY mode the period's end is not known yet: PWML is laid out to PER_MAX,
the longest it can be. -/
def layPeriod (d : Dev) (n : Nat) (fresh : Bool) : Dev :=
  let p := pg .tile n
  let t := d.tileS n
  let d := d.takeTable n
  let (per, d) := d.takePeriod n
  let mode := d.tileMode n
  let pmin := d.fld p F.TILE.PER_MIN_PERIOD
  let ph := if fresh then (0, if per = 0 then 0 else t.gPhase % per)
    else takePhase per pmin (d.fld p F.TILE.LIVE_PHASE_VALUE) t.gPhase
  let len := if mode = 4 then d.fld p F.TILE.PER_MAX_PERIOD else ((per : Int) + ph.1).toNat
  let top := if mode = 4 then per else len
  let on := if d.flag p F.TILE.TRIM_CFG_EN && !d.flag p F.TILE.TRIM_CFG_TARGET then addTrim t.gOn (d.trimNow n) per else t.gOn
  let dacA := d.takeDac n .a
  let dacB := d.takeDac n .b
  let nom := nominal mode len (min on top)
  let lay := fun (o : Out) (s l : List Interval) =>
    if d.outUsed n o then layOutput (d.deadTime n o) (highAtEnd t.lastLen s) l else ([], [])
  let h := lay .h t.hSched nom.1
  let l := lay .l t.lSched nom.2
  let d := d.setFld p F.TILE.LIVE_PER_VALUE per
  let d := d.setFld p F.TILE.LIVE_ON_VALUE t.gOn
  let d := d.setFld p F.TILE.LIVE_PHASE_VALUE ph.2
  let d := d.setReg p R.TILE.LIVE_DAC (BitVec.ofNat 32 (dacA + 65536 * dacB))
  let lv : TileLive := { valley := d.reg p R.TILE.VALLEY_CFG, cfgA := d.reg p R.TILE.CMPA_CFG,
                         cfgB := d.reg p R.TILE.CMPB_CFG, slopeA := d.reg p R.TILE.CMPA_SLOPE,
                         slopeB := d.reg p R.TILE.CMPB_SLOPE, gain := d.reg p R.TILE.TRIM_GAIN }
  d.modTile n (fun t => { t with
    live := lv, swapLive := t.swapOut, len := len, hSched := h.1, lSched := l.1, hTodo := h.2, lTodo := l.2, limited := false,
    dropped := false, valleys := 0, valleyAt := none, trimSum := 0, trimN := 0 })

/-- CONSEC has reached NCYC: the group is signalled and CONSEC returns to 0 (R131, R174). A tile that has not sent the signal
by its next period start sends it there. -/
def ncycReached (d : Dev) (n : Nat) : Dev :=
  let p := pg .tile n
  if d.fld p F.TILE.NCYC_NCYC ≤ (d.reg p R.TILE.CONSEC).toNat then
    let d := (d.event p F.TILE.EVENT_NCYC_REACHED).setReg p R.TILE.CONSEC 0
    if d.flag p F.TILE.STATUS_BOUND then
      let g := d.fld p F.TILE.STATUS_GROUP
      let slot := (numbers 12 (fun s =>
        d.flag (pg .conv g) (F.CONV.BIND_VALID.at s) && d.fld (pg .conv g) (F.CONV.BIND_TILE.at s) == n)).headD 0
      if 2 ≤ d.gstate g ∧ d.gstate g ≤ 4 then
        d.modConv g (fun c => { c with signals := c.signals ++ [slot] })
      else d
    else d
  else d

/-- Length of the present period of tile `n`: as laid out; in VALLEY mode DELAY clocks after the detection that ends it, not
before PER_MIN and at PER_MAX at the latest (R114, R116). -/
def endedLen (d : Dev) (n : Nat) : Nat :=
  let p := pg .tile n
  let t := d.tileS n
  if d.tileMode n = 4 then
    let top := d.fld p F.TILE.PER_MAX_PERIOD
    match t.valleyAt with
    | some v => min top (max (d.fld p F.TILE.PER_MIN_PERIOD) (v + 64 * bitsOf t.live.valley.toNat 0 10))
    | none => top
  else t.len

/-- The present period of a tile in SWITCHING ends: the edges up to its end, a valley missed, the counts of R130, the trim, and the
start of the next (R108). -/
def finishPeriod (d : Dev) (n : Nat) : Dev :=
  let p := pg .tile n
  let len := d.endedLen n
  let valley := d.tileMode n == 4
  let d := d.tileAdvance n (if valley then len - 1 else len)
  let d := if valley && (d.tileS n).valleyAt.isNone then (d.bump p R.TILE.VALLEY_MISS).event p F.TILE.EVENT_VALLEY_MISS else d
  ((d.ncycReached n).endPeriod n).modTile n (fun t => { t with start := t.start + len, lastLen := len })

/-- Where the first period of a tile begins: the first start of its slot at or after the group's update point, F plus the tile's
phase (R108, R150). -/
def entryStart (d : Dev) (n : Nat) : Nat :=
  let t := d.tileS n
  let c := d.convS (d.fld (pg .tile n) F.TILE.STATUS_GROUP)
  let s := c.frame + t.gPhase
  if s < c.uAt then s + c.per else s

/-- Carrier-period start of tile `n` (R112, R122, R123): the period before ends, an orderly stop or a release takes effect, and a
period in SWITCHING is laid out. An NCYC signal of the period that ends comes before a stop zeroes CONSEC (R131). -/
def tilePeriodStart (d : Dev) (n : Nat) : Dev :=
  let p := pg .tile n
  let st := d.tstate n
  if st = 0 ∨ st = 4 then d
  else
    let d := if st = 3 then d.finishPeriod n else d
    match (d.tileS n).want with
    | .stop => if st = 1 then d else (d.ncycReached n).tileStopped n
    | .hold => (d.outputsLow n).setFld p F.TILE.STATUS_TSTATE 2
    | .run =>
      if d.state = 4 then
        if st = 3 then d.layPeriod n false
        else
          let s := d.entryStart n
          ((d.setFld p F.TILE.STATUS_TSTATE 3).modTile n (fun t => { t.low with start := s, lastLen := 0 })).layPeriod n true
      else (d.ncycReached n).tileStopped n

/-! ## Calibration -/

/-- A delay-line measurement starts (R110). -/
def calStart (d : Dev) (n : Nat) : Dev := d.modTile n (fun t => { t with calBusy := true })

/-- A delay-line measurement has given `cpc`, in 1/16 cell (R109, R110). -/
def calDone (d : Dev) (n cpc : Nat) : Dev :=
  let p := pg .tile n
  let t := d.tileS n
  if !t.calBusy then d
  else
    let near := match t.lastCpc with
      | some l => decide (cpc ≤ l + 64) && decide (l ≤ cpc + 64)
      | none => true
    let ok := decide (1152 ≤ cpc) && decide (cpc ≤ 1984) && near
    let d := (d.bump p R.TILE.CAL_RUNS).event p F.TILE.EVENT_CAL_DONE
    let d := d.modTile n (fun t => { t with calBusy := false })
    if ok then
      let d := d.setFlag p F.TILE.CAL_STATUS_LAST_FAILED false
      let d := (d.setFlag p F.TILE.CAL_STATUS_VALID true).setFlag p F.TILE.STATUS_CAL_VALID true
      let d := d.modTile n (fun t => { t with pendCpc := some cpc, lastCpc := some cpc })
      if d.tstate n = 3 then d else d.takeTable n
    else (d.setFlag p F.TILE.CAL_STATUS_LAST_FAILED true).raise .tile n B.TILE.TILE_CAL cpc

/-- The readback of the gate outputs (R120): `detail` 1 PWMH, 2 PWML, 3 both high, 0 the levels agree again. -/
def outputReadback (d : Dev) (n detail : Nat) : Dev :=
  let p := pg .tile n
  if detail = 0 then
    let d := d.lower .tile n B.TILE.TILE_OUTPUT
    if d.faultBit .tile n B.TILE.TILE_OUTPUT then d
    else (d.modTile n (fun t => { t with killOut := false })).unkillTile n
  else
    let d := d.killTile n (fun t => { t with killOut := true })
    (d.bump p R.TILE.OUT_ERRS).raiseLevel .tile n B.TILE.TILE_OUTPUT detail

/-- FAULT bits of tile `n` have been cleared: causes of KILLED that they held are gone (R124). -/
def tileFaultCleared (d : Dev) (n : Nat) : Dev :=
  let trip := d.faultBit .tile n B.TILE.TILE_TRIP || d.active (srcNo .tile n B.TILE.TILE_TRIP)
  let out := d.faultBit .tile n B.TILE.TILE_OUTPUT || d.active (srcNo .tile n B.TILE.TILE_OUTPUT)
  (d.modTile n (fun t => { t with killTrip := t.killTrip && trip, killOut := t.killOut && out })).unkillTile n

end Dev
end Sys2Proof.Machine
end

