-- ==== Sys2Proof/Machine/Conv.lean ====
section
/-!
DEFINITION. Converter groups (R137–R173) and the protection at the power stage (R174–R187, R196, R197): binding, start,
update point, law engine, reference, load add and shed, burst, hiccup, residuals and battery loss. Times are edge steps;
the present reference is kept in units of 1/25,600,000 of a Q15.16 step.
-/
namespace Sys2Proof.Machine

/-- Edge steps in a millisecond, and the scale of `ConvS.p` (R107, R157). -/
def stepsPerMs : Nat := 25600000

/-- Edge steps in a microsecond. -/
def stepsPerUs : Nat := 25600

/-! ## The sine table (R159) -/

/-- Sum of the sine series from its term `t` of order `k`, all scaled by 2^60. -/
def sinSeries (x t : Nat) : Nat → Nat → Int
  | 0, _ => 0
  | fuel + 1, k => (t : Int) - sinSeries x (t * x / 2 ^ 60 * x / 2 ^ 60 / ((k + 1) * (k + 2))) fuel (k + 2)

/-- round(32,768 × sin(2π × n / 1,024)) for n = 0 to 256. -/
def sinQuarter (n : Nat) : Int :=
  let x := n * 3622009729038561421 / 512
  (sinSeries x x 12 1 * 32768 + 2 ^ 59) / 2 ^ 60

/-- Point `n` of the table of 1,024 points. -/
def sinPoint (n : Nat) : Int :=
  let m := n % 1024
  if m ≤ 256 then sinQuarter m
  else if m ≤ 512 then sinQuarter (512 - m)
  else if m ≤ 768 then -sinQuarter (m - 512)
  else -sinQuarter (1024 - m)

/-- The shape for an angle in ac, with 1.0 as 32,768 (R159). -/
def shapeAt (mode phi : Nat) : Int :=
  if mode = 0 then 32768
  else
    let i := (phi / 64) % 1024
    let f : Int := phi % 64
    let s := sinPoint i + ((sinPoint (i + 1) - sinPoint i) * f + 32) / 64
    if mode = 1 then (s.natAbs : Int) else s

/-- Mean of the results of a group period, rounded to the nearest code; none without a result (R161, R207). -/
def MeanAcc.mean (m : MeanAcc) : Option Int := if m.n = 0 then none else some (divRound m.sum m.n)

/-- A result added to a mean. -/
def MeanAcc.add (m : MeanAcc) (v : Int) : MeanAcc := ⟨m.sum + v, m.n + 1⟩

namespace Dev

/-! ## Binding and phases (R137, R138) -/

/-- Binding slots in use. -/
def boundSlots (d : Dev) (g : Nat) : List Nat := numbers 12 (fun s => d.flag (pg .conv g) (F.CONV.BIND_VALID.at s))

/-- Tile of a slot. -/
def slotTile (d : Dev) (g s : Nat) : Nat := d.fld (pg .conv g) (F.CONV.BIND_TILE.at s)

/-- Role of a slot: 0 PHASE, 1 LINE, 2 PRI_A, 3 PRI_B, 4 SEC_A, 5 SEC_B. -/
def slotRole (d : Dev) (g s : Nat) : Nat := d.fld (pg .conv g) (F.CONV.BIND_ROLE.at s)

/-- Phase number of a slot. -/
def slotPhase (d : Dev) (g s : Nat) : Nat := d.fld (pg .conv g) (F.CONV.BIND_PHASE_NO.at s)

/-- TOPO: 0 SINGLE, 1 BRIDGE, 2 LINE. -/
def topo (d : Dev) (g : Nat) : Nat := d.fld (pg .conv g) F.CONV.TOPOLOGY_TOPO

/-- Whether the group has three channels (R153). -/
def threeLines (d : Dev) (g : Nat) : Bool := d.fld (pg .conv g) F.CONV.TOPOLOGY_LINES == 1

/-- The slot that stands for each phase bound: PHASE, or in BRIDGE the first PRI_A of its phase number, in slot order. -/
def heads (d : Dev) (g : Nat) : List Nat :=
  let slots := d.boundSlots g
  if d.topo g = 0 then slots.filter (fun s => d.slotRole g s == 0)
  else if d.topo g = 1 then
    slots.filter (fun s => d.slotRole g s == 2 &&
      slots.all (fun t => !(decide (t < s) && d.slotRole g t == 2 && d.slotPhase g t == d.slotPhase g s)))
  else []

/-- The slots of the phase that slot `h` stands for. -/
def phaseSlots (d : Dev) (g h : Nat) : List Nat :=
  if d.topo g = 1 then (d.boundSlots g).filter (fun s => d.slotPhase g s == d.slotPhase g h) else [h]

/-- The LINE slots. -/
def lineSlots (d : Dev) (g : Nat) : List Nat := (d.boundSlots g).filter (fun s => d.slotRole g s == 1)

/-- A mask over slots. -/
def slotMask (l : List Nat) : Nat := (List.range 12).foldl (fun a s => if l.contains s then a + 2 ^ s else a) 0

/-- Whether the phase of slot `h` is out by failure (R182). -/
def failedHead (d : Dev) (g h : Nat) : Bool := bitAt (d.fld (pg .conv g) F.CONV.PROT_STATUS_FAILED) h

/-- The phases that are not out by failure (R159). -/
def availHeads (d : Dev) (g : Nat) : List Nat := (d.heads g).filter (fun h => !d.failedHead g h)

/-- The active phases in slot order (R143). -/
def activeHeads (d : Dev) (g : Nat) : List Nat :=
  (d.heads g).filter (fun h => bitAt (d.fld (pg .conv g) F.CONV.ACTIVE_MASK) h)

/-- Binding slot of the lead (R144). -/
def leadSlot (d : Dev) (g : Nat) : Nat := d.fld (pg .conv g) F.CONV.ACTIVE_LEAD

/-- ACTIVE set for a list of active phases and a lead. -/
def setActiveHeads (d : Dev) (g : Nat) (hs : List Nat) (lead : Nat) : Dev :=
  d.setReg (pg .conv g) R.CONV.ACTIVE
    (BitVec.ofNat 32 (slotMask (hs.flatMap (d.phaseSlots g)) + 65536 * hs.length + 16777216 * lead))

/-- Position of an element in a list; the list's length where it is not there. -/
def rankOf (l : List Nat) (x : Nat) : Nat := (l.takeWhile (fun y => y != x)).length

/-- Channel of an active phase: its rank modulo 3 among the bound phases (R153). -/
def channelOf (d : Dev) (g h : Nat) : Nat := if d.threeLines g then rankOf (d.heads g) h % 3 else 0

/-- The channels of the group. -/
def channels (d : Dev) (g : Nat) : List Nat := if d.threeLines g then [0, 1, 2] else [0]

/-- The active phases of a channel. -/
def channelHeads (d : Dev) (g c : Nat) : List Nat := (d.activeHeads g).filter (fun h => d.channelOf g h == c)

/-- Newest delivered result of a fast input (R207). -/
def newest (d : Dev) (i : Nat) : Int := (vget d.af i {}).val

/-- Whether angle window `i` is open (R99, R100). -/
def winOpen (d : Dev) (i : Nat) : Bool := bitAt (d.fld (pg .galley) F.GALLEY.WIN_STATE_WIN) i

/-- Whether the group needs a valid angle (R141). -/
def gridDependent (d : Dev) (g : Nat) : Bool := d.flag (pg .conv g) F.CONV.SHAPE_MODE || !(d.lineSlots g).isEmpty

/-- Whether the angle is valid (R65). -/
def angleValid (d : Dev) : Bool := d.flag (pg .timebase) F.TIMEBASE.SRC_STATUS_ANGLE_VALID

/-! ## Enable and start (R139, R141, R178) -/

/-- CREF_PERIOD × 2^SCALE (R142). -/
def syncPeriod (d : Dev) (g : Nat) : Nat :=
  let cref := d.fld (pg .timebase) F.TIMEBASE.CREF_PERIOD_PERIOD
  let sc := d.sfld (pg .conv g) F.CONV.TOPOLOGY_SCALE
  if 0 ≤ sc then cref * 2 ^ sc.toNat else cref / 2 ^ (-sc).toNat

/-- Whether a role fits the topology (R138). -/
def roleFits (topo role : Nat) : Bool :=
  if topo = 0 then role ≤ 1 else if topo = 1 then 2 ≤ role && role ≤ 5 else role == 1

/-- The group's checks of R139 but for the keys: roles and phases, phase counts, add and shed, three channels, SCALE. DESIGN
CHOICE: a LINE group, which has no phase, is not held to the phase counts (log entry 35). -/
def groupConfigOk (d : Dev) (g : Nat) : Bool :=
  let p := pg .conv g
  let slots := d.boundSlots g
  let tiles := slots.map (d.slotTile g)
  let nums := (List.range 8).filter (fun n => slots.any (fun s => d.slotPhase g s == n))
  let rolesOf := fun n => slotMask ((List.range 6).filter
    (fun r => slots.any (fun s => d.slotPhase g s == n && d.slotRole g s == r)))
  let bridge := d.topo g != 1 ||
    (nums == List.range nums.length && nums.all (fun n => bitAt (rolesOf n) 2 && rolesOf n == rolesOf 0))
  let sync := d.flag p F.CONV.TOPOLOGY_SYNC
  let addShed := d.flag p F.CONV.PHASE_CFG_ADD_EN || d.flag p F.CONV.PHASE_CFG_SHED_EN
  let half := (if sync then d.syncPeriod g else d.fld p F.CONV.CARRIER_MIN_VALUE) / 2
  let sc := d.sfld p F.CONV.TOPOLOGY_SCALE
  slots.all (fun s => decide (d.slotTile g s < 24) && roleFits (d.topo g) (d.slotRole g s)) &&
  tiles.all (fun t => tiles.count t == 1) && bridge &&
  (d.topo g == 2 ||
    (decide (d.fld p F.CONV.PHASE_CFG_MIN_PHASES ≤ d.fld p F.CONV.PHASE_CFG_LOAD_MIN) &&
     decide (d.fld p F.CONV.PHASE_CFG_LOAD_MIN ≤ (d.heads g).length))) &&
  (!addShed ||
    (!d.threeLines g && decide (d.fld p F.CONV.PHASE_SHED_LEVEL < d.fld p F.CONV.PHASE_ADD_LEVEL) &&
     tiles.all (fun t => decide (d.fld (pg .tile t) F.TILE.PER_MIN_PERIOD ≤ half)))) &&
  (!d.threeLines g ||
    (d.topo g == 0 && (d.heads g).length % 3 == 0 && decide (d.fld p F.CONV.FB_IN_FB ≤ 61))) &&
  (!sync || decide (0 ≤ sc) || d.fld (pg .timebase) F.TIMEBASE.CREF_PERIOD_PERIOD % 2 ^ (-sc).toNat == 0)

/-- BOUND and GROUP of the tiles that group `g` binds (R137). -/
def bindTiles (d : Dev) (g : Nat) : Dev :=
  d.each ((d.boundSlots g).map (d.slotTile g)) (fun d n =>
    ((d.setFlag (pg .tile n) F.TILE.STATUS_BOUND true).setFld (pg .tile n) F.TILE.STATUS_GROUP g).modTile n
      (fun t => { t with want := .stop }))

/-- Tile `n` bound to no group. -/
def unbindTile (d : Dev) (n : Nat) : Dev :=
  ((d.setFlag (pg .tile n) F.TILE.STATUS_BOUND false).setFld (pg .tile n) F.TILE.STATUS_GROUP 0).modTile n
    (fun t => { t with want := .stop })

/-- Whether no tile that `g` binds is named twice or bound to another group (R137). -/
def bindFree (d : Dev) (g : Nat) : Bool :=
  let tiles := (d.boundSlots g).map (d.slotTile g)
  tiles.all (fun n => tiles.count n == 1 &&
    (!d.flag (pg .tile n) F.TILE.STATUS_BOUND || d.fld (pg .tile n) F.TILE.STATUS_GROUP == g))

/-- A write of BIND in an enabled group, `e` being the device after it: the tiles are bound anew. DESIGN CHOICE: a write that would
put a tile into a second slot is not taken and sets RANGE (R137; log entry 35). -/
def rebind (d e : Dev) (g : Nat) : Dev :=
  if !d.flag (pg .conv g) F.HDR.CTRL_ENABLE then e
  else if e.bindFree g then
    let e := (e.each ((d.boundSlots g).map (d.slotTile g)) unbindTile).bindTiles g
    e.setFld (pg .conv g) F.CONV.STATUS_N_AVAIL (e.availHeads g).length
  else d.event (pg .conv g) F.CONV.EVENT_RANGE

/-- ENABLE of a group set, its key checks passed as `keys` says, or CFG_BAD; or cleared (R137, R139, R140). A group leaves LATCHED
by UNLATCH only (R177). -/
def convEnable (d : Dev) (g : Nat) (on keys : Bool) : Dev :=
  let p := pg .conv g
  if on then
    if d.flag p F.HDR.CTRL_ENABLE then d
    else if keys && d.bindFree g && d.groupConfigOk g then
      let d := (d.setFld p F.HDR.CTRL_ENABLE 1).setFld p F.CONV.STATUS_GSTATE 1
      (d.setFld p F.CONV.STATUS_N_AVAIL (d.availHeads g).length).bindTiles g
    else d.event p F.CONV.EVENT_CFG_BAD
  else if d.flag p F.HDR.CTRL_ENABLE ∧ d.gstate g ≠ 7 then
    let d := if 2 ≤ d.gstate g then d.enterStopped g else d
    ((d.each ((d.boundSlots g).map (d.slotTile g)) unbindTile).setFld p F.HDR.CTRL_ENABLE 0).setFld p F.CONV.STATUS_GSTATE 0
  else d

/-- Modes that an actuator admits (R146). -/
def modeFits (act mode : Nat) : Bool :=
  if act = 0 then mode == 0 || mode == 1 || mode == 4
  else if act = 1 then mode == 3
  else if act = 2 then mode == 2
  else mode == 0 || mode == 4

/-- Input of the phase current of a phase (R178). -/
def phaseInput (d : Dev) (g h : Nat) : Nat := d.fld (pg .tile (d.slotTile g h)) F.TILE.TRIM_CFG_IN

/-- The checks at which a group leaves STOPPED (R141, R142, R146, R147, R178). -/
def startChecks (d : Dev) (g : Nat) : Bool :=
  let p := pg .conv g
  let act := d.fld p F.CONV.TOPOLOGY_ACT
  let sync := d.flag p F.CONV.TOPOLOGY_SYNC
  let ins := (d.heads g).map (d.phaseInput g)
  (d.boundSlots g).all (fun s =>
    let t := d.slotTile g s
    let mode := d.tileMode t
    (if d.slotRole g s = 1 then mode == 0 else modeFits act mode) && !(sync && mode == 4) &&
    decide (d.fld (pg .tile t) F.TILE.PER_MIN_PERIOD ≤ d.fld p F.CONV.CARRIER_MIN_VALUE) &&
    decide (d.fld p F.CONV.CARRIER_MAX_VALUE ≤ d.fld (pg .tile t) F.TILE.PER_MAX_PERIOD)) &&
  !(sync && act == 1) &&
  (!d.flag p F.CONV.RES_CFG_EN || (ins.all (fun i => ins.count i == 1 && i != d.fld p F.CONV.FB_IN_I))) &&
  (!d.flag p F.CONV.BATT_CFG_COLLAPSE_EN ||
    decide (4 * d.fld p F.CONV.BATT_I_LOW < 3 * d.fld p F.CONV.BATT_I_ARM)) &&
  (!d.flag p F.CONV.BATT_CFG_OV_EN || decide (0 < d.fld p F.CONV.BATT_V_OV_LEVEL))

/-- Entry into SOFT_START (R150). Its tiles wait for the first U. -/
def enterSoftStart (d : Dev) (g : Nat) : Dev :=
  let p := pg .conv g
  let y := d.newest (d.fld p F.CONV.FB_IN_FB)
  let p0 : Int := if d.flag p F.CONV.GROUP_CTRL_START_FROM then y * 65536 * stepsPerMs else 0
  let up := decide (p0 < (d.convS g).target * stepsPerMs)
  let w := (d.reg p (if up then R.CONV.SLEW_UP else R.CONV.SLEW_DOWN)).toNat
  let d := (d.setFld p F.CONV.STATUS_GSTATE 2).setReg p R.CONV.REF_LIVE (BitVec.ofInt 32 (p0 / stepsPerMs))
  d.modConv g (fun c => { c with
    p := p0, rate := bitsOf w 0 24, rateUs := bitAt w 24,
    hist := Vector.replicate 3 ⟨0, 0, 0, c.law.outMin, c.law.outMin, c.law.outMin⟩,
    burstT := 0, addT := 0, shedT := 0, iHist := [], vPrev := none, sampled := true, askRun := true })

/-- A group leaves STOPPED for SOFT_START, its first F on the next CREF instant (R141, R142, R178); or CFG_BAD. -/
def groupStart (d : Dev) (g : Nat) : Dev :=
  let p := pg .conv g
  if d.gstate g ≠ 1 ∨ !d.flag p F.CONV.GROUP_CTRL_GO ∨ d.state ≠ 4 ∨ (d.gridDependent g && !d.angleValid) then d
  else if !d.startChecks g then d.event p F.CONV.EVENT_CFG_BAD
  else
    let act := d.availHeads g
    let d := (d.setActiveHeads g act (act.headD 0)).setFld p F.CONV.PROT_STATUS_VERDICT 0
    let f := d.crefNext
    (d.enterSoftStart g).modConv g (fun c => { c with
      begun := false, frame := f, uAt := f, iTot := {}, iPh := Vector.replicate 12 {} })

/-- GO of a group written (R141). A withdrawal stops the group in order. -/
def groupGo (d : Dev) (g : Nat) (go : Bool) : Dev :=
  if go then d.setFlag (pg .conv g) F.CONV.GROUP_CTRL_GO true else d.clearGo g

/-! ## Reference (R156–R159) -/

/-- LIMIT_EFF (R159). -/
def limitEff (d : Dev) (g : Nat) : Int :=
  let p := pg .conv g
  let base := min (d.sfld p F.CONV.REF_MAX_VALUE) (d.fld p F.CONV.POWER_LIMIT_LIMIT * 256 : Nat)
  let n := (d.heads g).length
  let l := if n = 0 then base else base * (d.availHeads g).length / n
  if d.derated g then l * d.fld p F.CONV.POWER_LIMIT_DERATE / 100 else l

/-- A command for the group's next update point (R103, R156). -/
def collect (d : Dev) (g : Nat) (c : GroupCmd) : Dev := d.modConv g (fun s => { s with collected := s.collected ++ [c] })

/-- A reference command takes effect: target, rate, COMMANDS (R156–R158). The flags say whether one of the commands of this
update point moved the target by ROT_MIN or more, and raised it so. -/
def takeRef (d : Dev) (g : Nat) (v : Int) (moved raised : Bool) : Dev × Bool × Bool :=
  let p := pg .conv g
  let c := d.convS g
  let t := clampI v (d.sfld p F.CONV.REF_MIN_VALUE) (d.sfld p F.CONV.REF_MAX_VALUE)
  let rot : Int := d.fld p F.CONV.ROT_MIN_MIN * 256
  let w := (d.reg p (if c.p < t * stepsPerMs then R.CONV.SLEW_UP else R.CONV.SLEW_DOWN)).toNat
  let d := ((d.abortProbe g).bump p R.CONV.COMMANDS).setFlag p F.CONV.STATUS_SLEW_DONE false
  (d.modConv g (fun c => { c with target := t, rate := bitsOf w 0 24, rateUs := bitAt w 24, slewOpen := true }),
   moved || decide (rot ≤ (t - c.target).natAbs), raised || decide (rot ≤ t - c.target))

/-- A probe step that ends before it has begun: aborted by a command of its own update point, or by a hiccup (R160). -/
def dropProbe (d : Dev) (g : Nat) : Dev :=
  (d.event (pg .conv g) F.CONV.EVENT_PROBE_ABORT).bump (pg .conv g) R.CONV.PROBE_ABORTS

/-- What the commands of one update point did beside their own effects; `probe` is the step that they start. -/
structure Taken where
  any : Bool := false
  moved : Bool := false
  raised : Bool := false
  probe : Option ProbeRun := none
  deriving DecidableEq, Repr

/-- A reference command among those of an update point: it ends a probe step collected before it (R160, R169). -/
def takeRefIn (d : Dev) (g : Nat) (v : Int) (k : Taken) : Dev × Taken :=
  let d := if k.probe.isSome then d.dropProbe g else d
  let r := d.takeRef g v k.moved k.raised
  (r.1, { any := true, moved := r.2.1, raised := r.2.2, probe := none })

/-- The collected commands taken in order; of two probe steps the later prevails (R103, R144). -/
def takeCommands (d : Dev) (g : Nat) : List GroupCmd → Taken → Dev × Taken
  | [], k => (d, k)
  | .ref v :: l, k => (d.takeRefIn g v k).1.takeCommands g l (d.takeRefIn g v k).2
  | .step v :: l, k =>
    let v := (d.convS g).target + v
    (d.takeRefIn g v k).1.takeCommands g l (d.takeRefIn g v k).2
  | .permit a s wa ws :: l, k =>
    let p := pg .conv g
    let d := if wa then d.setFlag p F.CONV.PHASE_PERMIT_ADD a else d
    let d := if ws then d.setFlag p F.CONV.PHASE_PERMIT_SHED s else d
    d.takeCommands g l k
  | .probe dn pct ms :: l, k => d.takeCommands g l { k with probe := some ⟨dn, pct, ms * stepsPerMs⟩ }

/-- P moved toward T over `dt` edge steps (R157). -/
def slewP (c : ConvS) (dt : Nat) : Int :=
  let t := c.target * stepsPerMs
  let step : Int := dt * c.rate * (if c.rateUs then 1000 else 1)
  if c.rate = 0 then t else if c.p < t then min (c.p + step) t else max (c.p - step) t

/-- The slew of an update point, with SLEW_DONE (R157, R158). -/
def slew (d : Dev) (g dt : Nat) : Dev :=
  let p := pg .conv g
  let np := slewP (d.convS g) dt
  let d := (d.modConv g (fun c => { c with p := np })).setReg p R.CONV.REF_LIVE (BitVec.ofInt 32 (np / stepsPerMs))
  let c := d.convS g
  if np = c.target * stepsPerMs ∧ c.slewOpen then
    ((d.setFlag p F.CONV.STATUS_SLEW_DONE true).event p F.CONV.EVENT_SLEW_DONE).modConv g
      (fun c => { c with slewOpen := false })
  else d

/-- The outer loop at an update point (R154, R155). `force` is the run that LAW_CTRL.CLEAR asks for; `probing` says that a probe
step starts at this update point. -/
def outerLoop (d : Dev) (g : Nat) (force probing : Bool) : Dev :=
  let p := pg .conv g
  let c := d.convS g
  if !d.flag p F.CONV.LAW_CFG_OUTER_EN ∨ d.gstate g = 6 then d
  else if !force ∧ c.outerCnt + 1 < d.fld p F.CONV.LAW_CFG_OUTER_DIV then
    d.modConv g (fun c => { c with outerCnt := c.outerCnt + 1 })
  else
    let lim := d.limitEff g
    let oqs := d.fld p F.CONV.LAW_CFG_OQS
    let eo := sat32 (c.p / stepsPerMs - d.newest (d.fld p F.CONV.FB_IN_OUTER) * 65536)
    let frozen := probing || c.probe.isSome || d.gstate g == 5
    let integ := if frozen then c.integ else clampI (c.integ + asr (c.law.ki * eo) oqs) (-lim) lim
    let a := clampI (asr (c.law.kp * eo) oqs + integ) (-lim) lim
    d.modConv g (fun c => { c with outerCnt := 0, integ := integ, held := a })

/-- The inner reference of a channel before a probe step and the limit (R158, R159). -/
def rawRef (d : Dev) (g ch : Nat) : Int :=
  let p := pg .conv g
  let c := d.convS g
  let a := if d.flag p F.CONV.LAW_CFG_OUTER_EN then c.held else c.p / stepsPerMs
  let mode := d.fld p F.CONV.SHAPE_MODE
  let phi := (d.angle + d.fld p F.CONV.SHAPE_PHASE + (if mode = 3 then ch * 21845 else 0)) % 65536
  asr (a * shapeAt mode phi + 16384) 15

/-- A probe step starts (R98, R160). An upward step that would pass the limit is taken downward. DESIGN CHOICE: the reference is
the largest r that the channels have at this update point, and the limit LIMIT_EFF (log entry 33). -/
def startProbe (d : Dev) (g : Nat) (q : ProbeRun) : Dev :=
  let p := pg .conv g
  let r := (d.channels g).foldl (fun (m : Nat) ch => max m (d.rawRef g ch).natAbs) 0
  let dn := q.down || decide (d.limitEff g * 100 < (r * (100 + q.pct) : Nat))
  let ms := q.left / stepsPerMs
  let d := (d.setFlag p F.CONV.STATUS_PROBING true).setReg p R.CONV.PROBE (BitVec.ofNat 32 ((if dn then 2 else 1) + 256 * ms))
  (d.modConv g (fun c => { c with probe := some { q with down := dn }, addT := 0, shedT := 0, burstT := 0 })).gaugeProbeStart g ms

/-- The probe step that the commands of an update point start; in HICCUP it is aborted (R160). -/
def takeProbe (d : Dev) (g : Nat) : Option ProbeRun → Dev
  | none => d
  | some q => if d.gstate g = 6 then d.dropProbe g else (d.abortProbe g).startProbe g q

/-- The inner reference of each channel (R158, R159). -/
def formRef (d : Dev) (g : Nat) : Dev :=
  let p := pg .conv g
  let c := d.convS g
  let lim := d.limitEff g
  let raw := fun (ch : Nat) =>
    let r := d.rawRef g ch
    match c.probe with
    | some q => (r * (if q.down then 100 - q.pct else 100 + q.pct : Int) + 50) / 100
    | none => r
  let rs := fun ch => clampI (raw ch) (-lim) lim
  let clamped := (d.channels g).any (fun ch => raw ch != rs ch)
  let d := d.modConv g (fun c => { c with rNow := #v[rs 0, rs 1, rs 2] })
  let d := (d.setReg p R.CONV.REF_EFF (BitVec.ofInt 32 (rs 0))).setFlag p F.CONV.STATUS_LIMITED clamped
  let half := !(d.lineSlots g).isEmpty && decide (32768 ≤ d.angle)
  let d := d.setFlag p F.CONV.STATUS_HALF half
  if clamped then d.bump p R.CONV.LIMITED else d

/-! ## Law engine (R151–R154) -/

/-- One computation of one channel: the output, the histories after it, and whether the output was clamped (R151). -/
def lawStep (l : LawSet) (h : LawHist) (r y : Int) (qs : Nat) (aw : Bool) : LawHist × Bool :=
  let e0 := sat32 (r - y * 65536)
  let acc := l.b[0] * e0 + l.b[1] * h.e1 + l.b[2] * h.e2 + l.b[3] * h.e3
    - l.a[0] * h.u1 - l.a[1] * h.u2 - l.a[2] * h.u3
  let raw := asr (acc + 2 ^ (qs - 1)) qs
  let u0 := clampI raw l.outMin l.outMax
  let e := if aw ∧ ((u0 = l.outMax ∧ 0 < e0) ∨ (u0 = l.outMin ∧ e0 < 0)) then 0 else e0
  (⟨e, h.e1, h.e2, u0, h.u1, h.u2⟩, u0 != raw)

/-- Law output of a channel as the latest computation left it. -/
def lawOut (d : Dev) (g ch : Nat) : Int := (vget (d.convS g).hist ch {}).u1

/-- The staged coefficients (R154). -/
def stagedLaw (d : Dev) (g : Nat) : LawSet :=
  let p := pg .conv g
  let v := fun (f : Fld) => d.sfld p f
  { b := #v[v F.CONV.LAW_B_VALUE, v (F.CONV.LAW_B_VALUE.at 1), v (F.CONV.LAW_B_VALUE.at 2), v (F.CONV.LAW_B_VALUE.at 3)],
    a := #v[v F.CONV.LAW_A_VALUE, v (F.CONV.LAW_A_VALUE.at 1), v (F.CONV.LAW_A_VALUE.at 2)],
    outMin := v F.CONV.OUT_MIN_VALUE, outMax := v F.CONV.OUT_MAX_VALUE,
    kp := v F.CONV.OUTER_KP_VALUE, ki := v F.CONV.OUTER_KI_VALUE }

/-- LAW_CTRL.LOAD: refused with RANGE if OUT_MIN exceeds OUT_MAX (R154, R173). -/
def lawLoad (d : Dev) (g : Nat) : Dev :=
  let l := d.stagedLaw g
  if l.outMax < l.outMin then d.event (pg .conv g) F.CONV.EVENT_RANGE else d.modConv g (fun c => { c with loadReq := true })

/-- LAW_CTRL.CLEAR. -/
def lawClear (d : Dev) (g : Nat) : Dev := d.modConv g (fun c => { c with clearReq := true })

/-- LOAD and CLEAR taken at an update point; the result says whether a CLEAR was (R154). -/
def takeLaw (d : Dev) (g : Nat) : Dev × Bool :=
  let c := d.convS g
  let l := if c.loadReq then d.stagedLaw g else c.law
  let d := d.modConv g (fun c => { c with law := l, loadReq := false, clearReq := false })
  if c.clearReq then
    (d.modConv g (fun c => { c with hist := Vector.replicate 3 {}, integ := 0, held := 0 }), true)
  else (d, false)

/-! ## Latching and battery loss (R174, R177, R186) -/

/-- Entry into LATCHED, with its source and slot (R177). -/
def enterLatched (d : Dev) (g bit slot : Nat) : Dev :=
  let p := pg .conv g
  let d := ((d.setFlag p F.CONV.GROUP_CTRL_GO false).endRun g).wantTiles g .hold
  let d := ((d.setFld p F.CONV.STATUS_GSTATE 7).setFlag p F.CONV.STATUS_LP_GRANTED false).bump p R.CONV.LATCHES
  d.raiseLevel .conv g bit slot

/-- Whether the charge manager uses group `g` (R246). -/
def chgGroup (d : Dev) (g : Nat) : Bool :=
  d.fld (pg .chg) F.CHG.CFG_IN_GROUP == g || d.fld (pg .chg) F.CHG.CFG_OUT_GROUP == g

/-- Entry into LATCHED for a reason other than the loss of the battery, which ends a charging session (R249). -/
def latchGroup (d : Dev) (g bit slot : Nat) : Dev :=
  let d := if d.chgGroup g then { d with chg := { d.chg with latched := true } } else d
  d.enterLatched g bit slot

/-- Whether the loss of the battery suspends the charge manager: DETECT to TOPOFF and SUSPEND (R250). -/
def suspendable (d : Dev) : Bool :=
  let st := d.fld (pg .chg) F.CHG.CSTATE_STATE
  (decide (1 ≤ st) && decide (st ≤ 4)) || st == 6

/-- A battery check is met (R186): 1 OV, 2 RATE, 3 COLLAPSE. -/
def batteryLost (d : Dev) (g cause : Nat) : Dev :=
  let p := pg .conv g
  let d := d.each (d.boundSlots g) (fun d s =>
    let n := d.slotTile g s
    let d := d.stopNow n
    if d.tstate n = 3 ∨ d.tstate n = 2 then d.setFld (pg .tile n) F.TILE.STATUS_TSTATE 2 else d)
  let d := (d.setFld p F.CONV.PROT_STATUS_BATT_CAUSE cause).bump p R.CONV.BATT_LOSSES
  let d := (d.setFld p F.CONV.RES_LAST_COUNT 0).gaugeFreeze g
  let before := d.chg.reacted
  let halt := d.sevOf (srcNo .conv g B.CONV.CONV_BATTERY_LOST) == 3 && d.suspendable
  let d := d.enterLatched g B.CONV.CONV_BATTERY_LOST 0xFFFF
  if d.chgGroup g then
    { d with chg := { d.chg with battLost := true, reacted := if halt then before else d.chg.reacted } }
  else d

/-- UNLATCH (R177). -/
def unlatch (d : Dev) (g : Nat) : Dev :=
  let p := pg .conv g
  if d.gstate g = 7 then
    let d := ((d.enterStopped g).setFld p F.CONV.PROT_STATUS_RETRY 0).event p F.CONV.EVENT_UNLATCHED
    let d := d.modConv g (fun c => { c with cleanRun := 0 })
    d.each [B.CONV.CONV_HICCUP_LATCH, B.CONV.CONV_PHASE_AMBIGUOUS, B.CONV.CONV_TOO_FEW, B.CONV.CONV_BATTERY_LOST]
      (fun d b => d.lower .conv g b)
  else d

/-- RESTORE (R184). -/
def convRestore (d : Dev) (g : Nat) : Dev :=
  let p := pg .conv g
  if d.gstate g = 1 then
    let d := d.setFld p F.CONV.PROT_STATUS_FAILED 0
    d.setFld p F.CONV.STATUS_N_AVAIL (d.heads g).length
  else d

/-! ## Adding and shedding (R145, R161–R164) -/

/-- The active phase after slot `x` in slot order, cyclically (R145). -/
def nextHead (l : List Nat) (x : Nat) : Nat :=
  match l.find? (fun h => decide (x < h)) with
  | some h => h
  | none => l.headD 0

/-- The lead advances: ROTATIONS counts 1 (R145). -/
def advanceLead (d : Dev) (g : Nat) : Dev :=
  let act := d.activeHeads g
  if act.isEmpty then d
  else (d.setFld (pg .conv g) F.CONV.ACTIVE_LEAD (nextHead act (d.leadSlot g))).bump (pg .conv g) R.CONV.ROTATIONS

/-- The active phases changed to `hs`, in slot order, with the counter and the event of an add or a shed, and the holds of
R16 and R164. The lead advances once at the end of the update point. -/
def reimpose (d : Dev) (g : Nat) (hs : List Nat) (counter : Nat) (ev : Fld) : Dev :=
  let p := pg .conv g
  let d := ((d.setActiveHeads g hs (d.leadSlot g)).bump p counter).event p ev
  d.modConv g (fun c => { c with holdT := 17, changeT := 17, addT := 0, shedT := 0 })

/-- What the tiles of the phase of slot `h` are asked for. -/
def wantPhase (d : Dev) (g h : Nat) (w : Want) : Dev :=
  d.each (d.phaseSlots g h) (fun d s => d.modTile (d.slotTile g s) (fun t => { t with want := w }))

/-- A phase taken out (R163). -/
def shedPhase (d : Dev) (g h : Nat) : Dev :=
  (d.wantPhase g h .hold).reimpose g ((d.activeHeads g).filter (fun x => x != h)) R.CONV.SHEDS F.CONV.EVENT_SHED

/-- A phase taken in (R163). -/
def addPhase (d : Dev) (g h : Nat) : Dev :=
  (d.wantPhase g h .run).reimpose g ((d.heads g).filter (fun x => x == h || (d.activeHeads g).contains x)) R.CONV.ADDS
    F.CONV.EVENT_ADDED

/-- Load add and shed at an update point with mean current `i`; the flag says whether the active phases changed
(R161, R162). -/
def addShed (d : Dev) (g : Nat) (i : Option Int) : Dev × Bool :=
  let p := pg .conv g
  let act := d.activeHeads g
  let n := act.length
  let spare := (d.availHeads g).filter (fun h => !act.contains h)
  let low := match i with
    | some v => decide (v < ((n - 1) * d.fld p F.CONV.PHASE_SHED_LEVEL : Nat)) && decide (d.fld p F.CONV.PHASE_CFG_LOAD_MIN < n)
    | none => false
  let high := match i with
    | some v => decide (((n * d.fld p F.CONV.PHASE_ADD_LEVEL : Nat) : Int) < v) && !spare.isEmpty
    | none => false
  let c := d.convS g
  let st := if low then c.shedT + 1 else 0
  let at' := if high then c.addT + 1 else 0
  let d := d.modConv g (fun c => { c with shedT := st, addT := at' })
  let win := !d.flag p F.CONV.PHASE_CFG_WIN_EN || d.winOpen (d.fld p F.CONV.PHASE_CFG_WIN)
  if low && decide (d.fld p F.CONV.PHASE_SHED_TIME ≤ st) && d.flag p F.CONV.PHASE_PERMIT_SHED &&
      d.flag p F.CONV.PHASE_CFG_SHED_EN && win then
    let k := rankOf act (d.leadSlot g)
    (d.shedPhase g (act.getD (if k = 0 then n - 1 else k - 1) 0), true)
  else if high && decide (d.fld p F.CONV.PHASE_ADD_TIME ≤ at') && d.flag p F.CONV.PHASE_PERMIT_ADD &&
      d.flag p F.CONV.PHASE_CFG_ADD_EN && win then
    (d.addPhase g (spare.headD 0), true)
  else (d, false)

/-- Whether no further shed can be made (R165). -/
def shedClosed (d : Dev) (g : Nat) : Bool :=
  let p := pg .conv g
  decide ((d.activeHeads g).length ≤ d.fld p F.CONV.PHASE_CFG_LOAD_MIN) || !d.flag p F.CONV.PHASE_CFG_SHED_EN ||
    !d.flag p F.CONV.PHASE_PERMIT_SHED

/-! ## Residuals (R179–R183) -/

/-- Verdict of an evaluation and the phase it names (R180). -/
def verdictOf (beyond : Bool) (deficits : List Nat) (explained : Nat → Bool) : Nat × Option Nat :=
  match deficits with
  | [] => if beyond then (5, none) else (1, none)
  | [j] => if !beyond then (2, some j) else if explained j then (3, some j) else (4, none)
  | _ => (6, none)

/-- The residual evaluation of the period just ended, with total mean `i` and the phase means (R179–R181). The phases are
those active in that period. -/
def evaluate (d : Dev) (g : Nat) (i : Int) (means : Nat → Option Int) : Dev :=
  let p := pg .conv g
  let act := d.activeHeads g
  let three := d.threeLines g
  if act.any (fun h => (means h).isNone) ∨ act.isEmpty then d
  else
    let m := fun h => (means h).getD 0
    let sumI := act.foldl (fun s h => s + m h) 0
    let r := i - sumI
    let sumLim : Int := max (d.fld p F.CONV.RES_SUM_ABS) (i.natAbs * d.fld p F.CONV.RES_SUM_REL / 256)
    let deficit := fun h =>
      let mates := if three then d.channelHeads g (d.channelOf g h) else act
      let tot := if three then mates.foldl (fun s h => s + m h) 0 else i
      let n := mates.length
      let defLim := max (d.fld p F.CONV.RES_DEF_ABS) (tot.natAbs * d.fld p F.CONV.RES_DEF_REL / (256 * n))
      !(three && n == 1) && decide (((n * (m h).natAbs : Nat) : Int) < (tot.natAbs : Int) - (n * defLim : Nat))
    let n : Int := act.length
    let explained := fun h => decide (((n * (r + m h) - i).natAbs : Int) ≤ n * sumLim)
    let beyond := !three && decide (sumLim < (r.natAbs : Int))
    let v := verdictOf beyond (act.filter deficit) explained
    let d := d.setFld p F.CONV.PROT_STATUS_VERDICT v.1
    let d := match v.2 with
      | some j => d.setFld p F.CONV.PROT_STATUS_SUSPECT j
      | none => d
    let d := if three then d else d.setFld p F.CONV.RES_LAST_SUM (ofSigned 16 r)
    if v.1 = 1 then
      (d.setFld p F.CONV.RES_LAST_COUNT 0).modConv g (fun c => { c with healthy := true, suspect := none, mixed := false })
    else
      let cnt := d.fld p F.CONV.RES_LAST_COUNT
      let c := d.convS g
      let d := if c.healthy then d.event p F.CONV.EVENT_SUSPECT else d
      let d := (d.setFld p F.CONV.RES_LAST_COUNT (cnt + 1)).bump p R.CONV.SUSPECT_PERIODS
      d.modConv g (fun c => { c with
        healthy := false,
        suspect := if cnt = 0 then v.2 else c.suspect,
        mixed := if cnt = 0 then v.2.isNone else c.mixed || c.suspect != v.2 || v.2.isNone })

/-- CONFIRM for a group period (R181). -/
def confirmFor (per : Nat) : Nat := if per = 0 then 8 else max 8 ((1280000 + per - 1) / per)

/-! ## Hiccup (R174–R176) -/

/-- The signals collected since the last update point acted on (R174). -/
def takeSignals (d : Dev) (g : Nat) : Dev :=
  let p := pg .conv g
  match (d.convS g).signals with
  | [] => d
  | s :: l =>
    let d := d.modConv g (fun c => { c with signals := [] })
    if d.fld p F.CONV.PROT_STATUS_RETRY < d.fld p F.CONV.HICCUP_CFG_RETRY_MAX then
      let d := (((d.abortProbe g).cleanPause g).wantTiles g .hold).setFld p F.CONV.STATUS_GSTATE 6
      let d := (d.bump p R.CONV.HICCUPS).event p F.CONV.EVENT_HICCUP_IN
      d.modConv g (fun c => { c with iHist := [], vPrev := none, askRun := false, hicFrom := d.now })
    else d.latchGroup g B.CONV.CONV_HICCUP_LATCH (if l.all (fun x => x == s) then s else 0xFFFF)

/-- The hiccup off-time, in units of 40,000 clocks, has expired (R175). -/
def hiccupOver (d : Dev) (g : Nat) : Dev :=
  let p := pg .conv g
  if d.gstate g = 6 ∧ d.fld p F.CONV.HICCUP_CFG_OFF * 40000 ≤ d.now - (d.convS g).hicFrom then
    ((d.bumpFldSat p F.CONV.PROT_STATUS_RETRY).event p F.CONV.EVENT_HICCUP_OUT).enterSoftStart g
  else d

/-- A clean run of HICCUP_CLEAN.TIME ms (R176): only RUNNING, BURST and SLEEP count toward it. -/
def hiccupClean (d : Dev) (g : Nat) : Dev :=
  match (d.convS g).cleanFrom with
  | none => d
  | some t =>
    if d.fld (pg .conv g) F.CONV.HICCUP_CLEAN_TIME * 400000 ≤ (d.convS g).cleanRun + (d.now - t) then
      d.setFld (pg .conv g) F.CONV.PROT_STATUS_RETRY 0
    else d

/-! ## Burst (R165–R168) -/

/-- The fast converters of the group's feedback inputs: of each channel's, of FB, and of its tiles' phase currents (R16, R168). -/
def feedbackAdcs (d : Dev) (g : Nat) : List Nat :=
  let p := pg .conv g
  ((d.channels g).map (fun ch => d.fld p F.CONV.FB_IN_FB + ch) ++
    [d.fld p F.CONV.FB_IN_OUTER, d.fld p F.CONV.FB_IN_I, d.fld p F.CONV.FB_IN_V] ++
    (d.boundSlots g).map (d.phaseInput g)).map (fun i => i / 4)

/-- Whether they all report full rate (R168, R206). -/
def fullRate (d : Dev) (g : Nat) : Bool := (d.feedbackAdcs g).all (fun a => d.flag (pg .adc a) F.ADC.STATUS_FULL_RATE)

/-- The active phases' tiles asked to run or to hold. -/
def wantActive (d : Dev) (g : Nat) (w : Want) : Dev :=
  d.each (d.activeHeads g ++ d.lineSlots g) (fun d h => d.wantPhase g h w)

/-- Burst decisions of an update point; the flag says whether a first burst period begins (R165–R168). -/
def burst (d : Dev) (g : Nat) (k : Taken) : Dev × Bool :=
  let p := pg .conv g
  let c := d.convS g
  let u := d.lawOut g 0
  let st := d.gstate g
  if st = 3 then
    if !d.flag p F.CONV.BURST_CFG_EN ∨ c.probe.isSome then (d.modConv g (fun c => { c with burstT := 0 }), false)
    else
      let t := if u < (d.fld p F.CONV.BURST_ENTER_LEVEL * 32768 : Nat) then c.burstT + 1 else 0
      let d := d.modConv g (fun c => { c with burstT := t })
      if 0 < t ∧ d.fld p F.CONV.BURST_ENTER_TIME ≤ t ∧ d.shedClosed g then
        let d := ((d.setFld p F.CONV.STATUS_GSTATE 4).event p F.CONV.EVENT_BURST_IN).bump p R.CONV.BURSTS
        (d.modConv g (fun c => { c with burstT := 0, burstLeft := d.fld p F.CONV.BURST_CFG_LEN }), false)
      else (d, false)
  else if st = 4 then
    if ((d.fld p F.CONV.BURST_EXIT_LEVEL * 32768 : Nat) : Int) < u ∨ k.raised then
      (((d.setFld p F.CONV.STATUS_GSTATE 3).event p F.CONV.EVENT_BURST_OUT).modConv g
        (fun c => { c with holdT := 17, burstT := 0 }), false)
    else if c.burstLeft ≤ 1 then
      let d := (d.wantActive g .hold).setFld p F.CONV.STATUS_GSTATE 5
      let d := if d.flag p F.CONV.BURST_CFG_LP then d.setFlag p F.CONV.STATUS_LP_GRANTED true else d
      (d.modConv g (fun c => { c with burstLeft := 0, iHist := [], vPrev := none }), false)
    else (d.modConv g (fun c => { c with burstLeft := c.burstLeft - 1 }), false)
  else if st = 5 then
    let band : Int := d.fld p F.CONV.BURST_CFG_BAND * 65536
    let due := decide (band < c.rNow[0] - c.ySamp * 65536) || k.any
    let win := !d.flag p F.CONV.BURST_CFG_WIN_EN || d.winOpen (d.fld p F.CONV.BURST_CFG_WIN)
    if c.waking ∨ (due ∧ win) then
      let d := d.setFlag p F.CONV.STATUS_LP_GRANTED false
      if d.fullRate g then
        let d := ((d.setFld p F.CONV.STATUS_GSTATE 4).event p F.CONV.EVENT_WAKE).wantActive g .run
        (d.modConv g (fun c => { c with waking := false, burstLeft := d.fld p F.CONV.BURST_CFG_LEN, sampled := true }), true)
      else (d.modConv g (fun c => { c with waking := true }), false)
    else (d, false)
  else (d, false)

/-! ## Values for the tiles (R142, R143, R146–R148, R192) -/

/-- Tile of the lead. -/
def leadTile (d : Dev) (g : Nat) : Nat := d.slotTile g (d.leadSlot g)

/-- The group period for the coming period (R142, R146). In VALLEY mode it is the length that the lead's last period had. With
SYNC = 0 and an actuator other than PERIOD the spec states no other period: a free value between CARRIER_MIN and CARRIER_MAX (log
entry 7). -/
def nextPeriod (d : Dev) (g : Nat) : Nat × Dev :=
  let p := pg .conv g
  let lo := d.fld p F.CONV.CARRIER_MIN_VALUE
  let hi := d.fld p F.CONV.CARRIER_MAX_VALUE
  if d.flag p F.CONV.TOPOLOGY_SYNC then (d.syncPeriod g, d)
  else if d.fld p F.CONV.TOPOLOGY_ACT = 1 then
    (((lo : Int) + asr (d.lawOut g 0 * ((hi : Int) - lo)) 31).toNat, d)
  else if d.tileMode (d.leadTile g) = 4 ∧ d.tstate (d.leadTile g) = 3 then (d.endedLen (d.leadTile g), d)
  else
    let f := d.takeFree
    (lo + f.1.toNat % (hi - lo + 1), f.2)

/-- Slot offset of a phase after F (R143). -/
def slotOffset (d : Dev) (g h per : Nat) : Nat :=
  let act := d.activeHeads g
  if act.isEmpty then 0 else rankOf act h * per / act.length

/-- Offset of the tile of slot `s` in the phase of slot `h` (R143, R146). -/
def tileOffset (d : Dev) (g h s per : Nat) : Nat :=
  let p := pg .conv g
  let half := per / 2
  let role := d.slotRole g s
  let role := if 2 ≤ role ∧ d.flag p F.CONV.GROUP_CTRL_DIR then (if role < 4 then role + 2 else role - 2) else role
  let sec : Int := if d.fld p F.CONV.TOPOLOGY_ACT = 2 then asr (d.lawOut g (d.channelOf g h) * half) 31
    else d.fld p F.CONV.SEC_SHIFT_VALUE
  let off : Int := d.slotOffset g h per + (if role = 3 ∨ role = 5 then (half : Int) else 0) +
    (if role = 4 ∨ role = 5 then sec else 0)
  if per = 0 then 0 else (off % (per : Int)).toNat

/-- Share and hold that the trim of a tile receives (R164). -/
def shareOf (d : Dev) (g h : Nat) (i : Option Int) : Int :=
  let n := if d.threeLines g then (d.channelHeads g (d.channelOf g h)).length else (d.activeHeads g).length
  asr (i.getD 0 * d.fld (pg .conv g) F.CONV.SHARE_GAIN_GAIN) 12 / n

/-- Values supplied to every tile of the group for the period of length `per` (R143, R146–R148, R164, R192). -/
def tileSupply (d : Dev) (g per : Nat) (i : Option Int) : Dev :=
  let p := pg .conv g
  let c := d.convS g
  let act := d.fld p F.CONV.TOPOLOGY_ACT
  let swap := d.flag p F.CONV.STATUS_HALF
  let hold := d.gstate g == 2 || d.gstate g == 4 || d.gstate g == 5 || decide (0 < c.holdT)
  let th := d.angle
  let b := d.fld p F.CONV.LINE_CFG_BLANK
  let d := d.each (d.heads g) (fun d h =>
    let u := d.lawOut g (d.channelOf g h)
    let on : Int :=
      if c.circ then (d.fld (pg .disch) F.DISCH.RES_ON_VALUE : Int)
      else if act = 0 then asr (u * per) 31
      else if act = 3 then asr (c.law.outMax * per) 31
      else (per / 2 : Nat)
    let on := if swap ∧ !c.circ then (per : Int) - on else on
    d.each (d.phaseSlots g h) (fun d s => d.modTile (d.slotTile g s) (fun t => { t with
      gPer := per, gOn := on.toNat, gPhase := d.tileOffset g h s per,
      gDac := if act = 3 then (clampI (asr (u * 4096) 31) 0 4095).toNat else t.gDac,
      swapOut := swap, share := d.shareOf g h i, hold := hold })))
  d.each (d.lineSlots g) (fun d s =>
    let pos := decide (b ≤ th) && decide (th + b < 32768)
    let neg := decide (32768 + b ≤ th) && decide (th + b < 65536)
    let high := if d.flag p F.CONV.LINE_CFG_POL then neg else pos
    let running := d.gstate g == 2 || d.gstate g == 3 || d.gstate g == 4
    d.modTile (d.slotTile g s) (fun t => { t with
      gPer := per, gPhase := 0, hold := hold,
      gOn := if c.circ then d.fld (pg .disch) F.DISCH.RES_ON_VALUE else if high then per else 0,
      want := if running && (c.circ || pos || neg) then .run else .hold }))

/-! ## Update point and sampling instant -/

/-- The reference instant of CREF nearest to position `x` (R142). -/
def crefAlign (d : Dev) (x : Nat) : Nat :=
  let per := d.tb.crefPer
  let off := (x + per - d.tb.crefFrom % per) % per
  if 2 * off < per then x - off else x + (per - off)

/-- The update point reached: one interval after the last, or where the lead's valley period ends. F moves on by one period, or two
where the lead has come past the next F; with SYNC and SCALE ≥ 0 it lies on a CREF instant (R108, R142, R145). -/
def reachU (d : Dev) (g : Nat) : Dev :=
  let p := pg .conv g
  let c := d.convS g
  if !c.begun then d.modConv g (fun c => { c with elapsed := 0, uAt := c.frame })
  else
    let n := d.leadTile g
    let valley := d.tileMode n == 4 && d.tstate n == 3
    let u := if valley then max c.uAt ((d.tileS n).start + d.endedLen n) else c.uAt + c.interval
    let f := if valley then c.frame + (u - c.uAt) else if c.frame + 2 * c.per ≤ u then c.frame + 2 * c.per else c.frame + c.per
    let a := if d.flag p F.CONV.TOPOLOGY_SYNC && decide (0 ≤ d.sfld p F.CONV.TOPOLOGY_SCALE) then d.crefAlign f else f
    d.modConv g (fun c => { c with elapsed := u - c.uAt, uAt := u + a - f, frame := a })

/-- ENERGY and PERIODS of the period just ended, from the results taken at its sampling instant (R170). -/
def closePeriod (d : Dev) (g : Nat) : Dev :=
  let p := pg .conv g
  let c := d.convS g
  (d.bump64 p R.CONV.PERIODS 1).bump64 p R.CONV.ENERGY (asr (c.vSamp * c.iSamp * (c.elapsed / 64 : Nat)) 16)

/-- Probe step at an update point: aborted by a cycle-limited period, or its time run (R160). -/
def probeTick (d : Dev) (g : Nat) : Dev :=
  let p := pg .conv g
  let c := d.convS g
  match c.probe with
  | none => d
  | some q =>
    if c.limitedSeen then d.abortProbe g
    else if q.left ≤ c.elapsed then
      let d := ((d.event p F.CONV.EVENT_PROBE_END).bump p R.CONV.PROBES).setReg p R.CONV.PROBE 0
      ((d.setFlag p F.CONV.STATUS_PROBING false).modConv g
        (fun c => { c with probe := none, addT := 0, shedT := 0, burstT := 0 })).gaugeProbeEnd g false
    else
      let left := q.left - c.elapsed
      (d.setFld p F.CONV.PROBE_LEFT ((left + stepsPerMs - 1) / stepsPerMs)).modConv g
        (fun c => { c with probe := some { q with left := left } })

/-- COLLAPSE at an update point, with the mean of the period just ended (R185). -/
def collapsed (d : Dev) (g : Nat) (i : Option Int) : Bool :=
  let p := pg .conv g
  match i, (d.convS g).iHist with
  | some k, a :: b :: _ =>
    d.flag p F.CONV.BATT_CFG_COLLAPSE_EN && decide (k.natAbs < d.fld p F.CONV.BATT_I_LOW) &&
      decide (d.fld p F.CONV.BATT_I_ARM ≤ max a.natAbs b.natAbs)
  | _, _ => false

/-- At the first U of a soft start the tiles of the active phases are asked to run, and those of the others to hold (R122, R150). -/
def askTiles (d : Dev) (g : Nat) : Dev :=
  if (d.convS g).askRun then
    (((d.wantTiles g .hold).wantActive g .run)).modConv g (fun c => { c with askRun := false })
  else d

/-- The end of an update point: rotation, period, values for the tiles (R144–R146). -/
def openPeriod (d : Dev) (g : Nat) (i : Option Int) (rotate : Bool) : Dev :=
  let c := d.convS g
  let d := if rotate then d.advanceLead g else d
  let n := (d.activeHeads g).length
  let pr := if c.circ then (d.fld (pg .disch) F.DISCH.RES_PER_VALUE, d) else d.nextPeriod g
  let per := pr.1
  let d := (pr.2.askTiles g).setFld (pg .conv g) F.CONV.RES_LAST_CONFIRM (confirmFor per)
  let iv := per + (if rotate then (if n = 0 then 0 else per / n) else 0)
  let d := d.modConv g (fun c => { c with
    per := per, interval := iv, begun := true, sampled := false, limitedSeen := false,
    sinceLimited := min 16 (c.sinceLimited + 1), holdT := c.holdT - 1, changeT := c.changeT - 1,
    iTot := {}, iPh := Vector.replicate 12 {} })
  d.tileSupply g per i

/-- LATE and the residuals of an update point, `i` being the mean of the period just ended (R152, R179). -/
def judgePeriod (d : Dev) (g : Nat) (i : Option Int) : Dev :=
  let p := pg .conv g
  let c := d.convS g
  let late := decide (2 ≤ d.gstate g) && decide (d.gstate g ≤ 4) && c.begun && !c.sampled && d.topo g != 2 && !c.circ
  let d := if late then (d.bump p R.CONV.LATE).event p F.CONV.EVENT_LATE else d
  let quiet := d.gstate g == 3 && c.holdT == 0 && d.flag p F.CONV.RES_CFG_EN
  match i with
  | some k =>
    if quiet && decide (d.fld p F.CONV.RES_CFG_DET_MIN ≤ k.natAbs) then d.evaluate g k (fun h => (vget c.iPh h {}).mean) else d
  | none => d

/-- P moved, and the end of a soft start, from which the clean-run timer counts (R150, R157, R176). -/
def advanceRef (d : Dev) (g : Nat) : Dev :=
  let d := d.slew g (d.convS g).elapsed
  if d.gstate g = 2 ∧ (d.convS g).p = (d.convS g).target * stepsPerMs then
    (d.setFld (pg .conv g) F.CONV.STATUS_GSTATE 3).modConv g
      (fun c => { c with addT := 0, shedT := 0, burstT := 0, cleanFrom := some d.now })
  else d

/-- Load add and shed where they are evaluated: in RUNNING, with no probe step and no failure shed at this U (R160, R161, R169). -/
def loadPhases (d : Dev) (g : Nat) (i : Option Int) (shed : Bool) : Dev × Bool :=
  if d.gstate g = 3 ∧ (d.convS g).probe.isNone ∧ !shed then d.addShed g i else (d, false)

/-- Commands, reference, add and shed, burst and the new period (R144). `had` says that a probe step ran when the update point
came, `shed` that a phase has been shed for failure at it: each is a cause of the one advance of the lead (R145, R169). -/
def runPeriod (d : Dev) (g : Nat) (i : Option Int) (had shed : Bool) : Dev :=
  let lw := d.takeLaw g
  let pt := lw.1.probeTick g
  let tk := pt.takeCommands g (pt.convS g).collected {}
  let d := tk.1.modConv g (fun c => { c with collected := [] })
  let d := (d.advanceRef g).outerLoop g lw.2 tk.2.probe.isSome
  let d := (d.takeProbe g tk.2.probe).formRef g
  let as := d.loadPhases g i shed
  let bu := as.1.burst g tk.2
  let d := bu.1
  let d := if d.gstate g = 4 ∨ d.gstate g = 5 then d.modConv g (fun c => { c with holdT := 17 }) else d
  let probed := tk.2.probe.isSome || (had && (d.convS g).probe.isNone)
  d.openPeriod g i (tk.2.moved || probed || bu.2 || as.2 || shed)

/-- The rest of an update point, after the decision of R181 where one was due (R174, R195). -/
def finishUpdate (d : Dev) (g : Nat) (i : Option Int) (had shed : Bool) : Dev :=
  let d := d.takeSignals g
  if d.gstate g = 7 then d
  else if (d.convS g).circ then d.openPeriod g i shed
  else d.runPeriod g i had shed

/-- The decision of R181 at an update point, COUNT having reached CONFIRM: a shed for failure, TOO_FEW or AMBIGUOUS (R181–R183). The
flag says that a phase has been shed. -/
def decidePhase (d : Dev) (g : Nat) : Dev × Bool :=
  let p := pg .conv g
  let c := d.convS g
  let d := (d.setFld p F.CONV.RES_LAST_COUNT 0).modConv g (fun c => { c with suspect := none, mixed := false })
  match c.suspect, c.mixed with
  | some j, false =>
    let slots := d.phaseSlots g j
    let d := d.setFld p F.CONV.PROT_STATUS_FAILED (d.fld p F.CONV.PROT_STATUS_FAILED ||| slotMask slots)
    let avail := d.availHeads g
    let d := d.setFld p F.CONV.STATUS_N_AVAIL avail.length
    let starved := d.threeLines g && (d.channels g).any (fun ch => avail.all (fun h => d.channelOf g h != ch))
    if avail.length < d.fld p F.CONV.PHASE_CFG_MIN_PHASES ∨ starved then (d.latchGroup g B.CONV.CONV_TOO_FEW j, false)
    else
      let d := d.modConv g (fun c => { c with signals := c.signals.filter (fun s => !slots.contains s) })
      let active := (d.activeHeads g).contains j
      let d := if active then (d.abortProbe g).shedPhase g j else d
      ((d.bump p R.CONV.PHASE_FAILS).raise .conv g B.CONV.CONV_PHASE_LOST j, active)
  | _, _ => ((d.bump p R.CONV.AMBIGUOUS).latchGroup g B.CONV.CONV_PHASE_AMBIGUOUS 0xFFFF, false)

/-- The decision that is due at the present update point, and the rest of that update point after it (R181, R195). -/
def phaseFailure (d : Dev) (g : Nat) : Dev :=
  match (d.convS g).verdictDue with
  | none => d
  | some i =>
    let had := (d.convS g).probe.isSome
    let r := (d.modConv g (fun c => { c with verdictDue := none })).decidePhase g
    if r.1.gstate g ≤ 1 ∨ r.1.gstate g = 7 then r.1 else r.1.finishUpdate g i had r.2

/-- The update point past the angle and battery checks. Where COUNT has reached CONFIRM it waits for the decision. -/
def updateGroup (d : Dev) (g : Nat) (i : Option Int) : Dev :=
  let p := pg .conv g
  let d := d.judgePeriod g i
  if 0 < d.fld p F.CONV.RES_LAST_COUNT ∧ d.fld p F.CONV.RES_LAST_CONFIRM ≤ d.fld p F.CONV.RES_LAST_COUNT then
    d.modConv g (fun c => { c with verdictDue := some i })
  else d.finishUpdate g i (d.convS g).probe.isSome false

/-- What the last update point and the tiles still owe at an update point: a decision not yet made, NCYC signals not yet sent. -/
def settleU (d : Dev) (g : Nat) : Dev :=
  let d := d.phaseFailure g
  d.each (numbers 24 (fun n => d.flag (pg .tile n) F.TILE.STATUS_BOUND && d.fld (pg .tile n) F.TILE.STATUS_GROUP == g)) ncycReached

/-- The group's update point (R144). -/
def updatePoint (d : Dev) (g : Nat) : Dev :=
  let d := d.settleU g
  let st := d.gstate g
  if st ≤ 1 ∨ st = 7 then d
  else
    let c0 := d.convS g
    let d := d.reachU g
    let d := if c0.begun then d.closePeriod g else d
    let i := if c0.begun then c0.iTot.mean else none
    let switching := decide (st ≤ 4)
    if d.gridDependent g && !d.angleValid then (d.event (pg .conv g) F.CONV.EVENT_ANGLE_STOP).enterStopped g
    else if switching && d.collapsed g i then d.batteryLost g 3
    else
      let hist := match i with
        | some k => if switching then (k :: c0.iHist).take 2 else []
        | none => []
      (d.modConv g (fun c => { c with iHist := hist })).updateGroup g i

/-- The law engine computes (R151–R153). -/
def compute (d : Dev) (g : Nat) : Dev :=
  let p := pg .conv g
  let c := d.convS g
  let qs := d.fld p F.CONV.LAW_CFG_QS
  let aw := d.flag p F.CONV.LAW_CFG_AW
  let one := fun (ch : Nat) =>
    lawStep c.law (vget c.hist ch {}) (vget c.rNow ch 0) (d.newest ((d.fld p F.CONV.FB_IN_FB + ch) % 64)) qs aw
  let sat := (d.channels g).any (fun ch => (one ch).2)
  let d := d.modConv g (fun c => { c with
    sampled := true,
    hist := (d.channels g).foldl (fun h ch => vmod h ch (fun _ => (one ch).1)) c.hist })
  let d := d.setReg p R.CONV.LAW_OUT (BitVec.ofInt 32 (one 0).1.u1)
  let d := d.setFlag p F.CONV.STATUS_SAT sat
  if sat then (d.bump p R.CONV.SATURATED).event p F.CONV.EVENT_SAT else d

/-- The group's sampling instant (R144, R151, R166, R170, R185): the results of the feedback inputs are taken, the battery checks
made, and the law engine computes unless it is frozen. -/
def lawSample (d : Dev) (g : Nat) : Dev :=
  let p := pg .conv g
  let st := d.gstate g
  if st < 2 ∨ st = 7 then d
  else
    let v := d.newest (d.fld p F.CONV.FB_IN_V)
    let d := d.modConv g (fun c => { c with
      vSamp := v, iSamp := d.newest (d.fld p F.CONV.FB_IN_I), ySamp := d.newest (d.fld p F.CONV.FB_IN_FB) })
    let c := d.convS g
    let off := d.fld p F.CONV.SAMPLE_POS * c.per / 65536
    let switching := st ≠ 5
    let t : Int := (c.elapsed : Int) + off - c.sampOff
    let ov := d.flag p F.CONV.BATT_CFG_OV_EN && decide ((d.fld p F.CONV.BATT_V_OV_LEVEL : Int) < v)
    let rate := d.flag p F.CONV.BATT_CFG_RATE_EN && switching && (match c.vPrev with
      | some w => decide ((d.fld p F.CONV.BATT_V_DV_RATE : Int) * t < (v - w) * 256 * stepsPerUs)
      | none => false)
    if st = 6 then d
    else if ov then d.batteryLost g 1
    else if rate then d.batteryLost g 2
    else
      let d := d.modConv g (fun c => { c with vPrev := if switching then some v else none, sampOff := off })
      if st = 5 ∨ c.circ ∨ d.topo g = 2 then d else d.compute g

end Dev
end Sys2Proof.Machine
end

