-- ==== Sys2Proof/Machine/Compar.lean ====
section
/-!
DEFINITION. The comparators of the stage tiles (R126–R129, R134): thresholds, crossings, valleys, the ends of blanking intervals.
-/
namespace Sys2Proof.Machine
namespace Dev

/-- HYST in µV (R126, R136). -/
def hystMicro (code : Nat) : Nat := [0, 10000, 20000, 40000].getD code 0

/-- The threshold at position `x` in DAC codes: for PEAK_LIMIT it falls from the rising edge of OUT while OUT is high (R127). -/
def threshold (d : Dev) (n : Nat) (c : Cmp) (x : Nat) : Nat :=
  let t := d.tileS n
  let l := d.cmpLive n c
  let o := d.cmpOut n c
  let from' := match o with | .h => t.riseH | .l => t.riseL
  if d.cmpFunc n c = 1 ∧ (highAt (t.sched o) x).isSome then
    l.2.2 - bitsOf l.2.1.toNat 0 16 * ((t.start + x - from') / 64) / 256
  else l.2.2

/-- Whether an input of `uv` µV changes the comparator's output from `tripped` at threshold `code`: one code is 2.5 V / 4,096, and
the hysteresis lies on the release side (R126). -/
def cmpChanges (cfg : Word) (tripped : Bool) (code uv : Nat) : Bool :=
  let x := 4096 * uv
  let t := 2500000 * code
  let h := 4096 * hystMicro (bitsOf cfg.toNat 5 2)
  let below := bitAt cfg.toNat 4
  if tripped then (if below then decide (t + h < x) else decide (x + h < t))
  else (if below then decide (x < t) else decide (t < x))

/-- The earliest edge step since reset at which a valley of tile `n` counts for its phase: in a phase other than the lead's, the
lead's latest period start plus the rank distance × the lead's last period / N (R149). -/
def valleyGate (d : Dev) (n : Nat) : Nat :=
  let p := pg .tile n
  let g := d.fld p F.TILE.STATUS_GROUP
  let act := d.activeHeads g
  let lead := d.leadSlot g
  match act.find? (fun h => (d.phaseSlots g h).any (fun s => d.slotTile g s == n)) with
  | none => 0
  | some h =>
    let t := d.tileS (d.slotTile g lead)
    let dist := (rankOf act h + act.length - rankOf act lead) % act.length
    if h = lead ∨ !d.flag p F.TILE.STATUS_BOUND then 0 else t.start + dist * t.lastLen / act.length

/-- A valley detection at position `x`: counted from the fall of PWMH on, from S + PER_MIN − DELAY on and from the phase's slot on;
the one after SKIP of them ends the period (R116, R149). -/
def valleySeen (d : Dev) (n x : Nat) : Dev :=
  let t := d.tileS n
  let pmin := d.fld (pg .tile n) F.TILE.PER_MIN_PERIOD
  let delay := 64 * bitsOf t.live.valley.toNat 0 10
  let fell := t.hTodo.isEmpty && t.hSched.all (fun i => decide (i.2 ≤ x))
  if d.tileMode n = 4 ∧ fell ∧ pmin ≤ x + delay ∧ d.valleyGate n ≤ t.start + x ∧ x ≤ d.fld (pg .tile n) F.TILE.PER_MAX_PERIOD then
    d.modTile n (fun t => { t with
      valleys := t.valleys + 1,
      valleyAt := if t.valleys = bitsOf t.live.valley.toNat 16 3 ∧ t.valleyAt.isNone then some x else t.valleyAt })
  else d

/-- The action of a comparator at position `x`, not blanked (R126, R129). A pulse of OUT that rises later in the same clock does
not rise: the output takes the state that is off. -/
def cmpAct (d : Dev) (n : Nat) (c : Cmp) (x : Nat) : Dev :=
  let t := d.tileS n
  if d.tstate n ≠ 3 then d
  else if d.cmpCuts n c then
    match (t.todo (d.cmpOut n c)).head?.filter (fun i => (t.start + dueAt i) / 64 == (t.start + x) / 64) with
    | some i => (d.tileAdvance n (dueAt i)).cutPulse n c (dueAt i)
    | none => d.cutPulse n c x
  else if d.cmpFunc n c = 3 then d.valleySeen n x
  else d

/-- A comparator of tile `n` sees its input at `uv` µV at position `x` of the period: a change into the tripped state is counted
and acts, masked in a blanking interval; one out of it is shown (R126, R128). -/
def cmpCross (d : Dev) (n : Nat) (c : Cmp) (uv x : Nat) : Dev :=
  let p := pg .tile n
  let d := d.tileAdvance n x
  let f := d.cmpFunc n c
  let was := d.flag p (cmpFlag c)
  if f = 0 ∨ !cmpChanges (d.cmpLive n c).1 was (d.threshold n c x) uv then d
  else if was then
    let d := d.setFlag p (cmpFlag c) false
    if f = 4 then d.tripLevel n else d
  else
    let d := (d.setFlag p (cmpFlag c) true).bump p (match c with | .a => R.TILE.CMPA_TRIPS | .b => R.TILE.CMPB_TRIPS)
    if f = 4 then d.tripLevel n
    else if d.blanked n c x then
      d.modTile n (fun t => t.withBlanks c ((t.blanks c).map (fun b => (b.1, b.2 || decide (t.start + x < b.1)))))
    else d.cmpAct n c x

/-- The blanking intervals of the comparator that have ended by position `x`: BLANKED counts each with a trip inside it, and the
action takes place if the comparator is still tripped and no interval is left (R128). -/
def blankEnd (d : Dev) (n : Nat) (c : Cmp) (x : Nat) : Dev :=
  let p := pg .tile n
  let d := d.tileAdvance n x
  let t := d.tileS n
  let done := (t.blanks c).filter (fun b => decide (b.1 ≤ t.start + x))
  let left := (t.blanks c).filter (fun b => decide (t.start + x < b.1))
  let d := (d.bump p R.TILE.BLANKED (done.filter (fun b => b.2)).length).modTile n (fun t => t.withBlanks c left)
  if !done.isEmpty && left.isEmpty && d.flag p (cmpFlag c) then d.cmpAct n c x else d

end Dev
end Sys2Proof.Machine
end

