-- ==== Sys2Proof/Machine/Disch.lean ====
section
/-!
DEFINITION. The discharge of the DC link (R188–R195, R198, R199). `dischOn` of Machine/React.lean switches it on.
-/
namespace Sys2Proof.Machine
namespace Dev

/-- DSTATE: 0 OFF, 1 RESISTOR, 2 HOLD, 3 CIRCULATE, 4 TIMED_OUT, 5 TEST (R199). -/
def dstate (d : Dev) : Nat := d.fld (pg .disch) F.DISCH.STATUS_DSTATE

/-- A refused operation of DCMD (R191). -/
def dischRefused (d : Dev) : Dev := d.event (pg .disch) F.DISCH.EVENT_CMD_REFUSED

/-- DISCH switched off; DSTATE OFF. -/
def dischOff (d : Dev) : Dev :=
  let d := (d.driveDisch false).setFld (pg .disch) F.DISCH.STATUS_DSTATE 0
  { d with disch := { d.disch with byStart := false } }

/-- DISCH stays on after a SAFE or brown-out trigger (R189). -/
def dischGuarded (d : Dev) : Bool := decide (d.now < d.disch.guardUntil)

/-- After DISARM or HALT, every tile of every group has stopped or is held (R188). -/
def dischDisarmTrigger (d : Dev) : Dev :=
  if d.disch.armed && (List.range 24).all (fun n => d.tstate n != 3) then
    let trig := if d.disch.armedHalt then 2 else 1
    let d := { d with disch := { d.disch with armed := false, armedHalt := false } }
    d.dischOn trig false false
  else d

/-- DCMD START (R191). -/
def dischStart (d : Dev) : Dev := if d.state = 4 then d.dischRefused else d.dischOn 5 false true

/-- DCMD STOP (R191): refused where no discharge that START began is in progress, and while a SAFE or brown-out trigger keeps DISCH
on (log entry 38). -/
def dischStop (d : Dev) : Dev := if d.disch.on && d.disch.byStart && !d.dischGuarded then d.dischOff else d.dischRefused

/-- DCMD CIRCULATE (R192). -/
def circulate (d : Dev) : Dev :=
  let p := pg .disch
  let g := d.fld p F.DISCH.DCFG_RES_GROUP
  if d.state = 4 ∧ d.flag p F.DISCH.DCFG_RES_EN ∧ d.gstate g = 3 then
    if d.disch.on then d.dischOn 6 false false
    else ((d.dischOn 6 false false).setFld p F.DISCH.STATUS_DSTATE 3).modConv g (fun c => { c with circ := true })
  else d.dischRefused

/-- Whether the last result of AF[IN] lies below THRESH. -/
def dischBelow (d : Dev) : Bool :=
  decide (d.newest (d.fld (pg .disch) F.DISCH.DCFG_IN) < (d.fld (pg .disch) F.DISCH.DCFG_THRESH : Int))

/-- DCMD TEST begins (R193). -/
def dischTest (d : Dev) : Dev :=
  let p := pg .disch
  if (d.state = 2 ∨ d.state = 3) ∧ d.dstate = 0 ∧ d.fld p F.DISCH.DCFG_THRESH ≠ 0 ∧ d.dischBelow then
    let d := (d.setFld p F.DISCH.STATUS_DSTATE 5).driveDisch true
    { d with disch := { d.disch with tests := 0, testOw := false, since := d.now } }
  else d.dischRefused

/-- The second half of a TEST: DISCH is driven off after 20 µs (R193). -/
def dischTick (d : Dev) : Dev :=
  if d.dstate = 5 ∧ d.disch.on ∧ d.disch.since + 8000 ≤ d.now then d.driveDisch false else d

/-- The 40 µs of a TEST end; `readback` says that the ball followed each level within 1 µs (R193). -/
def dischTestDone (d : Dev) (readback : Bool) : Dev :=
  let p := pg .disch
  if d.dstate = 5 ∧ d.disch.since + 16000 ≤ d.now then
    let ok := readback && decide (2 ≤ d.disch.tests) && !d.disch.testOw
    let d := d.dischOff
    if ok then ((d.setFlag p F.DISCH.STATUS_CHECKED true).bump p R.DISCH.CHECKS).event p F.DISCH.EVENT_CHECK_PASS
    else d.event p F.DISCH.EVENT_CHECK_FAIL
  else d

/-- DISCH leaves TIMED_OUT once a result lies below THRESH and the FAULT bit is clear (R189). -/
def dischSettle (d : Dev) : Dev :=
  if d.dstate = 4 ∧ d.flag (pg .disch) F.DISCH.STATUS_BELOW ∧ !d.faultBit .disch 0 B.DISCH.DISCH_TIMEOUT ∧
      !d.dischGuarded then d.dischOff else d

/-- A result of AF[DCFG.IN] (R189, R192, R193). -/
def dischResult (d : Dev) (v : Int) : Dev :=
  let p := pg .disch
  let below := decide (v < (d.fld p F.DISCH.DCFG_THRESH : Int))
  let d := (d.setFld p F.DISCH.VOLTAGE_CODE (ofSigned 16 v)).setFlag p F.DISCH.STATUS_BELOW below
  let d := if d.dstate = 5 then { d with disch := { d.disch with tests := d.disch.tests + 1 } } else d
  if below && d.disch.on then
    let st := d.dstate
    if st = 1 ∨ st = 3 then
      let g := d.fld p F.DISCH.DCFG_RES_GROUP
      let d := if st = 3 then d.clearGo g else d
      let ms := (d.now - d.disch.since) / 400000
      let d := { d with disch := { d.disch with holdFrom := d.now } }
      (d.setFld p F.DISCH.STATUS_DSTATE 2).setReg p R.DISCH.LAST_TIME (BitVec.ofNat 32 (min ms 65535))
    else if st = 4 then (d.lower .disch 0 B.DISCH.DISCH_TIMEOUT).dischSettle
    else d
  else d

/-- A result of AF[DCFG.IN] with the OW flag, which a TEST does not pass (R193, R207). -/
def dischOw (d : Dev) : Dev :=
  if d.dstate = 5 then { d with disch := { d.disch with testOw := true } } else d

/-- HOLD, in ms, has elapsed (R189). -/
def dischHoldExpiry (d : Dev) : Dev :=
  let p := pg .disch
  if d.dstate = 2 ∧ d.disch.holdFrom + 400000 * d.fld p F.DISCH.DTIME_HOLD ≤ d.now ∧ !d.dischGuarded then
    ((d.dischOff).bump p R.DISCH.DISCHARGES).event p F.DISCH.EVENT_DONE
  else d

/-- No result has fallen below THRESH by TIME × 10 ms (R189). -/
def dischTimeout (d : Dev) : Dev :=
  let p := pg .disch
  if d.disch.on ∧ (d.dstate = 1 ∨ d.dstate = 3) ∧ d.disch.since + 4000000 * d.fld p F.DISCH.DTIME_TIME ≤ d.now then
    let d := (d.setFld p F.DISCH.STATUS_DSTATE 4).bump p R.DISCH.TIMEOUTS
    d.raiseLevel .disch 0 B.DISCH.DISCH_TIMEOUT (d.fld p F.DISCH.VOLTAGE_CODE)
  else d

/-- The readback of the DISCH ball (R190): `detail` 1 reads low while on, 2 reads high while off, 0 agrees. -/
def dischOutput (d : Dev) (detail : Nat) : Dev :=
  let p := pg .disch
  let d := d.setFlag p F.DISCH.STATUS_BALL (if detail = 1 then false else if detail = 2 then true else d.disch.on)
  if detail = 0 then d.lower .disch 0 B.DISCH.DISCH_OUTPUT else d.raiseLevel .disch 0 B.DISCH.DISCH_OUTPUT detail

end Dev
end Sys2Proof.Machine
end

