-- ==== Sys2Proof/Machine/Supply.lean ====
section
/-!
DEFINITION. Local supply, clocks and power path (R311–R341): the bucks and LDOs, the release boost, VIN and the backup
charger, the clocks and their monitors. Regulators are switched as their domains (R311). Voltages are in mV.
-/
namespace Sys2Proof.Machine
namespace Dev

/-! ## Regulators (R322–R329) -/

/-- A part of the supply beside its registers changed. -/
def modSupply (d : Dev) (f : SupplyS → SupplyS) : Dev := { d with supply := f d.supply }

/-- Buck `n` beside its registers. -/
def buckS (d : Dev) (n : Nat) : BuckS := vget d.supply.buck n {}

/-- Buck `n` changed. -/
def modBuck (d : Dev) (n : Nat) (f : BuckS → BuckS) : Dev :=
  d.modSupply (fun s => { s with buck := vmod s.buck n f })

/-- A bit of a field of REG_STATUS that has one bit per regulator or buck. -/
def regBit (f : Fld) (n : Nat) : Fld := ⟨f.ofs, f.lo + n, 1⟩

/-- Whether regulator `n` (0–3 bucks, 4–8 LDOs) is on. -/
def regOn (d : Dev) (n : Nat) : Bool := d.flag (pg .supply) (regBit F.SUPPLY.REG_STATUS_ON n)

/-- PAIR (R325). -/
def paired (d : Dev) : Bool := d.flag (pg .supply) F.SUPPLY.CFG_PAIR

/-- The buck whose fields and counters govern buck `n` (R325). -/
def buckOf (d : Dev) (n : Nat) : Nat := if d.paired ∧ n = 3 then 0 else n

/-- The bucks that act together with buck `n` (R325). -/
def buckGroup (d : Dev) (n : Nat) : List Nat := if d.paired ∧ (n = 0 ∨ n = 3) then [0, 3] else [n]

/-- The leading phase of the paired rail alternates (R325). -/
def rotateLead (d : Dev) (n : Nat) : Dev :=
  let p := pg .supply
  if d.paired ∧ (n = 0 ∨ n = 3) then
    (d.setFlag p F.SUPPLY.REG_STATUS_LEAD (!d.flag p F.SUPPLY.REG_STATUS_LEAD)).bump p R.SUPPLY.ROTATIONS
  else d

/-- Buck `n` starts softly (R327). -/
def buckSoftStart (d : Dev) (n : Nat) : Dev := (d.modBuck n (fun b => { b with soft := true, off := false, since := d.now })).rotateLead n

/-- One bit of REG_STATUS for buck `n` and the buck that acts with it. -/
def setBucks (d : Dev) (f : Fld) (n : Nat) (on : Bool) : Dev :=
  d.each (d.buckGroup n) (fun d k => d.setFlag (pg .supply) (regBit f k) on)

/-- Whether buck `n` is latched (R327). -/
def buckLatched (d : Dev) (n : Nat) : Bool := d.flag (pg .supply) (regBit F.SUPPLY.REG_STATUS_LATCHED n)

/-- REL_STATE: 0 OFF, 1 SOFT_START, 2 ON, 3 UV_PAUSE, 4 LIMITED, 5 COOL (R341). -/
def relState (d : Dev) : Nat := d.fld (pg .path) F.PATH.PATH_STATUS_REL_STATE

/-- The boost enters a state; DOM9_MASKED follows (R321). -/
def setRel (d : Dev) (st : Nat) : Dev :=
  (d.setFld (pg .path) F.PATH.PATH_STATUS_REL_STATE st).setFlag (pg .path) F.PATH.PATH_STATUS_DOM9_MASKED
    (d.supply.boost.enabled && (st == 3 || st == 4 || st == 5))

/-- The boost beside its registers changed. -/
def modBoost (d : Dev) (f : BoostS → BoostS) : Dev := d.modSupply (fun s => { s with boost := f s.boost })

/-- The boost starts a run (R319). -/
def relStart (d : Dev) : Dev :=
  ((d.modBoost (fun b => { b with pauses := 0, pausedClk := 0, startAt := d.now })).bump (pg .path) R.PATH.REL_RUNS).setRel 1

/-- The boost stops for good, whatever the cause: COOL (R319). -/
def relStop (d : Dev) : Dev :=
  let st := d.relState
  if 1 ≤ st ∧ st ≤ 4 then (d.modBoost (fun b => { b with coolFrom := d.now })).setRel 5 else d.setRel st

/-- DOM[9] enabled or disabled (R319, R320). -/
def relSwitch (d : Dev) (on : Bool) : Dev :=
  let st := d.relState
  let d := d.modBoost (fun b => { b with enabled := on })
  if on then (if st = 0 then d.relStart else d.setRel st)
  else d.relStop

/-- The regulator of domain `n` switched with it (R311, R319, R325). -/
def regSwitch (d : Dev) (n : Nat) (on : Bool) : Dev :=
  let p := pg .supply
  if n = 9 then (if d.supply.boost.enabled = on then d else d.relSwitch on)
  else if 8 < n ∨ (d.paired ∧ n = 3) then d
  else if on then
    if d.regOn n ∨ (n < 4 ∧ d.buckLatched n) then d
    else if n < 4 then (d.setBucks F.SUPPLY.REG_STATUS_ON n true).buckSoftStart n
    else d.setFlag p (regBit F.SUPPLY.REG_STATUS_ON n) true
  else if n < 4 then
    let d := (d.setBucks F.SUPPLY.REG_STATUS_ON n false).setBucks F.SUPPLY.REG_STATUS_BURST n false
    (d.setBucks F.SUPPLY.REG_STATUS_HICCUP n false).modBuck n (fun b => { b with soft := false, off := false })
  else d.setFlag p (regBit F.SUPPLY.REG_STATUS_ON n) false

/-- Whether VSYS stands at 2.0 V or more: in every state but OFF. DEDUCED for CELLAR from R18 and R312: one of VBAK and VSYS is above
2.00 V there, and the VBAK switch holds VSYS at VBAK (log entry 50). -/
def vsysUp (d : Dev) : Bool := d.state != 0

/-- Whether regulator `n` switches or regulates: 0–3 bucks, 4–8 LDOs, 9 the release boost (R319, R320, R327, R328). -/
def regulating (d : Dev) (n : Nat) : Bool :=
  if n = 9 then d.relState == 1 || d.relState == 2
  else d.islandOn && d.regOn n && !(decide (n < 4) && (d.buckS (d.buckOf n)).off)

/-- The discharge path across the output of regulator `n` in Ω, where it is connected (R328): 50 on the paired core rail. -/
def dischargeOhms (d : Dev) (n : Nat) : Option Nat :=
  if !d.vsysUp || d.regulating n then none
  else if d.paired ∧ (n = 0 ∨ n = 3) then some 50
  else some 100

/-- A run of `run` consecutive cycle-limited periods: at NCYC an off-time with the discharge on, or the latch (R327). -/
def buckHiccup (d : Dev) (k run : Nat) : Dev :=
  let p := pg .supply
  let n := d.buckOf k
  if !d.regOn n ∨ (d.buckS n).off ∨ run < d.fld p (F.SUPPLY.BUCK_PROT_NCYC.at n) then d
  else
    let d := d.setBucks F.SUPPLY.REG_STATUS_BURST n false
    if (d.buckS n).retry < d.fld p (F.SUPPLY.BUCK_PROT_RETRY_MAX.at n) then
      let d := (d.setBucks F.SUPPLY.REG_STATUS_HICCUP n true).bump p (R.SUPPLY.HICCUPS + 4 * n)
      (d.event p F.SUPPLY.EVENT_HICCUP).modBuck n (fun b => { b with
        off := true, soft := false, since := d.now, retry := b.retry + 1 })
    else
      let d := (d.setBucks F.SUPPLY.REG_STATUS_LATCHED n true).setBucks F.SUPPLY.REG_STATUS_ON n false
      let d := (d.setBucks F.SUPPLY.REG_STATUS_HICCUP n false).modBuck n (fun b => { b with off := false, soft := false })
      ((d.bump p R.SUPPLY.LATCHES).event p F.SUPPLY.EVENT_LATCH).raiseLevel .supply 0 B.SUPPLY.REG_LATCH n

/-- The off-time has expired after OFF ms (R327). -/
def buckRestart (d : Dev) (k : Nat) : Dev :=
  let n := d.buckOf k
  if d.regOn n ∧ (d.buckS n).off ∧
      (d.buckS n).since + d.fld (pg .supply) (F.SUPPLY.BUCK_PROT_OFF.at n) * 400000 ≤ d.now then d.buckSoftStart n
  else d

/-- The soft start has ended after 500 µs: a restarted buck leaves HICCUP (R327, R339). -/
def buckSoftEnd (d : Dev) (k : Nat) : Dev :=
  let n := d.buckOf k
  if (d.buckS n).soft ∧ (d.buckS n).since + 200000 ≤ d.now then
    (d.setBucks F.SUPPLY.REG_STATUS_HICCUP n false).modBuck n (fun b => { b with soft := false })
  else d

/-- 10 ms without a cycle-limited period (R327). -/
def buckClean (d : Dev) (k : Nat) : Dev :=
  let n := d.buckOf k
  if d.regOn n ∧ !(d.buckS n).off ∧ (d.buckS n).since + 4000000 ≤ d.now then d.modBuck n (fun b => { b with retry := 0 }) else d

/-- UNLATCH written with a mask (R327). `off n` says that DOM[n] is disabled. -/
def supplyUnlatch (d : Dev) (mask : Nat) (off : Nat → Bool) : Dev :=
  let p := pg .supply
  let d := d.each (numbers 4 (bitAt mask)) (fun d n =>
    if off n then (d.setBucks F.SUPPLY.REG_STATUS_LATCHED n false) else d.event p F.SUPPLY.EVENT_CMD_REFUSED)
  if d.fld p F.SUPPLY.REG_STATUS_LATCHED = 0 then d.lower .supply 0 B.SUPPLY.REG_LATCH else d

/-- A low peak current for 64 periods (R326). -/
def buckBurst (d : Dev) (k : Nat) : Dev :=
  let p := pg .supply
  let n := d.buckOf k
  if d.regOn n ∧ !(d.buckS n).off ∧ !(d.buckS n).soft ∧ d.flag p (F.SUPPLY.BUCK_CFG_BURST_EN.at n) ∧
      !d.flag p (regBit F.SUPPLY.REG_STATUS_BURST n) then
    (d.setBucks F.SUPPLY.REG_STATUS_BURST n true).bump p R.SUPPLY.BURSTS
  else d

/-- The output of a buck in burst has fallen 1 %: four periods. `high` says that the peak current of one of them exceeded
30 % of rated, which ends the burst (R325, R326). -/
def buckWake (d : Dev) (k : Nat) (high : Bool) : Dev :=
  let n := d.buckOf k
  if d.flag (pg .supply) (regBit F.SUPPLY.REG_STATUS_BURST n) then
    let d := d.rotateLead n
    if high then d.setBucks F.SUPPLY.REG_STATUS_BURST n false else d
  else d

/-- The window of R324. -/
def syncWindow (d : Dev) : Bool :=
  let cref := d.fld (pg .timebase) F.TIMEBASE.CREF_PERIOD_PERIOD
  let m := d.fld (pg .supply) F.SUPPLY.CFG_MULT
  decide (8534 * m ≤ cref) && decide (cref ≤ 17066 * m)

/-- SYSSRC: 0 RC100, 1 PLL on XTAL, 2 PLL on RC100 / 4 (R337). -/
def sysSrc (d : Dev) : Nat := d.fld (pg .clk) F.CLK.CLK_STATUS_SYSSRC

/-- SYNCED of the bucks after a change of the clock, of MULT or of CREF_PERIOD: set while the system runs on the PLL inside
the window, cleared without a fault off the PLL (R324). -/
def syncBucks (d : Dev) : Dev :=
  if d.sysSrc = 0 then d.setFld (pg .supply) F.SUPPLY.REG_STATUS_SYNCED 0
  else if d.syncWindow then d.setFld (pg .supply) F.SUPPLY.REG_STATUS_SYNCED 15
  else d

/-- The window fails while the PLL runs (R324). -/
def regSyncLoss (d : Dev) (n : Nat) : Dev :=
  let p := pg .supply
  if d.sysSrc ≠ 0 ∧ !d.syncWindow ∧ d.flag p (regBit F.SUPPLY.REG_STATUS_SYNCED n) then
    let d := (d.setFlag p (regBit F.SUPPLY.REG_STATUS_SYNCED n) false).bump p R.SUPPLY.SYNC_LOSSES
    (d.event p F.SUPPLY.EVENT_SYNC_LOST).raise .supply 0 B.SUPPLY.REG_SYNC n
  else d

/-- An LDO held at its limit for 1 ms (R322). -/
def ldoIlim (d : Dev) (k : Nat) : Dev :=
  if d.regOn (4 + k) then d.raise .supply 0 B.SUPPLY.REG_ILIM (4 + k) else d

/-! ## Release boost (R319–R321) -/

/-- The ramp has reached VREL (R319). -/
def relSoftEnd (d : Dev) : Dev := if d.relState = 1 then d.setRel 2 else d

/-- A stop by a limit (R320). -/
def relLimited (d : Dev) (detail : Nat) : Dev :=
  let p := pg .path
  ((d.setRel 4).bump p R.PATH.REL_STOPS).event p F.PATH.EVENT_REL_STOP |>.raise .path 0 B.PATH.REL_FAULT detail

/-- The output current has been held at ILIM for 100 ms, which no run shorter than that can show. -/
def relCurrent (d : Dev) : Dev :=
  if (d.relState = 1 ∨ d.relState = 2) ∧ d.supply.boost.startAt + 40000000 ≤ d.now then d.relLimited 1 else d

/-- The run time, pauses included, has reached TIME. -/
def relTime (d : Dev) : Dev :=
  if 1 ≤ d.relState ∧ d.relState ≤ 3 ∧ d.supply.boost.startAt + d.fld (pg .path) F.PATH.REL_CFG_TIME * 40000000 ≤ d.now then
    d.relLimited 2
  else d

/-- UVLO in mV. -/
def uvlo (d : Dev) : Nat := 2500 + 10 * d.fld (pg .path) F.PATH.REL_UV_UVLO

/-- VBAK at `vbak` mV below UVLO: a pause, or LIMITED at the sixteenth; in a pause, LIMITED once 100 ms have been paused (R320). -/
def relPause (d : Dev) (vbak : Nat) : Dev :=
  let b := d.supply.boost
  let st := d.relState
  if (st = 1 ∨ st = 2) ∧ vbak < d.uvlo then
    let d := (d.bump (pg .path) R.PATH.REL_PAUSES).modBoost
      (fun b => { b with from' := st, pauses := b.pauses + 1, pauseFrom := d.now })
    if 16 ≤ b.pauses + 1 then d.relLimited 3 else d.setRel 3
  else if st = 3 ∧ 40000000 ≤ b.pausedClk + (d.now - b.pauseFrom) then d.relLimited 3
  else d

/-- VBAK back at UVLO + 100 mV (R320). -/
def relResume (d : Dev) (vbak : Nat) : Dev :=
  let b := d.supply.boost
  if d.relState = 3 ∧ d.uvlo + 100 ≤ vbak then
    (d.modBoost (fun b => { b with pausedClk := b.pausedClk + (d.now - b.pauseFrom) })).setRel b.from'
  else d

/-- COOL is over after REL_CFG.COOL s; an enable that arrived in it starts the boost (R319). -/
def relCoolEnd (d : Dev) : Dev :=
  if d.relState = 5 ∧ d.supply.boost.coolFrom + d.fld (pg .path) F.PATH.REL_CFG_COOL * 400000000 ≤ d.now then
    (if d.supply.boost.enabled then d.relStart else d.setRel 0)
  else d

/-! ## VIN and the ideal diodes (R312, R313) -/

/-- VIN_OK. -/
def vinOk (d : Dev) : Bool := d.flag (pg .path) F.PATH.PATH_STATUS_VIN_OK

/-- BAK_STATE: 0 OFF, 1 PRE, 2 CC, 3 CV, 4 DONE, 5 SUSPEND, 6 TIMED_OUT (R315). -/
def bakState (d : Dev) : Nat := d.fld (pg .path) F.PATH.PATH_STATUS_BAK_STATE

/-- BAK_STATE changed. -/
def setBak (d : Dev) (st : Nat) : Dev := d.setFld (pg .path) F.PATH.PATH_STATUS_BAK_STATE st

/-- UV of VIN in mV. -/
def vinUv (d : Dev) : Nat := 2600 + 50 * d.fld (pg .path) F.PATH.VIN_CFG_UV

/-- VIN at `vin` mV has stood at UV or above and 100 mV above VBAK for `ms` ms: VIN_OK sets once that is DEB (R313). -/
def vinSet (d : Dev) (vin vbak ms : Nat) : Dev :=
  if d.vinOk ∨ vin < d.vinUv ∨ vin < vbak + 100 ∨ ms < d.fld (pg .path) F.PATH.VIN_CFG_DEB then d
  else (d.setFlag (pg .path) F.PATH.PATH_STATUS_VIN_OK true).event (pg .path) F.PATH.EVENT_VIN_BACK

/-- VIN at `vin` mV below UV, or 30 mV below VSYS: VIN_OK clears, and the charger is off (R313, R334). -/
def vinLost (d : Dev) (vin vsys : Nat) : Dev :=
  let p := pg .path
  if d.vinOk ∧ (vin < d.vinUv ∨ vin + 30 < vsys) then
    let d := (d.setFlag p F.PATH.PATH_STATUS_VIN_OK false).event p F.PATH.EVENT_VIN_LOST
    let d := { d with supply := { d.supply with vinLostAt := d.now } }
    let d := d.bump p R.PATH.VIN_LOSSES
    if d.bakState = 6 then d else d.setBak 0
  else d

/-- A switch limits its current (R312). `bak` names the VBAK switch. -/
def pathLimit (d : Dev) (bak : Bool) : Dev :=
  let on := if bak then d.flag (pg .path) F.PATH.PATH_STATUS_ON_BAK else d.vinOk
  if on then d.event (pg .path) F.PATH.EVENT_PATH_ILIM else d

/-- The VBAK switch starts or stops conducting (R312). -/
def vbakSwitch (d : Dev) (on : Bool) : Dev := d.setFlag (pg .path) F.PATH.PATH_STATUS_ON_BAK on

/-! ## Backup charger (R315–R318) -/

/-- The charger beside its registers changed. -/
def modBak (d : Dev) (f : BakS → BakS) : Dev := d.modSupply (fun s => { s with bak := f s.bak })

/-- BAK_ELAPSED from the timers. -/
def showBak (d : Dev) : Dev :=
  d.setReg (pg .path) R.PATH.BAK_ELAPSED
    (BitVec.ofNat 32 (d.supply.bak.totT / 60000 % 65536 + 65536 * (d.supply.bak.preT / 60000 % 65536)))

/-- Both timers reset. -/
def bakReset (d : Dev) : Dev := (d.modBak (fun b => { b with preT := 0, totT := 0 })).showBak

/-- Whether the charger must be in SUSPEND (R317). -/
def bakSuspended (d : Dev) : Bool :=
  let p := pg .path
  let z := d.fld p F.PATH.PATH_STATUS_ZONE
  (d.flag p F.PATH.BAK_CFG_TEMP_EN && (z == 0 || 4 ≤ z)) || (1 ≤ d.relState && d.relState ≤ 3)

/-- The supercapacitor is selected. -/
def superCap (d : Dev) : Bool := d.fld (pg .path) F.PATH.BAK_CFG_CELL == 2

/-- VPRE in mV. -/
def vPre (d : Dev) : Nat := 2500 + 10 * d.fld (pg .path) F.PATH.BAK_CFG_VPRE

/-- VCV in mV. -/
def vCv (d : Dev) : Nat := 3000 + 10 * d.fld (pg .path) F.PATH.BAK_CFG_VCV

/-- The most the charger lets flow in its state, in mA: IPRE in PRE, ICC in CC and CV, half of it in the zone cool (PRE, CC), else nothing
(R315, R317). -/
def bakCurrent (d : Dev) : Nat :=
  let p := pg .path
  let half := fun i => if d.fld p F.PATH.PATH_STATUS_ZONE = 1 then i / 2 else i
  match d.bakState with
  | 1 => half (10 * d.fld p F.PATH.BAK_CUR_IPRE)
  | 2 => half (10 * d.fld p F.PATH.BAK_CUR_ICC)
  | 3 => 10 * d.fld p F.PATH.BAK_CUR_ICC
  | _ => 0

/-- The state after a tick with `vbak` mV and `ibak` mA, and the ms below ITERM (R315). -/
def bakNext (d : Dev) (vbak ibak : Nat) : Nat × Nat :=
  let p := pg .path
  let st := d.bakState
  let limit := if d.fld p F.PATH.PATH_STATUS_ZONE = 3 then min d.vCv 4000 else d.vCv
  let low := !d.superCap && decide (ibak < d.fld p F.PATH.BAK_CUR_ITERM)
  let term := if st = 3 ∧ low then d.supply.bak.termT + 1 else 0
  let next :=
    if st = 6 then 6
    else if !d.flag p F.PATH.BAK_CFG_EN ∨ !d.vinOk then 0
    else if st = 0 then (if vbak < d.vPre ∧ !d.superCap then 1 else 2)
    else if st = 5 then (if d.bakSuspended then 5 else d.supply.bak.from')
    else if d.bakSuspended then 5
    else if st = 1 then (if d.vPre ≤ vbak then 2 else 1)
    else if st = 2 then (if limit ≤ vbak then 3 else 2)
    else if st = 3 then (if low ∧ d.fld p F.PATH.BAK_TIME_TERM_TIME * 1000 ≤ term then 4 else 3)
    else (if vbak + 10 * d.fld p F.PATH.BAK_CFG_VRECHG < d.vCv then 2 else 4)
  (next, term)

/-- One tick of 1 ms (R315, R318) with VBAK at `vbak` mV and `ibak` mA of charge current as the cell would take it. It runs in every
state but OFF. -/
def chargerTick (d : Dev) (vbak ibak : Nat) : Dev :=
  let p := pg .path
  if d.state = 0 then d
  else
    let ibak := min ibak d.bakCurrent
    let d := if d.vinOk then d.setReg p R.PATH.BAK_MEAS (BitVec.ofNat 32 (min vbak 65535 + 65536 * min ibak 65535)) else d
    let st := d.bakState
    let d := d.modBak (fun b => { b with
      preT := if d.vinOk && st == 1 then b.preT + 1 else b.preT,
      totT := if d.vinOk && (st == 1 || st == 2 || (st == 3 && !d.superCap)) then b.totT + 1 else b.totT })
    let r := d.bakNext vbak ibak
    let d := (d.showBak.setBak r.1).modBak (fun b => { b with termT := r.2, from' := if r.1 = 5 ∧ st ≠ 5 then st else b.from' })
    let d := if r.1 = 5 ∧ st ≠ 5 then d.bump p R.PATH.BAK_SUSPENDS else d
    let d := if r.1 = 4 ∧ st = 3 then (d.bump p R.PATH.BAK_CYCLES).event p F.PATH.EVENT_BAK_DONE else d
    if r.1 = 2 ∧ st = 4 then d.bakReset else d

/-- Zone of a TBAK code (R317). -/
def bakZone (d : Dev) (code : Nat) : Nat :=
  let p := pg .path
  if 250 ≤ code ∨ code ≤ 5 then 5
  else if d.fld p F.PATH.BAK_ZONE_COLD < code then 0
  else if d.fld p F.PATH.BAK_ZONE_COOL < code then 1
  else if d.fld p F.PATH.BAK_ZONE_WARM < code then 2
  else if d.fld p F.PATH.BAK_ZONE_HOT < code then 3
  else 4

/-- A measurement of TBAK, `uv` µV on the ball (R317). -/
def tbakMeasure (d : Dev) (uv : Nat) : Dev :=
  let p := pg .path
  if d.state = 0 ∨ !d.flag p F.PATH.BAK_CFG_TEMP_EN then d
  else
    let code := min 255 ((512 * uv + 1200000) / 2400000)
    let z := d.bakZone code
    let d := d.setFld p F.PATH.PATH_STATUS_TBAK code
    let d := d.modBak (fun b => { b with cand := z, candRun := if b.cand = z then b.candRun + 1 else 1 })
    if 3 ≤ d.supply.bak.candRun ∧ z ≠ d.fld p F.PATH.PATH_STATUS_ZONE then
      let d := (d.setFld p F.PATH.PATH_STATUS_ZONE z).event p F.PATH.EVENT_ZONE_CHANGE
      d.level .path 0 B.PATH.BAK_NTC (z == 5) code
    else d

/-- A timer of the charger has expired (R318). -/
def bakTimerExpiry (d : Dev) : Dev :=
  let p := pg .path
  let b := d.supply.bak
  if d.bakState = 6 then d
  else if d.fld p F.PATH.BAK_TIME_PRE_TIME * 60000 ≤ b.preT then (d.setBak 6).raise .path 0 B.PATH.BAK_TIMER 1
  else if d.fld p F.PATH.BAK_TIME_TOTAL * 600000 ≤ b.totT then (d.setBak 6).raise .path 0 B.PATH.BAK_TIMER 2
  else d

/-- BAK_CMD.RESTART (R318). -/
def bakRestart (d : Dev) : Dev :=
  let d := d.bakReset
  if d.bakState = 6 then d.setBak 0 else d

/-- Whether BAK_CFG, BAK_CUR and BAK_ZONE stand within R316. -/
def bakConfigOk (d : Dev) : Bool :=
  let p := pg .path
  let cell := d.fld p F.PATH.BAK_CFG_CELL
  let z := fun f => d.fld p f
  (cell == 2 || d.flag p F.PATH.BAK_CFG_TEMP_EN) && (cell != 1 || decide (d.vCv ≤ 3650)) &&
  decide (d.fld p F.PATH.BAK_CUR_IPRE ≤ d.fld p F.PATH.BAK_CUR_ICC) &&
  decide (z F.PATH.BAK_ZONE_COOL < z F.PATH.BAK_ZONE_COLD) && decide (z F.PATH.BAK_ZONE_WARM < z F.PATH.BAK_ZONE_COOL) &&
  decide (z F.PATH.BAK_ZONE_HOT < z F.PATH.BAK_ZONE_WARM)

/-! ## Clocks (R330–R333) -/

/-- SYSSRC changed. What the pairs count while the clock is not at 400 MHz is left open (log entry 60). -/
def setSysSrc (d : Dev) (s : Nat) : Dev :=
  let d := if s = 0 then { d with comp := { d.comp with cycLost := true } } else d
  ((d.setFld (pg .clk) F.CLK.CLK_STATUS_SYSSRC s).event (pg .clk) F.CLK.EVENT_SWITCHED).syncBucks

/-- The PLL has locked on XTAL after a reset, and the system changes to it; no criterion of R331 is met (R330). -/
def sysclkToPll (d : Dev) : Dev :=
  let p := pg .clk
  if d.sysSrc = 0 ∧ !d.supply.pllLost ∧ d.islandOn then
    let d := d.each [F.CLK.CLK_STATUS_XTAL_OK, F.CLK.CLK_STATUS_PLL_LOCK, F.CLK.CLK_STATUS_RC_OK, F.CLK.CLK_STATUS_ISL_OK]
      (fun d f => d.setFlag p f true)
    (d.setFlag p F.CLK.CLK_STATUS_X32_OK (!d.flag (pg .rtc) F.RTC.STATUS_ON_RC)).setSysSrc 1
  else d

/-- XTAL has not qualified within 10 ms: the PLL locks on RC100 / 4 (R330). -/
def xtalTimeout (d : Dev) : Dev :=
  let p := pg .clk
  if d.sysSrc = 0 ∧ !d.supply.pllLost ∧ d.islandOn ∧ d.comp.resetAt + 4000000 ≤ d.now then
    let d := d.each [F.CLK.CLK_STATUS_PLL_LOCK, F.CLK.CLK_STATUS_RC_OK, F.CLK.CLK_STATUS_ISL_OK]
      (fun d f => d.setFlag p f true)
    let d := (d.setFlag p F.CLK.CLK_STATUS_X32_OK (!d.flag (pg .rtc) F.RTC.STATUS_ON_RC)).setSysSrc 2
    d.raiseLevel .clk 0 B.CLK.CLK_XTAL
  else d

/-- XTAL is lost (R331, R332, R334). -/
def xtalLoss (d : Dev) : Dev :=
  let p := pg .clk
  if d.flag p F.CLK.CLK_STATUS_XTAL_OK then
    let d := (d.setFlag p F.CLK.CLK_STATUS_XTAL_OK false).bump p R.CLK.MON_ALARMS
    let d := ((d.bump p R.CLK.XTAL_LOSSES).bump p R.CLK.SWITCHES).event p F.CLK.EVENT_XTAL_LOST
    let d := if d.sysSrc = 1 then d.setSysSrc 2 else d
    (d.modSupply (fun s => { s with xtalAt := d.now })).raiseLevel .clk 0 B.CLK.CLK_XTAL
  else d

/-- XTAL has been good for 10 ms (R332). Without AUTO_BACK the reference stays. -/
def xtalBack (d : Dev) : Dev :=
  let p := pg .clk
  if d.flag p F.CLK.CLK_STATUS_XTAL_OK ∨ !d.islandOn ∨ d.now < d.supply.xtalAt + 4000000 then d
  else
    let d := (d.setFlag p F.CLK.CLK_STATUS_XTAL_OK true).lower .clk 0 B.CLK.CLK_XTAL
    if d.flag p F.CLK.CLK_CFG_AUTO_BACK then
      let d := (d.bump p R.CLK.SWITCHES).event p F.CLK.EVENT_XTAL_BACK
      if d.sysSrc = 2 then d.setSysSrc 1 else d
    else d

/-- The PLL is lost: RC100 until the next device reset (R333). -/
def pllLoss (d : Dev) : Dev :=
  let p := pg .clk
  if d.sysSrc = 0 then d
  else
    let d := (d.setFlag p F.CLK.CLK_STATUS_PLL_LOCK false).bump p R.CLK.MON_ALARMS
    ((d.modSupply (fun s => { s with pllLost := true })).setSysSrc 0).raiseLevel .clk 0 B.CLK.CLK_PLL

/-- RC100 or ISLRC (`isl`) meets its criterion, or no longer does (`good`) (R331). -/
def clockAlarm (d : Dev) (isl good : Bool) : Dev :=
  let p := pg .clk
  let f := if isl then F.CLK.CLK_STATUS_ISL_OK else F.CLK.CLK_STATUS_RC_OK
  let b := if isl then B.CLK.CLK_ISLAND else B.CLK.CLK_RC
  if !d.islandOn then d
  else if good then (d.setFlag p f true).lower .clk 0 b
  else if d.flag p f then ((d.setFlag p f false).bump p R.CLK.MON_ALARMS).raiseLevel .clk 0 b
  else d

end Dev
end Sys2Proof.Machine
end

