-- ==== Sys2Proof/Machine/Domain.lean ====
section
/-!
DEFINITION. The judgement of the supply domains (R342–R348, R366).
-/
namespace Sys2Proof.Machine
namespace Dev

/-- DSTATE of domain `n`: 0 OFF, 1 RAMP, 2 ON, 3 FALLING (R345). -/
def domState (d : Dev) (n : Nat) : Nat := d.fld (pg .dom n) F.DOM.STATUS_DSTATE

/-- Domain `n` beside its registers. -/
def domS (d : Dev) (n : Nat) : DomS := vget d.dom n {}

/-- Domain `n` changed. -/
def modDom (d : Dev) (n : Nat) (f : DomS → DomS) : Dev := { d with dom := vmod d.dom n f }

/-- CONFIRM + 1 consecutive results, as a condition on a run (R345, R346). -/
def domConfirmed (d : Dev) (n run : Nat) : Bool := decide (d.fld (pg .dom n) F.DOM.DCFG_CONFIRM < run)

/-- DOM[3] mirrors DOM[0] under PAIR (R344). -/
def domPaired (d : Dev) (n : Nat) : Bool := n == 3 && d.flag (pg .supply) F.SUPPLY.CFG_PAIR

/-- Whether judgement of a domain is suspended (R321, R344, R348). -/
def domMasked (d : Dev) (n : Nat) : Bool :=
  d.domPaired n || (d.state == 6 && !bitAt (d.fld (pg .monadc) F.MONADC.HIB_MASK_LO_CH) n) ||
    (n == 9 && d.flag (pg .path) F.PATH.PATH_STATUS_DOM9_MASKED)

/-- A domain enters a state, and its regulator is switched with it; the mirror of R344 follows DOM[0]. -/
def setDomState (d : Dev) (n st : Nat) : Dev :=
  let d := (d.setFld (pg .dom n) F.DOM.STATUS_DSTATE st).modDom n (fun _ => { since := d.now })
  let d := if st = 1 then d.regSwitch n true else if st = 3 ∨ st = 0 then d.regSwitch n false else d
  if n = 0 ∧ d.domPaired 3 then d.setFld (pg .dom 3) F.DOM.STATUS_DSTATE st else d

/-- A monitor result of the domain's tap (R345, R346): the runs, the window bit, and OFF. -/
def domJudge (d : Dev) (n v : Nat) : Dev :=
  let p := pg .dom n
  if d.domMasked n then d
  else
    let lo := decide (v < d.fld p F.DOM.WIN_UV)
    let hi := decide (d.fld p F.DOM.WIN_OV < v)
    let st := d.domState n
    let d := d.setFlag p F.DOM.STATUS_IN_WIN (!lo && !hi)
    let d := d.modDom n (fun s => { s with
      inRun := if st = 1 ∧ !lo ∧ !hi then s.inRun + 1 else 0,
      uvRun := if st = 2 ∧ lo then s.uvRun + 1 else 0,
      ovRun := if (st = 1 ∨ st = 2) ∧ hi then s.ovRun + 1 else 0 })
    let d := if lo then d else d.lower .dom n B.DOM.DOM_UV
    let d := if hi then d else d.lower .dom n B.DOM.DOM_OV
    if st = 3 ∧ v < d.fld p F.DOM.OFF_CFG_OFF then (d.setDomState n 0).event p F.DOM.EVENT_REACHED_OFF else d

/-- CONFIRM + 1 in-window results in RAMP (R345). -/
def domainOn (d : Dev) (n : Nat) : Dev :=
  if d.domState n = 1 ∧ d.domConfirmed n (d.domS n).inRun then
    (d.setDomState n 2).event (pg .dom n) F.DOM.EVENT_REACHED_ON
  else d

/-- The cut of R347. -/
def domCut (d : Dev) (n : Nat) : Dev :=
  let p := pg .dom n
  if (n = 3 ∨ n = 6 ∨ n = 8) ∧ d.flag p F.DOM.DCFG_CUT then
    (((d.setDomState n 3).setFlag p F.DOM.STATUS_CUT true).bump p R.DOM.CUTS).event p F.DOM.EVENT_CUT
  else d

/-- UV is met (R346, R347). -/
def railUv (d : Dev) (n : Nat) : Dev :=
  let p := pg .dom n
  if d.domState n = 2 ∧ d.domConfirmed n (d.domS n).uvRun ∧ !d.active (srcNo .dom n B.DOM.DOM_UV) then
    let v := d.fld (pg .monadc) (F.MONADC.RESULT_RESULT.at n)
    ((d.bump p R.DOM.UV_EVENTS).raiseLevel .dom n B.DOM.DOM_UV v).domCut n
  else d

/-- OV is met (R346, R347). -/
def railOv (d : Dev) (n : Nat) : Dev :=
  let p := pg .dom n
  if (d.domState n = 1 ∨ d.domState n = 2) ∧ d.domConfirmed n (d.domS n).ovRun ∧ !d.active (srcNo .dom n B.DOM.DOM_OV) then
    let v := d.fld (pg .monadc) (F.MONADC.RESULT_RESULT.at n)
    ((d.bump p R.DOM.OV_EVENTS).raiseLevel .dom n B.DOM.DOM_OV v).domCut n
  else d

/-- The domain's FAULT register has been cleared to 0 (R347). -/
def domFaultCleared (d : Dev) (n : Nat) : Dev :=
  if d.reg (pg .dom n) R.HDR.FAULT = 0 then d.setFlag (pg .dom n) F.DOM.STATUS_CUT false else d

end Dev
end Sys2Proof.Machine
end

