-- ==== Sys2Proof/Machine/Seq.lean ====
section
/-!
DEFINITION. The sequencer (R342–R365): programs and their steps, the power-down run, the requests it latches, the stair and
the reset outputs. What the end of a run leads to is in Machine/Power.lean.
-/
namespace Sys2Proof.Machine

/-! ## Step encoding (R352) -/

/-- OP of a step. -/
def stepOp (w : Nat) : Nat := bitsOf w 28 4

/-- Domain of ENABLE, DISABLE and WAITV, and NUMBER of STAIR. -/
def stepDom (w : Nat) : Nat := bitsOf w 0 4

/-- TARGET of WAITV and STAIR. -/
def stepTarget (w : Nat) : Nat := bitsOf w 4 8

/-- Whether CHECK lists the condition (R353). -/
def condListed (c : Nat) : Bool :=
  decide (c ≤ 0x23) || (decide (0x28 ≤ c) && decide (c ≤ 0x2F)) || (decide (0x30 ≤ c) && decide (c ≤ 0x3F))

/-- A step that may be executed: its OP is listed and its reserved bits are 0 (R352, R353). -/
def stepValid (w : Nat) : Bool :=
  match stepOp w with
  | 0 => bitsOf w 0 28 == 0
  | 1 => bitsOf w 4 24 == 0
  | 2 => bitsOf w 4 24 == 0
  | 3 => bitsOf w 18 10 == 0
  | 4 => bitsOf w 26 2 == 0
  | 5 => bitsOf w 17 11 == 0 && condListed (bitsOf w 8 8)
  | 6 => bitsOf w 8 20 == 0
  | 7 => bitsOf w 26 2 == 0
  | 8 => bitsOf w 5 23 == 0 && bitsOf w 2 2 == 0
  | 9 => bitsOf w 8 20 == 0
  | _ => false

/-- Parent of a domain (R342). -/
def domParent (n : Nat) : Option Nat :=
  if n = 4 ∨ n = 5 then some 2 else if 10 ≤ n ∧ n ≤ 15 then some 0 else none

/-- Pages whose blocks lie in a switched domain and lose their content with it (R342; log entry 10). -/
def domPages (n : Nat) : List PageKind :=
  if n = 12 then [.galley, .ring, .bin] else if n = 13 then [.tile, .conv] else if n = 14 then [.adc, .openwire, .cal]
  else if n = 15 then [.can, .t1s, .check] else []

namespace Dev

/-! ## Where the program stands -/

/-- The sequencer changed. -/
def modSeq (d : Dev) (f : SeqS → SeqS) : Dev := { d with seq := f d.seq }

/-- PHASE: 0 IDLE, 1 UP, 2 WAKE, 3 SLEEP, 4 DOWN, 5 UNWIND, 6 AUX, 7 HOLD_OFF, 8 PARKED, 9 ERROR (R365). -/
def phase (d : Dev) : Nat := d.fld (pg .seq) F.SEQ.SEQ_STATUS_PHASE

/-- PHASE changed. -/
def setPhase (d : Dev) (n : Nat) : Dev := d.setFld (pg .seq) F.SEQ.SEQ_STATUS_PHASE n

/-- A stored program runs. -/
def progRuns (d : Dev) : Bool := (decide (1 ≤ d.phase) && decide (d.phase ≤ 4)) || d.phase == 6

/-- A power-down run is in progress (R350). -/
def powerDown (d : Dev) : Bool := decide (3 ≤ d.phase) && decide (d.phase ≤ 5)

/-- Word `i` of program memory. -/
def prog (d : Dev) (i : Nat) : Nat := (d.reg (pg .seq) (R.SEQ.PROG + 4 * (i % 256))).toNat

/-- Every RSTOUT asserted (R359). -/
def assertResets (d : Dev) : Dev := d.setReg (pg .seq) R.SEQ.RST_STATUS 0x0F

/-- A program begins at a step (R350). -/
def enterProgram (d : Dev) (ph entry : Nat) : Dev :=
  (d.setPhase ph).modSeq (fun s => { s with upDue := false, pc := entry, wait := .none, stopReq := false })

/-- A run of programs begins: it counts in RUNS (R350). -/
def startRun (d : Dev) (ph entry : Nat) : Dev :=
  ((d.bump (pg .seq) R.SEQ.RUNS).enterProgram ph entry).modSeq (fun s => { s with lastDis := none, left := [] })

/-- UP begins, after every RSTOUT is asserted (R350). -/
def startUp (d : Dev) : Dev := d.assertResets.startRun 1 (d.fld (pg .seq) F.SEQ.ENTRY_UP)

/-- WAKE begins. -/
def startWake (d : Dev) : Dev := d.assertResets.startRun 2 (d.fld (pg .seq) F.SEQ.ENTRY_WAKE)

/-- SLEEP begins, the first program of a power-down run that leads to `goal`. It latches the wake settings of CAN and of the
host port (R524). -/
def startSleep (d : Dev) (goal : SeqGoal) : Dev :=
  let can := fun (n : Nat) => b2n (d.flag (pg .can n) F.CAN.WAKE_CFG_EN)
  let host := d.flag (pg .hostport) F.HOSTPORT.CFG_WAKE_EN
  let dom := fun (n : Nat) => d.fld (pg .can n) F.CAN.WAKE_CFG_DOM + 5
  (d.startRun 3 (d.fld (pg .seq) F.SEQ.ENTRY_SLEEP)).modSeq (fun s =>
    { s with goal := goal, wakeCan := can 0 + 2 * can 1, wakeHost := host, wakeDom := #v[dom 0, dom 1] })

/-- The BOOT that the state after reset stands in begins with UP. -/
def seqBegin (d : Dev) : Dev := if d.seq.upDue && d.cel.islandUp && d.state == 2 && d.phase == 0 then d.startUp else d

/-- The step that is executed next; none while no program runs, or while a step waits. -/
def curStep (d : Dev) : Option Nat := if d.progRuns && d.seq.wait == .none then some (d.prog d.seq.pc) else none

/-- SEQ_STEP raised for the present step (R363). -/
def stepFault (d : Dev) (cause : Nat) : Dev := d.raise .seq 0 B.SEQ.SEQ_STEP (d.seq.pc % 256 + 256 * cause)

/-- A program ends in order: IDLE and PROG_END. -/
def progEnd (d : Dev) : Dev := (d.setPhase 0).event (pg .seq) F.SEQ.EVENT_PROG_END

/-- The step boundary: an AUX program ends for STOP_AUX, or for a power-down run that waits for it (R350, R365). -/
def boundary (d : Dev) : Dev :=
  if d.phase = 6 ∧ d.seq.goal ≠ .none then d.progEnd.startSleep d.seq.goal
  else if d.phase = 6 ∧ d.seq.stopReq then d.progEnd.modSeq (fun s => { s with stopReq := false })
  else d

/-- The step has been executed; step `n` is next. -/
def goto (d : Dev) (n : Nat) : Dev := (d.modSeq (fun s => { s with pc := n % 256, wait := .none })).boundary

/-- The next step. -/
def nextStep (d : Dev) : Dev := d.goto (d.seq.pc + 1)

/-- A command of one step kind: it acts if the step executed next is a valid one of that kind. -/
def stepOf (d : Dev) (op : Nat) (f : Dev → Nat → Dev) : Dev :=
  let d := d.seqBegin
  match d.curStep with
  | some w => if stepValid w && stepOp w == op then f (d.setFld (pg .seq) F.SEQ.SEQ_STATUS_STEP d.seq.pc) w else d
  | none => d

/-! ## Order and domains (R342–R344, R354) -/

/-- Domains in the order of their latest ENABLE (R354, R365). -/
def order (d : Dev) : List Nat :=
  (List.range (d.fld (pg .seq) F.SEQ.ORDER_DEPTH_DEPTH)).map (fun i =>
    bitsOf (d.reg (pg .seq) (R.SEQ.ORDER_LO + 4 * (i / 8))).toNat (4 * (i % 8)) 4)

/-- The order written to its registers. -/
def setOrder (d : Dev) (l : List Nat) : Dev :=
  let word := fun (k : Nat) => (List.range 8).foldl (fun (a : Nat) i => a + (l.getD (8 * k + i) 0) * 16 ^ i) 0
  ((d.setReg (pg .seq) R.SEQ.ORDER_LO (BitVec.ofNat 32 (word 0))).setReg (pg .seq) R.SEQ.ORDER_HI
    (BitVec.ofNat 32 (word 1))).setReg (pg .seq) R.SEQ.ORDER_DEPTH (BitVec.ofNat 32 l.length)

/-- The registers of every page of a kind return to their reset values. -/
def resetPages (d : Dev) (k : PageKind) : Dev :=
  { d with regs := Sparse.keep (fun key =>
      let p := (key % 0x100000) / 0x1000
      !(decide (pg k ≤ p) && decide (p < pg k + k.first.2))) d.regs }

/-- The memory of a switched domain: first address and size (R24, R472). -/
def domMemory (n : Nat) : List (Nat × Nat) :=
  if n = 10 then [(0x10000000, 0x200000)] else if n = 11 then [(0x20000000, 0x400000)]
  else if n = 12 then [(0x30000000, 0x200000), (0x38000000, 0x20000)] else []

/-- Memory ranges set to 0. -/
def zeroMemory (d : Dev) (l : List (Nat × Nat)) : Dev :=
  { d with mem := Sparse.keep (fun a => !l.any (fun r => decide (r.1 ≤ a) && decide (a < r.1 + r.2))) d.mem }

/-- A switched domain has gone OFF: what lies in it loses its content (R342; log entry 10). -/
def domContentLost (d : Dev) (n : Nat) : Dev :=
  let d := (d.each (domPages n) resetPages).zeroMemory (domMemory n)
  if n = 12 then { d with gal := {}, ring := Vector.replicate 96 {}, bin := Vector.replicate 64 {} }
  else if n = 13 then { d with tile := Vector.replicate 24 {}, conv := Vector.replicate 8 {} }
  else if n = 14 then { d with adc := Vector.replicate 16 {}, af := Vector.replicate 64 {}, ow := {} }
  else d

/-- A domain has entered OFF: it leaves the order, DOM_OFF_TIMEOUT ends, and its content is lost. -/
def domOff (d : Dev) (n : Nat) : Dev :=
  (((d.setOrder (d.order.filter (fun m => m != n))).lower .dom n B.DOM.DOM_OFF_TIMEOUT).domContentLost n).modSeq
    (fun s => { s with offAt := d.now })

/-- A monitor result of a domain's tap, with what OFF brings (R345, R354). -/
def domResult (d : Dev) (n v : Nat) : Dev :=
  let was := d.domState n
  let d := d.domJudge n v
  if was ≠ 0 ∧ d.domState n = 0 then d.domOff n else d

/-- An AUX program may name the domain (R350). -/
def auxMayName (d : Dev) (n : Nat) : Bool :=
  n == 3 || n == 6 || n == 7 || n == 8 || n == 9 || n == 15 || ((n == 13 || n == 14) && d.state == 3)

/-- A step of an AUX program names a domain that it may not: SEQ_STEP, and the step is not made (R350). -/
def named (d : Dev) (n : Nat) (f : Dev → Dev) : Dev :=
  if d.phase = 6 ∧ !d.auxMayName n then (d.stepFault 0x03).nextStep else f d

/-- ENABLE (R343, R344, R345, R347, R352). -/
def stepEnable (d : Dev) : Dev :=
  d.stepOf 1 (fun d w =>
    let n := stepDom w
    d.named n (fun d =>
      if d.domState n ≠ 0 ∨ d.domPaired n ∨ d.flag (pg .dom n) F.DOM.STATUS_CUT then d.nextStep
      else if ((domParent n).map (fun q => d.domState q != 2)).getD false then (d.stepFault 0x02).nextStep
      else
        let d := (d.setDomState n 1).bump (pg .dom n) R.DOM.ENABLES
        (d.setOrder (d.order.filter (fun m => m != n) ++ [n])).nextStep))

/-- The step stalls until the domain disabled before it in the run is OFF (R354). -/
def stalled (d : Dev) : Bool :=
  d.powerDown && (match d.seq.lastDis with | some n => d.domState n != 0 | none => false)

/-- A domain switched off by a DISABLE that is made. -/
def disable (d : Dev) (n : Nat) : Dev :=
  (d.setDomState n 3).modSeq (fun s => { s with lastDis := if d.powerDown then some n else s.lastDis })

/-- The domains that the unwind has still to disable, first one first. -/
def unwindLeft (d : Dev) : List Nat := d.seq.left.filter (fun n => d.domState n != 0)

/-- DISABLE of a program, or the next one of the unwind (R343, R352, R354). -/
def stepDisable (d : Dev) : Dev :=
  if d.phase = 5 then
    match d.unwindLeft with
    | [] => d
    | n :: l => if d.stalled then d else (d.disable n).modSeq (fun s => { s with left := l })
  else
    d.stepOf 2 (fun d w =>
      let n := stepDom w
      d.named n (fun d =>
        if d.domState n = 0 ∨ d.domPaired n then d.nextStep
        else if d.stalled then d
        else if (List.range 16).any (fun c => domParent c == some n && d.domState c != 0) then
          (d.stepFault 0x02).nextStep
        else (d.disable n).nextStep))

/-- A domain in FALLING has not reached OFF within its OFF_TIME, in units of 0.1 ms: what stalls on it proceeds (R345, R354).
DEDUCED: the table of R345 judges OFF_TIME in every FALLING, a cut's and an AUX program's included (log entry 52). -/
def domOffTimeout (d : Dev) (n : Nat) : Dev :=
  let s := d.domS n
  if d.domState n = 3 ∧ !s.late ∧ s.since + 40000 * d.fld (pg .dom n) F.DOM.OFF_CFG_OFF_TIME ≤ d.now then
    let v := d.fld (pg .monadc) (F.MONADC.RESULT_RESULT.at n)
    (((d.modDom n (fun s => { s with late := true })).bump (pg .dom n) R.DOM.OFF_TIMEOUTS).raiseLevel .dom n
      B.DOM.DOM_OFF_TIMEOUT v).modSeq (fun s => { s with lastDis := if s.lastDis = some n then none else s.lastDis })
  else d

/-! ## Waits, checks and jumps -/

/-- The step waits from this clock on. -/
def beginWait (d : Dev) (k : SeqWait) : Dev := d.modSeq (fun s => { s with wait := k, waitAt := d.now })

/-- A wait of kind `k` has lasted `n` clocks. -/
def waited (d : Dev) (k : SeqWait) (n : Nat) : Bool := d.progRuns && d.seq.wait == k && decide (d.seq.waitAt + n ≤ d.now)

/-- WAIT (R352). -/
def stepWait (d : Dev) : Dev := d.stepOf 3 (fun d _ => d.beginWait .time)

/-- Clocks of a WAIT: TIME in units of 1, 10 or 100 µs or 1 ms (R352). -/
def waitClocks (w : Nat) : Nat := 400 * 10 ^ bitsOf w 16 2 * bitsOf w 0 16

/-- The time of a WAIT has elapsed. -/
def waitExpiry (d : Dev) : Dev := if d.waited .time (waitClocks (d.prog d.seq.pc)) then d.nextStep else d

/-- The domain that a WAITV waits for is ON; DOM[0] stands for a paired DOM[3] (R352). -/
def waitvMet (d : Dev) (w : Nat) : Bool :=
  let n := stepDom w
  d.domState (if d.domPaired n then 0 else n) == 2

/-- WAITV (R352). -/
def stepWaitv (d : Dev) : Dev :=
  d.stepOf 4 (fun d w => d.named (stepDom w) (fun d =>
    if d.waitvMet w then d.nextStep else d.beginWait .waitv))

/-- A WAITV in progress completes if its domain has become ON. -/
def waitvCheck (d : Dev) : Dev :=
  if d.progRuns ∧ d.seq.wait = .waitv ∧ d.waitvMet (d.prog d.seq.pc) then d.nextStep else d

/-- TIMEOUT of WAITV and STAIR. -/
def stepTimeout (w : Nat) : Nat := bitsOf w 12 14

/-- The timeout of a WAITV, in units of 10 µs; ON on the same clock completes it (R352, R362). -/
def waitvTimeout (d : Dev) : Dev :=
  let w := d.prog d.seq.pc
  if d.waited .waitv (4000 * stepTimeout w) then (if d.waitvMet w then d.nextStep else d.goto (stepTarget w)) else d

/-- A domain enters ON: its memory is written to 0, which no access sees half done, since accesses stall until the clearing is
complete; and the WAITV that waits for it completes (R345, R352, R476). -/
def domainOnSeq (d : Dev) (n : Nat) : Dev :=
  let was := d.domState n
  let d := d.domainOn n
  let d := if was = 1 ∧ d.domState n = 2 ∧ 10 ≤ n ∧ n ≤ 12 then
    { d.zeroMemory (domMemory n) with comp := { d.comp with clearDue := n :: d.comp.clearDue.filter (fun m => m != n) } }
    else d
  d.waitvCheck

/-- A condition of CHECK (R353). -/
def condition (d : Dev) (c : Nat) : Bool :=
  if c ≤ 0x0F then d.domState c == 2
  else if c ≤ 0x1F then d.domState (c - 0x10) == 0
  else if c = 0x20 then d.vinOk
  else if c = 0x21 then d.flag (pg .seq) F.SEQ.SEQ_STATUS_ON_REQ
  else if c = 0x22 then d.flag (pg .supply) F.SUPPLY.CFG_PAIR
  else if c = 0x23 then d.state == 4
  else if c ≤ 0x2F then bitAt (d.fld (pg .seq) F.SEQ.SEQ_STATUS_GO) (c - 0x28)
  else d.fld (pg .seq) F.SEQ.SEQ_STATUS_STAIR_NUM == c - 0x30

/-- A GO flag set or cleared (R353). -/
def setGo (d : Dev) (f : Nat) (on : Bool) : Dev := d.setFlag (pg .seq) ⟨R.SEQ.SEQ_STATUS, 16 + f % 8, 1⟩ on

/-- CHECK (R353). -/
def stepCheck (d : Dev) : Dev :=
  d.stepOf 5 (fun d w =>
    let c := bitsOf w 8 8
    let v := d.condition c
    let d := if 0x28 ≤ c ∧ c ≤ 0x2F ∧ v then d.setGo (c - 0x28) false else d
    if v = bitAt w 16 then d.goto (bitsOf w 0 8) else d.nextStep)

/-- JUMP (R352). -/
def stepJump (d : Dev) : Dev := d.stepOf 6 (fun d w => d.goto (bitsOf w 0 8))

/-! ## Stair (R358) -/

/-- The line is held low, or released; what it then shows is low until the other members have released it too. -/
def stairRelease (d : Dev) (on : Bool) : Dev :=
  (d.setFlag (pg .seq) F.SEQ.SEQ_STATUS_STAIR_REL on).setFlag (pg .seq) F.SEQ.SEQ_STATUS_STAIR_LINE false

/-- STAIR (R358). -/
def stepStair (d : Dev) : Dev :=
  d.stepOf 7 (fun d w =>
    let p := pg .seq
    if !d.flag p F.SEQ.SEQ_CFG_STAIR_EN then (d.setFld p F.SEQ.SEQ_STATUS_STAIR_NUM (stepDom w)).nextStep
    else if d.fld p F.SEQ.SEQ_STATUS_STAIR_NUM = stepDom w then d.nextStep
    else (d.stairRelease true).beginWait .stair)

/-- A rise of the line is taken: STAIR_NUM advances, the member pulls the line low, and releases it again unless its step
has completed (R358). -/
def stairRise (d : Dev) : Dev :=
  let p := pg .seq
  if d.flag p F.SEQ.SEQ_STATUS_STAIR_REL then
    let n := (d.fld p F.SEQ.SEQ_STATUS_STAIR_NUM + 1) % 16
    let d := (d.setFld p F.SEQ.SEQ_STATUS_STAIR_NUM n).bump p R.SEQ.ADVANCES
    if d.progRuns ∧ d.seq.wait = .stair ∧ n ≠ stepDom (d.prog d.seq.pc) then d
    else
      let d := d.stairRelease false
      if d.progRuns ∧ d.seq.wait = .stair then d.nextStep else d
  else d

/-- The timeout of a STAIR, in units of 100 µs (R358). -/
def stairTimeout (d : Dev) : Dev :=
  if d.waited .stair (40000 * stepTimeout (d.prog d.seq.pc)) then
    let n := d.fld (pg .seq) F.SEQ.SEQ_STATUS_STAIR_NUM
    let d := (d.stairRelease false).bump (pg .seq) R.SEQ.STAIR_TIMEOUTS
    (d.raise .seq 0 B.SEQ.SEQ_STAIR n).goto (stepTarget (d.prog d.seq.pc))
  else d

/-! ## Reset outputs, marks, invalid steps -/

/-- RESET (R360). -/
def stepReset (d : Dev) : Dev :=
  d.stepOf 8 (fun d w =>
    let k := bitsOf w 0 2
    let asserted : Fld := ⟨R.SEQ.RST_STATUS, k, 1⟩
    let stretching : Fld := ⟨R.SEQ.RST_STATUS, 4 + k, 1⟩
    let p := pg .seq
    if bitAt w 4 then ((d.setFlag p asserted true).setFlag p stretching false).nextStep
    else if d.flag p asserted then
      ((d.setFlag p stretching true).modSeq (fun s => { s with relAt := vmod s.relAt k (fun _ => d.now) })).nextStep
    else d.nextStep)

/-- The stretch of RSTOUT `k`, STRETCH ms, has expired (R360). -/
def rstoutRelease (d : Dev) (k : Nat) : Dev :=
  let p := pg .seq
  let at' := vget d.seq.relAt k 0
  if d.flag p ⟨R.SEQ.RST_STATUS, 4 + k, 1⟩ ∧ at' + 400000 * d.fld p (F.SEQ.RST_CFG_STRETCH.at k) ≤ d.now then
    (d.setFlag p ⟨R.SEQ.RST_STATUS, 4 + k, 1⟩ false).setFlag p ⟨R.SEQ.RST_STATUS, k, 1⟩ false
  else d

/-- MARK (R352, R407). -/
def stepMark (d : Dev) : Dev :=
  d.stepOf 9 (fun d w =>
    let p := pg .seq
    let code := bitsOf w 0 8
    let d := (d.setReg p R.SEQ.LAST_MARK (BitVec.ofNat 32 (code + 256 * d.seq.pc))).bump p R.SEQ.MARKS
    let d := d.event p F.SEQ.EVENT_MARK
    (d.raiseWith .seq 0 B.SEQ.SEQ_MARK (BitVec.ofNat 32 code) (BitVec.ofNat 32 code) false).nextStep)

/-- A step with a reserved bit set or an OP not listed: the program stops with PHASE ERROR, and a power-down that waited for
an AUX program begins (R350, R352). -/
def stepInvalid (d : Dev) : Dev :=
  let d := d.seqBegin
  match d.curStep with
  | some w =>
    if stepValid w then d
    else
      let aux := d.phase == 6
      let goal := d.seq.goal
      let d := d.setFld (pg .seq) F.SEQ.SEQ_STATUS_STEP d.seq.pc
      let d := ((d.bump (pg .seq) R.SEQ.BAD_STEPS).stepFault 0x01).setPhase 9
      if aux && goal != .none then d.startSleep goal
      else d.modSeq (fun s => { s with goal := .none, stopReq := false, lastDis := none })
  | none => d

/-! ## Commands and requests (R350, R353–R357) -/

/-- SEQ CMD RUN_AUX (R350, R362). -/
def runAux (d : Dev) (k : Nat) : Dev :=
  if 3 ≤ d.state ∧ d.state ≤ 5 ∧ d.phase = 0 ∧ k < 4 then
    d.startRun 6 (d.fld (pg .seq) (F.SEQ.AUX_ENTRY_AUX0.at k))
  else d.event (pg .seq) F.SEQ.EVENT_CMD_REFUSED

/-- SEQ CMD STOP_AUX (R365). -/
def stopAux (d : Dev) : Dev :=
  if d.phase = 6 then
    let d := d.modSeq (fun s => { s with stopReq := true })
    if d.seq.wait = .none then d.boundary else d
  else d

/-- A power-down run begins, at once or at the step boundary of an AUX program (R350). -/
def powerDownTo (d : Dev) (goal : SeqGoal) : Dev :=
  if d.phase = 6 then
    let d := d.modSeq (fun s => { s with goal := goal })
    if d.seq.wait = .none then d.boundary else d
  else d.startSleep goal

/-- The unwind begins, with every RSTOUT asserted (R354). -/
def startUnwind (d : Dev) (goal : SeqGoal) (newRun : Bool) : Dev :=
  let d := (d.assertResets.stairRelease false).setPhase 5
  let d := if newRun then d.bump (pg .seq) R.SEQ.RUNS else d
  d.modSeq (fun s => { s with upDue := false, wait := .none, goal := goal, left := d.order.reverse,
                              lastDis := if newRun then none else s.lastDis })

/-- An on request is latched (R356); `wake` says that it is a wake event of R18, whose source the cellar keeps. -/
def latchOn (d : Dev) (wake : Bool) : Dev :=
  (d.setFlag (pg .seq) F.SEQ.SEQ_STATUS_ON_REQ true).modSeq (fun s => { s with vinReq := s.vinReq || !wake })

/-- An on request in BOOT with PHASE PARKED starts the hold-off; during a power-down run it is latched; during the hold-off
it is latched with the one that began it; elsewhere it changes nothing (R356, R357, R362). -/
def onRequest (d : Dev) (wake : Bool) : Dev :=
  if d.powerDown then d.latchOn wake
  else if d.phase = 8 then (d.latchOn wake).setPhase 7
  else if d.phase = 7 ∧ wake then d.latchOn true
  else d

/-- The latched on request is gone. -/
def dropOn (d : Dev) : Dev :=
  (d.setFlag (pg .seq) F.SEQ.SEQ_STATUS_ON_REQ false).modSeq (fun s => { s with vinReq := false })

/-- Every program ends and every request is discarded (R357). -/
def seqAbandon (d : Dev) : Dev :=
  let d := (d.dropOn.setFlag (pg .seq) F.SEQ.SEQ_STATUS_OFF_REQ false).setPhase 0
  { d with seq := { upDue := false } }

end Dev
end Sys2Proof.Machine
end

