-- ==== Sys2Proof/Machine/Measure.lean ====
section
/-!
DEFINITION. Measurement (R200–R207, R214, R215, R223–R235, R240–R244): fast converters, calibration, low power, the direct
path, streams, the monitor converter, open-wire diagnosis. A conversion's command brings the voltage at the ball and the last bit,
which the factory correction supplies.
-/
namespace Sys2Proof.Machine

/-- A result after user calibration, and whether it was clamped (R203). -/
def userCal (w : Word) (f : Int) : Int × Bool :=
  let x := asr ((bitsOf w.toNat 0 16 : Nat) * f + 8192) 14 + toSigned 16 (w.toNat / 65536)
  let r := clampI x (-32768) 32767
  (r, r != x)

/-! ## The amplifier and the converter (R202, R204) -/

/-- Output of the PGA for `uv` µV at the ball with slot word `w`, in units of 1/4,096 µV: VOFS is OFS × 2.5 V / 4,096, or 0 V or
1.25 V by BIP (R202). -/
def pgaOut (w : Nat) (uv : Int) : Int :=
  let bip := bitAt w 2
  let ofs : Int := if bitAt w 6 then 2500000 * bitsOf w 12 12 else if bip then 1250000 * 4096 else 0
  (uv * 4096 - ofs) * 2 ^ bitsOf w 3 3 + (if bip then 1250000 * 4096 else 0)

/-- The factory-corrected value f of a conversion and its SAT flag: the 14-bit converter resolves f in steps of 2 and `lsb` is the
bit that the factory correction supplies; without a valid trim there is none (R202, R204). -/
def fastValue (w : Nat) (uv : Int) (lsb trimmed : Bool) : Int × Bool :=
  let p := pgaOut w uv
  let above := decide (2500000 * 4096 < p)
  let sat := decide (p < 0) || above
  let raw := clampI (p / 625000) 0 16383
  let bit := trimmed && (above || (lsb && !sat))
  (2 * raw + b2n bit - (if bitAt w 2 then 16384 else 0), sat)

/-- The monitor's value of a conversion: 8 × raw with the factory correction, in the code scale of R202 at gain 1 (R204, R223). -/
def slowValue (raw : Nat) (corr : Int) (trimmed : Bool) : Int :=
  if trimmed then clampI (8 * raw + corr) 0 32767 else 8 * raw

namespace Dev

/-- Converter `c` beside its registers. -/
def adcS (d : Dev) (c : Nat) : AdcS := vget d.adc c {}

/-- Converter `c` changed. -/
def modAdc (d : Dev) (c : Nat) (f : AdcS → AdcS) : Dev := { d with adc := vmod d.adc c f }

/-- UCAL word of an input, 0–63 AF, 64–87 AS, for a conversion that ends on this clock: a word written on this clock does not
count yet (R203, R232). -/
def ucal (d : Dev) (i : Nat) : Word :=
  match d.mon.calPrev.find? (fun e => e.1 == i && e.2.2 == d.now) with
  | some e => e.2.1
  | none => d.reg (pg .cal) (R.CAL.UCAL + 4 * i)

/-- What a write of UCAL replaces, kept for its clock (R203). -/
def noteUcal (d : Dev) (i : Nat) : Dev :=
  let old := d.ucal i
  { d with mon := { d.mon with calPrev := (i, old, d.now) :: d.mon.calPrev.filter (fun e => e.2.2 == d.now && e.1 != i) } }

/-- Whether the factory trim of a fast converter (0–15), or of the monitor (16), is in use: unless the self-tests have found it bad
(R204). -/
def trimmed (d : Dev) (c : Nat) : Bool :=
  !d.flag (pg .scaolo) F.SCAOLO.SELFTEST_DONE || bitAt (d.reg (pg .cal) R.CAL.FACTORY).toNat c

/-! ## Conversion list (R200) -/

/-- A slot of the list in use. -/
def slotWord (a : AdcS) (s : Nat) : Nat := (vget a.slots s 0).toNat

/-- The valid slots of the list in use. -/
def validSlots (a : AdcS) : List Nat := numbers 16 (fun s => decide (s < a.len) && bitAt (slotWord a s) 31)

/-- The list taken from the registers. -/
def loadList (d : Dev) (c : Nat) : Dev :=
  let p := pg .adc c
  let regs := (List.range 16).map (fun s => d.reg p (R.ADC.SLOT + 4 * s))
  let a : AdcS := d.adcS c
  let a := { a with slots := Vector.ofFn (fun i => regs.getD i.val 0), len := d.fld p F.ADC.LIST_LEN,
                    lpEn := d.flag p F.ADC.LIST_LP_EN }
  d.modAdc c (fun _ => { a with cur := (validSlots a).headD 0 })

/-- A conversion starts (R200). -/
def convStart (d : Dev) (c : Nat) : Dev := d.modAdc c (fun a => { a with since := d.now, held := none })

/-- Clocks from the start of the conversion in progress to its hold instant (R201). -/
def acqClocks (a : AdcS) : Nat := (if a.low then 96 else 24) + 10 * bitsOf (slotWord a a.cur) 8 4

/-- Clocks that the conversion in progress takes (R201). -/
def slotClocks (a : AdcS) : Nat := acqClocks a + (if a.low then 224 else 56)

/-- The hold instants that have come on this clock: the stamp and the windows of each are noted (R201, R214). -/
def adcTick (d : Dev) : Dev :=
  d.each (numbers 16 (fun c =>
      let a := d.adcS c
      d.flag (pg .adc c) F.HDR.CTRL_ENABLE && a.held.isNone && !a.leaving && decide (a.since + acqClocks a ≤ d.now)))
    (fun d c => d.modAdc c (fun a => { a with
      held := some (d.reg (pg .timebase) R.TIMEBASE.FOLIO, d.stampAngle, d.fld (pg .galley) F.GALLEY.WIN_STATE_WIN) }))

/-- A write to LIST or a SLOT: in use on the next clock where the converter is disabled or has no valid slot. -/
def listWritten (d : Dev) (c : Nat) : Dev :=
  if !d.flag (pg .adc c) F.HDR.CTRL_ENABLE ∨ (validSlots (d.adcS c)).isEmpty then
    ((d.loadList c).convStart c).modAdc c (fun a => { a with lastDone := d.now })
  else d

/-- ENABLE of a converter changed (R200). -/
def adcEnable (d : Dev) (c : Nat) (on : Bool) : Dev :=
  let p := pg .adc c
  if on then
    if d.flag p F.HDR.CTRL_ENABLE then d
    else
      let d := ((d.setFld p F.HDR.CTRL_ENABLE 1).loadList c).convStart c
      let d := d.modAdc c (fun a => { a with lastDone := d.now })
      d.each (List.range 4) (fun d i => { d with af := vmod d.af (4 * c + i) (fun a => { a with seen := false }) })
  else
    let d := d.setFld p F.HDR.CTRL_ENABLE 0
    (d.setFlag p F.ADC.STATUS_FULL_RATE true).modAdc c (fun a => { a with low := false, leaving := false, dec := [] })

/-! ## Low power (R205, R206) -/

/-- Whether a group names an input, as feedback of a channel, in FB, or as the trim input of a bound tile (R153, R205). -/
def groupNames (d : Dev) (g i : Nat) : Bool :=
  let p := pg .conv g
  (d.channels g).any (fun ch => i == d.fld p F.CONV.FB_IN_FB + ch) ||
  i == d.fld p F.CONV.FB_IN_OUTER || i == d.fld p F.CONV.FB_IN_I ||
  i == d.fld p F.CONV.FB_IN_V || (d.boundSlots g).any (fun s => d.fld (pg .tile (d.slotTile g s)) F.TILE.TRIM_CFG_IN == i)

/-- Whether an input is in use by a group that switches, by the timebase or by a discharge (R205, R229). -/
def inputBusy (d : Dev) (i : Nat) (sleepers : Bool) : Bool :=
  (List.range 8).any (fun g =>
    let st := d.gstate g
    (st == 2 || st == 3 || st == 4 || (sleepers && st == 5 && !d.flag (pg .conv g) F.CONV.STATUS_LP_GRANTED)) &&
    d.groupNames g i) ||
  (d.flag (pg .timebase) F.HDR.CTRL_ENABLE && (i == d.fld (pg .timebase) F.TIMEBASE.LINE_SEL_IN0 ||
    i == d.fld (pg .timebase) F.TIMEBASE.LINE_SEL_IN1 || i == d.fld (pg .timebase) F.TIMEBASE.LINE_SEL_IN2)) ||
  (d.dstate != 0 && i == d.fld (pg .disch) F.DISCH.DCFG_IN)

/-- LP_ALLOWED (R205). -/
def lpAllowed (d : Dev) (c : Nat) : Bool :=
  let a := d.adcS c
  a.lpEn &&
  (List.range 8).any (fun g => d.flag (pg .conv g) F.CONV.STATUS_LP_GRANTED &&
    (List.range 4).any (fun i => d.groupNames g (4 * c + i))) &&
  (validSlots a).all (fun s => !bitAt (slotWord a s) 7 && !d.inputBusy (4 * c + slotWord a s % 4) true)

/-- Low power entered, or its end begun, at the end of a conversion (R206). -/
def lpStep (d : Dev) (c : Nat) : Dev :=
  let p := pg .adc c
  let a := d.adcS c
  if !a.low ∧ d.lpAllowed c then
    (((d.event p F.ADC.EVENT_LP_IN).setFlag p F.ADC.STATUS_FULL_RATE false).bump p R.ADC.LP_ENTRIES).modAdc c
      (fun a => { a with low := true, leaving := false })
  else if a.low ∧ !d.lpAllowed c then d.modAdc c (fun a => { a with leaving := true })
  else d

/-- 1 µs after the last low-power conversion (R206). -/
def lpExit (d : Dev) (c : Nat) : Dev :=
  let p := pg .adc c
  let a := d.adcS c
  if a.low ∧ a.leaving ∧ a.since + 400 ≤ d.now then
    (((d.setFlag p F.ADC.STATUS_FULL_RATE true).event p F.ADC.EVENT_LP_OUT).modAdc c
      (fun a => { a with low := false, leaving := false })).convStart c
  else d

/-! ## Direct path (R207) -/

/-- The line inputs that LINE_SEL names (R55, R80). -/
def lineInputs (d : Dev) : List Nat :=
  let p := pg .timebase
  if d.fld p F.TIMEBASE.LINE_SEL_MODE = 2 then [d.fld p F.TIMEBASE.LINE_SEL_IN0]
  else [d.fld p F.TIMEBASE.LINE_SEL_IN0, d.fld p F.TIMEBASE.LINE_SEL_IN1, d.fld p F.TIMEBASE.LINE_SEL_IN2]

/-- A result for the charge manager's means and for the rms values of the line inputs (R245, R269). -/
def chgResult (d : Dev) (i : Nat) (v : Int) : Dev :=
  let p := pg .chg
  let c := d.chg
  let add := fun (on : Bool) (m : MeanAcc) => if on then m.add v else m
  let sq := (List.range 3).foldl (fun (s : Vector SqAcc 3) k =>
    if d.lineInputs[k]? = some i then vmod s k (fun a => ⟨a.sum + v.natAbs * v.natAbs, a.n + 1⟩) else s) c.sq
  { d with chg := { c with
      iAcc := add (d.fld p F.CHG.MEAS_IN_IOUT == i) c.iAcc,
      vAcc := add (d.fld p F.CHG.MEAS_IN_VOUT == i) c.vAcc,
      lAcc := add (d.fld p F.CHG.MEAS_IN_VLINK == i) c.lAcc,
      sq := sq } }

/-- A delivered result: newest value, group means, trims, DISCH (R132, R161, R179, R189, R207). -/
def deliver (d : Dev) (i : Nat) (v : Int) : Dev :=
  let d := { d with af := vmod d.af i (fun a => { a with val := v, seen := true }) }
  let d := d.each (numbers 8 (fun g => decide (2 ≤ d.gstate g) && decide (d.gstate g ≤ 6))) (fun d g =>
    let tot := d.fld (pg .conv g) F.CONV.FB_IN_I == i
    let hs := (d.heads g).filter (fun h => d.phaseInput g h == i)
    d.modConv g (fun c => { c with
      iTot := if tot then c.iTot.add v else c.iTot,
      iPh := hs.foldl (fun v' h => vmod v' h (fun m => m.add v)) c.iPh }))
  let d := d.each (numbers 24 (fun n => d.tstate n == 3 && d.fld (pg .tile n) F.TILE.TRIM_CFG_IN == i))
    (fun d n => d.modTile n (fun t => { t with trimSum := t.trimSum + v, trimN := t.trimN + 1 }))
  let d := (d.chgResult i v).gaugeResult i v
  if d.fld (pg .disch) F.DISCH.DCFG_IN = i then d.dischResult v else d

/-! ## Streams (R214, R215) -/

/-- Words of a RAW (1) or DEC (2) record (R216). -/
def resultRecord (type i : Nat) (v : Int) (sat ow lp : Bool) (folio : Word) (angle : Nat) : List Word :=
  [BitVec.ofNat 32 (268435456 * type + ofSigned 16 v + 65536 * i + 4194304 * b2n sat + 8388608 * b2n ow +
     16777216 * b2n lp), stampWord folio.toNat angle]

/-- The decimation in progress of a stream and input. -/
def decOf (a : AdcS) (key : Nat) : DecAcc := (a.dec.lookup key).getD {}

/-- The decimation in progress of a stream and input changed; an empty one is not kept. -/
def setDec (d : Dev) (c key : Nat) (x : DecAcc) : Dev :=
  d.modAdc c (fun a => { a with dec := (if x.n = 0 then [] else [(key, x)]) ++ a.dec.filter (fun e => e.1 != key) })

/-- A window closes: the decimation groups of the streams that it gates are discarded (R214, R232). -/
def windowClosed (d : Dev) (win : Nat) : Dev :=
  d.each (List.range 16) (fun d c =>
    let p := pg .adc c
    let shut := fun s => d.flag p (F.ADC.STREAM_GATE_EN.at s) && d.fld p (F.ADC.STREAM_WIN.at s) == win
    d.modAdc c (fun a => { a with dec := a.dec.filter (fun e => !shut (e.1 / 4)) }))

/-- A result handed to one stream of its converter; `wins` is WIN_STATE at its hold instant (R214). A group that the window has
interrupted since takes it no longer. -/
def streamResult (d : Dev) (c s i : Nat) (v : Int) (sat ow lp : Bool) (folio : Word) (angle wins : Nat) : Dev :=
  let p := pg .adc c
  let key := 4 * s + i
  let dec := d.fld p (F.ADC.STREAM_DEC.at s)
  let ring := d.fld p (F.ADC.STREAM_RING.at s)
  let win := d.fld p (F.ADC.STREAM_WIN.at s)
  let gate := d.flag p (F.ADC.STREAM_GATE_EN.at s)
  if !d.flag p (F.ADC.STREAM_EN.at s) ∨ !bitAt (d.fld p (F.ADC.STREAM_INPUTS.at s)) i then d
  else if gate ∧ !bitAt wins win then (d.bump p R.ADC.GATED).setDec c key {}
  else if dec = 0 then
    ((d.bump p R.ADC.STREAM_RECORDS).ringPut ring (resultRecord 1 (4 * c + i) v sat ow lp folio angle)).1
  else if gate ∧ !d.winOpen win then d.setDec c key {}
  else
    let x := decOf (d.adcS c) key
    let x : DecAcc := ⟨x.n + 1, x.sum + v, x.sat || sat, x.ow || ow, x.lp || lp⟩
    if x.n < 2 ^ dec then d.setDec c key x
    else
      let d := (d.setDec c key {}).bump p R.ADC.STREAM_RECORDS
      (d.ringPut ring (resultRecord 2 (4 * c + i) (divRound x.sum x.n) x.sat x.ow x.lp folio angle)).1

/-- List period at full rate in clocks, by the registers (R201). -/
def listClocks (d : Dev) (c : Nat) : Nat :=
  let p := pg .adc c
  (List.range 16).foldl (fun t s =>
    let w := (d.reg p (R.ADC.SLOT + 4 * s)).toNat
    if s < d.fld p F.ADC.LIST_LEN ∧ bitAt w 31 then t + 80 + 10 * bitsOf w 8 4 else t) 0

/-- Conversions of input `i` in one list period. -/
def listCount (d : Dev) (c i : Nat) : Nat :=
  let p := pg .adc c
  (numbers 16 (fun s =>
    let w := (d.reg p (R.ADC.SLOT + 4 * s)).toNat
    decide (s < d.fld p F.ADC.LIST_LEN) && bitAt w 31 && w % 4 == i)).length

/-- ceil(Q × Tmax) of R215 for the streams of `c` into ring `ring`, stream `s` counted as enabled. -/
def streamLoad (d : Dev) (c s ring : Nat) : Nat :=
  let p := pg .adc c
  let q := (List.range 4).foldl (fun t k =>
    if (k = s ∨ d.flag p (F.ADC.STREAM_EN.at k)) ∧ d.fld p (F.ADC.STREAM_RING.at k) = ring then
      (List.range 4).foldl (fun t i => if bitAt (d.fld p (F.ADC.STREAM_INPUTS.at k)) i then
        t + d.listCount c i * 2 ^ (8 - d.fld p (F.ADC.STREAM_DEC.at k)) else t) t
    else t) 0
  let vf := d.fld (pg .timebase) F.TIMEBASE.VIRT_FREQ_FREQ
  let virt := d.fld (pg .timebase) F.TIMEBASE.SRC_STATUS_ACTIVE == 3 && vf != 0
  let num := q * (if virt then 400000000 * 65536 else 10000000)
  let den := 256 * d.listClocks c * (if virt then vf else 1)
  if den = 0 then 0 else (num + den - 1) / den

/-- A STREAM register written (R54, R215): a write of EN = 1 that the check refuses changes nothing. -/
def streamWrite (d : Dev) (c s : Nat) (w : Word) : Dev :=
  let p := pg .adc c
  let f := F.ADC.STREAM_EN.at s
  let old := (d.reg p f.ofs).toNat
  let v := w.toNat &&& 0x81FF7F0F
  let ringBad := decide (95 < bitsOf v 8 7)
  let decBad := decide (8 < bitsOf v 16 4)
  let v := if ringBad then setBits v 8 7 (bitsOf old 8 7) else v
  let v := if decBad then setBits v 16 4 (bitsOf old 16 4) else v
  let d := if ringBad || decBad then d.eventRange p else d
  let d1 := (d.setReg p f.ofs (BitVec.ofNat 32 (bitsOf v 0 31))).modAdc c
    (fun a => { a with dec := a.dec.filter (fun e => e.1 / 4 != s) })
  if bitAt v 31 then
    let ring := bitsOf v 8 7
    let ok := d1.ringOn ring && d1.ringProducer ring == p && d1.flag (pg .ring ring) F.RING.CFG_STAMP &&
      decide (8 * (d1.streamLoad c s ring + 2) ≤ d1.ringSize ring)
    if ok then d1.setFlag p f true else d.event p F.ADC.EVENT_CFG_BAD
  else d1

/-! ## A fast conversion ends -/

/-- Whether a result of input `i` (0–63 AF, 64–87 AS) carries the OW flag (R228). -/
def owFlag (d : Dev) (i : Nat) : Bool := (d.ow.phase != .idle && d.ow.input == i) || d.ow.tail.contains i

/-- The threshold set of an input (R227). -/
def owSet (d : Dev) (i : Nat) : Nat := bitsOf (d.reg (pg .openwire) (R.OPENWIRE.OW_SET + 4 * (i / 16))).toNat (2 * (i % 16)) 2

/-- What a result of input `i` is to open-wire diagnosis: the step in progress takes the first one after THR_SETTLE µs, of a fast
input only from its first valid slot (`first`); a tail ends with any (R228). -/
def owSeen (d : Dev) (i : Nat) (f : Int) (first : Bool) : Dev :=
  let o := d.ow
  let due := o.since + 400 * d.fld (pg .openwire) (F.OPENWIRE.THR_SETTLE_SETTLE.at (d.owSet i))
  let o := if o.phase ≠ .idle ∧ o.input = i ∧ first ∧ o.seen.isNone ∧ due ≤ d.now then { o with seen := some f } else o
  { d with ow := { o with tail := o.tail.filter (fun x => x != i) } }

/-- The next slot, with the list taken afresh at slot 0; its conversion starts as the last ends (R200). -/
def nextSlot (d : Dev) (c : Nat) : Dev :=
  let a := d.adcS c
  let d := match (validSlots a).find? (fun s => decide (a.cur < s)) with
    | some s => d.modAdc c (fun a => { a with cur := s })
    | none => d.loadList c
  (d.convStart c).modAdc c (fun a => { a with lastDone := d.now })

/-- A conversion of input `inp` of converter `c` with result `v` and its flags, held at `at'`: LAST, the direct path, the bins, the
streams (R203, R207, R208, R214). -/
def takeResult (d : Dev) (c inp : Nat) (f v : Int) (sat : Bool) (at' : Word × Nat × Nat) : Dev :=
  let p := pg .adc c
  let i := 4 * c + inp
  let a := d.adcS c
  let ow := d.owFlag i
  let lp := a.low
  let d := d.bump64 p R.ADC.CONVERSIONS 1
  let d := if sat then (d.bump p R.ADC.SATURATIONS).event p F.ADC.EVENT_SAT else d
  let d := d.setReg p (R.ADC.LAST + 4 * inp)
    (BitVec.ofNat 32 (ofSigned 16 v + 65536 * b2n sat + 131072 * b2n ow + 262144 * b2n lp))
  let d := if ow then (d.bump p R.ADC.OW_WITHHELD) else { d with af := vmod d.af i (fun x => { x with raw := f }) }
  let d := if ow then (if d.fld (pg .disch) F.DISCH.DCFG_IN = i then d.dischOw else d)
    else (d.deliver i v).binResult i at'.1 at'.2.1 v sat lp
  let d := d.owSeen i f ((validSlots a).find? (fun s => slotWord a s % 4 == inp) == some a.cur)
  d.each (List.range 4) (fun d k => d.streamResult c k inp v sat ow lp at'.1 at'.2.1 at'.2.2)

/-- The conversion of the slot in progress has run its time: `uv` is the voltage at the ball in µV, `lsb` the last bit of f (R201,
R202). -/
def conversionResult (d : Dev) (c : Nat) (uv : Int) (lsb : Bool) : Dev :=
  let a := d.adcS c
  if !d.flag (pg .adc c) F.HDR.CTRL_ENABLE ∨ !(validSlots a).contains a.cur ∨ a.leaving ∨ d.now < a.since + slotClocks a then d
  else
    match a.held with
    | none => d
    | some at' =>
      let w := slotWord a a.cur
      let f := fastValue w uv lsb (d.trimmed c)
      let r := userCal (d.ucal (4 * c + w % 4)) f.1
      ((d.takeResult c (w % 4) f.1 r.1 (f.2 || r.2) at').nextSlot c).lpStep c

/-- No conversion within 2 µs, 800 clocks (R226). -/
def adcStall (d : Dev) (c : Nat) : Dev :=
  let a := d.adcS c
  if d.flag (pg .adc c) F.HDR.CTRL_ENABLE ∧ !(validSlots a).isEmpty ∧ a.lastDone + 800 ≤ d.now then
    d.raise .adc c B.ADC.ADC_STALL a.cur
  else d

/-! ## Monitor converter (R223–R225) -/

/-- A monitor conversion of channel `j`: RESULT, and the judgement of a domain's tap. -/
def monitorResult (d : Dev) (j : Nat) (f : Int) (sat : Bool) : Dev :=
  let p := pg .monadc
  let i := j + 48
  let r := if j < 16 then (f, false) else userCal (d.ucal i) f
  let ow := decide (16 ≤ j) && d.owFlag i
  let scan := (d.reg p R.MONADC.SCANS).toNat % 256
  let d := d.setReg p (R.MONADC.RESULT + 4 * j)
    (BitVec.ofNat 32 (ofSigned 16 r.1 + 65536 * b2n (sat || r.2) + 131072 * b2n ow + 16777216 * scan))
  if j < 16 then d.domResult j (ofSigned 16 r.1)
  else
    let d := if ow then d
      else { d with mon := { d.mon with raw := (j, f) :: d.mon.raw.filter (fun e => e.1 != j) } }
    d.owSeen i f true

/-- The conversion of the channel in progress, one µs long, with the code of the converter and its factory correction (R223). -/
def monitorConversion (d : Dev) (raw : Nat) (corr : Int) (sat : Bool) : Dev :=
  if d.state < 2 ∨ 5 < d.state ∨ d.now < d.mon.since + 400 then d
  else
    let p := pg .monadc
    let j := d.mon.chan
    let d := d.monitorResult j (slowValue raw corr (d.trimmed 16)) sat
    let d := { d with mon := { d.mon with chan := (j + 1) % 40, since := d.now } }
    if j = 39 then
      let d := { d with mon := { d.mon with scanFrom := d.now } }
      (d.bump p R.MONADC.SCANS).event p F.MONADC.EVENT_SCAN_DONE
    else d

/-- The channels scanned in HIBERNATE (R224). -/
def hibChannels (d : Dev) : List Nat :=
  let p := pg .monadc
  numbers 40 (fun j => if j < 32 then bitAt (d.reg p R.MONADC.HIB_MASK_LO).toNat j
    else bitAt (d.fld p F.MONADC.HIB_MASK_HI_CH) (j - 32))

/-- The next cycle in HIBERNATE starts PERIOD ms after this one (R224). -/
def hibNext (d : Dev) : Dev :=
  { d with mon := { d.mon with hib := 0, scanFrom := d.mon.scanFrom + 400000 * d.fld (pg .monadc) F.MONADC.HIB_CFG_PERIOD } }

/-- A cycle of the duty-cycled scan, 20 µs and one µs for each channel converted after its start: `vals` are the codes and
corrections of the masked channels in ascending order. With fewer values than channels the scan has not completed (R224, R225). -/
def hibScanCycle (d : Dev) (vals : List (Nat × Int)) : Dev :=
  let chans := d.hibChannels
  let left := chans.drop d.mon.hib
  if d.state ≠ 6 ∨ d.now < d.mon.scanFrom + 400 * (20 + d.mon.hib + min vals.length left.length) then d
  else
    let d := d.each (left.zip vals) (fun d e => d.monitorResult e.1 (slowValue e.2.1 e.2.2 (d.trimmed 16)) false)
    if vals.length < left.length then { d with mon := { d.mon with hib := d.mon.hib + vals.length } }
    else d.hibNext.bump (pg .monadc) R.MONADC.HIB_SCANS

/-- A scan has not completed within 50 µs of its start, in HIBERNATE within 30 µs and one for each masked channel; the next scan
starts on time (R225). -/
def monStall (d : Dev) : Dev :=
  let p := pg .monadc
  let hib := d.state == 6
  let limit := if hib then 30 + d.hibChannels.length else 50
  if d.now < d.mon.scanFrom + 400 * limit then d
  else
    let j := if hib then d.hibChannels.getD d.mon.hib 0 else d.mon.chan
    let d := if hib then d.hibNext else { d with mon := { d.mon with chan := 0, since := d.now, scanFrom := d.now } }
    (d.bump p R.MONADC.STALLS).raise .monadc 0 B.MONADC.MON_STALL j

/-! ## Open-wire diagnosis (R227–R231) -/

/-- The current selected for an input (R227). -/
def owSel (d : Dev) (i : Nat) : Nat := bitsOf (d.reg (pg .openwire) (R.OPENWIRE.OW_SEL + 4 * (i / 16))).toNat (2 * (i % 16)) 2

/-- Fast input that a comparator selects, with its FUNC and tile (R125). -/
def cmpInputs (d : Dev) : List (Nat × Nat) :=
  (List.range 24).flatMap (fun n =>
    [(F.TILE.CMPA_CFG_FUNC, F.TILE.CMPA_CFG_IN), (F.TILE.CMPB_CFG_FUNC, F.TILE.CMPB_CFG_IN)].filterMap (fun f =>
      if d.fld (pg .tile n) f.1 = 0 then none else some (n, d.fld (pg .tile n) f.2)))

/-- Whether an input is not tested (R229). -/
def owSkip (d : Dev) (i : Nat) : Bool :=
  let c := i / 4
  let fast := decide (i < 64)
  (fast && (!d.flag (pg .adc c) F.HDR.CTRL_ENABLE ||
    (validSlots (d.adcS c)).all (fun s => slotWord (d.adcS c) s % 4 != i % 4))) ||
  (fast && d.cmpInputs.any (fun e => e.2 == i && d.tstate e.1 == 3)) ||
  (fast && !d.flag (pg .openwire) F.OPENWIRE.OW_CFG_IN_RUN && d.inputBusy i false)

/-- The round goes on from input `i`: inputs not tested are counted, and the first testable one begins its test; past the
last, the round ends (R227–R229). -/
def owNext (d : Dev) (i : Nat) : Nat → Dev
  | 0 => d
  | fuel + 1 =>
    let p := pg .openwire
    if 88 ≤ i then
      let d := (d.bump p R.OPENWIRE.ROUNDS).event p F.OPENWIRE.EVENT_ROUND_DONE
      { d with ow := { d.ow with inRound := false, phase := .idle } }
    else if d.owSel i = 0 then owNext d (i + 1) fuel
    else if d.owSkip i then owNext (d.bump p R.OPENWIRE.SKIPPED) (i + 1) fuel
    else
      let n := if i < 64 then (vget d.af i {}).raw else (d.mon.raw.lookup (i - 48)).getD 0
      { d with ow := { d.ow with input := i, phase := .up, n := n, seen := none, since := d.now } }

/-- A round starts, ROUND ms after the previous one started (R227). -/
def owRoundStart (d : Dev) : Dev :=
  let early : Bool := match d.ow.roundFrom with
    | some t => decide (d.now < t + 400000 * d.fld (pg .openwire) F.OPENWIRE.OW_CFG_ROUND)
    | none => false
  if !d.flag (pg .openwire) F.HDR.CTRL_ENABLE ∨ d.ow.inRound ∨ d.state < 2 ∨ 5 < d.state ∨ early then d
  else ({ d with ow := { d.ow with inRound := true, roundFrom := some d.now } }).owNext 0 89

/-- ENABLE of the page changed: a test in progress ends without a verdict, its pull source switched off (R228). -/
def owEnable (d : Dev) (on : Bool) : Dev :=
  let d := d.setFlag (pg .openwire) F.HDR.CTRL_ENABLE on
  let o := d.ow
  if on then d
  else { d with ow := { o with
      inRound := false, phase := .idle, seen := none, roundFrom := none,
      tail := if o.phase = .idle then o.tail else o.input :: o.tail } }

/-- Verdict of a test (R230). -/
def owVerdict (d : Dev) (t : Nat) (n u dn : Int) : Nat :=
  let p := pg .openwire
  let ok : Int := d.fld p (F.OPENWIRE.THR_SHIFT_SHIFT_OK.at t)
  let open' : Int := d.fld p (F.OPENWIRE.THR_SHIFT_SHIFT_OPEN.at t)
  let lo := d.sfld p (F.OPENWIRE.THR_RAIL_RAIL_LO.at t)
  let hi := d.sfld p (F.OPENWIRE.THR_RAIL_RAIL_HI.at t)
  let dl := u - dn
  if dl < -ok then 6
  else if hi ≤ u ∧ dn ≤ lo then 2
  else if open' < dl then 2
  else if ok < dl then 3
  else if hi ≤ n then 4
  else if n ≤ lo then 5
  else 1

/-- A test's verdict counted toward the confirmed one (R231). -/
def owConfirm (d : Dev) (i v : Nat) : Dev :=
  let p := pg .openwire
  let f : Fld := ⟨R.OPENWIRE.VERDICT + 4 * (i / 8), 4 * (i % 8), 4⟩
  let cnt := match d.ow.run.lookup i with
    | some (w, n) => if w = v then n + 1 else 1
    | none => 1
  let run := (i, v, cnt) :: d.ow.run.filter (fun e => e.1 != i)
  let d := { d with ow := { d.ow with run := run } }
  if v ≠ d.fld p f ∧ d.fld p F.OPENWIRE.OW_CFG_CONFIRM ≤ cnt then
    let was := d.fld p f
    let d := d.setFld p f v
    if v = 1 then (if was = 0 then d else d.event p F.OPENWIRE.EVENT_CLEARED)
    else
      let d := (d.bump p R.OPENWIRE.FINDINGS).event p F.OPENWIRE.EVENT_FINDING
      d.raise .openwire 0 (if v = 6 then B.OPENWIRE.OW_PULL else B.OPENWIRE.OW_DETECT) i
  else d

/-- The result of a step has come: the pull sources are switched, and after the second step the test is judged (R228). -/
def owSettleSample (d : Dev) : Dev :=
  let p := pg .openwire
  let o := d.ow
  match o.phase, o.seen with
  | .up, some u => { d with ow := { o with u := u, phase := .down, seen := none, since := d.now } }
  | .down, some dn =>
    let i := o.input
    let v := d.owVerdict (d.owSet i) o.n o.u dn
    let d := { d with ow := { o with phase := .idle, seen := none, tail := i :: o.tail } }
    let d := d.setReg p R.OPENWIRE.LAST_TEST (BitVec.ofNat 32 (i + 256 * v + 65536 * ofSigned 16 o.n))
    let d := d.setReg p R.OPENWIRE.LAST_UD (BitVec.ofNat 32 (ofSigned 16 o.u + 65536 * ofSigned 16 dn))
    ((d.bump p R.OPENWIRE.TESTS).owConfirm i v).owNext (i + 1) 89
  | _, _ => d

end Dev
end Sys2Proof.Machine
end

