-- ==== Sys2Proof/Machine/Galley.lean ====
section
/-!
DEFINITION. The galley's sheets (R83–R93, R99): entries, impose, scan, live folios, and the actions that fall due as counts
are issued. Firing them is in Machine/GalleyFire.lean.
-/
namespace Sys2Proof.Machine

/-! ## Entries (R83) -/

/-- The 64 bits of entry `i` (R24, R83). -/
def galleyEntry (m : Mem) (i : Nat) : Nat := m.read (0x38000000 + 8 * i) 8

/-- ANGLE of an entry. -/
def entAngle (e : Nat) : Nat := bitsOf e 48 16

/-- CADENCE of an entry. -/
def entCadence (e : Nat) : Nat := bitsOf e 44 4

/-- ACTION of an entry. -/
def entAction (e : Nat) : Nat := bitsOf e 36 8

/-- TARGET of an entry. -/
def entTarget (e : Nat) : Nat := bitsOf e 24 12

/-- OPERAND of an entry. -/
def entOperand (e : Nat) : Nat := bitsOf e 0 24

/-- The action codes (R94). -/
def actionCodes : List Nat := [0x00, 0x01, 0x02, 0x03, 0x04, 0x10, 0x11, 0x20, 0x21, 0x28, 0x30, 0x38]

namespace Dev

/-- Whether a whitelist entry has VALID = 1 (R95, R97). -/
def wlValid (d : Dev) (i : Nat) : Bool := d.flag (pg .galley) (F.GALLEY.WL_ADDR_VALID.at i)

/-- Whether TARGET fits the action (R91, R94, R95). -/
def targetOk (d : Dev) (code target : Nat) : Bool :=
  let page := target / 16
  let sub := target % 16
  if code = 0x00 then target == 0
  else if code ≤ 0x04 then decide (0x30 ≤ page) && decide (page ≤ 0x37) && sub == 0
  else if code = 0x10 ∨ code = 0x11 ∨ code = 0x28 then page == 0x22
  else if code = 0x20 then target == 0x210
  else if code = 0x21 then decide (0x80 ≤ page) && decide (page ≤ 0xDF) && sub == 0
  else if code = 0x30 then page == 0x06 && decide (sub ≤ 7)
  else decide (target < 32) && d.wlValid target

/-- Whether OPERAND fits the action (R91, R94). -/
def operandOk (code op : Nat) : Bool :=
  if code = 0x03 then bitsOf op 2 6 == 0 && bitsOf op 10 14 == 0
  else if code = 0x04 then
    decide (5 ≤ bitsOf op 0 5) && decide (bitsOf op 0 5 ≤ 25) && bitsOf op 6 2 == 0 && bitsOf op 8 16 != 0
  else if code = 0x00 ∨ code = 0x10 ∨ code = 0x11 ∨ code = 0x20 ∨ code = 0x30 then op == 0
  else true

/-- Live range of a sheet: first entry and length (R86). -/
def sheetRange (d : Dev) (n : Nat) : Nat × Nat :=
  (d.fld (pg .galley) (F.GALLEY.SHEET_RANGE_BASE.at n), d.fld (pg .galley) (F.GALLEY.SHEET_RANGE_LEN.at n))

/-- Pending request of a sheet (R91). -/
def pendingOf (d : Dev) (n : Nat) : Option ImposeReq := vget d.gal.pend n none

/-- Whether two ranges share an entry. -/
def overlap (a b : Nat × Nat) : Bool := decide (a.1 < b.1 + b.2) && decide (b.1 < a.1 + a.2) && decide (0 < a.2) && decide (0 < b.2)

/-- Whether entry `i` lies in a live or pending range (R85). -/
def entryHeld (d : Dev) (i : Nat) : Bool :=
  (List.range 16).any (fun n => overlap (i, 1) (d.sheetRange n) ||
    ((d.pendingOf n).map (fun r => overlap (i, 1) (r.base, r.len))).getD false)

/-! ## Impose (R90–R93) -/

/-- Result of a request, with LAST_SHEET where a request names it (R93, R106). -/
def imposeResult (d : Dev) (r : Nat) : Dev := d.setFld (pg .galley) F.GALLEY.IMPOSE_STATUS_RESULT r

/-- A request refused: RESULT, IMPOSE_BAD, IMPOSE_FAIL (R91). -/
def imposeFail (d : Dev) (r bad : Nat) : Dev :=
  ((d.imposeResult r).setReg (pg .galley) R.GALLEY.IMPOSE_BAD (BitVec.ofNat 32 bad)).event (pg .galley)
    F.GALLEY.EVENT_IMPOSE_FAIL

/-- The pending request of a sheet set or removed, with its bit of PENDING. -/
def setPending (d : Dev) (n : Nat) (r : Option ImposeReq) : Dev :=
  let d := d.setFld (pg .galley) ⟨R.GALLEY.IMPOSE_STATUS, n, 1⟩ (b2n r.isSome)
  { d with gal := { d.gal with pend := vmod d.gal.pend n (fun _ => r) } }

/-- The queue of scans replaced, with SCANNING. -/
def setScans (d : Dev) (q : List Nat) : Dev :=
  let d := d.setFlag (pg .galley) F.GALLEY.IMPOSE_STATUS_SCANNING (!q.isEmpty)
  { d with gal := { d.gal with scanQ := q } }

/-- An impose request of sheet `n` by a master of class `bank`; `key` says that the writer holds the sheet's key
(R90, R91, R93). -/
def impose (d : Dev) (n bank : Nat) (key : Bool) : Dev :=
  let p := pg .galley
  let rg := (d.reg p R.GALLEY.NEXT_RANGE bank).toNat
  let base := bitsOf rg 0 14
  let len := bitsOf rg 16 15
  let dv := bitsOf (d.reg p R.GALLEY.NEXT_DIV bank).toNat 0 16
  let d := d.setFld p F.GALLEY.IMPOSE_STATUS_LAST_SHEET n
  let clash := (List.range 16).any (fun s => overlap (base, len) (d.sheetRange s) ||
    (s != n && ((d.pendingOf s).map (fun r => overlap (base, len) (r.base, r.len))).getD false))
  if !key then d.imposeFail 0x8 0
  else if 16384 < base + len then d.imposeFail 0x2 0
  else if clash then d.imposeFail 0x3 0
  else
    let q := d.gal.scanQ
    let q' := if q.head? = some n then q else q.filter (fun s => s != n) ++ [n]
    ((d.setPending n (some ⟨base, len, dv, false⟩)).setScans q').imposeResult 0x1

/-- A cancel of sheet `n` (R93). DESIGN CHOICE: one refused with NOKEY leaves IMPOSE_BAD (log entry 33). -/
def imposeCancel (d : Dev) (n : Nat) (key : Bool) : Dev :=
  let d := d.setFld (pg .galley) F.GALLEY.IMPOSE_STATUS_LAST_SHEET n
  if !key then (d.imposeResult 0x8).event (pg .galley) F.GALLEY.EVENT_IMPOSE_FAIL
  else if (d.pendingOf n).isNone then d
  else ((d.setPending n none).setScans (d.gal.scanQ.filter (fun s => s != n))).imposeResult 0xA

/-- The first failing check of the entries `i`, `i + 1`, … of a range, as result and entry; `prev` is the angle of the entry
before (R91). -/
def scanFrom (d : Dev) (m : Mem) (fl : List EntryFlaw) : Nat → Nat → Nat → Option (Nat × Nat)
  | 0, _, _ => none
  | n + 1, i, prev =>
    let e := galleyEntry m i
    if flawAt fl i = .double then some (0x9, i)
    else if entAngle e < prev then some (0x4, i)
    else if !actionCodes.contains (entAction e) then some (0x5, i)
    else if !d.targetOk (entAction e) (entTarget e) then some (0x6, i)
    else if !operandOk (entAction e) (entOperand e) then some (0x7, i)
    else scanFrom d m fl n (i + 1) (entAngle e)

/-- Entries of `lo` to `hi` that a reader finds with a single-bit error (R84). -/
def corrected (fl : List EntryFlaw) (lo hi : Nat) : Nat :=
  (fl.filter (fun f => f.kind == .single && decide (lo ≤ f.entry) && decide (f.entry ≤ hi))).length

/-- The scan in progress ends (R91); it has read the range up to its end or to the entry it refused (R84). -/
def scanDone (d : Dev) (m : Mem) (fl : List EntryFlaw) : Dev :=
  match d.gal.scanQ with
  | [] => d
  | n :: q =>
    match d.pendingOf n with
    | none => d.setScans q
    | some r =>
      let d := d.setScans q
      let count := fun (d : Dev) (hi : Nat) => d.bump (pg .galley) R.GALLEY.ECC_CORRECTED (corrected fl r.base hi)
      match d.scanFrom m fl r.len r.base 0 with
      | none =>
        let d := if r.len = 0 then d else count d (r.base + r.len - 1)
        d.setPending n (some { r with passed := true })
      | some (res, bad) => ((count d bad).setPending n none).imposeFail res bad

/-! ## Folios and counts (R86–R89, R92, R101) -/

/-- The sheets of a galley that runs (R89). -/
def liveSheets (d : Dev) : List Nat := numbers 16 (fun n => decide (0 < (d.sheetRange n).2))

/-- Folio divider of a sheet. -/
def sheetDiv (d : Dev) (n : Nat) : Nat := d.fld (pg .galley) (F.GALLEY.SHEET_DIV_DIV.at n) + 1

/-- Live count of a sheet (R87). -/
def sheetL (d : Dev) (n : Nat) : Nat := vget d.gal.k n 0 / d.sheetDiv n

/-- Whether the present folio is live for a sheet (R87). -/
def sheetLive (d : Dev) (n : Nat) : Bool := vget d.gal.k n 0 % d.sheetDiv n == 0

/-- Whether an entry of a live folio fires by its cadence (R87). -/
def cadenceFires (c l : Nat) : Bool := if c = 0 then true else if c = 15 then l == 0 else l % 2 ^ c == 0

/-- A due action put in its place: by folio, sheet and entry (R101). -/
def insertAct (a : Act) : List Act → List Act
  | [] => [a]
  | b :: l => if a.gen < b.gen ∨ (a.gen = b.gen ∧ (a.sheet < b.sheet ∨ (a.sheet = b.sheet ∧ a.entry < b.entry)))
    then a :: b :: l else b :: insertAct a l

/-- The cursor of sheet `n` moved. -/
def setCursor (d : Dev) (n i : Nat) : Dev :=
  let d := d.setFld (pg .galley) (F.GALLEY.SHEET_CURSOR_ENTRY.at n) i
  { d with gal := { d.gal with cur := vmod d.gal.cur n (fun _ => i) } }

/-- The entries of sheet `n` with angle `a` from its cursor on: read, checked, and noted as due (R84, R87, R88). DESIGN CHOICE: once
the range's last entry has been read SHEET_CURSOR shows the entry after it, in 14 bits, until the next angle 0 (R105; log entry
33). -/
def runCursor (d : Dev) (m : Mem) (fl : List EntryFlaw) (gen n a : Nat) : Nat → Dev
  | 0 => d
  | fuel + 1 =>
    let p := pg .galley
    let rg := d.sheetRange n
    let i := vget d.gal.cur n 0
    let e := galleyEntry m i
    if i < rg.1 + rg.2 ∧ entAngle e = a then
      let d := d.setCursor n (i + 1)
      let d := if flawAt fl i = .single then d.bump p R.GALLEY.ECC_CORRECTED else d
      let d := if flawAt fl i = .double then d.raise .galley 0 B.GALLEY.GAL_ECC i
        else if cadenceFires (entCadence e) (d.sheetL n) && entAction e != 0 then
          { d with gal := { d.gal with
            due := insertAct ⟨gen, n, i, entAction e, entTarget e, entOperand e⟩ d.gal.due } }
        else d
      runCursor d m fl gen n a fuel
    else d

/-- An angle count issued: every live sheet's cursor reads the entries of that angle. -/
def issueCount (d : Dev) (m : Mem) (fl : List EntryFlaw) (gen a : Nat) : Dev :=
  if d.gal.running then
    d.each d.liveSheets (fun d n => if d.sheetLive n then d.runCursor m fl gen n a (d.sheetRange n).2 else d)
  else d

/-- An impose that has passed its scan takes effect (R92). DESIGN CHOICE: RESULT reads OK then also while another sheet's scan
runs (log entry 33). -/
def swapSheet (d : Dev) (n : Nat) (r : ImposeReq) : Dev :=
  let p := pg .galley
  let d := d.setReg p (R.GALLEY.SHEET_RANGE + 4 * n) (BitVec.ofNat 32 (r.base + 65536 * r.len))
  let d := d.setReg p (R.GALLEY.SHEET_DIV + 4 * n) (BitVec.ofNat 32 r.div)
  let d := d.setReg p (R.GALLEY.SHEET_LIVE + 4 * n) 0
  let d := { d with gal := { d.gal with k := vmod d.gal.k n (fun _ => 0) } }
  (((d.setPending n none).imposeResult 0x0).bump p R.GALLEY.IMPOSES).event p F.GALLEY.EVENT_IMPOSED

/-- One folio counted by every sheet, and SHEET_LIVE as it then reads. DESIGN CHOICE: SHEET_LIVE of a retired sheet stays 0 (R87; log
entry 33). -/
def countFolio (d : Dev) : Dev :=
  let d := { d with gal := { d.gal with k := d.gal.k.map (· + 1) } }
  d.each d.liveSheets (fun d n => d.setReg (pg .galley) (R.GALLEY.SHEET_LIVE + 4 * n) (BitVec.ofNat 32 (d.sheetL n)))

/-- A pending sheet that has passed its scan becomes live. -/
def swapPassed (d : Dev) (n : Nat) : Dev :=
  match d.pendingOf n with
  | some r => if r.passed then d.swapSheet n r else d
  | none => d

/-- Angle 0 of a folio: k and L advance, imposes that have passed take effect, cursors return to their ranges' starts, and a
pending ENABLE takes effect (R87, R89, R92). `advance` is false for the angle 0 that opens the first folio. -/
def galleyBoundary (d : Dev) (advance : Bool) : Dev :=
  let d := if advance then d.countFolio else d
  let d := d.each (List.range 16) swapPassed
  let d := d.each (List.range 16) (fun d n => d.setCursor n (d.sheetRange n).1)
  { d with gal := { d.gal with running := d.flag (pg .galley) F.HDR.CTRL_ENABLE } }

/-- ENABLE of the galley changed (R89, R99). The actions that are due on the clock of a write of 0 stay due for its slot. -/
def galleyEnable (d : Dev) (on : Bool) : Dev :=
  let p := pg .galley
  let d := d.setFlag p F.HDR.CTRL_ENABLE on
  if on then d
  else
    let d := d.setReg p R.GALLEY.WIN_STATE 0
    { d with gal := { d.gal with running := false, deferred := [] } }

/-- A clock passes: nothing that was due when the galley was disabled fires any more (R89). -/
def galleyTick (d : Dev) : Dev := if d.gal.running then d else { d with gal := { d.gal with due := [] } }

end Dev
end Sys2Proof.Machine
end

