-- ==== Sys2Proof/Machine/Proof.lean ====
section
/-!
DEFINITION. Proofs (R35, R36, R73–R77): the two banks, the triggers, the hold.
-/
namespace Sys2Proof.Machine
namespace Dev

/-- Whether a key of the register file is a proof-capable counter (R35). -/
def proofKey (key : Nat) : Bool :=
  decide (key < 0x100000) &&
  (match pageOf (key / 0x1000) with
   | some ⟨k, _⟩ => decide (0x100 ≤ key % 0x1000) && ((descOf k (key % 0x1000)).map (fun r => r.proof)).getD false
   | none => false)

/-- The counters as one clock edge finds them (R73). -/
def snapshot (d : Dev) : RegFile := Sparse.keep proofKey d.regs

/-- The linear second; 0 while the calendar is invalid (R73). -/
def proofRtc (d : Dev) : Word :=
  if d.flag (pg .rtc) F.RTC.STATUS_CAL_VALID then d.reg (pg .rtc) R.RTC.LINEAR else 0

/-- AUTO set where AUTOHOLD names one of the triggers of mask `trig` (R76). -/
def autoHold (d : Dev) (trig : Nat) : Dev :=
  let p := pg .proof
  if (trig &&& d.fld p F.PROOF.TRIG_EN_AUTOHOLD) ≠ 0 then
    let d := d.setFlag p F.PROOF.HOLD_AUTO true
    { d with proof := { d.proof with holdSince := d.now } }
  else d

/-- A proof taken for the triggers of mask `trig` (R73, R76). -/
def takeProof (d : Dev) (trig : Nat) : Dev :=
  let p := pg .proof
  let seq := d.proof.active.seq + 1
  let b : Bank := ⟨seq, d.reg (pg .timebase) R.TIMEBASE.FOLIO, BitVec.ofNat 32 d.stampAngle, d.proofRtc, d.snapshot⟩
  let bank := 1 - d.fld p F.PROOF.LAST_BANK
  let d := { d with proof := { d.proof with active := b, other := d.proof.active, copyAt := some d.now } }
  let d := (d.setReg p R.PROOF.SEQ seq).setReg p R.PROOF.LAST (BitVec.ofNat 32 (trig + 256 * bank))
  (d.event p F.PROOF.EVENT_TAKEN).autoHold trig

/-- A proof that a hold keeps from being taken: one for all triggers of a clock (R76; log entry 32). -/
def missProof (d : Dev) : Dev :=
  let p := pg .proof
  if d.proof.missAt = some d.now then d
  else
    let d := (d.bump p R.PROOF.MISSED).event p F.PROOF.EVENT_MISSED
    { d with proof := { d.proof with missAt := some d.now } }

/-- A trigger: 0 REG, 1 GALLEY, 2 FMARK, 3 PERIODIC (R74–R76). In the clock of a copy it is served by that copy; in the clock of
the flip it waits for the next clock. -/
def proofTrigger (d : Dev) (i : Nat) : Dev :=
  let p := pg .proof
  if !bitAt (d.reg p R.PROOF.TRIG_EN).toNat i then d
  else if d.proof.copyAt = some d.now then
    ((d.bump p R.PROOF.MERGED).setFld p F.PROOF.LAST_TRIG (d.fld p F.PROOF.LAST_TRIG ||| 2 ^ i)).autoHold (2 ^ i)
  else if d.reg p R.PROOF.HOLD ≠ 0 then d.missProof
  else if d.proof.copyAt.map (· + 1) = some d.now then
    let d := if d.proof.wait = 0 then d else d.bump p R.PROOF.MERGED
    { d with proof := { d.proof with wait := d.proof.wait ||| 2 ^ i } }
  else d.takeProof (2 ^ i)

/-- The clock after a flip: the triggers that waited for it (R75). -/
def proofTick (d : Dev) : Dev :=
  let w := d.proof.wait
  if w = 0 then d
  else
    let d := { d with proof := { d.proof with wait := 0 } }
    if d.reg (pg .proof) R.PROOF.HOLD ≠ 0 then d.missProof else d.takeProof w

/-- Bit of HOLD that a master owns (R82). -/
def holdBit (m : Master) : Nat := match m with | .ctrl => 0 | .svc => 1 | .host => 2 | .debug => 3

/-- A write of HOLD: the writer's own bit, and AUTO cleared by a 1 (R76, R82). -/
def holdWrite (d : Dev) (m : Master) (w : Word) : Dev :=
  let p := pg .proof
  let old := (d.reg p R.PROOF.HOLD).toNat
  let v := setBits old (holdBit m) 1 (bitsOf w.toNat (holdBit m) 1)
  let v := if bitAt w.toNat 4 then setBits v 4 1 0 else v
  let d := d.setReg p R.PROOF.HOLD (BitVec.ofNat 32 v)
  if old = 0 ∧ v ≠ 0 then { d with proof := { d.proof with holdSince := d.now } } else d

/-- A hold that has lasted longer than HOLD_MAX µs (R76). -/
def holdExpired (d : Dev) : Dev :=
  let p := pg .proof
  if d.reg p R.PROOF.HOLD = 0 ∨ d.now - d.proof.holdSince ≤ 400 * d.fld p F.PROOF.HOLD_MAX_LIMIT then d
  else ((d.setReg p R.PROOF.HOLD 0).event p F.PROOF.EVENT_HOLD_EXPIRED).bump p R.PROOF.EXPIRED

/-- The PERIODIC trigger, PERIOD µs after the last one or after the write of PERIODIC or PERIOD (R74). -/
def proofPeriodic (d : Dev) : Dev :=
  let t := d.proof.periodFrom + 400 * d.fld (pg .proof) F.PROOF.PERIOD_PERIOD
  if d.now < t then d
  else
    let d := d.proofTrigger 3
    { d with proof := { d.proof with periodFrom := t } }

/-- The word at offset `ofs` (0x800 to 0xFFF) of page `p` (R35, R36). -/
def mirrorRead (d : Dev) (k : PageKind) (p ofs : Nat) : Word :=
  let b := d.proof.active
  if k.mirrorWords = 0 then 0
  else if ofs = 0x800 then b.seq
  else if ofs = 0x804 then b.folio
  else if ofs = 0x808 then b.angle
  else if ofs = 0x80C then b.rtc
  else if 0x900 ≤ ofs ∧ proofKey (regKey p (ofs - 0x800)) then Sparse.get regDefault b.copy (regKey p (ofs - 0x800))
  else 0

end Dev
end Sys2Proof.Machine
end

