-- ==== Sys2Proof/Machine/Timebase.lean ====
section
/-!
DEFINITION. The angle timebase (R48–R72, R78–R80): folio and angle, sources and their switching, the grid PLL's verdicts,
the carrier reference and FMARK. What the PLL's loop forms from the line inputs (estimate, amplitude, phase error) comes
with the command of an update: the spec gives the loop no arithmetic (log entry 8).
-/
namespace Sys2Proof.Machine

/-- INC for a rate in Hz × 65,536: f × 2^48 / 400,000,000, rounded (R48). -/
def tbInc (f : Nat) : Nat := (f * 2 ^ 48 + 200000000 * 65536) / (400000000 * 65536)

/-! ## FMARK frames (R69, R70) -/

/-- High times in ns of the cells of the frame for folio `f` (R69). -/
def fmarkCells (f : Nat) : List Nat :=
  let n := if f % 16 = 0 then 32 else 8
  let bits := (List.range n).map (bitAt f)
  let parity := decide ((bits.filter id).length % 2 = 1)
  500 :: (bits ++ [parity]).map (fun b => if b then 750 else 250)

/-- What a high time in ns says: a data bit, or (2) a start cell (R70). -/
def cellClass (h : Nat) : Option Nat :=
  if 150 ≤ h ∧ h ≤ 350 then some 0
  else if 400 ≤ h ∧ h ≤ 600 then some 2
  else if 650 ≤ h ∧ h ≤ 850 then some 1
  else none

/-- A received frame by its cells, each with the time in ns since the previous cell's edge and its high time: whether it is
extended, and its folio bits. None where the frame is discarded (R69, R70). -/
def readFrame : List (Nat × Nat) → Option (Bool × Nat)
  | [] => none
  | c :: l =>
    let n := l.length - 1
    let data := l.map (fun e => if 950 ≤ e.1 ∧ e.1 ≤ 1050 then cellClass e.2 else none)
    if cellClass c.2 = some 2 ∧ (l.length = 9 ∨ l.length = 33) ∧ data.all (fun b => b == some 0 || b == some 1) ∧
        (data.filter (fun b => b == some 1)).length % 2 = 0 then
      some (l.length == 33, ((List.range n).filter (fun i => data.getD i none == some 1)).foldl (fun a i => a + 2 ^ i) 0)
    else none

namespace Dev

/-- ACTIVE: 0 STOPPED, 1 TRACKED, 2 MASTER, 3 VIRTUAL, 4 FOLLOW, 5 HOLDOVER (R53). -/
def tbActive (d : Dev) : Nat := d.fld (pg .timebase) F.TIMEBASE.SRC_STATUS_ACTIVE

/-- PENDING: the SRC encoding, 0 for none. -/
def tbPending (d : Dev) : Nat := d.fld (pg .timebase) F.TIMEBASE.SRC_STATUS_PENDING

/-- SLEWING. -/
def tbSlewing (d : Dev) : Bool := d.flag (pg .timebase) F.TIMEBASE.SRC_STATUS_SLEWING

/-- PLL_LOCK. -/
def pllLock (d : Dev) : Bool := d.flag (pg .timebase) F.TIMEBASE.SRC_STATUS_PLL_LOCK

/-- ROLE: 0 STANDALONE, 1 TIME_MASTER, 2 FOLLOWER. -/
def tbRole (d : Dev) : Nat := d.fld (pg .timebase) F.TIMEBASE.SRC_SEL_ROLE

/-- FMARK_LOCK. -/
def fmarkLock (d : Dev) : Bool := d.flag (pg .timebase) F.TIMEBASE.SRC_STATUS_FMARK_LOCK

/-- A part of the timebase beside its registers changed. -/
def modTb (d : Dev) (f : TbS → TbS) : Dev := { d with tb := f d.tb }

/-- ANGLE_VALID (R65). -/
def tbRefresh (d : Dev) : Dev :=
  let a := d.tbActive
  d.setFlag (pg .timebase) F.TIMEBASE.SRC_STATUS_ANGLE_VALID
    (((a == 1 || a == 2) && !d.tbSlewing) || (a == 4 && d.fmarkLock))

/-- ACTIVE set; SUPERVISED falls outside MASTER (R61). -/
def setTbActive (d : Dev) (a : Nat) : Dev :=
  let p := pg .timebase
  let d := d.setFld p F.TIMEBASE.SRC_STATUS_ACTIVE a
  let d := if a = 2 then d else d.setFlag p F.TIMEBASE.SRC_STATUS_SUPERVISED false
  let d := if a = 1 then d else d.measLost
  d.tbRefresh

/-- PENDING set. -/
def setTbPending (d : Dev) (s : Nat) : Dev := d.setFld (pg .timebase) F.TIMEBASE.SRC_STATUS_PENDING s

/-- The catch-up set or ended. -/
def setSlew (d : Dev) (s : Slew) : Dev :=
  let d := d.setFlag (pg .timebase) F.TIMEBASE.SRC_STATUS_SLEWING (s != .none)
  (d.modTb (fun t => { t with slew := s, dropTracked := false })).tbRefresh

/-- Rate of a source, Hz × 65,536 (R53). -/
def sourceRate (d : Dev) (a : Nat) : Nat :=
  let p := pg .timebase
  if a = 1 then d.tb.gridFreq
  else if a = 2 then d.fld p F.TIMEBASE.MASTER_FREQ_FREQ
  else if a = 3 then d.fld p F.TIMEBASE.VIRT_FREQ_FREQ
  else if a = 4 then d.tb.followFreq
  else if a = 5 then d.tb.heldFreq
  else 0

/-- FREQ: the rate in use; it decides which binned channels are suspended (R212). -/
def setTbFreq (d : Dev) (f : Nat) : Dev := (d.setReg (pg .timebase) R.TIMEBASE.FREQ (BitVec.ofNat 32 f)).binRate

/-- The earliest grid angle 0 that R63 admits, as its distance in 1/65,536 of the grid period; `left` is
65,536 minus the present angle. -/
def slewTarget (gridAngle left : Nat) : Option Nat :=
  ((List.range 4).map (fun j => 65536 - gridAngle % 65536 + 65536 * j)).find?
    (fun t => decide (left ≤ 2 * t) && decide (t ≤ 2 * left))

/-- The search of R63 with `left` counts still to issue: the catch-up rate, or the folio completed at its present rate. DESIGN
CHOICE: FREQ shows the catch-up rate rounded down to its unit (log entry 32). -/
def startSlew (d : Dev) (left : Nat) : Dev :=
  match slewTarget (d.fld (pg .timebase) F.TIMEBASE.GRID_ANGLE_ANGLE) left with
  | some t => (d.setSlew .toGrid).setTbFreq (d.tb.gridFreq * left / t)
  | none => d.setSlew .complete

/-- Whether a request for MASTER is refused (R60). -/
def masterRefused (d : Dev) : Bool := d.pllLock || decide (d.fld (pg .timebase) F.TIMEBASE.LOSS_CFG_LEVEL ≤ d.tb.amp)

/-- A completed switch (R62, R63). -/
def switched (d : Dev) (a : Nat) : Dev :=
  let p := pg .timebase
  ((((d.setTbPending 0).setTbActive a).event p F.TIMEBASE.EVENT_SWITCHED).bump p R.TIMEBASE.SWITCHES)

/-- What a pending request does at an angle 0 with no catch-up in progress (R60, R62). -/
def applyPending (d : Dev) : Dev :=
  let s := d.tbPending
  if s = 2 then
    if d.masterRefused then (d.setTbPending 0).event (pg .timebase) F.TIMEBASE.EVENT_SRC_REFUSED else d.switched 2
  else if s = 3 then d.switched 3
  else d

/-- The source of the folio that an angle 0 opens (R62–R64). -/
def boundarySource (d : Dev) : Dev :=
  let drop := d.tb.dropTracked
  match d.tb.slew with
  | .none => let d := d.applyPending; d.setTbFreq (d.sourceRate d.tbActive)
  | .toGrid =>
    let d := d.setSlew .none
    if drop then
      let d := d.applyPending
      let d := d.setTbFreq (d.sourceRate d.tbActive)
      if d.tbPending = 1 ∧ d.pllLock then d.startSlew 65536 else d
    else
      let d := (d.switched 1).modTb (fun t => { t with heldFreq := if t.heldFreq = 0 then t.gridFreq else t.heldFreq })
      d.setTbFreq (d.sourceRate 1)
  | .complete =>
    let d := d.setSlew .none
    let d := if drop then d.applyPending else d
    let d := d.setTbFreq (d.sourceRate d.tbActive)
    if d.tbPending = 1 ∧ d.pllLock then d.startSlew 65536 else d

/-- FMARK proofs are taken at folios that are multiples of 2^FMARK_DIV (R74). -/
def fmarkProof (d : Dev) : Dev :=
  if (d.reg (pg .timebase) R.TIMEBASE.FOLIO).toNat % 2 ^ d.fld (pg .proof) F.PROOF.TRIG_EN_FMARK_DIV = 0 then
    d.proofTrigger 2 else d

/-- A folio opened at angle 0 with number `f` (R50, R51), its galley boundary, and the time master's frame (R69, R74). `pass` says
that the folio has passed 0xFFFF_FFFF to reach `f`. -/
def openFolio (d : Dev) (m : Mem) (fl : List EntryFlaw) (f : Nat) (advance pass : Bool) : Dev :=
  let p := pg .timebase
  let d := d.setReg p R.TIMEBASE.FOLIO (BitVec.ofNat 32 f)
  let d := d.setReg p R.TIMEBASE.ANGLE 0
  let d := if pass then
      (d.setFld p F.TIMEBASE.FOLIO_EPOCH_EPOCH (d.fld p F.TIMEBASE.FOLIO_EPOCH_EPOCH + 1)).event p
        F.TIMEBASE.EVENT_FOLIO_WRAP
    else d
  let d := ((d.galleyBoundary advance).issueCount m fl 1 0).binBoundary
  if d.tbRole = 1 ∧ d.flag p F.TIMEBASE.SYNC_CTRL_FMARK_OUT_EN then
    ((d.modTb (fun t => { t with fmOut := fmarkCells (f % 4294967296) })).bump p R.TIMEBASE.FMARK_GOOD).fmarkProof else d

/-- The mean PLL frequency of a tracked cycle that ends, kept for HOLDOVER (R53). -/
def closeCycle (d : Dev) : Dev :=
  let p := pg .timebase
  if d.tbActive = 1 then
    let d := d.bump p R.TIMEBASE.CYCLES
    d.modTb (fun t => { t with heldFreq := if t.freqN = 0 ∨ !d.pllLock then t.heldFreq else t.freqSum / t.freqN,
                               freqSum := 0, freqN := 0 })
  else d

/-- Whether angle 0 is due: count 65,535 of a running timebase has been issued and PHI has wrapped (R48–R50). -/
def wrapDue (d : Dev) : Bool := d.tbActive != 0 && d.angle == 65535 && decide (2 ^ 48 ≤ d.tb.phi)

/-- Angle 0 (R50): what PHI holds beyond its wrap stays in it. -/
def folioBoundary (d : Dev) (m : Mem) (fl : List EntryFlaw) : Dev :=
  if !d.wrapDue then d
  else
    let d := (d.modTb (fun t => { t with phi := t.phi - 2 ^ 48 })).closeCycle.boundarySource
    let own := (d.reg (pg .timebase) R.TIMEBASE.FOLIO).toNat + 1
    let f := d.tb.nextFolio.getD own
    let d := if d.tb.nextFolio.isSome then d.setTbActive 4 else d
    let d := if d.tbActive = 4 then d.setTbFreq d.tb.followFreq else d
    (d.modTb (fun t => { t with nextFolio := none })).openFolio m fl f true (decide (f % 4294967296 < own - 1))

/-- An angle count issued, once PHI has reached it (R48, R49). -/
def angleSlot (d : Dev) (m : Mem) (fl : List EntryFlaw) : Dev :=
  if d.tbActive = 0 ∨ d.angle = 65535 ∨ d.tb.phi < (d.angle + 1) * 4294967296 then d
  else
    let a := d.angle + 1
    ((d.setReg (pg .timebase) R.TIMEBASE.ANGLE (BitVec.ofNat 32 a)).issueCount m fl 0 a).binEdge a

/-- One clock of the accumulator (R48). -/
def phiTick (d : Dev) : Dev :=
  if d.tbActive = 0 then d
  else d.modTb (fun t => { t with phi := t.phi + tbInc (d.reg (pg .timebase) R.TIMEBASE.FREQ).toNat })

/-- ENABLE of the timebase changed (R50). -/
def timebaseEnable (d : Dev) (m : Mem) (fl : List EntryFlaw) (on : Bool) : Dev :=
  let p := pg .timebase
  if on = d.flag p F.HDR.CTRL_ENABLE then d
  else
    let d := d.setFlag p F.HDR.CTRL_ENABLE on
    if on then
      if d.tbRole = 2 then d
      else
        let src := d.fld p F.TIMEBASE.SRC_SEL_SRC
        let first := !d.tb.started
        let f := if first then 0 else (d.reg p R.TIMEBASE.FOLIO).toNat + 1
        let d := d.modTb (fun t => { t with started := true, phi := 0 })
        let bad := src = 2 ∧ d.masterRefused
        let d := if bad then d.event p F.TIMEBASE.EVENT_SRC_REFUSED else d
        let act := if src = 2 ∧ !bad then 2 else 3
        let d := (d.setTbActive act).setTbFreq (d.sourceRate act)
        let d := if src = 1 then d.setTbPending 1 else d
        let d := d.openFolio m fl f (!first) (decide (f = 4294967296))
        if src = 1 ∧ d.pllLock then d.startSlew 65536 else d
    else
      let d := ((d.setSlew .none).setTbPending 0).setFlag p F.TIMEBASE.SRC_STATUS_FMARK_LOCK false
      let d := d.modTb (fun t => { t with fmValid := 0, fmBad := 0, nextFolio := none })
      ((d.setTbActive 0).setTbFreq 0).binStopped

/-- A source request (R60, R63, R64). -/
def sourceRequest (d : Dev) (src : Nat) : Dev :=
  let p := pg .timebase
  if !d.flag p F.HDR.CTRL_ENABLE ∨ d.tbRole = 2 then d
  else
    let d := if d.tbSlewing ∧ src ≠ 1 then d.modTb (fun t => { t with dropTracked := true }) else d
    if src = d.tbActive then d.setTbPending 0
    else if src = 2 ∧ d.masterRefused then (d.setTbPending 0).event p F.TIMEBASE.EVENT_SRC_REFUSED
    else
      let d := d.setTbPending src
      if src = 1 ∧ d.pllLock ∧ !d.tbSlewing then d.startSlew (65536 - d.angle) else d

/-! ## Grid PLL (R55–R61) -/

/-- Whether the fast input `i` stands in a valid slot of an enabled converter and has delivered a result since that was enabled
(R55). -/
def inputLive (d : Dev) (i : Nat) : Bool :=
  let a : AdcS := vget d.adc (i / 4) {}
  d.flag (pg .adc (i / 4)) F.HDR.CTRL_ENABLE && (vget d.af i {}).seen &&
  (List.range 16).any (fun s => decide (s < a.len) && bitAt (vget a.slots s 0).toNat 31 && (vget a.slots s 0).toNat % 4 == i % 4)

/-- The inputs that LINE_SEL names, in its order (R55). -/
def lineSel (d : Dev) : List Nat :=
  let p := pg .timebase
  [d.fld p F.TIMEBASE.LINE_SEL_IN0, d.fld p F.TIMEBASE.LINE_SEL_IN1, d.fld p F.TIMEBASE.LINE_SEL_IN2]

/-- The line inputs that the mode uses (R55). -/
def linesUsed (d : Dev) : List Nat := if d.fld (pg .timebase) F.TIMEBASE.LINE_SEL_MODE = 2 then d.lineSel.take 1 else d.lineSel

/-- What the PLL takes from a line input: its newest delivered result, or 0 (R55). -/
def lineIn (d : Dev) (i : Nat) : Int := if d.inputLive i then (vget d.af i {}).val else 0

/-- An update of the PLL with what its loop has formed from the results it takes: the measured angle, the frequency (Hz ×
65,536), the amplitude of the reference in 1/4,096 of full scale, and the phase error in ac (R55–R58, R61). No amplitude is seen
where every line input in use reads as 0 for want of a result; in line-to-line mode 5,461 ac are taken off the angle. -/
def pllUpdate (d : Dev) (ga freq amp : Nat) (err : Int) : Dev :=
  let p := pg .timebase
  let ga := if d.fld p F.TIMEBASE.LINE_SEL_MODE = 1 then (ga + 65536 - 5461) % 65536 else ga % 65536
  let amp := if d.linesUsed.all (fun i => !d.inputLive i) then 0 else amp
  let high := decide (d.fld p F.TIMEBASE.LOSS_CFG_LEVEL ≤ amp)
  let inBand := decide (40 * 65536 ≤ freq) && decide (freq ≤ 70 * 65536)
  let lim := d.fld p F.TIMEBASE.JUMP_CFG_LIMIT
  let far := decide (lim < err.natAbs)
  let within := d.linesUsed.all (fun i => d.inputLive i) && decide (err.natAbs ≤ 8 * d.fld p F.TIMEBASE.PLL_CFG_LOCK_WIN)
  let wrap := decide (ga < d.fld p F.TIMEBASE.GRID_ANGLE_ANGLE)
  let dm := toSigned 16 (ga + 65536 - d.angle)
  let mfar := d.flag p F.TIMEBASE.SRC_STATUS_SUPERVISED && d.pllLock && decide (lim < dm.natAbs)
  let d := d.setReg p R.TIMEBASE.GRID_ANGLE (BitVec.ofNat 32 ga)
  let d := if high && inBand then d.setFlag p F.TIMEBASE.SRC_STATUS_GRID_OK true else d
  let d := d.modTb (fun t => { t with
    lines := Vector.ofFn (fun k => d.lineIn (d.lineSel.getD k.val 0)),
    amp := amp, gridFreq := freq, phaseErr := err, masterErr := dm,
    jumpRun := if far then t.jumpRun + 1 else 0,
    masterRun := if mfar then t.masterRun + 1 else 0,
    lockRun := if !within then 0 else if wrap && t.inWin then t.lockRun + 1 else t.lockRun,
    inWin := within && (wrap || t.inWin),
    lowRun := if high then 0 else t.lowRun + 1,
    offRun := if inBand then 0 else if wrap && t.offCycle then t.offRun + 1 else t.offRun,
    offCycle := !inBand && (wrap || t.offCycle),
    freqSum := if d.tbActive = 1 then t.freqSum + freq else 0,
    freqN := if d.tbActive = 1 then t.freqN + 1 else 0 })
  if d.tbActive = 1 ∧ !d.tbSlewing then d.setTbFreq freq else d

/-- The PLL declares lock after LOCK_CONFIRM cycles within its window (R56, R59, R61, R63). -/
def pllLockDeclared (d : Dev) : Dev :=
  let p := pg .timebase
  if d.pllLock ∨ d.tb.lockRun < d.fld p F.TIMEBASE.PLL_CFG_LOCK_CONFIRM then d
  else
    let d := (d.setFlag p F.TIMEBASE.SRC_STATUS_PLL_LOCK true).event p F.TIMEBASE.EVENT_LOCK
    let d := d.modTb (fun t => { t with masterRun := 0, jumpRun := 0 })
    let d := if d.tbActive = 2 then d.setFlag p F.TIMEBASE.SRC_STATUS_SUPERVISED true else d
    let auto := d.tbActive = 5 ∧ d.tbRole ≠ 2 ∧ d.flag p F.TIMEBASE.SRC_SEL_AUTO_TRACK ∧
      d.fld p F.TIMEBASE.SRC_SEL_SRC = 1 ∧ d.tbPending = 0
    let d := if auto then d.setTbPending 1 else d
    if d.tbPending = 1 ∧ !d.tbSlewing then d.startSlew (65536 - d.angle) else d

/-- PLL_LOCK falls: a catch-up in progress ends where it was planned, and the PLL acquires again (R57, R58, R61, R63). -/
def pllFall (d : Dev) : Dev :=
  let d := (d.setFlag (pg .timebase) F.TIMEBASE.SRC_STATUS_PLL_LOCK false).measLost
  let slewing := d.tbSlewing
  d.modTb (fun t => { t with lockRun := 0, inWin := false, dropTracked := t.dropTracked || slewing })

/-- Lock lost: TRACKED becomes HOLDOVER with no step (R57, R58). The flag says whether TRACKED was active. DESIGN CHOICE: the rate
in use stays what it was until the next angle 0, from which the mean of the last locked tracked cycle applies (R53; log entry
32). -/
def dropLock (d : Dev) : Dev × Bool :=
  let tracked := d.tbActive == 1
  let d := d.pllFall
  (if tracked then d.setTbActive 5 else d, tracked)

/-- Whether a condition of R57 holds: the amplitude low for LOSS_CFG.TIME of updates every 10 µs, or two cycles outside 40–70 Hz. -/
def gridLost (d : Dev) : Bool :=
  decide (10 * d.fld (pg .timebase) F.TIMEBASE.LOSS_CFG_TIME ≤ d.tb.lowRun) || decide (2 ≤ d.tb.offRun)

/-- Loss of grid (R57). -/
def lossOfGrid (d : Dev) : Dev :=
  let p := pg .timebase
  if (!d.pllLock ∧ !d.flag p F.TIMEBASE.SRC_STATUS_GRID_OK) ∨ !d.gridLost then d
  else
    let r := d.dropLock
    let d := r.1.setFlag p F.TIMEBASE.SRC_STATUS_GRID_OK false
    let d := (d.event p F.TIMEBASE.EVENT_LOSS).bump p R.TIMEBASE.LOSSES
    if r.2 then d.raise .timebase 0 B.TIMEBASE.TB_LOSS else d

/-- A phase jump: the error has exceeded the limit on CONFIRM + 1 updates (R58). DESIGN CHOICE: none is declared while PLL_LOCK is
0 (log entry 32). -/
def phaseJump (d : Dev) : Dev :=
  let p := pg .timebase
  if !d.pllLock ∨ d.tb.jumpRun ≤ d.fld p F.TIMEBASE.JUMP_CFG_CONFIRM then d
  else
    let r := d.dropLock
    let d := (r.1.event p F.TIMEBASE.EVENT_JUMP).bump p R.TIMEBASE.JUMPS
    let d := d.modTb (fun t => { t with jumpRun := 0 })
    if r.2 then d.raise .timebase 0 B.TIMEBASE.TB_JUMP (ofSigned 16 d.tb.phaseErr) else d

/-- A master jump (R61). -/
def masterJump (d : Dev) : Dev :=
  let p := pg .timebase
  if d.tbActive ≠ 2 ∨ !d.flag p F.TIMEBASE.SRC_STATUS_SUPERVISED ∨
      d.tb.masterRun ≤ d.fld p F.TIMEBASE.JUMP_CFG_CONFIRM then d
  else
    let d := d.pllFall
    let d := (d.event p F.TIMEBASE.EVENT_JUMP).bump p R.TIMEBASE.JUMPS
    let d := d.modTb (fun t => { t with masterRun := 0 })
    d.raise .timebase 0 B.TIMEBASE.TB_MASTER_JUMP (ofSigned 16 d.tb.masterErr)

/-! ## Carrier reference (R67, R68) -/

/-- The level that the device drives on SYNCOUT: high for the first half of each CREF period (R67). -/
def syncout (d : Dev) : Bool :=
  d.flag (pg .timebase) F.TIMEBASE.SYNC_CTRL_SYNCOUT_EN && !d.flag (pg .timebase) F.TIMEBASE.SYNC_CTRL_CREF_SRC &&
  decide (2 * d.crefPhase < d.tb.crefPer)

/-- CREF after a write of CREF_PERIOD or SYNC_CTRL: free running it takes the register's period from its last reference instant
on; locked to SYNCIN it keeps the period it has (R67, R68; log entry 32). -/
def crefWritten (d : Dev) : Dev :=
  if d.flag (pg .timebase) F.TIMEBASE.SYNC_CTRL_CREF_SRC then d
  else d.modTb (fun t => { t with crefFrom := d.now * 64 - d.crefPhase,
                                  crefPer := d.fld (pg .timebase) F.TIMEBASE.CREF_PERIOD_PERIOD })

/-- A SYNCIN edge, `interval` edge steps after the one before (R67, R68). Accepted within ±2 % of CREF_PERIOD, it sets the next
reference instant and the period of CREF; its placement error is its distance from where the period in use expected it. -/
def syncinEdge (d : Dev) (interval : Nat) : Dev :=
  let p := pg .timebase
  let per := d.fld p F.TIMEBASE.CREF_PERIOD_PERIOD
  let near := decide (50 * ((interval : Int) - per).natAbs ≤ per)
  let ofs := (d.fld p F.TIMEBASE.SYNC_OFFSET_OFFSET * interval + 32768) / 65536
  if !d.flag p F.TIMEBASE.SYNC_CTRL_CREF_SRC then d
  else if !near then d.modTb (fun t => { t with syncGood := 0, syncAt := d.now * 64 })
  else d.modTb (fun t => { t with
    crefFrom := d.now * 64 + ofs, crefPer := interval, syncAt := d.now * 64,
    syncGood := if ((interval : Int) - t.crefPer).natAbs ≤ 4 then t.syncGood + 1 else 0 })

/-- 64 consecutive edges in their places (R68). -/
def syncLockAcquired (d : Dev) : Dev :=
  let p := pg .timebase
  if d.tb.syncGood < 64 ∨ d.flag p F.TIMEBASE.SRC_STATUS_SYNC_LOCK then d
  else (d.setFlag p F.TIMEBASE.SRC_STATUS_SYNC_LOCK true).event p F.TIMEBASE.EVENT_SYNC_LOCK

/-- No edge within 2 CREF periods: two expected edges have not come, and the lock rule starts afresh; CREF holds its last period
(R68). -/
def syncLoss (d : Dev) : Dev :=
  let p := pg .timebase
  let t := d.tb.syncAt + 2 * d.tb.crefPer
  if !d.flag p F.TIMEBASE.SYNC_CTRL_CREF_SRC ∨ d.now * 64 < t then d
  else
    let locked := d.flag p F.TIMEBASE.SRC_STATUS_SYNC_LOCK
    let d := (d.modTb (fun x => { x with syncGood := 0, syncAt := t })).bump p R.TIMEBASE.SYNC_MISSED 2
    if locked then
      ((d.setFlag p F.TIMEBASE.SRC_STATUS_SYNC_LOCK false).event p F.TIMEBASE.EVENT_SYNC_LOSS).raise .timebase 0
        B.TIMEBASE.TB_SYNC
    else d

/-! ## FMARK (R69–R72) -/

/-- FMARK lost by a locked follower, which goes on at the rate in use (R72). -/
def fmarkLost (d : Dev) : Dev :=
  let d := d.setFlag (pg .timebase) F.TIMEBASE.SRC_STATUS_FMARK_LOCK false
  let d := d.modTb (fun t => { t with fmValid := 0, fmBad := 0, fmHeld := true, nextFolio := none,
                                      heldFreq := (d.reg (pg .timebase) R.TIMEBASE.FREQ).toNat })
  (if d.tbActive = 4 then d.setTbActive 5 else d.tbRefresh).raise .timebase 0 B.TIMEBASE.TB_FMARK

/-- A frame discarded or in error (R70, R72). -/
def fmarkError (d : Dev) : Dev :=
  let p := pg .timebase
  let d := (d.bump p R.TIMEBASE.FMARK_BAD).event p F.TIMEBASE.EVENT_FMARK_ERR
  if d.fmarkLock then
    let d := d.modTb (fun t => { t with fmBad := t.fmBad + 1 })
    if 3 ≤ d.tb.fmBad then d.fmarkLost else d
  else d.modTb (fun t => { t with fmValid := 0 })

/-- The rate for the following folio: the measured rate with the angle error spread over the folio (R71). -/
def followRate (rate : Nat) (e : Int) : Nat := ((rate : Int) * (65536 - e) / 65536).toNat

/-- The third frame of the lock rule: lock, or the refusal of a follower that has run ahead, which then needs a device reset
(R71, R72). -/
def fmarkRelock (d : Dev) (f : Nat) : Dev :=
  let p := pg .timebase
  let own := (d.reg p R.TIMEBASE.FOLIO).toNat
  if d.tb.fmDead then d.modTb (fun t => { t with fmValid := 0 })
  else if d.tb.fmHeld && decide (f < own) then
    (d.modTb (fun t => { t with fmValid := 0, fmDead := true })).raise .timebase 0 B.TIMEBASE.TB_FMARK
  else
    let d := (d.setFlag p F.TIMEBASE.SRC_STATUS_FMARK_LOCK true).event p F.TIMEBASE.EVENT_FMARK_LOCK
    let on := d.tbActive != 0
    (d.modTb (fun t => { t with fmValid := 3, fmBad := 0,
                                nextFolio := if t.fmHeld && on then some ((f + 1) % 4294967296) else none,
                                fmHeld := false })).tbRefresh

/-- The folio that a valid frame names: the whole of it, or the first one from `next` on that its eight bits fit (R69, R71). -/
def receivedFolio (ext : Bool) (bits next : Nat) : Nat :=
  if ext then bits else (next + (bits + 256 - next % 256) % 256) % 4294967296

/-- A valid frame of an unlocked follower: progress of the lock rule (R71). -/
def fmarkSeek (d : Dev) (ext : Bool) (bits rate : Nat) : Dev :=
  let t := d.tb
  let next := (t.fmLast.toNat + 1) % 4294967296
  let same := if ext then bits == next else bits == next % 256
  let d := d.bump (pg .timebase) R.TIMEBASE.FMARK_GOOD
  let step := if t.fmValid ≠ 0 ∧ same then t.fmValid + 1 else if ext then 1 else 0
  let f := if ext then bits else next
  let d := d.modTb (fun t => { t with fmValid := step, fmLast := BitVec.ofNat 32 f, followFreq := rate })
  if 3 ≤ step then d.fmarkRelock f else d

/-- A whole frame by its cells, the follower's angle error at its start edge in ac, and the measured rate in Hz × 65,536
(R69–R72, R74). The edge counts as having come FMARK_CFG.DELAY clocks earlier (R70). -/
def fmarkFrame (d : Dev) (m : Mem) (fl : List EntryFlaw) (cells : List (Nat × Nat)) (e : Int) (rate : Nat) : Dev :=
  let p := pg .timebase
  if !d.flag p F.HDR.CTRL_ENABLE ∨ d.tbRole ≠ 2 ∨ !d.flag p F.TIMEBASE.SYNC_CTRL_FMARK_IN_EN then d
  else
    let d := d.modTb (fun t => { t with fmAt := d.now })
    match readFrame cells with
    | none => d.fmarkProof.fmarkError
    | some (ext, bits) =>
      if !d.fmarkLock then d.fmarkProof.fmarkSeek ext bits rate
      else if d.tbActive = 0 then
        let f := receivedFolio ext bits ((d.tb.fmLast.toNat + 1) % 4294967296)
        let first := !d.tb.started
        let d := d.bump p R.TIMEBASE.FMARK_GOOD
        let d := d.modTb (fun t => { t with fmLast := BitVec.ofNat 32 f, followFreq := rate, started := true, phi := 0 })
        (((d.setTbActive 4).setTbFreq rate).openFolio m fl f (!first) false).fmarkProof
      else
        let d := d.fmarkProof
        let own := (d.reg p R.TIMEBASE.FOLIO).toNat
        let inc := tbInc (d.reg p R.TIMEBASE.FREQ).toNat
        let e := e - ((d.fld p F.TIMEBASE.FMARK_CFG_DELAY * inc + 2147483648) / 4294967296 : Nat)
        let d := d.modTb (fun t => { t with followFreq := followRate rate e })
        if d.tbActive = 4 ∧ (d.fld p F.TIMEBASE.FMARK_CFG_TOL < e.natAbs ∨ bits ≠ (if ext then own else own % 256)) then d.fmarkError
        else (d.bump p R.TIMEBASE.FMARK_GOOD).modTb (fun t => { t with fmBad := 0, fmLast := BitVec.ofNat 32 own })

/-- No start edge within 2 expected folios (R72). -/
def fmarkTimeout (d : Dev) : Dev :=
  if d.fmarkLock ∧ 2 * 400000000 * 65536 ≤ (d.now - d.tb.fmAt) * (d.reg (pg .timebase) R.TIMEBASE.FREQ).toNat then d.fmarkLost
  else d

end Dev
end Sys2Proof.Machine
end

