-- ==== Sys2Proof/Machine/Charge.lean ====
section
/-!
DEFINITION. The charge manager (R245–R279): states and ends of a session, pilot and proximity, the input limit, temperatures
and zones, profile and regulator, timers, reverse supply, commands. Currents are in 10 mA, voltages in 0.1 V, temperatures
in 0.1 °C, duty in 0.01 %.
-/
namespace Sys2Proof.Machine

/-- State of the pilot by its high plateau in 0.01 V (R254): 0 A to 5 F, 6 INVALID. -/
def plateauState (v : Int) : Nat :=
  if 1100 ≤ v ∧ v ≤ 1300 then 0
  else if 800 ≤ v ∧ v ≤ 1000 then 1
  else if 500 ≤ v ∧ v ≤ 700 then 2
  else if 200 ≤ v ∧ v ≤ 400 then 3
  else if -100 ≤ v ∧ v ≤ 100 then 4
  else if v < -1100 then 5
  else 6

/-- RATING of a resistance from PP to ground (R257). -/
def ppRating (mode ohms : Nat) : Nat :=
  if 4500 < ohms then 7
  else if mode = 0 then
    if 1100 ≤ ohms ∧ ohms ≤ 2460 then 1
    else if 400 ≤ ohms ∧ ohms ≤ 936 then 2
    else if 164 ≤ ohms ∧ ohms ≤ 308 then 3
    else if 80 ≤ ohms ∧ ohms ≤ 140 then 4
    else 0
  else if 100 ≤ ohms ∧ ohms ≤ 200 then 5
  else if 380 ≤ ohms ∧ ohms ≤ 600 then 6
  else 0

/-- Pilot term of a duty, with `hlc` the current of high-level communication (R256). -/
def dutyTerm (duty hlc : Nat) : Nat :=
  if duty < 300 then 0
  else if duty ≤ 700 then hlc
  else if duty < 800 then 0
  else if duty < 1000 then 600
  else if duty ≤ 8500 then duty * 3 / 5
  else if duty ≤ 9600 then (duty - 6400) * 5 / 2
  else if duty ≤ 9700 then 8000
  else 0

/-- Duty that advertises a current (R271). -/
def currentDuty (i : Nat) : Nat := if i ≤ 5100 then i * 5 / 3 else i * 2 / 5 + 6400

/-- Whether numbers ascend strictly. -/
def ascends : List Int → Bool
  | a :: b :: l => decide (a < b) && ascends (b :: l)
  | _ => true

/-- A tracked zone after its temperature `t` (R262): the zone by the edges where none was tracked, else a move across each
edge that `t` lies beyond by the hysteresis. -/
def trackZone (edges : List Int) (hyst : Int) (t : Int) : Option Nat → Nat
  | none => (edges.filter (fun e => decide (e ≤ t))).length
  | some z =>
    let up := (edges.drop z).takeWhile (fun e => decide (e + hyst ≤ t))
    let down := (edges.take z).reverse.takeWhile (fun e => decide (t < e - hyst))
    if up.isEmpty then z - down.length else z + up.length

/-- Linear interpolation in the table of codes and temperatures, rounded down; none outside it (R260). -/
def interpolate (x : Int) : List (Int × Int) → Option Int
  | (c0, t0) :: (c1, t1) :: l =>
    if x < c0 then none
    else if x ≤ c1 then some (if c1 = c0 then t0 else t0 + (t1 - t0) * (x - c0) / (c1 - c0))
    else interpolate x ((c1, t1) :: l)
  | _ => none

namespace Dev

/-- A part of the charge manager beside its registers changed. -/
def modChg (d : Dev) (f : ChgS → ChgS) : Dev := { d with chg := f d.chg }

/-- STATE: 0 IDLE, 1 DETECT, 2 PRECHARGE, 3 STEP, 4 TOPOFF, 5 DONE, 6 SUSPEND, 7 REVERSE, 8 FAULT (R246). -/
def cstate (d : Dev) : Nat := d.fld (pg .chg) F.CHG.CSTATE_STATE

/-- IN_GROUP. -/
def chgIn (d : Dev) : Nat := d.fld (pg .chg) F.CHG.CFG_IN_GROUP

/-- OUT_GROUP. -/
def chgOut (d : Dev) : Nat := d.fld (pg .chg) F.CHG.CFG_OUT_GROUP

/-- Both groups. -/
def chgGroups (d : Dev) : List Nat := [d.chgIn, d.chgOut]

/-- Whether either group is LATCHED. -/
def chgLatched (d : Dev) : Bool := d.chgGroups.any (fun g => d.gstate g == 7)

/-- Pilot state. -/
def pilot (d : Dev) : Nat := d.fld (pg .chg) F.CHG.PILOT_STATE

/-- RATING of the proximity contact. -/
def ppNow (d : Dev) : Nat := d.fld (pg .chg) F.CHG.PP_RATING

/-- The active zone. -/
def chgZone (d : Dev) : Nat := d.fld (pg .chg) F.CHG.CSTATE_ZONE

/-- SUSP of the active zone (R262). -/
def zoneSusp (d : Dev) : Bool := d.flag (pg .chg) (F.CHG.ZONE_CFG_SUSP.at d.chgZone)

/-- I_LIM_IN (R258). -/
def iLimIn (d : Dev) : Nat := d.fld (pg .chg) F.CHG.LIMIT_I_LIM_IN

/-- Whether S2 is closed. -/
def s2Closed (d : Dev) : Bool := d.flag (pg .chg) F.CHG.CSTATE_S2

/-- SUSP_MASK. -/
def suspMask (d : Dev) : Nat := d.fld (pg .chg) F.CHG.CSTATE_SUSP_MASK

/-- A reference command of the charge manager, entered on IN_GROUP.REF (R156, R265). -/
def chgRef (d : Dev) (t : Int) : Dev :=
  (d.setReg (pg .conv d.chgIn) R.CONV.REF (BitVec.ofInt 32 t)).collect d.chgIn (.ref t)

/-! ## Ends and transitions (R247, R248) -/

/-- S2 switched, and what R253 then expects of the pilot. -/
def setS2 (d : Dev) (on : Bool) : Dev :=
  if d.s2Closed = on then d
  else
    (d.setFlag (pg .chg) F.CHG.CSTATE_S2 on).modChg (fun c => { c with
      s2T := 0, watch := if on then .closing else if d.pilot = 2 then .opening else .none })

/-- GO of both groups cleared. -/
def chgClearGo (d : Dev) : Dev := d.each d.chgGroups clearGo

/-- Immediate end (R247). -/
def endNow (d : Dev) : Dev := (d.chgClearGo.setS2 false).modChg (fun c => { c with ending := .none })

/-- Orderly end begun: reference 0 to IN_GROUP (R247). STOP_TIME counts from the tick that begins it, or from the first tick after
a command that does. -/
def endOrderly (d : Dev) : Dev :=
  let d := (d.chgRef 0).setReg (pg .chg) R.CHG.I_CMD 0
  if d.chg.ending = .none then d.modChg (fun c => { c with ending := .ramp, endT := 0, endNew := true }) else d

/-- The orderly end past its ramp: GO of both groups cleared. -/
def endRamp (d : Dev) : Dev := d.chgClearGo.modChg (fun c => { c with ending := .groups })

/-- A transition and its cause (R248, R249). -/
def chgEnter (d : Dev) (st cause : Nat) : Dev :=
  let p := pg .chg
  let d := (d.setFld p F.CHG.CSTATE_STATE st).setFld p F.CHG.CSTATE_CAUSE cause
  let d := if st = 6 then d else d.setFld p F.CHG.CSTATE_SUSP_MASK 0
  let d := if st = 3 ∨ st = 4 then d
    else (d.setFlag p F.CHG.CSTATE_LIMITED false).setFlag p F.CHG.CSTATE_VCTRL false
  let d := if st = 0 then d.setFlag p F.CHG.CSTATE_START false else d
  (d.event p F.CHG.EVENT_STATE_CHANGE).modChg (fun c => { c with
    zeroT := 0, conf := 0, expire := if st = 6 then c.expire else 0, exitMet := false })

/-- Both timers reset, a session counted (R248). -/
def newSession (d : Dev) : Dev :=
  let p := pg .chg
  let d := ((d.setReg p R.CHG.STEP_EQ 0).setReg p R.CHG.STEP_RT 0).setReg p R.CHG.TOTAL_EQ 0
  ((d.setReg p R.CHG.TOTAL_RT 0).bump p R.CHG.SESSIONS).modChg
    (fun c => { c with eqStep := 0, eqTotal := 0, expired := 0 })

/-- Entry into DETECT: GO of both groups cleared; an end still in progress is over (R246). -/
def enterDetect (d : Dev) : Dev :=
  let d := if d.chg.ending = .none then d.chgClearGo else d.endNow
  (d.setReg (pg .chg) R.CHG.I_CMD 0).chgEnter 1 0

/-- Entry into IDLE with an immediate end. -/
def enterIdle (d : Dev) (cause : Nat) : Dev :=
  let d := d.endNow
  let d := (d.setFlag (pg .chg) F.CHG.CSTATE_SUPPLY_OK false).setReg (pg .chg) R.CHG.I_CMD 0
  (d.modChg (fun c => { c with cpgen := .idle, cpDuty := 0, cpBad := 0, v2v := false })).chgEnter 0 cause

/-- Entry into FAULT with an immediate end: reference 0 (R246, R248). -/
def enterChgFault (d : Dev) (cause : Nat) : Dev :=
  let p := pg .chg
  let d := (d.endNow.chgRef 0).setReg p R.CHG.I_CMD 0
  let d := d.setFlag p F.CHG.CSTATE_SUPPLY_OK false
  let cp := if d.chg.cpgen = .idle then CpGen.idle else .low
  (d.modChg (fun c => { c with cpgen := cp, v2v := false })).chgEnter 8 cause

/-- Entry into DONE with an orderly end. -/
def enterDone (d : Dev) (cause : Nat) : Dev := d.endOrderly.chgEnter 5 cause

/-- CAUSE shows the lowest pending suspend code (R250). -/
def showLowest (d : Dev) : Dev :=
  match (List.range 9).find? (fun i => bitAt d.suspMask i) with
  | some i => d.setFld (pg .chg) F.CHG.CSTATE_CAUSE (i + 1)
  | none => d

/-- Suspend causes `m` (bit code − 1) added, from a charging state or in SUSPEND. BATTERY_LOST ends the session at once, the
others in order. CHG_PILOT is raised when PILOT comes to stand with D, E, F or INVALID (R250). -/
def chgSuspend (d : Dev) (m : Nat) : Dev :=
  let p := pg .chg
  let d := if bitAt m 5 ∧ 3 ≤ d.pilot ∧ !d.chg.pilotBad then
      (d.raise .chg 0 B.CHG.CHG_PILOT d.pilot).modChg (fun c => { c with pilotBad := true })
    else d
  let mask := d.suspMask ||| m
  let d := if d.cstate = 6 then d else (d.endOrderly.chgEnter 6 0).bump p R.CHG.SUSPENDS
  let d := if bitAt m 1 then (d.chgRef 0).endNow else d
  (d.setFld p F.CHG.CSTATE_SUSP_MASK mask).showLowest

/-! ## Profile (R263, R264) -/

/-- The entry of a zone and step. -/
def profileEntry (d : Dev) (z s : Nat) : ChgEntry :=
  let a := (d.reg (pg .chg) (R.CHG.PROFILE + 64 * z + 8 * s)).toNat
  let b := (d.reg (pg .chg) (R.CHG.PROFILE + 64 * z + 8 * s + 4)).toNat
  ⟨bitsOf a 0 16, bitsOf a 16 16, bitsOf b 0 16, bitsOf b 16 2, bitAt b 18 || s == 7, bitsOf b 19 13, z⟩

/-- An entry taken into use, or CHG_PROFILE and FAULT where its I_LIM or SAFE is 0 (R264). -/
def takeEntry (d : Dev) (e : ChgEntry) (s : Nat) : Dev :=
  if e.iLim = 0 ∨ e.safe = 0 then
    (d.raise .chg 0 B.CHG.CHG_PROFILE (8 * e.zone + s)).enterChgFault 0x25
  else d.modChg (fun c => { c with entry := e, conf := 0 })

/-- Entry into step `s` of the active zone (R248, R264, R266). -/
def enterStep (d : Dev) (s : Nat) : Dev :=
  let p := pg .chg
  let d := ((d.setFld p F.CHG.CSTATE_STEP s).chgEnter 3 0).event p F.CHG.EVENT_STEP_CHANGE
  d.takeEntry (d.profileEntry d.chgZone s) s

/-- The step timer back to 0 (R248). -/
def resetStepTimer (d : Dev) : Dev :=
  ((d.setReg (pg .chg) R.CHG.STEP_EQ 0).setReg (pg .chg) R.CHG.STEP_RT 0).modChg (fun c => { c with eqStep := 0 })

/-- Entry into TOPOFF: the I_LIM of the last step with the top-off voltage and time (R264). -/
def enterTopoff (d : Dev) : Dev :=
  let p := pg .chg
  let e := { d.chg.entry with vLim := d.fld p F.CHG.TOPOFF_CFG_V_LIM, exitVal := d.fld p F.CHG.TOPOFF_CFG_I_EXIT,
                              exit := 1, last := true, safe := d.fld p F.CHG.TOPOFF_TIME_SAFE }
  (d.resetStepTimer.chgEnter 4 0).takeEntry e (d.fld p F.CHG.CSTATE_STEP)

/-! ## Inputs of a tick (R245, R257, R258, R260–R262) -/

/-- The mean of a tick times a scale, over 65,536; the previous value where nothing was delivered (R245). -/
def tickMean (m : MeanAcc) (scale : Nat) (old : Int) : Int :=
  if m.n = 0 then old else m.sum * scale / ((m.n * 65536 : Nat) : Int)

/-- I_OUT, V_OUT, V_LINK and the squares of the line inputs of the tick just ended. -/
def chgMeans (d : Dev) : Dev :=
  let p := pg .chg
  let c := d.chg
  let i := tickMean c.iAcc (d.fld p F.CHG.SCALE_I_SCALE) c.iOut
  let v := tickMean c.vAcc (d.fld p F.CHG.SCALE_V_SCALE) c.vOut
  let l := tickMean c.lAcc 65536 c.vLink
  let d := d.modChg (fun c => { c with
    iOut := i, vOut := v, vLink := l, iAcc := {}, vAcc := {}, lAcc := {},
    sqHist := Vector.ofFn (fun k => ((vget c.sq k {}) :: (vget c.sqHist k [])).take 20), sq := Vector.replicate 3 {} })
  let fi := d.fit 16 (-32768) 32767 i
  let fv := fi.2.fit 16 (-32768) 65535 v
  fv.2.setReg p R.CHG.OUTPUT (BitVec.ofNat 32 (fi.1 + 65536 * fv.1))

/-- PP.OHMS and RATING (R257). -/
def chgProximity (d : Dev) (ohms : Nat) : Dev :=
  let p := pg .chg
  (d.setFld p F.CHG.PP_OHMS (min ohms 65535)).setFld p F.CHG.PP_RATING (ppRating (d.fld p F.CHG.CFG_PP_MODE) ohms)

/-- An NTC slot's index, class (true box) and enable (R260). -/
def ntcSlot (d : Dev) (k : Nat) : Nat × Bool × Bool :=
  let b := (d.reg (pg .chg) R.CHG.NTC_CFG).toNat / 256 ^ k
  (b % 32, bitAt b 5, bitAt b 7)

/-- The NTC table. -/
def ntcTable (d : Dev) : List (Int × Int) :=
  (List.range 16).map (fun i =>
    ((d.fld (pg .chg) (F.CHG.NTC_TAB_CODE.at i) : Int), d.sfld (pg .chg) (F.CHG.NTC_TAB_TEMP.at i)))

/-- The reading of an NTC slot now (R260). A result with the OW flag leaves the previous reading. -/
def ntcRead (d : Dev) (k : Nat) (old : Option Int) : Option Int :=
  let j := (d.ntcSlot k).1
  let w := (d.reg (pg .monadc) (R.MONADC.RESULT + 4 * (16 + j))).toNat
  let i := 64 + j
  let verdict := bitsOf (d.reg (pg .openwire) (R.OPENWIRE.VERDICT + 4 * (i / 8))).toNat (4 * (i % 8)) 4
  if 2 ≤ verdict then none
  else if bitAt w 17 then old
  else if bitAt w 16 then none
  else interpolate (toSigned 16 w) d.ntcTable

/-- T_LO and T_HI where the temperature is known, and the detail of CHG_TEMP where not (R261). -/
def chgTemps (d : Dev) : Option (Int × Int) × Nat :=
  let p := pg .chg
  let cells := numbers 4 (fun k => (d.ntcSlot k).2.2 && !(d.ntcSlot k).2.1)
  let vals := cells.filterMap (fun k => vget d.chg.ntc k none)
  let req := d.flag p F.CHG.CFG_BMS_REQ
  let bms := match d.chg.bmsAge with
    | some a => decide (a ≤ d.fld p F.CHG.BMS_CFG_STALE)
    | none => false
  let lo := d.sfld p F.CHG.BMS_IN_T_MIN
  let hi := d.sfld p F.CHG.BMS_IN_T_MAX
  let los := (if req then [lo] else []) ++ vals
  let his := (if req then [hi] else []) ++ vals
  if req && !bms then (none, 1)
  else if vals.length ≠ cells.length ∨ los.isEmpty then (none, 2)
  else (some (los.foldl min (los.headD 0), his.foldl max (his.headD 0)), 0)

/-- The temperatures and the active zone of a tick (R260–R262). -/
def chgZones (d : Dev) : Dev :=
  let p := pg .chg
  let d := d.modChg (fun c => { c with ntc := Vector.ofFn (fun k => d.ntcRead k c.ntc[k]) })
  match d.chgTemps.1 with
  | none => (d.setReg p R.CHG.TEMPS 0x80008000#32).modChg (fun c => { c with known := false })
  | some (lo, hi) =>
    let edges := (List.range 7).map (fun i => d.sfld p (F.CHG.ZONE_EDGE_EDGE.at i))
    let hyst : Int := d.fld p F.CHG.ZONE_HYST_HYST
    let zl := trackZone edges hyst lo d.chg.zLo
    let zh := trackZone edges hyst hi d.chg.zHi
    let rank := fun z => d.fld p (F.CHG.ZONE_CFG_RANK.at z)
    let z := if rank zh < rank zl then zl else zh
    let changed := d.chgZone ≠ z
    let d := d.modChg (fun c => { c with known := true, zLo := some zl, zHi := some zh })
    let d := d.setReg p R.CHG.TEMPS (BitVec.ofNat 32 (ofSigned 16 lo + 65536 * ofSigned 16 hi))
    let d := d.setFld p F.CHG.CSTATE_ZONE z
    if changed then d.event p F.CHG.EVENT_ZONE_CHANGE else d

/-- The pilot term from PWM and DUTY; TERM_CHANGE and HLC (R256). -/
def chgTerm (d : Dev) : Dev :=
  let p := pg .chg
  let duty := d.fld p F.CHG.PILOT_DUTY
  let pwm := d.flag p F.CHG.PILOT_PWM
  let t := if pwm then dutyTerm duty (d.fld p F.CHG.HLC_I_CURRENT) else 0
  let d := d.setFlag p F.CHG.PILOT_HLC (pwm && decide (300 ≤ duty) && decide (duty ≤ 700))
  if t = d.chg.term then d else (d.event p F.CHG.EVENT_TERM_CHANGE).modChg (fun c => { c with term := t })

/-- The cable term (R257). -/
def cableTerm (d : Dev) : Nat :=
  match d.ppNow with
  | 1 => 1300 | 2 => 2000 | 3 => 3200 | 4 => 6300
  | 5 => d.fld (pg .chg) F.CHG.LIMIT_CFG_CAP
  | _ => 0

/-- The thermal term (R258). -/
def thermalTerm (d : Dev) : Nat :=
  let p := pg .chg
  let cap := d.fld p F.CHG.LIMIT_CFG_CAP
  let boxes := numbers 4 (fun k => (d.ntcSlot k).2.2 && (d.ntcSlot k).2.1)
  let vals := boxes.filterMap (fun k => vget d.chg.ntc k none)
  if boxes.isEmpty then cap
  else if vals.length ≠ boxes.length then 0
  else
    let t := vals.foldl max (vals.headD 0)
    let lo := d.sfld p F.CHG.THERM_CFG_T_START
    let hi := d.sfld p F.CHG.THERM_CFG_T_STOP
    (clampI (cap * (hi - t) / (hi - lo)) 0 cap).toNat

/-- The group term (R258); free where a divisor is 0 and the spec states no value. -/
def groupTerm (d : Dev) : Int × Dev :=
  let gain := d.fld (pg .chg) F.CHG.REF_GAIN_GAIN
  let n := (d.heads d.chgOut).length
  if gain = 0 ∨ n = 0 then (d.takeFree.1.toNat, d.takeFree.2)
  else (d.limitEff d.chgIn * 256 / gain * (d.availHeads d.chgOut).length / n, d)

/-- LIMIT of a tick (R258). -/
def chgLimit (d : Dev) : Dev :=
  let p := pg .chg
  let th := d.thermalTerm
  let g := d.groupTerm
  let terms : List Int := [d.chg.term, d.cableTerm, d.fld p F.CHG.LIMIT_CFG_CAP, th, max 0 g.1]
  let m := terms.foldl min (terms.headD 0)
  let d := g.2.modChg (fun c => { c with therm := th })
  d.setReg p R.CHG.LIMIT (BitVec.ofNat 32 (m.toNat % 65536 + 65536 * rankOf' terms m))
where
  /-- Position of the first element equal to `x`. -/
  rankOf' (l : List Int) (x : Int) : Nat := (l.takeWhile (fun y => y != x)).length

/-- Every input of a tick; the ages advance (R245). -/
def chgInputs (d : Dev) (ohms : Nat) : Dev :=
  let st := d.cstate
  let d := d.modChg (fun c => { c with
    bmsAge := c.bmsAge.map (· + 1), s2T := c.s2T + 1, preT := if st = 2 then c.preT + 1 else c.preT,
    endT := if c.endNew then c.endT else c.endT + 1 })
  (((d.chgMeans.chgProximity ohms).chgZones).chgTerm).chgLimit

/-! ## Charging (R250–R253, R265–R268) -/

/-- Suspend causes whose condition holds on this tick, in a charging state, in DETECT with S2 closed or in SUSPEND
(R250). -/
def chgCauses (d : Dev) : Nat :=
  let c := d.chg
  let st := d.cstate
  let b := fun (i : Nat) (on : Bool) => if on then 2 ^ i else 0
  b 1 c.seen.battLost + b 3 (!c.known) + b 4 (c.known && d.zoneSusp) +
  b 5 (c.term == 0 || decide (3 ≤ d.pilot)) +
  b 6 (decide (0 < c.term) && decide (d.iLimIn < d.fld (pg .chg) F.CHG.LIMIT_CFG_I_MIN)) +
  b 7 (decide (2 ≤ st) && decide (st ≤ 4) && !d.angleValid) + b 8 c.seen.disarmed

/-- Suspend causes that clear by themselves on this tick (R250). -/
def chgCleared (d : Dev) : Nat :=
  let c := d.chg
  let b := fun (i : Nat) (on : Bool) => if on then 2 ^ i else 0
  b 3 c.known + b 4 (c.known && !d.zoneSusp) +
  b 5 ((d.pilot == 1 || d.pilot == 2) && decide (0 < c.term)) +
  b 6 (decide (d.fld (pg .chg) F.CHG.LIMIT_CFG_I_MIN ≤ d.iLimIn)) +
  b 7 (d.angleValid && d.tbActive == 1) + b 8 (d.state == 4)

/-- CHG_TEMP where TEMP_UNKNOWN arises in a charging state (R277). -/
def chgTempFault (d : Dev) (m : Nat) : Dev :=
  if bitAt m 3 && d.cstate != 6 then d.raise .chg 0 B.CHG.CHG_TEMP d.chgTemps.2 else d

/-- SUSPEND on a tick: causes cleared and added (R250, R251). -/
def suspendTick (d : Dev) : Dev :=
  let p := pg .chg
  let m := d.chgCauses
  let gone := d.chgCleared &&& (511 - m)
  let before := d.suspMask
  let d := d.setFld p F.CHG.CSTATE_SUSP_MASK (d.suspMask &&& (511 - gone))
  let bad := bitAt m 5 && decide (3 ≤ d.pilot) && !d.chg.pilotBad
  let d := if m &&& (511 - d.suspMask) = 0 ∧ !bad then d.showLowest else d.chgSuspend m
  d.modChg (fun c => { c with zeroT := if before = 0 ∧ d.suspMask = 0 then c.zeroT + 1 else 0 })

/-- The conditions under which DETECT closes S2 (R252). -/
def s2Allowed (d : Dev) : Bool :=
  let p := pg .chg
  d.state == 4 && (d.flag p F.CHG.CSTATE_START || d.flag p F.CHG.CFG_AUTO_START) && d.pilot == 1 &&
  d.flag p F.CHG.PILOT_PWM && decide (0 < d.chg.term) && decide (d.ppNow ≤ 5) &&
  decide (d.fld p F.CHG.LIMIT_CFG_I_MIN ≤ d.iLimIn) && d.chg.known && !d.zoneSusp && !d.chgLatched

/-- DETECT on a tick (R248, R252). -/
def detectTick (d : Dev) : Dev :=
  if d.s2Closed then
    if d.pilot = 2 ∧ d.tbActive = 1 ∧ d.angleValid then
      ((d.each d.chgGroups (fun d g => d.groupGo g true)).chgEnter 2 0).modChg (fun c => { c with preT := 0 })
    else d
  else if d.s2Allowed then d.setS2 true
  else d

/-- The end of PRECHARGE (R248). -/
def precharged (d : Dev) : Bool :=
  let p := pg .chg
  let pv := d.fld p F.CHG.PACK_V_VOLTS
  decide ((d.fld p F.CHG.PRE_CFG_LINK_MIN : Int) ≤ d.chg.vLink) &&
  decide ((d.chg.vOut - pv).natAbs ≤ pv * d.fld p F.CHG.PRE_CFG_MATCH / 256)

/-- PRECHARGE on a tick. -/
def prechargeTick (d : Dev) : Dev := if d.precharged then d.enterStep 0 else d

/-- PRECHARGE has not completed within its time (R248). -/
def prechargeDue (d : Dev) : Bool :=
  d.cstate == 2 && decide (d.fld (pg .chg) F.CHG.PRE_CFG_TIME * 100 ≤ d.chg.preT) && !d.precharged

/-- The pilot has not followed S2 within 100 ms (R253): detail of CHG_S2, or 0. -/
def s2Due (d : Dev) : Nat :=
  if d.chg.s2T < 100 then 0
  else match d.chg.watch with
    | .closing => if d.pilot = 2 then 0 else 1
    | .opening => if d.pilot = 2 then 2 else 0
    | _ => 0

/-- Whether a probe step runs in either group. -/
def chgProbing (d : Dev) : Bool := d.chgGroups.any (fun g => d.flag (pg .conv g) F.CONV.STATUS_PROBING)

/-- The regulator (R265). -/
def regulate (d : Dev) : Dev :=
  let p := pg .chg
  let c := d.chg
  let red := d.fld p (F.CHG.ZONE_CFG_REDUCE.at d.chgZone)
  let iset : Int := (c.entry.iLim * red / 100 : Nat)
  let di := asr (d.fld p F.CHG.REG_GAIN_KI_I * (iset - c.iOut)) 8
  let dv := asr (d.fld p F.CHG.REG_GAIN_KI_V * ((c.entry.vLim : Int) - c.vOut)) 8
  let x := min di dv
  let x := if d.chgProbing then 0 else x
  let x := if 0 < x ∧ !d.flag (pg .conv d.chgIn) F.CONV.STATUS_SLEW_DONE then 0 else x
  let want := (d.fld p F.CHG.I_CMD_I_CMD : Int) + x
  let lim : Int := d.iLimIn
  let icmd := min (max want 0) lim
  let stall := d.chgGroups.any (fun g =>
    d.gstate g == 6 || (d.gstate g == 2 && decide (0 < d.fld (pg .conv g) F.CONV.PROT_STATUS_RETRY)))
  let limited := decide (red < 100) || decide (lim < want) || stall
  let t := asr (icmd * d.fld p F.CHG.REF_GAIN_GAIN) 8
  let d := (d.setFlag p F.CHG.CSTATE_VCTRL (decide (dv < di))).setFlag p F.CHG.CSTATE_LIMITED limited
  let d := d.setReg p R.CHG.I_CMD (BitVec.ofNat 32 icmd.toNat)
  if (d.convS d.chgIn).target = t then d else d.chgRef t

/-- The timers on a tick, and which of them have expired (R267, R268). -/
def chgTimers (d : Dev) : Dev :=
  let p := pg .chg
  let c := d.chg
  let flow := c.iOut.natAbs
  let q := min 256 (256 * flow / c.entry.iLim)
  let q := if d.fld p F.CHG.TIMER_CFG_FLOW_MIN ≤ flow then max q 64 else q
  let q := if d.flag p F.CHG.CSTATE_LIMITED then q else 256
  let d := (d.bump p R.CHG.STEP_RT).bump p R.CHG.TOTAL_RT
  let es := c.eqStep + q
  let et := c.eqTotal + q
  let d := (d.setReg p R.CHG.STEP_EQ (BitVec.ofNat 32 (es / 256))).setReg p R.CHG.TOTAL_EQ (BitVec.ofNat 32 (et / 256))
  let s := c.entry.safe * 10
  let tot := d.fld p F.CHG.TIMER_CFG_TOTAL
  let x1 := decide (256000 * s ≤ es) || decide (2000 * s ≤ (d.reg p R.CHG.STEP_RT).toNat)
  let x2 := decide (15360000 * tot ≤ et) || decide (120000 * tot ≤ (d.reg p R.CHG.TOTAL_RT).toNat)
  d.modChg (fun c => { c with eqStep := es, eqTotal := et, expire := b2n x1 + 2 * b2n x2 })

/-- The exit of the step or of TOPOFF judged on a tick (R266). -/
def chgExit (d : Dev) : Dev :=
  let p := pg .chg
  let c := d.chg
  let e := c.entry
  let conf :=
    if d.chgProbing ∨ e.exit = 2 then c.conf
    else if e.exit = 0 then (if (e.exitVal : Int) ≤ c.vOut then c.conf + 1 else 0)
    else if d.flag p F.CHG.CSTATE_VCTRL ∧ !d.flag p F.CHG.CSTATE_LIMITED then
      (if c.iOut < e.exitVal then c.conf + 1 else 0)
    else c.conf
  let rt := (d.reg p R.CHG.STEP_RT).toNat
  let met :=
    (if e.exit = 2 then decide (1000 * e.exitVal ≤ rt) else decide (d.fld p F.CHG.EXIT_CFG_CONFIRM ≤ conf)) ||
    (d.cstate == 4 && decide (1000 * d.fld p F.CHG.TOPOFF_TIME_TIME ≤ rt))
  d.modChg (fun c => { c with conf := conf, exitMet := met })

/-- A zone change within a step takes the entry of the new zone, unless the step is left by its exit (R264, R276). -/
def zoneStep (d : Dev) (m : Nat) : Dev :=
  if d.cstate = 3 ∧ d.chgZone ≠ d.chg.entry.zone ∧ !(d.chg.exitMet && d.chg.expire == 0 && m == 0) then
    let s := d.fld (pg .chg) F.CHG.CSTATE_STEP
    d.takeEntry (d.profileEntry d.chgZone s) s
  else d

/-- Suspend causes of a tick in a charging state (R250, R277). -/
def causesTick (d : Dev) (m : Nat) : Dev := (d.chgTempFault m).chgSuspend m

/-- STEP and TOPOFF on a tick: regulator, timers, exit, then the suspend causes; a step without I_LIM or SAFE goes before these (R264–
R268, R276). -/
def chargeTick (d : Dev) : Dev :=
  let m := d.chgCauses
  let d := ((d.regulate.chgTimers).chgExit).zoneStep m
  if m = 0 ∨ d.cstate = 8 then d else d.causesTick m

/-! ## Reverse supply (R269–R273) -/

/-- The advertised current (R271). -/
def v2vCurrent (d : Dev) : Nat :=
  let p := pg .chg
  min (min (d.fld p F.CHG.V2V_I_CURRENT) d.cableTerm) (min (d.fld p F.CHG.REV_CFG_REV_I) 8000)

/-- Whether a line input's rms value over the last 20 ticks is at most `lim` codes (R269). -/
def rmsAtMost (l : List SqAcc) (lim : Nat) : Bool :=
  let s : Nat := l.foldl (fun t a => t + a.sum) 0
  let n : Nat := l.foldl (fun t a => t + a.n) 0
  decide (0 < n) && decide (s ≤ lim * lim * n)

/-- Refusal code of V2L or V2V; 0 where it is accepted (R269). `cpKey` says that owner tag 0x5023 holds the CPGEN key. -/
def reverseRefusal (d : Dev) (v2v cpKey : Bool) : Nat :=
  let p := pg .chg
  let lim := d.fld p F.CHG.REV_CFG_VIN_MAX
  if d.pilot ≠ 0 then 0x30
  else if lim = 0 ∨ !(List.range d.lineInputs.length).all (fun k => rmsAtMost (vget d.chg.sqHist k []) lim) then 0x31
  else if d.ppNow = 0 ∨ 5 < d.ppNow then 0x32
  else if !d.chg.known ∨ d.zoneSusp then 0x33
  else if d.chgLatched then 0x34
  else if v2v ∧ !cpKey then 0x35
  else if v2v ∧ d.v2vCurrent < 600 then 0x36
  else 0

/-- CPGEN and SUPPLY_OK by the line state (R272). -/
def v2vLine (d : Dev) : Dev :=
  let p := pg .chg
  let st := d.pilot
  if d.chg.cpgen = .low then d
  else if 4 ≤ st then
    let d := (d.setFlag p F.CHG.CSTATE_SUPPLY_OK false).modChg (fun c => { c with cpgen := .low })
    d.raise .chg 0 B.CHG.CHG_PILOT st
  else
    let ok := st = 2
    let d := if ok ∧ !d.flag p F.CHG.CSTATE_SUPPLY_OK then d.event p F.CHG.EVENT_SUPPLY_OK else d
    let d := d.setFlag p F.CHG.CSTATE_SUPPLY_OK ok
    let duty := currentDuty d.v2vCurrent
    d.modChg (fun c => { c with cpgen := if st = 0 then .high else .pwm, cpDuty := duty })

/-- POWER_LIMIT of IN_GROUP in REVERSE (R270). -/
def reverseLimit (d : Dev) : Dev :=
  let p := pg .chg
  let i := min (d.fld p F.CHG.REV_CFG_REV_I) (min d.cableTerm d.chg.therm)
  let r := d.fit 24 0 16777215 ((i * d.fld p F.CHG.REF_GAIN_GAIN / 65536 : Nat) : Int)
  r.2.setFld (pg .conv d.chgIn) F.CONV.POWER_LIMIT_LIMIT r.1

/-- REVERSE on a tick (R270). -/
def reverseTick (d : Dev) : Dev :=
  let p := pg .chg
  let d := d.reverseLimit
  let d := if d.chg.v2v then d.v2vLine else d
  let low := decide (d.chg.vOut < (d.fld p F.CHG.REV_VMIN_VOLTS : Int))
  let conf := if low then d.chg.conf + 1 else 0
  let d := d.modChg (fun c => { c with conf := conf })
  if d.ppNow = 7 then d.enterIdle 0x10
  else if d.ppNow = 6 then d.enterIdle 0x11
  else if !d.chg.v2v ∧ d.pilot ≠ 0 then d.enterIdle 0x06
  else if d.fld p F.CHG.EXIT_CFG_CONFIRM ≤ conf then d.enterIdle 0x13
  else if !d.chg.known then d.enterIdle 0x04
  else if d.zoneSusp then d.enterIdle 0x05
  else
    let go := d.state == 4 && d.tbActive == 2 && d.angleValid && (!d.chg.v2v || d.flag p F.CHG.CSTATE_SUPPLY_OK)
    if go then d.each d.chgGroups (fun d g => d.groupGo g true) else d.chgClearGo

/-! ## Parts of the tick (R276) -/

/-- What R253 says of the pilot once S2 has settled: the watch moves on, or a breach. -/
def s2Step (d : Dev) : Dev × Bool :=
  let st := d.pilot
  match d.chg.watch with
  | .closing => (if st = 2 then d.modChg (fun c => { c with watch := .closed }) else d, false)
  | .closed => (d, st == 1)
  | .opening => (if st = 2 then d else d.modChg (fun c => { c with watch := .none }), false)
  | .none => (d, false)

/-- CHG_S2 and its way to FAULT (R248, R253). -/
def s2Breach (d : Dev) (detail : Nat) : Dev :=
  let d := (d.modChg (fun c => { c with watch := .none })).raise .chg 0 B.CHG.CHG_S2 detail
  if d.cstate = 0 ∨ d.cstate = 8 then d else d.enterChgFault 0x22

/-- An orderly end on a tick: GO is cleared once the current has fallen, and S2 opened once the groups stand (R247). -/
def endTick (d : Dev) : Dev :=
  let d := d.modChg (fun c => { c with endNew := false })
  let d := if d.chg.ending = .ramp ∧ d.chg.iOut.natAbs < d.fld (pg .chg) F.CHG.TIMER_CFG_FLOW_MIN then d.endRamp else d
  if d.chg.ending = .groups ∧ d.chgGroups.all (fun g => decide (d.gstate g ≤ 1) || d.gstate g == 7) then
    (d.setS2 false).modChg (fun c => { c with ending := .none })
  else d

/-- The state's own transitions on a tick. -/
def stateTick (d : Dev) : Dev :=
  match d.cstate with
  | 0 => if d.ppNow ≤ 5 ∧ (d.pilot = 1 ∨ d.pilot = 2) then d.newSession.enterDetect else d
  | 1 =>
    let m := d.chgCauses
    if d.s2Closed ∧ m ≠ 0 then d.causesTick m
    else if d.chg.seen.battLost then d.chgSuspend 2
    else d.detectTick
  | 2 => let m := d.chgCauses; if m ≠ 0 then d.causesTick m else d.prechargeTick
  | 3 => d.chargeTick
  | 4 => d.chargeTick
  | 6 => d.suspendTick
  | 7 => d.reverseTick
  | _ => d

/-! ## Expiries -/

/-- A safety timer has expired on this tick (R250, R268, R276). -/
def chgTimerExpiry (d : Dev) : Dev :=
  let p := pg .chg
  let e := d.chg.expire
  if e = 0 then d
  else
    let d := (d.bump p R.CHG.EXPIRIES).raise .chg 0 B.CHG.CHG_TIMER (if bitAt e 0 then 1 else 2)
    (d.chgSuspend 1).modChg (fun c => { c with expired := e, expire := 0 })

/-- The exit of the step was met on this tick and no timer expired (R248, R266, R276). -/
def stepExit (d : Dev) : Dev :=
  let p := pg .chg
  if !d.chg.exitMet ∨ d.chg.expire ≠ 0 then d
  else if d.cstate = 4 then d.enterDone 0x18
  else if !d.chg.entry.last then d.resetStepTimer.enterStep (d.fld p F.CHG.CSTATE_STEP + 1)
  else if d.fld p F.CHG.TOPOFF_CFG_V_LIM ≠ 0 then d.enterTopoff
  else d.enterDone 0x18

/-- PRECHARGE has not completed in time (R248). -/
def prechargeTimeout (d : Dev) : Dev :=
  if d.prechargeDue then
    (d.raise .chg 0 B.CHG.CHG_PRECHARGE (ofSigned 16 d.chg.vLink)).enterChgFault 0x23
  else d

/-- STOP_TIME after the zero reference (R247). -/
def orderlyEndTimeout (d : Dev) : Dev :=
  if d.chg.ending = .ramp ∧ d.fld (pg .chg) F.CHG.PILOT_CFG_STOP_TIME ≤ d.chg.endT then d.endRamp else d

/-- S2 closed for GRID_WAIT in DETECT (R250). -/
def gridWaitExpiry (d : Dev) : Dev :=
  if d.cstate = 1 ∧ d.s2Closed ∧ d.fld (pg .chg) F.CHG.PILOT_CFG_GRID_WAIT * 100 ≤ d.chg.s2T then d.chgSuspend 128 else d

/-- SUSP_MASK has read 0 for RESUME × 100 ms (R251). -/
def resumeDelayExpiry (d : Dev) : Dev :=
  if d.cstate = 6 ∧ d.suspMask = 0 ∧ d.fld (pg .chg) F.CHG.EXIT_CFG_RESUME * 100 ≤ d.chg.zeroT then d.enterDetect else d

/-- The pilot has not followed S2 within 100 ms (R253). -/
def s2Timeout (d : Dev) : Dev :=
  if d.s2Due = 0 then d else d.s2Breach d.s2Due

/-! ## The tick (R245, R276) -/

/-- Decisions of a tick in the order of R276: a fault cause, then pilot A or PP removed, then the state's own. A fault cause that has a
step of its own (PRECHARGE_TIMEOUT, S2_TIMEOUT) keeps the tick from every other transition. -/
def chgDecide (d : Dev) : Dev :=
  let st := d.cstate
  let r := d.s2Step
  let d := r.1
  if r.2 then d.s2Breach 1
  else if st ≠ 0 ∧ st ≠ 8 ∧ d.chg.seen.reacted then d.enterChgFault 0x20
  else if st ≠ 0 ∧ st ≠ 8 ∧ d.chg.seen.latched then d.enterChgFault 0x21
  else if d.prechargeDue ∨ d.s2Due ≠ 0 then d
  else if st ≠ 0 ∧ st ≠ 7 ∧ st ≠ 8 ∧ d.ppNow = 6 then d.enterIdle 0x11
  else if st ≠ 0 ∧ st ≠ 7 ∧ st ≠ 8 ∧ (d.pilot = 0 ∨ d.ppNow = 7) then d.enterIdle 0x10
  else d.stateTick

/-- Whether an expiry or an exit that a tick found still waits for its step. -/
def chgDue (d : Dev) : Bool :=
  let p := pg .chg
  let c := d.chg
  c.expire != 0 || c.exitMet || d.prechargeDue || d.s2Due != 0 ||
  (c.ending == .ramp && decide (d.fld p F.CHG.PILOT_CFG_STOP_TIME ≤ c.endT)) ||
  (d.cstate == 1 && d.s2Closed && decide (d.fld p F.CHG.PILOT_CFG_GRID_WAIT * 100 ≤ c.s2T)) ||
  (d.cstate == 6 && d.suspMask == 0 && decide (d.fld p F.CHG.EXIT_CFG_RESUME * 100 ≤ c.zeroT))

/-- What an earlier tick found and no step has done yet, faults first: no decision waits past the next tick (R245, R276). -/
def chgFlush (d : Dev) : Dev :=
  if d.chgDue then
    ((((d.prechargeTimeout.s2Timeout).chgTimerExpiry).stepExit).gridWaitExpiry).resumeDelayExpiry.orderlyEndTimeout
  else d

/-- What the device has done since the last tick, taken by this one (R249, R250). -/
def chgSee (d : Dev) : Dev :=
  d.modChg (fun c => { c with
    seen := ⟨c.reacted, c.disarmed, c.battLost, c.latched⟩, reacted := false, disarmed := false, battLost := false,
    latched := false, expire := 0, exitMet := false })

/-- One tick of 1 ms with the resistance that PP reads (R245). -/
def chgTick (d : Dev) (ohms : Nat) : Dev :=
  if d.state < 2 ∨ 5 < d.state then d
  else if d.flag (pg .chg) F.HDR.CTRL_ENABLE then
    let d := ((d.chgFlush.chgInputs ohms).chgSee).chgDecide.endTick
    d.modChg (fun c => { c with pilotBad := decide (3 ≤ d.pilot) && bitAt d.suspMask 5 })
  else (d.chgInputs ohms).chgSee

/-! ## Pilot (R254, R255, R273) -/

/-- The pilot state taken; PILOT_ERRS counts entries into E, F and INVALID (R254, R255). -/
def setPilot (d : Dev) (st : Nat) : Dev :=
  let p := pg .chg
  if st = d.pilot then d
  else
    let d := d.setFld p F.CHG.PILOT_STATE st
    if 4 ≤ st then d.bump p R.CHG.PILOT_ERRS else d

/-- The line while CPGEN is low, in its PWM or held low: `low` is its plateau, `t` 1,000,000 for a period and the duration of a stretch
without an edge (R273). -/
def cpgenCheck (d : Dev) (low : Int) (t : Nat) : Dev :=
  if !d.chg.v2v ∨ (d.chg.cpgen ≠ .pwm ∧ d.chg.cpgen ≠ .low) then d
  else if low < -1100 then d.modChg (fun c => { c with cpBad := 0 })
  else if d.chg.cpBad + t < 3000000 then d.modChg (fun c => { c with cpBad := c.cpBad + t })
  else
    let d := (d.modChg (fun c => { c with cpgen := .low, cpBad := 0 })).raise .chg 0 B.CHG.CHG_CPGEN
    d.enterChgFault 0x24

/-- A stretch of the pilot at one level, `hi` the high one: no PWM once a high level has lasted 2 ms, or a low one longer than any period
(R254, R255). -/
def pilotFlat (d : Dev) (level : Int) (hi : Bool) (t : Nat) : Dev :=
  let p := pg .chg
  let w := plateauState level
  let d := d.modChg (fun c => { c with
    cand := w, candRun := 0, candNs := if c.cand = w then c.candNs + t else t,
    flatHigh := if hi then c.flatHigh + t else 0, flatLow := if hi then 0 else c.flatLow + t })
  let d := if 2000000 ≤ d.chg.flatHigh then (d.setFlag p F.CHG.PILOT_PWM false).setFld p F.CHG.PILOT_DUTY 10000
    else if 1030000 < d.chg.flatLow then d.setFlag p F.CHG.PILOT_PWM false
    else d
  (d.modChg (fun c => { c with perOn := 0, perTot := 0, perN := 0 })).cpgenCheck level t

/-- One period of the pilot, or a stretch of it at one level: plateaus in 0.01 V, high time and duration in ns (R255). A
stretch without an edge has a high time of 0 or of its whole duration, and `high` is its level. -/
def pilotPeriod (d : Dev) (high low : Int) (on total : Nat) : Dev :=
  let p := pg .chg
  if d.state < 2 ∨ 5 < d.state then d
  else
    let d := d.setReg p R.CHG.PILOT_LEVEL (BitVec.ofNat 32 (ofSigned 16 high + 65536 * ofSigned 16 low))
    if on = 0 ∨ on = total then d.pilotFlat high (on != 0) total
    else
      let w := plateauState high
      let d := d.modChg (fun c => { c with
        cand := w, candRun := if c.cand = w then c.candRun + 1 else 1, candNs := 0, flatHigh := 0, flatLow := 0 })
      if 970000 ≤ total ∧ total ≤ 1030000 ∧ low < -1100 then
        let d := d.setFlag p F.CHG.PILOT_PWM true
        (d.modChg (fun c => { c with perOn := c.perOn + on, perTot := c.perTot + total, perN := c.perN + 1 })).cpgenCheck low 1000000
      else
        let d := (d.setFlag p F.CHG.PILOT_PWM false).modChg (fun c => { c with
          perOn := 0, perTot := 0, perN := 0, cand := 7, candRun := 0, candNs := 0 })
        (d.setPilot 6).cpgenCheck low 1000000

/-- The plateau has stayed in its window for three periods, or for 3 ms without PWM (R254). -/
def pilotStateChange (d : Dev) : Dev :=
  let c := d.chg
  if (3 ≤ c.candRun ∨ 3000000 ≤ c.candNs) ∧ c.cand ≤ 6 then d.setPilot c.cand else d

/-- DUTY renewed after AVG periods; `err` is the error of the measurement, at most 0.05 % (R255). -/
def dutyUpdate (d : Dev) (err : Int) : Dev :=
  let p := pg .chg
  let c := d.chg
  if c.perN < d.fld p F.CHG.PILOT_CFG_AVG ∨ c.perTot = 0 then d
  else
    let x := clampI ((10000 * c.perOn / c.perTot : Nat) + clampI err (-5) 5) 0 10000
    let d := d.modChg (fun c => { c with perOn := 0, perTot := 0, perN := 0 })
    (d.setFld p F.CHG.PILOT_DUTY x.toNat).chgTerm

/-! ## Writes and commands (R259, R274, R275) -/

/-- A write of BMS_IN (R259). -/
def bmsWrite (d : Dev) (w : Word) : Dev :=
  let p := pg .chg
  let lo := toSigned 16 w.toNat
  let hi := toSigned 16 (w.toNat / 65536)
  let n := d.fld p F.CHG.CFG_BMS_UNIT
  let u := pg .check n
  if d.flag p F.CHG.CFG_BMS_REQ then
    if bitAt d.chg.bmsDone n ∧ d.flag u F.CHECK.VERDICT_CRC_OK ∧ d.fld u F.CHECK.VERDICT_AC ≤ 2 ∧ lo ≤ hi ∧ -500 ≤ lo ∧
        hi ≤ 1500 then
      ((d.setReg p R.CHG.BMS_IN w).modChg (fun c => { c with bmsAge := some 0, bmsDone := 0 })).bump p R.CHG.BMS_OK
    else (d.bump p R.CHG.BMS_BAD).event p F.CHG.EVENT_BMS_REFUSED
  else d.setReg p R.CHG.BMS_IN w

/-- ENABLE of the page (R248, R275). `s2Key` says that owner tag 0x5023 holds the S2 pin key; `bmsUnit` that
CHECK[BMS_UNIT] is enabled. -/
def chgEnable (d : Dev) (on s2Key bmsUnit : Bool) : Dev :=
  let p := pg .chg
  if on then
    if d.flag p F.HDR.CTRL_ENABLE then d
    else
      let edges := (List.range 7).map (fun i => d.sfld p (F.CHG.ZONE_EDGE_EDGE.at i))
      let ntcs := numbers 4 (fun k => (d.ntcSlot k).2.2)
      let cells := ntcs.filter (fun k => !(d.ntcSlot k).2.1)
      let req := d.flag p F.CHG.CFG_BMS_REQ
      let ok := d.chgIn != d.chgOut && d.fld p F.CHG.SCALE_I_SCALE != 0 && d.fld p F.CHG.SCALE_V_SCALE != 0 &&
        d.fld p F.CHG.REF_GAIN_GAIN != 0 && ascends edges && (if req then bmsUnit else !cells.isEmpty) &&
        (ntcs.isEmpty || ascends (d.ntcTable.map (·.1))) && s2Key
      if ok then d.setFld p F.HDR.CTRL_ENABLE 1 else d.event p F.CHG.EVENT_CFG_BAD
  else if d.flag p F.HDR.CTRL_ENABLE then (d.setFld p F.HDR.CTRL_ENABLE 0).enterIdle 0x14
  else d

/-- Whether the cause of FAULT has gone (R248). -/
def chgFaultGone (d : Dev) : Bool :=
  let bit := fun b => !d.faultBit .chg 0 b
  match d.fld (pg .chg) F.CHG.CSTATE_CAUSE with
  | 0x20 => d.state != 5 && !d.activeList.any (fun s => decide (3 ≤ d.sevOf s))
  | 0x21 => !d.chgLatched
  | 0x22 => bit B.CHG.CHG_S2
  | 0x23 => bit B.CHG.CHG_PRECHARGE
  | 0x24 => bit B.CHG.CHG_CPGEN
  | 0x25 => bit B.CHG.CHG_PROFILE
  | _ => true

/-- Whether an operation is valid in a state (R274). -/
def chgCmdValid (op st : Nat) : Bool :=
  match op with
  | 1 => st == 0 || st == 1 || st == 6
  | 2 => (decide (1 ≤ st) && decide (st ≤ 4)) || st == 6
  | 3 => st == 6
  | 4 => (decide (1 ≤ st) && decide (st ≤ 4)) || st == 6 || st == 7
  | 5 => st == 0
  | 6 => st == 0
  | 7 => st == 8
  | 8 => st == 5
  | _ => false

/-- RESUME: SUSPEND is left at once where it makes SUSP_MASK 0 (R251). -/
def chgResume (d : Dev) : Dev :=
  let p := pg .chg
  let e := if bitAt d.suspMask 0 then d.chg.expired else 0
  let d := if bitAt e 0 then d.resetStepTimer else d
  let d := if bitAt e 1 then
      ((d.setReg p R.CHG.TOTAL_EQ 0).setReg p R.CHG.TOTAL_RT 0).modChg (fun c => { c with eqTotal := 0 })
    else d
  let before := d.suspMask
  let d := (d.setFld p F.CHG.CSTATE_SUSP_MASK (d.suspMask &&& (511 - 7))).modChg (fun c => { c with expired := 0 })
  if before ≠ 0 ∧ d.suspMask = 0 then d.enterDetect else d.showLowest

/-- Entry into REVERSE (R248, R269). -/
def enterReverse (d : Dev) (v2v : Bool) : Dev :=
  let d := (d.bump (pg .chg) R.CHG.REVERSES).chgEnter 7 0
  d.modChg (fun c => { c with v2v := v2v, cpgen := if v2v then .high else .idle, cpBad := 0 })

/-- What an accepted command does (R274). -/
def chgCmdDo (d : Dev) (op : Nat) : Dev :=
  match op with
  | 1 => d.setFlag (pg .chg) F.CHG.CSTATE_START true
  | 2 => d.chgSuspend 4
  | 3 => d.chgResume
  | 4 => if d.cstate = 7 then d.enterIdle 0x12 else d.enterDone 0x12
  | 5 => d.enterReverse false
  | 6 => d.enterReverse true
  | 7 => d.enterIdle 0x15
  | _ => d.newSession.enterDetect

/-- Result code of a command: 0 where it is accepted (R250, R269, R274). V2L and V2V need the device in READY or RUN. -/
def chgCmdResult (d : Dev) (op key : Nat) (cpKey : Bool) : Nat :=
  if key ≠ 0xC4A7 then 0x3E
  else if !chgCmdValid op d.cstate then 0x3F
  else if op = 3 ∧ bitAt d.suspMask 1 ∧ d.chgLatched then 0x3F
  else if op = 7 ∧ !d.chgFaultGone then 0x3F
  else if op = 5 ∨ op = 6 then
    (if d.state ≠ 3 ∧ d.state ≠ 4 then 0x3F else d.reverseRefusal (op == 6) cpKey)
  else 0

/-- A write of CMD (R274). -/
def chgCmd (d : Dev) (op key : Nat) (cpKey : Bool) : Dev :=
  let p := pg .chg
  let r := d.chgCmdResult op key cpKey
  let d := d.setReg p R.CHG.LAST_CMD (BitVec.ofNat 32 (op % 16 + 256 * r))
  if r = 0 then d.chgCmdDo op else d.event p F.CHG.EVENT_CMD_REFUSED

end Dev
end Sys2Proof.Machine
end

