-- ==== Sys2Proof/Machine/Crc.lean ====
section
/-!
DEFINITION. Cyclic redundancy checks over bytes, for every width, polynomial and reflection the spec uses (R299, R525,
R531).
-/
namespace Sys2Proof.Machine.Crc

/-- The low `w` bits of `n` in reverse order. -/
def reflect : Nat → Nat → Nat
  | 0, _ => 0
  | w + 1, n => (n % 2) * 2 ^ w + reflect w (n / 2)

/-- `k` shifts of a register of width `w`, most significant bit first. -/
def shift (w poly : Nat) : Nat → Nat → Nat
  | 0, r => r
  | k + 1, r =>
    let r2 := (2 * r) % 2 ^ w
    shift w poly k (if bitAt r (w - 1) then r2 ^^^ poly else r2)

/-- The register after one byte. Widths below 8 are shifted bit by bit from the top. -/
def byte (w poly : Nat) (refin : Bool) (r b : Nat) : Nat :=
  let b := if refin then reflect 8 b else b
  if 8 ≤ w then shift w poly 8 (r ^^^ (b * 2 ^ (w - 8)))
  else
    (List.range 8).foldl (fun r i =>
      let top := bitAt r (w - 1) != bitAt b (7 - i)
      let r2 := (2 * r) % 2 ^ w
      if top then r2 ^^^ poly else r2) r

/-- The register after a list of bytes. -/
def feed (w poly : Nat) (refin : Bool) (r : Nat) (l : List Nat) : Nat := l.foldl (byte w poly refin) r

/-- Result of a register: reflected and XORed as the check asks. -/
def final (w xor : Nat) (refout : Bool) (r : Nat) : Nat := (if refout then reflect w r else r) ^^^ xor

/-- CRC-32 of IEEE 802.3 (R299). -/
def crc32 (l : List Nat) : Nat := final 32 0xFFFFFFFF true (feed 32 0x04C11DB7 true 0xFFFFFFFF l)

/-- The four bytes of a word, lowest first (R6). -/
def wordBytes (w : Word) : List Nat :=
  [bitsOf w.toNat 0 8, bitsOf w.toNat 8 8, bitsOf w.toNat 16 8, bitsOf w.toNat 24 8]

end Sys2Proof.Machine.Crc
end

