-- ==== Sys2Proof/Machine/Check.lean ====
section
/-!
DEFINITION. Check-value units (R530–R533). Verdicts of the alive counter: 0 NONE, 1 INIT, 2 OK, 3 REPEAT, 4 SKIP.
-/
namespace Sys2Proof.Machine

/-- Whether filter words admit a frame: `xl` tells an XL frame (R517). KIND is 0 CC or FD, 1 XL, 2 any, 3 off. -/
def kindAdmits (kind : Nat) (xl : Bool) : Bool :=
  match kind with
  | 0 => !xl
  | 1 => xl
  | 2 => true
  | _ => false

/-- (frame ID XOR ID) AND MASK is 0, over 29 bits (R517). -/
def idMatches (fid id mask : Nat) : Bool := bitsOf ((fid ^^^ id) &&& mask) 0 29 == 0

namespace Dev

/-- A unit beside its registers. -/
def checkS (d : Dev) (n : Nat) : CheckS := vget d.check n {}

/-- A unit changed. -/
def modCheck (d : Dev) (n : Nat) (f : CheckS → CheckS) : Dev := { d with check := vmod d.check n f }

/-- A 64-bit pair of registers, its low WIDTH bits. -/
def checkPair (d : Dev) (n ofs : Nat) : Nat :=
  let p := pg .check n
  ((d.reg p ofs).toNat + (d.reg p (ofs + 4)).toNat * 4294967296) % 2 ^ d.fld p F.CHECK.CFG_WIDTH

/-- The unit is enabled and fed as `src` says: 0 core, 1 ring. -/
def checkFed (d : Dev) (n src : Nat) : Bool :=
  d.flag (pg .check n) F.HDR.CTRL_ENABLE && d.fld (pg .check n) F.CHECK.CFG_SRC == src

/-- Bytes of the CRC. -/
def crcBytes (d : Dev) (n : Nat) : Nat := (d.fld (pg .check n) F.CHECK.CFG_WIDTH + 7) / 8

/-- Bytes fed into the CRC (R530). -/
def crcFeed (d : Dev) (n crc : Nat) (l : List Nat) : Nat :=
  Crc.feed (d.fld (pg .check n) F.CHECK.CFG_WIDTH) (d.checkPair n R.CHECK.POLY_LO)
    (d.flag (pg .check n) F.CHECK.CFG_REFIN) crc l

/-- Result of a CRC register. -/
def crcResult (d : Dev) (n crc : Nat) : Nat :=
  Crc.final (d.fld (pg .check n) F.CHECK.CFG_WIDTH) (d.checkPair n R.CHECK.XOROUT_LO)
    (d.flag (pg .check n) F.CHECK.CFG_REFOUT) crc

/-- The verdict of counter `c`, and the last value after it (R532). -/
def aliveVerdict (s : CheckS) (m c : Nat) : Nat × Nat :=
  if s.init then (1, c)
  else if c = (s.last + 1) % m then (2, c)
  else if c = s.last then (3, s.last)
  else (4, c)

/-- The charge manager learns that unit `n` has completed a check (R259). -/
def noteCheck (d : Dev) (n : Nat) : Dev := { d with chg := { d.chg with bmsDone := d.chg.bmsDone ||| 2 ^ n } }

/-- A check completes with its result, whether the CRC holds, and the counter where it is judged (R531–R533). -/
def completeCheck (d : Dev) (n res : Nat) (ok : Bool) (counter : Option Nat) : Dev :=
  let p := pg .check n
  let d := (d.setReg p R.CHECK.RESULT_LO (BitVec.ofNat 32 res)).setReg p R.CHECK.RESULT_HI
    (BitVec.ofNat 32 (res / 4294967296))
  let m := 2 ^ d.fld p F.CHECK.LAYOUT_2_AC_BITS
  let v := match ok, counter with
    | true, some c => some (aliveVerdict (d.checkS n) m (c % m))
    | _, _ => none
  let ac := match v with
    | some x => x.1
    | none => 0
  let d := match v with
    | some x => d.modCheck n (fun s => { s with last := x.2, init := false })
    | none => d
  let bad := !ok || ac == 3 || ac == 4
  let run := if bad then min (d.fld p F.CHECK.VERDICT_BAD_RUN + 1) 255 else 0
  let seq := (d.fld p F.CHECK.VERDICT_SEQ + 1) % 65536
  let reached := bad && d.fld p F.CHECK.VERDICT_BAD_RUN + 1 == d.fld p F.CHECK.CFG_BAD_MAX
  let d := d.setReg p R.CHECK.VERDICT (BitVec.ofNat 32 (b2n ok + 2 * ac + 16 * run + 65536 * seq))
  let d := ((d.bump p R.CHECK.CHECKS).event p F.CHECK.EVENT_DONE).noteCheck n
  let d := if ok then d else d.bump p R.CHECK.CRC_BAD
  let d := if ac = 3 then d.bump p R.CHECK.REPEATS else if ac = 4 then d.bump p R.CHECK.SKIPS else d
  if reached then d.raise .check n B.CHECK.CHK_RUN run else d

/-! ## Fed by a core (R531) -/

/-- START: the register takes INIT. -/
def checkStart (d : Dev) (n : Nat) : Dev :=
  if d.checkFed n 0 then let v := d.checkPair n R.CHECK.INIT_LO; d.modCheck n (fun s => { s with crc := v }) else d

/-- A write of DIN1, DIN2 or DIN4: the low `k` bytes of the word, low byte first. -/
def checkDin (d : Dev) (n k : Nat) (w : Word) : Dev :=
  if d.checkFed n 0 then
    let v := d.crcFeed n (d.checkS n).crc ((Crc.wordBytes w).take k)
    d.modCheck n (fun s => { s with crc := v })
  else d

/-- FINISH: the result against EXPECT, and AC_IN where the guard is enabled. -/
def checkFinish (d : Dev) (n : Nat) : Dev :=
  if d.checkFed n 0 then
    let p := pg .check n
    let r := d.crcResult n (d.checkS n).crc
    d.completeCheck n r (r == d.checkPair n R.CHECK.EXPECT_LO)
      (if d.flag p F.CHECK.CFG_GUARD_EN then some (d.reg p R.CHECK.AC_IN).toNat else none)
  else d

/-- RESYNC: the next check is INIT (R532). -/
def checkResync (d : Dev) (n : Nat) : Dev := d.modCheck n (fun s => { s with init := true })

/-- A write of CMD, whose bits act from bit 0 up. -/
def checkCmd (d : Dev) (n : Nat) (w : Word) : Dev :=
  let d := if bitAt w.toNat 0 then d.checkStart n else d
  let d := if bitAt w.toNat 1 then d.checkFinish n else d
  if bitAt w.toNat 2 then d.checkResync n else d

/-! ## Fed from a ring (R531) -/

/-- Whether a record of TYPE 0x7 or 0x8 is one that the unit checks. A T1S record has no ID: it matches where KIND is any and
MASK is 0. -/
def recordMatches (d : Dev) (n : Nat) (ws : List Word) : Bool :=
  let p := pg .check n
  let w := (ws.getD 0 0).toNat
  let id := (d.reg p R.CHECK.MATCH_ID).toNat
  let mask := (d.reg p R.CHECK.MATCH_MASK).toNat
  let kind := bitsOf id 30 2
  if bitsOf w 28 4 = 7 then kindAdmits kind (bitsOf w 12 2 == 2) && idMatches (ws.getD 2 0).toNat id mask
  else if bitsOf w 28 4 = 8 then kind == 2 && bitsOf mask 0 29 == 0
  else false

/-- The producer of a ring has written a record and advanced PI past it: the units that observe the ring take it, or count it
as MISSED while their previous check is under way. -/
def observeRecord (d : Dev) (ring : Nat) (ws : List Word) : Dev :=
  d.each (List.range 4) (fun d n =>
    if d.checkFed n 1 && d.fld (pg .check n) F.CHECK.RING_CFG_RING == ring && d.recordMatches n ws then
      if (d.checkS n).seen.isSome then d.bump (pg .check n) R.CHECK.MISSED
      else d.modCheck n (fun s => { s with seen := some ws, seenAt := d.now })
    else d)

/-- Length of a record's payload in bytes, without padding (R518, R522). -/
def payloadLen (w : Nat) : Nat := if bitsOf w 28 4 = 8 then bitsOf w 0 11 else bitsOf w 0 12

/-- The check of the record under way completes, at 32 input bits per clock (R530). Where a field lies beyond the payload the
spec states no outcome: whether the CRC holds is then free (log entry 3). -/
def checkRecord (d : Dev) (n : Nat) : Dev :=
  match (d.checkS n).seen with
  | none => d
  | some ws =>
    let p := pg .check n
    if d.now < (d.checkS n).seenAt + (d.fld p F.CHECK.LAYOUT_DATA_LEN + 3) / 4 then d else
    let pay := (ws.drop 4).flatMap Crc.wordBytes
    let ofs := d.fld p F.CHECK.LAYOUT_DATA_OFS
    let len := d.fld p F.CHECK.LAYOUT_DATA_LEN
    let pos := d.fld p F.CHECK.LAYOUT_2_CRC_POS
    let cb := d.crcBytes n
    let acp := d.fld p F.CHECK.LAYOUT_2_AC_POS
    let acb := d.fld p F.CHECK.LAYOUT_2_AC_BITS
    let total := payloadLen (ws.getD 0 0).toNat
    let r := d.crcResult n (d.crcFeed n (d.checkPair n R.CHECK.INIT_LO) ((pay.drop ofs).take len))
    let field := (pay.drop pos).take cb
    let num := fun (l : List Nat) => l.foldl (fun (a : Nat) b => 256 * a + b) 0
    let sent := if d.flag p F.CHECK.CFG_CRC_BE then num field else num field.reverse
    let c := bitsOf (num ((pay.drop (acp / 8)).take 2).reverse) (acp % 8) acb
    let d := d.modCheck n (fun s => { s with seen := none })
    if ofs + len ≤ total ∧ pos + cb ≤ total ∧ acp + acb ≤ 8 * total then d.completeCheck n r (r == sent) (some c)
    else (d.takeFree.2).completeCheck n r (d.takeFree.1.toNat % 2 == 1) (some c)

/-! ## Enable (R531) -/

/-- The CRC field overlaps the data range or the counter field. -/
def checkOverlap (d : Dev) (n : Nat) : Bool :=
  let p := pg .check n
  let pos := d.fld p F.CHECK.LAYOUT_2_CRC_POS
  let crc := (8 * pos, 8 * d.crcBytes n)
  bytesMeet crc (8 * d.fld p F.CHECK.LAYOUT_DATA_OFS, 8 * d.fld p F.CHECK.LAYOUT_DATA_LEN) ||
  bytesMeet crc (d.fld p F.CHECK.LAYOUT_2_AC_POS, d.fld p F.CHECK.LAYOUT_2_AC_BITS)

/-- ENABLE of a unit, its key check passed, set or cleared. -/
def checkEnable (d : Dev) (n : Nat) (on : Bool) : Dev :=
  let p := pg .check n
  if !on then (d.setFld p F.HDR.CTRL_ENABLE 0).modCheck n (fun s => { s with seen := none })
  else if d.flag p F.HDR.CTRL_ENABLE then d
  else if d.checkOverlap n || (d.fld p F.CHECK.CFG_SRC == 1 && !d.ringOn (d.fld p F.CHECK.RING_CFG_RING)) then
    d.event p F.CHECK.EVENT_CFG_BAD
  else (d.setFld p F.HDR.CTRL_ENABLE 1).modCheck n (fun s => { s with init := true })

/-- The whole records in storage from index `x` up to index `hi`, as a core producer advanced PI over them, observed. -/
def observeFrom (d : Dev) (ring hi : Nat) : Nat → Nat → Dev
  | 0, _ => d
  | fuel + 1, x =>
    if x = hi then d
    else
      let base := (d.reg (pg .ring ring) R.RING.BASE).toNat
      let a := base + x % d.ringSize ring
      let w := (Mem.word d.mem a).toNat
      let len := max 8 (recordLen w)
      let ws := (List.range (len / 4)).map (fun i => Mem.word d.mem (base + (x + 4 * i) % d.ringSize ring))
      let t := bitsOf w 28 4
      let d := if t = 7 ∨ t = 8 then d.observeRecord ring ws else d
      if sub32 hi x ≤ len then d else observeFrom d ring hi fuel (add32 x len)

/-- A core producer's write of PI, with the records that it passes observed (R219, R531). -/
def piWriteSeen (d : Dev) (n v : Nat) : Dev :=
  let old := d.ringPi n
  let d := d.piWrite n v
  let new := d.ringPi n
  if old = new then d else d.observeFrom n new (sub32 new old / 8) old

end Dev
end Sys2Proof.Machine
end

