-- ==== Sys2Proof/Machine/Gauge.lean ====
section
/-!
DEFINITION. The shadow gauge (R280–R291, R296–R310): enable, tick, filter, anchor, record, commands. Each formula is formed
left to right in binary32 (R285; log entry 9).
-/
namespace Sys2Proof.Machine

/-- The filter's state: x and the six different elements of P (R285). -/
structure FilterX where
  q : Word
  vp : Word
  cap : Word
  qq : Word
  qv : Word
  qc : Word
  vv : Word
  vc : Word
  cc : Word
  deriving DecidableEq, Repr

/-- Every element finite, the diagonal of P and the capacity above 0 (R287). -/
def FilterX.ok (x : FilterX) : Bool :=
  [x.q, x.vp, x.qv, x.qc, x.vc].all F32.finite && F32.pos x.cap && F32.pos x.qq && F32.pos x.vv && F32.pos x.cc

/-- Prediction over 100 ms with charge `dq` (R287). -/
def FilterX.predict (x : FilterX) (dq rpol cpol qq qv qc : Word) : FilterX :=
  let a := F32.exp (F32.div (F32.opp (tenth 1)) (F32.mul rpol cpol))
  let drive := F32.mul (F32.mul rpol (F32.sub (F32.ofInt 1) a)) (F32.div dq (tenth 1))
  { q := F32.add x.q dq, vp := F32.add (F32.mul a x.vp) drive, cap := x.cap,
    qq := F32.add x.qq qq, qv := F32.mul x.qv a, qc := x.qc,
    vv := F32.add (F32.mul (F32.mul a x.vv) a) qv, vc := F32.mul a x.vc, cc := F32.add x.cc qc }

/-- What an update measured: H and its products with P, S and nu (R287). -/
structure FilterObs where
  h0 : Word
  h2 : Word
  p0 : Word
  p1 : Word
  p2 : Word
  s : Word
  nu : Word
  deriving DecidableEq, Repr

/-- The measurement of a run, with `g` = SERIES × ocv′ and `oc` = SERIES × ocv (R287). -/
def FilterX.observe (x : FilterX) (g oc rser i v rv : Word) : FilterObs :=
  let h0 := F32.div g x.cap
  let h2 := F32.div (F32.mul (F32.opp g) x.q) (F32.mul x.cap x.cap)
  let dot := fun a b c => F32.add (F32.add (F32.mul a h0) b) (F32.mul c h2)
  let p0 := dot x.qq x.qv x.qc
  let p1 := dot x.qv x.vv x.vc
  let p2 := dot x.qc x.vc x.cc
  let h := F32.add (F32.add oc x.vp) (F32.mul rser i)
  ⟨h0, h2, p0, p1, p2, F32.add (F32.add (F32.add (F32.mul h0 p0) p1) (F32.mul h2 p2)) rv, F32.sub v h⟩

/-- The update with gain K = P H′ / S (R287). -/
def FilterX.update (x : FilterX) (o : FilterObs) : FilterX :=
  let k0 := F32.div o.p0 o.s
  let k1 := F32.div o.p1 o.s
  let k2 := F32.div o.p2 o.s
  let down := fun p k r => F32.sub p (F32.mul k r)
  { q := F32.add x.q (F32.mul k0 o.nu), vp := F32.add x.vp (F32.mul k1 o.nu), cap := F32.add x.cap (F32.mul k2 o.nu),
    qq := down x.qq k0 o.p0, qv := down x.qv k0 o.p1, qc := down x.qc k0 o.p2,
    vv := down x.vv k1 o.p1, vc := down x.vc k1 o.p2, cc := down x.cc k2 o.p2 }

namespace Dev

/-! ## State and its loss (R281, R282, R306) -/

/-- The filter's state as the registers hold it. -/
def filterX (d : Dev) : FilterX :=
  ⟨d.gf R.GAUGE.Q, d.gf R.GAUGE.VP, d.gf R.GAUGE.CAP, d.gf R.GAUGE.P_QQ, d.gauge.pqv, d.gauge.pqc, d.gf R.GAUGE.P_VV,
   d.gauge.pvc, d.gf R.GAUGE.P_CC⟩

/-- The filter's state stored. -/
def setFilterX (d : Dev) (x : FilterX) : Dev :=
  let p := pg .gauge
  let d := ((d.setReg p R.GAUGE.Q x.q).setReg p R.GAUGE.VP x.vp).setReg p R.GAUGE.CAP x.cap
  let d := ((d.setReg p R.GAUGE.P_QQ x.qq).setReg p R.GAUGE.P_VV x.vv).setReg p R.GAUGE.P_CC x.cc
  d.modGauge (fun g => { g with pqv := x.qv, pqc := x.qc, pvc := x.vc })

/-- The kept fields lost (R282, R306). -/
def gaugeLose (d : Dev) : Dev :=
  let p := pg .gauge
  let d := d.each [R.GAUGE.Q, R.GAUGE.VP, R.GAUGE.CAP, R.GAUGE.P_QQ, R.GAUGE.P_VV, R.GAUGE.P_CC, R.GAUGE.RSER, R.GAUGE.RPOL,
    R.GAUGE.CPOL, R.GAUGE.CAP_COMMIT, R.GAUGE.REC_SEQ, R.GAUGE.ACK_SEQ, R.GAUGE.HIB_TIME, R.GAUGE.CC, R.GAUGE.CC + 4]
    (fun d o => d.setReg p o 0)
  let d := d.each [F.GAUGE.STATUS_RETAINED, F.GAUGE.STATUS_COULOMB_DRIFT, F.GAUGE.STATUS_PENDING, F.GAUGE.STATUS_GAP]
    (fun d f => d.setFld p f 0)
  d.modGauge (fun x => { x with ccPrev := 0, pqv := 0, pqc := 0, pvc := 0, record := [], recAt := d.now, pubReq := false })

/-- Entry into WAIT_RESTORE: the charge counted from here is kept apart (R280). -/
def gaugeWait (d : Dev) : Dev := (d.setGaugeState 1).modGauge (fun x => { x with pend := 0, restore := none })

/-- Entry into RUN. -/
def gaugeRun (d : Dev) : Dev := (d.setGaugeState 3).modGauge (fun x => { x with runSince := d.now })

/-- GAUGE_STATE: 0x0001 a storage error, 0x0002 numeric (R282, R287, R308). -/
def gaugeStateFault (d : Dev) (detail : Nat) : Dev :=
  let d := d.raise .gauge 0 B.GAUGE.GAUGE_STATE detail
  let st := d.gaugeState
  let d := d.gaugeLose
  if st = 3 ∨ st = 4 then d.gaugeWait else d

/-- ENABLE of the page (R281, R283). `keyOk` says that owner tag 0x5024 holds the key of MBOX[CFG.MBOX]. -/
def gaugeEnable (d : Dev) (on keyOk : Bool) : Dev :=
  let p := pg .gauge
  if on then
    if d.flag p F.HDR.CTRL_ENABLE then d
    else
      let rising := fun (l : List Nat) => (l.zip l.tail).all (fun e => decide (e.1 < e.2))
      let temps := [d.ocvT 0, d.ocvT 1, d.ocvT 2, d.ocvT 3]
      let ring := d.fld p F.GAUGE.CFG_REP_RING
      let ok := d.fld p F.GAUGE.CFG_IN_I != d.fld p F.GAUGE.CFG_IN_V && d.gf R.GAUGE.I_SCALE != 0 &&
        d.gf R.GAUGE.V_SCALE != 0 && d.fld p F.GAUGE.CAP_NOM_CAP != 0 &&
        (temps.zip temps.tail).all (fun e => decide (e.1 < e.2)) &&
        (List.range 4).all (fun c => rising ((List.range 64).map (d.ocvPoint c))) && keyOk &&
        (!d.flag p F.GAUGE.CFG_REP_EN || (d.ringOn ring && d.ringProducer ring == 0x24))
      if ok then
        let d := (d.setFld p F.HDR.CTRL_ENABLE 1).modGauge (fun x => { x with
          iAcc := {}, vAcc := {}, iPrev := none, vPrev := none, restT := 0, ticks := 0, lastT := none, iLog := [],
          vLog := [], tickLog := [], pubReq := false, driftDue := false })
        if d.flag p F.GAUGE.STATUS_RETAINED then d.gaugeRun.modGauge (fun x => { x with resumeDue := true }) else d.gaugeWait
      else d.event p F.GAUGE.EVENT_CFG_BAD
  else (d.setFld p F.HDR.CTRL_ENABLE 0).setGaugeState 0

/-! ## Tick (R284, R289, R291, R298, R303) -/

/-- The mean of a tick as sum and number, and whether the tick had no result. With no result ever the spec states no mean:
a free one. -/
def gaugeMean (d : Dev) (acc : MeanAcc) (prev : Option MeanAcc) : MeanAcc × Bool × Dev :=
  if acc.n ≠ 0 then (acc, false, d)
  else match prev with
    | some m => (m, true, d)
    | none => (⟨toSigned 16 d.takeFree.1.toNat, 1⟩, true, d.takeFree.2)

/-- T of a tick, in 0.05 °C; T_OLD where the source gives none (R291). -/
def gaugeTemp (d : Dev) : Dev :=
  let p := pg .gauge
  let t : Option Int :=
    if d.flag p F.GAUGE.CFG_TSRC then
      (if d.fld p F.GAUGE.TEMP_HOST_TEMP = 0x8000 then none else some (2 * d.sfld p F.GAUGE.TEMP_HOST_TEMP))
    else if !d.flag (pg .chg) F.HDR.CTRL_ENABLE ∨ d.fld (pg .chg) F.CHG.TEMPS_T_LO = 0x8000 ∨
        d.fld (pg .chg) F.CHG.TEMPS_T_HI = 0x8000 then none
    else some (d.sfld (pg .chg) F.CHG.TEMPS_T_LO + d.sfld (pg .chg) F.CHG.TEMPS_T_HI)
  match t with
  | some t => (d.setFlag p F.GAUGE.STATUS_T_OLD false).modGauge (fun x => { x with lastT := some t })
  | none => d.setFlag p F.GAUGE.STATUS_T_OLD true

/-- WAKE_GAP ends with the first counted tick, and a gauge back in RUN makes the corrections of R298. -/
def gaugeResume (d : Dev) : Dev :=
  let p := pg .gauge
  let d := match d.gauge.gapFrom with
    | some t => (d.setReg p R.GAUGE.WAKE_GAP (BitVec.ofNat 32 ((d.now - t) / 400000))).modGauge
        (fun x => { x with gapFrom := none })
    | none => d
  if d.gauge.resumeDue ∧ d.gaugeState = 3 then
    let n := fun f => F32.ofInt (d.fld p f)
    let drain := F32.mul (F32.mul (n F.GAUGE.DRAIN_HIB_DRAIN) (tenth 4)) (n F.GAUGE.HIB_TIME_VALUE)
    let gap := F32.mul (F32.mul (n F.GAUGE.DRAIN_GAP_I) (tenth 5)) (n F.GAUGE.WAKE_GAP_VALUE)
    let d := d.setReg p R.GAUGE.Q (F32.sub (d.gf R.GAUGE.Q) drain)
    let d := d.setReg p R.GAUGE.P_QQ (F32.add (d.gf R.GAUGE.P_QQ) (F32.mul gap gap))
    ((d.setReg p R.GAUGE.HIB_TIME 0).setFlag p F.GAUGE.STATUS_GAP true).modGauge (fun x => { x with resumeDue := false })
  else d

/-- A restored record loaded (R303). -/
def gaugeLoad (d : Dev) (l : List Word) : Dev :=
  let p := pg .gauge
  let w := fun i => l.getD i 0
  let pend := d.gauge.pend
  let rtc := d.proofRtc
  let drained := w 14 ≠ 0 ∧ rtc ≠ 0 ∧ (w 14).toNat ≤ rtc.toNat
  let q := F32.add (w 2) (F32.mul (F32.ofInt pend) (tenth 6))
  let drain := F32.mul (F32.mul (F32.ofInt (d.fld p F.GAUGE.DRAIN_HIB_DRAIN)) (tenth 4))
    (F32.ofInt ((rtc.toNat - (w 14).toNat : Nat)))
  let d := d.setFilterX ⟨if drained then F32.sub q drain else q, w 3, w 4, w 5, 0, 0, w 6, 0, w 7⟩
  let d := ((d.setReg p R.GAUGE.RSER (w 8)).setReg p R.GAUGE.RPOL (w 9)).setReg p R.GAUGE.CPOL (w 10)
  let d := ((d.setReg p R.GAUGE.CC (w 11)).setReg p (R.GAUGE.CC + 4) (w 12)).bump64 p R.GAUGE.CC pend
  let d := (d.setReg p R.GAUGE.ACK_SEQ (w 1)).setReg p R.GAUGE.CAP_COMMIT (w 4)
  let d := (d.setReg p R.GAUGE.REC_SEQ (w 1)).setFlag p F.GAUGE.STATUS_PENDING false
  let d := d.setFlag p F.GAUGE.STATUS_COULOMB_DRIFT (bitAt (w 13).toNat 0)
  let d := d.setFlag p F.GAUGE.STATUS_GAP (bitAt (w 13).toNat 1 || decide (¬ drained))
  let d := (d.setFlag p F.GAUGE.STATUS_RETAINED true).bump p R.GAUGE.RESTORES
  let d := (d.event p F.GAUGE.EVENT_RESTORED).gaugeRun
  d.modGauge (fun x => { x with ccPrev := d.gaugeCc, record := l, recAt := d.now, pend := 0, resumeDue := false })

/-- The tick's counting (R284, R289). -/
def gaugeCount (d : Dev) : Dev :=
  let p := pg .gauge
  let mi := d.gaugeMean d.gauge.iAcc d.gauge.iPrev
  let mv := mi.2.2.gaugeMean d.gauge.vAcc d.gauge.vPrev
  let d := mv.2.2
  let i := mi.1.sum * d.sfld p F.GAUGE.I_SCALE_VALUE / ((mi.1.n * 65536 : Nat) : Int)
  let v := mv.1.sum * d.fld p F.GAUGE.V_SCALE_VALUE / ((mv.1.n * 65536 : Nat) : Int) + d.sfld p F.GAUGE.V_OFFSET_VALUE
  let fv := d.fit 32 (-2147483648) 2147483647 v
  let d := (fv.2.setReg p R.GAUGE.I_NOW (BitVec.ofInt 32 i)).setReg p R.GAUGE.V_NOW (BitVec.ofNat 32 fv.1)
  let d := d.bump64 p R.GAUGE.CC i
  let d := if mi.2.1 || mv.2.1 then d.bump p R.GAUGE.GAP_TICKS else d
  let rest := if i.natAbs < d.fld p F.GAUGE.REST_I then d.gauge.restT + 1 else 0
  let atRest := decide (d.fld p F.GAUGE.REST_TIME * 1000 ≤ rest)
  let d := d.setFlag p F.GAUGE.STATUS_AT_REST atRest
  let d := if atRest then d else d.setFlag p F.GAUGE.STATUS_SOC_V_FRESH false
  let cc := d.gaugeCc
  d.modGauge (fun x => { x with
    iAcc := {}, vAcc := {}, iPrev := some mi.1, vPrev := some mv.1, pend := x.pend + i, restT := rest,
    ticks := x.ticks + 1,
    tickLog := (d.now, i) :: x.tickLog.filter (fun e => decide (d.now ≤ e.1 + 102000000)),
    probe := x.probe.map (fun q => { q with
      ccs := Vector.ofFn (fun k => if d.now ≤ probeClock q k.val then cc else q.ccs[k]) }) })

/-- Whether the SLEEP program runs towards HIBERNATE: a gauge in RUN has counted its last tick before it (R296). -/
def gaugeHeld (d : Dev) : Bool := d.phase == 3 && d.seq.goal == .hibernate && d.gaugeState == 3

/-- One tick of 1 ms (R284). `store` is what the check bits of the kept fields show (R282). -/
def gaugeTick (d : Dev) (store : Flaw) : Dev :=
  let st := d.gaugeState
  if d.state < 2 ∨ 5 < d.state ∨ st = 0 then d
  else if store = .double then d.gaugeStateFault 1
  else if st = 4 ∨ d.gaugeHeld then d
  else
    let d := (d.gaugeResume.gaugeTemp).gaugeCount
    match d.gauge.restore with
    | some l => (d.gaugeLoad l).modGauge (fun x => { x with restore := none })
    | none => d

/-! ## Filter runs (R287–R290, R300, R304, R305) -/

/-- SOC and its limits: OUT_LOW and OUT_HIGH judge SOC and SOC_V before rounding (R290). -/
def showSoc (d : Dev) : Dev :=
  let p := pg .gauge
  let soc := F32.div (d.gf R.GAUGE.Q) (d.gf R.GAUGE.CAP)
  let r := d.fit 32 (-2147483648) 2147483647 (F32.scaled soc 10000)
  ((r.2.setReg p R.GAUGE.SOC (BitVec.ofNat 32 r.1)).setFlag p F.GAUGE.STATUS_OUT_LOW (F32.lt soc 0 || d.gauge.svLow)).setFlag p
    F.GAUGE.STATUS_OUT_HIGH (F32.lt (F32.ofInt 1) soc || d.gauge.svHigh)

/-- SOC_V of a run at rest (R289, R290). -/
def showSocV (d : Dev) (sv : Word) : Dev :=
  let p := pg .gauge
  let r := d.fit 32 (-2147483648) 2147483647 (F32.scaled sv 10000)
  ((r.2.setReg p R.GAUGE.SOC_V (BitVec.ofNat 32 r.1)).setFlag p F.GAUGE.STATUS_SOC_V_FRESH true).modGauge (fun x => { x with
    svLow := F32.lt sv 0, svHigh := F32.lt (F32.ofInt 1) sv })

/-- V_NOW in V. -/
def gaugeVolts (d : Dev) : Word := F32.ofFrac (d.sfld (pg .gauge) F.GAUGE.V_NOW_VALUE) 1000

/-- I_NOW in A. -/
def gaugeAmps (d : Dev) : Word := F32.ofFrac (d.sfld (pg .gauge) F.GAUGE.I_NOW_VALUE) 1000

/-- The anchor of R289 on the predicted state. -/
def anchor (d : Dev) (x : FilterX) (t : Int) (sv : Word) : FilterX × Dev :=
  let p := pg .gauge
  let g := F32.mul d.series (d.ocvSlope (F32.div x.q x.cap) t)
  let volt := F32.mul sv x.cap
  let r := F32.div x.cap g
  let y := { x with q := volt, qq := F32.mul (d.gf R.GAUGE.RV) (F32.mul r r), qv := 0, qc := 0 }
  let d := (d.setReg p R.GAUGE.Q_COUL x.q).setReg p R.GAUGE.Q_VOLT volt
  let d := (d.setFlag p F.GAUGE.STATUS_COULOMB_DRIFT false).setFld p F.GAUGE.STATUS_REJ_RUN 0
  let d := ((d.setFlag p F.GAUGE.STATUS_GAP false).bump p R.GAUGE.ANCHORS).event p F.GAUGE.EVENT_ANCHOR
  (y, d.modGauge (fun s => { s with pubReq := true }))

/-- The update of R287, or its rejection (R288). -/
def filterUpdate (d : Dev) (x : FilterX) (t : Int) : FilterX × Dev :=
  let p := pg .gauge
  let s := F32.div x.q x.cap
  let o := x.observe (F32.mul d.series (d.ocvSlope s t)) (F32.mul d.series (d.ocv s t)) (d.gf R.GAUGE.RSER) d.gaugeAmps
    d.gaugeVolts (d.gf R.GAUGE.RV)
  let d := d.setReg p R.GAUGE.INNOV o.nu
  let sg := F32.div (F32.ofInt (d.fld p F.GAUGE.GATE_SIGMA)) (F32.ofInt 16)
  let gate := F32.mul (F32.mul sg sg) o.s
  let y := x.update o
  if !F32.finite o.nu || !F32.finite gate then (y, d)
  else if F32.le (F32.mul o.nu o.nu) gate then (y, d.setFld p F.GAUGE.STATUS_REJ_RUN 0)
  else
    let d := (d.bump p R.GAUGE.REJECTS).bumpFldSat p F.GAUGE.STATUS_REJ_RUN
    (x, if d.fld p F.GAUGE.STATUS_REJ_RUN = d.fld p F.GAUGE.GATE_N_REJ then d.modGauge (fun s => { s with driftDue := true })
        else d)

/-- The filter of a run in RUN: prediction, and anchor, update or skip (R287, R289). -/
def filterStep (d : Dev) : FilterX × Dev :=
  let p := pg .gauge
  let dq := F32.mul (F32.ofInt (d.gaugeCc - d.gauge.ccPrev)) (tenth 6)
  let x := d.filterX.predict dq (d.gf R.GAUGE.RPOL) (d.gf R.GAUGE.CPOL) (d.gf R.GAUGE.QQ) (d.gf R.GAUGE.QV) (d.gf R.GAUGE.QC)
  match d.gauge.lastT with
  | none => (x, d.bump p R.GAUGE.UPD_SKIPPED)
  | some t =>
    if d.flag p F.GAUGE.STATUS_AT_REST then
      let sv := d.ocvInv (F32.div (F32.sub d.gaugeVolts x.vp) d.series) t
      let d := d.showSocV sv
      if d.flag p F.GAUGE.STATUS_COULOMB_DRIFT then d.anchor x t sv else d.filterUpdate x t
    else d.filterUpdate x t

/-- Words 0 to 14 of a record (R299). -/
def recordBody (d : Dev) : List Word :=
  let p := pg .gauge
  [0x47A51001#32, d.reg p R.GAUGE.ACK_SEQ + 1, d.gf R.GAUGE.Q, d.gf R.GAUGE.VP, d.gf R.GAUGE.CAP, d.gf R.GAUGE.P_QQ,
   d.gf R.GAUGE.P_VV, d.gf R.GAUGE.P_CC, d.gf R.GAUGE.RSER, d.gf R.GAUGE.RPOL, d.gf R.GAUGE.CPOL, d.reg p R.GAUGE.CC,
   d.reg p (R.GAUGE.CC + 4),
   BitVec.ofNat 32 (d.fld p F.GAUGE.STATUS_COULOMB_DRIFT + 2 * d.fld p F.GAUGE.STATUS_GAP), d.proofRtc]

/-- CRC of a record (R299). -/
def recordCrc (l : List Word) : Word := BitVec.ofNat 32 (Crc.crc32 ((l.take 15).flatMap Crc.wordBytes))

/-- A record formed where a trigger holds and none is pending (R300). PERIOD counts from the record formed last, or from the entry into RUN
where none has been formed. -/
def formRecord (d : Dev) : Dev :=
  let p := pg .gauge
  let x := d.gauge
  let cap := d.gf R.GAUGE.CAP
  let moved := match x.record[4]? with
    | some old =>
      let dc := F32.sub cap old
      let lim := F32.div (F32.mul cap (F32.ofInt (d.fld p F.GAUGE.PUB_CFG_CAP_DELTA))) (F32.ofInt 1000)
      F32.le lim dc || F32.le lim (F32.opp dc)
    | none => false
  let per := d.fld p F.GAUGE.PUB_CFG_PERIOD
  let due := moved || (per != 0 && decide (x.recAt + per * 400000000 ≤ d.now)) || x.pubReq
  let d := d.modGauge (fun x => { x with pubReq := false })
  if due && !d.flag p F.GAUGE.STATUS_PENDING then
    let b := d.recordBody
    let d := (d.setFlag p F.GAUGE.STATUS_PENDING true).setReg p R.GAUGE.REC_SEQ (b.getD 1 0)
    d.modGauge (fun x => { x with record := b ++ [recordCrc b], recAt := d.now })
  else d

/-- The report of a run (R305). -/
def gaugeReport (d : Dev) : Dev :=
  let p := pg .gauge
  if !d.flag p F.GAUGE.CFG_REP_EN then d
  else
    let fs := d.fit 24 (-8388608) 8388607 (d.sfld p F.GAUGE.SOC_VALUE)
    let fc := fs.2.fit 16 0 65535 (F32.scaled (F32.div (d.gf R.GAUGE.CAP_COMMIT) (F32.ofInt 36)) 1)
    let fv := fc.2.fit 16 (-32768) 32767 (d.sfld p F.GAUGE.SOC_V_VALUE)
    let d := fv.2
    let ohm := fun (w : Word) => (clampI (F32.scaled w 100000) 0 65535).toNat
    let flags := 16777216 * d.fld p F.GAUGE.STATUS_COULOMB_DRIFT + 33554432 * d.fld p F.GAUGE.STATUS_AT_REST +
      67108864 * d.fld p F.GAUGE.STATUS_GAP + 134217728 * d.fld p F.GAUGE.STATUS_T_OLD
    (d.ringPut (d.fld p F.GAUGE.CFG_REP_RING)
      [BitVec.ofNat 32 (fs.1 + flags + 0x60000000), stampWord (d.reg (pg .timebase) R.TIMEBASE.FOLIO).toNat d.stampAngle,
       BitVec.ofNat 32 (fc.1 + 65536 * fv.1),
       BitVec.ofNat 32 (ohm (d.gf R.GAUGE.RSER) + 65536 * ohm (d.gf R.GAUGE.RPOL))]).1

/-- INIT at the first filter instant at rest (R304). -/
def gaugeInit (d : Dev) : Dev :=
  let p := pg .gauge
  let temp := match d.gauge.lastT with
    | some t => (t, d)
    | none => (toSigned 16 d.takeFree.1.toNat, d.takeFree.2)
  let t := temp.1
  let d := temp.2
  let cap := F32.ofInt (d.fld p F.GAUGE.CAP_NOM_CAP * 36)
  let s := d.ocvInv (F32.div d.gaugeVolts d.series) t
  let r := F32.div cap (F32.mul d.series (d.ocvSlope s t))
  let rv := d.gf R.GAUGE.RV
  let c := F32.mul (F32.ofFrac 1 20) cap
  let mid := F32.ofFrac (d.fld p F.GAUGE.R_LIMITS_R_MIN + d.fld p F.GAUGE.R_LIMITS_R_MAX : Nat) 20000
  let d := d.setFilterX ⟨F32.mul s cap, 0, cap, F32.mul rv (F32.mul r r), 0, 0, rv, 0, F32.mul c c⟩
  let d := ((d.setReg p R.GAUGE.RSER mid).setReg p R.GAUGE.RPOL mid).setReg p R.GAUGE.CPOL (F32.div (tenth 1) mid)
  let d := ((d.setReg p R.GAUGE.ACK_SEQ 0).setFlag p F.GAUGE.STATUS_RETAINED true).gaugeRun
  d.modGauge (fun x => { x with ccPrev := d.gaugeCc, recAt := d.now })

/-- REJ_RUN has reached N_REJ (R288). -/
def gaugeDrift (d : Dev) : Dev :=
  let p := pg .gauge
  if d.gauge.driftDue then
    let d := (d.setFlag p F.GAUGE.STATUS_COULOMB_DRIFT true).event p F.GAUGE.EVENT_DRIFT
    (d.modGauge (fun x => { x with driftDue := false })).raise .gauge 0 B.GAUGE.GAUGE_DRIFT (d.fld p F.GAUGE.STATUS_REJ_RUN)
  else d

/-- A filter instant: every hundredth tick; a drift that the run before found is reported by now (R287, R288). -/
def filterRun (d : Dev) : Dev :=
  let p := pg .gauge
  if d.gauge.ticks < 100 then d
  else
    let d := d.modGauge (fun x => { x with ticks := 0 })
    if d.gaugeState = 2 ∧ d.flag p F.GAUGE.STATUS_AT_REST then d.gaugeInit
    else if d.gaugeState = 3 then
      let d := d.gaugeDrift.bump p R.GAUGE.FILTER_RUNS
      let r := d.filterStep
      if r.1.ok then
        let d := ((r.2.setFilterX r.1).modGauge (fun x => { x with ccPrev := d.gaugeCc })).showSoc
        d.formRecord.gaugeReport
      else d.gaugeStateFault 2
    else d

/-! ## Commands (R281, R301, R302, R306) -/

/-- LAST_CMD, and CMD_REFUSED for a refusal. -/
def gaugeAnswer (d : Dev) (op res : Nat) : Dev :=
  let p := pg .gauge
  let d := d.setReg p R.GAUGE.LAST_CMD (BitVec.ofNat 32 (op % 16 + 256 * res))
  if res = 0 then d else d.event p F.GAUGE.EVENT_CMD_REFUSED

/-- Result of the checks on a record (R302). -/
def recordCheck (d : Dev) (l : List Word) : Nat :=
  let w := fun i => (l.getD i 0)
  let lo := d.ohmLimit F.GAUGE.R_LIMITS_R_MIN
  let hi := d.ohmLimit F.GAUGE.R_LIMITS_R_MAX
  let ohm := fun r => F32.le lo r && F32.le r hi
  if bitsOf (w 0).toNat 8 24 ≠ 0x47A510 then 1
  else if w 15 ≠ recordCrc l then 3
  else if bitsOf (w 0).toNat 0 8 ≠ 1 then 2
  else if !((List.range 9).all (fun i => F32.finite (w (i + 2))) && [4, 5, 6, 7, 10].all (fun i => F32.pos (w i)) &&
      ohm (w 8) && ohm (w 9)) then 4
  else 0

/-- The message words of the gauge's mailbox (R299). -/
def gaugeMail (d : Dev) : List Word :=
  (List.range 16).map (fun i => d.reg (pg .mbox (d.fld (pg .gauge) F.GAUGE.CFG_MBOX)) (R.MBOX.MSG + 4 * i))

/-- A write of CMD (R306). -/
def gaugeCmd (d : Dev) (op key : Nat) : Dev :=
  let p := pg .gauge
  let st := d.gaugeState
  if key ≠ 0x6A5D then d.gaugeAnswer op 6
  else match op with
    | 1 =>
      if st ≠ 1 then d.gaugeAnswer 1 5
      else
        let l := d.gaugeMail
        let r := d.recordCheck l
        let d := d.gaugeAnswer 1 r
        if r = 0 then d.modGauge (fun x => { x with restore := some l }) else d
    | 2 =>
      if st ≠ 1 then d.gaugeAnswer 2 5
      else
        let d := (d.gaugeAnswer 2 0).bump64 p R.GAUGE.CC (-d.gauge.pend)
        (d.setGaugeState 2).modGauge (fun x => { x with pend := 0, restore := none })
    | 3 => if st = 3 ∨ st = 4 then (d.gaugeAnswer 3 0).gaugeLose.gaugeWait else d.gaugeAnswer 3 5
    | 4 => if st = 3 then (d.gaugeAnswer 4 0).modGauge (fun x => { x with pubReq := true }) else d.gaugeAnswer 4 5
    | 5 =>
      if st ≠ 4 then d.gaugeAnswer 5 5
      else if (List.range 8).any (fun g => d.gaugeWatches g && d.gstate g == 7) then d.gaugeAnswer 5 8
      else
        let d := ((d.gaugeAnswer 5 0).setFlag p F.GAUGE.STATUS_COULOMB_DRIFT true).setGaugeState d.gauge.frozenFrom
        d.modGauge (fun x => { x with runSince := d.now })
    | _ => d.gaugeAnswer op 5

/-- A write of REC_ACK (R301). -/
def recAck (d : Dev) (seq : Word) : Dev :=
  let p := pg .gauge
  if d.flag p F.GAUGE.STATUS_PENDING ∧ seq = d.reg p R.GAUGE.REC_SEQ then
    let d := (d.setReg p R.GAUGE.ACK_SEQ seq).setReg p R.GAUGE.CAP_COMMIT (d.gauge.record.getD 4 0)
    (d.setFlag p F.GAUGE.STATUS_PENDING false).event p F.GAUGE.EVENT_ACK
  else (d.setFld p F.GAUGE.LAST_CMD_RESULT 7).event p F.GAUGE.EVENT_CMD_REFUSED

/-! ## Sleep and resets (R282, R296) -/

/-- The device leaves READY for HIBERNATE: with GSTATE RUN HIB_TIME counts from here (R296). -/
def gaugeSleep (d : Dev) : Dev :=
  d.modGauge (fun x => { x with hibFrom := if d.gaugeState = 3 then some d.now else none, gapFrom := none })

/-- A wake event in HIBERNATE: HIB_TIME stands, WAKE_GAP begins (R296). -/
def gaugeWake (d : Dev) : Dev :=
  let d := match d.gauge.hibFrom with
    | some t => d.setReg (pg .gauge) R.GAUGE.HIB_TIME
        (d.reg (pg .gauge) R.GAUGE.HIB_TIME + BitVec.ofNat 32 ((d.now - t) / 400000000))
    | none => d
  d.modGauge (fun x => { x with hibFrom := none, gapFrom := x.gapFrom.orElse (fun _ => some d.now) })

/-- What a device reset leaves of the gauge beside its registers. WAKE_GAP counts from here, but from the wake event where the reset
is the BOOT that follows HIBERNATE (R296). -/
def gaugeReset (d : Dev) : Dev :=
  let x := d.gauge
  let wake := d.state == 6 && x.gapFrom.isSome
  { d with gauge := { ccPrev := x.ccPrev, pqv := x.pqv, pqc := x.pqc, pvc := x.pvc, record := x.record, recAt := x.recAt,
                      hibFrom := x.hibFrom, gapFrom := if wake then x.gapFrom else some d.now } }

/-- WAKE_GAP as it reads: the count while it runs (R296). -/
def wakeGap (d : Dev) : Word :=
  match d.gauge.gapFrom with
  | some t => BitVec.ofNat 32 ((d.now - t) / 400000)
  | none => d.reg (pg .gauge) R.GAUGE.WAKE_GAP

end Dev
end Sys2Proof.Machine
end

