-- ==== Sys2Proof/Machine/KeyRack.lean ====
section
/-!
DEFINITION. The key rack (R37–R47): keys, owner tags, claims and releases one at a time and in sets, and the enable rule
(R43). Results: 0 OK, 1 CONFLICT, 2 BUSY, 3 INVALID, 4 empty mask.
-/
namespace Sys2Proof.Machine

/-- Keys that name a resource: MX[0..26] (R547) and 0x100 to 0x2E0 (R37). -/
def keyAssigned (k : Nat) : Bool := decide (k < 0x1B) || (decide (0x100 ≤ k) && decide (k ≤ 0x2E0))

/-- The safety keys (R44). -/
def keySafety (k : Nat) : Bool := decide (0x2DC ≤ k) && decide (k ≤ 0x2E0)

/-- The key that a page's CLAIM shows (R37). -/
def pageKey (p : Nat) : Option Nat :=
  match pageOf p with
  | some ⟨.tile, n⟩ => some (0x100 + n)
  | some ⟨.conv, n⟩ => some (0x148 + n)
  | some ⟨.adc, n⟩ => some (0x150 + n)
  | some ⟨.ring, n⟩ => some (0x260 + n)
  | some ⟨.check, n⟩ => some (0x2C0 + n)
  | some ⟨.mbox, n⟩ => some (0x2C4 + n)
  | some ⟨.disch, _⟩ => some 0x2DC
  | some ⟨.monadc, _⟩ => some 0x2DF
  | some ⟨.scaolo, _⟩ => some 0x2E0
  | _ => none

/-- The page whose CLAIM shows a key. -/
def keyPage (k : Nat) : Option Nat := (List.range 0xE0).find? (fun p => pageKey p == some k)

/-- Class of an owner tag. -/
def tagClass (t : BitVec 16) : Nat := bitsOf t.toNat 12 4

namespace Dev

/-- A key given an owner, or freed. A comparator whose key and tile key lose their one owner is in operation no longer (R125). -/
def setKey (d : Dev) (k : Nat) (t : BitVec 16) : Dev :=
  let d := { d with keys := Sparse.put keyDefault d.keys k t }
  if 0x100 ≤ k ∧ k < 0x118 then d.cmpSettle (k - 0x100)
  else if 0x118 ≤ k ∧ k < 0x148 then d.cmpSettle ((k - 0x118) / 2)
  else d

/-- A key as KR_KEY and CLAIM show it (R30, R47). -/
def claimWord (d : Dev) (k : Nat) : Word :=
  BitVec.ofNat 32 ((d.keyTag k).toNat * 65536 + 4 * b2n (keySafety k))

/-- Whether a master is a core pair in machine mode. -/
def machineCore (d : Dev) : Master → Bool
  | .ctrl => (vget d.comp.core 0 {}).mach
  | .svc => (vget d.comp.core 1 {}).mach
  | _ => false

/-- Whether a master may write a tag of this class (R38). -/
def tagAllowed (d : Dev) (m : Master) (t : BitVec 16) : Bool :=
  tagClass t == m.cls || (tagClass t == 5 && d.machineCore m)

/-- The master writes for the owner of a held key (R43). -/
def keyHeldBy (d : Dev) (m : Master) (k : Nat) : Bool := d.keyTag k != 0 && d.tagAllowed m (d.keyTag k)

/-! ## Resources that are enabled (R41, R548) -/

/-- FUNC of a multiplexed ball. -/
def mxFunc (d : Dev) (k : Nat) : Nat := d.fld (pg .pinmux) (F.PINMUX.MXCFG_FUNC.at k)

/-- The owning block uses a ball in its primary function (R66, R252, R271, R516). -/
def pinPrimary (d : Dev) (k : Nat) : Bool :=
  let t := pg .timebase
  if k = 0 then d.flag t F.TIMEBASE.SYNC_CTRL_FMARK_OUT_EN || d.flag t F.TIMEBASE.SYNC_CTRL_FMARK_IN_EN
  else if k = 1 then d.flag t F.TIMEBASE.SYNC_CTRL_CREF_SRC
  else if k = 2 then d.flag t F.TIMEBASE.SYNC_CTRL_SYNCOUT_EN
  else if k = 3 then d.flag (pg .chg) F.HDR.CTRL_ENABLE
  else if k = 4 then d.chg.v2v
  else if k ≤ 6 then d.flag (pg .can 0) F.HDR.CTRL_ENABLE
  else if k ≤ 8 then d.flag (pg .can 1) F.HDR.CTRL_ENABLE
  else if k ≤ 10 then d.flag (pg .t1s) F.HDR.CTRL_ENABLE
  else d.flag (pg .pinmux) ⟨R.PINMUX.GPIO_OE, k, 1⟩

/-- A ball drives or takes a function. -/
def pinDriven (d : Dev) (k : Nat) : Bool :=
  if d.mxFunc k = 1 then d.flag (pg .pinmux) ⟨R.PINMUX.GPIO_OE, k, 1⟩
  else if d.mxFunc k = 2 then true
  else d.pinPrimary k

/-- The resource of a key is enabled: the enable bit of its page; FUNC of a comparator (R125); VALID of a conversion slot
(R200); a ball that drives a function (R548). A galley sheet has no enable. -/
def resourceEnabled (d : Dev) (k : Nat) : Bool :=
  if k < 0x1B then d.pinDriven k
  else if 0x118 ≤ k ∧ k ≤ 0x147 then
    let t := pg .tile ((k - 0x118) / 2)
    if (k - 0x118) % 2 = 0 then d.flag t F.TILE.CMPA_CFG_FUNC else d.flag t F.TILE.CMPB_CFG_FUNC
  else if 0x160 ≤ k ∧ k ≤ 0x25F then d.flag (pg .adc ((k - 0x160) / 16)) (F.ADC.SLOT_VALID.at ((k - 0x160) % 16))
  else match keyPage k with
    | some p => d.flag p F.HDR.CTRL_ENABLE
    | none => false

/-! ## Claims and releases (R39–R42) -/

/-- Result of a claim of one key. -/
def claimResult (d : Dev) (m : Master) (k : Nat) (t : BitVec 16) : Nat :=
  if !keyAssigned k then 3
  else if keySafety k then 1
  else if !d.tagAllowed m t then 3
  else if d.keyTag k = 0 ∨ d.keyTag k = t then 0
  else 1

/-- Result of a release of one key. -/
def releaseResult (d : Dev) (m : Master) (k : Nat) (t : BitVec 16) : Nat :=
  if !keyAssigned k then 3
  else if keySafety k then 1
  else if d.keyTag k = 0 then 0
  else if d.keyTag k ≠ t ∨ !d.tagAllowed m t then 1
  else if d.resourceEnabled k then 2
  else 0

/-- Result of either request. -/
def requestResult (d : Dev) (release : Bool) (m : Master) (k : Nat) (t : BitVec 16) : Nat :=
  if release then d.releaseResult m k t else d.claimResult m k t

/-- KR_RESULT of a master written (R47). -/
def krResult (d : Dev) (m : Master) (res k holder : Nat) : Dev :=
  d.setReg (pg .keyrack) R.KEYRACK.KR_RESULT (BitVec.ofNat 32 (res + 16 * k + 65536 * holder)) m.cls

/-- What the refusal of one key marks: CONFLICT on KEYRACK and on the page of the key (R39, R41); a safety key is reported
as well (R44). -/
def keyRefused (d : Dev) (k res : Nat) : Dev :=
  let d := if res = 1 then
      let d := d.event (pg .keyrack) F.HDR.EVENT_CONFLICT
      (match keyPage k with
       | some p => d.event p F.HDR.EVENT_CONFLICT
       | none => d)
    else d
  if keySafety k then d.raise .keyrack 0 B.KEYRACK.KR_SAFETY_KEY k else d

/-- A claim or release of every key of a list, or of none; the list is in rising order (R40, R47). -/
def keyRequest (d : Dev) (release : Bool) (m : Master) (l : List Nat) (t : BitVec 16) : Dev :=
  match l.find? (fun k => d.requestResult release m k t != 0) with
  | none => (d.each l (fun d k => d.setKey k (if release then 0 else t))).krResult m 0 0 0
  | some k =>
    let kr := pg .keyrack
    let e := d.each l (fun e k => let r := d.requestResult release m k t; if r = 0 then e else e.keyRefused k r)
    let e := e.bump kr R.KEYRACK.KR_CONFLICTS
    let e := e.setReg kr R.KEYRACK.KR_LAST_CONFLICT (BitVec.ofNat 32 (k + 65536 * t.toNat))
    e.krResult m (d.requestResult release m k t) k (d.keyTag k).toNat

/-- A write of CLAIM (R30): OP 1 claims, OP 2 releases. A page without a key takes none. -/
def claimWrite (d : Dev) (m : Master) (p : Nat) (w : Word) : Dev :=
  match pageKey p with
  | none => d
  | some k =>
    let op := bitsOf w.toNat 0 2
    let t := BitVec.ofNat 16 (w.toNat / 65536)
    if op = 1 then d.keyRequest false m [k] t else if op = 2 then d.keyRequest true m [k] t else d

/-- A write of KR_REQ (R40, R47). -/
def krReq (d : Dev) (m : Master) (w : Word) : Dev :=
  let op := bitsOf w.toNat 0 2
  let win := bitsOf w.toNat 5 5
  let t := BitVec.ofNat 16 (w.toNat / 65536)
  let mask := (d.reg (pg .keyrack) R.KEYRACK.KR_MASK m.cls).toNat
  let l := (numbers 32 (bitAt mask)).map (fun b => 32 * win + b)
  if op = 0 ∨ op = 3 then d
  else if l.isEmpty then d.krResult m 4 0 0
  else d.keyRequest (op == 2) m l t

end Dev
end Sys2Proof.Machine
end

