-- ==== Sys2Proof/Machine/Otp.lean ====
section
/-!
DEFINITION. OTP and the ROM patches (R440, R441, R449–R454): cells, shadows, locks, and the operations on them.
-/
namespace Sys2Proof.Machine

/-- What an unlisted OTP word reads as: region 0 is written at the factory, the others leave it blank (R3, R449; log entry
12). -/
def otpDefault (w : Nat) : Word := if w < 0x80 then Config.factoryWord w else 0

/-- Region of an OTP word (R449). -/
def otpRegion (w : Nat) : Nat :=
  if w < 0x80 then 0 else if w < 0x110 then 1 else if w < 0x140 then 2 else if w < 0x180 then 3 else if w < 0x190 then 4
  else if w < 0x1C0 then 5 else if w < 0x280 then 6 else 7

/-- Words that only REVOKE and ARB_ADVANCE reach (R451). -/
def otpReserved (w : Nat) : Bool := w == 0x160 || (decide (0x180 ≤ w) && decide (w ≤ 0x183))

namespace Dev

/-- Start-up changed. -/
def modBoot (d : Dev) (f : BootS → BootS) : Dev := { d with boot := f d.boot }

/-- Content of an OTP word, as the ports of the blocks read it (R450). -/
def otpCell (d : Dev) (w : Nat) : Word := Sparse.get otpDefault d.boot.otp w

/-- Its shadow. -/
def otpShadow (d : Dev) (w : Nat) : Word := Sparse.get otpDefault d.boot.shadow w

/-- Bits burned into a word: burning only adds ones (R451). -/
def burn (d : Dev) (w : Nat) (v : Word) : Dev :=
  d.modBoot (fun b => { b with otp := Sparse.put otpDefault b.otp w (Sparse.get otpDefault b.otp w ||| v) })

/-- One word sensed again. -/
def senseWord (d : Dev) (w : Nat) : Dev :=
  d.modBoot (fun b => { b with shadow := Sparse.put otpDefault b.shadow w (Sparse.get otpDefault b.otp w) })

/-- Every word sensed. `diff` names the words whose two passes differ, each with the OR of both (R450). -/
def sense (d : Dev) (diff : List (Nat × Word)) : Dev :=
  let d := (d.modBoot (fun b => { b with shadow := b.otp })).bump (pg .otp) R.OTP.SENSES
  d.each diff (fun d x =>
    let w := x.1 % 1024
    (d.modBoot (fun b => { b with shadow := Sparse.put otpDefault b.shadow w (Sparse.get otpDefault b.otp w ||| x.2) })).raise
      .otp 0 B.OTP.OTP_SENSE w)

/-- The lock fuses (R453). -/
def fuseLock (d : Dev) : Nat := bitsOf (d.otpShadow 0x13F).toNat 0 16

/-- Write locks and, from bit 8, read locks, by fuse or sticky copy (R453). -/
def otpLocks (d : Dev) : Nat := d.fuseLock ||| (d.reg (pg .otp) R.OTP.SLOCK).toNat

/-- The word's region is write-locked; word 0x13F never is (R453). -/
def otpWriteLocked (d : Dev) (w : Nat) : Bool := w != 0x13F && bitAt d.otpLocks (otpRegion w)

/-- A word as the shadow shows it: 0 in a read-locked region; the lock of region 0 has no effect (R450, R453). -/
def otpRead (d : Dev) (w : Nat) : Word :=
  if otpRegion w ≠ 0 ∧ bitAt d.otpLocks (8 + otpRegion w) then 0 else d.otpShadow w

/-- The programming conditions of R578 that a register shows: the PLL on XTAL. `env` says that VSYS and the junction
temperature are within their limits. -/
def canBurn (d : Dev) (env : Bool) : Bool := env && d.fld (pg .clk) F.CLK.CLK_STATUS_SYSSRC == 1

/-- RESULT of the OTP page. -/
def otpResult (d : Dev) (r : Nat) : Dev := d.setFld (pg .otp) F.OTP.CMD_STATUS_RESULT r

/-- An OTP command begins. -/
def otpStart (d : Dev) (j : OtpJob) : Dev :=
  (d.setReg (pg .otp) R.OTP.CMD_STATUS 1).modBoot (fun b => { b with job := j, jobAt := d.now })

/-- A key that is not 0x71E5 refuses the command (R460). -/
def otpKeyed (d : Dev) (w : Word) (f : Dev → Dev) : Dev :=
  if bitsOf w.toNat 16 16 = 0x71E5 then f d else d.otpResult 1

/-- PROGRAM and REBURN: the word with the data that `data` gives for it (R451, R452, R453, R578). -/
def otpBurn (d : Dev) (env : Bool) (data : Nat → Word) : Dev :=
  let w := d.fld (pg .otp) F.OTP.ADDR_WORD
  if d.state ≠ 3 ∨ !d.canBurn env then d.otpResult 2
  else if d.boot.job ≠ .none then d.otpResult 5
  else if d.otpWriteLocked w then d.otpResult 3
  else if otpReserved w then d.otpResult 6
  else d.otpStart (.program w (data w))

/-- CMD PROGRAM. -/
def otpProgram (d : Dev) (env : Bool) : Dev := d.otpBurn env (fun _ => d.reg (pg .otp) R.OTP.DATA)

/-- CMD REBURN. -/
def otpReburn (d : Dev) (env : Bool) : Dev := d.otpBurn env d.otpShadow

/-- CMD MARGIN. -/
def otpMargin (d : Dev) : Dev :=
  if d.boot.job ≠ .none then d.otpResult 5 else d.otpStart (.margin (d.fld (pg .otp) F.OTP.ADDR_REGION))

/-- CMD RESENSE. -/
def otpResense (d : Dev) : Dev := if d.boot.job ≠ .none then d.otpResult 5 else d.otpStart .resense

/-- What OTP.CMD does (R460). -/
def otpCmd (d : Dev) (w : Word) (env : Bool) : Dev :=
  match bitsOf w.toNat 0 3 with
  | 1 => d.otpKeyed w (fun d => d.otpProgram env)
  | 2 => d.otpKeyed w (fun d => d.otpReburn env)
  | 3 => d.otpKeyed w otpMargin
  | 4 => d.otpKeyed w otpResense
  | _ => d

/-! ## Keys and rollback (R440–R442) -/

/-- The key hash of a slot as bytes. -/
def keyHash (d : Dev) (i : Nat) : List Nat :=
  (List.range 8).flatMap (fun j => Crypto.bytesLE (d.otpCell (0x140 + 8 * i + j)).toNat 4)

/-- A slot whose words are all 0 (R440). -/
def slotBlank (d : Dev) (i : Nat) : Bool := (d.keyHash i).all (· == 0)

/-- A revoked slot (R440). -/
def slotRevoked (d : Dev) (i : Nat) : Bool := bitAt (d.otpCell 0x160).toNat i

/-- A slot that can sign images. -/
def slotUsable (d : Dev) (i : Nat) : Bool := !d.slotBlank i && !d.slotRevoked i

/-- Every slot is blank, as the ROM finds it at BOOT (R442). -/
def provisioning (d : Dev) : Bool := (List.range 4).all d.slotBlank

/-- Provisioning, which ends at the first BOOT after a slot has been programmed (R442). -/
def inProvisioning (d : Dev) : Bool := d.provisioning || d.flag (pg .secboot) F.SECBOOT.BOOT_STATUS_PROVISIONING

/-- Consecutive 1 bits from bit `i` of words 0x180–0x183 upward. -/
def onesFrom (d : Dev) : Nat → Nat → Nat
  | 0, _ => 0
  | n + 1, i => if bitAt (d.otpCell (0x180 + i / 32)).toNat (i % 32) then 1 + onesFrom d n (i + 1) else 0

/-- The anti-rollback counter (R441). -/
def arbCounter (d : Dev) : Nat := d.onesFrom 128 0

/-- RESULT of the SECBOOT page. -/
def sbResult (d : Dev) (r : Nat) : Dev := d.setFld (pg .secboot) F.SECBOOT.CMD_STATUS_RESULT r

/-- A SECBOOT command that burns begins. -/
def sbStart (d : Dev) (j : OtpJob) : Dev :=
  (d.setReg (pg .secboot) R.SECBOOT.CMD_STATUS 1).modBoot (fun b => { b with job := j })

/-- A key that is not 0x5EB0 refuses the command (R458). -/
def sbKeyed (d : Dev) (w : Word) (f : Dev → Dev) : Dev :=
  if bitsOf w.toNat 16 16 = 0x5EB0 then f d else d.sbResult 1

/-- CMD ARB_ADVANCE (R441). -/
def arbAdvance (d : Dev) (v : Nat) (env : Bool) : Dev :=
  if d.boot.job ≠ .none then d.sbResult 3
  else if !d.canBurn env then d.sbResult 2
  else if d.fld (pg .secboot) F.SECBOOT.IMAGE_INFO_ARB < v then d.sbResult 4
  else if v ≤ d.arbCounter then d.sbResult 0
  else d.sbStart (.arb v)

/-- CMD REVOKE (R440). -/
def revoke (d : Dev) (i : Nat) (env : Bool) : Dev :=
  if d.boot.job ≠ .none then d.sbResult 3
  else if !d.canBurn env then d.sbResult 2
  else if 4 ≤ i ∨ d.slotBlank i ∨ d.fld (pg .secboot) F.SECBOOT.IMAGE_INFO_KEY_INDEX = i ∨
      !(List.range 4).any (fun j => j != i && d.slotUsable j) then d.sbResult 4
  else d.sbStart (.revoke i)

/-- The bits of word `w` of the counter between the counter and `v` (R441). -/
def arbBits (lo v w : Nat) : Word :=
  BitVec.ofNat 32 ((List.range 32).foldl (fun (a : Nat) b =>
    let i := 32 * w + b
    if lo ≤ i ∧ i < v then a + 2 ^ b else a) 0)

/-! ## Completion (R441, R450–R452) -/

/-- The OTP page's command is done. -/
def otpEnd (d : Dev) (r pulses w : Nat) : Dev :=
  let p := pg .otp
  let d := (d.setReg p R.OTP.CMD_STATUS (BitVec.ofNat 32 (16 * r + 256 * pulses))).event p F.OTP.EVENT_DONE
  (d.setReg p R.OTP.DATA (d.otpRead w)).modBoot (fun b => { b with job := .none })

/-- A SECBOOT command is done. -/
def sbEnd (d : Dev) (r : Nat) : Dev :=
  (d.setReg (pg .secboot) R.SECBOOT.CMD_STATUS (BitVec.ofNat 32 (16 * r))).modBoot (fun b => { b with job := .none })

/-- Clocks that an operation takes at the least: 10 µs for each pulse of PROGRAM, and 40 µs for RESENSE (R450, R451). -/
def jobClocks (j : OtpJob) (pulses : Nat) : Nat :=
  match j with
  | .program _ _ => 4000 * min 8 pulses
  | .resense => 16000
  | _ => 0

/-- The command under way completes, with what the cells show. A bit that reads 1 and still fails at high margin fails the
command too (R451, R452). -/
def otpDone (d : Dev) (x : OtpFacts) : Dev :=
  let p := pg .otp
  if d.now < d.boot.jobAt + jobClocks d.boot.job x.pulses then d else
  match d.boot.job with
  | .none => d
  | .program w v =>
    let left := v &&& x.bad
    let d := (d.burn w (v &&& ~~~ left)).senseWord w
    if left = 0 then (d.bump p R.OTP.PROGRAMS).otpEnd 0 (min 8 x.pulses) w
    else ((d.bump p R.OTP.PROG_FAILS).raise .otp 0 B.OTP.OTP_PROG w).otpEnd 4 8 w
  | .margin _ =>
    let f := x.first % 1024
    let d := d.setReg p R.OTP.WEAK (BitVec.ofNat 32 (f + 65536 * min 255 x.weak + 16777216 * min 255 x.leak))
    let d := if x.weak + x.leak = 0 then d else
      ((d.bump p R.OTP.WEAK_FOUND (x.weak + x.leak)).event p F.OTP.EVENT_WEAK_SEEN).raise .otp 0 B.OTP.OTP_WEAK f
    d.otpEnd 0 0 (d.fld p F.OTP.ADDR_WORD)
  | .resense => (d.sense x.diff).otpEnd 0 0 (d.fld p F.OTP.ADDR_WORD)
  | .arb v =>
    let lo := d.arbCounter
    let fails := (List.range 4).any (fun w => arbBits lo v w &&& x.bad != 0)
    let d := (List.range 4).foldl (fun (d : Dev) w => (d.burn (0x180 + w) (arbBits lo v w &&& ~~~ x.bad)).senseWord (0x180 + w)) d
    d.sbEnd (if fails then 5 else 0)
  | .revoke i =>
    let d := (d.burn 0x160 (BitVec.ofNat 32 (2 ^ i) &&& ~~~ x.bad)).senseWord 0x160
    d.sbEnd (if bitAt x.bad.toNat i then 5 else 0)

/-! ## ROM patches (R454) -/

/-- Words A, B and C of patch entry `i`. -/
def patchWords (d : Dev) (i : Nat) : Word × Word × Word :=
  (d.otpCell (0x1C0 + 3 * i), d.otpCell (0x1C1 + 3 * i), d.otpCell (0x1C2 + 3 * i))

/-- Word C holds, with KILL taken as 0, and no reserved bit of A is set. -/
def patchChecks (a b c : Word) : Bool :=
  let a0 := a &&& 0x7FFFFFFF#32
  c == ~~~ (a0 ^^^ b) && a0 &&& 0x7FFC0000#32 == 0

/-- The ROM address that an entry names. -/
def patchAddr (a : Word) : Nat := bitsOf a.toNat 2 16 * 4

/-- An entry that is used. -/
def patchUsed (d : Dev) (i : Nat) : Bool :=
  let w := d.patchWords i
  bitAt w.1.toNat 0 && !bitAt w.1.toNat 31 && patchChecks w.1 w.2.1 w.2.2 && decide (0x1000 ≤ patchAddr w.1)

/-- An entry that is refused: its check fails or its address lies in stage 0. -/
def patchBad (d : Dev) (i : Nat) : Bool :=
  let w := d.patchWords i
  bitAt w.1.toNat 0 && !bitAt w.1.toNat 31 && !(patchChecks w.1 w.2.1 w.2.2 && decide (0x1000 ≤ patchAddr w.1))

/-- The patch loader (R430, R454, R462). -/
def patchLoad (d : Dev) : Dev :=
  let p := pg .rompatch
  let used := numbers 64 d.patchUsed
  let bad := numbers 64 d.patchBad
  let mask := fun (lo : Nat) => used.foldl (fun (a : Nat) i => if lo ≤ i ∧ i < lo + 32 then a + 2 ^ (i - lo) else a) 0
  let d := d.setReg p R.ROMPATCH.PATCH_STATUS
    (BitVec.ofNat 32 (used.length + 256 * bad.length + 65536 * bad.headD 0))
  let d := (d.setReg p R.ROMPATCH.USED_LO (BitVec.ofNat 32 (mask 0))).setReg p R.ROMPATCH.USED_HI (BitVec.ofNat 32 (mask 32))
  d.each bad (fun d i => d.raise .rompatch 0 B.ROMPATCH.RP_BAD i)

/-- The patch that governs a ROM word: the lowest used entry that names it (R454). -/
def patchAt (d : Dev) (a : Nat) : Option Nat :=
  (List.range 64).find? (fun i =>
    bitAt (d.reg (pg .rompatch) (if i < 32 then R.ROMPATCH.USED_LO else R.ROMPATCH.USED_HI)).toNat (i % 32) &&
    patchAddr (d.patchWords i).1 == a / 4 * 4)

end Dev
end Sys2Proof.Machine
end

