-- ==== Sys2Proof/Machine/Pin.lean ====
section
/-!
DEFINITION. Multiplexed balls (R547–R552), the levels of the output balls (R544, R545) and the ageing monitor (R587).
-/
namespace Sys2Proof.Machine

/-- Whether a ball admits a function: T1S balls the primary one only, WINOUT on GP balls only (R547). -/
def mxAdmits (k func : Nat) : Bool :=
  func == 0 || (func == 1 && k != 9 && k != 10) || (func == 2 && decide (11 ≤ k))

namespace Dev

/-- A write of MXCFG[k]: only for the holder of key k (R43, R548); the fields with ranges one by one (R54); SAFE_EN and SAFE_LVL
under LOCK. -/
def mxcfgWrite (d : Dev) (m : Master) (k : Nat) (w : Word) : Dev :=
  let p := pg .pinmux
  let n := w.toNat
  if !d.keyHeldBy m k then d.event p F.HDR.EVENT_NOKEY
  else
    let d := if mxAdmits k (bitsOf n 0 2) then d.setFld p (F.PINMUX.MXCFG_FUNC.at k) (bitsOf n 0 2) else d.eventRange p
    let d := if bitsOf n 2 2 ≠ 3 then d.setFld p (F.PINMUX.MXCFG_PULL.at k) (bitsOf n 2 2) else d.eventRange p
    let d := d.setFld p (F.PINMUX.MXCFG_DRIVE.at k) (bitsOf n 4 1)
    let d := d.setFld p (F.PINMUX.MXCFG_OD.at k) (bitsOf n 5 1)
    let d := d.setFld p (F.PINMUX.MXCFG_WSEL.at k) (bitsOf n 8 4)
    let changes := bitsOf n 12 2 != bitsOf (d.reg p (R.PINMUX.MXCFG + 4 * k)).toNat 12 2
    if d.flag p F.HDR.LOCK_LOCK then (if changes then d.refuse m p (R.PINMUX.MXCFG + 4 * k) else d)
    else
      let d := d.setFld p (F.PINMUX.MXCFG_SAFE_LVL.at k) (bitsOf n 13 1)
      if bitAt n 12 ∧ (k = 9 ∨ k = 10) then d.eventRange p else d.setFld p (F.PINMUX.MXCFG_SAFE_EN.at k) (bitsOf n 12 1)

/-- A write of GPIO_OUT or GPIO_OE: bits whose key the writer does not hold keep their values, and REFUSED is set if one of them
would have changed (R548). -/
def gpioWrite (d : Dev) (m : Master) (ofs : Nat) (w : Word) : Dev :=
  let p := pg .pinmux
  let old := (d.reg p ofs).toNat
  let diff := numbers 27 (fun k => bitAt old k != bitAt w.toNat k)
  let d' := d.each (diff.filter (d.keyHeldBy m)) (fun d k => d.setFld p ⟨ofs, k, 1⟩ (b2n (bitAt w.toNat k)))
  if diff.any (fun k => !d.keyHeldBy m k) then d'.refuse m p ofs else d'

/-- The level of a primary output function: SYNCOUT, S2, and CPGEN while it is held at a level. FMARK, CPGEN with its PWM, CAN TXD
and T1S change within a state of this model, and none is given (R67, R252, R271). -/
def mxPrimary (d : Dev) (k : Nat) : Option Bool :=
  if k = 2 ∧ d.pinPrimary 2 then some d.syncout
  else if k = 3 ∧ d.pinPrimary 3 then some d.s2Closed
  else if k = 4 then (match d.chg.cpgen with
    | .low => some false
    | .high => some true
    | _ => none)
  else none

/-- The level that the device drives on a multiplexed ball; none where it drives none, or a level that changes within a state of
this model (R548, R549). VIO33 supplies the balls (R544). -/
def mxLevel (d : Dev) (k : Nat) : Option Bool :=
  let p := pg .pinmux
  let gpio := d.mxFunc k == 1 || (d.mxFunc k == 0 && decide (11 ≤ k))
  if d.domState 2 ≠ 2 then none
  else if d.state = 5 && d.flag p (F.PINMUX.MXCFG_SAFE_EN.at k) then some (d.flag p (F.PINMUX.MXCFG_SAFE_LVL.at k))
  else if d.keyTag k = 0 then none
  else if gpio then
    let out := d.flag p ⟨R.PINMUX.GPIO_OUT, k, 1⟩
    if !d.flag p ⟨R.PINMUX.GPIO_OE, k, 1⟩ ∨ (out ∧ d.flag p (F.PINMUX.MXCFG_OD.at k)) then none else some out
  else if d.mxFunc k = 2 then some (d.flag (pg .galley) ⟨R.GALLEY.WIN_STATE, d.fld p (F.PINMUX.MXCFG_WSEL.at k), 1⟩)
  else d.mxPrimary k

/-- A gate output is high at this clock: a pulse of the tile that has risen and not fallen. -/
def gateHigh (d : Dev) (n : Nat) (o : Out) : Bool :=
  let x := d.now * 64 - (d.tileS n).start
  (highAt (((d.tileAdvance n x).tileS n).sched o) x).isSome

/-- The level that the device drives on an output ball; none where it is undriven, released or toggling (R544, R545). -/
def ballLevel (d : Dev) : Ball → Option Bool
  | .pwm n o => if !d.islandOn then none else some (d.domState 2 == 2 && d.gateHigh n o)
  | .alive => if !d.islandOn || d.alive then none else some false
  | .faultN => if d.islandOn && d.faultN then some false else none
  | .disch => if d.islandOn then some d.disch.on else none
  | .stair => if d.state = 0 ∨ d.flag (pg .seq) F.SEQ.SEQ_STATUS_STAIR_REL then none else some false
  | .rstout k => if d.islandOn && d.flag (pg .seq) ⟨R.SEQ.RST_STATUS, k, 1⟩ then some false else none
  | .pwron => if d.state = 0 then none else some (d.flag (pg .cellar) F.CELLAR.STATUS_PWRON)
  | .hrdy => if d.islandOn && d.domState 2 == 2 then some d.host.resp.isNone else none
  | .mx k => d.mxLevel k

/-- GPIO_IN: the driven levels, and a free level on every ball that something outside decides (log entry 3). -/
def gpioIn (d : Dev) : Word × Dev :=
  let x := d.takeFree
  (BitVec.ofNat 32 ((List.range 27).foldl (fun (a : Nat) k =>
    let b := match d.mxLevel k with
      | some l => l
      | none => bitAt x.1.toNat k
    a + b2n b * 2 ^ k) 0), x.2)

/-! ## Ageing monitor (R587, R590) -/

/-- A write of AGE_CMD: ignored without its key; refused in BOOT and while a measurement runs. -/
def ageCmd (d : Dev) (w : Word) : Dev :=
  let p := pg .sys
  if w.toNat / 65536 ≠ 0xA6E1 ∨ !bitAt w.toNat 0 then d
  else if d.state = 2 ∨ d.comp.ageBusy then d.event p ⟨R.HDR.EVENT, 10, 1⟩
  else { d with comp := { d.comp with ageBusy := true, ageAt := d.now } }

/-- The measurement ends after 1.000 ms with the counts Ns and Nr: SHIFT, AGE_DONE and AGE_WARN. Where SHIFT does not fit, or Nr is 0, the spec
states no value (log entry 3). -/
def ageDone (d : Dev) (ns nr : Nat) : Dev :=
  let p := pg .sys
  if !d.comp.ageBusy ∨ d.now < d.comp.ageAt + 400000 then d
  else
    let r0 := (d.otpShadow 0x7E).toNat
    let v := divRound (10000 * (((ns * r0 : Nat) : Int) - ((nr * 1073741824 : Nat) : Int))) (nr * 1073741824)
    let r := d.fit 16 (if nr = 0 then 1 else -32768) (if nr = 0 then 0 else 32767) v
    let d := { r.2 with comp := { r.2.comp with ageBusy := false } }
    let d := d.setReg p R.SYS.AGE_RESULT (BitVec.ofNat 32 (65536 + r.1))
    let d := (d.bump p R.SYS.AGE_RUNS).event p ⟨R.HDR.EVENT, 8, 1⟩
    if toSigned 16 r.1 ≤ d.sfld p F.SYS.AGE_CFG_WARN then d.event p ⟨R.HDR.EVENT, 9, 1⟩ else d

end Dev
end Sys2Proof.Machine
end

