-- ==== Sys2Proof/Machine/Boot.lean ====
section
/-!
DEFINITION. Start-up and image authentication (R430–R443), attestation (R448) and debug unlock (R446, R447). Starting the
pairs at release is in Machine/Power.lean.
-/
namespace Sys2Proof.Machine

/-- RESULT of a request (R528). -/
def resOk : Nat := 0

/-- The register PAGE_ID of instance `i` of a page kind (R30, R584). -/
def pageId (k : PageKind) (i : Nat) : Nat := i + 256 * k.first.1 + 65536 * 0x10 + 16777216 * 0x4C

namespace Dev

/-! ## The ROM starts (R430, R431) -/

/-- BOOT_CFG of OTP word 0x110. -/
def bootCfg (d : Dev) : Nat := (d.otpCell 0x110).toNat

/-- A failed boot with a cause, in a segment. -/
def bootFailAt (d : Dev) (code seg : Nat) : Dev :=
  let d := ((d.bootDiscard.bootFailed code seg).setBootState 5).modBoot (fun b => { b with failAt := d.now })
  (d.setFld (pg .secboot) F.SECBOOT.BOOT_STATUS_SEG 0).raise .secboot 0 B.SECBOOT.SB_FAIL (code + 256 * seg)

/-- A failure that leads to HOLDOFF (R439). -/
def bootFail (d : Dev) (code : Nat) : Dev := d.bootFailAt code (d.fld (pg .secboot) F.SECBOOT.BOOT_STATUS_SEG)

/-- The path that the ROM takes: the fuses' where they fix one, else that of the BOOTSEL balls (R431). -/
def bootPath (d : Dev) (bootsel : Nat) : Nat :=
  let sel := if bitAt d.bootCfg 3 then bitsOf d.bootCfg 4 2 else bootsel
  if sel = 1 then 1 else if sel = 2 then 2 else 0

/-- The balls of the network that a boot path uses, claimed for its controller (R550). -/
def takeBootPins (d : Dev) (path : Nat) : Dev :=
  if path = 1 then (d.setKey 5 0x502E).setKey 6 0x502E
  else if path = 2 then (d.setKey 9 0x502D).setKey 10 0x502D
  else d

/-- The service pair is released and the ROM runs: OTP is sensed with the words `diff` in doubt, the patches load, and the path is selected with the balls
BOOTSEL; the pin keys of a CAN or T1S path are claimed (R430, R431, R550). -/
def romStart (d : Dev) (bootsel : Nat) (diff : List (Nat × Word)) : Dev :=
  let p := pg .secboot
  let d := (d.sense diff).patchLoad
  let cfg := d.bootCfg
  let path := d.bootPath bootsel
  let d := d.setReg p R.SECBOOT.BOOT_CFG (BitVec.ofNat 32 (bootsel % 4 + 4 * path + 16 * bitsOf cfg 0 3 +
    128 * bitsOf cfg 3 1 + 256 * bitsOf cfg 4 2 + 1024 * bitsOf cfg 6 2))
  let d := d.setFld (pg .debug) F.DEBUG.DBG_STATUS_LIMIT (bitsOf cfg 6 2)
  let d := d.setFlag p F.SECBOOT.BOOT_STATUS_PROVISIONING d.provisioning
  if bitAt cfg path then
    ((d.bootFailed 0x13 0).setBootState 7).raise .secboot 0 B.SECBOOT.SB_FAIL 0x13
  else (d.takeBootPins path).setBootState 1

/-! ## Checks (R432–R438) -/

/-- HDR_LENGTH: lengths and reserved bytes. -/
def hdrLengthOk (h : List Nat) : Bool :=
  let n := Image.len h
  decide (1 ≤ n) && decide (n ≤ 4194304) && Image.segs h == (n + 65535) / 65536 && (sub h 0x1C 4).all (· == 0) &&
  (sub h 0x60 160).all (· == 0) && (sub h (0x100 + 32 * Image.segs h) (2048 - 32 * Image.segs h)).all (· == 0)

/-- Whether two ranges of addresses share a byte. -/
def clash (a b : Nat × Nat) : Bool := decide (a.1 < b.1 + b.2) && decide (b.1 < a.1 + a.2)

/-- LOAD_RANGE (R433). -/
def rangesOk (h : List Nat) : Bool :=
  let r := Image.ranges h
  r.all (fun x => x.1 % 4 == 0 && x.2 % 4 == 0 &&
    (if x.2 = 0 then x.1 == 0 else Image.inItcm x.1 x.2 || Image.inDtcm x.1 x.2 || Image.inSram x.1 x.2)) &&
  (List.range 8).all (fun i => (List.range i).all (fun j => !clash (r.getD i (0, 0)) (r.getD j (0, 0)))) &&
  r.foldl (fun (a : Nat) x => a + x.2) 0 == Image.len h

/-- ENTRY (R433). -/
def entriesOk (h : List Nat) : Bool :=
  let c := le h 0x10 4
  let s := le h 0x14 4
  let lies := fun (a : Nat) (mem : Nat → Nat → Bool) =>
    (Image.ranges h).any (fun r => decide (r.1 ≤ a) && decide (a < r.1 + r.2) && mem r.1 r.2)
  c % 2 == 0 && s % 2 == 0 && lies c (fun a n => Image.inItcm a n || Image.inSram a n) && lies s Image.inSram

/-- First failing check of a header; 0 where all hold (R438). -/
def headerCode (d : Dev) (h : List Nat) : Nat :=
  if le h 0 4 ≠ 0x4E454F46 then 0x01
  else if le h 4 2 ≠ 1 ∨ le h 6 2 ≠ 0x0900 then 0x02
  else if !hdrLengthOk h then 0x03
  else if !rangesOk h then 0x04
  else if !entriesOk h then 0x05
  else if d.fld (pg .sys) F.SYS.COMPAT_LEVEL_MAX < le h 0x18 4 then 0x06
  else 0

/-- First failing check of the colophon; 0 where all hold (R434, R435, R438, R442). -/
def colophonCode (d : Dev) (h c : List Nat) : Nat :=
  let key := le c 4 1
  let arb := le c 8 4
  let digest := sub c 0x10 32
  let num := fun (o : Nat) => le c o 32
  if le c 0 4 ≠ 0x48504C43 ∨ !(sub c 5 3).all (· == 0) ∨ !(sub c 12 4).all (· == 0) then 0x0A
  else if 3 < key ∨ (!d.provisioning ∧ d.slotBlank key) then 0x0B
  else if d.slotRevoked key then 0x0C
  else if !d.provisioning ∧ Crypto.sha256 (sub c 0x30 64) ≠ d.keyHash key then 0x0D
  else if 127 < arb ∨ arb < d.arbCounter then 0x0E
  else if Crypto.sha256 (h ++ sub c 0 16) ≠ digest then 0x0F
  else if !Crypto.verify (num 0x30) (num 0x50) (num 0x70) (num 0x90) (Crypto.numBE digest) then 0x10
  else 0

/-! ## Transfers (R436–R439). Each answers the RESULT of R528. -/

/-- A transfer other than the one expected, or none is expected (R436, R437). -/
def bootSequence (d : Dev) : Dev × Nat :=
  let st := d.bootState
  if st = 4 then (d, 0x06)
  else if st = 0 ∨ st = 6 ∨ st = 7 then (d, 0x05)
  else (d.bootFail 0x07, 0x07)

/-- A header (R436, R438, R439). -/
def bootHeader (d : Dev) (h : List Nat) : Dev × Nat :=
  let p := pg .secboot
  if h.length ≠ 2304 then (d, 0x03)
  else if d.bootState = 5 then
    let d := (d.bump p R.SECBOOT.ATTEMPTS).bootFailed 0x14 0
    (d.raise .secboot 0 B.SECBOOT.SB_FAIL 0x14, 0x07)
  else if d.bootState = 1 then
    let d := d.bump p R.SECBOOT.ATTEMPTS
    let code := d.headerCode h
    if code = 0 then
      (((d.setBootState 2).setFld p F.SECBOOT.BOOT_STATUS_SEG 0).modBoot (fun b => { b with hdr := h, xferAt := d.now }), resOk)
    else (d.bootFail code, 0x07)
  else d.bootSequence

/-- Segment `k` (R436, R437). -/
def bootSegment (d : Dev) (k : Nat) (s : List Nat) : Dev × Nat :=
  let p := pg .secboot
  let h := d.boot.hdr
  if s.length % 4 ≠ 0 ∨ s.length = 0 ∨ 65536 < s.length then (d, 0x03)
  else if d.bootState ≠ 2 ∨ d.fld p F.SECBOOT.BOOT_STATUS_SEG ≠ k then d.bootSequence
  else if s.length ≠ Image.segLen h k then (d.bootFail 0x08, 0x07)
  else if Crypto.sha256 s ≠ sub h (0x100 + 32 * k) 32 then (d.bootFail 0x09, 0x07)
  else
    let d := { d with mem := Image.load d.mem s (65536 * k) (Image.ranges h) 0 }
    let d := (d.setFld p F.SECBOOT.BOOT_STATUS_SEG (k + 1)).modBoot (fun b => { b with xferAt := d.now })
    (if k + 1 = Image.segs h then d.setBootState 3 else d, resOk)

/-- The colophon: its checks start (R436, R438). -/
def bootColophon (d : Dev) (c : List Nat) : Dev × Nat :=
  if c.length ≠ 176 then (d, 0x03)
  else if d.bootState = 3 then ((d.setBootState 4).modBoot (fun b => { b with col := c }), resOk)
  else d.bootSequence

/-- The colophon's checks complete (R438). -/
def colophonVerified (d : Dev) : Dev :=
  if d.bootState = 4 ∧ !d.boot.verified then
    let code := d.colophonCode d.boot.hdr d.boot.col
    if code = 0 then d.modBoot (fun b => { b with verified := true }) else d.bootFail code
  else d

/-- 1,000 ms without a transfer (R436). -/
def bootTimeout (d : Dev) : Dev :=
  if (d.bootState = 2 ∨ d.bootState = 3) ∧ d.boot.xferAt + 400000000 ≤ d.now then d.bootFail 0x11 else d

/-- A frame that fails its check as a boot transfer (R438, R528). -/
def bootTransport (d : Dev) : Dev :=
  let st := d.bootState
  if st = 1 ∨ st = 2 ∨ st = 3 then d.bootFail 0x12 else d

/-- 100 ms after the failure (R439). -/
def bootHoldoffEnd (d : Dev) : Dev :=
  if d.bootState = 5 ∧ d.boot.failAt + 40000000 ≤ d.now then d.setBootState 1 else d

/-- BOOT_STATUS as it reads: HOLD_MS counts down from 100 ms in HOLDOFF (R436, R458). -/
def bootStatus (d : Dev) : Word :=
  let w := d.reg (pg .secboot) R.SECBOOT.BOOT_STATUS
  if d.bootState = 5 then
    BitVec.ofNat 32 (setBits w.toNat F.SECBOOT.BOOT_STATUS_HOLD_MS.lo F.SECBOOT.BOOT_STATUS_HOLD_MS.w
      (100 - (d.now - d.boot.failAt) / 400000))
  else w

/-- The image may be released (R430, R443). -/
def releasable (d : Dev) : Bool :=
  d.state == 2 && d.bootState == 4 && d.boot.verified && d.flag (pg .scaolo) F.SCAOLO.SELFTEST_DONE

/-- What the ROM does at release before it starts the pairs (R443, R585). -/
def releaseRecords (d : Dev) : Dev :=
  let p := pg .secboot
  let c := d.boot.col
  let pin := le d.boot.hdr 0x18 4
  let prov := d.provisioning
  let d := if prov then d else
    d.setReg (pg .otp) R.OTP.SLOCK (d.reg (pg .otp) R.OTP.SLOCK ||| 0x2028#32)
  let d := d.setReg p R.SECBOOT.IMAGE_INFO
    (BitVec.ofNat 32 (le c 4 1 % 4 + 4 * b2n prov + 256 * (le c 8 4 % 256) + 65536 * d.arbCounter))
  let d := d.each (List.range 8) (fun d i => d.setReg p (R.SECBOOT.IMAGE_DIGEST + 4 * i) (BitVec.ofNat 32 (le c (0x10 + 4 * i) 4)))
  let d := d.setFld (pg .sys) F.SYS.COMPAT_LEVEL (if pin = 0 then 1 else pin)
  (d.setBootState 6).event p F.SECBOOT.EVENT_RELEASED

/-! ## Attestation (R448) -/

/-- Words of a register array as bytes. -/
def regBytes (d : Dev) (p ofs n : Nat) : List Nat :=
  (List.range n).flatMap (fun i => Crypto.bytesLE (d.reg p (ofs + 4 * i)).toNat 4)

/-- `n` OTP words as bytes, as the engines read them. -/
def otpBytes (d : Dev) (w n : Nat) : List Nat :=
  (List.range n).flatMap (fun i => Crypto.bytesLE (d.otpCell (w + i)).toNat 4)

/-- ASCII LH6480-ATTEST. -/
def attestLabel : List Nat := [0x4C, 0x48, 0x36, 0x34, 0x38, 0x30, 0x2D, 0x41, 0x54, 0x54, 0x45, 0x53, 0x54]

/-- CMD ATTEST (R448). -/
def attest (d : Dev) : Dev :=
  let p := pg .secboot
  let uds := d.otpBytes 0x190 8
  if d.inProvisioning ∨ uds.all (· == 0) then d.sbResult 6
  else
    let ii := (d.reg p R.SECBOOT.IMAGE_INFO).toNat
    let w10 := ii % 4 + 256 * bitsOf ii 8 8 + 65536 * d.arbCounter +
      16777216 * b2n (decide (1 ≤ d.fld (pg .debug) F.DEBUG.DBG_STATUS_LEVEL))
    let msg := d.otpBytes 0 2 ++ d.regBytes p R.SECBOOT.IMAGE_DIGEST 8 ++ Crypto.bytesLE w10 4 ++
      Crypto.bytesLE (pageId .sys 0) 4 ++ d.regBytes p R.SECBOOT.ATT_NONCE 8
    let rep := msg ++ Crypto.hmac (Crypto.hmac uds attestLabel) msg
    let d := d.each (List.range 28) (fun d i => d.setReg p (R.SECBOOT.ATT_REPORT + 4 * i) (BitVec.ofNat 32 (le rep (4 * i) 4)))
    (d.bump p R.SECBOOT.ATTESTS).sbResult 0

/-! ## Debug unlock (R446, R447, R464) -/

/-- A nonce of the random source written to eight registers (log entry 4). -/
def writeNonce (d : Dev) (p ofs : Nat) : Dev :=
  let n := (Config.nonce d.fresh).toNat
  let d := { d with fresh := d.fresh + 1 }
  d.each (List.range 8) (fun d i => d.setReg p (ofs + 4 * i) (BitVec.ofNat 32 (bitsOf n (32 * i) 32)))

/-- DBG_CMD CHALLENGE. -/
def dbgChallenge (d : Dev) : Dev :=
  (d.writeNonce (pg .debug) R.DEBUG.NONCE).setFlag (pg .debug) F.DEBUG.DBG_STATUS_NONCE_VALID true

/-- The token as bytes. -/
def tokenBytes (d : Dev) : List Nat :=
  (List.range 44).flatMap (fun i => Crypto.bytesLE (((d.boot.token.lookup i).getD 0).toNat) 4)

/-- RESULT of a token, checked in the order of R464. -/
def tokenCode (d : Dev) (t : List Nat) : Nat :=
  let p := pg .debug
  let lim := bitsOf d.bootCfg 6 2
  let level := le t 4 1
  let hash := d.otpBytes 0x168 8
  let num := fun (o : Nat) => le t o 32
  if 2 ≤ lim then 0x01
  else if level = 0 ∨ 2 < level ∨ (lim = 1 ∧ level = 2) then 0x02
  else if d.state = 4 then 0x03
  else if le t 0 4 ≠ 0x54474244 then 0x08
  else if sub t 8 8 ≠ d.otpBytes 0 2 then 0x04
  else if !d.flag p F.DEBUG.DBG_STATUS_NONCE_VALID ∨ sub t 0x10 32 ≠ d.regBytes p R.DEBUG.NONCE 8 then 0x05
  else if hash.all (· == 0) ∨ Crypto.sha256 (sub t 0x30 64) ≠ hash then 0x06
  else if !Crypto.verify (num 0x30) (num 0x50) (num 0x70) (num 0x90) (Crypto.numBE (Crypto.sha256 (sub t 0 48))) then 0x07
  else 0

/-- DBG_CMD SUBMIT. -/
def dbgSubmit (d : Dev) : Dev :=
  let p := pg .debug
  let t := d.tokenBytes
  let code := d.tokenCode t
  let d := (d.setFld p F.DEBUG.DBG_STATUS_RESULT code).setFlag p F.DEBUG.DBG_STATUS_NONCE_VALID false
  if code = 0 then
    ((d.setFld p F.DEBUG.DBG_STATUS_LEVEL (le t 4 1)).bump p R.DEBUG.UNLOCKS).event p F.DEBUG.EVENT_UNLOCKED
  else
    ((d.bump p R.DEBUG.UNLOCK_FAILS).event p F.DEBUG.EVENT_REFUSED_TOKEN).raise .debug 0 B.DEBUG.DBG_TOKEN code

/-- A word of TOKEN written. -/
def tokenWrite (d : Dev) (i : Nat) (w : Word) : Dev :=
  d.modBoot (fun b => { b with token := (i, w) :: b.token.filter (fun e => e.1 != i) })

end Dev
end Sys2Proof.Machine
end

