-- ==== Sys2Proof/Machine/Cellar.lean ====
section
/-!
DEFINITION. The cellar (R368–R395): calendar, commits, alarms, trim, rate measurement, wake events and PWRON. The
transitions that a wake event leads to are in Machine/Power.lean.
-/
namespace Sys2Proof.Machine

/-! ## Calendar arithmetic (R370) -/

/-- Whether year `y`, counted from 2000, is a leap year. -/
def leapYear (y : Nat) : Bool := y % 4 == 0 && (y % 100 != 0 || y % 400 == 0)

/-- Days of a month. -/
def monthDays (y m : Nat) : Nat :=
  if m = 2 then (if leapYear y then 29 else 28) else if m = 4 ∨ m = 6 ∨ m = 9 ∨ m = 11 then 30 else 31

/-- Days from 2000-01-01 to the first day of year `y`. -/
def yearStart (y : Nat) : Nat := 365 * y + (y + 3) / 4 - (y + 99) / 100 + (y + 399) / 400

/-- Days from 2000-01-01 to a date. -/
def dayNumber (y m day : Nat) : Nat :=
  yearStart y + (List.range (m - 1)).foldl (fun (a : Nat) i => a + monthDays y (i + 1)) 0 + (day - 1)

/-- Weekday of a day number, 0 Monday; 2000-01-01 is a Saturday. -/
def weekday (n : Nat) : Nat := (n + 5) % 7

/-- A calendar time. -/
structure CalTime where
  sec : Nat
  min : Nat
  hour : Nat
  day : Nat
  month : Nat
  year : Nat
  deriving DecidableEq, Repr

/-- Seconds from 2000-01-01 00:00:00 (R371). -/
def CalTime.seconds (t : CalTime) : Nat :=
  dayNumber t.year t.month t.day * 86400 + t.hour * 3600 + t.min * 60 + t.sec

/-- Every field in its range, and the day exists (R374). -/
def CalTime.ok (t : CalTime) : Bool :=
  decide (t.sec ≤ 59) && decide (t.min ≤ 59) && decide (t.hour ≤ 23) && decide (1 ≤ t.month) && decide (t.month ≤ 12) &&
  decide (t.year ≤ 399) && decide (1 ≤ t.day) && decide (t.day ≤ monthDays t.year t.month)

/-- The next second; the year after 2399 is 2000 (R376). -/
def CalTime.next (t : CalTime) : CalTime :=
  if t.sec < 59 then { t with sec := t.sec + 1 }
  else if t.min < 59 then { t with sec := 0, min := t.min + 1 }
  else if t.hour < 23 then { t with sec := 0, min := 0, hour := t.hour + 1 }
  else if t.day < monthDays t.year t.month then { t with sec := 0, min := 0, hour := 0, day := t.day + 1 }
  else if t.month < 12 then { t with sec := 0, min := 0, hour := 0, day := 1, month := t.month + 1 }
  else ⟨0, 0, 0, 1, 1, if t.year = 399 then 0 else t.year + 1⟩

namespace Dev

/-- The cellar changed. -/
def modCel (d : Dev) (f : CellarS → CellarS) : Dev := { d with cel := f d.cel }

/-! ## PWRON (R388) -/

/-- PWRON asserted, which starts or restarts a pulse, or released. -/
def setPwron (d : Dev) (on : Bool) : Dev :=
  (d.setFlag (pg .cellar) F.CELLAR.STATUS_PWRON on).modCel (fun c => { c with pwronAt := if on then d.now else c.pwronAt })

/-- PULSE mode. -/
def pwronPulse (d : Dev) : Bool := d.flag (pg .cellar) F.CELLAR.POLICY_PWRON_MODE

/-- A write of PWRON_CTRL with the key (R388). -/
def pwronCtrl (d : Dev) (w : Word) : Dev :=
  if bitsOf w.toNat 16 16 = 0x7E19 then
    if bitAt w.toNat 0 then d.setPwron true
    else if bitAt w.toNat 1 ∧ !d.pwronPulse then d.setPwron false
    else d
  else d

/-- WIDTH ms have elapsed since the assertion (R388). -/
def pwronPulseEnd (d : Dev) : Dev :=
  if d.pwronPulse ∧ d.cel.pwronAt + 400000 * d.fld (pg .cellar) F.CELLAR.PWRON_PULSE_WIDTH ≤ d.now then d.setPwron false else d

/-! ## Wake events (R384–R387) -/

/-- A bit of WAKE_PEND and EVENT.WAKE_SEEN set (R386). -/
def wakeRecord (d : Dev) (bit : Nat) : Dev :=
  (d.setFld (pg .cellar) ⟨R.CELLAR.WAKE_PEND, bit, 1⟩ 1).event (pg .cellar) F.CELLAR.EVENT_WAKE_SEEN

/-- The cellar tick of 1/32,768 s that a clock lies in. DESIGN CHOICE: ticks are counted from clock 0 (log entry 53). -/
def cellarTick (now : Nat) : Nat := now * 2048 / 25000000

/-- The wake event's source is held until the transition that it leads to; sources of one cellar tick are held together, later
ones are a record only (R386). -/
def holdWake (d : Dev) (bit : Nat) : Dev :=
  d.modCel (fun c =>
    if c.wakeDue = 0 then
      { c with wakeDue := 2 ^ bit, wakeAt := d.now, wakeLin := d.reg (pg .rtc) R.RTC.LINEAR }
    else if cellarTick c.wakeAt = cellarTick d.now then { c with wakeDue := c.wakeDue ||| 2 ^ bit }
    else c)

/-- The wake event's source joins those that the hold-off leads on together (R387). -/
def joinWake (d : Dev) (bit : Nat) : Dev :=
  d.modCel (fun c => { c with wakeDue := c.wakeDue ||| 2 ^ bit, wakeAt := d.now,
                              wakeLin := d.reg (pg .rtc) R.RTC.LINEAR })

/-- A wake event of R18 (R386, R387, R356): in CELLAR and HIBERNATE it waits for VSYS, with PWRON asserted; during a
power-down run or a hold-off it is latched; in PARKED it is an on request. -/
def wakeEvent (d : Dev) (bit : Nat) : Dev :=
  let d := d.wakeRecord bit
  if d.state = 1 then
    if d.cel.holdOff then d.joinWake bit else (d.holdWake bit).setPwron true
  else if d.powerDown ∨ d.phase = 7 then (d.joinWake bit).latchOn true
  else if d.state = 6 then ((d.holdWake bit).setPwron true).gaugeWake
  else if d.phase = 8 then (d.joinWake bit).onRequest true
  else d

/-- WAKE[i] has stood at `high` for `held`/1,024 s. Once that is DEB, an edge is a change from the level held before (R384). -/
def wakeInput (d : Dev) (i : Nat) (high : Bool) (held : Nat) : Dev :=
  let p := pg .cellar
  let d := d.setFlag p ⟨F.CELLAR.STATUS_WAKE_LEVEL.ofs, F.CELLAR.STATUS_WAKE_LEVEL.lo + i, 1⟩ high
  let cfg : Nat := (d.reg p (R.CELLAR.WAKE_CFG + 4 * i)).toNat
  if held < bitsOf cfg 8 8 then d
  else
    let was := vget d.cel.wakeHeld i false
    let met := match bitsOf cfg 1 3 with
      | 0 => high && !was
      | 1 => !high && was
      | 2 => high != was
      | 3 => high
      | 4 => !high
      | _ => false
    let d := d.modCel (fun c => { c with wakeHeld := vmod c.wakeHeld i (fun _ => high) })
    if bitAt cfg 0 && met then d.wakeEvent i else d

/-- The PILOT ball has stood at `mv` mV for `held`/1,024 s: above 11.0 V the cellar's detector reads A, below 10.5 V not-A, and
between the two it keeps its reading (R385). -/
def pilotDetector (d : Dev) (mv : Int) (held : Nat) : Dev :=
  let p := pg .cellar
  let a := decide (11000 < mv)
  if held < d.fld p F.CELLAR.PILOT_WAKE_DEB ∨ (mv ≤ 11000 ∧ 10500 ≤ mv) ∨ d.flag p F.CELLAR.STATUS_PILOT_A = a then d
  else
    let dir := d.fld p F.CELLAR.PILOT_WAKE_DIR
    let d := d.setFlag p F.CELLAR.STATUS_PILOT_A a
    if d.flag p F.CELLAR.PILOT_WAKE_EN ∧ (dir = 2 ∨ dir = b2n a) then d.wakeEvent 4 else d

/-- PWRON_WAIT ms have elapsed in CELLAR since the wake event without VSYS (R18, R389). -/
def pwronWaitExpiry (d : Dev) : Dev :=
  let p := pg .cellar
  if d.state = 1 ∧ d.cel.wakeDue ≠ 0 ∧ !d.cel.holdOff ∧
      d.cel.wakeAt + 400000 * d.fld p F.CELLAR.PWRON_WAIT_WAIT ≤ d.now then
    let d := ((d.setPwron false).bump p R.CELLAR.PWRON_FAILS).event p F.CELLAR.EVENT_PWRON_FAIL
    (d.setFlag p F.CELLAR.STATUS_PWRON_FAIL true).modCel (fun c => { c with wakeDue := 0 })
  else d

/-- What a wake event leaves in the cellar's record when it causes a transition (R386, R389). -/
def wakeTaken (d : Dev) (src : Nat) (lin : Word) : Dev :=
  let p := pg .cellar
  let d := (d.setReg p R.CELLAR.WAKE_REC (BitVec.ofNat 32 src)).setReg p R.CELLAR.LAST_WAKE lin
  let d := (d.bump p R.CELLAR.WAKES).setFlag p F.CELLAR.STATUS_PWRON_FAIL false
  d.modCel (fun c => { c with wakeDue := 0, autoDue := false })

/-! ## Calendar (R370–R376) -/

/-- The calendar as it stands. -/
def calTime (d : Dev) : CalTime :=
  let p := pg .rtc
  ⟨d.fld p F.RTC.SEC_SEC, d.fld p F.RTC.TIME_MIN, d.fld p F.RTC.TIME_HOUR, d.fld p F.RTC.DATE_DAY,
   d.fld p F.RTC.DATE_MONTH, d.fld p F.RTC.DATE_YEAR⟩

/-- The staged calendar (R374). -/
def stageTime (d : Dev) : CalTime :=
  let p := pg .rtc
  ⟨d.fld p F.RTC.STAGE_SEC_SEC, d.fld p F.RTC.STAGE_TIME_MIN, d.fld p F.RTC.STAGE_TIME_HOUR, d.fld p F.RTC.STAGE_DATE_DAY,
   d.fld p F.RTC.STAGE_DATE_MONTH, d.fld p F.RTC.STAGE_DATE_YEAR⟩

/-- The calendar set, with SUB = 0 and the weekday of its date. -/
def setCal (d : Dev) (t : CalTime) : Dev :=
  let p := pg .rtc
  let d := d.setReg p R.RTC.SEC (BitVec.ofNat 32 t.sec)
  let d := d.setReg p R.RTC.TIME (BitVec.ofNat 32 (t.min + 256 * t.hour))
  d.setReg p R.RTC.DATE (BitVec.ofNat 32
    (t.day + 256 * t.month + 65536 * t.year + 268435456 * weekday (dayNumber t.year t.month t.day)))

/-- The 48-bit linear count (R371). -/
def linear (d : Dev) : Nat :=
  (d.reg (pg .rtc) R.RTC.LINEAR).toNat + 4294967296 * (d.reg (pg .rtc) R.RTC.LINEAR_HI).toNat

/-- The linear count set. -/
def setLinear (d : Dev) (n : Nat) : Dev :=
  (d.setReg (pg .rtc) R.RTC.LINEAR (BitVec.ofNat 32 n)).setReg (pg .rtc) R.RTC.LINEAR_HI
    (BitVec.ofNat 32 (n / 4294967296 % 65536))

/-- The calendar is valid (R372). -/
def calValid (d : Dev) : Bool := d.flag (pg .rtc) F.RTC.STATUS_CAL_VALID

/-- An alarm fires (R383). -/
def alarmFires (d : Dev) (flag : Fld) (bit : Nat) (wake pwron : Bool) : Dev :=
  let p := pg .rtc
  let d := ((d.setFlag p flag true).event p F.RTC.EVENT_ALARM).bump p R.RTC.ALARMS
  let d := if pwron then d.setPwron true else d
  if wake then d.wakeEvent bit else d

/-- Every field of the calendar alarm whose match bit is set agrees (R381). -/
def calMatches (d : Dev) : Bool :=
  let p := pg .rtc
  let m := d.fld p F.RTC.ALARM_CFG_MATCH
  let t := d.calTime
  let ok := fun (i a b : Nat) => !bitAt m i || a == b
  ok 0 t.sec (d.fld p F.RTC.ALARM_TIME_SEC) && ok 1 t.min (d.fld p F.RTC.ALARM_TIME_MIN) &&
  ok 2 t.hour (d.fld p F.RTC.ALARM_TIME_HOUR) && ok 3 (d.fld p F.RTC.DATE_WDAY) (d.fld p F.RTC.ALARM_TIME_WDAY) &&
  ok 4 t.day (d.fld p F.RTC.ALARM_DATE_DAY) && ok 5 t.month (d.fld p F.RTC.ALARM_DATE_MONTH)

/-- The linear alarm's condition (R382). -/
def linReached (d : Dev) : Bool :=
  decide (sub32 (d.reg (pg .rtc) R.RTC.LINEAR).toNat (d.reg (pg .rtc) R.RTC.ALARM_LIN).toNat < 2147483648)

/-- The alarms evaluated after a roll-over or an accepted commit (R381–R383). -/
def alarms (d : Dev) : Dev :=
  let p := pg .rtc
  if d.calValid then
    let armed := d.flag p F.RTC.ALARM_CFG_CAL_EN
    let m := armed && d.calMatches
    let fire := m && !d.cel.calMatch
    let lin := d.flag p F.RTC.ALARM_CFG_LIN_EN && d.linReached
    let d := d.modCel (fun c => { c with calMatch := m })
    let d := if fire then d.alarmFires F.RTC.FLAGS_CAL_ALARM 5 (d.flag p F.RTC.ALARM_CFG_CAL_WAKE)
        (d.flag p F.RTC.ALARM_CFG_CAL_PWRON) else d
    if lin then
      (d.alarmFires F.RTC.FLAGS_LIN_ALARM 6 (d.flag p F.RTC.ALARM_CFG_LIN_WAKE)
        (d.flag p F.RTC.ALARM_CFG_LIN_PWRON)).setFlag p F.RTC.ALARM_CFG_LIN_EN false
    else d
  else d

/-- A second roll-over (R370, R371, R376, R381). -/
def secondRollover (d : Dev) : Dev :=
  let p := pg .rtc
  let t := d.calTime
  let d := d.setCal t.next
  let d := if t = ⟨59, 59, 23, 31, 12, 399⟩ then d.setFlag p F.RTC.FLAGS_EPOCH_WRAP true else d
  let d := if d.calValid then d.setLinear (d.linear + 1) else d
  d.alarms

/-- CMD.COMMIT (R374). -/
def commit (d : Dev) : Dev := d.setFlag (pg .rtc) F.RTC.STATUS_COMMIT_PEND true

/-- The 1/1,024 s boundary at which a pending commit is checked and taken or rejected (R372, R374, R375). -/
def commitApply (d : Dev) : Dev :=
  let p := pg .rtc
  if d.flag p F.RTC.STATUS_COMMIT_PEND then
    let t := d.stageTime
    let d := d.setFlag p F.RTC.STATUS_COMMIT_PEND false
    if t.ok then
      let first := !d.calValid
      let delta : Int := (t.seconds : Int) - (d.linear : Int)
      let d := (d.setCal t).setLinear t.seconds
      let d := d.setReg p R.RTC.SET_DELTA
        (BitVec.ofNat 32 (if first then 0 else ofSigned 32 (clampI delta (-2147483647) 2147483647)))
      let d := (d.setFlag p F.RTC.STATUS_CAL_VALID true).bump p R.RTC.COMMITS
      (d.event p F.RTC.EVENT_COMMITTED).alarms
    else
      ((d.setFlag p F.RTC.FLAGS_DATE_ERR true).event p F.RTC.EVENT_REJECTED).bump p R.RTC.REJECTS
  else d

/-- A read of SEC by a master of class `bank`, in step `sub` of the second: the shadow, and what the read returns (R373). -/
def secLatch (d : Dev) (bank sub : Nat) : Dev :=
  let p := pg .rtc
  let d := d.setFld p F.RTC.SEC_SUB sub
  d.each [R.RTC.SEC, R.RTC.TIME, R.RTC.DATE, R.RTC.LINEAR, R.RTC.LINEAR_HI] (fun d o => d.setReg p o (d.reg p o) bank)

/-! ## Rate (R377–R380) -/

/-- XTAL32 has had no edge for 4 ms (R377). -/
def x32Loss (d : Dev) : Dev :=
  let p := pg .rtc
  let d := ((d.setFlag p F.RTC.STATUS_ON_RC true).setFlag p F.RTC.FLAGS_X32_FAIL true).event p F.RTC.EVENT_X32_FAIL
  d.modCel (fun c => { c with x32At := d.now, meas := { c.meas with onRc := true } })

/-- XTAL32 has run for 1 s without a missing edge (R377). -/
def x32Recovery (d : Dev) : Dev :=
  if d.cel.x32At + 400000000 ≤ d.now then d.setFlag (pg .rtc) F.RTC.STATUS_ON_RC false else d

/-- TRIM written: acc returns to 0 (R378). -/
def setTrim (d : Dev) (v : Int) : Dev :=
  (d.setFld (pg .rtc) F.RTC.TRIM_PPM (ofSigned 16 v)).modCel (fun c => { c with trimAcc := 0 })

/-- The boundary at which acc reaches 10^7: a tick is counted twice or skipped (R378). -/
def trimCorrection (d : Dev) : Dev :=
  let inc := (d.sfld (pg .rtc) F.RTC.TRIM_PPM).natAbs * 32
  if inc = 0 ∨ d.flag (pg .rtc) F.RTC.STATUS_ON_RC then d
  else
    let acc := d.cel.trimAcc
    let n := (10000000 - acc + inc - 1) / inc
    (d.bump (pg .rtc) R.RTC.CORRECTIONS).modCel (fun c => { c with trimAcc := acc + n * inc - 10000000 })

/-- The measurement beside its registers changed. -/
def modMeas (d : Dev) (f : MeasS → MeasS) : Dev := d.modCel (fun c => { c with meas := f c.meas })

/-- CMD.MEAS_START (R379). -/
def measStart (d : Dev) : Dev :=
  if d.flag (pg .rtc) F.RTC.STATUS_MEAS_RUN then d
  else (d.setFlag (pg .rtc) F.RTC.STATUS_MEAS_RUN true).modMeas (fun _ => {})

/-- The grid reference is good: ACTIVE is TRACKED, PLL_LOCK is 1 and the device is in BOOT, READY, RUN or SAFE (R379,
R380). -/
def gridGood (d : Dev) : Bool :=
  let p := pg .timebase
  d.flag p F.HDR.CTRL_ENABLE && d.fld p F.TIMEBASE.SRC_STATUS_ACTIVE == 1 && d.flag p F.TIMEBASE.SRC_STATUS_PLL_LOCK &&
  decide (2 ≤ d.state) && decide (d.state ≤ 5)

/-- An interval opens. -/
def measOpen (d : Dev) (ref tick : Nat) : Dev :=
  d.modMeas (fun _ => { opened := true, onRc := d.flag (pg .rtc) F.RTC.STATUS_ON_RC,
                        folio := d.reg (pg .timebase) R.TIMEBASE.FOLIO, ref := ref, tick := tick })

/-- Angle 0: a grid interval opens where none is open and the reference is good (R379). -/
def measAngle0 (d : Dev) : Dev :=
  let p := pg .rtc
  if d.flag p F.RTC.STATUS_MEAS_RUN ∧ d.fld p F.RTC.MEAS_CFG_SRC = 0 ∧ !d.cel.meas.opened ∧ d.gridGood then
    d.measOpen 0 0 else d

/-- A capture by source `src` of reference time `ref` in ns at raw tick count `tick`, in units of 1/65,536 tick: it opens an
interval, ends it, or is ignored (R379). -/
def measCapture (d : Dev) (src tick ref : Nat) : Dev :=
  let p := pg .rtc
  if d.flag p F.RTC.STATUS_MEAS_RUN ∧ d.fld p F.RTC.MEAS_CFG_SRC = src then
    if !d.cel.meas.opened then d.measOpen ref tick
    else if d.cel.meas.ref < ref ∧ ref - d.cel.meas.ref < d.fld p F.RTC.MEAS_CFG_MIN_SPAN * 10000000000 then d
    else d.modMeas (fun m => { m with due := some (ref, tick) })
  else d

/-- The host reference time of NREF_SEC and NREF_NS in ns. -/
def nref (d : Dev) : Nat := d.fld (pg .rtc) F.RTC.NREF_SEC_SEC * 1000000000 + d.fld (pg .rtc) F.RTC.NREF_NS_NS

/-- A measurement ends with a code, and with its result where there is one (R380). -/
def measEnd (d : Dev) (code : Nat) (ppm : Option Int) : Dev :=
  let p := pg .rtc
  let d := d.bump p R.RTC.MEASUREMENTS
  let d := match ppm with
    | some v => let r := d.fit 16 (-32768) 32767 v; r.2.setFld p F.RTC.MEAS_RESULT_PPM r.1
    | none => d
  let d := (d.setFld p F.RTC.MEAS_RESULT_END code).setFlag p F.RTC.MEAS_RESULT_VALID (code == 1)
  let d := d.event p (if code = 1 then F.RTC.EVENT_MEAS_DONE else F.RTC.EVENT_MEAS_ABORT)
  match ppm with
  | some v =>
    if code = 1 ∧ d.flag p F.RTC.MEAS_CFG_AUTO then
      let t := clampI (-v) (-2000) 2000
      let d := if t = -v then d else d.event p F.RTC.EVENT_RANGE
      d.setTrim t
    else d
  | none => d

/-- END code of an interval that gave result `v` (R380). -/
def measCode (d : Dev) (v : Int) : Nat := if d.cel.meas.onRc then 5 else if 5000 < v.natAbs then 3 else 1

/-- An interval ends; for the grid, `n` raw ticks have been counted in it, in units of 1/65,536 tick (R379, R380). -/
def measIntervalEnd (d : Dev) (n : Nat) : Dev :=
  let p := pg .rtc
  let m := d.cel.meas
  if d.flag p F.RTC.STATUS_MEAS_RUN ∧ m.opened then
    if d.fld p F.RTC.MEAS_CFG_SRC = 0 then
      let w := 2 ^ d.fld p F.RTC.MEAS_CFG_WIN_LOG
      if m.lost ∨ !d.gridGood then (d.measEnd 2 none).modMeas (fun _ => {})
      else if sub32 (d.reg (pg .timebase) R.TIMEBASE.FOLIO).toNat m.folio.toNat < w then d
      else
        let f := if d.flag p F.RTC.MEAS_CFG_NOM then 60 else 50
        let v := divRound (((n * f : Nat) : Int) * 10000000 - ((w * 32768 * 65536 : Nat) : Int) * 10000000) (w * 32768 * 65536)
        (d.measEnd (d.measCode v) (some v)).measOpen 0 0
    else
      match m.due with
      | none => d
      | some (ref, tick) =>
        if ref ≤ m.ref then (d.measEnd 4 none).measOpen ref tick
        else
          let dr := ref - m.ref
          let dt : Int := (tick : Int) - (m.tick : Int)
          let v := divRound (dt * 10000000000000000 - (dr : Int) * 10000000 * 2147483648) (dr * 2147483648)
          (d.measEnd (d.measCode v) (some v)).measOpen ref tick
  else d

/-- CMD.MEAS_STOP (R380). -/
def measStop (d : Dev) : Dev :=
  if d.flag (pg .rtc) F.RTC.STATUS_MEAS_RUN then
    ((d.setFlag (pg .rtc) F.RTC.STATUS_MEAS_RUN false).measEnd 6 none).modMeas (fun _ => {})
  else d

end Dev
end Sys2Proof.Machine
end

