-- ==== Sys2Proof/Machine/FaultColl.lean ====
section
/-!
DEFINITION. The fault collector and the Scaolo island (R396–R429): recording, history and first fault, recovery, reaction
checks and the backup reaction, comparisons, stop-line tests, self-tests, arming. Raising a source and its reaction are in
Machine/React.lean; leaving SAFE and device resets are in Machine/Power.lean.
-/
namespace Sys2Proof.Machine

namespace Dev

/-- The collector and the island changed. -/
def modFc (d : Dev) (f : FaultS → FaultS) : Dev := { d with fc := f d.fc }

/-- A source that some page raises: bits 9 to 15 of SCAOLO are reserved and never raised (R396, R417). -/
def sourceRaised (s : Nat) : Bool :=
  match sourceOf s with
  | some (.scaolo, _, b) => decide (b ≤ 8)
  | some _ => true
  | none => false

/-- A source becomes active, ends, or is an instant (R397, R399). -/
def faultEvent (d : Dev) (s : Nat) (h : Happening) (detail : Nat) : Dev :=
  match sourceOf s with
  | some (k, i, b) =>
    if sourceRaised s then
      match h with
      | .begins => d.raiseLevel k i b detail
      | .ends => d.lower k i b
      | .instant => d.raise k i b detail
    else d
  | none => d

/-! ## Recording (R406–R411) -/

/-- Whether event `a` is recorded before `b` (R406). -/
def recordedFirst (a b : FaultEvent) : Bool := decide (b.sev < a.sev) || (a.sev == b.sev && decide (a.src < b.src))

/-- The event recorded next. -/
def nextRecord (d : Dev) : Option FaultEvent :=
  d.fc.pend.foldl (fun (best : Option FaultEvent) e =>
    match best with
    | none => some e
    | some b => if recordedFirst e b then some e else some b) none

/-- Number of entries written, and consumer index. -/
def histWr (d : Dev) : Nat := (d.reg (pg .fault) R.FAULT.HIST_WR).toNat

/-- Consumer index. -/
def histRd (d : Dev) : Nat := (d.reg (pg .fault) R.FAULT.HIST_RD).toNat

/-- Word `j` of entry `k`, by its place in HIST (R409). -/
def histOfs (k j : Nat) : Nat := R.FAULT.HIST + 16 * (k % 32) + 4 * j

/-- The newest unread entry of a source, looked for from entry `k` down (R408). -/
def unreadOf (d : Dev) (s : Nat) : Nat → Nat → Option Nat
  | 0, _ => none
  | n + 1, k =>
    if bitsOf (d.reg (pg .fault) (histOfs k 1)).toNat 16 9 = s then some k else unreadOf d s n (sub32 k 1)

/-- The four words of a record (R407). -/
def recordWords (e : FaultEvent) (rep eseq : Nat) : List Word :=
  [e.folio, BitVec.ofNat 32 (e.angle.toNat % 65536 + 65536 * e.src + 134217728 * e.sev), e.data,
   BitVec.ofNat 32 (rep + 65536 * eseq)]

/-- `n` repeats added to entry `k`, saturating; each counts in COALESCED (R407, R408). -/
def coalesce (d : Dev) (k n : Nat) : Dev :=
  let p := pg .fault
  let w := (d.reg p (histOfs k 3)).toNat
  (d.setReg p (histOfs k 3) (BitVec.ofNat 32 (setBits w 0 16 (min 65535 (w % 65536 + n))))).bump p R.FAULT.COALESCED n

/-- An entry written at the producer index, which advances (R406). -/
def storeEntry (d : Dev) (e : FaultEvent) : Dev :=
  let d' := (List.range 4).foldl (fun (x : Dev) j =>
    x.setReg (pg .fault) (histOfs d.histWr j) ((recordWords e 0 (d.histWr % 65536)).getD j 0)) d
  d'.bump (pg .fault) R.FAULT.HIST_WR

/-- The oldest entry lost to a new one (R409). -/
def entryLost (d : Dev) : Dev :=
  let d := ((d.bump (pg .fault) R.FAULT.HIST_RD).bump (pg .fault) R.FAULT.OVERRUN).setFlag (pg .fault) F.FAULT.STATUS_LOST true
  d.raise .fault 0 B.FAULT.FC_OVERRUN ((d.reg (pg .fault) R.FAULT.OVERRUN).toNat % 65536)

/-- A new entry, and the overrun that it may cause (R409). -/
def newEntry (d : Dev) (e : FaultEvent) : Dev :=
  if 32 ≤ sub32 d.histWr d.histRd then (d.storeEntry e).entryLost else d.storeEntry e

/-- The first fault (R410). -/
def firstFault (d : Dev) (e : FaultEvent) : Dev :=
  let p := pg .fault
  if !e.again ∧ d.fld p F.FAULT.CFG_FF_MIN ≤ e.sev ∧ !d.flag p F.FAULT.STATUS_FF_VALID then
    let ws := recordWords e 0 (d.histWr % 65536)
    let d := (List.range 4).foldl (fun (d : Dev) j => d.setReg p (R.FAULT.FF + 4 * j) (ws.getD j 0)) d
    d.setFlag p F.FAULT.STATUS_FF_VALID true
  else d

/-- The newest unread entry of a source. -/
def unreadEntry (d : Dev) (src : Nat) : Option Nat :=
  d.unreadOf src (min 32 (sub32 d.histWr d.histRd)) (sub32 d.histWr 1)

/-- An event entered: into the unread entry of its source where there is one, else as a new entry (R407, R408). -/
def enterRecord (d : Dev) (e : FaultEvent) : Dev :=
  match d.unreadEntry e.src with
  | some k => d.coalesce k 1
  | none => d.newEntry e

/-- The repeats that waited with an event, coalesced into its entry (R408). -/
def addRepeats (d : Dev) (src n : Nat) : Dev :=
  if n = 0 then d
  else match d.unreadEntry src with
    | some k => d.coalesce k n
    | none => d

/-- An event taken from the pending set, with its repeats (R406). -/
def takePending (d : Dev) (src : Nat) : Dev :=
  d.modFc (fun f => { f with pend := f.pend.filter (fun x => x.src != src), reps := f.reps.filter (fun x => x.1 != src) })

/-- One pending event is recorded, with the repeats that wait behind it (R406–R410). -/
def historyRecord (d : Dev) : Dev :=
  match d.nextRecord with
  | none => d
  | some e =>
    let n := (d.fc.reps.lookup e.src).getD 0
    ((((d.takePending e.src).firstFault e).enterRecord e).addRepeats e.src n)

/-- Whether a write of HIST_RD is accepted (R409). -/
def histRdOk (d : Dev) (w : Word) : Bool := decide (sub32 w.toNat d.histRd ≤ sub32 d.histWr d.histRd)

/-! ## Commands of the FAULT page (R410, R413, R427) -/

/-- CLR_FF. -/
def clrFf (d : Dev) : Dev := d.setFlag (pg .fault) F.FAULT.STATUS_FF_VALID false

/-- CLR_RECOV (R413). -/
def clrRecov (d : Dev) : Dev :=
  ((d.setFlag (pg .fault) F.FAULT.STATUS_RECOV_LATCHED false).setFlag (pg .fault) F.FAULT.RECOV_STATUS_LATCHED
    false).setFld (pg .fault) F.FAULT.RECOV_STATUS_COUNT 0

/-- CLR_LOST. -/
def clrLost (d : Dev) : Dev := d.setFlag (pg .fault) F.FAULT.STATUS_LOST false

/-- INJECT (R427). -/
def inject (d : Dev) (s : Nat) : Dev := if d.state = 4 then d else d.faultEvent s .instant 0

/-- What FAULT.CMD does with its key (R427). -/
def faultCmd (d : Dev) (w : Word) : Dev :=
  if bitsOf w.toNat 16 16 = 0x3C5F then
    match bitsOf w.toNat 0 4 with
    | 1 => d.clrFf
    | 2 => d.clrRecov
    | 3 => d.clrLost
    | 4 => d.inject (bitsOf w.toNat 4 9)
    | _ => d
  else d

/-! ## Recovery (R412, R413) -/

/-- An automatic recovery is counted; the first one opens the window (R413). -/
def countRecovery (d : Dev) : Dev :=
  let p := pg .fault
  let c := d.fld p F.FAULT.RECOV_STATUS_COUNT
  let d := if c = 0 then d.modFc (fun f => { f with windowFrom := d.now }) else d
  ((d.setFld p F.FAULT.RECOV_STATUS_COUNT (c + 1)).bump p R.FAULT.RECOVERIES).event p F.FAULT.EVENT_RECOVERED

/-- The recovery window ends WINDOW s after it opened (R413). -/
def recovWindowEnd (d : Dev) : Dev :=
  if d.fc.windowFrom + 400000000 * d.fld (pg .fault) F.FAULT.RECOV_CFG_WINDOW ≤ d.now then
    d.setFld (pg .fault) F.FAULT.RECOV_STATUS_COUNT 0
  else d

/-- The recovery limit has been reached: RECOV_LATCHED (R413). -/
def latchRecovery (d : Dev) : Dev :=
  (d.setFlag (pg .fault) F.FAULT.STATUS_RECOV_LATCHED true).setFlag (pg .fault) F.FAULT.RECOV_STATUS_LATCHED true

/-! ## Severities (R398, R415) -/

/-- The word of SEV that a write leaves: each field that lies between its minimum and 5 is taken (R398). -/
def sevTaken (w old new : Nat) : Nat :=
  (List.range 8).foldl (fun (acc : Nat) j =>
    let v := bitsOf new (4 * j) 3
    if (sevPairOf (8 * w + j)).2 ≤ v ∧ v ≤ 5 then setBits acc (4 * j) 3 v else acc) old

/-- A write of SEV[w], with LOCK not set: both copies (R398, R415). -/
def sevWrite (d : Dev) (w : Nat) (v : Word) : Dev :=
  let p := pg .fault
  let o := R.FAULT.SEV + 4 * w
  let new := sevTaken w (d.reg p o).toNat v.toNat
  let want := v.toNat &&& 0x77777777
  let d := d.setReg p o (BitVec.ofNat 32 new)
  let d := d.modFc (fun f => { f with sevCopy := (w, BitVec.ofNat 32 new) :: f.sevCopy.filter (fun e => e.1 != w) })
  if new = want then d else d.event p F.FAULT.EVENT_RANGE

/-- Scaolo's copy of SEV[w]. -/
def sevCopyWord (d : Dev) (w : Nat) : Word := (d.fc.sevCopy.lookup w).getD (BitVec.ofNat 32 (sevWord false w))

/-- LOCK of the FAULT page is set: CONFIG_CRC (R415). -/
def configCrc (d : Dev) : Dev :=
  d.setReg (pg .scaolo) R.SCAOLO.CONFIG_CRC (BitVec.ofNat 32
    (Crc.crc32 ((List.range 48).flatMap (fun w => Crc.wordBytes (d.sevCopyWord w)))))

/-- One pass of the comparison: `upset` names a word that storage shows to differ (R415). -/
def configCompare (d : Dev) (upset : Option Nat) : Dev :=
  let own := (List.range 48).find? (fun w => d.sevCopyWord w != d.reg (pg .fault) (R.FAULT.SEV + 4 * w))
  match upset.or own with
  | some w => d.raiseLevel .scaolo 0 B.SCAOLO.ISL_CONFIG w
  | none => d.lower .scaolo 0 B.SCAOLO.ISL_CONFIG

/-! ## Reaction check and backup (R416) -/

/-- The backup reaction: gate pads disabled, ALIVE and FAULT_N low, DISCH high (R416). -/
def backupReaction (d : Dev) (failed : Nat) : Dev :=
  let d := (d.modFc (fun f => { f with backup := true, resetDue := false })).setFlag (pg .scaolo)
    F.SCAOLO.ISL_STATUS_BACKUP true
  let d := (d.setFlag (pg .disch) F.DISCH.STATUS_BALL true).bump (pg .scaolo) R.SCAOLO.BACKUPS
  let d := { d with disch := { d.disch with on := true } }
  d.raiseLevel .scaolo 0 B.SCAOLO.ISL_REACTION failed

/-- What a check of R416 finds wrong, given the readbacks: 1 tiles, 2 ALIVE, 4 FAULT_N, 8 DISCH. -/
def checkFailed (d : Dev) (aliveLow faultnLow dischHigh : Bool) : Nat :=
  b2n ((List.range 24).any (fun n => d.tstate n == 3)) + 2 * b2n (!aliveLow) + 4 * b2n (!faultnLow) + 8 * b2n (!dischHigh)

/-- Whether the oldest check is due: 1,800 island clocks after its event, which last 35,643 clocks where ISLRC runs 1 % fast (R330,
R416). -/
def checkDue (d : Dev) : Bool :=
  match d.fc.checks with
  | t :: _ => decide (t + 35643 ≤ d.now)
  | [] => false

/-- The oldest check is made. A failed one refuses a waiting SYS.CMD RESET (R416). -/
def reactionCheck (d : Dev) (aliveLow faultnLow dischHigh : Bool) : Dev :=
  if !d.checkDue then d
  else
    let bad := d.checkFailed aliveLow faultnLow dischHigh
    let d := d.modFc (fun f => { f with checks := f.checks.tail })
    if bad = 0 then d
    else
      let d := if d.fc.cmdReset then (d.modFc (fun f => { f with cmdReset := false })).refuseCmd 0x20 else d
      d.backupReaction bad

/-! ## Island checks (R404, R405, R415, R417) -/

/-- The two copies of the island logic differ, or agree. -/
def islandCompare (d : Dev) (differ : Bool) : Dev := d.level .scaolo 0 B.SCAOLO.ISL_COMPARE differ

/-- A comparison of the references; `diff` in 0.1 % (R417). -/
def referenceCompare (d : Dev) (diff : Nat) : Dev :=
  let run := if 20 < diff then d.fc.refDiffs + 1 else 0
  let d := d.modFc (fun f => { f with refDiffs := run })
  if run = 0 then d.lower .scaolo 0 B.SCAOLO.ISL_REF
  else if 3 ≤ run then d.raiseLevel .scaolo 0 B.SCAOLO.ISL_REF diff
  else d

/-- A readback source: raised once the ball has differed from its command for 10 µs, lowered as it follows it again. -/
def readback (d : Dev) (b : Nat) (differs : Bool) (us : Nat) : Dev :=
  if !differs then d.lower .scaolo 0 b else if 10 ≤ us then d.raiseLevel .scaolo 0 b else d

/-- The ALIVE ball has differed from its command for `us` µs, or follows it (R404). -/
def aliveReadback (d : Dev) (differs : Bool) (us : Nat) : Dev := d.readback B.SCAOLO.ISL_ALIVE_RB differs us

/-- The FAULT_N ball has read high for `us` µs, or reads low; it is checked while FAULT_N is asserted (R405). -/
def faultnReadback (d : Dev) (high : Bool) (us : Nat) : Dev := d.readback B.SCAOLO.ISL_FAULTN_RB (high && d.faultN) us

/-! ## Stop-line tests and self-tests (R418–R420) -/

/-- The stop line of tile `n` is due for a test: INTERVAL ms after its last one with EN, and once after every entry into BOOT. A tile
in SWITCHING is tested later. DEDUCED: the test at the entry into BOOT does not need EN, which that entry clears (R418; log entry 43). -/
def pathTestDue (d : Dev) (n : Nat) : Bool :=
  let p := pg .scaolo
  d.tstate n != 3 && ((d.state == 2 && !vget d.fc.ptBoot n false) || (d.flag p F.SCAOLO.PATHTEST_CFG_EN &&
    decide (vget d.fc.ptLast n 0 + 400000 * d.fld p F.SCAOLO.PATHTEST_CFG_INTERVAL ≤ d.now)))

/-- A stop-line test, with the tile's acknowledgement (R418). -/
def pathTest (d : Dev) (n : Nat) (ack : Bool) : Dev :=
  if d.pathTestDue n then
    let d := (d.bump (pg .scaolo) R.SCAOLO.PATHTESTS).modFc (fun f => { f with
      ptLast := vmod f.ptLast n (fun _ => d.now), ptBoot := vmod f.ptBoot n (fun _ => true) })
    if ack then d else d.raise .scaolo 0 B.SCAOLO.ISL_PATHTEST n
  else d

/-- Milliseconds since the tile tested longest ago was tested (R418). -/
def ptAge (d : Dev) : Nat :=
  min 65535 (d.fc.ptLast.toList.foldl (fun (m : Nat) t => max m ((d.now - t) / 400000)) 0)

/-- The result of ISL_BIST (R419). -/
def islBist (d : Dev) (pass : Bool) : Dev :=
  let d := d.setFlag (pg .scaolo) ⟨R.SCAOLO.SELFTEST, 0, 1⟩ pass
  if pass then d else d.raiseLevel .scaolo 0 B.SCAOLO.ISL_SELFTEST 1

/-- The start-up self-tests begin, at the end of UP or WAKE. ISL_SELFTEST of an earlier run ends, but for that of a failed ISL_BIST
(R419, R420). -/
def selftestRun (d : Dev) : Dev :=
  if d.state = 2 ∧ (d.phase = 0 ∨ d.phase = 9) ∧ !d.fc.selftestRun ∧ !d.seq.upDue then
    let keep := d.fld (pg .scaolo) ⟨R.SCAOLO.SELFTEST, 0, 1⟩
    let d := d.setReg (pg .scaolo) R.SCAOLO.SELFTEST (BitVec.ofNat 32 keep)
    let d := if keep = 1 then d.lower .scaolo 0 B.SCAOLO.ISL_SELFTEST else d
    d.modFc (fun f => { f with selftestRun := true })
  else d

/-- The tests that failed, one bit each (R419): of `failed` those that no other bit decides; ISL_BIST by its kept bit, OTP_TRIM by the
trims that failed, TILE_CAL where no tile has a valid table (R111). -/
def testsFailed (d : Dev) (failed trims : Nat) : Nat :=
  let f := setBits (failed % 1024) 0 1 (1 - d.fld (pg .scaolo) ⟨R.SCAOLO.SELFTEST, 0, 1⟩)
  let f := setBits f 3 1 (b2n (trims != 0))
  setBits f 7 1 (b2n ((List.range 24).all (fun n => !d.flag (pg .tile n) F.TILE.CAL_STATUS_VALID)))

/-- The check of the factory trim: bits 0 to 15 of `bad` name the fast converters whose trim failed, bit 16 the monitor (R204). -/
def trimCheck (d : Dev) (bad : Nat) : Dev :=
  let d := d.setReg (pg .cal) R.CAL.FACTORY (BitVec.ofNat 32 (0x1FFFF - bad % 0x20000))
  let d := d.each (List.range 16) (fun d c => d.level .adc c B.ADC.ADC_TRIM (bitAt bad c))
  d.level .monadc 0 B.MONADC.MON_TRIM (bitAt bad 16)

/-- The self-tests complete (R204, R419, R420). ISL_SELFTEST that is still active from an earlier run acts as a repeat. -/
def selftestDone (d : Dev) (failed trims : Nat) : Dev :=
  let p := pg .scaolo
  if d.fc.selftestRun then
    let bad := d.testsFailed failed trims
    let d := (d.modFc (fun f => { f with selftestRun := false })).trimCheck trims
    let d := (d.setFld p F.SCAOLO.SELFTEST_PASSED (1023 - bad)).setFlag p F.SCAOLO.SELFTEST_DONE true
    let d := d.event p F.SCAOLO.EVENT_SELFTEST_DONE
    if bad = 0 then
      (d.setFlag p F.SCAOLO.SELFTEST_PASS true).modFc (fun f => { f with faultnLatch := false })
    else if d.active (srcNo .scaolo 0 B.SCAOLO.ISL_SELFTEST) then
      d.refault .scaolo 0 B.SCAOLO.ISL_SELFTEST (causeWord B.SCAOLO.ISL_SELFTEST bad)
    else d.raiseLevel .scaolo 0 B.SCAOLO.ISL_SELFTEST bad
  else d

/-! ## Arming (R423) -/

/-- LOCK of a page. -/
def locked (d : Dev) (p : Nat) : Bool := bitAt (d.reg p R.HDR.LOCK).toNat 0

/-- Every source that GMASK marks has severity SAFE or RESET. -/
def gmaskSafe (d : Dev) : Bool := (List.range 384).all (fun s => !gmaskSource s || decide (4 ≤ d.sevOf s))

/-- Check 0xA for one group. -/
def phaseCheck (d : Dev) (g : Nat) : Bool :=
  let p := pg .conv g
  let per := if d.flag p F.CONV.TOPOLOGY_SYNC then (d.convS g).per else d.fld p F.CONV.CARRIER_MAX_VALUE
  d.gstate g == 0 || decide ((d.boundSlots g).length < 2) ||
    (d.flag p F.CONV.RES_CFG_EN && decide (per ≤ 800000))

/-- Check 0xA for every group. -/
def phaseChecks (d : Dev) : Bool := (List.range 8).all d.phaseCheck

/-- RESULT of an arming request (R423). -/
def armResult (d : Dev) : Nat :=
  let p := pg .scaolo
  if d.state ≠ 3 then 2
  else if !d.flag p F.SCAOLO.SELFTEST_PASS then 3
  else if !(d.locked (pg .fault) && d.locked p) then 4
  else if !d.gmaskSafe then 5
  else if !(d.flag p F.SCAOLO.ALIVE_CFG_EN && d.alive) then 6
  else if !(d.locked (pg .monadc) && (List.range 16).all (fun n => d.domState n != 2 || d.locked (pg .dom n))) then 7
  else if !(d.locked (pg .disch) && d.flag (pg .disch) F.DISCH.STATUS_CHECKED) then 8
  else if !(d.flag p F.SCAOLO.PATHTEST_CFG_EN && decide (d.fld p F.SCAOLO.PATHTEST_CFG_INTERVAL ≤ 100)) then 9
  else if !d.phaseChecks then 10
  else 1

/-- A write of ARM with bit 0 set (R423, R429). -/
def scaoloArm (d : Dev) (w : Word) : Dev :=
  let p := pg .scaolo
  if bitsOf w.toNat 16 16 = 0xA3E1 ∧ bitAt w.toNat 0 then
    let r := d.armResult
    let d := d.setFld p F.SCAOLO.ARM_STATUS_RESULT r
    if r = 1 then (d.setFlag p F.SCAOLO.ARM_STATUS_ARMED true).event p F.SCAOLO.EVENT_ARMED else d
  else d

/-- Check 0xA binds while ARMED: a write that leaves it broken is refused (R423). -/
def armedHolds (d : Dev) : Bool := !d.flag (pg .scaolo) F.SCAOLO.ARM_STATUS_ARMED || d.phaseChecks

end Dev
end Sys2Proof.Machine
end

