-- ==== Sys2Proof/Machine/Mbox.lean ====
section
/-!
DEFINITION. Mailboxes (R483–R486) and the gauge's use of its own (R300). Owner numbers: 1 host, 2 control pair, 3 service
pair, 4 debug, 5 hardware block.
-/
namespace Sys2Proof.Machine
namespace Dev

/-- STATE of a mailbox: 0 FREE, 1 LOCKED, 2 FULL. -/
def mbState (d : Dev) (n : Nat) : Nat := d.fld (pg .mbox n) F.MBOX.STATE_STATE

/-- Holder of a mailbox. -/
def mbHolder (d : Dev) (n : Nat) : Nat := d.fld (pg .mbox n) F.MBOX.STATE_HOLDER

/-- EVENT.DOORBELL follows DOORBELL and DB_MASK (R485). -/
def mbBell (d : Dev) (n : Nat) : Dev :=
  let p := pg .mbox n
  d.setFlag p F.MBOX.EVENT_DOORBELL (d.reg p R.MBOX.DOORBELL &&& d.reg p R.MBOX.DB_MASK != 0)

/-- Entry into FREE: the message words are 0 (R483). -/
def mbFree (d : Dev) (n : Nat) : Dev :=
  let p := pg .mbox n
  let d := (d.setFld p F.MBOX.STATE_STATE 0).setFld p F.MBOX.STATE_HOLDER 0
  d.each (List.range 16) (fun d i => d.setReg p (R.MBOX.MSG + 4 * i) 0)

/-- A read of LOCK by owner number `who`, and what it returns (R483). -/
def mbLockRead (d : Dev) (n who : Nat) : Dev × Nat :=
  let p := pg .mbox n
  if !d.flag p F.HDR.CTRL_ENABLE then (d, 0xF)
  else if d.mbState n = 0 then
    let d := { d with comp := { d.comp with lockAt := vmod d.comp.lockAt n (fun _ => d.now) } }
    ((d.setFld p F.MBOX.STATE_STATE 1).setFld p F.MBOX.STATE_HOLDER who, 0)
  else if d.mbHolder n = who then (d, 0)
  else (d.bump p R.MBOX.DENIED, d.mbHolder n)

/-- A write of 0 to LOCK; none where it is refused. -/
def mbRelease (d : Dev) (n who : Nat) : Option Dev :=
  if d.mbState n = 1 ∧ d.mbHolder n = who then
    some ((d.setFld (pg .mbox n) F.MBOX.STATE_LAST_HOLDER who).mbFree n)
  else none

/-- A write of MSG[i]; none where it is refused. -/
def mbMsg (d : Dev) (n who i : Nat) (w : Word) : Option Dev :=
  if d.mbState n = 1 ∧ d.mbHolder n = who then some (d.setReg (pg .mbox n) (R.MBOX.MSG + 4 * i) w) else none

/-- A write of DB_SET; none where it is refused. SENDS counts the entry into FULL. -/
def mbDbSet (d : Dev) (n who : Nat) (w : Word) : Option Dev :=
  let p := pg .mbox n
  if (d.mbState n = 1 ∨ d.mbState n = 2) ∧ d.mbHolder n = who then
    let d := if d.mbState n = 1 then (d.setFld p F.MBOX.STATE_STATE 2).bump p R.MBOX.SENDS else d
    some ((d.setReg p R.MBOX.DOORBELL (d.reg p R.MBOX.DOORBELL ||| w)).mbBell n)
  else none

/-- A write of 1 to DONE; none where it is refused. -/
def mbDone (d : Dev) (n who : Nat) : Option Dev :=
  let p := pg .mbox n
  if d.mbState n = 2 ∧ d.mbHolder n ≠ who then
    let d := (d.setFld p F.MBOX.STATE_LAST_HOLDER (d.mbHolder n)).setReg p R.MBOX.DOORBELL 0
    let d := ((d.mbBell n).event p F.MBOX.EVENT_EMPTIED).bump p R.MBOX.EMPTIES
    some (d.mbFree n)
  else none

/-- A mailbox that has been LOCKED for TIMEOUT ms (R486). -/
def mbTimeout (d : Dev) (n : Nat) : Dev :=
  let p := pg .mbox n
  let ms := d.fld p F.MBOX.CFG_TIMEOUT
  if d.mbState n = 1 ∧ ms ≠ 0 ∧ vget d.comp.lockAt n 0 + 400000 * ms ≤ d.now then
    let who := d.mbHolder n
    let d := ((d.mbFree n).event p F.MBOX.EVENT_LOCK_EXPIRED).bump p R.MBOX.EXPIRIES
    d.raise .mbox n B.MBOX.MBOX_LOCK who
  else d

/-- The holder of a mailbox ceases to exist: as the timeout, but without the fault (R486). -/
def mbOrphan (d : Dev) (who : Nat) (l : List Nat) : Dev :=
  d.each (l.filter (fun n => d.mbState n != 0 && d.mbHolder n == who)) (fun d n =>
    let p := pg .mbox n
    let d := (d.setReg p R.MBOX.DOORBELL 0).mbBell n
    ((d.mbFree n).event p F.MBOX.EVENT_LOCK_EXPIRED).bump p R.MBOX.EXPIRIES)

/-- The holder of a mailbox is a pair, as INT_ROUTE names pairs. -/
def pairOwner (i : Nat) : Nat := i + 2

/-- Request line of MBOX[n] toward controller `i` (R485). -/
def mbLine (d : Dev) (n i : Nat) : Bool :=
  let p := pg .mbox n
  let mask := (d.reg p R.HDR.EVENT_MASK).toNat
  let ev := (d.reg p R.HDR.EVENT).toNat
  let other := (ev &&& mask) &&& (4294967295 - 0x300)
  let route := bitAt (d.reg p R.HDR.INT_ROUTE).toNat i
  (route && other != 0) ||
  (route && bitAt ev 8 && bitAt mask 8 && d.mbHolder n != pairOwner i) ||
  (bitAt ev 9 && bitAt mask 9 && d.fld p F.MBOX.STATE_LAST_HOLDER == pairOwner i)

/-- The mailbox of the gauge (R299). -/
def gaugeBox (d : Dev) : Nat := d.fld (pg .gauge) F.GAUGE.CFG_MBOX

/-- A pending record written into the mailbox once its lock is obtained, and the doorbell rung (R300). -/
def recordPublish (d : Dev) : Dev :=
  let g := pg .gauge
  let n := d.gaugeBox
  let p := pg .mbox n
  if d.flag g F.GAUGE.STATUS_PENDING ∧ d.fld g F.GAUGE.STATUS_GSTATE = 3 ∧ d.flag p F.HDR.CTRL_ENABLE ∧ d.mbState n = 0 then
    let d := (d.setFld p F.MBOX.STATE_STATE 2).setFld p F.MBOX.STATE_HOLDER 5
    let rec' := d.gauge.record
    let d := d.each (List.range 16) (fun d i => d.setReg p (R.MBOX.MSG + 4 * i) (rec'.getD i 0))
    let bell := d.fld g F.GAUGE.PUB_CFG_DOORBELL
    let d := (d.setReg p R.MBOX.DOORBELL (d.reg p R.MBOX.DOORBELL ||| BitVec.ofNat 32 (2 ^ bell))).mbBell n
    ((d.bump p R.MBOX.SENDS).bump g R.GAUGE.PUBLISHED).event g F.GAUGE.EVENT_PUBLISH
  else d

end Dev
end Sys2Proof.Machine
end

