-- ==== Sys2Proof/Machine/Intc.lean ====
section
/-!
DEFINITION. The interrupt controllers (R477–R482) and how a pair takes an interrupt or rests in WFI.
-/
namespace Sys2Proof.Machine
/-- Trap entry of the privileged specification: mepc, mcause, mtval and mstatus written, machine mode entered. -/
def CoreS.trap (c : CoreS) (cause tval pc : Word) : CoreS :=
  let ms := c.mstatus
  let ms := setBits ms 7 1 (bitsOf ms 3 1)
  let ms := setBits (setBits ms 3 1 0) 11 2 (if c.mach then 3 else 0)
  { c with mepc := c.pc.toNat, mcause := cause, mtval := tval, mstatus := ms, mach := true, pc := pc }

/-- mcycle at a clock (R466). -/
def CoreS.cycles (c : CoreS) (now : Nat) : Nat :=
  (c.cycle + (match c.cycAt with | some t => now - t | none => 0)) % 18446744073709551616

/-- mcycle counts from now on, or stands. -/
def CoreS.clockCycles (c : CoreS) (now : Nat) (on : Bool) : CoreS :=
  { c with cycle := c.cycles now, cycAt := if on then some now else none }

/-- mcycle written. -/
def CoreS.setCycles (c : CoreS) (now v : Nat) : CoreS := { c with cycle := v, cycAt := c.cycAt.map (fun _ => now) }

namespace Dev

/-- A source that exists (R477). -/
def intSource (s : Nat) : Bool := (decide (s < 0xE0) && (pageOf s).isSome) || (decide (0xE0 ≤ s) && decide (s ≤ 0xF0))

/-- Request line of source `s` toward controller `i`. Software sources and TICK give edges only. -/
def intLine (d : Dev) (i s : Nat) : Bool :=
  match (if s < 0xE0 then pageOf s else none) with
  | some ⟨.mbox, n⟩ => d.mbLine n i
  | some _ => bitAt (d.reg s R.HDR.INT_ROUTE).toNat i && (d.reg s R.HDR.EVENT &&& d.reg s R.HDR.EVENT_MASK != 0)
  | none => false

/-- PRIO of a source. -/
def prio (d : Dev) (i s : Nat) : Nat := d.fld (pg .intc i) ⟨R.INTC.PRIO + 4 * (s / 8), 4 * (s % 8), 4⟩

/-- PENDING of a source. -/
def intPending (d : Dev) (i s : Nat) : Bool := d.flag (pg .intc i) ⟨R.INTC.PENDING + 4 * (s / 32), s % 32, 1⟩

/-- ACTIVE of a source. -/
def intActive (d : Dev) (i s : Nat) : Bool := d.flag (pg .intc i) ⟨R.INTC.ACTIVE + 4 * (s / 32), s % 32, 1⟩

/-- PENDING set or cleared. -/
def setPend (d : Dev) (i s : Nat) (on : Bool) : Dev := d.setFlag (pg .intc i) ⟨R.INTC.PENDING + 4 * (s / 32), s % 32, 1⟩ on

/-- ACTIVE set or cleared. -/
def setAct (d : Dev) (i s : Nat) (on : Bool) : Dev := d.setFlag (pg .intc i) ⟨R.INTC.ACTIVE + 4 * (s / 32), s % 32, 1⟩ on

/-- A rising edge of a request line (R478). -/
def intEdge (d : Dev) (i s : Nat) : Dev :=
  if d.prio i s = 0 ∨ !intSource s then d
  else if d.intPending i s || d.intActive i s then
    (d.bumpFldSat (pg .intc i) ⟨R.INTC.LOST + 4 * (s / 4), 8 * (s % 4), 8⟩).bump (pg .intc i) R.INTC.LOST_TOTAL
  else d.setPend i s true

/-- A rising edge of a page's line, which is then high (R477, R478). -/
def interruptEdge (d : Dev) (i s : Nat) : Dev := if d.intLine i s then d.intEdge i s else d

/-- The level stack of a controller. -/
def intStack (d : Dev) (i : Nat) : List Nat := vget d.comp.stack i []

/-- The level stack changed, with LEVEL (R479, R480). -/
def setStack (d : Dev) (i : Nat) (l : List Nat) : Dev :=
  let d := { d with comp := { d.comp with stack := vmod d.comp.stack i (fun _ => l) } }
  d.setReg (pg .intc i) R.INTC.LEVEL (match l with
    | [] => 0
    | s :: _ => BitVec.ofNat 32 (d.prio i s + 16 * l.length + 256 * s))

/-- The pending source with the highest PRIO, the lowest number among equals (R479). -/
def intWinner (d : Dev) (i : Nat) : Option Nat :=
  ((List.range 8).flatMap (fun w =>
      let v := (d.reg (pg .intc i) (R.INTC.PENDING + 4 * w)).toNat
      if v = 0 then [] else (numbers 32 (bitAt v)).map (fun b => 32 * w + b))).foldl
    (fun (best : Option Nat) s => match best with
      | none => some s
      | some b => if d.prio i b < d.prio i s then some s else some b) none

/-- The winner, if its PRIO passes LEVEL and THRESH. -/
def intReady (d : Dev) (i : Nat) : Option Nat :=
  (d.intWinner i).filter (fun s => decide (d.fld (pg .intc i) F.INTC.LEVEL_LEVEL < d.prio i s) &&
    decide (d.fld (pg .intc i) F.INTC.THRESH_THRESH < d.prio i s))

/-! ## Pairs (R465, R471, R481) -/

/-- A pair's architectural state. -/
def coreS (d : Dev) (i : Nat) : CoreS := vget d.comp.core i {}

/-- A pair's architectural state changed. -/
def modCore (d : Dev) (i : Nat) (f : CoreS → CoreS) : Dev :=
  { d with comp := { d.comp with core := vmod d.comp.core i f } }

/-- PAIR_STATUS of a pair: 0 reset, 1 running, 2 in WFI, 3 halted (R490). -/
def pairStatus (d : Dev) (i : Nat) : Nat := d.fld (pg .sys) ⟨R.SYS.PAIR_STATUS, 2 * i, 2⟩

/-- PAIR_STATUS changed; mcycle stands in WFI, where the pair's clock is stopped (R466, R481). -/
def setPair (d : Dev) (i n : Nat) : Dev :=
  (d.setFld (pg .sys) ⟨R.SYS.PAIR_STATUS, 2 * i, 2⟩ n).modCore i (fun c => c.clockCycles d.now (n != 2 && !bitAt c.mcountinhibit 0))

/-- A pair stopped by its comparator (R467). -/
def pairStopped (d : Dev) (i : Nat) : Bool := d.flag (pg .sys) ⟨R.SYS.PAIR_STATUS, 4 + i, 1⟩

/-- The pair executes: it runs and has not stopped. -/
def pairRuns (d : Dev) (i : Nat) : Bool := d.pairStatus i == 1 && !d.pairStopped i

/-- The winning source is delivered and the pair takes it (R479). -/
def interruptDelivery (d : Dev) (i : Nat) : Dev :=
  match d.intReady i with
  | none => d
  | some s =>
    let c := d.coreS i
    if d.pairRuns i ∧ (!c.mach ∨ bitAt c.mstatus 3) ∧ bitAt c.mie 11 then
      let p := pg .intc i
      let d := ((d.setPend i s false).setAct i s true).setStack i (s :: d.intStack i)
      let v := d.reg p (R.INTC.VECTOR + 4 * s)
      (d.bump p R.INTC.DELIVERED).modCore i (fun c => { (c.trap 0x8000000B#32 0 v) with mintsrc := s })
    else d

/-- The source completes; PENDING sets again where its line is still high (R478, R480). -/
def intComplete (d : Dev) (i s : Nat) : Dev :=
  let d := d.setAct i s false
  if d.intLine i s ∧ d.prio i s ≠ 0 then d.setPend i s true else d

/-- A write of EOI (R480). -/
def eoi (d : Dev) (i s : Nat) : Dev :=
  let st := d.intStack i
  if d.intActive i s then
    if st.head? = some s then (d.setStack i st.tail).intComplete i s
    else ((d.setStack i (st.filter (fun x => x != s))).raise .intc i B.INTC.INTC_ORDER s).intComplete i s
  else d.event (pg .intc i) F.INTC.EVENT_EOI_BAD

/-- A write of SWI (R477). -/
def swi (d : Dev) (i : Nat) (w : Word) : Dev :=
  d.each (numbers 16 (bitAt w.toNat)) (fun d b => d.intEdge i (0xE0 + b))

/-- The tick of a controller counts from a clock. -/
def setTick (d : Dev) (i t : Nat) : Dev := { d with comp := { d.comp with tickAt := vmod d.comp.tickAt i (fun _ => t) } }

/-- The TICK period, PERIOD µs, expires (R477). -/
def intTick (d : Dev) (i : Nat) : Dev :=
  let n := 400 * d.fld (pg .intc i) F.INTC.TICK_PERIOD
  let t := vget d.comp.tickAt i 0 + n
  if n = 0 ∨ d.now < t then d else (d.setTick i t).intEdge i 0xF0

/-- A write of a word of PRIO: a nonzero PRIO is refused for a source whose VECTOR reads 0, and sets PENDING while the line is
high; a reserved source never becomes pending (R477, R478, R482). -/
def prioWrite (d : Dev) (i w : Nat) (v : Word) : Dev :=
  let p := pg .intc i
  let d := d.each (List.range 8) (fun d j =>
    let s := 8 * w + j
    let n := bitsOf v.toNat (4 * j) 4
    if n ≠ 0 ∧ d.reg p (R.INTC.VECTOR + 4 * s) = 0 then d.event p F.INTC.EVENT_RANGE
    else
      let d := d.setFld p ⟨R.INTC.PRIO + 4 * w, 4 * j, 4⟩ n
      if n ≠ 0 ∧ d.intLine i s ∧ !d.intActive i s then d.setPend i s true else d)
  d.setStack i (d.intStack i)

/-- A write of VECTOR[s] (R482). -/
def vectorWrite (d : Dev) (i s : Nat) (v : Word) : Dev :=
  let p := pg .intc i
  let a := v.toNat
  let lies := decide (a < 0x40000) || Image.inSram a 1 || (i == 0 && Image.inItcm a 1)
  if (v = 0 ∧ d.prio i s ≠ 0) ∨ a % 2 = 1 ∨ !lies then d.event p F.INTC.EVENT_RANGE
  else d.setReg p (R.INTC.VECTOR + 4 * s) v

/-- A pair in WFI is restarted by an edge on a request line of its controller (R481). -/
def wfiWake (d : Dev) (i : Nat) : Dev :=
  if d.pairStatus i = 2 then (d.setPair i 1).bump (pg .intc i) R.INTC.WAKES else d

/-- A pair's comparator finds a difference: it stops, and the mailboxes that it holds return to FREE (R467, R486). A pair in reset
makes no output to compare. -/
def lockstepMismatch (d : Dev) (i : Nat) : Dev :=
  if d.pairStatus i = 0 ∨ d.pairStopped i then d else
  let d := d.setFlag (pg .sys) ⟨R.SYS.PAIR_STATUS, 4 + i, 1⟩ true
  let d := d.mbOrphan (pairOwner i) (List.range 8)
  d.raiseLevel .sys 0 (if i = 0 then B.SYS.CORE_LOCK_CTRL else B.SYS.CORE_LOCK_SVC)

end Dev
end Sys2Proof.Machine
end

