-- ==== Sys2Proof/Machine/MemEcc.lean ====
section
/-!
DEFINITION. Memory protection by check bits (R472–R476) and the secure configuration (R468, R469). Memories: 0 TCM, 1 system
SRAM, 2 frame memory.
-/
namespace Sys2Proof.Machine
namespace Dev

/-- Number of the memory that holds an address. -/
def memNo (a : Nat) : Option Nat :=
  match regionOf a 1 with
  | some .itcm => some 0
  | some .dtcm => some 0
  | some .sram => some 1
  | some .frame => some 2
  | _ => none

/-- First address of a memory. -/
def memBase (k : Nat) : Nat := if k = 0 then 0x10000000 else if k = 1 then 0x20000000 else 0x30000000

/-- The clearing of a domain's memory completes (R476). Every word has read 0 to every access since the domain entered ON. -/
def memoryClearDone (d : Dev) (n : Nat) : Dev :=
  { d with comp := { d.comp with clearDue := d.comp.clearDue.filter (fun x => x != n) } }

/-- An error recorded in ECC_LAST and ECC_LAST_INFO (R473, R490). -/
def eccLast (d : Dev) (k a cls bit : Nat) (ue scrub : Bool) : Dev :=
  (d.setReg (pg .sys) R.SYS.ECC_LAST (BitVec.ofNat 32 (a - a % 4))).setReg (pg .sys) R.SYS.ECC_LAST_INFO
    (BitVec.ofNat 32 (k + 4 * b2n ue + 8 * b2n scrub + 16 * (if ue then 0x7F else bit) + 4096 * cls))

/-- A single-bit error corrected and written back. MEM_CORR is raised as the count of the scrub period passes CORR_MAX (R473,
R475). -/
def eccCorrect (d : Dev) (k a cls bit : Nat) (scrub : Bool) : Dev :=
  let s := pg .sys
  let d := (d.eccLast k a cls bit false scrub).bump s (R.SYS.CORR_TCM + 4 * k)
  if d.fld s F.SYS.ECC_CFG_SCRUB = 0 then d
  else
    let d := { d with comp := { d.comp with corr := vmod d.comp.corr k (· + 1) } }
    if vget d.comp.corr k 0 = d.fld s F.SYS.ECC_CFG_CORR_MAX + 1 then d.raise .sys 0 B.SYS.MEM_CORR k else d

/-- An uncorrectable error (R473, R475). -/
def eccFail (d : Dev) (k a cls : Nat) (scrub : Bool) : Dev :=
  let d := (d.eccLast k a cls 0 true scrub).bump (pg .sys) R.SYS.UE_COUNT
  d.raise .sys 0 (B.SYS.MEM_UE_TCM + k) ((a - memBase k) / 4)

/-- What a read by a reader of class `cls` finds in the word at `a`, whose 39 bits are counted modulo 39 (a unit of the MRAM has
72); the flag says whether it is uncorrectable. -/
def eccRead (d : Dev) (a cls : Nat) (flaw : Flaw) (bit : Nat) : Dev × Bool :=
  match memNo a, flaw with
  | some k, .single => (d.eccCorrect k a cls (bit % 39) false, false)
  | some k, .double => (d.eccFail k a cls false, true)
  | _, _ => (d, false)

/-- A master reaches a memory: region, then secure state (R25, R469). -/
def memAllowed (d : Dev) (m : Master) (a n : Nat) (wr : Bool) : Bool :=
  d.reaches m a n wr && (!d.memSecure a || d.secure m)

/-- A read of a word of TCM, system SRAM or frame memory (R473). -/
def memoryRead (d : Dev) (r : Reader) (a : Nat) (flaw : Flaw) (bit : Nat) : Dev :=
  if !d.busLive ∨ (memNo a).isNone then d
  else
    match r with
    | .master m =>
      if a % 4 = 0 ∧ d.memAllowed m a 4 false then
        let x := d.eccRead a m.cls flaw bit
        if x.2 then { x.1 with bus := .fault } else { x.1 with bus := .data (Mem.word x.1.mem a) }
      else d.busFault m
    | .ring n =>
      if d.memSecure a then (d.busErr 5).raise .ring n B.RING.RING_BUS a
      else
        let x := d.eccRead a 5 flaw bit
        if x.2 then x.1.raise .ring n B.RING.RING_BUS a else x.1

/-- A byte or halfword store: a read-modify-write of its word, not made over an uncorrectable error (R474). -/
def subwordStore (d : Dev) (m : Master) (a n : Nat) (v : Word) (flaw : Flaw) (bit : Nat) : Dev :=
  if !d.busLive ∨ (memNo a).isNone then d
  else
    if a % n = 0 ∧ d.memAllowed m a n true then
      let x := d.eccRead a m.cls flaw bit
      if x.2 then { x.1 with bus := .fault }
      else { x.1 with mem := Mem.write x.1.mem a v.toNat n, bus := .done }
    else d.busFault m

/-- A complete scrub pass, SCRUB s long, with the errors it met (R475). -/
def scrubPass (d : Dev) (l : List ScrubError) : Dev :=
  let s := pg .sys
  let n := d.fld s F.SYS.ECC_CFG_SCRUB
  if !d.busLive ∨ n = 0 ∨ d.now < d.comp.scrubAt + 400000000 * n then d
  else
    let d := d.each l (fun d e => match memNo e.addr.toNat with
      | some k => if e.double then d.eccFail k e.addr.toNat 0xF true else d.eccCorrect k e.addr.toNat 0xF e.bit true
      | none => d)
    let d := { d with comp := { d.comp with corr := Vector.replicate 3 0, scrubAt := d.now } }
    d.bump s R.SYS.SCRUB_PASSES

/-! ## Secure configuration (R468, R469) -/

/-- The page is locked against a change of its RWL fields. -/
def lockSet (d : Dev) (p : Nat) : Bool := d.flag p F.HDR.LOCK_LOCK

/-- A write of SEC_CFG: a SECURE bit can only be cleared; TCM_SEC is RWL; only a secure master is heard. -/
def secCfgWrite (d : Dev) (m : Master) (w : Word) : Dev :=
  let s := pg .sys
  let n := w.toNat
  if !d.secure m then d.refuse m s R.SYS.SEC_CFG
  else
    let old := (d.reg s R.SYS.SEC_CFG).toNat
    let d := d.setFld s F.SYS.SEC_CFG_CTRL_SECURE (b2n (bitAt old 0 && bitAt n 0))
    let d := d.setFld s F.SYS.SEC_CFG_SVC_SECURE (b2n (bitAt old 1 && bitAt n 1))
    if bitAt n 2 = bitAt old 2 then d
    else if d.lockSet s then d.refuse m s R.SYS.SEC_CFG
    else d.setFld s F.SYS.SEC_CFG_TCM_SEC (b2n (bitAt n 2))

/-- A write of SRAM_SEC_LO or SRAM_SEC_HI: RWL, and only from a secure master. -/
def sramSecWrite (d : Dev) (m : Master) (ofs : Nat) (w : Word) : Dev :=
  let s := pg .sys
  if !d.secure m ∨ (d.lockSet s ∧ w ≠ d.reg s ofs) then d.refuse m s ofs else d.setReg s ofs w

/-! ## Halt and resume (R471) -/

/-- PAIR_CTRL hears debug at level 1 or above only. -/
def pairCtrlOk (d : Dev) (m : Master) : Bool := m == .debug && decide (1 ≤ d.debugLevel)

/-- HALT: refused in RUN; the pair stops at the next instruction boundary. -/
def pairHalt (d : Dev) (m : Master) (i : Nat) : Dev :=
  if !d.pairCtrlOk m ∨ d.state = 4 ∨ d.pairStopped i then d
  else if d.pairStatus i = 1 ∨ d.pairStatus i = 2 then d.setPair i 3 else d

/-- RESUME of a halted pair. -/
def pairResume (d : Dev) (m : Master) (i : Nat) : Dev :=
  if d.pairCtrlOk m ∧ d.pairStatus i = 3 then d.setPair i 1 else d

end Dev
end Sys2Proof.Machine
end

