-- ==== Sys2Proof/Machine/Mram.lean ====
section
/-!
DEFINITION. The MRAM parameter store (R495–R510). Array offset x is memory address 0x5000_0000 + x. The registers ADDR, LEN,
CMD_STATUS, SR_SEQ and BUF are banked by master class.
-/
namespace Sys2Proof.Machine

/-- Address of array offset 0. -/
def mramBase : Nat := 0x50000000

/-- CRC-16 of a slot, over its bytes but for the CRC itself (R506). -/
def slotCrc (l : List Nat) : Nat := Crc.final 16 0 false (Crc.feed 16 0x1021 false 0xFFFF (l.take 4 ++ l.drop 6))

/-- A whole slot: SEQ, CRC, ring number, tag, payload (R506). -/
def slotImage (ring seq : Nat) (payload : List Nat) : List Nat :=
  let l := Crypto.bytesLE seq 4 ++ [0, 0, ring, 0xA5] ++ payload
  Crypto.bytesLE seq 4 ++ Crypto.bytesLE (slotCrc l) 2 ++ [ring, 0xA5] ++ payload

/-- Tag, ring number and CRC of a slot hold. -/
def slotHolds (ring : Nat) (l : List Nat) : Bool := le l 7 1 == 0xA5 && le l 6 1 == ring && le l 4 2 == slotCrc l

namespace Dev

/-- The MRAM beside its registers, changed. -/
def modMram (d : Dev) (f : MramS → MramS) : Dev := { d with mram := f d.mram }

/-- The job, which begins at this clock, with STATUS.JOB. -/
def setJob (d : Dev) (j : MramJob) : Dev :=
  (d.modMram (fun s => { s with job := j, jobAt := d.now })).setFlag (pg .mram) F.MRAM.STATUS_JOB (j ≠ .none)


/-- A field of a banked register of a master written. -/
def setBankFld (d : Dev) (m : Master) (f : Fld) (v : Nat) : Dev :=
  d.setReg (pg .mram) f.ofs (BitVec.ofNat 32 (setBits (d.reg (pg .mram) f.ofs m.cls).toNat f.lo f.w v)) m.cls

/-- RESULT of a master. -/
def mramResult (d : Dev) (m : Master) (r : Nat) : Dev := d.setBankFld m F.MRAM.CMD_STATUS_RESULT r

/-- The first `n` bytes of a master's BUF. -/
def bufBytes (d : Dev) (m : Master) (n : Nat) : List Nat :=
  ((List.range ((n + 3) / 4)).flatMap (fun i =>
    Crypto.bytesLE (d.reg (pg .mram) (R.MRAM.BUF + 4 * i) m.cls).toNat 4)).take n

/-- `n` bytes of the array from an offset. -/
def arrayBytes (d : Dev) (x n : Nat) : List Nat := (Mem.bytes d.mem (mramBase + x) n).map (·.toNat)

/-! ## Slot rings (R505–R509) -/

/-- A ring is enabled. -/
def srOn (d : Dev) (r : Nat) : Bool := d.flag (pg .mram) (F.MRAM.SR_CFG_EN.at r)

/-- Slot size in bytes. -/
def slotSize (d : Dev) (r : Nat) : Nat := 2 ^ d.fld (pg .mram) (F.MRAM.SR_CFG_SLOT_LOG.at r)

/-- Number of slots. -/
def slotCount (d : Dev) (r : Nat) : Nat := d.fld (pg .mram) (F.MRAM.SR_CFG_NM1.at r) + 1

/-- Area of a ring: offset and size. -/
def srArea (d : Dev) (r : Nat) : Nat × Nat :=
  (16 * d.fld (pg .mram) (F.MRAM.SR_CFG_BASE.at r), d.slotCount r * d.slotSize r)

/-- Offset of a slot. -/
def slotOfs (d : Dev) (r t : Nat) : Nat := (d.srArea r).1 + t * d.slotSize r

/-- A slot is valid: its check holds and no unit of it is uncorrectable. -/
def slotValid (d : Dev) (r t : Nat) (ue : List Nat) : Bool :=
  let x := d.slotOfs r t
  slotHolds r (d.arrayBytes x (d.slotSize r)) && !ue.any (fun u => decide (x / 8 ≤ u) && decide (u < (x + d.slotSize r) / 8))

/-- SEQ of a slot. -/
def slotSeq (d : Dev) (r t : Nat) : Nat := Mem.read d.mem (mramBase + d.slotOfs r t) 4

/-- The newest of the valid slots (R506). -/
def newestSlot (d : Dev) (r : Nat) (l : List Nat) : Option Nat :=
  l.foldl (fun (best : Option Nat) t => match best with
    | none => some t
    | some b =>
      let diff := sub32 (d.slotSeq r t) (d.slotSeq r b)
      if diff < 2147483648 then some t else some b) none

/-- A scan of a ring, which finds the units `ue` uncorrectable (R507). -/
def scanRing (d : Dev) (r : Nat) (ue : List Nat) : Dev :=
  let p := pg .mram
  let all := List.range (d.slotCount r)
  let good := all.filter (fun t => d.slotValid r t ue)
  let hit := all.filterMap (fun t =>
    let x := d.slotOfs r t
    ue.find? (fun u => decide (x / 8 ≤ u) && decide (u < (x + d.slotSize r) / 8)))
  let d := d.each hit (fun d u => (d.bump p R.MRAM.UE_COUNT).raise .mram 0 B.MRAM.MRAM_UE u)
  let d := d.setFld p (F.MRAM.SR_STATUS_VALID.at r) good.length
  let d := d.setFlag p (F.MRAM.SR_STATUS_EMPTY.at r) good.isEmpty
  match d.newestSlot r good with
  | none => d
  | some t => (d.setFld p (F.MRAM.SR_STATUS_NEWEST.at r) t).setReg p (R.MRAM.SR_NSEQ + 4 * r)
      (BitVec.ofNat 32 (d.slotSeq r t))

/-- The end of a scan. -/
def scanEnd (d : Dev) (r : Nat) (ue : List Nat) : Dev :=
  ((d.scanRing r ue).setFlag (pg .mram) (F.MRAM.SR_STATUS_SCANNING.at r) false).event (pg .mram) F.MRAM.EVENT_SR_SCANNED

/-- A scan starts as the job. -/
def scanStart (d : Dev) (j : MramJob) (r : Nat) : Dev :=
  (d.setJob j).setFlag (pg .mram) (F.MRAM.SR_STATUS_SCANNING.at r) true

/-- The job has ended; the scan of an enabled ring that waits for it starts. -/
def jobNext (d : Dev) : Dev :=
  let d := d.setJob .none
  match d.mram.scanQ with
  | [] => d
  | r :: q => (d.modMram (fun s => { s with scanQ := q })).scanStart (.scan r) r

/-- Areas that overlap. -/
def areasMeet (a b : Nat × Nat) : Bool := decide (a.1 < b.1 + b.2) && decide (b.1 < a.1 + a.2)

/-- The checks of R505. DESIGN CHOICE: a ring whose SLOT_LOG or NM1 still has its reset value, which lies outside the field's range, is
not enabled (log entry 72). -/
def srConfigOk (d : Dev) (r : Nat) : Bool :=
  let a := d.srArea r
  decide (4 ≤ d.fld (pg .mram) (F.MRAM.SR_CFG_SLOT_LOG.at r)) && decide (1 ≤ d.fld (pg .mram) (F.MRAM.SR_CFG_NM1.at r)) &&
  decide (a.1 % d.slotSize r = 0) && decide (a.1 + a.2 ≤ 0x40000) &&
  (List.range 16).all (fun q => q == r || !d.srOn q || !areasMeet a (d.srArea q))

/-- A write of SR_CFG[r] (R505, R510). -/
def srCfgWrite (d : Dev) (m : Master) (r : Nat) (w : Word) : Dev :=
  let p := pg .mram
  let n := w.toNat
  let old := (d.reg p (R.MRAM.SR_CFG + 4 * r)).toNat
  if d.srOn r then
    let d := if n / 2 ≠ old / 2 ∧ (bitsOf n 4 14 ≠ bitsOf old 4 14 ∨ n / 1048576 ≠ old / 1048576) then
        d.refuse m p (R.MRAM.SR_CFG + 4 * r) else d
    let off := (d.modMram (fun s => { s with scanQ := s.scanQ.filter (· != r) })).setFlag p (F.MRAM.SR_CFG_EN.at r) false
    if bitAt n 0 then d
    else match d.mram.job with
      | .srWrite _ q _ _ _ => if q = r then d.modMram (fun s => { s with dropEn := some r }) else off
      | _ => off
  else
    let lg := bitsOf n 20 4
    let nm := bitsOf n 24 8
    let d := d.setFld p (F.MRAM.SR_CFG_BASE.at r) (bitsOf n 4 14)
    let d := if 4 ≤ lg ∧ lg ≤ 8 then d.setFld p (F.MRAM.SR_CFG_SLOT_LOG.at r) lg else d.eventRange p
    let d := if 1 ≤ nm then d.setFld p (F.MRAM.SR_CFG_NM1.at r) nm else d.eventRange p
    if !bitAt n 0 then d
    else if !d.srConfigOk r then d.event p F.MRAM.EVENT_CFG_BAD
    else
      let d := d.setFlag p (F.MRAM.SR_CFG_EN.at r) true
      if d.mram.job = .none then d.scanStart (.scan r) r
      else d.modMram (fun s => { s with scanQ := s.scanQ ++ [r] })

/-! ## Commands (R498–R504) -/

/-- A byte range touches a protected block (R504). -/
def mramProtected (d : Dev) (x n : Nat) : Bool :=
  let bp := d.fld (pg .mram) F.MRAM.PROTECT_BP
  if bp = 0 then false
  else decide ((if bp = 1 then 0x30000 else if bp = 2 then 0x20000 else 0) < x + n)

/-- A command accepted: BUSY, and the job. -/
def mramStart (d : Dev) (m : Master) (j : MramJob) : Dev :=
  (((d.setBankFld m F.MRAM.CMD_STATUS_BUSY 1).mramResult m 0).setBankFld m F.MRAM.CMD_STATUS_UNITS 0).setJob j

/-- A CMD write with the right key (R498): none of the others runs while a job does. -/
def mramKeyed (d : Dev) (m : Master) (key : Nat) (f : Dev → Dev) : Dev :=
  if key ≠ 0xD17A then (d.mramResult m 1).event (pg .mram) F.MRAM.EVENT_CMD_REFUSED
  else if d.mram.job ≠ .none then d.mramResult m 2
  else f d

/-- WRITE (R499). -/
def mramWrite (d : Dev) (m : Master) : Dev :=
  let x := (d.reg (pg .mram) R.MRAM.ADDR m.cls).toNat
  let n := (d.reg (pg .mram) R.MRAM.LEN m.cls).toNat
  if x % 4 ≠ 0 ∨ n % 4 ≠ 0 ∨ n < 4 ∨ 256 < n ∨ 0x40000 < x + n then d.mramResult m 3
  else if d.mramProtected x n then d.mramResult m 4
  else if (List.range 16).any (fun r => d.srOn r && areasMeet (x, n) (d.srArea r)) then d.mramResult m 9
  else d.mramStart m (.write m x (d.bufBytes m n))

/-- SR_WRITE (R508). -/
def srWriteCmd (d : Dev) (m : Master) (r : Nat) : Dev :=
  let p := pg .mram
  if !d.srOn r then d.mramResult m 6
  else
    let empty := d.flag p (F.MRAM.SR_STATUS_EMPTY.at r)
    let t := if empty then 0 else (d.fld p (F.MRAM.SR_STATUS_NEWEST.at r) + 1) % d.slotCount r
    let s := if empty then 1 else add32 (d.reg p (R.MRAM.SR_NSEQ + 4 * r)).toNat 1
    if d.mramProtected (d.slotOfs r t) (d.slotSize r) then d.mramResult m 4
    else d.mramStart m (.srWrite m r t s (slotImage r s (d.bufBytes m (d.slotSize r - 8))))

/-- SR_READ (R509). -/
def srReadCmd (d : Dev) (m : Master) (r : Nat) : Dev :=
  if d.srOn r then d.mramStart m (.srRead m r) else d.mramResult m 6

/-- SR_RESCAN (R507). -/
def srRescanCmd (d : Dev) (m : Master) (r : Nat) : Dev :=
  if d.srOn r then (d.mramStart m (.rescan m r)).scanStart (.rescan m r) r else d.mramResult m 6

/-- A write of CMD; with its key, an OP other than the four does nothing (R498, R513). -/
def mramCmd (d : Dev) (m : Master) (w : Word) : Dev :=
  let r := bitsOf w.toNat 4 4
  let op := bitsOf w.toNat 0 4
  if w.toNat / 65536 = 0xD17A ∧ (op = 0 ∨ 4 < op) then d else
  d.mramKeyed m (w.toNat / 65536) (fun d =>
    if op = 1 then d.mramWrite m
    else if op = 2 then d.srWriteCmd m r
    else if op = 3 then d.srReadCmd m r
    else if op = 4 then d.srRescanCmd m r
    else d)

/-! ## Units written (R500–R502) -/

/-- The bytes of `l`, which stand from offset `x`, that lie in unit `u`, written. -/
def putUnit (d : Dev) (x : Nat) (l : List Nat) (u : Nat) : Dev :=
  let lo := max x (8 * u)
  let hi := min (x + l.length) (8 * u + 8)
  { d with mem := Mem.writeBytes d.mem (mramBase + lo) ((sub l (lo - x) (hi - lo)).map (BitVec.ofNat 8)) }

/-- The units that `n` bytes from offset `x` touch, in ascending order. -/
def unitsOf (x n : Nat) : List Nat := (List.range ((x + n + 7) / 8 - x / 8)).map (x / 8 + ·)

/-- What the running command writes: offset, bytes, units in the order written (R499, R508). -/
def jobWrites (d : Dev) : Option (Nat × List Nat × List Nat) :=
  match d.mram.job with
  | .write _ x l => some (x, l, unitsOf x l.length)
  | .srWrite _ r t _ l =>
    let x := d.slotOfs r t
    let us := unitsOf x l.length
    some (x, l, us.tail ++ us.take 1)
  | _ => none

/-- The first `k` units of the running command written. -/
def writeUnits (d : Dev) (k : Nat) : Dev :=
  match d.jobWrites with
  | some (x, l, us) => d.each (us.take k) (fun d u => d.putUnit x l u)
  | none => d

/-- Clocks to write unit `u` of `n` bytes from `x`: 50 ns where they cover it whole, else 100 ns (R500). -/
def unitClocks (x n u : Nat) : Nat := if x ≤ 8 * u ∧ 8 * u + 8 ≤ x + n then 20 else 40

/-- Clocks from the start of a writing command to the start of each of the units `us`, and to its end: 0.5 µs, and 0.2 µs at the
first unit of each page (R500; log entry 3). -/
def unitStarts (x n : Nat) (us : List Nat) : List Nat × Nat :=
  let r := us.foldl (fun (acc : List Nat × Nat × Option Nat) u =>
    let t := acc.2.1 + (if acc.2.2 = some (u / 32) then 0 else 80)
    (acc.1 ++ [t], t + unitClocks x n u, some (u / 32))) ([], 200, none)
  (r.1, r.2.1)

/-- Units that the running command has begun to write by now. -/
def unitsBegun (d : Dev) : Nat :=
  match d.jobWrites with
  | some (x, l, us) => ((unitStarts x l.length us).1.filter (fun t => decide (d.mram.jobAt + t < d.now))).length
  | none => 0

/-- Clocks that the job takes at the least (R500, R507): retries, and what a fallback of SR_READ adds, come on top. -/
def mramClocks (d : Dev) : Nat :=
  match d.mram.job with
  | .none => 0
  | .srRead _ r => 280 + 20 * (d.slotSize r / 8)
  | .rescan _ r | .scan r => 8 * (d.slotCount r * (d.slotSize r / 8))
  | _ => match d.jobWrites with
    | some (x, l, us) => (unitStarts x l.length us).2
    | none => 0

/-- The job has had its time. -/
def mramDue (d : Dev) : Bool := decide (d.mram.jobAt + d.mramClocks ≤ d.now)

/-- A brown-out or device reset stops the running command: a unit that has been begun is completed (R502; log entry 3). Scans are
discarded. -/
def mramCut (d : Dev) : Dev := { d.writeUnits d.unitsBegun with mram := {} }

/-- The end of a command of a master (R500). -/
def mramEnd (d : Dev) (m : Master) (r : Nat) : Dev :=
  let p := pg .mram
  let d := ((d.setBankFld m F.MRAM.CMD_STATUS_BUSY 0).mramResult m r).event p F.MRAM.EVENT_DONE
  (d.bump p R.MRAM.COMMANDS).jobNext

/-- The units of a writing command written and verified; the flag says whether all hold (R501). -/
def verifyUnits (d : Dev) (m : Master) (x : MramFacts) : Dev × Bool :=
  let p := pg .mram
  match d.jobWrites with
  | none => (d, true)
  | some (_, _, us) =>
    let u := (x.bad.map (·.val)).filter us.contains
    let k := match u with
      | some u => (us.takeWhile (· != u)).length
      | none => us.length
    let d := (d.writeUnits k).bump p R.MRAM.VERIFY_RETRIES (x.retries + b2n u.isSome)
    let d := d.setBankFld m F.MRAM.CMD_STATUS_UNITS k
    match u with
    | some u => (d.raise .mram 0 B.MRAM.MRAM_WRITE u, false)
    | none => (d, true)

/-- A slot write that has been verified: NEWEST, SR_NSEQ, SR_SEQ and the count (R508). -/
def srWritten (d : Dev) (m : Master) (r t s : Nat) (wasValid : Bool) : Dev :=
  let p := pg .mram
  let d := d.setFld p (F.MRAM.SR_STATUS_NEWEST.at r) t
  let d := d.setFld p (F.MRAM.SR_STATUS_VALID.at r) (d.fld p (F.MRAM.SR_STATUS_VALID.at r) + b2n (!wasValid))
  let d := d.setFlag p (F.MRAM.SR_STATUS_EMPTY.at r) false
  let d := d.setReg p (R.MRAM.SR_NSEQ + 4 * r) (BitVec.ofNat 32 s)
  (d.setReg p R.MRAM.SR_SEQ (BitVec.ofNat 32 s) m.cls).bump p R.MRAM.SR_WRITES

/-- SR_READ does its work; the flag says whether a valid slot was found (R509). -/
def srReadDo (d : Dev) (m : Master) (r : Nat) (ue : List Nat) : Dev × Bool :=
  let p := pg .mram
  let t := d.fld p (F.MRAM.SR_STATUS_NEWEST.at r)
  let d := if d.flag p (F.MRAM.SR_STATUS_EMPTY.at r) || d.slotValid r t ue then d
    else (d.bump p R.MRAM.SR_FALLBACKS).scanRing r ue
  if d.flag p (F.MRAM.SR_STATUS_EMPTY.at r) then (d, false)
  else
    let t := d.fld p (F.MRAM.SR_STATUS_NEWEST.at r)
    let x := d.slotOfs r t
    let n := (d.slotSize r - 8) / 4
    let d := d.each (List.range n) (fun d i =>
      d.setReg p (R.MRAM.BUF + 4 * i) (Mem.word d.mem (mramBase + x + 8 + 4 * i)) m.cls)
    (d.setReg p R.MRAM.SR_SEQ (BitVec.ofNat 32 (d.slotSeq r t)) m.cls, true)

/-- A read of the window answered: correction, or a bus fault (R496). -/
def windowServe (d : Dev) (r : Reader) (a n : Nat) (flaw : Flaw) (bit : Nat) : Dev :=
  let p := pg .mram
  let u := (a - mramBase) / 8
  let answer := fun (d : Dev) => match r with
    | .master _ => { d with bus := .data (BitVec.ofNat 32 (Mem.read d.mem a n)) }
    | .ring _ => d
  match flaw with
  | .clean => answer d
  | .single => answer ((d.bump p R.MRAM.CORRECTED).setReg p R.MRAM.ECC_LAST (BitVec.ofNat 32 (u + 65536 * bit)))
  | .double =>
    let d := (d.bump p R.MRAM.UE_COUNT).raise .mram 0 B.MRAM.MRAM_UE u
    match r with
    | .master m => d.busFault m
    | .ring q => (d.busErr 5).raise .ring q B.RING.RING_BUS a

/-- A read of `n` bytes of the window. A byte within the range of a running command waits for its end (R496, R503). -/
def windowRead (d : Dev) (r : Reader) (x n : Nat) (flaw : Flaw) (bit : Nat) : Dev :=
  let a := mramBase + x
  let may := match r with
    | .master m => d.reaches m a n false && decide (x % n = 0)
    | .ring _ => true
  if !d.busLive then d
  else if !may then (match r with
    | .master m => d.busFault m
    | .ring _ => d)
  else match d.jobWrites with
    | some (y, l, _) =>
      if areasMeet (x, n) (y, l.length) then
        (d.modMram (fun s => { s with stalled := s.stalled ++ [(r, a, n, flaw, bit)] }))
      else d.windowServe r a n flaw bit
    | none => d.windowServe r a n flaw bit

/-- The reads that waited for the command are served, in order (R503). -/
def serveStalled (d : Dev) : Dev :=
  let l := d.mram.stalled
  (d.modMram (fun s => { s with stalled := [] })).each l (fun d e => d.windowServe e.1 e.2.1 e.2.2.1 e.2.2.2.1 e.2.2.2.2)

/-- A running command completes (R500, R501, R507–R510). -/
def mramDone (d : Dev) (x : MramFacts) : Dev :=
  let ue := x.ue.map (·.val)
  if !d.mramDue then d else
  match d.mram.job with
  | .write m _ _ =>
    let r := d.verifyUnits m x
    (r.1.mramEnd m (if r.2 then 0 else 5)).serveStalled
  | .srWrite m q t s _ =>
    let was := d.slotValid q t []
    let r := d.verifyUnits m x
    let d := if r.2 then r.1.srWritten m q t s was else r.1
    let d := match d.mram.dropEn with
      | some k => (d.setFlag (pg .mram) (F.MRAM.SR_CFG_EN.at k) false).modMram (fun s => { s with dropEn := none })
      | none => d
    (d.mramEnd m (if r.2 then 0 else 5)).serveStalled
  | .srRead m q =>
    let r := d.srReadDo m q ue
    r.1.mramEnd m (if r.2 then 0 else 7)
  | .rescan m q =>
    let d := if d.flag (pg .mram) (F.MRAM.SR_STATUS_SCANNING.at q) then d.scanEnd q ue else d
    d.mramEnd m 0
  | _ => d

/-- A ring scan ends (R507). -/
def srScanDone (d : Dev) (ue : List Nat) : Dev :=
  if !d.mramDue then d else
  match d.mram.job with
  | .scan q => (d.scanEnd q ue).jobNext
  | .rescan _ q => if d.flag (pg .mram) (F.MRAM.SR_STATUS_SCANNING.at q) then d.scanEnd q ue else d
  | _ => d

end Dev
end Sys2Proof.Machine
end

