-- ==== Sys2Proof/Machine/Power.lean ====
section
/-!
DEFINITION. The device states and their transitions (R17–R23): device reset and what survives it (R31), entry into CELLAR, wake
and brown-out, the commands of SYS.CMD, the end of the sequencer's programs (R350–R356), the ways out of SAFE (R412–R414),
and the release of the cores (R443).
-/
namespace Sys2Proof.Machine
namespace Dev

/-! ## What a reset leaves -/

/-- Whether a register survives every device reset: LOCK never does (R31, R349, R411, R282). -/
def survivesReset (key : Nat) : Bool :=
  match pageOf ((key % 0x100000) / 0x1000) with
  | none => false
  | some ⟨k, _⟩ =>
    if key % 0x1000 = R.HDR.LOCK then false
    else if k = .cellar ∨ k = .rtc ∨ k = .seq then true
    else decide (0x100 ≤ key % 0x1000) && ((descOf k (key % 0x1000)).map (fun r => decide (r.keep ≠ .dev))).getD false

/-- Whether a register is in the cellar, which keeps it in every state but OFF (R31, R314). -/
def inCellar (key : Nat) : Bool :=
  match pageOf ((key % 0x100000) / 0x1000) with
  | none => false
  | some ⟨k, _⟩ =>
    if k = .cellar ∨ k = .rtc then true
    else decide (0x100 ≤ key % 0x1000) && ((descOf k (key % 0x1000)).map (fun r => decide (r.keep = .cellar))).getD false

/-- Fields of registers that a device reset resets, which keep their own value through it: the kept bits of GAUGE, FAULT and
SELFTEST (R282, R411, R419), the state of the domains and regulators, which the sequencer keeps (R362), and the island's
sources. -/
def keptFields : List (Nat × Fld) :=
  [(pg .gauge, F.GAUGE.STATUS_RETAINED), (pg .gauge, F.GAUGE.STATUS_COULOMB_DRIFT), (pg .gauge, F.GAUGE.STATUS_PENDING),
   (pg .gauge, F.GAUGE.STATUS_GAP), (pg .fault, F.FAULT.STATUS_FF_VALID), (pg .fault, F.FAULT.STATUS_LOST),
   (pg .fault, F.FAULT.STATUS_RECOV_LATCHED), (pg .scaolo, ⟨R.SCAOLO.SELFTEST, 0, 1⟩),
   (pg .supply, F.SUPPLY.REG_STATUS_ON),
   (pg .fault, ⟨R.FAULT.ACTIVE, 27, 3⟩), (pg .fault, ⟨R.FAULT.ACTIVE, 31, 1⟩), (pg .fault, ⟨R.FAULT.ACTIVE + 4, 0, 4⟩)] ++
  (List.range 16).flatMap (fun n => [(pg .dom n, F.DOM.STATUS_DSTATE), (pg .dom n, F.DOM.STATUS_CUT)])

/-- Device reset (R31): the state it leaves, before the transition is recorded. A download in progress is discarded (R455).
CLK EXT and SUPPLY PAIR come from OTP word 0x111 (R325, R449). -/
def resetDevice (d : Dev) : Dev :=
  let d := d.mramCut.gaugeReset
  let d := if 2 ≤ d.bootState ∧ d.bootState ≤ 4 then d.bootDiscard else d
  let r : Dev := { d with
    regs := Sparse.keep survivesReset d.regs
    keys := keysAtReset
    bus := .none
    tile := Vector.replicate 24 {}
    conv := Vector.replicate 8 {}
    disch := {}
    fc := { pend := d.fc.pend, reps := d.fc.reps, windowFrom := d.fc.windowFrom, faultnLatch := d.fc.faultnLatch,
            ptLast := Vector.replicate 24 d.now
            causes := d.fc.causes.filter (fun e => decide (27 ≤ e.1) && decide (e.1 ≤ 35) && e.1 != 30) }
    tb := {}
    proof := {}
    gal := {}
    af := Vector.replicate 64 {}
    adc := Vector.replicate 16 {}
    bin := Vector.replicate 64 {}
    ring := Vector.replicate 96 {}
    ow := {}
    mon := { since := d.now, scanFrom := d.now }
    chg := {}
    supply := { d.supply with buck := Vector.replicate 4 {}, pllLost := false, xtalAt := d.now }
    seq := { vinReq := d.seq.vinReq }
    boot := { otp := d.boot.otp, shadow := d.boot.shadow }
    comp := { resetAt := d.now, scrubAt := d.now }
    mram := {}
    net := Vector.replicate 3 {}
    check := Vector.replicate 4 {}
    host := {} }
  let r := r.measLost
  let r := keptFields.foldl (fun (r : Dev) f => r.setFld f.1 f.2 (d.fld f.1 f.2)) r
  let r := r.setFlag (pg .clk) F.CLK.CLK_CFG_EXT (bitAt (r.otpCell 0x111).toNat 0)
  let r := r.setFlag (pg .supply) F.SUPPLY.CFG_PAIR (bitAt (r.otpCell 0x111).toNat 1)
  (r.stairRelease false).setPhase 0

/-- Entry into BOOT: a device reset, after which UP runs, or WAKE where HIBERNATE has been left (R31, R350). -/
def enterBoot (d : Dev) (cause : Nat) : Dev :=
  let wake := d.state == 6
  let d := d.resetDevice.transition 2 cause
  if wake then d.startWake else d.assertResets

/-- The supply of all but the cellar is gone: the island and the domains lose their content (R17, R282, R411). OTP cells and the
MRAM array keep theirs. -/
def unpowered (d : Dev) : Dev :=
  let d := d.mramCut
  { regs := Sparse.keep inCellar d.regs
    mem := Sparse.keep (fun a => decide (0x50000000 ≤ a)) d.mem
    now := d.now
    fresh := d.fresh
    supply := { bak := d.supply.bak, boost := { d.supply.boost with enabled := false }, vinLostAt := d.supply.vinLostAt }
    seq := { upDue := false, vinReq := d.seq.vinReq }
    cel := { d.cel with islandUp := false, holdOff := false }
    boot := { otp := d.boot.otp } }

/-- Entry into CELLAR from any state: PWRON is released in LEVEL mode (R388), and a boost that
ran is in COOL (R334). -/
def enterCellar (d : Dev) (cause : Nat) : Dev :=
  let d := (d.unpowered.transition 1 cause).relStop
  if d.pwronPulse then d else d.setPwron false

/-! ## Power of the cellar and of the island -/

/-- OFF to CELLAR (R18, R368): everything but OTP and MRAM begins anew. -/
def cellarPowerOn (d : Dev) : Dev :=
  if d.state = 0 then
    let r : Dev := { mem := Sparse.keep (fun a => decide (0x50000000 ≤ a)) d.mem, now := d.now, fresh := d.fresh,
                     supply := { vinLostAt := d.now }, seq := { upDue := false }, cel := { autoDue := true },
                     boot := { otp := d.boot.otp } }
    r.setReg (pg .sys) R.SYS.STATE 0x00000101
  else d

/-- CELLAR to OFF (R18). -/
def cellarOff (d : Dev) : Dev :=
  if d.state = 1 then
    let r : Dev := { mem := Sparse.keep (fun a => decide (0x50000000 ≤ a)) d.mem, now := d.now, fresh := d.fresh,
                     seq := { upDue := false }, boot := { otp := d.boot.otp } }
    r.setReg (pg .sys) R.SYS.STATE 0x00000100
  else d

/-- The island released: the start program loaded from OTP, or the built-in one where the entry word reads 0 (R349). -/
def islandLoad (d : Dev) : Dev :=
  let s := pg .seq
  let e := d.otpCell 0x100
  let d := d.modCel (fun c => { c with islandUp := true })
  let d := if e = 0 then d
    else (d.each (List.range 128) (fun d i => d.setReg s (R.SEQ.PROG + 4 * i) (d.otpCell (0x80 + i)))).setReg s R.SEQ.ENTRY e
  d.setFlag s F.SEQ.SEQ_CFG_STAIR_EN (bitAt (d.otpCell 0x101).toNat 0)

/-- The island is released (R349, R419); ISL_BIST runs, with result `pass`. -/
def islandPowerOn (d : Dev) (pass : Bool) : Dev :=
  if d.cel.islandUp ∨ (d.state ≠ 1 ∧ d.state ≠ 2) then d else d.islandLoad.islBist pass

/-- VSYS is qualified (R18, R386): the wake event that waits, or AUTOSTART, takes the device to BOOT. In CELLAR the 1 ms counts from
the wake event where that is the later. -/
def vsysQualified (d : Dev) : Dev :=
  let lin := d.reg (pg .rtc) R.RTC.LINEAR
  if d.state = 1 then
    if !d.cel.islandUp ∨ d.cel.holdOff then d
    else if d.cel.wakeDue ≠ 0 then
      if d.now < d.cel.wakeAt + 400000 then d else (d.wakeTaken d.cel.wakeDue d.cel.wakeLin).enterBoot 0x02
    else if d.cel.autoDue && d.flag (pg .cellar) F.CELLAR.POLICY_AUTOSTART then
      (((d.wakeRecord 11).setPwron true).wakeTaken 0x800 lin).enterBoot 0x03
    else d
  else if d.state = 6 ∧ d.cel.wakeDue ≠ 0 ∧ d.phase ≠ 7 then (d.wakeTaken d.cel.wakeDue d.cel.wakeLin).enterBoot 0x02
  else d

/-- What a brown-out in READY, RUN or SAFE completes before any domain falls (R19): the stages stopped, DISCH switched on, ALIVE
stopped and FAULT_N asserted. -/
def brownReaction (d : Dev) : Dev :=
  let d := (d.each (List.range 24) (fun d n => d.killTile n (fun t => { t with killSafe := true }))).dischOn 4 true false
  { d with fc := { d.fc with brown := true } }

/-- VSYS below 2.45 V for 10 µs (R18, R19, R357): the reaction of R19, and then the domains fall; every latched request is
discarded. -/
def brownOut (d : Dev) : Dev :=
  if 2 ≤ d.state ∧ d.state ≤ 6 then
    let d := if 3 ≤ d.state ∧ d.state ≤ 5 then d.brownReaction else d
    (d.seqAbandon.modCel (fun c => { c with wakeDue := 0 })).enterCellar 0x04
  else d

/-! ## Commands of SYS.CMD (R20, R21, R23) -/

/-- Whether the keys of the tiles of a group, and of their comparators in use, are held by the owner of the group's key. -/
def groupKeys (d : Dev) (g : Nat) : Bool :=
  let t := d.keyTag (0x148 + g)
  (d.boundSlots g).all (fun s =>
    let n := d.slotTile g s
    d.keyTag (0x100 + n) == t && (d.cmpSet n .a == 0 || d.keyTag (0x118 + 2 * n) == t) &&
    (d.cmpSet n .b == 0 || d.keyTag (0x119 + 2 * n) == t))

/-- The first arming condition that fails; 0 where all hold (R20). The first fails too while no tile has a valid tap table (R111). -/
def armCause (d : Dev) : Nat :=
  if !d.flag (pg .scaolo) F.SCAOLO.SELFTEST_PASS ||
      (List.range 24).all (fun n => !d.flag (pg .tile n) F.TILE.CAL_STATUS_VALID) then 1
  else if d.activeList.any (fun s => decide (3 ≤ d.sevOf s)) || d.faultAtOrAbove 3 then 2
  else if d.tbActive = 0 then 3
  else if !(List.range 8).all (fun g => !d.flag (pg .conv g) F.HDR.CTRL_ENABLE || d.groupKeys g) then 4
  else if !d.flag (pg .disch) F.DISCH.STATUS_CHECKED then 5
  else if d.flag (pg .fault) F.FAULT.STATUS_RECOV_LATCHED then 6
  else 0

/-- An accepted command is an event of SYS_CMD (R23, R488). -/
def cmdEvent (d : Dev) (c : Nat) : Dev :=
  let w := BitVec.ofNat 32 (c + 256 * d.state)
  d.raiseWith .sys 0 B.SYS.SYS_CMD w w false

/-- ARM (R20). A DISCH trigger that still waits for stopped tiles does not outlive READY. -/
def arm (d : Dev) : Dev :=
  if d.state = 3 then
    let c := d.armCause
    if c = 0 then
      let d := (d.cmdEvent 1).transition 4 0x05
      { d with disch := { d.disch with armed := false, armedHalt := false } }
    else d.refuseCmd (0x10 + c)
  else d.refuseCmd 0x20

/-- What DISARM does (R18, R141, R188, R250). -/
def disarmNow (d : Dev) : Dev :=
  let d := (d.transition 3 0x05).each (List.range 8) clearGo
  let d := { d with chg := { d.chg with disarmed := true } }
  if d.flag (pg .disch) F.DISCH.DCFG_ON_DISARM then
    { d with disch := { d.disch with armed := true, armedHalt := false } } else d

/-- DISARM. -/
def disarm (d : Dev) : Dev := if d.state = 4 then (d.cmdEvent 2).disarmNow else d.refuseCmd 0x20

/-- HIBERNATE and CELLAR: valid in READY while no power-down is under way. -/
def sleepCmd (d : Dev) (c : Nat) (goal : SeqGoal) : Dev :=
  if d.state = 3 ∧ !d.powerDown ∧ d.seq.goal = .none then (d.cmdEvent c).powerDownTo goal else d.refuseCmd 0x20

/-- The tiles that SAFE killed are let go (R124). -/
def releaseTiles (d : Dev) : Dev :=
  d.each (List.range 24) (fun d n => (d.modTile n (fun t => { t with killSafe := false })).unkillTile n)

/-- An off request that was held acts once the device is in READY and no tile switches (R355). -/
def offSettle (d : Dev) : Dev :=
  if d.flag (pg .seq) F.SEQ.SEQ_STATUS_OFF_REQ ∧ d.state = 3 ∧ !d.powerDown ∧
      !(List.range 24).any (fun n => d.tstate n == 3) then
    (d.setFlag (pg .seq) F.SEQ.SEQ_STATUS_OFF_REQ false).powerDownTo .cellar
  else d

/-- SAFE is left for the state it was entered from: READY, or BOOT by a device reset (R18). -/
def leaveSafe (d : Dev) (cause : Nat) : Dev :=
  if d.fld (pg .sys) F.SYS.STATE_PREV = 2 then d.enterBoot cause
  else ((d.transition 3 cause).releaseTiles).offSettle

/-- SAFE_EXIT (R414). -/
def safeExit (d : Dev) : Dev :=
  if d.state = 5 ∧ !d.safeActive ∧ !d.fc.backup then (d.cmdEvent 5).leaveSafe 0x05 else d.refuseCmd 0x20

/-- RESET (R18, R416): it waits for the Scaolo checks that are due. -/
def resetCmd (d : Dev) : Dev :=
  if 2 ≤ d.state ∧ d.state ≤ 5 then
    let d := d.cmdEvent 6
    if d.fc.checks = [] then d.enterBoot 0x05 else d.modFc (fun f => { f with cmdReset := true })
  else d.refuseCmd 0x20

/-- A write of SYS.CMD (R23). -/
def sysCmd (d : Dev) (w : Word) : Dev :=
  if bitsOf w.toNat 16 16 ≠ 0x5A3C then d.refuseCmd 0x21
  else match bitsOf w.toNat 0 8 with
    | 1 => d.arm
    | 2 => d.disarm
    | 3 => d.sleepCmd 3 .hibernate
    | 4 => d.sleepCmd 4 .cellar
    | 5 => d.safeExit
    | 6 => d.resetCmd
    | _ => d.refuseCmd 0x20

/-! ## Ends of SAFE and resets by reaction -/

/-- The quiet timer has reached QUIET ms (R412). -/
def quietDue (d : Dev) : Bool :=
  match d.fc.quietSince with
  | some t => decide (t + 400000 * d.fld (pg .fault) F.FAULT.CFG_QUIET ≤ d.now)
  | none => false

/-- The quiet period has elapsed (R412, R413). -/
def quietElapsed (d : Dev) : Dev :=
  if d.state = 5 ∧ d.quietDue ∧ !d.safeActive ∧ !d.fc.backup then
    if d.fld (pg .fault) F.FAULT.RECOV_STATUS_COUNT < d.fld (pg .fault) F.FAULT.RECOV_CFG_MAX then
      d.countRecovery.leaveSafe 0x09
    else (d.modFc (fun f => { f with quietSince := none })).latchRecovery
  else d

/-- A RESET reaction makes its device reset once recording and the due checks are complete, and not within 10 µs of it (R402). -/
def resetByReaction (d : Dev) : Dev :=
  if d.fc.resetDue ∧ d.fc.pend = [] ∧ d.fc.checks = [] ∧ !d.fc.backup ∧ d.fc.resetAt + 4000 ≤ d.now then
    ((d.bump (pg .fault) R.FAULT.RESETS).countRecovery).enterBoot 0x08
  else d

/-- A check of the reaction, after the last of which a waiting SYS.CMD RESET is made (R416). -/
def reactionCheckDone (d : Dev) (aliveLow faultnLow dischHigh : Bool) : Dev :=
  let d := d.reactionCheck aliveLow faultnLow dischHigh
  if d.fc.cmdReset ∧ d.fc.checks = [] then d.enterBoot 0x05 else d

/-! ## Ends of the sequencer's programs (R350–R356) -/

/-- READY to HIBERNATE at the end of SLEEP; a latched on request starts the hold-off (R356). -/
def enterHibernate (d : Dev) : Dev :=
  let on := d.flag (pg .seq) F.SEQ.SEQ_STATUS_ON_REQ
  let d := ((d.mramCut.transition 6 0x05).gaugeSleep).setReg (pg .sys) R.SYS.PAIR_STATUS 0
  let d := { d with comp := { d.comp with ageBusy := false }, mon := { d.mon with hib := 0, scanFrom := d.now } }
  (d.setPhase (if on then 7 else 0)).modSeq (fun s => { s with goal := .none, lastDis := none })

/-- Clock at which the hold-off ends: HOLDOFF ms after a domain last entered OFF (R356). -/
def holdOffAt (d : Dev) : Nat := d.seq.offAt + 400000 * d.fld (pg .seq) F.SEQ.SEQ_CFG_HOLDOFF

/-- The unwind has ended with every domain OFF: CELLAR, or PARKED in BOOT (R350, R355, R356). -/
def unwindEnd (d : Dev) : Dev :=
  let on := d.flag (pg .seq) F.SEQ.SEQ_STATUS_ON_REQ
  if d.seq.goal = .cellar then
    let until' := d.holdOffAt
    let d := d.enterCellar 0x05
    if on then (d.modCel (fun c => { c with holdOff := true, holdEnd := until' })).bump (pg .cellar) R.CELLAR.HOLDOFFS
    else d.modCel (fun c => { c with wakeDue := 0 })
  else
    ((d.bump (pg .seq) R.SEQ.ABORTS).setPhase (if on then 7 else 8)).modSeq (fun s =>
      { s with goal := .none, lastDis := none })

/-- A power-down run may leave the device's state: it leads from READY to HIBERNATE or CELLAR, and to PARKED in BOOT (R18).
DESIGN CHOICE: a run whose device ARM or a SAFE fault has taken out of READY waits at its END until READY is back (log entry 52). -/
def mayPowerDown (d : Dev) : Bool := d.state == 3 || d.seq.goal == .parked

/-- END (R351, R352, R354). As the service pair is released, `bootsel` is what the BOOTSEL balls read and `diff` what the two sensing
passes of OTP differ in. -/
def stepEnd (d : Dev) (bootsel : Nat) (diff : List (Nat × Word)) : Dev :=
  if d.phase = 5 then (if d.unwindLeft.isEmpty && !d.stalled && d.mayPowerDown then d.unwindEnd else d)
  else
    d.stepOf 0 (fun d _ =>
      let s := pg .seq
      if d.phase = 6 then
        let goal := d.seq.goal
        let d := d.progEnd.modSeq (fun q => { q with stopReq := false })
        if goal = .none then d else d.startSleep goal
      else if d.phase = 1 ∨ d.phase = 2 then
        let d := d.progEnd.dropOn
        if d.domState 11 = 2 then
          (d.setFld (pg .sys) F.SYS.PAIR_STATUS_SVC 1).romStart bootsel diff
        else d
      else if d.stalled || (d.seq.goal == .hibernate && !d.mayPowerDown) then d
      else if d.phase = 3 then
        let d := d.event s F.SEQ.EVENT_PROG_END
        if d.seq.goal = .hibernate then d.enterHibernate else d.enterProgram 4 (d.fld s F.SEQ.ENTRY_DOWN)
      else (d.event s F.SEQ.EVENT_PROG_END).startUnwind d.seq.goal false)

/-- The hold-off ends once its time is up (R356, R387): a VIN request is dropped while VIN_OK is 0; what remains leads on. -/
def holdOffEnd (d : Dev) : Dev :=
  let vin := d.seq.vinReq && d.vinOk
  let any := vin || d.cel.wakeDue != 0
  let join := fun (d : Dev) => if vin then (d.wakeRecord 7).joinWake 7 else d
  if d.state = 1 ∧ d.cel.holdOff then
    if d.now < d.cel.holdEnd then d else
    let d := (d.modCel (fun c => { c with holdOff := false })).modSeq (fun s => { s with vinReq := false })
    if any then ((join d).modCel (fun c => { c with wakeAt := d.now })).setPwron true else d
  else if d.phase = 7 ∧ d.holdOffAt ≤ d.now then
    let d := d.dropOn
    if d.state = 6 then
      let d := d.setPhase 0
      if any then ((join d).setPwron true).gaugeWake else d
    else if any then (d.modCel (fun c => { c with wakeDue := 0 })).startUp
    else d.setPhase 8
  else d

/-- VIN_OK sets (R313, R356): a rise is an on request while VIN_OFF = 1. -/
def vinOkSet (d : Dev) (vin vbak ms : Nat) : Dev :=
  let was := d.vinOk
  let d := d.vinSet vin vbak ms
  if !was && d.vinOk && d.flag (pg .seq) F.SEQ.SEQ_CFG_VIN_OFF then d.onRequest false else d

/-- An off request during UP or WAKE, or in a BOOT whose program has ended: the ROM's attempt is discarded and the unwind runs
(R355). -/
def abortBoot (d : Dev) : Dev :=
  let d := if d.phase = 0 ∨ d.phase = 9 then
      (d.bootDiscard.setBootState 0).setReg (pg .sys) R.SYS.PAIR_STATUS 0 else d
  d.startUnwind .parked true

/-- VIN_OK has stayed 0 for VIN_HOLD ms with VIN_OFF = 1 (R355). -/
def offDue (d : Dev) : Bool :=
  let s := pg .seq
  d.flag s F.SEQ.SEQ_CFG_VIN_OFF && !d.vinOk &&
    decide (d.supply.vinLostAt + 400000 * d.fld s F.SEQ.SEQ_CFG_VIN_HOLD ≤ d.now)

/-- An off request (R355); it changes nothing during a power-down run (R357). -/
def offRequest (d : Dev) : Dev :=
  let s := pg .seq
  if !d.offDue ∨ d.powerDown then d
  else match d.state with
    | 2 => if d.phase = 7 ∨ d.phase = 8 then d else d.abortBoot
    | 3 => (d.setFlag s F.SEQ.SEQ_STATUS_OFF_REQ true).offSettle
    | 4 => ((d.setFlag s F.SEQ.SEQ_STATUS_OFF_REQ true).disarmNow).offSettle
    | 5 => d.setFlag s F.SEQ.SEQ_STATUS_OFF_REQ true
    | _ => d

/-! ## Release of the cores (R430, R443) -/

/-- The memories as the release leaves them: every byte of TCM and system SRAM that no load range covers reads 0 (R433). -/
def clearBeyond (d : Dev) : Dev :=
  let l := Image.ranges d.boot.hdr
  let m := Sparse.keep (fun a => decide (0x30000000 ≤ a) || l.any (fun r => decide (r.1 ≤ a) && decide (a < r.1 + r.2))) d.mem
  { d with mem := m }

/-- The ROM starts both pairs in machine mode at their entries: BOOT to READY (R443). -/
def bootRelease (d : Dev) : Dev :=
  if d.releasable then
    let ec := BitVec.ofNat 32 (le d.boot.hdr 0x10 4)
    let es := BitVec.ofNat 32 (le d.boot.hdr 0x14 4)
    let d := d.releaseRecords.clearBeyond
    let start : Vector CoreS 2 := #v[{ pc := ec, cycAt := some d.now }, { pc := es, cycAt := some d.now }]
    let d := { d with comp := { d.comp with core := start } }
    let d := (d.setFld (pg .sys) F.SYS.PAIR_STATUS_CTRL 1).setFld (pg .sys) F.SYS.PAIR_STATUS_SVC 1
    (d.transition 3 0x0A).offSettle
  else d

end Dev
end Sys2Proof.Machine
end

