-- ==== Sys2Proof/Machine/Net.lean ====
section
/-!
DEFINITION. CAN and 10BASE-T1S controllers (R514–R524): reception into rings, transmit buffers, fault confinement, gPTP capture.
-/
namespace Sys2Proof.Machine

/-- FMT of a record (R518). -/
def fmtCode : CanFmt → Nat
  | .cc => 0 | .fd => 1 | .xl => 2

/-- Data lengths of a format (R519). -/
def canLength (fmt n : Nat) : Bool :=
  if fmt = 0 then decide (n ≤ 8)
  else if fmt = 1 then decide (n ≤ 8) || [12, 16, 20, 24, 32, 48, 64].contains n
  else fmt == 2 && decide (1 ≤ n) && decide (n ≤ 2048)

/-- Bytes padded with 0 to a multiple of 8, as words, low byte first. -/
def packWords (l : List (BitVec 8)) : List Word :=
  let n := (l.length + 7) / 8 * 2
  (List.range n).map (fun i => BitVec.ofNat 32 (Crypto.numLE (((l.drop (4 * i)).take 4).map (·.toNat))))

/-- Lengths of a T1S frame without FCS: addresses and EtherType to the largest supported frame of 1,522 bytes (R521). -/
def t1sLength (n : Nat) : Bool := decide (14 ≤ n) && decide (n ≤ 1518)

namespace Dev

/-- Number of a controller: 0 and 1 CAN, 2 T1S. -/
def netNo : Net → Nat
  | .can n => n
  | .t1s => 2

/-- Page of a controller. -/
def netPage : Net → Nat
  | .can n => pg .can n
  | .t1s => pg .t1s

/-- A controller beside its registers. -/
def netS (d : Dev) (c : Net) : NetS := vget d.net (netNo c) {}

/-- A controller changed. -/
def modNet (d : Dev) (c : Net) (f : NetS → NetS) : Dev := { d with net := vmod d.net (netNo c) f }

/-- A record handed to the receive ring of a controller, which must be the ring's producer; what the ring cannot take counts in
RX_DROPPED (R218, R221, R518). The units that observe the ring see a record that was written (R531). -/
def receiveInto (d : Dev) (c : Net) (ring : Nat) (ws : List Word) : Dev :=
  let p := netPage c
  let r := if d.ringProducer ring = p then d.ringPut ring ws else (d, false)
  if r.2 then r.1.observeRecord ring ws
  else r.1.bump p (match c with | .can _ => R.CAN.RX_DROPPED | .t1s => R.T1S.RX_DROPPED)

/-! ## CAN reception (R517, R518) -/

/-- A filter matches a frame. -/
def filterMatches (d : Dev) (n i : Nat) (f : CanFrame) : Bool :=
  let a := (d.reg (pg .can n) (R.CAN.FILT + 8 * i)).toNat
  let b := (d.reg (pg .can n) (R.CAN.FILT + 8 * i + 4)).toNat
  kindAdmits (bitsOf a 30 2) (f.fmt == .xl) && idMatches f.id.toNat a b

/-- The record of a frame that filter `i` took. -/
def canRecord (f : CanFrame) (i : Nat) : List Word :=
  [BitVec.ofNat 32 (f.data.length % 4096 + 4096 * fmtCode f.fmt + 16384 * b2n f.xtd + 32768 * b2n f.rtr + 65536 * b2n f.brs +
      131072 * b2n f.esi + 262144 * b2n f.sec + 524288 * i + 0x70000000),
   stampWord f.folio.toNat f.angle.toNat, BitVec.ofNat 32 f.id.toNat, if f.fmt = .xl then f.af else 0] ++ packWords f.data

/-- The controller takes part on the bus. -/
def canLive (d : Dev) (n : Nat) : Bool :=
  d.flag (pg .can n) F.HDR.CTRL_ENABLE && d.fld (pg .can n) F.CAN.ERR_ESTATE != 2

/-- ESTATE follows the counters: passive above 127 (R514). -/
def canState (d : Dev) (n : Nat) : Dev :=
  let p := pg .can n
  if d.fld p F.CAN.ERR_ESTATE = 2 then d
  else d.setFld p F.CAN.ERR_ESTATE (b2n (decide (127 < d.fld p F.CAN.ERR_TEC) || decide (127 < d.fld p F.CAN.ERR_REC)))

/-- Whether MODE admits a frame's format. -/
def fmtOn (d : Dev) (n fmt : Nat) : Bool :=
  if fmt = 1 then d.flag (pg .can n) F.CAN.MODE_FD_EN
  else if fmt = 2 then d.flag (pg .can n) F.CAN.MODE_XL_EN else true

/-- A frame in the frame buffer: the first filter that matches decides (R517, R518, R535). -/
def canAccept (d : Dev) (n : Fin 2) (f : CanFrame) : Dev :=
  let p := pg .can n
  let d := d.bump p R.CAN.RX_FRAMES
  if f.bad then d.raise .can n B.CAN.CAN_RAM
  else match (List.range 128).find? (fun i => d.filterMatches n i f) with
    | none => d.bump p R.CAN.NOMATCH
    | some i =>
      let b := (d.reg p (R.CAN.FILT + 8 * i + 4)).toNat
      if bitAt b 31 then d
      else d.receiveInto (.can n) (bitsOf (d.reg p R.CAN.RX_RING).toNat (8 * bitsOf b 29 2) 7) (canRecord f i)

/-! ## Transmission (R519, R522) -/

/-- The record that TXBUF[k] names: none where a word of it is not in data TCM, system SRAM or frame memory. -/
def txRecord (d : Dev) (c : Net) (k : Nat) : Option (List Word) :=
  let a := (d.reg (netPage c) (R.CAN.TXBUF + 4 * k)).toNat
  let lies := fun (n : Nat) => match regionOf a n with
    | some .dtcm => true
    | some .sram => true
    | some .frame => true
    | _ => false
  if !lies 16 then none
  else
    let w := (Mem.word d.mem a).toNat
    let len := match c with
      | .can _ => 16 + 8 * ((bitsOf w 0 12 + 7) / 8)
      | .t1s => 16 + 8 * ((bitsOf w 0 11 + 7) / 8)
    if lies len then some ((List.range (len / 4)).map (fun i => Mem.word d.mem (a + 4 * i))) else none

/-- Whether a record may be sent: a length of its format, and a format that MODE enables. -/
def txGood (d : Dev) (c : Net) (ws : List Word) : Bool :=
  let w := (ws.getD 0 0).toNat
  match c with
  | .can n => canLength (bitsOf w 12 2) (bitsOf w 0 12) && d.fmtOn n (bitsOf w 12 2)
  | .t1s => t1sLength (bitsOf w 0 11)

/-- Pending buffers as a mask. -/
def txPending (d : Dev) (c : Net) : Nat :=
  (List.range 8).foldl (fun (a : Nat) k => if (vget (d.netS c).tx k []).isEmpty then a else a + 2 ^ k) 0

/-- A buffer's copied record set. DESIGN CHOICE: REQ reads 1 while the buffer is pending, and ABORT while a withdrawal waits for
the frame on the bus (R11; log entry 64). CAN shows the pending buffers in TX_CTRL.PEND (R537). -/
def setTx (d : Dev) (c : Net) (k : Nat) (ws : List Word) : Dev :=
  let d := d.modNet c (fun s => { s with tx := vmod s.tx k (fun _ => ws) })
  let d := d.setFlag (netPage c) ⟨R.CAN.TX_CTRL, k, 1⟩ (!ws.isEmpty)
  let d := if ws.isEmpty then d.setFlag (netPage c) ⟨R.CAN.TX_CTRL, 8 + k, 1⟩ false else d
  match c with
  | .can n => d.setFld (pg .can n) F.CAN.TX_CTRL_PEND (d.txPending c)
  | .t1s => d

/-- EVENT.TX_BAD. -/
def txBad (d : Dev) (c : Net) : Dev := d.event (netPage c) F.CAN.EVENT_TX_BAD

/-- REQ of one buffer. The copying engine is not secure: a record in secure memory ends with a bus fault (R468, R469). -/
def txRequest (d : Dev) (c : Net) (k : Nat) : Dev :=
  if !d.flag (netPage c) F.HDR.CTRL_ENABLE then d
  else match d.txRecord c k with
    | none => d.txBad c
    | some ws =>
      let a := (d.reg (netPage c) (R.CAN.TXBUF + 4 * k)).toNat
      if (List.range ws.length).any (fun i => d.memSecure (a + 4 * i)) then (d.busErr 5).txBad c
      else if d.txGood c ws then (d.setTx c k ws).modNet c (fun s => { s with txAddr := vmod s.txAddr k (fun _ => a) })
      else d.txBad c

/-- A write of TX_CTRL (R519, R534). `started` is the mask of the frames on the bus, which ABORT does not reach. -/
def txCtrl (d : Dev) (c : Net) (w : Word) (started : Nat) : Dev :=
  let n := w.toNat
  let p := netPage c
  let d := d.setReg p R.CAN.TX_CTRL (d.reg p R.CAN.TX_CTRL &&& ~~~(w &&& 0x00FF0000#32))
  let d := match c with
    | .t1s => d.setReg p R.T1S.TX_CTRL (d.reg p R.T1S.TX_CTRL ||| (w &&& 0xFF000000#32))
    | .can _ => d
  d.each (List.range 8) (fun d k =>
    if bitAt n (8 + k) then
      (if bitAt started k && bitAt (d.txPending c) k then d.setFlag p ⟨R.CAN.TX_CTRL, 8 + k, 1⟩ true else d.setTx c k [])
    else if bitAt n k then d.txRequest c k
    else d)

/-- Arbitration key of a buffer: base and extended identifiers compare bit by bit on the bus (R514, R519). -/
def txKey (c : Net) (ws : List Word) : Nat :=
  match c with
  | .t1s => 0
  | .can _ =>
    let w := (ws.getD 0 0).toNat
    let id := bitsOf (ws.getD 2 0).toNat 0 29
    if bitsOf w 12 2 = 2 then bitsOf id 0 11 * 524288
    else if bitAt w 14 then (id / 262144) * 524288 + 262144 + id % 262144 else bitsOf id 0 11 * 524288

/-- The pending buffer that wins: lowest identifier, then lowest index. -/
def txWinner (d : Dev) (c : Net) : Option Nat :=
  ((List.range 8).filter (fun k => bitAt (d.txPending c) k)).foldl (fun (best : Option Nat) k => match best with
    | none => some k
    | some b => if txKey c (vget (d.netS c).tx k []) < txKey c (vget (d.netS c).tx b []) then some k else some b) none

/-- What a CAN controller in loopback receives of a record that it sends: the frame, with the stamp of its start. -/
def frameOf (ws : List Word) (folio : Word) (angle : BitVec 16) : CanFrame :=
  let w := (ws.getD 0 0).toNat
  { fmt := (match bitsOf w 12 2 with | 0 => .cc | 1 => .fd | _ => .xl)
    xtd := bitAt w 14, rtr := bitAt w 15, brs := bitAt w 16, esi := bitAt w 17, sec := bitAt w 18
    id := BitVec.ofNat 29 (ws.getD 2 0).toNat, af := ws.getD 3 0
    data := (((ws.drop 4).flatMap Crc.wordBytes).take (bitsOf w 0 12)).map (BitVec.ofNat 8)
    folio := folio, angle := angle }

/-- The clocks since device reset `age` clocks ago (R522). -/
def sfdTime (d : Dev) (age : Nat) : Nat := d.now - d.comp.resetAt - age

/-- A frame of a CAN controller has been sent. In internal loopback no other node sees it, and the controller receives it itself
(PRESUMED from ISO 11898-1; log entry 65). -/
def canSent (d : Dev) (n : Fin 2) (ws : List Word) (folio : Word) (angle : BitVec 16) : Dev :=
  let p := pg .can n
  let d := ((d.setFld p F.CAN.ERR_TEC (d.fld p F.CAN.ERR_TEC - 1)).canState n).bump p R.CAN.TX_FRAMES
  if d.flag p F.CAN.MODE_LOOPBACK then d.canAccept n (frameOf ws folio angle) else d

/-- A T1S frame has been sent: the collisions that it met, and its SFD time where TS asks for it (R522). -/
def t1sSent (d : Dev) (k age coll : Nat) : Dev :=
  let p := pg .t1s
  let d := (d.bump p R.T1S.TX_FRAMES).bump p R.T1S.COLLISIONS coll
  if bitAt (d.reg p R.T1S.TX_CTRL).toNat (24 + k) then
    { d.setFlag p ⟨R.T1S.TX_CTRL, 24 + k, 1⟩ false with
      mem := Mem.write d.mem (vget (d.netS .t1s).txAddr k 0 + 8) (d.sfdTime age) 8 }
  else d

/-- A pending frame has been sent: its start-frame delimiter came `age` clocks ago, and `coll` are the collisions that it met. A
frame whose buffer shows an uncorrectable error (`bad`) is discarded (R519, R522, R535). -/
def frameSent (d : Dev) (c : Net) (age coll : Nat) (bad : Bool) (folio : Word) (angle : BitVec 16) : Dev :=
  let p := netPage c
  let may := match c with
    | .can n => d.canLive n && !d.flag p F.CAN.MODE_LISTEN && !d.flag p F.CAN.MODE_RESTRICTED
    | .t1s => d.flag p F.HDR.CTRL_ENABLE
  match (if may then d.txWinner c else none) with
  | none => d
  | some k =>
    let ws := vget (d.netS c).tx k []
    let d := d.setTx c k []
    if bad then (match c with
      | .can n => d.raise .can n B.CAN.CAN_RAM
      | .t1s => d.raise .t1s 0 B.T1S.T1S_RAM)
    else
      let d := match c with
        | .can n => d.canSent n ws folio angle
        | .t1s => d.t1sSent k age coll
      (d.setFlag p ⟨R.CAN.TX_CTRL, 16 + k, 1⟩ true).event p F.CAN.EVENT_TX_DONE

/-- The controller's frame on the bus has not been sent: it is retried, except with SINGLE_SHOT, or where ABORT waits for it
(R519; log entry 64). -/
def txFailed (d : Dev) (n : Fin 2) : Dev :=
  match d.txWinner (.can n) with
  | some k =>
    if d.flag (pg .can n) F.CAN.MODE_SINGLE_SHOT || bitAt (d.reg (pg .can n) R.CAN.TX_CTRL).toNat (8 + k) then d.setTx (.can n) k []
    else d
  | none => d

/-- A whole frame received without error: REC falls, a frame of the controller's own that lost arbitration to it is retried, and
the filters decide (R517–R519). In internal loopback the controller does not see the bus. -/
def canReceived (d : Dev) (n : Fin 2) (f : CanFrame) : Dev :=
  let p := pg .can n
  if !d.canLive n ∨ d.flag p F.CAN.MODE_LOOPBACK ∨ !d.fmtOn n (fmtCode f.fmt) then d
  else
    let rec' := d.fld p F.CAN.ERR_REC
    let d := (d.setFld p F.CAN.ERR_REC (if 127 < rec' then 127 else rec' - 1)).canState n
    (if f.lost then d.txFailed n else d).canAccept n f

/-! ## Fault confinement (R514, R520) -/

/-- An error on the bus. With SINGLE_SHOT the transmitter's frame is not retried (R519). -/
def canError (d : Dev) (n : Fin 2) (e : CanError) : Dev :=
  let p := pg .can n
  if !d.canLive n ∨ d.flag p F.CAN.MODE_LOOPBACK then d
  else
    let d := d.bump p R.CAN.ERR_FRAMES
    let tec := d.fld p F.CAN.ERR_TEC
    let rec' := d.fld p F.CAN.ERR_REC
    let d := match e with
      | .tx =>
        let d := d.setFld p F.CAN.ERR_TEC (min (tec + 8) 255)
        if 255 < tec + 8 then d.modNet (.can n) (fun s => { s with offDue := true }) else d
      | .rx => d.setFld p F.CAN.ERR_REC (min (rec' + 1) 255)
      | .rxDominant => d.setFld p F.CAN.ERR_REC (min (rec' + 8) 255)
      | .exempt => d
    let d := d.canState n
    if e = .tx ∨ e = .exempt then d.txFailed n else d

/-- TEC has passed 255: bus-off (R520). -/
def busOff (d : Dev) (n : Fin 2) : Dev :=
  let p := pg .can n
  if d.canLive n ∧ (d.netS (.can n)).offDue then
    let auto := d.flag p F.CAN.MODE_AUTO_REC
    let d := d.setFld p F.CAN.ERR_ESTATE 2
    let d := d.modNet (.can n) (fun s => { s with offDue := false, recov := auto })
    let d := (d.event p F.CAN.EVENT_BUSOFF).bump p R.CAN.BUSOFFS
    d.raiseLevel .can n B.CAN.CAN_BUSOFF (d.fld p F.CAN.ERR_TEC)
  else d

/-- CMD.RECOVER (R520). -/
def canRecover (d : Dev) (n : Fin 2) : Dev :=
  if d.fld (pg .can n) F.CAN.ERR_ESTATE = 2 then d.modNet (.can n) (fun s => { s with recov := true }) else d

/-- `seqs` sequences of 11 recessive bits have been seen: after 128 the recovery completes, and the controller rejoins with its
counters at 0 (R514). -/
def busOffRecovery (d : Dev) (n : Fin 2) (seqs : Nat) : Dev :=
  if 128 ≤ seqs ∧ d.flag (pg .can n) F.HDR.CTRL_ENABLE ∧ d.fld (pg .can n) F.CAN.ERR_ESTATE = 2 ∧ (d.netS (.can n)).recov then
    let d := (d.setReg (pg .can n) R.CAN.ERR 0).modNet (.can n) (fun s => { s with recov := false })
    d.lower .can n B.CAN.CAN_BUSOFF
  else d

/-! ## 10BASE-T1S (R521–R523) -/

/-- Whether a destination address is accepted. -/
def t1sAccepts (d : Dev) (dst : Nat) : Bool :=
  let p := pg .t1s
  let mac := (d.reg p R.T1S.MAC_LO).toNat + d.fld p F.T1S.MAC_HI_ADDR * 4294967296
  d.flag p F.T1S.MODE_PROMISC || dst == mac || dst == 0xFFFFFFFFFFFF ||
  (List.range 16).any (fun i =>
    let hi := (d.reg p (R.T1S.MCAST + 8 * i + 4)).toNat
    bitAt hi 31 && dst == (d.reg p (R.T1S.MCAST + 8 * i)).toNat + bitsOf hi 0 16 * 4294967296)

/-- The bytes of an address register pair: bits 7:0 are the first byte on the wire. -/
def dstOf (l : List Nat) : Nat := le l 0 6

/-- The record of a T1S frame whose TS is `ts` (R522). -/
def t1sRecord (f : T1sFrame) (ts : Nat) : List Word :=
  [BitVec.ofNat 32 (f.bytes.length % 2048 + 0x80000000), stampWord f.folio.toNat f.angle.toNat,
   BitVec.ofNat 32 ts, BitVec.ofNat 32 (ts / 4294967296)] ++ packWords f.bytes

/-- A whole frame received: a bad FCS or a runt is discarded and counted; a Sync latches the capture (R521–R523). DESIGN CHOICE: a
frame above 1,522 bytes, which R521 calls not supported, is discarded and counted in the same way (log entry 66). -/
def t1sReceived (d : Dev) (f : T1sFrame) : Dev :=
  let p := pg .t1s
  let l := f.bytes.map (·.toNat)
  let ts := d.sfdTime f.age.toNat
  if !d.flag p F.HDR.CTRL_ENABLE then d
  else if !f.fcsOk ∨ l.length < 60 ∨ 1518 < l.length then d.bump p R.T1S.RX_ERRS
  else if f.bad then (d.bump p R.T1S.RX_FRAMES).raise .t1s 0 B.T1S.T1S_RAM
  else
    let d := d.bump p R.T1S.RX_FRAMES
    let sync := (l.getD 12 0) == 0x88 && (l.getD 13 0) == 0xF7 && (l.getD 14 0) % 16 == 0
    let d := if sync then
        let d := (d.setReg p R.T1S.CAP_TS (BitVec.ofNat 32 ts)).setReg p (R.T1S.CAP_TS + 4) (BitVec.ofNat 32 (ts / 4294967296))
        (d.setReg p R.T1S.CAP_TICKS f.ticks).modNet .t1s (fun s => { s with capAt := some d.now })
      else d
    if d.t1sAccepts (dstOf l) then d.receiveInto .t1s (d.fld p F.T1S.RX_RING_RING) (t1sRecord f ts) else d

/-- PTP_CMD.COMMIT: a capture for the rate measurement, accepted within 1 s of the latch (R523). -/
def ptpCommit (d : Dev) : Dev :=
  let p := pg .t1s
  match (d.netS .t1s).capAt with
  | none => d.event p F.T1S.EVENT_PTP_LATE
  | some t =>
    if d.now ≤ t + 400000000 then
      let base := d.cel.meas.tick / 65536
      let tick := (base + sub32 (d.reg p R.T1S.CAP_TICKS).toNat base) * 65536
      d.measCapture 2 tick ((d.reg p R.T1S.GM_SEC).toNat * 1000000000 + d.fld p F.T1S.GM_NS_NS)
    else d.event p F.T1S.EVENT_PTP_LATE

/-- No PLCA beacon for `cycles` cycles: 8 of them raise T1S_PLCA (R535). -/
def t1sPlca (d : Dev) (cycles : Nat) : Dev :=
  let p := pg .t1s
  if 8 ≤ cycles ∧ d.flag p F.HDR.CTRL_ENABLE ∧ d.flag p F.T1S.MODE_PLCA_EN then
    (d.setFlag p F.T1S.PHY_STATUS_BEACON_SEEN false).raise .t1s 0 B.T1S.T1S_PLCA (d.fld p F.T1S.PLCA_NODE_ID)
  else d

/-! ## Enable and wake (R516, R524) -/

/-- Whether the writer holds every pin key of a controller's balls (R516). -/
def netKeys (d : Dev) (m : Master) (c : Net) : Bool :=
  let ks := match c with
    | .can n => [5 + 2 * n.val, 6 + 2 * n.val]
    | .t1s => [9, 10]
  ks.all (d.keyHeldBy m)

/-- ENABLE of a controller, its key check passed. -/
def netEnable (d : Dev) (c : Net) (on : Bool) : Dev := d.setFld (netPage c) F.HDR.CTRL_ENABLE (b2n on)

/-- A value of NBT, DBT or XBT: 4 to 385 quanta, SJW not above SEG2 (R515). -/
def bitTimeOk (w : Word) : Bool :=
  let n := w.toNat
  let q := 1 + (bitsOf n 8 8 + 1) + (bitsOf n 16 7 + 1)
  decide (4 ≤ q) && decide (q ≤ 385) && decide (bitsOf n 24 7 ≤ bitsOf n 16 7)

/-- STATUS.CLK_DEGRADED: the system clock is not the PLL on XTAL (R515). -/
def clkDegraded (d : Dev) : Bool := d.sysSrc != 1

/-- RXD of a controller has been low for `us` µs in HIBERNATE: wake source 10 after WAKE_CFG.DOM (R524). -/
def busWake (d : Dev) (n : Fin 2) (us : Nat) : Dev :=
  if d.state = 6 ∧ bitAt d.seq.wakeCan n ∧ vget d.seq.wakeDom n 0 ≤ us then d.wakeEvent 10 else d

/-- HP_CS_N has been low for `us` µs in HIBERNATE: wake source 9 after 10 µs (R524). -/
def hostPortWake (d : Dev) (us : Nat) : Dev := if d.state = 6 ∧ d.seq.wakeHost ∧ 10 ≤ us then d.wakeEvent 9 else d

end Dev
end Sys2Proof.Machine
end

