-- ==== Sys2Proof/Machine/RegWrite.lean ====
section
/-!
DEFINITION. A write of one register by its tables: access types (R11), LOCK and idleness (R34), ranges (R54), and the registers
of the common header and common control (R29–R33, R43).
-/
namespace Sys2Proof.Machine

/-! ## Ranges (R54) -/

/-- A range that names another field of its word. -/
def RangeSpec.relative : RangeSpec → Bool
  | .above _ _ => true
  | .aboveSigned _ _ => true
  | _ => false

/-- Whether the field at bit `lo`, of width `w`, of word `v` lies in its range. -/
def RangeSpec.holds (r : RangeSpec) (lo w v : Nat) : Bool :=
  let x := bitsOf v lo w
  match r with
  | .u a b => decide (a ≤ x) && decide (x ≤ b)
  | .s a b => decide (a ≤ toSigned w x) && decide (toSigned w x ≤ b)
  | .oneOf l => l.contains x
  | .above l2 w2 => decide (bitsOf v l2 w2 < x)
  | .aboveSigned l2 w2 => decide (toSigned w2 (bitsOf v l2 w2) < toSigned w x)
  | .deadTime => if bitAt v 15 then decide (x ≤ 4000) else decide (x ≤ 1024)

/-- Bits `lo` to `lo + w − 1` as a mask. -/
def maskOf (lo w : Nat) : Nat := (2 ^ w - 1) <<< lo

/-- Word `a` on the bits of `mask` and word `b` on the others. -/
def merge (mask a b : Nat) : Nat := (a &&& mask) ||| (b &&& (0xFFFFFFFF - (mask &&& 0xFFFFFFFF)))

/-- Bits of EVENT that a page of a kind has, beside bits 2:0. -/
def PageKind.eventBits : PageKind → Nat
  | .sys => 0x700 | .keyrack => 0 | .pinmux => 0x100 | .clk => 0x700 | .supply => 0x1F00 | .path => 0xFF00
  | .seq => 0xF00 | .cellar => 0x700 | .rtc => 0x7F00 | .fault => 0x3F00 | .scaolo => 0x700 | .otp => 0x700
  | .rompatch => 0 | .secboot => 0x700 | .debug => 0x700 | .mram => 0x1F00 | .dom => 0xF00 | .timebase => 0x7FF00
  | .proof => 0x700 | .galley => 0xFFFF7F00 | .chg => 0x1FF00 | .gauge => 0x7FF00 | .disch => 0xF00 | .monadc => 0x300
  | .bin => 0xF00 | .openwire => 0xF00 | .cal => 0 | .intc => 0x300 | .hostport => 0x300 | .t1s => 0xF00 | .can => 0xF00
  | .conv => 0x1FFFF00 | .check => 0x700 | .tile => 0x1FF00 | .adc => 0x1F00 | .mbox => 0xE00 | .ring => 0x1F00

namespace Dev

/-- STATUS.IDLE of a page, by the rule of its chapter; 1 where no rule says otherwise (R30). -/
def idle (d : Dev) (k : PageKind) (i : Nat) : Bool :=
  let off := !d.flag (pg k i) F.HDR.CTRL_ENABLE
  match k with
  | .timebase => d.tbActive == 0
  | .tile => decide (d.tstate i ≤ 1)
  | .conv => decide (d.gstate i ≤ 1)
  | .galley => off || d.tbActive == 0
  | .adc => off
  | .bin => off
  | .ring => off
  | .check => off
  | .can => off
  | .t1s => off
  | .chg => d.cstate == 0
  | .gauge => d.fld (pg .gauge) F.GAUGE.STATUS_GSTATE == 0
  | .supply => (List.range 9).all (fun n => !d.regOn n)
  | .path => false
  | .monadc => false
  | .scaolo => false
  | .seq => d.phase == 0 || decide (8 ≤ d.phase)
  | .dom => d.domState i == 0
  | .otp => !d.flag (pg .otp) F.OTP.CMD_STATUS_BUSY
  | .mbox => d.mbState i == 0
  | .mram => d.mram.job == .none
  | _ => true

/-! ## A write by the register's table -/

/-- What a write of the register `r`, which reads `old`, leaves in it, whether a field is out of range, and whether a held field would
have changed: locked RWL and busy RWI fields keep their values, and so does a field whose written value lies outside its range,
where a range that names another field takes that field as the write leaves it; `extra` names further fields (lowest bit, width)
that another register's value puts outside their range (R34, R54). -/
def tableValue (r : RegDesc) (locked idle : Bool) (extra : List (Nat × Nat)) (old n : Nat) : Nat × Bool × Bool :=
  let held := (if locked then r.rwl else 0) ||| (if idle then 0 else r.rwi)
  let free := (r.rw ||| r.rwl ||| r.rwi) &&& (0xFFFFFFFF - (held &&& 0xFFFFFFFF))
  let v := merge free n old
  let keep := fun (v : Nat) (f : Nat × Nat) => setBits v f.1 f.2 (bitsOf old f.1 f.2)
  let out := fun (rel : Bool) (v : Nat) => (((r.ranges.filter (fun f => f.spec.relative == rel && !f.spec.holds f.lo f.w v)).map
    (fun f => (f.lo, f.w))) ++ (if rel then [] else extra)).filter (fun f => free &&& maskOf f.1 f.2 != 0)
  let bad := out false v
  let v := bad.foldl keep v
  let worse := out true v
  let v := worse.foldl keep v
  (v - (v &&& (n &&& r.w1c)), !(bad.isEmpty && worse.isEmpty), ((n ^^^ old) &&& held) != 0)

/-- A write of the register `r` at `ofs` of page `p`, with EVENT.RANGE and the refusal of R34. -/
def tableWrite (d : Dev) (m : Master) (k : PageKind) (p ofs : Nat) (r : RegDesc) (idle : Bool) (extra : List (Nat × Nat))
    (w : Word) : Dev :=
  let bank := if r.banked then m.cls else 0
  let x := tableValue r (d.lockSet p) idle extra (d.reg p ofs bank).toNat w.toNat
  let d := d.setReg p ofs (BitVec.ofNat 32 x.1) bank
  let d := if x.2.1 then (match k.rangeBit with | some b => d.event p ⟨R.HDR.EVENT, b, 1⟩ | none => d) else d
  if x.2.2 then d.refuse m p ofs else d

/-! ## Header -/

/-- The source that is raised with an EVENT bit, and its detail (R33). -/
def eventSource (d : Dev) (k : PageKind) (b : Nat) : Option Nat :=
  match k, b with
  | .timebase, 9 => some B.TIMEBASE.TB_LOSS
  | .timebase, 10 => some (if d.tbActive = 2 then B.TIMEBASE.TB_MASTER_JUMP else B.TIMEBASE.TB_JUMP)
  | .timebase, 17 => some B.TIMEBASE.TB_SYNC
  | .supply, 9 => some B.SUPPLY.REG_LATCH
  | .supply, 10 => some B.SUPPLY.REG_SYNC
  | .path, 13 => some B.PATH.REL_FAULT
  | .clk, 9 => some B.CLK.CLK_XTAL
  | .galley, 14 => some B.GALLEY.GAL_DROP
  | .gauge, 8 => some B.GAUGE.GAUGE_DRIFT
  | .can, 10 => some B.CAN.CAN_BUSOFF
  | .mbox, 10 => some B.MBOX.MBOX_LOCK
  | .otp, 9 => some B.OTP.OTP_WEAK
  | .debug, 9 => some B.DEBUG.DBG_TOKEN
  | .openwire, 9 => some B.OPENWIRE.OW_DETECT
  | .seq, 8 => some B.SEQ.SEQ_MARK
  | .keyrack, 0 => none
  | _, _ => none

/-- EVENT_SET (R33): refused in RUN; each bit sets as if its event had occurred, with its fault source. -/
def eventSet (d : Dev) (m : Master) (k : PageKind) (i : Nat) (w : Word) : Dev :=
  let p := pg k i
  if d.state = 4 then d.refuse m p R.HDR.EVENT_SET
  else
    let bits := w.toNat &&& (k.eventBits ||| 7)
    let d := d.setReg p R.HDR.EVENT (d.reg p R.HDR.EVENT ||| BitVec.ofNat 32 bits)
    d.each (numbers 32 (bitAt bits)) (fun d b =>
      match d.eventSource k b with
      | some s => d.raise k i s
      | none => d)

/-- A W1C write of FAULT (R32): a bit whose condition still holds sets again, as a repeat; what the cleared bits held is let
go. -/
def faultClear (d : Dev) (k : PageKind) (i : Nat) (w : Word) : Dev :=
  let p := pg k i
  let old := d.reg p R.HDR.FAULT
  let gone := (old &&& w).toNat
  let d := d.setReg p R.HDR.FAULT (old &&& ~~~w)
  let d := d.each (numbers 32 (bitAt gone)) (fun d b =>
    let s := srcNo k i b
    if d.active s then d.refault k i b ((d.fc.causes.lookup s).getD (causeWord b 0)) else d)
  match k with
  | .tile => d.tileFaultCleared i
  | .dom => d.domFaultCleared i
  | .disch => d.dischSettle
  | _ => d

/-- Registers that show what the device is doing, or hold what a rule of its own sets and clears, rather than keep a setting or a
result: SOFT_RESET leaves them (R30; log entry 24). -/
def softLive (k : PageKind) (ofs : Nat) : Bool :=
  match k with
  | .sys => [R.SYS.PAIR_STATUS, R.SYS.COMPAT, R.SYS.SEC_CFG, R.SYS.SRAM_SEC_LO, R.SYS.SRAM_SEC_HI].contains ofs
  | .clk => ofs == R.CLK.CLK_STATUS
  | .supply => ofs == R.SUPPLY.REG_STATUS
  | .timebase => ofs == R.TIMEBASE.FOLIO || ofs == R.TIMEBASE.FOLIO_EPOCH
  | .fault => ofs == R.FAULT.ACTIVE
  | .otp => ofs == R.OTP.SLOCK
  | .cal => ofs == R.CAL.FACTORY
  | .conv => ofs == R.CONV.PROT_STATUS
  | .rompatch => [R.ROMPATCH.PATCH_STATUS, R.ROMPATCH.USED_LO, R.ROMPATCH.USED_HI].contains ofs
  | .secboot => [R.SECBOOT.BOOT_STATUS, R.SECBOOT.BOOT_CFG, R.SECBOOT.IMAGE_INFO, R.SECBOOT.IMAGE_DIGEST, R.SECBOOT.SESS_STATUS,
      R.SECBOOT.SESS_NONCE].contains ofs
  | .debug => ofs == R.DEBUG.DBG_STATUS || ofs == R.DEBUG.NONCE
  | _ => false

/-- The block beside its registers after a SOFT_RESET. -/
def softBlock (d : Dev) (k : PageKind) (i : Nat) : Dev :=
  match k with
  | .timebase => { d with tb := { started := d.tb.started, phi := d.tb.phi, fmHeld := d.tb.fmHeld, fmDead := d.tb.fmDead } }
  | .clk => d.setFlag (pg .clk) F.CLK.CLK_CFG_EXT (bitAt (d.otpCell 0x111).toNat 0)
  | .supply => d.setFlag (pg .supply) F.SUPPLY.CFG_PAIR (bitAt (d.otpCell 0x111).toNat 1)
  | .proof => { d with proof := {} }
  | .galley => { d with gal := {} }
  | .chg => { d with chg := {} }
  | .bin => { d with bin := Vector.replicate 64 {} }
  | .intc => { d with comp := { d.comp with stack := vmod d.comp.stack i (fun _ => []) } }
  | .t1s => { d with net := vmod d.net 2 (fun _ => {}) }
  | .can => { d with net := vmod d.net i (fun _ => {}) }
  | .conv =>
    let p := pg .conv i
    (d.modConv i (fun c => { cleanRun := c.cleanRun })).setReg p R.CONV.PROT_STATUS (d.reg p R.CONV.PROT_STATUS &&& 0xFFFFF#32)
  | .check => { d with check := vmod d.check i (fun _ => {}) }
  | .tile =>
    let d := d.each [F.TILE.STATUS_CAL_VALID, F.TILE.STATUS_TRIM_SAT, F.TILE.STATUS_CMPA_OUT, F.TILE.STATUS_CMPB_OUT]
      (fun d f => d.setFlag (pg .tile i) f false)
    d.modTile i (fun t => { start := t.start, want := t.want, killSafe := t.killSafe, killOut := t.killOut })
  | .adc => d.modAdc i (fun _ => {})
  | .ring => d.modRing i (fun _ => {})
  | .mram => { d with mram := {} }
  | .fault => { d with fc := { d.fc with sevCopy := if d.lockSet (pg .fault) then d.fc.sevCopy else [] } }
  | _ => d

/-- SOFT_RESET (R30): the block-specific registers return to their reset values; fields frozen by LOCK and registers that
survive a device reset stay, and so do those of `softLive`. FOLIO is one of them: only a device reset takes it back (R50, R12). -/
def softReset (d : Dev) (k : PageKind) (i : Nat) : Dev :=
  let p := pg k i
  let keys := (d.regs.map (·.1)).filter (fun key =>
    decide ((key % 0x100000) / 0x1000 = p) && decide (0x100 ≤ key % 0x1000) && decide (key % 0x1000 < 0x800))
  let d := d.each keys (fun d key =>
    match descOf k (key % 0x1000) with
    | none => d
    | some r =>
      if r.keep ≠ .dev ∨ softLive k r.ofs then d
      else
        let old := (d.reg p (key % 0x1000) (key / 0x100000)).toNat
        let mask := if d.lockSet p then 0xFFFFFFFF - (0xFFFFFFFF &&& r.rwl) else 0xFFFFFFFF
        d.setReg p (key % 0x1000) (BitVec.ofNat 32 (merge mask (resetNat p (key % 0x1000)) old)) (key / 0x100000))
  d.softBlock k i

/-- Whether every tile that a group binds is claimed by the owner of the group's key (R139). -/
def convKeys (d : Dev) (g : Nat) : Bool :=
  (d.boundSlots g).all (fun s => d.keyTag (0x100 + d.slotTile g s) == d.keyTag (0x148 + g))

end Dev
end Sys2Proof.Machine
end

