-- ==== Sys2Proof/Machine/Session.lean ====
section
/-!
DEFINITION. Host sessions (R444). Each request answers with its RESULT (R528): 0x00 OK, 0x05 denied.
-/
namespace Sys2Proof.Machine
namespace Dev

/-- A session can be opened: not in provisioning, and HOST_KEY not blank (R442, R444). -/
def sessionsOn (d : Dev) : Bool := !d.inProvisioning && (d.otpBytes 0x198 8).any (· != 0)

/-- SESS_CHALLENGE. `healthy` tells that the random source passes its health test. -/
def sessChallenge (d : Dev) (healthy : Bool) : Dev × Nat :=
  let p := pg .secboot
  if !d.sessionsOn ∨ d.now < d.boot.blockUntil then (d, 5)
  else if !healthy then (d.raise .secboot 0 B.SECBOOT.SB_SESSION 0xFF, 5)
  else (((d.writeNonce p R.SECBOOT.SESS_NONCE).setFlag p F.SECBOOT.SESS_STATUS_NONCE_VALID true).modBoot
    (fun b => { b with nonceAt := d.now }), 0)

/-- The nonce of a session challenge has been valid for 10 s (R444). -/
def nonceOld (d : Dev) : Bool := decide (d.boot.nonceAt + 4000000000 ≤ d.now)

/-- The MAC that opens a session. -/
def sessMac (d : Dev) : List Nat :=
  Crypto.hmac (d.otpBytes 0x198 8) (d.regBytes (pg .secboot) R.SECBOOT.SESS_NONCE 8 ++ d.otpBytes 0 2)

/-- SESS_RESPONSE: one for each nonce. A wrong MAC blocks challenges for 100 ms. -/
def sessResponse (d : Dev) (mac : List Nat) : Dev × Nat :=
  let p := pg .secboot
  if !d.flag p F.SECBOOT.SESS_STATUS_NONCE_VALID ∨ d.nonceOld ∨ !d.sessionsOn then (d, 5)
  else
    let d := d.setFlag p F.SECBOOT.SESS_STATUS_NONCE_VALID false
    if mac = d.sessMac then
      (((d.setFlag p F.SECBOOT.SESS_STATUS_OPEN true).bump p R.SECBOOT.SESSIONS).event p F.SECBOOT.EVENT_SESSION, 0)
    else
      let d := (d.bump p R.SECBOOT.SESS_FAILS).modBoot (fun b => { b with blockUntil := d.now + 40000000 })
      (d.raise .secboot 0 B.SECBOOT.SB_SESSION 1, 5)

/-- The session ends: the secure mailboxes that the host holds return to FREE (R444, R486). -/
def sessEnd (d : Dev) : Dev :=
  let p := pg .secboot
  if d.flag p F.SECBOOT.SESS_STATUS_OPEN then
    (d.setFlag p F.SECBOOT.SESS_STATUS_OPEN false).mbOrphan 1 (List.range 4)
  else d

/-- IDLE ms without a host transfer end the session (R444). -/
def sessIdle (d : Dev) : Dev :=
  if d.host.lastAt + 400000 * d.fld (pg .secboot) F.SECBOOT.SESS_CFG_IDLE ≤ d.now then d.sessEnd else d

/-- The nonce of a session challenge expires (R444). -/
def nonceExpiry (d : Dev) : Dev :=
  if d.nonceOld then d.setFlag (pg .secboot) F.SECBOOT.SESS_STATUS_NONCE_VALID false else d

/-- RELOCK: debug is locked, and the mailboxes that it holds return to FREE (R447, R486). -/
def dbgRelock (d : Dev) : Dev :=
  (d.setFld (pg .debug) F.DEBUG.DBG_STATUS_LEVEL 0).mbOrphan 4 (List.range 8)

end Dev
end Sys2Proof.Machine
end

