-- ==== Sys2Proof/Machine/BlockWrite.lean ====
section
/-!
DEFINITION. Writes of the block-specific registers that do more than take their fields: each by the rules of its block. Every
write that comes here has passed the rules of R34 for its master.
-/
namespace Sys2Proof.Machine
namespace Dev

/-! ## Ranges set by another register (R54) -/

/-- Fields (lowest bit, width) of the written word that lie outside a range which another register sets, or which is more than an
interval. -/
def extraRanges (d : Dev) (k : PageKind) (i ofs : Nat) (w : Word) : List (Nat × Nat) :=
  let p := pg k i
  let n := w.toNat
  match k with
  | .conv =>
    if ofs = R.CONV.SEC_SHIFT then
      let per := if d.flag p F.CONV.TOPOLOGY_SYNC then d.syncPeriod i else d.fld p F.CONV.CARRIER_MIN_VALUE
      if per ≤ bitsOf n 0 22 then [(0, 22)] else []
    else if ofs = R.CONV.BURST_EXIT then
      if bitsOf n 0 16 ≤ d.fld p F.CONV.BURST_ENTER_LEVEL then [(0, 16)] else []
    else []
  | .dom =>
    if ofs = R.DOM.OFF_CFG ∧ d.fld p F.DOM.WIN_UV ≤ bitsOf n 0 16 then [(0, 16)]
    else if ofs = R.DOM.DCFG ∧ bitAt n 4 ∧ i ≠ 3 ∧ i ≠ 6 ∧ i ≠ 8 then [(4, 1)]
    else []
  | .disch => if ofs = R.DISCH.RES_ON ∧ d.fld p F.DISCH.RES_PER_VALUE ≤ bitsOf n 0 22 then [(0, 22)] else []
  | .ring => if ofs = R.RING.WATERMARK ∧ d.ringSize i < bitsOf n 0 21 then [(0, 21)] else []
  | .gauge =>
    if (ofs = R.GAUGE.RV ∨ ofs = R.GAUGE.QQ ∨ ofs = R.GAUGE.QV ∨ ofs = R.GAUGE.QC) ∧ !F32.pos w then [(0, 32)] else []
  | .can =>
    if (ofs = R.CAN.NBT ∨ ofs = R.CAN.DBT ∨ ofs = R.CAN.XBT) ∧ !bitTimeOk w then [(0, 32)] else []
  | .chg =>
    if R.CHG.PROFILE ≤ ofs ∧ ofs < R.CHG.PROFILE + 512 then
      if ofs % 8 = 0 then
        (if bitsOf n 0 16 = 0 then [(0, 16)] else []) ++ (if bitsOf n 16 16 = 0 then [(16, 16)] else [])
      else (if bitsOf n 16 2 = 3 then [(16, 2)] else []) ++ (if bitsOf n 19 13 = 0 then [(19, 13)] else [])
    else if ofs = R.CHG.THERM_CFG ∧ toSigned 16 (bitsOf n 16 16) ≤ toSigned 16 (bitsOf n 0 16) then [(0, 16)]
    else []
  | .rtc => if ofs = R.RTC.ALARM_CFG ∧ bitAt n 0 ∧ bitsOf n 1 6 = 0 then [(0, 1)] else []
  | _ => []

/-- A write that only takes the register's fields. -/
def plainWrite (d : Dev) (m : Master) (k : PageKind) (i ofs : Nat) (w : Word) : Dev :=
  match descOf k ofs with
  | none => d
  | some r => d.tableWrite m k (pg k i) ofs r (d.idle k i) (d.extraRanges k i ofs w) w

/-- The written word with some bits as the register holds them. -/
def holding (d : Dev) (p ofs mask : Nat) (w : Word) : Word :=
  BitVec.ofNat 32 (merge mask (d.reg p ofs).toNat w.toNat)

/-! ## System pages -/

/-- SYS. PAIR_CTRL.STEP and the register access of R471 stand in Core.lean. -/
def sysWrite (d : Dev) (m : Master) (ofs : Nat) (w : Word) : Dev :=
  if ofs = R.SYS.CMD then d.sysCmd w
  else if ofs = R.SYS.PAIR_CTRL then
    let i := bitsOf w.toNat 4 1
    match bitsOf w.toNat 0 2 with
    | 1 => d.pairHalt m i
    | 3 => d.pairResume m i
    | _ => d
  else if ofs = R.SYS.SEC_CFG then d.secCfgWrite m w
  else if ofs = R.SYS.SRAM_SEC_LO ∨ ofs = R.SYS.SRAM_SEC_HI then d.sramSecWrite m ofs w
  else if ofs = R.SYS.AGE_CMD then d.ageCmd w
  else if ofs = R.SYS.PAIR_REG_DATA then d
  else d.plainWrite m .sys 0 ofs w

/-- SUPPLY: a regulator's RWI fields are writable while it is off, VOUT on BUCK[3] only (R329, R339). -/
def supplyWrite (d : Dev) (m : Master) (ofs : Nat) (w : Word) : Dev :=
  let p := pg .supply
  if ofs = R.SUPPLY.UNLATCH then d.supplyUnlatch (bitsOf w.toNat 0 4) (fun n => d.domState n == 0 || d.domState n == 3)
  else match descOf .supply ofs with
    | none => d
    | some r =>
      let n := if ofs = R.SUPPLY.LDO_CFG then 8 else (ofs - R.SUPPLY.BUCK_CFG) / 4
      let w := if R.SUPPLY.BUCK_CFG ≤ ofs ∧ ofs < R.SUPPLY.BUCK_CFG + 12 then d.holding p ofs 0x1FF0000 w else w
      let d' := d.tableWrite m .supply p ofs r (!d.regOn n) [] w
      if ofs = R.SUPPLY.CFG then d'.syncBucks else d'

/-- PATH: the charger's settings under R316; BAK_CMD, and EN from 0 to 1, reset the timers (R318). -/
def pathWrite (d : Dev) (m : Master) (ofs : Nat) (w : Word) : Dev :=
  let p := pg .path
  let was := d.flag p F.PATH.BAK_CFG_EN
  if ofs = R.PATH.BAK_CMD then (if bitAt w.toNat 0 then d.bakRestart else d)
  else
    let d' := d.plainWrite m .path 0 ofs w
    if (ofs = R.PATH.BAK_CFG ∨ ofs = R.PATH.BAK_CUR ∨ ofs = R.PATH.BAK_ZONE) ∧ d'.flag p F.PATH.BAK_CFG_EN ∧ !d'.bakConfigOk then
      if was then d.event p F.PATH.EVENT_RANGE
      else (d'.setFlag p F.PATH.BAK_CFG_EN false).event p F.PATH.EVENT_CFG_BAD
    else if !was ∧ d'.flag p F.PATH.BAK_CFG_EN then d'.bakReset
    else d'

/-- SEQ: CMD with its key (R365); steps 128 to 255 while no program runs (R349). -/
def seqWrite (d : Dev) (m : Master) (ofs : Nat) (w : Word) : Dev :=
  let p := pg .seq
  if ofs = R.SEQ.CMD then
    if bitsOf w.toNat 16 16 = 0x9E5A then
      match bitsOf w.toNat 0 3 with
      | 1 => d.runAux (bitsOf w.toNat 4 3)
      | 2 => d.setGo (bitsOf w.toNat 4 3) true
      | 3 => d.stopAux
      | _ => d
    else d.event p F.SEQ.EVENT_CMD_REFUSED
  else if R.SEQ.PROG + 512 ≤ ofs ∧ d.progRuns then (if d.reg p ofs = w then d else d.refuse m p ofs)
  else d.plainWrite m .seq 0 ofs w

/-- A write that lands in the cellar on the RTC page (R374, R378–R382). -/
def rtcLand (d : Dev) (m : Master) (ofs : Nat) (w : Word) (ticks : Nat) : Dev :=
  let n := w.toNat
  if ofs = R.RTC.CMD then
    let d := if bitAt n 0 then d.commit else d
    let d := if bitAt n 1 then d.measStart else d
    let d := if bitAt n 2 then d.measStop else d
    if bitAt n 3 then d.measCapture 1 ticks d.nref else d
  else if ofs = R.RTC.TRIM then
    let v := toSigned 16 (bitsOf n 0 16)
    if -2000 ≤ v ∧ v ≤ 2000 then d.setTrim v else d.event (pg .rtc) F.RTC.EVENT_RANGE
  else d.plainWrite m .rtc 0 ofs w

/-- A write that lands in the cellar (R369). -/
def cellarLand (d : Dev) (m : Master) (p ofs : Nat) (w : Word) (ticks : Nat) : Dev :=
  if p = pg .rtc then d.rtcLand m ofs w ticks
  else if ofs = R.CELLAR.PWRON_CTRL then d.pwronCtrl w
  else d.plainWrite m .cellar 0 ofs w

/-- SYNC_BUSY of the CELLAR or RTC page. -/
def setSyncBusy (d : Dev) (p : Nat) (on : Bool) : Dev :=
  d.setFlag p (if p = pg .rtc then F.RTC.STATUS_SYNC_BUSY else F.CELLAR.STATUS_SYNC_BUSY) on

/-- The write in transit to a page lands (R369). -/
def cellarSync (d : Dev) (p ticks : Nat) : Dev :=
  match d.cel.transit.find? (fun t => t.1 == p) with
  | some (_, m, ofs, w) =>
    ((d.modCel (fun c => { c with transit := c.transit.filter (fun t => t.1 != p) })).setSyncBusy p false).cellarLand m p ofs w
      ticks
  | none => d

/-- A write to a CELLAR or RTC register: one in transit to the page lands first, and NREF_CAPTURE is made on its own clock (R369,
R379). -/
def cellarWrite (d : Dev) (m : Master) (p ofs : Nat) (w : Word) (ticks : Nat) : Dev :=
  let d := d.cellarSync p ticks
  let cap := p = pg .rtc ∧ ofs = R.RTC.CMD ∧ bitAt w.toNat 3
  let d := if cap then d.measCapture 1 ticks d.nref else d
  let w := if cap then w &&& 7#32 else w
  (d.modCel (fun c => { c with transit := (p, m, ofs, w) :: c.transit })).setSyncBusy p true

/-- FAULT: severities (R398), the consumer index (R409), CMD (R427). -/
def faultWrite (d : Dev) (m : Master) (ofs : Nat) (w : Word) : Dev :=
  let p := pg .fault
  if ofs = R.FAULT.CMD then d.faultCmd w
  else if ofs = R.FAULT.HIST_RD then (if d.histRdOk w then d.setReg p ofs w else d.refuse m p ofs)
  else if R.FAULT.SEV ≤ ofs ∧ ofs < R.FAULT.SEV + 192 then
    if d.lockSet p then (if (w &&& 0x77777777#32) = d.reg p ofs then d else d.refuse m p ofs)
    else d.sevWrite ((ofs - R.FAULT.SEV) / 4) w
  else d.plainWrite m .fault 0 ofs w

/-- OTP: CMD (R460) and the sticky locks (R453). -/
def otpWrite (d : Dev) (m : Master) (ofs : Nat) (w : Word) (burn : Bool) : Dev :=
  if ofs = R.OTP.CMD then d.otpCmd w burn
  else if ofs = R.OTP.SLOCK then d.setReg (pg .otp) ofs (d.reg (pg .otp) ofs ||| (w &&& 0xFFFF#32))
  else d.plainWrite m .otp 0 ofs w

/-- SECBOOT: CMD (R458). -/
def secbootWrite (d : Dev) (m : Master) (ofs : Nat) (w : Word) (burn : Bool) : Dev :=
  if ofs = R.SECBOOT.CMD then
    let a := bitsOf w.toNat 4 8
    match bitsOf w.toNat 0 4 with
    | 1 => d.sbKeyed w (fun d => d.arbAdvance a burn)
    | 2 => d.sbKeyed w (fun d => d.revoke a burn)
    | 3 => d.sbKeyed w attest
    | 4 => d.sbKeyed w (fun d => d.sessEnd.sbResult 0)
    | _ => d
  else d.plainWrite m .secboot 0 ofs w

/-- DEBUG: DBG_CMD and TOKEN (R446, R464). -/
def debugWrite (d : Dev) (m : Master) (ofs : Nat) (w : Word) : Dev :=
  if ofs = R.DEBUG.DBG_CMD then
    match bitsOf w.toNat 0 2 with
    | 1 => d.dbgChallenge
    | 2 => d.dbgSubmit
    | 3 => d.dbgRelock
    | _ => d
  else if R.DEBUG.TOKEN ≤ ofs ∧ ofs < R.DEBUG.TOKEN + 176 then d.tokenWrite ((ofs - R.DEBUG.TOKEN) / 4) w
  else d.plainWrite m .debug 0 ofs w

/-! ## Timebase, proofs, galley -/

/-- SYNC_CTRL: each enable needs its pin key under R43, and the FMARK enables their role (R66). -/
def syncCtrlWrite (d : Dev) (m : Master) (w : Word) : Dev :=
  let p := pg .timebase
  let o := R.TIMEBASE.SYNC_CTRL
  let role := d.tbRole
  let asked := [(0, 1), (4, 2), (5, 0), (6, 0)].filter (fun e => bitAt w.toNat e.1)
  let noKey := asked.filter (fun e => !d.keyHeldBy m e.2)
  let noRole := asked.filter (fun e => (e.1 == 5 && role != 1) || (e.1 == 6 && role != 2))
  let mask := (noKey ++ noRole).foldl (fun (a : Nat) e => a ||| 2 ^ e.1) 0
  let d := if noKey.isEmpty then d else d.event p F.HDR.EVENT_NOKEY
  d.plainWrite m .timebase 0 o (d.holding p o mask w)

/-- TIMEBASE (R60, R62, R66, R324). -/
def timebaseWrite (d : Dev) (m : Master) (ofs : Nat) (w : Word) : Dev :=
  let d' := d.plainWrite m .timebase 0 ofs w
  if ofs = R.TIMEBASE.SYNC_CTRL then (d.syncCtrlWrite m w).crefWritten
  else if ofs = R.TIMEBASE.SRC_SEL then
    (if d'.fld (pg .timebase) F.TIMEBASE.SRC_SEL_SRC = bitsOf w.toNat 0 3 then d'.sourceRequest (bitsOf w.toNat 0 3) else d')
  else if ofs = R.TIMEBASE.CREF_PERIOD then d'.crefWritten.syncBucks
  else d'

/-- PROOF: TAKE, HOLD, and the start of the PERIODIC interval (R74, R76, R82). -/
def proofWrite (d : Dev) (m : Master) (ofs : Nat) (w : Word) : Dev :=
  if ofs = R.PROOF.TAKE then (if bitAt w.toNat 0 then d.proofTrigger 0 else d)
  else if ofs = R.PROOF.HOLD then d.holdWrite m w
  else
    let e := d.plainWrite m .proof 0 ofs w
    if ofs = R.PROOF.PERIOD ∨ ofs = R.PROOF.TRIG_EN then { e with proof := { e.proof with periodFrom := e.now } } else e

/-- The bits of a register that have access RW, RWL or RWI: PI of a ring whose producer is a core among them (R219, R238). -/
def writableBits (d : Dev) (k : PageKind) (i : Nat) (r : RegDesc) : Nat :=
  if k = .mbox ∧ r.ofs = R.MBOX.LOCK then 0xF
  else if k = .ring ∧ r.ofs = R.RING.PI then (if d.ringProducer i = 0xFF then 0xFFFFFFFF else 0)
  else r.rw ||| r.rwl ||| r.rwi

/-- Whether the field at bit `s`, width `n`, of the register at a page address may be named by the whitelist (R96): every bit of
it is a defined bit of access RW, RWL or RWI, on a page that is not shut out. -/
def wlNames (d : Dev) (addr s n : Nat) : Bool :=
  let ofs := addr % 0x1000
  match pageOf (addr / 0x1000) with
  | none => false
  | some ⟨k, i⟩ =>
    let shut := [PageKind.sys, .keyrack, .pinmux, .fault, .galley, .disch, .monadc, .scaolo, .otp, .rompatch, .secboot,
      .debug].contains k || (k == .mbox && decide (i < 4))
    let bits := match descOf k ofs with
      | none => 0
      | some r => d.writableBits k i r
    !shut && ofs % 4 == 0 && decide (0x100 ≤ ofs) && decide (ofs < 0x800) && decide (1 ≤ n) && decide (n ≤ 24) &&
      decide (s + n ≤ 32) && (maskOf s n &&& bits) == maskOf s n

/-- A write of WL_ADDR or WL_FIELD (R96): refused whole where it would leave VALID on an entry that may not stand. -/
def whitelistWrite (d : Dev) (m : Master) (ofs : Nat) (w : Word) : Dev :=
  let p := pg .galley
  let onAddr := decide (ofs < R.GALLEY.WL_FIELD)
  let i := if onAddr then (ofs - R.GALLEY.WL_ADDR) / 4 else (ofs - R.GALLEY.WL_FIELD) / 4
  let mask := if onAddr then 0x800FFFFF else 0x1F1F
  let v := w.toNat &&& mask
  let a := if onAddr then v else (d.reg p (R.GALLEY.WL_ADDR + 4 * i)).toNat
  let f := if onAddr then (d.reg p (R.GALLEY.WL_FIELD + 4 * i)).toNat else v
  if d.reg p ofs = BitVec.ofNat 32 v then d
  else if d.lockSet p then d.refuse m p ofs
  else if bitAt a 31 && !d.wlNames (bitsOf a 0 20) (bitsOf f 0 5) (bitsOf f 8 5) then d.refuse m p ofs
  else d.setReg p ofs (BitVec.ofNat 32 v)

/-- GALLEY: IMPOSE (R90, R93) and the whitelist. -/
def galleyWrite (d : Dev) (m : Master) (ofs : Nat) (w : Word) : Dev :=
  let n := bitsOf w.toNat 0 4
  if ofs = R.GALLEY.IMPOSE then
    match bitsOf w.toNat 4 2 with
    | 1 => d.impose n m.cls (d.keyHeldBy m (0x2CC + n))
    | 2 => d.imposeCancel n (d.keyHeldBy m (0x2CC + n))
    | _ => d
  else if R.GALLEY.WL_ADDR ≤ ofs ∧ ofs < R.GALLEY.WL_FIELD + 128 then d.whitelistWrite m ofs w
  else d.plainWrite m .galley 0 ofs w

/-! ## Power stages and measurement -/

/-- CMPx_CFG: a FUNC other than OFF needs the comparator's key and the tile's key with one owner; a comparator that goes out of
operation shows no trip (R125, R126). -/
def cmpCfgWrite (d : Dev) (m : Master) (n : Nat) (c : Cmp) (w : Word) : Dev :=
  let p := pg .tile n
  let ofs := match c with | .a => R.TILE.CMPA_CFG | .b => R.TILE.CMPB_CFG
  let ok := d.keyHeldBy m (cmpKey n c) && d.keyTag (cmpKey n c) == d.keyTag (0x100 + n)
  if bitsOf w.toNat 0 3 = 0 ∨ ok then (d.plainWrite m .tile n ofs w).cmpSettle n
  else (d.event p F.HDR.EVENT_NOKEY).plainWrite m .tile n ofs (d.holding p ofs 7 w)

/-- TILE (R110, R125). -/
def tileWrite (d : Dev) (m : Master) (n ofs : Nat) (w : Word) : Dev :=
  if ofs = R.TILE.CMPA_CFG then d.cmpCfgWrite m n .a w
  else if ofs = R.TILE.CMPB_CFG then d.cmpCfgWrite m n .b w
  else
    let d := d.plainWrite m .tile n ofs w
    if ofs = R.TILE.CAL_CTRL ∧ bitAt w.toNat 16 then d.calStart n else d

/-- CONV (R137, R141, R154, R156, R168, R177, R184). -/
def convWrite (d : Dev) (m : Master) (g ofs : Nat) (w : Word) : Dev :=
  let p := pg .conv g
  let n := w.toNat
  if ofs = R.CONV.GROUP_CTRL then (d.plainWrite m .conv g ofs (d.holding p ofs 1 w)).groupGo g (bitAt n 0)
  else if ofs = R.CONV.REF then (d.plainWrite m .conv g ofs w).collect g (.ref w.toInt)
  else if ofs = R.CONV.LAW_CTRL then
    let d := if bitAt n 0 then d.lawLoad g else d
    if bitAt n 1 then d.lawClear g else d
  else if ofs = R.CONV.PROT_CTRL then
    let d := if bitAt n 0 then d.unlatch g else d
    if bitAt n 1 then d.convRestore g else d
  else
    let e := d.plainWrite m .conv g ofs w
    if R.CONV.BIND ≤ ofs ∧ ofs < R.CONV.BIND + 48 then d.rebind e g
    else if ofs = R.CONV.BURST_CFG ∧ e.gstate g = 5 ∧ !(e.convS g).waking then
      e.setFlag p F.CONV.STATUS_LP_GRANTED (e.flag p F.CONV.BURST_CFG_LP)
    else e

/-- DISCH: DCMD with its key (R191). -/
def dischWrite (d : Dev) (m : Master) (ofs : Nat) (w : Word) : Dev :=
  if ofs = R.DISCH.DCMD then
    if bitsOf w.toNat 16 16 = 0xA5C3 then
      match bitsOf w.toNat 0 3 with
      | 1 => d.dischStart
      | 2 => d.circulate
      | 3 => d.dischTest
      | 4 => d.dischStop
      | _ => d
    else d.dischRefused
  else d.plainWrite m .disch 0 ofs w

/-- ADC: LIST, SLOT with its enable VALID, STREAM (R200, R215). -/
def adcWrite (d : Dev) (m : Master) (c ofs : Nat) (w : Word) : Dev :=
  let p := pg .adc c
  if R.ADC.STREAM ≤ ofs ∧ ofs < R.ADC.STREAM + 16 then d.streamWrite c ((ofs - R.ADC.STREAM) / 4) w
  else if R.ADC.SLOT ≤ ofs ∧ ofs < R.ADC.SLOT + 64 then
    let key := 0x160 + 16 * c + (ofs - R.ADC.SLOT) / 4
    if !bitAt w.toNat 31 ∨ d.keyHeldBy m key then (d.plainWrite m .adc c ofs w).listWritten c
    else ((d.event p F.HDR.EVENT_NOKEY).plainWrite m .adc c ofs (d.holding p ofs 0x80000000 w)).listWritten c
  else if ofs = R.ADC.LIST then (d.plainWrite m .adc c ofs w).listWritten c
  else d.plainWrite m .adc c ofs w

/-- BIN: CH (R213). -/
def binWrite (d : Dev) (m : Master) (ofs : Nat) (w : Word) : Dev :=
  let p := pg .bin
  let h := (ofs - F.BIN.CH_EN.ofs) / 4
  if F.BIN.CH_EN.ofs ≤ ofs ∧ h < 64 then (d.binChannelWrite h w).getD (d.refuse m p ofs)
  else d.plainWrite m .bin 0 ofs w

/-- RING (R219–R221). -/
def ringWrite (d : Dev) (m : Master) (n ofs : Nat) (w : Word) : Dev :=
  if ofs = R.RING.PI then (if d.ringProducer n = 0xFF then d.piWriteSeen n w.toNat else d)
  else if ofs = R.RING.CI then d.ciWrite n w.toNat
  else if ofs = R.RING.CMD then (if bitAt w.toNat 0 then d.clrOvf n else d)
  else d.plainWrite m .ring n ofs w

/-! ## Charge manager, gauge -/

/-- CHG: CMD (R274) and BMS_IN (R259). -/
def chgWrite (d : Dev) (m : Master) (ofs : Nat) (w : Word) : Dev :=
  if ofs = R.CHG.CMD then d.chgCmd (bitsOf w.toNat 0 4) (bitsOf w.toNat 16 16) (d.keyTag 4 == 0x5023)
  else if ofs = R.CHG.BMS_IN then d.bmsWrite w
  else d.plainWrite m .chg 0 ofs w

/-- GAUGE: CMD (R306) and REC_ACK (R301). -/
def gaugeWrite (d : Dev) (m : Master) (ofs : Nat) (w : Word) : Dev :=
  if ofs = R.GAUGE.CMD then d.gaugeCmd (bitsOf w.toNat 0 4) (bitsOf w.toNat 16 16)
  else if ofs = R.GAUGE.REC_ACK then d.recAck w
  else d.plainWrite m .gauge 0 ofs w

/-! ## Compute and communication -/

/-- MRAM (R498, R505). -/
def mramPageWrite (d : Dev) (m : Master) (ofs : Nat) (w : Word) : Dev :=
  if ofs = R.MRAM.CMD then d.mramCmd m w
  else if R.MRAM.SR_CFG ≤ ofs ∧ ofs < R.MRAM.SR_CFG + 64 then d.srCfgWrite m ((ofs - R.MRAM.SR_CFG) / 4) w
  else d.plainWrite m .mram 0 ofs w

/-- INTC (R477–R482). -/
def intcWrite (d : Dev) (m : Master) (i ofs : Nat) (w : Word) : Dev :=
  let s := bitsOf w.toNat 0 8
  if ofs < R.INTC.PRIO + 128 then d.prioWrite i ((ofs - R.INTC.PRIO) / 4) w
  else if R.INTC.VECTOR ≤ ofs then d.vectorWrite i ((ofs - R.INTC.VECTOR) / 4) w
  else if ofs = R.INTC.EOI then d.eoi i s
  else if ofs = R.INTC.SWI then d.swi i w
  else if ofs = R.INTC.CLR_PEND then d.setPend i s false
  else if ofs = R.INTC.TICK then (d.plainWrite m .intc i ofs w).setTick i d.now
  else d.plainWrite m .intc i ofs w

/-- MBOX (R483, R485). What the state does not admit is refused. -/
def mboxWrite (d : Dev) (m : Master) (n ofs : Nat) (w : Word) : Dev :=
  let p := pg .mbox n
  let no := d.refuse m p ofs
  if ofs = R.MBOX.LOCK then (if w = 0 then (d.mbRelease n m.cls).getD no else no)
  else if ofs = R.MBOX.DB_SET then (d.mbDbSet n m.cls w).getD no
  else if ofs = R.MBOX.DONE then (if bitAt w.toNat 0 then (d.mbDone n m.cls).getD no else d)
  else if R.MBOX.MSG ≤ ofs ∧ ofs < R.MBOX.MSG + 64 then (d.mbMsg n m.cls ((ofs - R.MBOX.MSG) / 4) w).getD no
  else if ofs = R.MBOX.DB_MASK then (d.plainWrite m .mbox n ofs w).mbBell n
  else d.plainWrite m .mbox n ofs w

/-- CHECK (R530–R532). -/
def checkWrite (d : Dev) (m : Master) (n ofs : Nat) (w : Word) : Dev :=
  if ofs = R.CHECK.CMD then d.checkCmd n w
  else if ofs = R.CHECK.DIN1 then d.checkDin n 1 w
  else if ofs = R.CHECK.DIN2 then d.checkDin n 2 w
  else if ofs = R.CHECK.DIN4 then d.checkDin n 4 w
  else if ofs = R.CHECK.AC_IN then d.setReg (pg .check n) ofs w
  else d.plainWrite m .check n ofs w

/-- CAN and T1S (R519, R520, R523). -/
def netWrite (d : Dev) (m : Master) (c : Net) (ofs : Nat) (w : Word) (started : Nat) : Dev :=
  match c with
  | .can n =>
    if ofs = R.CAN.TX_CTRL then d.txCtrl c w started
    else if ofs = R.CAN.CMD then (if bitAt w.toNat 0 then d.canRecover n else d)
    else d.plainWrite m .can n.val ofs w
  | .t1s =>
    if ofs = R.T1S.TX_CTRL then d.txCtrl c w started
    else if ofs = R.T1S.PTP_CMD then (if bitAt w.toNat 0 then d.ptpCommit else d)
    else d.plainWrite m .t1s 0 ofs w

/-- PINMUX (R548). -/
def pinmuxWrite (d : Dev) (m : Master) (ofs : Nat) (w : Word) : Dev :=
  if R.PINMUX.MXCFG ≤ ofs ∧ ofs < R.PINMUX.MXCFG + 108 then d.mxcfgWrite m ((ofs - R.PINMUX.MXCFG) / 4) w
  else if ofs = R.PINMUX.GPIO_OUT ∨ ofs = R.PINMUX.GPIO_OE then d.gpioWrite m ofs w
  else d.plainWrite m .pinmux 0 ofs w

/-! ## Every page -/

/-- DOM: CUT has an effect on DOM[3], DOM[6] and DOM[8] only, and reads 0 elsewhere (R347). -/
def domWrite (d : Dev) (m : Master) (n ofs : Nat) (w : Word) : Dev :=
  if ofs = R.DOM.DCFG ∧ n ≠ 3 ∧ n ≠ 6 ∧ n ≠ 8 then d.plainWrite m .dom n ofs (w &&& 0xFFFFFFEF#32)
  else d.plainWrite m .dom n ofs w

/-- A write of a block-specific register, by the kind of page. -/
def blockWrite (d : Dev) (m : Master) (k : PageKind) (i ofs : Nat) (w : Word) (f : WriteFacts) : Dev :=
  match k with
  | .sys => d.sysWrite m ofs w
  | .keyrack => if ofs = R.KEYRACK.KR_REQ then d.krReq m w else d.plainWrite m .keyrack 0 ofs w
  | .pinmux => d.pinmuxWrite m ofs w
  | .clk => d.plainWrite m .clk 0 ofs w
  | .supply => d.supplyWrite m ofs w
  | .path => d.pathWrite m ofs w
  | .seq => d.seqWrite m ofs w
  | .cellar => d.cellarWrite m (pg .cellar) ofs w f.ticks
  | .rtc => d.cellarWrite m (pg .rtc) ofs w f.ticks
  | .fault => d.faultWrite m ofs w
  | .scaolo => if ofs = R.SCAOLO.ARM then d.scaoloArm w else d.plainWrite m .scaolo 0 ofs w
  | .otp => d.otpWrite m ofs w f.burn
  | .rompatch => d.plainWrite m .rompatch 0 ofs w
  | .secboot => d.secbootWrite m ofs w f.burn
  | .debug => d.debugWrite m ofs w
  | .mram => d.mramPageWrite m ofs w
  | .dom => d.domWrite m i ofs w
  | .timebase => d.timebaseWrite m ofs w
  | .proof => d.proofWrite m ofs w
  | .galley => d.galleyWrite m ofs w
  | .chg => d.chgWrite m ofs w
  | .gauge => d.gaugeWrite m ofs w
  | .disch => d.dischWrite m ofs w
  | .monadc => d.plainWrite m .monadc 0 ofs w
  | .bin => d.binWrite m ofs w
  | .openwire => d.plainWrite m .openwire 0 ofs w
  | .cal => (if R.CAL.UCAL ≤ ofs ∧ ofs < R.CAL.UCAL + 352 then d.noteUcal ((ofs - R.CAL.UCAL) / 4) else d).plainWrite m .cal 0 ofs w
  | .intc => d.intcWrite m i ofs w
  | .hostport => d.plainWrite m .hostport 0 ofs w
  | .t1s => d.netWrite m .t1s ofs w f.started.toNat
  | .can => d.netWrite m (.can (if i = 0 then 0 else 1)) ofs w f.started.toNat
  | .conv => d.convWrite m i ofs w
  | .check => d.checkWrite m i ofs w
  | .tile => d.tileWrite m i ofs w
  | .adc => d.adcWrite m i ofs w
  | .mbox => d.mboxWrite m i ofs w
  | .ring => d.ringWrite m i ofs w

end Dev
end Sys2Proof.Machine
end

