-- ==== Sys2Proof/Machine/Bus.lean ====
section
/-!
DEFINITION. Accesses by the masters (R24–R36): the rules of R34 in their order, the header and common control of a page
(R29, R30, R43), memory stores, and what reads return.
-/
namespace Sys2Proof.Machine
namespace Dev

/-! ## Header and common control -/

/-- ENABLE of a page whose key rule has passed, by the rules of its block. -/
def enableWrite (d : Dev) (m : Master) (k : PageKind) (i : Nat) (on : Bool) (fl : List EntryFlaw) : Dev :=
  let p := pg k i
  let net := fun (c : Net) => if on && !d.netKeys m c then d.event p F.HDR.EVENT_NOKEY else d.netEnable c on
  match k with
  | .timebase => d.timebaseEnable d.mem fl on
  | .galley =>
    let e := d.galleyEnable on
    if on then e else e.each (List.range 16) windowClosed
  | .tile => d.tileEnable i on
  | .conv => d.convEnable i on (d.convKeys i)
  | .adc => d.adcEnable i on
  | .bin => d.binEnable on
  | .openwire => d.owEnable on
  | .ring =>
    let x := d.ringEnable i on
    if x.2 then x.1.refuse m p R.HDR.CTRL else x.1
  | .chg => d.chgEnable on (d.keyTag 3 == 0x5023)
    (d.flag (pg .check (d.fld (pg .chg) F.CHG.CFG_BMS_UNIT)) F.HDR.CTRL_ENABLE)
  | .gauge => d.gaugeEnable on (d.keyTag (0x2C4 + d.gaugeBox) == 0x5024)
  | .check => d.checkEnable i on
  | .t1s => net .t1s
  | .can => net (.can (if i = 0 then 0 else 1))
  | _ => d.setFlag p F.HDR.CTRL_ENABLE on

/-- A write of CTRL (R30, R43): SOFT_RESET first, then ENABLE under the key rule. -/
def ctrlWrite (d : Dev) (m : Master) (k : PageKind) (i : Nat) (w : Word) (fl : List EntryFlaw) : Dev :=
  let p := pg k i
  let on := bitAt w.toNat 0
  let d := if bitAt w.toNat 1 then (if d.idle k i then d.softReset k i else d.refuse m p R.HDR.CTRL) else d
  match pageKey p with
  | some key => if on && !d.keyHeldBy m key then d.event p F.HDR.EVENT_NOKEY else d.enableWrite m k i on fl
  | none => d.enableWrite m k i on fl

/-- LOCK set (R30); on FAULT it also writes CONFIG_CRC (R415). -/
def lockWrite (d : Dev) (k : PageKind) (i : Nat) (w : Word) : Dev :=
  let p := pg k i
  if !bitAt w.toNat 0 ∨ d.lockSet p then d
  else
    let d := d.setReg p R.HDR.LOCK 1
    match k with
    | .fault => d.configCrc
    | _ => d

/-- Bits of EVENT that a W1C write clears: DOORBELL of a mailbox clears only through DONE (R485). -/
def eventClearable : PageKind → Word
  | .mbox => 0xFFFFFEFF#32
  | _ => 0xFFFFFFFF#32

/-- A locked page keeps an RWL header register (R34). -/
def hdrLocked (d : Dev) (m : Master) (p ofs mask : Nat) (w : Word) : Dev :=
  let v := w &&& BitVec.ofNat 32 mask
  if d.lockSet p then (if v = d.reg p ofs then d else d.refuse m p ofs) else d.setReg p ofs v

/-- A write of the common header or common control (R29, R30). Writes to an RO register have no effect. -/
def headerWrite (d : Dev) (m : Master) (k : PageKind) (i ofs : Nat) (w : Word) (f : WriteFacts) : Dev :=
  let p := pg k i
  if ofs = R.HDR.CLAIM then d.claimWrite m p w
  else if ofs = R.HDR.LOCK then d.lockWrite k i w
  else if ofs = R.HDR.EVENT then d.setReg p ofs (d.reg p ofs &&& ~~~(w &&& eventClearable k))
  else if ofs = R.HDR.EVENT_MASK then d.setReg p ofs w
  else if ofs = R.HDR.EVENT_SET then d.eventSet m k i w
  else if ofs = R.HDR.FAULT then d.faultClear k i w
  else if ofs = R.HDR.CTRL then d.ctrlWrite m k i w f.flaws
  else if ofs = R.HDR.INT_ROUTE then d.hdrLocked m p ofs 3 w
  else if ofs = R.HDR.ACCESS then d.hdrLocked m p ofs 15 w
  else d

/-! ## The gate of R34 -/

/-- Bit of ACCESS for a master (R30). -/
def accessBit : Master → Nat
  | .ctrl => 0
  | .svc => 1
  | .host => 2
  | .debug => 3

/-- Secure pages (R26). -/
def securePage (k : PageKind) (i : Nat) : Bool :=
  match k with
  | .scaolo => true
  | .otp => true
  | .rompatch => true
  | .secboot => true
  | .debug => true
  | .mbox => decide (i < 4)
  | _ => false

/-- The debug port on the DEBUG page: an access port of its own, which R27 does not govern (R446). -/
def ownPort (m : Master) (k : PageKind) : Bool := m == .debug && k == .debug

/-- The page at an address, as a master reaches it: aligned, not reserved, in the secure state where the page asks for it
(R26, R27, R34). -/
def pageReached (d : Dev) (m : Master) (a : Nat) (wr : Bool) : Option Page :=
  if a % 4 = 0 ∧ regionOf a 4 = some .pages ∧ d.reaches m a 4 wr then
    match pageOf ((a - 0x40000000) / 0x1000) with
    | none => none
    | some q => if securePage q.kind q.inst && !ownPort m q.kind && !d.secure m then none else some q
  else none

/-- ACCESS permits the master to write the page. -/
def accessOk (d : Dev) (m : Master) (k : PageKind) (i : Nat) : Bool :=
  ownPort m k || bitAt (d.reg (pg k i) R.HDR.ACCESS).toNat (accessBit m)

/-- A permitted write of a register. While ARMED, a write to a group or a severity that would break check 0xA is refused
(R423). -/
def regWrite (d : Dev) (m : Master) (k : PageKind) (i ofs : Nat) (w : Word) (f : WriteFacts) : Dev :=
  let e := if ofs < 0x100 then d.headerWrite m k i ofs w f
    else if ofs < 0x800 then d.blockWrite m k i ofs w f
    else d
  match k with
  | .conv => if d.armedHolds && !e.armedHolds then d.refuse m (pg k i) ofs else e
  | .fault => if d.armedHolds && !e.armedHolds then d.refuse m (pg k i) ofs else e
  | _ => e

/-- A 32-bit write to a register page by a master (R34). -/
def pageWrite (d : Dev) (m : Master) (a : Nat) (w : Word) (f : WriteFacts) : Dev :=
  match d.pageReached m a true with
  | none => d.busFault m
  | some q =>
    let ofs := a % 0x1000
    if d.accessOk m q.kind q.inst then { d.regWrite m q.kind q.inst ofs w f with bus := .done }
    else (d.refuse m (pg q.kind q.inst) ofs).busFault m

/-! ## Memory -/

/-- A word store into the galley: not made into a live or pending range (R85). -/
def entryStore (d : Dev) (m : Master) (a : Nat) (w : Word) : Dev :=
  if d.entryHeld ((a - 0x38000000) / 8) then
    ((d.bump (pg .galley) R.GALLEY.WRITE_REFUSED).event (pg .galley) F.GALLEY.EVENT_WRITE_REFUSED).busFault m
  else { d with mem := Mem.setWord d.mem a w, bus := .done }

/-- A word store into a memory. -/
def memStore (d : Dev) (m : Master) (a : Nat) (w : Word) : Dev :=
  if a % 4 = 0 ∧ d.memAllowed m a 4 true then
    (if regionOf a 4 = some .galley then d.entryStore m a w else { d with mem := Mem.setWord d.mem a w, bus := .done })
  else d.busFault m

/-- A 32-bit write by a master to any address (R24, R25, R34). In states in which the masters are without supply, or held in
reset, there is no access. -/
def busWrite (d : Dev) (m : Master) (a : Nat) (w : Word) (f : WriteFacts := {}) : Dev :=
  if !d.busLive then d
  else if regionOf a 4 = some .pages then d.pageWrite m a w f
  else d.memStore m a w

/-- A write of register `ofs` of a page by a master. -/
def portWrite (d : Dev) (m : Master) (k : PageKind) (i ofs : Nat) (w : Word) (f : WriteFacts := {}) : Dev :=
  d.busWrite m (0x40000000 + 0x1000 * pg k i + ofs) w f

/-- A byte or halfword store that the memory's check bits do not concern. Register pages and the galley are written in whole
words (R24, R34). -/
def busStore (d : Dev) (m : Master) (a n : Nat) (w : Word) (flaw : Flaw) (bit : Nat) : Dev :=
  if n = 4 then d.busWrite m a w
  else if !d.busLive then d
  else if (memNo a).isSome then d.subwordStore m a n w flaw bit
  else d.busFault m

/-! ## What registers read as -/

/-- PAGE_CAPS (R30). -/
def pageCaps (k : PageKind) (i : Nat) : Nat :=
  let pre := match k with
    | .disch => true
    | .monadc => true
    | .scaolo => true
    | _ => false
  b2n (k.mirrorWords != 0) + 2 * b2n (pageKey (pg k i)).isSome + 4 * b2n (securePage k i) + 8 * b2n pre +
    65536 * k.mirrorWords

/-- STATUS.ENABLED: CTRL.ENABLE as it takes effect; the galley's at angle 0 (R30, R89). -/
def enabledBit (d : Dev) (k : PageKind) (i : Nat) : Bool :=
  match k with
  | .galley => d.gal.running
  | _ => d.flag (pg k i) F.HDR.CTRL_ENABLE

/-- Highest severity of an active source; 7 none (R428). -/
def maxActive (d : Dev) : Nat :=
  match d.activeList.map d.sevOf with
  | [] => 7
  | s :: l => l.foldl max s

/-- Block-specific bits of STATUS that follow from other state. -/
def statusBits (d : Dev) (k : PageKind) (i : Nat) (w : Nat) : Nat :=
  let put := fun (f : Fld) (v x : Nat) => setBits x f.lo f.w v
  match k with
  | .conv => put F.CONV.STATUS_DERATED (b2n (d.derated i)) w
  | .adc => put F.ADC.STATUS_LP_ALLOWED (b2n (d.lpAllowed i)) w
  | .dom => put F.DOM.STATUS_MASKED (b2n (d.domMasked i)) w
  | .can => put F.CAN.STATUS_CLK_DEGRADED (b2n d.clkDegraded) w
  | .fault => put F.FAULT.STATUS_QUIET_RUN (b2n d.fc.quietSince.isSome) (put F.FAULT.STATUS_MAX_ACTIVE d.maxActive w)
  | .ring =>
    let fill := d.ringFill i
    put F.RING.STATUS_EMPTY (b2n (fill == 0)) (put F.RING.STATUS_FULL (b2n (fill == d.ringSize i))
      (put F.RING.STATUS_ABOVE_WM (b2n (decide (d.fld (pg .ring i) F.RING.WATERMARK_BYTES ≤ fill ∧
        d.fld (pg .ring i) F.RING.WATERMARK_BYTES ≠ 0))) w))
  | _ => w

/-- STATUS of a page (R30). -/
def statusRead (d : Dev) (k : PageKind) (i : Nat) : Nat :=
  let p := pg k i
  let claimed := match pageKey p with
    | some key => d.keyTag key != 0
    | none => false
  d.statusBits k i ((d.reg p R.HDR.STATUS).toNat / 16 * 16) +
    b2n (d.idle k i) + 2 * b2n (d.enabledBit k i) + 4 * b2n claimed + 8 * b2n (d.lockSet p)

/-- Milliseconds of the quiet period that remain (R412). -/
def quietLeft (d : Dev) : Nat :=
  match d.fc.quietSince with
  | none => 0
  | some t => d.fld (pg .fault) F.FAULT.CFG_QUIET - (d.now - t) / 400000

/-- Seconds of the recovery window that remain (R413). -/
def windowLeft (d : Dev) : Nat :=
  if d.fld (pg .fault) F.FAULT.RECOV_STATUS_COUNT = 0 then 0
  else d.fld (pg .fault) F.FAULT.RECOV_CFG_WINDOW - (d.now - d.fc.windowFrom) / 400000000

/-- ISL_STATUS (R429). The level of ALIVE while it toggles is free, and so is that of a released FAULT_N, which other devices may
hold low (R405); a ball whose readback is reported differs from its command. -/
def islStatus (d : Dev) : Word × Dev :=
  let x := d.takeFree
  let aliveRb := if d.alive then bitAt x.1.toNat 0 else d.active (srcNo .scaolo 0 B.SCAOLO.ISL_ALIVE_RB)
  let faultRb := if d.faultN then d.active (srcNo .scaolo 0 B.SCAOLO.ISL_FAULTN_RB) else bitAt x.1.toNat 1
  (BitVec.ofNat 32 (b2n d.alive + 2 * b2n aliveRb + 4 * b2n d.faultN + 8 * b2n faultRb + 16 * b2n d.fc.backup +
    65536 * d.ptAge), x.2)

/-- HSTATUS (R485, R527); LAST_RESULT stands in the register. -/
def hstatus (d : Dev) : Nat :=
  let boxes := fun (f : Nat → Bool) => (List.range 8).foldl (fun (a : Nat) n => if f n then a + 2 ^ n else a) 0
  let bell := boxes (fun n => let p := pg .mbox n
    d.flag p F.MBOX.EVENT_DOORBELL && d.flag p F.MBOX.CFG_HOST_NOTIFY && d.mbHolder n != 1)
  let emptied := boxes (fun n => let p := pg .mbox n
    d.flag p F.MBOX.EVENT_EMPTIED && d.fld p F.MBOX.STATE_LAST_HOLDER == 1)
  d.state + 8 * b2n d.sessionOpen + 16 * bell + 4096 * emptied +
    1048576 * bitsOf (d.reg (pg .hostport) R.HOSTPORT.HSTATUS).toNat 20 4

/-- A header register as it reads. -/
def headerRead (d : Dev) (k : PageKind) (i ofs : Nat) : Word :=
  let p := pg k i
  if ofs = R.HDR.PAGE_ID then BitVec.ofNat 32 (pageId k i)
  else if ofs = R.HDR.PAGE_CAPS then BitVec.ofNat 32 (pageCaps k i)
  else if ofs = R.HDR.CLAIM then (match pageKey p with
    | some key => d.claimWord key
    | none => 0)
  else if ofs = R.HDR.STATUS then BitVec.ofNat 32 (d.statusRead k i)
  else if ofs = R.HDR.PROOF_SEQ then d.proof.active.seq
  else if ofs = R.HDR.EVENT_SET then 0
  else d.reg p ofs

/-- A block-specific register as it reads, with what the read does: ANGLE latches the folio (R52), SEC the calendar (R373), LOCK
takes a mailbox (R483). -/
def blockRead (d : Dev) (m : Master) (k : PageKind) (i ofs : Nat) : Word × Dev :=
  let p := pg k i
  let plain := (match descOf k ofs with
    | some r => d.reg p ofs (if r.banked then m.cls else 0)
    | none => 0#32)
  match k with
  | .debug =>
    if ofs = R.DEBUG.DEVICE_ID_LO then (d.otpCell 0, d)
    else if ofs = R.DEBUG.DEVICE_ID_HI then (d.otpCell 1, d)
    else (plain, d)
  | .keyrack => if ofs = R.KEYRACK.KR_KEY then (d.claimWord (d.fld p F.KEYRACK.KR_SEL_KEY), d) else (plain, d)
  | .pinmux => if ofs = R.PINMUX.GPIO_IN then d.gpioIn else (plain, d)
  | .fault =>
    if ofs = R.FAULT.QUIET_LEFT then (BitVec.ofNat 32 d.quietLeft, d)
    else if ofs = R.FAULT.RECOV_STATUS then
      (BitVec.ofNat 32 (setBits plain.toNat 16 16 d.windowLeft), d)
    else (plain, d)
  | .secboot => if ofs = R.SECBOOT.BOOT_STATUS then (d.bootStatus, d) else (plain, d)
  | .scaolo => if ofs = R.SCAOLO.ISL_STATUS then d.islStatus else (plain, d)
  | .otp => if ofs = R.OTP.FUSE_LOCK then (BitVec.ofNat 32 d.fuseLock, d) else (plain, d)
  | .timebase =>
    if ofs = R.TIMEBASE.ANGLE then (plain, d.setReg p R.TIMEBASE.FOLIO_AT_ANGLE (d.reg p R.TIMEBASE.FOLIO)) else (plain, d)
  | .rtc =>
    if ofs = R.RTC.SEC then
      let x := d.takeFree
      let e := x.2.secLatch m.cls (x.1.toNat % 1024)
      (e.reg p ofs m.cls, e)
    else (plain, d)
  | .hostport => if ofs = R.HOSTPORT.HSTATUS then (BitVec.ofNat 32 d.hstatus, d) else (plain, d)
  | .t1s => if ofs = R.T1S.PHY_STATUS then (d.takeFree.1 &&& 7#32, d.takeFree.2) else (plain, d)
  | .conv => if ofs = R.CONV.LIMIT_EFF then (BitVec.ofInt 32 (d.limitEff i), d) else (plain, d)
  | .ring => if ofs = R.RING.FILL then (BitVec.ofNat 32 (d.ringFill i), d) else (plain, d)
  | .check => if ofs = R.CHECK.AC_IN then (0, d) else (plain, d)
  | .gauge => if ofs = R.GAUGE.WAKE_GAP then (d.wakeGap, d) else (plain, d)
  | .mbox =>
    if ofs = R.MBOX.LOCK then
      let x := d.mbLockRead i m.cls
      (BitVec.ofNat 32 x.2, x.1)
    else if ofs = R.MBOX.DB_SET then (d.reg p R.MBOX.DOORBELL, d)
    else (plain, d)
  | _ => (plain, d)

/-- A register at any offset of a page as it reads. -/
def regRead (d : Dev) (m : Master) (k : PageKind) (i ofs : Nat) : Word × Dev :=
  if ofs < 0x100 then (d.headerRead k i ofs, d)
  else if ofs < 0x800 then d.blockRead m k i ofs
  else (d.mirrorRead k (pg k i) ofs, d)

/-- A word of the boot ROM: a used patch replaces it, and a patched read counts in HITS (R454, R462). DEDUCED: an entry with JUMP acts
on instruction fetches only (log entry 59). -/
def romRead (d : Dev) (a : Nat) : Word × Dev :=
  match d.patchAt a with
  | some i => if bitAt (d.patchWords i).1.toNat 1 then (Mem.word d.mem a, d) else ((d.patchWords i).2.1, d.bump (pg .rompatch) R.ROMPATCH.HITS)
  | none => (Mem.word d.mem a, d)

/-- A bus read of a galley entry (R84). -/
def entryRead (d : Dev) (m : Master) (a : Nat) (flaw : Flaw) : Dev :=
  match flaw with
  | .clean => { d with bus := .data (Mem.word d.mem a) }
  | .single => { d.bump (pg .galley) R.GALLEY.ECC_CORRECTED with bus := .data (Mem.word d.mem a) }
  | .double => (d.raise .galley 0 B.GALLEY.GAL_ECC ((a - 0x38000000) / 8)).busFault m

/-- A 32-bit read by a master from any address, with what the check bits of the word show (R24, R25, R34, R84, R473, R496). -/
def busRead (d : Dev) (m : Master) (a : Nat) (flaw : Flaw := .clean) (bit : Nat := 0) : Dev :=
  if !d.busLive then d
  else match regionOf a 4 with
    | none => d.busFault m
    | some .pages =>
      (match d.pageReached m a false with
       | none => d.busFault m
       | some q =>
         let x := d.regRead m q.kind q.inst (a % 0x1000)
         { x.2 with bus := .data x.1 })
    | some .rom =>
      if a % 4 = 0 ∧ d.reaches m a 4 false then
        let x := d.romRead a
        { x.2 with bus := .data x.1 }
      else d.busFault m
    | some .otp =>
      if a % 4 = 0 ∧ d.reaches m a 4 false then { d with bus := .data (d.otpRead ((a - 0x60000000) / 4)) } else d.busFault m
    | some .mram => d.windowRead (.master m) (a - 0x50000000) 4 flaw bit
    | some .galley => if a % 4 = 0 ∧ d.reaches m a 4 false then d.entryRead m a flaw else d.busFault m
    | some _ => d.memoryRead (.master m) a flaw bit

end Dev
end Sys2Proof.Machine
end

