-- ==== Sys2Proof/Machine/Csr.lean ====
section
/-!
DEFINITION. The control and status registers of a pair (R466), and its physical memory protection (R470), by the privileged
specification 20211203 with machine and user mode only (log entry 13).
-/
namespace Sys2Proof.Machine

/-! ## Physical memory protection (R470) -/

/-- Address-matching mode of an entry: 0 OFF, 1 TOR, 3 NAPOT. -/
def CoreS.pmpMode (c : CoreS) (i : Nat) : Nat := bitsOf (vget c.pmpcfg i 0) 3 2

/-- L of an entry. -/
def CoreS.pmpLocked (c : CoreS) (i : Nat) : Bool := bitAt (vget c.pmpcfg i 0) 7

/-- Address register of an entry, in units of 4 bytes, as the matching takes it: bits below the granularity do not count. -/
def CoreS.pmpBase (c : CoreS) (i : Nat) : Nat := (vget c.pmpaddr i 0).toNat / 8 * 8

/-- Number of trailing ones, up to a bound. -/
def trailingOnes (n : Nat) : Nat → Nat
  | 0 => 0
  | k + 1 => if n % 2 = 1 then 1 + trailingOnes (n / 2) k else 0

/-- First byte and end of the range of an entry. -/
def CoreS.pmpRange (c : CoreS) (i : Nat) : Nat × Nat :=
  match c.pmpMode i with
  | 1 => (if i = 0 then 0 else 4 * c.pmpBase (i - 1), 4 * c.pmpBase i)
  | 3 =>
    let a := (vget c.pmpaddr i 0).toNat ||| 3
    let t := trailingOnes a 32
    let size := 2 ^ (t + 3)
    (4 * a / size * size, 4 * a / size * size + size)
  | _ => (0, 0)

/-- Whether an access of `n` bytes at `a` passes: `need` is 1 for a read, 2 for a write, 4 for execution, `mach` its mode. The
first entry that matches a byte decides. -/
def CoreS.pmpOk (c : CoreS) (mach : Bool) (a n need : Nat) : Bool :=
  let hit := (List.range 16).find? (fun i =>
    let r := c.pmpRange i
    decide (r.1 < a + n) && decide (a < r.2) && decide (r.1 < r.2))
  match hit with
  | none => mach
  | some i =>
    let r := c.pmpRange i
    if a < r.1 ∨ r.2 < a + n then false
    else (mach && !c.pmpLocked i) || (vget c.pmpcfg i 0 &&& need != 0)

/-- A byte of pmpcfg as a write leaves it: NA4 leaves the mode OFF (R470), and of the reserved pair R = 0, W = 1 a legal pair
remains, which the spec leaves open (`free`). -/
def pmpLegal (v free : Nat) : Nat :=
  let v := v &&& 0x9F
  let v := if bitsOf v 3 2 = 2 then setBits v 3 2 0 else v
  if bitsOf v 0 2 = 2 then setBits v 0 2 (if bitAt free 0 then 3 else bitsOf free 1 1) else v

/-- A write of pmpcfg word `k`: locked entries keep their byte. -/
def CoreS.pmpCfgWrite (c : CoreS) (k : Nat) (v free : Word) : CoreS :=
  (List.range 4).foldl (fun (c : CoreS) j =>
    let i := 4 * k + j
    if c.pmpLocked i then c
    else { c with pmpcfg := vmod c.pmpcfg i (fun _ => pmpLegal (bitsOf v.toNat (8 * j) 8) (bitsOf free.toNat (8 * j) 8)) }) c

/-- A write of pmpaddr `i`: a locked entry keeps it, and so does one below a locked TOR entry. -/
def CoreS.pmpAddrWrite (c : CoreS) (i : Nat) (v : Word) : CoreS :=
  if c.pmpLocked i ∨ (c.pmpLocked (i + 1) ∧ c.pmpMode (i + 1) = 1) then c
  else { c with pmpaddr := vmod c.pmpaddr i (fun _ => v) }

/-- pmpaddr as it reads with G = 3: bits 1:0 are ones for NAPOT, bits 2:0 zeros otherwise. -/
def CoreS.pmpAddrRead (c : CoreS) (i : Nat) : Word :=
  let a := vget c.pmpaddr i 0
  if 2 ≤ c.pmpMode i then a ||| 3#32 else a &&& 0xFFFFFFF8#32

/-! ## Status -/

/-- FS of mstatus: 0 off, 3 dirty. -/
def CoreS.fs (c : CoreS) : Nat := bitsOf c.mstatus 13 2

/-- The floating-point state marked dirty. -/
def CoreS.dirty (c : CoreS) : CoreS := { c with mstatus := setBits c.mstatus 13 2 3 }

/-- mstatus as it reads, with SD. -/
def CoreS.mstatusRead (c : CoreS) : Nat := c.mstatus + (if c.fs = 3 then 2147483648 else 0)

/-- A write of mstatus: MIE, MPIE, MPP (0 or 3; another value leaves it), FS, MPRV and TW. -/
def CoreS.mstatusWrite (c : CoreS) (v : Nat) : CoreS :=
  let m := merge 0x226088 v c.mstatus
  let m := if bitsOf v 11 2 = 0 ∨ bitsOf v 11 2 = 3 then setBits m 11 2 (bitsOf v 11 2) else m
  { c with mstatus := m }

/-- An x register; x0 reads 0. -/
def CoreS.xr (c : CoreS) (i : Nat) : Word := if i = 0 then 0 else vget c.x i 0

/-- An x register written; x0 takes nothing. -/
def CoreS.setX (c : CoreS) (i : Nat) (v : Word) : CoreS := if i = 0 then c else { c with x := vmod c.x i (fun _ => v) }

/-- An f register. -/
def CoreS.fr (c : CoreS) (i : Nat) : Word := vget c.f i 0

/-- An f register written. -/
def CoreS.setF (c : CoreS) (i : Nat) (v : Word) : CoreS := ({ c with f := vmod c.f i (fun _ => v) } : CoreS).dirty

/-- Flags accrued in fcsr. -/
def CoreS.accrue (c : CoreS) (fl : Nat) : CoreS := if fl = 0 then c else ({ c with fcsr := c.fcsr ||| fl } : CoreS).dirty

namespace Dev

/-! ## Reads and writes of a CSR -/

/-- Whether mcounteren lets user mode read counter `n` (0 cycle, 1 time, 2 instret, 3 to 31 mhpmcounter). -/
def counterOk (c : CoreS) (n : Nat) : Bool := c.mach || bitAt c.mcounteren n

/-- Microseconds since device reset (R466). -/
def coreTime (d : Dev) : Nat := (d.now - d.comp.resetAt) / 400

/-- mcycle counts clocks of 400 MHz, and its value is free once the pair has run on another clock (R465, R466; log entry 60). -/
def mcycle (d : Dev) (i : Nat) : Nat :=
  if d.sysSrc = 0 ∨ d.comp.cycLost then d.takeFree.1.toNat + 4294967296 * d.takeFree.2.takeFree.1.toNat
  else (d.coreS i).cycles d.now

/-- Value of CSR `n` of pair `i`; none where there is no such CSR or the mode may not read it. -/
def csrValue (d : Dev) (i n : Nat) : Option Word :=
  let c := d.coreS i
  let w := fun (v : Nat) => some (BitVec.ofNat 32 v)
  if !c.mach ∧ bitsOf n 8 2 ≠ 0 then none
  else if n = 0x001 ∨ n = 0x002 ∨ n = 0x003 then
    (if c.fs = 0 then none else w (if n = 1 then c.fcsr % 32 else if n = 2 then c.fcsr / 32 else c.fcsr))
  else if 0xC00 ≤ n ∧ n ≤ 0xC1F ∨ 0xC80 ≤ n ∧ n ≤ 0xC9F then
    let k := n % 0x20
    let v := if k = 0 then d.mcycle i
      else if k = 1 then d.coreTime else if k = 2 then c.minstret else 0
    if counterOk c k then w (if n < 0xC80 then v else v / 4294967296) else none
  else if 0xB00 ≤ n ∧ n ≤ 0xB1F ∧ n ≠ 0xB01 ∨ 0xB80 ≤ n ∧ n ≤ 0xB9F ∧ n ≠ 0xB81 then
    let k := n % 0x20
    let v := if k = 0 then d.mcycle i else if k = 2 then c.minstret else 0
    w (if n < 0xB80 then v else v / 4294967296)
  else if 0x323 ≤ n ∧ n ≤ 0x33F then w 0
  else if 0x3A0 ≤ n ∧ n ≤ 0x3A3 then
    w ((List.range 4).foldl (fun (a : Nat) j => a + vget c.pmpcfg (4 * (n - 0x3A0) + j) 0 * 256 ^ j) 0)
  else if 0x3B0 ≤ n ∧ n ≤ 0x3BF then some (c.pmpAddrRead (n - 0x3B0))
  else match n with
    | 0x300 => w c.mstatusRead
    | 0x301 => some 0x40101124#32
    | 0x304 => w c.mie
    | 0x305 => w c.mtvec
    | 0x306 => w c.mcounteren
    | 0x30A => w 0
    | 0x31A => w 0
    | 0x310 => w 0
    | 0x320 => w c.mcountinhibit
    | 0x340 => some c.mscratch
    | 0x341 => w c.mepc
    | 0x342 => some c.mcause
    | 0x343 => some c.mtval
    | 0x344 => w (if (d.intReady i).isSome then 0x800 else 0)
    | 0xF11 => w 0
    | 0xF12 => w 0
    | 0xF13 => w (pageId .sys 0)
    | 0xF14 => w i
    | 0xF15 => w 0
    | 0xFC0 => w c.mintsrc
    | _ => none

/-- The free values that a read of a CSR has taken. -/
def csrFresh (d : Dev) (n : Nat) : Dev :=
  if n = 0xC00 ∨ n = 0xC80 ∨ n = 0xB00 ∨ n = 0xB80 then d.takeFree.2.takeFree.2 else d

/-- CSR `n` written, where it exists and is writable. Fields that the privileged specification hard-wires keep their values. -/
def csrStore (d : Dev) (i n : Nat) (v : Word) : Dev :=
  let x := v.toNat
  let free := d.takeFree.1
  let d := if 0x3A0 ≤ n ∧ n ≤ 0x3A3 then d.takeFree.2 else d
  d.modCore i (fun c =>
    if 0x3A0 ≤ n ∧ n ≤ 0x3A3 then c.pmpCfgWrite (n - 0x3A0) v free
    else if 0x3B0 ≤ n ∧ n ≤ 0x3BF then c.pmpAddrWrite (n - 0x3B0) v
    else match n with
      | 0x001 => ({ c with fcsr := c.fcsr / 32 * 32 + x % 32 } : CoreS).dirty
      | 0x002 => ({ c with fcsr := c.fcsr % 32 + 32 * (x % 8) } : CoreS).dirty
      | 0x003 => ({ c with fcsr := x % 256 } : CoreS).dirty
      | 0x300 => c.mstatusWrite x
      | 0x304 => { c with mie := x &&& 0x800 }
      | 0x305 => { c with mtvec := x / 4 * 4 }
      | 0x306 => { c with mcounteren := x % 8 }
      | 0x320 => ({ c with mcountinhibit := x &&& 5 } : CoreS).clockCycles d.now (!bitAt x 0)
      | 0x340 => { c with mscratch := v }
      | 0x341 => { c with mepc := x / 2 * 2 }
      | 0x342 => { c with mcause := v }
      | 0x343 => { c with mtval := v }
      | 0xB00 => c.setCycles d.now (c.cycles d.now / 4294967296 * 4294967296 + x)
      | 0xB80 => c.setCycles d.now (c.cycles d.now % 4294967296 + 4294967296 * x)
      | 0xB02 => { c with minstret := c.minstret / 4294967296 * 4294967296 + x }
      | 0xB82 => { c with minstret := c.minstret % 4294967296 + 4294967296 * x }
      | _ => c)

end Dev
end Sys2Proof.Machine
end

