-- ==== Sys2Proof/Machine/Fpu.lean ====
section
/-!
DEFINITION. The F extension's arithmetic on binary32 patterns (R466): IEEE 754 with the five rounding modes, subnormals and
flags, by the unprivileged specification 20191213 (log entry 13). Every operation answers its result and its flags, NX 1, UF 2,
OF 4, DZ 8, NV 16.
-/
namespace Sys2Proof.Machine.Fpu

/-- Canonical NaN. -/
def nan : Word := 0x7FC00000#32

/-- A quiet or signalling NaN. -/
def isNan (w : Word) : Bool := bitsOf w.toNat 23 8 == 255 && bitsOf w.toNat 0 23 != 0

/-- A signalling NaN. -/
def isSnan (w : Word) : Bool := isNan w && !bitAt w.toNat 22

/-- An infinity. -/
def isInf (w : Word) : Bool := bitsOf w.toNat 0 31 == 0x7F800000

/-- A zero. -/
def isZero (w : Word) : Bool := bitsOf w.toNat 0 31 == 0

/-- A pattern of magnitude `m` with a sign. -/
def signed (s : Bool) (m : Nat) : Word := BitVec.ofNat 32 (b2n s * 2147483648 + m)

/-- An infinity with a sign. -/
def inf (s : Bool) : Word := signed s 0x7F800000

/-- Whether a quotient `q` with remainder `r` of `b` is rounded up in magnitude (0 RNE, 1 RTZ, 2 RDN, 3 RUP, 4 RMM). -/
def up (rm : Nat) (s : Bool) (q r b : Nat) : Bool :=
  match rm with
  | 0 => decide (b < 2 * r) || (decide (2 * r = b) && q % 2 == 1)
  | 1 => false
  | 2 => s && decide (0 < r)
  | 3 => !s && decide (0 < r)
  | _ => decide (b ≤ 2 * r) && decide (0 < r)

/-- `n / d / 2^e` as quotient, remainder and divisor. -/
def scale (n d : Nat) (e : Int) : Nat × Nat × Nat :=
  let a := if e < 0 then n * 2 ^ (-e).toNat else n
  let b := if e < 0 then d else d * 2 ^ e.toNat
  (a / b, a % b, b)

/-- Exponent of the last of 24 places of `n / d`, with no lower bound. -/
def lastPlace (n d : Nat) : Int :=
  let e : Int := (Nat.log2 n : Int) - Nat.log2 d - 24
  if 16777216 ≤ (scale n d e).1 then e + 1 else e

/-- The value of magnitude `n / d` rounded; a zero magnitude keeps its sign. -/
def round (rm : Nat) (s : Bool) (n d : Nat) : Word × Nat :=
  if n = 0 ∨ d = 0 then (signed s 0, 0)
  else
    let e0 := lastPlace n d
    let e := max e0 (-149)
    let x := scale n d e
    let q := if up rm s x.1 x.2.1 x.2.2 then x.1 + 1 else x.1
    let y := scale n d e0
    let full := (if up rm s y.1 y.2.1 y.2.2 then y.1 + 1 else y.1) == 16777216
    let tiny := decide (e0 < -149) && !(e0 == -150 && full)
    let e' : Int := if q = 16777216 then e + 1 else e
    let q' := if q = 16777216 then 8388608 else q
    let nx := b2n (x.2.1 != 0)
    if q' < 8388608 then (signed s q', nx + (if tiny then 2 * nx else 0))
    else if 105 ≤ e' then
      let toMax := rm = 1 ∨ (rm = 2 ∧ !s) ∨ (rm = 3 ∧ s)
      (if toMax then signed s 0x7F7FFFFF else inf s, 5)
    else (signed s ((e' + 150).toNat * 8388608 + (q' - 8388608)), nx + (if tiny then 2 * nx else 0))

/-- A NaN result, invalid where an operand signals or `bad` says so. -/
def nanOf (l : List Word) (bad : Bool := false) : Word × Nat := (nan, if bad || l.any isSnan then 16 else 0)

/-- An exact signed fraction rounded; an exact zero that is a sum has the sign of `z`. -/
def roundInt (rm : Nat) (z : Bool) (n : Int) (d : Nat) : Word × Nat :=
  if n = 0 then (signed z 0, 0) else round rm (decide (n < 0)) n.natAbs d

/-- Sign of an exact zero sum of two operands. -/
def zeroSign (rm : Nat) (a b : Bool) : Bool := if a = b then a else rm == 2

/-- Sum. -/
def add (rm : Nat) (a b : Word) : Word × Nat :=
  if isNan a || isNan b then nanOf [a, b]
  else if isInf a then (if isInf b && F32.neg a != F32.neg b then nanOf [] true else (a, 0))
  else if isInf b then (b, 0)
  else roundInt rm (zeroSign rm (F32.neg a) (F32.neg b)) (F32.num a * F32.den b + F32.num b * F32.den a) (F32.den a * F32.den b)

/-- The pattern with its sign changed. -/
def opp (a : Word) : Word := a ^^^ 0x80000000#32

/-- Difference. -/
def sub (rm : Nat) (a b : Word) : Word × Nat := if isNan b then nanOf [a, b] else add rm a (opp b)

/-- Product. -/
def mul (rm : Nat) (a b : Word) : Word × Nat :=
  let s := F32.neg a != F32.neg b
  if isNan a || isNan b then nanOf [a, b]
  else if isInf a || isInf b then (if isZero a || isZero b then nanOf [] true else (inf s, 0))
  else round rm s ((F32.mag a).1 * (F32.mag b).1) (F32.den a * F32.den b)

/-- Quotient. -/
def div (rm : Nat) (a b : Word) : Word × Nat :=
  let s := F32.neg a != F32.neg b
  if isNan a || isNan b then nanOf [a, b]
  else if isInf a then (if isInf b then nanOf [] true else (inf s, 0))
  else if isInf b then (signed s 0, 0)
  else if isZero b then (if isZero a then nanOf [] true else (inf s, 8))
  else round rm s ((F32.mag a).1 * F32.den b) (F32.den a * (F32.mag b).1)

/-- Square root. The root of the scaled magnitude has more than 26 places, and a remainder stands in its last bit. -/
def sqrt (rm : Nat) (a : Word) : Word × Nat :=
  if isNan a then nanOf [a]
  else if isZero a then (a, 0)
  else if F32.neg a then nanOf [] true
  else if isInf a then (a, 0)
  else
    let m := F32.mag a
    let odd := Nat.log2 m.2 % 2
    let n := m.1 * 2 ^ (60 + odd)
    let r := Nat.sqrt n
    round rm false (2 * r + b2n (decide (r * r < n))) (2 ^ (1 + 30 + (Nat.log2 m.2 + odd) / 2))

/-- Fused `a × b + c` with signs: `np` negates the product, `nc` the addend. -/
def fma (rm : Nat) (np nc : Bool) (a b c : Word) : Word × Nat :=
  let s := (F32.neg a != F32.neg b) != np
  let c' := if nc then opp c else c
  let bad := (isInf a && isZero b) || (isZero a && isInf b)
  if isNan a || isNan b || isNan c then nanOf [a, b, c] bad
  else if bad then nanOf [] true
  else if isInf a || isInf b then (if isInf c && F32.neg c' != s then nanOf [] true else (inf s, 0))
  else if isInf c then (c', 0)
  else
    let p : Int := (F32.mag a).1 * (F32.mag b).1
    let dp := F32.den a * F32.den b
    roundInt rm (zeroSign rm s (F32.neg c')) ((if s then -p else p) * F32.den c + F32.num c' * dp) (dp * F32.den c)

/-- The key of a pattern that is no NaN in the order of the values, with −0 below +0. -/
def order (a : Word) : Int := if F32.neg a then -(bitsOf a.toNat 0 31 : Int) - 1 else bitsOf a.toNat 0 31

/-- FMIN (`mx` false) and FMAX. -/
def minMax (mx : Bool) (a b : Word) : Word × Nat :=
  let fl := if isSnan a || isSnan b then 16 else 0
  if isNan a && isNan b then (nan, fl)
  else if isNan a then (b, fl)
  else if isNan b then (a, fl)
  else (if decide (order a < order b) != mx then a else b, fl)

/-- FEQ, quiet. -/
def eq (a b : Word) : Bool × Nat :=
  if isNan a || isNan b then (false, if isSnan a || isSnan b then 16 else 0) else (a == b || (isZero a && isZero b), 0)

/-- FLT, or FLE where `le` says so: signalling. -/
def less (le : Bool) (a b : Word) : Bool × Nat :=
  if isNan a || isNan b then (false, 16)
  else if isZero a && isZero b then (le, 0)
  else (decide (order a < order b) || (le && a == b), 0)

/-- FCLASS. -/
def cls (a : Word) : Nat :=
  let s := F32.neg a
  let e := bitsOf a.toNat 23 8
  if isSnan a then 256 else if isNan a then 512
  else if isInf a then (if s then 1 else 128)
  else if isZero a then (if s then 8 else 16)
  else if e = 0 then (if s then 4 else 32)
  else (if s then 2 else 64)

/-- Conversion to an integer between `lo` and `hi`, as a 32-bit word. -/
def toInt (rm : Nat) (lo hi : Int) (a : Word) : Word × Nat :=
  if isNan a then (BitVec.ofInt 32 hi, 16)
  else if isInf a then (BitVec.ofInt 32 (if F32.neg a then lo else hi), 16)
  else
    let s := F32.neg a
    let x := scale (F32.mag a).1 (F32.den a) 0
    let q := if up rm s x.1 x.2.1 x.2.2 then x.1 + 1 else x.1
    let v : Int := if s then -q else q
    if v < lo then (BitVec.ofInt 32 lo, 16) else if hi < v then (BitVec.ofInt 32 hi, 16)
    else (BitVec.ofInt 32 v, b2n (x.2.1 != 0))

/-- Conversion of an integer. -/
def ofInt (rm : Nat) (i : Int) : Word × Nat := roundInt rm false i 1

end Sys2Proof.Machine.Fpu
end

