-- ==== Sys2Proof/Machine/Rv.lean ====
section
/-!
DEFINITION. The instructions of R466: RV32I, M, F, C, Zicsr and Zifencei, decoded from their words (unprivileged specification
20191213, privileged specification 20211203; log entry 13). A 16-bit instruction is expanded to the 32-bit one that it stands
for.
-/
namespace Sys2Proof.Machine

/-- Operations of the integer unit. -/
inductive Alu
  | add | sub | sll | slt | sltu | xor | srl | sra | or | and
  | mul | mulh | mulhsu | mulhu | div | divu | rem | remu
  deriving DecidableEq, Repr

/-- Branch conditions. -/
inductive Br
  | eq | ne | lt | ge | ltu | geu
  deriving DecidableEq, Repr

/-- Operations of the floating-point unit with two operands or one. -/
inductive Fop
  | add | sub | mul | div | sqrt | sgnj | sgnjn | sgnjx | min | max
  | eq | lt | le | cls | toW | toWu | ofW | ofWu | mvX | mvF
  deriving DecidableEq, Repr

/-- A decoded instruction. Offsets and immediates are signed. -/
inductive Rv
  | lui (rd : Nat) (imm : Nat)
  | auipc (rd : Nat) (imm : Nat)
  | jal (rd : Nat) (off : Int)
  | jalr (rd rs : Nat) (off : Int)
  | branch (c : Br) (rs1 rs2 : Nat) (off : Int)
  | load (bytes : Nat) (signed : Bool) (rd rs : Nat) (off : Int)
  | store (bytes : Nat) (rs1 rs2 : Nat) (off : Int)
  | opImm (op : Alu) (rd rs : Nat) (imm : Int)
  | op (op : Alu) (rd rs1 rs2 : Nat)
  | fence
  | ecall
  | ebreak
  | mret
  | wfi
  | csr (op : Nat) (rd : Nat) (imm : Bool) (src : Nat) (n : Nat)
  | flw (rd rs : Nat) (off : Int)
  | fsw (rs1 rs2 : Nat) (off : Int)
  | fma (np nc : Bool) (rd rs1 rs2 rs3 rm : Nat)
  | fop (op : Fop) (rd rs1 rs2 rm : Nat)
  deriving DecidableEq, Repr

namespace Rv

/-! ## 32-bit instructions -/

/-- Immediate of an I-type word. -/
def immI (w : Nat) : Int := toSigned 12 (bitsOf w 20 12)

/-- Immediate of an S-type word. -/
def immS (w : Nat) : Int := toSigned 12 (bitsOf w 7 5 + 32 * bitsOf w 25 7)

/-- Immediate of a B-type word. -/
def immB (w : Nat) : Int :=
  toSigned 13 (2 * bitsOf w 8 4 + 32 * bitsOf w 25 6 + 2048 * bitsOf w 7 1 + 4096 * bitsOf w 31 1)

/-- Immediate of a J-type word. -/
def immJ (w : Nat) : Int :=
  toSigned 21 (2 * bitsOf w 21 10 + 2048 * bitsOf w 20 1 + 4096 * bitsOf w 12 8 + 1048576 * bitsOf w 31 1)

/-- Operation of an OP word by funct7 and funct3. -/
def aluOf (f7 f3 : Nat) : Option Alu :=
  if f7 = 0 then [Alu.add, .sll, .slt, .sltu, .xor, .srl, .or, .and][f3]?
  else if f7 = 0x20 then (if f3 = 0 then some .sub else if f3 = 5 then some .sra else none)
  else if f7 = 1 then [Alu.mul, .mulh, .mulhsu, .mulhu, .div, .divu, .rem, .remu][f3]?
  else none

/-- OP-FP by funct7, rs2 and funct3, with whether funct3 is a rounding mode. -/
def fopOf (f7 rs2 f3 : Nat) : Option (Fop × Bool) :=
  if f7 = 0x00 then some (.add, true)
  else if f7 = 0x04 then some (.sub, true)
  else if f7 = 0x08 then some (.mul, true)
  else if f7 = 0x0C then some (.div, true)
  else if f7 = 0x2C ∧ rs2 = 0 then some (.sqrt, true)
  else if f7 = 0x10 then ([Fop.sgnj, .sgnjn, .sgnjx][f3]?).map (fun o => (o, false))
  else if f7 = 0x14 then ([Fop.min, .max][f3]?).map (fun o => (o, false))
  else if f7 = 0x50 then ([Fop.le, .lt, .eq][f3]?).map (fun o => (o, false))
  else if f7 = 0x60 ∧ rs2 = 0 then some (.toW, true)
  else if f7 = 0x60 ∧ rs2 = 1 then some (.toWu, true)
  else if f7 = 0x68 ∧ rs2 = 0 then some (.ofW, true)
  else if f7 = 0x68 ∧ rs2 = 1 then some (.ofWu, true)
  else if f7 = 0x70 ∧ rs2 = 0 ∧ f3 = 0 then some (.mvX, false)
  else if f7 = 0x70 ∧ rs2 = 0 ∧ f3 = 1 then some (.cls, false)
  else if f7 = 0x78 ∧ rs2 = 0 ∧ f3 = 0 then some (.mvF, false)
  else none

/-- SYSTEM words. -/
def systemOf (w f3 rd rs1 : Nat) : Option Rv :=
  if f3 = 0 then
    if w = 0x00000073 then some .ecall
    else if w = 0x00100073 then some .ebreak
    else if w = 0x30200073 then some .mret
    else if w = 0x10500073 then some .wfi
    else none
  else if f3 = 4 then none
  else some (.csr (f3 % 4) rd (decide (4 ≤ f3)) rs1 (bitsOf w 20 12))

/-- A 32-bit word decoded; none where it is not an instruction of R466. -/
def decode32 (w : Nat) : Option Rv :=
  let rd := bitsOf w 7 5
  let f3 := bitsOf w 12 3
  let rs1 := bitsOf w 15 5
  let rs2 := bitsOf w 20 5
  let f7 := bitsOf w 25 7
  match bitsOf w 0 7 with
  | 0x37 => some (.lui rd (bitsOf w 12 20 * 4096))
  | 0x17 => some (.auipc rd (bitsOf w 12 20 * 4096))
  | 0x6F => some (.jal rd (immJ w))
  | 0x67 => if f3 = 0 then some (.jalr rd rs1 (immI w)) else none
  | 0x63 =>
    ([some Br.eq, some .ne, none, none, some .lt, some .ge, some .ltu, some .geu].getD f3 none).map
      (fun c => .branch c rs1 rs2 (immB w))
  | 0x03 =>
    (match f3 with
     | 0 => some (.load 1 true rd rs1 (immI w))
     | 1 => some (.load 2 true rd rs1 (immI w))
     | 2 => some (.load 4 true rd rs1 (immI w))
     | 4 => some (.load 1 false rd rs1 (immI w))
     | 5 => some (.load 2 false rd rs1 (immI w))
     | _ => none)
  | 0x23 =>
    (match f3 with
     | 0 => some (.store 1 rs1 rs2 (immS w))
     | 1 => some (.store 2 rs1 rs2 (immS w))
     | 2 => some (.store 4 rs1 rs2 (immS w))
     | _ => none)
  | 0x13 =>
    (match f3 with
     | 1 => if f7 = 0 then some (.opImm .sll rd rs1 rs2) else none
     | 5 => if f7 = 0 then some (.opImm .srl rd rs1 rs2) else if f7 = 0x20 then some (.opImm .sra rd rs1 rs2) else none
     | _ => (aluOf 0 f3).map (fun o => .opImm o rd rs1 (immI w)))
  | 0x33 => (aluOf f7 f3).map (fun o => .op o rd rs1 rs2)
  | 0x0F => if f3 ≤ 1 then some .fence else none
  | 0x73 => systemOf w f3 rd rs1
  | 0x07 => if f3 = 2 then some (.flw rd rs1 (immI w)) else none
  | 0x27 => if f3 = 2 then some (.fsw rs1 rs2 (immS w)) else none
  | 0x43 => if f7 % 4 = 0 then some (.fma false false rd rs1 rs2 (f7 / 4) f3) else none
  | 0x47 => if f7 % 4 = 0 then some (.fma false true rd rs1 rs2 (f7 / 4) f3) else none
  | 0x4B => if f7 % 4 = 0 then some (.fma true false rd rs1 rs2 (f7 / 4) f3) else none
  | 0x4F => if f7 % 4 = 0 then some (.fma true true rd rs1 rs2 (f7 / 4) f3) else none
  | 0x53 => (fopOf f7 rs2 f3).map (fun o => .fop o.1 rd rs1 rs2 (if o.2 then f3 else 0))
  | _ => none

/-! ## 16-bit instructions -/

/-- Offset of C.J and C.JAL. -/
def cJump (w : Nat) : Int :=
  toSigned 12 (2 * bitsOf w 3 3 + 16 * bitsOf w 11 1 + 32 * bitsOf w 2 1 + 64 * bitsOf w 7 1 + 128 * bitsOf w 6 1 +
    256 * bitsOf w 9 2 + 1024 * bitsOf w 8 1 + 2048 * bitsOf w 12 1)

/-- Offset of C.BEQZ and C.BNEZ. -/
def cBranch (w : Nat) : Int :=
  toSigned 9 (2 * bitsOf w 3 2 + 8 * bitsOf w 10 2 + 32 * bitsOf w 2 1 + 64 * bitsOf w 5 2 + 256 * bitsOf w 12 1)

/-- Quadrant 0. -/
def c0 (w : Nat) : Option Rv :=
  let rdp := 8 + bitsOf w 2 3
  let rsp := 8 + bitsOf w 7 3
  let off : Int := (4 * bitsOf w 6 1 + 8 * bitsOf w 10 3 + 64 * bitsOf w 5 1 : Nat)
  let sp4 := 4 * bitsOf w 6 1 + 8 * bitsOf w 5 1 + 16 * bitsOf w 11 2 + 64 * bitsOf w 7 4
  match bitsOf w 13 3 with
  | 0 => if sp4 = 0 then none else some (.opImm .add rdp 2 sp4)
  | 2 => some (.load 4 true rdp rsp off)
  | 3 => some (.flw rdp rsp off)
  | 6 => some (.store 4 rsp rdp off)
  | 7 => some (.fsw rsp rdp off)
  | _ => none

/-- Quadrant 1. -/
def c1 (w : Nat) : Option Rv :=
  let rd := bitsOf w 7 5
  let rdp := 8 + bitsOf w 7 3
  let u := bitsOf w 2 5 + 32 * bitsOf w 12 1
  let imm := toSigned 6 u
  match bitsOf w 13 3 with
  | 0 => some (.opImm .add rd rd imm)
  | 1 => some (.jal 1 (cJump w))
  | 2 => some (.opImm .add rd 0 imm)
  | 3 =>
    if u = 0 then none
    else if rd = 2 then
      some (.opImm .add 2 2 (toSigned 10 (16 * bitsOf w 6 1 + 32 * bitsOf w 2 1 + 64 * bitsOf w 5 1 + 128 * bitsOf w 3 2 +
        512 * bitsOf w 12 1)))
    else some (.lui rd (ofSigned 32 (imm * 4096)))
  | 4 =>
    (match bitsOf w 10 2 with
     | 0 => if bitAt w 12 then none else some (.opImm .srl rdp rdp u)
     | 1 => if bitAt w 12 then none else some (.opImm .sra rdp rdp u)
     | 2 => some (.opImm .and rdp rdp imm)
     | _ =>
       if bitAt w 12 then none
       else some (.op ([Alu.sub, .xor, .or, .and].getD (bitsOf w 5 2) .sub) rdp rdp (8 + bitsOf w 2 3)))
  | 5 => some (.jal 0 (cJump w))
  | 6 => some (.branch .eq rdp 0 (cBranch w))
  | _ => some (.branch .ne rdp 0 (cBranch w))

/-- Quadrant 2. -/
def c2 (w : Nat) : Option Rv :=
  let rd := bitsOf w 7 5
  let rs2 := bitsOf w 2 5
  let lsp : Int := (4 * bitsOf w 4 3 + 32 * bitsOf w 12 1 + 64 * bitsOf w 2 2 : Nat)
  let ssp : Int := (4 * bitsOf w 9 4 + 64 * bitsOf w 7 2 : Nat)
  match bitsOf w 13 3 with
  | 0 => if bitAt w 12 then none else some (.opImm .sll rd rd rs2)
  | 2 => if rd = 0 then none else some (.load 4 true rd 2 lsp)
  | 3 => some (.flw rd 2 lsp)
  | 4 =>
    if !bitAt w 12 then
      (if rs2 = 0 then (if rd = 0 then none else some (.jalr 0 rd 0)) else some (.op .add rd 0 rs2))
    else if rs2 = 0 then (if rd = 0 then some .ebreak else some (.jalr 1 rd 0))
    else some (.op .add rd rd rs2)
  | 6 => some (.store 4 2 rs2 ssp)
  | 7 => some (.fsw 2 rs2 ssp)
  | _ => none

/-- A 16-bit parcel decoded. -/
def decode16 (w : Nat) : Option Rv :=
  match w % 4 with
  | 0 => c0 w
  | 1 => c1 w
  | 2 => c2 w
  | _ => none

end Rv

/-! ## Integer arithmetic -/

/-- Result of an integer operation (RV32I, M). -/
def Alu.eval (o : Alu) (a b : Word) : Word :=
  let sh := b.toNat % 32
  match o with
  | .add => a + b
  | .sub => a - b
  | .sll => a <<< sh
  | .slt => if a.toInt < b.toInt then 1 else 0
  | .sltu => if a.toNat < b.toNat then 1 else 0
  | .xor => a ^^^ b
  | .srl => a >>> sh
  | .sra => BitVec.ofInt 32 (asr a.toInt sh)
  | .or => a ||| b
  | .and => a &&& b
  | .mul => a * b
  | .mulh => BitVec.ofInt 32 (asr (a.toInt * b.toInt) 32)
  | .mulhsu => BitVec.ofInt 32 (asr (a.toInt * b.toNat) 32)
  | .mulhu => BitVec.ofNat 32 (a.toNat * b.toNat / 4294967296)
  | .div => if b = 0 then 0xFFFFFFFF#32 else BitVec.ofInt 32 (a.toInt.tdiv b.toInt)
  | .divu => if b = 0 then 0xFFFFFFFF#32 else a / b
  | .rem => if b = 0 then a else BitVec.ofInt 32 (a.toInt.tmod b.toInt)
  | .remu => if b = 0 then a else a % b

/-- Whether a branch is taken. -/
def Br.taken (c : Br) (a b : Word) : Bool :=
  match c with
  | .eq => a == b
  | .ne => a != b
  | .lt => decide (a.toInt < b.toInt)
  | .ge => decide (b.toInt ≤ a.toInt)
  | .ltu => decide (a.toNat < b.toNat)
  | .geu => decide (b.toNat ≤ a.toNat)

end Sys2Proof.Machine
end

