-- ==== Sys2Proof/Machine/CoreExec.lean ====
section
/-!
DEFINITION. A core pair executes an instruction, or takes an exception (R465–R471, R481), and the debugger's step and register
access (R471).
-/
namespace Sys2Proof.Machine

/-- The master that a pair is (R25): 0 control, 1 service. -/
def pairMaster (i : Nat) : Master := if i = 0 then .ctrl else .svc

namespace Dev

/-- The pair executes code of its own: it has been released and runs (R443, R467, R471). While the boot ROM runs, what it does
comes as commands of its own. -/
def pairExecutes (d : Dev) (i : Nat) : Bool := d.busLive && d.bootState == 6 && d.pairRuns i

/-! ## Traps -/

/-- An exception of the pair: it continues at mtvec. mtval takes `tval` or 0, which the privileged specification leaves to the
implementation (log entry 3). -/
def coreTrap (d : Dev) (i cause tval : Nat) : Dev :=
  let x := d.takeFree
  x.2.modCore i (fun c => c.trap (BitVec.ofNat 32 cause) (if bitAt x.1.toNat 0 then BitVec.ofNat 32 tval else 0)
    (BitVec.ofNat 32 c.mtvec))

/-- A trap that has no value for mtval: an environment call. -/
def coreCall (d : Dev) (i : Nat) : Dev :=
  d.modCore i (fun c => c.trap (if c.mach then 11 else 8) 0 (BitVec.ofNat 32 c.mtvec))

/-- The instruction completes: minstret counts, and the pc goes on. -/
def retire (d : Dev) (i : Nat) (pc : Word) (count : Bool := true) : Dev :=
  d.modCore i (fun c => { c with
    pc := pc
    minstret := if count && !bitAt c.mcountinhibit 2 then (c.minstret + 1) % 18446744073709551616 else c.minstret })

/-- The instruction completes with a result for `rd`. -/
def retireX (d : Dev) (i rd : Nat) (v pc : Word) : Dev := (d.modCore i (fun c => c.setX rd v)).retire i pc

/-! ## Fetch -/

/-- Whether a pair may execute at an address (R24, R25, R465, R472): not the service pair from TCM, and nobody from data TCM,
frame memory, the galley, pages, MRAM or OTP. -/
def fetchable (i a : Nat) : Bool :=
  match regionOf a 2 with
  | some .rom => true
  | some .sram => true
  | some .itcm => i == 0
  | _ => false

/-- A 16-bit parcel fetched; none where the fetch faults. -/
def fetchHalf (d : Dev) (i a : Nat) (flaw : Flaw) (bit : Nat) : Dev × Option Nat :=
  let m := pairMaster i
  let c := d.coreS i
  let half := fun (w : Word) => some (bitsOf w.toNat (8 * (a % 4)) 16)
  if !c.pmpOk c.mach a 2 4 then (d, none)
  else if !fetchable i a ∨ !d.memAllowed m a 2 false then (d.busFault m, none)
  else if regionOf a 2 = some .rom then
    let x := d.romRead (a / 4 * 4)
    (x.2, half x.1)
  else
    let x := d.eccRead a m.cls flaw bit
    if x.2 then (x.1, none) else (x.1, half (Mem.word x.1.mem (a / 4 * 4)))

/-- The target of a JUMP patch at a ROM word (R454). -/
def romJump (d : Dev) (a : Nat) : Option Word :=
  if regionOf a 2 = some .rom then
    match d.patchAt a with
    | some k => if bitAt (d.patchWords k).1.toNat 1 then some (d.patchWords k).2.1 else none
    | none => none
  else none

/-! ## Loads and stores -/

/-- A load of `n` bytes by a core (R34, R473): the value zero-extended in `bus`, or a fault. -/
def busLoad (d : Dev) (m : Master) (a n : Nat) (flaw : Flaw) (bit : Nat) : Dev :=
  if n = 4 then d.busRead m a flaw bit
  else
    let part := fun (e : Dev) => match e.bus with
      | .data w => { e with bus := .data (BitVec.ofNat 32 (bitsOf w.toNat (8 * (a % 4)) (8 * n))) }
      | _ => e
    match regionOf a n with
    | some .pages => d.busFault m
    | some .mram => d.windowRead (.master m) (a - 0x50000000) n flaw bit
    | some _ => part (d.busRead m (a / 4 * 4) flaw bit)
    | none => d.busFault m

/-- A load that must wait for the command in progress on the MRAM (R503). -/
def loadWaits (d : Dev) (a n : Nat) : Bool :=
  regionOf a n == some .mram && (match d.jobWrites with
    | some (y, l, _) => areasMeet (a - 0x50000000, n) (y, l.length)
    | none => false)

/-- Mode in which data accesses are checked: MPRV takes MPP's. -/
def dataMode (c : CoreS) : Bool := if c.mach && bitAt c.mstatus 17 then bitsOf c.mstatus 11 2 == 3 else c.mach

/-- A load instruction; `put` takes the word into its register. -/
def coreLoad (d : Dev) (i a n : Nat) (pc : Word) (flaw : Flaw) (bit : Nat) (put : CoreS → Word → CoreS) : Dev :=
  let c := d.coreS i
  if a % n ≠ 0 then d.coreTrap i 4 a
  else if !c.pmpOk (dataMode c) a n 1 then d.coreTrap i 5 a
  else if d.loadWaits a n then d
  else
    let e := d.busLoad (pairMaster i) a n flaw bit
    match e.bus with
    | .data w => (e.modCore i (fun c => put c w)).retire i pc
    | _ => e.coreTrap i 5 a

/-- A store instruction. The pc goes on before the store acts, since a store can reset the device. -/
def coreStore (d : Dev) (i a n : Nat) (v pc : Word) (flaw : Flaw) (bit : Nat) : Dev :=
  let c := d.coreS i
  if a % n ≠ 0 then d.coreTrap i 6 a
  else if !c.pmpOk (dataMode c) a n 2 then d.coreTrap i 7 a
  else
    let e := (d.retire i pc).busStore (pairMaster i) a n v flaw bit
    match e.bus with
    | .fault => (e.modCore i (fun _ => c)).coreTrap i 7 a
    | _ => e

/-! ## Execution -/

/-- Rounding mode of an instruction: the static one, or frm; none where it is reserved. -/
def roundMode (c : CoreS) (rm : Nat) : Option Nat :=
  let r := if rm = 7 then c.fcsr / 32 else rm
  if r ≤ 4 then some r else none

/-- Result of a floating-point operation: a word, whether it goes to an x register, and flags. -/
def fopEval (c : CoreS) (o : Fop) (rs1 rs2 rm : Nat) : Word × Bool × Nat :=
  let a := c.fr rs1
  let b := c.fr rs2
  let x := c.xr rs1
  let f := fun (r : Word × Nat) => (r.1, false, r.2)
  let t := fun (r : Bool × Nat) => (BitVec.ofNat 32 (b2n r.1), true, r.2)
  let sign := fun (s : Word) => ((a &&& 0x7FFFFFFF#32) ||| (s &&& 0x80000000#32), false, 0)
  match o with
  | .add => f (Fpu.add rm a b)
  | .sub => f (Fpu.sub rm a b)
  | .mul => f (Fpu.mul rm a b)
  | .div => f (Fpu.div rm a b)
  | .sqrt => f (Fpu.sqrt rm a)
  | .sgnj => sign b
  | .sgnjn => sign (~~~b)
  | .sgnjx => sign (a ^^^ b)
  | .min => f (Fpu.minMax false a b)
  | .max => f (Fpu.minMax true a b)
  | .eq => t (Fpu.eq a b)
  | .lt => t (Fpu.less false a b)
  | .le => t (Fpu.less true a b)
  | .cls => (BitVec.ofNat 32 (Fpu.cls a), true, 0)
  | .toW => let r := Fpu.toInt rm (-2147483648) 2147483647 a; (r.1, true, r.2)
  | .toWu => let r := Fpu.toInt rm 0 4294967295 a; (r.1, true, r.2)
  | .ofW => f (Fpu.ofInt rm x.toInt)
  | .ofWu => f (Fpu.ofInt rm x.toNat)
  | .mvX => (a, true, 0)
  | .mvF => (x, false, 0)

/-- A CSR instruction (Zicsr): 1 RW, 2 RS, 3 RC. `raw` is the instruction. -/
def coreCsr (d : Dev) (i op rd : Nat) (imm : Bool) (src n raw : Nat) (pc : Word) : Dev :=
  let c := d.coreS i
  let wr := op = 1 ∨ src ≠ 0
  match d.csrValue i n with
  | none => d.coreTrap i 2 raw
  | some old =>
    if wr ∧ n / 1024 = 3 then d.coreTrap i 2 raw
    else
      let v := if imm then BitVec.ofNat 32 src else c.xr src
      let new := if op = 1 then v else if op = 2 then old ||| v else old &&& ~~~v
      let d := d.csrFresh n
      let d := if wr then d.csrStore i n new else d
      let counts := !(decide wr && (n == 0xB02 || n == 0xB82))
      (d.modCore i (fun c => c.setX rd old)).retire i pc counts

/-- MRET. -/
def coreMret (d : Dev) (i : Nat) : Dev :=
  let c := d.coreS i
  let toM := bitsOf c.mstatus 11 2 == 3
  let ms := setBits c.mstatus 3 1 (bitsOf c.mstatus 7 1)
  let ms := setBits (setBits ms 7 1 1) 11 2 0
  let ms := if toM then ms else setBits ms 17 1 0
  (d.modCore i (fun c => { c with mstatus := ms, mach := toM })).retire i (BitVec.ofNat 32 c.mepc)

/-- An interrupt would be delivered but for mstatus.MIE (R479, R481). -/
def wouldWake (d : Dev) (i : Nat) : Bool := (d.intReady i).isSome && bitAt (d.coreS i).mie 11

/-- WFI (R481): the pair's clock stops unless an interrupt would be delivered. -/
def coreWfi (d : Dev) (i : Nat) (pc : Word) : Dev :=
  let e := d.retire i pc
  if d.pairRuns i ∧ !d.wouldWake i then e.setPair i 2 else e

/-- A floating-point instruction writes its register and its flags. -/
def retireF (d : Dev) (i rd : Nat) (v : Word) (toX : Bool) (fl : Nat) (pc : Word) : Dev :=
  (d.modCore i (fun c => (if toX then c.setX rd v else c.setF rd v).accrue fl)).retire i pc

/-- An instruction executed: `pc'` follows it, `raw` is its word. -/
def execRv (d : Dev) (i : Nat) (ins : Rv) (raw : Nat) (pc' : Word) (flaw : Flaw) (bit : Nat) : Dev :=
  let c := d.coreS i
  let at' := fun (r : Nat) (off : Int) => (c.xr r + BitVec.ofInt 32 off).toNat
  match ins with
  | .lui rd imm => d.retireX i rd (BitVec.ofNat 32 imm) pc'
  | .auipc rd imm => d.retireX i rd (c.pc + BitVec.ofNat 32 imm) pc'
  | .jal rd off => d.retireX i rd pc' (c.pc + BitVec.ofInt 32 off)
  | .jalr rd rs off => d.retireX i rd pc' (BitVec.ofNat 32 (at' rs off / 2 * 2))
  | .branch b rs1 rs2 off => d.retire i (if b.taken (c.xr rs1) (c.xr rs2) then c.pc + BitVec.ofInt 32 off else pc')
  | .load n sg rd rs off =>
    d.coreLoad i (at' rs off) n pc' flaw bit
      (fun c w => c.setX rd (if sg then BitVec.ofInt 32 (toSigned (8 * n) w.toNat) else w))
  | .store n rs1 rs2 off => d.coreStore i (at' rs1 off) n (c.xr rs2) pc' flaw bit
  | .opImm o rd rs imm => d.retireX i rd (o.eval (c.xr rs) (BitVec.ofInt 32 imm)) pc'
  | .op o rd rs1 rs2 => d.retireX i rd (o.eval (c.xr rs1) (c.xr rs2)) pc'
  | .fence => d.retire i pc'
  | .ecall => d.coreCall i
  | .ebreak => d.coreTrap i 3 c.pc.toNat
  | .mret => if c.mach then d.coreMret i else d.coreTrap i 2 raw
  | .wfi => if !c.mach ∧ bitAt c.mstatus 21 then d.coreTrap i 2 raw else d.coreWfi i pc'
  | .csr op rd imm src n => d.coreCsr i op rd imm src n raw pc'
  | .flw rd rs off =>
    if c.fs = 0 then d.coreTrap i 2 raw
    else d.coreLoad i (at' rs off) 4 pc' flaw bit (fun c w => c.setF rd w)
  | .fsw rs1 rs2 off =>
    if c.fs = 0 then d.coreTrap i 2 raw else d.coreStore i (at' rs1 off) 4 (c.fr rs2) pc' flaw bit
  | .fma np nc rd rs1 rs2 rs3 rm =>
    (match (if c.fs = 0 then none else roundMode c rm) with
     | some r =>
       let x := Fpu.fma r np nc (c.fr rs1) (c.fr rs2) (c.fr rs3)
       d.retireF i rd x.1 false x.2 pc'
     | none => d.coreTrap i 2 raw)
  | .fop o rd rs1 rs2 rm =>
    (match (if c.fs = 0 then none else roundMode c rm) with
     | some r =>
       let x := fopEval c o rs1 rs2 r
       d.retireF i rd x.1 x.2.1 x.2.2 pc'
     | none => d.coreTrap i 2 raw)

/-- The instruction at the pc: its length, its word and what it is; none where it is illegal. -/
abbrev Fetched := Nat × Nat × Option Rv

/-- The instruction at the pc fetched; none where the fetch faults, with the address that faulted in the second place. An instruction
within one word reads that word once. -/
def fetch (d : Dev) (i : Nat) (flaw : Flaw) (bit : Nat) : Dev × Except Nat Fetched :=
  let a := (d.coreS i).pc.toNat
  match d.fetchHalf i a flaw bit with
  | (e, none) => (e, .error a)
  | (e, some lo) =>
    if lo % 4 ≠ 3 then (e, .ok (2, lo, Rv.decode16 lo))
    else
      let a2 := (a + 2) % 4294967296
      match e.fetchHalf i a2 .clean bit with
      | (e', none) => (e', .error a2)
      | (e', some hi) => (if a2 / 4 = a / 4 then e else e', .ok (4, lo + 65536 * hi, Rv.decode32 (lo + 65536 * hi)))

/-- One instruction of a pair, or the exception that it takes. The flaws are what the check bits show on its fetch and on its
data access (R473). -/
def coreInstruction (d : Dev) (i : Nat) (ff df : Flaw) (bit : Nat) : Dev :=
  let c := d.coreS i
  let d := { d with bus := .none }
  match d.romJump c.pc.toNat with
  | some b =>
    (match d.fetchHalf i c.pc.toNat .clean 0 with
     | (_, some _) => (d.bump (pg .rompatch) R.ROMPATCH.HITS).modCore i (fun c => { c with pc := b })
     | (e, none) => e.coreTrap i 1 c.pc.toNat)
  | none =>
    match d.fetch i ff bit with
    | (e, .error a) => e.coreTrap i 1 a
    | (e, .ok (n, raw, some ins)) => e.execRv i ins raw (c.pc + BitVec.ofNat 32 n) df bit
    | (e, .ok (_, raw, none)) => e.coreTrap i 2 raw

/-- CORE_INSTRUCTION of a pair that executes. -/
def corePair (d : Dev) (i : Nat) (ff df : Flaw) (bit : Nat) : Dev :=
  if d.pairExecutes i then d.coreInstruction i ff df bit else d

/-- The instruction at the pc of a pair that executes is WFI and no patch takes it, so both cores execute it (R454, R481). -/
def pairWfi (d : Dev) (i : Nat) : Dev :=
  if d.pairExecutes i ∧ (d.romJump (d.coreS i).pc.toNat).isNone then
    match d.fetch i .clean 0 with
    | (_, .ok (_, _, some .wfi)) => d.coreInstruction i .clean .clean 0
    | _ => d
  else d

/-! ## Debug (R471) -/

/-- STEP: one instruction of a halted pair, interrupts not taken; refused in RUN. -/
def pairStep (d : Dev) (m : Master) (i : Nat) (ff df : Flaw) (bit : Nat) : Dev :=
  if d.pairCtrlOk m ∧ d.state ≠ 4 ∧ d.busLive ∧ d.bootState = 6 ∧ d.pairStatus i = 3 ∧ !d.pairStopped i then
    d.coreInstruction i ff df bit
  else d

/-- The register that PAIR_REG_SEL selects, of a pair: value where it exists. -/
def pairReg (d : Dev) : Option Word :=
  let p := pg .sys
  let i := d.fld p F.SYS.PAIR_REG_SEL_PAIR
  let n := d.fld p F.SYS.PAIR_REG_SEL_INDEX
  let c := d.coreS i
  match d.fld p F.SYS.PAIR_REG_SEL_SPACE with
  | 0 => if n < 32 then some (c.xr n) else none
  | 1 => if n < 32 then some (c.fr n) else none
  | 2 => ({ d with comp := { d.comp with core := vmod d.comp.core i (fun c => { c with mach := true }) } } : Dev).csrValue i n
  | _ => some c.pc

/-- Whether an access of PAIR_REG_DATA is made: by debug at level 1 or above, to a halted pair. -/
def pairRegOk (d : Dev) (m : Master) : Bool :=
  d.pairCtrlOk m && d.pairStatus (d.fld (pg .sys) F.SYS.PAIR_REG_SEL_PAIR) == 3

/-- A read of PAIR_REG_DATA with WRITE = 0. -/
def pairRegRead (d : Dev) (m : Master) : Dev :=
  let p := pg .sys
  if d.pairRegOk m ∧ !d.flag p F.SYS.PAIR_REG_SEL_WRITE then
    match d.pairReg with
    | some v =>
      let d := if d.fld p F.SYS.PAIR_REG_SEL_SPACE = 2 then d.csrFresh (d.fld p F.SYS.PAIR_REG_SEL_INDEX) else d
      { d.setReg p R.SYS.PAIR_REG_DATA v with bus := .data v }
    | none => d
  else d

/-- A write of PAIR_REG_DATA with WRITE = 1: the register in both cores. -/
def pairRegWrite (d : Dev) (m : Master) (v : Word) : Dev :=
  let p := pg .sys
  let i := d.fld p F.SYS.PAIR_REG_SEL_PAIR
  let n := d.fld p F.SYS.PAIR_REG_SEL_INDEX
  if d.pairRegOk m ∧ d.flag p F.SYS.PAIR_REG_SEL_WRITE then
    let d := d.setReg p R.SYS.PAIR_REG_DATA v
    match d.fld p F.SYS.PAIR_REG_SEL_SPACE with
    | 0 => if n < 32 then d.modCore i (fun c => c.setX n v) else d
    | 1 => if n < 32 then d.modCore i (fun c => { c with f := vmod c.f n (fun _ => v) }) else d
    | 2 => if d.pairReg.isSome ∧ n / 1024 ≠ 3 then d.csrStore i n v else d
    | _ => d.modCore i (fun c => { c with pc := BitVec.ofNat 32 (v.toNat / 2 * 2) })
  else d

end Dev
end Sys2Proof.Machine
end

