-- ==== Sys2Proof/Machine/GalleyFire.lean ====
section
/-!
DEFINITION. The actions that fire in a slot (R94, R95, R97–R103).
-/
namespace Sys2Proof.Machine
namespace Dev

/-- What a fired action did: skipped with a cause (R98), or carried out. -/
abbrev Fired := Dev × Option Nat

/-- Whether a condition of R16 blocks a probe step on group `g`: burst or sleep, an add or shed within the last 16 periods, a
cycle-limited period within the last 16. -/
def probeBlocked (d : Dev) (g : Nat) : Bool :=
  let c := d.convS g
  d.gstate g == 4 || d.gstate g == 5 || decide (0 < c.changeT) || decide (c.sinceLimited < 16)

/-- An action on group `g`, collected for its next update point (R94, R98, R103). DESIGN CHOICE: where several causes hold for one
PROBE_START the lowest is recorded (log entry 33). -/
def fireGroup (d : Dev) (g code op : Nat) : Fired :=
  if code = 0x01 then (d.collect g (.ref (toSigned 24 op * 256)), none)
  else if code = 0x02 then (d.collect g (.step (toSigned 24 op * 256)), none)
  else if code = 0x03 then (d.collect g (.permit (bitAt op 0) (bitAt op 1) (bitAt op 8) (bitAt op 9)), none)
  else if d.probeBlocked g then (d, some 2)
  else if (d.convS g).probe.isSome then (d, some 3)
  else if !d.flag (pg .gauge) F.HDR.CTRL_ENABLE then (d, some 4)
  else (d.collect g (.probe (bitAt op 5) (bitsOf op 0 5) (bitsOf op 8 16)), none)

/-- An IRQ action (R94). -/
def fireIrq (d : Dev) (line op : Nat) : Dev :=
  let p := pg .galley
  let f : Fld := ⟨R.HDR.EVENT, 16 + line, 1⟩
  let d := if d.flag p f then d.bump p R.GALLEY.IRQ_OVERRUN else d
  (d.event p f).setReg p (R.GALLEY.IRQ_DATA + 4 * line) (BitVec.ofNat 32 (op % 16777216))

/-- A REG_WRITE (R95, R97): a read-modify-write of the control pair, whose refusal is marked with MASTER 5. A write to the CELLAR or
RTC page is judged here too, though it lands later (R369). -/
def fireRegWrite (d : Dev) (i op : Nat) : Fired :=
  let gp := pg .galley
  if !d.wlValid i then (d, some 6)
  else
    let addr := bitsOf (d.reg gp (R.GALLEY.WL_ADDR + 4 * i)).toNat 0 20
    let fw := (d.reg gp (R.GALLEY.WL_FIELD + 4 * i)).toNat
    let ofs := addr % 0x1000
    match pageOf (addr / 0x1000) with
    | none => (d, none)
    | some ⟨k, n⟩ =>
      let p := pg k n
      let at' := d.reg p R.HDR.REFUSED_AT
      let old := match descOf k ofs with
        | some r => (d.reg p ofs (if r.banked then Master.ctrl.cls else 0)).toNat &&& d.writableBits k n r
        | none => 0
      let new := BitVec.ofNat 32 (setBits old (bitsOf fw 0 5) (bitsOf fw 8 5) op)
      let e := d.setReg p R.HDR.REFUSED_AT 0
      let e := if k = .cellar ∨ k = .rtc then e.plainWrite .ctrl k n ofs new else e.regWrite .ctrl k n ofs new {}
      if d.accessOk .ctrl k n ∧ e.reg p R.HDR.REFUSED_AT = 0 then (d.regWrite .ctrl k n ofs new {}, none)
      else
        let d := (d.bump gp R.GALLEY.WL_REFUSED).event gp F.GALLEY.EVENT_WL_REFUSED
        (d.setReg p R.HDR.REFUSED_AT (BitVec.ofNat 32 (ofs + 4096 * 5 + 65536 * min (bitsOf at'.toNat 16 16 + 1) 0xFFFF)),
          none)

/-- One action fired (R94, R98). -/
def fireAct (d : Dev) (a : Act) : Fired :=
  let page := a.target / 16
  let sub := a.target % 16
  let onPage := match pageOf page with
    | some ⟨k, i⟩ => d.enabledBit k i
    | none => false
  if a.code = 0x38 then d.fireRegWrite a.target a.operand
  else if !onPage then (d, some 1)
  else if a.code ≤ 0x04 then d.fireGroup (page - 0x30) a.code a.operand
  else if a.code = 0x10 then (d.setFld (pg .galley) ⟨R.GALLEY.WIN_STATE, sub, 1⟩ 1, none)
  else if a.code = 0x11 then ((d.setFld (pg .galley) ⟨R.GALLEY.WIN_STATE, sub, 1⟩ 0).windowClosed sub, none)
  else if a.code = 0x20 then
    (if !bitAt (d.reg (pg .proof) R.PROOF.TRIG_EN).toNat 1 then (d, some 5)
     else (d.proofTrigger 1, none))
  else if a.code = 0x21 then
    (d.ringMark (page - 0x80) a.operand, none)
  else if a.code = 0x28 then (d.fireIrq sub a.operand, none)
  else (d.setGo sub true, none)

/-- One action fired and counted: EXECUTED, or SKIPPED with its cause (R98, R102). -/
def fireCount (d : Dev) (a : Act) : Dev :=
  let p := pg .galley
  match d.fireAct a with
  | (e, none) => e.bump p R.GALLEY.EXECUTED
  | (e, some c) =>
    ((e.bump p R.GALLEY.SKIPPED).setReg p R.GALLEY.LAST_SKIP (BitVec.ofNat 32 (a.entry + 65536 * c))).event p
      F.GALLEY.EVENT_SKIP

/-- The actions of a slot fired in order. -/
def fireList (d : Dev) (l : List Act) : Dev := d.each l fireCount

/-- An action that a full slot leaves over is deferred, once more if it was before; one that finds 64 waiting is dropped (R101,
R102). `was` is the number of actions ahead of it that had been deferred before. -/
def deferList (d : Dev) : List Act → Nat → Dev
  | [], _ => d
  | a :: l, was =>
    let p := pg .galley
    if was = 0 ∧ 64 ≤ d.gal.deferred.length then
      (((d.bump p R.GALLEY.DROPPED).event p F.GALLEY.EVENT_DROP).raise .galley 0 B.GALLEY.GAL_DROP).deferList l 0
    else
      let folio := (d.reg (pg .timebase) R.TIMEBASE.FOLIO).toNat
      let d := ((d.bump p R.GALLEY.DEFERRED).event p F.GALLEY.EVENT_DEFER).setReg p R.GALLEY.LAST_DEFER
        (BitVec.ofNat 32 (d.angle + 65536 * (folio % 65536)))
      { d with gal := { d.gal with deferred := d.gal.deferred ++ [a] } }.deferList l (was - 1)

/-- A slot: at most 16 actions fire, deferred ones first (R101); none while the timebase is STOPPED (R88). After ENABLE went to 0
on this clock only the actions that were due fire, and nothing is deferred (R89). -/
def galleySlot (d : Dev) : Dev :=
  let old := d.gal.deferred
  let due := d.gal.due
  if d.tbActive = 0 then d
  else
    let d := { d with gal := { d.gal with due := [], deferred := [] } }
    if d.gal.running then (d.deferList ((old ++ due).drop 16) (old.length - 16)).fireList ((old ++ due).take 16)
    else d.fireList (due.take 16)

end Dev
end Sys2Proof.Machine
end

