-- ==== Sys2Proof/Machine/Host.lean ====
section
/-!
DEFINITION. The host port and the Ammir protocol (R525–R529): requests and their responses, on the host port and on the boot
paths.
-/
namespace Sys2Proof.Machine

/-- PATH of BOOT_CFG that names a way (R431). -/
def wayPath : Way → Nat
  | .port => 0
  | .can => 1
  | .t1s => 2

/-- A request that came whole: its way, TAG and LEN. -/
structure Req where
  way : Way := .port
  cmd : Nat
  tag : Nat
  len : Nat
  deriving DecidableEq, Repr

/-- The bytes of a response frame (R526). -/
def Response.bytes (r : Response) : List Nat :=
  let l := [r.cmd % 256, r.tag % 256, r.len % 256, r.len / 256 % 256, r.result % 256, 0, 0, 0] ++ r.data.flatMap Crc.wordBytes
  l ++ Crc.wordBytes (BitVec.ofNat 32 (Crc.crc32 l))

namespace Dev

/-- The host port changed. -/
def modHost (d : Dev) (f : HostS → HostS) : Dev := { d with host := f d.host }

/-! ## Responses (R525–R528) -/

/-- A request answered: FRAMES, LAST_RESULT, DENIED, and the response, which replaces one that has not been read. On a boot path
the device puts it out itself. -/
def respond (d : Dev) (r : Req) (result : Nat) (data : List Word) : Dev :=
  let p := pg .hostport
  let d := d.bump p R.HOSTPORT.FRAMES
  let d := d.setFld p ⟨R.HOSTPORT.HSTATUS, 20, 4⟩ result
  let d := if result = 4 ∨ result = 5 then d.bump p R.HOSTPORT.DENIED else d
  let x : Response := ⟨r.cmd, r.tag, r.len, result, data⟩
  d.modHost (fun h => { h with
    resp := (match r.way with | .port => some x | _ => h.resp)
    out := (match r.way with | .port => h.out | _ => x.bytes)
    crcRun := if result = 1 then h.crcRun + 1 else 0
    lastAt := d.now })

/-- A request frame that failed its CRC (R528): HP_CRC on the eighth in a row; a boot failure where it was a boot transfer. -/
def frameCrcError (d : Dev) (r : Req) (boot : Bool) : Dev :=
  let p := pg .hostport
  let d := ((d.respond r 1 []).bump p R.HOSTPORT.CRC_ERRS).event p F.HOSTPORT.EVENT_CRC_ERR
  let d := if d.host.crcRun = 8 then d.raise .hostport 0 B.HOSTPORT.HP_CRC 8 else d
  if boot then d.bootTransport else d

/-! ## Register accesses (R445, R526) -/

/-- What RESULT a faulting access gets: denied outside a session, by ACCESS or by SESS_CFG.WINDOW, and a bus fault otherwise
(R528). -/
def hostFault (d : Dev) (a : Nat) (wr : Bool) : Nat :=
  match regionOf a 4 with
  | none => 4
  | some .pages =>
    let q := (a - 0x40000000) / 0x1000
    if !d.sessionOpen && !openBox q then 5
    else if wr then
      (match d.pageReached .host a true with
       | some q => if d.accessOk .host q.kind q.inst then 4 else 5
       | none => 4)
    else 4
  | some .rom => if d.sessionOpen then 4 else 5
  | some .mram => if d.sessionOpen then 4 else 5
  | some .otp => if d.sessionOpen then 4 else 5
  | some _ => if d.sessionOpen && d.flag (pg .secboot) F.SECBOOT.SESS_CFG_WINDOW then 4 else 5

/-- `n` consecutive words read from address `a`, up to the first failing one: RESULT and the words. -/
def hostWords (d : Dev) : Nat → Nat → Dev × Nat × List Word
  | 0, _ => (d, 0, [])
  | n + 1, a =>
    let e := d.busRead .host a
    match e.bus with
    | .data w =>
      let x := hostWords e n (a + 4)
      (x.1, x.2.1, w :: x.2.2)
    | _ => (e, d.hostFault a false, [])

/-- Consecutive words written from address `a`, up to the first failing one. -/
def hostStores (d : Dev) : List Word → Nat → Dev × Nat
  | [], _ => (d, 0)
  | w :: l, a =>
    let e := d.busWrite .host a w
    match e.bus with
    | .done => hostStores e l (a + 4)
    | _ => (e, d.hostFault a true)

/-- READ. -/
def hostRead (d : Dev) (r : Req) (a : Nat) : Dev :=
  let x := d.hostWords r.len a
  x.1.respond r x.2.1 (if x.2.1 = 0 then x.2.2 else [])

/-- WRITE. -/
def hostWrite (d : Dev) (r : Req) (a : Nat) (l : List Word) : Dev :=
  let x := d.hostStores l a
  x.1.respond r x.2 []

/-- STATUS: BOOT_STATUS and HSTATUS (R527). -/
def hostStatus (d : Dev) (r : Req) : Dev :=
  d.respond r 0 [d.bootStatus, BitVec.ofNat 32 d.hstatus]

/-! ## Boot transfers and sessions -/

/-- A boot transfer, executed on the selected path only (R431). -/
def bootVia (d : Dev) (r : Req) (f : Dev → Dev × Nat) : Dev :=
  if d.state = 2 ∧ d.fld (pg .secboot) F.SECBOOT.BOOT_CFG_PATH = wayPath r.way then
    let x := f d
    x.1.respond r x.2 []
  else d.respond r 5 []

/-- SESS_CHALLENGE: the response carries the nonce. -/
def hostChallenge (d : Dev) (r : Req) (healthy : Bool) : Dev :=
  let x := d.sessChallenge healthy
  x.1.respond r x.2 (if x.2 = 0 then (List.range 8).map (fun i => x.1.reg (pg .secboot) (R.SECBOOT.SESS_NONCE + 4 * i)) else [])

/-- SESS_RESPONSE. -/
def hostResponse (d : Dev) (r : Req) (mac : List Nat) : Dev :=
  let x := d.sessResponse mac
  x.1.respond r x.2 []

/-- SESS_CLOSE by the host. -/
def hostClose (d : Dev) (r : Req) : Dev := d.sessEnd.respond r 0 []

/-! ## Reading the port (R525) -/

/-- Opcode 0x0B: the response to the last request is put out. -/
def responseRead (d : Dev) : Dev :=
  match d.host.resp with
  | some r => d.modHost (fun h => { h with resp := none, out := r.bytes, lastAt := d.now })
  | none => d

/-- Opcode 0x05: the two status words and their CRC are put out. -/
def statusWordsRead (d : Dev) : Dev :=
  let l := Crc.wordBytes d.bootStatus ++ Crc.wordBytes (BitVec.ofNat 32 d.hstatus)
  d.modHost (fun h => { h with out := l ++ Crc.wordBytes (BitVec.ofNat 32 (Crc.crc32 l)), lastAt := d.now })

/-! ## Whole frames on the boot paths (R529) -/

/-- The commands that carry a payload. -/
def carries (cmd : Nat) : Bool := [0x10, 0x11, 0x12, 0x21, 0x41].contains cmd

/-- The command codes (R526). -/
def commandCodes : List Nat := [0x01, 0x10, 0x11, 0x12, 0x20, 0x21, 0x40, 0x41, 0x42]

/-- A boot transfer by its command code. -/
def bootCode (cmd : Nat) : Bool := decide (0x10 ≤ cmd) && decide (cmd ≤ 0x12)

/-- Bytes as words, low byte first. -/
def bytesWords (l : List Nat) (n : Nat) : List Word := (List.range n).map (fun i => BitVec.ofNat 32 (le l (4 * i) 4))

/-- Whether LEN is valid for a command. A segment's own length is checked by the ROM. -/
def lenOk (cmd n : Nat) : Bool :=
  if cmd = 0x10 then n == 576
  else if cmd = 0x11 then decide (1 ≤ n) && decide (n ≤ 16384)
  else if cmd = 0x12 then n == 44
  else if cmd = 0x20 ∨ cmd = 0x21 then decide (n ≤ 16384)
  else if cmd = 0x41 then n == 8
  else n == 0

/-- A request of a known command and length (R525–R528). -/
def frameServe (d : Dev) (r : Req) (a : Nat) (body : List Nat) : Dev :=
  if r.cmd = 0x01 then d.hostStatus r
  else if r.cmd = 0x10 then d.bootVia r (fun d => d.bootHeader body)
  else if r.cmd = 0x11 then d.bootVia r (fun d => d.bootSegment a body)
  else if r.cmd = 0x12 then d.bootVia r (fun d => d.bootColophon body)
  else if r.cmd = 0x20 then d.hostRead r a
  else if r.cmd = 0x21 then d.hostWrite r a (bytesWords body r.len)
  else if r.cmd = 0x40 then d.hostChallenge r true
  else if r.cmd = 0x41 then d.hostResponse r body
  else d.hostClose r

/-- A reassembled frame executed: CRC, command and LEN, then the command (R526, R528). -/
def frameRun (d : Dev) (way : Way) (l : List Nat) : Dev :=
  let n := l.length
  let cmd := le l 0 1
  let r : Req := ⟨way, cmd, le l 1 1, le l 2 2⟩
  let a := le l 4 4
  let body := (l.drop 8).take (n - 12)
  if n < 12 ∨ Crc.crc32 (l.take (n - 4)) ≠ le l (n - 4) 4 then d.frameCrcError r (bootCode cmd)
  else if !commandCodes.contains cmd then d.respond r 2 []
  else if !lenOk cmd r.len ∨ body.length ≠ (if carries cmd then 4 * r.len else 0) then d.respond r 3 []
  else d.frameServe r a body

/-- The partial frame is discarded as a CRC failure. -/
def fragDiscard (d : Dev) (way : Way) : Dev :=
  match d.boot.frag with
  | none => d
  | some (l, _) =>
    (d.modBoot (fun b => { b with frag := none })).frameCrcError ⟨way, le l 0 1, le l 1 1, le l 2 2⟩ (bootCode (le l 0 1))

/-- Length of the frame that begins with these bytes; none where LEN has not come yet. -/
def frameLen (l : List Nat) : Option Nat :=
  if l.length < 4 then none else some (12 + (if carries (le l 0 1) then 4 * le l 2 2 else 0))

/-- A fragment joined to the partial frame: the frame runs when it is whole. A CAN frame is whole by its LEN, its padding cut
off; a T1S frame by LAST. -/
def fragJoin (d : Dev) (way : Way) (l : List Nat) (next : Nat) (last : Bool) : Dev :=
  let d := d.modBoot (fun b => { b with fragAt := d.now })
  match way with
  | .can =>
    (match frameLen l with
     | some n => if n ≤ l.length then (d.modBoot (fun b => { b with frag := none })).frameRun .can (l.take n)
       else d.modBoot (fun b => { b with frag := some (l, next) })
     | none => d.modBoot (fun b => { b with frag := some (l, next) }))
  | _ =>
    if last then (d.modBoot (fun b => { b with frag := none })).frameRun way l
    else d.modBoot (fun b => { b with frag := some (l, next) })

/-- A fragment on a boot path while the ROM runs (R529): `m` is the modulus of its count. -/
def bootFragment (d : Dev) (way : Way) (first last : Bool) (count : Nat) (l : List Nat) : Dev :=
  let m := match way with | .can => 128 | _ => 65536
  let next := (count + 1) % m
  if d.state ≠ 2 ∨ way = .port ∨ d.fld (pg .secboot) F.SECBOOT.BOOT_CFG_PATH ≠ wayPath way then d
  else if first then (d.fragDiscard way).fragJoin way l next last
  else match d.boot.frag with
    | none => d
    | some (old, c) => if c = count % m then d.fragJoin way (old ++ l) next last else d.fragDiscard way

/-- A gap of more than 10 ms (R529). -/
def fragmentGap (d : Dev) : Dev :=
  if d.now ≤ d.boot.fragAt + 4000000 then d else
  d.fragDiscard (if d.fld (pg .secboot) F.SECBOOT.BOOT_CFG_PATH = 1 then .can else .t1s)

end Dev
end Sys2Proof.Machine
end

