-- ==== Sys2Proof/Machine/Access.lean ====
section
/-!
DEFINITION. What the commands share above the blocks: which blocks have supply, accesses that reach the debug unit's registers,
writes of the cellar that land at once, the start of a folio, and the host's requests.
-/
namespace Sys2Proof.Machine
namespace Dev

/-- An effect on the main domains, which happens while they have supply (R17). -/
def whenLive (d : Dev) (f : Dev → Dev) : Dev := if d.busLive then f d else d

/-- An effect on the island, which has no supply in CELLAR and OFF (R17, R403). -/
def whenIsland (d : Dev) (f : Dev → Dev) : Dev := if d.islandOn then f d else d

/-- Address of offset `ofs` of page `p` (R26). -/
def pageAddr (p ofs : Nat) : Nat := 0x40000000 + 0x1000 * p + ofs

/-- Number of a pair. -/
def pairNo : Pair → Nat
  | .control => 0
  | .service => 1

/-! ## Time -/

/-- One clock of 400 MHz (R8; log entry 6): PHI advances (R48), a proof that waited is taken (R75), what was due
when the galley was disabled is past (R89), and the clocks spent in RUN
make up RUN_SECONDS (R588). -/
def clockTick (d : Dev) : Dev :=
  let d := { d with now := d.now + 1 }
  let d := d.whenLive (fun d => d.phiTick.proofTick.galleyTick.dischTick.adcTick)
  if d.state = 4 then
    if d.comp.runClk + 1 = 400000000 then
      { d.bump (pg .sys) R.SYS.RUN_SECONDS with comp := { d.comp with runClk := 0 } }
    else { d with comp := { d.comp with runClk := d.comp.runClk + 1 } }
  else d

/-! ## Debug registers of SYS (R471) -/

/-- A write by a master: STEP of PAIR_CTRL runs an instruction, which may itself access the bus, and PAIR_REG_DATA reaches a
halted pair. -/
def masterWrite (d : Dev) (m : Master) (a : Nat) (w : Word) (f : WriteFacts) (ff df : Flaw) (bit : Nat) : Dev :=
  let e := d.busWrite m a w f
  if d.busLive ∧ e.bus = .done then
    if a = pageAddr (pg .sys) R.SYS.PAIR_CTRL ∧ bitsOf w.toNat 0 2 = 2 then e.pairStep m (bitsOf w.toNat 4 1) ff df bit
    else if a = pageAddr (pg .sys) R.SYS.PAIR_REG_DATA then e.pairRegWrite m w
    else e
  else e

/-- A read by a master. -/
def masterRead (d : Dev) (m : Master) (a : Nat) (flaw : Flaw) (bit : Nat) : Dev :=
  let e := d.busRead m a flaw bit
  if d.busLive ∧ e.bus ≠ .fault ∧ a = pageAddr (pg .sys) R.SYS.PAIR_REG_DATA then e.pairRegRead m else e

/-! ## Cellar and calendar -/

/-- A write of a register of the CELLAR or RTC page together with its landing in the cellar (R369). -/
def cellarNow (d : Dev) (m : Master) (k : PageKind) (ofs : Nat) (w : Word) (ticks : Nat) : Dev :=
  let e := d.portWrite m k 0 ofs w { ticks := ticks }
  if d.busLive ∧ e.bus = .done then e.cellarSync (pg k) ticks else e

/-- A read of RTC.SEC in step `sub` of the second (R373). -/
def secRead (d : Dev) (m : Master) (sub : Nat) : Dev :=
  if !d.busLive then d
  else match d.pageReached m (pageAddr (pg .rtc) R.RTC.SEC) false with
    | none => d.busFault m
    | some _ =>
      let e := d.secLatch m.cls sub
      { e with bus := .data (e.reg (pg .rtc) R.RTC.SEC m.cls) }

/-- The ball of AF[`i`] has read `code` on the IWAKE comparator's scale for `ms` ms: a wake event in HIBERNATE where it is the input
watched and lies beyond LO or HI for TIME (R297, R386). -/
def iwake (d : Dev) (i code ms : Nat) : Dev :=
  let p := pg .gauge
  if d.state = 6 ∧ d.flag p F.GAUGE.IWAKE_CFG_EN ∧ i = d.fld p F.GAUGE.IWAKE_SEL_IN ∧ d.fld p F.GAUGE.IWAKE_SEL_TIME ≤ ms ∧
      (code < d.fld p F.GAUGE.IWAKE_CFG_LO ∨ d.fld p F.GAUGE.IWAKE_CFG_HI < code) then d.wakeEvent 8
  else d

/-! ## Folio -/

/-- Angle 0: the new folio (R50), and what the rate measurement makes of it (R379). -/
def angleZero (d : Dev) (fl : List EntryFlaw) : Dev :=
  if !d.wrapDue then d else (d.folioBoundary d.mem fl).measAngle0

/-! ## Host requests (R525–R528) -/

/-- Bytes of a request's payload. -/
def payloadBytes (l : List Byte) : List Nat := l.map (·.toNat)

/-- A request whose payload is `n` bytes long: one of another length is answered with RESULT 0x03. -/
def sized (d : Dev) (r : Req) (l : List Byte) (n : Nat) (f : Dev → Dev) : Dev :=
  if l.length = n then f d else d.respond r 3 []

/-- BOOT_HEADER on the host port: 576 words. -/
def portHeader (d : Dev) (tag : BitVec 8) (l : List Byte) : Dev :=
  let r : Req := ⟨.port, 0x10, tag.toNat, 576⟩
  d.sized r l 2304 (fun d => d.bootVia r (fun d => d.bootHeader (payloadBytes l)))

/-- BOOT_SEGMENT on the host port: `len` words. -/
def portSegment (d : Dev) (tag : BitVec 8) (k : Word) (len : BitVec 16) (l : List Byte) : Dev :=
  let r : Req := ⟨.port, 0x11, tag.toNat, len.toNat⟩
  if lenOk 0x11 len.toNat then
    d.sized r l (4 * len.toNat) (fun d => d.bootVia r (fun d => d.bootSegment k.toNat (payloadBytes l)))
  else d.respond r 3 []

/-- BOOT_COLOPHON on the host port: 44 words. -/
def portColophon (d : Dev) (tag : BitVec 8) (l : List Byte) : Dev :=
  let r : Req := ⟨.port, 0x12, tag.toNat, 44⟩
  d.sized r l 176 (fun d => d.bootVia r (fun d => d.bootColophon (payloadBytes l)))

/-- SESS_RESPONSE on the host port: 8 words. -/
def portMac (d : Dev) (tag : BitVec 8) (l : List Byte) : Dev :=
  let r : Req := ⟨.port, 0x41, tag.toNat, 8⟩
  d.sized r l 32 (fun d => d.hostResponse r (payloadBytes l))

/-- READ on the host port. -/
def portRead (d : Dev) (tag : BitVec 8) (len : BitVec 16) (a : Word) : Dev :=
  let r : Req := ⟨.port, 0x20, tag.toNat, len.toNat⟩
  if lenOk 0x20 len.toNat then d.hostRead r a.toNat else d.respond r 3 []

/-- WRITE on the host port. -/
def portWords (d : Dev) (tag : BitVec 8) (a : Word) (l : List Word) : Dev :=
  let r : Req := ⟨.port, 0x21, tag.toNat, l.length⟩
  if lenOk 0x21 l.length then d.hostWrite r a.toNat l else d.respond r 3 []

/-- A request frame that is not executed: one whose buffer shows an uncorrectable error (`bad`) is discarded (R535); a failed CRC,
an unknown command, or an invalid LEN is answered (R528). -/
def frameRefused (d : Dev) (cmd tag : BitVec 8) (len : BitVec 16) (crcOk bad : Bool) : Dev :=
  let r : Req := ⟨.port, cmd.toNat, tag.toNat, len.toNat⟩
  if bad then (d.bump (pg .hostport) R.HOSTPORT.FRAMES).raise .hostport 0 B.HOSTPORT.HP_RAM
  else if !crcOk then d.frameCrcError r (bootCode cmd.toNat)
  else if !commandCodes.contains cmd.toNat then d.respond r 2 []
  else d.respond r 3 []

end Dev
end Sys2Proof.Machine
end

