-- ==== Sys2Proof/Machine/State.lean ====
section
/-!
DEFINITION. The state of the machine: the device, and the queue of the commands that wait. What the device holds stands in
Machine/Dev.lean; its registers' widths, places and reset values in Machine/RegTable.lean.
-/
namespace Sys2Proof.Machine

/-- The device and the commands that wait, oldest first. -/
structure State where
  dev : Dev
  pending : List Instr
  deriving DecidableEq, Repr

/-- Reasons to stop with a fault. There is none: a bus fault of the device is an effect on its state (R34), and no command acts on
a unit whose behaviour the spec leaves out. -/
inductive Fault
  deriving DecidableEq, Repr

/-- Reasons to refuse a command. -/
inductive Refusal
  /-- The command has no meaning yet. Safe: the machine stops where the hardware goes on. No arm of `exec` raises it. -/
  | notModelled (mnemonic : String)
  deriving DecidableEq, Repr

/-- A change of the device; the queue stays. -/
def State.onDev (s : State) (f : Dev → Dev) : State := { s with dev := f s.dev }

/-- The machine right after reset: BOOT entered from CELLAR, every register at its reset value, the keys as R44 leaves them, memory
with nothing listed, no command waiting. -/
def State.reset : State := { dev := {}, pending := [] }

end Sys2Proof.Machine
end

