-- ==== Sys2Proof/Machine/CmdBoot.lean ====
section
/-!
DEFINITION. Commands of start-up, security and OTP (chapter 15).
-/
namespace Sys2Proof.Machine

/-- BOOT_HEADER (R438). -/
def execBootHeader (tag : BitVec 8) (bytes : List Byte) (s : State) : Host.Outcome State Fault Refusal :=
  .next (s.onDev fun d => d.whenLive fun d => d.portHeader tag bytes)

/-- BOOT_SEGMENT (R437). -/
def execBootSegment (tag : BitVec 8) (k : Word) (len : BitVec 16) (bytes : List Byte) (s : State) : Host.Outcome State Fault Refusal :=
  .next (s.onDev fun d => d.whenLive fun d => d.portSegment tag k len bytes)

/-- BOOT_COLOPHON (R438). -/
def execBootColophon (tag : BitVec 8) (bytes : List Byte) (s : State) : Host.Outcome State Fault Refusal :=
  .next (s.onDev fun d => d.whenLive fun d => d.portColophon tag bytes)

/-- COLOPHON_VERIFIED (R438). -/
def execColophonVerified (s : State) : Host.Outcome State Fault Refusal :=
  .next (s.onDev fun d => d.whenLive fun d => d.colophonVerified)

/-- BOOT_RELEASE (R443). -/
def execBootRelease (s : State) : Host.Outcome State Fault Refusal :=
  .next (s.onDev fun d => d.whenLive fun d => d.bootRelease)

/-- BOOT_TRANSFER_TIMEOUT (R436). -/
def execBootTransferTimeout (s : State) : Host.Outcome State Fault Refusal :=
  .next (s.onDev fun d => d.whenLive fun d => d.bootTimeout)

/-- BOOT_HOLDOFF_END (R439). -/
def execBootHoldoffEnd (s : State) : Host.Outcome State Fault Refusal :=
  .next (s.onDev fun d => d.whenLive fun d => d.bootHoldoffEnd)

/-- BOOT_FRAGMENT (R529). -/
def execBootFragment (way : Way) (first : Bool) (last : Bool) (count : BitVec 16) (bytes : List Byte) (s : State) : Host.Outcome State Fault Refusal :=
  .next (s.onDev fun d =>
    d.whenLive fun d => d.bootFragment way first last count.toNat (Dev.payloadBytes bytes))

/-- FRAGMENT_GAP_TIMEOUT (R529). -/
def execFragmentGapTimeout (s : State) : Host.Outcome State Fault Refusal :=
  .next (s.onDev fun d => d.whenLive fun d => d.fragmentGap)

/-- ARB_ADVANCE (R441). -/
def execArbAdvance (m : Master) (v : BitVec 8) (burn : Bool) (s : State) : Host.Outcome State Fault Refusal :=
  .next (s.onDev fun d =>
    d.portWrite m .secboot 0 R.SECBOOT.CMD (BitVec.ofNat 32 (0x5EB00001 + 16 * v.toNat)) { burn := burn })

/-- REVOKE (R440). -/
def execRevoke (m : Master) (slot : BitVec 8) (burn : Bool) (s : State) : Host.Outcome State Fault Refusal :=
  .next (s.onDev fun d =>
    d.portWrite m .secboot 0 R.SECBOOT.CMD (BitVec.ofNat 32 (0x5EB00002 + 16 * slot.toNat)) { burn := burn })

/-- ATTEST (R448). -/
def execAttest (m : Master) (s : State) : Host.Outcome State Fault Refusal :=
  .next (s.onDev fun d => d.portWrite m .secboot 0 R.SECBOOT.CMD 0x5EB00003)

/-- SESS_CLOSE (R444). -/
def execSessClose (m : Master) (s : State) : Host.Outcome State Fault Refusal :=
  .next (s.onDev fun d => d.portWrite m .secboot 0 R.SECBOOT.CMD 0x5EB00004)

/-- SESS_CHALLENGE (R444). -/
def execSessChallenge (tag : BitVec 8) (healthy : Bool) (s : State) : Host.Outcome State Fault Refusal :=
  .next (s.onDev fun d => d.whenLive fun d => d.hostChallenge ⟨.port, 0x40, tag.toNat, 0⟩ healthy)

/-- SESS_RESPONSE (R444). -/
def execSessResponse (tag : BitVec 8) (bytes : List Byte) (s : State) : Host.Outcome State Fault Refusal :=
  .next (s.onDev fun d => d.whenLive fun d => d.portMac tag bytes)

/-- HOST_SESS_CLOSE (R444). -/
def execHostSessClose (tag : BitVec 8) (s : State) : Host.Outcome State Fault Refusal :=
  .next (s.onDev fun d => d.whenLive fun d => d.hostClose ⟨.port, 0x42, tag.toNat, 0⟩)

/-- SESSION_IDLE_TIMEOUT (R444). -/
def execSessionIdleTimeout (s : State) : Host.Outcome State Fault Refusal :=
  .next (s.onDev fun d => d.whenLive fun d => d.sessIdle)

/-- NONCE_EXPIRY (R444). -/
def execNonceExpiry (s : State) : Host.Outcome State Fault Refusal :=
  .next (s.onDev fun d => d.whenLive fun d => d.nonceExpiry)

/-- CHALLENGE (R446). -/
def execChallenge (m : Master) (s : State) : Host.Outcome State Fault Refusal :=
  .next (s.onDev fun d => d.portWrite m .debug 0 R.DEBUG.DBG_CMD 1)

/-- SUBMIT (R446). -/
def execSubmit (m : Master) (s : State) : Host.Outcome State Fault Refusal :=
  .next (s.onDev fun d => d.portWrite m .debug 0 R.DEBUG.DBG_CMD 2)

/-- RELOCK (R447). -/
def execRelock (m : Master) (s : State) : Host.Outcome State Fault Refusal :=
  .next (s.onDev fun d => d.portWrite m .debug 0 R.DEBUG.DBG_CMD 3)

/-- PROGRAM (R451). -/
def execProgram (m : Master) (burn : Bool) (s : State) : Host.Outcome State Fault Refusal :=
  .next (s.onDev fun d => d.portWrite m .otp 0 R.OTP.CMD 0x71E50001 { burn := burn })

/-- REBURN (R452). -/
def execReburn (m : Master) (burn : Bool) (s : State) : Host.Outcome State Fault Refusal :=
  .next (s.onDev fun d => d.portWrite m .otp 0 R.OTP.CMD 0x71E50002 { burn := burn })

/-- MARGIN (R452). -/
def execMargin (m : Master) (s : State) : Host.Outcome State Fault Refusal :=
  .next (s.onDev fun d => d.portWrite m .otp 0 R.OTP.CMD 0x71E50003)

/-- RESENSE (R450). -/
def execResense (m : Master) (s : State) : Host.Outcome State Fault Refusal :=
  .next (s.onDev fun d => d.portWrite m .otp 0 R.OTP.CMD 0x71E50004)

/-- OTP_COMMAND_DONE (R451). -/
def execOtpCommandDone (x : OtpFacts) (s : State) : Host.Outcome State Fault Refusal :=
  .next (s.onDev fun d => d.whenLive fun d => d.otpDone x)

/-- SLOCK_WRITE (R453). -/
def execSlockWrite (m : Master) (w : Word) (s : State) : Host.Outcome State Fault Refusal :=
  .next (s.onDev fun d => d.portWrite m .otp 0 R.OTP.SLOCK w)

end Sys2Proof.Machine
end

