-- ==== Sys2Proof/Machine/CmdCellar.lean ====
section
/-!
DEFINITION. Commands of the cellar and the calendar (chapter 13).
-/
namespace Sys2Proof.Machine

/-- CELLAR_WRITE_SYNC (R369). -/
def execCellarWriteSync (rtc : Bool) (ticks : BitVec 48) (s : State) : Host.Outcome State Fault Refusal :=
  .next (s.onDev fun d => d.cellarSync (if rtc then pg .rtc else pg .cellar) ticks.toNat)

/-- SEC_READ (R373). -/
def execSecRead (m : Master) (sub : Fin 1024) (s : State) : Host.Outcome State Fault Refusal :=
  .next (s.onDev fun d => d.secRead m sub.val)

/-- SECOND_ROLLOVER (R381). -/
def execSecondRollover (s : State) : Host.Outcome State Fault Refusal :=
  .next (s.onDev fun d => d.secondRollover)

/-- COMMIT (R374). -/
def execCommit (m : Master) (s : State) : Host.Outcome State Fault Refusal :=
  .next (s.onDev fun d => d.cellarNow m .rtc R.RTC.CMD 1 0)

/-- COMMIT_APPLY (R374). -/
def execCommitApply (s : State) : Host.Outcome State Fault Refusal :=
  .next (s.onDev fun d => d.commitApply)

/-- TRIM_WRITE (R378). -/
def execTrimWrite (m : Master) (w : Word) (s : State) : Host.Outcome State Fault Refusal :=
  .next (s.onDev fun d => d.cellarNow m .rtc R.RTC.TRIM w 0)

/-- MEAS_START (R379). -/
def execMeasStart (m : Master) (s : State) : Host.Outcome State Fault Refusal :=
  .next (s.onDev fun d => d.cellarNow m .rtc R.RTC.CMD 2 0)

/-- MEAS_STOP (R380). -/
def execMeasStop (m : Master) (s : State) : Host.Outcome State Fault Refusal :=
  .next (s.onDev fun d => d.cellarNow m .rtc R.RTC.CMD 4 0)

/-- NREF_CAPTURE (R379). -/
def execNrefCapture (m : Master) (ticks : BitVec 48) (s : State) : Host.Outcome State Fault Refusal :=
  .next (s.onDev fun d => d.cellarNow m .rtc R.RTC.CMD 8 ticks.toNat)

/-- MEAS_INTERVAL_END (R380). -/
def execMeasIntervalEnd (ticks : BitVec 48) (s : State) : Host.Outcome State Fault Refusal :=
  .next (s.onDev fun d => d.measIntervalEnd ticks.toNat)

/-- WAKE_INPUT (R384). -/
def execWakeInput (i : Fin 4) (high : Bool) (held : BitVec 8) (s : State) : Host.Outcome State Fault Refusal :=
  .next (s.onDev fun d => d.wakeInput i.val high held.toNat)

/-- PILOT_DETECTOR_CHANGE (R385). -/
def execPilotDetectorChange (mv : BitVec 16) (held : BitVec 8) (s : State) : Host.Outcome State Fault Refusal :=
  .next (s.onDev fun d => d.pilotDetector mv.toInt held.toNat)

/-- PWRON_ASSERT (R388). -/
def execPwronAssert (m : Master) (s : State) : Host.Outcome State Fault Refusal :=
  .next (s.onDev fun d => d.cellarNow m .cellar R.CELLAR.PWRON_CTRL 0x7E190001 0)

/-- PWRON_RELEASE (R388). -/
def execPwronRelease (m : Master) (s : State) : Host.Outcome State Fault Refusal :=
  .next (s.onDev fun d => d.cellarNow m .cellar R.CELLAR.PWRON_CTRL 0x7E190002 0)

/-- PWRON_PULSE_END (R388). -/
def execPwronPulseEnd (s : State) : Host.Outcome State Fault Refusal :=
  .next (s.onDev fun d => d.pwronPulseEnd)

end Sys2Proof.Machine
end

