-- ==== Sys2Proof/Machine/CmdCharge.lean ====
section
/-!
DEFINITION. Commands of the charge manager (chapter 9).
-/
namespace Sys2Proof.Machine

/-- CHG_ENABLE (R275). -/
def execChgEnable (m : Master) (on : Bool) (s : State) : Host.Outcome State Fault Refusal :=
  .next (s.onDev fun d => d.portWrite m .chg 0 R.HDR.CTRL (BitVec.ofNat 32 (b2n on)))

/-- CHG_TICK (R245). -/
def execChgTick (ohms : BitVec 32) (s : State) : Host.Outcome State Fault Refusal :=
  .next (s.onDev fun d => d.chgTick ohms.toNat)

/-- CHG_TIMER_EXPIRY (R268). -/
def execChgTimerExpiry (s : State) : Host.Outcome State Fault Refusal :=
  .next (s.onDev fun d => d.whenLive fun d => d.chgTimerExpiry)

/-- STEP_EXIT (R266). -/
def execStepExit (s : State) : Host.Outcome State Fault Refusal :=
  .next (s.onDev fun d => d.whenLive fun d => d.stepExit)

/-- PRECHARGE_TIMEOUT (R248). -/
def execPrechargeTimeout (s : State) : Host.Outcome State Fault Refusal :=
  .next (s.onDev fun d => d.whenLive fun d => d.prechargeTimeout)

/-- ORDERLY_END_TIMEOUT (R247). -/
def execOrderlyEndTimeout (s : State) : Host.Outcome State Fault Refusal :=
  .next (s.onDev fun d => d.whenLive fun d => d.orderlyEndTimeout)

/-- GRID_WAIT_EXPIRY (R250). -/
def execGridWaitExpiry (s : State) : Host.Outcome State Fault Refusal :=
  .next (s.onDev fun d => d.whenLive fun d => d.gridWaitExpiry)

/-- RESUME_DELAY_EXPIRY (R251). -/
def execResumeDelayExpiry (s : State) : Host.Outcome State Fault Refusal :=
  .next (s.onDev fun d => d.whenLive fun d => d.resumeDelayExpiry)

/-- S2_TIMEOUT (R253). -/
def execS2Timeout (s : State) : Host.Outcome State Fault Refusal :=
  .next (s.onDev fun d => d.whenLive fun d => d.s2Timeout)

/-- PILOT_PERIOD (R255). -/
def execPilotPeriod (high : BitVec 16) (low : BitVec 16) (on : BitVec 32) (total : BitVec 32) (s : State) : Host.Outcome State Fault Refusal :=
  .next (s.onDev fun d => d.pilotPeriod high.toInt low.toInt on.toNat total.toNat)

/-- PILOT_STATE_CHANGE (R254). -/
def execPilotStateChange (s : State) : Host.Outcome State Fault Refusal :=
  .next (s.onDev fun d => d.whenLive fun d => d.pilotStateChange)

/-- DUTY_UPDATE (R255). -/
def execDutyUpdate (err : Fin 11) (s : State) : Host.Outcome State Fault Refusal :=
  .next (s.onDev fun d => d.whenLive fun d => d.dutyUpdate ((err.val : Int) - 5))

/-- BMS_IN_WRITE (R259). -/
def execBmsInWrite (m : Master) (w : Word) (s : State) : Host.Outcome State Fault Refusal :=
  .next (s.onDev fun d => d.portWrite m .chg 0 R.CHG.BMS_IN w)

/-- CHG_START (R274). -/
def execChgStart (m : Master) (s : State) : Host.Outcome State Fault Refusal :=
  .next (s.onDev fun d => d.portWrite m .chg 0 R.CHG.CMD 0xC4A70001)

/-- PAUSE (R274). -/
def execPause (m : Master) (s : State) : Host.Outcome State Fault Refusal :=
  .next (s.onDev fun d => d.portWrite m .chg 0 R.CHG.CMD 0xC4A70002)

/-- RESUME (R251). -/
def execResume (m : Master) (s : State) : Host.Outcome State Fault Refusal :=
  .next (s.onDev fun d => d.portWrite m .chg 0 R.CHG.CMD 0xC4A70003)

/-- CHG_STOP (R248). -/
def execChgStop (m : Master) (s : State) : Host.Outcome State Fault Refusal :=
  .next (s.onDev fun d => d.portWrite m .chg 0 R.CHG.CMD 0xC4A70004)

/-- V2L (R269). -/
def execV2l (m : Master) (s : State) : Host.Outcome State Fault Refusal :=
  .next (s.onDev fun d => d.portWrite m .chg 0 R.CHG.CMD 0xC4A70005)

/-- V2V (R269). -/
def execV2v (m : Master) (s : State) : Host.Outcome State Fault Refusal :=
  .next (s.onDev fun d => d.portWrite m .chg 0 R.CHG.CMD 0xC4A70006)

/-- CLEAR (R248). -/
def execClear (m : Master) (s : State) : Host.Outcome State Fault Refusal :=
  .next (s.onDev fun d => d.portWrite m .chg 0 R.CHG.CMD 0xC4A70007)

/-- RESTART (R248). -/
def execRestart (m : Master) (s : State) : Host.Outcome State Fault Refusal :=
  .next (s.onDev fun d => d.portWrite m .chg 0 R.CHG.CMD 0xC4A70008)

end Sys2Proof.Machine
end

