-- ==== Sys2Proof/Machine/CmdCheck.lean ====
section
/-!
DEFINITION. Commands of the check-value units, of the multiplexed balls and of the ageing monitor (chapters 18, 19 and
21).
-/
namespace Sys2Proof.Machine

/-- CHECK_ENABLE (R531). -/
def execCheckEnable (m : Master) (n : Fin 4) (on : Bool) (s : State) : Host.Outcome State Fault Refusal :=
  .next (s.onDev fun d => d.portWrite m .check n.val R.HDR.CTRL (BitVec.ofNat 32 (b2n on)))

/-- CHECK_START (R531). -/
def execCheckStart (m : Master) (n : Fin 4) (s : State) : Host.Outcome State Fault Refusal :=
  .next (s.onDev fun d => d.portWrite m .check n.val R.CHECK.CMD 1)

/-- DIN_WRITE (R531). -/
def execDinWrite (m : Master) (n : Fin 4) (size : Fin 3) (w : Word) (s : State) : Host.Outcome State Fault Refusal :=
  .next (s.onDev fun d => d.portWrite m .check n.val (R.CHECK.DIN1 + 4 * size.val) w)

/-- FINISH (R531). -/
def execFinish (m : Master) (n : Fin 4) (s : State) : Host.Outcome State Fault Refusal :=
  .next (s.onDev fun d => d.portWrite m .check n.val R.CHECK.CMD 2)

/-- RESYNC (R532). -/
def execResync (m : Master) (n : Fin 4) (s : State) : Host.Outcome State Fault Refusal :=
  .next (s.onDev fun d => d.portWrite m .check n.val R.CHECK.CMD 4)

/-- CHECK_RECORD (R531). -/
def execCheckRecord (n : Fin 4) (s : State) : Host.Outcome State Fault Refusal :=
  .next (s.onDev fun d => d.whenLive fun d => d.checkRecord n.val)

/-- MXCFG_WRITE (R548). -/
def execMxcfgWrite (m : Master) (k : Fin 27) (w : Word) (s : State) : Host.Outcome State Fault Refusal :=
  .next (s.onDev fun d => d.portWrite m .pinmux 0 (R.PINMUX.MXCFG + 4 * k.val) w)

/-- GPIO_WRITE (R548). -/
def execGpioWrite (m : Master) (oe : Bool) (w : Word) (s : State) : Host.Outcome State Fault Refusal :=
  .next (s.onDev fun d => d.portWrite m .pinmux 0 (if oe then R.PINMUX.GPIO_OE else R.PINMUX.GPIO_OUT) w)

/-- MEASURE (R587). -/
def execMeasure (m : Master) (s : State) : Host.Outcome State Fault Refusal :=
  .next (s.onDev fun d => d.portWrite m .sys 0 R.SYS.AGE_CMD 0xA6E10001)

/-- AGE_MEASURE_DONE (R587). -/
def execAgeMeasureDone (ns : Word) (nr : Word) (s : State) : Host.Outcome State Fault Refusal :=
  .next (s.onDev fun d => d.whenLive fun d => d.ageDone ns.toNat nr.toNat)

end Sys2Proof.Machine
end

