-- ==== Sys2Proof/Machine/CmdConv.lean ====
section
/-!
DEFINITION. Commands of the converter groups and their protection (chapters 6 and 7).
-/
namespace Sys2Proof.Machine

/-- CONV_ENABLE (R139). -/
def execConvEnable (m : Master) (g : Fin 8) (on : Bool) (s : State) : Host.Outcome State Fault Refusal :=
  .next (s.onDev fun d => d.portWrite m .conv g.val R.HDR.CTRL (BitVec.ofNat 32 (b2n on)))

/-- GROUP_GO (R141). -/
def execGroupGo (m : Master) (g : Fin 8) (w : Word) (s : State) : Host.Outcome State Fault Refusal :=
  .next (s.onDev fun d => d.portWrite m .conv g.val R.CONV.GROUP_CTRL w)

/-- GROUP_START (R150). -/
def execGroupStart (g : Fin 8) (s : State) : Host.Outcome State Fault Refusal :=
  .next (s.onDev fun d => d.whenLive fun d => d.groupStart g.val)

/-- GROUP_UPDATE_POINT (R144). -/
def execGroupUpdatePoint (g : Fin 8) (s : State) : Host.Outcome State Fault Refusal :=
  .next (s.onDev fun d => d.whenLive fun d => d.updatePoint g.val)

/-- LAW_SAMPLE (R151). -/
def execLawSample (g : Fin 8) (s : State) : Host.Outcome State Fault Refusal :=
  .next (s.onDev fun d => d.whenLive fun d => d.lawSample g.val)

/-- REF_WRITE (R156). -/
def execRefWrite (m : Master) (g : Fin 8) (w : Word) (s : State) : Host.Outcome State Fault Refusal :=
  .next (s.onDev fun d => d.portWrite m .conv g.val R.CONV.REF w)

/-- LAW_LOAD (R154). -/
def execLawLoad (m : Master) (g : Fin 8) (s : State) : Host.Outcome State Fault Refusal :=
  .next (s.onDev fun d => d.portWrite m .conv g.val R.CONV.LAW_CTRL 1)

/-- LAW_CLEAR (R154). -/
def execLawClear (m : Master) (g : Fin 8) (s : State) : Host.Outcome State Fault Refusal :=
  .next (s.onDev fun d => d.portWrite m .conv g.val R.CONV.LAW_CTRL 2)

/-- HICCUP_OFF_EXPIRY (R175). -/
def execHiccupOffExpiry (g : Fin 8) (s : State) : Host.Outcome State Fault Refusal :=
  .next (s.onDev fun d => d.whenLive fun d => d.hiccupOver g.val)

/-- HICCUP_CLEAN_EXPIRY (R176). -/
def execHiccupCleanExpiry (g : Fin 8) (s : State) : Host.Outcome State Fault Refusal :=
  .next (s.onDev fun d => d.whenLive fun d => d.hiccupClean g.val)

/-- PHASE_FAILURE_DECISION (R181). -/
def execPhaseFailureDecision (g : Fin 8) (s : State) : Host.Outcome State Fault Refusal :=
  .next (s.onDev fun d => d.whenLive fun d => d.phaseFailure g.val)

/-- UNLATCH (R177). -/
def execUnlatch (m : Master) (g : Fin 8) (s : State) : Host.Outcome State Fault Refusal :=
  .next (s.onDev fun d => d.portWrite m .conv g.val R.CONV.PROT_CTRL 1)

/-- CONV_RESTORE (R184). -/
def execConvRestore (m : Master) (g : Fin 8) (s : State) : Host.Outcome State Fault Refusal :=
  .next (s.onDev fun d => d.portWrite m .conv g.val R.CONV.PROT_CTRL 2)

end Sys2Proof.Machine
end

