-- ==== Sys2Proof/Machine/CmdCore.lean ====
section
/-!
DEFINITION. Commands of the core pairs, the memories, the interrupt controllers and the mailboxes (chapter 16).
-/
namespace Sys2Proof.Machine

/-- CORE_INSTRUCTION (R466). -/
def execCoreInstruction (i : Pair) (ff : Flaw) (df : Flaw) (bit : Fin 72) (s : State) : Host.Outcome State Fault Refusal :=
  .next (s.onDev fun d => d.whenLive fun d => d.corePair (Dev.pairNo i) ff df bit.val)

/-- WFI (R481). -/
def execWfi (i : Pair) (s : State) : Host.Outcome State Fault Refusal :=
  .next (s.onDev fun d => d.whenLive fun d => d.pairWfi (Dev.pairNo i))

/-- WFI_WAKE (R481). -/
def execWfiWake (i : Pair) (s : State) : Host.Outcome State Fault Refusal :=
  .next (s.onDev fun d => d.whenLive fun d => d.wfiWake (Dev.pairNo i))

/-- LOCKSTEP_MISMATCH (R467). -/
def execLockstepMismatch (i : Pair) (s : State) : Host.Outcome State Fault Refusal :=
  .next (s.onDev fun d => d.whenLive fun d => d.lockstepMismatch (Dev.pairNo i))

/-- MEMORY_READ (R473). -/
def execMemoryRead (r : Reader) (a : Word) (flaw : Flaw) (bit : Fin 39) (s : State) : Host.Outcome State Fault Refusal :=
  .next (s.onDev fun d => d.whenLive fun d => d.memoryRead r a.toNat flaw bit.val)

/-- SUBWORD_STORE (R474). -/
def execSubwordStore (m : Master) (a : Word) (half : Bool) (v : Word) (flaw : Flaw) (bit : Fin 39) (s : State) : Host.Outcome State Fault Refusal :=
  .next (s.onDev fun d => d.busStore m a.toNat (if half then 2 else 1) v flaw bit.val)

/-- SCRUB_PASS (R475). -/
def execScrubPass (errors : List ScrubError) (s : State) : Host.Outcome State Fault Refusal :=
  .next (s.onDev fun d => d.whenLive fun d => d.scrubPass errors)

/-- MEMORY_CLEAR_DONE (R476). -/
def execMemoryClearDone (n : Fin 16) (s : State) : Host.Outcome State Fault Refusal :=
  .next (s.onDev fun d => d.whenLive fun d => d.memoryClearDone n.val)

/-- SEC_CFG_WRITE (R468). -/
def execSecCfgWrite (m : Master) (w : Word) (s : State) : Host.Outcome State Fault Refusal :=
  .next (s.onDev fun d => d.portWrite m .sys 0 R.SYS.SEC_CFG w)

/-- PAIR_HALT (R471). -/
def execPairHalt (m : Master) (i : Pair) (s : State) : Host.Outcome State Fault Refusal :=
  .next (s.onDev fun d => d.portWrite m .sys 0 R.SYS.PAIR_CTRL (BitVec.ofNat 32 (1 + 16 * Dev.pairNo i)))

/-- PAIR_STEP (R471). -/
def execPairStep (m : Master) (i : Pair) (ff : Flaw) (df : Flaw) (bit : Fin 72) (s : State) : Host.Outcome State Fault Refusal :=
  .next (s.onDev fun d =>
    d.masterWrite m (Dev.pageAddr (pg .sys) R.SYS.PAIR_CTRL) (BitVec.ofNat 32 (2 + 16 * Dev.pairNo i)) {} ff df bit.val)

/-- PAIR_RESUME (R471). -/
def execPairResume (m : Master) (i : Pair) (s : State) : Host.Outcome State Fault Refusal :=
  .next (s.onDev fun d => d.portWrite m .sys 0 R.SYS.PAIR_CTRL (BitVec.ofNat 32 (3 + 16 * Dev.pairNo i)))

/-- PAIR_REG_ACCESS (R471). -/
def execPairRegAccess (m : Master) (write : Bool) (w : Word) (s : State) : Host.Outcome State Fault Refusal :=
  .next (s.onDev fun d =>
    if write then d.masterWrite m (Dev.pageAddr (pg .sys) R.SYS.PAIR_REG_DATA) w {} .clean .clean 0
    else d.masterRead m (Dev.pageAddr (pg .sys) R.SYS.PAIR_REG_DATA) .clean 0)

/-- INTERRUPT_EDGE (R478). -/
def execInterruptEdge (i : Fin 2) (src : Fin 256) (s : State) : Host.Outcome State Fault Refusal :=
  .next (s.onDev fun d => d.whenLive fun d => d.interruptEdge i.val src.val)

/-- INTERRUPT_DELIVERY (R479). -/
def execInterruptDelivery (i : Fin 2) (s : State) : Host.Outcome State Fault Refusal :=
  .next (s.onDev fun d => d.whenLive fun d => d.interruptDelivery i.val)

/-- EOI (R480). -/
def execEoi (m : Master) (i : Fin 2) (src : Fin 256) (s : State) : Host.Outcome State Fault Refusal :=
  .next (s.onDev fun d => d.portWrite m .intc i.val R.INTC.EOI (BitVec.ofNat 32 (src.val)))

/-- SWI (R477). -/
def execSwi (m : Master) (i : Fin 2) (set : BitVec 16) (s : State) : Host.Outcome State Fault Refusal :=
  .next (s.onDev fun d => d.portWrite m .intc i.val R.INTC.SWI (BitVec.ofNat 32 (set.toNat)))

/-- CLR_PEND (R478). -/
def execClrPend (m : Master) (i : Fin 2) (src : Fin 256) (s : State) : Host.Outcome State Fault Refusal :=
  .next (s.onDev fun d => d.portWrite m .intc i.val R.INTC.CLR_PEND (BitVec.ofNat 32 (src.val)))

/-- PRIO_WRITE (R482). -/
def execPrioWrite (m : Master) (i : Fin 2) (k : Fin 32) (w : Word) (s : State) : Host.Outcome State Fault Refusal :=
  .next (s.onDev fun d => d.portWrite m .intc i.val (R.INTC.PRIO + 4 * k.val) w)

/-- TICK (R477). -/
def execTick (i : Fin 2) (s : State) : Host.Outcome State Fault Refusal :=
  .next (s.onDev fun d => d.whenLive fun d => d.intTick i.val)

/-- LOCK_READ (R483). -/
def execLockRead (m : Master) (n : Fin 8) (s : State) : Host.Outcome State Fault Refusal :=
  .next (s.onDev fun d => d.masterRead m (Dev.pageAddr (pg .mbox n.val) R.MBOX.LOCK) .clean 0)

/-- LOCK_RELEASE (R483). -/
def execLockRelease (m : Master) (n : Fin 8) (s : State) : Host.Outcome State Fault Refusal :=
  .next (s.onDev fun d => d.portWrite m .mbox n.val R.MBOX.LOCK 0)

/-- MSG_WRITE (R483). -/
def execMsgWrite (m : Master) (n : Fin 8) (k : Fin 16) (w : Word) (s : State) : Host.Outcome State Fault Refusal :=
  .next (s.onDev fun d => d.portWrite m .mbox n.val (R.MBOX.MSG + 4 * k.val) w)

/-- DB_SET (R483). -/
def execDbSet (m : Master) (n : Fin 8) (w : Word) (s : State) : Host.Outcome State Fault Refusal :=
  .next (s.onDev fun d => d.portWrite m .mbox n.val R.MBOX.DB_SET w)

/-- DONE (R483). -/
def execDone (m : Master) (n : Fin 8) (s : State) : Host.Outcome State Fault Refusal :=
  .next (s.onDev fun d => d.portWrite m .mbox n.val R.MBOX.DONE 1)

/-- LOCK_TIMEOUT (R486). -/
def execLockTimeout (n : Fin 8) (s : State) : Host.Outcome State Fault Refusal :=
  .next (s.onDev fun d => d.whenLive fun d => d.mbTimeout n.val)

end Sys2Proof.Machine
end

