-- ==== Sys2Proof/Machine/CmdDisch.lean ====
section
/-!
DEFINITION. Commands of the link discharge (chapter 7).
-/
namespace Sys2Proof.Machine

/-- DISCH_DISARM_TRIGGER (R188). -/
def execDischDisarmTrigger (s : State) : Host.Outcome State Fault Refusal :=
  .next (s.onDev fun d => d.dischDisarmTrigger)

/-- DISCH_START (R191). -/
def execDischStart (m : Master) (s : State) : Host.Outcome State Fault Refusal :=
  .next (s.onDev fun d => d.portWrite m .disch 0 R.DISCH.DCMD 0xA5C30001)

/-- DISCH_STOP (R191). -/
def execDischStop (m : Master) (s : State) : Host.Outcome State Fault Refusal :=
  .next (s.onDev fun d => d.portWrite m .disch 0 R.DISCH.DCMD 0xA5C30004)

/-- CIRCULATE (R192). -/
def execCirculate (m : Master) (s : State) : Host.Outcome State Fault Refusal :=
  .next (s.onDev fun d => d.portWrite m .disch 0 R.DISCH.DCMD 0xA5C30002)

/-- TEST (R193). -/
def execTest (m : Master) (s : State) : Host.Outcome State Fault Refusal :=
  .next (s.onDev fun d => d.portWrite m .disch 0 R.DISCH.DCMD 0xA5C30003)

/-- DISCH_TEST_DONE (R193). -/
def execDischTestDone (readback : Bool) (s : State) : Host.Outcome State Fault Refusal :=
  .next (s.onDev fun d => d.dischTestDone readback)

/-- DISCH_HOLD_EXPIRY (R189). -/
def execDischHoldExpiry (s : State) : Host.Outcome State Fault Refusal :=
  .next (s.onDev fun d => d.dischHoldExpiry)

/-- DISCH_TIMEOUT (R189). -/
def execDischTimeout (s : State) : Host.Outcome State Fault Refusal :=
  .next (s.onDev fun d => d.dischTimeout)

/-- DISCH_OUTPUT (R190). -/
def execDischOutput (detail : Fin 3) (s : State) : Host.Outcome State Fault Refusal :=
  .next (s.onDev fun d => d.dischOutput detail.val)

end Sys2Proof.Machine
end

