-- ==== Sys2Proof/Machine/CmdFault.lean ====
section
/-!
DEFINITION. Commands of fault collection and Scaolo (chapter 14).
-/
namespace Sys2Proof.Machine

/-- FAULT_EVENT (R399). -/
def execFaultEvent (src : Fin 512) (how : Happening) (detail : BitVec 16) (s : State) : Host.Outcome State Fault Refusal :=
  .next (s.onDev fun d => d.whenIsland fun d => d.faultEvent src.val how detail.toNat)

/-- HISTORY_RECORD (R406). -/
def execHistoryRecord (s : State) : Host.Outcome State Fault Refusal :=
  .next (s.onDev fun d => d.whenIsland fun d => d.historyRecord)

/-- HIST_RD_WRITE (R409). -/
def execHistRdWrite (m : Master) (w : Word) (s : State) : Host.Outcome State Fault Refusal :=
  .next (s.onDev fun d => d.portWrite m .fault 0 R.FAULT.HIST_RD w)

/-- SEV_WRITE (R398). -/
def execSevWrite (m : Master) (i : Fin 48) (w : Word) (s : State) : Host.Outcome State Fault Refusal :=
  .next (s.onDev fun d => d.portWrite m .fault 0 (R.FAULT.SEV + 4 * i.val) w)

/-- QUIET_PERIOD_ELAPSED (R413). -/
def execQuietPeriodElapsed (s : State) : Host.Outcome State Fault Refusal :=
  .next (s.onDev fun d => d.quietElapsed)

/-- RECOV_WINDOW_END (R413). -/
def execRecovWindowEnd (s : State) : Host.Outcome State Fault Refusal :=
  .next (s.onDev fun d => d.whenIsland fun d => d.recovWindowEnd)

/-- CLR_FF (R410). -/
def execClrFf (m : Master) (s : State) : Host.Outcome State Fault Refusal :=
  .next (s.onDev fun d => d.portWrite m .fault 0 R.FAULT.CMD 0x3C5F0001)

/-- CLR_RECOV (R413). -/
def execClrRecov (m : Master) (s : State) : Host.Outcome State Fault Refusal :=
  .next (s.onDev fun d => d.portWrite m .fault 0 R.FAULT.CMD 0x3C5F0002)

/-- CLR_LOST (R409). -/
def execClrLost (m : Master) (s : State) : Host.Outcome State Fault Refusal :=
  .next (s.onDev fun d => d.portWrite m .fault 0 R.FAULT.CMD 0x3C5F0003)

/-- INJECT (R427). -/
def execInject (m : Master) (src : Fin 512) (s : State) : Host.Outcome State Fault Refusal :=
  .next (s.onDev fun d => d.portWrite m .fault 0 R.FAULT.CMD (BitVec.ofNat 32 (0x3C5F0004 + 16 * src.val)))

/-- REACTION_CHECK (R416). -/
def execReactionCheck (aliveLow : Bool) (faultnLow : Bool) (dischHigh : Bool) (s : State) : Host.Outcome State Fault Refusal :=
  .next (s.onDev fun d => d.whenIsland fun d => d.reactionCheckDone aliveLow faultnLow dischHigh)

/-- DEVICE_RESET_BY_REACTION (R402). -/
def execDeviceResetByReaction (s : State) : Host.Outcome State Fault Refusal :=
  .next (s.onDev fun d => d.whenIsland fun d => d.resetByReaction)

/-- CONFIG_COMPARE (R415). -/
def execConfigCompare (upset : Option (Fin 48)) (s : State) : Host.Outcome State Fault Refusal :=
  .next (s.onDev fun d => d.whenIsland fun d => d.configCompare (upset.map (·.val)))

/-- ISLAND_COMPARE_MISMATCH (R417). -/
def execIslandCompareMismatch (differ : Bool) (s : State) : Host.Outcome State Fault Refusal :=
  .next (s.onDev fun d => d.whenIsland fun d => d.islandCompare differ)

/-- REFERENCE_COMPARE (R417). -/
def execReferenceCompare (diff : BitVec 16) (s : State) : Host.Outcome State Fault Refusal :=
  .next (s.onDev fun d => d.whenIsland fun d => d.referenceCompare diff.toNat)

/-- ALIVE_READBACK (R404). -/
def execAliveReadback (differs : Bool) (us : BitVec 8) (s : State) : Host.Outcome State Fault Refusal :=
  .next (s.onDev fun d => d.whenIsland fun d => d.aliveReadback differs us.toNat)

/-- FAULTN_READBACK (R405). -/
def execFaultnReadback (high : Bool) (us : BitVec 8) (s : State) : Host.Outcome State Fault Refusal :=
  .next (s.onDev fun d => d.whenIsland fun d => d.faultnReadback high us.toNat)

/-- PATHTEST (R418). -/
def execPathtest (n : Fin 24) (ack : Bool) (s : State) : Host.Outcome State Fault Refusal :=
  .next (s.onDev fun d => d.whenLive fun d => d.pathTest n.val ack)

/-- SELFTEST_RUN (R419). -/
def execSelftestRun (s : State) : Host.Outcome State Fault Refusal :=
  .next (s.onDev fun d => d.whenIsland fun d => d.selftestRun)

/-- SELFTEST_DONE (R419). -/
def execSelftestDone (failed : BitVec 10) (trims : BitVec 17) (s : State) : Host.Outcome State Fault Refusal :=
  .next (s.onDev fun d => d.whenIsland fun d => d.selftestDone failed.toNat trims.toNat)

/-- SCAOLO_ARM (R423). -/
def execScaoloArm (m : Master) (s : State) : Host.Outcome State Fault Refusal :=
  .next (s.onDev fun d => d.portWrite m .scaolo 0 R.SCAOLO.ARM 0xA3E10001)

end Sys2Proof.Machine
end

