-- ==== Sys2Proof/Machine/CmdGalley.lean ====
section
/-!
DEFINITION. Commands of the galley (chapter 4).
-/
namespace Sys2Proof.Machine

/-- GALLEY_ENABLE (R89). -/
def execGalleyEnable (m : Master) (on : Bool) (s : State) : Host.Outcome State Fault Refusal :=
  .next (s.onDev fun d => d.portWrite m .galley 0 R.HDR.CTRL (BitVec.ofNat 32 (b2n on)))

/-- GALLEY_ENTRY_WRITE (R85). -/
def execGalleyEntryWrite (m : Master) (i : Fin 32768) (w : Word) (s : State) : Host.Outcome State Fault Refusal :=
  .next (s.onDev fun d => d.busWrite m (0x38000000 + 4 * i.val) w)

/-- GALLEY_ENTRY_READ (R84). -/
def execGalleyEntryRead (m : Master) (i : Fin 32768) (flaw : Flaw) (s : State) : Host.Outcome State Fault Refusal :=
  .next (s.onDev fun d => d.masterRead m (0x38000000 + 4 * i.val) flaw 0)

/-- IMPOSE (R91). -/
def execImpose (m : Master) (sheet : Fin 16) (s : State) : Host.Outcome State Fault Refusal :=
  .next (s.onDev fun d => d.portWrite m .galley 0 R.GALLEY.IMPOSE (BitVec.ofNat 32 (sheet.val + 0x10)))

/-- IMPOSE_CANCEL (R93). -/
def execImposeCancel (m : Master) (sheet : Fin 16) (s : State) : Host.Outcome State Fault Refusal :=
  .next (s.onDev fun d => d.portWrite m .galley 0 R.GALLEY.IMPOSE (BitVec.ofNat 32 (sheet.val + 0x20)))

/-- IMPOSE_SCAN_DONE (R91). -/
def execImposeScanDone (fl : List EntryFlaw) (s : State) : Host.Outcome State Fault Refusal :=
  .next (s.onDev fun d => d.whenLive fun d => d.scanDone d.mem fl)

/-- WHITELIST_WRITE (R96). -/
def execWhitelistWrite (m : Master) (i : Fin 32) (field : Bool) (w : Word) (s : State) : Host.Outcome State Fault Refusal :=
  .next (s.onDev fun d =>
    d.portWrite m .galley 0 ((if field then R.GALLEY.WL_FIELD else R.GALLEY.WL_ADDR) + 4 * i.val) w)

/-- GALLEY_SLOT (R101). -/
def execGalleySlot (s : State) : Host.Outcome State Fault Refusal :=
  .next (s.onDev fun d => d.whenLive fun d => d.galleySlot)

end Sys2Proof.Machine
end

