-- ==== Sys2Proof/Machine/CmdGauge.lean ====
section
/-!
DEFINITION. Commands of the shadow gauge (chapter 10).
-/
namespace Sys2Proof.Machine

/-- GAUGE_ENABLE (R283). -/
def execGaugeEnable (m : Master) (on : Bool) (s : State) : Host.Outcome State Fault Refusal :=
  .next (s.onDev fun d => d.portWrite m .gauge 0 R.HDR.CTRL (BitVec.ofNat 32 (b2n on)))

/-- GAUGE_TICK (R284). -/
def execGaugeTick (store : Flaw) (s : State) : Host.Outcome State Fault Refusal :=
  .next (s.onDev fun d => d.gaugeTick store)

/-- FILTER_RUN (R287). -/
def execFilterRun (s : State) : Host.Outcome State Fault Refusal :=
  .next (s.onDev fun d => d.whenLive fun d => d.filterRun)

/-- GAUGE_DRIFT (R288). -/
def execGaugeDrift (s : State) : Host.Outcome State Fault Refusal :=
  .next (s.onDev fun d => d.whenLive fun d => d.gaugeDrift)

/-- RECORD_PUBLISH (R300). -/
def execRecordPublish (s : State) : Host.Outcome State Fault Refusal :=
  .next (s.onDev fun d => d.whenLive fun d => d.recordPublish)

/-- REC_ACK (R301). -/
def execRecAck (m : Master) (seq : Word) (s : State) : Host.Outcome State Fault Refusal :=
  .next (s.onDev fun d => d.portWrite m .gauge 0 R.GAUGE.REC_ACK seq)

/-- GAUGE_RESTORE (R302). -/
def execGaugeRestore (m : Master) (s : State) : Host.Outcome State Fault Refusal :=
  .next (s.onDev fun d => d.portWrite m .gauge 0 R.GAUGE.CMD 0x6A5D0001)

/-- INIT (R304). -/
def execInit (m : Master) (s : State) : Host.Outcome State Fault Refusal :=
  .next (s.onDev fun d => d.portWrite m .gauge 0 R.GAUGE.CMD 0x6A5D0002)

/-- DISCARD (R306). -/
def execDiscard (m : Master) (s : State) : Host.Outcome State Fault Refusal :=
  .next (s.onDev fun d => d.portWrite m .gauge 0 R.GAUGE.CMD 0x6A5D0003)

/-- PUBLISH (R300). -/
def execPublish (m : Master) (s : State) : Host.Outcome State Fault Refusal :=
  .next (s.onDev fun d => d.portWrite m .gauge 0 R.GAUGE.CMD 0x6A5D0004)

/-- UNFREEZE (R281). -/
def execUnfreeze (m : Master) (s : State) : Host.Outcome State Fault Refusal :=
  .next (s.onDev fun d => d.portWrite m .gauge 0 R.GAUGE.CMD 0x6A5D0005)

/-- IWAKE (R297). -/
def execIwake (i : Fin 64) (code : BitVec 12) (ms : BitVec 16) (s : State) : Host.Outcome State Fault Refusal :=
  .next (s.onDev fun d => d.iwake i.val code.toNat ms.toNat)

end Sys2Proof.Machine
end

