-- ==== Sys2Proof/Machine/CmdMeasure.lean ====
section
/-!
DEFINITION. Commands of the converters, bins, streams, rings, monitor and open-wire diagnosis (chapter 8).
-/
namespace Sys2Proof.Machine

/-- ADC_ENABLE (R200). -/
def execAdcEnable (m : Master) (c : Fin 16) (on : Bool) (s : State) : Host.Outcome State Fault Refusal :=
  .next (s.onDev fun d => d.portWrite m .adc c.val R.HDR.CTRL (BitVec.ofNat 32 (b2n on)))

/-- CONVERSION_RESULT (R201). -/
def execConversionResult (c : Fin 16) (uv : BitVec 24) (lsb : Bool) (s : State) : Host.Outcome State Fault Refusal :=
  .next (s.onDev fun d => d.whenLive fun d => d.conversionResult c.val uv.toInt lsb)

/-- LP_EXIT (R206). -/
def execLpExit (c : Fin 16) (s : State) : Host.Outcome State Fault Refusal :=
  .next (s.onDev fun d => d.whenLive fun d => d.lpExit c.val)

/-- BIN_CLOSE (R209). -/
def execBinClose (h : Fin 64) (s : State) : Host.Outcome State Fault Refusal :=
  .next (s.onDev fun d => d.whenLive fun d => d.binClose h.val)

/-- BIN_CHANNEL_ENABLE (R213). -/
def execBinChannelEnable (m : Master) (h : Fin 64) (w : Word) (s : State) : Host.Outcome State Fault Refusal :=
  .next (s.onDev fun d => d.portWrite m .bin 0 (R.BIN.CH + 4 * h.val) (w ||| 0x80000000))

/-- STREAM_ENABLE (R215). -/
def execStreamEnable (m : Master) (c : Fin 16) (k : Fin 4) (w : Word) (s : State) : Host.Outcome State Fault Refusal :=
  .next (s.onDev fun d => d.portWrite m .adc c.val (R.ADC.STREAM + 4 * k.val) (w ||| 0x80000000))

/-- PI_WRITE (R219). -/
def execPiWrite (m : Master) (n : Fin 96) (w : Word) (s : State) : Host.Outcome State Fault Refusal :=
  .next (s.onDev fun d => d.portWrite m .ring n.val R.RING.PI w)

/-- CI_WRITE (R220). -/
def execCiWrite (m : Master) (n : Fin 96) (w : Word) (s : State) : Host.Outcome State Fault Refusal :=
  .next (s.onDev fun d => d.portWrite m .ring n.val R.RING.CI w)

/-- CLR_OVF (R221). -/
def execClrOvf (m : Master) (n : Fin 96) (s : State) : Host.Outcome State Fault Refusal :=
  .next (s.onDev fun d => d.portWrite m .ring n.val R.RING.CMD 1)

/-- RING_ENABLE (R222). -/
def execRingEnable (m : Master) (n : Fin 96) (on : Bool) (s : State) : Host.Outcome State Fault Refusal :=
  .next (s.onDev fun d => d.portWrite m .ring n.val R.HDR.CTRL (BitVec.ofNat 32 (b2n on)))

/-- MONITOR_CONVERSION (R223). -/
def execMonitorConversion (raw : BitVec 12) (corr : BitVec 8) (sat : Bool) (s : State) : Host.Outcome State Fault Refusal :=
  .next (s.onDev fun d => d.monitorConversion raw.toNat corr.toInt sat)

/-- HIB_SCAN_CYCLE (R224). -/
def execHibScanCycle (vals : List (BitVec 12 × BitVec 8)) (s : State) : Host.Outcome State Fault Refusal :=
  .next (s.onDev fun d => d.hibScanCycle (vals.map (fun e => (e.1.toNat, e.2.toInt))))

/-- MON_STALL (R225). -/
def execMonStall (s : State) : Host.Outcome State Fault Refusal :=
  .next (s.onDev fun d => d.whenIsland fun d => d.monStall)

/-- ADC_STALL (R226). -/
def execAdcStall (c : Fin 16) (s : State) : Host.Outcome State Fault Refusal :=
  .next (s.onDev fun d => d.whenLive fun d => d.adcStall c.val)

/-- OW_ROUND_START (R227). -/
def execOwRoundStart (s : State) : Host.Outcome State Fault Refusal :=
  .next (s.onDev fun d => d.whenLive fun d => d.owRoundStart)

/-- OW_SETTLE_SAMPLE (R228). -/
def execOwSettleSample (s : State) : Host.Outcome State Fault Refusal :=
  .next (s.onDev fun d => d.whenLive fun d => d.owSettleSample)

end Sys2Proof.Machine
end

