-- ==== Sys2Proof/Machine/CmdMore.lean ====
section
/-!
DEFINITION. Commands that complete earlier families: trim corrections, the ends of soft starts, bus errors, refused host
frames and the switches of the power path.
-/
namespace Sys2Proof.Machine

/-- TRIM_CORRECTION (R378). -/
def execTrimCorrection (s : State) : Host.Outcome State Fault Refusal :=
  .next (s.onDev fun d => d.trimCorrection)

/-- REL_SOFT_START_END (R319). -/
def execRelSoftStartEnd (s : State) : Host.Outcome State Fault Refusal :=
  .next (s.onDev fun d => d.relSoftEnd)

/-- BUCK_SOFT_START_END (R327). -/
def execBuckSoftStartEnd (k : Fin 4) (s : State) : Host.Outcome State Fault Refusal :=
  .next (s.onDev fun d => d.buckSoftEnd k.val)

/-- CAN_ERROR_FRAME (R514). -/
def execCanErrorFrame (n : Fin 2) (e : CanError) (s : State) : Host.Outcome State Fault Refusal :=
  .next (s.onDev fun d => d.whenLive fun d => d.canError n e)

/-- REQUEST_FRAME_REFUSED (R528). -/
def execRequestFrameRefused (cmd : BitVec 8) (tag : BitVec 8) (len : BitVec 16) (crcOk : Bool) (bad : Bool) (s : State) : Host.Outcome State Fault Refusal :=
  .next (s.onDev fun d => d.whenLive fun d => d.frameRefused cmd tag len crcOk bad)

/-- PATH_CURRENT_LIMIT (R312). -/
def execPathCurrentLimit (bak : Bool) (s : State) : Host.Outcome State Fault Refusal :=
  .next (s.onDev fun d => d.pathLimit bak)

/-- VBAK_SWITCH_CHANGE (R312). -/
def execVbakSwitchChange (on : Bool) (s : State) : Host.Outcome State Fault Refusal :=
  .next (s.onDev fun d => d.vbakSwitch on)

end Sys2Proof.Machine
end

