-- ==== Sys2Proof/Machine/CmdMram.lean ====
section
/-!
DEFINITION. Commands of the MRAM store (chapter 17).
-/
namespace Sys2Proof.Machine

/-- MRAM_WRITE (R499). -/
def execMramWrite (m : Master) (s : State) : Host.Outcome State Fault Refusal :=
  .next (s.onDev fun d => d.portWrite m .mram 0 R.MRAM.CMD 0xD17A0001)

/-- SR_WRITE (R508). -/
def execSrWrite (m : Master) (r : Fin 16) (s : State) : Host.Outcome State Fault Refusal :=
  .next (s.onDev fun d => d.portWrite m .mram 0 R.MRAM.CMD (BitVec.ofNat 32 (0xD17A0002 + 16 * r.val)))

/-- SR_READ (R509). -/
def execSrRead (m : Master) (r : Fin 16) (s : State) : Host.Outcome State Fault Refusal :=
  .next (s.onDev fun d => d.portWrite m .mram 0 R.MRAM.CMD (BitVec.ofNat 32 (0xD17A0003 + 16 * r.val)))

/-- SR_RESCAN (R507). -/
def execSrRescan (m : Master) (r : Fin 16) (s : State) : Host.Outcome State Fault Refusal :=
  .next (s.onDev fun d => d.portWrite m .mram 0 R.MRAM.CMD (BitVec.ofNat 32 (0xD17A0004 + 16 * r.val)))

/-- SR_ENABLE (R505). -/
def execSrEnable (m : Master) (r : Fin 16) (w : Word) (s : State) : Host.Outcome State Fault Refusal :=
  .next (s.onDev fun d => d.portWrite m .mram 0 (R.MRAM.SR_CFG + 4 * r.val) (w ||| 1))

/-- SR_SCAN_DONE (R507). -/
def execSrScanDone (ue : List (Fin 32768)) (s : State) : Host.Outcome State Fault Refusal :=
  .next (s.onDev fun d => d.whenLive fun d => d.srScanDone (ue.map (·.val)))

/-- MRAM_COMMAND_DONE (R500). -/
def execMramCommandDone (x : MramFacts) (s : State) : Host.Outcome State Fault Refusal :=
  .next (s.onDev fun d => d.whenLive fun d => d.mramDone x)

/-- MRAM_WINDOW_READ (R496). -/
def execMramWindowRead (r : Reader) (x : BitVec 18) (size : Fin 3) (flaw : Flaw) (bit : Fin 72) (s : State) : Host.Outcome State Fault Refusal :=
  .next (s.onDev fun d => d.whenLive fun d => d.windowRead r x.toNat (2 ^ size.val) flaw bit.val)

end Sys2Proof.Machine
end

