-- ==== Sys2Proof/Machine/CmdNet.lean ====
section
/-!
DEFINITION. Commands of the networks and of the host port (chapter 18).
-/
namespace Sys2Proof.Machine

/-- CAN_FRAME_RECEIVED (R518). -/
def execCanFrameReceived (n : Fin 2) (f : CanFrame) (s : State) : Host.Outcome State Fault Refusal :=
  .next (s.onDev fun d => d.whenLive fun d => d.canReceived n f)

/-- T1S_FRAME_RECEIVED (R522). -/
def execT1sFrameReceived (f : T1sFrame) (s : State) : Host.Outcome State Fault Refusal :=
  .next (s.onDev fun d => d.whenLive fun d => d.t1sReceived f)

/-- TX_REQUEST (R519). -/
def execTxRequest (m : Master) (c : Net) (req : BitVec 8) (s : State) : Host.Outcome State Fault Refusal :=
  .next (s.onDev fun d =>
    d.busWrite m (Dev.pageAddr (Dev.netPage c) R.CAN.TX_CTRL) (BitVec.ofNat 32 (req.toNat)))

/-- TX_ABORT (R519). -/
def execTxAbort (m : Master) (c : Net) (req : BitVec 8) (started : BitVec 8) (s : State) : Host.Outcome State Fault Refusal :=
  .next (s.onDev fun d =>
    d.busWrite m (Dev.pageAddr (Dev.netPage c) R.CAN.TX_CTRL) (BitVec.ofNat 32 (256 * req.toNat)) { started := started })

/-- FRAME_SENT (R519). -/
def execFrameSent (c : Net) (age : BitVec 32) (coll : BitVec 8) (bad : Bool) (folio : Word) (angle : BitVec 16) (s : State) : Host.Outcome State Fault Refusal :=
  .next (s.onDev fun d => d.whenLive fun d => d.frameSent c age.toNat coll.toNat bad folio angle)

/-- BUS_OFF (R520). -/
def execBusOff (n : Fin 2) (s : State) : Host.Outcome State Fault Refusal :=
  .next (s.onDev fun d => d.whenLive fun d => d.busOff n)

/-- RECOVER (R520). -/
def execRecover (m : Master) (n : Fin 2) (s : State) : Host.Outcome State Fault Refusal :=
  .next (s.onDev fun d => d.portWrite m .can n.val R.CAN.CMD 1)

/-- BUS_OFF_RECOVERY (R514). -/
def execBusOffRecovery (n : Fin 2) (seqs : BitVec 8) (s : State) : Host.Outcome State Fault Refusal :=
  .next (s.onDev fun d => d.whenLive fun d => d.busOffRecovery n seqs.toNat)

/-- PTP_COMMIT (R523). -/
def execPtpCommit (m : Master) (s : State) : Host.Outcome State Fault Refusal :=
  .next (s.onDev fun d => d.portWrite m .t1s 0 R.T1S.PTP_CMD 1)

/-- T1S_PLCA (R535). -/
def execT1sPlca (cycles : BitVec 8) (s : State) : Host.Outcome State Fault Refusal :=
  .next (s.onDev fun d => d.whenLive fun d => d.t1sPlca cycles.toNat)

/-- BUS_WAKE (R524). -/
def execBusWake (n : Fin 2) (us : BitVec 16) (s : State) : Host.Outcome State Fault Refusal :=
  .next (s.onDev fun d => d.busWake n us.toNat)

/-- HOST_PORT_WAKE (R524). -/
def execHostPortWake (us : BitVec 8) (s : State) : Host.Outcome State Fault Refusal :=
  .next (s.onDev fun d => d.hostPortWake us.toNat)

/-- STATUS (R527). -/
def execStatus (tag : BitVec 8) (s : State) : Host.Outcome State Fault Refusal :=
  .next (s.onDev fun d => d.whenLive fun d => d.hostStatus ⟨.port, 0x01, tag.toNat, 0⟩)

/-- READ (R526). -/
def execRead (tag : BitVec 8) (len : BitVec 16) (a : Word) (s : State) : Host.Outcome State Fault Refusal :=
  .next (s.onDev fun d => d.whenLive fun d => d.portRead tag len a)

/-- WRITE (R526). -/
def execWrite (tag : BitVec 8) (a : Word) (words : List Word) (s : State) : Host.Outcome State Fault Refusal :=
  .next (s.onDev fun d => d.whenLive fun d => d.portWords tag a words)

/-- RESPONSE_READ (R525). -/
def execResponseRead (s : State) : Host.Outcome State Fault Refusal :=
  .next (s.onDev fun d => d.whenLive fun d => d.responseRead)

/-- STATUS_WORDS_READ (R525). -/
def execStatusWordsRead (s : State) : Host.Outcome State Fault Refusal :=
  .next (s.onDev fun d => d.whenLive fun d => d.statusWordsRead)

end Sys2Proof.Machine
end

