-- ==== Sys2Proof/Machine/CmdRegister.lean ====
section
/-!
DEFINITION. Commands of the register pages (chapter 2): keys, writes, and the common header.
-/
namespace Sys2Proof.Machine

/-- CLAIM (R39). -/
def execClaim (m : Master) (page : BitVec 8) (tag : BitVec 16) (s : State) : Host.Outcome State Fault Refusal :=
  .next (s.onDev fun d =>
    d.busWrite m (Dev.pageAddr page.toNat R.HDR.CLAIM) (BitVec.ofNat 32 (65536 * tag.toNat + 1)))

/-- RELEASE (R41). -/
def execRelease (m : Master) (page : BitVec 8) (tag : BitVec 16) (s : State) : Host.Outcome State Fault Refusal :=
  .next (s.onDev fun d =>
    d.busWrite m (Dev.pageAddr page.toNat R.HDR.CLAIM) (BitVec.ofNat 32 (65536 * tag.toNat + 2)))

/-- CLAIM_SET (R40). -/
def execClaimSet (m : Master) (win : BitVec 5) (tag : BitVec 16) (s : State) : Host.Outcome State Fault Refusal :=
  .next (s.onDev fun d =>
    d.portWrite m .keyrack 0 R.KEYRACK.KR_REQ (BitVec.ofNat 32 (65536 * tag.toNat + 32 * win.toNat + 1)))

/-- RELEASE_SET (R40). -/
def execReleaseSet (m : Master) (win : BitVec 5) (tag : BitVec 16) (s : State) : Host.Outcome State Fault Refusal :=
  .next (s.onDev fun d =>
    d.portWrite m .keyrack 0 R.KEYRACK.KR_REQ (BitVec.ofNat 32 (65536 * tag.toNat + 32 * win.toNat + 2)))

/-- REGISTER_WRITE (R34). -/
def execRegisterWrite (m : Master) (a : Word) (w : Word) (f : WriteFacts) (s : State) : Host.Outcome State Fault Refusal :=
  .next (s.onDev fun d => d.masterWrite m a.toNat w f .clean .clean 0)

/-- ENABLE_WRITE (R43). -/
def execEnableWrite (m : Master) (page : BitVec 8) (on : Bool) (s : State) : Host.Outcome State Fault Refusal :=
  .next (s.onDev fun d => d.busWrite m (Dev.pageAddr page.toNat R.HDR.CTRL) (BitVec.ofNat 32 (b2n on)))

/-- SOFT_RESET (R30). -/
def execSoftReset (m : Master) (page : BitVec 8) (on : Bool) (s : State) : Host.Outcome State Fault Refusal :=
  .next (s.onDev fun d => d.busWrite m (Dev.pageAddr page.toNat R.HDR.CTRL) (BitVec.ofNat 32 (2 + b2n on)))

/-- LOCK_SET (R30). -/
def execLockSet (m : Master) (page : BitVec 8) (s : State) : Host.Outcome State Fault Refusal :=
  .next (s.onDev fun d => d.busWrite m (Dev.pageAddr page.toNat R.HDR.LOCK) 1)

/-- EVENT_SET (R33). -/
def execEventSet (m : Master) (page : BitVec 8) (w : Word) (s : State) : Host.Outcome State Fault Refusal :=
  .next (s.onDev fun d => d.busWrite m (Dev.pageAddr page.toNat R.HDR.EVENT_SET) w)

/-- FAULT_CLEAR (R32). -/
def execFaultClear (m : Master) (page : BitVec 8) (w : Word) (s : State) : Host.Outcome State Fault Refusal :=
  .next (s.onDev fun d => d.busWrite m (Dev.pageAddr page.toNat R.HDR.FAULT) w)

end Sys2Proof.Machine
end

