-- ==== Sys2Proof/Machine/CmdSeq.lean ====
section
/-!
DEFINITION. Commands of the sequencer and of rail supervision (chapter 12).
-/
namespace Sys2Proof.Machine

/-- STEP_END (R352). -/
def execStepEnd (bootsel : Fin 4) (diff : List (Nat × Word)) (s : State) : Host.Outcome State Fault Refusal :=
  .next (s.onDev fun d => d.stepEnd bootsel.val diff)

/-- STEP_ENABLE (R352). -/
def execStepEnable (s : State) : Host.Outcome State Fault Refusal :=
  .next (s.onDev fun d => d.stepEnable)

/-- STEP_DISABLE (R354). -/
def execStepDisable (s : State) : Host.Outcome State Fault Refusal :=
  .next (s.onDev fun d => d.stepDisable)

/-- STEP_WAIT (R352). -/
def execStepWait (s : State) : Host.Outcome State Fault Refusal :=
  .next (s.onDev fun d => d.stepWait)

/-- WAIT_EXPIRY (R352). -/
def execWaitExpiry (s : State) : Host.Outcome State Fault Refusal :=
  .next (s.onDev fun d => d.waitExpiry)

/-- STEP_WAITV (R352). -/
def execStepWaitv (s : State) : Host.Outcome State Fault Refusal :=
  .next (s.onDev fun d => d.stepWaitv)

/-- WAITV_TIMEOUT (R352). -/
def execWaitvTimeout (s : State) : Host.Outcome State Fault Refusal :=
  .next (s.onDev fun d => d.waitvTimeout)

/-- STEP_CHECK (R353). -/
def execStepCheck (s : State) : Host.Outcome State Fault Refusal :=
  .next (s.onDev fun d => d.stepCheck)

/-- STEP_JUMP (R352). -/
def execStepJump (s : State) : Host.Outcome State Fault Refusal :=
  .next (s.onDev fun d => d.stepJump)

/-- STEP_STAIR (R358). -/
def execStepStair (s : State) : Host.Outcome State Fault Refusal :=
  .next (s.onDev fun d => d.stepStair)

/-- STAIR_RISE (R358). -/
def execStairRise (s : State) : Host.Outcome State Fault Refusal :=
  .next (s.onDev fun d => d.stairRise)

/-- STAIR_TIMEOUT (R358). -/
def execStairTimeout (s : State) : Host.Outcome State Fault Refusal :=
  .next (s.onDev fun d => d.stairTimeout)

/-- STEP_RESET (R360). -/
def execStepReset (s : State) : Host.Outcome State Fault Refusal :=
  .next (s.onDev fun d => d.stepReset)

/-- RSTOUT_RELEASE (R360). -/
def execRstoutRelease (k : Fin 4) (s : State) : Host.Outcome State Fault Refusal :=
  .next (s.onDev fun d => d.rstoutRelease k.val)

/-- STEP_MARK (R352). -/
def execStepMark (s : State) : Host.Outcome State Fault Refusal :=
  .next (s.onDev fun d => d.stepMark)

/-- STEP_INVALID (R352). -/
def execStepInvalid (s : State) : Host.Outcome State Fault Refusal :=
  .next (s.onDev fun d => d.stepInvalid)

/-- DOMAIN_ON (R345). -/
def execDomainOn (n : Fin 16) (s : State) : Host.Outcome State Fault Refusal :=
  .next (s.onDev fun d => d.domainOnSeq n.val)

/-- RAIL_UV (R346). -/
def execRailUv (n : Fin 16) (s : State) : Host.Outcome State Fault Refusal :=
  .next (s.onDev fun d => d.railUv n.val)

/-- RAIL_OV (R346). -/
def execRailOv (n : Fin 16) (s : State) : Host.Outcome State Fault Refusal :=
  .next (s.onDev fun d => d.railOv n.val)

/-- DOM_OFF_TIMEOUT (R354). -/
def execDomOffTimeout (n : Fin 16) (s : State) : Host.Outcome State Fault Refusal :=
  .next (s.onDev fun d => d.domOffTimeout n.val)

/-- HOLD_OFF_END (R356). -/
def execHoldOffEnd (s : State) : Host.Outcome State Fault Refusal :=
  .next (s.onDev fun d => d.holdOffEnd)

/-- RUN_AUX (R350). -/
def execRunAux (m : Master) (k : Fin 8) (s : State) : Host.Outcome State Fault Refusal :=
  .next (s.onDev fun d => d.portWrite m .seq 0 R.SEQ.CMD (BitVec.ofNat 32 (0x9E5A0001 + 16 * k.val)))

/-- GO_SET (R353). -/
def execGoSet (m : Master) (k : Fin 8) (s : State) : Host.Outcome State Fault Refusal :=
  .next (s.onDev fun d => d.portWrite m .seq 0 R.SEQ.CMD (BitVec.ofNat 32 (0x9E5A0002 + 16 * k.val)))

/-- STOP_AUX (R365). -/
def execStopAux (m : Master) (s : State) : Host.Outcome State Fault Refusal :=
  .next (s.onDev fun d => d.portWrite m .seq 0 R.SEQ.CMD 0x9E5A0003)

end Sys2Proof.Machine
end

