-- ==== Sys2Proof/Machine/CmdSupply.lean ====
section
/-!
DEFINITION. Commands of the power path, the backup charger, the regulators and the clocks (chapter 11).
-/
namespace Sys2Proof.Machine

/-- VIN_OK_SET (R313). -/
def execVinOkSet (vin : BitVec 16) (vbak : BitVec 16) (ms : BitVec 16) (s : State) : Host.Outcome State Fault Refusal :=
  .next (s.onDev fun d => d.vinOkSet vin.toNat vbak.toNat ms.toNat)

/-- VIN_LOST (R313). -/
def execVinLost (vin : BitVec 16) (vsys : BitVec 16) (s : State) : Host.Outcome State Fault Refusal :=
  .next (s.onDev fun d => d.vinLost vin.toNat vsys.toNat)

/-- OFF_REQUEST (R355). -/
def execOffRequest (s : State) : Host.Outcome State Fault Refusal :=
  .next (s.onDev fun d => d.offRequest)

/-- CHARGER_TICK (R315). -/
def execChargerTick (vbak : BitVec 16) (ibak : BitVec 16) (s : State) : Host.Outcome State Fault Refusal :=
  .next (s.onDev fun d => d.chargerTick vbak.toNat ibak.toNat)

/-- TBAK_MEASUREMENT (R317). -/
def execTbakMeasurement (uv : BitVec 24) (s : State) : Host.Outcome State Fault Refusal :=
  .next (s.onDev fun d => d.tbakMeasure uv.toNat)

/-- BAK_TIMER_EXPIRY (R318). -/
def execBakTimerExpiry (s : State) : Host.Outcome State Fault Refusal :=
  .next (s.onDev fun d => d.bakTimerExpiry)

/-- BAK_RESTART (R318). -/
def execBakRestart (m : Master) (s : State) : Host.Outcome State Fault Refusal :=
  .next (s.onDev fun d => d.portWrite m .path 0 R.PATH.BAK_CMD 1)

/-- REL_CURRENT_LIMIT (R320). -/
def execRelCurrentLimit (s : State) : Host.Outcome State Fault Refusal :=
  .next (s.onDev fun d => d.relCurrent)

/-- REL_TIME_LIMIT (R320). -/
def execRelTimeLimit (s : State) : Host.Outcome State Fault Refusal :=
  .next (s.onDev fun d => d.relTime)

/-- REL_UV_PAUSE (R320). -/
def execRelUvPause (vbak : BitVec 16) (s : State) : Host.Outcome State Fault Refusal :=
  .next (s.onDev fun d => d.relPause vbak.toNat)

/-- REL_UV_RESUME (R320). -/
def execRelUvResume (vbak : BitVec 16) (s : State) : Host.Outcome State Fault Refusal :=
  .next (s.onDev fun d => d.relResume vbak.toNat)

/-- REL_COOL_END (R319). -/
def execRelCoolEnd (s : State) : Host.Outcome State Fault Refusal :=
  .next (s.onDev fun d => d.relCoolEnd)

/-- BUCK_HICCUP (R327). -/
def execBuckHiccup (k : Fin 4) (run : BitVec 8) (s : State) : Host.Outcome State Fault Refusal :=
  .next (s.onDev fun d => d.buckHiccup k.val run.toNat)

/-- BUCK_HICCUP_RESTART (R327). -/
def execBuckHiccupRestart (k : Fin 4) (s : State) : Host.Outcome State Fault Refusal :=
  .next (s.onDev fun d => d.buckRestart k.val)

/-- BUCK_CLEAN_RUN (R327). -/
def execBuckCleanRun (k : Fin 4) (s : State) : Host.Outcome State Fault Refusal :=
  .next (s.onDev fun d => d.buckClean k.val)

/-- SUPPLY_UNLATCH (R327). -/
def execSupplyUnlatch (m : Master) (mask : BitVec 4) (s : State) : Host.Outcome State Fault Refusal :=
  .next (s.onDev fun d => d.portWrite m .supply 0 R.SUPPLY.UNLATCH (BitVec.ofNat 32 (mask.toNat)))

/-- BUCK_BURST_ENTRY (R326). -/
def execBuckBurstEntry (k : Fin 4) (s : State) : Host.Outcome State Fault Refusal :=
  .next (s.onDev fun d => d.buckBurst k.val)

/-- BUCK_BURST_WAKE (R326). -/
def execBuckBurstWake (k : Fin 4) (high : Bool) (s : State) : Host.Outcome State Fault Refusal :=
  .next (s.onDev fun d => d.buckWake k.val high)

/-- REG_SYNC_LOSS (R324). -/
def execRegSyncLoss (k : Fin 4) (s : State) : Host.Outcome State Fault Refusal :=
  .next (s.onDev fun d => d.regSyncLoss k.val)

/-- LDO_ILIM (R322). -/
def execLdoIlim (k : Fin 5) (s : State) : Host.Outcome State Fault Refusal :=
  .next (s.onDev fun d => d.ldoIlim k.val)

/-- SYSCLK_TO_PLL (R330). -/
def execSysclkToPll (s : State) : Host.Outcome State Fault Refusal :=
  .next (s.onDev fun d => d.sysclkToPll)

/-- XTAL_QUALIFY_TIMEOUT (R330). -/
def execXtalQualifyTimeout (s : State) : Host.Outcome State Fault Refusal :=
  .next (s.onDev fun d => d.xtalTimeout)

/-- XTAL_LOSS (R332). -/
def execXtalLoss (s : State) : Host.Outcome State Fault Refusal :=
  .next (s.onDev fun d => d.xtalLoss)

/-- XTAL_BACK (R332). -/
def execXtalBack (s : State) : Host.Outcome State Fault Refusal :=
  .next (s.onDev fun d => d.xtalBack)

/-- PLL_LOSS (R333). -/
def execPllLoss (s : State) : Host.Outcome State Fault Refusal :=
  .next (s.onDev fun d => d.pllLoss)

/-- CLOCK_MONITOR_ALARM (R331). -/
def execClockMonitorAlarm (isl : Bool) (good : Bool) (s : State) : Host.Outcome State Fault Refusal :=
  .next (s.onDev fun d => d.clockAlarm isl good)

/-- X32_LOSS (R377). -/
def execX32Loss (s : State) : Host.Outcome State Fault Refusal :=
  .next (s.onDev fun d => d.x32Loss)

/-- X32_RECOVERY (R377). -/
def execX32Recovery (s : State) : Host.Outcome State Fault Refusal :=
  .next (s.onDev fun d => d.x32Recovery)

end Sys2Proof.Machine
end

