-- ==== Sys2Proof/Machine/CmdSystem.lean ====
section
/-!
DEFINITION. Commands of the device as a whole (chapter 1): power, states and SYS.CMD.
-/
namespace Sys2Proof.Machine

/-- CELLAR_POWER_ON (R368). -/
def execCellarPowerOn (s : State) : Host.Outcome State Fault Refusal :=
  .next (s.onDev fun d => d.cellarPowerOn)

/-- CELLAR_OFF (R18). -/
def execCellarOff (s : State) : Host.Outcome State Fault Refusal :=
  .next (s.onDev fun d => d.cellarOff)

/-- ISLAND_POWER_ON (R349). -/
def execIslandPowerOn (pass : Bool) (s : State) : Host.Outcome State Fault Refusal :=
  .next (s.onDev fun d => d.islandPowerOn pass)

/-- VSYS_QUALIFIED (R18). -/
def execVsysQualified (s : State) : Host.Outcome State Fault Refusal :=
  .next (s.onDev fun d => d.vsysQualified)

/-- BROWN_OUT (R19). -/
def execBrownOut (s : State) : Host.Outcome State Fault Refusal :=
  .next (s.onDev fun d => d.brownOut)

/-- PWRON_WAIT_EXPIRY (R389). -/
def execPwronWaitExpiry (s : State) : Host.Outcome State Fault Refusal :=
  .next (s.onDev fun d => d.pwronWaitExpiry)

/-- ARM (R20). -/
def execArm (m : Master) (s : State) : Host.Outcome State Fault Refusal :=
  .next (s.onDev fun d => d.portWrite m .sys 0 R.SYS.CMD 0x5A3C0001)

/-- DISARM (R18). -/
def execDisarm (m : Master) (s : State) : Host.Outcome State Fault Refusal :=
  .next (s.onDev fun d => d.portWrite m .sys 0 R.SYS.CMD 0x5A3C0002)

/-- HIBERNATE (R350). -/
def execHibernate (m : Master) (s : State) : Host.Outcome State Fault Refusal :=
  .next (s.onDev fun d => d.portWrite m .sys 0 R.SYS.CMD 0x5A3C0003)

/-- CELLAR (R350). -/
def execCellar (m : Master) (s : State) : Host.Outcome State Fault Refusal :=
  .next (s.onDev fun d => d.portWrite m .sys 0 R.SYS.CMD 0x5A3C0004)

/-- SAFE_EXIT (R414). -/
def execSafeExit (m : Master) (s : State) : Host.Outcome State Fault Refusal :=
  .next (s.onDev fun d => d.portWrite m .sys 0 R.SYS.CMD 0x5A3C0005)

/-- RESET (R416). -/
def execReset (m : Master) (s : State) : Host.Outcome State Fault Refusal :=
  .next (s.onDev fun d => d.portWrite m .sys 0 R.SYS.CMD 0x5A3C0006)

/-- SYS_CMD_INVALID (R23). -/
def execSysCmdInvalid (m : Master) (w : Word) (s : State) : Host.Outcome State Fault Refusal :=
  .next (s.onDev fun d => d.portWrite m .sys 0 R.SYS.CMD w)

end Sys2Proof.Machine
end

