-- ==== Sys2Proof/Machine/CmdTile.lean ====
section
/-!
DEFINITION. Commands of the stage tiles (chapter 5).
-/
namespace Sys2Proof.Machine

/-- TILE_ENABLE (R121). -/
def execTileEnable (m : Master) (n : Fin 24) (on : Bool) (s : State) : Host.Outcome State Fault Refusal :=
  .next (s.onDev fun d => d.portWrite m .tile n.val R.HDR.CTRL (BitVec.ofNat 32 (b2n on)))

/-- TILE_PERIOD_START (R112). -/
def execTilePeriodStart (n : Fin 24) (s : State) : Host.Outcome State Fault Refusal :=
  .next (s.onDev fun d => d.whenLive fun d => (d.tilePeriodStart n.val).offSettle)

/-- NCYC_REACHED (R131). -/
def execNcycReached (n : Fin 24) (s : State) : Host.Outcome State Fault Refusal :=
  .next (s.onDev fun d => d.whenLive fun d => d.ncycReached n.val)

/-- CAL_RUN (R110). -/
def execCalRun (m : Master) (n : Fin 24) (w : Word) (s : State) : Host.Outcome State Fault Refusal :=
  .next (s.onDev fun d => d.portWrite m .tile n.val R.TILE.CAL_CTRL (w ||| 0x10000))

/-- CAL_INTERVAL (R110). -/
def execCalInterval (n : Fin 24) (s : State) : Host.Outcome State Fault Refusal :=
  .next (s.onDev fun d => d.whenLive fun d => d.calStart n.val)

/-- CAL_DONE (R110). -/
def execCalDone (n : Fin 24) (cpc : BitVec 16) (s : State) : Host.Outcome State Fault Refusal :=
  .next (s.onDev fun d => d.whenLive fun d => d.calDone n.val cpc.toNat)

/-- COMPARATOR_CROSSING (R126). -/
def execComparatorCrossing (n : Fin 24) (c : Cmp) (uv : BitVec 22) (x : BitVec 22) (s : State) : Host.Outcome State Fault Refusal :=
  .next (s.onDev fun d => d.whenLive fun d => (d.cmpCross n.val c uv.toNat x.toNat).offSettle)

/-- BLANKING_END (R128). -/
def execBlankingEnd (n : Fin 24) (c : Cmp) (x : BitVec 22) (s : State) : Host.Outcome State Fault Refusal :=
  .next (s.onDev fun d => d.whenLive fun d => (d.blankEnd n.val c x.toNat).offSettle)

/-- OUTPUT_MISMATCH (R120). -/
def execOutputMismatch (n : Fin 24) (detail : Fin 4) (s : State) : Host.Outcome State Fault Refusal :=
  .next (s.onDev fun d => d.whenLive fun d => (d.outputReadback n.val detail.val).offSettle)

end Sys2Proof.Machine
end

