-- ==== Sys2Proof/Machine/CmdTimebase.lean ====
section
/-!
DEFINITION. Commands of the timebase and the proof registers (chapter 3).
-/
namespace Sys2Proof.Machine

/-- ANGLE_READ (R52). -/
def execAngleRead (m : Master) (s : State) : Host.Outcome State Fault Refusal :=
  .next (s.onDev fun d => d.masterRead m (Dev.pageAddr (pg .timebase) R.TIMEBASE.ANGLE) .clean 0)

/-- TIMEBASE_ENABLE (R50). -/
def execTimebaseEnable (m : Master) (on : Bool) (fl : List EntryFlaw) (s : State) : Host.Outcome State Fault Refusal :=
  .next (s.onDev fun d => d.portWrite m .timebase 0 R.HDR.CTRL (BitVec.ofNat 32 (b2n on)) { flaws := fl })

/-- SOURCE_REQUEST (R64). -/
def execSourceRequest (m : Master) (w : Word) (s : State) : Host.Outcome State Fault Refusal :=
  .next (s.onDev fun d => d.portWrite m .timebase 0 R.TIMEBASE.SRC_SEL w)

/-- FREQ_WRITE (R62). -/
def execFreqWrite (m : Master) (virt : Bool) (w : Word) (s : State) : Host.Outcome State Fault Refusal :=
  .next (s.onDev fun d =>
    d.portWrite m .timebase 0 (if virt then R.TIMEBASE.VIRT_FREQ else R.TIMEBASE.MASTER_FREQ) w)

/-- ANGLE_SLOT (R49). -/
def execAngleSlot (fl : List EntryFlaw) (s : State) : Host.Outcome State Fault Refusal :=
  .next (s.onDev fun d => d.whenLive fun d => d.angleSlot d.mem fl)

/-- FOLIO_BOUNDARY (R50). -/
def execFolioBoundary (fl : List EntryFlaw) (s : State) : Host.Outcome State Fault Refusal :=
  .next (s.onDev fun d => d.whenLive fun d => d.angleZero fl)

/-- PLL_UPDATE (R55). -/
def execPllUpdate (angle : BitVec 16) (freq : BitVec 32) (amp : BitVec 16) (err : BitVec 32) (s : State) : Host.Outcome State Fault Refusal :=
  .next (s.onDev fun d => d.whenLive fun d => d.pllUpdate angle.toNat freq.toNat amp.toNat err.toInt)

/-- PLL_LOCK_DECLARED (R56). -/
def execPllLockDeclared (s : State) : Host.Outcome State Fault Refusal :=
  .next (s.onDev fun d => d.whenLive fun d => d.pllLockDeclared)

/-- LOSS_OF_GRID (R57). -/
def execLossOfGrid (s : State) : Host.Outcome State Fault Refusal :=
  .next (s.onDev fun d => d.whenLive fun d => d.lossOfGrid)

/-- PHASE_JUMP (R58). -/
def execPhaseJump (s : State) : Host.Outcome State Fault Refusal :=
  .next (s.onDev fun d => d.whenLive fun d => d.phaseJump)

/-- MASTER_JUMP (R61). -/
def execMasterJump (s : State) : Host.Outcome State Fault Refusal :=
  .next (s.onDev fun d => d.whenLive fun d => d.masterJump)

/-- SYNCIN_EDGE (R67). -/
def execSyncinEdge (interval : BitVec 32) (s : State) : Host.Outcome State Fault Refusal :=
  .next (s.onDev fun d => d.whenLive fun d => d.syncinEdge interval.toNat)

/-- SYNC_LOCK_ACQUIRED (R68). -/
def execSyncLockAcquired (s : State) : Host.Outcome State Fault Refusal :=
  .next (s.onDev fun d => d.whenLive fun d => d.syncLockAcquired)

/-- SYNC_LOSS (R68). -/
def execSyncLoss (s : State) : Host.Outcome State Fault Refusal :=
  .next (s.onDev fun d => d.whenLive fun d => d.syncLoss)

/-- FMARK_FRAME_RECEIVED (R71). -/
def execFmarkFrameReceived (cells : List (BitVec 16 × BitVec 16)) (err : BitVec 32) (rate : BitVec 32) (fl : List EntryFlaw) (s : State) : Host.Outcome State Fault Refusal :=
  .next (s.onDev fun d => d.whenLive fun d =>
    d.fmarkFrame d.mem fl (cells.map (fun c => (c.1.toNat, c.2.toNat))) err.toInt rate.toNat)

/-- FMARK_TIMEOUT (R72). -/
def execFmarkTimeout (s : State) : Host.Outcome State Fault Refusal :=
  .next (s.onDev fun d => d.whenLive fun d => d.fmarkTimeout)

/-- PROOF_TAKE (R74). -/
def execProofTake (m : Master) (s : State) : Host.Outcome State Fault Refusal :=
  .next (s.onDev fun d => d.portWrite m .proof 0 R.PROOF.TAKE 1)

/-- PROOF_PERIODIC (R74). -/
def execProofPeriodic (s : State) : Host.Outcome State Fault Refusal :=
  .next (s.onDev fun d => d.whenLive fun d => d.proofPeriodic)

/-- PROOF_HOLD_WRITE (R76). -/
def execProofHoldWrite (m : Master) (w : Word) (s : State) : Host.Outcome State Fault Refusal :=
  .next (s.onDev fun d => d.portWrite m .proof 0 R.PROOF.HOLD w)

/-- HOLD_EXPIRED (R76). -/
def execHoldExpired (s : State) : Host.Outcome State Fault Refusal :=
  .next (s.onDev fun d => d.whenLive fun d => d.holdExpired)

end Sys2Proof.Machine
end

