-- ==== Sys2Proof/Machine/Dispatch.lean ====
section
/-!
DEFINITION. The effect of a command on everything but the queue.
-/
namespace Sys2Proof.Machine

/-- The effect of a command. -/
def exec (i : Instr) (s : State) : Host.Outcome State Fault Refusal :=
  match i with
  | .cellarPowerOn => Sys2Proof.Machine.execCellarPowerOn s
  | .cellarOff => Sys2Proof.Machine.execCellarOff s
  | .islandPowerOn pass => Sys2Proof.Machine.execIslandPowerOn pass s
  | .vsysQualified => Sys2Proof.Machine.execVsysQualified s
  | .brownOut => Sys2Proof.Machine.execBrownOut s
  | .pwronWaitExpiry => Sys2Proof.Machine.execPwronWaitExpiry s
  | .arm m => Sys2Proof.Machine.execArm m s
  | .disarm m => Sys2Proof.Machine.execDisarm m s
  | .hibernate m => Sys2Proof.Machine.execHibernate m s
  | .cellar m => Sys2Proof.Machine.execCellar m s
  | .safeExit m => Sys2Proof.Machine.execSafeExit m s
  | .reset m => Sys2Proof.Machine.execReset m s
  | .sysCmdInvalid m w => Sys2Proof.Machine.execSysCmdInvalid m w s
  | .claim m page tag => Sys2Proof.Machine.execClaim m page tag s
  | .release m page tag => Sys2Proof.Machine.execRelease m page tag s
  | .claimSet m win tag => Sys2Proof.Machine.execClaimSet m win tag s
  | .releaseSet m win tag => Sys2Proof.Machine.execReleaseSet m win tag s
  | .registerWrite m a w f => Sys2Proof.Machine.execRegisterWrite m a w f s
  | .enableWrite m page on => Sys2Proof.Machine.execEnableWrite m page on s
  | .softReset m page on => Sys2Proof.Machine.execSoftReset m page on s
  | .lockSet m page => Sys2Proof.Machine.execLockSet m page s
  | .eventSet m page w => Sys2Proof.Machine.execEventSet m page w s
  | .faultClear m page w => Sys2Proof.Machine.execFaultClear m page w s
  | .angleRead m => Sys2Proof.Machine.execAngleRead m s
  | .timebaseEnable m on fl => Sys2Proof.Machine.execTimebaseEnable m on fl s
  | .sourceRequest m w => Sys2Proof.Machine.execSourceRequest m w s
  | .freqWrite m virt w => Sys2Proof.Machine.execFreqWrite m virt w s
  | .angleSlot fl => Sys2Proof.Machine.execAngleSlot fl s
  | .folioBoundary fl => Sys2Proof.Machine.execFolioBoundary fl s
  | .pllUpdate angle freq amp err => Sys2Proof.Machine.execPllUpdate angle freq amp err s
  | .pllLockDeclared => Sys2Proof.Machine.execPllLockDeclared s
  | .lossOfGrid => Sys2Proof.Machine.execLossOfGrid s
  | .phaseJump => Sys2Proof.Machine.execPhaseJump s
  | .masterJump => Sys2Proof.Machine.execMasterJump s
  | .syncinEdge interval => Sys2Proof.Machine.execSyncinEdge interval s
  | .syncLockAcquired => Sys2Proof.Machine.execSyncLockAcquired s
  | .syncLoss => Sys2Proof.Machine.execSyncLoss s
  | .fmarkFrameReceived cells err rate fl => Sys2Proof.Machine.execFmarkFrameReceived cells err rate fl s
  | .fmarkTimeout => Sys2Proof.Machine.execFmarkTimeout s
  | .proofTake m => Sys2Proof.Machine.execProofTake m s
  | .proofPeriodic => Sys2Proof.Machine.execProofPeriodic s
  | .proofHoldWrite m w => Sys2Proof.Machine.execProofHoldWrite m w s
  | .holdExpired => Sys2Proof.Machine.execHoldExpired s
  | .galleyEnable m on => Sys2Proof.Machine.execGalleyEnable m on s
  | .galleyEntryWrite m n w => Sys2Proof.Machine.execGalleyEntryWrite m n w s
  | .galleyEntryRead m n flaw => Sys2Proof.Machine.execGalleyEntryRead m n flaw s
  | .impose m sheet => Sys2Proof.Machine.execImpose m sheet s
  | .imposeCancel m sheet => Sys2Proof.Machine.execImposeCancel m sheet s
  | .imposeScanDone fl => Sys2Proof.Machine.execImposeScanDone fl s
  | .whitelistWrite m n field w => Sys2Proof.Machine.execWhitelistWrite m n field w s
  | .galleySlot => Sys2Proof.Machine.execGalleySlot s
  | .tileEnable m n on => Sys2Proof.Machine.execTileEnable m n on s
  | .tilePeriodStart n => Sys2Proof.Machine.execTilePeriodStart n s
  | .ncycReached n => Sys2Proof.Machine.execNcycReached n s
  | .calRun m n w => Sys2Proof.Machine.execCalRun m n w s
  | .calInterval n => Sys2Proof.Machine.execCalInterval n s
  | .calDone n cpc => Sys2Proof.Machine.execCalDone n cpc s
  | .comparatorCrossing n c uv x => Sys2Proof.Machine.execComparatorCrossing n c uv x s
  | .blankingEnd n c x => Sys2Proof.Machine.execBlankingEnd n c x s
  | .outputMismatch n detail => Sys2Proof.Machine.execOutputMismatch n detail s
  | .convEnable m g on => Sys2Proof.Machine.execConvEnable m g on s
  | .groupGo m g w => Sys2Proof.Machine.execGroupGo m g w s
  | .groupStart g => Sys2Proof.Machine.execGroupStart g s
  | .groupUpdatePoint g => Sys2Proof.Machine.execGroupUpdatePoint g s
  | .lawSample g => Sys2Proof.Machine.execLawSample g s
  | .refWrite m g w => Sys2Proof.Machine.execRefWrite m g w s
  | .lawLoad m g => Sys2Proof.Machine.execLawLoad m g s
  | .lawClear m g => Sys2Proof.Machine.execLawClear m g s
  | .hiccupOffExpiry g => Sys2Proof.Machine.execHiccupOffExpiry g s
  | .hiccupCleanExpiry g => Sys2Proof.Machine.execHiccupCleanExpiry g s
  | .phaseFailureDecision g => Sys2Proof.Machine.execPhaseFailureDecision g s
  | .unlatch m g => Sys2Proof.Machine.execUnlatch m g s
  | .convRestore m g => Sys2Proof.Machine.execConvRestore m g s
  | .dischDisarmTrigger => Sys2Proof.Machine.execDischDisarmTrigger s
  | .dischStart m => Sys2Proof.Machine.execDischStart m s
  | .dischStop m => Sys2Proof.Machine.execDischStop m s
  | .circulate m => Sys2Proof.Machine.execCirculate m s
  | .test m => Sys2Proof.Machine.execTest m s
  | .dischTestDone readback => Sys2Proof.Machine.execDischTestDone readback s
  | .dischHoldExpiry => Sys2Proof.Machine.execDischHoldExpiry s
  | .dischTimeout => Sys2Proof.Machine.execDischTimeout s
  | .dischOutput detail => Sys2Proof.Machine.execDischOutput detail s
  | .adcEnable m c on => Sys2Proof.Machine.execAdcEnable m c on s
  | .conversionResult c uv lsb => Sys2Proof.Machine.execConversionResult c uv lsb s
  | .lpExit c => Sys2Proof.Machine.execLpExit c s
  | .binClose h => Sys2Proof.Machine.execBinClose h s
  | .binChannelEnable m h w => Sys2Proof.Machine.execBinChannelEnable m h w s
  | .streamEnable m c k w => Sys2Proof.Machine.execStreamEnable m c k w s
  | .piWrite m n w => Sys2Proof.Machine.execPiWrite m n w s
  | .ciWrite m n w => Sys2Proof.Machine.execCiWrite m n w s
  | .clrOvf m n => Sys2Proof.Machine.execClrOvf m n s
  | .ringEnable m n on => Sys2Proof.Machine.execRingEnable m n on s
  | .monitorConversion raw corr sat => Sys2Proof.Machine.execMonitorConversion raw corr sat s
  | .hibScanCycle vals => Sys2Proof.Machine.execHibScanCycle vals s
  | .monStall => Sys2Proof.Machine.execMonStall s
  | .adcStall c => Sys2Proof.Machine.execAdcStall c s
  | .owRoundStart => Sys2Proof.Machine.execOwRoundStart s
  | .owSettleSample => Sys2Proof.Machine.execOwSettleSample s
  | .chgEnable m on => Sys2Proof.Machine.execChgEnable m on s
  | .chgTick ohms => Sys2Proof.Machine.execChgTick ohms s
  | .chgTimerExpiry => Sys2Proof.Machine.execChgTimerExpiry s
  | .stepExit => Sys2Proof.Machine.execStepExit s
  | .prechargeTimeout => Sys2Proof.Machine.execPrechargeTimeout s
  | .orderlyEndTimeout => Sys2Proof.Machine.execOrderlyEndTimeout s
  | .gridWaitExpiry => Sys2Proof.Machine.execGridWaitExpiry s
  | .resumeDelayExpiry => Sys2Proof.Machine.execResumeDelayExpiry s
  | .s2Timeout => Sys2Proof.Machine.execS2Timeout s
  | .pilotPeriod high low on total => Sys2Proof.Machine.execPilotPeriod high low on total s
  | .pilotStateChange => Sys2Proof.Machine.execPilotStateChange s
  | .dutyUpdate err => Sys2Proof.Machine.execDutyUpdate err s
  | .bmsInWrite m w => Sys2Proof.Machine.execBmsInWrite m w s
  | .chgStart m => Sys2Proof.Machine.execChgStart m s
  | .pause m => Sys2Proof.Machine.execPause m s
  | .resume m => Sys2Proof.Machine.execResume m s
  | .chgStop m => Sys2Proof.Machine.execChgStop m s
  | .v2l m => Sys2Proof.Machine.execV2l m s
  | .v2v m => Sys2Proof.Machine.execV2v m s
  | .clear m => Sys2Proof.Machine.execClear m s
  | .restart m => Sys2Proof.Machine.execRestart m s
  | .gaugeEnable m on => Sys2Proof.Machine.execGaugeEnable m on s
  | .gaugeTick store => Sys2Proof.Machine.execGaugeTick store s
  | .filterRun => Sys2Proof.Machine.execFilterRun s
  | .gaugeDrift => Sys2Proof.Machine.execGaugeDrift s
  | .recordPublish => Sys2Proof.Machine.execRecordPublish s
  | .recAck m seq => Sys2Proof.Machine.execRecAck m seq s
  | .gaugeRestore m => Sys2Proof.Machine.execGaugeRestore m s
  | .init m => Sys2Proof.Machine.execInit m s
  | .discard m => Sys2Proof.Machine.execDiscard m s
  | .publish m => Sys2Proof.Machine.execPublish m s
  | .unfreeze m => Sys2Proof.Machine.execUnfreeze m s
  | .iwake inp code ms => Sys2Proof.Machine.execIwake inp code ms s
  | .vinOkSet vin vbak ms => Sys2Proof.Machine.execVinOkSet vin vbak ms s
  | .vinLost vin vsys => Sys2Proof.Machine.execVinLost vin vsys s
  | .offRequest => Sys2Proof.Machine.execOffRequest s
  | .chargerTick vbak ibak => Sys2Proof.Machine.execChargerTick vbak ibak s
  | .tbakMeasurement uv => Sys2Proof.Machine.execTbakMeasurement uv s
  | .bakTimerExpiry => Sys2Proof.Machine.execBakTimerExpiry s
  | .bakRestart m => Sys2Proof.Machine.execBakRestart m s
  | .relCurrentLimit => Sys2Proof.Machine.execRelCurrentLimit s
  | .relTimeLimit => Sys2Proof.Machine.execRelTimeLimit s
  | .relUvPause vbak => Sys2Proof.Machine.execRelUvPause vbak s
  | .relUvResume vbak => Sys2Proof.Machine.execRelUvResume vbak s
  | .relCoolEnd => Sys2Proof.Machine.execRelCoolEnd s
  | .buckHiccup k run => Sys2Proof.Machine.execBuckHiccup k run s
  | .buckHiccupRestart k => Sys2Proof.Machine.execBuckHiccupRestart k s
  | .buckCleanRun k => Sys2Proof.Machine.execBuckCleanRun k s
  | .supplyUnlatch m mask => Sys2Proof.Machine.execSupplyUnlatch m mask s
  | .buckBurstEntry k => Sys2Proof.Machine.execBuckBurstEntry k s
  | .buckBurstWake k high => Sys2Proof.Machine.execBuckBurstWake k high s
  | .regSyncLoss k => Sys2Proof.Machine.execRegSyncLoss k s
  | .ldoIlim k => Sys2Proof.Machine.execLdoIlim k s
  | .sysclkToPll => Sys2Proof.Machine.execSysclkToPll s
  | .xtalQualifyTimeout => Sys2Proof.Machine.execXtalQualifyTimeout s
  | .xtalLoss => Sys2Proof.Machine.execXtalLoss s
  | .xtalBack => Sys2Proof.Machine.execXtalBack s
  | .pllLoss => Sys2Proof.Machine.execPllLoss s
  | .clockMonitorAlarm isl good => Sys2Proof.Machine.execClockMonitorAlarm isl good s
  | .x32Loss => Sys2Proof.Machine.execX32Loss s
  | .x32Recovery => Sys2Proof.Machine.execX32Recovery s
  | .stepEnd bootsel diff => Sys2Proof.Machine.execStepEnd bootsel diff s
  | .stepEnable => Sys2Proof.Machine.execStepEnable s
  | .stepDisable => Sys2Proof.Machine.execStepDisable s
  | .stepWait => Sys2Proof.Machine.execStepWait s
  | .waitExpiry => Sys2Proof.Machine.execWaitExpiry s
  | .stepWaitv => Sys2Proof.Machine.execStepWaitv s
  | .waitvTimeout => Sys2Proof.Machine.execWaitvTimeout s
  | .stepCheck => Sys2Proof.Machine.execStepCheck s
  | .stepJump => Sys2Proof.Machine.execStepJump s
  | .stepStair => Sys2Proof.Machine.execStepStair s
  | .stairRise => Sys2Proof.Machine.execStairRise s
  | .stairTimeout => Sys2Proof.Machine.execStairTimeout s
  | .stepReset => Sys2Proof.Machine.execStepReset s
  | .rstoutRelease k => Sys2Proof.Machine.execRstoutRelease k s
  | .stepMark => Sys2Proof.Machine.execStepMark s
  | .stepInvalid => Sys2Proof.Machine.execStepInvalid s
  | .domainOn n => Sys2Proof.Machine.execDomainOn n s
  | .railUv n => Sys2Proof.Machine.execRailUv n s
  | .railOv n => Sys2Proof.Machine.execRailOv n s
  | .domOffTimeout n => Sys2Proof.Machine.execDomOffTimeout n s
  | .holdOffEnd => Sys2Proof.Machine.execHoldOffEnd s
  | .runAux m k => Sys2Proof.Machine.execRunAux m k s
  | .goSet m k => Sys2Proof.Machine.execGoSet m k s
  | .stopAux m => Sys2Proof.Machine.execStopAux m s
  | .cellarWriteSync rtc ticks => Sys2Proof.Machine.execCellarWriteSync rtc ticks s
  | .secRead m sub => Sys2Proof.Machine.execSecRead m sub s
  | .secondRollover => Sys2Proof.Machine.execSecondRollover s
  | .commit m => Sys2Proof.Machine.execCommit m s
  | .commitApply => Sys2Proof.Machine.execCommitApply s
  | .trimWrite m w => Sys2Proof.Machine.execTrimWrite m w s
  | .measStart m => Sys2Proof.Machine.execMeasStart m s
  | .measStop m => Sys2Proof.Machine.execMeasStop m s
  | .nrefCapture m ticks => Sys2Proof.Machine.execNrefCapture m ticks s
  | .measIntervalEnd ticks => Sys2Proof.Machine.execMeasIntervalEnd ticks s
  | .wakeInput inp high held => Sys2Proof.Machine.execWakeInput inp high held s
  | .pilotDetectorChange mv held => Sys2Proof.Machine.execPilotDetectorChange mv held s
  | .pwronAssert m => Sys2Proof.Machine.execPwronAssert m s
  | .pwronRelease m => Sys2Proof.Machine.execPwronRelease m s
  | .pwronPulseEnd => Sys2Proof.Machine.execPwronPulseEnd s
  | .faultEvent src how detail => Sys2Proof.Machine.execFaultEvent src how detail s
  | .historyRecord => Sys2Proof.Machine.execHistoryRecord s
  | .histRdWrite m w => Sys2Proof.Machine.execHistRdWrite m w s
  | .sevWrite m n w => Sys2Proof.Machine.execSevWrite m n w s
  | .quietPeriodElapsed => Sys2Proof.Machine.execQuietPeriodElapsed s
  | .recovWindowEnd => Sys2Proof.Machine.execRecovWindowEnd s
  | .clrFf m => Sys2Proof.Machine.execClrFf m s
  | .clrRecov m => Sys2Proof.Machine.execClrRecov m s
  | .clrLost m => Sys2Proof.Machine.execClrLost m s
  | .inject m src => Sys2Proof.Machine.execInject m src s
  | .reactionCheck aliveLow faultnLow dischHigh => Sys2Proof.Machine.execReactionCheck aliveLow faultnLow dischHigh s
  | .deviceResetByReaction => Sys2Proof.Machine.execDeviceResetByReaction s
  | .configCompare upset => Sys2Proof.Machine.execConfigCompare upset s
  | .islandCompareMismatch differ => Sys2Proof.Machine.execIslandCompareMismatch differ s
  | .referenceCompare diff => Sys2Proof.Machine.execReferenceCompare diff s
  | .aliveReadback differs us => Sys2Proof.Machine.execAliveReadback differs us s
  | .faultnReadback high us => Sys2Proof.Machine.execFaultnReadback high us s
  | .pathtest n ack => Sys2Proof.Machine.execPathtest n ack s
  | .selftestRun => Sys2Proof.Machine.execSelftestRun s
  | .selftestDone failed trims => Sys2Proof.Machine.execSelftestDone failed trims s
  | .scaoloArm m => Sys2Proof.Machine.execScaoloArm m s
  | .bootHeader tag bytes => Sys2Proof.Machine.execBootHeader tag bytes s
  | .bootSegment tag k len bytes => Sys2Proof.Machine.execBootSegment tag k len bytes s
  | .bootColophon tag bytes => Sys2Proof.Machine.execBootColophon tag bytes s
  | .colophonVerified => Sys2Proof.Machine.execColophonVerified s
  | .bootRelease => Sys2Proof.Machine.execBootRelease s
  | .bootTransferTimeout => Sys2Proof.Machine.execBootTransferTimeout s
  | .bootHoldoffEnd => Sys2Proof.Machine.execBootHoldoffEnd s
  | .bootFragment way first last count bytes => Sys2Proof.Machine.execBootFragment way first last count bytes s
  | .fragmentGapTimeout => Sys2Proof.Machine.execFragmentGapTimeout s
  | .arbAdvance m v burn => Sys2Proof.Machine.execArbAdvance m v burn s
  | .revoke m slot burn => Sys2Proof.Machine.execRevoke m slot burn s
  | .attest m => Sys2Proof.Machine.execAttest m s
  | .sessClose m => Sys2Proof.Machine.execSessClose m s
  | .sessChallenge tag healthy => Sys2Proof.Machine.execSessChallenge tag healthy s
  | .sessResponse tag bytes => Sys2Proof.Machine.execSessResponse tag bytes s
  | .hostSessClose tag => Sys2Proof.Machine.execHostSessClose tag s
  | .sessionIdleTimeout => Sys2Proof.Machine.execSessionIdleTimeout s
  | .nonceExpiry => Sys2Proof.Machine.execNonceExpiry s
  | .challenge m => Sys2Proof.Machine.execChallenge m s
  | .submit m => Sys2Proof.Machine.execSubmit m s
  | .relock m => Sys2Proof.Machine.execRelock m s
  | .program m burn => Sys2Proof.Machine.execProgram m burn s
  | .reburn m burn => Sys2Proof.Machine.execReburn m burn s
  | .margin m => Sys2Proof.Machine.execMargin m s
  | .resense m => Sys2Proof.Machine.execResense m s
  | .otpCommandDone x => Sys2Proof.Machine.execOtpCommandDone x s
  | .slockWrite m w => Sys2Proof.Machine.execSlockWrite m w s
  | .coreInstruction n ff df bit => Sys2Proof.Machine.execCoreInstruction n ff df bit s
  | .wfi n => Sys2Proof.Machine.execWfi n s
  | .wfiWake n => Sys2Proof.Machine.execWfiWake n s
  | .lockstepMismatch n => Sys2Proof.Machine.execLockstepMismatch n s
  | .memoryRead r a flaw bit => Sys2Proof.Machine.execMemoryRead r a flaw bit s
  | .subwordStore m a half v flaw bit => Sys2Proof.Machine.execSubwordStore m a half v flaw bit s
  | .scrubPass errors => Sys2Proof.Machine.execScrubPass errors s
  | .memoryClearDone n => Sys2Proof.Machine.execMemoryClearDone n s
  | .secCfgWrite m w => Sys2Proof.Machine.execSecCfgWrite m w s
  | .pairHalt m n => Sys2Proof.Machine.execPairHalt m n s
  | .pairStep m n ff df bit => Sys2Proof.Machine.execPairStep m n ff df bit s
  | .pairResume m n => Sys2Proof.Machine.execPairResume m n s
  | .pairRegAccess m write w => Sys2Proof.Machine.execPairRegAccess m write w s
  | .interruptEdge n src => Sys2Proof.Machine.execInterruptEdge n src s
  | .interruptDelivery n => Sys2Proof.Machine.execInterruptDelivery n s
  | .eoi m n src => Sys2Proof.Machine.execEoi m n src s
  | .swi m n set => Sys2Proof.Machine.execSwi m n set s
  | .clrPend m n src => Sys2Proof.Machine.execClrPend m n src s
  | .prioWrite m n k w => Sys2Proof.Machine.execPrioWrite m n k w s
  | .tick n => Sys2Proof.Machine.execTick n s
  | .lockRead m n => Sys2Proof.Machine.execLockRead m n s
  | .lockRelease m n => Sys2Proof.Machine.execLockRelease m n s
  | .msgWrite m n k w => Sys2Proof.Machine.execMsgWrite m n k w s
  | .dbSet m n w => Sys2Proof.Machine.execDbSet m n w s
  | .done m n => Sys2Proof.Machine.execDone m n s
  | .lockTimeout n => Sys2Proof.Machine.execLockTimeout n s
  | .mramWrite m => Sys2Proof.Machine.execMramWrite m s
  | .srWrite m r => Sys2Proof.Machine.execSrWrite m r s
  | .srRead m r => Sys2Proof.Machine.execSrRead m r s
  | .srRescan m r => Sys2Proof.Machine.execSrRescan m r s
  | .srEnable m r w => Sys2Proof.Machine.execSrEnable m r w s
  | .srScanDone ue => Sys2Proof.Machine.execSrScanDone ue s
  | .mramCommandDone x => Sys2Proof.Machine.execMramCommandDone x s
  | .mramWindowRead r x size flaw bit => Sys2Proof.Machine.execMramWindowRead r x size flaw bit s
  | .canFrameReceived n f => Sys2Proof.Machine.execCanFrameReceived n f s
  | .t1sFrameReceived f => Sys2Proof.Machine.execT1sFrameReceived f s
  | .txRequest m c req => Sys2Proof.Machine.execTxRequest m c req s
  | .txAbort m c req started => Sys2Proof.Machine.execTxAbort m c req started s
  | .frameSent c age coll bad folio angle => Sys2Proof.Machine.execFrameSent c age coll bad folio angle s
  | .busOff n => Sys2Proof.Machine.execBusOff n s
  | .recover m n => Sys2Proof.Machine.execRecover m n s
  | .busOffRecovery n seqs => Sys2Proof.Machine.execBusOffRecovery n seqs s
  | .ptpCommit m => Sys2Proof.Machine.execPtpCommit m s
  | .t1sPlca cycles => Sys2Proof.Machine.execT1sPlca cycles s
  | .busWake n us => Sys2Proof.Machine.execBusWake n us s
  | .hostPortWake us => Sys2Proof.Machine.execHostPortWake us s
  | .status tag => Sys2Proof.Machine.execStatus tag s
  | .read tag len a => Sys2Proof.Machine.execRead tag len a s
  | .write tag a words => Sys2Proof.Machine.execWrite tag a words s
  | .responseRead => Sys2Proof.Machine.execResponseRead s
  | .statusWordsRead => Sys2Proof.Machine.execStatusWordsRead s
  | .checkEnable m n on => Sys2Proof.Machine.execCheckEnable m n on s
  | .checkStart m n => Sys2Proof.Machine.execCheckStart m n s
  | .dinWrite m n size w => Sys2Proof.Machine.execDinWrite m n size w s
  | .finish m n => Sys2Proof.Machine.execFinish m n s
  | .resync m n => Sys2Proof.Machine.execResync m n s
  | .checkRecord n => Sys2Proof.Machine.execCheckRecord n s
  | .mxcfgWrite m k w => Sys2Proof.Machine.execMxcfgWrite m k w s
  | .gpioWrite m oe w => Sys2Proof.Machine.execGpioWrite m oe w s
  | .measure m => Sys2Proof.Machine.execMeasure m s
  | .ageMeasureDone ns nr => Sys2Proof.Machine.execAgeMeasureDone ns nr s
  | .trimCorrection => Sys2Proof.Machine.execTrimCorrection s
  | .relSoftStartEnd => Sys2Proof.Machine.execRelSoftStartEnd s
  | .buckSoftStartEnd k => Sys2Proof.Machine.execBuckSoftStartEnd k s
  | .canErrorFrame n e => Sys2Proof.Machine.execCanErrorFrame n e s
  | .requestFrameRefused cmd tag len crcOk bad => Sys2Proof.Machine.execRequestFrameRefused cmd tag len crcOk bad s
  | .pathCurrentLimit bak => Sys2Proof.Machine.execPathCurrentLimit bak s
  | .vbakSwitchChange on => Sys2Proof.Machine.execVbakSwitchChange on s

end Sys2Proof.Machine
end

