-- ==== Sys2Proof/Machine/Step.lean ====
section
/-!
DEFINITION. One step: the command at the front of the queue, or a clock where none waits.
-/
namespace Sys2Proof.Machine

/-- One step. On an empty queue one clock passes (log entry 6). -/
def step (s : State) : Host.Outcome State Fault Refusal :=
  match s.pending with
  | [] => .next (s.onDev Dev.clockTick)
  | c :: l => exec c { s with pending := l }

/-- The state with the command that a word spells put at the front of the queue; the table gives no command bits, so that no word
spells one. -/
def State.withFetchWord (s : State) (nbits w : Nat) : State :=
  match Sys2Proof.decodeTableWord nbits w with
  | some c => { s with pending := c :: s.pending }
  | none => s

end Sys2Proof.Machine
end

