-- ==== Sys2Proof/Safety.lean ====
section
/-!
DEFINITION. The terms that statements use: what every run of the device keeps, what it means for a command to run, and when a
master's access to a register is permitted.
-/
namespace Sys2Proof.Machine

/-- The key rack keeps what R37 and R44 fix: the safety keys have the owner tag 0xF000, and reserved keys are free. -/
def keysOk (k : KeyFile) : Prop :=
  (∀ a, keySafety a = true → Sparse.get keyDefault k a = 0xF000#16) ∧
  (∀ a, keyAssigned a = false → Sparse.get keyDefault k a = 0#16)

/-- What every step keeps: canonical memory, and the keys as R37 and R44 fix them. -/
structure State.Inv (s : State) : Prop where
  memory : Mem.wf s.dev.mem = true
  keys : keysOk s.dev.keys

/-- Command `c` runs on a device `d` and leaves it as `t`, whatever waits in the queue; the queue stays. -/
def Runs (c : Instr) (d t : Dev) : Prop :=
  ∀ q : List Instr, exec c { dev := d, pending := q } = .next { dev := t, pending := q }

/-- A write of register `ofs` of page `i` of a kind is permitted to a master (R26, R27, R34): the masters have supply, the master
reaches the page, and ACCESS admits it. -/
structure Dev.CanWrite (d : Dev) (m : Master) (k : PageKind) (i ofs : Nat) : Prop where
  live : d.busLive = true
  reached : d.pageReached m (0x40000000 + 0x1000 * pg k i + ofs) true = some ⟨k, i⟩
  access : d.accessOk m k i = true

/-- The device with its last access answered as complete. -/
def Dev.done (d : Dev) : Dev := { d with bus := .done }

/-- A read of register `ofs` of page `i` of a kind is permitted to a master (R26, R27, R34). -/
structure Dev.CanRead (d : Dev) (m : Master) (k : PageKind) (i ofs : Nat) : Prop where
  live : d.busLive = true
  reached : d.pageReached m (0x40000000 + 0x1000 * pg k i + ofs) false = some ⟨k, i⟩

end Sys2Proof.Machine
end

