-- ==== Sys2Proof/Certificates/Slice0/Obligations.lean ====
section
/-!
DEFINITION. The statements for the provers: what the commands and the block do by the numbered rules of the specification.
-/
section
open Sys2Proof Sys2Proof.Machine

/-- The power of the device: the cellar's supply takes it from OFF to CELLAR and its loss back (R18, R368); the island is
released, runs ISL_BIST, and raises ISL_SELFTEST where that fails (R349, R419); a wake event that waits, or AUTOSTART, takes it to
BOOT once VSYS is qualified (R18, R386); a brown-out takes it to CELLAR with every latched request discarded, after the reaction
that stops ALIVE, asserts FAULT_N and switches DISCH on (R19); a wake whose supply does not come within PWRON_WAIT is given up
(R389). -/
def Obligations.PowerRuns : Prop :=
  ∀ d : Dev,
    (d.state = 0 → ∃ t, Runs .cellarPowerOn d t ∧ t.reg (pg .sys) R.SYS.STATE = 0x00000101#32 ∧ t.keys = keysAtReset ∧
      ∀ a, Mem.byte t.mem a = if 0x50000000 ≤ a then Mem.byte d.mem a else 0) ∧
    (d.state = 1 → ∃ t, Runs .cellarOff d t ∧ t.reg (pg .sys) R.SYS.STATE = 0x00000100#32 ∧ t.keys = keysAtReset ∧
      ∀ a, Mem.byte t.mem a = if 0x50000000 ≤ a then Mem.byte d.mem a else 0) ∧
    (d.cel.islandUp = false → d.state = 1 ∨ d.state = 2 → d.islandLoad.cel.islandUp = true ∧
      Runs (.islandPowerOn true) d (d.islandLoad.setFlag (pg .scaolo) ⟨R.SCAOLO.SELFTEST, 0, 1⟩ true) ∧
      Runs (.islandPowerOn false) d ((d.islandLoad.setFlag (pg .scaolo) ⟨R.SCAOLO.SELFTEST, 0, 1⟩ false).raiseLevel .scaolo 0
        B.SCAOLO.ISL_SELFTEST 1)) ∧
    (d.state = 1 → d.cel.islandUp = true → d.cel.holdOff = false → d.cel.wakeDue ≠ 0 → d.cel.wakeAt + 400000 ≤ d.now →
      ∃ t, Runs .vsysQualified d t ∧ t.state = 2 ∧ t.fld (pg .sys) F.SYS.STATE_CAUSE = 0x02 ∧
        t.reg (pg .seq) R.SEQ.RST_STATUS = 0x0F ∧ t.keys = keysAtReset) ∧
    (d.state = 1 → d.cel.islandUp = true → d.cel.holdOff = false → d.cel.wakeDue = 0 → d.cel.autoDue = true →
      d.flag (pg .cellar) F.CELLAR.POLICY_AUTOSTART = true → ∃ t, Runs .vsysQualified d t ∧ t.state = 2 ∧
        t.fld (pg .sys) F.SYS.STATE_CAUSE = 0x03 ∧ t.reg (pg .seq) R.SEQ.RST_STATUS = 0x0F ∧ t.keys = keysAtReset) ∧
    (2 ≤ d.state → d.state ≤ 6 → ∃ t, Runs .brownOut d t ∧ t.state = 1 ∧ t.fld (pg .sys) F.SYS.STATE_CAUSE = 0x04 ∧
      t.keys = keysAtReset ∧ t.cel.wakeDue = 0) ∧
    (3 ≤ d.state → d.state ≤ 5 → Runs .brownOut d ((d.brownReaction.seqAbandon.modCel (fun c => { c with wakeDue := 0 })).enterCellar
        0x04) ∧ d.brownReaction.alive = false ∧ d.brownReaction.faultN = true ∧ d.brownReaction.disch.on = true) ∧
    (d.state = 1 → d.cel.wakeDue ≠ 0 → d.cel.holdOff = false →
      d.cel.wakeAt + 400000 * d.fld (pg .cellar) F.CELLAR.PWRON_WAIT_WAIT ≤ d.now → ∃ t, Runs .pwronWaitExpiry d t ∧ t.cel.wakeDue = 0 ∧
      t.flag (pg .cellar) F.CELLAR.STATUS_PWRON = false ∧ t.flag (pg .cellar) F.CELLAR.STATUS_PWRON_FAIL = true ∧
      t.reg (pg .cellar) R.CELLAR.PWRON_FAILS = d.reg (pg .cellar) R.CELLAR.PWRON_FAILS + 1)

/-- SYS.CMD as R20, R21, R23, R111, R414 and R416 accept it, under a permitted write: ARM where the six conditions hold and a tile has a valid tap table takes READY to RUN, DISARM
takes RUN to READY with the groups stopped, HIBERNATE and CELLAR begin the power-down run, SAFE_EXIT leaves SAFE for READY, RESET
makes a device reset; each accepted command is an event of SYS_CMD. A wrong key records 0x21, an invalid command and one that the state does not
admit record 0x20, ARM records which condition fails; a refused command changes nothing else of the device, and is no event. -/
def Obligations.SysCommandsRun : Prop :=
  ∀ (d : Dev) (m : Master), d.CanWrite m .sys 0 R.SYS.CMD →
    (∀ k : Fin 24, d.state = 3 → d.flag (pg .scaolo) F.SCAOLO.SELFTEST_PASS = true →
      d.flag (pg .tile k) F.TILE.CAL_STATUS_VALID = true → d.activeList.all (fun s => decide (d.sevOf s < 3)) = true → d.faultAtOrAbove 3 = false → d.tbActive ≠ 0 →
      (∀ g < 8, d.flag (pg .conv g) F.HDR.CTRL_ENABLE = true → d.groupKeys g = true) →
      d.flag (pg .disch) F.DISCH.STATUS_CHECKED = true → d.flag (pg .fault) F.FAULT.STATUS_RECOV_LATCHED = false →
      ∃ t, Runs (.arm m) d t ∧ t.state = 4 ∧ t.fld (pg .sys) F.SYS.STATE_CAUSE = 0x05 ∧ t.keys = d.keys ∧
        t.disch.armed = false) ∧
    (d.state = 4 → ∃ t, Runs (.disarm m) d t ∧ t.state = 3 ∧ t.fld (pg .sys) F.SYS.STATE_CAUSE = 0x05 ∧
      (∀ g < 8, t.flag (pg .conv g) F.CONV.GROUP_CTRL_GO = false) ∧ t.chg.disarmed = true ∧ t.keys = d.keys) ∧
    (d.state = 3 → d.powerDown = false → d.seq.goal = .none →
      Runs (.hibernate m) d ((d.cmdEvent 3).powerDownTo .hibernate).done ∧
      Runs (.cellar m) d ((d.cmdEvent 4).powerDownTo .cellar).done) ∧
    (d.state = 5 → d.safeActive = false → d.fc.backup = false → (d.cmdEvent 5).fld (pg .sys) F.SYS.STATE_PREV = 3 →
      Runs (.safeExit m) d (((d.cmdEvent 5).transition 3 0x05).releaseTiles).offSettle.done) ∧
    (2 ≤ d.state → d.state ≤ 5 → (d.cmdEvent 6).fc.checks = [] → ∃ t, Runs (.reset m) d t ∧ t.state = 2 ∧
      t.fld (pg .sys) F.SYS.STATE_CAUSE = 0x05 ∧ t.reg (pg .seq) R.SEQ.RST_STATUS = 0x0F ∧ t.keys = keysAtReset) ∧
    (∀ w : Word, bitsOf w.toNat 16 16 ≠ 0x5A3C → Runs (.sysCmdInvalid m w) d (d.setFld (pg .sys) F.SYS.STATE_CAUSE 0x21).done) ∧
    (∀ w : Word, bitsOf w.toNat 16 16 = 0x5A3C → bitsOf w.toNat 0 8 = 0 ∨ 6 < bitsOf w.toNat 0 8 →
      Runs (.sysCmdInvalid m w) d (d.setFld (pg .sys) F.SYS.STATE_CAUSE 0x20).done) ∧
    (d.state ≠ 3 → ∀ c, c = .arm m ∨ c = .hibernate m ∨ c = .cellar m → Runs c d (d.setFld (pg .sys) F.SYS.STATE_CAUSE 0x20).done) ∧
    (d.state ≠ 4 → Runs (.disarm m) d (d.setFld (pg .sys) F.SYS.STATE_CAUSE 0x20).done) ∧
    (d.state ≠ 5 ∨ d.safeActive = true ∨ d.fc.backup = true →
      Runs (.safeExit m) d (d.setFld (pg .sys) F.SYS.STATE_CAUSE 0x20).done) ∧
    (d.state = 3 → d.flag (pg .scaolo) F.SCAOLO.SELFTEST_PASS = false ∨
        (∀ k < 24, d.flag (pg .tile k) F.TILE.CAL_STATUS_VALID = false) →
      Runs (.arm m) d (d.setFld (pg .sys) F.SYS.STATE_CAUSE 0x11).done) ∧
    (∀ k : Fin 24, d.state = 3 → d.flag (pg .scaolo) F.SCAOLO.SELFTEST_PASS = true →
      d.flag (pg .tile k) F.TILE.CAL_STATUS_VALID = true → d.activeList.any (fun s => decide (3 ≤ d.sevOf s)) = true ∨ d.faultAtOrAbove 3 = true →
      Runs (.arm m) d (d.setFld (pg .sys) F.SYS.STATE_CAUSE 0x12).done)

/-- A claim and a release of one key through the CLAIM register of its page (R39, R41): a free key is taken for the tag written, and a
key held under that tag is freed where its resource is disabled; KR_RESULT reads OK and no other key changes. A key that another
tag holds stays, as CONFLICT; the key of an enabled resource stays, as BUSY. -/
def Obligations.KeyClaimedAndReleased : Prop :=
  ∀ (d : Dev) (m : Master) (page : BitVec 8) (tag : BitVec 16) (k : PageKind) (i key : Nat),
    page.toNat = pg k i → d.CanWrite m k i R.HDR.CLAIM → pageKey (pg k i) = some key → keySafety key = false →
    d.tagAllowed m tag = true →
    (d.keyTag key = 0 ∨ d.keyTag key = tag → ∃ t, Runs (.claim m page tag) d t ∧ t.keyTag key = tag ∧
      (∀ o, o ≠ key → t.keyTag o = d.keyTag o) ∧ t.reg (pg .keyrack) R.KEYRACK.KR_RESULT m.cls = 0 ∧ t.mem = d.mem) ∧
    (d.keyTag key ≠ 0 → d.keyTag key ≠ tag → ∃ t, Runs (.claim m page tag) d t ∧ t.keys = d.keys ∧
      t.reg (pg .keyrack) R.KEYRACK.KR_RESULT m.cls = BitVec.ofNat 32 (1 + 16 * key + 65536 * (d.keyTag key).toNat) ∧
      t.reg (pg .keyrack) R.KEYRACK.KR_CONFLICTS = d.reg (pg .keyrack) R.KEYRACK.KR_CONFLICTS + 1) ∧
    (d.keyTag key = tag → tag ≠ 0 → d.resourceEnabled key = false → ∃ t, Runs (.release m page tag) d t ∧ t.keyTag key = 0 ∧
      (∀ o, o ≠ key → t.keyTag o = d.keyTag o) ∧ t.reg (pg .keyrack) R.KEYRACK.KR_RESULT m.cls = 0 ∧ t.mem = d.mem) ∧
    (d.keyTag key = tag → tag ≠ 0 → d.resourceEnabled key = true → ∃ t, Runs (.release m page tag) d t ∧ t.keys = d.keys ∧
      t.reg (pg .keyrack) R.KEYRACK.KR_RESULT m.cls = BitVec.ofNat 32 (2 + 16 * key + 65536 * tag.toNat))

/-- A claim or a release of a set of keys (R40): every key of the window that KR_MASK marks, or none of them. A refusal counts once and
names the lowest key that would be refused on its own, with its result and its holder. -/
def Obligations.KeySetAllOrNone : Prop :=
  ∀ (d : Dev) (m : Master) (win : BitVec 5) (tag : BitVec 16), d.CanWrite m .keyrack 0 R.KEYRACK.KR_REQ →
    let mask := (d.reg (pg .keyrack) R.KEYRACK.KR_MASK m.cls).toNat
    let l := (numbers 32 (bitAt mask)).map (fun b => 32 * win.toNat + b)
    let refused := fun (t : Dev) (result : Nat → Nat) => t.keys = d.keys ∧
      t.reg (pg .keyrack) R.KEYRACK.KR_CONFLICTS = d.reg (pg .keyrack) R.KEYRACK.KR_CONFLICTS + 1 ∧
      ∀ k ∈ l, result k ≠ 0 → (∀ o ∈ l, o < k → result o = 0) → t.reg (pg .keyrack) R.KEYRACK.KR_RESULT m.cls =
        BitVec.ofNat 32 (result k + 16 * k + 65536 * (d.keyTag k).toNat) ∧
        t.reg (pg .keyrack) R.KEYRACK.KR_LAST_CONFLICT = BitVec.ofNat 32 (k + 65536 * tag.toNat)
    (∀ k, d.claimResult m k tag ≠ 0 ↔ keyAssigned k = false ∨ keySafety k = true ∨ d.tagAllowed m tag = false ∨
      d.keyTag k ≠ 0 ∧ d.keyTag k ≠ tag) ∧
    (mask ≠ 0 →
    ((∀ k ∈ l, d.claimResult m k tag = 0) → ∃ t, Runs (.claimSet m win tag) d t ∧ (∀ k ∈ l, t.keyTag k = tag) ∧
      (∀ k, k ∉ l → t.keyTag k = d.keyTag k) ∧ t.reg (pg .keyrack) R.KEYRACK.KR_RESULT m.cls = 0 ∧ t.mem = d.mem) ∧
    ((∃ k ∈ l, d.claimResult m k tag ≠ 0) → ∃ t, Runs (.claimSet m win tag) d t ∧ refused t (fun k => d.claimResult m k tag)) ∧
    ((∀ k ∈ l, d.releaseResult m k tag = 0) → ∃ t, Runs (.releaseSet m win tag) d t ∧ (∀ k ∈ l, t.keyTag k = 0) ∧
      (∀ k, k ∉ l → t.keyTag k = d.keyTag k) ∧ t.reg (pg .keyrack) R.KEYRACK.KR_RESULT m.cls = 0 ∧ t.mem = d.mem) ∧
    ((∃ k ∈ l, d.releaseResult m k tag ≠ 0) → ∃ t, Runs (.releaseSet m win tag) d t ∧ refused t (fun k => d.releaseResult m k tag)))

/-- The common header and common control of a page that is neither a converter group nor FAULT (R30, R33, R34): LOCK sets and stays, a lock
changes nothing else; EVENT_SET sets the bits that the page has, except in RUN, where it is refused; a write to a reserved page or of a
master that ACCESS shuts out is a bus fault; a register of plain fields takes the fields that are RW. -/
def Obligations.HeaderCommandsRun : Prop :=
  ∀ (d : Dev) (m : Master) (page : BitVec 8) (k : PageKind) (i : Nat), page.toNat = pg k i → k ≠ .conv → k ≠ .fault →
    (d.CanWrite m k i R.HDR.LOCK → d.lockSet (pg k i) = false →
      Runs (.lockSet m page) d (d.setReg (pg k i) R.HDR.LOCK 1).done) ∧
    (d.CanWrite m k i R.HDR.LOCK → d.lockSet (pg k i) = true → Runs (.lockSet m page) d d.done) ∧
    (d.CanWrite m k i R.HDR.EVENT_SET → d.state = 4 → ∀ w, Runs (.eventSet m page w) d (d.refuse m (pg k i) R.HDR.EVENT_SET).done) ∧
    (d.CanWrite m k i R.HDR.EVENT_SET → d.state ≠ 4 → ∀ w, (∀ b < 32, bitAt w.toNat b = true → d.eventSource k b = none) →
      Runs (.eventSet m page w) d (d.setReg (pg k i) R.HDR.EVENT (d.reg (pg k i) R.HDR.EVENT |||
        BitVec.ofNat 32 (w.toNat &&& (k.eventBits ||| 7)))).done) ∧
    (d.CanWrite m k i R.HDR.FAULT → k ≠ .tile → k ≠ .dom → k ≠ .disch → ∀ w,
      (∀ b < 32, bitAt w.toNat b = true → d.active (srcNo k i b) = false) →
      Runs (.faultClear m page w) d (d.setReg (pg k i) R.HDR.FAULT (d.reg (pg k i) R.HDR.FAULT &&& ~~~w)).done) ∧
    (d.CanWrite m k i R.HDR.CTRL → d.idle k i = false → pageKey (pg k i) ≠ none → d.keyHeldBy m ((pageKey (pg k i)).getD 0) = false →
      Runs (.softReset m page true) d ((d.refuse m (pg k i) R.HDR.CTRL).event (pg k i) F.HDR.EVENT_NOKEY).done)

/-- A write of a register that has no row of its own (R11, R34, R54): on a page whose registers only hold their fields, an unlocked idle
register takes every writable bit and keeps the others, and no other register, key or memory byte changes. A value outside a stated
range leaves its register whole where that is its only field, and sets EVENT.RANGE. -/
def Obligations.RegisterWriteTakesFields : Prop :=
  ∀ (d : Dev) (m : Master) (k : PageKind) (i ofs : Nat) (r : RegDesc) (a w : Word) (f : WriteFacts),
    k ∈ [PageKind.clk, .rompatch, .monadc, .openwire, .cal, .hostport] → 0x100 ≤ ofs → ofs < 0x800 →
    a.toNat = 0x40000000 + 0x1000 * pg k i + ofs → d.CanWrite m k i ofs → descOf k ofs = some r → r.banked = false → r.w1c = 0 →
    d.lockSet (pg k i) = false → d.idle k i = true →
    let new := merge (r.rw ||| r.rwl ||| r.rwi) w.toNat (d.reg (pg k i) ofs).toNat
    ((∀ x ∈ r.ranges, x.spec.holds x.lo x.w new = true) →
      Runs (.registerWrite m a w f) d (d.setReg (pg k i) ofs (BitVec.ofNat 32 new)).done) ∧
    (∀ x b, r.ranges = [x] → x.spec.holds x.lo x.w new = false → k.rangeBit = some b →
      r.rw ||| r.rwl ||| r.rwi = maskOf x.lo x.w →
      Runs (.registerWrite m a w f) d ((d.setReg (pg k i) ofs (d.reg (pg k i) ofs)).event (pg k i) ⟨R.HDR.EVENT, b, 1⟩).done)

/-- A write to a memory (R24, R25): an aligned word where the master may write; four bytes change, low byte first, and nothing else of the
device. -/
def Obligations.WordStoreWritesFourBytes : Prop :=
  ∀ (d : Dev) (m : Master) (a w : Word) (f : WriteFacts) (g : Region), d.busLive = true →
    regionOf a.toNat 4 = some g → g = .itcm ∨ g = .dtcm ∨ g = .sram ∨ g = .frame →
    a.toNat % 4 = 0 → d.memAllowed m a.toNat 4 true = true →
    ∃ t, Runs (.registerWrite m a w f) d t ∧ (∀ j < 4, Mem.byte t.mem (a.toNat + j) = BitVec.ofNat 8 (w.toNat / 256 ^ j)) ∧
      (∀ b, b < a.toNat ∨ a.toNat + 4 ≤ b → Mem.byte t.mem b = Mem.byte d.mem b) ∧ t = { d with mem := t.mem, bus := .done }

/-- A write that R34 does not admit, or that no bus carries, is a bus fault or nothing at all: a reserved or secure page, an unaligned or
forbidden address, a page whose ACCESS shuts the master out, and every write while the masters have no supply. -/
def Obligations.RefusedWritesChangeNoTarget : Prop :=
  ∀ (d : Dev) (m : Master) (a w : Word) (f : WriteFacts),
    (d.busLive = false → Runs (.registerWrite m a w f) d d) ∧
    (d.busLive = true → regionOf a.toNat 4 = some .pages → d.pageReached m a.toNat true = none →
      Runs (.registerWrite m a w f) d (d.busFault m)) ∧
    (d.busLive = true → ∀ q, d.pageReached m a.toNat true = some q → d.accessOk m q.kind q.inst = false →
      Runs (.registerWrite m a w f) d ((d.refuse m (pg q.kind q.inst) (a.toNat % 0x1000)).busFault m)) ∧
    (d.busLive = true → regionOf a.toNat 4 ≠ some .pages → a.toNat % 4 ≠ 0 ∨ d.memAllowed m a.toNat 4 true = false →
      Runs (.registerWrite m a w f) d (d.busFault m)) ∧
    (d.busFault m).keys = d.keys ∧ (d.busFault m).bus = .fault

/-- CTRL.ENABLE and SOFT_RESET where the page has no rule of its own for them (R30, R43): a page with a key takes ENABLE = 1 only from a
writer for the key's owner, else NOKEY; SOFT_RESET of an idle page gives its block's registers their reset values (but those that show what the device is doing, log
entry 24, and the OTP's EXT) and touches no register of another page. -/
def Obligations.EnableAndSoftReset : Prop :=
  ∀ (d : Dev) (m : Master) (page : BitVec 8) (k : PageKind) (i : Nat), page.toNat = pg k i → d.CanWrite m k i R.HDR.CTRL →
    (k ≠ .conv → k ≠ .fault → ∀ key, pageKey (pg k i) = some key → d.keyHeldBy m key = false →
      Runs (.enableWrite m page true) d (d.event (pg k i) F.HDR.EVENT_NOKEY).done) ∧
    (∀ key, k = .mbox → pageKey (pg k i) = some key → d.keyHeldBy m key = true →
      Runs (.enableWrite m page true) d (d.setFlag (pg k i) F.HDR.CTRL_ENABLE true).done) ∧
    (k ∈ [PageKind.pinmux, .clk, .path, .rompatch, .openwire, .cal, .intc, .hostport] →
      (∀ on, Runs (.enableWrite m page on) d (d.setFlag (pg k i) F.HDR.CTRL_ENABLE on).done) ∧
      (d.idle k i = true → ∀ on, ∃ t, Runs (.softReset m page on) d t ∧ t.flag (pg k i) F.HDR.CTRL_ENABLE = on ∧
        (d.lockSet (pg k i) = false → ∀ ofs r, 0x100 ≤ ofs → ofs < 0x800 → descOf k ofs = some r → r.keep = .dev → r.banked = false →
          Dev.softLive k r.ofs = false → (k = .clk → ofs ≠ R.CLK.CLK_CFG) → t.reg (pg k i) ofs = regDefault (regKey (pg k i) ofs)) ∧
        (∀ p o b, p < 0x100 → o < 0x1000 → p ≠ pg k i → t.reg p o b = d.reg p o b) ∧ t.keys = d.keys ∧ t.mem = d.mem))

/-- The angle timebase issues counts and opens folios (R48–R52): a count is issued once PHI has reached it, count 65,535 is followed at the
wrap of PHI by angle 0 of the next folio, passing 0xFFFF_FFFF is told to the epoch, a read of ANGLE latches the folio of its clock, and ENABLE = 0 stops both where they stand. -/
def Obligations.AngleAndFolioRun : Prop :=
  ∀ (d : Dev) (m : Master) (fl : List EntryFlaw),
    (d.CanRead m .timebase 0 R.TIMEBASE.ANGLE → Runs (.angleRead m) d
      { d.setReg (pg .timebase) R.TIMEBASE.FOLIO_AT_ANGLE (d.reg (pg .timebase) R.TIMEBASE.FOLIO) with
        bus := .data (d.reg (pg .timebase) R.TIMEBASE.ANGLE) }) ∧
    (d.busLive = true → d.tbActive ≠ 0 → d.angle ≠ 65535 → (d.angle + 1) * 4294967296 ≤ d.tb.phi → Runs (.angleSlot fl) d
      (((d.setReg (pg .timebase) R.TIMEBASE.ANGLE (BitVec.ofNat 32 (d.angle + 1))).issueCount d.mem fl 0 (d.angle + 1)).binEdge
        (d.angle + 1))) ∧
    (d.busLive = true → d.tbActive = 2 ∨ d.tbActive = 3 → d.angle = 65535 → 2 ^ 48 ≤ d.tb.phi → d.tbPending = 0 →
      d.tb.slew = .none → d.tb.nextFolio = none → ∃ e : Dev,
      e = ((d.setTbFreq (d.sourceRate d.tbActive)).modTb (fun t => { t with phi := t.phi - 2 ^ 48, nextFolio := none })) ∧
      Runs (.folioBoundary fl) d ((e.openFolio d.mem fl ((d.reg (pg .timebase) R.TIMEBASE.FOLIO).toNat + 1) true
        (decide (d.reg (pg .timebase) R.TIMEBASE.FOLIO = 0xFFFFFFFF#32))).measAngle0)) ∧
    (d.CanWrite m .timebase 0 R.HDR.CTRL → d.flag (pg .timebase) F.HDR.CTRL_ENABLE = true → ∃ t, Runs (.timebaseEnable m false fl) d t ∧
      t.tbActive = 0 ∧ t.tbPending = 0 ∧ t.reg (pg .timebase) R.TIMEBASE.FREQ = 0 ∧
      t.reg (pg .timebase) R.TIMEBASE.ANGLE = d.reg (pg .timebase) R.TIMEBASE.ANGLE ∧
      t.reg (pg .timebase) R.TIMEBASE.FOLIO = d.reg (pg .timebase) R.TIMEBASE.FOLIO ∧ t.mem = d.mem ∧ t.keys = d.keys)

/-- Sources of the timebase (R60, R62, R64): a request is kept as the latest one and acts at an angle 0; one for MASTER while the grid stands
is refused; one for the active source cancels what is pending; MASTER_FREQ and VIRT_FREQ take a rate inside their range. -/
def Obligations.SourceRequestsRun : Prop :=
  ∀ (d : Dev) (m : Master) (w : Word), let p := pg .timebase
    let e := d.plainWrite m .timebase 0 R.TIMEBASE.SRC_SEL w
    d.CanWrite m .timebase 0 R.TIMEBASE.SRC_SEL → e.fld p F.TIMEBASE.SRC_SEL_SRC = bitsOf w.toNat 0 3 →
    e.flag p F.HDR.CTRL_ENABLE = true → e.tbRole ≠ 2 → e.tbSlewing = false →
    (bitsOf w.toNat 0 3 = e.tbActive → Runs (.sourceRequest m w) d (e.setFld p F.TIMEBASE.SRC_STATUS_PENDING 0).done) ∧
    (bitsOf w.toNat 0 3 = 2 → e.tbActive ≠ 2 → e.pllLock = true ∨ e.fld p F.TIMEBASE.LOSS_CFG_LEVEL ≤ e.tb.amp → Runs (.sourceRequest m w) d
      ((e.setFld p F.TIMEBASE.SRC_STATUS_PENDING 0).event p F.TIMEBASE.EVENT_SRC_REFUSED).done) ∧
    (bitsOf w.toNat 0 3 = 3 → e.tbActive ≠ 3 → Runs (.sourceRequest m w) d (e.setFld p F.TIMEBASE.SRC_STATUS_PENDING 3).done) ∧
    (∀ v virt, d.CanWrite m .timebase 0 (if virt then R.TIMEBASE.VIRT_FREQ else R.TIMEBASE.MASTER_FREQ) →
      Runs (.freqWrite m virt v) d (d.plainWrite m .timebase 0 (if virt then R.TIMEBASE.VIRT_FREQ else R.TIMEBASE.MASTER_FREQ) v).done)

/-- The grid PLL's verdicts (R55–R58, R61): an update shows the grid angle and sees no amplitude on inputs without
results; LOCK_CONFIRM cycles within the window set PLL_LOCK; its loss, by amplitude or frequency over the times of R57 or by a
jump, takes TRACKED to HOLDOVER, counts, and raises TB_LOSS or TB_JUMP; a master jump drops lock and raises TB_MASTER_JUMP. -/
def Obligations.GridVerdictsRun : Prop :=
  ∀ d : Dev, d.busLive = true → let p := pg .timebase
    (∀ angle freq amp err, d.tbActive ≠ 1 → ∃ t, Runs (.pllUpdate angle freq amp err) d t ∧
      t.reg p R.TIMEBASE.GRID_ANGLE = BitVec.ofNat 32
        (if d.fld p F.TIMEBASE.LINE_SEL_MODE = 1 then (angle.toNat + 60075) % 65536 else angle.toNat) ∧
      ((∀ i ∈ d.linesUsed, d.inputLive i = false) → t.tb.amp = 0) ∧ t.tb.gridFreq = freq.toNat ∧ t.tb.phaseErr = err.toInt ∧
      t.reg p R.TIMEBASE.FREQ = d.reg p R.TIMEBASE.FREQ ∧ t.mem = d.mem ∧ t.keys = d.keys) ∧
    (d.pllLock = false → d.fld p F.TIMEBASE.PLL_CFG_LOCK_CONFIRM ≤ d.tb.lockRun → d.tbActive = 2 → d.tbPending = 0 → ∃ t, Runs .pllLockDeclared d t ∧ t.pllLock = true ∧
      t.flag p F.TIMEBASE.SRC_STATUS_SUPERVISED = true ∧ t.flag p F.TIMEBASE.EVENT_LOCK = true ∧ t.tbActive = 2) ∧
    (d.pllLock = true → d.tbActive = 1 → d.gridLost = true → ∃ e : Dev, e.pllLock = false ∧ e.tbActive = 5 ∧
      e.flag p F.TIMEBASE.SRC_STATUS_GRID_OK = false ∧ e.flag p F.TIMEBASE.EVENT_LOSS = true ∧
      e.reg p R.TIMEBASE.LOSSES = d.reg p R.TIMEBASE.LOSSES + 1 ∧
      Runs .lossOfGrid d (e.raise .timebase 0 B.TIMEBASE.TB_LOSS)) ∧
    (d.pllLock = true → d.tbActive = 1 → d.fld p F.TIMEBASE.JUMP_CFG_CONFIRM < d.tb.jumpRun → ∃ e : Dev,
      e.pllLock = false ∧ e.tbActive = 5 ∧ e.flag p F.TIMEBASE.EVENT_JUMP = true ∧
      e.reg p R.TIMEBASE.JUMPS = d.reg p R.TIMEBASE.JUMPS + 1 ∧ e.tb.jumpRun = 0 ∧
      Runs .phaseJump d (e.raise .timebase 0 B.TIMEBASE.TB_JUMP (ofSigned 16 d.tb.phaseErr))) ∧
    (d.tbActive = 2 → d.flag p F.TIMEBASE.SRC_STATUS_SUPERVISED = true → d.fld p F.TIMEBASE.JUMP_CFG_CONFIRM < d.tb.masterRun →
      ∃ e : Dev, e.pllLock = false ∧ e.tbActive = 2 ∧ e.reg p R.TIMEBASE.JUMPS = d.reg p R.TIMEBASE.JUMPS + 1 ∧
      Runs .masterJump d (e.raise .timebase 0 B.TIMEBASE.TB_MASTER_JUMP (ofSigned 16 d.tb.masterErr)))

/-- The carrier reference and FMARK (R67, R68, R70–R72): an edge within ±2 % sets the reference and in its place counts toward lock, 64 of
them set SYNC_LOCK, two periods without one raise TB_SYNC; a good frame counts, an invalid one counts in FMARK_BAD, and a follower without frames falls to HOLDOVER. -/
def Obligations.SyncAndFmarkRun : Prop :=
  ∀ d : Dev, d.busLive = true → let p := pg .timebase
    (∀ n : BitVec 32, d.flag p F.TIMEBASE.SYNC_CTRL_CREF_SRC = true → ∃ t, Runs (.syncinEdge n) d t ∧
      (50 * ((n.toNat : Int) - d.fld p F.TIMEBASE.CREF_PERIOD_PERIOD).natAbs ≤ d.fld p F.TIMEBASE.CREF_PERIOD_PERIOD →
        t.tb.syncGood = (if ((n.toNat : Int) - d.tb.crefPer).natAbs ≤ 4 then d.tb.syncGood + 1 else 0) ∧
        t.tb.crefFrom = d.now * 64 + (d.fld p F.TIMEBASE.SYNC_OFFSET_OFFSET * n.toNat + 32768) / 65536 ∧ t.tb.crefPer = n.toNat) ∧
      (d.fld p F.TIMEBASE.CREF_PERIOD_PERIOD < 50 * ((n.toNat : Int) - d.fld p F.TIMEBASE.CREF_PERIOD_PERIOD).natAbs →
        t.tb.syncGood = 0 ∧ t.tb.crefFrom = d.tb.crefFrom ∧ t.tb.crefPer = d.tb.crefPer) ∧
      t.tb.syncAt = d.now * 64 ∧ t.regs = d.regs ∧ t.mem = d.mem ∧ t.keys = d.keys) ∧
    (64 ≤ d.tb.syncGood → d.flag p F.TIMEBASE.SRC_STATUS_SYNC_LOCK = false → Runs .syncLockAcquired d
      ((d.setFlag p F.TIMEBASE.SRC_STATUS_SYNC_LOCK true).event p F.TIMEBASE.EVENT_SYNC_LOCK)) ∧
    (d.flag p F.TIMEBASE.SYNC_CTRL_CREF_SRC = true → d.flag p F.TIMEBASE.SRC_STATUS_SYNC_LOCK = true →
      d.tb.syncAt + 2 * d.tb.crefPer ≤ d.now * 64 → ∃ e : Dev,
      e.flag p F.TIMEBASE.SRC_STATUS_SYNC_LOCK = false ∧ e.flag p F.TIMEBASE.EVENT_SYNC_LOSS = true ∧ e.tb.syncGood = 0 ∧
      Runs .syncLoss d (e.raise .timebase 0 B.TIMEBASE.TB_SYNC)) ∧
    (∀ cells err rate fl, d.flag p F.HDR.CTRL_ENABLE = true → d.tbRole = 2 → d.flag p F.TIMEBASE.SYNC_CTRL_FMARK_IN_EN = true →
      let l := cells.map (fun c : BitVec 16 × BitVec 16 => (c.1.toNat, c.2.toNat))
      (d.fmarkLock = false → readFrame l = none → ∃ t, Runs (.fmarkFrameReceived cells err rate fl) d t ∧
        t.reg p R.TIMEBASE.FMARK_BAD = d.reg p R.TIMEBASE.FMARK_BAD + 1 ∧ t.flag p F.TIMEBASE.EVENT_FMARK_ERR = true ∧
        t.tb.fmValid = 0 ∧ t.mem = d.mem) ∧
      (∀ bits, d.fmarkLock = false → d.tb.fmValid = 0 → readFrame l = some (true, bits) → ∃ t,
        Runs (.fmarkFrameReceived cells err rate fl) d t ∧
        t.reg p R.TIMEBASE.FMARK_GOOD = d.reg p R.TIMEBASE.FMARK_GOOD + 1 ∧ t.tb.fmValid = 1 ∧ t.tb.fmLast = BitVec.ofNat 32 bits ∧
        t.fmarkLock = false ∧ t.mem = d.mem)) ∧
    (d.fmarkLock = true → d.tbActive = 4 →
      2 * 400000000 * 65536 ≤ (d.now - d.tb.fmAt) * (d.reg p R.TIMEBASE.FREQ).toNat → ∃ e : Dev, e.fmarkLock = false ∧
      e.tbActive = 5 ∧ e.tb.heldFreq = (d.reg p R.TIMEBASE.FREQ).toNat ∧
      Runs .fmarkTimeout d (e.raise .timebase 0 B.TIMEBASE.TB_FMARK))

/-- Proofs (R73–R76): with its trigger enabled and no hold, a trigger takes the counters of one clock edge with a stamp of folio and
angle, and SEQ advances by one; under a hold it is missed and counted; in the clock of a copy it merges
with it. A master holds and releases with its own bit; a hold that
lasts too long is cleared whole. -/
def Obligations.ProofsRun : Prop :=
  ∀ (d : Dev) (m : Master), let p := pg .proof
    let apart := d.proof.copyAt ≠ some d.now ∧ d.proof.copyAt.map (· + 1) ≠ some d.now
    (d.CanWrite m .proof 0 R.PROOF.TAKE → bitAt (d.reg p R.PROOF.TRIG_EN).toNat 0 = true → d.reg p R.PROOF.HOLD = 0 → apart →
      ∃ t, Runs (.proofTake m) d t ∧ t.proof.active = ⟨d.proof.active.seq + 1, d.reg (pg .timebase) R.TIMEBASE.FOLIO,
        BitVec.ofNat 32 d.stampAngle, d.proofRtc, d.snapshot⟩ ∧ t.proof.other = d.proof.active ∧
        t.reg p R.PROOF.SEQ = d.proof.active.seq + 1 ∧ t.flag p F.PROOF.EVENT_TAKEN = true ∧ t.mem = d.mem ∧ t.keys = d.keys) ∧
    (d.CanWrite m .proof 0 R.PROOF.TAKE → bitAt (d.reg p R.PROOF.TRIG_EN).toNat 0 = true → d.reg p R.PROOF.HOLD ≠ 0 → apart →
      d.proof.missAt ≠ some d.now → ∃ t, Runs (.proofTake m) d t ∧ t.regs =
        ((d.bump p R.PROOF.MISSED).event p F.PROOF.EVENT_MISSED).regs ∧ t.proof = { d.proof with missAt := some d.now } ∧
        t.mem = d.mem ∧ t.keys = d.keys) ∧
    (d.CanWrite m .proof 0 R.PROOF.TAKE → bitAt (d.reg p R.PROOF.TRIG_EN).toNat 0 = true → d.proof.copyAt = some d.now →
      bitAt (d.fld p F.PROOF.TRIG_EN_AUTOHOLD) 0 = false → Runs (.proofTake m) d
        ((d.bump p R.PROOF.MERGED).setFld p F.PROOF.LAST_TRIG (d.fld p F.PROOF.LAST_TRIG ||| 1)).done) ∧
    (d.busLive = true → bitAt (d.reg p R.PROOF.TRIG_EN).toNat 3 = true → d.reg p R.PROOF.HOLD = 0 → apart →
      d.proof.periodFrom + 400 * d.fld p F.PROOF.PERIOD_PERIOD ≤ d.now →
      ∃ t, Runs .proofPeriodic d t ∧ t.proof.active.seq = d.proof.active.seq + 1 ∧ t.proof.active.copy = d.snapshot ∧
        t.proof.other = d.proof.active ∧
        t.proof.periodFrom = d.proof.periodFrom + 400 * d.fld p F.PROOF.PERIOD_PERIOD) ∧
    (d.CanWrite m .proof 0 R.PROOF.HOLD → ∀ w, ∃ t, Runs (.proofHoldWrite m w) d t ∧
      (bitAt w.toNat 4 = false → t.reg p R.PROOF.HOLD =
        BitVec.ofNat 32 (setBits (d.reg p R.PROOF.HOLD).toNat (Dev.holdBit m) 1 (bitsOf w.toNat (Dev.holdBit m) 1))) ∧
      t.proof.active = d.proof.active ∧ t.mem = d.mem ∧ t.keys = d.keys) ∧
    (d.busLive = true → d.reg p R.PROOF.HOLD ≠ 0 → 400 * d.fld p F.PROOF.HOLD_MAX_LIMIT < d.now - d.proof.holdSince →
      Runs .holdExpired d
      (((d.setReg p R.PROOF.HOLD 0).event p F.PROOF.EVENT_HOLD_EXPIRED).bump p R.PROOF.EXPIRED))

/-- The galley's entries and enable (R84, R85, R89): an entry outside every live and pending range takes a word, one inside keeps its word
and the write ends with a bus fault; a read gives the word, counting a corrected error and raising GAL_ECC on an uncorrectable one;
ENABLE = 0 stops firing after the clock of the write, discards what was deferred and closes the windows. -/
def Obligations.GalleyEntriesAndEnableRun : Prop :=
  ∀ (d : Dev) (m : Master), let p := pg .galley
    (∀ (i : Fin 32768) (w : Word), d.busLive = true → d.memAllowed m (0x38000000 + 4 * i.val) 4 true = true →
      (d.entryHeld (i.val / 2) = false → ∃ t, Runs (.galleyEntryWrite m i w) d t ∧ Mem.word t.mem (0x38000000 + 4 * i.val) = w ∧
        (∀ b, b < 0x38000000 + 4 * i.val ∨ 0x38000000 + 4 * i.val + 4 ≤ b → Mem.byte t.mem b = Mem.byte d.mem b) ∧ t.bus = .done) ∧
      (d.entryHeld (i.val / 2) = true → ∃ t, Runs (.galleyEntryWrite m i w) d t ∧
        t = ((d.bump p R.GALLEY.WRITE_REFUSED).event p F.GALLEY.EVENT_WRITE_REFUSED).busFault m ∧ t.bus = .fault ∧
        t.reg p R.GALLEY.WRITE_REFUSED = d.reg p R.GALLEY.WRITE_REFUSED + 1 ∧ t.flag p F.GALLEY.EVENT_WRITE_REFUSED = true ∧
        t.mem = (d.busFault m).mem ∧ (d.state ≠ 2 → t.mem = d.mem))) ∧
    (∀ e, d.entryHeld e = true ↔ ∃ s < 16, (d.fld p (F.GALLEY.SHEET_RANGE_BASE.at s) ≤ e ∧
        e < d.fld p (F.GALLEY.SHEET_RANGE_BASE.at s) + d.fld p (F.GALLEY.SHEET_RANGE_LEN.at s)) ∨
      ∃ q : ImposeReq, d.pendingOf s = some q ∧ q.base ≤ e ∧ e < q.base + q.len) ∧
    (∀ (i : Fin 32768), d.busLive = true → d.reaches m (0x38000000 + 4 * i.val) 4 false = true →
      Runs (.galleyEntryRead m i .clean) d { d with bus := .data (Mem.word d.mem (0x38000000 + 4 * i.val)) } ∧
      Runs (.galleyEntryRead m i .single) d
        { d.bump p R.GALLEY.ECC_CORRECTED with bus := .data (Mem.word d.mem (0x38000000 + 4 * i.val)) } ∧
      Runs (.galleyEntryRead m i .double) d ((d.raise .galley 0 B.GALLEY.GAL_ECC (i.val / 2)).busFault m)) ∧
    (d.CanWrite m .galley 0 R.HDR.CTRL →
      Runs (.galleyEnable m true) d (d.setFlag p F.HDR.CTRL_ENABLE true).done ∧
      ∃ t, Runs (.galleyEnable m false) d t ∧ t.flag p F.HDR.CTRL_ENABLE = false ∧ t.reg p R.GALLEY.WIN_STATE = 0 ∧
        t.gal.running = false ∧ t.gal.due = d.gal.due ∧ t.gal.deferred = [] ∧ t.mem = d.mem ∧ t.keys = d.keys)

/-- Impose and its scan (R91, R93): a request without the sheet's key is refused with 0x8 and one outside the galley with 0x2; an accepted
one is pending with 0x1 and its scan queued; a scan that passes leaves the request pending for the next boundary, and one that fails
removes it with its result and entry; a cancel by the key's holder removes a pending request. -/
def Obligations.ImposeAndScanRun : Prop :=
  ∀ (d : Dev) (m : Master) (n : Fin 16), let p := pg .galley
    let rg := (d.reg p R.GALLEY.NEXT_RANGE m.cls).toNat
    (d.CanWrite m .galley 0 R.GALLEY.IMPOSE → d.keyHeldBy m (0x2CC + n.val) = false → ∃ t, Runs (.impose m n) d t ∧
      t.fld p F.GALLEY.IMPOSE_STATUS_RESULT = 0x8 ∧ t.flag p F.GALLEY.EVENT_IMPOSE_FAIL = true ∧ t.gal = d.gal ∧ t.mem = d.mem) ∧
    (d.CanWrite m .galley 0 R.GALLEY.IMPOSE → d.keyHeldBy m (0x2CC + n.val) = true → 16384 < bitsOf rg 0 14 + bitsOf rg 16 15 →
      ∃ t, Runs (.impose m n) d t ∧ t.fld p F.GALLEY.IMPOSE_STATUS_RESULT = 0x2 ∧ t.flag p F.GALLEY.EVENT_IMPOSE_FAIL = true ∧
        t.gal = d.gal ∧ t.mem = d.mem) ∧
    (d.CanWrite m .galley 0 R.GALLEY.IMPOSE → d.keyHeldBy m (0x2CC + n.val) = true → bitsOf rg 0 14 + bitsOf rg 16 15 ≤ 16384 →
      (∀ s < 16, Dev.overlap (bitsOf rg 0 14, bitsOf rg 16 15) (d.sheetRange s) = false ∧ d.pendingOf s = none) →
      ∃ t, Runs (.impose m n) d t ∧ t.fld p F.GALLEY.IMPOSE_STATUS_RESULT = 0x1 ∧
        t.pendingOf n.val = some ⟨bitsOf rg 0 14, bitsOf rg 16 15, bitsOf (d.reg p R.GALLEY.NEXT_DIV m.cls).toNat 0 16, false⟩ ∧
        n.val ∈ t.gal.scanQ ∧ t.mem = d.mem) ∧
    (d.CanWrite m .galley 0 R.GALLEY.IMPOSE → d.keyHeldBy m (0x2CC + n.val) = true → (d.pendingOf n.val).isSome = true →
      ∃ t, Runs (.imposeCancel m n) d t ∧ t.fld p F.GALLEY.IMPOSE_STATUS_RESULT = 0xA ∧ t.pendingOf n.val = none ∧
        n.val ∉ t.gal.scanQ ∧ t.mem = d.mem) ∧
    (∀ (fl : List EntryFlaw) (r : ImposeReq) q, d.busLive = true → d.gal.scanQ = n.val :: q → d.pendingOf n.val = some r →
      (d.scanFrom d.mem fl r.len r.base 0 = none → ∃ t, Runs (.imposeScanDone fl) d t ∧ t.gal.scanQ = q ∧
        t.pendingOf n.val = some { r with passed := true } ∧ t.mem = d.mem) ∧
      (∀ res bad, d.scanFrom d.mem fl r.len r.base 0 = some (res, bad) → ∃ t, Runs (.imposeScanDone fl) d t ∧ t.gal.scanQ = q ∧
        t.pendingOf n.val = none ∧ t.reg p R.GALLEY.IMPOSE_BAD = BitVec.ofNat 32 bad ∧
        t.fld p F.GALLEY.IMPOSE_STATUS_RESULT = res % 16 ∧ t.flag p F.GALLEY.EVENT_IMPOSE_FAIL = true ∧ t.mem = d.mem))

/-- Firing and the whitelist (R88, R89, R96, R101): a slot fires at most 16 actions, those deferred before first, and the others wait; a
galley disabled on this clock fires only what was due on it, and a stopped timebase fires nothing; a whitelist register takes a word unless it would leave VALID on an entry that may not stand. -/
def Obligations.GalleySlotAndWhitelistRun : Prop :=
  ∀ d : Dev,
    (d.busLive = true → d.tbActive ≠ 0 → d.gal.running = true → d.gal.deferred.length + d.gal.due.length ≤ 16 → Runs .galleySlot d
      ({ d with gal := { d.gal with due := [], deferred := [] } }.fireList (d.gal.deferred ++ d.gal.due))) ∧
    (d.busLive = true → d.tbActive ≠ 0 → d.gal.running = true → 16 < d.gal.deferred.length + d.gal.due.length → Runs .galleySlot d
      (({ d with gal := { d.gal with due := [], deferred := [] } }.deferList ((d.gal.deferred ++ d.gal.due).drop 16)
        (d.gal.deferred.length - 16)).fireList ((d.gal.deferred ++ d.gal.due).take 16))) ∧
    (d.busLive = true → d.tbActive ≠ 0 → d.gal.running = false → Runs .galleySlot d
      ({ d with gal := { d.gal with due := [], deferred := [] } }.fireList (d.gal.due.take 16))) ∧
    (d.tbActive = 0 → Runs .galleySlot d d) ∧
    (∀ (m : Master) (i : Fin 32) (w : Word), d.CanWrite m .galley 0 (R.GALLEY.WL_ADDR + 4 * i.val) → d.lockSet (pg .galley) = false →
      d.reg (pg .galley) (R.GALLEY.WL_ADDR + 4 * i.val) ≠ (w &&& 0x800FFFFF#32) →
      (bitAt w.toNat 31 = false → ∃ t, Runs (.whitelistWrite m i false w) d t ∧
        t.reg (pg .galley) (R.GALLEY.WL_ADDR + 4 * i.val) = (w &&& 0x800FFFFF#32) ∧ t.mem = d.mem ∧ t.keys = d.keys) ∧
      (bitAt w.toNat 31 = true →
        let f := (d.reg (pg .galley) (R.GALLEY.WL_FIELD + 4 * i.val)).toNat
        d.wlNames (bitsOf w.toNat 0 20) (bitsOf f 0 5) (bitsOf f 8 5) = false → Runs (.whitelistWrite m i false w) d
          (d.refuse m (pg .galley) (R.GALLEY.WL_ADDR + 4 * i.val)).done))

/-- The edge grid and the outputs of a period (R107, R109, R114, R115, R118): an edge at position E leaves on clock E / 64 with fine code E mod 64;
the two nominal outputs of a period are never high together, and dead time leaves it so, whatever level is carried across the
boundary. -/
def Obligations.OutputsNeverOverlap : Prop :=
  (∀ e : Nat, 64 * (edgeClock e).1 + (edgeClock e).2 = e ∧ (edgeClock e).2 < 64) ∧
  (∀ k cpc : Nat, 1024 * tapCells k cpc ≤ k * cpc + 512 ∧ k * cpc + 512 < 1024 * (tapCells k cpc + 1)) ∧
  ∀ (mode len t dtH dtL x : Nat) (cH cL : Bool), t ≤ len →
    let h := layOutput dtH cH (nominal mode len t).1
    let l := layOutput dtL cL (nominal mode len t).2
    ¬ ((highAt (h.1 ++ h.2) x).isSome = true ∧ (highAt (l.1 ++ l.2) x).isSome = true) ∧
    (∀ i ∈ h.2, ∃ j ∈ (nominal mode len t).1, i = (j.1 + dtH, j.2)) ∧ (∀ i ∈ l.2, ∃ j ∈ (nominal mode len t).2, i = (j.1 + dtL, j.2)) ∧
    (∀ i ∈ h.1 ++ l.1, i.1 = 0)

/-- Enabling and stopping a tile (R120, R121, R122, R124): with the key held and a sound configuration ENABLE takes the tile to STOPPED, an
unsound one sets CFG_BAD and leaves it; ENABLE = 0 disables it; a readback error kills it at once and raises TILE_OUTPUT. -/
def Obligations.TileEnableAndKillRun : Prop :=
  ∀ (d : Dev) (m : Master) (n : Fin 24), let p := pg .tile n.val
    (d.CanWrite m .tile n.val R.HDR.CTRL → d.keyHeldBy m (0x100 + n.val) = true → d.flag p F.HDR.CTRL_ENABLE = false →
      (d.fld p F.TILE.PER_MIN_PERIOD ≤ d.fld p F.TILE.PER_MAX_PERIOD →
        d.deadTime n.val .h + d.deadTime n.val .l + 128 * d.fld p F.TILE.MIN_PULSE_MIN ≤ d.fld p F.TILE.PER_MIN_PERIOD →
        ((d.cmpSet n.val .a = 3 ∨ d.cmpSet n.val .b = 3) ↔ d.tileMode n.val = 4) → (∀ c, d.cmpFunc n.val c = 4 → d.flag p (Dev.cmpFlag c) = false) →
        ∃ t, Runs (.tileEnable m n true) d t ∧ t.flag p F.HDR.CTRL_ENABLE = true ∧ t.tstate n.val = 1 ∧
          t.reg p R.TILE.CONSEC = 0 ∧ t.reg p R.TILE.TRIM = 0 ∧ t.mem = d.mem ∧ t.keys = d.keys) ∧
      (d.fld p F.TILE.PER_MAX_PERIOD < d.fld p F.TILE.PER_MIN_PERIOD ∨
        d.fld p F.TILE.PER_MIN_PERIOD < d.deadTime n.val .h + d.deadTime n.val .l + 128 * d.fld p F.TILE.MIN_PULSE_MIN ∨
        ¬ ((d.cmpSet n.val .a = 3 ∨ d.cmpSet n.val .b = 3) ↔ d.tileMode n.val = 4) →
        Runs (.tileEnable m n true) d (d.event p F.TILE.EVENT_CFG_BAD).done)) ∧
    (d.CanWrite m .tile n.val R.HDR.CTRL → d.flag p F.HDR.CTRL_ENABLE = true → ∃ t, Runs (.tileEnable m n false) d t ∧
      t.flag p F.HDR.CTRL_ENABLE = false ∧ t.tstate n.val = 0 ∧ (t.tileS n.val).hSched = [] ∧ (t.tileS n.val).lSched = [] ∧
      (t.tileS n.val).hTodo = [] ∧ (t.tileS n.val).lTodo = [] ∧ t.mem = d.mem ∧ t.keys = d.keys) ∧
    (∀ k : Fin 4, d.busLive = true → k ≠ 0 → d.tstate n.val ≠ 0 → ∃ e : Dev, e.tstate n.val = 4 ∧ (e.tileS n.val).hSched = [] ∧
      (e.tileS n.val).lSched = [] ∧ (e.tileS n.val).killOut = true ∧
      e.reg p R.TILE.OUT_ERRS = d.reg p R.TILE.OUT_ERRS + 1 ∧
      Runs (.outputMismatch n k) d ((e.raiseLevel .tile n.val B.TILE.TILE_OUTPUT k.val).offSettle))

/-- A tile at its period starts (R112, R122, R130, R131): a tile asked to stop or to hold does so with both outputs low, one asked
to run lays out its period in RUN from its slot;
NCYC cycle-limited periods in a row signal the group, and CONSEC returns to 0. -/
def Obligations.TilePeriodsRun : Prop :=
  ∀ (d : Dev) (n : Fin 24), let p := pg .tile n.val
    d.busLive = true →
    (d.tstate n.val = 2 → (d.tileS n.val).want = .stop → ∃ e : Dev, e.tstate n.val = 1 ∧ e.reg p R.TILE.CONSEC = 0 ∧
      e.reg p R.TILE.TRIM = 0 ∧ e.mem = d.mem ∧ e.keys = d.keys ∧ Runs (.tilePeriodStart n) d e.offSettle) ∧
    (d.tstate n.val = 3 → (d.tileS n.val).want = .hold → ∃ e : Dev, e.tstate n.val = 2 ∧
      (e.tileS n.val).hSched = [] ∧ (e.tileS n.val).lSched = [] ∧ (e.tileS n.val).hTodo = [] ∧ (e.tileS n.val).lTodo = [] ∧
      (e.tileS n.val).start = (d.tileS n.val).start + d.endedLen n.val ∧ e.mem = d.mem ∧ e.keys = d.keys ∧
      Runs (.tilePeriodStart n) d e.offSettle) ∧
    (d.tstate n.val = 2 → (d.tileS n.val).want = .run → d.state = 4 → Runs (.tilePeriodStart n) d
      ((((d.setFld p F.TILE.STATUS_TSTATE 3).modTile n.val (fun t => { t.low with start := d.entryStart n.val, lastLen := 0 })).layPeriod
        n.val true).offSettle)) ∧
    (d.fld p F.TILE.NCYC_NCYC ≤ (d.reg p R.TILE.CONSEC).toNat → d.flag p F.TILE.STATUS_BOUND = false →
      Runs (.ncycReached n) d ((d.event p F.TILE.EVENT_NCYC_REACHED).setReg p R.TILE.CONSEC 0)) ∧
    (d.fld p F.TILE.NCYC_NCYC ≤ (d.reg p R.TILE.CONSEC).toNat → d.flag p F.TILE.STATUS_BOUND = true →
      let g := d.fld p F.TILE.STATUS_GROUP
      2 ≤ d.gstate g → d.gstate g ≤ 4 → ∃ t, Runs (.ncycReached n) d t ∧ t.reg p R.TILE.CONSEC = 0 ∧ t.flag p F.TILE.EVENT_NCYC_REACHED = true ∧
        (∃ s, (t.convS g).signals = (d.convS g).signals ++ [s]) ∧ t.mem = d.mem ∧ t.keys = d.keys)

/-- The delay-line measurement and the comparators (R110, R126, R128): a measurement that is asked for or due runs; a valid result takes
effect at once or, while the tile switches, at its next period start, one outside 72 to 124 cells raises TILE_CAL; a threshold crossed
under function TRIP kills the tile and raises TILE_TRIP; a function OFF does nothing; a trip inside blanking is counted as the
blanking ends. -/
def Obligations.CalibrationAndComparatorsRun : Prop :=
  ∀ (d : Dev) (n : Fin 24), let p := pg .tile n.val
    (∀ m w, d.CanWrite m .tile n.val R.TILE.CAL_CTRL → Runs (.calRun m n w) d
      ((d.plainWrite m .tile n.val R.TILE.CAL_CTRL (w ||| 0x10000#32)).modTile n.val (fun t => { t with calBusy := true })).done) ∧
    (d.busLive = true → Runs (.calInterval n) d (d.modTile n.val (fun t => { t with calBusy := true }))) ∧
    (∀ cpc : BitVec 16, d.busLive = true → (d.tileS n.val).calBusy = true → 1152 ≤ cpc.toNat → cpc.toNat ≤ 1984 →
      (d.tileS n.val).lastCpc = none → ∃ t, Runs (.calDone n cpc) d t ∧
        (d.tstate n.val ≠ 3 → (t.tileS n.val).tableCpc = cpc.toNat ∧ (t.tileS n.val).pendCpc = none) ∧
        (d.tstate n.val = 3 → (t.tileS n.val).tableCpc = (d.tileS n.val).tableCpc ∧ (t.tileS n.val).pendCpc = some cpc.toNat) ∧
        (t.tileS n.val).lastCpc = some cpc.toNat ∧ (t.tileS n.val).calBusy = false ∧
        t.flag p F.TILE.CAL_STATUS_VALID = true ∧ t.flag p F.TILE.CAL_STATUS_LAST_FAILED = false ∧
        t.reg p R.TILE.CAL_RUNS = d.reg p R.TILE.CAL_RUNS + 1 ∧ t.mem = d.mem ∧ t.keys = d.keys) ∧
    (∀ cpc : BitVec 16, d.busLive = true → (d.tileS n.val).calBusy = true → cpc.toNat < 1152 ∨ 1984 < cpc.toNat → ∃ e : Dev,
      e.flag p F.TILE.CAL_STATUS_LAST_FAILED = true ∧ (e.tileS n.val).tableCpc = (d.tileS n.val).tableCpc ∧
      (e.tileS n.val).calBusy = false ∧ Runs (.calDone n cpc) d (e.raise .tile n.val B.TILE.TILE_CAL cpc.toNat)) ∧
    (∀ c uv x, d.busLive = true → d.cmpFunc n.val c = 0 →
      Runs (.comparatorCrossing n c uv x) d (d.tileAdvance n.val x.toNat).offSettle) ∧
    (∀ uv x, d.busLive = true → d.cmpFunc n.val .a = 4 → d.cmpFunc n.val .b ≠ 4 → d.flag p F.TILE.STATUS_CMPA_OUT = false →
      d.tstate n.val ≠ 0 → d.active (srcNo .tile n.val B.TILE.TILE_TRIP) = false →
      Dev.cmpChanges (d.cmpLive n.val .a).1 false (d.cmpLive n.val .a).2.2 uv.toNat = true →
      ∃ e : Dev, e.tstate n.val = 4 ∧ (e.tileS n.val).killTrip = true ∧ (e.tileS n.val).hSched = [] ∧ (e.tileS n.val).lSched = [] ∧
        e.reg p R.TILE.CMPA_TRIPS = d.reg p R.TILE.CMPA_TRIPS + 1 ∧
        Runs (.comparatorCrossing n .a uv x) d ((e.raiseLevel .tile n.val B.TILE.TILE_TRIP 1).offSettle)) ∧
    (∀ x : BitVec 22, d.busLive = true → let e := d.tileAdvance n.val x.toNat
      let t := e.tileS n.val
      e.flag p F.TILE.STATUS_CMPA_OUT = false → Runs (.blankingEnd n .a x) d
        (((e.bump p R.TILE.BLANKED (t.blankA.filter (fun b => decide (b.1 ≤ t.start + x.toNat) && b.2)).length).modTile n.val
          (fun t' => { t' with blankA := t.blankA.filter (fun b => decide (t.start + x.toNat < b.1)) })).offSettle))

/-- Enabling, starting and stopping a converter group (R139, R141, R150, R177, R184). Each write runs unless it would break check 0xA while the
device is ARMED (R423): ENABLE binds the tiles or sets CFG_BAD; GO = 1 is kept; GO = 0 stops the group; UNLATCH and RESTORE act in
LATCHED and in STOPPED. A group with GO in RUN leaves STOPPED when its checks hold, else CFG_BAD. -/
def Obligations.GroupControlRuns : Prop :=
  ∀ (d : Dev) (m : Master) (g : Fin 8), let p := pg .conv g.val
    let ok := fun (e : Dev) => (d.armedHolds && !e.armedHolds) = false
    (d.CanWrite m .conv g.val R.HDR.CTRL → d.keyHeldBy m (0x148 + g.val) = true → d.flag p F.HDR.CTRL_ENABLE = false →
      d.convKeys g.val = true → d.groupConfigOk g.val = true →
      (∀ s ∈ d.boundSlots g.val, d.flag (pg .tile (d.slotTile g.val s)) F.TILE.STATUS_BOUND = false) →
      ok (d.convEnable g.val true true) → ∃ t, Runs (.convEnable m g true) d t ∧ t.flag p F.HDR.CTRL_ENABLE = true ∧ t.gstate g.val = 1 ∧
        (∀ s ∈ d.boundSlots g.val, t.flag (pg .tile (d.slotTile g.val s)) F.TILE.STATUS_BOUND = true ∧
          t.fld (pg .tile (d.slotTile g.val s)) F.TILE.STATUS_GROUP = g.val)) ∧
    (d.CanWrite m .conv g.val R.HDR.CTRL → d.keyHeldBy m (0x148 + g.val) = true → d.flag p F.HDR.CTRL_ENABLE = false →
      d.convKeys g.val = false ∨ d.groupConfigOk g.val = false → Runs (.convEnable m g true) d (d.event p F.CONV.EVENT_CFG_BAD).done) ∧
    (d.CanWrite m .conv g.val R.CONV.GROUP_CTRL → ∀ w, bitAt w.toNat 0 = true →
      let e := (d.plainWrite m .conv g.val R.CONV.GROUP_CTRL (d.holding p R.CONV.GROUP_CTRL 1 w)).setFlag p F.CONV.GROUP_CTRL_GO true
      ok e → Runs (.groupGo m g w) d e.done) ∧
    (d.CanWrite m .conv g.val R.CONV.GROUP_CTRL → ∀ w, bitAt w.toNat 0 = false →
      let e := d.plainWrite m .conv g.val R.CONV.GROUP_CTRL (d.holding p R.CONV.GROUP_CTRL 1 w)
      2 ≤ e.gstate g.val → e.gstate g.val ≤ 6 → ok (e.clearGo g.val) →
      Runs (.groupGo m g w) d ((e.setFlag p F.CONV.GROUP_CTRL_GO false).enterStopped g.val).done) ∧
    (d.busLive = true → d.gstate g.val = 1 → d.flag p F.CONV.GROUP_CTRL_GO = true → d.state = 4 →
      (d.gridDependent g.val = true → d.angleValid = true) →
      (d.startChecks g.val = false → Runs (.groupStart g) d (d.event p F.CONV.EVENT_CFG_BAD)) ∧
      (d.startChecks g.val = true → ∃ t, Runs (.groupStart g) d t ∧ t.gstate g.val = 2 ∧ t.fld p F.CONV.PROT_STATUS_VERDICT = 0 ∧
        (t.convS g.val).begun = false ∧ (t.convS g.val).frame = d.crefNext ∧ (t.convS g.val).askRun = true ∧ t.mem = d.mem ∧
        t.keys = d.keys)) ∧
    (d.CanWrite m .conv g.val R.CONV.PROT_CTRL → d.gstate g.val = 7 → ok (d.unlatch g.val) →
      ∃ t, Runs (.unlatch m g) d t ∧ t.gstate g.val = 1 ∧ t.fld p F.CONV.PROT_STATUS_RETRY = 0 ∧
        t.flag p F.CONV.EVENT_UNLATCHED = true) ∧
    (d.CanWrite m .conv g.val R.CONV.PROT_CTRL → d.gstate g.val = 1 → ok (d.convRestore g.val) →
      Runs (.convRestore m g) d ((d.setFld p F.CONV.PROT_STATUS_FAILED 0).setFld p F.CONV.STATUS_N_AVAIL
        ((d.setFld p F.CONV.PROT_STATUS_FAILED 0).heads g.val).length).done)

/-- A group in operation (R144, R150, R151, R154, R156, R174–R176, R181): REF and LAW_CTRL writes wait for the update point; an update point
closes the period and takes up the next, or without a valid angle stops a group that needs one; a sampling instant takes the feedback
and computes the law's output, or above the over-voltage level ends in battery loss; hiccup ends
in soft start; a clean run returns RETRY to 0; a phase failure that is not unique latches the group. -/
def Obligations.GroupOperationRuns : Prop :=
  ∀ (d : Dev) (m : Master) (g : Fin 8), let p := pg .conv g.val
    let ok := fun (e : Dev) => (d.armedHolds && !e.armedHolds) = false
    (∀ w, d.CanWrite m .conv g.val R.CONV.REF →
      let e := (d.plainWrite m .conv g.val R.CONV.REF w).collect g.val (.ref w.toInt)
      ok e → Runs (.refWrite m g w) d e.done) ∧
    (d.CanWrite m .conv g.val R.CONV.LAW_CTRL → d.sfld p F.CONV.OUT_MIN_VALUE ≤ d.sfld p F.CONV.OUT_MAX_VALUE →
      let e := d.modConv g.val (fun c => { c with loadReq := true })
      ok e → Runs (.lawLoad m g) d e.done) ∧
    (d.CanWrite m .conv g.val R.CONV.LAW_CTRL → d.sfld p F.CONV.OUT_MAX_VALUE < d.sfld p F.CONV.OUT_MIN_VALUE →
      Runs (.lawLoad m g) d (d.event p F.CONV.EVENT_RANGE).done) ∧
    (d.CanWrite m .conv g.val R.CONV.LAW_CTRL →
      let e := d.modConv g.val (fun c => { c with clearReq := true })
      ok e → Runs (.lawClear m g) d e.done) ∧
    (d.busLive = true → let e := d.settleU g.val
      let b := if (e.convS g.val).begun then (e.reachU g.val).closePeriod g.val else e.reachU g.val
      let i := if (e.convS g.val).begun then (e.convS g.val).iTot.mean else none
      2 ≤ e.gstate g.val → e.gstate g.val ≤ 6 →
      (b.gridDependent g.val = true → b.angleValid = false → Runs (.groupUpdatePoint g) d
        ((b.event p F.CONV.EVENT_ANGLE_STOP).enterStopped g.val)) ∧
      ((b.gridDependent g.val = true → b.angleValid = true) → (e.gstate g.val ≤ 4 → b.collapsed g.val i = false) →
        Runs (.groupUpdatePoint g) d ((b.modConv g.val (fun c => { c with iHist := match i with
          | some k => if e.gstate g.val ≤ 4 then (k :: (e.convS g.val).iHist).take 2 else []
          | none => [] })).updateGroup g.val i))) ∧
    (d.busLive = true → 2 ≤ d.gstate g.val → d.gstate g.val ≤ 4 → (d.convS g.val).circ = false → d.topo g.val ≠ 2 →
      (d.flag p F.CONV.BATT_CFG_OV_EN = true → d.newest (d.fld p F.CONV.FB_IN_V) ≤ (d.fld p F.CONV.BATT_V_OV_LEVEL : Int)) →
      d.flag p F.CONV.BATT_CFG_RATE_EN = false → ∃ t, Runs (.lawSample g) d t ∧
        t.reg p R.CONV.LAW_OUT = BitVec.ofInt 32 (Dev.lawStep (d.convS g.val).law (vget (d.convS g.val).hist 0 {})
          (vget (d.convS g.val).rNow 0 0) (d.newest (d.fld p F.CONV.FB_IN_FB)) (d.fld p F.CONV.LAW_CFG_QS)
          (d.flag p F.CONV.LAW_CFG_AW)).1.u1 ∧
        (t.convS g.val).sampled = true ∧ (t.convS g.val).vSamp = d.newest (d.fld p F.CONV.FB_IN_V) ∧
        (t.convS g.val).iSamp = d.newest (d.fld p F.CONV.FB_IN_I) ∧ t.mem = d.mem ∧ t.keys = d.keys) ∧
    (d.busLive = true → 2 ≤ d.gstate g.val → d.gstate g.val ≤ 5 → d.flag p F.CONV.BATT_CFG_OV_EN = true →
      (d.fld p F.CONV.BATT_V_OV_LEVEL : Int) < d.newest (d.fld p F.CONV.FB_IN_V) → Runs (.lawSample g) d
        ((d.modConv g.val (fun c => { c with
            vSamp := d.newest (d.fld p F.CONV.FB_IN_V)
            iSamp := d.newest (d.fld p F.CONV.FB_IN_I)
            ySamp := d.newest (d.fld p F.CONV.FB_IN_FB) })).batteryLost g.val 1)) ∧
    (d.busLive = true → d.gstate g.val = 6 →
      d.fld p F.CONV.HICCUP_CFG_OFF * 40000 ≤ d.now - (d.convS g.val).hicFrom → ∃ t, Runs (.hiccupOffExpiry g) d t ∧ t.gstate g.val = 2 ∧
      t.flag p F.CONV.EVENT_HICCUP_OUT = true ∧
      t.fld p F.CONV.PROT_STATUS_RETRY = min (2 ^ F.CONV.PROT_STATUS_RETRY.w - 1) (d.fld p F.CONV.PROT_STATUS_RETRY + 1)) ∧
    (∀ t, d.busLive = true → (d.convS g.val).cleanFrom = some t →
      d.fld p F.CONV.HICCUP_CLEAN_TIME * 400000 ≤ (d.convS g.val).cleanRun + (d.now - t) → Runs (.hiccupCleanExpiry g) d (d.setFld p F.CONV.PROT_STATUS_RETRY 0)) ∧
    (∀ i, d.busLive = true → (d.convS g.val).verdictDue = some i → (d.convS g.val).mixed = true → Runs (.phaseFailureDecision g) d
        (((((d.modConv g.val (fun c => { c with verdictDue := none })).setFld p F.CONV.RES_LAST_COUNT 0).modConv g.val
          (fun c => { c with suspect := none, mixed := false })).bump p R.CONV.AMBIGUOUS).latchGroup g.val
          B.CONV.CONV_PHASE_AMBIGUOUS 0xFFFF))

/-- The law engine (R151): its output lies between OUT_MIN and OUT_MAX where those do not cross, whatever the histories, the reference and
the feedback; the flag of a computation says whether the output was clamped; the reference as slewed never passes its target (R157). -/
def Obligations.LawOutputStaysInLimits : Prop :=
  (∀ (l : LawSet) (h : LawHist) (r y : Int) (qs : Nat) (aw : Bool), l.outMin ≤ l.outMax →
    l.outMin ≤ (Dev.lawStep l h r y qs aw).1.u1 ∧ (Dev.lawStep l h r y qs aw).1.u1 ≤ l.outMax) ∧
  (∀ (l : LawSet) (h : LawHist) (r y : Int) (qs : Nat) (aw : Bool),
    (Dev.lawStep l h r y qs aw).1.u2 = h.u1 ∧ (Dev.lawStep l h r y qs aw).1.u3 = h.u2 ∧
    (Dev.lawStep l h r y qs aw).1.e2 = h.e1 ∧ (Dev.lawStep l h r y qs aw).1.e3 = h.e2) ∧
  (∀ (c : ConvS) (dt : Nat), c.p ≤ c.target * stepsPerMs → c.p ≤ Dev.slewP c dt ∧ Dev.slewP c dt ≤ c.target * stepsPerMs) ∧
  (∀ (c : ConvS) (dt : Nat), c.target * stepsPerMs ≤ c.p → Dev.slewP c dt ≤ c.p ∧ c.target * stepsPerMs ≤ Dev.slewP c dt)

/-- The DC-link discharge (R188–R193): START, CIRCULATE and TEST act in the states that admit them and are refused in the others; STOP ends
what START began and is refused otherwise; a DISARM trigger waits for the tiles; HOLD, the time limit, the readback and the test end as their rules say. -/
def Obligations.DischargeRuns : Prop :=
  ∀ (d : Dev) (m : Master), let p := pg .disch
    (d.CanWrite m .disch 0 R.DISCH.DCMD →
      (d.state ≠ 4 → d.disch.on = false → ∃ t, Runs (.dischStart m) d t ∧ t.disch.on = true ∧ t.disch.byStart = true ∧ t.dstate = 1 ∧
        t.fld p F.DISCH.STATUS_TRIGGER = 5 ∧ t.mem = d.mem ∧ t.keys = d.keys) ∧
      (d.state = 4 → Runs (.dischStart m) d (d.event p F.DISCH.EVENT_CMD_REFUSED).done) ∧
      (d.disch.on = true → d.disch.byStart = true → d.disch.guardUntil ≤ d.now → ∃ t, Runs (.dischStop m) d t ∧
        t.disch.on = false ∧ t.dstate = 0 ∧ t.mem = d.mem ∧ t.keys = d.keys) ∧
      (d.disch.on = false ∨ d.disch.byStart = false ∨ d.now < d.disch.guardUntil →
        Runs (.dischStop m) d (d.event p F.DISCH.EVENT_CMD_REFUSED).done) ∧
      (d.state = 4 → d.flag p F.DISCH.DCFG_RES_EN = true → d.gstate (d.fld p F.DISCH.DCFG_RES_GROUP) = 3 → d.disch.on = false →
        ∃ t, Runs (.circulate m) d t ∧ t.disch.on = true ∧ t.dstate = 3 ∧
          (t.convS (d.fld p F.DISCH.DCFG_RES_GROUP)).circ = true ∧ t.mem = d.mem ∧ t.keys = d.keys) ∧
      (d.state = 2 ∨ d.state = 3 → d.dstate = 0 → d.fld p F.DISCH.DCFG_THRESH ≠ 0 →
        d.newest (d.fld p F.DISCH.DCFG_IN) < (d.fld p F.DISCH.DCFG_THRESH : Int) → ∃ t, Runs (.test m) d t ∧ t.dstate = 5 ∧
          t.disch.on = true ∧ t.disch.tests = 0 ∧ t.disch.since = d.now ∧ t.mem = d.mem ∧ t.keys = d.keys) ∧
      (d.state = 4 → Runs (.test m) d (d.event p F.DISCH.EVENT_CMD_REFUSED).done)) ∧
    (d.disch.armed = true → (∀ n < 24, d.tstate n ≠ 3) → d.disch.on = false → ∃ t, Runs .dischDisarmTrigger d t ∧
      t.disch.on = true ∧ t.disch.armed = false ∧ t.dstate = 1 ∧
      t.fld p F.DISCH.STATUS_TRIGGER = (if d.disch.armedHalt then 2 else 1) ∧ t.mem = d.mem) ∧
    (∀ r, d.dstate = 5 → d.disch.since + 16000 ≤ d.now → ∃ t, Runs (.dischTestDone r) d t ∧ t.dstate = 0 ∧ t.disch.on = false ∧
      (r = true → 2 ≤ d.disch.tests → d.disch.testOw = false → t.flag p F.DISCH.STATUS_CHECKED = true ∧
        t.flag p F.DISCH.EVENT_CHECK_PASS = true) ∧
      (r = false ∨ d.disch.tests < 2 ∨ d.disch.testOw = true → t.flag p F.DISCH.EVENT_CHECK_FAIL = true ∧
        t.flag p F.DISCH.STATUS_CHECKED = d.flag p F.DISCH.STATUS_CHECKED)) ∧
    (d.dstate = 2 → d.disch.guardUntil ≤ d.now → d.disch.holdFrom + 400000 * d.fld p F.DISCH.DTIME_HOLD ≤ d.now → ∃ t, Runs .dischHoldExpiry d t ∧ t.dstate = 0 ∧ t.disch.on = false ∧
      t.reg p R.DISCH.DISCHARGES = d.reg p R.DISCH.DISCHARGES + 1 ∧ t.flag p F.DISCH.EVENT_DONE = true) ∧
    (d.disch.on = true → d.dstate = 1 ∨ d.dstate = 3 → d.disch.since + 4000000 * d.fld p F.DISCH.DTIME_TIME ≤ d.now →
      Runs .dischTimeout d
      (((d.setFld p F.DISCH.STATUS_DSTATE 4).bump p R.DISCH.TIMEOUTS).raiseLevel .disch 0 B.DISCH.DISCH_TIMEOUT
        (d.fld p F.DISCH.VOLTAGE_CODE))) ∧
    Runs (.dischOutput 1) d ((d.setFlag p F.DISCH.STATUS_BALL false).raiseLevel .disch 0 B.DISCH.DISCH_OUTPUT 1) ∧
    Runs (.dischOutput 2) d ((d.setFlag p F.DISCH.STATUS_BALL true).raiseLevel .disch 0 B.DISCH.DISCH_OUTPUT 2) ∧
    Runs (.dischOutput 0) d ((d.setFlag p F.DISCH.STATUS_BALL d.disch.on).lower .disch 0 B.DISCH.DISCH_OUTPUT)

/-- The fast converters (R200–R203, R206, R226): ENABLE takes the list and starts, ENABLE = 0 abandons; a conversion that has run its time
counts and shows the calibrated result of its slot's gain and offset; a disabled converter converts nothing; low power ends with
FULL_RATE after 1 µs; 2 µs without a conversion raise ADC_STALL. -/
def Obligations.ConvertersRun : Prop :=
  ∀ (d : Dev) (m : Master) (c : Fin 16), let p := pg .adc c.val
    (d.CanWrite m .adc c.val R.HDR.CTRL → d.keyHeldBy m (0x150 + c.val) = true → d.flag p F.HDR.CTRL_ENABLE = false →
      ∃ t, Runs (.adcEnable m c true) d t ∧ t.flag p F.HDR.CTRL_ENABLE = true ∧ (t.adcS c.val).len = d.fld p F.ADC.LIST_LEN ∧
        (∀ i < 4, (vget t.af (4 * c.val + i) {}).seen = false) ∧ t.mem = d.mem ∧ t.keys = d.keys) ∧
    (d.CanWrite m .adc c.val R.HDR.CTRL → ∃ t, Runs (.adcEnable m c false) d t ∧ t.flag p F.HDR.CTRL_ENABLE = false ∧
      t.flag p F.ADC.STATUS_FULL_RATE = true ∧ (t.adcS c.val).low = false ∧ (t.adcS c.val).dec = [] ∧ t.mem = d.mem) ∧
    (∀ uv lsb, d.busLive = true → d.flag p F.HDR.CTRL_ENABLE = false → Runs (.conversionResult c uv lsb) d d) ∧
    (∀ uv lsb at', let a := d.adcS c.val
      d.busLive = true → d.flag p F.HDR.CTRL_ENABLE = true → (Dev.validSlots a).contains a.cur = true → a.leaving = false →
      a.since + Dev.slotClocks a ≤ d.now → a.held = some at' →
      let w := Dev.slotWord a a.cur
      let i := 4 * c.val + w % 4
      let f := fastValue w uv.toInt lsb (d.trimmed c.val)
      let r := userCal (d.ucal i) f.1
      d.owFlag i = false → ∃ e : Dev, e.reg p R.ADC.CONVERSIONS = d.reg p R.ADC.CONVERSIONS + 1 ∧
        e.reg p (R.ADC.LAST + 4 * (w % 4)) = BitVec.ofNat 32 (ofSigned 16 r.1 + 65536 * b2n (f.2 || r.2) + 262144 * b2n a.low) ∧
        (vget e.af i {}).raw = f.1 ∧ e.mem = d.mem ∧ e.keys = d.keys ∧
        Runs (.conversionResult c uv lsb) d
          ((((((e.deliver i r.1).binResult i at'.1 at'.2.1 r.1 (f.2 || r.2) a.low).owSeen i f.1
              ((Dev.validSlots a).find? (fun s => Dev.slotWord a s % 4 == w % 4) == some a.cur)).each (List.range 4)
            (fun d k => d.streamResult c.val k (w % 4) r.1 (f.2 || r.2) false a.low at'.1 at'.2.1 at'.2.2)).nextSlot
              c.val).lpStep c.val)) ∧
    (d.busLive = true → (d.adcS c.val).low = true → (d.adcS c.val).leaving = true → (d.adcS c.val).since + 400 ≤ d.now →
      Runs (.lpExit c) d ((((d.setFlag p F.ADC.STATUS_FULL_RATE true).event p F.ADC.EVENT_LP_OUT).modAdc c.val
        (fun a => { a with low := false, leaving := false })).convStart c.val)) ∧
    (d.busLive = true → d.flag p F.HDR.CTRL_ENABLE = true → Dev.validSlots (d.adcS c.val) ≠ [] →
      (d.adcS c.val).lastDone + 800 ≤ d.now → Runs (.adcStall c) d (d.raise .adc c.val B.ADC.ADC_STALL (d.adcS c.val).cur))

/-- Bins and streams (R209, R211, R213, R215): a bin that has closed is written as one word at its place, and memory keeps every other byte; a
channel whose depth is below 2 is refused with CFG_BAD; a stream into an enabled, stamped ring of its own converter with room for 10 ms of records
is taken and enabled, any other is refused with CFG_BAD and changes nothing. -/
def Obligations.BinsAndStreamsRun : Prop :=
  ∀ (d : Dev) (m : Master),
    (∀ (h : Fin 64) (f : Word) (b : Nat), d.busLive = true → (d.binS h.val).next = some (f, b) →
      d.reg (pg .timebase) R.TIMEBASE.FOLIO ≠ f → (d.binS h.val).openAt + 400 ≤ d.now →
      let a := (d.binBuffer h.val).1 + ((f.toNat % d.fld (pg .bin) (F.BIN.CH_DEPTH.at h.val)) * 2 ^ d.binK h.val + b) * 4
      let w := (Dev.binWord ((d.binS h.val).accs.find? (fun a => a.folio == f && a.idx == b)) (d.binS h.val).last f).2
      ∃ t, Runs (.binClose h) d t ∧ Mem.word t.mem a = w ∧
        (∀ x, x < a ∨ a + 4 ≤ x → Mem.byte t.mem x = Mem.byte d.mem x) ∧ t.keys = d.keys) ∧
    (∀ h : Fin 64, d.busLive = true → (d.binS h.val).next = none → Runs (.binClose h) d d) ∧
    (∀ (h : Fin 64) (w : Word), d.CanWrite m .bin 0 (R.BIN.CH + 4 * h.val) → d.flag (pg .bin) (F.BIN.CH_EN.at h.val) = false →
      bitsOf w.toNat 8 3 ≤ 4 → bitsOf w.toNat 12 3 < 2 → ∃ t, Runs (.binChannelEnable m h w) d t ∧
        t.flag (pg .bin) F.BIN.EVENT_CFG_BAD = true ∧ t.flag (pg .bin) (F.BIN.CH_EN.at h.val) = false ∧ t.bin = d.bin ∧ t.mem = d.mem) ∧
    (∀ (h : Fin 64) (w : Word), d.CanWrite m .bin 0 (R.BIN.CH + 4 * h.val) → d.flag (pg .bin) (F.BIN.CH_EN.at h.val) = false →
      bitsOf w.toNat 8 3 ≤ 4 → 2 ≤ bitsOf w.toNat 12 3 →
      let buf := (0x30000000 + 256 * bitsOf w.toNat F.BIN.CH_BASE.lo F.BIN.CH_BASE.w, bitsOf w.toNat 12 3 * 2 ^ (9 + bitsOf w.toNat 8 3) * 4)
      Dev.bytesIn buf 0x30000000 0x30200000 = true → d.storageTaken buf 96 h.val = false → ∃ t, Runs (.binChannelEnable m h w) d t ∧
        t.flag (pg .bin) (F.BIN.CH_EN.at h.val) = true ∧ t.mem = d.mem ∧ t.keys = d.keys) ∧
    (∀ (c : Fin 16) (k : Fin 4) (w : Word), d.CanWrite m .adc c.val (R.ADC.STREAM + 4 * k.val) → bitsOf w.toNat 8 7 ≤ 95 →
      bitsOf w.toNat 16 4 ≤ 8 →
      let v := BitVec.ofNat 32 (bitsOf (w.toNat &&& 0x81FF7F0F) 0 31)
      let e := (d.setReg (pg .adc c.val) (R.ADC.STREAM + 4 * k.val) v).modAdc c.val
        (fun a => { a with dec := a.dec.filter (fun e => e.1 / 4 != k.val) })
      let ring := bitsOf w.toNat 8 7
      (e.ringOn ring = false ∨ e.ringProducer ring ≠ pg .adc c.val ∨ e.flag (pg .ring ring) F.RING.CFG_STAMP = false ∨
          e.ringSize ring < 8 * (e.streamLoad c.val k.val ring + 2) →
        Runs (.streamEnable m c k w) d (d.event (pg .adc c.val) F.ADC.EVENT_CFG_BAD).done) ∧
      (e.ringOn ring = true → e.ringProducer ring = pg .adc c.val → e.flag (pg .ring ring) F.RING.CFG_STAMP = true →
          8 * (e.streamLoad c.val k.val ring + 2) ≤ e.ringSize ring →
        Runs (.streamEnable m c k w) d (e.setFlag (pg .adc c.val) (F.ADC.STREAM_EN.at k.val) true).done))

/-- Rings (R217, R219–R222): the indexes move forward by whole records within the fill and the free space, and a write beyond is refused and
changes neither; CLR_OVF ends an overflow with a GAP due; ENABLE with a sound configuration empties the ring, an unsound one is CFG_BAD. -/
def Obligations.RingsRun : Prop :=
  ∀ (d : Dev) (m : Master) (n : Fin 96), let p := pg .ring n.val
    (∀ w, d.CanWrite m .ring n.val R.RING.CI → w.toNat % 8 = 0 → sub32 w.toNat (d.ringCi n.val) ≤ d.ringFill n.val →
      Runs (.ciWrite m n w) d (d.setReg p R.RING.CI w).done) ∧
    (∀ w, d.CanWrite m .ring n.val R.RING.CI → w.toNat % 8 ≠ 0 ∨ d.ringFill n.val < sub32 w.toNat (d.ringCi n.val) →
      Runs (.ciWrite m n w) d (d.event p F.RING.EVENT_CI_REFUSED).done) ∧
    (∀ w, d.CanWrite m .ring n.val R.RING.PI → d.ringProducer n.val = 0xFF → w.toNat % 8 = 0 →
      sub32 w.toNat (d.ringPi n.val) ≤ d.ringFree n.val → ∃ t, Runs (.piWrite m n w) d t ∧ t.reg p R.RING.PI = w ∧
        t.reg p R.RING.CI = d.reg p R.RING.CI ∧ t.mem = d.mem ∧ t.keys = d.keys) ∧
    (∀ w, d.CanWrite m .ring n.val R.RING.PI → d.ringProducer n.val = 0xFF → w.toNat % 8 ≠ 0 ∨ d.ringFree n.val < sub32 w.toNat (d.ringPi n.val) →
      Runs (.piWrite m n w) d (d.event p F.RING.EVENT_PI_REFUSED).done) ∧
    (∀ w, d.CanWrite m .ring n.val R.RING.PI → d.ringProducer n.val ≠ 0xFF → Runs (.piWrite m n w) d d.done) ∧
    (d.CanWrite m .ring n.val R.RING.CMD → d.flag p F.RING.STATUS_OVERFLOW = true → Runs (.clrOvf m n) d
      ((d.setFlag p F.RING.STATUS_OVERFLOW false).modRing n.val (fun r => { r with gapDue := true })).done) ∧
    (d.CanWrite m .ring n.val R.RING.CMD → d.flag p F.RING.STATUS_OVERFLOW = false → Runs (.clrOvf m n) d d.done) ∧
    (d.CanWrite m .ring n.val R.HDR.CTRL → d.keyHeldBy m (0x260 + n.val) = true → d.flag p F.HDR.CTRL_ENABLE = false →
      (d.ringConfigOk n.val = true → ∃ t, Runs (.ringEnable m n true) d t ∧ t.flag p F.HDR.CTRL_ENABLE = true ∧ t.ringFill n.val = 0 ∧
        t.flag p F.RING.STATUS_OVERFLOW = false ∧ t.mem = d.mem ∧ t.keys = d.keys) ∧
      (d.ringConfigOk n.val = false → Runs (.ringEnable m n true) d (d.event p F.RING.EVENT_CFG_BAD).done)) ∧
    (d.CanWrite m .ring n.val R.HDR.CTRL → d.ringOn n.val = true → d.ringInUse n.val = true →
      Runs (.ringEnable m n false) d (d.refuse m p R.HDR.CTRL).done)

/-- The monitor and open-wire diagnosis (R223–R225, R227, R228): the monitor converts its channels in turn, shows the result with its user
calibration, and starts anew where it stalls; a whole scan in HIBERNATE shows its channels and counts; a round tests the selected inputs, and its first result switches the pull. -/
def Obligations.MonitorAndOpenWireRun : Prop :=
  ∀ d : Dev,
    (∀ raw corr sat, 2 ≤ d.state → d.state ≤ 5 → d.mon.since + 400 ≤ d.now → ∃ t, Runs (.monitorConversion raw corr sat) d t ∧
      t.mon.chan = (d.mon.chan + 1) % 40 ∧ t.mon.since = d.now ∧
      (16 ≤ d.mon.chan → d.mon.chan < 39 →
        let f := slowValue raw.toNat corr.toInt (d.trimmed 16)
        let r := userCal (d.ucal (d.mon.chan + 48)) f
        t.reg (pg .monadc) (R.MONADC.RESULT + 4 * d.mon.chan) = BitVec.ofNat 32 (ofSigned 16 r.1 + 65536 * b2n (sat || r.2) +
          131072 * b2n (d.owFlag (d.mon.chan + 48)) + 16777216 * ((d.reg (pg .monadc) R.MONADC.SCANS).toNat % 256)) ∧
        t.reg (pg .monadc) R.MONADC.SCANS = d.reg (pg .monadc) R.MONADC.SCANS)) ∧
    (∀ vals : List (BitVec 12 × BitVec 8), d.state = 6 → let left := d.hibChannels.drop d.mon.hib
      let v := vals.map (fun e => (e.1.toNat, e.2.toInt))
      left.length ≤ vals.length → d.mon.scanFrom + 400 * (20 + d.mon.hib + left.length) ≤ d.now →
      Runs (.hibScanCycle vals) d (((d.each (left.zip v)
        (fun d e => d.monitorResult e.1 (slowValue e.2.1 e.2.2 (d.trimmed 16)) false)).hibNext).bump (pg .monadc) R.MONADC.HIB_SCANS)) ∧
    (2 ≤ d.state → d.state ≤ 5 → d.mon.scanFrom + 20000 ≤ d.now → Runs .monStall d
      (({ d with mon := { d.mon with chan := 0, since := d.now, scanFrom := d.now } }.bump (pg .monadc) R.MONADC.STALLS).raise .monadc 0
        B.MONADC.MON_STALL d.mon.chan)) ∧
    (d.busLive = true → d.flag (pg .openwire) F.HDR.CTRL_ENABLE = true → d.ow.inRound = false →
      (∀ t, d.ow.roundFrom = some t → t + 400000 * d.fld (pg .openwire) F.OPENWIRE.OW_CFG_ROUND ≤ d.now) →
      Runs .owRoundStart d ({ d with ow := { d.ow with inRound := true, roundFrom := some d.now } }.owNext 0 89)) ∧
    (d.busLive = true → ∀ u, d.ow.phase = .up → d.ow.seen = some u →
      Runs .owSettleSample d { d with ow := { d.ow with u := u, phase := .down, seen := none, since := d.now } }) ∧
    (d.busLive = true → d.ow.seen = none → Runs .owSettleSample d d)

/-- The commands of the charge manager (R246–R251, R253, R269, R274): each acts in the states that admit it, with LAST_CMD showing its
operation and result 0; in every other state it changes nothing but LAST_CMD with result 0x3F and EVENT.CMD_REFUSED. START is kept; PAUSE
suspends with code 3; RESUME lets go the causes that need it; STOP ends REVERSE in IDLE and a charging session in DONE; V2L and V2V enter
REVERSE where nothing refuses them; CLEAR leaves FAULT once its cause has gone; RESTART begins a new session. -/
def Obligations.ChargeCommandsRun : Prop :=
  ∀ (d : Dev) (m : Master), let p := pg .chg
    d.CanWrite m .chg 0 R.CHG.CMD →
    (∀ x ∈ [(1, [0, 1, 6], Instr.chgStart m), (2, [1, 2, 3, 4, 6], .pause m), (3, [6], .resume m), (4, [1, 2, 3, 4, 6, 7], .chgStop m),
      (5, [0], .v2l m), (6, [0], .v2v m), (7, [8], .clear m), (8, [5], .restart m)], d.cstate ∉ x.2.1 →
      Runs x.2.2 d ((d.setReg p R.CHG.LAST_CMD (BitVec.ofNat 32 (x.1 + 256 * 0x3F))).event p F.CHG.EVENT_CMD_REFUSED).done) ∧
    (d.cstate ∈ [0, 1, 6] → Runs (.chgStart m) d ((d.setReg p R.CHG.LAST_CMD 1).setFlag p F.CHG.CSTATE_START true).done) ∧
    (d.cstate ∈ [1, 2, 3, 4] → ∃ t, Runs (.pause m) d t ∧ t.cstate = 6 ∧ bitAt t.suspMask 2 = true ∧
      t.reg p R.CHG.SUSPENDS = d.reg p R.CHG.SUSPENDS + 1 ∧ t.reg p R.CHG.LAST_CMD = 2 ∧ t.mem = d.mem ∧ t.keys = d.keys) ∧
    (d.cstate = 6 → (bitAt d.suspMask 1 && d.chgLatched) = false → ∃ t, Runs (.resume m) d t ∧
      t.reg p R.CHG.LAST_CMD = 3 ∧ t.mem = d.mem ∧ t.keys = d.keys ∧
      (d.suspMask ≠ 0 → d.suspMask &&& 0x1F8 = 0 → t.cstate = 1 ∧ t.fld p F.CHG.CSTATE_CAUSE = 0) ∧
      (d.suspMask &&& 0x1F8 ≠ 0 → t.cstate = 6 ∧ t.suspMask = d.suspMask &&& 0x1F8)) ∧
    (d.cstate ∈ [1, 2, 3, 4, 6, 7] → ∃ t, Runs (.chgStop m) d t ∧ t.cstate = (if d.cstate = 7 then 0 else 5) ∧
      t.fld p F.CHG.CSTATE_CAUSE = 0x12 ∧ t.mem = d.mem ∧ t.keys = d.keys) ∧
    (d.cstate = 0 → d.state = 3 ∨ d.state = 4 → ∀ v : Bool, let r := d.reverseRefusal v (d.keyTag 4 == 0x5023)
      let c := if v then Instr.v2v m else .v2l m
      (r = 0 → ∃ t, Runs c d t ∧ t.cstate = 7 ∧ t.chg.v2v = v ∧ t.chg.cpgen = (if v then .high else .idle) ∧
        t.reg p R.CHG.REVERSES = d.reg p R.CHG.REVERSES + 1 ∧ t.mem = d.mem ∧ t.keys = d.keys) ∧
      (r ≠ 0 → Runs c d ((d.setReg p R.CHG.LAST_CMD (BitVec.ofNat 32 ((if v then 6 else 5) + 256 * r))).event p
        F.CHG.EVENT_CMD_REFUSED).done)) ∧
    (d.cstate = 8 → d.chgFaultGone = true → ∃ t, Runs (.clear m) d t ∧ t.cstate = 0 ∧ t.fld p F.CHG.CSTATE_CAUSE = 0x15 ∧
      t.s2Closed = false ∧ t.mem = d.mem ∧ t.keys = d.keys) ∧
    (d.cstate = 5 → ∃ t, Runs (.restart m) d t ∧ t.cstate = 1 ∧ t.reg p R.CHG.SESSIONS = d.reg p R.CHG.SESSIONS + 1 ∧
      t.reg p R.CHG.STEP_EQ = 0 ∧ t.reg p R.CHG.STEP_RT = 0 ∧ t.reg p R.CHG.TOTAL_EQ = 0 ∧ t.reg p R.CHG.TOTAL_RT = 0 ∧
      t.mem = d.mem ∧ t.keys = d.keys)

/-- A session's ticks and limits (R245, R247–R251, R253, R257, R264, R266, R268, R275, R276): ENABLE takes a sound configuration, and ENABLE
= 0 ends in IDLE; a tick reads the proximity contact, and a HALT or SAFE reaction or a lost vehicle ends the session; a step's exit goes on to
the next step, to TOPOFF or to DONE; each limit acts once its time is reached. -/
def Obligations.ChargeSessionRuns : Prop :=
  ∀ (d : Dev) (m : Master), let p := pg .chg
    (d.CanWrite m .chg 0 R.HDR.CTRL →
      (d.flag p F.HDR.CTRL_ENABLE = false → d.chgIn ≠ d.chgOut → d.fld p F.CHG.SCALE_I_SCALE ≠ 0 → d.fld p F.CHG.SCALE_V_SCALE ≠ 0 →
        d.fld p F.CHG.REF_GAIN_GAIN ≠ 0 → ascends ((List.range 7).map (fun i => d.sfld p (F.CHG.ZONE_EDGE_EDGE.at i))) = true →
        d.flag p F.CHG.CFG_BMS_REQ = true →
        d.flag (pg .check (d.fld p F.CHG.CFG_BMS_UNIT)) F.HDR.CTRL_ENABLE = true → (∀ k < 4, (d.ntcSlot k).2.2 = false) →
        d.keyTag 3 = 0x5023 → Runs (.chgEnable m true) d (d.setFld p F.HDR.CTRL_ENABLE 1).done) ∧
      (d.flag p F.HDR.CTRL_ENABLE = false → d.chgIn = d.chgOut ∨ d.fld p F.CHG.REF_GAIN_GAIN = 0 ∨ d.keyTag 3 ≠ 0x5023 →
        Runs (.chgEnable m true) d (d.event p F.CHG.EVENT_CFG_BAD).done) ∧
      (d.flag p F.HDR.CTRL_ENABLE = true → ∃ t, Runs (.chgEnable m false) d t ∧ t.flag p F.HDR.CTRL_ENABLE = false ∧
        t.cstate = 0 ∧ t.fld p F.CHG.CSTATE_CAUSE = 0x14 ∧ t.mem = d.mem ∧ t.keys = d.keys)) ∧
    (∀ ohms, d.busLive = true → (d.flag p F.HDR.CTRL_ENABLE = false → ∃ t, Runs (.chgTick ohms) d t ∧ t.cstate = d.cstate ∧
        t.fld p F.CHG.PP_OHMS = min ohms.toNat 65535 ∧ t.ppNow = ppRating (d.fld p F.CHG.CFG_PP_MODE) ohms.toNat ∧
        t.chg.s2T = d.chg.s2T + 1 ∧ t.mem = d.mem ∧ t.keys = d.keys) ∧
      (d.flag p F.HDR.CTRL_ENABLE = true → d.chgDue = false → d.chg.watch = .none → d.cstate ≠ 0 → d.cstate ≠ 8 → d.chg.reacted = true →
        ∃ t, Runs (.chgTick ohms) d t ∧ t.cstate = 8 ∧ t.fld p F.CHG.CSTATE_CAUSE = 0x20 ∧ t.s2Closed = false ∧ t.mem = d.mem) ∧
      (d.flag p F.HDR.CTRL_ENABLE = true → d.chgDue = false → d.chg.watch = .none → d.cstate ∈ [1, 3, 4, 5, 6] → d.chg.reacted = false →
        d.chg.latched = false → ppRating (d.fld p F.CHG.CFG_PP_MODE) ohms.toNat = 7 →
        ∃ t, Runs (.chgTick ohms) d t ∧ t.cstate = 0 ∧ t.fld p F.CHG.CSTATE_CAUSE = 0x10 ∧ t.s2Closed = false ∧ t.mem = d.mem)) ∧
    (d.busLive = true →
      (d.chg.expire ≠ 0 → ∃ t, Runs .chgTimerExpiry d t ∧
        t = ((((d.bump p R.CHG.EXPIRIES).raise .chg 0 B.CHG.CHG_TIMER (if bitAt d.chg.expire 0 then 1 else 2)).chgSuspend 1).modChg
          (fun c => { c with expired := d.chg.expire, expire := 0 })) ∧ t.cstate = 6 ∧ bitAt t.suspMask 0 = true) ∧
      (d.chg.expire = 0 → Runs .chgTimerExpiry d d) ∧
      (d.chg.exitMet = true → d.chg.expire = 0 → d.cstate = 3 → d.chg.entry.last = false → d.fld p F.CHG.CSTATE_STEP < 7 →
        let s := d.fld p F.CHG.CSTATE_STEP + 1
        (d.profileEntry d.chgZone s).iLim ≠ 0 → (d.profileEntry d.chgZone s).safe ≠ 0 → ∃ t, Runs .stepExit d t ∧ t.cstate = 3 ∧
          t.fld p F.CHG.CSTATE_STEP = s ∧ t.chg.entry = d.profileEntry d.chgZone s ∧ t.reg p R.CHG.STEP_EQ = 0 ∧
          t.reg p R.CHG.STEP_RT = 0 ∧ t.mem = d.mem ∧ t.keys = d.keys) ∧
      (d.chg.exitMet = true → d.chg.expire = 0 → d.cstate = 3 → d.chg.entry.last = true →
        (d.fld p F.CHG.TOPOFF_CFG_V_LIM = 0 → ∃ t, Runs .stepExit d t ∧ t.cstate = 5 ∧ t.fld p F.CHG.CSTATE_CAUSE = 0x18) ∧
        (d.fld p F.CHG.TOPOFF_CFG_V_LIM ≠ 0 → d.chg.entry.iLim ≠ 0 → d.fld p F.CHG.TOPOFF_TIME_SAFE ≠ 0 → ∃ t, Runs .stepExit d t ∧
          t.cstate = 4 ∧ t.chg.entry.vLim = d.fld p F.CHG.TOPOFF_CFG_V_LIM ∧ t.chg.entry.iLim = d.chg.entry.iLim)) ∧
      (d.chg.exitMet = false → Runs .stepExit d d) ∧
      (d.cstate = 2 → d.fld p F.CHG.PRE_CFG_TIME * 100 ≤ d.chg.preT → d.precharged = false → ∃ t, Runs .prechargeTimeout d t ∧
        t = (d.raise .chg 0 B.CHG.CHG_PRECHARGE (ofSigned 16 d.chg.vLink)).enterChgFault 0x23 ∧ t.cstate = 8 ∧
        t.fld p F.CHG.CSTATE_CAUSE = 0x23) ∧
      (d.chg.ending = .ramp → d.fld p F.CHG.PILOT_CFG_STOP_TIME ≤ d.chg.endT → ∃ t, Runs .orderlyEndTimeout d t ∧
        t.chg.ending = .groups ∧ (∀ g ∈ [d.chgIn, d.chgOut], t.flag (pg .conv g) F.CONV.GROUP_CTRL_GO = false) ∧ t.mem = d.mem) ∧
      (d.cstate = 1 → d.s2Closed = true → d.fld p F.CHG.PILOT_CFG_GRID_WAIT * 100 ≤ d.chg.s2T → ∃ t, Runs .gridWaitExpiry d t ∧
        t.cstate = 6 ∧ bitAt t.suspMask 7 = true ∧ t.mem = d.mem ∧ t.keys = d.keys) ∧
      (d.cstate = 6 → d.suspMask = 0 → d.fld p F.CHG.EXIT_CFG_RESUME * 100 ≤ d.chg.zeroT → ∃ t, Runs .resumeDelayExpiry d t ∧
        t.cstate = 1 ∧ t.mem = d.mem ∧ t.keys = d.keys) ∧
      (100 ≤ d.chg.s2T → d.chg.watch = .closing → d.pilot ≠ 2 →
        let e := (d.modChg (fun c => { c with watch := .none })).raise .chg 0 B.CHG.CHG_S2 1
        Runs .s2Timeout d (if e.cstate = 0 ∨ e.cstate = 8 then e else e.enterChgFault 0x22)) ∧
      (d.chg.s2T < 100 → Runs .s2Timeout d d))

/-- The pilot and the battery's limits (R254, R255, R259): a period's plateaus show in PILOT_LEVEL, and it counts as PWM where its length and low
plateau are right; a high level of 2 ms, or a low one longer than a period, is no PWM; a plateau held for three periods or 3 ms becomes
STATE; DUTY is the mean of AVG periods within 0.05 %; BMS_IN is taken only with a new
checked verdict where CFG.BMS_REQ asks for one. -/
def Obligations.PilotAndBatteryRun : Prop :=
  ∀ (d : Dev) (m : Master), let p := pg .chg
    (d.busLive = true → d.chg.v2v = false → ∀ hi lo on tot,
      ∃ t, Runs (.pilotPeriod hi lo on tot) d t ∧ t.mem = d.mem ∧ t.keys = d.keys ∧
        t.fld p F.CHG.PILOT_LEVEL_HIGH = hi.toNat ∧ t.fld p F.CHG.PILOT_LEVEL_LOW = lo.toNat ∧
        (on.toNat ≠ 0 → on ≠ tot → 970000 ≤ tot.toNat → tot.toNat ≤ 1030000 → lo.toInt < -1100 → t.flag p F.CHG.PILOT_PWM = true ∧
          t.chg.perOn = d.chg.perOn + on.toNat ∧ t.chg.perTot = d.chg.perTot + tot.toNat ∧ t.chg.perN = d.chg.perN + 1) ∧
        (on.toNat ≠ 0 → on ≠ tot → -1100 ≤ lo.toInt → t.flag p F.CHG.PILOT_PWM = false ∧ t.pilot = 6) ∧
        (on.toNat = 0 ∨ on = tot → t.pilot = d.pilot ∧ t.chg.perN = 0) ∧
        (on.toNat ≠ 0 → on = tot → 2000000 ≤ d.chg.flatHigh + tot.toNat → t.flag p F.CHG.PILOT_PWM = false ∧
          t.fld p F.CHG.PILOT_DUTY = 10000) ∧
        (on.toNat = 0 → 1030000 < d.chg.flatLow + tot.toNat → t.flag p F.CHG.PILOT_PWM = false)) ∧
    (d.busLive = true → 3 ≤ d.chg.candRun ∨ 3000000 ≤ d.chg.candNs → d.chg.cand ≤ 6 → ∃ t, Runs .pilotStateChange d t ∧
      t.pilot = d.chg.cand ∧ t.reg p R.CHG.PILOT_ERRS = (if d.chg.cand ≠ d.pilot ∧ 4 ≤ d.chg.cand then d.reg p R.CHG.PILOT_ERRS + 1
        else d.reg p R.CHG.PILOT_ERRS) ∧ t.mem = d.mem ∧ t.keys = d.keys) ∧
    (d.busLive = true → d.chg.candRun < 3 → d.chg.candNs < 3000000 → Runs .pilotStateChange d d) ∧
    (∀ err : Fin 11, d.busLive = true → d.fld p F.CHG.PILOT_CFG_AVG ≤ d.chg.perN → d.chg.perTot ≠ 0 → ∃ t, Runs (.dutyUpdate err) d t ∧
      t.fld p F.CHG.PILOT_DUTY = (clampI ((10000 * d.chg.perOn / d.chg.perTot : Nat) + (err.val : Int) - 5) 0 10000).toNat ∧
      t.chg.perN = 0 ∧ t.mem = d.mem ∧ t.keys = d.keys) ∧
    (∀ err : Fin 11, d.busLive = true → d.chg.perN < d.fld p F.CHG.PILOT_CFG_AVG → Runs (.dutyUpdate err) d d) ∧
    (∀ w, d.CanWrite m .chg 0 R.CHG.BMS_IN →
      let u := pg .check (d.fld p F.CHG.CFG_BMS_UNIT)
      let lo := toSigned 16 w.toNat
      let hi := toSigned 16 (w.toNat / 65536)
      let good := bitAt d.chg.bmsDone (d.fld p F.CHG.CFG_BMS_UNIT) = true ∧ d.flag u F.CHECK.VERDICT_CRC_OK = true ∧ d.fld u F.CHECK.VERDICT_AC ≤ 2 ∧
        lo ≤ hi ∧ -500 ≤ lo ∧ hi ≤ 1500
      (d.flag p F.CHG.CFG_BMS_REQ = false → Runs (.bmsInWrite m w) d (d.setReg p R.CHG.BMS_IN w).done) ∧
      (d.flag p F.CHG.CFG_BMS_REQ = true → good → ∃ t, Runs (.bmsInWrite m w) d t ∧ t.reg p R.CHG.BMS_IN = w ∧
        t.reg p R.CHG.BMS_OK = d.reg p R.CHG.BMS_OK + 1 ∧ t.chg.bmsAge = some 0 ∧
        t.chg.bmsDone = 0 ∧ t.mem = d.mem ∧ t.keys = d.keys) ∧
      (d.flag p F.CHG.CFG_BMS_REQ = true → ¬good → Runs (.bmsInWrite m w) d
        ((d.bump p R.CHG.BMS_BAD).event p F.CHG.EVENT_BMS_REFUSED).done))

/-- The commands of the gauge (R280–R283, R300–R302, R304, R306): each acts in the states that admit it and is refused with result 5 in the
others; RESTORE takes a record that passes its checks and names the check that failed; INIT begins anew; DISCARD loses the kept fields;
PUBLISH asks for a record; UNFREEZE returns to the state frozen unless a watched group is LATCHED; REC_ACK takes only the pending sequence
number; ENABLE takes a sound configuration. -/
def Obligations.GaugeCommandsRun : Prop :=
  ∀ (d : Dev) (m : Master), let p := pg .gauge
    (d.CanWrite m .gauge 0 R.GAUGE.CMD →
      (∀ x ∈ [(1, [1], Instr.gaugeRestore m), (2, [1], .init m), (3, [3, 4], .discard m), (4, [3], .publish m), (5, [4], .unfreeze m)],
        d.gaugeState ∉ x.2.1 → Runs x.2.2 d ((d.setReg p R.GAUGE.LAST_CMD (BitVec.ofNat 32 (x.1 + 256 * 5))).event p
          F.GAUGE.EVENT_CMD_REFUSED).done) ∧
      (d.gaugeState = 1 → let r := d.recordCheck d.gaugeMail
        (r = 0 → Runs (.gaugeRestore m) d ((d.setReg p R.GAUGE.LAST_CMD 1).modGauge (fun x => { x with restore := some d.gaugeMail })).done) ∧
        (r ≠ 0 → Runs (.gaugeRestore m) d ((d.setReg p R.GAUGE.LAST_CMD (BitVec.ofNat 32 (1 + 256 * r))).event p
          F.GAUGE.EVENT_CMD_REFUSED).done) ∧
        Runs (.init m) d ((((d.setReg p R.GAUGE.LAST_CMD 2).bump64 p R.GAUGE.CC (-d.gauge.pend)).setFld p F.GAUGE.STATUS_GSTATE 2).modGauge
          (fun x => { x with pend := 0, restore := none })).done) ∧
      (d.gaugeState = 3 ∨ d.gaugeState = 4 → ∃ t, Runs (.discard m) d t ∧ t.gaugeState = 1 ∧ t.gauge.pend = 0 ∧ t.gauge.record = [] ∧
        (∀ o ∈ [R.GAUGE.Q, R.GAUGE.VP, R.GAUGE.CAP, R.GAUGE.CC, R.GAUGE.CC + 4, R.GAUGE.REC_SEQ, R.GAUGE.ACK_SEQ], t.reg p o = 0) ∧
        t.flag p F.GAUGE.STATUS_RETAINED = false ∧ t.flag p F.GAUGE.STATUS_PENDING = false ∧ t.mem = d.mem ∧ t.keys = d.keys) ∧
      (d.gaugeState = 3 → Runs (.publish m) d ((d.setReg p R.GAUGE.LAST_CMD 4).modGauge (fun x => { x with pubReq := true })).done) ∧
      (d.gaugeState = 4 → (∀ g < 8, d.gaugeWatches g = true → d.gstate g ≠ 7) → d.gauge.frozenFrom < 8 → ∃ t, Runs (.unfreeze m) d t ∧
        t.gaugeState = d.gauge.frozenFrom ∧ t.flag p F.GAUGE.STATUS_COULOMB_DRIFT = true ∧ t.reg p R.GAUGE.LAST_CMD = 5 ∧
        t.mem = d.mem ∧ t.keys = d.keys) ∧
      (d.gaugeState = 4 → (∃ g < 8, d.gaugeWatches g = true ∧ d.gstate g = 7) → Runs (.unfreeze m) d
        ((d.setReg p R.GAUGE.LAST_CMD (BitVec.ofNat 32 (5 + 256 * 8))).event p F.GAUGE.EVENT_CMD_REFUSED).done)) ∧
    (∀ seq, d.CanWrite m .gauge 0 R.GAUGE.REC_ACK →
      (d.flag p F.GAUGE.STATUS_PENDING = true → seq = d.reg p R.GAUGE.REC_SEQ → ∃ t, Runs (.recAck m seq) d t ∧
        t.reg p R.GAUGE.ACK_SEQ = seq ∧ t.reg p R.GAUGE.CAP_COMMIT = d.gauge.record.getD 4 0 ∧
        t.flag p F.GAUGE.STATUS_PENDING = false ∧ t.flag p F.GAUGE.EVENT_ACK = true ∧ t.mem = d.mem ∧ t.keys = d.keys) ∧
      (d.flag p F.GAUGE.STATUS_PENDING = false ∨ seq ≠ d.reg p R.GAUGE.REC_SEQ → Runs (.recAck m seq) d
        ((d.setFld p F.GAUGE.LAST_CMD_RESULT 7).event p F.GAUGE.EVENT_CMD_REFUSED).done)) ∧
    (d.CanWrite m .gauge 0 R.HDR.CTRL →
      (∃ t, Runs (.gaugeEnable m false) d t ∧ t.flag p F.HDR.CTRL_ENABLE = false ∧ t.gaugeState = 0 ∧ t.mem = d.mem ∧ t.keys = d.keys) ∧
      (d.flag p F.HDR.CTRL_ENABLE = false → d.fld p F.GAUGE.CFG_IN_I = d.fld p F.GAUGE.CFG_IN_V ∨ d.fld p F.GAUGE.CAP_NOM_CAP = 0 →
        Runs (.gaugeEnable m true) d (d.event p F.GAUGE.EVENT_CFG_BAD).done) ∧
      (d.flag p F.HDR.CTRL_ENABLE = false → d.fld p F.GAUGE.CFG_IN_I ≠ d.fld p F.GAUGE.CFG_IN_V → d.gf R.GAUGE.I_SCALE ≠ 0 →
        d.gf R.GAUGE.V_SCALE ≠ 0 → d.fld p F.GAUGE.CAP_NOM_CAP ≠ 0 → (∀ k < 3, d.ocvT k < d.ocvT (k + 1)) →
        (∀ c < 4, ∀ k < 63, d.ocvPoint c k < d.ocvPoint c (k + 1)) → d.keyTag (0x2C4 + d.gaugeBox) = 0x5024 →
        d.flag p F.GAUGE.CFG_REP_EN = false → ∃ t, Runs (.gaugeEnable m true) d t ∧ t.flag p F.HDR.CTRL_ENABLE = true ∧
          t.gaugeState = (if d.flag p F.GAUGE.STATUS_RETAINED then 3 else 1) ∧ t.mem = d.mem ∧ t.keys = d.keys))

/-- The gauge at work (R281, R282, R284, R287, R288, R297, R300, R304): a tick counts the charge of its mean current; a storage error loses the
kept fields; every hundredth tick is a filter instant, which predicts and updates in RUN and begins at rest in INIT; REJ_RUN at its limit
reports a drift; a pending record goes into the free mailbox; an input that stays beyond LO or HI for TIME ms wakes a device in
HIBERNATE. -/
def Obligations.GaugeRuns : Prop :=
  ∀ d : Dev, let p := pg .gauge
    (∀ f, d.busLive = false ∨ d.gaugeState = 0 → Runs (.gaugeTick f) d d) ∧
    (∀ f, f ≠ .double → d.gaugeState = 4 → Runs (.gaugeTick f) d d) ∧
    (d.busLive = true → d.gaugeState ≠ 0 → let e := d.raise .gauge 0 B.GAUGE.GAUGE_STATE 1
      Runs (.gaugeTick .double) d (if e.gaugeState = 3 ∨ e.gaugeState = 4 then e.gaugeLose.gaugeWait else e.gaugeLose)) ∧
    (∀ f, f ≠ .double → d.gaugeHeld = true → Runs (.gaugeTick f) d d) ∧
    (∀ f, f ≠ .double → d.gaugeHeld = false → d.busLive = true → 1 ≤ d.gaugeState → d.gaugeState ≤ 3 → d.gauge.iAcc.n ≠ 0 → d.gauge.vAcc.n ≠ 0 →
      d.gauge.restore = none →
      let i := d.gauge.iAcc.sum * d.sfld p F.GAUGE.I_SCALE_VALUE / ((d.gauge.iAcc.n * 65536 : Nat) : Int)
      ∃ t, Runs (.gaugeTick f) d t ∧ t.reg p R.GAUGE.I_NOW = BitVec.ofInt 32 i ∧ t.gauge.pend = d.gauge.pend + i ∧
        t.gauge.ticks = d.gauge.ticks + 1 ∧ t.gauge.iAcc = {} ∧ t.gauge.iPrev = some d.gauge.iAcc ∧
        t.reg p R.GAUGE.GAP_TICKS = d.reg p R.GAUGE.GAP_TICKS ∧ t.gaugeState = d.gaugeState ∧
        t.flag p F.GAUGE.STATUS_AT_REST = decide (d.fld p F.GAUGE.REST_TIME * 1000 ≤
          (if i.natAbs < d.fld p F.GAUGE.REST_I then d.gauge.restT + 1 else 0)) ∧ t.mem = d.mem ∧ t.keys = d.keys) ∧
    (d.busLive = true → d.gauge.ticks < 100 → Runs .filterRun d d) ∧
    (d.busLive = true → 100 ≤ d.gauge.ticks →
      let e := d.modGauge (fun x => { x with ticks := 0 })
      (d.gaugeState ∉ [2, 3] → Runs .filterRun d e) ∧
      (d.gaugeState = 2 → d.flag p F.GAUGE.STATUS_AT_REST = false → Runs .filterRun d e) ∧
      (d.gaugeState = 2 → d.flag p F.GAUGE.STATUS_AT_REST = true → ∃ t, Runs .filterRun d t ∧ t.gaugeState = 3 ∧
        t.flag p F.GAUGE.STATUS_RETAINED = true ∧ t.reg p R.GAUGE.ACK_SEQ = 0 ∧
        t.reg p R.GAUGE.CAP = F32.ofInt (d.fld p F.GAUGE.CAP_NOM_CAP * 36) ∧ t.mem = d.mem ∧ t.keys = d.keys) ∧
      (d.gaugeState = 3 → d.gauge.driftDue = false → d.flag p F.GAUGE.CFG_REP_EN = false → let r := (e.bump p R.GAUGE.FILTER_RUNS).filterStep
        (r.1.ok = true ∧ ∃ t, Runs .filterRun d t ∧ t.reg p R.GAUGE.FILTER_RUNS = d.reg p R.GAUGE.FILTER_RUNS + 1 ∧
          t.gauge.ticks = 0 ∧ t.reg p R.GAUGE.Q = r.1.q ∧ t.reg p R.GAUGE.VP = r.1.vp ∧ t.reg p R.GAUGE.CAP = r.1.cap ∧
          t.gauge.ccPrev = d.gaugeCc ∧ t.mem = d.mem ∧ t.keys = d.keys) ∨
        (r.1.ok = false ∧ Runs .filterRun d ((e.bump p R.GAUGE.FILTER_RUNS).gaugeStateFault 2)))) ∧
    (d.busLive = true → d.gauge.driftDue = true → Runs .gaugeDrift d
      ((((d.setFlag p F.GAUGE.STATUS_COULOMB_DRIFT true).event p F.GAUGE.EVENT_DRIFT).modGauge
        (fun x => { x with driftDue := false })).raise .gauge 0 B.GAUGE.GAUGE_DRIFT (d.fld p F.GAUGE.STATUS_REJ_RUN))) ∧
    (d.busLive = true → d.gauge.driftDue = false → Runs .gaugeDrift d d) ∧
    (d.busLive = true → d.flag p F.GAUGE.STATUS_PENDING = true → d.gaugeState = 3 → let b := pg .mbox d.gaugeBox
      d.flag b F.HDR.CTRL_ENABLE = true → d.mbState d.gaugeBox = 0 → ∃ t, Runs .recordPublish d t ∧ t.mbState d.gaugeBox = 2 ∧
        t.fld b F.MBOX.STATE_HOLDER = 5 ∧ (∀ i < 16, t.reg b (R.MBOX.MSG + 4 * i) = d.gauge.record.getD i 0) ∧
        t.reg p R.GAUGE.PUBLISHED = d.reg p R.GAUGE.PUBLISHED + 1 ∧ t.mem = d.mem ∧ t.keys = d.keys) ∧
    (d.flag p F.GAUGE.STATUS_PENDING = false → Runs .recordPublish d d) ∧
    (∀ (i : Fin 64) (code : BitVec 12) (ms : BitVec 16),
      let seen := d.state = 6 ∧ d.flag p F.GAUGE.IWAKE_CFG_EN = true ∧ i.val = d.fld p F.GAUGE.IWAKE_SEL_IN ∧
        d.fld p F.GAUGE.IWAKE_SEL_TIME ≤ ms.toNat ∧
        (code.toNat < d.fld p F.GAUGE.IWAKE_CFG_LO ∨ d.fld p F.GAUGE.IWAKE_CFG_HI < code.toNat)
      (seen → d.powerDown = false → d.phase ≠ 7 → Runs (.iwake i code ms) d ((((d.wakeRecord 8).holdWake 8).setPwron true).gaugeWake)) ∧
      (¬ seen → Runs (.iwake i code ms) d d))

/-- The regulators (R322, R324–R328): NCYC cycle-limited periods turn a buck off for a time until RETRY_MAX, then latch it; the discharge path
is connected while a regulator does not regulate and VSYS stands; a restart is a soft start; a clean
run returns the count to 0; UNLATCH acts on the bucks whose domains are disabled; burst is entered and left by the load; SYNC is lost outside
the window; an LDO at its limit raises REG_ILIM. Each does nothing where its condition does not hold. -/
def Obligations.RegulatorsRun : Prop :=
  ∀ d : Dev, let p := pg .supply
    (∀ (k : Fin 4) (run : BitVec 8), d.paired = false →
      let ncyc := d.fld p (F.SUPPLY.BUCK_PROT_NCYC.at k.val)
      let since := (d.buckS k.val).since
      (d.regOn k.val = false ∨ (d.buckS k.val).off = true ∨ run.toNat < ncyc → Runs (.buckHiccup k run) d d) ∧
      (d.regOn k.val = true → (d.buckS k.val).off = false → ncyc ≤ run.toNat → (d.buckS k.val).retry < d.fld p (F.SUPPLY.BUCK_PROT_RETRY_MAX.at k.val) →
        ∃ t, Runs (.buckHiccup k run) d t ∧ (d.state ≠ 0 → t.dischargeOhms k.val = some 100) ∧ (t.buckS k.val).since = d.now ∧
          t.flag p (Dev.regBit F.SUPPLY.REG_STATUS_HICCUP k.val) = true ∧ (t.buckS k.val).off = true ∧
          (t.buckS k.val).retry = (d.buckS k.val).retry + 1 ∧ t.flag p F.SUPPLY.EVENT_HICCUP = true ∧
          t.reg p (R.SUPPLY.HICCUPS + 4 * k.val) = d.reg p (R.SUPPLY.HICCUPS + 4 * k.val) + 1 ∧ t.mem = d.mem ∧ t.keys = d.keys) ∧
      (d.regOn k.val = true → (d.buckS k.val).off = false → ncyc ≤ run.toNat →
        d.fld p (F.SUPPLY.BUCK_PROT_RETRY_MAX.at k.val) ≤ (d.buckS k.val).retry →
        ∃ e : Dev, e.buckLatched k.val = true ∧ e.regOn k.val = false ∧ e.reg p R.SUPPLY.LATCHES = d.reg p R.SUPPLY.LATCHES + 1 ∧
          e.flag p F.SUPPLY.EVENT_LATCH = true ∧ e.mem = d.mem ∧ e.keys = d.keys ∧
          (d.state ≠ 0 → e.dischargeOhms k.val = some 100) ∧ Runs (.buckHiccup k run) d (e.raiseLevel .supply 0 B.SUPPLY.REG_LATCH k.val)) ∧
      (d.regOn k.val = true → (d.buckS k.val).off = true → since + d.fld p (F.SUPPLY.BUCK_PROT_OFF.at k.val) * 400000 ≤ d.now →
        Runs (.buckHiccupRestart k) d (d.modBuck k.val (fun b => { b with soft := true, off := false, since := d.now }))) ∧
      (d.regOn k.val = false → Runs (.buckHiccupRestart k) d d ∧ Runs (.buckCleanRun k) d d) ∧
      (d.regOn k.val = true → (d.buckS k.val).off = false → since + 4000000 ≤ d.now → Runs (.buckCleanRun k) d (d.modBuck k.val (fun b => { b with retry := 0 }))) ∧
      (d.regOn k.val = true → (d.buckS k.val).off = false → (d.buckS k.val).soft = false → d.flag p (F.SUPPLY.BUCK_CFG_BURST_EN.at k.val) = true →
        d.flag p (Dev.regBit F.SUPPLY.REG_STATUS_BURST k.val) = false → Runs (.buckBurstEntry k) d
          ((d.setFlag p (Dev.regBit F.SUPPLY.REG_STATUS_BURST k.val) true).bump p R.SUPPLY.BURSTS)) ∧
      (d.flag p (F.SUPPLY.BUCK_CFG_BURST_EN.at k.val) = false → Runs (.buckBurstEntry k) d d) ∧
      (d.flag p (Dev.regBit F.SUPPLY.REG_STATUS_BURST k.val) = true →
        Runs (.buckBurstWake k true) d (d.setFlag p (Dev.regBit F.SUPPLY.REG_STATUS_BURST k.val) false) ∧ Runs (.buckBurstWake k false) d d) ∧
      (d.flag p (Dev.regBit F.SUPPLY.REG_STATUS_BURST k.val) = false → ∀ hi, Runs (.buckBurstWake k hi) d d)) ∧
    (d.paired = true → d.regOn 0 = true → (d.buckS 0).off = true →
      (d.buckS 0).since + d.fld p (F.SUPPLY.BUCK_PROT_OFF.at 0) * 400000 ≤ d.now → ∀ k ∈ [(0 : Fin 4), 3], ∃ t, Runs (.buckHiccupRestart k) d t ∧
      (t.buckS 0).soft = true ∧ (t.buckS 0).off = false ∧
      t.flag p F.SUPPLY.REG_STATUS_LEAD = !d.flag p F.SUPPLY.REG_STATUS_LEAD ∧
      t.reg p R.SUPPLY.ROTATIONS = d.reg p R.SUPPLY.ROTATIONS + 1) ∧
    (∀ m mask, d.CanWrite m .supply 0 R.SUPPLY.UNLATCH → d.paired = false → ∃ t, Runs (.supplyUnlatch m mask) d t ∧
      (∀ n < 4, t.buckLatched n = (d.buckLatched n && !(mask.toNat.testBit n && (d.domState n == 0 || d.domState n == 3)))) ∧
      (∀ n < 4, mask.toNat.testBit n = true → d.domState n ≠ 0 → d.domState n ≠ 3 → t.flag p F.SUPPLY.EVENT_CMD_REFUSED = true) ∧
      t.mem = d.mem ∧ t.keys = d.keys) ∧
    (∀ k : Fin 4, d.sysSrc ≠ 0 → d.syncWindow = false → d.flag p (Dev.regBit F.SUPPLY.REG_STATUS_SYNCED k.val) = true →
      Runs (.regSyncLoss k) d ((((d.setFlag p (Dev.regBit F.SUPPLY.REG_STATUS_SYNCED k.val) false).bump p R.SUPPLY.SYNC_LOSSES).event p
        F.SUPPLY.EVENT_SYNC_LOST).raise .supply 0 B.SUPPLY.REG_SYNC k.val)) ∧
    (∀ k : Fin 4, d.sysSrc = 0 ∨ d.syncWindow = true → Runs (.regSyncLoss k) d d) ∧
    (∀ k : Fin 5, d.regOn (4 + k.val) = true → Runs (.ldoIlim k) d (d.raise .supply 0 B.SUPPLY.REG_ILIM (4 + k.val))) ∧
    (∀ k : Fin 5, d.regOn (4 + k.val) = false → Runs (.ldoIlim k) d d) ∧
    (∀ k : Fin 4, d.paired = false →
      ((d.buckS k.val).soft = false → Runs (.buckSoftStartEnd k) d d) ∧
      ((d.buckS k.val).soft = true → (d.buckS k.val).since + 200000 ≤ d.now → ∃ t, Runs (.buckSoftStartEnd k) d t ∧ (t.buckS k.val).soft = false ∧
        t.flag p (Dev.regBit F.SUPPLY.REG_STATUS_HICCUP k.val) = false ∧ t.mem = d.mem ∧ t.keys = d.keys)) ∧
    (∀ n, d.state = 0 ∨ d.regulating n = true → d.dischargeOhms n = none) ∧
    (∀ n, d.state ≠ 0 → d.regulating n = false → d.dischargeOhms n = some (if d.paired ∧ (n = 0 ∨ n = 3) then 50 else 100))

/-- The power path (R313, R315, R317, R318, R319, R320, R355): VIN comes and goes; the backup charger measures, moves on and times out; TBAK
moves the zone at its third measurement; the release boost stops at its limits, pauses below UVLO and cools; an off request takes RUN to READY
and waits in SAFE. -/
def Obligations.PowerPathRuns : Prop :=
  ∀ (d : Dev) (m : Master), let p := pg .path
    (∀ vin vbak ms : BitVec 16, let good := d.vinUv ≤ vin.toNat ∧ vbak.toNat + 100 ≤ vin.toNat ∧ d.fld p F.PATH.VIN_CFG_DEB ≤ ms.toNat
      let e := (d.setFlag p F.PATH.PATH_STATUS_VIN_OK true).event p F.PATH.EVENT_VIN_BACK
      (d.vinOk = true ∨ ¬ good → Runs (.vinOkSet vin vbak ms) d d) ∧
      (d.vinOk = false → good → d.flag (pg .seq) F.SEQ.SEQ_CFG_VIN_OFF = false → Runs (.vinOkSet vin vbak ms) d e) ∧
      (d.vinOk = false → good → d.flag (pg .seq) F.SEQ.SEQ_CFG_VIN_OFF = true → Runs (.vinOkSet vin vbak ms) d (e.onRequest false))) ∧
    (∀ vin vsys : BitVec 16, let bad := vin.toNat < d.vinUv ∨ vin.toNat + 30 < vsys.toNat
      (d.vinOk = false ∨ ¬ bad → Runs (.vinLost vin vsys) d d) ∧
      (d.vinOk = true → bad → ∃ t, Runs (.vinLost vin vsys) d t ∧ t.vinOk = false ∧ t.flag p F.PATH.EVENT_VIN_LOST = true ∧
        t.reg p R.PATH.VIN_LOSSES = d.reg p R.PATH.VIN_LOSSES + 1 ∧ t.bakState = (if d.bakState = 6 then 6 else 0) ∧
        t.supply.vinLostAt = d.now ∧ t.mem = d.mem ∧ t.keys = d.keys)) ∧
    (d.offDue = true ↔ d.flag (pg .seq) F.SEQ.SEQ_CFG_VIN_OFF = true ∧ d.vinOk = false ∧
      d.supply.vinLostAt + 400000 * d.fld (pg .seq) F.SEQ.SEQ_CFG_VIN_HOLD ≤ d.now) ∧
    (d.offDue = false ∨ d.powerDown = true → Runs .offRequest d d) ∧
    (d.offDue = true → d.powerDown = false →
      (d.state = 5 → Runs .offRequest d (d.setFlag (pg .seq) F.SEQ.SEQ_STATUS_OFF_REQ true)) ∧
      (d.state = 3 → (∃ n < 24, d.tstate n = 3) → Runs .offRequest d (d.setFlag (pg .seq) F.SEQ.SEQ_STATUS_OFF_REQ true)) ∧
      (d.state = 4 → Runs .offRequest d ((d.setFlag (pg .seq) F.SEQ.SEQ_STATUS_OFF_REQ true).disarmNow).offSettle)) ∧
    (∀ v i, d.state = 0 → Runs (.chargerTick v i) d d) ∧
    (∀ v i, d.state ≠ 0 → ∃ t, Runs (.chargerTick v i) d t ∧ t.mem = d.mem ∧ t.keys = d.keys ∧
      (d.vinOk = true → t.reg p R.PATH.BAK_MEAS = BitVec.ofNat 32 (v.toNat + 65536 * min i.toNat d.bakCurrent)) ∧
      (d.vinOk = false → t.bakState = (if d.bakState = 6 then 6 else 0) ∧ t.supply.bak.totT = d.supply.bak.totT) ∧
      (d.vinOk = true → d.flag p F.PATH.BAK_CFG_EN = true → d.bakSuspended = false → d.superCap = false →
        (d.bakState = 0 → t.bakState = if v.toNat < d.vPre then 1 else 2) ∧
        (d.bakState = 1 → t.bakState = if d.vPre ≤ v.toNat then 2 else 1) ∧
        (d.bakState = 2 → t.supply.bak.totT = d.supply.bak.totT + 1))) ∧
    (∀ uv, d.state = 0 ∨ d.flag p F.PATH.BAK_CFG_TEMP_EN = false → Runs (.tbakMeasurement uv) d d) ∧
    (∀ uv, d.state ≠ 0 → d.flag p F.PATH.BAK_CFG_TEMP_EN = true →
      let code := min 255 ((512 * uv.toNat + 1200000) / 2400000)
      d.supply.bak.cand ≠ d.bakZone code → ∃ t, Runs (.tbakMeasurement uv) d t ∧ t.fld p F.PATH.PATH_STATUS_TBAK = code ∧
        t.fld p F.PATH.PATH_STATUS_ZONE = d.fld p F.PATH.PATH_STATUS_ZONE ∧ t.supply.bak.candRun = 1 ∧ t.mem = d.mem ∧ t.keys = d.keys) ∧
    (d.bakState ≠ 6 → d.fld p F.PATH.BAK_TIME_PRE_TIME * 60000 ≤ d.supply.bak.preT → Runs .bakTimerExpiry d
      ((d.setFld p F.PATH.PATH_STATUS_BAK_STATE 6).raise .path 0 B.PATH.BAK_TIMER 1)) ∧
    (d.bakState = 6 → Runs .bakTimerExpiry d d) ∧
    (d.CanWrite m .path 0 R.PATH.BAK_CMD → ∃ t, Runs (.bakRestart m) d t ∧ t.supply.bak.preT = 0 ∧ t.supply.bak.totT = 0 ∧
      t.reg p R.PATH.BAK_ELAPSED = 0 ∧ t.bakState = (if d.bakState = 6 then 0 else d.bakState) ∧ t.mem = d.mem ∧ t.keys = d.keys) ∧
    (d.relState = 1 ∨ d.relState = 2 → d.supply.boost.startAt + 40000000 ≤ d.now → Runs .relCurrentLimit d (d.relLimited 1)) ∧
    (1 ≤ d.relState → d.relState ≤ 3 → d.supply.boost.startAt + d.fld p F.PATH.REL_CFG_TIME * 40000000 ≤ d.now → Runs .relTimeLimit d (d.relLimited 2)) ∧
    (∀ v, 3 < d.relState → Runs .relCurrentLimit d d ∧ Runs .relTimeLimit d d ∧ Runs (.relUvPause v) d d ∧ Runs (.relUvResume v) d d) ∧
    (∀ v : BitVec 16, d.relState = 1 ∨ d.relState = 2 → v.toNat < d.uvlo → d.supply.boost.pauses < 15 → ∃ t, Runs (.relUvPause v) d t ∧ t.relState = 3 ∧
      t.reg p R.PATH.REL_PAUSES = d.reg p R.PATH.REL_PAUSES + 1 ∧ t.supply.boost.from' = d.relState ∧
      t.supply.boost.pauses = d.supply.boost.pauses + 1 ∧ t.supply.boost.pauseFrom = d.now ∧ t.mem = d.mem) ∧
    (∀ v : BitVec 16, d.relState = 3 → d.uvlo + 100 ≤ v.toNat → d.supply.boost.from' ≤ 5 → ∃ t, Runs (.relUvResume v) d t ∧ t.relState = d.supply.boost.from' ∧ t.mem = d.mem) ∧
    (d.relState = 5 → d.supply.boost.coolFrom + d.fld p F.PATH.REL_CFG_COOL * 400000000 ≤ d.now → d.supply.boost.enabled = true → ∃ t, Runs .relCoolEnd d t ∧ t.relState = 1 ∧ t.supply.boost.pauses = 0 ∧
      t.reg p R.PATH.REL_RUNS = d.reg p R.PATH.REL_RUNS + 1 ∧ t.mem = d.mem) ∧
    (d.relState = 5 → d.supply.boost.coolFrom + d.fld p F.PATH.REL_CFG_COOL * 400000000 ≤ d.now → d.supply.boost.enabled = false → ∃ t, Runs .relCoolEnd d t ∧ t.relState = 0 ∧ t.mem = d.mem) ∧
    (d.relState = 1 → ∃ t, Runs .relSoftStartEnd d t ∧ t.relState = 2 ∧ t.flag p F.PATH.PATH_STATUS_DOM9_MASKED = false ∧ t.mem = d.mem ∧ t.keys = d.keys) ∧
    (d.relState ≠ 1 → Runs .relSoftStartEnd d d) ∧
    (∀ bak, let on := if bak then d.flag p F.PATH.PATH_STATUS_ON_BAK else d.vinOk
      (on = true → Runs (.pathCurrentLimit bak) d (d.event p F.PATH.EVENT_PATH_ILIM)) ∧ (on = false → Runs (.pathCurrentLimit bak) d d)) ∧
    (∀ on, ∃ t, Runs (.vbakSwitchChange on) d t ∧ t.flag p F.PATH.PATH_STATUS_ON_BAK = on ∧ t.vinOk = d.vinOk ∧ t.mem = d.mem ∧ t.keys = d.keys)

/-- The clocks and their monitors (R330–R333, R377): the system takes the PLL on XTAL, or on RC100 / 4 where XTAL has not qualified
in 10 ms; a lost XTAL
changes the reference and raises CLK_XTAL, and its return changes back where AUTO_BACK says so; a lost PLL leaves RC100; an alarm clears the
clock's bit; XTAL32 hands over to the RC clock and back. -/
def Obligations.ClocksRun : Prop :=
  ∀ d : Dev, let p := pg .clk
    (d.sysSrc = 0 → d.supply.pllLost = false → d.islandOn = true → (∃ t, Runs .sysclkToPll d t ∧ t.sysSrc = 1 ∧
        t.flag p F.CLK.CLK_STATUS_XTAL_OK = true ∧ t.flag p F.CLK.CLK_STATUS_PLL_LOCK = true ∧ t.mem = d.mem ∧ t.keys = d.keys) ∧
      (d.comp.resetAt + 4000000 ≤ d.now → ∃ e : Dev, e.sysSrc = 2 ∧ e.flag p F.CLK.CLK_STATUS_PLL_LOCK = true ∧
        e.flag p F.CLK.CLK_STATUS_XTAL_OK = d.flag p F.CLK.CLK_STATUS_XTAL_OK ∧ e.mem = d.mem ∧ e.keys = d.keys ∧
        Runs .xtalQualifyTimeout d (e.raiseLevel .clk 0 B.CLK.CLK_XTAL))) ∧
    (d.sysSrc ≠ 0 ∨ d.supply.pllLost = true → Runs .sysclkToPll d d ∧ Runs .xtalQualifyTimeout d d) ∧
    (d.flag p F.CLK.CLK_STATUS_XTAL_OK = true → Runs .xtalBack d d ∧ ∃ e : Dev, e.flag p F.CLK.CLK_STATUS_XTAL_OK = false ∧
      e.sysSrc = (if d.sysSrc = 1 then 2 else d.sysSrc) ∧ e.reg p R.CLK.XTAL_LOSSES = d.reg p R.CLK.XTAL_LOSSES + 1 ∧
      e.reg p R.CLK.SWITCHES = d.reg p R.CLK.SWITCHES + 1 ∧ e.flag p F.CLK.EVENT_XTAL_LOST = true ∧ e.mem = d.mem ∧
      Runs .xtalLoss d (e.raiseLevel .clk 0 B.CLK.CLK_XTAL)) ∧
    (d.flag p F.CLK.CLK_STATUS_XTAL_OK = false → Runs .xtalLoss d d ∧ (d.islandOn = true → d.supply.xtalAt + 4000000 ≤ d.now → d.flag p F.CLK.CLK_CFG_AUTO_BACK = false →
      Runs .xtalBack d ((d.setFlag p F.CLK.CLK_STATUS_XTAL_OK true).lower .clk 0 B.CLK.CLK_XTAL)) ∧
      (d.islandOn = true → d.supply.xtalAt + 4000000 ≤ d.now → d.flag p F.CLK.CLK_CFG_AUTO_BACK = true → d.sysSrc = 2 → ∃ t, Runs .xtalBack d t ∧ t.sysSrc = 1 ∧
        t.flag p F.CLK.CLK_STATUS_XTAL_OK = true ∧ t.reg p R.CLK.SWITCHES = d.reg p R.CLK.SWITCHES + 1 ∧ t.mem = d.mem)) ∧
    (d.sysSrc ≠ 0 → ∃ e : Dev, e.sysSrc = 0 ∧ e.supply.pllLost = true ∧ e.flag p F.CLK.CLK_STATUS_PLL_LOCK = false ∧
      e.fld (pg .supply) F.SUPPLY.REG_STATUS_SYNCED = 0 ∧ e.mem = d.mem ∧ e.keys = d.keys ∧
      Runs .pllLoss d (e.raiseLevel .clk 0 B.CLK.CLK_PLL)) ∧
    (d.sysSrc = 0 → Runs .pllLoss d d) ∧
    (∀ isl : Bool, d.islandOn = true →
      let f := if isl then F.CLK.CLK_STATUS_ISL_OK else F.CLK.CLK_STATUS_RC_OK
      let b := if isl then B.CLK.CLK_ISLAND else B.CLK.CLK_RC
      Runs (.clockMonitorAlarm isl true) d ((d.setFlag p f true).lower .clk 0 b) ∧
      (d.flag p f = true → Runs (.clockMonitorAlarm isl false) d (((d.setFlag p f false).bump p R.CLK.MON_ALARMS).raiseLevel .clk 0 b)) ∧
      (d.flag p f = false → Runs (.clockMonitorAlarm isl false) d d)) ∧
    (∃ t, Runs .x32Loss d t ∧ t.flag (pg .rtc) F.RTC.STATUS_ON_RC = true ∧ t.flag (pg .rtc) F.RTC.FLAGS_X32_FAIL = true ∧
      t.cel.meas.onRc = true ∧ t.mem = d.mem ∧ t.keys = d.keys) ∧
    (d.cel.x32At + 400000000 ≤ d.now → Runs .x32Recovery d (d.setFlag (pg .rtc) F.RTC.STATUS_ON_RC false)) ∧
    (d.now < d.cel.x32At + 400000000 → Runs .x32Recovery d d)

/-- The steps of a stored program (R350, R352–R354, R358, R360): a step command makes the step that stands next if it is of its kind, and
otherwise changes nothing. ENABLE and DISABLE switch a domain, WAIT and WAITV wait, CHECK, JUMP and the two timeouts go on at a step, STAIR
takes part in the stair, RESET drives an output, MARK records, and a step that is not valid ends the program with PHASE ERROR. `next` is the
step after. -/
def Obligations.ProgramStepsRun : Prop :=
  ∀ (d : Dev) (w : Nat), let p := pg .seq
    let e := d.setFld p F.SEQ.SEQ_STATUS_STEP d.seq.pc
    let next := fun (x : Dev) => x.modSeq (fun s => { s with pc := (d.seq.pc + 1) % 256, wait := .none })
    let jump := fun (x : Dev) (n : Nat) => x.modSeq (fun s => { s with pc := n % 256, wait := .none })
    1 ≤ d.phase → d.phase ≤ 4 → d.seq.wait = .none → d.prog d.seq.pc = w →
    (∀ x ∈ [(0, Instr.stepEnd 0 []), (1, .stepEnable), (2, .stepDisable), (3, .stepWait), (4, .stepWaitv), (5, .stepCheck), (6, .stepJump),
      (7, .stepStair), (8, .stepReset), (9, .stepMark)], stepOp w ≠ x.1 ∨ stepValid w = false → Runs x.2 d d) ∧
    (stepValid w = true → Runs .stepInvalid d d) ∧
    (stepValid w = false → Runs .stepInvalid d ((((e.bump p R.SEQ.BAD_STEPS).stepFault 0x01).setPhase 9).modSeq
      (fun s => { s with goal := .none, stopReq := false, lastDis := none }))) ∧
    (∀ n < 16, w = 0x10000000 + n →
      (d.domState n ≠ 0 ∨ d.domPaired n = true ∨ d.flag (pg .dom n) F.DOM.STATUS_CUT = true → Runs .stepEnable d (next e)) ∧
      (d.domState n = 0 → d.domPaired n = false → d.flag (pg .dom n) F.DOM.STATUS_CUT = false → (∀ q, domParent n = some q → d.domState q = 2) →
        Runs .stepEnable d (next (((e.setDomState n 1).bump (pg .dom n) R.DOM.ENABLES).setOrder (d.order.filter (fun m => m != n) ++ [n])))) ∧
      (∀ q, d.domState n = 0 → d.domPaired n = false → d.flag (pg .dom n) F.DOM.STATUS_CUT = false → domParent n = some q → d.domState q ≠ 2 →
        Runs .stepEnable d (e.stepFault 0x02).nextStep)) ∧
    (∀ n < 16, w = 0x20000000 + n →
      (d.domState n = 0 ∨ d.domPaired n = true → Runs .stepDisable d (next e)) ∧
      (d.domState n ≠ 0 → d.domPaired n = false → d.stalled = true → Runs .stepDisable d e) ∧
      (d.domState n ≠ 0 → d.domPaired n = false → d.stalled = false → (∀ c < 16, domParent c = some n → d.domState c = 0) →
        Runs .stepDisable d (next ((e.setDomState n 3).modSeq (fun s => { s with lastDis := if d.powerDown then some n else s.lastDis })))) ∧
      (d.domState n ≠ 0 → d.domPaired n = false → d.stalled = false → (∃ c < 16, domParent c = some n ∧ d.domState c ≠ 0) →
        Runs .stepDisable d (e.stepFault 0x02).nextStep)) ∧
    (stepOp w = 3 → stepValid w = true → Runs .stepWait d (e.modSeq (fun s => { s with wait := .time, waitAt := d.now }))) ∧
    (stepOp w = 4 → stepValid w = true → (d.waitvMet w = true → Runs .stepWaitv d (next e)) ∧
      (d.waitvMet w = false → Runs .stepWaitv d (e.modSeq (fun s => { s with wait := .waitv, waitAt := d.now })))) ∧
    (stepOp w = 5 → stepValid w = true → ¬(0x28 ≤ bitsOf w 8 8 ∧ bitsOf w 8 8 ≤ 0x2F) →
      Runs .stepCheck d (if d.condition (bitsOf w 8 8) = bitAt w 16 then jump e (bitsOf w 0 8) else next e)) ∧
    (stepOp w = 5 → stepValid w = true → ∀ g < 8, bitsOf w 8 8 = 0x28 + g → bitAt (d.fld p F.SEQ.SEQ_STATUS_GO) g = true → bitAt w 16 = true →
      Runs .stepCheck d (jump (e.setGo g false) (bitsOf w 0 8))) ∧
    (stepOp w = 6 → stepValid w = true → Runs .stepJump d (jump e (bitsOf w 0 8))) ∧
    (stepOp w = 7 → stepValid w = true → (d.flag p F.SEQ.SEQ_CFG_STAIR_EN = false →
        Runs .stepStair d (next (e.setFld p F.SEQ.SEQ_STATUS_STAIR_NUM (stepDom w)))) ∧
      (d.flag p F.SEQ.SEQ_CFG_STAIR_EN = true → d.fld p F.SEQ.SEQ_STATUS_STAIR_NUM = stepDom w → Runs .stepStair d (next e)) ∧
      (d.flag p F.SEQ.SEQ_CFG_STAIR_EN = true → d.fld p F.SEQ.SEQ_STATUS_STAIR_NUM ≠ stepDom w →
        Runs .stepStair d ((e.stairRelease true).modSeq (fun s => { s with wait := .stair, waitAt := d.now })))) ∧
    (stepOp w = 8 → stepValid w = true → let k := bitsOf w 0 2
      (bitAt w 4 = true → Runs .stepReset d (next ((e.setFlag p ⟨R.SEQ.RST_STATUS, k, 1⟩ true).setFlag p ⟨R.SEQ.RST_STATUS, 4 + k, 1⟩ false))) ∧
      (bitAt w 4 = false → d.flag p ⟨R.SEQ.RST_STATUS, k, 1⟩ = true → Runs .stepReset d
        (next ((e.setFlag p ⟨R.SEQ.RST_STATUS, 4 + k, 1⟩ true).modSeq (fun s => { s with relAt := vmod s.relAt k (fun _ => d.now) })))) ∧
      (bitAt w 4 = false → d.flag p ⟨R.SEQ.RST_STATUS, k, 1⟩ = false → Runs .stepReset d (next e))) ∧
    (stepOp w = 9 → stepValid w = true → let c := bitsOf w 0 8
      Runs .stepMark d (((((e.setReg p R.SEQ.LAST_MARK (BitVec.ofNat 32 (c + 256 * d.seq.pc))).bump p R.SEQ.MARKS).event p
        F.SEQ.EVENT_MARK).raiseWith .seq 0 B.SEQ.SEQ_MARK (BitVec.ofNat 32 c) (BitVec.ofNat 32 c) false).nextStep))

/-- What ends a wait or a program (R350–R352, R354–R356, R358, R360): END goes to IDLE, on to DOWN or to HIBERNATE, or to the unwind, which
disables what is left and ends in CELLAR or PARKED; the waits end by their time, their timeout or the stair; the BOOT after reset begins with
UP. -/
def Obligations.ProgramEndsRun : Prop :=
  ∀ d : Dev, let p := pg .seq
    let next := fun (x : Dev) => x.modSeq (fun s => { s with pc := (d.seq.pc + 1) % 256, wait := .none })
    let jump := fun (x : Dev) (n : Nat) => x.modSeq (fun s => { s with pc := n % 256, wait := .none })
    (∀ b l, d.seq.wait = .none → d.prog d.seq.pc = 0 →
      (d.phase = 1 ∨ d.phase = 2 → d.domState 11 ≠ 2 → ∃ t, Runs (.stepEnd b l) d t ∧ t.phase = 0 ∧ t.flag p F.SEQ.EVENT_PROG_END = true ∧
        t.flag p F.SEQ.SEQ_STATUS_ON_REQ = false ∧ t.mem = d.mem ∧ t.keys = d.keys) ∧
      (d.phase = 3 → d.stalled = false → d.seq.goal ≠ .hibernate → ∃ t, Runs (.stepEnd b l) d t ∧ t.phase = 4 ∧
        t.seq.pc = d.fld p F.SEQ.ENTRY_DOWN ∧ t.mem = d.mem ∧ t.keys = d.keys) ∧
      (d.phase = 3 ∨ d.phase = 4 → d.stalled = true → Runs (.stepEnd b l) d (d.setFld p F.SEQ.SEQ_STATUS_STEP d.seq.pc)) ∧
      (d.phase = 3 → d.seq.goal = .hibernate → d.state ≠ 3 → Runs (.stepEnd b l) d (d.setFld p F.SEQ.SEQ_STATUS_STEP d.seq.pc)) ∧
      (d.phase = 3 → d.state = 3 → d.stalled = false → d.seq.goal = .hibernate → d.flag p F.SEQ.SEQ_STATUS_ON_REQ = false → ∃ t, Runs (.stepEnd b l) d t ∧
        t.state = 6 ∧ t.phase = 0 ∧ t.seq.goal = .none ∧ t.gauge.hibFrom = (if d.gaugeState = 3 then some d.now else none) ∧ t.keys = d.keys) ∧
      (d.phase = 4 → d.stalled = false → ∃ t, Runs (.stepEnd b l) d t ∧ t.phase = 5 ∧ t.seq.left = d.order.reverse ∧
        t.reg p R.SEQ.RST_STATUS = 0x0F ∧ t.mem = d.mem ∧ t.keys = d.keys)) ∧
    (∀ b l, d.phase = 5 → d.unwindLeft = [] → d.stalled = false →
      (d.seq.goal ≠ .parked → d.state ≠ 3 → Runs (.stepEnd b l) d d) ∧
      (d.seq.goal = .cellar → d.state = 3 → d.flag p F.SEQ.SEQ_STATUS_ON_REQ = false → ∃ t, Runs (.stepEnd b l) d t ∧ t.state = 1 ∧ t.cel.wakeDue = 0 ∧
        t.cel.islandUp = false ∧ (∀ a < 0x50000000, Mem.byte t.mem a = 0)) ∧
      (d.seq.goal = .parked → ∃ t, Runs (.stepEnd b l) d t ∧ t.phase = (if d.flag p F.SEQ.SEQ_STATUS_ON_REQ then 7 else 8) ∧
        t.reg p R.SEQ.ABORTS = d.reg p R.SEQ.ABORTS + 1 ∧ t.state = d.state ∧ t.mem = d.mem ∧ t.keys = d.keys)) ∧
    (∀ n l, d.phase = 5 → d.unwindLeft = n :: l → d.stalled = false → n < 16 → ∃ t, Runs .stepDisable d t ∧ t.domState n = 3 ∧ t.seq.left = l ∧
      t.seq.lastDis = some n ∧ t.mem = d.mem ∧ t.keys = d.keys) ∧
    (d.phase = 5 → d.unwindLeft = [] → Runs .stepDisable d d) ∧
    (1 ≤ d.phase → d.phase ≤ 4 →
      let w := d.prog d.seq.pc
      (d.seq.wait = .time → d.seq.waitAt + Dev.waitClocks w ≤ d.now → Runs .waitExpiry d (next d)) ∧
      (d.seq.wait ≠ .time ∨ d.now < d.seq.waitAt + Dev.waitClocks w → Runs .waitExpiry d d) ∧
      (d.seq.wait = .waitv → d.seq.waitAt + 4000 * Dev.stepTimeout w ≤ d.now →
        Runs .waitvTimeout d (if d.waitvMet w then next d else jump d (stepTarget w))) ∧
      (d.seq.wait ≠ .waitv ∨ d.now < d.seq.waitAt + 4000 * Dev.stepTimeout w → Runs .waitvTimeout d d) ∧
      (d.seq.wait = .stair → d.seq.waitAt + 40000 * Dev.stepTimeout w ≤ d.now → Runs .stairTimeout d ((((d.stairRelease false).bump p R.SEQ.STAIR_TIMEOUTS).raise .seq 0 B.SEQ.SEQ_STAIR
        (d.fld p F.SEQ.SEQ_STATUS_STAIR_NUM)).goto (stepTarget w))) ∧
      (d.seq.wait ≠ .stair ∨ d.now < d.seq.waitAt + 40000 * Dev.stepTimeout w → Runs .stairTimeout d d) ∧
      (d.seq.wait = .stair → d.flag p F.SEQ.SEQ_STATUS_STAIR_REL = true →
        stepDom (d.prog d.seq.pc) = (d.fld p F.SEQ.SEQ_STATUS_STAIR_NUM + 1) % 16 → ∃ t, Runs .stairRise d t ∧
          t.seq.pc = (d.seq.pc + 1) % 256 ∧ t.seq.wait = .none ∧ t.fld p F.SEQ.SEQ_STATUS_STAIR_NUM = stepDom (d.prog d.seq.pc) ∧
          t.flag p F.SEQ.SEQ_STATUS_STAIR_REL = false ∧ t.reg p R.SEQ.ADVANCES = d.reg p R.SEQ.ADVANCES + 1 ∧ t.mem = d.mem)) ∧
    (d.flag p F.SEQ.SEQ_STATUS_STAIR_REL = false → Runs .stairRise d d) ∧
    (∀ k : Fin 4, let due := vget d.seq.relAt k.val 0 + 400000 * d.fld p (F.SEQ.RST_CFG_STRETCH.at k.val)
      (d.flag p ⟨R.SEQ.RST_STATUS, 4 + k.val, 1⟩ = true → due ≤ d.now → Runs (.rstoutRelease k) d
        ((d.setFlag p ⟨R.SEQ.RST_STATUS, 4 + k.val, 1⟩ false).setFlag p ⟨R.SEQ.RST_STATUS, k.val, 1⟩ false)) ∧
      (d.flag p ⟨R.SEQ.RST_STATUS, 4 + k.val, 1⟩ = false ∨ d.now < due → Runs (.rstoutRelease k) d d)) ∧
    (d.seq.upDue = true → d.cel.islandUp = true → d.state = 2 → d.phase = 0 → ∀ c ∈ [Instr.stepEnable, .stepWait, .stepWaitv, .stepCheck,
      .stepJump, .stepStair, .stepReset, .stepMark, .stepInvalid], ∀ t, Runs c d.startUp t → Runs c d t)

/-- The domains and the sequencer's requests (R344–R347, R350, R353, R354, R356, R365, R476): a confirmed domain is ON, and a memory domain's
bytes then read 0; a rail below or above its window raises its source; a domain slow to fall raises DOM_OFF_TIMEOUT; the hold-off leads on
what was latched; RUN_AUX, GO and STOP_AUX act as their key and the state admit. -/
def Obligations.DomainsAndRequestsRun : Prop :=
  ∀ (d : Dev) (m : Master), let p := pg .seq
    (∀ n : Fin 16, d.seq.wait ≠ .waitv →
      (d.domState n.val ≠ 1 ∨ d.domConfirmed n.val (d.domS n.val).inRun = false → Runs (.domainOn n) d d) ∧
      (d.domState n.val = 1 → d.domConfirmed n.val (d.domS n.val).inRun = true → ∃ t, Runs (.domainOn n) d t ∧ t.domState n.val = 2 ∧
        t.flag (pg .dom n.val) F.DOM.EVENT_REACHED_ON = true ∧ t.keys = d.keys ∧
        (∀ a, (∃ r ∈ Dev.domMemory n.val, r.1 ≤ a ∧ a < r.1 + r.2) → Mem.byte t.mem a = 0) ∧
        (∀ a, (∀ r ∈ Dev.domMemory n.val, a < r.1 ∨ r.1 + r.2 ≤ a) → Mem.byte t.mem a = Mem.byte d.mem a))) ∧
    (∀ n : Fin 16, let q := pg .dom n.val
      let v := d.fld (pg .monadc) (F.MONADC.RESULT_RESULT.at n.val)
      (d.domState n.val ≠ 2 → Runs (.railUv n) d d) ∧
      (d.domState n.val = 2 → d.domConfirmed n.val (d.domS n.val).uvRun = true → d.active (srcNo .dom n.val B.DOM.DOM_UV) = false →
        Runs (.railUv n) d (((d.bump q R.DOM.UV_EVENTS).raiseLevel .dom n.val B.DOM.DOM_UV v).domCut n.val)) ∧
      (d.domState n.val = 0 ∨ d.domState n.val = 3 → Runs (.railOv n) d d) ∧
      (d.domState n.val = 1 ∨ d.domState n.val = 2 → d.domConfirmed n.val (d.domS n.val).ovRun = true →
        d.active (srcNo .dom n.val B.DOM.DOM_OV) = false →
        Runs (.railOv n) d (((d.bump q R.DOM.OV_EVENTS).raiseLevel .dom n.val B.DOM.DOM_OV v).domCut n.val)) ∧
      let s := d.domS n.val
      let due := s.since + 40000 * d.fld q F.DOM.OFF_CFG_OFF_TIME
      (d.domState n.val = 3 → s.late = false → due ≤ d.now → Runs (.domOffTimeout n) d
        ((((d.modDom n.val (fun s => { s with late := true })).bump q R.DOM.OFF_TIMEOUTS).raiseLevel .dom n.val B.DOM.DOM_OFF_TIMEOUT v).modSeq
          (fun s => { s with lastDis := if s.lastDis = some n.val then none else s.lastDis }))) ∧
      (d.domState n.val ≠ 3 ∨ s.late = true ∨ d.now < due → Runs (.domOffTimeout n) d d)) ∧
    (∀ e : Dev, (n : Nat) → n ∈ [3, 6, 8] → e.flag (pg .dom n) F.DOM.DCFG_CUT = true → (e.domCut n).domState n = 3 ∧
      (e.domCut n).flag (pg .dom n) F.DOM.STATUS_CUT = true ∧ (e.domCut n).flag (pg .dom n) F.DOM.EVENT_CUT = true) ∧
    (d.state = 1 → d.cel.holdOff = true → d.seq.vinReq = false →
      let e := (d.modCel (fun c => { c with holdOff := false })).modSeq (fun s => { s with vinReq := false })
      (d.now < d.cel.holdEnd → Runs .holdOffEnd d d) ∧
      (d.cel.holdEnd ≤ d.now → d.cel.wakeDue = 0 → Runs .holdOffEnd d e) ∧
      (d.cel.holdEnd ≤ d.now → d.cel.wakeDue ≠ 0 → Runs .holdOffEnd d ((e.modCel (fun c => { c with wakeAt := d.now })).setPwron true))) ∧
    (d.phase = 7 → d.state ≠ 1 → d.now < d.holdOffAt → Runs .holdOffEnd d d) ∧
    (d.phase = 7 → d.state = 2 → d.seq.vinReq = false → d.holdOffAt ≤ d.now →
      (d.cel.wakeDue = 0 → ∃ t, Runs .holdOffEnd d t ∧ t.phase = 8 ∧ t.flag p F.SEQ.SEQ_STATUS_ON_REQ = false ∧ t.mem = d.mem) ∧
      (d.cel.wakeDue ≠ 0 → ∃ t, Runs .holdOffEnd d t ∧ t.phase = 1 ∧ t.seq.pc = d.fld p F.SEQ.ENTRY_UP ∧ t.cel.wakeDue = 0 ∧
        t.reg p R.SEQ.RST_STATUS = 0x0F ∧ t.reg p R.SEQ.RUNS = d.reg p R.SEQ.RUNS + 1 ∧ t.mem = d.mem)) ∧
    (d.state ≠ 1 → d.phase ≠ 7 → Runs .holdOffEnd d d) ∧
    (∀ k : Fin 8, d.CanWrite m .seq 0 R.SEQ.CMD →
      (3 ≤ d.state → d.state ≤ 5 → d.phase = 0 → k.val < 4 → ∃ t, Runs (.runAux m k) d t ∧ t.phase = 6 ∧
        t.seq.pc = d.fld p (F.SEQ.AUX_ENTRY_AUX0.at k.val) ∧ t.reg p R.SEQ.RUNS = d.reg p R.SEQ.RUNS + 1 ∧ t.mem = d.mem ∧ t.keys = d.keys) ∧
      (d.phase ≠ 0 ∨ 4 ≤ k.val ∨ d.state < 3 → Runs (.runAux m k) d (d.event p F.SEQ.EVENT_CMD_REFUSED).done) ∧
      Runs (.goSet m k) d (d.setFlag p ⟨R.SEQ.SEQ_STATUS, 16 + k.val, 1⟩ true).done) ∧
    (d.CanWrite m .seq 0 R.SEQ.CMD → (d.phase ≠ 6 → Runs (.stopAux m) d d.done) ∧
      (d.phase = 6 → d.seq.wait ≠ .none → Runs (.stopAux m) d (d.modSeq (fun s => { s with stopReq := true })).done) ∧
      (d.phase = 6 → d.seq.wait = .none → d.seq.goal = .none → ∃ t, Runs (.stopAux m) d t ∧ t.phase = 0 ∧
        t.flag p F.SEQ.EVENT_PROG_END = true ∧ t.seq.stopReq = false ∧ t.mem = d.mem ∧ t.keys = d.keys))

/-- The calendar (R369–R376, R381–R383): a write lands at its synchronisation; a read of SEC latches the other registers for its master; the
second rolls over by the calendar with the linear count beside it; a commit is taken whole where its date exists and rejected otherwise; an
alarm that matches fires once. -/
def Obligations.CalendarRuns : Prop :=
  ∀ (d : Dev) (m : Master), let p := pg .rtc
    let quiet := d.flag p F.RTC.ALARM_CFG_CAL_EN = false ∧ d.flag p F.RTC.ALARM_CFG_LIN_EN = false
    (∀ r n, d.cel.transit = [] → Runs (.cellarWriteSync r n) d d) ∧
    (∀ n, d.cel.transit = [(p, m, R.RTC.CMD, 1)] → ∃ t, Runs (.cellarWriteSync true n) d t ∧ t.flag p F.RTC.STATUS_COMMIT_PEND = true ∧
      t.cel.transit = [] ∧ t.flag p F.RTC.STATUS_SYNC_BUSY = false ∧ t.mem = d.mem ∧ t.keys = d.keys) ∧
    (∀ n ofs w, d.cel.transit = [(pg .cellar, m, ofs, w)] → ofs ≠ R.CELLAR.PWRON_CTRL → Runs (.cellarWriteSync false n) d
      (((d.modCel (fun c => { c with transit := [] })).setFlag (pg .cellar) F.CELLAR.STATUS_SYNC_BUSY false).plainWrite m .cellar 0 ofs w)) ∧
    (d.CanWrite m .rtc 0 R.RTC.CMD → d.cel.transit = [] → ∃ t, Runs (.commit m) d t ∧ t.flag p F.RTC.STATUS_COMMIT_PEND = true ∧
      t.cel = d.cel ∧ t.bus = .done ∧ t.mem = d.mem ∧ t.keys = d.keys) ∧
    (∀ sub : Fin 1024, d.CanRead m .rtc 0 R.RTC.SEC → ∃ t, Runs (.secRead m sub) d t ∧ t.fld p F.RTC.SEC_SUB = sub.val ∧
      t.fld p F.RTC.SEC_SEC = d.fld p F.RTC.SEC_SEC ∧ t.bus = .data (t.reg p R.RTC.SEC) ∧ t.reg p R.RTC.SEC m.cls = t.reg p R.RTC.SEC ∧
      (∀ o ∈ [R.RTC.TIME, R.RTC.DATE, R.RTC.LINEAR, R.RTC.LINEAR_HI], t.reg p o m.cls = d.reg p o) ∧ t.mem = d.mem ∧ t.keys = d.keys) ∧
    (quiet → d.calTime.ok = true → ∃ t, Runs .secondRollover d t ∧ t.calTime = d.calTime.next ∧ t.fld p F.RTC.SEC_SUB = 0 ∧
      t.fld p F.RTC.DATE_WDAY = weekday (dayNumber d.calTime.next.year d.calTime.next.month d.calTime.next.day) ∧
      t.linear = (if d.calValid then (d.linear + 1) % 2 ^ 48 else d.linear) ∧
      (d.calTime = ⟨59, 59, 23, 31, 12, 399⟩ → t.flag p F.RTC.FLAGS_EPOCH_WRAP = true) ∧ t.mem = d.mem ∧ t.keys = d.keys) ∧
    (d.flag p F.RTC.STATUS_COMMIT_PEND = false → Runs .commitApply d d) ∧
    (d.flag p F.RTC.STATUS_COMMIT_PEND = true → d.stageTime.ok = true → quiet → ∃ t, Runs .commitApply d t ∧ t.calTime = d.stageTime ∧
      t.linear = d.stageTime.seconds ∧ t.calValid = true ∧ t.flag p F.RTC.STATUS_COMMIT_PEND = false ∧
      t.reg p R.RTC.COMMITS = d.reg p R.RTC.COMMITS + 1 ∧ (d.calValid = false → t.reg p R.RTC.SET_DELTA = 0) ∧ t.mem = d.mem ∧
      t.keys = d.keys) ∧
    (d.flag p F.RTC.STATUS_COMMIT_PEND = true → d.stageTime.ok = false → ∃ t, Runs .commitApply d t ∧ t.calTime = d.calTime ∧
      t.linear = d.linear ∧ t.flag p F.RTC.FLAGS_DATE_ERR = true ∧ t.flag p F.RTC.EVENT_REJECTED = true ∧
      t.flag p F.RTC.STATUS_COMMIT_PEND = false ∧ t.reg p R.RTC.REJECTS = d.reg p R.RTC.REJECTS + 1 ∧ t.mem = d.mem ∧ t.keys = d.keys) ∧
    (d.calValid = true → d.flag p F.RTC.ALARM_CFG_CAL_EN = true → d.flag p F.RTC.ALARM_CFG_LIN_EN = false →
      d.flag p F.RTC.ALARM_CFG_CAL_WAKE = false → d.flag p F.RTC.ALARM_CFG_CAL_PWRON = false → d.cel.calMatch = false →
      (d.calMatches = true → d.alarms.flag p F.RTC.FLAGS_CAL_ALARM = true ∧ d.alarms.cel.calMatch = true ∧
        d.alarms.reg p R.RTC.ALARMS = d.reg p R.RTC.ALARMS + 1) ∧
      (d.calMatches = false → d.alarms = d.modCel (fun c => { c with calMatch := false }))) ∧
    (let step := (d.sfld p F.RTC.TRIM_PPM).natAbs * 32
     (step = 0 ∨ d.flag p F.RTC.STATUS_ON_RC = true → Runs .trimCorrection d d) ∧
     (0 < step → d.flag p F.RTC.STATUS_ON_RC = false → d.cel.trimAcc < 10000000 → ∃ t n, Runs .trimCorrection d t ∧
       d.cel.trimAcc + n * step = 10000000 + t.cel.trimAcc ∧ t.cel.trimAcc < step ∧
       t.reg p R.RTC.CORRECTIONS = d.reg p R.RTC.CORRECTIONS + 1 ∧ t.mem = d.mem ∧ t.keys = d.keys))

/-- The rate of the calendar (R378–R380): TRIM takes a value within its limits and sets RANGE otherwise; a measurement begins at MEAS_START, takes
its captures, and ends with the code of what ended it, with a result only where the interval was good. -/
def Obligations.RateMeasurementRuns : Prop :=
  ∀ (d : Dev) (m : Master), let p := pg .rtc
    (∀ w, d.CanWrite m .rtc 0 R.RTC.TRIM → d.cel.transit = [] → let v := toSigned 16 (bitsOf w.toNat 0 16)
      (-2000 ≤ v → v ≤ 2000 → ∃ t, Runs (.trimWrite m w) d t ∧ t.sfld p F.RTC.TRIM_PPM = v ∧ t.cel.trimAcc = 0 ∧ t.mem = d.mem ∧
        t.keys = d.keys) ∧
      (v < -2000 ∨ 2000 < v → ∃ t, Runs (.trimWrite m w) d t ∧ t.reg p R.RTC.TRIM = d.reg p R.RTC.TRIM ∧
        t.flag p F.RTC.EVENT_RANGE = true ∧ t.cel = d.cel ∧ t.mem = d.mem ∧ t.keys = d.keys)) ∧
    (d.CanWrite m .rtc 0 R.RTC.CMD → d.cel.transit = [] →
      (d.flag p F.RTC.STATUS_MEAS_RUN = false → ∃ t, Runs (.measStart m) d t ∧ t.flag p F.RTC.STATUS_MEAS_RUN = true ∧ t.cel.meas = {} ∧
        t.mem = d.mem ∧ t.keys = d.keys) ∧
      (d.flag p F.RTC.STATUS_MEAS_RUN = true → ∃ t, Runs (.measStop m) d t ∧ t.flag p F.RTC.STATUS_MEAS_RUN = false ∧ t.cel.meas = {} ∧
        t.fld p F.RTC.MEAS_RESULT_END = 6 ∧ t.flag p F.RTC.MEAS_RESULT_VALID = false ∧ t.flag p F.RTC.EVENT_MEAS_ABORT = true ∧
        t.reg p R.RTC.MEASUREMENTS = d.reg p R.RTC.MEASUREMENTS + 1 ∧ t.mem = d.mem ∧ t.keys = d.keys) ∧
      (∀ n, d.flag p F.RTC.STATUS_MEAS_RUN = true → d.fld p F.RTC.MEAS_CFG_SRC = 1 →
        (d.cel.meas.opened = false → ∃ t, Runs (.nrefCapture m n) d t ∧ t.cel.meas.opened = true ∧ t.cel.meas.ref = d.nref ∧
          t.cel.meas.tick = n.toNat ∧ t.cel.meas.onRc = d.flag p F.RTC.STATUS_ON_RC ∧ t.mem = d.mem ∧ t.keys = d.keys) ∧
        (d.cel.meas.opened = true → d.cel.meas.ref + d.fld p F.RTC.MEAS_CFG_MIN_SPAN * 10000000000 ≤ d.nref →
          ∃ t, Runs (.nrefCapture m n) d t ∧ t.cel.meas = { d.cel.meas with due := some (d.nref, n.toNat) } ∧ t.mem = d.mem ∧ t.keys = d.keys))) ∧
    (∀ n, d.flag p F.RTC.STATUS_MEAS_RUN = false ∨ d.cel.meas.opened = false → Runs (.measIntervalEnd n) d d) ∧
    (∀ n, d.flag p F.RTC.STATUS_MEAS_RUN = true → d.cel.meas.opened = true → d.fld p F.RTC.MEAS_CFG_SRC = 0 →
      (d.cel.meas.lost = true ∨ d.gridGood = false → ∃ t, Runs (.measIntervalEnd n) d t ∧ t.fld p F.RTC.MEAS_RESULT_END = 2 ∧ t.cel.meas = {} ∧
        t.flag p F.RTC.MEAS_RESULT_VALID = false ∧ t.fld p F.RTC.MEAS_RESULT_PPM = d.fld p F.RTC.MEAS_RESULT_PPM ∧ t.mem = d.mem) ∧
      (d.cel.meas.lost = false → d.gridGood = true → 2 ^ d.fld p F.RTC.MEAS_CFG_WIN_LOG ≤ sub32 (d.reg (pg .timebase) R.TIMEBASE.FOLIO).toNat d.cel.meas.folio.toNat →
        d.flag p F.RTC.MEAS_CFG_AUTO = false → d.cel.meas.onRc = false →
        let w : Nat := 2 ^ d.fld p F.RTC.MEAS_CFG_WIN_LOG * 32768 * 65536
        let v := divRound (((n.toNat * (if d.flag p F.RTC.MEAS_CFG_NOM then 60 else 50) : Nat) : Int) * 10000000 - (w : Int) * 10000000) w
        v.natAbs ≤ 5000 → ∃ t, Runs (.measIntervalEnd n) d t ∧ t.sfld p F.RTC.MEAS_RESULT_PPM = v ∧ t.fld p F.RTC.MEAS_RESULT_END = 1 ∧
          t.flag p F.RTC.MEAS_RESULT_VALID = true ∧ t.flag p F.RTC.EVENT_MEAS_DONE = true ∧ t.cel.meas.opened = true ∧
          t.reg p R.RTC.TRIM = d.reg p R.RTC.TRIM ∧ t.mem = d.mem ∧ t.keys = d.keys))

/-- What wakes the device (R384–R386, R388): a wake input that has stood for its DEB acts by its mode, the pilot detector by its direction; a wake event in CELLAR is held,
recorded in WAKE_PEND, and asserts PWRON; PWRON follows its command, in LEVEL mode until released and in PULSE mode until its width ends. -/
def Obligations.WakeRuns : Prop :=
  ∀ (d : Dev) (m : Master), let p := pg .cellar
    (∀ (i : Fin 4) (high : Bool) (held : BitVec 8),
      let lv : Fld := ⟨F.CELLAR.STATUS_WAKE_LEVEL.ofs, F.CELLAR.STATUS_WAKE_LEVEL.lo + i.val, 1⟩
      let cfg := (d.reg p (R.CELLAR.WAKE_CFG + 4 * i.val)).toNat
      let was := vget d.cel.wakeHeld i.val false
      let e := (d.setFlag p lv high).modCel (fun c => { c with wakeHeld := vmod c.wakeHeld i.val (fun _ => high) })
      (held.toNat < bitsOf cfg 8 8 → Runs (.wakeInput i high held) d (d.setFlag p lv high)) ∧
      (bitsOf cfg 8 8 ≤ held.toNat →
        (bitAt cfg 0 = false → Runs (.wakeInput i high held) d e) ∧
        (bitAt cfg 0 = true → bitsOf cfg 1 3 = 0 → Runs (.wakeInput i high held) d (if high = true ∧ was = false then e.wakeEvent i.val else e)) ∧
        (bitAt cfg 0 = true → bitsOf cfg 1 3 = 1 → Runs (.wakeInput i high held) d (if high = false ∧ was = true then e.wakeEvent i.val else e)) ∧
        (bitAt cfg 0 = true → bitsOf cfg 1 3 = 2 → Runs (.wakeInput i high held) d (if high = was then e else e.wakeEvent i.val)) ∧
        (bitAt cfg 0 = true → bitsOf cfg 1 3 = 3 → Runs (.wakeInput i high held) d (if high = true then e.wakeEvent i.val else e)) ∧
        (bitAt cfg 0 = true → bitsOf cfg 1 3 = 4 → Runs (.wakeInput i high held) d (if high = true then e else e.wakeEvent i.val)))) ∧
    (∀ (mv : BitVec 16) (held : BitVec 8), let c := Instr.pilotDetectorChange mv held
      let a := decide (11000 < mv.toInt)
      let e := d.setFlag p F.CELLAR.STATUS_PILOT_A a
      (held.toNat < d.fld p F.CELLAR.PILOT_WAKE_DEB → Runs c d d) ∧ (10500 ≤ mv.toInt → mv.toInt ≤ 11000 → Runs c d d) ∧
      (d.flag p F.CELLAR.STATUS_PILOT_A = a → Runs c d d) ∧
      (d.fld p F.CELLAR.PILOT_WAKE_DEB ≤ held.toNat → mv.toInt < 10500 ∨ 11000 < mv.toInt → d.flag p F.CELLAR.STATUS_PILOT_A ≠ a →
        let dir := d.fld p F.CELLAR.PILOT_WAKE_DIR
        (d.flag p F.CELLAR.PILOT_WAKE_EN = false → Runs c d e) ∧
        (d.flag p F.CELLAR.PILOT_WAKE_EN = true → dir = 2 ∨ dir = b2n a → Runs c d (e.wakeEvent 4)) ∧
        (dir ≠ 2 → dir ≠ b2n a → Runs c d e))) ∧
    (∀ b < 16, d.state = 1 → d.cel.holdOff = false → d.cel.wakeDue = 0 → (d.wakeEvent b).cel.wakeDue = 2 ^ b ∧
      (d.wakeEvent b).flag p F.CELLAR.STATUS_PWRON = true ∧ (d.wakeEvent b).flag p F.CELLAR.EVENT_WAKE_SEEN = true ∧
      (d.wakeEvent b).flag p ⟨R.CELLAR.WAKE_PEND, b, 1⟩ = true ∧ (d.wakeEvent b).state = 1 ∧ (d.wakeEvent b).mem = d.mem) ∧
    (d.CanWrite m .cellar 0 R.CELLAR.PWRON_CTRL → d.cel.transit = [] →
      (∃ t, Runs (.pwronAssert m) d t ∧ t.flag p F.CELLAR.STATUS_PWRON = true ∧ t.cel = { d.cel with pwronAt := d.now } ∧ t.mem = d.mem ∧ t.keys = d.keys) ∧
      (∃ t, Runs (.pwronRelease m) d t ∧ t.flag p F.CELLAR.STATUS_PWRON = (d.pwronPulse && d.flag p F.CELLAR.STATUS_PWRON) ∧
        t.cel = d.cel ∧ t.mem = d.mem ∧ t.keys = d.keys)) ∧
    (let due := d.cel.pwronAt + 400000 * d.fld p F.CELLAR.PWRON_PULSE_WIDTH
     (d.pwronPulse = true → due ≤ d.now → Runs .pwronPulseEnd d (d.setPwron false)) ∧
     (d.pwronPulse = false ∨ d.now < due → Runs .pwronPulseEnd d d))

/-- What raising a source does (R397–R403, R406): nothing while the island is unpowered, nor for a level condition that already holds; else the
event waits to be recorded, RAISED counts, and the reaction of its severity follows: at ALERT and below none on the stages, at HALT from RUN to
READY with GO of every group cleared, at SAFE and above to SAFE with every tile that is not DISABLED in KILLED and DISCH on; in HIBERNATE no
state changes. -/
def Obligations.RaisingReacts : Prop :=
  ∀ (d : Dev) (k : PageKind) (i b n : Nat), let s := srcNo k i b
    let f := pg .fault
    (d.islandOn = false → d.raise k i b n = d ∧ d.raiseLevel k i b n = d) ∧
    (d.active s = true → d.raiseLevel k i b n = d) ∧
    (d.islandOn = true → d.state ≠ 6 → d.sevOf s ≤ 1 → (d.fc.pend.any (fun e => e.src == s)) = false → (d.raise k i b n).state = d.state ∧
      (d.raise k i b n).mem = d.mem ∧ (d.raise k i b n).keys = d.keys ∧ (d.raise k i b n).tile = d.tile ∧ (d.raise k i b n).conv = d.conv ∧
      (d.raise k i b n).disch = d.disch ∧ ∃ ev, (d.raise k i b n).fc.pend = d.fc.pend ++ [ev] ∧ ev.src = s ∧ ev.sev = d.sevOf s ∧
        ev.data = BitVec.ofNat 32 (b + 1 + 65536 * (n % 65536)) ∧ ev.again = false) ∧
    (pg k i < 256 → b < 32 → d.islandOn = true → d.state = 6 → (d.raise k i b n).state = 6 ∧ (d.raise k i b n).mem = d.mem) ∧
    (pg k i < 256 → b < 32 → d.state = 4 → d.sevOf s = 3 → (d.raise k i b n).state = 3 ∧ (d.raise k i b n).fld (pg .sys) F.SYS.STATE_CAUSE = 6 ∧
      (∀ g < 8, (d.raise k i b n).flag (pg .conv g) F.CONV.GROUP_CTRL_GO = false) ∧
      (d.raise k i b n).flag f F.FAULT.EVENT_HALT = true ∧ (d.raise k i b n).chg.reacted = true ∧ (d.raise k i b n).mem = d.mem) ∧
    (pg k i < 256 → b < 32 → d.state = 3 ∨ d.state = 4 → 4 ≤ d.sevOf s → (d.raise k i b n).state = 5 ∧
      (d.raise k i b n).fld (pg .sys) F.SYS.STATE_CAUSE = 7 ∧ (d.raise k i b n).fld (pg .sys) F.SYS.STATE_PREV = d.state ∧
      (∀ t < 24, (d.raise k i b n).tstate t = if d.tstate t = 0 then 0 else 4) ∧
      (∀ g < 8, (d.raise k i b n).flag (pg .conv g) F.CONV.GROUP_CTRL_GO = false) ∧ (d.raise k i b n).disch.on = true ∧
      (d.raise k i b n).fc.checks = d.fc.checks ++ [d.now] ∧ (d.raise k i b n).mem = d.mem)

/-- Sources and their record (R396–R398, R406–R410, R427): a source becomes active, ends or is an instant; the event of the highest severity,
and among those of the lowest number, is recorded first, in four words at the producer index, and as the first fault where none is kept;
HIST_RD moves within what is written; SEV takes each field between its minimum and 5; the commands of the page act with their key. -/
def Obligations.FaultRecordingRuns : Prop :=
  ∀ (d : Dev) (m : Master), let p := pg .fault
    (∀ src how n, d.islandOn = false → Runs (.faultEvent src how n) d d) ∧
    (∀ (src : Fin 512) (n : BitVec 16) k i b, d.islandOn = true → sourceOf src.val = some (k, i, b) → k ≠ .scaolo ∨ b ≤ 8 →
      Runs (.faultEvent src .begins n) d (d.raiseLevel k i b n.toNat) ∧ Runs (.faultEvent src .ends n) d (d.lower k i b) ∧
      Runs (.faultEvent src .instant n) d (d.raise k i b n.toNat)) ∧
    (∀ (src : Fin 512) how n, sourceOf src.val = none → Runs (.faultEvent src how n) d d) ∧
    (d.fc.pend = [] → Runs .historyRecord d d) ∧
    (∀ e, d.nextRecord = some e → e ∈ d.fc.pend ∧ ∀ x ∈ d.fc.pend, Dev.recordedFirst x e = false) ∧
    (d.fc.pend ≠ [] → ∃ e, d.nextRecord = some e) ∧
    (∀ e, d.islandOn = true → d.nextRecord = some e → d.histWr = d.histRd → d.fc.reps.lookup e.src = none → ∃ t, Runs .historyRecord d t ∧
      t.reg p R.FAULT.HIST_WR = d.reg p R.FAULT.HIST_WR + 1 ∧ t.reg p R.FAULT.HIST_RD = d.reg p R.FAULT.HIST_RD ∧
      (∀ j < 4, t.reg p (R.FAULT.HIST + 16 * (d.histWr % 32) + 4 * j) = (Dev.recordWords e 0 (d.histWr % 65536)).getD j 0) ∧
      (∀ x ∈ t.fc.pend, x ∈ d.fc.pend ∧ x.src ≠ e.src) ∧
      (e.again = false → d.fld p F.FAULT.CFG_FF_MIN ≤ e.sev → d.flag p F.FAULT.STATUS_FF_VALID = false →
        t.flag p F.FAULT.STATUS_FF_VALID = true ∧ ∀ j < 4, t.reg p (R.FAULT.FF + 4 * j) = (Dev.recordWords e 0 (d.histWr % 65536)).getD j 0) ∧
      (d.flag p F.FAULT.STATUS_FF_VALID = true → ∀ j < 4, t.reg p (R.FAULT.FF + 4 * j) = d.reg p (R.FAULT.FF + 4 * j)) ∧
      t.mem = d.mem ∧ t.keys = d.keys) ∧
    (∀ w, d.CanWrite m .fault 0 R.FAULT.HIST_RD → (sub32 w.toNat d.histRd ≤ sub32 d.histWr d.histRd →
        Runs (.histRdWrite m w) d (d.setReg p R.FAULT.HIST_RD w).done) ∧
      (sub32 d.histWr d.histRd < sub32 w.toNat d.histRd → Runs (.histRdWrite m w) d (d.refuse m p R.FAULT.HIST_RD).done)) ∧
    (∀ (i : Fin 48) w, d.CanWrite m .fault 0 (R.FAULT.SEV + 4 * i.val) →
      (d.lockSet p = false → ∃ t, Runs (.sevWrite m i w) d t ∧ t.mem = d.mem ∧ t.keys = d.keys ∧ ∀ j < 8,
        let v := bitsOf w.toNat (4 * j) 3
        let s := 8 * i.val + j
        ((sevPairOf s).2 ≤ v → v ≤ 5 → t.sevOf s = v) ∧
        (v < (sevPairOf s).2 ∨ 5 < v → t.sevOf s = d.sevOf s ∧ (d.sevOf s ≠ v → t.flag p F.FAULT.EVENT_RANGE = true))) ∧
      (d.lockSet p = true → w &&& 0x77777777 ≠ d.reg p (R.FAULT.SEV + 4 * i.val) →
        Runs (.sevWrite m i w) d (d.refuse m p (R.FAULT.SEV + 4 * i.val)).done)) ∧
    (d.CanWrite m .fault 0 R.FAULT.CMD →
      Runs (.clrFf m) d (d.setFlag p F.FAULT.STATUS_FF_VALID false).done ∧
      Runs (.clrRecov m) d (((d.setFlag p F.FAULT.STATUS_RECOV_LATCHED false).setFlag p F.FAULT.RECOV_STATUS_LATCHED false).setFld p
        F.FAULT.RECOV_STATUS_COUNT 0).done ∧
      Runs (.clrLost m) d (d.setFlag p F.FAULT.STATUS_LOST false).done ∧
      (∀ src, d.state = 4 → Runs (.inject m src) d d.done) ∧
      (∀ (src : Fin 512) k i b, d.state ≠ 4 → sourceOf src.val = some (k, i, b) → k ≠ .scaolo ∨ b ≤ 8 →
        (d.armedHolds && !(d.raise k i b 0).armedHolds) = false → Runs (.inject m src) d (d.raise k i b 0).done) ∧
      (∀ src : Fin 512, sourceOf src.val = none → Runs (.inject m src) d d.done))

/-- Recovery from SAFE and the reaction's checks (R402, R412, R413, R416): the quiet period leads back to READY, or to BOOT, while the count is
below its limit, and latches otherwise; the window's end clears the count; a check that is due and passes is one less, one that fails starts the backup
reaction and refuses a RESET that waits; a RESET reaction makes its device reset once nothing waits, 10 µs after it. -/
def Obligations.RecoveryRuns : Prop :=
  ∀ d : Dev, let p := pg .fault
    (d.state ≠ 5 ∨ d.quietDue = false ∨ d.safeActive = true ∨ d.fc.backup = true → Runs .quietPeriodElapsed d d) ∧
    (d.state = 5 → d.quietDue = true → d.safeActive = false → d.fc.backup = false →
      (d.fld p F.FAULT.RECOV_STATUS_COUNT < d.fld p F.FAULT.RECOV_CFG_MAX → d.fld (pg .sys) F.SYS.STATE_PREV ≠ 2 →
        d.flag (pg .seq) F.SEQ.SEQ_STATUS_OFF_REQ = false → ∃ t, Runs .quietPeriodElapsed d t ∧ t.state = 3 ∧
          t.fld (pg .sys) F.SYS.STATE_CAUSE = 9 ∧ t.fld p F.FAULT.RECOV_STATUS_COUNT = d.fld p F.FAULT.RECOV_STATUS_COUNT + 1 ∧
          t.reg p R.FAULT.RECOVERIES = d.reg p R.FAULT.RECOVERIES + 1 ∧
          (∀ n < 24, (t.tileS n).killSafe = false) ∧ t.mem = d.mem ∧ t.keys = d.keys) ∧
      (d.fld p F.FAULT.RECOV_STATUS_COUNT < d.fld p F.FAULT.RECOV_CFG_MAX → d.fld (pg .sys) F.SYS.STATE_PREV = 2 →
        ∃ t, Runs .quietPeriodElapsed d t ∧ t.state = 2 ∧ t.fld (pg .sys) F.SYS.STATE_CAUSE = 9 ∧ t.keys = keysAtReset) ∧
      (d.fld p F.FAULT.RECOV_CFG_MAX ≤ d.fld p F.FAULT.RECOV_STATUS_COUNT → ∃ t, Runs .quietPeriodElapsed d t ∧ t.state = 5 ∧
        t.flag p F.FAULT.STATUS_RECOV_LATCHED = true ∧ t.fc.quietSince = none ∧ t.mem = d.mem ∧ t.keys = d.keys)) ∧
    (∀ t, d.fc.quietSince = some t → (d.quietDue = true ↔ t + 400000 * d.fld p F.FAULT.CFG_QUIET ≤ d.now)) ∧
    (d.fc.quietSince = none → d.quietDue = false) ∧
    (d.islandOn = true → let due := d.fc.windowFrom + 400000000 * d.fld p F.FAULT.RECOV_CFG_WINDOW
      (due ≤ d.now → Runs .recovWindowEnd d (d.setFld p F.FAULT.RECOV_STATUS_COUNT 0)) ∧ (d.now < due → Runs .recovWindowEnd d d)) ∧
    (∀ a b c, d.islandOn = true → d.fc.checks = [] ∨ (∃ t, d.fc.checks.head? = some t ∧ d.now < t + 35643) → d.fc.cmdReset = false →
      Runs (.reactionCheck a b c) d d) ∧
    (∀ t l, d.islandOn = true → d.fc.checks = t :: l → t + 35643 ≤ d.now →
      let past := d.modFc (fun f => { f with checks := l })
      ((∀ n < 24, d.tstate n ≠ 3) →
        (d.fc.cmdReset = false → Runs (.reactionCheck true true true) d past) ∧
        (d.fc.cmdReset = true → l = [] → ∃ t, Runs (.reactionCheck true true true) d t ∧ t.state = 2 ∧
          t.fld (pg .sys) F.SYS.STATE_CAUSE = 5 ∧ t.keys = keysAtReset)) ∧
      (∀ a b c, let bad := d.checkFailed a b c
        bad ≠ 0 →
        (let e := past.backupReaction bad
         d.fc.cmdReset = false → e.fc.cmdReset = false → Runs (.reactionCheck a b c) d e) ∧
        (let e := ((past.modFc (fun f => { f with cmdReset := false })).refuseCmd 0x20).backupReaction bad
         d.fc.cmdReset = true → e.fc.cmdReset = false → Runs (.reactionCheck a b c) d e))) ∧
    (d.fc.resetDue = false ∨ d.fc.pend ≠ [] ∨ d.fc.checks ≠ [] ∨ d.fc.backup = true ∨ d.now < d.fc.resetAt + 4000 →
      Runs .deviceResetByReaction d d) ∧
    (d.islandOn = true → d.fc.resetDue = true → d.fc.pend = [] → d.fc.checks = [] → d.fc.backup = false → d.fc.resetAt + 4000 ≤ d.now →
      ∃ t, Runs .deviceResetByReaction d t ∧ t.state = 2 ∧ t.fld (pg .sys) F.SYS.STATE_CAUSE = 8 ∧ t.keys = keysAtReset)

/-- The island's own checks (R404, R405, R415, R417–R420, R423): a difference raises its source and its end lowers it; the references are wrong
after three differences; a stop line is tested while its tile does not switch; the self-tests report each test, and all must pass for PASS;
SCAOLO_ARM answers the first condition that fails, and arms where all hold. -/
def Obligations.IslandChecksRun : Prop :=
  ∀ (d : Dev) (m : Master), let p := pg .scaolo
    (d.islandOn = false → Runs (.configCompare none) d d ∧ Runs (.islandCompareMismatch true) d d ∧ Runs (.referenceCompare 30) d d ∧
      Runs .selftestRun d d) ∧
    (d.islandOn = true →
      (∀ w : Fin 48, Runs (.configCompare (some w)) d (d.raiseLevel .scaolo 0 B.SCAOLO.ISL_CONFIG w.val)) ∧
      ((∀ w < 48, d.sevCopyWord w = d.reg (pg .fault) (R.FAULT.SEV + 4 * w)) →
        Runs (.configCompare none) d (d.lower .scaolo 0 B.SCAOLO.ISL_CONFIG)) ∧
      (∀ w < 48, d.sevCopyWord w ≠ d.reg (pg .fault) (R.FAULT.SEV + 4 * w) →
        (∀ v < w, d.sevCopyWord v = d.reg (pg .fault) (R.FAULT.SEV + 4 * v)) →
        Runs (.configCompare none) d (d.raiseLevel .scaolo 0 B.SCAOLO.ISL_CONFIG w)) ∧
      Runs (.islandCompareMismatch true) d (d.raiseLevel .scaolo 0 B.SCAOLO.ISL_COMPARE) ∧
      Runs (.islandCompareMismatch false) d (d.lower .scaolo 0 B.SCAOLO.ISL_COMPARE) ∧
      (∀ diff : BitVec 16, let e := fun n => d.modFc (fun f => { f with refDiffs := n })
        (diff.toNat ≤ 20 → Runs (.referenceCompare diff) d ((e 0).lower .scaolo 0 B.SCAOLO.ISL_REF)) ∧
        (20 < diff.toNat → d.fc.refDiffs < 2 → Runs (.referenceCompare diff) d (e (d.fc.refDiffs + 1))) ∧
        (20 < diff.toNat → 2 ≤ d.fc.refDiffs → Runs (.referenceCompare diff) d
          ((e (d.fc.refDiffs + 1)).raiseLevel .scaolo 0 B.SCAOLO.ISL_REF diff.toNat))) ∧
      (∀ us : BitVec 8, let alive := B.SCAOLO.ISL_ALIVE_RB
        let faultn := B.SCAOLO.ISL_FAULTN_RB
        Runs (.aliveReadback false us) d (d.lower .scaolo 0 alive) ∧
        Runs (.aliveReadback true us) d (if 10 ≤ us.toNat then d.raiseLevel .scaolo 0 alive else d) ∧
        Runs (.faultnReadback false us) d (d.lower .scaolo 0 faultn) ∧
        (d.faultN = false → Runs (.faultnReadback true us) d (d.lower .scaolo 0 faultn)) ∧
        (d.faultN = true → Runs (.faultnReadback true us) d (if 10 ≤ us.toNat then d.raiseLevel .scaolo 0 faultn else d))) ∧
      (d.state = 2 → d.phase = 0 ∨ d.phase = 9 → d.fc.selftestRun = false → d.seq.upDue = false → ∃ t, Runs .selftestRun d t ∧
        t.fc.selftestRun = true ∧ t.fld p F.SCAOLO.SELFTEST_PASSED = d.fld p ⟨R.SCAOLO.SELFTEST, 0, 1⟩ ∧
        t.flag p F.SCAOLO.SELFTEST_PASS = false ∧ t.flag p F.SCAOLO.SELFTEST_DONE = false ∧ t.mem = d.mem ∧ t.keys = d.keys) ∧
      (d.state ≠ 2 ∨ (d.phase ≠ 0 ∧ d.phase ≠ 9) ∨ d.fc.selftestRun = true ∨ d.seq.upDue = true → Runs .selftestRun d d) ∧
      (∀ x y, d.fc.selftestRun = false → Runs (.selftestDone x y) d d) ∧
      (∀ (x : BitVec 10) (y : BitVec 17), d.fc.selftestRun = true → let bad := d.testsFailed x.toNat y.toNat
        (bitAt bad 0 = !d.flag p ⟨R.SCAOLO.SELFTEST, 0, 1⟩) ∧ (bitAt bad 3 = true ↔ y ≠ 0) ∧
        (bitAt bad 7 = true ↔ ∀ n < 24, d.flag (pg .tile n) F.TILE.CAL_STATUS_VALID = false) ∧
        (∀ i < 10, i ≠ 0 → i ≠ 3 → i ≠ 7 → bitAt bad i = bitAt x.toNat i) ∧
        (bad = 0 → ∃ t, Runs (.selftestDone x y) d t ∧ t.fld p F.SCAOLO.SELFTEST_PASSED = 1023 ∧ t.flag p F.SCAOLO.SELFTEST_PASS = true ∧
          t.flag p F.SCAOLO.SELFTEST_DONE = true ∧ t.reg (pg .cal) R.CAL.FACTORY = 0x1FFFF ∧ t.fc.faultnLatch = false ∧ t.mem = d.mem ∧
          t.keys = d.keys) ∧
        (bad ≠ 0 → ∃ e : Dev, e.fld p F.SCAOLO.SELFTEST_PASSED = 1023 - bad ∧
          e.flag p F.SCAOLO.SELFTEST_PASS = d.flag p F.SCAOLO.SELFTEST_PASS ∧ e.fc.selftestRun = false ∧
          e.reg (pg .cal) R.CAL.FACTORY = BitVec.ofNat 32 (0x1FFFF - y.toNat) ∧ (y = 0 → e.mem = d.mem ∧ e.keys = d.keys) ∧
          (e.active (srcNo .scaolo 0 B.SCAOLO.ISL_SELFTEST) = false →
            Runs (.selftestDone x y) d (e.raiseLevel .scaolo 0 B.SCAOLO.ISL_SELFTEST bad)) ∧
          (e.active (srcNo .scaolo 0 B.SCAOLO.ISL_SELFTEST) = true →
            Runs (.selftestDone x y) d (e.refault .scaolo 0 B.SCAOLO.ISL_SELFTEST (Dev.causeWord B.SCAOLO.ISL_SELFTEST bad)))))) ∧
    (∀ n : Fin 24, d.busLive = true →
      let due := d.tstate n.val ≠ 3 ∧ ((d.state = 2 ∧ vget d.fc.ptBoot n.val false = false) ∨
        (d.flag p F.SCAOLO.PATHTEST_CFG_EN = true ∧
          vget d.fc.ptLast n.val 0 + 400000 * d.fld p F.SCAOLO.PATHTEST_CFG_INTERVAL ≤ d.now))
      let e := (d.bump p R.SCAOLO.PATHTESTS).modFc (fun f =>
        { f with ptLast := vmod f.ptLast n.val (fun _ => d.now), ptBoot := vmod f.ptBoot n.val (fun _ => true) })
      (¬due → ∀ ack, Runs (.pathtest n ack) d d) ∧
      (due → Runs (.pathtest n true) d e ∧ Runs (.pathtest n false) d (e.raise .scaolo 0 B.SCAOLO.ISL_PATHTEST n.val))) ∧
    (d.CanWrite m .scaolo 0 R.SCAOLO.ARM →
      (d.armResult = 1 → Runs (.scaoloArm m) d (((d.setFld p F.SCAOLO.ARM_STATUS_RESULT 1).setFlag p F.SCAOLO.ARM_STATUS_ARMED true).event p
        F.SCAOLO.EVENT_ARMED).done) ∧
      (d.armResult ≠ 1 → Runs (.scaoloArm m) d (d.setFld p F.SCAOLO.ARM_STATUS_RESULT d.armResult).done) ∧
      (d.state ≠ 3 → d.armResult = 2) ∧ (d.state = 3 → d.flag p F.SCAOLO.SELFTEST_PASS = false → d.armResult = 3))

/-- Boot transfers on the host port (R431, R436–R439, R443, R528, R529): each is answered, a length that does not fit with 0x03, one on another
path or outside BOOT with 0x05; a header, a segment and the colophon are taken in their order, a check that fails or a transfer out of order
fails the attempt with its code; the segment's bytes go to the load ranges; the checked image is released with both pairs at their entries. -/
def Obligations.BootTransfersRun : Prop :=
  ∀ (d : Dev) (tag : BitVec 8) (l : List Byte), let p := pg .secboot
    let r10 : Req := ⟨.port, 0x10, tag.toNat, 576⟩
    let r12 : Req := ⟨.port, 0x12, tag.toNat, 44⟩
    let on := d.state = 2 ∧ d.fld p F.SECBOOT.BOOT_CFG_PATH = 0
    d.busLive = true →
    (l.length ≠ 2304 → Runs (.bootHeader tag l) d (d.respond r10 3 [])) ∧
    (l.length = 2304 → ¬on → Runs (.bootHeader tag l) d (d.respond r10 5 [])) ∧
    (l.length = 2304 → on → d.bootState = 1 → let h := Dev.payloadBytes l
      (d.headerCode h = 0 → Runs (.bootHeader tag l) d (((((d.bump p R.SECBOOT.ATTEMPTS).setBootState 2).setFld p F.SECBOOT.BOOT_STATUS_SEG 0).modBoot
        (fun b => { b with hdr := h, xferAt := d.now })).respond r10 0 [])) ∧
      (d.headerCode h ≠ 0 → Runs (.bootHeader tag l) d (((d.bump p R.SECBOOT.ATTEMPTS).bootFail (d.headerCode h)).respond r10 7 []))) ∧
    (l.length = 2304 → on → d.bootState = 5 → Runs (.bootHeader tag l) d
      ((((d.bump p R.SECBOOT.ATTEMPTS).bootFailed 0x14 0).raise .secboot 0 B.SECBOOT.SB_FAIL 0x14).respond r10 7 [])) ∧
    (l.length = 2304 → on → d.bootState = 2 ∨ d.bootState = 3 → Runs (.bootHeader tag l) d ((d.bootFail 0x07).respond r10 7 [])) ∧
    (∀ (k : Word) (n : BitVec 16), 1 ≤ n.toNat → n.toNat ≤ 16384 → l.length = 4 * n.toNat → on → d.bootState = 2 →
      d.fld p F.SECBOOT.BOOT_STATUS_SEG = k.toNat → k.toNat < 64 → let r : Req := ⟨.port, 0x11, tag.toNat, n.toNat⟩
      let h := d.boot.hdr
      (l.length ≠ Image.segLen h k.toNat → Runs (.bootSegment tag k n l) d ((d.bootFail 0x08).respond r 7 [])) ∧
      (l.length = Image.segLen h k.toNat → Crypto.sha256 (Dev.payloadBytes l) ≠ sub h (0x100 + 32 * k.toNat) 32 →
        Runs (.bootSegment tag k n l) d ((d.bootFail 0x09).respond r 7 [])) ∧
      (l.length = Image.segLen h k.toNat → Crypto.sha256 (Dev.payloadBytes l) = sub h (0x100 + 32 * k.toNat) 32 →
        ∃ t, Runs (.bootSegment tag k n l) d t ∧ t.mem = Image.load d.mem (Dev.payloadBytes l) (65536 * k.toNat) (Image.ranges h) 0 ∧
          t.fld p F.SECBOOT.BOOT_STATUS_SEG = k.toNat + 1 ∧ t.bootState = (if k.toNat + 1 = Image.segs h then 3 else 2) ∧
          t.host.resp = some ⟨0x11, tag.toNat, n.toNat, 0, []⟩ ∧ t.keys = d.keys)) ∧
    (l.length = 176 → on → d.bootState = 3 → Runs (.bootColophon tag l) d
      (((d.setBootState 4).modBoot (fun b => { b with col := Dev.payloadBytes l })).respond r12 0 [])) ∧
    (l.length = 176 → on → d.bootState = 1 ∨ d.bootState = 2 → Runs (.bootColophon tag l) d ((d.bootFail 0x07).respond r12 7 [])) ∧
    (d.bootState = 4 → d.boot.verified = false → let c := d.colophonCode d.boot.hdr d.boot.col
      (c = 0 → Runs .colophonVerified d (d.modBoot (fun b => { b with verified := true }))) ∧
      (c ≠ 0 → Runs .colophonVerified d (d.bootFail c))) ∧
    (d.bootState ≠ 4 → Runs .colophonVerified d d) ∧
    (d.releasable = true → d.flag (pg .seq) F.SEQ.SEQ_STATUS_OFF_REQ = false → ∃ t, Runs .bootRelease d t ∧ t.state = 3 ∧
      t.fld (pg .sys) F.SYS.STATE_CAUSE = 0x0A ∧ t.bootState = 6 ∧ t.flag p F.SECBOOT.EVENT_RELEASED = true ∧
      (vget t.comp.core 0 {}).pc = BitVec.ofNat 32 (le d.boot.hdr 0x10 4) ∧ (vget t.comp.core 1 {}).pc = BitVec.ofNat 32 (le d.boot.hdr 0x14 4) ∧
      (vget t.comp.core 0 {}).mach = true ∧ (vget t.comp.core 1 {}).mach = true ∧
      t.fld (pg .sys) F.SYS.PAIR_STATUS_CTRL = 1 ∧ t.fld (pg .sys) F.SYS.PAIR_STATUS_SVC = 1 ∧
      (∀ a < 0x30000000, (∀ g ∈ Image.ranges d.boot.hdr, a < g.1 ∨ g.1 + g.2 ≤ a) → Mem.byte t.mem a = 0) ∧ t.keys = d.keys) ∧
    (d.releasable = false → Runs .bootRelease d d) ∧
    (d.bootState = 2 ∨ d.bootState = 3 → d.boot.xferAt + 400000000 ≤ d.now → Runs .bootTransferTimeout d (d.bootFail 0x11)) ∧
    ((d.bootState ≠ 2 ∧ d.bootState ≠ 3) ∨ d.now < d.boot.xferAt + 400000000 → Runs .bootTransferTimeout d d) ∧
    (d.bootState = 5 → d.boot.failAt + 40000000 ≤ d.now → Runs .bootHoldoffEnd d (d.setBootState 1)) ∧
    (d.bootState ≠ 5 ∨ d.now < d.boot.failAt + 40000000 → Runs .bootHoldoffEnd d d) ∧
    (∀ c, (d.bootFail c).bootState = 5 ∧ (d.bootFail c).boot.hdr = [] ∧ (d.bootFail c).boot.verified = false ∧
      (d.bootFail c).boot.failAt = d.now ∧
      bitsOf (d.bootFail c).bootStatus.toNat F.SECBOOT.BOOT_STATUS_HOLD_MS.lo F.SECBOOT.BOOT_STATUS_HOLD_MS.w = 100 ∧
      (∀ a, (∃ g ∈ Image.ranges d.boot.hdr, g.1 ≤ a ∧ a < g.1 + g.2) → Mem.byte (d.bootFail c).mem a = 0))

/-- The host port and boot frames in fragments (R445, R525–R529): a request is answered once, with the words read, or with the result that refuses it;
a response is put out once; fragments are taken on the selected path in BOOT; a FIRST fragment begins a frame, the next one in count joins
it, another count or a gap discards it as a CRC failure, and LAST on T1S makes the frame whole. -/
def Obligations.HostFramesRun : Prop :=
  ∀ (d : Dev) (n : BitVec 16) (l : List Byte), let p := pg .secboot
    let keep := fun (x : List Nat) => d.modBoot (fun b => { b with fragAt := d.now, frag := some (x, (n.toNat + 1) % 65536) })
    d.busLive = true →
    (∀ first last, Runs (.bootFragment .port first last n l) d d) ∧
    (∀ way first last, d.state ≠ 2 → Runs (.bootFragment way first last n l) d d) ∧
    (d.state = 2 → d.fld p F.SECBOOT.BOOT_CFG_PATH = 2 →
      (∀ first last, Runs (.bootFragment .can first last n l) d d) ∧
      (d.boot.frag = none → Runs (.bootFragment .t1s true false n l) d (keep (Dev.payloadBytes l)) ∧
        Runs (.bootFragment .t1s true true n l) d ((d.modBoot (fun b => { b with fragAt := d.now, frag := none })).frameRun .t1s (Dev.payloadBytes l)) ∧
        Runs (.bootFragment .t1s false true n l) d d ∧ Runs .fragmentGapTimeout d d) ∧
      (∀ old c, d.boot.frag = some (old, c) →
        (c = n.toNat → Runs (.bootFragment .t1s false false n l) d (keep (old ++ Dev.payloadBytes l))) ∧
        (c ≠ n.toNat → Runs (.bootFragment .t1s false false n l) d ((d.modBoot (fun b => { b with frag := none })).frameCrcError
          ⟨.t1s, le old 0 1, le old 1 1, le old 2 2⟩ (decide (0x10 ≤ le old 0 1) && decide (le old 0 1 ≤ 0x12)))) ∧
        (d.now ≤ d.boot.fragAt + 4000000 → Runs .fragmentGapTimeout d d) ∧
        (d.boot.fragAt + 4000000 < d.now → Runs .fragmentGapTimeout d ((d.modBoot (fun b => { b with frag := none })).frameCrcError
          ⟨.t1s, le old 0 1, le old 1 1, le old 2 2⟩ (decide (0x10 ≤ le old 0 1) && decide (le old 0 1 ≤ 0x12)))))) ∧
    (∀ tag : BitVec 8, let req := fun (cmd len : Nat) => (⟨.port, cmd, tag.toNat, len⟩ : Req)
      Runs (.status tag) d (d.respond (req 1 0) 0 [d.bootStatus, BitVec.ofNat 32 d.hstatus]) ∧
      (∀ (len : BitVec 16) a, 16384 < len.toNat → Runs (.read tag len a) d (d.respond (req 0x20 len.toNat) 3 [])) ∧
      (∀ a w, (d.busRead .host a.toNat).bus = .data w → Runs (.read tag 1 a) d ((d.busRead .host a.toNat).respond (req 0x20 1) 0 [w])) ∧
      (∀ (len : BitVec 16) (a : Word), 1 ≤ len.toNat → len.toNat ≤ 16384 → regionOf a.toNat 4 = some .pages → d.sessionOpen = false →
        Dev.openBox ((a.toNat - 0x40000000) / 0x1000) = false →
        Runs (.read tag len a) d ((d.busFault .host).respond (req 0x20 len.toNat) 5 []) ∧
        (∀ w, Runs (.write tag a [w]) d ((d.busFault .host).respond (req 0x21 1) 5 []))) ∧
      (∀ a ws, 16384 < ws.length → Runs (.write tag a ws) d (d.respond (req 0x21 ws.length) 3 [])) ∧
      (∀ a, Runs (.write tag a []) d (d.respond (req 0x21 0) 0 [])) ∧
      (∀ a w, (d.busWrite .host a.toNat w).bus = .done → Runs (.write tag a [w]) d ((d.busWrite .host a.toNat w).respond (req 0x21 1) 0 [])) ∧
      (∀ a w v, (d.busWrite .host a.toNat w).bus ≠ .done → Runs (.write tag a [w, v]) d
        ((d.busWrite .host a.toNat w).respond (req 0x21 2) (d.hostFault a.toNat true) [])) ∧
      (∀ (cmd : BitVec 8) (len : BitVec 16), Dev.commandCodes.contains cmd.toNat = false →
        Runs (.requestFrameRefused cmd tag len true false) d (d.respond (req cmd.toNat len.toNat) 2 [])) ∧
      (∀ (cmd : BitVec 8) (len : BitVec 16), Dev.commandCodes.contains cmd.toNat = true →
        Runs (.requestFrameRefused cmd tag len true false) d (d.respond (req cmd.toNat len.toNat) 3 [])) ∧
      (∀ (cmd : BitVec 8) (len : BitVec 16), cmd.toNat < 0x10 ∨ 0x12 < cmd.toNat → d.host.crcRun ≠ 7 → Runs (.requestFrameRefused cmd tag len false false) d
        (((d.respond (req cmd.toNat len.toNat) 1 []).bump (pg .hostport) R.HOSTPORT.CRC_ERRS).event (pg .hostport) F.HOSTPORT.EVENT_CRC_ERR)) ∧
      (∀ cmd len ok, Runs (.requestFrameRefused cmd tag len ok true) d
        ((d.bump (pg .hostport) R.HOSTPORT.FRAMES).raise .hostport 0 B.HOSTPORT.HP_RAM))) ∧
    (∀ (cmd tag len r : Nat) ws, r < 16 → let h := pg .hostport
      let t := d.respond ⟨.port, cmd, tag, len⟩ r ws
      t.host.resp = some ⟨cmd, tag, len, r, ws⟩ ∧ t.reg h R.HOSTPORT.FRAMES = d.reg h R.HOSTPORT.FRAMES + 1 ∧
      t.reg h R.HOSTPORT.DENIED = (if r = 4 ∨ r = 5 then d.reg h R.HOSTPORT.DENIED + 1 else d.reg h R.HOSTPORT.DENIED) ∧ t.mem = d.mem ∧ t.keys = d.keys) ∧
    (d.host.resp = none → Runs .responseRead d d) ∧
    (∀ x, d.host.resp = some x → Runs .responseRead d (d.modHost (fun h => { h with resp := none, out := x.bytes, lastAt := d.now }))) ∧
    (let ws := Crc.wordBytes d.bootStatus ++ Crc.wordBytes (BitVec.ofNat 32 d.hstatus)
     Runs .statusWordsRead d (d.modHost (fun h => { h with out := ws ++ Crc.wordBytes (BitVec.ofNat 32 (Crc.crc32 ws)), lastAt := d.now })))

/-- OTP, keys and rollback (R440, R441, R448, R450–R453, R458, R460): a command is refused with the first reason that holds, and otherwise is
under way until it is done; burning adds the data's ones to its word and to no other; a revoked slot stays revoked; the sticky locks only set;
the report begins with the device's own words. -/
def Obligations.OtpAndKeysRun : Prop :=
  ∀ (d : Dev) (m : Master), let p := pg .secboot
    let o := pg .otp
    let job := fun (j : OtpJob) => ((d.setReg p R.SECBOOT.CMD_STATUS 1).modBoot (fun b => { b with job := j })).done
    let ojob := fun (j : OtpJob) => ((d.setReg o R.OTP.CMD_STATUS 1).modBoot (fun b => { b with job := j, jobAt := d.now })).done
    (∀ (v : BitVec 8) b, d.CanWrite m .secboot 0 R.SECBOOT.CMD →
      (d.boot.job ≠ .none → Runs (.arbAdvance m v b) d (d.setFld p F.SECBOOT.CMD_STATUS_RESULT 3).done ∧
        Runs (.revoke m v b) d (d.setFld p F.SECBOOT.CMD_STATUS_RESULT 3).done) ∧
      (d.boot.job = .none → d.canBurn b = false → Runs (.arbAdvance m v b) d (d.setFld p F.SECBOOT.CMD_STATUS_RESULT 2).done ∧
        Runs (.revoke m v b) d (d.setFld p F.SECBOOT.CMD_STATUS_RESULT 2).done) ∧
      (d.boot.job = .none → d.canBurn b = true →
        (d.fld p F.SECBOOT.IMAGE_INFO_ARB < v.toNat → Runs (.arbAdvance m v b) d (d.setFld p F.SECBOOT.CMD_STATUS_RESULT 4).done) ∧
        (v.toNat ≤ d.fld p F.SECBOOT.IMAGE_INFO_ARB → v.toNat ≤ d.arbCounter →
          Runs (.arbAdvance m v b) d (d.setFld p F.SECBOOT.CMD_STATUS_RESULT 0).done) ∧
        (v.toNat ≤ d.fld p F.SECBOOT.IMAGE_INFO_ARB → d.arbCounter < v.toNat →
          Runs (.arbAdvance m v b) d (job (.arb v.toNat))) ∧
        (4 ≤ v.toNat ∨ d.fld p F.SECBOOT.IMAGE_INFO_KEY_INDEX = v.toNat ∨ (∀ j < 4, j ≠ v.toNat → d.slotUsable j = false) →
          Runs (.revoke m v b) d (d.setFld p F.SECBOOT.CMD_STATUS_RESULT 4).done) ∧
        (v.toNat < 4 → d.slotBlank v.toNat = false → d.fld p F.SECBOOT.IMAGE_INFO_KEY_INDEX ≠ v.toNat →
          (∃ j < 4, j ≠ v.toNat ∧ d.slotUsable j = true) → Runs (.revoke m v b) d (job (.revoke v.toNat))))) ∧
    (d.CanWrite m .secboot 0 R.SECBOOT.CMD → (d.inProvisioning = true → Runs (.attest m) d (d.setFld p F.SECBOOT.CMD_STATUS_RESULT 6).done) ∧
      (d.inProvisioning = false → (∃ i < 8, d.otpCell (0x190 + i) ≠ 0) → ∃ t, Runs (.attest m) d t ∧
        (∀ i < 2, t.reg p (R.SECBOOT.ATT_REPORT + 4 * i) = d.otpCell i) ∧ t.reg p R.SECBOOT.ATTESTS = d.reg p R.SECBOOT.ATTESTS + 1 ∧
        t.fld p F.SECBOOT.CMD_STATUS_RESULT = 0 ∧ t.mem = d.mem ∧ t.keys = d.keys)) ∧
    (∀ b, d.CanWrite m .otp 0 R.OTP.CMD → let w := d.fld o F.OTP.ADDR_WORD
      (d.state ≠ 3 ∨ d.canBurn b = false → Runs (.program m b) d (d.setFld o F.OTP.CMD_STATUS_RESULT 2).done ∧
        Runs (.reburn m b) d (d.setFld o F.OTP.CMD_STATUS_RESULT 2).done) ∧
      (d.boot.job ≠ .none → Runs (.margin m) d (d.setFld o F.OTP.CMD_STATUS_RESULT 5).done ∧
        Runs (.resense m) d (d.setFld o F.OTP.CMD_STATUS_RESULT 5).done) ∧
      (d.boot.job = .none → Runs (.margin m) d (ojob (.margin (d.fld o F.OTP.ADDR_REGION))) ∧
        Runs (.resense m) d (ojob .resense)) ∧
      (d.state = 3 → d.canBurn b = true → d.boot.job = .none →
        (d.otpWriteLocked w = true → Runs (.program m b) d (d.setFld o F.OTP.CMD_STATUS_RESULT 3).done) ∧
        (d.otpWriteLocked w = false → otpReserved w = true → Runs (.program m b) d (d.setFld o F.OTP.CMD_STATUS_RESULT 6).done) ∧
        (d.otpWriteLocked w = false → otpReserved w = false →
          Runs (.program m b) d (ojob (.program w (d.reg o R.OTP.DATA))) ∧
          Runs (.reburn m b) d (ojob (.program w (d.otpShadow w)))))) ∧
    (d.busLive = true → ∀ x : OtpFacts,
      (d.boot.job = .none ∨ d.now < d.boot.jobAt + Dev.jobClocks d.boot.job x.pulses → Runs (.otpCommandDone x) d d) ∧
      (d.boot.jobAt + Dev.jobClocks d.boot.job x.pulses ≤ d.now →
      (∀ w v, d.boot.job = .program w v → v &&& x.bad = 0 → ∃ t, Runs (.otpCommandDone x) d t ∧
        t.otpCell w = d.otpCell w ||| v ∧ t.otpShadow w = t.otpCell w ∧ (∀ u, u ≠ w → t.otpCell u = d.otpCell u) ∧ t.boot.job = .none ∧
        t.reg o R.OTP.PROGRAMS = d.reg o R.OTP.PROGRAMS + 1 ∧ t.flag o F.OTP.EVENT_DONE = true ∧ t.mem = d.mem ∧ t.keys = d.keys) ∧
      (d.boot.job = .resense → x.diff = [] → ∃ t, Runs (.otpCommandDone x) d t ∧ (∀ w, t.otpShadow w = d.otpCell w) ∧
        t.boot.job = .none ∧ t.reg o R.OTP.SENSES = d.reg o R.OTP.SENSES + 1 ∧ t.boot.otp = d.boot.otp ∧ t.mem = d.mem) ∧
      (∀ n, d.boot.job = .margin n → x.weak = 0 → x.leak = 0 → ∃ t, Runs (.otpCommandDone x) d t ∧
        t.reg o R.OTP.WEAK = BitVec.ofNat 32 (x.first % 1024) ∧ t.boot.job = .none ∧ t.boot.otp = d.boot.otp ∧ t.mem = d.mem) ∧
      (∀ i < 4, d.boot.job = .revoke i → x.bad = 0 → ∃ t, Runs (.otpCommandDone x) d t ∧ t.slotRevoked i = true ∧
        (∀ j < 4, j ≠ i → t.slotRevoked j = d.slotRevoked j) ∧ t.reg p R.SECBOOT.CMD_STATUS = 0 ∧ t.boot.job = .none ∧ t.mem = d.mem))) ∧
    (∀ w, d.CanWrite m .otp 0 R.OTP.SLOCK → Runs (.slockWrite m w) d (d.setReg o R.OTP.SLOCK (d.reg o R.OTP.SLOCK ||| (w &&& 0xFFFF))).done)

/-- Sessions and debug (R444, R446, R447, R464): a challenge gives a nonce, with a response right under the key opens the session, a wrong one
blocks for 100 ms; the session's end and RELOCK free the mailboxes that were held; SUBMIT answers the first check that fails, and grants the
token's level where all hold. -/
def Obligations.SessionsAndDebugRun : Prop :=
  ∀ (d : Dev) (m : Master) (tag : BitVec 8), let p := pg .secboot
    let q := pg .debug
    let r40 : Req := ⟨.port, 0x40, tag.toNat, 0⟩
    let r41 : Req := ⟨.port, 0x41, tag.toNat, 8⟩
    let nonce := fun (i : Nat) => BitVec.ofNat 32 (bitsOf (Config.nonce d.fresh).toNat (32 * i) 32)
    let freed := fun (t : Dev) (who n : Nat) => ∀ b < n, d.mbState b ≠ 0 → d.mbHolder b = who → t.mbState b = 0 ∧ t.mbHolder b = 0 ∧
      t.flag (pg .mbox b) F.MBOX.EVENT_LOCK_EXPIRED = true
    (d.busLive = true →
      (∀ h, d.sessionsOn = false ∨ d.now < d.boot.blockUntil → Runs (.sessChallenge tag h) d (d.respond r40 5 [])) ∧
      (d.sessionsOn = true → d.boot.blockUntil ≤ d.now →
        Runs (.sessChallenge tag false) d ((d.raise .secboot 0 B.SECBOOT.SB_SESSION 0xFF).respond r40 5 []) ∧
        ∃ t, Runs (.sessChallenge tag true) d t ∧ t.flag p F.SECBOOT.SESS_STATUS_NONCE_VALID = true ∧
          (∀ i < 8, t.reg p (R.SECBOOT.SESS_NONCE + 4 * i) = nonce i) ∧ t.fresh = d.fresh + 1 ∧
          t.host.resp = some ⟨0x40, tag.toNat, 0, 0, (List.range 8).map nonce⟩ ∧ t.mem = d.mem ∧ t.keys = d.keys) ∧
      (∀ l : List Byte, (l.length ≠ 32 → Runs (.sessResponse tag l) d (d.respond r41 3 [])) ∧
        (l.length = 32 → d.flag p F.SECBOOT.SESS_STATUS_NONCE_VALID = false ∨ d.nonceOld = true ∨ d.sessionsOn = false → Runs (.sessResponse tag l) d (d.respond r41 5 [])) ∧
        (l.length = 32 → d.flag p F.SECBOOT.SESS_STATUS_NONCE_VALID = true → d.nonceOld = false → d.sessionsOn = true →
          (Dev.payloadBytes l = d.sessMac → ∃ t, Runs (.sessResponse tag l) d t ∧ t.sessionOpen = true ∧
            t.flag p F.SECBOOT.SESS_STATUS_NONCE_VALID = false ∧ t.reg p R.SECBOOT.SESSIONS = d.reg p R.SECBOOT.SESSIONS + 1 ∧
            t.host.resp = some ⟨0x41, tag.toNat, 8, 0, []⟩ ∧ t.mem = d.mem ∧ t.keys = d.keys) ∧
          (Dev.payloadBytes l ≠ d.sessMac → Runs (.sessResponse tag l) d
            (((((d.setFlag p F.SECBOOT.SESS_STATUS_NONCE_VALID false).bump p R.SECBOOT.SESS_FAILS).modBoot
              (fun b => { b with blockUntil := d.now + 40000000 })).raise .secboot 0 B.SECBOOT.SB_SESSION 1).respond r41 5 [])))) ∧
      (d.sessionOpen = false → Runs (.hostSessClose tag) d (d.respond ⟨.port, 0x42, tag.toNat, 0⟩ 0 []) ∧ Runs .sessionIdleTimeout d d) ∧
      (d.sessionOpen = true → (∃ t, Runs (.hostSessClose tag) d t ∧ t.sessionOpen = false ∧ freed t 1 4 ∧
          t.host.resp = some ⟨0x42, tag.toNat, 0, 0, []⟩ ∧ t.mem = d.mem ∧ t.keys = d.keys) ∧
        (let due := d.host.lastAt + 400000 * d.fld p F.SECBOOT.SESS_CFG_IDLE
         (due ≤ d.now → ∃ t, Runs .sessionIdleTimeout d t ∧ t.sessionOpen = false ∧ freed t 1 4 ∧ t.mem = d.mem ∧ t.keys = d.keys) ∧
         (d.now < due → Runs .sessionIdleTimeout d d))) ∧
      (d.nonceOld = true ↔ d.boot.nonceAt + 4000000000 ≤ d.now) ∧
      (d.nonceOld = true → Runs .nonceExpiry d (d.setFlag p F.SECBOOT.SESS_STATUS_NONCE_VALID false)) ∧
      (d.nonceOld = false → Runs .nonceExpiry d d)) ∧
    (d.CanWrite m .secboot 0 R.SECBOOT.CMD → ∃ t, Runs (.sessClose m) d t ∧ t.sessionOpen = false ∧
      (d.sessionOpen = true → freed t 1 4) ∧ t.fld p F.SECBOOT.CMD_STATUS_RESULT = 0 ∧ t.mem = d.mem ∧ t.keys = d.keys) ∧
    (d.CanWrite m .debug 0 R.DEBUG.DBG_CMD →
      (∃ t, Runs (.challenge m) d t ∧ t.flag q F.DEBUG.DBG_STATUS_NONCE_VALID = true ∧ (∀ i < 8, t.reg q (R.DEBUG.NONCE + 4 * i) = nonce i) ∧
        t.fresh = d.fresh + 1 ∧ t.mem = d.mem ∧ t.keys = d.keys) ∧
      (let c := d.tokenCode d.tokenBytes
        let e := (d.setFld q F.DEBUG.DBG_STATUS_RESULT c).setFlag q F.DEBUG.DBG_STATUS_NONCE_VALID false
        (c = 0 → Runs (.submit m) d (((e.setFld q F.DEBUG.DBG_STATUS_LEVEL (le d.tokenBytes 4 1)).bump q R.DEBUG.UNLOCKS).event q
          F.DEBUG.EVENT_UNLOCKED).done) ∧
        (c ≠ 0 → Runs (.submit m) d (((e.bump q R.DEBUG.UNLOCK_FAILS).event q F.DEBUG.EVENT_REFUSED_TOKEN).raise .debug 0
          B.DEBUG.DBG_TOKEN c).done)) ∧
      (d.state = 4 → d.tokenCode d.tokenBytes ≠ 0) ∧
      (∃ t, Runs (.relock m) d t ∧ t.debugLevel = 0 ∧ freed t 4 8 ∧ t.mem = d.mem ∧ t.keys = d.keys))

/-- A pair's instructions (R454, R465–R467, R481; the instructions' own effects from the RISC-V specifications, log entry 13): a pair that does not
execute does nothing; a JUMP patch moves the pc; a fetch fault and an illegal word trap; an integer instruction changes its register, the pc and the
count of instructions, and nothing else; a word load and a word store reach memory; a trap saves the pc and the status and goes to mtvec, MRET
returns; WFI rests, an edge restarts, and a difference between the cores stops the pair. -/
def Obligations.CoreInstructionsRun : Prop :=
  ∀ (d : Dev) (i : Pair) (ff df : Flaw) (bit : Fin 72), let n := Dev.pairNo i
    let c := d.coreS n
    let z : Dev := { d with bus := .none }
    let only := fun (e t : Dev) => t.coreS (1 - n) = e.coreS (1 - n) ∧ t.regs = e.regs ∧ t.mem = e.mem ∧ t.keys = e.keys ∧ t.bus = e.bus ∧
      (t.coreS n).f = (e.coreS n).f ∧ (t.coreS n).mach = (e.coreS n).mach ∧ (t.coreS n).mstatus = (e.coreS n).mstatus ∧
      (t.coreS n).mepc = (e.coreS n).mepc ∧ (t.coreS n).mcause = (e.coreS n).mcause ∧ (t.coreS n).mtval = (e.coreS n).mtval
    let sets := fun (e t : Dev) (rd : Nat) (v pc : Word) => (t.coreS n).pc = pc ∧ (rd ≠ 0 → (t.coreS n).xr rd = v) ∧
      (∀ r, r ≠ rd → (t.coreS n).xr r = (e.coreS n).xr r) ∧ (t.coreS n).xr 0 = 0
    let traps := fun (e t : Dev) (cause : Word) => (t.coreS n).pc = BitVec.ofNat 32 (e.coreS n).mtvec ∧ (t.coreS n).mepc = (e.coreS n).pc.toNat ∧
      (t.coreS n).mcause = cause ∧ (t.coreS n).mach = true ∧ bitAt (t.coreS n).mstatus 3 = false ∧
      bitAt (t.coreS n).mstatus 7 = bitAt (e.coreS n).mstatus 3 ∧ bitsOf (t.coreS n).mstatus 11 2 = (if (e.coreS n).mach then 3 else 0) ∧
      (t.coreS n).x = (e.coreS n).x ∧ t.coreS (1 - n) = e.coreS (1 - n) ∧ t.regs = e.regs ∧ t.mem = e.mem ∧ t.keys = e.keys
    (d.pairExecutes n = false → Runs (.coreInstruction i ff df bit) d d ∧ Runs (.wfi i) d d) ∧
    (d.pairExecutes n = true →
      (∀ b e lo, z.romJump c.pc.toNat = some b →
        (z.fetchHalf n c.pc.toNat .clean 0 = (e, some lo) → Runs (.coreInstruction i ff df bit) d
          ((z.bump (pg .rompatch) R.ROMPATCH.HITS).modCore n (fun c => { c with pc := b }))) ∧
        (z.fetchHalf n c.pc.toNat .clean 0 = (e, none) → Runs (.coreInstruction i ff df bit) d (e.coreTrap n 1 c.pc.toNat)) ∧
        Runs (.wfi i) d d) ∧
      (z.romJump c.pc.toNat = none →
        (∀ e a, z.fetch n ff bit.val = (e, .error a) → Runs (.coreInstruction i ff df bit) d (e.coreTrap n 1 a)) ∧
        (∀ e len raw, z.fetch n ff bit.val = (e, .ok (len, raw, none)) → Runs (.coreInstruction i ff df bit) d (e.coreTrap n 2 raw)) ∧
        (∀ e len raw ins, z.fetch n ff bit.val = (e, .ok (len, raw, some ins)) →
          Runs (.coreInstruction i ff df bit) d (e.execRv n ins raw (c.pc + BitVec.ofNat 32 len) df bit.val)) ∧
        (∀ x len raw, d.fetch n .clean 0 = (x, .ok (len, raw, some .wfi)) → Runs (.wfi i) d (d.coreInstruction n .clean .clean 0)) ∧
        (∀ x len raw, d.fetch n .clean 0 = (x, .ok (len, raw, none)) → Runs (.wfi i) d d))) ∧
    (∀ (e : Dev) (o : Alu) (rd r1 r2 raw : Nat) (imm : Int) (pc : Word), rd < 32 → let k := e.coreS n
      (let t := e.execRv n (.op o rd r1 r2) raw pc df bit.val; sets e t rd (o.eval (k.xr r1) (k.xr r2)) pc ∧ only e t) ∧
      (let t := e.execRv n (.opImm o rd r1 imm) raw pc df bit.val; sets e t rd (o.eval (k.xr r1) (BitVec.ofInt 32 imm)) pc ∧ only e t) ∧
      (let t := e.execRv n (.lui rd raw) raw pc df bit.val; sets e t rd (BitVec.ofNat 32 raw) pc ∧ only e t) ∧
      (let t := e.execRv n (.jal rd imm) raw pc df bit.val; sets e t rd pc (k.pc + BitVec.ofInt 32 imm) ∧ only e t)) ∧
    (∀ (e : Dev) (b : Br) (r1 r2 raw : Nat) (off : Int) (pc : Word), let k := e.coreS n
      let t := e.execRv n (.branch b r1 r2 off) raw pc df bit.val
      (t.coreS n).pc = (if b.taken (k.xr r1) (k.xr r2) then k.pc + BitVec.ofInt 32 off else pc) ∧ (t.coreS n).x = k.x ∧ only e t) ∧
    (∀ (e : Dev) (rd rs raw : Nat) (off : Int) (pc : Word), let k := e.coreS n
      let a := (k.xr rs + BitVec.ofInt 32 off).toNat
      (a % 4 ≠ 0 → traps e (e.execRv n (.load 4 true rd rs off) raw pc df bit.val) 4#32 ∧
        traps e (e.execRv n (.store 4 rs rd off) raw pc df bit.val) 6#32) ∧
      (a % 4 = 0 → e.busLive = true → regionOf a 4 = some .sram →
        (rd < 32 → k.pmpOk (Dev.dataMode k) a 4 1 = true → e.memAllowed (pairMaster n) a 4 false = true → let t := e.execRv n (.load 4 true rd rs off) raw pc .clean bit.val
          sets e t rd (Mem.word e.mem a) pc ∧ t.mem = e.mem ∧ t.regs = e.regs ∧ t.keys = e.keys) ∧
        (k.pmpOk (Dev.dataMode k) a 4 2 = true → e.memAllowed (pairMaster n) a 4 true = true → let t := e.execRv n (.store 4 rs rd off) raw pc df bit.val
          (t.coreS n).pc = pc ∧ (t.coreS n).x = k.x ∧ Mem.word t.mem a = k.xr rd ∧ (∀ b, b < a ∨ a + 4 ≤ b → Mem.byte t.mem b = Mem.byte e.mem b) ∧
          t.regs = e.regs ∧ t.keys = e.keys))) ∧
    (∀ (e : Dev) (raw : Nat) (pc : Word), traps e (e.execRv n .ebreak raw pc df bit.val) 3#32 ∧
      traps e (e.execRv n .ecall raw pc df bit.val) (if (e.coreS n).mach then 11#32 else 8#32) ∧
      (∀ cause tval, traps e (e.coreTrap n cause tval) (BitVec.ofNat 32 cause)) ∧
      ((e.coreS n).mach = false → traps e (e.execRv n .mret raw pc df bit.val) 2#32) ∧
      ((e.coreS n).mach = true → let t := e.execRv n .mret raw pc df bit.val
        (t.coreS n).pc = BitVec.ofNat 32 (e.coreS n).mepc ∧ (t.coreS n).mach = (bitsOf (e.coreS n).mstatus 11 2 == 3) ∧
        bitAt (t.coreS n).mstatus 3 = bitAt (e.coreS n).mstatus 7 ∧ bitAt (t.coreS n).mstatus 7 = true ∧ bitsOf (t.coreS n).mstatus 11 2 = 0 ∧
        (t.coreS n).x = (e.coreS n).x ∧ t.mem = e.mem ∧ t.regs = e.regs)) ∧
    (d.busLive = true → d.pairStatus n = 2 → Runs (.wfiWake i) d ((d.setPair n 1).bump (pg .intc n) R.INTC.WAKES)) ∧
    (d.pairStatus n ≠ 2 → Runs (.wfiWake i) d d) ∧
    (d.pairStatus n = 0 ∨ d.pairStopped n = true → Runs (.lockstepMismatch i) d d) ∧
    (d.busLive = true → d.pairStatus n ≠ 0 → d.pairStopped n = false → Runs (.lockstepMismatch i) d
      (((d.setFlag (pg .sys) ⟨R.SYS.PAIR_STATUS, 4 + n, 1⟩ true).mbOrphan (n + 2) (List.range 8)).raiseLevel .sys 0
        (if n = 0 then B.SYS.CORE_LOCK_CTRL else B.SYS.CORE_LOCK_SVC)))

/-- Memory protection, secure configuration and debug of a pair (R468, R469, R471, R473–R476): a clean read answers the word, a single error is
corrected, counted and recorded, a double one faults; a byte or halfword store changes its own bytes and is not made over an uncorrectable error;
a scrub pass counts; SEC_CFG hears secure masters, and SECURE only clears; halt, step, resume and register access act for debug on a pair in the
state they name. -/
def Obligations.MemoriesAndPairDebugRun : Prop :=
  ∀ (d : Dev) (m : Master) (i : Pair) (a w : Word) (half : Bool) (flaw ff : Flaw) (bit : Fin 39) (sbit : Fin 72), let s := pg .sys
    let n := Dev.pairNo i
    let sz := if half then 2 else 1
    let A := a.toNat
    (d.busLive = false → (∀ r, Runs (.memoryRead r a flaw bit) d d) ∧ Runs (.subwordStore m a half w flaw bit) d d) ∧
    (d.busLive = true → Dev.memNo A = none → (∀ r, Runs (.memoryRead r a flaw bit) d d) ∧ Runs (.subwordStore m a half w flaw bit) d (d.busFault m)) ∧
    (∀ k, d.busLive = true → Dev.memNo A = some k →
      (A % 4 = 0 → d.memAllowed m A 4 false = true →
        Runs (.memoryRead (.master m) a .clean bit) d { d with bus := .data (Mem.word d.mem A) } ∧
        (d.fld s F.SYS.ECC_CFG_SCRUB = 0 → ∃ t, Runs (.memoryRead (.master m) a .single bit) d t ∧ t.bus = .data (Mem.word d.mem A) ∧ t.mem = d.mem ∧
          t.keys = d.keys ∧ t.state = d.state ∧ t.reg s (R.SYS.CORR_TCM + 4 * k) = d.reg s (R.SYS.CORR_TCM + 4 * k) + 1 ∧
          t.reg s R.SYS.ECC_LAST = BitVec.ofNat 32 A ∧ t.reg s R.SYS.ECC_LAST_INFO = BitVec.ofNat 32 (k + 16 * bit.val + 4096 * m.cls)) ∧
        Runs (.memoryRead (.master m) a .double bit) d { d.eccFail k A m.cls false with bus := .fault }) ∧
      (¬(A % 4 = 0 ∧ d.memAllowed m A 4 false = true) → Runs (.memoryRead (.master m) a flaw bit) d (d.busFault m)) ∧
      (∀ r : Fin 96, (d.memSecure A = true → Runs (.memoryRead (.ring r) a flaw bit) d ((d.busErr 5).raise .ring r B.RING.RING_BUS A)) ∧
        (d.memSecure A = false → Runs (.memoryRead (.ring r) a .clean bit) d d ∧
          Runs (.memoryRead (.ring r) a .double bit) d ((d.eccFail k A 5 false).raise .ring r B.RING.RING_BUS A))) ∧
      (A % sz = 0 → d.memAllowed m A sz true = true →
        (∃ t, Runs (.subwordStore m a half w .clean bit) d t ∧ t.bus = .done ∧ t.regs = d.regs ∧ t.keys = d.keys ∧
          (∀ j < sz, Mem.byte t.mem (A + j) = BitVec.ofNat 8 (w.toNat / 256 ^ j)) ∧ ∀ b, b < A ∨ A + sz ≤ b → Mem.byte t.mem b = Mem.byte d.mem b) ∧
        Runs (.subwordStore m a half w .double bit) d { d.eccFail k A m.cls false with bus := .fault }) ∧
      (¬(A % sz = 0 ∧ d.memAllowed m A sz true = true) → Runs (.subwordStore m a half w flaw bit) d (d.busFault m))) ∧
    (d.busLive = false ∨ d.fld s F.SYS.ECC_CFG_SCRUB = 0 ∨ d.now < d.comp.scrubAt + 400000000 * d.fld s F.SYS.ECC_CFG_SCRUB → ∀ l, Runs (.scrubPass l) d d) ∧
    (d.busLive = true → d.fld s F.SYS.ECC_CFG_SCRUB ≠ 0 → d.comp.scrubAt + 400000000 * d.fld s F.SYS.ECC_CFG_SCRUB ≤ d.now →
      let z := fun (e : Dev) => ({ e with comp := { e.comp with corr := Vector.replicate 3 0, scrubAt := d.now } } : Dev).bump s R.SYS.SCRUB_PASSES
      Runs (.scrubPass []) d (z d) ∧
      ∀ (x : ScrubError) k, Dev.memNo x.addr.toNat = some k →
        Runs (.scrubPass [x]) d (z (if x.double then d.eccFail k x.addr.toNat 0xF true else d.eccCorrect k x.addr.toNat 0xF x.bit true))) ∧
    (∀ g : Fin 16, d.busLive = true →
      Runs (.memoryClearDone g) d { d with comp := { d.comp with clearDue := d.comp.clearDue.filter (fun x => x != g.val) } }) ∧
    (d.CanWrite m .sys 0 R.SYS.SEC_CFG →
      (d.secure m = false → Runs (.secCfgWrite m w) d (d.refuse m s R.SYS.SEC_CFG).done) ∧
      (d.secure m = true → ∃ t, Runs (.secCfgWrite m w) d t ∧
        t.flag s F.SYS.SEC_CFG_CTRL_SECURE = (d.flag s F.SYS.SEC_CFG_CTRL_SECURE && bitAt w.toNat 0) ∧
        t.flag s F.SYS.SEC_CFG_SVC_SECURE = (d.flag s F.SYS.SEC_CFG_SVC_SECURE && bitAt w.toNat 1) ∧
        t.flag s F.SYS.SEC_CFG_TCM_SEC = (if d.lockSet s then d.flag s F.SYS.SEC_CFG_TCM_SEC else bitAt w.toNat 2) ∧ t.mem = d.mem ∧ t.keys = d.keys)) ∧
    (d.CanWrite m .sys 0 R.SYS.PAIR_CTRL → let may := m = .debug ∧ 1 ≤ d.debugLevel
      (¬may → Runs (.pairHalt m i) d d.done ∧ Runs (.pairStep m i ff flaw sbit) d d.done ∧ Runs (.pairResume m i) d d.done) ∧
      (d.state = 4 → Runs (.pairHalt m i) d d.done ∧ Runs (.pairStep m i ff flaw sbit) d d.done) ∧
      (may → d.state ≠ 4 → d.pairStopped n = false → d.pairStatus n = 1 ∨ d.pairStatus n = 2 → Runs (.pairHalt m i) d (d.setPair n 3).done) ∧
      (may → d.state ≠ 4 → d.pairStopped n = false → d.pairStatus n = 3 → d.bootState = 6 →
        Runs (.pairStep m i ff flaw sbit) d (d.done.coreInstruction n ff flaw sbit.val)) ∧
      (may → d.pairStatus n = 3 → Runs (.pairResume m i) d (d.setPair n 1).done) ∧
      (d.pairStatus n ≠ 3 → Runs (.pairResume m i) d d.done ∧ Runs (.pairStep m i ff flaw sbit) d d.done)) ∧
    (let p := d.fld s F.SYS.PAIR_REG_SEL_PAIR
     let x := d.fld s F.SYS.PAIR_REG_SEL_INDEX
     let may := m = .debug ∧ 1 ≤ d.debugLevel ∧ d.pairStatus p = 3
     (d.CanWrite m .sys 0 R.SYS.PAIR_REG_DATA →
       (¬may ∨ d.flag s F.SYS.PAIR_REG_SEL_WRITE = false → Runs (.pairRegAccess m true w) d d.done) ∧
       (may → d.flag s F.SYS.PAIR_REG_SEL_WRITE = true → d.fld s F.SYS.PAIR_REG_SEL_SPACE = 0 → x < 32 →
         Runs (.pairRegAccess m true w) d ((d.setReg s R.SYS.PAIR_REG_DATA w).modCore p (fun c => c.setX x w)).done) ∧
       (may → d.flag s F.SYS.PAIR_REG_SEL_WRITE = true → d.fld s F.SYS.PAIR_REG_SEL_SPACE = 3 → Runs (.pairRegAccess m true w) d
         ((d.setReg s R.SYS.PAIR_REG_DATA w).modCore p (fun c => { c with pc := BitVec.ofNat 32 (w.toNat / 2 * 2) })).done)) ∧
     (d.CanRead m .sys 0 R.SYS.PAIR_REG_DATA → may → d.flag s F.SYS.PAIR_REG_SEL_WRITE = false →
       (d.fld s F.SYS.PAIR_REG_SEL_SPACE = 0 → x < 32 → let v := (d.coreS p).xr x
         Runs (.pairRegAccess m false w) d { d.setReg s R.SYS.PAIR_REG_DATA v with bus := .data v }) ∧
       (d.fld s F.SYS.PAIR_REG_SEL_SPACE = 3 → let v := (d.coreS p).pc
         Runs (.pairRegAccess m false w) d { d.setReg s R.SYS.PAIR_REG_DATA v with bus := .data v })))

/-- Interrupts and mailboxes (R477–R480, R482, R483, R485, R486): an edge sets PENDING or counts as lost; the winner of highest PRIO and lowest
number is delivered to a pair that may take it; EOI ends the newest, an older one or none; a mailbox is taken, filled, sent, emptied and released by
the masters that its state names, and refuses all others. -/
def Obligations.InterruptsAndMailboxesRun : Prop :=
  ∀ (d : Dev) (m : Master), d.busLive = true →
    (∀ (i : Fin 2) (s : Fin 256), let p := pg .intc i
      let busy := d.intPending i s = true ∨ d.intActive i s = true
      (d.intLine i s = false ∨ d.prio i s = 0 ∨ Dev.intSource s = false → Runs (.interruptEdge i s) d d) ∧
      (d.intLine i s = true → d.prio i s ≠ 0 → Dev.intSource s = true → ¬busy → Runs (.interruptEdge i s) d (d.setPend i s true)) ∧
      (d.intLine i s = true → d.prio i s ≠ 0 → Dev.intSource s = true → busy → ∃ t, Runs (.interruptEdge i s) d t ∧
        t.reg p R.INTC.LOST_TOTAL = d.reg p R.INTC.LOST_TOTAL + 1 ∧ (let f : Fld := ⟨R.INTC.LOST + 4 * (s.val / 4), 8 * (s.val % 4), 8⟩
          t.fld p f = min 255 (d.fld p f + 1)) ∧ t.intPending i s = d.intPending i s ∧ t.mem = d.mem ∧ t.keys = d.keys) ∧
      (∀ on, (d.setPend i s on).intPending i s = on ∧ ∀ s' : Fin 256, s' ≠ s → (d.setPend i s on).intPending i s' = d.intPending i s')) ∧
    (∀ i : Fin 2, let p := pg .intc i
      (d.intReady i = none → Runs (.interruptDelivery i) d d) ∧
      (∀ s, d.intReady i = some s → s < 256 ∧ d.intPending i s = true ∧ d.fld p F.INTC.LEVEL_LEVEL < d.prio i s ∧
        d.fld p F.INTC.THRESH_THRESH < d.prio i s ∧
        (∀ s' < 256, d.intPending i s' = true → d.prio i s' < d.prio i s ∨ d.prio i s' = d.prio i s ∧ s ≤ s') ∧
        (let c := d.coreS i
         let takes := d.pairRuns i = true ∧ (c.mach = false ∨ bitAt c.mstatus 3 = true) ∧ bitAt c.mie 11 = true
         (¬takes → Runs (.interruptDelivery i) d d) ∧
         (takes → ∃ t, Runs (.interruptDelivery i) d t ∧ t.intPending i s = false ∧ t.intActive i s = true ∧ t.intStack i = s :: d.intStack i ∧
           t.reg p R.INTC.LEVEL = BitVec.ofNat 32 (d.prio i s + 16 * ((d.intStack i).length + 1) + 256 * s) ∧
           t.reg p R.INTC.DELIVERED = d.reg p R.INTC.DELIVERED + 1 ∧ (t.coreS i).pc = d.reg p (R.INTC.VECTOR + 4 * s) ∧
           (t.coreS i).mepc = c.pc.toNat ∧ (t.coreS i).mcause = 0x8000000B#32 ∧ (t.coreS i).mintsrc = s ∧ (t.coreS i).mach = true ∧
           bitAt (t.coreS i).mstatus 3 = false ∧ t.mem = d.mem ∧ t.keys = d.keys))) ∧
      (let due := vget d.comp.tickAt i.val 0 + 400 * d.fld p F.INTC.TICK_PERIOD
       (d.fld p F.INTC.TICK_PERIOD = 0 ∨ d.now < due → Runs (.tick i) d d) ∧
       (d.fld p F.INTC.TICK_PERIOD ≠ 0 → due ≤ d.now → Runs (.tick i) d ((d.setTick i due).intEdge i 0xF0)))) ∧
    (∀ (i : Fin 2) (s : Fin 256), let p := pg .intc i
      (d.CanWrite m .intc i R.INTC.EOI →
        (d.intActive i s = false → Runs (.eoi m i s) d (d.event p F.INTC.EVENT_EOI_BAD).done) ∧
        (d.intActive i s = true → (d.intStack i).head? = some s.val → ∃ t, Runs (.eoi m i s) d t ∧ t.intActive i s = false ∧
          t.intStack i = (d.intStack i).tail ∧ (d.intLine i s = true → d.prio i s ≠ 0 → t.intPending i s = true) ∧
          (d.prio i s = 0 → t.intPending i s = d.intPending i s) ∧ t.mem = d.mem ∧ t.keys = d.keys) ∧
        (d.intActive i s = true → (d.intStack i).head? ≠ some s.val → Runs (.eoi m i s) d
          (((d.setStack i ((d.intStack i).filter (fun x => x != s.val))).raise .intc i B.INTC.INTC_ORDER s).intComplete i s).done)) ∧
      (d.CanWrite m .intc i R.INTC.CLR_PEND → Runs (.clrPend m i s) d (d.setPend i s false).done) ∧
      (d.CanWrite m .intc i R.INTC.SWI → Runs (.swi m i 0) d d.done ∧
        ∀ b : Fin 16, Runs (.swi m i (BitVec.ofNat 16 (2 ^ b.val))) d (d.intEdge i (0xE0 + b.val)).done) ∧
      (∀ (k : Fin 32) w, d.CanWrite m .intc i (R.INTC.PRIO + 4 * k.val) → ∃ t, Runs (.prioWrite m i k w) d t ∧ t.mem = d.mem ∧ t.keys = d.keys ∧
        t.intStack i = d.intStack i ∧ ∀ j < 8, let q := 8 * k.val + j
          let v := bitsOf w.toNat (4 * j) 4
          (v ≠ 0 → d.reg p (R.INTC.VECTOR + 4 * q) = 0 → t.prio i q = d.prio i q ∧ t.flag p F.INTC.EVENT_RANGE = true) ∧
          (v = 0 ∨ d.reg p (R.INTC.VECTOR + 4 * q) ≠ 0 → t.prio i q = v) ∧
          (v ≠ 0 → d.reg p (R.INTC.VECTOR + 4 * q) ≠ 0 → d.intLine i q = true → d.intActive i q = false → t.intPending i q = true))) ∧
    (∀ n : Fin 8, let p := pg .mbox n
      let mine := d.mbHolder n = m.cls
      (d.CanRead m .mbox n R.MBOX.LOCK →
        (d.flag p F.HDR.CTRL_ENABLE = false → Runs (.lockRead m n) d { d with bus := .data 0xF#32 }) ∧
        (d.flag p F.HDR.CTRL_ENABLE = true →
          (d.mbState n = 0 → ∃ t, Runs (.lockRead m n) d t ∧ t.bus = .data 0#32 ∧ t.mbState n = 1 ∧ t.mbHolder n = m.cls ∧ t.mem = d.mem ∧ t.keys = d.keys) ∧
          (d.mbState n ≠ 0 → mine → Runs (.lockRead m n) d { d with bus := .data 0#32 }) ∧
          (d.mbState n ≠ 0 → ¬mine → Runs (.lockRead m n) d { d.bump p R.MBOX.DENIED with bus := .data (BitVec.ofNat 32 (d.mbHolder n)) }))) ∧
      (d.CanWrite m .mbox n R.MBOX.LOCK →
        (d.mbState n = 1 → mine → ∃ t, Runs (.lockRelease m n) d t ∧ t.mbState n = 0 ∧ t.mbHolder n = 0 ∧ t.fld p F.MBOX.STATE_LAST_HOLDER = m.cls ∧
          (∀ k < 16, t.reg p (R.MBOX.MSG + 4 * k) = 0) ∧ t.mem = d.mem ∧ t.keys = d.keys) ∧
        (¬(d.mbState n = 1 ∧ mine) → Runs (.lockRelease m n) d (d.refuse m p R.MBOX.LOCK).done)) ∧
      (∀ (k : Fin 16) w, d.CanWrite m .mbox n (R.MBOX.MSG + 4 * k.val) →
        (d.mbState n = 1 → mine → Runs (.msgWrite m n k w) d (d.setReg p (R.MBOX.MSG + 4 * k.val) w).done) ∧
        (¬(d.mbState n = 1 ∧ mine) → Runs (.msgWrite m n k w) d (d.refuse m p (R.MBOX.MSG + 4 * k.val)).done)) ∧
      (∀ w, d.CanWrite m .mbox n R.MBOX.DB_SET →
        (d.mbState n = 1 ∨ d.mbState n = 2 → mine → ∃ t, Runs (.dbSet m n w) d t ∧ t.mbState n = 2 ∧ t.mbHolder n = m.cls ∧
          t.reg p R.MBOX.DOORBELL = d.reg p R.MBOX.DOORBELL ||| w ∧
          t.flag p F.MBOX.EVENT_DOORBELL = ((d.reg p R.MBOX.DOORBELL ||| w) &&& d.reg p R.MBOX.DB_MASK != 0) ∧
          t.reg p R.MBOX.SENDS = (if d.mbState n = 1 then d.reg p R.MBOX.SENDS + 1 else d.reg p R.MBOX.SENDS) ∧ t.mem = d.mem ∧ t.keys = d.keys) ∧
        (¬((d.mbState n = 1 ∨ d.mbState n = 2) ∧ mine) → Runs (.dbSet m n w) d (d.refuse m p R.MBOX.DB_SET).done)) ∧
      (d.CanWrite m .mbox n R.MBOX.DONE →
        (d.mbState n = 2 → ¬mine → ∃ t, Runs (.done m n) d t ∧ t.mbState n = 0 ∧ t.mbHolder n = 0 ∧
          t.fld p F.MBOX.STATE_LAST_HOLDER = d.mbHolder n ∧ t.reg p R.MBOX.DOORBELL = 0 ∧ t.flag p F.MBOX.EVENT_DOORBELL = false ∧
          t.flag p F.MBOX.EVENT_EMPTIED = true ∧ t.reg p R.MBOX.EMPTIES = d.reg p R.MBOX.EMPTIES + 1 ∧ (∀ k < 16, t.reg p (R.MBOX.MSG + 4 * k) = 0) ∧
          t.mem = d.mem ∧ t.keys = d.keys) ∧
        (¬(d.mbState n = 2 ∧ ¬mine) → Runs (.done m n) d (d.refuse m p R.MBOX.DONE).done)) ∧
      (let due := vget d.comp.lockAt n.val 0 + 400000 * d.fld p F.MBOX.CFG_TIMEOUT
       (¬(d.mbState n = 1 ∧ d.fld p F.MBOX.CFG_TIMEOUT ≠ 0 ∧ due ≤ d.now) → Runs (.lockTimeout n) d d) ∧
       (d.mbState n = 1 → d.fld p F.MBOX.CFG_TIMEOUT ≠ 0 → due ≤ d.now →
        Runs (.lockTimeout n) d ((((d.mbFree n).event p F.MBOX.EVENT_LOCK_EXPIRED).bump p R.MBOX.EXPIRIES).raise .mbox n B.MBOX.MBOX_LOCK (d.mbHolder n)))))

/-- The parameter store (R496, R498–R501, R503–R509): a command is answered with the first reason that refuses it, and otherwise is BUSY and the one
job; a plain write that holds puts its bytes and no other; a slot write goes to the slot after the newest with the next SEQ; a ring is enabled only
where its area is aligned, inside and free, and its scan sets NEWEST and VALID; a slot read copies the newest slot; a read of the window answers,
corrects, faults, or waits for the job that writes there. -/
def Obligations.StoreCommandsRun : Prop :=
  ∀ (d : Dev) (m : Master), let p := pg .mram
    let x := (d.reg p R.MRAM.ADDR m.cls).toNat
    let n := (d.reg p R.MRAM.LEN m.cls).toNat
    let result := fun (t : Dev) (w : Master) => bitsOf (t.reg p R.MRAM.CMD_STATUS w.cls).toNat 4 4
    let busy := fun (t : Dev) (w : Master) => bitAt (t.reg p R.MRAM.CMD_STATUS w.cls).toNat 0
    let answers := fun (c : Instr) (r : Nat) => Runs c d (d.mramResult m r).done
    let starts := fun (c : Instr) (j : MramJob) => ∃ t, Runs c d t ∧ t.mram.job = j ∧ t.flag p F.MRAM.STATUS_JOB = true ∧ busy t m = true ∧
      result t m = 0 ∧ t.mem = d.mem ∧ t.keys = d.keys
    (d.CanWrite m .mram 0 R.MRAM.CMD →
      (d.mram.job ≠ .none → answers (.mramWrite m) 2 ∧ ∀ r, answers (.srWrite m r) 2 ∧ answers (.srRead m r) 2 ∧ answers (.srRescan m r) 2) ∧
      (d.mram.job = .none →
        (let bad := x % 4 ≠ 0 ∨ n % 4 ≠ 0 ∨ n < 4 ∨ 256 < n ∨ 0x40000 < x + n
         let inRing := ∃ r < 16, d.srOn r = true ∧ Dev.areasMeet (x, n) (d.srArea r) = true
         (bad → answers (.mramWrite m) 3) ∧ (¬bad → d.mramProtected x n = true → answers (.mramWrite m) 4) ∧
         (¬bad → d.mramProtected x n = false → inRing → answers (.mramWrite m) 9) ∧
         (¬bad → d.mramProtected x n = false → ¬inRing → starts (.mramWrite m) (.write m x (d.bufBytes m n)))) ∧
        (∀ r : Fin 16, (d.srOn r = false → answers (.srWrite m r) 6 ∧ answers (.srRead m r) 6 ∧ answers (.srRescan m r) 6) ∧
          (d.srOn r = true → starts (.srRead m r) (.srRead m r) ∧ starts (.srRescan m r) (.rescan m r) ∧
            (let empty := d.flag p (F.MRAM.SR_STATUS_EMPTY.at r)
             let t := if empty then 0 else (d.fld p (F.MRAM.SR_STATUS_NEWEST.at r) + 1) % d.slotCount r
             let s := if empty then 1 else ((d.reg p (R.MRAM.SR_NSEQ + 4 * r.val)).toNat + 1) % 4294967296
             (d.mramProtected (d.slotOfs r t) (d.slotSize r) = true → answers (.srWrite m r) 4) ∧
             (d.mramProtected (d.slotOfs r t) (d.slotSize r) = false →
               starts (.srWrite m r) (.srWrite m r t s (slotImage r s (d.bufBytes m (d.slotSize r - 8))))))))) ∧
      (∀ ring seq l, ring < 256 → slotHolds ring (slotImage ring seq l) = true)) ∧
    (∀ (r : Fin 16) (w : Word), d.CanWrite m .mram 0 (R.MRAM.SR_CFG + 4 * r.val) → let old := d.reg p (R.MRAM.SR_CFG + 4 * r.val)
      (d.srOn r = true → bitsOf w.toNat 4 14 = bitsOf old.toNat 4 14 → bitsOf w.toNat 20 12 = bitsOf old.toNat 20 12 → Runs (.srEnable m r w) d d.done) ∧
      (d.srOn r = true → ¬(bitsOf w.toNat 4 14 = bitsOf old.toNat 4 14 ∧ bitsOf w.toNat 20 12 = bitsOf old.toNat 20 12) →
        Runs (.srEnable m r w) d (d.refuse m p (R.MRAM.SR_CFG + 4 * r.val)).done) ∧
      (d.srOn r = false → 4 ≤ bitsOf w.toNat 20 4 → bitsOf w.toNat 20 4 ≤ 8 → 1 ≤ bitsOf w.toNat 24 8 → ∃ t, Runs (.srEnable m r w) d t ∧
        t.mem = d.mem ∧ t.keys = d.keys ∧
        t.srArea r = (16 * bitsOf w.toNat 4 14, (bitsOf w.toNat 24 8 + 1) * 2 ^ bitsOf w.toNat 20 4) ∧ t.srOn r = t.srConfigOk r ∧
        (t.srConfigOk r = false → t.flag p F.MRAM.EVENT_CFG_BAD = true ∧ t.mram = d.mram) ∧
        (t.srConfigOk r = true → d.mram.job = .none → t.mram.job = .scan r ∧ t.flag p (F.MRAM.SR_STATUS_SCANNING.at r) = true) ∧
        (t.srConfigOk r = true → d.mram.job ≠ .none → t.mram = { d.mram with scanQ := d.mram.scanQ ++ [r.val] }))) ∧
    (d.now < d.mram.jobAt + d.mramClocks → (∀ ue, Runs (.srScanDone ue) d d) ∧ ∀ f, Runs (.mramCommandDone f) d d) ∧
    (d.busLive = true → d.mram.jobAt + d.mramClocks ≤ d.now →
      (∀ q < 16, d.mram.job = .scan q → d.mram.scanQ = [] → let good := (List.range (d.slotCount q)).filter (fun t => d.slotValid q t [])
        ∃ t, Runs (.srScanDone []) d t ∧ t.mem = d.mem ∧ t.keys = d.keys ∧ t.mram.job = .none ∧
          t.flag p (F.MRAM.SR_STATUS_SCANNING.at q) = false ∧ t.flag p F.MRAM.EVENT_SR_SCANNED = true ∧
          t.fld p (F.MRAM.SR_STATUS_VALID.at q) = good.length ∧ t.flag p (F.MRAM.SR_STATUS_EMPTY.at q) = good.isEmpty ∧
          (∀ b, d.newestSlot q good = some b → b ∈ good ∧ t.fld p (F.MRAM.SR_STATUS_NEWEST.at q) = b ∧
            t.reg p (R.MRAM.SR_NSEQ + 4 * q) = BitVec.ofNat 32 (d.slotSeq q b))) ∧
      ((∀ q, d.mram.job ≠ .scan q) → (∀ w q, d.mram.job ≠ .rescan w q) → ∀ ue, Runs (.srScanDone ue) d d) ∧
      ((d.mram.job = .none ∨ ∃ q, d.mram.job = .scan q) → ∀ f, Runs (.mramCommandDone f) d d) ∧
      (d.mram.scanQ = [] → d.mram.stalled = [] → ∀ f : MramFacts, f.bad = none →
        (∀ w y l, d.mram.job = .write w y l → l.length ≤ 256 → ∃ t, Runs (.mramCommandDone f) d t ∧
          (∀ j < l.length, Mem.byte t.mem (mramBase + y + j) = BitVec.ofNat 8 (l.getD j 0)) ∧
          (∀ a, a < mramBase + y ∨ mramBase + y + l.length ≤ a → Mem.byte t.mem a = Mem.byte d.mem a) ∧ t.keys = d.keys ∧ busy t w = false ∧
          result t w = 0 ∧ t.mram.job = .none ∧ t.flag p F.MRAM.EVENT_DONE = true ∧ t.reg p R.MRAM.COMMANDS = d.reg p R.MRAM.COMMANDS + 1) ∧
        (∀ w q, q < 16 → d.mram.job = .srRead w q → d.flag p (F.MRAM.SR_STATUS_EMPTY.at q) = true → ∃ t, Runs (.mramCommandDone f) d t ∧ busy t w = false ∧
          result t w = 7 ∧ t.mem = d.mem ∧ t.keys = d.keys ∧ t.mram.job = .none) ∧
        (∀ w q, q < 16 → d.mram.job = .srRead w q → d.flag p (F.MRAM.SR_STATUS_EMPTY.at q) = false → d.slotSize q ≤ 256 →
          let b := d.fld p (F.MRAM.SR_STATUS_NEWEST.at q)
          d.slotValid q b (f.ue.map (·.val)) = true → ∃ t, Runs (.mramCommandDone f) d t ∧ result t w = 0 ∧ t.mem = d.mem ∧ t.keys = d.keys ∧
            (∀ k < (d.slotSize q - 8) / 4, t.reg p (R.MRAM.BUF + 4 * k) w.cls = Mem.word d.mem (mramBase + d.slotOfs q b + 8 + 4 * k)) ∧
            t.reg p R.MRAM.SR_SEQ w.cls = BitVec.ofNat 32 (d.slotSeq q b)))) ∧
    (∀ (y : BitVec 18) (size : Fin 3) (flaw : Flaw) (bit : Fin 72), let a := mramBase + y.toNat
      let sz := 2 ^ size.val
      let may := d.reaches m a sz false = true ∧ y.toNat % sz = 0
      (d.busLive = false → ∀ r, Runs (.mramWindowRead r y size flaw bit) d d) ∧
      (d.busLive = true → ¬may → Runs (.mramWindowRead (.master m) y size flaw bit) d (d.busFault m)) ∧
      (d.busLive = true → may → d.jobWrites = none →
        Runs (.mramWindowRead (.master m) y size .clean bit) d { d with bus := .data (BitVec.ofNat 32 (Mem.read d.mem a sz)) } ∧
        Runs (.mramWindowRead (.master m) y size .single bit) d { ((d.bump p R.MRAM.CORRECTED).setReg p R.MRAM.ECC_LAST
          (BitVec.ofNat 32 (y.toNat / 8 + 65536 * bit.val))) with bus := .data (BitVec.ofNat 32 (Mem.read d.mem a sz)) } ∧
        Runs (.mramWindowRead (.master m) y size .double bit) d (((d.bump p R.MRAM.UE_COUNT).raise .mram 0 B.MRAM.MRAM_UE (y.toNat / 8)).busFault m)) ∧
      (∀ b l us, d.busLive = true → may → d.jobWrites = some (b, l, us) → Dev.areasMeet (y.toNat, sz) (b, l.length) = true →
        Runs (.mramWindowRead (.master m) y size flaw bit) d
          (d.modMram (fun s => { s with stalled := s.stalled ++ [(.master m, a, sz, flaw, bit.val)] }))))

/-- The networks (R514, R517–R524, R535): a frame is counted and goes to the ring of the first filter that matches, or is counted as unmatched; a
request copies a good record and no other; an abort drops what is not on the bus; the frame of the lowest identifier is the one that was sent, and a
time stamp goes into its record; errors move the counters and the error state, bus-off stops the controller until it recovers; a Sync frame is
captured, and a late commit is refused; traffic wakes the device from HIBERNATE where it may. -/
def Obligations.NetworksRun : Prop :=
  ∀ (d : Dev) (m : Master),
    (∀ (n : Fin 2) (i : Nat) (f : CanFrame), let a := (d.reg (pg .can n) (R.CAN.FILT + 8 * i)).toNat
      let b := (d.reg (pg .can n) (R.CAN.FILT + 8 * i + 4)).toNat
      let kind := bitsOf a 30 2
      d.filterMatches n i f = true ↔ (kind = 2 ∨ kind = 0 ∧ f.fmt ≠ .xl ∨ kind = 1 ∧ f.fmt = .xl) ∧
        ∀ j < 29, bitAt b j = true → bitAt f.id.toNat j = bitAt a j) ∧
    (∀ (n : Fin 2) (f : CanFrame), let p := pg .can n
      let part := d.canLive n = true ∧ d.flag p F.CAN.MODE_LOOPBACK = false ∧ d.fmtOn n (fmtCode f.fmt) = true
      let old := d.fld p F.CAN.ERR_REC
      let r := (d.setFld p F.CAN.ERR_REC (if 127 < old then 127 else old - 1)).canState n
      let e := (if f.lost then r.txFailed n else r).bump p R.CAN.RX_FRAMES
      (d.busLive = false ∨ ¬part → Runs (.canFrameReceived n f) d d) ∧
      (d.busLive = true → part → f.bad = true → Runs (.canFrameReceived n f) d (e.raise .can n B.CAN.CAN_RAM)) ∧
      (d.busLive = true → part → f.bad = false →
        e.reg p R.CAN.RX_FRAMES = d.reg p R.CAN.RX_FRAMES + 1 ∧ e.mem = d.mem ∧ e.keys = d.keys ∧
        ((∀ i < 128, d.filterMatches n i f = false) → Runs (.canFrameReceived n f) d (e.bump p R.CAN.NOMATCH)) ∧
        (∀ i < 128, d.filterMatches n i f = true → (∀ j < i, d.filterMatches n j f = false) → let b := (d.reg p (R.CAN.FILT + 8 * i + 4)).toNat
          (bitAt b 31 = true → Runs (.canFrameReceived n f) d e) ∧
          (bitAt b 31 = false → let ring := bitsOf (d.reg p R.CAN.RX_RING).toNat (8 * bitsOf b 29 2) 7
            Runs (.canFrameReceived n f) d (e.receiveInto (.can n) ring (Dev.canRecord f i)) ∧
            (d.ringProducer ring ≠ p → Runs (.canFrameReceived n f) d (e.bump p R.CAN.RX_DROPPED)))))) ∧
    (∀ f : T1sFrame, let p := pg .t1s
      let l := f.bytes.map (·.toNat)
      let on := d.busLive = true ∧ d.flag p F.HDR.CTRL_ENABLE = true
      (¬on → Runs (.t1sFrameReceived f) d d) ∧
      (on → f.fcsOk = false ∨ l.length < 60 ∨ 1518 < l.length → Runs (.t1sFrameReceived f) d (d.bump p R.T1S.RX_ERRS)) ∧
      (on → f.fcsOk = true → 60 ≤ l.length → l.length ≤ 1518 → f.bad = true → Runs (.t1sFrameReceived f) d
        ((d.bump p R.T1S.RX_FRAMES).raise .t1s 0 B.T1S.T1S_RAM)) ∧
      (on → f.fcsOk = true → 60 ≤ l.length → l.length ≤ 1518 → f.bad = false → let ts := d.now - d.comp.resetAt - f.age.toNat
        let sync := l.getD 12 0 = 0x88 ∧ l.getD 13 0 = 0xF7 ∧ l.getD 14 0 % 16 = 0
        (¬sync → d.t1sAccepts (Dev.dstOf l) = false → Runs (.t1sFrameReceived f) d (d.bump p R.T1S.RX_FRAMES)) ∧
        (¬sync → d.t1sAccepts (Dev.dstOf l) = true →
          Runs (.t1sFrameReceived f) d ((d.bump p R.T1S.RX_FRAMES).receiveInto .t1s (d.fld p F.T1S.RX_RING_RING) (Dev.t1sRecord f ts))) ∧
        (sync → d.t1sAccepts (Dev.dstOf l) = false → ∃ t, Runs (.t1sFrameReceived f) d t ∧ t.reg p R.T1S.CAP_TS = BitVec.ofNat 32 ts ∧
          t.reg p (R.T1S.CAP_TS + 4) = BitVec.ofNat 32 (ts / 4294967296) ∧
          t.reg p R.T1S.CAP_TICKS = f.ticks ∧ (t.netS .t1s).capAt = some d.now ∧ t.reg p R.T1S.RX_FRAMES = d.reg p R.T1S.RX_FRAMES + 1 ∧
          t.mem = d.mem ∧ t.keys = d.keys))) ∧
    (∀ c : Net, let p := Dev.netPage c
      let tx := fun (e : Dev) (k : Nat) => vget (e.netS c).tx k []
      let may := match c with
        | .can n => d.CanWrite m .can n R.CAN.TX_CTRL
        | .t1s => d.CanWrite m .t1s 0 R.CAN.TX_CTRL
      (may →
        (∀ k : Fin 8, let req := BitVec.ofNat 8 (2 ^ k.val)
          let safe := fun (ws : List Word) => ∀ j < ws.length, d.memSecure ((d.reg p (R.CAN.TXBUF + 4 * k.val)).toNat + 4 * j) = false
          (∀ ws, d.flag p F.HDR.CTRL_ENABLE = true → d.txRecord c k = some ws → safe ws → d.txGood c ws = true → ∃ t, Runs (.txRequest m c req) d t ∧
            tx t k = ws ∧ (∀ j < 8, j ≠ k.val → tx t j = tx d j) ∧ t.mem = d.mem ∧ t.keys = d.keys) ∧
          (d.flag p F.HDR.CTRL_ENABLE = true → (d.txRecord c k = none ∨ ∃ ws, d.txRecord c k = some ws ∧ safe ws ∧ d.txGood c ws = false) →
            ∃ t, Runs (.txRequest m c req) d t ∧ t.flag p F.CAN.EVENT_TX_BAD = true ∧ t.net = d.net ∧ t.mem = d.mem ∧ t.keys = d.keys) ∧
          (d.flag p F.HDR.CTRL_ENABLE = false → ∃ t, Runs (.txRequest m c req) d t ∧ t.net = d.net ∧ t.mem = d.mem ∧ t.keys = d.keys)) ∧
        (∀ req started, ∃ t, Runs (.txAbort m c req started) d t ∧ t.mem = d.mem ∧ t.keys = d.keys ∧
          ∀ k < 8, tx t k = if bitAt req.toNat k && !bitAt started.toNat k then [] else tx d k)) ∧
      (let sends := d.busLive = true ∧ match c with
          | .can n => d.canLive n = true ∧ d.flag p F.CAN.MODE_LISTEN = false ∧ d.flag p F.CAN.MODE_RESTRICTED = false
          | .t1s => d.flag p F.HDR.CTRL_ENABLE = true
       (∀ age coll bad fo an, ¬sends ∨ (∀ k < 8, tx d k = []) → Runs (.frameSent c age coll bad fo an) d d) ∧
       (∀ (age : BitVec 32) coll fo an (k : Fin 8), sends → tx d k ≠ [] → (∀ j < 8, tx d j ≠ [] →
           Dev.txKey c (tx d k) < Dev.txKey c (tx d j) ∨ Dev.txKey c (tx d k) = Dev.txKey c (tx d j) ∧ k.val ≤ j) →
         let lost := d.setTx c k []
         Runs (.frameSent c age coll true fo an) d (match c with
           | .can n => lost.raise .can n B.CAN.CAN_RAM
           | .t1s => lost.raise .t1s 0 B.T1S.T1S_RAM) ∧
         ∃ t, Runs (.frameSent c age coll false fo an) d t ∧ tx t k = [] ∧ (∀ j < 8, j ≠ k.val → tx t j = tx d j) ∧
           t.flag p ⟨R.CAN.TX_CTRL, 16 + k.val, 1⟩ = true ∧ t.flag p F.CAN.EVENT_TX_DONE = true ∧
           (c ≠ .t1s → t.reg p R.CAN.TX_FRAMES = d.reg p R.CAN.TX_FRAMES + 1 ∧
             (d.flag p F.CAN.MODE_LOOPBACK = false → t.mem = d.mem ∧ t.keys = d.keys ∧ t.fld p F.CAN.ERR_TEC = d.fld p F.CAN.ERR_TEC - 1)) ∧
           (c = .t1s → let a := vget (d.netS .t1s).txAddr k.val 0 + 8
             let ts := d.now - d.comp.resetAt - age.toNat
             t.keys = d.keys ∧ t.reg p R.T1S.TX_FRAMES = d.reg p R.T1S.TX_FRAMES + 1 ∧
             (bitAt (d.reg p R.T1S.TX_CTRL).toNat (24 + k.val) = false → t.mem = d.mem) ∧
             (bitAt (d.reg p R.T1S.TX_CTRL).toNat (24 + k.val) = true →
               (∀ j < 8, Mem.byte t.mem (a + j) = BitVec.ofNat 8 (ts / 256 ^ j)) ∧
               ∀ b, b < a ∨ a + 8 ≤ b → Mem.byte t.mem b = Mem.byte d.mem b))))) ∧
    (∀ n : Fin 2, let p := pg .can n
      let tec := d.fld p F.CAN.ERR_TEC
      let r := d.fld p F.CAN.ERR_REC
      let on := d.busLive = true ∧ d.canLive n = true
      let seen := on ∧ d.flag p F.CAN.MODE_LOOPBACK = false
      (∀ e, ¬seen → Runs (.canErrorFrame n e) d d) ∧
      (∀ e, seen → ∃ t, Runs (.canErrorFrame n e) d t ∧
        t.reg p R.CAN.ERR_FRAMES = d.reg p R.CAN.ERR_FRAMES + 1 ∧
        t.fld p F.CAN.ERR_TEC = (if e = .tx then min (tec + 8) 255 else tec) ∧
        t.fld p F.CAN.ERR_REC = (if e = .rx then min (r + 1) 255 else if e = .rxDominant then min (r + 8) 255 else r) ∧
        (t.netS (.can n)).offDue = ((d.netS (.can n)).offDue || decide (e = .tx ∧ 255 < tec + 8)) ∧
        (t.fld p F.CAN.ERR_ESTATE = 1 ↔ 127 < t.fld p F.CAN.ERR_TEC ∨ 127 < t.fld p F.CAN.ERR_REC) ∧ t.mem = d.mem ∧ t.keys = d.keys) ∧
      (¬(on ∧ (d.netS (.can n)).offDue = true) → Runs (.busOff n) d d) ∧
      (on → (d.netS (.can n)).offDue = true → let e := (((d.setFld p F.CAN.ERR_ESTATE 2).modNet (.can n) (fun s =>
          { s with offDue := false, recov := d.flag p F.CAN.MODE_AUTO_REC })).event p F.CAN.EVENT_BUSOFF).bump p R.CAN.BUSOFFS
        Runs (.busOff n) d (e.raiseLevel .can n B.CAN.CAN_BUSOFF (d.fld p F.CAN.ERR_TEC)) ∧ e.canLive n = false) ∧
      (d.CanWrite m .can n R.CAN.CMD → (d.fld p F.CAN.ERR_ESTATE ≠ 2 → Runs (.recover m n) d d.done) ∧
        (d.fld p F.CAN.ERR_ESTATE = 2 → Runs (.recover m n) d (d.modNet (.can n) (fun s => { s with recov := true })).done)) ∧
      (let back := d.busLive = true ∧ d.flag p F.HDR.CTRL_ENABLE = true ∧ d.fld p F.CAN.ERR_ESTATE = 2 ∧ (d.netS (.can n)).recov = true
       (∀ seqs : BitVec 8, ¬back ∨ seqs.toNat < 128 → Runs (.busOffRecovery n seqs) d d) ∧
       (∀ seqs : BitVec 8, back → 128 ≤ seqs.toNat → Runs (.busOffRecovery n seqs) d
         (((d.setReg p R.CAN.ERR 0).modNet (.can n) (fun s => { s with recov := false })).lower .can n B.CAN.CAN_BUSOFF))) ∧
      (∀ us : BitVec 16, (d.state = 6 → bitAt d.seq.wakeCan n = true → vget d.seq.wakeDom n.val 0 ≤ us.toNat →
          Runs (.busWake n us) d (d.wakeEvent 10)) ∧
        (d.state ≠ 6 ∨ bitAt d.seq.wakeCan n = false ∨ us.toNat < vget d.seq.wakeDom n.val 0 → Runs (.busWake n us) d d))) ∧
    (∀ us : BitVec 8, (d.state = 6 → d.seq.wakeHost = true → 10 ≤ us.toNat → Runs (.hostPortWake us) d (d.wakeEvent 9)) ∧
      (d.state ≠ 6 ∨ d.seq.wakeHost = false ∨ us.toNat < 10 → Runs (.hostPortWake us) d d)) ∧
    (d.CanWrite m .t1s 0 R.T1S.PTP_CMD →
      ((d.netS .t1s).capAt = none ∨ (∃ u, (d.netS .t1s).capAt = some u ∧ u + 400000000 < d.now) →
        Runs (.ptpCommit m) d (d.event (pg .t1s) F.T1S.EVENT_PTP_LATE).done) ∧
      (∀ u, (d.netS .t1s).capAt = some u → d.now ≤ u + 400000000 → let base := d.cel.meas.tick / 65536
        Runs (.ptpCommit m) d (d.measCapture 2 ((base + sub32 (d.reg (pg .t1s) R.T1S.CAP_TICKS).toNat base) * 65536) ((d.reg (pg .t1s) R.T1S.GM_SEC).toNat * 1000000000 + d.fld (pg .t1s) F.T1S.GM_NS_NS)).done)) ∧
    (let p := pg .t1s
     let plca := d.busLive = true ∧ d.flag p F.HDR.CTRL_ENABLE = true ∧ d.flag p F.T1S.MODE_PLCA_EN = true
     (∀ cycles : BitVec 8, ¬plca ∨ cycles.toNat < 8 → Runs (.t1sPlca cycles) d d) ∧
     (∀ cycles : BitVec 8, plca → 8 ≤ cycles.toNat → Runs (.t1sPlca cycles) d ((d.setFlag p F.T1S.PHY_STATUS_BEACON_SEEN false).raise .t1s 0 B.T1S.T1S_PLCA (d.fld p F.T1S.PLCA_NODE_ID))))

/-- Check units, balls and the ageing monitor (R530–R532, R547, R548, R587): a unit is enabled with its keys where its fields do not overlap; START, a
data write and FINISH run the CRC, and FINISH judges it and the counter; a record under way completes; RESYNC makes the next count INIT; a ball's
function and levels are written by its key's holder; a measurement starts with its key outside BOOT, and ends with the shift of its counts. -/
def Obligations.ChecksAndPinsRun : Prop :=
  ∀ (d : Dev) (m : Master),
    (∀ n : Fin 4, let p := pg .check n
      let fed := d.checkFed n 0 = true
      let calm := d.fld p F.CHECK.VERDICT_BAD_RUN + 1 ≠ d.fld p F.CHECK.CFG_BAD_MAX
      (d.CanWrite m .check n R.HDR.CTRL → (∀ key, pageKey p = some key → d.keyHeldBy m key = true) →
        (∃ t, Runs (.checkEnable m n false) d t ∧ t.flag p F.HDR.CTRL_ENABLE = false ∧ (t.checkS n).seen = none ∧ t.mem = d.mem ∧ t.keys = d.keys) ∧
        (d.flag p F.HDR.CTRL_ENABLE = false → d.checkOverlap n = true → Runs (.checkEnable m n true) d (d.event p F.CHECK.EVENT_CFG_BAD).done) ∧
        (d.flag p F.HDR.CTRL_ENABLE = false → d.checkOverlap n = false → d.fld p F.CHECK.CFG_SRC = 0 ∨ d.ringOn (d.fld p F.CHECK.RING_CFG_RING) = true →
          ∃ t, Runs (.checkEnable m n true) d t ∧ t.flag p F.HDR.CTRL_ENABLE = true ∧ (t.checkS n).init = true ∧ t.mem = d.mem ∧ t.keys = d.keys)) ∧
      (d.CanWrite m .check n R.CHECK.CMD →
        (¬fed → Runs (.checkStart m n) d d.done ∧ Runs (.finish m n) d d.done) ∧
        (fed → Runs (.checkStart m n) d (d.modCheck n (fun s => { s with crc := d.checkPair n R.CHECK.INIT_LO })).done) ∧
        Runs (.resync m n) d (d.modCheck n (fun s => { s with init := true })).done ∧
        (fed → calm → let r := d.crcResult n (d.checkS n).crc
          let ok := r == d.checkPair n R.CHECK.EXPECT_LO
          let guard := d.flag p F.CHECK.CFG_GUARD_EN
          let c := (d.reg p R.CHECK.AC_IN).toNat % 2 ^ d.fld p F.CHECK.LAYOUT_2_AC_BITS
          let v := Dev.aliveVerdict (d.checkS n) (2 ^ d.fld p F.CHECK.LAYOUT_2_AC_BITS) c
          ∃ t, Runs (.finish m n) d t ∧ t.reg p R.CHECK.RESULT_LO = BitVec.ofNat 32 r ∧ t.flag p F.CHECK.VERDICT_CRC_OK = ok ∧
            t.fld p F.CHECK.VERDICT_AC = (if ok && guard then v.1 else 0) ∧ t.flag p F.CHECK.EVENT_DONE = true ∧
            t.reg p R.CHECK.CHECKS = d.reg p R.CHECK.CHECKS + 1 ∧
            t.reg p R.CHECK.CRC_BAD = (if ok then d.reg p R.CHECK.CRC_BAD else d.reg p R.CHECK.CRC_BAD + 1) ∧
            t.checkS n = (if ok && guard then { d.checkS n with last := v.2, init := false } else d.checkS n) ∧ t.mem = d.mem ∧ t.keys = d.keys)) ∧
      (∀ (size : Fin 3) w, d.CanWrite m .check n (R.CHECK.DIN1 + 4 * size.val) →
        (¬fed → Runs (.dinWrite m n size w) d d.done) ∧
        (fed → Runs (.dinWrite m n size w) d
          (d.modCheck n (fun s => { s with crc := d.crcFeed n s.crc ((Crc.wordBytes w).take (2 ^ size.val)) })).done)) ∧
      let due := (d.checkS n).seenAt + (d.fld p F.CHECK.LAYOUT_DATA_LEN + 3) / 4
      (d.busLive = false ∨ (d.checkS n).seen = none ∨ d.now < due → Runs (.checkRecord n) d d) ∧
      (∀ ws, d.busLive = true → (d.checkS n).seen = some ws → due ≤ d.now → calm → ∃ t, Runs (.checkRecord n) d t ∧ (t.checkS n).seen = none ∧
        t.reg p R.CHECK.CHECKS = d.reg p R.CHECK.CHECKS + 1 ∧ t.flag p F.CHECK.EVENT_DONE = true ∧ t.mem = d.mem ∧ t.keys = d.keys)) ∧
    (∀ (s : CheckS) (k c : Nat), (s.init = true → (Dev.aliveVerdict s k c).1 = 1) ∧
      (s.init = false → c = (s.last + 1) % k → (Dev.aliveVerdict s k c).1 = 2) ∧
      (s.init = false → c ≠ (s.last + 1) % k → (Dev.aliveVerdict s k c).1 = (if c = s.last then 3 else 4))) ∧
    (let p := pg .pinmux
     (∀ (k : Fin 27) w, d.CanWrite m .pinmux 0 (R.PINMUX.MXCFG + 4 * k.val) →
       (d.keyHeldBy m k = false → Runs (.mxcfgWrite m k w) d (d.event p F.HDR.EVENT_NOKEY).done) ∧
       (d.keyHeldBy m k = true → ∃ t, Runs (.mxcfgWrite m k w) d t ∧
         t.fld p (F.PINMUX.MXCFG_FUNC.at k) = (if mxAdmits k (bitsOf w.toNat 0 2) then bitsOf w.toNat 0 2 else d.fld p (F.PINMUX.MXCFG_FUNC.at k)) ∧
         t.fld p (F.PINMUX.MXCFG_PULL.at k) = (if bitsOf w.toNat 2 2 = 3 then d.fld p (F.PINMUX.MXCFG_PULL.at k) else bitsOf w.toNat 2 2) ∧
         t.flag p (F.PINMUX.MXCFG_OD.at k) = bitAt w.toNat 5 ∧ t.fld p (F.PINMUX.MXCFG_WSEL.at k) = bitsOf w.toNat 8 4 ∧
         (d.lockSet p = true → t.flag p (F.PINMUX.MXCFG_SAFE_EN.at k) = d.flag p (F.PINMUX.MXCFG_SAFE_EN.at k)) ∧
         (d.lockSet p = false → t.flag p (F.PINMUX.MXCFG_SAFE_LVL.at k) = bitAt w.toNat 13) ∧ t.mem = d.mem ∧ t.keys = d.keys)) ∧
     (∀ oe w, let ofs := if oe then R.PINMUX.GPIO_OE else R.PINMUX.GPIO_OUT
       d.CanWrite m .pinmux 0 ofs → ∃ t, Runs (.gpioWrite m oe w) d t ∧ t.mem = d.mem ∧ t.keys = d.keys ∧
         (∀ k < 27, bitAt (t.reg p ofs).toNat k = if d.keyHeldBy m k then bitAt w.toNat k else bitAt (d.reg p ofs).toNat k) ∧
         ((∃ k < 27, d.keyHeldBy m k = false ∧ bitAt w.toNat k ≠ bitAt (d.reg p ofs).toNat k) → t.flag p F.HDR.EVENT_REFUSED = true))) ∧
    (let p := pg .sys
     (d.CanWrite m .sys 0 R.SYS.AGE_CMD →
       (d.state = 2 ∨ d.comp.ageBusy = true → Runs (.measure m) d (d.event p ⟨R.HDR.EVENT, 10, 1⟩).done) ∧
       (d.state ≠ 2 → d.comp.ageBusy = false → Runs (.measure m) d { d with comp := { d.comp with ageBusy := true, ageAt := d.now }, bus := .done })) ∧
     (∀ ns nr : Word, d.busLive = false ∨ d.comp.ageBusy = false ∨ d.now < d.comp.ageAt + 400000 → Runs (.ageMeasureDone ns nr) d d) ∧
     (∀ ns nr : Word, let r0 := (d.otpShadow 0x7E).toNat
       let v := divRound (10000 * (((ns.toNat * r0 : Nat) : Int) - ((nr.toNat * 1073741824 : Nat) : Int))) (nr.toNat * 1073741824)
       d.busLive = true → d.comp.ageBusy = true → d.comp.ageAt + 400000 ≤ d.now → ∃ t, Runs (.ageMeasureDone ns nr) d t ∧ t.comp.ageBusy = false ∧
         t.reg p R.SYS.AGE_RUNS = d.reg p R.SYS.AGE_RUNS + 1 ∧ t.flag p ⟨R.HDR.EVENT, 8, 1⟩ = true ∧ t.mem = d.mem ∧ t.keys = d.keys ∧
         (nr ≠ 0 → -32768 ≤ v → v ≤ 32767 → (t.reg p R.SYS.AGE_RESULT).toNat = 65536 + ofSigned 16 v ∧
           (v ≤ d.sfld p F.SYS.AGE_CFG_WARN → t.flag p ⟨R.HDR.EVENT, 9, 1⟩ = true))))

/-- A step takes the command at the front of the queue and runs it with the queue's rest; every command answers a next state and leaves the queue
that it was given. On an empty queue one clock of 400 MHz passes (the model's choice, log entry 6): `now` counts, PHI advances by INC of the rate in
use (R48), in RUN every 400,000,000 clocks count one of RUN_SECONDS (R588), and memory, keys and device state stay. -/
def Obligations.StepRunsFront : Prop :=
  (∀ (c : Instr) (l : List Instr) (d : Dev), step { dev := d, pending := c :: l } = exec c { dev := d, pending := l }) ∧
  (∀ (c : Instr) (s : State), ∃ t, exec c s = .next t ∧ t.pending = s.pending) ∧
  (∀ d : Dev, d.busLive = false → step { dev := d, pending := [] } = .next { dev := { d with now := d.now + 1 }, pending := [] }) ∧
  (∀ d : Dev, ∃ t, step { dev := d, pending := [] } = .next { dev := t, pending := [] } ∧ t.now = d.now + 1 ∧ t.mem = d.mem ∧ t.keys = d.keys ∧
    t.state = d.state ∧
    (d.busLive = true → d.tbActive ≠ 0 →
      t.tb.phi = d.tb.phi + ((d.reg (pg .timebase) R.TIMEBASE.FREQ).toNat * 2 ^ 48 + 200000000 * 65536) / (400000000 * 65536)) ∧
    (d.busLive = false ∨ d.tbActive = 0 → t.tb = d.tb) ∧
    (d.state ≠ 4 → t.comp = d.comp) ∧
    (d.state = 4 → d.comp.runClk + 1 ≠ 400000000 → t.comp.runClk = d.comp.runClk + 1 ∧
      t.reg (pg .sys) R.SYS.RUN_SECONDS = d.reg (pg .sys) R.SYS.RUN_SECONDS) ∧
    (d.state = 4 → d.comp.runClk + 1 = 400000000 → t.comp.runClk = 0 ∧
      t.reg (pg .sys) R.SYS.RUN_SECONDS = d.reg (pg .sys) R.SYS.RUN_SECONDS + 1))

/-- Right after reset memory is canonical, and the key rack is as R37 and R44 leave it; the device is in BOOT, entered from CELLAR by power-up,
no session is open and no command waits, every register holds its reset value, and every key but the safety keys is free. -/
def Obligations.ResetKeepsInvariant : Prop :=
  State.reset.Inv ∧ State.reset.pending = [] ∧ State.reset.dev.state = 2 ∧ State.reset.dev.fld (pg .sys) F.SYS.STATE_PREV = 1 ∧
    State.reset.dev.fld (pg .sys) F.SYS.STATE_CAUSE = 1 ∧ State.reset.dev.bootState = 0 ∧
    State.reset.dev.sessionOpen = false ∧ (∀ p o b, State.reset.dev.reg p o b = regDefault (regKey p o b)) ∧
    (∀ a, Mem.byte State.reset.dev.mem a = 0) ∧ (∀ a, keySafety a = false → State.reset.dev.keyTag a = 0)

/-- Every step keeps memory in its one form, the owner tag 0xF000 of the safety keys (R44), and the reserved keys free (R37), from every state
that has them so, whatever the command and its operands. -/
def Obligations.EveryStepKeepsInvariant : Prop :=
  ∀ s t : State, s.Inv → step s = .next t → t.Inv

end
end

