-- ==== Sys2Proof/Laws/Bits.lean ====
section
/-!
SUPPORT. Laws of bit fields: what a field reads after it, or another one, has been given a value.
-/
namespace Sys2Proof.Machine

theorem testBit_bitsOf (n lo w j : Nat) : (bitsOf n lo w).testBit j = (decide (j < w) && n.testBit (lo + j)) := by
  simp [bitsOf, Nat.testBit_mod_two_pow, Nat.testBit_shiftRight]

/-- A number cut at a field. -/
theorem setBits_split (a b c lo w v : Nat) (ha : a < 2 ^ lo) (hb : b < 2 ^ w) :
    setBits (2 ^ lo * (2 ^ w * c + b) + a) lo w v = 2 ^ lo * (2 ^ w * c + v % 2 ^ w) + a := by
  have h1 : (2 ^ lo * (2 ^ w * c + b) + a) >>> lo = 2 ^ w * c + b := by
    rw [Nat.shiftRight_eq_div_pow, Nat.mul_add_div (by positivity), Nat.div_eq_of_lt ha, Nat.add_zero]
  have h2 : (2 ^ w * c + b) % 2 ^ w = b := by rw [Nat.mul_add_mod, Nat.mod_eq_of_lt hb]
  unfold setBits
  rw [h1, h2, Nat.shiftLeft_eq, Nat.shiftLeft_eq]
  have h3 : 2 ^ lo * (2 ^ w * c + b) = 2 ^ lo * (2 ^ w * c) + b * 2 ^ lo := by ring
  have h4 : 2 ^ lo * (2 ^ w * c + v % 2 ^ w) = 2 ^ lo * (2 ^ w * c) + v % 2 ^ w * 2 ^ lo := by ring
  omega

/-- Bit `j` of a number after a field of it has been given a value. -/
theorem testBit_setBits (n lo w v j : Nat) :
    (setBits n lo w v).testBit j = if lo ≤ j ∧ j < lo + w then v.testBit (j - lo) else n.testBit j := by
  have ha : n % 2 ^ lo < 2 ^ lo := Nat.mod_lt _ (by positivity)
  have hb : n / 2 ^ lo % 2 ^ w < 2 ^ w := Nat.mod_lt _ (by positivity)
  have hn : n = 2 ^ lo * (2 ^ w * (n / 2 ^ lo / 2 ^ w) + n / 2 ^ lo % 2 ^ w) + n % 2 ^ lo := by
    rw [Nat.div_add_mod, Nat.div_add_mod]
  have hs := setBits_split (n % 2 ^ lo) (n / 2 ^ lo % 2 ^ w) (n / 2 ^ lo / 2 ^ w) lo w v ha hb
  rw [← hn] at hs
  rw [hs, Nat.testBit_two_pow_mul_add _ ha]
  by_cases h1 : j < lo
  · have : ¬ (lo ≤ j ∧ j < lo + w) := by omega
    simp [h1, this, Nat.testBit_mod_two_pow]
  · simp only [h1, if_false]
    rw [Nat.testBit_two_pow_mul_add _ (Nat.mod_lt _ (by positivity))]
    by_cases h2 : j - lo < w
    · have : lo ≤ j ∧ j < lo + w := by omega
      simp [h2, this, Nat.testBit_mod_two_pow]
    · have : ¬ (lo ≤ j ∧ j < lo + w) := by omega
      have e : lo + (w + (j - lo - w)) = j := by omega
      simp only [h2, this, if_false]
      rw [Nat.testBit_div_two_pow, Nat.testBit_div_two_pow]
      congr 1; omega

/-- A field reads the value it has been given. -/
theorem bitsOf_setBits_self (n lo w v : Nat) : bitsOf (setBits n lo w v) lo w = v % 2 ^ w := by
  apply Nat.eq_of_testBit_eq
  intro j
  rw [testBit_bitsOf, testBit_setBits, Nat.testBit_mod_two_pow]
  by_cases h : j < w <;> simp [h]

/-- A field outside the one that has been given a value reads as before. -/
theorem bitsOf_setBits_other (n lo w v lo' w' : Nat) (h : lo' + w' ≤ lo ∨ lo + w ≤ lo') :
    bitsOf (setBits n lo w v) lo' w' = bitsOf n lo' w' := by
  apply Nat.eq_of_testBit_eq
  intro j
  rw [testBit_bitsOf, testBit_bitsOf, testBit_setBits]
  by_cases hj : j < w'
  · have : ¬ (lo ≤ lo' + j ∧ lo' + j < lo + w) := by omega
    simp [hj, this]
  · simp [hj]

/-- A field within 32 bits does not see what lies above them. -/
theorem bitsOf_mod32 (n lo w : Nat) (h : lo + w ≤ 32) : bitsOf (n % 4294967296) lo w = bitsOf n lo w := by
  apply Nat.eq_of_testBit_eq
  intro j
  have e : (4294967296 : Nat) = 2 ^ 32 := by norm_num
  rw [testBit_bitsOf, testBit_bitsOf, e, Nat.testBit_mod_two_pow]
  by_cases hj : j < w
  · have : lo + j < 32 := by omega
    simp [hj, this]
  · simp [hj]

theorem bitsOf_lt (n lo w : Nat) : bitsOf n lo w < 2 ^ w := Nat.mod_lt _ (by positivity)

/-- Bit `i` of a number is its one-bit field. -/
theorem bitAt_eq_bitsOf (n i : Nat) : bitAt n i = (bitsOf n i 1 != 0) := by
  unfold bitAt bitsOf
  have h : (n >>> i) % 2 = 0 ∨ (n >>> i) % 2 = 1 := by omega
  rcases h with h | h <;> simp [h]

@[simp] theorem b2n_true : b2n true = 1 := rfl
@[simp] theorem b2n_false : b2n false = 0 := rfl
theorem b2n_lt (b : Bool) : b2n b < 2 := by cases b <;> decide

end Sys2Proof.Machine
end

