-- ==== Sys2Proof/Laws/Sparse.lean ====
section
/-!
SUPPORT. Laws of the sparse stores: a key reads what was last put there, every other key reads as before, and each operation
keeps the canonical form.
-/
namespace Sys2Proof.Machine.Sparse

variable {α : Type} (dflt : Nat → α)

theorem get_drop_self (l : List (Nat × α)) (a : Nat) : get dflt (drop l a) a = dflt a := by
  induction l with
  | nil => rfl
  | cons e r ih =>
    obtain ⟨k, w⟩ := e
    by_cases h : k = a
    · simpa [drop, h] using ih
    · have h' : a ≠ k := Ne.symm h
      simpa [drop, h, get, h'] using ih

theorem get_drop_other (l : List (Nat × α)) {a b : Nat} (h : b ≠ a) : get dflt (drop l a) b = get dflt l b := by
  induction l with
  | nil => rfl
  | cons e r ih =>
    obtain ⟨k, w⟩ := e
    by_cases hk : k = a
    · have hb : b ≠ k := hk ▸ h
      simpa [drop, hk, get, h] using ih
    · by_cases hb : b = k
      · simp [drop, hk, get, hb]
      · simpa [drop, hk, get, hb] using ih

theorem get_insert_other (l : List (Nat × α)) {a b : Nat} (v : α) (h : b ≠ a) : get dflt (insert l a v) b = get dflt l b := by
  induction l with
  | nil => simp [insert, get, h]
  | cons e r ih =>
    obtain ⟨k, w⟩ := e
    by_cases hk : a < k
    · simp [insert, hk, get, h]
    · simp [insert, hk, get, ih]

theorem get_insert_self (l : List (Nat × α)) {a : Nat} (v : α) (h : ∀ e ∈ l, e.1 ≠ a) : get dflt (insert l a v) a = v := by
  induction l with
  | nil => simp [insert, get]
  | cons e r ih =>
    obtain ⟨k, w⟩ := e
    have hk : a ≠ k := Ne.symm (h (k, w) (by simp))
    by_cases hl : a < k
    · simp [insert, hl, get]
    · simpa [insert, hl, get, hk] using ih (fun e he => h e (by simp [he]))

variable [DecidableEq α]

/-- A key reads what was put there. -/
@[simp] theorem get_put_self (l : List (Nat × α)) (a : Nat) (v : α) : get dflt (put dflt l a v) a = v := by
  unfold put
  split
  · rename_i h; rw [get_drop_self, h]
  · exact get_insert_self dflt _ v (by simp [drop])

/-- A put leaves every other key alone. -/
theorem get_put_other (l : List (Nat × α)) {a b : Nat} (v : α) (h : b ≠ a) : get dflt (put dflt l a v) b = get dflt l b := by
  unfold put
  split
  · exact get_drop_other dflt l h
  · rw [get_insert_other dflt _ v h, get_drop_other dflt l h]

theorem get_put (l : List (Nat × α)) (a b : Nat) (v : α) :
    get dflt (put dflt l a v) b = if b = a then v else get dflt l b := by
  split
  · rename_i h; subst h; simp
  · rename_i h; exact get_put_other dflt l v h

theorem wfFrom_mono {lo lo' : Nat} (h : lo' ≤ lo) (l : List (Nat × α)) (w : wfFrom dflt lo l = true) :
    wfFrom dflt lo' l = true := by
  cases l with
  | nil => rfl
  | cons e r => obtain ⟨k, v⟩ := e; simp [wfFrom] at *; exact ⟨⟨by omega, w.1.2⟩, w.2⟩

theorem wfFrom_filter (p : Nat × α → Bool) (l : List (Nat × α)) (lo : Nat) (w : wfFrom dflt lo l = true) :
    wfFrom dflt lo (l.filter p) = true := by
  induction l generalizing lo with
  | nil => rfl
  | cons e r ih =>
    obtain ⟨k, v⟩ := e
    simp [wfFrom] at w
    by_cases hp : p (k, v) = true
    · simp [hp, wfFrom, w.1.1, w.1.2, ih _ w.2]
    · simp only [List.filter, hp]
      exact wfFrom_mono dflt (by omega) _ (ih _ w.2)

theorem wfFrom_insert (l : List (Nat × α)) (a : Nat) (v : α) (hv : v ≠ dflt a) (h : ∀ e ∈ l, e.1 ≠ a) (lo : Nat) (ha : lo ≤ a)
    (w : wfFrom dflt lo l = true) : wfFrom dflt lo (insert l a v) = true := by
  induction l generalizing lo with
  | nil => simp [insert, wfFrom, ha, hv]
  | cons e r ih =>
    obtain ⟨k, x⟩ := e
    have hk : k ≠ a := h (k, x) (by simp)
    simp [wfFrom] at w
    by_cases hl : a < k
    · simp [insert, hl, wfFrom, ha, hv, w.1.2, w.2]
    · simp [insert, hl, wfFrom, w.1.1, w.1.2]
      exact ih (fun e he => h e (by simp [he])) _ (by omega) w.2

/-- A put keeps the canonical form. -/
theorem wf_put (l : List (Nat × α)) (a : Nat) (v : α) (w : wf dflt l = true) : wf dflt (put dflt l a v) = true := by
  unfold put wf
  split
  · exact wfFrom_filter dflt _ l 0 w
  · rename_i h
    exact wfFrom_insert dflt _ a v h (by simp [drop]) 0 (Nat.zero_le a) (wfFrom_filter dflt _ l 0 w)

/-- Dropping entries keeps the canonical form. -/
theorem wf_keep (p : Nat → Bool) (l : List (Nat × α)) (w : wf dflt l = true) : wf dflt (keep p l) = true :=
  wfFrom_filter dflt _ l 0 w

omit [DecidableEq α] in
/-- A key that stays reads as before; one that does not, as unlisted. -/
theorem get_keep (p : Nat → Bool) (l : List (Nat × α)) (a : Nat) :
    get dflt (keep p l) a = if p a then get dflt l a else dflt a := by
  induction l with
  | nil => simp [keep, get]
  | cons e r ih =>
    obtain ⟨k, v⟩ := e
    by_cases hk : p k = true <;> by_cases ha : a = k
    · subst ha; simp [keep, get, hk]
    · have : keep p ((k, v) :: r) = (k, v) :: keep p r := by simp [keep, hk]
      simp [this, get, ha, ih]
    · have : keep p ((k, v) :: r) = keep p r := by simp [keep, hk]
      subst ha; simp [this, ih, hk]
    · have : keep p ((k, v) :: r) = keep p r := by simp [keep, hk]
      simp [this, get, ha, ih]

end Sys2Proof.Machine.Sparse
end

