-- ==== Sys2Proof/Laws/Regs.lean ====
section
/-!
SUPPORT. Laws of the register file: what a register or a field reads after a write, and that a write of a register touches
nothing else of the device.
-/
namespace Sys2Proof.Machine

/-- Two registers of one page and bank are one where their offsets are. -/
@[simp] theorem regKey_ofs (p o o' b : Nat) : regKey p o b = regKey p o' b ↔ o = o' := by
  simp [regKey]

/-- Registers of two pages are two. -/
theorem regKey_page {p p' o o' b b' : Nat} (h : p ≠ p') (hp : p < 0x100) (hp' : p' < 0x100) (ho : o < 0x1000) (ho' : o' < 0x1000) :
    regKey p o b ≠ regKey p' o' b' := by
  unfold regKey; omega

/-- Banks of a register are two. -/
theorem regKey_bank {p p' o o' b b' : Nat} (h : b ≠ b') (hp : p < 0x100) (hp' : p' < 0x100) (ho : o < 0x1000) (ho' : o' < 0x1000) :
    regKey p o b ≠ regKey p' o' b' := by
  unfold regKey; omega

namespace Dev

/-- What a register reads after a write of a register. -/
theorem reg_setReg (d : Dev) (p o : Nat) (v : Word) (b p' o' b' : Nat) :
    (d.setReg p o v b).reg p' o' b' = if regKey p' o' b' = regKey p o b then v else d.reg p' o' b' := by
  simp only [reg, setReg, Sparse.get_put]

/-- A register reads what was written to it. -/
@[simp] theorem reg_setReg_self (d : Dev) (p o : Nat) (v : Word) (b : Nat) : (d.setReg p o v b).reg p o b = v := by
  simp [reg_setReg]

/-- Another register reads as before. -/
theorem reg_setReg_other (d : Dev) {p o : Nat} {v : Word} {b p' o' b' : Nat} (h : regKey p' o' b' ≠ regKey p o b) :
    (d.setReg p o v b).reg p' o' b' = d.reg p' o' b' := by
  simp [reg_setReg, h]

/-- A register given a value touches nothing of the device but the register file. -/
@[simp] theorem setReg_frame (d : Dev) (p o : Nat) (v : Word) (b : Nat) :
    (d.setReg p o v b).keys = d.keys ∧ (d.setReg p o v b).mem = d.mem ∧ (d.setReg p o v b).now = d.now ∧
    (d.setReg p o v b).fresh = d.fresh ∧ (d.setReg p o v b).bus = d.bus ∧ (d.setReg p o v b).tile = d.tile ∧
    (d.setReg p o v b).conv = d.conv ∧ (d.setReg p o v b).disch = d.disch ∧ (d.setReg p o v b).fc = d.fc ∧
    (d.setReg p o v b).tb = d.tb ∧ (d.setReg p o v b).proof = d.proof ∧ (d.setReg p o v b).gal = d.gal ∧
    (d.setReg p o v b).af = d.af ∧ (d.setReg p o v b).adc = d.adc ∧ (d.setReg p o v b).bin = d.bin ∧
    (d.setReg p o v b).ring = d.ring ∧ (d.setReg p o v b).ow = d.ow ∧ (d.setReg p o v b).mon = d.mon ∧
    (d.setReg p o v b).dom = d.dom ∧ (d.setReg p o v b).chg = d.chg ∧ (d.setReg p o v b).gauge = d.gauge ∧
    (d.setReg p o v b).supply = d.supply ∧ (d.setReg p o v b).seq = d.seq ∧ (d.setReg p o v b).cel = d.cel ∧
    (d.setReg p o v b).boot = d.boot ∧ (d.setReg p o v b).comp = d.comp ∧ (d.setReg p o v b).mram = d.mram ∧
    (d.setReg p o v b).net = d.net ∧ (d.setReg p o v b).check = d.check ∧ (d.setReg p o v b).host = d.host := by
  simp [setReg]

/-- What a field reads after a write of a register. -/
theorem fld_setReg (d : Dev) (p o : Nat) (v : Word) (b p' : Nat) (f : Fld) :
    (d.setReg p o v b).fld p' f = if regKey p' f.ofs = regKey p o b then bitsOf v.toNat f.lo f.w else d.fld p' f := by
  unfold fld; rw [reg_setReg]; split <;> rfl

/-- What a register reads after a write of a field. -/
theorem reg_setFld (d : Dev) (p : Nat) (f : Fld) (v p' o' b' : Nat) :
    (d.setFld p f v).reg p' o' b' =
      if regKey p' o' b' = regKey p f.ofs then BitVec.ofNat 32 (setBits (d.reg p f.ofs).toNat f.lo f.w v) else d.reg p' o' b' := by
  unfold setFld; rw [reg_setReg]

/-- A field reads the value it has been given. -/
theorem fld_setFld_self (d : Dev) (p : Nat) (f : Fld) (v : Nat) (h : f.lo + f.w ≤ 32) : (d.setFld p f v).fld p f = v % 2 ^ f.w := by
  have e : (2 : Nat) ^ 32 = 4294967296 := by norm_num
  simp only [fld, reg_setFld, if_true, BitVec.toNat_ofNat, e]
  rw [bitsOf_mod32 _ _ _ h, bitsOf_setBits_self]

/-- Another field reads as before. -/
theorem fld_setFld_other (d : Dev) (p : Nat) (f : Fld) (v p' : Nat) (g : Fld)
    (h : regKey p' g.ofs ≠ regKey p f.ofs ∨ (g.lo + g.w ≤ 32 ∧ (g.lo + g.w ≤ f.lo ∨ f.lo + f.w ≤ g.lo))) :
    (d.setFld p f v).fld p' g = d.fld p' g := by
  have e : (2 : Nat) ^ 32 = 4294967296 := by norm_num
  simp only [fld, reg_setFld]
  by_cases hk : regKey p' g.ofs = regKey p f.ofs
  · have h' := h.resolve_left (fun c => c hk)
    have hr : d.reg p f.ofs = d.reg p' g.ofs := by simp [reg, hk]
    simp only [hk, if_true, BitVec.toNat_ofNat, e]
    rw [bitsOf_mod32 _ _ _ h'.1, bitsOf_setBits_other _ _ _ _ _ _ h'.2, hr]
  · simp [hk]

/-- A field given a value touches nothing of the device but the register file. -/
@[simp] theorem setFld_frame (d : Dev) (p : Nat) (f : Fld) (v : Nat) :
    (d.setFld p f v).keys = d.keys ∧ (d.setFld p f v).mem = d.mem ∧ (d.setFld p f v).now = d.now ∧
    (d.setFld p f v).fresh = d.fresh ∧ (d.setFld p f v).bus = d.bus ∧ (d.setFld p f v).tile = d.tile ∧
    (d.setFld p f v).conv = d.conv ∧ (d.setFld p f v).disch = d.disch ∧ (d.setFld p f v).fc = d.fc ∧
    (d.setFld p f v).tb = d.tb ∧ (d.setFld p f v).proof = d.proof ∧ (d.setFld p f v).gal = d.gal ∧
    (d.setFld p f v).af = d.af ∧ (d.setFld p f v).adc = d.adc ∧ (d.setFld p f v).bin = d.bin ∧
    (d.setFld p f v).ring = d.ring ∧ (d.setFld p f v).ow = d.ow ∧ (d.setFld p f v).mon = d.mon ∧
    (d.setFld p f v).dom = d.dom ∧ (d.setFld p f v).chg = d.chg ∧ (d.setFld p f v).gauge = d.gauge ∧
    (d.setFld p f v).supply = d.supply ∧ (d.setFld p f v).seq = d.seq ∧ (d.setFld p f v).cel = d.cel ∧
    (d.setFld p f v).boot = d.boot ∧ (d.setFld p f v).comp = d.comp ∧ (d.setFld p f v).mram = d.mram ∧
    (d.setFld p f v).net = d.net ∧ (d.setFld p f v).check = d.check ∧ (d.setFld p f v).host = d.host := by
  simp [setFld]

/-- A flag given a value touches nothing of the device but the register file. -/
@[simp] theorem setFlag_frame (d : Dev) (p : Nat) (f : Fld) (b : Bool) :
    (d.setFlag p f b).keys = d.keys ∧ (d.setFlag p f b).mem = d.mem ∧ (d.setFlag p f b).now = d.now ∧
    (d.setFlag p f b).fresh = d.fresh ∧ (d.setFlag p f b).bus = d.bus ∧ (d.setFlag p f b).tile = d.tile ∧
    (d.setFlag p f b).conv = d.conv ∧ (d.setFlag p f b).disch = d.disch ∧ (d.setFlag p f b).fc = d.fc ∧
    (d.setFlag p f b).tb = d.tb ∧ (d.setFlag p f b).proof = d.proof ∧ (d.setFlag p f b).gal = d.gal ∧
    (d.setFlag p f b).af = d.af ∧ (d.setFlag p f b).adc = d.adc ∧ (d.setFlag p f b).bin = d.bin ∧
    (d.setFlag p f b).ring = d.ring ∧ (d.setFlag p f b).ow = d.ow ∧ (d.setFlag p f b).mon = d.mon ∧
    (d.setFlag p f b).dom = d.dom ∧ (d.setFlag p f b).chg = d.chg ∧ (d.setFlag p f b).gauge = d.gauge ∧
    (d.setFlag p f b).supply = d.supply ∧ (d.setFlag p f b).seq = d.seq ∧ (d.setFlag p f b).cel = d.cel ∧
    (d.setFlag p f b).boot = d.boot ∧ (d.setFlag p f b).comp = d.comp ∧ (d.setFlag p f b).mram = d.mram ∧
    (d.setFlag p f b).net = d.net ∧ (d.setFlag p f b).check = d.check ∧ (d.setFlag p f b).host = d.host := by
  simp [setFlag]

/-- A counter advanced touches nothing of the device but the register file. -/
@[simp] theorem bump_frame (d : Dev) (p o n : Nat) :
    (d.bump p o n).keys = d.keys ∧ (d.bump p o n).mem = d.mem ∧ (d.bump p o n).now = d.now ∧ (d.bump p o n).fresh = d.fresh ∧
    (d.bump p o n).bus = d.bus ∧ (d.bump p o n).tile = d.tile ∧ (d.bump p o n).conv = d.conv ∧ (d.bump p o n).disch = d.disch ∧
    (d.bump p o n).fc = d.fc ∧ (d.bump p o n).tb = d.tb ∧ (d.bump p o n).proof = d.proof ∧ (d.bump p o n).gal = d.gal ∧
    (d.bump p o n).af = d.af ∧ (d.bump p o n).adc = d.adc ∧ (d.bump p o n).bin = d.bin ∧ (d.bump p o n).ring = d.ring ∧
    (d.bump p o n).ow = d.ow ∧ (d.bump p o n).mon = d.mon ∧ (d.bump p o n).dom = d.dom ∧ (d.bump p o n).chg = d.chg ∧
    (d.bump p o n).gauge = d.gauge ∧ (d.bump p o n).supply = d.supply ∧ (d.bump p o n).seq = d.seq ∧
    (d.bump p o n).cel = d.cel ∧ (d.bump p o n).boot = d.boot ∧ (d.bump p o n).comp = d.comp ∧ (d.bump p o n).mram = d.mram ∧
    (d.bump p o n).net = d.net ∧ (d.bump p o n).check = d.check ∧ (d.bump p o n).host = d.host := by
  simp [bump]

/-- What a register reads after a counter has advanced. -/
theorem reg_bump (d : Dev) (p o n p' o' b' : Nat) :
    (d.bump p o n).reg p' o' b' = if regKey p' o' b' = regKey p o then d.reg p o + BitVec.ofNat 32 n else d.reg p' o' b' := by
  unfold bump; rw [reg_setReg]

/-- What a field reads after a counter has advanced. -/
theorem fld_bump_other (d : Dev) (p o n p' : Nat) (f : Fld) (h : regKey p' f.ofs ≠ regKey p o) :
    (d.bump p o n).fld p' f = d.fld p' f := by
  unfold fld; rw [reg_bump, if_neg h]

/-- A flag reads what it has been given. -/
theorem flag_setFlag_self (d : Dev) (p : Nat) (f : Fld) (b : Bool) (h : f.lo + f.w ≤ 32) (hw : 0 < f.w) :
    (d.setFlag p f b).flag p f = b := by
  have h2 : b2n b < 2 ^ f.w := Nat.lt_of_lt_of_le (b2n_lt b) (by
    calc 2 = 2 ^ 1 := rfl
      _ ≤ 2 ^ f.w := Nat.pow_le_pow_right (by decide) hw)
  unfold flag setFlag
  rw [fld_setFld_self d p f _ h, Nat.mod_eq_of_lt h2]
  cases b <;> rfl

/-- Another flag reads as before. -/
theorem flag_setFld_other (d : Dev) (p : Nat) (f : Fld) (v p' : Nat) (g : Fld)
    (h : regKey p' g.ofs ≠ regKey p f.ofs ∨ (g.lo + g.w ≤ 32 ∧ (g.lo + g.w ≤ f.lo ∨ f.lo + f.w ≤ g.lo))) :
    (d.setFld p f v).flag p' g = d.flag p' g := by
  unfold flag; rw [fld_setFld_other d p f v p' g h]

end Dev
end Sys2Proof.Machine
end

