-- ==== Sys2Proof/Laws/Kept.lean ====
section
/-!
SUPPORT. What the operations of the blocks leave alone: memory and the owners of the keys. One lemma per operation, by file;
the operations that may write memory or keys stand in Laws/Canonical.lean.
-/
namespace Sys2Proof.Machine

/-! ## Choices and loops -/

@[simp] theorem Dev.mem_ite (c : Prop) [Decidable c] (a b : Dev) : (if c then a else b).mem = if c then a.mem else b.mem := apply_ite _ _ _ _

@[simp] theorem Dev.keys_ite (c : Prop) [Decidable c] (a b : Dev) : (if c then a else b).keys = if c then a.keys else b.keys := apply_ite _ _ _ _

@[simp] theorem fst_ite {α β : Type} (c : Prop) [Decidable c] (a b : α × β) : (if c then a else b).1 = if c then a.1 else b.1 := apply_ite _ _ _ _

@[simp] theorem snd_ite {α β : Type} (c : Prop) [Decidable c] (a b : α × β) : (if c then a else b).2 = if c then a.2 else b.2 := apply_ite _ _ _ _

theorem Dev.foldl_mem {α : Type} (f : Dev → α → Dev) (h : ∀ d x, (f d x).mem = d.mem) (l : List α) (d : Dev) : (l.foldl f d).mem = d.mem := by
  induction l generalizing d with
  | nil => rfl
  | cons x l ih => simp [ih, h]

theorem Dev.foldl_keys {α : Type} (f : Dev → α → Dev) (h : ∀ d x, (f d x).keys = d.keys) (l : List α) (d : Dev) : (l.foldl f d).keys = d.keys := by
  induction l generalizing d with
  | nil => rfl
  | cons x l ih => simp [ih, h]

@[simp] theorem Dev.each_mem {α : Type} (f : Dev → α → Dev) (h : ∀ d x, (f d x).mem = d.mem) (l : List α) (d : Dev) : (d.each l f).mem = d.mem := Dev.foldl_mem f h l d

@[simp] theorem Dev.each_keys {α : Type} (f : Dev → α → Dev) (h : ∀ d x, (f d x).keys = d.keys) (l : List α) (d : Dev) : (d.each l f).keys = d.keys := Dev.foldl_keys f h l d

/-! ## Ops -/

@[simp] theorem Dev.setReg_store (d : Dev) (p : Nat) (ofs : Nat) (v : Word) (bank : Nat) :
    (Dev.setReg d p ofs v bank).mem = d.mem ∧ (Dev.setReg d p ofs v bank).keys = d.keys := by
  unfold Dev.setReg; constructor <;> simp

@[simp] theorem Dev.setFld_store (d : Dev) (p : Nat) (f : Fld) (v : Nat) :
    (Dev.setFld d p f v).mem = d.mem ∧ (Dev.setFld d p f v).keys = d.keys := by
  unfold Dev.setFld; constructor <;> simp

@[simp] theorem Dev.setFlag_store (d : Dev) (p : Nat) (f : Fld) (b : Bool) :
    (Dev.setFlag d p f b).mem = d.mem ∧ (Dev.setFlag d p f b).keys = d.keys := by
  unfold Dev.setFlag; constructor <;> simp

@[simp] theorem Dev.bump_store (d : Dev) (p : Nat) (ofs : Nat) (n : Nat) :
    (Dev.bump d p ofs n).mem = d.mem ∧ (Dev.bump d p ofs n).keys = d.keys := by
  unfold Dev.bump; constructor <;> simp

@[simp] theorem Dev.bump64_store (d : Dev) (p : Nat) (ofs : Nat) (i : Int) :
    (Dev.bump64 d p ofs i).mem = d.mem ∧ (Dev.bump64 d p ofs i).keys = d.keys := by
  unfold Dev.bump64; constructor <;> simp

@[simp] theorem Dev.bumpFldSat_store (d : Dev) (p : Nat) (f : Fld) :
    (Dev.bumpFldSat d p f).mem = d.mem ∧ (Dev.bumpFldSat d p f).keys = d.keys := by
  unfold Dev.bumpFldSat; constructor <;> simp

@[simp] theorem Dev.takeFree_store (d : Dev) :
    (Dev.takeFree d).2.mem = d.mem ∧ (Dev.takeFree d).2.keys = d.keys := by
  unfold Dev.takeFree; constructor <;> simp

@[simp] theorem Dev.fit_store (d : Dev) (w : Nat) (lo : Int) (hi : Int) (v : Int) :
    (Dev.fit d w lo hi v).2.mem = d.mem ∧ (Dev.fit d w lo hi v).2.keys = d.keys := by
  unfold Dev.fit; constructor <;> simp

@[simp] theorem Dev.modTile_store (d : Dev) (n : Nat) (f : TileS → TileS) :
    (Dev.modTile d n f).mem = d.mem ∧ (Dev.modTile d n f).keys = d.keys := by
  unfold Dev.modTile; constructor <;> simp

@[simp] theorem Dev.modConv_store (d : Dev) (n : Nat) (f : ConvS → ConvS) :
    (Dev.modConv d n f).mem = d.mem ∧ (Dev.modConv d n f).keys = d.keys := by
  unfold Dev.modConv; constructor <;> simp

/-! ## Image -/

@[simp] theorem Dev.bootFailed_store (d : Dev) (code : Nat) (seg : Nat) :
    (Dev.bootFailed d code seg).mem = d.mem ∧ (Dev.bootFailed d code seg).keys = d.keys := by
  unfold Dev.bootFailed; constructor <;> simp

@[simp] theorem Dev.setBootState_store (d : Dev) (n : Nat) :
    (Dev.setBootState d n).mem = d.mem ∧ (Dev.setBootState d n).keys = d.keys := by
  unfold Dev.setBootState; constructor <;> simp

/-! ## Flags -/

@[simp] theorem Dev.measLost_store (d : Dev) :
    (Dev.measLost d).mem = d.mem ∧ (Dev.measLost d).keys = d.keys := by
  unfold Dev.measLost; constructor <;> simp

@[simp] theorem Dev.transition_store (d : Dev) (st : Nat) (cause : Nat) :
    (Dev.transition d st cause).mem = d.mem ∧ (Dev.transition d st cause).keys = d.keys := by
  unfold Dev.transition; constructor <;> simp

@[simp] theorem Dev.refuseCmd_store (d : Dev) (cause : Nat) :
    (Dev.refuseCmd d cause).mem = d.mem ∧ (Dev.refuseCmd d cause).keys = d.keys := by
  unfold Dev.refuseCmd; constructor <;> simp

@[simp] theorem Dev.event_store (d : Dev) (p : Nat) (f : Fld) :
    (Dev.event d p f).mem = d.mem ∧ (Dev.event d p f).keys = d.keys := by
  unfold Dev.event; constructor <;> simp

@[simp] theorem Dev.eventRange_store (d : Dev) (p : Nat) :
    (Dev.eventRange d p).mem = d.mem ∧ (Dev.eventRange d p).keys = d.keys := by
  unfold Dev.eventRange; constructor <;> (repeat' split) <;> simp

@[simp] theorem Dev.setActive_store (d : Dev) (s : Nat) (on : Bool) :
    (Dev.setActive d s on).mem = d.mem ∧ (Dev.setActive d s on).keys = d.keys := by
  unfold Dev.setActive; constructor <;> simp

@[simp] theorem Dev.setFault_store (d : Dev) (k : PageKind) (i : Nat) (b : Nat) (cause : Word) :
    (Dev.setFault d k i b cause).mem = d.mem ∧ (Dev.setFault d k i b cause).keys = d.keys := by
  unfold Dev.setFault; constructor <;> simp

/-! ## Edge -/

@[simp] theorem Dev.cutPulse_store (d : Dev) (n : Nat) (c : Cmp) (x : Nat) :
    (Dev.cutPulse d n c x).mem = d.mem ∧ (Dev.cutPulse d n c x).keys = d.keys := by
  unfold Dev.cutPulse; dsimp only; constructor <;> ((repeat' split) <;> simp)

@[simp] theorem Dev.blankFrom_store (d : Dev) (n : Nat) (o : Out) (x : Nat) (c : Cmp) :
    (Dev.blankFrom d n o x c).mem = d.mem ∧ (Dev.blankFrom d n o x c).keys = d.keys := by
  unfold Dev.blankFrom; constructor <;> simp

@[simp] theorem Dev.levelAt_store (d : Dev) (n : Nat) (o : Out) (x : Nat) (c : Cmp) :
    (Dev.levelAt d n o x c).mem = d.mem ∧ (Dev.levelAt d n o x c).keys = d.keys := by
  unfold Dev.levelAt; constructor <;> simp

@[simp] theorem Dev.rise_store (d : Dev) (n : Nat) (o : Out) (i : Interval) :
    (Dev.rise d n o i).mem = d.mem ∧ (Dev.rise d n o i).keys = d.keys := by
  unfold Dev.rise; constructor <;> simp

@[simp] theorem Dev.rises_store (d : Dev) (n : Nat) (x : Nat) (y : Nat) :
    (Dev.rises d n x y).mem = d.mem ∧ (Dev.rises d n x y).keys = d.keys := by
  induction y generalizing d with
  | zero => exact ⟨rfl, rfl⟩
  | succ k ih => unfold Dev.rises; split <;> simp [ih]

@[simp] theorem Dev.tileAdvance_store (d : Dev) (n : Nat) (x : Nat) :
    (Dev.tileAdvance d n x).mem = d.mem ∧ (Dev.tileAdvance d n x).keys = d.keys := by
  unfold Dev.tileAdvance; constructor <;> simp

@[simp] theorem Dev.takeTable_store (d : Dev) (n : Nat) :
    (Dev.takeTable d n).mem = d.mem ∧ (Dev.takeTable d n).keys = d.keys := by
  unfold Dev.takeTable; (repeat' split) <;> first | exact ⟨rfl, rfl⟩ | simp_all

@[simp] theorem Dev.outputsLow_store (d : Dev) (n : Nat) :
    (Dev.outputsLow d n).mem = d.mem ∧ (Dev.outputsLow d n).keys = d.keys := by
  unfold Dev.outputsLow; constructor <;> simp

/-! ## GaugeFit -/

@[simp] theorem Dev.modGauge_store (d : Dev) (f : GaugeS → GaugeS) :
    (Dev.modGauge d f).mem = d.mem ∧ (Dev.modGauge d f).keys = d.keys := by
  unfold Dev.modGauge; constructor <;> simp

@[simp] theorem Dev.setGaugeState_store (d : Dev) (st : Nat) :
    (Dev.setGaugeState d st).mem = d.mem ∧ (Dev.setGaugeState d st).keys = d.keys := by
  unfold Dev.setGaugeState; constructor <;> simp

@[simp] theorem Dev.gaugeFreeze_store (d : Dev) (g : Nat) :
    (Dev.gaugeFreeze d g).mem = d.mem ∧ (Dev.gaugeFreeze d g).keys = d.keys := by
  unfold Dev.gaugeFreeze; constructor <;> simp

@[simp] theorem Dev.fitResult_store (d : Dev) (code : Nat) :
    (Dev.fitResult d code).mem = d.mem ∧ (Dev.fitResult d code).keys = d.keys := by
  unfold Dev.fitResult; constructor <;> simp

@[simp] theorem Dev.fitData_store (d : Dev) (q : GaugeProbe) (s : StepData) :
    (Dev.fitData d q s).mem = d.mem ∧ (Dev.fitData d q s).keys = d.keys := by
  unfold Dev.fitData; constructor <;> simp

@[simp] theorem Dev.gaugeProbeStart_store (d : Dev) (g : Nat) (ms : Nat) :
    (Dev.gaugeProbeStart d g ms).mem = d.mem ∧ (Dev.gaugeProbeStart d g ms).keys = d.keys := by
  unfold Dev.gaugeProbeStart; constructor <;> simp

@[simp] theorem Dev.gaugeProbeEnd_store (d : Dev) (g : Nat) (aborted : Bool) :
    (Dev.gaugeProbeEnd d g aborted).mem = d.mem ∧ (Dev.gaugeProbeEnd d g aborted).keys = d.keys := by
  unfold Dev.gaugeProbeEnd; constructor <;> simp <;> (repeat' split) <;> simp

@[simp] theorem Dev.gaugeResult_store (d : Dev) (i : Nat) (v : Int) :
    (Dev.gaugeResult d i v).mem = d.mem ∧ (Dev.gaugeResult d i v).keys = d.keys := by
  unfold Dev.gaugeResult; constructor <;> simp

/-! ## React -/

@[simp] theorem Dev.tileStopped_store (d : Dev) (n : Nat) :
    (Dev.tileStopped d n).mem = d.mem ∧ (Dev.tileStopped d n).keys = d.keys := by
  unfold Dev.tileStopped; constructor <;> simp

@[simp] theorem Dev.stopNow_store (d : Dev) (n : Nat) :
    (Dev.stopNow d n).mem = d.mem ∧ (Dev.stopNow d n).keys = d.keys := by
  unfold Dev.stopNow; constructor <;> simp

@[simp] theorem Dev.killTile_store (d : Dev) (n : Nat) (cause : TileS → TileS) :
    (Dev.killTile d n cause).mem = d.mem ∧ (Dev.killTile d n cause).keys = d.keys := by
  unfold Dev.killTile; constructor <;> simp

@[simp] theorem Dev.unkillTile_store (d : Dev) (n : Nat) :
    (Dev.unkillTile d n).mem = d.mem ∧ (Dev.unkillTile d n).keys = d.keys := by
  unfold Dev.unkillTile; constructor <;> simp

@[simp] theorem Dev.wantTiles_store (d : Dev) (g : Nat) (w : Want) :
    (Dev.wantTiles d g w).mem = d.mem ∧ (Dev.wantTiles d g w).keys = d.keys := by
  unfold Dev.wantTiles; constructor <;> simp

@[simp] theorem Dev.abortProbe_store (d : Dev) (g : Nat) :
    (Dev.abortProbe d g).mem = d.mem ∧ (Dev.abortProbe d g).keys = d.keys := by
  unfold Dev.abortProbe; constructor <;> simp

@[simp] theorem Dev.endCirc_store (d : Dev) (g : Nat) :
    (Dev.endCirc d g).mem = d.mem ∧ (Dev.endCirc d g).keys = d.keys := by
  unfold Dev.endCirc; constructor <;> simp

@[simp] theorem Dev.cleanPause_store (d : Dev) (g : Nat) :
    (Dev.cleanPause d g).mem = d.mem ∧ (Dev.cleanPause d g).keys = d.keys := by
  unfold Dev.cleanPause; constructor <;> simp

@[simp] theorem Dev.endRun_store (d : Dev) (g : Nat) :
    (Dev.endRun d g).mem = d.mem ∧ (Dev.endRun d g).keys = d.keys := by
  unfold Dev.endRun; constructor <;> simp

@[simp] theorem Dev.enterStopped_store (d : Dev) (g : Nat) :
    (Dev.enterStopped d g).mem = d.mem ∧ (Dev.enterStopped d g).keys = d.keys := by
  unfold Dev.enterStopped; constructor <;> simp

@[simp] theorem Dev.clearGo_store (d : Dev) (n : Nat) :
    (Dev.clearGo d n).mem = d.mem ∧ (Dev.clearGo d n).keys = d.keys := by
  unfold Dev.clearGo; constructor <;> simp

@[simp] theorem Dev.driveDisch_store (d : Dev) (on : Bool) :
    (Dev.driveDisch d on).mem = d.mem ∧ (Dev.driveDisch d on).keys = d.keys := by
  unfold Dev.driveDisch; constructor <;> simp

@[simp] theorem Dev.dischOn_store (d : Dev) (trig : Nat) (guard : Bool) (byStart : Bool) :
    (Dev.dischOn d trig guard byStart).mem = d.mem ∧ (Dev.dischOn d trig guard byStart).keys = d.keys := by
  unfold Dev.dischOn; constructor <;> simp

@[simp] theorem Dev.restartQuiet_store (d : Dev) :
    (Dev.restartQuiet d).mem = d.mem ∧ (Dev.restartQuiet d).keys = d.keys := by
  unfold Dev.restartQuiet; constructor <;> simp

@[simp] theorem Dev.chgReacted_store (d : Dev) :
    (Dev.chgReacted d).mem = d.mem ∧ (Dev.chgReacted d).keys = d.keys := by
  unfold Dev.chgReacted; constructor <;> simp

@[simp] theorem Dev.haltReaction_store (d : Dev) :
    (Dev.haltReaction d).mem = d.mem ∧ (Dev.haltReaction d).keys = d.keys := by
  unfold Dev.haltReaction; constructor <;> simp

@[simp] theorem Dev.record_store (d : Dev) (s : Nat) (sev : Nat) (data : Word) (isRepeat : Bool) :
    (Dev.record d s sev data isRepeat).mem = d.mem ∧ (Dev.record d s sev data isRepeat).keys = d.keys := by
  unfold Dev.record; constructor <;> simp

@[simp] theorem Dev.resetReaction_store (d : Dev) :
    (Dev.resetReaction d).mem = d.mem ∧ (Dev.resetReaction d).keys = d.keys := by
  unfold Dev.resetReaction; constructor <;> simp

@[simp] theorem Dev.lower_store (d : Dev) (k : PageKind) (i : Nat) (b : Nat) :
    (Dev.lower d k i b).mem = d.mem ∧ (Dev.lower d k i b).keys = d.keys := by
  unfold Dev.lower; constructor <;> simp

@[simp] theorem Dev.tripCause_store (d : Dev) (n : Nat) :
    (Dev.tripCause d n).mem = d.mem ∧ (Dev.tripCause d n).keys = d.keys := by
  unfold Dev.tripCause; constructor <;> simp

/-! ## KeyRack -/

@[simp] theorem Dev.krResult_store (d : Dev) (m : Master) (res : Nat) (k : Nat) (holder : Nat) :
    (Dev.krResult d m res k holder).mem = d.mem ∧ (Dev.krResult d m res k holder).keys = d.keys := by
  unfold Dev.krResult; constructor <;> simp

/-! ## Secure -/

@[simp] theorem Dev.refuse_store (d : Dev) (m : Master) (p : Nat) (ofs : Nat) :
    (Dev.refuse d m p ofs).mem = d.mem ∧ (Dev.refuse d m p ofs).keys = d.keys := by
  unfold Dev.refuse; constructor <;> simp

/-! ## Supply -/

@[simp] theorem Dev.modSupply_store (d : Dev) (f : SupplyS → SupplyS) :
    (Dev.modSupply d f).mem = d.mem ∧ (Dev.modSupply d f).keys = d.keys := by
  unfold Dev.modSupply; constructor <;> simp

@[simp] theorem Dev.modBuck_store (d : Dev) (n : Nat) (f : BuckS → BuckS) :
    (Dev.modBuck d n f).mem = d.mem ∧ (Dev.modBuck d n f).keys = d.keys := by
  unfold Dev.modBuck; constructor <;> simp

@[simp] theorem Dev.rotateLead_store (d : Dev) (n : Nat) :
    (Dev.rotateLead d n).mem = d.mem ∧ (Dev.rotateLead d n).keys = d.keys := by
  unfold Dev.rotateLead; constructor <;> simp

@[simp] theorem Dev.buckSoftStart_store (d : Dev) (n : Nat) :
    (Dev.buckSoftStart d n).mem = d.mem ∧ (Dev.buckSoftStart d n).keys = d.keys := by
  unfold Dev.buckSoftStart; constructor <;> simp

@[simp] theorem Dev.setBucks_store (d : Dev) (f : Fld) (n : Nat) (on : Bool) :
    (Dev.setBucks d f n on).mem = d.mem ∧ (Dev.setBucks d f n on).keys = d.keys := by
  unfold Dev.setBucks; constructor <;> simp

@[simp] theorem Dev.setRel_store (d : Dev) (st : Nat) :
    (Dev.setRel d st).mem = d.mem ∧ (Dev.setRel d st).keys = d.keys := by
  unfold Dev.setRel; constructor <;> simp

@[simp] theorem Dev.modBoost_store (d : Dev) (f : BoostS → BoostS) :
    (Dev.modBoost d f).mem = d.mem ∧ (Dev.modBoost d f).keys = d.keys := by
  unfold Dev.modBoost; constructor <;> simp

@[simp] theorem Dev.relStart_store (d : Dev) :
    (Dev.relStart d).mem = d.mem ∧ (Dev.relStart d).keys = d.keys := by
  unfold Dev.relStart; constructor <;> simp

@[simp] theorem Dev.relStop_store (d : Dev) :
    (Dev.relStop d).mem = d.mem ∧ (Dev.relStop d).keys = d.keys := by
  unfold Dev.relStop; constructor <;> simp

@[simp] theorem Dev.relSwitch_store (d : Dev) (on : Bool) :
    (Dev.relSwitch d on).mem = d.mem ∧ (Dev.relSwitch d on).keys = d.keys := by
  unfold Dev.relSwitch; constructor <;> simp

@[simp] theorem Dev.regSwitch_store (d : Dev) (n : Nat) (on : Bool) :
    (Dev.regSwitch d n on).mem = d.mem ∧ (Dev.regSwitch d n on).keys = d.keys := by
  unfold Dev.regSwitch; constructor <;> simp

@[simp] theorem Dev.buckRestart_store (d : Dev) (k : Nat) :
    (Dev.buckRestart d k).mem = d.mem ∧ (Dev.buckRestart d k).keys = d.keys := by
  unfold Dev.buckRestart; constructor <;> simp

@[simp] theorem Dev.buckSoftEnd_store (d : Dev) (k : Nat) :
    (Dev.buckSoftEnd d k).mem = d.mem ∧ (Dev.buckSoftEnd d k).keys = d.keys := by
  unfold Dev.buckSoftEnd; constructor <;> simp

@[simp] theorem Dev.buckClean_store (d : Dev) (k : Nat) :
    (Dev.buckClean d k).mem = d.mem ∧ (Dev.buckClean d k).keys = d.keys := by
  unfold Dev.buckClean; constructor <;> simp

@[simp] theorem Dev.supplyUnlatch_store (d : Dev) (mask : Nat) (off : Nat → Bool) :
    (Dev.supplyUnlatch d mask off).mem = d.mem ∧ (Dev.supplyUnlatch d mask off).keys = d.keys := by
  unfold Dev.supplyUnlatch; constructor <;> simp

@[simp] theorem Dev.buckBurst_store (d : Dev) (k : Nat) :
    (Dev.buckBurst d k).mem = d.mem ∧ (Dev.buckBurst d k).keys = d.keys := by
  unfold Dev.buckBurst; constructor <;> simp

@[simp] theorem Dev.buckWake_store (d : Dev) (k : Nat) (high : Bool) :
    (Dev.buckWake d k high).mem = d.mem ∧ (Dev.buckWake d k high).keys = d.keys := by
  unfold Dev.buckWake; constructor <;> simp

@[simp] theorem Dev.syncBucks_store (d : Dev) :
    (Dev.syncBucks d).mem = d.mem ∧ (Dev.syncBucks d).keys = d.keys := by
  unfold Dev.syncBucks; constructor <;> simp

@[simp] theorem Dev.relSoftEnd_store (d : Dev) :
    (Dev.relSoftEnd d).mem = d.mem ∧ (Dev.relSoftEnd d).keys = d.keys := by
  unfold Dev.relSoftEnd; constructor <;> simp

@[simp] theorem Dev.relResume_store (d : Dev) (vbak : Nat) :
    (Dev.relResume d vbak).mem = d.mem ∧ (Dev.relResume d vbak).keys = d.keys := by
  unfold Dev.relResume; constructor <;> simp

@[simp] theorem Dev.relCoolEnd_store (d : Dev) :
    (Dev.relCoolEnd d).mem = d.mem ∧ (Dev.relCoolEnd d).keys = d.keys := by
  unfold Dev.relCoolEnd; constructor <;> simp

@[simp] theorem Dev.setBak_store (d : Dev) (st : Nat) :
    (Dev.setBak d st).mem = d.mem ∧ (Dev.setBak d st).keys = d.keys := by
  unfold Dev.setBak; constructor <;> simp

@[simp] theorem Dev.vinSet_store (d : Dev) (vin : Nat) (vbak : Nat) (ms : Nat) :
    (Dev.vinSet d vin vbak ms).mem = d.mem ∧ (Dev.vinSet d vin vbak ms).keys = d.keys := by
  unfold Dev.vinSet; constructor <;> simp

@[simp] theorem Dev.vinLost_store (d : Dev) (vin : Nat) (vsys : Nat) :
    (Dev.vinLost d vin vsys).mem = d.mem ∧ (Dev.vinLost d vin vsys).keys = d.keys := by
  unfold Dev.vinLost; constructor <;> simp

@[simp] theorem Dev.pathLimit_store (d : Dev) (bak : Bool) :
    (Dev.pathLimit d bak).mem = d.mem ∧ (Dev.pathLimit d bak).keys = d.keys := by
  unfold Dev.pathLimit; constructor <;> simp

@[simp] theorem Dev.vbakSwitch_store (d : Dev) (on : Bool) :
    (Dev.vbakSwitch d on).mem = d.mem ∧ (Dev.vbakSwitch d on).keys = d.keys := by
  unfold Dev.vbakSwitch; constructor <;> simp

@[simp] theorem Dev.modBak_store (d : Dev) (f : BakS → BakS) :
    (Dev.modBak d f).mem = d.mem ∧ (Dev.modBak d f).keys = d.keys := by
  unfold Dev.modBak; constructor <;> simp

@[simp] theorem Dev.showBak_store (d : Dev) :
    (Dev.showBak d).mem = d.mem ∧ (Dev.showBak d).keys = d.keys := by
  unfold Dev.showBak; constructor <;> simp

@[simp] theorem Dev.bakReset_store (d : Dev) :
    (Dev.bakReset d).mem = d.mem ∧ (Dev.bakReset d).keys = d.keys := by
  unfold Dev.bakReset; constructor <;> simp

@[simp] theorem Dev.chargerTick_store (d : Dev) (vbak : Nat) (ibak : Nat) :
    (Dev.chargerTick d vbak ibak).mem = d.mem ∧ (Dev.chargerTick d vbak ibak).keys = d.keys := by
  unfold Dev.chargerTick; constructor <;> simp

@[simp] theorem Dev.bakRestart_store (d : Dev) :
    (Dev.bakRestart d).mem = d.mem ∧ (Dev.bakRestart d).keys = d.keys := by
  unfold Dev.bakRestart; constructor <;> simp

@[simp] theorem Dev.setSysSrc_store (d : Dev) (s : Nat) :
    (Dev.setSysSrc d s).mem = d.mem ∧ (Dev.setSysSrc d s).keys = d.keys := by
  unfold Dev.setSysSrc; constructor <;> simp

@[simp] theorem Dev.sysclkToPll_store (d : Dev) :
    (Dev.sysclkToPll d).mem = d.mem ∧ (Dev.sysclkToPll d).keys = d.keys := by
  unfold Dev.sysclkToPll; constructor <;> simp

@[simp] theorem Dev.xtalBack_store (d : Dev) :
    (Dev.xtalBack d).mem = d.mem ∧ (Dev.xtalBack d).keys = d.keys := by
  unfold Dev.xtalBack; constructor <;> simp

/-! ## Domain -/

@[simp] theorem Dev.modDom_store (d : Dev) (n : Nat) (f : DomS → DomS) :
    (Dev.modDom d n f).mem = d.mem ∧ (Dev.modDom d n f).keys = d.keys := by
  unfold Dev.modDom; constructor <;> simp

@[simp] theorem Dev.setDomState_store (d : Dev) (n : Nat) (st : Nat) :
    (Dev.setDomState d n st).mem = d.mem ∧ (Dev.setDomState d n st).keys = d.keys := by
  unfold Dev.setDomState; constructor <;> simp

@[simp] theorem Dev.domJudge_store (d : Dev) (n : Nat) (v : Nat) :
    (Dev.domJudge d n v).mem = d.mem ∧ (Dev.domJudge d n v).keys = d.keys := by
  unfold Dev.domJudge; constructor <;> simp

@[simp] theorem Dev.domainOn_store (d : Dev) (n : Nat) :
    (Dev.domainOn d n).mem = d.mem ∧ (Dev.domainOn d n).keys = d.keys := by
  unfold Dev.domainOn; constructor <;> simp

@[simp] theorem Dev.domCut_store (d : Dev) (n : Nat) :
    (Dev.domCut d n).mem = d.mem ∧ (Dev.domCut d n).keys = d.keys := by
  unfold Dev.domCut; constructor <;> simp

@[simp] theorem Dev.domFaultCleared_store (d : Dev) (n : Nat) :
    (Dev.domFaultCleared d n).mem = d.mem ∧ (Dev.domFaultCleared d n).keys = d.keys := by
  unfold Dev.domFaultCleared; constructor <;> simp

/-! ## Tile -/

@[simp] theorem Dev.endPeriod_store (d : Dev) (n : Nat) :
    (Dev.endPeriod d n).mem = d.mem ∧ (Dev.endPeriod d n).keys = d.keys := by
  unfold Dev.endPeriod; constructor <;> simp

@[simp] theorem Dev.takePeriod_store (d : Dev) (n : Nat) :
    (Dev.takePeriod d n).2.mem = d.mem ∧ (Dev.takePeriod d n).2.keys = d.keys := by
  unfold Dev.takePeriod; constructor <;> simp

@[simp] theorem Dev.layPeriod_store (d : Dev) (n : Nat) (fresh : Bool) :
    (Dev.layPeriod d n fresh).mem = d.mem ∧ (Dev.layPeriod d n fresh).keys = d.keys := by
  unfold Dev.layPeriod
  have h := Dev.takePeriod_store d n
  rcases hp : d.takePeriod n with ⟨per, e⟩
  rw [hp] at h
  simp only [] at h
  constructor <;> dsimp only <;> split <;> simp [h]

@[simp] theorem Dev.ncycReached_store (d : Dev) (n : Nat) :
    (Dev.ncycReached d n).mem = d.mem ∧ (Dev.ncycReached d n).keys = d.keys := by
  unfold Dev.ncycReached; constructor <;> simp

@[simp] theorem Dev.finishPeriod_store (d : Dev) (n : Nat) :
    (Dev.finishPeriod d n).mem = d.mem ∧ (Dev.finishPeriod d n).keys = d.keys := by
  unfold Dev.finishPeriod; constructor <;> simp

@[simp] theorem Dev.tilePeriodStart_store (d : Dev) (n : Nat) :
    (Dev.tilePeriodStart d n).mem = d.mem ∧ (Dev.tilePeriodStart d n).keys = d.keys := by
  unfold Dev.tilePeriodStart; constructor <;> simp <;> (repeat' split) <;> simp

@[simp] theorem Dev.calStart_store (d : Dev) (n : Nat) :
    (Dev.calStart d n).mem = d.mem ∧ (Dev.calStart d n).keys = d.keys := by
  unfold Dev.calStart; constructor <;> simp

@[simp] theorem Dev.tileFaultCleared_store (d : Dev) (n : Nat) :
    (Dev.tileFaultCleared d n).mem = d.mem ∧ (Dev.tileFaultCleared d n).keys = d.keys := by
  unfold Dev.tileFaultCleared; constructor <;> simp

/-! ## Conv -/

@[simp] theorem Dev.setActiveHeads_store (d : Dev) (g : Nat) (hs : List Nat) (lead : Nat) :
    (Dev.setActiveHeads d g hs lead).mem = d.mem ∧ (Dev.setActiveHeads d g hs lead).keys = d.keys := by
  unfold Dev.setActiveHeads; constructor <;> simp

@[simp] theorem Dev.bindTiles_store (d : Dev) (g : Nat) :
    (Dev.bindTiles d g).mem = d.mem ∧ (Dev.bindTiles d g).keys = d.keys := by
  unfold Dev.bindTiles; constructor <;> simp

@[simp] theorem Dev.unbindTile_store (d : Dev) (n : Nat) :
    (Dev.unbindTile d n).mem = d.mem ∧ (Dev.unbindTile d n).keys = d.keys := by
  unfold Dev.unbindTile; constructor <;> simp

@[simp] theorem Dev.rebind_store (d : Dev) (e : Dev) (g : Nat) (h : e.mem = d.mem ∧ e.keys = d.keys) :
    (Dev.rebind d e g).mem = d.mem ∧ (Dev.rebind d e g).keys = d.keys := by
  unfold Dev.rebind; constructor <;> simp [h]

@[simp] theorem Dev.convEnable_store (d : Dev) (g : Nat) (on : Bool) (keys : Bool) :
    (Dev.convEnable d g on keys).mem = d.mem ∧ (Dev.convEnable d g on keys).keys = d.keys := by
  unfold Dev.convEnable; constructor <;> simp

@[simp] theorem Dev.enterSoftStart_store (d : Dev) (g : Nat) :
    (Dev.enterSoftStart d g).mem = d.mem ∧ (Dev.enterSoftStart d g).keys = d.keys := by
  unfold Dev.enterSoftStart; constructor <;> simp

@[simp] theorem Dev.groupStart_store (d : Dev) (g : Nat) :
    (Dev.groupStart d g).mem = d.mem ∧ (Dev.groupStart d g).keys = d.keys := by
  unfold Dev.groupStart; constructor <;> simp

@[simp] theorem Dev.groupGo_store (d : Dev) (g : Nat) (go : Bool) :
    (Dev.groupGo d g go).mem = d.mem ∧ (Dev.groupGo d g go).keys = d.keys := by
  unfold Dev.groupGo; constructor <;> simp

@[simp] theorem Dev.collect_store (d : Dev) (g : Nat) (c : GroupCmd) :
    (Dev.collect d g c).mem = d.mem ∧ (Dev.collect d g c).keys = d.keys := by
  unfold Dev.collect; constructor <;> simp

@[simp] theorem Dev.takeRef_store (d : Dev) (g : Nat) (v : Int) (moved : Bool) (raised : Bool) :
    (Dev.takeRef d g v moved raised).1.mem = d.mem ∧ (Dev.takeRef d g v moved raised).1.keys = d.keys := by
  unfold Dev.takeRef; constructor <;> simp

@[simp] theorem Dev.dropProbe_store (d : Dev) (g : Nat) :
    (Dev.dropProbe d g).mem = d.mem ∧ (Dev.dropProbe d g).keys = d.keys := by
  unfold Dev.dropProbe; constructor <;> simp

@[simp] theorem Dev.takeRefIn_store (d : Dev) (g : Nat) (v : Int) (k : Taken) :
    (Dev.takeRefIn d g v k).1.mem = d.mem ∧ (Dev.takeRefIn d g v k).1.keys = d.keys := by
  unfold Dev.takeRefIn; constructor <;> simp

@[simp] theorem Dev.takeCommands_store (d : Dev) (g : Nat) (n : List GroupCmd) (x : Taken) :
    (Dev.takeCommands d g n x).1.mem = d.mem ∧ (Dev.takeCommands d g n x).1.keys = d.keys := by
  induction n generalizing d x with
  | nil => simp [Dev.takeCommands]
  | cons c l ih => cases c <;> simp [Dev.takeCommands, ih]

@[simp] theorem Dev.slew_store (d : Dev) (g : Nat) (dt : Nat) :
    (Dev.slew d g dt).mem = d.mem ∧ (Dev.slew d g dt).keys = d.keys := by
  unfold Dev.slew; constructor <;> simp

@[simp] theorem Dev.outerLoop_store (d : Dev) (g : Nat) (force : Bool) (probing : Bool) :
    (Dev.outerLoop d g force probing).mem = d.mem ∧ (Dev.outerLoop d g force probing).keys = d.keys := by
  unfold Dev.outerLoop; constructor <;> simp

@[simp] theorem Dev.startProbe_store (d : Dev) (g : Nat) (q : ProbeRun) :
    (Dev.startProbe d g q).mem = d.mem ∧ (Dev.startProbe d g q).keys = d.keys := by
  unfold Dev.startProbe; constructor <;> simp

@[simp] theorem Dev.takeProbe_store (d : Dev) (g : Nat) (n : Option ProbeRun) :
    (Dev.takeProbe d g n).mem = d.mem ∧ (Dev.takeProbe d g n).keys = d.keys := by
  cases n with
  | none => exact ⟨rfl, rfl⟩
  | some q => unfold Dev.takeProbe; split <;> simp

@[simp] theorem Dev.formRef_store (d : Dev) (g : Nat) :
    (Dev.formRef d g).mem = d.mem ∧ (Dev.formRef d g).keys = d.keys := by
  unfold Dev.formRef; constructor <;> simp

@[simp] theorem Dev.lawLoad_store (d : Dev) (g : Nat) :
    (Dev.lawLoad d g).mem = d.mem ∧ (Dev.lawLoad d g).keys = d.keys := by
  unfold Dev.lawLoad; constructor <;> simp

@[simp] theorem Dev.lawClear_store (d : Dev) (g : Nat) :
    (Dev.lawClear d g).mem = d.mem ∧ (Dev.lawClear d g).keys = d.keys := by
  unfold Dev.lawClear; constructor <;> simp

@[simp] theorem Dev.takeLaw_store (d : Dev) (g : Nat) :
    (Dev.takeLaw d g).1.mem = d.mem ∧ (Dev.takeLaw d g).1.keys = d.keys := by
  unfold Dev.takeLaw; constructor <;> simp

@[simp] theorem Dev.unlatch_store (d : Dev) (g : Nat) :
    (Dev.unlatch d g).mem = d.mem ∧ (Dev.unlatch d g).keys = d.keys := by
  unfold Dev.unlatch; constructor <;> simp

@[simp] theorem Dev.convRestore_store (d : Dev) (g : Nat) :
    (Dev.convRestore d g).mem = d.mem ∧ (Dev.convRestore d g).keys = d.keys := by
  unfold Dev.convRestore; constructor <;> simp

@[simp] theorem Dev.advanceLead_store (d : Dev) (g : Nat) :
    (Dev.advanceLead d g).mem = d.mem ∧ (Dev.advanceLead d g).keys = d.keys := by
  unfold Dev.advanceLead; constructor <;> simp

@[simp] theorem Dev.reimpose_store (d : Dev) (g : Nat) (hs : List Nat) (counter : Nat) (ev : Fld) :
    (Dev.reimpose d g hs counter ev).mem = d.mem ∧ (Dev.reimpose d g hs counter ev).keys = d.keys := by
  unfold Dev.reimpose; constructor <;> simp

@[simp] theorem Dev.wantPhase_store (d : Dev) (g : Nat) (h : Nat) (w : Want) :
    (Dev.wantPhase d g h w).mem = d.mem ∧ (Dev.wantPhase d g h w).keys = d.keys := by
  unfold Dev.wantPhase; constructor <;> simp

@[simp] theorem Dev.shedPhase_store (d : Dev) (g : Nat) (h : Nat) :
    (Dev.shedPhase d g h).mem = d.mem ∧ (Dev.shedPhase d g h).keys = d.keys := by
  unfold Dev.shedPhase; constructor <;> simp

@[simp] theorem Dev.addPhase_store (d : Dev) (g : Nat) (h : Nat) :
    (Dev.addPhase d g h).mem = d.mem ∧ (Dev.addPhase d g h).keys = d.keys := by
  unfold Dev.addPhase; constructor <;> simp

@[simp] theorem Dev.addShed_store (d : Dev) (g : Nat) (i : Option Int) :
    (Dev.addShed d g i).1.mem = d.mem ∧ (Dev.addShed d g i).1.keys = d.keys := by
  unfold Dev.addShed; constructor <;> simp

@[simp] theorem Dev.evaluate_store (d : Dev) (g : Nat) (i : Int) (means : Nat → Option Int) :
    (Dev.evaluate d g i means).mem = d.mem ∧ (Dev.evaluate d g i means).keys = d.keys := by
  unfold Dev.evaluate; constructor <;> simp <;> (repeat' split) <;> simp

@[simp] theorem Dev.hiccupOver_store (d : Dev) (g : Nat) :
    (Dev.hiccupOver d g).mem = d.mem ∧ (Dev.hiccupOver d g).keys = d.keys := by
  unfold Dev.hiccupOver; constructor <;> simp

@[simp] theorem Dev.hiccupClean_store (d : Dev) (g : Nat) :
    (Dev.hiccupClean d g).mem = d.mem ∧ (Dev.hiccupClean d g).keys = d.keys := by
  unfold Dev.hiccupClean; (repeat' split) <;> first | exact ⟨rfl, rfl⟩ | simp_all

@[simp] theorem Dev.wantActive_store (d : Dev) (g : Nat) (w : Want) :
    (Dev.wantActive d g w).mem = d.mem ∧ (Dev.wantActive d g w).keys = d.keys := by
  unfold Dev.wantActive; constructor <;> simp

@[simp] theorem Dev.burst_store (d : Dev) (g : Nat) (k : Taken) :
    (Dev.burst d g k).1.mem = d.mem ∧ (Dev.burst d g k).1.keys = d.keys := by
  unfold Dev.burst; constructor <;> simp

@[simp] theorem Dev.nextPeriod_store (d : Dev) (g : Nat) :
    (Dev.nextPeriod d g).2.mem = d.mem ∧ (Dev.nextPeriod d g).2.keys = d.keys := by
  unfold Dev.nextPeriod; constructor <;> simp

@[simp] theorem Dev.tileSupply_store (d : Dev) (g : Nat) (per : Nat) (i : Option Int) :
    (Dev.tileSupply d g per i).mem = d.mem ∧ (Dev.tileSupply d g per i).keys = d.keys := by
  unfold Dev.tileSupply; constructor <;> simp

@[simp] theorem Dev.reachU_store (d : Dev) (g : Nat) :
    (Dev.reachU d g).mem = d.mem ∧ (Dev.reachU d g).keys = d.keys := by
  unfold Dev.reachU; constructor <;> simp

@[simp] theorem Dev.closePeriod_store (d : Dev) (g : Nat) :
    (Dev.closePeriod d g).mem = d.mem ∧ (Dev.closePeriod d g).keys = d.keys := by
  unfold Dev.closePeriod; constructor <;> simp

@[simp] theorem Dev.probeTick_store (d : Dev) (g : Nat) :
    (Dev.probeTick d g).mem = d.mem ∧ (Dev.probeTick d g).keys = d.keys := by
  unfold Dev.probeTick; constructor <;> simp <;> (repeat' split) <;> simp

@[simp] theorem Dev.askTiles_store (d : Dev) (g : Nat) :
    (Dev.askTiles d g).mem = d.mem ∧ (Dev.askTiles d g).keys = d.keys := by
  unfold Dev.askTiles; constructor <;> simp

@[simp] theorem Dev.openPeriod_store (d : Dev) (g : Nat) (i : Option Int) (rotate : Bool) :
    (Dev.openPeriod d g i rotate).mem = d.mem ∧ (Dev.openPeriod d g i rotate).keys = d.keys := by
  unfold Dev.openPeriod; constructor <;> simp

@[simp] theorem Dev.judgePeriod_store (d : Dev) (g : Nat) (i : Option Int) :
    (Dev.judgePeriod d g i).mem = d.mem ∧ (Dev.judgePeriod d g i).keys = d.keys := by
  unfold Dev.judgePeriod; dsimp only; constructor <;> ((repeat' split) <;> simp)

@[simp] theorem Dev.advanceRef_store (d : Dev) (g : Nat) :
    (Dev.advanceRef d g).mem = d.mem ∧ (Dev.advanceRef d g).keys = d.keys := by
  unfold Dev.advanceRef; constructor <;> simp

@[simp] theorem Dev.loadPhases_store (d : Dev) (g : Nat) (i : Option Int) (shed : Bool) :
    (Dev.loadPhases d g i shed).1.mem = d.mem ∧ (Dev.loadPhases d g i shed).1.keys = d.keys := by
  unfold Dev.loadPhases; constructor <;> simp

@[simp] theorem Dev.runPeriod_store (d : Dev) (g : Nat) (i : Option Int) (had : Bool) (shed : Bool) :
    (Dev.runPeriod d g i had shed).mem = d.mem ∧ (Dev.runPeriod d g i had shed).keys = d.keys := by
  unfold Dev.runPeriod; constructor <;> simp

@[simp] theorem Dev.compute_store (d : Dev) (g : Nat) :
    (Dev.compute d g).mem = d.mem ∧ (Dev.compute d g).keys = d.keys := by
  unfold Dev.compute; constructor <;> simp

/-! ## Compar -/

@[simp] theorem Dev.valleySeen_store (d : Dev) (n : Nat) (x : Nat) :
    (Dev.valleySeen d n x).mem = d.mem ∧ (Dev.valleySeen d n x).keys = d.keys := by
  unfold Dev.valleySeen; constructor <;> simp

@[simp] theorem Dev.cmpAct_store (d : Dev) (n : Nat) (c : Cmp) (x : Nat) :
    (Dev.cmpAct d n c x).mem = d.mem ∧ (Dev.cmpAct d n c x).keys = d.keys := by
  unfold Dev.cmpAct; constructor <;> simp <;> (repeat' split) <;> simp

@[simp] theorem Dev.blankEnd_store (d : Dev) (n : Nat) (c : Cmp) (x : Nat) :
    (Dev.blankEnd d n c x).mem = d.mem ∧ (Dev.blankEnd d n c x).keys = d.keys := by
  unfold Dev.blankEnd; constructor <;> simp

/-! ## Disch -/

@[simp] theorem Dev.dischRefused_store (d : Dev) :
    (Dev.dischRefused d).mem = d.mem ∧ (Dev.dischRefused d).keys = d.keys := by
  unfold Dev.dischRefused; constructor <;> simp

@[simp] theorem Dev.dischOff_store (d : Dev) :
    (Dev.dischOff d).mem = d.mem ∧ (Dev.dischOff d).keys = d.keys := by
  unfold Dev.dischOff; constructor <;> simp

@[simp] theorem Dev.dischDisarmTrigger_store (d : Dev) :
    (Dev.dischDisarmTrigger d).mem = d.mem ∧ (Dev.dischDisarmTrigger d).keys = d.keys := by
  unfold Dev.dischDisarmTrigger; constructor <;> simp

@[simp] theorem Dev.dischStart_store (d : Dev) :
    (Dev.dischStart d).mem = d.mem ∧ (Dev.dischStart d).keys = d.keys := by
  unfold Dev.dischStart; constructor <;> simp

@[simp] theorem Dev.dischStop_store (d : Dev) :
    (Dev.dischStop d).mem = d.mem ∧ (Dev.dischStop d).keys = d.keys := by
  unfold Dev.dischStop; constructor <;> simp

@[simp] theorem Dev.circulate_store (d : Dev) :
    (Dev.circulate d).mem = d.mem ∧ (Dev.circulate d).keys = d.keys := by
  unfold Dev.circulate; constructor <;> simp

@[simp] theorem Dev.dischTest_store (d : Dev) :
    (Dev.dischTest d).mem = d.mem ∧ (Dev.dischTest d).keys = d.keys := by
  unfold Dev.dischTest; constructor <;> simp

@[simp] theorem Dev.dischTick_store (d : Dev) :
    (Dev.dischTick d).mem = d.mem ∧ (Dev.dischTick d).keys = d.keys := by
  unfold Dev.dischTick; constructor <;> simp

@[simp] theorem Dev.dischSettle_store (d : Dev) :
    (Dev.dischSettle d).mem = d.mem ∧ (Dev.dischSettle d).keys = d.keys := by
  unfold Dev.dischSettle; constructor <;> simp

@[simp] theorem Dev.dischResult_store (d : Dev) (v : Int) :
    (Dev.dischResult d v).mem = d.mem ∧ (Dev.dischResult d v).keys = d.keys := by
  unfold Dev.dischResult; constructor <;> simp

@[simp] theorem Dev.dischOw_store (d : Dev) :
    (Dev.dischOw d).mem = d.mem ∧ (Dev.dischOw d).keys = d.keys := by
  unfold Dev.dischOw; constructor <;> simp

@[simp] theorem Dev.dischHoldExpiry_store (d : Dev) :
    (Dev.dischHoldExpiry d).mem = d.mem ∧ (Dev.dischHoldExpiry d).keys = d.keys := by
  unfold Dev.dischHoldExpiry; constructor <;> simp

/-! ## Proof -/

@[simp] theorem Dev.autoHold_store (d : Dev) (trig : Nat) :
    (Dev.autoHold d trig).mem = d.mem ∧ (Dev.autoHold d trig).keys = d.keys := by
  unfold Dev.autoHold; constructor <;> simp

@[simp] theorem Dev.takeProof_store (d : Dev) (trig : Nat) :
    (Dev.takeProof d trig).mem = d.mem ∧ (Dev.takeProof d trig).keys = d.keys := by
  unfold Dev.takeProof; constructor <;> simp

@[simp] theorem Dev.missProof_store (d : Dev) :
    (Dev.missProof d).mem = d.mem ∧ (Dev.missProof d).keys = d.keys := by
  unfold Dev.missProof; constructor <;> simp

@[simp] theorem Dev.proofTrigger_store (d : Dev) (i : Nat) :
    (Dev.proofTrigger d i).mem = d.mem ∧ (Dev.proofTrigger d i).keys = d.keys := by
  unfold Dev.proofTrigger; constructor <;> simp

@[simp] theorem Dev.proofTick_store (d : Dev) :
    (Dev.proofTick d).mem = d.mem ∧ (Dev.proofTick d).keys = d.keys := by
  unfold Dev.proofTick; constructor <;> simp

@[simp] theorem Dev.holdWrite_store (d : Dev) (m : Master) (w : Word) :
    (Dev.holdWrite d m w).mem = d.mem ∧ (Dev.holdWrite d m w).keys = d.keys := by
  unfold Dev.holdWrite; constructor <;> simp

@[simp] theorem Dev.holdExpired_store (d : Dev) :
    (Dev.holdExpired d).mem = d.mem ∧ (Dev.holdExpired d).keys = d.keys := by
  unfold Dev.holdExpired; constructor <;> simp

@[simp] theorem Dev.proofPeriodic_store (d : Dev) :
    (Dev.proofPeriodic d).mem = d.mem ∧ (Dev.proofPeriodic d).keys = d.keys := by
  unfold Dev.proofPeriodic; constructor <;> simp

/-! ## Galley -/

@[simp] theorem Dev.imposeResult_store (d : Dev) (r : Nat) :
    (Dev.imposeResult d r).mem = d.mem ∧ (Dev.imposeResult d r).keys = d.keys := by
  unfold Dev.imposeResult; constructor <;> simp

@[simp] theorem Dev.imposeFail_store (d : Dev) (r : Nat) (bad : Nat) :
    (Dev.imposeFail d r bad).mem = d.mem ∧ (Dev.imposeFail d r bad).keys = d.keys := by
  unfold Dev.imposeFail; constructor <;> simp

@[simp] theorem Dev.setPending_store (d : Dev) (n : Nat) (r : Option ImposeReq) :
    (Dev.setPending d n r).mem = d.mem ∧ (Dev.setPending d n r).keys = d.keys := by
  unfold Dev.setPending; constructor <;> simp

@[simp] theorem Dev.setScans_store (d : Dev) (q : List Nat) :
    (Dev.setScans d q).mem = d.mem ∧ (Dev.setScans d q).keys = d.keys := by
  unfold Dev.setScans; constructor <;> simp

@[simp] theorem Dev.impose_store (d : Dev) (n : Nat) (bank : Nat) (key : Bool) :
    (Dev.impose d n bank key).mem = d.mem ∧ (Dev.impose d n bank key).keys = d.keys := by
  unfold Dev.impose; constructor <;> simp

@[simp] theorem Dev.imposeCancel_store (d : Dev) (n : Nat) (key : Bool) :
    (Dev.imposeCancel d n key).mem = d.mem ∧ (Dev.imposeCancel d n key).keys = d.keys := by
  unfold Dev.imposeCancel; constructor <;> simp

@[simp] theorem Dev.scanDone_store (d : Dev) (m : Mem) (fl : List EntryFlaw) :
    (Dev.scanDone d m fl).mem = d.mem ∧ (Dev.scanDone d m fl).keys = d.keys := by
  unfold Dev.scanDone; constructor <;> simp <;> (repeat' split) <;> simp

@[simp] theorem Dev.setCursor_store (d : Dev) (n : Nat) (i : Nat) :
    (Dev.setCursor d n i).mem = d.mem ∧ (Dev.setCursor d n i).keys = d.keys := by
  unfold Dev.setCursor; constructor <;> simp

@[simp] theorem Dev.swapSheet_store (d : Dev) (n : Nat) (r : ImposeReq) :
    (Dev.swapSheet d n r).mem = d.mem ∧ (Dev.swapSheet d n r).keys = d.keys := by
  unfold Dev.swapSheet; constructor <;> simp

@[simp] theorem Dev.countFolio_store (d : Dev) :
    (Dev.countFolio d).mem = d.mem ∧ (Dev.countFolio d).keys = d.keys := by
  unfold Dev.countFolio; constructor <;> simp

@[simp] theorem Dev.swapPassed_store (d : Dev) (n : Nat) :
    (Dev.swapPassed d n).mem = d.mem ∧ (Dev.swapPassed d n).keys = d.keys := by
  unfold Dev.swapPassed; constructor <;> (repeat' split) <;> simp

@[simp] theorem Dev.galleyBoundary_store (d : Dev) (advance : Bool) :
    (Dev.galleyBoundary d advance).mem = d.mem ∧ (Dev.galleyBoundary d advance).keys = d.keys := by
  unfold Dev.galleyBoundary; constructor <;> simp

@[simp] theorem Dev.galleyEnable_store (d : Dev) (on : Bool) :
    (Dev.galleyEnable d on).mem = d.mem ∧ (Dev.galleyEnable d on).keys = d.keys := by
  unfold Dev.galleyEnable; constructor <;> simp

@[simp] theorem Dev.galleyTick_store (d : Dev) :
    (Dev.galleyTick d).mem = d.mem ∧ (Dev.galleyTick d).keys = d.keys := by
  unfold Dev.galleyTick; constructor <;> simp

/-! ## Seq -/

@[simp] theorem Dev.modSeq_store (d : Dev) (f : SeqS → SeqS) :
    (Dev.modSeq d f).mem = d.mem ∧ (Dev.modSeq d f).keys = d.keys := by
  unfold Dev.modSeq; constructor <;> simp

@[simp] theorem Dev.setPhase_store (d : Dev) (n : Nat) :
    (Dev.setPhase d n).mem = d.mem ∧ (Dev.setPhase d n).keys = d.keys := by
  unfold Dev.setPhase; constructor <;> simp

@[simp] theorem Dev.assertResets_store (d : Dev) :
    (Dev.assertResets d).mem = d.mem ∧ (Dev.assertResets d).keys = d.keys := by
  unfold Dev.assertResets; constructor <;> simp

@[simp] theorem Dev.enterProgram_store (d : Dev) (ph : Nat) (entry : Nat) :
    (Dev.enterProgram d ph entry).mem = d.mem ∧ (Dev.enterProgram d ph entry).keys = d.keys := by
  unfold Dev.enterProgram; constructor <;> simp

@[simp] theorem Dev.startRun_store (d : Dev) (ph : Nat) (entry : Nat) :
    (Dev.startRun d ph entry).mem = d.mem ∧ (Dev.startRun d ph entry).keys = d.keys := by
  unfold Dev.startRun; constructor <;> simp

@[simp] theorem Dev.startUp_store (d : Dev) :
    (Dev.startUp d).mem = d.mem ∧ (Dev.startUp d).keys = d.keys := by
  unfold Dev.startUp; constructor <;> simp

@[simp] theorem Dev.startWake_store (d : Dev) :
    (Dev.startWake d).mem = d.mem ∧ (Dev.startWake d).keys = d.keys := by
  unfold Dev.startWake; constructor <;> simp

@[simp] theorem Dev.startSleep_store (d : Dev) (goal : SeqGoal) :
    (Dev.startSleep d goal).mem = d.mem ∧ (Dev.startSleep d goal).keys = d.keys := by
  unfold Dev.startSleep; constructor <;> simp

@[simp] theorem Dev.seqBegin_store (d : Dev) :
    (Dev.seqBegin d).mem = d.mem ∧ (Dev.seqBegin d).keys = d.keys := by
  unfold Dev.seqBegin; constructor <;> simp

@[simp] theorem Dev.progEnd_store (d : Dev) :
    (Dev.progEnd d).mem = d.mem ∧ (Dev.progEnd d).keys = d.keys := by
  unfold Dev.progEnd; constructor <;> simp

@[simp] theorem Dev.boundary_store (d : Dev) :
    (Dev.boundary d).mem = d.mem ∧ (Dev.boundary d).keys = d.keys := by
  unfold Dev.boundary; constructor <;> simp

@[simp] theorem Dev.goto_store (d : Dev) (n : Nat) :
    (Dev.goto d n).mem = d.mem ∧ (Dev.goto d n).keys = d.keys := by
  unfold Dev.goto; constructor <;> simp

@[simp] theorem Dev.nextStep_store (d : Dev) :
    (Dev.nextStep d).mem = d.mem ∧ (Dev.nextStep d).keys = d.keys := by
  unfold Dev.nextStep; constructor <;> simp

@[simp] theorem Dev.stepOf_mem (d : Dev) (op : Nat) (f : Dev → Nat → Dev) (h : ∀ (d : Dev) (w : Nat), (f d w).mem = d.mem) : (Dev.stepOf d op f).mem = d.mem := by
  unfold Dev.stepOf; dsimp only; (repeat' split) <;> simp [h]

@[simp] theorem Dev.stepOf_keys (d : Dev) (op : Nat) (f : Dev → Nat → Dev) (h : ∀ (d : Dev) (w : Nat), (f d w).keys = d.keys) : (Dev.stepOf d op f).keys = d.keys := by
  unfold Dev.stepOf; dsimp only; (repeat' split) <;> simp [h]

@[simp] theorem Dev.setOrder_store (d : Dev) (l : List Nat) :
    (Dev.setOrder d l).mem = d.mem ∧ (Dev.setOrder d l).keys = d.keys := by
  unfold Dev.setOrder; constructor <;> simp

@[simp] theorem Dev.resetPages_store (d : Dev) (k : PageKind) :
    (Dev.resetPages d k).mem = d.mem ∧ (Dev.resetPages d k).keys = d.keys := by
  unfold Dev.resetPages; constructor <;> simp

@[simp] theorem Dev.disable_store (d : Dev) (n : Nat) :
    (Dev.disable d n).mem = d.mem ∧ (Dev.disable d n).keys = d.keys := by
  unfold Dev.disable; constructor <;> simp

@[simp] theorem Dev.beginWait_store (d : Dev) (k : SeqWait) :
    (Dev.beginWait d k).mem = d.mem ∧ (Dev.beginWait d k).keys = d.keys := by
  unfold Dev.beginWait; constructor <;> simp

@[simp] theorem Dev.stepWait_store (d : Dev) :
    (Dev.stepWait d).mem = d.mem ∧ (Dev.stepWait d).keys = d.keys := by
  unfold Dev.stepWait; constructor <;> simp

@[simp] theorem Dev.waitExpiry_store (d : Dev) :
    (Dev.waitExpiry d).mem = d.mem ∧ (Dev.waitExpiry d).keys = d.keys := by
  unfold Dev.waitExpiry; constructor <;> simp

@[simp] theorem Dev.waitvCheck_store (d : Dev) :
    (Dev.waitvCheck d).mem = d.mem ∧ (Dev.waitvCheck d).keys = d.keys := by
  unfold Dev.waitvCheck; constructor <;> simp

@[simp] theorem Dev.waitvTimeout_store (d : Dev) :
    (Dev.waitvTimeout d).mem = d.mem ∧ (Dev.waitvTimeout d).keys = d.keys := by
  unfold Dev.waitvTimeout; constructor <;> simp

@[simp] theorem Dev.setGo_store (d : Dev) (f : Nat) (on : Bool) :
    (Dev.setGo d f on).mem = d.mem ∧ (Dev.setGo d f on).keys = d.keys := by
  unfold Dev.setGo; constructor <;> simp

@[simp] theorem Dev.stepCheck_store (d : Dev) :
    (Dev.stepCheck d).mem = d.mem ∧ (Dev.stepCheck d).keys = d.keys := by
  unfold Dev.stepCheck; constructor <;> simp

@[simp] theorem Dev.stepJump_store (d : Dev) :
    (Dev.stepJump d).mem = d.mem ∧ (Dev.stepJump d).keys = d.keys := by
  unfold Dev.stepJump; constructor <;> simp

@[simp] theorem Dev.stairRelease_store (d : Dev) (on : Bool) :
    (Dev.stairRelease d on).mem = d.mem ∧ (Dev.stairRelease d on).keys = d.keys := by
  unfold Dev.stairRelease; constructor <;> simp

@[simp] theorem Dev.stepStair_store (d : Dev) :
    (Dev.stepStair d).mem = d.mem ∧ (Dev.stepStair d).keys = d.keys := by
  unfold Dev.stepStair; constructor <;> simp

@[simp] theorem Dev.stairRise_store (d : Dev) :
    (Dev.stairRise d).mem = d.mem ∧ (Dev.stairRise d).keys = d.keys := by
  unfold Dev.stairRise; constructor <;> simp

@[simp] theorem Dev.stepReset_store (d : Dev) :
    (Dev.stepReset d).mem = d.mem ∧ (Dev.stepReset d).keys = d.keys := by
  unfold Dev.stepReset; constructor <;> simp

@[simp] theorem Dev.rstoutRelease_store (d : Dev) (k : Nat) :
    (Dev.rstoutRelease d k).mem = d.mem ∧ (Dev.rstoutRelease d k).keys = d.keys := by
  unfold Dev.rstoutRelease; constructor <;> simp

@[simp] theorem Dev.runAux_store (d : Dev) (k : Nat) :
    (Dev.runAux d k).mem = d.mem ∧ (Dev.runAux d k).keys = d.keys := by
  unfold Dev.runAux; constructor <;> simp

@[simp] theorem Dev.stopAux_store (d : Dev) :
    (Dev.stopAux d).mem = d.mem ∧ (Dev.stopAux d).keys = d.keys := by
  unfold Dev.stopAux; constructor <;> simp

@[simp] theorem Dev.powerDownTo_store (d : Dev) (goal : SeqGoal) :
    (Dev.powerDownTo d goal).mem = d.mem ∧ (Dev.powerDownTo d goal).keys = d.keys := by
  unfold Dev.powerDownTo; constructor <;> simp

@[simp] theorem Dev.startUnwind_store (d : Dev) (goal : SeqGoal) (newRun : Bool) :
    (Dev.startUnwind d goal newRun).mem = d.mem ∧ (Dev.startUnwind d goal newRun).keys = d.keys := by
  unfold Dev.startUnwind; constructor <;> simp

@[simp] theorem Dev.latchOn_store (d : Dev) (wake : Bool) :
    (Dev.latchOn d wake).mem = d.mem ∧ (Dev.latchOn d wake).keys = d.keys := by
  unfold Dev.latchOn; constructor <;> simp

@[simp] theorem Dev.onRequest_store (d : Dev) (wake : Bool) :
    (Dev.onRequest d wake).mem = d.mem ∧ (Dev.onRequest d wake).keys = d.keys := by
  unfold Dev.onRequest; constructor <;> simp

@[simp] theorem Dev.dropOn_store (d : Dev) :
    (Dev.dropOn d).mem = d.mem ∧ (Dev.dropOn d).keys = d.keys := by
  unfold Dev.dropOn; constructor <;> simp

@[simp] theorem Dev.seqAbandon_store (d : Dev) :
    (Dev.seqAbandon d).mem = d.mem ∧ (Dev.seqAbandon d).keys = d.keys := by
  unfold Dev.seqAbandon; constructor <;> simp

/-! ## Ring -/

@[simp] theorem Dev.modRing_store (d : Dev) (n : Nat) (f : RingS → RingS) :
    (Dev.modRing d n f).mem = d.mem ∧ (Dev.modRing d n f).keys = d.keys := by
  unfold Dev.modRing; constructor <;> simp

@[simp] theorem Dev.noteHighFill_store (d : Dev) (n : Nat) :
    (Dev.noteHighFill d n).mem = d.mem ∧ (Dev.noteHighFill d n).keys = d.keys := by
  unfold Dev.noteHighFill; constructor <;> simp

@[simp] theorem Dev.noteWatermark_store (d : Dev) (n : Nat) (before : Nat) :
    (Dev.noteWatermark d n before).mem = d.mem ∧ (Dev.noteWatermark d n before).keys = d.keys := by
  unfold Dev.noteWatermark; constructor <;> simp

@[simp] theorem Dev.advancePi_store (d : Dev) (n : Nat) (bytes : Nat) :
    (Dev.advancePi d n bytes).mem = d.mem ∧ (Dev.advancePi d n bytes).keys = d.keys := by
  unfold Dev.advancePi; constructor <;> simp

@[simp] theorem Dev.passOver_store (d : Dev) (n : Nat) (need : Nat) (x : Nat) :
    (Dev.passOver d n need x).mem = d.mem ∧ (Dev.passOver d n need x).keys = d.keys := by
  induction x generalizing d with
  | zero => simp [Dev.passOver]
  | succ k ih => unfold Dev.passOver; constructor <;> simp [ih]

@[simp] theorem Dev.dropRecord_store (d : Dev) (n : Nat) :
    (Dev.dropRecord d n).mem = d.mem ∧ (Dev.dropRecord d n).keys = d.keys := by
  unfold Dev.dropRecord; constructor <;> simp

@[simp] theorem Dev.piWrite_store (d : Dev) (n : Nat) (v : Nat) :
    (Dev.piWrite d n v).mem = d.mem ∧ (Dev.piWrite d n v).keys = d.keys := by
  unfold Dev.piWrite; constructor <;> simp

@[simp] theorem Dev.ciWrite_store (d : Dev) (n : Nat) (v : Nat) :
    (Dev.ciWrite d n v).mem = d.mem ∧ (Dev.ciWrite d n v).keys = d.keys := by
  unfold Dev.ciWrite; constructor <;> simp

@[simp] theorem Dev.clrOvf_store (d : Dev) (n : Nat) :
    (Dev.clrOvf d n).mem = d.mem ∧ (Dev.clrOvf d n).keys = d.keys := by
  unfold Dev.clrOvf; constructor <;> simp

@[simp] theorem Dev.ringEnable_store (d : Dev) (n : Nat) (on : Bool) :
    (Dev.ringEnable d n on).1.mem = d.mem ∧ (Dev.ringEnable d n on).1.keys = d.keys := by
  unfold Dev.ringEnable; constructor <;> simp

/-! ## Bin -/

@[simp] theorem Dev.modBin_store (d : Dev) (h : Nat) (f : BinS → BinS) :
    (Dev.modBin d h f).mem = d.mem ∧ (Dev.modBin d h f).keys = d.keys := by
  unfold Dev.modBin; constructor <;> simp

@[simp] theorem Dev.binSuspend_store (d : Dev) (h : Nat) :
    (Dev.binSuspend d h).mem = d.mem ∧ (Dev.binSuspend d h).keys = d.keys := by
  unfold Dev.binSuspend; constructor <;> simp

@[simp] theorem Dev.binRate_store (d : Dev) :
    (Dev.binRate d).mem = d.mem ∧ (Dev.binRate d).keys = d.keys := by
  unfold Dev.binRate; constructor <;> simp

@[simp] theorem Dev.binBoundary_store (d : Dev) :
    (Dev.binBoundary d).mem = d.mem ∧ (Dev.binBoundary d).keys = d.keys := by
  unfold Dev.binBoundary; constructor <;> simp

@[simp] theorem Dev.binEdge_store (d : Dev) (a : Nat) :
    (Dev.binEdge d a).mem = d.mem ∧ (Dev.binEdge d a).keys = d.keys := by
  unfold Dev.binEdge; constructor <;> simp

@[simp] theorem Dev.binEnable_store (d : Dev) (on : Bool) :
    (Dev.binEnable d on).mem = d.mem ∧ (Dev.binEnable d on).keys = d.keys := by
  unfold Dev.binEnable; constructor <;> simp

@[simp] theorem Dev.binStopped_store (d : Dev) :
    (Dev.binStopped d).mem = d.mem ∧ (Dev.binStopped d).keys = d.keys := by
  unfold Dev.binStopped; constructor <;> simp

@[simp] theorem Dev.binResult_store (d : Dev) (i : Nat) (folio : Word) (angle : Nat) (v : Int) (sat : Bool) (lp : Bool) :
    (Dev.binResult d i folio angle v sat lp).mem = d.mem ∧ (Dev.binResult d i folio angle v sat lp).keys = d.keys := by
  unfold Dev.binResult; constructor <;> simp

@[simp] theorem Dev.binComplete_store (d : Dev) (f : Word) :
    (Dev.binComplete d f).mem = d.mem ∧ (Dev.binComplete d f).keys = d.keys := by
  unfold Dev.binComplete; constructor <;> simp

@[simp] theorem Dev.binOff_store (d : Dev) (h : Nat) :
    (Dev.binOff d h).mem = d.mem ∧ (Dev.binOff d h).keys = d.keys := by
  unfold Dev.binOff; dsimp only; constructor <;> ((repeat' split) <;> simp)

@[simp] theorem Dev.binOn_store (d : Dev) (h : Nat) (depth : Nat) :
    (Dev.binOn d h depth).mem = d.mem ∧ (Dev.binOn d h depth).keys = d.keys := by
  unfold Dev.binOn; constructor <;> simp

theorem Dev.binChannelWrite_store (d : Dev) (h1 : Nat) (w : Word) (e : Dev) (h : d.binChannelWrite h1 w = some e) : e.mem = d.mem ∧ e.keys = d.keys := by
  unfold Dev.binChannelWrite at h; (try dsimp only at h); (repeat' split at h) <;> first | (simp only [Option.some.injEq] at h; subst h; simp) | (simp only [reduceCtorEq] at h)

theorem Dev.binChannelWrite_getD (d : Dev) (h1 : Nat) (w : Word) (e : Dev) (h : e.mem = d.mem ∧ e.keys = d.keys) :
    ((d.binChannelWrite h1 w).getD e).mem = d.mem ∧ ((d.binChannelWrite h1 w).getD e).keys = d.keys := by
  rcases hc : d.binChannelWrite h1 w with _ | x
  · exact h
  · exact Dev.binChannelWrite_store d h1 w x hc

/-! ## Timebase -/

@[simp] theorem Dev.modTb_store (d : Dev) (f : TbS → TbS) :
    (Dev.modTb d f).mem = d.mem ∧ (Dev.modTb d f).keys = d.keys := by
  unfold Dev.modTb; constructor <;> simp

@[simp] theorem Dev.tbRefresh_store (d : Dev) :
    (Dev.tbRefresh d).mem = d.mem ∧ (Dev.tbRefresh d).keys = d.keys := by
  unfold Dev.tbRefresh; constructor <;> simp

@[simp] theorem Dev.setTbActive_store (d : Dev) (a : Nat) :
    (Dev.setTbActive d a).mem = d.mem ∧ (Dev.setTbActive d a).keys = d.keys := by
  unfold Dev.setTbActive; constructor <;> simp

@[simp] theorem Dev.setTbPending_store (d : Dev) (s : Nat) :
    (Dev.setTbPending d s).mem = d.mem ∧ (Dev.setTbPending d s).keys = d.keys := by
  unfold Dev.setTbPending; constructor <;> simp

@[simp] theorem Dev.setSlew_store (d : Dev) (s : Slew) :
    (Dev.setSlew d s).mem = d.mem ∧ (Dev.setSlew d s).keys = d.keys := by
  unfold Dev.setSlew; constructor <;> simp

@[simp] theorem Dev.setTbFreq_store (d : Dev) (f : Nat) :
    (Dev.setTbFreq d f).mem = d.mem ∧ (Dev.setTbFreq d f).keys = d.keys := by
  unfold Dev.setTbFreq; constructor <;> simp

@[simp] theorem Dev.startSlew_store (d : Dev) (left : Nat) :
    (Dev.startSlew d left).mem = d.mem ∧ (Dev.startSlew d left).keys = d.keys := by
  unfold Dev.startSlew; split <;> simp

@[simp] theorem Dev.switched_store (d : Dev) (a : Nat) :
    (Dev.switched d a).mem = d.mem ∧ (Dev.switched d a).keys = d.keys := by
  unfold Dev.switched; constructor <;> simp

@[simp] theorem Dev.applyPending_store (d : Dev) :
    (Dev.applyPending d).mem = d.mem ∧ (Dev.applyPending d).keys = d.keys := by
  unfold Dev.applyPending; constructor <;> simp

@[simp] theorem Dev.boundarySource_store (d : Dev) :
    (Dev.boundarySource d).mem = d.mem ∧ (Dev.boundarySource d).keys = d.keys := by
  unfold Dev.boundarySource; constructor <;> (repeat' split) <;> simp

@[simp] theorem Dev.fmarkProof_store (d : Dev) :
    (Dev.fmarkProof d).mem = d.mem ∧ (Dev.fmarkProof d).keys = d.keys := by
  unfold Dev.fmarkProof; constructor <;> simp

@[simp] theorem Dev.closeCycle_store (d : Dev) :
    (Dev.closeCycle d).mem = d.mem ∧ (Dev.closeCycle d).keys = d.keys := by
  unfold Dev.closeCycle; constructor <;> simp

@[simp] theorem Dev.phiTick_store (d : Dev) :
    (Dev.phiTick d).mem = d.mem ∧ (Dev.phiTick d).keys = d.keys := by
  unfold Dev.phiTick; constructor <;> simp

@[simp] theorem Dev.sourceRequest_store (d : Dev) (src : Nat) :
    (Dev.sourceRequest d src).mem = d.mem ∧ (Dev.sourceRequest d src).keys = d.keys := by
  unfold Dev.sourceRequest; constructor <;> simp

@[simp] theorem Dev.pllUpdate_store (d : Dev) (ga : Nat) (freq : Nat) (amp : Nat) (err : Int) :
    (Dev.pllUpdate d ga freq amp err).mem = d.mem ∧ (Dev.pllUpdate d ga freq amp err).keys = d.keys := by
  unfold Dev.pllUpdate; constructor <;> simp

@[simp] theorem Dev.pllLockDeclared_store (d : Dev) :
    (Dev.pllLockDeclared d).mem = d.mem ∧ (Dev.pllLockDeclared d).keys = d.keys := by
  unfold Dev.pllLockDeclared; constructor <;> simp

@[simp] theorem Dev.pllFall_store (d : Dev) :
    (Dev.pllFall d).mem = d.mem ∧ (Dev.pllFall d).keys = d.keys := by
  unfold Dev.pllFall; constructor <;> simp

@[simp] theorem Dev.dropLock_store (d : Dev) :
    (Dev.dropLock d).1.mem = d.mem ∧ (Dev.dropLock d).1.keys = d.keys := by
  unfold Dev.dropLock; constructor <;> simp

@[simp] theorem Dev.crefWritten_store (d : Dev) :
    (Dev.crefWritten d).mem = d.mem ∧ (Dev.crefWritten d).keys = d.keys := by
  unfold Dev.crefWritten; constructor <;> simp

@[simp] theorem Dev.syncinEdge_store (d : Dev) (interval : Nat) :
    (Dev.syncinEdge d interval).mem = d.mem ∧ (Dev.syncinEdge d interval).keys = d.keys := by
  unfold Dev.syncinEdge; constructor <;> simp

@[simp] theorem Dev.syncLockAcquired_store (d : Dev) :
    (Dev.syncLockAcquired d).mem = d.mem ∧ (Dev.syncLockAcquired d).keys = d.keys := by
  unfold Dev.syncLockAcquired; constructor <;> simp

/-! ## Measure -/

@[simp] theorem Dev.modAdc_store (d : Dev) (c : Nat) (f : AdcS → AdcS) :
    (Dev.modAdc d c f).mem = d.mem ∧ (Dev.modAdc d c f).keys = d.keys := by
  unfold Dev.modAdc; constructor <;> simp

@[simp] theorem Dev.noteUcal_store (d : Dev) (i : Nat) :
    (Dev.noteUcal d i).mem = d.mem ∧ (Dev.noteUcal d i).keys = d.keys := by
  unfold Dev.noteUcal; constructor <;> simp

@[simp] theorem Dev.loadList_store (d : Dev) (c : Nat) :
    (Dev.loadList d c).mem = d.mem ∧ (Dev.loadList d c).keys = d.keys := by
  unfold Dev.loadList; constructor <;> simp

@[simp] theorem Dev.convStart_store (d : Dev) (c : Nat) :
    (Dev.convStart d c).mem = d.mem ∧ (Dev.convStart d c).keys = d.keys := by
  unfold Dev.convStart; constructor <;> simp

@[simp] theorem Dev.adcTick_store (d : Dev) :
    (Dev.adcTick d).mem = d.mem ∧ (Dev.adcTick d).keys = d.keys := by
  unfold Dev.adcTick; constructor <;> simp

@[simp] theorem Dev.listWritten_store (d : Dev) (c : Nat) :
    (Dev.listWritten d c).mem = d.mem ∧ (Dev.listWritten d c).keys = d.keys := by
  unfold Dev.listWritten; constructor <;> simp

@[simp] theorem Dev.adcEnable_store (d : Dev) (c : Nat) (on : Bool) :
    (Dev.adcEnable d c on).mem = d.mem ∧ (Dev.adcEnable d c on).keys = d.keys := by
  unfold Dev.adcEnable; constructor <;> simp

@[simp] theorem Dev.lpStep_store (d : Dev) (c : Nat) :
    (Dev.lpStep d c).mem = d.mem ∧ (Dev.lpStep d c).keys = d.keys := by
  unfold Dev.lpStep; constructor <;> simp

@[simp] theorem Dev.lpExit_store (d : Dev) (c : Nat) :
    (Dev.lpExit d c).mem = d.mem ∧ (Dev.lpExit d c).keys = d.keys := by
  unfold Dev.lpExit; constructor <;> simp

@[simp] theorem Dev.chgResult_store (d : Dev) (i : Nat) (v : Int) :
    (Dev.chgResult d i v).mem = d.mem ∧ (Dev.chgResult d i v).keys = d.keys := by
  unfold Dev.chgResult; constructor <;> simp

@[simp] theorem Dev.deliver_store (d : Dev) (i : Nat) (v : Int) :
    (Dev.deliver d i v).mem = d.mem ∧ (Dev.deliver d i v).keys = d.keys := by
  unfold Dev.deliver; constructor <;> simp

@[simp] theorem Dev.setDec_store (d : Dev) (c : Nat) (key : Nat) (x : DecAcc) :
    (Dev.setDec d c key x).mem = d.mem ∧ (Dev.setDec d c key x).keys = d.keys := by
  unfold Dev.setDec; constructor <;> simp

@[simp] theorem Dev.windowClosed_store (d : Dev) (win : Nat) :
    (Dev.windowClosed d win).mem = d.mem ∧ (Dev.windowClosed d win).keys = d.keys := by
  unfold Dev.windowClosed; constructor <;> simp

@[simp] theorem Dev.streamWrite_store (d : Dev) (c : Nat) (s : Nat) (w : Word) :
    (Dev.streamWrite d c s w).mem = d.mem ∧ (Dev.streamWrite d c s w).keys = d.keys := by
  unfold Dev.streamWrite; constructor <;> simp

@[simp] theorem Dev.owSeen_store (d : Dev) (i : Nat) (f : Int) (first : Bool) :
    (Dev.owSeen d i f first).mem = d.mem ∧ (Dev.owSeen d i f first).keys = d.keys := by
  unfold Dev.owSeen; constructor <;> simp

@[simp] theorem Dev.nextSlot_store (d : Dev) (c : Nat) :
    (Dev.nextSlot d c).mem = d.mem ∧ (Dev.nextSlot d c).keys = d.keys := by
  unfold Dev.nextSlot; constructor <;> simp <;> (repeat' split) <;> simp

@[simp] theorem Dev.hibNext_store (d : Dev) :
    (Dev.hibNext d).mem = d.mem ∧ (Dev.hibNext d).keys = d.keys := by
  unfold Dev.hibNext; constructor <;> simp

@[simp] theorem Dev.owNext_store (d : Dev) (i : Nat) (n : Nat) :
    (Dev.owNext d i n).mem = d.mem ∧ (Dev.owNext d i n).keys = d.keys := by
  induction n generalizing d i with
  | zero => simp [Dev.owNext]
  | succ k ih => unfold Dev.owNext; constructor <;> simp [ih]

@[simp] theorem Dev.owRoundStart_store (d : Dev) :
    (Dev.owRoundStart d).mem = d.mem ∧ (Dev.owRoundStart d).keys = d.keys := by
  unfold Dev.owRoundStart; constructor <;> simp

@[simp] theorem Dev.owEnable_store (d : Dev) (on : Bool) :
    (Dev.owEnable d on).mem = d.mem ∧ (Dev.owEnable d on).keys = d.keys := by
  unfold Dev.owEnable; constructor <;> simp

/-! ## Charge -/

@[simp] theorem Dev.modChg_store (d : Dev) (f : ChgS → ChgS) :
    (Dev.modChg d f).mem = d.mem ∧ (Dev.modChg d f).keys = d.keys := by
  unfold Dev.modChg; constructor <;> simp

@[simp] theorem Dev.chgRef_store (d : Dev) (t : Int) :
    (Dev.chgRef d t).mem = d.mem ∧ (Dev.chgRef d t).keys = d.keys := by
  unfold Dev.chgRef; constructor <;> simp

@[simp] theorem Dev.setS2_store (d : Dev) (on : Bool) :
    (Dev.setS2 d on).mem = d.mem ∧ (Dev.setS2 d on).keys = d.keys := by
  unfold Dev.setS2; constructor <;> simp

@[simp] theorem Dev.chgClearGo_store (d : Dev) :
    (Dev.chgClearGo d).mem = d.mem ∧ (Dev.chgClearGo d).keys = d.keys := by
  unfold Dev.chgClearGo; constructor <;> simp

@[simp] theorem Dev.endNow_store (d : Dev) :
    (Dev.endNow d).mem = d.mem ∧ (Dev.endNow d).keys = d.keys := by
  unfold Dev.endNow; constructor <;> simp

@[simp] theorem Dev.endOrderly_store (d : Dev) :
    (Dev.endOrderly d).mem = d.mem ∧ (Dev.endOrderly d).keys = d.keys := by
  unfold Dev.endOrderly; constructor <;> simp

@[simp] theorem Dev.endRamp_store (d : Dev) :
    (Dev.endRamp d).mem = d.mem ∧ (Dev.endRamp d).keys = d.keys := by
  unfold Dev.endRamp; constructor <;> simp

@[simp] theorem Dev.chgEnter_store (d : Dev) (st : Nat) (cause : Nat) :
    (Dev.chgEnter d st cause).mem = d.mem ∧ (Dev.chgEnter d st cause).keys = d.keys := by
  unfold Dev.chgEnter; constructor <;> simp

@[simp] theorem Dev.newSession_store (d : Dev) :
    (Dev.newSession d).mem = d.mem ∧ (Dev.newSession d).keys = d.keys := by
  unfold Dev.newSession; constructor <;> simp

@[simp] theorem Dev.enterDetect_store (d : Dev) :
    (Dev.enterDetect d).mem = d.mem ∧ (Dev.enterDetect d).keys = d.keys := by
  unfold Dev.enterDetect; constructor <;> simp

@[simp] theorem Dev.enterIdle_store (d : Dev) (cause : Nat) :
    (Dev.enterIdle d cause).mem = d.mem ∧ (Dev.enterIdle d cause).keys = d.keys := by
  unfold Dev.enterIdle; constructor <;> simp

@[simp] theorem Dev.enterChgFault_store (d : Dev) (cause : Nat) :
    (Dev.enterChgFault d cause).mem = d.mem ∧ (Dev.enterChgFault d cause).keys = d.keys := by
  unfold Dev.enterChgFault; constructor <;> simp

@[simp] theorem Dev.enterDone_store (d : Dev) (cause : Nat) :
    (Dev.enterDone d cause).mem = d.mem ∧ (Dev.enterDone d cause).keys = d.keys := by
  unfold Dev.enterDone; constructor <;> simp

@[simp] theorem Dev.showLowest_store (d : Dev) :
    (Dev.showLowest d).mem = d.mem ∧ (Dev.showLowest d).keys = d.keys := by
  unfold Dev.showLowest; constructor <;> (repeat' split) <;> simp

@[simp] theorem Dev.resetStepTimer_store (d : Dev) :
    (Dev.resetStepTimer d).mem = d.mem ∧ (Dev.resetStepTimer d).keys = d.keys := by
  unfold Dev.resetStepTimer; constructor <;> simp

@[simp] theorem Dev.chgMeans_store (d : Dev) :
    (Dev.chgMeans d).mem = d.mem ∧ (Dev.chgMeans d).keys = d.keys := by
  unfold Dev.chgMeans; constructor <;> simp

@[simp] theorem Dev.chgProximity_store (d : Dev) (ohms : Nat) :
    (Dev.chgProximity d ohms).mem = d.mem ∧ (Dev.chgProximity d ohms).keys = d.keys := by
  unfold Dev.chgProximity; constructor <;> simp

@[simp] theorem Dev.chgZones_store (d : Dev) :
    (Dev.chgZones d).mem = d.mem ∧ (Dev.chgZones d).keys = d.keys := by
  unfold Dev.chgZones; constructor <;> simp <;> (repeat' split) <;> simp

@[simp] theorem Dev.chgTerm_store (d : Dev) :
    (Dev.chgTerm d).mem = d.mem ∧ (Dev.chgTerm d).keys = d.keys := by
  unfold Dev.chgTerm; constructor <;> simp

@[simp] theorem Dev.groupTerm_store (d : Dev) :
    (Dev.groupTerm d).2.mem = d.mem ∧ (Dev.groupTerm d).2.keys = d.keys := by
  unfold Dev.groupTerm; constructor <;> simp

@[simp] theorem Dev.chgLimit_store (d : Dev) :
    (Dev.chgLimit d).mem = d.mem ∧ (Dev.chgLimit d).keys = d.keys := by
  unfold Dev.chgLimit; constructor <;> simp

@[simp] theorem Dev.chgInputs_store (d : Dev) (ohms : Nat) :
    (Dev.chgInputs d ohms).mem = d.mem ∧ (Dev.chgInputs d ohms).keys = d.keys := by
  unfold Dev.chgInputs; constructor <;> simp

@[simp] theorem Dev.detectTick_store (d : Dev) :
    (Dev.detectTick d).mem = d.mem ∧ (Dev.detectTick d).keys = d.keys := by
  unfold Dev.detectTick; constructor <;> simp

@[simp] theorem Dev.regulate_store (d : Dev) :
    (Dev.regulate d).mem = d.mem ∧ (Dev.regulate d).keys = d.keys := by
  unfold Dev.regulate; constructor <;> simp

@[simp] theorem Dev.chgTimers_store (d : Dev) :
    (Dev.chgTimers d).mem = d.mem ∧ (Dev.chgTimers d).keys = d.keys := by
  unfold Dev.chgTimers; constructor <;> simp

@[simp] theorem Dev.chgExit_store (d : Dev) :
    (Dev.chgExit d).mem = d.mem ∧ (Dev.chgExit d).keys = d.keys := by
  unfold Dev.chgExit; constructor <;> simp

@[simp] theorem Dev.reverseLimit_store (d : Dev) :
    (Dev.reverseLimit d).mem = d.mem ∧ (Dev.reverseLimit d).keys = d.keys := by
  unfold Dev.reverseLimit; constructor <;> simp

@[simp] theorem Dev.s2Step_store (d : Dev) :
    (Dev.s2Step d).1.mem = d.mem ∧ (Dev.s2Step d).1.keys = d.keys := by
  unfold Dev.s2Step; constructor <;> (repeat' split) <;> simp

@[simp] theorem Dev.endTick_store (d : Dev) :
    (Dev.endTick d).mem = d.mem ∧ (Dev.endTick d).keys = d.keys := by
  unfold Dev.endTick; constructor <;> simp

@[simp] theorem Dev.orderlyEndTimeout_store (d : Dev) :
    (Dev.orderlyEndTimeout d).mem = d.mem ∧ (Dev.orderlyEndTimeout d).keys = d.keys := by
  unfold Dev.orderlyEndTimeout; constructor <;> simp

@[simp] theorem Dev.resumeDelayExpiry_store (d : Dev) :
    (Dev.resumeDelayExpiry d).mem = d.mem ∧ (Dev.resumeDelayExpiry d).keys = d.keys := by
  unfold Dev.resumeDelayExpiry; constructor <;> simp

@[simp] theorem Dev.chgSee_store (d : Dev) :
    (Dev.chgSee d).mem = d.mem ∧ (Dev.chgSee d).keys = d.keys := by
  unfold Dev.chgSee; constructor <;> simp

@[simp] theorem Dev.setPilot_store (d : Dev) (st : Nat) :
    (Dev.setPilot d st).mem = d.mem ∧ (Dev.setPilot d st).keys = d.keys := by
  unfold Dev.setPilot; constructor <;> simp

@[simp] theorem Dev.pilotStateChange_store (d : Dev) :
    (Dev.pilotStateChange d).mem = d.mem ∧ (Dev.pilotStateChange d).keys = d.keys := by
  unfold Dev.pilotStateChange; constructor <;> simp

@[simp] theorem Dev.dutyUpdate_store (d : Dev) (err : Int) :
    (Dev.dutyUpdate d err).mem = d.mem ∧ (Dev.dutyUpdate d err).keys = d.keys := by
  unfold Dev.dutyUpdate; constructor <;> simp

@[simp] theorem Dev.bmsWrite_store (d : Dev) (w : Word) :
    (Dev.bmsWrite d w).mem = d.mem ∧ (Dev.bmsWrite d w).keys = d.keys := by
  unfold Dev.bmsWrite; constructor <;> simp

@[simp] theorem Dev.chgEnable_store (d : Dev) (on : Bool) (s2Key : Bool) (bmsUnit : Bool) :
    (Dev.chgEnable d on s2Key bmsUnit).mem = d.mem ∧ (Dev.chgEnable d on s2Key bmsUnit).keys = d.keys := by
  unfold Dev.chgEnable; constructor <;> simp

@[simp] theorem Dev.chgResume_store (d : Dev) :
    (Dev.chgResume d).mem = d.mem ∧ (Dev.chgResume d).keys = d.keys := by
  unfold Dev.chgResume; constructor <;> simp

@[simp] theorem Dev.enterReverse_store (d : Dev) (v2v : Bool) :
    (Dev.enterReverse d v2v).mem = d.mem ∧ (Dev.enterReverse d v2v).keys = d.keys := by
  unfold Dev.enterReverse; constructor <;> simp

/-! ## Gauge -/

@[simp] theorem Dev.setFilterX_store (d : Dev) (x : FilterX) :
    (Dev.setFilterX d x).mem = d.mem ∧ (Dev.setFilterX d x).keys = d.keys := by
  unfold Dev.setFilterX; constructor <;> simp

@[simp] theorem Dev.gaugeLose_store (d : Dev) :
    (Dev.gaugeLose d).mem = d.mem ∧ (Dev.gaugeLose d).keys = d.keys := by
  unfold Dev.gaugeLose; constructor <;> simp

@[simp] theorem Dev.gaugeWait_store (d : Dev) :
    (Dev.gaugeWait d).mem = d.mem ∧ (Dev.gaugeWait d).keys = d.keys := by
  unfold Dev.gaugeWait; constructor <;> simp

@[simp] theorem Dev.gaugeRun_store (d : Dev) :
    (Dev.gaugeRun d).mem = d.mem ∧ (Dev.gaugeRun d).keys = d.keys := by
  unfold Dev.gaugeRun; constructor <;> simp

@[simp] theorem Dev.gaugeEnable_store (d : Dev) (on : Bool) (keyOk : Bool) :
    (Dev.gaugeEnable d on keyOk).mem = d.mem ∧ (Dev.gaugeEnable d on keyOk).keys = d.keys := by
  unfold Dev.gaugeEnable; dsimp only; (repeat' split) <;> simp

@[simp] theorem Dev.gaugeMean_store (d : Dev) (acc : MeanAcc) (prev : Option MeanAcc) :
    (Dev.gaugeMean d acc prev).2.2.mem = d.mem ∧ (Dev.gaugeMean d acc prev).2.2.keys = d.keys := by
  unfold Dev.gaugeMean; constructor <;> simp <;> (repeat' split) <;> simp

@[simp] theorem Dev.gaugeTemp_store (d : Dev) :
    (Dev.gaugeTemp d).mem = d.mem ∧ (Dev.gaugeTemp d).keys = d.keys := by
  unfold Dev.gaugeTemp; constructor <;> simp <;> (repeat' split) <;> simp

@[simp] theorem Dev.gaugeResume_store (d : Dev) :
    (Dev.gaugeResume d).mem = d.mem ∧ (Dev.gaugeResume d).keys = d.keys := by
  unfold Dev.gaugeResume; constructor <;> simp <;> (repeat' split) <;> simp

@[simp] theorem Dev.gaugeLoad_store (d : Dev) (l : List Word) :
    (Dev.gaugeLoad d l).mem = d.mem ∧ (Dev.gaugeLoad d l).keys = d.keys := by
  unfold Dev.gaugeLoad; constructor <;> simp

@[simp] theorem Dev.gaugeCount_store (d : Dev) :
    (Dev.gaugeCount d).mem = d.mem ∧ (Dev.gaugeCount d).keys = d.keys := by
  unfold Dev.gaugeCount; constructor <;> simp

@[simp] theorem Dev.showSoc_store (d : Dev) :
    (Dev.showSoc d).mem = d.mem ∧ (Dev.showSoc d).keys = d.keys := by
  unfold Dev.showSoc; constructor <;> simp

@[simp] theorem Dev.showSocV_store (d : Dev) (sv : Word) :
    (Dev.showSocV d sv).mem = d.mem ∧ (Dev.showSocV d sv).keys = d.keys := by
  unfold Dev.showSocV; constructor <;> simp

@[simp] theorem Dev.anchor_store (d : Dev) (x : FilterX) (t : Int) (sv : Word) :
    (Dev.anchor d x t sv).2.mem = d.mem ∧ (Dev.anchor d x t sv).2.keys = d.keys := by
  unfold Dev.anchor; constructor <;> simp

@[simp] theorem Dev.filterUpdate_store (d : Dev) (x : FilterX) (t : Int) :
    (Dev.filterUpdate d x t).2.mem = d.mem ∧ (Dev.filterUpdate d x t).2.keys = d.keys := by
  unfold Dev.filterUpdate; constructor <;> simp

@[simp] theorem Dev.filterStep_store (d : Dev) :
    (Dev.filterStep d).2.mem = d.mem ∧ (Dev.filterStep d).2.keys = d.keys := by
  unfold Dev.filterStep; constructor <;> simp <;> (repeat' split) <;> simp

@[simp] theorem Dev.formRecord_store (d : Dev) :
    (Dev.formRecord d).mem = d.mem ∧ (Dev.formRecord d).keys = d.keys := by
  unfold Dev.formRecord; constructor <;> simp

@[simp] theorem Dev.gaugeInit_store (d : Dev) :
    (Dev.gaugeInit d).mem = d.mem ∧ (Dev.gaugeInit d).keys = d.keys := by
  unfold Dev.gaugeInit; constructor <;> simp <;> (repeat' split) <;> simp

@[simp] theorem Dev.gaugeAnswer_store (d : Dev) (op : Nat) (res : Nat) :
    (Dev.gaugeAnswer d op res).mem = d.mem ∧ (Dev.gaugeAnswer d op res).keys = d.keys := by
  unfold Dev.gaugeAnswer; constructor <;> simp

@[simp] theorem Dev.gaugeCmd_store (d : Dev) (op : Nat) (key : Nat) :
    (Dev.gaugeCmd d op key).mem = d.mem ∧ (Dev.gaugeCmd d op key).keys = d.keys := by
  unfold Dev.gaugeCmd; constructor <;> simp <;> (repeat' split) <;> simp

@[simp] theorem Dev.recAck_store (d : Dev) (seq : Word) :
    (Dev.recAck d seq).mem = d.mem ∧ (Dev.recAck d seq).keys = d.keys := by
  unfold Dev.recAck; constructor <;> simp

@[simp] theorem Dev.gaugeSleep_store (d : Dev) :
    (Dev.gaugeSleep d).mem = d.mem ∧ (Dev.gaugeSleep d).keys = d.keys := by
  unfold Dev.gaugeSleep; constructor <;> simp

@[simp] theorem Dev.gaugeWake_store (d : Dev) :
    (Dev.gaugeWake d).mem = d.mem ∧ (Dev.gaugeWake d).keys = d.keys := by
  unfold Dev.gaugeWake; constructor <;> (repeat' split) <;> simp

@[simp] theorem Dev.gaugeReset_store (d : Dev) :
    (Dev.gaugeReset d).mem = d.mem ∧ (Dev.gaugeReset d).keys = d.keys := by
  unfold Dev.gaugeReset; constructor <;> simp

end Sys2Proof.Machine
end

