-- ==== Sys2Proof/Laws/KeptMore.lean ====
section
/-!
SUPPORT. Laws/Kept.lean continued: from the cellar to the accesses of the masters.
-/
namespace Sys2Proof.Machine

/-! ## Cellar -/

@[simp] theorem Dev.modCel_store (d : Dev) (f : CellarS → CellarS) :
    (Dev.modCel d f).mem = d.mem ∧ (Dev.modCel d f).keys = d.keys := by
  unfold Dev.modCel; constructor <;> simp

@[simp] theorem Dev.setPwron_store (d : Dev) (on : Bool) :
    (Dev.setPwron d on).mem = d.mem ∧ (Dev.setPwron d on).keys = d.keys := by
  unfold Dev.setPwron; constructor <;> simp

@[simp] theorem Dev.pwronCtrl_store (d : Dev) (w : Word) :
    (Dev.pwronCtrl d w).mem = d.mem ∧ (Dev.pwronCtrl d w).keys = d.keys := by
  unfold Dev.pwronCtrl; constructor <;> simp

@[simp] theorem Dev.pwronPulseEnd_store (d : Dev) :
    (Dev.pwronPulseEnd d).mem = d.mem ∧ (Dev.pwronPulseEnd d).keys = d.keys := by
  unfold Dev.pwronPulseEnd; constructor <;> simp

@[simp] theorem Dev.wakeRecord_store (d : Dev) (bit : Nat) :
    (Dev.wakeRecord d bit).mem = d.mem ∧ (Dev.wakeRecord d bit).keys = d.keys := by
  unfold Dev.wakeRecord; constructor <;> simp

@[simp] theorem Dev.holdWake_store (d : Dev) (bit : Nat) :
    (Dev.holdWake d bit).mem = d.mem ∧ (Dev.holdWake d bit).keys = d.keys := by
  unfold Dev.holdWake; constructor <;> simp

@[simp] theorem Dev.joinWake_store (d : Dev) (bit : Nat) :
    (Dev.joinWake d bit).mem = d.mem ∧ (Dev.joinWake d bit).keys = d.keys := by
  unfold Dev.joinWake; constructor <;> simp

@[simp] theorem Dev.wakeEvent_store (d : Dev) (bit : Nat) :
    (Dev.wakeEvent d bit).mem = d.mem ∧ (Dev.wakeEvent d bit).keys = d.keys := by
  unfold Dev.wakeEvent; constructor <;> simp

@[simp] theorem Dev.wakeInput_store (d : Dev) (i : Nat) (high : Bool) (held : Nat) :
    (Dev.wakeInput d i high held).mem = d.mem ∧ (Dev.wakeInput d i high held).keys = d.keys := by
  unfold Dev.wakeInput; constructor <;> simp

@[simp] theorem Dev.pilotDetector_store (d : Dev) (mv : Int) (held : Nat) :
    (Dev.pilotDetector d mv held).mem = d.mem ∧ (Dev.pilotDetector d mv held).keys = d.keys := by
  unfold Dev.pilotDetector; constructor <;> simp

@[simp] theorem Dev.pwronWaitExpiry_store (d : Dev) :
    (Dev.pwronWaitExpiry d).mem = d.mem ∧ (Dev.pwronWaitExpiry d).keys = d.keys := by
  unfold Dev.pwronWaitExpiry; constructor <;> simp

@[simp] theorem Dev.wakeTaken_store (d : Dev) (src : Nat) (lin : Word) :
    (Dev.wakeTaken d src lin).mem = d.mem ∧ (Dev.wakeTaken d src lin).keys = d.keys := by
  unfold Dev.wakeTaken; constructor <;> simp

@[simp] theorem Dev.setCal_store (d : Dev) (t : CalTime) :
    (Dev.setCal d t).mem = d.mem ∧ (Dev.setCal d t).keys = d.keys := by
  unfold Dev.setCal; constructor <;> simp

@[simp] theorem Dev.setLinear_store (d : Dev) (n : Nat) :
    (Dev.setLinear d n).mem = d.mem ∧ (Dev.setLinear d n).keys = d.keys := by
  unfold Dev.setLinear; constructor <;> simp

@[simp] theorem Dev.alarmFires_store (d : Dev) (flag : Fld) (bit : Nat) (wake : Bool) (pwron : Bool) :
    (Dev.alarmFires d flag bit wake pwron).mem = d.mem ∧ (Dev.alarmFires d flag bit wake pwron).keys = d.keys := by
  unfold Dev.alarmFires; constructor <;> simp

@[simp] theorem Dev.alarms_store (d : Dev) :
    (Dev.alarms d).mem = d.mem ∧ (Dev.alarms d).keys = d.keys := by
  unfold Dev.alarms; constructor <;> simp

@[simp] theorem Dev.secondRollover_store (d : Dev) :
    (Dev.secondRollover d).mem = d.mem ∧ (Dev.secondRollover d).keys = d.keys := by
  unfold Dev.secondRollover; constructor <;> simp

@[simp] theorem Dev.commit_store (d : Dev) :
    (Dev.commit d).mem = d.mem ∧ (Dev.commit d).keys = d.keys := by
  unfold Dev.commit; constructor <;> simp

@[simp] theorem Dev.commitApply_store (d : Dev) :
    (Dev.commitApply d).mem = d.mem ∧ (Dev.commitApply d).keys = d.keys := by
  unfold Dev.commitApply; constructor <;> simp

@[simp] theorem Dev.secLatch_store (d : Dev) (bank : Nat) (sub : Nat) :
    (Dev.secLatch d bank sub).mem = d.mem ∧ (Dev.secLatch d bank sub).keys = d.keys := by
  unfold Dev.secLatch; constructor <;> simp

@[simp] theorem Dev.x32Loss_store (d : Dev) :
    (Dev.x32Loss d).mem = d.mem ∧ (Dev.x32Loss d).keys = d.keys := by
  unfold Dev.x32Loss; constructor <;> simp

@[simp] theorem Dev.x32Recovery_store (d : Dev) :
    (Dev.x32Recovery d).mem = d.mem ∧ (Dev.x32Recovery d).keys = d.keys := by
  unfold Dev.x32Recovery; constructor <;> simp

@[simp] theorem Dev.setTrim_store (d : Dev) (v : Int) :
    (Dev.setTrim d v).mem = d.mem ∧ (Dev.setTrim d v).keys = d.keys := by
  unfold Dev.setTrim; constructor <;> simp

@[simp] theorem Dev.trimCorrection_store (d : Dev) :
    (Dev.trimCorrection d).mem = d.mem ∧ (Dev.trimCorrection d).keys = d.keys := by
  unfold Dev.trimCorrection; constructor <;> simp

@[simp] theorem Dev.modMeas_store (d : Dev) (f : MeasS → MeasS) :
    (Dev.modMeas d f).mem = d.mem ∧ (Dev.modMeas d f).keys = d.keys := by
  unfold Dev.modMeas; constructor <;> simp

@[simp] theorem Dev.measStart_store (d : Dev) :
    (Dev.measStart d).mem = d.mem ∧ (Dev.measStart d).keys = d.keys := by
  unfold Dev.measStart; constructor <;> simp

@[simp] theorem Dev.measOpen_store (d : Dev) (ref : Nat) (tick : Nat) :
    (Dev.measOpen d ref tick).mem = d.mem ∧ (Dev.measOpen d ref tick).keys = d.keys := by
  unfold Dev.measOpen; constructor <;> simp

@[simp] theorem Dev.measAngle0_store (d : Dev) :
    (Dev.measAngle0 d).mem = d.mem ∧ (Dev.measAngle0 d).keys = d.keys := by
  unfold Dev.measAngle0; constructor <;> simp

@[simp] theorem Dev.measCapture_store (d : Dev) (src : Nat) (tick : Nat) (ref : Nat) :
    (Dev.measCapture d src tick ref).mem = d.mem ∧ (Dev.measCapture d src tick ref).keys = d.keys := by
  unfold Dev.measCapture; constructor <;> simp

@[simp] theorem Dev.measEnd_store (d : Dev) (code : Nat) (ppm : Option Int) :
    (Dev.measEnd d code ppm).mem = d.mem ∧ (Dev.measEnd d code ppm).keys = d.keys := by
  unfold Dev.measEnd; constructor <;> simp <;> (repeat' split) <;> simp

@[simp] theorem Dev.measIntervalEnd_store (d : Dev) (n : Nat) :
    (Dev.measIntervalEnd d n).mem = d.mem ∧ (Dev.measIntervalEnd d n).keys = d.keys := by
  unfold Dev.measIntervalEnd; constructor <;> simp <;> (repeat' split) <;> simp

@[simp] theorem Dev.measStop_store (d : Dev) :
    (Dev.measStop d).mem = d.mem ∧ (Dev.measStop d).keys = d.keys := by
  unfold Dev.measStop; constructor <;> simp

/-! ## FaultColl -/

@[simp] theorem Dev.modFc_store (d : Dev) (f : FaultS → FaultS) :
    (Dev.modFc d f).mem = d.mem ∧ (Dev.modFc d f).keys = d.keys := by
  unfold Dev.modFc; constructor <;> simp

@[simp] theorem Dev.coalesce_store (d : Dev) (k : Nat) (n : Nat) :
    (Dev.coalesce d k n).mem = d.mem ∧ (Dev.coalesce d k n).keys = d.keys := by
  unfold Dev.coalesce; constructor <;> simp

@[simp] theorem Dev.storeEntry_store (d : Dev) (e : FaultEvent) :
    (Dev.storeEntry d e).mem = d.mem ∧ (Dev.storeEntry d e).keys = d.keys := by
  unfold Dev.storeEntry; constructor <;> simp [Dev.foldl_mem, Dev.foldl_keys]

@[simp] theorem Dev.firstFault_store (d : Dev) (e : FaultEvent) :
    (Dev.firstFault d e).mem = d.mem ∧ (Dev.firstFault d e).keys = d.keys := by
  unfold Dev.firstFault; constructor <;> simp [Dev.foldl_mem, Dev.foldl_keys]

@[simp] theorem Dev.addRepeats_store (d : Dev) (src : Nat) (n : Nat) :
    (Dev.addRepeats d src n).mem = d.mem ∧ (Dev.addRepeats d src n).keys = d.keys := by
  unfold Dev.addRepeats; constructor <;> simp <;> (repeat' split) <;> simp

@[simp] theorem Dev.takePending_store (d : Dev) (src : Nat) :
    (Dev.takePending d src).mem = d.mem ∧ (Dev.takePending d src).keys = d.keys := by
  unfold Dev.takePending; constructor <;> simp

@[simp] theorem Dev.clrFf_store (d : Dev) :
    (Dev.clrFf d).mem = d.mem ∧ (Dev.clrFf d).keys = d.keys := by
  unfold Dev.clrFf; constructor <;> simp

@[simp] theorem Dev.clrRecov_store (d : Dev) :
    (Dev.clrRecov d).mem = d.mem ∧ (Dev.clrRecov d).keys = d.keys := by
  unfold Dev.clrRecov; constructor <;> simp

@[simp] theorem Dev.clrLost_store (d : Dev) :
    (Dev.clrLost d).mem = d.mem ∧ (Dev.clrLost d).keys = d.keys := by
  unfold Dev.clrLost; constructor <;> simp

@[simp] theorem Dev.countRecovery_store (d : Dev) :
    (Dev.countRecovery d).mem = d.mem ∧ (Dev.countRecovery d).keys = d.keys := by
  unfold Dev.countRecovery; constructor <;> simp

@[simp] theorem Dev.recovWindowEnd_store (d : Dev) :
    (Dev.recovWindowEnd d).mem = d.mem ∧ (Dev.recovWindowEnd d).keys = d.keys := by
  unfold Dev.recovWindowEnd; constructor <;> simp

@[simp] theorem Dev.latchRecovery_store (d : Dev) :
    (Dev.latchRecovery d).mem = d.mem ∧ (Dev.latchRecovery d).keys = d.keys := by
  unfold Dev.latchRecovery; constructor <;> simp

@[simp] theorem Dev.sevWrite_store (d : Dev) (w : Nat) (v : Word) :
    (Dev.sevWrite d w v).mem = d.mem ∧ (Dev.sevWrite d w v).keys = d.keys := by
  unfold Dev.sevWrite; constructor <;> simp

@[simp] theorem Dev.configCrc_store (d : Dev) :
    (Dev.configCrc d).mem = d.mem ∧ (Dev.configCrc d).keys = d.keys := by
  unfold Dev.configCrc; constructor <;> simp

@[simp] theorem Dev.selftestRun_store (d : Dev) :
    (Dev.selftestRun d).mem = d.mem ∧ (Dev.selftestRun d).keys = d.keys := by
  unfold Dev.selftestRun; constructor <;> simp

@[simp] theorem Dev.scaoloArm_store (d : Dev) (w : Word) :
    (Dev.scaoloArm d w).mem = d.mem ∧ (Dev.scaoloArm d w).keys = d.keys := by
  unfold Dev.scaoloArm; constructor <;> simp

/-! ## Otp -/

@[simp] theorem Dev.modBoot_store (d : Dev) (f : BootS → BootS) :
    (Dev.modBoot d f).mem = d.mem ∧ (Dev.modBoot d f).keys = d.keys := by
  unfold Dev.modBoot; constructor <;> simp

@[simp] theorem Dev.burn_store (d : Dev) (w : Nat) (v : Word) :
    (Dev.burn d w v).mem = d.mem ∧ (Dev.burn d w v).keys = d.keys := by
  unfold Dev.burn; constructor <;> simp

@[simp] theorem Dev.senseWord_store (d : Dev) (w : Nat) :
    (Dev.senseWord d w).mem = d.mem ∧ (Dev.senseWord d w).keys = d.keys := by
  unfold Dev.senseWord; constructor <;> simp

@[simp] theorem Dev.otpResult_store (d : Dev) (r : Nat) :
    (Dev.otpResult d r).mem = d.mem ∧ (Dev.otpResult d r).keys = d.keys := by
  unfold Dev.otpResult; constructor <;> simp

@[simp] theorem Dev.otpStart_store (d : Dev) (j : OtpJob) :
    (Dev.otpStart d j).mem = d.mem ∧ (Dev.otpStart d j).keys = d.keys := by
  unfold Dev.otpStart; constructor <;> simp

@[simp] theorem Dev.otpKeyed_mem (d : Dev) (w : Word) (f : Dev → Dev) (h : ∀ d : Dev, (f d).mem = d.mem) : (Dev.otpKeyed d w f).mem = d.mem := by
  unfold Dev.otpKeyed; simp [h]

@[simp] theorem Dev.otpKeyed_keys (d : Dev) (w : Word) (f : Dev → Dev) (h : ∀ d : Dev, (f d).keys = d.keys) : (Dev.otpKeyed d w f).keys = d.keys := by
  unfold Dev.otpKeyed; simp [h]

@[simp] theorem Dev.otpBurn_store (d : Dev) (env : Bool) (data : Nat → Word) :
    (Dev.otpBurn d env data).mem = d.mem ∧ (Dev.otpBurn d env data).keys = d.keys := by
  unfold Dev.otpBurn; constructor <;> simp

@[simp] theorem Dev.otpProgram_store (d : Dev) (env : Bool) :
    (Dev.otpProgram d env).mem = d.mem ∧ (Dev.otpProgram d env).keys = d.keys := by
  unfold Dev.otpProgram; constructor <;> simp

@[simp] theorem Dev.otpReburn_store (d : Dev) (env : Bool) :
    (Dev.otpReburn d env).mem = d.mem ∧ (Dev.otpReburn d env).keys = d.keys := by
  unfold Dev.otpReburn; constructor <;> simp

@[simp] theorem Dev.otpMargin_store (d : Dev) :
    (Dev.otpMargin d).mem = d.mem ∧ (Dev.otpMargin d).keys = d.keys := by
  unfold Dev.otpMargin; constructor <;> simp

@[simp] theorem Dev.otpResense_store (d : Dev) :
    (Dev.otpResense d).mem = d.mem ∧ (Dev.otpResense d).keys = d.keys := by
  unfold Dev.otpResense; constructor <;> simp

@[simp] theorem Dev.otpCmd_store (d : Dev) (w : Word) (env : Bool) :
    (Dev.otpCmd d w env).mem = d.mem ∧ (Dev.otpCmd d w env).keys = d.keys := by
  unfold Dev.otpCmd; constructor <;> (repeat' split) <;> simp

@[simp] theorem Dev.sbResult_store (d : Dev) (r : Nat) :
    (Dev.sbResult d r).mem = d.mem ∧ (Dev.sbResult d r).keys = d.keys := by
  unfold Dev.sbResult; constructor <;> simp

@[simp] theorem Dev.sbStart_store (d : Dev) (j : OtpJob) :
    (Dev.sbStart d j).mem = d.mem ∧ (Dev.sbStart d j).keys = d.keys := by
  unfold Dev.sbStart; constructor <;> simp

@[simp] theorem Dev.sbKeyed_mem (d : Dev) (w : Word) (f : Dev → Dev) (h : ∀ d : Dev, (f d).mem = d.mem) : (Dev.sbKeyed d w f).mem = d.mem := by
  unfold Dev.sbKeyed; simp [h]

@[simp] theorem Dev.sbKeyed_keys (d : Dev) (w : Word) (f : Dev → Dev) (h : ∀ d : Dev, (f d).keys = d.keys) : (Dev.sbKeyed d w f).keys = d.keys := by
  unfold Dev.sbKeyed; simp [h]

@[simp] theorem Dev.arbAdvance_store (d : Dev) (v : Nat) (env : Bool) :
    (Dev.arbAdvance d v env).mem = d.mem ∧ (Dev.arbAdvance d v env).keys = d.keys := by
  unfold Dev.arbAdvance; constructor <;> simp

@[simp] theorem Dev.revoke_store (d : Dev) (i : Nat) (env : Bool) :
    (Dev.revoke d i env).mem = d.mem ∧ (Dev.revoke d i env).keys = d.keys := by
  unfold Dev.revoke; constructor <;> simp

@[simp] theorem Dev.otpEnd_store (d : Dev) (r : Nat) (pulses : Nat) (w : Nat) :
    (Dev.otpEnd d r pulses w).mem = d.mem ∧ (Dev.otpEnd d r pulses w).keys = d.keys := by
  unfold Dev.otpEnd; constructor <;> simp

@[simp] theorem Dev.sbEnd_store (d : Dev) (r : Nat) :
    (Dev.sbEnd d r).mem = d.mem ∧ (Dev.sbEnd d r).keys = d.keys := by
  unfold Dev.sbEnd; constructor <;> simp

/-! ## Boot -/

@[simp] theorem Dev.bootHoldoffEnd_store (d : Dev) :
    (Dev.bootHoldoffEnd d).mem = d.mem ∧ (Dev.bootHoldoffEnd d).keys = d.keys := by
  unfold Dev.bootHoldoffEnd; constructor <;> simp

@[simp] theorem Dev.releaseRecords_store (d : Dev) :
    (Dev.releaseRecords d).mem = d.mem ∧ (Dev.releaseRecords d).keys = d.keys := by
  unfold Dev.releaseRecords; constructor <;> simp

@[simp] theorem Dev.attest_store (d : Dev) :
    (Dev.attest d).mem = d.mem ∧ (Dev.attest d).keys = d.keys := by
  unfold Dev.attest; constructor <;> simp

@[simp] theorem Dev.writeNonce_store (d : Dev) (p : Nat) (ofs : Nat) :
    (Dev.writeNonce d p ofs).mem = d.mem ∧ (Dev.writeNonce d p ofs).keys = d.keys := by
  unfold Dev.writeNonce; constructor <;> simp

@[simp] theorem Dev.dbgChallenge_store (d : Dev) :
    (Dev.dbgChallenge d).mem = d.mem ∧ (Dev.dbgChallenge d).keys = d.keys := by
  unfold Dev.dbgChallenge; constructor <;> simp

@[simp] theorem Dev.tokenWrite_store (d : Dev) (i : Nat) (w : Word) :
    (Dev.tokenWrite d i w).mem = d.mem ∧ (Dev.tokenWrite d i w).keys = d.keys := by
  unfold Dev.tokenWrite; constructor <;> simp

/-! ## Mbox -/

@[simp] theorem Dev.mbBell_store (d : Dev) (n : Nat) :
    (Dev.mbBell d n).mem = d.mem ∧ (Dev.mbBell d n).keys = d.keys := by
  unfold Dev.mbBell; constructor <;> simp

@[simp] theorem Dev.mbFree_store (d : Dev) (n : Nat) :
    (Dev.mbFree d n).mem = d.mem ∧ (Dev.mbFree d n).keys = d.keys := by
  unfold Dev.mbFree; constructor <;> simp

@[simp] theorem Dev.mbLockRead_store (d : Dev) (n : Nat) (who : Nat) :
    (Dev.mbLockRead d n who).1.mem = d.mem ∧ (Dev.mbLockRead d n who).1.keys = d.keys := by
  unfold Dev.mbLockRead; constructor <;> simp

theorem Dev.mbRelease_store (d : Dev) (n : Nat) (who : Nat) (e : Dev) (h : d.mbRelease n who = some e) : e.mem = d.mem ∧ e.keys = d.keys := by
  unfold Dev.mbRelease at h; (repeat' split at h) <;> first | (simp only [Option.some.injEq] at h; subst h; simp) | (simp only [reduceCtorEq] at h)

theorem Dev.mbRelease_getD (d : Dev) (n : Nat) (who : Nat) (e : Dev) (h : e.mem = d.mem ∧ e.keys = d.keys) :
    ((d.mbRelease n who).getD e).mem = d.mem ∧ ((d.mbRelease n who).getD e).keys = d.keys := by
  rcases hc : d.mbRelease n who with _ | x
  · exact h
  · exact Dev.mbRelease_store d n who x hc

theorem Dev.mbMsg_store (d : Dev) (n : Nat) (who : Nat) (i : Nat) (w : Word) (e : Dev) (h : d.mbMsg n who i w = some e) : e.mem = d.mem ∧ e.keys = d.keys := by
  unfold Dev.mbMsg at h; (repeat' split at h) <;> first | (simp only [Option.some.injEq] at h; subst h; simp) | (simp only [reduceCtorEq] at h)

theorem Dev.mbMsg_getD (d : Dev) (n : Nat) (who : Nat) (i : Nat) (w : Word) (e : Dev) (h : e.mem = d.mem ∧ e.keys = d.keys) :
    ((d.mbMsg n who i w).getD e).mem = d.mem ∧ ((d.mbMsg n who i w).getD e).keys = d.keys := by
  rcases hc : d.mbMsg n who i w with _ | x
  · exact h
  · exact Dev.mbMsg_store d n who i w x hc

theorem Dev.mbDbSet_store (d : Dev) (n : Nat) (who : Nat) (w : Word) (e : Dev) (h : d.mbDbSet n who w = some e) : e.mem = d.mem ∧ e.keys = d.keys := by
  unfold Dev.mbDbSet at h; (try dsimp only at h); (repeat' split at h) <;> first | (simp only [Option.some.injEq] at h; subst h; simp) | (simp only [reduceCtorEq] at h)

theorem Dev.mbDbSet_getD (d : Dev) (n : Nat) (who : Nat) (w : Word) (e : Dev) (h : e.mem = d.mem ∧ e.keys = d.keys) :
    ((d.mbDbSet n who w).getD e).mem = d.mem ∧ ((d.mbDbSet n who w).getD e).keys = d.keys := by
  rcases hc : d.mbDbSet n who w with _ | x
  · exact h
  · exact Dev.mbDbSet_store d n who w x hc

theorem Dev.mbDone_store (d : Dev) (n : Nat) (who : Nat) (e : Dev) (h : d.mbDone n who = some e) : e.mem = d.mem ∧ e.keys = d.keys := by
  unfold Dev.mbDone at h; (try dsimp only at h); (repeat' split at h) <;> first | (simp only [Option.some.injEq] at h; subst h; simp) | (simp only [reduceCtorEq] at h)

theorem Dev.mbDone_getD (d : Dev) (n : Nat) (who : Nat) (e : Dev) (h : e.mem = d.mem ∧ e.keys = d.keys) :
    ((d.mbDone n who).getD e).mem = d.mem ∧ ((d.mbDone n who).getD e).keys = d.keys := by
  rcases hc : d.mbDone n who with _ | x
  · exact h
  · exact Dev.mbDone_store d n who x hc

@[simp] theorem Dev.mbOrphan_store (d : Dev) (who : Nat) (l : List Nat) :
    (Dev.mbOrphan d who l).mem = d.mem ∧ (Dev.mbOrphan d who l).keys = d.keys := by
  unfold Dev.mbOrphan; constructor <;> simp

@[simp] theorem Dev.recordPublish_store (d : Dev) :
    (Dev.recordPublish d).mem = d.mem ∧ (Dev.recordPublish d).keys = d.keys := by
  unfold Dev.recordPublish; constructor <;> simp

/-! ## Intc -/

@[simp] theorem Dev.setPend_store (d : Dev) (i : Nat) (s : Nat) (on : Bool) :
    (Dev.setPend d i s on).mem = d.mem ∧ (Dev.setPend d i s on).keys = d.keys := by
  unfold Dev.setPend; constructor <;> simp

@[simp] theorem Dev.setAct_store (d : Dev) (i : Nat) (s : Nat) (on : Bool) :
    (Dev.setAct d i s on).mem = d.mem ∧ (Dev.setAct d i s on).keys = d.keys := by
  unfold Dev.setAct; constructor <;> simp

@[simp] theorem Dev.intEdge_store (d : Dev) (i : Nat) (s : Nat) :
    (Dev.intEdge d i s).mem = d.mem ∧ (Dev.intEdge d i s).keys = d.keys := by
  unfold Dev.intEdge; constructor <;> simp

@[simp] theorem Dev.interruptEdge_store (d : Dev) (i : Nat) (s : Nat) :
    (Dev.interruptEdge d i s).mem = d.mem ∧ (Dev.interruptEdge d i s).keys = d.keys := by
  unfold Dev.interruptEdge; constructor <;> simp

@[simp] theorem Dev.setStack_store (d : Dev) (i : Nat) (l : List Nat) :
    (Dev.setStack d i l).mem = d.mem ∧ (Dev.setStack d i l).keys = d.keys := by
  unfold Dev.setStack; constructor <;> simp

@[simp] theorem Dev.modCore_store (d : Dev) (i : Nat) (f : CoreS → CoreS) :
    (Dev.modCore d i f).mem = d.mem ∧ (Dev.modCore d i f).keys = d.keys := by
  unfold Dev.modCore; constructor <;> simp

@[simp] theorem Dev.setPair_store (d : Dev) (i : Nat) (n : Nat) :
    (Dev.setPair d i n).mem = d.mem ∧ (Dev.setPair d i n).keys = d.keys := by
  unfold Dev.setPair; constructor <;> simp

@[simp] theorem Dev.interruptDelivery_store (d : Dev) (i : Nat) :
    (Dev.interruptDelivery d i).mem = d.mem ∧ (Dev.interruptDelivery d i).keys = d.keys := by
  unfold Dev.interruptDelivery; constructor <;> simp <;> (repeat' split) <;> simp

@[simp] theorem Dev.intComplete_store (d : Dev) (i : Nat) (s : Nat) :
    (Dev.intComplete d i s).mem = d.mem ∧ (Dev.intComplete d i s).keys = d.keys := by
  unfold Dev.intComplete; constructor <;> simp

@[simp] theorem Dev.swi_store (d : Dev) (i : Nat) (w : Word) :
    (Dev.swi d i w).mem = d.mem ∧ (Dev.swi d i w).keys = d.keys := by
  unfold Dev.swi; constructor <;> simp

@[simp] theorem Dev.setTick_store (d : Dev) (i : Nat) (t : Nat) :
    (Dev.setTick d i t).mem = d.mem ∧ (Dev.setTick d i t).keys = d.keys := by
  unfold Dev.setTick; constructor <;> simp

@[simp] theorem Dev.intTick_store (d : Dev) (i : Nat) :
    (Dev.intTick d i).mem = d.mem ∧ (Dev.intTick d i).keys = d.keys := by
  unfold Dev.intTick; constructor <;> simp

@[simp] theorem Dev.prioWrite_store (d : Dev) (i : Nat) (w : Nat) (v : Word) :
    (Dev.prioWrite d i w v).mem = d.mem ∧ (Dev.prioWrite d i w v).keys = d.keys := by
  unfold Dev.prioWrite; constructor <;> simp

@[simp] theorem Dev.vectorWrite_store (d : Dev) (i : Nat) (s : Nat) (v : Word) :
    (Dev.vectorWrite d i s v).mem = d.mem ∧ (Dev.vectorWrite d i s v).keys = d.keys := by
  unfold Dev.vectorWrite; constructor <;> simp

@[simp] theorem Dev.wfiWake_store (d : Dev) (i : Nat) :
    (Dev.wfiWake d i).mem = d.mem ∧ (Dev.wfiWake d i).keys = d.keys := by
  unfold Dev.wfiWake; constructor <;> simp

/-! ## MemEcc -/

@[simp] theorem Dev.memoryClearDone_store (d : Dev) (n : Nat) :
    (Dev.memoryClearDone d n).mem = d.mem ∧ (Dev.memoryClearDone d n).keys = d.keys := by
  unfold Dev.memoryClearDone; constructor <;> simp

@[simp] theorem Dev.eccLast_store (d : Dev) (k : Nat) (a : Nat) (cls : Nat) (bit : Nat) (ue : Bool) (scrub : Bool) :
    (Dev.eccLast d k a cls bit ue scrub).mem = d.mem ∧ (Dev.eccLast d k a cls bit ue scrub).keys = d.keys := by
  unfold Dev.eccLast; constructor <;> simp

@[simp] theorem Dev.secCfgWrite_store (d : Dev) (m : Master) (w : Word) :
    (Dev.secCfgWrite d m w).mem = d.mem ∧ (Dev.secCfgWrite d m w).keys = d.keys := by
  unfold Dev.secCfgWrite; constructor <;> simp

@[simp] theorem Dev.sramSecWrite_store (d : Dev) (m : Master) (ofs : Nat) (w : Word) :
    (Dev.sramSecWrite d m ofs w).mem = d.mem ∧ (Dev.sramSecWrite d m ofs w).keys = d.keys := by
  unfold Dev.sramSecWrite; constructor <;> simp

@[simp] theorem Dev.pairHalt_store (d : Dev) (m : Master) (i : Nat) :
    (Dev.pairHalt d m i).mem = d.mem ∧ (Dev.pairHalt d m i).keys = d.keys := by
  unfold Dev.pairHalt; constructor <;> simp

@[simp] theorem Dev.pairResume_store (d : Dev) (m : Master) (i : Nat) :
    (Dev.pairResume d m i).mem = d.mem ∧ (Dev.pairResume d m i).keys = d.keys := by
  unfold Dev.pairResume; constructor <;> simp

/-! ## Mram -/

@[simp] theorem Dev.modMram_store (d : Dev) (f : MramS → MramS) :
    (Dev.modMram d f).mem = d.mem ∧ (Dev.modMram d f).keys = d.keys := by
  unfold Dev.modMram; constructor <;> simp

@[simp] theorem Dev.setJob_store (d : Dev) (j : MramJob) :
    (Dev.setJob d j).mem = d.mem ∧ (Dev.setJob d j).keys = d.keys := by
  unfold Dev.setJob; constructor <;> simp

@[simp] theorem Dev.setBankFld_store (d : Dev) (m : Master) (f : Fld) (v : Nat) :
    (Dev.setBankFld d m f v).mem = d.mem ∧ (Dev.setBankFld d m f v).keys = d.keys := by
  unfold Dev.setBankFld; constructor <;> simp

@[simp] theorem Dev.mramResult_store (d : Dev) (m : Master) (r : Nat) :
    (Dev.mramResult d m r).mem = d.mem ∧ (Dev.mramResult d m r).keys = d.keys := by
  unfold Dev.mramResult; constructor <;> simp

@[simp] theorem Dev.scanStart_store (d : Dev) (j : MramJob) (r : Nat) :
    (Dev.scanStart d j r).mem = d.mem ∧ (Dev.scanStart d j r).keys = d.keys := by
  unfold Dev.scanStart; constructor <;> simp

@[simp] theorem Dev.jobNext_store (d : Dev) :
    (Dev.jobNext d).mem = d.mem ∧ (Dev.jobNext d).keys = d.keys := by
  unfold Dev.jobNext; constructor <;> simp <;> (repeat' split) <;> simp

@[simp] theorem Dev.srCfgWrite_store (d : Dev) (m : Master) (r : Nat) (w : Word) :
    (Dev.srCfgWrite d m r w).mem = d.mem ∧ (Dev.srCfgWrite d m r w).keys = d.keys := by
  unfold Dev.srCfgWrite; constructor <;> simp <;> (repeat' split) <;> simp

@[simp] theorem Dev.mramStart_store (d : Dev) (m : Master) (j : MramJob) :
    (Dev.mramStart d m j).mem = d.mem ∧ (Dev.mramStart d m j).keys = d.keys := by
  unfold Dev.mramStart; constructor <;> simp

@[simp] theorem Dev.mramKeyed_mem (d : Dev) (m : Master) (key : Nat) (f : Dev → Dev) (h : ∀ d : Dev, (f d).mem = d.mem) : (Dev.mramKeyed d m key f).mem = d.mem := by
  unfold Dev.mramKeyed; simp [h]

@[simp] theorem Dev.mramKeyed_keys (d : Dev) (m : Master) (key : Nat) (f : Dev → Dev) (h : ∀ d : Dev, (f d).keys = d.keys) : (Dev.mramKeyed d m key f).keys = d.keys := by
  unfold Dev.mramKeyed; simp [h]

@[simp] theorem Dev.mramWrite_store (d : Dev) (m : Master) :
    (Dev.mramWrite d m).mem = d.mem ∧ (Dev.mramWrite d m).keys = d.keys := by
  unfold Dev.mramWrite; constructor <;> simp

@[simp] theorem Dev.srWriteCmd_store (d : Dev) (m : Master) (r : Nat) :
    (Dev.srWriteCmd d m r).mem = d.mem ∧ (Dev.srWriteCmd d m r).keys = d.keys := by
  unfold Dev.srWriteCmd; constructor <;> simp

@[simp] theorem Dev.srReadCmd_store (d : Dev) (m : Master) (r : Nat) :
    (Dev.srReadCmd d m r).mem = d.mem ∧ (Dev.srReadCmd d m r).keys = d.keys := by
  unfold Dev.srReadCmd; constructor <;> simp

@[simp] theorem Dev.srRescanCmd_store (d : Dev) (m : Master) (r : Nat) :
    (Dev.srRescanCmd d m r).mem = d.mem ∧ (Dev.srRescanCmd d m r).keys = d.keys := by
  unfold Dev.srRescanCmd; constructor <;> simp

@[simp] theorem Dev.mramCmd_store (d : Dev) (m : Master) (w : Word) :
    (Dev.mramCmd d m w).mem = d.mem ∧ (Dev.mramCmd d m w).keys = d.keys := by
  unfold Dev.mramCmd; constructor <;> simp

@[simp] theorem Dev.mramEnd_store (d : Dev) (m : Master) (r : Nat) :
    (Dev.mramEnd d m r).mem = d.mem ∧ (Dev.mramEnd d m r).keys = d.keys := by
  unfold Dev.mramEnd; constructor <;> simp

@[simp] theorem Dev.srWritten_store (d : Dev) (m : Master) (r : Nat) (t : Nat) (s : Nat) (wasValid : Bool) :
    (Dev.srWritten d m r t s wasValid).mem = d.mem ∧ (Dev.srWritten d m r t s wasValid).keys = d.keys := by
  unfold Dev.srWritten; constructor <;> simp

/-! ## Check -/

@[simp] theorem Dev.modCheck_store (d : Dev) (n : Nat) (f : CheckS → CheckS) :
    (Dev.modCheck d n f).mem = d.mem ∧ (Dev.modCheck d n f).keys = d.keys := by
  unfold Dev.modCheck; constructor <;> simp

@[simp] theorem Dev.noteCheck_store (d : Dev) (n : Nat) :
    (Dev.noteCheck d n).mem = d.mem ∧ (Dev.noteCheck d n).keys = d.keys := by
  unfold Dev.noteCheck; constructor <;> simp

@[simp] theorem Dev.checkStart_store (d : Dev) (n : Nat) :
    (Dev.checkStart d n).mem = d.mem ∧ (Dev.checkStart d n).keys = d.keys := by
  unfold Dev.checkStart; constructor <;> simp

@[simp] theorem Dev.checkDin_store (d : Dev) (n : Nat) (k : Nat) (w : Word) :
    (Dev.checkDin d n k w).mem = d.mem ∧ (Dev.checkDin d n k w).keys = d.keys := by
  unfold Dev.checkDin; constructor <;> simp

@[simp] theorem Dev.checkResync_store (d : Dev) (n : Nat) :
    (Dev.checkResync d n).mem = d.mem ∧ (Dev.checkResync d n).keys = d.keys := by
  unfold Dev.checkResync; constructor <;> simp

@[simp] theorem Dev.observeRecord_store (d : Dev) (ring : Nat) (ws : List Word) :
    (Dev.observeRecord d ring ws).mem = d.mem ∧ (Dev.observeRecord d ring ws).keys = d.keys := by
  unfold Dev.observeRecord; constructor <;> simp

@[simp] theorem Dev.checkEnable_store (d : Dev) (n : Nat) (on : Bool) :
    (Dev.checkEnable d n on).mem = d.mem ∧ (Dev.checkEnable d n on).keys = d.keys := by
  unfold Dev.checkEnable; constructor <;> simp

@[simp] theorem Dev.observeFrom_store (d : Dev) (ring : Nat) (hi : Nat) (x3 : Nat) (x4 : Nat) :
    (Dev.observeFrom d ring hi x3 x4).mem = d.mem ∧ (Dev.observeFrom d ring hi x3 x4).keys = d.keys := by
  induction x3 generalizing d x4 with
  | zero => simp [Dev.observeFrom]
  | succ k ih => unfold Dev.observeFrom; constructor <;> simp [ih]

@[simp] theorem Dev.piWriteSeen_store (d : Dev) (n : Nat) (v : Nat) :
    (Dev.piWriteSeen d n v).mem = d.mem ∧ (Dev.piWriteSeen d n v).keys = d.keys := by
  unfold Dev.piWriteSeen; constructor <;> simp

/-! ## Net -/

@[simp] theorem Dev.modNet_store (d : Dev) (c : Net) (f : NetS → NetS) :
    (Dev.modNet d c f).mem = d.mem ∧ (Dev.modNet d c f).keys = d.keys := by
  unfold Dev.modNet; constructor <;> simp

@[simp] theorem Dev.canState_store (d : Dev) (n : Nat) :
    (Dev.canState d n).mem = d.mem ∧ (Dev.canState d n).keys = d.keys := by
  unfold Dev.canState; constructor <;> simp

@[simp] theorem Dev.setTx_store (d : Dev) (c : Net) (k : Nat) (ws : List Word) :
    (Dev.setTx d c k ws).mem = d.mem ∧ (Dev.setTx d c k ws).keys = d.keys := by
  unfold Dev.setTx; constructor <;> simp <;> (repeat' split) <;> simp

@[simp] theorem Dev.txBad_store (d : Dev) (c : Net) :
    (Dev.txBad d c).mem = d.mem ∧ (Dev.txBad d c).keys = d.keys := by
  unfold Dev.txBad; constructor <;> simp

@[simp] theorem Dev.txFailed_store (d : Dev) (n : Fin 2) :
    (Dev.txFailed d n).mem = d.mem ∧ (Dev.txFailed d n).keys = d.keys := by
  unfold Dev.txFailed; constructor <;> (simp; (repeat' split) <;> simp)

@[simp] theorem Dev.canError_store (d : Dev) (n : Fin 2) (e : CanError) :
    (Dev.canError d n e).mem = d.mem ∧ (Dev.canError d n e).keys = d.keys := by
  unfold Dev.canError; constructor <;> simp <;> (repeat' split) <;> simp

@[simp] theorem Dev.canRecover_store (d : Dev) (n : Fin 2) :
    (Dev.canRecover d n).mem = d.mem ∧ (Dev.canRecover d n).keys = d.keys := by
  unfold Dev.canRecover; constructor <;> simp

@[simp] theorem Dev.busOffRecovery_store (d : Dev) (n : Fin 2) (seqs : Nat) :
    (Dev.busOffRecovery d n seqs).mem = d.mem ∧ (Dev.busOffRecovery d n seqs).keys = d.keys := by
  unfold Dev.busOffRecovery; constructor <;> simp

@[simp] theorem Dev.ptpCommit_store (d : Dev) :
    (Dev.ptpCommit d).mem = d.mem ∧ (Dev.ptpCommit d).keys = d.keys := by
  unfold Dev.ptpCommit; constructor <;> simp <;> (repeat' split) <;> simp

@[simp] theorem Dev.netEnable_store (d : Dev) (c : Net) (on : Bool) :
    (Dev.netEnable d c on).mem = d.mem ∧ (Dev.netEnable d c on).keys = d.keys := by
  unfold Dev.netEnable; constructor <;> simp

@[simp] theorem Dev.busWake_store (d : Dev) (n : Fin 2) (us : Nat) :
    (Dev.busWake d n us).mem = d.mem ∧ (Dev.busWake d n us).keys = d.keys := by
  unfold Dev.busWake; constructor <;> simp

@[simp] theorem Dev.hostPortWake_store (d : Dev) (us : Nat) :
    (Dev.hostPortWake d us).mem = d.mem ∧ (Dev.hostPortWake d us).keys = d.keys := by
  unfold Dev.hostPortWake; constructor <;> simp

/-! ## Pin -/

@[simp] theorem Dev.mxcfgWrite_store (d : Dev) (m : Master) (k : Nat) (w : Word) :
    (Dev.mxcfgWrite d m k w).mem = d.mem ∧ (Dev.mxcfgWrite d m k w).keys = d.keys := by
  unfold Dev.mxcfgWrite; constructor <;> simp

@[simp] theorem Dev.gpioWrite_store (d : Dev) (m : Master) (ofs : Nat) (w : Word) :
    (Dev.gpioWrite d m ofs w).mem = d.mem ∧ (Dev.gpioWrite d m ofs w).keys = d.keys := by
  unfold Dev.gpioWrite; constructor <;> simp

@[simp] theorem Dev.gpioIn_store (d : Dev) :
    (Dev.gpioIn d).2.mem = d.mem ∧ (Dev.gpioIn d).2.keys = d.keys := by
  unfold Dev.gpioIn; constructor <;> simp

@[simp] theorem Dev.ageCmd_store (d : Dev) (w : Word) :
    (Dev.ageCmd d w).mem = d.mem ∧ (Dev.ageCmd d w).keys = d.keys := by
  unfold Dev.ageCmd; constructor <;> simp

@[simp] theorem Dev.ageDone_store (d : Dev) (ns : Nat) (nr : Nat) :
    (Dev.ageDone d ns nr).mem = d.mem ∧ (Dev.ageDone d ns nr).keys = d.keys := by
  unfold Dev.ageDone; constructor <;> simp

/-! ## Session -/

@[simp] theorem Dev.sessEnd_store (d : Dev) :
    (Dev.sessEnd d).mem = d.mem ∧ (Dev.sessEnd d).keys = d.keys := by
  unfold Dev.sessEnd; constructor <;> simp

@[simp] theorem Dev.sessIdle_store (d : Dev) :
    (Dev.sessIdle d).mem = d.mem ∧ (Dev.sessIdle d).keys = d.keys := by
  unfold Dev.sessIdle; constructor <;> simp

@[simp] theorem Dev.nonceExpiry_store (d : Dev) :
    (Dev.nonceExpiry d).mem = d.mem ∧ (Dev.nonceExpiry d).keys = d.keys := by
  unfold Dev.nonceExpiry; constructor <;> simp

@[simp] theorem Dev.dbgRelock_store (d : Dev) :
    (Dev.dbgRelock d).mem = d.mem ∧ (Dev.dbgRelock d).keys = d.keys := by
  unfold Dev.dbgRelock; constructor <;> simp

/-! ## Power -/

@[simp] theorem Dev.islandLoad_store (d : Dev) : (Dev.islandLoad d).mem = d.mem ∧ (Dev.islandLoad d).keys = d.keys := by
  unfold Dev.islandLoad; constructor <;> simp

@[simp] theorem Dev.brownReaction_store (d : Dev) :
    (Dev.brownReaction d).mem = d.mem ∧ (Dev.brownReaction d).keys = d.keys := by
  unfold Dev.brownReaction; constructor <;> simp

@[simp] theorem Dev.disarmNow_store (d : Dev) :
    (Dev.disarmNow d).mem = d.mem ∧ (Dev.disarmNow d).keys = d.keys := by
  unfold Dev.disarmNow; constructor <;> simp

@[simp] theorem Dev.releaseTiles_store (d : Dev) :
    (Dev.releaseTiles d).mem = d.mem ∧ (Dev.releaseTiles d).keys = d.keys := by
  unfold Dev.releaseTiles; constructor <;> simp

@[simp] theorem Dev.offSettle_store (d : Dev) :
    (Dev.offSettle d).mem = d.mem ∧ (Dev.offSettle d).keys = d.keys := by
  unfold Dev.offSettle; constructor <;> simp

@[simp] theorem Dev.holdOffEnd_store (d : Dev) :
    (Dev.holdOffEnd d).mem = d.mem ∧ (Dev.holdOffEnd d).keys = d.keys := by
  unfold Dev.holdOffEnd; constructor <;> simp

@[simp] theorem Dev.vinOkSet_store (d : Dev) (vin : Nat) (vbak : Nat) (ms : Nat) :
    (Dev.vinOkSet d vin vbak ms).mem = d.mem ∧ (Dev.vinOkSet d vin vbak ms).keys = d.keys := by
  unfold Dev.vinOkSet; constructor <;> simp

/-! ## RegWrite -/

@[simp] theorem Dev.tableWrite_store (d : Dev) (m : Master) (k : PageKind) (p : Nat) (ofs : Nat) (r : RegDesc) (idle : Bool) (extra : List (Nat × Nat)) (w : Word) :
    (Dev.tableWrite d m k p ofs r idle extra w).mem = d.mem ∧ (Dev.tableWrite d m k p ofs r idle extra w).keys = d.keys := by
  unfold Dev.tableWrite; constructor <;> simp <;> (repeat' split) <;> simp

@[simp] theorem Dev.softBlock_store (d : Dev) (k : PageKind) (i : Nat) :
    (Dev.softBlock d k i).mem = d.mem ∧ (Dev.softBlock d k i).keys = d.keys := by
  unfold Dev.softBlock; constructor <;> simp <;> (repeat' split) <;> simp

@[simp] theorem Dev.softReset_store (d : Dev) (k : PageKind) (i : Nat) :
    (Dev.softReset d k i).mem = d.mem ∧ (Dev.softReset d k i).keys = d.keys := by
  unfold Dev.softReset; dsimp only
  constructor
  · rw [(Dev.softBlock_store _ k i).1]
    refine Dev.each_mem _ (fun e x => ?_) _ _
    split <;> simp
  · rw [(Dev.softBlock_store _ k i).2]
    refine Dev.each_keys _ (fun e x => ?_) _ _
    split <;> simp

/-! ## BlockWrite -/

@[simp] theorem Dev.plainWrite_store (d : Dev) (m : Master) (k : PageKind) (i : Nat) (ofs : Nat) (w : Word) :
    (Dev.plainWrite d m k i ofs w).mem = d.mem ∧ (Dev.plainWrite d m k i ofs w).keys = d.keys := by
  unfold Dev.plainWrite; constructor <;> (repeat' split) <;> simp

@[simp] theorem Dev.supplyWrite_store (d : Dev) (m : Master) (ofs : Nat) (w : Word) :
    (Dev.supplyWrite d m ofs w).mem = d.mem ∧ (Dev.supplyWrite d m ofs w).keys = d.keys := by
  unfold Dev.supplyWrite; constructor <;> simp <;> (repeat' split) <;> simp

@[simp] theorem Dev.pathWrite_store (d : Dev) (m : Master) (ofs : Nat) (w : Word) :
    (Dev.pathWrite d m ofs w).mem = d.mem ∧ (Dev.pathWrite d m ofs w).keys = d.keys := by
  unfold Dev.pathWrite; constructor <;> simp

@[simp] theorem Dev.seqWrite_store (d : Dev) (m : Master) (ofs : Nat) (w : Word) :
    (Dev.seqWrite d m ofs w).mem = d.mem ∧ (Dev.seqWrite d m ofs w).keys = d.keys := by
  unfold Dev.seqWrite; constructor <;> simp <;> (repeat' split) <;> simp

@[simp] theorem Dev.rtcLand_store (d : Dev) (m : Master) (ofs : Nat) (w : Word) (ticks : Nat) :
    (Dev.rtcLand d m ofs w ticks).mem = d.mem ∧ (Dev.rtcLand d m ofs w ticks).keys = d.keys := by
  unfold Dev.rtcLand; constructor <;> simp

@[simp] theorem Dev.cellarLand_store (d : Dev) (m : Master) (p : Nat) (ofs : Nat) (w : Word) (ticks : Nat) :
    (Dev.cellarLand d m p ofs w ticks).mem = d.mem ∧ (Dev.cellarLand d m p ofs w ticks).keys = d.keys := by
  unfold Dev.cellarLand; constructor <;> simp

@[simp] theorem Dev.setSyncBusy_store (d : Dev) (p : Nat) (on : Bool) :
    (Dev.setSyncBusy d p on).mem = d.mem ∧ (Dev.setSyncBusy d p on).keys = d.keys := by
  unfold Dev.setSyncBusy; constructor <;> simp

@[simp] theorem Dev.cellarSync_store (d : Dev) (p : Nat) (ticks : Nat) :
    (Dev.cellarSync d p ticks).mem = d.mem ∧ (Dev.cellarSync d p ticks).keys = d.keys := by
  unfold Dev.cellarSync; constructor <;> (repeat' split) <;> simp

@[simp] theorem Dev.cellarWrite_store (d : Dev) (m : Master) (p : Nat) (ofs : Nat) (w : Word) (ticks : Nat) :
    (Dev.cellarWrite d m p ofs w ticks).mem = d.mem ∧ (Dev.cellarWrite d m p ofs w ticks).keys = d.keys := by
  unfold Dev.cellarWrite; constructor <;> simp

@[simp] theorem Dev.otpWrite_store (d : Dev) (m : Master) (ofs : Nat) (w : Word) (burn : Bool) :
    (Dev.otpWrite d m ofs w burn).mem = d.mem ∧ (Dev.otpWrite d m ofs w burn).keys = d.keys := by
  unfold Dev.otpWrite; constructor <;> simp

@[simp] theorem Dev.secbootWrite_store (d : Dev) (m : Master) (ofs : Nat) (w : Word) (burn : Bool) :
    (Dev.secbootWrite d m ofs w burn).mem = d.mem ∧ (Dev.secbootWrite d m ofs w burn).keys = d.keys := by
  unfold Dev.secbootWrite; constructor <;> simp <;> (repeat' split) <;> simp

@[simp] theorem Dev.syncCtrlWrite_store (d : Dev) (m : Master) (w : Word) :
    (Dev.syncCtrlWrite d m w).mem = d.mem ∧ (Dev.syncCtrlWrite d m w).keys = d.keys := by
  unfold Dev.syncCtrlWrite; constructor <;> simp

@[simp] theorem Dev.timebaseWrite_store (d : Dev) (m : Master) (ofs : Nat) (w : Word) :
    (Dev.timebaseWrite d m ofs w).mem = d.mem ∧ (Dev.timebaseWrite d m ofs w).keys = d.keys := by
  unfold Dev.timebaseWrite; constructor <;> simp

@[simp] theorem Dev.proofWrite_store (d : Dev) (m : Master) (ofs : Nat) (w : Word) :
    (Dev.proofWrite d m ofs w).mem = d.mem ∧ (Dev.proofWrite d m ofs w).keys = d.keys := by
  unfold Dev.proofWrite; constructor <;> simp

@[simp] theorem Dev.whitelistWrite_store (d : Dev) (m : Master) (ofs : Nat) (w : Word) :
    (Dev.whitelistWrite d m ofs w).mem = d.mem ∧ (Dev.whitelistWrite d m ofs w).keys = d.keys := by
  unfold Dev.whitelistWrite; constructor <;> simp

@[simp] theorem Dev.galleyWrite_store (d : Dev) (m : Master) (ofs : Nat) (w : Word) :
    (Dev.galleyWrite d m ofs w).mem = d.mem ∧ (Dev.galleyWrite d m ofs w).keys = d.keys := by
  unfold Dev.galleyWrite; constructor <;> simp <;> (repeat' split) <;> simp

@[simp] theorem Dev.convWrite_store (d : Dev) (m : Master) (g : Nat) (ofs : Nat) (w : Word) :
    (Dev.convWrite d m g ofs w).mem = d.mem ∧ (Dev.convWrite d m g ofs w).keys = d.keys := by
  unfold Dev.convWrite; constructor <;> simp

@[simp] theorem Dev.dischWrite_store (d : Dev) (m : Master) (ofs : Nat) (w : Word) :
    (Dev.dischWrite d m ofs w).mem = d.mem ∧ (Dev.dischWrite d m ofs w).keys = d.keys := by
  unfold Dev.dischWrite; constructor <;> simp <;> (repeat' split) <;> simp

@[simp] theorem Dev.adcWrite_store (d : Dev) (m : Master) (c : Nat) (ofs : Nat) (w : Word) :
    (Dev.adcWrite d m c ofs w).mem = d.mem ∧ (Dev.adcWrite d m c ofs w).keys = d.keys := by
  unfold Dev.adcWrite; constructor <;> simp

@[simp] theorem Dev.binWrite_store (d : Dev) (m : Master) (ofs : Nat) (w : Word) :
    (Dev.binWrite d m ofs w).mem = d.mem ∧ (Dev.binWrite d m ofs w).keys = d.keys := by
  unfold Dev.binWrite; dsimp only; split
  · exact Dev.binChannelWrite_getD _ _ _ _ (by simp)
  · simp

@[simp] theorem Dev.ringWrite_store (d : Dev) (m : Master) (n : Nat) (ofs : Nat) (w : Word) :
    (Dev.ringWrite d m n ofs w).mem = d.mem ∧ (Dev.ringWrite d m n ofs w).keys = d.keys := by
  unfold Dev.ringWrite; constructor <;> simp

@[simp] theorem Dev.gaugeWrite_store (d : Dev) (m : Master) (ofs : Nat) (w : Word) :
    (Dev.gaugeWrite d m ofs w).mem = d.mem ∧ (Dev.gaugeWrite d m ofs w).keys = d.keys := by
  unfold Dev.gaugeWrite; constructor <;> simp

@[simp] theorem Dev.mramPageWrite_store (d : Dev) (m : Master) (ofs : Nat) (w : Word) :
    (Dev.mramPageWrite d m ofs w).mem = d.mem ∧ (Dev.mramPageWrite d m ofs w).keys = d.keys := by
  unfold Dev.mramPageWrite; constructor <;> simp

@[simp] theorem Dev.mboxWrite_store (d : Dev) (m : Master) (n : Nat) (ofs : Nat) (w : Word) :
    (Dev.mboxWrite d m n ofs w).mem = d.mem ∧ (Dev.mboxWrite d m n ofs w).keys = d.keys := by
  unfold Dev.mboxWrite; dsimp only
  have hr := Dev.mbRelease_getD d n m.cls (d.refuse m (pg .mbox n) ofs) (by simp)
  have hd := Dev.mbDbSet_getD d n m.cls w (d.refuse m (pg .mbox n) ofs) (by simp)
  have hn := Dev.mbDone_getD d n m.cls (d.refuse m (pg .mbox n) ofs) (by simp)
  have hm := Dev.mbMsg_getD d n m.cls ((ofs - R.MBOX.MSG) / 4) w (d.refuse m (pg .mbox n) ofs) (by simp)
  constructor <;> simp [hr, hd, hn, hm]

@[simp] theorem Dev.pinmuxWrite_store (d : Dev) (m : Master) (ofs : Nat) (w : Word) :
    (Dev.pinmuxWrite d m ofs w).mem = d.mem ∧ (Dev.pinmuxWrite d m ofs w).keys = d.keys := by
  unfold Dev.pinmuxWrite; constructor <;> simp

@[simp] theorem Dev.domWrite_store (d : Dev) (m : Master) (n : Nat) (ofs : Nat) (w : Word) :
    (Dev.domWrite d m n ofs w).mem = d.mem ∧ (Dev.domWrite d m n ofs w).keys = d.keys := by
  unfold Dev.domWrite; constructor <;> simp

/-! ## Bus -/

@[simp] theorem Dev.lockWrite_store (d : Dev) (k : PageKind) (i : Nat) (w : Word) :
    (Dev.lockWrite d k i w).mem = d.mem ∧ (Dev.lockWrite d k i w).keys = d.keys := by
  unfold Dev.lockWrite; constructor <;> simp <;> (repeat' split) <;> simp

@[simp] theorem Dev.hdrLocked_store (d : Dev) (m : Master) (p : Nat) (ofs : Nat) (mask : Nat) (w : Word) :
    (Dev.hdrLocked d m p ofs mask w).mem = d.mem ∧ (Dev.hdrLocked d m p ofs mask w).keys = d.keys := by
  unfold Dev.hdrLocked; constructor <;> simp

@[simp] theorem Dev.islStatus_store (d : Dev) :
    (Dev.islStatus d).2.mem = d.mem ∧ (Dev.islStatus d).2.keys = d.keys := by
  unfold Dev.islStatus; constructor <;> simp

@[simp] theorem Dev.blockRead_store (d : Dev) (m : Master) (k : PageKind) (i : Nat) (ofs : Nat) :
    (Dev.blockRead d m k i ofs).2.mem = d.mem ∧ (Dev.blockRead d m k i ofs).2.keys = d.keys := by
  unfold Dev.blockRead; constructor <;> simp <;> (repeat' split) <;> simp

@[simp] theorem Dev.regRead_store (d : Dev) (m : Master) (k : PageKind) (i : Nat) (ofs : Nat) :
    (Dev.regRead d m k i ofs).2.mem = d.mem ∧ (Dev.regRead d m k i ofs).2.keys = d.keys := by
  unfold Dev.regRead; constructor <;> simp

@[simp] theorem Dev.romRead_store (d : Dev) (a : Nat) :
    (Dev.romRead d a).2.mem = d.mem ∧ (Dev.romRead d a).2.keys = d.keys := by
  unfold Dev.romRead; constructor <;> (repeat' split) <;> simp

/-! ## Host -/

@[simp] theorem Dev.modHost_store (d : Dev) (f : HostS → HostS) :
    (Dev.modHost d f).mem = d.mem ∧ (Dev.modHost d f).keys = d.keys := by
  unfold Dev.modHost; constructor <;> simp

@[simp] theorem Dev.respond_store (d : Dev) (r : Req) (result : Nat) (data : List Word) :
    (Dev.respond d r result data).mem = d.mem ∧ (Dev.respond d r result data).keys = d.keys := by
  unfold Dev.respond; constructor <;> simp

@[simp] theorem Dev.hostStatus_store (d : Dev) (r : Req) :
    (Dev.hostStatus d r).mem = d.mem ∧ (Dev.hostStatus d r).keys = d.keys := by
  unfold Dev.hostStatus; constructor <;> simp

@[simp] theorem Dev.bootVia_mem (d : Dev) (r : Req) (f : Dev → Dev × Nat) (h : ∀ d : Dev, (f d).1.mem = d.mem) : (Dev.bootVia d r f).mem = d.mem := by
  unfold Dev.bootVia; simp [h]

@[simp] theorem Dev.bootVia_keys (d : Dev) (r : Req) (f : Dev → Dev × Nat) (h : ∀ d : Dev, (f d).1.keys = d.keys) : (Dev.bootVia d r f).keys = d.keys := by
  unfold Dev.bootVia; simp [h]

@[simp] theorem Dev.hostClose_store (d : Dev) (r : Req) :
    (Dev.hostClose d r).mem = d.mem ∧ (Dev.hostClose d r).keys = d.keys := by
  unfold Dev.hostClose; constructor <;> simp

@[simp] theorem Dev.responseRead_store (d : Dev) :
    (Dev.responseRead d).mem = d.mem ∧ (Dev.responseRead d).keys = d.keys := by
  unfold Dev.responseRead; constructor <;> (repeat' split) <;> simp

@[simp] theorem Dev.statusWordsRead_store (d : Dev) :
    (Dev.statusWordsRead d).mem = d.mem ∧ (Dev.statusWordsRead d).keys = d.keys := by
  unfold Dev.statusWordsRead; constructor <;> simp

/-! ## GalleyFire -/

@[simp] theorem Dev.fireGroup_store (d : Dev) (g : Nat) (code : Nat) (op : Nat) :
    (Dev.fireGroup d g code op).1.mem = d.mem ∧ (Dev.fireGroup d g code op).1.keys = d.keys := by
  unfold Dev.fireGroup; constructor <;> simp

@[simp] theorem Dev.fireIrq_store (d : Dev) (line : Nat) (op : Nat) :
    (Dev.fireIrq d line op).mem = d.mem ∧ (Dev.fireIrq d line op).keys = d.keys := by
  unfold Dev.fireIrq; constructor <;> simp

/-! ## Csr -/

@[simp] theorem Dev.csrFresh_store (d : Dev) (n : Nat) :
    (Dev.csrFresh d n).mem = d.mem ∧ (Dev.csrFresh d n).keys = d.keys := by
  unfold Dev.csrFresh; constructor <;> simp

@[simp] theorem Dev.csrStore_store (d : Dev) (i : Nat) (n : Nat) (v : Word) :
    (Dev.csrStore d i n v).mem = d.mem ∧ (Dev.csrStore d i n v).keys = d.keys := by
  unfold Dev.csrStore; constructor <;> simp

/-! ## CoreExec -/

@[simp] theorem Dev.coreTrap_store (d : Dev) (i : Nat) (cause : Nat) (tval : Nat) :
    (Dev.coreTrap d i cause tval).mem = d.mem ∧ (Dev.coreTrap d i cause tval).keys = d.keys := by
  unfold Dev.coreTrap; constructor <;> simp

@[simp] theorem Dev.coreCall_store (d : Dev) (i : Nat) :
    (Dev.coreCall d i).mem = d.mem ∧ (Dev.coreCall d i).keys = d.keys := by
  unfold Dev.coreCall; constructor <;> simp

@[simp] theorem Dev.retire_store (d : Dev) (i : Nat) (pc : Word) (count : Bool) :
    (Dev.retire d i pc count).mem = d.mem ∧ (Dev.retire d i pc count).keys = d.keys := by
  unfold Dev.retire; constructor <;> simp

@[simp] theorem Dev.retireX_store (d : Dev) (i : Nat) (rd : Nat) (v : Word) (pc : Word) :
    (Dev.retireX d i rd v pc).mem = d.mem ∧ (Dev.retireX d i rd v pc).keys = d.keys := by
  unfold Dev.retireX; constructor <;> simp

@[simp] theorem Dev.coreCsr_store (d : Dev) (i : Nat) (op : Nat) (rd : Nat) (imm : Bool) (src : Nat) (n : Nat) (raw : Nat) (pc : Word) :
    (Dev.coreCsr d i op rd imm src n raw pc).mem = d.mem ∧ (Dev.coreCsr d i op rd imm src n raw pc).keys = d.keys := by
  unfold Dev.coreCsr; constructor <;> simp <;> (repeat' split) <;> simp

@[simp] theorem Dev.coreMret_store (d : Dev) (i : Nat) :
    (Dev.coreMret d i).mem = d.mem ∧ (Dev.coreMret d i).keys = d.keys := by
  unfold Dev.coreMret; constructor <;> simp

@[simp] theorem Dev.coreWfi_store (d : Dev) (i : Nat) (pc : Word) :
    (Dev.coreWfi d i pc).mem = d.mem ∧ (Dev.coreWfi d i pc).keys = d.keys := by
  unfold Dev.coreWfi; constructor <;> simp

@[simp] theorem Dev.retireF_store (d : Dev) (i : Nat) (rd : Nat) (v : Word) (toX : Bool) (fl : Nat) (pc : Word) :
    (Dev.retireF d i rd v toX fl pc).mem = d.mem ∧ (Dev.retireF d i rd v toX fl pc).keys = d.keys := by
  unfold Dev.retireF; constructor <;> simp

@[simp] theorem Dev.pairRegRead_store (d : Dev) (m : Master) :
    (Dev.pairRegRead d m).mem = d.mem ∧ (Dev.pairRegRead d m).keys = d.keys := by
  unfold Dev.pairRegRead; constructor <;> simp <;> (repeat' split) <;> simp

@[simp] theorem Dev.pairRegWrite_store (d : Dev) (m : Master) (v : Word) :
    (Dev.pairRegWrite d m v).mem = d.mem ∧ (Dev.pairRegWrite d m v).keys = d.keys := by
  unfold Dev.pairRegWrite; constructor <;> simp <;> (repeat' split) <;> simp

/-! ## Access -/

@[simp] theorem Dev.whenLive_mem (d : Dev) (f : Dev → Dev) (h : ∀ d : Dev, (f d).mem = d.mem) : (Dev.whenLive d f).mem = d.mem := by
  unfold Dev.whenLive; simp [h]

@[simp] theorem Dev.whenLive_keys (d : Dev) (f : Dev → Dev) (h : ∀ d : Dev, (f d).keys = d.keys) : (Dev.whenLive d f).keys = d.keys := by
  unfold Dev.whenLive; simp [h]

@[simp] theorem Dev.whenIsland_mem (d : Dev) (f : Dev → Dev) (h : ∀ d : Dev, (f d).mem = d.mem) : (Dev.whenIsland d f).mem = d.mem := by
  unfold Dev.whenIsland; simp [h]

@[simp] theorem Dev.whenIsland_keys (d : Dev) (f : Dev → Dev) (h : ∀ d : Dev, (f d).keys = d.keys) : (Dev.whenIsland d f).keys = d.keys := by
  unfold Dev.whenIsland; simp [h]

@[simp] theorem Dev.clockTick_store (d : Dev) :
    (Dev.clockTick d).mem = d.mem ∧ (Dev.clockTick d).keys = d.keys := by
  unfold Dev.clockTick; constructor <;> simp

@[simp] theorem Dev.iwake_store (d : Dev) (i : Nat) (code : Nat) (ms : Nat) :
    (Dev.iwake d i code ms).mem = d.mem ∧ (Dev.iwake d i code ms).keys = d.keys := by
  unfold Dev.iwake; constructor <;> simp

@[simp] theorem Dev.sized_mem (d : Dev) (r : Req) (l : List Byte) (n : Nat) (f : Dev → Dev) (h : ∀ d : Dev, (f d).mem = d.mem) : (Dev.sized d r l n f).mem = d.mem := by
  unfold Dev.sized; simp [h]

@[simp] theorem Dev.sized_keys (d : Dev) (r : Req) (l : List Byte) (n : Nat) (f : Dev → Dev) (h : ∀ d : Dev, (f d).keys = d.keys) : (Dev.sized d r l n f).keys = d.keys := by
  unfold Dev.sized; simp [h]

end Sys2Proof.Machine
end

