-- ==== Sys2Proof/Laws/Canonical.lean ====
section
/-!
SUPPORT. Every operation keeps memory canonical, and the safety keys with their owner (R44). One lemma of each kind per operation
that may write memory or keys; an operation that never writes keys has an equation for them.
-/
namespace Sys2Proof.Machine

/-! ## Memory, keys, loops -/

@[simp] theorem Mem.wf_ite (c : Prop) [Decidable c] (a b : Mem) : Mem.wf (if c then a else b) = if c then Mem.wf a else Mem.wf b := apply_ite _ _ _ _

@[simp] theorem keysOk_ite (c : Prop) [Decidable c] (a b : KeyFile) : keysOk (if c then a else b) = if c then keysOk a else keysOk b := apply_ite _ _ _ _

@[simp] theorem Mem.wf_nil : Mem.wf [] = true := rfl

@[simp] theorem Mem.wf_setByte (m : Mem) (a : Nat) (b : Byte) (h : Mem.wf m = true) : Mem.wf (m.setByte a b) = true := Sparse.wf_put _ _ _ _ h

@[simp] theorem Mem.wf_write (m : Mem) (a v n : Nat) (h : Mem.wf m = true) : Mem.wf (m.write a v n) = true := by
  induction n generalizing m a v with
  | zero => exact h
  | succ n ih => exact ih _ _ _ (Mem.wf_setByte _ _ _ h)

@[simp] theorem Mem.wf_setWord (m : Mem) (a : Nat) (w : Word) (h : Mem.wf m = true) : Mem.wf (m.setWord a w) = true := Mem.wf_write _ _ _ _ h

@[simp] theorem Mem.wf_setWords (m : Mem) (a : Nat) (l : List Word) (h : Mem.wf m = true) : Mem.wf (m.setWords a l) = true := by
  induction l generalizing m a with
  | nil => exact h
  | cons w l ih => exact ih _ _ (Mem.wf_setWord _ _ _ h)

@[simp] theorem Mem.wf_writeBytes (m : Mem) (a : Nat) (l : List Byte) (h : Mem.wf m = true) : Mem.wf (m.writeBytes a l) = true := by
  induction l generalizing m a with
  | nil => exact h
  | cons w l ih => exact ih _ _ (Mem.wf_setByte _ _ _ h)

@[simp] theorem Mem.wf_keep (p : Nat → Bool) (m : Mem) (h : Mem.wf m = true) : Mem.wf (Sparse.keep p m) = true := Sparse.wf_keep _ _ _ h

theorem Dev.foldl_wf {α : Type} (f : Dev → α → Dev) (h : ∀ d x, Mem.wf d.mem = true → Mem.wf (f d x).mem = true) (l : List α) (d : Dev) (hd : Mem.wf d.mem = true) : Mem.wf (l.foldl f d).mem = true := by
  induction l generalizing d with
  | nil => exact hd
  | cons x l ih => exact ih _ (h _ _ hd)

@[simp] theorem Dev.each_wf {α : Type} (f : Dev → α → Dev) (l : List α) (d : Dev) (h : ∀ d x, Mem.wf d.mem = true → Mem.wf (f d x).mem = true) (hd : Mem.wf d.mem = true) : Mem.wf (d.each l f).mem = true := Dev.foldl_wf f h l d hd

theorem keysOk_reset : keysOk keysAtReset := by
  constructor
  · intro a ha
    simp only [keySafety, Bool.and_eq_true, decide_eq_true_eq] at ha
    have : a = 0x2DC ∨ a = 0x2DD ∨ a = 0x2DE ∨ a = 0x2DF ∨ a = 0x2E0 := by omega
    rcases this with h | h | h | h | h <;> subst h <;> decide
  · intro a ha
    have : ¬ (a = 0x2DC ∨ a = 0x2DD ∨ a = 0x2DE ∨ a = 0x2DF ∨ a = 0x2E0) := by
      rintro (h | h | h | h | h) <;> subst h <;> revert ha <;> decide
    simp only [not_or] at this
    simp [keysAtReset, safetyKeys, Sparse.get, this, keyDefault]

/-! ## Image -/

@[simp] theorem Image.wf_load (m : Mem) (seg : List Nat) (off : Nat) (l : List (Nat × Nat)) (n : Nat) (h : Mem.wf m = true) :
    Mem.wf (Image.load m seg off l n) = true := by
  induction l generalizing m n with
  | nil => exact h
  | cons r l ih => unfold Image.load; apply ih; split <;> simp [h]

@[simp] theorem Image.wf_clear (m : Mem) (l : List (Nat × Nat)) (h : Mem.wf m = true) : Mem.wf (Image.clear m l) = true := Mem.wf_keep _ _ h

@[simp] theorem Dev.bootDiscard_wf (d : Dev) (hw : Mem.wf d.mem = true) : Mem.wf (Dev.bootDiscard d).mem = true := by
  unfold Dev.bootDiscard; simp (maxDischargeDepth := 30) [hw]

@[simp] theorem Dev.bootDiscard_keys (d : Dev) : (Dev.bootDiscard d).keys = d.keys := by
  unfold Dev.bootDiscard; simp

/-! ## React -/

@[simp] theorem Dev.bootInterrupted_wf (d : Dev) (hw : Mem.wf d.mem = true) : Mem.wf (Dev.bootInterrupted d).mem = true := by
  unfold Dev.bootInterrupted; simp (maxDischargeDepth := 30) [hw]

@[simp] theorem Dev.bootInterrupted_keys (d : Dev) : (Dev.bootInterrupted d).keys = d.keys := by
  unfold Dev.bootInterrupted; simp

@[simp] theorem Dev.safeReaction_wf (d : Dev) (isRepeat : Bool) (hw : Mem.wf d.mem = true) : Mem.wf (Dev.safeReaction d isRepeat).mem = true := by
  unfold Dev.safeReaction; simp (maxDischargeDepth := 30) [hw]

@[simp] theorem Dev.safeReaction_keys (d : Dev) (isRepeat : Bool) : (Dev.safeReaction d isRepeat).keys = d.keys := by
  unfold Dev.safeReaction; simp

@[simp] theorem Dev.react_wf (d : Dev) (sev : Nat) (isRepeat : Bool) (hw : Mem.wf d.mem = true) : Mem.wf (Dev.react d sev isRepeat).mem = true := by
  unfold Dev.react; simp (maxDischargeDepth := 30) [hw]

@[simp] theorem Dev.react_keys (d : Dev) (sev : Nat) (isRepeat : Bool) : (Dev.react d sev isRepeat).keys = d.keys := by
  unfold Dev.react; simp

@[simp] theorem Dev.actOn_wf (d : Dev) (s : Nat) (data : Word) (isRepeat : Bool) (hw : Mem.wf d.mem = true) : Mem.wf (Dev.actOn d s data isRepeat).mem = true := by
  unfold Dev.actOn; simp (maxDischargeDepth := 30) [hw]

@[simp] theorem Dev.actOn_keys (d : Dev) (s : Nat) (data : Word) (isRepeat : Bool) : (Dev.actOn d s data isRepeat).keys = d.keys := by
  unfold Dev.actOn; simp

@[simp] theorem Dev.raiseWith_wf (d : Dev) (k : PageKind) (i : Nat) (b : Nat) (cause : Word) (data : Word) (level : Bool) (hw : Mem.wf d.mem = true) : Mem.wf (Dev.raiseWith d k i b cause data level).mem = true := by
  unfold Dev.raiseWith; simp (maxDischargeDepth := 30) [hw]

@[simp] theorem Dev.raiseWith_keys (d : Dev) (k : PageKind) (i : Nat) (b : Nat) (cause : Word) (data : Word) (level : Bool) : (Dev.raiseWith d k i b cause data level).keys = d.keys := by
  unfold Dev.raiseWith; simp

@[simp] theorem Dev.raise_wf (d : Dev) (k : PageKind) (i : Nat) (b : Nat) (detail : Nat) (hw : Mem.wf d.mem = true) : Mem.wf (Dev.raise d k i b detail).mem = true := by
  unfold Dev.raise; simp (maxDischargeDepth := 30) [hw]

@[simp] theorem Dev.raise_keys (d : Dev) (k : PageKind) (i : Nat) (b : Nat) (detail : Nat) : (Dev.raise d k i b detail).keys = d.keys := by
  unfold Dev.raise; simp

@[simp] theorem Dev.raiseLevel_wf (d : Dev) (k : PageKind) (i : Nat) (b : Nat) (detail : Nat) (hw : Mem.wf d.mem = true) : Mem.wf (Dev.raiseLevel d k i b detail).mem = true := by
  unfold Dev.raiseLevel; simp (maxDischargeDepth := 30) [hw]

@[simp] theorem Dev.raiseLevel_keys (d : Dev) (k : PageKind) (i : Nat) (b : Nat) (detail : Nat) : (Dev.raiseLevel d k i b detail).keys = d.keys := by
  unfold Dev.raiseLevel; simp

@[simp] theorem Dev.tripLevel_wf (d : Dev) (n : Nat) (hw : Mem.wf d.mem = true) : Mem.wf (Dev.tripLevel d n).mem = true := by
  unfold Dev.tripLevel; simp (maxDischargeDepth := 30) [hw]

@[simp] theorem Dev.tripLevel_keys (d : Dev) (n : Nat) : (Dev.tripLevel d n).keys = d.keys := by
  unfold Dev.tripLevel; simp

@[simp] theorem Dev.cmpSettle_wf (d : Dev) (n : Nat) (hw : Mem.wf d.mem = true) : Mem.wf (Dev.cmpSettle d n).mem = true := by
  unfold Dev.cmpSettle; simp (maxDischargeDepth := 30) [hw]

@[simp] theorem Dev.cmpSettle_keys (d : Dev) (n : Nat) : (Dev.cmpSettle d n).keys = d.keys := by
  unfold Dev.cmpSettle; simp

@[simp] theorem Dev.level_wf (d : Dev) (k : PageKind) (i : Nat) (b : Nat) (holds : Bool) (detail : Nat) (hw : Mem.wf d.mem = true) : Mem.wf (Dev.level d k i b holds detail).mem = true := by
  unfold Dev.level; simp (maxDischargeDepth := 30) [hw]

@[simp] theorem Dev.level_keys (d : Dev) (k : PageKind) (i : Nat) (b : Nat) (holds : Bool) (detail : Nat) : (Dev.level d k i b holds detail).keys = d.keys := by
  unfold Dev.level; simp

@[simp] theorem Dev.refault_wf (d : Dev) (k : PageKind) (i : Nat) (b : Nat) (cause : Word) (hw : Mem.wf d.mem = true) : Mem.wf (Dev.refault d k i b cause).mem = true := by
  unfold Dev.refault; simp (maxDischargeDepth := 30) [hw]

@[simp] theorem Dev.refault_keys (d : Dev) (k : PageKind) (i : Nat) (b : Nat) (cause : Word) : (Dev.refault d k i b cause).keys = d.keys := by
  unfold Dev.refault; simp

/-! ## KeyRack -/

@[simp] theorem Dev.setKey_wf (d : Dev) (k : Nat) (t : BitVec 16) (hw : Mem.wf d.mem = true) : Mem.wf (d.setKey k t).mem = true := by
  unfold Dev.setKey; dsimp only; (repeat' split) <;> simp [hw]

/-- The key file after a key is given an owner. -/
theorem Dev.keys_setKey (d : Dev) (k : Nat) (t : BitVec 16) : (d.setKey k t).keys = Sparse.put keyDefault d.keys k t := by
  unfold Dev.setKey; dsimp only; (repeat' split) <;> simp

theorem Dev.setKey_keysOk (d : Dev) (k : Nat) (t : BitVec 16) (hw : keysOk d.keys) (hk : keyAssigned k = true)
    (hs : keySafety k = false) : keysOk (d.setKey k t).keys := by
  constructor
  · intro a ha
    have hne : a ≠ k := fun e => by rw [e, hs] at ha; cases ha
    simpa [Dev.keys_setKey, Sparse.get_put_other _ _ _ hne] using hw.1 a ha
  · intro a ha
    have hne : a ≠ k := fun e => by rw [e, hk] at ha; cases ha
    simpa [Dev.keys_setKey, Sparse.get_put_other _ _ _ hne] using hw.2 a ha

theorem Dev.claimResult_zero (d : Dev) (m : Master) (k : Nat) (t : BitVec 16) (h : d.claimResult m k t = 0) :
    keyAssigned k = true ∧ keySafety k = false := by
  unfold Dev.claimResult at h
  (repeat' split at h) <;> simp_all

theorem Dev.releaseResult_zero (d : Dev) (m : Master) (k : Nat) (t : BitVec 16) (h : d.releaseResult m k t = 0) :
    keyAssigned k = true ∧ keySafety k = false := by
  unfold Dev.releaseResult at h
  (repeat' split at h) <;> simp_all

theorem Dev.requestResult_zero (d : Dev) (r : Bool) (m : Master) (k : Nat) (t : BitVec 16) (h : d.requestResult r m k t = 0) :
    keyAssigned k = true ∧ keySafety k = false := by
  cases r
  · exact Dev.claimResult_zero d m k t h
  · exact Dev.releaseResult_zero d m k t h

@[simp] theorem Dev.keyRefused_wf (d : Dev) (k : Nat) (res : Nat) (hw : Mem.wf d.mem = true) : Mem.wf (Dev.keyRefused d k res).mem = true := by
  unfold Dev.keyRefused; dsimp only; (repeat' split) <;> simp (maxDischargeDepth := 30) [hw]

@[simp] theorem Dev.keyRefused_keys (d : Dev) (k : Nat) (res : Nat) : (Dev.keyRefused d k res).keys = d.keys := by
  unfold Dev.keyRefused; simp; (repeat' split) <;> simp

@[simp] theorem Dev.keyRequest_wf (d : Dev) (release : Bool) (m : Master) (l : List Nat) (t : BitVec 16) (hw : Mem.wf d.mem = true) :
    Mem.wf (d.keyRequest release m l t).mem = true := by
  unfold Dev.keyRequest; (repeat' split) <;> simp_all (maxDischargeDepth := 30)

theorem Dev.setKeys_keysOk (l : List Nat) (t : BitVec 16) (d : Dev) (hw : keysOk d.keys)
    (hl : ∀ k ∈ l, keyAssigned k = true ∧ keySafety k = false) : keysOk (d.each l (fun d k => d.setKey k t)).keys := by
  induction l generalizing d with
  | nil => exact hw
  | cons k l ih =>
    exact ih _ (Dev.setKey_keysOk _ _ _ hw (hl k (by simp)).1 (hl k (by simp)).2) (fun x hx => hl x (by simp [hx]))

@[simp] theorem Dev.keyRequest_keysOk (d : Dev) (release : Bool) (m : Master) (l : List Nat) (t : BitVec 16) (hw : keysOk d.keys) :
    keysOk (d.keyRequest release m l t).keys := by
  unfold Dev.keyRequest
  split
  · rename_i h
    simp only [Dev.krResult_store]
    refine Dev.setKeys_keysOk _ _ _ hw (fun k hk => ?_)
    have := List.find?_eq_none.1 h k hk
    exact Dev.requestResult_zero d release m k t (by simpa using this)
  · simp only [Dev.krResult_store, Dev.setReg_frame, Dev.bump_store]
    rw [Dev.each_keys]
    · exact hw
    · intro e x
      split <;> simp

@[simp] theorem Dev.claimWrite_wf (d : Dev) (m : Master) (p : Nat) (w : Word) (hw : Mem.wf d.mem = true) : Mem.wf (Dev.claimWrite d m p w).mem = true := by
  unfold Dev.claimWrite; dsimp only; (repeat' split) <;> simp (maxDischargeDepth := 30) [hw]

@[simp] theorem Dev.claimWrite_keysOk (d : Dev) (m : Master) (p : Nat) (w : Word) (hw : keysOk d.keys) : keysOk (Dev.claimWrite d m p w).keys := by
  unfold Dev.claimWrite; dsimp only; (repeat' split) <;> simp (maxDischargeDepth := 30) [hw]

@[simp] theorem Dev.krReq_wf (d : Dev) (m : Master) (w : Word) (hw : Mem.wf d.mem = true) : Mem.wf (Dev.krReq d m w).mem = true := by
  unfold Dev.krReq; simp (maxDischargeDepth := 30) [hw]

@[simp] theorem Dev.krReq_keysOk (d : Dev) (m : Master) (w : Word) (hw : keysOk d.keys) : keysOk (Dev.krReq d m w).keys := by
  unfold Dev.krReq; simp (maxDischargeDepth := 30) [hw]

/-! ## Secure -/

@[simp] theorem Dev.busErr_wf (d : Dev) (cls : Nat) (hw : Mem.wf d.mem = true) : Mem.wf (Dev.busErr d cls).mem = true := by
  unfold Dev.busErr; simp (maxDischargeDepth := 30) [hw]

@[simp] theorem Dev.busErr_keys (d : Dev) (cls : Nat) : (Dev.busErr d cls).keys = d.keys := by
  unfold Dev.busErr; simp

@[simp] theorem Dev.busFault_wf (d : Dev) (m : Master) (hw : Mem.wf d.mem = true) : Mem.wf (Dev.busFault d m).mem = true := by
  unfold Dev.busFault; simp (maxDischargeDepth := 30) [hw]

@[simp] theorem Dev.busFault_keys (d : Dev) (m : Master) : (Dev.busFault d m).keys = d.keys := by
  unfold Dev.busFault; simp

/-! ## Supply -/

@[simp] theorem Dev.buckHiccup_wf (d : Dev) (k : Nat) (run : Nat) (hw : Mem.wf d.mem = true) : Mem.wf (Dev.buckHiccup d k run).mem = true := by
  unfold Dev.buckHiccup; simp (maxDischargeDepth := 30) [hw]

@[simp] theorem Dev.buckHiccup_keys (d : Dev) (k : Nat) (run : Nat) : (Dev.buckHiccup d k run).keys = d.keys := by
  unfold Dev.buckHiccup; simp

@[simp] theorem Dev.regSyncLoss_wf (d : Dev) (n : Nat) (hw : Mem.wf d.mem = true) : Mem.wf (Dev.regSyncLoss d n).mem = true := by
  unfold Dev.regSyncLoss; simp (maxDischargeDepth := 30) [hw]

@[simp] theorem Dev.regSyncLoss_keys (d : Dev) (n : Nat) : (Dev.regSyncLoss d n).keys = d.keys := by
  unfold Dev.regSyncLoss; simp

@[simp] theorem Dev.ldoIlim_wf (d : Dev) (k : Nat) (hw : Mem.wf d.mem = true) : Mem.wf (Dev.ldoIlim d k).mem = true := by
  unfold Dev.ldoIlim; simp (maxDischargeDepth := 30) [hw]

@[simp] theorem Dev.ldoIlim_keys (d : Dev) (k : Nat) : (Dev.ldoIlim d k).keys = d.keys := by
  unfold Dev.ldoIlim; simp

@[simp] theorem Dev.relLimited_wf (d : Dev) (detail : Nat) (hw : Mem.wf d.mem = true) : Mem.wf (Dev.relLimited d detail).mem = true := by
  unfold Dev.relLimited; simp (maxDischargeDepth := 30) [hw]

@[simp] theorem Dev.relLimited_keys (d : Dev) (detail : Nat) : (Dev.relLimited d detail).keys = d.keys := by
  unfold Dev.relLimited; simp

@[simp] theorem Dev.relCurrent_wf (d : Dev) (hw : Mem.wf d.mem = true) : Mem.wf (Dev.relCurrent d).mem = true := by
  unfold Dev.relCurrent; simp (maxDischargeDepth := 30) [hw]

@[simp] theorem Dev.relCurrent_keys (d : Dev) : (Dev.relCurrent d).keys = d.keys := by
  unfold Dev.relCurrent; simp

@[simp] theorem Dev.relTime_wf (d : Dev) (hw : Mem.wf d.mem = true) : Mem.wf (Dev.relTime d).mem = true := by
  unfold Dev.relTime; simp (maxDischargeDepth := 30) [hw]

@[simp] theorem Dev.relTime_keys (d : Dev) : (Dev.relTime d).keys = d.keys := by
  unfold Dev.relTime; simp

@[simp] theorem Dev.relPause_wf (d : Dev) (vbak : Nat) (hw : Mem.wf d.mem = true) : Mem.wf (Dev.relPause d vbak).mem = true := by
  unfold Dev.relPause; simp (maxDischargeDepth := 30) [hw]

@[simp] theorem Dev.relPause_keys (d : Dev) (vbak : Nat) : (Dev.relPause d vbak).keys = d.keys := by
  unfold Dev.relPause; simp

@[simp] theorem Dev.tbakMeasure_wf (d : Dev) (uv : Nat) (hw : Mem.wf d.mem = true) : Mem.wf (Dev.tbakMeasure d uv).mem = true := by
  unfold Dev.tbakMeasure; simp (maxDischargeDepth := 30) [hw]

@[simp] theorem Dev.tbakMeasure_keys (d : Dev) (uv : Nat) : (Dev.tbakMeasure d uv).keys = d.keys := by
  unfold Dev.tbakMeasure; simp

@[simp] theorem Dev.bakTimerExpiry_wf (d : Dev) (hw : Mem.wf d.mem = true) : Mem.wf (Dev.bakTimerExpiry d).mem = true := by
  unfold Dev.bakTimerExpiry; simp (maxDischargeDepth := 30) [hw]

@[simp] theorem Dev.bakTimerExpiry_keys (d : Dev) : (Dev.bakTimerExpiry d).keys = d.keys := by
  unfold Dev.bakTimerExpiry; simp

@[simp] theorem Dev.xtalTimeout_wf (d : Dev) (hw : Mem.wf d.mem = true) : Mem.wf (Dev.xtalTimeout d).mem = true := by
  unfold Dev.xtalTimeout; simp (maxDischargeDepth := 30) [hw]

@[simp] theorem Dev.xtalTimeout_keys (d : Dev) : (Dev.xtalTimeout d).keys = d.keys := by
  unfold Dev.xtalTimeout; simp

@[simp] theorem Dev.xtalLoss_wf (d : Dev) (hw : Mem.wf d.mem = true) : Mem.wf (Dev.xtalLoss d).mem = true := by
  unfold Dev.xtalLoss; simp (maxDischargeDepth := 30) [hw]

@[simp] theorem Dev.xtalLoss_keys (d : Dev) : (Dev.xtalLoss d).keys = d.keys := by
  unfold Dev.xtalLoss; simp

@[simp] theorem Dev.pllLoss_wf (d : Dev) (hw : Mem.wf d.mem = true) : Mem.wf (Dev.pllLoss d).mem = true := by
  unfold Dev.pllLoss; simp (maxDischargeDepth := 30) [hw]

@[simp] theorem Dev.pllLoss_keys (d : Dev) : (Dev.pllLoss d).keys = d.keys := by
  unfold Dev.pllLoss; simp

@[simp] theorem Dev.clockAlarm_wf (d : Dev) (isl : Bool) (good : Bool) (hw : Mem.wf d.mem = true) : Mem.wf (Dev.clockAlarm d isl good).mem = true := by
  unfold Dev.clockAlarm; simp (maxDischargeDepth := 30) [hw]

@[simp] theorem Dev.clockAlarm_keys (d : Dev) (isl : Bool) (good : Bool) : (Dev.clockAlarm d isl good).keys = d.keys := by
  unfold Dev.clockAlarm; simp

/-! ## Domain -/

@[simp] theorem Dev.railUv_wf (d : Dev) (n : Nat) (hw : Mem.wf d.mem = true) : Mem.wf (Dev.railUv d n).mem = true := by
  unfold Dev.railUv; simp (maxDischargeDepth := 30) [hw]

@[simp] theorem Dev.railUv_keys (d : Dev) (n : Nat) : (Dev.railUv d n).keys = d.keys := by
  unfold Dev.railUv; simp

@[simp] theorem Dev.railOv_wf (d : Dev) (n : Nat) (hw : Mem.wf d.mem = true) : Mem.wf (Dev.railOv d n).mem = true := by
  unfold Dev.railOv; simp (maxDischargeDepth := 30) [hw]

@[simp] theorem Dev.railOv_keys (d : Dev) (n : Nat) : (Dev.railOv d n).keys = d.keys := by
  unfold Dev.railOv; simp

/-! ## Tile -/

@[simp] theorem Dev.tileEnable_wf (d : Dev) (n : Nat) (on : Bool) (hw : Mem.wf d.mem = true) : Mem.wf (Dev.tileEnable d n on).mem = true := by
  unfold Dev.tileEnable; simp (maxDischargeDepth := 30) [hw]

@[simp] theorem Dev.tileEnable_keys (d : Dev) (n : Nat) (on : Bool) : (Dev.tileEnable d n on).keys = d.keys := by
  unfold Dev.tileEnable; simp

@[simp] theorem Dev.calDone_wf (d : Dev) (n : Nat) (cpc : Nat) (hw : Mem.wf d.mem = true) : Mem.wf (Dev.calDone d n cpc).mem = true := by
  unfold Dev.calDone; simp (maxDischargeDepth := 30) [hw]

@[simp] theorem Dev.calDone_keys (d : Dev) (n : Nat) (cpc : Nat) : (Dev.calDone d n cpc).keys = d.keys := by
  unfold Dev.calDone; simp

@[simp] theorem Dev.outputReadback_wf (d : Dev) (n : Nat) (detail : Nat) (hw : Mem.wf d.mem = true) : Mem.wf (Dev.outputReadback d n detail).mem = true := by
  unfold Dev.outputReadback; simp (maxDischargeDepth := 30) [hw]

@[simp] theorem Dev.outputReadback_keys (d : Dev) (n : Nat) (detail : Nat) : (Dev.outputReadback d n detail).keys = d.keys := by
  unfold Dev.outputReadback; simp

/-! ## Conv -/

@[simp] theorem Dev.enterLatched_wf (d : Dev) (g : Nat) (bit : Nat) (slot : Nat) (hw : Mem.wf d.mem = true) : Mem.wf (Dev.enterLatched d g bit slot).mem = true := by
  unfold Dev.enterLatched; simp (maxDischargeDepth := 30) [hw]

@[simp] theorem Dev.enterLatched_keys (d : Dev) (g : Nat) (bit : Nat) (slot : Nat) : (Dev.enterLatched d g bit slot).keys = d.keys := by
  unfold Dev.enterLatched; simp

@[simp] theorem Dev.latchGroup_wf (d : Dev) (g : Nat) (bit : Nat) (slot : Nat) (hw : Mem.wf d.mem = true) : Mem.wf (Dev.latchGroup d g bit slot).mem = true := by
  unfold Dev.latchGroup; simp (maxDischargeDepth := 30) [hw]

@[simp] theorem Dev.latchGroup_keys (d : Dev) (g : Nat) (bit : Nat) (slot : Nat) : (Dev.latchGroup d g bit slot).keys = d.keys := by
  unfold Dev.latchGroup; simp

@[simp] theorem Dev.batteryLost_wf (d : Dev) (g : Nat) (cause : Nat) (hw : Mem.wf d.mem = true) : Mem.wf (Dev.batteryLost d g cause).mem = true := by
  unfold Dev.batteryLost; simp (maxDischargeDepth := 30) [hw]

@[simp] theorem Dev.batteryLost_keys (d : Dev) (g : Nat) (cause : Nat) : (Dev.batteryLost d g cause).keys = d.keys := by
  unfold Dev.batteryLost; simp

@[simp] theorem Dev.takeSignals_wf (d : Dev) (g : Nat) (hw : Mem.wf d.mem = true) : Mem.wf (Dev.takeSignals d g).mem = true := by
  unfold Dev.takeSignals; dsimp only; (repeat' split) <;> simp (maxDischargeDepth := 30) [hw]

@[simp] theorem Dev.takeSignals_keys (d : Dev) (g : Nat) : (Dev.takeSignals d g).keys = d.keys := by
  unfold Dev.takeSignals; simp; (repeat' split) <;> simp

@[simp] theorem Dev.finishUpdate_wf (d : Dev) (g : Nat) (i : Option Int) (had : Bool) (shed : Bool) (hw : Mem.wf d.mem = true) : Mem.wf (Dev.finishUpdate d g i had shed).mem = true := by
  unfold Dev.finishUpdate; simp (maxDischargeDepth := 30) [hw]

@[simp] theorem Dev.finishUpdate_keys (d : Dev) (g : Nat) (i : Option Int) (had : Bool) (shed : Bool) : (Dev.finishUpdate d g i had shed).keys = d.keys := by
  unfold Dev.finishUpdate; simp

@[simp] theorem Dev.decidePhase_wf (d : Dev) (g : Nat) (hw : Mem.wf d.mem = true) : Mem.wf (Dev.decidePhase d g).1.mem = true := by
  unfold Dev.decidePhase; dsimp only; (repeat' split) <;> simp (maxDischargeDepth := 30) [hw]

@[simp] theorem Dev.decidePhase_keys (d : Dev) (g : Nat) : (Dev.decidePhase d g).1.keys = d.keys := by
  unfold Dev.decidePhase; simp; (repeat' split) <;> simp

@[simp] theorem Dev.phaseFailure_wf (d : Dev) (g : Nat) (hw : Mem.wf d.mem = true) : Mem.wf (Dev.phaseFailure d g).mem = true := by
  unfold Dev.phaseFailure; dsimp only; (repeat' split) <;> simp (maxDischargeDepth := 30) [hw]

@[simp] theorem Dev.phaseFailure_keys (d : Dev) (g : Nat) : (Dev.phaseFailure d g).keys = d.keys := by
  unfold Dev.phaseFailure; simp; (repeat' split) <;> simp

@[simp] theorem Dev.updateGroup_wf (d : Dev) (g : Nat) (i : Option Int) (hw : Mem.wf d.mem = true) : Mem.wf (Dev.updateGroup d g i).mem = true := by
  unfold Dev.updateGroup; simp (maxDischargeDepth := 30) [hw]

@[simp] theorem Dev.updateGroup_keys (d : Dev) (g : Nat) (i : Option Int) : (Dev.updateGroup d g i).keys = d.keys := by
  unfold Dev.updateGroup; simp

@[simp] theorem Dev.settleU_wf (d : Dev) (g : Nat) (hw : Mem.wf d.mem = true) : Mem.wf (Dev.settleU d g).mem = true := by
  unfold Dev.settleU; simp (maxDischargeDepth := 30) [hw]

@[simp] theorem Dev.settleU_keys (d : Dev) (g : Nat) : (Dev.settleU d g).keys = d.keys := by
  unfold Dev.settleU; simp

@[simp] theorem Dev.updatePoint_wf (d : Dev) (g : Nat) (hw : Mem.wf d.mem = true) : Mem.wf (Dev.updatePoint d g).mem = true := by
  unfold Dev.updatePoint; simp (maxDischargeDepth := 30) [hw]

@[simp] theorem Dev.updatePoint_keys (d : Dev) (g : Nat) : (Dev.updatePoint d g).keys = d.keys := by
  unfold Dev.updatePoint; simp

@[simp] theorem Dev.lawSample_wf (d : Dev) (g : Nat) (hw : Mem.wf d.mem = true) : Mem.wf (Dev.lawSample d g).mem = true := by
  unfold Dev.lawSample; simp (maxDischargeDepth := 30) [hw]

@[simp] theorem Dev.lawSample_keys (d : Dev) (g : Nat) : (Dev.lawSample d g).keys = d.keys := by
  unfold Dev.lawSample; simp

/-! ## Compar -/

@[simp] theorem Dev.cmpCross_wf (d : Dev) (n : Nat) (c : Cmp) (uv : Nat) (x : Nat) (hw : Mem.wf d.mem = true) : Mem.wf (Dev.cmpCross d n c uv x).mem = true := by
  unfold Dev.cmpCross; simp (maxDischargeDepth := 30) [hw]

@[simp] theorem Dev.cmpCross_keys (d : Dev) (n : Nat) (c : Cmp) (uv : Nat) (x : Nat) : (Dev.cmpCross d n c uv x).keys = d.keys := by
  unfold Dev.cmpCross; simp

/-! ## Disch -/

@[simp] theorem Dev.dischTestDone_wf (d : Dev) (readback : Bool) (hw : Mem.wf d.mem = true) : Mem.wf (Dev.dischTestDone d readback).mem = true := by
  unfold Dev.dischTestDone; simp (maxDischargeDepth := 30) [hw]

@[simp] theorem Dev.dischTestDone_keys (d : Dev) (readback : Bool) : (Dev.dischTestDone d readback).keys = d.keys := by
  unfold Dev.dischTestDone; simp

@[simp] theorem Dev.dischTimeout_wf (d : Dev) (hw : Mem.wf d.mem = true) : Mem.wf (Dev.dischTimeout d).mem = true := by
  unfold Dev.dischTimeout; simp (maxDischargeDepth := 30) [hw]

@[simp] theorem Dev.dischTimeout_keys (d : Dev) : (Dev.dischTimeout d).keys = d.keys := by
  unfold Dev.dischTimeout; simp

@[simp] theorem Dev.dischOutput_wf (d : Dev) (detail : Nat) (hw : Mem.wf d.mem = true) : Mem.wf (Dev.dischOutput d detail).mem = true := by
  unfold Dev.dischOutput; simp (maxDischargeDepth := 30) [hw]

@[simp] theorem Dev.dischOutput_keys (d : Dev) (detail : Nat) : (Dev.dischOutput d detail).keys = d.keys := by
  unfold Dev.dischOutput; simp

/-! ## Galley -/

@[simp] theorem Dev.runCursor_wf (d : Dev) (m : Mem) (fl : List EntryFlaw) (gen n a k : Nat) (hw : Mem.wf d.mem = true) :
    Mem.wf (d.runCursor m fl gen n a k).mem = true := by
  induction k generalizing d with
  | zero => exact hw
  | succ k ih => unfold Dev.runCursor; dsimp only; split <;> [(apply ih; (repeat' split) <;> simp [hw]); exact hw]

@[simp] theorem Dev.runCursor_keys (d : Dev) (m : Mem) (fl : List EntryFlaw) (gen n a k : Nat) :
    (d.runCursor m fl gen n a k).keys = d.keys := by
  induction k generalizing d with
  | zero => rfl
  | succ k ih => unfold Dev.runCursor; simp [ih]

@[simp] theorem Dev.issueCount_wf (d : Dev) (m : Mem) (fl : List EntryFlaw) (gen : Nat) (a : Nat) (hw : Mem.wf d.mem = true) : Mem.wf (Dev.issueCount d m fl gen a).mem = true := by
  unfold Dev.issueCount; split
  · refine Dev.each_wf _ _ _ (fun e x he => ?_) hw
    split
    · exact Dev.runCursor_wf _ _ _ _ _ _ _ he
    · exact he
  · exact hw

@[simp] theorem Dev.issueCount_keys (d : Dev) (m : Mem) (fl : List EntryFlaw) (gen : Nat) (a : Nat) : (Dev.issueCount d m fl gen a).keys = d.keys := by
  unfold Dev.issueCount; simp

/-! ## Seq -/

@[simp] theorem Dev.stepFault_wf (d : Dev) (cause : Nat) (hw : Mem.wf d.mem = true) : Mem.wf (Dev.stepFault d cause).mem = true := by
  unfold Dev.stepFault; simp (maxDischargeDepth := 30) [hw]

@[simp] theorem Dev.stepFault_keys (d : Dev) (cause : Nat) : (Dev.stepFault d cause).keys = d.keys := by
  unfold Dev.stepFault; simp

theorem Dev.stepOf_wf (d : Dev) (op : Nat) (f : Dev → Nat → Dev) (hw : Mem.wf d.mem = true)
    (hf : ∀ (e : Dev) (w : Nat), Mem.wf e.mem = true → Mem.wf (f e w).mem = true) : Mem.wf (d.stepOf op f).mem = true := by
  unfold Dev.stepOf; dsimp only; (repeat' split) <;> simp [hw, hf]

theorem Dev.stepOf_keysOk (d : Dev) (op : Nat) (f : Dev → Nat → Dev) (hw : keysOk d.keys)
    (hf : ∀ (e : Dev) (w : Nat), keysOk e.keys → keysOk (f e w).keys) : keysOk (d.stepOf op f).keys := by
  unfold Dev.stepOf; dsimp only; (repeat' split) <;> simp [hw, hf]

@[simp] theorem Dev.zeroMemory_wf (d : Dev) (l : List (Nat × Nat)) (hw : Mem.wf d.mem = true) : Mem.wf (Dev.zeroMemory d l).mem = true := by
  unfold Dev.zeroMemory; simp (maxDischargeDepth := 30) [hw]

@[simp] theorem Dev.zeroMemory_keys (d : Dev) (l : List (Nat × Nat)) : (Dev.zeroMemory d l).keys = d.keys := by
  unfold Dev.zeroMemory; simp

@[simp] theorem Dev.domContentLost_wf (d : Dev) (n : Nat) (hw : Mem.wf d.mem = true) : Mem.wf (Dev.domContentLost d n).mem = true := by
  unfold Dev.domContentLost; simp (maxDischargeDepth := 30) [hw]

@[simp] theorem Dev.domContentLost_keys (d : Dev) (n : Nat) : (Dev.domContentLost d n).keys = d.keys := by
  unfold Dev.domContentLost; simp

@[simp] theorem Dev.domOff_wf (d : Dev) (n : Nat) (hw : Mem.wf d.mem = true) : Mem.wf (Dev.domOff d n).mem = true := by
  unfold Dev.domOff; simp (maxDischargeDepth := 30) [hw]

@[simp] theorem Dev.domOff_keys (d : Dev) (n : Nat) : (Dev.domOff d n).keys = d.keys := by
  unfold Dev.domOff; simp

@[simp] theorem Dev.domResult_wf (d : Dev) (n : Nat) (v : Nat) (hw : Mem.wf d.mem = true) : Mem.wf (Dev.domResult d n v).mem = true := by
  unfold Dev.domResult; simp (maxDischargeDepth := 30) [hw]

@[simp] theorem Dev.domResult_keys (d : Dev) (n : Nat) (v : Nat) : (Dev.domResult d n v).keys = d.keys := by
  unfold Dev.domResult; simp

@[simp] theorem Dev.named_wf (d : Dev) (n : Nat) (f : Dev → Dev) (hw : Mem.wf d.mem = true)
    (hf : ∀ e : Dev, Mem.wf e.mem = true → Mem.wf (f e).mem = true) : Mem.wf (d.named n f).mem = true := by
  unfold Dev.named; split
  · simp [hw]
  · exact hf _ hw

@[simp] theorem Dev.named_keys (d : Dev) (n : Nat) (f : Dev → Dev) (hf : ∀ e : Dev, (f e).keys = e.keys) :
    (d.named n f).keys = d.keys := by
  unfold Dev.named; simp [hf]

@[simp] theorem Dev.stepEnable_wf (d : Dev) (hw : Mem.wf d.mem = true) : Mem.wf (Dev.stepEnable d).mem = true := by
  unfold Dev.stepEnable
  refine Dev.stepOf_wf _ _ _ hw (fun e w he => ?_)
  refine Dev.named_wf _ _ _ he (fun e he => ?_)
  dsimp only; (repeat' split) <;> simp [he]

@[simp] theorem Dev.stepEnable_keys (d : Dev) : (Dev.stepEnable d).keys = d.keys := by
  unfold Dev.stepEnable; simp

@[simp] theorem Dev.stepDisable_wf (d : Dev) (hw : Mem.wf d.mem = true) : Mem.wf (Dev.stepDisable d).mem = true := by
  unfold Dev.stepDisable
  split
  · split
    · exact hw
    · split <;> simp [hw]
  · refine Dev.stepOf_wf _ _ _ hw (fun e w he => ?_)
    refine Dev.named_wf _ _ _ he (fun e he => ?_)
    (repeat' split) <;> simp [he]

@[simp] theorem Dev.stepDisable_keys (d : Dev) : (Dev.stepDisable d).keys = d.keys := by
  unfold Dev.stepDisable; simp; (repeat' split) <;> simp

@[simp] theorem Dev.domOffTimeout_wf (d : Dev) (n : Nat) (hw : Mem.wf d.mem = true) : Mem.wf (Dev.domOffTimeout d n).mem = true := by
  unfold Dev.domOffTimeout; simp (maxDischargeDepth := 30) [hw]

@[simp] theorem Dev.domOffTimeout_keys (d : Dev) (n : Nat) : (Dev.domOffTimeout d n).keys = d.keys := by
  unfold Dev.domOffTimeout; simp

@[simp] theorem Dev.stepWaitv_wf (d : Dev) (hw : Mem.wf d.mem = true) : Mem.wf (Dev.stepWaitv d).mem = true := by
  unfold Dev.stepWaitv
  refine Dev.stepOf_wf _ _ _ hw (fun e w he => ?_)
  refine Dev.named_wf _ _ _ he (fun e he => ?_)
  (repeat' split) <;> simp [he]

@[simp] theorem Dev.stepWaitv_keys (d : Dev) : (Dev.stepWaitv d).keys = d.keys := by
  unfold Dev.stepWaitv; simp

@[simp] theorem Dev.domainOnSeq_wf (d : Dev) (n : Nat) (hw : Mem.wf d.mem = true) : Mem.wf (Dev.domainOnSeq d n).mem = true := by
  unfold Dev.domainOnSeq; simp (maxDischargeDepth := 30) [hw]

@[simp] theorem Dev.domainOnSeq_keys (d : Dev) (n : Nat) : (Dev.domainOnSeq d n).keys = d.keys := by
  unfold Dev.domainOnSeq; simp

@[simp] theorem Dev.stairTimeout_wf (d : Dev) (hw : Mem.wf d.mem = true) : Mem.wf (Dev.stairTimeout d).mem = true := by
  unfold Dev.stairTimeout; simp (maxDischargeDepth := 30) [hw]

@[simp] theorem Dev.stairTimeout_keys (d : Dev) : (Dev.stairTimeout d).keys = d.keys := by
  unfold Dev.stairTimeout; simp

@[simp] theorem Dev.stepMark_wf (d : Dev) (hw : Mem.wf d.mem = true) : Mem.wf (Dev.stepMark d).mem = true := by
  unfold Dev.stepMark
  refine Dev.stepOf_wf _ _ _ hw (fun e w he => ?_)
  simp (maxDischargeDepth := 20) [he]

@[simp] theorem Dev.stepMark_keys (d : Dev) : (Dev.stepMark d).keys = d.keys := by
  unfold Dev.stepMark; simp

@[simp] theorem Dev.stepInvalid_wf (d : Dev) (hw : Mem.wf d.mem = true) : Mem.wf (Dev.stepInvalid d).mem = true := by
  unfold Dev.stepInvalid; dsimp only; (repeat' split) <;> simp (maxDischargeDepth := 30) [hw]

@[simp] theorem Dev.stepInvalid_keys (d : Dev) : (Dev.stepInvalid d).keys = d.keys := by
  unfold Dev.stepInvalid; simp; (repeat' split) <;> simp

/-! ## Ring -/

@[simp] theorem Dev.storeRecord_wf (d : Dev) (n : Nat) (ws : List Word) (hw : Mem.wf d.mem = true) : Mem.wf (Dev.storeRecord d n ws).mem = true := by
  unfold Dev.storeRecord; simp (maxDischargeDepth := 30) [hw]

@[simp] theorem Dev.storeRecord_keys (d : Dev) (n : Nat) (ws : List Word) : (Dev.storeRecord d n ws).keys = d.keys := by
  unfold Dev.storeRecord; simp

@[simp] theorem Dev.storePad_wf (d : Dev) (n : Nat) (pad : Nat) (hw : Mem.wf d.mem = true) : Mem.wf (Dev.storePad d n pad).mem = true := by
  unfold Dev.storePad; simp (maxDischargeDepth := 30) [hw]

@[simp] theorem Dev.storePad_keys (d : Dev) (n : Nat) (pad : Nat) : (Dev.storePad d n pad).keys = d.keys := by
  unfold Dev.storePad; simp

@[simp] theorem Dev.fitRecord_wf (d : Dev) (n : Nat) (ws : List Word) (hw : Mem.wf d.mem = true) : Mem.wf (Dev.fitRecord d n ws).1.mem = true := by
  unfold Dev.fitRecord; dsimp only; (repeat' split) <;> simp (maxDischargeDepth := 30) [hw]

@[simp] theorem Dev.fitRecord_keys (d : Dev) (n : Nat) (ws : List Word) : (Dev.fitRecord d n ws).1.keys = d.keys := by
  unfold Dev.fitRecord; simp; (repeat' split) <;> simp

@[simp] theorem Dev.putGap_wf (d : Dev) (n : Nat) (folio : Nat) (hw : Mem.wf d.mem = true) : Mem.wf (Dev.putGap d n folio).1.mem = true := by
  unfold Dev.putGap; simp (maxDischargeDepth := 30) [hw]

@[simp] theorem Dev.putGap_keys (d : Dev) (n : Nat) (folio : Nat) : (Dev.putGap d n folio).1.keys = d.keys := by
  unfold Dev.putGap; simp

@[simp] theorem Dev.putStamp_wf (d : Dev) (n : Nat) (folio : Nat) (hw : Mem.wf d.mem = true) : Mem.wf (Dev.putStamp d n folio).1.mem = true := by
  unfold Dev.putStamp; simp (maxDischargeDepth := 30) [hw]

@[simp] theorem Dev.putStamp_keys (d : Dev) (n : Nat) (folio : Nat) : (Dev.putStamp d n folio).1.keys = d.keys := by
  unfold Dev.putStamp; simp

@[simp] theorem Dev.ringPut_wf (d : Dev) (n : Nat) (ws : List Word) (hw : Mem.wf d.mem = true) : Mem.wf (Dev.ringPut d n ws).1.mem = true := by
  unfold Dev.ringPut; simp (maxDischargeDepth := 30) [hw]

@[simp] theorem Dev.ringPut_keys (d : Dev) (n : Nat) (ws : List Word) : (Dev.ringPut d n ws).1.keys = d.keys := by
  unfold Dev.ringPut; simp

@[simp] theorem Dev.ringMark_wf (d : Dev) (n : Nat) (mark : Nat) (hw : Mem.wf d.mem = true) : Mem.wf (Dev.ringMark d n mark).mem = true := by
  unfold Dev.ringMark; simp (maxDischargeDepth := 30) [hw]

@[simp] theorem Dev.ringMark_keys (d : Dev) (n : Nat) (mark : Nat) : (Dev.ringMark d n mark).keys = d.keys := by
  unfold Dev.ringMark; simp

/-! ## Bin -/

@[simp] theorem Dev.binClose_wf (d : Dev) (h : Nat) (hw : Mem.wf d.mem = true) : Mem.wf (Dev.binClose d h).mem = true := by
  unfold Dev.binClose; dsimp only; (repeat' split) <;> simp (maxDischargeDepth := 30) [hw]

@[simp] theorem Dev.binClose_keys (d : Dev) (h : Nat) : (Dev.binClose d h).keys = d.keys := by
  unfold Dev.binClose; simp; (repeat' split) <;> simp

/-! ## Timebase -/

@[simp] theorem Dev.openFolio_wf (d : Dev) (m : Mem) (fl : List EntryFlaw) (f : Nat) (advance : Bool) (pass : Bool) (hw : Mem.wf d.mem = true) : Mem.wf (Dev.openFolio d m fl f advance pass).mem = true := by
  unfold Dev.openFolio; simp (maxDischargeDepth := 30) [hw]

@[simp] theorem Dev.openFolio_keys (d : Dev) (m : Mem) (fl : List EntryFlaw) (f : Nat) (advance : Bool) (pass : Bool) : (Dev.openFolio d m fl f advance pass).keys = d.keys := by
  unfold Dev.openFolio; simp

@[simp] theorem Dev.folioBoundary_wf (d : Dev) (m : Mem) (fl : List EntryFlaw) (hw : Mem.wf d.mem = true) : Mem.wf (Dev.folioBoundary d m fl).mem = true := by
  unfold Dev.folioBoundary; simp (maxDischargeDepth := 30) [hw]

@[simp] theorem Dev.folioBoundary_keys (d : Dev) (m : Mem) (fl : List EntryFlaw) : (Dev.folioBoundary d m fl).keys = d.keys := by
  unfold Dev.folioBoundary; simp

@[simp] theorem Dev.angleSlot_wf (d : Dev) (m : Mem) (fl : List EntryFlaw) (hw : Mem.wf d.mem = true) : Mem.wf (Dev.angleSlot d m fl).mem = true := by
  unfold Dev.angleSlot; simp (maxDischargeDepth := 30) [hw]

@[simp] theorem Dev.angleSlot_keys (d : Dev) (m : Mem) (fl : List EntryFlaw) : (Dev.angleSlot d m fl).keys = d.keys := by
  unfold Dev.angleSlot; simp

@[simp] theorem Dev.timebaseEnable_wf (d : Dev) (m : Mem) (fl : List EntryFlaw) (on : Bool) (hw : Mem.wf d.mem = true) : Mem.wf (Dev.timebaseEnable d m fl on).mem = true := by
  unfold Dev.timebaseEnable; simp (maxDischargeDepth := 30) [hw]

@[simp] theorem Dev.timebaseEnable_keys (d : Dev) (m : Mem) (fl : List EntryFlaw) (on : Bool) : (Dev.timebaseEnable d m fl on).keys = d.keys := by
  unfold Dev.timebaseEnable; simp

@[simp] theorem Dev.lossOfGrid_wf (d : Dev) (hw : Mem.wf d.mem = true) : Mem.wf (Dev.lossOfGrid d).mem = true := by
  unfold Dev.lossOfGrid; simp (maxDischargeDepth := 30) [hw]

@[simp] theorem Dev.lossOfGrid_keys (d : Dev) : (Dev.lossOfGrid d).keys = d.keys := by
  unfold Dev.lossOfGrid; simp

@[simp] theorem Dev.phaseJump_wf (d : Dev) (hw : Mem.wf d.mem = true) : Mem.wf (Dev.phaseJump d).mem = true := by
  unfold Dev.phaseJump; simp (maxDischargeDepth := 30) [hw]

@[simp] theorem Dev.phaseJump_keys (d : Dev) : (Dev.phaseJump d).keys = d.keys := by
  unfold Dev.phaseJump; simp

@[simp] theorem Dev.masterJump_wf (d : Dev) (hw : Mem.wf d.mem = true) : Mem.wf (Dev.masterJump d).mem = true := by
  unfold Dev.masterJump; simp (maxDischargeDepth := 30) [hw]

@[simp] theorem Dev.masterJump_keys (d : Dev) : (Dev.masterJump d).keys = d.keys := by
  unfold Dev.masterJump; simp

@[simp] theorem Dev.syncLoss_wf (d : Dev) (hw : Mem.wf d.mem = true) : Mem.wf (Dev.syncLoss d).mem = true := by
  unfold Dev.syncLoss; simp (maxDischargeDepth := 30) [hw]

@[simp] theorem Dev.syncLoss_keys (d : Dev) : (Dev.syncLoss d).keys = d.keys := by
  unfold Dev.syncLoss; simp

@[simp] theorem Dev.fmarkLost_wf (d : Dev) (hw : Mem.wf d.mem = true) : Mem.wf (Dev.fmarkLost d).mem = true := by
  unfold Dev.fmarkLost; simp (maxDischargeDepth := 30) [hw]

@[simp] theorem Dev.fmarkLost_keys (d : Dev) : (Dev.fmarkLost d).keys = d.keys := by
  unfold Dev.fmarkLost; simp

@[simp] theorem Dev.fmarkError_wf (d : Dev) (hw : Mem.wf d.mem = true) : Mem.wf (Dev.fmarkError d).mem = true := by
  unfold Dev.fmarkError; simp (maxDischargeDepth := 30) [hw]

@[simp] theorem Dev.fmarkError_keys (d : Dev) : (Dev.fmarkError d).keys = d.keys := by
  unfold Dev.fmarkError; simp

@[simp] theorem Dev.fmarkRelock_wf (d : Dev) (f : Nat) (hw : Mem.wf d.mem = true) : Mem.wf (Dev.fmarkRelock d f).mem = true := by
  unfold Dev.fmarkRelock; simp (maxDischargeDepth := 30) [hw]

@[simp] theorem Dev.fmarkRelock_keys (d : Dev) (f : Nat) : (Dev.fmarkRelock d f).keys = d.keys := by
  unfold Dev.fmarkRelock; simp

@[simp] theorem Dev.fmarkSeek_wf (d : Dev) (ext : Bool) (bits : Nat) (rate : Nat) (hw : Mem.wf d.mem = true) : Mem.wf (Dev.fmarkSeek d ext bits rate).mem = true := by
  unfold Dev.fmarkSeek; simp (maxDischargeDepth := 30) [hw]

@[simp] theorem Dev.fmarkSeek_keys (d : Dev) (ext : Bool) (bits : Nat) (rate : Nat) : (Dev.fmarkSeek d ext bits rate).keys = d.keys := by
  unfold Dev.fmarkSeek; simp

@[simp] theorem Dev.fmarkFrame_wf (d : Dev) (m : Mem) (fl : List EntryFlaw) (cells : List (Nat × Nat)) (e : Int) (rate : Nat) (hw : Mem.wf d.mem = true) : Mem.wf (Dev.fmarkFrame d m fl cells e rate).mem = true := by
  unfold Dev.fmarkFrame; dsimp only; (repeat' split) <;> simp (maxDischargeDepth := 30) [hw]

@[simp] theorem Dev.fmarkFrame_keys (d : Dev) (m : Mem) (fl : List EntryFlaw) (cells : List (Nat × Nat)) (e : Int) (rate : Nat) : (Dev.fmarkFrame d m fl cells e rate).keys = d.keys := by
  unfold Dev.fmarkFrame; simp; (repeat' split) <;> simp

@[simp] theorem Dev.fmarkTimeout_wf (d : Dev) (hw : Mem.wf d.mem = true) : Mem.wf (Dev.fmarkTimeout d).mem = true := by
  unfold Dev.fmarkTimeout; simp (maxDischargeDepth := 30) [hw]

@[simp] theorem Dev.fmarkTimeout_keys (d : Dev) : (Dev.fmarkTimeout d).keys = d.keys := by
  unfold Dev.fmarkTimeout; simp

/-! ## Measure -/

@[simp] theorem Dev.streamResult_wf (d : Dev) (c : Nat) (s : Nat) (i : Nat) (v : Int) (sat : Bool) (ow : Bool) (lp : Bool) (folio : Word) (angle : Nat) (wins : Nat) (hw : Mem.wf d.mem = true) : Mem.wf (Dev.streamResult d c s i v sat ow lp folio angle wins).mem = true := by
  unfold Dev.streamResult; simp (maxDischargeDepth := 30) [hw]

@[simp] theorem Dev.streamResult_keys (d : Dev) (c : Nat) (s : Nat) (i : Nat) (v : Int) (sat : Bool) (ow : Bool) (lp : Bool) (folio : Word) (angle : Nat) (wins : Nat) : (Dev.streamResult d c s i v sat ow lp folio angle wins).keys = d.keys := by
  unfold Dev.streamResult; simp

@[simp] theorem Dev.takeResult_wf (d : Dev) (c : Nat) (inp : Nat) (f : Int) (v : Int) (sat : Bool) (at' : Word × Nat × Nat) (hw : Mem.wf d.mem = true) : Mem.wf (Dev.takeResult d c inp f v sat at').mem = true := by
  unfold Dev.takeResult; (repeat' split) <;> simp_all (maxDischargeDepth := 30)

@[simp] theorem Dev.takeResult_keys (d : Dev) (c : Nat) (inp : Nat) (f : Int) (v : Int) (sat : Bool) (at' : Word × Nat × Nat) : (Dev.takeResult d c inp f v sat at').keys = d.keys := by
  unfold Dev.takeResult; simp

@[simp] theorem Dev.conversionResult_wf (d : Dev) (c : Nat) (uv : Int) (lsb : Bool) (hw : Mem.wf d.mem = true) : Mem.wf (Dev.conversionResult d c uv lsb).mem = true := by
  unfold Dev.conversionResult; dsimp only; (repeat' split) <;> simp (maxDischargeDepth := 30) [hw]

@[simp] theorem Dev.conversionResult_keys (d : Dev) (c : Nat) (uv : Int) (lsb : Bool) : (Dev.conversionResult d c uv lsb).keys = d.keys := by
  unfold Dev.conversionResult; simp; (repeat' split) <;> simp

@[simp] theorem Dev.adcStall_wf (d : Dev) (c : Nat) (hw : Mem.wf d.mem = true) : Mem.wf (Dev.adcStall d c).mem = true := by
  unfold Dev.adcStall; simp (maxDischargeDepth := 30) [hw]

@[simp] theorem Dev.adcStall_keys (d : Dev) (c : Nat) : (Dev.adcStall d c).keys = d.keys := by
  unfold Dev.adcStall; simp

@[simp] theorem Dev.monitorResult_wf (d : Dev) (j : Nat) (f : Int) (sat : Bool) (hw : Mem.wf d.mem = true) : Mem.wf (Dev.monitorResult d j f sat).mem = true := by
  unfold Dev.monitorResult; simp (maxDischargeDepth := 30) [hw]

@[simp] theorem Dev.monitorResult_keys (d : Dev) (j : Nat) (f : Int) (sat : Bool) : (Dev.monitorResult d j f sat).keys = d.keys := by
  unfold Dev.monitorResult; simp

@[simp] theorem Dev.monitorConversion_wf (d : Dev) (raw : Nat) (corr : Int) (sat : Bool) (hw : Mem.wf d.mem = true) : Mem.wf (Dev.monitorConversion d raw corr sat).mem = true := by
  unfold Dev.monitorConversion; simp (maxDischargeDepth := 30) [hw]

@[simp] theorem Dev.monitorConversion_keys (d : Dev) (raw : Nat) (corr : Int) (sat : Bool) : (Dev.monitorConversion d raw corr sat).keys = d.keys := by
  unfold Dev.monitorConversion; simp

@[simp] theorem Dev.hibScanCycle_wf (d : Dev) (vals : List (Nat × Int)) (hw : Mem.wf d.mem = true) : Mem.wf (Dev.hibScanCycle d vals).mem = true := by
  unfold Dev.hibScanCycle; (repeat' split) <;> simp_all (maxDischargeDepth := 30)

@[simp] theorem Dev.hibScanCycle_keys (d : Dev) (vals : List (Nat × Int)) : (Dev.hibScanCycle d vals).keys = d.keys := by
  unfold Dev.hibScanCycle; simp

@[simp] theorem Dev.monStall_wf (d : Dev) (hw : Mem.wf d.mem = true) : Mem.wf (Dev.monStall d).mem = true := by
  unfold Dev.monStall; simp (maxDischargeDepth := 30) [hw]

@[simp] theorem Dev.monStall_keys (d : Dev) : (Dev.monStall d).keys = d.keys := by
  unfold Dev.monStall; simp

@[simp] theorem Dev.owConfirm_wf (d : Dev) (i : Nat) (v : Nat) (hw : Mem.wf d.mem = true) : Mem.wf (Dev.owConfirm d i v).mem = true := by
  unfold Dev.owConfirm; simp (maxDischargeDepth := 30) [hw]

@[simp] theorem Dev.owConfirm_keys (d : Dev) (i : Nat) (v : Nat) : (Dev.owConfirm d i v).keys = d.keys := by
  unfold Dev.owConfirm; simp

@[simp] theorem Dev.owSettleSample_wf (d : Dev) (hw : Mem.wf d.mem = true) : Mem.wf (Dev.owSettleSample d).mem = true := by
  unfold Dev.owSettleSample; dsimp only; (repeat' split) <;> simp (maxDischargeDepth := 30) [hw]

@[simp] theorem Dev.owSettleSample_keys (d : Dev) : (Dev.owSettleSample d).keys = d.keys := by
  unfold Dev.owSettleSample; simp; (repeat' split) <;> simp

/-! ## Charge -/

@[simp] theorem Dev.chgSuspend_wf (d : Dev) (m : Nat) (hw : Mem.wf d.mem = true) : Mem.wf (Dev.chgSuspend d m).mem = true := by
  unfold Dev.chgSuspend; simp (maxDischargeDepth := 30) [hw]

@[simp] theorem Dev.chgSuspend_keys (d : Dev) (m : Nat) : (Dev.chgSuspend d m).keys = d.keys := by
  unfold Dev.chgSuspend; simp

@[simp] theorem Dev.takeEntry_wf (d : Dev) (e : ChgEntry) (s : Nat) (hw : Mem.wf d.mem = true) : Mem.wf (Dev.takeEntry d e s).mem = true := by
  unfold Dev.takeEntry; simp (maxDischargeDepth := 30) [hw]

@[simp] theorem Dev.takeEntry_keys (d : Dev) (e : ChgEntry) (s : Nat) : (Dev.takeEntry d e s).keys = d.keys := by
  unfold Dev.takeEntry; simp

@[simp] theorem Dev.enterStep_wf (d : Dev) (s : Nat) (hw : Mem.wf d.mem = true) : Mem.wf (Dev.enterStep d s).mem = true := by
  unfold Dev.enterStep; simp (maxDischargeDepth := 30) [hw]

@[simp] theorem Dev.enterStep_keys (d : Dev) (s : Nat) : (Dev.enterStep d s).keys = d.keys := by
  unfold Dev.enterStep; simp

@[simp] theorem Dev.enterTopoff_wf (d : Dev) (hw : Mem.wf d.mem = true) : Mem.wf (Dev.enterTopoff d).mem = true := by
  unfold Dev.enterTopoff; simp (maxDischargeDepth := 30) [hw]

@[simp] theorem Dev.enterTopoff_keys (d : Dev) : (Dev.enterTopoff d).keys = d.keys := by
  unfold Dev.enterTopoff; simp

@[simp] theorem Dev.chgTempFault_wf (d : Dev) (m : Nat) (hw : Mem.wf d.mem = true) : Mem.wf (Dev.chgTempFault d m).mem = true := by
  unfold Dev.chgTempFault; simp (maxDischargeDepth := 30) [hw]

@[simp] theorem Dev.chgTempFault_keys (d : Dev) (m : Nat) : (Dev.chgTempFault d m).keys = d.keys := by
  unfold Dev.chgTempFault; simp

@[simp] theorem Dev.suspendTick_wf (d : Dev) (hw : Mem.wf d.mem = true) : Mem.wf (Dev.suspendTick d).mem = true := by
  unfold Dev.suspendTick; simp (maxDischargeDepth := 30) [hw]

@[simp] theorem Dev.suspendTick_keys (d : Dev) : (Dev.suspendTick d).keys = d.keys := by
  unfold Dev.suspendTick; simp

@[simp] theorem Dev.prechargeTick_wf (d : Dev) (hw : Mem.wf d.mem = true) : Mem.wf (Dev.prechargeTick d).mem = true := by
  unfold Dev.prechargeTick; simp (maxDischargeDepth := 30) [hw]

@[simp] theorem Dev.prechargeTick_keys (d : Dev) : (Dev.prechargeTick d).keys = d.keys := by
  unfold Dev.prechargeTick; simp

@[simp] theorem Dev.zoneStep_wf (d : Dev) (m : Nat) (hw : Mem.wf d.mem = true) : Mem.wf (Dev.zoneStep d m).mem = true := by
  unfold Dev.zoneStep; simp (maxDischargeDepth := 30) [hw]

@[simp] theorem Dev.zoneStep_keys (d : Dev) (m : Nat) : (Dev.zoneStep d m).keys = d.keys := by
  unfold Dev.zoneStep; simp

@[simp] theorem Dev.causesTick_wf (d : Dev) (m : Nat) (hw : Mem.wf d.mem = true) : Mem.wf (Dev.causesTick d m).mem = true := by
  unfold Dev.causesTick; simp (maxDischargeDepth := 30) [hw]

@[simp] theorem Dev.causesTick_keys (d : Dev) (m : Nat) : (Dev.causesTick d m).keys = d.keys := by
  unfold Dev.causesTick; simp

@[simp] theorem Dev.chargeTick_wf (d : Dev) (hw : Mem.wf d.mem = true) : Mem.wf (Dev.chargeTick d).mem = true := by
  unfold Dev.chargeTick; simp (maxDischargeDepth := 30) [hw]

@[simp] theorem Dev.chargeTick_keys (d : Dev) : (Dev.chargeTick d).keys = d.keys := by
  unfold Dev.chargeTick; simp

@[simp] theorem Dev.v2vLine_wf (d : Dev) (hw : Mem.wf d.mem = true) : Mem.wf (Dev.v2vLine d).mem = true := by
  unfold Dev.v2vLine; simp (maxDischargeDepth := 30) [hw]

@[simp] theorem Dev.v2vLine_keys (d : Dev) : (Dev.v2vLine d).keys = d.keys := by
  unfold Dev.v2vLine; simp

@[simp] theorem Dev.reverseTick_wf (d : Dev) (hw : Mem.wf d.mem = true) : Mem.wf (Dev.reverseTick d).mem = true := by
  unfold Dev.reverseTick; simp (maxDischargeDepth := 30) [hw]

@[simp] theorem Dev.reverseTick_keys (d : Dev) : (Dev.reverseTick d).keys = d.keys := by
  unfold Dev.reverseTick; simp

@[simp] theorem Dev.s2Breach_wf (d : Dev) (detail : Nat) (hw : Mem.wf d.mem = true) : Mem.wf (Dev.s2Breach d detail).mem = true := by
  unfold Dev.s2Breach; simp (maxDischargeDepth := 30) [hw]

@[simp] theorem Dev.s2Breach_keys (d : Dev) (detail : Nat) : (Dev.s2Breach d detail).keys = d.keys := by
  unfold Dev.s2Breach; simp

@[simp] theorem Dev.stateTick_wf (d : Dev) (hw : Mem.wf d.mem = true) : Mem.wf (Dev.stateTick d).mem = true := by
  unfold Dev.stateTick; dsimp only; (repeat' split) <;> simp (maxDischargeDepth := 30) [hw]

@[simp] theorem Dev.stateTick_keys (d : Dev) : (Dev.stateTick d).keys = d.keys := by
  unfold Dev.stateTick; simp; (repeat' split) <;> simp

@[simp] theorem Dev.chgTimerExpiry_wf (d : Dev) (hw : Mem.wf d.mem = true) : Mem.wf (Dev.chgTimerExpiry d).mem = true := by
  unfold Dev.chgTimerExpiry; simp (maxDischargeDepth := 30) [hw]

@[simp] theorem Dev.chgTimerExpiry_keys (d : Dev) : (Dev.chgTimerExpiry d).keys = d.keys := by
  unfold Dev.chgTimerExpiry; simp

@[simp] theorem Dev.stepExit_wf (d : Dev) (hw : Mem.wf d.mem = true) : Mem.wf (Dev.stepExit d).mem = true := by
  unfold Dev.stepExit; simp (maxDischargeDepth := 30) [hw]

@[simp] theorem Dev.stepExit_keys (d : Dev) : (Dev.stepExit d).keys = d.keys := by
  unfold Dev.stepExit; simp

@[simp] theorem Dev.prechargeTimeout_wf (d : Dev) (hw : Mem.wf d.mem = true) : Mem.wf (Dev.prechargeTimeout d).mem = true := by
  unfold Dev.prechargeTimeout; simp (maxDischargeDepth := 30) [hw]

@[simp] theorem Dev.prechargeTimeout_keys (d : Dev) : (Dev.prechargeTimeout d).keys = d.keys := by
  unfold Dev.prechargeTimeout; simp

@[simp] theorem Dev.gridWaitExpiry_wf (d : Dev) (hw : Mem.wf d.mem = true) : Mem.wf (Dev.gridWaitExpiry d).mem = true := by
  unfold Dev.gridWaitExpiry; simp (maxDischargeDepth := 30) [hw]

@[simp] theorem Dev.gridWaitExpiry_keys (d : Dev) : (Dev.gridWaitExpiry d).keys = d.keys := by
  unfold Dev.gridWaitExpiry; simp

@[simp] theorem Dev.s2Timeout_wf (d : Dev) (hw : Mem.wf d.mem = true) : Mem.wf (Dev.s2Timeout d).mem = true := by
  unfold Dev.s2Timeout; (repeat' split) <;> simp_all (maxDischargeDepth := 30)

@[simp] theorem Dev.s2Timeout_keys (d : Dev) : (Dev.s2Timeout d).keys = d.keys := by
  unfold Dev.s2Timeout; (repeat' split) <;> simp_all

@[simp] theorem Dev.chgDecide_wf (d : Dev) (hw : Mem.wf d.mem = true) : Mem.wf (Dev.chgDecide d).mem = true := by
  unfold Dev.chgDecide; simp (maxDischargeDepth := 30) [hw]

@[simp] theorem Dev.chgDecide_keys (d : Dev) : (Dev.chgDecide d).keys = d.keys := by
  unfold Dev.chgDecide; simp

@[simp] theorem Dev.chgFlush_wf (d : Dev) (hw : Mem.wf d.mem = true) : Mem.wf (Dev.chgFlush d).mem = true := by
  unfold Dev.chgFlush; simp (maxDischargeDepth := 30) [hw]

@[simp] theorem Dev.chgFlush_keys (d : Dev) : (Dev.chgFlush d).keys = d.keys := by
  unfold Dev.chgFlush; simp

@[simp] theorem Dev.chgTick_wf (d : Dev) (ohms : Nat) (hw : Mem.wf d.mem = true) : Mem.wf (Dev.chgTick d ohms).mem = true := by
  unfold Dev.chgTick; simp (maxDischargeDepth := 30) [hw]

@[simp] theorem Dev.chgTick_keys (d : Dev) (ohms : Nat) : (Dev.chgTick d ohms).keys = d.keys := by
  unfold Dev.chgTick; simp

@[simp] theorem Dev.cpgenCheck_wf (d : Dev) (low : Int) (t : Nat) (hw : Mem.wf d.mem = true) : Mem.wf (Dev.cpgenCheck d low t).mem = true := by
  unfold Dev.cpgenCheck; simp (maxDischargeDepth := 30) [hw]

@[simp] theorem Dev.cpgenCheck_keys (d : Dev) (low : Int) (t : Nat) : (Dev.cpgenCheck d low t).keys = d.keys := by
  unfold Dev.cpgenCheck; simp

@[simp] theorem Dev.pilotFlat_wf (d : Dev) (level : Int) (hi : Bool) (t : Nat) (hw : Mem.wf d.mem = true) : Mem.wf (Dev.pilotFlat d level hi t).mem = true := by
  unfold Dev.pilotFlat; simp (maxDischargeDepth := 30) [hw]

@[simp] theorem Dev.pilotFlat_keys (d : Dev) (level : Int) (hi : Bool) (t : Nat) : (Dev.pilotFlat d level hi t).keys = d.keys := by
  unfold Dev.pilotFlat; simp

@[simp] theorem Dev.pilotPeriod_wf (d : Dev) (high : Int) (low : Int) (on : Nat) (total : Nat) (hw : Mem.wf d.mem = true) : Mem.wf (Dev.pilotPeriod d high low on total).mem = true := by
  unfold Dev.pilotPeriod; simp (maxDischargeDepth := 30) [hw]

@[simp] theorem Dev.pilotPeriod_keys (d : Dev) (high : Int) (low : Int) (on : Nat) (total : Nat) : (Dev.pilotPeriod d high low on total).keys = d.keys := by
  unfold Dev.pilotPeriod; simp

@[simp] theorem Dev.chgCmdDo_wf (d : Dev) (op : Nat) (hw : Mem.wf d.mem = true) : Mem.wf (Dev.chgCmdDo d op).mem = true := by
  unfold Dev.chgCmdDo; (repeat' split) <;> simp +contextual (maxDischargeDepth := 30) [hw]

@[simp] theorem Dev.chgCmdDo_keys (d : Dev) (op : Nat) : (Dev.chgCmdDo d op).keys = d.keys := by
  unfold Dev.chgCmdDo; (repeat' split) <;> simp

@[simp] theorem Dev.chgCmd_wf (d : Dev) (op : Nat) (key : Nat) (cpKey : Bool) (hw : Mem.wf d.mem = true) : Mem.wf (Dev.chgCmd d op key cpKey).mem = true := by
  unfold Dev.chgCmd; simp (maxDischargeDepth := 30) [hw]

@[simp] theorem Dev.chgCmd_keys (d : Dev) (op : Nat) (key : Nat) (cpKey : Bool) : (Dev.chgCmd d op key cpKey).keys = d.keys := by
  unfold Dev.chgCmd; simp

/-! ## Gauge -/

@[simp] theorem Dev.gaugeStateFault_wf (d : Dev) (detail : Nat) (hw : Mem.wf d.mem = true) : Mem.wf (Dev.gaugeStateFault d detail).mem = true := by
  unfold Dev.gaugeStateFault; simp (maxDischargeDepth := 30) [hw]

@[simp] theorem Dev.gaugeStateFault_keys (d : Dev) (detail : Nat) : (Dev.gaugeStateFault d detail).keys = d.keys := by
  unfold Dev.gaugeStateFault; simp

@[simp] theorem Dev.gaugeTick_wf (d : Dev) (store : Flaw) (hw : Mem.wf d.mem = true) : Mem.wf (Dev.gaugeTick d store).mem = true := by
  unfold Dev.gaugeTick; dsimp only; (repeat' split) <;> simp (maxDischargeDepth := 30) [hw]

@[simp] theorem Dev.gaugeTick_keys (d : Dev) (store : Flaw) : (Dev.gaugeTick d store).keys = d.keys := by
  unfold Dev.gaugeTick; simp; (repeat' split) <;> simp

@[simp] theorem Dev.gaugeReport_wf (d : Dev) (hw : Mem.wf d.mem = true) : Mem.wf (Dev.gaugeReport d).mem = true := by
  unfold Dev.gaugeReport; simp (maxDischargeDepth := 30) [hw]

@[simp] theorem Dev.gaugeReport_keys (d : Dev) : (Dev.gaugeReport d).keys = d.keys := by
  unfold Dev.gaugeReport; simp

@[simp] theorem Dev.gaugeDrift_wf (d : Dev) (hw : Mem.wf d.mem = true) : Mem.wf (Dev.gaugeDrift d).mem = true := by
  unfold Dev.gaugeDrift; simp (maxDischargeDepth := 30) [hw]

@[simp] theorem Dev.gaugeDrift_keys (d : Dev) : (Dev.gaugeDrift d).keys = d.keys := by
  unfold Dev.gaugeDrift; simp

@[simp] theorem Dev.filterRun_wf (d : Dev) (hw : Mem.wf d.mem = true) : Mem.wf (Dev.filterRun d).mem = true := by
  unfold Dev.filterRun; simp (maxDischargeDepth := 30) [hw]

@[simp] theorem Dev.filterRun_keys (d : Dev) : (Dev.filterRun d).keys = d.keys := by
  unfold Dev.filterRun; simp

end Sys2Proof.Machine
end

