-- ==== Sys2Proof/Laws/CanonicalMore.lean ====
section
/-!
SUPPORT. Laws/Canonical.lean continued: from the fault collector to the accesses of the masters.
-/
namespace Sys2Proof.Machine

/-! ## FaultColl -/

@[simp] theorem Dev.faultEvent_wf (d : Dev) (s : Nat) (h : Happening) (detail : Nat) (hw : Mem.wf d.mem = true) : Mem.wf (Dev.faultEvent d s h detail).mem = true := by
  unfold Dev.faultEvent; (repeat' split) <;> simp +contextual (maxDischargeDepth := 30) [hw]

@[simp] theorem Dev.faultEvent_keys (d : Dev) (s : Nat) (h : Happening) (detail : Nat) : (Dev.faultEvent d s h detail).keys = d.keys := by
  unfold Dev.faultEvent; (repeat' split) <;> (try dsimp only) <;> simp

@[simp] theorem Dev.entryLost_wf (d : Dev) (hw : Mem.wf d.mem = true) : Mem.wf (Dev.entryLost d).mem = true := by
  unfold Dev.entryLost; simp (maxDischargeDepth := 30) [hw]

@[simp] theorem Dev.entryLost_keys (d : Dev) : (Dev.entryLost d).keys = d.keys := by
  unfold Dev.entryLost; simp

@[simp] theorem Dev.newEntry_wf (d : Dev) (e : FaultEvent) (hw : Mem.wf d.mem = true) : Mem.wf (Dev.newEntry d e).mem = true := by
  unfold Dev.newEntry; simp (maxDischargeDepth := 30) [hw]

@[simp] theorem Dev.newEntry_keys (d : Dev) (e : FaultEvent) : (Dev.newEntry d e).keys = d.keys := by
  unfold Dev.newEntry; simp

@[simp] theorem Dev.enterRecord_wf (d : Dev) (e : FaultEvent) (hw : Mem.wf d.mem = true) : Mem.wf (Dev.enterRecord d e).mem = true := by
  unfold Dev.enterRecord; split
  · rw [(Dev.coalesce_store _ _ _).1]; exact hw
  · exact Dev.newEntry_wf _ _ hw

@[simp] theorem Dev.enterRecord_keys (d : Dev) (e : FaultEvent) : (Dev.enterRecord d e).keys = d.keys := by
  unfold Dev.enterRecord; split
  · rw [(Dev.coalesce_store _ _ _).2]
  · exact Dev.newEntry_keys _ _

@[simp] theorem Dev.historyRecord_wf (d : Dev) (hw : Mem.wf d.mem = true) : Mem.wf (Dev.historyRecord d).mem = true := by
  unfold Dev.historyRecord; dsimp only; (repeat' split) <;> simp (maxDischargeDepth := 30) [hw]

@[simp] theorem Dev.historyRecord_keys (d : Dev) : (Dev.historyRecord d).keys = d.keys := by
  unfold Dev.historyRecord; simp; (repeat' split) <;> simp

@[simp] theorem Dev.inject_wf (d : Dev) (s : Nat) (hw : Mem.wf d.mem = true) : Mem.wf (Dev.inject d s).mem = true := by
  unfold Dev.inject; simp (maxDischargeDepth := 30) [hw]

@[simp] theorem Dev.inject_keys (d : Dev) (s : Nat) : (Dev.inject d s).keys = d.keys := by
  unfold Dev.inject; simp

@[simp] theorem Dev.faultCmd_wf (d : Dev) (w : Word) (hw : Mem.wf d.mem = true) : Mem.wf (Dev.faultCmd d w).mem = true := by
  unfold Dev.faultCmd; simp (maxDischargeDepth := 30) [hw]; (repeat' split) <;> simp (maxDischargeDepth := 30) [hw]

@[simp] theorem Dev.faultCmd_keys (d : Dev) (w : Word) : (Dev.faultCmd d w).keys = d.keys := by
  unfold Dev.faultCmd; simp; (repeat' split) <;> simp

@[simp] theorem Dev.configCompare_wf (d : Dev) (upset : Option Nat) (hw : Mem.wf d.mem = true) : Mem.wf (Dev.configCompare d upset).mem = true := by
  unfold Dev.configCompare; dsimp only; (repeat' split) <;> simp (maxDischargeDepth := 30) [hw]

@[simp] theorem Dev.configCompare_keys (d : Dev) (upset : Option Nat) : (Dev.configCompare d upset).keys = d.keys := by
  unfold Dev.configCompare; simp; (repeat' split) <;> simp

@[simp] theorem Dev.backupReaction_wf (d : Dev) (failed : Nat) (hw : Mem.wf d.mem = true) : Mem.wf (Dev.backupReaction d failed).mem = true := by
  unfold Dev.backupReaction; simp (maxDischargeDepth := 30) [hw]

@[simp] theorem Dev.backupReaction_keys (d : Dev) (failed : Nat) : (Dev.backupReaction d failed).keys = d.keys := by
  unfold Dev.backupReaction; simp

@[simp] theorem Dev.reactionCheck_wf (d : Dev) (aliveLow : Bool) (faultnLow : Bool) (dischHigh : Bool) (hw : Mem.wf d.mem = true) : Mem.wf (Dev.reactionCheck d aliveLow faultnLow dischHigh).mem = true := by
  unfold Dev.reactionCheck; simp (maxDischargeDepth := 30) [hw]

@[simp] theorem Dev.reactionCheck_keys (d : Dev) (aliveLow : Bool) (faultnLow : Bool) (dischHigh : Bool) : (Dev.reactionCheck d aliveLow faultnLow dischHigh).keys = d.keys := by
  unfold Dev.reactionCheck; simp

@[simp] theorem Dev.islandCompare_wf (d : Dev) (differ : Bool) (hw : Mem.wf d.mem = true) : Mem.wf (Dev.islandCompare d differ).mem = true := by
  unfold Dev.islandCompare; simp (maxDischargeDepth := 30) [hw]

@[simp] theorem Dev.islandCompare_keys (d : Dev) (differ : Bool) : (Dev.islandCompare d differ).keys = d.keys := by
  unfold Dev.islandCompare; simp

@[simp] theorem Dev.referenceCompare_wf (d : Dev) (diff : Nat) (hw : Mem.wf d.mem = true) : Mem.wf (Dev.referenceCompare d diff).mem = true := by
  unfold Dev.referenceCompare; simp (maxDischargeDepth := 30) [hw]

@[simp] theorem Dev.referenceCompare_keys (d : Dev) (diff : Nat) : (Dev.referenceCompare d diff).keys = d.keys := by
  unfold Dev.referenceCompare; simp

@[simp] theorem Dev.readback_wf (d : Dev) (b : Nat) (differs : Bool) (us : Nat) (hw : Mem.wf d.mem = true) : Mem.wf (Dev.readback d b differs us).mem = true := by
  unfold Dev.readback; simp (maxDischargeDepth := 30) [hw]

@[simp] theorem Dev.readback_keys (d : Dev) (b : Nat) (differs : Bool) (us : Nat) : (Dev.readback d b differs us).keys = d.keys := by
  unfold Dev.readback; simp

@[simp] theorem Dev.aliveReadback_wf (d : Dev) (differs : Bool) (us : Nat) (hw : Mem.wf d.mem = true) : Mem.wf (Dev.aliveReadback d differs us).mem = true := by
  unfold Dev.aliveReadback; simp (maxDischargeDepth := 30) [hw]

@[simp] theorem Dev.aliveReadback_keys (d : Dev) (differs : Bool) (us : Nat) : (Dev.aliveReadback d differs us).keys = d.keys := by
  unfold Dev.aliveReadback; simp

@[simp] theorem Dev.faultnReadback_wf (d : Dev) (high : Bool) (us : Nat) (hw : Mem.wf d.mem = true) : Mem.wf (Dev.faultnReadback d high us).mem = true := by
  unfold Dev.faultnReadback; simp (maxDischargeDepth := 30) [hw]

@[simp] theorem Dev.faultnReadback_keys (d : Dev) (high : Bool) (us : Nat) : (Dev.faultnReadback d high us).keys = d.keys := by
  unfold Dev.faultnReadback; simp

@[simp] theorem Dev.pathTest_wf (d : Dev) (n : Nat) (ack : Bool) (hw : Mem.wf d.mem = true) : Mem.wf (Dev.pathTest d n ack).mem = true := by
  unfold Dev.pathTest; simp (maxDischargeDepth := 30) [hw]

@[simp] theorem Dev.pathTest_keys (d : Dev) (n : Nat) (ack : Bool) : (Dev.pathTest d n ack).keys = d.keys := by
  unfold Dev.pathTest; simp

@[simp] theorem Dev.islBist_wf (d : Dev) (pass : Bool) (hw : Mem.wf d.mem = true) : Mem.wf (Dev.islBist d pass).mem = true := by
  unfold Dev.islBist; simp (maxDischargeDepth := 30) [hw]

@[simp] theorem Dev.islBist_keys (d : Dev) (pass : Bool) : (Dev.islBist d pass).keys = d.keys := by
  unfold Dev.islBist; simp

@[simp] theorem Dev.trimCheck_wf (d : Dev) (bad : Nat) (hw : Mem.wf d.mem = true) : Mem.wf (Dev.trimCheck d bad).mem = true := by
  unfold Dev.trimCheck; (repeat' split) <;> simp_all (maxDischargeDepth := 30)

@[simp] theorem Dev.trimCheck_keys (d : Dev) (bad : Nat) : (Dev.trimCheck d bad).keys = d.keys := by
  unfold Dev.trimCheck; simp

@[simp] theorem Dev.selftestDone_wf (d : Dev) (failed : Nat) (trims : Nat) (hw : Mem.wf d.mem = true) : Mem.wf (Dev.selftestDone d failed trims).mem = true := by
  unfold Dev.selftestDone; simp (maxDischargeDepth := 30) [hw]

@[simp] theorem Dev.selftestDone_keys (d : Dev) (failed : Nat) (trims : Nat) : (Dev.selftestDone d failed trims).keys = d.keys := by
  unfold Dev.selftestDone; simp

/-! ## Otp -/

@[simp] theorem Dev.sense_wf (d : Dev) (diff : List (Nat × Word)) (hw : Mem.wf d.mem = true) : Mem.wf (Dev.sense d diff).mem = true := by
  unfold Dev.sense; simp +contextual (maxDischargeDepth := 30) [hw]

@[simp] theorem Dev.sense_keys (d : Dev) (diff : List (Nat × Word)) : (Dev.sense d diff).keys = d.keys := by
  unfold Dev.sense; simp

@[simp] theorem Dev.otpDone_wf (d : Dev) (x : OtpFacts) (hw : Mem.wf d.mem = true) : Mem.wf (Dev.otpDone d x).mem = true := by
  unfold Dev.otpDone; dsimp only; split
  · exact hw
  split
  · exact hw
  · split <;> simp [hw]
  · split <;> simp [hw]
  · simp [hw]
  · simp [hw, Dev.foldl_mem]
  · simp [hw]

@[simp] theorem Dev.otpDone_keys (d : Dev) (x : OtpFacts) : (Dev.otpDone d x).keys = d.keys := by
  unfold Dev.otpDone; dsimp only; split
  · rfl
  split
  · rfl
  · split <;> simp
  · split <;> simp
  · simp
  · simp [Dev.foldl_keys]
  · simp

@[simp] theorem Dev.patchLoad_wf (d : Dev) (hw : Mem.wf d.mem = true) : Mem.wf (Dev.patchLoad d).mem = true := by
  unfold Dev.patchLoad; simp +contextual (maxDischargeDepth := 30) [hw]

@[simp] theorem Dev.patchLoad_keys (d : Dev) : (Dev.patchLoad d).keys = d.keys := by
  unfold Dev.patchLoad; simp

/-! ## Boot -/

@[simp] theorem Dev.bootFailAt_wf (d : Dev) (code : Nat) (seg : Nat) (hw : Mem.wf d.mem = true) : Mem.wf (Dev.bootFailAt d code seg).mem = true := by
  unfold Dev.bootFailAt; dsimp only; (repeat' split) <;> simp (maxDischargeDepth := 30) [hw]

@[simp] theorem Dev.bootFailAt_keys (d : Dev) (code : Nat) (seg : Nat) : (Dev.bootFailAt d code seg).keys = d.keys := by
  unfold Dev.bootFailAt; dsimp only; (repeat' split) <;> simp

@[simp] theorem Dev.bootFail_wf (d : Dev) (code : Nat) (hw : Mem.wf d.mem = true) : Mem.wf (Dev.bootFail d code).mem = true := by
  unfold Dev.bootFail; simp (maxDischargeDepth := 30) [hw]

@[simp] theorem Dev.bootFail_keys (d : Dev) (code : Nat) : (Dev.bootFail d code).keys = d.keys := by
  unfold Dev.bootFail; simp

@[simp] theorem Dev.takeBootPins_wf (d : Dev) (path : Nat) (hw : Mem.wf d.mem = true) : Mem.wf (d.takeBootPins path).mem = true := by
  unfold Dev.takeBootPins; simp [hw]

@[simp] theorem Dev.takeBootPins_keysOk (d : Dev) (path : Nat) (hw : keysOk d.keys) : keysOk (d.takeBootPins path).keys := by
  unfold Dev.takeBootPins
  split
  · exact Dev.setKey_keysOk _ _ _ (Dev.setKey_keysOk _ _ _ hw (by decide) (by decide)) (by decide) (by decide)
  · split
    · exact Dev.setKey_keysOk _ _ _ (Dev.setKey_keysOk _ _ _ hw (by decide) (by decide)) (by decide) (by decide)
    · exact hw

@[simp] theorem Dev.romStart_wf (d : Dev) (bootsel : Nat) (diff : List (Nat × Word)) (hw : Mem.wf d.mem = true) : Mem.wf (Dev.romStart d bootsel diff).mem = true := by
  unfold Dev.romStart; simp (maxDischargeDepth := 30) [hw]

@[simp] theorem Dev.romStart_keysOk (d : Dev) (bootsel : Nat) (diff : List (Nat × Word)) (hw : keysOk d.keys) : keysOk (Dev.romStart d bootsel diff).keys := by
  unfold Dev.romStart; simp (maxDischargeDepth := 30) [hw]

@[simp] theorem Dev.bootSequence_wf (d : Dev) (hw : Mem.wf d.mem = true) : Mem.wf (Dev.bootSequence d).1.mem = true := by
  unfold Dev.bootSequence; simp (maxDischargeDepth := 30) [hw]

@[simp] theorem Dev.bootSequence_keys (d : Dev) : (Dev.bootSequence d).1.keys = d.keys := by
  unfold Dev.bootSequence; simp

@[simp] theorem Dev.bootHeader_wf (d : Dev) (h : List Nat) (hw : Mem.wf d.mem = true) : Mem.wf (Dev.bootHeader d h).1.mem = true := by
  unfold Dev.bootHeader; simp (maxDischargeDepth := 30) [hw]

@[simp] theorem Dev.bootHeader_keys (d : Dev) (h : List Nat) : (Dev.bootHeader d h).1.keys = d.keys := by
  unfold Dev.bootHeader; simp

@[simp] theorem Dev.bootSegment_wf (d : Dev) (k : Nat) (s : List Nat) (hw : Mem.wf d.mem = true) : Mem.wf (Dev.bootSegment d k s).1.mem = true := by
  unfold Dev.bootSegment; simp (maxDischargeDepth := 30) [hw]

@[simp] theorem Dev.bootSegment_keys (d : Dev) (k : Nat) (s : List Nat) : (Dev.bootSegment d k s).1.keys = d.keys := by
  unfold Dev.bootSegment; simp

@[simp] theorem Dev.bootColophon_wf (d : Dev) (c : List Nat) (hw : Mem.wf d.mem = true) : Mem.wf (Dev.bootColophon d c).1.mem = true := by
  unfold Dev.bootColophon; simp (maxDischargeDepth := 30) [hw]

@[simp] theorem Dev.bootColophon_keys (d : Dev) (c : List Nat) : (Dev.bootColophon d c).1.keys = d.keys := by
  unfold Dev.bootColophon; simp

@[simp] theorem Dev.colophonVerified_wf (d : Dev) (hw : Mem.wf d.mem = true) : Mem.wf (Dev.colophonVerified d).mem = true := by
  unfold Dev.colophonVerified; simp (maxDischargeDepth := 30) [hw]

@[simp] theorem Dev.colophonVerified_keys (d : Dev) : (Dev.colophonVerified d).keys = d.keys := by
  unfold Dev.colophonVerified; simp

@[simp] theorem Dev.bootTimeout_wf (d : Dev) (hw : Mem.wf d.mem = true) : Mem.wf (Dev.bootTimeout d).mem = true := by
  unfold Dev.bootTimeout; simp (maxDischargeDepth := 30) [hw]

@[simp] theorem Dev.bootTimeout_keys (d : Dev) : (Dev.bootTimeout d).keys = d.keys := by
  unfold Dev.bootTimeout; simp

@[simp] theorem Dev.bootTransport_wf (d : Dev) (hw : Mem.wf d.mem = true) : Mem.wf (Dev.bootTransport d).mem = true := by
  unfold Dev.bootTransport; simp (maxDischargeDepth := 30) [hw]

@[simp] theorem Dev.bootTransport_keys (d : Dev) : (Dev.bootTransport d).keys = d.keys := by
  unfold Dev.bootTransport; simp

@[simp] theorem Dev.dbgSubmit_wf (d : Dev) (hw : Mem.wf d.mem = true) : Mem.wf (Dev.dbgSubmit d).mem = true := by
  unfold Dev.dbgSubmit; simp (maxDischargeDepth := 30) [hw]

@[simp] theorem Dev.dbgSubmit_keys (d : Dev) : (Dev.dbgSubmit d).keys = d.keys := by
  unfold Dev.dbgSubmit; simp

/-! ## Mbox -/

@[simp] theorem Dev.mbTimeout_wf (d : Dev) (n : Nat) (hw : Mem.wf d.mem = true) : Mem.wf (Dev.mbTimeout d n).mem = true := by
  unfold Dev.mbTimeout; simp (maxDischargeDepth := 30) [hw]

@[simp] theorem Dev.mbTimeout_keys (d : Dev) (n : Nat) : (Dev.mbTimeout d n).keys = d.keys := by
  unfold Dev.mbTimeout; simp

/-! ## Intc -/

@[simp] theorem Dev.eoi_wf (d : Dev) (i : Nat) (s : Nat) (hw : Mem.wf d.mem = true) : Mem.wf (Dev.eoi d i s).mem = true := by
  unfold Dev.eoi; simp (maxDischargeDepth := 30) [hw]

@[simp] theorem Dev.eoi_keys (d : Dev) (i : Nat) (s : Nat) : (Dev.eoi d i s).keys = d.keys := by
  unfold Dev.eoi; simp

@[simp] theorem Dev.lockstepMismatch_wf (d : Dev) (i : Nat) (hw : Mem.wf d.mem = true) : Mem.wf (Dev.lockstepMismatch d i).mem = true := by
  unfold Dev.lockstepMismatch; simp (maxDischargeDepth := 30) [hw]

@[simp] theorem Dev.lockstepMismatch_keys (d : Dev) (i : Nat) : (Dev.lockstepMismatch d i).keys = d.keys := by
  unfold Dev.lockstepMismatch; simp

/-! ## MemEcc -/

@[simp] theorem Dev.eccCorrect_wf (d : Dev) (k : Nat) (a : Nat) (cls : Nat) (bit : Nat) (scrub : Bool) (hw : Mem.wf d.mem = true) : Mem.wf (Dev.eccCorrect d k a cls bit scrub).mem = true := by
  unfold Dev.eccCorrect; simp (maxDischargeDepth := 30) [hw]

@[simp] theorem Dev.eccCorrect_keys (d : Dev) (k : Nat) (a : Nat) (cls : Nat) (bit : Nat) (scrub : Bool) : (Dev.eccCorrect d k a cls bit scrub).keys = d.keys := by
  unfold Dev.eccCorrect; simp

@[simp] theorem Dev.eccFail_wf (d : Dev) (k : Nat) (a : Nat) (cls : Nat) (scrub : Bool) (hw : Mem.wf d.mem = true) : Mem.wf (Dev.eccFail d k a cls scrub).mem = true := by
  unfold Dev.eccFail; simp (maxDischargeDepth := 30) [hw]

@[simp] theorem Dev.eccFail_keys (d : Dev) (k : Nat) (a : Nat) (cls : Nat) (scrub : Bool) : (Dev.eccFail d k a cls scrub).keys = d.keys := by
  unfold Dev.eccFail; simp

@[simp] theorem Dev.eccRead_wf (d : Dev) (a : Nat) (cls : Nat) (flaw : Flaw) (bit : Nat) (hw : Mem.wf d.mem = true) : Mem.wf (Dev.eccRead d a cls flaw bit).1.mem = true := by
  unfold Dev.eccRead; (repeat' split) <;> (try dsimp only) <;> simp +contextual (maxDischargeDepth := 30) [hw]

@[simp] theorem Dev.eccRead_keys (d : Dev) (a : Nat) (cls : Nat) (flaw : Flaw) (bit : Nat) : (Dev.eccRead d a cls flaw bit).1.keys = d.keys := by
  unfold Dev.eccRead; (repeat' split) <;> (try dsimp only) <;> simp

@[simp] theorem Dev.memoryRead_wf (d : Dev) (r : Reader) (a : Nat) (flaw : Flaw) (bit : Nat) (hw : Mem.wf d.mem = true) : Mem.wf (Dev.memoryRead d r a flaw bit).mem = true := by
  unfold Dev.memoryRead; dsimp only; (repeat' split) <;> simp (maxDischargeDepth := 30) [hw]

@[simp] theorem Dev.memoryRead_keys (d : Dev) (r : Reader) (a : Nat) (flaw : Flaw) (bit : Nat) : (Dev.memoryRead d r a flaw bit).keys = d.keys := by
  unfold Dev.memoryRead; simp; (repeat' split) <;> simp

@[simp] theorem Dev.subwordStore_wf (d : Dev) (m : Master) (a : Nat) (n : Nat) (v : Word) (flaw : Flaw) (bit : Nat) (hw : Mem.wf d.mem = true) : Mem.wf (Dev.subwordStore d m a n v flaw bit).mem = true := by
  unfold Dev.subwordStore; simp (maxDischargeDepth := 30) [hw]

@[simp] theorem Dev.subwordStore_keys (d : Dev) (m : Master) (a : Nat) (n : Nat) (v : Word) (flaw : Flaw) (bit : Nat) : (Dev.subwordStore d m a n v flaw bit).keys = d.keys := by
  unfold Dev.subwordStore; simp

@[simp] theorem Dev.scrubPass_wf (d : Dev) (l : List ScrubError) (hw : Mem.wf d.mem = true) : Mem.wf (Dev.scrubPass d l).mem = true := by
  unfold Dev.scrubPass; dsimp only; split
  · exact hw
  · simp only [Dev.bump_store]
    refine Dev.each_wf _ _ _ (fun e x he => ?_) hw
    split
    · split <;> simp [he]
    · exact he

@[simp] theorem Dev.scrubPass_keys (d : Dev) (l : List ScrubError) : (Dev.scrubPass d l).keys = d.keys := by
  unfold Dev.scrubPass; dsimp only; split
  · rfl
  · simp only [Dev.bump_store]
    refine Dev.each_keys _ (fun e x => ?_) _ _
    split
    · split <;> simp
    · rfl

/-! ## Mram -/

@[simp] theorem Dev.scanRing_wf (d : Dev) (r : Nat) (ue : List Nat) (hw : Mem.wf d.mem = true) : Mem.wf (Dev.scanRing d r ue).mem = true := by
  unfold Dev.scanRing; (try dsimp only); (repeat' split) <;> simp +contextual (maxDischargeDepth := 30) [hw]

@[simp] theorem Dev.scanRing_keys (d : Dev) (r : Nat) (ue : List Nat) : (Dev.scanRing d r ue).keys = d.keys := by
  unfold Dev.scanRing; simp; (repeat' split) <;> simp

@[simp] theorem Dev.scanEnd_wf (d : Dev) (r : Nat) (ue : List Nat) (hw : Mem.wf d.mem = true) : Mem.wf (Dev.scanEnd d r ue).mem = true := by
  unfold Dev.scanEnd; simp (maxDischargeDepth := 30) [hw]

@[simp] theorem Dev.scanEnd_keys (d : Dev) (r : Nat) (ue : List Nat) : (Dev.scanEnd d r ue).keys = d.keys := by
  unfold Dev.scanEnd; simp

@[simp] theorem Dev.putUnit_wf (d : Dev) (x : Nat) (l : List Nat) (u : Nat) (hw : Mem.wf d.mem = true) : Mem.wf (Dev.putUnit d x l u).mem = true := by
  unfold Dev.putUnit; simp (maxDischargeDepth := 30) [hw]

@[simp] theorem Dev.putUnit_keys (d : Dev) (x : Nat) (l : List Nat) (u : Nat) : (Dev.putUnit d x l u).keys = d.keys := by
  unfold Dev.putUnit; simp

@[simp] theorem Dev.writeUnits_wf (d : Dev) (k : Nat) (hw : Mem.wf d.mem = true) : Mem.wf (Dev.writeUnits d k).mem = true := by
  unfold Dev.writeUnits; (repeat' split) <;> simp +contextual (maxDischargeDepth := 30) [hw]

@[simp] theorem Dev.writeUnits_keys (d : Dev) (k : Nat) : (Dev.writeUnits d k).keys = d.keys := by
  unfold Dev.writeUnits; (repeat' split) <;> (try dsimp only); simp

@[simp] theorem Dev.mramCut_wf (d : Dev) (hw : Mem.wf d.mem = true) : Mem.wf (Dev.mramCut d).mem = true := by
  unfold Dev.mramCut; dsimp only; (repeat' split) <;> simp (maxDischargeDepth := 30) [hw]

@[simp] theorem Dev.mramCut_keys (d : Dev) : (Dev.mramCut d).keys = d.keys := by
  unfold Dev.mramCut; dsimp only; (repeat' split) <;> simp

@[simp] theorem Dev.verifyUnits_wf (d : Dev) (m : Master) (x : MramFacts) (hw : Mem.wf d.mem = true) : Mem.wf (Dev.verifyUnits d m x).1.mem = true := by
  unfold Dev.verifyUnits; dsimp only; (repeat' split) <;> simp (maxDischargeDepth := 30) [hw]

@[simp] theorem Dev.verifyUnits_keys (d : Dev) (m : Master) (x : MramFacts) : (Dev.verifyUnits d m x).1.keys = d.keys := by
  unfold Dev.verifyUnits; simp; (repeat' split) <;> simp

@[simp] theorem Dev.srReadDo_wf (d : Dev) (m : Master) (r : Nat) (ue : List Nat) (hw : Mem.wf d.mem = true) : Mem.wf (Dev.srReadDo d m r ue).1.mem = true := by
  unfold Dev.srReadDo; simp (maxDischargeDepth := 30) [hw]

@[simp] theorem Dev.srReadDo_keys (d : Dev) (m : Master) (r : Nat) (ue : List Nat) : (Dev.srReadDo d m r ue).1.keys = d.keys := by
  unfold Dev.srReadDo; simp

@[simp] theorem Dev.windowServe_wf (d : Dev) (r : Reader) (a : Nat) (n : Nat) (flaw : Flaw) (bit : Nat) (hw : Mem.wf d.mem = true) : Mem.wf (Dev.windowServe d r a n flaw bit).mem = true := by
  unfold Dev.windowServe; dsimp only; (repeat' split) <;> simp (maxDischargeDepth := 30) [hw]

@[simp] theorem Dev.windowServe_keys (d : Dev) (r : Reader) (a : Nat) (n : Nat) (flaw : Flaw) (bit : Nat) : (Dev.windowServe d r a n flaw bit).keys = d.keys := by
  unfold Dev.windowServe; dsimp only; (repeat' split) <;> simp

@[simp] theorem Dev.windowRead_wf (d : Dev) (r : Reader) (x : Nat) (n : Nat) (flaw : Flaw) (bit : Nat) (hw : Mem.wf d.mem = true) : Mem.wf (Dev.windowRead d r x n flaw bit).mem = true := by
  unfold Dev.windowRead; dsimp only; (repeat' split) <;> simp (maxDischargeDepth := 30) [hw]

@[simp] theorem Dev.windowRead_keys (d : Dev) (r : Reader) (x : Nat) (n : Nat) (flaw : Flaw) (bit : Nat) : (Dev.windowRead d r x n flaw bit).keys = d.keys := by
  unfold Dev.windowRead; simp; (repeat' split) <;> simp

@[simp] theorem Dev.serveStalled_wf (d : Dev) (hw : Mem.wf d.mem = true) : Mem.wf (Dev.serveStalled d).mem = true := by
  unfold Dev.serveStalled; simp +contextual (maxDischargeDepth := 30) [hw]

@[simp] theorem Dev.serveStalled_keys (d : Dev) : (Dev.serveStalled d).keys = d.keys := by
  unfold Dev.serveStalled; simp

@[simp] theorem Dev.mramDone_wf (d : Dev) (x : MramFacts) (hw : Mem.wf d.mem = true) : Mem.wf (Dev.mramDone d x).mem = true := by
  unfold Dev.mramDone; dsimp only; (repeat' split) <;> simp (maxDischargeDepth := 30) [hw]

@[simp] theorem Dev.mramDone_keys (d : Dev) (x : MramFacts) : (Dev.mramDone d x).keys = d.keys := by
  unfold Dev.mramDone; simp; (repeat' split) <;> simp

@[simp] theorem Dev.srScanDone_wf (d : Dev) (ue : List Nat) (hw : Mem.wf d.mem = true) : Mem.wf (Dev.srScanDone d ue).mem = true := by
  unfold Dev.srScanDone; (repeat' split) <;> simp +contextual (maxDischargeDepth := 30) [hw]

@[simp] theorem Dev.srScanDone_keys (d : Dev) (ue : List Nat) : (Dev.srScanDone d ue).keys = d.keys := by
  unfold Dev.srScanDone; (repeat' split) <;> (try dsimp only) <;> simp

/-! ## Check -/

@[simp] theorem Dev.completeCheck_wf (d : Dev) (n : Nat) (res : Nat) (ok : Bool) (counter : Option Nat) (hw : Mem.wf d.mem = true) : Mem.wf (Dev.completeCheck d n res ok counter).mem = true := by
  unfold Dev.completeCheck; dsimp only; (repeat' split) <;> simp (maxDischargeDepth := 30) [hw]

@[simp] theorem Dev.completeCheck_keys (d : Dev) (n : Nat) (res : Nat) (ok : Bool) (counter : Option Nat) : (Dev.completeCheck d n res ok counter).keys = d.keys := by
  unfold Dev.completeCheck; simp; (repeat' split) <;> simp

@[simp] theorem Dev.checkFinish_wf (d : Dev) (n : Nat) (hw : Mem.wf d.mem = true) : Mem.wf (Dev.checkFinish d n).mem = true := by
  unfold Dev.checkFinish; simp (maxDischargeDepth := 30) [hw]

@[simp] theorem Dev.checkFinish_keys (d : Dev) (n : Nat) : (Dev.checkFinish d n).keys = d.keys := by
  unfold Dev.checkFinish; simp

@[simp] theorem Dev.checkCmd_wf (d : Dev) (n : Nat) (w : Word) (hw : Mem.wf d.mem = true) : Mem.wf (Dev.checkCmd d n w).mem = true := by
  unfold Dev.checkCmd; simp (maxDischargeDepth := 30) [hw]

@[simp] theorem Dev.checkCmd_keys (d : Dev) (n : Nat) (w : Word) : (Dev.checkCmd d n w).keys = d.keys := by
  unfold Dev.checkCmd; simp

@[simp] theorem Dev.checkRecord_wf (d : Dev) (n : Nat) (hw : Mem.wf d.mem = true) : Mem.wf (Dev.checkRecord d n).mem = true := by
  unfold Dev.checkRecord; dsimp only; (repeat' split) <;> simp (maxDischargeDepth := 30) [hw]

@[simp] theorem Dev.checkRecord_keys (d : Dev) (n : Nat) : (Dev.checkRecord d n).keys = d.keys := by
  unfold Dev.checkRecord; simp; (repeat' split) <;> simp

/-! ## Net -/

@[simp] theorem Dev.receiveInto_wf (d : Dev) (c : Net) (ring : Nat) (ws : List Word) (hw : Mem.wf d.mem = true) : Mem.wf (Dev.receiveInto d c ring ws).mem = true := by
  unfold Dev.receiveInto; simp (maxDischargeDepth := 30) [hw]

@[simp] theorem Dev.receiveInto_keys (d : Dev) (c : Net) (ring : Nat) (ws : List Word) : (Dev.receiveInto d c ring ws).keys = d.keys := by
  unfold Dev.receiveInto; simp

@[simp] theorem Dev.canAccept_wf (d : Dev) (n : Fin 2) (f : CanFrame) (hw : Mem.wf d.mem = true) : Mem.wf (Dev.canAccept d n f).mem = true := by
  unfold Dev.canAccept; dsimp only; (repeat' split) <;> simp (maxDischargeDepth := 30) [hw]

@[simp] theorem Dev.canAccept_keys (d : Dev) (n : Fin 2) (f : CanFrame) : (Dev.canAccept d n f).keys = d.keys := by
  unfold Dev.canAccept; simp; (repeat' split) <;> simp

@[simp] theorem Dev.txRequest_wf (d : Dev) (c : Net) (k : Nat) (hw : Mem.wf d.mem = true) : Mem.wf (Dev.txRequest d c k).mem = true := by
  unfold Dev.txRequest; dsimp only; (repeat' split) <;> simp (maxDischargeDepth := 30) [hw]

@[simp] theorem Dev.txRequest_keys (d : Dev) (c : Net) (k : Nat) : (Dev.txRequest d c k).keys = d.keys := by
  unfold Dev.txRequest; simp; (repeat' split) <;> simp

@[simp] theorem Dev.txCtrl_wf (d : Dev) (c : Net) (w : Word) (started : Nat) (hw : Mem.wf d.mem = true) : Mem.wf (Dev.txCtrl d c w started).mem = true := by
  unfold Dev.txCtrl; dsimp only
  refine Dev.each_wf _ _ _ (fun e x he => ?_) ?_
  · split
    · split <;> simp [he]
    · split <;> simp [he]
  · split <;> simp [hw]

@[simp] theorem Dev.txCtrl_keys (d : Dev) (c : Net) (w : Word) (started : Nat) : (Dev.txCtrl d c w started).keys = d.keys := by
  unfold Dev.txCtrl; simp; (repeat' split) <;> simp

@[simp] theorem Dev.canSent_wf (d : Dev) (n : Fin 2) (ws : List Word) (folio : Word) (angle : BitVec 16) (hw : Mem.wf d.mem = true) : Mem.wf (Dev.canSent d n ws folio angle).mem = true := by
  unfold Dev.canSent; simp (maxDischargeDepth := 30) [hw]

@[simp] theorem Dev.canSent_keys (d : Dev) (n : Fin 2) (ws : List Word) (folio : Word) (angle : BitVec 16) : (Dev.canSent d n ws folio angle).keys = d.keys := by
  unfold Dev.canSent; simp

@[simp] theorem Dev.t1sSent_wf (d : Dev) (k : Nat) (age : Nat) (coll : Nat) (hw : Mem.wf d.mem = true) : Mem.wf (Dev.t1sSent d k age coll).mem = true := by
  unfold Dev.t1sSent; simp (maxDischargeDepth := 30) [hw]

@[simp] theorem Dev.t1sSent_keys (d : Dev) (k : Nat) (age : Nat) (coll : Nat) : (Dev.t1sSent d k age coll).keys = d.keys := by
  unfold Dev.t1sSent; simp

@[simp] theorem Dev.frameSent_wf (d : Dev) (c : Net) (age : Nat) (coll : Nat) (bad : Bool) (folio : Word) (angle : BitVec 16) (hw : Mem.wf d.mem = true) : Mem.wf (Dev.frameSent d c age coll bad folio angle).mem = true := by
  unfold Dev.frameSent; dsimp only; (repeat' split) <;> simp (maxDischargeDepth := 30) [hw]

@[simp] theorem Dev.frameSent_keys (d : Dev) (c : Net) (age : Nat) (coll : Nat) (bad : Bool) (folio : Word) (angle : BitVec 16) : (Dev.frameSent d c age coll bad folio angle).keys = d.keys := by
  unfold Dev.frameSent; simp; (repeat' split) <;> simp

@[simp] theorem Dev.canReceived_wf (d : Dev) (n : Fin 2) (f : CanFrame) (hw : Mem.wf d.mem = true) : Mem.wf (Dev.canReceived d n f).mem = true := by
  unfold Dev.canReceived; dsimp only; (repeat' split) <;> simp (maxDischargeDepth := 30) [hw]

@[simp] theorem Dev.canReceived_keys (d : Dev) (n : Fin 2) (f : CanFrame) : (Dev.canReceived d n f).keys = d.keys := by
  unfold Dev.canReceived; dsimp only; (repeat' split) <;> simp

@[simp] theorem Dev.busOff_wf (d : Dev) (n : Fin 2) (hw : Mem.wf d.mem = true) : Mem.wf (Dev.busOff d n).mem = true := by
  unfold Dev.busOff; simp (maxDischargeDepth := 30) [hw]

@[simp] theorem Dev.busOff_keys (d : Dev) (n : Fin 2) : (Dev.busOff d n).keys = d.keys := by
  unfold Dev.busOff; simp

@[simp] theorem Dev.t1sReceived_wf (d : Dev) (f : T1sFrame) (hw : Mem.wf d.mem = true) : Mem.wf (Dev.t1sReceived d f).mem = true := by
  unfold Dev.t1sReceived; simp (maxDischargeDepth := 30) [hw]

@[simp] theorem Dev.t1sReceived_keys (d : Dev) (f : T1sFrame) : (Dev.t1sReceived d f).keys = d.keys := by
  unfold Dev.t1sReceived; simp

@[simp] theorem Dev.t1sPlca_wf (d : Dev) (cycles : Nat) (hw : Mem.wf d.mem = true) : Mem.wf (Dev.t1sPlca d cycles).mem = true := by
  unfold Dev.t1sPlca; simp (maxDischargeDepth := 30) [hw]

@[simp] theorem Dev.t1sPlca_keys (d : Dev) (cycles : Nat) : (Dev.t1sPlca d cycles).keys = d.keys := by
  unfold Dev.t1sPlca; simp

/-! ## Session -/

@[simp] theorem Dev.sessChallenge_wf (d : Dev) (healthy : Bool) (hw : Mem.wf d.mem = true) : Mem.wf (Dev.sessChallenge d healthy).1.mem = true := by
  unfold Dev.sessChallenge; simp (maxDischargeDepth := 30) [hw]

@[simp] theorem Dev.sessChallenge_keys (d : Dev) (healthy : Bool) : (Dev.sessChallenge d healthy).1.keys = d.keys := by
  unfold Dev.sessChallenge; simp

@[simp] theorem Dev.sessResponse_wf (d : Dev) (mac : List Nat) (hw : Mem.wf d.mem = true) : Mem.wf (Dev.sessResponse d mac).1.mem = true := by
  unfold Dev.sessResponse; simp (maxDischargeDepth := 30) [hw]

@[simp] theorem Dev.sessResponse_keys (d : Dev) (mac : List Nat) : (Dev.sessResponse d mac).1.keys = d.keys := by
  unfold Dev.sessResponse; simp

/-! ## Power -/

@[simp] theorem Dev.resetDevice_wf (d : Dev) (hw : Mem.wf d.mem = true) : Mem.wf (Dev.resetDevice d).mem = true := by
  unfold Dev.resetDevice; dsimp only
  split <;> simp [hw, Dev.foldl_mem]

@[simp] theorem Dev.resetDevice_keysOk (d : Dev) (hw : keysOk d.keys) : keysOk (Dev.resetDevice d).keys := by
  unfold Dev.resetDevice; dsimp only
  split <;> simp [Dev.foldl_keys, keysOk_reset]

@[simp] theorem Dev.enterBoot_wf (d : Dev) (cause : Nat) (hw : Mem.wf d.mem = true) : Mem.wf (Dev.enterBoot d cause).mem = true := by
  unfold Dev.enterBoot; simp (maxDischargeDepth := 30) [hw]

@[simp] theorem Dev.enterBoot_keysOk (d : Dev) (cause : Nat) (hw : keysOk d.keys) : keysOk (Dev.enterBoot d cause).keys := by
  unfold Dev.enterBoot; simp (maxDischargeDepth := 30) [hw]

@[simp] theorem Dev.unpowered_wf (d : Dev) (hw : Mem.wf d.mem = true) : Mem.wf (Dev.unpowered d).mem = true := by
  unfold Dev.unpowered; simp (maxDischargeDepth := 30) [hw]

@[simp] theorem Dev.unpowered_keysOk (d : Dev) (hw : keysOk d.keys) : keysOk (Dev.unpowered d).keys := by
  exact keysOk_reset

@[simp] theorem Dev.enterCellar_wf (d : Dev) (cause : Nat) (hw : Mem.wf d.mem = true) : Mem.wf (Dev.enterCellar d cause).mem = true := by
  unfold Dev.enterCellar; simp (maxDischargeDepth := 30) [hw]

@[simp] theorem Dev.enterCellar_keysOk (d : Dev) (cause : Nat) (hw : keysOk d.keys) : keysOk (Dev.enterCellar d cause).keys := by
  unfold Dev.enterCellar; simp (maxDischargeDepth := 30) [hw]

@[simp] theorem Dev.cellarPowerOn_wf (d : Dev) (hw : Mem.wf d.mem = true) : Mem.wf (Dev.cellarPowerOn d).mem = true := by
  unfold Dev.cellarPowerOn; simp (maxDischargeDepth := 30) [hw]

@[simp] theorem Dev.cellarPowerOn_keysOk (d : Dev) (hw : keysOk d.keys) : keysOk (Dev.cellarPowerOn d).keys := by
  unfold Dev.cellarPowerOn; dsimp only; (repeat' split) <;> first | exact hw | (simp; exact keysOk_reset) | exact keysOk_reset

@[simp] theorem Dev.cellarOff_wf (d : Dev) (hw : Mem.wf d.mem = true) : Mem.wf (Dev.cellarOff d).mem = true := by
  unfold Dev.cellarOff; simp (maxDischargeDepth := 30) [hw]

@[simp] theorem Dev.cellarOff_keysOk (d : Dev) (hw : keysOk d.keys) : keysOk (Dev.cellarOff d).keys := by
  unfold Dev.cellarOff; dsimp only; (repeat' split) <;> first | exact hw | (simp; exact keysOk_reset) | exact keysOk_reset

@[simp] theorem Dev.islandPowerOn_wf (d : Dev) (pass : Bool) (hw : Mem.wf d.mem = true) : Mem.wf (Dev.islandPowerOn d pass).mem = true := by
  unfold Dev.islandPowerOn; simp (maxDischargeDepth := 30) [hw]

@[simp] theorem Dev.islandPowerOn_keys (d : Dev) (pass : Bool) : (Dev.islandPowerOn d pass).keys = d.keys := by
  unfold Dev.islandPowerOn; simp

@[simp] theorem Dev.vsysQualified_wf (d : Dev) (hw : Mem.wf d.mem = true) : Mem.wf (Dev.vsysQualified d).mem = true := by
  unfold Dev.vsysQualified; simp (maxDischargeDepth := 30) [hw]

@[simp] theorem Dev.vsysQualified_keysOk (d : Dev) (hw : keysOk d.keys) : keysOk (Dev.vsysQualified d).keys := by
  unfold Dev.vsysQualified; simp (maxDischargeDepth := 30) [hw]

@[simp] theorem Dev.brownOut_wf (d : Dev) (hw : Mem.wf d.mem = true) : Mem.wf (Dev.brownOut d).mem = true := by
  unfold Dev.brownOut; simp (maxDischargeDepth := 30) [hw]

@[simp] theorem Dev.brownOut_keysOk (d : Dev) (hw : keysOk d.keys) : keysOk (Dev.brownOut d).keys := by
  unfold Dev.brownOut; simp (maxDischargeDepth := 30) [hw]

@[simp] theorem Dev.cmdEvent_wf (d : Dev) (c : Nat) (hw : Mem.wf d.mem = true) : Mem.wf (Dev.cmdEvent d c).mem = true := by
  unfold Dev.cmdEvent; simp (maxDischargeDepth := 30) [hw]

@[simp] theorem Dev.cmdEvent_keys (d : Dev) (c : Nat) : (Dev.cmdEvent d c).keys = d.keys := by
  unfold Dev.cmdEvent; simp

@[simp] theorem Dev.arm_wf (d : Dev) (hw : Mem.wf d.mem = true) : Mem.wf (Dev.arm d).mem = true := by
  unfold Dev.arm; simp (maxDischargeDepth := 30) [hw]

@[simp] theorem Dev.arm_keys (d : Dev) : (Dev.arm d).keys = d.keys := by
  unfold Dev.arm; simp

@[simp] theorem Dev.disarm_wf (d : Dev) (hw : Mem.wf d.mem = true) : Mem.wf (Dev.disarm d).mem = true := by
  unfold Dev.disarm; simp (maxDischargeDepth := 30) [hw]

@[simp] theorem Dev.disarm_keys (d : Dev) : (Dev.disarm d).keys = d.keys := by
  unfold Dev.disarm; simp

@[simp] theorem Dev.sleepCmd_wf (d : Dev) (c : Nat) (goal : SeqGoal) (hw : Mem.wf d.mem = true) : Mem.wf (Dev.sleepCmd d c goal).mem = true := by
  unfold Dev.sleepCmd; simp (maxDischargeDepth := 30) [hw]

@[simp] theorem Dev.sleepCmd_keys (d : Dev) (c : Nat) (goal : SeqGoal) : (Dev.sleepCmd d c goal).keys = d.keys := by
  unfold Dev.sleepCmd; simp

@[simp] theorem Dev.leaveSafe_wf (d : Dev) (cause : Nat) (hw : Mem.wf d.mem = true) : Mem.wf (Dev.leaveSafe d cause).mem = true := by
  unfold Dev.leaveSafe; simp (maxDischargeDepth := 30) [hw]

@[simp] theorem Dev.leaveSafe_keysOk (d : Dev) (cause : Nat) (hw : keysOk d.keys) : keysOk (Dev.leaveSafe d cause).keys := by
  unfold Dev.leaveSafe; simp (maxDischargeDepth := 30) [hw]

@[simp] theorem Dev.safeExit_wf (d : Dev) (hw : Mem.wf d.mem = true) : Mem.wf (Dev.safeExit d).mem = true := by
  unfold Dev.safeExit; simp (maxDischargeDepth := 30) [hw]

@[simp] theorem Dev.safeExit_keysOk (d : Dev) (hw : keysOk d.keys) : keysOk (Dev.safeExit d).keys := by
  unfold Dev.safeExit; simp (maxDischargeDepth := 30) [hw]

@[simp] theorem Dev.resetCmd_wf (d : Dev) (hw : Mem.wf d.mem = true) : Mem.wf (Dev.resetCmd d).mem = true := by
  unfold Dev.resetCmd; simp (maxDischargeDepth := 30) [hw]

@[simp] theorem Dev.resetCmd_keysOk (d : Dev) (hw : keysOk d.keys) : keysOk (Dev.resetCmd d).keys := by
  unfold Dev.resetCmd; simp (maxDischargeDepth := 30) [hw]

@[simp] theorem Dev.sysCmd_wf (d : Dev) (w : Word) (hw : Mem.wf d.mem = true) : Mem.wf (Dev.sysCmd d w).mem = true := by
  unfold Dev.sysCmd; simp (maxDischargeDepth := 30) [hw]; (repeat' split) <;> simp (maxDischargeDepth := 30) [hw]

@[simp] theorem Dev.sysCmd_keysOk (d : Dev) (w : Word) (hw : keysOk d.keys) : keysOk (Dev.sysCmd d w).keys := by
  unfold Dev.sysCmd; simp (maxDischargeDepth := 30) [hw]; (repeat' split) <;> simp (maxDischargeDepth := 30) [hw]

@[simp] theorem Dev.quietElapsed_wf (d : Dev) (hw : Mem.wf d.mem = true) : Mem.wf (Dev.quietElapsed d).mem = true := by
  unfold Dev.quietElapsed; simp (maxDischargeDepth := 30) [hw]

@[simp] theorem Dev.quietElapsed_keysOk (d : Dev) (hw : keysOk d.keys) : keysOk (Dev.quietElapsed d).keys := by
  unfold Dev.quietElapsed; simp (maxDischargeDepth := 30) [hw]

@[simp] theorem Dev.resetByReaction_wf (d : Dev) (hw : Mem.wf d.mem = true) : Mem.wf (Dev.resetByReaction d).mem = true := by
  unfold Dev.resetByReaction; simp (maxDischargeDepth := 30) [hw]

@[simp] theorem Dev.resetByReaction_keysOk (d : Dev) (hw : keysOk d.keys) : keysOk (Dev.resetByReaction d).keys := by
  unfold Dev.resetByReaction; simp (maxDischargeDepth := 30) [hw]

@[simp] theorem Dev.reactionCheckDone_wf (d : Dev) (aliveLow : Bool) (faultnLow : Bool) (dischHigh : Bool) (hw : Mem.wf d.mem = true) : Mem.wf (Dev.reactionCheckDone d aliveLow faultnLow dischHigh).mem = true := by
  unfold Dev.reactionCheckDone; simp (maxDischargeDepth := 30) [hw]

@[simp] theorem Dev.reactionCheckDone_keysOk (d : Dev) (aliveLow : Bool) (faultnLow : Bool) (dischHigh : Bool) (hw : keysOk d.keys) : keysOk (Dev.reactionCheckDone d aliveLow faultnLow dischHigh).keys := by
  unfold Dev.reactionCheckDone; simp (maxDischargeDepth := 30) [hw]

@[simp] theorem Dev.enterHibernate_wf (d : Dev) (hw : Mem.wf d.mem = true) : Mem.wf (Dev.enterHibernate d).mem = true := by
  unfold Dev.enterHibernate; simp (maxDischargeDepth := 30) [hw]

@[simp] theorem Dev.enterHibernate_keys (d : Dev) : (Dev.enterHibernate d).keys = d.keys := by
  unfold Dev.enterHibernate; simp

@[simp] theorem Dev.unwindEnd_wf (d : Dev) (hw : Mem.wf d.mem = true) : Mem.wf (Dev.unwindEnd d).mem = true := by
  unfold Dev.unwindEnd; simp (maxDischargeDepth := 30) [hw]

@[simp] theorem Dev.unwindEnd_keysOk (d : Dev) (hw : keysOk d.keys) : keysOk (Dev.unwindEnd d).keys := by
  unfold Dev.unwindEnd; simp (maxDischargeDepth := 30) [hw]

@[simp] theorem Dev.stepEnd_wf (d : Dev) (b : Nat) (l : List (Nat × Word)) (hw : Mem.wf d.mem = true) : Mem.wf (d.stepEnd b l).mem = true := by
  unfold Dev.stepEnd
  split
  · split <;> simp [hw]
  · refine Dev.stepOf_wf _ _ _ hw (fun e w he => ?_)
    dsimp only
    (repeat' split) <;> simp [he]

@[simp] theorem Dev.stepEnd_keysOk (d : Dev) (b : Nat) (l : List (Nat × Word)) (hw : keysOk d.keys) : keysOk (d.stepEnd b l).keys := by
  unfold Dev.stepEnd
  split
  · split <;> simp [hw]
  · refine Dev.stepOf_keysOk _ _ _ hw (fun e w he => ?_)
    dsimp only
    (repeat' split) <;> simp [he]

@[simp] theorem Dev.abortBoot_wf (d : Dev) (hw : Mem.wf d.mem = true) : Mem.wf (Dev.abortBoot d).mem = true := by
  unfold Dev.abortBoot; simp (maxDischargeDepth := 30) [hw]

@[simp] theorem Dev.abortBoot_keys (d : Dev) : (Dev.abortBoot d).keys = d.keys := by
  unfold Dev.abortBoot; simp

@[simp] theorem Dev.offRequest_wf (d : Dev) (hw : Mem.wf d.mem = true) : Mem.wf (Dev.offRequest d).mem = true := by
  unfold Dev.offRequest; dsimp only; (repeat' split) <;> simp (maxDischargeDepth := 30) [hw]

@[simp] theorem Dev.offRequest_keys (d : Dev) : (Dev.offRequest d).keys = d.keys := by
  unfold Dev.offRequest; simp; (repeat' split) <;> simp

@[simp] theorem Dev.clearBeyond_wf (d : Dev) (hw : Mem.wf d.mem = true) : Mem.wf (Dev.clearBeyond d).mem = true := by
  unfold Dev.clearBeyond; simp (maxDischargeDepth := 30) [hw]

@[simp] theorem Dev.clearBeyond_keys (d : Dev) : (Dev.clearBeyond d).keys = d.keys := by
  unfold Dev.clearBeyond; simp

@[simp] theorem Dev.bootRelease_wf (d : Dev) (hw : Mem.wf d.mem = true) : Mem.wf (Dev.bootRelease d).mem = true := by
  unfold Dev.bootRelease; simp (maxDischargeDepth := 30) [hw]

@[simp] theorem Dev.bootRelease_keys (d : Dev) : (Dev.bootRelease d).keys = d.keys := by
  unfold Dev.bootRelease; simp

/-! ## RegWrite -/

@[simp] theorem Dev.eventSet_wf (d : Dev) (m : Master) (k : PageKind) (i : Nat) (w : Word) (hw : Mem.wf d.mem = true) : Mem.wf (Dev.eventSet d m k i w).mem = true := by
  unfold Dev.eventSet; dsimp only; split
  · simp [hw]
  · refine Dev.each_wf _ _ _ (fun e x he => ?_) (by simp [hw])
    split <;> simp [he]

@[simp] theorem Dev.eventSet_keys (d : Dev) (m : Master) (k : PageKind) (i : Nat) (w : Word) : (Dev.eventSet d m k i w).keys = d.keys := by
  unfold Dev.eventSet; dsimp only; split
  · simp
  · rw [Dev.each_keys]
    · simp
    · intro e x; split <;> simp

@[simp] theorem Dev.faultClear_wf (d : Dev) (k : PageKind) (i : Nat) (w : Word) (hw : Mem.wf d.mem = true) : Mem.wf (Dev.faultClear d k i w).mem = true := by
  unfold Dev.faultClear; (try dsimp only); (repeat' split) <;> simp +contextual (maxDischargeDepth := 30) [hw, apply_ite]

@[simp] theorem Dev.faultClear_keys (d : Dev) (k : PageKind) (i : Nat) (w : Word) : (Dev.faultClear d k i w).keys = d.keys := by
  unfold Dev.faultClear; simp; (repeat' split) <;> simp

/-! ## BlockWrite -/

@[simp] theorem Dev.sysWrite_wf (d : Dev) (m : Master) (ofs : Nat) (w : Word) (hw : Mem.wf d.mem = true) : Mem.wf (Dev.sysWrite d m ofs w).mem = true := by
  unfold Dev.sysWrite; dsimp only; (repeat' split) <;> simp (maxDischargeDepth := 30) [hw]

@[simp] theorem Dev.sysWrite_keysOk (d : Dev) (m : Master) (ofs : Nat) (w : Word) (hw : keysOk d.keys) : keysOk (Dev.sysWrite d m ofs w).keys := by
  unfold Dev.sysWrite; dsimp only; (repeat' split) <;> simp (maxDischargeDepth := 30) [hw]

@[simp] theorem Dev.faultWrite_wf (d : Dev) (m : Master) (ofs : Nat) (w : Word) (hw : Mem.wf d.mem = true) : Mem.wf (Dev.faultWrite d m ofs w).mem = true := by
  unfold Dev.faultWrite; simp (maxDischargeDepth := 30) [hw]

@[simp] theorem Dev.faultWrite_keys (d : Dev) (m : Master) (ofs : Nat) (w : Word) : (Dev.faultWrite d m ofs w).keys = d.keys := by
  unfold Dev.faultWrite; simp

@[simp] theorem Dev.debugWrite_wf (d : Dev) (m : Master) (ofs : Nat) (w : Word) (hw : Mem.wf d.mem = true) : Mem.wf (Dev.debugWrite d m ofs w).mem = true := by
  unfold Dev.debugWrite; simp (maxDischargeDepth := 30) [hw]; (repeat' split) <;> simp (maxDischargeDepth := 30) [hw]

@[simp] theorem Dev.debugWrite_keys (d : Dev) (m : Master) (ofs : Nat) (w : Word) : (Dev.debugWrite d m ofs w).keys = d.keys := by
  unfold Dev.debugWrite; simp; (repeat' split) <;> simp

@[simp] theorem Dev.cmpCfgWrite_wf (d : Dev) (m : Master) (n : Nat) (c : Cmp) (w : Word) (hw : Mem.wf d.mem = true) : Mem.wf (Dev.cmpCfgWrite d m n c w).mem = true := by
  unfold Dev.cmpCfgWrite; simp (maxDischargeDepth := 30) [hw]

@[simp] theorem Dev.cmpCfgWrite_keys (d : Dev) (m : Master) (n : Nat) (c : Cmp) (w : Word) : (Dev.cmpCfgWrite d m n c w).keys = d.keys := by
  unfold Dev.cmpCfgWrite; simp

@[simp] theorem Dev.tileWrite_wf (d : Dev) (m : Master) (n : Nat) (ofs : Nat) (w : Word) (hw : Mem.wf d.mem = true) : Mem.wf (Dev.tileWrite d m n ofs w).mem = true := by
  unfold Dev.tileWrite; simp (maxDischargeDepth := 30) [hw]

@[simp] theorem Dev.tileWrite_keys (d : Dev) (m : Master) (n : Nat) (ofs : Nat) (w : Word) : (Dev.tileWrite d m n ofs w).keys = d.keys := by
  unfold Dev.tileWrite; simp

@[simp] theorem Dev.chgWrite_wf (d : Dev) (m : Master) (ofs : Nat) (w : Word) (hw : Mem.wf d.mem = true) : Mem.wf (Dev.chgWrite d m ofs w).mem = true := by
  unfold Dev.chgWrite; simp (maxDischargeDepth := 30) [hw]

@[simp] theorem Dev.chgWrite_keys (d : Dev) (m : Master) (ofs : Nat) (w : Word) : (Dev.chgWrite d m ofs w).keys = d.keys := by
  unfold Dev.chgWrite; simp

@[simp] theorem Dev.intcWrite_wf (d : Dev) (m : Master) (i : Nat) (ofs : Nat) (w : Word) (hw : Mem.wf d.mem = true) : Mem.wf (Dev.intcWrite d m i ofs w).mem = true := by
  unfold Dev.intcWrite; simp (maxDischargeDepth := 30) [hw]

@[simp] theorem Dev.intcWrite_keys (d : Dev) (m : Master) (i : Nat) (ofs : Nat) (w : Word) : (Dev.intcWrite d m i ofs w).keys = d.keys := by
  unfold Dev.intcWrite; simp

@[simp] theorem Dev.checkWrite_wf (d : Dev) (m : Master) (n : Nat) (ofs : Nat) (w : Word) (hw : Mem.wf d.mem = true) : Mem.wf (Dev.checkWrite d m n ofs w).mem = true := by
  unfold Dev.checkWrite; simp (maxDischargeDepth := 30) [hw]

@[simp] theorem Dev.checkWrite_keys (d : Dev) (m : Master) (n : Nat) (ofs : Nat) (w : Word) : (Dev.checkWrite d m n ofs w).keys = d.keys := by
  unfold Dev.checkWrite; simp

@[simp] theorem Dev.netWrite_wf (d : Dev) (m : Master) (c : Net) (ofs : Nat) (w : Word) (started : Nat) (hw : Mem.wf d.mem = true) : Mem.wf (Dev.netWrite d m c ofs w started).mem = true := by
  unfold Dev.netWrite; (repeat' split) <;> simp +contextual (maxDischargeDepth := 30) [hw]

@[simp] theorem Dev.netWrite_keys (d : Dev) (m : Master) (c : Net) (ofs : Nat) (w : Word) (started : Nat) : (Dev.netWrite d m c ofs w started).keys = d.keys := by
  unfold Dev.netWrite; (repeat' split) <;> (try dsimp only) <;> simp

@[simp] theorem Dev.blockWrite_wf (d : Dev) (m : Master) (k : PageKind) (i : Nat) (ofs : Nat) (w : Word) (f : WriteFacts) (hw : Mem.wf d.mem = true) : Mem.wf (Dev.blockWrite d m k i ofs w f).mem = true := by
  unfold Dev.blockWrite; (repeat' split) <;> simp +contextual (maxDischargeDepth := 30) [hw]

@[simp] theorem Dev.blockWrite_keysOk (d : Dev) (m : Master) (k : PageKind) (i : Nat) (ofs : Nat) (w : Word) (f : WriteFacts) (hw : keysOk d.keys) : keysOk (Dev.blockWrite d m k i ofs w f).keys := by
  unfold Dev.blockWrite; (repeat' split) <;> simp +contextual (maxDischargeDepth := 30) [hw]

/-! ## Bus -/

@[simp] theorem Dev.enableWrite_wf (d : Dev) (m : Master) (k : PageKind) (i : Nat) (on : Bool) (fl : List EntryFlaw) (hw : Mem.wf d.mem = true) : Mem.wf (Dev.enableWrite d m k i on fl).mem = true := by
  unfold Dev.enableWrite; dsimp only; (repeat' split) <;> simp (maxDischargeDepth := 30) [hw]

@[simp] theorem Dev.enableWrite_keys (d : Dev) (m : Master) (k : PageKind) (i : Nat) (on : Bool) (fl : List EntryFlaw) : (Dev.enableWrite d m k i on fl).keys = d.keys := by
  unfold Dev.enableWrite; simp; (repeat' split) <;> simp

@[simp] theorem Dev.ctrlWrite_wf (d : Dev) (m : Master) (k : PageKind) (i : Nat) (w : Word) (fl : List EntryFlaw) (hw : Mem.wf d.mem = true) : Mem.wf (Dev.ctrlWrite d m k i w fl).mem = true := by
  unfold Dev.ctrlWrite; dsimp only; (repeat' split) <;> simp (maxDischargeDepth := 30) [hw]

@[simp] theorem Dev.ctrlWrite_keys (d : Dev) (m : Master) (k : PageKind) (i : Nat) (w : Word) (fl : List EntryFlaw) : (Dev.ctrlWrite d m k i w fl).keys = d.keys := by
  unfold Dev.ctrlWrite; simp; (repeat' split) <;> simp

@[simp] theorem Dev.headerWrite_wf (d : Dev) (m : Master) (k : PageKind) (i : Nat) (ofs : Nat) (w : Word) (f : WriteFacts) (hw : Mem.wf d.mem = true) : Mem.wf (Dev.headerWrite d m k i ofs w f).mem = true := by
  unfold Dev.headerWrite; simp (maxDischargeDepth := 30) [hw]

@[simp] theorem Dev.headerWrite_keysOk (d : Dev) (m : Master) (k : PageKind) (i : Nat) (ofs : Nat) (w : Word) (f : WriteFacts) (hw : keysOk d.keys) : keysOk (Dev.headerWrite d m k i ofs w f).keys := by
  unfold Dev.headerWrite; simp (maxDischargeDepth := 30) [hw]

@[simp] theorem Dev.regWrite_wf (d : Dev) (m : Master) (k : PageKind) (i : Nat) (ofs : Nat) (w : Word) (f : WriteFacts) (hw : Mem.wf d.mem = true) : Mem.wf (Dev.regWrite d m k i ofs w f).mem = true := by
  unfold Dev.regWrite; dsimp only; (repeat' split) <;> simp (maxDischargeDepth := 30) [hw]

@[simp] theorem Dev.regWrite_keysOk (d : Dev) (m : Master) (k : PageKind) (i : Nat) (ofs : Nat) (w : Word) (f : WriteFacts) (hw : keysOk d.keys) : keysOk (Dev.regWrite d m k i ofs w f).keys := by
  unfold Dev.regWrite; dsimp only; (repeat' split) <;> simp (maxDischargeDepth := 30) [hw]

@[simp] theorem Dev.pageWrite_wf (d : Dev) (m : Master) (a : Nat) (w : Word) (f : WriteFacts) (hw : Mem.wf d.mem = true) : Mem.wf (Dev.pageWrite d m a w f).mem = true := by
  unfold Dev.pageWrite; dsimp only; (repeat' split) <;> simp (maxDischargeDepth := 30) [hw]

@[simp] theorem Dev.pageWrite_keysOk (d : Dev) (m : Master) (a : Nat) (w : Word) (f : WriteFacts) (hw : keysOk d.keys) : keysOk (Dev.pageWrite d m a w f).keys := by
  unfold Dev.pageWrite; dsimp only; (repeat' split) <;> simp (maxDischargeDepth := 30) [hw]

@[simp] theorem Dev.entryStore_wf (d : Dev) (m : Master) (a : Nat) (w : Word) (hw : Mem.wf d.mem = true) : Mem.wf (Dev.entryStore d m a w).mem = true := by
  unfold Dev.entryStore; simp (maxDischargeDepth := 30) [hw]

@[simp] theorem Dev.entryStore_keys (d : Dev) (m : Master) (a : Nat) (w : Word) : (Dev.entryStore d m a w).keys = d.keys := by
  unfold Dev.entryStore; simp

@[simp] theorem Dev.memStore_wf (d : Dev) (m : Master) (a : Nat) (w : Word) (hw : Mem.wf d.mem = true) : Mem.wf (Dev.memStore d m a w).mem = true := by
  unfold Dev.memStore; simp (maxDischargeDepth := 30) [hw]

@[simp] theorem Dev.memStore_keys (d : Dev) (m : Master) (a : Nat) (w : Word) : (Dev.memStore d m a w).keys = d.keys := by
  unfold Dev.memStore; simp

@[simp] theorem Dev.busWrite_wf (d : Dev) (m : Master) (a : Nat) (w : Word) (f : WriteFacts) (hw : Mem.wf d.mem = true) : Mem.wf (Dev.busWrite d m a w f).mem = true := by
  unfold Dev.busWrite; simp (maxDischargeDepth := 30) [hw]

@[simp] theorem Dev.busWrite_keysOk (d : Dev) (m : Master) (a : Nat) (w : Word) (f : WriteFacts) (hw : keysOk d.keys) : keysOk (Dev.busWrite d m a w f).keys := by
  unfold Dev.busWrite; simp (maxDischargeDepth := 30) [hw]

@[simp] theorem Dev.portWrite_wf (d : Dev) (m : Master) (k : PageKind) (i : Nat) (ofs : Nat) (w : Word) (f : WriteFacts) (hw : Mem.wf d.mem = true) : Mem.wf (Dev.portWrite d m k i ofs w f).mem = true := by
  unfold Dev.portWrite; simp (maxDischargeDepth := 30) [hw]

@[simp] theorem Dev.portWrite_keysOk (d : Dev) (m : Master) (k : PageKind) (i : Nat) (ofs : Nat) (w : Word) (f : WriteFacts) (hw : keysOk d.keys) : keysOk (Dev.portWrite d m k i ofs w f).keys := by
  unfold Dev.portWrite; simp (maxDischargeDepth := 30) [hw]

@[simp] theorem Dev.busStore_wf (d : Dev) (m : Master) (a : Nat) (n : Nat) (w : Word) (flaw : Flaw) (bit : Nat) (hw : Mem.wf d.mem = true) : Mem.wf (Dev.busStore d m a n w flaw bit).mem = true := by
  unfold Dev.busStore; simp (maxDischargeDepth := 30) [hw]

@[simp] theorem Dev.busStore_keysOk (d : Dev) (m : Master) (a : Nat) (n : Nat) (w : Word) (flaw : Flaw) (bit : Nat) (hw : keysOk d.keys) : keysOk (Dev.busStore d m a n w flaw bit).keys := by
  unfold Dev.busStore; simp (maxDischargeDepth := 30) [hw]

@[simp] theorem Dev.entryRead_wf (d : Dev) (m : Master) (a : Nat) (flaw : Flaw) (hw : Mem.wf d.mem = true) : Mem.wf (Dev.entryRead d m a flaw).mem = true := by
  unfold Dev.entryRead; dsimp only; (repeat' split) <;> simp (maxDischargeDepth := 30) [hw]

@[simp] theorem Dev.entryRead_keys (d : Dev) (m : Master) (a : Nat) (flaw : Flaw) : (Dev.entryRead d m a flaw).keys = d.keys := by
  unfold Dev.entryRead; simp; (repeat' split) <;> simp

@[simp] theorem Dev.busRead_wf (d : Dev) (m : Master) (a : Nat) (flaw : Flaw) (bit : Nat) (hw : Mem.wf d.mem = true) : Mem.wf (Dev.busRead d m a flaw bit).mem = true := by
  unfold Dev.busRead; dsimp only; (repeat' split) <;> simp (maxDischargeDepth := 30) [hw]

@[simp] theorem Dev.busRead_keys (d : Dev) (m : Master) (a : Nat) (flaw : Flaw) (bit : Nat) : (Dev.busRead d m a flaw bit).keys = d.keys := by
  unfold Dev.busRead; simp; (repeat' split) <;> simp

/-! ## Host -/

@[simp] theorem Dev.frameCrcError_wf (d : Dev) (r : Req) (boot : Bool) (hw : Mem.wf d.mem = true) : Mem.wf (Dev.frameCrcError d r boot).mem = true := by
  unfold Dev.frameCrcError; simp (maxDischargeDepth := 30) [hw]

@[simp] theorem Dev.frameCrcError_keys (d : Dev) (r : Req) (boot : Bool) : (Dev.frameCrcError d r boot).keys = d.keys := by
  unfold Dev.frameCrcError; simp

@[simp] theorem Dev.hostWords_wf (d : Dev) (n a : Nat) (hw : Mem.wf d.mem = true) : Mem.wf (d.hostWords n a).1.mem = true := by
  induction n generalizing d a with
  | zero => exact hw
  | succ n ih =>
    unfold Dev.hostWords; dsimp only; split
    · exact ih _ _ (Dev.busRead_wf _ _ _ _ _ hw)
    · exact Dev.busRead_wf _ _ _ _ _ hw

@[simp] theorem Dev.hostWords_keys (d : Dev) (n a : Nat) : (d.hostWords n a).1.keys = d.keys := by
  induction n generalizing d a with
  | zero => rfl
  | succ n ih =>
    unfold Dev.hostWords; dsimp only; split
    · rw [ih]; simp
    · simp

@[simp] theorem Dev.hostStores_wf (d : Dev) (l : List Word) (a : Nat) (hw : Mem.wf d.mem = true) :
    Mem.wf (d.hostStores l a).1.mem = true := by
  induction l generalizing d a with
  | nil => exact hw
  | cons w l ih =>
    unfold Dev.hostStores; dsimp only; split
    · exact ih _ _ (Dev.busWrite_wf _ _ _ _ _ hw)
    · exact Dev.busWrite_wf _ _ _ _ _ hw

@[simp] theorem Dev.hostStores_keysOk (d : Dev) (l : List Word) (a : Nat) (hw : keysOk d.keys) :
    keysOk (d.hostStores l a).1.keys := by
  induction l generalizing d a with
  | nil => exact hw
  | cons w l ih =>
    unfold Dev.hostStores; dsimp only; split
    · exact ih _ _ (Dev.busWrite_keysOk _ _ _ _ _ hw)
    · exact Dev.busWrite_keysOk _ _ _ _ _ hw

@[simp] theorem Dev.hostRead_wf (d : Dev) (r : Req) (a : Nat) (hw : Mem.wf d.mem = true) : Mem.wf (Dev.hostRead d r a).mem = true := by
  unfold Dev.hostRead; simp (maxDischargeDepth := 30) [hw]

@[simp] theorem Dev.hostRead_keys (d : Dev) (r : Req) (a : Nat) : (Dev.hostRead d r a).keys = d.keys := by
  unfold Dev.hostRead; simp

@[simp] theorem Dev.hostWrite_wf (d : Dev) (r : Req) (a : Nat) (l : List Word) (hw : Mem.wf d.mem = true) : Mem.wf (Dev.hostWrite d r a l).mem = true := by
  unfold Dev.hostWrite; simp (maxDischargeDepth := 30) [hw]

@[simp] theorem Dev.hostWrite_keysOk (d : Dev) (r : Req) (a : Nat) (l : List Word) (hw : keysOk d.keys) : keysOk (Dev.hostWrite d r a l).keys := by
  unfold Dev.hostWrite; simp (maxDischargeDepth := 30) [hw]

theorem Dev.bootVia_wf (d : Dev) (r : Req) (f : Dev → Dev × Nat) (hw : Mem.wf d.mem = true)
    (hf : Mem.wf (f d).1.mem = true) : Mem.wf (d.bootVia r f).mem = true := by
  unfold Dev.bootVia; split <;> simp [hw, hf]

@[simp] theorem Dev.hostChallenge_wf (d : Dev) (r : Req) (healthy : Bool) (hw : Mem.wf d.mem = true) : Mem.wf (Dev.hostChallenge d r healthy).mem = true := by
  unfold Dev.hostChallenge; simp (maxDischargeDepth := 30) [hw]

@[simp] theorem Dev.hostChallenge_keys (d : Dev) (r : Req) (healthy : Bool) : (Dev.hostChallenge d r healthy).keys = d.keys := by
  unfold Dev.hostChallenge; simp

@[simp] theorem Dev.hostResponse_wf (d : Dev) (r : Req) (mac : List Nat) (hw : Mem.wf d.mem = true) : Mem.wf (Dev.hostResponse d r mac).mem = true := by
  unfold Dev.hostResponse; simp (maxDischargeDepth := 30) [hw]

@[simp] theorem Dev.hostResponse_keys (d : Dev) (r : Req) (mac : List Nat) : (Dev.hostResponse d r mac).keys = d.keys := by
  unfold Dev.hostResponse; simp

@[simp] theorem Dev.frameServe_wf (d : Dev) (r : Req) (a : Nat) (body : List Nat) (hw : Mem.wf d.mem = true) :
    Mem.wf (d.frameServe r a body).mem = true := by
  have hv : ∀ (f : Dev → Dev × Nat), Mem.wf (f d).1.mem = true → Mem.wf (d.bootVia r f).mem = true :=
    fun f h => Dev.bootVia_wf d r f hw h
  unfold Dev.frameServe
  split; · simpa using hw
  split; · exact hv _ (Dev.bootHeader_wf _ _ hw)
  split; · exact hv _ (Dev.bootSegment_wf _ _ _ hw)
  split; · exact hv _ (Dev.bootColophon_wf _ _ hw)
  split; · exact Dev.hostRead_wf _ _ _ hw
  split; · exact Dev.hostWrite_wf _ _ _ _ hw
  split; · exact Dev.hostChallenge_wf _ _ _ hw
  split; · exact Dev.hostResponse_wf _ _ _ hw
  simpa using hw

@[simp] theorem Dev.frameServe_keysOk (d : Dev) (r : Req) (a : Nat) (body : List Nat) (hw : keysOk d.keys) :
    keysOk (d.frameServe r a body).keys := by
  unfold Dev.frameServe
  (repeat' split) <;> simp [hw]

@[simp] theorem Dev.frameRun_wf (d : Dev) (way : Way) (l : List Nat) (hw : Mem.wf d.mem = true) : Mem.wf (Dev.frameRun d way l).mem = true := by
  unfold Dev.frameRun; simp (maxDischargeDepth := 30) [hw]

@[simp] theorem Dev.frameRun_keysOk (d : Dev) (way : Way) (l : List Nat) (hw : keysOk d.keys) : keysOk (Dev.frameRun d way l).keys := by
  unfold Dev.frameRun; simp (maxDischargeDepth := 30) [hw]

@[simp] theorem Dev.fragDiscard_wf (d : Dev) (way : Way) (hw : Mem.wf d.mem = true) : Mem.wf (Dev.fragDiscard d way).mem = true := by
  unfold Dev.fragDiscard; (repeat' split) <;> simp +contextual (maxDischargeDepth := 30) [hw]

@[simp] theorem Dev.fragDiscard_keys (d : Dev) (way : Way) : (Dev.fragDiscard d way).keys = d.keys := by
  unfold Dev.fragDiscard; (repeat' split) <;> (try dsimp only); simp

@[simp] theorem Dev.fragJoin_wf (d : Dev) (way : Way) (l : List Nat) (next : Nat) (last : Bool) (hw : Mem.wf d.mem = true) : Mem.wf (Dev.fragJoin d way l next last).mem = true := by
  unfold Dev.fragJoin; (repeat' split) <;> simp +contextual (maxDischargeDepth := 30) [hw]

@[simp] theorem Dev.fragJoin_keysOk (d : Dev) (way : Way) (l : List Nat) (next : Nat) (last : Bool) (hw : keysOk d.keys) : keysOk (Dev.fragJoin d way l next last).keys := by
  unfold Dev.fragJoin; (repeat' split) <;> simp +contextual (maxDischargeDepth := 30) [hw]

@[simp] theorem Dev.bootFragment_wf (d : Dev) (way : Way) (first : Bool) (last : Bool) (count : Nat) (l : List Nat) (hw : Mem.wf d.mem = true) : Mem.wf (Dev.bootFragment d way first last count l).mem = true := by
  unfold Dev.bootFragment; dsimp only; (repeat' split) <;> simp (maxDischargeDepth := 30) [hw]

@[simp] theorem Dev.bootFragment_keysOk (d : Dev) (way : Way) (first : Bool) (last : Bool) (count : Nat) (l : List Nat) (hw : keysOk d.keys) : keysOk (Dev.bootFragment d way first last count l).keys := by
  unfold Dev.bootFragment; dsimp only; (repeat' split) <;> simp (maxDischargeDepth := 30) [hw]

@[simp] theorem Dev.fragmentGap_wf (d : Dev) (hw : Mem.wf d.mem = true) : Mem.wf (Dev.fragmentGap d).mem = true := by
  unfold Dev.fragmentGap; simp (maxDischargeDepth := 30) [hw]

@[simp] theorem Dev.fragmentGap_keys (d : Dev) : (Dev.fragmentGap d).keys = d.keys := by
  unfold Dev.fragmentGap; simp

/-! ## GalleyFire -/

@[simp] theorem Dev.fireRegWrite_wf (d : Dev) (i : Nat) (op : Nat) (hw : Mem.wf d.mem = true) : Mem.wf (Dev.fireRegWrite d i op).1.mem = true := by
  unfold Dev.fireRegWrite; dsimp only; (repeat' split) <;> simp (maxDischargeDepth := 30) [hw]

@[simp] theorem Dev.fireRegWrite_keysOk (d : Dev) (i : Nat) (op : Nat) (hw : keysOk d.keys) : keysOk (Dev.fireRegWrite d i op).1.keys := by
  unfold Dev.fireRegWrite; dsimp only; (repeat' split) <;> simp (maxDischargeDepth := 30) [hw]

@[simp] theorem Dev.fireAct_wf (d : Dev) (a : Act) (hw : Mem.wf d.mem = true) : Mem.wf (Dev.fireAct d a).1.mem = true := by
  unfold Dev.fireAct; simp (maxDischargeDepth := 30) [hw]

@[simp] theorem Dev.fireAct_keysOk (d : Dev) (a : Act) (hw : keysOk d.keys) : keysOk (Dev.fireAct d a).1.keys := by
  unfold Dev.fireAct; simp (maxDischargeDepth := 30) [hw]

@[simp] theorem Dev.fireCount_wf (d : Dev) (a : Act) (hw : Mem.wf d.mem = true) : Mem.wf (d.fireCount a).mem = true := by
  have h := Dev.fireAct_wf d a hw
  unfold Dev.fireCount; dsimp only
  split <;> rename_i he <;> rw [he] at h <;> simpa using h

@[simp] theorem Dev.fireCount_keysOk (d : Dev) (a : Act) (hw : keysOk d.keys) : keysOk (d.fireCount a).keys := by
  have h := Dev.fireAct_keysOk d a hw
  unfold Dev.fireCount; dsimp only
  split <;> rename_i he <;> rw [he] at h <;> simpa using h

@[simp] theorem Dev.fireList_wf (d : Dev) (l : List Act) (hw : Mem.wf d.mem = true) : Mem.wf (d.fireList l).mem = true := by
  induction l generalizing d with
  | nil => exact hw
  | cons a l ih => exact ih _ (Dev.fireCount_wf _ _ hw)

@[simp] theorem Dev.fireList_keysOk (d : Dev) (l : List Act) (hw : keysOk d.keys) : keysOk (d.fireList l).keys := by
  induction l generalizing d with
  | nil => exact hw
  | cons a l ih => exact ih _ (Dev.fireCount_keysOk _ _ hw)

@[simp] theorem Dev.deferList_wf (d : Dev) (l : List Act) (was : Nat) (hw : Mem.wf d.mem = true) :
    Mem.wf (d.deferList l was).mem = true := by
  induction l generalizing d was with
  | nil => exact hw
  | cons a l ih => unfold Dev.deferList; dsimp only; split <;> (apply ih; simp [hw])

@[simp] theorem Dev.deferList_keys (d : Dev) (l : List Act) (was : Nat) : (d.deferList l was).keys = d.keys := by
  induction l generalizing d was with
  | nil => rfl
  | cons a l ih => unfold Dev.deferList; dsimp only; split <;> (rw [ih]; simp)

@[simp] theorem Dev.galleySlot_wf (d : Dev) (hw : Mem.wf d.mem = true) : Mem.wf (Dev.galleySlot d).mem = true := by
  unfold Dev.galleySlot; dsimp only; (repeat' split) <;> first | exact hw | (apply Dev.fireList_wf; simp [hw])

@[simp] theorem Dev.galleySlot_keysOk (d : Dev) (hw : keysOk d.keys) : keysOk (Dev.galleySlot d).keys := by
  unfold Dev.galleySlot; dsimp only; (repeat' split) <;> first | exact hw | (apply Dev.fireList_keysOk; simp [hw])

/-! ## CoreExec -/

@[simp] theorem Dev.fetchHalf_wf (d : Dev) (i : Nat) (a : Nat) (flaw : Flaw) (bit : Nat) (hw : Mem.wf d.mem = true) : Mem.wf (Dev.fetchHalf d i a flaw bit).1.mem = true := by
  unfold Dev.fetchHalf; simp (maxDischargeDepth := 30) [hw]

@[simp] theorem Dev.fetchHalf_keys (d : Dev) (i : Nat) (a : Nat) (flaw : Flaw) (bit : Nat) : (Dev.fetchHalf d i a flaw bit).1.keys = d.keys := by
  unfold Dev.fetchHalf; simp

@[simp] theorem Dev.busLoad_wf (d : Dev) (m : Master) (a : Nat) (n : Nat) (flaw : Flaw) (bit : Nat) (hw : Mem.wf d.mem = true) : Mem.wf (Dev.busLoad d m a n flaw bit).mem = true := by
  unfold Dev.busLoad; dsimp only; (repeat' split) <;> simp (maxDischargeDepth := 30) [hw]

@[simp] theorem Dev.busLoad_keys (d : Dev) (m : Master) (a : Nat) (n : Nat) (flaw : Flaw) (bit : Nat) : (Dev.busLoad d m a n flaw bit).keys = d.keys := by
  unfold Dev.busLoad; simp; (repeat' split) <;> simp

@[simp] theorem Dev.coreLoad_wf (d : Dev) (i : Nat) (a : Nat) (n : Nat) (pc : Word) (flaw : Flaw) (bit : Nat) (put : CoreS → Word → CoreS) (hw : Mem.wf d.mem = true) : Mem.wf (Dev.coreLoad d i a n pc flaw bit put).mem = true := by
  unfold Dev.coreLoad; dsimp only; (repeat' split) <;> simp (maxDischargeDepth := 30) [hw]

@[simp] theorem Dev.coreLoad_keys (d : Dev) (i : Nat) (a : Nat) (n : Nat) (pc : Word) (flaw : Flaw) (bit : Nat) (put : CoreS → Word → CoreS) : (Dev.coreLoad d i a n pc flaw bit put).keys = d.keys := by
  unfold Dev.coreLoad; simp; (repeat' split) <;> simp

@[simp] theorem Dev.coreStore_wf (d : Dev) (i : Nat) (a : Nat) (n : Nat) (v : Word) (pc : Word) (flaw : Flaw) (bit : Nat) (hw : Mem.wf d.mem = true) : Mem.wf (Dev.coreStore d i a n v pc flaw bit).mem = true := by
  unfold Dev.coreStore; dsimp only; (repeat' split) <;> simp (maxDischargeDepth := 30) [hw]

@[simp] theorem Dev.coreStore_keysOk (d : Dev) (i : Nat) (a : Nat) (n : Nat) (v : Word) (pc : Word) (flaw : Flaw) (bit : Nat) (hw : keysOk d.keys) : keysOk (Dev.coreStore d i a n v pc flaw bit).keys := by
  unfold Dev.coreStore; dsimp only; (repeat' split) <;> simp (maxDischargeDepth := 30) [hw]

@[simp] theorem Dev.execRv_wf (d : Dev) (i : Nat) (ins : Rv) (raw : Nat) (pc' : Word) (flaw : Flaw) (bit : Nat) (hw : Mem.wf d.mem = true) : Mem.wf (Dev.execRv d i ins raw pc' flaw bit).mem = true := by
  unfold Dev.execRv; dsimp only; (repeat' split) <;> simp (maxDischargeDepth := 30) [hw]

@[simp] theorem Dev.execRv_keysOk (d : Dev) (i : Nat) (ins : Rv) (raw : Nat) (pc' : Word) (flaw : Flaw) (bit : Nat) (hw : keysOk d.keys) : keysOk (Dev.execRv d i ins raw pc' flaw bit).keys := by
  unfold Dev.execRv; dsimp only; (repeat' split) <;> simp (maxDischargeDepth := 30) [hw]

@[simp] theorem Dev.fetch_wf (d : Dev) (i : Nat) (flaw : Flaw) (bit : Nat) (hw : Mem.wf d.mem = true) :
    Mem.wf (d.fetch i flaw bit).1.mem = true := by
  unfold Dev.fetch; dsimp only
  have h1 := Dev.fetchHalf_wf d i (d.coreS i).pc.toNat flaw bit hw
  split <;> rename_i he <;> rw [he] at h1
  · exact h1
  · split
    · exact h1
    · split <;> rename_i hf <;> have h2 := congrArg (fun x => Mem.wf x.1.mem) hf <;> simp only [] at h2 <;>
        rw [Dev.fetchHalf_wf _ _ _ _ _ h1] at h2
      · exact h2.symm
      · dsimp only; split
        · exact h1
        · exact h2.symm

@[simp] theorem Dev.fetch_keys (d : Dev) (i : Nat) (flaw : Flaw) (bit : Nat) : (d.fetch i flaw bit).1.keys = d.keys := by
  unfold Dev.fetch; dsimp only
  have h1 := Dev.fetchHalf_keys d i (d.coreS i).pc.toNat flaw bit
  split <;> rename_i he <;> rw [he] at h1
  · exact h1
  · split
    · exact h1
    · split <;> rename_i hf <;> have h2 := congrArg (fun x => x.1.keys) hf <;> simp only [] at h2 <;> rw [Dev.fetchHalf_keys] at h2
      · exact h2.symm.trans h1
      · dsimp only; split
        · exact h1
        · exact h2.symm.trans h1

@[simp] theorem Dev.coreInstruction_wf (d : Dev) (i : Nat) (ff df : Flaw) (bit : Nat) (hw : Mem.wf d.mem = true) :
    Mem.wf (d.coreInstruction i ff df bit).mem = true := by
  unfold Dev.coreInstruction; dsimp only
  have h1 := Dev.fetch_wf { d with bus := .none } i ff bit hw
  split
  · have h3 := Dev.fetchHalf_wf { d with bus := .none } i (d.coreS i).pc.toNat .clean 0 hw
    split <;> rename_i he <;> rw [he] at h3 <;> simp at h3 <;> simp [h3, hw]
  · split <;> rename_i he <;> rw [he] at h1 <;> simp at h1 <;> simp [h1]

@[simp] theorem Dev.coreInstruction_keysOk (d : Dev) (i : Nat) (ff df : Flaw) (bit : Nat) (hw : keysOk d.keys) :
    keysOk (d.coreInstruction i ff df bit).keys := by
  unfold Dev.coreInstruction; dsimp only
  have h1 : keysOk (Dev.fetch { d with bus := .none } i ff bit).1.keys := by rw [Dev.fetch_keys]; exact hw
  split
  · have h3 : keysOk (Dev.fetchHalf { d with bus := .none } i (d.coreS i).pc.toNat .clean 0).1.keys := by
      rw [Dev.fetchHalf_keys]; exact hw
    split <;> rename_i he <;> rw [he] at h3 <;> simp at h3 <;> simp [h3, hw]
  · split <;> rename_i he <;> rw [he] at h1 <;> simp at h1 <;> simp [h1]

@[simp] theorem Dev.corePair_wf (d : Dev) (i : Nat) (ff : Flaw) (df : Flaw) (bit : Nat) (hw : Mem.wf d.mem = true) : Mem.wf (Dev.corePair d i ff df bit).mem = true := by
  unfold Dev.corePair; simp (maxDischargeDepth := 30) [hw]

@[simp] theorem Dev.corePair_keysOk (d : Dev) (i : Nat) (ff : Flaw) (df : Flaw) (bit : Nat) (hw : keysOk d.keys) : keysOk (Dev.corePair d i ff df bit).keys := by
  unfold Dev.corePair; simp (maxDischargeDepth := 30) [hw]

@[simp] theorem Dev.pairWfi_wf (d : Dev) (i : Nat) (hw : Mem.wf d.mem = true) : Mem.wf (Dev.pairWfi d i).mem = true := by
  unfold Dev.pairWfi; simp (maxDischargeDepth := 30) [hw]; (repeat' split) <;> simp (maxDischargeDepth := 30) [hw]

@[simp] theorem Dev.pairWfi_keysOk (d : Dev) (i : Nat) (hw : keysOk d.keys) : keysOk (Dev.pairWfi d i).keys := by
  unfold Dev.pairWfi; simp (maxDischargeDepth := 30) [hw]; (repeat' split) <;> simp (maxDischargeDepth := 30) [hw]

@[simp] theorem Dev.pairStep_wf (d : Dev) (m : Master) (i : Nat) (ff : Flaw) (df : Flaw) (bit : Nat) (hw : Mem.wf d.mem = true) : Mem.wf (Dev.pairStep d m i ff df bit).mem = true := by
  unfold Dev.pairStep; simp (maxDischargeDepth := 30) [hw]

@[simp] theorem Dev.pairStep_keysOk (d : Dev) (m : Master) (i : Nat) (ff : Flaw) (df : Flaw) (bit : Nat) (hw : keysOk d.keys) : keysOk (Dev.pairStep d m i ff df bit).keys := by
  unfold Dev.pairStep; simp (maxDischargeDepth := 30) [hw]

/-! ## Access -/

@[simp] theorem Dev.whenLive_wf (d : Dev) (f : Dev → Dev) (hw : Mem.wf d.mem = true) (hf : Mem.wf (f d).mem = true) :
    Mem.wf (d.whenLive f).mem = true := by
  unfold Dev.whenLive; split <;> assumption

@[simp] theorem Dev.whenLive_keysOk (d : Dev) (f : Dev → Dev) (hw : keysOk d.keys) (hf : keysOk (f d).keys) :
    keysOk (d.whenLive f).keys := by
  unfold Dev.whenLive; split <;> assumption

@[simp] theorem Dev.whenIsland_wf (d : Dev) (f : Dev → Dev) (hw : Mem.wf d.mem = true) (hf : Mem.wf (f d).mem = true) :
    Mem.wf (d.whenIsland f).mem = true := by
  unfold Dev.whenIsland; split <;> assumption

@[simp] theorem Dev.whenIsland_keysOk (d : Dev) (f : Dev → Dev) (hw : keysOk d.keys) (hf : keysOk (f d).keys) :
    keysOk (d.whenIsland f).keys := by
  unfold Dev.whenIsland; split <;> assumption

@[simp] theorem Dev.masterWrite_wf (d : Dev) (m : Master) (a : Nat) (w : Word) (f : WriteFacts) (ff : Flaw) (df : Flaw) (bit : Nat) (hw : Mem.wf d.mem = true) : Mem.wf (Dev.masterWrite d m a w f ff df bit).mem = true := by
  unfold Dev.masterWrite; simp (maxDischargeDepth := 30) [hw]

@[simp] theorem Dev.masterWrite_keysOk (d : Dev) (m : Master) (a : Nat) (w : Word) (f : WriteFacts) (ff : Flaw) (df : Flaw) (bit : Nat) (hw : keysOk d.keys) : keysOk (Dev.masterWrite d m a w f ff df bit).keys := by
  unfold Dev.masterWrite; simp (maxDischargeDepth := 30) [hw]

@[simp] theorem Dev.masterRead_wf (d : Dev) (m : Master) (a : Nat) (flaw : Flaw) (bit : Nat) (hw : Mem.wf d.mem = true) : Mem.wf (Dev.masterRead d m a flaw bit).mem = true := by
  unfold Dev.masterRead; simp (maxDischargeDepth := 30) [hw]

@[simp] theorem Dev.masterRead_keys (d : Dev) (m : Master) (a : Nat) (flaw : Flaw) (bit : Nat) : (Dev.masterRead d m a flaw bit).keys = d.keys := by
  unfold Dev.masterRead; simp

@[simp] theorem Dev.cellarNow_wf (d : Dev) (m : Master) (k : PageKind) (ofs : Nat) (w : Word) (ticks : Nat) (hw : Mem.wf d.mem = true) : Mem.wf (Dev.cellarNow d m k ofs w ticks).mem = true := by
  unfold Dev.cellarNow; simp (maxDischargeDepth := 30) [hw]

@[simp] theorem Dev.cellarNow_keysOk (d : Dev) (m : Master) (k : PageKind) (ofs : Nat) (w : Word) (ticks : Nat) (hw : keysOk d.keys) : keysOk (Dev.cellarNow d m k ofs w ticks).keys := by
  unfold Dev.cellarNow; simp (maxDischargeDepth := 30) [hw]

@[simp] theorem Dev.secRead_wf (d : Dev) (m : Master) (sub : Nat) (hw : Mem.wf d.mem = true) : Mem.wf (Dev.secRead d m sub).mem = true := by
  unfold Dev.secRead; dsimp only; (repeat' split) <;> simp (maxDischargeDepth := 30) [hw]

@[simp] theorem Dev.secRead_keys (d : Dev) (m : Master) (sub : Nat) : (Dev.secRead d m sub).keys = d.keys := by
  unfold Dev.secRead; simp; (repeat' split) <;> simp

@[simp] theorem Dev.angleZero_wf (d : Dev) (fl : List EntryFlaw) (hw : Mem.wf d.mem = true) : Mem.wf (Dev.angleZero d fl).mem = true := by
  unfold Dev.angleZero; simp (maxDischargeDepth := 30) [hw]

@[simp] theorem Dev.angleZero_keys (d : Dev) (fl : List EntryFlaw) : (Dev.angleZero d fl).keys = d.keys := by
  unfold Dev.angleZero; simp

theorem Dev.sized_wf (d : Dev) (r : Req) (l : List Byte) (n : Nat) (f : Dev → Dev) (hw : Mem.wf d.mem = true)
    (hf : Mem.wf (f d).mem = true) : Mem.wf (d.sized r l n f).mem = true := by
  unfold Dev.sized; split <;> simp [hw, hf]

@[simp] theorem Dev.portHeader_wf (d : Dev) (tag : BitVec 8) (l : List Byte) (hw : Mem.wf d.mem = true) : Mem.wf (d.portHeader tag l).mem = true := by
  unfold Dev.portHeader; dsimp only
  exact Dev.sized_wf _ _ _ _ _ hw (Dev.bootVia_wf _ _ _ hw (by simp [hw]))

@[simp] theorem Dev.portHeader_keys (d : Dev) (tag : BitVec 8) (l : List Byte) : (d.portHeader tag l).keys = d.keys := by
  unfold Dev.portHeader; simp

@[simp] theorem Dev.portSegment_wf (d : Dev) (tag : BitVec 8) (k : Word) (len : BitVec 16) (l : List Byte) (hw : Mem.wf d.mem = true) : Mem.wf (d.portSegment tag k len l).mem = true := by
  unfold Dev.portSegment; dsimp only
  split
  · exact Dev.sized_wf _ _ _ _ _ hw (Dev.bootVia_wf _ _ _ hw (by simp [hw]))
  · simp [hw]

@[simp] theorem Dev.portSegment_keys (d : Dev) (tag : BitVec 8) (k : Word) (len : BitVec 16) (l : List Byte) : (d.portSegment tag k len l).keys = d.keys := by
  unfold Dev.portSegment; simp

@[simp] theorem Dev.portColophon_wf (d : Dev) (tag : BitVec 8) (l : List Byte) (hw : Mem.wf d.mem = true) : Mem.wf (d.portColophon tag l).mem = true := by
  unfold Dev.portColophon; dsimp only
  exact Dev.sized_wf _ _ _ _ _ hw (Dev.bootVia_wf _ _ _ hw (by simp [hw]))

@[simp] theorem Dev.portColophon_keys (d : Dev) (tag : BitVec 8) (l : List Byte) : (d.portColophon tag l).keys = d.keys := by
  unfold Dev.portColophon; simp

@[simp] theorem Dev.portMac_wf (d : Dev) (tag : BitVec 8) (l : List Byte) (hw : Mem.wf d.mem = true) : Mem.wf (d.portMac tag l).mem = true := by
  unfold Dev.portMac; dsimp only
  exact Dev.sized_wf _ _ _ _ _ hw (by simp [hw])

@[simp] theorem Dev.portMac_keys (d : Dev) (tag : BitVec 8) (l : List Byte) : (d.portMac tag l).keys = d.keys := by
  unfold Dev.portMac; simp

@[simp] theorem Dev.portRead_wf (d : Dev) (tag : BitVec 8) (len : BitVec 16) (a : Word) (hw : Mem.wf d.mem = true) : Mem.wf (Dev.portRead d tag len a).mem = true := by
  unfold Dev.portRead; simp (maxDischargeDepth := 30) [hw]

@[simp] theorem Dev.portRead_keys (d : Dev) (tag : BitVec 8) (len : BitVec 16) (a : Word) : (Dev.portRead d tag len a).keys = d.keys := by
  unfold Dev.portRead; simp

@[simp] theorem Dev.portWords_wf (d : Dev) (tag : BitVec 8) (a : Word) (l : List Word) (hw : Mem.wf d.mem = true) : Mem.wf (Dev.portWords d tag a l).mem = true := by
  unfold Dev.portWords; simp (maxDischargeDepth := 30) [hw]

@[simp] theorem Dev.portWords_keysOk (d : Dev) (tag : BitVec 8) (a : Word) (l : List Word) (hw : keysOk d.keys) : keysOk (Dev.portWords d tag a l).keys := by
  unfold Dev.portWords; simp (maxDischargeDepth := 30) [hw]

@[simp] theorem Dev.frameRefused_wf (d : Dev) (cmd : BitVec 8) (tag : BitVec 8) (len : BitVec 16) (crcOk : Bool) (bad : Bool) (hw : Mem.wf d.mem = true) : Mem.wf (Dev.frameRefused d cmd tag len crcOk bad).mem = true := by
  unfold Dev.frameRefused; simp (maxDischargeDepth := 30) [hw]

@[simp] theorem Dev.frameRefused_keys (d : Dev) (cmd : BitVec 8) (tag : BitVec 8) (len : BitVec 16) (crcOk : Bool) (bad : Bool) : (Dev.frameRefused d cmd tag len crcOk bad).keys = d.keys := by
  unfold Dev.frameRefused; simp

end Sys2Proof.Machine
end

