-- ==== Sys2Proof/Laws/State.lean ====
section
/-!
SUPPORT. Laws of the state: the parts of a state after a change of the device, and the steps of a queue. The device's own parts stand
in Laws/Regs.lean and Laws/Kept.lean.
-/
namespace Sys2Proof.Machine

@[simp] theorem State.onDev_dev (s : State) (f : Dev → Dev) : (s.onDev f).dev = f s.dev := rfl
@[simp] theorem State.onDev_pending (s : State) (f : Dev → Dev) : (s.onDev f).pending = s.pending := rfl
@[simp] theorem State.mk_onDev (d : Dev) (q : List Instr) (f : Dev → Dev) :
    State.onDev { dev := d, pending := q } f = { dev := f d, pending := q } := rfl
@[simp] theorem State.reset_dev : State.reset.dev = {} := rfl
@[simp] theorem State.reset_pending : State.reset.pending = [] := rfl

@[simp] theorem step_nil (d : Dev) : step { dev := d, pending := [] } = .next { dev := d.clockTick, pending := [] } := rfl
@[simp] theorem step_cons (c : Instr) (l : List Instr) (d : Dev) :
    step { dev := d, pending := c :: l } = exec c { dev := d, pending := l } := rfl

/-- An effect on the main domains, while they have supply. -/
theorem Dev.whenLive_pos {d : Dev} {f : Dev → Dev} (h : d.busLive = true) : d.whenLive f = f d := by simp [Dev.whenLive, h]
/-- An effect on the main domains leaves the device as it is while they have no supply. -/
theorem Dev.whenLive_neg {d : Dev} {f : Dev → Dev} (h : d.busLive = false) : d.whenLive f = d := by simp [Dev.whenLive, h]
/-- An effect on the island, while it has supply. -/
theorem Dev.whenIsland_pos {d : Dev} {f : Dev → Dev} (h : d.islandOn = true) : d.whenIsland f = f d := by simp [Dev.whenIsland, h]
/-- An effect on the island leaves the device as it is while the island has no supply. -/
theorem Dev.whenIsland_neg {d : Dev} {f : Dev → Dev} (h : d.islandOn = false) : d.whenIsland f = d := by simp [Dev.whenIsland, h]

end Sys2Proof.Machine
end

