-- ==== Sys2Proof/Laws/Gate.lean ====
section
/-!
SUPPORT. Laws of the gate that accesses of the masters pass (R34), and of the device state (R22).
-/
namespace Sys2Proof.Machine
namespace Dev

/-! ## Writes and reads of registers -/

theorem pageReached_pages {d : Dev} {m : Master} {a : Nat} {wr : Bool} {q : Page} (h : d.pageReached m a wr = some q) :
    regionOf a 4 = some .pages := by
  unfold pageReached at h
  by_cases c : a % 4 = 0 ∧ regionOf a 4 = some .pages ∧ d.reaches m a 4 wr
  · exact c.2.1
  · rw [if_neg c] at h; cases h

/-- The offset part of a page address. -/
theorem pageAddr_ofs {p ofs : Nat} (h : ofs < 0x1000) : (0x40000000 + 0x1000 * p + ofs) % 0x1000 = ofs := by omega

/-- An answered access differs in its answer alone. -/
@[simp] theorem done_frame (d : Dev) :
    d.done.keys = d.keys ∧ d.done.mem = d.mem ∧ d.done.now = d.now ∧ d.done.fresh = d.fresh ∧ d.done.tile = d.tile ∧
    d.done.conv = d.conv ∧ d.done.disch = d.disch ∧ d.done.fc = d.fc ∧ d.done.tb = d.tb ∧ d.done.proof = d.proof ∧
    d.done.gal = d.gal ∧ d.done.af = d.af ∧ d.done.adc = d.adc ∧ d.done.bin = d.bin ∧ d.done.ring = d.ring ∧
    d.done.ow = d.ow ∧ d.done.mon = d.mon ∧ d.done.dom = d.dom ∧ d.done.chg = d.chg ∧ d.done.gauge = d.gauge ∧
    d.done.supply = d.supply ∧ d.done.seq = d.seq ∧ d.done.cel = d.cel ∧ d.done.boot = d.boot ∧
    d.done.comp = d.comp ∧ d.done.mram = d.mram ∧ d.done.net = d.net ∧ d.done.check = d.check ∧
    d.done.host = d.host ∧ d.done.regs = d.regs := by
  simp [done]
@[simp] theorem reg_done (d : Dev) (p o b : Nat) : d.done.reg p o b = d.reg p o b := rfl
@[simp] theorem fld_done (d : Dev) (p : Nat) (f : Fld) : d.done.fld p f = d.fld p f := rfl
@[simp] theorem flag_done (d : Dev) (p : Nat) (f : Fld) : d.done.flag p f = d.flag p f := rfl
@[simp] theorem state_done (d : Dev) : d.done.state = d.state := rfl

/-- A permitted write of a register does what the register's block makes of it. -/
theorem portWrite_eq {d : Dev} {m : Master} {k : PageKind} {i ofs : Nat} (h : d.CanWrite m k i ofs) (w : Word) (f : WriteFacts)
    (ho : ofs < 0x1000) : d.portWrite m k i ofs w f = (d.regWrite m k i ofs w f).done := by
  simp only [portWrite, busWrite, h.live, pageReached_pages h.reached, pageWrite, h.reached, pageAddr_ofs ho, h.access]
  rfl

/-- A permitted write of a register, at its address. -/
theorem busWrite_eq {d : Dev} {m : Master} {k : PageKind} {i ofs : Nat} (h : d.CanWrite m k i ofs) (w : Word) (f : WriteFacts)
    (ho : ofs < 0x1000) : d.busWrite m (0x40000000 + 0x1000 * pg k i + ofs) w f = (d.regWrite m k i ofs w f).done :=
  portWrite_eq h w f ho

/-- A permitted read of a register answers what the register reads as. -/
theorem busRead_eq {d : Dev} {m : Master} {k : PageKind} {i ofs : Nat} (h : d.CanRead m k i ofs) (fl : Flaw) (b : Nat)
    (ho : ofs < 0x1000) : d.busRead m (0x40000000 + 0x1000 * pg k i + ofs) fl b =
      { (d.regRead m k i ofs).2 with bus := .data (d.regRead m k i ofs).1 } := by
  simp only [busRead, h.live, pageReached_pages h.reached, h.reached, pageAddr_ofs ho]
  rfl

/-- An event touches nothing of the device but the register file. -/
@[simp] theorem event_frame (d : Dev) (p : Nat) (f : Fld) :
    (d.event p f).keys = d.keys ∧ (d.event p f).mem = d.mem ∧ (d.event p f).now = d.now ∧ (d.event p f).fresh = d.fresh ∧
    (d.event p f).bus = d.bus ∧ (d.event p f).tile = d.tile ∧ (d.event p f).conv = d.conv ∧ (d.event p f).disch = d.disch ∧
    (d.event p f).fc = d.fc ∧ (d.event p f).tb = d.tb ∧ (d.event p f).proof = d.proof ∧ (d.event p f).gal = d.gal ∧
    (d.event p f).af = d.af ∧ (d.event p f).adc = d.adc ∧ (d.event p f).bin = d.bin ∧ (d.event p f).ring = d.ring ∧
    (d.event p f).ow = d.ow ∧ (d.event p f).mon = d.mon ∧ (d.event p f).dom = d.dom ∧ (d.event p f).chg = d.chg ∧
    (d.event p f).gauge = d.gauge ∧ (d.event p f).supply = d.supply ∧ (d.event p f).seq = d.seq ∧ (d.event p f).cel = d.cel ∧
    (d.event p f).boot = d.boot ∧ (d.event p f).comp = d.comp ∧ (d.event p f).mram = d.mram ∧ (d.event p f).net = d.net ∧
    (d.event p f).check = d.check ∧ (d.event p f).host = d.host := by
  simp [event]

/-- The device of a transition, before SYS.STATE is written, has the register file as it was (R380). -/
@[simp] theorem regs_measLost (d : Dev) (c : Prop) [Decidable c] : (if c then d else d.measLost).regs = d.regs := by
  split <;> rfl

/-- A transition touches nothing of the device but the register file and the rate measurement. -/
@[simp] theorem transition_frame (d : Dev) (st c : Nat) :
    (d.transition st c).keys = d.keys ∧ (d.transition st c).mem = d.mem ∧ (d.transition st c).now = d.now ∧
    (d.transition st c).fresh = d.fresh ∧ (d.transition st c).bus = d.bus ∧ (d.transition st c).tile = d.tile ∧
    (d.transition st c).conv = d.conv ∧ (d.transition st c).disch = d.disch ∧ (d.transition st c).fc = d.fc ∧
    (d.transition st c).tb = d.tb ∧ (d.transition st c).proof = d.proof ∧ (d.transition st c).gal = d.gal ∧
    (d.transition st c).af = d.af ∧ (d.transition st c).adc = d.adc ∧ (d.transition st c).bin = d.bin ∧
    (d.transition st c).ring = d.ring ∧ (d.transition st c).ow = d.ow ∧ (d.transition st c).mon = d.mon ∧
    (d.transition st c).dom = d.dom ∧ (d.transition st c).chg = d.chg ∧ (d.transition st c).gauge = d.gauge ∧
    (d.transition st c).supply = d.supply ∧ (d.transition st c).seq = d.seq ∧
    (d.transition st c).boot = d.boot ∧ (d.transition st c).comp = d.comp ∧ (d.transition st c).mram = d.mram ∧
    (d.transition st c).net = d.net ∧ (d.transition st c).check = d.check ∧ (d.transition st c).host = d.host := by
  unfold transition; simp only; split <;> simp [measLost]

/-! ## The device state -/

/-- SYS.STATE after a transition. -/
theorem reg_transition (d : Dev) (st cause : Nat) :
    (d.transition st cause).reg (pg .sys) R.SYS.STATE =
      BitVec.ofNat 32 (st + 16 * d.state + 256 * cause + 65536 * ((bitsOf (d.reg (pg .sys) R.SYS.STATE).toNat 16 16 + 1) % 65536)) := by
  unfold transition; simp only [reg_setReg_self]; rfl

/-- A transition takes the device to its state. -/
theorem state_transition (d : Dev) (st cause : Nat) (h : st < 8) : (d.transition st cause).state = st := by
  have e : (2 : Nat) ^ 32 = 4294967296 := by norm_num
  unfold state fld
  have hf : F.SYS.STATE_STATE.ofs = R.SYS.STATE := rfl
  rw [hf, reg_transition, BitVec.toNat_ofNat, e, bitsOf_mod32 _ _ _ (by decide)]
  show bitsOf _ 0 3 = st
  unfold bitsOf
  simp only [Nat.shiftRight_zero]
  omega

/-- A transition records its cause. -/
theorem cause_transition (d : Dev) (st cause : Nat) (h : st < 8) (hc : cause < 256) :
    (d.transition st cause).fld (pg .sys) F.SYS.STATE_CAUSE = cause := by
  have e : (2 : Nat) ^ 32 = 4294967296 := by norm_num
  have hs : d.state < 8 := bitsOf_lt _ _ _
  unfold fld
  have hf : F.SYS.STATE_CAUSE.ofs = R.SYS.STATE := rfl
  rw [hf, reg_transition, BitVec.toNat_ofNat, e, bitsOf_mod32 _ _ _ (by decide)]
  show bitsOf _ 8 8 = cause
  unfold bitsOf
  rw [Nat.shiftRight_eq_div_pow]
  omega

/-- A transition records the state that it leaves. -/
theorem prev_transition (d : Dev) (st cause : Nat) (h : st < 8) :
    (d.transition st cause).fld (pg .sys) F.SYS.STATE_PREV = d.state := by
  have e : (2 : Nat) ^ 32 = 4294967296 := by norm_num
  have hs : d.state < 8 := bitsOf_lt _ _ _
  unfold fld
  have hf : F.SYS.STATE_PREV.ofs = R.SYS.STATE := rfl
  rw [hf, reg_transition, BitVec.toNat_ofNat, e, bitsOf_mod32 _ _ _ (by decide)]
  show bitsOf _ 4 3 = d.state
  unfold bitsOf
  rw [Nat.shiftRight_eq_div_pow]
  omega

/-- A field of another register than SYS.STATE given a value leaves the device state. -/
theorem state_setFld (d : Dev) (p : Nat) (f : Fld) (v : Nat) (h : regKey (pg .sys) R.SYS.STATE ≠ regKey p f.ofs) :
    (d.setFld p f v).state = d.state := fld_setFld_other d p f v _ _ (Or.inl h)

/-- Another register than SYS.STATE given a value leaves the device state. -/
theorem state_setReg (d : Dev) (p o : Nat) (v : Word) (b : Nat) (h : regKey (pg .sys) R.SYS.STATE ≠ regKey p o b) :
    (d.setReg p o v b).state = d.state := by
  unfold state; rw [fld_setReg]; exact if_neg h

end Dev

/-! ## Commands that run -/

/-- A command that changes the device alone runs. -/
theorem Runs.dev {c : Instr} {d t : Dev} {f : Dev → Dev} (hc : ∀ s, exec c s = .next (s.onDev f)) (ht : f d = t) : Runs c d t := by
  intro q; rw [hc, State.mk_onDev, ht]

/-- A command of the main domains runs while they have supply. -/
theorem Runs.live {c : Instr} {d t : Dev} {f : Dev → Dev} (hl : d.busLive = true)
    (hc : ∀ s, exec c s = .next (s.onDev fun d => d.whenLive f)) (ht : f d = t) : Runs c d t :=
  Runs.dev hc ((Dev.whenLive_pos hl).trans ht)

/-- A command of the island runs while it has supply. -/
theorem Runs.island {c : Instr} {d t : Dev} {f : Dev → Dev} (hl : d.islandOn = true)
    (hc : ∀ s, exec c s = .next (s.onDev fun d => d.whenIsland f)) (ht : f d = t) : Runs c d t :=
  Runs.dev hc ((Dev.whenIsland_pos hl).trans ht)

/-- A command that is a permitted write of a register runs, and leaves what the register's block makes of the write. -/
theorem Runs.port {c : Instr} {d t : Dev} {m : Master} {k : PageKind} {i ofs : Nat} {w : Word} {f : WriteFacts}
    (h : d.CanWrite m k i ofs) (ho : ofs < 0x1000) (hc : ∀ s, exec c s = .next (s.onDev fun d => d.portWrite m k i ofs w f))
    (ht : d.regWrite m k i ofs w f = t) : Runs c d t.done :=
  Runs.dev hc ((Dev.portWrite_eq h w f ho).trans (congrArg Dev.done ht))

end Sys2Proof.Machine
end

