-- ==== Sys2Proof/Laws/Fields.lean ====
section
/-!
SUPPORT. Laws of fields: what a register, a field or a flag reads after an operation on the device, and the parts of the device after a
change of one block's own state.
-/
namespace Sys2Proof.Machine
namespace Dev

/-! ## Devices with the same registers read the same -/

theorem reg_of_regs {d e : Dev} (h : e.regs = d.regs) (p o b : Nat) : e.reg p o b = d.reg p o b := by simp only [reg, h]
theorem fld_of_regs {d e : Dev} (h : e.regs = d.regs) (p : Nat) (f : Fld) : e.fld p f = d.fld p f := by simp only [fld, reg, h]
theorem flag_of_regs {d e : Dev} (h : e.regs = d.regs) (p : Nat) (f : Fld) : e.flag p f = d.flag p f := by
  simp only [flag, fld, reg, h]
theorem state_of_regs {d e : Dev} (h : e.regs = d.regs) : e.state = d.state := by simp only [state, fld, reg, h]

/-! ## Fields after flags, events and counters -/

theorem fld_event_self (d : Dev) (p : Nat) (f : Fld) (h : f.lo + f.w ≤ 32) : (d.event p f).fld p f = 1 % 2 ^ f.w :=
  fld_setFld_self d p f 1 h
theorem flag_event_self (d : Dev) (p : Nat) (f : Fld) (h : f.lo + f.w ≤ 32) (hw : f.w = 1) : (d.event p f).flag p f = true := by
  unfold flag; rw [fld_event_self d p f h, hw]; rfl
theorem fld_event_other (d : Dev) (p : Nat) (f : Fld) (p' : Nat) (g : Fld)
    (h : regKey p' g.ofs ≠ regKey p f.ofs ∨ (g.lo + g.w ≤ 32 ∧ (g.lo + g.w ≤ f.lo ∨ f.lo + f.w ≤ g.lo))) :
    (d.event p f).fld p' g = d.fld p' g := fld_setFld_other d p f 1 p' g h
theorem flag_event_other (d : Dev) (p : Nat) (f : Fld) (p' : Nat) (g : Fld)
    (h : regKey p' g.ofs ≠ regKey p f.ofs ∨ (g.lo + g.w ≤ 32 ∧ (g.lo + g.w ≤ f.lo ∨ f.lo + f.w ≤ g.lo))) :
    (d.event p f).flag p' g = d.flag p' g := flag_setFld_other d p f 1 p' g h
theorem reg_event_other (d : Dev) (p : Nat) (f : Fld) (p' o b : Nat) (h : regKey p' o b ≠ regKey p f.ofs) :
    (d.event p f).reg p' o b = d.reg p' o b := by unfold event; rw [reg_setFld, if_neg h]
theorem fld_setFlag_self (d : Dev) (p : Nat) (f : Fld) (b : Bool) (h : f.lo + f.w ≤ 32) : (d.setFlag p f b).fld p f = b2n b % 2 ^ f.w :=
  fld_setFld_self d p f _ h
theorem fld_setFlag_other (d : Dev) (p : Nat) (f : Fld) (v : Bool) (p' : Nat) (g : Fld)
    (h : regKey p' g.ofs ≠ regKey p f.ofs ∨ (g.lo + g.w ≤ 32 ∧ (g.lo + g.w ≤ f.lo ∨ f.lo + f.w ≤ g.lo))) :
    (d.setFlag p f v).fld p' g = d.fld p' g := fld_setFld_other d p f _ p' g h
theorem flag_setFlag_other (d : Dev) (p : Nat) (f : Fld) (v : Bool) (p' : Nat) (g : Fld)
    (h : regKey p' g.ofs ≠ regKey p f.ofs ∨ (g.lo + g.w ≤ 32 ∧ (g.lo + g.w ≤ f.lo ∨ f.lo + f.w ≤ g.lo))) :
    (d.setFlag p f v).flag p' g = d.flag p' g := flag_setFld_other d p f _ p' g h
theorem reg_setFlag_other (d : Dev) (p : Nat) (f : Fld) (v : Bool) (p' o b : Nat) (h : regKey p' o b ≠ regKey p f.ofs) :
    (d.setFlag p f v).reg p' o b = d.reg p' o b := by unfold setFlag; rw [reg_setFld, if_neg h]
theorem reg_setFld_other (d : Dev) (p : Nat) (f : Fld) (v p' o b : Nat) (h : regKey p' o b ≠ regKey p f.ofs) :
    (d.setFld p f v).reg p' o b = d.reg p' o b := by rw [reg_setFld, if_neg h]
theorem flag_setFld_self (d : Dev) (p : Nat) (f : Fld) (v : Nat) (h : f.lo + f.w ≤ 32) :
    (d.setFld p f v).flag p f = (v % 2 ^ f.w != 0) := by unfold flag; rw [fld_setFld_self d p f v h]
theorem flag_bump_other (d : Dev) (p o n p' : Nat) (f : Fld) (h : regKey p' f.ofs ≠ regKey p o) :
    (d.bump p o n).flag p' f = d.flag p' f := by unfold flag; rw [fld_bump_other d p o n p' f h]
theorem reg_bump_self (d : Dev) (p o n : Nat) : (d.bump p o n).reg p o = d.reg p o + BitVec.ofNat 32 n := by rw [reg_bump, if_pos rfl]
theorem reg_bump_other (d : Dev) (p o n p' o' b : Nat) (h : regKey p' o' b ≠ regKey p o) :
    (d.bump p o n).reg p' o' b = d.reg p' o' b := by rw [reg_bump, if_neg h]
theorem fld_setReg_other (d : Dev) (p o : Nat) (v : Word) (b p' : Nat) (f : Fld) (h : regKey p' f.ofs ≠ regKey p o b) :
    (d.setReg p o v b).fld p' f = d.fld p' f := by rw [fld_setReg, if_neg h]
theorem fld_setReg_self (d : Dev) (p o : Nat) (v : Word) (f : Fld) (h : f.ofs = o) :
    (d.setReg p o v).fld p f = bitsOf v.toNat f.lo f.w := by rw [fld_setReg, if_pos (by rw [h])]
theorem flag_setReg_other (d : Dev) (p o : Nat) (v : Word) (b p' : Nat) (f : Fld) (h : regKey p' f.ofs ≠ regKey p o b) :
    (d.setReg p o v b).flag p' f = d.flag p' f := by unfold flag; rw [fld_setReg, if_neg h]
theorem state_event (d : Dev) (p : Nat) (f : Fld) (h : regKey (pg .sys) R.SYS.STATE ≠ regKey p f.ofs) :
    (d.event p f).state = d.state := state_setFld d p f 1 h
theorem state_setFlag (d : Dev) (p : Nat) (f : Fld) (b : Bool) (h : regKey (pg .sys) R.SYS.STATE ≠ regKey p f.ofs) :
    (d.setFlag p f b).state = d.state := state_setFld d p f _ h
theorem state_bump (d : Dev) (p o n : Nat) (h : regKey (pg .sys) R.SYS.STATE ≠ regKey p o) :
    (d.bump p o n).state = d.state := state_setReg d p o _ 0 h

/-! ## One block's own state changed -/

@[simp] theorem modBin_frame (d : Dev) (h : Nat) (f : BinS → BinS) :
    (d.modBin h f).regs = d.regs ∧ (d.modBin h f).keys = d.keys ∧ (d.modBin h f).mem = d.mem ∧ (d.modBin h f).now = d.now ∧
    (d.modBin h f).fresh = d.fresh ∧ (d.modBin h f).bus = d.bus ∧ (d.modBin h f).tile = d.tile ∧ (d.modBin h f).conv = d.conv ∧
    (d.modBin h f).disch = d.disch ∧ (d.modBin h f).fc = d.fc ∧ (d.modBin h f).tb = d.tb ∧ (d.modBin h f).proof = d.proof ∧
    (d.modBin h f).gal = d.gal ∧ (d.modBin h f).af = d.af ∧ (d.modBin h f).adc = d.adc ∧ (d.modBin h f).ring = d.ring ∧
    (d.modBin h f).ow = d.ow ∧ (d.modBin h f).mon = d.mon ∧ (d.modBin h f).dom = d.dom ∧ (d.modBin h f).chg = d.chg ∧
    (d.modBin h f).gauge = d.gauge ∧ (d.modBin h f).supply = d.supply ∧ (d.modBin h f).seq = d.seq ∧
    (d.modBin h f).cel = d.cel ∧ (d.modBin h f).boot = d.boot ∧ (d.modBin h f).comp = d.comp ∧ (d.modBin h f).mram = d.mram ∧
    (d.modBin h f).net = d.net ∧ (d.modBin h f).check = d.check ∧ (d.modBin h f).host = d.host ∧
    (d.modBin h f).bin = vmod d.bin h f := by
  refine ⟨rfl, rfl, rfl, rfl, rfl, rfl, rfl, rfl, rfl, rfl, rfl, rfl, rfl, rfl, rfl, rfl, rfl, rfl, rfl, rfl, rfl, rfl, rfl, rfl, rfl, rfl, rfl, rfl, rfl, rfl, rfl⟩
@[simp] theorem reg_modBin (d : Dev) (h : Nat) (f : BinS → BinS) (p o b : Nat) : (d.modBin h f).reg p o b = d.reg p o b := rfl
@[simp] theorem fld_modBin (d : Dev) (h : Nat) (f : BinS → BinS) (p : Nat) (x : Fld) : (d.modBin h f).fld p x = d.fld p x := rfl
@[simp] theorem flag_modBin (d : Dev) (h : Nat) (f : BinS → BinS) (p : Nat) (x : Fld) : (d.modBin h f).flag p x = d.flag p x := rfl
@[simp] theorem state_modBin (d : Dev) (h : Nat) (f : BinS → BinS) : (d.modBin h f).state = d.state := rfl

@[simp] theorem modCel_frame (d : Dev) (f : CellarS → CellarS) :
    (d.modCel f).regs = d.regs ∧ (d.modCel f).keys = d.keys ∧ (d.modCel f).mem = d.mem ∧ (d.modCel f).now = d.now ∧
    (d.modCel f).fresh = d.fresh ∧ (d.modCel f).bus = d.bus ∧ (d.modCel f).tile = d.tile ∧ (d.modCel f).conv = d.conv ∧
    (d.modCel f).disch = d.disch ∧ (d.modCel f).fc = d.fc ∧ (d.modCel f).tb = d.tb ∧ (d.modCel f).proof = d.proof ∧
    (d.modCel f).gal = d.gal ∧ (d.modCel f).af = d.af ∧ (d.modCel f).adc = d.adc ∧ (d.modCel f).bin = d.bin ∧
    (d.modCel f).ring = d.ring ∧ (d.modCel f).ow = d.ow ∧ (d.modCel f).mon = d.mon ∧ (d.modCel f).dom = d.dom ∧
    (d.modCel f).chg = d.chg ∧ (d.modCel f).gauge = d.gauge ∧ (d.modCel f).supply = d.supply ∧ (d.modCel f).seq = d.seq ∧
    (d.modCel f).boot = d.boot ∧ (d.modCel f).comp = d.comp ∧ (d.modCel f).mram = d.mram ∧ (d.modCel f).net = d.net ∧
    (d.modCel f).check = d.check ∧ (d.modCel f).host = d.host ∧ (d.modCel f).cel = f d.cel := by
  refine ⟨rfl, rfl, rfl, rfl, rfl, rfl, rfl, rfl, rfl, rfl, rfl, rfl, rfl, rfl, rfl, rfl, rfl, rfl, rfl, rfl, rfl, rfl, rfl, rfl, rfl, rfl, rfl, rfl, rfl, rfl, rfl⟩
@[simp] theorem reg_modCel (d : Dev) (f : CellarS → CellarS) (p o b : Nat) : (d.modCel f).reg p o b = d.reg p o b := rfl
@[simp] theorem fld_modCel (d : Dev) (f : CellarS → CellarS) (p : Nat) (x : Fld) : (d.modCel f).fld p x = d.fld p x := rfl
@[simp] theorem flag_modCel (d : Dev) (f : CellarS → CellarS) (p : Nat) (x : Fld) : (d.modCel f).flag p x = d.flag p x := rfl
@[simp] theorem state_modCel (d : Dev) (f : CellarS → CellarS) : (d.modCel f).state = d.state := rfl

@[simp] theorem modChg_frame (d : Dev) (f : ChgS → ChgS) :
    (d.modChg f).regs = d.regs ∧ (d.modChg f).keys = d.keys ∧ (d.modChg f).mem = d.mem ∧ (d.modChg f).now = d.now ∧
    (d.modChg f).fresh = d.fresh ∧ (d.modChg f).bus = d.bus ∧ (d.modChg f).tile = d.tile ∧ (d.modChg f).conv = d.conv ∧
    (d.modChg f).disch = d.disch ∧ (d.modChg f).fc = d.fc ∧ (d.modChg f).tb = d.tb ∧ (d.modChg f).proof = d.proof ∧
    (d.modChg f).gal = d.gal ∧ (d.modChg f).af = d.af ∧ (d.modChg f).adc = d.adc ∧ (d.modChg f).bin = d.bin ∧
    (d.modChg f).ring = d.ring ∧ (d.modChg f).ow = d.ow ∧ (d.modChg f).mon = d.mon ∧ (d.modChg f).dom = d.dom ∧
    (d.modChg f).gauge = d.gauge ∧ (d.modChg f).supply = d.supply ∧ (d.modChg f).seq = d.seq ∧ (d.modChg f).cel = d.cel ∧
    (d.modChg f).boot = d.boot ∧ (d.modChg f).comp = d.comp ∧ (d.modChg f).mram = d.mram ∧ (d.modChg f).net = d.net ∧
    (d.modChg f).check = d.check ∧ (d.modChg f).host = d.host ∧ (d.modChg f).chg = f d.chg := by
  refine ⟨rfl, rfl, rfl, rfl, rfl, rfl, rfl, rfl, rfl, rfl, rfl, rfl, rfl, rfl, rfl, rfl, rfl, rfl, rfl, rfl, rfl, rfl, rfl, rfl, rfl, rfl, rfl, rfl, rfl, rfl, rfl⟩
@[simp] theorem reg_modChg (d : Dev) (f : ChgS → ChgS) (p o b : Nat) : (d.modChg f).reg p o b = d.reg p o b := rfl
@[simp] theorem fld_modChg (d : Dev) (f : ChgS → ChgS) (p : Nat) (x : Fld) : (d.modChg f).fld p x = d.fld p x := rfl
@[simp] theorem flag_modChg (d : Dev) (f : ChgS → ChgS) (p : Nat) (x : Fld) : (d.modChg f).flag p x = d.flag p x := rfl
@[simp] theorem state_modChg (d : Dev) (f : ChgS → ChgS) : (d.modChg f).state = d.state := rfl

@[simp] theorem modCheck_frame (d : Dev) (n : Nat) (f : CheckS → CheckS) :
    (d.modCheck n f).regs = d.regs ∧ (d.modCheck n f).keys = d.keys ∧ (d.modCheck n f).mem = d.mem ∧
    (d.modCheck n f).now = d.now ∧ (d.modCheck n f).fresh = d.fresh ∧ (d.modCheck n f).bus = d.bus ∧
    (d.modCheck n f).tile = d.tile ∧ (d.modCheck n f).conv = d.conv ∧ (d.modCheck n f).disch = d.disch ∧
    (d.modCheck n f).fc = d.fc ∧ (d.modCheck n f).tb = d.tb ∧ (d.modCheck n f).proof = d.proof ∧ (d.modCheck n f).gal = d.gal ∧
    (d.modCheck n f).af = d.af ∧ (d.modCheck n f).adc = d.adc ∧ (d.modCheck n f).bin = d.bin ∧ (d.modCheck n f).ring = d.ring ∧
    (d.modCheck n f).ow = d.ow ∧ (d.modCheck n f).mon = d.mon ∧ (d.modCheck n f).dom = d.dom ∧ (d.modCheck n f).chg = d.chg ∧
    (d.modCheck n f).gauge = d.gauge ∧ (d.modCheck n f).supply = d.supply ∧ (d.modCheck n f).seq = d.seq ∧
    (d.modCheck n f).cel = d.cel ∧ (d.modCheck n f).boot = d.boot ∧ (d.modCheck n f).comp = d.comp ∧
    (d.modCheck n f).mram = d.mram ∧ (d.modCheck n f).net = d.net ∧ (d.modCheck n f).host = d.host ∧
    (d.modCheck n f).check = vmod d.check n f := by
  refine ⟨rfl, rfl, rfl, rfl, rfl, rfl, rfl, rfl, rfl, rfl, rfl, rfl, rfl, rfl, rfl, rfl, rfl, rfl, rfl, rfl, rfl, rfl, rfl, rfl, rfl, rfl, rfl, rfl, rfl, rfl, rfl⟩
@[simp] theorem reg_modCheck (d : Dev) (n : Nat) (f : CheckS → CheckS) (p o b : Nat) : (d.modCheck n f).reg p o b = d.reg p o b := rfl
@[simp] theorem fld_modCheck (d : Dev) (n : Nat) (f : CheckS → CheckS) (p : Nat) (x : Fld) : (d.modCheck n f).fld p x = d.fld p x := rfl
@[simp] theorem flag_modCheck (d : Dev) (n : Nat) (f : CheckS → CheckS) (p : Nat) (x : Fld) : (d.modCheck n f).flag p x = d.flag p x := rfl
@[simp] theorem state_modCheck (d : Dev) (n : Nat) (f : CheckS → CheckS) : (d.modCheck n f).state = d.state := rfl

@[simp] theorem modDom_frame (d : Dev) (n : Nat) (f : DomS → DomS) :
    (d.modDom n f).regs = d.regs ∧ (d.modDom n f).keys = d.keys ∧ (d.modDom n f).mem = d.mem ∧ (d.modDom n f).now = d.now ∧
    (d.modDom n f).fresh = d.fresh ∧ (d.modDom n f).bus = d.bus ∧ (d.modDom n f).tile = d.tile ∧ (d.modDom n f).conv = d.conv ∧
    (d.modDom n f).disch = d.disch ∧ (d.modDom n f).fc = d.fc ∧ (d.modDom n f).tb = d.tb ∧ (d.modDom n f).proof = d.proof ∧
    (d.modDom n f).gal = d.gal ∧ (d.modDom n f).af = d.af ∧ (d.modDom n f).adc = d.adc ∧ (d.modDom n f).bin = d.bin ∧
    (d.modDom n f).ring = d.ring ∧ (d.modDom n f).ow = d.ow ∧ (d.modDom n f).mon = d.mon ∧ (d.modDom n f).chg = d.chg ∧
    (d.modDom n f).gauge = d.gauge ∧ (d.modDom n f).supply = d.supply ∧ (d.modDom n f).seq = d.seq ∧
    (d.modDom n f).cel = d.cel ∧ (d.modDom n f).boot = d.boot ∧ (d.modDom n f).comp = d.comp ∧ (d.modDom n f).mram = d.mram ∧
    (d.modDom n f).net = d.net ∧ (d.modDom n f).check = d.check ∧ (d.modDom n f).host = d.host ∧
    (d.modDom n f).dom = vmod d.dom n f := by
  refine ⟨rfl, rfl, rfl, rfl, rfl, rfl, rfl, rfl, rfl, rfl, rfl, rfl, rfl, rfl, rfl, rfl, rfl, rfl, rfl, rfl, rfl, rfl, rfl, rfl, rfl, rfl, rfl, rfl, rfl, rfl, rfl⟩
@[simp] theorem reg_modDom (d : Dev) (n : Nat) (f : DomS → DomS) (p o b : Nat) : (d.modDom n f).reg p o b = d.reg p o b := rfl
@[simp] theorem fld_modDom (d : Dev) (n : Nat) (f : DomS → DomS) (p : Nat) (x : Fld) : (d.modDom n f).fld p x = d.fld p x := rfl
@[simp] theorem flag_modDom (d : Dev) (n : Nat) (f : DomS → DomS) (p : Nat) (x : Fld) : (d.modDom n f).flag p x = d.flag p x := rfl
@[simp] theorem state_modDom (d : Dev) (n : Nat) (f : DomS → DomS) : (d.modDom n f).state = d.state := rfl

@[simp] theorem modFc_frame (d : Dev) (f : FaultS → FaultS) :
    (d.modFc f).regs = d.regs ∧ (d.modFc f).keys = d.keys ∧ (d.modFc f).mem = d.mem ∧ (d.modFc f).now = d.now ∧
    (d.modFc f).fresh = d.fresh ∧ (d.modFc f).bus = d.bus ∧ (d.modFc f).tile = d.tile ∧ (d.modFc f).conv = d.conv ∧
    (d.modFc f).disch = d.disch ∧ (d.modFc f).tb = d.tb ∧ (d.modFc f).proof = d.proof ∧ (d.modFc f).gal = d.gal ∧
    (d.modFc f).af = d.af ∧ (d.modFc f).adc = d.adc ∧ (d.modFc f).bin = d.bin ∧ (d.modFc f).ring = d.ring ∧
    (d.modFc f).ow = d.ow ∧ (d.modFc f).mon = d.mon ∧ (d.modFc f).dom = d.dom ∧ (d.modFc f).chg = d.chg ∧
    (d.modFc f).gauge = d.gauge ∧ (d.modFc f).supply = d.supply ∧ (d.modFc f).seq = d.seq ∧ (d.modFc f).cel = d.cel ∧
    (d.modFc f).boot = d.boot ∧ (d.modFc f).comp = d.comp ∧ (d.modFc f).mram = d.mram ∧ (d.modFc f).net = d.net ∧
    (d.modFc f).check = d.check ∧ (d.modFc f).host = d.host ∧ (d.modFc f).fc = f d.fc := by
  refine ⟨rfl, rfl, rfl, rfl, rfl, rfl, rfl, rfl, rfl, rfl, rfl, rfl, rfl, rfl, rfl, rfl, rfl, rfl, rfl, rfl, rfl, rfl, rfl, rfl, rfl, rfl, rfl, rfl, rfl, rfl, rfl⟩
@[simp] theorem reg_modFc (d : Dev) (f : FaultS → FaultS) (p o b : Nat) : (d.modFc f).reg p o b = d.reg p o b := rfl
@[simp] theorem fld_modFc (d : Dev) (f : FaultS → FaultS) (p : Nat) (x : Fld) : (d.modFc f).fld p x = d.fld p x := rfl
@[simp] theorem flag_modFc (d : Dev) (f : FaultS → FaultS) (p : Nat) (x : Fld) : (d.modFc f).flag p x = d.flag p x := rfl
@[simp] theorem state_modFc (d : Dev) (f : FaultS → FaultS) : (d.modFc f).state = d.state := rfl

@[simp] theorem modGauge_frame (d : Dev) (f : GaugeS → GaugeS) :
    (d.modGauge f).regs = d.regs ∧ (d.modGauge f).keys = d.keys ∧ (d.modGauge f).mem = d.mem ∧ (d.modGauge f).now = d.now ∧
    (d.modGauge f).fresh = d.fresh ∧ (d.modGauge f).bus = d.bus ∧ (d.modGauge f).tile = d.tile ∧ (d.modGauge f).conv = d.conv ∧
    (d.modGauge f).disch = d.disch ∧ (d.modGauge f).fc = d.fc ∧ (d.modGauge f).tb = d.tb ∧ (d.modGauge f).proof = d.proof ∧
    (d.modGauge f).gal = d.gal ∧ (d.modGauge f).af = d.af ∧ (d.modGauge f).adc = d.adc ∧ (d.modGauge f).bin = d.bin ∧
    (d.modGauge f).ring = d.ring ∧ (d.modGauge f).ow = d.ow ∧ (d.modGauge f).mon = d.mon ∧ (d.modGauge f).dom = d.dom ∧
    (d.modGauge f).chg = d.chg ∧ (d.modGauge f).supply = d.supply ∧ (d.modGauge f).seq = d.seq ∧ (d.modGauge f).cel = d.cel ∧
    (d.modGauge f).boot = d.boot ∧ (d.modGauge f).comp = d.comp ∧ (d.modGauge f).mram = d.mram ∧ (d.modGauge f).net = d.net ∧
    (d.modGauge f).check = d.check ∧ (d.modGauge f).host = d.host ∧ (d.modGauge f).gauge = f d.gauge := by
  refine ⟨rfl, rfl, rfl, rfl, rfl, rfl, rfl, rfl, rfl, rfl, rfl, rfl, rfl, rfl, rfl, rfl, rfl, rfl, rfl, rfl, rfl, rfl, rfl, rfl, rfl, rfl, rfl, rfl, rfl, rfl, rfl⟩
@[simp] theorem reg_modGauge (d : Dev) (f : GaugeS → GaugeS) (p o b : Nat) : (d.modGauge f).reg p o b = d.reg p o b := rfl
@[simp] theorem fld_modGauge (d : Dev) (f : GaugeS → GaugeS) (p : Nat) (x : Fld) : (d.modGauge f).fld p x = d.fld p x := rfl
@[simp] theorem flag_modGauge (d : Dev) (f : GaugeS → GaugeS) (p : Nat) (x : Fld) : (d.modGauge f).flag p x = d.flag p x := rfl
@[simp] theorem state_modGauge (d : Dev) (f : GaugeS → GaugeS) : (d.modGauge f).state = d.state := rfl

@[simp] theorem modHost_frame (d : Dev) (f : HostS → HostS) :
    (d.modHost f).regs = d.regs ∧ (d.modHost f).keys = d.keys ∧ (d.modHost f).mem = d.mem ∧ (d.modHost f).now = d.now ∧
    (d.modHost f).fresh = d.fresh ∧ (d.modHost f).bus = d.bus ∧ (d.modHost f).tile = d.tile ∧ (d.modHost f).conv = d.conv ∧
    (d.modHost f).disch = d.disch ∧ (d.modHost f).fc = d.fc ∧ (d.modHost f).tb = d.tb ∧ (d.modHost f).proof = d.proof ∧
    (d.modHost f).gal = d.gal ∧ (d.modHost f).af = d.af ∧ (d.modHost f).adc = d.adc ∧ (d.modHost f).bin = d.bin ∧
    (d.modHost f).ring = d.ring ∧ (d.modHost f).ow = d.ow ∧ (d.modHost f).mon = d.mon ∧ (d.modHost f).dom = d.dom ∧
    (d.modHost f).chg = d.chg ∧ (d.modHost f).gauge = d.gauge ∧ (d.modHost f).supply = d.supply ∧ (d.modHost f).seq = d.seq ∧
    (d.modHost f).cel = d.cel ∧ (d.modHost f).boot = d.boot ∧ (d.modHost f).comp = d.comp ∧ (d.modHost f).mram = d.mram ∧
    (d.modHost f).net = d.net ∧ (d.modHost f).check = d.check ∧ (d.modHost f).host = f d.host := by
  refine ⟨rfl, rfl, rfl, rfl, rfl, rfl, rfl, rfl, rfl, rfl, rfl, rfl, rfl, rfl, rfl, rfl, rfl, rfl, rfl, rfl, rfl, rfl, rfl, rfl, rfl, rfl, rfl, rfl, rfl, rfl, rfl⟩
@[simp] theorem reg_modHost (d : Dev) (f : HostS → HostS) (p o b : Nat) : (d.modHost f).reg p o b = d.reg p o b := rfl
@[simp] theorem fld_modHost (d : Dev) (f : HostS → HostS) (p : Nat) (x : Fld) : (d.modHost f).fld p x = d.fld p x := rfl
@[simp] theorem flag_modHost (d : Dev) (f : HostS → HostS) (p : Nat) (x : Fld) : (d.modHost f).flag p x = d.flag p x := rfl
@[simp] theorem state_modHost (d : Dev) (f : HostS → HostS) : (d.modHost f).state = d.state := rfl

@[simp] theorem modCore_frame (d : Dev) (i : Nat) (f : CoreS → CoreS) :
    (d.modCore i f).regs = d.regs ∧ (d.modCore i f).keys = d.keys ∧ (d.modCore i f).mem = d.mem ∧ (d.modCore i f).now = d.now ∧
    (d.modCore i f).fresh = d.fresh ∧ (d.modCore i f).bus = d.bus ∧ (d.modCore i f).tile = d.tile ∧
    (d.modCore i f).conv = d.conv ∧ (d.modCore i f).disch = d.disch ∧ (d.modCore i f).fc = d.fc ∧ (d.modCore i f).tb = d.tb ∧
    (d.modCore i f).proof = d.proof ∧ (d.modCore i f).gal = d.gal ∧ (d.modCore i f).af = d.af ∧ (d.modCore i f).adc = d.adc ∧
    (d.modCore i f).bin = d.bin ∧ (d.modCore i f).ring = d.ring ∧ (d.modCore i f).ow = d.ow ∧ (d.modCore i f).mon = d.mon ∧
    (d.modCore i f).dom = d.dom ∧ (d.modCore i f).chg = d.chg ∧ (d.modCore i f).gauge = d.gauge ∧
    (d.modCore i f).supply = d.supply ∧ (d.modCore i f).seq = d.seq ∧ (d.modCore i f).cel = d.cel ∧
    (d.modCore i f).boot = d.boot ∧ (d.modCore i f).mram = d.mram ∧ (d.modCore i f).net = d.net ∧
    (d.modCore i f).check = d.check ∧ (d.modCore i f).host = d.host := by
  refine ⟨rfl, rfl, rfl, rfl, rfl, rfl, rfl, rfl, rfl, rfl, rfl, rfl, rfl, rfl, rfl, rfl, rfl, rfl, rfl, rfl, rfl, rfl, rfl, rfl, rfl, rfl, rfl, rfl, rfl, rfl⟩
@[simp] theorem reg_modCore (d : Dev) (i : Nat) (f : CoreS → CoreS) (p o b : Nat) : (d.modCore i f).reg p o b = d.reg p o b := rfl
@[simp] theorem fld_modCore (d : Dev) (i : Nat) (f : CoreS → CoreS) (p : Nat) (x : Fld) : (d.modCore i f).fld p x = d.fld p x := rfl
@[simp] theorem flag_modCore (d : Dev) (i : Nat) (f : CoreS → CoreS) (p : Nat) (x : Fld) : (d.modCore i f).flag p x = d.flag p x := rfl
@[simp] theorem state_modCore (d : Dev) (i : Nat) (f : CoreS → CoreS) : (d.modCore i f).state = d.state := rfl

@[simp] theorem modAdc_frame (d : Dev) (c : Nat) (f : AdcS → AdcS) :
    (d.modAdc c f).regs = d.regs ∧ (d.modAdc c f).keys = d.keys ∧ (d.modAdc c f).mem = d.mem ∧ (d.modAdc c f).now = d.now ∧
    (d.modAdc c f).fresh = d.fresh ∧ (d.modAdc c f).bus = d.bus ∧ (d.modAdc c f).tile = d.tile ∧ (d.modAdc c f).conv = d.conv ∧
    (d.modAdc c f).disch = d.disch ∧ (d.modAdc c f).fc = d.fc ∧ (d.modAdc c f).tb = d.tb ∧ (d.modAdc c f).proof = d.proof ∧
    (d.modAdc c f).gal = d.gal ∧ (d.modAdc c f).af = d.af ∧ (d.modAdc c f).bin = d.bin ∧ (d.modAdc c f).ring = d.ring ∧
    (d.modAdc c f).ow = d.ow ∧ (d.modAdc c f).mon = d.mon ∧ (d.modAdc c f).dom = d.dom ∧ (d.modAdc c f).chg = d.chg ∧
    (d.modAdc c f).gauge = d.gauge ∧ (d.modAdc c f).supply = d.supply ∧ (d.modAdc c f).seq = d.seq ∧
    (d.modAdc c f).cel = d.cel ∧ (d.modAdc c f).boot = d.boot ∧ (d.modAdc c f).comp = d.comp ∧ (d.modAdc c f).mram = d.mram ∧
    (d.modAdc c f).net = d.net ∧ (d.modAdc c f).check = d.check ∧ (d.modAdc c f).host = d.host ∧
    (d.modAdc c f).adc = vmod d.adc c f := by
  refine ⟨rfl, rfl, rfl, rfl, rfl, rfl, rfl, rfl, rfl, rfl, rfl, rfl, rfl, rfl, rfl, rfl, rfl, rfl, rfl, rfl, rfl, rfl, rfl, rfl, rfl, rfl, rfl, rfl, rfl, rfl, rfl⟩
@[simp] theorem reg_modAdc (d : Dev) (c : Nat) (f : AdcS → AdcS) (p o b : Nat) : (d.modAdc c f).reg p o b = d.reg p o b := rfl
@[simp] theorem fld_modAdc (d : Dev) (c : Nat) (f : AdcS → AdcS) (p : Nat) (x : Fld) : (d.modAdc c f).fld p x = d.fld p x := rfl
@[simp] theorem flag_modAdc (d : Dev) (c : Nat) (f : AdcS → AdcS) (p : Nat) (x : Fld) : (d.modAdc c f).flag p x = d.flag p x := rfl
@[simp] theorem state_modAdc (d : Dev) (c : Nat) (f : AdcS → AdcS) : (d.modAdc c f).state = d.state := rfl

@[simp] theorem modMram_frame (d : Dev) (f : MramS → MramS) :
    (d.modMram f).regs = d.regs ∧ (d.modMram f).keys = d.keys ∧ (d.modMram f).mem = d.mem ∧ (d.modMram f).now = d.now ∧
    (d.modMram f).fresh = d.fresh ∧ (d.modMram f).bus = d.bus ∧ (d.modMram f).tile = d.tile ∧ (d.modMram f).conv = d.conv ∧
    (d.modMram f).disch = d.disch ∧ (d.modMram f).fc = d.fc ∧ (d.modMram f).tb = d.tb ∧ (d.modMram f).proof = d.proof ∧
    (d.modMram f).gal = d.gal ∧ (d.modMram f).af = d.af ∧ (d.modMram f).adc = d.adc ∧ (d.modMram f).bin = d.bin ∧
    (d.modMram f).ring = d.ring ∧ (d.modMram f).ow = d.ow ∧ (d.modMram f).mon = d.mon ∧ (d.modMram f).dom = d.dom ∧
    (d.modMram f).chg = d.chg ∧ (d.modMram f).gauge = d.gauge ∧ (d.modMram f).supply = d.supply ∧ (d.modMram f).seq = d.seq ∧
    (d.modMram f).cel = d.cel ∧ (d.modMram f).boot = d.boot ∧ (d.modMram f).comp = d.comp ∧ (d.modMram f).net = d.net ∧
    (d.modMram f).check = d.check ∧ (d.modMram f).host = d.host ∧ (d.modMram f).mram = f d.mram := by
  refine ⟨rfl, rfl, rfl, rfl, rfl, rfl, rfl, rfl, rfl, rfl, rfl, rfl, rfl, rfl, rfl, rfl, rfl, rfl, rfl, rfl, rfl, rfl, rfl, rfl, rfl, rfl, rfl, rfl, rfl, rfl, rfl⟩
@[simp] theorem reg_modMram (d : Dev) (f : MramS → MramS) (p o b : Nat) : (d.modMram f).reg p o b = d.reg p o b := rfl
@[simp] theorem fld_modMram (d : Dev) (f : MramS → MramS) (p : Nat) (x : Fld) : (d.modMram f).fld p x = d.fld p x := rfl
@[simp] theorem flag_modMram (d : Dev) (f : MramS → MramS) (p : Nat) (x : Fld) : (d.modMram f).flag p x = d.flag p x := rfl
@[simp] theorem state_modMram (d : Dev) (f : MramS → MramS) : (d.modMram f).state = d.state := rfl

@[simp] theorem modNet_frame (d : Dev) (c : Net) (f : NetS → NetS) :
    (d.modNet c f).regs = d.regs ∧ (d.modNet c f).keys = d.keys ∧ (d.modNet c f).mem = d.mem ∧ (d.modNet c f).now = d.now ∧
    (d.modNet c f).fresh = d.fresh ∧ (d.modNet c f).bus = d.bus ∧ (d.modNet c f).tile = d.tile ∧ (d.modNet c f).conv = d.conv ∧
    (d.modNet c f).disch = d.disch ∧ (d.modNet c f).fc = d.fc ∧ (d.modNet c f).tb = d.tb ∧ (d.modNet c f).proof = d.proof ∧
    (d.modNet c f).gal = d.gal ∧ (d.modNet c f).af = d.af ∧ (d.modNet c f).adc = d.adc ∧ (d.modNet c f).bin = d.bin ∧
    (d.modNet c f).ring = d.ring ∧ (d.modNet c f).ow = d.ow ∧ (d.modNet c f).mon = d.mon ∧ (d.modNet c f).dom = d.dom ∧
    (d.modNet c f).chg = d.chg ∧ (d.modNet c f).gauge = d.gauge ∧ (d.modNet c f).supply = d.supply ∧
    (d.modNet c f).seq = d.seq ∧ (d.modNet c f).cel = d.cel ∧ (d.modNet c f).boot = d.boot ∧ (d.modNet c f).comp = d.comp ∧
    (d.modNet c f).mram = d.mram ∧ (d.modNet c f).check = d.check ∧ (d.modNet c f).host = d.host ∧
    (d.modNet c f).net = vmod d.net (netNo c) f := by
  refine ⟨rfl, rfl, rfl, rfl, rfl, rfl, rfl, rfl, rfl, rfl, rfl, rfl, rfl, rfl, rfl, rfl, rfl, rfl, rfl, rfl, rfl, rfl, rfl, rfl, rfl, rfl, rfl, rfl, rfl, rfl, rfl⟩
@[simp] theorem reg_modNet (d : Dev) (c : Net) (f : NetS → NetS) (p o b : Nat) : (d.modNet c f).reg p o b = d.reg p o b := rfl
@[simp] theorem fld_modNet (d : Dev) (c : Net) (f : NetS → NetS) (p : Nat) (x : Fld) : (d.modNet c f).fld p x = d.fld p x := rfl
@[simp] theorem flag_modNet (d : Dev) (c : Net) (f : NetS → NetS) (p : Nat) (x : Fld) : (d.modNet c f).flag p x = d.flag p x := rfl
@[simp] theorem state_modNet (d : Dev) (c : Net) (f : NetS → NetS) : (d.modNet c f).state = d.state := rfl

@[simp] theorem modTile_frame (d : Dev) (n : Nat) (f : TileS → TileS) :
    (d.modTile n f).regs = d.regs ∧ (d.modTile n f).keys = d.keys ∧ (d.modTile n f).mem = d.mem ∧ (d.modTile n f).now = d.now ∧
    (d.modTile n f).fresh = d.fresh ∧ (d.modTile n f).bus = d.bus ∧ (d.modTile n f).conv = d.conv ∧
    (d.modTile n f).disch = d.disch ∧ (d.modTile n f).fc = d.fc ∧ (d.modTile n f).tb = d.tb ∧ (d.modTile n f).proof = d.proof ∧
    (d.modTile n f).gal = d.gal ∧ (d.modTile n f).af = d.af ∧ (d.modTile n f).adc = d.adc ∧ (d.modTile n f).bin = d.bin ∧
    (d.modTile n f).ring = d.ring ∧ (d.modTile n f).ow = d.ow ∧ (d.modTile n f).mon = d.mon ∧ (d.modTile n f).dom = d.dom ∧
    (d.modTile n f).chg = d.chg ∧ (d.modTile n f).gauge = d.gauge ∧ (d.modTile n f).supply = d.supply ∧
    (d.modTile n f).seq = d.seq ∧ (d.modTile n f).cel = d.cel ∧ (d.modTile n f).boot = d.boot ∧ (d.modTile n f).comp = d.comp ∧
    (d.modTile n f).mram = d.mram ∧ (d.modTile n f).net = d.net ∧ (d.modTile n f).check = d.check ∧
    (d.modTile n f).host = d.host ∧ (d.modTile n f).tile = vmod d.tile n f := by
  refine ⟨rfl, rfl, rfl, rfl, rfl, rfl, rfl, rfl, rfl, rfl, rfl, rfl, rfl, rfl, rfl, rfl, rfl, rfl, rfl, rfl, rfl, rfl, rfl, rfl, rfl, rfl, rfl, rfl, rfl, rfl, rfl⟩
@[simp] theorem reg_modTile (d : Dev) (n : Nat) (f : TileS → TileS) (p o b : Nat) : (d.modTile n f).reg p o b = d.reg p o b := rfl
@[simp] theorem fld_modTile (d : Dev) (n : Nat) (f : TileS → TileS) (p : Nat) (x : Fld) : (d.modTile n f).fld p x = d.fld p x := rfl
@[simp] theorem flag_modTile (d : Dev) (n : Nat) (f : TileS → TileS) (p : Nat) (x : Fld) : (d.modTile n f).flag p x = d.flag p x := rfl
@[simp] theorem state_modTile (d : Dev) (n : Nat) (f : TileS → TileS) : (d.modTile n f).state = d.state := rfl

@[simp] theorem modConv_frame (d : Dev) (n : Nat) (f : ConvS → ConvS) :
    (d.modConv n f).regs = d.regs ∧ (d.modConv n f).keys = d.keys ∧ (d.modConv n f).mem = d.mem ∧ (d.modConv n f).now = d.now ∧
    (d.modConv n f).fresh = d.fresh ∧ (d.modConv n f).bus = d.bus ∧ (d.modConv n f).tile = d.tile ∧
    (d.modConv n f).disch = d.disch ∧ (d.modConv n f).fc = d.fc ∧ (d.modConv n f).tb = d.tb ∧ (d.modConv n f).proof = d.proof ∧
    (d.modConv n f).gal = d.gal ∧ (d.modConv n f).af = d.af ∧ (d.modConv n f).adc = d.adc ∧ (d.modConv n f).bin = d.bin ∧
    (d.modConv n f).ring = d.ring ∧ (d.modConv n f).ow = d.ow ∧ (d.modConv n f).mon = d.mon ∧ (d.modConv n f).dom = d.dom ∧
    (d.modConv n f).chg = d.chg ∧ (d.modConv n f).gauge = d.gauge ∧ (d.modConv n f).supply = d.supply ∧
    (d.modConv n f).seq = d.seq ∧ (d.modConv n f).cel = d.cel ∧ (d.modConv n f).boot = d.boot ∧ (d.modConv n f).comp = d.comp ∧
    (d.modConv n f).mram = d.mram ∧ (d.modConv n f).net = d.net ∧ (d.modConv n f).check = d.check ∧
    (d.modConv n f).host = d.host ∧ (d.modConv n f).conv = vmod d.conv n f := by
  refine ⟨rfl, rfl, rfl, rfl, rfl, rfl, rfl, rfl, rfl, rfl, rfl, rfl, rfl, rfl, rfl, rfl, rfl, rfl, rfl, rfl, rfl, rfl, rfl, rfl, rfl, rfl, rfl, rfl, rfl, rfl, rfl⟩
@[simp] theorem reg_modConv (d : Dev) (n : Nat) (f : ConvS → ConvS) (p o b : Nat) : (d.modConv n f).reg p o b = d.reg p o b := rfl
@[simp] theorem fld_modConv (d : Dev) (n : Nat) (f : ConvS → ConvS) (p : Nat) (x : Fld) : (d.modConv n f).fld p x = d.fld p x := rfl
@[simp] theorem flag_modConv (d : Dev) (n : Nat) (f : ConvS → ConvS) (p : Nat) (x : Fld) : (d.modConv n f).flag p x = d.flag p x := rfl
@[simp] theorem state_modConv (d : Dev) (n : Nat) (f : ConvS → ConvS) : (d.modConv n f).state = d.state := rfl

@[simp] theorem modBoot_frame (d : Dev) (f : BootS → BootS) :
    (d.modBoot f).regs = d.regs ∧ (d.modBoot f).keys = d.keys ∧ (d.modBoot f).mem = d.mem ∧ (d.modBoot f).now = d.now ∧
    (d.modBoot f).fresh = d.fresh ∧ (d.modBoot f).bus = d.bus ∧ (d.modBoot f).tile = d.tile ∧ (d.modBoot f).conv = d.conv ∧
    (d.modBoot f).disch = d.disch ∧ (d.modBoot f).fc = d.fc ∧ (d.modBoot f).tb = d.tb ∧ (d.modBoot f).proof = d.proof ∧
    (d.modBoot f).gal = d.gal ∧ (d.modBoot f).af = d.af ∧ (d.modBoot f).adc = d.adc ∧ (d.modBoot f).bin = d.bin ∧
    (d.modBoot f).ring = d.ring ∧ (d.modBoot f).ow = d.ow ∧ (d.modBoot f).mon = d.mon ∧ (d.modBoot f).dom = d.dom ∧
    (d.modBoot f).chg = d.chg ∧ (d.modBoot f).gauge = d.gauge ∧ (d.modBoot f).supply = d.supply ∧ (d.modBoot f).seq = d.seq ∧
    (d.modBoot f).cel = d.cel ∧ (d.modBoot f).comp = d.comp ∧ (d.modBoot f).mram = d.mram ∧ (d.modBoot f).net = d.net ∧
    (d.modBoot f).check = d.check ∧ (d.modBoot f).host = d.host ∧ (d.modBoot f).boot = f d.boot := by
  refine ⟨rfl, rfl, rfl, rfl, rfl, rfl, rfl, rfl, rfl, rfl, rfl, rfl, rfl, rfl, rfl, rfl, rfl, rfl, rfl, rfl, rfl, rfl, rfl, rfl, rfl, rfl, rfl, rfl, rfl, rfl, rfl⟩
@[simp] theorem reg_modBoot (d : Dev) (f : BootS → BootS) (p o b : Nat) : (d.modBoot f).reg p o b = d.reg p o b := rfl
@[simp] theorem fld_modBoot (d : Dev) (f : BootS → BootS) (p : Nat) (x : Fld) : (d.modBoot f).fld p x = d.fld p x := rfl
@[simp] theorem flag_modBoot (d : Dev) (f : BootS → BootS) (p : Nat) (x : Fld) : (d.modBoot f).flag p x = d.flag p x := rfl
@[simp] theorem state_modBoot (d : Dev) (f : BootS → BootS) : (d.modBoot f).state = d.state := rfl

@[simp] theorem modRing_frame (d : Dev) (n : Nat) (f : RingS → RingS) :
    (d.modRing n f).regs = d.regs ∧ (d.modRing n f).keys = d.keys ∧ (d.modRing n f).mem = d.mem ∧ (d.modRing n f).now = d.now ∧
    (d.modRing n f).fresh = d.fresh ∧ (d.modRing n f).bus = d.bus ∧ (d.modRing n f).tile = d.tile ∧
    (d.modRing n f).conv = d.conv ∧ (d.modRing n f).disch = d.disch ∧ (d.modRing n f).fc = d.fc ∧ (d.modRing n f).tb = d.tb ∧
    (d.modRing n f).proof = d.proof ∧ (d.modRing n f).gal = d.gal ∧ (d.modRing n f).af = d.af ∧ (d.modRing n f).adc = d.adc ∧
    (d.modRing n f).bin = d.bin ∧ (d.modRing n f).ow = d.ow ∧ (d.modRing n f).mon = d.mon ∧ (d.modRing n f).dom = d.dom ∧
    (d.modRing n f).chg = d.chg ∧ (d.modRing n f).gauge = d.gauge ∧ (d.modRing n f).supply = d.supply ∧
    (d.modRing n f).seq = d.seq ∧ (d.modRing n f).cel = d.cel ∧ (d.modRing n f).boot = d.boot ∧ (d.modRing n f).comp = d.comp ∧
    (d.modRing n f).mram = d.mram ∧ (d.modRing n f).net = d.net ∧ (d.modRing n f).check = d.check ∧
    (d.modRing n f).host = d.host ∧ (d.modRing n f).ring = vmod d.ring n f := by
  refine ⟨rfl, rfl, rfl, rfl, rfl, rfl, rfl, rfl, rfl, rfl, rfl, rfl, rfl, rfl, rfl, rfl, rfl, rfl, rfl, rfl, rfl, rfl, rfl, rfl, rfl, rfl, rfl, rfl, rfl, rfl, rfl⟩
@[simp] theorem reg_modRing (d : Dev) (n : Nat) (f : RingS → RingS) (p o b : Nat) : (d.modRing n f).reg p o b = d.reg p o b := rfl
@[simp] theorem fld_modRing (d : Dev) (n : Nat) (f : RingS → RingS) (p : Nat) (x : Fld) : (d.modRing n f).fld p x = d.fld p x := rfl
@[simp] theorem flag_modRing (d : Dev) (n : Nat) (f : RingS → RingS) (p : Nat) (x : Fld) : (d.modRing n f).flag p x = d.flag p x := rfl
@[simp] theorem state_modRing (d : Dev) (n : Nat) (f : RingS → RingS) : (d.modRing n f).state = d.state := rfl

@[simp] theorem modSeq_frame (d : Dev) (f : SeqS → SeqS) :
    (d.modSeq f).regs = d.regs ∧ (d.modSeq f).keys = d.keys ∧ (d.modSeq f).mem = d.mem ∧ (d.modSeq f).now = d.now ∧
    (d.modSeq f).fresh = d.fresh ∧ (d.modSeq f).bus = d.bus ∧ (d.modSeq f).tile = d.tile ∧ (d.modSeq f).conv = d.conv ∧
    (d.modSeq f).disch = d.disch ∧ (d.modSeq f).fc = d.fc ∧ (d.modSeq f).tb = d.tb ∧ (d.modSeq f).proof = d.proof ∧
    (d.modSeq f).gal = d.gal ∧ (d.modSeq f).af = d.af ∧ (d.modSeq f).adc = d.adc ∧ (d.modSeq f).bin = d.bin ∧
    (d.modSeq f).ring = d.ring ∧ (d.modSeq f).ow = d.ow ∧ (d.modSeq f).mon = d.mon ∧ (d.modSeq f).dom = d.dom ∧
    (d.modSeq f).chg = d.chg ∧ (d.modSeq f).gauge = d.gauge ∧ (d.modSeq f).supply = d.supply ∧ (d.modSeq f).cel = d.cel ∧
    (d.modSeq f).boot = d.boot ∧ (d.modSeq f).comp = d.comp ∧ (d.modSeq f).mram = d.mram ∧ (d.modSeq f).net = d.net ∧
    (d.modSeq f).check = d.check ∧ (d.modSeq f).host = d.host ∧ (d.modSeq f).seq = f d.seq := by
  refine ⟨rfl, rfl, rfl, rfl, rfl, rfl, rfl, rfl, rfl, rfl, rfl, rfl, rfl, rfl, rfl, rfl, rfl, rfl, rfl, rfl, rfl, rfl, rfl, rfl, rfl, rfl, rfl, rfl, rfl, rfl, rfl⟩
@[simp] theorem reg_modSeq (d : Dev) (f : SeqS → SeqS) (p o b : Nat) : (d.modSeq f).reg p o b = d.reg p o b := rfl
@[simp] theorem fld_modSeq (d : Dev) (f : SeqS → SeqS) (p : Nat) (x : Fld) : (d.modSeq f).fld p x = d.fld p x := rfl
@[simp] theorem flag_modSeq (d : Dev) (f : SeqS → SeqS) (p : Nat) (x : Fld) : (d.modSeq f).flag p x = d.flag p x := rfl
@[simp] theorem state_modSeq (d : Dev) (f : SeqS → SeqS) : (d.modSeq f).state = d.state := rfl

@[simp] theorem modSupply_frame (d : Dev) (f : SupplyS → SupplyS) :
    (d.modSupply f).regs = d.regs ∧ (d.modSupply f).keys = d.keys ∧ (d.modSupply f).mem = d.mem ∧ (d.modSupply f).now = d.now ∧
    (d.modSupply f).fresh = d.fresh ∧ (d.modSupply f).bus = d.bus ∧ (d.modSupply f).tile = d.tile ∧
    (d.modSupply f).conv = d.conv ∧ (d.modSupply f).disch = d.disch ∧ (d.modSupply f).fc = d.fc ∧ (d.modSupply f).tb = d.tb ∧
    (d.modSupply f).proof = d.proof ∧ (d.modSupply f).gal = d.gal ∧ (d.modSupply f).af = d.af ∧ (d.modSupply f).adc = d.adc ∧
    (d.modSupply f).bin = d.bin ∧ (d.modSupply f).ring = d.ring ∧ (d.modSupply f).ow = d.ow ∧ (d.modSupply f).mon = d.mon ∧
    (d.modSupply f).dom = d.dom ∧ (d.modSupply f).chg = d.chg ∧ (d.modSupply f).gauge = d.gauge ∧ (d.modSupply f).seq = d.seq ∧
    (d.modSupply f).cel = d.cel ∧ (d.modSupply f).boot = d.boot ∧ (d.modSupply f).comp = d.comp ∧
    (d.modSupply f).mram = d.mram ∧ (d.modSupply f).net = d.net ∧ (d.modSupply f).check = d.check ∧
    (d.modSupply f).host = d.host ∧ (d.modSupply f).supply = f d.supply := by
  refine ⟨rfl, rfl, rfl, rfl, rfl, rfl, rfl, rfl, rfl, rfl, rfl, rfl, rfl, rfl, rfl, rfl, rfl, rfl, rfl, rfl, rfl, rfl, rfl, rfl, rfl, rfl, rfl, rfl, rfl, rfl, rfl⟩
@[simp] theorem reg_modSupply (d : Dev) (f : SupplyS → SupplyS) (p o b : Nat) : (d.modSupply f).reg p o b = d.reg p o b := rfl
@[simp] theorem fld_modSupply (d : Dev) (f : SupplyS → SupplyS) (p : Nat) (x : Fld) : (d.modSupply f).fld p x = d.fld p x := rfl
@[simp] theorem flag_modSupply (d : Dev) (f : SupplyS → SupplyS) (p : Nat) (x : Fld) : (d.modSupply f).flag p x = d.flag p x := rfl
@[simp] theorem state_modSupply (d : Dev) (f : SupplyS → SupplyS) : (d.modSupply f).state = d.state := rfl

@[simp] theorem modBuck_frame (d : Dev) (n : Nat) (f : BuckS → BuckS) :
    (d.modBuck n f).regs = d.regs ∧ (d.modBuck n f).keys = d.keys ∧ (d.modBuck n f).mem = d.mem ∧ (d.modBuck n f).now = d.now ∧
    (d.modBuck n f).fresh = d.fresh ∧ (d.modBuck n f).bus = d.bus ∧ (d.modBuck n f).tile = d.tile ∧
    (d.modBuck n f).conv = d.conv ∧ (d.modBuck n f).disch = d.disch ∧ (d.modBuck n f).fc = d.fc ∧ (d.modBuck n f).tb = d.tb ∧
    (d.modBuck n f).proof = d.proof ∧ (d.modBuck n f).gal = d.gal ∧ (d.modBuck n f).af = d.af ∧ (d.modBuck n f).adc = d.adc ∧
    (d.modBuck n f).bin = d.bin ∧ (d.modBuck n f).ring = d.ring ∧ (d.modBuck n f).ow = d.ow ∧ (d.modBuck n f).mon = d.mon ∧
    (d.modBuck n f).dom = d.dom ∧ (d.modBuck n f).chg = d.chg ∧ (d.modBuck n f).gauge = d.gauge ∧ (d.modBuck n f).seq = d.seq ∧
    (d.modBuck n f).cel = d.cel ∧ (d.modBuck n f).boot = d.boot ∧ (d.modBuck n f).comp = d.comp ∧
    (d.modBuck n f).mram = d.mram ∧ (d.modBuck n f).net = d.net ∧ (d.modBuck n f).check = d.check ∧
    (d.modBuck n f).host = d.host := by
  refine ⟨rfl, rfl, rfl, rfl, rfl, rfl, rfl, rfl, rfl, rfl, rfl, rfl, rfl, rfl, rfl, rfl, rfl, rfl, rfl, rfl, rfl, rfl, rfl, rfl, rfl, rfl, rfl, rfl, rfl, rfl⟩
@[simp] theorem reg_modBuck (d : Dev) (n : Nat) (f : BuckS → BuckS) (p o b : Nat) : (d.modBuck n f).reg p o b = d.reg p o b := rfl
@[simp] theorem fld_modBuck (d : Dev) (n : Nat) (f : BuckS → BuckS) (p : Nat) (x : Fld) : (d.modBuck n f).fld p x = d.fld p x := rfl
@[simp] theorem flag_modBuck (d : Dev) (n : Nat) (f : BuckS → BuckS) (p : Nat) (x : Fld) : (d.modBuck n f).flag p x = d.flag p x := rfl
@[simp] theorem state_modBuck (d : Dev) (n : Nat) (f : BuckS → BuckS) : (d.modBuck n f).state = d.state := rfl

@[simp] theorem modBoost_frame (d : Dev) (f : BoostS → BoostS) :
    (d.modBoost f).regs = d.regs ∧ (d.modBoost f).keys = d.keys ∧ (d.modBoost f).mem = d.mem ∧ (d.modBoost f).now = d.now ∧
    (d.modBoost f).fresh = d.fresh ∧ (d.modBoost f).bus = d.bus ∧ (d.modBoost f).tile = d.tile ∧ (d.modBoost f).conv = d.conv ∧
    (d.modBoost f).disch = d.disch ∧ (d.modBoost f).fc = d.fc ∧ (d.modBoost f).tb = d.tb ∧ (d.modBoost f).proof = d.proof ∧
    (d.modBoost f).gal = d.gal ∧ (d.modBoost f).af = d.af ∧ (d.modBoost f).adc = d.adc ∧ (d.modBoost f).bin = d.bin ∧
    (d.modBoost f).ring = d.ring ∧ (d.modBoost f).ow = d.ow ∧ (d.modBoost f).mon = d.mon ∧ (d.modBoost f).dom = d.dom ∧
    (d.modBoost f).chg = d.chg ∧ (d.modBoost f).gauge = d.gauge ∧ (d.modBoost f).seq = d.seq ∧ (d.modBoost f).cel = d.cel ∧
    (d.modBoost f).boot = d.boot ∧ (d.modBoost f).comp = d.comp ∧ (d.modBoost f).mram = d.mram ∧ (d.modBoost f).net = d.net ∧
    (d.modBoost f).check = d.check ∧ (d.modBoost f).host = d.host := by
  refine ⟨rfl, rfl, rfl, rfl, rfl, rfl, rfl, rfl, rfl, rfl, rfl, rfl, rfl, rfl, rfl, rfl, rfl, rfl, rfl, rfl, rfl, rfl, rfl, rfl, rfl, rfl, rfl, rfl, rfl, rfl⟩
@[simp] theorem reg_modBoost (d : Dev) (f : BoostS → BoostS) (p o b : Nat) : (d.modBoost f).reg p o b = d.reg p o b := rfl
@[simp] theorem fld_modBoost (d : Dev) (f : BoostS → BoostS) (p : Nat) (x : Fld) : (d.modBoost f).fld p x = d.fld p x := rfl
@[simp] theorem flag_modBoost (d : Dev) (f : BoostS → BoostS) (p : Nat) (x : Fld) : (d.modBoost f).flag p x = d.flag p x := rfl
@[simp] theorem state_modBoost (d : Dev) (f : BoostS → BoostS) : (d.modBoost f).state = d.state := rfl

@[simp] theorem modBak_frame (d : Dev) (f : BakS → BakS) :
    (d.modBak f).regs = d.regs ∧ (d.modBak f).keys = d.keys ∧ (d.modBak f).mem = d.mem ∧ (d.modBak f).now = d.now ∧
    (d.modBak f).fresh = d.fresh ∧ (d.modBak f).bus = d.bus ∧ (d.modBak f).tile = d.tile ∧ (d.modBak f).conv = d.conv ∧
    (d.modBak f).disch = d.disch ∧ (d.modBak f).fc = d.fc ∧ (d.modBak f).tb = d.tb ∧ (d.modBak f).proof = d.proof ∧
    (d.modBak f).gal = d.gal ∧ (d.modBak f).af = d.af ∧ (d.modBak f).adc = d.adc ∧ (d.modBak f).bin = d.bin ∧
    (d.modBak f).ring = d.ring ∧ (d.modBak f).ow = d.ow ∧ (d.modBak f).mon = d.mon ∧ (d.modBak f).dom = d.dom ∧
    (d.modBak f).chg = d.chg ∧ (d.modBak f).gauge = d.gauge ∧ (d.modBak f).seq = d.seq ∧ (d.modBak f).cel = d.cel ∧
    (d.modBak f).boot = d.boot ∧ (d.modBak f).comp = d.comp ∧ (d.modBak f).mram = d.mram ∧ (d.modBak f).net = d.net ∧
    (d.modBak f).check = d.check ∧ (d.modBak f).host = d.host := by
  refine ⟨rfl, rfl, rfl, rfl, rfl, rfl, rfl, rfl, rfl, rfl, rfl, rfl, rfl, rfl, rfl, rfl, rfl, rfl, rfl, rfl, rfl, rfl, rfl, rfl, rfl, rfl, rfl, rfl, rfl, rfl⟩
@[simp] theorem reg_modBak (d : Dev) (f : BakS → BakS) (p o b : Nat) : (d.modBak f).reg p o b = d.reg p o b := rfl
@[simp] theorem fld_modBak (d : Dev) (f : BakS → BakS) (p : Nat) (x : Fld) : (d.modBak f).fld p x = d.fld p x := rfl
@[simp] theorem flag_modBak (d : Dev) (f : BakS → BakS) (p : Nat) (x : Fld) : (d.modBak f).flag p x = d.flag p x := rfl
@[simp] theorem state_modBak (d : Dev) (f : BakS → BakS) : (d.modBak f).state = d.state := rfl

@[simp] theorem modTb_frame (d : Dev) (f : TbS → TbS) :
    (d.modTb f).regs = d.regs ∧ (d.modTb f).keys = d.keys ∧ (d.modTb f).mem = d.mem ∧ (d.modTb f).now = d.now ∧
    (d.modTb f).fresh = d.fresh ∧ (d.modTb f).bus = d.bus ∧ (d.modTb f).tile = d.tile ∧ (d.modTb f).conv = d.conv ∧
    (d.modTb f).disch = d.disch ∧ (d.modTb f).fc = d.fc ∧ (d.modTb f).proof = d.proof ∧ (d.modTb f).gal = d.gal ∧
    (d.modTb f).af = d.af ∧ (d.modTb f).adc = d.adc ∧ (d.modTb f).bin = d.bin ∧ (d.modTb f).ring = d.ring ∧
    (d.modTb f).ow = d.ow ∧ (d.modTb f).mon = d.mon ∧ (d.modTb f).dom = d.dom ∧ (d.modTb f).chg = d.chg ∧
    (d.modTb f).gauge = d.gauge ∧ (d.modTb f).supply = d.supply ∧ (d.modTb f).seq = d.seq ∧ (d.modTb f).cel = d.cel ∧
    (d.modTb f).boot = d.boot ∧ (d.modTb f).comp = d.comp ∧ (d.modTb f).mram = d.mram ∧ (d.modTb f).net = d.net ∧
    (d.modTb f).check = d.check ∧ (d.modTb f).host = d.host ∧ (d.modTb f).tb = f d.tb := by
  refine ⟨rfl, rfl, rfl, rfl, rfl, rfl, rfl, rfl, rfl, rfl, rfl, rfl, rfl, rfl, rfl, rfl, rfl, rfl, rfl, rfl, rfl, rfl, rfl, rfl, rfl, rfl, rfl, rfl, rfl, rfl, rfl⟩
@[simp] theorem reg_modTb (d : Dev) (f : TbS → TbS) (p o b : Nat) : (d.modTb f).reg p o b = d.reg p o b := rfl
@[simp] theorem fld_modTb (d : Dev) (f : TbS → TbS) (p : Nat) (x : Fld) : (d.modTb f).fld p x = d.fld p x := rfl
@[simp] theorem flag_modTb (d : Dev) (f : TbS → TbS) (p : Nat) (x : Fld) : (d.modTb f).flag p x = d.flag p x := rfl
@[simp] theorem state_modTb (d : Dev) (f : TbS → TbS) : (d.modTb f).state = d.state := rfl

@[simp] theorem modMeas_frame (d : Dev) (f : MeasS → MeasS) :
    (d.modMeas f).regs = d.regs ∧ (d.modMeas f).keys = d.keys ∧ (d.modMeas f).mem = d.mem ∧ (d.modMeas f).now = d.now ∧
    (d.modMeas f).fresh = d.fresh ∧ (d.modMeas f).bus = d.bus ∧ (d.modMeas f).tile = d.tile ∧ (d.modMeas f).conv = d.conv ∧
    (d.modMeas f).disch = d.disch ∧ (d.modMeas f).fc = d.fc ∧ (d.modMeas f).tb = d.tb ∧ (d.modMeas f).proof = d.proof ∧
    (d.modMeas f).gal = d.gal ∧ (d.modMeas f).af = d.af ∧ (d.modMeas f).adc = d.adc ∧ (d.modMeas f).bin = d.bin ∧
    (d.modMeas f).ring = d.ring ∧ (d.modMeas f).ow = d.ow ∧ (d.modMeas f).mon = d.mon ∧ (d.modMeas f).dom = d.dom ∧
    (d.modMeas f).chg = d.chg ∧ (d.modMeas f).gauge = d.gauge ∧ (d.modMeas f).supply = d.supply ∧ (d.modMeas f).seq = d.seq ∧
    (d.modMeas f).boot = d.boot ∧ (d.modMeas f).comp = d.comp ∧ (d.modMeas f).mram = d.mram ∧ (d.modMeas f).net = d.net ∧
    (d.modMeas f).check = d.check ∧ (d.modMeas f).host = d.host := by
  refine ⟨rfl, rfl, rfl, rfl, rfl, rfl, rfl, rfl, rfl, rfl, rfl, rfl, rfl, rfl, rfl, rfl, rfl, rfl, rfl, rfl, rfl, rfl, rfl, rfl, rfl, rfl, rfl, rfl, rfl, rfl⟩
@[simp] theorem reg_modMeas (d : Dev) (f : MeasS → MeasS) (p o b : Nat) : (d.modMeas f).reg p o b = d.reg p o b := rfl
@[simp] theorem fld_modMeas (d : Dev) (f : MeasS → MeasS) (p : Nat) (x : Fld) : (d.modMeas f).fld p x = d.fld p x := rfl
@[simp] theorem flag_modMeas (d : Dev) (f : MeasS → MeasS) (p : Nat) (x : Fld) : (d.modMeas f).flag p x = d.flag p x := rfl
@[simp] theorem state_modMeas (d : Dev) (f : MeasS → MeasS) : (d.modMeas f).state = d.state := rfl

end Dev
end Sys2Proof.Machine
end

