-- ==== Sys2Proof/WellFormed.lean ====
section
/-!
DEFINITION. Commands whose operands can occur: lengths of lists, alignment, names that exist. `exec` has a meaning for every
command, well formed or not.
-/
namespace Sys2Proof

open Machine Machine.Dev

/-- Flaws name entries that exist, each at most once (R83). -/
def flawOk (l : List EntryFlaw) : Bool := l.all (fun f => decide (f.entry < 16384)) && decide (l.map (·.entry)).Nodup

/-- The operands of a command can occur. -/
def Instr.wf (i : Instr) : Bool :=
  match i with
  | .cellarPowerOn => true
  | .cellarOff => true
  | .islandPowerOn _ => true
  | .vsysQualified => true
  | .brownOut => true
  | .pwronWaitExpiry => true
  | .arm _ => true
  | .disarm _ => true
  | .hibernate _ => true
  | .cellar _ => true
  | .safeExit _ => true
  | .reset _ => true
  | .sysCmdInvalid _ w => !(w.toNat / 65536 == 0x5A3C && decide (1 ≤ w.toNat % 256) && decide (w.toNat % 256 ≤ 6))
  | .claim _ page tag => (pageKey page.toNat).isSome && tag != 0
  | .release _ page tag => (pageKey page.toNat).isSome && tag != 0
  | .claimSet _ _ tag => tag != 0
  | .releaseSet _ _ tag => tag != 0
  | .registerWrite _ a _ f => decide (a.toNat % 4 = 0) && flawOk f.flaws
  | .enableWrite _ page _ => (pageOf page.toNat).isSome
  | .softReset _ page _ => (pageOf page.toNat).isSome
  | .lockSet _ page => (pageOf page.toNat).isSome
  | .eventSet _ page _ => (pageOf page.toNat).isSome
  | .faultClear _ page _ => (pageOf page.toNat).isSome
  | .angleRead _ => true
  | .timebaseEnable _ _ fl => flawOk fl
  | .sourceRequest _ _ => true
  | .freqWrite _ _ _ => true
  | .angleSlot fl => flawOk fl
  | .folioBoundary fl => flawOk fl
  | .pllUpdate _ _ _ _ => true
  | .pllLockDeclared => true
  | .lossOfGrid => true
  | .phaseJump => true
  | .masterJump => true
  | .syncinEdge _ => true
  | .syncLockAcquired => true
  | .syncLoss => true
  | .fmarkFrameReceived _ _ _ fl => flawOk fl
  | .fmarkTimeout => true
  | .proofTake _ => true
  | .proofPeriodic => true
  | .proofHoldWrite _ _ => true
  | .holdExpired => true
  | .galleyEnable _ _ => true
  | .galleyEntryWrite _ _ _ => true
  | .galleyEntryRead _ _ _ => true
  | .impose _ _ => true
  | .imposeCancel _ _ => true
  | .imposeScanDone fl => flawOk fl
  | .whitelistWrite _ _ _ _ => true
  | .galleySlot => true
  | .tileEnable _ _ _ => true
  | .tilePeriodStart _ => true
  | .ncycReached _ => true
  | .calRun _ _ _ => true
  | .calInterval _ => true
  | .calDone _ _ => true
  | .comparatorCrossing _ _ _ _ => true
  | .blankingEnd _ _ _ => true
  | .outputMismatch _ _ => true
  | .convEnable _ _ _ => true
  | .groupGo _ _ _ => true
  | .groupStart _ => true
  | .groupUpdatePoint _ => true
  | .lawSample _ => true
  | .refWrite _ _ _ => true
  | .lawLoad _ _ => true
  | .lawClear _ _ => true
  | .hiccupOffExpiry _ => true
  | .hiccupCleanExpiry _ => true
  | .phaseFailureDecision _ => true
  | .unlatch _ _ => true
  | .convRestore _ _ => true
  | .dischDisarmTrigger => true
  | .dischStart _ => true
  | .dischStop _ => true
  | .circulate _ => true
  | .test _ => true
  | .dischTestDone _ => true
  | .dischHoldExpiry => true
  | .dischTimeout => true
  | .dischOutput _ => true
  | .adcEnable _ _ _ => true
  | .conversionResult _ _ _ => true
  | .lpExit _ => true
  | .binClose _ => true
  | .binChannelEnable _ _ _ => true
  | .streamEnable _ _ _ _ => true
  | .piWrite _ _ _ => true
  | .ciWrite _ _ _ => true
  | .clrOvf _ _ => true
  | .ringEnable _ _ _ => true
  | .monitorConversion _ _ _ => true
  | .hibScanCycle vals => decide (vals.length ≤ 40)
  | .monStall => true
  | .adcStall _ => true
  | .owRoundStart => true
  | .owSettleSample => true
  | .chgEnable _ _ => true
  | .chgTick _ => true
  | .chgTimerExpiry => true
  | .stepExit => true
  | .prechargeTimeout => true
  | .orderlyEndTimeout => true
  | .gridWaitExpiry => true
  | .resumeDelayExpiry => true
  | .s2Timeout => true
  | .pilotPeriod _ _ on total => decide (on.toNat ≤ total.toNat)
  | .pilotStateChange => true
  | .dutyUpdate _ => true
  | .bmsInWrite _ _ => true
  | .chgStart _ => true
  | .pause _ => true
  | .resume _ => true
  | .chgStop _ => true
  | .v2l _ => true
  | .v2v _ => true
  | .clear _ => true
  | .restart _ => true
  | .gaugeEnable _ _ => true
  | .gaugeTick _ => true
  | .filterRun => true
  | .gaugeDrift => true
  | .recordPublish => true
  | .recAck _ _ => true
  | .gaugeRestore _ => true
  | .init _ => true
  | .discard _ => true
  | .publish _ => true
  | .unfreeze _ => true
  | .iwake _ _ _ => true
  | .vinOkSet _ _ _ => true
  | .vinLost _ _ => true
  | .offRequest => true
  | .chargerTick _ _ => true
  | .tbakMeasurement _ => true
  | .bakTimerExpiry => true
  | .bakRestart _ => true
  | .relCurrentLimit => true
  | .relTimeLimit => true
  | .relUvPause _ => true
  | .relUvResume _ => true
  | .relCoolEnd => true
  | .buckHiccup _ _ => true
  | .buckHiccupRestart _ => true
  | .buckCleanRun _ => true
  | .supplyUnlatch _ _ => true
  | .buckBurstEntry _ => true
  | .buckBurstWake _ _ => true
  | .regSyncLoss _ => true
  | .ldoIlim _ => true
  | .sysclkToPll => true
  | .xtalQualifyTimeout => true
  | .xtalLoss => true
  | .xtalBack => true
  | .pllLoss => true
  | .clockMonitorAlarm _ _ => true
  | .x32Loss => true
  | .x32Recovery => true
  | .stepEnd _ diff => diff.all (fun x => decide (x.1 < 1024))
  | .stepEnable => true
  | .stepDisable => true
  | .stepWait => true
  | .waitExpiry => true
  | .stepWaitv => true
  | .waitvTimeout => true
  | .stepCheck => true
  | .stepJump => true
  | .stepStair => true
  | .stairRise => true
  | .stairTimeout => true
  | .stepReset => true
  | .rstoutRelease _ => true
  | .stepMark => true
  | .stepInvalid => true
  | .domainOn _ => true
  | .railUv _ => true
  | .railOv _ => true
  | .domOffTimeout _ => true
  | .holdOffEnd => true
  | .runAux _ _ => true
  | .goSet _ _ => true
  | .stopAux _ => true
  | .cellarWriteSync _ _ => true
  | .secRead _ _ => true
  | .secondRollover => true
  | .commit _ => true
  | .commitApply => true
  | .trimWrite _ _ => true
  | .measStart _ => true
  | .measStop _ => true
  | .nrefCapture _ _ => true
  | .measIntervalEnd _ => true
  | .wakeInput _ _ _ => true
  | .pilotDetectorChange _ _ => true
  | .pwronAssert _ => true
  | .pwronRelease _ => true
  | .pwronPulseEnd => true
  | .faultEvent src _ _ => (sourceOf src.val).isSome
  | .historyRecord => true
  | .histRdWrite _ _ => true
  | .sevWrite _ _ _ => true
  | .quietPeriodElapsed => true
  | .recovWindowEnd => true
  | .clrFf _ => true
  | .clrRecov _ => true
  | .clrLost _ => true
  | .inject _ _ => true
  | .reactionCheck _ _ _ => true
  | .deviceResetByReaction => true
  | .configCompare _ => true
  | .islandCompareMismatch _ => true
  | .referenceCompare _ => true
  | .aliveReadback _ _ => true
  | .faultnReadback _ _ => true
  | .pathtest _ _ => true
  | .selftestRun => true
  | .selftestDone _ _ => true
  | .scaoloArm _ => true
  | .bootHeader _ bytes => bytes.length == 2304
  | .bootSegment _ _ len bytes => decide (1 ≤ len.toNat) && decide (len.toNat ≤ 16384) && bytes.length == 4 * len.toNat
  | .bootColophon _ bytes => bytes.length == 176
  | .colophonVerified => true
  | .bootRelease => true
  | .bootTransferTimeout => true
  | .bootHoldoffEnd => true
  | .bootFragment way _ _ _ _ => way != .port
  | .fragmentGapTimeout => true
  | .arbAdvance _ _ _ => true
  | .revoke _ _ _ => true
  | .attest _ => true
  | .sessClose _ => true
  | .sessChallenge _ _ => true
  | .sessResponse _ bytes => bytes.length == 32
  | .hostSessClose _ => true
  | .sessionIdleTimeout => true
  | .nonceExpiry => true
  | .challenge _ => true
  | .submit _ => true
  | .relock _ => true
  | .program _ _ => true
  | .reburn _ _ => true
  | .margin _ => true
  | .resense _ => true
  | .otpCommandDone x => decide (x.pulses ≤ 8) && x.diff.all (fun e => decide (e.1 < 1024))
  | .slockWrite _ _ => true
  | .coreInstruction _ _ _ _ => true
  | .wfi _ => true
  | .wfiWake _ => true
  | .lockstepMismatch _ => true
  | .memoryRead _ a _ _ => decide (a.toNat % 4 = 0)
  | .subwordStore _ a half _ _ _ => !half || decide (a.toNat % 2 = 0)
  | .scrubPass errors => errors.all (fun e => decide (e.addr.toNat % 4 = 0))
  | .memoryClearDone _ => true
  | .secCfgWrite _ _ => true
  | .pairHalt _ _ => true
  | .pairStep _ _ _ _ _ => true
  | .pairResume _ _ => true
  | .pairRegAccess _ _ _ => true
  | .interruptEdge _ _ => true
  | .interruptDelivery _ => true
  | .eoi _ _ _ => true
  | .swi _ _ _ => true
  | .clrPend _ _ _ => true
  | .prioWrite _ _ _ _ => true
  | .tick _ => true
  | .lockRead _ _ => true
  | .lockRelease _ _ => true
  | .msgWrite _ _ _ _ => true
  | .dbSet _ _ _ => true
  | .done _ _ => true
  | .lockTimeout _ => true
  | .mramWrite _ => true
  | .srWrite _ _ => true
  | .srRead _ _ => true
  | .srRescan _ _ => true
  | .srEnable _ _ _ => true
  | .srScanDone _ => true
  | .mramCommandDone _ => true
  | .mramWindowRead _ x size _ _ => decide (x.toNat % 2 ^ size.val = 0)
  | .canFrameReceived _ f => canLength (fmtCode f.fmt) f.data.length
  | .t1sFrameReceived f => decide (f.bytes.length ≤ 2047)
  | .txRequest _ _ _ => true
  | .txAbort _ _ _ _ => true
  | .frameSent _ _ _ _ _ _ => true
  | .busOff _ => true
  | .recover _ _ => true
  | .busOffRecovery _ _ => true
  | .ptpCommit _ => true
  | .t1sPlca _ => true
  | .busWake _ _ => true
  | .hostPortWake _ => true
  | .status _ => true
  | .read _ len _ => decide (len.toNat ≤ 16384)
  | .write _ _ words => decide (words.length ≤ 16384)
  | .responseRead => true
  | .statusWordsRead => true
  | .checkEnable _ _ _ => true
  | .checkStart _ _ => true
  | .dinWrite _ _ _ _ => true
  | .finish _ _ => true
  | .resync _ _ => true
  | .checkRecord _ => true
  | .mxcfgWrite _ _ _ => true
  | .gpioWrite _ _ _ => true
  | .measure _ => true
  | .ageMeasureDone _ _ => true
  | .trimCorrection => true
  | .relSoftStartEnd => true
  | .buckSoftStartEnd _ => true
  | .canErrorFrame _ _ => true
  | .requestFrameRefused _ _ _ _ _ => true
  | .pathCurrentLimit _ => true
  | .vbakSwitchChange _ => true

end Sys2Proof
end

