-- ==== Sys2Proof/Tests/Slice0.lean ====
section
/-!
SUPPORT. Tests. `test_<statement>_holds_somewhere` shows, for each statement with hypotheses, devices and operands that meet them:
one part for each clause, a clause whose hypotheses another one repeats being met there. The other tests hold values that the
spec states or works out.
-/
set_option Elab.async false

namespace Sys2Proof.Machine

open Dev

/-- What permits a write, as tests that can be evaluated. -/
theorem test_canWrite {d : Dev} {m : Master} {k : PageKind} {i ofs : Nat}
    (h : (d.busLive && (d.pageReached m (0x40000000 + 0x1000 * pg k i + ofs) true == some ⟨k, i⟩) && d.accessOk m k i) = true) :
    d.CanWrite m k i ofs := by
  simp only [Bool.and_eq_true, beq_iff_eq] at h
  exact ⟨h.1.1, h.1.2, h.2⟩

/-- What permits a read, as tests that can be evaluated. -/
theorem test_canRead {d : Dev} {m : Master} {k : PageKind} {i ofs : Nat}
    (h : (d.busLive && (d.pageReached m (0x40000000 + 0x1000 * pg k i + ofs) false == some ⟨k, i⟩)) = true) : d.CanRead m k i ofs := by
  simp only [Bool.and_eq_true, beq_iff_eq] at h
  exact ⟨h.1, h.2⟩

theorem test_PowerRuns_holds_somewhere :
    (∃ d : Dev, d.state = 0) ∧
    (∃ d : Dev, d.cel.islandUp = false ∧ (d.state = 1 ∨ d.state = 2)) ∧
    (∃ d : Dev, d.state = 1 ∧ d.cel.islandUp = true ∧ d.cel.holdOff = false ∧ d.cel.wakeDue ≠ 0 ∧ d.cel.wakeAt + 400000 ≤ d.now) ∧
    (∃ d : Dev, d.state = 1 ∧ d.cel.islandUp = true ∧ d.cel.holdOff = false ∧ d.cel.wakeDue = 0 ∧ d.cel.autoDue = true ∧
      d.flag (pg .cellar) F.CELLAR.POLICY_AUTOSTART = true) ∧
    (∃ d : Dev, 2 ≤ d.state ∧ d.state ≤ 6) ∧
    (∃ d : Dev, 3 ≤ d.state ∧ d.state ≤ 5) ∧
    (∃ d : Dev, d.state = 1 ∧ d.cel.wakeDue ≠ 0 ∧ d.cel.holdOff = false ∧ d.cel.wakeAt + 400000 * d.fld (pg .cellar) F.CELLAR.PWRON_WAIT_WAIT ≤ d.now) := by
  refine ⟨⟨(({} : Dev).setFld (pg .sys) F.SYS.STATE_STATE 0), ?_⟩,
    ⟨({ (({} : Dev).setFld (pg .sys) F.SYS.STATE_STATE 1) with cel.islandUp := false } : Dev), ?_⟩,
    ⟨({ ({ ({ ({ ({ (({} : Dev).setFld (pg .sys) F.SYS.STATE_STATE 1) with cel.islandUp := true } : Dev) with cel.holdOff := false } : Dev) with cel.wakeDue := 1 } : Dev) with now := 400000 } : Dev) with now := 10000000000000 } : Dev),
  ?_⟩,
    ⟨({ ({ ({ ({ ((({} : Dev).setFld (pg .sys) F.SYS.STATE_STATE 1).setFlag (pg .cellar) F.CELLAR.POLICY_AUTOSTART true) with cel.islandUp := true } : Dev) with cel.holdOff := false } : Dev) with cel.wakeDue := 0 } : Dev) with cel.autoDue := true } : Dev),
  ?_⟩,
    ⟨(({} : Dev).setFld (pg .sys) F.SYS.STATE_STATE 2), ?_⟩,
    ⟨(({} : Dev).setFld (pg .sys) F.SYS.STATE_STATE 3), ?_⟩,
    ⟨({ ({ ({ ({ (({} : Dev).setFld (pg .sys) F.SYS.STATE_STATE 1) with cel.wakeDue := 1 } : Dev) with cel.holdOff := false } : Dev) with now := 400000000, cel.wakeDue := 1 } : Dev) with now := 10000000000000 } : Dev),
  ?_⟩⟩
  all_goals and_intros
  all_goals first | exact test_canWrite (by decide +kernel) | exact test_canRead (by decide +kernel) | decide +kernel

theorem test_SysCommandsRun_holds_somewhere :
    (∃ d : Dev, ∃ m : Master, ∃ k : Fin 24, d.CanWrite m .sys 0 R.SYS.CMD ∧ d.state = 3 ∧ d.flag (pg .scaolo) F.SCAOLO.SELFTEST_PASS = true ∧
      d.flag (pg .tile k) F.TILE.CAL_STATUS_VALID = true ∧ d.activeList.all (fun s => decide (d.sevOf s < 3)) = true ∧ d.faultAtOrAbove 3 = false ∧
      d.tbActive ≠ 0 ∧ ((∀ g < 8, d.flag (pg .conv g) F.HDR.CTRL_ENABLE = true → d.groupKeys g = true)) ∧
      d.flag (pg .disch) F.DISCH.STATUS_CHECKED = true ∧ d.flag (pg .fault) F.FAULT.STATUS_RECOV_LATCHED = false) ∧
    (∃ d : Dev, ∃ m : Master, d.CanWrite m .sys 0 R.SYS.CMD ∧ d.state = 4) ∧
    (∃ d : Dev, ∃ m : Master, d.CanWrite m .sys 0 R.SYS.CMD ∧ d.state = 3 ∧ d.powerDown = false ∧ d.seq.goal = .none) ∧
    (∃ d : Dev, ∃ m : Master, d.CanWrite m .sys 0 R.SYS.CMD ∧ d.state = 5 ∧ d.safeActive = false ∧ d.fc.backup = false ∧
      (d.cmdEvent 5).fld (pg .sys) F.SYS.STATE_PREV = 3) ∧
    (∃ d : Dev, ∃ m : Master, d.CanWrite m .sys 0 R.SYS.CMD ∧ 2 ≤ d.state ∧ d.state ≤ 5 ∧ (d.cmdEvent 6).fc.checks = []) ∧
    (∃ d : Dev, ∃ m : Master, ∃ w : Word, d.CanWrite m .sys 0 R.SYS.CMD ∧ bitsOf w.toNat 16 16 ≠ 0x5A3C) ∧
    (∃ d : Dev, ∃ m : Master, ∃ w : Word, d.CanWrite m .sys 0 R.SYS.CMD ∧ bitsOf w.toNat 16 16 = 0x5A3C ∧
      (bitsOf w.toNat 0 8 = 0 ∨ 6 < bitsOf w.toNat 0 8)) ∧
    (∃ d : Dev, ∃ m : Master, ∃ c : Instr, d.CanWrite m .sys 0 R.SYS.CMD ∧ d.state ≠ 3 ∧ (c = .arm m ∨ c = .hibernate m ∨ c = .cellar m)) ∧
    (∃ d : Dev, ∃ m : Master, d.CanWrite m .sys 0 R.SYS.CMD ∧ d.state ≠ 4) ∧
    (∃ d : Dev, ∃ m : Master, d.CanWrite m .sys 0 R.SYS.CMD ∧ (d.state ≠ 5 ∨ d.safeActive = true ∨ d.fc.backup = true)) ∧
    (∃ d : Dev, ∃ m : Master, d.CanWrite m .sys 0 R.SYS.CMD ∧ d.state = 3 ∧ (d.flag (pg .scaolo) F.SCAOLO.SELFTEST_PASS = false ∨ (∀ k < 24,
      d.flag (pg .tile k) F.TILE.CAL_STATUS_VALID = false))) ∧
    (∃ d : Dev, ∃ m : Master, ∃ k : Fin 24, d.CanWrite m .sys 0 R.SYS.CMD ∧ d.state = 3 ∧ d.flag (pg .scaolo) F.SCAOLO.SELFTEST_PASS = true ∧
      d.flag (pg .tile k) F.TILE.CAL_STATUS_VALID = true ∧ (d.activeList.any (fun s => decide (3 ≤ d.sevOf s)) = true ∨ d.faultAtOrAbove 3 = true)) := by
  refine ⟨⟨((((((((({} : Dev).setFlag (pg .scaolo) F.SCAOLO.SELFTEST_PASS true).setFld (pg .timebase) F.TIMEBASE.SRC_STATUS_ACTIVE 2).setFld (pg .sys) F.SYS.STATE_STATE 3).setFlag (pg .scaolo) F.SCAOLO.SELFTEST_PASS true).setFlag (pg .tile 0) F.TILE.CAL_STATUS_VALID true).setFld (pg .timebase) F.TIMEBASE.SRC_STATUS_ACTIVE 1).setFlag (pg .disch) F.DISCH.STATUS_CHECKED true).setFlag (pg .fault) F.FAULT.STATUS_RECOV_LATCHED false),
  .ctrl, 0, ?_⟩,
    ⟨(({} : Dev).setFld (pg .sys) F.SYS.STATE_STATE 4), .ctrl, ?_⟩,
    ⟨({ (({} : Dev).setFld (pg .sys) F.SYS.STATE_STATE 3) with seq.goal := .none } : Dev), .ctrl, ?_⟩,
    ⟨({ ((({} : Dev).setFld (pg .sys) ⟨R.SYS.STATE, 4, 4⟩ 3).setFld (pg .sys) F.SYS.STATE_STATE 5) with fc.backup := false } : Dev), .ctrl, ?_⟩,
    ⟨(({} : Dev).setFld (pg .sys) F.SYS.STATE_STATE 2), .ctrl, ?_⟩,
    ⟨({} : Dev), .ctrl, 0, ?_⟩,
    ⟨({} : Dev), .ctrl, 0x5A3C0000#32, ?_⟩,
    ⟨({} : Dev), .ctrl, .arm .ctrl, ?_⟩,
    ⟨({} : Dev), .ctrl, ?_⟩,
    ⟨(({} : Dev).setFld (pg .sys) F.SYS.STATE_STATE 3), .ctrl, ?_⟩,
    ⟨(({} : Dev).setFld (pg .sys) F.SYS.STATE_STATE 3), .ctrl, ?_⟩,
    ⟨((((({} : Dev).setFld (pg .sys) F.SYS.STATE_STATE 3).setFlag (pg .scaolo) F.SCAOLO.SELFTEST_PASS true).setFlag (pg .tile 0) F.TILE.CAL_STATUS_VALID true)).raise .tile 0 B.TILE.TILE_TRIP,
  .ctrl, 0, ?_⟩⟩
  all_goals and_intros
  all_goals first | exact test_canWrite (by decide +kernel) | exact test_canRead (by decide +kernel) | decide +kernel

theorem test_KeyClaimedAndReleased_holds_somewhere :
    (∃ d : Dev, ∃ m : Master, ∃ page : BitVec 8, ∃ tag : BitVec 16, ∃ k : PageKind, ∃ i : Nat, ∃ key : Nat, page.toNat = pg k i ∧
      d.CanWrite m k i R.HDR.CLAIM ∧ pageKey (pg k i) = some key ∧ keySafety key = false ∧ d.tagAllowed m tag = true ∧
      (d.keyTag key = 0 ∨ d.keyTag key = tag)) ∧
    (∃ d : Dev, ∃ m : Master, ∃ page : BitVec 8, ∃ tag : BitVec 16, ∃ k : PageKind, ∃ i : Nat, ∃ key : Nat, page.toNat = pg k i ∧
      d.CanWrite m k i R.HDR.CLAIM ∧ pageKey (pg k i) = some key ∧ keySafety key = false ∧ d.tagAllowed m tag = true ∧ d.keyTag key ≠ 0 ∧
      d.keyTag key ≠ tag) ∧
    (∃ d : Dev, ∃ m : Master, ∃ page : BitVec 8, ∃ tag : BitVec 16, ∃ k : PageKind, ∃ i : Nat, ∃ key : Nat, page.toNat = pg k i ∧
      d.CanWrite m k i R.HDR.CLAIM ∧ pageKey (pg k i) = some key ∧ keySafety key = false ∧ d.tagAllowed m tag = true ∧ d.keyTag key = tag ∧ tag ≠ 0 ∧
      d.resourceEnabled key = false) ∧
    (∃ d : Dev, ∃ m : Master, ∃ page : BitVec 8, ∃ tag : BitVec 16, ∃ k : PageKind, ∃ i : Nat, ∃ key : Nat, page.toNat = pg k i ∧
      d.CanWrite m k i R.HDR.CLAIM ∧ pageKey (pg k i) = some key ∧ keySafety key = false ∧ d.tagAllowed m tag = true ∧ d.keyTag key = tag ∧ tag ≠ 0 ∧
      d.resourceEnabled key = true) := by
  refine ⟨⟨({} : Dev), .ctrl, 0x40, 0x2001, .tile, 0, 0x100, ?_⟩,
    ⟨(({} : Dev).setKey 0x100 0x1001), .ctrl, 0x40, 0x2001, .tile, 0, 0x100, ?_⟩,
    ⟨(({} : Dev).setKey 0x100 0x2001), .ctrl, 0x40, 0x2001, .tile, 0, 0x100, ?_⟩,
    ⟨((({} : Dev).setKey 0x100 0x2001)).setFlag (pg .tile 0) F.HDR.CTRL_ENABLE true, .ctrl, 0x40, 0x2001, .tile, 0, 0x100, ?_⟩⟩
  all_goals and_intros
  all_goals first | exact test_canWrite (by decide +kernel) | exact test_canRead (by decide +kernel) | decide +kernel

theorem test_KeySetAllOrNone_holds_somewhere :
    (∃ d : Dev, ∃ m : Master, ∃ win : BitVec 5, ∃ tag : BitVec 16, d.CanWrite m .keyrack 0 R.KEYRACK.KR_REQ ∧
      ((d.reg (pg .keyrack) R.KEYRACK.KR_MASK m.cls).toNat) ≠ 0 ∧
      ((∀ k ∈ ((numbers 32 (bitAt ((d.reg (pg .keyrack) R.KEYRACK.KR_MASK m.cls).toNat))).map (fun b => 32 * win.toNat + b)),
      d.claimResult m k tag = 0))) ∧
    (∃ d : Dev, ∃ m : Master, ∃ win : BitVec 5, ∃ tag : BitVec 16, d.CanWrite m .keyrack 0 R.KEYRACK.KR_REQ ∧
      ((d.reg (pg .keyrack) R.KEYRACK.KR_MASK m.cls).toNat) ≠ 0 ∧
      ((∃ k ∈ ((numbers 32 (bitAt ((d.reg (pg .keyrack) R.KEYRACK.KR_MASK m.cls).toNat))).map (fun b => 32 * win.toNat + b)),
      d.claimResult m k tag ≠ 0))) ∧
    (∃ d : Dev, ∃ m : Master, ∃ win : BitVec 5, ∃ tag : BitVec 16, d.CanWrite m .keyrack 0 R.KEYRACK.KR_REQ ∧
      ((d.reg (pg .keyrack) R.KEYRACK.KR_MASK m.cls).toNat) ≠ 0 ∧
      ((∀ k ∈ ((numbers 32 (bitAt ((d.reg (pg .keyrack) R.KEYRACK.KR_MASK m.cls).toNat))).map (fun b => 32 * win.toNat + b)),
      d.releaseResult m k tag = 0))) ∧
    (∃ d : Dev, ∃ m : Master, ∃ win : BitVec 5, ∃ tag : BitVec 16, d.CanWrite m .keyrack 0 R.KEYRACK.KR_REQ ∧
      ((d.reg (pg .keyrack) R.KEYRACK.KR_MASK m.cls).toNat) ≠ 0 ∧
      ((∃ k ∈ ((numbers 32 (bitAt ((d.reg (pg .keyrack) R.KEYRACK.KR_MASK m.cls).toNat))).map (fun b => 32 * win.toNat + b)),
      d.releaseResult m k tag ≠ 0))) := by
  refine ⟨⟨(({} : Dev).setReg (pg .keyrack) R.KEYRACK.KR_MASK 3 2), .ctrl, 8, 0x2001, ?_⟩,
    ⟨((({} : Dev).setReg (pg .keyrack) R.KEYRACK.KR_MASK 3 2).setKey 0x101 0x1001), .ctrl, 8, 0x2001, ?_⟩,
    ⟨(({} : Dev).setReg (pg .keyrack) R.KEYRACK.KR_MASK 3 2), .ctrl, 8, 0x2001, ?_⟩,
    ⟨((({} : Dev).setReg (pg .keyrack) R.KEYRACK.KR_MASK 3 2).setKey 0x101 0x1001), .ctrl, 8, 0x2001, ?_⟩⟩
  all_goals and_intros
  all_goals first | exact test_canWrite (by decide +kernel) | exact test_canRead (by decide +kernel) | decide +kernel

theorem test_HeaderCommandsRun_holds_somewhere :
    (∃ d : Dev, ∃ m : Master, ∃ page : BitVec 8, ∃ k : PageKind, ∃ i : Nat, page.toNat = pg k i ∧ k ≠ .conv ∧ k ≠ .fault ∧
      d.CanWrite m k i R.HDR.LOCK ∧ d.lockSet (pg k i) = false) ∧
    (∃ d : Dev, ∃ m : Master, ∃ page : BitVec 8, ∃ k : PageKind, ∃ i : Nat, page.toNat = pg k i ∧ k ≠ .conv ∧ k ≠ .fault ∧
      d.CanWrite m k i R.HDR.LOCK ∧ d.lockSet (pg k i) = true) ∧
    (∃ d : Dev, ∃ m : Master, ∃ page : BitVec 8, ∃ k : PageKind, ∃ i : Nat, page.toNat = pg k i ∧ k ≠ .conv ∧ k ≠ .fault ∧
      d.CanWrite m k i R.HDR.EVENT_SET ∧ d.state = 4) ∧
    (∃ d : Dev, ∃ m : Master, ∃ page : BitVec 8, ∃ k : PageKind, ∃ i : Nat, ∃ w : Word, page.toNat = pg k i ∧ k ≠ .conv ∧ k ≠ .fault ∧
      d.CanWrite m k i R.HDR.EVENT_SET ∧ d.state ≠ 4 ∧ ((∀ b < 32, bitAt w.toNat b = true → d.eventSource k b = none))) ∧
    (∃ d : Dev, ∃ m : Master, ∃ page : BitVec 8, ∃ k : PageKind, ∃ i : Nat, ∃ w : Word, page.toNat = pg k i ∧ k ≠ .conv ∧ k ≠ .fault ∧
      d.CanWrite m k i R.HDR.FAULT ∧ k ≠ .tile ∧ k ≠ .dom ∧ k ≠ .disch ∧ ((∀ b < 32, bitAt w.toNat b = true → d.active (srcNo k i b) = false))) ∧
    (∃ d : Dev, ∃ m : Master, ∃ page : BitVec 8, ∃ k : PageKind, ∃ i : Nat, page.toNat = pg k i ∧ k ≠ .conv ∧ k ≠ .fault ∧
      d.CanWrite m k i R.HDR.CTRL ∧ d.idle k i = false ∧ pageKey (pg k i) ≠ none ∧ d.keyHeldBy m ((pageKey (pg k i)).getD 0) = false) := by
  refine ⟨⟨({} : Dev), .ctrl, 3, .clk, 0, ?_⟩,
    ⟨(({} : Dev)).setReg (pg .clk) R.HDR.LOCK 1, .ctrl, 3, .clk, 0, ?_⟩,
    ⟨(({} : Dev).setFld (pg .sys) F.SYS.STATE_STATE 4), .ctrl, 3, .clk, 0, ?_⟩,
    ⟨({} : Dev), .ctrl, 3, .clk, 0, 0, ?_⟩,
    ⟨({} : Dev), .ctrl, 3, .clk, 0, 0, ?_⟩,
    ⟨(({} : Dev)).setFld (pg .tile 0) F.TILE.STATUS_TSTATE 3, .ctrl, 0x40, .tile, 0, ?_⟩⟩
  all_goals and_intros
  all_goals first | exact test_canWrite (by decide +kernel) | exact test_canRead (by decide +kernel) | decide +kernel

theorem test_RegisterWriteTakesFields_holds_somewhere :
    (∃ d : Dev, ∃ m : Master, ∃ k : PageKind, ∃ i : Nat, ∃ ofs : Nat, ∃ r : RegDesc, ∃ a : Word, ∃ w : Word, k ∈ [PageKind.clk, .rompatch, .monadc,
      .openwire, .cal, .hostport] ∧ 0x100 ≤ ofs ∧ ofs < 0x800 ∧ a.toNat = 0x40000000 + 0x1000 * pg k i + ofs ∧ d.CanWrite m k i ofs ∧
      descOf k ofs = some r ∧ r.banked = false ∧ r.w1c = 0 ∧ d.lockSet (pg k i) = false ∧ d.idle k i = true ∧ ((∀ x ∈ r.ranges,
      x.spec.holds x.lo x.w (merge (r.rw ||| r.rwl ||| r.rwi) w.toNat (d.reg (pg k i) ofs).toNat) = true))) ∧
    (∃ d : Dev, ∃ m : Master, ∃ k : PageKind, ∃ i : Nat, ∃ ofs : Nat, ∃ r : RegDesc, ∃ a : Word, ∃ w : Word, ∃ x : FRange, ∃ b : Nat,
      k ∈ [PageKind.clk, .rompatch, .monadc, .openwire, .cal, .hostport] ∧ 0x100 ≤ ofs ∧ ofs < 0x800 ∧ a.toNat = 0x40000000 + 0x1000 * pg k i + ofs ∧
      d.CanWrite m k i ofs ∧ descOf k ofs = some r ∧ r.banked = false ∧ r.w1c = 0 ∧ d.lockSet (pg k i) = false ∧ d.idle k i = true ∧ r.ranges = [x] ∧
      x.spec.holds x.lo x.w (merge (r.rw ||| r.rwl ||| r.rwi) w.toNat (d.reg (pg k i) ofs).toNat) = false ∧ k.rangeBit = some b ∧
      r.rw ||| r.rwl ||| r.rwi = maskOf x.lo x.w) := by
  refine ⟨⟨({} : Dev), .ctrl, .openwire, 0, 0x170, ⟨0x170, 4, 0xA, 0xFFFF, 0, 0, 0, .dev, false, false, [⟨0, 16, .u 1 65535⟩]⟩, 0x40028170, 1, ?_⟩,
    ⟨({} : Dev), .ctrl, .openwire, 0, 0x170, ⟨0x170, 4, 0xA, 0xFFFF, 0, 0, 0, .dev, false, false, [⟨0, 16, .u 1 65535⟩]⟩, 0x40028170, 0x10000, ⟨0, 16,
  .u 1 65535⟩, 11, ?_⟩⟩
  all_goals and_intros
  all_goals first | exact test_canWrite (by decide +kernel) | exact test_canRead (by decide +kernel) | decide +kernel

theorem test_WordStoreWritesFourBytes_holds_somewhere :
    ∃ d : Dev, ∃ m : Master, ∃ a : Word, ∃ g : Region, d.busLive = true ∧ regionOf a.toNat 4 = some g ∧
      (g = .itcm ∨ g = .dtcm ∨ g = .sram ∨ g = .frame) ∧ a.toNat % 4 = 0 ∧ d.memAllowed m a.toNat 4 true = true := by
  refine ⟨({} : Dev), .ctrl, 0x30000000, .frame, ?_⟩
  all_goals and_intros
  all_goals first | exact test_canWrite (by decide +kernel) | exact test_canRead (by decide +kernel) | decide +kernel

theorem test_RefusedWritesChangeNoTarget_holds_somewhere :
    (∃ d : Dev, d.busLive = false) ∧
    (∃ d : Dev, ∃ m : Master, ∃ a : Word, d.busLive = true ∧ regionOf a.toNat 4 = some .pages ∧ d.pageReached m a.toNat true = none) ∧
    (∃ d : Dev, ∃ m : Master, ∃ a : Word, ∃ q : Page, d.busLive = true ∧ d.pageReached m a.toNat true = some q ∧ d.accessOk m q.kind q.inst = false) ∧
    (∃ d : Dev, ∃ m : Master, ∃ a : Word, d.busLive = true ∧ regionOf a.toNat 4 ≠ some .pages ∧
      (a.toNat % 4 ≠ 0 ∨ d.memAllowed m a.toNat 4 true = false)) := by
  refine ⟨⟨(({} : Dev).setFld (pg .sys) F.SYS.STATE_STATE 1), ?_⟩,
    ⟨({} : Dev), .ctrl, 0x400FF000, ?_⟩,
    ⟨(({} : Dev)).setReg (pg .clk) R.HDR.ACCESS 1, .svc, 0x40003100, ⟨.clk, 0⟩, ?_⟩,
    ⟨({} : Dev), .ctrl, 0, ?_⟩⟩
  all_goals and_intros
  all_goals first | exact test_canWrite (by decide +kernel) | exact test_canRead (by decide +kernel) | decide +kernel

theorem test_EnableAndSoftReset_holds_somewhere :
    (∃ d : Dev, ∃ m : Master, ∃ page : BitVec 8, ∃ k : PageKind, ∃ i : Nat, ∃ key : Nat, page.toNat = pg k i ∧ d.CanWrite m k i R.HDR.CTRL ∧
      k ≠ .conv ∧ k ≠ .fault ∧ pageKey (pg k i) = some key ∧ d.keyHeldBy m key = false) ∧
    (∃ d : Dev, ∃ m : Master, ∃ page : BitVec 8, ∃ k : PageKind, ∃ i : Nat, ∃ key : Nat, page.toNat = pg k i ∧ d.CanWrite m k i R.HDR.CTRL ∧
      k = .mbox ∧ pageKey (pg k i) = some key ∧ d.keyHeldBy m key = true) ∧
    (∃ d : Dev, ∃ m : Master, ∃ page : BitVec 8, ∃ k : PageKind, ∃ i : Nat, page.toNat = pg k i ∧ d.CanWrite m k i R.HDR.CTRL ∧ k ∈ [PageKind.pinmux,
      .clk, .path, .rompatch, .openwire, .cal, .intc, .hostport] ∧ d.idle k i = true) := by
  refine ⟨⟨({} : Dev), .ctrl, 0x40, .tile, 0, 0x100, ?_⟩,
    ⟨((({} : Dev).setKey 0x2C8 0x2001).setKey ((0x2C8 : Nat)) 0x2001#16), .ctrl, 0x74, .mbox, 4, 0x2C8, ?_⟩,
    ⟨({} : Dev), .ctrl, 3, .clk, 0, ?_⟩⟩
  all_goals and_intros
  all_goals first | exact test_canWrite (by decide +kernel) | exact test_canRead (by decide +kernel) | decide +kernel

theorem test_AngleAndFolioRun_holds_somewhere :
    (∃ d : Dev, ∃ m : Master, d.CanRead m .timebase 0 R.TIMEBASE.ANGLE) ∧
    (∃ d : Dev, d.busLive = true ∧ d.tbActive ≠ 0 ∧ d.angle ≠ 65535 ∧ (d.angle + 1) * 4294967296 ≤ d.tb.phi) ∧
    (∃ d : Dev, d.busLive = true ∧ (d.tbActive = 2 ∨ d.tbActive = 3) ∧ d.angle = 65535 ∧ 2 ^ 48 ≤ d.tb.phi ∧ d.tbPending = 0 ∧ d.tb.slew = .none ∧
      d.tb.nextFolio = none) ∧
    (∃ d : Dev, ∃ m : Master, d.CanWrite m .timebase 0 R.HDR.CTRL ∧ d.flag (pg .timebase) F.HDR.CTRL_ENABLE = true) := by
  refine ⟨⟨({} : Dev), .ctrl, ?_⟩,
    ⟨({ (({} : Dev).setFld (pg .timebase) F.TIMEBASE.SRC_STATUS_ACTIVE 1) with tb.phi := 2 ^ 32 } : Dev), ?_⟩,
    ⟨({ ({ ({ ((((({} : Dev).setFld (pg .sys) F.SYS.STATE_STATE 3).setFld (pg .timebase) F.TIMEBASE.SRC_STATUS_ACTIVE (2)).setFld (pg .timebase) F.TIMEBASE.ANGLE_ANGLE (65535)).setFld (pg .timebase) F.TIMEBASE.SRC_STATUS_PENDING (0)) with tb.slew := .none } : Dev) with tb.nextFolio := none } : Dev) with tb.phi := 2 ^ 48 } : Dev),
  ?_⟩,
    ⟨(({} : Dev).setFlag (pg .timebase) F.HDR.CTRL_ENABLE true), .ctrl, ?_⟩⟩
  all_goals and_intros
  all_goals first | exact test_canWrite (by decide +kernel) | exact test_canRead (by decide +kernel) | decide +kernel

theorem test_SourceRequestsRun_holds_somewhere :
    (∃ d : Dev, ∃ m : Master, ∃ w : Word, d.CanWrite m .timebase 0 R.TIMEBASE.SRC_SEL ∧
      (d.plainWrite m .timebase 0 R.TIMEBASE.SRC_SEL w).fld (pg .timebase) F.TIMEBASE.SRC_SEL_SRC = bitsOf w.toNat 0 3 ∧
      (d.plainWrite m .timebase 0 R.TIMEBASE.SRC_SEL w).flag (pg .timebase) F.HDR.CTRL_ENABLE = true ∧
      (d.plainWrite m .timebase 0 R.TIMEBASE.SRC_SEL w).tbRole ≠ 2 ∧ (d.plainWrite m .timebase 0 R.TIMEBASE.SRC_SEL w).tbSlewing = false ∧
      bitsOf w.toNat 0 3 = (d.plainWrite m .timebase 0 R.TIMEBASE.SRC_SEL w).tbActive) ∧
    (∃ d : Dev, ∃ m : Master, ∃ w : Word, d.CanWrite m .timebase 0 R.TIMEBASE.SRC_SEL ∧
      (d.plainWrite m .timebase 0 R.TIMEBASE.SRC_SEL w).fld (pg .timebase) F.TIMEBASE.SRC_SEL_SRC = bitsOf w.toNat 0 3 ∧
      (d.plainWrite m .timebase 0 R.TIMEBASE.SRC_SEL w).flag (pg .timebase) F.HDR.CTRL_ENABLE = true ∧
      (d.plainWrite m .timebase 0 R.TIMEBASE.SRC_SEL w).tbRole ≠ 2 ∧ (d.plainWrite m .timebase 0 R.TIMEBASE.SRC_SEL w).tbSlewing = false ∧
      bitsOf w.toNat 0 3 = 2 ∧ (d.plainWrite m .timebase 0 R.TIMEBASE.SRC_SEL w).tbActive ≠ 2 ∧
      ((d.plainWrite m .timebase 0 R.TIMEBASE.SRC_SEL w).pllLock = true ∨ (d.plainWrite m .timebase 0 R.TIMEBASE.SRC_SEL w).fld (pg .timebase) F.TIMEBASE.LOSS_CFG_LEVEL ≤ (d.plainWrite m .timebase 0 R.TIMEBASE.SRC_SEL w).tb.amp)) ∧
    (∃ d : Dev, ∃ m : Master, ∃ w : Word, d.CanWrite m .timebase 0 R.TIMEBASE.SRC_SEL ∧
      (d.plainWrite m .timebase 0 R.TIMEBASE.SRC_SEL w).fld (pg .timebase) F.TIMEBASE.SRC_SEL_SRC = bitsOf w.toNat 0 3 ∧
      (d.plainWrite m .timebase 0 R.TIMEBASE.SRC_SEL w).flag (pg .timebase) F.HDR.CTRL_ENABLE = true ∧
      (d.plainWrite m .timebase 0 R.TIMEBASE.SRC_SEL w).tbRole ≠ 2 ∧ (d.plainWrite m .timebase 0 R.TIMEBASE.SRC_SEL w).tbSlewing = false ∧
      bitsOf w.toNat 0 3 = 3 ∧ (d.plainWrite m .timebase 0 R.TIMEBASE.SRC_SEL w).tbActive ≠ 3) ∧
    (∃ d : Dev, ∃ m : Master, ∃ w : Word, ∃ virt : Bool, d.CanWrite m .timebase 0 R.TIMEBASE.SRC_SEL ∧
      (d.plainWrite m .timebase 0 R.TIMEBASE.SRC_SEL w).fld (pg .timebase) F.TIMEBASE.SRC_SEL_SRC = bitsOf w.toNat 0 3 ∧
      (d.plainWrite m .timebase 0 R.TIMEBASE.SRC_SEL w).flag (pg .timebase) F.HDR.CTRL_ENABLE = true ∧
      (d.plainWrite m .timebase 0 R.TIMEBASE.SRC_SEL w).tbRole ≠ 2 ∧ (d.plainWrite m .timebase 0 R.TIMEBASE.SRC_SEL w).tbSlewing = false ∧
      d.CanWrite m .timebase 0 (if virt then R.TIMEBASE.VIRT_FREQ else R.TIMEBASE.MASTER_FREQ)) := by
  refine ⟨⟨((({} : Dev).setFlag (pg .timebase) F.HDR.CTRL_ENABLE true)).setFld (pg .timebase) F.TIMEBASE.SRC_STATUS_ACTIVE 3, .ctrl, 3, ?_⟩,
    ⟨((({} : Dev).setFlag (pg .timebase) F.HDR.CTRL_ENABLE true).setFlag (pg .timebase) F.TIMEBASE.SRC_STATUS_PLL_LOCK true), .ctrl, 2, ?_⟩,
    ⟨((({} : Dev).setFlag (pg .timebase) F.HDR.CTRL_ENABLE true)).setFlag (pg .timebase) F.TIMEBASE.SRC_STATUS_PLL_LOCK true, .ctrl, 3, ?_⟩,
    ⟨(({} : Dev).setFlag (pg .timebase) F.HDR.CTRL_ENABLE true), .ctrl, 3, false, ?_⟩⟩
  all_goals and_intros
  all_goals first | exact test_canWrite (by decide +kernel) | exact test_canRead (by decide +kernel) | decide +kernel

theorem test_GridVerdictsRun_holds_somewhere :
    (∃ d : Dev, d.busLive = true ∧ d.tbActive ≠ 1) ∧
    (∃ d : Dev, d.busLive = true ∧ d.pllLock = false ∧ d.fld (pg .timebase) F.TIMEBASE.PLL_CFG_LOCK_CONFIRM ≤ d.tb.lockRun ∧ d.tbActive = 2 ∧
      d.tbPending = 0) ∧
    (∃ d : Dev, d.busLive = true ∧ d.pllLock = true ∧ d.tbActive = 1 ∧ d.gridLost = true) ∧
    (∃ d : Dev, d.busLive = true ∧ d.pllLock = true ∧ d.tbActive = 1 ∧ d.fld (pg .timebase) F.TIMEBASE.JUMP_CFG_CONFIRM < d.tb.jumpRun) ∧
    (∃ d : Dev, d.busLive = true ∧ d.tbActive = 2 ∧ d.flag (pg .timebase) F.TIMEBASE.SRC_STATUS_SUPERVISED = true ∧
      d.fld (pg .timebase) F.TIMEBASE.JUMP_CFG_CONFIRM < d.tb.masterRun) := by
  refine ⟨⟨({} : Dev), ?_⟩,
    ⟨(({ (((({} : Dev).setFlag (pg .timebase) F.TIMEBASE.SRC_STATUS_PLL_LOCK false).setFld (pg .timebase) F.TIMEBASE.SRC_STATUS_ACTIVE (2)).setFld (pg .timebase) F.TIMEBASE.SRC_STATUS_PENDING (0)) with tb.lockRun := 1000 } : Dev)),
  ?_⟩,
    ⟨(({ ((({} : Dev).setFlag (pg .timebase) F.TIMEBASE.SRC_STATUS_PLL_LOCK true).setFld (pg .timebase) F.TIMEBASE.SRC_STATUS_ACTIVE (1)) with tb.offRun := 2 } : Dev)),
  ?_⟩,
    ⟨(({ ((({} : Dev).setFlag (pg .timebase) F.TIMEBASE.SRC_STATUS_PLL_LOCK true).setFld (pg .timebase) F.TIMEBASE.SRC_STATUS_ACTIVE (1)) with tb.jumpRun := 1000 } : Dev)),
  ?_⟩,
    ⟨(({ ((({} : Dev).setFld (pg .timebase) F.TIMEBASE.SRC_STATUS_ACTIVE (2)).setFlag (pg .timebase) F.TIMEBASE.SRC_STATUS_SUPERVISED true) with tb.masterRun := 1000 } : Dev)),
  ?_⟩⟩
  all_goals and_intros
  all_goals first | exact test_canWrite (by decide +kernel) | exact test_canRead (by decide +kernel) | decide +kernel

theorem test_SyncAndFmarkRun_holds_somewhere :
    (∃ d : Dev, d.busLive = true ∧ 64 ≤ d.tb.syncGood ∧ d.flag (pg .timebase) F.TIMEBASE.SRC_STATUS_SYNC_LOCK = false) ∧
    (∃ d : Dev, d.busLive = true ∧ d.flag (pg .timebase) F.TIMEBASE.SYNC_CTRL_CREF_SRC = true ∧
      d.flag (pg .timebase) F.TIMEBASE.SRC_STATUS_SYNC_LOCK = true ∧ d.tb.syncAt + 2 * d.tb.crefPer ≤ d.now * 64) ∧
    (∃ d : Dev, ∃ cells : List (BitVec 16 × BitVec 16), d.busLive = true ∧ d.flag (pg .timebase) F.HDR.CTRL_ENABLE = true ∧ d.tbRole = 2 ∧
      d.flag (pg .timebase) F.TIMEBASE.SYNC_CTRL_FMARK_IN_EN = true ∧ d.fmarkLock = false ∧
      readFrame (cells.map (fun c : BitVec 16 × BitVec 16 => (c.1.toNat, c.2.toNat))) = none) ∧
    (∃ d : Dev, ∃ cells : List (BitVec 16 × BitVec 16), ∃ bits, d.busLive = true ∧ d.flag (pg .timebase) F.HDR.CTRL_ENABLE = true ∧ d.tbRole = 2 ∧
      d.flag (pg .timebase) F.TIMEBASE.SYNC_CTRL_FMARK_IN_EN = true ∧ d.fmarkLock = false ∧ d.tb.fmValid = 0 ∧
      readFrame (cells.map (fun c : BitVec 16 × BitVec 16 => (c.1.toNat, c.2.toNat))) = some (true, bits)) ∧
    (∃ d : Dev, d.busLive = true ∧ d.fmarkLock = true ∧ d.tbActive = 4 ∧
      2 * 400000000 * 65536 ≤ (d.now - d.tb.fmAt) * (d.reg (pg .timebase) R.TIMEBASE.FREQ).toNat) := by
  refine ⟨⟨({ (({} : Dev).setFlag (pg .timebase) F.TIMEBASE.SRC_STATUS_SYNC_LOCK false) with tb.syncGood := 64 } : Dev), ?_⟩,
    ⟨({ (({ ((({} : Dev).setFlag (pg .timebase) F.TIMEBASE.SYNC_CTRL_CREF_SRC true).setFlag (pg .timebase) F.TIMEBASE.SRC_STATUS_SYNC_LOCK true) with now := 4000000000 } : Dev)) with now := 10000000000000 } : Dev),
  ?_⟩,
    ⟨((((({} : Dev).setFlag (pg .timebase) F.HDR.CTRL_ENABLE true).setFld (pg .timebase) F.TIMEBASE.SRC_SEL_ROLE (2)).setFlag (pg .timebase) F.TIMEBASE.SYNC_CTRL_FMARK_IN_EN true).setFlag (pg .timebase) F.TIMEBASE.SRC_STATUS_FMARK_LOCK false),
  [], ?_⟩,
    ⟨({ ((((({} : Dev).setFlag (pg .timebase) F.HDR.CTRL_ENABLE true).setFld (pg .timebase) F.TIMEBASE.SRC_SEL_ROLE (2)).setFlag (pg .timebase) F.TIMEBASE.SYNC_CTRL_FMARK_IN_EN true).setFlag (pg .timebase) F.TIMEBASE.SRC_STATUS_FMARK_LOCK false) with tb.fmValid := 0 } : Dev),
  (0, 500) :: List.replicate 33 (1000, 250), 0, ?_⟩,
    ⟨({ ((({ ((({} : Dev).setFlag (pg .timebase) F.TIMEBASE.SRC_STATUS_FMARK_LOCK true).setFld (pg .timebase) F.TIMEBASE.SRC_STATUS_ACTIVE (4)) with now := 40000000000 } : Dev)).setReg (pg .timebase) R.TIMEBASE.FREQ 3276800) with now := 10000000000000 } : Dev),
  ?_⟩⟩
  all_goals and_intros
  all_goals first | exact test_canWrite (by decide +kernel) | exact test_canRead (by decide +kernel) | decide +kernel

theorem test_ProofsRun_holds_somewhere :
    (∃ d : Dev, ∃ m : Master, d.CanWrite m .proof 0 R.PROOF.TAKE ∧ bitAt (d.reg (pg .proof) R.PROOF.TRIG_EN).toNat 0 = true ∧
      d.reg (pg .proof) R.PROOF.HOLD = 0 ∧ (d.proof.copyAt ≠ some d.now ∧ d.proof.copyAt.map (· + 1) ≠ some d.now)) ∧
    (∃ d : Dev, ∃ m : Master, d.CanWrite m .proof 0 R.PROOF.TAKE ∧ bitAt (d.reg (pg .proof) R.PROOF.TRIG_EN).toNat 0 = true ∧
      d.reg (pg .proof) R.PROOF.HOLD ≠ 0 ∧ (d.proof.copyAt ≠ some d.now ∧ d.proof.copyAt.map (· + 1) ≠ some d.now) ∧ d.proof.missAt ≠ some d.now) ∧
    (∃ d : Dev, ∃ m : Master, d.CanWrite m .proof 0 R.PROOF.TAKE ∧ bitAt (d.reg (pg .proof) R.PROOF.TRIG_EN).toNat 0 = true ∧
      d.proof.copyAt = some d.now ∧ bitAt (d.fld (pg .proof) F.PROOF.TRIG_EN_AUTOHOLD) 0 = false) ∧
    (∃ d : Dev, d.busLive = true ∧ bitAt (d.reg (pg .proof) R.PROOF.TRIG_EN).toNat 3 = true ∧ d.reg (pg .proof) R.PROOF.HOLD = 0 ∧
      (d.proof.copyAt ≠ some d.now ∧ d.proof.copyAt.map (· + 1) ≠ some d.now) ∧
      d.proof.periodFrom + 400 * d.fld (pg .proof) F.PROOF.PERIOD_PERIOD ≤ d.now) ∧
    (∃ d : Dev, ∃ m : Master, d.CanWrite m .proof 0 R.PROOF.HOLD) ∧
    (∃ d : Dev, d.busLive = true ∧ d.reg (pg .proof) R.PROOF.HOLD ≠ 0 ∧ 400 * d.fld (pg .proof) F.PROOF.HOLD_MAX_LIMIT < d.now - d.proof.holdSince) := by
  refine ⟨⟨((({} : Dev).setReg (pg .proof) R.PROOF.HOLD (0)).setReg (pg .proof) R.PROOF.TRIG_EN 15), .ctrl, ?_⟩,
    ⟨((({} : Dev).setReg (pg .proof) R.PROOF.HOLD (1)).setReg (pg .proof) R.PROOF.TRIG_EN 15), .ctrl, ?_⟩,
    ⟨(({ ({} : Dev) with proof.copyAt := some 0 } : Dev)), .ctrl, ?_⟩,
    ⟨({ (({ ((({} : Dev).setReg (pg .proof) R.PROOF.HOLD (0)).setReg (pg .proof) R.PROOF.TRIG_EN 15) with now := 4000000000 } : Dev)) with now := 10000000000000 } : Dev),
  ?_⟩,
    ⟨({} : Dev), .ctrl, ?_⟩,
    ⟨({ (({ (({} : Dev).setReg (pg .proof) R.PROOF.HOLD (1)) with now := 4000000000 } : Dev)) with now := 10000000000000 } : Dev), ?_⟩⟩
  all_goals and_intros
  all_goals first | exact test_canWrite (by decide +kernel) | exact test_canRead (by decide +kernel) | decide +kernel

theorem test_GalleyEntriesAndEnableRun_holds_somewhere :
    (∃ d : Dev, ∃ m : Master, ∃ i : Fin 32768, d.busLive = true ∧ d.memAllowed m (0x38000000 + 4 * i.val) 4 true = true ∧
      d.entryHeld (i.val / 2) = false) ∧
    (∃ d : Dev, ∃ m : Master, ∃ i : Fin 32768, d.busLive = true ∧ d.memAllowed m (0x38000000 + 4 * i.val) 4 true = true ∧
      d.entryHeld (i.val / 2) = true) ∧
    (∃ d : Dev, ∃ m : Master, ∃ i : Fin 32768, d.busLive = true ∧ d.reaches m (0x38000000 + 4 * i.val) 4 false = true) ∧
    (∃ d : Dev, ∃ m : Master, d.CanWrite m .galley 0 R.HDR.CTRL) := by
  refine ⟨⟨({} : Dev), .ctrl, 0, ?_⟩,
    ⟨(({} : Dev)).setFld (pg .galley) (F.GALLEY.SHEET_RANGE_LEN.at 0) 1, .ctrl, 0, ?_⟩,
    ⟨({} : Dev), .ctrl, 0, ?_⟩,
    ⟨({} : Dev), .ctrl, ?_⟩⟩
  all_goals and_intros
  all_goals first | exact test_canWrite (by decide +kernel) | exact test_canRead (by decide +kernel) | decide +kernel

theorem test_ImposeAndScanRun_holds_somewhere :
    (∃ d : Dev, ∃ m : Master, ∃ n : Fin 16, d.CanWrite m .galley 0 R.GALLEY.IMPOSE ∧ d.keyHeldBy m (0x2CC + n.val) = false) ∧
    (∃ d : Dev, ∃ m : Master, ∃ n : Fin 16, d.CanWrite m .galley 0 R.GALLEY.IMPOSE ∧ d.keyHeldBy m (0x2CC + n.val) = true ∧
      16384 < bitsOf ((d.reg (pg .galley) R.GALLEY.NEXT_RANGE m.cls).toNat) 0 14 + bitsOf ((d.reg (pg .galley) R.GALLEY.NEXT_RANGE m.cls).toNat) 16 15) ∧
    (∃ d : Dev, ∃ m : Master, ∃ n : Fin 16, d.CanWrite m .galley 0 R.GALLEY.IMPOSE ∧ d.keyHeldBy m (0x2CC + n.val) = true ∧
      bitsOf ((d.reg (pg .galley) R.GALLEY.NEXT_RANGE m.cls).toNat) 0 14 + bitsOf ((d.reg (pg .galley) R.GALLEY.NEXT_RANGE m.cls).toNat) 16 15 ≤ 16384 ∧
      ((∀ s < 16, Dev.overlap (bitsOf ((d.reg (pg .galley) R.GALLEY.NEXT_RANGE m.cls).toNat) 0 14,
      bitsOf ((d.reg (pg .galley) R.GALLEY.NEXT_RANGE m.cls).toNat) 16 15) (d.sheetRange s) = false ∧ d.pendingOf s = none))) ∧
    (∃ d : Dev, ∃ m : Master, ∃ n : Fin 16, d.CanWrite m .galley 0 R.GALLEY.IMPOSE ∧ d.keyHeldBy m (0x2CC + n.val) = true ∧
      (d.pendingOf n.val).isSome = true) ∧
    (∃ d : Dev, ∃ n : Fin 16, ∃ fl : List EntryFlaw, ∃ r : ImposeReq, ∃ q : List Nat, d.busLive = true ∧ d.gal.scanQ = n.val :: q ∧
      d.pendingOf n.val = some r ∧ d.scanFrom d.mem fl r.len r.base 0 = none) ∧
    (∃ d : Dev, ∃ n : Fin 16, ∃ fl : List EntryFlaw, ∃ r : ImposeReq, ∃ q : List Nat, ∃ res : Nat, ∃ bad : Nat, d.busLive = true ∧
      d.gal.scanQ = n.val :: q ∧ d.pendingOf n.val = some r ∧ d.scanFrom d.mem fl r.len r.base 0 = some (res, bad)) := by
  refine ⟨⟨({} : Dev), .ctrl, 0, ?_⟩,
    ⟨((({} : Dev).setKey ((0x2CC + 0)) 0x2001#16)).setReg (pg .galley) R.GALLEY.NEXT_RANGE 0x40000001 2, .ctrl, 0, ?_⟩,
    ⟨((({} : Dev).setKey ((0x2CC + 0)) 0x2001#16)).setReg (pg .galley) R.GALLEY.NEXT_RANGE 0x40000000 2, .ctrl, 0, ?_⟩,
    ⟨({ (({} : Dev).setKey ((0x2CC + 0)) 0x2001#16) with gal.pend := vmod (Vector.replicate 16 none) 0 (fun _ => some ⟨0, 1, 0, false⟩) } : Dev), .ctrl,
  0, ?_⟩,
    ⟨({ ({} : Dev) with gal.scanQ := [0], gal.pend := vmod (Vector.replicate 16 none) 0 (fun _ => some ⟨0, 1, 0, false⟩), mem := Mem.setWord [] 0x38000000 0x00000000 } : Dev),
  0, [], ⟨0, 1, 0, false⟩, [], ?_⟩,
    ⟨({ ({} : Dev) with gal.scanQ := [0], gal.pend := vmod (Vector.replicate 16 none) 0 (fun _ => some ⟨0, 1, 0, false⟩) } : Dev), 0, [⟨0, .double⟩], ⟨0,
  1, 0, false⟩, [], 9, 0, ?_⟩⟩
  all_goals and_intros
  all_goals first | exact test_canWrite (by decide +kernel) | exact test_canRead (by decide +kernel) | decide +kernel

theorem test_GalleySlotAndWhitelistRun_holds_somewhere :
    (∃ d : Dev, d.busLive = true ∧ d.tbActive ≠ 0 ∧ d.gal.running = true ∧ d.gal.deferred.length + d.gal.due.length ≤ 16) ∧
    (∃ d : Dev, d.busLive = true ∧ d.tbActive ≠ 0 ∧ d.gal.running = true ∧ 16 < d.gal.deferred.length + d.gal.due.length) ∧
    (∃ d : Dev, d.busLive = true ∧ d.tbActive ≠ 0 ∧ d.gal.running = false) ∧
    (∃ d : Dev, d.tbActive = 0) ∧
    (∃ d : Dev, ∃ m : Master, ∃ i : Fin 32, ∃ w : Word, d.CanWrite m .galley 0 (R.GALLEY.WL_ADDR + 4 * i.val) ∧ d.lockSet (pg .galley) = false ∧
      d.reg (pg .galley) (R.GALLEY.WL_ADDR + 4 * i.val) ≠ (w &&& 0x800FFFFF#32) ∧ bitAt w.toNat 31 = false) ∧
    (∃ d : Dev, ∃ m : Master, ∃ i : Fin 32, ∃ w : Word, d.CanWrite m .galley 0 (R.GALLEY.WL_ADDR + 4 * i.val) ∧ d.lockSet (pg .galley) = false ∧
      d.reg (pg .galley) (R.GALLEY.WL_ADDR + 4 * i.val) ≠ (w &&& 0x800FFFFF#32) ∧ bitAt w.toNat 31 = true ∧
      d.wlNames (bitsOf w.toNat 0 20) (bitsOf ((d.reg (pg .galley) (R.GALLEY.WL_FIELD + 4 * i.val)).toNat) 0 5) (bitsOf ((d.reg (pg .galley) (R.GALLEY.WL_FIELD + 4 * i.val)).toNat) 8 5) = false) := by
  refine ⟨⟨({ (({} : Dev).setFld (pg .timebase) F.TIMEBASE.SRC_STATUS_ACTIVE 1) with gal.running := true } : Dev), ?_⟩,
    ⟨({ (({} : Dev).setFld (pg .sys) F.SYS.STATE_STATE 3).setFld (pg .timebase) F.TIMEBASE.SRC_STATUS_ACTIVE 1 with gal.running := true, gal.due := List.replicate 17 ⟨0, 0, 0, 0, 0, 0⟩ } : Dev),
  ?_⟩,
    ⟨({ (({} : Dev).setFld (pg .timebase) F.TIMEBASE.SRC_STATUS_ACTIVE 1) with gal.running := false } : Dev), ?_⟩,
    ⟨(({} : Dev).setFld (pg .timebase) F.TIMEBASE.SRC_STATUS_ACTIVE (0)), ?_⟩,
    ⟨({} : Dev), .ctrl, 0, 1, ?_⟩,
    ⟨({} : Dev), .ctrl, 0, 0x80000001, ?_⟩⟩
  all_goals and_intros
  all_goals first | exact test_canWrite (by decide +kernel) | exact test_canRead (by decide +kernel) | decide +kernel

theorem test_OutputsNeverOverlap_holds_somewhere :
    (∃ mode : Nat, ∃ len : Nat, ∃ t : Nat, ∃ dtH : Nat, ∃ cH : Bool, ∃ i : Interval, t ≤ len ∧ i ∈ (layOutput dtH cH (nominal mode len t).1).2) ∧
    (∃ mode : Nat, ∃ len : Nat, ∃ t : Nat, ∃ dtL : Nat, ∃ cL : Bool, ∃ i : Interval, t ≤ len ∧ i ∈ (layOutput dtL cL (nominal mode len t).2).2) ∧
    (∃ mode : Nat, ∃ len : Nat, ∃ t : Nat, ∃ dtH : Nat, ∃ dtL : Nat, ∃ cH : Bool, ∃ cL : Bool, ∃ i : Interval, t ≤ len ∧
      i ∈ (layOutput dtH cH (nominal mode len t).1).1 ++ (layOutput dtL cL (nominal mode len t).2).1) := by
  refine ⟨⟨0, 100, 50, 10, false, (10, 50), ?_⟩,
    ⟨0, 100, 50, 5, false, (55, 100), ?_⟩,
    ⟨0, 100, 50, 10, 5, true, false, (0, 50), ?_⟩⟩
  all_goals and_intros
  all_goals first | exact test_canWrite (by decide +kernel) | exact test_canRead (by decide +kernel) | decide +kernel

theorem test_TileEnableAndKillRun_holds_somewhere :
    (∃ d : Dev, ∃ m : Master, ∃ n : Fin 24, d.CanWrite m .tile n.val R.HDR.CTRL ∧ d.keyHeldBy m (0x100 + n.val) = true ∧
      d.flag (pg .tile n.val) F.HDR.CTRL_ENABLE = false ∧
      d.fld (pg .tile n.val) F.TILE.PER_MIN_PERIOD ≤ d.fld (pg .tile n.val) F.TILE.PER_MAX_PERIOD ∧
      d.deadTime n.val .h + d.deadTime n.val .l + 128 * d.fld (pg .tile n.val) F.TILE.MIN_PULSE_MIN ≤ d.fld (pg .tile n.val) F.TILE.PER_MIN_PERIOD ∧
      (((d.cmpSet n.val .a = 3 ∨ d.cmpSet n.val .b = 3) ↔ d.tileMode n.val = 4)) ∧ ((∀ c,
      d.cmpFunc n.val c = 4 → d.flag (pg .tile n.val) (Dev.cmpFlag c) = false))) ∧
    (∃ d : Dev, ∃ m : Master, ∃ n : Fin 24, d.CanWrite m .tile n.val R.HDR.CTRL ∧ d.keyHeldBy m (0x100 + n.val) = true ∧
      d.flag (pg .tile n.val) F.HDR.CTRL_ENABLE = false ∧
      (d.fld (pg .tile n.val) F.TILE.PER_MAX_PERIOD < d.fld (pg .tile n.val) F.TILE.PER_MIN_PERIOD ∨ d.fld (pg .tile n.val) F.TILE.PER_MIN_PERIOD < d.deadTime n.val .h + d.deadTime n.val .l + 128 * d.fld (pg .tile n.val) F.TILE.MIN_PULSE_MIN ∨ ¬ ((d.cmpSet n.val .a = 3 ∨ d.cmpSet n.val .b = 3) ↔ d.tileMode n.val = 4))) ∧
    (∃ d : Dev, ∃ m : Master, ∃ n : Fin 24, d.CanWrite m .tile n.val R.HDR.CTRL ∧ d.flag (pg .tile n.val) F.HDR.CTRL_ENABLE = true) ∧
    (∃ d : Dev, ∃ n : Fin 24, ∃ k : Fin 4, d.busLive = true ∧ k ≠ 0 ∧ d.tstate n.val ≠ 0) := by
  refine ⟨⟨((({} : Dev).setKey ((0x100 + 0)) 0x2001#16).setFlag (pg .tile 0) F.HDR.CTRL_ENABLE false), .ctrl, 0, ?_⟩,
    ⟨(((({} : Dev).setKey ((0x100 + 0)) 0x2001#16).setFlag (pg .tile 0) F.HDR.CTRL_ENABLE false)).setFld (pg .tile 0) F.TILE.PER_MAX_PERIOD 1, .ctrl, 0,
  ?_⟩,
    ⟨(({} : Dev).setFlag (pg .tile 0) F.HDR.CTRL_ENABLE true), .ctrl, 0, ?_⟩,
    ⟨(({} : Dev).setFld (pg .tile 0) F.TILE.STATUS_TSTATE (1)), 0, 1, ?_⟩⟩
  · and_intros <;> first | exact test_canWrite (by decide +kernel) | decide +kernel | (intro c; cases c <;> decide +kernel)
  · and_intros <;> first | exact test_canWrite (by decide +kernel) | exact test_canRead (by decide +kernel) | decide +kernel
  · and_intros <;> first | exact test_canWrite (by decide +kernel) | exact test_canRead (by decide +kernel) | decide +kernel
  · and_intros <;> first | exact test_canWrite (by decide +kernel) | exact test_canRead (by decide +kernel) | decide +kernel

theorem test_TilePeriodsRun_holds_somewhere :
    (∃ d : Dev, ∃ n : Fin 24, d.busLive = true ∧ d.tstate n.val = 2 ∧ (d.tileS n.val).want = .stop) ∧
    (∃ d : Dev, ∃ n : Fin 24, d.busLive = true ∧ d.tstate n.val = 3 ∧ (d.tileS n.val).want = .hold) ∧
    (∃ d : Dev, ∃ n : Fin 24, d.busLive = true ∧ d.tstate n.val = 2 ∧ (d.tileS n.val).want = .run ∧ d.state = 4) ∧
    (∃ d : Dev, ∃ n : Fin 24, d.busLive = true ∧ d.fld (pg .tile n.val) F.TILE.NCYC_NCYC ≤ (d.reg (pg .tile n.val) R.TILE.CONSEC).toNat ∧
      d.flag (pg .tile n.val) F.TILE.STATUS_BOUND = false) ∧
    (∃ d : Dev, ∃ n : Fin 24, d.busLive = true ∧ d.fld (pg .tile n.val) F.TILE.NCYC_NCYC ≤ (d.reg (pg .tile n.val) R.TILE.CONSEC).toNat ∧
      d.flag (pg .tile n.val) F.TILE.STATUS_BOUND = true ∧ 2 ≤ d.gstate (d.fld (pg .tile n.val) F.TILE.STATUS_GROUP) ∧
      d.gstate (d.fld (pg .tile n.val) F.TILE.STATUS_GROUP) ≤ 4) := by
  refine ⟨⟨(((({} : Dev).setFld (pg .tile 0) F.TILE.STATUS_TSTATE (2))).modTile 0 (fun x => { x with want := .stop })), 0, ?_⟩,
    ⟨(((({} : Dev).setFld (pg .tile 0) F.TILE.STATUS_TSTATE (3))).modTile 0 (fun x => { x with want := .hold })), 0, ?_⟩,
    ⟨((((({} : Dev).setFld (pg .sys) F.SYS.STATE_STATE 4).setFld (pg .tile 0) F.TILE.STATUS_TSTATE (2))).modTile 0 (fun x => { x with want := .run })),
  0, ?_⟩,
    ⟨((({} : Dev).setFlag (pg .tile 0) F.TILE.STATUS_BOUND false)).setReg (pg .tile 0) R.TILE.CONSEC 1023, 0, ?_⟩,
    ⟨((({} : Dev).setFlag (pg .tile 0) F.TILE.STATUS_BOUND true)).setReg (pg .tile 0) R.TILE.CONSEC 1023 |>.setFld (pg .conv 0) F.CONV.STATUS_GSTATE 3,
  0, ?_⟩⟩
  all_goals and_intros
  all_goals first | exact test_canWrite (by decide +kernel) | exact test_canRead (by decide +kernel) | decide +kernel

theorem test_CalibrationAndComparatorsRun_holds_somewhere :
    (∃ d : Dev, ∃ n : Fin 24, ∃ m, d.CanWrite m .tile n.val R.TILE.CAL_CTRL) ∧
    (∃ d : Dev, ∃ n : Fin 24, ∃ cpc : BitVec 16, d.busLive = true ∧ (d.tileS n.val).calBusy = true ∧ 1152 ≤ cpc.toNat ∧ cpc.toNat ≤ 1984 ∧
      (d.tileS n.val).lastCpc = none) ∧
    (∃ d : Dev, ∃ n : Fin 24, ∃ cpc : BitVec 16, d.busLive = true ∧ (d.tileS n.val).calBusy = true ∧ (cpc.toNat < 1152 ∨ 1984 < cpc.toNat)) ∧
    (∃ d : Dev, ∃ n : Fin 24, ∃ c : Cmp, d.busLive = true ∧ d.cmpFunc n.val c = 0) ∧
    (∃ d : Dev, ∃ n : Fin 24, ∃ uv : BitVec 22, d.busLive = true ∧ d.cmpFunc n.val .a = 4 ∧ d.cmpFunc n.val .b ≠ 4 ∧
      d.flag (pg .tile n.val) F.TILE.STATUS_CMPA_OUT = false ∧ d.tstate n.val ≠ 0 ∧ d.active (srcNo .tile n.val B.TILE.TILE_TRIP) = false ∧
      Dev.cmpChanges (d.cmpLive n.val .a).1 false (d.cmpLive n.val .a).2.2 uv.toNat = true) ∧
    (∃ d : Dev, ∃ n : Fin 24, ∃ x : BitVec 22, d.busLive = true ∧ (d.tileAdvance n.val x.toNat).flag (pg .tile n.val) F.TILE.STATUS_CMPA_OUT = false) := by
  refine ⟨⟨({} : Dev), 0, .ctrl, ?_⟩,
    ⟨((((({} : Dev)).modTile 0 (fun x => { x with calBusy := true }))).modTile 0 (fun x => { x with lastCpc := none })), 0, 1152, ?_⟩,
    ⟨((({} : Dev)).modTile 0 (fun x => { x with calBusy := true })), 0, 0, ?_⟩,
    ⟨({} : Dev), 0, .a, ?_⟩,
    ⟨(((((({} : Dev).setFlag (pg .tile 0) F.TILE.STATUS_CMPA_OUT false).setFld (pg .tile 0) F.TILE.STATUS_TSTATE (1)).setFld (pg .tile 0) F.TILE.CMPA_CFG_FUNC 4).setKey 0x100 0x2001).setKey 0x118 0x2001),
  0, 4000000, ?_⟩,
    ⟨(({} : Dev)).setFld (pg .tile 0) F.TILE.CMPA_CFG_FUNC 4, 0, 0, ?_⟩⟩
  all_goals and_intros
  all_goals first | exact test_canWrite (by decide +kernel) | exact test_canRead (by decide +kernel) | decide +kernel

theorem test_GroupControlRuns_holds_somewhere :
    (∃ d : Dev, ∃ m : Master, ∃ g : Fin 8, d.CanWrite m .conv g.val R.HDR.CTRL ∧ d.keyHeldBy m (0x148 + g.val) = true ∧
      d.flag (pg .conv g.val) F.HDR.CTRL_ENABLE = false ∧ d.convKeys g.val = true ∧ d.groupConfigOk g.val = true ∧ ((∀ s ∈ d.boundSlots g.val,
      d.flag (pg .tile (d.slotTile g.val s)) F.TILE.STATUS_BOUND = false)) ∧
      (fun (e : Dev) => (d.armedHolds && !e.armedHolds) = false) (d.convEnable g.val true true)) ∧
    (∃ d : Dev, ∃ m : Master, ∃ g : Fin 8, d.CanWrite m .conv g.val R.HDR.CTRL ∧ d.keyHeldBy m (0x148 + g.val) = true ∧
      d.flag (pg .conv g.val) F.HDR.CTRL_ENABLE = false ∧ (d.convKeys g.val = false ∨ d.groupConfigOk g.val = false)) ∧
    (∃ d : Dev, ∃ m : Master, ∃ g : Fin 8, ∃ w : Word, d.CanWrite m .conv g.val R.CONV.GROUP_CTRL ∧ bitAt w.toNat 0 = true ∧
      (fun (e : Dev) => (d.armedHolds && !e.armedHolds) = false) ((d.plainWrite m .conv g.val R.CONV.GROUP_CTRL (d.holding (pg .conv g.val) R.CONV.GROUP_CTRL 1 w)).setFlag (pg .conv g.val) F.CONV.GROUP_CTRL_GO true)) ∧
    (∃ d : Dev, ∃ m : Master, ∃ g : Fin 8, ∃ w : Word, d.CanWrite m .conv g.val R.CONV.GROUP_CTRL ∧ bitAt w.toNat 0 = false ∧
      2 ≤ (d.plainWrite m .conv g.val R.CONV.GROUP_CTRL (d.holding (pg .conv g.val) R.CONV.GROUP_CTRL 1 w)).gstate g.val ∧
      (d.plainWrite m .conv g.val R.CONV.GROUP_CTRL (d.holding (pg .conv g.val) R.CONV.GROUP_CTRL 1 w)).gstate g.val ≤ 6 ∧
      (fun (e : Dev) => (d.armedHolds && !e.armedHolds) = false) ((d.plainWrite m .conv g.val R.CONV.GROUP_CTRL (d.holding (pg .conv g.val) R.CONV.GROUP_CTRL 1 w)).clearGo g.val)) ∧
    (∃ d : Dev, ∃ g : Fin 8, d.busLive = true ∧ d.gstate g.val = 1 ∧ d.flag (pg .conv g.val) F.CONV.GROUP_CTRL_GO = true ∧ d.state = 4 ∧
      ((d.gridDependent g.val = true → d.angleValid = true)) ∧ d.startChecks g.val = false) ∧
    (∃ d : Dev, ∃ g : Fin 8, d.busLive = true ∧ d.gstate g.val = 1 ∧ d.flag (pg .conv g.val) F.CONV.GROUP_CTRL_GO = true ∧ d.state = 4 ∧
      ((d.gridDependent g.val = true → d.angleValid = true)) ∧ d.startChecks g.val = true) ∧
    (∃ d : Dev, ∃ m : Master, ∃ g : Fin 8, d.CanWrite m .conv g.val R.CONV.PROT_CTRL ∧ d.gstate g.val = 7 ∧
      (fun (e : Dev) => (d.armedHolds && !e.armedHolds) = false) (d.unlatch g.val)) ∧
    (∃ d : Dev, ∃ m : Master, ∃ g : Fin 8, d.CanWrite m .conv g.val R.CONV.PROT_CTRL ∧ d.gstate g.val = 1 ∧
      (fun (e : Dev) => (d.armedHolds && !e.armedHolds) = false) (d.convRestore g.val)) := by
  refine ⟨⟨((((((({} : Dev).setKey ((0x148 + 0)) 0x2001#16).setFlag (pg .conv 0) F.HDR.CTRL_ENABLE false).setFlag (pg .conv 0) (F.CONV.BIND_VALID.at 0) true).setFld (pg .conv 0) F.CONV.PHASE_CFG_MIN_PHASES 1).setFld (pg .conv 0) F.CONV.PHASE_CFG_LOAD_MIN 1).setKey 0x100 0x2001),
  .ctrl, 0, ?_⟩,
    ⟨((({} : Dev).setKey ((0x148 + 0)) 0x2001#16).setFlag (pg .conv 0) F.HDR.CTRL_ENABLE false), .ctrl, 0, ?_⟩,
    ⟨({} : Dev), .ctrl, 0, 1, ?_⟩,
    ⟨(({} : Dev).setFld (pg .conv 0) F.CONV.STATUS_GSTATE 3), .ctrl, 0, 0, ?_⟩,
    ⟨(((((({} : Dev).setFld (pg .sys) F.SYS.STATE_STATE 4).setFld (pg .conv 0) F.CONV.STATUS_GSTATE (1)).setFlag (pg .conv 0) F.CONV.GROUP_CTRL_GO true).setFlag (pg .conv 0) F.CONV.BATT_CFG_OV_EN true).setFld (pg .conv 0) F.CONV.BATT_V_OV_LEVEL 0),
  0, ?_⟩,
    ⟨(((({} : Dev).setFld (pg .sys) F.SYS.STATE_STATE 4).setFld (pg .conv 0) F.CONV.STATUS_GSTATE (1)).setFlag (pg .conv 0) F.CONV.GROUP_CTRL_GO true),
  0, ?_⟩,
    ⟨(({} : Dev).setFld (pg .conv 0) F.CONV.STATUS_GSTATE (7)), .ctrl, 0, ?_⟩,
    ⟨(({} : Dev).setFld (pg .conv 0) F.CONV.STATUS_GSTATE (1)), .ctrl, 0, ?_⟩⟩
  all_goals and_intros
  all_goals first | exact test_canWrite (by decide +kernel) | exact test_canRead (by decide +kernel) | decide +kernel

theorem test_GroupOperationRuns_holds_somewhere :
    (∃ d : Dev, ∃ m : Master, ∃ g : Fin 8, ∃ w : Word, d.CanWrite m .conv g.val R.CONV.REF ∧
      (fun (e : Dev) => (d.armedHolds && !e.armedHolds) = false) ((d.plainWrite m .conv g.val R.CONV.REF w).collect g.val (.ref w.toInt))) ∧
    (∃ d : Dev, ∃ m : Master, ∃ g : Fin 8, d.CanWrite m .conv g.val R.CONV.LAW_CTRL ∧
      d.sfld (pg .conv g.val) F.CONV.OUT_MIN_VALUE ≤ d.sfld (pg .conv g.val) F.CONV.OUT_MAX_VALUE ∧
      (fun (e : Dev) => (d.armedHolds && !e.armedHolds) = false) (d.modConv g.val (fun c => { c with loadReq := true }))) ∧
    (∃ d : Dev, ∃ m : Master, ∃ g : Fin 8, d.CanWrite m .conv g.val R.CONV.LAW_CTRL ∧
      d.sfld (pg .conv g.val) F.CONV.OUT_MAX_VALUE < d.sfld (pg .conv g.val) F.CONV.OUT_MIN_VALUE) ∧
    (∃ d : Dev, ∃ m : Master, ∃ g : Fin 8, d.CanWrite m .conv g.val R.CONV.LAW_CTRL ∧
      (fun (e : Dev) => (d.armedHolds && !e.armedHolds) = false) (d.modConv g.val (fun c => { c with clearReq := true }))) ∧
    (∃ d : Dev, ∃ g : Fin 8, d.busLive = true ∧ 2 ≤ (d.settleU g.val).gstate g.val ∧ (d.settleU g.val).gstate g.val ≤ 6 ∧
      (if ((d.settleU g.val).convS g.val).begun then ((d.settleU g.val).reachU g.val).closePeriod g.val else (d.settleU g.val).reachU g.val).gridDependent g.val = true ∧
      (if ((d.settleU g.val).convS g.val).begun then ((d.settleU g.val).reachU g.val).closePeriod g.val else (d.settleU g.val).reachU g.val).angleValid = false) ∧
    (∃ d : Dev, ∃ g : Fin 8, d.busLive = true ∧ 2 ≤ (d.settleU g.val).gstate g.val ∧ (d.settleU g.val).gstate g.val ≤ 6 ∧
      (((if ((d.settleU g.val).convS g.val).begun then ((d.settleU g.val).reachU g.val).closePeriod g.val else (d.settleU g.val).reachU g.val).gridDependent g.val = true → (if ((d.settleU g.val).convS g.val).begun then ((d.settleU g.val).reachU g.val).closePeriod g.val else (d.settleU g.val).reachU g.val).angleValid = true)) ∧
      (((d.settleU g.val).gstate g.val ≤ 4 → (if ((d.settleU g.val).convS g.val).begun then ((d.settleU g.val).reachU g.val).closePeriod g.val else (d.settleU g.val).reachU g.val).collapsed g.val (if ((d.settleU g.val).convS g.val).begun then ((d.settleU g.val).convS g.val).iTot.mean else none) = false))) ∧
    (∃ d : Dev, ∃ g : Fin 8, d.busLive = true ∧ 2 ≤ d.gstate g.val ∧ d.gstate g.val ≤ 4 ∧ (d.convS g.val).circ = false ∧ d.topo g.val ≠ 2 ∧
      ((d.flag (pg .conv g.val) F.CONV.BATT_CFG_OV_EN = true → d.newest (d.fld (pg .conv g.val) F.CONV.FB_IN_V) ≤ (d.fld (pg .conv g.val) F.CONV.BATT_V_OV_LEVEL : Int))) ∧
      d.flag (pg .conv g.val) F.CONV.BATT_CFG_RATE_EN = false) ∧
    (∃ d : Dev, ∃ g : Fin 8, d.busLive = true ∧ 2 ≤ d.gstate g.val ∧ d.gstate g.val ≤ 5 ∧ d.flag (pg .conv g.val) F.CONV.BATT_CFG_OV_EN = true ∧
      (d.fld (pg .conv g.val) F.CONV.BATT_V_OV_LEVEL : Int) < d.newest (d.fld (pg .conv g.val) F.CONV.FB_IN_V)) ∧
    (∃ d : Dev, ∃ g : Fin 8, d.busLive = true ∧ d.gstate g.val = 6 ∧
      d.fld (pg .conv g.val) F.CONV.HICCUP_CFG_OFF * 40000 ≤ d.now - (d.convS g.val).hicFrom) ∧
    (∃ d : Dev, ∃ g : Fin 8, ∃ t, d.busLive = true ∧ (d.convS g.val).cleanFrom = some t ∧
      d.fld (pg .conv g.val) F.CONV.HICCUP_CLEAN_TIME * 400000 ≤ (d.convS g.val).cleanRun + (d.now - t)) ∧
    (∃ d : Dev, ∃ g : Fin 8, ∃ i : Option Int, d.busLive = true ∧ (d.convS g.val).verdictDue = some i ∧ (d.convS g.val).mixed = true) := by
  refine ⟨⟨({} : Dev), .ctrl, 0, 0, ?_⟩,
    ⟨({} : Dev), .ctrl, 0, ?_⟩,
    ⟨((({} : Dev).setFld (pg .conv 0) F.CONV.OUT_MAX_VALUE 1).setFld (pg .conv 0) F.CONV.OUT_MIN_VALUE 2), .ctrl, 0, ?_⟩,
    ⟨({} : Dev), .ctrl, 0, ?_⟩,
    ⟨((({} : Dev).setFld (pg .conv 0) F.CONV.STATUS_GSTATE 3).setFlag (pg .conv 0) F.CONV.SHAPE_MODE true), 0, ?_⟩,
    ⟨(({} : Dev).setFld (pg .conv 0) F.CONV.STATUS_GSTATE 5), 0, ?_⟩,
    ⟨((((({} : Dev).setFld (pg .conv 0) F.CONV.STATUS_GSTATE (2)).setFlag (pg .conv 0) F.CONV.BATT_CFG_RATE_EN false)).modConv 0 (fun x => { x with circ := false })),
  0, ?_⟩,
    ⟨({ ((({} : Dev).setFld (pg .conv 0) F.CONV.STATUS_GSTATE (2)).setFlag (pg .conv 0) F.CONV.BATT_CFG_OV_EN true) with af := vmod ((({} : Dev).setFld (pg .conv 0) F.CONV.STATUS_GSTATE (2)).setFlag (pg .conv 0) F.CONV.BATT_CFG_OV_EN true).af 0 (fun _ => { val := 100000 }) }),
  0, ?_⟩,
    ⟨({ (({ (({} : Dev).setFld (pg .conv 0) F.CONV.STATUS_GSTATE (6)) with now := 10000000000000 } : Dev)) with now := 10000000000000 } : Dev), 0, ?_⟩,
    ⟨({ (({ (((({} : Dev)).modConv 0 (fun x => { x with cleanFrom := some 0 })).modConv 0 (fun c => { c with cleanFrom := some 0 })) with now := 10000000000000 } : Dev)) with now := 10000000000000 } : Dev),
  0, 0, ?_⟩,
    ⟨(((((({} : Dev)).modConv 0 (fun x => { x with verdictDue := some (none : Option Int) }))).modConv 0 (fun x => { x with mixed := true })).modConv 0 (fun c => { c with verdictDue := some none, mixed := true })),
  0, none, ?_⟩⟩
  all_goals and_intros
  all_goals first | exact test_canWrite (by decide +kernel) | exact test_canRead (by decide +kernel) | decide +kernel

theorem test_LawOutputStaysInLimits_holds_somewhere :
    (∃ l : LawSet, l.outMin ≤ l.outMax) ∧
    (∃ c : ConvS, c.p ≤ c.target * stepsPerMs) ∧
    (∃ c : ConvS, c.target * stepsPerMs ≤ c.p) := by
  refine ⟨⟨{}, ?_⟩,
    ⟨{}, ?_⟩,
    ⟨{}, ?_⟩⟩
  all_goals and_intros
  all_goals first | exact test_canWrite (by decide +kernel) | exact test_canRead (by decide +kernel) | decide +kernel

theorem test_DischargeRuns_holds_somewhere :
    (∃ d : Dev, ∃ m : Master, d.CanWrite m .disch 0 R.DISCH.DCMD ∧ d.state ≠ 4 ∧ d.disch.on = false) ∧
    (∃ d : Dev, ∃ m : Master, d.CanWrite m .disch 0 R.DISCH.DCMD ∧ d.disch.on = true ∧ d.disch.byStart = true ∧ d.disch.guardUntil ≤ d.now) ∧
    (∃ d : Dev, ∃ m : Master, d.CanWrite m .disch 0 R.DISCH.DCMD ∧ (d.disch.on = false ∨ d.disch.byStart = false ∨ d.now < d.disch.guardUntil)) ∧
    (∃ d : Dev, ∃ m : Master, d.CanWrite m .disch 0 R.DISCH.DCMD ∧ d.state = 4 ∧ d.flag (pg .disch) F.DISCH.DCFG_RES_EN = true ∧
      d.gstate (d.fld (pg .disch) F.DISCH.DCFG_RES_GROUP) = 3 ∧ d.disch.on = false) ∧
    (∃ d : Dev, ∃ m : Master, d.CanWrite m .disch 0 R.DISCH.DCMD ∧ (d.state = 2 ∨ d.state = 3) ∧ d.dstate = 0 ∧
      d.fld (pg .disch) F.DISCH.DCFG_THRESH ≠ 0 ∧ d.newest (d.fld (pg .disch) F.DISCH.DCFG_IN) < (d.fld (pg .disch) F.DISCH.DCFG_THRESH : Int)) ∧
    (∃ d : Dev, d.disch.armed = true ∧ ((∀ n < 24, d.tstate n ≠ 3)) ∧ d.disch.on = false) ∧
    (∃ d : Dev, d.dstate = 5 ∧ d.disch.since + 16000 ≤ d.now) ∧
    (∃ d : Dev, d.dstate = 2 ∧ d.disch.guardUntil ≤ d.now ∧ d.disch.holdFrom + 400000 * d.fld (pg .disch) F.DISCH.DTIME_HOLD ≤ d.now) ∧
    (∃ d : Dev, d.disch.on = true ∧ (d.dstate = 1 ∨ d.dstate = 3) ∧ d.disch.since + 4000000 * d.fld (pg .disch) F.DISCH.DTIME_TIME ≤ d.now) := by
  refine ⟨⟨({ ({} : Dev) with disch.on := false } : Dev), .ctrl, ?_⟩,
    ⟨({ ({ ({ ({} : Dev) with disch.on := true } : Dev) with disch.byStart := true } : Dev) with now := 10000000000000 } : Dev), .ctrl, ?_⟩,
    ⟨({ ({} : Dev) with disch.on := false } : Dev), .ctrl, ?_⟩,
    ⟨(({ ((({} : Dev).setFld (pg .sys) F.SYS.STATE_STATE 4).setFlag (pg .disch) F.DISCH.DCFG_RES_EN true) with disch.on := false } : Dev).setFld (pg .conv 0) F.CONV.STATUS_GSTATE 3),
  .ctrl, ?_⟩,
    ⟨(((({} : Dev).setFld (pg .sys) F.SYS.STATE_STATE 2).setFld (pg .disch) F.DISCH.STATUS_DSTATE (0)).setFld (pg .disch) F.DISCH.DCFG_THRESH (1)),
  .ctrl, ?_⟩,
    ⟨({ ({ ({} : Dev) with disch.armed := true } : Dev) with disch.on := false } : Dev), ?_⟩,
    ⟨({ (({ (({} : Dev).setFld (pg .disch) F.DISCH.STATUS_DSTATE (5)) with now := 10000000000000 } : Dev)) with now := 10000000000000 } : Dev), ?_⟩,
    ⟨({ (({ (({} : Dev).setFld (pg .disch) F.DISCH.STATUS_DSTATE (2)) with now := 10000000000000 } : Dev)) with now := 10000000000000 } : Dev), ?_⟩,
    ⟨({ (({ ({ (({} : Dev).setFld (pg .disch) F.DISCH.STATUS_DSTATE (1)) with disch.on := true } : Dev) with now := 10000000000000 } : Dev)) with now := 10000000000000 } : Dev),
  ?_⟩⟩
  all_goals and_intros
  all_goals first | exact test_canWrite (by decide +kernel) | exact test_canRead (by decide +kernel) | decide +kernel

theorem test_ConvertersRun_holds_somewhere :
    (∃ d : Dev, ∃ m : Master, ∃ c : Fin 16, d.CanWrite m .adc c.val R.HDR.CTRL ∧ d.keyHeldBy m (0x150 + c.val) = true ∧
      d.flag (pg .adc c.val) F.HDR.CTRL_ENABLE = false) ∧
    (∃ d : Dev, ∃ c : Fin 16, d.busLive = true ∧ d.flag (pg .adc c.val) F.HDR.CTRL_ENABLE = false) ∧
    (∃ d : Dev, ∃ c : Fin 16, ∃ at' : Word × Nat × Nat, d.busLive = true ∧ d.flag (pg .adc c.val) F.HDR.CTRL_ENABLE = true ∧
      (Dev.validSlots (d.adcS c.val)).contains (d.adcS c.val).cur = true ∧ (d.adcS c.val).leaving = false ∧
      (d.adcS c.val).since + Dev.slotClocks (d.adcS c.val) ≤ d.now ∧ (d.adcS c.val).held = some at' ∧
      d.owFlag (4 * c.val + (Dev.slotWord (d.adcS c.val) (d.adcS c.val).cur) % 4) = false) ∧
    (∃ d : Dev, ∃ c : Fin 16, d.busLive = true ∧ (d.adcS c.val).low = true ∧ (d.adcS c.val).leaving = true ∧ (d.adcS c.val).since + 400 ≤ d.now) ∧
    (∃ d : Dev, ∃ c : Fin 16, d.busLive = true ∧ d.flag (pg .adc c.val) F.HDR.CTRL_ENABLE = true ∧ Dev.validSlots (d.adcS c.val) ≠ [] ∧
      (d.adcS c.val).lastDone + 800 ≤ d.now) := by
  refine ⟨⟨((({} : Dev).setKey ((0x150 + 0)) 0x2001#16).setFlag (pg .adc 0) F.HDR.CTRL_ENABLE false), .ctrl, 0, ?_⟩,
    ⟨(({} : Dev).setFlag (pg .adc 0) F.HDR.CTRL_ENABLE false), 0, ?_⟩,
    ⟨({ (({ ((({} : Dev).setFlag (pg .adc 0) F.HDR.CTRL_ENABLE true).modAdc 0 (fun a => { a with slots := vmod a.slots 0 (fun _ => 0x80000000#32), held := some (0, 0, 0) })) with now := 10000000000000 } : Dev)) with now := 10000000000000 } : Dev),
  0, (0, 0, 0), ?_⟩,
    ⟨({ (({ (({} : Dev).modAdc 0 (fun a => { a with low := true, leaving := true })) with now := 10000000000000 } : Dev)) with now := 10000000000000 } : Dev),
  0, ?_⟩,
    ⟨({ (({ ((({} : Dev).setFlag (pg .adc 0) F.HDR.CTRL_ENABLE true).modAdc 0 (fun a => { a with slots := vmod a.slots 0 (fun _ => 0x80000000#32), held := some (0, 0, 0) })) with now := 10000000000000 } : Dev)) with now := 10000000000000 } : Dev),
  0, ?_⟩⟩
  all_goals and_intros
  all_goals first | exact test_canWrite (by decide +kernel) | exact test_canRead (by decide +kernel) | decide +kernel

theorem test_BinsAndStreamsRun_holds_somewhere :
    (∃ d : Dev, ∃ h : Fin 64, ∃ f : Word, ∃ b : Nat, d.busLive = true ∧ (d.binS h.val).next = some (f, b) ∧
      d.reg (pg .timebase) R.TIMEBASE.FOLIO ≠ f ∧ (d.binS h.val).openAt + 400 ≤ d.now) ∧
    (∃ d : Dev, ∃ h : Fin 64, d.busLive = true ∧ (d.binS h.val).next = none) ∧
    (∃ d : Dev, ∃ m : Master, ∃ h : Fin 64, ∃ w : Word, d.CanWrite m .bin 0 (R.BIN.CH + 4 * h.val) ∧
      d.flag (pg .bin) (F.BIN.CH_EN.at h.val) = false ∧ bitsOf w.toNat 8 3 ≤ 4 ∧ bitsOf w.toNat 12 3 < 2) ∧
    (∃ d : Dev, ∃ m : Master, ∃ h : Fin 64, ∃ w : Word, d.CanWrite m .bin 0 (R.BIN.CH + 4 * h.val) ∧
      d.flag (pg .bin) (F.BIN.CH_EN.at h.val) = false ∧ bitsOf w.toNat 8 3 ≤ 4 ∧ 2 ≤ bitsOf w.toNat 12 3 ∧
      Dev.bytesIn ((0x30000000 + 256 * bitsOf w.toNat F.BIN.CH_BASE.lo F.BIN.CH_BASE.w,
      bitsOf w.toNat 12 3 * 2 ^ (9 + bitsOf w.toNat 8 3) * 4)) 0x30000000 0x30200000 = true ∧
      d.storageTaken ((0x30000000 + 256 * bitsOf w.toNat F.BIN.CH_BASE.lo F.BIN.CH_BASE.w,
      bitsOf w.toNat 12 3 * 2 ^ (9 + bitsOf w.toNat 8 3) * 4)) 96 h.val = false) ∧
    (∃ d : Dev, ∃ m : Master, ∃ c : Fin 16, ∃ k : Fin 4, ∃ w : Word, d.CanWrite m .adc c.val (R.ADC.STREAM + 4 * k.val) ∧ bitsOf w.toNat 8 7 ≤ 95 ∧
      bitsOf w.toNat 16 4 ≤ 8 ∧
      (((d.setReg (pg .adc c.val) (R.ADC.STREAM + 4 * k.val) (BitVec.ofNat 32 (bitsOf (w.toNat &&& 0x81FF7F0F) 0 31))).modAdc c.val (fun a => { a with dec := a.dec.filter (fun e => e.1 / 4 != k.val) })).ringOn (bitsOf w.toNat 8 7) = false ∨ ((d.setReg (pg .adc c.val) (R.ADC.STREAM + 4 * k.val) (BitVec.ofNat 32 (bitsOf (w.toNat &&& 0x81FF7F0F) 0 31))).modAdc c.val (fun a => { a with dec := a.dec.filter (fun e => e.1 / 4 != k.val) })).ringProducer (bitsOf w.toNat 8 7) ≠ pg .adc c.val ∨ ((d.setReg (pg .adc c.val) (R.ADC.STREAM + 4 * k.val) (BitVec.ofNat 32 (bitsOf (w.toNat &&& 0x81FF7F0F) 0 31))).modAdc c.val (fun a => { a with dec := a.dec.filter (fun e => e.1 / 4 != k.val) })).flag (pg .ring (bitsOf w.toNat 8 7)) F.RING.CFG_STAMP = false ∨ ((d.setReg (pg .adc c.val) (R.ADC.STREAM + 4 * k.val) (BitVec.ofNat 32 (bitsOf (w.toNat &&& 0x81FF7F0F) 0 31))).modAdc c.val (fun a => { a with dec := a.dec.filter (fun e => e.1 / 4 != k.val) })).ringSize (bitsOf w.toNat 8 7) < 8 * (((d.setReg (pg .adc c.val) (R.ADC.STREAM + 4 * k.val) (BitVec.ofNat 32 (bitsOf (w.toNat &&& 0x81FF7F0F) 0 31))).modAdc c.val (fun a => { a with dec := a.dec.filter (fun e => e.1 / 4 != k.val) })).streamLoad c.val k.val (bitsOf w.toNat 8 7) + 2))) ∧
    (∃ d : Dev, ∃ m : Master, ∃ c : Fin 16, ∃ k : Fin 4, ∃ w : Word, d.CanWrite m .adc c.val (R.ADC.STREAM + 4 * k.val) ∧ bitsOf w.toNat 8 7 ≤ 95 ∧
      bitsOf w.toNat 16 4 ≤ 8 ∧
      ((d.setReg (pg .adc c.val) (R.ADC.STREAM + 4 * k.val) (BitVec.ofNat 32 (bitsOf (w.toNat &&& 0x81FF7F0F) 0 31))).modAdc c.val (fun a => { a with dec := a.dec.filter (fun e => e.1 / 4 != k.val) })).ringOn (bitsOf w.toNat 8 7) = true ∧
      ((d.setReg (pg .adc c.val) (R.ADC.STREAM + 4 * k.val) (BitVec.ofNat 32 (bitsOf (w.toNat &&& 0x81FF7F0F) 0 31))).modAdc c.val (fun a => { a with dec := a.dec.filter (fun e => e.1 / 4 != k.val) })).ringProducer (bitsOf w.toNat 8 7) = pg .adc c.val ∧
      ((d.setReg (pg .adc c.val) (R.ADC.STREAM + 4 * k.val) (BitVec.ofNat 32 (bitsOf (w.toNat &&& 0x81FF7F0F) 0 31))).modAdc c.val (fun a => { a with dec := a.dec.filter (fun e => e.1 / 4 != k.val) })).flag (pg .ring (bitsOf w.toNat 8 7)) F.RING.CFG_STAMP = true ∧
      8 * (((d.setReg (pg .adc c.val) (R.ADC.STREAM + 4 * k.val) (BitVec.ofNat 32 (bitsOf (w.toNat &&& 0x81FF7F0F) 0 31))).modAdc c.val (fun a => { a with dec := a.dec.filter (fun e => e.1 / 4 != k.val) })).streamLoad c.val k.val (bitsOf w.toNat 8 7) + 2) ≤ ((d.setReg (pg .adc c.val) (R.ADC.STREAM + 4 * k.val) (BitVec.ofNat 32 (bitsOf (w.toNat &&& 0x81FF7F0F) 0 31))).modAdc c.val (fun a => { a with dec := a.dec.filter (fun e => e.1 / 4 != k.val) })).ringSize (bitsOf w.toNat 8 7)) := by
  refine ⟨⟨({ (({ ((({} : Dev).setReg (pg .timebase) R.TIMEBASE.FOLIO (1)).modBin 0 (fun a => { a with next := some (0, 0) })) with now := 10000000000000 } : Dev)) with now := 10000000000000 } : Dev),
  0, 0, 0, ?_⟩,
    ⟨({} : Dev), 0, ?_⟩,
    ⟨(({} : Dev).setFlag (pg .bin) (F.BIN.CH_EN.at 0) false), .ctrl, 0, 0, ?_⟩,
    ⟨(({} : Dev).setFlag (pg .bin) (F.BIN.CH_EN.at 0) false), .ctrl, 0, 0x2000, ?_⟩,
    ⟨({} : Dev), .ctrl, 0, 0, 0, ?_⟩,
    ⟨((((({} : Dev).setFlag (pg .ring 0) F.HDR.CTRL_ENABLE true).setFld (pg .ring 0) F.RING.CFG_PRODUCER (pg .adc 0)).setFlag (pg .ring 0) F.RING.CFG_STAMP true).setFld (pg .ring 0) F.RING.CFG_SIZE_LOG 16),
  .ctrl, 0, 0, 0, ?_⟩⟩
  all_goals and_intros
  all_goals first | exact test_canWrite (by decide +kernel) | exact test_canRead (by decide +kernel) | decide +kernel

theorem test_RingsRun_holds_somewhere :
    (∃ d : Dev, ∃ m : Master, ∃ n : Fin 96, ∃ w : Word, d.CanWrite m .ring n.val R.RING.CI ∧ w.toNat % 8 = 0 ∧
      sub32 w.toNat (d.ringCi n.val) ≤ d.ringFill n.val) ∧
    (∃ d : Dev, ∃ m : Master, ∃ n : Fin 96, ∃ w : Word, d.CanWrite m .ring n.val R.RING.CI ∧
      (w.toNat % 8 ≠ 0 ∨ d.ringFill n.val < sub32 w.toNat (d.ringCi n.val))) ∧
    (∃ d : Dev, ∃ m : Master, ∃ n : Fin 96, ∃ w : Word, d.CanWrite m .ring n.val R.RING.PI ∧ d.ringProducer n.val = 0xFF ∧ w.toNat % 8 = 0 ∧
      sub32 w.toNat (d.ringPi n.val) ≤ d.ringFree n.val) ∧
    (∃ d : Dev, ∃ m : Master, ∃ n : Fin 96, ∃ w : Word, d.CanWrite m .ring n.val R.RING.PI ∧ d.ringProducer n.val = 0xFF ∧
      (w.toNat % 8 ≠ 0 ∨ d.ringFree n.val < sub32 w.toNat (d.ringPi n.val))) ∧
    (∃ d : Dev, ∃ m : Master, ∃ n : Fin 96, d.CanWrite m .ring n.val R.RING.PI ∧ d.ringProducer n.val ≠ 0xFF) ∧
    (∃ d : Dev, ∃ m : Master, ∃ n : Fin 96, d.CanWrite m .ring n.val R.RING.CMD ∧ d.flag (pg .ring n.val) F.RING.STATUS_OVERFLOW = true) ∧
    (∃ d : Dev, ∃ m : Master, ∃ n : Fin 96, d.CanWrite m .ring n.val R.RING.CMD ∧ d.flag (pg .ring n.val) F.RING.STATUS_OVERFLOW = false) ∧
    (∃ d : Dev, ∃ m : Master, ∃ n : Fin 96, d.CanWrite m .ring n.val R.HDR.CTRL ∧ d.keyHeldBy m (0x260 + n.val) = true ∧
      d.flag (pg .ring n.val) F.HDR.CTRL_ENABLE = false ∧ d.ringConfigOk n.val = true) ∧
    (∃ d : Dev, ∃ m : Master, ∃ n : Fin 96, d.CanWrite m .ring n.val R.HDR.CTRL ∧ d.keyHeldBy m (0x260 + n.val) = true ∧
      d.flag (pg .ring n.val) F.HDR.CTRL_ENABLE = false ∧ d.ringConfigOk n.val = false) ∧
    (∃ d : Dev, ∃ m : Master, ∃ n : Fin 96, d.CanWrite m .ring n.val R.HDR.CTRL ∧ d.ringOn n.val = true ∧ d.ringInUse n.val = true) := by
  refine ⟨⟨({} : Dev), .ctrl, 0, 0, ?_⟩,
    ⟨({} : Dev), .ctrl, 0, 4, ?_⟩,
    ⟨({} : Dev), .ctrl, 0, 0, ?_⟩,
    ⟨({} : Dev), .ctrl, 0, 4, ?_⟩,
    ⟨(({} : Dev).setFld (pg .ring 0) F.RING.CFG_PRODUCER 0), .ctrl, 0, ?_⟩,
    ⟨(({} : Dev).setFlag (pg .ring 0) F.RING.STATUS_OVERFLOW true), .ctrl, 0, ?_⟩,
    ⟨(({} : Dev).setFlag (pg .ring 0) F.RING.STATUS_OVERFLOW false), .ctrl, 0, ?_⟩,
    ⟨((((({} : Dev).setKey ((0x260 + 0)) 0x2001#16).setFlag (pg .ring 0) F.HDR.CTRL_ENABLE false).setFld (pg .ring 0) F.RING.CFG_SIZE_LOG 6).setReg (pg .ring 0) R.RING.BASE 0x301FFFC0),
  .ctrl, 0, ?_⟩,
    ⟨((({} : Dev).setKey ((0x260 + 0)) 0x2001#16).setFlag (pg .ring 0) F.HDR.CTRL_ENABLE false), .ctrl, 0, ?_⟩,
    ⟨((({} : Dev).setFlag (pg .ring 0) F.HDR.CTRL_ENABLE true).setFlag (pg .adc 0) (F.ADC.STREAM_EN.at 0) true), .ctrl, 0, ?_⟩⟩
  all_goals and_intros
  all_goals first | exact test_canWrite (by decide +kernel) | exact test_canRead (by decide +kernel) | decide +kernel

theorem test_MonitorAndOpenWireRun_holds_somewhere :
    (∃ d : Dev, 2 ≤ d.state ∧ d.state ≤ 5 ∧ d.mon.since + 400 ≤ d.now) ∧
    (∃ d : Dev, ∃ vals : List (BitVec 12 × BitVec 8), d.state = 6 ∧ (d.hibChannels.drop d.mon.hib).length ≤ vals.length ∧
      d.mon.scanFrom + 400 * (20 + d.mon.hib + (d.hibChannels.drop d.mon.hib).length) ≤ d.now) ∧
    (∃ d : Dev, 2 ≤ d.state ∧ d.state ≤ 5 ∧ d.mon.scanFrom + 20000 ≤ d.now) ∧
    (∃ d : Dev, d.busLive = true ∧ d.flag (pg .openwire) F.HDR.CTRL_ENABLE = true ∧ d.ow.inRound = false ∧ ((∀ t,
      d.ow.roundFrom = some t → t + 400000 * d.fld (pg .openwire) F.OPENWIRE.OW_CFG_ROUND ≤ d.now))) ∧
    (∃ d : Dev, ∃ u, d.busLive = true ∧ d.ow.phase = .up ∧ d.ow.seen = some u) ∧
    (∃ d : Dev, d.busLive = true ∧ d.ow.seen = none) := by
  refine ⟨⟨({ (({ (({} : Dev).setFld (pg .sys) F.SYS.STATE_STATE 2) with now := 10000000000000 } : Dev)) with now := 10000000000000 } : Dev), ?_⟩,
    ⟨({ (({ (({} : Dev).setFld (pg .sys) F.SYS.STATE_STATE 6) with now := 10000000000000 } : Dev)) with now := 10000000000000 } : Dev),
  List.replicate 20 (0, 0), ?_⟩,
    ⟨({ (({ (({} : Dev).setFld (pg .sys) F.SYS.STATE_STATE 2) with now := 10000000000000 } : Dev)) with now := 10000000000000 } : Dev), ?_⟩,
    ⟨({ ({ (({} : Dev).setFlag (pg .openwire) F.HDR.CTRL_ENABLE true) with ow.inRound := false } : Dev) with now := 10000000000000 } : Dev), ?_⟩,
    ⟨({ ({ ({} : Dev) with ow.phase := .up } : Dev) with ow.seen := some 0 } : Dev), 0, ?_⟩,
    ⟨({ ({} : Dev) with ow.seen := none } : Dev), ?_⟩⟩
  all_goals and_intros
  all_goals first | exact test_canWrite (by decide +kernel) | exact test_canRead (by decide +kernel) | decide +kernel

theorem test_ChargeCommandsRun_holds_somewhere :
    (∃ d : Dev, ∃ m : Master, ∃ x : Nat × List Nat × Instr, d.CanWrite m .chg 0 R.CHG.CMD ∧ x ∈ [(1, [0, 1, 6], Instr.chgStart m), (2, [1, 2, 3, 4,
      6], .pause m), (3, [6], .resume m), (4, [1, 2, 3, 4, 6, 7], .chgStop m), (5, [0], .v2l m), (6, [0], .v2v m), (7, [8], .clear m), (8, [5],
      .restart m)] ∧ d.cstate ∉ x.2.1) ∧
    (∃ d : Dev, ∃ m : Master, d.CanWrite m .chg 0 R.CHG.CMD ∧ d.cstate ∈ [0, 1, 6]) ∧
    (∃ d : Dev, ∃ m : Master, d.CanWrite m .chg 0 R.CHG.CMD ∧ d.cstate ∈ [1, 2, 3, 4]) ∧
    (∃ d : Dev, ∃ m : Master, d.CanWrite m .chg 0 R.CHG.CMD ∧ d.cstate = 6 ∧ (bitAt d.suspMask 1 && d.chgLatched) = false) ∧
    (∃ d : Dev, ∃ m : Master, d.CanWrite m .chg 0 R.CHG.CMD ∧ d.cstate ∈ [1, 2, 3, 4, 6, 7]) ∧
    (∃ d : Dev, ∃ m : Master, ∃ v : Bool, d.CanWrite m .chg 0 R.CHG.CMD ∧ d.cstate = 0 ∧ (d.state = 3 ∨ d.state = 4) ∧
      (d.reverseRefusal v (d.keyTag 4 == 0x5023)) = 0) ∧
    (∃ d : Dev, ∃ m : Master, ∃ v : Bool, d.CanWrite m .chg 0 R.CHG.CMD ∧ d.cstate = 0 ∧ (d.state = 3 ∨ d.state = 4) ∧
      (d.reverseRefusal v (d.keyTag 4 == 0x5023)) ≠ 0) ∧
    (∃ d : Dev, ∃ m : Master, d.CanWrite m .chg 0 R.CHG.CMD ∧ d.cstate = 8 ∧ d.chgFaultGone = true) ∧
    (∃ d : Dev, ∃ m : Master, d.CanWrite m .chg 0 R.CHG.CMD ∧ d.cstate = 5) := by
  refine ⟨⟨({} : Dev), .ctrl, (2, [1, 2, 3, 4, 6], .pause .ctrl), ?_⟩,
    ⟨(({} : Dev).setFld (pg .chg) F.CHG.CSTATE_STATE (0)), .ctrl, ?_⟩,
    ⟨(({} : Dev).setFld (pg .chg) F.CHG.CSTATE_STATE (1)), .ctrl, ?_⟩,
    ⟨(({} : Dev).setFld (pg .chg) F.CHG.CSTATE_STATE (6)), .ctrl, ?_⟩,
    ⟨(({} : Dev).setFld (pg .chg) F.CHG.CSTATE_STATE (1)), .ctrl, ?_⟩,
    ⟨((((((({} : Dev).setFld (pg .sys) F.SYS.STATE_STATE 3).setFld (pg .chg) F.CHG.CSTATE_STATE (0)).setFld (pg .chg) F.CHG.REV_CFG_VIN_MAX 1).setFld (pg .chg) F.CHG.PP_RATING 1).modChg (fun c => { c with known := true, sqHist := Vector.replicate 3 [{ sum := 1, n := 1 }] })).setFlag (pg .chg) (F.CHG.ZONE_CFG_SUSP.at 0) false),
  .ctrl, false, ?_⟩,
    ⟨((({} : Dev).setFld (pg .sys) F.SYS.STATE_STATE 3).setFld (pg .chg) F.CHG.CSTATE_STATE (0)), .ctrl, false, ?_⟩,
    ⟨(({} : Dev).setFld (pg .chg) F.CHG.CSTATE_STATE (8)), .ctrl, ?_⟩,
    ⟨(({} : Dev).setFld (pg .chg) F.CHG.CSTATE_STATE (5)), .ctrl, ?_⟩⟩
  all_goals and_intros
  all_goals first | exact test_canWrite (by decide +kernel) | exact test_canRead (by decide +kernel) | decide +kernel

theorem test_ChargeSessionRuns_holds_somewhere :
    (∃ d : Dev, ∃ m : Master, d.CanWrite m .chg 0 R.HDR.CTRL ∧ d.flag (pg .chg) F.HDR.CTRL_ENABLE = false ∧ d.chgIn ≠ d.chgOut ∧
      d.fld (pg .chg) F.CHG.SCALE_I_SCALE ≠ 0 ∧ d.fld (pg .chg) F.CHG.SCALE_V_SCALE ≠ 0 ∧ d.fld (pg .chg) F.CHG.REF_GAIN_GAIN ≠ 0 ∧
      ascends ((List.range 7).map (fun i => d.sfld (pg .chg) (F.CHG.ZONE_EDGE_EDGE.at i))) = true ∧ d.flag (pg .chg) F.CHG.CFG_BMS_REQ = true ∧
      d.flag (pg .check (d.fld (pg .chg) F.CHG.CFG_BMS_UNIT)) F.HDR.CTRL_ENABLE = true ∧ ((∀ k < 4, (d.ntcSlot k).2.2 = false)) ∧ d.keyTag 3 = 0x5023) ∧
    (∃ d : Dev, ∃ m : Master, d.CanWrite m .chg 0 R.HDR.CTRL ∧ d.flag (pg .chg) F.HDR.CTRL_ENABLE = false ∧
      (d.chgIn = d.chgOut ∨ d.fld (pg .chg) F.CHG.REF_GAIN_GAIN = 0 ∨ d.keyTag 3 ≠ 0x5023)) ∧
    (∃ d : Dev, ∃ m : Master, d.CanWrite m .chg 0 R.HDR.CTRL ∧ d.flag (pg .chg) F.HDR.CTRL_ENABLE = true) ∧
    (∃ d : Dev, d.busLive = true ∧ d.flag (pg .chg) F.HDR.CTRL_ENABLE = false) ∧
    (∃ d : Dev, d.busLive = true ∧ d.flag (pg .chg) F.HDR.CTRL_ENABLE = true ∧ d.chgDue = false ∧ d.chg.watch = .none ∧ d.cstate ≠ 0 ∧ d.cstate ≠ 8 ∧
      d.chg.reacted = true) ∧
    (∃ d : Dev, ∃ ohms : BitVec 16, d.busLive = true ∧ d.flag (pg .chg) F.HDR.CTRL_ENABLE = true ∧ d.chgDue = false ∧ d.chg.watch = .none ∧
      d.cstate ∈ [1, 3, 4, 5, 6] ∧ d.chg.reacted = false ∧ d.chg.latched = false ∧ ppRating (d.fld (pg .chg) F.CHG.CFG_PP_MODE) ohms.toNat = 7) ∧
    (∃ d : Dev, d.busLive = true ∧ d.chg.expire ≠ 0) ∧
    (∃ d : Dev, d.busLive = true ∧ d.chg.exitMet = true ∧ d.chg.expire = 0 ∧ d.cstate = 3 ∧ d.chg.entry.last = false ∧
      d.fld (pg .chg) F.CHG.CSTATE_STEP < 7 ∧ (d.profileEntry d.chgZone (d.fld (pg .chg) F.CHG.CSTATE_STEP + 1)).iLim ≠ 0 ∧
      (d.profileEntry d.chgZone (d.fld (pg .chg) F.CHG.CSTATE_STEP + 1)).safe ≠ 0) ∧
    (∃ d : Dev, d.busLive = true ∧ d.chg.exitMet = true ∧ d.chg.expire = 0 ∧ d.cstate = 3 ∧ d.chg.entry.last = true ∧
      d.fld (pg .chg) F.CHG.TOPOFF_CFG_V_LIM = 0) ∧
    (∃ d : Dev, d.busLive = true ∧ d.chg.exitMet = true ∧ d.chg.expire = 0 ∧ d.cstate = 3 ∧ d.chg.entry.last = true ∧
      d.fld (pg .chg) F.CHG.TOPOFF_CFG_V_LIM ≠ 0 ∧ d.chg.entry.iLim ≠ 0 ∧ d.fld (pg .chg) F.CHG.TOPOFF_TIME_SAFE ≠ 0) ∧
    (∃ d : Dev, d.busLive = true ∧ d.chg.exitMet = false) ∧
    (∃ d : Dev, d.busLive = true ∧ d.cstate = 2 ∧ d.fld (pg .chg) F.CHG.PRE_CFG_TIME * 100 ≤ d.chg.preT ∧ d.precharged = false) ∧
    (∃ d : Dev, d.busLive = true ∧ d.chg.ending = .ramp ∧ d.fld (pg .chg) F.CHG.PILOT_CFG_STOP_TIME ≤ d.chg.endT) ∧
    (∃ d : Dev, d.busLive = true ∧ d.cstate = 1 ∧ d.s2Closed = true ∧ d.fld (pg .chg) F.CHG.PILOT_CFG_GRID_WAIT * 100 ≤ d.chg.s2T) ∧
    (∃ d : Dev, d.busLive = true ∧ d.cstate = 6 ∧ d.suspMask = 0 ∧ d.fld (pg .chg) F.CHG.EXIT_CFG_RESUME * 100 ≤ d.chg.zeroT) ∧
    (∃ d : Dev, d.busLive = true ∧ 100 ≤ d.chg.s2T ∧ d.chg.watch = .closing ∧ d.pilot ≠ 2) ∧
    (∃ d : Dev, d.busLive = true ∧ d.chg.s2T < 100) := by
  refine ⟨⟨(((((((((((((((({} : Dev).setFlag (pg .chg) F.HDR.CTRL_ENABLE false).setFld (pg .chg) F.CHG.SCALE_I_SCALE (1)).setFld (pg .chg) F.CHG.SCALE_V_SCALE (1)).setFld (pg .chg) F.CHG.REF_GAIN_GAIN (1)).setFlag (pg .chg) F.CHG.CFG_BMS_REQ true).setKey (3) 0x5023#16).setFld (pg .chg) (F.CHG.ZONE_EDGE_EDGE.at 0) 0).setFld (pg .chg) (F.CHG.ZONE_EDGE_EDGE.at 1) 1).setFld (pg .chg) (F.CHG.ZONE_EDGE_EDGE.at 2) 2).setFld (pg .chg) (F.CHG.ZONE_EDGE_EDGE.at 3) 3).setFld (pg .chg) (F.CHG.ZONE_EDGE_EDGE.at 4) 4).setFld (pg .chg) (F.CHG.ZONE_EDGE_EDGE.at 5) 5).setFld (pg .chg) (F.CHG.ZONE_EDGE_EDGE.at 6) 6).setFld (pg .chg) F.CHG.CFG_OUT_GROUP 1).setFlag (pg .check 0) F.HDR.CTRL_ENABLE true),
  .ctrl, ?_⟩,
    ⟨(({} : Dev).setFlag (pg .chg) F.HDR.CTRL_ENABLE false), .ctrl, ?_⟩,
    ⟨(({} : Dev).setFlag (pg .chg) F.HDR.CTRL_ENABLE true), .ctrl, ?_⟩,
    ⟨(({} : Dev).setFlag (pg .chg) F.HDR.CTRL_ENABLE false), ?_⟩,
    ⟨({ ({ ((({} : Dev).setFlag (pg .chg) F.HDR.CTRL_ENABLE true).setFld (pg .chg) F.CHG.CSTATE_STATE 1) with chg.watch := .none } : Dev) with chg.reacted := true } : Dev),
  ?_⟩,
    ⟨({ ({ ({ ((({} : Dev).setFlag (pg .chg) F.HDR.CTRL_ENABLE true).setFld (pg .chg) F.CHG.CSTATE_STATE (1)) with chg.watch := .none } : Dev) with chg.reacted := false } : Dev) with chg.latched := false } : Dev),
  4501, ?_⟩,
    ⟨({ ({} : Dev) with chg.expire := 1 } : Dev), ?_⟩,
    ⟨((({ ({ ({ (({} : Dev).setFld (pg .chg) F.CHG.CSTATE_STATE (3)) with chg.exitMet := true } : Dev) with chg.expire := 0 } : Dev) with chg.entry.last := false } : Dev).setReg (pg .chg) (R.CHG.PROFILE + 8) 1).setReg (pg .chg) (R.CHG.PROFILE + 12) 0x00080000),
  ?_⟩,
    ⟨({ ({ ({ ((({} : Dev).setFld (pg .chg) F.CHG.CSTATE_STATE (3)).setFld (pg .chg) F.CHG.TOPOFF_CFG_V_LIM (0)) with chg.exitMet := true } : Dev) with chg.expire := 0 } : Dev) with chg.entry.last := true } : Dev),
  ?_⟩,
    ⟨({ ({ ({ ({ (((({} : Dev).setFld (pg .chg) F.CHG.CSTATE_STATE (3)).setFld (pg .chg) F.CHG.TOPOFF_CFG_V_LIM (1)).setFld (pg .chg) F.CHG.TOPOFF_TIME_SAFE (1)) with chg.exitMet := true } : Dev) with chg.expire := 0 } : Dev) with chg.entry.last := true } : Dev) with chg.entry.iLim := 1 } : Dev),
  ?_⟩,
    ⟨({ ({} : Dev) with chg.exitMet := false } : Dev), ?_⟩,
    ⟨(((({} : Dev).setFld (pg .chg) F.CHG.CSTATE_STATE (2)).modChg (fun c => { c with preT := 100000 })).setFld (pg .chg) F.CHG.PRE_CFG_LINK_MIN 1), ?_⟩,
    ⟨(({ ({} : Dev) with chg.ending := .ramp } : Dev).modChg (fun c => { c with endT := 100000 })), ?_⟩,
    ⟨(((({} : Dev).setFld (pg .chg) F.CHG.CSTATE_STATE (1)).modChg (fun c => { c with s2T := 1000000 })).setFlag (pg .chg) F.CHG.CSTATE_S2 true), ?_⟩,
    ⟨((({} : Dev).setFld (pg .chg) F.CHG.CSTATE_STATE (6)).modChg (fun c => { c with zeroT := 1000000 })), ?_⟩,
    ⟨(({ ({} : Dev) with chg.watch := .closing } : Dev).modChg (fun c => { c with s2T := 100 })), ?_⟩,
    ⟨({} : Dev), ?_⟩⟩
  all_goals and_intros
  all_goals first | exact test_canWrite (by decide +kernel) | exact test_canRead (by decide +kernel) | decide +kernel

theorem test_PilotAndBatteryRun_holds_somewhere :
    (∃ d : Dev, d.busLive = true ∧ d.chg.v2v = false) ∧
    (∃ d : Dev, d.busLive = true ∧ (3 ≤ d.chg.candRun ∨ 3000000 ≤ d.chg.candNs) ∧ d.chg.cand ≤ 6) ∧
    (∃ d : Dev, d.busLive = true ∧ d.chg.candRun < 3 ∧ d.chg.candNs < 3000000) ∧
    (∃ d : Dev, d.busLive = true ∧ d.fld (pg .chg) F.CHG.PILOT_CFG_AVG ≤ d.chg.perN ∧ d.chg.perTot ≠ 0) ∧
    (∃ d : Dev, d.busLive = true ∧ d.chg.perN < d.fld (pg .chg) F.CHG.PILOT_CFG_AVG) ∧
    (∃ d : Dev, ∃ m : Master, d.CanWrite m .chg 0 R.CHG.BMS_IN ∧ d.flag (pg .chg) F.CHG.CFG_BMS_REQ = false) ∧
    (∃ d : Dev, ∃ m : Master, ∃ w : Word, d.CanWrite m .chg 0 R.CHG.BMS_IN ∧ d.flag (pg .chg) F.CHG.CFG_BMS_REQ = true ∧
      (bitAt d.chg.bmsDone (d.fld (pg .chg) F.CHG.CFG_BMS_UNIT) = true ∧
      d.flag (pg .check (d.fld (pg .chg) F.CHG.CFG_BMS_UNIT)) F.CHECK.VERDICT_CRC_OK = true ∧
      d.fld (pg .check (d.fld (pg .chg) F.CHG.CFG_BMS_UNIT)) F.CHECK.VERDICT_AC ≤ 2 ∧ (toSigned 16 w.toNat) ≤ (toSigned 16 (w.toNat / 65536)) ∧
      -500 ≤ (toSigned 16 w.toNat) ∧ (toSigned 16 (w.toNat / 65536)) ≤ 1500)) ∧
    (∃ d : Dev, ∃ m : Master, ∃ w : Word, d.CanWrite m .chg 0 R.CHG.BMS_IN ∧ d.flag (pg .chg) F.CHG.CFG_BMS_REQ = true ∧
      ¬(bitAt d.chg.bmsDone (d.fld (pg .chg) F.CHG.CFG_BMS_UNIT) = true ∧
      d.flag (pg .check (d.fld (pg .chg) F.CHG.CFG_BMS_UNIT)) F.CHECK.VERDICT_CRC_OK = true ∧
      d.fld (pg .check (d.fld (pg .chg) F.CHG.CFG_BMS_UNIT)) F.CHECK.VERDICT_AC ≤ 2 ∧ (toSigned 16 w.toNat) ≤ (toSigned 16 (w.toNat / 65536)) ∧
      -500 ≤ (toSigned 16 w.toNat) ∧ (toSigned 16 (w.toNat / 65536)) ≤ 1500)) := by
  refine ⟨⟨({ ({} : Dev) with chg.v2v := false } : Dev), ?_⟩,
    ⟨(({} : Dev).modChg (fun c => { c with candRun := 3, cand := 6 })), ?_⟩,
    ⟨({} : Dev), ?_⟩,
    ⟨(({ ({} : Dev) with chg.perTot := 1 } : Dev).modChg (fun c => { c with perN := 1000 })), ?_⟩,
    ⟨({} : Dev), ?_⟩,
    ⟨(({} : Dev).setFlag (pg .chg) F.CHG.CFG_BMS_REQ false), .ctrl, ?_⟩,
    ⟨((((({} : Dev).setFlag (pg .chg) F.CHG.CFG_BMS_REQ true).setFld (pg .check 0) F.CHECK.VERDICT_SEQ 1).setFlag (pg .check 0) F.CHECK.VERDICT_CRC_OK true).modChg (fun c => { c with bmsDone := 0xFFFF })),
  .ctrl, 0, ?_⟩,
    ⟨(({} : Dev).setFlag (pg .chg) F.CHG.CFG_BMS_REQ true), .ctrl, 0, ?_⟩⟩
  all_goals and_intros
  all_goals first | exact test_canWrite (by decide +kernel) | exact test_canRead (by decide +kernel) | decide +kernel

theorem test_GaugeCommandsRun_holds_somewhere :
    (∃ d : Dev, ∃ m : Master, ∃ x : Nat × List Nat × Instr, d.CanWrite m .gauge 0 R.GAUGE.CMD ∧ x ∈ [(1, [1], Instr.gaugeRestore m), (2, [1],
      .init m), (3, [3, 4], .discard m), (4, [3], .publish m), (5, [4], .unfreeze m)] ∧ d.gaugeState ∉ x.2.1) ∧
    (∃ d : Dev, ∃ m : Master, d.CanWrite m .gauge 0 R.GAUGE.CMD ∧ d.gaugeState = 1 ∧ (d.recordCheck d.gaugeMail) = 0) ∧
    (∃ d : Dev, ∃ m : Master, d.CanWrite m .gauge 0 R.GAUGE.CMD ∧ d.gaugeState = 1 ∧ (d.recordCheck d.gaugeMail) ≠ 0) ∧
    (∃ d : Dev, ∃ m : Master, d.CanWrite m .gauge 0 R.GAUGE.CMD ∧ (d.gaugeState = 3 ∨ d.gaugeState = 4)) ∧
    (∃ d : Dev, ∃ m : Master, d.CanWrite m .gauge 0 R.GAUGE.CMD ∧ d.gaugeState = 3) ∧
    (∃ d : Dev, ∃ m : Master, d.CanWrite m .gauge 0 R.GAUGE.CMD ∧ d.gaugeState = 4 ∧ ((∀ g < 8, d.gaugeWatches g = true → d.gstate g ≠ 7)) ∧
      d.gauge.frozenFrom < 8) ∧
    (∃ d : Dev, ∃ m : Master, d.CanWrite m .gauge 0 R.GAUGE.CMD ∧ d.gaugeState = 4 ∧ ((∃ g < 8, d.gaugeWatches g = true ∧ d.gstate g = 7))) ∧
    (∃ d : Dev, ∃ m : Master, ∃ seq, d.CanWrite m .gauge 0 R.GAUGE.REC_ACK ∧ d.flag (pg .gauge) F.GAUGE.STATUS_PENDING = true ∧
      seq = d.reg (pg .gauge) R.GAUGE.REC_SEQ) ∧
    (∃ d : Dev, ∃ m : Master, ∃ seq, d.CanWrite m .gauge 0 R.GAUGE.REC_ACK ∧
      (d.flag (pg .gauge) F.GAUGE.STATUS_PENDING = false ∨ seq ≠ d.reg (pg .gauge) R.GAUGE.REC_SEQ)) ∧
    (∃ d : Dev, ∃ m : Master, d.CanWrite m .gauge 0 R.HDR.CTRL ∧ d.flag (pg .gauge) F.HDR.CTRL_ENABLE = false ∧
      (d.fld (pg .gauge) F.GAUGE.CFG_IN_I = d.fld (pg .gauge) F.GAUGE.CFG_IN_V ∨ d.fld (pg .gauge) F.GAUGE.CAP_NOM_CAP = 0)) ∧
    (∃ d : Dev, ∃ m : Master, d.CanWrite m .gauge 0 R.HDR.CTRL ∧ d.flag (pg .gauge) F.HDR.CTRL_ENABLE = false ∧
      d.fld (pg .gauge) F.GAUGE.CFG_IN_I ≠ d.fld (pg .gauge) F.GAUGE.CFG_IN_V ∧ d.gf R.GAUGE.I_SCALE ≠ 0 ∧ d.gf R.GAUGE.V_SCALE ≠ 0 ∧
      d.fld (pg .gauge) F.GAUGE.CAP_NOM_CAP ≠ 0 ∧ ((∀ k < 3, d.ocvT k < d.ocvT (k + 1))) ∧ ((∀ c < 4, ∀ k < 63,
      d.ocvPoint c k < d.ocvPoint c (k + 1))) ∧ d.keyTag (0x2C4 + d.gaugeBox) = 0x5024 ∧ d.flag (pg .gauge) F.GAUGE.CFG_REP_EN = false) := by
  refine ⟨⟨({} : Dev), .ctrl, (4, [3], .publish .ctrl), ?_⟩,
    ⟨((((((((((((({} : Dev).setFld (pg .gauge) F.GAUGE.STATUS_GSTATE (1)).setReg (pg .mbox 0) R.MBOX.MSG 0x47A51001).setReg (pg .mbox 0) (R.MBOX.MSG + 16) 0x3F800000).setReg (pg .mbox 0) (R.MBOX.MSG + 20) 0x3F800000).setReg (pg .mbox 0) (R.MBOX.MSG + 24) 0x3F800000).setReg (pg .mbox 0) (R.MBOX.MSG + 28) 0x3F800000).setReg (pg .mbox 0) (R.MBOX.MSG + 32) 0x3F800000).setReg (pg .mbox 0) (R.MBOX.MSG + 36) 0x3F800000).setReg (pg .mbox 0) (R.MBOX.MSG + 40) 0x3F800000).setFld (pg .gauge) F.GAUGE.R_LIMITS_R_MIN 1).setFld (pg .gauge) F.GAUGE.R_LIMITS_R_MAX 65535).setReg (pg .mbox 0) (R.MBOX.MSG + 60) (Dev.recordCrc (((((((((((({} : Dev).setFld (pg .gauge) F.GAUGE.STATUS_GSTATE (1)).setReg (pg .mbox 0) R.MBOX.MSG 0x47A51001).setReg (pg .mbox 0) (R.MBOX.MSG + 16) 0x3F800000).setReg (pg .mbox 0) (R.MBOX.MSG + 20) 0x3F800000).setReg (pg .mbox 0) (R.MBOX.MSG + 24) 0x3F800000).setReg (pg .mbox 0) (R.MBOX.MSG + 28) 0x3F800000).setReg (pg .mbox 0) (R.MBOX.MSG + 32) 0x3F800000).setReg (pg .mbox 0) (R.MBOX.MSG + 36) 0x3F800000).setReg (pg .mbox 0) (R.MBOX.MSG + 40) 0x3F800000).setFld (pg .gauge) F.GAUGE.R_LIMITS_R_MIN 1).setFld (pg .gauge) F.GAUGE.R_LIMITS_R_MAX 65535).gaugeMail)),
  .ctrl, ?_⟩,
    ⟨(({} : Dev).setFld (pg .gauge) F.GAUGE.STATUS_GSTATE (1)), .ctrl, ?_⟩,
    ⟨(({} : Dev).setFld (pg .gauge) F.GAUGE.STATUS_GSTATE (3)), .ctrl, ?_⟩,
    ⟨(({} : Dev).setFld (pg .gauge) F.GAUGE.STATUS_GSTATE (3)), .ctrl, ?_⟩,
    ⟨(({} : Dev).setFld (pg .gauge) F.GAUGE.STATUS_GSTATE (4)), .ctrl, ?_⟩,
    ⟨(((({} : Dev).setFld (pg .gauge) F.GAUGE.STATUS_GSTATE (4)).setFld (pg .conv 0) F.CONV.STATUS_GSTATE 7).setFld (pg .gauge) F.GAUGE.CFG_GROUP 0),
  .ctrl, ?_⟩,
    ⟨(({} : Dev).setFlag (pg .gauge) F.GAUGE.STATUS_PENDING true), .ctrl, 0, ?_⟩,
    ⟨(({} : Dev).setFlag (pg .gauge) F.GAUGE.STATUS_PENDING false), .ctrl, 0, ?_⟩,
    ⟨(({} : Dev).setFlag (pg .gauge) F.HDR.CTRL_ENABLE false), .ctrl, ?_⟩,
    ⟨(({ ((((((((((({} : Dev).setFld (pg .gauge) F.GAUGE.CFG_IN_V 1).setReg (pg .gauge) R.GAUGE.I_SCALE 1).setReg (pg .gauge) R.GAUGE.V_SCALE 1).setFld (pg .gauge) F.GAUGE.CAP_NOM_CAP 1).setFld (pg .gauge) (F.GAUGE.OCV_T_TEMP.at 0) 0).setFld (pg .gauge) (F.GAUGE.OCV_T_TEMP.at 1) 1).setFld (pg .gauge) (F.GAUGE.OCV_T_TEMP.at 2) 2).setFld (pg .gauge) (F.GAUGE.OCV_T_TEMP.at 3) 3).setKey 0x2C4 0x5024).setFlag (pg .gauge) F.GAUGE.CFG_REP_EN false) with regs := (List.range 128).map (fun i => (regKey (pg .gauge) (R.GAUGE.OCV_TAB + 4 * i), BitVec.ofNat 32 (2 * (i % 32) + 65536 * (2 * (i % 32) + 1)))) ++ ((((((((((({} : Dev).setFld (pg .gauge) F.GAUGE.CFG_IN_V 1).setReg (pg .gauge) R.GAUGE.I_SCALE 1).setReg (pg .gauge) R.GAUGE.V_SCALE 1).setFld (pg .gauge) F.GAUGE.CAP_NOM_CAP 1).setFld (pg .gauge) (F.GAUGE.OCV_T_TEMP.at 0) 0).setFld (pg .gauge) (F.GAUGE.OCV_T_TEMP.at 1) 1).setFld (pg .gauge) (F.GAUGE.OCV_T_TEMP.at 2) 2).setFld (pg .gauge) (F.GAUGE.OCV_T_TEMP.at 3) 3).setKey 0x2C4 0x5024).setFlag (pg .gauge) F.GAUGE.CFG_REP_EN false).regs } : Dev)),
  .ctrl, ?_⟩⟩
  all_goals and_intros
  all_goals first | exact test_canWrite (by decide +kernel) | exact test_canRead (by decide +kernel) | decide +kernel

theorem test_GaugeRuns_holds_somewhere :
    (∃ d : Dev, (d.busLive = false ∨ d.gaugeState = 0)) ∧
    (∃ d : Dev, ∃ f : Flaw, f ≠ .double ∧ d.gaugeState = 4) ∧
    (∃ d : Dev, d.busLive = true ∧ d.gaugeState ≠ 0) ∧
    (∃ d : Dev, ∃ f : Flaw, f ≠ .double ∧ d.gaugeHeld = true) ∧
    (∃ d : Dev, ∃ f : Flaw, f ≠ .double ∧ d.gaugeHeld = false ∧ d.busLive = true ∧ 1 ≤ d.gaugeState ∧ d.gaugeState ≤ 3 ∧ d.gauge.iAcc.n ≠ 0 ∧
      d.gauge.vAcc.n ≠ 0 ∧ d.gauge.restore = none) ∧
    (∃ d : Dev, d.busLive = true ∧ d.gauge.ticks < 100) ∧
    (∃ d : Dev, d.busLive = true ∧ 100 ≤ d.gauge.ticks ∧ d.gaugeState ∉ [2, 3]) ∧
    (∃ d : Dev, d.busLive = true ∧ 100 ≤ d.gauge.ticks ∧ d.gaugeState = 2 ∧ d.flag (pg .gauge) F.GAUGE.STATUS_AT_REST = false) ∧
    (∃ d : Dev, d.busLive = true ∧ 100 ≤ d.gauge.ticks ∧ d.gaugeState = 2 ∧ d.flag (pg .gauge) F.GAUGE.STATUS_AT_REST = true) ∧
    (∃ d : Dev, d.busLive = true ∧ 100 ≤ d.gauge.ticks ∧ d.gaugeState = 3 ∧ d.gauge.driftDue = false ∧ d.flag (pg .gauge) F.GAUGE.CFG_REP_EN = false) ∧
    (∃ d : Dev, d.busLive = true ∧ d.gauge.driftDue = true) ∧
    (∃ d : Dev, d.busLive = true ∧ d.flag (pg .gauge) F.GAUGE.STATUS_PENDING = true ∧ d.gaugeState = 3 ∧
      d.flag (pg .mbox d.gaugeBox) F.HDR.CTRL_ENABLE = true ∧ d.mbState d.gaugeBox = 0) ∧
    (∃ d : Dev, d.flag (pg .gauge) F.GAUGE.STATUS_PENDING = false) ∧
    (∃ d : Dev, ∃ i : Fin 64, ∃ code : BitVec 12, ∃ ms : BitVec 16, ((d.state = 6 ∧ d.flag (pg .gauge) F.GAUGE.IWAKE_CFG_EN = true ∧
      i.val = d.fld (pg .gauge) F.GAUGE.IWAKE_SEL_IN ∧ d.fld (pg .gauge) F.GAUGE.IWAKE_SEL_TIME ≤ ms.toNat ∧
      (code.toNat < d.fld (pg .gauge) F.GAUGE.IWAKE_CFG_LO ∨ d.fld (pg .gauge) F.GAUGE.IWAKE_CFG_HI < code.toNat))) ∧ d.powerDown = false ∧
      d.phase ≠ 7) ∧
    (∃ d : Dev, ∃ i : Fin 64, ∃ code : BitVec 12, ∃ ms : BitVec 16, (¬ (d.state = 6 ∧ d.flag (pg .gauge) F.GAUGE.IWAKE_CFG_EN = true ∧
      i.val = d.fld (pg .gauge) F.GAUGE.IWAKE_SEL_IN ∧ d.fld (pg .gauge) F.GAUGE.IWAKE_SEL_TIME ≤ ms.toNat ∧
      (code.toNat < d.fld (pg .gauge) F.GAUGE.IWAKE_CFG_LO ∨ d.fld (pg .gauge) F.GAUGE.IWAKE_CFG_HI < code.toNat)))) := by
  refine ⟨⟨(({} : Dev).setFld (pg .sys) F.SYS.STATE_STATE 1), ?_⟩,
    ⟨(({} : Dev).setFld (pg .gauge) F.GAUGE.STATUS_GSTATE (4)), .clean, ?_⟩,
    ⟨(({} : Dev).setFld (pg .gauge) F.GAUGE.STATUS_GSTATE 1), ?_⟩,
    ⟨(((({} : Dev).setFld (pg .gauge) F.GAUGE.STATUS_GSTATE 3).setFld (pg .seq) F.SEQ.SEQ_STATUS_PHASE 3).modSeq (fun s => { s with goal := .hibernate })),
  .clean, ?_⟩,
    ⟨({ ({ ({ (({} : Dev).setFld (pg .gauge) F.GAUGE.STATUS_GSTATE (1)) with gauge.iAcc.n := 1 } : Dev) with gauge.vAcc.n := 1 } : Dev) with gauge.restore := none } : Dev),
  .clean, ?_⟩,
    ⟨({} : Dev), ?_⟩,
    ⟨(({} : Dev).modGauge (fun x => { x with ticks := 100 })), ?_⟩,
    ⟨(((({} : Dev).setFld (pg .gauge) F.GAUGE.STATUS_GSTATE (2)).setFlag (pg .gauge) F.GAUGE.STATUS_AT_REST false).modGauge (fun x => { x with ticks := 100 })),
  ?_⟩,
    ⟨(((({} : Dev).setFld (pg .gauge) F.GAUGE.STATUS_GSTATE (2)).setFlag (pg .gauge) F.GAUGE.STATUS_AT_REST true).modGauge (fun x => { x with ticks := 100 })),
  ?_⟩,
    ⟨(({ ((({} : Dev).setFld (pg .gauge) F.GAUGE.STATUS_GSTATE (3)).setFlag (pg .gauge) F.GAUGE.CFG_REP_EN false) with gauge.driftDue := false } : Dev).modGauge (fun x => { x with ticks := 100 })),
  ?_⟩,
    ⟨({ ({} : Dev) with gauge.driftDue := true } : Dev), ?_⟩,
    ⟨(((({} : Dev).setFlag (pg .gauge) F.GAUGE.STATUS_PENDING true).setFld (pg .gauge) F.GAUGE.STATUS_GSTATE 3).setFlag (pg .mbox 0) F.HDR.CTRL_ENABLE true),
  ?_⟩,
    ⟨(({} : Dev).setFlag (pg .gauge) F.GAUGE.STATUS_PENDING false), ?_⟩,
    ⟨((((({} : Dev).setFld (pg .sys) F.SYS.STATE_STATE 6).setFlag (pg .gauge) F.GAUGE.IWAKE_CFG_EN true).setFld (pg .gauge) F.GAUGE.IWAKE_CFG_HI 0).setFlag (pg .gauge) F.GAUGE.IWAKE_CFG_EN true),
  0, 4095, 65535, ?_⟩,
    ⟨(({} : Dev).setFlag (pg .gauge) F.GAUGE.IWAKE_CFG_EN true), 0, 0, 0, ?_⟩⟩
  all_goals and_intros
  all_goals first | exact test_canWrite (by decide +kernel) | exact test_canRead (by decide +kernel) | decide +kernel

theorem test_RegulatorsRun_holds_somewhere :
    (∃ d : Dev, ∃ k : Fin 4, ∃ run : BitVec 8, d.paired = false ∧
      (d.regOn k.val = false ∨ (d.buckS k.val).off = true ∨ run.toNat < (d.fld (pg .supply) (F.SUPPLY.BUCK_PROT_NCYC.at k.val)))) ∧
    (∃ d : Dev, ∃ k : Fin 4, ∃ run : BitVec 8, d.paired = false ∧ d.regOn k.val = true ∧ (d.buckS k.val).off = false ∧
      (d.fld (pg .supply) (F.SUPPLY.BUCK_PROT_NCYC.at k.val)) ≤ run.toNat ∧
      (d.buckS k.val).retry < d.fld (pg .supply) (F.SUPPLY.BUCK_PROT_RETRY_MAX.at k.val)) ∧
    (∃ d : Dev, ∃ k : Fin 4, ∃ run : BitVec 8, d.paired = false ∧ d.regOn k.val = true ∧ (d.buckS k.val).off = false ∧
      (d.fld (pg .supply) (F.SUPPLY.BUCK_PROT_NCYC.at k.val)) ≤ run.toNat ∧
      d.fld (pg .supply) (F.SUPPLY.BUCK_PROT_RETRY_MAX.at k.val) ≤ (d.buckS k.val).retry) ∧
    (∃ d : Dev, ∃ k : Fin 4, d.paired = false ∧ d.regOn k.val = true ∧ (d.buckS k.val).off = true ∧
      ((d.buckS k.val).since) + d.fld (pg .supply) (F.SUPPLY.BUCK_PROT_OFF.at k.val) * 400000 ≤ d.now) ∧
    (∃ d : Dev, ∃ k : Fin 4, d.paired = false ∧ d.regOn k.val = false) ∧
    (∃ d : Dev, ∃ k : Fin 4, d.paired = false ∧ d.regOn k.val = true ∧ (d.buckS k.val).off = false ∧ ((d.buckS k.val).since) + 4000000 ≤ d.now) ∧
    (∃ d : Dev, ∃ k : Fin 4, d.paired = false ∧ d.regOn k.val = true ∧ (d.buckS k.val).off = false ∧ (d.buckS k.val).soft = false ∧
      d.flag (pg .supply) (F.SUPPLY.BUCK_CFG_BURST_EN.at k.val) = true ∧ d.flag (pg .supply) (Dev.regBit F.SUPPLY.REG_STATUS_BURST k.val) = false) ∧
    (∃ d : Dev, ∃ k : Fin 4, d.paired = false ∧ d.flag (pg .supply) (F.SUPPLY.BUCK_CFG_BURST_EN.at k.val) = false) ∧
    (∃ d : Dev, ∃ k : Fin 4, d.paired = false ∧ d.flag (pg .supply) (Dev.regBit F.SUPPLY.REG_STATUS_BURST k.val) = true) ∧
    (∃ d : Dev, ∃ k, d.paired = true ∧ d.regOn 0 = true ∧ (d.buckS 0).off = true ∧
      (d.buckS 0).since + d.fld (pg .supply) (F.SUPPLY.BUCK_PROT_OFF.at 0) * 400000 ≤ d.now ∧ k ∈ [(0 : Fin 4), 3]) ∧
    (∃ d : Dev, ∃ m, d.CanWrite m .supply 0 R.SUPPLY.UNLATCH ∧ d.paired = false) ∧
    (∃ d : Dev, ∃ k : Fin 4, d.sysSrc ≠ 0 ∧ d.syncWindow = false ∧ d.flag (pg .supply) (Dev.regBit F.SUPPLY.REG_STATUS_SYNCED k.val) = true) ∧
    (∃ d : Dev, (d.sysSrc = 0 ∨ d.syncWindow = true)) ∧
    (∃ d : Dev, ∃ k : Fin 5, d.regOn (4 + k.val) = true) ∧
    (∃ d : Dev, ∃ k : Fin 5, d.regOn (4 + k.val) = false) ∧
    (∃ d : Dev, ∃ k : Fin 4, d.paired = false ∧ (d.buckS k.val).soft = true ∧ (d.buckS k.val).since + 200000 ≤ d.now) ∧
    (∃ d : Dev, ∃ n, (d.state = 0 ∨ d.regulating n = true)) ∧
    (∃ d : Dev, ∃ n, d.state ≠ 0 ∧ d.regulating n = false) := by
  refine ⟨⟨((({} : Dev).setFlag (pg .supply) F.SUPPLY.CFG_PAIR false).setFld (pg .supply) (Dev.regBit F.SUPPLY.REG_STATUS_ON (0)) 0), 0, 0, ?_⟩,
    ⟨((((({} : Dev).setFlag (pg .supply) F.SUPPLY.CFG_PAIR false).setFld (pg .supply) (Dev.regBit F.SUPPLY.REG_STATUS_ON (0)) 1)).modBuck 0 (fun x => { x with off := false })),
  0, 255, ?_⟩,
    ⟨(((((({} : Dev).setFlag (pg .supply) F.SUPPLY.CFG_PAIR false).setFld (pg .supply) (Dev.regBit F.SUPPLY.REG_STATUS_ON (0)) 1)).modBuck 0 (fun x => { x with off := false })).modBuck 0 (fun x => { x with retry := 255 })),
  0, 255, ?_⟩,
    ⟨({ ((((({} : Dev).setFlag (pg .supply) F.SUPPLY.CFG_PAIR false).setFld (pg .supply) (Dev.regBit F.SUPPLY.REG_STATUS_ON (0)) 1)).modBuck 0 (fun x => { x with off := true })) with now := 10000000000000 } : Dev),
  0, ?_⟩,
    ⟨((({} : Dev).setFlag (pg .supply) F.SUPPLY.CFG_PAIR false).setFld (pg .supply) (Dev.regBit F.SUPPLY.REG_STATUS_ON (0)) 0), 0, ?_⟩,
    ⟨({ ((((({} : Dev).setFlag (pg .supply) F.SUPPLY.CFG_PAIR false).setFld (pg .supply) (Dev.regBit F.SUPPLY.REG_STATUS_ON (0)) 1)).modBuck 0 (fun x => { x with off := false })) with now := 10000000000000 } : Dev),
  0, ?_⟩,
    ⟨((((((((({} : Dev).setFlag (pg .supply) F.SUPPLY.CFG_PAIR false).setFld (pg .supply) (Dev.regBit F.SUPPLY.REG_STATUS_ON (0)) 1).setFlag (pg .supply) (F.SUPPLY.BUCK_CFG_BURST_EN.at 0) true).setFlag (pg .supply) (Dev.regBit F.SUPPLY.REG_STATUS_BURST 0) false)).modBuck 0 (fun x => { x with off := false }))).modBuck 0 (fun x => { x with soft := false })),
  0, ?_⟩,
    ⟨((({} : Dev).setFlag (pg .supply) F.SUPPLY.CFG_PAIR false).setFlag (pg .supply) (F.SUPPLY.BUCK_CFG_BURST_EN.at 0) false), 0, ?_⟩,
    ⟨((({} : Dev).setFlag (pg .supply) F.SUPPLY.CFG_PAIR false).setFlag (pg .supply) (Dev.regBit F.SUPPLY.REG_STATUS_BURST 0) true), 0, ?_⟩,
    ⟨({ ((((({} : Dev).setFlag (pg .supply) F.SUPPLY.CFG_PAIR true).setFld (pg .supply) (Dev.regBit F.SUPPLY.REG_STATUS_ON (0)) 1)).modBuck 0 (fun x => { x with off := true })) with now := 10000000000000 } : Dev),
  0, ?_⟩,
    ⟨(({} : Dev).setFlag (pg .supply) F.SUPPLY.CFG_PAIR false), .ctrl, ?_⟩,
    ⟨(((({} : Dev).setFld (pg .clk) F.CLK.CLK_STATUS_SYSSRC 1).setFlag (pg .supply) (Dev.regBit F.SUPPLY.REG_STATUS_SYNCED 0) true).setFld (pg .timebase) F.TIMEBASE.CREF_PERIOD_PERIOD 1),
  0, ?_⟩,
    ⟨(({} : Dev).setFld (pg .clk) F.CLK.CLK_STATUS_SYSSRC (0)), ?_⟩,
    ⟨(({} : Dev).setFld (pg .supply) (Dev.regBit F.SUPPLY.REG_STATUS_ON ((4 + 0))) 1), 0, ?_⟩,
    ⟨(({} : Dev).setFld (pg .supply) (Dev.regBit F.SUPPLY.REG_STATUS_ON ((4 + 0))) 0), 0, ?_⟩,
    ⟨({ (((({} : Dev).setFlag (pg .supply) F.SUPPLY.CFG_PAIR false)).modBuck 0 (fun x => { x with soft := true })) with now := 10000000000000 } : Dev),
  0, ?_⟩,
    ⟨(({} : Dev).setFld (pg .sys) F.SYS.STATE_STATE 0), 0, ?_⟩,
    ⟨({} : Dev), 0, ?_⟩⟩
  all_goals and_intros
  all_goals first | exact test_canWrite (by decide +kernel) | exact test_canRead (by decide +kernel) | decide +kernel

theorem test_PowerPathRuns_holds_somewhere :
    (∃ d : Dev, ∃ vin : BitVec 16, ∃ vbak : BitVec 16, ∃ ms : BitVec 16, (d.vinOk = true ∨ ¬ (d.vinUv ≤ vin.toNat ∧ vbak.toNat + 100 ≤ vin.toNat ∧
      d.fld (pg .path) F.PATH.VIN_CFG_DEB ≤ ms.toNat))) ∧
    (∃ d : Dev, ∃ vin : BitVec 16, ∃ vbak : BitVec 16, ∃ ms : BitVec 16, d.vinOk = false ∧ (d.vinUv ≤ vin.toNat ∧ vbak.toNat + 100 ≤ vin.toNat ∧
      d.fld (pg .path) F.PATH.VIN_CFG_DEB ≤ ms.toNat) ∧ d.flag (pg .seq) F.SEQ.SEQ_CFG_VIN_OFF = false) ∧
    (∃ d : Dev, ∃ vin : BitVec 16, ∃ vbak : BitVec 16, ∃ ms : BitVec 16, d.vinOk = false ∧ (d.vinUv ≤ vin.toNat ∧ vbak.toNat + 100 ≤ vin.toNat ∧
      d.fld (pg .path) F.PATH.VIN_CFG_DEB ≤ ms.toNat) ∧ d.flag (pg .seq) F.SEQ.SEQ_CFG_VIN_OFF = true) ∧
    (∃ d : Dev, ∃ vin : BitVec 16, ∃ vsys : BitVec 16, (d.vinOk = false ∨ ¬ (vin.toNat < d.vinUv ∨ vin.toNat + 30 < vsys.toNat))) ∧
    (∃ d : Dev, ∃ vin : BitVec 16, ∃ vsys : BitVec 16, d.vinOk = true ∧ ((vin.toNat < d.vinUv ∨ vin.toNat + 30 < vsys.toNat))) ∧
    (∃ d : Dev, (d.offDue = false ∨ d.powerDown = true)) ∧
    (∃ d : Dev, d.offDue = true ∧ d.powerDown = false ∧ d.state = 5) ∧
    (∃ d : Dev, d.offDue = true ∧ d.powerDown = false ∧ d.state = 3 ∧ ((∃ n < 24, d.tstate n = 3))) ∧
    (∃ d : Dev, d.offDue = true ∧ d.powerDown = false ∧ d.state = 4) ∧
    (∃ d : Dev, d.state = 0) ∧
    (∃ d : Dev, (d.state = 0 ∨ d.flag (pg .path) F.PATH.BAK_CFG_TEMP_EN = false)) ∧
    (∃ d : Dev, ∃ uv : BitVec 24, d.state ≠ 0 ∧ d.flag (pg .path) F.PATH.BAK_CFG_TEMP_EN = true ∧
      d.supply.bak.cand ≠ d.bakZone (min 255 ((512 * uv.toNat + 1200000) / 2400000))) ∧
    (∃ d : Dev, d.bakState ≠ 6 ∧ d.fld (pg .path) F.PATH.BAK_TIME_PRE_TIME * 60000 ≤ d.supply.bak.preT) ∧
    (∃ d : Dev, d.bakState = 6) ∧
    (∃ d : Dev, ∃ m : Master, d.CanWrite m .path 0 R.PATH.BAK_CMD) ∧
    (∃ d : Dev, (d.relState = 1 ∨ d.relState = 2) ∧ d.supply.boost.startAt + 40000000 ≤ d.now) ∧
    (∃ d : Dev, 1 ≤ d.relState ∧ d.relState ≤ 3 ∧ d.supply.boost.startAt + d.fld (pg .path) F.PATH.REL_CFG_TIME * 40000000 ≤ d.now) ∧
    (∃ d : Dev, 3 < d.relState) ∧
    (∃ d : Dev, ∃ v : BitVec 16, (d.relState = 1 ∨ d.relState = 2) ∧ v.toNat < d.uvlo ∧ d.supply.boost.pauses < 15) ∧
    (∃ d : Dev, ∃ v : BitVec 16, d.relState = 3 ∧ d.uvlo + 100 ≤ v.toNat ∧ d.supply.boost.from' ≤ 5) ∧
    (∃ d : Dev, d.relState = 5 ∧ d.supply.boost.coolFrom + d.fld (pg .path) F.PATH.REL_CFG_COOL * 400000000 ≤ d.now ∧ d.supply.boost.enabled = true) ∧
    (∃ d : Dev, d.relState = 5 ∧ d.supply.boost.coolFrom + d.fld (pg .path) F.PATH.REL_CFG_COOL * 400000000 ≤ d.now ∧ d.supply.boost.enabled = false) ∧
    (∃ d : Dev, d.relState = 1) ∧
    (∃ d : Dev, d.relState ≠ 1) ∧
    (∃ d : Dev, ∃ bak : Bool, (if bak then d.flag (pg .path) F.PATH.PATH_STATUS_ON_BAK else d.vinOk) = true) ∧
    (∃ d : Dev, ∃ bak : Bool, (if bak then d.flag (pg .path) F.PATH.PATH_STATUS_ON_BAK else d.vinOk) = false) := by
  refine ⟨⟨(({} : Dev).setFlag (pg .path) F.PATH.PATH_STATUS_VIN_OK true), 0, 0, 0, ?_⟩,
    ⟨((({} : Dev).setFlag (pg .path) F.PATH.PATH_STATUS_VIN_OK false).setFlag (pg .seq) F.SEQ.SEQ_CFG_VIN_OFF false), 5000, 0, 65535, ?_⟩,
    ⟨((({} : Dev).setFlag (pg .path) F.PATH.PATH_STATUS_VIN_OK false).setFlag (pg .seq) F.SEQ.SEQ_CFG_VIN_OFF true), 5000, 0, 65535, ?_⟩,
    ⟨(({} : Dev).setFlag (pg .path) F.PATH.PATH_STATUS_VIN_OK false), 0, 0, ?_⟩,
    ⟨(({} : Dev).setFlag (pg .path) F.PATH.PATH_STATUS_VIN_OK true), 0, 0, ?_⟩,
    ⟨({} : Dev), ?_⟩,
    ⟨({ (((({} : Dev).setFld (pg .sys) F.SYS.STATE_STATE 5).setFlag (pg .seq) F.SEQ.SEQ_CFG_VIN_OFF true).setFlag (pg .path) F.PATH.PATH_STATUS_VIN_OK false) with now := 10000000000000 } : Dev),
  ?_⟩,
    ⟨({ ((((({} : Dev).setFld (pg .sys) F.SYS.STATE_STATE 3).setFld (pg .tile 23) F.TILE.STATUS_TSTATE 3).setFlag (pg .seq) F.SEQ.SEQ_CFG_VIN_OFF true).setFlag (pg .path) F.PATH.PATH_STATUS_VIN_OK false) with now := 10000000000000 } : Dev),
  ?_⟩,
    ⟨({ (((({} : Dev).setFld (pg .sys) F.SYS.STATE_STATE 4).setFlag (pg .seq) F.SEQ.SEQ_CFG_VIN_OFF true).setFlag (pg .path) F.PATH.PATH_STATUS_VIN_OK false) with now := 10000000000000 } : Dev),
  ?_⟩,
    ⟨(({} : Dev).setFld (pg .sys) F.SYS.STATE_STATE 0), ?_⟩,
    ⟨(({} : Dev).setFld (pg .sys) F.SYS.STATE_STATE 0), ?_⟩,
    ⟨(({} : Dev).setFlag (pg .path) F.PATH.BAK_CFG_TEMP_EN true), 0, ?_⟩,
    ⟨(({ ({} : Dev) with supply.bak.preT := 100000000 } : Dev)), ?_⟩,
    ⟨(({} : Dev).setFld (pg .path) F.PATH.PATH_STATUS_BAK_STATE (6)), ?_⟩,
    ⟨({} : Dev), .ctrl, ?_⟩,
    ⟨({ (({} : Dev).setFld (pg .path) F.PATH.PATH_STATUS_REL_STATE (1)) with now := 10000000000000 } : Dev), ?_⟩,
    ⟨({ (({} : Dev).setFld (pg .path) F.PATH.PATH_STATUS_REL_STATE (1)) with now := 10000000000000 } : Dev), ?_⟩,
    ⟨(({} : Dev).setFld (pg .path) F.PATH.PATH_STATUS_REL_STATE 4), ?_⟩,
    ⟨(({} : Dev).setFld (pg .path) F.PATH.PATH_STATUS_REL_STATE (1)), 0, ?_⟩,
    ⟨(({} : Dev).setFld (pg .path) F.PATH.PATH_STATUS_REL_STATE (3)), 65535, ?_⟩,
    ⟨({ ({ (({} : Dev).setFld (pg .path) F.PATH.PATH_STATUS_REL_STATE (5)) with supply.boost.enabled := true } : Dev) with now := 10000000000000 } : Dev),
  ?_⟩,
    ⟨({ ({ (({} : Dev).setFld (pg .path) F.PATH.PATH_STATUS_REL_STATE (5)) with supply.boost.enabled := false } : Dev) with now := 10000000000000 } : Dev),
  ?_⟩,
    ⟨(({} : Dev).setFld (pg .path) F.PATH.PATH_STATUS_REL_STATE (1)), ?_⟩,
    ⟨({} : Dev), ?_⟩,
    ⟨(({} : Dev).setFlag (pg .path) F.PATH.PATH_STATUS_VIN_OK true), false, ?_⟩,
    ⟨({} : Dev), false, ?_⟩⟩
  all_goals and_intros
  all_goals first | exact test_canWrite (by decide +kernel) | exact test_canRead (by decide +kernel) | decide +kernel

theorem test_ClocksRun_holds_somewhere :
    (∃ d : Dev, d.sysSrc = 0 ∧ d.supply.pllLost = false ∧ d.islandOn = true ∧ d.comp.resetAt + 4000000 ≤ d.now) ∧
    (∃ d : Dev, (d.sysSrc ≠ 0 ∨ d.supply.pllLost = true)) ∧
    (∃ d : Dev, d.flag (pg .clk) F.CLK.CLK_STATUS_XTAL_OK = true) ∧
    (∃ d : Dev, d.flag (pg .clk) F.CLK.CLK_STATUS_XTAL_OK = false ∧ d.islandOn = true ∧ d.supply.xtalAt + 4000000 ≤ d.now ∧
      d.flag (pg .clk) F.CLK.CLK_CFG_AUTO_BACK = false) ∧
    (∃ d : Dev, d.flag (pg .clk) F.CLK.CLK_STATUS_XTAL_OK = false ∧ d.islandOn = true ∧ d.supply.xtalAt + 4000000 ≤ d.now ∧
      d.flag (pg .clk) F.CLK.CLK_CFG_AUTO_BACK = true ∧ d.sysSrc = 2) ∧
    (∃ d : Dev, d.sysSrc ≠ 0) ∧
    (∃ d : Dev, ∃ isl : Bool, d.islandOn = true ∧ d.flag (pg .clk) (if isl then F.CLK.CLK_STATUS_ISL_OK else F.CLK.CLK_STATUS_RC_OK) = true) ∧
    (∃ d : Dev, ∃ isl : Bool, d.islandOn = true ∧ d.flag (pg .clk) (if isl then F.CLK.CLK_STATUS_ISL_OK else F.CLK.CLK_STATUS_RC_OK) = false) ∧
    (∃ d : Dev, d.cel.x32At + 400000000 ≤ d.now) ∧
    (∃ d : Dev, d.now < d.cel.x32At + 400000000) := by
  refine ⟨⟨({ ({ (({} : Dev).setFld (pg .clk) F.CLK.CLK_STATUS_SYSSRC (0)) with supply.pllLost := false } : Dev) with now := 10000000000000 } : Dev), ?_⟩,
    ⟨(({} : Dev).setFld (pg .clk) F.CLK.CLK_STATUS_SYSSRC 1), ?_⟩,
    ⟨(({} : Dev).setFlag (pg .clk) F.CLK.CLK_STATUS_XTAL_OK true), ?_⟩,
    ⟨({ ((({} : Dev).setFlag (pg .clk) F.CLK.CLK_STATUS_XTAL_OK false).setFlag (pg .clk) F.CLK.CLK_CFG_AUTO_BACK false) with now := 10000000000000 } : Dev),
  ?_⟩,
    ⟨({ (((({} : Dev).setFlag (pg .clk) F.CLK.CLK_STATUS_XTAL_OK false).setFlag (pg .clk) F.CLK.CLK_CFG_AUTO_BACK true).setFld (pg .clk) F.CLK.CLK_STATUS_SYSSRC (2)) with now := 10000000000000 } : Dev),
  ?_⟩,
    ⟨(({} : Dev).setFld (pg .clk) F.CLK.CLK_STATUS_SYSSRC 1), ?_⟩,
    ⟨(({} : Dev).setFlag (pg .clk) (if (false : Bool) then F.CLK.CLK_STATUS_ISL_OK else F.CLK.CLK_STATUS_RC_OK) true), false, ?_⟩,
    ⟨(({} : Dev).setFlag (pg .clk) (if (false : Bool) then F.CLK.CLK_STATUS_ISL_OK else F.CLK.CLK_STATUS_RC_OK) false), false, ?_⟩,
    ⟨({ ({} : Dev) with now := 10000000000000 } : Dev), ?_⟩,
    ⟨({} : Dev), ?_⟩⟩
  all_goals and_intros
  all_goals first | exact test_canWrite (by decide +kernel) | exact test_canRead (by decide +kernel) | decide +kernel

theorem test_ProgramStepsRun_holds_somewhere :
    (∃ d : Dev, ∃ w : Nat, ∃ x : Nat × Instr, 1 ≤ d.phase ∧ d.phase ≤ 4 ∧ d.seq.wait = .none ∧ d.prog d.seq.pc = w ∧ x ∈ [(0, Instr.stepEnd 0 []),
      (1, .stepEnable), (2, .stepDisable), (3, .stepWait), (4, .stepWaitv), (5, .stepCheck), (6, .stepJump), (7, .stepStair), (8, .stepReset), (9,
      .stepMark)] ∧ (stepOp w ≠ x.1 ∨ stepValid w = false)) ∧
    (∃ d : Dev, ∃ w : Nat, 1 ≤ d.phase ∧ d.phase ≤ 4 ∧ d.seq.wait = .none ∧ d.prog d.seq.pc = w ∧ stepValid w = false) ∧
    (∃ d : Dev, ∃ w : Nat, ∃ n : Nat, 1 ≤ d.phase ∧ d.phase ≤ 4 ∧ d.seq.wait = .none ∧ d.prog d.seq.pc = w ∧ n < 16 ∧ w = 0x10000000 + n ∧
      (d.domState n ≠ 0 ∨ d.domPaired n = true ∨ d.flag (pg .dom n) F.DOM.STATUS_CUT = true)) ∧
    (∃ d : Dev, ∃ w : Nat, ∃ n : Nat, 1 ≤ d.phase ∧ d.phase ≤ 4 ∧ d.seq.wait = .none ∧ d.prog d.seq.pc = w ∧ n < 16 ∧ w = 0x10000000 + n ∧
      d.domState n = 0 ∧ d.domPaired n = false ∧ d.flag (pg .dom n) F.DOM.STATUS_CUT = false ∧ ((∀ q, domParent n = some q → d.domState q = 2))) ∧
    (∃ d : Dev, ∃ w : Nat, ∃ n : Nat, ∃ q : Nat, 1 ≤ d.phase ∧ d.phase ≤ 4 ∧ d.seq.wait = .none ∧ d.prog d.seq.pc = w ∧ n < 16 ∧ w = 0x10000000 + n ∧
      d.domState n = 0 ∧ d.domPaired n = false ∧ d.flag (pg .dom n) F.DOM.STATUS_CUT = false ∧ domParent n = some q ∧ d.domState q ≠ 2) ∧
    (∃ d : Dev, ∃ w : Nat, ∃ n : Nat, 1 ≤ d.phase ∧ d.phase ≤ 4 ∧ d.seq.wait = .none ∧ d.prog d.seq.pc = w ∧ n < 16 ∧ w = 0x20000000 + n ∧
      (d.domState n = 0 ∨ d.domPaired n = true)) ∧
    (∃ d : Dev, ∃ w : Nat, ∃ n : Nat, 1 ≤ d.phase ∧ d.phase ≤ 4 ∧ d.seq.wait = .none ∧ d.prog d.seq.pc = w ∧ n < 16 ∧ w = 0x20000000 + n ∧
      d.domState n ≠ 0 ∧ d.domPaired n = false ∧ d.stalled = true) ∧
    (∃ d : Dev, ∃ w : Nat, ∃ n : Nat, 1 ≤ d.phase ∧ d.phase ≤ 4 ∧ d.seq.wait = .none ∧ d.prog d.seq.pc = w ∧ n < 16 ∧ w = 0x20000000 + n ∧
      d.domState n ≠ 0 ∧ d.domPaired n = false ∧ d.stalled = false ∧ ((∀ c < 16, domParent c = some n → d.domState c = 0))) ∧
    (∃ d : Dev, ∃ w : Nat, ∃ n : Nat, 1 ≤ d.phase ∧ d.phase ≤ 4 ∧ d.seq.wait = .none ∧ d.prog d.seq.pc = w ∧ n < 16 ∧ w = 0x20000000 + n ∧
      d.domState n ≠ 0 ∧ d.domPaired n = false ∧ d.stalled = false ∧ ((∃ c < 16, domParent c = some n ∧ d.domState c ≠ 0))) ∧
    (∃ d : Dev, ∃ w : Nat, 1 ≤ d.phase ∧ d.phase ≤ 4 ∧ d.seq.wait = .none ∧ d.prog d.seq.pc = w ∧ stepOp w = 3 ∧ stepValid w = true) ∧
    (∃ d : Dev, ∃ w : Nat, 1 ≤ d.phase ∧ d.phase ≤ 4 ∧ d.seq.wait = .none ∧ d.prog d.seq.pc = w ∧ stepOp w = 4 ∧ stepValid w = true ∧
      d.waitvMet w = true) ∧
    (∃ d : Dev, ∃ w : Nat, 1 ≤ d.phase ∧ d.phase ≤ 4 ∧ d.seq.wait = .none ∧ d.prog d.seq.pc = w ∧ stepOp w = 4 ∧ stepValid w = true ∧
      d.waitvMet w = false) ∧
    (∃ d : Dev, ∃ w : Nat, 1 ≤ d.phase ∧ d.phase ≤ 4 ∧ d.seq.wait = .none ∧ d.prog d.seq.pc = w ∧ stepOp w = 5 ∧ stepValid w = true ∧
      ¬(0x28 ≤ bitsOf w 8 8 ∧ bitsOf w 8 8 ≤ 0x2F)) ∧
    (∃ d : Dev, ∃ w : Nat, ∃ g : Nat, 1 ≤ d.phase ∧ d.phase ≤ 4 ∧ d.seq.wait = .none ∧ d.prog d.seq.pc = w ∧ stepOp w = 5 ∧ stepValid w = true ∧
      g < 8 ∧ bitsOf w 8 8 = 0x28 + g ∧ bitAt (d.fld (pg .seq) F.SEQ.SEQ_STATUS_GO) g = true ∧ bitAt w 16 = true) ∧
    (∃ d : Dev, ∃ w : Nat, 1 ≤ d.phase ∧ d.phase ≤ 4 ∧ d.seq.wait = .none ∧ d.prog d.seq.pc = w ∧ stepOp w = 6 ∧ stepValid w = true) ∧
    (∃ d : Dev, ∃ w : Nat, 1 ≤ d.phase ∧ d.phase ≤ 4 ∧ d.seq.wait = .none ∧ d.prog d.seq.pc = w ∧ stepOp w = 7 ∧ stepValid w = true ∧
      d.flag (pg .seq) F.SEQ.SEQ_CFG_STAIR_EN = false) ∧
    (∃ d : Dev, ∃ w : Nat, 1 ≤ d.phase ∧ d.phase ≤ 4 ∧ d.seq.wait = .none ∧ d.prog d.seq.pc = w ∧ stepOp w = 7 ∧ stepValid w = true ∧
      d.flag (pg .seq) F.SEQ.SEQ_CFG_STAIR_EN = true ∧ d.fld (pg .seq) F.SEQ.SEQ_STATUS_STAIR_NUM = stepDom w) ∧
    (∃ d : Dev, ∃ w : Nat, 1 ≤ d.phase ∧ d.phase ≤ 4 ∧ d.seq.wait = .none ∧ d.prog d.seq.pc = w ∧ stepOp w = 7 ∧ stepValid w = true ∧
      d.flag (pg .seq) F.SEQ.SEQ_CFG_STAIR_EN = true ∧ d.fld (pg .seq) F.SEQ.SEQ_STATUS_STAIR_NUM ≠ stepDom w) ∧
    (∃ d : Dev, ∃ w : Nat, 1 ≤ d.phase ∧ d.phase ≤ 4 ∧ d.seq.wait = .none ∧ d.prog d.seq.pc = w ∧ stepOp w = 8 ∧ stepValid w = true ∧
      bitAt w 4 = true) ∧
    (∃ d : Dev, ∃ w : Nat, 1 ≤ d.phase ∧ d.phase ≤ 4 ∧ d.seq.wait = .none ∧ d.prog d.seq.pc = w ∧ stepOp w = 8 ∧ stepValid w = true ∧
      bitAt w 4 = false ∧ d.flag (pg .seq) ⟨R.SEQ.RST_STATUS, (bitsOf w 0 2), 1⟩ = true) ∧
    (∃ d : Dev, ∃ w : Nat, 1 ≤ d.phase ∧ d.phase ≤ 4 ∧ d.seq.wait = .none ∧ d.prog d.seq.pc = w ∧ stepOp w = 8 ∧ stepValid w = true ∧
      bitAt w 4 = false ∧ d.flag (pg .seq) ⟨R.SEQ.RST_STATUS, (bitsOf w 0 2), 1⟩ = false) ∧
    (∃ d : Dev, ∃ w : Nat, 1 ≤ d.phase ∧ d.phase ≤ 4 ∧ d.seq.wait = .none ∧ d.prog d.seq.pc = w ∧ stepOp w = 9 ∧ stepValid w = true) := by
  refine ⟨⟨((({ (({} : Dev).setFld (pg .seq) F.SEQ.SEQ_STATUS_PHASE (1)) with seq.wait := .none } : Dev).setReg (pg .seq) (R.SEQ.PROG + 512) 0x30000000#32).modSeq (fun s => { s with pc := 128 })),
  0x30000000, (1, .stepEnable), ?_⟩,
    ⟨((({ (({} : Dev).setFld (pg .seq) F.SEQ.SEQ_STATUS_PHASE (1)) with seq.wait := .none } : Dev).setReg (pg .seq) (R.SEQ.PROG + 512) 0xF0000000#32).modSeq (fun s => { s with pc := 128 })),
  0xF0000000, ?_⟩,
    ⟨(((({ ((({} : Dev).setFld (pg .seq) F.SEQ.SEQ_STATUS_PHASE (1)).setFld (pg .dom (15)) F.DOM.STATUS_DSTATE 1) with seq.wait := .none } : Dev).setReg (pg .seq) (R.SEQ.PROG + 512) 0x1000000F#32).modSeq (fun s => { s with pc := 128 })).setFld (pg .dom 15) F.DOM.STATUS_DSTATE 1),
  0x1000000F, 15, ?_⟩,
    ⟨((({ (((({} : Dev).setFld (pg .seq) F.SEQ.SEQ_STATUS_PHASE (1)).setFld (pg .dom (0)) F.DOM.STATUS_DSTATE (0)).setFlag (pg .dom 0) F.DOM.STATUS_CUT false) with seq.wait := .none } : Dev).setReg (pg .seq) (R.SEQ.PROG + 512) 0x10000000#32).modSeq (fun s => { s with pc := 128 })),
  0x10000000, 0, ?_⟩,
    ⟨((({ (((({} : Dev).setFld (pg .seq) F.SEQ.SEQ_STATUS_PHASE (1)).setFld (pg .dom (15)) F.DOM.STATUS_DSTATE (0)).setFlag (pg .dom 15) F.DOM.STATUS_CUT false) with seq.wait := .none } : Dev).setReg (pg .seq) (R.SEQ.PROG + 512) 0x1000000F#32).modSeq (fun s => { s with pc := 128 })),
  0x1000000F, 15, 0, ?_⟩,
    ⟨((({ ((({} : Dev).setFld (pg .seq) F.SEQ.SEQ_STATUS_PHASE (1)).setFld (pg .dom (0)) F.DOM.STATUS_DSTATE (0)) with seq.wait := .none } : Dev).setReg (pg .seq) (R.SEQ.PROG + 512) 0x20000000#32).modSeq (fun s => { s with pc := 128 })),
  0x20000000, 0, ?_⟩,
    ⟨(((((({ ((({} : Dev).setFld (pg .seq) F.SEQ.SEQ_STATUS_PHASE (1)).setFld (pg .dom (0)) F.DOM.STATUS_DSTATE 1) with seq.wait := .none } : Dev).setReg (pg .seq) (R.SEQ.PROG + 512) 0x20000000#32).modSeq (fun s => { s with pc := 128 })).setFld (pg .dom 0) F.DOM.STATUS_DSTATE 2).setFld (pg .seq) F.SEQ.SEQ_STATUS_PHASE 3).modSeq (fun s => { s with lastDis := some 0 })),
  0x20000000, 0, ?_⟩,
    ⟨((({ ((({} : Dev).setFld (pg .seq) F.SEQ.SEQ_STATUS_PHASE (1)).setFld (pg .dom (0)) F.DOM.STATUS_DSTATE 1) with seq.wait := .none } : Dev).setReg (pg .seq) (R.SEQ.PROG + 512) 0x20000000#32).modSeq (fun s => { s with pc := 128 })),
  0x20000000, 0, ?_⟩,
    ⟨((((({ ((({} : Dev).setFld (pg .seq) F.SEQ.SEQ_STATUS_PHASE (1)).setFld (pg .dom (0)) F.DOM.STATUS_DSTATE 1) with seq.wait := .none } : Dev).setReg (pg .seq) (R.SEQ.PROG + 512) 0x20000000#32).modSeq (fun s => { s with pc := 128 })).setFld (pg .dom 15) F.DOM.STATUS_DSTATE 2).setFld (pg .dom 0) F.DOM.STATUS_DSTATE 2),
  0x20000000, 0, ?_⟩,
    ⟨((({ (({} : Dev).setFld (pg .seq) F.SEQ.SEQ_STATUS_PHASE (1)) with seq.wait := .none } : Dev).setReg (pg .seq) (R.SEQ.PROG + 512) 0x30000000#32).modSeq (fun s => { s with pc := 128 })),
  0x30000000, ?_⟩,
    ⟨(((({ (({} : Dev).setFld (pg .seq) F.SEQ.SEQ_STATUS_PHASE (1)) with seq.wait := .none } : Dev).setReg (pg .seq) (R.SEQ.PROG + 512) 0x40000000#32).modSeq (fun s => { s with pc := 128 })).setFld (pg .dom 0) F.DOM.STATUS_DSTATE 2),
  0x40000000, ?_⟩,
    ⟨((({ (({} : Dev).setFld (pg .seq) F.SEQ.SEQ_STATUS_PHASE (1)) with seq.wait := .none } : Dev).setReg (pg .seq) (R.SEQ.PROG + 512) 0x40000000#32).modSeq (fun s => { s with pc := 128 })),
  0x40000000, ?_⟩,
    ⟨((({ (({} : Dev).setFld (pg .seq) F.SEQ.SEQ_STATUS_PHASE (1)) with seq.wait := .none } : Dev).setReg (pg .seq) (R.SEQ.PROG + 512) 0x50000000#32).modSeq (fun s => { s with pc := 128 })),
  0x50000000, ?_⟩,
    ⟨(((({ (({} : Dev).setFld (pg .seq) F.SEQ.SEQ_STATUS_PHASE (1)) with seq.wait := .none } : Dev).setReg (pg .seq) (R.SEQ.PROG + 512) 0x50012F00#32).modSeq (fun s => { s with pc := 128 })).setFld (pg .seq) F.SEQ.SEQ_STATUS_GO 128),
  0x50012F00, 7, ?_⟩,
    ⟨((({ (({} : Dev).setFld (pg .seq) F.SEQ.SEQ_STATUS_PHASE (1)) with seq.wait := .none } : Dev).setReg (pg .seq) (R.SEQ.PROG + 512) 0x60000000#32).modSeq (fun s => { s with pc := 128 })),
  0x60000000, ?_⟩,
    ⟨((({ ((({} : Dev).setFld (pg .seq) F.SEQ.SEQ_STATUS_PHASE (1)).setFlag (pg .seq) F.SEQ.SEQ_CFG_STAIR_EN false) with seq.wait := .none } : Dev).setReg (pg .seq) (R.SEQ.PROG + 512) 0x70000000#32).modSeq (fun s => { s with pc := 128 })),
  0x70000000, ?_⟩,
    ⟨((({ ((({} : Dev).setFld (pg .seq) F.SEQ.SEQ_STATUS_PHASE (1)).setFlag (pg .seq) F.SEQ.SEQ_CFG_STAIR_EN true) with seq.wait := .none } : Dev).setReg (pg .seq) (R.SEQ.PROG + 512) 0x70000000#32).modSeq (fun s => { s with pc := 128 })),
  0x70000000, ?_⟩,
    ⟨((({ ((({} : Dev).setFld (pg .seq) F.SEQ.SEQ_STATUS_PHASE (1)).setFlag (pg .seq) F.SEQ.SEQ_CFG_STAIR_EN true) with seq.wait := .none } : Dev).setReg (pg .seq) (R.SEQ.PROG + 512) 0x70000001#32).modSeq (fun s => { s with pc := 128 })),
  0x70000001, ?_⟩,
    ⟨((({ (({} : Dev).setFld (pg .seq) F.SEQ.SEQ_STATUS_PHASE (1)) with seq.wait := .none } : Dev).setReg (pg .seq) (R.SEQ.PROG + 512) 0x80000010#32).modSeq (fun s => { s with pc := 128 })),
  0x80000010, ?_⟩,
    ⟨((({ ((({} : Dev).setFld (pg .seq) F.SEQ.SEQ_STATUS_PHASE (1)).setFlag (pg .seq) ⟨R.SEQ.RST_STATUS, (bitsOf (0x80000000 : Nat) 0 2), 1⟩ true) with seq.wait := .none } : Dev).setReg (pg .seq) (R.SEQ.PROG + 512) 0x80000000#32).modSeq (fun s => { s with pc := 128 })),
  0x80000000, ?_⟩,
    ⟨((({ ((({} : Dev).setFld (pg .seq) F.SEQ.SEQ_STATUS_PHASE (1)).setFlag (pg .seq) ⟨R.SEQ.RST_STATUS, (bitsOf (0x80000000 : Nat) 0 2), 1⟩ false) with seq.wait := .none } : Dev).setReg (pg .seq) (R.SEQ.PROG + 512) 0x80000000#32).modSeq (fun s => { s with pc := 128 })),
  0x80000000, ?_⟩,
    ⟨((({ (({} : Dev).setFld (pg .seq) F.SEQ.SEQ_STATUS_PHASE (1)) with seq.wait := .none } : Dev).setReg (pg .seq) (R.SEQ.PROG + 512) 0x90000000#32).modSeq (fun s => { s with pc := 128 })),
  0x90000000, ?_⟩⟩
  all_goals and_intros
  all_goals first | exact test_canWrite (by decide +kernel) | exact test_canRead (by decide +kernel) | decide +kernel

theorem test_ProgramEndsRun_holds_somewhere :
    (∃ d : Dev, d.seq.wait = .none ∧ d.prog d.seq.pc = 0 ∧ (d.phase = 1 ∨ d.phase = 2) ∧ d.domState 11 ≠ 2) ∧
    (∃ d : Dev, d.seq.wait = .none ∧ d.prog d.seq.pc = 0 ∧ d.phase = 3 ∧ d.stalled = false ∧ d.seq.goal ≠ .hibernate) ∧
    (∃ d : Dev, d.seq.wait = .none ∧ d.prog d.seq.pc = 0 ∧ (d.phase = 3 ∨ d.phase = 4) ∧ d.stalled = true) ∧
    (∃ d : Dev, d.seq.wait = .none ∧ d.prog d.seq.pc = 0 ∧ d.phase = 3 ∧ d.seq.goal = .hibernate ∧ d.state ≠ 3) ∧
    (∃ d : Dev, d.seq.wait = .none ∧ d.prog d.seq.pc = 0 ∧ d.phase = 3 ∧ d.state = 3 ∧ d.stalled = false ∧ d.seq.goal = .hibernate ∧
      d.flag (pg .seq) F.SEQ.SEQ_STATUS_ON_REQ = false) ∧
    (∃ d : Dev, d.seq.wait = .none ∧ d.prog d.seq.pc = 0 ∧ d.phase = 4 ∧ d.stalled = false) ∧
    (∃ d : Dev, d.phase = 5 ∧ d.unwindLeft = [] ∧ d.stalled = false ∧ d.seq.goal ≠ .parked ∧ d.state ≠ 3) ∧
    (∃ d : Dev, d.phase = 5 ∧ d.unwindLeft = [] ∧ d.stalled = false ∧ d.seq.goal = .cellar ∧ d.state = 3 ∧
      d.flag (pg .seq) F.SEQ.SEQ_STATUS_ON_REQ = false) ∧
    (∃ d : Dev, d.phase = 5 ∧ d.unwindLeft = [] ∧ d.stalled = false ∧ d.seq.goal = .parked) ∧
    (∃ d : Dev, ∃ n : Nat, ∃ l : List Nat, d.phase = 5 ∧ d.unwindLeft = n :: l ∧ d.stalled = false ∧ n < 16) ∧
    (∃ d : Dev, 1 ≤ d.phase ∧ d.phase ≤ 4 ∧ d.seq.wait = .time ∧ d.seq.waitAt + Dev.waitClocks (d.prog d.seq.pc) ≤ d.now) ∧
    (∃ d : Dev, 1 ≤ d.phase ∧ d.phase ≤ 4 ∧ (d.seq.wait ≠ .time ∨ d.now < d.seq.waitAt + Dev.waitClocks (d.prog d.seq.pc))) ∧
    (∃ d : Dev, 1 ≤ d.phase ∧ d.phase ≤ 4 ∧ d.seq.wait = .waitv ∧ d.seq.waitAt + 4000 * Dev.stepTimeout (d.prog d.seq.pc) ≤ d.now) ∧
    (∃ d : Dev, 1 ≤ d.phase ∧ d.phase ≤ 4 ∧ (d.seq.wait ≠ .waitv ∨ d.now < d.seq.waitAt + 4000 * Dev.stepTimeout (d.prog d.seq.pc))) ∧
    (∃ d : Dev, 1 ≤ d.phase ∧ d.phase ≤ 4 ∧ d.seq.wait = .stair ∧ d.seq.waitAt + 40000 * Dev.stepTimeout (d.prog d.seq.pc) ≤ d.now) ∧
    (∃ d : Dev, 1 ≤ d.phase ∧ d.phase ≤ 4 ∧ (d.seq.wait ≠ .stair ∨ d.now < d.seq.waitAt + 40000 * Dev.stepTimeout (d.prog d.seq.pc))) ∧
    (∃ d : Dev, 1 ≤ d.phase ∧ d.phase ≤ 4 ∧ d.seq.wait = .stair ∧ d.flag (pg .seq) F.SEQ.SEQ_STATUS_STAIR_REL = true ∧
      stepDom (d.prog d.seq.pc) = (d.fld (pg .seq) F.SEQ.SEQ_STATUS_STAIR_NUM + 1) % 16) ∧
    (∃ d : Dev, d.flag (pg .seq) F.SEQ.SEQ_STATUS_STAIR_REL = false) ∧
    (∃ d : Dev, ∃ k : Fin 4, d.flag (pg .seq) ⟨R.SEQ.RST_STATUS, 4 + k.val, 1⟩ = true ∧
      (vget d.seq.relAt k.val 0 + 400000 * d.fld (pg .seq) (F.SEQ.RST_CFG_STRETCH.at k.val)) ≤ d.now) ∧
    (∃ d : Dev, ∃ k : Fin 4, (d.flag (pg .seq) ⟨R.SEQ.RST_STATUS, 4 + k.val,
      1⟩ = false ∨ d.now < (vget d.seq.relAt k.val 0 + 400000 * d.fld (pg .seq) (F.SEQ.RST_CFG_STRETCH.at k.val)))) ∧
    (∃ d : Dev, ∃ c : Instr, ∃ t : Dev, d.seq.upDue = true ∧ d.cel.islandUp = true ∧ d.state = 2 ∧ d.phase = 0 ∧ c ∈ [Instr.stepEnable, .stepWait,
      .stepWaitv, .stepCheck, .stepJump, .stepStair, .stepReset, .stepMark, .stepInvalid] ∧ Runs c d.startUp t) := by
  refine ⟨⟨(({ (({} : Dev).setFld (pg .seq) F.SEQ.SEQ_STATUS_PHASE (1)) with seq.wait := .none } : Dev).modSeq (fun s => { s with pc := 255 })), ?_⟩,
    ⟨(({ (({} : Dev).setFld (pg .seq) F.SEQ.SEQ_STATUS_PHASE (3)) with seq.wait := .none } : Dev).modSeq (fun s => { s with pc := 255 })), ?_⟩,
    ⟨((((({ (({} : Dev).setFld (pg .seq) F.SEQ.SEQ_STATUS_PHASE (3)) with seq.wait := .none } : Dev).modSeq (fun s => { s with pc := 255 })).setFld (pg .seq) F.SEQ.SEQ_STATUS_PHASE 3).modSeq (fun s => { s with lastDis := some 0 })).setFld (pg .dom 0) F.DOM.STATUS_DSTATE 2),
  ?_⟩,
    ⟨(({ ({ (({} : Dev).setFld (pg .seq) F.SEQ.SEQ_STATUS_PHASE (3)) with seq.wait := .none } : Dev) with seq.goal := .hibernate } : Dev).modSeq (fun s => { s with pc := 255 })),
  ?_⟩,
    ⟨(({ ({ (((({} : Dev).setFld (pg .sys) F.SYS.STATE_STATE 3).setFld (pg .seq) F.SEQ.SEQ_STATUS_PHASE (3)).setFlag (pg .seq) F.SEQ.SEQ_STATUS_ON_REQ false) with seq.wait := .none } : Dev) with seq.goal := .hibernate } : Dev).modSeq (fun s => { s with pc := 255 })),
  ?_⟩,
    ⟨(({ (({} : Dev).setFld (pg .seq) F.SEQ.SEQ_STATUS_PHASE (4)) with seq.wait := .none } : Dev).modSeq (fun s => { s with pc := 255 })), ?_⟩,
    ⟨(({} : Dev).setFld (pg .seq) F.SEQ.SEQ_STATUS_PHASE (5)), ?_⟩,
    ⟨({ (((({} : Dev).setFld (pg .sys) F.SYS.STATE_STATE 3).setFld (pg .seq) F.SEQ.SEQ_STATUS_PHASE (5)).setFlag (pg .seq) F.SEQ.SEQ_STATUS_ON_REQ false) with seq.goal := .cellar } : Dev),
  ?_⟩,
    ⟨({ (({} : Dev).setFld (pg .seq) F.SEQ.SEQ_STATUS_PHASE (5)) with seq.goal := .parked } : Dev), ?_⟩,
    ⟨(((({} : Dev).setFld (pg .seq) F.SEQ.SEQ_STATUS_PHASE (5)).modSeq (fun s => { s with left := [0] })).setFld (pg .dom 0) F.DOM.STATUS_DSTATE 1), 0,
  [], ?_⟩,
    ⟨({ ({ (({} : Dev).setFld (pg .seq) F.SEQ.SEQ_STATUS_PHASE (1)) with seq.wait := .time } : Dev) with now := 10000000000000 } : Dev), ?_⟩,
    ⟨(({} : Dev).setFld (pg .seq) F.SEQ.SEQ_STATUS_PHASE (1)), ?_⟩,
    ⟨({ ({ (({} : Dev).setFld (pg .seq) F.SEQ.SEQ_STATUS_PHASE (1)) with seq.wait := .waitv } : Dev) with now := 10000000000000 } : Dev), ?_⟩,
    ⟨(({} : Dev).setFld (pg .seq) F.SEQ.SEQ_STATUS_PHASE (1)), ?_⟩,
    ⟨({ ({ (({} : Dev).setFld (pg .seq) F.SEQ.SEQ_STATUS_PHASE (1)) with seq.wait := .stair } : Dev) with now := 10000000000000 } : Dev), ?_⟩,
    ⟨(({} : Dev).setFld (pg .seq) F.SEQ.SEQ_STATUS_PHASE (1)), ?_⟩,
    ⟨(((({ ((({} : Dev).setFld (pg .seq) F.SEQ.SEQ_STATUS_PHASE (1)).setFlag (pg .seq) F.SEQ.SEQ_STATUS_STAIR_REL true) with seq.wait := .stair } : Dev).setReg (pg .seq) (R.SEQ.PROG + 512) 0x70000000#32).modSeq (fun s => { s with pc := 128 })).setFld (pg .seq) F.SEQ.SEQ_STATUS_STAIR_NUM 15),
  ?_⟩,
    ⟨(({} : Dev).setFlag (pg .seq) F.SEQ.SEQ_STATUS_STAIR_REL false), ?_⟩,
    ⟨({ (({} : Dev).setFlag (pg .seq) ⟨R.SEQ.RST_STATUS, 4 + 0, 1⟩ true) with now := 10000000000000 } : Dev), 0, ?_⟩,
    ⟨(({} : Dev).setFlag (pg .seq) ⟨R.SEQ.RST_STATUS, 4 + 0, 1⟩ false), 0, ?_⟩,
    ⟨({ ({ ((({} : Dev).setFld (pg .sys) F.SYS.STATE_STATE 2).setFld (pg .seq) F.SEQ.SEQ_STATUS_PHASE (0)) with seq.upDue := true } : Dev) with cel.islandUp := true } : Dev),
  .stepEnable, ({ ({} : Dev) with cel.islandUp := true } : Dev).startUp.stepEnable, ?_⟩⟩
  · and_intros <;> first | exact test_canWrite (by decide +kernel) | exact test_canRead (by decide +kernel) | decide +kernel
  · and_intros <;> first | exact test_canWrite (by decide +kernel) | exact test_canRead (by decide +kernel) | decide +kernel
  · and_intros <;> first | exact test_canWrite (by decide +kernel) | exact test_canRead (by decide +kernel) | decide +kernel
  · and_intros <;> first | exact test_canWrite (by decide +kernel) | exact test_canRead (by decide +kernel) | decide +kernel
  · and_intros <;> first | exact test_canWrite (by decide +kernel) | exact test_canRead (by decide +kernel) | decide +kernel
  · and_intros <;> first | exact test_canWrite (by decide +kernel) | exact test_canRead (by decide +kernel) | decide +kernel
  · and_intros <;> first | exact test_canWrite (by decide +kernel) | exact test_canRead (by decide +kernel) | decide +kernel
  · and_intros <;> first | exact test_canWrite (by decide +kernel) | exact test_canRead (by decide +kernel) | decide +kernel
  · and_intros <;> first | exact test_canWrite (by decide +kernel) | exact test_canRead (by decide +kernel) | decide +kernel
  · and_intros <;> first | exact test_canWrite (by decide +kernel) | exact test_canRead (by decide +kernel) | decide +kernel
  · and_intros <;> first | exact test_canWrite (by decide +kernel) | exact test_canRead (by decide +kernel) | decide +kernel
  · and_intros <;> first | exact test_canWrite (by decide +kernel) | exact test_canRead (by decide +kernel) | decide +kernel
  · and_intros <;> first | exact test_canWrite (by decide +kernel) | exact test_canRead (by decide +kernel) | decide +kernel
  · and_intros <;> first | exact test_canWrite (by decide +kernel) | exact test_canRead (by decide +kernel) | decide +kernel
  · and_intros <;> first | exact test_canWrite (by decide +kernel) | exact test_canRead (by decide +kernel) | decide +kernel
  · and_intros <;> first | exact test_canWrite (by decide +kernel) | exact test_canRead (by decide +kernel) | decide +kernel
  · and_intros <;> first | exact test_canWrite (by decide +kernel) | exact test_canRead (by decide +kernel) | decide +kernel
  · and_intros <;> first | exact test_canWrite (by decide +kernel) | exact test_canRead (by decide +kernel) | decide +kernel
  · and_intros <;> first | exact test_canWrite (by decide +kernel) | exact test_canRead (by decide +kernel) | decide +kernel
  · and_intros <;> first | exact test_canWrite (by decide +kernel) | exact test_canRead (by decide +kernel) | decide +kernel
  · and_intros <;> first | decide +kernel | (intro q; rfl)

theorem test_DomainsAndRequestsRun_holds_somewhere :
    (∃ d : Dev, ∃ n : Fin 16, d.seq.wait ≠ .waitv ∧ (d.domState n.val ≠ 1 ∨ d.domConfirmed n.val (d.domS n.val).inRun = false)) ∧
    (∃ d : Dev, ∃ n : Fin 16, d.seq.wait ≠ .waitv ∧ d.domState n.val = 1 ∧ d.domConfirmed n.val (d.domS n.val).inRun = true) ∧
    (∃ d : Dev, ∃ n : Fin 16, d.domState n.val ≠ 2) ∧
    (∃ d : Dev, ∃ n : Fin 16, d.domState n.val = 2 ∧ d.domConfirmed n.val (d.domS n.val).uvRun = true ∧
      d.active (srcNo .dom n.val B.DOM.DOM_UV) = false) ∧
    (∃ d : Dev, ∃ n : Fin 16, (d.domState n.val = 0 ∨ d.domState n.val = 3)) ∧
    (∃ d : Dev, ∃ n : Fin 16, (d.domState n.val = 1 ∨ d.domState n.val = 2) ∧ d.domConfirmed n.val (d.domS n.val).ovRun = true ∧
      d.active (srcNo .dom n.val B.DOM.DOM_OV) = false) ∧
    (∃ d : Dev, ∃ n : Fin 16, d.domState n.val = 3 ∧ (d.domS n.val).late = false ∧
      ((d.domS n.val).since + 40000 * d.fld (pg .dom n.val) F.DOM.OFF_CFG_OFF_TIME) ≤ d.now) ∧
    (∃ d : Dev, ∃ n : Fin 16,
      (d.domState n.val ≠ 3 ∨ (d.domS n.val).late = true ∨ d.now < ((d.domS n.val).since + 40000 * d.fld (pg .dom n.val) F.DOM.OFF_CFG_OFF_TIME))) ∧
    (∃ e : Dev, ∃ n : Nat, n ∈ [3, 6, 8] ∧ e.flag (pg .dom n) F.DOM.DCFG_CUT = true) ∧
    (∃ d : Dev, d.state = 1 ∧ d.cel.holdOff = true ∧ d.seq.vinReq = false ∧ d.now < d.cel.holdEnd) ∧
    (∃ d : Dev, d.state = 1 ∧ d.cel.holdOff = true ∧ d.seq.vinReq = false ∧ d.cel.holdEnd ≤ d.now ∧ d.cel.wakeDue = 0) ∧
    (∃ d : Dev, d.state = 1 ∧ d.cel.holdOff = true ∧ d.seq.vinReq = false ∧ d.cel.holdEnd ≤ d.now ∧ d.cel.wakeDue ≠ 0) ∧
    (∃ d : Dev, d.phase = 7 ∧ d.state ≠ 1 ∧ d.now < d.holdOffAt) ∧
    (∃ d : Dev, d.phase = 7 ∧ d.state = 2 ∧ d.seq.vinReq = false ∧ d.holdOffAt ≤ d.now ∧ d.cel.wakeDue = 0) ∧
    (∃ d : Dev, d.phase = 7 ∧ d.state = 2 ∧ d.seq.vinReq = false ∧ d.holdOffAt ≤ d.now ∧ d.cel.wakeDue ≠ 0) ∧
    (∃ d : Dev, d.state ≠ 1 ∧ d.phase ≠ 7) ∧
    (∃ d : Dev, ∃ m : Master, ∃ k : Fin 8, d.CanWrite m .seq 0 R.SEQ.CMD ∧ 3 ≤ d.state ∧ d.state ≤ 5 ∧ d.phase = 0 ∧ k.val < 4) ∧
    (∃ d : Dev, ∃ m : Master, ∃ k : Fin 8, d.CanWrite m .seq 0 R.SEQ.CMD ∧ (d.phase ≠ 0 ∨ 4 ≤ k.val ∨ d.state < 3)) ∧
    (∃ d : Dev, ∃ m : Master, d.CanWrite m .seq 0 R.SEQ.CMD ∧ d.phase ≠ 6) ∧
    (∃ d : Dev, ∃ m : Master, d.CanWrite m .seq 0 R.SEQ.CMD ∧ d.phase = 6 ∧ d.seq.wait ≠ .none) ∧
    (∃ d : Dev, ∃ m : Master, d.CanWrite m .seq 0 R.SEQ.CMD ∧ d.phase = 6 ∧ d.seq.wait = .none ∧ d.seq.goal = .none) := by
  refine ⟨⟨({} : Dev), 0, ?_⟩,
    ⟨((({} : Dev).setFld (pg .dom (0)) F.DOM.STATUS_DSTATE (1)).modDom 0 (fun x => { x with inRun := 100, uvRun := 100, ovRun := 100 })), 0, ?_⟩,
    ⟨({} : Dev), 0, ?_⟩,
    ⟨((({} : Dev).setFld (pg .dom (0)) F.DOM.STATUS_DSTATE (2)).modDom 0 (fun x => { x with inRun := 100, uvRun := 100, ovRun := 100 })), 0, ?_⟩,
    ⟨(({} : Dev).setFld (pg .dom (0)) F.DOM.STATUS_DSTATE (0)), 0, ?_⟩,
    ⟨((({} : Dev).setFld (pg .dom (0)) F.DOM.STATUS_DSTATE (1)).modDom 0 (fun x => { x with inRun := 100, uvRun := 100, ovRun := 100 })), 0, ?_⟩,
    ⟨({ (({} : Dev).setFld (pg .dom (0)) F.DOM.STATUS_DSTATE (3)) with now := 10000000000000 } : Dev), 0, ?_⟩,
    ⟨({} : Dev), 0, ?_⟩,
    ⟨({} : Dev).setFlag (pg .dom 3) F.DOM.DCFG_CUT true, 3, ?_⟩,
    ⟨(({ ({ ({ (({} : Dev).setFld (pg .sys) F.SYS.STATE_STATE 1) with cel.holdOff := true } : Dev) with seq.vinReq := false } : Dev) with cel.holdEnd := 1 } : Dev)),
  ?_⟩,
    ⟨({ ({ ({ ({ (({} : Dev).setFld (pg .sys) F.SYS.STATE_STATE 1) with cel.holdOff := true } : Dev) with seq.vinReq := false } : Dev) with cel.wakeDue := 0 } : Dev) with now := 10000000000000 } : Dev),
  ?_⟩,
    ⟨({ ({ ({ ({ (({} : Dev).setFld (pg .sys) F.SYS.STATE_STATE 1) with cel.holdOff := true } : Dev) with seq.vinReq := false } : Dev) with cel.wakeDue := 1 } : Dev) with now := 10000000000000 } : Dev),
  ?_⟩,
    ⟨(({} : Dev).setFld (pg .seq) F.SEQ.SEQ_STATUS_PHASE (7)), ?_⟩,
    ⟨({ ({ ({ ((({} : Dev).setFld (pg .sys) F.SYS.STATE_STATE 2).setFld (pg .seq) F.SEQ.SEQ_STATUS_PHASE (7)) with seq.vinReq := false } : Dev) with cel.wakeDue := 0 } : Dev) with now := 10000000000000 } : Dev),
  ?_⟩,
    ⟨({ ({ ({ ((({} : Dev).setFld (pg .sys) F.SYS.STATE_STATE 2).setFld (pg .seq) F.SEQ.SEQ_STATUS_PHASE (7)) with seq.vinReq := false } : Dev) with cel.wakeDue := 1 } : Dev) with now := 10000000000000 } : Dev),
  ?_⟩,
    ⟨({} : Dev), ?_⟩,
    ⟨((({} : Dev).setFld (pg .sys) F.SYS.STATE_STATE 3).setFld (pg .seq) F.SEQ.SEQ_STATUS_PHASE (0)), .ctrl, 0, ?_⟩,
    ⟨(({} : Dev).setFld (pg .seq) F.SEQ.SEQ_STATUS_PHASE 1), .ctrl, 0, ?_⟩,
    ⟨({} : Dev), .ctrl, ?_⟩,
    ⟨((({} : Dev).setFld (pg .seq) F.SEQ.SEQ_STATUS_PHASE (6)).modSeq (fun s => { s with wait := .time })), .ctrl, ?_⟩,
    ⟨({ ({ (({} : Dev).setFld (pg .seq) F.SEQ.SEQ_STATUS_PHASE (6)) with seq.wait := .none } : Dev) with seq.goal := .none } : Dev), .ctrl, ?_⟩⟩
  all_goals and_intros
  all_goals first | exact test_canWrite (by decide +kernel) | exact test_canRead (by decide +kernel) | decide +kernel

theorem test_CalendarRuns_holds_somewhere :
    (∃ d : Dev, ∃ m : Master, d.cel.transit = [((pg .rtc), m, R.RTC.CMD, 1)]) ∧
    (∃ d : Dev, ∃ m : Master, ∃ ofs, ∃ w : Word, d.cel.transit = [(pg .cellar, m, ofs, w)] ∧ ofs ≠ R.CELLAR.PWRON_CTRL) ∧
    (∃ d : Dev, ∃ m : Master, d.CanWrite m .rtc 0 R.RTC.CMD ∧ d.cel.transit = []) ∧
    (∃ d : Dev, ∃ m : Master, d.CanRead m .rtc 0 R.RTC.SEC) ∧
    (∃ d : Dev, (d.flag (pg .rtc) F.RTC.ALARM_CFG_CAL_EN = false ∧ d.flag (pg .rtc) F.RTC.ALARM_CFG_LIN_EN = false) ∧ d.calTime.ok = true) ∧
    (∃ d : Dev, d.flag (pg .rtc) F.RTC.STATUS_COMMIT_PEND = false) ∧
    (∃ d : Dev, d.flag (pg .rtc) F.RTC.STATUS_COMMIT_PEND = true ∧ d.stageTime.ok = true ∧ (d.flag (pg .rtc) F.RTC.ALARM_CFG_CAL_EN = false ∧
      d.flag (pg .rtc) F.RTC.ALARM_CFG_LIN_EN = false)) ∧
    (∃ d : Dev, d.flag (pg .rtc) F.RTC.STATUS_COMMIT_PEND = true ∧ d.stageTime.ok = false) ∧
    (∃ d : Dev, d.calValid = true ∧ d.flag (pg .rtc) F.RTC.ALARM_CFG_CAL_EN = true ∧ d.flag (pg .rtc) F.RTC.ALARM_CFG_LIN_EN = false ∧
      d.flag (pg .rtc) F.RTC.ALARM_CFG_CAL_WAKE = false ∧ d.flag (pg .rtc) F.RTC.ALARM_CFG_CAL_PWRON = false ∧ d.cel.calMatch = false ∧
      d.calMatches = true) ∧
    (∃ d : Dev, d.calValid = true ∧ d.flag (pg .rtc) F.RTC.ALARM_CFG_CAL_EN = true ∧ d.flag (pg .rtc) F.RTC.ALARM_CFG_LIN_EN = false ∧
      d.flag (pg .rtc) F.RTC.ALARM_CFG_CAL_WAKE = false ∧ d.flag (pg .rtc) F.RTC.ALARM_CFG_CAL_PWRON = false ∧ d.cel.calMatch = false ∧
      d.calMatches = false) ∧
    (∃ d : Dev, (((d.sfld (pg .rtc) F.RTC.TRIM_PPM).natAbs * 32) = 0 ∨ d.flag (pg .rtc) F.RTC.STATUS_ON_RC = true)) ∧
    (∃ d : Dev, 0 < ((d.sfld (pg .rtc) F.RTC.TRIM_PPM).natAbs * 32) ∧ d.flag (pg .rtc) F.RTC.STATUS_ON_RC = false ∧ d.cel.trimAcc < 10000000) := by
  refine ⟨⟨({ ({} : Dev) with cel.transit := [((pg .rtc), (.ctrl : Master), R.RTC.CMD, 1)] } : Dev), .ctrl, ?_⟩,
    ⟨({ ({} : Dev) with cel.transit := [(pg .cellar, (.ctrl : Master), 0, 0)] } : Dev), .ctrl, 0, 0, ?_⟩,
    ⟨({ ({} : Dev) with cel.transit := [] } : Dev), .ctrl, ?_⟩,
    ⟨({} : Dev), .ctrl, ?_⟩,
    ⟨({} : Dev), ?_⟩,
    ⟨(({} : Dev).setFlag (pg .rtc) F.RTC.STATUS_COMMIT_PEND false), ?_⟩,
    ⟨(({} : Dev).setFlag (pg .rtc) F.RTC.STATUS_COMMIT_PEND true), ?_⟩,
    ⟨((({} : Dev).setFlag (pg .rtc) F.RTC.STATUS_COMMIT_PEND true).setFld (pg .rtc) F.RTC.STAGE_SEC_SEC 60), ?_⟩,
    ⟨(({ ((((({} : Dev).setFlag (pg .rtc) F.RTC.ALARM_CFG_CAL_EN true).setFlag (pg .rtc) F.RTC.ALARM_CFG_LIN_EN false).setFlag (pg .rtc) F.RTC.ALARM_CFG_CAL_WAKE false).setFlag (pg .rtc) F.RTC.ALARM_CFG_CAL_PWRON false) with cel.calMatch := false } : Dev).setFlag (pg .rtc) F.RTC.STATUS_CAL_VALID true),
  ?_⟩,
    ⟨(((({ ((((({} : Dev).setFlag (pg .rtc) F.RTC.ALARM_CFG_CAL_EN true).setFlag (pg .rtc) F.RTC.ALARM_CFG_LIN_EN false).setFlag (pg .rtc) F.RTC.ALARM_CFG_CAL_WAKE false).setFlag (pg .rtc) F.RTC.ALARM_CFG_CAL_PWRON false) with cel.calMatch := false } : Dev).setFlag (pg .rtc) F.RTC.STATUS_CAL_VALID true).setFld (pg .rtc) F.RTC.ALARM_CFG_MATCH 1).setFld (pg .rtc) F.RTC.ALARM_TIME_SEC 5),
  ?_⟩,
    ⟨({} : Dev), ?_⟩,
    ⟨((({} : Dev).setFlag (pg .rtc) F.RTC.STATUS_ON_RC false).setFld (pg .rtc) F.RTC.TRIM_PPM 1), ?_⟩⟩
  all_goals and_intros
  all_goals first | exact test_canWrite (by decide +kernel) | exact test_canRead (by decide +kernel) | decide +kernel

theorem test_RateMeasurementRuns_holds_somewhere :
    (∃ d : Dev, ∃ m : Master, ∃ w : Word, d.CanWrite m .rtc 0 R.RTC.TRIM ∧ d.cel.transit = [] ∧ -2000 ≤ (toSigned 16 (bitsOf w.toNat 0 16)) ∧
      (toSigned 16 (bitsOf w.toNat 0 16)) ≤ 2000) ∧
    (∃ d : Dev, ∃ m : Master, ∃ w : Word, d.CanWrite m .rtc 0 R.RTC.TRIM ∧ d.cel.transit = [] ∧
      ((toSigned 16 (bitsOf w.toNat 0 16)) < -2000 ∨ 2000 < (toSigned 16 (bitsOf w.toNat 0 16)))) ∧
    (∃ d : Dev, ∃ m : Master, d.CanWrite m .rtc 0 R.RTC.CMD ∧ d.cel.transit = [] ∧ d.flag (pg .rtc) F.RTC.STATUS_MEAS_RUN = false) ∧
    (∃ d : Dev, ∃ m : Master, d.CanWrite m .rtc 0 R.RTC.CMD ∧ d.cel.transit = [] ∧ d.flag (pg .rtc) F.RTC.STATUS_MEAS_RUN = true ∧
      d.fld (pg .rtc) F.RTC.MEAS_CFG_SRC = 1 ∧ d.cel.meas.opened = false) ∧
    (∃ d : Dev, ∃ m : Master, d.CanWrite m .rtc 0 R.RTC.CMD ∧ d.cel.transit = [] ∧ d.flag (pg .rtc) F.RTC.STATUS_MEAS_RUN = true ∧
      d.fld (pg .rtc) F.RTC.MEAS_CFG_SRC = 1 ∧ d.cel.meas.opened = true ∧
      d.cel.meas.ref + d.fld (pg .rtc) F.RTC.MEAS_CFG_MIN_SPAN * 10000000000 ≤ d.nref) ∧
    (∃ d : Dev, (d.flag (pg .rtc) F.RTC.STATUS_MEAS_RUN = false ∨ d.cel.meas.opened = false)) ∧
    (∃ d : Dev, d.flag (pg .rtc) F.RTC.STATUS_MEAS_RUN = true ∧ d.cel.meas.opened = true ∧ d.fld (pg .rtc) F.RTC.MEAS_CFG_SRC = 0 ∧
      (d.cel.meas.lost = true ∨ d.gridGood = false)) ∧
    (∃ d : Dev, ∃ n : Word, d.flag (pg .rtc) F.RTC.STATUS_MEAS_RUN = true ∧ d.cel.meas.opened = true ∧ d.fld (pg .rtc) F.RTC.MEAS_CFG_SRC = 0 ∧
      d.cel.meas.lost = false ∧ d.gridGood = true ∧
      2 ^ d.fld (pg .rtc) F.RTC.MEAS_CFG_WIN_LOG ≤ sub32 (d.reg (pg .timebase) R.TIMEBASE.FOLIO).toNat d.cel.meas.folio.toNat ∧
      d.flag (pg .rtc) F.RTC.MEAS_CFG_AUTO = false ∧ d.cel.meas.onRc = false ∧
      (divRound (((n.toNat * (if d.flag (pg .rtc) F.RTC.MEAS_CFG_NOM then 60 else 50) : Nat) : Int) * 10000000 - (((2 ^ d.fld (pg .rtc) F.RTC.MEAS_CFG_WIN_LOG * 32768 * 65536 : Nat)) : Int) * 10000000) ((2 ^ d.fld (pg .rtc) F.RTC.MEAS_CFG_WIN_LOG * 32768 * 65536 : Nat))).natAbs ≤ 5000) := by
  refine ⟨⟨({ ({} : Dev) with cel.transit := [] } : Dev), .ctrl, 0, ?_⟩,
    ⟨({ ({} : Dev) with cel.transit := [] } : Dev), .ctrl, 2001, ?_⟩,
    ⟨({ (({} : Dev).setFlag (pg .rtc) F.RTC.STATUS_MEAS_RUN false) with cel.transit := [] } : Dev), .ctrl, ?_⟩,
    ⟨({ ({ ((({} : Dev).setFlag (pg .rtc) F.RTC.STATUS_MEAS_RUN true).setFld (pg .rtc) F.RTC.MEAS_CFG_SRC (1)) with cel.transit := [] } : Dev) with cel.meas.opened := false } : Dev),
  .ctrl, ?_⟩,
    ⟨((((({} : Dev).modCel (fun c => { c with meas.opened := true })).setFlag (pg .rtc) F.RTC.STATUS_MEAS_RUN true).setFld (pg .rtc) F.RTC.MEAS_CFG_SRC 1).setFld (pg .rtc) F.RTC.MEAS_CFG_MIN_SPAN 0),
  .ctrl, ?_⟩,
    ⟨(({} : Dev).setFlag (pg .rtc) F.RTC.STATUS_MEAS_RUN false), ?_⟩,
    ⟨({ ({ ((({} : Dev).setFlag (pg .rtc) F.RTC.STATUS_MEAS_RUN true).setFld (pg .rtc) F.RTC.MEAS_CFG_SRC (0)) with cel.meas.opened := true } : Dev) with cel.meas.lost := true } : Dev),
  ?_⟩,
    ⟨(((((((((({} : Dev).setFld (pg .sys) F.SYS.STATE_STATE 3).setFlag (pg .rtc) F.RTC.STATUS_MEAS_RUN true).setFlag (pg .timebase) F.HDR.CTRL_ENABLE true).setFld (pg .timebase) F.TIMEBASE.SRC_STATUS_ACTIVE 1).setFlag (pg .timebase) F.TIMEBASE.SRC_STATUS_PLL_LOCK true).setFlag (pg .rtc) F.RTC.MEAS_CFG_AUTO false).modCel (fun c => { c with meas.opened := true })).setFld (pg .rtc) F.RTC.MEAS_CFG_WIN_LOG 0).setReg (pg .timebase) R.TIMEBASE.FOLIO 1),
  42949673, ?_⟩⟩
  all_goals and_intros
  all_goals first | exact test_canWrite (by decide +kernel) | exact test_canRead (by decide +kernel) | decide +kernel

theorem test_WakeRuns_holds_somewhere :
    (∃ d : Dev, ∃ i : Fin 4, ∃ held : BitVec 8, held.toNat < bitsOf ((d.reg (pg .cellar) (R.CELLAR.WAKE_CFG + 4 * i.val)).toNat) 8 8) ∧
    (∃ d : Dev, ∃ i : Fin 4, ∃ held : BitVec 8, bitsOf ((d.reg (pg .cellar) (R.CELLAR.WAKE_CFG + 4 * i.val)).toNat) 8 8 ≤ held.toNat ∧
      bitAt ((d.reg (pg .cellar) (R.CELLAR.WAKE_CFG + 4 * i.val)).toNat) 0 = false) ∧
    (∃ d : Dev, ∃ i : Fin 4, ∃ held : BitVec 8, bitsOf ((d.reg (pg .cellar) (R.CELLAR.WAKE_CFG + 4 * i.val)).toNat) 8 8 ≤ held.toNat ∧
      bitAt ((d.reg (pg .cellar) (R.CELLAR.WAKE_CFG + 4 * i.val)).toNat) 0 = true ∧
      bitsOf ((d.reg (pg .cellar) (R.CELLAR.WAKE_CFG + 4 * i.val)).toNat) 1 3 = 0) ∧
    (∃ d : Dev, ∃ i : Fin 4, ∃ held : BitVec 8, bitsOf ((d.reg (pg .cellar) (R.CELLAR.WAKE_CFG + 4 * i.val)).toNat) 8 8 ≤ held.toNat ∧
      bitAt ((d.reg (pg .cellar) (R.CELLAR.WAKE_CFG + 4 * i.val)).toNat) 0 = true ∧
      bitsOf ((d.reg (pg .cellar) (R.CELLAR.WAKE_CFG + 4 * i.val)).toNat) 1 3 = 1) ∧
    (∃ d : Dev, ∃ i : Fin 4, ∃ held : BitVec 8, bitsOf ((d.reg (pg .cellar) (R.CELLAR.WAKE_CFG + 4 * i.val)).toNat) 8 8 ≤ held.toNat ∧
      bitAt ((d.reg (pg .cellar) (R.CELLAR.WAKE_CFG + 4 * i.val)).toNat) 0 = true ∧
      bitsOf ((d.reg (pg .cellar) (R.CELLAR.WAKE_CFG + 4 * i.val)).toNat) 1 3 = 2) ∧
    (∃ d : Dev, ∃ i : Fin 4, ∃ held : BitVec 8, bitsOf ((d.reg (pg .cellar) (R.CELLAR.WAKE_CFG + 4 * i.val)).toNat) 8 8 ≤ held.toNat ∧
      bitAt ((d.reg (pg .cellar) (R.CELLAR.WAKE_CFG + 4 * i.val)).toNat) 0 = true ∧
      bitsOf ((d.reg (pg .cellar) (R.CELLAR.WAKE_CFG + 4 * i.val)).toNat) 1 3 = 3) ∧
    (∃ d : Dev, ∃ i : Fin 4, ∃ held : BitVec 8, bitsOf ((d.reg (pg .cellar) (R.CELLAR.WAKE_CFG + 4 * i.val)).toNat) 8 8 ≤ held.toNat ∧
      bitAt ((d.reg (pg .cellar) (R.CELLAR.WAKE_CFG + 4 * i.val)).toNat) 0 = true ∧
      bitsOf ((d.reg (pg .cellar) (R.CELLAR.WAKE_CFG + 4 * i.val)).toNat) 1 3 = 4) ∧
    (∃ d : Dev, ∃ held : BitVec 8, held.toNat < d.fld (pg .cellar) F.CELLAR.PILOT_WAKE_DEB) ∧
    (∃ mv : BitVec 16, 10500 ≤ mv.toInt ∧ mv.toInt ≤ 11000) ∧
    (∃ d : Dev, ∃ mv : BitVec 16, d.flag (pg .cellar) F.CELLAR.STATUS_PILOT_A = (decide (11000 < mv.toInt))) ∧
    (∃ d : Dev, ∃ mv : BitVec 16, ∃ held : BitVec 8, d.fld (pg .cellar) F.CELLAR.PILOT_WAKE_DEB ≤ held.toNat ∧
      (mv.toInt < 10500 ∨ 11000 < mv.toInt) ∧ d.flag (pg .cellar) F.CELLAR.STATUS_PILOT_A ≠ (decide (11000 < mv.toInt)) ∧
      d.flag (pg .cellar) F.CELLAR.PILOT_WAKE_EN = false) ∧
    (∃ d : Dev, ∃ mv : BitVec 16, ∃ held : BitVec 8, d.fld (pg .cellar) F.CELLAR.PILOT_WAKE_DEB ≤ held.toNat ∧
      (mv.toInt < 10500 ∨ 11000 < mv.toInt) ∧ d.flag (pg .cellar) F.CELLAR.STATUS_PILOT_A ≠ (decide (11000 < mv.toInt)) ∧
      d.flag (pg .cellar) F.CELLAR.PILOT_WAKE_EN = true ∧
      ((d.fld (pg .cellar) F.CELLAR.PILOT_WAKE_DIR) = 2 ∨ (d.fld (pg .cellar) F.CELLAR.PILOT_WAKE_DIR) = b2n (decide (11000 < mv.toInt)))) ∧
    (∃ d : Dev, ∃ mv : BitVec 16, ∃ held : BitVec 8, d.fld (pg .cellar) F.CELLAR.PILOT_WAKE_DEB ≤ held.toNat ∧
      (mv.toInt < 10500 ∨ 11000 < mv.toInt) ∧ d.flag (pg .cellar) F.CELLAR.STATUS_PILOT_A ≠ (decide (11000 < mv.toInt)) ∧
      (d.fld (pg .cellar) F.CELLAR.PILOT_WAKE_DIR) ≠ 2 ∧ (d.fld (pg .cellar) F.CELLAR.PILOT_WAKE_DIR) ≠ b2n (decide (11000 < mv.toInt))) ∧
    (∃ d : Dev, ∃ b, b < 16 ∧ d.state = 1 ∧ d.cel.holdOff = false ∧ d.cel.wakeDue = 0) ∧
    (∃ d : Dev, ∃ m : Master, d.CanWrite m .cellar 0 R.CELLAR.PWRON_CTRL ∧ d.cel.transit = []) ∧
    (∃ d : Dev, d.pwronPulse = true ∧ (d.cel.pwronAt + 400000 * d.fld (pg .cellar) F.CELLAR.PWRON_PULSE_WIDTH) ≤ d.now) ∧
    (∃ d : Dev, (d.pwronPulse = false ∨ d.now < (d.cel.pwronAt + 400000 * d.fld (pg .cellar) F.CELLAR.PWRON_PULSE_WIDTH))) := by
  refine ⟨⟨(({} : Dev).setReg (pg .cellar) R.CELLAR.WAKE_CFG 65280), 0, 0, ?_⟩,
    ⟨(({} : Dev).setReg (pg .cellar) R.CELLAR.WAKE_CFG 0), 0, 255, ?_⟩,
    ⟨(({} : Dev).setReg (pg .cellar) R.CELLAR.WAKE_CFG 1), 0, 255, ?_⟩,
    ⟨(({} : Dev).setReg (pg .cellar) R.CELLAR.WAKE_CFG 3), 0, 255, ?_⟩,
    ⟨(({} : Dev).setReg (pg .cellar) R.CELLAR.WAKE_CFG 5), 0, 255, ?_⟩,
    ⟨(({} : Dev).setReg (pg .cellar) R.CELLAR.WAKE_CFG 7), 0, 255, ?_⟩,
    ⟨(({} : Dev).setReg (pg .cellar) R.CELLAR.WAKE_CFG 9), 0, 255, ?_⟩,
    ⟨({} : Dev), 0, ?_⟩,
    ⟨10500, ?_⟩,
    ⟨(({} : Dev).setFlag (pg .cellar) F.CELLAR.STATUS_PILOT_A false), 0, ?_⟩,
    ⟨(({} : Dev).setFlag (pg .cellar) F.CELLAR.PILOT_WAKE_EN false), 12000, 255, ?_⟩,
    ⟨(((({} : Dev).setFlag (pg .cellar) F.CELLAR.PILOT_WAKE_EN true).setFlag (pg .cellar) F.CELLAR.PILOT_WAKE_EN true).setFld (pg .cellar) F.CELLAR.PILOT_WAKE_DIR 1),
  12000, 255, ?_⟩,
    ⟨((({} : Dev).setFlag (pg .cellar) F.CELLAR.PILOT_WAKE_EN true).setFld (pg .cellar) F.CELLAR.PILOT_WAKE_DIR 0), 12000, 255, ?_⟩,
    ⟨({ ({ (({} : Dev).setFld (pg .sys) F.SYS.STATE_STATE 1) with cel.holdOff := false } : Dev) with cel.wakeDue := 0 } : Dev), 15, ?_⟩,
    ⟨({ ({} : Dev) with cel.transit := [] } : Dev), .ctrl, ?_⟩,
    ⟨({ (({} : Dev).setFlag (pg .cellar) F.CELLAR.POLICY_PWRON_MODE true) with now := 10000000000000 } : Dev), ?_⟩,
    ⟨({} : Dev), ?_⟩⟩
  all_goals and_intros
  all_goals first | exact test_canWrite (by decide +kernel) | exact test_canRead (by decide +kernel) | decide +kernel

theorem test_RaisingReacts_holds_somewhere :
    (∃ d : Dev, d.islandOn = false) ∧
    (∃ d : Dev, ∃ k : PageKind, ∃ i : Nat, ∃ b : Nat, d.active (srcNo k i b) = true) ∧
    (∃ d : Dev, ∃ k : PageKind, ∃ i : Nat, ∃ b : Nat, d.islandOn = true ∧ d.state ≠ 6 ∧ d.sevOf (srcNo k i b) ≤ 1 ∧
      (d.fc.pend.any (fun e => e.src == (srcNo k i b))) = false) ∧
    (∃ d : Dev, ∃ k : PageKind, ∃ i : Nat, ∃ b : Nat, pg k i < 256 ∧ b < 32 ∧ d.islandOn = true ∧ d.state = 6) ∧
    (∃ d : Dev, ∃ k : PageKind, ∃ i : Nat, ∃ b : Nat, ∃ g, pg k i < 256 ∧ b < 32 ∧ d.state = 4 ∧ d.sevOf (srcNo k i b) = 3 ∧ g < 8) ∧
    (∃ d : Dev, ∃ k : PageKind, ∃ i : Nat, ∃ b : Nat, ∃ t, pg k i < 256 ∧ b < 32 ∧ (d.state = 3 ∨ d.state = 4) ∧ 4 ≤ d.sevOf (srcNo k i b) ∧ t < 24) ∧
    (∃ d : Dev, ∃ k : PageKind, ∃ i : Nat, ∃ b : Nat, ∃ g, pg k i < 256 ∧ b < 32 ∧ (d.state = 3 ∨ d.state = 4) ∧ 4 ≤ d.sevOf (srcNo k i b) ∧ g < 8) := by
  refine ⟨⟨(({} : Dev).setFld (pg .sys) F.SYS.STATE_STATE 1), ?_⟩,
    ⟨(({} : Dev).setActive (srcNo .tile 0 0) true), .tile, 0, 0, ?_⟩,
    ⟨({} : Dev), .tile, 0, 0, ?_⟩,
    ⟨(({} : Dev).setFld (pg .sys) F.SYS.STATE_STATE 6), .tile, 0, 0, ?_⟩,
    ⟨((({} : Dev).setFld (pg .sys) F.SYS.STATE_STATE 4).setFld (pg .fault) ⟨R.FAULT.SEV + 4 * (srcNo .tile 0 0 / 8), 4 * (srcNo .tile 0 0 % 8), 3⟩ 3),
  .tile, 0, 0, 0, ?_⟩,
    ⟨((({} : Dev).setFld (pg .sys) F.SYS.STATE_STATE 3).setFld (pg .fault) ⟨R.FAULT.SEV + 4 * (srcNo .tile 0 0 / 8), 4 * (srcNo .tile 0 0 % 8), 3⟩ 4),
  .tile, 0, 0, 0, ?_⟩,
    ⟨((({} : Dev).setFld (pg .sys) F.SYS.STATE_STATE 3).setFld (pg .fault) ⟨R.FAULT.SEV + 4 * (srcNo .tile 0 0 / 8), 4 * (srcNo .tile 0 0 % 8), 3⟩ 4),
  .tile, 0, 0, 0, ?_⟩⟩
  all_goals and_intros
  all_goals first | exact test_canWrite (by decide +kernel) | exact test_canRead (by decide +kernel) | decide +kernel

theorem test_FaultRecordingRuns_holds_somewhere :
    (∃ d : Dev, d.islandOn = false) ∧
    (∃ d : Dev, ∃ src : Fin 512, ∃ k : PageKind, ∃ i : Nat, ∃ b : Nat, d.islandOn = true ∧ sourceOf src.val = some (k, i, b) ∧ (k ≠ .scaolo ∨ b ≤ 8)) ∧
    (∃ d : Dev, d.fc.pend = []) ∧
    (∃ d : Dev, ∃ e : FaultEvent, ∃ x : FaultEvent, d.nextRecord = some e ∧ x ∈ d.fc.pend) ∧
    (∃ d : Dev, d.fc.pend ≠ []) ∧
    (∃ d : Dev, ∃ e : FaultEvent, d.islandOn = true ∧ d.nextRecord = some e ∧ d.histWr = d.histRd ∧ d.fc.reps.lookup e.src = none) ∧
    (∃ d : Dev, ∃ m : Master, ∃ w : Word, d.CanWrite m .fault 0 R.FAULT.HIST_RD ∧ sub32 w.toNat d.histRd ≤ sub32 d.histWr d.histRd) ∧
    (∃ d : Dev, ∃ m : Master, ∃ w : Word, d.CanWrite m .fault 0 R.FAULT.HIST_RD ∧ sub32 d.histWr d.histRd < sub32 w.toNat d.histRd) ∧
    (∃ d : Dev, ∃ m : Master, ∃ i : Fin 48, d.CanWrite m .fault 0 (R.FAULT.SEV + 4 * i.val) ∧ d.lockSet (pg .fault) = false) ∧
    (∃ d : Dev, ∃ m : Master, ∃ i : Fin 48, ∃ w : Word, d.CanWrite m .fault 0 (R.FAULT.SEV + 4 * i.val) ∧ d.lockSet (pg .fault) = true ∧
      w &&& 0x77777777 ≠ d.reg (pg .fault) (R.FAULT.SEV + 4 * i.val)) ∧
    (∃ d : Dev, ∃ m : Master, d.CanWrite m .fault 0 R.FAULT.CMD ∧ d.state = 4) ∧
    (∃ d : Dev, ∃ m : Master, ∃ src : Fin 512, ∃ k : PageKind, ∃ i : Nat, ∃ b : Nat, d.CanWrite m .fault 0 R.FAULT.CMD ∧ d.state ≠ 4 ∧
      sourceOf src.val = some (k, i, b) ∧ (k ≠ .scaolo ∨ b ≤ 8) ∧ (d.armedHolds && !(d.raise k i b 0).armedHolds) = false) ∧
    (∃ d : Dev, ∃ m : Master, ∃ src : Fin 512, d.CanWrite m .fault 0 R.FAULT.CMD ∧ sourceOf src.val = none) := by
  refine ⟨⟨(({} : Dev).setFld (pg .sys) F.SYS.STATE_STATE 1), ?_⟩,
    ⟨({} : Dev), 0, (((sourceOf 0).getD (.tile, 0, 0)).1), (((sourceOf 0).getD (.tile, 0, 0)).2.1), (((sourceOf 0).getD (.tile, 0, 0)).2.2), ?_⟩,
    ⟨({ ({} : Dev) with fc.pend := [] } : Dev), ?_⟩,
    ⟨((({} : Dev).setFld (pg .sys) F.SYS.STATE_STATE 3).modFc (fun f => { f with pend := [⟨0, 0, 0, 0, 0, false⟩] })), ⟨0, 0, 0, 0, 0, false⟩, ⟨0, 0, 0,
  0, 0, false⟩, ?_⟩,
    ⟨(({} : Dev).modFc (fun f => { f with pend := [⟨0, 0, 0, 0, 0, false⟩] })), ?_⟩,
    ⟨((({} : Dev).setFld (pg .sys) F.SYS.STATE_STATE 3).modFc (fun f => { f with pend := [⟨0, 0, 0, 0, 0, false⟩] })), ⟨0, 0, 0, 0, 0, false⟩, ?_⟩,
    ⟨({} : Dev), .ctrl, 0, ?_⟩,
    ⟨({} : Dev), .ctrl, 1, ?_⟩,
    ⟨({} : Dev), .ctrl, 0, ?_⟩,
    ⟨((({} : Dev).setFlag (pg .fault) F.HDR.LOCK_LOCK true).setReg (pg .fault) R.FAULT.SEV 1), .ctrl, 0, 0, ?_⟩,
    ⟨(({} : Dev).setFld (pg .sys) F.SYS.STATE_STATE 4), .ctrl, ?_⟩,
    ⟨({} : Dev), .ctrl, 0, (((sourceOf 0).getD (.tile, 0, 0)).1), (((sourceOf 0).getD (.tile, 0, 0)).2.1), (((sourceOf 0).getD (.tile, 0, 0)).2.2), ?_⟩,
    ⟨({} : Dev), .ctrl, 511, ?_⟩⟩
  all_goals and_intros
  all_goals first | exact test_canWrite (by decide +kernel) | exact test_canRead (by decide +kernel) | decide +kernel

theorem test_RecoveryRuns_holds_somewhere :
    (∃ d : Dev, (d.state ≠ 5 ∨ d.quietDue = false ∨ d.safeActive = true ∨ d.fc.backup = true)) ∧
    (∃ d : Dev, d.state = 5 ∧ d.quietDue = true ∧ d.safeActive = false ∧ d.fc.backup = false ∧
      d.fld (pg .fault) F.FAULT.RECOV_STATUS_COUNT < d.fld (pg .fault) F.FAULT.RECOV_CFG_MAX ∧ d.fld (pg .sys) F.SYS.STATE_PREV ≠ 2 ∧
      d.flag (pg .seq) F.SEQ.SEQ_STATUS_OFF_REQ = false) ∧
    (∃ d : Dev, d.state = 5 ∧ d.quietDue = true ∧ d.safeActive = false ∧ d.fc.backup = false ∧
      d.fld (pg .fault) F.FAULT.RECOV_STATUS_COUNT < d.fld (pg .fault) F.FAULT.RECOV_CFG_MAX ∧ d.fld (pg .sys) F.SYS.STATE_PREV = 2) ∧
    (∃ d : Dev, d.state = 5 ∧ d.quietDue = true ∧ d.safeActive = false ∧ d.fc.backup = false ∧
      d.fld (pg .fault) F.FAULT.RECOV_CFG_MAX ≤ d.fld (pg .fault) F.FAULT.RECOV_STATUS_COUNT) ∧
    (∃ d : Dev, ∃ t, d.fc.quietSince = some t) ∧
    (∃ d : Dev, d.fc.quietSince = none) ∧
    (∃ d : Dev, d.islandOn = true ∧ (d.fc.windowFrom + 400000000 * d.fld (pg .fault) F.FAULT.RECOV_CFG_WINDOW) ≤ d.now) ∧
    (∃ d : Dev, d.islandOn = true ∧ d.now < (d.fc.windowFrom + 400000000 * d.fld (pg .fault) F.FAULT.RECOV_CFG_WINDOW)) ∧
    (∃ d : Dev, d.islandOn = true ∧ (d.fc.checks = [] ∨ (∃ t, d.fc.checks.head? = some t ∧ d.now < t + 35643)) ∧ d.fc.cmdReset = false) ∧
    (∃ d : Dev, ∃ t : Nat, ∃ l : List Nat, d.islandOn = true ∧ d.fc.checks = t :: l ∧ t + 35643 ≤ d.now ∧ ((∀ n < 24, d.tstate n ≠ 3)) ∧
      d.fc.cmdReset = false) ∧
    (∃ d : Dev, ∃ t : Nat, ∃ l : List Nat, d.islandOn = true ∧ d.fc.checks = t :: l ∧ t + 35643 ≤ d.now ∧ ((∀ n < 24, d.tstate n ≠ 3)) ∧
      d.fc.cmdReset = true ∧ l = []) ∧
    (∃ d : Dev, ∃ t : Nat, ∃ l : List Nat, ∃ a : Bool, ∃ b : Bool, ∃ c : Bool, d.islandOn = true ∧ d.fc.checks = t :: l ∧ t + 35643 ≤ d.now ∧
      (d.checkFailed a b c) ≠ 0 ∧ d.fc.cmdReset = false ∧
      ((d.modFc (fun f => { f with checks := l })).backupReaction (d.checkFailed a b c)).fc.cmdReset = false) ∧
    (∃ d : Dev, ∃ t : Nat, ∃ l : List Nat, ∃ a : Bool, ∃ b : Bool, ∃ c : Bool, d.islandOn = true ∧ d.fc.checks = t :: l ∧ t + 35643 ≤ d.now ∧
      (d.checkFailed a b c) ≠ 0 ∧ d.fc.cmdReset = true ∧
      ((((d.modFc (fun f => { f with checks := l })).modFc (fun f => { f with cmdReset := false })).refuseCmd 0x20).backupReaction (d.checkFailed a b c)).fc.cmdReset = false) ∧
    (∃ d : Dev, (d.fc.resetDue = false ∨ d.fc.pend ≠ [] ∨ d.fc.checks ≠ [] ∨ d.fc.backup = true ∨ d.now < d.fc.resetAt + 4000)) ∧
    (∃ d : Dev, d.islandOn = true ∧ d.fc.resetDue = true ∧ d.fc.pend = [] ∧ d.fc.checks = [] ∧ d.fc.backup = false ∧ d.fc.resetAt + 4000 ≤ d.now) := by
  refine ⟨⟨(({} : Dev).setFld (pg .sys) F.SYS.STATE_STATE 3), ?_⟩,
    ⟨(((({ (({ ((({} : Dev).setFld (pg .sys) F.SYS.STATE_STATE 5).setFlag (pg .seq) F.SEQ.SEQ_STATUS_OFF_REQ false) with fc.backup := false } : Dev).modFc (fun f => { f with quietSince := some 0 })) with now := 10000000000000 } : Dev)).setFld (pg .fault) F.FAULT.RECOV_CFG_MAX 1).setFld (pg .sys) F.SYS.STATE_PREV 3),
  ?_⟩,
    ⟨(((({ (({ ((({} : Dev).setFld (pg .sys) F.SYS.STATE_STATE 5).setFld (pg .sys) F.SYS.STATE_PREV (2)) with fc.backup := false } : Dev).modFc (fun f => { f with quietSince := some 0 })) with now := 10000000000000 } : Dev)).setFld (pg .fault) F.FAULT.RECOV_CFG_MAX 1).setFld (pg .sys) F.SYS.STATE_PREV 2),
  ?_⟩,
    ⟨((({ (({ (({} : Dev).setFld (pg .sys) F.SYS.STATE_STATE 5) with fc.backup := false } : Dev).modFc (fun f => { f with quietSince := some 0 })) with now := 10000000000000 } : Dev)).setFld (pg .fault) F.FAULT.RECOV_CFG_MAX 0),
  ?_⟩,
    ⟨({ ({} : Dev) with fc.quietSince := some 0 } : Dev), 0, ?_⟩,
    ⟨({ ({} : Dev) with fc.quietSince := none } : Dev), ?_⟩,
    ⟨({ ({} : Dev) with now := 10000000000000 } : Dev), ?_⟩,
    ⟨({} : Dev), ?_⟩,
    ⟨({ ({} : Dev) with fc.cmdReset := false } : Dev), ?_⟩,
    ⟨({ (({ ((({} : Dev).setFld (pg .sys) F.SYS.STATE_STATE 3).modFc (fun f => { f with checks := [0] })) with now := 10000000000000 } : Dev)) with now := 10000000000000 } : Dev),
  0, [], ?_⟩,
    ⟨({ ((({ ((({} : Dev).setFld (pg .sys) F.SYS.STATE_STATE 3).modFc (fun f => { f with checks := [0] })) with now := 10000000000000 } : Dev)).modFc (fun f => { f with cmdReset := true })) with now := 10000000000000 } : Dev),
  0, [], ?_⟩,
    ⟨({ (({ ((({} : Dev).setFld (pg .sys) F.SYS.STATE_STATE 3).modFc (fun f => { f with checks := [0] })) with now := 10000000000000 } : Dev)) with now := 10000000000000 } : Dev),
  0, [], false, false, false, ?_⟩,
    ⟨({ ((({ ((({} : Dev).setFld (pg .sys) F.SYS.STATE_STATE 3).modFc (fun f => { f with checks := [0] })) with now := 10000000000000 } : Dev)).modFc (fun f => { f with cmdReset := true })) with now := 10000000000000 } : Dev),
  0, [], false, false, false, ?_⟩,
    ⟨({ ({} : Dev) with fc.resetDue := false } : Dev), ?_⟩,
    ⟨({ ({ ({ ({ ({ ({} : Dev) with fc.resetDue := true } : Dev) with fc.pend := [] } : Dev) with fc.checks := [] } : Dev) with fc.backup := false } : Dev) with now := 10000000000000 } : Dev),
  ?_⟩⟩
  all_goals and_intros
  all_goals first | exact test_canWrite (by decide +kernel) | exact test_canRead (by decide +kernel) | decide +kernel

theorem test_IslandChecksRun_holds_somewhere :
    (∃ d : Dev, d.islandOn = false) ∧
    (∃ d : Dev, d.islandOn = true ∧ ((∀ w < 48, d.sevCopyWord w = d.reg (pg .fault) (R.FAULT.SEV + 4 * w)))) ∧
    (∃ d : Dev, ∃ w : Nat, d.islandOn = true ∧ w < 48 ∧ d.sevCopyWord w ≠ d.reg (pg .fault) (R.FAULT.SEV + 4 * w) ∧ ((∀ v < w,
      d.sevCopyWord v = d.reg (pg .fault) (R.FAULT.SEV + 4 * v)))) ∧
    (∃ d : Dev, ∃ diff : BitVec 16, d.islandOn = true ∧ diff.toNat ≤ 20) ∧
    (∃ d : Dev, ∃ diff : BitVec 16, d.islandOn = true ∧ 20 < diff.toNat ∧ d.fc.refDiffs < 2) ∧
    (∃ d : Dev, ∃ diff : BitVec 16, d.islandOn = true ∧ 20 < diff.toNat ∧ 2 ≤ d.fc.refDiffs) ∧
    (∃ d : Dev, d.islandOn = true ∧ d.faultN = false) ∧
    (∃ d : Dev, d.islandOn = true ∧ d.faultN = true) ∧
    (∃ d : Dev, d.islandOn = true ∧ d.state = 2 ∧ (d.phase = 0 ∨ d.phase = 9) ∧ d.fc.selftestRun = false ∧ d.seq.upDue = false) ∧
    (∃ d : Dev, d.islandOn = true ∧ (d.state ≠ 2 ∨ (d.phase ≠ 0 ∧ d.phase ≠ 9) ∨ d.fc.selftestRun = true ∨ d.seq.upDue = true)) ∧
    (∃ d : Dev, ∃ i : Nat, d.islandOn = true ∧ d.fc.selftestRun = true ∧ i < 10 ∧ i ≠ 0 ∧ i ≠ 3 ∧ i ≠ 7) ∧
    (∃ d : Dev, ∃ x : BitVec 10, ∃ y : BitVec 17, d.islandOn = true ∧ d.fc.selftestRun = true ∧ (d.testsFailed x.toNat y.toNat) = 0) ∧
    (∃ d : Dev, ∃ x : BitVec 10, ∃ y : BitVec 17, d.islandOn = true ∧ d.fc.selftestRun = true ∧ (d.testsFailed x.toNat y.toNat) ≠ 0) ∧
    (∃ d : Dev, ∃ n : Fin 24, d.busLive = true ∧ (¬(d.tstate n.val ≠ 3 ∧ ((d.state = 2 ∧
      vget d.fc.ptBoot n.val false = false) ∨ (d.flag (pg .scaolo) F.SCAOLO.PATHTEST_CFG_EN = true ∧
      vget d.fc.ptLast n.val 0 + 400000 * d.fld (pg .scaolo) F.SCAOLO.PATHTEST_CFG_INTERVAL ≤ d.now))))) ∧
    (∃ d : Dev, ∃ n : Fin 24, d.busLive = true ∧ ((d.tstate n.val ≠ 3 ∧ ((d.state = 2 ∧
      vget d.fc.ptBoot n.val false = false) ∨ (d.flag (pg .scaolo) F.SCAOLO.PATHTEST_CFG_EN = true ∧
      vget d.fc.ptLast n.val 0 + 400000 * d.fld (pg .scaolo) F.SCAOLO.PATHTEST_CFG_INTERVAL ≤ d.now))))) ∧
    (∃ d : Dev, ∃ m : Master, d.CanWrite m .scaolo 0 R.SCAOLO.ARM ∧ d.armResult = 1) ∧
    (∃ d : Dev, ∃ m : Master, d.CanWrite m .scaolo 0 R.SCAOLO.ARM ∧ d.armResult ≠ 1) ∧
    (∃ d : Dev, ∃ m : Master, d.CanWrite m .scaolo 0 R.SCAOLO.ARM ∧ d.state ≠ 3) ∧
    (∃ d : Dev, ∃ m : Master, d.CanWrite m .scaolo 0 R.SCAOLO.ARM ∧ d.state = 3 ∧ d.flag (pg .scaolo) F.SCAOLO.SELFTEST_PASS = false) := by
  refine ⟨⟨(({} : Dev).setFld (pg .sys) F.SYS.STATE_STATE 1), ?_⟩,
    ⟨({} : Dev), ?_⟩,
    ⟨(({} : Dev).setReg (pg .fault) R.FAULT.SEV 0), 0, ?_⟩,
    ⟨({} : Dev), 0, ?_⟩,
    ⟨({} : Dev), 21, ?_⟩,
    ⟨(({} : Dev).modFc (fun f => { f with refDiffs := 2 })), 21, ?_⟩,
    ⟨((({} : Dev).setFld (pg .sys) F.SYS.STATE_STATE 3).modFc (fun f => { f with faultnLatch := false })), ?_⟩,
    ⟨(({} : Dev).setFld (pg .sys) F.SYS.STATE_STATE 5), ?_⟩,
    ⟨({ ({ ((({} : Dev).setFld (pg .sys) F.SYS.STATE_STATE 2).setFld (pg .seq) F.SEQ.SEQ_STATUS_PHASE (0)) with fc.selftestRun := false } : Dev) with seq.upDue := false } : Dev),
  ?_⟩,
    ⟨(({} : Dev).setFld (pg .sys) F.SYS.STATE_STATE 3), ?_⟩,
    ⟨(({ ({} : Dev) with fc.selftestRun := true } : Dev).modFc (fun f => { f with selftestRun := true })), 9, ?_⟩,
    ⟨(((({ ({} : Dev) with fc.selftestRun := true } : Dev).modFc (fun f => { f with selftestRun := true })).setFlag (pg .tile 0) F.TILE.CAL_STATUS_VALID true).setFld (pg .scaolo) ⟨R.SCAOLO.SELFTEST,
  0, 1⟩ 1), 0, 0, ?_⟩,
    ⟨(({ ({} : Dev) with fc.selftestRun := true } : Dev).modFc (fun f => { f with selftestRun := true })), 2, 0, ?_⟩,
    ⟨(({} : Dev).setFld (pg .sys) F.SYS.STATE_STATE 3), 0, ?_⟩,
    ⟨(({} : Dev).setFld (pg .sys) F.SYS.STATE_STATE 2), 0, ?_⟩,
    ⟨((((((((((({ (({} : Dev).setFld (pg .sys) F.SYS.STATE_STATE 3) with regs := (List.range 48).map (fun i => (regKey (pg .fault) (R.FAULT.SEV + 4 * i), 0x44444444#32)) ++ (({} : Dev).setFld (pg .sys) F.SYS.STATE_STATE 3).regs } : Dev)).setFlag (pg .scaolo) F.SCAOLO.SELFTEST_PASS true).setReg (pg .fault) R.HDR.LOCK 1).setReg (pg .scaolo) R.HDR.LOCK 1).setReg (pg .monadc) R.HDR.LOCK 1).setReg (pg .disch) R.HDR.LOCK 1).setFlag (pg .scaolo) F.SCAOLO.ALIVE_CFG_EN true).setFlag (pg .disch) F.DISCH.STATUS_CHECKED true).setFlag (pg .scaolo) F.SCAOLO.PATHTEST_CFG_EN true).setFld (pg .scaolo) F.SCAOLO.PATHTEST_CFG_INTERVAL 100),
  .ctrl, ?_⟩,
    ⟨({} : Dev), .ctrl, ?_⟩,
    ⟨({} : Dev), .ctrl, ?_⟩,
    ⟨((({} : Dev).setFld (pg .sys) F.SYS.STATE_STATE 3).setFlag (pg .scaolo) F.SCAOLO.SELFTEST_PASS false), .ctrl, ?_⟩⟩
  all_goals and_intros
  all_goals first | exact test_canWrite (by decide +kernel) | exact test_canRead (by decide +kernel) | decide +kernel

theorem test_BootTransfersRun_holds_somewhere :
    (∃ d : Dev, ∃ l : List Byte, d.busLive = true ∧ l.length ≠ 2304) ∧
    (∃ d : Dev, ∃ l : List Byte, d.busLive = true ∧ l.length = 2304 ∧ ¬(d.state = 2 ∧ d.fld (pg .secboot) F.SECBOOT.BOOT_CFG_PATH = 0)) ∧
    (∃ d : Dev, ∃ l : List Byte, d.busLive = true ∧ l.length = 2304 ∧ (d.state = 2 ∧ d.fld (pg .secboot) F.SECBOOT.BOOT_CFG_PATH = 0) ∧
      d.bootState = 1 ∧ d.headerCode (Dev.payloadBytes l) = 0) ∧
    (∃ d : Dev, ∃ l : List Byte, d.busLive = true ∧ l.length = 2304 ∧ (d.state = 2 ∧ d.fld (pg .secboot) F.SECBOOT.BOOT_CFG_PATH = 0) ∧
      d.bootState = 1 ∧ d.headerCode (Dev.payloadBytes l) ≠ 0) ∧
    (∃ d : Dev, ∃ l : List Byte, d.busLive = true ∧ l.length = 2304 ∧ (d.state = 2 ∧ d.fld (pg .secboot) F.SECBOOT.BOOT_CFG_PATH = 0) ∧
      d.bootState = 5) ∧
    (∃ d : Dev, ∃ l : List Byte, d.busLive = true ∧ l.length = 2304 ∧ (d.state = 2 ∧ d.fld (pg .secboot) F.SECBOOT.BOOT_CFG_PATH = 0) ∧
      (d.bootState = 2 ∨ d.bootState = 3)) ∧
    (∃ d : Dev, ∃ l : List Byte, ∃ k : Word, ∃ n : BitVec 16, d.busLive = true ∧ 1 ≤ n.toNat ∧ n.toNat ≤ 16384 ∧ l.length = 4 * n.toNat ∧
      (d.state = 2 ∧ d.fld (pg .secboot) F.SECBOOT.BOOT_CFG_PATH = 0) ∧ d.bootState = 2 ∧ d.fld (pg .secboot) F.SECBOOT.BOOT_STATUS_SEG = k.toNat ∧
      k.toNat < 64 ∧ l.length ≠ Image.segLen (d.boot.hdr) k.toNat) ∧
    (∃ d : Dev, ∃ l : List Byte, ∃ k : Word, ∃ n : BitVec 16, d.busLive = true ∧ 1 ≤ n.toNat ∧ n.toNat ≤ 16384 ∧ l.length = 4 * n.toNat ∧
      (d.state = 2 ∧ d.fld (pg .secboot) F.SECBOOT.BOOT_CFG_PATH = 0) ∧ d.bootState = 2 ∧ d.fld (pg .secboot) F.SECBOOT.BOOT_STATUS_SEG = k.toNat ∧
      k.toNat < 64 ∧ l.length = Image.segLen (d.boot.hdr) k.toNat ∧ Crypto.sha256 (Dev.payloadBytes l) ≠ sub (d.boot.hdr) (0x100 + 32 * k.toNat) 32) ∧
    (∃ d : Dev, ∃ l : List Byte, ∃ k : Word, ∃ n : BitVec 16, d.busLive = true ∧ 1 ≤ n.toNat ∧ n.toNat ≤ 16384 ∧ l.length = 4 * n.toNat ∧
      (d.state = 2 ∧ d.fld (pg .secboot) F.SECBOOT.BOOT_CFG_PATH = 0) ∧ d.bootState = 2 ∧ d.fld (pg .secboot) F.SECBOOT.BOOT_STATUS_SEG = k.toNat ∧
      k.toNat < 64 ∧ l.length = Image.segLen (d.boot.hdr) k.toNat ∧ Crypto.sha256 (Dev.payloadBytes l) = sub (d.boot.hdr) (0x100 + 32 * k.toNat) 32) ∧
    (∃ d : Dev, ∃ l : List Byte, d.busLive = true ∧ l.length = 176 ∧ (d.state = 2 ∧ d.fld (pg .secboot) F.SECBOOT.BOOT_CFG_PATH = 0) ∧
      d.bootState = 3) ∧
    (∃ d : Dev, ∃ l : List Byte, d.busLive = true ∧ l.length = 176 ∧ (d.state = 2 ∧ d.fld (pg .secboot) F.SECBOOT.BOOT_CFG_PATH = 0) ∧
      (d.bootState = 1 ∨ d.bootState = 2)) ∧
    (∃ d : Dev, d.busLive = true ∧ d.bootState = 4 ∧ d.boot.verified = false ∧ (d.colophonCode d.boot.hdr d.boot.col) = 0) ∧
    (∃ d : Dev, d.busLive = true ∧ d.bootState = 4 ∧ d.boot.verified = false ∧ (d.colophonCode d.boot.hdr d.boot.col) ≠ 0) ∧
    (∃ d : Dev, d.busLive = true ∧ d.bootState ≠ 4) ∧
    (∃ d : Dev, d.busLive = true ∧ d.releasable = true ∧ d.flag (pg .seq) F.SEQ.SEQ_STATUS_OFF_REQ = false) ∧
    (∃ d : Dev, d.busLive = true ∧ d.releasable = false) ∧
    (∃ d : Dev, d.busLive = true ∧ (d.bootState = 2 ∨ d.bootState = 3) ∧ d.boot.xferAt + 400000000 ≤ d.now) ∧
    (∃ d : Dev, d.busLive = true ∧ ((d.bootState ≠ 2 ∧ d.bootState ≠ 3) ∨ d.now < d.boot.xferAt + 400000000)) ∧
    (∃ d : Dev, d.busLive = true ∧ d.bootState = 5 ∧ d.boot.failAt + 40000000 ≤ d.now) ∧
    (∃ d : Dev, d.busLive = true ∧ (d.bootState ≠ 5 ∨ d.now < d.boot.failAt + 40000000)) ∧
    (∃ d : Dev, ∃ a : Nat, d.busLive = true ∧ ((∃ g ∈ Image.ranges d.boot.hdr, g.1 ≤ a ∧ a < g.1 + g.2))) := by
  refine ⟨⟨(({} : Dev).setFld (pg .sys) F.SYS.STATE_STATE 2), [], ?_⟩,
    ⟨(({} : Dev).setFld (pg .sys) F.SYS.STATE_STATE 3), List.replicate 2304 0#8, ?_⟩,
    ⟨((({} : Dev).setFld (pg .sys) F.SYS.STATE_STATE 2).setFld (pg .secboot) F.SECBOOT.BOOT_STATUS_STATE 1), ([70#8, 79#8, 69#8, 78#8, 1#8, 0#8, 0#8,
  9#8, 4#8, 0#8, 0#8, 0#8, 1#8, 0#8, 0#8, 0#8, 0#8, 0#8, 0#8, 32#8, 0#8, 0#8, 0#8, 32#8, 0#8, 0#8, 0#8, 0#8, 0#8, 0#8, 0#8, 0#8, 0#8, 0#8, 0#8, 32#8,
  4#8] ++ List.replicate 219 0#8 ++ [223#8, 63#8, 97#8, 152#8, 4#8, 169#8, 47#8, 219#8, 64#8, 87#8, 25#8, 45#8, 196#8, 61#8, 215#8, 72#8, 234#8,
  119#8, 138#8, 220#8, 82#8, 188#8, 73#8, 140#8, 232#8, 5#8, 36#8, 192#8, 20#8, 184#8, 17#8, 25#8] ++ List.replicate 2016 0#8), ?_⟩,
    ⟨((({} : Dev).setFld (pg .sys) F.SYS.STATE_STATE 2).setFld (pg .secboot) F.SECBOOT.BOOT_STATUS_STATE 1), List.replicate 2304 0#8, ?_⟩,
    ⟨((({} : Dev).setFld (pg .sys) F.SYS.STATE_STATE 2).setFld (pg .secboot) F.SECBOOT.BOOT_STATUS_STATE 5), List.replicate 2304 0#8, ?_⟩,
    ⟨((({} : Dev).setFld (pg .sys) F.SYS.STATE_STATE 2).setFld (pg .secboot) F.SECBOOT.BOOT_STATUS_STATE 2), List.replicate 2304 0#8, ?_⟩,
    ⟨((({} : Dev).setFld (pg .sys) F.SYS.STATE_STATE 2).setFld (pg .secboot) F.SECBOOT.BOOT_STATUS_STATE 2), [0, 0, 0, 0], 0, 1, ?_⟩,
    ⟨(((({} : Dev).setFld (pg .sys) F.SYS.STATE_STATE 2).setFld (pg .secboot) F.SECBOOT.BOOT_STATUS_STATE 2).modBoot (fun b => { b with hdr := ([70, 79, 69, 78, 1, 0, 0, 9, 4, 0, 0, 0]) })),
  [0, 0, 0, 0], 0, 1, ?_⟩,
    ⟨(((({} : Dev).setFld (pg .sys) F.SYS.STATE_STATE 2).setFld (pg .secboot) F.SECBOOT.BOOT_STATUS_STATE 2).modBoot (fun b => { b with hdr := ([70, 79, 69, 78, 1, 0, 0, 9, 4, 0, 0, 0, 1, 0, 0, 0, 0, 0, 0, 32, 0, 0, 0, 32, 0, 0, 0, 0, 0, 0, 0, 0, 0, 0, 0, 32, 4] ++ List.replicate 219 0 ++ [223, 63, 97, 152, 4, 169, 47, 219, 64, 87, 25, 45, 196, 61, 215, 72, 234, 119, 138, 220, 82, 188, 73, 140, 232, 5, 36, 192, 20, 184, 17, 25] ++ List.replicate 2016 0) })),
  [0, 0, 0, 0], 0, 1, ?_⟩,
    ⟨((({} : Dev).setFld (pg .sys) F.SYS.STATE_STATE 2).setFld (pg .secboot) F.SECBOOT.BOOT_STATUS_STATE 3), List.replicate 176 0#8, ?_⟩,
    ⟨((({} : Dev).setFld (pg .sys) F.SYS.STATE_STATE 2).setFld (pg .secboot) F.SECBOOT.BOOT_STATUS_STATE 2), List.replicate 176 0#8, ?_⟩,
    ⟨(((({} : Dev).setFld (pg .sys) F.SYS.STATE_STATE 2).setFld (pg .secboot) F.SECBOOT.BOOT_STATUS_STATE 4).modBoot (fun b => { b with col := ([67, 76, 80, 72] ++ List.replicate 12 0 ++ [245, 66, 120, 96, 192, 76, 199, 231, 193, 211, 33, 129, 115, 68, 227, 158, 44, 56, 206, 60, 3, 26, 188, 165, 108, 135, 123, 215, 14, 148, 216, 168, 120, 153, 102, 71, 252, 72, 11, 166, 53, 27, 242, 119, 226, 105, 137, 192, 195, 26, 181, 4, 3, 56, 82, 138, 126, 79, 3, 141, 24, 123, 242, 124, 209, 115, 120, 34, 157, 183, 4, 158, 41, 130, 233, 60, 230, 173, 125, 186, 219, 48, 116, 159, 198, 154, 61, 41, 64, 208, 142, 219, 16, 85, 119, 7, 150, 194, 152, 216, 69, 57, 161, 244, 160, 51, 235, 45, 129, 125, 3, 119, 242, 64, 164, 99, 229, 230, 188, 248, 71, 66, 44, 225, 242, 209, 23, 107, 131, 56, 99, 195, 159, 35, 16, 98, 98, 133, 217, 183, 144, 206, 88, 93, 131, 101, 141, 58, 76, 239, 76, 179, 118, 76, 165, 130, 71, 28, 114, 203]) })),
  ?_⟩,
    ⟨((({} : Dev).setFld (pg .sys) F.SYS.STATE_STATE 2).setFld (pg .secboot) F.SECBOOT.BOOT_STATUS_STATE 4), ?_⟩,
    ⟨(({} : Dev).setFld (pg .sys) F.SYS.STATE_STATE 2), ?_⟩,
    ⟨((((({} : Dev).setFld (pg .sys) F.SYS.STATE_STATE 2).setFld (pg .secboot) F.SECBOOT.BOOT_STATUS_STATE 4).modBoot (fun b => { b with verified := true })).setFlag (pg .scaolo) F.SCAOLO.SELFTEST_DONE true),
  ?_⟩,
    ⟨(({} : Dev).setFld (pg .sys) F.SYS.STATE_STATE 2), ?_⟩,
    ⟨({ (({} : Dev).setFld (pg .secboot) F.SECBOOT.BOOT_STATUS_STATE (2)) with now := 10000000000000 } : Dev), ?_⟩,
    ⟨({} : Dev), ?_⟩,
    ⟨({ (({} : Dev).setFld (pg .secboot) F.SECBOOT.BOOT_STATUS_STATE (5)) with now := 10000000000000 } : Dev), ?_⟩,
    ⟨({} : Dev), ?_⟩,
    ⟨((({} : Dev).setFld (pg .sys) F.SYS.STATE_STATE 2).modBoot (fun b => { b with hdr := ([70, 79, 69, 78, 1, 0, 0, 9, 4, 0, 0, 0, 1, 0, 0, 0, 0, 0, 0, 32, 0, 0, 0, 32, 0, 0, 0, 0, 0, 0, 0, 0, 0, 0, 0, 32, 4, 0, 0, 0]) })),
  0x20000000, ?_⟩⟩
  · and_intros <;> first | exact test_canWrite (by decide +kernel) | exact test_canRead (by decide +kernel) | decide +kernel
  · and_intros <;> first | exact test_canWrite (by decide +kernel) | exact test_canRead (by decide +kernel) | decide +kernel
  · and_intros <;> first | exact test_canWrite (by decide +kernel) | exact test_canRead (by decide +kernel) | decide +kernel
  · and_intros <;> first | exact test_canWrite (by decide +kernel) | exact test_canRead (by decide +kernel) | decide +kernel
  · and_intros <;> first | exact test_canWrite (by decide +kernel) | exact test_canRead (by decide +kernel) | decide +kernel
  · and_intros <;> first | exact test_canWrite (by decide +kernel) | exact test_canRead (by decide +kernel) | decide +kernel
  · and_intros <;> first | exact test_canWrite (by decide +kernel) | exact test_canRead (by decide +kernel) | decide +kernel
  · and_intros <;> first | exact test_canWrite (by decide +kernel) | exact test_canRead (by decide +kernel) | decide +kernel
  · and_intros <;> first | exact test_canWrite (by decide +kernel) | exact test_canRead (by decide +kernel) | decide +kernel
  · and_intros <;> first | exact test_canWrite (by decide +kernel) | exact test_canRead (by decide +kernel) | decide +kernel
  · and_intros <;> first | exact test_canWrite (by decide +kernel) | exact test_canRead (by decide +kernel) | decide +kernel
  · and_intros <;> first | exact test_canWrite (by decide +kernel) | exact test_canRead (by decide +kernel) | decide +kernel
  · and_intros <;> first | exact test_canWrite (by decide +kernel) | exact test_canRead (by decide +kernel) | decide +kernel
  · and_intros <;> first | exact test_canWrite (by decide +kernel) | exact test_canRead (by decide +kernel) | decide +kernel
  · and_intros <;> first | exact test_canWrite (by decide +kernel) | exact test_canRead (by decide +kernel) | decide +kernel
  · and_intros <;> first | exact test_canWrite (by decide +kernel) | exact test_canRead (by decide +kernel) | decide +kernel
  · and_intros <;> first | exact test_canWrite (by decide +kernel) | exact test_canRead (by decide +kernel) | decide +kernel
  · and_intros <;> first | exact test_canWrite (by decide +kernel) | exact test_canRead (by decide +kernel) | decide +kernel
  · and_intros <;> first | exact test_canWrite (by decide +kernel) | exact test_canRead (by decide +kernel) | decide +kernel
  · and_intros <;> first | exact test_canWrite (by decide +kernel) | exact test_canRead (by decide +kernel) | decide +kernel
  · exact ⟨by decide +kernel, (0x20000000, 4), by decide +kernel, by decide +kernel, by decide +kernel⟩

theorem test_HostFramesRun_holds_somewhere :
    (∃ d : Dev, d.busLive = true ∧ d.state ≠ 2) ∧
    (∃ d : Dev, d.busLive = true ∧ d.state = 2 ∧ d.fld (pg .secboot) F.SECBOOT.BOOT_CFG_PATH = 2 ∧ d.boot.frag = none) ∧
    (∃ d : Dev, ∃ n : BitVec 16, ∃ old : List Nat, ∃ c : Nat, d.busLive = true ∧ d.state = 2 ∧ d.fld (pg .secboot) F.SECBOOT.BOOT_CFG_PATH = 2 ∧
      d.boot.frag = some (old, c) ∧ c = n.toNat) ∧
    (∃ d : Dev, ∃ n : BitVec 16, ∃ old : List Nat, ∃ c : Nat, d.busLive = true ∧ d.state = 2 ∧ d.fld (pg .secboot) F.SECBOOT.BOOT_CFG_PATH = 2 ∧
      d.boot.frag = some (old, c) ∧ c ≠ n.toNat) ∧
    (∃ d : Dev, ∃ old : List Nat, ∃ c : Nat, d.busLive = true ∧ d.state = 2 ∧ d.fld (pg .secboot) F.SECBOOT.BOOT_CFG_PATH = 2 ∧
      d.boot.frag = some (old, c) ∧ d.now ≤ d.boot.fragAt + 4000000) ∧
    (∃ d : Dev, ∃ old : List Nat, ∃ c : Nat, d.busLive = true ∧ d.state = 2 ∧ d.fld (pg .secboot) F.SECBOOT.BOOT_CFG_PATH = 2 ∧
      d.boot.frag = some (old, c) ∧ d.boot.fragAt + 4000000 < d.now) ∧
    (∃ d : Dev, ∃ len : BitVec 16, d.busLive = true ∧ 16384 < len.toNat) ∧
    (∃ d : Dev, ∃ a : Word, ∃ w : Word, d.busLive = true ∧ (d.busRead .host a.toNat).bus = .data w) ∧
    (∃ d : Dev, ∃ len : BitVec 16, ∃ a : Word, d.busLive = true ∧ 1 ≤ len.toNat ∧ len.toNat ≤ 16384 ∧ regionOf a.toNat 4 = some .pages ∧
      d.sessionOpen = false ∧ Dev.openBox ((a.toNat - 0x40000000) / 0x1000) = false) ∧
    (∃ d : Dev, ∃ ws : List Word, d.busLive = true ∧ 16384 < ws.length) ∧
    (∃ d : Dev, ∃ a : Word, ∃ w : Word, d.busLive = true ∧ (d.busWrite .host a.toNat w).bus = .done) ∧
    (∃ d : Dev, ∃ a : Word, ∃ w : Word, d.busLive = true ∧ (d.busWrite .host a.toNat w).bus ≠ .done) ∧
    (∃ d : Dev, ∃ cmd : BitVec 8, d.busLive = true ∧ Dev.commandCodes.contains cmd.toNat = false) ∧
    (∃ d : Dev, ∃ cmd : BitVec 8, d.busLive = true ∧ Dev.commandCodes.contains cmd.toNat = true) ∧
    (∃ d : Dev, ∃ cmd : BitVec 8, d.busLive = true ∧ (cmd.toNat < 0x10 ∨ 0x12 < cmd.toNat) ∧ d.host.crcRun ≠ 7) ∧
    (∃ d : Dev, ∃ r : Nat, d.busLive = true ∧ r < 16) ∧
    (∃ d : Dev, d.busLive = true ∧ d.host.resp = none) ∧
    (∃ d : Dev, ∃ x : Response, d.busLive = true ∧ d.host.resp = some x) := by
  refine ⟨⟨(({} : Dev).setFld (pg .sys) F.SYS.STATE_STATE 3), ?_⟩,
    ⟨({ ((({} : Dev).setFld (pg .sys) F.SYS.STATE_STATE 2).setFld (pg .secboot) F.SECBOOT.BOOT_CFG_PATH (2)) with boot.frag := none } : Dev), ?_⟩,
    ⟨(((({} : Dev).setFld (pg .sys) F.SYS.STATE_STATE 2).modBoot (fun b => { b with frag := some ([], 0) })).setFld (pg .secboot) F.SECBOOT.BOOT_CFG_PATH 2),
  0, [], 0, ?_⟩,
    ⟨(((({} : Dev).setFld (pg .sys) F.SYS.STATE_STATE 2).modBoot (fun b => { b with frag := some ([], 1) })).setFld (pg .secboot) F.SECBOOT.BOOT_CFG_PATH 2),
  0, [], 1, ?_⟩,
    ⟨(((({} : Dev).setFld (pg .sys) F.SYS.STATE_STATE 2).modBoot (fun b => { b with frag := some ([], 1) })).setFld (pg .secboot) F.SECBOOT.BOOT_CFG_PATH 2),
  [], 1, ?_⟩,
    ⟨({ (((({} : Dev).setFld (pg .sys) F.SYS.STATE_STATE 2).modBoot (fun b => { b with frag := some ([], 1) })).setFld (pg .secboot) F.SECBOOT.BOOT_CFG_PATH 2) with now := 10000000000000 } : Dev),
  [], 1, ?_⟩,
    ⟨({} : Dev), 16385, ?_⟩,
    ⟨(((({} : Dev).setFld (pg .sys) F.SYS.STATE_STATE 3).setFlag (pg .secboot) F.SECBOOT.SESS_STATUS_OPEN true).setFlag (pg .secboot) F.SECBOOT.SESS_CFG_WINDOW true),
  0x30000000, 0, ?_⟩,
    ⟨(({} : Dev).setFlag (pg .secboot) F.SECBOOT.SESS_STATUS_OPEN false), 1, 0x40003000, ?_⟩,
    ⟨({} : Dev), List.replicate 16385 0, ?_⟩,
    ⟨(((({} : Dev).setFld (pg .sys) F.SYS.STATE_STATE 3).setFlag (pg .secboot) F.SECBOOT.SESS_STATUS_OPEN true).setFlag (pg .secboot) F.SECBOOT.SESS_CFG_WINDOW true),
  0x30000000, 0, ?_⟩,
    ⟨(({} : Dev).setFld (pg .sys) F.SYS.STATE_STATE 3), 0x60000000, 0, ?_⟩,
    ⟨({} : Dev), 0, ?_⟩,
    ⟨({} : Dev), 1, ?_⟩,
    ⟨({} : Dev), 0, ?_⟩,
    ⟨({} : Dev), 0, ?_⟩,
    ⟨({ ({} : Dev) with host.resp := none } : Dev), ?_⟩,
    ⟨(({ ({} : Dev) with host.resp := some ⟨0, 0, 0, 0, []⟩ } : Dev)), ⟨0, 0, 0, 0, []⟩, ?_⟩⟩
  all_goals and_intros
  all_goals first | exact test_canWrite (by decide +kernel) | exact test_canRead (by decide +kernel) | decide +kernel

theorem test_OtpAndKeysRun_holds_somewhere :
    (∃ d : Dev, ∃ m : Master, d.CanWrite m .secboot 0 R.SECBOOT.CMD ∧ d.boot.job ≠ .none) ∧
    (∃ d : Dev, ∃ m : Master, ∃ b : Bool, d.CanWrite m .secboot 0 R.SECBOOT.CMD ∧ d.boot.job = .none ∧ d.canBurn b = false) ∧
    (∃ d : Dev, ∃ m : Master, ∃ v : BitVec 8, ∃ b : Bool, d.CanWrite m .secboot 0 R.SECBOOT.CMD ∧ d.boot.job = .none ∧ d.canBurn b = true ∧
      d.fld (pg .secboot) F.SECBOOT.IMAGE_INFO_ARB < v.toNat) ∧
    (∃ d : Dev, ∃ m : Master, ∃ v : BitVec 8, ∃ b : Bool, d.CanWrite m .secboot 0 R.SECBOOT.CMD ∧ d.boot.job = .none ∧ d.canBurn b = true ∧
      v.toNat ≤ d.fld (pg .secboot) F.SECBOOT.IMAGE_INFO_ARB ∧ v.toNat ≤ d.arbCounter) ∧
    (∃ d : Dev, ∃ m : Master, ∃ v : BitVec 8, ∃ b : Bool, d.CanWrite m .secboot 0 R.SECBOOT.CMD ∧ d.boot.job = .none ∧ d.canBurn b = true ∧
      v.toNat ≤ d.fld (pg .secboot) F.SECBOOT.IMAGE_INFO_ARB ∧ d.arbCounter < v.toNat) ∧
    (∃ d : Dev, ∃ m : Master, ∃ v : BitVec 8, ∃ b : Bool, d.CanWrite m .secboot 0 R.SECBOOT.CMD ∧ d.boot.job = .none ∧ d.canBurn b = true ∧
      (4 ≤ v.toNat ∨ d.fld (pg .secboot) F.SECBOOT.IMAGE_INFO_KEY_INDEX = v.toNat ∨ (∀ j < 4, j ≠ v.toNat → d.slotUsable j = false))) ∧
    (∃ d : Dev, ∃ m : Master, ∃ v : BitVec 8, ∃ b : Bool, d.CanWrite m .secboot 0 R.SECBOOT.CMD ∧ d.boot.job = .none ∧ d.canBurn b = true ∧
      v.toNat < 4 ∧ d.slotBlank v.toNat = false ∧ d.fld (pg .secboot) F.SECBOOT.IMAGE_INFO_KEY_INDEX ≠ v.toNat ∧ ((∃ j < 4, j ≠ v.toNat ∧
      d.slotUsable j = true))) ∧
    (∃ d : Dev, ∃ m : Master, d.CanWrite m .secboot 0 R.SECBOOT.CMD ∧ d.inProvisioning = true) ∧
    (∃ d : Dev, ∃ m : Master, d.CanWrite m .secboot 0 R.SECBOOT.CMD ∧ d.inProvisioning = false ∧ ((∃ i < 8, d.otpCell (0x190 + i) ≠ 0))) ∧
    (∃ d : Dev, ∃ m : Master, ∃ b : Bool, d.CanWrite m .otp 0 R.OTP.CMD ∧ (d.state ≠ 3 ∨ d.canBurn b = false)) ∧
    (∃ d : Dev, ∃ m : Master, d.CanWrite m .otp 0 R.OTP.CMD ∧ d.boot.job ≠ .none) ∧
    (∃ d : Dev, ∃ m : Master, ∃ b : Bool, d.CanWrite m .otp 0 R.OTP.CMD ∧ d.state = 3 ∧ d.canBurn b = true ∧ d.boot.job = .none ∧
      d.otpWriteLocked (d.fld (pg .otp) F.OTP.ADDR_WORD) = true) ∧
    (∃ d : Dev, ∃ m : Master, ∃ b : Bool, d.CanWrite m .otp 0 R.OTP.CMD ∧ d.state = 3 ∧ d.canBurn b = true ∧ d.boot.job = .none ∧
      d.otpWriteLocked (d.fld (pg .otp) F.OTP.ADDR_WORD) = false ∧ otpReserved (d.fld (pg .otp) F.OTP.ADDR_WORD) = true) ∧
    (∃ d : Dev, ∃ m : Master, ∃ b : Bool, d.CanWrite m .otp 0 R.OTP.CMD ∧ d.state = 3 ∧ d.canBurn b = true ∧ d.boot.job = .none ∧
      d.otpWriteLocked (d.fld (pg .otp) F.OTP.ADDR_WORD) = false ∧ otpReserved (d.fld (pg .otp) F.OTP.ADDR_WORD) = false) ∧
    (∃ d : Dev, ∃ x : OtpFacts, d.busLive = true ∧ (d.boot.job = .none ∨ d.now < d.boot.jobAt + Dev.jobClocks d.boot.job x.pulses)) ∧
    (∃ d : Dev, ∃ x : OtpFacts, ∃ w : Nat, ∃ v : Word, d.busLive = true ∧ d.boot.jobAt + Dev.jobClocks d.boot.job x.pulses ≤ d.now ∧
      d.boot.job = .program w v ∧ v &&& x.bad = 0) ∧
    (∃ d : Dev, ∃ x : OtpFacts, d.busLive = true ∧ d.boot.jobAt + Dev.jobClocks d.boot.job x.pulses ≤ d.now ∧ d.boot.job = .resense ∧ x.diff = []) ∧
    (∃ d : Dev, ∃ x : OtpFacts, ∃ n : Nat, d.busLive = true ∧ d.boot.jobAt + Dev.jobClocks d.boot.job x.pulses ≤ d.now ∧ d.boot.job = .margin n ∧
      x.weak = 0 ∧ x.leak = 0) ∧
    (∃ d : Dev, ∃ x : OtpFacts, ∃ i : Nat, d.busLive = true ∧ d.boot.jobAt + Dev.jobClocks d.boot.job x.pulses ≤ d.now ∧ i < 4 ∧
      d.boot.job = .revoke i ∧ x.bad = 0) ∧
    (∃ d : Dev, ∃ m : Master, d.CanWrite m .otp 0 R.OTP.SLOCK) := by
  refine ⟨⟨(({} : Dev).modBoot (fun b => { b with job := .resense })), .ctrl, ?_⟩,
    ⟨({ ({} : Dev) with boot.job := .none } : Dev), .ctrl, false, ?_⟩,
    ⟨(({ ({} : Dev) with boot.job := .none } : Dev).setFld (pg .clk) F.CLK.CLK_STATUS_SYSSRC 1), .ctrl, 255, true, ?_⟩,
    ⟨(({ ({} : Dev) with boot.job := .none } : Dev).setFld (pg .clk) F.CLK.CLK_STATUS_SYSSRC 1), .ctrl, 0, true, ?_⟩,
    ⟨((({ ({} : Dev) with boot.job := .none } : Dev).setFld (pg .clk) F.CLK.CLK_STATUS_SYSSRC 1).setFld (pg .secboot) F.SECBOOT.IMAGE_INFO_ARB 1), .ctrl,
  1, true, ?_⟩,
    ⟨(({ ({} : Dev) with boot.job := .none } : Dev).setFld (pg .clk) F.CLK.CLK_STATUS_SYSSRC 1), .ctrl, 4, true, ?_⟩,
    ⟨((({ ({} : Dev) with boot.job := .none } : Dev).setFld (pg .clk) F.CLK.CLK_STATUS_SYSSRC 1).modBoot (fun b => { b with otp := [(320, 1#32), (328, 1#32)] })),
  .ctrl, 1, true, ?_⟩,
    ⟨({} : Dev), .ctrl, ?_⟩,
    ⟨(({} : Dev).modBoot (fun b => { b with otp := [(320, 1#32), (400, 1#32)] })), .ctrl, ?_⟩,
    ⟨({} : Dev), .ctrl, false, ?_⟩,
    ⟨(({} : Dev).modBoot (fun b => { b with job := .resense })), .ctrl, ?_⟩,
    ⟨(((({ (({} : Dev).setFld (pg .sys) F.SYS.STATE_STATE 3) with boot.job := .none } : Dev).setFld (pg .clk) F.CLK.CLK_STATUS_SYSSRC 1).setFld (pg .otp) F.OTP.ADDR_WORD 0).setReg (pg .otp) R.OTP.SLOCK 0xFFFF),
  .ctrl, true, ?_⟩,
    ⟨((({ (({} : Dev).setFld (pg .sys) F.SYS.STATE_STATE 3) with boot.job := .none } : Dev).setFld (pg .clk) F.CLK.CLK_STATUS_SYSSRC 1).setFld (pg .otp) F.OTP.ADDR_WORD 0x160),
  .ctrl, true, ?_⟩,
    ⟨((({ (({} : Dev).setFld (pg .sys) F.SYS.STATE_STATE 3) with boot.job := .none } : Dev).setFld (pg .clk) F.CLK.CLK_STATUS_SYSSRC 1).setFld (pg .otp) F.OTP.ADDR_WORD 0x150),
  .ctrl, true, ?_⟩,
    ⟨({ ({} : Dev) with boot.job := .none } : Dev), {}, ?_⟩,
    ⟨({ (({ (({} : Dev).setFld (pg .sys) F.SYS.STATE_STATE 3) with boot.job := .program (0x150 : Nat) 1 } : Dev).modBoot (fun b => { b with job := .program 0x150 1 })) with now := 10000000000000 } : Dev), {},
  0x150, 1, ?_⟩,
    ⟨({ (({ (({} : Dev).setFld (pg .sys) F.SYS.STATE_STATE 3) with boot.job := .resense } : Dev).modBoot (fun b => { b with job := .resense })) with now := 10000000000000 } : Dev), {},
  ?_⟩,
    ⟨({ (({ (({} : Dev).setFld (pg .sys) F.SYS.STATE_STATE 3) with boot.job := .margin 1 } : Dev).modBoot (fun b => { b with job := .margin 1 })) with now := 10000000000000 } : Dev), {},
  1, ?_⟩,
    ⟨({ (({ (({} : Dev).setFld (pg .sys) F.SYS.STATE_STATE 3) with boot.job := .revoke 3 } : Dev).modBoot (fun b => { b with job := .revoke 3 })) with now := 10000000000000 } : Dev), {},
  3, ?_⟩,
    ⟨({} : Dev), .ctrl, ?_⟩⟩
  all_goals and_intros
  all_goals first | exact test_canWrite (by decide +kernel) | exact test_canRead (by decide +kernel) | decide +kernel

theorem test_SessionsAndDebugRun_holds_somewhere :
    (∃ d : Dev, d.busLive = true ∧ (d.sessionsOn = false ∨ d.now < d.boot.blockUntil)) ∧
    (∃ d : Dev, d.busLive = true ∧ d.sessionsOn = true ∧ d.boot.blockUntil ≤ d.now) ∧
    (∃ d : Dev, ∃ l : List Byte, d.busLive = true ∧ l.length ≠ 32) ∧
    (∃ d : Dev, ∃ l : List Byte, d.busLive = true ∧ l.length = 32 ∧
      (d.flag (pg .secboot) F.SECBOOT.SESS_STATUS_NONCE_VALID = false ∨ d.nonceOld = true ∨ d.sessionsOn = false)) ∧
    (∃ d : Dev, ∃ l : List Byte, d.busLive = true ∧ l.length = 32 ∧ d.flag (pg .secboot) F.SECBOOT.SESS_STATUS_NONCE_VALID = true ∧
      d.nonceOld = false ∧ d.sessionsOn = true ∧ Dev.payloadBytes l = d.sessMac) ∧
    (∃ d : Dev, ∃ l : List Byte, d.busLive = true ∧ l.length = 32 ∧ d.flag (pg .secboot) F.SECBOOT.SESS_STATUS_NONCE_VALID = true ∧
      d.nonceOld = false ∧ d.sessionsOn = true ∧ Dev.payloadBytes l ≠ d.sessMac) ∧
    (∃ d : Dev, d.busLive = true ∧ d.sessionOpen = false) ∧
    (∃ d : Dev, d.busLive = true ∧ d.sessionOpen = true ∧ (d.host.lastAt + 400000 * d.fld (pg .secboot) F.SECBOOT.SESS_CFG_IDLE) ≤ d.now) ∧
    (∃ d : Dev, d.busLive = true ∧ d.sessionOpen = true ∧ d.now < (d.host.lastAt + 400000 * d.fld (pg .secboot) F.SECBOOT.SESS_CFG_IDLE)) ∧
    (∃ d : Dev, d.busLive = true ∧ d.nonceOld = true) ∧
    (∃ d : Dev, ∃ m : Master, d.CanWrite m .secboot 0 R.SECBOOT.CMD) ∧
    (∃ d : Dev, ∃ m : Master, d.CanWrite m .debug 0 R.DEBUG.DBG_CMD ∧ (d.tokenCode d.tokenBytes) = 0) ∧
    (∃ d : Dev, ∃ m : Master, d.CanWrite m .debug 0 R.DEBUG.DBG_CMD ∧ (d.tokenCode d.tokenBytes) ≠ 0) ∧
    (∃ d : Dev, ∃ m : Master, d.CanWrite m .debug 0 R.DEBUG.DBG_CMD ∧ d.state = 4) := by
  refine ⟨⟨({} : Dev), ?_⟩,
    ⟨({ (({} : Dev).modBoot (fun b => { b with otp := [(0, 5#32), (1, 6#32), (320, 1#32), (408, 1#32)] })) with now := 10000000000000 } : Dev), ?_⟩,
    ⟨({} : Dev), [], ?_⟩,
    ⟨(({} : Dev).setFlag (pg .secboot) F.SECBOOT.SESS_STATUS_NONCE_VALID false), List.replicate 32 0#8, ?_⟩,
    ⟨((({} : Dev).setFld (pg .sys) F.SYS.STATE_STATE 3).modBoot (fun b => { b with otp := [(0, 5#32), (1, 6#32), (320, 1#32), (408, 1#32)] })).setFlag (pg .secboot) F.SECBOOT.SESS_STATUS_NONCE_VALID true,
  (Dev.sessMac (((({} : Dev).setFld (pg .sys) F.SYS.STATE_STATE 3).modBoot (fun b => { b with otp := [(0, 5#32), (1, 6#32), (320, 1#32), (408, 1#32)] })).setFlag (pg .secboot) F.SECBOOT.SESS_STATUS_NONCE_VALID true)).map (BitVec.ofNat 8),
  ?_⟩,
    ⟨((({} : Dev).setFld (pg .sys) F.SYS.STATE_STATE 3).modBoot (fun b => { b with otp := [(0, 5#32), (1, 6#32), (320, 1#32), (408, 1#32)] })).setFlag (pg .secboot) F.SECBOOT.SESS_STATUS_NONCE_VALID true,
  List.replicate 32 0#8, ?_⟩,
    ⟨(({} : Dev).setFlag (pg .secboot) F.SECBOOT.SESS_STATUS_OPEN false), ?_⟩,
    ⟨({ (({} : Dev).setFlag (pg .secboot) F.SECBOOT.SESS_STATUS_OPEN true) with now := 10000000000000 } : Dev), ?_⟩,
    ⟨(({} : Dev).setFlag (pg .secboot) F.SECBOOT.SESS_STATUS_OPEN true), ?_⟩,
    ⟨({ (({} : Dev).setFld (pg .sys) F.SYS.STATE_STATE 3) with now := 10000000000000 } : Dev), ?_⟩,
    ⟨({} : Dev), .ctrl, ?_⟩,
    ⟨(((({} : Dev).setFld (pg .sys) F.SYS.STATE_STATE 3).setFlag (pg .debug) F.DEBUG.DBG_STATUS_NONCE_VALID true).modBoot (fun b => { b with token := [(0, 1413956164), (1, 1), (2, 5), (3, 6), (4, 0), (5, 0), (6, 0), (7, 0), (8, 0), (9, 0), (10, 0), (11, 0), (12, 1197906296), (13, 2785757436), (14, 2012355381), (15, 3230231010), (16, 78977731), (17, 2320644099), (18, 2365804414), (19, 2096266008), (20, 578319313), (21, 2651109277), (22, 1021936169), (23, 3128798694), (24, 2675192027), (25, 691903174), (26, 3683569728), (27, 125261072), (28, 3633889942), (29, 4104206661), (30, 770388896), (31, 1996717441), (32, 1671708914), (33, 4173129445), (34, 3777774151), (35, 1796723186), (36, 1550970241), (37, 610165674), (38, 904218289), (39, 4129610058), (40, 2254433618), (41, 3495381155), (42, 3931897622), (43, 2727046958)], otp := [(0, 5#32), (1, 6#32), (360, 4105172194#32), (361, 3539773268#32), (362, 2677284975#32), (363, 876779643#32), (364, 1808469430#32), (365, 3184050609#32), (366, 2557142340#32), (367, 2520107729#32)] })),
  .ctrl, ?_⟩,
    ⟨({} : Dev), .ctrl, ?_⟩,
    ⟨(({} : Dev).setFld (pg .sys) F.SYS.STATE_STATE 4), .ctrl, ?_⟩⟩
  all_goals and_intros
  all_goals first | exact test_canWrite (by decide +kernel) | exact test_canRead (by decide +kernel) | decide +kernel

theorem test_CoreInstructionsRun_holds_somewhere :
    (∃ d : Dev, ∃ i : Pair, d.pairExecutes (Dev.pairNo i) = false) ∧
    (∃ d : Dev, ∃ i : Pair, ∃ b : Word, ∃ e : Dev, ∃ lo : Nat, d.pairExecutes (Dev.pairNo i) = true ∧
      (({ d with bus := .none } : Dev)).romJump (d.coreS (Dev.pairNo i)).pc.toNat = some b ∧
      (({ d with bus := .none } : Dev)).fetchHalf (Dev.pairNo i) (d.coreS (Dev.pairNo i)).pc.toNat .clean 0 = (e, some lo)) ∧
    (∃ d : Dev, ∃ i : Pair, ∃ b : Word, ∃ e : Dev, d.pairExecutes (Dev.pairNo i) = true ∧
      (({ d with bus := .none } : Dev)).romJump (d.coreS (Dev.pairNo i)).pc.toNat = some b ∧
      (({ d with bus := .none } : Dev)).fetchHalf (Dev.pairNo i) (d.coreS (Dev.pairNo i)).pc.toNat .clean 0 = (e, none)) ∧
    (∃ d : Dev, ∃ i : Pair, ∃ ff : Flaw, ∃ bit : Fin 72, ∃ e : Dev, ∃ a : Nat, d.pairExecutes (Dev.pairNo i) = true ∧
      (({ d with bus := .none } : Dev)).romJump (d.coreS (Dev.pairNo i)).pc.toNat = none ∧
      (({ d with bus := .none } : Dev)).fetch (Dev.pairNo i) ff bit.val = (e, .error a)) ∧
    (∃ d : Dev, ∃ i : Pair, ∃ ff : Flaw, ∃ bit : Fin 72, ∃ e : Dev, ∃ len : Nat, ∃ raw : Nat, d.pairExecutes (Dev.pairNo i) = true ∧
      (({ d with bus := .none } : Dev)).romJump (d.coreS (Dev.pairNo i)).pc.toNat = none ∧
      (({ d with bus := .none } : Dev)).fetch (Dev.pairNo i) ff bit.val = (e, .ok (len, raw, none))) ∧
    (∃ d : Dev, ∃ i : Pair, ∃ ff : Flaw, ∃ bit : Fin 72, ∃ e : Dev, ∃ len : Nat, ∃ raw : Nat, ∃ ins : Rv, d.pairExecutes (Dev.pairNo i) = true ∧
      (({ d with bus := .none } : Dev)).romJump (d.coreS (Dev.pairNo i)).pc.toNat = none ∧
      (({ d with bus := .none } : Dev)).fetch (Dev.pairNo i) ff bit.val = (e, .ok (len, raw, some ins))) ∧
    (∃ d : Dev, ∃ i : Pair, ∃ x : Dev, ∃ len : Nat, ∃ raw : Nat, d.pairExecutes (Dev.pairNo i) = true ∧
      (({ d with bus := .none } : Dev)).romJump (d.coreS (Dev.pairNo i)).pc.toNat = none ∧ d.fetch (Dev.pairNo i) .clean 0 = (x, .ok (len, raw,
      some .wfi))) ∧
    (∃ d : Dev, ∃ i : Pair, ∃ x : Dev, ∃ len : Nat, ∃ raw : Nat, d.pairExecutes (Dev.pairNo i) = true ∧
      (({ d with bus := .none } : Dev)).romJump (d.coreS (Dev.pairNo i)).pc.toNat = none ∧ d.fetch (Dev.pairNo i) .clean 0 = (x, .ok (len, raw,
      none))) ∧
    (∃ i : Pair, ∃ e : Dev, ∃ rs : Nat, ∃ off : Int, (((e.coreS (Dev.pairNo i)).xr rs + BitVec.ofInt 32 off).toNat) % 4 ≠ 0) ∧
    (∃ i : Pair, ∃ e : Dev, ∃ rd : Nat, ∃ rs : Nat, ∃ off : Int, (((e.coreS (Dev.pairNo i)).xr rs + BitVec.ofInt 32 off).toNat) % 4 = 0 ∧
      e.busLive = true ∧ regionOf (((e.coreS (Dev.pairNo i)).xr rs + BitVec.ofInt 32 off).toNat) 4 = some .sram ∧ rd < 32 ∧
      (e.coreS (Dev.pairNo i)).pmpOk (Dev.dataMode (e.coreS (Dev.pairNo i))) (((e.coreS (Dev.pairNo i)).xr rs + BitVec.ofInt 32 off).toNat) 4 1 = true ∧
      e.memAllowed (pairMaster (Dev.pairNo i)) (((e.coreS (Dev.pairNo i)).xr rs + BitVec.ofInt 32 off).toNat) 4 false = true) ∧
    (∃ i : Pair, ∃ e : Dev, ∃ rs : Nat, ∃ off : Int, ∃ b : Nat, (((e.coreS (Dev.pairNo i)).xr rs + BitVec.ofInt 32 off).toNat) % 4 = 0 ∧
      e.busLive = true ∧ regionOf (((e.coreS (Dev.pairNo i)).xr rs + BitVec.ofInt 32 off).toNat) 4 = some .sram ∧
      (e.coreS (Dev.pairNo i)).pmpOk (Dev.dataMode (e.coreS (Dev.pairNo i))) (((e.coreS (Dev.pairNo i)).xr rs + BitVec.ofInt 32 off).toNat) 4 2 = true ∧
      e.memAllowed (pairMaster (Dev.pairNo i)) (((e.coreS (Dev.pairNo i)).xr rs + BitVec.ofInt 32 off).toNat) 4 true = true ∧
      (b < (((e.coreS (Dev.pairNo i)).xr rs + BitVec.ofInt 32 off).toNat) ∨ (((e.coreS (Dev.pairNo i)).xr rs + BitVec.ofInt 32 off).toNat) + 4 ≤ b)) ∧
    (∃ i : Pair, ∃ e : Dev, (e.coreS (Dev.pairNo i)).mach = false) ∧
    (∃ i : Pair, ∃ e : Dev, (e.coreS (Dev.pairNo i)).mach = true) ∧
    (∃ d : Dev, ∃ i : Pair, d.busLive = true ∧ d.pairStatus (Dev.pairNo i) = 2) ∧
    (∃ d : Dev, ∃ i : Pair, d.pairStatus (Dev.pairNo i) ≠ 2) ∧
    (∃ d : Dev, ∃ i : Pair, (d.pairStatus (Dev.pairNo i) = 0 ∨ d.pairStopped (Dev.pairNo i) = true)) ∧
    (∃ d : Dev, ∃ i : Pair, d.busLive = true ∧ d.pairStatus (Dev.pairNo i) ≠ 0 ∧ d.pairStopped (Dev.pairNo i) = false) := by
  refine ⟨⟨({} : Dev), .control, ?_⟩,
    ⟨(((({ (((({} : Dev).setFld (pg .sys) F.SYS.STATE_STATE 3).setFld (pg .secboot) F.SECBOOT.BOOT_STATUS_STATE 6).setFld (pg .sys) ⟨R.SYS.PAIR_STATUS, 0, 2⟩ 1).modCore 0 (fun c => { c with pc := 0x100 }) with bus := .none } : Dev)).setReg (pg .rompatch) R.ROMPATCH.USED_LO 1).modBoot (fun b => { b with otp := [(0x1C0, 258#32), (0x1C1, 536870912#32), (0x1C2, 3758096125#32)] })),
  .control, 536870912,
  (((((({ (((({} : Dev).setFld (pg .sys) F.SYS.STATE_STATE 3).setFld (pg .secboot) F.SECBOOT.BOOT_STATUS_STATE 6).setFld (pg .sys) ⟨R.SYS.PAIR_STATUS, 0, 2⟩ 1).modCore 0 (fun c => { c with pc := 0x100 }) with bus := .none } : Dev)).setReg (pg .rompatch) R.ROMPATCH.USED_LO 1).modBoot (fun b => { b with otp := [(0x1C0, 258#32), (0x1C1, 536870912#32), (0x1C2, 3758096125#32)] }))).fetchHalf 0 0x100 .clean 0).1,
  0, ?_⟩,
    ⟨(((({ (((({} : Dev).setFld (pg .sys) F.SYS.STATE_STATE 3).setFld (pg .secboot) F.SECBOOT.BOOT_STATUS_STATE 6).setFld (pg .sys) ⟨R.SYS.PAIR_STATUS, 0, 2⟩ 1).modCore 0 (fun c => { c with pc := 0x100, mach := false }) with bus := .none } : Dev)).setReg (pg .rompatch) R.ROMPATCH.USED_LO 1).modBoot (fun b => { b with otp := [(0x1C0, 258#32), (0x1C1, 536870912#32), (0x1C2, 3758096125#32)] })),
  .control, 536870912,
  (((((({ (((({} : Dev).setFld (pg .sys) F.SYS.STATE_STATE 3).setFld (pg .secboot) F.SECBOOT.BOOT_STATUS_STATE 6).setFld (pg .sys) ⟨R.SYS.PAIR_STATUS, 0, 2⟩ 1).modCore 0 (fun c => { c with pc := 0x100, mach := false }) with bus := .none } : Dev)).setReg (pg .rompatch) R.ROMPATCH.USED_LO 1).modBoot (fun b => { b with otp := [(0x1C0, 258#32), (0x1C1, 536870912#32), (0x1C2, 3758096125#32)] }))).fetchHalf 0 0x100 .clean 0).1,
  ?_⟩,
    ⟨({ (((({} : Dev).setFld (pg .sys) F.SYS.STATE_STATE 3).setFld (pg .secboot) F.SECBOOT.BOOT_STATUS_STATE 6).setFld (pg .sys) ⟨R.SYS.PAIR_STATUS, 0, 2⟩ 1).modCore 0 (fun c => { c with pc := 0x90000000 }) with bus := .none } : Dev),
  .control, .clean, 0,
  ((({ (((({} : Dev).setFld (pg .sys) F.SYS.STATE_STATE 3).setFld (pg .secboot) F.SECBOOT.BOOT_STATUS_STATE 6).setFld (pg .sys) ⟨R.SYS.PAIR_STATUS, 0, 2⟩ 1).modCore 0 (fun c => { c with pc := 0x90000000 }) with bus := .none } : Dev)).fetch 0 .clean 0).1,
  0x90000000, ?_⟩,
    ⟨({ (((({} : Dev).setFld (pg .sys) F.SYS.STATE_STATE 3).setFld (pg .secboot) F.SECBOOT.BOOT_STATUS_STATE 6).setFld (pg .sys) ⟨R.SYS.PAIR_STATUS, 0, 2⟩ 1).modCore 0 (fun c => { c with pc := 0x20000000 }) with bus := .none } : Dev),
  .control, .clean, 0,
  ((({ (((({} : Dev).setFld (pg .sys) F.SYS.STATE_STATE 3).setFld (pg .secboot) F.SECBOOT.BOOT_STATUS_STATE 6).setFld (pg .sys) ⟨R.SYS.PAIR_STATUS, 0, 2⟩ 1).modCore 0 (fun c => { c with pc := 0x20000000 }) with bus := .none } : Dev)).fetch 0 .clean 0).1,
  2, 0, ?_⟩,
    ⟨({ (((({} : Dev).setFld (pg .sys) F.SYS.STATE_STATE 3).setFld (pg .secboot) F.SECBOOT.BOOT_STATUS_STATE 6).setFld (pg .sys) ⟨R.SYS.PAIR_STATUS, 0, 2⟩ 1).modCore 0 (fun c => { c with pc := 0x20000000 }) with bus := .none, mem := Mem.setWord [] 0x20000000 0x10500073#32 } : Dev),
  .control, .clean, 0,
  ((({ (((({} : Dev).setFld (pg .sys) F.SYS.STATE_STATE 3).setFld (pg .secboot) F.SECBOOT.BOOT_STATUS_STATE 6).setFld (pg .sys) ⟨R.SYS.PAIR_STATUS, 0, 2⟩ 1).modCore 0 (fun c => { c with pc := 0x20000000 }) with bus := .none, mem := Mem.setWord [] 0x20000000 0x10500073#32 } : Dev)).fetch 0 .clean 0).1,
  4, 0x10500073, .wfi, ?_⟩,
    ⟨({ (((({} : Dev).setFld (pg .sys) F.SYS.STATE_STATE 3).setFld (pg .secboot) F.SECBOOT.BOOT_STATUS_STATE 6).setFld (pg .sys) ⟨R.SYS.PAIR_STATUS, 0, 2⟩ 1).modCore 0 (fun c => { c with pc := 0x20000000 }) with bus := .none, mem := Mem.setWord [] 0x20000000 0x10500073#32 } : Dev),
  .control,
  ((({ (((({} : Dev).setFld (pg .sys) F.SYS.STATE_STATE 3).setFld (pg .secboot) F.SECBOOT.BOOT_STATUS_STATE 6).setFld (pg .sys) ⟨R.SYS.PAIR_STATUS, 0, 2⟩ 1).modCore 0 (fun c => { c with pc := 0x20000000 }) with bus := .none, mem := Mem.setWord [] 0x20000000 0x10500073#32 } : Dev)).fetch 0 .clean 0).1,
  4, 0x10500073, ?_⟩,
    ⟨({ (((({} : Dev).setFld (pg .sys) F.SYS.STATE_STATE 3).setFld (pg .secboot) F.SECBOOT.BOOT_STATUS_STATE 6).setFld (pg .sys) ⟨R.SYS.PAIR_STATUS, 0, 2⟩ 1).modCore 0 (fun c => { c with pc := 0x20000000 }) with bus := .none } : Dev),
  .control,
  ((({ (((({} : Dev).setFld (pg .sys) F.SYS.STATE_STATE 3).setFld (pg .secboot) F.SECBOOT.BOOT_STATUS_STATE 6).setFld (pg .sys) ⟨R.SYS.PAIR_STATUS, 0, 2⟩ 1).modCore 0 (fun c => { c with pc := 0x20000000 }) with bus := .none } : Dev)).fetch 0 .clean 0).1,
  2, 0, ?_⟩,
    ⟨.control, ({} : Dev), 0, 1, ?_⟩,
    ⟨.control, (({} : Dev).setFld (pg .sys) F.SYS.STATE_STATE 3), 0, 0, 0x20000000, ?_⟩,
    ⟨.control, (({} : Dev).setFld (pg .sys) F.SYS.STATE_STATE 3), 0, 0x20000000, 0x20000004, ?_⟩,
    ⟨.control, (({} : Dev).modCore 0 (fun c => { c with mach := false })), ?_⟩,
    ⟨.control, {}, ?_⟩,
    ⟨(({} : Dev).setFld (pg .sys) ⟨R.SYS.PAIR_STATUS, 2 * ((Dev.pairNo (.control : Pair))), 2⟩ (2)), .control, ?_⟩,
    ⟨({} : Dev), .control, ?_⟩,
    ⟨(({} : Dev).setFld (pg .sys) ⟨R.SYS.PAIR_STATUS, 2 * ((Dev.pairNo (.control : Pair))), 2⟩ (0)), .control, ?_⟩,
    ⟨(({} : Dev).setFld (pg .sys) ⟨R.SYS.PAIR_STATUS, 2 * ((Dev.pairNo (.control : Pair))), 2⟩ 1), .control, ?_⟩⟩
  · and_intros <;> first | exact test_canWrite (by decide +kernel) | exact test_canRead (by decide +kernel) | decide +kernel
  · and_intros <;> first | decide +kernel | rfl
  · and_intros <;> first | decide +kernel | rfl
  · and_intros <;> first | decide +kernel | rfl
  · and_intros <;> first | decide +kernel | rfl
  · and_intros <;> first | decide +kernel | rfl
  · and_intros <;> first | decide +kernel | rfl
  · and_intros <;> first | decide +kernel | rfl
  · and_intros <;> first | exact test_canWrite (by decide +kernel) | exact test_canRead (by decide +kernel) | decide +kernel
  · and_intros <;> first | exact test_canWrite (by decide +kernel) | exact test_canRead (by decide +kernel) | decide +kernel
  · and_intros <;> first | exact test_canWrite (by decide +kernel) | exact test_canRead (by decide +kernel) | decide +kernel
  · and_intros <;> first | exact test_canWrite (by decide +kernel) | exact test_canRead (by decide +kernel) | decide +kernel
  · and_intros <;> first | exact test_canWrite (by decide +kernel) | exact test_canRead (by decide +kernel) | decide +kernel
  · and_intros <;> first | exact test_canWrite (by decide +kernel) | exact test_canRead (by decide +kernel) | decide +kernel
  · and_intros <;> first | exact test_canWrite (by decide +kernel) | exact test_canRead (by decide +kernel) | decide +kernel
  · and_intros <;> first | exact test_canWrite (by decide +kernel) | exact test_canRead (by decide +kernel) | decide +kernel
  · and_intros <;> first | exact test_canWrite (by decide +kernel) | exact test_canRead (by decide +kernel) | decide +kernel

theorem test_MemoriesAndPairDebugRun_holds_somewhere :
    (∃ d : Dev, d.busLive = false) ∧
    (∃ d : Dev, ∃ a : Word, d.busLive = true ∧ Dev.memNo (a.toNat) = none) ∧
    (∃ d : Dev, ∃ m : Master, ∃ a : Word, ∃ k, d.busLive = true ∧ Dev.memNo (a.toNat) = some k ∧ (a.toNat) % 4 = 0 ∧
      d.memAllowed m (a.toNat) 4 false = true ∧ d.fld (pg .sys) F.SYS.ECC_CFG_SCRUB = 0) ∧
    (∃ d : Dev, ∃ m : Master, ∃ a : Word, ∃ k, d.busLive = true ∧ Dev.memNo (a.toNat) = some k ∧ ¬((a.toNat) % 4 = 0 ∧
      d.memAllowed m (a.toNat) 4 false = true)) ∧
    (∃ d : Dev, ∃ a : Word, ∃ k, d.busLive = true ∧ Dev.memNo (a.toNat) = some k ∧ d.memSecure (a.toNat) = true) ∧
    (∃ d : Dev, ∃ a : Word, ∃ k, d.busLive = true ∧ Dev.memNo (a.toNat) = some k ∧ d.memSecure (a.toNat) = false) ∧
    (∃ d : Dev, ∃ m : Master, ∃ a : Word, ∃ half : Bool, ∃ k, d.busLive = true ∧ Dev.memNo (a.toNat) = some k ∧
      (a.toNat) % (if half then 2 else 1) = 0 ∧ d.memAllowed m (a.toNat) (if half then 2 else 1) true = true) ∧
    (∃ d : Dev, ∃ m : Master, ∃ a : Word, ∃ half : Bool, ∃ k, d.busLive = true ∧ Dev.memNo (a.toNat) = some k ∧
      ¬((a.toNat) % (if half then 2 else 1) = 0 ∧ d.memAllowed m (a.toNat) (if half then 2 else 1) true = true)) ∧
    (∃ d : Dev,
      (d.busLive = false ∨ d.fld (pg .sys) F.SYS.ECC_CFG_SCRUB = 0 ∨ d.now < d.comp.scrubAt + 400000000 * d.fld (pg .sys) F.SYS.ECC_CFG_SCRUB)) ∧
    (∃ d : Dev, ∃ x : ScrubError, ∃ k, d.busLive = true ∧ d.fld (pg .sys) F.SYS.ECC_CFG_SCRUB ≠ 0 ∧
      d.comp.scrubAt + 400000000 * d.fld (pg .sys) F.SYS.ECC_CFG_SCRUB ≤ d.now ∧ Dev.memNo x.addr.toNat = some k) ∧
    (∃ d : Dev, ∃ m : Master, d.CanWrite m .sys 0 R.SYS.SEC_CFG ∧ d.secure m = false) ∧
    (∃ d : Dev, ∃ m : Master, d.CanWrite m .sys 0 R.SYS.SEC_CFG ∧ d.secure m = true) ∧
    (∃ d : Dev, ∃ m : Master, d.CanWrite m .sys 0 R.SYS.PAIR_CTRL ∧ ¬(m = .debug ∧ 1 ≤ d.debugLevel)) ∧
    (∃ d : Dev, ∃ m : Master, d.CanWrite m .sys 0 R.SYS.PAIR_CTRL ∧ d.state = 4) ∧
    (∃ d : Dev, ∃ m : Master, ∃ i : Pair, d.CanWrite m .sys 0 R.SYS.PAIR_CTRL ∧ (m = .debug ∧ 1 ≤ d.debugLevel) ∧ d.state ≠ 4 ∧
      d.pairStopped (Dev.pairNo i) = false ∧ (d.pairStatus (Dev.pairNo i) = 1 ∨ d.pairStatus (Dev.pairNo i) = 2)) ∧
    (∃ d : Dev, ∃ m : Master, ∃ i : Pair, d.CanWrite m .sys 0 R.SYS.PAIR_CTRL ∧ (m = .debug ∧ 1 ≤ d.debugLevel) ∧ d.state ≠ 4 ∧
      d.pairStopped (Dev.pairNo i) = false ∧ d.pairStatus (Dev.pairNo i) = 3 ∧ d.bootState = 6) ∧
    (∃ d : Dev, ∃ m : Master, ∃ i : Pair, d.CanWrite m .sys 0 R.SYS.PAIR_CTRL ∧ d.pairStatus (Dev.pairNo i) ≠ 3) ∧
    (∃ d : Dev, ∃ m : Master, d.CanWrite m .sys 0 R.SYS.PAIR_REG_DATA ∧ (¬(m = .debug ∧ 1 ≤ d.debugLevel ∧
      d.pairStatus (d.fld (pg .sys) F.SYS.PAIR_REG_SEL_PAIR) = 3) ∨ d.flag (pg .sys) F.SYS.PAIR_REG_SEL_WRITE = false)) ∧
    (∃ d : Dev, ∃ m : Master, d.CanWrite m .sys 0 R.SYS.PAIR_REG_DATA ∧ (m = .debug ∧ 1 ≤ d.debugLevel ∧
      d.pairStatus (d.fld (pg .sys) F.SYS.PAIR_REG_SEL_PAIR) = 3) ∧ d.flag (pg .sys) F.SYS.PAIR_REG_SEL_WRITE = true ∧
      d.fld (pg .sys) F.SYS.PAIR_REG_SEL_SPACE = 0 ∧ (d.fld (pg .sys) F.SYS.PAIR_REG_SEL_INDEX) < 32) ∧
    (∃ d : Dev, ∃ m : Master, d.CanWrite m .sys 0 R.SYS.PAIR_REG_DATA ∧ (m = .debug ∧ 1 ≤ d.debugLevel ∧
      d.pairStatus (d.fld (pg .sys) F.SYS.PAIR_REG_SEL_PAIR) = 3) ∧ d.flag (pg .sys) F.SYS.PAIR_REG_SEL_WRITE = true ∧
      d.fld (pg .sys) F.SYS.PAIR_REG_SEL_SPACE = 3) ∧
    (∃ d : Dev, ∃ m : Master, d.CanRead m .sys 0 R.SYS.PAIR_REG_DATA ∧ (m = .debug ∧ 1 ≤ d.debugLevel ∧
      d.pairStatus (d.fld (pg .sys) F.SYS.PAIR_REG_SEL_PAIR) = 3) ∧ d.flag (pg .sys) F.SYS.PAIR_REG_SEL_WRITE = false ∧
      d.fld (pg .sys) F.SYS.PAIR_REG_SEL_SPACE = 0 ∧ (d.fld (pg .sys) F.SYS.PAIR_REG_SEL_INDEX) < 32) ∧
    (∃ d : Dev, ∃ m : Master, d.CanRead m .sys 0 R.SYS.PAIR_REG_DATA ∧ (m = .debug ∧ 1 ≤ d.debugLevel ∧
      d.pairStatus (d.fld (pg .sys) F.SYS.PAIR_REG_SEL_PAIR) = 3) ∧ d.flag (pg .sys) F.SYS.PAIR_REG_SEL_WRITE = false ∧
      d.fld (pg .sys) F.SYS.PAIR_REG_SEL_SPACE = 3) := by
  refine ⟨⟨(({} : Dev).setFld (pg .sys) F.SYS.STATE_STATE 1), ?_⟩,
    ⟨({} : Dev), 0, ?_⟩,
    ⟨((({} : Dev).setFld (pg .sys) F.SYS.STATE_STATE 3).setFld (pg .sys) F.SYS.ECC_CFG_SCRUB (0)), .ctrl, 0x20000000, 1, ?_⟩,
    ⟨(({} : Dev).setFld (pg .sys) F.SYS.STATE_STATE 3), .ctrl, 0x20000001, 1, ?_⟩,
    ⟨((({} : Dev).setFld (pg .sys) F.SYS.STATE_STATE 3).setReg (pg .sys) R.SYS.SRAM_SEC_LO 1), 0x20000000, 1, ?_⟩,
    ⟨(({} : Dev).setFld (pg .sys) F.SYS.STATE_STATE 3), 0x20000000, 1, ?_⟩,
    ⟨(({} : Dev).setFld (pg .sys) F.SYS.STATE_STATE 3), .ctrl, 0x20000001, false, 1, ?_⟩,
    ⟨(({} : Dev).setFld (pg .sys) F.SYS.STATE_STATE 3), .ctrl, 0x20000001, true, 1, ?_⟩,
    ⟨(({} : Dev).setFld (pg .sys) F.SYS.STATE_STATE 1), ?_⟩,
    ⟨({ ((({} : Dev).setFld (pg .sys) F.SYS.STATE_STATE 3).setFld (pg .sys) F.SYS.ECC_CFG_SCRUB (1)) with now := 10000000000000 } : Dev), ⟨0x20000000,
  true, 0⟩, 1, ?_⟩,
    ⟨((({} : Dev).setFld (pg .sys) F.SYS.STATE_STATE 3).setFlag (pg .sys) F.SYS.SEC_CFG_SVC_SECURE false), .svc, ?_⟩,
    ⟨({} : Dev), .ctrl, ?_⟩,
    ⟨({} : Dev), .ctrl, ?_⟩,
    ⟨(({} : Dev).setFld (pg .sys) F.SYS.STATE_STATE 4), .ctrl, ?_⟩,
    ⟨((((({} : Dev).setFld (pg .sys) F.SYS.STATE_STATE 3).setFld (pg .debug) F.DEBUG.DBG_STATUS_LEVEL 2).setFld (pg .sys) ⟨R.SYS.PAIR_STATUS, 0,
  2⟩ 1).setReg (pg .sys) R.HDR.ACCESS 0xF), .debug, .control, ?_⟩,
    ⟨(((((({} : Dev).setFld (pg .sys) F.SYS.STATE_STATE 3).setFld (pg .debug) F.DEBUG.DBG_STATUS_LEVEL 2).setFld (pg .sys) ⟨R.SYS.PAIR_STATUS, 0,
  2⟩ 3).setFld (pg .secboot) F.SECBOOT.BOOT_STATUS_STATE 6).setReg (pg .sys) R.HDR.ACCESS 0xF), .debug, .control, ?_⟩,
    ⟨({} : Dev), .ctrl, .control, ?_⟩,
    ⟨((({} : Dev).setFld (pg .sys) F.SYS.STATE_STATE 3).setFlag (pg .sys) F.SYS.PAIR_REG_SEL_WRITE false), .ctrl, ?_⟩,
    ⟨((((((({} : Dev).setFld (pg .sys) F.SYS.STATE_STATE 3).setFld (pg .debug) F.DEBUG.DBG_STATUS_LEVEL 2).setFld (pg .sys) ⟨R.SYS.PAIR_STATUS, 0,
  2⟩ 3).setFlag (pg .sys) F.SYS.PAIR_REG_SEL_WRITE true).setFld (pg .sys) F.SYS.PAIR_REG_SEL_SPACE 0).setReg (pg .sys) R.HDR.ACCESS 0xF), .debug, ?_⟩,
    ⟨((((((({} : Dev).setFld (pg .sys) F.SYS.STATE_STATE 3).setFld (pg .debug) F.DEBUG.DBG_STATUS_LEVEL 2).setFld (pg .sys) ⟨R.SYS.PAIR_STATUS, 0,
  2⟩ 3).setFlag (pg .sys) F.SYS.PAIR_REG_SEL_WRITE true).setFld (pg .sys) F.SYS.PAIR_REG_SEL_SPACE 3).setReg (pg .sys) R.HDR.ACCESS 0xF), .debug, ?_⟩,
    ⟨(((((({} : Dev).setFld (pg .sys) F.SYS.STATE_STATE 3).setFld (pg .debug) F.DEBUG.DBG_STATUS_LEVEL 2).setFld (pg .sys) ⟨R.SYS.PAIR_STATUS, 0,
  2⟩ 3).setFlag (pg .sys) F.SYS.PAIR_REG_SEL_WRITE false).setFld (pg .sys) F.SYS.PAIR_REG_SEL_SPACE 0), .debug, ?_⟩,
    ⟨(((((({} : Dev).setFld (pg .sys) F.SYS.STATE_STATE 3).setFld (pg .debug) F.DEBUG.DBG_STATUS_LEVEL 2).setFld (pg .sys) ⟨R.SYS.PAIR_STATUS, 0,
  2⟩ 3).setFlag (pg .sys) F.SYS.PAIR_REG_SEL_WRITE false).setFld (pg .sys) F.SYS.PAIR_REG_SEL_SPACE 3), .debug, ?_⟩⟩
  all_goals and_intros
  all_goals first | exact test_canWrite (by decide +kernel) | exact test_canRead (by decide +kernel) | decide +kernel

theorem test_InterruptsAndMailboxesRun_holds_somewhere :
    (∃ d : Dev, ∃ i : Fin 2, ∃ s : Fin 256, d.busLive = true ∧ (d.intLine i s = false ∨ d.prio i s = 0 ∨ Dev.intSource s = false)) ∧
    (∃ d : Dev, ∃ i : Fin 2, ∃ s : Fin 256, d.busLive = true ∧ d.intLine i s = true ∧ d.prio i s ≠ 0 ∧ Dev.intSource s = true ∧
      (¬(d.intPending i s = true ∨ d.intActive i s = true))) ∧
    (∃ d : Dev, ∃ i : Fin 2, ∃ s : Fin 256, d.busLive = true ∧ d.intLine i s = true ∧ d.prio i s ≠ 0 ∧ Dev.intSource s = true ∧
      ((d.intPending i s = true ∨ d.intActive i s = true))) ∧
    (∃ d : Dev, ∃ s : Fin 256, ∃ s' : Fin 256, d.busLive = true ∧ s' ≠ s) ∧
    (∃ d : Dev, ∃ i : Fin 2, d.busLive = true ∧ d.intReady i = none) ∧
    (∃ d : Dev, ∃ i : Fin 2, ∃ s : Nat, ∃ s' : Nat, d.busLive = true ∧ d.intReady i = some s ∧ d.intPending i s' = true) ∧
    (∃ d : Dev, ∃ i : Fin 2, ∃ s : Nat, d.busLive = true ∧ d.intReady i = some s ∧ (¬(d.pairRuns i = true ∧
      ((d.coreS i).mach = false ∨ bitAt (d.coreS i).mstatus 3 = true) ∧ bitAt (d.coreS i).mie 11 = true))) ∧
    (∃ d : Dev, ∃ i : Fin 2, ∃ s : Nat, d.busLive = true ∧ d.intReady i = some s ∧ ((d.pairRuns i = true ∧
      ((d.coreS i).mach = false ∨ bitAt (d.coreS i).mstatus 3 = true) ∧ bitAt (d.coreS i).mie 11 = true))) ∧
    (∃ d : Dev, ∃ i : Fin 2, d.busLive = true ∧
      (d.fld (pg .intc i) F.INTC.TICK_PERIOD = 0 ∨ d.now < (vget d.comp.tickAt i.val 0 + 400 * d.fld (pg .intc i) F.INTC.TICK_PERIOD))) ∧
    (∃ d : Dev, ∃ i : Fin 2, d.busLive = true ∧ d.fld (pg .intc i) F.INTC.TICK_PERIOD ≠ 0 ∧
      (vget d.comp.tickAt i.val 0 + 400 * d.fld (pg .intc i) F.INTC.TICK_PERIOD) ≤ d.now) ∧
    (∃ d : Dev, ∃ m : Master, ∃ i : Fin 2, ∃ s : Fin 256, d.busLive = true ∧ d.CanWrite m .intc i R.INTC.EOI ∧ d.intActive i s = false) ∧
    (∃ d : Dev, ∃ m : Master, ∃ i : Fin 2, ∃ s : Fin 256, d.busLive = true ∧ d.CanWrite m .intc i R.INTC.EOI ∧ d.intActive i s = true ∧
      (d.intStack i).head? = some s.val) ∧
    (∃ d : Dev, ∃ m : Master, ∃ i : Fin 2, ∃ s : Fin 256, d.busLive = true ∧ d.CanWrite m .intc i R.INTC.EOI ∧ d.intActive i s = true ∧
      (d.intStack i).head? ≠ some s.val) ∧
    (∃ d : Dev, ∃ m : Master, ∃ i : Fin 2, d.busLive = true ∧ d.CanWrite m .intc i R.INTC.CLR_PEND) ∧
    (∃ d : Dev, ∃ m : Master, ∃ i : Fin 2, d.busLive = true ∧ d.CanWrite m .intc i R.INTC.SWI) ∧
    (∃ d : Dev, ∃ m : Master, ∃ i : Fin 2, ∃ k : Fin 32, d.busLive = true ∧ d.CanWrite m .intc i (R.INTC.PRIO + 4 * k.val)) ∧
    (∃ d : Dev, ∃ m : Master, ∃ n : Fin 8, d.busLive = true ∧ d.CanRead m .mbox n R.MBOX.LOCK ∧ d.flag (pg .mbox n) F.HDR.CTRL_ENABLE = false) ∧
    (∃ d : Dev, ∃ m : Master, ∃ n : Fin 8, d.busLive = true ∧ d.CanRead m .mbox n R.MBOX.LOCK ∧ d.flag (pg .mbox n) F.HDR.CTRL_ENABLE = true ∧
      d.mbState n = 0) ∧
    (∃ d : Dev, ∃ m : Master, ∃ n : Fin 8, d.busLive = true ∧ d.CanRead m .mbox n R.MBOX.LOCK ∧ d.flag (pg .mbox n) F.HDR.CTRL_ENABLE = true ∧
      d.mbState n ≠ 0 ∧ (d.mbHolder n = m.cls)) ∧
    (∃ d : Dev, ∃ m : Master, ∃ n : Fin 8, d.busLive = true ∧ d.CanRead m .mbox n R.MBOX.LOCK ∧ d.flag (pg .mbox n) F.HDR.CTRL_ENABLE = true ∧
      d.mbState n ≠ 0 ∧ ¬(d.mbHolder n = m.cls)) ∧
    (∃ d : Dev, ∃ m : Master, ∃ n : Fin 8, d.busLive = true ∧ d.CanWrite m .mbox n R.MBOX.LOCK ∧ d.mbState n = 1 ∧ (d.mbHolder n = m.cls)) ∧
    (∃ d : Dev, ∃ m : Master, ∃ n : Fin 8, d.busLive = true ∧ d.CanWrite m .mbox n R.MBOX.LOCK ∧ ¬(d.mbState n = 1 ∧ (d.mbHolder n = m.cls))) ∧
    (∃ d : Dev, ∃ m : Master, ∃ n : Fin 8, ∃ k : Fin 16, d.busLive = true ∧ d.CanWrite m .mbox n (R.MBOX.MSG + 4 * k.val) ∧ d.mbState n = 1 ∧
      (d.mbHolder n = m.cls)) ∧
    (∃ d : Dev, ∃ m : Master, ∃ n : Fin 8, ∃ k : Fin 16, d.busLive = true ∧ d.CanWrite m .mbox n (R.MBOX.MSG + 4 * k.val) ∧ ¬(d.mbState n = 1 ∧
      (d.mbHolder n = m.cls))) ∧
    (∃ d : Dev, ∃ m : Master, ∃ n : Fin 8, d.busLive = true ∧ d.CanWrite m .mbox n R.MBOX.DB_SET ∧ (d.mbState n = 1 ∨ d.mbState n = 2) ∧
      (d.mbHolder n = m.cls)) ∧
    (∃ d : Dev, ∃ m : Master, ∃ n : Fin 8, d.busLive = true ∧ d.CanWrite m .mbox n R.MBOX.DB_SET ∧ (¬((d.mbState n = 1 ∨ d.mbState n = 2) ∧
      (d.mbHolder n = m.cls)))) ∧
    (∃ d : Dev, ∃ m : Master, ∃ n : Fin 8, d.busLive = true ∧ d.CanWrite m .mbox n R.MBOX.DONE ∧ d.mbState n = 2 ∧ ¬(d.mbHolder n = m.cls)) ∧
    (∃ d : Dev, ∃ m : Master, ∃ n : Fin 8, d.busLive = true ∧ d.CanWrite m .mbox n R.MBOX.DONE ∧ ¬(d.mbState n = 2 ∧ ¬(d.mbHolder n = m.cls))) ∧
    (∃ d : Dev, ∃ n : Fin 8, d.busLive = true ∧ ¬(d.mbState n = 1 ∧ d.fld (pg .mbox n) F.MBOX.CFG_TIMEOUT ≠ 0 ∧
      (vget d.comp.lockAt n.val 0 + 400000 * d.fld (pg .mbox n) F.MBOX.CFG_TIMEOUT) ≤ d.now)) ∧
    (∃ d : Dev, ∃ n : Fin 8, d.busLive = true ∧ d.mbState n = 1 ∧ d.fld (pg .mbox n) F.MBOX.CFG_TIMEOUT ≠ 0 ∧
      (vget d.comp.lockAt n.val 0 + 400000 * d.fld (pg .mbox n) F.MBOX.CFG_TIMEOUT) ≤ d.now) := by
  refine ⟨⟨({} : Dev), 0, 0, ?_⟩,
    ⟨(((((({} : Dev).setFld (pg .sys) F.SYS.STATE_STATE 3).setReg (pg .clk) R.HDR.INT_ROUTE 1).setReg (pg .clk) R.HDR.EVENT 1).setReg (pg .clk) R.HDR.EVENT_MASK 1).setReg (pg .intc 0) R.INTC.PRIO 0x00009000),
  0, 3, ?_⟩,
    ⟨((((((({} : Dev).setFld (pg .sys) F.SYS.STATE_STATE 3).setReg (pg .clk) R.HDR.INT_ROUTE 1).setReg (pg .clk) R.HDR.EVENT 1).setReg (pg .clk) R.HDR.EVENT_MASK 1).setReg (pg .intc 0) R.INTC.PRIO 0x00009000).setReg (pg .intc 0) R.INTC.PENDING 8),
  0, 3, ?_⟩,
    ⟨({} : Dev), 0, 1, ?_⟩,
    ⟨({} : Dev), 0, ?_⟩,
    ⟨(((({} : Dev).setFld (pg .sys) F.SYS.STATE_STATE 3).setReg (pg .intc 0) R.INTC.PRIO 0x00009000).setReg (pg .intc 0) R.INTC.PENDING 8), 0, 3, 3, ?_⟩,
    ⟨(((({} : Dev).setFld (pg .sys) F.SYS.STATE_STATE 3).setReg (pg .intc 0) R.INTC.PRIO 0x00009000).setReg (pg .intc 0) R.INTC.PENDING 8), 0, 3, ?_⟩,
    ⟨(((((({} : Dev).setFld (pg .sys) F.SYS.STATE_STATE 3).setReg (pg .intc 0) R.INTC.PRIO 0x00009000).setReg (pg .intc 0) R.INTC.PENDING 8).setFld (pg .sys) ⟨R.SYS.PAIR_STATUS,
  0, 2⟩ 1).modCore 0 (fun c => { c with mstatus := 0x1808, mie := 0x800 })), 0, 3, ?_⟩,
    ⟨(({} : Dev).setFld (pg .intc 0) F.INTC.TICK_PERIOD (0)), 0, ?_⟩,
    ⟨({ (({} : Dev).setFld (pg .intc 0) F.INTC.TICK_PERIOD (1)) with now := 10000000000000 } : Dev), 0, ?_⟩,
    ⟨({} : Dev), .ctrl, 0, 0, ?_⟩,
    ⟨(({ ((({} : Dev).setFld (pg .sys) F.SYS.STATE_STATE 3).setReg (pg .intc 0) R.INTC.ACTIVE 8) with comp.stack := vmod ((({} : Dev).setFld (pg .sys) F.SYS.STATE_STATE 3).setReg (pg .intc 0) R.INTC.ACTIVE 8).comp.stack 0 (fun _ => [3]) } : Dev)),
  .ctrl, 0, 3, ?_⟩,
    ⟨((({} : Dev).setFld (pg .sys) F.SYS.STATE_STATE 3).setReg (pg .intc 0) R.INTC.ACTIVE 8), .ctrl, 0, 3, ?_⟩,
    ⟨({} : Dev), .ctrl, 0, ?_⟩,
    ⟨({} : Dev), .ctrl, 0, ?_⟩,
    ⟨({} : Dev), .ctrl, 0, 0, ?_⟩,
    ⟨(({} : Dev).setFlag (pg .mbox 0) F.HDR.CTRL_ENABLE false), .ctrl, 0, ?_⟩,
    ⟨((({} : Dev).setFlag (pg .mbox 0) F.HDR.CTRL_ENABLE true).setFld (pg .mbox (0)) F.MBOX.STATE_STATE (0)), .ctrl, 0, ?_⟩,
    ⟨(((({} : Dev).setFlag (pg .mbox 0) F.HDR.CTRL_ENABLE true).setFld (pg .mbox (0)) F.MBOX.STATE_STATE 1).setFld (pg .mbox 0) F.MBOX.STATE_HOLDER 2),
  .ctrl, 0, ?_⟩,
    ⟨((({} : Dev).setFlag (pg .mbox 0) F.HDR.CTRL_ENABLE true).setFld (pg .mbox (0)) F.MBOX.STATE_STATE 1), .ctrl, 0, ?_⟩,
    ⟨((({} : Dev).setFld (pg .mbox (0)) F.MBOX.STATE_STATE (1)).setFld (pg .mbox 0) F.MBOX.STATE_HOLDER 2), .ctrl, 0, ?_⟩,
    ⟨({} : Dev), .ctrl, 0, ?_⟩,
    ⟨((({} : Dev).setFld (pg .mbox (0)) F.MBOX.STATE_STATE (1)).setFld (pg .mbox 0) F.MBOX.STATE_HOLDER 2), .ctrl, 0, 0, ?_⟩,
    ⟨({} : Dev), .ctrl, 0, 0, ?_⟩,
    ⟨((({} : Dev).setFld (pg .mbox (0)) F.MBOX.STATE_STATE (1)).setFld (pg .mbox 0) F.MBOX.STATE_HOLDER 2), .ctrl, 0, ?_⟩,
    ⟨({} : Dev), .ctrl, 0, ?_⟩,
    ⟨(({} : Dev).setFld (pg .mbox (0)) F.MBOX.STATE_STATE (2)), .ctrl, 0, ?_⟩,
    ⟨({} : Dev), .ctrl, 0, ?_⟩,
    ⟨({ (({} : Dev).setFld (pg .mbox 0) F.MBOX.CFG_TIMEOUT (1)) with now := 10000000000000 } : Dev), 0, ?_⟩,
    ⟨({ ((({} : Dev).setFld (pg .mbox (0)) F.MBOX.STATE_STATE (1)).setFld (pg .mbox 0) F.MBOX.CFG_TIMEOUT (1)) with now := 10000000000000 } : Dev), 0, ?_⟩⟩
  all_goals and_intros
  all_goals first | exact test_canWrite (by decide +kernel) | exact test_canRead (by decide +kernel) | decide +kernel

theorem test_StoreCommandsRun_holds_somewhere :
    (∃ d : Dev, ∃ m : Master, d.CanWrite m .mram 0 R.MRAM.CMD ∧ d.mram.job ≠ .none) ∧
    (∃ d : Dev, ∃ m : Master, d.CanWrite m .mram 0 R.MRAM.CMD ∧ d.mram.job = .none ∧
      ((((d.reg (pg .mram) R.MRAM.ADDR m.cls).toNat) % 4 ≠ 0 ∨ ((d.reg (pg .mram) R.MRAM.LEN m.cls).toNat) % 4 ≠ 0 ∨ ((d.reg (pg .mram) R.MRAM.LEN m.cls).toNat) < 4 ∨ 256 < ((d.reg (pg .mram) R.MRAM.LEN m.cls).toNat) ∨ 0x40000 < ((d.reg (pg .mram) R.MRAM.ADDR m.cls).toNat) + ((d.reg (pg .mram) R.MRAM.LEN m.cls).toNat)))) ∧
    (∃ d : Dev, ∃ m : Master, d.CanWrite m .mram 0 R.MRAM.CMD ∧ d.mram.job = .none ∧
      (¬(((d.reg (pg .mram) R.MRAM.ADDR m.cls).toNat) % 4 ≠ 0 ∨ ((d.reg (pg .mram) R.MRAM.LEN m.cls).toNat) % 4 ≠ 0 ∨ ((d.reg (pg .mram) R.MRAM.LEN m.cls).toNat) < 4 ∨ 256 < ((d.reg (pg .mram) R.MRAM.LEN m.cls).toNat) ∨ 0x40000 < ((d.reg (pg .mram) R.MRAM.ADDR m.cls).toNat) + ((d.reg (pg .mram) R.MRAM.LEN m.cls).toNat))) ∧
      d.mramProtected ((d.reg (pg .mram) R.MRAM.ADDR m.cls).toNat) ((d.reg (pg .mram) R.MRAM.LEN m.cls).toNat) = true) ∧
    (∃ d : Dev, ∃ m : Master, d.CanWrite m .mram 0 R.MRAM.CMD ∧ d.mram.job = .none ∧
      (¬(((d.reg (pg .mram) R.MRAM.ADDR m.cls).toNat) % 4 ≠ 0 ∨ ((d.reg (pg .mram) R.MRAM.LEN m.cls).toNat) % 4 ≠ 0 ∨ ((d.reg (pg .mram) R.MRAM.LEN m.cls).toNat) < 4 ∨ 256 < ((d.reg (pg .mram) R.MRAM.LEN m.cls).toNat) ∨ 0x40000 < ((d.reg (pg .mram) R.MRAM.ADDR m.cls).toNat) + ((d.reg (pg .mram) R.MRAM.LEN m.cls).toNat))) ∧
      d.mramProtected ((d.reg (pg .mram) R.MRAM.ADDR m.cls).toNat) ((d.reg (pg .mram) R.MRAM.LEN m.cls).toNat) = false ∧ ((∃ r < 16,
      d.srOn r = true ∧ Dev.areasMeet (((d.reg (pg .mram) R.MRAM.ADDR m.cls).toNat),
      ((d.reg (pg .mram) R.MRAM.LEN m.cls).toNat)) (d.srArea r) = true))) ∧
    (∃ d : Dev, ∃ m : Master, d.CanWrite m .mram 0 R.MRAM.CMD ∧ d.mram.job = .none ∧
      (¬(((d.reg (pg .mram) R.MRAM.ADDR m.cls).toNat) % 4 ≠ 0 ∨ ((d.reg (pg .mram) R.MRAM.LEN m.cls).toNat) % 4 ≠ 0 ∨ ((d.reg (pg .mram) R.MRAM.LEN m.cls).toNat) < 4 ∨ 256 < ((d.reg (pg .mram) R.MRAM.LEN m.cls).toNat) ∨ 0x40000 < ((d.reg (pg .mram) R.MRAM.ADDR m.cls).toNat) + ((d.reg (pg .mram) R.MRAM.LEN m.cls).toNat))) ∧
      d.mramProtected ((d.reg (pg .mram) R.MRAM.ADDR m.cls).toNat) ((d.reg (pg .mram) R.MRAM.LEN m.cls).toNat) = false ∧ (¬(∃ r < 16,
      d.srOn r = true ∧ Dev.areasMeet (((d.reg (pg .mram) R.MRAM.ADDR m.cls).toNat),
      ((d.reg (pg .mram) R.MRAM.LEN m.cls).toNat)) (d.srArea r) = true))) ∧
    (∃ d : Dev, ∃ m : Master, ∃ r : Fin 16, d.CanWrite m .mram 0 R.MRAM.CMD ∧ d.mram.job = .none ∧ d.srOn r = false) ∧
    (∃ d : Dev, ∃ m : Master, ∃ r : Fin 16, d.CanWrite m .mram 0 R.MRAM.CMD ∧ d.mram.job = .none ∧ d.srOn r = true ∧
      d.mramProtected (d.slotOfs r (if (d.flag (pg .mram) (F.MRAM.SR_STATUS_EMPTY.at r)) then 0 else (d.fld (pg .mram) (F.MRAM.SR_STATUS_NEWEST.at r) + 1) % d.slotCount r)) (d.slotSize r) = true) ∧
    (∃ d : Dev, ∃ m : Master, ∃ r : Fin 16, d.CanWrite m .mram 0 R.MRAM.CMD ∧ d.mram.job = .none ∧ d.srOn r = true ∧
      d.mramProtected (d.slotOfs r (if (d.flag (pg .mram) (F.MRAM.SR_STATUS_EMPTY.at r)) then 0 else (d.fld (pg .mram) (F.MRAM.SR_STATUS_NEWEST.at r) + 1) % d.slotCount r)) (d.slotSize r) = false) ∧
    (∃ d : Dev, ∃ m : Master, ∃ ring, d.CanWrite m .mram 0 R.MRAM.CMD ∧ ring < 256) ∧
    (∃ d : Dev, ∃ m : Master, ∃ r : Fin 16, ∃ w : Word, d.CanWrite m .mram 0 (R.MRAM.SR_CFG + 4 * r.val) ∧ d.srOn r = true ∧
      bitsOf w.toNat 4 14 = bitsOf (d.reg (pg .mram) (R.MRAM.SR_CFG + 4 * r.val)).toNat 4 14 ∧
      bitsOf w.toNat 20 12 = bitsOf (d.reg (pg .mram) (R.MRAM.SR_CFG + 4 * r.val)).toNat 20 12) ∧
    (∃ d : Dev, ∃ m : Master, ∃ r : Fin 16, ∃ w : Word, d.CanWrite m .mram 0 (R.MRAM.SR_CFG + 4 * r.val) ∧ d.srOn r = true ∧
      ¬(bitsOf w.toNat 4 14 = bitsOf (d.reg (pg .mram) (R.MRAM.SR_CFG + 4 * r.val)).toNat 4 14 ∧
      bitsOf w.toNat 20 12 = bitsOf (d.reg (pg .mram) (R.MRAM.SR_CFG + 4 * r.val)).toNat 20 12)) ∧
    (∃ d : Dev, ∃ m : Master, ∃ r : Fin 16, ∃ w : Word, d.CanWrite m .mram 0 (R.MRAM.SR_CFG + 4 * r.val) ∧ d.srOn r = false ∧
      4 ≤ bitsOf w.toNat 20 4 ∧ bitsOf w.toNat 20 4 ≤ 8 ∧ 1 ≤ bitsOf w.toNat 24 8) ∧
    (∃ d : Dev, d.now < d.mram.jobAt + d.mramClocks) ∧
    (∃ d : Dev, ∃ q, d.busLive = true ∧ d.mram.jobAt + d.mramClocks ≤ d.now ∧ q < 16 ∧ d.mram.job = .scan q ∧ d.mram.scanQ = []) ∧
    (∃ d : Dev, d.busLive = true ∧ d.mram.jobAt + d.mramClocks ≤ d.now ∧ ((∀ q, d.mram.job ≠ .scan q)) ∧ ((∀ w q, d.mram.job ≠ .rescan w q))) ∧
    (∃ d : Dev, d.busLive = true ∧ d.mram.jobAt + d.mramClocks ≤ d.now ∧ ((d.mram.job = .none ∨ ∃ q, d.mram.job = .scan q))) ∧
    (∃ d : Dev, ∃ f : MramFacts, ∃ w : Master, ∃ y : Nat, ∃ l : List Nat, d.busLive = true ∧ d.mram.jobAt + d.mramClocks ≤ d.now ∧
      d.mram.scanQ = [] ∧ d.mram.stalled = [] ∧ f.bad = none ∧ d.mram.job = .write w y l ∧ l.length ≤ 256) ∧
    (∃ d : Dev, ∃ f : MramFacts, ∃ w : Master, ∃ q : Nat, d.busLive = true ∧ d.mram.jobAt + d.mramClocks ≤ d.now ∧ d.mram.scanQ = [] ∧
      d.mram.stalled = [] ∧ f.bad = none ∧ q < 16 ∧ d.mram.job = .srRead w q ∧ d.flag (pg .mram) (F.MRAM.SR_STATUS_EMPTY.at q) = true) ∧
    (∃ d : Dev, ∃ f : MramFacts, ∃ w : Master, ∃ q : Nat, d.busLive = true ∧ d.mram.jobAt + d.mramClocks ≤ d.now ∧ d.mram.scanQ = [] ∧
      d.mram.stalled = [] ∧ f.bad = none ∧ q < 16 ∧ d.mram.job = .srRead w q ∧ d.flag (pg .mram) (F.MRAM.SR_STATUS_EMPTY.at q) = false ∧
      d.slotSize q ≤ 256 ∧ d.slotValid q (d.fld (pg .mram) (F.MRAM.SR_STATUS_NEWEST.at q)) (f.ue.map (·.val)) = true) ∧
    (∃ d : Dev, d.busLive = false) ∧
    (∃ d : Dev, ∃ m : Master, ∃ y : BitVec 18, ∃ size : Fin 3, d.busLive = true ∧ ¬(d.reaches m (mramBase + y.toNat) (2 ^ size.val) false = true ∧
      y.toNat % (2 ^ size.val) = 0)) ∧
    (∃ d : Dev, ∃ m : Master, ∃ y : BitVec 18, ∃ size : Fin 3, d.busLive = true ∧ (d.reaches m (mramBase + y.toNat) (2 ^ size.val) false = true ∧
      y.toNat % (2 ^ size.val) = 0) ∧ d.jobWrites = none) ∧
    (∃ d : Dev, ∃ m : Master, ∃ y : BitVec 18, ∃ size : Fin 3, ∃ b : Nat, ∃ l : List Nat, ∃ us : List Nat, d.busLive = true ∧
      (d.reaches m (mramBase + y.toNat) (2 ^ size.val) false = true ∧ y.toNat % (2 ^ size.val) = 0) ∧ d.jobWrites = some (b, l, us) ∧
      Dev.areasMeet (y.toNat, (2 ^ size.val)) (b, l.length) = true) := by
  refine ⟨⟨(({ (({} : Dev).setFld (pg .sys) F.SYS.STATE_STATE 3) with mram.job := .scan 0 } : Dev)), .ctrl, ?_⟩,
    ⟨({ ({} : Dev) with mram.job := .none } : Dev), .ctrl, ?_⟩,
    ⟨(((({} : Dev).setFld (pg .sys) F.SYS.STATE_STATE 3).setReg (pg .mram) R.MRAM.LEN 4 2).setFld (pg .mram) F.MRAM.PROTECT_BP 3), .ctrl, ?_⟩,
    ⟨((((({} : Dev).setFld (pg .sys) F.SYS.STATE_STATE 3).setReg (pg .mram) R.MRAM.LEN 4 2).setFld (pg .mram) F.MRAM.PROTECT_BP 0).setReg (pg .mram) R.MRAM.SR_CFG 0x01400001),
  .ctrl, ?_⟩,
    ⟨(((({} : Dev).setFld (pg .sys) F.SYS.STATE_STATE 3).setReg (pg .mram) R.MRAM.LEN 4 2).setFld (pg .mram) F.MRAM.PROTECT_BP 0), .ctrl, ?_⟩,
    ⟨({ ({} : Dev) with mram.job := .none } : Dev), .ctrl, 0, ?_⟩,
    ⟨(((({} : Dev).setFld (pg .sys) F.SYS.STATE_STATE 3).setReg (pg .mram) R.MRAM.SR_CFG 0x01400001).setFld (pg .mram) F.MRAM.PROTECT_BP 3), .ctrl, 0, ?_⟩,
    ⟨(((({} : Dev).setFld (pg .sys) F.SYS.STATE_STATE 3).setReg (pg .mram) R.MRAM.SR_CFG 0x01400001).setFld (pg .mram) F.MRAM.PROTECT_BP 0), .ctrl, 0, ?_⟩,
    ⟨({} : Dev), .ctrl, 0, ?_⟩,
    ⟨((({} : Dev).setFld (pg .sys) F.SYS.STATE_STATE 3).setReg (pg .mram) R.MRAM.SR_CFG 0x01400001), .ctrl, 0, 0x01400001, ?_⟩,
    ⟨((({} : Dev).setFld (pg .sys) F.SYS.STATE_STATE 3).setReg (pg .mram) R.MRAM.SR_CFG 0x01400001), .ctrl, 0, 0, ?_⟩,
    ⟨(({} : Dev).setFld (pg .sys) F.SYS.STATE_STATE 3), .ctrl, 0, 0x01400001, ?_⟩,
    ⟨(({ ({} : Dev) with mram.job := .write .ctrl 0 [1, 2, 3, 4] } : Dev)), ?_⟩,
    ⟨({ (({ (({} : Dev).setFld (pg .sys) F.SYS.STATE_STATE 3) with mram.job := .scan 0 } : Dev)) with now := 10000000000000 } : Dev), 0, ?_⟩,
    ⟨({ (({} : Dev).setFld (pg .sys) F.SYS.STATE_STATE 3) with now := 10000000000000 } : Dev), ?_⟩,
    ⟨({ (({} : Dev).setFld (pg .sys) F.SYS.STATE_STATE 3) with now := 10000000000000 } : Dev), ?_⟩,
    ⟨({ (({ (({} : Dev).setFld (pg .sys) F.SYS.STATE_STATE 3) with mram.job := .write .ctrl 0 [1, 2, 3, 4] } : Dev)) with now := 10000000000000 } : Dev), {},
  .ctrl, 0, [1, 2, 3, 4], ?_⟩,
    ⟨({ (((({ (({} : Dev).setFld (pg .sys) F.SYS.STATE_STATE 3) with mram.job := .srRead .ctrl 0 } : Dev)).setReg (pg .mram) R.MRAM.SR_CFG 0x01400001).setFlag (pg .mram) (F.MRAM.SR_STATUS_EMPTY.at 0) true) with now := 10000000000000 } : Dev), {},
  .ctrl, 0, ?_⟩,
    ⟨({ (({ (((({ (({} : Dev).setFld (pg .sys) F.SYS.STATE_STATE 3) with mram.job := .srRead .ctrl 0 } : Dev)).setReg (pg .mram) R.MRAM.SR_CFG 0x01400001).setFlag (pg .mram) (F.MRAM.SR_STATUS_EMPTY.at 0) false) with mem := Mem.setWord (Mem.setWord [] 0x50000000 1) 0x50000004 2768289161 } : Dev)) with now := 10000000000000 } : Dev), {},
  .ctrl, 0, ?_⟩,
    ⟨(({} : Dev).setFld (pg .sys) F.SYS.STATE_STATE 1), ?_⟩,
    ⟨(({} : Dev).setFld (pg .sys) F.SYS.STATE_STATE 3), .ctrl, 1, 1, ?_⟩,
    ⟨(({} : Dev).setFld (pg .sys) F.SYS.STATE_STATE 3), .ctrl, 0, 0, ?_⟩,
    ⟨(({ (({} : Dev).setFld (pg .sys) F.SYS.STATE_STATE 3) with mram.job := .write .ctrl 0 [1, 2, 3, 4] } : Dev)), .ctrl, 0, 0, 0, [1, 2, 3, 4], [0], ?_⟩⟩
  · and_intros <;> first | exact test_canWrite (by decide +kernel) | exact test_canRead (by decide +kernel) | decide +kernel
  · and_intros <;> first | exact test_canWrite (by decide +kernel) | exact test_canRead (by decide +kernel) | decide +kernel
  · and_intros <;> first | exact test_canWrite (by decide +kernel) | exact test_canRead (by decide +kernel) | decide +kernel
  · and_intros <;> first | exact test_canWrite (by decide +kernel) | exact test_canRead (by decide +kernel) | decide +kernel
  · and_intros <;> first | exact test_canWrite (by decide +kernel) | exact test_canRead (by decide +kernel) | decide +kernel
  · and_intros <;> first | exact test_canWrite (by decide +kernel) | exact test_canRead (by decide +kernel) | decide +kernel
  · and_intros <;> first | exact test_canWrite (by decide +kernel) | exact test_canRead (by decide +kernel) | decide +kernel
  · and_intros <;> first | exact test_canWrite (by decide +kernel) | exact test_canRead (by decide +kernel) | decide +kernel
  · and_intros <;> first | exact test_canWrite (by decide +kernel) | exact test_canRead (by decide +kernel) | decide +kernel
  · and_intros <;> first | exact test_canWrite (by decide +kernel) | exact test_canRead (by decide +kernel) | decide +kernel
  · and_intros <;> first | exact test_canWrite (by decide +kernel) | exact test_canRead (by decide +kernel) | decide +kernel
  · and_intros <;> first | exact test_canWrite (by decide +kernel) | exact test_canRead (by decide +kernel) | decide +kernel
  · and_intros <;> first | exact test_canWrite (by decide +kernel) | exact test_canRead (by decide +kernel) | decide +kernel
  · and_intros <;> first | exact test_canWrite (by decide +kernel) | exact test_canRead (by decide +kernel) | decide +kernel
  · and_intros <;> first | decide +kernel | (intro q h; nomatch (show MramJob.none = .scan q from h)) | (intro w q h; nomatch (show MramJob.none = .rescan w q from h))
  · and_intros <;> first | decide +kernel | exact Or.inl (by decide +kernel)
  · and_intros <;> first | exact test_canWrite (by decide +kernel) | exact test_canRead (by decide +kernel) | decide +kernel
  · and_intros <;> first | exact test_canWrite (by decide +kernel) | exact test_canRead (by decide +kernel) | decide +kernel
  · and_intros <;> first | exact test_canWrite (by decide +kernel) | exact test_canRead (by decide +kernel) | decide +kernel
  · and_intros <;> first | exact test_canWrite (by decide +kernel) | exact test_canRead (by decide +kernel) | decide +kernel
  · and_intros <;> first | exact test_canWrite (by decide +kernel) | exact test_canRead (by decide +kernel) | decide +kernel
  · and_intros <;> first | exact test_canWrite (by decide +kernel) | exact test_canRead (by decide +kernel) | decide +kernel
  · and_intros <;> first | exact test_canWrite (by decide +kernel) | exact test_canRead (by decide +kernel) | decide +kernel

theorem test_NetworksRun_holds_somewhere :
    (∃ d : Dev, ∃ n : Fin 2, ∃ i : Nat, ∃ j, j < 29 ∧ bitAt ((d.reg (pg .can n) (R.CAN.FILT + 8 * i + 4)).toNat) j = true) ∧
    (∃ d : Dev, ∃ n : Fin 2, ∃ f : CanFrame, (d.busLive = false ∨ ¬(d.canLive n = true ∧ d.flag (pg .can n) F.CAN.MODE_LOOPBACK = false ∧
      d.fmtOn n (fmtCode f.fmt) = true))) ∧
    (∃ d : Dev, ∃ n : Fin 2, ∃ f : CanFrame, d.busLive = true ∧ (d.canLive n = true ∧ d.flag (pg .can n) F.CAN.MODE_LOOPBACK = false ∧
      d.fmtOn n (fmtCode f.fmt) = true) ∧ f.bad = true) ∧
    (∃ d : Dev, ∃ n : Fin 2, ∃ f : CanFrame, d.busLive = true ∧ (d.canLive n = true ∧ d.flag (pg .can n) F.CAN.MODE_LOOPBACK = false ∧
      d.fmtOn n (fmtCode f.fmt) = true) ∧ f.bad = false ∧ ((∀ i < 128, d.filterMatches n i f = false))) ∧
    (∃ d : Dev, ∃ n : Fin 2, ∃ f : CanFrame, ∃ i, d.busLive = true ∧ (d.canLive n = true ∧ d.flag (pg .can n) F.CAN.MODE_LOOPBACK = false ∧
      d.fmtOn n (fmtCode f.fmt) = true) ∧ f.bad = false ∧ i < 128 ∧ d.filterMatches n i f = true ∧ ((∀ j < i, d.filterMatches n j f = false)) ∧
      bitAt ((d.reg (pg .can n) (R.CAN.FILT + 8 * i + 4)).toNat) 31 = true) ∧
    (∃ d : Dev, ∃ n : Fin 2, ∃ f : CanFrame, ∃ i, d.busLive = true ∧ (d.canLive n = true ∧ d.flag (pg .can n) F.CAN.MODE_LOOPBACK = false ∧
      d.fmtOn n (fmtCode f.fmt) = true) ∧ f.bad = false ∧ i < 128 ∧ d.filterMatches n i f = true ∧ ((∀ j < i, d.filterMatches n j f = false)) ∧
      bitAt ((d.reg (pg .can n) (R.CAN.FILT + 8 * i + 4)).toNat) 31 = false ∧
      d.ringProducer (bitsOf (d.reg (pg .can n) R.CAN.RX_RING).toNat (8 * bitsOf ((d.reg (pg .can n) (R.CAN.FILT + 8 * i + 4)).toNat) 29 2) 7) ≠ (pg .can n)) ∧
    (∃ d : Dev, ¬(d.busLive = true ∧ d.flag (pg .t1s) F.HDR.CTRL_ENABLE = true)) ∧
    (∃ d : Dev, ∃ f : T1sFrame, (d.busLive = true ∧ d.flag (pg .t1s) F.HDR.CTRL_ENABLE = true) ∧
      (f.fcsOk = false ∨ (f.bytes.map (·.toNat)).length < 60 ∨ 1518 < (f.bytes.map (·.toNat)).length)) ∧
    (∃ d : Dev, ∃ f : T1sFrame, (d.busLive = true ∧ d.flag (pg .t1s) F.HDR.CTRL_ENABLE = true) ∧ f.fcsOk = true ∧
      60 ≤ (f.bytes.map (·.toNat)).length ∧ (f.bytes.map (·.toNat)).length ≤ 1518 ∧ f.bad = true) ∧
    (∃ d : Dev, ∃ f : T1sFrame, (d.busLive = true ∧ d.flag (pg .t1s) F.HDR.CTRL_ENABLE = true) ∧ f.fcsOk = true ∧
      60 ≤ (f.bytes.map (·.toNat)).length ∧ (f.bytes.map (·.toNat)).length ≤ 1518 ∧ f.bad = false ∧ ¬((f.bytes.map (·.toNat)).getD 12 0 = 0x88 ∧
      (f.bytes.map (·.toNat)).getD 13 0 = 0xF7 ∧ (f.bytes.map (·.toNat)).getD 14 0 % 16 = 0) ∧
      d.t1sAccepts (Dev.dstOf (f.bytes.map (·.toNat))) = false) ∧
    (∃ d : Dev, ∃ f : T1sFrame, (d.busLive = true ∧ d.flag (pg .t1s) F.HDR.CTRL_ENABLE = true) ∧ f.fcsOk = true ∧
      60 ≤ (f.bytes.map (·.toNat)).length ∧ (f.bytes.map (·.toNat)).length ≤ 1518 ∧ f.bad = false ∧ ¬((f.bytes.map (·.toNat)).getD 12 0 = 0x88 ∧
      (f.bytes.map (·.toNat)).getD 13 0 = 0xF7 ∧ (f.bytes.map (·.toNat)).getD 14 0 % 16 = 0) ∧
      d.t1sAccepts (Dev.dstOf (f.bytes.map (·.toNat))) = true) ∧
    (∃ d : Dev, ∃ f : T1sFrame, (d.busLive = true ∧ d.flag (pg .t1s) F.HDR.CTRL_ENABLE = true) ∧ f.fcsOk = true ∧
      60 ≤ (f.bytes.map (·.toNat)).length ∧ (f.bytes.map (·.toNat)).length ≤ 1518 ∧ f.bad = false ∧ ((f.bytes.map (·.toNat)).getD 12 0 = 0x88 ∧
      (f.bytes.map (·.toNat)).getD 13 0 = 0xF7 ∧ (f.bytes.map (·.toNat)).getD 14 0 % 16 = 0) ∧
      d.t1sAccepts (Dev.dstOf (f.bytes.map (·.toNat))) = false) ∧
    (∃ d : Dev, ∃ m : Master, ∃ c : Net, ∃ k : Fin 8, ∃ ws : List Word, (match c with | .can n => d.CanWrite m .can n R.CAN.TX_CTRL | .t1s => d.CanWrite m .t1s 0 R.CAN.TX_CTRL) ∧ d.flag (Dev.netPage c) F.HDR.CTRL_ENABLE = true ∧ d.txRecord c k = some ws ∧ ((fun (ws : List Word) => ∀ j < ws.length, d.memSecure ((d.reg (Dev.netPage c) (R.CAN.TXBUF + 4 * k.val)).toNat + 4 * j) = false) ws) ∧ d.txGood c ws = true) ∧
    (∃ d : Dev, ∃ m : Master, ∃ c : Net, ∃ k : Fin 8, (match c with | .can n => d.CanWrite m .can n R.CAN.TX_CTRL | .t1s => d.CanWrite m .t1s 0 R.CAN.TX_CTRL) ∧ d.flag (Dev.netPage c) F.HDR.CTRL_ENABLE = true ∧ ((d.txRecord c k = none ∨ ∃ ws, d.txRecord c k = some ws ∧ (fun (ws : List Word) => ∀ j < ws.length, d.memSecure ((d.reg (Dev.netPage c) (R.CAN.TXBUF + 4 * k.val)).toNat + 4 * j) = false) ws ∧ d.txGood c ws = false))) ∧
    (∃ d : Dev, ∃ m : Master, ∃ c : Net, (match c with | .can n => d.CanWrite m .can n R.CAN.TX_CTRL | .t1s => d.CanWrite m .t1s 0 R.CAN.TX_CTRL) ∧ d.flag (Dev.netPage c) F.HDR.CTRL_ENABLE = false) ∧
    (∃ d : Dev, ∃ c : Net, (¬(d.busLive = true ∧ match c with | .can n => d.canLive n = true ∧ d.flag (Dev.netPage c) F.CAN.MODE_LISTEN = false ∧ d.flag (Dev.netPage c) F.CAN.MODE_RESTRICTED = false | .t1s => d.flag (Dev.netPage c) F.HDR.CTRL_ENABLE = true) ∨ (∀ k < 8, (fun (e : Dev) (k : Nat) => vget (e.netS c).tx k []) d k = []))) ∧
    (∃ d : Dev, ∃ c : Net, ∃ k : Fin 8, (d.busLive = true ∧ match c with | .can n => d.canLive n = true ∧ d.flag (Dev.netPage c) F.CAN.MODE_LISTEN = false ∧ d.flag (Dev.netPage c) F.CAN.MODE_RESTRICTED = false | .t1s => d.flag (Dev.netPage c) F.HDR.CTRL_ENABLE = true) ∧ (fun (e : Dev) (k : Nat) => vget (e.netS c).tx k []) d k ≠ [] ∧ ((∀ j < 8, (fun (e : Dev) (k : Nat) => vget (e.netS c).tx k []) d j ≠ [] → Dev.txKey c ((fun (e : Dev) (k : Nat) => vget (e.netS c).tx k []) d k) < Dev.txKey c ((fun (e : Dev) (k : Nat) => vget (e.netS c).tx k []) d j) ∨ Dev.txKey c ((fun (e : Dev) (k : Nat) => vget (e.netS c).tx k []) d k) = Dev.txKey c ((fun (e : Dev) (k : Nat) => vget (e.netS c).tx k []) d j) ∧ k.val ≤ j))) ∧
    (∃ d : Dev, ∃ n : Fin 2, ¬((d.busLive = true ∧ d.canLive n = true) ∧ d.flag (pg .can n) F.CAN.MODE_LOOPBACK = false)) ∧
    (∃ d : Dev, ∃ n : Fin 2, ((d.busLive = true ∧ d.canLive n = true) ∧ d.flag (pg .can n) F.CAN.MODE_LOOPBACK = false)) ∧
    (∃ d : Dev, ∃ n : Fin 2, ¬((d.busLive = true ∧ d.canLive n = true) ∧ (d.netS (.can n)).offDue = true)) ∧
    (∃ d : Dev, ∃ n : Fin 2, (d.busLive = true ∧ d.canLive n = true) ∧ (d.netS (.can n)).offDue = true) ∧
    (∃ d : Dev, ∃ m : Master, ∃ n : Fin 2, d.CanWrite m .can n R.CAN.CMD ∧ d.fld (pg .can n) F.CAN.ERR_ESTATE ≠ 2) ∧
    (∃ d : Dev, ∃ m : Master, ∃ n : Fin 2, d.CanWrite m .can n R.CAN.CMD ∧ d.fld (pg .can n) F.CAN.ERR_ESTATE = 2) ∧
    (∃ d : Dev, ∃ n : Fin 2, ∃ seqs : BitVec 8, (¬(d.busLive = true ∧ d.flag (pg .can n) F.HDR.CTRL_ENABLE = true ∧
      d.fld (pg .can n) F.CAN.ERR_ESTATE = 2 ∧ (d.netS (.can n)).recov = true) ∨ seqs.toNat < 128)) ∧
    (∃ d : Dev, ∃ n : Fin 2, ∃ seqs : BitVec 8, (d.busLive = true ∧ d.flag (pg .can n) F.HDR.CTRL_ENABLE = true ∧
      d.fld (pg .can n) F.CAN.ERR_ESTATE = 2 ∧ (d.netS (.can n)).recov = true) ∧ 128 ≤ seqs.toNat) ∧
    (∃ d : Dev, ∃ n : Fin 2, ∃ us : BitVec 16, d.state = 6 ∧ bitAt d.seq.wakeCan n = true ∧ vget d.seq.wakeDom n.val 0 ≤ us.toNat) ∧
    (∃ d : Dev, ∃ n : Fin 2, ∃ us : BitVec 16, (d.state ≠ 6 ∨ bitAt d.seq.wakeCan n = false ∨ us.toNat < vget d.seq.wakeDom n.val 0)) ∧
    (∃ d : Dev, ∃ us : BitVec 8, d.state = 6 ∧ d.seq.wakeHost = true ∧ 10 ≤ us.toNat) ∧
    (∃ d : Dev, ∃ us : BitVec 8, (d.state ≠ 6 ∨ d.seq.wakeHost = false ∨ us.toNat < 10)) ∧
    (∃ d : Dev, ∃ m : Master, d.CanWrite m .t1s 0 R.T1S.PTP_CMD ∧ ((d.netS .t1s).capAt = none ∨ (∃ u, (d.netS .t1s).capAt = some u ∧
      u + 400000000 < d.now))) ∧
    (∃ d : Dev, ∃ m : Master, ∃ u, d.CanWrite m .t1s 0 R.T1S.PTP_CMD ∧ (d.netS .t1s).capAt = some u ∧ d.now ≤ u + 400000000) ∧
    (∃ d : Dev, ∃ cycles : BitVec 8, (¬(d.busLive = true ∧ d.flag (pg .t1s) F.HDR.CTRL_ENABLE = true ∧
      d.flag (pg .t1s) F.T1S.MODE_PLCA_EN = true) ∨ cycles.toNat < 8)) ∧
    (∃ d : Dev, ∃ cycles : BitVec 8, (d.busLive = true ∧ d.flag (pg .t1s) F.HDR.CTRL_ENABLE = true ∧ d.flag (pg .t1s) F.T1S.MODE_PLCA_EN = true) ∧
      8 ≤ cycles.toNat) := by
  refine ⟨⟨(({} : Dev).setReg (pg .can 0) (R.CAN.FILT + 4) 1), 0, 0, 0, ?_⟩,
    ⟨((({} : Dev).setFld (pg .sys) F.SYS.STATE_STATE 1).setFlag (pg .can 0) F.CAN.MODE_LOOPBACK false), 0, {}, ?_⟩,
    ⟨(((({} : Dev).setFld (pg .sys) F.SYS.STATE_STATE 3).setFlag (pg .can 0) F.HDR.CTRL_ENABLE true).setFlag (pg .can 0) F.CAN.MODE_LOOPBACK false),
  0, { bad := true }, ?_⟩,
    ⟨(((({} : Dev).setFld (pg .sys) F.SYS.STATE_STATE 3).setFlag (pg .can 0) F.HDR.CTRL_ENABLE true).setFlag (pg .can 0) F.CAN.MODE_LOOPBACK false),
  0, {}, ?_⟩,
    ⟨(((((({} : Dev).setFld (pg .sys) F.SYS.STATE_STATE 3).setFlag (pg .can 0) F.HDR.CTRL_ENABLE true).setFlag (pg .can 0) F.CAN.MODE_LOOPBACK false).setReg (pg .can 0) R.CAN.FILT 0).setReg (pg .can 0) (R.CAN.FILT + 4) 0x80000000),
  0, {}, 0, ?_⟩,
    ⟨(((((({} : Dev).setFld (pg .sys) F.SYS.STATE_STATE 3).setFlag (pg .can 0) F.HDR.CTRL_ENABLE true).setFlag (pg .can 0) F.CAN.MODE_LOOPBACK false).setReg (pg .can 0) R.CAN.FILT 0).setReg (pg .can 0) (R.CAN.FILT + 4) 0),
  0, {}, 0, ?_⟩,
    ⟨({} : Dev), ?_⟩,
    ⟨((({} : Dev).setFld (pg .sys) F.SYS.STATE_STATE 3).setFlag (pg .t1s) F.HDR.CTRL_ENABLE true), {}, ?_⟩,
    ⟨((({} : Dev).setFld (pg .sys) F.SYS.STATE_STATE 3).setFlag (pg .t1s) F.HDR.CTRL_ENABLE true), { bytes := List.replicate 1518 0, bad := true }, ?_⟩,
    ⟨((({} : Dev).setFld (pg .sys) F.SYS.STATE_STATE 3).setFlag (pg .t1s) F.HDR.CTRL_ENABLE true), { bytes := List.replicate 60 1 }, ?_⟩,
    ⟨((({} : Dev).setFld (pg .sys) F.SYS.STATE_STATE 3).setFlag (pg .t1s) F.HDR.CTRL_ENABLE true), { bytes := List.replicate 60 0xFF }, ?_⟩,
    ⟨((({} : Dev).setFld (pg .sys) F.SYS.STATE_STATE 3).setFlag (pg .t1s) F.HDR.CTRL_ENABLE true), { bytes := List.replicate 12 1 ++ [0x88, 0xF7] ++ List.replicate 46 0 },
  ?_⟩,
    ⟨(((({} : Dev).setFld (pg .sys) F.SYS.STATE_STATE 3).setFlag (pg .can 0) F.HDR.CTRL_ENABLE true).setReg (pg .can 0) R.CAN.TXBUF 0x30000000), .ctrl,
  .can 0, 0, [0, 0, 0, 0], ?_⟩,
    ⟨(((({} : Dev).setFld (pg .sys) F.SYS.STATE_STATE 3).setFlag (pg .can 0) F.HDR.CTRL_ENABLE true).setReg (pg .can 0) R.CAN.TXBUF 0), .ctrl, .can 0, 0,
  ?_⟩,
    ⟨(({} : Dev).setFlag (Dev.netPage (.can 0 : Net)) F.HDR.CTRL_ENABLE false), .ctrl, .can 0, ?_⟩,
    ⟨({} : Dev), .can 0, ?_⟩,
    ⟨(((((({} : Dev).setFld (pg .sys) F.SYS.STATE_STATE 3).setFlag (pg .can 0) F.HDR.CTRL_ENABLE true).setFlag (pg .can 0) F.CAN.MODE_LISTEN false).setFlag (pg .can 0) F.CAN.MODE_RESTRICTED false).modNet (.can 0) (fun s => { s with tx := vmod s.tx 0 (fun _ => [0]) })),
  .can 0, 0, ?_⟩,
    ⟨({} : Dev), 0, ?_⟩,
    ⟨(((({} : Dev).setFld (pg .sys) F.SYS.STATE_STATE 3).setFlag (pg .can 0) F.HDR.CTRL_ENABLE true).setFlag (pg .can 0) F.CAN.MODE_LOOPBACK false), 0,
  ?_⟩,
    ⟨({} : Dev), 0, ?_⟩,
    ⟨(((({} : Dev).setFld (pg .sys) F.SYS.STATE_STATE 3).setFlag (pg .can 0) F.HDR.CTRL_ENABLE true).modNet (.can 0) (fun s => { s with offDue := true })),
  0, ?_⟩,
    ⟨({} : Dev), .ctrl, 0, ?_⟩,
    ⟨(({} : Dev).setFld (pg .can 0) F.CAN.ERR_ESTATE (2)), .ctrl, 0, ?_⟩,
    ⟨((({} : Dev).setFlag (pg .can 0) F.HDR.CTRL_ENABLE true).setFld (pg .can 0) F.CAN.ERR_ESTATE (2)), 0, 0, ?_⟩,
    ⟨((((({} : Dev).setFld (pg .sys) F.SYS.STATE_STATE 3).setFlag (pg .can 0) F.HDR.CTRL_ENABLE true).setFld (pg .can 0) F.CAN.ERR_ESTATE 2).modNet (.can 0) (fun s => { s with recov := true })),
  0, 128, ?_⟩,
    ⟨((({} : Dev).setFld (pg .sys) F.SYS.STATE_STATE 6).modSeq (fun s => { s with wakeCan := 1 })), 0, 65535, ?_⟩,
    ⟨({} : Dev), 0, 0, ?_⟩,
    ⟨((({} : Dev).setFld (pg .sys) F.SYS.STATE_STATE 6).modSeq (fun s => { s with wakeHost := true })), 10, ?_⟩,
    ⟨({} : Dev), 0, ?_⟩,
    ⟨({ ({} : Dev) with now := 10000000000000 } : Dev), .ctrl, ?_⟩,
    ⟨((({} : Dev).setFld (pg .sys) F.SYS.STATE_STATE 3).modNet .t1s (fun s => { s with capAt := some 0 })), .ctrl, 0, ?_⟩,
    ⟨(({} : Dev).setFlag (pg .t1s) F.HDR.CTRL_ENABLE true), 0, ?_⟩,
    ⟨(((({} : Dev).setFld (pg .sys) F.SYS.STATE_STATE 3).setFlag (pg .t1s) F.HDR.CTRL_ENABLE true).setFlag (pg .t1s) F.T1S.MODE_PLCA_EN true), 8, ?_⟩⟩
  · and_intros <;> first | exact test_canWrite (by decide +kernel) | exact test_canRead (by decide +kernel) | decide +kernel
  · and_intros <;> first | exact test_canWrite (by decide +kernel) | exact test_canRead (by decide +kernel) | decide +kernel
  · and_intros <;> first | exact test_canWrite (by decide +kernel) | exact test_canRead (by decide +kernel) | decide +kernel
  · and_intros <;> first | exact test_canWrite (by decide +kernel) | exact test_canRead (by decide +kernel) | decide +kernel
  · and_intros <;> first | exact test_canWrite (by decide +kernel) | exact test_canRead (by decide +kernel) | decide +kernel
  · and_intros <;> first | exact test_canWrite (by decide +kernel) | exact test_canRead (by decide +kernel) | decide +kernel
  · and_intros <;> first | exact test_canWrite (by decide +kernel) | exact test_canRead (by decide +kernel) | decide +kernel
  · and_intros <;> first | exact test_canWrite (by decide +kernel) | exact test_canRead (by decide +kernel) | decide +kernel
  · and_intros <;> first | exact test_canWrite (by decide +kernel) | exact test_canRead (by decide +kernel) | decide +kernel
  · and_intros <;> first | exact test_canWrite (by decide +kernel) | exact test_canRead (by decide +kernel) | decide +kernel
  · and_intros <;> first | exact test_canWrite (by decide +kernel) | exact test_canRead (by decide +kernel) | decide +kernel
  · and_intros <;> first | exact test_canWrite (by decide +kernel) | exact test_canRead (by decide +kernel) | decide +kernel
  · and_intros <;> first | exact test_canWrite (by decide +kernel) | exact test_canRead (by decide +kernel) | decide +kernel
  · and_intros <;> first | exact test_canWrite (by decide +kernel) | decide +kernel | exact Or.inl (by decide +kernel)
  · and_intros <;> first | exact test_canWrite (by decide +kernel) | exact test_canRead (by decide +kernel) | decide +kernel
  · and_intros <;> first | exact test_canWrite (by decide +kernel) | exact test_canRead (by decide +kernel) | decide +kernel
  · and_intros <;> first | exact test_canWrite (by decide +kernel) | exact test_canRead (by decide +kernel) | decide +kernel
  · and_intros <;> first | exact test_canWrite (by decide +kernel) | exact test_canRead (by decide +kernel) | decide +kernel
  · and_intros <;> first | exact test_canWrite (by decide +kernel) | exact test_canRead (by decide +kernel) | decide +kernel
  · and_intros <;> first | exact test_canWrite (by decide +kernel) | exact test_canRead (by decide +kernel) | decide +kernel
  · and_intros <;> first | exact test_canWrite (by decide +kernel) | exact test_canRead (by decide +kernel) | decide +kernel
  · and_intros <;> first | exact test_canWrite (by decide +kernel) | exact test_canRead (by decide +kernel) | decide +kernel
  · and_intros <;> first | exact test_canWrite (by decide +kernel) | exact test_canRead (by decide +kernel) | decide +kernel
  · and_intros <;> first | exact test_canWrite (by decide +kernel) | exact test_canRead (by decide +kernel) | decide +kernel
  · and_intros <;> first | exact test_canWrite (by decide +kernel) | exact test_canRead (by decide +kernel) | decide +kernel
  · and_intros <;> first | exact test_canWrite (by decide +kernel) | exact test_canRead (by decide +kernel) | decide +kernel
  · and_intros <;> first | exact test_canWrite (by decide +kernel) | exact test_canRead (by decide +kernel) | decide +kernel
  · and_intros <;> first | exact test_canWrite (by decide +kernel) | exact test_canRead (by decide +kernel) | decide +kernel
  · and_intros <;> first | exact test_canWrite (by decide +kernel) | exact test_canRead (by decide +kernel) | decide +kernel
  · and_intros <;> first | exact test_canWrite (by decide +kernel) | exact test_canRead (by decide +kernel) | decide +kernel
  · and_intros <;> first | exact test_canWrite (by decide +kernel) | exact test_canRead (by decide +kernel) | decide +kernel
  · and_intros <;> first | exact test_canWrite (by decide +kernel) | exact test_canRead (by decide +kernel) | decide +kernel
  · and_intros <;> first | exact test_canWrite (by decide +kernel) | exact test_canRead (by decide +kernel) | decide +kernel

theorem test_ChecksAndPinsRun_holds_somewhere :
    (∃ d : Dev, ∃ m : Master, ∃ n : Fin 4, d.CanWrite m .check n R.HDR.CTRL ∧ ((∀ key,
      pageKey (pg .check n) = some key → d.keyHeldBy m key = true)) ∧ d.flag (pg .check n) F.HDR.CTRL_ENABLE = false ∧ d.checkOverlap n = true) ∧
    (∃ d : Dev, ∃ m : Master, ∃ n : Fin 4, d.CanWrite m .check n R.HDR.CTRL ∧ ((∀ key,
      pageKey (pg .check n) = some key → d.keyHeldBy m key = true)) ∧ d.flag (pg .check n) F.HDR.CTRL_ENABLE = false ∧ d.checkOverlap n = false ∧
      (d.fld (pg .check n) F.CHECK.CFG_SRC = 0 ∨ d.ringOn (d.fld (pg .check n) F.CHECK.RING_CFG_RING) = true)) ∧
    (∃ d : Dev, ∃ m : Master, ∃ n : Fin 4, d.CanWrite m .check n R.CHECK.CMD ∧ ¬(d.checkFed n 0 = true)) ∧
    (∃ d : Dev, ∃ m : Master, ∃ n : Fin 4, d.CanWrite m .check n R.CHECK.CMD ∧ (d.checkFed n 0 = true) ∧
      (d.fld (pg .check n) F.CHECK.VERDICT_BAD_RUN + 1 ≠ d.fld (pg .check n) F.CHECK.CFG_BAD_MAX)) ∧
    (∃ d : Dev, ∃ m : Master, ∃ n : Fin 4, ∃ size : Fin 3, d.CanWrite m .check n (R.CHECK.DIN1 + 4 * size.val) ∧ ¬(d.checkFed n 0 = true)) ∧
    (∃ d : Dev, ∃ m : Master, ∃ n : Fin 4, ∃ size : Fin 3, d.CanWrite m .check n (R.CHECK.DIN1 + 4 * size.val) ∧ (d.checkFed n 0 = true)) ∧
    (∃ d : Dev, ∃ n : Fin 4,
      (d.busLive = false ∨ (d.checkS n).seen = none ∨ d.now < ((d.checkS n).seenAt + (d.fld (pg .check n) F.CHECK.LAYOUT_DATA_LEN + 3) / 4))) ∧
    (∃ d : Dev, ∃ n : Fin 4, ∃ ws : List Word, d.busLive = true ∧ (d.checkS n).seen = some ws ∧
      ((d.checkS n).seenAt + (d.fld (pg .check n) F.CHECK.LAYOUT_DATA_LEN + 3) / 4) ≤ d.now ∧
      (d.fld (pg .check n) F.CHECK.VERDICT_BAD_RUN + 1 ≠ d.fld (pg .check n) F.CHECK.CFG_BAD_MAX)) ∧
    (∃ s : CheckS, s.init = true) ∧
    (∃ s : CheckS, ∃ k : Nat, ∃ c : Nat, s.init = false ∧ c = (s.last + 1) % k) ∧
    (∃ s : CheckS, ∃ k : Nat, ∃ c : Nat, s.init = false ∧ c ≠ (s.last + 1) % k) ∧
    (∃ d : Dev, ∃ m : Master, ∃ k : Fin 27, d.CanWrite m .pinmux 0 (R.PINMUX.MXCFG + 4 * k.val) ∧ d.keyHeldBy m k = false) ∧
    (∃ d : Dev, ∃ m : Master, ∃ k : Fin 27, d.CanWrite m .pinmux 0 (R.PINMUX.MXCFG + 4 * k.val) ∧ d.keyHeldBy m k = true) ∧
    (∃ d : Dev, ∃ m : Master, ∃ oe : Bool, d.CanWrite m .pinmux 0 (if oe then R.PINMUX.GPIO_OE else R.PINMUX.GPIO_OUT)) ∧
    (∃ d : Dev, ∃ m : Master, d.CanWrite m .sys 0 R.SYS.AGE_CMD ∧ (d.state = 2 ∨ d.comp.ageBusy = true)) ∧
    (∃ d : Dev, ∃ m : Master, d.CanWrite m .sys 0 R.SYS.AGE_CMD ∧ d.state ≠ 2 ∧ d.comp.ageBusy = false) ∧
    (∃ d : Dev, (d.busLive = false ∨ d.comp.ageBusy = false ∨ d.now < d.comp.ageAt + 400000)) ∧
    (∃ d : Dev, d.busLive = true ∧ d.comp.ageBusy = true ∧ d.comp.ageAt + 400000 ≤ d.now) := by
  refine ⟨⟨((((((({} : Dev).setFld (pg .sys) F.SYS.STATE_STATE 3).setKey 0x2C0 0x2001).setFld (pg .check 0) F.CHECK.CFG_WIDTH 8).setFld (pg .check 0) F.CHECK.LAYOUT_2_CRC_POS 0).setFld (pg .check 0) F.CHECK.LAYOUT_DATA_OFS 0).setFld (pg .check 0) F.CHECK.LAYOUT_DATA_LEN 2),
  .ctrl, 0, ?_⟩,
    ⟨((((({} : Dev).setFld (pg .sys) F.SYS.STATE_STATE 3).setKey 0x2C0 0x2001).setFld (pg .check 0) F.CHECK.LAYOUT_2_CRC_POS 8).setFld (pg .check 0) F.CHECK.CFG_WIDTH 8),
  .ctrl, 0, ?_⟩,
    ⟨({} : Dev), .ctrl, 0, ?_⟩,
    ⟨((({} : Dev).setFld (pg .sys) F.SYS.STATE_STATE 3).setFlag (pg .check 0) F.HDR.CTRL_ENABLE true), .ctrl, 0, ?_⟩,
    ⟨({} : Dev), .ctrl, 0, 0, ?_⟩,
    ⟨((({} : Dev).setFld (pg .sys) F.SYS.STATE_STATE 3).setFlag (pg .check 0) F.HDR.CTRL_ENABLE true), .ctrl, 0, 0, ?_⟩,
    ⟨(({} : Dev).setFld (pg .sys) F.SYS.STATE_STATE 1), 0, ?_⟩,
    ⟨({ (((({} : Dev).setFld (pg .sys) F.SYS.STATE_STATE 3).setFlag (pg .check 0) F.HDR.CTRL_ENABLE true).modCheck 0 (fun s => { s with seen := some [0] })) with now := 10000000000000 } : Dev),
  0, [0], ?_⟩,
    ⟨{}, ?_⟩,
    ⟨{ init := false }, 2, 1, ?_⟩,
    ⟨{ init := false }, 2, 0, ?_⟩,
    ⟨({} : Dev), .ctrl, 0, ?_⟩,
    ⟨(({} : Dev).setKey (0) 0x2001#16), .ctrl, 0, ?_⟩,
    ⟨({} : Dev), .ctrl, true, ?_⟩,
    ⟨(({} : Dev).setFld (pg .sys) F.SYS.STATE_STATE 2), .ctrl, ?_⟩,
    ⟨({ (({} : Dev).setFld (pg .sys) F.SYS.STATE_STATE 3) with comp.ageBusy := false } : Dev), .ctrl, ?_⟩,
    ⟨(({} : Dev).setFld (pg .sys) F.SYS.STATE_STATE 1), ?_⟩,
    ⟨({ ({ ({} : Dev) with comp.ageBusy := true } : Dev) with now := 10000000000000 } : Dev), ?_⟩⟩
  · and_intros <;> first | exact test_canWrite (by decide +kernel) | decide +kernel | exact fun key h => (Option.some.inj (show some 0x2C0 = some key from h)) ▸ (by decide +kernel)
  · and_intros <;> first | exact test_canWrite (by decide +kernel) | decide +kernel | exact fun key h => (Option.some.inj (show some 0x2C0 = some key from h)) ▸ (by decide +kernel)
  · and_intros <;> first | exact test_canWrite (by decide +kernel) | exact test_canRead (by decide +kernel) | decide +kernel
  · and_intros <;> first | exact test_canWrite (by decide +kernel) | exact test_canRead (by decide +kernel) | decide +kernel
  · and_intros <;> first | exact test_canWrite (by decide +kernel) | exact test_canRead (by decide +kernel) | decide +kernel
  · and_intros <;> first | exact test_canWrite (by decide +kernel) | exact test_canRead (by decide +kernel) | decide +kernel
  · and_intros <;> first | exact test_canWrite (by decide +kernel) | exact test_canRead (by decide +kernel) | decide +kernel
  · and_intros <;> first | exact test_canWrite (by decide +kernel) | exact test_canRead (by decide +kernel) | decide +kernel
  · and_intros <;> first | exact test_canWrite (by decide +kernel) | exact test_canRead (by decide +kernel) | decide +kernel
  · and_intros <;> first | exact test_canWrite (by decide +kernel) | exact test_canRead (by decide +kernel) | decide +kernel
  · and_intros <;> first | exact test_canWrite (by decide +kernel) | exact test_canRead (by decide +kernel) | decide +kernel
  · and_intros <;> first | exact test_canWrite (by decide +kernel) | exact test_canRead (by decide +kernel) | decide +kernel
  · and_intros <;> first | exact test_canWrite (by decide +kernel) | exact test_canRead (by decide +kernel) | decide +kernel
  · and_intros <;> first | exact test_canWrite (by decide +kernel) | exact test_canRead (by decide +kernel) | decide +kernel
  · and_intros <;> first | exact test_canWrite (by decide +kernel) | exact test_canRead (by decide +kernel) | decide +kernel
  · and_intros <;> first | exact test_canWrite (by decide +kernel) | exact test_canRead (by decide +kernel) | decide +kernel
  · and_intros <;> first | exact test_canWrite (by decide +kernel) | exact test_canRead (by decide +kernel) | decide +kernel
  · and_intros <;> first | exact test_canWrite (by decide +kernel) | exact test_canRead (by decide +kernel) | decide +kernel

theorem test_StepRunsFront_holds_somewhere :
    ∃ d : Dev, d.busLive = false := by
  refine ⟨(({} : Dev).setFld (pg .sys) F.SYS.STATE_STATE 1), ?_⟩
  all_goals and_intros
  all_goals first | exact test_canWrite (by decide +kernel) | exact test_canRead (by decide +kernel) | decide +kernel

theorem test_ResetKeepsInvariant_holds_somewhere :
    ∃ a, keySafety a = false := by
  refine ⟨0, ?_⟩
  all_goals and_intros
  all_goals first | exact test_canWrite (by decide +kernel) | exact test_canRead (by decide +kernel) | decide +kernel

theorem test_EveryStepKeepsInvariant_holds_somewhere :
    ∃ s : State, ∃ t : State, s.Inv ∧ step s = .next t := by
  refine ⟨State.reset, { State.reset with dev := State.reset.dev.clockTick }, ?_⟩
  · exact ⟨⟨by decide +kernel, keysOk_reset⟩, rfl⟩

/-! ## Operands that cannot occur -/

theorem test_wf_refuses_sysCmd : Instr.wf (.sysCmdInvalid .ctrl 0x5A3C0001) = false := by decide +kernel

theorem test_wf_refuses_claimTag : Instr.wf (.claim .ctrl 0x40 0) = false := by decide +kernel

theorem test_wf_refuses_claimPage : Instr.wf (.claim .ctrl 0x03 0x2001) = false := by decide +kernel

theorem test_wf_refuses_claimSetTag : Instr.wf (.claimSet .ctrl 0 0) = false := by decide +kernel

theorem test_wf_refuses_writeAlignment : Instr.wf (.registerWrite .ctrl 0x40003001 0 {}) = false := by decide +kernel

theorem test_wf_refuses_enablePage : Instr.wf (.enableWrite .ctrl 0xFF true) = false := by decide +kernel

theorem test_wf_refuses_slotFlaws : Instr.wf (.angleSlot [⟨0, .single⟩, ⟨0, .double⟩]) = false := by decide +kernel

theorem test_wf_refuses_flawEntry : Instr.wf (.angleSlot [⟨16384, .single⟩]) = false := by decide +kernel

theorem test_wf_refuses_hibScan : Instr.wf (.hibScanCycle (List.replicate 41 (0, 0))) = false := by decide +kernel

theorem test_wf_refuses_pilotPeriod : Instr.wf (.pilotPeriod 0 0 2 1) = false := by decide +kernel

theorem test_wf_refuses_faultEvent : Instr.wf (.faultEvent 511 .begins 0) = false := by decide +kernel

theorem test_wf_refuses_header : Instr.wf (.bootHeader 0 []) = false := by decide +kernel

theorem test_wf_refuses_segment : Instr.wf (.bootSegment 0 0 2 [0, 0, 0, 0]) = false := by decide +kernel

theorem test_wf_refuses_colophon : Instr.wf (.bootColophon 0 []) = false := by decide +kernel

theorem test_wf_refuses_fragment : Instr.wf (.bootFragment .port true true 0 []) = false := by decide +kernel

theorem test_wf_refuses_response : Instr.wf (.sessResponse 0 []) = false := by decide +kernel

theorem test_wf_refuses_pulses : Instr.wf (.otpCommandDone { pulses := 9 }) = false := by decide +kernel

theorem test_wf_refuses_sensedWord : Instr.wf (.stepEnd 0 [(1024, 0)]) = false := by decide +kernel

theorem test_wf_refuses_sensedWordAgain : Instr.wf (.otpCommandDone { diff := [(1024, 0)] }) = false := by decide +kernel

theorem test_wf_refuses_memoryAlignment : Instr.wf (.memoryRead (.master .ctrl) 0x20000002 .clean 0) = false := by decide +kernel

theorem test_wf_refuses_halfwordAlignment : Instr.wf (.subwordStore .ctrl 0x20000001 true 0 .clean 0) = false := by decide +kernel

theorem test_wf_refuses_scrubAlignment : Instr.wf (.scrubPass [⟨0x20000001, false, 0⟩]) = false := by decide +kernel

theorem test_wf_refuses_windowAlignment : Instr.wf (.mramWindowRead (.master .ctrl) 2 2 .clean 0) = false := by decide +kernel

theorem test_wf_refuses_canLength : Instr.wf (.canFrameReceived 0 { data := List.replicate 9 0 }) = false := by decide +kernel

theorem test_wf_refuses_t1sLength : Instr.wf (.t1sFrameReceived { bytes := List.replicate 2048 0 }) = false := by decide +kernel

theorem test_wf_refuses_readLength : Instr.wf (.read 0 16385 0x40003000) = false := by decide +kernel

theorem test_wf_refuses_writeLength : Instr.wf (.write 0 0x40003000 (List.replicate 16385 0)) = false := by decide +kernel

/-! ## Values that the spec works out -/

/-- RING[37] is page 0xA5 (the example at R26). -/
theorem test_page_of_ring_37 : pg .ring 37 = 0xA5 := by decide +kernel

/-- TILE_OUTPUT of TILE[5] is source 193, DOM_UV of DOM[7] source 73 (the example at R396). -/
theorem test_source_numbers : srcNo .tile 5 2 = 193 ∧ srcNo .dom 7 0 = 73 := by decide +kernel

/-- INC of 50 Hz (the example at R48). -/
theorem test_inc_of_50_hz : tbInc 0x00320000 = 35184372 := by decide +kernel

/-- The catch-up of the example at R63: no grid angle 0 suits the running folio, the second one suits the next. -/
theorem test_catch_up : slewTarget 10000 25536 = none ∧ slewTarget 35536 65536 = some 95536 := by decide +kernel

/-- The bin word of the example at R209: 24 results summing to 284,413 in folio 1,217. -/
theorem test_bin_word : (Dev.binWord (some { folio := 1217, idx := 341, sum := 284413, n := 24 }) 0 1217).2 = 0x10182E4B := by
  decide +kernel

/-- The area of the slot ring of the example at R506. -/
theorem test_slot_ring_area :
    (({} : Dev).setReg (pg .mram) (R.MRAM.SR_CFG + 12) 0x07610001).srArea 3 = (0x10000, 512) := by decide +kernel

/-- The CRC-8 of SAE J1850 has the check value 0x4B (the example at R530). -/
theorem test_crc8_check_value :
    Crc.final 8 0xFF false (Crc.feed 8 0x1D false 0xFF [0x31, 0x32, 0x33, 0x34, 0x35, 0x36, 0x37, 0x38, 0x39]) = 0x4B := by
  decide +kernel

/-- The alive counter of the example at R533: OK, wrap, repeat, skip. -/
theorem test_alive_counter : Dev.aliveVerdict { init := false, last := 13 } 16 14 = (2, 14) ∧
    Dev.aliveVerdict { init := false, last := 15 } 16 0 = (2, 0) ∧ Dev.aliveVerdict { init := false, last := 0 } 16 0 = (3, 0) ∧
    Dev.aliveVerdict { init := false, last := 0 } 16 2 = (4, 2) := by decide +kernel

/-- SHA-256 of the three bytes of the string abc, the vector published with FIPS 180-4. -/
theorem test_sha256_abc : Crypto.numBE (Crypto.sha256 [0x61, 0x62, 0x63]) =
    0xba7816bf8f01cfea414140de5dae2223b00361a396177a9cb410ff61f20015ad := by decide +kernel

/-- A wrong key leaves SR_CFG as it is and an empty queue lets one clock pass (log entry 6). -/
theorem test_empty_queue_is_one_clock : (match step State.reset with | .next s => s.dev.now | _ => 0) = 1 := by decide +kernel

end Sys2Proof.Machine
end

section
/-!
PROOFS. A write of a register that only holds its fields (R11, R34, R54), on the pages without rules of their own. On CAL the write of
a UCAL word also notes the word that it replaces, for the results whose conversion ends on the same clock (R203).
-/
namespace Sys2Proof.Machine

/-! ## REGISTER_WRITE -/

/-- A command has one result. -/
theorem Runs.unique {c : Instr} {d t t' : Dev} (h : Runs c d t) (h' : Runs c d t') : t = t' := by
  have e := (h []).symm.trans (h' [])
  injection e with e
  exact congrArg State.dev e

/-- Away from SYS, whose PAIR_CTRL and PAIR_REG_DATA reach a pair (R471), REGISTER_WRITE is the write of the register alone. -/
theorem Runs.registerWrite {d : Dev} {m : Master} {k : PageKind} {i ofs : Nat} {a w : Word} {f : WriteFacts}
    (h : d.CanWrite m k i ofs) (ho : ofs < 0x1000) (hp : 1 ≤ pg k i) (ha : a.toNat = 0x40000000 + 0x1000 * pg k i + ofs) :
    Runs (.registerWrite m a w f) d (d.regWrite m k i ofs w f).done := by
  have hctrl : a.toNat ≠ Dev.pageAddr (pg .sys) R.SYS.PAIR_CTRL := by
    show a.toNat ≠ 0x40000184
    omega
  have hdata : a.toNat ≠ Dev.pageAddr (pg .sys) R.SYS.PAIR_REG_DATA := by
    show a.toNat ≠ 0x4000018C
    omega
  refine Runs.dev (f := fun d => d.masterWrite m a.toNat w f .clean .clean 0) (fun _ => rfl) ?_
  simp only [Dev.masterWrite, hctrl, hdata, false_and, if_false, ite_self]
  rw [ha, Dev.busWrite_eq h w f ho]

/-! ## The value that a register takes -/

/-- Bits of the mask above a word do not count. -/
theorem merge_low (mask a b : Nat) (ha : a < 2 ^ 32) : merge (mask &&& 0xFFFFFFFF) a b = merge mask a b := by
  have hlow : a &&& 0xFFFFFFFF = a := by
    rw [show 0xFFFFFFFF = 2 ^ 32 - 1 from rfl, Nat.and_two_pow_sub_one_of_lt_two_pow ha]
  have hfields : a &&& (mask &&& 0xFFFFFFFF) = a &&& mask := by rw [Nat.and_comm mask, ← Nat.and_assoc, hlow]
  simp only [merge, hfields, Nat.and_assoc, Nat.and_self]

/-- An unlocked, idle register takes every writable bit where no range is left. -/
theorem tableValue_inRange {r : RegDesc} {old n : Nat} (hn : n < 2 ^ 32) (hc : r.w1c = 0)
    (hr : ∀ x ∈ r.ranges, x.spec.holds x.lo x.w (merge (r.rw ||| r.rwl ||| r.rwi) n old) = true) :
    Dev.tableValue r false true [] old n = (merge (r.rw ||| r.rwl ||| r.rwi) n old, false, false) := by
  have hin : ∀ p : FRange → Bool, r.ranges.filter
      (fun x => p x && !x.spec.holds x.lo x.w (merge (r.rw ||| r.rwl ||| r.rwi) n old)) = [] :=
    fun _ => List.filter_eq_nil_iff.mpr fun x hx => by simp [hr x hx]
  simp [Dev.tableValue, merge_low _ _ _ hn, hin, hc]

/-! ## The pages without rules of their own -/

/-- The pages whose registers only hold their fields. -/
def fieldPages : List PageKind := [.clk, .rompatch, .monadc, .openwire, .cal, .hostport]

theorem mem_fieldPages {k : PageKind} :
    k ∈ fieldPages ↔ k = .clk ∨ k = .rompatch ∨ k = .monadc ∨ k = .openwire ∨ k = .cal ∨ k = .hostport := by
  simp [fieldPages]

namespace Dev

/-- The device as a write of `ofs` finds it: for a UCAL word with the present word noted (R203). -/
def noted (d : Dev) (k : PageKind) (ofs : Nat) : Dev :=
  if k = .cal ∧ R.CAL.UCAL ≤ ofs ∧ ofs < R.CAL.UCAL + 352 then d.noteUcal ((ofs - R.CAL.UCAL) / 4) else d

/-- The note touches no register. -/
@[simp] theorem noted_regs (d : Dev) (k : PageKind) (ofs : Nat) : (d.noted k ofs).regs = d.regs := by
  unfold noted; split <;> rfl

/-- On the pages without rules of their own a write takes the register's fields. -/
theorem regWrite_fieldPages {k : PageKind} (hk : k ∈ fieldPages) (d : Dev) (m : Master) {ofs : Nat} (hlo : 0x100 ≤ ofs)
    (hhi : ofs < 0x800) (w : Word) (f : WriteFacts) : d.regWrite m k 0 ofs w f = (d.noted k ofs).plainWrite m k 0 ofs w := by
  have hhdr : ¬ ofs < 0x100 := by omega
  obtain rfl | rfl | rfl | rfl | rfl | rfl := mem_fieldPages.mp hk <;> simp [regWrite, hhdr, hhi, blockWrite, noted]

/-- No other register puts a field of these pages outside its range. -/
theorem extraRanges_fieldPages {k : PageKind} (hk : k ∈ fieldPages) (d : Dev) (i ofs : Nat) (w : Word) :
    d.extraRanges k i ofs w = [] := by
  obtain rfl | rfl | rfl | rfl | rfl | rfl := mem_fieldPages.mp hk <;> rfl

/-- The note leaves whether these pages are idle. -/
theorem idle_noted {k : PageKind} (hk : k ∈ fieldPages) (d : Dev) (i ofs : Nat) : (d.noted k ofs).idle k i = d.idle k i := by
  obtain rfl | rfl | rfl | rfl | rfl | rfl := mem_fieldPages.mp hk <;> rfl

/-- A write within the ranges of an unlocked, idle register sets that register and no other part of the device. -/
theorem plainWrite_inRange {d : Dev} {k : PageKind} (hk : k ∈ fieldPages) (m : Master) {i ofs : Nat} {r : RegDesc} (w : Word)
    (hr : descOf k ofs = some r) (hb : r.banked = false) (hc : r.w1c = 0) (hl : d.lockSet (pg k i) = false) (hi : d.idle k i = true)
    (hin : ∀ x ∈ r.ranges, x.spec.holds x.lo x.w (merge (r.rw ||| r.rwl ||| r.rwi) w.toNat (d.reg (pg k i) ofs).toNat) = true) :
    d.plainWrite m k i ofs w =
      d.setReg (pg k i) ofs (BitVec.ofNat 32 (merge (r.rw ||| r.rwl ||| r.rwi) w.toNat (d.reg (pg k i) ofs).toNat)) := by
  simp [plainWrite, hr, tableWrite, hb, hl, hi, extraRanges_fieldPages hk, tableValue_inRange w.isLt hc hin]

end Dev

/-- What REGISTER_WRITE does to an unlocked, idle register of these pages within its ranges: the register takes its writable bits, and
for a UCAL word the word before is noted. -/
theorem registerWrite_takes_fields {d : Dev} {m : Master} {k : PageKind} {ofs : Nat} {r : RegDesc} {a w : Word} {f : WriteFacts}
    (hk : k ∈ fieldPages) (hlo : 0x100 ≤ ofs) (hhi : ofs < 0x800) (ha : a.toNat = 0x40000000 + 0x1000 * pg k 0 + ofs)
    (h : d.CanWrite m k 0 ofs) (hr : descOf k ofs = some r) (hb : r.banked = false) (hc : r.w1c = 0)
    (hl : d.lockSet (pg k 0) = false) (hi : d.idle k 0 = true)
    (hin : ∀ x ∈ r.ranges, x.spec.holds x.lo x.w (merge (r.rw ||| r.rwl ||| r.rwi) w.toNat (d.reg (pg k 0) ofs).toNat) = true) :
    Runs (.registerWrite m a w f) d ((d.noted k ofs).setReg (pg k 0) ofs
      (BitVec.ofNat 32 (merge (r.rw ||| r.rwl ||| r.rwi) w.toNat (d.reg (pg k 0) ofs).toNat))).done := by
  have hp : 1 ≤ pg k 0 := by revert hk; cases k <;> decide
  have hreg : (d.noted k ofs).reg (pg k 0) ofs = d.reg (pg k 0) ofs := Dev.reg_of_regs (d.noted_regs k ofs) _ _ _
  have hlock : (d.noted k ofs).lockSet (pg k 0) = false := (Dev.flag_of_regs (d.noted_regs k ofs) _ _).trans hl
  have hidle : (d.noted k ofs).idle k 0 = true := (Dev.idle_noted hk d 0 ofs).trans hi
  have hplain := Dev.plainWrite_inRange hk m w hr hb hc hlock hidle (by rw [hreg]; exact hin)
  rw [hreg, ← Dev.regWrite_fieldPages hk d m hlo hhi w f] at hplain
  rw [← hplain]
  exact Runs.registerWrite h (by omega) hp ha

/-! ## The counterexample: UCAL[0] -/

/-- UCAL, of CAL (R244). -/
def ucalDesc : RegDesc := ⟨0x100, 88, 0x4000, 0, 0xFFFFFFFF, 0, 0, .dev, false, false, []⟩

/-- Refutes O6: a write of UCAL[0] on the device after reset takes the register's fields, and the replaced word is noted beside the
registers for the results of this clock (R203), where the statement has the rest of the device unchanged. -/
theorem not_registerWriteTakesFields : ¬ Obligations.RegisterWriteTakesFields := by
  unfold Obligations.RegisterWriteTakesFields
  intro h
  have hw : ({} : Dev).CanWrite .ctrl .cal 0 0x100 := test_canWrite (by decide +kernel)
  have hr : descOf .cal 0x100 = some ucalDesc := by decide +kernel
  have hl : ({} : Dev).lockSet (pg .cal 0) = false := by decide +kernel
  have claimed := (h {} .ctrl .cal 0 0x100 ucalDesc 0x40029100 0 {} (by decide) (by decide) (by decide) (by decide) hw hr rfl rfl
    hl rfl).1 (by simp [ucalDesc])
  have actual := registerWrite_takes_fields (a := 0x40029100) (w := 0) (f := {}) (by decide) (by decide) (by decide) (by decide)
    hw hr rfl rfl hl rfl (by simp [ucalDesc])
  have notes : (({} : Dev).noted .cal 0x100).mon.calPrev = [] := congrArg (fun t : Dev => t.mon.calPrev) (actual.unique claimed)
  exact List.cons_ne_nil _ _ notes

end Sys2Proof.Machine
end

section
/-!
PROOFS. What the stop of a stage leaves alone: SYS.STATE and the GROUP_CTRL of every group. Both stand at offset 0x100 of their
pages, where the stop of a tile, of a group or of a probe step records nothing.
-/
namespace Sys2Proof.Machine
namespace Dev

/-! ## The registers at offset 0x100 -/

/-- The register at offset 0x100 of each page: SYS.STATE, and GROUP_CTRL of a group. -/
def control (d : Dev) (p : Nat) : Word := d.reg p 0x100

theorem fld_of_control {d e : Dev} (h : e.control = d.control) (p : Nat) (f : Fld) (hf : f.ofs = 0x100) : e.fld p f = d.fld p f := by
  unfold fld
  rw [hf, show e.reg p 0x100 = d.reg p 0x100 from congrFun h p]

/-- The device state stands in SYS.STATE. -/
theorem state_of_control {d e : Dev} (h : e.control = d.control) : e.state = d.state := fld_of_control h _ _ rfl

theorem control_of_regs {d e : Dev} (h : e.regs = d.regs) : e.control = d.control := by
  funext p
  exact reg_of_regs h p _ 0

theorem control_setReg (d : Dev) (p o : Nat) (v : Word) (h : o < 0x1000 ∧ o ≠ 0x100) : (d.setReg p o v).control = d.control := by
  funext q
  refine reg_setReg_other d ?_
  unfold regKey
  omega

theorem control_setFld (d : Dev) (p : Nat) (f : Fld) (v : Nat) (h : f.ofs < 0x1000 ∧ f.ofs ≠ 0x100) :
    (d.setFld p f v).control = d.control := control_setReg d p f.ofs _ h

theorem control_setFlag (d : Dev) (p : Nat) (f : Fld) (b : Bool) (h : f.ofs < 0x1000 ∧ f.ofs ≠ 0x100) :
    (d.setFlag p f b).control = d.control := control_setFld d p f _ h

theorem control_event (d : Dev) (p : Nat) (f : Fld) (h : f.ofs < 0x1000 ∧ f.ofs ≠ 0x100) :
    (d.event p f).control = d.control := control_setFld d p f 1 h

theorem control_bump (d : Dev) (p o n : Nat) (h : o < 0x1000 ∧ o ≠ 0x100) : (d.bump p o n).control = d.control :=
  control_setReg d p o _ h

@[simp] theorem control_ite (c : Prop) [Decidable c] (a b : Dev) : (if c then a else b).control = if c then a.control else b.control :=
  apply_ite _ _ _ _

@[simp] theorem control_modTile (d : Dev) (n : Nat) (f : TileS → TileS) : (d.modTile n f).control = d.control := control_of_regs rfl
@[simp] theorem control_modConv (d : Dev) (n : Nat) (f : ConvS → ConvS) : (d.modConv n f).control = d.control := control_of_regs rfl
@[simp] theorem control_modGauge (d : Dev) (f : GaugeS → GaugeS) : (d.modGauge f).control = d.control := control_of_regs rfl

theorem control_each {α : Type} (d : Dev) (l : List α) (f : Dev → α → Dev) (h : ∀ e x, (f e x).control = e.control) :
    (d.each l f).control = d.control :=
  List.foldlRecOn (motive := fun e => e.control = d.control) l f rfl fun e he x _ => (h e x).trans he

/-! ## The stop of a tile (R123) -/

@[simp] theorem control_cutPulse (d : Dev) (n : Nat) (c : Cmp) (x : Nat) : (d.cutPulse n c x).control = d.control := by
  simp only [cutPulse]
  split
  · rfl
  · simp

@[simp] theorem control_blankFrom (d : Dev) (n : Nat) (o : Out) (x : Nat) (c : Cmp) : (d.blankFrom n o x c).control = d.control := by
  simp [blankFrom]

@[simp] theorem control_levelAt (d : Dev) (n : Nat) (o : Out) (x : Nat) (c : Cmp) : (d.levelAt n o x c).control = d.control := by
  simp [levelAt]

@[simp] theorem control_rise (d : Dev) (n : Nat) (o : Out) (i : Interval) : (d.rise n o i).control = d.control := by
  simp only [rise]
  split
  · simp (disch := decide) [control_event, control_bump]
  · simp

@[simp] theorem control_rises (d : Dev) (n x k : Nat) : (d.rises n x k).control = d.control := by
  induction k generalizing d with
  | zero => rfl
  | succ k ih =>
    simp only [rises]
    split
    · rfl
    · rw [ih, control_rise]

@[simp] theorem control_outputsLow (d : Dev) (n : Nat) : (d.outputsLow n).control = d.control := by
  simp only [outputsLow, takeTable]
  split <;> simp (disch := decide) [control_setFld]

@[simp] theorem control_killTile (d : Dev) (n : Nat) (cause : TileS → TileS) : (d.killTile n cause).control = d.control := by
  simp (disch := decide) [killTile, stopNow, tileAdvance, control_setFld]

/-! ## The stop of a group (R141) -/

@[simp] theorem control_fitResult (d : Dev) (code : Nat) : (d.fitResult code).control = d.control := by
  simp (disch := decide) [fitResult, control_event, control_bump, control_setFld]

/-- An aborted probe step records its fit as aborted, or as outside RUN (R294). -/
@[simp] theorem control_gaugeProbeEnd_aborted (d : Dev) (g : Nat) : (d.gaugeProbeEnd g true).control = d.control := by
  simp only [gaugeProbeEnd]
  split
  · rfl
  · simp

@[simp] theorem control_abortProbe (d : Dev) (g : Nat) : (d.abortProbe g).control = d.control := by
  simp (disch := decide) [abortProbe, control_event, control_bump, control_setReg, control_setFlag]

@[simp] theorem control_endCirc (d : Dev) (g : Nat) : (d.endCirc g).control = d.control := by
  simp (disch := decide) [endCirc, control_setFld]

@[simp] theorem control_endRun (d : Dev) (g : Nat) : (d.endRun g).control = d.control := by
  simp [endRun, cleanPause]

@[simp] theorem control_wantTiles (d : Dev) (g : Nat) (w : Want) : (d.wantTiles g w).control = d.control :=
  control_each _ _ _ fun e n => control_modTile e n _

@[simp] theorem control_enterStopped (d : Dev) (g : Nat) : (d.enterStopped g).control = d.control := by
  simp (disch := decide) [enterStopped, control_setFld, control_setFlag]

/-- The end of a group's run clears the group's GO, and changes no other of these registers. -/
theorem control_clearGo (d : Dev) (n : Nat) :
    (d.clearGo n).control = (d.setFlag (pg .conv n) F.CONV.GROUP_CTRL_GO false).control := by
  simp [clearGo]

theorem sysState_clearGo (d : Dev) (n : Nat) : (d.clearGo n).reg (pg .sys) R.SYS.STATE = d.reg (pg .sys) R.SYS.STATE := by
  have hkey : regKey (pg .sys) R.SYS.STATE ≠ regKey (pg .conv n) F.CONV.GROUP_CTRL_GO.ofs := by
    simp only [regKey, pg, PageKind.first, R.SYS.STATE, F.CONV.GROUP_CTRL_GO]
    omega
  exact (congrFun (control_clearGo d n) (pg .sys)).trans (reg_setFlag_other d _ _ _ _ _ 0 hkey)

theorem go_clearGo_self (d : Dev) (n : Nat) : (d.clearGo n).flag (pg .conv n) F.CONV.GROUP_CTRL_GO = false := by
  have hgo := fld_of_control (control_clearGo d n) (pg .conv n) F.CONV.GROUP_CTRL_GO rfl
  unfold flag
  rw [hgo]
  exact flag_setFlag_self d (pg .conv n) F.CONV.GROUP_CTRL_GO false (by decide) (by decide)

theorem go_clearGo_other (d : Dev) {g n : Nat} (h : g ≠ n) :
    (d.clearGo n).flag (pg .conv g) F.CONV.GROUP_CTRL_GO = d.flag (pg .conv g) F.CONV.GROUP_CTRL_GO := by
  have hkey : regKey (pg .conv g) F.CONV.GROUP_CTRL_GO.ofs ≠ regKey (pg .conv n) F.CONV.GROUP_CTRL_GO.ofs := by
    simp only [regKey, pg]
    omega
  have hgo := fld_of_control (control_clearGo d n) (pg .conv g) F.CONV.GROUP_CTRL_GO rfl
  unfold flag
  rw [hgo]
  exact flag_setFlag_other d (pg .conv n) F.CONV.GROUP_CTRL_GO false (pg .conv g) F.CONV.GROUP_CTRL_GO (Or.inl hkey)

/-- GO stays cleared while other groups are stopped. -/
theorem go_each_clearGo_of_cleared (l : List Nat) (d : Dev) (g : Nat) (h : d.flag (pg .conv g) F.CONV.GROUP_CTRL_GO = false) :
    (d.each l clearGo).flag (pg .conv g) F.CONV.GROUP_CTRL_GO = false := by
  refine List.foldlRecOn (motive := fun e => e.flag (pg .conv g) F.CONV.GROUP_CTRL_GO = false) l clearGo h fun e he n _ => ?_
  by_cases hn : g = n
  · rw [hn, go_clearGo_self]
  · rw [go_clearGo_other e hn, he]

theorem go_each_clearGo {l : List Nat} {g : Nat} (h : g ∈ l) (d : Dev) :
    (d.each l clearGo).flag (pg .conv g) F.CONV.GROUP_CTRL_GO = false := by
  induction l generalizing d with
  | nil => simp at h
  | cons n l ih =>
    obtain rfl | hl := List.mem_cons.mp h
    · exact go_each_clearGo_of_cleared l (d.clearGo g) g (go_clearGo_self d g)
    · exact ih hl (d.clearGo n)

theorem sysState_each_clearGo (l : List Nat) (d : Dev) :
    (d.each l clearGo).reg (pg .sys) R.SYS.STATE = d.reg (pg .sys) R.SYS.STATE :=
  List.foldlRecOn (motive := fun e => e.reg (pg .sys) R.SYS.STATE = d.reg (pg .sys) R.SYS.STATE) l clearGo rfl
    fun e he n _ => (sysState_clearGo e n).trans he

/-- The cause of the last transition or refusal stands in SYS.STATE. -/
theorem cause_of_sysState {d e : Dev} (h : e.reg (pg .sys) R.SYS.STATE = d.reg (pg .sys) R.SYS.STATE) :
    e.fld (pg .sys) F.SYS.STATE_CAUSE = d.fld (pg .sys) F.SYS.STATE_CAUSE :=
  congrArg (fun w : Word => bitsOf w.toNat F.SYS.STATE_CAUSE.lo F.SYS.STATE_CAUSE.w) h

theorem state_of_sysState {d e : Dev} (h : e.reg (pg .sys) R.SYS.STATE = d.reg (pg .sys) R.SYS.STATE) : e.state = d.state :=
  congrArg (fun w : Word => bitsOf w.toNat F.SYS.STATE_STATE.lo F.SYS.STATE_STATE.w) h

/-! ## DISCH (R188, R190) -/

@[simp] theorem control_driveDisch (d : Dev) (on : Bool) : (d.driveDisch on).control = d.control := by
  have hregs : (d.driveDisch on).regs = (if d.active (srcNo .disch 0 B.DISCH.DISCH_OUTPUT) then d
      else d.setFlag (pg .disch) F.DISCH.STATUS_BALL on).regs := rfl
  rw [control_of_regs hregs]
  simp (disch := decide) [control_setFlag]

/-- The device with a trigger of DISCH recorded, and with the guard interval of a SAFE or brown-out trigger (R188, R189). -/
def dischMarked (d : Dev) (trig : Nat) (guard : Bool) : Dev :=
  let d := d.setFld (pg .disch) F.DISCH.STATUS_TRIGGER trig
  if guard then { d with disch := { d.disch with guardUntil := d.now + 80000 } } else d

theorem control_dischMarked (d : Dev) (trig : Nat) (guard : Bool) : (d.dischMarked trig guard).control = d.control := by
  have hregs : (d.dischMarked trig guard).regs = (d.setFld (pg .disch) F.DISCH.STATUS_TRIGGER trig).regs := by
    simp only [dischMarked]
    split
    · dsimp only
    · rfl
  rw [control_of_regs hregs, control_setFld _ _ _ _ (by decide)]

/-- The device with DISCH switched on from rest (R188). -/
def dischStarted (d : Dev) (byStart : Bool) : Dev :=
  let d := (d.setFld (pg .disch) F.DISCH.STATUS_DSTATE 1).driveDisch true
  { d with disch := { d.disch with byStart := byStart, since := d.now } }

theorem control_dischStarted (d : Dev) (byStart : Bool) : (d.dischStarted byStart).control = d.control := by
  have hregs : (d.dischStarted byStart).regs = ((d.setFld (pg .disch) F.DISCH.STATUS_DSTATE 1).driveDisch true).regs := rfl
  rw [control_of_regs hregs, control_driveDisch, control_setFld _ _ _ _ (by decide)]

theorem disch_on_dischStarted (d : Dev) (byStart : Bool) : (d.dischStarted byStart).disch.on = true := rfl

/-- A trigger is recorded, and switches DISCH on unless a discharge is in progress. -/
theorem dischOn_eq (d : Dev) (trig : Nat) (guard byStart : Bool) : d.dischOn trig guard byStart =
    if (d.dischMarked trig guard).disch.on && (d.dischMarked trig guard).fld (pg .disch) F.DISCH.STATUS_DSTATE != 5 then
      d.dischMarked trig guard
    else (d.dischMarked trig guard).dischStarted byStart := rfl

@[simp] theorem control_dischOn (d : Dev) (trig : Nat) (guard byStart : Bool) :
    (d.dischOn trig guard byStart).control = d.control := by
  rw [dischOn_eq]
  split
  · rw [control_dischMarked]
  · rw [control_dischStarted, control_dischMarked]

/-- A trigger leaves DISCH switched on. -/
theorem disch_on_dischOn (d : Dev) (trig : Nat) (guard byStart : Bool) : (d.dischOn trig guard byStart).disch.on = true := by
  rw [dischOn_eq]
  split
  case isTrue h => exact (Bool.and_eq_true_iff.mp h).1
  case isFalse => exact disch_on_dischStarted _ _

end Dev
end Sys2Proof.Machine
end

section
/-!
PROOFS. The commands of SYS.CMD (R20, R21, R23, R111, R414, R416): what an accepted command leaves, and what a refused one records.
-/
namespace Sys2Proof.Machine
namespace Dev

/-! ## A device reset (R31) -/

@[simp] theorem resetDevice_keys (d : Dev) : d.resetDevice.keys = keysAtReset := by
  unfold resetDevice
  dsimp only
  split <;> simp [foldl_keys]

@[simp] theorem control_modSeq (d : Dev) (f : SeqS → SeqS) : (d.modSeq f).control = d.control := control_of_regs rfl

@[simp] theorem control_assertResets (d : Dev) : d.assertResets.control = d.control := control_setReg _ _ _ _ (by decide)

@[simp] theorem control_startWake (d : Dev) : d.startWake.control = d.control := by
  simp (disch := decide) [startWake, startRun, enterProgram, setPhase, control_setFld, control_bump]

@[simp] theorem rstStatus_assertResets (d : Dev) : d.assertResets.reg (pg .seq) R.SEQ.RST_STATUS = 0x0F := reg_setReg_self _ _ _ _ _

/-- Every RSTOUT is asserted as a run of WAKE begins, and stays so. -/
@[simp] theorem rstStatus_startWake (d : Dev) : d.startWake.reg (pg .seq) R.SEQ.RST_STATUS = 0x0F := by
  simp (disch := decide) [startWake, startRun, enterProgram, setPhase, reg_setFld_other, reg_bump_other]

/-- The programs of BOOT, which an entry into BOOT begins, leave the transition as it is recorded. -/
theorem control_enterBoot (d : Dev) (cause : Nat) :
    (d.enterBoot cause).control = (d.resetDevice.transition 2 cause).control := by
  simp [enterBoot]

/-- What an entry into BOOT leaves: the state with its cause, every RSTOUT asserted and the keys of a device reset. -/
theorem enterBoot_leaves (d : Dev) {cause : Nat} (hc : cause < 256) :
    (d.enterBoot cause).state = 2 ∧ (d.enterBoot cause).fld (pg .sys) F.SYS.STATE_CAUSE = cause ∧
    (d.enterBoot cause).reg (pg .seq) R.SEQ.RST_STATUS = 0x0F ∧ (d.enterBoot cause).keys = keysAtReset := by
  have hctl := control_enterBoot d cause
  refine ⟨?_, ?_, ?_, ?_⟩
  · rw [state_of_control hctl, state_transition _ _ _ (by decide)]
  · rw [fld_of_control hctl _ _ rfl, cause_transition _ _ _ (by decide) hc]
  · unfold enterBoot
    dsimp only
    split <;> simp
  · simp [enterBoot]

/-! ## ARM (R20, R111) -/

/-- A valid tap table of a tile and a passed self-test meet the first arming condition. -/
theorem armCause_selftest {d : Dev} {k : Nat} (hk : k < 24) (hs : d.flag (pg .scaolo) F.SCAOLO.SELFTEST_PASS = true)
    (hv : d.flag (pg .tile k) F.TILE.CAL_STATUS_VALID = true) :
    (!d.flag (pg .scaolo) F.SCAOLO.SELFTEST_PASS ||
      (List.range 24).all (fun n => !d.flag (pg .tile n) F.TILE.CAL_STATUS_VALID)) = false := by
  simp only [hs, Bool.not_true, Bool.false_or, List.all_eq_false]
  exact ⟨k, List.mem_range.mpr hk, by simp [hv]⟩

/-- Without a passed self-test, or without a valid tap table, the first arming condition fails. -/
theorem armCause_eq_one {d : Dev} (h : d.flag (pg .scaolo) F.SCAOLO.SELFTEST_PASS = false ∨
    ∀ k < 24, d.flag (pg .tile k) F.TILE.CAL_STATUS_VALID = false) : d.armCause = 1 := by
  unfold armCause
  refine if_pos ?_
  obtain hs | hv := h
  · simp [hs]
  · simpa using Or.inr hv

/-- An active source or a FAULT bit of severity HALT or higher fails the second arming condition. -/
theorem armCause_eq_two {d : Dev} {k : Nat} (hk : k < 24) (hs : d.flag (pg .scaolo) F.SCAOLO.SELFTEST_PASS = true)
    (hv : d.flag (pg .tile k) F.TILE.CAL_STATUS_VALID = true)
    (h : d.activeList.any (fun s => decide (3 ≤ d.sevOf s)) = true ∨ d.faultAtOrAbove 3 = true) : d.armCause = 2 := by
  unfold armCause
  rw [armCause_selftest hk hs hv, if_neg Bool.false_ne_true, if_pos (Bool.or_eq_true_iff.mpr h)]

/-- Where the six arming conditions hold, none fails. -/
theorem armCause_eq_zero {d : Dev} {k : Nat} (hk : k < 24) (hs : d.flag (pg .scaolo) F.SCAOLO.SELFTEST_PASS = true)
    (hv : d.flag (pg .tile k) F.TILE.CAL_STATUS_VALID = true)
    (hactive : d.activeList.all (fun s => decide (d.sevOf s < 3)) = true) (hfault : d.faultAtOrAbove 3 = false)
    (htb : d.tbActive ≠ 0)
    (hkeys : ∀ g < 8, d.flag (pg .conv g) F.HDR.CTRL_ENABLE = true → d.groupKeys g = true)
    (hdisch : d.flag (pg .disch) F.DISCH.STATUS_CHECKED = true)
    (hrecov : d.flag (pg .fault) F.FAULT.STATUS_RECOV_LATCHED = false) : d.armCause = 0 := by
  have hquiet : d.activeList.any (fun s => decide (3 ≤ d.sevOf s)) = false := by
    simpa using hactive
  have hheld : (List.range 8).all (fun g => !d.flag (pg .conv g) F.HDR.CTRL_ENABLE || d.groupKeys g) = true := by
    simpa [Bool.eq_false_or_eq_true, imp_iff_not_or] using hkeys
  unfold armCause
  rw [armCause_selftest hk hs hv]
  simp [hquiet, hfault, htb, hheld, hdisch, hrecov]

/-- ARM accepted: the device is in RUN, and no DISCH trigger waits. -/
theorem armAccepted_leaves {d : Dev} (hst : d.state = 3) (hc : d.armCause = 0) :
    d.arm.state = 4 ∧ d.arm.fld (pg .sys) F.SYS.STATE_CAUSE = 0x05 ∧ d.arm.keys = d.keys ∧ d.arm.disch.armed = false := by
  have harm : d.arm = { (d.cmdEvent 1).transition 4 0x05 with
      disch := { ((d.cmdEvent 1).transition 4 0x05).disch with armed := false, armedHalt := false } } := by
    simp only [arm, hst, hc, if_true]
  have hctl : d.arm.control = ((d.cmdEvent 1).transition 4 0x05).control := by rw [harm]; rfl
  refine ⟨?_, ?_, ?_, ?_⟩
  · rw [state_of_control hctl, state_transition _ _ _ (by decide)]
  · rw [fld_of_control hctl _ _ rfl, cause_transition _ _ _ (by decide) (by decide)]
  · rw [harm]; simp
  · rw [harm]

theorem armRefused_eq {d : Dev} (hst : d.state = 3) (hc : d.armCause ≠ 0) : d.arm = d.refuseCmd (0x10 + d.armCause) := by
  simp only [arm, hst, hc, if_true, if_false]

/-! ## DISARM (R18, R141, R250) -/

/-- After the groups are stopped, DISARM marks the charge manager and arms DISCH; no register changes. -/
theorem disarmNow_afterStop (d : Dev) :
    d.disarmNow.regs = ((d.transition 3 0x05).each (List.range 8) clearGo).regs ∧ d.disarmNow.chg.disarmed = true := by
  unfold disarmNow
  dsimp only
  split
  · exact ⟨rfl, rfl⟩
  · exact ⟨rfl, rfl⟩

/-- DISARM: the device is in READY with every group stopped. -/
theorem disarmNow_leaves (d : Dev) :
    d.disarmNow.state = 3 ∧ d.disarmNow.fld (pg .sys) F.SYS.STATE_CAUSE = 0x05 ∧
    (∀ g < 8, d.disarmNow.flag (pg .conv g) F.CONV.GROUP_CTRL_GO = false) ∧ d.disarmNow.chg.disarmed = true := by
  obtain ⟨hregs, hchg⟩ := d.disarmNow_afterStop
  have hsys := sysState_each_clearGo (List.range 8) (d.transition 3 0x05)
  refine ⟨?_, ?_, fun g hg => ?_, hchg⟩
  · rw [state_of_regs hregs, state_of_sysState hsys, state_transition _ _ _ (by decide)]
  · rw [fld_of_regs hregs, cause_of_sysState hsys, cause_transition _ _ _ (by decide) (by decide)]
  · rw [flag_of_regs hregs, go_each_clearGo (List.mem_range.mpr hg)]

/-! ## RESET (R18, R416) -/

/-- RESET with no Scaolo check due is made at once. -/
theorem resetCmd_atOnce {d : Dev} (hlo : 2 ≤ d.state) (hhi : d.state ≤ 5) (hchecks : (d.cmdEvent 6).fc.checks = []) :
    d.resetCmd = (d.cmdEvent 6).enterBoot 0x05 := by
  simp [resetCmd, hlo, hhi, hchecks]

/-! ## SYS.CMD (R23) -/

theorem regWrite_sysCmd (d : Dev) (m : Master) (w : Word) (f : WriteFacts) : d.regWrite m .sys 0 R.SYS.CMD w f = d.sysCmd w := rfl

theorem sysCmd_wrongKey (d : Dev) {w : Word} (h : bitsOf w.toNat 16 16 ≠ 0x5A3C) : d.sysCmd w = d.refuseCmd 0x21 := if_pos h

/-- With the key, a command is a number from 1 to 6. -/
theorem sysCmd_invalid (d : Dev) {w : Word} (hkey : bitsOf w.toNat 16 16 = 0x5A3C)
    (h : bitsOf w.toNat 0 8 = 0 ∨ 6 < bitsOf w.toNat 0 8) : d.sysCmd w = d.refuseCmd 0x20 := by
  unfold sysCmd
  rw [if_neg (not_not.mpr hkey)]
  split
  case h_7 => rfl
  all_goals omega

theorem sleepCmd_refused {d : Dev} (h : d.state ≠ 3) (c : Nat) (goal : SeqGoal) : d.sleepCmd c goal = d.refuseCmd 0x20 :=
  if_neg fun hc => h hc.1

end Dev

/-- A permitted write of SYS.CMD runs the command written (R23). -/
theorem Runs.sysCmd {c : Instr} {d t : Dev} {m : Master} {w : Word} (h : d.CanWrite m .sys 0 R.SYS.CMD)
    (hc : ∀ s, exec c s = .next (s.onDev fun d => d.portWrite m .sys 0 R.SYS.CMD w)) (ht : d.sysCmd w = t) : Runs c d t.done :=
  Runs.port h (by decide) hc ((Dev.regWrite_sysCmd d m w {}).trans ht)

section Commands
variable {d : Dev} {m : Master} (h : d.CanWrite m .sys 0 R.SYS.CMD)
include h

theorem Runs.arm {t : Dev} (ht : d.arm = t) : Runs (.arm m) d t.done := Runs.sysCmd h (fun _ => rfl) ht
theorem Runs.disarm {t : Dev} (ht : d.disarm = t) : Runs (.disarm m) d t.done := Runs.sysCmd h (fun _ => rfl) ht
theorem Runs.hibernate {t : Dev} (ht : d.sleepCmd 3 .hibernate = t) : Runs (.hibernate m) d t.done :=
  Runs.sysCmd h (fun _ => rfl) ht
theorem Runs.cellar {t : Dev} (ht : d.sleepCmd 4 .cellar = t) : Runs (.cellar m) d t.done := Runs.sysCmd h (fun _ => rfl) ht
theorem Runs.safeExit {t : Dev} (ht : d.safeExit = t) : Runs (.safeExit m) d t.done := Runs.sysCmd h (fun _ => rfl) ht
theorem Runs.reset {t : Dev} (ht : d.resetCmd = t) : Runs (.reset m) d t.done := Runs.sysCmd h (fun _ => rfl) ht
theorem Runs.sysCmdInvalid {t : Dev} {w : Word} (ht : d.sysCmd w = t) : Runs (.sysCmdInvalid m w) d t.done :=
  Runs.sysCmd h (fun _ => rfl) ht

end Commands

/-- Settles O2: each command of SYS.CMD by its own rule, once the permitted write has been traced to it. -/
theorem sysCommandsRun : Obligations.SysCommandsRun := by
  unfold Obligations.SysCommandsRun
  intro d m h
  refine ⟨?armed, ?disarmed, ?sleeps, ?leavesSafe, ?resets, ?wrongKey, ?invalid, ?notReady, ?notRun, ?notSafe, ?selftest, ?halted⟩
  case armed =>
    intro k hst hs hv hactive hfault htb hkeys hdisch hrecov
    exact ⟨_, Runs.arm h rfl,
      Dev.armAccepted_leaves hst (Dev.armCause_eq_zero k.isLt hs hv hactive hfault htb hkeys hdisch hrecov)⟩
  case disarmed =>
    intro hst
    have hrun : d.disarm = (d.cmdEvent 2).disarmNow := if_pos hst
    obtain ⟨hstate, hcause, hgo, hchg⟩ := (d.cmdEvent 2).disarmNow_leaves
    exact ⟨_, Runs.disarm h hrun, hstate, hcause, hgo, hchg, by simp⟩
  case sleeps =>
    intro hst hdown hgoal
    have hready : d.state = 3 ∧ !d.powerDown ∧ d.seq.goal = .none := ⟨hst, by simp [hdown], hgoal⟩
    exact ⟨Runs.hibernate h (if_pos hready), Runs.cellar h (if_pos hready)⟩
  case leavesSafe =>
    intro hst hsafe hbackup hprev
    have hexit : d.state = 5 ∧ !d.safeActive ∧ !d.fc.backup := ⟨hst, by simp [hsafe], by simp [hbackup]⟩
    have hready : (d.cmdEvent 5).fld (pg .sys) F.SYS.STATE_PREV ≠ 2 := by simp [hprev]
    exact Runs.safeExit h ((if_pos hexit).trans (if_neg hready))
  case resets =>
    exact fun hlo hhi hchecks =>
      ⟨_, Runs.reset h (Dev.resetCmd_atOnce hlo hhi hchecks), Dev.enterBoot_leaves _ (by decide)⟩
  case wrongKey =>
    exact fun w hkey => Runs.sysCmdInvalid h (Dev.sysCmd_wrongKey d hkey)
  case invalid =>
    exact fun w hkey hcmd => Runs.sysCmdInvalid h (Dev.sysCmd_invalid d hkey hcmd)
  case notReady =>
    rintro hst c (rfl | rfl | rfl)
    · exact Runs.arm h (if_neg hst)
    · exact Runs.hibernate h (Dev.sleepCmd_refused hst _ _)
    · exact Runs.cellar h (Dev.sleepCmd_refused hst _ _)
  case notRun =>
    exact fun hst => Runs.disarm h (if_neg hst)
  case notSafe =>
    intro hno
    refine Runs.safeExit h (if_neg ?_)
    rintro ⟨hst, hsafe, hbackup⟩
    obtain hn | hn | hn := hno
    · exact hn hst
    · simp [hn] at hsafe
    · simp [hn] at hbackup
  case selftest =>
    intro hst hfail
    have hcause := Dev.armCause_eq_one hfail
    exact Runs.arm h ((Dev.armRefused_eq hst (by simp [hcause])).trans (by rw [hcause]; rfl))
  case halted =>
    intro k hst hs hv hfault
    have hcause := Dev.armCause_eq_two k.isLt hs hv hfault
    exact Runs.arm h ((Dev.armRefused_eq hst (by simp [hcause])).trans (by rw [hcause]; rfl))

end Sys2Proof.Machine
end

section
/-!
PROOFS. The power of the device (R18, R19, R349, R368, R386, R389): the cellar's supply, the release of the island, the wake into BOOT
and the brown-out.
-/
namespace Sys2Proof.Machine
namespace Dev

/-! ## The supply of the cellar (R18, R368) -/

/-- Where nothing but the MRAM array keeps its contents, every other byte reads 0. -/
theorem byte_mramKept (m : Mem) (a : Nat) :
    Mem.byte (Sparse.keep (fun a => decide (0x50000000 ≤ a)) m) a = if 0x50000000 ≤ a then Mem.byte m a else 0 := by
  simp [Mem.byte, Sparse.get_keep, memDefault]

/-- The cellar's supply comes: the device is in CELLAR, with the keys at reset and MRAM as it was. -/
theorem cellarPowerOn_leaves {d : Dev} (h : d.state = 0) :
    d.cellarPowerOn.reg (pg .sys) R.SYS.STATE = 0x00000101#32 ∧ d.cellarPowerOn.keys = keysAtReset ∧
    ∀ a, Mem.byte d.cellarPowerOn.mem a = if 0x50000000 ≤ a then Mem.byte d.mem a else 0 := by
  unfold cellarPowerOn
  rw [if_pos h]
  exact ⟨reg_setReg_self _ _ _ _ _, rfl, fun a => byte_mramKept d.mem a⟩

/-- The cellar's supply goes: the device is in OFF, with the keys at reset and MRAM as it was. -/
theorem cellarOff_leaves {d : Dev} (h : d.state = 1) :
    d.cellarOff.reg (pg .sys) R.SYS.STATE = 0x00000100#32 ∧ d.cellarOff.keys = keysAtReset ∧
    ∀ a, Mem.byte d.cellarOff.mem a = if 0x50000000 ≤ a then Mem.byte d.mem a else 0 := by
  unfold cellarOff
  rw [if_pos h]
  exact ⟨reg_setReg_self _ _ _ _ _, rfl, fun a => byte_mramKept d.mem a⟩

/-! ## The release of the island (R349, R419) -/

theorem cel_each {α : Type} (d : Dev) (l : List α) (f : Dev → α → Dev) (h : ∀ e x, (f e x).cel = e.cel) :
    (d.each l f).cel = d.cel :=
  List.foldlRecOn (motive := fun e : Dev => e.cel = d.cel) l f rfl fun e he x _ => (h e x).trans he

/-- The program loaded from OTP is a matter of registers. -/
theorem islandLoad_islandUp (d : Dev) : d.islandLoad.cel.islandUp = true := by
  unfold islandLoad
  dsimp only
  split
  · simp
  · simp [cel_each]

/-- The release of the island loads its program and notes the result of ISL_BIST. -/
theorem islandPowerOn_released {d : Dev} (hup : d.cel.islandUp = false) (hst : d.state = 1 ∨ d.state = 2) (pass : Bool) :
    d.islandPowerOn pass = d.islandLoad.islBist pass := by
  refine if_neg ?_
  rintro (h | ⟨hnot1, hnot2⟩)
  · simp [hup] at h
  · exact hst.elim hnot1 hnot2

theorem islBist_passed (d : Dev) : d.islBist true = d.setFlag (pg .scaolo) ⟨R.SCAOLO.SELFTEST, 0, 1⟩ true := rfl

/-- A failed ISL_BIST raises ISL_SELFTEST. -/
theorem islBist_failed (d : Dev) : d.islBist false =
    (d.setFlag (pg .scaolo) ⟨R.SCAOLO.SELFTEST, 0, 1⟩ false).raiseLevel .scaolo 0 B.SCAOLO.ISL_SELFTEST 1 := by
  simp [islBist]

/-! ## The wake into BOOT (R18, R386) -/

/-- A wake event that waits takes the device to BOOT once VSYS has been good for 1 ms after it. -/
theorem vsysQualified_wake {d : Dev} (hst : d.state = 1) (hup : d.cel.islandUp = true) (hhold : d.cel.holdOff = false)
    (hdue : d.cel.wakeDue ≠ 0) (hat : d.cel.wakeAt + 400000 ≤ d.now) :
    d.vsysQualified = (d.wakeTaken d.cel.wakeDue d.cel.wakeLin).enterBoot 0x02 := by
  simp [vsysQualified, hst, hup, hhold, hdue, Nat.not_lt.mpr hat]

/-- Without a wake event AUTOSTART takes the device to BOOT, as a wake event of source 11. -/
theorem vsysQualified_autostart {d : Dev} (hst : d.state = 1) (hup : d.cel.islandUp = true) (hhold : d.cel.holdOff = false)
    (hdue : d.cel.wakeDue = 0) (hauto : d.cel.autoDue = true) (hpolicy : d.flag (pg .cellar) F.CELLAR.POLICY_AUTOSTART = true) :
    d.vsysQualified =
      (((d.wakeRecord 11).setPwron true).wakeTaken 0x800 (d.reg (pg .rtc) R.RTC.LINEAR)).enterBoot 0x03 := by
  simp [vsysQualified, hst, hup, hhold, hdue, hauto, hpolicy]

/-! ## The brown-out (R19) -/

/-- The writes of the MRAM that a cut completes leave the cellar alone. -/
theorem cel_mramCut (d : Dev) : d.mramCut.cel = d.cel := by
  show (d.writeUnits d.unitsBegun).cel = d.cel
  unfold writeUnits
  split
  · exact cel_each _ _ _ fun _ _ => rfl
  · rfl

@[simp] theorem wakeDue_unpowered (d : Dev) : d.unpowered.cel.wakeDue = d.cel.wakeDue := by
  show d.mramCut.cel.wakeDue = d.cel.wakeDue
  rw [cel_mramCut]

@[simp] theorem wakeDue_transition (d : Dev) (st cause : Nat) : (d.transition st cause).cel.wakeDue = d.cel.wakeDue := by
  unfold transition
  dsimp only
  split <;> rfl

@[simp] theorem cel_setRel (d : Dev) (st : Nat) : (d.setRel st).cel = d.cel := by
  simp [setRel]

@[simp] theorem control_setRel (d : Dev) (st : Nat) : (d.setRel st).control = d.control := by
  simp (disch := decide) [setRel, control_setFld, control_setFlag]

@[simp] theorem control_modBoost (d : Dev) (f : BoostS → BoostS) : (d.modBoost f).control = d.control := control_of_regs rfl

@[simp] theorem relStop_leaves (d : Dev) : d.relStop.control = d.control ∧ d.relStop.cel = d.cel := by
  unfold relStop
  dsimp only
  split <;> simp

@[simp] theorem control_modCel (d : Dev) (f : CellarS → CellarS) : (d.modCel f).control = d.control := control_of_regs rfl

@[simp] theorem control_setPwron (d : Dev) (on : Bool) : (d.setPwron on).control = d.control := by
  simp (disch := decide) [setPwron, control_setFlag]

@[simp] theorem wakeDue_setPwron (d : Dev) (on : Bool) : (d.setPwron on).cel.wakeDue = d.cel.wakeDue := rfl

/-- PWRON and the boost, which an entry into CELLAR settles, leave the transition as it is recorded. -/
theorem enterCellar_settled (d : Dev) (cause : Nat) :
    (d.enterCellar cause).control = (d.unpowered.transition 1 cause).control ∧
    (d.enterCellar cause).keys = (d.unpowered.transition 1 cause).keys ∧
    (d.enterCellar cause).cel.wakeDue = (d.unpowered.transition 1 cause).cel.wakeDue := by
  unfold enterCellar
  dsimp only
  split <;> simp

/-- What an entry into CELLAR leaves: the state with its cause, and the keys at reset. A wake event that waited still waits. -/
theorem enterCellar_leaves (d : Dev) {cause : Nat} (hc : cause < 256) :
    (d.enterCellar cause).state = 1 ∧ (d.enterCellar cause).fld (pg .sys) F.SYS.STATE_CAUSE = cause ∧
    (d.enterCellar cause).keys = keysAtReset ∧ (d.enterCellar cause).cel.wakeDue = d.cel.wakeDue := by
  obtain ⟨hctl, hkeys, hwake⟩ := d.enterCellar_settled cause
  refine ⟨?_, ?_, ?_, ?_⟩
  · rw [state_of_control hctl, state_transition _ _ _ (by decide)]
  · rw [fld_of_control hctl _ _ rfl, cause_transition _ _ _ (by decide) hc]
  · rw [hkeys, (transition_store d.unpowered 1 cause).2]
    rfl
  · rw [hwake, wakeDue_transition, wakeDue_unpowered]

theorem control_brownReaction (d : Dev) : d.brownReaction.control = d.control := by
  have hregs : d.brownReaction.regs = ((d.each (List.range 24) fun d n =>
      d.killTile n fun t => { t with killSafe := true }).dischOn 4 true false).regs := rfl
  rw [control_of_regs hregs, control_dischOn, control_each _ _ _ fun e n => control_killTile e n _]

/-- The reaction of R19: ALIVE stops, FAULT_N is asserted and DISCH is on. -/
theorem brownReaction_leaves {d : Dev} (h : 2 ≤ d.state) :
    d.brownReaction.alive = false ∧ d.brownReaction.faultN = true ∧ d.brownReaction.disch.on = true := by
  have hbrown : d.brownReaction.fc.brown = true := rfl
  have hstate : 2 ≤ d.brownReaction.state := by rwa [state_of_control (control_brownReaction d)]
  refine ⟨?_, ?_, ?_⟩
  · simp [alive, hbrown]
  · simp [faultN, hbrown, hstate]
  · exact disch_on_dischOn _ 4 true false

/-- A brown-out in READY, RUN or SAFE is reacted to before the domains fall. -/
theorem brownOut_reacting {d : Dev} (hlo : 3 ≤ d.state) (hhi : d.state ≤ 5) :
    d.brownOut = (d.brownReaction.seqAbandon.modCel (fun c => { c with wakeDue := 0 })).enterCellar 0x04 := by
  have hpowered : 2 ≤ d.state ∧ d.state ≤ 6 := ⟨by omega, by omega⟩
  simp only [brownOut, if_pos hpowered, if_pos (And.intro hlo hhi)]

/-- Whatever the reaction, a brown-out ends in CELLAR with no wake event waiting. -/
theorem brownOut_enterCellar {d : Dev} (hlo : 2 ≤ d.state) (hhi : d.state ≤ 6) :
    ∃ e : Dev, e.cel.wakeDue = 0 ∧ d.brownOut = e.enterCellar 0x04 :=
  ⟨_, rfl, if_pos ⟨hlo, hhi⟩⟩

/-! ## The end of PWRON_WAIT (R389) -/

/-- A wake whose supply does not come is given up: PWRON is released, and the failure recorded and counted. -/
theorem pwronWaitExpiry_leaves {d : Dev} (hst : d.state = 1) (hdue : d.cel.wakeDue ≠ 0) (hhold : d.cel.holdOff = false)
    (hat : d.cel.wakeAt + 400000 * d.fld (pg .cellar) F.CELLAR.PWRON_WAIT_WAIT ≤ d.now) :
    d.pwronWaitExpiry.cel.wakeDue = 0 ∧ d.pwronWaitExpiry.flag (pg .cellar) F.CELLAR.STATUS_PWRON = false ∧
    d.pwronWaitExpiry.flag (pg .cellar) F.CELLAR.STATUS_PWRON_FAIL = true ∧
    d.pwronWaitExpiry.reg (pg .cellar) R.CELLAR.PWRON_FAILS = d.reg (pg .cellar) R.CELLAR.PWRON_FAILS + 1 := by
  have hgiven : d.state = 1 ∧ d.cel.wakeDue ≠ 0 ∧ !d.cel.holdOff ∧
      d.cel.wakeAt + 400000 * d.fld (pg .cellar) F.CELLAR.PWRON_WAIT_WAIT ≤ d.now := ⟨hst, hdue, by simp [hhold], hat⟩
  unfold pwronWaitExpiry
  rw [if_pos hgiven]
  refine ⟨by simp, ?_, ?_, ?_⟩
  · simp (disch := decide) [setPwron, flag_setFlag_other, flag_event_other, flag_bump_other, flag_setFlag_self]
  · simp (disch := decide) [flag_setFlag_self]
  · simp (disch := decide) [setPwron, reg_setFlag_other, reg_event_other, reg_bump_self]

end Dev

/-- Settles O1: each clause is what the operation that its command runs leaves. -/
theorem powerRuns : Obligations.PowerRuns := by
  unfold Obligations.PowerRuns
  intro d
  refine ⟨?cellarOn, ?cellarOff, ?island, ?wake, ?autostart, ?brown, ?reaction, ?givenUp⟩
  case cellarOn =>
    exact fun hst => ⟨_, Runs.dev (fun _ => rfl) rfl, Dev.cellarPowerOn_leaves hst⟩
  case cellarOff =>
    exact fun hst => ⟨_, Runs.dev (fun _ => rfl) rfl, Dev.cellarOff_leaves hst⟩
  case island =>
    intro hup hst
    have hrun := Dev.islandPowerOn_released hup hst
    exact ⟨d.islandLoad_islandUp, Runs.dev (fun _ => rfl) ((hrun true).trans (Dev.islBist_passed _)),
      Runs.dev (fun _ => rfl) ((hrun false).trans (Dev.islBist_failed _))⟩
  case wake =>
    exact fun hst hup hhold hdue hat => ⟨_, Runs.dev (fun _ => rfl) (Dev.vsysQualified_wake hst hup hhold hdue hat),
      Dev.enterBoot_leaves _ (by decide)⟩
  case autostart =>
    exact fun hst hup hhold hdue hauto hpolicy => ⟨_,
      Runs.dev (fun _ => rfl) (Dev.vsysQualified_autostart hst hup hhold hdue hauto hpolicy), Dev.enterBoot_leaves _ (by decide)⟩
  case brown =>
    intro hlo hhi
    obtain ⟨e, hwake, hrun⟩ := Dev.brownOut_enterCellar hlo hhi
    obtain ⟨hstate, hcause, hkeys, hkept⟩ := e.enterCellar_leaves (cause := 0x04) (by decide)
    exact ⟨_, Runs.dev (fun _ => rfl) hrun, hstate, hcause, hkeys, hkept.trans hwake⟩
  case reaction =>
    exact fun hlo hhi => ⟨Runs.dev (fun _ => rfl) (Dev.brownOut_reacting hlo hhi), Dev.brownReaction_leaves (by omega)⟩
  case givenUp =>
    exact fun hst hdue hhold hat => ⟨_, Runs.dev (fun _ => rfl) rfl, Dev.pwronWaitExpiry_leaves hst hdue hhold hat⟩

end Sys2Proof.Machine
end

section
/-!
PROOFS. What every step keeps (R37, R44): canonical memory, the owner of the safety keys and the free reserved keys.
-/
namespace Sys2Proof.Machine

/-- What every step keeps of the device: canonical memory, and the key rack as R37 and R44 fix it. -/
structure Dev.Inv (d : Dev) : Prop where
  mem : Mem.wf d.mem = true
  keys : keysOk d.keys

theorem State.inv_iff (s : State) : s.Inv ↔ s.dev.Inv := ⟨fun h => ⟨h.memory, h.keys⟩, fun h => ⟨h.mem, h.keys⟩⟩

/-- An effect on the device that keeps the invariant. -/
def Keeps (f : Dev → Dev) : Prop := ∀ d : Dev, d.Inv → (f d).Inv

theorem Keeps.whenLive {f : Dev → Dev} (h : Keeps f) : Keeps (fun d => d.whenLive f) :=
  fun d hd => ⟨d.whenLive_wf f hd.mem (h d hd).mem, d.whenLive_keysOk f hd.keys (h d hd).keys⟩

theorem Keeps.whenIsland {f : Dev → Dev} (h : Keeps f) : Keeps (fun d => d.whenIsland f) :=
  fun d hd => ⟨d.whenIsland_wf f hd.mem (h d hd).mem, d.whenIsland_keysOk f hd.keys (h d hd).keys⟩

theorem keeps_busWrite {m : Master} {a : Nat} {w : Word} {f : WriteFacts} : Keeps (fun d => d.busWrite m a w f) :=
  fun d hd => ⟨d.busWrite_wf m a w f hd.mem, d.busWrite_keysOk m a w f hd.keys⟩

theorem keeps_portWrite {m : Master} {k : PageKind} {i ofs : Nat} {w : Word} {f : WriteFacts} :
    Keeps (fun d => d.portWrite m k i ofs w f) := keeps_busWrite

theorem keeps_busStore {m : Master} {a n : Nat} {w : Word} {fl : Flaw} {bit : Nat} : Keeps (fun d => d.busStore m a n w fl bit) :=
  fun d hd => ⟨d.busStore_wf m a n w fl bit hd.mem, d.busStore_keysOk m a n w fl bit hd.keys⟩

theorem keeps_masterWrite {m : Master} {a : Nat} {w : Word} {f : WriteFacts} {ff df : Flaw} {bit : Nat} :
    Keeps (fun d => d.masterWrite m a w f ff df bit) :=
  fun d hd => ⟨d.masterWrite_wf m a w f ff df bit hd.mem, d.masterWrite_keysOk m a w f ff df bit hd.keys⟩

theorem keeps_masterRead {m : Master} {a : Nat} {fl : Flaw} {bit : Nat} : Keeps (fun d => d.masterRead m a fl bit) :=
  fun d hd => ⟨d.masterRead_wf m a fl bit hd.mem, (d.masterRead_keys m a fl bit).symm ▸ hd.keys⟩

theorem keeps_cellarNow {m : Master} {k : PageKind} {ofs : Nat} {w : Word} {ticks : Nat} :
    Keeps (fun d => d.cellarNow m k ofs w ticks) :=
  fun d hd => ⟨d.cellarNow_wf m k ofs w ticks hd.mem, d.cellarNow_keysOk m k ofs w ticks hd.keys⟩

theorem keeps_clockTick : Keeps Dev.clockTick := by
  intro d hd
  refine ⟨?_, ?_⟩
  · simp [Dev.clockTick, hd.mem]
  · simp [Dev.clockTick, hd.keys]

/-- Every command is an effect on the device alone that keeps the invariant: an access by a master, an event of the main domains or of the
island while they have supply, or an event of the cellar and of the blocks that stand in every state. -/
theorem exec_keeps (c : Instr) : ∃ f, Keeps f ∧ ∀ s, exec c s = .next (s.onDev f) := by
  cases c with
  | arm | disarm | hibernate | cellar | safeExit | reset | sysCmdInvalid | claimSet | releaseSet | timebaseEnable |
    sourceRequest | freqWrite | proofTake | proofHoldWrite | galleyEnable | impose | imposeCancel | whitelistWrite |
    tileEnable | calRun | convEnable | groupGo | refWrite | lawLoad | lawClear | unlatch | convRestore | dischStart |
    dischStop | circulate | test | adcEnable | binChannelEnable | streamEnable | piWrite | ciWrite | clrOvf | ringEnable |
    chgEnable | bmsInWrite | chgStart | pause | resume | chgStop | v2l | v2v | clear | restart | gaugeEnable | recAck |
    gaugeRestore | init | discard | publish | unfreeze | bakRestart | supplyUnlatch | runAux | goSet | stopAux | histRdWrite
    | sevWrite | clrFf | clrRecov | clrLost | inject | scaoloArm | arbAdvance | revoke | attest | sessClose | challenge |
    submit | relock | program | reburn | margin | resense | slockWrite | secCfgWrite | pairHalt | pairResume | eoi | swi |
    clrPend | prioWrite | lockRelease | msgWrite | dbSet | done | mramWrite | srWrite | srRead | srRescan | srEnable |
    recover | ptpCommit | checkEnable | checkStart | dinWrite | finish | resync | mxcfgWrite | gpioWrite | measure =>
    exact ⟨_, keeps_portWrite, fun _ => rfl⟩
  | claim | release | enableWrite | softReset | lockSet | eventSet | faultClear | galleyEntryWrite | txRequest | txAbort =>
    exact ⟨_, keeps_busWrite, fun _ => rfl⟩
  | subwordStore => exact ⟨_, keeps_busStore, fun _ => rfl⟩
  | registerWrite | pairStep => exact ⟨_, keeps_masterWrite, fun _ => rfl⟩
  | angleRead | galleyEntryRead | lockRead => exact ⟨_, keeps_masterRead, fun _ => rfl⟩
  | pairRegAccess m write w =>
    cases write with
    | true => exact ⟨_, keeps_masterWrite, fun _ => rfl⟩
    | false => exact ⟨_, keeps_masterRead, fun _ => rfl⟩
  | commit | trimWrite | measStart | measStop | nrefCapture | pwronAssert | pwronRelease =>
    exact ⟨_, keeps_cellarNow, fun _ => rfl⟩
  | angleSlot | folioBoundary | pllUpdate | pllLockDeclared | lossOfGrid | phaseJump | masterJump | syncinEdge |
    syncLockAcquired | syncLoss | fmarkFrameReceived | fmarkTimeout | proofPeriodic | holdExpired | imposeScanDone |
    galleySlot | tilePeriodStart | ncycReached | calInterval | calDone | comparatorCrossing | blankingEnd | outputMismatch |
    groupStart | groupUpdatePoint | lawSample | hiccupOffExpiry | hiccupCleanExpiry | phaseFailureDecision |
    conversionResult | lpExit | binClose | adcStall | owRoundStart | owSettleSample | chgTimerExpiry | stepExit |
    prechargeTimeout | orderlyEndTimeout | gridWaitExpiry | resumeDelayExpiry | s2Timeout | pilotStateChange | dutyUpdate |
    filterRun | gaugeDrift | recordPublish | pathtest | bootHeader | bootSegment | bootColophon | colophonVerified |
    bootRelease | bootTransferTimeout | bootHoldoffEnd | bootFragment | fragmentGapTimeout | sessChallenge | sessResponse |
    hostSessClose | sessionIdleTimeout | nonceExpiry | otpCommandDone | coreInstruction | wfi | wfiWake | lockstepMismatch |
    memoryRead | scrubPass | memoryClearDone | interruptEdge | interruptDelivery | tick | lockTimeout | srScanDone |
    mramCommandDone | mramWindowRead | canFrameReceived | t1sFrameReceived | frameSent | busOff | busOffRecovery | t1sPlca |
    status | read | write | responseRead | statusWordsRead | checkRecord | ageMeasureDone | canErrorFrame |
    requestFrameRefused =>
    exact ⟨_, .whenLive fun d hd => ⟨by simp [hd.mem], by simp [hd.keys]⟩, fun _ => rfl⟩
  | monStall | faultEvent | historyRecord | recovWindowEnd | reactionCheck | deviceResetByReaction | configCompare |
    islandCompareMismatch | referenceCompare | aliveReadback | faultnReadback | selftestRun | selftestDone =>
    exact ⟨_, .whenIsland fun d hd => ⟨by simp [hd.mem], by simp [hd.keys]⟩, fun _ => rfl⟩
  | cellarPowerOn | cellarOff | islandPowerOn | vsysQualified | brownOut | pwronWaitExpiry | dischDisarmTrigger |
    dischTestDone | dischHoldExpiry | dischTimeout | dischOutput | monitorConversion | hibScanCycle | chgTick | pilotPeriod
    | gaugeTick | iwake | vinOkSet | vinLost | offRequest | chargerTick | tbakMeasurement | bakTimerExpiry | relCurrentLimit
    | relTimeLimit | relUvPause | relUvResume | relCoolEnd | buckHiccup | buckHiccupRestart | buckCleanRun | buckBurstEntry
    | buckBurstWake | regSyncLoss | ldoIlim | sysclkToPll | xtalQualifyTimeout | xtalLoss | xtalBack | pllLoss |
    clockMonitorAlarm | x32Loss | x32Recovery | stepEnd | stepEnable | stepDisable | stepWait | waitExpiry | stepWaitv |
    waitvTimeout | stepCheck | stepJump | stepStair | stairRise | stairTimeout | stepReset | rstoutRelease | stepMark |
    stepInvalid | domainOn | railUv | railOv | domOffTimeout | holdOffEnd | cellarWriteSync | secRead | secondRollover |
    commitApply | measIntervalEnd | wakeInput | pilotDetectorChange | pwronPulseEnd | quietPeriodElapsed | busWake |
    hostPortWake | trimCorrection | relSoftStartEnd | buckSoftStartEnd | pathCurrentLimit | vbakSwitchChange =>
    exact ⟨_, fun d hd => ⟨by simp [hd.mem], by simp [hd.keys]⟩, fun _ => rfl⟩

/-- Settles O60: a step is a clock or the front command, and each of them keeps the invariant of the device. -/
theorem everyStepKeepsInvariant : Obligations.EveryStepKeepsInvariant := by
  unfold Obligations.EveryStepKeepsInvariant
  intro s t hs hstep
  obtain ⟨d, q⟩ := s
  rw [State.inv_iff] at hs ⊢
  cases q with
  | nil =>
    rw [step_nil] at hstep
    cases hstep
    exact keeps_clockTick d hs
  | cons c l =>
    obtain ⟨f, hf, hexec⟩ := exec_keeps c
    rw [step_cons, hexec] at hstep
    cases hstep
    exact hf d hs

end Sys2Proof.Machine
end

section
/-!
PROOFS. The device right after reset (R37, R44; log entries 2, 15 and 16): nothing is listed in its stores but the safety keys.
-/
namespace Sys2Proof.Machine

/-- Right after reset every key but the safety keys is free. -/
theorem keyTag_reset {a : Nat} (h : keySafety a = false) : State.reset.dev.keyTag a = 0 := by
  have hother : ¬ (a = 0x2DC ∨ a = 0x2DD ∨ a = 0x2DE ∨ a = 0x2DF ∨ a = 0x2E0) := by
    rintro (rfl | rfl | rfl | rfl | rfl) <;> revert h <;> decide
  simp only [not_or] at hother
  simp [Dev.keyTag, keysAtReset, safetyKeys, Sparse.get, hother, keyDefault]

/-- Settles O59: the register file and the memory list nothing, so that each register and byte reads as unlisted. -/
theorem resetKeepsInvariant : Obligations.ResetKeepsInvariant := by
  unfold Obligations.ResetKeepsInvariant
  refine ⟨⟨Mem.wf_nil, keysOk_reset⟩, rfl, ?_, ?_, ?_, ?_, ?_, fun _ _ _ => rfl, fun _ => rfl, fun _ => keyTag_reset⟩
  all_goals decide +kernel

end Sys2Proof.Machine
end

section
/-!
PROOFS. REGISTER_WRITE where the bus does not carry the write to a register: a write to a memory (R24, R25), and one that R34 does not
permit.
-/
namespace Sys2Proof.Machine

/-! ## Bytes of memory (R6) -/

theorem Mem.byte_setByte (m : Mem) (a : Nat) (v : Byte) (b : Nat) : (m.setByte a v).byte b = if b = a then v else m.byte b :=
  Sparse.get_put memDefault m a b v

/-- Bytes outside those written read as before. -/
theorem Mem.byte_write_outside (m : Mem) (a v n : Nat) {b : Nat} (h : b < a ∨ a + n ≤ b) : (m.write a v n).byte b = m.byte b := by
  induction n generalizing m a v with
  | zero => rfl
  | succ n ih =>
    have hne : b ≠ a := by omega
    rw [Mem.write, ih _ _ _ (by omega), Mem.byte_setByte, if_neg hne]

/-- A number is written low byte first. -/
theorem Mem.byte_write_inside (m : Mem) (a v n : Nat) {j : Nat} (h : j < n) :
    (m.write a v n).byte (a + j) = BitVec.ofNat 8 (v / 256 ^ j) := by
  induction n generalizing m a v j with
  | zero => omega
  | succ n ih =>
    rw [Mem.write]
    cases j with
    | zero => rw [Mem.byte_write_outside _ _ _ _ (by omega), Mem.byte_setByte, if_pos (by omega), Nat.pow_zero, Nat.div_one]
    | succ j => rw [show a + (j + 1) = a + 1 + j by omega, ih _ _ _ (by omega), Nat.div_div_eq_div_mul, Nat.pow_succ']

/-! ## The write on the bus -/

namespace Dev

@[simp] theorem bus_busFault (d : Dev) (m : Master) : (d.busFault m).bus = .fault := rfl

theorem busWrite_unsupplied {d : Dev} (h : d.busLive = false) (m : Master) (a : Nat) (w : Word) (f : WriteFacts) :
    d.busWrite m a w f = d := by
  simp [busWrite, h]

theorem busWrite_page {d : Dev} (h : d.busLive = true) {a : Nat} (ha : regionOf a 4 = some .pages) (m : Master) (w : Word)
    (f : WriteFacts) : d.busWrite m a w f = d.pageWrite m a w f := by
  simp [busWrite, h, ha]

theorem busWrite_memory {d : Dev} (h : d.busLive = true) {a : Nat} (ha : regionOf a 4 ≠ some .pages) (m : Master) (w : Word)
    (f : WriteFacts) : d.busWrite m a w f = d.memStore m a w := by
  simp [busWrite, h, ha]

/-- A page that the master does not reach: reserved, or secure and the master not in the secure state (R26, R27). -/
theorem pageWrite_unreached {d : Dev} {m : Master} {a : Nat} (h : d.pageReached m a true = none) (w : Word) (f : WriteFacts) :
    d.pageWrite m a w f = d.busFault m := by
  simp [pageWrite, h]

/-- A page whose ACCESS shuts the master out records the refusal (R34). -/
theorem pageWrite_shutOut {d : Dev} {m : Master} {a : Nat} {q : Page} (h : d.pageReached m a true = some q)
    (hno : d.accessOk m q.kind q.inst = false) (w : Word) (f : WriteFacts) :
    d.pageWrite m a w f = (d.refuse m (pg q.kind q.inst) (a % 0x1000)).busFault m := by
  simp [pageWrite, h, hno]

theorem memStore_forbidden {d : Dev} {m : Master} {a : Nat} (h : a % 4 ≠ 0 ∨ d.memAllowed m a 4 true = false) (w : Word) :
    d.memStore m a w = d.busFault m := by
  refine if_neg ?_
  rintro ⟨haligned, hallowed⟩
  exact h.elim (fun hno => hno haligned) (fun hno => by simp [hno] at hallowed)

/-- A permitted store to a memory other than the galley. -/
theorem memStore_permitted {d : Dev} {m : Master} {a : Nat} (haligned : a % 4 = 0) (hallowed : d.memAllowed m a 4 true = true)
    (hgal : regionOf a 4 ≠ some .galley) (w : Word) : d.memStore m a w = { d with mem := Mem.setWord d.mem a w, bus := .done } := by
  simp [memStore, haligned, hallowed, hgal]

end Dev

/-- A write that reaches neither PAIR_CTRL nor PAIR_REG_DATA, or is not answered as complete, is the write on the bus alone (R471). -/
theorem Runs.registerWrite_bus {d t : Dev} {m : Master} {a w : Word} {f : WriteFacts} (ht : d.busWrite m a.toNat w f = t)
    (h : d.busLive = true → t.bus = .done → regionOf a.toNat 4 ≠ some .pages) : Runs (.registerWrite m a w f) d t := by
  refine Runs.dev (f := fun d => d.masterWrite m a.toNat w f .clean .clean 0) (fun _ => rfl) ?_
  dsimp only [Dev.masterWrite]
  rw [ht]
  split
  case isFalse => rfl
  case isTrue hdone =>
    have hmem := h hdone.1 hdone.2
    have hctrl : a.toNat ≠ Dev.pageAddr (pg .sys) R.SYS.PAIR_CTRL := fun e => hmem (by rw [e]; decide)
    have hdata : a.toNat ≠ Dev.pageAddr (pg .sys) R.SYS.PAIR_REG_DATA := fun e => hmem (by rw [e]; decide)
    rw [if_neg fun hc => hctrl hc.1, if_neg hdata]

/-- A write that ends with a bus fault changes what the fault changes. -/
theorem Runs.registerWrite_fault {d e : Dev} {m : Master} {a w : Word} {f : WriteFacts}
    (ht : d.busWrite m a.toNat w f = e.busFault m) : Runs (.registerWrite m a w f) d (e.busFault m) :=
  Runs.registerWrite_bus ht fun _ hbus => by simp at hbus

/-- Settles O7: TCM, system SRAM and frame memory take the word, whose bytes lie low byte first. -/
theorem wordStoreWritesFourBytes : Obligations.WordStoreWritesFourBytes := by
  unfold Obligations.WordStoreWritesFourBytes
  intro d m a w f g hlive hregion hg haligned hallowed
  have hpages : regionOf a.toNat 4 ≠ some .pages := by
    rw [hregion]; rintro ⟨rfl⟩; simp at hg
  have hgal : regionOf a.toNat 4 ≠ some .galley := by
    rw [hregion]; rintro ⟨rfl⟩; simp at hg
  have hstore := (Dev.busWrite_memory hlive hpages m w f).trans (Dev.memStore_permitted haligned hallowed hgal w)
  exact ⟨_, Runs.registerWrite_bus hstore fun _ _ => hpages, fun j hj => Mem.byte_write_inside _ _ _ _ hj,
    fun b hb => Mem.byte_write_outside _ _ _ _ hb, rfl⟩

/-- Settles O8: each check of R34 that fails ends the write before its target. -/
theorem refusedWritesChangeNoTarget : Obligations.RefusedWritesChangeNoTarget := by
  unfold Obligations.RefusedWritesChangeNoTarget
  intro d m a w f
  refine ⟨?unsupplied, ?unreached, ?shutOut, ?forbidden, Dev.busFault_keys d m, Dev.bus_busFault d m⟩
  case unsupplied =>
    exact fun hdead => Runs.registerWrite_bus (Dev.busWrite_unsupplied hdead m _ w f) fun hlive => by simp [hdead] at hlive
  case unreached =>
    exact fun hlive hpages hno =>
      Runs.registerWrite_fault ((Dev.busWrite_page hlive hpages m w f).trans (Dev.pageWrite_unreached hno w f))
  case shutOut =>
    exact fun hlive q hq hno => Runs.registerWrite_fault
      ((Dev.busWrite_page hlive (Dev.pageReached_pages hq) m w f).trans (Dev.pageWrite_shutOut hq hno w f))
  case forbidden =>
    exact fun hlive hmem hno =>
      Runs.registerWrite_fault ((Dev.busWrite_memory hlive hmem m w f).trans (Dev.memStore_forbidden hno w))

end Sys2Proof.Machine
end

section
/-!
PROOFS. The common header and common control (R29, R30, R32, R33, R34): a permitted write of a header register of a page that is neither a
converter group nor FAULT.
-/
namespace Sys2Proof.Machine

/-! ## Pages -/

theorem pageOf_eq {p i : Nat} {k : PageKind} (h : pageOf p = some ⟨k, i⟩) : p = pg k i ∧ i < k.first.2 := by
  obtain ⟨k', hfind, hpage⟩ := Option.map_eq_some_iff.mp h
  have hin := List.find?_some hfind
  simp only [Bool.and_eq_true, decide_eq_true_eq] at hin
  obtain ⟨rfl, rfl⟩ := Page.mk.inj hpage
  unfold pg
  omega

/-- The sources of a page's FAULT bits have numbers below 512 (R396). -/
theorem srcNo_lt {k : PageKind} {i b : Nat} (hi : i < k.first.2) (hb : b < 32) : srcNo k i b < 512 := by
  cases k <;> simp only [srcNo, PageKind.sources, PageKind.first] at hi ⊢ <;> omega

theorem bitAt_eq_testBit (n b : Nat) : bitAt n b = n.testBit b := by
  rw [bitAt, Nat.testBit_eq_decide_div_mod_eq, Nat.shiftRight_eq_div_pow]

/-- The bits of a word that a mask leaves are bits of the word. -/
theorem bitAt_and_left {n mask b : Nat} (h : bitAt (n &&& mask) b = true) : bitAt n b = true := by
  rw [bitAt_eq_testBit, Nat.testBit_and, Bool.and_eq_true] at h
  rw [bitAt_eq_testBit, h.1]

theorem mem_numbers {n b : Nat} {p : Nat → Bool} (h : b ∈ numbers n p) : b < n ∧ p b = true := by
  simpa [numbers] using h

namespace Dev

theorem pageOf_of_canWrite {d : Dev} {m : Master} {k : PageKind} {i ofs : Nat} (h : d.CanWrite m k i ofs) (ho : ofs < 0x1000) :
    pageOf (pg k i) = some ⟨k, i⟩ := by
  have hpage : (0x40000000 + 0x1000 * pg k i + ofs - 0x40000000) / 0x1000 = pg k i := by omega
  have hreached := h.reached
  unfold pageReached at hreached
  split at hreached
  case isFalse => cases hreached
  case isTrue =>
    rw [hpage] at hreached
    split at hreached
    case h_1 => cases hreached
    case h_2 q hq =>
      split at hreached
      · cases hreached
      · rw [hq, hreached]

theorem each_unchanged {α : Type} (d : Dev) (l : List α) (f : Dev → α → Dev) (h : ∀ x ∈ l, f d x = d) : d.each l f = d :=
  List.foldlRecOn (motive := fun e => e = d) l f rfl fun e he x hx => by rw [he, h x hx]

/-! ## The registers of the header -/

/-- On a page that is neither a converter group nor FAULT a permitted write of a header register is the header's. -/
theorem regWrite_header {k : PageKind} (hconv : k ≠ .conv) (hfault : k ≠ .fault) (d : Dev) (m : Master) (i : Nat) {ofs : Nat}
    (ho : ofs < 0x100) (w : Word) (f : WriteFacts) : d.regWrite m k i ofs w f = d.headerWrite m k i ofs w f := by
  simp only [regWrite, if_pos ho]

theorem lockWrite_unlocked {d : Dev} {k : PageKind} {i : Nat} (hfault : k ≠ .fault) (h : d.lockSet (pg k i) = false) :
    d.lockWrite k i 1 = d.setReg (pg k i) R.HDR.LOCK 1 := by
  have hgo : ¬ ((!bitAt (1 : Word).toNat 0) = true ∨ d.lockSet (pg k i) = true) := by
    rw [h]; decide
  simp only [lockWrite, if_neg hgo]

theorem lockWrite_locked {d : Dev} {k : PageKind} {i : Nat} (h : d.lockSet (pg k i) = true) (w : Word) : d.lockWrite k i w = d :=
  if_pos (Or.inr h)

/-- Whether an event bit is a fault source does not depend on the device; which one, for TIMEBASE, does. -/
theorem eventSource_none {d : Dev} {k : PageKind} {b : Nat} (h : d.eventSource k b = none) (e : Dev) : e.eventSource k b = none := by
  unfold eventSource at h ⊢
  split at h <;> simp_all

/-- EVENT_SET of bits that are no fault sources sets those that the page has. -/
theorem eventSet_noSource {d : Dev} {k : PageKind} (m : Master) (i : Nat) {w : Word} (hst : d.state ≠ 4)
    (h : ∀ b < 32, bitAt w.toNat b = true → d.eventSource k b = none) :
    d.eventSet m k i w = d.setReg (pg k i) R.HDR.EVENT (d.reg (pg k i) R.HDR.EVENT |||
      BitVec.ofNat 32 (w.toNat &&& (k.eventBits ||| 7))) := by
  simp only [eventSet, if_neg hst]
  refine each_unchanged _ _ _ fun b hb => ?_
  obtain ⟨hlt, hbit⟩ := mem_numbers hb
  rw [eventSource_none (h b hlt (bitAt_and_left hbit))]

/-- A FAULT register holds no active bits: those stand on the FAULT page (R428). -/
theorem active_setReg_fault {d : Dev} {k : PageKind} {i s : Nat} (hpage : pageOf (pg k i) = some ⟨k, i⟩) (hk : k ≠ .fault)
    (hs : s < 512) (v : Word) : (d.setReg (pg k i) R.HDR.FAULT v).active s = d.active s := by
  have hne : pg .fault ≠ pg k i := fun e => by
    rw [← e] at hpage
    exact hk (congrArg Page.kind (Option.some.inj hpage)).symm
  have hofs : R.FAULT.ACTIVE + 4 * (s / 32) < 0x1000 := by unfold R.FAULT.ACTIVE; omega
  have hkey : regKey (pg .fault) (R.FAULT.ACTIVE + 4 * (s / 32)) ≠ regKey (pg k i) R.HDR.FAULT := by
    simp only [regKey, R.HDR.FAULT] at hofs ⊢; omega
  unfold active
  rw [reg_setReg_other _ hkey]

/-- FAULT bits whose conditions hold no longer are cleared by writing 1, where the block itself has nothing to let go (R32). -/
theorem faultClear_inactive {d : Dev} {k : PageKind} {i : Nat} {w : Word} (hpage : pageOf (pg k i) = some ⟨k, i⟩) (hfault : k ≠ .fault)
    (htile : k ≠ .tile) (hdom : k ≠ .dom) (hdisch : k ≠ .disch)
    (h : ∀ b < 32, bitAt w.toNat b = true → d.active (srcNo k i b) = false) :
    d.faultClear k i w = d.setReg (pg k i) R.HDR.FAULT (d.reg (pg k i) R.HDR.FAULT &&& ~~~w) := by
  have hlevels : ∀ f : Dev → Nat → Dev, (∀ e b, e.active (srcNo k i b) = false → f e b = e) →
      (d.setReg (pg k i) R.HDR.FAULT (d.reg (pg k i) R.HDR.FAULT &&& ~~~w)).each
        (numbers 32 (bitAt (d.reg (pg k i) R.HDR.FAULT &&& w).toNat)) f =
      d.setReg (pg k i) R.HDR.FAULT (d.reg (pg k i) R.HDR.FAULT &&& ~~~w) := by
    refine fun f hf => each_unchanged _ _ _ fun b hb => hf _ _ ?_
    obtain ⟨hlt, hbit⟩ := mem_numbers hb
    rw [BitVec.toNat_and, Nat.and_comm] at hbit
    rw [active_setReg_fault hpage hfault (srcNo_lt (pageOf_eq hpage).2 hlt)]
    exact h b hlt (bitAt_and_left hbit)
  simp only [faultClear]
  rw [hlevels _ fun e b hb => by simp [hb]]

@[simp] theorem keyHeldBy_refuse (d : Dev) (m : Master) (p ofs : Nat) (n : Master) (key : Nat) :
    (d.refuse m p ofs).keyHeldBy n key = d.keyHeldBy n key := by
  simp only [keyHeldBy, keyTag, refuse_store]
  rfl

/-- SOFT_RESET of a page that is not idle, with ENABLE = 1 from a writer that does not hold the key: both are refused (R30, R43). -/
theorem ctrlWrite_softReset_busy {d : Dev} {k : PageKind} {i key : Nat} (m : Master) (fl : List EntryFlaw) (hidle : d.idle k i = false)
    (hkey : pageKey (pg k i) = some key) (hheld : d.keyHeldBy m key = false) :
    d.ctrlWrite m k i 3#32 fl = (d.refuse m (pg k i) R.HDR.CTRL).event (pg k i) F.HDR.EVENT_NOKEY := by
  have hon : bitAt (3#32).toNat 0 = true := by decide
  have hsoft : bitAt (3#32).toNat 1 = true := by decide
  simp only [ctrlWrite, hon, hsoft, hidle, hkey, if_true, Bool.false_eq_true, if_false, keyHeldBy_refuse, hheld]
  rfl

end Dev

/-- A command that writes a header register by its page's number runs, and leaves what the header makes of the write. -/
theorem Runs.header {c : Instr} {d t : Dev} {m : Master} {page : BitVec 8} {k : PageKind} {i ofs : Nat} {w : Word}
    (hpage : page.toNat = pg k i) (hconv : k ≠ .conv) (hfault : k ≠ .fault) (h : d.CanWrite m k i ofs) (ho : ofs < 0x100)
    (hc : ∀ s, exec c s = .next (s.onDev fun d => d.busWrite m (Dev.pageAddr page.toNat ofs) w))
    (ht : d.headerWrite m k i ofs w {} = t) : Runs c d t.done := by
  refine Runs.port h (by omega) (fun s => ?_) ((Dev.regWrite_header hconv hfault d m i ho w {}).trans ht)
  rw [hc, hpage]
  rfl

/-- Settles O5: each register of the header by its own rule. -/
theorem headerCommandsRun : Obligations.HeaderCommandsRun := by
  unfold Obligations.HeaderCommandsRun
  intro d m page k i hpage hconv hfault
  refine ⟨?locks, ?locked, ?inRun, ?events, ?faults, ?busy⟩
  case locks =>
    exact fun h hl => Runs.header hpage hconv hfault h (by decide) (fun _ => rfl) (Dev.lockWrite_unlocked hfault hl)
  case locked =>
    exact fun h hl => Runs.header hpage hconv hfault h (by decide) (fun _ => rfl) (Dev.lockWrite_locked hl 1)
  case inRun =>
    exact fun h hst w => Runs.header hpage hconv hfault h (by decide) (fun _ => rfl) (if_pos hst)
  case events =>
    exact fun h hst w hw => Runs.header hpage hconv hfault h (by decide) (fun _ => rfl) (Dev.eventSet_noSource m i hst hw)
  case faults =>
    exact fun h htile hdom hdisch w hw => Runs.header hpage hconv hfault h (by decide) (fun _ => rfl)
      (Dev.faultClear_inactive (Dev.pageOf_of_canWrite h (by decide)) hfault htile hdom hdisch hw)
  case busy =>
    intro h hidle hkeyed hheld
    obtain ⟨key, hkey⟩ := Option.ne_none_iff_exists'.mp hkeyed
    rw [hkey] at hheld
    exact Runs.header hpage hconv hfault h (by decide) (fun _ => rfl) (Dev.ctrlWrite_softReset_busy m [] hidle hkey hheld)

end Sys2Proof.Machine
end

section
/-!
PROOFS. Claims that a comparator's trip follows (R39, R40, R125, R126): the key of a tile given its owner settles the tile's comparators, and
a trip of severity SAFE discards a download under way (R401, R438, R439), so that memory changes with the claim.
-/
namespace Sys2Proof.Machine
namespace Dev

/-- A claim of one key that succeeds gives the key its owner and reports OK. -/
theorem keyRequest_claim_ok {d : Dev} {m : Master} {k : Nat} {t : BitVec 16} (h : d.claimResult m k t = 0) :
    d.keyRequest false m [k] t = (d.setKey k t).krResult m 0 0 0 := by
  simp [keyRequest, requestResult, h, each]

end Dev

/-! ## The counterexample -/

/-- The start of an image header whose first load range is the first 65,536 bytes of system SRAM (R432). -/
def sramHeader : List Nat := List.replicate 0x20 0 ++ [0, 0, 0, 0x20, 0, 0, 1, 0]

/-- A device in BOOT that has copied one segment of an image into system SRAM, its first byte 1. The control pair owns TILE[0] and its
comparator CMPA, whose function TRIP has severity SAFE; the tile is STOPPED, and CMPA shows a trip that is no active source yet. KR_MASK of
the control pair marks bit 0. -/
def downloadWithTrip : Dev :=
  let d := ({} : Dev).setReg (pg .keyrack) R.KEYRACK.KR_MASK 1 Master.ctrl.cls
  let d := (d.setFld (pg .tile) F.TILE.STATUS_TSTATE 1).setFlag (pg .tile) F.TILE.STATUS_CMPA_OUT true
  let d := d.setFld (pg .tile) F.TILE.CMPA_CFG_FUNC 4
  let d := d.setFld (pg .fault) ⟨R.FAULT.SEV + 4 * 22, 4, 3⟩ 4
  let d := (d.setBootState 3).setFld (pg .secboot) F.SECBOOT.BOOT_STATUS_SEG 1
  { d with
    keys := (0x100, 0x2001#16) :: (0x118, 0x2001#16) :: keysAtReset
    mem := [(0x20000000, 1#8)]
    boot := { hdr := sramHeader } }

/-- The control pair's claim of TILE[0], which it owns already, would succeed. -/
theorem downloadWithTrip_claimResult : downloadWithTrip.claimResult .ctrl 0x100 0x2001 = 0 := by decide +kernel

/-- The key given its owner again trips CMPA, and the copied byte is gone. -/
theorem downloadWithTrip_setKey_mem : (downloadWithTrip.setKey 0x100 0x2001).mem = [] := by decide +kernel

theorem downloadWithTrip_claim : Runs (.claim .ctrl 0x40 0x2001) downloadWithTrip
    ((downloadWithTrip.setKey 0x100 0x2001).krResult .ctrl 0 0 0).done := by
  have hwrite : downloadWithTrip.CanWrite .ctrl .tile 0 R.HDR.CLAIM := test_canWrite (by decide +kernel)
  have hkey : pageKey (pg .tile 0) = some 0x100 := by decide +kernel
  refine Runs.header (k := .tile) (i := 0) rfl (by decide) (by decide) hwrite (by decide) (fun _ => rfl) ?_
  rw [← Dev.keyRequest_claim_ok downloadWithTrip_claimResult]
  show downloadWithTrip.claimWrite .ctrl (pg .tile 0) 0x20010001#32 = _
  rw [Dev.claimWrite, hkey]
  rfl

/-- The keys that KR_MASK marks in window 8 are the one of TILE[0]. -/
theorem downloadWithTrip_set : (numbers 32 (bitAt (downloadWithTrip.reg (pg .keyrack) R.KEYRACK.KR_MASK Master.ctrl.cls).toNat)).map
    (fun b => 32 * (8#5).toNat + b) = [0x100] := by decide +kernel

theorem downloadWithTrip_claimSet : Runs (.claimSet .ctrl 8 0x2001) downloadWithTrip
    ((downloadWithTrip.setKey 0x100 0x2001).krResult .ctrl 0 0 0).done := by
  have hwrite : downloadWithTrip.CanWrite .ctrl .keyrack 0 R.KEYRACK.KR_REQ := test_canWrite (by decide +kernel)
  refine Runs.port hwrite (by decide) (fun _ => rfl) ?_
  rw [← Dev.keyRequest_claim_ok downloadWithTrip_claimResult, ← downloadWithTrip_set]
  show downloadWithTrip.krReq .ctrl 0x20010101#32 = _
  simp only [Dev.krReq]
  rfl

/-- The claim has not left memory as it was. -/
theorem downloadWithTrip_mem_changed :
    ((downloadWithTrip.setKey 0x100 0x2001).krResult .ctrl 0 0 0).done.mem ≠ downloadWithTrip.mem := by
  have hgone : ((downloadWithTrip.setKey 0x100 0x2001).krResult .ctrl 0 0 0).done.mem = [] := by
    rw [(Dev.done_frame _).2.1, (Dev.krResult_store _ _ _ _ _).1, downloadWithTrip_setKey_mem]
  rw [hgone]
  exact (List.cons_ne_nil _ _).symm

/-- Refutes O3: the control pair claims TILE[0], which it owns, on a device whose CMPA then trips; the SAFE reaction discards the download
under way, and the byte that it had copied to system SRAM changes. -/
theorem not_keyClaimedAndReleased : ¬ Obligations.KeyClaimedAndReleased := by
  unfold Obligations.KeyClaimedAndReleased
  intro h
  have hwrite : downloadWithTrip.CanWrite .ctrl .tile 0 R.HDR.CLAIM := test_canWrite (by decide +kernel)
  obtain ⟨t, hrun, -, -, -, hmem⟩ := (h downloadWithTrip .ctrl 0x40 0x2001 .tile 0 0x100 rfl hwrite (by decide +kernel)
    (by decide) (by decide +kernel)).1 (.inr (by decide +kernel))
  rw [hrun.unique downloadWithTrip_claim] at hmem
  exact downloadWithTrip_mem_changed hmem

/-- Refutes O4: the same claim made through KR_REQ, of the set that holds the key of TILE[0] alone. -/
theorem not_keySetAllOrNone : ¬ Obligations.KeySetAllOrNone := by
  unfold Obligations.KeySetAllOrNone
  intro h
  have hwrite : downloadWithTrip.CanWrite .ctrl .keyrack 0 R.KEYRACK.KR_REQ := test_canWrite (by decide +kernel)
  have hclaims := ((h downloadWithTrip .ctrl 8 0x2001 hwrite).2 (by decide +kernel)).1
  obtain ⟨t, hrun, -, -, -, hmem⟩ := hclaims (by decide +kernel)
  rw [hrun.unique downloadWithTrip_claimSet] at hmem
  exact downloadWithTrip_mem_changed hmem

end Sys2Proof.Machine
end

section
/-!
PROOFS. CTRL.ENABLE of OPENWIRE (R30, R228): ENABLE = 0 also ends the test in progress.
-/
namespace Sys2Proof.Machine

/-- A device on which OPENWIRE is enabled and a round of its tests is under way. -/
def openWireRound : Dev := { ({} : Dev).setFlag (pg .openwire) F.HDR.CTRL_ENABLE true with ow := { inRound := true } }

/-- ENABLE = 0 on OPENWIRE ends the round. -/
theorem openWireRound_disabled : Runs (.enableWrite .ctrl 0x28 false) openWireRound (openWireRound.owEnable false).done := by
  have hwrite : openWireRound.CanWrite .ctrl .openwire 0 R.HDR.CTRL := test_canWrite (by decide +kernel)
  exact Runs.header (k := .openwire) (i := 0) rfl (by decide) (by decide) hwrite (by decide) (fun _ => rfl) rfl

/-- Refutes O9: ENABLE = 0 on OPENWIRE during a round clears the enable bit and ends the round (R228), where the statement has the rest of
the device unchanged. -/
theorem not_enableAndSoftReset : ¬ Obligations.EnableAndSoftReset := by
  unfold Obligations.EnableAndSoftReset
  intro h
  have hwrite : openWireRound.CanWrite .ctrl .openwire 0 R.HDR.CTRL := test_canWrite (by decide +kernel)
  have claimed := ((h openWireRound .ctrl 0x28 .openwire 0 rfl hwrite).2.2 (by decide)).1 false
  have hround : false = true := congrArg (fun t : Dev => t.ow.inRound) (openWireRound_disabled.unique claimed)
  exact Bool.false_ne_true hround

end Sys2Proof.Machine
end

section
/-!
PROOFS. What one operation leaves of a page and of the state beside the registers: the registers of a page as one function, and what
each block does to them in a clock or as the rate changes.
-/
namespace Sys2Proof.Machine
namespace Dev

/-! ## The registers of one page -/

/-- The registers of page `p`, by offset. -/
def pageRegs (d : Dev) (p : Nat) : Fin 0x1000 → Word := fun o => d.reg p o

theorem reg_of_pageRegs {d e : Dev} {p : Nat} (h : e.pageRegs p = d.pageRegs p) {o : Nat} (ho : o < 0x1000) : e.reg p o = d.reg p o :=
  congrFun h ⟨o, ho⟩

theorem fld_of_pageRegs {d e : Dev} {p : Nat} (h : e.pageRegs p = d.pageRegs p) {f : Fld} (hf : f.ofs < 0x1000) :
    e.fld p f = d.fld p f := by
  unfold fld
  rw [reg_of_pageRegs h hf]

theorem flag_of_pageRegs {d e : Dev} {p : Nat} (h : e.pageRegs p = d.pageRegs p) {f : Fld} (hf : f.ofs < 0x1000) :
    e.flag p f = d.flag p f := by
  unfold flag
  rw [fld_of_pageRegs h hf]

/-- The device state stands on the page SYS (R22). -/
theorem state_of_pageRegs {d e : Dev} (h : e.pageRegs (pg .sys) = d.pageRegs (pg .sys)) : e.state = d.state :=
  fld_of_pageRegs h (by decide)

theorem pageRegs_of_regs {d e : Dev} (h : e.regs = d.regs) (p : Nat) : e.pageRegs p = d.pageRegs p := by
  funext o
  exact reg_of_regs h p o 0

/-- A register given a value leaves the other pages alone. -/
theorem pageRegs_setReg (d : Dev) {p q o : Nat} (v : Word) (h : p ≠ q ∧ o < 0x1000) : (d.setReg q o v).pageRegs p = d.pageRegs p := by
  funext x
  refine reg_setReg_other d ?_
  unfold regKey
  omega

theorem pageRegs_setFld (d : Dev) {p q : Nat} {f : Fld} (v : Nat) (h : p ≠ q ∧ f.ofs < 0x1000) :
    (d.setFld q f v).pageRegs p = d.pageRegs p := pageRegs_setReg d _ h

theorem pageRegs_setFlag (d : Dev) {p q : Nat} {f : Fld} (b : Bool) (h : p ≠ q ∧ f.ofs < 0x1000) :
    (d.setFlag q f b).pageRegs p = d.pageRegs p := pageRegs_setFld d _ h

theorem pageRegs_event (d : Dev) {p q : Nat} {f : Fld} (h : p ≠ q ∧ f.ofs < 0x1000) : (d.event q f).pageRegs p = d.pageRegs p :=
  pageRegs_setFld d 1 h

theorem pageRegs_bump (d : Dev) {p q o : Nat} (n : Nat) (h : p ≠ q ∧ o < 0x1000) : (d.bump q o n).pageRegs p = d.pageRegs p :=
  pageRegs_setReg d _ h

@[simp] theorem pageRegs_ite (c : Prop) [Decidable c] (a b : Dev) (p : Nat) :
    (if c then a else b).pageRegs p = if c then a.pageRegs p else b.pageRegs p := apply_ite (pageRegs · p) _ _ _

/-- The proof unit beside its registers changed. -/
@[simp] theorem pageRegs_withProof (d : Dev) (x : ProofS) (p : Nat) : ({ d with proof := x } : Dev).pageRegs p = d.pageRegs p := rfl

/-- What every repetition of an operation keeps, the repeated operation keeps. -/
theorem each_keeps {α β : Type} (g : Dev → β) (d : Dev) (l : List α) (f : Dev → α → Dev) (h : ∀ e, ∀ x ∈ l, g (f e x) = g e) :
    g (d.each l f) = g d :=
  List.foldlRecOn (motive := fun e => g e = g d) l f rfl fun e he x hx => (h e x hx).trans he

/-! ## Proofs (R73–R76) -/

@[simp] theorem autoHold_frame (d : Dev) (trig : Nat) :
    (d.autoHold trig).now = d.now ∧ (d.autoHold trig).tb = d.tb ∧ (d.autoHold trig).comp = d.comp := by
  simp only [autoHold]
  split <;> simp

/-- AUTO stands in HOLD, on the page PROOF. -/
theorem pageRegs_autoHold (d : Dev) (trig : Nat) {p : Nat} (h : p ≠ pg .proof) : (d.autoHold trig).pageRegs p = d.pageRegs p := by
  simp only [autoHold]
  split
  · exact pageRegs_setFlag d true ⟨h, by decide⟩
  · rfl

@[simp] theorem takeProof_frame (d : Dev) (trig : Nat) :
    (d.takeProof trig).now = d.now ∧ (d.takeProof trig).tb = d.tb ∧ (d.takeProof trig).comp = d.comp := by
  simp [takeProof]

theorem pageRegs_takeProof (d : Dev) (trig : Nat) {p : Nat} (h : p ≠ pg .proof) : (d.takeProof trig).pageRegs p = d.pageRegs p := by
  simp only [takeProof]
  rw [pageRegs_autoHold _ _ h, pageRegs_event _ ⟨h, by decide⟩, pageRegs_setReg _ _ ⟨h, by decide⟩, pageRegs_setReg _ _ ⟨h, by decide⟩,
    pageRegs_withProof]

@[simp] theorem missProof_frame (d : Dev) :
    d.missProof.now = d.now ∧ d.missProof.tb = d.tb ∧ d.missProof.comp = d.comp := by
  simp only [missProof]
  split <;> simp

theorem pageRegs_missProof (d : Dev) {p : Nat} (h : p ≠ pg .proof) : d.missProof.pageRegs p = d.pageRegs p := by
  simp only [missProof]
  split
  · rfl
  · rw [pageRegs_withProof, pageRegs_event _ ⟨h, by decide⟩, pageRegs_bump _ _ ⟨h, by decide⟩]

/-! ## One clock (R8) -/

@[simp] theorem proofTick_frame (d : Dev) :
    d.proofTick.now = d.now ∧ d.proofTick.tb = d.tb ∧ d.proofTick.comp = d.comp := by
  simp only [proofTick]
  split
  · simp
  · split <;> simp

theorem pageRegs_proofTick (d : Dev) {p : Nat} (h : p ≠ pg .proof) : d.proofTick.pageRegs p = d.pageRegs p := by
  simp only [proofTick]
  split
  · rfl
  · split
    · rw [pageRegs_missProof _ h, pageRegs_withProof]
    · rw [pageRegs_takeProof _ _ h, pageRegs_withProof]

@[simp] theorem galleyTick_frame (d : Dev) :
    d.galleyTick.now = d.now ∧ d.galleyTick.tb = d.tb ∧ d.galleyTick.comp = d.comp := by
  unfold galleyTick
  split <;> simp

theorem regs_galleyTick (d : Dev) : d.galleyTick.regs = d.regs := by
  unfold galleyTick
  split <;> rfl

@[simp] theorem driveDisch_frame (d : Dev) (on : Bool) :
    (d.driveDisch on).now = d.now ∧ (d.driveDisch on).tb = d.tb ∧ (d.driveDisch on).comp = d.comp := by
  simp only [driveDisch]
  split <;> simp

/-- BALL stands on the page DISCH. -/
theorem pageRegs_driveDisch (d : Dev) (on : Bool) {p : Nat} (h : p ≠ pg .disch) : (d.driveDisch on).pageRegs p = d.pageRegs p := by
  have hball : (d.driveDisch on).pageRegs p =
      (if d.active (srcNo .disch 0 B.DISCH.DISCH_OUTPUT) then d else d.setFlag (pg .disch) F.DISCH.STATUS_BALL on).pageRegs p := rfl
  rw [hball, pageRegs_ite, pageRegs_setFlag _ _ ⟨h, by decide⟩, ite_self]

@[simp] theorem dischTick_frame (d : Dev) :
    d.dischTick.now = d.now ∧ d.dischTick.tb = d.tb ∧ d.dischTick.comp = d.comp := by
  unfold dischTick
  split <;> simp

theorem pageRegs_dischTick (d : Dev) {p : Nat} (h : p ≠ pg .disch) : d.dischTick.pageRegs p = d.pageRegs p := by
  unfold dischTick
  split
  · exact pageRegs_driveDisch d false h
  · rfl

@[simp] theorem adcTick_frame (d : Dev) :
    d.adcTick.now = d.now ∧ d.adcTick.tb = d.tb ∧ d.adcTick.comp = d.comp :=
  ⟨each_keeps _ _ _ _ fun _ _ _ => rfl, each_keeps _ _ _ _ fun _ _ _ => rfl, each_keeps _ _ _ _ fun _ _ _ => rfl⟩

theorem regs_adcTick (d : Dev) : d.adcTick.regs = d.regs := each_keeps Dev.regs _ _ _ fun _ _ _ => rfl

/-- PHI of a running timebase advances by INC of the rate in use (R48). -/
theorem phi_phiTick {d : Dev} (h : d.tbActive ≠ 0) :
    d.phiTick.tb.phi = d.tb.phi + tbInc (d.reg (pg .timebase) R.TIMEBASE.FREQ).toNat := by
  simp [phiTick, h]

theorem phiTick_stopped {d : Dev} (h : d.tbActive = 0) : d.phiTick = d := if_pos h

@[simp] theorem phiTick_frame (d : Dev) : d.phiTick.now = d.now ∧ d.phiTick.comp = d.comp := by
  unfold phiTick
  split <;> simp

theorem regs_phiTick (d : Dev) : d.phiTick.regs = d.regs := by
  unfold phiTick
  split <;> simp

/-- What the blocks of the main domains do in a clock. -/
def blocksTick (d : Dev) : Dev := d.phiTick.proofTick.galleyTick.dischTick.adcTick

@[simp] theorem blocksTick_frame (d : Dev) :
    d.blocksTick.now = d.now ∧ d.blocksTick.comp = d.comp ∧ d.blocksTick.mem = d.mem ∧ d.blocksTick.keys = d.keys := by
  simp [blocksTick]

/-- Of the blocks' clocks only that of the accumulator reaches the timebase. -/
theorem tb_blocksTick (d : Dev) : d.blocksTick.tb = d.phiTick.tb := by
  simp [blocksTick]

/-- In a clock the blocks change no register of SYS. -/
@[simp] theorem sysPage_blocksTick (d : Dev) : d.blocksTick.pageRegs (pg .sys) = d.pageRegs (pg .sys) := by
  unfold blocksTick
  rw [pageRegs_of_regs (regs_adcTick _), pageRegs_dischTick _ (by decide), pageRegs_of_regs (regs_galleyTick _),
    pageRegs_proofTick _ (by decide), pageRegs_of_regs (regs_phiTick d)]

/-- The device as a clock has left its blocks, before the clock counts in RUN_SECONDS. -/
def ticked (d : Dev) : Dev := { d with now := d.now + 1 }.whenLive blocksTick

theorem ticked_unsupplied {d : Dev} (h : d.busLive = false) : d.ticked = { d with now := d.now + 1 } := whenLive_neg h

theorem ticked_supplied {d : Dev} (h : d.busLive = true) : d.ticked = { d with now := d.now + 1 }.blocksTick := whenLive_pos h

/-- What a clock changes of the blocks lies outside memory, keys and cores. -/
theorem ticked_frame (d : Dev) :
    d.ticked.now = d.now + 1 ∧ d.ticked.comp = d.comp ∧ d.ticked.mem = d.mem ∧ d.ticked.keys = d.keys := by
  cases h : d.busLive with
  | false =>
    rw [ticked_unsupplied h]
    exact ⟨rfl, rfl, rfl, rfl⟩
  | true =>
    rw [ticked_supplied h]
    simp

theorem sysPage_ticked (d : Dev) : d.ticked.pageRegs (pg .sys) = d.pageRegs (pg .sys) := by
  cases h : d.busLive with
  | false => rw [ticked_unsupplied h]; rfl
  | true => rw [ticked_supplied h, sysPage_blocksTick]; rfl

/-- Without supply, or with the timebase stopped, a clock leaves the timebase as it is. -/
theorem tb_ticked_stopped {d : Dev} (h : d.busLive = false ∨ d.tbActive = 0) : d.ticked.tb = d.tb := by
  cases hl : d.busLive with
  | false => rw [ticked_unsupplied hl]
  | true =>
    have hstop : ({ d with now := d.now + 1 } : Dev).tbActive = 0 := h.resolve_left (by simp [hl])
    rw [ticked_supplied hl, tb_blocksTick, phiTick_stopped hstop]

theorem phi_ticked {d : Dev} (hl : d.busLive = true) (h : d.tbActive ≠ 0) :
    d.ticked.tb.phi = d.tb.phi + tbInc (d.reg (pg .timebase) R.TIMEBASE.FREQ).toNat := by
  rw [ticked_supplied hl, tb_blocksTick]
  exact phi_phiTick (d := { d with now := d.now + 1 }) h

/-- A clock outside RUN is a clock of the blocks. -/
theorem clockTick_outsideRun {d : Dev} (h : d.state ≠ 4) : d.clockTick = d.ticked :=
  if_neg fun hrun => h ((state_of_pageRegs d.sysPage_ticked).symm.trans hrun)

/-- In RUN a clock is counted, and the 400,000,000th counts a second (R588). -/
theorem clockTick_run {d : Dev} (h : d.state = 4) : d.clockTick =
    if d.comp.runClk + 1 = 400000000 then { d.ticked.bump (pg .sys) R.SYS.RUN_SECONDS with comp := { d.comp with runClk := 0 } }
    else { d.ticked with comp := { d.comp with runClk := d.comp.runClk + 1 } } := by
  obtain ⟨-, hcomp, -, -⟩ := d.ticked_frame
  rw [← hcomp]
  exact if_pos ((state_of_pageRegs d.sysPage_ticked).trans h)

end Dev
end Sys2Proof.Machine
end

section
/-!
PROOFS. A step (R8, R48, R588; log entry 6): the front command with the queue's rest, or one clock on an empty queue.
-/
namespace Sys2Proof.Machine
namespace Dev

/-- The count of RUN_SECONDS touches nothing else that a clock's statement speaks of. -/
theorem clockTick_frame (d : Dev) :
    d.clockTick.now = d.now + 1 ∧ d.clockTick.mem = d.mem ∧ d.clockTick.keys = d.keys ∧ d.clockTick.tb = d.ticked.tb ∧
    d.clockTick.state = d.state := by
  obtain ⟨hnow, -, hmem, hkeys⟩ := d.ticked_frame
  have hstate := state_of_pageRegs d.sysPage_ticked
  by_cases hrun : d.state = 4
  · rw [clockTick_run hrun]
    split
    · have hbump := state_bump d.ticked (pg .sys) R.SYS.RUN_SECONDS 1 (by decide)
      obtain ⟨hbkeys, hbmem, hbnow, -⟩ := bump_frame d.ticked (pg .sys) R.SYS.RUN_SECONDS 1
      exact ⟨hbnow.trans hnow, hbmem.trans hmem, hbkeys.trans hkeys, by simp, hbump.trans hstate⟩
    · exact ⟨hnow, hmem, hkeys, rfl, hstate⟩
  · rw [clockTick_outsideRun hrun]
    exact ⟨hnow, hmem, hkeys, rfl, hstate⟩

/-- In RUN a clock that does not complete a second counts in the present one. -/
theorem clockTick_withinSecond {d : Dev} (hrun : d.state = 4) (h : d.comp.runClk + 1 ≠ 400000000) :
    d.clockTick.comp.runClk = d.comp.runClk + 1 ∧
    d.clockTick.reg (pg .sys) R.SYS.RUN_SECONDS = d.reg (pg .sys) R.SYS.RUN_SECONDS := by
  rw [clockTick_run hrun, if_neg h]
  exact ⟨rfl, reg_of_pageRegs d.sysPage_ticked (by decide)⟩

/-- In RUN a clock that completes a second counts it in RUN_SECONDS (R588). -/
theorem clockTick_second {d : Dev} (hrun : d.state = 4) (h : d.comp.runClk + 1 = 400000000) :
    d.clockTick.comp.runClk = 0 ∧
    d.clockTick.reg (pg .sys) R.SYS.RUN_SECONDS = d.reg (pg .sys) R.SYS.RUN_SECONDS + 1 := by
  rw [clockTick_run hrun, if_pos h]
  refine ⟨rfl, (reg_bump_self d.ticked (pg .sys) R.SYS.RUN_SECONDS 1).trans ?_⟩
  rw [reg_of_pageRegs d.sysPage_ticked (by decide)]
  rfl

end Dev

/-- Settles O58: a command changes the device alone, and the clock of an empty queue is what its blocks make of it. -/
theorem stepRunsFront : Obligations.StepRunsFront := by
  unfold Obligations.StepRunsFront
  refine ⟨fun c l d => step_cons c l d, ?command, ?unsupplied, ?clock⟩
  case command =>
    intro c s
    obtain ⟨f, -, hexec⟩ := exec_keeps c
    exact ⟨s.onDev f, hexec s, rfl⟩
  case unsupplied =>
    intro d hdead
    have hrun : d.state ≠ 4 := fun h => by simp [Dev.busLive, h] at hdead
    rw [step_nil, Dev.clockTick_outsideRun hrun, Dev.ticked_unsupplied hdead]
  case clock =>
    intro d
    obtain ⟨hnow, hmem, hkeys, htb, hstate⟩ := d.clockTick_frame
    refine ⟨d.clockTick, step_nil d, hnow, hmem, hkeys, hstate, ?phi, ?still, ?outside, ?within, ?second⟩
    case phi =>
      intro hlive hactive
      rw [htb]
      exact Dev.phi_ticked hlive hactive
    case still => exact fun hstill => htb.trans (Dev.tb_ticked_stopped hstill)
    case outside =>
      intro hrun
      obtain ⟨-, hcomp, -, -⟩ := d.ticked_frame
      rw [Dev.clockTick_outsideRun hrun, hcomp]
    case within => exact fun hrun h => Dev.clockTick_withinSecond hrun h
    case second => exact fun hrun h => Dev.clockTick_second hrun h

end Sys2Proof.Machine
end

section
/-!
PROOFS. Rules of the timebase's operations (R48–R64): what each of them leaves in SRC_STATUS, in the rate, and beside the registers.
-/
namespace Sys2Proof.Machine
namespace Dev

/-- Field `g` of page `p'` has no bit in common with field `f` of page `p`. -/
abbrev Apart (p' : Nat) (g : Fld) (p : Nat) (f : Fld) : Prop :=
  regKey p' g.ofs ≠ regKey p f.ofs ∨ (g.lo + g.w ≤ 32 ∧ (g.lo + g.w ≤ f.lo ∨ f.lo + f.w ≤ g.lo))

@[simp] theorem measLost_frame (d : Dev) : d.measLost.regs = d.regs ∧ d.measLost.tb = d.tb := ⟨rfl, rfl⟩
@[simp] theorem reg_measLost (d : Dev) (p o b : Nat) : d.measLost.reg p o b = d.reg p o b := rfl
@[simp] theorem fld_measLost (d : Dev) (p : Nat) (f : Fld) : d.measLost.fld p f = d.fld p f := rfl
@[simp] theorem flag_measLost (d : Dev) (p : Nat) (f : Fld) : d.measLost.flag p f = d.flag p f := rfl

@[simp] theorem reg_ite (c : Prop) [Decidable c] (a b : Dev) (p o k : Nat) :
    (if c then a else b).reg p o k = if c then a.reg p o k else b.reg p o k := apply_ite (reg · p o k) _ _ _
@[simp] theorem fld_ite (c : Prop) [Decidable c] (a b : Dev) (p : Nat) (f : Fld) :
    (if c then a else b).fld p f = if c then a.fld p f else b.fld p f := apply_ite (fld · p f) _ _ _
@[simp] theorem flag_ite (c : Prop) [Decidable c] (a b : Dev) (p : Nat) (f : Fld) :
    (if c then a else b).flag p f = if c then a.flag p f else b.flag p f := apply_ite (flag · p f) _ _ _
@[simp] theorem tb_ite (c : Prop) [Decidable c] (a b : Dev) : (if c then a else b).tb = if c then a.tb else b.tb :=
  apply_ite tb _ _ _

/-! ## SRC_STATUS (R53, R61, R63, R65) -/

@[simp] theorem tb_tbRefresh (d : Dev) : d.tbRefresh.tb = d.tb := by simp [tbRefresh]

theorem fld_tbRefresh_other (d : Dev) (p : Nat) (g : Fld) (h : Apart p g (pg .timebase) F.TIMEBASE.SRC_STATUS_ANGLE_VALID) :
    d.tbRefresh.fld p g = d.fld p g := fld_setFlag_other d _ _ _ p g h

theorem reg_tbRefresh_other (d : Dev) (p o b : Nat) (h : regKey p o b ≠ regKey (pg .timebase) R.TIMEBASE.SRC_STATUS) :
    d.tbRefresh.reg p o b = d.reg p o b := reg_setFlag_other d _ _ _ p o b h

@[simp] theorem tb_setTbActive (d : Dev) (a : Nat) : (d.setTbActive a).tb = d.tb := by simp [setTbActive]

/-- A source made active shows in ACTIVE, in SUPERVISED and in ANGLE_VALID. -/
theorem fld_setTbActive_other (d : Dev) (a p : Nat) (g : Fld) (hact : Apart p g (pg .timebase) F.TIMEBASE.SRC_STATUS_ACTIVE)
    (hsup : Apart p g (pg .timebase) F.TIMEBASE.SRC_STATUS_SUPERVISED)
    (hvalid : Apart p g (pg .timebase) F.TIMEBASE.SRC_STATUS_ANGLE_VALID) : (d.setTbActive a).fld p g = d.fld p g := by
  simp only [setTbActive]
  rw [fld_tbRefresh_other _ _ _ hvalid]
  simp [fld_setFlag_other _ _ _ _ _ _ hsup, fld_setFld_other _ _ _ _ _ _ hact]

theorem flag_setTbActive_other (d : Dev) (a p : Nat) (g : Fld) (hact : Apart p g (pg .timebase) F.TIMEBASE.SRC_STATUS_ACTIVE)
    (hsup : Apart p g (pg .timebase) F.TIMEBASE.SRC_STATUS_SUPERVISED)
    (hvalid : Apart p g (pg .timebase) F.TIMEBASE.SRC_STATUS_ANGLE_VALID) : (d.setTbActive a).flag p g = d.flag p g := by
  unfold flag
  rw [fld_setTbActive_other d a p g hact hsup hvalid]

theorem reg_setTbActive_other (d : Dev) (a p o b : Nat) (h : regKey p o b ≠ regKey (pg .timebase) R.TIMEBASE.SRC_STATUS) :
    (d.setTbActive a).reg p o b = d.reg p o b := by
  simp only [setTbActive]
  rw [reg_tbRefresh_other _ _ _ _ h]
  have hact := reg_setFld_other d (pg .timebase) F.TIMEBASE.SRC_STATUS_ACTIVE a p o b h
  have hsup := fun e : Dev => reg_setFlag_other e (pg .timebase) F.TIMEBASE.SRC_STATUS_SUPERVISED false p o b h
  simp [hsup, hact]

theorem tbActive_setTbActive (d : Dev) {a : Nat} (h : a < 8) : (d.setTbActive a).tbActive = a := by
  simp only [tbActive, setTbActive]
  rw [fld_tbRefresh_other _ _ _ (by decide)]
  simp (disch := decide) [fld_setFlag_other, fld_setFld_self]
  exact Nat.mod_eq_of_lt h

theorem reg_setSlew_other (d : Dev) (s : Slew) (p o b : Nat) (h : regKey p o b ≠ regKey (pg .timebase) R.TIMEBASE.SRC_STATUS) :
    (d.setSlew s).reg p o b = d.reg p o b := by
  simp only [setSlew]
  rw [reg_tbRefresh_other _ _ _ _ h, reg_modTb, reg_setFlag_other _ _ _ _ _ _ _ h]

/-! ## The bins that a change of the rate suspends (R212) -/

/-- Whether the present rate is too fast for channel `h` (R212). -/
def binTooFast (d : Dev) (h : Nat) : Bool :=
  decide (1000000 * 65536 < (d.reg (pg .timebase) R.TIMEBASE.FREQ).toNat * 2 ^ d.binK h)

/-- Channel `h` suspended, its open bins discarded (R212). -/
def binSuspended (d : Dev) (h : Nat) : Dev :=
  (((d.setFlag (pg .bin) (suspendBit h) true).event (pg .bin) F.BIN.EVENT_SUSPEND).bump (pg .bin) R.BIN.SUSPENSIONS).modBin h
    (fun s => { s with next := none, accs := [], done := none })

theorem binSuspend_eq (d : Dev) (h : Nat) : d.binSuspend h =
    if d.binTooFast h && !d.flag (pg .bin) (suspendBit h) then d.binSuspended h
    else if !d.binTooFast h && d.flag (pg .bin) (suspendBit h) then d.setFlag (pg .bin) (suspendBit h) false
    else d := rfl

/-- A suspended channel is recorded on the page BIN. -/
theorem pageRegs_binSuspend (d : Dev) {h p : Nat} (hh : h < 64) (hp : p ≠ pg .bin) : (d.binSuspend h).pageRegs p = d.pageRegs p := by
  have hofs : (suspendBit h).ofs < 0x1000 := by
    show R.BIN.SUSPENDED_LO + 4 * (h / 32) < 0x1000
    unfold R.BIN.SUSPENDED_LO
    omega
  rw [binSuspend_eq]
  split
  · rw [binSuspended, pageRegs_of_regs (modBin_frame _ _ _).1, pageRegs_bump _ _ ⟨hp, by decide⟩, pageRegs_event _ ⟨hp, by decide⟩,
      pageRegs_setFlag _ _ ⟨hp, hofs⟩]
  · split
    · exact pageRegs_setFlag d false ⟨hp, hofs⟩
    · rfl

theorem lt_of_mem_binsOn {d : Dev} {h : Nat} (hh : h ∈ d.binsOn) : h < 64 := (mem_numbers hh).1

theorem pageRegs_binRate (d : Dev) {p : Nat} (hp : p ≠ pg .bin) : d.binRate.pageRegs p = d.pageRegs p :=
  each_keeps (pageRegs · p) d _ _ fun e _ hh => pageRegs_binSuspend e (lt_of_mem_binsOn hh) hp

@[simp] theorem tb_binSuspend (d : Dev) (h : Nat) : (d.binSuspend h).tb = d.tb := by
  rw [binSuspend_eq]
  split
  · simp [binSuspended]
  · split <;> simp

@[simp] theorem tb_binRate (d : Dev) : d.binRate.tb = d.tb := each_keeps tb d _ _ fun e h _ => tb_binSuspend e h

/-- Bins that a stop discards are counted on the page BIN. -/
theorem pageRegs_binStopped (d : Dev) {p : Nat} (hp : p ≠ pg .bin) : d.binStopped.pageRegs p = d.pageRegs p := by
  simp only [binStopped]
  rw [each_keeps (pageRegs · p) _ _ _ fun e h _ => pageRegs_of_regs (modBin_frame e h _).1 p]
  split
  · rfl
  · exact pageRegs_bump d 1 ⟨hp, by decide⟩

/-! ## The rate in use (R48, R53) -/

@[simp] theorem tb_setTbFreq (d : Dev) (f : Nat) : (d.setTbFreq f).tb = d.tb := by simp [setTbFreq]

/-- The page TIMEBASE shows a new rate in FREQ. -/
theorem timebasePage_setTbFreq (d : Dev) (f : Nat) : (d.setTbFreq f).pageRegs (pg .timebase) =
    (d.setReg (pg .timebase) R.TIMEBASE.FREQ (BitVec.ofNat 32 f)).pageRegs (pg .timebase) := pageRegs_binRate _ (by decide)

theorem reg_setTbFreq_self (d : Dev) (f : Nat) : (d.setTbFreq f).reg (pg .timebase) R.TIMEBASE.FREQ = BitVec.ofNat 32 f := by
  rw [reg_of_pageRegs (d.timebasePage_setTbFreq f) (by decide), reg_setReg_self]

theorem reg_setTbFreq_other (d : Dev) (f : Nat) {o : Nat} (h : o < 0x1000 ∧ o ≠ R.TIMEBASE.FREQ) :
    (d.setTbFreq f).reg (pg .timebase) o = d.reg (pg .timebase) o := by
  rw [reg_of_pageRegs (d.timebasePage_setTbFreq f) h.1]
  exact reg_setReg_other d fun hkey => h.2 ((regKey_ofs _ _ _ _).mp hkey)

theorem fld_setTbFreq_other (d : Dev) (f : Nat) {g : Fld} (h : g.ofs < 0x1000 ∧ g.ofs ≠ R.TIMEBASE.FREQ) :
    (d.setTbFreq f).fld (pg .timebase) g = d.fld (pg .timebase) g := by
  unfold fld
  rw [reg_setTbFreq_other d f h]

theorem setReg_modTb (d : Dev) (f : TbS → TbS) (p o : Nat) (v : Word) (b : Nat) :
    (d.modTb f).setReg p o v b = (d.setReg p o v b).modTb f := rfl
theorem setFld_modTb (d : Dev) (f : TbS → TbS) (p : Nat) (x : Fld) (v : Nat) :
    (d.modTb f).setFld p x v = (d.setFld p x v).modTb f := setReg_modTb d f p x.ofs _ 0
theorem setFlag_modTb (d : Dev) (f : TbS → TbS) (p : Nat) (x : Fld) (v : Bool) :
    (d.modTb f).setFlag p x v = (d.setFlag p x v).modTb f := setFld_modTb d f p x _
theorem event_modTb (d : Dev) (f : TbS → TbS) (p : Nat) (x : Fld) : (d.modTb f).event p x = (d.event p x).modTb f :=
  setFld_modTb d f p x 1
theorem bump_modTb (d : Dev) (f : TbS → TbS) (p o n : Nat) : (d.modTb f).bump p o n = (d.bump p o n).modTb f :=
  setReg_modTb d f p o _ 0
theorem modBin_modTb (d : Dev) (f : TbS → TbS) (h : Nat) (g : BinS → BinS) :
    (d.modTb f).modBin h g = (d.modBin h g).modTb f := rfl

theorem binSuspended_modTb (d : Dev) (f : TbS → TbS) (h : Nat) : (d.modTb f).binSuspended h = (d.binSuspended h).modTb f := by
  simp only [binSuspended, setFlag_modTb, event_modTb, bump_modTb, modBin_modTb]

/-- What the timebase holds beside its registers has no part in the suspension of a bin. -/
theorem binSuspend_modTb (d : Dev) (f : TbS → TbS) (h : Nat) : (d.modTb f).binSuspend h = (d.binSuspend h).modTb f := by
  have hfast : (d.modTb f).binTooFast h = d.binTooFast h := rfl
  rw [binSuspend_eq, binSuspend_eq, hfast, flag_modTb]
  split
  · exact binSuspended_modTb d f h
  · split
    · exact setFlag_modTb d f _ _ _
    · rfl

theorem binRate_modTb (d : Dev) (f : TbS → TbS) : (d.modTb f).binRate = d.binRate.modTb f :=
  List.foldl_hom (modTb · f) fun e h => binSuspend_modTb e f h

theorem setTbFreq_modTb (d : Dev) (f : TbS → TbS) (r : Nat) : (d.modTb f).setTbFreq r = (d.setTbFreq r).modTb f :=
  binRate_modTb (d.setReg (pg .timebase) R.TIMEBASE.FREQ (BitVec.ofNat 32 r)) f

end Dev
end Sys2Proof.Machine
end

section
/-!
PROOFS. The verdicts of the grid PLL (R55–R58, R61): what an update leaves, when lock is declared, and what its loss leaves before the
source of the loss is raised.
-/
namespace Sys2Proof.Machine
namespace Dev

/-! ## An update (R55) -/

/-- The grid angle as an update shows it: in line-to-line mode 5,461 ac are taken off the measured one. -/
def shownAngle (d : Dev) (ga : Nat) : Nat :=
  if d.fld (pg .timebase) F.TIMEBASE.LINE_SEL_MODE = 1 then (ga + 65536 - 5461) % 65536 else ga % 65536

/-- The amplitude that an update sees: none on inputs without results. -/
def seenAmp (d : Dev) (amp : Nat) : Nat := if d.linesUsed.all (fun i => !d.inputLive i) then 0 else amp

/-- The registers after an update: GRID_ANGLE, and GRID_OK where amplitude and frequency are good. -/
def gridShown (d : Dev) (ga freq amp : Nat) : Dev :=
  let e := d.setReg (pg .timebase) R.TIMEBASE.GRID_ANGLE (BitVec.ofNat 32 (d.shownAngle ga))
  if decide (d.fld (pg .timebase) F.TIMEBASE.LOSS_CFG_LEVEL ≤ d.seenAmp amp) &&
      (decide (40 * 65536 ≤ freq) && decide (freq ≤ 70 * 65536)) then
    e.setFlag (pg .timebase) F.TIMEBASE.SRC_STATUS_GRID_OK true
  else e

theorem tbActive_gridShown (d : Dev) (ga freq amp : Nat) : (d.gridShown ga freq amp).tbActive = d.tbActive := by
  simp (disch := decide) [gridShown, tbActive, fld_setFlag_other, fld_setReg_other]

theorem reg_gridShown_angle (d : Dev) (ga freq amp : Nat) :
    (d.gridShown ga freq amp).reg (pg .timebase) R.TIMEBASE.GRID_ANGLE = BitVec.ofNat 32 (d.shownAngle ga) := by
  simp (disch := decide) [gridShown, reg_setFlag_other]

theorem reg_gridShown_freq (d : Dev) (ga freq amp : Nat) :
    (d.gridShown ga freq amp).reg (pg .timebase) R.TIMEBASE.FREQ = d.reg (pg .timebase) R.TIMEBASE.FREQ := by
  simp (disch := decide) [gridShown, reg_setFlag_other, reg_setReg_other]

/-- Outside TRACKED an update changes the registers that show the grid, and what the PLL keeps beside them. -/
theorem pllUpdate_untracked {d : Dev} (ga freq amp : Nat) (err : Int) (h : d.tbActive ≠ 1) :
    ∃ f : TbS → TbS, d.pllUpdate ga freq amp err = (d.gridShown ga freq amp).modTb f ∧
      ∀ t, (f t).amp = d.seenAmp amp ∧ (f t).gridFreq = freq ∧ (f t).phaseErr = err :=
  ⟨_, if_neg fun hc => h ((tbActive_gridShown d ga freq amp).symm.trans hc.1), fun _ => ⟨rfl, rfl, rfl⟩⟩

theorem seenAmp_unseen {d : Dev} (amp : Nat) (h : ∀ i ∈ d.linesUsed, d.inputLive i = false) : d.seenAmp amp = 0 :=
  if_pos (List.all_eq_true.mpr fun i hi => by simp [h i hi])

theorem shownAngle_measured (d : Dev) (angle : BitVec 16) : d.shownAngle angle.toNat =
    if d.fld (pg .timebase) F.TIMEBASE.LINE_SEL_MODE = 1 then (angle.toNat + 60075) % 65536 else angle.toNat := by
  unfold shownAngle
  rw [Nat.mod_eq_of_lt angle.isLt, Nat.add_sub_assoc (by decide)]

/-! ## Lock (R56) -/

/-- The registers and the counts as the PLL declares lock. -/
def lockDeclared (d : Dev) : Dev :=
  ((d.setFlag (pg .timebase) F.TIMEBASE.SRC_STATUS_PLL_LOCK true).event (pg .timebase) F.TIMEBASE.EVENT_LOCK).modTb
    (fun t => { t with masterRun := 0, jumpRun := 0 })

/-- What a declared lock sets going: the request of AUTO_TRACK, and the catch-up of a pending request (R59, R63). -/
def lockFollowed (d : Dev) : Dev :=
  let auto := d.tbActive = 5 ∧ d.tbRole ≠ 2 ∧ d.flag (pg .timebase) F.TIMEBASE.SRC_SEL_AUTO_TRACK ∧
    d.fld (pg .timebase) F.TIMEBASE.SRC_SEL_SRC = 1 ∧ d.tbPending = 0
  let d := if auto then d.setTbPending 1 else d
  if d.tbPending = 1 ∧ !d.tbSlewing then d.startSlew (65536 - d.angle) else d

/-- After LOCK_CONFIRM cycles within the window an unlocked PLL declares lock; in MASTER the grid then supervises (R61). -/
theorem pllLockDeclared_eq {d : Dev} (hfree : d.pllLock = false)
    (hrun : d.fld (pg .timebase) F.TIMEBASE.PLL_CFG_LOCK_CONFIRM ≤ d.tb.lockRun) : d.pllLockDeclared =
      (if d.lockDeclared.tbActive = 2 then d.lockDeclared.setFlag (pg .timebase) F.TIMEBASE.SRC_STATUS_SUPERVISED true
        else d.lockDeclared).lockFollowed :=
  if_neg (by simp [hfree, hrun])

theorem lockFollowed_none {d : Dev} (hactive : d.tbActive ≠ 5) (hpending : d.tbPending ≠ 1) : d.lockFollowed = d := by
  simp [lockFollowed, hactive, hpending]

theorem fld_lockDeclared_other (d : Dev) (p : Nat) (g : Fld) (hlock : Apart p g (pg .timebase) F.TIMEBASE.SRC_STATUS_PLL_LOCK)
    (hevent : Apart p g (pg .timebase) F.TIMEBASE.EVENT_LOCK) : d.lockDeclared.fld p g = d.fld p g := by
  rw [lockDeclared, fld_modTb, fld_event_other _ _ _ _ _ hevent, fld_setFlag_other _ _ _ _ _ _ hlock]

/-- Lock in MASTER with no request pending: the grid supervises the master, and nothing else follows. -/
theorem pllLockDeclared_master {d : Dev} (hfree : d.pllLock = false)
    (hrun : d.fld (pg .timebase) F.TIMEBASE.PLL_CFG_LOCK_CONFIRM ≤ d.tb.lockRun) (hmaster : d.tbActive = 2) (hnone : d.tbPending = 0) :
    d.pllLockDeclared = d.lockDeclared.setFlag (pg .timebase) F.TIMEBASE.SRC_STATUS_SUPERVISED true := by
  have hactive : d.lockDeclared.tbActive = 2 := (fld_lockDeclared_other d _ _ (by decide) (by decide)).trans hmaster
  have hpending : d.lockDeclared.tbPending = 0 := (fld_lockDeclared_other d _ _ (by decide) (by decide)).trans hnone
  rw [pllLockDeclared_eq hfree hrun, if_pos hactive]
  refine lockFollowed_none ?_ ?_
  · rw [tbActive, fld_setFlag_other _ _ _ _ _ _ (by decide)]
    exact fun h => absurd (hactive.symm.trans h) (by decide)
  · rw [tbPending, fld_setFlag_other _ _ _ _ _ _ (by decide)]
    exact fun h => absurd (hpending.symm.trans h) (by decide)

/-! ## Loss of lock (R57, R58, R61) -/

/-- PLL_LOCK falls with no other field of the registers. -/
theorem fld_pllFall_other (d : Dev) (p : Nat) (g : Fld) (h : Apart p g (pg .timebase) F.TIMEBASE.SRC_STATUS_PLL_LOCK) :
    d.pllFall.fld p g = d.fld p g := fld_setFlag_other d _ _ _ p g h

theorem reg_pllFall_other (d : Dev) (p o b : Nat) (h : regKey p o b ≠ regKey (pg .timebase) R.TIMEBASE.SRC_STATUS) :
    d.pllFall.reg p o b = d.reg p o b := reg_setFlag_other d _ _ _ p o b h

theorem pllLock_pllFall (d : Dev) : d.pllFall.pllLock = false := flag_setFlag_self d _ _ _ (by decide) (by decide)

/-- The errors that the last update saw outlast the lock. -/
theorem errors_pllFall (d : Dev) : d.pllFall.tb.phaseErr = d.tb.phaseErr ∧ d.pllFall.tb.masterErr = d.tb.masterErr := by
  simp [pllFall]

/-- TRACKED without its lock: HOLDOVER (R57, R58). -/
def heldOver (d : Dev) : Dev := d.pllFall.setTbActive 5

theorem dropLock_tracked {d : Dev} (h : d.tbActive = 1) : d.dropLock = (d.heldOver, true) := by
  simp [dropLock, heldOver, h]

theorem pllLock_heldOver (d : Dev) : d.heldOver.pllLock = false :=
  (flag_setTbActive_other _ _ _ _ (by decide) (by decide) (by decide)).trans d.pllLock_pllFall

theorem tbActive_heldOver (d : Dev) : d.heldOver.tbActive = 5 := tbActive_setTbActive _ (by decide)

theorem reg_heldOver_other (d : Dev) (p o b : Nat) (h : regKey p o b ≠ regKey (pg .timebase) R.TIMEBASE.SRC_STATUS) :
    d.heldOver.reg p o b = d.reg p o b := by
  rw [heldOver, reg_setTbActive_other _ _ _ _ _ h, reg_pllFall_other _ _ _ _ h]

/-- A loss of the grid recorded, before its source is raised (R57). -/
def gridLossMarked (d : Dev) : Dev :=
  ((d.heldOver.setFlag (pg .timebase) F.TIMEBASE.SRC_STATUS_GRID_OK false).event (pg .timebase) F.TIMEBASE.EVENT_LOSS).bump
    (pg .timebase) R.TIMEBASE.LOSSES

theorem lossOfGrid_tracked {d : Dev} (hlock : d.pllLock = true) (hactive : d.tbActive = 1) (hlost : d.gridLost = true) :
    d.lossOfGrid = d.gridLossMarked.raise .timebase 0 B.TIMEBASE.TB_LOSS := by
  simp [lossOfGrid, hlock, hlost, dropLock_tracked hactive, gridLossMarked]

/-- HOLDOVER with GRID_OK fallen, and the loss an event that LOSSES counts. -/
theorem gridLossMarked_leaves (d : Dev) :
    d.gridLossMarked.pllLock = false ∧ d.gridLossMarked.tbActive = 5 ∧
    d.gridLossMarked.flag (pg .timebase) F.TIMEBASE.SRC_STATUS_GRID_OK = false ∧
    d.gridLossMarked.flag (pg .timebase) F.TIMEBASE.EVENT_LOSS = true ∧
    d.gridLossMarked.reg (pg .timebase) R.TIMEBASE.LOSSES = d.reg (pg .timebase) R.TIMEBASE.LOSSES + 1 := by
  refine ⟨?lock, ?active, ?grid, ?event, ?count⟩
  case lock =>
    simp (disch := decide) only [pllLock, gridLossMarked, flag_bump_other, flag_event_other, flag_setFlag_other]
    exact d.pllLock_heldOver
  case active =>
    simp (disch := decide) only [tbActive, gridLossMarked, fld_bump_other, fld_event_other, fld_setFlag_other]
    exact d.tbActive_heldOver
  case grid =>
    simp (disch := decide) only [gridLossMarked, flag_bump_other, flag_event_other, flag_setFlag_self]
  case event =>
    simp (disch := decide) only [gridLossMarked, flag_bump_other, flag_event_self]
  case count =>
    simp (disch := decide) only [gridLossMarked, reg_bump_self, reg_event_other, reg_setFlag_other, reg_heldOver_other]
    rfl

/-- A phase jump recorded, before its source is raised (R58). -/
def jumpMarked (d : Dev) : Dev :=
  ((d.heldOver.event (pg .timebase) F.TIMEBASE.EVENT_JUMP).bump (pg .timebase) R.TIMEBASE.JUMPS).modTb
    (fun t => { t with jumpRun := 0 })

theorem phaseJump_tracked {d : Dev} (hlock : d.pllLock = true) (hactive : d.tbActive = 1)
    (hrun : d.fld (pg .timebase) F.TIMEBASE.JUMP_CFG_CONFIRM < d.tb.jumpRun) :
    d.phaseJump = d.jumpMarked.raise .timebase 0 B.TIMEBASE.TB_JUMP (ofSigned 16 d.tb.phaseErr) := by
  have herr : d.jumpMarked.tb.phaseErr = d.tb.phaseErr := by simp [jumpMarked, heldOver, errors_pllFall]
  rw [← herr]
  simp [phaseJump, hlock, Nat.not_le.mpr hrun, dropLock_tracked hactive, jumpMarked]

theorem jumpMarked_leaves (d : Dev) :
    d.jumpMarked.pllLock = false ∧ d.jumpMarked.tbActive = 5 ∧
    d.jumpMarked.flag (pg .timebase) F.TIMEBASE.EVENT_JUMP = true ∧
    d.jumpMarked.reg (pg .timebase) R.TIMEBASE.JUMPS = d.reg (pg .timebase) R.TIMEBASE.JUMPS + 1 ∧ d.jumpMarked.tb.jumpRun = 0 := by
  refine ⟨?lock, ?active, ?event, ?count, rfl⟩
  case lock =>
    simp (disch := decide) only [pllLock, jumpMarked, flag_modTb, flag_bump_other, flag_event_other]
    exact d.pllLock_heldOver
  case active =>
    simp (disch := decide) only [tbActive, jumpMarked, fld_modTb, fld_bump_other, fld_event_other]
    exact d.tbActive_heldOver
  case event =>
    simp (disch := decide) only [jumpMarked, flag_modTb, flag_bump_other, flag_event_self]
  case count =>
    simp (disch := decide) only [jumpMarked, reg_modTb, reg_bump_self, reg_event_other, reg_heldOver_other]
    rfl

/-- A jump between master and grid recorded, before its source is raised (R61). -/
def masterJumpMarked (d : Dev) : Dev :=
  ((d.pllFall.event (pg .timebase) F.TIMEBASE.EVENT_JUMP).bump (pg .timebase) R.TIMEBASE.JUMPS).modTb
    (fun t => { t with masterRun := 0 })

theorem masterJump_supervised {d : Dev} (hactive : d.tbActive = 2)
    (hsup : d.flag (pg .timebase) F.TIMEBASE.SRC_STATUS_SUPERVISED = true)
    (hrun : d.fld (pg .timebase) F.TIMEBASE.JUMP_CFG_CONFIRM < d.tb.masterRun) :
    d.masterJump = d.masterJumpMarked.raise .timebase 0 B.TIMEBASE.TB_MASTER_JUMP (ofSigned 16 d.tb.masterErr) := by
  have herr : d.masterJumpMarked.tb.masterErr = d.tb.masterErr := by simp [masterJumpMarked, errors_pllFall]
  rw [← herr]
  exact if_neg (by simp [hactive, hsup, hrun])

/-- The master goes on without the grid's lock. -/
theorem masterJumpMarked_leaves {d : Dev} (hactive : d.tbActive = 2) :
    d.masterJumpMarked.pllLock = false ∧ d.masterJumpMarked.tbActive = 2 ∧
    d.masterJumpMarked.reg (pg .timebase) R.TIMEBASE.JUMPS = d.reg (pg .timebase) R.TIMEBASE.JUMPS + 1 := by
  refine ⟨?lock, ?active, ?count⟩
  case lock =>
    simp (disch := decide) only [pllLock, masterJumpMarked, flag_modTb, flag_bump_other, flag_event_other]
    exact d.pllLock_pllFall
  case active =>
    simp (disch := decide) only [tbActive, masterJumpMarked, fld_modTb, fld_bump_other, fld_event_other, fld_pllFall_other]
    exact hactive
  case count =>
    simp (disch := decide) only [masterJumpMarked, reg_modTb, reg_bump_self, reg_event_other, reg_pllFall_other]
    rfl

end Dev

/-- Settles O12: each verdict by the case that its conditions pick, with the source raised last. -/
theorem gridVerdictsRun : Obligations.GridVerdictsRun := by
  unfold Obligations.GridVerdictsRun
  intro d hlive
  refine ⟨?update, ?locks, ?loss, ?jump, ?master⟩
  case update =>
    intro angle freq amp err huntracked
    obtain ⟨f, hupdate, hf⟩ := Dev.pllUpdate_untracked angle.toNat freq.toNat amp.toNat err.toInt huntracked
    obtain ⟨hamp, hfreq, herr⟩ := hf (d.gridShown angle.toNat freq.toNat amp.toNat).tb
    obtain ⟨hmem, hkeys⟩ := d.pllUpdate_store angle.toNat freq.toNat amp.toNat err.toInt
    rw [hupdate] at hmem hkeys
    refine ⟨_, Runs.live hlive (fun _ => rfl) hupdate, ?shown, ?unseen, hfreq, herr, ?rate, hmem, hkeys⟩
    case shown => rw [← Dev.shownAngle_measured]; exact Dev.reg_gridShown_angle ..
    case unseen => exact fun hdead => hamp.trans (Dev.seenAmp_unseen _ hdead)
    case rate => exact Dev.reg_gridShown_freq ..
  case locks =>
    intro hfree hrun hmaster hnone
    refine ⟨_, Runs.live hlive (fun _ => rfl) (Dev.pllLockDeclared_master hfree hrun hmaster hnone), ?_, ?_, ?_, ?_⟩
    · simp (disch := decide) [Dev.pllLock, Dev.lockDeclared, Dev.flag_setFlag_self, Dev.flag_setFlag_other, Dev.flag_event_other]
    · exact Dev.flag_setFlag_self _ _ _ _ (by decide) (by decide)
    · simp (disch := decide) [Dev.lockDeclared, Dev.flag_setFlag_other, Dev.flag_event_self]
    · rw [Dev.tbActive, Dev.fld_setFlag_other _ _ _ _ _ _ (by decide), Dev.fld_lockDeclared_other _ _ _ (by decide) (by decide)]
      exact hmaster
  case loss =>
    intro hlock hactive hlost
    obtain ⟨hunlocked, hheld, hgrid, hevent, hlosses⟩ := d.gridLossMarked_leaves
    exact ⟨_, hunlocked, hheld, hgrid, hevent, hlosses, Runs.live hlive (fun _ => rfl) (Dev.lossOfGrid_tracked hlock hactive hlost)⟩
  case jump =>
    intro hlock hactive hrun
    obtain ⟨hunlocked, hheld, hevent, hjumps, hafresh⟩ := d.jumpMarked_leaves
    exact ⟨_, hunlocked, hheld, hevent, hjumps, hafresh, Runs.live hlive (fun _ => rfl) (Dev.phaseJump_tracked hlock hactive hrun)⟩
  case master =>
    intro hactive hsup hrun
    obtain ⟨hunlocked, hmaster, hjumps⟩ := Dev.masterJumpMarked_leaves hactive
    exact ⟨_, hunlocked, hmaster, hjumps, Runs.live hlive (fun _ => rfl) (Dev.masterJump_supervised hactive hsup hrun)⟩

end Sys2Proof.Machine
end

section
/-!
PROOFS. Angle, folio and the requests for a source (R48–R52, R60, R62, R64): reads and writes of the page TIMEBASE, counts, angle 0 and
the stop of the timebase.
-/
namespace Sys2Proof.Machine
namespace Dev

/-! ## Reads and writes of the page -/

/-- A write of a block-specific register of TIMEBASE is the timebase's. -/
theorem regWrite_timebase (d : Dev) (m : Master) {ofs : Nat} (h : 0x100 ≤ ofs ∧ ofs < 0x800) (w : Word) (f : WriteFacts) :
    d.regWrite m .timebase 0 ofs w f = d.timebaseWrite m ofs w := by
  have hhdr : ¬ ofs < 0x100 := by omega
  simp [regWrite, hhdr, h.2, blockWrite]

/-- MASTER_FREQ and VIRT_FREQ only take their field (R62). -/
theorem timebaseWrite_freq (d : Dev) (m : Master) (virt : Bool) (w : Word) :
    d.timebaseWrite m (if virt then R.TIMEBASE.VIRT_FREQ else R.TIMEBASE.MASTER_FREQ) w =
      d.plainWrite m .timebase 0 (if virt then R.TIMEBASE.VIRT_FREQ else R.TIMEBASE.MASTER_FREQ) w := by
  cases virt <;> rfl

/-- A write of SRC_SEL whose SRC is taken is a request for that source (R60). -/
theorem timebaseWrite_srcSel {d e : Dev} {m : Master} {w : Word} (he : d.plainWrite m .timebase 0 R.TIMEBASE.SRC_SEL w = e)
    (h : e.fld (pg .timebase) F.TIMEBASE.SRC_SEL_SRC = bitsOf w.toNat 0 3) :
    d.timebaseWrite m R.TIMEBASE.SRC_SEL w = e.sourceRequest (bitsOf w.toNat 0 3) := by
  subst he
  exact if_pos h

/-- A read of ANGLE latches the folio of its clock (R52). -/
theorem regRead_angle (d : Dev) (m : Master) : d.regRead m .timebase 0 R.TIMEBASE.ANGLE =
    (d.reg (pg .timebase) R.TIMEBASE.ANGLE,
      d.setReg (pg .timebase) R.TIMEBASE.FOLIO_AT_ANGLE (d.reg (pg .timebase) R.TIMEBASE.FOLIO)) := rfl

/-- A read of a register elsewhere than at PAIR_REG_DATA is the read of the register alone (R471). -/
theorem masterRead_eq {d : Dev} {m : Master} {k : PageKind} {i ofs : Nat} (h : d.CanRead m k i ofs) (ho : ofs < 0x1000)
    (hp : 1 ≤ pg k i) (fl : Flaw) (b : Nat) : d.masterRead m (pageAddr (pg k i) ofs) fl b =
      { (d.regRead m k i ofs).2 with bus := .data (d.regRead m k i ofs).1 } := by
  have hdata : pageAddr (pg k i) ofs ≠ pageAddr (pg .sys) R.SYS.PAIR_REG_DATA := by
    show 0x40000000 + 0x1000 * pg k i + ofs ≠ 0x4000018C
    omega
  simp only [masterRead, hdata, and_false, if_false]
  exact busRead_eq h fl b ho

/-! ## Requests (R60, R64) -/

section Requests
variable {d : Dev} (hon : d.flag (pg .timebase) F.HDR.CTRL_ENABLE = true) (hrole : d.tbRole ≠ 2) (hslew : d.tbSlewing = false)
include hon hrole hslew

/-- A request for the active source cancels the pending one. -/
theorem sourceRequest_active : d.sourceRequest d.tbActive = d.setTbPending 0 := by
  simp [sourceRequest, hon, hrole, hslew]

/-- A request for MASTER while the grid stands is refused (R60). -/
theorem sourceRequest_masterRefused (hactive : d.tbActive ≠ 2) (hgrid : d.masterRefused = true) :
    d.sourceRequest 2 = (d.setTbPending 0).event (pg .timebase) F.TIMEBASE.EVENT_SRC_REFUSED := by
  simp [sourceRequest, hon, hrole, hslew, hactive.symm, hgrid]

/-- A request for VIRTUAL waits for an angle 0. -/
theorem sourceRequest_virtual (hactive : d.tbActive ≠ 3) : d.sourceRequest 3 = d.setTbPending 3 := by
  simp [sourceRequest, hon, hrole, hslew, hactive.symm]

end Requests

/-- MASTER is refused while the PLL has lock or sees amplitude. -/
theorem masterRefused_iff (d : Dev) :
    d.masterRefused = true ↔ d.pllLock = true ∨ d.fld (pg .timebase) F.TIMEBASE.LOSS_CFG_LEVEL ≤ d.tb.amp := by
  simp [masterRefused]

/-! ## Counts and angle 0 (R48–R51) -/

/-- A count is issued once PHI has reached it. -/
theorem angleSlot_due {d : Dev} (m : Mem) (fl : List EntryFlaw) (hactive : d.tbActive ≠ 0) (hlast : d.angle ≠ 65535)
    (hphi : (d.angle + 1) * 4294967296 ≤ d.tb.phi) : d.angleSlot m fl =
      ((d.setReg (pg .timebase) R.TIMEBASE.ANGLE (BitVec.ofNat 32 (d.angle + 1))).issueCount m fl 0 (d.angle + 1)).binEdge
        (d.angle + 1) :=
  if_neg (by simp [hactive, hlast, hphi])

/-- Outside TRACKED no cycle is counted at angle 0. -/
theorem closeCycle_untracked {d : Dev} (h : d.tbActive ≠ 1) : d.closeCycle = d := if_neg h

/-- At an angle 0 without request and catch-up the source stays, and its rate is taken. -/
theorem boundarySource_stays {d : Dev} (hslew : d.tb.slew = .none) (hnone : d.tbPending = 0) :
    d.boundarySource = d.setTbFreq (d.sourceRate d.tbActive) := by
  simp [boundarySource, hslew, applyPending, hnone]

theorem tbActive_modTb (d : Dev) (f : TbS → TbS) : (d.modTb f).tbActive = d.tbActive := rfl

/-- PHI less `n`: at its wrap what it holds beyond the wrap stays in it (R50). -/
def lessPhi (n : Nat) (t : TbS) : TbS := { t with phi := t.phi - n }

theorem wrapDue_iff (d : Dev) : d.wrapDue = true ↔ d.tbActive ≠ 0 ∧ d.angle = 65535 ∧ 2 ^ 48 ≤ d.tb.phi := by
  simp [wrapDue, and_assoc]

/-- Angle 0 of a folio that numbers on from the one before, once its source is known. -/
theorem folioBoundary_own {d e : Dev} (m : Mem) (fl : List EntryFlaw) (hdue : d.wrapDue = true)
    (he : (d.modTb (lessPhi (2 ^ 48))).closeCycle.boundarySource = e) (hnext : e.tb.nextFolio = none) (hactive : e.tbActive ≠ 4) :
    d.folioBoundary m fl =
      (e.modTb (fun t => { t with nextFolio := none })).openFolio m fl ((e.reg (pg .timebase) R.TIMEBASE.FOLIO).toNat + 1) true
        (decide (((e.reg (pg .timebase) R.TIMEBASE.FOLIO).toNat + 1) % 4294967296 < (e.reg (pg .timebase) R.TIMEBASE.FOLIO).toNat)) := by
  have hsource : (d.modTb (fun t => { t with phi := t.phi - 2 ^ 48 })).closeCycle.boundarySource = e := he
  simp only [folioBoundary, hdue, hsource, hnext, hactive, Bool.not_true, Bool.false_eq_true, if_false, Option.getD_none,
    Option.isSome_none, Nat.add_sub_cancel]

/-- A folio number passes to a lower one after 0xFFFF_FFFF alone (R51). -/
theorem folioPasses_iff (w : Word) : (w.toNat + 1) % 4294967296 < w.toNat ↔ w = 0xFFFFFFFF#32 := by
  bv_omega

/-- The device as angle 0 opens the next folio of a source that stays: its rate taken, and PHI less `n`. -/
def wrapped (d : Dev) (n : Nat) : Dev :=
  (d.setTbFreq (d.sourceRate d.tbActive)).modTb (fun t => { t with phi := t.phi - n, nextFolio := none })

/-- Outside TRACKED an angle 0 without request and catch-up keeps the source, whose rate is taken. -/
theorem boundarySource_lessPhi {d : Dev} (n : Nat) (hactive : d.tbActive ≠ 1) (hslew : d.tb.slew = .none) (hnone : d.tbPending = 0) :
    (d.modTb (lessPhi n)).closeCycle.boundarySource = (d.setTbFreq (d.sourceRate d.tbActive)).modTb (lessPhi n) := by
  have hstays : (d.modTb (lessPhi n)).closeCycle = d.modTb (lessPhi n) := closeCycle_untracked hactive
  have hrate : (d.modTb (lessPhi n)).sourceRate d.tbActive = d.sourceRate d.tbActive := by simp [sourceRate, lessPhi]
  rw [hstays, boundarySource_stays (d := d.modTb (lessPhi n)) hslew hnone, tbActive_modTb, hrate, setTbFreq_modTb]

theorem wrapped_eq (d : Dev) (n : Nat) : d.wrapped n =
    ((d.setTbFreq (d.sourceRate d.tbActive)).modTb (lessPhi n)).modTb (fun t => { t with nextFolio := none }) := rfl

/-- A rate taken and PHI less `n` leave a folio number that FMARK gave. -/
theorem nextFolio_lessPhi (d : Dev) (r n : Nat) : ((d.setTbFreq r).modTb (lessPhi n)).tb.nextFolio = d.tb.nextFolio := by
  simp [lessPhi]

/-- Angle 0 in MASTER or VIRTUAL with no request pending (R50, R51). -/
theorem folioBoundary_stays {d : Dev} (m : Mem) (fl : List EntryFlaw) (hactive : d.tbActive = 2 ∨ d.tbActive = 3)
    (hdue : d.wrapDue = true) (hnone : d.tbPending = 0) (hslew : d.tb.slew = .none) (hnext : d.tb.nextFolio = none) :
    d.folioBoundary m fl = (d.wrapped (2 ^ 48)).openFolio m fl ((d.reg (pg .timebase) R.TIMEBASE.FOLIO).toNat + 1) true
      (decide (d.reg (pg .timebase) R.TIMEBASE.FOLIO = 0xFFFFFFFF#32)) := by
  have huntracked : d.tbActive ≠ 1 := by omega
  have hfolio := reg_setTbFreq_other d (d.sourceRate d.tbActive) (o := R.TIMEBASE.FOLIO) (by decide)
  have hstays : (d.setTbFreq (d.sourceRate d.tbActive)).tbActive = d.tbActive := fld_setTbFreq_other d _ (by decide)
  have hown : ((d.setTbFreq (d.sourceRate d.tbActive)).modTb (lessPhi (2 ^ 48))).tbActive ≠ 4 := by
    rw [tbActive_modTb]
    omega
  rw [folioBoundary_own m fl hdue (boundarySource_lessPhi (2 ^ 48) huntracked hslew hnone) ((nextFolio_lessPhi _ _ _).trans hnext) hown,
    ← wrapped_eq, reg_modTb, hfolio, decide_eq_decide.mpr (folioPasses_iff _)]

/-! ## The stop of the timebase (R50) -/

/-- The timebase stopped: no catch-up, no request, no lock of FMARK, no source, and a rate of 0. -/
def timebaseStopped (d : Dev) : Dev :=
  let e := ((d.setSlew .none).setTbPending 0).setFlag (pg .timebase) F.TIMEBASE.SRC_STATUS_FMARK_LOCK false
  (((e.modTb (fun t => { t with fmValid := 0, fmBad := 0, nextFolio := none })).setTbActive 0).setTbFreq 0).binStopped

theorem timebaseEnable_off {d : Dev} (m : Mem) (fl : List EntryFlaw) (hon : d.flag (pg .timebase) F.HDR.CTRL_ENABLE = true) :
    d.timebaseEnable m fl false = (d.setFlag (pg .timebase) F.HDR.CTRL_ENABLE false).timebaseStopped := by
  simp [timebaseEnable, hon, timebaseStopped]

/-- A write of CTRL with ENABLE = 0 stops a running timebase (R30, R50). -/
theorem regWrite_timebase_off {d : Dev} (m : Master) (fl : List EntryFlaw) (hon : d.flag (pg .timebase) F.HDR.CTRL_ENABLE = true) :
    d.regWrite m .timebase 0 R.HDR.CTRL (BitVec.ofNat 32 (b2n false)) { flaws := fl } =
      (d.setFlag (pg .timebase) F.HDR.CTRL_ENABLE false).timebaseStopped :=
  timebaseEnable_off d.mem fl hon

@[simp] theorem timebaseStopped_store (d : Dev) : d.timebaseStopped.mem = d.mem ∧ d.timebaseStopped.keys = d.keys := by
  simp [timebaseStopped]

/-- The stop leaves the registers of the page but SRC_STATUS and FREQ. -/
theorem reg_timebaseStopped_other (d : Dev) {o : Nat} (h : o < 0x1000 ∧ o ≠ R.TIMEBASE.FREQ) (hs : o ≠ R.TIMEBASE.SRC_STATUS) :
    d.timebaseStopped.reg (pg .timebase) o = d.reg (pg .timebase) o := by
  have hkey : regKey (pg .timebase) o ≠ regKey (pg .timebase) R.TIMEBASE.SRC_STATUS := fun e => hs ((regKey_ofs _ _ _ _).mp e)
  simp only [timebaseStopped]
  rw [reg_of_pageRegs (pageRegs_binStopped _ (by decide)) h.1, reg_setTbFreq_other _ _ h, reg_setTbActive_other _ _ _ _ _ hkey,
    reg_modTb, reg_setFlag_other _ _ _ _ _ _ _ hkey, setTbPending, reg_setFld_other _ _ _ _ _ _ _ hkey, reg_setSlew_other _ _ _ _ _ hkey]

theorem freq_timebaseStopped (d : Dev) : d.timebaseStopped.reg (pg .timebase) R.TIMEBASE.FREQ = 0 := by
  simp only [timebaseStopped]
  rw [reg_of_pageRegs (pageRegs_binStopped _ (by decide)) (by decide), reg_setTbFreq_self]
  rfl

theorem tbActive_timebaseStopped (d : Dev) : d.timebaseStopped.tbActive = 0 := by
  simp only [timebaseStopped, tbActive]
  rw [fld_of_pageRegs (pageRegs_binStopped _ (by decide)) (by decide), fld_setTbFreq_other _ _ (by decide)]
  exact tbActive_setTbActive _ (by decide)

theorem tbPending_timebaseStopped (d : Dev) : d.timebaseStopped.tbPending = 0 := by
  simp only [timebaseStopped, tbPending]
  rw [fld_of_pageRegs (pageRegs_binStopped _ (by decide)) (by decide), fld_setTbFreq_other _ _ (by decide),
    fld_setTbActive_other _ _ _ _ (by decide) (by decide) (by decide), fld_modTb, fld_setFlag_other _ _ _ _ _ _ (by decide)]
  exact fld_setFld_self _ _ _ _ (by decide)

end Dev

/-- A permitted write of a block-specific register of TIMEBASE runs as the timebase's. -/
theorem Runs.timebase {c : Instr} {d t : Dev} {m : Master} {ofs : Nat} {w : Word} (h : d.CanWrite m .timebase 0 ofs)
    (ho : 0x100 ≤ ofs ∧ ofs < 0x800) (hc : ∀ s, exec c s = .next (s.onDev fun d => d.portWrite m .timebase 0 ofs w))
    (ht : d.timebaseWrite m ofs w = t) : Runs c d t.done :=
  Runs.port h (by omega) hc ((d.regWrite_timebase m ho w {}).trans ht)

/-- Settles O10: a read, a count that is due, angle 0 of a source that stays, and the stop. -/
theorem angleAndFolioRun : Obligations.AngleAndFolioRun := by
  unfold Obligations.AngleAndFolioRun
  intro d m fl
  refine ⟨?read, ?count, ?wrap, ?stop⟩
  case read =>
    intro h
    have hread := Dev.masterRead_eq h (by decide) (by decide) .clean 0
    rw [Dev.regRead_angle] at hread
    exact Runs.dev (fun _ => rfl) hread
  case count =>
    exact fun hlive hactive hlast hphi => Runs.live hlive (fun _ => rfl) (Dev.angleSlot_due d.mem fl hactive hlast hphi)
  case wrap =>
    intro hlive hactive hlast hphi hnone hslew hnext
    have hdue := d.wrapDue_iff.mpr ⟨by omega, hlast, hphi⟩
    have hzero : d.angleZero fl = (d.folioBoundary d.mem fl).measAngle0 := if_neg (by simp [hdue])
    rw [Dev.folioBoundary_stays d.mem fl hactive hdue hnone hslew hnext] at hzero
    exact ⟨d.wrapped (2 ^ 48), rfl, Runs.live hlive (fun _ => rfl) hzero⟩
  case stop =>
    intro h hon
    have hangle := Dev.reg_timebaseStopped_other (d.setFlag (pg .timebase) F.HDR.CTRL_ENABLE false) (o := R.TIMEBASE.ANGLE) (by decide)
      (by decide)
    have hfolio := Dev.reg_timebaseStopped_other (d.setFlag (pg .timebase) F.HDR.CTRL_ENABLE false) (o := R.TIMEBASE.FOLIO) (by decide)
      (by decide)
    rw [Dev.reg_setFlag_other _ _ _ _ _ _ _ (by decide)] at hangle hfolio
    exact ⟨_, Runs.port h (by decide) (fun _ => rfl) (Dev.regWrite_timebase_off m fl hon), Dev.tbActive_timebaseStopped _,
      Dev.tbPending_timebaseStopped _, Dev.freq_timebaseStopped _, hangle, hfolio, by simp, by simp⟩

/-- Settles O11: the request that a write of SRC_SEL makes, by what stands as it comes. -/
theorem sourceRequestsRun : Obligations.SourceRequestsRun := by
  unfold Obligations.SourceRequestsRun
  intro d m w p e h hsrc hon hrole hslew
  have runs : ∀ t, e.sourceRequest (bitsOf w.toNat 0 3) = t → Runs (.sourceRequest m w) d t.done := fun t ht =>
    Runs.timebase h (by decide) (fun _ => rfl) ((Dev.timebaseWrite_srcSel rfl hsrc).trans ht)
  refine ⟨?cancels, ?refused, ?waits, ?rates⟩
  case cancels =>
    exact fun hactive => runs _ (by rw [hactive]; exact Dev.sourceRequest_active hon hrole hslew)
  case refused =>
    exact fun hmaster hactive hgrid => runs _ (by
      rw [hmaster]; exact Dev.sourceRequest_masterRefused hon hrole hslew hactive (e.masterRefused_iff.mpr hgrid))
  case waits =>
    exact fun hvirtual hactive => runs _ (by rw [hvirtual]; exact Dev.sourceRequest_virtual hon hrole hslew hactive)
  case rates =>
    intro v virt hrate
    exact Runs.timebase hrate (by cases virt <;> decide) (fun _ => rfl) (d.timebaseWrite_freq m virt v)

end Sys2Proof.Machine
end

section
/-!
PROOFS. The carrier reference and FMARK (R67, R68, R70–R72): edges of SYNCIN, frames of a follower without lock, and the loss of FMARK.
-/
namespace Sys2Proof.Machine
namespace Dev

/-! ## SYNCIN (R67, R68) -/

/-- An edge within ±2 % of CREF_PERIOD sets the reference. -/
theorem syncinEdge_near {d : Dev} {n : Nat} (hsrc : d.flag (pg .timebase) F.TIMEBASE.SYNC_CTRL_CREF_SRC = true)
    (h : 50 * ((n : Int) - d.fld (pg .timebase) F.TIMEBASE.CREF_PERIOD_PERIOD).natAbs ≤
      d.fld (pg .timebase) F.TIMEBASE.CREF_PERIOD_PERIOD) :
    d.syncinEdge n = d.modTb (fun t => { t with
      crefFrom := d.now * 64 + (d.fld (pg .timebase) F.TIMEBASE.SYNC_OFFSET_OFFSET * n + 32768) / 65536, crefPer := n,
      syncAt := d.now * 64, syncGood := if ((n : Int) - t.crefPer).natAbs ≤ 4 then t.syncGood + 1 else 0 }) := by
  simp [syncinEdge, hsrc, h]

/-- An edge farther off starts the lock rule afresh. -/
theorem syncinEdge_far {d : Dev} {n : Nat} (hsrc : d.flag (pg .timebase) F.TIMEBASE.SYNC_CTRL_CREF_SRC = true)
    (h : d.fld (pg .timebase) F.TIMEBASE.CREF_PERIOD_PERIOD <
      50 * ((n : Int) - d.fld (pg .timebase) F.TIMEBASE.CREF_PERIOD_PERIOD).natAbs) :
    d.syncinEdge n = d.modTb (fun t => { t with syncGood := 0, syncAt := d.now * 64 }) := by
  simp [syncinEdge, hsrc, h]

theorem regs_syncinEdge (d : Dev) (n : Nat) : (d.syncinEdge n).regs = d.regs := by
  simp only [syncinEdge]
  split
  · rfl
  · split <;> simp

/-- Every edge that CREF_SRC takes restarts the wait of the loss rule. -/
theorem syncAt_syncinEdge {d : Dev} (n : Nat) (hsrc : d.flag (pg .timebase) F.TIMEBASE.SYNC_CTRL_CREF_SRC = true) :
    (d.syncinEdge n).tb.syncAt = d.now * 64 := by
  rcases Nat.lt_or_ge (d.fld (pg .timebase) F.TIMEBASE.CREF_PERIOD_PERIOD)
    (50 * ((n : Int) - d.fld (pg .timebase) F.TIMEBASE.CREF_PERIOD_PERIOD).natAbs) with h | h
  · rw [syncinEdge_far hsrc h]
    simp
  · rw [syncinEdge_near hsrc h]
    simp

/-- Two periods without an edge, recorded on the page: two edges missed, the lock fallen, and the lock rule begun afresh. -/
def syncLossMarked (d : Dev) : Dev :=
  let e := (d.modTb (fun t => { t with syncGood := 0, syncAt := d.tb.syncAt + 2 * d.tb.crefPer })).bump (pg .timebase)
    R.TIMEBASE.SYNC_MISSED 2
  (e.setFlag (pg .timebase) F.TIMEBASE.SRC_STATUS_SYNC_LOCK false).event (pg .timebase) F.TIMEBASE.EVENT_SYNC_LOSS

theorem syncLoss_locked {d : Dev} (hsrc : d.flag (pg .timebase) F.TIMEBASE.SYNC_CTRL_CREF_SRC = true)
    (hlock : d.flag (pg .timebase) F.TIMEBASE.SRC_STATUS_SYNC_LOCK = true) (hlate : d.tb.syncAt + 2 * d.tb.crefPer ≤ d.now * 64) :
    d.syncLoss = d.syncLossMarked.raise .timebase 0 B.TIMEBASE.TB_SYNC := by
  simp [syncLoss, syncLossMarked, hsrc, hlock, hlate]

theorem syncLossMarked_spec (d : Dev) :
    d.syncLossMarked.flag (pg .timebase) F.TIMEBASE.SRC_STATUS_SYNC_LOCK = false ∧
      d.syncLossMarked.flag (pg .timebase) F.TIMEBASE.EVENT_SYNC_LOSS = true ∧ d.syncLossMarked.tb.syncGood = 0 := by
  refine ⟨?lock, ?loss, ?good⟩
  case lock =>
    simp only [syncLossMarked]
    rw [flag_event_other _ _ _ _ _ (by decide)]
    exact flag_setFlag_self _ _ _ _ (by decide) (by decide)
  case loss => exact flag_event_self _ _ _ (by decide) (by decide)
  case good => simp [syncLossMarked]

/-! ## A trigger of FMARK (R74) -/

theorem tb_proofTrigger (d : Dev) (i : Nat) : (d.proofTrigger i).tb = d.tb := by
  simp [proofTrigger]

/-- A trigger shows on the page PROOF. -/
theorem pageRegs_proofTrigger (d : Dev) (i : Nat) {p : Nat} (h : p ≠ pg .proof) : (d.proofTrigger i).pageRegs p = d.pageRegs p := by
  simp only [proofTrigger]
  split
  · rfl
  split
  · rw [pageRegs_autoHold _ _ h, pageRegs_setFld _ _ ⟨h, by decide⟩, pageRegs_bump _ _ ⟨h, by decide⟩]
  split
  · exact pageRegs_missProof d h
  split
  · rw [pageRegs_withProof, pageRegs_ite, pageRegs_bump _ _ ⟨h, by decide⟩, ite_self]
  · exact pageRegs_takeProof d _ h

theorem tb_fmarkProof (d : Dev) : d.fmarkProof.tb = d.tb := by
  rw [fmarkProof, tb_ite, tb_proofTrigger, ite_self]

theorem timebasePage_fmarkProof (d : Dev) : d.fmarkProof.pageRegs (pg .timebase) = d.pageRegs (pg .timebase) := by
  rw [fmarkProof, pageRegs_ite, pageRegs_proofTrigger _ _ (by decide), ite_self]

/-! ## Frames of a follower (R70–R72) -/

/-- The follower as a frame reaches it: the frame is the last that came, and its proof is taken. -/
def frameMet (d : Dev) : Dev := (d.modTb (fun t => { t with fmAt := d.now })).fmarkProof

@[simp] theorem mem_frameMet (d : Dev) : d.frameMet.mem = d.mem := by simp [frameMet]

theorem timebasePage_frameMet (d : Dev) : d.frameMet.pageRegs (pg .timebase) = d.pageRegs (pg .timebase) := by
  rw [frameMet, timebasePage_fmarkProof, pageRegs_of_regs (modTb_frame _ _).1]

theorem tb_frameMet (d : Dev) : d.frameMet.tb = { d.tb with fmAt := d.now } := by
  rw [frameMet, tb_fmarkProof]
  rfl

theorem fmarkLock_frameMet (d : Dev) : d.frameMet.fmarkLock = d.fmarkLock := flag_of_pageRegs d.timebasePage_frameMet (by decide)

section Frames
variable {d : Dev} (hon : d.flag (pg .timebase) F.HDR.CTRL_ENABLE = true) (hrole : d.tbRole = 2)
  (hin : d.flag (pg .timebase) F.TIMEBASE.SYNC_CTRL_FMARK_IN_EN = true) (m : Mem) (fl : List EntryFlaw) (err : Int) (rate : Nat)
include hon hrole hin

/-- A frame that does not read is an error of the follower. -/
theorem fmarkFrame_invalid {l : List (Nat × Nat)} (h : readFrame l = none) : d.fmarkFrame m fl l err rate = d.frameMet.fmarkError := by
  simp [fmarkFrame, frameMet, hon, hrole, hin, h]

/-- A frame of a follower without lock serves the lock rule. -/
theorem fmarkFrame_seeking {l : List (Nat × Nat)} {ext : Bool} {bits : Nat} (h : readFrame l = some (ext, bits))
    (hfree : d.fmarkLock = false) : d.fmarkFrame m fl l err rate = d.frameMet.fmarkSeek ext bits rate := by
  have hmet : (d.modTb (fun t => { t with fmAt := d.now })).fmarkLock = false := hfree
  simp [fmarkFrame, frameMet, hon, hrole, hin, h, hmet]

end Frames

/-- A frame in error, of a follower without lock: the lock rule begins afresh. -/
theorem fmarkError_unlocked {d : Dev} (hfree : d.fmarkLock = false) : d.fmarkError =
    ((d.bump (pg .timebase) R.TIMEBASE.FMARK_BAD).event (pg .timebase) F.TIMEBASE.EVENT_FMARK_ERR).modTb
      (fun t => { t with fmValid := 0 }) := by
  have hkept : ((d.bump (pg .timebase) R.TIMEBASE.FMARK_BAD).event (pg .timebase) F.TIMEBASE.EVENT_FMARK_ERR).fmarkLock = false := by
    rw [fmarkLock, flag_event_other _ _ _ _ _ (by decide), flag_bump_other _ _ _ _ _ _ (by decide)]
    exact hfree
  simp only [fmarkError, hkept, Bool.false_eq_true, if_false]

/-- What a frame in error leaves of a follower without lock. -/
theorem fmarkError_unlocked_spec {d : Dev} (hfree : d.fmarkLock = false) :
    d.fmarkError.reg (pg .timebase) R.TIMEBASE.FMARK_BAD = d.reg (pg .timebase) R.TIMEBASE.FMARK_BAD + 1 ∧
      d.fmarkError.flag (pg .timebase) F.TIMEBASE.EVENT_FMARK_ERR = true ∧ d.fmarkError.tb.fmValid = 0 ∧
      d.fmarkError.mem = d.mem := by
  rw [fmarkError_unlocked hfree]
  refine ⟨?bad, ?event, by simp, by simp⟩
  case bad =>
    rw [reg_modTb, reg_event_other _ _ _ _ _ _ (by decide)]
    exact reg_bump_self d _ _ 1
  case event =>
    rw [flag_modTb]
    exact flag_event_self _ _ _ (by decide) (by decide)

/-- The first good frame of the lock rule, with the whole folio number. -/
theorem fmarkSeek_first {d : Dev} (bits rate : Nat) (hnone : d.tb.fmValid = 0) : d.fmarkSeek true bits rate =
    (d.bump (pg .timebase) R.TIMEBASE.FMARK_GOOD).modTb
      (fun t => { t with fmValid := 1, fmLast := BitVec.ofNat 32 bits, followFreq := rate }) := by
  simp [fmarkSeek, hnone]

theorem fmarkSeek_first_spec {d : Dev} (bits rate : Nat) (hnone : d.tb.fmValid = 0) :
    (d.fmarkSeek true bits rate).reg (pg .timebase) R.TIMEBASE.FMARK_GOOD = d.reg (pg .timebase) R.TIMEBASE.FMARK_GOOD + 1 ∧
      (d.fmarkSeek true bits rate).tb.fmValid = 1 ∧ (d.fmarkSeek true bits rate).tb.fmLast = BitVec.ofNat 32 bits ∧
      (d.fmarkSeek true bits rate).fmarkLock = d.fmarkLock ∧ (d.fmarkSeek true bits rate).mem = d.mem := by
  rw [fmarkSeek_first bits rate hnone]
  refine ⟨reg_bump_self d _ _ 1, by simp, by simp, ?lock, by simp⟩
  case lock =>
    rw [fmarkLock, flag_modTb, flag_bump_other _ _ _ _ _ _ (by decide)]
    rfl

/-! ## The loss of FMARK (R72) -/

/-- A follower that has lost FMARK goes on at the rate in use, in HOLDOVER. -/
def fmarkDropped (d : Dev) : Dev :=
  let e := d.setFlag (pg .timebase) F.TIMEBASE.SRC_STATUS_FMARK_LOCK false
  (e.modTb (fun t => { t with fmValid := 0, fmBad := 0, fmHeld := true, nextFolio := none,
                              heldFreq := (e.reg (pg .timebase) R.TIMEBASE.FREQ).toNat })).setTbActive 5

/-- A locked follower without a frame for two folios. -/
theorem fmarkTimeout_late {d : Dev} (hlock : d.fmarkLock = true) (hactive : d.tbActive = 4)
    (hlate : 2 * 400000000 * 65536 ≤ (d.now - d.tb.fmAt) * (d.reg (pg .timebase) R.TIMEBASE.FREQ).toNat) :
    d.fmarkTimeout = d.fmarkDropped.raise .timebase 0 B.TIMEBASE.TB_FMARK := by
  have hstays : (d.setFlag (pg .timebase) F.TIMEBASE.SRC_STATUS_FMARK_LOCK false).tbActive = 4 :=
    (fld_setFlag_other _ _ _ _ _ _ (by decide)).trans hactive
  rw [fmarkTimeout, if_pos ⟨hlock, hlate⟩]
  simp only [fmarkLost, tbActive_modTb, hstays, if_true]
  rfl

theorem fmarkLock_fmarkDropped (d : Dev) : d.fmarkDropped.fmarkLock = false := by
  simp only [fmarkDropped, fmarkLock]
  rw [flag_setTbActive_other _ _ _ _ (by decide) (by decide) (by decide), flag_modTb]
  exact flag_setFlag_self d _ _ _ (by decide) (by decide)

theorem tbActive_fmarkDropped (d : Dev) : d.fmarkDropped.tbActive = 5 := tbActive_setTbActive _ (by decide)

theorem heldFreq_fmarkDropped (d : Dev) : d.fmarkDropped.tb.heldFreq = (d.reg (pg .timebase) R.TIMEBASE.FREQ).toNat := by
  simp (disch := decide) [fmarkDropped, reg_setFlag_other]

end Dev

/-- Settles O13: an edge by its distance, lock and its loss, and a follower's frames by what they read as. -/
theorem syncAndFmarkRun : Obligations.SyncAndFmarkRun := by
  unfold Obligations.SyncAndFmarkRun
  intro d hlive
  refine ⟨?edge, ?lock, ?loss, ?frames, ?timeout⟩
  case edge =>
    intro n hsrc
    refine ⟨_, Runs.live hlive (fun _ => rfl) rfl, ?near, ?far, Dev.syncAt_syncinEdge _ hsrc, d.regs_syncinEdge _, by simp, by simp⟩
    case near =>
      intro h
      rw [Dev.syncinEdge_near hsrc h]
      simp
    case far =>
      intro h
      rw [Dev.syncinEdge_far hsrc h]
      simp
  case lock =>
    exact fun hgood hfree => Runs.live hlive (fun _ => rfl) (if_neg (by simp [hgood, hfree]))
  case loss =>
    intro hsrc hlock hlate
    obtain ⟨hfallen, hevent, hafresh⟩ := d.syncLossMarked_spec
    exact ⟨_, hfallen, hevent, hafresh, Runs.live hlive (fun _ => rfl) (Dev.syncLoss_locked hsrc hlock hlate)⟩
  case frames =>
    intro cells err rate fl hon hrole hin l
    refine ⟨?bad, ?good⟩
    case bad =>
      intro hfree hread
      obtain ⟨hbad, hevent, hafresh, hmem⟩ := Dev.fmarkError_unlocked_spec (d.fmarkLock_frameMet.trans hfree)
      rw [Dev.reg_of_pageRegs d.timebasePage_frameMet (by decide)] at hbad
      exact ⟨_, Runs.live hlive (fun _ => rfl) (Dev.fmarkFrame_invalid hon hrole hin _ _ _ _ hread), hbad, hevent, hafresh,
        hmem.trans d.mem_frameMet⟩
    case good =>
      intro bits hfree hnone hread
      have hfirst : d.frameMet.tb.fmValid = 0 := by rw [Dev.tb_frameMet]; exact hnone
      obtain ⟨hgood, hvalid, hlast, hlock, hmem⟩ := Dev.fmarkSeek_first_spec bits (rate.toNat) hfirst
      rw [Dev.reg_of_pageRegs d.timebasePage_frameMet (by decide)] at hgood
      exact ⟨_, Runs.live hlive (fun _ => rfl) (Dev.fmarkFrame_seeking hon hrole hin _ _ _ _ hread hfree), hgood, hvalid, hlast,
        hlock.trans (d.fmarkLock_frameMet.trans hfree), hmem.trans d.mem_frameMet⟩
  case timeout =>
    exact fun hlock hactive hlate => ⟨_, d.fmarkLock_fmarkDropped, d.tbActive_fmarkDropped, d.heldFreq_fmarkDropped,
      Runs.live hlive (fun _ => rfl) (Dev.fmarkTimeout_late hlock hactive hlate)⟩

end Sys2Proof.Machine
end

section
/-!
PROOFS. Proofs (R73–R76): what a trigger does by the state of hold and copy, and what a hold does to HOLD.
-/
namespace Sys2Proof.Machine
namespace Dev

/-! ## Writes of the page -/

/-- A write of a block-specific register of PROOF is the proof unit's. -/
theorem regWrite_proof (d : Dev) (m : Master) {ofs : Nat} (h : 0x100 ≤ ofs ∧ ofs < 0x800) (w : Word) (f : WriteFacts) :
    d.regWrite m .proof 0 ofs w f = d.proofWrite m ofs w := by
  have hhdr : ¬ ofs < 0x100 := by omega
  simp [regWrite, hhdr, h.2, blockWrite]

/-- A 1 written to TAKE is the trigger REG. -/
theorem proofWrite_take (d : Dev) (m : Master) : d.proofWrite m R.PROOF.TAKE 1 = d.proofTrigger 0 := by
  rw [proofWrite, if_pos rfl, if_pos (by decide)]

theorem proofWrite_hold (d : Dev) (m : Master) (w : Word) : d.proofWrite m R.PROOF.HOLD w = d.holdWrite m w := rfl

/-! ## AUTO (R76) -/

/-- AUTO of HOLD, set by a trigger that AUTOHOLD names, leaves the banks. -/
theorem banks_autoHold (d : Dev) (trig : Nat) :
    (d.autoHold trig).proof.active = d.proof.active ∧ (d.autoHold trig).proof.other = d.proof.other ∧
      (d.autoHold trig).proof.periodFrom = d.proof.periodFrom := by
  simp only [autoHold]
  split <;> simp

theorem reg_autoHold_other (d : Dev) (trig p o b : Nat) (h : regKey p o b ≠ regKey (pg .proof) R.PROOF.HOLD) :
    (d.autoHold trig).reg p o b = d.reg p o b := by
  simp only [autoHold]
  split
  · exact reg_setFlag_other d _ _ _ p o b h
  · rfl

theorem flag_autoHold_other (d : Dev) (trig p : Nat) (g : Fld) (h : Apart p g (pg .proof) F.PROOF.HOLD_AUTO) :
    (d.autoHold trig).flag p g = d.flag p g := by
  simp only [autoHold]
  split
  · exact flag_setFlag_other d _ _ _ p g h
  · rfl

/-- A trigger that AUTOHOLD does not name sets no hold. -/
theorem autoHold_unnamed {d : Dev} {trig : Nat} (h : trig &&& d.fld (pg .proof) F.PROOF.TRIG_EN_AUTOHOLD = 0) :
    d.autoHold trig = d := if_neg (by simp [h])

/-! ## A proof taken (R73) -/

/-- The bank that a proof fills. -/
def proofBank (d : Dev) : Bank :=
  ⟨d.proof.active.seq + 1, d.reg (pg .timebase) R.TIMEBASE.FOLIO, BitVec.ofNat 32 d.stampAngle, d.proofRtc, d.snapshot⟩

/-- A proof fills the bank that reads then show, and the other bank keeps what they showed. -/
theorem banks_takeProof (d : Dev) (trig : Nat) :
    (d.takeProof trig).proof.active = d.proofBank ∧ (d.takeProof trig).proof.other = d.proof.active ∧
      (d.takeProof trig).proof.periodFrom = d.proof.periodFrom := by
  simp [takeProof, banks_autoHold, proofBank]

theorem seq_takeProof (d : Dev) (trig : Nat) : (d.takeProof trig).reg (pg .proof) R.PROOF.SEQ = d.proof.active.seq + 1 := by
  simp only [takeProof]
  rw [reg_autoHold_other _ _ _ _ _ (by decide), reg_event_other _ _ _ _ _ _ (by decide), reg_setReg_other _ (by decide), reg_setReg_self]

theorem taken_takeProof (d : Dev) (trig : Nat) : (d.takeProof trig).flag (pg .proof) F.PROOF.EVENT_TAKEN = true := by
  simp only [takeProof]
  rw [flag_autoHold_other _ _ _ _ (by decide)]
  exact flag_event_self _ _ _ (by decide) (by decide)

/-! ## A trigger (R74–R76) -/

section Triggers
variable {d : Dev} {i : Nat} (hon : bitAt (d.reg (pg .proof) R.PROOF.TRIG_EN).toNat i = true)
include hon

/-- With no hold, and apart from the clocks of a copy and of its flip, a trigger takes a proof. -/
theorem proofTrigger_taken (hhold : d.reg (pg .proof) R.PROOF.HOLD = 0)
    (hapart : d.proof.copyAt ≠ some d.now ∧ d.proof.copyAt.map (· + 1) ≠ some d.now) : d.proofTrigger i = d.takeProof (2 ^ i) := by
  simp only [proofTrigger, hon, hhold, hapart, Bool.not_true, Bool.false_eq_true, ne_eq, not_true_eq_false, if_false]

/-- Under a hold it is missed. -/
theorem proofTrigger_held (hhold : d.reg (pg .proof) R.PROOF.HOLD ≠ 0) (hapart : d.proof.copyAt ≠ some d.now) :
    d.proofTrigger i = d.missProof := by
  simp only [proofTrigger, hon, hhold, hapart, Bool.not_true, Bool.false_eq_true, ne_eq, not_false_eq_true, if_false, if_true]

/-- In the clock of a copy that copy serves it (R75). -/
theorem proofTrigger_merged (hcopy : d.proof.copyAt = some d.now) : d.proofTrigger i =
    ((d.bump (pg .proof) R.PROOF.MERGED).setFld (pg .proof) F.PROOF.LAST_TRIG
      (d.fld (pg .proof) F.PROOF.LAST_TRIG ||| 2 ^ i)).autoHold (2 ^ i) := by
  simp only [proofTrigger, hon, hcopy, Bool.not_true, Bool.false_eq_true, if_false, if_true]

end Triggers

/-- The first trigger that a clock's hold keeps from a proof is counted. -/
theorem missProof_first {d : Dev} (h : d.proof.missAt ≠ some d.now) :
    d.missProof.regs = ((d.bump (pg .proof) R.PROOF.MISSED).event (pg .proof) F.PROOF.EVENT_MISSED).regs ∧
      d.missProof.proof = { d.proof with missAt := some d.now } := by
  simp [missProof, h]

/-- The trigger REG in the clock of a copy, where AUTOHOLD does not name it. -/
theorem proofTrigger_regMerged {d : Dev} (hon : bitAt (d.reg (pg .proof) R.PROOF.TRIG_EN).toNat 0 = true)
    (hcopy : d.proof.copyAt = some d.now) (hauto : bitAt (d.fld (pg .proof) F.PROOF.TRIG_EN_AUTOHOLD) 0 = false) : d.proofTrigger 0 =
      (d.bump (pg .proof) R.PROOF.MERGED).setFld (pg .proof) F.PROOF.LAST_TRIG (d.fld (pg .proof) F.PROOF.LAST_TRIG ||| 1) := by
  have hunnamed : 1 &&& d.fld (pg .proof) F.PROOF.TRIG_EN_AUTOHOLD = 0 := by
    rw [Nat.one_and_eq_mod_two]
    simpa [bitAt] using hauto
  rw [proofTrigger_merged hon hcopy, Nat.pow_zero]
  refine autoHold_unnamed ?_
  rwa [fld_setFld_other _ _ _ _ _ _ (by decide), fld_bump_other _ _ _ _ _ _ (by decide)]

/-- The trigger PERIODIC comes PERIOD µs after the last one (R74). -/
theorem proofPeriodic_due {d : Dev} (h : d.proof.periodFrom + 400 * d.fld (pg .proof) F.PROOF.PERIOD_PERIOD ≤ d.now) :
    d.proofPeriodic = { d.proofTrigger 3 with proof := { (d.proofTrigger 3).proof with
      periodFrom := d.proof.periodFrom + 400 * d.fld (pg .proof) F.PROOF.PERIOD_PERIOD } } := if_neg (by omega)

/-! ## HOLD (R76, R82) -/

/-- A write of HOLD that leaves AUTO alone sets the writer's own bit. -/
theorem reg_holdWrite (d : Dev) (m : Master) {w : Word} (h : bitAt w.toNat 4 = false) : (d.holdWrite m w).reg (pg .proof) R.PROOF.HOLD =
    BitVec.ofNat 32 (setBits (d.reg (pg .proof) R.PROOF.HOLD).toNat (holdBit m) 1 (bitsOf w.toNat (holdBit m) 1)) := by
  simp only [holdWrite, h, Bool.false_eq_true, if_false]
  split
  · exact reg_setReg_self d _ _ _ _
  · exact reg_setReg_self d _ _ _ _

theorem active_holdWrite (d : Dev) (m : Master) (w : Word) : (d.holdWrite m w).proof.active = d.proof.active :=
  (apply_ite (fun e : Dev => e.proof.active) _ _ _).trans (ite_self _)

/-- A hold longer than HOLD_MAX is cleared whole, and counted. -/
theorem holdExpired_late {d : Dev} (hhold : d.reg (pg .proof) R.PROOF.HOLD ≠ 0)
    (hlate : 400 * d.fld (pg .proof) F.PROOF.HOLD_MAX_LIMIT < d.now - d.proof.holdSince) : d.holdExpired =
      ((d.setReg (pg .proof) R.PROOF.HOLD 0).event (pg .proof) F.PROOF.EVENT_HOLD_EXPIRED).bump (pg .proof) R.PROOF.EXPIRED :=
  if_neg (not_or.mpr ⟨hhold, Nat.not_le.mpr hlate⟩)

end Dev

/-- A permitted write of a block-specific register of PROOF runs as the proof unit's. -/
theorem Runs.proof {c : Instr} {d t : Dev} {m : Master} {ofs : Nat} {w : Word} (h : d.CanWrite m .proof 0 ofs)
    (ho : 0x100 ≤ ofs ∧ ofs < 0x800) (hc : ∀ s, exec c s = .next (s.onDev fun d => d.portWrite m .proof 0 ofs w))
    (ht : d.proofWrite m ofs w = t) : Runs c d t.done :=
  Runs.port h (by omega) hc ((d.regWrite_proof m ho w {}).trans ht)

/-- Settles O14: the trigger REG by hold and copy, the trigger PERIODIC, and a hold written and expired. -/
theorem proofsRun : Obligations.ProofsRun := by
  unfold Obligations.ProofsRun
  intro d m
  have takes : ∀ {t}, d.CanWrite m .proof 0 R.PROOF.TAKE → d.proofTrigger 0 = t → Runs (.proofTake m) d t.done := fun h ht =>
    Runs.proof h (by decide) (fun _ => rfl) ((d.proofWrite_take m).trans ht)
  refine ⟨?taken, ?missed, ?merged, ?periodic, ?hold, ?expired⟩
  case taken =>
    intro h hon hhold hapart
    obtain ⟨hactive, hother, -⟩ := d.banks_takeProof (2 ^ 0)
    obtain ⟨hmem, hkeys⟩ := d.takeProof_store (2 ^ 0)
    exact ⟨_, takes h (Dev.proofTrigger_taken hon hhold hapart), hactive, hother, d.seq_takeProof (2 ^ 0), d.taken_takeProof (2 ^ 0),
      hmem, hkeys⟩
  case missed =>
    intro h hon hhold hapart hfirst
    obtain ⟨hregs, hproof⟩ := Dev.missProof_first hfirst
    obtain ⟨hmem, hkeys⟩ := d.missProof_store
    exact ⟨_, takes h (Dev.proofTrigger_held hon hhold hapart.1), hregs, hproof, hmem, hkeys⟩
  case merged =>
    exact fun h hon hcopy hauto => takes h (Dev.proofTrigger_regMerged hon hcopy hauto)
  case periodic =>
    intro hlive hon hhold hapart hdue
    obtain ⟨hactive, hother, -⟩ := d.banks_takeProof (2 ^ 3)
    have htaken := Dev.proofPeriodic_due hdue
    rw [Dev.proofTrigger_taken hon hhold hapart] at htaken
    exact ⟨_, Runs.live hlive (fun _ => rfl) htaken, congrArg Bank.seq hactive, congrArg Bank.copy hactive, hother, rfl⟩
  case hold =>
    intro h w
    obtain ⟨hmem, hkeys⟩ := d.holdWrite_store m w
    exact ⟨_, Runs.proof h (by decide) (fun _ => rfl) (d.proofWrite_hold m w), d.reg_holdWrite m, d.active_holdWrite m w,
      hmem, hkeys⟩
  case expired =>
    exact fun hlive hhold hlate => Runs.live hlive (fun _ => rfl) (Dev.holdExpired_late hhold hlate)

end Sys2Proof.Machine
end

section
/-!
PROOFS. Firing and the whitelist (R88, R89, R96, R101): a slot by how many actions it finds, and a write of WL_ADDR by the entry that it
would leave.
-/
namespace Sys2Proof.Machine

/-! ## Bits that a mask leaves -/

/-- A bit that the mask has reads as in the word. -/
theorem bitAt_and_mask {n mask b : Nat} (h : bitAt mask b = true) : bitAt (n &&& mask) b = bitAt n b := by
  rw [bitAt_eq_testBit] at h
  rw [bitAt_eq_testBit, bitAt_eq_testBit, Nat.testBit_and, h, Bool.and_true]

/-- Low bits that the mask has read as in the word. -/
theorem bitsOf_low_and_mask {n mask w : Nat} (h : mask % 2 ^ w = 2 ^ w - 1) : bitsOf (n &&& mask) 0 w = bitsOf n 0 w := by
  simp only [bitsOf, Nat.shiftRight_zero]
  rw [Nat.and_mod_two_pow, h, Nat.and_two_pow_sub_one_eq_mod, Nat.mod_mod]

namespace Dev

/-! ## Slots (R88, R89, R101) -/

/-- The galley with the actions of a slot taken from it. -/
def slotTaken (d : Dev) : Dev := { d with gal := { d.gal with due := [], deferred := [] } }

theorem galleySlot_stopped {d : Dev} (h : d.tbActive = 0) : d.galleySlot = d := if_pos h

/-- A galley that runs fires the first 16 actions of a slot, and defers the others. -/
theorem galleySlot_running {d : Dev} (htb : d.tbActive ≠ 0) (hrun : d.gal.running = true) : d.galleySlot =
    (d.slotTaken.deferList ((d.gal.deferred ++ d.gal.due).drop 16) (d.gal.deferred.length - 16)).fireList
      ((d.gal.deferred ++ d.gal.due).take 16) :=
  (if_neg htb).trans (if_pos hrun)

/-- A slot of at most 16 actions fires them all. -/
theorem galleySlot_within {d : Dev} (htb : d.tbActive ≠ 0) (hrun : d.gal.running = true)
    (hfew : d.gal.deferred.length + d.gal.due.length ≤ 16) :
    d.galleySlot = d.slotTaken.fireList (d.gal.deferred ++ d.gal.due) := by
  have hlen : (d.gal.deferred ++ d.gal.due).length ≤ 16 := by rwa [List.length_append]
  rw [galleySlot_running htb hrun, List.drop_eq_nil_of_le hlen, List.take_of_length_le hlen, deferList]

/-- A galley disabled on this clock fires what was due, and defers nothing. -/
theorem galleySlot_disabled {d : Dev} (htb : d.tbActive ≠ 0) (hoff : d.gal.running = false) :
    d.galleySlot = d.slotTaken.fireList (d.gal.due.take 16) :=
  (if_neg htb).trans (if_neg (by simp [hoff]))

/-! ## Writes of the page -/

/-- A write of a block-specific register of GALLEY is the galley's. -/
theorem regWrite_galley (d : Dev) (m : Master) {ofs : Nat} (h : 0x100 ≤ ofs ∧ ofs < 0x800) (w : Word) (f : WriteFacts) :
    d.regWrite m .galley 0 ofs w f = d.galleyWrite m ofs w := by
  have hhdr : ¬ ofs < 0x100 := by omega
  simp [regWrite, hhdr, h.2, blockWrite]

theorem galleyWrite_wlAddr (d : Dev) (m : Master) (i : Fin 32) (w : Word) :
    d.galleyWrite m (R.GALLEY.WL_ADDR + 4 * i.val) w = d.whitelistWrite m (R.GALLEY.WL_ADDR + 4 * i.val) w := by
  have hne : R.GALLEY.WL_ADDR + 4 * i.val ≠ R.GALLEY.IMPOSE := by
    unfold R.GALLEY.WL_ADDR R.GALLEY.IMPOSE; omega
  have hin : R.GALLEY.WL_ADDR ≤ R.GALLEY.WL_ADDR + 4 * i.val ∧ R.GALLEY.WL_ADDR + 4 * i.val < R.GALLEY.WL_FIELD + 128 := by
    unfold R.GALLEY.WL_ADDR R.GALLEY.WL_FIELD; omega
  simp only [galleyWrite, hne, hin, if_false, and_self, if_true]

/-! ## The whitelist (R96) -/

/-- Whether entry `i` may stand with the word `w` in WL_ADDR and its present WL_FIELD. -/
def wlStands (d : Dev) (i : Nat) (w : Word) : Bool :=
  let f := (d.reg (pg .galley) (R.GALLEY.WL_FIELD + 4 * i)).toNat
  d.wlNames (bitsOf w.toNat 0 20) (bitsOf f 0 5) (bitsOf f 8 5)

/-- A new word for WL_ADDR of an unlocked page: refused where it would leave VALID on an entry that may not stand. -/
theorem whitelistWrite_addr {d : Dev} {i : Fin 32} {w : Word} (m : Master) (hlock : d.lockSet (pg .galley) = false)
    (hnew : d.reg (pg .galley) (R.GALLEY.WL_ADDR + 4 * i.val) ≠ (w &&& 0x800FFFFF#32)) :
    d.whitelistWrite m (R.GALLEY.WL_ADDR + 4 * i.val) w =
      if bitAt w.toNat 31 && !d.wlStands i.val w then d.refuse m (pg .galley) (R.GALLEY.WL_ADDR + 4 * i.val)
      else d.setReg (pg .galley) (R.GALLEY.WL_ADDR + 4 * i.val) (w &&& 0x800FFFFF#32) := by
  have honAddr : R.GALLEY.WL_ADDR + 4 * i.val < R.GALLEY.WL_FIELD := by
    unfold R.GALLEY.WL_ADDR R.GALLEY.WL_FIELD; omega
  have hindex : (R.GALLEY.WL_ADDR + 4 * i.val - R.GALLEY.WL_ADDR) / 4 = i.val := by omega
  have hword : BitVec.ofNat 32 (w.toNat &&& 0x800FFFFF) = w &&& 0x800FFFFF#32 := by
    apply BitVec.eq_of_toNat_eq
    rw [BitVec.toNat_ofNat, BitVec.toNat_and]
    exact Nat.mod_eq_of_lt (Nat.and_lt_two_pow _ (by decide))
  have hvalid : bitAt (w.toNat &&& 0x800FFFFF) 31 = bitAt w.toNat 31 := bitAt_and_mask (by decide)
  have haddr : bitsOf (w.toNat &&& 0x800FFFFF) 0 20 = bitsOf w.toNat 0 20 := bitsOf_low_and_mask (by decide)
  simp only [whitelistWrite, honAddr, decide_true, if_true, hindex, hword, hnew, hlock, hvalid, haddr, if_false, Bool.false_eq_true]
  rfl

end Dev

/-- A permitted write of a block-specific register of GALLEY runs as the galley's. -/
theorem Runs.galley {c : Instr} {d t : Dev} {m : Master} {ofs : Nat} {w : Word} (h : d.CanWrite m .galley 0 ofs)
    (ho : 0x100 ≤ ofs ∧ ofs < 0x800) (hc : ∀ s, exec c s = .next (s.onDev fun d => d.portWrite m .galley 0 ofs w))
    (ht : d.galleyWrite m ofs w = t) : Runs c d t.done :=
  Runs.port h (by omega) hc ((d.regWrite_galley m ho w {}).trans ht)

/-- A slot runs as the galley's, and leaves a stopped timebase's device as it is, with supply or without. -/
theorem Runs.galleySlot_stopped {d : Dev} (h : d.tbActive = 0) : Runs .galleySlot d d := by
  cases hlive : d.busLive with
  | false => exact Runs.dev (fun _ => rfl) (Dev.whenLive_neg hlive)
  | true => exact Runs.live hlive (fun _ => rfl) (Dev.galleySlot_stopped h)

/-- Settles O17: a slot by its actions and by ENABLE, and a write of WL_ADDR by its VALID bit. -/
theorem galleySlotAndWhitelistRun : Obligations.GalleySlotAndWhitelistRun := by
  unfold Obligations.GalleySlotAndWhitelistRun
  intro d
  refine ⟨?within, ?full, ?disabled, fun hstop => Runs.galleySlot_stopped hstop, ?whitelist⟩
  case within =>
    exact fun hlive htb hrun hfew => Runs.live hlive (fun _ => rfl) (Dev.galleySlot_within htb hrun hfew)
  case full =>
    exact fun hlive htb hrun _ => Runs.live hlive (fun _ => rfl) (Dev.galleySlot_running htb hrun)
  case disabled =>
    exact fun hlive htb hoff => Runs.live hlive (fun _ => rfl) (Dev.galleySlot_disabled htb hoff)
  case whitelist =>
    intro m i w h hlock hnew
    have hofs : 0x100 ≤ R.GALLEY.WL_ADDR + 4 * i.val ∧ R.GALLEY.WL_ADDR + 4 * i.val < 0x800 := by
      unfold R.GALLEY.WL_ADDR; omega
    have hwrite := (d.galleyWrite_wlAddr m i w).trans (Dev.whitelistWrite_addr m hlock hnew)
    refine ⟨fun hinvalid => ?_, fun hvalid hnames => ?_⟩
    · rw [hinvalid, Bool.false_and, if_neg Bool.false_ne_true] at hwrite
      exact ⟨_, Runs.galley h hofs (fun _ => rfl) hwrite, by simp, by simp, by simp⟩
    · have hfalls : d.wlStands i.val w = false := hnames
      rw [hvalid, hfalls] at hwrite
      exact Runs.galley h hofs (fun _ => rfl) hwrite

end Sys2Proof.Machine
end

section
/-!
PROOFS. Impose requests and their scan (R90, R91, R93): what a request, a cancel and the end of a scan leave of the sheet's pending request,
of the queue of scans and of IMPOSE_STATUS.
-/
namespace Sys2Proof.Machine

/-- An element of a vector after it has been changed. -/
theorem vget_vmod_self {α : Type} {k : Nat} (v : Vector α k) {i : Nat} (h : i < k) (f : α → α) (x : α) :
    vget (vmod v i f) i x = f (vget v i x) := by
  simp [vget, vmod, h]

/-- The queue of scans with a request of sheet `n`: a scan of the sheet that is under way begins anew, and one that waits is put
last (R93). -/
def scansWith (q : List Nat) (n : Nat) : List Nat := if q.head? = some n then q else q.filter (fun s => s != n) ++ [n]

theorem mem_scansWith (q : List Nat) (n : Nat) : n ∈ scansWith q n := by
  unfold scansWith
  split
  case isTrue hhead => exact List.mem_of_head? hhead
  case isFalse => simp

namespace Dev

/-! ## Results and pending requests (R91, R93) -/

theorem gal_done (d : Dev) : d.done.gal = d.gal := rfl
theorem mem_done (d : Dev) : d.done.mem = d.mem := rfl
theorem pendingOf_done (d : Dev) (n : Nat) : d.done.pendingOf n = d.pendingOf n := rfl

theorem pendingOf_of_gal {d e : Dev} (h : e.gal = d.gal) (n : Nat) : e.pendingOf n = d.pendingOf n := by
  simp only [pendingOf, h]

@[simp] theorem gal_imposeResult (d : Dev) (r : Nat) : (d.imposeResult r).gal = d.gal := by simp [imposeResult]

theorem result_imposeResult (d : Dev) (r : Nat) : (d.imposeResult r).fld (pg .galley) F.GALLEY.IMPOSE_STATUS_RESULT = r % 16 :=
  fld_setFld_self d _ _ r (by decide)

@[simp] theorem gal_imposeFail (d : Dev) (r bad : Nat) : (d.imposeFail r bad).gal = d.gal := by simp [imposeFail]

/-- What a refused request, or one that its scan refuses, shows. -/
theorem imposeFail_spec (d : Dev) (r bad : Nat) :
    (d.imposeFail r bad).fld (pg .galley) F.GALLEY.IMPOSE_STATUS_RESULT = r % 16 ∧
      (d.imposeFail r bad).reg (pg .galley) R.GALLEY.IMPOSE_BAD = BitVec.ofNat 32 bad ∧
      (d.imposeFail r bad).flag (pg .galley) F.GALLEY.EVENT_IMPOSE_FAIL = true := by
  unfold imposeFail
  refine ⟨?result, ?bad, flag_event_self _ _ _ (by decide) (by decide)⟩
  case result =>
    rw [fld_event_other _ _ _ _ _ (by decide), fld_setReg_other _ _ _ _ _ _ _ (by decide), result_imposeResult]
  case bad => rw [reg_event_other _ _ _ _ _ _ (by decide), reg_setReg_self]

/-- A sheet's pending request and the queue of scans after they have been set. -/
theorem pendingOf_setPending_self (d : Dev) {n : Nat} (h : n < 16) (r : Option ImposeReq) : (d.setPending n r).pendingOf n = r := by
  simp only [pendingOf, setPending, setFld_frame]
  exact vget_vmod_self _ h _ _

@[simp] theorem scanQ_setPending (d : Dev) (n : Nat) (r : Option ImposeReq) : (d.setPending n r).gal.scanQ = d.gal.scanQ := by
  simp [setPending]

@[simp] theorem scanQ_setScans (d : Dev) (q : List Nat) : (d.setScans q).gal.scanQ = q := rfl

@[simp] theorem pendingOf_setScans (d : Dev) (q : List Nat) (n : Nat) : (d.setScans q).pendingOf n = d.pendingOf n := by
  simp [pendingOf, setScans]

/-! ## A request (R91, R93) -/

/-- IMPOSE_STATUS names the sheet that a request is for. -/
def asked (d : Dev) (n : Nat) : Dev := d.setFld (pg .galley) F.GALLEY.IMPOSE_STATUS_LAST_SHEET n

@[simp] theorem asked_frame (d : Dev) (n : Nat) : (d.asked n).gal = d.gal ∧ (d.asked n).mem = d.mem := by simp [asked]

@[simp] theorem pendingOf_asked (d : Dev) (n s : Nat) : (d.asked n).pendingOf s = d.pendingOf s :=
  pendingOf_of_gal (d.asked_frame n).1 s

/-- The live ranges stand in other registers than IMPOSE_STATUS. -/
@[simp] theorem sheetRange_asked (d : Dev) (n s : Nat) : (d.asked n).sheetRange s = d.sheetRange s := by
  have hkey : regKey (pg .galley) (R.GALLEY.SHEET_RANGE + 4 * s) ≠ regKey (pg .galley) R.GALLEY.IMPOSE_STATUS := by
    rw [ne_eq, regKey_ofs, R.GALLEY.SHEET_RANGE, R.GALLEY.IMPOSE_STATUS]
    omega
  have hother := fun f : Fld => fld_setFld_other d (pg .galley) F.GALLEY.IMPOSE_STATUS_LAST_SHEET n (pg .galley) f
  exact Prod.ext (hother (F.GALLEY.SHEET_RANGE_BASE.at s) (.inl hkey)) (hother (F.GALLEY.SHEET_RANGE_LEN.at s) (.inl hkey))

/-- The range that a master's NEXT_RANGE holds. -/
def nextRange (d : Dev) (bank : Nat) : Nat × Nat :=
  let rg := (d.reg (pg .galley) R.GALLEY.NEXT_RANGE bank).toNat
  (bitsOf rg 0 14, bitsOf rg 16 15)

/-- The request that a master's NEXT_RANGE and NEXT_DIV hold. -/
def nextRequest (d : Dev) (bank : Nat) : ImposeReq :=
  ⟨(d.nextRange bank).1, (d.nextRange bank).2, bitsOf (d.reg (pg .galley) R.GALLEY.NEXT_DIV bank).toNat 0 16, false⟩

/-- A range meets a live range, or the range of another sheet's pending request (R91). -/
def rangeClash (d : Dev) (n : Nat) (rg : Nat × Nat) : Bool :=
  (List.range 16).any (fun s => overlap rg (d.sheetRange s) ||
    (s != n && ((d.pendingOf s).map (fun r => overlap rg (r.base, r.len))).getD false))

theorem rangeClash_free {d : Dev} {n : Nat} {rg : Nat × Nat}
    (h : ∀ s < 16, overlap rg (d.sheetRange s) = false ∧ d.pendingOf s = none) : d.rangeClash n rg = false := by
  refine List.any_eq_false.mpr fun s hs => ?_
  obtain ⟨hlive, hnone⟩ := h s (List.mem_range.mp hs)
  simp [hlive, hnone]

theorem rangeClash_asked (d : Dev) (n : Nat) (rg : Nat × Nat) : (d.asked n).rangeClash n rg = d.rangeClash n rg := by
  simp [rangeClash]

/-- An accepted request: pending, with its scan in the queue. -/
def imposeTaken (d : Dev) (n : Nat) (r : ImposeReq) : Dev :=
  (((d.asked n).setPending n (some r)).setScans (scansWith d.gal.scanQ n)).imposeResult 0x1

/-- A request by the key's holder, in the order of its checks. -/
theorem impose_eq (d : Dev) (n bank : Nat) : d.impose n bank true =
    if 16384 < (d.nextRange bank).1 + (d.nextRange bank).2 then (d.asked n).imposeFail 0x2 0
    else if (d.asked n).rangeClash n (d.nextRange bank) then (d.asked n).imposeFail 0x3 0
    else d.imposeTaken n (d.nextRequest bank) := by
  simp only [impose, Bool.not_true, Bool.false_eq_true, if_false]
  rfl

theorem impose_noKey (d : Dev) (n bank : Nat) : d.impose n bank false = (d.asked n).imposeFail 0x8 0 := by
  simp only [impose, Bool.not_false, if_true]
  rfl

theorem impose_outside {d : Dev} {bank : Nat} (n : Nat) (h : 16384 < (d.nextRange bank).1 + (d.nextRange bank).2) :
    d.impose n bank true = (d.asked n).imposeFail 0x2 0 := (d.impose_eq n bank).trans (if_pos h)

theorem impose_accepted {d : Dev} {n bank : Nat} (h : (d.nextRange bank).1 + (d.nextRange bank).2 ≤ 16384)
    (hfree : d.rangeClash n (d.nextRange bank) = false) : d.impose n bank true = d.imposeTaken n (d.nextRequest bank) := by
  rw [impose_eq, if_neg (Nat.not_lt.mpr h), rangeClash_asked, hfree, if_neg Bool.false_ne_true]

theorem imposeTaken_spec (d : Dev) {n : Nat} (h : n < 16) (r : ImposeReq) :
    (d.imposeTaken n r).fld (pg .galley) F.GALLEY.IMPOSE_STATUS_RESULT = 0x1 ∧ (d.imposeTaken n r).pendingOf n = some r ∧
      n ∈ (d.imposeTaken n r).gal.scanQ ∧ (d.imposeTaken n r).mem = d.mem := by
  unfold imposeTaken
  refine ⟨result_imposeResult _ _, ?pending, ?queued, by simp⟩
  case pending => rw [pendingOf_of_gal (gal_imposeResult _ _), pendingOf_setScans, pendingOf_setPending_self _ h]
  case queued =>
    rw [gal_imposeResult, scanQ_setScans]
    exact mem_scansWith _ _

/-! ## A cancel (R93) -/

/-- A pending request taken back, with its scan. -/
def imposeWithdrawn (d : Dev) (n : Nat) : Dev :=
  (((d.asked n).setPending n none).setScans (d.gal.scanQ.filter (fun s => s != n))).imposeResult 0xA

theorem imposeCancel_pending {d : Dev} {n : Nat} (h : (d.pendingOf n).isSome = true) :
    d.imposeCancel n true = d.imposeWithdrawn n := by
  have hsome : ((d.asked n).pendingOf n).isNone = false := by
    rw [pendingOf_asked, Option.isNone_eq_false_iff]
    exact h
  rw [asked] at hsome
  simp only [imposeCancel, hsome, Bool.not_true, Bool.false_eq_true, if_false]
  rfl

theorem imposeWithdrawn_spec (d : Dev) {n : Nat} (h : n < 16) :
    (d.imposeWithdrawn n).fld (pg .galley) F.GALLEY.IMPOSE_STATUS_RESULT = 0xA ∧ (d.imposeWithdrawn n).pendingOf n = none ∧
      n ∉ (d.imposeWithdrawn n).gal.scanQ ∧ (d.imposeWithdrawn n).mem = d.mem := by
  unfold imposeWithdrawn
  refine ⟨result_imposeResult _ _, ?pending, ?queued, by simp⟩
  case pending => rw [pendingOf_of_gal (gal_imposeResult _ _), pendingOf_setScans, pendingOf_setPending_self _ h]
  case queued => simp

/-! ## The scan (R91) -/

/-- The checks of an entry read the device for the VALID bits of the whitelist alone. -/
theorem targetOk_of_wlValid {d e : Dev} (h : ∀ i, e.wlValid i = d.wlValid i) (code target : Nat) :
    e.targetOk code target = d.targetOk code target := by
  simp only [targetOk, h]

theorem scanFrom_of_wlValid {d e : Dev} (h : ∀ i, e.wlValid i = d.wlValid i) (m : Mem) (fl : List EntryFlaw) (n i prev : Nat) :
    e.scanFrom m fl n i prev = d.scanFrom m fl n i prev := by
  induction n generalizing i prev with
  | zero => rfl
  | succ n ih => simp only [scanFrom, targetOk_of_wlValid h, ih]

/-- SCANNING stands in another register than the whitelist. -/
theorem wlValid_setScans (d : Dev) (q : List Nat) (i : Nat) : (d.setScans q).wlValid i = d.wlValid i := by
  have hregs : (d.setScans q).regs = (d.setFlag (pg .galley) F.GALLEY.IMPOSE_STATUS_SCANNING (!q.isEmpty)).regs := by
    simp only [setScans]
  have hkey : regKey (pg .galley) (F.GALLEY.WL_ADDR_VALID.at i).ofs ≠ regKey (pg .galley) F.GALLEY.IMPOSE_STATUS_SCANNING.ofs := by
    simp only [ne_eq, regKey_ofs, Fld.at, F.GALLEY.WL_ADDR_VALID, F.GALLEY.IMPOSE_STATUS_SCANNING]
    omega
  unfold wlValid
  rw [flag_of_regs hregs]
  exact flag_setFlag_other d _ _ _ _ _ (.inl hkey)

/-- The entries of a range up to `hi` that a scan has corrected are counted (R84). -/
def scanCounted (d : Dev) (fl : List EntryFlaw) (r : ImposeReq) (hi : Nat) : Dev :=
  d.bump (pg .galley) R.GALLEY.ECC_CORRECTED (corrected fl r.base hi)

@[simp] theorem scanCounted_frame (d : Dev) (fl : List EntryFlaw) (r : ImposeReq) (hi : Nat) :
    (d.scanCounted fl r hi).gal = d.gal ∧ (d.scanCounted fl r hi).mem = d.mem := by simp [scanCounted]

section Scans
variable {d : Dev} {n : Nat} {q : List Nat} {r : ImposeReq} (hscan : d.gal.scanQ = n :: q) (hpend : d.pendingOf n = some r)
include hscan hpend

/-- A scan that finds no fault leaves the request to the next boundary (R92). -/
theorem scanDone_passed {m : Mem} {fl : List EntryFlaw} (h : d.scanFrom m fl r.len r.base 0 = none) : d.scanDone m fl =
    (if r.len = 0 then d.setScans q else (d.setScans q).scanCounted fl r (r.base + r.len - 1)).setPending n
      (some { r with passed := true }) := by
  have hresult : (d.setScans q).scanFrom m fl r.len r.base 0 = none :=
    (scanFrom_of_wlValid (d.wlValid_setScans q) m fl _ _ _).trans h
  simp only [scanDone, hscan, hpend, hresult]
  rfl

/-- One that finds a fault removes it. -/
theorem scanDone_failed {m : Mem} {fl : List EntryFlaw} {res bad : Nat} (h : d.scanFrom m fl r.len r.base 0 = some (res, bad)) :
    d.scanDone m fl = (((d.setScans q).scanCounted fl r bad).setPending n none).imposeFail res bad := by
  have hresult : (d.setScans q).scanFrom m fl r.len r.base 0 = some (res, bad) :=
    (scanFrom_of_wlValid (d.wlValid_setScans q) m fl _ _ _).trans h
  simp only [scanDone, hscan, hpend, hresult]
  rfl

end Scans

/-! ## Writes of IMPOSE (R90) -/

theorem galleyWrite_impose (d : Dev) (m : Master) (n : Fin 16) :
    d.galleyWrite m R.GALLEY.IMPOSE (BitVec.ofNat 32 (n.val + 0x10)) = d.impose n.val m.cls (d.keyHeldBy m (0x2CC + n.val)) := by
  have hsheet : ∀ n : Fin 16, bitsOf (BitVec.ofNat 32 (n.val + 0x10)).toNat 0 4 = n.val := by decide
  have hop : ∀ n : Fin 16, bitsOf (BitVec.ofNat 32 (n.val + 0x10)).toNat 4 2 = 1 := by decide
  simp only [galleyWrite, hsheet, hop, if_true]

theorem galleyWrite_imposeCancel (d : Dev) (m : Master) (n : Fin 16) :
    d.galleyWrite m R.GALLEY.IMPOSE (BitVec.ofNat 32 (n.val + 0x20)) = d.imposeCancel n.val (d.keyHeldBy m (0x2CC + n.val)) := by
  have hsheet : ∀ n : Fin 16, bitsOf (BitVec.ofNat 32 (n.val + 0x20)).toNat 0 4 = n.val := by decide
  have hop : ∀ n : Fin 16, bitsOf (BitVec.ofNat 32 (n.val + 0x20)).toNat 4 2 = 2 := by decide
  simp only [galleyWrite, hsheet, hop, if_true]

end Dev

/-- Settles O16: a request by its first failing check, a cancel, and the end of a scan by what it found. -/
theorem imposeAndScanRun : Obligations.ImposeAndScanRun := by
  unfold Obligations.ImposeAndScanRun
  intro d m n
  have requests : ∀ {key t}, d.CanWrite m .galley 0 R.GALLEY.IMPOSE → d.keyHeldBy m (0x2CC + n.val) = key →
      d.impose n.val m.cls key = t → Runs (.impose m n) d t.done := fun h hkey ht =>
    Runs.galley h (by decide) (fun _ => rfl) ((d.galleyWrite_impose m n).trans (by rw [hkey, ht]))
  refine ⟨?noKey, ?outside, ?accepted, ?cancelled, ?scanned⟩
  case noKey =>
    intro h hkey
    obtain ⟨hresult, -, hevent⟩ := (d.asked n.val).imposeFail_spec 0x8 0
    refine ⟨_, requests h hkey (d.impose_noKey n.val m.cls), ?_⟩
    rw [Dev.fld_done, Dev.flag_done]
    exact ⟨hresult, hevent, by simp, by simp⟩
  case outside =>
    intro h hkey hrange
    obtain ⟨hresult, -, hevent⟩ := (d.asked n.val).imposeFail_spec 0x2 0
    refine ⟨_, requests h hkey (Dev.impose_outside n.val hrange), ?_⟩
    rw [Dev.fld_done, Dev.flag_done]
    exact ⟨hresult, hevent, by simp, by simp⟩
  case accepted =>
    intro h hkey hrange hfree
    refine ⟨_, requests h hkey (Dev.impose_accepted hrange (Dev.rangeClash_free hfree)), ?_⟩
    rw [Dev.fld_done, Dev.pendingOf_done, Dev.gal_done, Dev.mem_done]
    exact d.imposeTaken_spec n.isLt (d.nextRequest m.cls)
  case cancelled =>
    intro h hkey hpend
    have hcancel := d.galleyWrite_imposeCancel m n
    rw [hkey, Dev.imposeCancel_pending hpend] at hcancel
    refine ⟨_, Runs.galley h (by decide) (fun _ => rfl) hcancel, ?_⟩
    rw [Dev.fld_done, Dev.pendingOf_done, Dev.gal_done, Dev.mem_done]
    exact d.imposeWithdrawn_spec n.isLt
  case scanned =>
    intro fl r q hlive hscan hpend
    refine ⟨fun hpass => ?_, fun res bad hfail => ?_⟩
    · refine ⟨_, Runs.live hlive (fun _ => rfl) (Dev.scanDone_passed hscan hpend hpass), ?_,
        Dev.pendingOf_setPending_self _ n.isLt _, ?_⟩
      · split <;> simp
      · split <;> simp
    · obtain ⟨hresult, hbad, hevent⟩ := (((d.setScans q).scanCounted fl r bad).setPending n.val none).imposeFail_spec res bad
      refine ⟨_, Runs.live hlive (fun _ => rfl) (Dev.scanDone_failed hscan hpend hfail), by simp, ?_, hbad, hresult, hevent, by simp⟩
      rw [Dev.pendingOf_of_gal (Dev.gal_imposeFail _ _ _), Dev.pendingOf_setPending_self _ n.isLt]

end Sys2Proof.Machine
end

section
/-!
PROOFS. What the stop of the stages leaves alone (R123, R141, R188, R401): the boot ROM's own state, and every page below those of the
stages.
-/
namespace Sys2Proof.Machine
namespace Dev

/-! ## What lies apart from the stages -/

/-- The boot ROM's own state, and the registers of the pages below those of the gauge, of DISCH, of the groups and of the tiles. -/
def offStage (d : Dev) : BootS × (Fin 0x24 → Fin 0x1000 → Word) := (d.boot, fun p => d.pageRegs p)

theorem boot_of_offStage {d e : Dev} (h : e.offStage = d.offStage) : e.boot = d.boot := congrArg Prod.fst h

theorem pageRegs_of_offStage {d e : Dev} (h : e.offStage = d.offStage) {p : Nat} (hp : p < 0x24) : e.pageRegs p = d.pageRegs p :=
  congrFun (congrArg Prod.snd h) ⟨p, hp⟩

/-- A page of the stages. -/
abbrev StagePage (p : Nat) : Prop := 0x24 ≤ p

theorem stagePage_tile (n : Nat) : StagePage (pg .tile n) := Nat.le_add_right_of_le (by decide)
theorem stagePage_conv (n : Nat) : StagePage (pg .conv n) := Nat.le_add_right_of_le (by decide)

theorem offStage_setReg (d : Dev) {q o : Nat} (v : Word) (hq : StagePage q) (ho : o < 0x1000) :
    (d.setReg q o v).offStage = d.offStage := by
  refine Prod.ext (by simp [offStage]) (funext fun p => pageRegs_setReg d v ⟨?_, ho⟩)
  exact Nat.ne_of_lt (Nat.lt_of_lt_of_le p.isLt hq)

theorem offStage_setFld (d : Dev) {q : Nat} {f : Fld} (v : Nat) (hq : StagePage q) (ho : f.ofs < 0x1000) :
    (d.setFld q f v).offStage = d.offStage := offStage_setReg d _ hq ho

theorem offStage_setFlag (d : Dev) {q : Nat} {f : Fld} (b : Bool) (hq : StagePage q) (ho : f.ofs < 0x1000) :
    (d.setFlag q f b).offStage = d.offStage := offStage_setFld d _ hq ho

theorem offStage_event (d : Dev) {q : Nat} {f : Fld} (hq : StagePage q) (ho : f.ofs < 0x1000) :
    (d.event q f).offStage = d.offStage := offStage_setFld d 1 hq ho

theorem offStage_bump (d : Dev) {q o : Nat} (n : Nat) (hq : StagePage q) (ho : o < 0x1000) :
    (d.bump q o n).offStage = d.offStage := offStage_setReg d _ hq ho

@[simp] theorem offStage_ite (c : Prop) [Decidable c] (a b : Dev) :
    (if c then a else b).offStage = if c then a.offStage else b.offStage := apply_ite offStage _ _ _

@[simp] theorem offStage_modTile (d : Dev) (n : Nat) (f : TileS → TileS) : (d.modTile n f).offStage = d.offStage := rfl
@[simp] theorem offStage_modConv (d : Dev) (n : Nat) (f : ConvS → ConvS) : (d.modConv n f).offStage = d.offStage := rfl
@[simp] theorem offStage_modGauge (d : Dev) (f : GaugeS → GaugeS) : (d.modGauge f).offStage = d.offStage := rfl
@[simp] theorem offStage_withDisch (d : Dev) (x : DischS) : ({ d with disch := x } : Dev).offStage = d.offStage := rfl

/-! ## The stop of a tile (R123) -/

@[simp] theorem offStage_cutPulse (d : Dev) (n : Nat) (c : Cmp) (x : Nat) : (d.cutPulse n c x).offStage = d.offStage := by
  simp only [cutPulse]
  split
  · rfl
  · simp

@[simp] theorem offStage_blankFrom (d : Dev) (n : Nat) (o : Out) (x : Nat) (c : Cmp) :
    (d.blankFrom n o x c).offStage = d.offStage := by
  simp [blankFrom]

@[simp] theorem offStage_levelAt (d : Dev) (n : Nat) (o : Out) (x : Nat) (c : Cmp) : (d.levelAt n o x c).offStage = d.offStage := by
  simp [levelAt]

@[simp] theorem offStage_rise (d : Dev) (n : Nat) (o : Out) (i : Interval) : (d.rise n o i).offStage = d.offStage := by
  simp only [rise]
  split
  · rw [offStage_modTile, offStage_event _ (stagePage_tile n) (by decide), offStage_bump _ _ (stagePage_tile n) (by decide),
      offStage_modTile]
  · simp

@[simp] theorem offStage_rises (d : Dev) (n x k : Nat) : (d.rises n x k).offStage = d.offStage := by
  induction k generalizing d with
  | zero => rfl
  | succ k ih =>
    simp only [rises]
    split
    · rfl
    · rw [ih, offStage_rise]

@[simp] theorem offStage_outputsLow (d : Dev) (n : Nat) : (d.outputsLow n).offStage = d.offStage := by
  simp only [outputsLow, takeTable, offStage_modTile]
  split
  · rfl
  · rw [offStage_modTile, offStage_setFld _ _ (stagePage_tile n) (by decide)]

@[simp] theorem offStage_killTile (d : Dev) (n : Nat) (cause : TileS → TileS) : (d.killTile n cause).offStage = d.offStage := by
  simp only [killTile]
  split
  · rfl
  · rw [offStage_modTile, offStage_setFld _ _ (stagePage_tile n) (by decide)]
    simp [stopNow, tileAdvance]

/-! ## The stop of a group (R141) -/

@[simp] theorem offStage_fitResult (d : Dev) (code : Nat) : (d.fitResult code).offStage = d.offStage := by
  simp (disch := decide) [fitResult, offStage_event, offStage_bump, offStage_setFld]

/-- An aborted probe step records its fit as aborted, or as outside RUN (R294). -/
@[simp] theorem offStage_gaugeProbeEnd_aborted (d : Dev) (g : Nat) : (d.gaugeProbeEnd g true).offStage = d.offStage := by
  simp only [gaugeProbeEnd]
  split
  · rfl
  · simp

@[simp] theorem offStage_abortProbe (d : Dev) (g : Nat) : (d.abortProbe g).offStage = d.offStage := by
  simp only [abortProbe]
  split
  · rw [offStage_gaugeProbeEnd_aborted, offStage_modConv, offStage_setFlag _ _ (stagePage_conv g) (by decide),
      offStage_setReg _ _ (stagePage_conv g) (by decide), offStage_bump _ _ (stagePage_conv g) (by decide),
      offStage_event _ (stagePage_conv g) (by decide)]
  · rfl

@[simp] theorem offStage_endCirc (d : Dev) (g : Nat) : (d.endCirc g).offStage = d.offStage := by
  simp (disch := decide) [endCirc, offStage_setFld]

@[simp] theorem offStage_endRun (d : Dev) (g : Nat) : (d.endRun g).offStage = d.offStage := by
  simp [endRun, cleanPause]

@[simp] theorem offStage_wantTiles (d : Dev) (g : Nat) (w : Want) : (d.wantTiles g w).offStage = d.offStage :=
  each_keeps offStage d _ _ fun _ _ _ => rfl

@[simp] theorem offStage_clearGo (d : Dev) (n : Nat) : (d.clearGo n).offStage = d.offStage := by
  have hgo := offStage_setFlag d (f := F.CONV.GROUP_CTRL_GO) false (stagePage_conv n) (by decide)
  simp only [clearGo, enterStopped]
  split
  · exact hgo
  · rw [offStage_setFlag _ _ (stagePage_conv n) (by decide), offStage_setFld _ _ (stagePage_conv n) (by decide), offStage_wantTiles,
      offStage_endRun, hgo]

/-! ## DISCH (R188, R190) -/

@[simp] theorem offStage_driveDisch (d : Dev) (on : Bool) : (d.driveDisch on).offStage = d.offStage := by
  simp only [driveDisch, offStage_withDisch, offStage_ite]
  rw [offStage_setFlag _ _ (by decide) (by decide), ite_self]

@[simp] theorem offStage_dischOn (d : Dev) (trig : Nat) (guard byStart : Bool) : (d.dischOn trig guard byStart).offStage = d.offStage := by
  have hmark : (d.dischMarked trig guard).offStage = d.offStage := by
    simp only [dischMarked, offStage_ite, offStage_withDisch]
    rw [offStage_setFld _ _ (by decide) (by decide), ite_self]
  rw [dischOn_eq]
  split
  · exact hmark
  · simp only [dischStarted, offStage_withDisch, offStage_driveDisch]
    rw [offStage_setFld _ _ (by decide) (by decide), hmark]

/-! ## Every stage stopped -/

/-- What a SAFE reaction does to the stages (R401): the tiles killed, DISCH on, GO cleared. -/
def stagesStopped (d : Dev) : Dev :=
  ((d.each (List.range 24) fun d n => d.killTile n fun t => { t with killSafe := true }).dischOn 3 true false).each (List.range 8) clearGo

@[simp] theorem offStage_stagesStopped (d : Dev) : d.stagesStopped.offStage = d.offStage := by
  unfold stagesStopped
  rw [each_keeps offStage _ _ _ fun e n _ => offStage_clearGo e n, offStage_dischOn,
    each_keeps offStage _ _ _ fun e n _ => offStage_killTile e n _]

@[simp] theorem mem_stagesStopped (d : Dev) : d.stagesStopped.mem = d.mem := by
  simp [stagesStopped]

end Dev
end Sys2Proof.Machine
end

section
/-!
PROOFS. What a bus fault leaves (R34, R397–R402, R406, R439, R488): a page that no reaction writes keeps its registers, and memory changes
only where a SAFE reaction discards a download under way.
-/
namespace Sys2Proof.Machine
namespace Dev

/-! ## Pages that no reaction writes -/

/-- A page below those of the stages that neither a transition, nor the record of a fault, nor a discarded download writes. -/
abbrev ApartFromReactions (p : Nat) : Prop := p < 0x24 ∧ p ≠ pg .sys ∧ p ≠ pg .secboot ∧ p ≠ pg .fault

theorem pageRegs_setFault (d : Dev) {k : PageKind} {i p : Nat} (b : Nat) (cause : Word) (h : p ≠ pg k i) :
    (d.setFault k i b cause).pageRegs p = d.pageRegs p := by
  simp only [setFault, pageRegs_ite]
  rw [pageRegs_setReg _ _ ⟨h, by decide⟩, pageRegs_ite, pageRegs_setReg _ _ ⟨h, by decide⟩, ite_self, ite_self]

theorem pageRegs_transition (d : Dev) (st cause : Nat) {p : Nat} (h : p ≠ pg .sys) :
    (d.transition st cause).pageRegs p = d.pageRegs p := by
  simp only [transition]
  rw [pageRegs_setReg _ _ ⟨h, by decide⟩, pageRegs_of_regs (regs_measLost _ _)]

/-- A record is counted on the page FAULT. -/
theorem regs_record (d : Dev) (s sev : Nat) (data : Word) (rep : Bool) :
    (d.record s sev data rep).regs = (d.bump (pg .fault) R.FAULT.RAISED).regs := by
  simp only [record]
  split <;> rfl

/-- SYS.STATE after a SAFE reaction has stopped the stages and the download (R401). -/
def safeEntered (d : Dev) : Dev := if 2 ≤ d.state ∧ d.state ≤ 4 then d.transition 5 0x07 else d

/-- What a SAFE reaction notes beside the registers: the check that an event makes due, and the quiet timer (R397, R412, R416). -/
def safeSettled (d : Dev) (rep : Bool) : Dev :=
  (if rep then d else { d with fc := { d.fc with checks := d.fc.checks ++ [d.now] } }).chgReacted.restartQuiet

/-- A SAFE reaction, in the order of its parts. -/
theorem safeReaction_eq (d : Dev) (rep : Bool) :
    d.safeReaction rep = (d.stagesStopped.bootInterrupted.safeEntered).safeSettled rep := rfl

theorem regs_safeSettled (d : Dev) (rep : Bool) : (d.safeSettled rep).regs = d.regs := by
  cases rep <;> rfl

theorem mem_safeSettled (d : Dev) (rep : Bool) : (d.safeSettled rep).mem = d.mem := by
  cases rep <;> rfl

section Reactions
variable {p : Nat} (hp : ApartFromReactions p)
include hp

theorem pageRegs_record (d : Dev) (s sev : Nat) (data : Word) (rep : Bool) :
    (d.record s sev data rep).pageRegs p = d.pageRegs p := by
  obtain ⟨-, -, -, hfault⟩ := hp
  rw [pageRegs_of_regs (regs_record d s sev data rep), pageRegs_bump _ _ ⟨hfault, by decide⟩]

theorem pageRegs_haltReaction (d : Dev) : d.haltReaction.pageRegs p = d.pageRegs p := by
  obtain ⟨hoff, hsys, -, -⟩ := hp
  have hstop : (((d.chgReacted).transition 3 0x06).each (List.range 8) clearGo).pageRegs p = d.pageRegs p := by
    rw [each_keeps (pageRegs · p) _ _ _ fun e n _ => pageRegs_of_offStage (offStage_clearGo e n) hoff, pageRegs_transition _ _ _ hsys]
    rfl
  simp only [haltReaction]
  split
  · split <;> exact hstop
  · rfl

theorem pageRegs_bootInterrupted (d : Dev) : d.bootInterrupted.pageRegs p = d.pageRegs p := by
  obtain ⟨-, -, hsecboot, -⟩ := id hp
  simp only [bootInterrupted]
  split
  · rw [pageRegs_record hp, pageRegs_setFault _ _ _ hsecboot, setBootState, pageRegs_setFld _ _ ⟨hsecboot, by decide⟩,
      bootFailed, pageRegs_bump _ _ ⟨hsecboot, by decide⟩, pageRegs_setReg _ _ ⟨hsecboot, by decide⟩,
      pageRegs_setFld _ _ ⟨hsecboot, by decide⟩]
    rfl
  · rfl

theorem pageRegs_safeReaction (d : Dev) (rep : Bool) : (d.safeReaction rep).pageRegs p = d.pageRegs p := by
  obtain ⟨hoff, hsys, -, -⟩ := id hp
  rw [safeReaction_eq, pageRegs_of_regs (regs_safeSettled _ rep), safeEntered, pageRegs_ite, pageRegs_transition _ _ _ hsys, ite_self,
    pageRegs_bootInterrupted hp, pageRegs_of_offStage d.offStage_stagesStopped hoff]

theorem pageRegs_resetReaction (d : Dev) : d.resetReaction.pageRegs p = d.pageRegs p := by
  obtain ⟨-, -, -, hfault⟩ := hp
  simp only [resetReaction]
  split
  · rfl
  · rw [pageRegs_setFlag _ _ ⟨hfault, by decide⟩, pageRegs_setFlag _ _ ⟨hfault, by decide⟩]

theorem pageRegs_react (d : Dev) (sev : Nat) (rep : Bool) : (d.react sev rep).pageRegs p = d.pageRegs p := by
  obtain ⟨-, -, -, hfault⟩ := id hp
  have hevent : ∀ (e : Dev) (f : Fld), f.ofs < 0x1000 → (e.event (pg .fault) f).pageRegs p = e.pageRegs p :=
    fun e f hf => pageRegs_event e ⟨hfault, hf⟩
  have hbump : ∀ (e : Dev) (o : Nat), o < 0x1000 → (e.bump (pg .fault) o).pageRegs p = e.pageRegs p :=
    fun e o ho => pageRegs_bump e 1 ⟨hfault, ho⟩
  simp only [react]
  split
  · split <;> rfl
  · split
    · rfl
    · simp (disch := decide) only [pageRegs_ite, pageRegs_resetReaction hp, pageRegs_safeReaction hp, pageRegs_haltReaction hp,
        hevent, hbump, ite_self]

/-- A source raised on another page. -/
theorem pageRegs_raise (d : Dev) {k : PageKind} {i : Nat} (b detail : Nat) (h : p ≠ pg k i) :
    (d.raise k i b detail).pageRegs p = d.pageRegs p := by
  simp only [raise, raiseWith, actOn, Bool.false_and, Bool.or_false, Bool.false_eq_true, if_false]
  split
  · rfl
  · rw [pageRegs_react hp, pageRegs_record hp, pageRegs_setFault _ _ _ h]

theorem pageRegs_busFault (d : Dev) (m : Master) : (d.busFault m).pageRegs p = d.pageRegs p := by
  obtain ⟨-, hsys, -, -⟩ := id hp
  have hregs : (d.busFault m).regs = (d.busErr m.cls).regs := rfl
  rw [pageRegs_of_regs hregs, busErr, pageRegs_raise hp _ _ _ hsys, pageRegs_bump _ _ ⟨hsys, by decide⟩]

end Reactions

/-! ## A download under way (R439) -/

/-- What a download consists of: the device state, the boot ROM's own state, BOOT_STATUS, and memory. -/
def download (d : Dev) : Nat × BootS × Word × Mem := (d.state, d.boot, d.reg (pg .secboot) R.SECBOOT.BOOT_STATUS, d.mem)

/-- Memory after a SAFE reaction: the copied part of a download under way is cleared (R439). -/
def interruptedMem (d : Dev) : Mem := if d.state = 2 ∧ 2 ≤ d.bootState ∧ d.bootState ≤ 4 then d.bootDiscard.mem else d.mem

theorem interruptedMem_of_download {d e : Dev} (h : e.download = d.download) : e.interruptedMem = d.interruptedMem := by
  simp only [download, Prod.mk.injEq] at h
  obtain ⟨hstate, hboot, hstatus, hmem⟩ := h
  have hfld : ∀ f : Fld, f.ofs = R.SECBOOT.BOOT_STATUS → e.fld (pg .secboot) f = d.fld (pg .secboot) f := by
    intro f hf
    unfold fld
    rw [hf, hstatus]
  unfold interruptedMem bootDiscard bootState
  rw [hstate, hboot, hmem, hfld _ rfl, hfld _ rfl]

/-- Outside BOOT there is no download. -/
theorem interruptedMem_outsideBoot {d : Dev} (h : d.state ≠ 2) : d.interruptedMem = d.mem := if_neg fun hc => h hc.1

theorem download_setReg (d : Dev) {p o : Nat} (v : Word) (h : regKey (pg .sys) R.SYS.STATE ≠ regKey p o ∧
    regKey (pg .secboot) R.SECBOOT.BOOT_STATUS ≠ regKey p o) : (d.setReg p o v).download = d.download := by
  unfold download
  rw [state_setReg _ _ _ _ _ h.1, reg_setReg_other _ h.2]
  simp

theorem download_event (d : Dev) {p : Nat} {f : Fld} (h : regKey (pg .sys) R.SYS.STATE ≠ regKey p f.ofs ∧
    regKey (pg .secboot) R.SECBOOT.BOOT_STATUS ≠ regKey p f.ofs) : (d.event p f).download = d.download := download_setReg d _ h

theorem download_bump (d : Dev) {p o : Nat} (h : regKey (pg .sys) R.SYS.STATE ≠ regKey p o ∧
    regKey (pg .secboot) R.SECBOOT.BOOT_STATUS ≠ regKey p o) : (d.bump p o).download = d.download := download_setReg d _ h

theorem download_ite (c : Prop) [Decidable c] (a b : Dev) : (if c then a else b).download = if c then a.download else b.download :=
  apply_ite download _ _ _

theorem download_of_offStage {d e : Dev} (h : e.offStage = d.offStage) (hmem : e.mem = d.mem) : e.download = d.download := by
  unfold download
  rw [state_of_pageRegs (pageRegs_of_offStage h (by decide)), boot_of_offStage h,
    reg_of_pageRegs (pageRegs_of_offStage h (by decide)) (by decide), hmem]

theorem mem_bootInterrupted (d : Dev) : d.bootInterrupted.mem = d.interruptedMem := by
  simp only [bootInterrupted, interruptedMem]
  split
  · simp [bootFailed, setBootState]
  · rfl

/-! ## Memory after a reaction -/

theorem mem_safeReaction (d : Dev) (rep : Bool) : (d.safeReaction rep).mem = d.interruptedMem := by
  have hentered : d.stagesStopped.bootInterrupted.safeEntered.mem = d.stagesStopped.bootInterrupted.mem := by
    simp [safeEntered]
  rw [safeReaction_eq, mem_safeSettled, hentered, mem_bootInterrupted,
    interruptedMem_of_download (download_of_offStage d.offStage_stagesStopped d.mem_stagesStopped)]

/-- The events of a severity and of those below it. -/
def severityMarked (d : Dev) (sev : Nat) : Dev :=
  let d := if 1 ≤ sev then d.event (pg .fault) F.FAULT.EVENT_ALERT else d
  let d := if 2 ≤ sev then d.event (pg .fault) F.FAULT.EVENT_DERATE else d
  if 3 ≤ sev then d.event (pg .fault) F.FAULT.EVENT_HALT else d

theorem download_severityMarked (d : Dev) (sev : Nat) : (d.severityMarked sev).download = d.download := by
  simp (disch := decide) only [severityMarked, download_ite, download_event, ite_self]

/-- Below SAFE a reaction leaves memory. -/
theorem mem_react_belowSafe (d : Dev) {sev : Nat} (h : sev < 4) : (d.react sev false).mem = d.mem := by
  have hsafe : ¬ 4 ≤ sev := by omega
  have hreset : ¬ 5 ≤ sev := by omega
  simp [react, hsafe, hreset]

/-- From SAFE on it discards a download under way. -/
theorem mem_react_safe (d : Dev) {sev : Nat} (h : 4 ≤ sev) : (d.react sev false).mem = d.interruptedMem := by
  have hhalt : sev ≠ 3 := by omega
  by_cases hhib : d.state = 6
  · rw [interruptedMem_outsideBoot (by omega)]
    simp [react, hhib]
  · have hmarks : (d.react sev false).mem =
        ((((d.severityMarked sev).event (pg .fault) F.FAULT.EVENT_SAFE).bump (pg .fault) R.FAULT.SAFES).safeReaction false).mem := by
      simp only [react, hhib, h, hhalt, if_false, if_true, Bool.false_and, Bool.false_eq_true, severityMarked]
      split
      · rw [(resetReaction_store _).1]
      · rfl
    rw [hmarks, mem_safeReaction, interruptedMem_of_download]
    rw [download_bump _ (by decide), download_event _ (by decide), download_severityMarked]

theorem download_record (d : Dev) (s sev : Nat) (data : Word) (rep : Bool) : (d.record s sev data rep).download = d.download := by
  have hbump : (d.record s sev data rep).download = (d.bump (pg .fault) R.FAULT.RAISED).download := by
    simp only [record]
    split <;> rfl
  rw [hbump, download_bump _ (by decide)]

/-- An event acts on memory by the severity of its source. -/
theorem mem_actOn (d : Dev) (s : Nat) (data : Word) :
    (d.actOn s data false).mem = if 4 ≤ d.sevOf s then d.interruptedMem else d.mem := by
  simp only [actOn]
  split
  case isTrue h => rw [mem_react_safe _ h, interruptedMem_of_download (download_record d s _ data false)]
  case isFalse h => rw [mem_react_belowSafe _ (Nat.not_le.mp h), (record_store _ _ _ _ _).1]

/-! ## A bus fault (R488) -/

/-- The source BUS_ERR of SYS. -/
abbrev busErrSource : Nat := srcNo .sys 0 B.SYS.BUS_ERR

theorem sevOf_setReg (d : Dev) {p o s : Nat} (v : Word) (h : regKey (pg .fault) (R.FAULT.SEV + 4 * (s / 8)) ≠ regKey p o) :
    (d.setReg p o v).sevOf s = d.sevOf s := by
  unfold sevOf
  rw [reg_setReg_other _ h]

theorem download_setFault_sys (d : Dev) (b : Nat) (cause : Word) : (d.setFault .sys 0 b cause).download = d.download := by
  simp (disch := decide) only [setFault, download_ite, download_setReg, ite_self]

theorem sevOf_setFault_sys (d : Dev) (b : Nat) (cause : Word) : (d.setFault .sys 0 b cause).sevOf busErrSource = d.sevOf busErrSource := by
  have hite : ∀ (c : Prop) [Decidable c] (a b : Dev) (s : Nat), (if c then a else b).sevOf s = if c then a.sevOf s else b.sevOf s :=
    fun _ _ _ _ _ => apply_ite (sevOf · _) _ _ _
  simp (disch := decide) only [setFault, hite, sevOf_setReg, ite_self]

/-- A bus fault changes memory where BUS_ERR is of severity SAFE or RESET and a download is under way. -/
theorem mem_busFault (d : Dev) (m : Master) :
    (d.busFault m).mem = if 4 ≤ d.sevOf busErrSource then d.interruptedMem else d.mem := by
  have hcount : (d.bump (pg .sys) R.SYS.BUS_ERRS).download = d.download := download_bump d (by decide)
  have hsev : (d.bump (pg .sys) R.SYS.BUS_ERRS).sevOf busErrSource = d.sevOf busErrSource := sevOf_setReg d _ (by decide)
  have hstate : (d.bump (pg .sys) R.SYS.BUS_ERRS).state = d.state := congrArg Prod.fst hcount
  have hmem : (d.busFault m).mem = (d.busErr m.cls).mem := rfl
  rw [hmem]
  simp only [busErr, raise, raiseWith, Bool.false_and, Bool.or_false, Bool.false_eq_true, if_false]
  split
  case isTrue hoff =>
    have hlow : d.state < 2 := by simpa [islandOn, hstate] using hoff
    rw [interruptedMem_outsideBoot (by omega), ite_self]
    simp
  case isFalse =>
    rw [mem_actOn, sevOf_setFault_sys, hsev, interruptedMem_of_download ((download_setFault_sys _ _ _).trans hcount)]
    simp

end Dev
end Sys2Proof.Machine
end

section
/-!
PROOFS. The galley's entries and its enable (R84, R85, R89, R99): which entries are held, a write and a read of an entry, and a write of
CTRL.ENABLE.
-/
namespace Sys2Proof.Machine

/-! ## Words of memory (R6) -/

/-- A number written reads back, low byte first. -/
theorem Mem.read_write_self (m : Mem) (a v n : Nat) : (m.write a v n).read a n = v % 256 ^ n := by
  induction n generalizing m a v with
  | zero => simp [Mem.read, Nat.mod_one]
  | succ n ih =>
    have hlow : (m.write a v (n + 1)).byte a = BitVec.ofNat 8 v := by
      simpa using Mem.byte_write_inside m a v (n + 1) (j := 0) (by omega)
    have hhigh : (m.write a v (n + 1)).read (a + 1) n = v / 256 % 256 ^ n := ih _ _ _
    have hsplit : v % 256 ^ (n + 1) = v % 256 + 256 * (v / 256 % 256 ^ n) := by rw [Nat.pow_succ', Nat.mod_mul]
    rw [Mem.read, hlow, hhigh, hsplit, BitVec.toNat_ofNat]

theorem Mem.word_setWord_self (m : Mem) (a : Nat) (w : Word) : (m.setWord a w).word a = w := by
  have hlt : w.toNat < 256 ^ 4 := w.isLt
  rw [Mem.word, Mem.setWord, Mem.read_write_self, Nat.mod_eq_of_lt hlt, BitVec.ofNat_toNat, BitVec.setWidth_eq]

/-- The address of word `i` of the galley (R24). -/
theorem regionOf_galley (i : Fin 32768) : regionOf (0x38000000 + 4 * i.val) 4 = some .galley := by
  have hi := i.isLt
  have hoff : ∀ base size : Nat, base + size ≤ 0x38000000 ∨ 0x38020000 ≤ base →
      (decide (base ≤ 0x38000000 + 4 * i.val) && decide (0x38000000 + 4 * i.val + 4 ≤ base + size)) = false := by
    intro base size h
    simp only [Bool.and_eq_false_iff, decide_eq_false_iff_not]
    omega
  have hin : (decide (0x38000000 ≤ 0x38000000 + 4 * i.val) && decide (0x38000000 + 4 * i.val + 4 ≤ 0x38000000 + 0x20000)) = true := by
    simp only [Bool.and_eq_true, decide_eq_true_eq]
    omega
  simp (disch := decide) only [regionOf, hoff, hin, Bool.false_eq_true, if_false, if_true]

namespace Dev

/-! ## Entries that are held (R85) -/

theorem overlap_entry (e base len : Nat) : overlap (e, 1) (base, len) = true ↔ base ≤ e ∧ e < base + len := by
  simp only [overlap, Bool.and_eq_true, decide_eq_true_eq]
  omega

theorem entryHeld_iff (d : Dev) (e : Nat) : d.entryHeld e = true ↔ ∃ s < 16,
    (d.fld (pg .galley) (F.GALLEY.SHEET_RANGE_BASE.at s) ≤ e ∧ e < d.fld (pg .galley) (F.GALLEY.SHEET_RANGE_BASE.at s) +
      d.fld (pg .galley) (F.GALLEY.SHEET_RANGE_LEN.at s)) ∨
    ∃ q : ImposeReq, d.pendingOf s = some q ∧ q.base ≤ e ∧ e < q.base + q.len := by
  have hpending : ∀ o : Option ImposeReq, (o.map fun r => overlap (e, 1) (r.base, r.len)).getD false = true ↔
      ∃ q, o = some q ∧ q.base ≤ e ∧ e < q.base + q.len := by
    rintro (_ | q)
    · simp
    · simp [overlap_entry]
  simp only [entryHeld, List.any_eq_true, List.mem_range, Bool.or_eq_true, sheetRange, overlap_entry, hpending]

/-! ## Accesses to an entry (R84, R85) -/

/-- A permitted store to the galley. -/
theorem memStore_galley {d : Dev} {m : Master} {a : Nat} (haligned : a % 4 = 0) (hallowed : d.memAllowed m a 4 true = true)
    (hgal : regionOf a 4 = some .galley) (w : Word) : d.memStore m a w = d.entryStore m a w := by
  simp [memStore, haligned, hallowed, hgal]

theorem entryStore_free {d : Dev} {a : Nat} (h : d.entryHeld ((a - 0x38000000) / 8) = false) (m : Master) (w : Word) :
    d.entryStore m a w = { d with mem := Mem.setWord d.mem a w, bus := .done } :=
  if_neg (by simp [h])

/-- A write to a held entry is counted and marked. -/
def writeRefused (d : Dev) : Dev := (d.bump (pg .galley) R.GALLEY.WRITE_REFUSED).event (pg .galley) F.GALLEY.EVENT_WRITE_REFUSED

theorem entryStore_held {d : Dev} {a : Nat} (h : d.entryHeld ((a - 0x38000000) / 8) = true) (m : Master) (w : Word) :
    d.entryStore m a w = d.writeRefused.busFault m := if_pos h

/-- The bus fault that ends the write leaves the page GALLEY. -/
theorem writeRefused_busFault_spec (d : Dev) (m : Master) :
    (d.writeRefused.busFault m).reg (pg .galley) R.GALLEY.WRITE_REFUSED = d.reg (pg .galley) R.GALLEY.WRITE_REFUSED + 1 ∧
      (d.writeRefused.busFault m).flag (pg .galley) F.GALLEY.EVENT_WRITE_REFUSED = true := by
  have hpage : (d.writeRefused.busFault m).pageRegs (pg .galley) = d.writeRefused.pageRegs (pg .galley) :=
    pageRegs_busFault (by decide) _ m
  rw [reg_of_pageRegs hpage (by decide), flag_of_pageRegs hpage (by decide), writeRefused, reg_event_other _ _ _ _ _ _ (by decide),
    reg_bump_self]
  exact ⟨rfl, flag_event_self _ _ _ (by decide) (by decide)⟩

/-- The refusal's marks have no part in what the bus fault does to memory. -/
theorem mem_writeRefused_busFault (d : Dev) (m : Master) : (d.writeRefused.busFault m).mem = (d.busFault m).mem := by
  have hdownload : d.writeRefused.download = d.download := by
    rw [writeRefused, download_event _ (by decide), download_bump _ (by decide)]
  have hsev : d.writeRefused.sevOf busErrSource = d.sevOf busErrSource :=
    (sevOf_setReg _ _ (by decide)).trans (sevOf_setReg d _ (by decide))
  have hmem : d.writeRefused.mem = d.mem := congrArg (fun x => x.2.2.2) hdownload
  rw [mem_busFault, mem_busFault, hsev, hmem, interruptedMem_of_download hdownload]

/-- Outside BOOT a bus fault leaves memory. -/
theorem mem_busFault_outsideBoot {d : Dev} (h : d.state ≠ 2) (m : Master) : (d.busFault m).mem = d.mem := by
  rw [mem_busFault, interruptedMem_outsideBoot h, ite_self]

/-- A permitted read of an entry. -/
theorem masterRead_galley {d : Dev} {m : Master} {a : Nat} (hlive : d.busLive = true) (hgal : regionOf a 4 = some .galley)
    (haligned : a % 4 = 0) (h : d.reaches m a 4 false = true) (flaw : Flaw) : d.masterRead m a flaw 0 = d.entryRead m a flaw := by
  have hdata : a ≠ pageAddr (pg .sys) R.SYS.PAIR_REG_DATA := by
    rintro rfl
    exact absurd hgal (by decide)
  simp [masterRead, hdata, busRead, hlive, hgal, haligned, h]

/-! ## CTRL.ENABLE (R30, R89, R99) -/

/-- A write of CTRL without SOFT_RESET is the galley's ENABLE, which no key guards. -/
theorem regWrite_galleyCtrl (d : Dev) (m : Master) (on : Bool) :
    d.regWrite m .galley 0 R.HDR.CTRL (BitVec.ofNat 32 (b2n on)) {} = d.enableWrite m .galley 0 on [] := by
  have hkey : pageKey (pg .galley 0) = none := by decide +kernel
  have henable : ∀ on, bitAt (BitVec.ofNat 32 (b2n on)).toNat 0 = on := by decide
  have hsoft : ∀ on, bitAt (BitVec.ofNat 32 (b2n on)).toNat 1 = false := by decide
  rw [regWrite_header (by decide) (by decide) _ _ _ (by decide)]
  show d.ctrlWrite m .galley 0 (BitVec.ofNat 32 (b2n on)) [] = _
  simp only [ctrlWrite, henable, hsoft, hkey, Bool.false_eq_true, if_false]

/-- A window that closes discards decimation groups of the converters. -/
theorem windowClosed_frame (d : Dev) (win : Nat) : (d.windowClosed win).regs = d.regs ∧ (d.windowClosed win).gal = d.gal := by
  refine ⟨each_keeps regs _ _ _ fun e c _ => ?_, each_keeps gal _ _ _ fun e c _ => ?_⟩ <;> simp

/-- ENABLE = 0: the galley stopped, and every window closed. -/
def galleyOff (d : Dev) : Dev := (d.galleyEnable false).each (List.range 16) windowClosed

theorem galleyOff_spec (d : Dev) : d.galleyOff.flag (pg .galley) F.HDR.CTRL_ENABLE = false ∧
    d.galleyOff.reg (pg .galley) R.GALLEY.WIN_STATE = 0 ∧ d.galleyOff.gal = { d.gal with running := false, deferred := [] } ∧
    d.galleyOff.mem = d.mem ∧ d.galleyOff.keys = d.keys := by
  have hregs : d.galleyOff.regs = (d.galleyEnable false).regs := each_keeps regs _ _ _ fun e w _ => (e.windowClosed_frame w).1
  have hgal : d.galleyOff.gal = (d.galleyEnable false).gal := each_keeps gal _ _ _ fun e w _ => (e.windowClosed_frame w).2
  have hset : (d.galleyEnable false).regs =
      ((d.setFlag (pg .galley) F.HDR.CTRL_ENABLE false).setReg (pg .galley) R.GALLEY.WIN_STATE 0).regs := by
    simp only [galleyEnable, Bool.false_eq_true, if_false]
  rw [flag_of_regs (hregs.trans hset), reg_of_regs (hregs.trans hset), hgal]
  refine ⟨?off, reg_setReg_self _ _ _ _ _, by simp [galleyEnable], by simp [galleyOff], by simp [galleyOff]⟩
  case off =>
    unfold flag
    rw [fld_setReg_other _ _ _ _ _ _ _ (by decide)]
    exact flag_setFlag_self d _ _ false (by decide) (by decide)

end Dev

/-- Settles O15: a write to an entry by whether it is held, a read by its check bits, and ENABLE. -/
theorem galleyEntriesAndEnableRun : Obligations.GalleyEntriesAndEnableRun := by
  unfold Obligations.GalleyEntriesAndEnableRun
  intro d m
  refine ⟨?writes, d.entryHeld_iff, ?reads, ?enable⟩
  case writes =>
    intro i w hlive hallowed
    have hregion := regionOf_galley i
    have hentry : (0x38000000 + 4 * i.val - 0x38000000) / 8 = i.val / 2 := by omega
    have stores : ∀ {t}, d.memStore m (0x38000000 + 4 * i.val) w = t → Runs (.galleyEntryWrite m i w) d t := fun ht =>
      Runs.dev (f := fun d => d.busWrite m (0x38000000 + 4 * i.val) w) (fun _ => rfl)
        ((Dev.busWrite_memory hlive (by rw [hregion]; decide) m w {}).trans ht)
    have hstore := Dev.memStore_galley (by omega) hallowed hregion w
    rw [← hentry]
    refine ⟨fun hfree => ?_, fun hheld => ?_⟩
    · rw [Dev.entryStore_free hfree] at hstore
      exact ⟨_, stores hstore, Mem.word_setWord_self _ _ _, fun b hb => Mem.byte_write_outside _ _ _ _ hb, rfl⟩
    · rw [Dev.entryStore_held hheld] at hstore
      obtain ⟨hcount, hevent⟩ := d.writeRefused_busFault_spec m
      have hmem := d.mem_writeRefused_busFault m
      exact ⟨_, stores hstore, rfl, rfl, hcount, hevent, hmem, fun hst => hmem.trans (Dev.mem_busFault_outsideBoot hst m)⟩
  case reads =>
    intro i hlive hreach
    have hentry : (0x38000000 + 4 * i.val - 0x38000000) / 8 = i.val / 2 := by omega
    have reads : ∀ flaw, Runs (.galleyEntryRead m i flaw) d (d.entryRead m (0x38000000 + 4 * i.val) flaw) := fun flaw =>
      Runs.dev (fun _ => rfl) (Dev.masterRead_galley hlive (regionOf_galley i) (by omega) hreach flaw)
    refine ⟨reads .clean, reads .single, ?_⟩
    rw [← hentry]
    exact reads .double
  case enable =>
    intro h
    have enables : ∀ on, Runs (.galleyEnable m on) d (d.enableWrite m .galley 0 on []).done := fun on =>
      Runs.port h (by decide) (fun _ => rfl) (d.regWrite_galleyCtrl m on)
    obtain ⟨hoff, hwindows, hgal, hmem, hkeys⟩ := d.galleyOff_spec
    refine ⟨enables true, d.galleyOff.done, enables false, ?_⟩
    rw [Dev.flag_done, Dev.reg_done, Dev.gal_done, hgal]
    exact ⟨hoff, hwindows, rfl, rfl, rfl, by simpa using hmem, by simpa using hkeys⟩

end Sys2Proof.Machine
end

section
/-!
PROOFS. The edges of a period as they are laid out (R107, R109, R114, R115, R118): the edge grid, the tap of a fine code, and the high
intervals of the two outputs.
-/
namespace Sys2Proof.Machine

/-! ## The edge grid (R107, R109) -/

theorem edgeClock_grid (e : Nat) : 64 * (edgeClock e).1 + (edgeClock e).2 = e ∧ (edgeClock e).2 < 64 :=
  ⟨Nat.div_add_mod e 64, Nat.mod_lt e (by decide)⟩

/-- The tap of a fine code lies within half a cell of k × CPC / 64, here in units of 1/1,024 cell. -/
theorem tapCells_nearest (k cpc : Nat) :
    1024 * tapCells k cpc ≤ k * cpc + 512 ∧ k * cpc + 512 < 1024 * (tapCells k cpc + 1) :=
  ⟨Nat.mul_div_le _ _, Nat.lt_mul_div_succ _ (by decide)⟩

/-! ## High intervals (R114, R115, R118) -/

/-- Position `x` lies in an interval, its start included and its end not. -/
abbrev HighIn (i : Interval) (x : Nat) : Prop := i.1 ≤ x ∧ x < i.2

theorem highAt_isSome (l : List Interval) (x : Nat) : (highAt l x).isSome = true ↔ ∃ i ∈ l, HighIn i x := by
  simp [highAt]

/-- The nominal intervals of the two outputs have no position in common. -/
theorem nominal_disjoint {mode len t x : Nat} {i j : Interval} (hi : i ∈ (nominal mode len t).1)
    (hj : j ∈ (nominal mode len t).2) (hx : HighIn i x) : ¬ HighIn j x := by
  obtain ⟨hfrom, hto⟩ := hx
  unfold nominal at hi hj
  split at hi
  case isTrue hcentred =>
    rw [if_pos hcentred] at hj
    by_cases hzero : t = 0
    · simp only [hzero, List.mem_filter, List.mem_singleton, decide_eq_true_eq] at hi
      obtain ⟨rfl, hne⟩ := hi
      omega
    · simp only [hzero, if_false, List.mem_filter, List.mem_cons, List.not_mem_nil, or_false] at hi hj
      obtain ⟨rfl, -⟩ := hi
      obtain ⟨rfl | rfl, -⟩ := hj <;> dsimp only at * <;> omega
  case isFalse hedge =>
    rw [if_neg hedge] at hj
    split at hi
    case isTrue hhalf =>
      rw [if_pos hhalf] at hj
      simp only [List.mem_filter, List.mem_singleton] at hi hj
      obtain ⟨⟨rfl, -⟩, rfl, -⟩ := hi, hj
      dsimp only at *
      omega
    case isFalse hhalf =>
      rw [if_neg hhalf] at hj
      simp only [List.mem_filter, List.mem_singleton] at hi hj
      obtain ⟨⟨rfl, -⟩, rfl, -⟩ := hi, hj
      dsimp only at *
      omega

/-- A carried interval is the nominal one that begins with the period (R115). -/
theorem mem_layOutput_carried {dt : Nat} {carried : Bool} {l : List Interval} {i : Interval} (h : i ∈ (layOutput dt carried l).1) :
    i ∈ l ∧ i.1 = 0 := by
  obtain ⟨hl, hon⟩ := List.mem_filter.mp h
  exact ⟨hl, eq_of_beq (Bool.and_eq_true_iff.mp hon).2⟩

/-- A pulse that rises is a nominal one whose rising edge alone is delayed (R118). -/
theorem mem_layOutput_rising {dt : Nat} {carried : Bool} {l : List Interval} {i : Interval} (h : i ∈ (layOutput dt carried l).2) :
    ∃ j ∈ l, i = (j.1 + dt, j.2) := by
  obtain ⟨j, hj, rfl⟩ := List.mem_map.mp h
  exact ⟨j, (List.mem_filter.mp hj).1, rfl⟩

/-- An output is high only where its nominal intervals are, whatever its dead time and the level carried across the boundary. -/
theorem layOutput_within_nominal {dt x : Nat} {carried : Bool} {l : List Interval}
    (h : (highAt ((layOutput dt carried l).1 ++ (layOutput dt carried l).2) x).isSome = true) : ∃ j ∈ l, HighIn j x := by
  obtain ⟨i, hi, hfrom, hto⟩ := (highAt_isSome _ _).mp h
  rcases List.mem_append.mp hi with hi | hi
  · exact ⟨i, (mem_layOutput_carried hi).1, hfrom, hto⟩
  · obtain ⟨j, hj, rfl⟩ := mem_layOutput_rising hi
    exact ⟨j, hj, Nat.le_of_add_right_le hfrom, hto⟩

/-- Settles O18: each output is high only within its nominal intervals, and those of the two outputs are disjoint. -/
theorem outputsNeverOverlap : Obligations.OutputsNeverOverlap := by
  unfold Obligations.OutputsNeverOverlap
  refine ⟨edgeClock_grid, tapCells_nearest, ?_⟩
  intro mode len t dtH dtL x cH cL _
  refine ⟨?apart, fun i hi => mem_layOutput_rising hi, fun i hi => mem_layOutput_rising hi, fun i hi => ?carried⟩
  case apart =>
    rintro ⟨hhigh, hlow⟩
    obtain ⟨i, hi, hxi⟩ := layOutput_within_nominal hhigh
    obtain ⟨j, hj, hxj⟩ := layOutput_within_nominal hlow
    exact nominal_disjoint hi hj hxi hxj
  case carried =>
    rcases List.mem_append.mp hi with hi | hi <;> exact (mem_layOutput_carried hi).2

end Sys2Proof.Machine
end

section
/-!
PROOFS. What the operations of a stage tile leave of its page, and of the tile beside its registers (R110, R118, R119, R122–R126): the edges
of a period, the stops, and the level of function TRIP.
-/
namespace Sys2Proof.Machine

/-- Two fields that share no bit of a register. -/
abbrev FieldsApart (f g : Fld) : Prop := f.ofs ≠ g.ofs ∨ (f.lo + f.w ≤ 32 ∧ (f.lo + f.w ≤ g.lo ∨ g.lo + g.w ≤ f.lo))

namespace Dev

/-! ## Registers and fields of one page -/

theorem fld_of_reg {d e : Dev} {p : Nat} {f : Fld} (h : e.reg p f.ofs = d.reg p f.ofs) : e.fld p f = d.fld p f := by
  unfold fld; rw [h]

theorem flag_of_fld {d e : Dev} {p : Nat} {f : Fld} (h : e.fld p f = d.fld p f) : e.flag p f = d.flag p f := by
  unfold flag; rw [h]

theorem reg_setReg_apart (d : Dev) {p o o' : Nat} (v : Word) (h : o' ≠ o) : (d.setReg p o v).reg p o' = d.reg p o' :=
  reg_setReg_other d (by simpa using h)

theorem reg_setFld_apart (d : Dev) {p o : Nat} {f : Fld} (v : Nat) (h : o ≠ f.ofs) : (d.setFld p f v).reg p o = d.reg p o :=
  reg_setReg_apart d _ h

theorem fld_setReg_apart (d : Dev) {p o : Nat} {f : Fld} (v : Word) (h : f.ofs ≠ o) : (d.setReg p o v).fld p f = d.fld p f :=
  fld_of_reg (reg_setReg_apart d v h)

theorem fld_setFld_apart (d : Dev) {p : Nat} {f g : Fld} (v : Nat) (h : FieldsApart g f) : (d.setFld p f v).fld p g = d.fld p g :=
  fld_setFld_other d p f v p g (h.imp_left fun hofs => by simpa using hofs)

theorem flag_setReg_apart (d : Dev) {p o : Nat} {f : Fld} (v : Word) (h : f.ofs ≠ o) : (d.setReg p o v).flag p f = d.flag p f :=
  flag_of_fld (fld_setReg_apart d v h)

theorem flag_setFld_apart (d : Dev) {p : Nat} {f g : Fld} (v : Nat) (h : FieldsApart g f) :
    (d.setFld p f v).flag p g = d.flag p g := flag_of_fld (fld_setFld_apart d v h)

theorem reg_setFlag_apart (d : Dev) {p o : Nat} {f : Fld} (b : Bool) (h : o ≠ f.ofs) : (d.setFlag p f b).reg p o = d.reg p o :=
  reg_setFld_apart d _ h

theorem fld_setFlag_apart (d : Dev) {p : Nat} {f g : Fld} (b : Bool) (h : FieldsApart g f) :
    (d.setFlag p f b).fld p g = d.fld p g := fld_setFld_apart d _ h

theorem flag_setFlag_apart (d : Dev) {p : Nat} {f g : Fld} (b : Bool) (h : FieldsApart g f) :
    (d.setFlag p f b).flag p g = d.flag p g := flag_setFld_apart d _ h

theorem reg_event_apart (d : Dev) {p o : Nat} {f : Fld} (h : o ≠ f.ofs) : (d.event p f).reg p o = d.reg p o :=
  reg_setFld_apart d 1 h

theorem fld_event_apart (d : Dev) {p : Nat} {f g : Fld} (h : FieldsApart g f) : (d.event p f).fld p g = d.fld p g :=
  fld_setFld_apart d 1 h

theorem flag_event_apart (d : Dev) {p : Nat} {f g : Fld} (h : FieldsApart g f) : (d.event p f).flag p g = d.flag p g :=
  flag_setFld_apart d 1 h

theorem fld_bump_apart (d : Dev) {p o k : Nat} {f : Fld} (h : f.ofs ≠ o) : (d.bump p o k).fld p f = d.fld p f :=
  fld_setReg_apart d _ h

theorem flag_bump_apart (d : Dev) {p o k : Nat} {f : Fld} (h : f.ofs ≠ o) : (d.bump p o k).flag p f = d.flag p f :=
  flag_setReg_apart d _ h

/-! ## A tile beside its registers -/

theorem tileS_of_tile {d e : Dev} (h : e.tile = d.tile) (n : Nat) : e.tileS n = d.tileS n := by
  unfold tileS; rw [h]

@[simp] theorem tileS_setReg (d : Dev) (p o : Nat) (v : Word) (b n : Nat) : (d.setReg p o v b).tileS n = d.tileS n := rfl
@[simp] theorem tileS_setFld (d : Dev) (p : Nat) (f : Fld) (v n : Nat) : (d.setFld p f v).tileS n = d.tileS n := rfl
@[simp] theorem tileS_setFlag (d : Dev) (p : Nat) (f : Fld) (b : Bool) (n : Nat) : (d.setFlag p f b).tileS n = d.tileS n := rfl
@[simp] theorem tileS_event (d : Dev) (p : Nat) (f : Fld) (n : Nat) : (d.event p f).tileS n = d.tileS n := rfl
@[simp] theorem tileS_bump (d : Dev) (p o k n : Nat) : (d.bump p o k).tileS n = d.tileS n := rfl
@[simp] theorem tileS_done (d : Dev) (n : Nat) : d.done.tileS n = d.tileS n := rfl
@[simp] theorem tstate_modTile (d : Dev) (m n : Nat) (f : TileS → TileS) : (d.modTile m f).tstate n = d.tstate n := rfl
@[simp] theorem tstate_done (d : Dev) (n : Nat) : d.done.tstate n = d.tstate n := rfl

theorem tileS_modTile_self (d : Dev) {n : Nat} (h : n < 24) (f : TileS → TileS) : (d.modTile n f).tileS n = f (d.tileS n) :=
  vget_vmod_self _ h _ _

end Dev

/-- What neither the edges of a period nor its end change of a tile, but for the start of the next: its start, what its group asks for,
and the values in use. -/
def TileS.settings (t : TileS) : Nat × Want × TileLive := (t.start, t.want, t.live)

theorem TileS.settings_withTodo (t : TileS) (o : Out) (l : List Interval) : (t.withTodo o l).settings = t.settings := by
  cases o <;> rfl

theorem TileS.settings_withSched (t : TileS) (o : Out) (l : List Interval) : (t.withSched o l).settings = t.settings := by
  cases o <;> rfl

theorem TileS.settings_withBlanks (t : TileS) (c : Cmp) (l : List (Nat × Bool)) : (t.withBlanks c l).settings = t.settings := by
  cases c <;> rfl

theorem TileS.settings_emit (t : TileS) (o : Out) (i : Interval) : (t.emit o i).settings = t.settings := by
  cases o <;> rfl

/-- Both outputs low, and nothing left to rise. -/
def TileS.IsLow (t : TileS) : Prop := t.hSched = [] ∧ t.lSched = [] ∧ t.hTodo = [] ∧ t.lTodo = []

namespace Dev

theorem settings_modTile (d : Dev) (m n : Nat) {f : TileS → TileS} (h : ∀ t, (f t).settings = t.settings) :
    ((d.modTile m f).tileS n).settings = (d.tileS n).settings := by
  simp only [tileS, modTile, vget, vmod]
  split
  · by_cases hmn : m = n
    · subst hmn
      simp [*]
    · simp [hmn, List.getD]
  · rfl

/-! ## The edges of a period (R118, R119, R126–R129) -/

/-- What the edges of tile `n` leave alone: its settings, and the registers of its page but EVENT and PULSE_DROPS. -/
def offEdge (d : Dev) (n : Nat) :
    (Nat × Want × TileLive) × ({o : Nat // o ≠ R.HDR.EVENT ∧ o ≠ R.TILE.PULSE_DROPS} → Word) :=
  ((d.tileS n).settings, fun o => d.reg (pg .tile n) o.val)

theorem offEdge_modTile (d : Dev) (n : Nat) {f : TileS → TileS} (h : ∀ t, (f t).settings = t.settings) :
    (d.modTile n f).offEdge n = d.offEdge n :=
  Prod.ext (settings_modTile d n n h) rfl

theorem offEdge_setReg (d : Dev) (n : Nat) {o : Nat} (v : Word) (h : o = R.HDR.EVENT ∨ o = R.TILE.PULSE_DROPS) :
    (d.setReg (pg .tile n) o v).offEdge n = d.offEdge n := by
  refine Prod.ext rfl (funext fun ⟨o', hevent, hdrops⟩ => reg_setReg_apart d v ?_)
  rintro rfl
  exact h.elim hevent hdrops

theorem offEdge_event (d : Dev) (n : Nat) {f : Fld} (h : f.ofs = R.HDR.EVENT) : (d.event (pg .tile n) f).offEdge n = d.offEdge n :=
  offEdge_setReg d n _ (.inl h)

theorem offEdge_bumpDrops (d : Dev) (n : Nat) : (d.bump (pg .tile n) R.TILE.PULSE_DROPS).offEdge n = d.offEdge n :=
  offEdge_setReg d n _ (.inr rfl)

@[simp] theorem offEdge_ite (c : Prop) [Decidable c] (a b : Dev) (n : Nat) :
    (if c then a else b).offEdge n = if c then a.offEdge n else b.offEdge n := apply_ite (offEdge · n) _ _ _

@[simp] theorem offEdge_cutPulse (d : Dev) (n : Nat) (c : Cmp) (x : Nat) : (d.cutPulse n c x).offEdge n = d.offEdge n := by
  simp only [cutPulse]
  split
  · rfl
  · refine offEdge_modTile d n fun t => ?_
    split
    · exact (TileS.settings_withTodo _ _ _).trans (TileS.settings_withSched _ _ _)
    · exact TileS.settings_withSched _ _ _

@[simp] theorem offEdge_blankFrom (d : Dev) (n : Nat) (o : Out) (x : Nat) (c : Cmp) :
    (d.blankFrom n o x c).offEdge n = d.offEdge n := by
  simp only [blankFrom, offEdge_ite]
  rw [offEdge_modTile d n fun t => TileS.settings_withBlanks t _ _, ite_self]

@[simp] theorem offEdge_levelAt (d : Dev) (n : Nat) (o : Out) (x : Nat) (c : Cmp) : (d.levelAt n o x c).offEdge n = d.offEdge n := by
  simp [levelAt]

@[simp] theorem offEdge_rise (d : Dev) (n : Nat) (o : Out) (i : Interval) : (d.rise n o i).offEdge n = d.offEdge n := by
  have htaken := offEdge_modTile d n fun t => TileS.settings_withTodo t o (t.todo o).tail
  simp only [rise]
  split
  case isTrue hshort =>
    rw [offEdge_modTile, offEdge_event _ _ rfl, offEdge_bumpDrops, htaken]
    exact fun _ => rfl
  case isFalse hlong =>
    rw [offEdge_ite, offEdge_levelAt, offEdge_levelAt, offEdge_blankFrom, offEdge_blankFrom,
      offEdge_modTile _ n fun t => TileS.settings_emit t o i, htaken, ite_self]

@[simp] theorem offEdge_rises (d : Dev) (n x k : Nat) : (d.rises n x k).offEdge n = d.offEdge n := by
  induction k generalizing d with
  | zero => rfl
  | succ k ih =>
    simp only [rises]
    split
    · rfl
    · rw [ih, offEdge_rise]

@[simp] theorem offEdge_tileAdvance (d : Dev) (n x : Nat) : (d.tileAdvance n x).offEdge n = d.offEdge n := by
  simp [tileAdvance]

@[simp] theorem settings_tileAdvance (d : Dev) (n x : Nat) : ((d.tileAdvance n x).tileS n).settings = (d.tileS n).settings :=
  congrArg Prod.fst (d.offEdge_tileAdvance n x)

theorem reg_tileAdvance (d : Dev) (n x : Nat) {o : Nat} (h : o ≠ R.HDR.EVENT ∧ o ≠ R.TILE.PULSE_DROPS) :
    (d.tileAdvance n x).reg (pg .tile n) o = d.reg (pg .tile n) o :=
  congrFun (congrArg Prod.snd (d.offEdge_tileAdvance n x)) ⟨o, h⟩

theorem fld_tileAdvance (d : Dev) (n x : Nat) {f : Fld} (h : f.ofs ≠ R.HDR.EVENT ∧ f.ofs ≠ R.TILE.PULSE_DROPS) :
    (d.tileAdvance n x).fld (pg .tile n) f = d.fld (pg .tile n) f := fld_of_reg (reg_tileAdvance d n x h)

theorem flag_tileAdvance (d : Dev) (n x : Nat) {f : Fld} (h : f.ofs ≠ R.HDR.EVENT ∧ f.ofs ≠ R.TILE.PULSE_DROPS) :
    (d.tileAdvance n x).flag (pg .tile n) f = d.flag (pg .tile n) f := flag_of_fld (fld_tileAdvance d n x h)

@[simp] theorem tstate_tileAdvance (d : Dev) (n x : Nat) : (d.tileAdvance n x).tstate n = d.tstate n :=
  fld_tileAdvance d n x (by decide)

/-! ## The stops of a tile (R110, R123, R124) -/

/-- A tap table that waited is taken with its CPC alone. -/
theorem takeTable_eq_or (d : Dev) (n : Nat) : d.takeTable n = d ∨ ∃ c, d.takeTable n =
    (d.setFld (pg .tile n) F.TILE.CAL_STATUS_CPC c).modTile n (fun t => { t with tableCpc := c, pendCpc := none }) := by
  unfold takeTable
  split
  · exact .inl rfl
  · exact .inr ⟨_, rfl⟩

theorem reg_takeTable (d : Dev) (n : Nat) {o : Nat} (h : o ≠ R.TILE.CAL_STATUS) :
    (d.takeTable n).reg (pg .tile n) o = d.reg (pg .tile n) o := by
  obtain heq | ⟨c, heq⟩ := d.takeTable_eq_or n
  · rw [heq]
  · rw [heq, reg_modTile, reg_setFld_apart _ _ h]

theorem settings_takeTable (d : Dev) (n : Nat) : ((d.takeTable n).tileS n).settings = (d.tileS n).settings := by
  obtain heq | ⟨c, heq⟩ := d.takeTable_eq_or n
  · rw [heq]
  · rw [heq, settings_modTile, tileS_setFld]
    exact fun _ => rfl

theorem reg_outputsLow (d : Dev) (n : Nat) {o : Nat} (h : o ≠ R.TILE.CAL_STATUS) :
    (d.outputsLow n).reg (pg .tile n) o = d.reg (pg .tile n) o := reg_takeTable d n h

theorem settings_outputsLow (d : Dev) (n : Nat) : ((d.outputsLow n).tileS n).settings = (d.tileS n).settings := by
  rw [outputsLow, settings_modTile, settings_takeTable]
  exact fun _ => rfl

theorem isLow_outputsLow (d : Dev) {n : Nat} (hn : n < 24) : ((d.outputsLow n).tileS n).IsLow := by
  rw [outputsLow, tileS_modTile_self _ hn]
  exact ⟨rfl, rfl, rfl, rfl⟩

/-- The registers of a tile's page as the tile enters STOPPED, before its tap table. -/
def stopMarked (d : Dev) (n : Nat) : Dev :=
  let p := pg .tile n
  (((d.setFld p F.TILE.STATUS_TSTATE 1).setReg p R.TILE.CONSEC 0).setReg p R.TILE.TRIM 0).setFlag p F.TILE.STATUS_TRIM_SAT false

theorem reg_tileStopped (d : Dev) (n : Nat) {o : Nat} (h : o ≠ R.TILE.CAL_STATUS) :
    (d.tileStopped n).reg (pg .tile n) o = (d.stopMarked n).reg (pg .tile n) o := reg_outputsLow (d.stopMarked n) n h

theorem tstate_tileStopped (d : Dev) (n : Nat) : (d.tileStopped n).tstate n = 1 := by
  have hreg : (d.tileStopped n).tstate n = (d.stopMarked n).tstate n := fld_of_reg (reg_tileStopped d n (by decide))
  rw [hreg]
  simp (disch := decide) only [tstate, stopMarked, fld_setFlag_apart, fld_setReg_apart, fld_setFld_self]
  rfl

theorem consec_tileStopped (d : Dev) (n : Nat) : (d.tileStopped n).reg (pg .tile n) R.TILE.CONSEC = 0 := by
  rw [reg_tileStopped _ _ (by decide)]
  simp (disch := decide) only [stopMarked, reg_setFlag_apart, reg_setReg_apart, reg_setReg_self]

theorem trim_tileStopped (d : Dev) (n : Nat) : (d.tileStopped n).reg (pg .tile n) R.TILE.TRIM = 0 := by
  rw [reg_tileStopped _ _ (by decide)]
  simp (disch := decide) only [stopMarked, reg_setFlag_apart, reg_setReg_self]

theorem isLow_tileStopped (d : Dev) {n : Nat} (hn : n < 24) : ((d.tileStopped n).tileS n).IsLow := by
  rw [tileStopped, tileS_modTile_self _ hn]
  exact isLow_outputsLow _ hn

/-- Other fields of the tile's page read as before the stop. -/
theorem fld_tileStopped_other (d : Dev) (n : Nat) {f : Fld}
    (h : FieldsApart f F.TILE.STATUS_TSTATE ∧ FieldsApart f F.TILE.STATUS_TRIM_SAT ∧ f.ofs ≠ R.TILE.CONSEC ∧ f.ofs ≠ R.TILE.TRIM ∧
      f.ofs ≠ R.TILE.CAL_STATUS) : (d.tileStopped n).fld (pg .tile n) f = d.fld (pg .tile n) f := by
  obtain ⟨hstate, hsat, hconsec, htrim, hcal⟩ := h
  rw [fld_of_reg (reg_tileStopped d n hcal), stopMarked, fld_setFlag_apart _ _ hsat, fld_setReg_apart _ _ htrim,
    fld_setReg_apart _ _ hconsec, fld_setFld_apart _ _ hstate]

theorem unkillTile_notKilled {d : Dev} {n : Nat} (h : d.tstate n ≠ 4) : d.unkillTile n = d :=
  if_neg (by simp [h])

theorem killTile_eq {d : Dev} {n : Nat} (h : d.tstate n ≠ 0) (cause : TileS → TileS) :
    d.killTile n cause = ((d.stopNow n).setFld (pg .tile n) F.TILE.STATUS_TSTATE 4).modTile n cause := if_neg h

theorem tstate_killTile {d : Dev} {n : Nat} (h : d.tstate n ≠ 0) (cause : TileS → TileS) : (d.killTile n cause).tstate n = 4 := by
  rw [killTile_eq h, tstate_modTile]
  exact fld_setFld_self _ _ _ _ (by decide)

/-- A killed tile is low, and has the cause of the stop. -/
theorem tileS_killTile {d : Dev} {n : Nat} (hn : n < 24) (h : d.tstate n ≠ 0) (cause : TileS → TileS) :
    ∃ t : TileS, t.IsLow ∧ (d.killTile n cause).tileS n = cause t :=
  ⟨(d.stopNow n).tileS n, isLow_outputsLow _ hn, by rw [killTile_eq h, tileS_modTile_self _ hn, tileS_setFld]⟩

theorem reg_killTile (d : Dev) (n : Nat) (cause : TileS → TileS) {o : Nat}
    (h : (o ≠ R.HDR.EVENT ∧ o ≠ R.TILE.PULSE_DROPS) ∧ o ≠ R.TILE.CAL_STATUS ∧ o ≠ R.HDR.STATUS) :
    (d.killTile n cause).reg (pg .tile n) o = d.reg (pg .tile n) o := by
  obtain ⟨hedge, hcal, hstatus⟩ := h
  unfold killTile
  split
  · rfl
  · rw [reg_modTile, reg_setFld_apart _ _ hstatus, stopNow, reg_outputsLow _ _ hcal, reg_tileAdvance _ _ _ hedge]

/-! ## Function TRIP by its level (R124–R126) -/

theorem cmpFunc_of_cmpSet {d e : Dev} {n : Nat} {c : Cmp} (hkeys : e.keys = d.keys) (h : e.cmpSet n c = d.cmpSet n c) :
    e.cmpFunc n c = d.cmpFunc n c := by
  unfold cmpFunc keyTag
  rw [hkeys, h]

/-- A comparator trips its tile where it has function TRIP and its output is tripped. None does in DISABLED. -/
theorem tripMask_eq_zero {d : Dev} {n : Nat}
    (h : d.tstate n = 0 ∨ ∀ c, d.cmpFunc n c = 4 → d.flag (pg .tile n) (cmpFlag c) = false) : d.tripMask n = 0 := by
  have hnone : ∀ c, (d.tstate n != 0 && d.cmpFunc n c == 4 && d.flag (pg .tile n) (cmpFlag c)) = false := by
    intro c
    by_cases hfunc : d.cmpFunc n c = 4
    · rcases h with hoff | hclear
      · simp [hoff]
      · simp [hclear c hfunc]
    · simp [hfunc]
  simp only [tripMask, hnone]
  rfl

theorem tile_lower (d : Dev) (k : PageKind) (i b : Nat) : (d.lower k i b).tile = d.tile := by
  simp only [lower]
  split
  · split <;> rfl
  · rfl

/-- The active bit of a source stands on the page FAULT (R428). -/
theorem pageRegs_lower (d : Dev) {k : PageKind} {i b p : Nat} (hp : p ≠ pg .fault) (hs : srcNo k i b < 512) :
    (d.lower k i b).pageRegs p = d.pageRegs p := by
  have hofs : R.FAULT.ACTIVE + 4 * (srcNo k i b / 32) < 0x1000 := by unfold R.FAULT.ACTIVE; omega
  have hinactive : (d.setActive (srcNo k i b) false).pageRegs p = d.pageRegs p := pageRegs_setFld d _ ⟨hp, hofs⟩
  simp only [lower]
  split
  · split <;> exact hinactive
  · rfl

theorem pg_tile_ne_fault (n : Nat) : pg .tile n ≠ pg .fault := by
  simp only [pg, PageKind.first]; omega

/-- Where no comparator trips a tile that is not in KILLED, the level of function TRIP is at most lowered. -/
theorem tripLevel_untripped {d : Dev} {n : Nat} (hn : n < 24) (hmask : d.tripMask n = 0) (hst : d.tstate n ≠ 4) :
    (d.tripLevel n).pageRegs (pg .tile n) = d.pageRegs (pg .tile n) ∧
      (∃ k, (d.tripLevel n).tileS n = { d.tileS n with killTrip := k }) ∧ (d.tripLevel n).mem = d.mem := by
  have hpage : (d.lower .tile n B.TILE.TILE_TRIP).pageRegs (pg .tile n) = d.pageRegs (pg .tile n) :=
    pageRegs_lower d (pg_tile_ne_fault n) (srcNo_lt (k := .tile) hn (by decide))
  have hlow : (d.lower .tile n B.TILE.TILE_TRIP).tileS n = d.tileS n := tileS_of_tile (tile_lower d _ _ _) n
  have hst' : ∀ f, ((d.lower .tile n B.TILE.TILE_TRIP).modTile n f).tstate n ≠ 4 := fun f => by
    rw [tstate_modTile, tstate, fld_of_pageRegs hpage (by decide)]
    exact hst
  simp only [tripLevel, hmask, ne_eq, not_true_eq_false, if_false]
  split
  · split
    · exact ⟨hpage, ⟨_, hlow⟩, by simp⟩
    · rw [unkillTile_notKilled (hst' _), tileS_modTile_self _ hn, hlow]
      exact ⟨hpage, ⟨_, rfl⟩, by simp⟩
  · exact ⟨rfl, ⟨_, rfl⟩, rfl⟩

end Dev
end Sys2Proof.Machine
end

section
/-!
PROOFS. Enabling and stopping a tile (R120–R124): a write of its CTRL, and a readback of its outputs that differs.
-/
namespace Sys2Proof.Machine
namespace Dev

/-! ## CTRL.ENABLE (R121, R122) -/

/-- A write of CTRL without SOFT_RESET: ENABLE = 1 needs the tile's key. -/
theorem regWrite_tileCtrl {d : Dev} {m : Master} {n : Nat} (hpage : pageOf (pg .tile n) = some ⟨.tile, n⟩) (on : Bool) :
    d.regWrite m .tile n R.HDR.CTRL (BitVec.ofNat 32 (b2n on)) {} =
      if on && !d.keyHeldBy m (0x100 + n) then d.event (pg .tile n) F.HDR.EVENT_NOKEY else d.tileEnable n on := by
  have hkey : pageKey (pg .tile n) = some (0x100 + n) := by simp [pageKey, hpage]
  have henable : ∀ on, bitAt (BitVec.ofNat 32 (b2n on)).toNat 0 = on := by decide
  have hsoft : ∀ on, bitAt (BitVec.ofNat 32 (b2n on)).toNat 1 = false := by decide
  rw [regWrite_header (by decide) (by decide) _ _ _ (by decide)]
  show d.ctrlWrite m .tile n (BitVec.ofNat 32 (b2n on)) [] = _
  simp only [ctrlWrite, henable, hsoft, hkey, Bool.false_eq_true, if_false]
  rfl

/-- The conditions under which ENABLE of a tile is refused. -/
theorem tileConfigBad_iff (d : Dev) (n : Nat) : d.tileConfigBad n = true ↔
    d.fld (pg .tile n) F.TILE.PER_MAX_PERIOD < d.fld (pg .tile n) F.TILE.PER_MIN_PERIOD ∨
    d.fld (pg .tile n) F.TILE.PER_MIN_PERIOD <
      d.deadTime n .h + d.deadTime n .l + 128 * d.fld (pg .tile n) F.TILE.MIN_PULSE_MIN ∨
    ¬ ((d.cmpSet n .a = 3 ∨ d.cmpSet n .b = 3) ↔ d.tileMode n = 4) := by
  have hvalley : ((d.cmpSet n .a == 3 || d.cmpSet n .b == 3) != (d.tileMode n == 4)) = true ↔
      ¬ ((d.cmpSet n .a = 3 ∨ d.cmpSet n .b = 3) ↔ d.tileMode n = 4) := by
    rw [bne_iff_ne, ne_eq, Bool.eq_iff_iff]
    simp
  simp only [tileConfigBad, Bool.or_eq_true, decide_eq_true_eq, hvalley, or_assoc]

/-- A tile that is enabled enters STOPPED, before its comparators act. -/
def tileEnabled (d : Dev) (n : Nat) : Dev := (d.setFld (pg .tile n) F.HDR.CTRL_ENABLE 1).tileStopped n

/-- A tile that is disabled stops, and shows DISABLED, before the source of its comparators is lowered. -/
def tileDisabled (d : Dev) (n : Nat) : Dev :=
  ((d.setFld (pg .tile n) F.HDR.CTRL_ENABLE 0).tileStopped n).setFld (pg .tile n) F.TILE.STATUS_TSTATE 0

theorem tileEnable_sound {d : Dev} {n : Nat} (hoff : d.flag (pg .tile n) F.HDR.CTRL_ENABLE = false) (h : d.tileConfigBad n = false) :
    d.tileEnable n true = (d.tileEnabled n).tripLevel n := by
  simp only [tileEnable, hoff, h, if_true, Bool.false_eq_true, if_false]
  rfl

theorem tileEnable_unsound {d : Dev} {n : Nat} (hoff : d.flag (pg .tile n) F.HDR.CTRL_ENABLE = false) (h : d.tileConfigBad n = true) :
    d.tileEnable n true = d.event (pg .tile n) F.TILE.EVENT_CFG_BAD := by
  simp only [tileEnable, hoff, h, if_true, Bool.false_eq_true, if_false]

theorem tileEnable_off {d : Dev} {n : Nat} (hon : d.flag (pg .tile n) F.HDR.CTRL_ENABLE = true) :
    d.tileEnable n false = (d.tileDisabled n).tripLevel n := by
  simp only [tileEnable, hon, if_true, Bool.false_eq_true, if_false]
  rfl

/-- Fields of a tile's configuration and of its comparators read as before the tile was enabled. -/
theorem fld_tileEnabled_other (d : Dev) (n : Nat) {f : Fld}
    (h : FieldsApart f F.TILE.STATUS_TSTATE ∧ FieldsApart f F.TILE.STATUS_TRIM_SAT ∧ f.ofs ≠ R.TILE.CONSEC ∧ f.ofs ≠ R.TILE.TRIM ∧
      f.ofs ≠ R.TILE.CAL_STATUS) (hctrl : FieldsApart f F.HDR.CTRL_ENABLE) :
    (d.tileEnabled n).fld (pg .tile n) f = d.fld (pg .tile n) f := by
  rw [tileEnabled, fld_tileStopped_other _ _ h, fld_setFld_apart _ _ hctrl]

theorem cmpFunc_tileEnabled (d : Dev) (n : Nat) (c : Cmp) : (d.tileEnabled n).cmpFunc n c = d.cmpFunc n c := by
  refine cmpFunc_of_cmpSet (by simp [tileEnabled]) ?_
  cases c <;> exact fld_tileEnabled_other d n (by decide) (by decide)

theorem cmpFlag_tileEnabled (d : Dev) (n : Nat) (c : Cmp) :
    (d.tileEnabled n).flag (pg .tile n) (cmpFlag c) = d.flag (pg .tile n) (cmpFlag c) := by
  refine flag_of_fld ?_
  cases c <;> exact fld_tileEnabled_other d n (by decide) (by decide)

/-- ENABLE with no comparator of function TRIP tripped. -/
theorem tileEnabled_spec {d : Dev} {n : Nat} (hn : n < 24)
    (htrip : ∀ c, d.cmpFunc n c = 4 → d.flag (pg .tile n) (cmpFlag c) = false) :
    ((d.tileEnabled n).tripLevel n).flag (pg .tile n) F.HDR.CTRL_ENABLE = true ∧ ((d.tileEnabled n).tripLevel n).tstate n = 1 ∧
      ((d.tileEnabled n).tripLevel n).reg (pg .tile n) R.TILE.CONSEC = 0 ∧
      ((d.tileEnabled n).tripLevel n).reg (pg .tile n) R.TILE.TRIM = 0 ∧ ((d.tileEnabled n).tripLevel n).mem = d.mem := by
  have hstate : (d.tileEnabled n).tstate n = 1 := tstate_tileStopped _ _
  have hmask : (d.tileEnabled n).tripMask n = 0 := tripMask_eq_zero <| .inr fun c hfunc => by
    rw [cmpFlag_tileEnabled, htrip c (by rwa [cmpFunc_tileEnabled] at hfunc)]
  obtain ⟨hpage, -, hmem⟩ := tripLevel_untripped hn hmask (by rw [hstate]; decide)
  refine ⟨?on, (fld_of_pageRegs hpage (by decide)).trans hstate, (reg_of_pageRegs hpage (by decide)).trans (consec_tileStopped _ _),
    (reg_of_pageRegs hpage (by decide)).trans (trim_tileStopped _ _), by rw [hmem]; simp [tileEnabled]⟩
  case on =>
    rw [flag_of_pageRegs hpage (by decide), tileEnabled, flag_of_fld (fld_tileStopped_other _ _ (by decide)),
      flag_setFld_self _ _ _ _ (by decide)]
    rfl

/-- ENABLE = 0: the tile is DISABLED, with its outputs low. -/
theorem tileDisabled_spec (d : Dev) {n : Nat} (hn : n < 24) :
    ((d.tileDisabled n).tripLevel n).flag (pg .tile n) F.HDR.CTRL_ENABLE = false ∧ ((d.tileDisabled n).tripLevel n).tstate n = 0 ∧
      (((d.tileDisabled n).tripLevel n).tileS n).IsLow ∧ ((d.tileDisabled n).tripLevel n).mem = d.mem := by
  have hstate : (d.tileDisabled n).tstate n = 0 := fld_setFld_self _ _ _ _ (by decide)
  have hlow : ((d.tileDisabled n).tileS n).IsLow := by
    rw [tileDisabled, tileS_setFld]
    exact isLow_tileStopped _ hn
  obtain ⟨hpage, ⟨k, htile⟩, hmem⟩ := tripLevel_untripped hn (tripMask_eq_zero (.inl hstate)) (by rw [hstate]; decide)
  refine ⟨?off, (fld_of_pageRegs hpage (by decide)).trans hstate, ?low, by rw [hmem]; simp [tileDisabled]⟩
  case off =>
    rw [flag_of_pageRegs hpage (by decide), tileDisabled, flag_setFld_apart _ _ (by decide),
      flag_of_fld (fld_tileStopped_other _ _ (by decide)), flag_setFld_self _ _ _ _ (by decide)]
    rfl
  case low =>
    rw [htile]
    exact hlow

/-! ## Readback (R120, R123) -/

/-- A tile stopped by a readback that differs, the error counted. -/
def readbackKilled (d : Dev) (n : Nat) : Dev :=
  (d.killTile n (fun t => { t with killOut := true })).bump (pg .tile n) R.TILE.OUT_ERRS

theorem outputReadback_differs (d : Dev) (n : Nat) {detail : Nat} (h : detail ≠ 0) :
    d.outputReadback n detail = (d.readbackKilled n).raiseLevel .tile n B.TILE.TILE_OUTPUT detail := if_neg h

theorem readbackKilled_spec {d : Dev} {n : Nat} (hn : n < 24) (hst : d.tstate n ≠ 0) :
    (d.readbackKilled n).tstate n = 4 ∧ ((d.readbackKilled n).tileS n).hSched = [] ∧ ((d.readbackKilled n).tileS n).lSched = [] ∧
      ((d.readbackKilled n).tileS n).killOut = true ∧
      (d.readbackKilled n).reg (pg .tile n) R.TILE.OUT_ERRS = d.reg (pg .tile n) R.TILE.OUT_ERRS + 1 := by
  obtain ⟨t, ⟨hhigh, hlow, -, -⟩, htile⟩ := tileS_killTile hn hst (fun t => { t with killOut := true })
  have hstate : (d.readbackKilled n).tstate n = (d.killTile n (fun t => { t with killOut := true })).tstate n :=
    fld_setReg_apart _ _ (by decide)
  rw [hstate, tstate_killTile hst, readbackKilled, tileS_bump, htile, reg_bump_self, reg_killTile _ _ _ (by decide)]
  exact ⟨rfl, hhigh, hlow, rfl, rfl⟩

end Dev

/-- A write of a tile's ENABLE, permitted and under the key rule, runs as the tile's. -/
theorem Runs.tileEnable {d : Dev} {m : Master} {n : Fin 24} {on : Bool} {t : Dev} (h : d.CanWrite m .tile n.val R.HDR.CTRL)
    (hkey : on = true → d.keyHeldBy m (0x100 + n.val) = true) (ht : d.tileEnable n.val on = t) : Runs (.tileEnable m n on) d t.done := by
  refine Runs.port h (by decide) (fun _ => rfl) ?_
  have hheld : (on && !d.keyHeldBy m (0x100 + n.val)) = false := by
    cases on
    · rfl
    · simp [hkey rfl]
  rw [Dev.regWrite_tileCtrl (Dev.pageOf_of_canWrite h (by decide)), hheld]
  exact ht

/-- Settles O19: ENABLE by the soundness of the configuration, ENABLE = 0, and the stop by a readback that differs. -/
theorem tileEnableAndKillRun : Obligations.TileEnableAndKillRun := by
  unfold Obligations.TileEnableAndKillRun
  intro d m n
  refine ⟨?enable, ?disable, ?readback⟩
  case enable =>
    refine fun h hkey hoff => ⟨fun hper hdead hvalley htrip => ?sound, fun hbad => ?unsound⟩
    case sound =>
      have hgood : d.tileConfigBad n.val = false := by
        rw [Bool.eq_false_iff, ne_eq, Dev.tileConfigBad_iff]
        rintro (hmax | hmin | hcmp)
        · omega
        · omega
        · exact hcmp hvalley
      obtain ⟨hon, hstate, hconsec, htrim, hmem⟩ := Dev.tileEnabled_spec n.isLt htrip
      refine ⟨_, Runs.tileEnable h (fun _ => hkey) (Dev.tileEnable_sound hoff hgood), ?_⟩
      rw [Dev.flag_done, Dev.tstate_done, Dev.reg_done, Dev.reg_done]
      exact ⟨hon, hstate, hconsec, htrim, by simpa using hmem, by simp [Dev.tileEnabled]⟩
    case unsound =>
      exact Runs.tileEnable h (fun _ => hkey) (Dev.tileEnable_unsound hoff ((d.tileConfigBad_iff n.val).mpr hbad))
  case disable =>
    intro h hon
    obtain ⟨hoff, hstate, ⟨hhigh, hlow, hhighTodo, hlowTodo⟩, hmem⟩ := d.tileDisabled_spec n.isLt
    refine ⟨_, Runs.tileEnable h (by simp) (Dev.tileEnable_off hon), ?_⟩
    rw [Dev.flag_done, Dev.tstate_done, Dev.tileS_done]
    exact ⟨hoff, hstate, hhigh, hlow, hhighTodo, hlowTodo, by simpa using hmem, by simp [Dev.tileDisabled]⟩
  case readback =>
    intro k hlive hk hst
    obtain ⟨hstate, hhigh, hlow, hcause, herrs⟩ := Dev.readbackKilled_spec n.isLt hst
    refine ⟨d.readbackKilled n.val, hstate, hhigh, hlow, hcause, herrs, Runs.live hlive (fun _ => rfl) ?_⟩
    rw [Dev.outputReadback_differs _ _ (Fin.val_ne_iff.mpr hk)]

end Sys2Proof.Machine
end

section
/-!
PROOFS. A tile at its period starts (R112, R122, R130, R131): what the end of a period leaves of the tile, what NCYC signals, and what a
period start does by the tile's state and by what its group asks for.
-/
namespace Sys2Proof.Machine
namespace Dev

/-! ## NCYC (R131) -/

/-- CONSEC has reached NCYC: the event set, and CONSEC 0 again. -/
def ncycMarked (d : Dev) (n : Nat) : Dev := (d.event (pg .tile n) F.TILE.EVENT_NCYC_REACHED).setReg (pg .tile n) R.TILE.CONSEC 0

theorem flag_ncycMarked_bound (d : Dev) (n : Nat) :
    (d.ncycMarked n).flag (pg .tile n) F.TILE.STATUS_BOUND = d.flag (pg .tile n) F.TILE.STATUS_BOUND := by
  rw [ncycMarked, flag_setReg_apart _ _ (by decide), flag_event_apart _ (by decide)]

theorem fld_ncycMarked_group (d : Dev) (n : Nat) :
    (d.ncycMarked n).fld (pg .tile n) F.TILE.STATUS_GROUP = d.fld (pg .tile n) F.TILE.STATUS_GROUP := by
  rw [ncycMarked, fld_setReg_apart _ _ (by decide), fld_event_apart _ (by decide)]

theorem flag_ncycMarked_event (d : Dev) (n : Nat) : (d.ncycMarked n).flag (pg .tile n) F.TILE.EVENT_NCYC_REACHED = true := by
  rw [ncycMarked, flag_setReg_apart _ _ (by decide)]
  exact flag_event_self _ _ _ (by decide) rfl

theorem consec_ncycMarked (d : Dev) (n : Nat) : (d.ncycMarked n).reg (pg .tile n) R.TILE.CONSEC = 0 := reg_setReg_self _ _ _ _ _

theorem convS_ncycMarked (d : Dev) (n g : Nat) : (d.ncycMarked n).convS g = d.convS g := by
  simp [convS, ncycMarked]

theorem gstate_ncycMarked (d : Dev) (n : Nat) {g : Nat} (hg : g < 8) : (d.ncycMarked n).gstate g = d.gstate g := by
  have hpage : pg .conv g ≠ pg .tile n := by simp only [pg, PageKind.first]; omega
  have hregs : (d.ncycMarked n).pageRegs (pg .conv g) = d.pageRegs (pg .conv g) := by
    rw [ncycMarked, pageRegs_setReg _ _ ⟨hpage, by decide⟩, pageRegs_event _ ⟨hpage, by decide⟩]
  exact fld_of_pageRegs hregs (by decide)

/-- The group that a tile is bound to is one of eight. -/
theorem group_lt (d : Dev) (n : Nat) : d.fld (pg .tile n) F.TILE.STATUS_GROUP < 8 := bitsOf_lt _ _ _

theorem convS_modConv_self (d : Dev) {g : Nat} (h : g < 8) (f : ConvS → ConvS) : (d.modConv g f).convS g = f (d.convS g) :=
  vget_vmod_self _ h _ _

theorem ncycReached_unbound {d : Dev} {n : Nat}
    (hreach : d.fld (pg .tile n) F.TILE.NCYC_NCYC ≤ (d.reg (pg .tile n) R.TILE.CONSEC).toNat)
    (hbound : d.flag (pg .tile n) F.TILE.STATUS_BOUND = false) : d.ncycReached n = d.ncycMarked n := by
  have hfree := (d.flag_ncycMarked_bound n).trans hbound
  unfold ncycMarked at hfree
  simp only [ncycReached, if_pos hreach, hfree, Bool.false_eq_true, if_false]
  rfl

/-- A bound tile signals its group in SOFT_START, RUNNING and BURST. -/
theorem ncycReached_bound {d : Dev} {n : Nat}
    (hreach : d.fld (pg .tile n) F.TILE.NCYC_NCYC ≤ (d.reg (pg .tile n) R.TILE.CONSEC).toNat)
    (hbound : d.flag (pg .tile n) F.TILE.STATUS_BOUND = true)
    (hg : 2 ≤ d.gstate (d.fld (pg .tile n) F.TILE.STATUS_GROUP) ∧ d.gstate (d.fld (pg .tile n) F.TILE.STATUS_GROUP) ≤ 4) :
    ∃ slot, d.ncycReached n = (d.ncycMarked n).modConv (d.fld (pg .tile n) F.TILE.STATUS_GROUP)
      (fun c => { c with signals := c.signals ++ [slot] }) := by
  have hheld := (d.flag_ncycMarked_bound n).trans hbound
  have hgroup := d.fld_ncycMarked_group n
  have hstate := d.gstate_ncycMarked n (d.group_lt n)
  unfold ncycMarked at hheld hgroup hstate
  simp only [ncycReached, if_pos hreach, hheld, hgroup, hstate, if_pos hg, if_true]
  exact ⟨_, rfl⟩

/-! ## The end of a period (R108, R130, R132) -/

@[simp] theorem tileS_modConv (d : Dev) (g n : Nat) (f : ConvS → ConvS) : (d.modConv g f).tileS n = d.tileS n := rfl
@[simp] theorem tileS_bump64 (d : Dev) (p o : Nat) (i : Int) (n : Nat) : (d.bump64 p o i).tileS n = d.tileS n := rfl
@[simp] theorem tileS_ite (c : Prop) [Decidable c] (a b : Dev) (n : Nat) :
    (if c then a else b).tileS n = if c then a.tileS n else b.tileS n := apply_ite (tileS · n) _ _ _

theorem tileS_ncycReached (d : Dev) (n : Nat) : (d.ncycReached n).tileS n = d.tileS n := by
  simp [ncycReached]

/-- A period that ends is counted, with CYCLIM and CONSEC by whether it was cycle-limited (R130). -/
def periodCounted (d : Dev) (n : Nat) (t : TileS) : Dev :=
  let p := pg .tile n
  let e := d.bump64 p R.TILE.PERIODS 1
  if t.limited then ((e.bump p R.TILE.CYCLIM).bump p R.TILE.CONSEC).event p F.TILE.EVENT_CYCLIM else e.setReg p R.TILE.CONSEC 0

/-- The trim that the next period uses (R132), where the period does not hold it (R133). -/
def trimUpdated (d : Dev) (n : Nat) (t : TileS) : Dev :=
  let p := pg .tile n
  let lim : Int := d.fld p F.TILE.TRIM_CFG_MAX * 65536
  let acc := clampI (t.trimAcc + (t.share - divRound t.trimSum t.trimN) * bitsOf t.live.gain.toNat 0 16) (-lim) lim
  let sat := acc = lim ∨ acc = -lim
  let shown := (d.setReg p R.TILE.TRIM (BitVec.ofNat 32 (ofSigned 16 (asr acc 16) + (if sat then 65536 else 0)))).setFlag p
    F.TILE.STATUS_TRIM_SAT sat
  (if sat then shown.event p F.TILE.EVENT_TRIM_SAT else shown).modTile n (fun t => { t with trimAcc := acc })

/-- The trim at the end of a period (R132, R133). -/
def trimEnded (d : Dev) (n : Nat) (t : TileS) : Dev :=
  if d.flag (pg .tile n) F.TILE.TRIM_CFG_EN then
    if t.limited || t.dropped || t.hold || t.trimN == 0 then d.setFlag (pg .tile n) F.TILE.TRIM_FROZEN true else d.trimUpdated n t
  else d

/-- The group of a bound tile learns of a cycle-limited period (R16, R160, R176). -/
def limitTold (d : Dev) (n : Nat) (t : TileS) : Dev :=
  if t.limited then
    if d.flag (pg .tile n) F.TILE.STATUS_BOUND then
      d.modConv (d.fld (pg .tile n) F.TILE.STATUS_GROUP) (fun c => { c with
        limitedSeen := true, sinceLimited := 0, cleanRun := 0, cleanFrom := c.cleanFrom.map (fun _ => d.now) })
    else d
  else d

/-- The end of a period, in the order of its parts. -/
theorem endPeriod_eq (d : Dev) (n : Nat) :
    d.endPeriod n = ((d.periodCounted n (d.tileS n)).trimEnded n (d.tileS n)).limitTold n (d.tileS n) := rfl

theorem tileS_periodCounted (d : Dev) (n : Nat) (t : TileS) : (d.periodCounted n t).tileS n = d.tileS n := by
  simp only [periodCounted]
  split
  · rw [tileS_event, tileS_bump, tileS_bump, tileS_bump64]
  · rw [tileS_setReg, tileS_bump64]

theorem settings_trimUpdated (d : Dev) (n : Nat) (t : TileS) : ((d.trimUpdated n t).tileS n).settings = (d.tileS n).settings := by
  simp only [trimUpdated]
  rw [settings_modTile, tileS_ite, tileS_event, ite_self, tileS_setFlag, tileS_setReg]
  exact fun _ => rfl

theorem settings_trimEnded (d : Dev) (n : Nat) (t : TileS) : ((d.trimEnded n t).tileS n).settings = (d.tileS n).settings := by
  simp only [trimEnded]
  split
  · split
    · rw [tileS_setFlag]
    · exact settings_trimUpdated d n t
  · rfl

theorem tileS_limitTold (d : Dev) (n : Nat) (t : TileS) : (d.limitTold n t).tileS n = d.tileS n := by
  simp [limitTold]

theorem settings_endPeriod (d : Dev) (n : Nat) : ((d.endPeriod n).tileS n).settings = (d.tileS n).settings := by
  rw [endPeriod_eq, tileS_limitTold, settings_trimEnded, tileS_periodCounted]

/-- A period that ends leaves the tile's settings, and its start moves on by the period's length. -/
theorem tileS_finishPeriod (d : Dev) {n : Nat} (hn : n < 24) : ∃ t : TileS, t.settings = (d.tileS n).settings ∧
    (d.finishPeriod n).tileS n = { t with start := t.start + d.endedLen n, lastLen := d.endedLen n } := by
  simp only [finishPeriod]
  refine ⟨_, ?_, tileS_modTile_self _ hn _⟩
  rw [settings_endPeriod, tileS_ncycReached]
  split <;> simp

/-! ## Period starts (R112, R122, R123) -/

theorem tilePeriodStart_stop {d : Dev} {n : Nat} (hst : d.tstate n = 2) (hwant : (d.tileS n).want = .stop) :
    d.tilePeriodStart n = (d.ncycReached n).tileStopped n := by
  simp [tilePeriodStart, hst, hwant]

/-- A HELD tile asked to run begins at its slot with both outputs low. -/
theorem tilePeriodStart_run {d : Dev} {n : Nat} (hst : d.tstate n = 2) (hwant : (d.tileS n).want = .run) (hrun : d.state = 4) :
    d.tilePeriodStart n = ((d.setFld (pg .tile n) F.TILE.STATUS_TSTATE 3).modTile n
      (fun t => { t.low with start := d.entryStart n, lastLen := 0 })).layPeriod n true := by
  simp [tilePeriodStart, hst, hwant, hrun]

/-- A tile that has been switching is HELD with both outputs low. -/
def periodHeld (d : Dev) (n : Nat) : Dev := ((d.finishPeriod n).outputsLow n).setFld (pg .tile n) F.TILE.STATUS_TSTATE 2

theorem want_finishPeriod (d : Dev) {n : Nat} (hn : n < 24) : ((d.finishPeriod n).tileS n).want = (d.tileS n).want := by
  obtain ⟨t, hset, htile⟩ := d.tileS_finishPeriod hn
  rw [htile]
  exact congrArg (·.2.1) hset

theorem tilePeriodStart_hold {d : Dev} {n : Nat} (hn : n < 24) (hst : d.tstate n = 3) (hwant : (d.tileS n).want = .hold) :
    d.tilePeriodStart n = d.periodHeld n := by
  simp [tilePeriodStart, hst, want_finishPeriod d hn, hwant, periodHeld]

theorem tstate_periodHeld (d : Dev) (n : Nat) : (d.periodHeld n).tstate n = 2 := fld_setFld_self _ _ _ _ (by decide)

theorem isLow_periodHeld (d : Dev) {n : Nat} (hn : n < 24) : ((d.periodHeld n).tileS n).IsLow := by
  rw [periodHeld, tileS_setFld]
  exact isLow_outputsLow _ hn

/-- The next period of a tile that is HELD begins where the last one has ended. -/
theorem start_periodHeld (d : Dev) {n : Nat} (hn : n < 24) :
    ((d.periodHeld n).tileS n).start = (d.tileS n).start + d.endedLen n := by
  obtain ⟨t, hset, htile⟩ := d.tileS_finishPeriod hn
  have hstart : (((d.finishPeriod n).outputsLow n).tileS n).start = ((d.finishPeriod n).tileS n).start :=
    congrArg Prod.fst (settings_outputsLow (d.finishPeriod n) n)
  rw [periodHeld, tileS_setFld, hstart, htile]
  exact congrArg (·.1 + d.endedLen n) hset

end Dev

/-- Settles O20: a period start by what the group asks for, and CONSEC at NCYC by whether the tile is bound. -/
theorem tilePeriodsRun : Obligations.TilePeriodsRun := by
  unfold Obligations.TilePeriodsRun
  intro d n p hlive
  have starts : ∀ {e : Dev}, d.tilePeriodStart n.val = e → Runs (.tilePeriodStart n) d e.offSettle := fun he =>
    Runs.live hlive (fun _ => rfl) (congrArg Dev.offSettle he)
  refine ⟨fun hst hwant => ?stop, fun hst hwant => ?hold, fun hst hwant hrun => starts (Dev.tilePeriodStart_run hst hwant hrun),
    fun hreach hfree => Runs.live hlive (fun _ => rfl) (Dev.ncycReached_unbound hreach hfree), ?signal⟩
  case stop =>
    exact ⟨_, Dev.tstate_tileStopped _ _, Dev.consec_tileStopped _ _, Dev.trim_tileStopped _ _, by simp, by simp,
      starts (Dev.tilePeriodStart_stop hst hwant)⟩
  case hold =>
    obtain ⟨hhigh, hlow, hhighTodo, hlowTodo⟩ := d.isLow_periodHeld n.isLt
    exact ⟨d.periodHeld n.val, d.tstate_periodHeld n.val, hhigh, hlow, hhighTodo, hlowTodo,
      d.start_periodHeld n.isLt, by simp [Dev.periodHeld], by simp [Dev.periodHeld], starts (Dev.tilePeriodStart_hold n.isLt hst hwant)⟩
  case signal =>
    intro hreach hbound g hlo hhi
    obtain ⟨slot, heq⟩ := Dev.ncycReached_bound hreach hbound ⟨hlo, hhi⟩
    refine ⟨_, Runs.live hlive (fun _ => rfl) heq, ?consec, ?event, ⟨slot, ?signals⟩, by simp [Dev.ncycMarked], by simp [Dev.ncycMarked]⟩
    case consec => rw [Dev.reg_modConv, Dev.consec_ncycMarked]
    case event => rw [Dev.flag_modConv, Dev.flag_ncycMarked_event]
    case signals =>
      rw [Dev.convS_modConv_self _ (d.group_lt n.val), Dev.convS_ncycMarked]

end Sys2Proof.Machine
end

section
/-!
PROOFS. The delay-line measurement and the comparators of a tile (R110, R112, R125–R128): a measurement's result, a crossing by the
comparator's function, and the end of blanking.
-/
namespace Sys2Proof.Machine
namespace Dev

/-! ## The measurement (R109, R110) -/

/-- A write of a block-specific register of TILE is the tile's. -/
theorem regWrite_tile (d : Dev) (m : Master) (n : Nat) {ofs : Nat} (h : 0x100 ≤ ofs ∧ ofs < 0x800) (w : Word) (f : WriteFacts) :
    d.regWrite m .tile n ofs w f = d.tileWrite m n ofs w := by
  have hhdr : ¬ ofs < 0x100 := by omega
  simp [regWrite, hhdr, h.2, blockWrite]

/-- A write of CAL_CTRL with RUN = 1 starts a measurement. -/
theorem tileWrite_calRun (d : Dev) (m : Master) (n : Nat) (w : Word) : d.tileWrite m n R.TILE.CAL_CTRL (w ||| 0x10000#32) =
    (d.plainWrite m .tile n R.TILE.CAL_CTRL (w ||| 0x10000#32)).calStart n := by
  have hrun : bitAt (w ||| 0x10000#32).toNat 16 = true := by
    have hmask : (65536 : Nat).testBit 16 = true := by decide
    rw [bitAt_eq_testBit, BitVec.toNat_or, Nat.testBit_or]
    exact Bool.or_eq_true_iff.mpr (.inr hmask)
  have ha : R.TILE.CAL_CTRL ≠ R.TILE.CMPA_CFG := by decide
  have hb : R.TILE.CAL_CTRL ≠ R.TILE.CMPB_CFG := by decide
  simp only [tileWrite, ha, hb, hrun, if_false, if_true, and_self]

/-- A measurement that ends is counted. -/
def calCounted (d : Dev) (n : Nat) : Dev :=
  ((d.bump (pg .tile n) R.TILE.CAL_RUNS).event (pg .tile n) F.TILE.EVENT_CAL_DONE).modTile n (fun t => { t with calBusy := false })

/-- A valid result, before the tap table is taken into use. -/
def calAccepted (d : Dev) (n cpc : Nat) : Dev :=
  let p := pg .tile n
  ((((d.calCounted n).setFlag p F.TILE.CAL_STATUS_LAST_FAILED false).setFlag p F.TILE.CAL_STATUS_VALID true).setFlag p
    F.TILE.STATUS_CAL_VALID true).modTile n (fun t => { t with pendCpc := some cpc, lastCpc := some cpc })

/-- A result that is not valid, before TILE_CAL is raised. -/
def calFailed (d : Dev) (n : Nat) : Dev := (d.calCounted n).setFlag (pg .tile n) F.TILE.CAL_STATUS_LAST_FAILED true

theorem tstate_calAccepted (d : Dev) (n cpc : Nat) : (d.calAccepted n cpc).tstate n = d.tstate n := by
  rw [calAccepted, tstate_modTile, tstate, fld_setFlag_apart _ _ (by decide), fld_setFlag_apart _ _ (by decide),
    fld_setFlag_apart _ _ (by decide), calCounted, fld_modTile, fld_event_apart _ (by decide), fld_bump_apart _ (by decide), tstate]

/-- The first result in range is valid: it has no predecessor to differ from. -/
theorem calDone_valid {d : Dev} {n cpc : Nat} (hbusy : (d.tileS n).calBusy = true) (hlo : 1152 ≤ cpc) (hhi : cpc ≤ 1984)
    (hfirst : (d.tileS n).lastCpc = none) :
    d.calDone n cpc = if d.tstate n = 3 then d.calAccepted n cpc else (d.calAccepted n cpc).takeTable n := by
  rw [← d.tstate_calAccepted n cpc]
  simp only [calDone, hbusy, hfirst, hlo, hhi, Bool.not_true, Bool.false_eq_true, if_false, decide_true, Bool.and_self, if_true,
    calAccepted, calCounted]
  rfl

theorem calDone_invalid {d : Dev} {n cpc : Nat} (hbusy : (d.tileS n).calBusy = true) (hout : cpc < 1152 ∨ 1984 < cpc) :
    d.calDone n cpc = (d.calFailed n).raise .tile n B.TILE.TILE_CAL cpc := by
  have hrange : (decide (1152 ≤ cpc) && decide (cpc ≤ 1984)) = false := by
    simp only [Bool.and_eq_false_iff, decide_eq_false_iff_not]
    omega
  simp only [calDone, hbusy, hrange, Bool.not_true, Bool.false_and, Bool.false_eq_true, if_false, calFailed, calCounted]

theorem takeTable_waiting {d : Dev} {n c : Nat} (h : (d.tileS n).pendCpc = some c) : d.takeTable n =
    (d.setFld (pg .tile n) F.TILE.CAL_STATUS_CPC c).modTile n (fun t => { t with tableCpc := c, pendCpc := none }) := by
  simp only [takeTable, h]

theorem tileS_calCounted (d : Dev) {n : Nat} (hn : n < 24) : (d.calCounted n).tileS n = { d.tileS n with calBusy := false } := by
  rw [calCounted, tileS_modTile_self _ hn, tileS_event, tileS_bump]

theorem tileS_calAccepted (d : Dev) {n : Nat} (hn : n < 24) (cpc : Nat) :
    (d.calAccepted n cpc).tileS n = { d.tileS n with calBusy := false, pendCpc := some cpc, lastCpc := some cpc } := by
  simp only [calAccepted]
  rw [tileS_modTile_self _ hn, tileS_setFlag, tileS_setFlag, tileS_setFlag, tileS_calCounted d hn]

/-- What a valid result shows on the page: VALID, no failure, and one more run. -/
theorem calAccepted_shown (d : Dev) (n cpc : Nat) : (d.calAccepted n cpc).flag (pg .tile n) F.TILE.CAL_STATUS_VALID = true ∧
    (d.calAccepted n cpc).flag (pg .tile n) F.TILE.CAL_STATUS_LAST_FAILED = false ∧
    (d.calAccepted n cpc).reg (pg .tile n) R.TILE.CAL_RUNS = d.reg (pg .tile n) R.TILE.CAL_RUNS + 1 := by
  rw [calAccepted, flag_modTile, flag_modTile, reg_modTile]
  refine ⟨?valid, ?failed, ?runs⟩
  case valid => rw [flag_setFlag_apart _ _ (by decide), flag_setFlag_self _ _ _ _ (by decide) (by decide)]
  case failed =>
    rw [flag_setFlag_apart _ _ (by decide), flag_setFlag_apart _ _ (by decide), flag_setFlag_self _ _ _ _ (by decide) (by decide)]
  case runs =>
    rw [reg_setFlag_apart _ _ (by decide), reg_setFlag_apart _ _ (by decide), reg_setFlag_apart _ _ (by decide), calCounted,
      reg_modTile, reg_event_apart _ (by decide), reg_bump_self]
    rfl

/-- A valid result whose tap table is taken into use at once. -/
def calTaken (d : Dev) (n cpc : Nat) : Dev :=
  ((d.calAccepted n cpc).setFld (pg .tile n) F.TILE.CAL_STATUS_CPC cpc).modTile n (fun t => { t with tableCpc := cpc, pendCpc := none })

theorem takeTable_calAccepted (d : Dev) {n : Nat} (hn : n < 24) (cpc : Nat) : (d.calAccepted n cpc).takeTable n = d.calTaken n cpc :=
  takeTable_waiting (by rw [tileS_calAccepted d hn])

theorem tileS_calTaken (d : Dev) {n : Nat} (hn : n < 24) (cpc : Nat) : (d.calTaken n cpc).tileS n =
    { d.tileS n with calBusy := false, tableCpc := cpc, pendCpc := none, lastCpc := some cpc } := by
  rw [calTaken, tileS_modTile_self _ hn, tileS_setFld, tileS_calAccepted d hn]

/-- The tap table taken shows its CPC, and the rest as the result has left it. -/
theorem calTaken_shown (d : Dev) (n cpc : Nat) : (d.calTaken n cpc).flag (pg .tile n) F.TILE.CAL_STATUS_VALID = true ∧
    (d.calTaken n cpc).flag (pg .tile n) F.TILE.CAL_STATUS_LAST_FAILED = false ∧
    (d.calTaken n cpc).reg (pg .tile n) R.TILE.CAL_RUNS = d.reg (pg .tile n) R.TILE.CAL_RUNS + 1 := by
  rw [calTaken, flag_modTile, flag_modTile, reg_modTile, flag_setFld_apart _ _ (by decide), flag_setFld_apart _ _ (by decide),
    reg_setFld_apart _ _ (by decide)]
  exact d.calAccepted_shown n cpc

theorem calFailed_spec (d : Dev) {n : Nat} (hn : n < 24) : (d.calFailed n).flag (pg .tile n) F.TILE.CAL_STATUS_LAST_FAILED = true ∧
    ((d.calFailed n).tileS n).tableCpc = (d.tileS n).tableCpc ∧ ((d.calFailed n).tileS n).calBusy = false := by
  rw [calFailed, tileS_setFlag, tileS_calCounted d hn]
  exact ⟨flag_setFlag_self _ _ _ _ (by decide) (by decide), rfl, rfl⟩

/-! ## What the edges leave of the comparators (R112, R125–R127) -/

theorem cmpFunc_tileAdvance (d : Dev) (n x : Nat) (c : Cmp) : (d.tileAdvance n x).cmpFunc n c = d.cmpFunc n c := by
  refine cmpFunc_of_cmpSet (by simp) ?_
  cases c <;> exact fld_tileAdvance d n x (by decide)

theorem cmpFlag_tileAdvance (d : Dev) (n x : Nat) (c : Cmp) :
    (d.tileAdvance n x).flag (pg .tile n) (cmpFlag c) = d.flag (pg .tile n) (cmpFlag c) := by
  cases c <;> exact flag_tileAdvance d n x (by decide)

theorem cmpLive_tileAdvance (d : Dev) (n x : Nat) (c : Cmp) : (d.tileAdvance n x).cmpLive n c = d.cmpLive n c := by
  have hlive : ((d.tileAdvance n x).tileS n).live = (d.tileS n).live := congrArg (·.2.2) (settings_tileAdvance d n x)
  cases c <;> simp (disch := decide) only [cmpLive, tstate_tileAdvance, hlive, reg_tileAdvance, fld_tileAdvance]

/-- The threshold falls for PEAK_LIMIT alone (R127). -/
theorem threshold_unsloped {d : Dev} {n : Nat} {c : Cmp} (h : d.cmpFunc n c ≠ 1) (x : Nat) :
    d.threshold n c x = (d.cmpLive n c).2.2 := if_neg fun hpeak => h hpeak.1

/-- Active bits stand below the pages of the stages (R428). -/
theorem active_of_offStage {d e : Dev} (h : e.offStage = d.offStage) {s : Nat} (hs : s < 512) : e.active s = d.active s := by
  have hofs : R.FAULT.ACTIVE + 4 * (s / 32) < 0x1000 := by unfold R.FAULT.ACTIVE; omega
  unfold active
  rw [reg_of_pageRegs (pageRegs_of_offStage h (by decide)) hofs]

/-! ## Crossings (R126) -/

/-- A comparator whose function is OFF sees nothing but the edges up to the crossing. -/
theorem cmpCross_off {d : Dev} {n : Nat} {c : Cmp} (h : d.cmpFunc n c = 0) (uv x : Nat) :
    d.cmpCross n c uv x = d.tileAdvance n x := by
  simp only [cmpCross, cmpFunc_tileAdvance, h, true_or, if_true]

/-- CMPA shows a trip, and counts it. -/
def cmpATripped (d : Dev) (n x : Nat) : Dev :=
  ((d.tileAdvance n x).setFlag (pg .tile n) (cmpFlag .a) true).bump (pg .tile n) R.TILE.CMPA_TRIPS

/-- A crossing of CMPA under function TRIP. -/
theorem cmpCross_trip {d : Dev} {n uv : Nat} (hfunc : d.cmpFunc n .a = 4) (hclear : d.flag (pg .tile n) F.TILE.STATUS_CMPA_OUT = false)
    (hcross : cmpChanges (d.cmpLive n .a).1 false (d.cmpLive n .a).2.2 uv = true) (x : Nat) :
    d.cmpCross n .a uv x = (d.cmpATripped n x).tripLevel n := by
  have hfunc' : (d.tileAdvance n x).cmpFunc n .a = 4 := (d.cmpFunc_tileAdvance n x .a).trans hfunc
  have hclear' : (d.tileAdvance n x).flag (pg .tile n) (cmpFlag .a) = false := (d.cmpFlag_tileAdvance n x .a).trans hclear
  have hthreshold : (d.tileAdvance n x).threshold n .a x = (d.cmpLive n .a).2.2 := by
    rw [threshold_unsloped (by rw [hfunc']; decide), cmpLive_tileAdvance]
  simp only [cmpCross, hfunc', hclear', hthreshold, cmpLive_tileAdvance, hcross, Bool.not_true, Bool.false_eq_true, or_false, if_false,
    if_true, cmpATripped]
  rfl

theorem tstate_cmpATripped (d : Dev) (n x : Nat) : (d.cmpATripped n x).tstate n = d.tstate n := by
  rw [← d.tstate_tileAdvance n x]
  simp (disch := decide) only [tstate, cmpATripped, cmpFlag, fld_bump_apart, fld_setFlag_apart]

theorem cmpFunc_cmpATripped (d : Dev) (n x : Nat) (c : Cmp) : (d.cmpATripped n x).cmpFunc n c = d.cmpFunc n c := by
  refine cmpFunc_of_cmpSet (by simp [cmpATripped]) ?_
  have hsame : ∀ f : Fld, FieldsApart f (cmpFlag .a) → f.ofs ≠ R.TILE.CMPA_TRIPS → f.ofs ≠ R.HDR.EVENT ∧ f.ofs ≠ R.TILE.PULSE_DROPS →
      (d.cmpATripped n x).fld (pg .tile n) f = d.fld (pg .tile n) f := fun f hflag hcount hedge => by
    rw [cmpATripped, fld_bump_apart _ hcount, fld_setFlag_apart _ _ hflag, fld_tileAdvance _ _ _ hedge]
  cases c <;> exact hsame _ (by decide) (by decide) (by decide)

/-- Of the comparators of a tile that is not DISABLED, CMPA alone trips it. -/
theorem tripMask_cmpATripped {d : Dev} {n : Nat} (hst : d.tstate n ≠ 0) (ha : d.cmpFunc n .a = 4) (hb : d.cmpFunc n .b ≠ 4) (x : Nat) :
    (d.cmpATripped n x).tripMask n = 1 := by
  have hflag : (d.cmpATripped n x).flag (pg .tile n) (cmpFlag .a) = true := by
    rw [cmpATripped, flag_bump_apart _ (by decide), flag_setFlag_self _ _ _ _ (by decide) (by decide)]
  have hon : (d.tstate n != 0) = true := bne_iff_ne.mpr hst
  have hother : (d.cmpFunc n .b == 4) = false := beq_eq_false_iff_ne.mpr hb
  simp only [tripMask, tstate_cmpATripped, cmpFunc_cmpATripped, hflag, ha, hon, hother, beq_self_eq_true, Bool.and_self, Bool.and_false,
    Bool.false_and]
  rfl

theorem active_cmpATripped (d : Dev) (n x : Nat) {s : Nat} (hs : s < 512) : (d.cmpATripped n x).active s = d.active s := by
  refine active_of_offStage ?_ hs
  rw [cmpATripped, offStage_bump _ _ (stagePage_tile n) (by decide), offStage_setFlag _ _ (stagePage_tile n) (by decide), tileAdvance]
  simp

/-- The first comparator to trip a tile kills it, and makes TILE_TRIP active. -/
theorem tripLevel_first {d : Dev} {n : Nat} (hmask : d.tripMask n ≠ 0) (hnew : d.active (srcNo .tile n B.TILE.TILE_TRIP) = false) :
    d.tripLevel n = (d.killTile n (fun t => { t with killTrip := true, tripAt := some d.now })).raiseLevel .tile n B.TILE.TILE_TRIP
      (d.tripMask n) := by
  simp only [tripLevel, if_pos hmask, hnew, Bool.false_eq_true, if_false]

/-- The tile that CMPA has tripped, stopped at once. -/
def cmpAKilled (d : Dev) (n x : Nat) : Dev :=
  (d.cmpATripped n x).killTile n (fun t => { t with killTrip := true, tripAt := some (d.cmpATripped n x).now })

theorem cmpAKilled_spec {d : Dev} {n : Nat} (hn : n < 24) (hst : d.tstate n ≠ 0) (x : Nat) :
    (d.cmpAKilled n x).tstate n = 4 ∧ ((d.cmpAKilled n x).tileS n).killTrip = true ∧ ((d.cmpAKilled n x).tileS n).hSched = [] ∧
      ((d.cmpAKilled n x).tileS n).lSched = [] ∧
      (d.cmpAKilled n x).reg (pg .tile n) R.TILE.CMPA_TRIPS = d.reg (pg .tile n) R.TILE.CMPA_TRIPS + 1 := by
  have hst' : (d.cmpATripped n x).tstate n ≠ 0 := by rwa [tstate_cmpATripped]
  have hcount : (d.cmpATripped n x).reg (pg .tile n) R.TILE.CMPA_TRIPS = d.reg (pg .tile n) R.TILE.CMPA_TRIPS + 1 := by
    rw [cmpATripped, reg_bump_self, reg_setFlag_apart _ _ (by decide), reg_tileAdvance _ _ _ (by decide)]
    rfl
  obtain ⟨t, ⟨hhigh, hlow, -, -⟩, htile⟩ := tileS_killTile hn hst'
    (fun t => { t with killTrip := true, tripAt := some (d.cmpATripped n x).now })
  rw [cmpAKilled, tstate_killTile hst', htile, reg_killTile _ _ _ (by decide), hcount]
  exact ⟨rfl, rfl, hhigh, hlow, rfl⟩

/-! ## Blanking (R128) -/

/-- Blanking that ends with the comparator released only counts the intervals with a trip inside them. -/
theorem blankEnd_released {d e : Dev} {t : TileS} {n x : Nat} (he : d.tileAdvance n x = e) (ht : e.tileS n = t)
    (h : e.flag (pg .tile n) F.TILE.STATUS_CMPA_OUT = false) : d.blankEnd n .a x =
      (e.bump (pg .tile n) R.TILE.BLANKED (t.blankA.filter (fun b => decide (b.1 ≤ t.start + x) && b.2)).length).modTile n
        (fun t' => { t' with blankA := t.blankA.filter (fun b => decide (t.start + x < b.1)) }) := by
  subst he ht
  have hclear : ∀ k f, (((d.tileAdvance n x).bump (pg .tile n) R.TILE.BLANKED k).modTile n f).flag (pg .tile n) (cmpFlag .a) = false :=
    fun k f => by
      rw [flag_modTile, flag_bump_apart _ (by decide)]
      exact h
  have htripped : ∀ (l : List (Nat × Bool)) (ends : Nat × Bool → Bool), (l.filter ends).filter (fun b => b.2) =
      l.filter (fun b => ends b && b.2) := fun l ends => by
    rw [List.filter_filter]
    exact List.filter_congr fun b _ => Bool.and_comm _ _
  simp only [blankEnd, hclear, htripped, Bool.and_false, Bool.false_eq_true, if_false]
  rfl

end Dev

/-- Settles O21: a measurement by its result, a crossing by the comparator's function, and the end of blanking. -/
theorem calibrationAndComparatorsRun : Obligations.CalibrationAndComparatorsRun := by
  unfold Obligations.CalibrationAndComparatorsRun
  intro d n p
  refine ⟨?run, fun hlive => Runs.live hlive (fun _ => rfl) rfl, ?valid, ?invalid, ?off, ?trip, ?blanking⟩
  case run =>
    exact fun m w h => Runs.port h (by decide) (fun _ => rfl)
      ((d.regWrite_tile m n.val (by decide) _ {}).trans (d.tileWrite_calRun m n.val w))
  case valid =>
    intro cpc hlive hbusy hlo hhi hfirst
    have hdone := Dev.calDone_valid hbusy hlo hhi hfirst
    by_cases hst : d.tstate n.val = 3
    · rw [if_pos hst] at hdone
      obtain ⟨hvalid, hfailed, hruns⟩ := d.calAccepted_shown n.val cpc.toNat
      refine ⟨_, Runs.live hlive (fun _ => rfl) hdone, ?_⟩
      rw [Dev.tileS_calAccepted d n.isLt]
      exact ⟨fun hnot => absurd hst hnot, fun _ => ⟨rfl, rfl⟩, rfl, rfl, hvalid, hfailed, hruns,
        by simp [Dev.calAccepted, Dev.calCounted], by simp [Dev.calAccepted, Dev.calCounted]⟩
    · rw [if_neg hst, Dev.takeTable_calAccepted d n.isLt] at hdone
      obtain ⟨hvalid, hfailed, hruns⟩ := d.calTaken_shown n.val cpc.toNat
      refine ⟨_, Runs.live hlive (fun _ => rfl) hdone, ?_⟩
      rw [Dev.tileS_calTaken d n.isLt]
      exact ⟨fun _ => ⟨rfl, rfl⟩, fun hswitching => absurd hswitching hst, rfl, rfl, hvalid, hfailed, hruns,
        by simp [Dev.calTaken, Dev.calAccepted, Dev.calCounted], by simp [Dev.calTaken, Dev.calAccepted, Dev.calCounted]⟩
  case invalid =>
    intro cpc hlive hbusy hout
    obtain ⟨hfailed, htable, hidle⟩ := d.calFailed_spec n.isLt
    exact ⟨_, hfailed, htable, hidle, Runs.live hlive (fun _ => rfl) (Dev.calDone_invalid hbusy hout)⟩
  case off =>
    exact fun c uv x hlive hoff => Runs.live hlive (fun _ => rfl) (congrArg Dev.offSettle (Dev.cmpCross_off hoff _ _))
  case trip =>
    intro uv x hlive ha hb hclear hst hnew hcross
    have hmask := Dev.tripMask_cmpATripped hst ha hb x.toNat
    have hactive := (d.active_cmpATripped n.val x.toNat (srcNo_lt (k := .tile) n.isLt (by decide))).trans hnew
    have hkill := Dev.tripLevel_first (by rw [hmask]; decide) hactive
    obtain ⟨hstate, hcause, hhigh, hlow, hcount⟩ := Dev.cmpAKilled_spec n.isLt hst x.toNat
    refine ⟨d.cmpAKilled n.val x.toNat, hstate, hcause, hhigh, hlow, hcount, Runs.live hlive (fun _ => rfl) (congrArg Dev.offSettle ?_)⟩
    rw [Dev.cmpCross_trip ha hclear hcross, hkill, hmask]
    rfl
  case blanking =>
    exact fun x hlive hclear => Runs.live hlive (fun _ => rfl) (congrArg Dev.offSettle (Dev.blankEnd_released rfl rfl hclear))

end Sys2Proof.Machine
end

section
/-!
PROOFS. The law engine (R151) and the slew of the reference (R157): what a computation leaves of the output and of the histories, and where
a slew may take the reference.
-/
namespace Sys2Proof.Machine

/-- A value held between limits that do not cross lies between them. -/
theorem clampI_between {lo hi : Int} (h : lo ≤ hi) (i : Int) : lo ≤ clampI i lo hi ∧ clampI i lo hi ≤ hi := by
  unfold clampI
  split_ifs <;> omega

namespace Dev

/-- What a computation gives before it is held between the limits (R151). -/
def lawUnclamped (l : LawSet) (h : LawHist) (r y : Int) (qs : Nat) : Int :=
  asr (l.b[0] * sat32 (r - y * 65536) + l.b[1] * h.e1 + l.b[2] * h.e2 + l.b[3] * h.e3 - l.a[0] * h.u1 - l.a[1] * h.u2 -
    l.a[2] * h.u3 + 2 ^ (qs - 1)) qs

/-- The output of a computation is held between the limits of the law (R151). -/
theorem lawStep_output (l : LawSet) (h : LawHist) (r y : Int) (qs : Nat) (aw : Bool) :
    (lawStep l h r y qs aw).1.u1 = clampI (lawUnclamped l h r y qs) l.outMin l.outMax := rfl

/-- What the present reference moves in `dt` edge steps (R157). -/
def slewStep (c : ConvS) (dt : Nat) : Int := dt * c.rate * (if c.rateUs then 1000 else 1)

theorem slewStep_nonneg (c : ConvS) (dt : Nat) : 0 ≤ slewStep c dt := by
  unfold slewStep
  split <;> positivity

/-- A rate of 0 takes the reference to its target at once; any other moves it toward the target (R157). -/
theorem slewP_eq (c : ConvS) (dt : Nat) : slewP c dt =
    if c.rate = 0 then c.target * stepsPerMs
    else if c.p < c.target * stepsPerMs then min (c.p + slewStep c dt) (c.target * stepsPerMs)
    else max (c.p - slewStep c dt) (c.target * stepsPerMs) := rfl

theorem slewP_upward {c : ConvS} (h : c.p ≤ c.target * stepsPerMs) (dt : Nat) :
    c.p ≤ slewP c dt ∧ slewP c dt ≤ c.target * stepsPerMs := by
  have hstep := slewStep_nonneg c dt
  rw [slewP_eq]
  split_ifs <;> omega

theorem slewP_downward {c : ConvS} (h : c.target * stepsPerMs ≤ c.p) (dt : Nat) :
    slewP c dt ≤ c.p ∧ c.target * stepsPerMs ≤ slewP c dt := by
  have hstep := slewStep_nonneg c dt
  rw [slewP_eq]
  split_ifs <;> omega

end Dev

/-- Settles O24: the output is held between the limits, the histories move on by one place, and a slew ends at its target. -/
theorem lawOutputStaysInLimits : Obligations.LawOutputStaysInLimits := by
  unfold Obligations.LawOutputStaysInLimits
  refine ⟨fun l h r y qs aw hlim => ?limits, fun _ _ _ _ _ _ => ⟨rfl, rfl, rfl, rfl⟩, fun _ dt hup => Dev.slewP_upward hup dt,
    fun _ dt hdown => Dev.slewP_downward hdown dt⟩
  case limits =>
    rw [Dev.lawStep_output]
    exact clampI_between hlim _

end Sys2Proof.Machine
end

section
/-!
PROOFS. Writes of a converter group's registers (R137, R139, R141, R177, R184) and its start (R141, R150): a write that leaves check 0xA as
it was is taken, ENABLE binds the group's tiles, and a start enters SOFT_START.
-/
namespace Sys2Proof.Machine

theorem numbers_congr {n : Nat} {p q : Nat → Bool} (h : ∀ i < n, p i = q i) : numbers n p = numbers n q :=
  List.filter_congr fun i hi => h i (List.mem_range.mp hi)

namespace Dev

/-! ## Check 0xA (R423) -/

theorem convS_of_conv {d e : Dev} (h : e.conv = d.conv) (g : Nat) : e.convS g = d.convS g := by
  unfold convS
  rw [h]

/-- Check 0xA reads a group's settings, its state and its period, and not its EVENT. -/
theorem phaseCheck_of_regs {d e : Dev} {g : Nat} (hconv : e.conv = d.conv)
    (h : ∀ o, o < 0x1000 ∧ o ≠ R.HDR.EVENT → e.reg (pg .conv g) o = d.reg (pg .conv g) o) : e.phaseCheck g = d.phaseCheck g := by
  have hfld : ∀ f : Fld, f.ofs < 0x1000 ∧ f.ofs ≠ R.HDR.EVENT → e.fld (pg .conv g) f = d.fld (pg .conv g) f :=
    fun f hf => fld_of_reg (h _ hf)
  have hslots : e.boundSlots g = d.boundSlots g := by
    unfold boundSlots
    refine numbers_congr fun s hs => flag_of_fld (hfld _ ?_)
    simp only [Fld.at, F.CONV.BIND_VALID, R.HDR.EVENT]
    omega
  have hflag : ∀ f : Fld, f.ofs < 0x1000 ∧ f.ofs ≠ R.HDR.EVENT → e.flag (pg .conv g) f = d.flag (pg .conv g) f :=
    fun f hf => flag_of_fld (hfld f hf)
  have hstate : e.gstate g = d.gstate g := hfld _ (by decide)
  unfold phaseCheck
  dsimp only
  rw [convS_of_conv hconv, hslots, hstate, hfld F.CONV.CARRIER_MAX_VALUE (by decide), hflag F.CONV.TOPOLOGY_SYNC (by decide),
    hflag F.CONV.RES_CFG_EN (by decide)]

/-- An event leaves whether check 0xA holds while ARMED. -/
theorem armedHolds_event (d : Dev) (p : Nat) {f : Fld} (hf : f.ofs = R.HDR.EVENT) : (d.event p f).armedHolds = d.armedHolds := by
  have hreg : ∀ q o, o < 0x1000 ∧ o ≠ R.HDR.EVENT → (d.event p f).reg q o = d.reg q o := fun q o ho => by
    refine reg_event_other d p f q o 0 ?_
    rw [hf]
    simp only [regKey, R.HDR.EVENT] at ho ⊢
    omega
  have hchecks : (d.event p f).phaseCheck = d.phaseCheck := funext fun g => phaseCheck_of_regs (by simp) (hreg _)
  have harmed : (d.event p f).flag (pg .scaolo) F.SCAOLO.ARM_STATUS_ARMED = d.flag (pg .scaolo) F.SCAOLO.ARM_STATUS_ARMED :=
    flag_of_fld (fld_of_reg (hreg _ _ (by decide)))
  unfold armedHolds phaseChecks
  rw [hchecks, harmed]

/-- An event alone does not break check 0xA. -/
theorem event_keepsArmed (d : Dev) (p : Nat) {f : Fld} (hf : f.ofs = R.HDR.EVENT) :
    (d.armedHolds && !(d.event p f).armedHolds) = false := by
  rw [armedHolds_event d p hf, Bool.and_not_self]

/-! ## Writes of the page (R34, R423) -/

/-- A write of a block-specific register of CONV is the group's, where it does not break check 0xA. -/
theorem regWrite_conv {d e : Dev} {m : Master} {g ofs : Nat} {w : Word} (h : 0x100 ≤ ofs ∧ ofs < 0x800) (he : d.convWrite m g ofs w = e)
    (hok : (d.armedHolds && !e.armedHolds) = false) (f : WriteFacts) : d.regWrite m .conv g ofs w f = e := by
  have hhdr : ¬ ofs < 0x100 := by omega
  simp only [regWrite, hhdr, h, if_true, if_false, blockWrite, he, hok, Bool.false_eq_true]

/-- ENABLE of a group written under its key is the group's, where it does not break check 0xA. -/
theorem regWrite_convCtrl {d e : Dev} {m : Master} {g : Nat} (hpage : pageOf (pg .conv g) = some ⟨.conv, g⟩)
    (hheld : d.keyHeldBy m (0x148 + g) = true) {on : Bool} (he : d.convEnable g on (d.convKeys g) = e)
    (hok : (d.armedHolds && !e.armedHolds) = false) : d.regWrite m .conv g R.HDR.CTRL (BitVec.ofNat 32 (b2n on)) {} = e := by
  have hkey : pageKey (pg .conv g) = some (0x148 + g) := by simp [pageKey, hpage]
  have henable : ∀ on, bitAt (BitVec.ofNat 32 (b2n on)).toNat 0 = on := by decide
  have hsoft : ∀ on, bitAt (BitVec.ofNat 32 (b2n on)).toNat 1 = false := by decide
  have hctrl : d.headerWrite m .conv g R.HDR.CTRL (BitVec.ofNat 32 (b2n on)) {} = e := by
    show d.ctrlWrite m .conv g (BitVec.ofNat 32 (b2n on)) [] = e
    simp only [ctrlWrite, henable, hsoft, hkey, hheld, Bool.not_true, Bool.and_false, Bool.false_eq_true, if_false]
    exact he
  have hhdr : R.HDR.CTRL < 0x100 := by decide
  simp only [regWrite, hhdr, if_true, hctrl, hok, Bool.false_eq_true, if_false]

theorem convWrite_groupCtrl (d : Dev) (m : Master) (g : Nat) (w : Word) : d.convWrite m g R.CONV.GROUP_CTRL w =
    (d.plainWrite m .conv g R.CONV.GROUP_CTRL (d.holding (pg .conv g) R.CONV.GROUP_CTRL 1 w)).groupGo g (bitAt w.toNat 0) := rfl

theorem convWrite_unlatch (d : Dev) (m : Master) (g : Nat) : d.convWrite m g R.CONV.PROT_CTRL 1 = d.unlatch g := rfl

theorem convWrite_restore (d : Dev) (m : Master) (g : Nat) : d.convWrite m g R.CONV.PROT_CTRL 2 = d.convRestore g := rfl

/-! ## Binding (R137) -/

/-- The binding slots in use stand in the BIND registers. -/
theorem boundSlots_of_bind {d e : Dev} {g : Nat} (h : ∀ o, R.CONV.BIND ≤ o → e.reg (pg .conv g) o = d.reg (pg .conv g) o) :
    e.boundSlots g = d.boundSlots g := by
  unfold boundSlots
  exact numbers_congr fun s _ => flag_of_fld (fld_of_reg (h _ (Nat.le_add_right _ (4 * s))))

theorem slotTile_of_bind {d e : Dev} {g : Nat} (h : ∀ o, R.CONV.BIND ≤ o → e.reg (pg .conv g) o = d.reg (pg .conv g) o) (s : Nat) :
    e.slotTile g s = d.slotTile g s := fld_of_reg (h _ (Nat.le_add_right _ (4 * s)))

/-- Tile `n` shows that group `g` binds it. -/
def BoundTo (d : Dev) (g n : Nat) : Prop :=
  d.flag (pg .tile n) F.TILE.STATUS_BOUND = true ∧ d.fld (pg .tile n) F.TILE.STATUS_GROUP = g

/-- Tile `n` bound to group `g`, stopped until the group asks for it. -/
def bindTile (g : Nat) (d : Dev) (n : Nat) : Dev :=
  ((d.setFlag (pg .tile n) F.TILE.STATUS_BOUND true).setFld (pg .tile n) F.TILE.STATUS_GROUP g).modTile n
    (fun t => { t with want := .stop })

theorem bindTiles_eq (d : Dev) (g : Nat) : d.bindTiles g = d.each ((d.boundSlots g).map (d.slotTile g)) (bindTile g) := rfl

/-- A tile's binding stands on its own page. -/
theorem pageRegs_bindTile (d : Dev) (g n : Nat) {p : Nat} (h : p ≠ pg .tile n) : (bindTile g d n).pageRegs p = d.pageRegs p := by
  unfold bindTile
  rw [show ∀ (e : Dev) f, (e.modTile n f).pageRegs p = e.pageRegs p from fun _ _ => rfl, pageRegs_setFld _ _ ⟨h, by decide⟩,
    pageRegs_setFlag _ _ ⟨h, by decide⟩]

theorem boundTo_bindTile (d : Dev) {g : Nat} (hg : g < 8) (n : Nat) : (bindTile g d n).BoundTo g n := by
  refine ⟨?bound, ?group⟩
  case bound =>
    rw [bindTile, flag_modTile, flag_setFld_apart _ _ (by decide), flag_setFlag_self _ _ _ _ (by decide) (by decide)]
  case group =>
    rw [bindTile, fld_modTile, fld_setFld_self _ _ _ _ (by decide)]
    exact Nat.mod_eq_of_lt hg

theorem boundTo_bindTile_of_boundTo {d : Dev} {g n : Nat} (hg : g < 8) (h : d.BoundTo g n) (k : Nat) : (bindTile g d k).BoundTo g n := by
  by_cases hk : n = k
  · rw [hk]
    exact boundTo_bindTile d hg k
  · have hpage : pg .tile n ≠ pg .tile k := by simpa [pg] using hk
    have hregs := pageRegs_bindTile d g k hpage
    obtain ⟨hbound, hgroup⟩ := h
    exact ⟨(flag_of_pageRegs hregs (by decide)).trans hbound, (fld_of_pageRegs hregs (by decide)).trans hgroup⟩

/-- A tile stays bound while others are. -/
theorem boundTo_each_of_boundTo {d : Dev} {g n : Nat} (hg : g < 8) (h : d.BoundTo g n) (l : List Nat) :
    (d.each l (bindTile g)).BoundTo g n :=
  List.foldlRecOn (motive := fun e => e.BoundTo g n) l (bindTile g) h fun _ he k _ => boundTo_bindTile_of_boundTo hg he k

theorem each_cons {α : Type} (d : Dev) (x : α) (l : List α) (f : Dev → α → Dev) : d.each (x :: l) f = (f d x).each l f := rfl

/-- Every tile of a list is bound once the list has been gone through. -/
theorem boundTo_each_bindTile {l : List Nat} {g n : Nat} (hg : g < 8) (h : n ∈ l) (d : Dev) : (d.each l (bindTile g)).BoundTo g n := by
  induction l generalizing d with
  | nil => simp at h
  | cons k l ih =>
    rw [each_cons]
    obtain rfl | hl := List.mem_cons.mp h
    · exact boundTo_each_of_boundTo hg (boundTo_bindTile d hg n) l
    · exact ih hl (bindTile g d k)

/-- Binding leaves the group's own page. -/
theorem pageRegs_bindTiles (d : Dev) {g : Nat} (hg : g < 8) : (d.bindTiles g).pageRegs (pg .conv g) = d.pageRegs (pg .conv g) := by
  rw [bindTiles_eq]
  refine each_keeps (pageRegs · (pg .conv g)) d _ _ fun e n _ => pageRegs_bindTile e g n ?_
  simp only [pg, PageKind.first]
  omega

/-! ## CTRL.ENABLE (R139, R140) -/

/-- A group whose checks hold names no tile twice; with its tiles unbound its binding is free. -/
theorem bindFree_of_unbound {d : Dev} {g : Nat} (hcfg : d.groupConfigOk g = true)
    (hfree : ∀ s ∈ d.boundSlots g, d.flag (pg .tile (d.slotTile g s)) F.TILE.STATUS_BOUND = false) : d.bindFree g = true := by
  simp only [groupConfigOk, Bool.and_eq_true] at hcfg
  obtain ⟨⟨⟨⟨⟨⟨-, honce⟩, -⟩, -⟩, -⟩, -⟩, -⟩ := hcfg
  simp only [bindFree, List.all_eq_true, Bool.and_eq_true, Bool.or_eq_true, Bool.not_eq_true'] at honce ⊢
  intro n hn
  obtain ⟨s, hs, rfl⟩ := List.mem_map.mp hn
  exact ⟨honce _ hn, .inl (hfree s hs)⟩

/-- A group that is enabled enters STOPPED, before its tiles are bound. -/
def groupEnabled (d : Dev) (g : Nat) : Dev :=
  let e := (d.setFld (pg .conv g) F.HDR.CTRL_ENABLE 1).setFld (pg .conv g) F.CONV.STATUS_GSTATE 1
  e.setFld (pg .conv g) F.CONV.STATUS_N_AVAIL (e.availHeads g).length

theorem convEnable_sound {d : Dev} {g : Nat} (hoff : d.flag (pg .conv g) F.HDR.CTRL_ENABLE = false) (hfree : d.bindFree g = true)
    (hcfg : d.groupConfigOk g = true) : d.convEnable g true true = (d.groupEnabled g).bindTiles g := by
  simp only [convEnable, hoff, hfree, hcfg, if_true, Bool.false_eq_true, if_false, Bool.and_self]
  rfl

theorem convEnable_unsound {d : Dev} {g : Nat} (hoff : d.flag (pg .conv g) F.HDR.CTRL_ENABLE = false) {keys : Bool}
    (h : keys = false ∨ d.groupConfigOk g = false) : d.convEnable g true keys = d.event (pg .conv g) F.CONV.EVENT_CFG_BAD := by
  have hbad : (keys && d.bindFree g && d.groupConfigOk g) = false := by
    obtain hkeys | hcfg := h
    · simp [hkeys]
    · simp [hcfg]
  simp only [convEnable, hoff, hbad, if_true, Bool.false_eq_true, if_false]

/-- The fields below the BIND registers alone change before the tiles are bound. -/
theorem reg_groupEnabled (d : Dev) (g : Nat) {o : Nat} (h : R.CONV.BIND ≤ o) :
    (d.groupEnabled g).reg (pg .conv g) o = d.reg (pg .conv g) o := by
  have hctrl : o ≠ F.HDR.CTRL_ENABLE.ofs := by simp only [R.CONV.BIND, F.HDR.CTRL_ENABLE] at h ⊢; omega
  have hstate : o ≠ F.CONV.STATUS_GSTATE.ofs := by simp only [R.CONV.BIND, F.CONV.STATUS_GSTATE] at h ⊢; omega
  have hcount : o ≠ F.CONV.STATUS_N_AVAIL.ofs := hstate
  rw [groupEnabled, reg_setFld_apart _ _ hcount, reg_setFld_apart _ _ hstate, reg_setFld_apart _ _ hctrl]

/-- ENABLE = 1 of a group whose checks hold: the group is in STOPPED, and its tiles show that it binds them. -/
theorem groupEnabled_spec (d : Dev) {g : Nat} (hg : g < 8) :
    ((d.groupEnabled g).bindTiles g).flag (pg .conv g) F.HDR.CTRL_ENABLE = true ∧ ((d.groupEnabled g).bindTiles g).gstate g = 1 ∧
      ∀ s ∈ d.boundSlots g, ((d.groupEnabled g).bindTiles g).BoundTo g (d.slotTile g s) := by
  have hpage := (d.groupEnabled g).pageRegs_bindTiles hg
  have hbind : ∀ o, R.CONV.BIND ≤ o → (d.groupEnabled g).reg (pg .conv g) o = d.reg (pg .conv g) o := fun o => d.reg_groupEnabled g
  refine ⟨(flag_of_pageRegs hpage (by decide)).trans ?enable, (fld_of_pageRegs hpage (by decide)).trans ?state, fun s hs => ?tiles⟩
  case enable =>
    rw [groupEnabled, flag_setFld_apart _ _ (by decide), flag_setFld_apart _ _ (by decide), flag_setFld_self _ _ _ _ (by decide)]
    rfl
  case state =>
    rw [groupEnabled, fld_setFld_apart _ _ (by decide), fld_setFld_self _ _ _ _ (by decide)]
    rfl
  case tiles =>
    rw [bindTiles_eq]
    refine boundTo_each_bindTile hg (List.mem_map.mpr ⟨s, ?_, slotTile_of_bind hbind s⟩) _
    rwa [boundSlots_of_bind hbind]

/-! ## GO (R141) -/

/-- GO = 0 stops a group that runs. -/
theorem clearGo_running {d : Dev} {g : Nat} (h : 2 ≤ d.gstate g ∧ d.gstate g ≤ 6) :
    d.clearGo g = (d.setFlag (pg .conv g) F.CONV.GROUP_CTRL_GO false).enterStopped g := by
  have hstate : (d.setFlag (pg .conv g) F.CONV.GROUP_CTRL_GO false).gstate g = d.gstate g := fld_setFlag_apart _ _ (by decide)
  simp only [clearGo, hstate]
  exact if_neg (by omega)

/-- A group that has stopped is in STOPPED. -/
theorem gstate_enterStopped (d : Dev) (g : Nat) : (d.enterStopped g).gstate g = 1 := by
  rw [gstate, enterStopped, fld_setFlag_apart _ _ (by decide), fld_setFld_self _ _ _ _ (by decide)]
  rfl

/-! ## The start (R141, R142, R150) -/

/-- SOFT_START is a state of its own. -/
theorem gstate_enterSoftStart (d : Dev) (g : Nat) : (d.enterSoftStart g).gstate g = 2 := by
  rw [gstate, enterSoftStart, fld_modConv, fld_setReg_apart _ _ (by decide), fld_setFld_self _ _ _ _ (by decide)]
  rfl

/-- The entry into SOFT_START leaves the fields of other registers than STATUS and REF_LIVE. -/
theorem fld_enterSoftStart_apart (d : Dev) (g : Nat) {f : Fld} (h : FieldsApart f F.CONV.STATUS_GSTATE ∧ f.ofs ≠ R.CONV.REF_LIVE) :
    (d.enterSoftStart g).fld (pg .conv g) f = d.fld (pg .conv g) f := by
  rw [enterSoftStart, fld_modConv, fld_setReg_apart _ _ h.2, fld_setFld_apart _ _ h.1]

/-- At the first update point of a soft start the tiles are asked to run. -/
theorem askRun_enterSoftStart (d : Dev) {g : Nat} (hg : g < 8) : ((d.enterSoftStart g).convS g).askRun = true := by
  rw [enterSoftStart, convS_modConv_self _ hg]

/-- A group about to start: its available phases active, the first of them the lead, and no verdict. -/
def startMarked (d : Dev) (g : Nat) : Dev :=
  (d.setActiveHeads g (d.availHeads g) ((d.availHeads g).headD 0)).setFld (pg .conv g) F.CONV.PROT_STATUS_VERDICT 0

/-- A group that starts, its first F the next CREF instant. -/
def groupStarted (d : Dev) (g : Nat) : Dev :=
  ((d.startMarked g).enterSoftStart g).modConv g (fun c => { c with
    begun := false, frame := (d.startMarked g).crefNext, uAt := (d.startMarked g).crefNext, iTot := {}, iPh := Vector.replicate 12 {} })

/-- A group in STOPPED with GO starts in RUN by its checks, once the angle that it needs is valid. -/
theorem groupStart_eq {d : Dev} {g : Nat} (hst : d.gstate g = 1) (hgo : d.flag (pg .conv g) F.CONV.GROUP_CTRL_GO = true)
    (hrun : d.state = 4) (hangle : d.gridDependent g = true → d.angleValid = true) : d.groupStart g =
      if d.startChecks g then d.groupStarted g else d.event (pg .conv g) F.CONV.EVENT_CFG_BAD := by
  have hready : ¬ (d.gridDependent g && !d.angleValid) = true := by
    rw [Bool.and_eq_true, Bool.not_eq_true']
    exact fun ⟨hneeds, hinvalid⟩ => Bool.false_ne_true (hinvalid.symm.trans (hangle hneeds))
  have hwaits : ¬ (d.gstate g ≠ 1 ∨ (!d.flag (pg .conv g) F.CONV.GROUP_CTRL_GO) = true ∨ d.state ≠ 4 ∨
      (d.gridDependent g && !d.angleValid) = true) := by
    simp only [hst, hgo, hrun, hready, ne_eq, not_true_eq_false, Bool.not_true, Bool.false_eq_true, or_self, not_false_iff]
  simp only [groupStart, if_neg hwaits, groupStarted, startMarked]
  cases hchecks : d.startChecks g
  · simp only [Bool.not_false, if_true, Bool.false_eq_true, if_false]
  · simp only [Bool.not_true, if_true, Bool.false_eq_true, if_false]

/-- The marks of a start leave the reference instants of CREF. -/
theorem crefNext_startMarked (d : Dev) (g : Nat) : (d.startMarked g).crefNext = d.crefNext := by
  simp [crefNext, crefPhase, startMarked, setActiveHeads]

theorem gstate_groupStarted (d : Dev) (g : Nat) : (d.groupStarted g).gstate g = 2 := by
  rw [gstate, groupStarted, fld_modConv]
  exact gstate_enterSoftStart _ _

theorem groupStarted_spec (d : Dev) {g : Nat} (hg : g < 8) :
    (d.groupStarted g).gstate g = 2 ∧ (d.groupStarted g).fld (pg .conv g) F.CONV.PROT_STATUS_VERDICT = 0 ∧
      ((d.groupStarted g).convS g).begun = false ∧ ((d.groupStarted g).convS g).frame = d.crefNext ∧
      ((d.groupStarted g).convS g).askRun = true := by
  have hverdict : (d.groupStarted g).fld (pg .conv g) F.CONV.PROT_STATUS_VERDICT = 0 := by
    rw [groupStarted, fld_modConv, fld_enterSoftStart_apart _ _ (by decide), startMarked, fld_setFld_self _ _ _ _ (by decide)]
    rfl
  refine ⟨d.gstate_groupStarted g, hverdict, ?_⟩
  rw [groupStarted, convS_modConv_self _ hg]
  exact ⟨rfl, d.crefNext_startMarked g, askRun_enterSoftStart _ hg⟩

/-! ## UNLATCH (R177) -/

/-- The sources of a latch, which hold as long as the group is LATCHED. -/
def latchSources : List Nat := [B.CONV.CONV_HICCUP_LATCH, B.CONV.CONV_PHASE_AMBIGUOUS, B.CONV.CONV_TOO_FEW, B.CONV.CONV_BATTERY_LOST]

/-- A group unlatched, before the sources of its latch are lowered. -/
def unlatchMarked (d : Dev) (g : Nat) : Dev :=
  (((d.enterStopped g).setFld (pg .conv g) F.CONV.PROT_STATUS_RETRY 0).event (pg .conv g) F.CONV.EVENT_UNLATCHED).modConv g
    (fun c => { c with cleanRun := 0 })

theorem unlatch_latched {d : Dev} {g : Nat} (h : d.gstate g = 7) :
    d.unlatch g = (d.unlatchMarked g).each latchSources (fun d b => d.lower .conv g b) := if_pos h

theorem unlatchMarked_spec (d : Dev) (g : Nat) :
    (d.unlatchMarked g).gstate g = 1 ∧ (d.unlatchMarked g).fld (pg .conv g) F.CONV.PROT_STATUS_RETRY = 0 ∧
      (d.unlatchMarked g).flag (pg .conv g) F.CONV.EVENT_UNLATCHED = true := by
  unfold unlatchMarked
  refine ⟨?state, ?retry, ?event⟩
  case state =>
    rw [gstate, fld_modConv, fld_event_apart _ (by decide), fld_setFld_apart _ _ (by decide)]
    exact gstate_enterStopped d g
  case retry =>
    rw [fld_modConv, fld_event_apart _ (by decide), fld_setFld_self _ _ _ _ (by decide)]
    rfl
  case event =>
    rw [flag_modConv, flag_event_self _ _ _ (by decide) rfl]

/-- The active bits of a group's sources stand on the page FAULT. -/
theorem pageRegs_unlatch {d : Dev} {g : Nat} (hg : g < 8) (h : d.gstate g = 7) :
    (d.unlatch g).pageRegs (pg .conv g) = (d.unlatchMarked g).pageRegs (pg .conv g) := by
  have hfault : pg .conv g ≠ pg .fault := by simp only [pg, PageKind.first]; omega
  rw [unlatch_latched h]
  refine each_keeps (pageRegs · (pg .conv g)) _ _ _ fun e b hb => pageRegs_lower e hfault (srcNo_lt (k := .conv) hg ?_)
  simp only [latchSources, List.mem_cons, List.not_mem_nil, or_false] at hb
  obtain rfl | rfl | rfl | rfl := hb <;> decide

/-- UNLATCH of a LATCHED group: STOPPED, with its retries returned (R177). -/
theorem unlatch_spec {d : Dev} {g : Nat} (hg : g < 8) (h : d.gstate g = 7) :
    (d.unlatch g).gstate g = 1 ∧ (d.unlatch g).fld (pg .conv g) F.CONV.PROT_STATUS_RETRY = 0 ∧
      (d.unlatch g).flag (pg .conv g) F.CONV.EVENT_UNLATCHED = true := by
  have hpage := pageRegs_unlatch hg h
  obtain ⟨hstate, hretry, hevent⟩ := d.unlatchMarked_spec g
  exact ⟨(fld_of_pageRegs hpage (by decide)).trans hstate, (fld_of_pageRegs hpage (by decide)).trans hretry,
    (flag_of_pageRegs hpage (by decide)).trans hevent⟩

end Dev

/-- A permitted write of a group's register that does not break check 0xA runs as the group's. -/
theorem Runs.groupWrite {c : Instr} {d e : Dev} {m : Master} {g ofs : Nat} {w : Word} (h : d.CanWrite m .conv g ofs)
    (ho : 0x100 ≤ ofs ∧ ofs < 0x800) (hc : ∀ s, exec c s = .next (s.onDev fun d => d.portWrite m .conv g ofs w))
    (he : d.convWrite m g ofs w = e) (hok : (d.armedHolds && !e.armedHolds) = false) : Runs c d e.done :=
  Runs.port h (by omega) hc (Dev.regWrite_conv ho he hok {})

/-- ENABLE of a group, permitted and under the group's key, runs as the group's. -/
theorem Runs.convEnable {d e : Dev} {m : Master} {g : Fin 8} {on : Bool} (h : d.CanWrite m .conv g.val R.HDR.CTRL)
    (hheld : d.keyHeldBy m (0x148 + g.val) = true) (he : d.convEnable g.val on (d.convKeys g.val) = e)
    (hok : (d.armedHolds && !e.armedHolds) = false) : Runs (.convEnable m g on) d e.done :=
  Runs.port h (by decide) (fun _ => rfl) (Dev.regWrite_convCtrl (Dev.pageOf_of_canWrite h (by decide)) hheld he hok)

/-- Settles O22: ENABLE by the group's checks, GO and its withdrawal, the start by its checks, UNLATCH and RESTORE. -/
theorem groupControlRuns : Obligations.GroupControlRuns := by
  unfold Obligations.GroupControlRuns
  intro d m g
  refine ⟨?enable, ?refused, ?go, ?stop, ?start, ?unlatch, ?restore⟩
  case enable =>
    intro h hheld hoff hkeys hcfg hfree hok
    have hsound := Dev.convEnable_sound hoff (Dev.bindFree_of_unbound hcfg hfree) hcfg
    obtain ⟨hon, hstate, hbound⟩ := d.groupEnabled_spec g.isLt
    rw [← hsound] at hon hstate hbound
    exact ⟨_, Runs.convEnable h hheld (by rw [hkeys]) hok, hon, hstate, hbound⟩
  case refused =>
    exact fun h hheld hoff hbad => Runs.convEnable h hheld (Dev.convEnable_unsound hoff hbad) (d.event_keepsArmed _ rfl)
  case go =>
    intro h w hgo e hok
    refine Runs.groupWrite h (by decide) (fun _ => rfl) ?_ hok
    rw [Dev.convWrite_groupCtrl, hgo]
    rfl
  case stop =>
    intro h w hgo e hlo hhi hok
    have hclear := Dev.clearGo_running ⟨hlo, hhi⟩
    rw [hclear] at hok
    refine Runs.groupWrite h (by decide) (fun _ => rfl) ?_ hok
    rw [Dev.convWrite_groupCtrl, hgo]
    exact hclear
  case start =>
    intro hlive hst hgo hrun hangle
    have hstart := Dev.groupStart_eq hst hgo hrun hangle
    refine ⟨fun hbad => Runs.live hlive (fun _ => rfl) (by rw [hstart, hbad]; rfl), fun hchecks => ?_⟩
    obtain ⟨hstate, hverdict, hbegun, hframe, hask⟩ := d.groupStarted_spec g.isLt
    rw [hchecks, if_pos rfl] at hstart
    have hstore := d.groupStart_store g.val
    rw [hstart] at hstore
    exact ⟨_, Runs.live hlive (fun _ => rfl) hstart, hstate, hverdict, hbegun, hframe, hask, hstore.1, hstore.2⟩
  case unlatch =>
    intro h hst hok
    exact ⟨_, Runs.groupWrite h (by decide) (fun _ => rfl) (Dev.convWrite_unlatch d m g.val) hok, Dev.unlatch_spec g.isLt hst⟩
  case restore =>
    intro h hst hok
    have hrestore : d.convRestore g.val = _ := if_pos hst
    rw [hrestore] at hok
    exact Runs.groupWrite h (by decide) (fun _ => rfl) ((Dev.convWrite_restore d m g.val).trans hrestore) hok

end Sys2Proof.Machine
end

section
/-!
PROOFS. A group that is LATCHED stays so through the reactions to its own fault (R140, R141, R177, R397–R402): no reaction writes GSTATE
but the stop of a group that runs.
-/
namespace Sys2Proof.Machine
namespace Dev

/-! ## GSTATE of every group -/

/-- GSTATE of every group (R140). -/
def groupStates (d : Dev) : Fin 8 → Nat := fun g => d.gstate g.val

theorem gstate_of_groupStates {d e : Dev} (h : e.groupStates = d.groupStates) {g : Nat} (hg : g < 8) : e.gstate g = d.gstate g :=
  congrFun h ⟨g, hg⟩

/-- A page that is not one of the groups'. -/
abbrev NotGroupPage (q : Nat) : Prop := q < 0x30 ∨ 0x38 ≤ q

theorem notGroupPage_tile (n : Nat) : NotGroupPage (pg .tile n) := .inr (Nat.le_add_right_of_le (by decide))

/-- A register of another page. -/
theorem groupStates_setReg_page (d : Dev) {q o : Nat} (v : Word) (h : NotGroupPage q ∧ o < 0x1000) :
    (d.setReg q o v).groupStates = d.groupStates := by
  funext g
  have hpage : pg .conv g.val ≠ q := by simp only [pg, PageKind.first]; omega
  exact fld_of_pageRegs (pageRegs_setReg d v ⟨hpage, h.2⟩) (by decide)

/-- A register other than STATUS. -/
theorem groupStates_setReg_ofs (d : Dev) (q : Nat) {o : Nat} (v : Word) (h : o < 0x1000 ∧ o ≠ R.HDR.STATUS) :
    (d.setReg q o v).groupStates = d.groupStates := by
  refine funext fun g => fld_setReg_other d q o v 0 (pg .conv g.val) _ ?_
  simp only [regKey, F.CONV.STATUS_GSTATE, R.HDR.STATUS] at h ⊢
  omega

theorem groupStates_setFld_page (d : Dev) {q : Nat} {f : Fld} (v : Nat) (h : NotGroupPage q ∧ f.ofs < 0x1000) :
    (d.setFld q f v).groupStates = d.groupStates := groupStates_setReg_page d _ h

theorem groupStates_setFld_ofs (d : Dev) (q : Nat) {f : Fld} (v : Nat) (h : f.ofs < 0x1000 ∧ f.ofs ≠ R.HDR.STATUS) :
    (d.setFld q f v).groupStates = d.groupStates := groupStates_setReg_ofs d q _ h

theorem groupStates_setFlag_page (d : Dev) {q : Nat} {f : Fld} (b : Bool) (h : NotGroupPage q ∧ f.ofs < 0x1000) :
    (d.setFlag q f b).groupStates = d.groupStates := groupStates_setFld_page d _ h

/-- A flag of STATUS beside GSTATE. -/
theorem groupStates_setFlag_status (d : Dev) (q : Nat) {f : Fld} (b : Bool)
    (h : f.ofs = R.HDR.STATUS ∧ (11 ≤ f.lo ∨ f.lo + f.w ≤ 8)) : (d.setFlag q f b).groupStates = d.groupStates :=
  funext fun g => fld_setFlag_other d q f b _ _ (.inr ⟨by decide, h.2⟩)

theorem groupStates_event (d : Dev) (q : Nat) {f : Fld} (h : f.ofs < 0x1000 ∧ f.ofs ≠ R.HDR.STATUS) :
    (d.event q f).groupStates = d.groupStates := groupStates_setFld_ofs d q 1 h

theorem groupStates_bump (d : Dev) (q : Nat) {o : Nat} (n : Nat) (h : o < 0x1000 ∧ o ≠ R.HDR.STATUS) :
    (d.bump q o n).groupStates = d.groupStates := groupStates_setReg_ofs d q _ h

@[simp] theorem groupStates_ite (c : Prop) [Decidable c] (a b : Dev) :
    (if c then a else b).groupStates = if c then a.groupStates else b.groupStates := apply_ite groupStates _ _ _

theorem groupStates_of_regs {d e : Dev} (h : e.regs = d.regs) : e.groupStates = d.groupStates := funext fun _ => fld_of_regs h _ _

@[simp] theorem groupStates_modTile (d : Dev) (n : Nat) (f : TileS → TileS) : (d.modTile n f).groupStates = d.groupStates :=
  groupStates_of_regs rfl
@[simp] theorem groupStates_modConv (d : Dev) (n : Nat) (f : ConvS → ConvS) : (d.modConv n f).groupStates = d.groupStates :=
  groupStates_of_regs rfl
@[simp] theorem groupStates_modGauge (d : Dev) (f : GaugeS → GaugeS) : (d.modGauge f).groupStates = d.groupStates :=
  groupStates_of_regs rfl
@[simp] theorem groupStates_withDisch (d : Dev) (x : DischS) : ({ d with disch := x } : Dev).groupStates = d.groupStates :=
  groupStates_of_regs rfl

/-! ## The stop of a tile (R123) -/

@[simp] theorem groupStates_cutPulse (d : Dev) (n : Nat) (c : Cmp) (x : Nat) : (d.cutPulse n c x).groupStates = d.groupStates := by
  simp only [cutPulse]
  split
  · rfl
  · simp

@[simp] theorem groupStates_levelAt (d : Dev) (n : Nat) (o : Out) (x : Nat) (c : Cmp) :
    (d.levelAt n o x c).groupStates = d.groupStates := by
  simp [levelAt]

@[simp] theorem groupStates_blankFrom (d : Dev) (n : Nat) (o : Out) (x : Nat) (c : Cmp) :
    (d.blankFrom n o x c).groupStates = d.groupStates := by
  simp [blankFrom]

@[simp] theorem groupStates_rise (d : Dev) (n : Nat) (o : Out) (i : Interval) : (d.rise n o i).groupStates = d.groupStates := by
  simp only [rise]
  split
  · simp (disch := decide) [groupStates_event, groupStates_bump]
  · simp

@[simp] theorem groupStates_rises (d : Dev) (n x k : Nat) : (d.rises n x k).groupStates = d.groupStates := by
  induction k generalizing d with
  | zero => rfl
  | succ k ih =>
    simp only [rises]
    split
    · rfl
    · rw [ih, groupStates_rise]

@[simp] theorem groupStates_outputsLow (d : Dev) (n : Nat) : (d.outputsLow n).groupStates = d.groupStates := by
  simp only [outputsLow, takeTable]
  split <;> simp (disch := decide) [groupStates_setFld_ofs]

@[simp] theorem groupStates_killTile (d : Dev) (n : Nat) (cause : TileS → TileS) : (d.killTile n cause).groupStates = d.groupStates := by
  simp only [killTile]
  split
  · rfl
  · rw [groupStates_modTile, groupStates_setFld_page _ _ ⟨notGroupPage_tile n, by decide⟩]
    simp [stopNow, tileAdvance]

/-! ## The stop of a group (R141) -/

@[simp] theorem groupStates_fitResult (d : Dev) (code : Nat) : (d.fitResult code).groupStates = d.groupStates := by
  simp (disch := decide) [fitResult, groupStates_event, groupStates_bump, groupStates_setFld_ofs]

/-- An aborted probe step records its fit as aborted, or as outside RUN (R294). -/
@[simp] theorem groupStates_gaugeProbeEnd_aborted (d : Dev) (g : Nat) : (d.gaugeProbeEnd g true).groupStates = d.groupStates := by
  simp only [gaugeProbeEnd]
  split
  · rfl
  · simp

@[simp] theorem groupStates_abortProbe (d : Dev) (g : Nat) : (d.abortProbe g).groupStates = d.groupStates := by
  simp (disch := decide) [abortProbe, groupStates_event, groupStates_bump, groupStates_setReg_ofs, groupStates_setFlag_status]

@[simp] theorem groupStates_endRun (d : Dev) (g : Nat) : (d.endRun g).groupStates = d.groupStates := by
  simp (disch := decide) [endRun, endCirc, cleanPause, groupStates_setFld_page]

@[simp] theorem groupStates_wantTiles (d : Dev) (g : Nat) (w : Want) : (d.wantTiles g w).groupStates = d.groupStates :=
  each_keeps groupStates d _ _ fun _ _ _ => rfl

/-- The stop of a group leaves the state of the others. -/
theorem gstate_enterStopped_other (d : Dev) {g n : Nat} (hg : g < 8) (h : g ≠ n) : (d.enterStopped n).gstate g = d.gstate g := by
  have hpage : pg .conv g ≠ pg .conv n := by simpa [pg] using h
  have hregs : (d.enterStopped n).pageRegs (pg .conv g) = ((d.endRun n).wantTiles n .stop).pageRegs (pg .conv g) := by
    rw [enterStopped, pageRegs_setFlag _ _ ⟨hpage, by decide⟩, pageRegs_setFld _ _ ⟨hpage, by decide⟩]
  have hstop : ((d.endRun n).wantTiles n .stop).groupStates = d.groupStates := by rw [groupStates_wantTiles, groupStates_endRun]
  exact (fld_of_pageRegs hregs (by decide)).trans (gstate_of_groupStates hstop hg)

/-! ## A LATCHED group (R177) -/

section Latched
variable {g : Nat} (hg : g < 8)
include hg

theorem latched_of_groupStates {d e : Dev} (h : e.groupStates = d.groupStates) (hd : d.gstate g = 7) : e.gstate g = 7 :=
  (gstate_of_groupStates h hg).trans hd

/-- The end of a run finds no run in a LATCHED group. -/
theorem latched_clearGo {d : Dev} (hd : d.gstate g = 7) (n : Nat) : (d.clearGo n).gstate g = 7 := by
  have hgo : (d.setFlag (pg .conv n) F.CONV.GROUP_CTRL_GO false).gstate g = 7 :=
    latched_of_groupStates hg (groupStates_setFld_ofs d _ _ (by decide)) hd
  simp only [clearGo]
  split
  case isTrue => exact hgo
  case isFalse hruns =>
    rw [gstate_enterStopped_other _ hg, hgo]
    rintro rfl
    exact hruns (.inr hgo)

theorem latched_each_clearGo {d : Dev} (hd : d.gstate g = 7) (l : List Nat) : (d.each l clearGo).gstate g = 7 :=
  List.foldlRecOn (motive := fun e => e.gstate g = 7) l clearGo hd fun _ he n _ => latched_clearGo hg he n

end Latched

/-! ## The parts of a reaction (R399–R402) -/

@[simp] theorem groupStates_driveDisch (d : Dev) (on : Bool) : (d.driveDisch on).groupStates = d.groupStates := by
  simp only [driveDisch, groupStates_withDisch, groupStates_ite]
  rw [groupStates_setFlag_page _ _ (by decide), ite_self]

@[simp] theorem groupStates_dischOn (d : Dev) (trig : Nat) (guard byStart : Bool) :
    (d.dischOn trig guard byStart).groupStates = d.groupStates := by
  have hmark : (d.dischMarked trig guard).groupStates = d.groupStates := by
    simp only [dischMarked, groupStates_ite, groupStates_withDisch]
    rw [groupStates_setFld_page _ _ (by decide), ite_self]
  rw [dischOn_eq]
  split
  · exact hmark
  · simp only [dischStarted, groupStates_withDisch, groupStates_driveDisch]
    rw [groupStates_setFld_page _ _ (by decide), hmark]

@[simp] theorem groupStates_transition (d : Dev) (st cause : Nat) : (d.transition st cause).groupStates = d.groupStates := by
  simp only [transition]
  rw [groupStates_setReg_page _ _ (by decide), groupStates_of_regs (regs_measLost _ _)]

@[simp] theorem groupStates_record (d : Dev) (s sev : Nat) (data : Word) (rep : Bool) :
    (d.record s sev data rep).groupStates = d.groupStates := by
  rw [groupStates_of_regs (regs_record d s sev data rep), groupStates_bump _ _ _ (by decide)]

@[simp] theorem groupStates_setFault (d : Dev) (k : PageKind) (i b : Nat) (cause : Word) :
    (d.setFault k i b cause).groupStates = d.groupStates := by
  simp (disch := decide) [setFault, groupStates_setReg_ofs]

@[simp] theorem groupStates_bootInterrupted (d : Dev) : d.bootInterrupted.groupStates = d.groupStates := by
  simp only [bootInterrupted]
  split
  · simp (disch := decide) only [groupStates_record, groupStates_setFault, setBootState, bootFailed, groupStates_setFld_page,
      groupStates_bump, groupStates_setReg_page]
    rfl
  · rfl

@[simp] theorem groupStates_safeEntered (d : Dev) : d.safeEntered.groupStates = d.groupStates := by
  simp [safeEntered]

@[simp] theorem groupStates_resetReaction (d : Dev) : d.resetReaction.groupStates = d.groupStates := by
  simp only [resetReaction]
  split
  · rfl
  · rw [groupStates_setFlag_page _ _ (by decide), groupStates_setFlag_page _ _ (by decide)]

@[simp] theorem groupStates_severityMarked (d : Dev) (sev : Nat) : (d.severityMarked sev).groupStates = d.groupStates := by
  simp (disch := decide) [severityMarked, groupStates_event]

/-- The part of a reaction that severity HALT alone has. -/
def haltPart (d : Dev) (sev : Nat) : Dev := if sev = 3 then (d.bump (pg .fault) R.FAULT.HALTS).haltReaction else d

/-- The part of a reaction from SAFE on. -/
def safePart (d : Dev) (sev : Nat) (rep : Bool) : Dev :=
  if 4 ≤ sev then ((d.event (pg .fault) F.FAULT.EVENT_SAFE).bump (pg .fault) R.FAULT.SAFES).safeReaction rep else d

/-- The part of a reaction of severity RESET. -/
def resetPart (d : Dev) (sev : Nat) : Dev := if 5 ≤ sev then d.resetReaction else d

/-- A reaction, in the order of its parts; in HIBERNATE there is FAULT_N alone, and a repeat below HALT has none (R399, R403). -/
theorem react_eq (d : Dev) (sev : Nat) (rep : Bool) : d.react sev rep =
    if d.state = 6 then (if 4 ≤ sev then { d with fc := { d.fc with faultnLatch := true } } else d)
    else if (rep && decide (sev < 3)) = true then d
    else (((d.severityMarked sev).haltPart sev).safePart sev rep).resetPart sev := rfl

section LatchedReactions
variable {g : Nat} (hg : g < 8)
include hg

theorem latched_haltPart {d : Dev} (hd : d.gstate g = 7) (sev : Nat) : (d.haltPart sev).gstate g = 7 := by
  have hcount : (d.bump (pg .fault) R.FAULT.HALTS).gstate g = 7 := latched_of_groupStates hg (groupStates_bump d _ 1 (by decide)) hd
  have hready : (((d.bump (pg .fault) R.FAULT.HALTS).chgReacted).transition 3 0x06).gstate g = 7 :=
    latched_of_groupStates hg (groupStates_transition _ 3 0x06) hcount
  have hstopped := latched_each_clearGo hg hready (List.range 8)
  simp only [haltPart, haltReaction]
  split
  · split
    · split <;> exact hstopped
    · exact hcount
  · exact hd

theorem latched_safePart {d : Dev} (hd : d.gstate g = 7) (sev : Nat) (rep : Bool) : (d.safePart sev rep).gstate g = 7 := by
  simp only [safePart]
  split
  case isFalse => exact hd
  case isTrue =>
    generalize hmarked : (d.event (pg .fault) F.FAULT.EVENT_SAFE).bump (pg .fault) R.FAULT.SAFES = e
    have he : e.groupStates = d.groupStates := by
      rw [← hmarked, groupStates_bump _ _ _ (by decide), groupStates_event _ _ (by decide)]
    have hkilled : (e.each (List.range 24) fun d n => d.killTile n fun t => { t with killSafe := true }).groupStates = e.groupStates :=
      each_keeps groupStates e _ _ fun e n _ => groupStates_killTile e n _
    have hstopped : e.stagesStopped.gstate g = 7 :=
      latched_each_clearGo hg (latched_of_groupStates hg ((groupStates_dischOn _ 3 true false).trans (hkilled.trans he)) hd) _
    rw [safeReaction_eq]
    refine latched_of_groupStates hg ?_ hstopped
    rw [groupStates_of_regs (regs_safeSettled _ rep), groupStates_safeEntered, groupStates_bootInterrupted]

theorem latched_react {d : Dev} (hd : d.gstate g = 7) (sev : Nat) (rep : Bool) : (d.react sev rep).gstate g = 7 := by
  have hsafe : (((d.severityMarked sev).haltPart sev).safePart sev rep).gstate g = 7 :=
    latched_safePart hg (latched_haltPart hg (latched_of_groupStates hg (d.groupStates_severityMarked sev) hd) sev) sev rep
  rw [react_eq]
  split
  · split <;> exact hd
  · split
    · exact hd
    · simp only [resetPart]
      split
      · exact latched_of_groupStates hg (groupStates_resetReaction _) hsafe
      · exact hsafe

/-- The rise of a source leaves a LATCHED group LATCHED. -/
theorem latched_raiseLevel {d : Dev} (hd : d.gstate g = 7) {k : PageKind} {i b : Nat} (hs : srcNo k i b < 512) (detail : Nat) :
    (d.raiseLevel k i b detail).gstate g = 7 := by
  have hofs : R.FAULT.ACTIVE + 4 * (srcNo k i b / 32) < 0x1000 := by unfold R.FAULT.ACTIVE; omega
  have hactive : (d.setActive (srcNo k i b) true).groupStates = d.groupStates := groupStates_setFld_page d _ ⟨by decide, hofs⟩
  simp only [raiseLevel, raiseWith, actOn, if_true]
  split
  · exact hd
  · refine latched_react hg (latched_of_groupStates hg ?_ hd) _ _
    rw [groupStates_record, groupStates_setFault]
    exact hactive

/-- A group that is latched is LATCHED, whatever the severity of its source (R177). -/
theorem gstate_enterLatched (d : Dev) {bit : Nat} (hbit : bit < 32) (slot : Nat) : (d.enterLatched g bit slot).gstate g = 7 := by
  simp only [enterLatched]
  refine latched_raiseLevel hg ?_ (srcNo_lt (k := .conv) hg hbit) slot
  rw [gstate, fld_bump_apart _ (by decide), fld_setFlag_apart _ _ (by decide), fld_setFld_self _ _ _ _ (by decide)]
  rfl

theorem gstate_latchGroup (d : Dev) {bit : Nat} (hbit : bit < 32) (slot : Nat) : (d.latchGroup g bit slot).gstate g = 7 :=
  gstate_enterLatched hg _ hbit slot

end LatchedReactions

end Dev
end Sys2Proof.Machine
end

section
/-!
PROOFS. A converter group in operation (R144, R150–R156, R174–R176, R181): writes that wait for the update point, the update point
itself, the sampling instant, hiccup, and the decision on a phase failure that is not unique.
-/
namespace Sys2Proof.Machine
namespace Dev

/-! ## Writes that wait for the update point (R154, R156) -/

theorem convWrite_ref (d : Dev) (m : Master) (g : Nat) (w : Word) :
    d.convWrite m g R.CONV.REF w = (d.plainWrite m .conv g R.CONV.REF w).collect g (.ref w.toInt) := rfl

theorem convWrite_lawLoad (d : Dev) (m : Master) (g : Nat) : d.convWrite m g R.CONV.LAW_CTRL 1 = d.lawLoad g := rfl

theorem convWrite_lawClear (d : Dev) (m : Master) (g : Nat) : d.convWrite m g R.CONV.LAW_CTRL 2 = d.lawClear g := rfl

theorem lawLoad_accepted {d : Dev} {g : Nat}
    (h : d.sfld (pg .conv g) F.CONV.OUT_MIN_VALUE ≤ d.sfld (pg .conv g) F.CONV.OUT_MAX_VALUE) :
    d.lawLoad g = d.modConv g (fun c => { c with loadReq := true }) := if_neg (Int.not_lt.mpr h)

theorem lawLoad_refused {d : Dev} {g : Nat}
    (h : d.sfld (pg .conv g) F.CONV.OUT_MAX_VALUE < d.sfld (pg .conv g) F.CONV.OUT_MIN_VALUE) :
    d.lawLoad g = d.event (pg .conv g) F.CONV.EVENT_RANGE := if_pos h

/-! ## The update point (R141, R144, R170) -/

/-- A group at its update point, the period before it closed. -/
def periodClosed (d : Dev) (g : Nat) : Dev := if (d.convS g).begun then (d.reachU g).closePeriod g else d.reachU g

/-- Mean current of the period before the update point. -/
def periodMean (d : Dev) (g : Nat) : Option Int := if (d.convS g).begun then (d.convS g).iTot.mean else none

/-- The means of the last two periods in which the group switched (R185). -/
def meansKept (d : Dev) (g : Nat) : List Int :=
  match d.periodMean g with
  | some k => if d.gstate g ≤ 4 then (k :: (d.convS g).iHist).take 2 else []
  | none => []

/-- An update point of a group that runs: the stop without a valid angle, the loss of the battery, or the next period. -/
theorem updatePoint_running {d e : Dev} {g : Nat} (he : d.settleU g = e) (h : 2 ≤ e.gstate g ∧ e.gstate g ≤ 6) :
    d.updatePoint g =
      if (e.periodClosed g).gridDependent g && !(e.periodClosed g).angleValid then
        ((e.periodClosed g).event (pg .conv g) F.CONV.EVENT_ANGLE_STOP).enterStopped g
      else if decide (e.gstate g ≤ 4) && (e.periodClosed g).collapsed g (e.periodMean g) then (e.periodClosed g).batteryLost g 3
      else ((e.periodClosed g).modConv g (fun c => { c with iHist := e.meansKept g })).updateGroup g (e.periodMean g) := by
  subst he
  have hruns : ¬ ((d.settleU g).gstate g ≤ 1 ∨ (d.settleU g).gstate g = 7) := by omega
  simp only [updatePoint, if_neg hruns, periodClosed, periodMean, meansKept, decide_eq_true_eq] <;> rfl

theorem updatePoint_angleLost {d e : Dev} {g : Nat} (he : d.settleU g = e) (h : 2 ≤ e.gstate g ∧ e.gstate g ≤ 6)
    (hneeds : (e.periodClosed g).gridDependent g = true) (hlost : (e.periodClosed g).angleValid = false) :
    d.updatePoint g = ((e.periodClosed g).event (pg .conv g) F.CONV.EVENT_ANGLE_STOP).enterStopped g := by
  simp [updatePoint_running he h, hneeds, hlost]

theorem updatePoint_nextPeriod {d e : Dev} {g : Nat} (he : d.settleU g = e) (h : 2 ≤ e.gstate g ∧ e.gstate g ≤ 6)
    (hangle : (e.periodClosed g).gridDependent g = true → (e.periodClosed g).angleValid = true)
    (hheld : e.gstate g ≤ 4 → (e.periodClosed g).collapsed g (e.periodMean g) = false) :
    d.updatePoint g = ((e.periodClosed g).modConv g (fun c => { c with iHist := e.meansKept g })).updateGroup g (e.periodMean g) := by
  have hnoStop : ¬ ((e.periodClosed g).gridDependent g && !(e.periodClosed g).angleValid) = true := by
    rw [Bool.and_eq_true, Bool.not_eq_true']
    exact fun ⟨hneeds, hlost⟩ => Bool.false_ne_true (hlost.symm.trans (hangle hneeds))
  have hnoLoss : ¬ (decide (e.gstate g ≤ 4) && (e.periodClosed g).collapsed g (e.periodMean g)) = true := by
    rw [Bool.and_eq_true, decide_eq_true_eq]
    exact fun ⟨hswitching, hlost⟩ => Bool.false_ne_true ((hheld hswitching).symm.trans hlost)
  rw [updatePoint_running he h, if_neg hnoStop, if_neg hnoLoss]

/-! ## The sampling instant (R144, R151, R185) -/

/-- The feedback taken at a sampling instant. -/
def feedbackTaken (d : Dev) (g : Nat) : Dev :=
  d.modConv g (fun c => { c with
    vSamp := d.newest (d.fld (pg .conv g) F.CONV.FB_IN_V), iSamp := d.newest (d.fld (pg .conv g) F.CONV.FB_IN_I),
    ySamp := d.newest (d.fld (pg .conv g) F.CONV.FB_IN_FB) })

/-- The over-voltage check of the battery (R185). -/
def overVoltage (d : Dev) (g : Nat) : Bool :=
  d.flag (pg .conv g) F.CONV.BATT_CFG_OV_EN &&
    decide ((d.fld (pg .conv g) F.CONV.BATT_V_OV_LEVEL : Int) < d.newest (d.fld (pg .conv g) F.CONV.FB_IN_V))

/-- The sampling instant's distance from its F (R144). -/
def sampleOffset (d : Dev) (g : Nat) : Nat := d.fld (pg .conv g) F.CONV.SAMPLE_POS * (d.convS g).per / 65536

/-- The check of the battery's rate, against the sampling instant before in a group that switches (R185). -/
def rateExceeded (d : Dev) (g : Nat) : Bool :=
  d.flag (pg .conv g) F.CONV.BATT_CFG_RATE_EN && d.gstate g ≠ 5 && (match (d.convS g).vPrev with
    | some w => decide ((d.fld (pg .conv g) F.CONV.BATT_V_DV_RATE : Int) *
        (((d.convS g).elapsed : Int) + d.sampleOffset g - (d.convS g).sampOff) <
        (d.newest (d.fld (pg .conv g) F.CONV.FB_IN_V) - w) * 256 * stepsPerUs)
    | none => false)

/-- What the check of the battery's rate keeps for the next sampling instant. -/
def rateKept (d : Dev) (g : Nat) : Dev :=
  d.modConv g (fun c => { c with
    vPrev := if d.gstate g ≠ 5 then some (d.newest (d.fld (pg .conv g) F.CONV.FB_IN_V)) else none, sampOff := d.sampleOffset g })

/-- A sampling instant: the feedback, the battery's checks, and the law engine where it is not frozen. -/
theorem lawSample_eq (d : Dev) (g : Nat) : d.lawSample g =
    if d.gstate g < 2 ∨ d.gstate g = 7 then d
    else if d.gstate g = 6 then d.feedbackTaken g
    else if d.overVoltage g then (d.feedbackTaken g).batteryLost g 1
    else if (d.feedbackTaken g).rateExceeded g then (d.feedbackTaken g).batteryLost g 2
    else if d.gstate g = 5 ∨ ((d.feedbackTaken g).convS g).circ ∨ d.topo g = 2 then (d.feedbackTaken g).rateKept g
    else ((d.feedbackTaken g).rateKept g).compute g := rfl

/-- Above the over-voltage level a sampling instant ends in the loss of the battery. -/
theorem lawSample_overVoltage {d : Dev} {g : Nat} (hst : 2 ≤ d.gstate g ∧ d.gstate g ≤ 5) (hover : d.overVoltage g = true) :
    d.lawSample g = (d.feedbackTaken g).batteryLost g 1 := by
  have hruns : ¬ (d.gstate g < 2 ∨ d.gstate g = 7) := by omega
  have hnotHiccup : d.gstate g ≠ 6 := by omega
  rw [lawSample_eq, if_neg hruns, if_neg hnotHiccup, if_pos hover]

/-- In a group that switches the law engine computes, unless a check of the battery is met, the group circulates or it has no law. -/
theorem lawSample_computes {d : Dev} {g : Nat} (hst : 2 ≤ d.gstate g ∧ d.gstate g ≤ 4) (hover : ¬ d.overVoltage g = true)
    (hrate : ¬ (d.feedbackTaken g).rateExceeded g = true) (hcirc : ((d.feedbackTaken g).convS g).circ = false)
    (hline : d.topo g ≠ 2) : d.lawSample g = ((d.feedbackTaken g).rateKept g).compute g := by
  have hruns : ¬ (d.gstate g < 2 ∨ d.gstate g = 7) := by omega
  have hnotHiccup : d.gstate g ≠ 6 := by omega
  have hnotSleep : d.gstate g ≠ 5 := by omega
  have hlaw : ¬ (d.gstate g = 5 ∨ ((d.feedbackTaken g).convS g).circ = true ∨ d.topo g = 2) := by
    simp [hnotSleep, hcirc, hline]
  rw [lawSample_eq, if_neg hruns, if_neg hnotHiccup, if_neg hover, if_neg hrate, if_neg hlaw]

theorem overVoltage_iff (d : Dev) (g : Nat) : d.overVoltage g = true ↔ d.flag (pg .conv g) F.CONV.BATT_CFG_OV_EN = true ∧
    (d.fld (pg .conv g) F.CONV.BATT_V_OV_LEVEL : Int) < d.newest (d.fld (pg .conv g) F.CONV.FB_IN_V) := by
  rw [overVoltage, Bool.and_eq_true, decide_eq_true_eq]

/-- Without its enable bit the check of the rate is not met. -/
theorem not_rateExceeded {d : Dev} {g : Nat} (h : d.flag (pg .conv g) F.CONV.BATT_CFG_RATE_EN = false) :
    ¬ d.rateExceeded g = true := by
  simp [rateExceeded, h]

/-- The computation of a channel at a sampling instant (R151, R153). -/
def channelStep (d : Dev) (g ch : Nat) : LawHist × Bool :=
  lawStep (d.convS g).law (vget (d.convS g).hist ch {}) (vget (d.convS g).rNow ch 0)
    (d.newest ((d.fld (pg .conv g) F.CONV.FB_IN_FB + ch) % 64)) (d.fld (pg .conv g) F.CONV.LAW_CFG_QS)
    (d.flag (pg .conv g) F.CONV.LAW_CFG_AW)

/-- Whether the output of a channel has been clamped. -/
def outputClamped (d : Dev) (g : Nat) : Bool := (d.channels g).any (fun ch => (d.channelStep g ch).2)

/-- A group whose law engine has computed, before a clamped output is counted. -/
def lawComputed (d : Dev) (g : Nat) : Dev :=
  let e := d.modConv g (fun c => { c with
    sampled := true, hist := (d.channels g).foldl (fun h ch => vmod h ch (fun _ => (d.channelStep g ch).1)) c.hist })
  (e.setReg (pg .conv g) R.CONV.LAW_OUT (BitVec.ofInt 32 (d.channelStep g 0).1.u1)).setFlag (pg .conv g) F.CONV.STATUS_SAT
    (d.outputClamped g)

theorem compute_eq (d : Dev) (g : Nat) : d.compute g =
    if d.outputClamped g then ((d.lawComputed g).bump (pg .conv g) R.CONV.SATURATED).event (pg .conv g) F.CONV.EVENT_SAT
    else d.lawComputed g := rfl

/-- LAW_OUT shows the output of the first channel. -/
theorem lawOut_compute (d : Dev) (g : Nat) :
    (d.compute g).reg (pg .conv g) R.CONV.LAW_OUT = BitVec.ofInt 32 (d.channelStep g 0).1.u1 := by
  have hcomputed : (d.lawComputed g).reg (pg .conv g) R.CONV.LAW_OUT = BitVec.ofInt 32 (d.channelStep g 0).1.u1 := by
    rw [lawComputed, reg_setFlag_apart _ _ (by decide), reg_setReg_self]
  rw [compute_eq]
  split
  · rw [reg_event_apart _ (by decide), bump, reg_setReg_apart _ _ (by decide), hcomputed]
  · exact hcomputed

/-- A computation changes the histories of its channels, and takes the sampling instant as seen. -/
theorem convS_compute (d : Dev) {g : Nat} (hg : g < 8) :
    ∃ hist, (d.compute g).convS g = { d.convS g with sampled := true, hist := hist } := by
  have hconv : (d.compute g).conv = (d.lawComputed g).conv := by
    rw [compute_eq]
    split <;> simp
  have hcomputed : (d.lawComputed g).convS g = _ :=
    (convS_of_conv (by simp [lawComputed]) g).trans (convS_modConv_self d hg (fun c => { c with
      sampled := true, hist := (d.channels g).foldl (fun h ch => vmod h ch (fun _ => (d.channelStep g ch).1)) c.hist }))
  exact ⟨_, (convS_of_conv hconv g).trans hcomputed⟩

/-- The first channel's feedback input is FB (R153). -/
theorem channelStep_first (d : Dev) (g : Nat) : d.channelStep g 0 =
    lawStep (d.convS g).law (vget (d.convS g).hist 0 {}) (vget (d.convS g).rNow 0 0) (d.newest (d.fld (pg .conv g) F.CONV.FB_IN_FB))
      (d.fld (pg .conv g) F.CONV.LAW_CFG_QS) (d.flag (pg .conv g) F.CONV.LAW_CFG_AW) := by
  have hinput : (d.fld (pg .conv g) F.CONV.FB_IN_FB + 0) % 64 = d.fld (pg .conv g) F.CONV.FB_IN_FB :=
    Nat.mod_eq_of_lt (bitsOf_lt _ _ _)
  rw [channelStep, hinput]

theorem convS_feedbackTaken (d : Dev) {g : Nat} (hg : g < 8) : (d.feedbackTaken g).convS g = { d.convS g with
    vSamp := d.newest (d.fld (pg .conv g) F.CONV.FB_IN_V), iSamp := d.newest (d.fld (pg .conv g) F.CONV.FB_IN_I),
    ySamp := d.newest (d.fld (pg .conv g) F.CONV.FB_IN_FB) } := convS_modConv_self d hg _

theorem convS_rateKept (d : Dev) {g : Nat} (hg : g < 8) :
    ∃ v off, (d.rateKept g).convS g = { d.convS g with vPrev := v, sampOff := off } :=
  ⟨_, _, convS_modConv_self d hg _⟩

/-- Neither the feedback taken nor what the battery's rate needs is an operand of the law. -/
theorem channelStep_sampled (d : Dev) {g : Nat} (hg : g < 8) (ch : Nat) :
    ((d.feedbackTaken g).rateKept g).channelStep g ch = d.channelStep g ch := by
  obtain ⟨v, off, hrate⟩ := (d.feedbackTaken g).convS_rateKept hg
  rw [channelStep, hrate, convS_feedbackTaken d hg]
  rfl

/-! ## Hiccup (R175, R176) -/

/-- A field that saturates counts up to its highest value. -/
theorem fld_bumpFldSat (d : Dev) (p : Nat) {f : Fld} (h : f.lo + f.w ≤ 32) :
    (d.bumpFldSat p f).fld p f = min (2 ^ f.w - 1) (d.fld p f + 1) := by
  have hlt : d.fld p f < 2 ^ f.w := bitsOf_lt _ _ _
  unfold bumpFldSat
  split
  · rw [fld_setFld_self _ _ _ _ h, Nat.mod_eq_of_lt ‹_›]
    omega
  · omega

/-- A hiccup whose off-time is over, its retry counted. -/
def retryCounted (d : Dev) (g : Nat) : Dev :=
  (d.bumpFldSat (pg .conv g) F.CONV.PROT_STATUS_RETRY).event (pg .conv g) F.CONV.EVENT_HICCUP_OUT

theorem hiccupOver_expired {d : Dev} {g : Nat} (hst : d.gstate g = 6)
    (h : d.fld (pg .conv g) F.CONV.HICCUP_CFG_OFF * 40000 ≤ d.now - (d.convS g).hicFrom) :
    d.hiccupOver g = (d.retryCounted g).enterSoftStart g := if_pos ⟨hst, h⟩

theorem retryCounted_spec (d : Dev) (g : Nat) :
    ((d.retryCounted g).enterSoftStart g).flag (pg .conv g) F.CONV.EVENT_HICCUP_OUT = true ∧
      ((d.retryCounted g).enterSoftStart g).fld (pg .conv g) F.CONV.PROT_STATUS_RETRY =
        min (2 ^ F.CONV.PROT_STATUS_RETRY.w - 1) (d.fld (pg .conv g) F.CONV.PROT_STATUS_RETRY + 1) := by
  refine ⟨?event, ?retry⟩
  case event =>
    rw [flag_of_fld (fld_enterSoftStart_apart _ _ (by decide)), retryCounted, flag_event_self _ _ _ (by decide) rfl]
  case retry =>
    rw [fld_enterSoftStart_apart _ _ (by decide), retryCounted, fld_event_apart _ (by decide), fld_bumpFldSat _ _ (by decide)]

theorem hiccupClean_expired {d : Dev} {g t : Nat} (ht : (d.convS g).cleanFrom = some t)
    (h : d.fld (pg .conv g) F.CONV.HICCUP_CLEAN_TIME * 400000 ≤ (d.convS g).cleanRun + (d.now - t)) :
    d.hiccupClean g = d.setFld (pg .conv g) F.CONV.PROT_STATUS_RETRY 0 := by
  simp only [hiccupClean, ht, if_pos h]

/-! ## A phase failure that is not unique (R181) -/

/-- A decision taken at COUNT = CONFIRM: the count and the suspects begin anew. -/
def countRestarted (d : Dev) (g : Nat) : Dev :=
  (d.setFld (pg .conv g) F.CONV.RES_LAST_COUNT 0).modConv g (fun c => { c with suspect := none, mixed := false })

/-- Where the suspects differ the group is latched. -/
theorem decidePhase_mixed {d : Dev} {g : Nat} (h : (d.convS g).mixed = true) : d.decidePhase g =
    (((d.countRestarted g).bump (pg .conv g) R.CONV.AMBIGUOUS).latchGroup g B.CONV.CONV_PHASE_AMBIGUOUS 0xFFFF, false) := by
  simp only [decidePhase, h]
  cases (d.convS g).suspect <;> rfl

/-- The decision that an update point owes is the end of that update point for a group that it latches. -/
theorem phaseFailure_mixed {d : Dev} {g : Nat} (hg : g < 8) {i : Option Int} (hdue : (d.convS g).verdictDue = some i)
    (hmixed : (d.convS g).mixed = true) : d.phaseFailure g =
      (((d.modConv g (fun c => { c with verdictDue := none })).countRestarted g).bump (pg .conv g) R.CONV.AMBIGUOUS).latchGroup g
        B.CONV.CONV_PHASE_AMBIGUOUS 0xFFFF := by
  have hstill : ((d.modConv g (fun c => { c with verdictDue := none })).convS g).mixed = true := by
    rw [convS_modConv_self _ hg]
    exact hmixed
  have hlatched := gstate_latchGroup hg (((d.modConv g (fun c => { c with verdictDue := none })).countRestarted g).bump
    (pg .conv g) R.CONV.AMBIGUOUS) (bit := B.CONV.CONV_PHASE_AMBIGUOUS) (by decide) 0xFFFF
  simp only [phaseFailure, hdue, decidePhase_mixed hstill, hlatched, or_true, if_true]

end Dev

/-- Settles O23: the writes that wait, the update point with and without the angle that the group needs, the sampling instant with and
without over-voltage, hiccup, and the decision on suspects that differ. -/
theorem groupOperationRuns : Obligations.GroupOperationRuns := by
  unfold Obligations.GroupOperationRuns
  intro d m g
  refine ⟨?ref, ?load, ?range, ?clear, ?update, ?sample, ?voltage, ?retry, ?clean, ?ambiguous⟩
  case ref =>
    exact fun w h hok => Runs.groupWrite h (by decide) (fun _ => rfl) (Dev.convWrite_ref d m g.val w) hok
  case load =>
    exact fun h hlim hok => Runs.groupWrite h (by decide) (fun _ => rfl)
      ((Dev.convWrite_lawLoad d m g.val).trans (Dev.lawLoad_accepted hlim)) hok
  case range =>
    exact fun h hlim => Runs.groupWrite h (by decide) (fun _ => rfl)
      ((Dev.convWrite_lawLoad d m g.val).trans (Dev.lawLoad_refused hlim)) (d.event_keepsArmed _ rfl)
  case clear =>
    exact fun h hok => Runs.groupWrite h (by decide) (fun _ => rfl) (Dev.convWrite_lawClear d m g.val) hok
  case update =>
    intro hlive e b i hlo hhi
    exact ⟨fun hneeds hlost => Runs.live hlive (fun _ => rfl) (Dev.updatePoint_angleLost rfl ⟨hlo, hhi⟩ hneeds hlost),
      fun hangle hheld => Runs.live hlive (fun _ => rfl) (Dev.updatePoint_nextPeriod rfl ⟨hlo, hhi⟩ hangle hheld)⟩
  case sample =>
    intro hlive hlo hhi hcirc hline hv hrate
    have hsampled := d.convS_feedbackTaken g.isLt
    have hbelow : ¬ d.overVoltage g.val = true := by
      rw [Dev.overVoltage_iff]
      exact fun ⟨hen, habove⟩ => absurd habove (Int.not_lt.mpr (hv hen))
    have hcomputes := Dev.lawSample_computes ⟨hlo, hhi⟩ hbelow (Dev.not_rateExceeded hrate) (by rw [hsampled]; exact hcirc) hline
    obtain ⟨v, off, hkept⟩ := (d.feedbackTaken g.val).convS_rateKept g.isLt
    obtain ⟨hist, hconv⟩ := ((d.feedbackTaken g.val).rateKept g.val).convS_compute g.isLt
    rw [hkept, hsampled] at hconv
    refine ⟨_, Runs.live hlive (fun _ => rfl) hcomputes, ?output, ?_⟩
    case output =>
      rw [Dev.lawOut_compute, Dev.channelStep_sampled d g.isLt, Dev.channelStep_first]
    rw [hconv]
    exact ⟨rfl, rfl, rfl, by simp [Dev.rateKept, Dev.feedbackTaken], by simp [Dev.rateKept, Dev.feedbackTaken]⟩
  case voltage =>
    exact fun hlive hlo hhi hen hv => Runs.live hlive (fun _ => rfl) 
      (Dev.lawSample_overVoltage ⟨hlo, hhi⟩ ((d.overVoltage_iff g.val).mpr ⟨hen, hv⟩))
  case retry =>
    intro hlive hst hover
    obtain ⟨hevent, hretry⟩ := d.retryCounted_spec g.val
    exact ⟨_, Runs.live hlive (fun _ => rfl) (Dev.hiccupOver_expired hst hover), Dev.gstate_enterSoftStart _ _, hevent, hretry⟩
  case clean =>
    exact fun t hlive ht hover => Runs.live hlive (fun _ => rfl) (Dev.hiccupClean_expired ht hover)
  case ambiguous =>
    exact fun i hlive hdue hmixed => Runs.live hlive (fun _ => rfl) (Dev.phaseFailure_mixed g.isLt hdue hmixed)

end Sys2Proof.Machine
end

section
/-!
PROOFS. The discharge of the DC link (R188–R193): the commands of DCMD by the states that admit them, the DISARM trigger, and the ends of
HOLD, of the time limit and of a TEST. That STOP is refused while a SAFE or brown-out trigger keeps DISCH on is the model's reading
(log entry 38).
-/
namespace Sys2Proof.Machine
namespace Dev

/-! ## The command to the ball (R190) -/

@[simp] theorem disch_driveDisch (d : Dev) (on : Bool) : (d.driveDisch on).disch = { d.disch with on := on } := by
  unfold driveDisch
  dsimp only
  split <;> simp

/-- The command to the ball reaches the register file through STATUS.BALL alone. -/
theorem regs_driveDisch (d : Dev) (on : Bool) : (d.driveDisch on).regs = d.regs ∨
    (d.driveDisch on).regs = (d.setFlag (pg .disch) F.DISCH.STATUS_BALL on).regs := by
  unfold driveDisch
  dsimp only
  split
  · exact .inl rfl
  · exact .inr rfl

theorem reg_driveDisch (d : Dev) (on : Bool) {o : Nat} (h : o ≠ R.HDR.STATUS) :
    (d.driveDisch on).reg (pg .disch) o = d.reg (pg .disch) o := by
  obtain hkept | hball := d.regs_driveDisch on
  · exact reg_of_regs hkept _ _ _
  · exact (reg_of_regs hball _ _ _).trans (reg_setFlag_apart d on h)

theorem fld_driveDisch (d : Dev) (on : Bool) {f : Fld} (h : FieldsApart f F.DISCH.STATUS_BALL) :
    (d.driveDisch on).fld (pg .disch) f = d.fld (pg .disch) f := by
  obtain hkept | hball := d.regs_driveDisch on
  · exact fld_of_regs hkept _ _
  · exact (fld_of_regs hball _ _).trans (fld_setFlag_apart d on h)

/-! ## DISCH switched on and off (R188, R189) -/

theorem dstate_setFld_dstate (d : Dev) {v : Nat} (h : v < 8) : (d.setFld (pg .disch) F.DISCH.STATUS_DSTATE v).dstate = v :=
  (fld_setFld_self d _ _ v (by decide)).trans (Nat.mod_eq_of_lt h)

theorem dstate_driveDisch (d : Dev) (on : Bool) : (d.driveDisch on).dstate = d.dstate := fld_driveDisch d on (by decide)

theorem dstate_modConv (d : Dev) (g : Nat) (f : ConvS → ConvS) : (d.modConv g f).dstate = d.dstate := rfl

/-- From rest a trigger is recorded, and switches DISCH on. -/
theorem dischOn_rest {d : Dev} (h : d.disch.on = false) (trig : Nat) (byStart : Bool) : d.dischOn trig false byStart =
    (d.setFld (pg .disch) F.DISCH.STATUS_TRIGGER trig).dischStarted byStart := by
  have hon : (d.dischMarked trig false).disch.on = false := by simpa [dischMarked] using h
  simp only [dischOn_eq, hon, Bool.false_and, Bool.false_eq_true, if_false]
  rfl

theorem disch_dischStarted (d : Dev) (byStart : Bool) :
    (d.dischStarted byStart).disch = { d.disch with on := true, byStart := byStart, since := d.now } := by
  simp [dischStarted]

theorem dstate_dischStarted (d : Dev) (byStart : Bool) : (d.dischStarted byStart).dstate = 1 :=
  (dstate_driveDisch (d.setFld (pg .disch) F.DISCH.STATUS_DSTATE 1) true).trans (dstate_setFld_dstate d (by decide))

/-- What a trigger leaves of a discharge at rest: DISCH on as the trigger asked, and the trigger shown. -/
theorem dischOn_rest_spec {d : Dev} (h : d.disch.on = false) {trig : Nat} (ht : trig < 8) (byStart : Bool) :
    (d.dischOn trig false byStart).disch = { d.disch with on := true, byStart := byStart, since := d.now } ∧
      (d.dischOn trig false byStart).dstate = 1 ∧
      (d.dischOn trig false byStart).fld (pg .disch) F.DISCH.STATUS_TRIGGER = trig := by
  rw [dischOn_rest h]
  refine ⟨?_, dstate_dischStarted _ _, ?_⟩
  · rw [disch_dischStarted]
    simp
  · have hdrive : ∀ e : Dev, (e.dischStarted byStart).fld (pg .disch) F.DISCH.STATUS_TRIGGER =
        ((e.setFld (pg .disch) F.DISCH.STATUS_DSTATE 1).driveDisch true).fld (pg .disch) F.DISCH.STATUS_TRIGGER := fun _ => rfl
    rw [hdrive, fld_driveDisch _ _ (by decide), fld_setFld_apart _ _ (by decide), fld_setFld_self _ _ _ _ (by decide)]
    exact Nat.mod_eq_of_lt ht

@[simp] theorem disch_dischOff (d : Dev) : d.dischOff.disch = { d.disch with on := false, byStart := false } := by
  simp [dischOff]

theorem dstate_dischOff (d : Dev) : d.dischOff.dstate = 0 := dstate_setFld_dstate _ (by decide)

theorem reg_dischOff (d : Dev) {o : Nat} (h : o ≠ R.HDR.STATUS) : d.dischOff.reg (pg .disch) o = d.reg (pg .disch) o :=
  (reg_setFld_apart _ _ h).trans (reg_driveDisch d false h)

theorem flag_dischOff (d : Dev) {f : Fld} (hball : FieldsApart f F.DISCH.STATUS_BALL) (hstate : FieldsApart f F.DISCH.STATUS_DSTATE) :
    d.dischOff.flag (pg .disch) f = d.flag (pg .disch) f :=
  flag_of_fld ((fld_setFld_apart _ _ hstate).trans (fld_driveDisch d false hball))

/-! ## The commands of DCMD (R191–R193) -/

/-- A write of a block-specific register of DISCH is the discharge's. -/
theorem regWrite_disch (d : Dev) (m : Master) {ofs : Nat} (h : 0x100 ≤ ofs ∧ ofs < 0x800) (w : Word) (f : WriteFacts) :
    d.regWrite m .disch 0 ofs w f = d.dischWrite m ofs w := by
  have hhdr : ¬ ofs < 0x100 := by omega
  simp [regWrite, hhdr, h.2, blockWrite]

theorem dischStart_admitted {d : Dev} (h : d.state ≠ 4) : d.dischStart = d.dischOn 5 false true := if_neg h

theorem dischStart_running {d : Dev} (h : d.state = 4) : d.dischStart = d.dischRefused := if_pos h

theorem dischStop_started {d : Dev} (hon : d.disch.on = true) (hby : d.disch.byStart = true) (hguard : d.disch.guardUntil ≤ d.now) :
    d.dischStop = d.dischOff := by
  simp [dischStop, dischGuarded, hon, hby, hguard]

theorem dischStop_refused {d : Dev} (h : d.disch.on = false ∨ d.disch.byStart = false ∨ d.now < d.disch.guardUntil) :
    d.dischStop = d.dischRefused := by
  refine if_neg ?_
  obtain hon | hby | hguard := h
  · simp [hon]
  · simp [hby]
  · simp [dischGuarded, hguard]

/-- The group that circulates for DISCH (R192). -/
abbrev circGroup (d : Dev) : Nat := d.fld (pg .disch) F.DISCH.DCFG_RES_GROUP

/-- The device with a circulation begun from rest (R192). -/
def circBegun (d : Dev) : Dev :=
  ((d.dischOn 6 false false).setFld (pg .disch) F.DISCH.STATUS_DSTATE 3).modConv d.circGroup (fun c => { c with circ := true })

theorem circulate_rest {d : Dev} (hst : d.state = 4) (hen : d.flag (pg .disch) F.DISCH.DCFG_RES_EN = true)
    (hgroup : d.gstate d.circGroup = 3) (hoff : d.disch.on = false) : d.circulate = d.circBegun := by
  have hrest : ¬ d.disch.on = true := by simp [hoff]
  exact (if_pos ⟨hst, hen, hgroup⟩).trans (if_neg hrest)

theorem circBegun_spec (d : Dev) : d.circBegun.disch.on = true ∧ d.circBegun.dstate = 3 ∧ (d.circBegun.convS d.circGroup).circ = true := by
  have hgroup : d.circGroup < 8 := bitsOf_lt _ _ _
  have hon := d.disch_on_dischOn 6 false false
  refine ⟨by simpa [circBegun] using hon, ?dstate, ?circ⟩
  case dstate => rw [circBegun, dstate_modConv, dstate_setFld_dstate _ (by decide)]
  case circ => rw [circBegun, convS_modConv_self _ hgroup]

/-- The device with a TEST begun (R193). -/
def testBegun (d : Dev) : Dev :=
  let d := (d.setFld (pg .disch) F.DISCH.STATUS_DSTATE 5).driveDisch true
  { d with disch := { d.disch with tests := 0, testOw := false, since := d.now } }

theorem dischTest_admitted {d : Dev} (hst : d.state = 2 ∨ d.state = 3) (hidle : d.dstate = 0)
    (hthresh : d.fld (pg .disch) F.DISCH.DCFG_THRESH ≠ 0)
    (hbelow : d.newest (d.fld (pg .disch) F.DISCH.DCFG_IN) < (d.fld (pg .disch) F.DISCH.DCFG_THRESH : Int)) :
    d.dischTest = d.testBegun :=
  if_pos ⟨hst, hidle, hthresh, decide_eq_true hbelow⟩

theorem dischTest_running {d : Dev} (h : d.state = 4) : d.dischTest = d.dischRefused :=
  if_neg fun hc => by omega

theorem testBegun_spec (d : Dev) : d.testBegun.dstate = 5 ∧ d.testBegun.disch.on = true ∧ d.testBegun.disch.tests = 0 ∧
    d.testBegun.disch.since = d.now :=
  ⟨(dstate_driveDisch (d.setFld (pg .disch) F.DISCH.STATUS_DSTATE 5) true).trans (dstate_setFld_dstate d (by decide)),
    by simp [testBegun], rfl, by simp [testBegun]⟩

/-! ## The DISARM trigger (R188) -/

/-- The device with no trigger that waits for the tiles. -/
def disarmTaken (d : Dev) : Dev := { d with disch := { d.disch with armed := false, armedHalt := false } }

theorem dischDisarmTrigger_stopped {d : Dev} (harmed : d.disch.armed = true) (hstopped : ∀ n < 24, d.tstate n ≠ 3) :
    d.dischDisarmTrigger = d.disarmTaken.dischOn (if d.disch.armedHalt then 2 else 1) false false :=
  if_pos (by simpa [harmed] using hstopped)

/-! ## The readback of the ball (R190) -/

theorem dischOutput_low (d : Dev) : d.dischOutput 1 =
    (d.setFlag (pg .disch) F.DISCH.STATUS_BALL false).raiseLevel .disch 0 B.DISCH.DISCH_OUTPUT 1 := by
  simp [dischOutput]

theorem dischOutput_high (d : Dev) : d.dischOutput 2 =
    (d.setFlag (pg .disch) F.DISCH.STATUS_BALL true).raiseLevel .disch 0 B.DISCH.DISCH_OUTPUT 2 := by
  simp [dischOutput]

theorem dischOutput_agrees (d : Dev) :
    d.dischOutput 0 = (d.setFlag (pg .disch) F.DISCH.STATUS_BALL d.disch.on).lower .disch 0 B.DISCH.DISCH_OUTPUT := by
  simp [dischOutput]

/-! ## The ends of a discharge and of a TEST (R189, R193) -/

/-- The device with a discharge completed: DISCH off, and the discharge counted (R189). -/
def holdEnded (d : Dev) : Dev := (d.dischOff.bump (pg .disch) R.DISCH.DISCHARGES).event (pg .disch) F.DISCH.EVENT_DONE

theorem dischHoldExpiry_over {d : Dev} (hst : d.dstate = 2) (hguard : d.disch.guardUntil ≤ d.now)
    (hover : d.disch.holdFrom + 400000 * d.fld (pg .disch) F.DISCH.DTIME_HOLD ≤ d.now) : d.dischHoldExpiry = d.holdEnded :=
  if_pos ⟨hst, hover, by simpa [dischGuarded] using hguard⟩

theorem holdEnded_spec (d : Dev) : d.holdEnded.dstate = 0 ∧ d.holdEnded.disch.on = false ∧
    d.holdEnded.reg (pg .disch) R.DISCH.DISCHARGES = d.reg (pg .disch) R.DISCH.DISCHARGES + 1 ∧
    d.holdEnded.flag (pg .disch) F.DISCH.EVENT_DONE = true := by
  refine ⟨?dstate, by simp [holdEnded], ?count, flag_event_self _ _ _ (by decide) rfl⟩
  case dstate => exact ((fld_event_apart _ (by decide)).trans (fld_bump_apart _ (by decide))).trans d.dstate_dischOff
  case count =>
    rw [holdEnded, reg_event_apart _ (by decide), reg_bump_self, reg_dischOff _ (by decide)]
    rfl

theorem dischTimeout_late {d : Dev} (hon : d.disch.on = true) (hst : d.dstate = 1 ∨ d.dstate = 3)
    (hlate : d.disch.since + 4000000 * d.fld (pg .disch) F.DISCH.DTIME_TIME ≤ d.now) : d.dischTimeout =
      ((d.setFld (pg .disch) F.DISCH.STATUS_DSTATE 4).bump (pg .disch) R.DISCH.TIMEOUTS).raiseLevel .disch 0 B.DISCH.DISCH_TIMEOUT
        (d.fld (pg .disch) F.DISCH.VOLTAGE_CODE) := by
  have hcode : ((d.setFld (pg .disch) F.DISCH.STATUS_DSTATE 4).bump (pg .disch) R.DISCH.TIMEOUTS).fld (pg .disch)
      F.DISCH.VOLTAGE_CODE = d.fld (pg .disch) F.DISCH.VOLTAGE_CODE := by
    rw [fld_bump_apart _ (by decide), fld_setFld_apart _ _ (by decide)]
  rw [← hcode]
  exact if_pos ⟨hon, hst, hlate⟩

/-- A TEST passes with the readback right and two results of AF[IN], none of them with an open-wire flag. -/
abbrev TestPasses (d : Dev) (readback : Bool) : Prop := readback = true ∧ 2 ≤ d.disch.tests ∧ d.disch.testOw = false

theorem not_testPasses {d : Dev} {readback : Bool} (h : readback = false ∨ d.disch.tests < 2 ∨ d.disch.testOw = true) :
    ¬ d.TestPasses readback := by
  rintro ⟨hread, htests, hclear⟩
  obtain hlow | hfew | hopen := h
  · exact absurd (hread.symm.trans hlow) (by decide)
  · omega
  · exact absurd (hopen.symm.trans hclear) (by decide)

/-- The device with a TEST passed. -/
def testPassed (d : Dev) : Dev :=
  ((d.dischOff.setFlag (pg .disch) F.DISCH.STATUS_CHECKED true).bump (pg .disch) R.DISCH.CHECKS).event (pg .disch) F.DISCH.EVENT_CHECK_PASS

/-- The device with a TEST failed. -/
def testFailed (d : Dev) : Dev := d.dischOff.event (pg .disch) F.DISCH.EVENT_CHECK_FAIL

theorem dischTestDone_over {d : Dev} (hst : d.dstate = 5) (hover : d.disch.since + 16000 ≤ d.now) (readback : Bool) :
    d.dischTestDone readback = if d.TestPasses readback then d.testPassed else d.testFailed := by
  refine (if_pos ⟨hst, hover⟩).trans (if_congr ?_ rfl rfl)
  simp [TestPasses, and_assoc]

theorem testPassed_spec (d : Dev) : d.testPassed.dstate = 0 ∧ d.testPassed.disch.on = false ∧
    d.testPassed.flag (pg .disch) F.DISCH.STATUS_CHECKED = true ∧ d.testPassed.flag (pg .disch) F.DISCH.EVENT_CHECK_PASS = true := by
  refine ⟨?dstate, by simp [testPassed], ?checked, flag_event_self _ _ _ (by decide) rfl⟩
  case dstate =>
    simp (disch := decide) only [dstate, testPassed, fld_event_apart, fld_bump_apart, fld_setFlag_apart]
    exact dstate_dischOff d
  case checked => simp (disch := decide) only [testPassed, flag_event_apart, flag_bump_apart, flag_setFlag_self]

theorem testFailed_spec (d : Dev) : d.testFailed.dstate = 0 ∧ d.testFailed.disch.on = false ∧
    d.testFailed.flag (pg .disch) F.DISCH.EVENT_CHECK_FAIL = true ∧
    d.testFailed.flag (pg .disch) F.DISCH.STATUS_CHECKED = d.flag (pg .disch) F.DISCH.STATUS_CHECKED :=
  ⟨(fld_event_apart _ (by decide)).trans d.dstate_dischOff, by simp [testFailed], flag_event_self _ _ _ (by decide) rfl,
    (flag_event_apart _ (by decide)).trans (d.flag_dischOff (by decide) (by decide))⟩

end Dev

/-- A permitted write of DCMD runs as the discharge's. -/
theorem Runs.discharge {c : Instr} {d t : Dev} {m : Master} {w : Word} (h : d.CanWrite m .disch 0 R.DISCH.DCMD)
    (hc : ∀ s, exec c s = .next (s.onDev fun d => d.portWrite m .disch 0 R.DISCH.DCMD w)) (ht : d.dischWrite m R.DISCH.DCMD w = t) :
    Runs c d t.done :=
  Runs.port h (by decide) hc ((d.regWrite_disch m (by decide) w {}).trans ht)

section Dcmd
variable {d t : Dev} {m : Master} (h : d.CanWrite m .disch 0 R.DISCH.DCMD)
include h

theorem Runs.dischStart (ht : d.dischStart = t) : Runs (.dischStart m) d t.done := Runs.discharge h (fun _ => rfl) ht
theorem Runs.dischStop (ht : d.dischStop = t) : Runs (.dischStop m) d t.done := Runs.discharge h (fun _ => rfl) ht
theorem Runs.circulate (ht : d.circulate = t) : Runs (.circulate m) d t.done := Runs.discharge h (fun _ => rfl) ht
theorem Runs.dischTest (ht : d.dischTest = t) : Runs (.test m) d t.done := Runs.discharge h (fun _ => rfl) ht

end Dcmd

/-- Settles O25: each command of DCMD by the states that admit it, the trigger that waits for the tiles, and the ends of HOLD, of the time
limit and of a TEST by their conditions. -/
theorem dischargeRuns : Obligations.DischargeRuns := by
  unfold Obligations.DischargeRuns
  intro d m p
  refine ⟨fun h => ⟨?start, fun hst => Runs.dischStart h (Dev.dischStart_running hst), ?stop,
    fun href => Runs.dischStop h (Dev.dischStop_refused href), ?circulate, ?test,
    fun hst => Runs.dischTest h (Dev.dischTest_running hst)⟩, ?disarm, ?testDone, ?hold,
    fun hon hst hlate => Runs.dev (fun _ => rfl) (Dev.dischTimeout_late hon hst hlate),
    Runs.dev (fun _ => rfl) d.dischOutput_low, Runs.dev (fun _ => rfl) d.dischOutput_high,
    Runs.dev (fun _ => rfl) d.dischOutput_agrees⟩
  case start =>
    intro hst hoff
    obtain ⟨hdisch, hstate, htrig⟩ := Dev.dischOn_rest_spec hoff (trig := 5) (by decide) true
    obtain ⟨hmem, hkeys⟩ := d.dischOn_store 5 false true
    exact ⟨_, Runs.dischStart h (Dev.dischStart_admitted hst), congrArg DischS.on hdisch, congrArg DischS.byStart hdisch, hstate, htrig,
      hmem, hkeys⟩
  case stop =>
    intro hon hby hguard
    obtain ⟨hmem, hkeys⟩ := d.dischOff_store
    exact ⟨_, Runs.dischStop h (Dev.dischStop_started hon hby hguard), congrArg DischS.on d.disch_dischOff, d.dstate_dischOff, hmem, hkeys⟩
  case circulate =>
    intro hst hen hgroup hoff
    obtain ⟨hon, hstate, hcirc⟩ := d.circBegun_spec
    have hbegun := Dev.circulate_rest hst hen hgroup hoff
    obtain ⟨hmem, hkeys⟩ := d.circulate_store
    rw [hbegun] at hmem hkeys
    generalize d.circBegun = e at *
    exact ⟨_, Runs.circulate h hbegun, hon, hstate, hcirc, hmem, hkeys⟩
  case test =>
    intro hst hidle hthresh hbelow
    obtain ⟨hstate, hon, htests, hsince⟩ := d.testBegun_spec
    have hbegun := Dev.dischTest_admitted hst hidle hthresh hbelow
    obtain ⟨hmem, hkeys⟩ := d.dischTest_store
    rw [hbegun] at hmem hkeys
    exact ⟨_, Runs.dischTest h hbegun, hstate, hon, htests, hsince, hmem, hkeys⟩
  case disarm =>
    intro harmed hstopped hoff
    obtain ⟨hdisch, hstate, htrig⟩ := Dev.dischOn_rest_spec (d := d.disarmTaken) hoff (trig := if d.disch.armedHalt then 2 else 1)
      (by split <;> decide) false
    obtain ⟨hmem, -⟩ := d.disarmTaken.dischOn_store (if d.disch.armedHalt then 2 else 1) false false
    exact ⟨_, Runs.dev (fun _ => rfl) (Dev.dischDisarmTrigger_stopped harmed hstopped), congrArg DischS.on hdisch,
      congrArg DischS.armed hdisch, hstate, htrig, hmem⟩
  case testDone =>
    intro r hst hover
    have hdone := Dev.dischTestDone_over hst hover r
    by_cases hpass : d.TestPasses r
    · rw [if_pos hpass] at hdone
      obtain ⟨hstate, hoff, hchecked, hevent⟩ := d.testPassed_spec
      exact ⟨_, Runs.dev (fun _ => rfl) hdone, hstate, hoff, fun _ _ _ => ⟨hchecked, hevent⟩,
        fun hfail => absurd hpass (Dev.not_testPasses hfail)⟩
    · rw [if_neg hpass] at hdone
      obtain ⟨hstate, hoff, hevent, hchecked⟩ := d.testFailed_spec
      exact ⟨_, Runs.dev (fun _ => rfl) hdone, hstate, hoff, fun hr htests how => absurd ⟨hr, htests, how⟩ hpass,
        fun _ => ⟨hevent, hchecked⟩⟩
  case hold =>
    intro hst hguard hover
    obtain ⟨hstate, hoff, hcount, hevent⟩ := d.holdEnded_spec
    exact ⟨_, Runs.dev (fun _ => rfl) (Dev.dischHoldExpiry_over hst hguard hover), hstate, hoff, hcount, hevent⟩

end Sys2Proof.Machine
end

section
/-!
PROOFS. Writes of the pages of the converters, of the bins and of the rings (R11, R30, R43): ENABLE under the page's key, and a register of
the block itself.
-/
namespace Sys2Proof.Machine
namespace Dev

/-- On a page that is neither a converter group nor FAULT a permitted write of a block-specific register is the block's. -/
theorem regWrite_block {k : PageKind} (hconv : k ≠ .conv) (hfault : k ≠ .fault) (d : Dev) (m : Master) (i : Nat) {ofs : Nat}
    (ho : 0x100 ≤ ofs ∧ ofs < 0x800) (w : Word) (f : WriteFacts) : d.regWrite m k i ofs w f = d.blockWrite m k i ofs w f := by
  have hhdr : ¬ ofs < 0x100 := by omega
  simp only [regWrite, if_neg hhdr, if_pos ho.2]

/-- A write of CTRL without SOFT_RESET on a page that a key guards: ENABLE = 1 needs the key. -/
theorem regWrite_keyedCtrl {k : PageKind} {i key : Nat} (hconv : k ≠ .conv) (hfault : k ≠ .fault) (hkey : pageKey (pg k i) = some key)
    (d : Dev) (m : Master) (on : Bool) : d.regWrite m k i R.HDR.CTRL (BitVec.ofNat 32 (b2n on)) {} =
      if on && !d.keyHeldBy m key then d.event (pg k i) F.HDR.EVENT_NOKEY else d.enableWrite m k i on [] := by
  have henable : ∀ on, bitAt (BitVec.ofNat 32 (b2n on)).toNat 0 = on := by decide
  have hsoft : ∀ on, bitAt (BitVec.ofNat 32 (b2n on)).toNat 1 = false := by decide
  rw [regWrite_header hconv hfault _ _ _ (by decide)]
  show d.ctrlWrite m k i (BitVec.ofNat 32 (b2n on)) [] = _
  simp only [ctrlWrite, henable, hsoft, hkey, Bool.false_eq_true, if_false]

end Dev

section PageWrites
variable {c : Instr} {d t : Dev} {m : Master} {k : PageKind} {i : Nat} (hconv : k ≠ .conv) (hfault : k ≠ .fault)
include hconv hfault

/-- A permitted write of a block-specific register runs as the block's. -/
theorem Runs.block {ofs : Nat} {w : Word} (h : d.CanWrite m k i ofs) (ho : 0x100 ≤ ofs ∧ ofs < 0x800)
    (hc : ∀ s, exec c s = .next (s.onDev fun d => d.portWrite m k i ofs w)) (ht : d.blockWrite m k i ofs w {} = t) : Runs c d t.done :=
  Runs.port h (by omega) hc ((Dev.regWrite_block hconv hfault d m i ho w {}).trans ht)

/-- A permitted write of ENABLE of a page that a key guards runs as the page's, ENABLE = 1 under the key. -/
theorem Runs.keyedEnable {key : Nat} {on : Bool} (h : d.CanWrite m k i R.HDR.CTRL) (hkey : pageKey (pg k i) = some key)
    (hheld : on = true → d.keyHeldBy m key = true)
    (hc : ∀ s, exec c s = .next (s.onDev fun d => d.portWrite m k i R.HDR.CTRL (BitVec.ofNat 32 (b2n on))))
    (ht : d.enableWrite m k i on [] = t) : Runs c d t.done := by
  refine Runs.port h (by decide) hc ?_
  have hgate : (on && !d.keyHeldBy m key) = false := by
    cases on
    · rfl
    · simp [hheld rfl]
  rw [Dev.regWrite_keyedCtrl hconv hfault hkey, hgate]
  exact ht

end PageWrites

end Sys2Proof.Machine
end

section
/-!
PROOFS. Rings (R217, R219–R222): the writes of the indexes, what a producer's write observes, the end of an overflow, and ENABLE.
-/
namespace Sys2Proof.Machine

/-- An index moved by its distance to another is the other (R217). -/
theorem add32_sub32 {a b : Nat} (ha : a < 2 ^ 32) (hb : b < 2 ^ 32) : add32 a (sub32 b a) = b := by
  unfold add32 sub32
  omega

namespace Dev

/-! ## The consumer index (R220) -/

theorem ciWrite_within {d : Dev} {n v : Nat} (hwhole : v % 8 = 0) (hfill : sub32 v (d.ringCi n) ≤ d.ringFill n) :
    d.ciWrite n v = d.setReg (pg .ring n) R.RING.CI (BitVec.ofNat 32 v) := if_pos ⟨hwhole, hfill⟩

theorem ciWrite_beyond {d : Dev} {n v : Nat} (h : v % 8 ≠ 0 ∨ d.ringFill n < sub32 v (d.ringCi n)) :
    d.ciWrite n v = d.event (pg .ring n) F.RING.EVENT_CI_REFUSED := if_neg (by omega)

/-! ## The producer index (R219) -/

theorem piWrite_within {d : Dev} {n v : Nat} (hcore : d.ringProducer n = 0xFF) (hwhole : v % 8 = 0)
    (hfree : sub32 v (d.ringPi n) ≤ d.ringFree n) : d.piWrite n v = d.advancePi n (sub32 v (d.ringPi n)) := by
  simp only [piWrite, hcore, ne_eq, not_true, if_false, if_pos (And.intro hwhole hfree)]

theorem piWrite_beyond {d : Dev} {n v : Nat} (hcore : d.ringProducer n = 0xFF)
    (h : v % 8 ≠ 0 ∨ d.ringFree n < sub32 v (d.ringPi n)) : d.piWrite n v = d.event (pg .ring n) F.RING.EVENT_PI_REFUSED := by
  have hbad : ¬ (v % 8 = 0 ∧ sub32 v (d.ringPi n) ≤ d.ringFree n) := by omega
  simp only [piWrite, hcore, ne_eq, not_true, if_false, if_neg hbad]

theorem reg_noteHighFill (d : Dev) (n : Nat) {o : Nat} (h : o ≠ R.RING.HIGH_FILL) :
    (d.noteHighFill n).reg (pg .ring n) o = d.reg (pg .ring n) o := by
  unfold noteHighFill
  split
  · exact reg_setReg_apart d _ h
  · rfl

theorem reg_noteWatermark (d : Dev) (n before : Nat) {o : Nat} (h : o ≠ R.HDR.EVENT) :
    (d.noteWatermark n before).reg (pg .ring n) o = d.reg (pg .ring n) o := by
  unfold noteWatermark
  split
  · exact reg_event_apart d h
  · rfl

/-- The highest fill and the watermark leave the indexes to the advance of PI itself. -/
theorem reg_advancePi (d : Dev) (n bytes : Nat) {o : Nat} (h : o ≠ R.RING.HIGH_FILL ∧ o ≠ R.HDR.EVENT) :
    (d.advancePi n bytes).reg (pg .ring n) o =
      (d.setReg (pg .ring n) R.RING.PI (BitVec.ofNat 32 (add32 (d.ringPi n) bytes))).reg (pg .ring n) o := by
  rw [advancePi, reg_noteWatermark _ _ _ h.2, reg_noteHighFill _ _ h.1]

/-- PI advanced by the distance to a word is that word, and CI stays. -/
theorem advancePi_spec (d : Dev) (n : Nat) (w : Word) :
    (d.advancePi n (sub32 w.toNat (d.ringPi n))).reg (pg .ring n) R.RING.PI = w ∧
      (d.advancePi n (sub32 w.toNat (d.ringPi n))).reg (pg .ring n) R.RING.CI = d.reg (pg .ring n) R.RING.CI := by
  have hpi : d.ringPi n < 2 ^ 32 := (d.reg (pg .ring n) R.RING.PI).isLt
  rw [reg_advancePi _ _ _ (by decide), reg_advancePi _ _ _ (by decide), reg_setReg_self, add32_sub32 hpi w.isLt, BitVec.ofNat_toNat,
    BitVec.setWidth_eq, reg_setReg_apart _ _ (by decide)]
  exact ⟨rfl, rfl⟩

/-! ## What a producer's write observes (R531) -/

/-- Records that the check units observe are counted on their own pages. -/
theorem pageRegs_observeRecord (d : Dev) (ring : Nat) (ws : List Word) {p : Nat} (h : ∀ u < 4, p ≠ pg .check u) :
    (d.observeRecord ring ws).pageRegs p = d.pageRegs p := by
  refine each_keeps (pageRegs · p) d _ _ fun e u hu => ?_
  have hp : p ≠ pg .check u := h u (List.mem_range.mp hu)
  split
  · split
    · exact pageRegs_bump e 1 ⟨hp, by decide⟩
    · rfl
  · rfl

theorem pageRegs_observeFrom (d : Dev) (ring hi fuel x : Nat) {p : Nat} (h : ∀ u < 4, p ≠ pg .check u) :
    (d.observeFrom ring hi fuel x).pageRegs p = d.pageRegs p := by
  induction fuel generalizing d x with
  | zero => rfl
  | succ fuel ih =>
    simp only [observeFrom]
    simp only [pageRegs_ite, ih, pageRegs_observeRecord _ _ _ h, ite_self]

/-- What the check units observe leaves the ring as the write of PI made it. -/
theorem pageRegs_piWriteSeen (d : Dev) {n : Nat} (hn : n < 96) (v : Nat) :
    (d.piWriteSeen n v).pageRegs (pg .ring n) = (d.piWrite n v).pageRegs (pg .ring n) := by
  have hcheck : ∀ u < 4, pg .ring n ≠ pg .check u := by
    intro u hu
    simp only [pg, PageKind.first]
    omega
  simp only [piWriteSeen, pageRegs_ite, pageRegs_observeFrom _ _ _ _ _ hcheck, ite_self]

/-- A refused write passes no record. -/
theorem piWriteSeen_beyond {d : Dev} {n v : Nat} (hcore : d.ringProducer n = 0xFF)
    (h : v % 8 ≠ 0 ∨ d.ringFree n < sub32 v (d.ringPi n)) :
    d.piWriteSeen n v = d.event (pg .ring n) F.RING.EVENT_PI_REFUSED := by
  have hsame : (d.event (pg .ring n) F.RING.EVENT_PI_REFUSED).ringPi n = d.ringPi n :=
    congrArg BitVec.toNat (reg_event_apart d (by decide))
  simp only [piWriteSeen, piWrite_beyond hcore h, hsame, if_true]

theorem ringWrite_pi {d : Dev} (m : Master) {n : Nat} (w : Word) (hcore : d.ringProducer n = 0xFF) :
    d.ringWrite m n R.RING.PI w = d.piWriteSeen n w.toNat := by
  rw [ringWrite, if_pos rfl, if_pos hcore]

/-- PI of a ring whose producer is a block is not written by a core. -/
theorem ringWrite_pi_block {d : Dev} (m : Master) {n : Nat} (w : Word) (hblock : d.ringProducer n ≠ 0xFF) :
    d.ringWrite m n R.RING.PI w = d := by
  rw [ringWrite, if_pos rfl, if_neg hblock]

/-! ## The end of an overflow (R221) -/

theorem clrOvf_overflowed {d : Dev} {n : Nat} (h : d.flag (pg .ring n) F.RING.STATUS_OVERFLOW = true) :
    d.clrOvf n = (d.setFlag (pg .ring n) F.RING.STATUS_OVERFLOW false).modRing n (fun r => { r with gapDue := true }) := if_pos h

theorem clrOvf_none {d : Dev} {n : Nat} (h : d.flag (pg .ring n) F.RING.STATUS_OVERFLOW = false) : d.clrOvf n = d :=
  if_neg (by simp [h])

/-! ## ENABLE (R217, R222) -/

/-- A ring enabled: empty, with no overflow and no fill noted. -/
def ringStarted (d : Dev) (n : Nat) : Dev :=
  let p := pg .ring n
  (((((d.setReg p R.RING.PI 0).setReg p R.RING.CI 0).setReg p R.RING.HIGH_FILL 0).setFlag p F.RING.STATUS_OVERFLOW false).modRing n
    (fun _ => {})).setFld p F.HDR.CTRL_ENABLE 1

theorem ringOn_of_disabled {d : Dev} {n : Nat} (h : d.flag (pg .ring n) F.HDR.CTRL_ENABLE = false) : d.ringOn n = false := by
  simp [ringOn, h]

theorem enableWrite_ring_sound {d : Dev} (m : Master) {n : Nat} (hoff : d.flag (pg .ring n) F.HDR.CTRL_ENABLE = false)
    (h : d.ringConfigOk n = true) : d.enableWrite m .ring n true [] = d.ringStarted n := by
  simp only [enableWrite, ringEnable, ringOn_of_disabled hoff, h, if_true, Bool.false_eq_true, if_false]
  rfl

theorem enableWrite_ring_unsound {d : Dev} (m : Master) {n : Nat} (hoff : d.flag (pg .ring n) F.HDR.CTRL_ENABLE = false)
    (h : d.ringConfigOk n = false) : d.enableWrite m .ring n true [] = d.event (pg .ring n) F.RING.EVENT_CFG_BAD := by
  simp only [enableWrite, ringEnable, ringOn_of_disabled hoff, h, if_true, Bool.false_eq_true, if_false]

/-- A ring that an enabled producer names stays enabled. -/
theorem enableWrite_ring_inUse {d : Dev} (m : Master) {n : Nat} (hon : d.ringOn n = true) (h : d.ringInUse n = true) :
    d.enableWrite m .ring n false [] = d.refuse m (pg .ring n) R.HDR.CTRL := by
  simp only [enableWrite, ringEnable, hon, h, Bool.and_self, if_true, Bool.false_eq_true, if_false]

theorem ringStarted_spec (d : Dev) (n : Nat) :
    (d.ringStarted n).flag (pg .ring n) F.HDR.CTRL_ENABLE = true ∧ (d.ringStarted n).ringFill n = 0 ∧
      (d.ringStarted n).flag (pg .ring n) F.RING.STATUS_OVERFLOW = false ∧ (d.ringStarted n).mem = d.mem ∧
      (d.ringStarted n).keys = d.keys := by
  have hpi : (d.ringStarted n).reg (pg .ring n) R.RING.PI = 0 := by
    simp (disch := decide) only [ringStarted, reg_setFld_apart, reg_modRing, reg_setFlag_apart, reg_setReg_apart, reg_setReg_self]
  have hci : (d.ringStarted n).reg (pg .ring n) R.RING.CI = 0 := by
    simp (disch := decide) only [ringStarted, reg_setFld_apart, reg_modRing, reg_setFlag_apart, reg_setReg_apart, reg_setReg_self]
  refine ⟨?on, ?fill, ?overflow, by simp [ringStarted], by simp [ringStarted]⟩
  case on => exact flag_setFld_self _ _ _ _ (by decide)
  case fill =>
    rw [ringFill, ringPi, ringCi, hpi, hci]
    rfl
  case overflow => simp (disch := decide) only [ringStarted, flag_setFld_apart, flag_modRing, flag_setFlag_self]

end Dev

/-- A permitted write of a ring's register runs as the ring's. -/
theorem Runs.ring {c : Instr} {d t : Dev} {m : Master} {n ofs : Nat} {w : Word} (h : d.CanWrite m .ring n ofs)
    (ho : 0x100 ≤ ofs ∧ ofs < 0x800) (hc : ∀ s, exec c s = .next (s.onDev fun d => d.portWrite m .ring n ofs w))
    (ht : d.ringWrite m n ofs w = t) : Runs c d t.done :=
  Runs.block (by decide) (by decide) h ho hc ht

/-- ENABLE of a ring, permitted and under the ring's key, runs as the ring's. -/
theorem Runs.ringEnable {d t : Dev} {m : Master} {n : Fin 96} {on : Bool} (h : d.CanWrite m .ring n.val R.HDR.CTRL)
    (hheld : on = true → d.keyHeldBy m (0x260 + n.val) = true) (ht : d.enableWrite m .ring n.val on [] = t) :
    Runs (.ringEnable m n on) d t.done :=
  Runs.keyedEnable (by decide) (by decide) h (by simp [pageKey, Dev.pageOf_of_canWrite h (by decide)]) hheld (fun _ => rfl) ht

/-- Settles O28: each index by the room for its move, CLR_OVF by whether the ring overflows, and ENABLE by its checks. -/
theorem ringsRun : Obligations.RingsRun := by
  unfold Obligations.RingsRun
  intro d m n p
  refine ⟨?ci, ?ciRefused, ?pi, ?piRefused, ?piBlock, ?overflowed, ?noOverflow, ?enable, ?inUse⟩
  case ci =>
    intro w h hwhole hfill
    have hci := Dev.ciWrite_within hwhole hfill
    rw [BitVec.ofNat_toNat, BitVec.setWidth_eq] at hci
    exact Runs.ring h (by decide) (fun _ => rfl) hci
  case ciRefused => exact fun w h hbad => Runs.ring h (by decide) (fun _ => rfl) (Dev.ciWrite_beyond hbad)
  case pi =>
    intro w h hcore hwhole hfree
    have hpage := d.pageRegs_piWriteSeen n.isLt w.toNat
    obtain ⟨hpi, hci⟩ := d.advancePi_spec n.val w
    obtain ⟨hmem, hkeys⟩ := d.piWriteSeen_store n.val w.toNat
    rw [Dev.piWrite_within hcore hwhole hfree] at hpage
    refine ⟨_, Runs.ring h (by decide) (fun _ => rfl) (Dev.ringWrite_pi m w hcore), ?_⟩
    rw [Dev.reg_done, Dev.reg_done, Dev.reg_of_pageRegs hpage (by decide), Dev.reg_of_pageRegs hpage (by decide)]
    exact ⟨hpi, hci, hmem, hkeys⟩
  case piRefused =>
    exact fun w h hcore hbad => Runs.ring h (by decide) (fun _ => rfl)
      ((Dev.ringWrite_pi m w hcore).trans (Dev.piWriteSeen_beyond hcore hbad))
  case piBlock => exact fun w h hblock => Runs.ring h (by decide) (fun _ => rfl) (Dev.ringWrite_pi_block m w hblock)
  case overflowed => exact fun h hov => Runs.ring h (by decide) (fun _ => rfl) (Dev.clrOvf_overflowed hov)
  case noOverflow => exact fun h hov => Runs.ring h (by decide) (fun _ => rfl) (Dev.clrOvf_none hov)
  case enable =>
    intro h hheld hoff
    refine ⟨fun hsound => ?_, fun hbad => Runs.ringEnable h (fun _ => hheld) (Dev.enableWrite_ring_unsound m hoff hbad)⟩
    obtain ⟨hon, hfill, hover, hmem, hkeys⟩ := d.ringStarted_spec n.val
    have hrun := Runs.ringEnable h (fun _ => hheld) (Dev.enableWrite_ring_sound m hoff hsound)
    generalize d.ringStarted n.val = t at *
    exact ⟨_, hrun, hon, hfill, hover, hmem, hkeys⟩
  case inUse => exact fun h hon hused => Runs.ringEnable h (by simp) (Dev.enableWrite_ring_inUse m hon hused)

end Sys2Proof.Machine
end

section
/-!
PROOFS. The monitor converter and the open-wire rounds (R223–R225, R227, R228): a conversion of the monitor, its whole scan in HIBERNATE and
its stall, the start of a round, and the first result of a test.
-/
namespace Sys2Proof.Machine
namespace Dev

/-! ## The clock while a domain is judged (R342, R345, R354) -/

@[simp] theorem now_ite (c : Prop) [Decidable c] (a b : Dev) : (if c then a else b).now = if c then a.now else b.now := apply_ite _ _ _ _

@[simp] theorem now_setBucks (d : Dev) (f : Fld) (n : Nat) (on : Bool) : (d.setBucks f n on).now = d.now :=
  each_keeps now d _ _ fun _ _ _ => rfl

@[simp] theorem now_relSwitch (d : Dev) (on : Bool) : (d.relSwitch on).now = d.now := by
  simp [relSwitch, relStart, relStop, setRel]

@[simp] theorem now_regSwitch (d : Dev) (n : Nat) (on : Bool) : (d.regSwitch n on).now = d.now := by
  simp [regSwitch, buckSoftStart, rotateLead]

@[simp] theorem now_setDomState (d : Dev) (n st : Nat) : (d.setDomState n st).now = d.now := by
  simp [setDomState]

@[simp] theorem now_lower (d : Dev) (k : PageKind) (i b : Nat) : (d.lower k i b).now = d.now := by
  simp [lower, setActive, restartQuiet]

@[simp] theorem now_domJudge (d : Dev) (n v : Nat) : (d.domJudge n v).now = d.now := by
  simp [domJudge]

@[simp] theorem now_domContentLost (d : Dev) (n : Nat) : (d.domContentLost n).now = d.now := by
  have hpages : (d.each (domPages n) resetPages).now = d.now := each_keeps now d _ _ fun _ _ _ => rfl
  simp [domContentLost, zeroMemory, hpages]

@[simp] theorem now_domResult (d : Dev) (n v : Nat) : (d.domResult n v).now = d.now := by
  simp [domResult, domOff, setOrder, modSeq_frame]

/-! ## A conversion of the monitor (R223) -/

@[simp] theorem now_monitorResult (d : Dev) (j : Nat) (f : Int) (sat : Bool) : (d.monitorResult j f sat).now = d.now := by
  unfold monitorResult
  simp [owSeen]

/-- What RESULT shows of a channel above the taps of the domains. -/
def monitorWord (d : Dev) (j : Nat) (f : Int) (sat : Bool) : Word :=
  let r := userCal (d.ucal (j + 48)) f
  BitVec.ofNat 32 (ofSigned 16 r.1 + 65536 * b2n (sat || r.2) + 131072 * b2n (d.owFlag (j + 48)) +
    16777216 * ((d.reg (pg .monadc) R.MONADC.SCANS).toNat % 256))

/-- A channel above the taps is no domain's: its result changes RESULT alone among the registers. -/
theorem regs_monitorResult (d : Dev) {j : Nat} (h : 16 ≤ j) (f : Int) (sat : Bool) :
    (d.monitorResult j f sat).regs = (d.setReg (pg .monadc) (R.MONADC.RESULT + 4 * j) (d.monitorWord j f sat)).regs := by
  have hlow : ¬ j < 16 := by omega
  have how : (decide (16 ≤ j) && d.owFlag (j + 48)) = d.owFlag (j + 48) := by simp [h]
  simp only [monitorResult, monitorWord, if_neg hlow, how, owSeen]
  split <;> rfl

/-- The monitor after the conversion of channel `chan`: the next channel's starts. -/
def monitorStepped (d : Dev) (raw : Nat) (corr : Int) (sat : Bool) : Dev :=
  let e := d.monitorResult d.mon.chan (slowValue raw corr (d.trimmed 16)) sat
  { e with mon := { e.mon with chan := (d.mon.chan + 1) % 40, since := e.now } }

/-- The scan has come to its end. -/
def monitorScanned (d : Dev) : Dev :=
  ({ d with mon := { d.mon with scanFrom := d.now } }.bump (pg .monadc) R.MONADC.SCANS).event (pg .monadc) F.MONADC.EVENT_SCAN_DONE

theorem monitorConversion_over {d : Dev} (hlo : 2 ≤ d.state) (hhi : d.state ≤ 5) (hover : d.mon.since + 400 ≤ d.now) (raw : Nat)
    (corr : Int) (sat : Bool) : d.monitorConversion raw corr sat =
      if d.mon.chan = 39 then (d.monitorStepped raw corr sat).monitorScanned else d.monitorStepped raw corr sat :=
  if_neg (by omega)

theorem mon_monitorConversion {d : Dev} (hlo : 2 ≤ d.state) (hhi : d.state ≤ 5) (hover : d.mon.since + 400 ≤ d.now) (raw : Nat)
    (corr : Int) (sat : Bool) : (d.monitorConversion raw corr sat).mon.chan = (d.mon.chan + 1) % 40 ∧
      (d.monitorConversion raw corr sat).mon.since = d.now := by
  have hstep : (d.monitorStepped raw corr sat).mon.chan = (d.mon.chan + 1) % 40 ∧ (d.monitorStepped raw corr sat).mon.since = d.now :=
    ⟨rfl, now_monitorResult _ _ _ _⟩
  rw [monitorConversion_over hlo hhi hover]
  split
  · simpa [monitorScanned] using hstep
  · exact hstep

theorem regs_monitorConversion {d : Dev} (hlo : 2 ≤ d.state) (hhi : d.state ≤ 5) (hover : d.mon.since + 400 ≤ d.now)
    (hslow : 16 ≤ d.mon.chan) (hmid : d.mon.chan < 39) (raw : Nat) (corr : Int) (sat : Bool) :
    (d.monitorConversion raw corr sat).regs = (d.setReg (pg .monadc) (R.MONADC.RESULT + 4 * d.mon.chan)
      (d.monitorWord d.mon.chan (slowValue raw corr (d.trimmed 16)) sat)).regs := by
  rw [monitorConversion_over hlo hhi hover, if_neg (by omega)]
  exact regs_monitorResult d hslow _ sat

/-! ## The scan in HIBERNATE and the stall (R224, R225) -/

/-- Values for every channel that is left complete the scan. -/
theorem hibScanCycle_whole {d : Dev} {vals : List (Nat × Int)} (hst : d.state = 6)
    (hall : (d.hibChannels.drop d.mon.hib).length ≤ vals.length)
    (hover : d.mon.scanFrom + 400 * (20 + d.mon.hib + (d.hibChannels.drop d.mon.hib).length) ≤ d.now) :
    d.hibScanCycle vals = ((d.each ((d.hibChannels.drop d.mon.hib).zip vals)
      (fun d e => d.monitorResult e.1 (slowValue e.2.1 e.2.2 (d.trimmed 16)) false)).hibNext).bump (pg .monadc) R.MONADC.HIB_SCANS := by
  have hgo : ¬ (d.state ≠ 6 ∨ d.now < d.mon.scanFrom +
      400 * (20 + d.mon.hib + min vals.length (d.hibChannels.drop d.mon.hib).length)) := by
    rw [Nat.min_eq_right hall]
    omega
  simp only [hibScanCycle, if_neg hgo, if_neg (Nat.not_lt.mpr hall)]

/-- Outside HIBERNATE a scan has 50 µs. -/
theorem monStall_late {d : Dev} (hhi : d.state ≤ 5) (hlate : d.mon.scanFrom + 20000 ≤ d.now) :
    d.monStall = ({ d with mon := { d.mon with chan := 0, since := d.now, scanFrom := d.now } }.bump (pg .monadc)
      R.MONADC.STALLS).raise .monadc 0 B.MONADC.MON_STALL d.mon.chan := by
  have hhib : (d.state == 6) = false := beq_false_of_ne (by omega)
  have hgo : ¬ d.now < d.mon.scanFrom + 400 * 50 := by omega
  simp only [monStall, hhib, Bool.false_eq_true, if_false, if_neg hgo]

/-! ## Open-wire rounds (R227, R228) -/

theorem owRoundStart_due {d : Dev} (hlive : d.busLive = true) (hon : d.flag (pg .openwire) F.HDR.CTRL_ENABLE = true)
    (hidle : d.ow.inRound = false)
    (hdue : ∀ t, d.ow.roundFrom = some t → t + 400000 * d.fld (pg .openwire) F.OPENWIRE.OW_CFG_ROUND ≤ d.now) :
    d.owRoundStart = ({ d with ow := { d.ow with inRound := true, roundFrom := some d.now } } : Dev).owNext 0 89 := by
  obtain ⟨hlo, hhi⟩ : 2 ≤ d.state ∧ d.state ≤ 5 := by simpa [busLive] using hlive
  have hstate : ¬ d.state < 2 ∧ ¬ 5 < d.state := by omega
  cases hround : d.ow.roundFrom with
  | none => simp [owRoundStart, hround, hon, hidle, hstate]
  | some t =>
    have hpast : ¬ d.now < t + 400000 * d.fld (pg .openwire) F.OPENWIRE.OW_CFG_ROUND := Nat.not_lt.mpr (hdue t hround)
    simp [owRoundStart, hround, hon, hidle, hstate, hpast]

/-- The result under the pull-up switches the pull. -/
theorem owSettleSample_up {d : Dev} {u : Int} (hphase : d.ow.phase = .up) (hseen : d.ow.seen = some u) :
    d.owSettleSample = { d with ow := { d.ow with u := u, phase := .down, seen := none, since := d.now } } := by
  simp only [owSettleSample, hphase, hseen]

theorem owSettleSample_unseen {d : Dev} (hseen : d.ow.seen = none) : d.owSettleSample = d := by
  simp only [owSettleSample, hseen]
  cases d.ow.phase <;> rfl

end Dev

/-- Settles O29: a conversion by its channel, a whole scan and a stall by the clock, and a round by its start and by its first result. -/
theorem monitorAndOpenWireRun : Obligations.MonitorAndOpenWireRun := by
  unfold Obligations.MonitorAndOpenWireRun
  intro d
  refine ⟨?conversion, ?scan, ?stall, ?round, ?pull, ?unseen⟩
  case conversion =>
    intro raw corr sat hlo hhi hover
    obtain ⟨hchan, hsince⟩ := Dev.mon_monitorConversion hlo hhi hover raw.toNat corr.toInt sat
    refine ⟨_, Runs.dev (fun _ => rfl) rfl, hchan, hsince, fun hslow hmid => ?_⟩
    have hregs := Dev.regs_monitorConversion hlo hhi hover hslow hmid raw.toNat corr.toInt sat
    have hscans : R.MONADC.SCANS ≠ R.MONADC.RESULT + 4 * d.mon.chan := by
      unfold R.MONADC.SCANS R.MONADC.RESULT
      omega
    rw [Dev.reg_of_regs hregs, Dev.reg_of_regs hregs, Dev.reg_setReg_self, Dev.reg_setReg_apart _ _ hscans]
    exact ⟨rfl, rfl⟩
  case scan =>
    intro vals hst left v hall hover
    have hall' : left.length ≤ v.length := by rwa [List.length_map]
    exact Runs.dev (fun _ => rfl) (Dev.hibScanCycle_whole hst hall' hover)
  case stall =>
    intro hlo hhi hlate
    have hisland : d.islandOn = true := decide_eq_true hlo
    exact Runs.island hisland (fun _ => rfl) (Dev.monStall_late hhi hlate)
  case round => exact fun hlive hon hidle hdue => Runs.live hlive (fun _ => rfl) (Dev.owRoundStart_due hlive hon hidle hdue)
  case pull => exact fun hlive u hphase hseen => Runs.live hlive (fun _ => rfl) (Dev.owSettleSample_up hphase hseen)
  case unseen => exact fun hlive hseen => Runs.live hlive (fun _ => rfl) (Dev.owSettleSample_unseen hseen)

end Sys2Proof.Machine
end

section
/-!
PROOFS. The fast converters (R200–R203, R206, R226): ENABLE, a conversion that has run its time, the end of low power, and the stall.
-/
namespace Sys2Proof.Machine

/-- An element of a vector after it, or another one, has been changed. -/
theorem vget_vmod {α : Type} {k : Nat} (v : Vector α k) {i : Nat} (h : i < k) (f : α → α) (j : Nat) (x : α) :
    vget (vmod v i f) j x = if j = i then f (vget v i x) else vget v j x := by
  split
  case isTrue hj => rw [hj, vget_vmod_self v h]
  case isFalse hj => simp [vget, vmod, h, Ne.symm hj]

namespace Dev

/-- The low word of a 64-bit counter counts on its own, and carries into the high word. -/
theorem reg_bump64_low (d : Dev) (p o : Nat) : (d.bump64 p o 1).reg p o = d.reg p o + 1 := by
  have hlow : (d.bump64 p o 1).reg p o =
      BitVec.ofNat 32 (ofSigned 64 (((d.reg p o).toNat + (d.reg p (o + 4)).toNat * 4294967296 : Nat) + 1)) := by
    rw [bump64]
    exact (reg_setReg_apart _ _ (by omega)).trans (reg_setReg_self _ _ _ _ _)
  have hlt := (d.reg p o).isLt
  have hone : (1 : Word).toNat = 1 := rfl
  rw [hlow]
  refine BitVec.eq_of_toNat_eq ?_
  simp only [ofSigned, BitVec.toNat_ofNat, BitVec.toNat_add, hone]
  omega

theorem adcS_modAdc_self (d : Dev) {c : Nat} (h : c < 16) (f : AdcS → AdcS) : (d.modAdc c f).adcS c = f (d.adcS c) :=
  vget_vmod_self _ h _ _

/-! ## ENABLE (R200) -/

/-- A fast input has delivered no result since its converter was enabled. -/
def markUnseen (d : Dev) (i : Nat) : Dev := { d with af := vmod d.af i (fun a => { a with seen := false }) }

theorem seen_markUnseen (d : Dev) {i : Nat} (h : i < 64) (j : Nat) :
    (vget (d.markUnseen i).af j {}).seen = (!(j == i) && (vget d.af j {}).seen) := by
  have hvec : vget (d.markUnseen i).af j {} = if j = i then { vget d.af i {} with seen := false } else vget d.af j {} :=
    vget_vmod d.af h _ j {}
  rw [hvec]
  split
  case isTrue hj => simp [hj]
  case isFalse hj => simp [hj]

/-- The four inputs of converter `c` have delivered no result. -/
def inputsUnseen (d : Dev) (c : Nat) : Dev := d.each (List.range 4) (fun d i => d.markUnseen (4 * c + i))

theorem seen_inputsUnseen (d : Dev) {c i : Nat} (hc : c < 16) (hi : i < 4) :
    (vget (d.inputsUnseen c).af (4 * c + i) {}).seen = false := by
  have hcase : i = 0 ∨ i = 1 ∨ i = 2 ∨ i = 3 := by omega
  simp (disch := omega) only [inputsUnseen, each, List.range, List.range.loop, List.foldl, seen_markUnseen]
  obtain rfl | rfl | rfl | rfl := hcase <;> simp

theorem inputsUnseen_frame (d : Dev) (c : Nat) : (d.inputsUnseen c).regs = d.regs ∧ (d.inputsUnseen c).adc = d.adc ∧
    (d.inputsUnseen c).mem = d.mem ∧ (d.inputsUnseen c).keys = d.keys := by
  refine ⟨?_, ?_, ?_, ?_⟩ <;> exact each_keeps _ d _ _ fun _ _ _ => rfl

/-- A converter switched on: its list is taken, and its first conversion starts. -/
def adcStarted (d : Dev) (c : Nat) : Dev :=
  let e := ((d.setFld (pg .adc c) F.HDR.CTRL_ENABLE 1).loadList c).convStart c
  e.modAdc c (fun a => { a with lastDone := e.now })

theorem adcEnable_on {d : Dev} {c : Nat} (hoff : d.flag (pg .adc c) F.HDR.CTRL_ENABLE = false) :
    d.adcEnable c true = (d.adcStarted c).inputsUnseen c := by
  simp only [adcEnable, hoff, if_true, Bool.false_eq_true, if_false]
  rfl

theorem adcStarted_spec (d : Dev) {c : Nat} (hc : c < 16) :
    (d.adcStarted c).flag (pg .adc c) F.HDR.CTRL_ENABLE = true ∧ ((d.adcStarted c).adcS c).len = d.fld (pg .adc c) F.ADC.LIST_LEN ∧
      (d.adcStarted c).mem = d.mem ∧ (d.adcStarted c).keys = d.keys := by
  refine ⟨flag_setFld_self d _ _ _ (by decide), ?len, by simp [adcStarted], by simp [adcStarted]⟩
  case len =>
    simp only [adcStarted, convStart, loadList, adcS_modAdc_self _ hc]
    exact fld_setFld_apart d 1 (by decide)

/-- A converter switched off: at full rate, with no decimation in progress. -/
def adcStopped (d : Dev) (c : Nat) : Dev :=
  ((d.setFld (pg .adc c) F.HDR.CTRL_ENABLE 0).setFlag (pg .adc c) F.ADC.STATUS_FULL_RATE true).modAdc c
    (fun a => { a with low := false, leaving := false, dec := [] })

theorem adcEnable_off (d : Dev) (c : Nat) : d.adcEnable c false = d.adcStopped c := rfl

theorem adcStopped_spec (d : Dev) {c : Nat} (hc : c < 16) :
    (d.adcStopped c).flag (pg .adc c) F.HDR.CTRL_ENABLE = false ∧ (d.adcStopped c).flag (pg .adc c) F.ADC.STATUS_FULL_RATE = true ∧
      ((d.adcStopped c).adcS c).low = false ∧ ((d.adcStopped c).adcS c).dec = [] ∧ (d.adcStopped c).mem = d.mem := by
  refine ⟨?off, ?full, ?low, ?dec, by simp [adcStopped]⟩
  case off =>
    rw [adcStopped, flag_modAdc, flag_setFlag_apart _ _ (by decide), flag_setFld_self _ _ _ _ (by decide)]
    rfl
  case full => rw [adcStopped, flag_modAdc, flag_setFlag_self _ _ _ _ (by decide) (by decide)]
  case low => rw [adcStopped, adcS_modAdc_self _ hc]
  case dec => rw [adcStopped, adcS_modAdc_self _ hc]

/-! ## A conversion that has run its time (R201–R203) -/

/-- A conversion counted and shown in LAST, and its factory-corrected value kept, where the result carries no OW flag. -/
def conversionShown (d : Dev) (c inp : Nat) (f v : Int) (sat : Bool) : Dev :=
  let p := pg .adc c
  let e := d.bump64 p R.ADC.CONVERSIONS 1
  let e := if sat then (e.bump p R.ADC.SATURATIONS).event p F.ADC.EVENT_SAT else e
  let e := e.setReg p (R.ADC.LAST + 4 * inp) (BitVec.ofNat 32 (ofSigned 16 v + 65536 * b2n sat + 262144 * b2n (d.adcS c).low))
  { e with af := vmod e.af (4 * c + inp) (fun x => { x with raw := f }) }

theorem conversionShown_spec (d : Dev) {c inp : Nat} (hc : c < 16) (hinp : inp < 4) (f v : Int) (sat : Bool) :
    (d.conversionShown c inp f v sat).reg (pg .adc c) R.ADC.CONVERSIONS = d.reg (pg .adc c) R.ADC.CONVERSIONS + 1 ∧
      (d.conversionShown c inp f v sat).reg (pg .adc c) (R.ADC.LAST + 4 * inp) =
        BitVec.ofNat 32 (ofSigned 16 v + 65536 * b2n sat + 262144 * b2n (d.adcS c).low) ∧
      (vget (d.conversionShown c inp f v sat).af (4 * c + inp) {}).raw = f ∧
      (d.conversionShown c inp f v sat).mem = d.mem ∧ (d.conversionShown c inp f v sat).keys = d.keys := by
  have hlast : R.ADC.CONVERSIONS ≠ R.ADC.LAST + 4 * inp := by
    unfold R.ADC.CONVERSIONS R.ADC.LAST
    omega
  have hsat : ∀ e : Dev, (if sat then (e.bump (pg .adc c) R.ADC.SATURATIONS).event (pg .adc c) F.ADC.EVENT_SAT else e).reg (pg .adc c)
      R.ADC.CONVERSIONS = e.reg (pg .adc c) R.ADC.CONVERSIONS := fun e => by
    rw [reg_ite, reg_event_apart _ (by decide), bump, reg_setReg_apart _ _ (by decide), ite_self]
  refine ⟨?count, reg_setReg_self _ _ _ _ _, ?raw, by simp [conversionShown], by simp [conversionShown]⟩
  case count => exact (reg_setReg_apart _ _ hlast).trans ((hsat _).trans (reg_bump64_low _ _ _))
  case raw => exact congrArg AfRes.raw (vget_vmod_self _ (by omega) _ _)

theorem takeResult_noOw {d : Dev} {c inp : Nat} (how : d.owFlag (4 * c + inp) = false) (f v : Int) (sat : Bool) (at' : Word × Nat × Nat) :
    d.takeResult c inp f v sat at' =
      ((((d.conversionShown c inp f v sat).deliver (4 * c + inp) v).binResult (4 * c + inp) at'.1 at'.2.1 v sat (d.adcS c).low).owSeen
        (4 * c + inp) f ((validSlots (d.adcS c)).find? (fun s => slotWord (d.adcS c) s % 4 == inp) == some (d.adcS c).cur)).each
        (List.range 4) (fun e k => e.streamResult c k inp v sat false (d.adcS c).low at'.1 at'.2.1 at'.2.2) := by
  simp only [takeResult, how, Bool.false_eq_true, if_false]
  rfl

theorem conversionResult_disabled {d : Dev} {c : Nat} (hoff : d.flag (pg .adc c) F.HDR.CTRL_ENABLE = false) (uv : Int) (lsb : Bool) :
    d.conversionResult c uv lsb = d := if_pos (by simp [hoff])

theorem conversionResult_over {d : Dev} {c : Nat} {at' : Word × Nat × Nat} (hon : d.flag (pg .adc c) F.HDR.CTRL_ENABLE = true)
    (hslot : (validSlots (d.adcS c)).contains (d.adcS c).cur = true) (hstays : (d.adcS c).leaving = false)
    (hover : (d.adcS c).since + slotClocks (d.adcS c) ≤ d.now) (hheld : (d.adcS c).held = some at') (uv : Int) (lsb : Bool) :
    let w := slotWord (d.adcS c) (d.adcS c).cur
    let f := fastValue w uv lsb (d.trimmed c)
    let r := userCal (d.ucal (4 * c + w % 4)) f.1
    d.conversionResult c uv lsb = ((d.takeResult c (w % 4) f.1 r.1 (f.2 || r.2) at').nextSlot c).lpStep c := by
  have hgo : ¬ ((!d.flag (pg .adc c) F.HDR.CTRL_ENABLE) = true ∨ (!(validSlots (d.adcS c)).contains (d.adcS c).cur) = true ∨
      (d.adcS c).leaving = true ∨ d.now < (d.adcS c).since + slotClocks (d.adcS c)) := by
    rw [hon, hslot, hstays]
    simpa using hover
  simp only [conversionResult, if_neg hgo, hheld]

/-! ## The end of low power, and the stall (R206, R226) -/

theorem lpExit_over {d : Dev} {c : Nat} (hlow : (d.adcS c).low = true) (hleaving : (d.adcS c).leaving = true)
    (hover : (d.adcS c).since + 400 ≤ d.now) : d.lpExit c =
      (((d.setFlag (pg .adc c) F.ADC.STATUS_FULL_RATE true).event (pg .adc c) F.ADC.EVENT_LP_OUT).modAdc c
        (fun a => { a with low := false, leaving := false })).convStart c := if_pos ⟨hlow, hleaving, hover⟩

theorem adcStall_late {d : Dev} {c : Nat} (hon : d.flag (pg .adc c) F.HDR.CTRL_ENABLE = true) (hslots : validSlots (d.adcS c) ≠ [])
    (hlate : (d.adcS c).lastDone + 800 ≤ d.now) : d.adcStall c = d.raise .adc c B.ADC.ADC_STALL (d.adcS c).cur :=
  if_pos ⟨hon, by simpa using hslots, hlate⟩

end Dev

/-- ENABLE of a converter, permitted and under the converter's key, runs as the converter's. -/
theorem Runs.adcEnable {d t : Dev} {m : Master} {c : Fin 16} {on : Bool} (h : d.CanWrite m .adc c.val R.HDR.CTRL)
    (hheld : on = true → d.keyHeldBy m (0x150 + c.val) = true) (ht : d.adcEnable c.val on = t) : Runs (.adcEnable m c on) d t.done :=
  Runs.keyedEnable (by decide) (by decide) h (by simp [pageKey, Dev.pageOf_of_canWrite h (by decide)]) hheld (fun _ => rfl) ht

/-- Settles O26: ENABLE, a conversion by whether it has run its time, the end of low power, and the stall. -/
theorem convertersRun : Obligations.ConvertersRun := by
  unfold Obligations.ConvertersRun
  intro d m c p
  refine ⟨?on, ?off, ?disabled, ?result, ?lpExit, ?stall⟩
  case on =>
    intro h hheld hoff
    obtain ⟨hon, hlen, hmem, hkeys⟩ := d.adcStarted_spec c.isLt
    obtain ⟨hregs, hadc, hmem', hkeys'⟩ := (d.adcStarted c.val).inputsUnseen_frame c.val
    have hrun := Runs.adcEnable h (fun _ => hheld) (Dev.adcEnable_on hoff)
    have hseen : ∀ i < 4, (vget ((d.adcStarted c.val).inputsUnseen c.val).af (4 * c.val + i) {}).seen = false :=
      fun i hi => Dev.seen_inputsUnseen _ c.isLt hi
    have hlist :
        ((d.adcStarted c.val).inputsUnseen c.val).adcS c.val = (d.adcStarted c.val).adcS c.val := by
      rw [Dev.adcS, Dev.adcS, hadc]
    have hon' := (Dev.flag_of_regs hregs _ _).trans hon
    rw [← hlist] at hlen
    generalize (d.adcStarted c.val).inputsUnseen c.val = t at *
    exact ⟨_, hrun, hon', hlen, hseen, hmem'.trans hmem, hkeys'.trans hkeys⟩
  case off =>
    intro h
    obtain ⟨hoff, hfull, hlow, hdec, hmem⟩ := d.adcStopped_spec c.isLt
    have hrun := Runs.adcEnable (on := false) h (by simp) (d.adcEnable_off c.val)
    generalize d.adcStopped c.val = t at *
    exact ⟨_, hrun, hoff, hfull, hlow, hdec, hmem⟩
  case disabled => exact fun uv lsb hlive hoff => Runs.live hlive (fun _ => rfl) (Dev.conversionResult_disabled hoff uv.toInt lsb)
  case result =>
    intro uv lsb at' a hlive hon hslot hstays hover hheld w i f r how
    obtain ⟨hcount, hlast, hraw, hmem, hkeys⟩ := d.conversionShown_spec c.isLt (inp := w % 4) (by omega) f.1 r.1 (f.2 || r.2)
    refine ⟨_, hcount, hlast, hraw, hmem, hkeys, Runs.live hlive (fun _ => rfl) ?_⟩
    rw [Dev.conversionResult_over hon hslot hstays hover hheld, Dev.takeResult_noOw how]
  case lpExit => exact fun hlive hlow hleaving hover => Runs.live hlive (fun _ => rfl) (Dev.lpExit_over hlow hleaving hover)
  case stall => exact fun hlive hon hslots hlate => Runs.live hlive (fun _ => rfl) (Dev.adcStall_late hon hslots hlate)

end Sys2Proof.Machine
end

section
/-!
PROOFS. Bins and streams (R208–R215): the bin of a channel that closes, and the enabling of a channel and of a stream by the checks of R213
and R215.
-/
namespace Sys2Proof.Machine

/-- A test that agrees on every element of a list. -/
theorem any_congr_of_mem {α : Type} {l : List α} {p q : α → Bool} (h : ∀ x ∈ l, p x = q x) : l.any p = l.any q := by
  induction l with
  | nil => rfl
  | cons x l ih => rw [List.any_cons, List.any_cons, h x (by simp), ih fun y hy => h y (by simp [hy])]

/-! ## Fields of a written word -/

theorem bitsOf_and (a b lo w : Nat) : bitsOf (a &&& b) lo w = bitsOf a lo w &&& bitsOf b lo w := by
  refine Nat.eq_of_testBit_eq fun j => ?_
  simp only [testBit_bitsOf, Nat.testBit_and]
  cases decide (j < w) <;> simp

/-- A mask that leaves a field whole. -/
theorem bitsOf_and_mask {a mask lo w : Nat} (h : bitsOf mask lo w = 2 ^ w - 1) : bitsOf (a &&& mask) lo w = bitsOf a lo w := by
  rw [bitsOf_and, h, Nat.and_two_pow_sub_one_of_lt_two_pow (bitsOf_lt a lo w)]

/-- A field within another one. -/
theorem bitsOf_bitsOf (n lo w v : Nat) (h : lo + w ≤ v) : bitsOf (bitsOf n 0 v) lo w = bitsOf n lo w := by
  refine Nat.eq_of_testBit_eq fun j => ?_
  simp only [testBit_bitsOf, Nat.zero_add]
  by_cases hj : j < w
  · have hin : lo + j < v := by omega
    simp [hin]
  · simp [hj]

/-- A word with bit 31 set, as the commands write it that enable a channel or a stream. -/
theorem bitsOf_or_top (n lo w : Nat) (h : lo + w ≤ 31) : bitsOf (n ||| 0x80000000) lo w = bitsOf n lo w := by
  refine Nat.eq_of_testBit_eq fun j => ?_
  have htop : ∀ i < 31, (0x80000000 : Nat).testBit i = false := by decide
  simp only [testBit_bitsOf, Nat.testBit_or]
  by_cases hj : j < w
  · rw [htop _ (by omega), Bool.or_false]
  · simp [hj]

theorem bitAt_or_top {mask : Nat} (n : Nat) (h : mask.testBit 31 = true) : bitAt ((n ||| 0x80000000) &&& mask) 31 = true := by
  rw [bitAt_eq_testBit, Nat.testBit_and, Nat.testBit_or, h]
  simp only [Bool.and_true, Bool.or_eq_true]
  exact .inr (by decide)

/-- Bit 31 does not reach what a word without it stores. -/
theorem bitsOf_or_top_and (n mask : Nat) : bitsOf ((n ||| 0x80000000) &&& mask) 0 31 = bitsOf (n &&& mask) 0 31 := by
  rw [bitsOf_and, bitsOf_and, bitsOf_or_top n 0 31 (by decide)]

theorem toNat_or_top (w : Word) : (w ||| 0x80000000).toNat = w.toNat ||| 0x80000000 := BitVec.toNat_or ..

namespace Dev

/-! ## A bin closes (R209) -/

/-- The word that bin `b` of folio `f` of channel `h` is written as, with its MEAN. -/
def binShown (d : Dev) (h : Nat) (f : Word) (b : Nat) : Int × Word :=
  binWord ((d.binS h).accs.find? (fun a => a.folio == f && a.idx == b)) (d.binS h).last f

/-- The place of that word (R210). -/
def binPlace (d : Dev) (h : Nat) (f : Word) (b : Nat) : Nat :=
  (d.binBuffer h).1 + ((f.toNat % d.fld (pg .bin) (F.BIN.CH_DEPTH.at h)) * 2 ^ d.binK h + b) * 4

/-- A bin of another folio than the present one closes 1 µs after the next has opened: its word is the one change of memory. -/
theorem mem_binClose {d : Dev} {h : Nat} {f : Word} {b : Nat} (hnext : (d.binS h).next = some (f, b))
    (hpast : d.reg (pg .timebase) R.TIMEBASE.FOLIO ≠ f) (hover : (d.binS h).openAt + 400 ≤ d.now) :
    (d.binClose h).mem = Mem.setWord d.mem (d.binPlace h f b) (d.binShown h f b).2 := by
  have hlate : ¬ d.now < (d.binS h).openAt + 400 := Nat.not_lt.mpr hover
  simp only [binClose, hnext, hpast, hlate, false_and, and_false, or_self, if_false]
  simp only [mem_ite, (binComplete_store _ _).1, ite_self, (modBin_store _ _ _).1, (bump_store _ _ _ _).1]
  rfl

theorem binClose_none {d : Dev} {h : Nat} (hnext : (d.binS h).next = none) : d.binClose h = d := by
  simp only [binClose, hnext]

/-! ## A channel's word (R213) -/

/-- The channel's word is stored, but for EN. -/
def channelStored (d : Dev) (h : Nat) (w : Word) : Dev :=
  d.setReg (pg .bin) (R.BIN.CH + 4 * h) (BitVec.ofNat 32 (bitsOf (w.toNat &&& 0x9FFF773F) 0 31))

theorem binChannelWrite_enable {d : Dev} {h : Nat} {w : Word} (hoff : d.flag (pg .bin) (F.BIN.CH_EN.at h) = false)
    (hk : bitsOf w.toNat 8 3 ≤ 4) :
    d.binChannelWrite h (w ||| 0x80000000) = some ((d.channelStored h w).binOn h (bitsOf w.toNat 12 3)) := by
  have hfixed : bitAt (d.reg (pg .bin) (F.BIN.CH_EN.at h).ofs).toNat 31 = false := (bitAt_eq_bitsOf _ _).trans hoff
  have hkept : bitsOf (w.toNat ||| 0x80000000) 8 3 ≤ 4 := by rwa [bitsOf_or_top _ _ _ (by decide)]
  have hdepth : bitsOf ((w.toNat ||| 0x80000000) &&& 0x9FFF773F) 12 3 = bitsOf w.toNat 12 3 := by
    rw [bitsOf_and_mask (by decide), bitsOf_or_top _ _ _ (by decide)]
  simp only [binChannelWrite, binWritten, toNat_or_top, if_pos hkept, hfixed, bitAt_or_top w.toNat (mask := 0x9FFF773F) (by decide),
    bitsOf_or_top_and, hdepth, Bool.false_eq_true, if_false, if_true]
  rfl

theorem fld_channelStored (d : Dev) (h : Nat) (w : Word) (f : Fld) (hofs : f.ofs = R.BIN.CH) (hfit : f.lo + f.w ≤ 31)
    (hmask : bitsOf 0x9FFF773F f.lo f.w = 2 ^ f.w - 1) :
    (d.channelStored h w).fld (pg .bin) (f.at h) = bitsOf w.toNat f.lo f.w := by
  have hpow : (2 : Nat) ^ 32 = 4294967296 := by norm_num
  have hat : (f.at h).ofs = R.BIN.CH + 4 * h := congrArg (· + 4 * h) hofs
  rw [channelStored, fld_setReg_self _ _ _ _ _ hat, BitVec.toNat_ofNat, hpow]
  exact (bitsOf_mod32 _ _ _ (Nat.le_succ_of_le hfit)).trans ((bitsOf_bitsOf _ _ _ _ hfit).trans (bitsOf_and_mask hmask))

/-- EN is not stored with the word. -/
theorem en_channelStored (d : Dev) (h : Nat) (w : Word) : (d.channelStored h w).flag (pg .bin) (F.BIN.CH_EN.at h) = false := by
  have hlow : bitsOf (w.toNat &&& 0x9FFF773F) 0 31 < 2 ^ 31 := bitsOf_lt _ _ _
  have hbit : (d.channelStored h w).fld (pg .bin) (F.BIN.CH_EN.at h) =
      bitsOf (BitVec.ofNat 32 (bitsOf (w.toNat &&& 0x9FFF773F) 0 31)).toNat 31 1 := fld_setReg_self _ _ _ _ _ rfl
  have hzero : (d.channelStored h w).fld (pg .bin) (F.BIN.CH_EN.at h) = 0 := by
    rw [hbit, bitsOf, BitVec.toNat_ofNat, Nat.shiftRight_eq_div_pow]
    omega
  simp [flag, hzero]

/-- The buffer that a channel's word names. -/
def channelBuffer (w : Word) : Nat × Nat :=
  (0x30000000 + 256 * bitsOf w.toNat F.BIN.CH_BASE.lo F.BIN.CH_BASE.w, bitsOf w.toNat 12 3 * 2 ^ (9 + bitsOf w.toNat 8 3) * 4)

theorem binBuffer_channelStored (d : Dev) (h : Nat) (w : Word) : (d.channelStored h w).binBuffer h = channelBuffer w := by
  simp only [binBuffer, fld_channelStored d h w F.BIN.CH_BASE rfl (by decide) (by decide),
    fld_channelStored d h w F.BIN.CH_DEPTH rfl (by decide) (by decide), fld_channelStored d h w F.BIN.CH_KSEL rfl (by decide) (by decide)]
  rfl

/-- The storage that the rings and the other channels take does not depend on the channel's word. -/
theorem storageTaken_channelStored (d : Dev) {h : Nat} (hh : h < 64) (w : Word) (a : Nat × Nat) :
    (d.channelStored h w).storageTaken a 96 h = d.storageTaken a 96 h := by
  have hring : ∀ n < 96, (d.channelStored h w).pageRegs (pg .ring n) = d.pageRegs (pg .ring n) := fun n hn => by
    refine pageRegs_setReg d _ ⟨?_, ?_⟩
    · simp only [pg, PageKind.first]; omega
    · unfold R.BIN.CH; omega
  have hchan : ∀ x, x ≠ h → ∀ f : Fld, f.ofs = R.BIN.CH + 4 * x → (d.channelStored h w).fld (pg .bin) f = d.fld (pg .bin) f :=
    fun x hx f hf => fld_setReg_apart d _ (by omega)
  have hrings : ∀ n ∈ List.range 96, (n != 96 && (d.channelStored h w).ringOn n && bytesMeet a ((d.channelStored h w).ringStore n)) =
      (n != 96 && d.ringOn n && bytesMeet a (d.ringStore n)) := fun n hn => by
    have hpage := hring n (List.mem_range.mp hn)
    simp (disch := decide) only [ringOn, ringStore, ringSize, flag_of_pageRegs hpage, fld_of_pageRegs hpage, reg_of_pageRegs hpage]
  have hchans : ∀ x ∈ List.range 64, (x != h && (d.channelStored h w).flag (pg .bin) (F.BIN.CH_EN.at x) &&
      bytesMeet a ((d.channelStored h w).binBuffer x)) =
      (x != h && d.flag (pg .bin) (F.BIN.CH_EN.at x) && bytesMeet a (d.binBuffer x)) := fun x _ => by
    by_cases hx : x = h
    · simp [hx]
    · simp only [binBuffer, flag, hchan x hx (F.BIN.CH_EN.at x) rfl, hchan x hx (F.BIN.CH_BASE.at x) rfl,
        hchan x hx (F.BIN.CH_DEPTH.at x) rfl, hchan x hx (F.BIN.CH_KSEL.at x) rfl]
  rw [storageTaken, storageTaken, any_congr_of_mem hrings, any_congr_of_mem hchans]

/-! ## A channel is switched on (R212, R213) -/

/-- A channel switched on, and suspended where the present rate is too fast for it. -/
def channelOn (d : Dev) (h : Nat) : Dev :=
  ((d.setFlag (pg .bin) (F.BIN.CH_EN.at h) true).modBin h (fun s => { last := s.last })).binSuspend h

theorem binOn_shallow (d : Dev) (h : Nat) {depth : Nat} (hdepth : depth < 2) :
    d.binOn h depth = d.event (pg .bin) F.BIN.EVENT_CFG_BAD := if_pos (.inl hdepth)

/-- A channel whose depth is below 2 is refused, and stays off. -/
theorem binChannelWrite_shallow {d : Dev} {h : Nat} {w : Word} (hoff : d.flag (pg .bin) (F.BIN.CH_EN.at h) = false)
    (hk : bitsOf w.toNat 8 3 ≤ 4) (hdepth : bitsOf w.toNat 12 3 < 2) : ∃ t, d.binChannelWrite h (w ||| 0x80000000) = some t ∧
      t.flag (pg .bin) F.BIN.EVENT_CFG_BAD = true ∧ t.flag (pg .bin) (F.BIN.CH_EN.at h) = false ∧ t.bin = d.bin ∧ t.mem = d.mem := by
  have hevent : (F.BIN.CH_EN.at h).ofs ≠ F.BIN.EVENT_CFG_BAD.ofs := by
    show 0x200 + 4 * h ≠ 0x014
    omega
  refine ⟨(d.channelStored h w).event (pg .bin) F.BIN.EVENT_CFG_BAD, ?write, ?bad, ?off, by simp [channelStored], by simp [channelStored]⟩
  case write => rw [binChannelWrite_enable hoff hk, binOn_shallow _ _ hdepth]
  case bad => exact flag_event_self _ _ _ (by decide) rfl
  case off => rw [flag_event_apart _ (.inl hevent), en_channelStored]

theorem binOn_fits {d : Dev} {h depth : Nat} (hdepth : 2 ≤ depth) (hin : bytesIn (d.binBuffer h) 0x30000000 0x30200000 = true)
    (hfree : d.storageTaken (d.binBuffer h) 96 h = false) : d.binOn h depth = d.channelOn h := by
  refine if_neg ?_
  rw [hin, hfree]
  simpa using Nat.lt_of_succ_le hdepth

/-- Whether a channel is suspended stands apart from its word. -/
theorem reg_binSuspend_channel (d : Dev) {h : Nat} (hh : h < 64) :
    (d.binSuspend h).reg (pg .bin) (R.BIN.CH + 4 * h) = d.reg (pg .bin) (R.BIN.CH + 4 * h) := by
  have hbit : R.BIN.CH + 4 * h ≠ (suspendBit h).ofs := by
    show R.BIN.CH + 4 * h ≠ R.BIN.SUSPENDED_LO + 4 * (h / 32)
    unfold R.BIN.CH R.BIN.SUSPENDED_LO
    omega
  have hevent : R.BIN.CH + 4 * h ≠ F.BIN.EVENT_SUSPEND.ofs := by
    show 0x200 + 4 * h ≠ 0x014
    omega
  have hcount : R.BIN.CH + 4 * h ≠ R.BIN.SUSPENSIONS := by
    unfold R.BIN.CH R.BIN.SUSPENSIONS
    omega
  rw [binSuspend_eq]
  split
  · rw [binSuspended, reg_modBin, bump, reg_setReg_apart _ _ hcount, reg_event_apart _ hevent, reg_setFlag_apart _ _ hbit]
  · split
    · exact reg_setFlag_apart d false hbit
    · rfl

theorem en_channelOn (d : Dev) {h : Nat} (hh : h < 64) : (d.channelOn h).flag (pg .bin) (F.BIN.CH_EN.at h) = true := by
  have hword : (d.channelOn h).reg (pg .bin) (F.BIN.CH_EN.at h).ofs = _ := reg_binSuspend_channel _ hh
  rw [flag_of_fld (fld_of_reg hword), flag_modBin, flag_setFlag_self d _ _ _ (by show 31 + 1 ≤ 32; decide) (by show 0 < 1; decide)]

theorem channelOn_store (d : Dev) (h : Nat) : (d.channelOn h).mem = d.mem ∧ (d.channelOn h).keys = d.keys := by
  simp [channelOn]

theorem channelStored_store (d : Dev) (h : Nat) (w : Word) : (d.channelStored h w).mem = d.mem ∧ (d.channelStored h w).keys = d.keys := by
  simp [channelStored]

/-- A channel that R213 takes is on, and neither memory nor a key changes. -/
theorem binChannelWrite_taken {d : Dev} {h : Nat} {w : Word} (hh : h < 64) (hoff : d.flag (pg .bin) (F.BIN.CH_EN.at h) = false)
    (hk : bitsOf w.toNat 8 3 ≤ 4) (hdepth : 2 ≤ bitsOf w.toNat 12 3) (hin : bytesIn (channelBuffer w) 0x30000000 0x30200000 = true)
    (hfree : d.storageTaken (channelBuffer w) 96 h = false) : ∃ t, d.binChannelWrite h (w ||| 0x80000000) = some t ∧
      t.flag (pg .bin) (F.BIN.CH_EN.at h) = true ∧ t.mem = d.mem ∧ t.keys = d.keys := by
  obtain ⟨hmem, hkeys⟩ := (d.channelStored h w).channelOn_store h
  obtain ⟨hmem', hkeys'⟩ := d.channelStored_store h w
  refine ⟨(d.channelStored h w).channelOn h, ?_, en_channelOn _ hh, hmem.trans hmem', hkeys.trans hkeys'⟩
  rw [binChannelWrite_enable hoff hk, binOn_fits hdepth]
  · rwa [binBuffer_channelStored]
  · rwa [binBuffer_channelStored, storageTaken_channelStored _ hh]

theorem binWrite_channel (d : Dev) (m : Master) {h : Nat} (hh : h < 64) (w : Word) : d.binWrite m (R.BIN.CH + 4 * h) w =
    (d.binChannelWrite h w).getD (d.refuse m (pg .bin) (R.BIN.CH + 4 * h)) := by
  have hplace : (R.BIN.CH + 4 * h - F.BIN.CH_EN.ofs) / 4 = h := by
    show (0x200 + 4 * h - 0x200) / 4 = h
    omega
  have hin : F.BIN.CH_EN.ofs ≤ R.BIN.CH + 4 * h ∧ h < 64 := ⟨Nat.le_add_right _ _, hh⟩
  simp only [binWrite, hplace, if_pos hin]

/-! ## A stream's word (R215) -/

/-- The stream's word is stored but for EN, and its decimation begins anew. -/
def streamStored (d : Dev) (c s : Nat) (w : Word) : Dev :=
  (d.setReg (pg .adc c) (R.ADC.STREAM + 4 * s) (BitVec.ofNat 32 (bitsOf (w.toNat &&& 0x81FF7F0F) 0 31))).modAdc c
    (fun a => { a with dec := a.dec.filter (fun e => e.1 / 4 != s) })

/-- The checks of R215 for stream `s` of converter `c` into a ring. -/
def streamFits (d : Dev) (c s ring : Nat) : Bool :=
  d.ringOn ring && d.ringProducer ring == pg .adc c && d.flag (pg .ring ring) F.RING.CFG_STAMP &&
    decide (8 * (d.streamLoad c s ring + 2) ≤ d.ringSize ring)

theorem streamFits_iff (d : Dev) (c s ring : Nat) : d.streamFits c s ring = true ↔ d.ringOn ring = true ∧ d.ringProducer ring = pg .adc c ∧
    d.flag (pg .ring ring) F.RING.CFG_STAMP = true ∧ 8 * (d.streamLoad c s ring + 2) ≤ d.ringSize ring := by
  simp [streamFits, and_assoc]

theorem streamWrite_enable (d : Dev) (c s : Nat) {w : Word} (hring : bitsOf w.toNat 8 7 ≤ 95) (hdec : bitsOf w.toNat 16 4 ≤ 8) :
    d.streamWrite c s (w ||| 0x80000000) =
      if (d.streamStored c s w).streamFits c s (bitsOf w.toNat 8 7) then
        (d.streamStored c s w).setFlag (pg .adc c) (F.ADC.STREAM_EN.at s) true
      else d.event (pg .adc c) F.ADC.EVENT_CFG_BAD := by
  have hring' : bitsOf ((w.toNat ||| 0x80000000) &&& 0x81FF7F0F) 8 7 = bitsOf w.toNat 8 7 := by
    rw [bitsOf_and_mask (by decide), bitsOf_or_top _ _ _ (by decide)]
  have hdec' : bitsOf ((w.toNat ||| 0x80000000) &&& 0x81FF7F0F) 16 4 = bitsOf w.toNat 16 4 := by
    rw [bitsOf_and_mask (by decide), bitsOf_or_top _ _ _ (by decide)]
  have hringOk : decide (95 < bitsOf w.toNat 8 7) = false := decide_eq_false (Nat.not_lt.mpr hring)
  have hdecOk : decide (8 < bitsOf w.toNat 16 4) = false := decide_eq_false (Nat.not_lt.mpr hdec)
  simp only [streamWrite, toNat_or_top, hring', hdec', hringOk, hdecOk, bitAt_or_top w.toNat (mask := 0x81FF7F0F) (by decide),
    bitsOf_or_top_and, Bool.or_self, Bool.false_eq_true, if_false, if_true]
  rfl

theorem adcWrite_stream (d : Dev) (m : Master) (c : Nat) {s : Nat} (hs : s < 4) (w : Word) :
    d.adcWrite m c (R.ADC.STREAM + 4 * s) w = d.streamWrite c s w := by
  have hin : R.ADC.STREAM ≤ R.ADC.STREAM + 4 * s ∧ R.ADC.STREAM + 4 * s < R.ADC.STREAM + 16 := by omega
  have hplace : (R.ADC.STREAM + 4 * s - R.ADC.STREAM) / 4 = s := by omega
  rw [adcWrite, if_pos hin, hplace]

end Dev

/-- A permitted write that enables a channel runs as the channel's. -/
theorem Runs.binChannelEnable {d t : Dev} {m : Master} {h : Fin 64} {w : Word} (hw : d.CanWrite m .bin 0 (R.BIN.CH + 4 * h.val))
    (ht : d.binChannelWrite h.val (w ||| 0x80000000) = some t) : Runs (.binChannelEnable m h w) d t.done := by
  have hofs : 0x100 ≤ R.BIN.CH + 4 * h.val ∧ R.BIN.CH + 4 * h.val < 0x800 := by
    unfold R.BIN.CH
    omega
  refine Runs.block (by decide) (by decide) hw hofs (fun _ => rfl) ((d.binWrite_channel m h.isLt _).trans ?_)
  rw [ht, Option.getD_some]

/-- A permitted write that enables a stream runs as the stream's. -/
theorem Runs.streamEnable {d t : Dev} {m : Master} {c : Fin 16} {k : Fin 4} {w : Word}
    (hw : d.CanWrite m .adc c.val (R.ADC.STREAM + 4 * k.val)) (ht : d.streamWrite c.val k.val (w ||| 0x80000000) = t) :
    Runs (.streamEnable m c k w) d t.done := by
  have hofs : 0x100 ≤ R.ADC.STREAM + 4 * k.val ∧ R.ADC.STREAM + 4 * k.val < 0x800 := by
    unfold R.ADC.STREAM
    omega
  exact Runs.block (by decide) (by decide) hw hofs (fun _ => rfl) ((d.adcWrite_stream m c.val k.isLt _).trans ht)

/-- Settles O27: a bin that closes by its one word of memory, a channel by its depth and its buffer, and a stream by the checks of R215. -/
theorem binsAndStreamsRun : Obligations.BinsAndStreamsRun := by
  unfold Obligations.BinsAndStreamsRun
  intro d m
  refine ⟨?closes, fun h hlive hnext => Runs.live hlive (fun _ => rfl) (Dev.binClose_none hnext), ?shallow, ?channel, ?stream⟩
  case closes =>
    intro h f b hlive hnext hpast hover a w
    have hmem := Dev.mem_binClose hnext hpast hover
    refine ⟨_, Runs.live hlive (fun _ => rfl) rfl, ?_, fun x hx => ?_, d.binClose_keys h.val⟩
    · rw [hmem]
      exact Mem.word_setWord_self _ _ _
    · rw [hmem]
      exact Mem.byte_write_outside _ _ _ _ hx
  case shallow =>
    intro h w hw hoff hk hdepth
    obtain ⟨t, ht, hbad, hen, hbin, hmem⟩ := Dev.binChannelWrite_shallow hoff hk hdepth
    exact ⟨t.done, Runs.binChannelEnable hw ht, hbad, hen, hbin, hmem⟩
  case channel =>
    intro h w hw hoff hk hdepth buf hin hfree
    obtain ⟨t, ht, hon, hmem, hkeys⟩ := Dev.binChannelWrite_taken h.isLt hoff hk hdepth hin hfree
    exact ⟨t.done, Runs.binChannelEnable hw ht, hon, hmem, hkeys⟩
  case stream =>
    intro c k w hw hring hdec v e ring
    have hwrite := d.streamWrite_enable c.val k.val hring hdec
    refine ⟨fun hbad => ?_, fun hon hprod hstamp hroom => ?_⟩
    · have hunfit : (d.streamStored c.val k.val w).streamFits c.val k.val ring = false := by
        refine Bool.eq_false_iff.mpr fun hfits => ?_
        obtain ⟨hon, hprod, hstamp, hroom⟩ := (Dev.streamFits_iff e c.val k.val ring).mp hfits
        obtain hoff | hother | hplain | hsmall := hbad
        · exact Bool.false_ne_true (hoff.symm.trans hon)
        · exact hother hprod
        · exact Bool.false_ne_true (hplain.symm.trans hstamp)
        · exact absurd hroom (Nat.not_le.mpr hsmall)
      rw [hunfit] at hwrite
      exact Runs.streamEnable hw hwrite
    · have hfits : (d.streamStored c.val k.val w).streamFits c.val k.val ring = true :=
        (Dev.streamFits_iff e c.val k.val ring).mpr ⟨hon, hprod, hstamp, hroom⟩
      rw [hfits] at hwrite
      exact Runs.streamEnable hw hwrite

end Sys2Proof.Machine
end

section
/-!
PROOFS. What the operations of the charge manager leave (R246–R251, R256–R262, R264): the stop of the groups, S2, the ends and the
transitions of a session, the suspend causes, and the inputs of a tick.
-/
namespace Sys2Proof.Machine

/-- What an access leaves, where the answer to it does not matter. -/
theorem Runs.leaves {c : Instr} {d t : Dev} {P : Dev → Prop} (hrun : Runs c d t.done) (hanswer : ∀ e : Dev, P e → P e.done)
    (ht : P t) : ∃ e, Runs c d e ∧ P e := ⟨_, hrun, hanswer t ht⟩

namespace Dev

/-! ## The charge manager beside its registers -/

@[simp] theorem chg_ite (c : Prop) [Decidable c] (a b : Dev) : (if c then a else b).chg = if c then a.chg else b.chg := apply_ite _ _ _ _

@[simp] theorem chg_modTile (d : Dev) (n : Nat) (f : TileS → TileS) : (d.modTile n f).chg = d.chg := rfl
@[simp] theorem chg_modConv (d : Dev) (n : Nat) (f : ConvS → ConvS) : (d.modConv n f).chg = d.chg := rfl

@[simp] theorem chg_fitResult (d : Dev) (code : Nat) : (d.fitResult code).chg = d.chg := by simp [fitResult]

@[simp] theorem chg_gaugeProbeEnd_aborted (d : Dev) (g : Nat) : (d.gaugeProbeEnd g true).chg = d.chg := by
  simp only [gaugeProbeEnd]
  split
  · rfl
  · simp

@[simp] theorem chg_abortProbe (d : Dev) (g : Nat) : (d.abortProbe g).chg = d.chg := by simp [abortProbe]

@[simp] theorem chg_endRun (d : Dev) (g : Nat) : (d.endRun g).chg = d.chg := by simp [endRun, endCirc, cleanPause]

@[simp] theorem chg_wantTiles (d : Dev) (g : Nat) (w : Want) : (d.wantTiles g w).chg = d.chg := each_keeps chg d _ _ fun _ _ _ => rfl

@[simp] theorem chg_clearGo (d : Dev) (n : Nat) : (d.clearGo n).chg = d.chg := by simp [clearGo, enterStopped]

/-! ## The stop of the groups (R247) -/

@[simp] theorem chg_chgClearGo (d : Dev) : d.chgClearGo.chg = d.chg := each_keeps chg d _ _ fun e n _ => chg_clearGo e n

@[simp] theorem chg_chgRef (d : Dev) (t : Int) : (d.chgRef t).chg = d.chg := by simp [chgRef, collect]

/-- The stop of the groups leaves the page of the charge manager. -/
theorem chgPage_chgClearGo (d : Dev) : d.chgClearGo.pageRegs (pg .chg) = d.pageRegs (pg .chg) :=
  each_keeps (pageRegs · (pg .chg)) d _ _ fun e n _ => pageRegs_of_offStage (offStage_clearGo e n) (by decide)

/-- A reference command is entered on the group's page. -/
theorem chgPage_chgRef (d : Dev) (t : Int) : (d.chgRef t).pageRegs (pg .chg) = d.pageRegs (pg .chg) := by
  have hpage : pg .chg ≠ pg .conv d.chgIn := by simp only [pg, PageKind.first]; omega
  exact pageRegs_setReg d _ ⟨hpage, by decide⟩

theorem reg_chgClearGo (d : Dev) {o : Nat} (h : o < 0x1000) : d.chgClearGo.reg (pg .chg) o = d.reg (pg .chg) o :=
  reg_of_pageRegs d.chgPage_chgClearGo h
theorem fld_chgClearGo (d : Dev) {f : Fld} (h : f.ofs < 0x1000) : d.chgClearGo.fld (pg .chg) f = d.fld (pg .chg) f :=
  fld_of_pageRegs d.chgPage_chgClearGo h
theorem reg_chgRef (d : Dev) (t : Int) {o : Nat} (h : o < 0x1000) : (d.chgRef t).reg (pg .chg) o = d.reg (pg .chg) o :=
  reg_of_pageRegs (d.chgPage_chgRef t) h
theorem fld_chgRef (d : Dev) (t : Int) {f : Fld} (h : f.ofs < 0x1000) : (d.chgRef t).fld (pg .chg) f = d.fld (pg .chg) f :=
  fld_of_pageRegs (d.chgPage_chgRef t) h

/-! ## S2 and the ends of a session (R247, R253) -/

/-- S2 stands as it has been switched. -/
theorem s2Closed_setS2 (d : Dev) (on : Bool) : (d.setS2 on).s2Closed = on := by
  unfold setS2
  split
  case isTrue h => exact h
  case isFalse => rw [s2Closed, flag_modChg, flag_setFlag_self _ _ _ _ (by decide) (by decide)]

theorem fld_setS2_apart (d : Dev) (on : Bool) {f : Fld} (h : FieldsApart f F.CHG.CSTATE_S2) :
    (d.setS2 on).fld (pg .chg) f = d.fld (pg .chg) f := by
  rw [setS2, fld_ite, fld_modChg, fld_setFlag_apart _ _ h, ite_self]

theorem reg_setS2_apart (d : Dev) (on : Bool) {o : Nat} (h : o ≠ R.CHG.CSTATE) :
    (d.setS2 on).reg (pg .chg) o = d.reg (pg .chg) o := by
  rw [setS2, reg_ite, reg_modChg, reg_setFlag_apart _ _ h, ite_self]

/-- An immediate end opens S2. -/
theorem s2Closed_endNow (d : Dev) : d.endNow.s2Closed = false := s2Closed_setS2 _ _

theorem fld_endNow_apart (d : Dev) {f : Fld} (h : f.ofs < 0x1000 ∧ FieldsApart f F.CHG.CSTATE_S2) :
    d.endNow.fld (pg .chg) f = d.fld (pg .chg) f := by
  rw [endNow, fld_modChg, fld_setS2_apart _ _ h.2, fld_chgClearGo _ h.1]

theorem reg_endNow_apart (d : Dev) {o : Nat} (h : o < 0x1000 ∧ o ≠ R.CHG.CSTATE) : d.endNow.reg (pg .chg) o = d.reg (pg .chg) o := by
  rw [endNow, reg_modChg, reg_setS2_apart _ _ h.2, reg_chgClearGo _ h.1]

/-- An orderly end begins with the current alone. -/
theorem reg_endOrderly_apart (d : Dev) {o : Nat} (h : o < 0x1000 ∧ o ≠ R.CHG.I_CMD) :
    d.endOrderly.reg (pg .chg) o = d.reg (pg .chg) o := by
  simp only [endOrderly, reg_ite, reg_modChg, ite_self]
  rw [reg_setReg_apart _ _ h.2, reg_chgRef _ _ h.1]

/-! ## Transitions (R248, R249) -/

/-- A field that no transition writes. -/
abbrev KeptByTransitions (f : Fld) : Prop :=
  FieldsApart f F.CHG.CSTATE_STATE ∧ FieldsApart f F.CHG.CSTATE_CAUSE ∧ FieldsApart f F.CHG.CSTATE_SUSP_MASK ∧
    FieldsApart f F.CHG.CSTATE_LIMITED ∧ FieldsApart f F.CHG.CSTATE_VCTRL ∧ FieldsApart f F.CHG.CSTATE_START ∧
    FieldsApart f F.CHG.EVENT_STATE_CHANGE

/-- A transition takes the session to its state. -/
theorem cstate_chgEnter (d : Dev) {st : Nat} (h : st < 16) (cause : Nat) : (d.chgEnter st cause).cstate = st := by
  simp (disch := decide) only [cstate, chgEnter, fld_modChg, fld_event_apart, fld_ite, fld_setFlag_apart, fld_setFld_apart,
    fld_setFld_self, ite_self]
  exact Nat.mod_eq_of_lt h

/-- A transition records its cause. -/
theorem cause_chgEnter (d : Dev) (st : Nat) {cause : Nat} (h : cause < 256) :
    (d.chgEnter st cause).fld (pg .chg) F.CHG.CSTATE_CAUSE = cause := by
  simp (disch := decide) only [chgEnter, fld_modChg, fld_event_apart, fld_ite, fld_setFlag_apart, fld_setFld_apart,
    fld_setFld_self, ite_self]
  exact Nat.mod_eq_of_lt h

theorem fld_chgEnter_apart (d : Dev) (st cause : Nat) {f : Fld} (h : KeptByTransitions f) :
    (d.chgEnter st cause).fld (pg .chg) f = d.fld (pg .chg) f := by
  obtain ⟨hstate, hcause, hmask, hlimited, hvctrl, hstart, hevent⟩ := h
  simp only [chgEnter, fld_modChg, fld_event_apart _ hevent, fld_ite, fld_setFlag_apart _ _ hstart, fld_setFlag_apart _ _ hvctrl,
    fld_setFlag_apart _ _ hlimited, fld_setFld_apart _ _ hmask, fld_setFld_apart _ _ hcause, fld_setFld_apart _ _ hstate, ite_self]

theorem reg_chgEnter_apart (d : Dev) (st cause : Nat) {o : Nat} (h : o ≠ R.HDR.EVENT ∧ o ≠ R.CHG.CSTATE) :
    (d.chgEnter st cause).reg (pg .chg) o = d.reg (pg .chg) o := by
  obtain ⟨hevent, hcstate⟩ := h
  have hfld : ∀ (e : Dev) (f : Fld) (v : Nat), f.ofs = R.CHG.CSTATE → (e.setFld (pg .chg) f v).reg (pg .chg) o = e.reg (pg .chg) o :=
    fun e f v hf => reg_setFld_apart e v (hf ▸ hcstate)
  have hflag : ∀ (e : Dev) (f : Fld) (b : Bool), f.ofs = R.CHG.CSTATE → (e.setFlag (pg .chg) f b).reg (pg .chg) o = e.reg (pg .chg) o :=
    fun e f b hf => hfld e f _ hf
  simp (disch := decide) only [chgEnter, reg_modChg, reg_event_apart (f := F.CHG.EVENT_STATE_CHANGE) _ hevent, reg_ite, hflag, hfld,
    ite_self]

/-- A transition lets go what counts towards the next one. -/
theorem chg_chgEnter (d : Dev) (st cause : Nat) : (d.chgEnter st cause).chg =
    { d.chg with zeroT := 0, conf := 0, expire := if st = 6 then d.chg.expire else 0, exitMet := false } := by
  simp [chgEnter]

/-- The entry into DETECT ends what is in progress, at once where it has begun to end. -/
def detectCleared (d : Dev) : Dev := (if d.chg.ending = .none then d.chgClearGo else d.endNow).setReg (pg .chg) R.CHG.I_CMD 0

theorem enterDetect_eq (d : Dev) : d.enterDetect = d.detectCleared.chgEnter 1 0 := rfl

theorem cstate_enterDetect (d : Dev) : d.enterDetect.cstate = 1 := cstate_chgEnter _ (by decide) _
theorem cause_enterDetect (d : Dev) : d.enterDetect.fld (pg .chg) F.CHG.CSTATE_CAUSE = 0 := cause_chgEnter _ _ (by decide)

theorem reg_enterDetect_apart (d : Dev) {o : Nat} (h : o < 0x1000 ∧ o ≠ R.HDR.EVENT ∧ o ≠ R.CHG.CSTATE ∧ o ≠ R.CHG.I_CMD) :
    d.enterDetect.reg (pg .chg) o = d.reg (pg .chg) o := by
  obtain ⟨hlt, hevent, hcstate, hcurrent⟩ := h
  rw [enterDetect_eq, reg_chgEnter_apart _ _ _ ⟨hevent, hcstate⟩, detectCleared, reg_setReg_apart _ _ hcurrent, reg_ite,
    reg_chgClearGo _ hlt, reg_endNow_apart _ ⟨hlt, hcstate⟩, ite_self]

theorem cstate_enterIdle (d : Dev) (cause : Nat) : (d.enterIdle cause).cstate = 0 := cstate_chgEnter _ (by decide) _
theorem cause_enterIdle (d : Dev) {cause : Nat} (h : cause < 256) : (d.enterIdle cause).fld (pg .chg) F.CHG.CSTATE_CAUSE = cause :=
  cause_chgEnter _ _ h

theorem cstate_enterChgFault (d : Dev) (cause : Nat) : (d.enterChgFault cause).cstate = 8 := cstate_chgEnter _ (by decide) _
theorem cause_enterChgFault (d : Dev) {cause : Nat} (h : cause < 256) :
    (d.enterChgFault cause).fld (pg .chg) F.CHG.CSTATE_CAUSE = cause := cause_chgEnter _ _ h

theorem cstate_enterDone (d : Dev) (cause : Nat) : (d.enterDone cause).cstate = 5 := cstate_chgEnter _ (by decide) _
theorem cause_enterDone (d : Dev) {cause : Nat} (h : cause < 256) : (d.enterDone cause).fld (pg .chg) F.CHG.CSTATE_CAUSE = cause :=
  cause_chgEnter _ _ h

/-- IDLE is entered with an immediate end. -/
theorem fld_enterIdle_ended (d : Dev) (cause : Nat) {f : Fld}
    (h : KeptByTransitions f ∧ f.ofs ≠ R.CHG.I_CMD ∧ FieldsApart f F.CHG.CSTATE_SUPPLY_OK) :
    (d.enterIdle cause).fld (pg .chg) f = d.endNow.fld (pg .chg) f := by
  obtain ⟨hkept, hcurrent, hsupply⟩ := h
  simp only [enterIdle, fld_chgEnter_apart _ _ _ hkept, fld_modChg, fld_setReg_apart _ _ hcurrent, fld_setFlag_apart _ _ hsupply]

theorem s2Closed_enterIdle (d : Dev) (cause : Nat) : (d.enterIdle cause).s2Closed = false :=
  (flag_of_fld (d.fld_enterIdle_ended cause (by decide))).trans d.s2Closed_endNow

/-- FAULT is entered with an immediate end. -/
theorem s2Closed_enterChgFault (d : Dev) (cause : Nat) : (d.enterChgFault cause).s2Closed = false := by
  refine (flag_of_fld ?_).trans d.s2Closed_endNow
  simp (disch := decide) only [enterChgFault, fld_chgEnter_apart, fld_modChg, fld_setFlag_apart, fld_setReg_apart, fld_chgRef]

/-! ## Suspend causes (R250) -/

/-- CAUSE alone shows the lowest suspend code. -/
theorem fld_showLowest_apart (d : Dev) {f : Fld} (h : FieldsApart f F.CHG.CSTATE_CAUSE) :
    d.showLowest.fld (pg .chg) f = d.fld (pg .chg) f := by
  unfold showLowest
  split
  · exact fld_setFld_apart d _ h
  · rfl

theorem reg_showLowest_apart (d : Dev) {o : Nat} (h : o ≠ R.CHG.CSTATE) : d.showLowest.reg (pg .chg) o = d.reg (pg .chg) o := by
  unfold showLowest
  split
  · exact reg_setFld_apart d _ h
  · rfl

/-- The entry into SUSPEND, with an orderly end, from another state. -/
def suspendEntered (d : Dev) : Dev := if d.cstate = 6 then d else (d.endOrderly.chgEnter 6 0).bump (pg .chg) R.CHG.SUSPENDS

theorem cstate_suspendEntered (d : Dev) : d.suspendEntered.cstate = 6 := by
  unfold suspendEntered
  split
  case isTrue h => exact h
  case isFalse => exact (fld_bump_apart _ (by decide)).trans (cstate_chgEnter _ (by decide) _)

@[simp] theorem suspendEntered_store (d : Dev) : d.suspendEntered.mem = d.mem ∧ d.suspendEntered.keys = d.keys := by
  simp [suspendEntered]

/-- A cause that neither comes from the pilot nor ends the session at once. -/
theorem chgSuspend_plain (d : Dev) {m : Nat} (hpilot : bitAt m 5 = false) (hbattery : bitAt m 1 = false) :
    d.chgSuspend m = (d.suspendEntered.setFld (pg .chg) F.CHG.CSTATE_SUSP_MASK (d.suspMask ||| m)).showLowest := by
  simp only [chgSuspend, hpilot, hbattery, Bool.false_eq_true, false_and, if_false, suspendEntered]

/-- SUSPEND, with the causes among those pending. -/
theorem chgSuspend_plain_spec (d : Dev) {m : Nat} (hpilot : bitAt m 5 = false) (hbattery : bitAt m 1 = false) :
    (d.chgSuspend m).cstate = 6 ∧ (∀ b < 9, bitAt m b = true → bitAt (d.chgSuspend m).suspMask b = true) ∧
      (d.chgSuspend m).mem = d.mem ∧ (d.chgSuspend m).keys = d.keys := by
  rw [chgSuspend_plain d hpilot hbattery]
  refine ⟨?state, fun b hb hbit => ?pending, by simp, by simp⟩
  case state =>
    rw [cstate, fld_showLowest_apart _ (by decide), fld_setFld_apart _ _ (by decide)]
    exact d.cstate_suspendEntered
  case pending =>
    rw [suspMask, fld_showLowest_apart _ (by decide), fld_setFld_self _ _ _ _ (by decide)]
    rw [bitAt_eq_testBit] at hbit
    rw [bitAt_eq_testBit, Nat.testBit_mod_two_pow, Nat.testBit_or, hbit, Bool.or_true, Bool.and_true]
    exact decide_eq_true hb

end Dev
end Sys2Proof.Machine
end

section
/-!
PROOFS. The commands of the charge manager (R246–R251, R253, R269, R274): the states that allow each operation, what a refused command
records, and what an accepted one leaves.
-/
namespace Sys2Proof.Machine

/-! ## The states that allow an operation (R274) -/

/-- The states that allow each operation of CMD (R274). -/
def chgCommandStates : List (Nat × List Nat) :=
  [(1, [0, 1, 6]), (2, [1, 2, 3, 4, 6]), (3, [6]), (4, [1, 2, 3, 4, 6, 7]), (5, [0]), (6, [0]), (7, [8]), (8, [5])]

namespace Dev

/-- The model allows each operation in those states alone. -/
theorem chgCmdValid_eq : ∀ x ∈ chgCommandStates, ∀ st < 16, chgCmdValid x.1 st = decide (st ∈ x.2) := by decide

theorem cstate_lt (d : Dev) : d.cstate < 16 := bitsOf_lt _ _ _

/-- The owner of the CPGEN key is the charge manager's, as CMD asks (R269). -/
abbrev cpgenKey (d : Dev) : Bool := d.keyTag 4 == 0x5023

/-- What CMD refuses, with the result. -/
def chgRefused (d : Dev) (op result : Nat) : Dev :=
  (d.setReg (pg .chg) R.CHG.LAST_CMD (BitVec.ofNat 32 (op + 256 * result))).event (pg .chg) F.CHG.EVENT_CMD_REFUSED

/-- LAST_CMD of an accepted operation. -/
def chgAccepted (d : Dev) (op : Nat) : Dev := d.setReg (pg .chg) R.CHG.LAST_CMD (BitVec.ofNat 32 op)

theorem chgCmd_refused {d : Dev} {op key r : Nat} {cp : Bool} (hop : op < 16) (hr : d.chgCmdResult op key cp = r) (h : r ≠ 0) :
    d.chgCmd op key cp = d.chgRefused op r := by
  simp only [chgCmd, hr, if_neg h, Nat.mod_eq_of_lt hop, chgRefused]

theorem chgCmd_accepted {d : Dev} {op key : Nat} {cp : Bool} (hop : op < 16) (hr : d.chgCmdResult op key cp = 0) :
    d.chgCmd op key cp = (d.chgAccepted op).chgCmdDo op := by
  simp only [chgCmd, hr, if_true, Nat.mod_eq_of_lt hop, chgAccepted, Nat.mul_zero, Nat.add_zero]

/-! ## Results (R250, R269, R274) -/

/-- An operation in a state that does not allow it. -/
theorem chgCmdResult_invalid {d : Dev} {op : Nat} (h : chgCmdValid op d.cstate = false) (cp : Bool) :
    d.chgCmdResult op 0xC4A7 cp = 0x3F := by
  simp [chgCmdResult, h]

/-- START, PAUSE, STOP and RESTART need their states alone. -/
theorem chgCmdResult_stateAlone {d : Dev} {op : Nat} (h : chgCmdValid op d.cstate = true) (hop : op = 1 ∨ op = 2 ∨ op = 4 ∨ op = 8)
    (cp : Bool) : d.chgCmdResult op 0xC4A7 cp = 0 := by
  obtain rfl | rfl | rfl | rfl := hop <;> simp [chgCmdResult, h]

/-- RESUME waits for the latch behind BATTERY_LOST to go. -/
theorem chgCmdResult_resume {d : Dev} (hst : d.cstate = 6) (hlatch : (bitAt d.suspMask 1 && d.chgLatched) = false) (cp : Bool) :
    d.chgCmdResult 3 0xC4A7 cp = 0 := by
  have hvalid : chgCmdValid 3 d.cstate = true := by rw [hst]; rfl
  simp_all [chgCmdResult]

/-- CLEAR waits for the cause of FAULT to go. -/
theorem chgCmdResult_clear {d : Dev} (hst : d.cstate = 8) (hgone : d.chgFaultGone = true) (cp : Bool) :
    d.chgCmdResult 7 0xC4A7 cp = 0 := by
  have hvalid : chgCmdValid 7 d.cstate = true := by rw [hst]; rfl
  simp [chgCmdResult, hvalid, hgone]

/-- The operation of the reverse supply to a load or to a vehicle. -/
def reverseOp (v : Bool) : Nat := if v then 6 else 5

/-- V2L and V2V of an idle charge manager answer by the checks of R269. -/
theorem chgCmdResult_reverse {d : Dev} (hst : d.cstate = 0) (hdev : d.state = 3 ∨ d.state = 4) (v cp : Bool) :
    d.chgCmdResult (reverseOp v) 0xC4A7 cp = d.reverseRefusal v cp := by
  have hlive : ¬ (d.state ≠ 3 ∧ d.state ≠ 4) := by omega
  have hvalid : chgCmdValid (reverseOp v) d.cstate = true := by rw [hst]; cases v <;> rfl
  cases v <;> simp_all [chgCmdResult, reverseOp]

/-! ## What the operations leave -/

/-- An operation's record leaves the fields of the other registers. -/
theorem fld_chgAccepted (d : Dev) (op : Nat) {f : Fld} (h : f.ofs ≠ R.CHG.LAST_CMD) : (d.chgAccepted op).fld (pg .chg) f = d.fld (pg .chg) f :=
  fld_setReg_apart d _ h
theorem reg_chgAccepted (d : Dev) (op : Nat) {o : Nat} (h : o ≠ R.CHG.LAST_CMD) : (d.chgAccepted op).reg (pg .chg) o = d.reg (pg .chg) o :=
  reg_setReg_apart d _ h
theorem lastCmd_chgAccepted (d : Dev) (op : Nat) : (d.chgAccepted op).reg (pg .chg) R.CHG.LAST_CMD = BitVec.ofNat 32 op :=
  reg_setReg_self _ _ _ _ _
theorem cstate_chgAccepted (d : Dev) (op : Nat) : (d.chgAccepted op).cstate = d.cstate := d.fld_chgAccepted op (by decide)
theorem suspMask_chgAccepted (d : Dev) (op : Nat) : (d.chgAccepted op).suspMask = d.suspMask := d.fld_chgAccepted op (by decide)
@[simp] theorem chgAccepted_store (d : Dev) (op : Nat) : (d.chgAccepted op).mem = d.mem ∧ (d.chgAccepted op).keys = d.keys := by
  simp [chgAccepted]

/-- A suspend code added to a charging session counts it, and records nothing else beside the state. -/
theorem chgSuspend_charging_regs {d : Dev} (hst : d.cstate ≠ 6) {m : Nat} (hpilot : bitAt m 5 = false) (hbattery : bitAt m 1 = false) :
    (d.chgSuspend m).reg (pg .chg) R.CHG.SUSPENDS = d.reg (pg .chg) R.CHG.SUSPENDS + 1 ∧
      (d.chgSuspend m).reg (pg .chg) R.CHG.LAST_CMD = d.reg (pg .chg) R.CHG.LAST_CMD := by
  rw [chgSuspend_plain d hpilot hbattery, suspendEntered, if_neg hst, reg_showLowest_apart _ (by decide),
    reg_showLowest_apart _ (by decide), reg_setFld_apart _ _ (by decide), reg_setFld_apart _ _ (by decide), reg_bump_self,
    reg_bump_other _ _ _ _ _ _ _ (by decide), reg_chgEnter_apart _ _ _ (by decide), reg_chgEnter_apart _ _ _ (by decide),
    reg_endOrderly_apart _ (by decide), reg_endOrderly_apart _ (by decide)]
  exact ⟨rfl, rfl⟩

/-- The timers that expired are reset before RESUME lets causes go (R251). -/
def timersResumed (d : Dev) : Dev :=
  let p := pg .chg
  let e := if bitAt d.suspMask 0 then d.chg.expired else 0
  let d := if bitAt e 0 then d.resetStepTimer else d
  if bitAt e 1 then
    ((d.setReg p R.CHG.TOTAL_EQ 0).setReg p R.CHG.TOTAL_RT 0).modChg (fun c => { c with eqTotal := 0 })
  else d

/-- The causes that RESUME leaves pending (R251). -/
def causesResumed (d : Dev) : Dev :=
  (d.timersResumed.setFld (pg .chg) F.CHG.CSTATE_SUSP_MASK (d.timersResumed.suspMask &&& 0x1F8)).modChg (fun c => { c with expired := 0 })

theorem reg_timersResumed (d : Dev) {o : Nat}
    (h : o ≠ R.CHG.STEP_EQ ∧ o ≠ R.CHG.STEP_RT ∧ o ≠ R.CHG.TOTAL_EQ ∧ o ≠ R.CHG.TOTAL_RT) :
    d.timersResumed.reg (pg .chg) o = d.reg (pg .chg) o := by
  obtain ⟨hstepEq, hstepRt, htotalEq, htotalRt⟩ := h
  simp only [timersResumed, resetStepTimer, reg_ite, reg_modChg, reg_setReg_apart _ _ hstepEq, reg_setReg_apart _ _ hstepRt,
    reg_setReg_apart _ _ htotalEq, reg_setReg_apart _ _ htotalRt, ite_self]

theorem chgResume_eq (d : Dev) : d.chgResume =
    if d.timersResumed.suspMask ≠ 0 ∧ d.causesResumed.suspMask = 0 then d.causesResumed.enterDetect else d.causesResumed.showLowest := rfl

theorem suspMask_timersResumed (d : Dev) : d.timersResumed.suspMask = d.suspMask := fld_of_reg (d.reg_timersResumed (by decide))

theorem suspMask_causesResumed (d : Dev) : d.causesResumed.suspMask = d.suspMask &&& 0x1F8 := by
  have hlt : d.suspMask &&& 0x1F8 < 512 := Nat.lt_of_le_of_lt Nat.and_le_right (by decide)
  rw [suspMask, causesResumed, fld_modChg, fld_setFld_self _ _ _ _ (by decide), suspMask_timersResumed]
  exact Nat.mod_eq_of_lt hlt

theorem cstate_causesResumed (d : Dev) : d.causesResumed.cstate = d.cstate := by
  rw [cstate, causesResumed, fld_modChg, fld_setFld_apart _ _ (by decide), fld_of_reg (d.reg_timersResumed (by decide))]
  rfl

theorem lastCmd_causesResumed (d : Dev) : d.causesResumed.reg (pg .chg) R.CHG.LAST_CMD = d.reg (pg .chg) R.CHG.LAST_CMD := by
  rw [causesResumed, reg_modChg, reg_setFld_apart _ _ (by decide), reg_timersResumed _ (by decide)]

theorem lastCmd_chgResume (d : Dev) : d.chgResume.reg (pg .chg) R.CHG.LAST_CMD = d.reg (pg .chg) R.CHG.LAST_CMD := by
  rw [chgResume_eq, reg_ite, reg_enterDetect_apart _ (by decide), reg_showLowest_apart _ (by decide), ite_self, lastCmd_causesResumed]

/-- RESUME leaves SUSPEND at once where no cause stays. -/
theorem chgResume_allGone {d : Dev} (hmask : d.suspMask ≠ 0) (hgone : d.suspMask &&& 0x1F8 = 0) :
    d.chgResume.cstate = 1 ∧ d.chgResume.fld (pg .chg) F.CHG.CSTATE_CAUSE = 0 := by
  rw [chgResume_eq, suspMask_timersResumed, suspMask_causesResumed, if_pos ⟨hmask, hgone⟩]
  exact ⟨cstate_enterDetect _, cause_enterDetect _⟩

/-- A cause that RESUME cannot let go keeps SUSPEND. -/
theorem chgResume_someStay {d : Dev} (hst : d.cstate = 6) (hstay : d.suspMask &&& 0x1F8 ≠ 0) :
    d.chgResume.cstate = 6 ∧ d.chgResume.suspMask = d.suspMask &&& 0x1F8 := by
  rw [chgResume_eq, suspMask_timersResumed, suspMask_causesResumed, if_neg fun h => hstay h.2]
  refine ⟨?_, (fld_showLowest_apart _ (by decide)).trans d.suspMask_causesResumed⟩
  exact (fld_showLowest_apart _ (by decide)).trans (d.cstate_causesResumed.trans hst)

/-- STOP ends REVERSE in IDLE, and a charging session in DONE. -/
theorem chgCmdDo_stop (d : Dev) : d.chgCmdDo 4 = if d.cstate = 7 then d.enterIdle 0x12 else d.enterDone 0x12 := rfl

theorem chgStop_spec (d : Dev) :
    (d.chgCmdDo 4).cstate = (if d.cstate = 7 then 0 else 5) ∧ (d.chgCmdDo 4).fld (pg .chg) F.CHG.CSTATE_CAUSE = 0x12 := by
  rw [chgCmdDo_stop]
  split
  · exact ⟨cstate_enterIdle _ _, cause_enterIdle _ (by decide)⟩
  · exact ⟨cstate_enterDone _ _, cause_enterDone _ (by decide)⟩

theorem chgCmdDo_stop_mem (d : Dev) : (d.chgCmdDo 4).mem = d.mem := by
  simp [chgCmdDo_stop]

theorem chgCmdDo_pause (d : Dev) : d.chgCmdDo 2 = d.chgSuspend 4 := rfl
theorem chgCmdDo_resume (d : Dev) : d.chgCmdDo 3 = d.chgResume := rfl
theorem chgCmdDo_clear (d : Dev) : d.chgCmdDo 7 = d.enterIdle 0x15 := rfl
theorem chgCmdDo_restart (d : Dev) : d.chgCmdDo 8 = d.newSession.enterDetect := rfl
theorem chgCmdDo_reverse (d : Dev) (v : Bool) : d.chgCmdDo (reverseOp v) = d.enterReverse v := by
  cases v <;> rfl

/-- REVERSE is entered with CPGEN high towards a vehicle. -/
theorem enterReverse_spec (d : Dev) (v : Bool) :
    (d.enterReverse v).cstate = 7 ∧ (d.enterReverse v).chg.v2v = v ∧ (d.enterReverse v).chg.cpgen = (if v then .high else .idle) ∧
      (d.enterReverse v).reg (pg .chg) R.CHG.REVERSES = d.reg (pg .chg) R.CHG.REVERSES + 1 := by
  refine ⟨?_, rfl, rfl, ?_⟩
  · rw [cstate, enterReverse, fld_modChg]
    exact cstate_chgEnter _ (by decide) _
  · rw [enterReverse, reg_modChg, reg_chgEnter_apart _ _ _ (by decide), reg_bump_self]
    rfl

/-- A new session counts in SESSIONS, with both timers at 0. -/
theorem newSession_regs (d : Dev) :
    d.newSession.reg (pg .chg) R.CHG.SESSIONS = d.reg (pg .chg) R.CHG.SESSIONS + 1 ∧
      ∀ o ∈ [R.CHG.STEP_EQ, R.CHG.STEP_RT, R.CHG.TOTAL_EQ, R.CHG.TOTAL_RT], d.newSession.reg (pg .chg) o = 0 := by
  refine ⟨?sessions, ?timers⟩
  case sessions =>
    rw [newSession, reg_modChg, reg_bump_self]
    simp (disch := decide) only [reg_setReg_apart]
    rfl
  case timers =>
    simp only [List.forall_mem_cons, List.not_mem_nil, false_implies, implies_true, and_true]
    simp (disch := decide) only [newSession, reg_modChg, reg_bump_other, reg_setReg_apart, reg_setReg_self, and_self]

/-- RESTART begins a new session in DETECT. -/
theorem restart_spec (d : Dev) :
    d.newSession.enterDetect.cstate = 1 ∧
      d.newSession.enterDetect.reg (pg .chg) R.CHG.SESSIONS = d.reg (pg .chg) R.CHG.SESSIONS + 1 ∧
      ∀ o ∈ [R.CHG.STEP_EQ, R.CHG.STEP_RT, R.CHG.TOTAL_EQ, R.CHG.TOTAL_RT], d.newSession.enterDetect.reg (pg .chg) o = 0 := by
  obtain ⟨hsessions, htimers⟩ := d.newSession_regs
  simp only [List.forall_mem_cons, List.not_mem_nil, false_implies, implies_true, and_true] at htimers ⊢
  simp (disch := decide) only [reg_enterDetect_apart]
  exact ⟨cstate_enterDetect _, hsessions, htimers⟩

theorem chgWrite_cmd (d : Dev) (m : Master) (w : Word) (f : WriteFacts) :
    d.blockWrite m .chg 0 R.CHG.CMD w f = d.chgCmd (bitsOf w.toNat 0 4) (bitsOf w.toNat 16 16) d.cpgenKey :=
  (if_pos rfl : d.chgWrite m R.CHG.CMD w = _)

end Dev

section Commands
variable {c : Instr} {d : Dev} {m : Master} (h : d.CanWrite m .chg 0 R.CHG.CMD) {op : Nat} {w : Word}
  (hc : ∀ s, exec c s = .next (s.onDev fun d => d.portWrite m .chg 0 R.CHG.CMD w))
  (hw : bitsOf w.toNat 0 4 = op ∧ bitsOf w.toNat 16 16 = 0xC4A7)
include h hc hw

/-- A permitted write of CMD with its key that is refused. -/
theorem Runs.chgRefused {r : Nat} (hr : d.chgCmdResult op 0xC4A7 d.cpgenKey = r) (hne : r ≠ 0) : Runs c d (d.chgRefused op r).done := by
  obtain ⟨rfl, hkey⟩ := hw
  refine Runs.block (by decide) (by decide) h (by decide) hc ?_
  rw [Dev.chgWrite_cmd, hkey, Dev.chgCmd_refused (bitsOf_lt _ _ _) hr hne]

/-- A permitted write of CMD with its key that is accepted. -/
theorem Runs.chgAccepted (hr : d.chgCmdResult op 0xC4A7 d.cpgenKey = 0) : Runs c d ((d.chgAccepted op).chgCmdDo op).done := by
  obtain ⟨rfl, hkey⟩ := hw
  refine Runs.block (by decide) (by decide) h (by decide) hc ?_
  rw [Dev.chgWrite_cmd, hkey, Dev.chgCmd_accepted (bitsOf_lt _ _ _) hr]

/-- In a state that does not allow it an operation is refused. -/
theorem Runs.chgInvalid {states : List Nat} (hop : (op, states) ∈ chgCommandStates) (hst : d.cstate ∉ states) :
    Runs c d (d.chgRefused op 0x3F).done := by
  have hinvalid : Dev.chgCmdValid op d.cstate = false := by
    rw [Dev.chgCmdValid_eq _ hop _ d.cstate_lt]
    exact decide_eq_false hst
  exact Runs.chgRefused h hc hw (Dev.chgCmdResult_invalid hinvalid _) (by decide)

/-- START, PAUSE, STOP and RESTART are accepted in the states that allow them. -/
theorem Runs.chgStateAlone {states : List Nat} (hop : (op, states) ∈ chgCommandStates) (hst : d.cstate ∈ states)
    (halone : op = 1 ∨ op = 2 ∨ op = 4 ∨ op = 8) : Runs c d ((d.chgAccepted op).chgCmdDo op).done := by
  have hvalid : Dev.chgCmdValid op d.cstate = true := by
    rw [Dev.chgCmdValid_eq _ hop _ d.cstate_lt]
    exact decide_eq_true hst
  exact Runs.chgAccepted h hc hw (Dev.chgCmdResult_stateAlone hvalid halone _)

end Commands

/-- Settles O30: an operation outside its states is refused, and each of the others by what it leaves. -/
theorem chargeCommandsRun : Obligations.ChargeCommandsRun := by
  unfold Obligations.ChargeCommandsRun
  intro d m p h
  refine ⟨?refused, ?start, ?pause, ?resume, ?stop, ?reverse, ?clear, ?restart⟩
  case refused =>
    intro x hx hst
    simp only [List.mem_cons, List.not_mem_nil, or_false] at hx
    obtain rfl | rfl | rfl | rfl | rfl | rfl | rfl | rfl := hx
    all_goals
      dsimp only at hst ⊢
      exact Runs.chgInvalid h (fun _ => rfl) (by decide) (by decide) hst
  case start => exact fun hst => Runs.chgStateAlone h (fun _ => rfl) (op := 1) (by decide) (by decide) hst (by decide)
  case pause =>
    intro hst
    have hadmit : d.cstate ∈ [1, 2, 3, 4, 6] := (by decide : [1, 2, 3, 4] ⊆ [1, 2, 3, 4, 6]) hst
    have hcharging : (d.chgAccepted 2).cstate ≠ 6 := by
      rw [Dev.cstate_chgAccepted]
      exact fun heq => absurd (heq ▸ hst) (by decide)
    obtain ⟨hstate, hpending, hmem, hkeys⟩ := (d.chgAccepted 2).chgSuspend_plain_spec (m := 4) (by decide) (by decide)
    obtain ⟨hcount, hlast⟩ := Dev.chgSuspend_charging_regs hcharging (m := 4) (by decide) (by decide)
    have hrun := Runs.chgStateAlone h (c := .pause m) (fun _ => rfl) (op := 2) (by decide) (by decide) hadmit (by decide)
    rw [Dev.reg_chgAccepted _ _ (by decide)] at hcount
    rw [Dev.lastCmd_chgAccepted] at hlast
    rw [(d.chgAccepted_store 2).1] at hmem
    rw [(d.chgAccepted_store 2).2] at hkeys
    have hmanual := hpending 2 (by decide) (by decide)
    rw [Dev.chgCmdDo_pause] at hrun
    exact hrun.leaves (fun _ ht => ht) ⟨hstate, hmanual, hcount, hlast, hmem, hkeys⟩
  case resume =>
    intro hst hlatch
    have hres := Dev.chgCmdResult_resume hst hlatch d.cpgenKey
    obtain ⟨hmem, hkeys⟩ := (d.chgAccepted 3).chgResume_store
    have hlast := (d.chgAccepted 3).lastCmd_chgResume
    have hgone := Dev.chgResume_allGone (d := d.chgAccepted 3)
    have hstay := Dev.chgResume_someStay (d := d.chgAccepted 3)
    rw [Dev.suspMask_chgAccepted] at hgone hstay
    rw [(d.chgAccepted_store 3).1] at hmem
    rw [(d.chgAccepted_store 3).2] at hkeys
    rw [Dev.lastCmd_chgAccepted] at hlast
    rw [Dev.cstate_chgAccepted] at hstay
    have hrun := Runs.chgAccepted h (c := .resume m) (fun _ => rfl) (op := 3) (by decide) hres
    rw [Dev.chgCmdDo_resume] at hrun
    exact hrun.leaves (fun _ ht => ht) ⟨hlast, hmem, hkeys, hgone, hstay hst⟩
  case stop =>
    intro hst
    obtain ⟨hstate, hcause⟩ := (d.chgAccepted 4).chgStop_spec
    have hmem := (d.chgAccepted 4).chgCmdDo_stop_mem
    have hkeys := (d.chgAccepted 4).chgCmdDo_keys 4
    have hrun := Runs.chgStateAlone h (c := .chgStop m) (fun _ => rfl) (op := 4) (by decide) (by decide) hst (by decide)
    rw [Dev.cstate_chgAccepted] at hstate
    rw [(d.chgAccepted_store 4).1] at hmem
    rw [(d.chgAccepted_store 4).2] at hkeys
    exact hrun.leaves (fun _ ht => ht) ⟨hstate, hcause, hmem, hkeys⟩
  case reverse =>
    intro hst hdev v r c
    have hc : ∀ s, exec c s = .next (s.onDev fun d => d.portWrite m .chg 0 R.CHG.CMD (if v then 0xC4A70006 else 0xC4A70005)) := by
      intro s
      cases v <;> rfl
    have hw : bitsOf (if v then 0xC4A70006 else 0xC4A70005 : Word).toNat 0 4 = Dev.reverseOp v ∧
        bitsOf (if v then 0xC4A70006 else 0xC4A70005 : Word).toNat 16 16 = 0xC4A7 := by
      cases v <;> decide
    have hres := Dev.chgCmdResult_reverse hst hdev v d.cpgenKey
    refine ⟨fun hr => ?_, fun hr => Runs.chgRefused h hc hw hres hr⟩
    have hrun := Runs.chgAccepted h hc hw (hres.trans hr)
    obtain ⟨hstate, hv2v, hcp, hcount⟩ := (d.chgAccepted (Dev.reverseOp v)).enterReverse_spec v
    rw [Dev.chgCmdDo_reverse] at hrun
    rw [Dev.reg_chgAccepted _ _ (by decide)] at hcount
    have hstore : ((d.chgAccepted (Dev.reverseOp v)).enterReverse v).mem = d.mem ∧
        ((d.chgAccepted (Dev.reverseOp v)).enterReverse v).keys = d.keys := by
      simp
    exact hrun.leaves (fun _ ht => ht) ⟨hstate, hv2v, hcp, hcount, hstore⟩
  case clear =>
    intro hst hgone
    have hrun := Runs.chgAccepted h (c := .clear m) (fun _ => rfl) (op := 7) (by decide) (Dev.chgCmdResult_clear hst hgone _)
    have hstate := (d.chgAccepted 7).cstate_enterIdle 0x15
    have hcause := (d.chgAccepted 7).cause_enterIdle (cause := 0x15) (by decide)
    have hopen := (d.chgAccepted 7).s2Closed_enterIdle 0x15
    have hstore := (d.chgAccepted 7).enterIdle_store 0x15
    rw [(d.chgAccepted_store 7).1, (d.chgAccepted_store 7).2] at hstore
    rw [Dev.chgCmdDo_clear] at hrun
    exact hrun.leaves (fun _ ht => ht) ⟨hstate, hcause, hopen, hstore⟩
  case restart =>
    intro hst
    have hadmit : d.cstate ∈ [5] := List.mem_singleton.mpr hst
    have hrun := Runs.chgStateAlone h (c := .restart m) (fun _ => rfl) (op := 8) (by decide) (by decide) hadmit (by decide)
    obtain ⟨hstate, hcount, htimers⟩ := (d.chgAccepted 8).restart_spec
    simp only [List.forall_mem_cons, List.not_mem_nil, false_implies, implies_true, and_true] at htimers
    obtain ⟨hstepEq, hstepRt, htotalEq, htotalRt⟩ := htimers
    rw [Dev.reg_chgAccepted _ _ (by decide)] at hcount
    have hstore : (d.chgAccepted 8).newSession.enterDetect.mem = d.mem ∧ (d.chgAccepted 8).newSession.enterDetect.keys = d.keys := by
      simp
    rw [Dev.chgCmdDo_restart] at hrun
    exact hrun.leaves (fun _ ht => ht) ⟨hstate, hcount, hstepEq, hstepRt, htotalEq, htotalRt, hstore⟩

end Sys2Proof.Machine
end

section
/-!
PROOFS. The inputs of a tick of the charge manager (R245, R256–R262): the means, the proximity contact, the temperatures, the pilot term and
the limit each show in registers of their own, and leave the session as it stands.
-/
namespace Sys2Proof.Machine

/-- A word read as a two's complement number shows as itself. -/
theorem ofSigned_toInt {w : Nat} (x : BitVec w) : ofSigned w x.toInt = x.toNat := by
  rw [ofSigned, BitVec.toInt_eq_toNat_bmod, Int.bmod_emod, ← Int.natCast_mod, Int.toNat_natCast, Nat.mod_eq_of_lt x.isLt]

/-- What the inputs of a tick leave of the charge manager: how long S2 has stood, what is expected of the pilot, and what the device has
done. -/
def ChgS.session (c : ChgS) : Nat × S2Watch × Bool × Bool := (c.s2T, c.watch, c.reacted, c.latched)

namespace Dev

theorem regs_fit (d : Dev) (w : Nat) (lo hi v : Int) : (d.fit w lo hi v).2.regs = d.regs := by
  unfold fit
  split <;> rfl

theorem chg_fit (d : Dev) (w : Nat) (lo hi v : Int) : (d.fit w lo hi v).2.chg = d.chg := by
  unfold fit
  split <;> rfl

theorem chg_event (d : Dev) (p : Nat) (f : Fld) : (d.event p f).chg = d.chg := rfl

/-! ## The means (R245) -/

theorem fld_chgMeans (d : Dev) {f : Fld} (h : f.ofs ≠ R.CHG.OUTPUT) : d.chgMeans.fld (pg .chg) f = d.fld (pg .chg) f := by
  rw [chgMeans, fld_setReg_apart _ _ h, fld_of_regs (regs_fit _ _ _ _ _), fld_of_regs (regs_fit _ _ _ _ _), fld_modChg]

theorem session_chgMeans (d : Dev) : d.chgMeans.chg.session = d.chg.session := by
  simp only [chgMeans, setReg_frame, chg_fit, modChg_frame]
  rfl

/-! ## The proximity contact (R257) -/

theorem fld_chgProximity_apart (d : Dev) (ohms : Nat) {f : Fld} (h : f.ofs ≠ R.CHG.PP) :
    (d.chgProximity ohms).fld (pg .chg) f = d.fld (pg .chg) f := by
  have hohms : FieldsApart f F.CHG.PP_OHMS := .inl h
  have hrating : FieldsApart f F.CHG.PP_RATING := .inl h
  rw [chgProximity, fld_setFld_apart _ _ hrating, fld_setFld_apart _ _ hohms]

theorem ppRating_lt (mode ohms : Nat) : ppRating mode ohms < 16 := by
  unfold ppRating
  split_ifs <;> decide

theorem chgProximity_spec (d : Dev) (ohms : Nat) :
    (d.chgProximity ohms).fld (pg .chg) F.CHG.PP_OHMS = min ohms 65535 ∧
      (d.chgProximity ohms).ppNow = ppRating (d.fld (pg .chg) F.CHG.CFG_PP_MODE) ohms := by
  refine ⟨?ohms, ?rating⟩
  case ohms =>
    rw [chgProximity, fld_setFld_apart _ _ (by decide), fld_setFld_self _ _ _ _ (by decide)]
    exact Nat.mod_eq_of_lt (Nat.lt_of_le_of_lt (Nat.min_le_right _ _) (by decide))
  case rating =>
    rw [ppNow, chgProximity, fld_setFld_self _ _ _ _ (by decide)]
    exact Nat.mod_eq_of_lt (ppRating_lt _ _)

theorem chg_chgProximity (d : Dev) (ohms : Nat) : (d.chgProximity ohms).chg = d.chg := by simp [chgProximity]

/-! ## Temperatures and zones (R260–R262) -/

theorem fld_chgZones_apart (d : Dev) {f : Fld}
    (h : f.ofs ≠ R.CHG.TEMPS ∧ FieldsApart f F.CHG.CSTATE_ZONE ∧ FieldsApart f F.CHG.EVENT_ZONE_CHANGE) :
    d.chgZones.fld (pg .chg) f = d.fld (pg .chg) f := by
  obtain ⟨htemps, hzone, hevent⟩ := h
  unfold chgZones
  dsimp only
  split
  · rw [fld_modChg, fld_setReg_apart _ _ htemps, fld_modChg]
  · rw [fld_ite, fld_event_apart _ hevent, ite_self, fld_setFld_apart _ _ hzone, fld_setReg_apart _ _ htemps, fld_modChg, fld_modChg]

theorem session_chgZones (d : Dev) : d.chgZones.chg.session = d.chg.session := by
  unfold chgZones
  dsimp only
  split
  · rfl
  · rw [chg_ite, chg_event, ite_self]
    rfl

/-! ## The pilot term and the limit (R256, R258) -/

theorem fld_chgTerm_apart (d : Dev) {f : Fld} (h : FieldsApart f F.CHG.PILOT_HLC ∧ FieldsApart f F.CHG.EVENT_TERM_CHANGE) :
    d.chgTerm.fld (pg .chg) f = d.fld (pg .chg) f := by
  simp only [chgTerm, fld_ite, fld_modChg, fld_event_apart _ h.2, fld_setFlag_apart _ _ h.1, ite_self]

/-- The term of a pilot is renewed with its event where it changes. -/
def takeTerm (d : Dev) (t : Nat) : Dev :=
  if t = d.chg.term then d else (d.event (pg .chg) F.CHG.EVENT_TERM_CHANGE).modChg (fun c => { c with term := t })

theorem chg_takeTerm (d : Dev) (t : Nat) : (d.takeTerm t).chg = { d.chg with term := t } := by
  unfold takeTerm
  split
  case isTrue h => rw [h]
  case isFalse => rfl

/-- Beside the registers the term alone is renewed. -/
theorem chg_chgTerm (d : Dev) : ∃ t, d.chgTerm.chg = { d.chg with term := t } :=
  ⟨_, chg_takeTerm (d.setFlag (pg .chg) F.CHG.PILOT_HLC _) _⟩

theorem session_chgTerm (d : Dev) : d.chgTerm.chg.session = d.chg.session := by
  obtain ⟨t, h⟩ := d.chg_chgTerm
  rw [h]
  rfl

theorem perN_chgTerm (d : Dev) : d.chgTerm.chg.perN = d.chg.perN := by
  obtain ⟨t, h⟩ := d.chg_chgTerm
  rw [h]

theorem groupTerm_frame (d : Dev) : d.groupTerm.2.regs = d.regs ∧ d.groupTerm.2.chg = d.chg := by
  unfold groupTerm
  dsimp only
  split <;> exact ⟨rfl, rfl⟩

theorem fld_chgLimit_apart (d : Dev) {f : Fld} (h : f.ofs ≠ R.CHG.LIMIT) : d.chgLimit.fld (pg .chg) f = d.fld (pg .chg) f := by
  rw [chgLimit, fld_setReg_apart _ _ h, fld_modChg, fld_of_regs d.groupTerm_frame.1]

theorem session_chgLimit (d : Dev) : d.chgLimit.chg.session = d.chg.session := by
  simp only [chgLimit, setReg_frame, modChg_frame, d.groupTerm_frame.2]
  rfl

/-! ## Every input of a tick (R245) -/

/-- The ages advance with the tick. -/
def chgAged (d : Dev) : Dev :=
  d.modChg (fun c => { c with
    bmsAge := c.bmsAge.map (· + 1), s2T := c.s2T + 1, preT := if d.cstate = 2 then c.preT + 1 else c.preT,
    endT := if c.endNew then c.endT else c.endT + 1 })

theorem chgInputs_eq (d : Dev) (ohms : Nat) :
    d.chgInputs ohms = (((d.chgAged.chgMeans.chgProximity ohms).chgZones).chgTerm).chgLimit := rfl

/-- A field that no input shows in, but for those of the proximity contact. -/
abbrev KeptByInputs (f : Fld) : Prop :=
  f.ofs ≠ R.CHG.LIMIT ∧ (FieldsApart f F.CHG.PILOT_HLC ∧ FieldsApart f F.CHG.EVENT_TERM_CHANGE) ∧
    (f.ofs ≠ R.CHG.TEMPS ∧ FieldsApart f F.CHG.CSTATE_ZONE ∧ FieldsApart f F.CHG.EVENT_ZONE_CHANGE)

theorem fld_chgInputs_kept (d : Dev) (ohms : Nat) {f : Fld} (h : KeptByInputs f) :
    (d.chgInputs ohms).fld (pg .chg) f = (d.chgAged.chgMeans.chgProximity ohms).fld (pg .chg) f := by
  obtain ⟨hlimit, hterm, hzones⟩ := h
  rw [chgInputs_eq, fld_chgLimit_apart _ hlimit, fld_chgTerm_apart _ hterm, fld_chgZones_apart _ hzones]

/-- A tick reads the proximity contact, and leaves the state of the session to its decisions. -/
theorem chgInputs_spec (d : Dev) (ohms : Nat) :
    (d.chgInputs ohms).cstate = d.cstate ∧ (d.chgInputs ohms).fld (pg .chg) F.CHG.PP_OHMS = min ohms 65535 ∧
      (d.chgInputs ohms).ppNow = ppRating (d.fld (pg .chg) F.CHG.CFG_PP_MODE) ohms := by
  have hmode : d.chgAged.chgMeans.fld (pg .chg) F.CHG.CFG_PP_MODE = d.fld (pg .chg) F.CHG.CFG_PP_MODE := fld_chgMeans _ (by decide)
  obtain ⟨hohms, hrating⟩ := d.chgAged.chgMeans.chgProximity_spec ohms
  rw [hmode] at hrating
  refine ⟨?_, (d.fld_chgInputs_kept ohms (by decide)).trans hohms, (d.fld_chgInputs_kept ohms (by decide)).trans hrating⟩
  rw [cstate, fld_chgInputs_kept _ _ (by decide), fld_chgProximity_apart _ _ (by decide), fld_chgMeans _ (by decide)]
  rfl

theorem session_chgInputs (d : Dev) (ohms : Nat) :
    (d.chgInputs ohms).chg.session = (d.chg.s2T + 1, d.chg.watch, d.chg.reacted, d.chg.latched) := by
  rw [chgInputs_eq, session_chgLimit, session_chgTerm, session_chgZones, chg_chgProximity, session_chgMeans]
  rfl

end Dev
end Sys2Proof.Machine
end

section
/-!
PROOFS. The pilot and the battery's limits (R254, R255, R259): the three forms that a period of the pilot takes, the state taken from a
plateau, DUTY, and the writes of BMS_IN.
-/
namespace Sys2Proof.Machine
namespace Dev

/-! ## The state of the pilot (R254) -/

theorem fld_setPilot_apart (d : Dev) (st : Nat) {f : Fld} (h : FieldsApart f F.CHG.PILOT_STATE ∧ f.ofs ≠ R.CHG.PILOT_ERRS) :
    (d.setPilot st).fld (pg .chg) f = d.fld (pg .chg) f := by
  obtain ⟨hstate, herrs⟩ := h
  simp only [setPilot, fld_ite, fld_bump_apart _ herrs, fld_setFld_apart _ _ hstate, ite_self]

/-- The state is taken as it comes. -/
theorem pilot_setPilot (d : Dev) {st : Nat} (h : st < 8) : (d.setPilot st).pilot = st := by
  unfold setPilot
  split
  case isTrue heq => exact heq.symm
  case isFalse =>
    rw [pilot, fld_ite, fld_bump_apart _ (by decide), ite_self, fld_setFld_self _ _ _ _ (by decide)]
    exact Nat.mod_eq_of_lt h

/-- PILOT_ERRS counts the entries into E, F and INVALID. -/
theorem pilotErrs_setPilot (d : Dev) (st : Nat) : (d.setPilot st).reg (pg .chg) R.CHG.PILOT_ERRS =
    if st ≠ d.pilot ∧ 4 ≤ st then d.reg (pg .chg) R.CHG.PILOT_ERRS + 1 else d.reg (pg .chg) R.CHG.PILOT_ERRS := by
  have hstate : (d.setFld (pg .chg) F.CHG.PILOT_STATE st).reg (pg .chg) R.CHG.PILOT_ERRS = d.reg (pg .chg) R.CHG.PILOT_ERRS :=
    reg_setFld_apart d _ (by decide)
  by_cases hsame : st = d.pilot
  · rw [setPilot, if_pos hsame, if_neg fun h => h.1 hsame]
  · simp only [setPilot, hsame, if_false, reg_ite, reg_bump_self, hstate, ne_eq, not_false_eq_true, true_and]
    rfl

theorem pilotStateChange_held {d : Dev} (hheld : 3 ≤ d.chg.candRun ∨ 3000000 ≤ d.chg.candNs) (hstate : d.chg.cand ≤ 6) :
    d.pilotStateChange = d.setPilot d.chg.cand := if_pos ⟨hheld, hstate⟩

theorem pilotStateChange_brief {d : Dev} (hperiods : d.chg.candRun < 3) (htime : d.chg.candNs < 3000000) : d.pilotStateChange = d :=
  if_neg fun h => by omega

/-! ## DUTY (R255) -/

/-- The periods towards the mean, forgotten. -/
def periodsForgotten (d : Dev) : Dev := d.modChg (fun c => { c with perOn := 0, perTot := 0, perN := 0 })

/-- DUTY of the mean of the periods, with the error of the measurement. -/
def dutyMeasured (c : ChgS) (err : Int) : Int := clampI ((10000 * c.perOn / c.perTot : Nat) + err) 0 10000

theorem dutyUpdate_few {d : Dev} (h : d.chg.perN < d.fld (pg .chg) F.CHG.PILOT_CFG_AVG) (err : Int) : d.dutyUpdate err = d :=
  if_pos (.inl h)

theorem dutyUpdate_full {d : Dev} (hn : d.fld (pg .chg) F.CHG.PILOT_CFG_AVG ≤ d.chg.perN) (htot : d.chg.perTot ≠ 0) {err : Int}
    (herr : clampI err (-5) 5 = err) :
    d.dutyUpdate err = (d.periodsForgotten.setFld (pg .chg) F.CHG.PILOT_DUTY (dutyMeasured d.chg err).toNat).chgTerm := by
  have hdue : ¬ (d.chg.perN < d.fld (pg .chg) F.CHG.PILOT_CFG_AVG ∨ d.chg.perTot = 0) := by omega
  simp only [dutyUpdate, if_neg hdue, herr]
  rfl

theorem dutyUpdate_full_spec {d : Dev} (hn : d.fld (pg .chg) F.CHG.PILOT_CFG_AVG ≤ d.chg.perN) (htot : d.chg.perTot ≠ 0) {err : Int}
    (herr : clampI err (-5) 5 = err) :
    (d.dutyUpdate err).fld (pg .chg) F.CHG.PILOT_DUTY = (dutyMeasured d.chg err).toNat ∧ (d.dutyUpdate err).chg.perN = 0 := by
  have hfits : (dutyMeasured d.chg err).toNat < 2 ^ 14 := by
    have hle := (clampI_between (by decide : (0 : Int) ≤ 10000) ((10000 * d.chg.perOn / d.chg.perTot : Nat) + err)).2
    unfold dutyMeasured
    omega
  rw [dutyUpdate_full hn htot herr]
  refine ⟨?duty, ?periods⟩
  case duty =>
    rw [fld_chgTerm_apart _ (by decide), fld_setFld_self _ _ _ _ (by decide)]
    exact Nat.mod_eq_of_lt hfits
  case periods =>
    rw [perN_chgTerm]
    rfl

/-! ## A period of the pilot (R254, R255) -/

/-- The plateaus of a period in PILOT_LEVEL. -/
def levelsShown (d : Dev) (high low : Int) : Dev :=
  d.setReg (pg .chg) R.CHG.PILOT_LEVEL (BitVec.ofNat 32 (ofSigned 16 high + 65536 * ofSigned 16 low))

/-- A stretch at one level adds to the time of its plateau. -/
def flatSeen (d : Dev) (level : Int) (hi : Bool) (t : Nat) : Dev :=
  d.modChg (fun c => { c with
    cand := plateauState level, candRun := 0, candNs := if c.cand = plateauState level then c.candNs + t else t,
    flatHigh := if hi then c.flatHigh + t else 0, flatLow := if hi then 0 else c.flatLow + t })

/-- No PWM after a long stretch at one level. -/
def flatJudged (d : Dev) : Dev :=
  if 2000000 ≤ d.chg.flatHigh then (d.setFlag (pg .chg) F.CHG.PILOT_PWM false).setFld (pg .chg) F.CHG.PILOT_DUTY 10000
  else if 1030000 < d.chg.flatLow then d.setFlag (pg .chg) F.CHG.PILOT_PWM false
  else d

/-- A period with an edge adds to the run of its plateau. -/
def edgeSeen (d : Dev) (high : Int) : Dev :=
  d.modChg (fun c => { c with
    cand := plateauState high, candRun := if c.cand = plateauState high then c.candRun + 1 else 1, candNs := 0,
    flatHigh := 0, flatLow := 0 })

/-- A period that counts as PWM. -/
def pwmSeen (d : Dev) (on total : Nat) : Dev :=
  (d.setFlag (pg .chg) F.CHG.PILOT_PWM true).modChg
    (fun c => { c with perOn := c.perOn + on, perTot := c.perTot + total, perN := c.perN + 1 })

/-- A period that is none of PWM. -/
def pwmLost (d : Dev) : Dev :=
  ((d.setFlag (pg .chg) F.CHG.PILOT_PWM false).modChg (fun c => { c with
    perOn := 0, perTot := 0, perN := 0, cand := 7, candRun := 0, candNs := 0 })).setPilot 6

theorem cpgenCheck_noVehicle {d : Dev} (h : d.chg.v2v = false) (low : Int) (t : Nat) : d.cpgenCheck low t = d :=
  if_pos (.inl (by rw [h]; rfl))

theorem chg_setPilot (d : Dev) (st : Nat) : (d.setPilot st).chg = d.chg := by
  simp only [setPilot, chg_ite, bump_frame, setFld_frame, ite_self]

theorem chg_flatJudged (d : Dev) : d.flatJudged.chg = d.chg := by
  simp only [flatJudged, chg_ite, setFlag_frame, setFld_frame, ite_self]

/-- No form of a period ends the supply of a vehicle, or begins one. -/
theorem v2v_flat (d : Dev) (level : Int) (hi : Bool) (t : Nat) :
    (d.flatSeen level hi t).flatJudged.periodsForgotten.chg.v2v = d.chg.v2v := by
  have hjudged := congrArg ChgS.v2v (d.flatSeen level hi t).chg_flatJudged
  exact hjudged
theorem v2v_pwmLost (d : Dev) : d.pwmLost.chg.v2v = d.chg.v2v := by
  rw [pwmLost, chg_setPilot]
  rfl

theorem not_powerless {d : Dev} (hlive : d.busLive = true) : ¬ (d.state < 2 ∨ 5 < d.state) := by
  simp only [busLive, Bool.and_eq_true, decide_eq_true_eq] at hlive
  omega

/-- A stretch without an edge, where no vehicle is supplied. -/
theorem pilotPeriod_flat {d : Dev} (hlive : d.busLive = true) (hv2v : d.chg.v2v = false) (high low : Int) {on total : Nat}
    (h : on = 0 ∨ on = total) : d.pilotPeriod high low on total =
      ((d.levelsShown high low).flatSeen high (on != 0) total).flatJudged.periodsForgotten := by
  simp only [pilotPeriod, if_neg (not_powerless hlive), if_pos h]
  exact cpgenCheck_noVehicle (d := ((d.levelsShown high low).flatSeen high (on != 0) total).flatJudged.periodsForgotten)
    ((v2v_flat _ _ _ _).trans hv2v) _ _

/-- A period whose length and low plateau are right. -/
abbrev SoundPeriod (low : Int) (total : Nat) : Prop := 970000 ≤ total ∧ total ≤ 1030000 ∧ low < -1100

theorem pilotPeriod_sound {d : Dev} (hlive : d.busLive = true) (hv2v : d.chg.v2v = false) (high : Int) {low : Int} {on total : Nat}
    (hedge : ¬ (on = 0 ∨ on = total)) (hsound : SoundPeriod low total) :
    d.pilotPeriod high low on total = ((d.levelsShown high low).edgeSeen high).pwmSeen on total := by
  simp only [pilotPeriod, if_neg (not_powerless hlive), if_neg hedge, if_pos hsound]
  exact cpgenCheck_noVehicle (d := ((d.levelsShown high low).edgeSeen high).pwmSeen on total) hv2v _ _

theorem pilotPeriod_unsound {d : Dev} (hlive : d.busLive = true) (hv2v : d.chg.v2v = false) (high : Int) {low : Int} {on total : Nat}
    (hedge : ¬ (on = 0 ∨ on = total)) (hunsound : ¬ SoundPeriod low total) :
    d.pilotPeriod high low on total = ((d.levelsShown high low).edgeSeen high).pwmLost := by
  simp only [pilotPeriod, if_neg (not_powerless hlive), if_neg hedge, if_neg hunsound]
  exact cpgenCheck_noVehicle (d := ((d.levelsShown high low).edgeSeen high).pwmLost) ((v2v_pwmLost _).trans hv2v) _ _

/-- A field that no form of a period shows in, but for the plateaus. -/
abbrev KeptByPeriods (f : Fld) : Prop :=
  FieldsApart f F.CHG.PILOT_PWM ∧ FieldsApart f F.CHG.PILOT_DUTY ∧ FieldsApart f F.CHG.PILOT_STATE ∧ f.ofs ≠ R.CHG.PILOT_ERRS

theorem fld_flatJudged_apart (d : Dev) {f : Fld} (hpwm : FieldsApart f F.CHG.PILOT_PWM) (hduty : FieldsApart f F.CHG.PILOT_DUTY) :
    d.flatJudged.fld (pg .chg) f = d.fld (pg .chg) f := by
  simp only [flatJudged, fld_ite, fld_setFld_apart _ _ hduty, fld_setFlag_apart _ _ hpwm, ite_self]

/-- Whatever form it takes, a period shows its plateaus, and leaves memory and keys. -/
theorem pilotPeriod_levels {d : Dev} (hlive : d.busLive = true) (hv2v : d.chg.v2v = false) (high low : Int) (on total : Nat) :
    (d.pilotPeriod high low on total).mem = d.mem ∧
      ∀ f, KeptByPeriods f → (d.pilotPeriod high low on total).fld (pg .chg) f = (d.levelsShown high low).fld (pg .chg) f := by
  by_cases hflat : on = 0 ∨ on = total
  case pos =>
    rw [pilotPeriod_flat hlive hv2v high low hflat]
    refine ⟨by simp [periodsForgotten, flatJudged, flatSeen, levelsShown], fun f ⟨hpwm, hduty, _, _⟩ => ?_⟩
    rw [periodsForgotten, fld_modChg, fld_flatJudged_apart _ hpwm hduty]
    rfl
  case neg =>
    by_cases hsound : SoundPeriod low total
    case pos =>
      rw [pilotPeriod_sound hlive hv2v high hflat hsound]
      refine ⟨by simp [pwmSeen, edgeSeen, levelsShown], fun f ⟨hpwm, _, _, _⟩ => ?_⟩
      rw [pwmSeen, fld_modChg, fld_setFlag_apart _ _ hpwm]
      rfl
    case neg =>
      rw [pilotPeriod_unsound hlive hv2v high hflat hsound]
      refine ⟨by simp [pwmLost, edgeSeen, levelsShown], fun f ⟨hpwm, _, hstate, herrs⟩ => ?_⟩
      rw [pwmLost, fld_setPilot_apart _ _ ⟨hstate, herrs⟩, fld_modChg, fld_setFlag_apart _ _ hpwm]
      rfl

/-- PILOT_LEVEL holds both plateaus in two's complement. -/
theorem levelsShown_spec (d : Dev) (high low : BitVec 16) :
    (d.levelsShown high.toInt low.toInt).fld (pg .chg) F.CHG.PILOT_LEVEL_HIGH = high.toNat ∧
      (d.levelsShown high.toInt low.toInt).fld (pg .chg) F.CHG.PILOT_LEVEL_LOW = low.toNat := by
  have hhigh := high.isLt
  have hlow := low.isLt
  rw [levelsShown, fld_setReg_self _ _ R.CHG.PILOT_LEVEL _ _ rfl, fld_setReg_self _ _ R.CHG.PILOT_LEVEL _ _ rfl, ofSigned_toInt,
    ofSigned_toInt, BitVec.toNat_ofNat]
  simp only [bitsOf, F.CHG.PILOT_LEVEL_HIGH, F.CHG.PILOT_LEVEL_LOW, Nat.shiftRight_eq_div_pow]
  omega

/-- A period that counts as PWM shows so, and adds to the mean. -/
theorem pwmSeen_spec (d : Dev) (on total : Nat) : (d.pwmSeen on total).flag (pg .chg) F.CHG.PILOT_PWM = true ∧
    (d.pwmSeen on total).chg.perOn = d.chg.perOn + on ∧ (d.pwmSeen on total).chg.perTot = d.chg.perTot + total ∧
    (d.pwmSeen on total).chg.perN = d.chg.perN + 1 := by
  refine ⟨?_, rfl, rfl, rfl⟩
  rw [pwmSeen, flag_modChg, flag_setFlag_self _ _ _ _ (by decide) (by decide)]

/-- A period that does not count is INVALID. -/
theorem pwmLost_spec (d : Dev) : d.pwmLost.flag (pg .chg) F.CHG.PILOT_PWM = false ∧ d.pwmLost.pilot = 6 := by
  refine ⟨?_, pilot_setPilot _ (by decide)⟩
  rw [pwmLost, flag_of_fld (fld_setPilot_apart _ _ (by decide)), flag_modChg, flag_setFlag_self _ _ _ _ (by decide) (by decide)]

/-- A stretch without an edge leaves the state to PILOT_STATE_CHANGE. -/
theorem pilot_flatJudged (d : Dev) : d.flatJudged.pilot = d.pilot := fld_flatJudged_apart d (by decide) (by decide)

theorem flatJudged_high {d : Dev} (h : 2000000 ≤ d.chg.flatHigh) :
    d.flatJudged.flag (pg .chg) F.CHG.PILOT_PWM = false ∧ d.flatJudged.fld (pg .chg) F.CHG.PILOT_DUTY = 10000 := by
  rw [flatJudged, if_pos h, flag_of_fld (fld_setFld_apart _ _ (by decide)), flag_setFlag_self _ _ _ _ (by decide) (by decide),
    fld_setFld_self _ _ _ _ (by decide)]
  exact ⟨rfl, rfl⟩

theorem flatJudged_low {d : Dev} (hhigh : d.chg.flatHigh = 0) (h : 1030000 < d.chg.flatLow) :
    d.flatJudged.flag (pg .chg) F.CHG.PILOT_PWM = false := by
  rw [flatJudged, if_neg (by omega), if_pos h, flag_setFlag_self _ _ _ _ (by decide) (by decide)]

/-! ## BMS_IN (R259) -/

/-- The checks of a write of BMS_IN. -/
abbrev BmsGood (d : Dev) (w : Word) : Prop :=
  let n := d.fld (pg .chg) F.CHG.CFG_BMS_UNIT
  let lo := toSigned 16 w.toNat
  let hi := toSigned 16 (w.toNat / 65536)
  bitAt d.chg.bmsDone n = true ∧ d.flag (pg .check n) F.CHECK.VERDICT_CRC_OK = true ∧ d.fld (pg .check n) F.CHECK.VERDICT_AC ≤ 2 ∧
    lo ≤ hi ∧ -500 ≤ lo ∧ hi ≤ 1500

theorem bmsWrite_unasked {d : Dev} (h : d.flag (pg .chg) F.CHG.CFG_BMS_REQ = false) (w : Word) :
    d.bmsWrite w = d.setReg (pg .chg) R.CHG.BMS_IN w := if_neg (by rw [h]; decide)

theorem bmsWrite_good {d : Dev} (h : d.flag (pg .chg) F.CHG.CFG_BMS_REQ = true) {w : Word} (hgood : d.BmsGood w) : d.bmsWrite w =
    ((d.setReg (pg .chg) R.CHG.BMS_IN w).modChg (fun c => { c with bmsAge := some 0, bmsDone := 0 })).bump (pg .chg) R.CHG.BMS_OK :=
  (if_pos h).trans (if_pos hgood)

theorem bmsWrite_bad {d : Dev} (h : d.flag (pg .chg) F.CHG.CFG_BMS_REQ = true) {w : Word} (hbad : ¬ d.BmsGood w) :
    d.bmsWrite w = (d.bump (pg .chg) R.CHG.BMS_BAD).event (pg .chg) F.CHG.EVENT_BMS_REFUSED :=
  (if_pos h).trans (if_neg hbad)

/-- An accepted value is stored and counted, and the verdict used up. -/
theorem bmsWrite_good_spec {d : Dev} (h : d.flag (pg .chg) F.CHG.CFG_BMS_REQ = true) {w : Word} (hgood : d.BmsGood w) :
    (d.bmsWrite w).reg (pg .chg) R.CHG.BMS_IN = w ∧
      (d.bmsWrite w).reg (pg .chg) R.CHG.BMS_OK = d.reg (pg .chg) R.CHG.BMS_OK + 1 ∧
      (d.bmsWrite w).chg.bmsAge = some 0 ∧ (d.bmsWrite w).chg.bmsDone = 0 := by
  rw [bmsWrite_good h hgood, reg_bump_other _ _ _ _ _ _ _ (by decide), reg_modChg, reg_setReg_self, reg_bump_self, reg_modChg,
    reg_setReg_apart _ _ (by decide)]
  exact ⟨rfl, rfl, rfl, rfl⟩

theorem chgWrite_bmsIn (d : Dev) (m : Master) (w : Word) (f : WriteFacts) :
    d.blockWrite m .chg 0 R.CHG.BMS_IN w f = d.bmsWrite w := rfl

end Dev

/-- A permitted write of BMS_IN runs as the charge manager's. -/
theorem Runs.bmsIn {d : Dev} {m : Master} (h : d.CanWrite m .chg 0 R.CHG.BMS_IN) (w : Word) :
    Runs (.bmsInWrite m w) d (d.bmsWrite w).done :=
  Runs.block (by decide) (by decide) h (by decide) (fun _ => rfl) (d.chgWrite_bmsIn m w {})

/-- Settles O32: by the form that a period takes, the run of its plateau, and the checks of BMS_IN. -/
theorem pilotAndBatteryRun : Obligations.PilotAndBatteryRun := by
  unfold Obligations.PilotAndBatteryRun
  intro d m p
  refine ⟨?period, ?state, ?brief, ?duty, ?few, ?bms⟩
  case period =>
    intro hlive hv2v hi lo on tot
    have hne : ∀ {n : Nat}, on ≠ tot → n = on.toNat → n ≠ tot.toNat := fun h hn heq => h (BitVec.eq_of_toNat_eq (hn.symm.trans heq))
    obtain ⟨hmem, hkept⟩ := Dev.pilotPeriod_levels hlive hv2v hi.toInt lo.toInt on.toNat tot.toNat
    obtain ⟨hhigh, hlow⟩ := d.levelsShown_spec hi lo
    rw [← hkept _ (by decide)] at hhigh hlow
    refine ⟨_, Runs.dev (fun _ => rfl) rfl, hmem, Dev.pilotPeriod_keys _ _ _ _ _, hhigh, hlow, ?pwm, ?lost, ?flat, ?flatHigh, ?flatLow⟩
    case pwm =>
      intro hon hoff hmin hmax hplateau
      have hedge : ¬ (on.toNat = 0 ∨ on.toNat = tot.toNat) := not_or.mpr ⟨hon, hne hoff rfl⟩
      rw [Dev.pilotPeriod_sound hlive hv2v _ hedge ⟨hmin, hmax, hplateau⟩]
      exact Dev.pwmSeen_spec _ _ _
    case lost =>
      intro hon hoff hplateau
      have hedge : ¬ (on.toNat = 0 ∨ on.toNat = tot.toNat) := not_or.mpr ⟨hon, hne hoff rfl⟩
      rw [Dev.pilotPeriod_unsound hlive hv2v _ hedge fun h => absurd h.2.2 (Int.not_lt.mpr hplateau)]
      exact Dev.pwmLost_spec _
    case flat =>
      intro hflat
      rw [Dev.pilotPeriod_flat hlive hv2v _ _ (hflat.imp_right (congrArg _))]
      exact ⟨(Dev.pilot_flatJudged _).trans (d.fld_setReg_apart _ (by decide)), rfl⟩
    case flatHigh =>
      intro hon hflat hlong
      rw [Dev.pilotPeriod_flat hlive hv2v _ _ (.inr (congrArg _ hflat))]
      refine Dev.flatJudged_high ?_
      show 2000000 ≤ if (on.toNat != 0) = true then d.chg.flatHigh + tot.toNat else 0
      rwa [if_pos (bne_iff_ne.mpr hon)]
    case flatLow =>
      intro hoff hlong
      rw [Dev.pilotPeriod_flat hlive hv2v _ _ (.inl hoff), hoff]
      exact Dev.flatJudged_low rfl hlong
  case state =>
    intro hlive hheld hstate
    have hrun : Runs .pilotStateChange d (d.setPilot d.chg.cand) := Runs.live hlive (fun _ => rfl) (Dev.pilotStateChange_held hheld hstate)
    exact ⟨_, hrun, d.pilot_setPilot (by omega), d.pilotErrs_setPilot _, (d.setPilot_store _).1, (d.setPilot_store _).2⟩
  case brief => exact fun hlive hperiods htime => Runs.live hlive (fun _ => rfl) (Dev.pilotStateChange_brief hperiods htime)
  case duty =>
    intro err hlive hn htot
    have herr : clampI ((err.val : Int) - 5) (-5) 5 = (err.val : Int) - 5 := by
      have := err.isLt
      unfold clampI
      split_ifs <;> omega
    obtain ⟨hduty, hperiods⟩ := Dev.dutyUpdate_full_spec hn htot herr
    rw [Dev.dutyMeasured, ← Int.add_sub_assoc] at hduty
    exact ⟨_, Runs.live hlive (fun _ => rfl) rfl, hduty, hperiods, (d.dutyUpdate_store _).1, (d.dutyUpdate_store _).2⟩
  case few => exact fun err hlive hn => Runs.live hlive (fun _ => rfl) (Dev.dutyUpdate_few hn _)
  case bms =>
    intro w h u lo hi good
    refine ⟨fun hreq => ?unasked, fun hreq hgood => ?good, fun hreq hbad => ?bad⟩
    case unasked => exact Dev.bmsWrite_unasked hreq w ▸ Runs.bmsIn h w
    case bad => exact Dev.bmsWrite_bad hreq hbad ▸ Runs.bmsIn h w
    case good =>
      obtain ⟨hin, hok, hage, hdone⟩ := Dev.bmsWrite_good_spec hreq hgood
      obtain ⟨hmem, hkeys⟩ := d.bmsWrite_store w
      exact (Runs.bmsIn h w).leaves (fun _ ht => ht) ⟨hin, hok, hage, hdone, hmem, hkeys⟩

end Sys2Proof.Machine
end

section
/-!
PROOFS. A session of the charge manager (R247, R248, R250, R251, R253, R264, R266, R268, R275): ENABLE, the entry of a step, the limits that
act once their time is reached, and what a tick decides.
-/
namespace Sys2Proof.Machine
namespace Dev

/-! ## ENABLE (R275) -/

/-- A write of CTRL without SOFT_RESET is the charge manager's ENABLE, which no key guards. -/
theorem regWrite_chgCtrl (d : Dev) (m : Master) (on : Bool) :
    d.regWrite m .chg 0 R.HDR.CTRL (BitVec.ofNat 32 (b2n on)) {} = d.enableWrite m .chg 0 on [] := by
  have hkey : pageKey (pg .chg 0) = none := by decide +kernel
  have henable : ∀ on, bitAt (BitVec.ofNat 32 (b2n on)).toNat 0 = on := by decide
  have hsoft : ∀ on, bitAt (BitVec.ofNat 32 (b2n on)).toNat 1 = false := by decide
  rw [regWrite_header (by decide) (by decide) _ _ _ (by decide)]
  show d.ctrlWrite m .chg 0 (BitVec.ofNat 32 (b2n on)) [] = _
  simp only [ctrlWrite, henable, hsoft, hkey, Bool.false_eq_true, if_false]

/-- The owner of the key of S2 is the charge manager's (R252). -/
abbrev s2Key (d : Dev) : Bool := d.keyTag 3 == 0x5023

/-- The battery's unit is enabled. -/
abbrev bmsUnitOn (d : Dev) : Bool := d.flag (pg .check (d.fld (pg .chg) F.CHG.CFG_BMS_UNIT)) F.HDR.CTRL_ENABLE

/-- The scales and the gain are not 0, the groups differ and the edges of the zones ascend. -/
abbrev SoundScales (d : Dev) : Prop :=
  d.chgIn ≠ d.chgOut ∧ d.fld (pg .chg) F.CHG.SCALE_I_SCALE ≠ 0 ∧ d.fld (pg .chg) F.CHG.SCALE_V_SCALE ≠ 0 ∧
    d.fld (pg .chg) F.CHG.REF_GAIN_GAIN ≠ 0 ∧
    ascends ((List.range 7).map (fun i => d.sfld (pg .chg) (F.CHG.ZONE_EDGE_EDGE.at i))) = true

/-- A sound configuration whose temperatures come from the battery alone. -/
theorem chgEnable_sound {d : Dev} (hoff : d.flag (pg .chg) F.HDR.CTRL_ENABLE = false) (hscales : d.SoundScales)
    (hreq : d.flag (pg .chg) F.CHG.CFG_BMS_REQ = true) (hntc : ∀ k < 4, (d.ntcSlot k).2.2 = false) {key unit : Bool}
    (hkey : key = true) (hunit : unit = true) : d.chgEnable true key unit = d.setFld (pg .chg) F.HDR.CTRL_ENABLE 1 := by
  obtain ⟨hgroups, hi, hv, hgain, hedges⟩ := hscales
  have hnone : numbers 4 (fun k => (d.ntcSlot k).2.2) = [] :=
    List.filter_eq_nil_iff.mpr fun k hk => by rw [hntc k (List.mem_range.mp hk)]; decide
  simp only [chgEnable, hoff, hreq, hnone, hkey, hunit, hedges, bne_iff_ne.mpr hgroups, bne_iff_ne.mpr hi, bne_iff_ne.mpr hv, bne_iff_ne.mpr hgain,
    List.isEmpty_nil, Bool.true_or, Bool.true_and, Bool.false_eq_true, if_true, if_false]

/-- A configuration with one group for both directions, without a gain or without the key of S2. -/
theorem chgEnable_unsound {d : Dev} (hoff : d.flag (pg .chg) F.HDR.CTRL_ENABLE = false) {key : Bool}
    (hbad : d.chgIn = d.chgOut ∨ d.fld (pg .chg) F.CHG.REF_GAIN_GAIN = 0 ∨ key = false) (unit : Bool) :
    d.chgEnable true key unit = d.event (pg .chg) F.CHG.EVENT_CFG_BAD := by
  obtain hgroups | hgain | rfl := hbad
  · simp only [chgEnable, hoff, hgroups, bne_self_eq_false, Bool.false_and, Bool.false_eq_true, if_true, if_false]
  · simp only [chgEnable, hoff, hgain, bne_self_eq_false, Bool.and_false, Bool.false_and, Bool.false_eq_true, if_true, if_false]
  · simp only [chgEnable, hoff, Bool.and_false, Bool.false_eq_true, if_true, if_false]

/-- ENABLE = 0 ends in IDLE. -/
theorem chgEnable_end {d : Dev} (hon : d.flag (pg .chg) F.HDR.CTRL_ENABLE = true) (key unit : Bool) :
    d.chgEnable false key unit = (d.setFld (pg .chg) F.HDR.CTRL_ENABLE 0).enterIdle 0x14 := by
  simp only [chgEnable, hon, Bool.false_eq_true, if_true, if_false]

theorem chgEnable_end_spec {d : Dev} (hon : d.flag (pg .chg) F.HDR.CTRL_ENABLE = true) (key unit : Bool) :
    (d.chgEnable false key unit).flag (pg .chg) F.HDR.CTRL_ENABLE = false ∧ (d.chgEnable false key unit).cstate = 0 ∧
      (d.chgEnable false key unit).fld (pg .chg) F.CHG.CSTATE_CAUSE = 0x14 := by
  rw [chgEnable_end hon]
  refine ⟨?off, cstate_enterIdle _ _, cause_enterIdle _ (by decide)⟩
  rw [flag_of_fld (fld_enterIdle_ended _ _ (by decide)), flag_of_fld (fld_endNow_apart _ (by decide)), flag_setFld_self _ _ _ _ (by decide)]
  rfl

/-! ## The profile (R263, R264) -/

/-- An entry comes from the registers of the profile alone. -/
theorem profileEntry_congr {d e : Dev} (h : ∀ o, 0x400 ≤ o → o < 0x600 → e.reg (pg .chg) o = d.reg (pg .chg) o) {z s : Nat} (hz : z < 8)
    (hs : s < 8) : e.profileEntry z s = d.profileEntry z s := by
  have hlow := h (R.CHG.PROFILE + 64 * z + 8 * s) (by simp only [R.CHG.PROFILE]; omega) (by simp only [R.CHG.PROFILE]; omega)
  have hhigh := h (R.CHG.PROFILE + 64 * z + 8 * s + 4) (by simp only [R.CHG.PROFILE]; omega) (by simp only [R.CHG.PROFILE]; omega)
  simp only [profileEntry, hlow, hhigh]

/-- An entry in use. -/
def entryTaken (d : Dev) (e : ChgEntry) : Dev := d.modChg (fun c => { c with entry := e, conf := 0 })

theorem fld_entryTaken (d : Dev) (e : ChgEntry) (f : Fld) : (d.entryTaken e).fld (pg .chg) f = d.fld (pg .chg) f := rfl
theorem reg_entryTaken (d : Dev) (e : ChgEntry) (o : Nat) : (d.entryTaken e).reg (pg .chg) o = d.reg (pg .chg) o := rfl
theorem cstate_entryTaken (d : Dev) (e : ChgEntry) : (d.entryTaken e).cstate = d.cstate := d.fld_entryTaken e _
theorem entry_entryTaken (d : Dev) (e : ChgEntry) : (d.entryTaken e).chg.entry = e := rfl
theorem mem_entryTaken (d : Dev) (e : ChgEntry) : (d.entryTaken e).mem = d.mem := rfl

theorem takeEntry_sound (d : Dev) {e : ChgEntry} (hcurrent : e.iLim ≠ 0) (hsafe : e.safe ≠ 0) (s : Nat) :
    d.takeEntry e s = d.entryTaken e := if_neg (not_or.mpr ⟨hcurrent, hsafe⟩)

theorem reg_resetStepTimer_apart (d : Dev) {o : Nat} (h : o ≠ R.CHG.STEP_EQ ∧ o ≠ R.CHG.STEP_RT) :
    d.resetStepTimer.reg (pg .chg) o = d.reg (pg .chg) o := by
  rw [resetStepTimer, reg_modChg, reg_setReg_apart _ _ h.2, reg_setReg_apart _ _ h.1]

/-- The step timer counts from 0. -/
theorem resetStepTimer_spec (d : Dev) :
    d.resetStepTimer.reg (pg .chg) R.CHG.STEP_EQ = 0 ∧ d.resetStepTimer.reg (pg .chg) R.CHG.STEP_RT = 0 := by
  rw [resetStepTimer, reg_modChg, reg_modChg, reg_setReg_apart _ _ (by decide), reg_setReg_self, reg_setReg_self]
  exact ⟨rfl, rfl⟩

/-- A step is entered, before its entry is taken. -/
def stepEntered (d : Dev) (s : Nat) : Dev :=
  ((d.setFld (pg .chg) F.CHG.CSTATE_STEP s).chgEnter 3 0).event (pg .chg) F.CHG.EVENT_STEP_CHANGE

theorem reg_stepEntered_apart (d : Dev) (s : Nat) {o : Nat} (h : o ≠ R.HDR.EVENT ∧ o ≠ R.CHG.CSTATE) :
    (d.stepEntered s).reg (pg .chg) o = d.reg (pg .chg) o := by
  rw [stepEntered, reg_event_apart (f := F.CHG.EVENT_STEP_CHANGE) _ h.1, reg_chgEnter_apart _ _ _ h,
    reg_setFld_apart (f := F.CHG.CSTATE_STEP) _ _ h.2]

theorem stepEntered_spec (d : Dev) {s : Nat} (hs : s < 8) : (d.stepEntered s).cstate = 3 ∧
    (d.stepEntered s).fld (pg .chg) F.CHG.CSTATE_STEP = s ∧ (d.stepEntered s).chgZone = d.chgZone := by
  refine ⟨?state, ?step, ?zone⟩
  case state =>
    rw [cstate, stepEntered, fld_event_apart _ (by decide)]
    exact cstate_chgEnter _ (by decide) _
  case step =>
    rw [stepEntered, fld_event_apart _ (by decide), fld_chgEnter_apart _ _ _ (by decide), fld_setFld_self _ _ _ _ (by decide)]
    exact Nat.mod_eq_of_lt hs
  case zone =>
    rw [chgZone, stepEntered, fld_event_apart _ (by decide), fld_chgEnter_apart _ _ _ (by decide), fld_setFld_apart _ _ (by decide)]
    rfl

theorem chgZone_lt (d : Dev) : d.chgZone < 8 := bitsOf_lt _ _ _

/-- A step with a current and a time takes its entry. -/
theorem enterStep_sound {d : Dev} {s : Nat} (hs : s < 8) (hcurrent : (d.profileEntry d.chgZone s).iLim ≠ 0)
    (hsafe : (d.profileEntry d.chgZone s).safe ≠ 0) :
    d.enterStep s = (d.stepEntered s).entryTaken (d.profileEntry d.chgZone s) := by
  have hentry : (d.stepEntered s).profileEntry (d.stepEntered s).chgZone s = d.profileEntry d.chgZone s := by
    rw [(d.stepEntered_spec hs).2.2]
    refine profileEntry_congr (fun o hlo hhi => d.reg_stepEntered_apart s ?_) d.chgZone_lt hs
    simp only [R.HDR.EVENT, R.CHG.CSTATE]
    omega
  rw [← hentry] at hcurrent hsafe ⊢
  exact takeEntry_sound _ hcurrent hsafe s

theorem profileEntry_resetStepTimer (d : Dev) {s : Nat} (hs : s < 8) :
    d.resetStepTimer.profileEntry d.resetStepTimer.chgZone s = d.profileEntry d.chgZone s := by
  have hzone : d.resetStepTimer.chgZone = d.chgZone := fld_of_reg (d.reg_resetStepTimer_apart (by decide))
  rw [hzone]
  refine profileEntry_congr (fun o hlo hhi => d.reg_resetStepTimer_apart ?_) d.chgZone_lt hs
  simp only [R.CHG.STEP_EQ, R.CHG.STEP_RT]
  omega

/-- The next step begins with its timer at 0 and its own entry. -/
theorem nextStep_spec {d : Dev} {s : Nat} (hs : s < 8) (hcurrent : (d.profileEntry d.chgZone s).iLim ≠ 0)
    (hsafe : (d.profileEntry d.chgZone s).safe ≠ 0) :
    (d.resetStepTimer.enterStep s).cstate = 3 ∧ (d.resetStepTimer.enterStep s).fld (pg .chg) F.CHG.CSTATE_STEP = s ∧
      (d.resetStepTimer.enterStep s).chg.entry = d.profileEntry d.chgZone s ∧
      (d.resetStepTimer.enterStep s).reg (pg .chg) R.CHG.STEP_EQ = 0 ∧ (d.resetStepTimer.enterStep s).reg (pg .chg) R.CHG.STEP_RT = 0 ∧
      (d.resetStepTimer.enterStep s).mem = d.mem := by
  have hentry := d.profileEntry_resetStepTimer hs
  obtain ⟨hstate, hstep, -⟩ := d.resetStepTimer.stepEntered_spec hs
  obtain ⟨hequal, hreal⟩ := d.resetStepTimer_spec
  rw [← hentry] at hcurrent hsafe ⊢
  rw [enterStep_sound hs hcurrent hsafe, cstate_entryTaken, fld_entryTaken, entry_entryTaken, reg_entryTaken, reg_entryTaken,
    mem_entryTaken, reg_stepEntered_apart _ _ (by decide), reg_stepEntered_apart _ _ (by decide)]
  exact ⟨hstate, hstep, rfl, hequal, hreal, by simp [stepEntered]⟩

/-- The entry of TOPOFF: the current of the last step, with the voltage and the times of the top-off. -/
def topoffEntry (d : Dev) : ChgEntry :=
  { d.chg.entry with vLim := d.fld (pg .chg) F.CHG.TOPOFF_CFG_V_LIM, exitVal := d.fld (pg .chg) F.CHG.TOPOFF_CFG_I_EXIT,
                     exit := 1, last := true, safe := d.fld (pg .chg) F.CHG.TOPOFF_TIME_SAFE }

theorem enterTopoff_sound {d : Dev} (hcurrent : d.chg.entry.iLim ≠ 0) (hsafe : d.fld (pg .chg) F.CHG.TOPOFF_TIME_SAFE ≠ 0) :
    d.enterTopoff.cstate = 4 ∧ d.enterTopoff.chg.entry = d.topoffEntry := by
  have htake : d.enterTopoff = (d.resetStepTimer.chgEnter 4 0).entryTaken d.topoffEntry :=
    takeEntry_sound (e := d.topoffEntry) _ hcurrent hsafe _
  rw [htake, cstate_entryTaken, entry_entryTaken]
  exact ⟨cstate_chgEnter _ (by decide) _, rfl⟩

/-! ## The exit of a step (R248, R266) -/

section Exit
variable {d : Dev} (hmet : d.chg.exitMet = true) (hexpire : d.chg.expire = 0) (hstep : d.cstate = 3)
include hmet hexpire hstep

theorem stepExit_next (hlast : d.chg.entry.last = false) :
    d.stepExit = d.resetStepTimer.enterStep (d.fld (pg .chg) F.CHG.CSTATE_STEP + 1) := by
  simp [stepExit, hmet, hexpire, hstep, hlast]

theorem stepExit_last (hlast : d.chg.entry.last = true) :
    d.stepExit = if d.fld (pg .chg) F.CHG.TOPOFF_CFG_V_LIM ≠ 0 then d.enterTopoff else d.enterDone 0x18 := by
  simp [stepExit, hmet, hexpire, hstep, hlast]

end Exit

theorem stepExit_unmet {d : Dev} (h : d.chg.exitMet = false) : d.stepExit = d := if_pos (.inl (by rw [h]; rfl))

/-! ## Limits of time (R247, R248, R250, R251, R253, R268) -/

/-- What the expiry of a safety timer raises. -/
def timerRaised (d : Dev) : Dev :=
  (d.bump (pg .chg) R.CHG.EXPIRIES).raise .chg 0 B.CHG.CHG_TIMER (if bitAt d.chg.expire 0 then 1 else 2)

theorem chgTimerExpiry_due {d : Dev} (h : d.chg.expire ≠ 0) :
    d.chgTimerExpiry = (d.timerRaised.chgSuspend 1).modChg (fun c => { c with expired := d.chg.expire, expire := 0 }) := if_neg h

theorem chgTimerExpiry_none {d : Dev} (h : d.chg.expire = 0) : d.chgTimerExpiry = d := if_pos h

theorem prechargeTimeout_due {d : Dev} (hstate : d.cstate = 2) (htime : d.fld (pg .chg) F.CHG.PRE_CFG_TIME * 100 ≤ d.chg.preT)
    (hlow : d.precharged = false) : d.prechargeTimeout =
      (d.raise .chg 0 B.CHG.CHG_PRECHARGE (ofSigned 16 d.chg.vLink)).enterChgFault 0x23 := by
  have hdue : d.prechargeDue = true := by simp [prechargeDue, hstate, htime, hlow]
  exact if_pos hdue

theorem orderlyEndTimeout_due {d : Dev} (hramp : d.chg.ending = .ramp)
    (htime : d.fld (pg .chg) F.CHG.PILOT_CFG_STOP_TIME ≤ d.chg.endT) : d.orderlyEndTimeout = d.endRamp := if_pos ⟨hramp, htime⟩

/-- The groups of the session are told to stop. -/
theorem endRamp_spec (d : Dev) : d.endRamp.chg.ending = .groups ∧
    ∀ g ∈ [d.chgIn, d.chgOut], d.endRamp.flag (pg .conv g) F.CONV.GROUP_CTRL_GO = false :=
  ⟨rfl, fun _ hg => go_each_clearGo hg d⟩

theorem gridWaitExpiry_due {d : Dev} (hstate : d.cstate = 1) (hclosed : d.s2Closed = true)
    (htime : d.fld (pg .chg) F.CHG.PILOT_CFG_GRID_WAIT * 100 ≤ d.chg.s2T) : d.gridWaitExpiry = d.chgSuspend 128 :=
  if_pos ⟨hstate, hclosed, htime⟩

theorem resumeDelayExpiry_due {d : Dev} (hstate : d.cstate = 6) (hmask : d.suspMask = 0)
    (htime : d.fld (pg .chg) F.CHG.EXIT_CFG_RESUME * 100 ≤ d.chg.zeroT) : d.resumeDelayExpiry = d.enterDetect :=
  if_pos ⟨hstate, hmask, htime⟩

/-- S2 was to close, and the pilot does not follow. -/
theorem s2Timeout_closing {d : Dev} (htime : 100 ≤ d.chg.s2T) (hwatch : d.chg.watch = .closing) (hpilot : d.pilot ≠ 2) :
    d.s2Timeout = d.s2Breach 1 := by
  have hdue : d.s2Due = 1 := by simp only [s2Due, if_neg (Nat.not_lt.mpr htime), hwatch, if_neg hpilot]
  rw [s2Timeout, hdue, if_neg (by decide)]

theorem s2Timeout_early {d : Dev} (h : d.chg.s2T < 100) : d.s2Timeout = d := if_pos (if_pos h)

/-! ## A tick (R245, R247–R249, R257, R276) -/

/-- A tick without ENABLE reads its inputs alone. -/
theorem chgTick_off {d : Dev} (hlive : d.busLive = true) (hoff : d.flag (pg .chg) F.HDR.CTRL_ENABLE = false) (ohms : Nat) :
    d.chgTick ohms = (d.chgInputs ohms).chgSee := by
  simp only [chgTick, if_neg (not_powerless hlive), hoff, Bool.false_eq_true, if_false]

/-- The note on the pilot that a tick leaves. -/
def pilotNoted (d : Dev) : Dev := d.modChg (fun c => { c with pilotBad := decide (3 ≤ d.pilot) && bitAt d.suspMask 5 })

theorem fld_pilotNoted (d : Dev) (f : Fld) : d.pilotNoted.fld (pg .chg) f = d.fld (pg .chg) f := rfl
theorem mem_pilotNoted (d : Dev) : d.pilotNoted.mem = d.mem := rfl

/-- A tick with ENABLE and with nothing left over from the last one decides on its own inputs. -/
theorem chgTick_on {d : Dev} (hlive : d.busLive = true) (hon : d.flag (pg .chg) F.HDR.CTRL_ENABLE = true) (hdue : d.chgDue = false)
    (ohms : Nat) : d.chgTick ohms = ((d.chgInputs ohms).chgSee.chgDecide.endTick).pilotNoted := by
  simp only [chgTick, if_neg (not_powerless hlive), hon, chgFlush, hdue, Bool.false_eq_true, if_true, if_false]
  rfl

/-- A tick takes what the device has done since the last one. -/
theorem chgSee_chg (d : Dev) : d.chgSee.chg.s2T = d.chg.s2T ∧ d.chgSee.chg.watch = d.chg.watch ∧
    d.chgSee.chg.seen.reacted = d.chg.reacted ∧ d.chgSee.chg.seen.latched = d.chg.latched := ⟨rfl, rfl, rfl, rfl⟩

/-- What the decisions of a tick see of the device and of the session. -/
theorem chgSee_chgInputs (d : Dev) (ohms : Nat) :
    (d.chgInputs ohms).chgSee.chg.s2T = d.chg.s2T + 1 ∧ (d.chgInputs ohms).chgSee.chg.watch = d.chg.watch ∧
      (d.chgInputs ohms).chgSee.chg.seen.reacted = d.chg.reacted ∧ (d.chgInputs ohms).chgSee.chg.seen.latched = d.chg.latched := by
  have h := d.session_chgInputs ohms
  obtain ⟨hs2T, hwatch, hreacted, hlatched⟩ := (d.chgInputs ohms).chgSee_chg
  simp only [ChgS.session, Prod.mk.injEq] at h
  rwa [hs2T, hwatch, hreacted, hlatched]

section Decisions
variable {d : Dev} (hwatch : d.chg.watch = .none)
include hwatch

theorem s2Step_unwatched : d.s2Step = (d, false) := by simp only [s2Step, hwatch]

theorem s2Due_unwatched : d.s2Due = 0 := by simp only [s2Due, hwatch, ite_self]

/-- A HALT or SAFE reaction comes before every other decision. -/
theorem chgDecide_reacted (hidle : d.cstate ≠ 0) (hfault : d.cstate ≠ 8) (hreacted : d.chg.seen.reacted = true) :
    d.chgDecide = d.enterChgFault 0x20 := by
  simp only [chgDecide, s2Step_unwatched hwatch, Bool.false_eq_true, if_false]
  exact if_pos ⟨hidle, hfault, hreacted⟩

/-- A vehicle that is gone ends a session that no fault ends. -/
theorem chgDecide_gone (hstate : d.cstate ∈ [1, 3, 4, 5, 6]) (hreacted : d.chg.seen.reacted = false)
    (hlatched : d.chg.seen.latched = false) (hgone : d.ppNow = 7) : d.chgDecide = d.enterIdle 0x10 := by
  simp only [List.mem_cons, List.not_mem_nil, or_false] at hstate
  have hpre : d.prechargeDue = false := by
    have hnot : d.cstate ≠ 2 := by omega
    simp [prechargeDue, hnot]
  have hsession : d.cstate ≠ 0 ∧ d.cstate ≠ 7 ∧ d.cstate ≠ 8 := by omega
  simp only [chgDecide, s2Step_unwatched hwatch, s2Due_unwatched hwatch, hreacted, hlatched, hpre, hgone, hsession, Bool.false_eq_true,
    ne_eq, not_true, not_false_eq_true, and_false, or_self, or_true, true_and, and_true, if_true, if_false]
  rfl

end Decisions

/-- GO is cleared once the current of an orderly end has fallen. -/
def rampStep (d : Dev) : Dev :=
  if d.chg.ending = .ramp ∧ d.chg.iOut.natAbs < d.fld (pg .chg) F.CHG.TIMER_CFG_FLOW_MIN then d.endRamp else d

/-- S2 opens once the groups of an orderly end stand. -/
def standStep (d : Dev) : Dev :=
  if d.chg.ending = .groups ∧ d.chgGroups.all (fun g => decide (d.gstate g ≤ 1) || d.gstate g == 7) then
    (d.setS2 false).modChg (fun c => { c with ending := .none })
  else d

theorem endTick_eq (d : Dev) : d.endTick = ((d.modChg (fun c => { c with endNew := false })).rampStep).standStep := rfl

theorem fld_rampStep (d : Dev) {f : Fld} (h : f.ofs < 0x1000) : d.rampStep.fld (pg .chg) f = d.fld (pg .chg) f := by
  rw [rampStep, fld_ite, endRamp, fld_modChg, fld_chgClearGo _ h, ite_self]

/-- The end of a tick writes S2 alone. -/
theorem fld_endTick_apart (d : Dev) {f : Fld} (h : f.ofs < 0x1000 ∧ FieldsApart f F.CHG.CSTATE_S2) :
    d.endTick.fld (pg .chg) f = d.fld (pg .chg) f := by
  rw [endTick_eq, standStep, fld_ite, fld_modChg, fld_setS2_apart _ _ h.2, ite_self, fld_rampStep _ h.1, fld_modChg]

theorem s2Closed_endTick {d : Dev} (h : d.s2Closed = false) : d.endTick.s2Closed = false := by
  rw [endTick_eq, standStep]
  split
  case isTrue => exact s2Closed_setS2 _ _
  case isFalse => exact (flag_of_fld (fld_rampStep _ (by decide))).trans h

/-- What a tick that ends the session leaves. -/
theorem endTick_pilotNoted_spec {d : Dev} {st cause : Nat} (hstate : d.cstate = st) (hcause : d.fld (pg .chg) F.CHG.CSTATE_CAUSE = cause)
    (hopen : d.s2Closed = false) : d.endTick.pilotNoted.cstate = st ∧ d.endTick.pilotNoted.fld (pg .chg) F.CHG.CSTATE_CAUSE = cause ∧
      d.endTick.pilotNoted.s2Closed = false ∧ d.endTick.pilotNoted.mem = d.mem := by
  rw [cstate, s2Closed, flag_of_fld (fld_pilotNoted _ _), fld_pilotNoted, fld_pilotNoted, mem_pilotNoted, d.endTick_store.1]
  exact ⟨(d.fld_endTick_apart (by decide)).trans hstate, (d.fld_endTick_apart (by decide)).trans hcause, s2Closed_endTick hopen, rfl⟩

end Dev
end Sys2Proof.Machine
end

section
/-! PROOFS. A charging session (R245, R247–R251, R253, R257, R264, R266, R268, R275, R276), by its ENABLE, its ticks and its limits. -/
namespace Sys2Proof.Machine

/-- A permitted write of ENABLE runs as the charge manager's. -/
theorem Runs.chgEnable {d t : Dev} {m : Master} (h : d.CanWrite m .chg 0 R.HDR.CTRL) {on : Bool}
    (ht : d.chgEnable on d.s2Key d.bmsUnitOn = t) : Runs (.chgEnable m on) d t.done :=
  Runs.port h (by decide) (fun _ => rfl) ((d.regWrite_chgCtrl m on).trans ht)

/-- ENABLE takes a sound configuration under the key of S2, and ENABLE = 0 ends in IDLE. -/
theorem chgEnable_runs {d : Dev} {m : Master} (h : d.CanWrite m .chg 0 R.HDR.CTRL) :
    (d.flag (pg .chg) F.HDR.CTRL_ENABLE = false → d.SoundScales → d.flag (pg .chg) F.CHG.CFG_BMS_REQ = true → d.bmsUnitOn = true →
      (∀ k < 4, (d.ntcSlot k).2.2 = false) → d.keyTag 3 = 0x5023 →
      Runs (.chgEnable m true) d (d.setFld (pg .chg) F.HDR.CTRL_ENABLE 1).done) ∧
    (d.flag (pg .chg) F.HDR.CTRL_ENABLE = false → d.chgIn = d.chgOut ∨ d.fld (pg .chg) F.CHG.REF_GAIN_GAIN = 0 ∨ d.keyTag 3 ≠ 0x5023 →
      Runs (.chgEnable m true) d (d.event (pg .chg) F.CHG.EVENT_CFG_BAD).done) ∧
    (d.flag (pg .chg) F.HDR.CTRL_ENABLE = true → ∃ t, Runs (.chgEnable m false) d t ∧ t.flag (pg .chg) F.HDR.CTRL_ENABLE = false ∧
      t.cstate = 0 ∧ t.fld (pg .chg) F.CHG.CSTATE_CAUSE = 0x14 ∧ t.mem = d.mem ∧ t.keys = d.keys) := by
  refine ⟨fun hoff hscales hreq hunit hntc hkey => ?sound, fun hoff hbad => ?unsound, fun hon => ?off⟩
  case sound =>
    have hs2 : d.s2Key = true := beq_iff_eq.mpr hkey
    exact Runs.chgEnable h (Dev.chgEnable_sound hoff hscales hreq hntc hs2 hunit)
  case unsound =>
    have hkey : d.keyTag 3 ≠ 0x5023 → d.s2Key = false := beq_eq_false_iff_ne.mpr
    exact Runs.chgEnable h (Dev.chgEnable_unsound hoff (hbad.imp_right (Or.imp_right hkey)) _)
  case off =>
    obtain ⟨hoff, hstate, hcause⟩ := Dev.chgEnable_end_spec hon d.s2Key d.bmsUnitOn
    obtain ⟨hmem, hkeys⟩ := d.chgEnable_store false d.s2Key d.bmsUnitOn
    exact (Runs.chgEnable h rfl).leaves (fun _ ht => ht) ⟨hoff, hstate, hcause, hmem, hkeys⟩

/-- A tick reads the proximity contact; a reaction or a vehicle that is gone ends the session. -/
theorem chgTick_runs {d : Dev} (hlive : d.busLive = true) (ohms : BitVec 32) :
    (d.flag (pg .chg) F.HDR.CTRL_ENABLE = false → ∃ t, Runs (.chgTick ohms) d t ∧ t.cstate = d.cstate ∧
      t.fld (pg .chg) F.CHG.PP_OHMS = min ohms.toNat 65535 ∧ t.ppNow = ppRating (d.fld (pg .chg) F.CHG.CFG_PP_MODE) ohms.toNat ∧
      t.chg.s2T = d.chg.s2T + 1 ∧ t.mem = d.mem ∧ t.keys = d.keys) ∧
    (d.flag (pg .chg) F.HDR.CTRL_ENABLE = true → d.chgDue = false → d.chg.watch = .none → d.cstate ≠ 0 → d.cstate ≠ 8 →
      d.chg.reacted = true → ∃ t, Runs (.chgTick ohms) d t ∧ t.cstate = 8 ∧ t.fld (pg .chg) F.CHG.CSTATE_CAUSE = 0x20 ∧
        t.s2Closed = false ∧ t.mem = d.mem) ∧
    (d.flag (pg .chg) F.HDR.CTRL_ENABLE = true → d.chgDue = false → d.chg.watch = .none → d.cstate ∈ [1, 3, 4, 5, 6] →
      d.chg.reacted = false → d.chg.latched = false → ppRating (d.fld (pg .chg) F.CHG.CFG_PP_MODE) ohms.toNat = 7 →
      ∃ t, Runs (.chgTick ohms) d t ∧ t.cstate = 0 ∧ t.fld (pg .chg) F.CHG.CSTATE_CAUSE = 0x10 ∧ t.s2Closed = false ∧ t.mem = d.mem) := by
  obtain ⟨hstate, hohms, hrating⟩ := d.chgInputs_spec ohms.toNat
  obtain ⟨hs2T, hwatch, hreacted, hlatched⟩ := d.chgSee_chgInputs ohms.toNat
  have hmem : ((d.chgInputs ohms.toNat).chgSee).mem = d.mem := by simp
  have hkeys : ((d.chgInputs ohms.toNat).chgSee).keys = d.keys := by simp
  have hseen : ((d.chgInputs ohms.toNat).chgSee).cstate = (d.chgInputs ohms.toNat).cstate := Dev.fld_modChg _ _ _ _
  have hseenOhms : ((d.chgInputs ohms.toNat).chgSee).fld (pg .chg) F.CHG.PP_OHMS = _ := (Dev.fld_modChg _ _ _ _).trans hohms
  have hseenRating : ((d.chgInputs ohms.toNat).chgSee).ppNow = _ := (Dev.fld_modChg _ _ _ _).trans hrating
  rw [hstate] at hseen
  refine ⟨fun hoff => ?off, fun hon hdue hnone hidle hfault hreact => ?reacted, fun hon hdue hnone hsession hreact hlatch hgone => ?gone⟩
  case off =>
    exact ⟨_, Runs.dev (fun _ => rfl) (Dev.chgTick_off hlive hoff _), hseen, hseenOhms, hseenRating, hs2T, hmem, hkeys⟩
  case reacted =>
    have htick := Dev.chgTick_on hlive hon hdue ohms.toNat
    rw [← hseen] at hidle hfault
    rw [Dev.chgDecide_reacted (d := (d.chgInputs ohms.toNat).chgSee) (hwatch.trans hnone) hidle hfault (hreacted.trans hreact)] at htick
    obtain ⟨hst, hcause, hopen, hend⟩ := Dev.endTick_pilotNoted_spec (Dev.cstate_enterChgFault _ _)
      (Dev.cause_enterChgFault (d.chgInputs ohms.toNat).chgSee (cause := 0x20) (by decide)) (Dev.s2Closed_enterChgFault _ _)
    exact ⟨_, Runs.dev (fun _ => rfl) htick, hst, hcause, hopen, hend.trans ((Dev.enterChgFault_store _ _).1.trans hmem)⟩
  case gone =>
    have htick := Dev.chgTick_on hlive hon hdue ohms.toNat
    rw [← hseen] at hsession
    rw [Dev.chgDecide_gone (d := (d.chgInputs ohms.toNat).chgSee) (hwatch.trans hnone) hsession (hreacted.trans hreact) (hlatched.trans hlatch)
      (hseenRating.trans hgone)] at htick
    obtain ⟨hst, hcause, hopen, hend⟩ := Dev.endTick_pilotNoted_spec (Dev.cstate_enterIdle _ _)
      (Dev.cause_enterIdle (d.chgInputs ohms.toNat).chgSee (cause := 0x10) (by decide)) (Dev.s2Closed_enterIdle _ _)
    exact ⟨_, Runs.dev (fun _ => rfl) htick, hst, hcause, hopen, hend.trans ((Dev.enterIdle_store _ _).1.trans hmem)⟩

/-- A safety timer that has expired suspends the session. -/
theorem chgTimerExpiry_runs {d : Dev} (hlive : d.busLive = true) (hdue : d.chg.expire ≠ 0) : ∃ t, Runs .chgTimerExpiry d t ∧
    t = (d.timerRaised.chgSuspend 1).modChg (fun c => { c with expired := d.chg.expire, expire := 0 }) ∧ t.cstate = 6 ∧
      bitAt t.suspMask 0 = true := by
  obtain ⟨hstate, hpending, -, -⟩ := d.timerRaised.chgSuspend_plain_spec (m := 1) (by decide) (by decide)
  refine ⟨_, Runs.live hlive (fun _ => rfl) (Dev.chgTimerExpiry_due hdue), rfl, ?_, ?_⟩
  · exact (Dev.fld_modChg _ _ _ _).trans hstate
  · exact (congrArg (bitAt · 0) (Dev.fld_modChg _ _ _ _)).trans (hpending 0 (by decide) (by decide))

/-- Settles O31: by what ENABLE, a tick, the exit of a step and each limit of time leave. -/
theorem chargeSessionRuns : Obligations.ChargeSessionRuns := by
  unfold Obligations.ChargeSessionRuns
  intro d m p
  refine ⟨fun h => ?enable, fun ohms hlive => chgTick_runs hlive ohms, fun hlive => ?limits⟩
  case enable =>
    obtain ⟨hsound, hunsound, hend⟩ := chgEnable_runs h
    exact ⟨fun hoff hgroups hi hv hgain hedges => hsound hoff ⟨hgroups, hi, hv, hgain, hedges⟩, hunsound, hend⟩
  case limits =>
    refine ⟨fun hdue => chgTimerExpiry_runs hlive hdue, fun hnone => Runs.live hlive (fun _ => rfl) (Dev.chgTimerExpiry_none hnone),
      ?next, ?last, fun hunmet => Runs.live hlive (fun _ => rfl) (Dev.stepExit_unmet hunmet), ?precharge, ?orderly, ?grid, ?resume,
      fun htime hwatch hpilot => Runs.live hlive (fun _ => rfl) (Dev.s2Timeout_closing htime hwatch hpilot),
      fun hearly => Runs.live hlive (fun _ => rfl) (Dev.s2Timeout_early hearly)⟩
    case next =>
      intro hmet hexpire hstate hlast hmore s hcurrent hsafe
      obtain ⟨hst, hstep, hentry, hequal, hreal, hmem⟩ := Dev.nextStep_spec (s := s) (Nat.succ_lt_succ hmore) hcurrent hsafe
      have hexit : d.stepExit = d.resetStepTimer.enterStep s := Dev.stepExit_next hmet hexpire hstate hlast
      exact ⟨_, Runs.live hlive (fun _ => rfl) hexit, hst, hstep, hentry, hequal, hreal, hmem, by simp⟩
    case last =>
      intro hmet hexpire hstate hlast
      have hexit := Dev.stepExit_last hmet hexpire hstate hlast
      refine ⟨fun hnone => ?done, fun hsome hcurrent hsafe => ?topoff⟩
      case done =>
        rw [if_neg (not_not.mpr hnone)] at hexit
        exact ⟨_, Runs.live hlive (fun _ => rfl) hexit, Dev.cstate_enterDone _ _, Dev.cause_enterDone _ (by decide)⟩
      case topoff =>
        rw [if_pos hsome] at hexit
        obtain ⟨hst, hentry⟩ := Dev.enterTopoff_sound hcurrent hsafe
        have hvoltage := congrArg ChgEntry.vLim hentry
        have hcurrentKept := congrArg ChgEntry.iLim hentry
        exact ⟨_, Runs.live hlive (fun _ => rfl) hexit, hst, hvoltage, hcurrentKept⟩
    case precharge =>
      intro hstate htime hlow
      exact ⟨_, Runs.live hlive (fun _ => rfl) (Dev.prechargeTimeout_due hstate htime hlow), rfl, Dev.cstate_enterChgFault _ _,
        Dev.cause_enterChgFault _ (by decide)⟩
    case orderly =>
      intro hramp htime
      obtain ⟨hending, hstopped⟩ := d.endRamp_spec
      exact ⟨_, Runs.live hlive (fun _ => rfl) (Dev.orderlyEndTimeout_due hramp htime), hending, hstopped, d.endRamp_store.1⟩
    case grid =>
      intro hstate hclosed htime
      obtain ⟨hst, hpending, hmem, hkeys⟩ := d.chgSuspend_plain_spec (m := 128) (by decide) (by decide)
      exact ⟨_, Runs.live hlive (fun _ => rfl) (Dev.gridWaitExpiry_due hstate hclosed htime), hst, hpending 7 (by decide) (by decide),
        hmem, hkeys⟩
    case resume =>
      intro hstate hmask htime
      exact ⟨_, Runs.live hlive (fun _ => rfl) (Dev.resumeDelayExpiry_due hstate hmask htime), d.cstate_enterDetect,
        d.enterDetect_store.1, d.enterDetect_store.2⟩

end Sys2Proof.Machine
end

section
/-!
PROOFS. The state of the gauge (R280–R283, R301, R306): its kept fields lost, its records acknowledged, its commands and ENABLE.
-/
namespace Sys2Proof.Machine

/-- Numbers that ascend step by step ascend from each to the next in the list of them. -/
theorem all_lt_zip_tail {n : Nat} {α : Type} [LT α] [DecidableLT α] (f : Nat → α) (h : ∀ k < n, f k < f (k + 1)) :
    ((((List.range (n + 1)).map f).zip ((List.range (n + 1)).map f).tail).all fun e => decide (e.1 < e.2)) = true := by
  rw [List.all_eq_true]
  intro e he
  obtain ⟨k, hk, rfl⟩ := List.mem_iff_getElem.mp he
  simp only [List.length_zip, List.length_tail, List.length_map, List.length_range] at hk
  simpa using h k (by omega)

namespace Dev

/-! ## Writes of the page -/

/-- A write of CTRL without SOFT_RESET is the block's ENABLE on a page that no key guards. -/
theorem regWrite_unkeyedCtrl {k : PageKind} {i : Nat} (hconv : k ≠ .conv) (hfault : k ≠ .fault) (hkey : pageKey (pg k i) = none)
    (d : Dev) (m : Master) (on : Bool) :
    d.regWrite m k i R.HDR.CTRL (BitVec.ofNat 32 (b2n on)) {} = d.enableWrite m k i on [] := by
  have henable : ∀ on, bitAt (BitVec.ofNat 32 (b2n on)).toNat 0 = on := by decide
  have hsoft : ∀ on, bitAt (BitVec.ofNat 32 (b2n on)).toNat 1 = false := by decide
  rw [regWrite_header hconv hfault _ _ _ (by decide)]
  show d.ctrlWrite m k i (BitVec.ofNat 32 (b2n on)) [] = _
  simp only [ctrlWrite, henable, hsoft, hkey, Bool.false_eq_true, if_false]

theorem gaugeWrite_cmd (d : Dev) (m : Master) (w : Word) (f : WriteFacts) :
    d.blockWrite m .gauge 0 R.GAUGE.CMD w f = d.gaugeCmd (bitsOf w.toNat 0 4) (bitsOf w.toNat 16 16) :=
  (if_pos rfl : d.gaugeWrite m R.GAUGE.CMD w = _)

theorem gaugeWrite_recAck (d : Dev) (m : Master) (w : Word) (f : WriteFacts) :
    d.blockWrite m .gauge 0 R.GAUGE.REC_ACK w f = d.recAck w := by
  show d.gaugeWrite m R.GAUGE.REC_ACK w = _
  rw [gaugeWrite, if_neg (by decide), if_pos rfl]

/-! ## The state (R280) -/

/-- A state entered shows in GSTATE. -/
theorem gaugeState_setGaugeState (d : Dev) {st : Nat} (h : st < 8) : (d.setGaugeState st).gaugeState = st :=
  (fld_setFld_self d _ _ st (by decide)).trans (Nat.mod_eq_of_lt h)

theorem flag_setGaugeState_apart (d : Dev) (st : Nat) {f : Fld} (h : FieldsApart f F.GAUGE.STATUS_GSTATE) :
    (d.setGaugeState st).flag (pg .gauge) f = d.flag (pg .gauge) f := flag_setFld_apart d st h

theorem reg_setGaugeState_apart (d : Dev) (st : Nat) {o : Nat} (h : o ≠ R.HDR.STATUS) :
    (d.setGaugeState st).reg (pg .gauge) o = d.reg (pg .gauge) o := reg_setFld_apart d st h

@[simp] theorem gaugeState_modGauge (d : Dev) (f : GaugeS → GaugeS) : (d.modGauge f).gaugeState = d.gaugeState := rfl

theorem gaugeState_gaugeWait (d : Dev) : d.gaugeWait.gaugeState = 1 := by
  rw [gaugeWait, gaugeState_modGauge, gaugeState_setGaugeState _ (by decide)]

theorem gaugeState_gaugeRun (d : Dev) : d.gaugeRun.gaugeState = 3 := by
  rw [gaugeRun, gaugeState_modGauge, gaugeState_setGaugeState _ (by decide)]

theorem reg_gaugeWait_apart (d : Dev) {o : Nat} (h : o ≠ R.HDR.STATUS) : d.gaugeWait.reg (pg .gauge) o = d.reg (pg .gauge) o := by
  rw [gaugeWait, reg_modGauge, reg_setGaugeState_apart _ _ h]

theorem flag_gaugeWait_apart (d : Dev) {f : Fld} (h : FieldsApart f F.GAUGE.STATUS_GSTATE) :
    d.gaugeWait.flag (pg .gauge) f = d.flag (pg .gauge) f := by
  rw [gaugeWait, flag_modGauge, flag_setGaugeState_apart _ _ h]

theorem flag_gaugeRun_apart (d : Dev) {f : Fld} (h : FieldsApart f F.GAUGE.STATUS_GSTATE) :
    d.gaugeRun.flag (pg .gauge) f = d.flag (pg .gauge) f := by
  rw [gaugeRun, flag_modGauge, flag_setGaugeState_apart _ _ h]

/-! ## The kept fields (R282, R306) -/

/-- Registers cleared one after the other read 0, and the others as before. -/
theorem reg_each_clear (d : Dev) (p : Nat) (l : List Nat) (o : Nat) :
    (d.each l fun d o => d.setReg p o 0).reg p o = if o ∈ l then 0 else d.reg p o := by
  induction l generalizing d with
  | nil => rfl
  | cons x l ih =>
    have hstep : d.each (x :: l) (fun d o => d.setReg p o 0) = (d.setReg p x 0).each l fun d o => d.setReg p o 0 := rfl
    rw [hstep, ih]
    by_cases hmem : o ∈ l
    · simp [hmem]
    · by_cases hx : o = x <;> simp [hmem, hx, reg_setReg]

/-- The registers of the gauge that are kept: CC takes two. -/
def keptGaugeRegs : List Nat :=
  [R.GAUGE.Q, R.GAUGE.VP, R.GAUGE.CAP, R.GAUGE.P_QQ, R.GAUGE.P_VV, R.GAUGE.P_CC, R.GAUGE.RSER, R.GAUGE.RPOL, R.GAUGE.CPOL,
    R.GAUGE.CAP_COMMIT, R.GAUGE.REC_SEQ, R.GAUGE.ACK_SEQ, R.GAUGE.HIB_TIME, R.GAUGE.CC, R.GAUGE.CC + 4]

/-- The flags of STATUS that are kept. -/
def keptGaugeFlags : List Fld :=
  [F.GAUGE.STATUS_RETAINED, F.GAUGE.STATUS_COULOMB_DRIFT, F.GAUGE.STATUS_PENDING, F.GAUGE.STATUS_GAP]

/-- The kept fields cleared in the registers. -/
def keptGaugeCleared (d : Dev) : Dev :=
  (d.each keptGaugeRegs fun d o => d.setReg (pg .gauge) o 0).each keptGaugeFlags fun d f => d.setFld (pg .gauge) f 0

theorem gaugeLose_eq (d : Dev) : d.gaugeLose = d.keptGaugeCleared.modGauge (fun x => { x with
    ccPrev := 0, pqv := 0, pqc := 0, pvc := 0, record := [], recAt := d.keptGaugeCleared.now, pubReq := false }) := rfl

theorem reg_keptGaugeCleared (d : Dev) {o : Nat} (h : o ∈ keptGaugeRegs) : d.keptGaugeCleared.reg (pg .gauge) o = 0 := by
  have hstatus : ∀ o ∈ keptGaugeRegs, o ≠ R.HDR.STATUS := by decide
  rw [keptGaugeCleared, each_keeps (reg · (pg .gauge) o) _ _ _ ?flags, reg_each_clear, if_pos h]
  case flags =>
    intro e f hf
    have hofs : ∀ f ∈ keptGaugeFlags, f.ofs = R.HDR.STATUS := by decide
    exact reg_setFld_apart e 0 (hofs f hf ▸ hstatus o h)

theorem flag_keptGaugeCleared (d : Dev) : d.keptGaugeCleared.flag (pg .gauge) F.GAUGE.STATUS_RETAINED = false ∧
    d.keptGaugeCleared.flag (pg .gauge) F.GAUGE.STATUS_PENDING = false := by
  simp (disch := decide) only [keptGaugeCleared, keptGaugeFlags, each, List.foldl, flag_setFld_apart, flag_setFld_self]
  decide

/-- DISCARD waits for a record again, with every kept field lost. -/
theorem gaugeLose_gaugeWait_spec (d : Dev) : d.gaugeLose.gaugeWait.gaugeState = 1 ∧ d.gaugeLose.gaugeWait.gauge.pend = 0 ∧
    d.gaugeLose.gaugeWait.gauge.record = [] ∧ (∀ o ∈ keptGaugeRegs, d.gaugeLose.gaugeWait.reg (pg .gauge) o = 0) ∧
    d.gaugeLose.gaugeWait.flag (pg .gauge) F.GAUGE.STATUS_RETAINED = false ∧
    d.gaugeLose.gaugeWait.flag (pg .gauge) F.GAUGE.STATUS_PENDING = false := by
  obtain ⟨hretained, hpending⟩ := d.flag_keptGaugeCleared
  have hstatus : ∀ o ∈ keptGaugeRegs, o ≠ R.HDR.STATUS := by decide
  refine ⟨gaugeState_gaugeWait _, rfl, rfl, fun o ho => ?_, ?_, ?_⟩
  · rw [reg_gaugeWait_apart _ (hstatus o ho), gaugeLose_eq, reg_modGauge, d.reg_keptGaugeCleared ho]
  · rw [flag_gaugeWait_apart _ (by decide), gaugeLose_eq, flag_modGauge, hretained]
  · rw [flag_gaugeWait_apart _ (by decide), gaugeLose_eq, flag_modGauge, hpending]

/-! ## The commands of CMD (R281, R300–R302, R304, R306) -/

/-- The states that allow each command of CMD (R306). -/
def gaugeCommandStates : List (Nat × List Nat) := [(1, [1]), (2, [1]), (3, [3, 4]), (4, [3]), (5, [4])]

/-- What CMD refuses, with the result. -/
def gaugeRefused (d : Dev) (op result : Nat) : Dev :=
  (d.setReg (pg .gauge) R.GAUGE.LAST_CMD (BitVec.ofNat 32 (op + 256 * result))).event (pg .gauge) F.GAUGE.EVENT_CMD_REFUSED

/-- LAST_CMD of an accepted command. -/
def gaugeAccepted (d : Dev) (op : Nat) : Dev := d.setReg (pg .gauge) R.GAUGE.LAST_CMD (BitVec.ofNat 32 op)

theorem gaugeAnswer_refused (d : Dev) {op r : Nat} (hop : op < 16) (h : r ≠ 0) : d.gaugeAnswer op r = d.gaugeRefused op r := by
  simp only [gaugeAnswer, if_neg h, Nat.mod_eq_of_lt hop, gaugeRefused]

theorem gaugeAnswer_accepted (d : Dev) {op : Nat} (hop : op < 16) : d.gaugeAnswer op 0 = d.gaugeAccepted op := by
  simp only [gaugeAnswer, if_true, Nat.mod_eq_of_lt hop, gaugeAccepted, Nat.mul_zero, Nat.add_zero]

/-- In a state that does not allow it a command is refused with result 5. -/
theorem gaugeCmd_invalid {d : Dev} {x : Nat × List Nat} (hx : x ∈ gaugeCommandStates) (hst : d.gaugeState ∉ x.2) :
    d.gaugeCmd x.1 0x6A5D = d.gaugeRefused x.1 5 := by
  have hanswer : d.gaugeCmd x.1 0x6A5D = d.gaugeAnswer x.1 5 := by
    simp only [gaugeCommandStates, List.mem_cons, List.not_mem_nil, or_false] at hx
    obtain rfl | rfl | rfl | rfl | rfl := hx
    all_goals
      simp only [List.mem_cons, List.not_mem_nil, or_false] at hst
      unfold gaugeCmd
      simp only [hst, ne_eq, not_true, not_false_eq_true, if_true, if_false]
  have hop : ∀ x ∈ gaugeCommandStates, x.1 < 16 := by decide
  rw [hanswer, gaugeAnswer_refused _ (hop x hx) (by decide)]

/-- RESTORE takes the record in the mailbox where it passes its checks. -/
theorem gaugeCmd_restore_sound {d : Dev} (hst : d.gaugeState = 1) (hcheck : d.recordCheck d.gaugeMail = 0) :
    d.gaugeCmd 1 0x6A5D = (d.gaugeAccepted 1).modGauge (fun x => { x with restore := some d.gaugeMail }) := by
  unfold gaugeCmd
  simp only [hst, hcheck, d.gaugeAnswer_accepted (op := 1) (by decide), ne_eq, not_true, if_true, if_false]

theorem gaugeCmd_restore_unsound {d : Dev} (hst : d.gaugeState = 1) (hcheck : d.recordCheck d.gaugeMail ≠ 0) :
    d.gaugeCmd 1 0x6A5D = d.gaugeRefused 1 (d.recordCheck d.gaugeMail) := by
  unfold gaugeCmd
  simp only [hst, if_neg hcheck, d.gaugeAnswer_refused (op := 1) (by decide) hcheck, ne_eq, not_true, if_false]

/-- INIT takes back the charge that was pending. -/
theorem gaugeCmd_init {d : Dev} (hst : d.gaugeState = 1) : d.gaugeCmd 2 0x6A5D =
    (((d.gaugeAccepted 2).bump64 (pg .gauge) R.GAUGE.CC (-d.gauge.pend)).setGaugeState 2).modGauge
      (fun x => { x with pend := 0, restore := none }) := by
  unfold gaugeCmd
  simp only [hst, d.gaugeAnswer_accepted (op := 2) (by decide), ne_eq, not_true, if_false]

theorem gaugeCmd_discard {d : Dev} (hst : d.gaugeState = 3 ∨ d.gaugeState = 4) :
    d.gaugeCmd 3 0x6A5D = (d.gaugeAccepted 3).gaugeLose.gaugeWait := by
  unfold gaugeCmd
  simp only [if_pos hst, d.gaugeAnswer_accepted (op := 3) (by decide), ne_eq, not_true, if_false]

theorem gaugeCmd_publish {d : Dev} (hst : d.gaugeState = 3) :
    d.gaugeCmd 4 0x6A5D = (d.gaugeAccepted 4).modGauge (fun x => { x with pubReq := true }) := by
  unfold gaugeCmd
  simp only [hst, d.gaugeAnswer_accepted (op := 4) (by decide), ne_eq, not_true, if_true, if_false]

/-- A watched group is LATCHED. -/
abbrev WatchedLatched (d : Dev) : Prop := ∃ g < 8, d.gaugeWatches g = true ∧ d.gstate g = 7

theorem any_watchedLatched (d : Dev) :
    (List.range 8).any (fun g => d.gaugeWatches g && d.gstate g == 7) = true ↔ d.WatchedLatched := by
  simp only [List.any_eq_true, List.mem_range, Bool.and_eq_true, beq_iff_eq]

/-- The gauge as UNFREEZE returns it to the state that froze. -/
def unfrozen (d : Dev) : Dev :=
  let e := ((d.gaugeAccepted 5).setFlag (pg .gauge) F.GAUGE.STATUS_COULOMB_DRIFT true).setGaugeState d.gauge.frozenFrom
  e.modGauge (fun x => { x with runSince := e.now })

theorem gaugeCmd_unfreeze {d : Dev} (hst : d.gaugeState = 4) (hfree : ¬ d.WatchedLatched) : d.gaugeCmd 5 0x6A5D = d.unfrozen := by
  rw [← any_watchedLatched] at hfree
  unfold gaugeCmd
  simp only [hst, if_neg hfree, d.gaugeAnswer_accepted (op := 5) (by decide), ne_eq, not_true, if_false]
  rfl

theorem gaugeCmd_unfreeze_latched {d : Dev} (hst : d.gaugeState = 4) (hlatched : d.WatchedLatched) :
    d.gaugeCmd 5 0x6A5D = d.gaugeRefused 5 8 := by
  rw [← any_watchedLatched] at hlatched
  unfold gaugeCmd
  simp only [hst, if_pos hlatched, d.gaugeAnswer_refused (op := 5) (r := 8) (by decide) (by decide), ne_eq, not_true, if_false]

theorem unfrozen_spec {d : Dev} (h : d.gauge.frozenFrom < 8) : d.unfrozen.gaugeState = d.gauge.frozenFrom ∧
    d.unfrozen.flag (pg .gauge) F.GAUGE.STATUS_COULOMB_DRIFT = true ∧ d.unfrozen.reg (pg .gauge) R.GAUGE.LAST_CMD = 5 := by
  refine ⟨?state, ?drift, ?last⟩
  case state => rw [unfrozen, gaugeState_modGauge, gaugeState_setGaugeState _ h]
  case drift =>
    rw [unfrozen, flag_modGauge, flag_setGaugeState_apart _ _ (by decide), flag_setFlag_self _ _ _ _ (by decide) (by decide)]
  case last =>
    rw [unfrozen, reg_modGauge, reg_setGaugeState_apart _ _ (by decide), reg_setFlag_apart _ _ (by decide), gaugeAccepted, reg_setReg_self]
    rfl

/-! ## REC_ACK (R301) -/

/-- The pending record acknowledged. -/
theorem recAck_pending {d : Dev} {seq : Word} (hpending : d.flag (pg .gauge) F.GAUGE.STATUS_PENDING = true)
    (hseq : seq = d.reg (pg .gauge) R.GAUGE.REC_SEQ) : d.recAck seq =
      ((((d.setReg (pg .gauge) R.GAUGE.ACK_SEQ seq).setReg (pg .gauge) R.GAUGE.CAP_COMMIT (d.gauge.record.getD 4 0)).setFlag (pg .gauge)
        F.GAUGE.STATUS_PENDING false).event (pg .gauge) F.GAUGE.EVENT_ACK) := if_pos ⟨hpending, hseq⟩

theorem recAck_other {d : Dev} {seq : Word}
    (h : d.flag (pg .gauge) F.GAUGE.STATUS_PENDING = false ∨ seq ≠ d.reg (pg .gauge) R.GAUGE.REC_SEQ) :
    d.recAck seq = (d.setFld (pg .gauge) F.GAUGE.LAST_CMD_RESULT 7).event (pg .gauge) F.GAUGE.EVENT_CMD_REFUSED :=
  if_neg fun hboth => h.elim (fun hoff => by simp [hoff] at hboth) (fun hseq => hseq hboth.2)

theorem recAck_pending_spec {d : Dev} {seq : Word} (hpending : d.flag (pg .gauge) F.GAUGE.STATUS_PENDING = true)
    (hseq : seq = d.reg (pg .gauge) R.GAUGE.REC_SEQ) :
    (d.recAck seq).reg (pg .gauge) R.GAUGE.ACK_SEQ = seq ∧
      (d.recAck seq).reg (pg .gauge) R.GAUGE.CAP_COMMIT = d.gauge.record.getD 4 0 ∧
      (d.recAck seq).flag (pg .gauge) F.GAUGE.STATUS_PENDING = false ∧ (d.recAck seq).flag (pg .gauge) F.GAUGE.EVENT_ACK = true := by
  rw [recAck_pending hpending hseq]
  simp (disch := decide) only [reg_event_apart, reg_setFlag_apart, reg_setReg_apart, reg_setReg_self, flag_event_apart,
    flag_setFlag_self, flag_event_self, and_self]

/-! ## ENABLE (R281, R283) -/

/-- The inputs differ, and neither the scales nor the capacity are 0. -/
abbrev SoundInputs (d : Dev) : Prop :=
  d.fld (pg .gauge) F.GAUGE.CFG_IN_I ≠ d.fld (pg .gauge) F.GAUGE.CFG_IN_V ∧ d.gf R.GAUGE.I_SCALE ≠ 0 ∧ d.gf R.GAUGE.V_SCALE ≠ 0 ∧
    d.fld (pg .gauge) F.GAUGE.CAP_NOM_CAP ≠ 0

/-- The columns of the open-circuit voltages ascend, and so do the temperatures that they stand for. -/
abbrev SoundTable (d : Dev) : Prop :=
  (∀ k < 3, d.ocvT k < d.ocvT (k + 1)) ∧ ∀ c < 4, ∀ k < 63, d.ocvPoint c k < d.ocvPoint c (k + 1)

/-- The gauge switched on, before it enters a state. -/
def gaugeStarted (d : Dev) : Dev :=
  (d.setFld (pg .gauge) F.HDR.CTRL_ENABLE 1).modGauge (fun x => { x with
    iAcc := {}, vAcc := {}, iPrev := none, vPrev := none, restT := 0, ticks := 0, lastT := none, iLog := [], vLog := [], tickLog := [],
    pubReq := false, driftDue := false })

/-- The gauge switched on: in RUN where its kept fields stand, else it waits for a record. -/
def gaugeEntered (d : Dev) : Dev :=
  if d.gaugeStarted.flag (pg .gauge) F.GAUGE.STATUS_RETAINED then d.gaugeStarted.gaugeRun.modGauge (fun x => { x with resumeDue := true })
  else d.gaugeStarted.gaugeWait

theorem gaugeEnable_sound {d : Dev} (hoff : d.flag (pg .gauge) F.HDR.CTRL_ENABLE = false) (hinputs : d.SoundInputs)
    (htable : d.SoundTable) (hreport : d.flag (pg .gauge) F.GAUGE.CFG_REP_EN = false) {key : Bool} (hkey : key = true) :
    d.gaugeEnable true key = d.gaugeEntered := by
  obtain ⟨hdiffer, hi, hv, hcap⟩ := hinputs
  obtain ⟨htemps, hpoints⟩ := htable
  have htempsOk : (([d.ocvT 0, d.ocvT 1, d.ocvT 2, d.ocvT 3].zip [d.ocvT 0, d.ocvT 1, d.ocvT 2, d.ocvT 3].tail).all
      fun e => decide (e.1 < e.2)) = true := all_lt_zip_tail d.ocvT htemps
  have hpointsOk : ((List.range 4).all fun c => (((List.range 64).map (d.ocvPoint c)).zip ((List.range 64).map (d.ocvPoint c)).tail).all
      fun e => decide (e.1 < e.2)) = true :=
    List.all_eq_true.mpr fun c hc => all_lt_zip_tail (d.ocvPoint c) (hpoints c (List.mem_range.mp hc))
  simp only [gaugeEnable, hoff, hreport, hkey, htempsOk, hpointsOk, bne_iff_ne.mpr hdiffer, bne_iff_ne.mpr hi, bne_iff_ne.mpr hv,
    bne_iff_ne.mpr hcap, Bool.not_false, Bool.true_or, Bool.and_self, Bool.false_eq_true, if_true, if_false]
  rfl

theorem gaugeEnable_unsound {d : Dev} (hoff : d.flag (pg .gauge) F.HDR.CTRL_ENABLE = false)
    (hbad : d.fld (pg .gauge) F.GAUGE.CFG_IN_I = d.fld (pg .gauge) F.GAUGE.CFG_IN_V ∨ d.fld (pg .gauge) F.GAUGE.CAP_NOM_CAP = 0)
    (key : Bool) : d.gaugeEnable true key = d.event (pg .gauge) F.GAUGE.EVENT_CFG_BAD := by
  obtain hsame | hcap := hbad
  · simp only [gaugeEnable, hoff, hsame, bne_self_eq_false, Bool.false_and, Bool.false_eq_true, if_true, if_false]
  · simp only [gaugeEnable, hoff, hcap, bne_self_eq_false, Bool.and_false, Bool.false_and, Bool.false_eq_true, if_true, if_false]

theorem gaugeEnable_end (d : Dev) (key : Bool) :
    d.gaugeEnable false key = (d.setFld (pg .gauge) F.HDR.CTRL_ENABLE 0).setGaugeState 0 := rfl

theorem gaugeEnable_end_spec (d : Dev) (key : Bool) :
    (d.gaugeEnable false key).flag (pg .gauge) F.HDR.CTRL_ENABLE = false ∧ (d.gaugeEnable false key).gaugeState = 0 := by
  rw [gaugeEnable_end]
  refine ⟨?_, gaugeState_setGaugeState _ (by decide)⟩
  rw [flag_setGaugeState_apart _ _ (by decide), flag_setFld_self _ _ _ _ (by decide)]
  rfl

theorem gaugeEntered_spec (d : Dev) : d.gaugeEntered.flag (pg .gauge) F.HDR.CTRL_ENABLE = true ∧
    d.gaugeEntered.gaugeState = if d.flag (pg .gauge) F.GAUGE.STATUS_RETAINED then 3 else 1 := by
  have hon : d.gaugeStarted.flag (pg .gauge) F.HDR.CTRL_ENABLE = true := flag_setFld_self d _ _ 1 (by decide)
  have hretained : d.gaugeStarted.flag (pg .gauge) F.GAUGE.STATUS_RETAINED = d.flag (pg .gauge) F.GAUGE.STATUS_RETAINED :=
    flag_setFld_apart d 1 (by decide)
  rw [gaugeEntered, hretained]
  split
  · rw [flag_modGauge, gaugeState_modGauge, flag_gaugeRun_apart _ (by decide), gaugeState_gaugeRun]
    exact ⟨hon, rfl⟩
  · rw [flag_gaugeWait_apart _ (by decide), gaugeState_gaugeWait]
    exact ⟨hon, rfl⟩

/-- The key of the gauge's mailbox is the gauge's. -/
abbrev gaugeKey (d : Dev) : Bool := d.keyTag (0x2C4 + d.gaugeBox) == 0x5024

end Dev

/-- A permitted write of ENABLE runs as the gauge's. -/
theorem Runs.gaugeEnable {d t : Dev} {m : Master} (h : d.CanWrite m .gauge 0 R.HDR.CTRL) {on : Bool}
    (ht : d.gaugeEnable on d.gaugeKey = t) : Runs (.gaugeEnable m on) d t.done :=
  Runs.port h (by decide) (fun _ => rfl) ((Dev.regWrite_unkeyedCtrl (by decide) (by decide) (by decide +kernel) d m on).trans ht)

/-- A permitted write of REC_ACK runs as the gauge's. -/
theorem Runs.recAck {d t : Dev} {m : Master} (h : d.CanWrite m .gauge 0 R.GAUGE.REC_ACK) {seq : Word} (ht : d.recAck seq = t) :
    Runs (.recAck m seq) d t.done :=
  Runs.block (by decide) (by decide) h (by decide) (fun _ => rfl) ((d.gaugeWrite_recAck m seq {}).trans ht)

/-- A permitted write of CMD with its key runs as the gauge's. -/
theorem Runs.gaugeCmd {c : Instr} {d t : Dev} {m : Master} (h : d.CanWrite m .gauge 0 R.GAUGE.CMD) {op : Nat} {w : Word}
    (hc : ∀ s, exec c s = .next (s.onDev fun d => d.portWrite m .gauge 0 R.GAUGE.CMD w))
    (hw : bitsOf w.toNat 0 4 = op ∧ bitsOf w.toNat 16 16 = 0x6A5D) (ht : d.gaugeCmd op 0x6A5D = t) : Runs c d t.done := by
  obtain ⟨rfl, hkey⟩ := hw
  refine Runs.block (by decide) (by decide) h (by decide) hc ?_
  rw [Dev.gaugeWrite_cmd, hkey, ht]

end Sys2Proof.Machine
end

section
/-! PROOFS. The commands of the gauge (R280–R283, R300–R302, R304, R306), each by what it leaves. -/
namespace Sys2Proof.Machine

/-- Settles O33: a command outside its states is refused, and each of the others by what it leaves. -/
theorem gaugeCommandsRun : Obligations.GaugeCommandsRun := by
  unfold Obligations.GaugeCommandsRun
  intro d m p
  refine ⟨fun h => ⟨?refused, ?waiting, ?discard, ?publish, ?unfreeze, ?latched⟩, fun seq h => ⟨?ack, ?otherAck⟩,
    fun h => ⟨?off, ?unsound, ?sound⟩⟩
  case refused =>
    intro x hx hst
    simp only [List.mem_cons, List.not_mem_nil, or_false] at hx
    obtain rfl | rfl | rfl | rfl | rfl := hx
    all_goals
      dsimp only at hst ⊢
      exact Runs.gaugeCmd h (fun _ => rfl) (by decide) (Dev.gaugeCmd_invalid (x := (_, _)) (by decide) hst)
  case waiting =>
    exact fun hst => ⟨fun hcheck => Runs.gaugeCmd h (fun _ => rfl) (by decide) (Dev.gaugeCmd_restore_sound hst hcheck),
      fun hcheck => Runs.gaugeCmd h (fun _ => rfl) (by decide) (Dev.gaugeCmd_restore_unsound hst hcheck),
      Runs.gaugeCmd h (fun _ => rfl) (by decide) (Dev.gaugeCmd_init hst)⟩
  case discard =>
    intro hst
    obtain ⟨hstate, hpend, hrecord, hregs, hretained, hpending⟩ := (d.gaugeAccepted 3).gaugeLose_gaugeWait_spec
    have hkept : [R.GAUGE.Q, R.GAUGE.VP, R.GAUGE.CAP, R.GAUGE.CC, R.GAUGE.CC + 4, R.GAUGE.REC_SEQ, R.GAUGE.ACK_SEQ] ⊆ Dev.keptGaugeRegs := by
      decide
    have hstore : (d.gaugeAccepted 3).gaugeLose.gaugeWait.mem = d.mem ∧ (d.gaugeAccepted 3).gaugeLose.gaugeWait.keys = d.keys := by
      simp [Dev.gaugeAccepted]
    have hrun := Runs.gaugeCmd h (c := .discard m) (fun _ => rfl) (by decide) (Dev.gaugeCmd_discard hst)
    exact hrun.leaves (fun _ ht => ht) ⟨hstate, hpend, hrecord, fun o ho => hregs o (hkept ho), hretained, hpending, hstore⟩
  case publish => exact fun hst => Runs.gaugeCmd h (fun _ => rfl) (by decide) (Dev.gaugeCmd_publish hst)
  case unfreeze =>
    intro hst hfree hfrom
    obtain ⟨hstate, hdrift, hlast⟩ := Dev.unfrozen_spec hfrom
    have hnone : ¬ d.WatchedLatched := fun ⟨g, hg, hwatched, hlatched⟩ => hfree g hg hwatched hlatched
    have hstore : d.unfrozen.mem = d.mem ∧ d.unfrozen.keys = d.keys := by
      simp [Dev.unfrozen, Dev.gaugeAccepted, Dev.setGaugeState]
    have hrun := Runs.gaugeCmd h (c := .unfreeze m) (fun _ => rfl) (by decide) (Dev.gaugeCmd_unfreeze hst hnone)
    exact hrun.leaves (fun _ ht => ht) ⟨hstate, hdrift, hlast, hstore⟩
  case latched =>
    exact fun hst hlatched => Runs.gaugeCmd h (fun _ => rfl) (by decide) (Dev.gaugeCmd_unfreeze_latched hst hlatched)
  case ack =>
    intro hpending hseq
    obtain ⟨hack, hcommit, hgone, hevent⟩ := Dev.recAck_pending_spec hpending hseq
    exact (Runs.recAck h rfl).leaves (fun _ ht => ht) ⟨hack, hcommit, hgone, hevent, d.recAck_store seq⟩
  case otherAck => exact fun hother => Runs.recAck h (Dev.recAck_other hother)
  case off =>
    obtain ⟨hoff, hstate⟩ := d.gaugeEnable_end_spec d.gaugeKey
    exact (Runs.gaugeEnable h rfl).leaves (fun _ ht => ht) ⟨hoff, hstate, d.gaugeEnable_store false d.gaugeKey⟩
  case unsound => exact fun hoff hbad => Runs.gaugeEnable h (Dev.gaugeEnable_unsound hoff hbad _)
  case sound =>
    intro hoff hdiffer hi hv hcap htemps hpoints hkey hreport
    obtain ⟨hon, hstate⟩ := d.gaugeEntered_spec
    have hheld : d.gaugeKey = true := beq_iff_eq.mpr hkey
    have hentered := Dev.gaugeEnable_sound hoff ⟨hdiffer, hi, hv, hcap⟩ ⟨htemps, hpoints⟩ hreport hheld
    have hstore := d.gaugeEnable_store true d.gaugeKey
    rw [hentered] at hstore
    exact (Runs.gaugeEnable h hentered).leaves (fun _ ht => ht) ⟨hon, hstate, hstore⟩

end Sys2Proof.Machine
end

section
/-!
PROOFS. A tick of the gauge (R282, R284, R289, R291, R296, R298): when it counts, and what it counts.
-/
namespace Sys2Proof.Machine

/-- What a tick works on beside the registers: the results that came in, the charge that is pending, the ticks of rest and of the filter
instant, and a record that waits. -/
def GaugeS.tickInput (x : GaugeS) : MeanAcc × MeanAcc × Int × Nat × Nat × Option (List Word) :=
  (x.iAcc, x.vAcc, x.pend, x.restT, x.ticks, x.restore)

namespace Dev

@[simp] theorem gauge_ite (c : Prop) [Decidable c] (a b : Dev) : (if c then a else b).gauge = if c then a.gauge else b.gauge :=
  apply_ite _ _ _ _

@[simp] theorem gauge_setReg (d : Dev) (p o : Nat) (v : Word) (b : Nat) : (d.setReg p o v b).gauge = d.gauge := rfl
@[simp] theorem gauge_setFld (d : Dev) (p : Nat) (f : Fld) (v : Nat) : (d.setFld p f v).gauge = d.gauge := rfl
@[simp] theorem gauge_setFlag (d : Dev) (p : Nat) (f : Fld) (b : Bool) : (d.setFlag p f b).gauge = d.gauge := rfl
@[simp] theorem gauge_event (d : Dev) (p : Nat) (f : Fld) : (d.event p f).gauge = d.gauge := rfl
@[simp] theorem gauge_bump (d : Dev) (p o n : Nat) : (d.bump p o n).gauge = d.gauge := rfl
@[simp] theorem gauge_bump64 (d : Dev) (p o : Nat) (i : Int) : (d.bump64 p o i).gauge = d.gauge := rfl
@[simp] theorem gauge_modGauge (d : Dev) (f : GaugeS → GaugeS) : (d.modGauge f).gauge = f d.gauge := rfl

theorem gauge_fit (d : Dev) (w : Nat) (lo hi v : Int) : (d.fit w lo hi v).2.gauge = d.gauge := by
  unfold fit
  split <;> rfl

theorem reg_fit (d : Dev) (w : Nat) (lo hi v : Int) (p o : Nat) : (d.fit w lo hi v).2.reg p o = d.reg p o :=
  reg_of_regs (regs_fit d w lo hi v) p o 0

theorem reg_bump64_apart (d : Dev) (p : Nat) {o o' : Nat} (i : Int) (h : o' ≠ o ∧ o' ≠ o + 4) :
    (d.bump64 p o i).reg p o' = d.reg p o' := by
  rw [bump64, reg_setReg_apart _ _ h.2, reg_setReg_apart _ _ h.1]

theorem gaugeState_setReg_apart (d : Dev) {o : Nat} (v : Word) (h : R.HDR.STATUS ≠ o) :
    (d.setReg (pg .gauge) o v).gaugeState = d.gaugeState := fld_setReg_apart d v h

theorem gaugeState_setFlag_apart (d : Dev) {f : Fld} (b : Bool) (h : FieldsApart F.GAUGE.STATUS_GSTATE f) :
    (d.setFlag (pg .gauge) f b).gaugeState = d.gaugeState := fld_setFlag_apart d b h

theorem gaugeState_of_reg {d e : Dev} (h : e.reg (pg .gauge) R.HDR.STATUS = d.reg (pg .gauge) R.HDR.STATUS) :
    e.gaugeState = d.gaugeState := fld_of_reg h

/-! ## Ticks that count nothing (R281, R282, R296) -/

theorem gaugeTick_idle {d : Dev} (h : d.busLive = false ∨ d.gaugeState = 0) (f : Flaw) : d.gaugeTick f = d := by
  refine if_pos ?_
  simp only [busLive, Bool.and_eq_false_iff, decide_eq_false_iff_not] at h
  omega

/-- With supply, and in a state, a tick does something. -/
theorem not_tickIdle {d : Dev} (hlive : d.busLive = true) (hst : d.gaugeState ≠ 0) :
    ¬ (d.state < 2 ∨ 5 < d.state ∨ d.gaugeState = 0) := by
  have := not_powerless hlive
  omega

/-- The check bits of the kept fields decide first. -/
theorem gaugeTick_storageError {d : Dev} (hlive : d.busLive = true) (hst : d.gaugeState ≠ 0) :
    d.gaugeTick .double = d.gaugeStateFault 1 := by
  rw [gaugeTick, if_neg (not_tickIdle hlive hst), if_pos rfl]

theorem gaugeTick_held {d : Dev} (h : d.gaugeState = 4 ∨ d.gaugeHeld = true) {f : Flaw} (hf : f ≠ .double) : d.gaugeTick f = d := by
  by_cases hon : d.state < 2 ∨ 5 < d.state ∨ d.gaugeState = 0
  · exact if_pos hon
  · rw [gaugeTick, if_neg hon, if_neg hf, if_pos h]

/-! ## What comes before the count (R291, R298) -/

/-- WAKE_GAP ends with the first tick. -/
def wakeGapEnded (d : Dev) : Dev :=
  match d.gauge.gapFrom with
  | some t => (d.setReg (pg .gauge) R.GAUGE.WAKE_GAP (BitVec.ofNat 32 ((d.now - t) / 400000))).modGauge (fun x => { x with gapFrom := none })
  | none => d

/-- The corrections of a gauge back in RUN, with the charge and its variance as they stand after them. -/
def resumeCorrected (d : Dev) (q qq : Word) : Dev :=
  ((((d.setReg (pg .gauge) R.GAUGE.Q q).setReg (pg .gauge) R.GAUGE.P_QQ qq).setReg (pg .gauge) R.GAUGE.HIB_TIME 0).setFlag (pg .gauge)
    F.GAUGE.STATUS_GAP true).modGauge (fun x => { x with resumeDue := false })

theorem gaugeResume_cases (d : Dev) :
    d.gaugeResume = d.wakeGapEnded ∨ ∃ q qq, d.gaugeResume = d.wakeGapEnded.resumeCorrected q qq := by
  by_cases h : d.wakeGapEnded.gauge.resumeDue = true ∧ d.wakeGapEnded.gaugeState = 3
  · exact .inr ⟨_, _, if_pos h⟩
  · exact .inl (if_neg h)

/-- What the end of WAKE_GAP and the corrections leave, they leave together. -/
theorem gaugeResume_keeps {β : Type} (g : Dev → β) (d : Dev) (hgap : g d.wakeGapEnded = g d)
    (hcorrect : ∀ (e : Dev) (q qq : Word), g (e.resumeCorrected q qq) = g e) : g d.gaugeResume = g d := by
  obtain he | ⟨q, qq, he⟩ := d.gaugeResume_cases
  · rw [he, hgap]
  · rw [he, hcorrect, hgap]

theorem reg_gaugeResume_apart (d : Dev) {o : Nat} (h : o ≠ R.GAUGE.WAKE_GAP ∧ o ≠ R.GAUGE.Q ∧ o ≠ R.GAUGE.P_QQ ∧ o ≠ R.GAUGE.HIB_TIME ∧
    o ≠ R.HDR.STATUS) : d.gaugeResume.reg (pg .gauge) o = d.reg (pg .gauge) o := by
  obtain ⟨hgap, hq, hqq, hhib, hstatus⟩ := h
  refine gaugeResume_keeps (reg · (pg .gauge) o) d ?_ fun e q qq => ?_
  · unfold wakeGapEnded
    split
    · rw [reg_modGauge, reg_setReg_apart _ _ hgap]
    · rfl
  · rw [resumeCorrected, reg_modGauge, reg_setFlag_apart _ _ hstatus, reg_setReg_apart _ _ hhib, reg_setReg_apart _ _ hqq,
      reg_setReg_apart _ _ hq]

theorem gaugeState_gaugeResume (d : Dev) : d.gaugeResume.gaugeState = d.gaugeState := by
  refine gaugeResume_keeps gaugeState d ?_ fun e q qq => ?_
  · unfold wakeGapEnded
    split
    · rw [gaugeState_modGauge, gaugeState_setReg_apart _ _ (by decide)]
    · rfl
  · rw [resumeCorrected, gaugeState_modGauge, gaugeState_setFlag_apart _ _ (by decide), gaugeState_setReg_apart _ _ (by decide),
      gaugeState_setReg_apart _ _ (by decide), gaugeState_setReg_apart _ _ (by decide)]

theorem tickInput_gaugeResume (d : Dev) : d.gaugeResume.gauge.tickInput = d.gauge.tickInput := by
  refine gaugeResume_keeps (fun e => e.gauge.tickInput) d ?_ fun e q qq => ?_
  · unfold wakeGapEnded
    split
    · rw [gauge_modGauge, gauge_setReg]
      rfl
    · rfl
  · rw [resumeCorrected, gauge_modGauge, gauge_setFlag, gauge_setReg, gauge_setReg, gauge_setReg]
    rfl

/-- A tick takes the temperature where its source gives one, and marks it old where not. -/
theorem gaugeTemp_cases (d : Dev) :
    (∃ t, d.gaugeTemp = (d.setFlag (pg .gauge) F.GAUGE.STATUS_T_OLD false).modGauge (fun x => { x with lastT := some t })) ∨
      d.gaugeTemp = d.setFlag (pg .gauge) F.GAUGE.STATUS_T_OLD true := by
  unfold gaugeTemp
  dsimp only
  split
  · exact .inl ⟨_, rfl⟩
  · exact .inr rfl

theorem reg_gaugeTemp_apart (d : Dev) {o : Nat} (h : o ≠ R.HDR.STATUS) : d.gaugeTemp.reg (pg .gauge) o = d.reg (pg .gauge) o := by
  obtain ⟨t, he⟩ | he := d.gaugeTemp_cases
  · rw [he, reg_modGauge, reg_setFlag_apart _ _ h]
  · rw [he, reg_setFlag_apart _ _ h]

theorem gaugeState_gaugeTemp (d : Dev) : d.gaugeTemp.gaugeState = d.gaugeState := by
  obtain ⟨t, he⟩ | he := d.gaugeTemp_cases
  · rw [he, gaugeState_modGauge, gaugeState_setFlag_apart _ _ (by decide)]
  · rw [he, gaugeState_setFlag_apart _ _ (by decide)]

theorem tickInput_gaugeTemp (d : Dev) : d.gaugeTemp.gauge.tickInput = d.gauge.tickInput := by
  obtain ⟨t, he⟩ | he := d.gaugeTemp_cases
  · rw [he, gauge_modGauge, gauge_setFlag]
    rfl
  · rw [he, gauge_setFlag]

/-! ## The count (R284, R289) -/

/-- The mean current of a tick with results, in mA. -/
def tickCurrent (d : Dev) : Int :=
  d.gauge.iAcc.sum * d.sfld (pg .gauge) F.GAUGE.I_SCALE_VALUE / ((d.gauge.iAcc.n * 65536 : Nat) : Int)

/-- The mean voltage of a tick with results, in mV. -/
def tickVoltage (d : Dev) : Int :=
  d.gauge.vAcc.sum * d.fld (pg .gauge) F.GAUGE.V_SCALE_VALUE / ((d.gauge.vAcc.n * 65536 : Nat) : Int) +
    d.sfld (pg .gauge) F.GAUGE.V_OFFSET_VALUE

/-- The means of a tick shown, and the charge counted. -/
def tickShown (d : Dev) : Dev :=
  let v := d.fit 32 (-2147483648) 2147483647 d.tickVoltage
  ((v.2.setReg (pg .gauge) R.GAUGE.I_NOW (BitVec.ofInt 32 d.tickCurrent)).setReg (pg .gauge) R.GAUGE.V_NOW (BitVec.ofNat 32 v.1)).bump64
    (pg .gauge) R.GAUGE.CC d.tickCurrent

/-- The ticks of rest with one more at current `i`. -/
def restTicks (d : Dev) (i : Int) : Nat := if i.natAbs < d.fld (pg .gauge) F.GAUGE.REST_I then d.gauge.restT + 1 else 0

/-- Whether that many ticks are rest. -/
abbrev restReached (d : Dev) (rest : Nat) : Bool := decide (d.fld (pg .gauge) F.GAUGE.REST_TIME * 1000 ≤ rest)

/-- AT_REST shown; without rest SOC_V is not fresh. -/
def restShown (d : Dev) (rest : Bool) : Dev :=
  let e := d.setFlag (pg .gauge) F.GAUGE.STATUS_AT_REST rest
  if rest then e else e.setFlag (pg .gauge) F.GAUGE.STATUS_SOC_V_FRESH false

/-- The tick's count beside the registers: the means `mi` and `mv`, the current `i` and the ticks of rest. -/
def tickClosed (d : Dev) (mi mv : MeanAcc) (i : Int) (rest : Nat) : Dev :=
  let cc := d.gaugeCc
  d.modGauge (fun x => { x with
    iAcc := {}, vAcc := {}, iPrev := some mi, vPrev := some mv, pend := x.pend + i, restT := rest,
    ticks := x.ticks + 1,
    tickLog := (d.now, i) :: x.tickLog.filter (fun e => decide (d.now ≤ e.1 + 102000000)),
    probe := x.probe.map (fun q => { q with
      ccs := Vector.ofFn (fun k => if d.now ≤ probeClock q k.val then cc else q.ccs[k]) }) })

theorem gaugeMean_results (d : Dev) {acc : MeanAcc} (h : acc.n ≠ 0) (prev : Option MeanAcc) : d.gaugeMean acc prev = (acc, false, d) :=
  if_pos h

/-- A tick in which both inputs gave results counts their means, and no gap. -/
theorem gaugeCount_results {d : Dev} (hi : d.gauge.iAcc.n ≠ 0) (hv : d.gauge.vAcc.n ≠ 0) :
    d.gaugeCount = (d.tickShown.restShown (d.tickShown.restReached (d.tickShown.restTicks d.tickCurrent))).tickClosed d.gauge.iAcc
      d.gauge.vAcc d.tickCurrent (d.tickShown.restTicks d.tickCurrent) := by
  simp only [gaugeCount, gaugeMean_results d hi, gaugeMean_results d hv, Bool.or_self, Bool.false_eq_true, if_false]
  rfl

theorem gauge_tickShown (d : Dev) : d.tickShown.gauge = d.gauge := by
  rw [tickShown, gauge_bump64, gauge_setReg, gauge_setReg, gauge_fit]

theorem reg_tickShown_apart (d : Dev) {o : Nat} (h : o ≠ R.GAUGE.I_NOW ∧ o ≠ R.GAUGE.V_NOW ∧ o ≠ R.GAUGE.CC ∧ o ≠ R.GAUGE.CC + 4) :
    d.tickShown.reg (pg .gauge) o = d.reg (pg .gauge) o := by
  obtain ⟨hi, hv, hcc⟩ := h
  rw [tickShown, reg_bump64_apart _ _ _ hcc, reg_setReg_apart _ _ hv, reg_setReg_apart _ _ hi, reg_fit]

theorem current_tickShown (d : Dev) : d.tickShown.reg (pg .gauge) R.GAUGE.I_NOW = BitVec.ofInt 32 d.tickCurrent := by
  rw [tickShown, reg_bump64_apart _ _ _ (by decide), reg_setReg_apart _ _ (by decide), reg_setReg_self]

theorem restTicks_tickShown (d : Dev) (i : Int) : d.tickShown.restTicks i = d.restTicks i := by
  rw [restTicks, restTicks, gauge_tickShown, fld_of_reg (d.reg_tickShown_apart (by decide))]

theorem restReached_tickShown (d : Dev) (rest : Nat) : d.tickShown.restReached rest = d.restReached rest := by
  rw [restReached, restReached, fld_of_reg (d.reg_tickShown_apart (by decide))]

theorem gauge_restShown (d : Dev) (rest : Bool) : (d.restShown rest).gauge = d.gauge := by
  simp only [restShown, gauge_ite, gauge_setFlag, ite_self]

theorem reg_restShown_apart (d : Dev) (rest : Bool) {o : Nat} (h : o ≠ R.HDR.STATUS) :
    (d.restShown rest).reg (pg .gauge) o = d.reg (pg .gauge) o := by
  rw [restShown, reg_ite, reg_setFlag_apart (f := F.GAUGE.STATUS_SOC_V_FRESH) _ _ h, reg_setFlag_apart _ _ h, ite_self]

theorem gaugeState_restShown (d : Dev) (rest : Bool) : (d.restShown rest).gaugeState = d.gaugeState := by
  simp (disch := decide) only [gaugeState, restShown, fld_ite, fld_setFlag_apart, ite_self]

theorem atRest_restShown (d : Dev) (rest : Bool) : (d.restShown rest).flag (pg .gauge) F.GAUGE.STATUS_AT_REST = rest := by
  simp (disch := decide) only [restShown, flag_ite, flag_setFlag_apart, flag_setFlag_self, ite_self]

theorem reg_tickClosed (d : Dev) (mi mv : MeanAcc) (i : Int) (rest o : Nat) :
    (d.tickClosed mi mv i rest).reg (pg .gauge) o = d.reg (pg .gauge) o := rfl
theorem flag_tickClosed (d : Dev) (mi mv : MeanAcc) (i : Int) (rest : Nat) (f : Fld) :
    (d.tickClosed mi mv i rest).flag (pg .gauge) f = d.flag (pg .gauge) f := rfl
theorem gaugeState_tickClosed (d : Dev) (mi mv : MeanAcc) (i : Int) (rest : Nat) :
    (d.tickClosed mi mv i rest).gaugeState = d.gaugeState := rfl

/-- The counts of a tick beside the registers. -/
theorem gauge_tickClosed (d : Dev) (mi mv : MeanAcc) (i : Int) (rest : Nat) :
    (d.tickClosed mi mv i rest).gauge.pend = d.gauge.pend + i ∧ (d.tickClosed mi mv i rest).gauge.ticks = d.gauge.ticks + 1 ∧
      (d.tickClosed mi mv i rest).gauge.iAcc = {} ∧ (d.tickClosed mi mv i rest).gauge.iPrev = some mi ∧
      (d.tickClosed mi mv i rest).gauge.restore = d.gauge.restore := ⟨rfl, rfl, rfl, rfl, rfl⟩

theorem gaugeCount_registers {d : Dev} (hi : d.gauge.iAcc.n ≠ 0) (hv : d.gauge.vAcc.n ≠ 0) :
    d.gaugeCount.reg (pg .gauge) R.GAUGE.I_NOW = BitVec.ofInt 32 d.tickCurrent ∧
      d.gaugeCount.reg (pg .gauge) R.GAUGE.GAP_TICKS = d.reg (pg .gauge) R.GAUGE.GAP_TICKS ∧ d.gaugeCount.gaugeState = d.gaugeState ∧
      d.gaugeCount.flag (pg .gauge) F.GAUGE.STATUS_AT_REST = d.restReached (d.restTicks d.tickCurrent) := by
  rw [gaugeCount_results hi hv, restTicks_tickShown, restReached_tickShown, reg_tickClosed, reg_tickClosed, gaugeState_tickClosed,
    flag_tickClosed, reg_restShown_apart _ _ (by decide), reg_restShown_apart _ _ (by decide), current_tickShown,
    reg_tickShown_apart _ (by decide), gaugeState_restShown, gaugeState_of_reg (d.reg_tickShown_apart (by decide)), atRest_restShown]
  exact ⟨rfl, rfl, rfl, rfl⟩

theorem gaugeCount_counts {d : Dev} (hi : d.gauge.iAcc.n ≠ 0) (hv : d.gauge.vAcc.n ≠ 0) :
    d.gaugeCount.gauge.pend = d.gauge.pend + d.tickCurrent ∧ d.gaugeCount.gauge.ticks = d.gauge.ticks + 1 ∧
      d.gaugeCount.gauge.iAcc = {} ∧ d.gaugeCount.gauge.iPrev = some d.gauge.iAcc ∧ d.gaugeCount.gauge.restore = d.gauge.restore := by
  have hcounts := (d.tickShown.restShown (d.tickShown.restReached (d.tickShown.restTicks d.tickCurrent))).gauge_tickClosed d.gauge.iAcc
    d.gauge.vAcc d.tickCurrent (d.tickShown.restTicks d.tickCurrent)
  rwa [gauge_restShown, gauge_tickShown, ← gaugeCount_results hi hv] at hcounts

/-! ## A tick that counts (R284) -/

/-- The gauge as a tick finds it for its count. -/
def tickReady (d : Dev) : Dev := d.gaugeResume.gaugeTemp

theorem gaugeState_tickReady (d : Dev) : d.tickReady.gaugeState = d.gaugeState := by
  rw [tickReady, gaugeState_gaugeTemp, gaugeState_gaugeResume]

theorem reg_tickReady_apart (d : Dev) {o : Nat} (h : o ≠ R.GAUGE.WAKE_GAP ∧ o ≠ R.GAUGE.Q ∧ o ≠ R.GAUGE.P_QQ ∧ o ≠ R.GAUGE.HIB_TIME ∧
    o ≠ R.HDR.STATUS) : d.tickReady.reg (pg .gauge) o = d.reg (pg .gauge) o := by
  obtain ⟨-, -, -, -, hstatus⟩ := id h
  rw [tickReady, reg_gaugeTemp_apart _ hstatus, reg_gaugeResume_apart _ h]

/-- What comes before the count leaves what the count works on. -/
theorem gauge_tickReady (d : Dev) : d.tickReady.gauge.iAcc = d.gauge.iAcc ∧ d.tickReady.gauge.vAcc = d.gauge.vAcc ∧
    d.tickReady.gauge.pend = d.gauge.pend ∧ d.tickReady.gauge.restT = d.gauge.restT ∧ d.tickReady.gauge.ticks = d.gauge.ticks ∧
    d.tickReady.gauge.restore = d.gauge.restore := by
  have h : d.tickReady.gauge.tickInput = d.gauge.tickInput := (tickInput_gaugeTemp _).trans d.tickInput_gaugeResume
  simpa only [GaugeS.tickInput, Prod.mk.injEq] using h

theorem tickCurrent_tickReady (d : Dev) : d.tickReady.tickCurrent = d.tickCurrent := by
  obtain ⟨hi, -⟩ := d.gauge_tickReady
  rw [tickCurrent, tickCurrent, hi, sfld, sfld, fld_of_reg (d.reg_tickReady_apart (by decide))]

theorem rest_tickReady (d : Dev) (i : Int) : d.tickReady.restReached (d.tickReady.restTicks i) = d.restReached (d.restTicks i) := by
  obtain ⟨-, -, -, hrest, -⟩ := d.gauge_tickReady
  rw [restReached, restReached, restTicks, restTicks, hrest, fld_of_reg (d.reg_tickReady_apart (by decide)),
    fld_of_reg (d.reg_tickReady_apart (by decide))]

section Counting
variable {d : Dev} (hi : d.gauge.iAcc.n ≠ 0) (hv : d.gauge.vAcc.n ≠ 0)
include hi hv

/-- A tick in a state that counts, with results and with no record waiting. -/
theorem gaugeTick_counts {f : Flaw} (hf : f ≠ .double) (hheld : d.gaugeHeld = false) (hlive : d.busLive = true) (hlo : 1 ≤ d.gaugeState)
    (hhi : d.gaugeState ≤ 3) (hnone : d.gauge.restore = none) : d.gaugeTick f = d.tickReady.gaugeCount := by
  have hst : d.gaugeState ≠ 0 := by omega
  have hfree : ¬ (d.gaugeState = 4 ∨ d.gaugeHeld = true) := by
    rw [hheld]
    simp only [Bool.false_eq_true, or_false]
    omega
  obtain ⟨hiReady, hvReady, -, -, -, hrestore⟩ := d.gauge_tickReady
  rw [← hiReady] at hi
  rw [← hvReady] at hv
  obtain ⟨-, -, -, -, hkept⟩ := gaugeCount_counts hi hv
  have hwaiting : d.gaugeResume.gaugeTemp.gaugeCount.gauge.restore = none := hkept.trans (hrestore.trans hnone)
  rw [gaugeTick, if_neg (not_tickIdle hlive hst), if_neg hf, if_neg hfree]
  simp only [hwaiting]
  rfl

theorem gaugeCount_tickReady_registers : d.tickReady.gaugeCount.reg (pg .gauge) R.GAUGE.I_NOW = BitVec.ofInt 32 d.tickCurrent ∧
    d.tickReady.gaugeCount.reg (pg .gauge) R.GAUGE.GAP_TICKS = d.reg (pg .gauge) R.GAUGE.GAP_TICKS ∧
    d.tickReady.gaugeCount.gaugeState = d.gaugeState ∧
    d.tickReady.gaugeCount.flag (pg .gauge) F.GAUGE.STATUS_AT_REST = d.restReached (d.restTicks d.tickCurrent) := by
  obtain ⟨hiReady, hvReady, -⟩ := d.gauge_tickReady
  rw [← hiReady] at hi
  rw [← hvReady] at hv
  have h := gaugeCount_registers hi hv
  rwa [tickCurrent_tickReady, rest_tickReady, gaugeState_tickReady, reg_tickReady_apart _ (by decide)] at h

theorem gaugeCount_tickReady_counts : d.tickReady.gaugeCount.gauge.pend = d.gauge.pend + d.tickCurrent ∧
    d.tickReady.gaugeCount.gauge.ticks = d.gauge.ticks + 1 ∧ d.tickReady.gaugeCount.gauge.iAcc = {} ∧
    d.tickReady.gaugeCount.gauge.iPrev = some d.gauge.iAcc := by
  obtain ⟨hiReady, hvReady, hpend, -, hticks, -⟩ := d.gauge_tickReady
  rw [← hiReady] at hi
  rw [← hvReady] at hv
  obtain ⟨hcharge, htick, hacc, hprev, -⟩ := gaugeCount_counts hi hv
  rw [hpend, tickCurrent_tickReady] at hcharge
  rw [hticks] at htick
  rw [hiReady] at hprev
  exact ⟨hcharge, htick, hacc, hprev⟩

end Counting

end Dev
end Sys2Proof.Machine
end

section
/-!
PROOFS. A filter instant of the gauge (R287–R289, R300, R304): when it comes, the begin at rest, and what a run in RUN leaves.
-/
namespace Sys2Proof.Machine
namespace Dev

theorem reg_bumpFldSat_apart (d : Dev) {p o : Nat} {f : Fld} (h : o ≠ f.ofs) : (d.bumpFldSat p f).reg p o = d.reg p o := by
  rw [bumpFldSat, reg_ite, reg_setFld_apart _ _ h, ite_self]

theorem gauge_bumpFldSat (d : Dev) (p : Nat) (f : Fld) : (d.bumpFldSat p f).gauge = d.gauge := by
  rw [bumpFldSat, gauge_ite, gauge_setFld, ite_self]

/-! ## The filter's state in the registers (R285) -/

theorem reg_setFilterX_apart (d : Dev) (x : FilterX) {o : Nat} (h : o ≠ R.GAUGE.Q ∧ o ≠ R.GAUGE.VP ∧ o ≠ R.GAUGE.CAP ∧ o ≠ R.GAUGE.P_QQ ∧
    o ≠ R.GAUGE.P_VV ∧ o ≠ R.GAUGE.P_CC) : (d.setFilterX x).reg (pg .gauge) o = d.reg (pg .gauge) o := by
  obtain ⟨hq, hvp, hcap, hqq, hvv, hcc⟩ := h
  rw [setFilterX, reg_modGauge, reg_setReg_apart _ _ hcc, reg_setReg_apart _ _ hvv, reg_setReg_apart _ _ hqq, reg_setReg_apart _ _ hcap,
    reg_setReg_apart _ _ hvp, reg_setReg_apart _ _ hq]

theorem reg_setFilterX (d : Dev) (x : FilterX) : (d.setFilterX x).reg (pg .gauge) R.GAUGE.Q = x.q ∧
    (d.setFilterX x).reg (pg .gauge) R.GAUGE.VP = x.vp ∧ (d.setFilterX x).reg (pg .gauge) R.GAUGE.CAP = x.cap := by
  simp (disch := decide) only [setFilterX, reg_modGauge, reg_setReg_apart, reg_setReg_self, and_self]

theorem ticks_setFilterX (d : Dev) (x : FilterX) : (d.setFilterX x).gauge.ticks = d.gauge.ticks := by
  rw [setFilterX, gauge_modGauge]
  rfl

/-! ## SOC and the record (R290, R300) -/

theorem reg_showSoc_apart (d : Dev) {o : Nat} (h : o ≠ R.GAUGE.SOC ∧ o ≠ R.HDR.STATUS) :
    d.showSoc.reg (pg .gauge) o = d.reg (pg .gauge) o := by
  rw [showSoc, reg_setFlag_apart _ _ h.2, reg_setFlag_apart _ _ h.2, reg_setReg_apart _ _ h.1, reg_fit]

theorem gauge_showSoc (d : Dev) : d.showSoc.gauge = d.gauge := by
  rw [showSoc, gauge_setFlag, gauge_setFlag, gauge_setReg, gauge_fit]

theorem reg_showSocV_apart (d : Dev) (sv : Word) {o : Nat} (h : o ≠ R.GAUGE.SOC_V ∧ o ≠ R.HDR.STATUS) :
    (d.showSocV sv).reg (pg .gauge) o = d.reg (pg .gauge) o := by
  rw [showSocV, reg_modGauge, reg_setFlag_apart _ _ h.2, reg_setReg_apart _ _ h.1, reg_fit]

theorem ticks_showSocV (d : Dev) (sv : Word) : (d.showSocV sv).gauge.ticks = d.gauge.ticks := by
  rw [showSocV, gauge_modGauge, gauge_setFlag, gauge_setReg, gauge_fit]

/-- A run asks no longer for a record. -/
def requestTaken (d : Dev) : Dev := d.modGauge (fun x => { x with pubReq := false })

/-- A record pending. -/
def recordFormed (d : Dev) : Dev :=
  let e := (d.setFlag (pg .gauge) F.GAUGE.STATUS_PENDING true).setReg (pg .gauge) R.GAUGE.REC_SEQ (d.recordBody.getD 1 0)
  e.modGauge (fun x => { x with record := d.recordBody ++ [recordCrc d.recordBody], recAt := e.now })

/-- At the end of a run a record is formed, or none. -/
theorem formRecord_cases (d : Dev) : d.formRecord = d.requestTaken.recordFormed ∨ d.formRecord = d.requestTaken :=
  ite_eq_or_eq _ _ _

theorem reg_formRecord_apart (d : Dev) {o : Nat} (h : o ≠ R.GAUGE.REC_SEQ ∧ o ≠ R.HDR.STATUS) :
    d.formRecord.reg (pg .gauge) o = d.reg (pg .gauge) o := by
  obtain he | he := d.formRecord_cases
  · rw [he, recordFormed, reg_modGauge, reg_setReg_apart _ _ h.1, reg_setFlag_apart _ _ h.2, requestTaken, reg_modGauge]
  · rw [he, requestTaken, reg_modGauge]

theorem gauge_formRecord (d : Dev) : d.formRecord.gauge.ticks = d.gauge.ticks ∧ d.formRecord.gauge.ccPrev = d.gauge.ccPrev := by
  obtain he | he := d.formRecord_cases
  · rw [he, recordFormed, gauge_modGauge, gauge_setReg, gauge_setFlag, requestTaken, gauge_modGauge]
    exact ⟨rfl, rfl⟩
  · rw [he, requestTaken, gauge_modGauge]
    exact ⟨rfl, rfl⟩

theorem gaugeReport_off {d : Dev} (h : d.flag (pg .gauge) F.GAUGE.CFG_REP_EN = false) : d.gaugeReport = d :=
  if_pos (by rw [h]; rfl)

/-! ## What a step of the filter leaves of the page (R287–R289) -/

/-- The registers that a step of the filter writes. -/
def filterStepRegs : List Nat :=
  [R.HDR.STATUS, R.HDR.EVENT, R.GAUGE.SOC_V, R.GAUGE.INNOV, R.GAUGE.Q_COUL, R.GAUGE.Q_VOLT, R.GAUGE.REJECTS, R.GAUGE.ANCHORS,
    R.GAUGE.UPD_SKIPPED]

/-- The anchor in the registers. -/
def anchored (d : Dev) (coulomb volt : Word) : Dev :=
  let e := (d.setReg (pg .gauge) R.GAUGE.Q_COUL coulomb).setReg (pg .gauge) R.GAUGE.Q_VOLT volt
  let e := (e.setFlag (pg .gauge) F.GAUGE.STATUS_COULOMB_DRIFT false).setFld (pg .gauge) F.GAUGE.STATUS_REJ_RUN 0
  ((e.setFlag (pg .gauge) F.GAUGE.STATUS_GAP false).bump (pg .gauge) R.GAUGE.ANCHORS).event (pg .gauge) F.GAUGE.EVENT_ANCHOR

/-- An innovation shown. -/
def innovShown (d : Dev) (nu : Word) : Dev := d.setReg (pg .gauge) R.GAUGE.INNOV nu

/-- An update rejected. -/
def updateRejected (d : Dev) : Dev := (d.bump (pg .gauge) R.GAUGE.REJECTS).bumpFldSat (pg .gauge) F.GAUGE.STATUS_REJ_RUN

theorem anchor_eq (d : Dev) (x : FilterX) (t : Int) (sv : Word) :
    (d.anchor x t sv).2 = (d.anchored x.q (F32.mul sv x.cap)).modGauge (fun s => { s with pubReq := true }) := rfl

/-- An update shows its innovation; taken it ends the run of rejections, and rejected it may make a drift due. -/
theorem filterUpdate_cases (d : Dev) (x : FilterX) (t : Int) : ∃ nu, (d.filterUpdate x t).2 = d.innovShown nu ∨
    (d.filterUpdate x t).2 = (d.innovShown nu).setFld (pg .gauge) F.GAUGE.STATUS_REJ_RUN 0 ∨
    (d.filterUpdate x t).2 = (d.innovShown nu).updateRejected.modGauge (fun s => { s with driftDue := true }) ∨
    (d.filterUpdate x t).2 = (d.innovShown nu).updateRejected := by
  unfold filterUpdate
  dsimp only
  split
  · exact ⟨_, .inl rfl⟩
  · split
    · exact ⟨_, .inr (.inl rfl)⟩
    · dsimp only
      split
      · exact ⟨_, .inr (.inr (.inl rfl))⟩
      · exact ⟨_, .inr (.inr (.inr rfl))⟩

/-- A step is skipped, or it shows SOC_V at rest and anchors, or it updates: what each of these leaves, the step leaves. -/
theorem filterStep_keeps {β : Type} (g : Dev → β) (d : Dev) (hskip : ∀ e : Dev, g (e.bump (pg .gauge) R.GAUGE.UPD_SKIPPED) = g e)
    (hvolt : ∀ (e : Dev) (sv : Word), g (e.showSocV sv) = g e)
    (hanchor : ∀ (e : Dev) (x : FilterX) (t : Int) (sv : Word), g (e.anchor x t sv).2 = g e)
    (hupdate : ∀ (e : Dev) (x : FilterX) (t : Int), g (e.filterUpdate x t).2 = g e) : g d.filterStep.2 = g d := by
  unfold filterStep
  dsimp only
  split
  · exact hskip d
  · split
    · split
      · exact (hanchor _ _ _ _).trans (hvolt d _)
      · exact (hupdate _ _ _).trans (hvolt d _)
    · exact hupdate d _ _

theorem reg_anchor_apart (d : Dev) (x : FilterX) (t : Int) (sv : Word) {o : Nat} (h : ∀ w ∈ filterStepRegs, o ≠ w) :
    (d.anchor x t sv).2.reg (pg .gauge) o = d.reg (pg .gauge) o := by
  have hstatus : o ≠ R.HDR.STATUS := h _ (by decide)
  have hanchors : o ≠ R.GAUGE.ANCHORS := h _ (by decide)
  rw [anchor_eq, reg_modGauge, anchored, reg_event_apart _ (h _ (by decide)), reg_bump_other _ _ _ _ _ _ _ (by simpa using hanchors),
    reg_setFlag_apart _ _ hstatus, reg_setFld_apart _ _ hstatus, reg_setFlag_apart _ _ hstatus, reg_setReg_apart _ _ (h _ (by decide)),
    reg_setReg_apart _ _ (h _ (by decide))]

theorem ticks_anchor (d : Dev) (x : FilterX) (t : Int) (sv : Word) : (d.anchor x t sv).2.gauge.ticks = d.gauge.ticks := by
  rw [anchor_eq, gauge_modGauge, anchored, gauge_event, gauge_bump, gauge_setFlag, gauge_setFld, gauge_setFlag, gauge_setReg,
    gauge_setReg]

theorem reg_updateRejected_apart (d : Dev) {o : Nat} (h : o ≠ R.GAUGE.REJECTS ∧ o ≠ R.HDR.STATUS) :
    d.updateRejected.reg (pg .gauge) o = d.reg (pg .gauge) o := by
  rw [updateRejected, reg_bumpFldSat_apart _ h.2, reg_bump_other _ _ _ _ _ _ _ (by simpa using h.1)]

theorem gauge_updateRejected (d : Dev) : d.updateRejected.gauge = d.gauge := by
  rw [updateRejected, gauge_bumpFldSat, gauge_bump]

theorem reg_filterUpdate_apart (d : Dev) (x : FilterX) (t : Int) {o : Nat} (h : ∀ w ∈ filterStepRegs, o ≠ w) :
    (d.filterUpdate x t).2.reg (pg .gauge) o = d.reg (pg .gauge) o := by
  have hstatus : o ≠ R.HDR.STATUS := h _ (by decide)
  have hinnov : ∀ nu, (d.innovShown nu).reg (pg .gauge) o = d.reg (pg .gauge) o := fun nu => reg_setReg_apart d nu (h _ (by decide))
  have hrejected := fun nu => (d.innovShown nu).reg_updateRejected_apart ⟨h _ (by decide), hstatus⟩
  obtain ⟨nu, he | he | he | he⟩ := d.filterUpdate_cases x t
  · rw [he, hinnov]
  · rw [he, reg_setFld_apart _ _ hstatus, hinnov]
  · rw [he, reg_modGauge, hrejected, hinnov]
  · rw [he, hrejected, hinnov]

theorem ticks_filterUpdate (d : Dev) (x : FilterX) (t : Int) : (d.filterUpdate x t).2.gauge.ticks = d.gauge.ticks := by
  obtain ⟨nu, he | he | he | he⟩ := d.filterUpdate_cases x t
  · rw [he, innovShown, gauge_setReg]
  · rw [he, gauge_setFld, innovShown, gauge_setReg]
  · rw [he, gauge_modGauge, gauge_updateRejected, innovShown, gauge_setReg]
  · rw [he, gauge_updateRejected, innovShown, gauge_setReg]

theorem reg_filterStep_apart (d : Dev) {o : Nat} (h : ∀ w ∈ filterStepRegs, o ≠ w) :
    d.filterStep.2.reg (pg .gauge) o = d.reg (pg .gauge) o := by
  have hskipped : o ≠ R.GAUGE.UPD_SKIPPED := h _ (by decide)
  exact filterStep_keeps (reg · (pg .gauge) o) d (fun e => reg_bump_other e _ _ _ _ _ _ (by simpa using hskipped))
    (fun e sv => reg_showSocV_apart e sv ⟨h _ (by decide), h _ (by decide)⟩) (fun e x t sv => reg_anchor_apart e x t sv h)
    fun e x t => reg_filterUpdate_apart e x t h

theorem ticks_filterStep (d : Dev) : d.filterStep.2.gauge.ticks = d.gauge.ticks :=
  filterStep_keeps (fun e => e.gauge.ticks) d (fun _ => rfl) ticks_showSocV ticks_anchor ticks_filterUpdate

/-! ## A filter instant (R287, R304) -/

/-- The ticks of the instant counted off. -/
def instantTaken (d : Dev) : Dev := d.modGauge (fun x => { x with ticks := 0 })

theorem filterRun_early {d : Dev} (h : d.gauge.ticks < 100) : d.filterRun = d := if_pos h

/-- A run that is counted, with what its step of the filter leaves stored. -/
def filterStored (d : Dev) : Dev :=
  ((d.filterStep.2.setFilterX d.filterStep.1).modGauge (fun x => { x with ccPrev := d.gaugeCc })).showSoc

/-- A run that is counted: its result stands where it is finite, or it is a fault. -/
def filterCounted (d : Dev) : Dev := if d.filterStep.1.ok then d.filterStored.formRecord.gaugeReport else d.gaugeStateFault 2

/-- A filter instant begins the filter at rest in INIT, and in RUN reports a drift left over from the run before and counts a run. -/
theorem filterRun_instant {d : Dev} (h : 100 ≤ d.gauge.ticks) : d.filterRun =
    if d.gaugeState = 2 ∧ d.flag (pg .gauge) F.GAUGE.STATUS_AT_REST = true then d.instantTaken.gaugeInit
    else if d.gaugeState = 3 then (d.instantTaken.gaugeDrift.bump (pg .gauge) R.GAUGE.FILTER_RUNS).filterCounted
    else d.instantTaken := if_neg (Nat.not_lt.mpr h)

theorem filterRun_otherState {d : Dev} (h : 100 ≤ d.gauge.ticks) (hst : d.gaugeState ∉ [2, 3]) : d.filterRun = d.instantTaken := by
  simp only [List.mem_cons, List.not_mem_nil, or_false, not_or] at hst
  rw [filterRun_instant h, if_neg fun hinit => hst.1 hinit.1, if_neg hst.2]

theorem filterRun_unrested {d : Dev} (h : 100 ≤ d.gauge.ticks) (hst : d.gaugeState = 2)
    (hrest : d.flag (pg .gauge) F.GAUGE.STATUS_AT_REST = false) : d.filterRun = d.instantTaken := by
  rw [filterRun_instant h, hst, hrest, if_neg (by decide), if_neg (by decide)]

theorem filterRun_init {d : Dev} (h : 100 ≤ d.gauge.ticks) (hst : d.gaugeState = 2)
    (hrest : d.flag (pg .gauge) F.GAUGE.STATUS_AT_REST = true) : d.filterRun = d.instantTaken.gaugeInit := by
  rw [filterRun_instant h, if_pos ⟨hst, hrest⟩]

theorem filterRun_run {d : Dev} (h : 100 ≤ d.gauge.ticks) (hst : d.gaugeState = 3) :
    d.filterRun = (d.instantTaken.gaugeDrift.bump (pg .gauge) R.GAUGE.FILTER_RUNS).filterCounted := by
  have hinit : ¬ (d.gaugeState = 2 ∧ d.flag (pg .gauge) F.GAUGE.STATUS_AT_REST = true) := by omega
  rw [filterRun_instant h, if_neg hinit, if_pos hst]

theorem filterStored_registers (d : Dev) : d.filterStored.reg (pg .gauge) R.GAUGE.Q = d.filterStep.1.q ∧
    d.filterStored.reg (pg .gauge) R.GAUGE.VP = d.filterStep.1.vp ∧ d.filterStored.reg (pg .gauge) R.GAUGE.CAP = d.filterStep.1.cap := by
  rw [filterStored, reg_showSoc_apart _ (by decide), reg_showSoc_apart _ (by decide), reg_showSoc_apart _ (by decide)]
  exact reg_setFilterX _ _

/-- A run leaves what neither its step nor the storing of its result writes. -/
theorem reg_filterStored_apart (d : Dev) {o : Nat} (h : ∀ w ∈ filterStepRegs, o ≠ w) (hsoc : o ≠ R.GAUGE.SOC)
    (hx : o ≠ R.GAUGE.Q ∧ o ≠ R.GAUGE.VP ∧ o ≠ R.GAUGE.CAP ∧ o ≠ R.GAUGE.P_QQ ∧ o ≠ R.GAUGE.P_VV ∧ o ≠ R.GAUGE.P_CC) :
    d.filterStored.reg (pg .gauge) o = d.reg (pg .gauge) o := by
  rw [filterStored, reg_showSoc_apart _ ⟨hsoc, h _ (by decide)⟩, reg_modGauge, reg_setFilterX_apart _ _ hx, reg_filterStep_apart _ h]

theorem gauge_filterStored (d : Dev) : d.filterStored.gauge.ticks = d.gauge.ticks ∧ d.filterStored.gauge.ccPrev = d.gaugeCc := by
  rw [filterStored, gauge_showSoc, gauge_modGauge]
  exact ⟨(ticks_setFilterX _ _).trans d.ticks_filterStep, rfl⟩

/-- A finite run leaves its result, and without reports a record at most. -/
theorem filterCounted_finite {d : Dev} (hok : d.filterStep.1.ok = true) (hreport : d.flag (pg .gauge) F.GAUGE.CFG_REP_EN = false) :
    d.filterCounted = d.filterStored.formRecord := by
  have hconfig : d.filterStored.formRecord.reg (pg .gauge) R.GAUGE.CFG = d.reg (pg .gauge) R.GAUGE.CFG := by
    rw [reg_formRecord_apart _ (by decide), reg_filterStored_apart _ (by decide) (by decide) (by decide)]
  have hoff : d.filterStored.formRecord.flag (pg .gauge) F.GAUGE.CFG_REP_EN = false := (flag_of_fld (fld_of_reg hconfig)).trans hreport
  rw [filterCounted, if_pos hok, gaugeReport_off hoff]

theorem filterCounted_infinite {d : Dev} (hok : d.filterStep.1.ok = false) : d.filterCounted = d.gaugeStateFault 2 :=
  if_neg (by rw [hok]; decide)

theorem filterStored_formRecord_spec (d : Dev) :
    d.filterStored.formRecord.reg (pg .gauge) R.GAUGE.FILTER_RUNS = d.reg (pg .gauge) R.GAUGE.FILTER_RUNS ∧
      d.filterStored.formRecord.gauge.ticks = d.gauge.ticks ∧
      d.filterStored.formRecord.reg (pg .gauge) R.GAUGE.Q = d.filterStep.1.q ∧
      d.filterStored.formRecord.reg (pg .gauge) R.GAUGE.VP = d.filterStep.1.vp ∧
      d.filterStored.formRecord.reg (pg .gauge) R.GAUGE.CAP = d.filterStep.1.cap ∧
      d.filterStored.formRecord.gauge.ccPrev = d.gaugeCc := by
  obtain ⟨hq, hvp, hcap⟩ := d.filterStored_registers
  obtain ⟨hticks, hcc⟩ := d.gauge_filterStored
  rw [reg_formRecord_apart _ (by decide), reg_formRecord_apart _ (by decide), reg_formRecord_apart _ (by decide),
    reg_formRecord_apart _ (by decide), reg_filterStored_apart _ (by decide) (by decide) (by decide), d.filterStored.gauge_formRecord.1,
    d.filterStored.gauge_formRecord.2]
  exact ⟨rfl, hticks, hq, hvp, hcap, hcc⟩

/-! ## The begin at rest (R304) -/

/-- The filter begun, in RUN with its fields kept from here on. -/
def filterBegun (d : Dev) : Dev :=
  let e := ((d.setReg (pg .gauge) R.GAUGE.ACK_SEQ 0).setFlag (pg .gauge) F.GAUGE.STATUS_RETAINED true).gaugeRun
  e.modGauge (fun x => { x with ccPrev := e.gaugeCc, recAt := e.now })

/-- The impedance with which the filter begins. -/
def impedanceSet (d : Dev) (rser rpol cpol : Word) : Dev :=
  ((d.setReg (pg .gauge) R.GAUGE.RSER rser).setReg (pg .gauge) R.GAUGE.RPOL rpol).setReg (pg .gauge) R.GAUGE.CPOL cpol

/-- The filter begins at the nominal capacity; a temperature that is not known is free. -/
theorem gaugeInit_cases (d : Dev) : ∃ (e : Dev) (x : FilterX) (rser rpol cpol : Word),
    d.gaugeInit = ((e.setFilterX x).impedanceSet rser rpol cpol).filterBegun ∧
      x.cap = F32.ofInt (d.fld (pg .gauge) F.GAUGE.CAP_NOM_CAP * 36) := by
  unfold gaugeInit
  cases d.gauge.lastT with
  | none => exact ⟨d.takeFree.2, _, _, _, _, rfl, rfl⟩
  | some t => exact ⟨d, _, _, _, _, rfl, rfl⟩

theorem filterBegun_spec (d : Dev) : d.filterBegun.gaugeState = 3 ∧ d.filterBegun.flag (pg .gauge) F.GAUGE.STATUS_RETAINED = true ∧
    d.filterBegun.reg (pg .gauge) R.GAUGE.ACK_SEQ = 0 ∧
    d.filterBegun.reg (pg .gauge) R.GAUGE.CAP = d.reg (pg .gauge) R.GAUGE.CAP := by
  have hreg : ∀ o, o ≠ R.HDR.STATUS → d.filterBegun.reg (pg .gauge) o = (d.setReg (pg .gauge) R.GAUGE.ACK_SEQ 0).reg (pg .gauge) o := by
    intro o ho
    rw [filterBegun, reg_modGauge, gaugeRun, reg_modGauge, reg_setGaugeState_apart _ _ ho, reg_setFlag_apart _ _ ho]
  rw [hreg _ (by decide), hreg _ (by decide), reg_setReg_self, reg_setReg_apart _ _ (by decide), filterBegun, gaugeState_modGauge,
    gaugeState_gaugeRun, flag_modGauge, flag_gaugeRun_apart _ (by decide), flag_setFlag_self _ _ _ _ (by decide) (by decide)]
  exact ⟨rfl, rfl, rfl, rfl⟩

theorem gaugeInit_spec (d : Dev) : d.gaugeInit.gaugeState = 3 ∧ d.gaugeInit.flag (pg .gauge) F.GAUGE.STATUS_RETAINED = true ∧
    d.gaugeInit.reg (pg .gauge) R.GAUGE.ACK_SEQ = 0 ∧
    d.gaugeInit.reg (pg .gauge) R.GAUGE.CAP = F32.ofInt (d.fld (pg .gauge) F.GAUGE.CAP_NOM_CAP * 36) := by
  obtain ⟨e, x, rser, rpol, cpol, he, hcap⟩ := d.gaugeInit_cases
  have hset : ((e.setFilterX x).impedanceSet rser rpol cpol).reg (pg .gauge) R.GAUGE.CAP = x.cap := by
    rw [impedanceSet, reg_setReg_apart _ _ (by decide), reg_setReg_apart _ _ (by decide), reg_setReg_apart _ _ (by decide),
      (e.reg_setFilterX x).2.2]
  rw [he, ← hcap, ← hset]
  exact filterBegun_spec _

/-! ## A drift (R288) -/

theorem gaugeDrift_none {d : Dev} (h : d.gauge.driftDue = false) : d.gaugeDrift = d := if_neg (by rw [h]; decide)

/-- A drift is reported with the run of rejections that it ends. -/
theorem gaugeDrift_due {d : Dev} (h : d.gauge.driftDue = true) : d.gaugeDrift =
    (((d.setFlag (pg .gauge) F.GAUGE.STATUS_COULOMB_DRIFT true).event (pg .gauge) F.GAUGE.EVENT_DRIFT).modGauge
      (fun x => { x with driftDue := false })).raise .gauge 0 B.GAUGE.GAUGE_DRIFT (d.fld (pg .gauge) F.GAUGE.STATUS_REJ_RUN) := by
  have hrun : ((d.setFlag (pg .gauge) F.GAUGE.STATUS_COULOMB_DRIFT true).event (pg .gauge) F.GAUGE.EVENT_DRIFT).fld (pg .gauge)
      F.GAUGE.STATUS_REJ_RUN = d.fld (pg .gauge) F.GAUGE.STATUS_REJ_RUN := by
    rw [fld_event_apart _ (by decide), fld_setFlag_apart _ _ (by decide)]
  rw [← hrun]
  exact if_pos h

end Dev
end Sys2Proof.Machine
end

section
/-!
PROOFS. A record published in the mailbox of the gauge (R300), and the input that wakes the device (R297).
-/
namespace Sys2Proof.Machine
namespace Dev

/-! ## A record published (R300) -/

/-- Words written one after the other read what was written. -/
theorem reg_each_words (d : Dev) (p o n : Nat) (f : Nat → Word) {i : Nat} (hi : i < n) :
    (d.each (List.range n) fun d i => d.setReg p (o + 4 * i) (f i)).reg p (o + 4 * i) = f i := by
  induction n with
  | zero => omega
  | succ n ih =>
    have hlast : d.each (List.range (n + 1)) (fun d i => d.setReg p (o + 4 * i) (f i)) =
        (d.each (List.range n) fun d i => d.setReg p (o + 4 * i) (f i)).setReg p (o + 4 * n) (f n) := by
      rw [each, List.range_succ, List.foldl_concat]
      rfl
    rw [hlast]
    by_cases h : i = n
    · rw [h, reg_setReg_self]
    · rw [reg_setReg_apart _ _ (by omega), ih (by omega)]

/-- The record in the message words of mailbox `n`, which is FULL. -/
def recordWritten (d : Dev) (n : Nat) : Dev :=
  ((d.setFld (pg .mbox n) F.MBOX.STATE_STATE 2).setFld (pg .mbox n) F.MBOX.STATE_HOLDER 5).each (List.range 16)
    fun e i => e.setReg (pg .mbox n) (R.MBOX.MSG + 4 * i) (d.gauge.record.getD i 0)

/-- Bell `bell` of mailbox `n` rung for a message that is sent. -/
def bellRung (d : Dev) (n bell : Nat) : Dev :=
  ((d.setReg (pg .mbox n) R.MBOX.DOORBELL (d.reg (pg .mbox n) R.MBOX.DOORBELL ||| BitVec.ofNat 32 (2 ^ bell))).mbBell n).bump (pg .mbox n)
    R.MBOX.SENDS

/-- A record published counts. -/
def publicationCounted (d : Dev) : Dev := (d.bump (pg .gauge) R.GAUGE.PUBLISHED).event (pg .gauge) F.GAUGE.EVENT_PUBLISH

theorem recordPublish_free {d : Dev} (hpending : d.flag (pg .gauge) F.GAUGE.STATUS_PENDING = true) (hst : d.gaugeState = 3)
    (hon : d.flag (pg .mbox d.gaugeBox) F.HDR.CTRL_ENABLE = true) (hfree : d.mbState d.gaugeBox = 0) : d.recordPublish =
      ((d.recordWritten d.gaugeBox).bellRung d.gaugeBox
        ((d.recordWritten d.gaugeBox).fld (pg .gauge) F.GAUGE.PUB_CFG_DOORBELL)).publicationCounted :=
  if_pos ⟨hpending, hst, hon, hfree⟩

theorem recordPublish_none {d : Dev} (h : d.flag (pg .gauge) F.GAUGE.STATUS_PENDING = false) : d.recordPublish = d :=
  if_neg fun hall => by simp [h] at hall

theorem gaugePage_ne_mbox (n : Nat) : pg .gauge ≠ pg .mbox n := by
  simp only [pg, PageKind.first]
  omega

theorem pageRegs_recordWritten (d : Dev) (n : Nat) : (d.recordWritten n).pageRegs (pg .gauge) = d.pageRegs (pg .gauge) := by
  have hpage := gaugePage_ne_mbox n
  rw [recordWritten, each_keeps (pageRegs · (pg .gauge)) _ _ _ ?words, pageRegs_setFld _ _ ⟨hpage, by decide⟩,
    pageRegs_setFld _ _ ⟨hpage, by decide⟩]
  case words =>
    intro e i hi
    refine pageRegs_setReg e _ ⟨hpage, ?_⟩
    have := List.mem_range.mp hi
    simp only [R.MBOX.MSG]
    omega

theorem pageRegs_bellRung (d : Dev) (n bell : Nat) : (d.bellRung n bell).pageRegs (pg .gauge) = d.pageRegs (pg .gauge) := by
  have hpage := gaugePage_ne_mbox n
  rw [bellRung, pageRegs_bump _ _ ⟨hpage, by decide⟩, mbBell, pageRegs_setFlag _ _ ⟨hpage, by decide⟩,
    pageRegs_setReg _ _ ⟨hpage, by decide⟩]

theorem pageRegs_publicationCounted (d : Dev) (n : Nat) : d.publicationCounted.pageRegs (pg .mbox n) = d.pageRegs (pg .mbox n) := by
  have hpage := (gaugePage_ne_mbox n).symm
  rw [publicationCounted, pageRegs_event _ ⟨hpage, by decide⟩, pageRegs_bump _ _ ⟨hpage, by decide⟩]

/-- The bell leaves the mailbox's state and message. -/
theorem reg_bellRung_apart (d : Dev) (n bell : Nat) {o : Nat} (h : o ≠ R.MBOX.SENDS ∧ o ≠ R.HDR.EVENT ∧ o ≠ R.MBOX.DOORBELL) :
    (d.bellRung n bell).reg (pg .mbox n) o = d.reg (pg .mbox n) o := by
  obtain ⟨hsends, hevent, hbell⟩ := h
  rw [bellRung, reg_bump_other _ _ _ _ _ _ _ (by simpa using hsends), mbBell, reg_setFlag_apart _ _ hevent, reg_setReg_apart _ _ hbell]

theorem fld_recordWritten (d : Dev) (n : Nat) : (d.recordWritten n).fld (pg .mbox n) F.MBOX.STATE_STATE = 2 ∧
    (d.recordWritten n).fld (pg .mbox n) F.MBOX.STATE_HOLDER = 5 := by
  have hwords : (d.recordWritten n).reg (pg .mbox n) R.MBOX.STATE =
      ((d.setFld (pg .mbox n) F.MBOX.STATE_STATE 2).setFld (pg .mbox n) F.MBOX.STATE_HOLDER 5).reg (pg .mbox n) R.MBOX.STATE := by
    refine each_keeps (reg · (pg .mbox n) R.MBOX.STATE) _ _ _ fun e i _ => reg_setReg_apart e _ ?_
    simp only [R.MBOX.STATE, R.MBOX.MSG]
    omega
  rw [fld_of_reg (f := F.MBOX.STATE_STATE) hwords, fld_of_reg (f := F.MBOX.STATE_HOLDER) hwords, fld_setFld_apart _ _ (by decide),
    fld_setFld_self _ _ _ _ (by decide), fld_setFld_self _ _ _ _ (by decide)]
  decide

/-- A record published stands in the mailbox, held by the gauge, and is counted. -/
theorem recordPublish_free_spec {d : Dev} (hpending : d.flag (pg .gauge) F.GAUGE.STATUS_PENDING = true) (hst : d.gaugeState = 3)
    (hon : d.flag (pg .mbox d.gaugeBox) F.HDR.CTRL_ENABLE = true) (hfree : d.mbState d.gaugeBox = 0) :
    d.recordPublish.mbState d.gaugeBox = 2 ∧ d.recordPublish.fld (pg .mbox d.gaugeBox) F.MBOX.STATE_HOLDER = 5 ∧
      (∀ i < 16, d.recordPublish.reg (pg .mbox d.gaugeBox) (R.MBOX.MSG + 4 * i) = d.gauge.record.getD i 0) ∧
      d.recordPublish.reg (pg .gauge) R.GAUGE.PUBLISHED = d.reg (pg .gauge) R.GAUGE.PUBLISHED + 1 := by
  obtain ⟨hstate, hholder⟩ := d.fld_recordWritten d.gaugeBox
  rw [recordPublish_free hpending hst hon hfree]
  refine ⟨?state, ?holder, fun i hi => ?word, ?count⟩
  case state =>
    rw [mbState, fld_of_pageRegs (pageRegs_publicationCounted _ _) (by decide), fld_of_reg (reg_bellRung_apart _ _ _ (by decide)), hstate]
  case holder =>
    rw [fld_of_pageRegs (pageRegs_publicationCounted _ _) (by decide), fld_of_reg (reg_bellRung_apart _ _ _ (by decide)), hholder]
  case word =>
    have hofs : R.MBOX.MSG + 4 * i < 0x180 ∧ 0x140 ≤ R.MBOX.MSG + 4 * i := by
      simp only [R.MBOX.MSG]
      omega
    rw [reg_of_pageRegs (pageRegs_publicationCounted _ _) (by omega), reg_bellRung_apart _ _ _ ?apart]
    · exact reg_each_words _ _ _ _ _ hi
    case apart =>
      simp only [R.MBOX.SENDS, R.HDR.EVENT, R.MBOX.DOORBELL]
      omega
  case count =>
    rw [publicationCounted, reg_event_apart _ (by decide), reg_bump_self, reg_of_pageRegs (pageRegs_bellRung _ _ _) (by decide),
      reg_of_pageRegs (pageRegs_recordWritten _ _) (by decide)]
    rfl

/-! ## The input that wakes the device (R297, R386) -/

/-- The input watched lies beyond LO or HI for TIME in HIBERNATE. -/
abbrev WakeSeen (d : Dev) (i code ms : Nat) : Prop :=
  d.state = 6 ∧ d.flag (pg .gauge) F.GAUGE.IWAKE_CFG_EN = true ∧ i = d.fld (pg .gauge) F.GAUGE.IWAKE_SEL_IN ∧
    d.fld (pg .gauge) F.GAUGE.IWAKE_SEL_TIME ≤ ms ∧
    (code < d.fld (pg .gauge) F.GAUGE.IWAKE_CFG_LO ∨ d.fld (pg .gauge) F.GAUGE.IWAKE_CFG_HI < code)

/-- A record of a wake event stands on the page of the cellar alone. -/
theorem pageRegs_wakeRecord (d : Dev) (bit : Nat) {p : Nat} (h : p ≠ pg .cellar) : (d.wakeRecord bit).pageRegs p = d.pageRegs p := by
  have hofs : R.CELLAR.WAKE_PEND < 0x1000 := by decide
  rw [wakeRecord, pageRegs_event _ ⟨h, by decide⟩, pageRegs_setFld _ _ ⟨h, hofs⟩]

/-- A wake event in HIBERNATE, with no power-down run and no hold-off in progress. -/
theorem wakeEvent_hibernate {d : Dev} (hst : d.state = 6) (hdown : d.powerDown = false) (hphase : d.phase ≠ 7) (bit : Nat) :
    d.wakeEvent bit = (((d.wakeRecord bit).holdWake bit).setPwron true).gaugeWake := by
  have hstate : (d.wakeRecord bit).state = 6 := (state_of_pageRegs (pageRegs_wakeRecord d bit (by decide))).trans hst
  have hkept : (d.wakeRecord bit).phase = d.phase := fld_of_pageRegs (pageRegs_wakeRecord d bit (by decide)) (by decide)
  have hcellar : ¬ (d.wakeRecord bit).state = 1 := by rw [hstate]; decide
  have hfree : ¬ ((d.wakeRecord bit).powerDown = true ∨ (d.wakeRecord bit).phase = 7) := by
    have hsame : (d.wakeRecord bit).powerDown = d.powerDown := by rw [powerDown, powerDown, hkept]
    rw [hsame, hkept, hdown]
    simpa using hphase
  simp only [wakeEvent, if_neg hcellar, if_neg hfree, if_pos hstate]

theorem iwake_seen {d : Dev} {i code ms : Nat} (h : d.WakeSeen i code ms) (hdown : d.powerDown = false) (hphase : d.phase ≠ 7) :
    d.iwake i code ms = (((d.wakeRecord 8).holdWake 8).setPwron true).gaugeWake :=
  (if_pos h).trans (wakeEvent_hibernate h.1 hdown hphase 8)

theorem iwake_unseen {d : Dev} {i code ms : Nat} (h : ¬ d.WakeSeen i code ms) : d.iwake i code ms = d := if_neg h

end Dev
end Sys2Proof.Machine
end

section
/-! PROOFS. The gauge at work (R281, R282, R284, R287, R288, R297, R300, R304), by its ticks, its filter instants, its record and its wake. -/
namespace Sys2Proof.Machine

/-- A tick that counts, by what it leaves. -/
theorem gaugeTick_runs {d : Dev} {f : Flaw} (hf : f ≠ .double) (hheld : d.gaugeHeld = false) (hlive : d.busLive = true)
    (hlo : 1 ≤ d.gaugeState) (hhi : d.gaugeState ≤ 3) (hi : d.gauge.iAcc.n ≠ 0) (hv : d.gauge.vAcc.n ≠ 0) (hnone : d.gauge.restore = none) :
    ∃ t, Runs (.gaugeTick f) d t ∧ t.reg (pg .gauge) R.GAUGE.I_NOW = BitVec.ofInt 32 d.tickCurrent ∧
      t.gauge.pend = d.gauge.pend + d.tickCurrent ∧ t.gauge.ticks = d.gauge.ticks + 1 ∧ t.gauge.iAcc = {} ∧
      t.gauge.iPrev = some d.gauge.iAcc ∧ t.reg (pg .gauge) R.GAUGE.GAP_TICKS = d.reg (pg .gauge) R.GAUGE.GAP_TICKS ∧
      t.gaugeState = d.gaugeState ∧
      t.flag (pg .gauge) F.GAUGE.STATUS_AT_REST = d.restReached (d.restTicks d.tickCurrent) ∧ t.mem = d.mem ∧ t.keys = d.keys := by
  obtain ⟨hcurrent, hgaps, hstate, hrest⟩ := Dev.gaugeCount_tickReady_registers hi hv
  obtain ⟨hcharge, htick, hacc, hprev⟩ := Dev.gaugeCount_tickReady_counts hi hv
  have hstore : d.tickReady.gaugeCount.mem = d.mem ∧ d.tickReady.gaugeCount.keys = d.keys := by simp [Dev.tickReady]
  exact ⟨_, Runs.dev (fun _ => rfl) (Dev.gaugeTick_counts hi hv hf hheld hlive hlo hhi hnone), hcurrent, hcharge, htick, hacc, hprev, hgaps,
    hstate, hrest, hstore⟩

/-- A filter instant in RUN stores a finite result, and any other is a fault. -/
theorem filterRun_runs {d : Dev} (hlive : d.busLive = true) (hticks : 100 ≤ d.gauge.ticks) (hst : d.gaugeState = 3)
    (hdrift : d.gauge.driftDue = false) (hreport : d.flag (pg .gauge) F.GAUGE.CFG_REP_EN = false) :
    let r := (d.instantTaken.bump (pg .gauge) R.GAUGE.FILTER_RUNS).filterStep
    (r.1.ok = true ∧ ∃ t, Runs .filterRun d t ∧ t.reg (pg .gauge) R.GAUGE.FILTER_RUNS = d.reg (pg .gauge) R.GAUGE.FILTER_RUNS + 1 ∧
      t.gauge.ticks = 0 ∧ t.reg (pg .gauge) R.GAUGE.Q = r.1.q ∧ t.reg (pg .gauge) R.GAUGE.VP = r.1.vp ∧
      t.reg (pg .gauge) R.GAUGE.CAP = r.1.cap ∧ t.gauge.ccPrev = d.gaugeCc ∧ t.mem = d.mem ∧ t.keys = d.keys) ∨
    (r.1.ok = false ∧ Runs .filterRun d ((d.instantTaken.bump (pg .gauge) R.GAUGE.FILTER_RUNS).gaugeStateFault 2)) := by
  intro r
  have hnone : d.instantTaken.gaugeDrift = d.instantTaken := Dev.gaugeDrift_none hdrift
  have hrun := Dev.filterRun_run hticks hst
  rw [hnone] at hrun
  cases hok : r.1.ok with
  | false =>
    rw [Dev.filterCounted_infinite hok] at hrun
    exact .inr ⟨rfl, Runs.live hlive (fun _ => rfl) hrun⟩
  | true =>
    have hoff : (d.instantTaken.bump (pg .gauge) R.GAUGE.FILTER_RUNS).flag (pg .gauge) F.GAUGE.CFG_REP_EN = false :=
      (Dev.flag_bump_apart _ (by decide)).trans hreport
    have hcc : (d.instantTaken.bump (pg .gauge) R.GAUGE.FILTER_RUNS).gaugeCc = d.gaugeCc := by
      rw [Dev.gaugeCc, Dev.reg_bump_other _ _ _ _ _ _ _ (by decide), Dev.reg_bump_other _ _ _ _ _ _ _ (by decide)]
      rfl
    obtain ⟨hcount, hleft, hq, hvp, hcap, hprev⟩ := (d.instantTaken.bump (pg .gauge) R.GAUGE.FILTER_RUNS).filterStored_formRecord_spec
    rw [Dev.filterCounted_finite hok hoff] at hrun
    rw [Dev.reg_bump_self] at hcount
    have hstore : (d.instantTaken.bump (pg .gauge) R.GAUGE.FILTER_RUNS).filterStored.formRecord.mem = d.mem ∧
        (d.instantTaken.bump (pg .gauge) R.GAUGE.FILTER_RUNS).filterStored.formRecord.keys = d.keys := by
      simp [Dev.filterStored, Dev.instantTaken]
    exact .inl ⟨rfl, _, Runs.live hlive (fun _ => rfl) hrun, hcount, hleft, hq, hvp, hcap, hprev.trans hcc, hstore⟩

/-- Settles O34: by what a tick, a filter instant, a drift, a publication and the input watched leave. -/
theorem gaugeRuns : Obligations.GaugeRuns := by
  unfold Obligations.GaugeRuns
  intro d p
  refine ⟨fun f hidle => Runs.dev (fun _ => rfl) (Dev.gaugeTick_idle hidle f),
    fun f hf hst => Runs.dev (fun _ => rfl) (Dev.gaugeTick_held (.inl hst) hf),
    fun hlive hst => Runs.dev (fun _ => rfl) (Dev.gaugeTick_storageError hlive hst),
    fun f hf hheld => Runs.dev (fun _ => rfl) (Dev.gaugeTick_held (.inr hheld) hf),
    fun f hf hheld hlive hlo hhi hi hv hnone => gaugeTick_runs hf hheld hlive hlo hhi hi hv hnone,
    fun hlive hearly => Runs.live hlive (fun _ => rfl) (Dev.filterRun_early hearly), ?instant,
    fun hlive hdue => Runs.live hlive (fun _ => rfl) (Dev.gaugeDrift_due hdue),
    fun hlive hnone => Runs.live hlive (fun _ => rfl) (Dev.gaugeDrift_none hnone), ?publish, ?unasked, ?wake⟩
  case instant =>
    intro hlive hticks e
    refine ⟨fun hst => Runs.live hlive (fun _ => rfl) (Dev.filterRun_otherState hticks hst),
      fun hst hrest => Runs.live hlive (fun _ => rfl) (Dev.filterRun_unrested hticks hst hrest), ?init,
      fun hst hdrift hreport => filterRun_runs hlive hticks hst hdrift hreport⟩
    case init =>
      intro hst hrest
      obtain ⟨hstate, hretained, hack, hcap⟩ := d.instantTaken.gaugeInit_spec
      exact ⟨_, Runs.live hlive (fun _ => rfl) (Dev.filterRun_init hticks hst hrest), hstate, hretained, hack, hcap,
        d.instantTaken.gaugeInit_store⟩
  case publish =>
    intro hlive hpending hst b hon hfree
    obtain ⟨hstate, hholder, hwords, hcount⟩ := Dev.recordPublish_free_spec hpending hst hon hfree
    exact ⟨_, Runs.live hlive (fun _ => rfl) rfl, hstate, hholder, hwords, hcount, d.recordPublish_store⟩
  case unasked =>
    intro hnone
    refine Runs.dev (fun _ => rfl) ?_
    rw [Dev.whenLive, Dev.recordPublish_none hnone, ite_self]
  case wake =>
    exact fun i code ms => ⟨fun hseen hdown hphase => Runs.dev (fun _ => rfl) (Dev.iwake_seen hseen hdown hphase),
      fun hunseen => Runs.dev (fun _ => rfl) (Dev.iwake_unseen hunseen)⟩

end Sys2Proof.Machine
end

section
/-!
PROOFS. What a register, a field or a flag reads after a change of a page, by whether the change touches it: one lemma per kind of reading
for all the changes of a register.
-/
namespace Sys2Proof.Machine
namespace Dev

-- Checked in its turn, so that the proofs above are complete before the ones below begin.
set_option Elab.async false in
/-- A field that shares no bit with the one that is changed. -/
theorem reads_apart (d : Dev) {p : Nat} {f g : Fld} (h : FieldsApart g f) :
    (∀ v, (d.setFld p f v).fld p g = d.fld p g) ∧ (∀ v, (d.setFld p f v).flag p g = d.flag p g) ∧
    (∀ b, (d.setFlag p f b).fld p g = d.fld p g) ∧ (∀ b, (d.setFlag p f b).flag p g = d.flag p g) ∧
    (d.event p f).fld p g = d.fld p g ∧ (d.event p f).flag p g = d.flag p g :=
  ⟨fun v => fld_setFld_apart d v h, fun v => flag_setFld_apart d v h, fun b => fld_setFlag_apart d b h, fun b => flag_setFlag_apart d b h,
    fld_event_apart d h, flag_event_apart d h⟩

/-- A field of another register than the one that is changed whole. -/
theorem reads_apart_reg (d : Dev) {p o : Nat} {g : Fld} (h : g.ofs ≠ o) :
    (∀ v, (d.setReg p o v).fld p g = d.fld p g) ∧ (∀ v, (d.setReg p o v).flag p g = d.flag p g) ∧
    (∀ k, (d.bump p o k).fld p g = d.fld p g) ∧ (∀ k, (d.bump p o k).flag p g = d.flag p g) :=
  ⟨fun v => fld_setReg_apart d v h, fun v => flag_setReg_apart d v h, fun _ => fld_bump_apart d h, fun _ => flag_bump_apart d h⟩

/-- A register in which no field is changed. -/
theorem reads_ofs (d : Dev) {p o : Nat} {f : Fld} (h : o ≠ f.ofs) :
    (∀ v, (d.setFld p f v).reg p o = d.reg p o) ∧ (∀ b, (d.setFlag p f b).reg p o = d.reg p o) ∧ (d.event p f).reg p o = d.reg p o :=
  ⟨fun v => reg_setFld_apart d v h, fun b => reg_setFlag_apart d b h, reg_event_apart d h⟩

/-- A register other than the one that is changed. -/
theorem reads_reg (d : Dev) {p o o' : Nat} (h : o' ≠ o) :
    (∀ v, (d.setReg p o v).reg p o' = d.reg p o') ∧ (∀ k, (d.bump p o k).reg p o' = d.reg p o') :=
  ⟨fun v => reg_setReg_apart d v h, fun _ => reg_setReg_apart d _ h⟩

/-- The field that is changed. -/
theorem reads_self (d : Dev) {p : Nat} {f : Fld} (h : f.lo + f.w ≤ 32) (hw : 0 < f.w) :
    (∀ v, (d.setFld p f v).fld p f = v % 2 ^ f.w) ∧ (∀ v, (d.setFld p f v).flag p f = (v % 2 ^ f.w != 0)) ∧
    (∀ b, (d.setFlag p f b).flag p f = b) ∧ (d.event p f).flag p f = true := by
  refine ⟨fun v => fld_setFld_self d p f v h, fun v => flag_setFld_self d p f v h, fun b => flag_setFlag_self d p f b h hw, ?_⟩
  exact flag_setFlag_self d p f true h hw

/-- A change on another page. -/
theorem reads_page (d : Dev) {p q : Nat} {f : Fld} (h : p ≠ q ∧ f.ofs < 0x1000) :
    (∀ o < 0x1000, (∀ v, (d.setFld q f v).reg p o = d.reg p o) ∧ (∀ b, (d.setFlag q f b).reg p o = d.reg p o) ∧
      (d.event q f).reg p o = d.reg p o) ∧
    (∀ g : Fld, g.ofs < 0x1000 → (∀ v, (d.setFld q f v).fld p g = d.fld p g) ∧ (∀ v, (d.setFld q f v).flag p g = d.flag p g) ∧
      (∀ b, (d.setFlag q f b).fld p g = d.fld p g) ∧ (∀ b, (d.setFlag q f b).flag p g = d.flag p g) ∧
      (d.event q f).fld p g = d.fld p g ∧ (d.event q f).flag p g = d.flag p g) :=
  ⟨fun _ ho => ⟨fun v => reg_of_pageRegs (pageRegs_setFld d v h) ho, fun b => reg_of_pageRegs (pageRegs_setFlag d b h) ho,
      reg_of_pageRegs (pageRegs_event d h) ho⟩,
    fun _ hg => ⟨fun v => fld_of_pageRegs (pageRegs_setFld d v h) hg, fun v => flag_of_pageRegs (pageRegs_setFld d v h) hg,
      fun b => fld_of_pageRegs (pageRegs_setFlag d b h) hg, fun b => flag_of_pageRegs (pageRegs_setFlag d b h) hg,
      fld_of_pageRegs (pageRegs_event d h) hg, flag_of_pageRegs (pageRegs_event d h) hg⟩⟩

/-- A register changed whole on another page. -/
theorem reads_page_reg (d : Dev) {p q o : Nat} (h : p ≠ q ∧ o < 0x1000) :
    (∀ o' < 0x1000, (∀ v, (d.setReg q o v).reg p o' = d.reg p o') ∧ (∀ k, (d.bump q o k).reg p o' = d.reg p o')) ∧
    (∀ g : Fld, g.ofs < 0x1000 → (∀ v, (d.setReg q o v).fld p g = d.fld p g) ∧ (∀ v, (d.setReg q o v).flag p g = d.flag p g) ∧
      (∀ k, (d.bump q o k).fld p g = d.fld p g) ∧ (∀ k, (d.bump q o k).flag p g = d.flag p g)) :=
  ⟨fun _ ho => ⟨fun v => reg_of_pageRegs (pageRegs_setReg d v h) ho, fun k => reg_of_pageRegs (pageRegs_bump d k h) ho⟩,
    fun _ hg => ⟨fun v => fld_of_pageRegs (pageRegs_setReg d v h) hg, fun v => flag_of_pageRegs (pageRegs_setReg d v h) hg,
      fun k => fld_of_pageRegs (pageRegs_bump d k h) hg, fun k => flag_of_pageRegs (pageRegs_bump d k h) hg⟩⟩

/-- The device state after a change on another page than SYS (R22). -/
theorem reads_state (d : Dev) {q : Nat} {f : Fld} (h : pg .sys ≠ q ∧ f.ofs < 0x1000) :
    (∀ v, (d.setFld q f v).state = d.state) ∧ (∀ b, (d.setFlag q f b).state = d.state) ∧ (d.event q f).state = d.state :=
  ⟨fun v => state_of_pageRegs (pageRegs_setFld d v h), fun b => state_of_pageRegs (pageRegs_setFlag d b h),
    state_of_pageRegs (pageRegs_event d h)⟩

theorem reads_state_reg (d : Dev) {q o : Nat} (h : pg .sys ≠ q ∧ o < 0x1000) :
    (∀ v, (d.setReg q o v).state = d.state) ∧ (∀ k, (d.bump q o k).state = d.state) :=
  ⟨fun v => state_of_pageRegs (pageRegs_setReg d v h), fun k => state_of_pageRegs (pageRegs_bump d k h)⟩

end Dev
end Sys2Proof.Machine
end

section
/-!
PROOFS. The regulators (R322, R324–R328): the bits of REG_STATUS, the off-time and the latch of a buck, its restart, burst, synchronisation,
and the discharge path.
-/
namespace Sys2Proof.Machine
namespace Dev

/-! ## REG_STATUS (R339) -/

/-- The fields of REG_STATUS with a bit per buck that follow its operation. -/
def buckFlags : List Fld :=
  [F.SUPPLY.REG_STATUS_ON, F.SUPPLY.REG_STATUS_BURST, F.SUPPLY.REG_STATUS_HICCUP, F.SUPPLY.REG_STATUS_LATCHED]

theorem regBit_apart {f g : Fld} (hf : f ∈ buckFlags) (hg : g ∈ buckFlags) {n k : Nat} (hn : n < 4) (hk : k < 4) (h : f ≠ g ∨ n ≠ k) :
    FieldsApart (regBit f n) (regBit g k) := by
  have hall : ∀ f ∈ buckFlags, ∀ g ∈ buckFlags, ∀ n < 4, ∀ k < 4, f ≠ g ∨ n ≠ k → FieldsApart (regBit f n) (regBit g k) := by decide
  exact hall f hf g hg n hn k hk h

theorem regBit_fits {f : Fld} (hf : f ∈ buckFlags) {n : Nat} (hn : n < 4) : (regBit f n).lo + (regBit f n).w ≤ 32 := by
  have hall : ∀ f ∈ buckFlags, ∀ n < 4, (regBit f n).lo + (regBit f n).w ≤ 32 := by decide
  exact hall f hf n hn

/-- The bits of REG_STATUS stand apart from the registers of the other settings and counters of the page. -/
theorem regBit_ofs {f : Fld} (hf : f ∈ buckFlags) (n : Nat) : (regBit f n).ofs = R.SUPPLY.REG_STATUS := by
  have hall : ∀ f ∈ buckFlags, f.ofs = R.SUPPLY.REG_STATUS := by decide
  exact hall f hf

theorem flag_setBit {f g : Fld} (hf : f ∈ buckFlags) (hg : g ∈ buckFlags) (d : Dev) {n k : Nat} (hn : n < 4) (hk : k < 4) (on : Bool) :
    (d.setFlag (pg .supply) (regBit f n) on).flag (pg .supply) (regBit g k) =
      if g = f ∧ k = n then on else d.flag (pg .supply) (regBit g k) := by
  split
  case isTrue h =>
    obtain ⟨rfl, rfl⟩ := h
    exact flag_setFlag_self d _ _ _ (regBit_fits hf hn) Nat.one_pos
  case isFalse h => exact flag_setFlag_apart d _ (regBit_apart hg hf hk hn (not_and_or.mp h))

theorem reg_setBit_apart {f : Fld} (hf : f ∈ buckFlags) (d : Dev) (n : Nat) (on : Bool) {o : Nat} (h : o ≠ R.SUPPLY.REG_STATUS) :
    (d.setFlag (pg .supply) (regBit f n) on).reg (pg .supply) o = d.reg (pg .supply) o :=
  reg_setFlag_apart d _ (regBit_ofs hf n ▸ h)

/-! ## Bucks that act alone (R325) -/

theorem buckOf_alone {d : Dev} (h : d.paired = false) (k : Nat) : d.buckOf k = k := by simp [buckOf, h]

theorem setBucks_alone {d : Dev} (h : d.paired = false) (f : Fld) (n : Nat) (on : Bool) :
    d.setBucks f n on = d.setFlag (pg .supply) (regBit f n) on := by
  have hgroup : d.buckGroup n = [n] := by simp [buckGroup, h]
  rw [setBucks, hgroup]
  rfl

theorem rotateLead_alone {d : Dev} (h : d.paired = false) (n : Nat) : d.rotateLead n = d := by simp [rotateLead, h]

theorem paired_of_reg {d e : Dev} (h : e.reg (pg .supply) R.SUPPLY.CFG = d.reg (pg .supply) R.SUPPLY.CFG) : e.paired = d.paired :=
  flag_of_fld (fld_of_reg h)

theorem paired_setBit {f : Fld} (hf : f ∈ buckFlags) (d : Dev) (n : Nat) (on : Bool) :
    (d.setFlag (pg .supply) (regBit f n) on).paired = d.paired := paired_of_reg (reg_setBit_apart hf d n on (by decide))

theorem buckS_modBuck_self (d : Dev) {n : Nat} (h : n < 4) (f : BuckS → BuckS) : (d.modBuck n f).buckS n = f (d.buckS n) :=
  vget_vmod_self _ h _ _

@[simp] theorem buckS_setFlag (d : Dev) (p : Nat) (f : Fld) (b : Bool) (n : Nat) : (d.setFlag p f b).buckS n = d.buckS n := rfl
@[simp] theorem buckS_bump (d : Dev) (p o k n : Nat) : (d.bump p o k).buckS n = d.buckS n := rfl

/-- A status bit of buck `n` changed, where the bits of REG_STATUS alone matter. -/
theorem regOn_eq (d : Dev) (n : Nat) : d.regOn n = d.flag (pg .supply) (regBit F.SUPPLY.REG_STATUS_ON n) := rfl

/-! ## Off-time and latch (R327) -/

/-- Buck `n` out of burst, as an off-time or the latch takes it out of operation. -/
def burstLeft (d : Dev) (n : Nat) : Dev := d.setFlag (pg .supply) (regBit F.SUPPLY.REG_STATUS_BURST n) false

/-- Buck `n` in its off-time. -/
def offTimeBegun (d : Dev) (n : Nat) : Dev :=
  ((((d.burstLeft n).setFlag (pg .supply) (regBit F.SUPPLY.REG_STATUS_HICCUP n) true).bump (pg .supply) (R.SUPPLY.HICCUPS + 4 * n)).event
    (pg .supply) F.SUPPLY.EVENT_HICCUP).modBuck n (fun b => { b with off := true, soft := false, since := d.now, retry := b.retry + 1 })

/-- Buck `n` latched, before REG_LATCH is raised. -/
def latchEntered (d : Dev) (n : Nat) : Dev :=
  ((((((d.burstLeft n).setFlag (pg .supply) (regBit F.SUPPLY.REG_STATUS_LATCHED n) true).setFlag (pg .supply)
    (regBit F.SUPPLY.REG_STATUS_ON n) false).setFlag (pg .supply) (regBit F.SUPPLY.REG_STATUS_HICCUP n) false).modBuck n
      (fun b => { b with off := false, soft := false })).bump (pg .supply) R.SUPPLY.LATCHES).event (pg .supply) F.SUPPLY.EVENT_LATCH

section Hiccup
variable {d : Dev} {n run : Nat} (halone : d.paired = false)
include halone

theorem buckHiccup_idle (h : d.regOn n = false ∨ (d.buckS n).off = true ∨ run < d.fld (pg .supply) (F.SUPPLY.BUCK_PROT_NCYC.at n)) :
    d.buckHiccup n run = d := by
  simp only [buckHiccup, buckOf_alone halone]
  exact if_pos (by simpa using h)

/-- What BUCK_HICCUP finds of a buck that runs into its limit. -/
theorem buckHiccup_limited (hon : d.regOn n = true) (hoff : (d.buckS n).off = false)
    (hrun : d.fld (pg .supply) (F.SUPPLY.BUCK_PROT_NCYC.at n) ≤ run) (hn : n < 4) :
    d.buckHiccup n run = if (d.buckS n).retry < d.fld (pg .supply) (F.SUPPLY.BUCK_PROT_RETRY_MAX.at n) then d.offTimeBegun n
      else (d.latchEntered n).raiseLevel .supply 0 B.SUPPLY.REG_LATCH n := by
  have hgo : ¬ ((!d.regOn n) = true ∨ (d.buckS n).off = true ∨ run < d.fld (pg .supply) (F.SUPPLY.BUCK_PROT_NCYC.at n)) := by
    simp [hon, hoff, hrun]
  have hmax : (d.burstLeft n).fld (pg .supply) (F.SUPPLY.BUCK_PROT_RETRY_MAX.at n) =
      d.fld (pg .supply) (F.SUPPLY.BUCK_PROT_RETRY_MAX.at n) :=
    fld_of_reg (reg_setBit_apart (by decide) d n false (by simp only [Fld.at, F.SUPPLY.BUCK_PROT_RETRY_MAX, R.SUPPLY.REG_STATUS]; omega))
  have hburst : d.setBucks F.SUPPLY.REG_STATUS_BURST n false = d.burstLeft n := setBucks_alone halone ..
  have hleft : (d.burstLeft n).paired = false := (paired_setBit (by decide) ..).trans halone
  have hlatch : ∀ on, ((d.burstLeft n).setFlag (pg .supply) (regBit F.SUPPLY.REG_STATUS_LATCHED n) on).paired = false := fun _ =>
    (paired_setBit (by decide) ..).trans hleft
  have hswitch : ∀ on on', (((d.burstLeft n).setFlag (pg .supply) (regBit F.SUPPLY.REG_STATUS_LATCHED n) on).setFlag (pg .supply)
      (regBit F.SUPPLY.REG_STATUS_ON n) on').paired = false := fun _ _ => (paired_setBit (by decide) ..).trans (hlatch _)
  simp only [buckHiccup, buckOf_alone halone, if_neg hgo, hburst, hmax, setBucks_alone hleft, setBucks_alone (hlatch _),
    setBucks_alone (hswitch _ _)]
  rfl

end Hiccup

/-- A regulator that does not regulate has its discharge path connected while VSYS stands (R328). -/
theorem dischargeOhms_idle {d : Dev} {n : Nat} (hst : d.state ≠ 0) (hidle : d.regulating n = false) :
    d.dischargeOhms n = some (if d.paired ∧ (n = 0 ∨ n = 3) then 50 else 100) := by
  have hup : d.vsysUp = true := by simpa [vsysUp] using hst
  simp only [dischargeOhms, hup, hidle, Bool.not_true, Bool.or_self, Bool.false_eq_true, if_false]
  split <;> rfl

theorem dischargeOhms_none {d : Dev} {n : Nat} (h : d.state = 0 ∨ d.regulating n = true) : d.dischargeOhms n = none := by
  refine if_pos ?_
  obtain hst | hreg := h
  · simp [vsysUp, hst]
  · simp [hreg]

/-- A buck that is off, or in its off-time, does not regulate. -/
theorem regulating_idle {d : Dev} (halone : d.paired = false) {n : Nat} (hn : n < 4) (h : d.regOn n = false ∨ (d.buckS n).off = true) :
    d.regulating n = false := by
  have hboost : n ≠ 9 := by omega
  obtain h | h := h <;> simp [regulating, hboost, buckOf_alone halone, h, hn]

/-- The status bits of a device with the same REG_STATUS. -/
theorem statusBit_of_reg {d e : Dev} (h : e.reg (pg .supply) R.SUPPLY.REG_STATUS = d.reg (pg .supply) R.SUPPLY.REG_STATUS) {f : Fld}
    (hf : f ∈ buckFlags) (n : Nat) : e.flag (pg .supply) (regBit f n) = d.flag (pg .supply) (regBit f n) :=
  flag_of_fld (fld_of_reg (regBit_ofs hf n ▸ h))

/-- A bit of REG_STATUS changed leaves the other pages. -/
theorem pageRegs_setBit {f : Fld} (hf : f ∈ buckFlags) (d : Dev) (n : Nat) (on : Bool) {p : Nat} (hp : p ≠ pg .supply) :
    (d.setFlag (pg .supply) (regBit f n) on).pageRegs p = d.pageRegs p :=
  pageRegs_setFlag d on ⟨hp, by rw [regBit_ofs hf]; decide⟩

/-- What stands apart from the bits of the bucks and from their counters as an off-time begins. -/
theorem reg_offTimeBegun (d : Dev) (n : Nat) {o : Nat} (hstatus : o ≠ R.SUPPLY.REG_STATUS) (hevent : o ≠ R.HDR.EVENT) :
    (d.offTimeBegun n).reg (pg .supply) o = (d.bump (pg .supply) (R.SUPPLY.HICCUPS + 4 * n)).reg (pg .supply) o := by
  have hofs : R.SUPPLY.HICCUPS + 4 * n ≠ R.SUPPLY.REG_STATUS := by simp only [R.SUPPLY.HICCUPS, R.SUPPLY.REG_STATUS]; omega
  rw [offTimeBegun, reg_modBuck, reg_event_apart _ hevent, reg_bump, reg_bump, reg_setBit_apart (by decide) _ _ _ hstatus,
    reg_setBit_apart (by decide) _ _ _ hofs, burstLeft, reg_setBit_apart (by decide) _ _ _ hstatus, reg_setBit_apart (by decide) _ _ _ hofs]

theorem state_offTimeBegun (d : Dev) (n : Nat) (hn : n < 4) : (d.offTimeBegun n).state = d.state := by
  have hofs : R.SUPPLY.HICCUPS + 4 * n < 0x1000 := by simp only [R.SUPPLY.HICCUPS]; omega
  refine state_of_pageRegs ?_
  rw [offTimeBegun, pageRegs_of_regs (modBuck_frame _ _ _).1, pageRegs_event _ (by decide), pageRegs_bump _ _ ⟨by decide, hofs⟩,
    pageRegs_setBit (by decide) _ _ _ (by decide), burstLeft, pageRegs_setBit (by decide) _ _ _ (by decide)]

theorem offTimeBegun_spec {d : Dev} (halone : d.paired = false) {n : Nat} (hn : n < 4) :
    (d.state ≠ 0 → (d.offTimeBegun n).dischargeOhms n = some 100) ∧ ((d.offTimeBegun n).buckS n).since = d.now ∧
      (d.offTimeBegun n).flag (pg .supply) (regBit F.SUPPLY.REG_STATUS_HICCUP n) = true ∧ ((d.offTimeBegun n).buckS n).off = true ∧
      ((d.offTimeBegun n).buckS n).retry = (d.buckS n).retry + 1 ∧ (d.offTimeBegun n).flag (pg .supply) F.SUPPLY.EVENT_HICCUP = true ∧
      (d.offTimeBegun n).reg (pg .supply) (R.SUPPLY.HICCUPS + 4 * n) = d.reg (pg .supply) (R.SUPPLY.HICCUPS + 4 * n) + 1 := by
  have hbuck : (d.offTimeBegun n).buckS n = { d.buckS n with off := true, soft := false, since := d.now, retry := (d.buckS n).retry + 1 } :=
    buckS_modBuck_self _ hn _
  have hstatus : R.SUPPLY.HICCUPS + 4 * n ≠ R.SUPPLY.REG_STATUS := by simp only [R.SUPPLY.HICCUPS, R.SUPPLY.REG_STATUS]; omega
  have hevent : R.SUPPLY.HICCUPS + 4 * n ≠ R.HDR.EVENT := by simp only [R.SUPPLY.HICCUPS, R.HDR.EVENT]; omega
  have hcfg : R.SUPPLY.CFG ≠ R.SUPPLY.HICCUPS + 4 * n := by simp only [R.SUPPLY.HICCUPS, R.SUPPLY.CFG]; omega
  have hpaired : (d.offTimeBegun n).paired = d.paired := by
    refine paired_of_reg ?_
    rw [reg_offTimeBegun d n (by decide) (by decide), reg_bump_other _ _ _ _ _ _ _ (by simpa using hcfg)]
  refine ⟨fun hst => ?path, by rw [hbuck], ?bit, by rw [hbuck], by rw [hbuck], ?event, ?count⟩
  case path =>
    have hidle := regulating_idle (hpaired.trans halone) hn (.inr (congrArg BuckS.off hbuck))
    rw [dischargeOhms_idle (by rwa [state_offTimeBegun d n hn]) hidle, hpaired, halone]
    rfl
  case bit =>
    rw [offTimeBegun, flag_modBuck, statusBit_of_reg (reg_event_apart _ (by decide)) (by decide),
      statusBit_of_reg (reg_bump_other _ _ _ _ _ _ _ (by simpa using hstatus.symm)) (by decide),
      flag_setBit (by decide) (by decide) _ hn hn, if_pos ⟨rfl, rfl⟩]
  case event => rw [offTimeBegun, flag_modBuck, flag_event_self _ _ _ (by decide) rfl]
  case count => exact (reg_offTimeBegun d n hstatus hevent).trans (reg_bump_self ..)

theorem state_latchEntered (d : Dev) (n : Nat) : (d.latchEntered n).state = d.state := by
  refine state_of_pageRegs ?_
  rw [latchEntered, pageRegs_event _ (by decide), pageRegs_bump _ _ (by decide), pageRegs_of_regs (modBuck_frame _ _ _).1,
    pageRegs_setBit (by decide) _ _ _ (by decide), pageRegs_setBit (by decide) _ _ _ (by decide),
    pageRegs_setBit (by decide) _ _ _ (by decide), burstLeft, pageRegs_setBit (by decide) _ _ _ (by decide)]

theorem latchEntered_spec {d : Dev} (halone : d.paired = false) {n : Nat} (hn : n < 4) :
    (d.latchEntered n).buckLatched n = true ∧ (d.latchEntered n).regOn n = false ∧
      (d.latchEntered n).reg (pg .supply) R.SUPPLY.LATCHES = d.reg (pg .supply) R.SUPPLY.LATCHES + 1 ∧
      (d.latchEntered n).flag (pg .supply) F.SUPPLY.EVENT_LATCH = true ∧
      (d.state ≠ 0 → (d.latchEntered n).dischargeOhms n = some 100) := by
  have hbits : ∀ {f : Fld}, f ∈ buckFlags → (d.latchEntered n).flag (pg .supply) (regBit f n) =
      if f = F.SUPPLY.REG_STATUS_HICCUP then false else if f = F.SUPPLY.REG_STATUS_ON then false
      else if f = F.SUPPLY.REG_STATUS_LATCHED then true else (d.burstLeft n).flag (pg .supply) (regBit f n) := by
    intro f hf
    rw [latchEntered, statusBit_of_reg (reg_event_apart _ (by decide)) hf,
      statusBit_of_reg (reg_bump_other _ _ _ _ _ _ _ (by decide)) hf, flag_modBuck]
    simp only [flag_setBit (show F.SUPPLY.REG_STATUS_HICCUP ∈ buckFlags by decide) hf _ hn hn,
      flag_setBit (show F.SUPPLY.REG_STATUS_ON ∈ buckFlags by decide) hf _ hn hn,
      flag_setBit (show F.SUPPLY.REG_STATUS_LATCHED ∈ buckFlags by decide) hf _ hn hn, and_true]
  have hoff : (d.latchEntered n).regOn n = false := hbits (by decide)
  have hkept : ∀ {o : Nat}, o ≠ R.SUPPLY.REG_STATUS → o ≠ R.HDR.EVENT → (d.latchEntered n).reg (pg .supply) o =
      (d.bump (pg .supply) R.SUPPLY.LATCHES).reg (pg .supply) o := by
    intro o hstatus hevent
    have hbase : ∀ {o : Nat}, o ≠ R.SUPPLY.REG_STATUS → _ := fun {o} h =>
      (reg_setBit_apart (f := F.SUPPLY.REG_STATUS_HICCUP) (by decide) _ n false h).trans
      ((reg_setBit_apart (f := F.SUPPLY.REG_STATUS_ON) (by decide) _ n false h).trans
        ((reg_setBit_apart (f := F.SUPPLY.REG_STATUS_LATCHED) (by decide) (d.burstLeft n) n true h).trans
          (reg_setBit_apart (f := F.SUPPLY.REG_STATUS_BURST) (by decide) d n false h)))
    rw [latchEntered, reg_event_apart _ hevent, reg_bump, reg_bump, reg_modBuck, reg_modBuck, hbase hstatus, hbase (by decide)]
  have hpaired : (d.latchEntered n).paired = false :=
    (paired_of_reg ((hkept (by decide) (by decide)).trans (reg_bump_other _ _ _ _ _ _ _ (by decide)))).trans halone
  refine ⟨hbits (by decide), hoff, (hkept (by decide) (by decide)).trans (reg_bump_self ..), ?event, fun hst => ?path⟩
  case event => rw [latchEntered, flag_event_self _ _ _ (by decide) rfl]
  case path =>
    rw [dischargeOhms_idle (by rwa [state_latchEntered]) (regulating_idle hpaired hn (.inl hoff)), hpaired]
    rfl

/-! ## Restart and burst (R326, R327) -/

section Operation
variable {d : Dev} {n : Nat} (halone : d.paired = false)
include halone

theorem buckRestart_due (hon : d.regOn n = true) (hoff : (d.buckS n).off = true)
    (hdue : (d.buckS n).since + d.fld (pg .supply) (F.SUPPLY.BUCK_PROT_OFF.at n) * 400000 ≤ d.now) :
    d.buckRestart n = d.modBuck n (fun b => { b with soft := true, off := false, since := d.now }) := by
  simp only [buckRestart, buckOf_alone halone, if_pos (And.intro hon (And.intro hoff hdue)), buckSoftStart]
  exact rotateLead_alone (d := d.modBuck n _) halone n

theorem buckRestart_off (hon : d.regOn n = false) : d.buckRestart n = d := by
  simp [buckRestart, buckOf_alone halone, hon]

theorem buckClean_off (hon : d.regOn n = false) : d.buckClean n = d := by
  simp [buckClean, buckOf_alone halone, hon]

theorem buckClean_due (hon : d.regOn n = true) (hoff : (d.buckS n).off = false) (hdue : (d.buckS n).since + 4000000 ≤ d.now) :
    d.buckClean n = d.modBuck n (fun b => { b with retry := 0 }) := by
  simp [buckClean, buckOf_alone halone, hon, hoff, hdue]

theorem buckBurst_entered (hon : d.regOn n = true) (hoff : (d.buckS n).off = false) (hsoft : (d.buckS n).soft = false)
    (hen : d.flag (pg .supply) (F.SUPPLY.BUCK_CFG_BURST_EN.at n) = true)
    (hburst : d.flag (pg .supply) (regBit F.SUPPLY.REG_STATUS_BURST n) = false) :
    d.buckBurst n = (d.setFlag (pg .supply) (regBit F.SUPPLY.REG_STATUS_BURST n) true).bump (pg .supply) R.SUPPLY.BURSTS := by
  simp [buckBurst, buckOf_alone halone, hon, hoff, hsoft, hen, hburst, setBucks_alone halone]

theorem buckBurst_disabled (hen : d.flag (pg .supply) (F.SUPPLY.BUCK_CFG_BURST_EN.at n) = false) : d.buckBurst n = d := by
  simp [buckBurst, buckOf_alone halone, hen]

theorem buckWake_burst (hburst : d.flag (pg .supply) (regBit F.SUPPLY.REG_STATUS_BURST n) = true) (high : Bool) :
    d.buckWake n high = if high then d.setFlag (pg .supply) (regBit F.SUPPLY.REG_STATUS_BURST n) false else d := by
  simp [buckWake, buckOf_alone halone, hburst, rotateLead_alone halone, setBucks_alone halone]

theorem buckWake_none (hburst : d.flag (pg .supply) (regBit F.SUPPLY.REG_STATUS_BURST n) = false) (high : Bool) :
    d.buckWake n high = d := by
  simp [buckWake, buckOf_alone halone, hburst]

theorem buckSoftEnd_none (hsoft : (d.buckS n).soft = false) : d.buckSoftEnd n = d := by
  simp [buckSoftEnd, buckOf_alone halone, hsoft]

theorem buckSoftEnd_due (hsoft : (d.buckS n).soft = true) (hdue : (d.buckS n).since + 200000 ≤ d.now) : d.buckSoftEnd n =
    (d.setFlag (pg .supply) (regBit F.SUPPLY.REG_STATUS_HICCUP n) false).modBuck n (fun b => { b with soft := false }) := by
  simp [buckSoftEnd, buckOf_alone halone, hsoft, hdue, setBucks_alone halone]

end Operation

/-- The core rail of a pair started softly, with the other phase in the lead (R325). -/
def railRestarted (d : Dev) : Dev :=
  ((d.modBuck 0 (fun b => { b with soft := true, off := false, since := d.now })).setFlag (pg .supply) F.SUPPLY.REG_STATUS_LEAD
    (!d.flag (pg .supply) F.SUPPLY.REG_STATUS_LEAD)).bump (pg .supply) R.SUPPLY.ROTATIONS

theorem buckRestart_pair {d : Dev} (hpaired : d.paired = true) (hon : d.regOn 0 = true) (hoff : (d.buckS 0).off = true)
    (hdue : (d.buckS 0).since + d.fld (pg .supply) (F.SUPPLY.BUCK_PROT_OFF.at 0) * 400000 ≤ d.now) {k : Nat} (hk : k = 0 ∨ k = 3) :
    d.buckRestart k = d.railRestarted := by
  have hlead : d.buckOf k = 0 := by
    obtain rfl | rfl := hk <;> simp [buckOf, hpaired]
  have hboth : (d.modBuck 0 (fun b => { b with soft := true, off := false, since := d.now })).paired = true := hpaired
  simp only [buckRestart, hlead, if_pos (And.intro hon (And.intro hoff hdue)), buckSoftStart, rotateLead, hboth, true_or, and_self, if_true]
  rfl

theorem railRestarted_spec (d : Dev) : (d.railRestarted.buckS 0).soft = true ∧ (d.railRestarted.buckS 0).off = false ∧
    d.railRestarted.flag (pg .supply) F.SUPPLY.REG_STATUS_LEAD = !d.flag (pg .supply) F.SUPPLY.REG_STATUS_LEAD ∧
    d.railRestarted.reg (pg .supply) R.SUPPLY.ROTATIONS = d.reg (pg .supply) R.SUPPLY.ROTATIONS + 1 := by
  have hbuck : d.railRestarted.buckS 0 = { d.buckS 0 with soft := true, off := false, since := d.now } := by
    rw [railRestarted, buckS_bump, buckS_setFlag, buckS_modBuck_self _ (by decide)]
  refine ⟨congrArg BuckS.soft hbuck, congrArg BuckS.off hbuck, ?_, ?_⟩
  · rw [railRestarted, flag_bump_apart _ (by decide), flag_setFlag_self _ _ _ _ (by decide) (by decide)]
  · rw [railRestarted, reg_bump_self, reg_setFlag_apart _ _ (by decide), reg_modBuck]
    rfl

/-! ## UNLATCH (R327) -/

/-- UNLATCH for one buck: unlatched where its domain is disabled, refused otherwise. -/
def unlatchOne (d : Dev) (free : Nat → Bool) (n : Nat) : Dev :=
  if free n then d.setFlag (pg .supply) (regBit F.SUPPLY.REG_STATUS_LATCHED n) false else d.event (pg .supply) F.SUPPLY.EVENT_CMD_REFUSED

theorem buckLatched_unlatchOne (d : Dev) (free : Nat → Bool) {n k : Nat} (hn : n < 4) (hk : k < 4) :
    (d.unlatchOne free n).buckLatched k = (d.buckLatched k && !(free k && k == n)) := by
  unfold unlatchOne buckLatched
  split
  case isTrue hfree =>
    rw [flag_setBit (by decide) (by decide) d hn hk]
    by_cases h : k = n
    · simp [h, hfree]
    · simp [h]
  case isFalse hfree =>
    rw [statusBit_of_reg (reg_event_apart d (by decide)) (by decide)]
    by_cases h : k = n
    · simp [h, hfree]
    · simp [h]

theorem refused_unlatchOne (d : Dev) (free : Nat → Bool) (n : Nat) : (d.unlatchOne free n).flag (pg .supply) F.SUPPLY.EVENT_CMD_REFUSED =
    (!free n || d.flag (pg .supply) F.SUPPLY.EVENT_CMD_REFUSED) := by
  unfold unlatchOne
  split
  case isTrue h => rw [flag_of_fld (fld_of_reg (reg_setBit_apart (by decide) d n false (by decide))), h]; rfl
  case isFalse h => rw [flag_event_self _ _ _ (by decide) rfl]; simp [h]

/-- The bucks of a mask unlatched one after the other. -/
theorem each_unlatchOne_spec (free : Nat → Bool) {l : List Nat} (hl : ∀ n ∈ l, n < 4) (d : Dev) :
    (∀ k < 4, (d.each l fun e n => e.unlatchOne free n).buckLatched k = (d.buckLatched k && !(free k && decide (k ∈ l)))) ∧
      (d.each l fun e n => e.unlatchOne free n).flag (pg .supply) F.SUPPLY.EVENT_CMD_REFUSED =
        (l.any (fun n => !free n) || d.flag (pg .supply) F.SUPPLY.EVENT_CMD_REFUSED) := by
  induction l generalizing d with
  | nil => simp [each]
  | cons n l ih =>
    obtain ⟨hlatched, hrefused⟩ := ih (fun k hk => hl k (List.mem_cons_of_mem _ hk)) (d.unlatchOne free n)
    have hn := hl n List.mem_cons_self
    have hfirst : d.each (n :: l) (fun e n => e.unlatchOne free n) = (d.unlatchOne free n).each l fun e n => e.unlatchOne free n := rfl
    rw [hfirst, hrefused, refused_unlatchOne]
    refine ⟨fun k hk => ?_, ?_⟩
    · rw [hlatched k hk, buckLatched_unlatchOne d free hn hk]
      by_cases h : k = n <;> cases free k <;> simp [h, beq_eq_decide]
    · rw [List.any_cons]
      cases free n <;> simp

theorem supplyUnlatch_alone {d : Dev} (halone : d.paired = false) (mask : Nat) (free : Nat → Bool) :
    (d.supplyUnlatch mask free).pageRegs (pg .supply) =
      (d.each (numbers 4 (bitAt mask)) fun e n => e.unlatchOne free n).pageRegs (pg .supply) := by
  have heach : ∀ (l : List Nat) (e : Dev), e.paired = false → (e.each l fun d n =>
      if free n then d.setBucks F.SUPPLY.REG_STATUS_LATCHED n false else d.event (pg .supply) F.SUPPLY.EVENT_CMD_REFUSED) =
      e.each l fun e n => e.unlatchOne free n := by
    intro l
    induction l with
    | nil => exact fun _ _ => rfl
    | cons n l ih =>
      intro e he
      have hstep : (if free n then e.setBucks F.SUPPLY.REG_STATUS_LATCHED n false else e.event (pg .supply) F.SUPPLY.EVENT_CMD_REFUSED) =
          e.unlatchOne free n := by rw [setBucks_alone he]; rfl
      have hkept : (e.unlatchOne free n).paired = false := by
        unfold unlatchOne
        split
        · exact (paired_setBit (by decide) ..).trans he
        · exact (paired_of_reg (reg_event_apart e (by decide))).trans he
      simp only [each, List.foldl_cons, hstep]
      exact ih _ hkept
  simp only [supplyUnlatch, heach _ d halone]
  split
  · exact pageRegs_lower _ (by decide) (by decide)
  · rfl

theorem supplyUnlatch_spec {d : Dev} (halone : d.paired = false) (mask : Nat) (free : Nat → Bool) :
    (∀ n < 4, (d.supplyUnlatch mask free).buckLatched n = (d.buckLatched n && !(bitAt mask n && free n))) ∧
      (∀ n < 4, bitAt mask n = true → free n = false →
        (d.supplyUnlatch mask free).flag (pg .supply) F.SUPPLY.EVENT_CMD_REFUSED = true) := by
  have hpage := supplyUnlatch_alone halone mask free
  have hmem : ∀ n, n ∈ numbers 4 (bitAt mask) ↔ n < 4 ∧ bitAt mask n = true := fun n => by simp [numbers]
  obtain ⟨hlatched, hrefused⟩ := each_unlatchOne_spec free (fun n hn => (mem_numbers hn).1) d (l := numbers 4 (bitAt mask))
  refine ⟨fun n hn => ?_, fun n hn hbit hfree => ?_⟩
  · rw [buckLatched, flag_of_pageRegs hpage (by rw [regBit_ofs (by decide)]; decide)]
    refine (hlatched n hn).trans ?_
    simp only [hmem, hn, true_and, Bool.decide_eq_true, Bool.and_comm]
  · rw [flag_of_pageRegs hpage (by decide), hrefused, Bool.or_eq_true]
    exact .inl (List.any_eq_true.mpr ⟨n, (hmem n).mpr ⟨hn, hbit⟩, by simp [hfree]⟩)

theorem supplyWrite_unlatch (d : Dev) (m : Master) (w : Word) (f : WriteFacts) :
    d.blockWrite m .supply 0 R.SUPPLY.UNLATCH w f =
      d.supplyUnlatch (bitsOf w.toNat 0 4) (fun n => d.domState n == 0 || d.domState n == 3) := by
  show d.supplyWrite m R.SUPPLY.UNLATCH w = _
  rw [supplyWrite, if_pos rfl]

/-! ## Synchronisation (R324) -/

theorem regSyncLoss_window {d : Dev} (h : d.sysSrc = 0 ∨ d.syncWindow = true) (n : Nat) : d.regSyncLoss n = d := by
  refine if_neg fun hlost => ?_
  obtain ⟨hsrc, hwindow, -⟩ := hlost
  obtain h | h := h
  · exact hsrc h
  · simp [h] at hwindow

end Dev

/-- A permitted write of UNLATCH runs as the supply's. -/
theorem Runs.supplyUnlatch {d : Dev} {m : Master} (h : d.CanWrite m .supply 0 R.SUPPLY.UNLATCH) (mask : BitVec 4) :
    Runs (.supplyUnlatch m mask) d (d.supplyUnlatch mask.toNat (fun n => d.domState n == 0 || d.domState n == 3)).done := by
  have hmask : bitsOf (BitVec.ofNat 32 mask.toNat).toNat 0 4 = mask.toNat := by
    have hlt := mask.isLt
    simp only [bitsOf, Nat.shiftRight_zero, BitVec.toNat_ofNat]
    omega
  refine Runs.block (by decide) (by decide) h (by decide) (fun _ => rfl) ?_
  rw [Dev.supplyWrite_unlatch, hmask]

/-- Settles O35: each operation of a regulator by its own rule, and the discharge path by whether it regulates. -/
theorem regulatorsRun : Obligations.RegulatorsRun := by
  unfold Obligations.RegulatorsRun
  intro d p
  refine ⟨?buck, ?pair, ?unlatch, ?lost, fun k h => Runs.dev (fun _ => rfl) (Dev.regSyncLoss_window h _),
    fun k hon => Runs.dev (fun _ => rfl) (if_pos hon), fun k hon => Runs.dev (fun _ => rfl) (if_neg (by simp [hon])), ?soft,
    fun n h => Dev.dischargeOhms_none h, fun n hst hidle => Dev.dischargeOhms_idle hst hidle⟩
  case buck =>
    intro k run halone ncyc since
    refine ⟨fun h => Runs.dev (fun _ => rfl) (Dev.buckHiccup_idle halone h), ?offTime, ?latch,
      fun hon hoff hdue => Runs.dev (fun _ => rfl) (Dev.buckRestart_due halone hon hoff hdue),
      fun hon => ⟨Runs.dev (fun _ => rfl) (Dev.buckRestart_off halone hon), Runs.dev (fun _ => rfl) (Dev.buckClean_off halone hon)⟩,
      fun hon hoff hdue => Runs.dev (fun _ => rfl) (Dev.buckClean_due halone hon hoff hdue),
      fun hon hoff hsoft hen hburst => Runs.dev (fun _ => rfl) (Dev.buckBurst_entered halone hon hoff hsoft hen hburst),
      fun hen => Runs.dev (fun _ => rfl) (Dev.buckBurst_disabled halone hen),
      fun hburst => ⟨Runs.dev (fun _ => rfl) (Dev.buckWake_burst halone hburst true),
        Runs.dev (fun _ => rfl) (Dev.buckWake_burst halone hburst false)⟩,
      fun hburst high => Runs.dev (fun _ => rfl) (Dev.buckWake_none halone hburst high)⟩
    case offTime =>
      intro hon hoff hrun hretry
      obtain ⟨hpath, hsince, hbit, hoff', hcount, hevent, hhiccups⟩ := Dev.offTimeBegun_spec halone k.isLt
      exact ⟨_, Runs.dev (fun _ => rfl) ((Dev.buckHiccup_limited halone hon hoff hrun k.isLt).trans (if_pos hretry)), hpath, hsince, hbit,
        hoff', hcount, hevent, hhiccups, by simp [Dev.offTimeBegun, Dev.burstLeft]⟩
    case latch =>
      intro hon hoff hrun hretry
      obtain ⟨hlatched, hoff', hcount, hevent, hpath⟩ := Dev.latchEntered_spec halone k.isLt
      exact ⟨_, hlatched, hoff', hcount, hevent, by simp [Dev.latchEntered, Dev.burstLeft], by simp [Dev.latchEntered, Dev.burstLeft], hpath,
        Runs.dev (fun _ => rfl) ((Dev.buckHiccup_limited halone hon hoff hrun k.isLt).trans (if_neg (Nat.not_lt.mpr hretry)))⟩
  case pair =>
    intro hpaired hon hoff hdue k hk
    have hlead : k.val = 0 ∨ k.val = 3 := by
      simp only [List.mem_cons, List.not_mem_nil, or_false] at hk
      obtain rfl | rfl := hk
      · exact .inl rfl
      · exact .inr rfl
    exact ⟨_, Runs.dev (fun _ => rfl) (Dev.buckRestart_pair hpaired hon hoff hdue hlead), d.railRestarted_spec⟩
  case unlatch =>
    intro m mask h halone
    obtain ⟨hlatched, hrefused⟩ := Dev.supplyUnlatch_spec halone mask.toNat (fun n => d.domState n == 0 || d.domState n == 3)
    refine ⟨_, Runs.supplyUnlatch h mask, fun n hn => ?_, fun n hn hbit hoff hfalling => ?_, by simp, by simp⟩
    · rw [← bitAt_eq_testBit]
      exact hlatched n hn
    · exact hrefused n hn (by rwa [bitAt_eq_testBit]) (by simp [hoff, hfalling])
  case lost =>
    intro k hsrc hwindow hsynced
    exact Runs.dev (fun _ => rfl) (if_pos ⟨hsrc, by simp [hwindow], hsynced⟩)
  case soft =>
    intro k halone
    refine ⟨fun hsoft => Runs.dev (fun _ => rfl) (Dev.buckSoftEnd_none halone hsoft), fun hsoft hdue =>
      ⟨_, Runs.dev (fun _ => rfl) (Dev.buckSoftEnd_due halone hsoft hdue), ?_, ?_, by simp, by simp⟩⟩
    · exact congrArg BuckS.soft (Dev.buckS_modBuck_self _ k.isLt _)
    · exact Dev.flag_setFlag_self _ _ _ _ (Dev.regBit_fits (by decide) k.isLt) Nat.one_pos

end Sys2Proof.Machine
end

section
/-!
PROOFS. The power path (R312, R313, R315, R317–R320, R355): VIN and the request to go off, the backup charger, and the release boost.
-/
namespace Sys2Proof.Machine
namespace Dev

/-! ## VIN (R313) -/

/-- VIN back within its window. -/
def vinReturned (d : Dev) : Dev := (d.setFlag (pg .path) F.PATH.PATH_STATUS_VIN_OK true).event (pg .path) F.PATH.EVENT_VIN_BACK

/-- VIN stands at UV, 100 mV above VBAK, for DEB. -/
abbrev VinGood (d : Dev) (vin vbak ms : Nat) : Prop := d.vinUv ≤ vin ∧ vbak + 100 ≤ vin ∧ d.fld (pg .path) F.PATH.VIN_CFG_DEB ≤ ms

theorem vinSet_none {d : Dev} {vin vbak ms : Nat} (h : d.vinOk = true ∨ ¬ d.VinGood vin vbak ms) : d.vinSet vin vbak ms = d := by
  refine if_pos (h.imp_right fun hbad => ?_)
  simp only [not_and_or, Nat.not_le] at hbad
  exact hbad

theorem vinSet_good {d : Dev} {vin vbak ms : Nat} (hoff : d.vinOk = false) (h : d.VinGood vin vbak ms) :
    d.vinSet vin vbak ms = d.vinReturned := by
  obtain ⟨huv, hbak, hdeb⟩ := h
  refine if_neg ?_
  simp [hoff, huv, hbak, hdeb]

theorem vinOkSet_none {d : Dev} {vin vbak ms : Nat} (h : d.vinOk = true ∨ ¬ d.VinGood vin vbak ms) : d.vinOkSet vin vbak ms = d := by
  simp only [vinOkSet, vinSet_none h, Bool.not_and_self, Bool.false_and, Bool.false_eq_true, if_false]

theorem vinOkSet_good {d : Dev} {vin vbak ms : Nat} (hoff : d.vinOk = false) (h : d.VinGood vin vbak ms) : d.vinOkSet vin vbak ms =
    if d.flag (pg .seq) F.SEQ.SEQ_CFG_VIN_OFF then d.vinReturned.onRequest false else d.vinReturned := by
  have hok : d.vinReturned.vinOk = true := by
    simp (disch := decide) only [vinReturned, vinOk, reads_apart, reads_self]
  have hcfg : d.vinReturned.flag (pg .seq) F.SEQ.SEQ_CFG_VIN_OFF = d.flag (pg .seq) F.SEQ.SEQ_CFG_VIN_OFF := by
    simp (disch := decide) only [vinReturned, reads_page]
  simp only [vinOkSet, vinSet_good hoff h, hoff, hok, hcfg, Bool.not_false, Bool.true_and]

/-- VIN lost, with the charger off unless it has timed out. -/
def vinGone (d : Dev) : Dev :=
  let e := (((d.setFlag (pg .path) F.PATH.PATH_STATUS_VIN_OK false).event (pg .path) F.PATH.EVENT_VIN_LOST).modSupply
    (fun s => { s with vinLostAt := d.now })).bump (pg .path) R.PATH.VIN_LOSSES
  if d.bakState = 6 then e else e.setBak 0

theorem vinLost_bad {d : Dev} {vin vsys : Nat} (hon : d.vinOk = true) (h : vin < d.vinUv ∨ vin + 30 < vsys) :
    d.vinLost vin vsys = d.vinGone := by
  have hstate : ∀ t, ((((d.setFlag (pg .path) F.PATH.PATH_STATUS_VIN_OK false).event (pg .path) F.PATH.EVENT_VIN_LOST).modSupply
      (fun s => { s with vinLostAt := t })).bump (pg .path) R.PATH.VIN_LOSSES).bakState = d.bakState := fun t => by
    simp (disch := decide) only [bakState, reads_apart_reg, fld_modSupply, reads_apart]
  rw [vinGone, ← hstate d.now]
  exact if_pos ⟨hon, h⟩

theorem vinLost_none {d : Dev} {vin vsys : Nat} (h : d.vinOk = false ∨ ¬ (vin < d.vinUv ∨ vin + 30 < vsys)) : d.vinLost vin vsys = d :=
  if_neg fun hbad => h.elim (fun hoff => by simp [hoff] at hbad) (fun hgood => hgood hbad.2)

theorem vinGone_spec (d : Dev) : d.vinGone.vinOk = false ∧ d.vinGone.flag (pg .path) F.PATH.EVENT_VIN_LOST = true ∧
    d.vinGone.reg (pg .path) R.PATH.VIN_LOSSES = d.reg (pg .path) R.PATH.VIN_LOSSES + 1 ∧
    d.vinGone.bakState = (if d.bakState = 6 then 6 else 0) ∧ d.vinGone.supply.vinLostAt = d.now := by
  unfold vinGone
  by_cases h : d.bakState = 6
  · simp only [if_pos h]
    simp (disch := decide) only [vinOk, bakState, reads_apart_reg, flag_modSupply, fld_modSupply, reg_modSupply, reads_apart, reads_self,
      reads_ofs, reg_bump_self]
    exact ⟨trivial, trivial, rfl, h, rfl⟩
  · simp only [if_neg h]
    simp (disch := decide) only [vinOk, bakState, setBak, reads_apart_reg, flag_modSupply, reg_modSupply, reads_apart,
      reads_self, reads_ofs, reg_bump_self]
    exact ⟨trivial, trivial, rfl, rfl, rfl⟩

/-! ## The request to go off (R355) -/

theorem offDue_iff (d : Dev) : d.offDue = true ↔ d.flag (pg .seq) F.SEQ.SEQ_CFG_VIN_OFF = true ∧ d.vinOk = false ∧
    d.supply.vinLostAt + 400000 * d.fld (pg .seq) F.SEQ.SEQ_CFG_VIN_HOLD ≤ d.now := by
  simp [offDue, and_assoc]

theorem offRequest_none {d : Dev} (h : d.offDue = false ∨ d.powerDown = true) : d.offRequest = d := if_pos (by simpa using h)

section OffRequest
variable {d : Dev} (hdue : d.offDue = true) (hdown : d.powerDown = false)
include hdue hdown

theorem offRequest_safe (hst : d.state = 5) : d.offRequest = d.setFlag (pg .seq) F.SEQ.SEQ_STATUS_OFF_REQ true := by
  simp [offRequest, hdue, hdown, hst]

theorem offRequest_run (hst : d.state = 4) :
    d.offRequest = ((d.setFlag (pg .seq) F.SEQ.SEQ_STATUS_OFF_REQ true).disarmNow).offSettle := by
  simp [offRequest, hdue, hdown, hst]

/-- In READY a request waits for the tiles that switch. -/
theorem offRequest_switching (hst : d.state = 3) (hswitch : ∃ n < 24, d.tstate n = 3) :
    d.offRequest = d.setFlag (pg .seq) F.SEQ.SEQ_STATUS_OFF_REQ true := by
  obtain ⟨n, hn, htile⟩ := hswitch
  have hrun : d.offRequest = (d.setFlag (pg .seq) F.SEQ.SEQ_STATUS_OFF_REQ true).offSettle := by simp [offRequest, hdue, hdown, hst]
  have hkept : (d.setFlag (pg .seq) F.SEQ.SEQ_STATUS_OFF_REQ true).tstate n = 3 := by
    have hpage : pg .tile n ≠ pg .seq := by simp only [pg, PageKind.first]; omega
    exact (fld_of_pageRegs (pageRegs_setFlag d true ⟨hpage, by decide⟩) (by decide)).trans htile
  rw [hrun]
  refine if_neg fun hready => ?_
  have hnone := hready.2.2.2
  have hany : (List.range 24).any (fun n => (d.setFlag (pg .seq) F.SEQ.SEQ_STATUS_OFF_REQ true).tstate n == 3) = true :=
    List.any_eq_true.mpr ⟨n, List.mem_range.mpr hn, by simp [hkept]⟩
  rw [hany] at hnone
  cases hnone

end OffRequest

/-! ## A tick of the charger (R315, R318) -/

/-- The measurement of a tick shown while VIN stands. -/
def measShown (d : Dev) (v i : Nat) : Dev :=
  if d.vinOk then d.setReg (pg .path) R.PATH.BAK_MEAS (BitVec.ofNat 32 (min v 65535 + 65536 * min i 65535)) else d

/-- The timers of the charger advanced by a tick. -/
def timersRun (d : Dev) : Dev := d.modBak (fun b => { b with
  preT := if d.vinOk && d.bakState == 1 then b.preT + 1 else b.preT,
  totT := if d.vinOk && (d.bakState == 1 || d.bakState == 2 || (d.bakState == 3 && !d.superCap)) then b.totT + 1 else b.totT })

/-- The charger in the state that a tick leads to. -/
def tickMoved (d : Dev) (st : Nat) (r : Nat × Nat) : Dev :=
  (d.showBak.setBak r.1).modBak (fun b => { b with termT := r.2, from' := if r.1 = 5 ∧ st ≠ 5 then st else b.from' })

/-- What a tick counts of the move from state `st` to `st'`: a suspension, the end of a charge, a recharge. -/
def tickCounted (d : Dev) (st st' : Nat) : Dev :=
  let d := if st' = 5 ∧ st ≠ 5 then d.bump (pg .path) R.PATH.BAK_SUSPENDS else d
  let d := if st' = 4 ∧ st = 3 then (d.bump (pg .path) R.PATH.BAK_CYCLES).event (pg .path) F.PATH.EVENT_BAK_DONE else d
  if st' = 2 ∧ st = 4 then d.bakReset else d

/-- The registers from which the charger takes its next state stand as they were once the measurement is shown. -/
theorem reg_measShown (d : Dev) (v i : Nat) {o : Nat} (h : o ≠ R.PATH.BAK_MEAS) :
    (d.measShown v i).reg (pg .path) o = d.reg (pg .path) o := by
  rw [measShown]
  split
  · exact reg_setReg_apart d _ h
  · rfl

theorem bak_measShown (d : Dev) (v i : Nat) : (d.measShown v i).supply.bak = d.supply.bak := by
  rw [measShown]
  split <;> rfl

/-- A tick in a state with supply, in the order of its parts. -/
theorem chargerTick_eq {d : Dev} (h : d.state ≠ 0) (v i : Nat) :
    let e := (d.measShown v (min i d.bakCurrent)).timersRun
    d.chargerTick v i = (e.tickMoved d.bakState (e.bakNext v (min i d.bakCurrent))).tickCounted d.bakState
      (e.bakNext v (min i d.bakCurrent)).1 := by
  intro e
  have hstate : (d.measShown v (min i d.bakCurrent)).bakState = d.bakState := fld_of_reg (reg_measShown d _ _ (by decide))
  rw [← hstate]
  exact if_neg h

/-- A tick counts in the registers of its own counters, and a recharge shows its timers. -/
theorem reg_tickCounted (d : Dev) (st st' : Nat) {o : Nat} (h : o ≠ R.PATH.BAK_SUSPENDS ∧ o ≠ R.PATH.BAK_CYCLES ∧ o ≠ R.HDR.EVENT ∧
    o ≠ R.PATH.BAK_ELAPSED) : (d.tickCounted st st').reg (pg .path) o = d.reg (pg .path) o := by
  obtain ⟨hsuspends, hcycles, hevent, helapsed⟩ := h
  have hsuspend : ∀ (c : Prop) [Decidable c] (e : Dev), (if c then e.bump (pg .path) R.PATH.BAK_SUSPENDS else e).reg (pg .path) o =
      e.reg (pg .path) o := fun c _ e => by rw [reg_ite, (reads_reg e hsuspends).2, ite_self]
  have hdone : ∀ (c : Prop) [Decidable c] (e : Dev), (if c then (e.bump (pg .path) R.PATH.BAK_CYCLES).event (pg .path) F.PATH.EVENT_BAK_DONE
      else e).reg (pg .path) o = e.reg (pg .path) o := fun c _ e => by rw [reg_ite, reg_event_apart _ hevent, (reads_reg e hcycles).2, ite_self]
  have hreset : ∀ (c : Prop) [Decidable c] (e : Dev), (if c then e.bakReset else e).reg (pg .path) o = e.reg (pg .path) o := fun c _ e => by
    rw [reg_ite, bakReset, showBak, reg_setReg_apart _ _ helapsed, reg_modBak, ite_self]
  rw [tickCounted, hreset, hdone, hsuspend]

theorem bakState_tickCounted_tickMoved (d : Dev) (st : Nat) {r : Nat × Nat} (h : r.1 < 8) (st' : Nat) :
    ((d.tickMoved st r).tickCounted st st').bakState = r.1 := by
  refine (fld_of_reg (reg_tickCounted _ _ _ (by decide))).trans ?_
  rw [tickMoved, fld_modBak]
  exact (fld_setFld_self _ _ _ _ (by decide)).trans (Nat.mod_eq_of_lt h)

theorem reg_tickMoved (d : Dev) (st : Nat) (r : Nat × Nat) {o : Nat} (h : o ≠ R.PATH.PATH_STATUS ∧ o ≠ R.PATH.BAK_ELAPSED) :
    (d.tickMoved st r).reg (pg .path) o = d.reg (pg .path) o := by
  rw [tickMoved, reg_modBak, setBak, reg_setFld_apart _ _ h.1, showBak, reg_setReg_apart _ _ h.2]

/-- Without a recharge the timers stand as the tick has advanced them. -/
theorem totT_tickCounted_tickMoved (d : Dev) (st : Nat) (r : Nat × Nat) {st' : Nat} (h : ¬ (st' = 2 ∧ st = 4)) :
    ((d.tickMoved st r).tickCounted st st').supply.bak.totT = d.supply.bak.totT := by
  rw [tickCounted, if_neg h]
  split <;> split <;> rfl

/-- The charger with a tick's measurement shown and its timers advanced stands as before in all that decides its next state. -/
theorem ticked_settings (d : Dev) (v i : Nat) : let e := (d.measShown v i).timersRun
    e.vinOk = d.vinOk ∧ e.bakState = d.bakState ∧ e.superCap = d.superCap ∧ e.vPre = d.vPre ∧ e.bakSuspended = d.bakSuspended ∧
      e.flag (pg .path) F.PATH.BAK_CFG_EN = d.flag (pg .path) F.PATH.BAK_CFG_EN := by
  intro e
  have hfld : ∀ f : Fld, f.ofs ≠ R.PATH.BAK_MEAS → e.fld (pg .path) f = d.fld (pg .path) f :=
    fun f hf => fld_of_reg (reg_measShown d v i hf)
  have hflag : ∀ f : Fld, f.ofs ≠ R.PATH.BAK_MEAS → e.flag (pg .path) f = d.flag (pg .path) f := fun f hf => flag_of_fld (hfld f hf)
  refine ⟨hflag _ (by decide), hfld _ (by decide), ?_, ?_, ?_, hflag _ (by decide)⟩
  · rw [superCap, hfld _ (by decide), superCap]
  · rw [vPre, hfld _ (by decide), vPre]
  · simp (disch := decide) only [bakSuspended, relState, hfld, hflag]
    rfl

theorem totT_timersRun_measShown (d : Dev) (v i : Nat) : ((d.measShown v i).timersRun).supply.bak.totT =
    if d.vinOk && (d.bakState == 1 || d.bakState == 2 || (d.bakState == 3 && !d.superCap)) then d.supply.bak.totT + 1
    else d.supply.bak.totT := by
  obtain ⟨hvin, hstate, hcell, -⟩ := d.ticked_settings v i
  have htimers : ∀ e : Dev, e.timersRun.supply.bak.totT =
      if e.timersRun.vinOk && (e.timersRun.bakState == 1 || e.timersRun.bakState == 2 || (e.timersRun.bakState == 3 && !e.timersRun.superCap))
        then e.supply.bak.totT + 1 else e.supply.bak.totT := fun _ => rfl
  rw [htimers, bak_measShown, hvin, hstate, hcell]

/-- Without VIN the charger is off, unless it has timed out. -/
theorem bakNext_unsupplied {d : Dev} (h : d.vinOk = false) (v i : Nat) : (d.bakNext v i).1 = if d.bakState = 6 then 6 else 0 := by
  simp [bakNext, h]

section Charging
variable {d : Dev} (hvin : d.vinOk = true) (hen : d.flag (pg .path) F.PATH.BAK_CFG_EN = true) (hfree : d.bakSuspended = false)
include hvin hen

theorem bakNext_off (hcell : d.superCap = false) (hst : d.bakState = 0) (v i : Nat) :
    (d.bakNext v i).1 = if v < d.vPre then 1 else 2 := by
  simp [bakNext, hst, hvin, hen, hcell]

include hfree

theorem bakNext_pre (hst : d.bakState = 1) (v i : Nat) : (d.bakNext v i).1 = if d.vPre ≤ v then 2 else 1 := by
  simp [bakNext, hst, hvin, hen, hfree]

end Charging

/-- The state that a tick leads to, where it is one of BAK_STATE's. -/
theorem chargerTick_moves {d : Dev} (h : d.state ≠ 0) {v i st : Nat} (hst : st < 8)
    (hnext : ((d.measShown v (min i d.bakCurrent)).timersRun.bakNext v (min i d.bakCurrent)).1 = st) : (d.chargerTick v i).bakState = st := by
  have heq := chargerTick_eq h v i
  simp only [hnext] at heq
  rw [heq, bakState_tickCounted_tickMoved _ _ (hnext ▸ hst), hnext]

/-- Without VIN a tick turns the charger off, unless it has timed out. -/
theorem bakState_chargerTick_unsupplied {d : Dev} (h : d.state ≠ 0) (hvin : d.vinOk = false) (v i : Nat) :
    (d.chargerTick v i).bakState = if d.bakState = 6 then 6 else 0 := by
  obtain ⟨hvin', hstate, -⟩ := d.ticked_settings v (min i d.bakCurrent)
  refine chargerTick_moves h (by split <;> decide) ?_
  rw [bakNext_unsupplied (hvin'.trans hvin), hstate]

/-- A tick that finds the charger off with VIN, or in PRE. -/
theorem bakState_chargerTick_charging {d : Dev} (h : d.state ≠ 0) (hvin : d.vinOk = true) (hen : d.flag (pg .path) F.PATH.BAK_CFG_EN = true)
    (hfree : d.bakSuspended = false) (hcell : d.superCap = false) (v i : Nat) :
    (d.bakState = 0 → (d.chargerTick v i).bakState = if v < d.vPre then 1 else 2) ∧
      (d.bakState = 1 → (d.chargerTick v i).bakState = if d.vPre ≤ v then 2 else 1) := by
  obtain ⟨hvin', hstate, hcell', hpre, hfree', hen'⟩ := d.ticked_settings v (min i d.bakCurrent)
  refine ⟨fun hst => chargerTick_moves h (by split <;> decide) ?_, fun hst => chargerTick_moves h (by split <;> decide) ?_⟩
  · rw [bakNext_off (hvin'.trans hvin) (hen'.trans hen) (hcell'.trans hcell) (hstate.trans hst), hpre]
  · rw [bakNext_pre (hvin'.trans hvin) (hen'.trans hen) (hfree'.trans hfree) (hstate.trans hst), hpre]

/-- What a tick leaves of the total timer, where it does not begin a recharge. -/
theorem chargerTick_total {d : Dev} (h : d.state ≠ 0) {v i : Nat} (hstay :
    ¬ (((d.measShown v (min i d.bakCurrent)).timersRun.bakNext v (min i d.bakCurrent)).1 = 2 ∧ d.bakState = 4)) :
    (d.chargerTick v i).supply.bak.totT =
      if d.vinOk && (d.bakState == 1 || d.bakState == 2 || (d.bakState == 3 && !d.superCap)) then d.supply.bak.totT + 1
      else d.supply.bak.totT := by
  have heq := chargerTick_eq h v i
  simp only at heq
  rw [heq, totT_tickCounted_tickMoved _ _ _ hstay, totT_timersRun_measShown]

/-- Without VIN no recharge begins. -/
theorem bakNext_unsupplied_stays {d : Dev} (hvin : d.vinOk = false) (v i : Nat) :
    ¬ (((d.measShown v (min i d.bakCurrent)).timersRun.bakNext v (min i d.bakCurrent)).1 = 2 ∧ d.bakState = 4) := by
  obtain ⟨hvin', -⟩ := d.ticked_settings v (min i d.bakCurrent)
  rintro ⟨hnext, -⟩
  rw [bakNext_unsupplied (hvin'.trans hvin)] at hnext
  split at hnext <;> cases hnext

/-- The measurement of a tick as BAK_MEAS shows it. -/
theorem chargerTick_measured {d : Dev} (h : d.state ≠ 0) (hvin : d.vinOk = true) (v i : Nat) :
    (d.chargerTick v i).reg (pg .path) R.PATH.BAK_MEAS = BitVec.ofNat 32 (min v 65535 + 65536 * min (min i d.bakCurrent) 65535) := by
  have heq := chargerTick_eq h v i
  simp only at heq
  rw [heq, reg_tickCounted _ _ _ (by decide), reg_tickMoved _ _ _ (by decide), timersRun, reg_modBak, measShown, if_pos hvin,
    reg_setReg_self]

/-! ## Temperature, timers and RESTART (R317, R318) -/

/-- A first measurement of another zone shows its code, and leaves the zone. -/
def zoneAsked (d : Dev) (code : Nat) : Dev :=
  (d.setFld (pg .path) F.PATH.PATH_STATUS_TBAK code).modBak (fun b => { b with cand := d.bakZone code, candRun := 1 })

theorem tbakMeasure_off {d : Dev} (h : d.state = 0 ∨ d.flag (pg .path) F.PATH.BAK_CFG_TEMP_EN = false) (uv : Nat) : d.tbakMeasure uv = d :=
  if_pos (by simpa using h)

theorem tbakMeasure_newZone {d : Dev} (hst : d.state ≠ 0) (hen : d.flag (pg .path) F.PATH.BAK_CFG_TEMP_EN = true) {uv : Nat}
    (hcand : d.supply.bak.cand ≠ d.bakZone (min 255 ((512 * uv + 1200000) / 2400000))) :
    d.tbakMeasure uv = d.zoneAsked (min 255 ((512 * uv + 1200000) / 2400000)) := by
  have hgo : ¬ (d.state = 0 ∨ (!d.flag (pg .path) F.PATH.BAK_CFG_TEMP_EN) = true) := by simp [hst, hen]
  have hrun : ∀ code, d.supply.bak.cand ≠ d.bakZone code → (d.setFld (pg .path) F.PATH.PATH_STATUS_TBAK code).modBak (fun b => { b with
      cand := d.bakZone code, candRun := if b.cand = d.bakZone code then b.candRun + 1 else 1 }) = d.zoneAsked code := by
    intro code hne
    have hsame : (d.setFld (pg .path) F.PATH.PATH_STATUS_TBAK code).supply.bak.cand = d.supply.bak.cand := rfl
    simp only [zoneAsked, modBak, modSupply, hsame, if_neg hne]
  simp only [tbakMeasure, if_neg hgo, hrun _ hcand]
  exact if_neg fun hthird => absurd hthird.1 (show ¬ 3 ≤ 1 by decide)

theorem zoneAsked_spec (d : Dev) {code : Nat} (h : code < 256) : (d.zoneAsked code).fld (pg .path) F.PATH.PATH_STATUS_TBAK = code ∧
    (d.zoneAsked code).fld (pg .path) F.PATH.PATH_STATUS_ZONE = d.fld (pg .path) F.PATH.PATH_STATUS_ZONE ∧
    (d.zoneAsked code).supply.bak.candRun = 1 := by
  simp (disch := decide) only [zoneAsked, fld_modBak, reads_self, reads_apart]
  exact ⟨Nat.mod_eq_of_lt h, trivial, rfl⟩

theorem bakTimerExpiry_pre {d : Dev} (hst : d.bakState ≠ 6)
    (hdue : d.fld (pg .path) F.PATH.BAK_TIME_PRE_TIME * 60000 ≤ d.supply.bak.preT) : d.bakTimerExpiry =
      (d.setFld (pg .path) F.PATH.PATH_STATUS_BAK_STATE 6).raise .path 0 B.PATH.BAK_TIMER 1 := by
  simp only [bakTimerExpiry, if_neg hst, if_pos hdue]
  rfl

theorem pathWrite_bakCmd (d : Dev) (m : Master) (f : WriteFacts) : d.blockWrite m .path 0 R.PATH.BAK_CMD 1 f = d.bakRestart := by
  show d.pathWrite m R.PATH.BAK_CMD 1 = _
  rw [pathWrite, if_pos rfl]
  rfl

theorem bakRestart_spec (d : Dev) : d.bakRestart.supply.bak.preT = 0 ∧ d.bakRestart.supply.bak.totT = 0 ∧
    d.bakRestart.reg (pg .path) R.PATH.BAK_ELAPSED = 0 ∧ d.bakRestart.bakState = if d.bakState = 6 then 0 else d.bakState := by
  have hreset : d.bakReset.bakState = d.bakState := by
    simp (disch := decide) only [bakReset, showBak, bakState, reads_apart_reg, fld_modBak]
  have hbak : d.bakReset.supply.bak.preT = 0 ∧ d.bakReset.supply.bak.totT = 0 := ⟨rfl, rfl⟩
  have hshown : d.bakReset.reg (pg .path) R.PATH.BAK_ELAPSED = 0 := by
    rw [bakReset, showBak, reg_setReg_self]
    show BitVec.ofNat 32 (0 / 60000 % 65536 + 65536 * (0 / 60000 % 65536)) = 0
    decide
  unfold bakRestart
  simp only [hreset]
  split
  case isTrue h =>
    refine ⟨hbak.1, hbak.2, ?_, fld_setFld_self _ _ _ _ (by decide)⟩
    rw [setBak, reg_setFld_apart _ _ (by decide), hshown]
  case isFalse h => exact ⟨hbak.1, hbak.2, hshown, hreset⟩

/-! ## The release boost (R319–R321) -/

theorem relState_setRel (d : Dev) {st : Nat} (h : st < 8) : (d.setRel st).relState = st := by
  simp (disch := decide) only [setRel, relState, reads_apart, reads_self]
  exact Nat.mod_eq_of_lt h

theorem reg_setRel_apart (d : Dev) (st : Nat) {o : Nat} (h : o ≠ R.PATH.PATH_STATUS) : (d.setRel st).reg (pg .path) o = d.reg (pg .path) o := by
  rw [setRel, reg_setFlag_apart _ _ h, reg_setFld_apart _ _ h]

theorem relCurrent_due {d : Dev} (h : d.relState = 1 ∨ d.relState = 2) (hdue : d.supply.boost.startAt + 40000000 ≤ d.now) :
    d.relCurrent = d.relLimited 1 := if_pos ⟨h, hdue⟩

/-- In LIMITED, COOL and what lies beyond none of the boost's limits acts. -/
theorem boost_stopped {d : Dev} (h : 3 < d.relState) (v : Nat) :
    d.relCurrent = d ∧ d.relTime = d ∧ d.relPause v = d ∧ d.relResume v = d := by
  have hrun : ¬ (d.relState = 1 ∨ d.relState = 2) := by omega
  have hpause : d.relState ≠ 3 := by omega
  refine ⟨if_neg fun hc => hrun hc.1, if_neg fun hc => by omega, ?_, if_neg fun hc => hpause hc.1⟩
  simp only [relPause, hrun, hpause, false_and, if_false]

/-- The boost paused. -/
def boostPaused (d : Dev) : Dev :=
  ((d.bump (pg .path) R.PATH.REL_PAUSES).modBoost (fun b => { b with
    from' := d.relState, pauses := b.pauses + 1, pauseFrom := d.now })).setRel 3

theorem relPause_low {d : Dev} (h : d.relState = 1 ∨ d.relState = 2) {v : Nat} (hlow : v < d.uvlo) (hfew : d.supply.boost.pauses < 15) :
    d.relPause v = d.boostPaused := by
  have hmany : ¬ 16 ≤ d.supply.boost.pauses + 1 := by omega
  simp only [relPause, if_pos (And.intro h hlow), if_neg hmany]
  rfl

theorem boostPaused_spec (d : Dev) : d.boostPaused.relState = 3 ∧
    d.boostPaused.reg (pg .path) R.PATH.REL_PAUSES = d.reg (pg .path) R.PATH.REL_PAUSES + 1 ∧ d.boostPaused.supply.boost.from' = d.relState ∧
    d.boostPaused.supply.boost.pauses = d.supply.boost.pauses + 1 ∧ d.boostPaused.supply.boost.pauseFrom = d.now := by
  refine ⟨relState_setRel _ (by decide), ?_, rfl, rfl, rfl⟩
  rw [boostPaused, reg_setRel_apart _ _ (by decide), reg_modBoost, reg_bump_self]
  rfl

/-- The boost resumed in the state that it paused from. -/
def boostResumed (d : Dev) : Dev :=
  (d.modBoost (fun b => { b with pausedClk := b.pausedClk + (d.now - b.pauseFrom) })).setRel d.supply.boost.from'

theorem relResume_high {d : Dev} (h : d.relState = 3) {v : Nat} (hhigh : d.uvlo + 100 ≤ v) : d.relResume v = d.boostResumed :=
  if_pos ⟨h, hhigh⟩

abbrev CoolOver (d : Dev) : Prop :=
  d.relState = 5 ∧ d.supply.boost.coolFrom + d.fld (pg .path) F.PATH.REL_CFG_COOL * 400000000 ≤ d.now

theorem relCoolEnd_over {d : Dev} (h : d.CoolOver) : d.relCoolEnd = if d.supply.boost.enabled then d.relStart else d.setRel 0 := if_pos h

theorem relStart_spec (d : Dev) : d.relStart.relState = 1 ∧ d.relStart.supply.boost.pauses = 0 ∧
    d.relStart.reg (pg .path) R.PATH.REL_RUNS = d.reg (pg .path) R.PATH.REL_RUNS + 1 := by
  refine ⟨relState_setRel _ (by decide), rfl, ?_⟩
  rw [relStart, reg_setRel_apart _ _ (by decide), reg_bump_self, reg_modBoost]
  rfl

/-- In ON the domain is judged as any other (R321). -/
theorem dom9_setRel_on (d : Dev) : (d.setRel 2).flag (pg .path) F.PATH.PATH_STATUS_DOM9_MASKED = false := by
  have hfree : (d.supply.boost.enabled && (2 == 3 || 2 == 4 || 2 == 5)) = false := Bool.and_false _
  rw [setRel, hfree, flag_setFlag_self _ _ _ _ (by decide) (by decide)]

end Dev

/-- Settles O36: VIN, the off request, the charger and the boost, each by its own rule. -/
theorem powerPathRuns : Obligations.PowerPathRuns := by
  unfold Obligations.PowerPathRuns
  intro d m p
  refine ⟨?vinBack, ?vinLost, d.offDue_iff, fun h => Runs.dev (fun _ => rfl) (Dev.offRequest_none h), ?off,
    fun v i hst => Runs.dev (fun _ => rfl) (if_pos hst), ?tick, fun uv h => Runs.dev (fun _ => rfl) (Dev.tbakMeasure_off h _), ?zone,
    fun hst hdue => Runs.dev (fun _ => rfl) (Dev.bakTimerExpiry_pre hst hdue), fun hst => Runs.dev (fun _ => rfl) (if_pos hst), ?restart,
    fun hst hdue => Runs.dev (fun _ => rfl) (Dev.relCurrent_due hst hdue),
    fun hlo hhi hdue => Runs.dev (fun _ => rfl) (if_pos ⟨hlo, hhi, hdue⟩), ?stopped, ?pause, ?resume, ?cool, ?coolOff, ?soft,
    fun hst => Runs.dev (fun _ => rfl) (if_neg hst), ?limit, ?switch⟩
  case vinBack =>
    intro vin vbak ms good e
    refine ⟨fun h => Runs.dev (fun _ => rfl) (Dev.vinOkSet_none h), fun hoff hgood hcfg => Runs.dev (fun _ => rfl) ?_,
      fun hoff hgood hcfg => Runs.dev (fun _ => rfl) ?_⟩
    · exact (Dev.vinOkSet_good hoff hgood).trans (if_neg (by simp [hcfg]))
    · exact (Dev.vinOkSet_good hoff hgood).trans (if_pos hcfg)
  case vinLost =>
    intro vin vsys bad
    refine ⟨fun h => Runs.dev (fun _ => rfl) (Dev.vinLost_none h), fun hon hbad => ?_⟩
    obtain ⟨hvin, hevent, hcount, hstate, hat⟩ := d.vinGone_spec
    have hstore := d.vinLost_store vin.toNat vsys.toNat
    rw [Dev.vinLost_bad hon hbad] at hstore
    exact ⟨_, Runs.dev (fun _ => rfl) (Dev.vinLost_bad hon hbad), hvin, hevent, hcount, hstate, hat, hstore⟩
  case off =>
    exact fun hdue hdown => ⟨fun hst => Runs.dev (fun _ => rfl) (Dev.offRequest_safe hdue hdown hst),
      fun hst hswitch => Runs.dev (fun _ => rfl) (Dev.offRequest_switching hdue hdown hst hswitch),
      fun hst => Runs.dev (fun _ => rfl) (Dev.offRequest_run hdue hdown hst)⟩
  case tick =>
    intro v i hst
    have hvolt : min v.toNat 65535 = v.toNat := by have := v.isLt; omega
    have hcurrent : min (min i.toNat d.bakCurrent) 65535 = min i.toNat d.bakCurrent := by have := i.isLt; omega
    refine ⟨_, Runs.dev (fun _ => rfl) rfl, by simp, by simp, fun hvin => ?_, fun hvin => ⟨?_, ?_⟩, fun hvin hen hfree hcell => ?_⟩
    · have hmeas := Dev.chargerTick_measured hst hvin v.toNat i.toNat
      rwa [hcurrent, hvolt] at hmeas
    · exact Dev.bakState_chargerTick_unsupplied hst hvin _ _
    · exact (Dev.chargerTick_total hst (Dev.bakNext_unsupplied_stays hvin _ _)).trans (if_neg (by simp [hvin]))
    · obtain ⟨hoff, hpre⟩ := Dev.bakState_chargerTick_charging hst hvin hen hfree hcell v.toNat i.toNat
      refine ⟨hoff, hpre, fun hcc => ?_⟩
      refine (Dev.chargerTick_total hst (by simp [hcc])).trans (if_pos ?_)
      simp [hvin, hcc]
  case zone =>
    intro uv hst hen code hcand
    obtain ⟨hcode, hzone, hrun⟩ := d.zoneAsked_spec (code := code) (by omega)
    exact ⟨_, Runs.dev (fun _ => rfl) (Dev.tbakMeasure_newZone hst hen hcand), hcode, hzone, hrun, by simp [Dev.zoneAsked],
      by simp [Dev.zoneAsked]⟩
  case restart =>
    intro h
    obtain ⟨hpre, htot, hshown, hstate⟩ := d.bakRestart_spec
    exact ⟨_, Runs.block (by decide) (by decide) h (by decide) (fun _ => rfl) (d.pathWrite_bakCmd m {}), hpre, htot, hshown, hstate,
      by simp, by simp⟩
  case stopped =>
    intro v hst
    obtain ⟨hcurrent, htime, hpause, hresume⟩ := Dev.boost_stopped hst v.toNat
    exact ⟨Runs.dev (fun _ => rfl) hcurrent, Runs.dev (fun _ => rfl) htime, Runs.dev (fun _ => rfl) hpause, Runs.dev (fun _ => rfl) hresume⟩
  case pause =>
    intro v hst hlow hfew
    obtain ⟨hstate, hcount, hfrom, hpauses, hat⟩ := d.boostPaused_spec
    exact ⟨_, Runs.dev (fun _ => rfl) (Dev.relPause_low hst hlow hfew), hstate, hcount, hfrom, hpauses, hat, by simp [Dev.boostPaused]⟩
  case resume =>
    intro v hst hhigh hfrom
    exact ⟨_, Runs.dev (fun _ => rfl) (Dev.relResume_high hst hhigh), Dev.relState_setRel _ (by omega), by simp [Dev.boostResumed]⟩
  case cool =>
    intro hst hdue hen
    obtain ⟨hstate, hpauses, hruns⟩ := d.relStart_spec
    exact ⟨_, Runs.dev (fun _ => rfl) ((Dev.relCoolEnd_over ⟨hst, hdue⟩).trans (if_pos hen)), hstate, hpauses, hruns, by simp⟩
  case coolOff =>
    intro hst hdue hen
    exact ⟨_, Runs.dev (fun _ => rfl) ((Dev.relCoolEnd_over ⟨hst, hdue⟩).trans (if_neg (by simp [hen]))), d.relState_setRel (by decide),
      by simp⟩
  case soft =>
    exact fun hst => ⟨_, Runs.dev (fun _ => rfl) (if_pos hst), d.relState_setRel (by decide), d.dom9_setRel_on, by simp, by simp⟩
  case limit =>
    intro bak on
    exact ⟨fun hon => Runs.dev (fun _ => rfl) (if_pos hon), fun hoff => Runs.dev (fun _ => rfl) (if_neg (Bool.not_eq_true _ ▸ hoff))⟩
  case switch =>
    intro on
    refine ⟨_, Runs.dev (fun _ => rfl) rfl, d.flag_setFlag_self _ _ _ (by decide) (by decide), d.flag_setFlag_apart _ (by decide), by simp, by simp⟩

end Sys2Proof.Machine
end

section
/-!
PROOFS. The clocks and their monitors (R330–R333, R377).
-/
namespace Sys2Proof.Machine
namespace Dev

/-! ## SYSSRC -/

/-- SYSSRC changed, before the bucks follow. -/
def sourceSet (d : Dev) (s : Nat) : Dev :=
  ((if s = 0 then { d with comp := { d.comp with cycLost := true } } else d).setFld (pg .clk) F.CLK.CLK_STATUS_SYSSRC s).event
    (pg .clk) F.CLK.EVENT_SWITCHED

theorem setSysSrc_eq (d : Dev) (s : Nat) : d.setSysSrc s = (d.sourceSet s).syncBucks := rfl

theorem pageRegs_syncBucks (d : Dev) {p : Nat} (h : p ≠ pg .supply) : d.syncBucks.pageRegs p = d.pageRegs p := by
  simp only [syncBucks, pageRegs_ite, pageRegs_setFld d _ (f := F.SUPPLY.REG_STATUS_SYNCED) ⟨h, by decide⟩, ite_self]

/-- A change of the source moves SYSSRC and the event, and no other register of the page. -/
theorem reg_setSysSrc (d : Dev) (s : Nat) {o : Nat} (h : o ≠ R.CLK.CLK_STATUS ∧ o ≠ R.HDR.EVENT ∧ o < 0x1000) :
    (d.setSysSrc s).reg (pg .clk) o = d.reg (pg .clk) o := by
  rw [setSysSrc_eq, reg_of_pageRegs (pageRegs_syncBucks _ (by decide)) h.2.2, sourceSet, reg_event_apart _ h.2.1, reg_setFld_apart _ _ h.1]
  split <;> rfl

theorem flag_setSysSrc (d : Dev) (s : Nat) {g : Fld} (h : FieldsApart g F.CLK.CLK_STATUS_SYSSRC ∧ FieldsApart g F.CLK.EVENT_SWITCHED ∧
    g.ofs < 0x1000) : (d.setSysSrc s).flag (pg .clk) g = d.flag (pg .clk) g := by
  rw [setSysSrc_eq, flag_of_pageRegs (pageRegs_syncBucks _ (by decide)) h.2.2, sourceSet, flag_event_apart _ h.2.1, flag_setFld_apart _ _ h.1]
  split <;> rfl

theorem sysSrc_sourceSet (d : Dev) {s : Nat} (h : s < 4) : (d.sourceSet s).sysSrc = s := by
  rw [sysSrc, sourceSet, fld_event_apart _ (by decide), fld_setFld_self _ _ _ _ (by decide)]
  exact Nat.mod_eq_of_lt h

theorem sysSrc_setSysSrc (d : Dev) {s : Nat} (h : s < 4) : (d.setSysSrc s).sysSrc = s :=
  (fld_of_pageRegs (pageRegs_syncBucks _ (by decide)) (by decide)).trans (d.sysSrc_sourceSet h)

/-- Off the PLL no buck is synchronised (R324). -/
theorem synced_setSysSrc_off (d : Dev) : (d.setSysSrc 0).fld (pg .supply) F.SUPPLY.REG_STATUS_SYNCED = 0 := by
  rw [setSysSrc_eq, syncBucks, if_pos (d.sysSrc_sourceSet (by decide)), fld_setFld_self _ _ _ _ (by decide)]
  rfl

/-! ## After a reset (R330) -/

/-- The clocks `l` marked as good, and XTAL32 as it stands. -/
def clocksGood (d : Dev) (l : List Fld) : Dev :=
  let d := d.each l (fun d f => d.setFlag (pg .clk) f true)
  d.setFlag (pg .clk) F.CLK.CLK_STATUS_X32_OK (!d.flag (pg .rtc) F.RTC.STATUS_ON_RC)

/-- The first lock on the PLL may still come. -/
abbrev PllDue (d : Dev) : Prop := d.sysSrc = 0 ∧ d.supply.pllLost = false ∧ d.islandOn = true

theorem sysclkToPll_due {d : Dev} (h : d.PllDue) : d.sysclkToPll = (d.clocksGood [F.CLK.CLK_STATUS_XTAL_OK, F.CLK.CLK_STATUS_PLL_LOCK,
    F.CLK.CLK_STATUS_RC_OK, F.CLK.CLK_STATUS_ISL_OK]).setSysSrc 1 := by
  obtain ⟨hsrc, hlost, hisl⟩ := h
  exact if_pos ⟨hsrc, by simp [hlost], hisl⟩

theorem sysclkToPll_none {d : Dev} (h : d.sysSrc ≠ 0 ∨ d.supply.pllLost = true) : d.sysclkToPll = d :=
  if_neg fun hdue => h.elim (fun hsrc => hsrc hdue.1) (fun hlost => by simp [hlost] at hdue)

/-- The system on the PLL from RC100 / 4. -/
def onRcPll (d : Dev) : Dev :=
  (d.clocksGood [F.CLK.CLK_STATUS_PLL_LOCK, F.CLK.CLK_STATUS_RC_OK, F.CLK.CLK_STATUS_ISL_OK]).setSysSrc 2

theorem xtalTimeout_due {d : Dev} (h : d.PllDue) (htime : d.comp.resetAt + 4000000 ≤ d.now) :
    d.xtalTimeout = d.onRcPll.raiseLevel .clk 0 B.CLK.CLK_XTAL := by
  obtain ⟨hsrc, hlost, hisl⟩ := h
  exact if_pos ⟨hsrc, by simp [hlost], hisl, htime⟩

theorem xtalTimeout_none {d : Dev} (h : d.sysSrc ≠ 0 ∨ d.supply.pllLost = true) : d.xtalTimeout = d :=
  if_neg fun hdue => h.elim (fun hsrc => hsrc hdue.1) (fun hlost => by simp [hlost] at hdue)

@[simp] theorem clocksGood_store (d : Dev) (l : List Fld) : (d.clocksGood l).mem = d.mem ∧ (d.clocksGood l).keys = d.keys := by
  simp only [clocksGood]
  exact ⟨by simp, by simp⟩

theorem onXtalPll_spec (d : Dev) : let t := (d.clocksGood [F.CLK.CLK_STATUS_XTAL_OK, F.CLK.CLK_STATUS_PLL_LOCK,
      F.CLK.CLK_STATUS_RC_OK, F.CLK.CLK_STATUS_ISL_OK]).setSysSrc 1
    t.sysSrc = 1 ∧ t.flag (pg .clk) F.CLK.CLK_STATUS_XTAL_OK = true ∧ t.flag (pg .clk) F.CLK.CLK_STATUS_PLL_LOCK = true ∧
      t.mem = d.mem ∧ t.keys = d.keys := by
  refine ⟨sysSrc_setSysSrc _ (by decide), ?_, ?_, by simp, by simp⟩
  all_goals
    rw [flag_setSysSrc _ _ (by decide)]
    simp (disch := decide) only [clocksGood, each_cons, reads_apart]
    simp (disch := decide) only [each, List.foldl_nil, reads_apart, reads_self]

theorem onRcPll_spec (d : Dev) : d.onRcPll.sysSrc = 2 ∧ d.onRcPll.flag (pg .clk) F.CLK.CLK_STATUS_PLL_LOCK = true ∧
    d.onRcPll.flag (pg .clk) F.CLK.CLK_STATUS_XTAL_OK = d.flag (pg .clk) F.CLK.CLK_STATUS_XTAL_OK ∧
    d.onRcPll.mem = d.mem ∧ d.onRcPll.keys = d.keys := by
  refine ⟨sysSrc_setSysSrc _ (by decide), ?_, ?_, by simp [onRcPll], by simp [onRcPll]⟩
  all_goals
    rw [onRcPll, flag_setSysSrc _ _ (by decide)]
    simp (disch := decide) only [clocksGood, each_cons, reads_apart]
    simp (disch := decide) only [each, List.foldl_nil, reads_apart, reads_self]

/-! ## XTAL lost and back (R331, R332) -/

/-- XTAL marked as lost and counted. -/
def xtalCounted (d : Dev) : Dev :=
  ((((d.setFlag (pg .clk) F.CLK.CLK_STATUS_XTAL_OK false).bump (pg .clk) R.CLK.MON_ALARMS).bump (pg .clk) R.CLK.XTAL_LOSSES).bump
    (pg .clk) R.CLK.SWITCHES).event (pg .clk) F.CLK.EVENT_XTAL_LOST

/-- The reference changed to RC100 / 4 where it was XTAL. -/
def xtalGone (d : Dev) : Dev :=
  let e := if d.xtalCounted.sysSrc = 1 then d.xtalCounted.setSysSrc 2 else d.xtalCounted
  e.modSupply (fun s => { s with xtalAt := e.now })

theorem sysSrc_xtalCounted (d : Dev) : d.xtalCounted.sysSrc = d.sysSrc := by
  simp (disch := decide) only [xtalCounted, sysSrc, reads_apart_reg, reads_apart]

theorem xtalLoss_good {d : Dev} (h : d.flag (pg .clk) F.CLK.CLK_STATUS_XTAL_OK = true) :
    d.xtalLoss = d.xtalGone.raiseLevel .clk 0 B.CLK.CLK_XTAL := if_pos h

theorem xtalLoss_lost {d : Dev} (h : d.flag (pg .clk) F.CLK.CLK_STATUS_XTAL_OK = false) : d.xtalLoss = d := if_neg (by simp [h])

theorem xtalCounted_spec (d : Dev) : d.xtalCounted.flag (pg .clk) F.CLK.CLK_STATUS_XTAL_OK = false ∧
    d.xtalCounted.reg (pg .clk) R.CLK.XTAL_LOSSES = d.reg (pg .clk) R.CLK.XTAL_LOSSES + 1 ∧
    d.xtalCounted.reg (pg .clk) R.CLK.SWITCHES = d.reg (pg .clk) R.CLK.SWITCHES + 1 ∧
    d.xtalCounted.flag (pg .clk) F.CLK.EVENT_XTAL_LOST = true := by
  simp (disch := decide) only [xtalCounted, reads_apart_reg, reads_apart, reads_ofs, reads_reg, reads_self, reg_bump_self]
  exact ⟨trivial, rfl, rfl, trivial⟩

theorem xtalGone_spec (d : Dev) : d.xtalGone.flag (pg .clk) F.CLK.CLK_STATUS_XTAL_OK = false ∧
    d.xtalGone.sysSrc = (if d.sysSrc = 1 then 2 else d.sysSrc) ∧
    d.xtalGone.reg (pg .clk) R.CLK.XTAL_LOSSES = d.reg (pg .clk) R.CLK.XTAL_LOSSES + 1 ∧
    d.xtalGone.reg (pg .clk) R.CLK.SWITCHES = d.reg (pg .clk) R.CLK.SWITCHES + 1 ∧
    d.xtalGone.flag (pg .clk) F.CLK.EVENT_XTAL_LOST = true ∧ d.xtalGone.mem = d.mem := by
  obtain ⟨hok, hlosses, hswitches, hevent⟩ := d.xtalCounted_spec
  have hmem : d.xtalCounted.mem = d.mem := by simp [xtalCounted]
  rw [xtalGone, sysSrc_xtalCounted]
  split
  · refine ⟨?_, (fld_modSupply ..).trans (sysSrc_setSysSrc _ (by decide)), ?_, ?_, ?_, by simp [hmem]⟩
    · rw [flag_modSupply, flag_setSysSrc _ _ (by decide), hok]
    · rw [reg_modSupply, reg_setSysSrc _ _ (by decide), hlosses]
    · rw [reg_modSupply, reg_setSysSrc _ _ (by decide), hswitches]
    · rw [flag_modSupply, flag_setSysSrc _ _ (by decide), hevent]
  · exact ⟨(flag_modSupply ..).trans hok, (fld_modSupply ..).trans d.sysSrc_xtalCounted, (reg_modSupply ..).trans hlosses,
      (reg_modSupply ..).trans hswitches, (flag_modSupply ..).trans hevent, by simp [hmem]⟩

/-- XTAL marked as good, and its fault over. -/
def xtalGood (d : Dev) : Dev := (d.setFlag (pg .clk) F.CLK.CLK_STATUS_XTAL_OK true).lower .clk 0 B.CLK.CLK_XTAL

/-- XTAL has been lost and good for 10 ms since. -/
abbrev XtalReturned (d : Dev) : Prop :=
  d.flag (pg .clk) F.CLK.CLK_STATUS_XTAL_OK = false ∧ d.islandOn = true ∧ d.supply.xtalAt + 4000000 ≤ d.now

theorem pageRegs_xtalGood (d : Dev) :
    d.xtalGood.pageRegs (pg .clk) = (d.setFlag (pg .clk) F.CLK.CLK_STATUS_XTAL_OK true).pageRegs (pg .clk) :=
  pageRegs_lower _ (by decide) (by decide)

theorem autoBack_xtalGood (d : Dev) : d.xtalGood.flag (pg .clk) F.CLK.CLK_CFG_AUTO_BACK = d.flag (pg .clk) F.CLK.CLK_CFG_AUTO_BACK := by
  rw [flag_of_pageRegs d.pageRegs_xtalGood (by decide)]
  exact d.flag_setFlag_apart true (by decide)

theorem xtalBack_good {d : Dev} (h : d.flag (pg .clk) F.CLK.CLK_STATUS_XTAL_OK = true) : d.xtalBack = d := if_pos (.inl h)

theorem xtalBack_stays {d : Dev} (h : d.XtalReturned) (hauto : d.flag (pg .clk) F.CLK.CLK_CFG_AUTO_BACK = false) :
    d.xtalBack = d.xtalGood := by
  obtain ⟨hlost, hisl, htime⟩ := h
  have hgo : ¬ (d.flag (pg .clk) F.CLK.CLK_STATUS_XTAL_OK = true ∨ (!d.islandOn) = true ∨ d.now < d.supply.xtalAt + 4000000) := by
    simp [hlost, hisl, htime]
  rw [xtalBack, if_neg hgo]
  refine if_neg ?_
  simp [show (d.setFlag (pg .clk) F.CLK.CLK_STATUS_XTAL_OK true).lower .clk 0 B.CLK.CLK_XTAL = d.xtalGood from rfl, autoBack_xtalGood, hauto]

/-- The return of XTAL counted. -/
def xtalBackCounted (d : Dev) : Dev := (d.xtalGood.bump (pg .clk) R.CLK.SWITCHES).event (pg .clk) F.CLK.EVENT_XTAL_BACK

theorem sysSrc_xtalBackCounted (d : Dev) : d.xtalBackCounted.sysSrc = d.sysSrc := by
  have hgood : d.xtalGood.fld (pg .clk) F.CLK.CLK_STATUS_SYSSRC = d.fld (pg .clk) F.CLK.CLK_STATUS_SYSSRC :=
    (fld_of_pageRegs d.pageRegs_xtalGood (by decide)).trans (d.fld_setFlag_apart true (by decide))
  simp (disch := decide) only [xtalBackCounted, sysSrc, reads_apart, reads_apart_reg, hgood]

theorem xtalBack_switches {d : Dev} (h : d.XtalReturned) (hauto : d.flag (pg .clk) F.CLK.CLK_CFG_AUTO_BACK = true) (hsrc : d.sysSrc = 2) :
    d.xtalBack = d.xtalBackCounted.setSysSrc 1 := by
  obtain ⟨hlost, hisl, htime⟩ := h
  have hgo : ¬ (d.flag (pg .clk) F.CLK.CLK_STATUS_XTAL_OK = true ∨ (!d.islandOn) = true ∨ d.now < d.supply.xtalAt + 4000000) := by
    simp [hlost, hisl, htime]
  rw [xtalBack, if_neg hgo]
  show (if d.xtalGood.flag (pg .clk) F.CLK.CLK_CFG_AUTO_BACK then
    (if d.xtalBackCounted.sysSrc = 2 then d.xtalBackCounted.setSysSrc 1 else d.xtalBackCounted) else d.xtalGood) = _
  rw [autoBack_xtalGood, if_pos hauto, sysSrc_xtalBackCounted, if_pos hsrc]

theorem xtalSwitched_spec (d : Dev) : (d.xtalBackCounted.setSysSrc 1).sysSrc = 1 ∧
    (d.xtalBackCounted.setSysSrc 1).flag (pg .clk) F.CLK.CLK_STATUS_XTAL_OK = true ∧
    (d.xtalBackCounted.setSysSrc 1).reg (pg .clk) R.CLK.SWITCHES = d.reg (pg .clk) R.CLK.SWITCHES + 1 ∧
    (d.xtalBackCounted.setSysSrc 1).mem = d.mem := by
  refine ⟨sysSrc_setSysSrc _ (by decide), ?_, ?_, by simp [xtalBackCounted, xtalGood]⟩
  · rw [flag_setSysSrc _ _ (by decide)]
    simp (disch := decide) only [xtalBackCounted, reads_apart, reads_apart_reg]
    rw [flag_of_pageRegs d.pageRegs_xtalGood (by decide)]
    exact d.flag_setFlag_self _ _ true (by decide) (by decide)
  · rw [reg_setSysSrc _ _ (by decide)]
    simp (disch := decide) only [xtalBackCounted, reads_ofs, reg_bump_self]
    rw [reg_of_pageRegs d.pageRegs_xtalGood (by decide), reg_setFlag_apart _ _ (by decide)]
    rfl

/-! ## The PLL lost, the monitors and XTAL32 (R331, R333, R377) -/

/-- The system on RC100 until the next device reset. -/
def offPll (d : Dev) : Dev :=
  (((d.setFlag (pg .clk) F.CLK.CLK_STATUS_PLL_LOCK false).bump (pg .clk) R.CLK.MON_ALARMS).modSupply
    (fun s => { s with pllLost := true })).setSysSrc 0

theorem pllLoss_running {d : Dev} (h : d.sysSrc ≠ 0) : d.pllLoss = d.offPll.raiseLevel .clk 0 B.CLK.CLK_PLL := if_neg h

@[simp] theorem supply_setSysSrc (d : Dev) (s : Nat) : (d.setSysSrc s).supply = d.supply := by
  have hset : (d.sourceSet s).supply = d.supply := by rw [sourceSet]; split <;> rfl
  rw [setSysSrc_eq, ← hset, syncBucks]
  split
  · simp
  · split <;> simp

theorem offPll_spec (d : Dev) : d.offPll.sysSrc = 0 ∧ d.offPll.supply.pllLost = true ∧
    d.offPll.flag (pg .clk) F.CLK.CLK_STATUS_PLL_LOCK = false ∧ d.offPll.fld (pg .supply) F.SUPPLY.REG_STATUS_SYNCED = 0 ∧
    d.offPll.mem = d.mem ∧ d.offPll.keys = d.keys := by
  refine ⟨sysSrc_setSysSrc _ (by decide), by rw [offPll, supply_setSysSrc]; rfl, ?_, synced_setSysSrc_off _, by simp [offPll], by simp [offPll]⟩
  rw [offPll, flag_setSysSrc _ _ (by decide)]
  simp (disch := decide) only [flag_modSupply, reads_apart_reg, reads_self]

theorem clockAlarm_good {d : Dev} (hisl : d.islandOn = true) (isl : Bool) : d.clockAlarm isl true =
    (d.setFlag (pg .clk) (if isl then F.CLK.CLK_STATUS_ISL_OK else F.CLK.CLK_STATUS_RC_OK) true).lower .clk 0
      (if isl then B.CLK.CLK_ISLAND else B.CLK.CLK_RC) := by
  simp [clockAlarm, hisl]

theorem clockAlarm_bad {d : Dev} (hisl : d.islandOn = true) (isl : Bool) : d.clockAlarm isl false =
    let f := if isl then F.CLK.CLK_STATUS_ISL_OK else F.CLK.CLK_STATUS_RC_OK
    if d.flag (pg .clk) f then ((d.setFlag (pg .clk) f false).bump (pg .clk) R.CLK.MON_ALARMS).raiseLevel .clk 0
      (if isl then B.CLK.CLK_ISLAND else B.CLK.CLK_RC) else d := by
  simp [clockAlarm, hisl]

theorem x32Loss_spec (d : Dev) : d.x32Loss.flag (pg .rtc) F.RTC.STATUS_ON_RC = true ∧
    d.x32Loss.flag (pg .rtc) F.RTC.FLAGS_X32_FAIL = true ∧ d.x32Loss.cel.meas.onRc = true := by
  simp (disch := decide) only [x32Loss, flag_modCel, reads_apart, reads_self]
  exact ⟨trivial, trivial, rfl⟩

end Dev

/-- Settles O37: the PLL after a reset, XTAL lost and back, the PLL lost, the alarms of the monitors, and XTAL32. -/
theorem clocksRun : Obligations.ClocksRun := by
  unfold Obligations.ClocksRun
  intro d p
  refine ⟨fun hsrc hlost hisl => ⟨?toPll, ?timeout⟩,
    fun h => ⟨Runs.dev (fun _ => rfl) (Dev.sysclkToPll_none h), Runs.dev (fun _ => rfl) (Dev.xtalTimeout_none h)⟩, ?loss, ?back, ?pll,
    fun hsrc => Runs.dev (fun _ => rfl) (if_pos hsrc), ?alarm, ⟨_, Runs.dev (fun _ => rfl) rfl, ?x32⟩,
    fun htime => Runs.dev (fun _ => rfl) (if_pos htime), fun htime => Runs.dev (fun _ => rfl) (if_neg (Nat.not_le.mpr htime))⟩
  case toPll => exact ⟨_, Runs.dev (fun _ => rfl) (Dev.sysclkToPll_due ⟨hsrc, hlost, hisl⟩), d.onXtalPll_spec⟩
  case timeout =>
    intro htime
    obtain ⟨hsys, hlock, hxtal, hmem, hkeys⟩ := d.onRcPll_spec
    exact ⟨d.onRcPll, hsys, hlock, hxtal, hmem, hkeys, Runs.dev (fun _ => rfl) (Dev.xtalTimeout_due ⟨hsrc, hlost, hisl⟩ htime)⟩
  case loss =>
    intro hgood
    obtain ⟨hok, hsys, hlosses, hswitches, hevent, hmem⟩ := d.xtalGone_spec
    exact ⟨Runs.dev (fun _ => rfl) (Dev.xtalBack_good hgood), d.xtalGone, hok, hsys, hlosses, hswitches, hevent, hmem,
      Runs.dev (fun _ => rfl) (Dev.xtalLoss_good hgood)⟩
  case back =>
    intro hlost
    exact ⟨Runs.dev (fun _ => rfl) (Dev.xtalLoss_lost hlost),
      fun hisl htime hauto => Runs.dev (fun _ => rfl) (Dev.xtalBack_stays ⟨hlost, hisl, htime⟩ hauto),
      fun hisl htime hauto hsrc => ⟨_, Runs.dev (fun _ => rfl) (Dev.xtalBack_switches ⟨hlost, hisl, htime⟩ hauto hsrc),
        d.xtalSwitched_spec⟩⟩
  case pll =>
    intro hsrc
    obtain ⟨hsys, hlost, hlock, hsynced, hmem, hkeys⟩ := d.offPll_spec
    exact ⟨d.offPll, hsys, hlost, hlock, hsynced, hmem, hkeys, Runs.dev (fun _ => rfl) (Dev.pllLoss_running hsrc)⟩
  case alarm =>
    intro isl hisl f b
    exact ⟨Runs.dev (fun _ => rfl) (Dev.clockAlarm_good hisl isl),
      fun hf => Runs.dev (fun _ => rfl) ((Dev.clockAlarm_bad hisl isl).trans (if_pos hf)),
      fun hf => Runs.dev (fun _ => rfl) ((Dev.clockAlarm_bad hisl isl).trans (if_neg (Bool.not_eq_true _ |>.mpr hf)))⟩
  case x32 =>
    obtain ⟨honRc, hfail, hmeas⟩ := d.x32Loss_spec
    exact ⟨honRc, hfail, hmeas, by simp, by simp⟩

end Sys2Proof.Machine
end

section
/-!
PROOFS. The sequencer's own reading rules (R344, R345, R350, R354): what a domain's change of state leaves of the sequencer, where a
program stands, and what a step command does at the step that stands next.
-/
namespace Sys2Proof.Machine
namespace Dev

/-! ## Registers at another offset, whatever the page -/

theorem reg_setFld_otherOfs (d : Dev) {p q o : Nat} {f : Fld} (v : Nat) (h : o ≠ f.ofs ∧ o < 0x1000 ∧ f.ofs < 0x1000) :
    (d.setFld q f v).reg p o = d.reg p o := by
  refine reg_setReg_other d ?_
  obtain ⟨hne, ho, hf⟩ := h
  simp only [regKey]
  omega

theorem fld_setFld_otherOfs (d : Dev) {p q : Nat} {f g : Fld} (v : Nat) (h : g.ofs ≠ f.ofs ∧ g.ofs < 0x1000 ∧ f.ofs < 0x1000) :
    (d.setFld q f v).fld p g = d.fld p g := fld_of_reg (reg_setFld_otherOfs d v h)

theorem flag_setFld_otherOfs (d : Dev) {p q : Nat} {f g : Fld} (v : Nat) (h : g.ofs ≠ f.ofs ∧ g.ofs < 0x1000 ∧ f.ofs < 0x1000) :
    (d.setFld q f v).flag p g = d.flag p g := flag_of_fld (fld_setFld_otherOfs d v h)

/-! ## A domain's change of state -/

theorem pageRegs_setBucks (d : Dev) {p : Nat} {f : Fld} (n : Nat) (on : Bool) (h : p ≠ pg .supply ∧ f.ofs < 0x1000) :
    (d.setBucks f n on).pageRegs p = d.pageRegs p :=
  each_keeps (pageRegs · p) d _ _ fun e _ _ => pageRegs_setFlag e _ h

theorem pageRegs_modSupply (d : Dev) (f : SupplyS → SupplyS) (p : Nat) : (d.modSupply f).pageRegs p = d.pageRegs p := rfl

theorem pageRegs_modDom (d : Dev) (n : Nat) (f : DomS → DomS) (p : Nat) : (d.modDom n f).pageRegs p = d.pageRegs p := rfl

theorem pageRegs_setRel (d : Dev) (st : Nat) {p : Nat} (h : p ≠ pg .path) : (d.setRel st).pageRegs p = d.pageRegs p := by
  rw [setRel, pageRegs_setFlag _ _ ⟨h, by decide⟩, pageRegs_setFld _ _ ⟨h, by decide⟩]

theorem pageRegs_relStop (d : Dev) {p : Nat} (h : p ≠ pg .path) : d.relStop.pageRegs p = d.pageRegs p := by
  simp only [relStop]
  split
  · exact pageRegs_setRel _ 5 h
  · exact pageRegs_setRel _ _ h

theorem pageRegs_relStart (d : Dev) {p : Nat} (h : p ≠ pg .path) : d.relStart.pageRegs p = d.pageRegs p :=
  (pageRegs_setRel _ 1 h).trans (pageRegs_bump _ 1 ⟨h, by decide⟩)

theorem pageRegs_relSwitch (d : Dev) (on : Bool) {p : Nat} (h : p ≠ pg .path) : (d.relSwitch on).pageRegs p = d.pageRegs p := by
  simp only [relSwitch]
  split
  · split
    · exact pageRegs_relStart _ h
    · exact pageRegs_setRel _ _ h
  · exact pageRegs_relStop _ h

theorem pageRegs_buckSoftStart (d : Dev) (n : Nat) {p : Nat} (h : p ≠ pg .supply) : (d.buckSoftStart n).pageRegs p = d.pageRegs p := by
  simp only [buckSoftStart, rotateLead]
  split
  · exact (pageRegs_bump _ 1 ⟨h, by decide⟩).trans (pageRegs_setFlag _ _ ⟨h, by decide⟩)
  · rfl

/-- A page on which the regulators have no register. -/
abbrev OffRegulators (p : Nat) : Prop := p ≠ pg .supply ∧ p ≠ pg .path

theorem pageRegs_regSwitch (d : Dev) (n : Nat) (on : Bool) {p : Nat} (h : OffRegulators p) : (d.regSwitch n on).pageRegs p = d.pageRegs p := by
  obtain ⟨hsupply, hpath⟩ := h
  have hbits : ∀ (e : Dev) f b, f.ofs < 0x1000 → (e.setBucks f n b).pageRegs p = e.pageRegs p :=
    fun e f b hf => pageRegs_setBucks e n b ⟨hsupply, hf⟩
  have hbit : ∀ (e : Dev) b, (e.setFlag (pg .supply) (regBit F.SUPPLY.REG_STATUS_ON n) b).pageRegs p = e.pageRegs p :=
    fun e b => pageRegs_setFlag e b ⟨hsupply, show F.SUPPLY.REG_STATUS_ON.ofs < 0x1000 by decide⟩
  simp (disch := decide) only [regSwitch, pageRegs_ite, pageRegs_relSwitch _ _ hpath, pageRegs_buckSoftStart _ _ hsupply, hbits, hbit,
    modBuck, pageRegs_modSupply, ite_self]

/-- Domain `n` and its regulator in a state, before DOM[3] follows. -/
def domSwitched (d : Dev) (n st : Nat) : Dev :=
  let d := (d.setFld (pg .dom n) F.DOM.STATUS_DSTATE st).modDom n (fun _ => { since := d.now })
  if st = 1 then d.regSwitch n true else if st = 3 ∨ st = 0 then d.regSwitch n false else d

theorem setDomState_eq (d : Dev) (n st : Nat) : d.setDomState n st = if n = 0 ∧ (d.domSwitched n st).domPaired 3 then
    (d.domSwitched n st).setFld (pg .dom 3) F.DOM.STATUS_DSTATE st else d.domSwitched n st := rfl

theorem pageRegs_domSwitched (d : Dev) (n st : Nat) {p : Nat} (h : OffRegulators p) :
    (d.domSwitched n st).pageRegs p = (d.setFld (pg .dom n) F.DOM.STATUS_DSTATE st).pageRegs p := by
  have hsw : ∀ (e : Dev) on, (e.regSwitch n on).pageRegs p = e.pageRegs p := fun e on => pageRegs_regSwitch e n on h
  simp only [domSwitched, pageRegs_ite, hsw, pageRegs_modDom, ite_self]

/-- A domain's change of state is on the pages of the domains and of the regulators. -/
theorem pageRegs_setDomState (d : Dev) (n st : Nat) {p : Nat} (h : OffRegulators p) (hn : p ≠ pg .dom n) (h3 : n = 0 → p ≠ pg .dom 3) :
    (d.setDomState n st).pageRegs p = d.pageRegs p := by
  have hself : (d.domSwitched n st).pageRegs p = d.pageRegs p :=
    (pageRegs_domSwitched d n st h).trans (pageRegs_setFld d st ⟨hn, by decide⟩)
  rw [setDomState_eq]
  split
  case isTrue hmirror => rw [pageRegs_setFld _ _ ⟨h3 hmirror.1, by decide⟩, hself]
  case isFalse => exact hself

/-- Below the pages of the domains no page is a domain's. -/
theorem pageRegs_setDomState_below (d : Dev) (n st : Nat) {p : Nat} (h : OffRegulators p) (hp : p < 0x10) :
    (d.setDomState n st).pageRegs p = d.pageRegs p :=
  pageRegs_setDomState d n st h (by simp only [pg, PageKind.first]; omega) (fun _ => by simp only [pg, PageKind.first]; omega)

theorem seqRegs_setDomState (d : Dev) (n st : Nat) : (d.setDomState n st).pageRegs (pg .seq) = d.pageRegs (pg .seq) :=
  pageRegs_setDomState_below d n st (by decide) (by decide)

@[simp] theorem seq_ite (c : Prop) [Decidable c] (a b : Dev) : (if c then a else b).seq = if c then a.seq else b.seq := apply_ite _ _ _ _

theorem seq_setBucks (d : Dev) (f : Fld) (n : Nat) (on : Bool) : (d.setBucks f n on).seq = d.seq := each_keeps seq d _ _ fun _ _ _ => rfl

@[simp] theorem seq_regSwitch (d : Dev) (n : Nat) (on : Bool) : (d.regSwitch n on).seq = d.seq := by
  simp [regSwitch, relSwitch, relStart, relStop, setRel, buckSoftStart, rotateLead, seq_setBucks]

@[simp] theorem seq_setDomState (d : Dev) (n st : Nat) : (d.setDomState n st).seq = d.seq := by
  simp [setDomState]

theorem phase_of_pageRegs {d e : Dev} (h : e.pageRegs (pg .seq) = d.pageRegs (pg .seq)) : e.phase = d.phase :=
  fld_of_pageRegs h (by decide)

theorem order_of_pageRegs {d e : Dev} (h : e.pageRegs (pg .seq) = d.pageRegs (pg .seq)) : e.order = d.order := by
  have hword : ∀ i, i < 16 → e.reg (pg .seq) (R.SEQ.ORDER_LO + 4 * (i / 8)) = d.reg (pg .seq) (R.SEQ.ORDER_LO + 4 * (i / 8)) :=
    fun i hi => reg_of_pageRegs h (by simp only [R.SEQ.ORDER_LO]; omega)
  have hdepth : e.fld (pg .seq) F.SEQ.ORDER_DEPTH_DEPTH = d.fld (pg .seq) F.SEQ.ORDER_DEPTH_DEPTH := fld_of_pageRegs h (by decide)
  simp only [order, hdepth]
  refine List.map_congr_left fun i hi => ?_
  have hlt : d.fld (pg .seq) F.SEQ.ORDER_DEPTH_DEPTH < 32 := Nat.mod_lt _ (by decide)
  have hmem := List.mem_range.mp hi
  rw [reg_of_pageRegs h]
  simp only [R.SEQ.ORDER_LO]
  omega

/-! ## Where a program stands -/

/-- The step `w` of UP, WAKE, SLEEP or DOWN stands next. -/
abbrev AtStep (d : Dev) (w : Nat) : Prop := 1 ≤ d.phase ∧ d.phase ≤ 4 ∧ d.seq.wait = .none ∧ d.prog d.seq.pc = w

/-- STEP shows the step that is made. -/
def stepping (d : Dev) : Dev := d.setFld (pg .seq) F.SEQ.SEQ_STATUS_STEP d.seq.pc

theorem seqBegin_running {d : Dev} (h : d.phase ≠ 0) : d.seqBegin = d := by
  simp [seqBegin, h]

theorem curStep_at {d : Dev} {w : Nat} (h : d.AtStep w) : d.curStep = some w := by
  obtain ⟨hlo, hhi, hwait, hprog⟩ := h
  simp [curStep, progRuns, hlo, hhi, hwait, hprog]

theorem stepOf_made {d : Dev} {w op : Nat} (h : d.AtStep w) (hop : stepOp w = op) (hv : stepValid w = true) (f : Dev → Nat → Dev) :
    d.stepOf op f = f d.stepping w := by
  have hrun : d.seqBegin = d := seqBegin_running (by have := h.1; omega)
  simp only [stepOf, hrun, curStep_at h, hv, hop, beq_self_eq_true, Bool.and_self, if_true]
  rfl

theorem stepOf_other {d : Dev} {w op : Nat} (h : d.AtStep w) (hop : stepOp w ≠ op ∨ stepValid w = false) (f : Dev → Nat → Dev) :
    d.stepOf op f = d := by
  have hrun : d.seqBegin = d := seqBegin_running (by have := h.1; omega)
  have hno : (stepValid w && stepOp w == op) = false := by
    rcases hop with hne | hbad
    · simp [hne]
    · simp [hbad]
  simp only [stepOf, hrun, curStep_at h, hno, Bool.false_eq_true, if_false]

theorem phase_stepping (d : Dev) : d.stepping.phase = d.phase := fld_setFld_apart d _ (by decide)

theorem fld_stepping (d : Dev) {g : Fld} (h : FieldsApart g F.SEQ.SEQ_STATUS_STEP) : d.stepping.fld (pg .seq) g = d.fld (pg .seq) g :=
  fld_setFld_apart d _ h

theorem flag_stepping (d : Dev) {g : Fld} (h : FieldsApart g F.SEQ.SEQ_STATUS_STEP) : d.stepping.flag (pg .seq) g = d.flag (pg .seq) g :=
  flag_setFld_apart d _ h

theorem pageRegs_stepping (d : Dev) {p : Nat} (h : p ≠ pg .seq) : d.stepping.pageRegs p = d.pageRegs p :=
  pageRegs_setFld d _ ⟨h, by decide⟩

theorem seq_stepping (d : Dev) : d.stepping.seq = d.seq := by
  simp [stepping]

theorem domState_stepping (d : Dev) (n : Nat) : d.stepping.domState n = d.domState n :=
  fld_setFld_otherOfs d _ (by decide)

theorem domPaired_stepping (d : Dev) (n : Nat) : d.stepping.domPaired n = d.domPaired n := by
  have hpair : d.stepping.flag (pg .supply) F.SUPPLY.CFG_PAIR = d.flag (pg .supply) F.SUPPLY.CFG_PAIR :=
    flag_of_pageRegs (d.pageRegs_stepping (by decide)) (by decide)
  rw [domPaired, hpair, domPaired]

theorem powerDown_stepping (d : Dev) : d.stepping.powerDown = d.powerDown := by
  rw [powerDown, phase_stepping, powerDown]

theorem stalled_stepping (d : Dev) : d.stepping.stalled = d.stalled := by
  simp only [stalled, powerDown_stepping, seq_stepping, domState_stepping]

theorem waitvMet_stepping (d : Dev) (w : Nat) : d.stepping.waitvMet w = d.waitvMet w := by
  simp only [waitvMet, domState_stepping, domPaired_stepping]

theorem condition_stepping (d : Dev) (c : Nat) : d.stepping.condition c = d.condition c := by
  have hvin : d.stepping.vinOk = d.vinOk := flag_of_pageRegs (d.pageRegs_stepping (by decide)) (by decide)
  have hpair : d.stepping.flag (pg .supply) F.SUPPLY.CFG_PAIR = d.flag (pg .supply) F.SUPPLY.CFG_PAIR :=
    flag_of_pageRegs (d.pageRegs_stepping (by decide)) (by decide)
  have hstate : d.stepping.state = d.state := state_of_pageRegs (d.pageRegs_stepping (by decide))
  simp (disch := decide) only [condition, domState_stepping, hvin, hpair, hstate, fld_stepping, flag_stepping]

theorem order_stepping (d : Dev) : d.stepping.order = d.order := by
  have hreg : ∀ o, o ≠ R.SEQ.SEQ_STATUS → d.stepping.reg (pg .seq) o = d.reg (pg .seq) o := fun o ho => reg_setFld_apart d _ ho
  have hword : ∀ i, d.stepping.reg (pg .seq) (R.SEQ.ORDER_LO + 4 * (i / 8)) = d.reg (pg .seq) (R.SEQ.ORDER_LO + 4 * (i / 8)) := fun i =>
    hreg _ (by simp only [R.SEQ.ORDER_LO, R.SEQ.SEQ_STATUS]; omega)
  have hdepth : d.stepping.fld (pg .seq) F.SEQ.ORDER_DEPTH_DEPTH = d.fld (pg .seq) F.SEQ.ORDER_DEPTH_DEPTH := fld_of_reg (hreg _ (by decide))
  simp only [order, hdepth, hword]

/-! ## On to a step -/

/-- Step `n` stands next. -/
def standsAt (d : Dev) (n : Nat) : Dev := d.modSeq (fun s => { s with pc := n % 256, wait := .none })

theorem goto_plain {d : Dev} (h : d.phase ≠ 6) (n : Nat) : d.goto n = d.standsAt n := by
  have hphase : (d.modSeq (fun s => { s with pc := n % 256, wait := .none })).phase ≠ 6 := h
  simp only [goto, boundary, hphase, false_and, if_false]
  rfl

theorem nextStep_plain {d : Dev} (h : d.phase ≠ 6) {pc : Nat} (hpc : d.seq.pc = pc) : d.nextStep = d.standsAt (pc + 1) := by
  rw [nextStep, goto_plain h, hpc]

theorem named_plain {d : Dev} (h : d.phase ≠ 6) (n : Nat) (f : Dev → Dev) : d.named n f = f d := by
  simp [named, h]

end Dev
end Sys2Proof.Machine
end

section
/-!
PROOFS. The steps of a stored program (R350, R352–R354, R358, R360).
-/
namespace Sys2Proof.Machine
namespace Dev

/-! ## The words of the steps that name a domain -/

theorem enable_word : ∀ n < 16, stepOp (0x10000000 + n) = 1 ∧ stepValid (0x10000000 + n) = true ∧ stepDom (0x10000000 + n) = n := by decide

theorem disable_word : ∀ n < 16, stepOp (0x20000000 + n) = 2 ∧ stepValid (0x20000000 + n) = true ∧ stepDom (0x20000000 + n) = n := by decide

section At
variable {d : Dev} {w : Nat} (h : d.AtStep w)
include h

theorem phase_stepping_ne : d.stepping.phase ≠ 6 := by
  obtain ⟨-, hhi, -⟩ := h
  rw [phase_stepping]
  omega

theorem onFrom {x : Dev} (hphase : x.phase = d.phase) (hpc : x.seq.pc = d.seq.pc) : x.nextStep = x.standsAt (d.seq.pc + 1) := by
  obtain ⟨-, hhi, -⟩ := h
  exact nextStep_plain (by omega) hpc

theorem jumpFrom {x : Dev} (hphase : x.phase = d.phase) (n : Nat) : x.goto n = x.standsAt n := by
  obtain ⟨-, hhi, -⟩ := h
  exact goto_plain (by omega) n

theorem next_stepping : d.stepping.nextStep = d.stepping.standsAt (d.seq.pc + 1) :=
  onFrom h d.phase_stepping (by rw [seq_stepping])

/-! ## ENABLE and DISABLE -/

/-- ENABLE of domain `n`, as it is made. -/
def enableMade (d : Dev) (n : Nat) : Dev :=
  if d.domState n ≠ 0 ∨ d.domPaired n ∨ d.flag (pg .dom n) F.DOM.STATUS_CUT then d.nextStep
  else if ((domParent n).map (fun q => d.domState q != 2)).getD false then (d.stepFault 0x02).nextStep
  else
    let d := (d.setDomState n 1).bump (pg .dom n) R.DOM.ENABLES
    (d.setOrder (d.order.filter (fun m => m != n) ++ [n])).nextStep

theorem stepEnable_made {n : Nat} (hn : n < 16) (hw : w = 0x10000000 + n) : d.stepEnable = d.stepping.enableMade n := by
  subst hw
  obtain ⟨hop, hvalid, hdom⟩ := enable_word n hn
  rw [stepEnable, stepOf_made h hop hvalid]
  simp only [hdom]
  exact named_plain (phase_stepping_ne h) _ _

omit h in
theorem cut_stepping (n : Nat) : d.stepping.flag (pg .dom n) F.DOM.STATUS_CUT = d.flag (pg .dom n) F.DOM.STATUS_CUT :=
  flag_setFld_otherOfs d _ (by decide)

/-- A domain that is on its way, mirrored or cut is not enabled. -/
theorem enableMade_kept {n : Nat} (hkept : d.domState n ≠ 0 ∨ d.domPaired n = true ∨ d.flag (pg .dom n) F.DOM.STATUS_CUT = true) :
    d.stepping.enableMade n = d.stepping.standsAt (d.seq.pc + 1) := by
  refine (if_pos ?_).trans (next_stepping h)
  rwa [domState_stepping, domPaired_stepping, cut_stepping]

/-- Domain `n` switched on and counted. -/
def enabled (d : Dev) (n : Nat) : Dev := (d.stepping.setDomState n 1).bump (pg .dom n) R.DOM.ENABLES

omit h in
theorem pageRegs_enabled (n : Nat) : (d.enabled n).pageRegs (pg .seq) = d.stepping.pageRegs (pg .seq) := by
  refine (pageRegs_bump _ 1 ⟨?_, by decide⟩).trans (seqRegs_setDomState _ n 1)
  simp only [pg, PageKind.first]
  omega

omit h in
theorem enableMade_idle {n : Nat} (hoff : d.domState n = 0) (hfree : d.domPaired n = false)
    (hcut : d.flag (pg .dom n) F.DOM.STATUS_CUT = false) : d.stepping.enableMade n =
      if ((domParent n).map (fun q => d.domState q != 2)).getD false then (d.stepping.stepFault 0x02).nextStep
      else ((d.enabled n).setOrder ((d.enabled n).order.filter (fun m => m != n) ++ [n])).nextStep := by
  have hgo : ¬ (d.stepping.domState n ≠ 0 ∨ d.stepping.domPaired n = true ∨ d.stepping.flag (pg .dom n) F.DOM.STATUS_CUT = true) := by
    simp [domState_stepping, domPaired_stepping, cut_stepping, hoff, hfree, hcut]
  rw [enableMade, if_neg hgo]
  simp only [domState_stepping]
  rfl

theorem enableMade_on {n : Nat} (hoff : d.domState n = 0) (hfree : d.domPaired n = false)
    (hcut : d.flag (pg .dom n) F.DOM.STATUS_CUT = false) (hparent : ∀ q, domParent n = some q → d.domState q = 2) :
    d.stepping.enableMade n = ((d.enabled n).setOrder (d.order.filter (fun m => m != n) ++ [n])).standsAt (d.seq.pc + 1) := by
  have hup : ((domParent n).map (fun q => d.domState q != 2)).getD false = false := by
    cases hq : domParent n with
    | none => rfl
    | some q => simp [hparent q hq]
  have horder : (d.enabled n).order = d.order := (order_of_pageRegs (pageRegs_enabled n)).trans d.order_stepping
  have hseq : (d.enabled n).seq = d.seq := by simp [enabled, seq_stepping]
  rw [enableMade_idle hoff hfree hcut, hup, if_neg Bool.false_ne_true, horder]
  refine onFrom h ?_ (by simp [setOrder, hseq])
  refine Eq.trans ?_ ((phase_of_pageRegs (pageRegs_enabled n)).trans d.phase_stepping)
  simp (disch := decide) only [phase, setOrder, reads_apart_reg]

omit h in
theorem enableMade_orphan {n q : Nat} (hoff : d.domState n = 0) (hfree : d.domPaired n = false)
    (hcut : d.flag (pg .dom n) F.DOM.STATUS_CUT = false) (hparent : domParent n = some q) (hq : d.domState q ≠ 2) :
    d.stepping.enableMade n = (d.stepping.stepFault 0x02).nextStep := by
  rw [enableMade_idle hoff hfree hcut, hparent]
  exact if_pos (by simp [hq])

/-- DISABLE of domain `n`, as it is made. -/
def disableMade (d : Dev) (n : Nat) : Dev :=
  if d.domState n = 0 ∨ d.domPaired n then d.nextStep
  else if d.stalled then d
  else if (List.range 16).any (fun c => domParent c == some n && d.domState c != 0) then (d.stepFault 0x02).nextStep
  else (d.disable n).nextStep

theorem stepDisable_made {n : Nat} (hn : n < 16) (hw : w = 0x20000000 + n) : d.stepDisable = d.stepping.disableMade n := by
  subst hw
  obtain ⟨hop, hvalid, hdom⟩ := disable_word n hn
  have hphase : d.phase ≠ 5 := by have := h.2.1; omega
  rw [stepDisable, if_neg hphase, stepOf_made h hop hvalid]
  simp only [hdom]
  exact named_plain (phase_stepping_ne h) _ _

theorem disableMade_kept {n : Nat} (hkept : d.domState n = 0 ∨ d.domPaired n = true) :
    d.stepping.disableMade n = d.stepping.standsAt (d.seq.pc + 1) := by
  refine (if_pos ?_).trans (next_stepping h)
  rwa [domState_stepping, domPaired_stepping]

section Running
variable {n : Nat} (hon : d.domState n ≠ 0) (hfree : d.domPaired n = false)
include hon hfree

omit h in
theorem disableMade_running : d.stepping.disableMade n = if d.stalled then d.stepping
    else if (List.range 16).any (fun c => domParent c == some n && d.domState c != 0) then (d.stepping.stepFault 0x02).nextStep
    else (d.stepping.disable n).nextStep := by
  have hgo : ¬ (d.stepping.domState n = 0 ∨ d.stepping.domPaired n = true) := by simp [domState_stepping, domPaired_stepping, hon, hfree]
  rw [disableMade, if_neg hgo]
  simp only [stalled_stepping, domState_stepping]

theorem disableMade_off (hgo : d.stalled = false) (hchildren : ∀ c < 16, domParent c = some n → d.domState c = 0) :
    d.stepping.disableMade n = (d.stepping.disable n).standsAt (d.seq.pc + 1) := by
  have hnone : (List.range 16).any (fun c => domParent c == some n && d.domState c != 0) = false := by
    refine List.any_eq_false.mpr fun c hc => ?_
    simp only [Bool.and_eq_true, beq_iff_eq, bne_iff_ne, ne_eq, not_and, Decidable.not_not]
    exact hchildren c (List.mem_range.mp hc)
  rw [disableMade_running hon hfree, hgo, if_neg Bool.false_ne_true, hnone, if_neg Bool.false_ne_true]
  refine onFrom h ?_ (by simp [disable, seq_stepping])
  exact (phase_of_pageRegs (seqRegs_setDomState d.stepping n 3)).trans d.phase_stepping

omit h in
theorem disableMade_parent (hgo : d.stalled = false) (hchild : ∃ c < 16, domParent c = some n ∧ d.domState c ≠ 0) :
    d.stepping.disableMade n = (d.stepping.stepFault 0x02).nextStep := by
  obtain ⟨c, hc, hparent, hstate⟩ := hchild
  have hany : (List.range 16).any (fun c => domParent c == some n && d.domState c != 0) = true :=
    List.any_eq_true.mpr ⟨c, List.mem_range.mpr hc, by simp [hparent, hstate]⟩
  rw [disableMade_running hon hfree, hgo, if_neg Bool.false_ne_true, if_pos hany]

end Running

/-! ## WAITV, CHECK and STAIR -/

theorem stepWaitv_made (hop : stepOp w = 4) (hv : stepValid w = true) : d.stepWaitv =
    if d.waitvMet w then d.stepping.standsAt (d.seq.pc + 1) else d.stepping.beginWait .waitv := by
  rw [stepWaitv, stepOf_made h hop hv, named_plain (phase_stepping_ne h), waitvMet_stepping, next_stepping h]

/-- A CHECK that clears no GO flag. -/
theorem stepCheck_made (hop : stepOp w = 5) (hv : stepValid w = true) (hgo : ¬ (0x28 ≤ bitsOf w 8 8 ∧ bitsOf w 8 8 ≤ 0x2F)) :
    d.stepCheck = if d.condition (bitsOf w 8 8) = bitAt w 16 then d.stepping.standsAt (bitsOf w 0 8)
      else d.stepping.standsAt (d.seq.pc + 1) := by
  have hkeep : ¬ (0x28 ≤ bitsOf w 8 8 ∧ bitsOf w 8 8 ≤ 0x2F ∧ d.condition (bitsOf w 8 8) = true) := fun hc => hgo ⟨hc.1, hc.2.1⟩
  rw [stepCheck, stepOf_made h hop hv]
  simp only [condition_stepping, if_neg hkeep, next_stepping h, jumpFrom h d.phase_stepping]

omit h in
/-- GO flag `g`, as CHECK reads it. -/
theorem condition_go (d : Dev) {g : Nat} (hg : g < 8) : d.condition (0x28 + g) = bitAt (d.fld (pg .seq) F.SEQ.SEQ_STATUS_GO) g := by
  have hlow : ¬ 0x28 + g ≤ 0x0F ∧ ¬ 0x28 + g ≤ 0x1F ∧ 0x28 + g ≠ 0x20 ∧ 0x28 + g ≠ 0x21 ∧ 0x28 + g ≠ 0x22 ∧ 0x28 + g ≠ 0x23 := by omega
  obtain ⟨h1, h2, h3, h4, h5, h6⟩ := hlow
  simp only [condition, if_neg h1, if_neg h2, if_neg h3, if_neg h4, if_neg h5, if_neg h6, if_pos (show 0x28 + g ≤ 0x2F by omega),
    Nat.add_sub_cancel_left]

theorem stepCheck_go (hop : stepOp w = 5) (hv : stepValid w = true) {g : Nat} (hg : g < 8) (hcond : bitsOf w 8 8 = 0x28 + g)
    (hset : bitAt (d.fld (pg .seq) F.SEQ.SEQ_STATUS_GO) g = true) (hval : bitAt w 16 = true) :
    d.stepCheck = (d.stepping.setGo g false).standsAt (bitsOf w 0 8) := by
  have htrue : d.condition (0x28 + g) = true := (condition_go d hg).trans hset
  have hclear : 0x28 ≤ 0x28 + g ∧ 0x28 + g ≤ 0x2F ∧ d.condition (0x28 + g) = true := ⟨by omega, by omega, htrue⟩
  rw [stepCheck, stepOf_made h hop hv]
  simp only [hcond, condition_stepping, htrue, hval, and_true, if_true, if_pos (And.intro hclear.1 hclear.2.1), Nat.add_sub_cancel_left]
  refine jumpFrom h ?_ _
  refine (fld_setFlag_apart d.stepping false ?_).trans d.phase_stepping
  exact .inr ⟨by decide, .inl (show 4 ≤ 16 + g % 8 by omega)⟩

theorem stepStair_made (hop : stepOp w = 7) (hv : stepValid w = true) : d.stepStair =
    if !d.flag (pg .seq) F.SEQ.SEQ_CFG_STAIR_EN then
      (d.stepping.setFld (pg .seq) F.SEQ.SEQ_STATUS_STAIR_NUM (stepDom w)).standsAt (d.seq.pc + 1)
    else if d.fld (pg .seq) F.SEQ.SEQ_STATUS_STAIR_NUM = stepDom w then d.stepping.standsAt (d.seq.pc + 1)
    else (d.stepping.stairRelease true).beginWait .stair := by
  have hnum : (d.stepping.setFld (pg .seq) F.SEQ.SEQ_STATUS_STAIR_NUM (stepDom w)).nextStep =
      (d.stepping.setFld (pg .seq) F.SEQ.SEQ_STATUS_STAIR_NUM (stepDom w)).standsAt (d.seq.pc + 1) :=
    onFrom h ((fld_setFld_apart _ _ (by decide)).trans d.phase_stepping) (by simp [seq_stepping])
  rw [stepStair, stepOf_made h hop hv]
  simp (disch := decide) only [flag_stepping, fld_stepping, hnum, next_stepping h]

theorem stepStair_there (hop : stepOp w = 7) (hv : stepValid w = true) (hen : d.flag (pg .seq) F.SEQ.SEQ_CFG_STAIR_EN = true)
    (hnum : d.fld (pg .seq) F.SEQ.SEQ_STATUS_STAIR_NUM = stepDom w) : d.stepStair = d.stepping.standsAt (d.seq.pc + 1) := by
  rw [stepStair_made h hop hv, hen, Bool.not_true, if_neg Bool.false_ne_true, if_pos hnum]

theorem stepStair_waits (hop : stepOp w = 7) (hv : stepValid w = true) (hen : d.flag (pg .seq) F.SEQ.SEQ_CFG_STAIR_EN = true)
    (hnum : d.fld (pg .seq) F.SEQ.SEQ_STATUS_STAIR_NUM ≠ stepDom w) : d.stepStair =
      (d.stepping.stairRelease true).modSeq (fun s => { s with wait := .stair, waitAt := d.now }) := by
  have hnow : (d.stepping.stairRelease true).now = d.now := by simp [stairRelease, stepping]
  rw [stepStair_made h hop hv, hen, Bool.not_true, if_neg Bool.false_ne_true, if_neg hnum, beginWait, hnow]

/-! ## RESET, MARK and a step that is not valid -/

/-- RSTOUT `k` asserted, and its stretch ended. -/
def rstAsserted (d : Dev) (k : Nat) : Dev :=
  (d.setFlag (pg .seq) ⟨R.SEQ.RST_STATUS, k, 1⟩ true).setFlag (pg .seq) ⟨R.SEQ.RST_STATUS, 4 + k, 1⟩ false

/-- The stretch of RSTOUT `k` begun at clock `t`. -/
def rstStretching (d : Dev) (k t : Nat) : Dev :=
  (d.setFlag (pg .seq) ⟨R.SEQ.RST_STATUS, 4 + k, 1⟩ true).modSeq (fun s => { s with relAt := vmod s.relAt k (fun _ => t) })

omit h in
theorem phase_setRst (x : Dev) (k : Nat) (b : Bool) : (x.setFlag (pg .seq) ⟨R.SEQ.RST_STATUS, k, 1⟩ b).phase = x.phase :=
  fld_setFlag_apart x b (.inl (show F.SEQ.SEQ_STATUS_PHASE.ofs ≠ R.SEQ.RST_STATUS by decide))

theorem stepReset_made (hop : stepOp w = 8) (hv : stepValid w = true) : d.stepReset =
    if bitAt w 4 then (d.stepping.rstAsserted (bitsOf w 0 2)).standsAt (d.seq.pc + 1)
    else if d.flag (pg .seq) ⟨R.SEQ.RST_STATUS, bitsOf w 0 2, 1⟩ then (d.stepping.rstStretching (bitsOf w 0 2) d.now).standsAt (d.seq.pc + 1)
    else d.stepping.standsAt (d.seq.pc + 1) := by
  have hasserted : (d.stepping.rstAsserted (bitsOf w 0 2)).nextStep = (d.stepping.rstAsserted (bitsOf w 0 2)).standsAt (d.seq.pc + 1) :=
    onFrom h (by rw [rstAsserted, phase_setRst, phase_setRst, phase_stepping]) (by simp [rstAsserted, seq_stepping])
  have hstretch : (d.stepping.rstStretching (bitsOf w 0 2) d.now).nextStep =
      (d.stepping.rstStretching (bitsOf w 0 2) d.now).standsAt (d.seq.pc + 1) :=
    onFrom h ((phase_setRst _ _ _).trans d.phase_stepping) (by simp [rstStretching, seq_stepping])
  have hread : d.stepping.flag (pg .seq) ⟨R.SEQ.RST_STATUS, bitsOf w 0 2, 1⟩ = d.flag (pg .seq) ⟨R.SEQ.RST_STATUS, bitsOf w 0 2, 1⟩ :=
    flag_stepping d (.inl (show R.SEQ.RST_STATUS ≠ F.SEQ.SEQ_STATUS_STEP.ofs by decide))
  rw [stepReset, stepOf_made h hop hv]
  have hnow : d.stepping.now = d.now := by simp [stepping]
  simp only [hread, hnow]
  rw [← hasserted, ← hstretch, ← next_stepping h]
  rfl

section Reset
variable (hop : stepOp w = 8) (hv : stepValid w = true) {k : Nat} (hk : bitsOf w 0 2 = k)
include hop hv hk

theorem stepReset_asserts (hset : bitAt w 4 = true) :
    d.stepReset = (d.stepping.rstAsserted (k)).standsAt (d.seq.pc + 1) := by
  rw [stepReset_made h hop hv, hk, if_pos hset]

theorem stepReset_stretches (hrel : bitAt w 4 = false) (hasserted : d.flag (pg .seq) ⟨R.SEQ.RST_STATUS, k, 1⟩ = true) :
    d.stepReset = (d.stepping.rstStretching (k) d.now).standsAt (d.seq.pc + 1) := by
  rw [stepReset_made h hop hv, hk, hrel, if_neg Bool.false_ne_true, if_pos hasserted]

theorem stepReset_free (hrel : bitAt w 4 = false) (hfree : d.flag (pg .seq) ⟨R.SEQ.RST_STATUS, k, 1⟩ = false) :
    d.stepReset = d.stepping.standsAt (d.seq.pc + 1) := by
  rw [stepReset_made h hop hv, hk, hrel, if_neg Bool.false_ne_true, hfree, if_neg Bool.false_ne_true]

end Reset

theorem stepInvalid_valid (hv : stepValid w = true) : d.stepInvalid = d := by
  have hrun : d.seqBegin = d := seqBegin_running (by have := h.1; omega)
  simp only [stepInvalid, hrun, curStep_at h, hv, if_true]

theorem stepInvalid_bad (hv : stepValid w = false) : d.stepInvalid =
    (((d.stepping.bump (pg .seq) R.SEQ.BAD_STEPS).stepFault 0x01).setPhase 9).modSeq
      (fun s => { s with goal := .none, stopReq := false, lastDis := none }) := by
  have hrun : d.seqBegin = d := seqBegin_running (by have := h.1; omega)
  have haux : (d.phase == 6) = false := beq_false_of_ne (by have := h.2.1; omega)
  simp only [stepInvalid, hrun, curStep_at h, hv, haux, Bool.false_and, Bool.false_eq_true, if_false]
  rfl

end At
end Dev

/-- Settles O38: each step command at the step that stands next. -/
theorem programStepsRun : Obligations.ProgramStepsRun := by
  unfold Obligations.ProgramStepsRun
  intro d w p e next jump hlo hhi hwait hprog
  have h : d.AtStep w := ⟨hlo, hhi, hwait, hprog⟩
  refine ⟨?other, fun hv => Runs.dev (fun _ => rfl) (Dev.stepInvalid_valid h hv),
    fun hv => Runs.dev (fun _ => rfl) (Dev.stepInvalid_bad h hv), ?enable, ?disable,
    fun hop hv => Runs.dev (fun _ => rfl) (Dev.stepOf_made h hop hv _), ?waitv, ?check, ?go, ?jump, ?stair, ?reset,
    fun hop hv => Runs.dev (fun _ => rfl) (Dev.stepOf_made h hop hv _)⟩
  case other =>
    have hphase : d.phase ≠ 5 := by omega
    simp only [List.mem_cons, List.not_mem_nil, or_false, forall_eq_or_imp, forall_eq]
    refine ⟨fun hne => Runs.dev (fun _ => rfl) ((if_neg hphase).trans (Dev.stepOf_other h hne _)),
      fun hne => Runs.dev (fun _ => rfl) (Dev.stepOf_other h hne _),
      fun hne => Runs.dev (fun _ => rfl) ((if_neg hphase).trans (Dev.stepOf_other h hne _)), ?_⟩
    and_intros <;> exact fun hne => Runs.dev (fun _ => rfl) (Dev.stepOf_other h hne _)
  case enable =>
    intro n hn hw
    have hmade := Dev.stepEnable_made h hn hw
    exact ⟨fun hkept => Runs.dev (fun _ => rfl) (hmade.trans (Dev.enableMade_kept h hkept)),
      fun hoff hfree hcut hparent => Runs.dev (fun _ => rfl) (hmade.trans (Dev.enableMade_on h hoff hfree hcut hparent)),
      fun q hoff hfree hcut hparent hq => Runs.dev (fun _ => rfl) (hmade.trans (Dev.enableMade_orphan hoff hfree hcut hparent hq))⟩
  case disable =>
    intro n hn hw
    have hmade := Dev.stepDisable_made h hn hw
    refine ⟨fun hkept => Runs.dev (fun _ => rfl) (hmade.trans (Dev.disableMade_kept h hkept)),
      fun hon hfree hstall => Runs.dev (fun _ => rfl) (hmade.trans ((Dev.disableMade_running hon hfree).trans (if_pos hstall))), ?_,
      fun hon hfree hgo hchild => Runs.dev (fun _ => rfl) (hmade.trans (Dev.disableMade_parent hon hfree hgo hchild))⟩
    intro hon hfree hgo hchildren
    refine Runs.dev (fun _ => rfl) (hmade.trans ((Dev.disableMade_off h hon hfree hgo hchildren).trans ?_))
    rw [Dev.disable, Dev.powerDown_stepping]
    rfl
  case waitv =>
    intro hop hv
    have hmade := Dev.stepWaitv_made h hop hv
    exact ⟨fun hmet => Runs.dev (fun _ => rfl) (hmade.trans (if_pos hmet)),
      fun hnot => Runs.dev (fun _ => rfl) (hmade.trans (if_neg (by simp [hnot])))⟩
  case check => exact fun hop hv hgo => Runs.dev (fun _ => rfl) (Dev.stepCheck_made h hop hv hgo)
  case go => exact fun hop hv g hg hcond hset hval => Runs.dev (fun _ => rfl) (Dev.stepCheck_go h hop hv hg hcond hset hval)
  case jump =>
    exact fun hop hv => Runs.dev (fun _ => rfl) ((Dev.stepOf_made h hop hv _).trans (Dev.jumpFrom h d.phase_stepping _))
  case stair =>
    intro hop hv
    exact ⟨fun hoff => Runs.dev (fun _ => rfl) ((Dev.stepStair_made h hop hv).trans (if_pos (by simpa using hoff))),
      fun hon hnum => Runs.dev (fun _ => rfl) (Dev.stepStair_there h hop hv hon hnum),
      fun hon hnum => Runs.dev (fun _ => rfl) (Dev.stepStair_waits h hop hv hon hnum)⟩
  case reset =>
    intro hop hv k
    have hk : bitsOf w 0 2 = k := rfl
    clear_value k
    exact ⟨fun hset => Runs.dev (fun _ => rfl) (Dev.stepReset_asserts h hop hv hk hset),
      fun hrel hasserted => Runs.dev (fun _ => rfl) (Dev.stepReset_stretches h hop hv hk hrel hasserted),
      fun hrel hfree => Runs.dev (fun _ => rfl) (Dev.stepReset_free h hop hv hk hrel hfree)⟩

end Sys2Proof.Machine
end

section
/-!
PROOFS. The end of DOWN (R350, R351, R354): an END waits while its power-down run may not leave the state of the device.
-/
namespace Sys2Proof.Machine
namespace Dev

/-- END in DOWN, of a run that leads to HIBERNATE, waits while the device is not in READY. -/
theorem stepEnd_waits {d : Dev} (h : d.AtStep 0) (hphase : d.phase = 4) (hgoal : d.seq.goal = .hibernate) (hst : d.state ≠ 3) (bootsel : Nat)
    (diff : List (Nat × Word)) : d.stepEnd bootsel diff = d.stepping := by
  have hstate : d.stepping.state = d.state := state_of_pageRegs (d.pageRegs_stepping (by decide))
  have hwait : (d.stepping.stalled || (d.stepping.seq.goal == .hibernate && !d.stepping.mayPowerDown)) = true := by
    have hnot : d.stepping.mayPowerDown = false := by simp [mayPowerDown, hstate, hst, seq_stepping, hgoal]
    simp [hnot, seq_stepping, hgoal]
  have hph : d.stepping.phase = 4 := d.phase_stepping.trans hphase
  have hunwind : ¬ d.phase = 5 := by omega
  rw [stepEnd, if_neg hunwind, stepOf_made h (by decide) (by decide)]
  simp only [hph, hwait, if_true]
  rfl

end Dev

/-- A device in DOWN, at an END, whose run leads to HIBERNATE, outside READY. -/
def downToHibernate : Dev :=
  { (({} : Dev).setReg (pg .seq) R.SEQ.PROG 0).setFld (pg .seq) F.SEQ.SEQ_STATUS_PHASE 4 with seq := { goal := .hibernate } }

theorem downToHibernate_end : Runs (.stepEnd 0 []) downToHibernate downToHibernate.stepping :=
  Runs.dev (fun _ => rfl) (Dev.stepEnd_waits (by decide) (by decide) rfl (by decide) 0 [])

/-- Refutes O39: the END of DOWN with the goal HIBERNATE, which the statement has go on to the unwind whatever the goal and the state of
the device, waits in DOWN while the device is not in READY (log entry 52). -/
theorem not_programEndsRun : ¬ Obligations.ProgramEndsRun := by
  unfold Obligations.ProgramEndsRun
  intro h
  obtain ⟨-, -, -, -, -, hdown⟩ := (h downToHibernate).1 0 [] rfl (by decide)
  obtain ⟨t, hrun, hphase, -⟩ := hdown (by decide) (by decide)
  rw [hrun.unique downToHibernate_end, Dev.phase_stepping] at hphase
  exact absurd hphase (by decide)

end Sys2Proof.Machine
end

section
/-!
PROOFS. The domains and the requests to the sequencer (R344–R347, R350, R353, R354, R356, R365, R476).
-/
namespace Sys2Proof.Machine
namespace Dev

/-! ## A domain that reaches ON (R345, R476) -/

theorem offRegulators_dom (n : Nat) : OffRegulators (pg .dom n) := by
  simp only [OffRegulators, pg, PageKind.first]
  omega

/-- The state that a domain is given. -/
theorem domState_setDomState (d : Dev) (n : Nat) {st : Nat} (h : st < 8) : (d.setDomState n st).domState n = st := by
  have hself : (d.domSwitched n st).domState n = st := by
    refine (fld_of_pageRegs (pageRegs_domSwitched d n st (offRegulators_dom n)) (by decide)).trans ?_
    exact (fld_setFld_self _ _ _ _ (by decide)).trans (Nat.mod_eq_of_lt h)
  rw [setDomState_eq]
  split
  case isTrue hmirror =>
    have hpage : pg .dom n ≠ pg .dom 3 := by
      rw [hmirror.1]
      decide
    exact (fld_of_pageRegs (pageRegs_setFld _ _ ⟨hpage, by decide⟩) (by decide)).trans hself
  case isFalse => exact hself

/-- Domain `n` in ON, its event marked. -/
def reachedOn (d : Dev) (n : Nat) : Dev := (d.setDomState n 2).event (pg .dom n) F.DOM.EVENT_REACHED_ON

theorem domainOn_confirmed {d : Dev} {n : Nat} (h : d.domState n = 1) (hrun : d.domConfirmed n (d.domS n).inRun = true) :
    d.domainOn n = d.reachedOn n := if_pos ⟨h, hrun⟩

theorem domState_reachedOn (d : Dev) (n : Nat) : (d.reachedOn n).domState n = 2 :=
  (fld_event_apart _ (by decide)).trans (d.domState_setDomState n (by decide))

/-- The memories of a domain that has reached ON cleared, where it has any. -/
def memoriesCleared (d : Dev) (n : Nat) : Dev :=
  if 10 ≤ n ∧ n ≤ 12 then
    { d.zeroMemory (domMemory n) with comp := { d.comp with clearDue := n :: d.comp.clearDue.filter (fun m => m != n) } }
  else d

theorem waitvCheck_elsewhere {d : Dev} (h : d.seq.wait ≠ .waitv) : d.waitvCheck = d := if_neg fun hc => h hc.2.1

theorem seq_memoriesCleared (d : Dev) (n : Nat) : (d.memoriesCleared n).seq = d.seq := by
  rw [memoriesCleared]
  split <;> rfl

theorem domainOnSeq_on {d : Dev} {n : Nat} (hwait : d.seq.wait ≠ .waitv) (h : d.domState n = 1)
    (hrun : d.domConfirmed n (d.domS n).inRun = true) : d.domainOnSeq n = (d.reachedOn n).memoriesCleared n := by
  have hkept : ((d.reachedOn n).memoriesCleared n).seq.wait ≠ .waitv := by
    rw [seq_memoriesCleared]
    simpa [reachedOn] using hwait
  rw [← waitvCheck_elsewhere hkept]
  simp only [domainOnSeq, domainOn_confirmed h hrun, h, domState_reachedOn, true_and]
  rfl

theorem domainOnSeq_none {d : Dev} {n : Nat} (hwait : d.seq.wait ≠ .waitv)
    (h : d.domState n ≠ 1 ∨ d.domConfirmed n (d.domS n).inRun = false) : d.domainOnSeq n = d := by
  have hstay : d.domainOn n = d := if_neg fun hc => h.elim (fun hne => hne hc.1) (fun hno => by simp [hno] at hc)
  have hnone : ¬ (d.domState n = 1 ∧ d.domState n = 2 ∧ 10 ≤ n ∧ n ≤ 12) := fun hc => by
    have h1 := hc.1
    have h2 := hc.2.1
    omega
  simp only [domainOnSeq, hstay, if_neg hnone]
  exact waitvCheck_elsewhere hwait

/-- A byte after memory ranges are set to 0. -/
theorem byte_zeroMemory (d : Dev) (l : List (Nat × Nat)) (a : Nat) : Mem.byte (d.zeroMemory l).mem a =
    if ∃ r ∈ l, r.1 ≤ a ∧ a < r.1 + r.2 then 0 else Mem.byte d.mem a := by
  have hany : (l.any fun r => decide (r.1 ≤ a) && decide (a < r.1 + r.2)) = true ↔ ∃ r ∈ l, r.1 ≤ a ∧ a < r.1 + r.2 := by
    simp only [List.any_eq_true, Bool.and_eq_true, decide_eq_true_eq]
  simp only [Mem.byte, zeroMemory, Sparse.get_keep, memDefault, Bool.not_eq_true', ← Bool.not_eq_true, ← hany]
  split
  case isTrue => rfl
  case isFalse h => rw [if_pos (not_not.mp h)]

theorem domMemory_none {n : Nat} (h : ¬ (10 ≤ n ∧ n ≤ 12)) : domMemory n = [] := by
  unfold domMemory
  rw [if_neg (by omega), if_neg (by omega), if_neg (by omega)]

/-- A memory domain's bytes read 0 as it reaches ON; no other byte changes. -/
theorem byte_memoriesCleared (d : Dev) (n a : Nat) : Mem.byte (d.memoriesCleared n).mem a =
    if ∃ r ∈ domMemory n, r.1 ≤ a ∧ a < r.1 + r.2 then 0 else Mem.byte d.mem a := by
  rw [memoriesCleared]
  split
  case isTrue => exact byte_zeroMemory d _ a
  case isFalse h =>
    rw [domMemory_none h, if_neg]
    rintro ⟨r, hr, -⟩
    cases hr

theorem domainOnSeq_spec (d : Dev) (n : Nat) : let t := (d.reachedOn n).memoriesCleared n
    t.domState n = 2 ∧ t.flag (pg .dom n) F.DOM.EVENT_REACHED_ON = true ∧ t.keys = d.keys ∧
      (∀ a, (∃ r ∈ domMemory n, r.1 ≤ a ∧ a < r.1 + r.2) → Mem.byte t.mem a = 0) ∧
      (∀ a, (∀ r ∈ domMemory n, a < r.1 ∨ r.1 + r.2 ≤ a) → Mem.byte t.mem a = Mem.byte d.mem a) := by
  intro t
  have hregs : t.regs = (d.reachedOn n).regs := by
    simp only [t, memoriesCleared]
    split <;> rfl
  have hkeys : t.keys = (d.reachedOn n).keys := by
    simp only [t, memoriesCleared]
    split <;> rfl
  have hmem : (d.reachedOn n).mem = d.mem := by simp [reachedOn]
  refine ⟨?_, ?_, hkeys.trans (by simp [reachedOn]), fun a ha => ?_, fun a ha => ?_⟩
  · exact (fld_of_reg (reg_of_regs hregs _ _ 0)).trans (d.domState_reachedOn n)
  · refine (flag_of_fld (fld_of_reg (reg_of_regs hregs _ _ 0))).trans ?_
    exact flag_setFlag_self _ _ _ true (by decide) (by decide)
  · rw [byte_memoriesCleared, if_pos ha]
  · rw [byte_memoriesCleared, if_neg, hmem]
    rintro ⟨r, hr, hlo, hhi⟩
    have := ha r hr
    omega

/-! ## Windows and OFF_TIME (R346, R347, R354) -/

section Rail
variable {d : Dev} {n : Nat}

theorem railUv_met (h : d.domState n = 2) (hrun : d.domConfirmed n (d.domS n).uvRun = true)
    (hnew : d.active (srcNo .dom n B.DOM.DOM_UV) = false) : d.railUv n = ((d.bump (pg .dom n) R.DOM.UV_EVENTS).raiseLevel .dom n B.DOM.DOM_UV
      (d.fld (pg .monadc) (F.MONADC.RESULT_RESULT.at n))).domCut n :=
  if_pos ⟨h, hrun, by simp [hnew]⟩

theorem railOv_met (h : d.domState n = 1 ∨ d.domState n = 2) (hrun : d.domConfirmed n (d.domS n).ovRun = true)
    (hnew : d.active (srcNo .dom n B.DOM.DOM_OV) = false) : d.railOv n = ((d.bump (pg .dom n) R.DOM.OV_EVENTS).raiseLevel .dom n B.DOM.DOM_OV
      (d.fld (pg .monadc) (F.MONADC.RESULT_RESULT.at n))).domCut n :=
  if_pos ⟨h, hrun, by simp [hnew]⟩

/-- OFF_TIME of domain `n` ends. -/
abbrev offTimeDue (d : Dev) (n : Nat) : Nat := (d.domS n).since + 40000 * d.fld (pg .dom n) F.DOM.OFF_CFG_OFF_TIME

theorem domOffTimeout_due (h : d.domState n = 3) (hlate : (d.domS n).late = false) (hdue : d.offTimeDue n ≤ d.now) : d.domOffTimeout n =
    (((d.modDom n (fun s => { s with late := true })).bump (pg .dom n) R.DOM.OFF_TIMEOUTS).raiseLevel .dom n B.DOM.DOM_OFF_TIMEOUT
      (d.fld (pg .monadc) (F.MONADC.RESULT_RESULT.at n))).modSeq
        (fun s => { s with lastDis := if s.lastDis = some n then none else s.lastDis }) :=
  if_pos ⟨h, by simp [hlate], hdue⟩

theorem domOffTimeout_none (h : d.domState n ≠ 3 ∨ (d.domS n).late = true ∨ d.now < d.offTimeDue n) : d.domOffTimeout n = d := by
  refine if_neg fun hc => ?_
  obtain ⟨hst, hlate, hdue⟩ := hc
  rcases h with hne | hl | hnow
  · exact hne hst
  · simp [hl] at hlate
  · exact absurd hdue (Nat.not_le.mpr hnow)

end Rail

/-- A cut switches its domain off and marks it. -/
theorem domCut_spec {d : Dev} {n : Nat} (hn : n = 3 ∨ n = 6 ∨ n = 8) (h : d.flag (pg .dom n) F.DOM.DCFG_CUT = true) :
    (d.domCut n).domState n = 3 ∧ (d.domCut n).flag (pg .dom n) F.DOM.STATUS_CUT = true ∧
      (d.domCut n).flag (pg .dom n) F.DOM.EVENT_CUT = true := by
  have hcut : d.domCut n =
      (((d.setDomState n 3).setFlag (pg .dom n) F.DOM.STATUS_CUT true).bump (pg .dom n) R.DOM.CUTS).event (pg .dom n) F.DOM.EVENT_CUT :=
    if_pos ⟨hn, h⟩
  have hstate := d.domState_setDomState n (show 3 < 8 by decide)
  rw [domState] at hstate
  rw [hcut]
  simp (disch := decide) only [domState, reads_apart, reads_apart_reg, reads_self, hstate, and_self]

/-! ## The hold-off (R356, R387) -/

section HoldOff
variable {d : Dev} (hvin : d.seq.vinReq = false)
include hvin

/-- The hold-off of CELLAR ended, with the request of VIN dropped. -/
def holdOffOver (d : Dev) : Dev := (d.modCel (fun c => { c with holdOff := false })).modSeq (fun s => { s with vinReq := false })

theorem holdOffEnd_cellar (hst : d.state = 1) (hrun : d.cel.holdOff = true) (hdue : d.cel.holdEnd ≤ d.now) : d.holdOffEnd =
    if d.cel.wakeDue ≠ 0 then (d.holdOffOver.modCel (fun c => { c with wakeAt := d.now })).setPwron true else d.holdOffOver := by
  have hany : (false || d.cel.wakeDue != 0) = true ↔ d.cel.wakeDue ≠ 0 := by simp
  have hgo : d.state = 1 ∧ d.cel.holdOff = true := ⟨hst, hrun⟩
  simp only [holdOffEnd, if_pos hgo, if_neg (Nat.not_lt.mpr hdue), hvin, Bool.false_and, hany, Bool.false_eq_true, if_false]
  rfl

end HoldOff

theorem holdOffEnd_early {d : Dev} (hst : d.state = 1) (hrun : d.cel.holdOff = true) (hdue : d.now < d.cel.holdEnd) : d.holdOffEnd = d := by
  have hgo : d.state = 1 ∧ d.cel.holdOff = true := ⟨hst, hrun⟩
  simp only [holdOffEnd, if_pos hgo, if_pos hdue]

theorem holdOffEnd_none {d : Dev} (hst : d.state ≠ 1) (h : ¬ (d.phase = 7 ∧ d.holdOffAt ≤ d.now)) : d.holdOffEnd = d := by
  have hcellar : ¬ (d.state = 1 ∧ d.cel.holdOff = true) := fun hc => hst hc.1
  simp only [holdOffEnd, if_neg hcellar, if_neg h]

theorem state_dropOn (d : Dev) : d.dropOn.state = d.state :=
  (state_modSeq ..).trans (state_of_pageRegs (pageRegs_setFlag d false (by decide)))

/-- UP begun by what the hold-off has left. -/
def heldUp (d : Dev) : Dev := (d.dropOn.modCel (fun c => { c with wakeDue := 0 })).startUp

section Boot
variable {d : Dev} (hphase : d.phase = 7) (hst : d.state = 2) (hvin : d.seq.vinReq = false) (hdue : d.holdOffAt ≤ d.now)
include hphase hst hvin hdue

theorem holdOffEnd_boot : d.holdOffEnd = if d.cel.wakeDue ≠ 0 then d.heldUp else d.dropOn.setPhase 8 := by
  have hany : (false || d.cel.wakeDue != 0) = true ↔ d.cel.wakeDue ≠ 0 := by simp
  have hcellar : ¬ (d.state = 1 ∧ d.cel.holdOff = true) := fun hc => by omega
  have hgo : d.phase = 7 ∧ d.holdOffAt ≤ d.now := ⟨hphase, hdue⟩
  have hboot : ¬ d.dropOn.state = 6 := by
    rw [state_dropOn]
    omega
  simp only [holdOffEnd, if_neg hcellar, if_pos hgo, if_neg hboot, hvin, Bool.false_and, hany]
  rfl

end Boot

theorem parked_spec (d : Dev) : (d.dropOn.setPhase 8).phase = 8 ∧ (d.dropOn.setPhase 8).flag (pg .seq) F.SEQ.SEQ_STATUS_ON_REQ = false ∧
    (d.dropOn.setPhase 8).mem = d.mem := by
  refine ⟨fld_setFld_self _ _ _ _ (by decide), ?_, by simp [dropOn]⟩
  simp (disch := decide) only [setPhase, dropOn, reads_apart, flag_modSeq, reads_self]

/-- What a run of programs that begins leaves. -/
theorem startRun_spec (d : Dev) {ph : Nat} (h : ph < 16) (entry : Nat) : (d.startRun ph entry).phase = ph ∧
    (d.startRun ph entry).seq.pc = entry ∧ (d.startRun ph entry).reg (pg .seq) R.SEQ.RUNS = d.reg (pg .seq) R.SEQ.RUNS + 1 := by
  refine ⟨?_, rfl, ?_⟩
  · refine Eq.trans ?_ ((fld_setFld_self (d.bump (pg .seq) R.SEQ.RUNS) (pg .seq) F.SEQ.SEQ_STATUS_PHASE ph (by decide)).trans
      (Nat.mod_eq_of_lt h))
    rfl
  · simp (disch := decide) only [startRun, enterProgram, setPhase, reg_modSeq, reads_ofs, reg_bump_self]
    rfl

theorem heldUp_spec (d : Dev) : d.heldUp.phase = 1 ∧ d.heldUp.seq.pc = d.fld (pg .seq) F.SEQ.ENTRY_UP ∧ d.heldUp.cel.wakeDue = 0 ∧
    d.heldUp.reg (pg .seq) R.SEQ.RST_STATUS = 0x0F ∧ d.heldUp.reg (pg .seq) R.SEQ.RUNS = d.reg (pg .seq) R.SEQ.RUNS + 1 ∧
    d.heldUp.mem = d.mem := by
  have hrun := fun e : Dev => startRun_spec e.assertResets (show 1 < 16 by decide) (e.fld (pg .seq) F.SEQ.ENTRY_UP)
  obtain ⟨hphase, hpc, hruns⟩ := hrun (d.dropOn.modCel (fun c => { c with wakeDue := 0 }))
  refine ⟨hphase, hpc.trans ?_, ?_, ?_, hruns.trans ?_, by simp [heldUp, startUp, dropOn]⟩
  · simp (disch := decide) only [dropOn, fld_modCel, fld_modSeq, reads_apart]
  · simp [heldUp, startUp, startRun, enterProgram, setPhase, assertResets]
  · simp (disch := decide) only [heldUp, startUp, startRun, enterProgram, setPhase, reg_modSeq, reads_ofs, reads_reg, rstStatus_assertResets]
  · simp (disch := decide) only [assertResets, dropOn, reads_reg, reg_modCel, reg_modSeq, reads_ofs]

/-! ## The commands of SEQ (R350, R353, R365) -/

theorem seqWrite_runAux (d : Dev) (m : Master) (k : Fin 8) (f : WriteFacts) :
    d.blockWrite m .seq 0 R.SEQ.CMD (BitVec.ofNat 32 (0x9E5A0001 + 16 * k.val)) f = d.runAux k.val := by
  have hword : ∀ k : Fin 8, bitsOf (BitVec.ofNat 32 (0x9E5A0001 + 16 * k.val)).toNat 16 16 = 0x9E5A ∧
      bitsOf (BitVec.ofNat 32 (0x9E5A0001 + 16 * k.val)).toNat 0 3 = 1 ∧
      bitsOf (BitVec.ofNat 32 (0x9E5A0001 + 16 * k.val)).toNat 4 3 = k.val := by decide
  obtain ⟨hkey, hcmd, harg⟩ := hword k
  show d.seqWrite m R.SEQ.CMD _ = _
  rw [seqWrite, if_pos rfl, if_pos hkey]
  simp only [hcmd, harg]

theorem seqWrite_goSet (d : Dev) (m : Master) (k : Fin 8) (f : WriteFacts) :
    d.blockWrite m .seq 0 R.SEQ.CMD (BitVec.ofNat 32 (0x9E5A0002 + 16 * k.val)) f = d.setGo k.val true := by
  have hword : ∀ k : Fin 8, bitsOf (BitVec.ofNat 32 (0x9E5A0002 + 16 * k.val)).toNat 16 16 = 0x9E5A ∧
      bitsOf (BitVec.ofNat 32 (0x9E5A0002 + 16 * k.val)).toNat 0 3 = 2 ∧
      bitsOf (BitVec.ofNat 32 (0x9E5A0002 + 16 * k.val)).toNat 4 3 = k.val := by decide
  obtain ⟨hkey, hcmd, harg⟩ := hword k
  show d.seqWrite m R.SEQ.CMD _ = _
  rw [seqWrite, if_pos rfl, if_pos hkey]
  simp only [hcmd, harg]

theorem seqWrite_stopAux (d : Dev) (m : Master) (f : WriteFacts) : d.blockWrite m .seq 0 R.SEQ.CMD 0x9E5A0003 f = d.stopAux := by
  show d.seqWrite m R.SEQ.CMD 0x9E5A0003 = _
  rw [seqWrite, if_pos rfl, if_pos (by decide)]
  rfl

/-- A GO flag as the bit of SEQ_STATUS that it is. -/
theorem setGo_eq (d : Dev) (k : Fin 8) (on : Bool) : d.setGo k.val on = d.setFlag (pg .seq) ⟨R.SEQ.SEQ_STATUS, 16 + k.val, 1⟩ on := by
  rw [setGo, Nat.mod_eq_of_lt k.isLt]

theorem phase_done (d : Dev) : d.done.phase = d.phase := rfl

section Aux
variable {d : Dev}

theorem runAux_runs {k : Nat} (hlo : 3 ≤ d.state) (hhi : d.state ≤ 5) (hphase : d.phase = 0) (hk : k < 4) :
    d.runAux k = d.startRun 6 (d.fld (pg .seq) (F.SEQ.AUX_ENTRY_AUX0.at k)) := if_pos ⟨hlo, hhi, hphase, hk⟩

theorem runAux_refused {k : Nat} (h : d.phase ≠ 0 ∨ 4 ≤ k ∨ d.state < 3) : d.runAux k = d.event (pg .seq) F.SEQ.EVENT_CMD_REFUSED :=
  if_neg fun hc => by
    obtain ⟨hlo, -, hphase, hk⟩ := hc
    omega

theorem stopAux_waiting (hphase : d.phase = 6) (hwait : d.seq.wait ≠ .none) :
    d.stopAux = d.modSeq (fun s => { s with stopReq := true }) := by
  have hw : ¬ (d.modSeq (fun s => { s with stopReq := true })).seq.wait = .none := hwait
  simp only [stopAux, if_pos hphase, if_neg hw]

/-- The program ended for STOP_AUX. -/
def auxStopped (d : Dev) : Dev := (d.modSeq (fun s => { s with stopReq := true })).progEnd.modSeq (fun s => { s with stopReq := false })

theorem stopAux_between (hphase : d.phase = 6) (hwait : d.seq.wait = .none) (hgoal : d.seq.goal = .none) : d.stopAux = d.auxStopped := by
  have hw : (d.modSeq (fun s => { s with stopReq := true })).seq.wait = .none := hwait
  have hg : ¬ ((d.modSeq (fun s => { s with stopReq := true })).phase = 6 ∧ (d.modSeq (fun s => { s with stopReq := true })).seq.goal ≠ .none) :=
    fun hc => hc.2 hgoal
  have hs : (d.modSeq (fun s => { s with stopReq := true })).phase = 6 ∧ (d.modSeq (fun s => { s with stopReq := true })).seq.stopReq = true :=
    ⟨hphase, rfl⟩
  simp only [stopAux, if_pos hphase, if_pos hw, boundary, if_neg hg, if_pos hs]
  rfl

theorem auxStopped_spec (d : Dev) : d.auxStopped.phase = 0 ∧ d.auxStopped.flag (pg .seq) F.SEQ.EVENT_PROG_END = true ∧
    d.auxStopped.seq.stopReq = false := by
  refine ⟨?_, ?_, rfl⟩
  · simp (disch := decide) only [auxStopped, progEnd, setPhase, phase, fld_modSeq, reads_apart, reads_self]
    rfl
  · simp (disch := decide) only [auxStopped, progEnd, flag_modSeq, reads_self]

end Aux
end Dev

/-- Settles O40: the domains as the monitor judges them, the hold-off, and the commands of SEQ. -/
theorem domainsAndRequestsRun : Obligations.DomainsAndRequestsRun := by
  unfold Obligations.DomainsAndRequestsRun
  intro d m p
  refine ⟨?on, ?rails, ?cut, ?cellar, ?early, ?boot, ?none, ?run, ?stop⟩
  case on =>
    intro n hwait
    exact ⟨fun h => Runs.dev (fun _ => rfl) (Dev.domainOnSeq_none hwait h),
      fun h hrun => ⟨_, Runs.dev (fun _ => rfl) (Dev.domainOnSeq_on hwait h hrun), d.domainOnSeq_spec n.val⟩⟩
  case rails =>
    intro n q v
    refine ⟨fun h => Runs.dev (fun _ => rfl) (if_neg fun hc => h hc.1), fun h hrun hnew => Runs.dev (fun _ => rfl) (Dev.railUv_met h hrun hnew),
      fun h => Runs.dev (fun _ => rfl) (if_neg fun hc => by have := hc.1; omega),
      fun h hrun hnew => Runs.dev (fun _ => rfl) (Dev.railOv_met h hrun hnew), ?_⟩
    intro s due
    exact ⟨fun h hlate hdue => Runs.dev (fun _ => rfl) (Dev.domOffTimeout_due h hlate hdue),
      fun h => Runs.dev (fun _ => rfl) (Dev.domOffTimeout_none h)⟩
  case cut => exact fun e n hn hcut => Dev.domCut_spec (by simpa using hn) hcut
  case cellar =>
    intro hst hrun hvin e
    exact ⟨fun hdue => Runs.dev (fun _ => rfl) (Dev.holdOffEnd_early hst hrun hdue),
      fun hdue hnone => Runs.dev (fun _ => rfl) ((Dev.holdOffEnd_cellar hvin hst hrun hdue).trans (if_neg (not_not.mpr hnone))),
      fun hdue hwake => Runs.dev (fun _ => rfl) ((Dev.holdOffEnd_cellar hvin hst hrun hdue).trans (if_pos hwake))⟩
  case early =>
    exact fun hphase hst hnow => Runs.dev (fun _ => rfl) (Dev.holdOffEnd_none hst fun hc => absurd hc.2 (Nat.not_le.mpr hnow))
  case boot =>
    intro hphase hst hvin hdue
    have hend := Dev.holdOffEnd_boot hphase hst hvin hdue
    exact ⟨fun hnone => ⟨_, Runs.dev (fun _ => rfl) (hend.trans (if_neg (not_not.mpr hnone))), d.parked_spec⟩,
      fun hwake => ⟨_, Runs.dev (fun _ => rfl) (hend.trans (if_pos hwake)), d.heldUp_spec⟩⟩
  case none => exact fun hst hphase => Runs.dev (fun _ => rfl) (Dev.holdOffEnd_none hst fun hc => hphase hc.1)
  case run =>
    intro k h
    refine ⟨fun hlo hhi hphase hk => ?_, fun hno => ?_, ?_⟩
    · obtain ⟨hph, hpc, hruns⟩ := d.startRun_spec (show 6 < 16 by decide) (d.fld (pg .seq) (F.SEQ.AUX_ENTRY_AUX0.at k.val))
      exact ⟨_, Runs.block (by decide) (by decide) h (by decide) (fun _ => rfl)
        ((d.seqWrite_runAux m k {}).trans (Dev.runAux_runs hlo hhi hphase hk)), hph, hpc, hruns, by simp [Dev.done], by simp [Dev.done]⟩
    · exact Runs.block (by decide) (by decide) h (by decide) (fun _ => rfl) ((d.seqWrite_runAux m k {}).trans (Dev.runAux_refused hno))
    · exact Runs.block (by decide) (by decide) h (by decide) (fun _ => rfl) ((d.seqWrite_goSet m k {}).trans (d.setGo_eq k true))
  case stop =>
    intro h
    have hwrite := d.seqWrite_stopAux m {}
    refine ⟨fun hphase => Runs.block (by decide) (by decide) h (by decide) (fun _ => rfl) (hwrite.trans (if_neg hphase)),
      fun hphase hwait => Runs.block (by decide) (by decide) h (by decide) (fun _ => rfl) (hwrite.trans (Dev.stopAux_waiting hphase hwait)), ?_⟩
    intro hphase hwait hgoal
    obtain ⟨hph, hevent, hstop⟩ := d.auxStopped_spec
    exact ⟨_, Runs.block (by decide) (by decide) h (by decide) (fun _ => rfl) (hwrite.trans (Dev.stopAux_between hphase hwait hgoal)),
      (Dev.phase_done _).trans hph, (Dev.flag_done ..).trans hevent, hstop, by simp [Dev.done, Dev.auxStopped, Dev.progEnd],
      by simp [Dev.done, Dev.auxStopped, Dev.progEnd]⟩

end Sys2Proof.Machine
end

section
/-!
PROOFS. A write of the CELLAR or RTC page together with its landing in the cellar (R369): what the landing finds.
-/
namespace Sys2Proof.Machine
namespace Dev

/-- The write of `w` to register `ofs` of page `p`, the only one under way, taken out of its transit. -/
def landing (d : Dev) (m : Master) (p ofs : Nat) (w : Word) : Dev :=
  (((((d.modCel (fun c => { c with transit := (p, m, ofs, w) :: c.transit })).setSyncBusy p true).done).modCel
    (fun c => { c with transit := c.transit.filter (fun t => t.1 != p) }))).setSyncBusy p false

/-- SYNC_BUSY of a page of the cellar. -/
abbrev syncBusyOf (p : Nat) : Fld := if p = pg .rtc then F.RTC.STATUS_SYNC_BUSY else F.CELLAR.STATUS_SYNC_BUSY

section Landing
variable (d : Dev) (m : Master) (p ofs : Nat) (w : Word)

theorem cel_setSyncBusy (b : Bool) : (d.setSyncBusy p b).cel = d.cel := by simp [setSyncBusy]

theorem mem_setSyncBusy (b : Bool) : (d.setSyncBusy p b).mem = d.mem := by simp [setSyncBusy]

theorem keys_setSyncBusy (b : Bool) : (d.setSyncBusy p b).keys = d.keys := by simp [setSyncBusy]

theorem cel_landing (h : d.cel.transit = []) : (d.landing m p ofs w).cel = d.cel := by
  have hcel : (d.landing m p ofs w).cel = { d.cel with transit := ((p, m, ofs, w) :: d.cel.transit).filter (fun t => t.1 != p) } := by
    simp [landing, setSyncBusy, done]
  rw [hcel, h, List.filter_cons_of_neg (by simp)]
  show { d.cel with transit := [] } = d.cel
  rw [← h]

theorem mem_landing : (d.landing m p ofs w).mem = d.mem := by
  rw [landing, mem_setSyncBusy]
  exact mem_setSyncBusy _ p true

theorem keys_landing : (d.landing m p ofs w).keys = d.keys := by
  rw [landing, keys_setSyncBusy]
  exact keys_setSyncBusy _ p true

theorem bus_landing : (d.landing m p ofs w).bus = .done := by simp [landing, setSyncBusy, done]

theorem now_landing : (d.landing m p ofs w).now = d.now := by simp [landing, setSyncBusy, done]

theorem pageRegs_landing {q : Nat} (h : q ≠ p) : (d.landing m p ofs w).pageRegs q = d.pageRegs q := by
  have hofs : (syncBusyOf p).ofs < 0x1000 := by
    unfold syncBusyOf
    split <;> decide
  exact (pageRegs_setFlag _ _ ⟨h, hofs⟩).trans (pageRegs_setFlag (d.modCel _) _ ⟨h, hofs⟩)

theorem reg_landing {o : Nat} (h : o ≠ R.HDR.STATUS) : (d.landing m p ofs w).reg p o = d.reg p o := by
  have hofs : o ≠ (syncBusyOf p).ofs := by
    unfold syncBusyOf
    split <;> exact h
  exact (reg_setFlag_apart _ _ hofs).trans (reg_setFlag_apart (d.modCel _) _ hofs)

theorem fld_landing {g : Fld} (h : FieldsApart g (syncBusyOf p)) : (d.landing m p ofs w).fld p g = d.fld p g :=
  (fld_setFlag_apart _ _ h).trans (fld_setFlag_apart (d.modCel _) _ h)

theorem flag_landing {g : Fld} (h : FieldsApart g (syncBusyOf p)) : (d.landing m p ofs w).flag p g = d.flag p g :=
  flag_of_fld (d.fld_landing m p ofs w h)

end Landing

theorem cellarSync_idle {d : Dev} (h : d.cel.transit = []) (p n : Nat) : d.cellarSync p n = d := by
  simp only [cellarSync, h, List.find?_nil]

/-- A write that finds none in transit, and makes no capture, goes into transit. -/
theorem cellarWrite_idle {d : Dev} (h : d.cel.transit = []) (m : Master) {p ofs : Nat} {w : Word}
    (hcap : ¬ (p = pg .rtc ∧ ofs = R.RTC.CMD ∧ bitAt w.toNat 3 = true)) (n : Nat) : d.cellarWrite m p ofs w n =
      (d.modCel (fun c => { c with transit := (p, m, ofs, w) :: c.transit })).setSyncBusy p true := by
  simp only [cellarWrite, cellarSync_idle h, if_neg hcap]

/-- The only write in transit lands. -/
theorem cellarSync_only (d : Dev) (m : Master) (p ofs : Nat) (w : Word) (n : Nat) :
    (((d.modCel (fun c => { c with transit := (p, m, ofs, w) :: c.transit })).setSyncBusy p true).done).cellarSync p n =
      (d.landing m p ofs w).cellarLand m p ofs w n := by
  have hfind : (((d.modCel (fun c => { c with transit := (p, m, ofs, w) :: c.transit })).setSyncBusy p true).done).cel.transit.find?
      (fun t => t.1 == p) = some (p, m, ofs, w) := by
    simp [setSyncBusy, done]
  rw [cellarSync, hfind]
  rfl

/-- A permitted write of a page of the cellar with its landing, once the write itself has gone into transit on `e`. -/
theorem cellarNow_lands {d e : Dev} {m : Master} {k : PageKind} {ofs : Nat} {w v : Word} {n : Nat} (h : d.CanWrite m k 0 ofs)
    (ho : ofs < 0x1000) (hwrite : d.regWrite m k 0 ofs w { ticks := n } =
      (e.modCel (fun c => { c with transit := (pg k, m, ofs, v) :: c.transit })).setSyncBusy (pg k) true) :
    d.cellarNow m k ofs w n = (e.landing m (pg k) ofs v).cellarLand m (pg k) ofs v n := by
  have hport := portWrite_eq h w { ticks := n } ho
  rw [hwrite] at hport
  have hgo : d.busLive = true ∧ (d.portWrite m k 0 ofs w { ticks := n }).bus = .done := by
    rw [hport]
    exact ⟨h.live, rfl⟩
  simp only [cellarNow, if_pos hgo]
  rw [hport, cellarSync_only]

/-- A permitted write of the RTC page lands at once where none is in transit and it makes no capture. -/
theorem cellarNow_rtc {d : Dev} {m : Master} {ofs : Nat} (h : d.CanWrite m .rtc 0 ofs) (ho : 0x100 ≤ ofs ∧ ofs < 0x800)
    (hidle : d.cel.transit = []) {w : Word} (hcap : ¬ (ofs = R.RTC.CMD ∧ bitAt w.toNat 3 = true)) (n : Nat) :
    d.cellarNow m .rtc ofs w n = (d.landing m (pg .rtc) ofs w).rtcLand m ofs w n := by
  have hwrite : d.regWrite m .rtc 0 ofs w { ticks := n } = d.cellarWrite m (pg .rtc) ofs w n :=
    regWrite_block (by decide) (by decide) d m 0 ho w _
  refine (cellarNow_lands h (by omega) (hwrite.trans (cellarWrite_idle hidle m (fun hc => hcap hc.2) n))).trans ?_
  exact if_pos rfl

/-- A write of 0 to CMD gives no command. -/
theorem rtcLand_none (d : Dev) (m : Master) (n : Nat) : d.rtcLand m R.RTC.CMD 0 n = d := by
  have hbit : ∀ i < 4, bitAt (0 : Word).toNat i = false := by decide
  rw [rtcLand, if_pos rfl]
  simp only [hbit 0 (by decide), hbit 1 (by decide), hbit 2 (by decide), hbit 3 (by decide), Bool.false_eq_true, if_false]

/-- A capture is made on the clock of its write, and nothing of it lands later. -/
theorem cellarNow_capture {d : Dev} {m : Master} (h : d.CanWrite m .rtc 0 R.RTC.CMD) (hidle : d.cel.transit = []) (n : Nat) :
    d.cellarNow m .rtc R.RTC.CMD 8 n = (d.measCapture 1 n d.nref).landing m (pg .rtc) R.RTC.CMD 0 := by
  have hwrite : d.regWrite m .rtc 0 R.RTC.CMD 8 { ticks := n } = d.cellarWrite m (pg .rtc) R.RTC.CMD 8 n :=
    regWrite_block (by decide) (by decide) d m 0 (by decide) 8 _
  have hbit : bitAt (8 : Word).toNat 3 = true := by decide
  have htransit : d.cellarWrite m (pg .rtc) R.RTC.CMD 8 n = ((d.measCapture 1 n d.nref).modCel
      (fun c => { c with transit := (pg .rtc, m, R.RTC.CMD, (0 : Word)) :: c.transit })).setSyncBusy (pg .rtc) true := by
    simp only [cellarWrite, cellarSync_idle hidle, hbit, and_self, if_true]
    rfl
  refine (cellarNow_lands h (by decide) (hwrite.trans htransit)).trans ?_
  exact (if_pos rfl).trans (rtcLand_none _ m n)

/-- PWRON_CTRL lands at once where no write is in transit. -/
theorem cellarNow_pwronCtrl {d : Dev} {m : Master} (h : d.CanWrite m .cellar 0 R.CELLAR.PWRON_CTRL) (hidle : d.cel.transit = []) (w : Word) :
    d.cellarNow m .cellar R.CELLAR.PWRON_CTRL w 0 = (d.landing m (pg .cellar) R.CELLAR.PWRON_CTRL w).pwronCtrl w := by
  have hwrite : d.regWrite m .cellar 0 R.CELLAR.PWRON_CTRL w { ticks := 0 } = d.cellarWrite m (pg .cellar) R.CELLAR.PWRON_CTRL w 0 :=
    regWrite_block (by decide) (by decide) d m 0 (by decide) w _
  refine (cellarNow_lands h (by decide) (hwrite.trans (cellarWrite_idle hidle m (fun hc => absurd hc.1 (by decide)) 0))).trans ?_
  exact (if_neg (by decide)).trans (if_pos rfl)

/-! ## A field of a number built of parts -/

theorem bitsOf_eq_div (n lo w : Nat) : bitsOf n lo w = n / 2 ^ lo % 2 ^ w := by
  rw [bitsOf, Nat.shiftRight_eq_div_pow]

end Dev
end Sys2Proof.Machine
end

section
/-!
PROOFS. The calendar and its trim (R369–R376, R378, R381–R383).
-/
namespace Sys2Proof.Machine

/-! ## Calendar times -/

/-- A time whose fields fit the fields of the calendar's registers. -/
def CalTime.Fits (t : CalTime) : Prop := t.sec < 64 ∧ t.min < 64 ∧ t.hour < 32 ∧ t.day < 32 ∧ t.month < 16 ∧ t.year < 512

theorem monthDays_le (y m : Nat) : monthDays y m ≤ 31 := by
  unfold monthDays
  split <;> split <;> omega

theorem CalTime.ok_ranges {t : CalTime} (h : t.ok = true) : t.sec ≤ 59 ∧ t.min ≤ 59 ∧ t.hour ≤ 23 ∧ 1 ≤ t.month ∧ t.month ≤ 12 ∧ t.year ≤ 399 ∧
    1 ≤ t.day ∧ t.day ≤ 31 := by
  simp only [CalTime.ok, Bool.and_eq_true, decide_eq_true_eq] at h
  have hday := monthDays_le t.year t.month
  omega

theorem CalTime.fits_of_ok {t : CalTime} (h : t.ok = true) : t.Fits := by
  have := CalTime.ok_ranges h
  unfold CalTime.Fits
  omega

/-- The second after a time that exists fits, too. -/
theorem CalTime.fits_next {t : CalTime} (h : t.ok = true) : t.next.Fits := by
  have hr := CalTime.ok_ranges h
  have hday := monthDays_le t.year t.month
  unfold CalTime.next
  split
  · simp only [CalTime.Fits]; omega
  · split
    · simp only [CalTime.Fits]; omega
    · split
      · simp only [CalTime.Fits]; omega
      · split
        · simp only [CalTime.Fits]; omega
        · split
          · simp only [CalTime.Fits]; omega
          · simp only [CalTime.Fits]; split <;> omega

theorem foldl_monthDays_le (y : Nat) : ∀ (l : List Nat) (a : Nat), l.foldl (fun (a : Nat) i => a + monthDays y (i + 1)) a ≤ a + 31 * l.length
  | [], a => by simp
  | i :: l, a => by
    have hrest := foldl_monthDays_le y l (a + monthDays y (i + 1))
    have hday := monthDays_le y (i + 1)
    simp only [List.foldl_cons, List.length_cons]
    omega

/-- The seconds of a calendar time fit the linear count. -/
theorem CalTime.seconds_lt {t : CalTime} (h : t.ok = true) : t.seconds < 2 ^ 48 := by
  have hr := CalTime.ok_ranges h
  have hmonths := foldl_monthDays_le t.year (List.range (t.month - 1)) 0
  rw [List.length_range] at hmonths
  simp only [CalTime.seconds, dayNumber, yearStart]
  omega

namespace Dev

/-! ## The registers of the calendar -/

/-- What the calendar reads is in SEC, TIME and DATE. -/
theorem calTime_of_regs {d e : Dev} (h : ∀ o ∈ [R.RTC.SEC, R.RTC.TIME, R.RTC.DATE], e.reg (pg .rtc) o = d.reg (pg .rtc) o) :
    e.calTime = d.calTime := by
  have hsec : e.reg (pg .rtc) R.RTC.SEC = d.reg (pg .rtc) R.RTC.SEC := h _ (by decide)
  have htime : e.reg (pg .rtc) R.RTC.TIME = d.reg (pg .rtc) R.RTC.TIME := h _ (by decide)
  have hdate : e.reg (pg .rtc) R.RTC.DATE = d.reg (pg .rtc) R.RTC.DATE := h _ (by decide)
  have hf : ∀ (f : Fld), e.reg (pg .rtc) f.ofs = d.reg (pg .rtc) f.ofs → e.fld (pg .rtc) f = d.fld (pg .rtc) f := fun f => fld_of_reg
  simp only [calTime, hf F.RTC.SEC_SEC hsec, hf F.RTC.TIME_MIN htime, hf F.RTC.TIME_HOUR htime, hf F.RTC.DATE_DAY hdate,
    hf F.RTC.DATE_MONTH hdate, hf F.RTC.DATE_YEAR hdate]

theorem linear_of_regs {d e : Dev} (hlo : e.reg (pg .rtc) R.RTC.LINEAR = d.reg (pg .rtc) R.RTC.LINEAR)
    (hhi : e.reg (pg .rtc) R.RTC.LINEAR_HI = d.reg (pg .rtc) R.RTC.LINEAR_HI) : e.linear = d.linear := by
  simp only [linear, hlo, hhi]

theorem linear_setLinear (d : Dev) (n : Nat) : (d.setLinear n).linear = n % 2 ^ 48 := by
  have hlo : (d.setLinear n).reg (pg .rtc) R.RTC.LINEAR = BitVec.ofNat 32 n := by
    rw [setLinear, reg_setReg_apart _ _ (by decide), reg_setReg_self]
  have hhi : (d.setLinear n).reg (pg .rtc) R.RTC.LINEAR_HI = BitVec.ofNat 32 (n / 4294967296 % 65536) := by
    rw [setLinear, reg_setReg_self]
  simp only [linear, hlo, hhi, BitVec.toNat_ofNat]
  omega

theorem reg_setLinear_apart (d : Dev) (n : Nat) {o : Nat} (h : o ≠ R.RTC.LINEAR ∧ o ≠ R.RTC.LINEAR_HI) :
    (d.setLinear n).reg (pg .rtc) o = d.reg (pg .rtc) o := by
  rw [setLinear, reg_setReg_apart _ _ h.2, reg_setReg_apart _ _ h.1]

theorem reg_setCal_apart (d : Dev) (t : CalTime) {o : Nat} (h : o ≠ R.RTC.SEC ∧ o ≠ R.RTC.TIME ∧ o ≠ R.RTC.DATE) :
    (d.setCal t).reg (pg .rtc) o = d.reg (pg .rtc) o := by
  simp only [setCal]
  rw [reg_setReg_apart _ _ h.2.2, reg_setReg_apart _ _ h.2.1, reg_setReg_apart _ _ h.1]

/-- The registers of the calendar set to a time. -/
theorem setCal_regs (d : Dev) (t : CalTime) : (d.setCal t).reg (pg .rtc) R.RTC.SEC = BitVec.ofNat 32 t.sec ∧
    (d.setCal t).reg (pg .rtc) R.RTC.TIME = BitVec.ofNat 32 (t.min + 256 * t.hour) ∧
    (d.setCal t).reg (pg .rtc) R.RTC.DATE = BitVec.ofNat 32
      (t.day + 256 * t.month + 65536 * t.year + 268435456 * weekday (dayNumber t.year t.month t.day)) := by
  simp only [setCal]
  refine ⟨?_, ?_, reg_setReg_self ..⟩
  · rw [reg_setReg_apart _ _ (by decide), reg_setReg_apart _ _ (by decide), reg_setReg_self]
  · rw [reg_setReg_apart _ _ (by decide), reg_setReg_self]

theorem setCal_reads (d : Dev) {t : CalTime} (h : t.Fits) : (d.setCal t).calTime = t ∧ (d.setCal t).fld (pg .rtc) F.RTC.SEC_SUB = 0 ∧
    (d.setCal t).fld (pg .rtc) F.RTC.DATE_WDAY = weekday (dayNumber t.year t.month t.day) := by
  obtain ⟨hsec, htime, hdate⟩ := d.setCal_regs t
  obtain ⟨h1, h2, h3, h4, h5, h6⟩ := h
  have hw : weekday (dayNumber t.year t.month t.day) < 7 := Nat.mod_lt _ (by decide)
  have hfld : ∀ f : Fld, (d.setCal t).fld (pg .rtc) f = ((d.setCal t).reg (pg .rtc) f.ofs).toNat / 2 ^ f.lo % 2 ^ f.w := fun f =>
    bitsOf_eq_div _ _ _
  have hreads : (d.setCal t).fld (pg .rtc) F.RTC.SEC_SEC = t.sec ∧ (d.setCal t).fld (pg .rtc) F.RTC.SEC_SUB = 0 ∧
      (d.setCal t).fld (pg .rtc) F.RTC.TIME_MIN = t.min ∧ (d.setCal t).fld (pg .rtc) F.RTC.TIME_HOUR = t.hour ∧
      (d.setCal t).fld (pg .rtc) F.RTC.DATE_DAY = t.day ∧ (d.setCal t).fld (pg .rtc) F.RTC.DATE_MONTH = t.month ∧
      (d.setCal t).fld (pg .rtc) F.RTC.DATE_YEAR = t.year ∧
      (d.setCal t).fld (pg .rtc) F.RTC.DATE_WDAY = weekday (dayNumber t.year t.month t.day) := by
    generalize weekday (dayNumber t.year t.month t.day) = k at hdate hw ⊢
    simp only [hfld]
    simp only [F.RTC.SEC_SEC, F.RTC.SEC_SUB, F.RTC.TIME_MIN, F.RTC.TIME_HOUR, F.RTC.DATE_DAY, F.RTC.DATE_MONTH, F.RTC.DATE_YEAR,
      F.RTC.DATE_WDAY]
    simp only [R.RTC.SEC, R.RTC.TIME, R.RTC.DATE] at hsec htime hdate
    simp only [hsec, htime, hdate, BitVec.toNat_ofNat]
    omega
  obtain ⟨rsec, rsub, rmin, rhour, rday, rmonth, ryear, rwday⟩ := hreads
  exact ⟨by simp only [calTime, rsec, rmin, rhour, rday, rmonth, ryear], rsub, rwday⟩

/-! ## The alarms (R381–R383) -/

/-- Neither alarm is armed. -/
abbrev AlarmsOff (d : Dev) : Prop :=
  d.flag (pg .rtc) F.RTC.ALARM_CFG_CAL_EN = false ∧ d.flag (pg .rtc) F.RTC.ALARM_CFG_LIN_EN = false

theorem regs_alarms_off {d : Dev} (h : d.AlarmsOff) : d.alarms.regs = d.regs := by
  obtain ⟨hcal, hlin⟩ := h
  simp only [alarms, hcal, hlin, Bool.false_and, Bool.false_eq_true, if_false]
  split <;> rfl

theorem alarmsOff_of_reg {d e : Dev} (h : e.reg (pg .rtc) R.RTC.ALARM_CFG = d.reg (pg .rtc) R.RTC.ALARM_CFG) (hoff : d.AlarmsOff) :
    e.AlarmsOff :=
  ⟨(flag_of_fld (f := F.RTC.ALARM_CFG_CAL_EN) (fld_of_reg h)).trans hoff.1,
    (flag_of_fld (f := F.RTC.ALARM_CFG_LIN_EN) (fld_of_reg h)).trans hoff.2⟩

/-- The calendar alarm alone is armed, without a wake event and without PWRON. -/
abbrev CalAlarmAlone (d : Dev) : Prop := d.calValid = true ∧ d.flag (pg .rtc) F.RTC.ALARM_CFG_CAL_EN = true ∧
  d.flag (pg .rtc) F.RTC.ALARM_CFG_LIN_EN = false ∧ d.flag (pg .rtc) F.RTC.ALARM_CFG_CAL_WAKE = false ∧
  d.flag (pg .rtc) F.RTC.ALARM_CFG_CAL_PWRON = false ∧ d.cel.calMatch = false

/-- The calendar alarm that has fired. -/
def calAlarmFired (d : Dev) : Dev :=
  (((d.modCel (fun c => { c with calMatch := true })).setFlag (pg .rtc) F.RTC.FLAGS_CAL_ALARM true).event (pg .rtc) F.RTC.EVENT_ALARM).bump
    (pg .rtc) R.RTC.ALARMS

theorem alarms_fires {d : Dev} (h : d.CalAlarmAlone) (hmatch : d.calMatches = true) : d.alarms = d.calAlarmFired := by
  obtain ⟨hvalid, hcal, hlin, hwake, hpwron, hno⟩ := h
  simp only [alarms, hvalid, if_true, hcal, hmatch, hlin, hno, Bool.and_self, Bool.not_false, Bool.false_and, Bool.false_eq_true, if_false,
    flag_modCel, hwake, hpwron, alarmFires]
  rfl

theorem alarms_none {d : Dev} (h : d.CalAlarmAlone) (hmatch : d.calMatches = false) :
    d.alarms = d.modCel (fun c => { c with calMatch := false }) := by
  obtain ⟨hvalid, -, hlin, -⟩ := h
  simp only [alarms, hvalid, if_true, hmatch, hlin, Bool.and_false, Bool.false_and, Bool.false_eq_true, if_false]

theorem calAlarmFired_spec (d : Dev) : d.calAlarmFired.flag (pg .rtc) F.RTC.FLAGS_CAL_ALARM = true ∧ d.calAlarmFired.cel.calMatch = true ∧
    d.calAlarmFired.reg (pg .rtc) R.RTC.ALARMS = d.reg (pg .rtc) R.RTC.ALARMS + 1 := by
  refine ⟨?_, by simp [calAlarmFired], ?_⟩
  · simp (disch := decide) only [calAlarmFired, reads_apart_reg, reads_apart, reads_self]
  · simp (disch := decide) only [calAlarmFired, reg_bump_self, reads_ofs, reg_modCel]
    rfl

/-! ## The second rolls over (R370, R371, R376) -/

/-- The next second in the calendar, and the wrap of its epoch marked. -/
def calRolled (d : Dev) : Dev :=
  if d.calTime = ⟨59, 59, 23, 31, 12, 399⟩ then (d.setCal d.calTime.next).setFlag (pg .rtc) F.RTC.FLAGS_EPOCH_WRAP true
  else d.setCal d.calTime.next

/-- The linear count beside it, where the calendar is valid. -/
def rolled (d : Dev) : Dev := if d.calRolled.calValid then d.calRolled.setLinear (d.calRolled.linear + 1) else d.calRolled

theorem secondRollover_eq (d : Dev) : d.secondRollover = d.rolled.alarms := rfl

theorem reg_calRolled (d : Dev) {o : Nat} (h : o ≠ R.RTC.FLAGS) : d.calRolled.reg (pg .rtc) o = (d.setCal d.calTime.next).reg (pg .rtc) o := by
  rw [calRolled]
  split
  · exact reg_setFlag_apart _ _ h
  · rfl

theorem reg_rolled (d : Dev) {o : Nat} (h : o ≠ R.RTC.LINEAR ∧ o ≠ R.RTC.LINEAR_HI) : d.rolled.reg (pg .rtc) o = d.calRolled.reg (pg .rtc) o := by
  rw [rolled]
  split
  · exact reg_setLinear_apart _ _ h
  · rfl

/-- A register that the roll-over does not concern. -/
theorem reg_rolled_apart (d : Dev) {o : Nat} (h : o ≠ R.RTC.LINEAR ∧ o ≠ R.RTC.LINEAR_HI) (hf : o ≠ R.RTC.FLAGS)
    (hc : o ≠ R.RTC.SEC ∧ o ≠ R.RTC.TIME ∧ o ≠ R.RTC.DATE) : d.rolled.reg (pg .rtc) o = d.reg (pg .rtc) o := by
  rw [reg_rolled d h, reg_calRolled d hf, reg_setCal_apart _ _ hc]

theorem calValid_calRolled (d : Dev) : d.calRolled.calValid = d.calValid := by
  refine flag_of_fld (fld_of_reg ?_)
  rw [reg_calRolled d (by decide), reg_setCal_apart _ _ (by decide)]

theorem linear_rolled (d : Dev) : d.rolled.linear = if d.calValid then (d.linear + 1) % 2 ^ 48 else d.linear := by
  have hlinear : d.calRolled.linear = d.linear := linear_of_regs
    (by rw [reg_calRolled d (by decide), reg_setCal_apart _ _ (by decide)]) (by rw [reg_calRolled d (by decide), reg_setCal_apart _ _ (by decide)])
  rw [rolled, calValid_calRolled]
  split
  · rw [linear_setLinear, hlinear]
  · exact hlinear

theorem secondRollover_spec {d : Dev} (hoff : d.AlarmsOff) (hok : d.calTime.ok = true) : d.secondRollover.calTime = d.calTime.next ∧
    d.secondRollover.fld (pg .rtc) F.RTC.SEC_SUB = 0 ∧
    d.secondRollover.fld (pg .rtc) F.RTC.DATE_WDAY = weekday (dayNumber d.calTime.next.year d.calTime.next.month d.calTime.next.day) ∧
    d.secondRollover.linear = (if d.calValid then (d.linear + 1) % 2 ^ 48 else d.linear) ∧
    (d.calTime = ⟨59, 59, 23, 31, 12, 399⟩ → d.secondRollover.flag (pg .rtc) F.RTC.FLAGS_EPOCH_WRAP = true) := by
  have hoff' : d.rolled.AlarmsOff := alarmsOff_of_reg (reg_rolled_apart d (by decide) (by decide) (by decide)) hoff
  have hreg : ∀ o, d.secondRollover.reg (pg .rtc) o = d.rolled.reg (pg .rtc) o := fun o => reg_of_regs (regs_alarms_off hoff') _ o 0
  have hcal : ∀ o ∈ [R.RTC.SEC, R.RTC.TIME, R.RTC.DATE],
      d.secondRollover.reg (pg .rtc) o = (d.setCal d.calTime.next).reg (pg .rtc) o := fun o ho => by
    simp only [List.mem_cons, List.not_mem_nil, or_false] at ho
    rw [hreg, reg_rolled d (by rcases ho with rfl | rfl | rfl <;> decide), reg_calRolled d (by rcases ho with rfl | rfl | rfl <;> decide)]
  obtain ⟨htime, hsub, hwday⟩ := d.setCal_reads (CalTime.fits_next hok)
  refine ⟨(calTime_of_regs hcal).trans htime, (fld_of_reg (hcal _ (by decide))).trans hsub, (fld_of_reg (hcal _ (by decide))).trans hwday,
    (linear_of_regs (hreg _) (hreg _)).trans d.linear_rolled, fun hwrap => ?_⟩
  refine (flag_of_fld (fld_of_reg ((hreg _).trans (d.reg_rolled (by decide))))).trans ?_
  rw [calRolled, if_pos hwrap]
  exact flag_setFlag_self _ _ _ true (by decide) (by decide)

/-! ## Commits (R372, R374, R375) -/

/-- A commit accepted, before the alarms are judged. -/
def committed (d : Dev) : Dev :=
  let e := d.setFlag (pg .rtc) F.RTC.STATUS_COMMIT_PEND false
  (((((e.setCal d.stageTime).setLinear d.stageTime.seconds).setReg (pg .rtc) R.RTC.SET_DELTA (BitVec.ofNat 32
    (if !e.calValid then 0 else ofSigned 32 (clampI ((d.stageTime.seconds : Int) - (e.linear : Int)) (-2147483647) 2147483647)))).setFlag
      (pg .rtc) F.RTC.STATUS_CAL_VALID true).bump (pg .rtc) R.RTC.COMMITS).event (pg .rtc) F.RTC.EVENT_COMMITTED

/-- A commit rejected. -/
def rejected (d : Dev) : Dev :=
  (((d.setFlag (pg .rtc) F.RTC.STATUS_COMMIT_PEND false).setFlag (pg .rtc) F.RTC.FLAGS_DATE_ERR true).event (pg .rtc)
    F.RTC.EVENT_REJECTED).bump (pg .rtc) R.RTC.REJECTS

section Commit
variable {d : Dev} (hpend : d.flag (pg .rtc) F.RTC.STATUS_COMMIT_PEND = true)
include hpend

theorem commitApply_taken (hok : d.stageTime.ok = true) : d.commitApply = d.committed.alarms := by
  simp only [commitApply, hpend, if_true, hok]
  rfl

theorem commitApply_rejected (hok : d.stageTime.ok = false) : d.commitApply = d.rejected := by
  simp only [commitApply, hpend, if_true, hok, Bool.false_eq_true, if_false]
  rfl

end Commit

/-- A register that a commit accepted leaves as the calendar and the linear count were set. -/
theorem reg_committed (d : Dev) {o : Nat} (h : o ≠ R.RTC.SET_DELTA ∧ o ≠ R.HDR.STATUS ∧ o ≠ R.RTC.COMMITS ∧ o ≠ R.HDR.EVENT) :
    d.committed.reg (pg .rtc) o =
      (((d.setFlag (pg .rtc) F.RTC.STATUS_COMMIT_PEND false).setCal d.stageTime).setLinear d.stageTime.seconds).reg (pg .rtc) o := by
  obtain ⟨hdelta, hstatus, hcount, hevent⟩ := h
  simp only [committed]
  rw [reg_event_apart _ hevent, (reads_reg _ hcount).2, reg_setFlag_apart _ _ hstatus, reg_setReg_apart _ _ hdelta]

theorem committed_spec {d : Dev} (hoff : d.AlarmsOff) (hok : d.stageTime.ok = true) : let t := d.committed.alarms
    t.calTime = d.stageTime ∧ t.linear = d.stageTime.seconds ∧ t.calValid = true ∧
      t.flag (pg .rtc) F.RTC.STATUS_COMMIT_PEND = false ∧ t.reg (pg .rtc) R.RTC.COMMITS = d.reg (pg .rtc) R.RTC.COMMITS + 1 ∧
      (d.calValid = false → t.reg (pg .rtc) R.RTC.SET_DELTA = 0) ∧ t.mem = d.mem ∧ t.keys = d.keys := by
  intro t
  have hoff' : d.committed.AlarmsOff := alarmsOff_of_reg ((reg_committed d (by decide)).trans ((reg_setLinear_apart _ _ (by decide)).trans
    ((reg_setCal_apart _ _ (by decide)).trans (reg_setFlag_apart _ _ (by decide))))) hoff
  have hreg : ∀ o, t.reg (pg .rtc) o = d.committed.reg (pg .rtc) o := fun o => reg_of_regs (regs_alarms_off hoff') _ o 0
  have hflag : ∀ f, t.flag (pg .rtc) f = d.committed.flag (pg .rtc) f := fun f => flag_of_fld (fld_of_reg (hreg f.ofs))
  have hcal : ∀ o ∈ [R.RTC.SEC, R.RTC.TIME, R.RTC.DATE], t.reg (pg .rtc) o =
      ((d.setFlag (pg .rtc) F.RTC.STATUS_COMMIT_PEND false).setCal d.stageTime).reg (pg .rtc) o := fun o ho => by
    simp only [List.mem_cons, List.not_mem_nil, or_false] at ho
    rw [hreg, reg_committed d (by rcases ho with rfl | rfl | rfl <;> decide),
      reg_setLinear_apart _ _ (by rcases ho with rfl | rfl | rfl <;> decide)]
  have hvalid : (d.setFlag (pg .rtc) F.RTC.STATUS_COMMIT_PEND false).calValid = d.calValid := flag_setFlag_apart d false (by decide)
  have hstatus : ∀ e : Dev, ∀ f : Fld, f.ofs = R.HDR.STATUS → ((e.setCal d.stageTime).setLinear d.stageTime.seconds).flag (pg .rtc) f =
      e.flag (pg .rtc) f := fun e f hf => flag_of_fld (fld_of_reg ((reg_setLinear_apart _ _ (by rw [hf]; decide)).trans
        (reg_setCal_apart _ _ (by rw [hf]; decide))))
  refine ⟨?_, ?_, ?_, ?_, ?_, fun hfirst => ?_, by simp [t, committed], by simp [t, committed]⟩
  · exact (calTime_of_regs hcal).trans (setCal_reads _ (CalTime.fits_of_ok hok)).1
  · refine (linear_of_regs ((hreg _).trans (reg_committed d (by decide))) ((hreg _).trans (reg_committed d (by decide)))).trans ?_
    rw [linear_setLinear]
    exact Nat.mod_eq_of_lt (CalTime.seconds_lt hok)
  · refine (hflag _).trans ?_
    simp (disch := decide) only [committed, reads_apart, reads_apart_reg, reads_self]
  · refine (hflag _).trans ?_
    simp (disch := decide) only [committed, reads_apart, reads_apart_reg]
    rw [hstatus _ _ (by decide)]
    exact flag_setFlag_self _ _ _ false (by decide) (by decide)
  · rw [hreg]
    simp (disch := decide) only [committed, reads_ofs, reg_bump_self, reads_reg]
    rw [reg_setLinear_apart _ _ (by decide), reg_setCal_apart _ _ (by decide), reg_setFlag_apart _ _ (by decide)]
    rfl
  · rw [hreg]
    simp (disch := decide) only [committed, reads_ofs, reads_reg, reg_setReg_self, hvalid, hfirst, Bool.not_false, if_true]
    rfl

theorem rejected_spec (d : Dev) : d.rejected.calTime = d.calTime ∧ d.rejected.linear = d.linear ∧
    d.rejected.flag (pg .rtc) F.RTC.FLAGS_DATE_ERR = true ∧ d.rejected.flag (pg .rtc) F.RTC.EVENT_REJECTED = true ∧
    d.rejected.flag (pg .rtc) F.RTC.STATUS_COMMIT_PEND = false ∧
    d.rejected.reg (pg .rtc) R.RTC.REJECTS = d.reg (pg .rtc) R.RTC.REJECTS + 1 ∧ d.rejected.mem = d.mem ∧ d.rejected.keys = d.keys := by
  have hreg : ∀ o, o ≠ R.RTC.REJECTS ∧ o ≠ R.HDR.EVENT ∧ o ≠ R.RTC.FLAGS ∧ o ≠ R.HDR.STATUS →
      d.rejected.reg (pg .rtc) o = d.reg (pg .rtc) o := by
    rintro o ⟨hcount, hevent, hflags, hstatus⟩
    rw [rejected, (reads_reg _ hcount).2, reg_event_apart _ hevent, reg_setFlag_apart _ _ hflags, reg_setFlag_apart _ _ hstatus]
  refine ⟨calTime_of_regs fun o ho => hreg o ?_, linear_of_regs (hreg _ (by decide)) (hreg _ (by decide)), ?_, ?_, ?_, ?_, by simp [rejected],
    by simp [rejected]⟩
  · simp only [List.mem_cons, List.not_mem_nil, or_false] at ho
    rcases ho with rfl | rfl | rfl <;> decide
  · simp (disch := decide) only [rejected, reads_apart_reg, reads_apart, reads_self]
  · simp (disch := decide) only [rejected, reads_apart_reg, reads_self]
  · simp (disch := decide) only [rejected, reads_apart_reg, reads_apart, reads_self]
  · simp (disch := decide) only [rejected, reg_bump_self, reads_ofs]
    rfl

/-! ## A read of SEC (R373) -/

/-- A master's own copy of a register of the calendar is another word than the register, and than any other copy of it. -/
theorem regKey_bank_ne {o o' b b' : Nat} (ho : o < 0x1000 ∧ o' < 0x1000) (h : o ≠ o' ∨ b ≠ b') :
    regKey (pg .rtc) o b ≠ regKey (pg .rtc) o' b' := by
  simp only [regKey, pg, PageKind.first]
  omega

/-- The registers of the calendar copied for a master of class `bank`, one after the other. -/
theorem each_copy (bank : Nat) (hbank : bank ≠ 0) : ∀ (l : List Nat) (d : Dev), (∀ o ∈ l, o < 0x1000) →
    (∀ o < 0x1000, (d.each l fun e o => e.setReg (pg .rtc) o (e.reg (pg .rtc) o) bank).reg (pg .rtc) o = d.reg (pg .rtc) o) ∧
    (∀ o ∈ l, (d.each l fun e o => e.setReg (pg .rtc) o (e.reg (pg .rtc) o) bank).reg (pg .rtc) o bank = d.reg (pg .rtc) o)
  | [], _, _ => ⟨fun _ _ => rfl, fun _ ho => by cases ho⟩
  | x :: l, d, hl => by
    have hx : x < 0x1000 := hl x List.mem_cons_self
    obtain ⟨hown, hcopy⟩ := each_copy bank hbank l (d.setReg (pg .rtc) x (d.reg (pg .rtc) x) bank)
      fun o ho => hl o (List.mem_cons_of_mem _ ho)
    have hkept : ∀ o < 0x1000, (d.setReg (pg .rtc) x (d.reg (pg .rtc) x) bank).reg (pg .rtc) o = d.reg (pg .rtc) o := fun o ho =>
      reg_setReg_other d (regKey_bank_ne ⟨ho, hx⟩ (.inr (Ne.symm hbank)))
    rw [each_cons]
    refine ⟨fun o ho => (hown o ho).trans (hkept o ho), fun o ho => ?_⟩
    by_cases hin : o ∈ l
    · exact (hcopy o hin).trans (hkept o (hl o (List.mem_cons_of_mem _ hin)))
    · obtain rfl : o = x := (List.mem_cons.mp ho).resolve_right hin
      refine (each_keeps (fun e => e.reg (pg .rtc) o bank) _ _ _ fun e y hy => reg_setReg_other e ?_).trans (reg_setReg_self ..)
      exact regKey_bank_ne ⟨hx, hl y (List.mem_cons_of_mem _ hy)⟩ (.inl fun heq => hin (heq ▸ hy))

theorem cls_pos (m : Master) : m.cls ≠ 0 := by cases m <;> decide

/-- The calendar latched by a read of SEC, which the bus answers with the master's copy of it. -/
def secAnswered (d : Dev) (m : Master) (sub : Nat) : Dev :=
  { d.secLatch m.cls sub with bus := .data ((d.secLatch m.cls sub).reg (pg .rtc) R.RTC.SEC m.cls) }

theorem regs_secAnswered (d : Dev) (m : Master) (sub : Nat) : (d.secAnswered m sub).regs = (d.secLatch m.cls sub).regs := by
  rw [secAnswered]

theorem secRead_latches {d : Dev} {m : Master} (h : d.CanRead m .rtc 0 R.RTC.SEC) (sub : Nat) :
    d.secRead m sub = d.secAnswered m sub := by
  have hreach : d.pageReached m (pageAddr (pg .rtc) R.RTC.SEC) false = some ⟨.rtc, 0⟩ := h.reached
  simp only [secRead, h.live, Bool.not_true, Bool.false_eq_true, if_false, hreach]
  rfl

theorem secAnswered_spec (d : Dev) (m : Master) {sub : Nat} (hsub : sub < 1024) : let t := d.secAnswered m sub
    t.fld (pg .rtc) F.RTC.SEC_SUB = sub ∧ t.fld (pg .rtc) F.RTC.SEC_SEC = d.fld (pg .rtc) F.RTC.SEC_SEC ∧
      t.bus = .data (t.reg (pg .rtc) R.RTC.SEC) ∧ t.reg (pg .rtc) R.RTC.SEC m.cls = t.reg (pg .rtc) R.RTC.SEC ∧
      (∀ o ∈ [R.RTC.TIME, R.RTC.DATE, R.RTC.LINEAR, R.RTC.LINEAR_HI], t.reg (pg .rtc) o m.cls = d.reg (pg .rtc) o) ∧ t.mem = d.mem ∧
      t.keys = d.keys := by
  intro t
  have hreg : ∀ o b, t.reg (pg .rtc) o b = (d.secLatch m.cls sub).reg (pg .rtc) o b := fun o b => reg_of_regs (d.regs_secAnswered m sub) _ o b
  obtain ⟨hown, hcopy⟩ := each_copy m.cls (cls_pos m) [R.RTC.SEC, R.RTC.TIME, R.RTC.DATE, R.RTC.LINEAR, R.RTC.LINEAR_HI]
    (d.setFld (pg .rtc) F.RTC.SEC_SUB sub) (by decide)
  have hsame : t.reg (pg .rtc) R.RTC.SEC m.cls = t.reg (pg .rtc) R.RTC.SEC := by
    rw [hreg, hreg]
    exact (hcopy _ (by decide)).trans (hown _ (by decide)).symm
  have hbus : t.bus = .data ((d.secLatch m.cls sub).reg (pg .rtc) R.RTC.SEC m.cls) := by simp only [t, secAnswered]
  refine ⟨?_, ?_, by rw [hbus, ← hsame, hreg], hsame, fun o ho => ?_, by simp [t, secAnswered],
    by simp [t, secAnswered]⟩
  · exact (fld_of_reg ((hreg _ 0).trans (hown _ (by decide)))).trans ((fld_setFld_self _ _ _ _ (by decide)).trans (Nat.mod_eq_of_lt hsub))
  · exact (fld_of_reg ((hreg _ 0).trans (hown _ (by decide)))).trans (fld_setFld_apart d _ (by decide))
  · refine (hreg _ _).trans ((hcopy o (List.mem_cons_of_mem _ ho)).trans (reg_setFld_apart d _ ?_))
    rintro rfl
    revert ho
    decide

/-! ## COMMIT and the trim (R374, R378) -/

theorem rtcLand_commit (d : Dev) (m : Master) (n : Nat) : d.rtcLand m R.RTC.CMD 1 n = d.commit := by
  have hbit : bitAt (1 : Word).toNat 0 = true ∧ bitAt (1 : Word).toNat 1 = false ∧ bitAt (1 : Word).toNat 2 = false ∧
      bitAt (1 : Word).toNat 3 = false := by decide
  obtain ⟨h0, h1, h2, h3⟩ := hbit
  rw [rtcLand, if_pos rfl]
  simp only [h0, h1, h2, h3, Bool.false_eq_true, if_true, if_false]

/-- A write found in transit to a page, taken out of it. -/
def arrived (d : Dev) (p : Nat) : Dev := (d.modCel (fun c => { c with transit := [] })).setSyncBusy p false

theorem cellarSync_arrives {d : Dev} {m : Master} {p ofs : Nat} {w : Word} (h : d.cel.transit = [(p, m, ofs, w)]) (n : Nat) :
    d.cellarSync p n = (d.arrived p).cellarLand m p ofs w n := by
  have hfind : d.cel.transit.find? (fun t => t.1 == p) = some (p, m, ofs, w) := by
    rw [h]
    exact List.find?_cons_of_pos (by simp)
  have hleft : d.modCel (fun c => { c with transit := c.transit.filter (fun t => t.1 != p) }) =
      d.modCel (fun c => { c with transit := [] }) := by
    have hempty : d.cel.transit.filter (fun t => t.1 != p) = [] := by rw [h, List.filter_cons_of_neg (by simp), List.filter_nil]
    simp only [modCel, hempty]
  rw [cellarSync, hfind]
  simp only [hleft]
  rfl

theorem commit_arrived_spec (d : Dev) : let t := (d.arrived (pg .rtc)).commit
    t.flag (pg .rtc) F.RTC.STATUS_COMMIT_PEND = true ∧ t.cel.transit = [] ∧ t.flag (pg .rtc) F.RTC.STATUS_SYNC_BUSY = false ∧
      t.mem = d.mem ∧ t.keys = d.keys := by
  intro t
  refine ⟨flag_setFlag_self _ _ _ true (by decide) (by decide), by simp [t, commit, arrived, setSyncBusy], ?_,
    by simp [t, commit, arrived, setSyncBusy], by simp [t, commit, arrived, setSyncBusy]⟩
  exact (flag_setFlag_apart _ true (by decide)).trans (flag_setFlag_self _ _ _ false (by decide) (by decide))

/-- The step by which a boundary advances the accumulator of the trim. -/
def trimStep (d : Dev) : Nat := (d.sfld (pg .rtc) F.RTC.TRIM_PPM).natAbs * 32

theorem trimCorrection_off {d : Dev} (h : d.trimStep = 0 ∨ d.flag (pg .rtc) F.RTC.STATUS_ON_RC = true) : d.trimCorrection = d := if_pos h

/-- The boundaries until the accumulator reaches 10^7. -/
def trimRun (d : Dev) : Nat := (10000000 - d.cel.trimAcc + d.trimStep - 1) / d.trimStep

/-- The device at the correction. -/
def trimCorrected (d : Dev) : Dev :=
  (d.bump (pg .rtc) R.RTC.CORRECTIONS).modCel (fun c => { c with trimAcc := d.cel.trimAcc + d.trimRun * d.trimStep - 10000000 })

theorem trimCorrection_due {d : Dev} (h : 0 < d.trimStep) (hon : d.flag (pg .rtc) F.RTC.STATUS_ON_RC = false) :
    d.trimCorrection = d.trimCorrected := by
  refine if_neg fun hc => ?_
  rcases hc with hzero | hrc
  · exact absurd hzero (by have : (d.sfld (pg .rtc) F.RTC.TRIM_PPM).natAbs * 32 = d.trimStep := rfl; omega)
  · simp [hon] at hrc

theorem corrections_trimCorrected (d : Dev) :
    d.trimCorrected.reg (pg .rtc) R.RTC.CORRECTIONS = d.reg (pg .rtc) R.RTC.CORRECTIONS + 1 := by
  rw [trimCorrected, reg_modCel, reg_bump_self]
  rfl

/-- The correction comes with the first boundary at which the accumulator reaches 10^7. -/
theorem trimRun_spec {d : Dev} (h : 0 < d.trimStep) (hacc : d.cel.trimAcc < 10000000) :
    d.cel.trimAcc + d.trimRun * d.trimStep = 10000000 + d.trimCorrected.cel.trimAcc ∧ d.trimCorrected.cel.trimAcc < d.trimStep := by
  have hcel : d.trimCorrected.cel.trimAcc = d.cel.trimAcc + d.trimRun * d.trimStep - 10000000 := rfl
  have hlo : 10000000 - d.cel.trimAcc ≤ d.trimRun * d.trimStep := by
    have := Nat.lt_div_mul_add h (a := 10000000 - d.cel.trimAcc + d.trimStep - 1)
    simp only [trimRun]
    omega
  have hhi : d.trimRun * d.trimStep ≤ 10000000 - d.cel.trimAcc + d.trimStep - 1 := Nat.div_mul_le_self _ _
  rw [hcel]
  omega

end Dev

/-- Settles O41: writes that land, the roll-over and the commit by the registers that they set, the alarm, and the trim. -/
theorem calendarRuns : Obligations.CalendarRuns := by
  unfold Obligations.CalendarRuns
  intro d m p quiet
  refine ⟨fun r n h => Runs.dev (fun _ => rfl) (Dev.cellarSync_idle h _ _), ?lands, ?cellar, ?commit, ?read, ?roll,
    fun h => Runs.dev (fun _ => rfl) (if_neg (by simp [p] at h; simp [h])), ?taken, ?rejected, ?alarm, ?trim⟩
  case lands =>
    intro n h
    refine ⟨_, Runs.dev (fun _ => rfl) ((Dev.cellarSync_arrives h n.toNat).trans ((if_pos rfl).trans (Dev.rtcLand_commit _ m _))), ?_⟩
    exact d.commit_arrived_spec
  case cellar =>
    intro n ofs w h hctrl
    exact Runs.dev (fun _ => rfl) ((Dev.cellarSync_arrives h n.toNat).trans ((if_neg (by decide)).trans (if_neg hctrl)))
  case commit =>
    intro h hidle
    have hland := Dev.cellarNow_rtc h (by decide) hidle (w := 1) (by decide) 0
    refine ⟨_, Runs.dev (fun _ => rfl) (hland.trans (Dev.rtcLand_commit _ m 0)), ?_, ?_, ?_, ?_, ?_⟩
    · exact Dev.flag_setFlag_self _ _ _ true (by decide) (by decide)
    · exact (by simp [Dev.commit] : _ = (d.landing m (pg .rtc) R.RTC.CMD 1).cel).trans (d.cel_landing m _ _ _ hidle)
    · exact (by simp [Dev.commit] : _ = (d.landing m (pg .rtc) R.RTC.CMD 1).bus).trans (d.bus_landing m _ _ _)
    · exact (by simp [Dev.commit] : _ = (d.landing m (pg .rtc) R.RTC.CMD 1).mem).trans (d.mem_landing m _ _ _)
    · exact (by simp [Dev.commit] : _ = (d.landing m (pg .rtc) R.RTC.CMD 1).keys).trans (d.keys_landing m _ _ _)
  case read =>
    intro sub h
    exact ⟨_, Runs.dev (fun _ => rfl) (Dev.secRead_latches h sub.val), d.secAnswered_spec m sub.isLt⟩
  case roll =>
    intro hoff hok
    obtain ⟨htime, hsub, hwday, hlinear, hwrap⟩ := Dev.secondRollover_spec hoff hok
    exact ⟨_, Runs.dev (fun _ => rfl) rfl, htime, hsub, hwday, hlinear, hwrap, by simp, by simp⟩
  case taken =>
    exact fun hpend hok hoff => ⟨_, Runs.dev (fun _ => rfl) (Dev.commitApply_taken hpend hok), Dev.committed_spec hoff hok⟩
  case rejected =>
    exact fun hpend hok => ⟨_, Runs.dev (fun _ => rfl) (Dev.commitApply_rejected hpend hok), d.rejected_spec⟩
  case alarm =>
    intro hvalid hcal hlin hwake hpwron hno
    have halone : d.CalAlarmAlone := ⟨hvalid, hcal, hlin, hwake, hpwron, hno⟩
    exact ⟨fun hmatch => Dev.alarms_fires halone hmatch ▸ d.calAlarmFired_spec, Dev.alarms_none halone⟩
  case trim =>
    intro step
    refine ⟨fun h => Runs.dev (fun _ => rfl) (Dev.trimCorrection_off h), fun hpos hon hacc => ?_⟩
    obtain ⟨hsum, hlt⟩ := Dev.trimRun_spec hpos hacc
    refine ⟨_, d.trimRun, Runs.dev (fun _ => rfl) (Dev.trimCorrection_due hpos hon), hsum, hlt, ?_, by simp [Dev.trimCorrected],
      by simp [Dev.trimCorrected]⟩
    exact d.corrections_trimCorrected

end Sys2Proof.Machine
end

section
/-!
PROOFS. The rate of the calendar: TRIM, and a measurement from its start to its end (R378–R380).
-/
namespace Sys2Proof.Machine

/-- A signed value that 16 bits hold, through its two's complement. -/
theorem toSigned_ofSigned_16 {v : Int} (h : v.natAbs ≤ 5000) : toSigned 16 (ofSigned 16 v % 2 ^ 16) = v := by
  have hpow : (2 : Nat) ^ 16 = 65536 := by norm_num
  simp only [toSigned, ofSigned, hpow]
  split_ifs <;> omega

namespace Dev

/-- A field given the two's complement of a value that it holds reads the value. -/
theorem sfld_setFld_16 (d : Dev) (p : Nat) {f : Fld} (hf : f.lo + f.w ≤ 32) (hw : f.w = 16) {v : Int} (h : v.natAbs ≤ 5000) :
    (d.setFld p f (ofSigned 16 v)).sfld p f = v := by
  rw [sfld, fld_setFld_self _ _ _ _ hf, hw]
  exact toSigned_ofSigned_16 h

/-! ## TRIM (R378) -/

theorem rtcLand_trim (d : Dev) (m : Master) (w : Word) (n : Nat) : d.rtcLand m R.RTC.TRIM w n =
    if -2000 ≤ toSigned 16 (bitsOf w.toNat 0 16) ∧ toSigned 16 (bitsOf w.toNat 0 16) ≤ 2000 then
      d.setTrim (toSigned 16 (bitsOf w.toNat 0 16)) else d.event (pg .rtc) F.RTC.EVENT_RANGE := by
  rw [rtcLand, if_neg (by decide), if_pos rfl]

theorem setTrim_spec (d : Dev) {v : Int} (hlo : -2000 ≤ v) (hhi : v ≤ 2000) : (d.setTrim v).sfld (pg .rtc) F.RTC.TRIM_PPM = v ∧
    (d.setTrim v).cel.trimAcc = 0 := by
  refine ⟨?_, rfl⟩
  show toSigned 16 ((d.setTrim v).fld (pg .rtc) F.RTC.TRIM_PPM) = v
  rw [setTrim, fld_modCel]
  exact sfld_setFld_16 d _ (by decide) rfl (by omega)

/-! ## Commands of a measurement (R379, R380) -/

theorem rtcLand_measStart (d : Dev) (m : Master) (n : Nat) : d.rtcLand m R.RTC.CMD 2 n = d.measStart := by
  have hbit : bitAt (2 : Word).toNat 0 = false ∧ bitAt (2 : Word).toNat 1 = true ∧ bitAt (2 : Word).toNat 2 = false ∧
      bitAt (2 : Word).toNat 3 = false := by decide
  obtain ⟨h0, h1, h2, h3⟩ := hbit
  rw [rtcLand, if_pos rfl]
  simp only [h0, h1, h2, h3, Bool.false_eq_true, if_true, if_false]

theorem rtcLand_measStop (d : Dev) (m : Master) (n : Nat) : d.rtcLand m R.RTC.CMD 4 n = d.measStop := by
  have hbit : bitAt (4 : Word).toNat 0 = false ∧ bitAt (4 : Word).toNat 1 = false ∧ bitAt (4 : Word).toNat 2 = true ∧
      bitAt (4 : Word).toNat 3 = false := by decide
  obtain ⟨h0, h1, h2, h3⟩ := hbit
  rw [rtcLand, if_pos rfl]
  simp only [h0, h1, h2, h3, Bool.false_eq_true, if_true, if_false]

/-- A measurement begun. -/
def measBegun (d : Dev) : Dev := (d.setFlag (pg .rtc) F.RTC.STATUS_MEAS_RUN true).modMeas (fun _ => {})

theorem measBegun_run (d : Dev) : d.measBegun.flag (pg .rtc) F.RTC.STATUS_MEAS_RUN = true := by
  rw [measBegun, flag_modMeas, flag_setFlag_self _ _ _ _ (by decide) (by decide)]

theorem measStart_idle {d : Dev} (h : d.flag (pg .rtc) F.RTC.STATUS_MEAS_RUN = false) : d.measStart = d.measBegun :=
  if_neg (by simp [h])

/-- A measurement that ends without a result. -/
def measAborted (d : Dev) (code : Nat) : Dev :=
  ((((d.bump (pg .rtc) R.RTC.MEASUREMENTS).setFld (pg .rtc) F.RTC.MEAS_RESULT_END code).setFlag (pg .rtc) F.RTC.MEAS_RESULT_VALID false).event
    (pg .rtc) F.RTC.EVENT_MEAS_ABORT).modMeas (fun _ => {})

theorem measEnd_aborts (d : Dev) {code : Nat} (h : code ≠ 1) : (d.measEnd code none).modMeas (fun _ => {}) = d.measAborted code := by
  simp only [measEnd, if_neg h, beq_eq_false_iff_ne.mpr h]
  rfl

theorem measStop_running {d : Dev} (h : d.flag (pg .rtc) F.RTC.STATUS_MEAS_RUN = true) :
    d.measStop = (d.setFlag (pg .rtc) F.RTC.STATUS_MEAS_RUN false).measAborted 6 :=
  (if_pos h).trans (measEnd_aborts _ (by decide))

theorem measAborted_spec (d : Dev) {code : Nat} (h : code < 8) : (d.measAborted code).fld (pg .rtc) F.RTC.MEAS_RESULT_END = code ∧
    (d.measAborted code).cel.meas = {} ∧ (d.measAborted code).flag (pg .rtc) F.RTC.MEAS_RESULT_VALID = false ∧
    (d.measAborted code).flag (pg .rtc) F.RTC.EVENT_MEAS_ABORT = true ∧
    (d.measAborted code).reg (pg .rtc) R.RTC.MEASUREMENTS = d.reg (pg .rtc) R.RTC.MEASUREMENTS + 1 ∧
    (d.measAborted code).fld (pg .rtc) F.RTC.MEAS_RESULT_PPM = d.fld (pg .rtc) F.RTC.MEAS_RESULT_PPM ∧
    (d.measAborted code).flag (pg .rtc) F.RTC.STATUS_MEAS_RUN = d.flag (pg .rtc) F.RTC.STATUS_MEAS_RUN ∧ (d.measAborted code).mem = d.mem ∧
    (d.measAborted code).keys = d.keys := by
  refine ⟨?_, rfl, ?_, ?_, ?_, ?_, ?_, by simp [measAborted], by simp [measAborted]⟩
  · simp (disch := decide) only [measAborted, fld_modMeas, reads_apart, reads_self]
    exact Nat.mod_eq_of_lt h
  · simp (disch := decide) only [measAborted, flag_modMeas, reads_apart, reads_self]
  · simp (disch := decide) only [measAborted, flag_modMeas, reads_self]
  · simp (disch := decide) only [measAborted, reg_modMeas, reads_ofs, reg_bump_self]
    rfl
  · simp (disch := decide) only [measAborted, fld_modMeas, reads_apart, reads_apart_reg]
  · simp (disch := decide) only [measAborted, flag_modMeas, reads_apart, reads_apart_reg]

/-! ## Captures of the host reference (R379) -/

section Capture
variable {d : Dev} (hrun : d.flag (pg .rtc) F.RTC.STATUS_MEAS_RUN = true) (hsrc : d.fld (pg .rtc) F.RTC.MEAS_CFG_SRC = 1)
include hrun hsrc

theorem measCapture_opens (hclosed : d.cel.meas.opened = false) (tick ref : Nat) : d.measCapture 1 tick ref = d.measOpen ref tick := by
  simp only [measCapture, hrun, hsrc, and_self, if_true, hclosed, Bool.not_false]

theorem measCapture_ends (hopen : d.cel.meas.opened = true) {ref : Nat}
    (hspan : d.cel.meas.ref + d.fld (pg .rtc) F.RTC.MEAS_CFG_MIN_SPAN * 10000000000 ≤ ref) (tick : Nat) :
    d.measCapture 1 tick ref = d.modMeas (fun m => { m with due := some (ref, tick) }) := by
  have hlong : ¬ (d.cel.meas.ref < ref ∧ ref - d.cel.meas.ref < d.fld (pg .rtc) F.RTC.MEAS_CFG_MIN_SPAN * 10000000000) := by omega
  simp only [measCapture, hrun, hsrc, and_self, if_true, hopen, Bool.not_true, Bool.false_eq_true, if_false, if_neg hlong]

end Capture

/-! ## The end of an interval of the grid (R379, R380) -/

theorem measIntervalEnd_none {d : Dev} (h : d.flag (pg .rtc) F.RTC.STATUS_MEAS_RUN = false ∨ d.cel.meas.opened = false) (n : Nat) :
    d.measIntervalEnd n = d :=
  if_neg fun hc => h.elim (fun hrun => by simp [hrun] at hc) (fun hopen => by simp [hopen] at hc)

/-- What the grid gives of `n` raw ticks in an interval of `w` steps (R380). -/
def gridPpm (d : Dev) (n w : Nat) : Int :=
  divRound (((n * (if d.flag (pg .rtc) F.RTC.MEAS_CFG_NOM then 60 else 50) : Nat) : Int) * 10000000 - (w : Int) * 10000000) w

/-- Steps of 1/65,536 tick in a window of the grid. -/
def gridSpan (d : Dev) : Nat := 2 ^ d.fld (pg .rtc) F.RTC.MEAS_CFG_WIN_LOG * 32768 * 65536

/-- A measurement that ends with result `v`, and the next interval opened. -/
def measGiven (d : Dev) (v : Int) : Dev :=
  (((((d.bump (pg .rtc) R.RTC.MEASUREMENTS).setFld (pg .rtc) F.RTC.MEAS_RESULT_PPM (ofSigned 16 v)).setFld (pg .rtc) F.RTC.MEAS_RESULT_END
    1).setFlag (pg .rtc) F.RTC.MEAS_RESULT_VALID true).event (pg .rtc) F.RTC.EVENT_MEAS_DONE).measOpen 0 0

section Interval
variable {d : Dev} (hrun : d.flag (pg .rtc) F.RTC.STATUS_MEAS_RUN = true) (hopen : d.cel.meas.opened = true)
  (hsrc : d.fld (pg .rtc) F.RTC.MEAS_CFG_SRC = 0)
include hrun hopen hsrc

theorem measIntervalEnd_lost (hbad : d.cel.meas.lost = true ∨ d.gridGood = false) (n : Nat) : d.measIntervalEnd n = d.measAborted 2 := by
  have hgo : d.cel.meas.lost = true ∨ (!d.gridGood) = true := by simpa using hbad
  simp only [measIntervalEnd, hrun, hopen, and_self, if_true, hsrc, if_pos hgo]
  exact measEnd_aborts d (by decide)

theorem measIntervalEnd_window (hkept : d.cel.meas.lost = false) (hgood : d.gridGood = true)
    (hwin : 2 ^ d.fld (pg .rtc) F.RTC.MEAS_CFG_WIN_LOG ≤ sub32 (d.reg (pg .timebase) R.TIMEBASE.FOLIO).toNat d.cel.meas.folio.toNat) (n : Nat) :
    d.measIntervalEnd n = (d.measEnd (d.measCode (d.gridPpm n d.gridSpan)) (some (d.gridPpm n d.gridSpan))).measOpen 0 0 := by
  have hgo : ¬ (d.cel.meas.lost = true ∨ (!d.gridGood) = true) := by simp [hkept, hgood]
  simp only [measIntervalEnd, hrun, hopen, and_self, if_true, hsrc, if_neg hgo, if_neg (Nat.not_lt.mpr hwin)]
  rfl

end Interval

theorem measCode_good {d : Dev} (hrc : d.cel.meas.onRc = false) {v : Int} (h : v.natAbs ≤ 5000) : d.measCode v = 1 := by
  simp only [measCode, hrc, Bool.false_eq_true, if_false, if_neg (Nat.not_lt.mpr h)]

theorem measEnd_gives {d : Dev} (hauto : d.flag (pg .rtc) F.RTC.MEAS_CFG_AUTO = false) {v : Int} (h : v.natAbs ≤ 5000) :
    (d.measEnd 1 (some v)).measOpen 0 0 = d.measGiven v := by
  have hfit : ∀ e : Dev, e.fit 16 (-32768) 32767 v = (ofSigned 16 v, e) := fun e => if_pos (by omega)
  have hkept : (((((d.bump (pg .rtc) R.RTC.MEASUREMENTS).setFld (pg .rtc) F.RTC.MEAS_RESULT_PPM (ofSigned 16 v)).setFld (pg .rtc)
      F.RTC.MEAS_RESULT_END 1).setFlag (pg .rtc) F.RTC.MEAS_RESULT_VALID true).event (pg .rtc) F.RTC.EVENT_MEAS_DONE).flag (pg .rtc)
      F.RTC.MEAS_CFG_AUTO = false := by
    simp (disch := decide) only [reads_apart, reads_apart_reg, hauto]
  simp only [measEnd, hfit, beq_self_eq_true, if_true, hkept, Bool.false_eq_true, and_false, if_false]
  rfl

theorem fld_measOpen (d : Dev) (ref tick p : Nat) (g : Fld) : (d.measOpen ref tick).fld p g = d.fld p g := by
  rw [measOpen, fld_modMeas]

theorem flag_measOpen (d : Dev) (ref tick p : Nat) (g : Fld) : (d.measOpen ref tick).flag p g = d.flag p g := by
  rw [measOpen, flag_modMeas]

theorem reg_measOpen (d : Dev) (ref tick p o : Nat) : (d.measOpen ref tick).reg p o = d.reg p o := by
  rw [measOpen, reg_modMeas]

theorem measGiven_spec (d : Dev) {v : Int} (h : v.natAbs ≤ 5000) : (d.measGiven v).sfld (pg .rtc) F.RTC.MEAS_RESULT_PPM = v ∧
    (d.measGiven v).fld (pg .rtc) F.RTC.MEAS_RESULT_END = 1 ∧ (d.measGiven v).flag (pg .rtc) F.RTC.MEAS_RESULT_VALID = true ∧
    (d.measGiven v).flag (pg .rtc) F.RTC.EVENT_MEAS_DONE = true ∧ (d.measGiven v).cel.meas.opened = true ∧
    (d.measGiven v).reg (pg .rtc) R.RTC.TRIM = d.reg (pg .rtc) R.RTC.TRIM ∧ (d.measGiven v).mem = d.mem ∧ (d.measGiven v).keys = d.keys := by
  refine ⟨?_, ?_, ?_, ?_, ?_, ?_, by simp [measGiven], by simp [measGiven]⟩
  · simp (disch := decide) only [sfld, measGiven, fld_measOpen, reads_apart]
    exact sfld_setFld_16 _ _ (by decide) rfl h
  · simp (disch := decide) only [measGiven, fld_measOpen, reads_apart, reads_self]
    rfl
  · simp (disch := decide) only [measGiven, flag_measOpen, reads_apart, reads_self]
  · simp (disch := decide) only [measGiven, flag_measOpen, reads_self]
  · rw [measGiven, measOpen, modMeas, modCel]
  · simp (disch := decide) only [measGiven, reg_measOpen, reads_ofs, reads_reg]

end Dev

/-- Settles O42: TRIM within and beyond its limits, the commands of a measurement, its captures and the ends of an interval. -/
theorem rateMeasurementRuns : Obligations.RateMeasurementRuns := by
  unfold Obligations.RateMeasurementRuns
  intro d m p
  refine ⟨?trim, ?commands, fun n h => Runs.dev (fun _ => rfl) (Dev.measIntervalEnd_none h _), ?interval⟩
  case trim =>
    intro w h hidle v
    have hland := (Dev.cellarNow_rtc h (by decide) hidle (w := w) (fun hc => absurd hc.1 (by decide)) 0).trans (Dev.rtcLand_trim _ m w 0)
    have hmem := d.mem_landing m (pg .rtc) R.RTC.TRIM w
    have hkeys := d.keys_landing m (pg .rtc) R.RTC.TRIM w
    refine ⟨fun hlo hhi => ?_, fun hout => ?_⟩
    · obtain ⟨htrim, hacc⟩ := Dev.setTrim_spec (d.landing m (pg .rtc) R.RTC.TRIM w) hlo hhi
      exact ⟨_, Runs.dev (fun _ => rfl) (hland.trans (if_pos ⟨hlo, hhi⟩)), htrim, hacc, (by simp : _ = _).trans hmem, (by simp : _ = _).trans hkeys⟩
    · have hno : ¬ (-2000 ≤ v ∧ v ≤ 2000) := by omega
      refine ⟨_, Runs.dev (fun _ => rfl) (hland.trans (if_neg hno)), ?_, Dev.flag_setFlag_self _ _ _ true (by decide) (by decide),
        (by simp : _ = _).trans (d.cel_landing m (pg .rtc) R.RTC.TRIM w hidle), (by simp : _ = _).trans hmem, (by simp : _ = _).trans hkeys⟩
      exact (Dev.reg_event_apart _ (by decide)).trans (d.reg_landing m _ _ w (by decide))
  case commands =>
    intro h hidle
    refine ⟨fun hoff => ?_, fun hrun => ?_, fun n hrun hsrc => ?_⟩
    · have hland := (Dev.cellarNow_rtc h (by decide) hidle (w := 2) (by decide) 0).trans (Dev.rtcLand_measStart _ m 0)
      have hkept := (d.flag_landing m (pg .rtc) R.RTC.CMD 2 (g := F.RTC.STATUS_MEAS_RUN) (by decide)).trans hoff
      refine ⟨_, Runs.dev (fun _ => rfl) (hland.trans (Dev.measStart_idle hkept)), ?_, rfl, ?_, ?_⟩
      · exact Dev.measBegun_run _
      · exact (by simp [Dev.measBegun] : _ = _).trans (d.mem_landing m (pg .rtc) R.RTC.CMD 2)
      · exact (by simp [Dev.measBegun] : _ = _).trans (d.keys_landing m (pg .rtc) R.RTC.CMD 2)
    · have hland := (Dev.cellarNow_rtc h (by decide) hidle (w := 4) (by decide) 0).trans (Dev.rtcLand_measStop _ m 0)
      have hkept := (d.flag_landing m (pg .rtc) R.RTC.CMD 4 (g := F.RTC.STATUS_MEAS_RUN) (by decide)).trans hrun
      obtain ⟨hend, hmeas, hvalid, hevent, hcount, -, hstatus, hmem, hkeys⟩ := Dev.measAborted_spec
        ((d.landing m (pg .rtc) R.RTC.CMD 4).setFlag (pg .rtc) F.RTC.STATUS_MEAS_RUN false) (show 6 < 8 by decide)
      refine ⟨_, Runs.dev (fun _ => rfl) (hland.trans (Dev.measStop_running hkept)), ?_, hmeas, hend, hvalid, hevent, ?_, ?_, ?_⟩
      · exact hstatus.trans (Dev.flag_setFlag_self _ _ _ false (by decide) (by decide))
      · refine hcount.trans (congrArg (· + 1) ?_)
        exact (Dev.reg_setFlag_apart _ _ (by decide)).trans (d.reg_landing m _ _ 4 (by decide))
      · exact hmem.trans ((by simp : _ = _).trans (d.mem_landing m (pg .rtc) R.RTC.CMD 4))
      · exact hkeys.trans ((by simp : _ = _).trans (d.keys_landing m (pg .rtc) R.RTC.CMD 4))
    · have hland := Dev.cellarNow_capture h hidle n.toNat
      refine ⟨fun hclosed => ?_, fun hopen hspan => ?_⟩
      · rw [Dev.measCapture_opens hrun hsrc hclosed] at hland
        have hcel := (d.measOpen d.nref n.toNat).cel_landing m (pg .rtc) R.RTC.CMD 0 hidle
        refine ⟨_, Runs.dev (fun _ => rfl) hland, by rw [hcel]; rfl, by rw [hcel]; rfl, by rw [hcel]; rfl, by rw [hcel]; rfl, ?_, ?_⟩
        · exact (Dev.mem_landing _ m _ _ 0).trans (by simp)
        · exact (Dev.keys_landing _ m _ _ 0).trans (by simp)
      · rw [Dev.measCapture_ends hrun hsrc hopen hspan] at hland
        have hcel := (d.modMeas (fun m => { m with due := some (d.nref, n.toNat) })).cel_landing m (pg .rtc) R.RTC.CMD 0 hidle
        refine ⟨_, Runs.dev (fun _ => rfl) hland, by rw [hcel]; rfl, ?_, ?_⟩
        · exact (Dev.mem_landing _ m _ _ 0).trans (by simp)
        · exact (Dev.keys_landing _ m _ _ 0).trans (by simp)
  case interval =>
    intro n hrun hopen hsrc
    refine ⟨fun hbad => ?_, ?_⟩
    · obtain ⟨hend, hmeas, hvalid, -, -, hppm, -, hmem, -⟩ := d.measAborted_spec (show 2 < 8 by decide)
      exact ⟨_, Runs.dev (fun _ => rfl) (Dev.measIntervalEnd_lost hrun hopen hsrc hbad _), hend, hmeas, hvalid, hppm, hmem⟩
    · intro hkept hgood hwin hauto hrc w v hv
      have hcode : d.measCode (d.gridPpm n.toNat d.gridSpan) = 1 := Dev.measCode_good hrc hv
      have hwindow := Dev.measIntervalEnd_window hrun hopen hsrc hkept hgood hwin n.toNat
      rw [hcode] at hwindow
      exact ⟨_, Runs.dev (fun _ => rfl) (hwindow.trans (Dev.measEnd_gives hauto hv)), d.measGiven_spec hv⟩

end Sys2Proof.Machine
end

section
/-!
PROOFS. What wakes the device: the wake inputs, the pilot detector, a wake event in CELLAR, and PWRON (R384–R386, R388).
-/
namespace Sys2Proof.Machine
namespace Dev

/-! ## A wake input (R384) -/

/-- The level that input `i` shows. -/
def levelShown (d : Dev) (i : Nat) (high : Bool) : Dev :=
  d.setFlag (pg .cellar) ⟨F.CELLAR.STATUS_WAKE_LEVEL.ofs, F.CELLAR.STATUS_WAKE_LEVEL.lo + i, 1⟩ high

/-- The level of input `i` held for DEB. -/
def levelHeld (d : Dev) (i : Nat) (high : Bool) : Dev :=
  (d.levelShown i high).modCel (fun c => { c with wakeHeld := vmod c.wakeHeld i (fun _ => high) })

/-- WAKE_CFG of input `i`. -/
def wakeCfg (d : Dev) (i : Nat) : Nat := (d.reg (pg .cellar) (R.CELLAR.WAKE_CFG + 4 * i)).toNat

/-- Whether a level that follows `was` meets a mode of WAKE_CFG. -/
def modeMet (mode : Nat) (high was : Bool) : Bool :=
  match mode with
  | 0 => high && !was
  | 1 => !high && was
  | 2 => high != was
  | 3 => high
  | 4 => !high
  | _ => false

theorem wakeCfg_levelShown (d : Dev) (i : Nat) (high : Bool) : (d.levelShown i high).wakeCfg i = d.wakeCfg i := by
  have hofs : R.CELLAR.WAKE_CFG + 4 * i ≠ R.HDR.STATUS := by simp only [R.CELLAR.WAKE_CFG, R.HDR.STATUS]; omega
  exact congrArg BitVec.toNat (reg_setFlag_apart d high hofs)

theorem wakeInput_eq (d : Dev) (i : Nat) (high : Bool) (held : Nat) : d.wakeInput i high held =
    if held < bitsOf (d.wakeCfg i) 8 8 then d.levelShown i high
    else if bitAt (d.wakeCfg i) 0 && modeMet (bitsOf (d.wakeCfg i) 1 3) high (vget d.cel.wakeHeld i false) then
      (d.levelHeld i high).wakeEvent i
    else d.levelHeld i high := by
  have hcel : (d.levelShown i high).cel = d.cel := by simp [levelShown]
  rw [← d.wakeCfg_levelShown i high, ← hcel]
  rfl

theorem wakeInput_early {d : Dev} {i held : Nat} (h : held < bitsOf (d.wakeCfg i) 8 8) (high : Bool) :
    d.wakeInput i high held = d.levelShown i high := by
  rw [wakeInput_eq, if_pos h]

section Held
variable {d : Dev} {i held : Nat} (h : bitsOf (d.wakeCfg i) 8 8 ≤ held) (high : Bool)
include h

theorem wakeInput_disabled (hen : bitAt (d.wakeCfg i) 0 = false) : d.wakeInput i high held = d.levelHeld i high := by
  rw [wakeInput_eq, if_neg (Nat.not_lt.mpr h), hen, Bool.false_and, if_neg Bool.false_ne_true]

theorem wakeInput_mode (hen : bitAt (d.wakeCfg i) 0 = true) {mode : Nat} (hmode : bitsOf (d.wakeCfg i) 1 3 = mode) : d.wakeInput i high held =
    if modeMet mode high (vget d.cel.wakeHeld i false) = true then (d.levelHeld i high).wakeEvent i else d.levelHeld i high := by
  rw [wakeInput_eq, if_neg (Nat.not_lt.mpr h), hen, Bool.true_and, hmode]

end Held

/-! ## The pilot detector (R385) -/

/-- What the pilot detector reads. -/
def pilotShown (d : Dev) (a : Bool) : Dev := d.setFlag (pg .cellar) F.CELLAR.STATUS_PILOT_A a

theorem pilotDetector_kept {d : Dev} {mv : Int} {held : Nat} (h : held < d.fld (pg .cellar) F.CELLAR.PILOT_WAKE_DEB ∨ (mv ≤ 11000 ∧ 10500 ≤ mv) ∨
    d.flag (pg .cellar) F.CELLAR.STATUS_PILOT_A = decide (11000 < mv)) : d.pilotDetector mv held = d := if_pos h

theorem pilotDetector_changes {d : Dev} {mv : Int} {held : Nat} (hdeb : d.fld (pg .cellar) F.CELLAR.PILOT_WAKE_DEB ≤ held)
    (hlevel : mv < 10500 ∨ 11000 < mv) (hnew : d.flag (pg .cellar) F.CELLAR.STATUS_PILOT_A ≠ decide (11000 < mv)) :
    d.pilotDetector mv held = if d.flag (pg .cellar) F.CELLAR.PILOT_WAKE_EN = true ∧ (d.fld (pg .cellar) F.CELLAR.PILOT_WAKE_DIR = 2 ∨
      d.fld (pg .cellar) F.CELLAR.PILOT_WAKE_DIR = b2n (decide (11000 < mv))) then (d.pilotShown (decide (11000 < mv))).wakeEvent 4
      else d.pilotShown (decide (11000 < mv)) := by
  have hen : (d.pilotShown (decide (11000 < mv))).flag (pg .cellar) F.CELLAR.PILOT_WAKE_EN = d.flag (pg .cellar) F.CELLAR.PILOT_WAKE_EN :=
    flag_setFlag_apart d _ (by decide)
  rw [← hen]
  refine if_neg fun hc => ?_
  rcases hc with hearly | hmid | hsame
  · omega
  · omega
  · exact hnew hsame

/-! ## A wake event in CELLAR (R386) -/

/-- A wake event recorded in WAKE_PEND. -/
theorem wakeRecord_spec (d : Dev) {b : Nat} (h : b < 16) : (d.wakeRecord b).flag (pg .cellar) F.CELLAR.EVENT_WAKE_SEEN = true ∧
    (d.wakeRecord b).flag (pg .cellar) ⟨R.CELLAR.WAKE_PEND, b, 1⟩ = true ∧ (d.wakeRecord b).state = d.state ∧ (d.wakeRecord b).cel = d.cel ∧
    (d.wakeRecord b).mem = d.mem := by
  refine ⟨flag_setFlag_self _ _ _ true (by decide) (by decide), ?_, ?_, by simp [wakeRecord], by simp [wakeRecord]⟩
  · refine (flag_event_apart _ (.inl (show R.CELLAR.WAKE_PEND ≠ R.HDR.EVENT by decide))).trans ?_
    refine (flag_setFld_self _ _ _ _ (show b + 1 ≤ 32 by omega)).trans ?_
    rfl
  · refine (state_of_pageRegs (pageRegs_event _ (by decide))).trans (state_of_pageRegs (pageRegs_setFld d 1 ⟨by decide, ?_⟩))
    show R.CELLAR.WAKE_PEND < 0x1000
    decide

/-- A wake event that CELLAR holds until VSYS stands. -/
def cellarWoken (d : Dev) (b : Nat) : Dev := ((d.wakeRecord b).holdWake b).setPwron true

theorem wakeEvent_cellar {d : Dev} {b : Nat} (hb : b < 16) (hst : d.state = 1) (hrun : d.cel.holdOff = false) :
    d.wakeEvent b = d.cellarWoken b := by
  obtain ⟨-, -, hstate, hcel, -⟩ := d.wakeRecord_spec hb
  have hcellar : (d.wakeRecord b).state = 1 := hstate.trans hst
  have hfree : ¬ (d.wakeRecord b).cel.holdOff = true := by simp [hcel, hrun]
  simp only [wakeEvent, if_pos hcellar, if_neg hfree]
  rfl

theorem holdWake_first {d : Dev} (h : d.cel.wakeDue = 0) (b : Nat) : d.holdWake b = d.modCel (fun c =>
    { c with wakeDue := 2 ^ b, wakeAt := d.now, wakeLin := d.reg (pg .rtc) R.RTC.LINEAR }) := by
  simp only [holdWake, modCel, if_pos h]

theorem reg_holdWake (d : Dev) (b p o : Nat) : (d.holdWake b).reg p o = d.reg p o := by
  rw [holdWake, reg_modCel]

theorem cellarWoken_spec {d : Dev} {b : Nat} (hb : b < 16) (hnone : d.cel.wakeDue = 0) : (d.cellarWoken b).cel.wakeDue = 2 ^ b ∧
    (d.cellarWoken b).flag (pg .cellar) F.CELLAR.STATUS_PWRON = true ∧ (d.cellarWoken b).flag (pg .cellar) F.CELLAR.EVENT_WAKE_SEEN = true ∧
    (d.cellarWoken b).flag (pg .cellar) ⟨R.CELLAR.WAKE_PEND, b, 1⟩ = true ∧ (d.cellarWoken b).state = d.state ∧ (d.cellarWoken b).mem = d.mem := by
  obtain ⟨hseen, hpend, hstate, hcel, hmem⟩ := d.wakeRecord_spec hb
  have hnone' : (d.wakeRecord b).cel.wakeDue = 0 := by rw [hcel, hnone]
  have hfar : ∀ f : Fld, f.ofs ≠ R.HDR.STATUS → (d.cellarWoken b).flag (pg .cellar) f = (d.wakeRecord b).flag (pg .cellar) f := fun f hf => by
    rw [cellarWoken, setPwron, flag_modCel]
    exact (flag_setFlag_apart _ true (.inl hf)).trans (flag_of_fld (fld_of_reg (reg_holdWake _ b _ _)))
  refine ⟨?_, ?_, (hfar _ (by decide)).trans hseen, (hfar _ (show R.CELLAR.WAKE_PEND ≠ R.HDR.STATUS by decide)).trans hpend, ?_, ?_⟩
  · rw [cellarWoken, holdWake_first hnone', setPwron]
    simp
  · rw [cellarWoken, setPwron, flag_modCel]
    exact flag_setFlag_self _ _ _ true (by decide) (by decide)
  · rw [cellarWoken, setPwron, state_modCel]
    refine (state_of_pageRegs (pageRegs_setFlag _ true (by decide))).trans (Eq.trans ?_ hstate)
    rw [holdWake, state_modCel]
  · rw [← hmem]
    simp [cellarWoken]

/-! ## PWRON (R388) -/

theorem pwronCtrl_assert (d : Dev) : d.pwronCtrl 0x7E190001 = d.setPwron true :=
  (if_pos (by decide)).trans (if_pos (by decide))

theorem pwronCtrl_release (d : Dev) : d.pwronCtrl 0x7E190002 = if d.pwronPulse then d else d.setPwron false := by
  have hbit : bitAt (0x7E190002 : Word).toNat 0 = false ∧ bitAt (0x7E190002 : Word).toNat 1 = true := by decide
  rw [pwronCtrl, if_pos (by decide), hbit.1, hbit.2, if_neg Bool.false_ne_true]
  cases d.pwronPulse <;> simp

theorem flag_setPwron (d : Dev) (on : Bool) : (d.setPwron on).flag (pg .cellar) F.CELLAR.STATUS_PWRON = on := by
  rw [setPwron, flag_modCel, flag_setFlag_self _ _ _ _ (by decide) (by decide)]

theorem cel_setPwron (d : Dev) (on : Bool) : (d.setPwron on).cel = { d.cel with pwronAt := if on then d.now else d.cel.pwronAt } := by
  simp [setPwron]

theorem pwronReleased_spec (d : Dev) : let t := if d.pwronPulse then d else d.setPwron false
    t.flag (pg .cellar) F.CELLAR.STATUS_PWRON = (d.pwronPulse && d.flag (pg .cellar) F.CELLAR.STATUS_PWRON) ∧ t.cel = d.cel ∧
      t.mem = d.mem ∧ t.keys = d.keys := by
  cases hpulse : d.pwronPulse
  · refine ⟨?_, ?_, by simp, by simp⟩
    · rw [if_neg Bool.false_ne_true, flag_setPwron, Bool.false_and]
    · rw [if_neg Bool.false_ne_true, cel_setPwron, if_neg Bool.false_ne_true]
  · refine ⟨?_, ?_, ?_, ?_⟩ <;> rw [if_pos rfl]
    rw [Bool.true_and]

end Dev

/-- Settles O43: the wake inputs mode by mode, the pilot detector, a wake event in CELLAR, and PWRON. -/
theorem wakeRuns : Obligations.WakeRuns := by
  unfold Obligations.WakeRuns
  intro d m p
  refine ⟨?input, ?pilot, ?event, ?pwron, ?pulse⟩
  case input =>
    intro i high held lv cfg was e
    refine ⟨fun hearly => Runs.dev (fun _ => rfl) (Dev.wakeInput_early hearly high), fun hheld =>
      ⟨fun hen => Runs.dev (fun _ => rfl) (Dev.wakeInput_disabled hheld high hen), fun hen hmode => ?_, fun hen hmode => ?_,
        fun hen hmode => ?_, fun hen hmode => ?_, fun hen hmode => ?_⟩⟩
    all_goals
      refine Runs.dev (fun _ => rfl) ((Dev.wakeInput_mode hheld high hen hmode).trans ?_)
      show (if Dev.modeMet _ high was = true then e.wakeEvent i.val else e) = _
      clear_value was e
      cases high <;> cases was <;> rfl
  case pilot =>
    intro mv held c a e
    refine ⟨fun h => Runs.dev (fun _ => rfl) (Dev.pilotDetector_kept (.inl h)),
      fun hlo hhi => Runs.dev (fun _ => rfl) (Dev.pilotDetector_kept (.inr (.inl ⟨hhi, hlo⟩))),
      fun h => Runs.dev (fun _ => rfl) (Dev.pilotDetector_kept (.inr (.inr h))), fun hdeb hlevel hnew => ?_⟩
    have hchange := Dev.pilotDetector_changes hdeb hlevel hnew
    exact ⟨fun hoff => Runs.dev (fun _ => rfl) (hchange.trans (if_neg fun hc => by simp [p] at hoff; simp [hoff] at hc)),
      fun hon hdir => Runs.dev (fun _ => rfl) (hchange.trans (if_pos ⟨hon, hdir⟩)),
      fun hboth hdir => Runs.dev (fun _ => rfl) (hchange.trans (if_neg fun hc => hc.2.elim hboth hdir))⟩
  case event =>
    intro b hb hst hrun hnone
    rw [Dev.wakeEvent_cellar hb hst hrun]
    obtain ⟨hdue, hpwron, hseen, hpend, hstate, hmem⟩ := Dev.cellarWoken_spec hb hnone
    exact ⟨hdue, hpwron, hseen, hpend, hstate.trans hst, hmem⟩
  case pwron =>
    intro h hidle
    refine ⟨?_, ?_⟩
    · have hland := (Dev.cellarNow_pwronCtrl h hidle 0x7E190001).trans (Dev.pwronCtrl_assert _)
      refine ⟨_, Runs.dev (fun _ => rfl) hland, Dev.flag_setPwron _ true, ?_, ?_, ?_⟩
      · rw [Dev.cel_setPwron, d.cel_landing m _ _ _ hidle, d.now_landing, if_pos rfl]
      · exact (by simp : _ = _).trans (d.mem_landing m (pg .cellar) R.CELLAR.PWRON_CTRL 0x7E190001)
      · exact (by simp : _ = _).trans (d.keys_landing m (pg .cellar) R.CELLAR.PWRON_CTRL 0x7E190001)
    · have hland := (Dev.cellarNow_pwronCtrl h hidle 0x7E190002).trans (Dev.pwronCtrl_release _)
      obtain ⟨hpwron, hcel, hmem, hkeys⟩ := (d.landing m (pg .cellar) R.CELLAR.PWRON_CTRL 0x7E190002).pwronReleased_spec
      have hpulse : (d.landing m (pg .cellar) R.CELLAR.PWRON_CTRL 0x7E190002).pwronPulse = d.pwronPulse := d.flag_landing m _ _ _ (by decide)
      have hshown := d.flag_landing m (pg .cellar) R.CELLAR.PWRON_CTRL 0x7E190002 (g := F.CELLAR.STATUS_PWRON) (by decide)
      refine ⟨_, Runs.dev (fun _ => rfl) hland, hpwron.trans ?_, hcel.trans (d.cel_landing m _ _ _ hidle), hmem.trans (d.mem_landing m _ _ _),
        hkeys.trans (d.keys_landing m _ _ _)⟩
      rw [hpulse, hshown]
  case pulse =>
    intro due
    exact ⟨fun hpulse hdue => Runs.dev (fun _ => rfl) (if_pos ⟨hpulse, hdue⟩),
      fun h => Runs.dev (fun _ => rfl) (if_neg fun hc => h.elim (fun hno => by simp [hno] at hc) (fun hnow => absurd hc.2 (Nat.not_le.mpr hnow)))⟩

end Sys2Proof.Machine
end

section
/-!
PROOFS. Raising a source that no source table lists (R397, R398): the word of SEV that its number names is another page's register.
-/
namespace Sys2Proof.Machine

/-- A device in READY, with every register but SYS.STATE at its reset value. -/
def readyAtReset : Dev := ({} : Dev).setReg (pg .sys) R.SYS.STATE 3

/-- A bit number of TILE[0] beyond those of its sources, whose word of SEV lies at FAULT_CAUSE of TILE[0] itself. -/
def bitBeyondSources : Nat := 449432

theorem severity_bitBeyondSources : readyAtReset.sevOf (srcNo .tile 0 bitBeyondSources) = 0 := by decide

/-- FAULT_CAUSE captures the cause before the severity is read. -/
theorem recorded_bitBeyondSources : (readyAtReset.raise .tile 0 bitBeyondSources 0).fc.pend.map (·.sev) = [1] := by decide +kernel

/-- Refutes O44: for a bit of TILE[0] beyond its sources, which the clause on severities 0 and 1 admits, FAULT_CAUSE of the page stands
where the severity of the source is read, and the event is recorded with severity 1 for 0. -/
theorem not_raisingReacts : ¬ Obligations.RaisingReacts := by
  unfold Obligations.RaisingReacts
  intro h
  obtain ⟨-, -, hlow, -⟩ := h readyAtReset .tile 0 bitBeyondSources 0
  obtain ⟨-, -, -, -, -, -, ev, hpend, -, hsev, -⟩ := hlow (by decide) (by decide)
    (by rw [severity_bitBeyondSources]; decide) rfl
  have hrecorded := recorded_bitBeyondSources
  rw [hpend, show readyAtReset.fc.pend = [] from rfl, List.nil_append, List.map_cons, List.map_nil, hsev, severity_bitBeyondSources] at hrecorded
  cases hrecorded

end Sys2Proof.Machine
end

section
/-!
PROOFS. Fault sources and the fault history (R396–R398, R406–R410, R427).
-/
namespace Sys2Proof.Machine
namespace Dev

/-! ## The event recorded next (R406) -/

-- Checked in its turn, so that the proofs above are complete before the ones below begin.
set_option Elab.async false in
theorem recordedFirst_iff (a b : FaultEvent) : recordedFirst a b = true ↔ b.sev < a.sev ∨ (a.sev = b.sev ∧ a.src < b.src) := by
  simp [recordedFirst]

theorem recordedFirst_asymm {a b c : FaultEvent} (hab : recordedFirst a b = true) (hac : recordedFirst a c = false) :
    recordedFirst b c = false := by
  rw [← Bool.not_eq_true, recordedFirst_iff] at hac ⊢
  rw [recordedFirst_iff] at hab
  omega

theorem recordedFirst_trans_false {a b c : FaultEvent} (hab : recordedFirst a b = false) (hbc : recordedFirst b c = false) :
    recordedFirst a c = false := by
  rw [← Bool.not_eq_true, recordedFirst_iff] at *
  omega

/-- The better of the best event so far and another one. -/
def betterRecord (best : Option FaultEvent) (e : FaultEvent) : Option FaultEvent :=
  match best with
  | none => some e
  | some b => if recordedFirst e b then some e else some b

theorem nextRecord_eq (d : Dev) : d.nextRecord = d.fc.pend.foldl betterRecord none := rfl

/-- From a first event on, a search finds an event, before which neither the first one nor any of the list comes. -/
theorem foldl_betterRecord (l : List FaultEvent) (b : FaultEvent) : ∃ e, l.foldl betterRecord (some b) = some e ∧ (e = b ∨ e ∈ l) ∧
    recordedFirst b e = false ∧ ∀ x ∈ l, recordedFirst x e = false := by
  induction l generalizing b with
  | nil =>
    refine ⟨b, rfl, .inl rfl, ?_, fun x hx => by cases hx⟩
    rw [← Bool.not_eq_true, recordedFirst_iff]
    omega
  | cons y l ih =>
    by_cases hy : recordedFirst y b = true
    · obtain ⟨e, hfold, hin, hye, hall⟩ := ih y
      refine ⟨e, by rw [List.foldl_cons, betterRecord, if_pos hy, hfold], .inr ?_, recordedFirst_asymm hy hye, ?_⟩
      · exact List.mem_cons.mpr hin
      · exact List.forall_mem_cons.mpr ⟨hye, hall⟩
    · obtain ⟨e, hfold, hin, hbe, hall⟩ := ih b
      refine ⟨e, by rw [List.foldl_cons, betterRecord, if_neg hy, hfold], hin.imp_right (List.mem_cons_of_mem _), hbe, ?_⟩
      exact List.forall_mem_cons.mpr ⟨recordedFirst_trans_false (by simpa using hy) hbe, hall⟩

theorem nextRecord_some {d : Dev} (h : d.fc.pend ≠ []) : ∃ e, d.nextRecord = some e ∧ e ∈ d.fc.pend ∧
    ∀ x ∈ d.fc.pend, recordedFirst x e = false := by
  obtain ⟨y, l, hl⟩ := List.exists_cons_of_ne_nil h
  obtain ⟨e, hfold, hin, hye, hall⟩ := foldl_betterRecord l y
  rw [nextRecord_eq, hl]
  exact ⟨e, hfold, List.mem_cons.mpr hin, List.forall_mem_cons.mpr ⟨hye, hall⟩⟩

theorem nextRecord_none {d : Dev} (h : d.fc.pend = []) : d.nextRecord = none := by rw [nextRecord_eq, h]; rfl

/-! ## Four words of the page (R407) -/

/-- Four words written from an offset on. -/
def fourWords (d : Dev) (o : Nat) (ws : List Word) : Dev :=
  (List.range 4).foldl (fun (x : Dev) j => x.setReg (pg .fault) (o + 4 * j) (ws.getD j 0)) d

theorem fourWords_eq (d : Dev) (o : Nat) (ws : List Word) : d.fourWords o ws =
    (((d.setReg (pg .fault) (o + 4 * 0) (ws.getD 0 0)).setReg (pg .fault) (o + 4 * 1) (ws.getD 1 0)).setReg (pg .fault) (o + 4 * 2)
      (ws.getD 2 0)).setReg (pg .fault) (o + 4 * 3) (ws.getD 3 0) := rfl

theorem reg_fourWords (d : Dev) (o : Nat) (ws : List Word) {j : Nat} (h : j < 4) :
    (d.fourWords o ws).reg (pg .fault) (o + 4 * j) = ws.getD j 0 := by
  rw [fourWords_eq]
  have hcases : j = 0 ∨ j = 1 ∨ j = 2 ∨ j = 3 := by omega
  rcases hcases with rfl | rfl | rfl | rfl
  · rw [reg_setReg_apart _ _ (by omega), reg_setReg_apart _ _ (by omega), reg_setReg_apart _ _ (by omega), reg_setReg_self]
  · rw [reg_setReg_apart _ _ (by omega), reg_setReg_apart _ _ (by omega), reg_setReg_self]
  · rw [reg_setReg_apart _ _ (by omega), reg_setReg_self]
  · rw [reg_setReg_self]

theorem reg_fourWords_apart (d : Dev) {o o' : Nat} (ws : List Word) (h : o' < o ∨ o + 16 ≤ o') :
    (d.fourWords o ws).reg (pg .fault) o' = d.reg (pg .fault) o' := by
  rw [fourWords_eq]
  rw [reg_setReg_apart _ _ (by omega), reg_setReg_apart _ _ (by omega), reg_setReg_apart _ _ (by omega), reg_setReg_apart _ _ (by omega)]

theorem fc_fourWords (d : Dev) (o : Nat) (ws : List Word) : (d.fourWords o ws).fc = d.fc := by
  rw [fourWords_eq]
  simp

/-! ## An event recorded into an empty history (R406–R410) -/

/-- An event that the first-fault record takes. -/
abbrev FirstFault (d : Dev) (e : FaultEvent) : Prop :=
  e.again = false ∧ d.fld (pg .fault) F.FAULT.CFG_FF_MIN ≤ e.sev ∧ d.flag (pg .fault) F.FAULT.STATUS_FF_VALID = false

theorem firstFault_taken {d : Dev} {e : FaultEvent} (h : d.FirstFault e) : d.firstFault e =
    (d.fourWords R.FAULT.FF (recordWords e 0 (d.histWr % 65536))).setFlag (pg .fault) F.FAULT.STATUS_FF_VALID true := by
  obtain ⟨hnew, hmin, hfree⟩ := h
  refine if_pos ⟨?_, hmin, ?_⟩
  · simp [hnew]
  · simp [hfree]

theorem firstFault_kept {d : Dev} (h : d.flag (pg .fault) F.FAULT.STATUS_FF_VALID = true) (e : FaultEvent) : d.firstFault e = d :=
  if_neg fun hc => by simp [h] at hc

/-- What a change leaves stands whether the change is made or not. -/
theorem ite_keeps {α : Type} (f : Dev → α) {c : Prop} [Decidable c] {d e : Dev} (h : f e = f d) :
    f (if c then e else d) = f d := by
  split
  · exact h
  · rfl

/-- The first-fault record lies in its own words and in FF_VALID. -/
theorem reg_firstFault (d : Dev) (e : FaultEvent) {o : Nat} (h : o ≠ R.HDR.STATUS) (hff : o < R.FAULT.FF) :
    (d.firstFault e).reg (pg .fault) o = d.reg (pg .fault) o := by
  refine (ite_keeps (fun x : Dev => x.reg (pg .fault) o) ?_)
  exact (reg_setFlag_apart _ true h).trans (reg_fourWords_apart d _ (.inl hff))

theorem fc_firstFault (d : Dev) (e : FaultEvent) : (d.firstFault e).fc = d.fc := by
  refine (ite_keeps Dev.fc ?_)
  exact (by simp : ∀ (d : Dev) (p : Nat) (f : Fld) (b : Bool), (d.setFlag p f b).fc = d.fc) _ _ _ _ |>.trans (fc_fourWords d _ _)

/-- The event taken from the pending set, and the first-fault record. -/
def recordTaken (d : Dev) (e : FaultEvent) : Dev := (d.takePending e.src).firstFault e

theorem reg_recordTaken (d : Dev) (e : FaultEvent) {o : Nat} (h : o ≠ R.HDR.STATUS) (hff : o < R.FAULT.FF) :
    (d.recordTaken e).reg (pg .fault) o = d.reg (pg .fault) o := by
  rw [recordTaken, reg_firstFault _ _ h hff, takePending, reg_modFc]

theorem storeEntry_eq (d : Dev) (e : FaultEvent) : d.storeEntry e =
    (d.fourWords (R.FAULT.HIST + 16 * (d.histWr % 32)) (recordWords e 0 (d.histWr % 65536))).bump (pg .fault) R.FAULT.HIST_WR := rfl

theorem historyRecord_empty {d : Dev} {e : FaultEvent} (hnext : d.nextRecord = some e) (hempty : d.histWr = d.histRd)
    (hreps : d.fc.reps.lookup e.src = none) : d.historyRecord = (d.recordTaken e).storeEntry e := by
  have hwr : (d.recordTaken e).histWr = d.histWr := congrArg BitVec.toNat (reg_recordTaken d e (by decide) (by decide))
  have hrd : (d.recordTaken e).histRd = d.histRd := congrArg BitVec.toNat (reg_recordTaken d e (by decide) (by decide))
  have hlt : d.histRd < 4294967296 := (d.reg (pg .fault) R.FAULT.HIST_RD).isLt
  have hnone : sub32 d.histRd d.histRd = 0 := by
    simp only [sub32]
    omega
  have hunread : (d.recordTaken e).unreadEntry e.src = none := by
    rw [unreadEntry, hwr, hrd, hempty, hnone]
    rfl
  have hroom : ¬ 32 ≤ sub32 (d.recordTaken e).histWr (d.recordTaken e).histRd := by
    rw [hwr, hrd, hempty, hnone]
    decide
  have henter : (d.recordTaken e).enterRecord e = (d.recordTaken e).storeEntry e := by
    simp only [enterRecord, hunread, newEntry, if_neg hroom]
  simp only [historyRecord, hnext, hreps, Option.getD_none]
  exact henter

/-- What an event recorded into an empty history leaves. -/
theorem recorded_spec {d : Dev} (e : FaultEvent) : let t := (d.recordTaken e).storeEntry e
    t.reg (pg .fault) R.FAULT.HIST_WR = d.reg (pg .fault) R.FAULT.HIST_WR + 1 ∧
    t.reg (pg .fault) R.FAULT.HIST_RD = d.reg (pg .fault) R.FAULT.HIST_RD ∧
    (∀ j < 4, t.reg (pg .fault) (R.FAULT.HIST + 16 * (d.histWr % 32) + 4 * j) = (recordWords e 0 (d.histWr % 65536)).getD j 0) ∧
    (∀ x ∈ t.fc.pend, x ∈ d.fc.pend ∧ x.src ≠ e.src) ∧
    (e.again = false → d.fld (pg .fault) F.FAULT.CFG_FF_MIN ≤ e.sev → d.flag (pg .fault) F.FAULT.STATUS_FF_VALID = false →
      t.flag (pg .fault) F.FAULT.STATUS_FF_VALID = true ∧
        ∀ j < 4, t.reg (pg .fault) (R.FAULT.FF + 4 * j) = (recordWords e 0 (d.histWr % 65536)).getD j 0) ∧
    (d.flag (pg .fault) F.FAULT.STATUS_FF_VALID = true →
      ∀ j < 4, t.reg (pg .fault) (R.FAULT.FF + 4 * j) = d.reg (pg .fault) (R.FAULT.FF + 4 * j)) ∧ t.mem = d.mem ∧ t.keys = d.keys := by
  intro t
  have hwr : (d.recordTaken e).histWr = d.histWr := congrArg BitVec.toNat (reg_recordTaken d e (by decide) (by decide))
  have hslot : R.FAULT.HIST + 16 * (d.histWr % 32) + 16 ≤ R.FAULT.FF := by simp only [R.FAULT.HIST, R.FAULT.FF]; omega
  have hbase : R.FAULT.HIST ≤ R.FAULT.HIST + 16 * (d.histWr % 32) := Nat.le_add_right _ _
  have hcounters : R.FAULT.HIST_WR < R.FAULT.HIST ∧ R.FAULT.HIST_RD < R.FAULT.HIST ∧ R.HDR.STATUS < R.FAULT.HIST := by decide
  have heq : t = ((d.recordTaken e).fourWords (R.FAULT.HIST + 16 * (d.histWr % 32)) (recordWords e 0 (d.histWr % 65536))).bump (pg .fault)
      R.FAULT.HIST_WR := by
    show (d.recordTaken e).storeEntry e = _
    rw [storeEntry_eq, hwr]
  have hapart : ∀ o, o ≠ R.FAULT.HIST_WR → (o < R.FAULT.HIST ∨ R.FAULT.FF ≤ o) → t.reg (pg .fault) o = (d.recordTaken e).reg (pg .fault) o :=
    fun o hne hout => by
      rw [heq, (reads_reg _ hne).2, reg_fourWords_apart _ _ (by omega)]
  have hfc : t.fc = (d.takePending e.src).fc := by
    rw [heq]
    exact (by simp : ∀ (d : Dev) (p o : Nat), (d.bump p o).fc = d.fc) _ _ _ |>.trans ((fc_fourWords _ _ _).trans (fc_firstFault _ e))
  refine ⟨?_, ?_, fun j hj => ?_, fun x hx => ?_, fun hnew hmin hfree => ?_, fun hvalid j hj => ?_, ?_, ?_⟩
  · rw [heq, reg_bump_self, reg_fourWords_apart _ _ (by omega), reg_recordTaken _ _ (by decide) (by decide)]
    rfl
  · rw [hapart _ (by decide) (.inl hcounters.2.1), reg_recordTaken _ _ (by decide) (by decide)]
  · rw [heq, (reads_reg _ (by simp only [R.FAULT.HIST, R.FAULT.HIST_WR]; omega)).2, reg_fourWords _ _ _ hj]
  · rw [hfc] at hx
    have hx' : x ∈ d.fc.pend.filter (fun x => x.src != e.src) := hx
    simpa using hx'
  · have htake : d.recordTaken e = ((d.takePending e.src).fourWords R.FAULT.FF (recordWords e 0 (d.histWr % 65536))).setFlag (pg .fault)
        F.FAULT.STATUS_FF_VALID true := by
      refine (firstFault_taken (d := d.takePending e.src) ⟨hnew, ?_, ?_⟩).trans ?_
      · exact hmin
      · exact hfree
      · rfl
    refine ⟨?_, fun j hj => ?_⟩
    · refine (flag_of_fld (fld_of_reg (hapart _ (by decide) (.inl hcounters.2.2)))).trans ?_
      rw [htake, flag_setFlag_self _ _ _ _ (by decide) (by decide)]
    · rw [hapart _ (by simp only [R.FAULT.FF, R.FAULT.HIST_WR]; omega) (.inr (Nat.le_add_right _ _)), htake, reg_setFlag_apart _ _ ?_,
        reg_fourWords _ _ _ hj]
      show R.FAULT.FF + 4 * j ≠ R.HDR.STATUS
      simp only [R.FAULT.FF, R.HDR.STATUS]
      omega
  · rw [hapart _ (by simp only [R.FAULT.FF, R.FAULT.HIST_WR]; omega) (.inr (Nat.le_add_right _ _)), recordTaken,
      firstFault_kept (d := d.takePending e.src) hvalid, takePending, reg_modFc]
  · simp [t, recordTaken, takePending]
  · simp [t, recordTaken, takePending]

/-! ## Writes of the page and check 0xA (R423, R427) -/

/-- A device that differs from another one in the registers of the FAULT page alone, as far as check 0xA sees. -/
def FaultPageOnly (d e : Dev) : Prop := e.conv = d.conv ∧ ∀ q, q ≠ pg .fault → e.pageRegs q = d.pageRegs q

theorem armedHolds_faultPageOnly {d e : Dev} (h : d.FaultPageOnly e) : e.armedHolds = d.armedHolds := by
  obtain ⟨hconv, hregs⟩ := h
  have hchecks : ∀ g ∈ List.range 8, e.phaseCheck g = d.phaseCheck g := fun g _ =>
    phaseCheck_of_regs hconv fun o ho => reg_of_pageRegs (hregs _ (by simp only [pg, PageKind.first]; omega)) ho.1
  have hall : e.phaseChecks = d.phaseChecks := by
    unfold phaseChecks
    rw [Bool.eq_iff_iff, List.all_eq_true, List.all_eq_true]
    exact ⟨fun hx g hg => (hchecks g hg).symm.trans (hx g hg), fun hx g hg => (hchecks g hg).trans (hx g hg)⟩
  have harmed : e.flag (pg .scaolo) F.SCAOLO.ARM_STATUS_ARMED = d.flag (pg .scaolo) F.SCAOLO.ARM_STATUS_ARMED :=
    flag_of_pageRegs (hregs _ (by decide)) (by decide)
  rw [armedHolds, armedHolds, hall, harmed]

theorem FaultPageOnly.rfl' (d : Dev) : d.FaultPageOnly d := ⟨rfl, fun _ _ => rfl⟩

theorem FaultPageOnly.setReg {d e : Dev} (h : d.FaultPageOnly e) {o : Nat} (v : Word) (ho : o < 0x1000) :
    d.FaultPageOnly (e.setReg (pg .fault) o v) :=
  ⟨(by simp : (e.setReg (pg .fault) o v).conv = e.conv).trans h.1, fun q hq => (pageRegs_setReg e v ⟨hq, ho⟩).trans (h.2 q hq)⟩

theorem FaultPageOnly.setFld {d e : Dev} (h : d.FaultPageOnly e) {f : Fld} (v : Nat) (ho : f.ofs < 0x1000) :
    d.FaultPageOnly (e.setFld (pg .fault) f v) := h.setReg _ ho

theorem FaultPageOnly.setFlag {d e : Dev} (h : d.FaultPageOnly e) {f : Fld} (b : Bool) (ho : f.ofs < 0x1000) :
    d.FaultPageOnly (e.setFlag (pg .fault) f b) := h.setFld _ ho

theorem FaultPageOnly.event {d e : Dev} (h : d.FaultPageOnly e) {f : Fld} (ho : f.ofs < 0x1000) :
    d.FaultPageOnly (e.event (pg .fault) f) := h.setFld _ ho

theorem FaultPageOnly.modFc {d e : Dev} (h : d.FaultPageOnly e) (f : FaultS → FaultS) : d.FaultPageOnly (e.modFc f) := ⟨h.1, h.2⟩

theorem FaultPageOnly.refuse {d e : Dev} (h : d.FaultPageOnly e) (m : Master) (o : Nat) : d.FaultPageOnly (e.refuse m (pg .fault) o) :=
  FaultPageOnly.setReg (h.event (by decide)) _ (by decide)

theorem FaultPageOnly.keepsArmed {d e : Dev} (h : d.FaultPageOnly e) : (d.armedHolds && !e.armedHolds) = false := by
  rw [armedHolds_faultPageOnly h, Bool.and_not_self]

theorem faultWrite_cmd (d : Dev) (m : Master) (w : Word) : d.faultWrite m R.FAULT.CMD w = d.faultCmd w := by
  rw [faultWrite, if_pos rfl]

theorem faultWrite_histRd (d : Dev) (m : Master) (w : Word) : d.faultWrite m R.FAULT.HIST_RD w =
    if sub32 w.toNat d.histRd ≤ sub32 d.histWr d.histRd then d.setReg (pg .fault) R.FAULT.HIST_RD w
    else d.refuse m (pg .fault) R.FAULT.HIST_RD := by
  rw [faultWrite, if_neg (by decide), if_pos rfl, histRdOk]
  simp only [decide_eq_true_eq]

theorem faultWrite_sev (d : Dev) (m : Master) (i : Fin 48) (w : Word) : d.faultWrite m (R.FAULT.SEV + 4 * i.val) w =
    if d.lockSet (pg .fault) then (if (w &&& 0x77777777#32) = d.reg (pg .fault) (R.FAULT.SEV + 4 * i.val) then d
      else d.refuse m (pg .fault) (R.FAULT.SEV + 4 * i.val))
    else d.sevWrite i.val w := by
  have hi := i.isLt
  have hcmd : ¬ R.FAULT.SEV + 4 * i.val = R.FAULT.CMD := by simp only [R.FAULT.SEV, R.FAULT.CMD]; omega
  have hrd : ¬ R.FAULT.SEV + 4 * i.val = R.FAULT.HIST_RD := by simp only [R.FAULT.SEV, R.FAULT.HIST_RD]; omega
  have hin : R.FAULT.SEV ≤ R.FAULT.SEV + 4 * i.val ∧ R.FAULT.SEV + 4 * i.val < R.FAULT.SEV + 192 := by omega
  have hword : (R.FAULT.SEV + 4 * i.val - R.FAULT.SEV) / 4 = i.val := by omega
  simp only [faultWrite, if_neg hcmd, if_neg hrd, if_pos hin, hword]

/-- FAULT.CMD with its key gives the command of its low bits. -/
theorem faultCmd_keyed (d : Dev) {w : Word} (h : bitsOf w.toNat 16 16 = 0x3C5F) : d.faultCmd w = match bitsOf w.toNat 0 4 with
    | 1 => d.clrFf
    | 2 => d.clrRecov
    | 3 => d.clrLost
    | 4 => d.inject (bitsOf w.toNat 4 9)
    | _ => d := if_pos h

theorem faultCmd_inject (d : Dev) (src : Fin 512) : d.faultCmd (BitVec.ofNat 32 (0x3C5F0004 + 16 * src.val)) = d.inject src.val := by
  have hword : (BitVec.ofNat 32 (0x3C5F0004 + 16 * src.val)).toNat = 0x3C5F0004 + 16 * src.val := by
    rw [BitVec.toNat_ofNat]
    have := src.isLt
    omega
  have hlt := src.isLt
  have hdiv : ∀ lo w, bitsOf (0x3C5F0004 + 16 * src.val) lo w = (0x3C5F0004 + 16 * src.val) / 2 ^ lo % 2 ^ w := fun lo w => by
    rw [bitsOf, Nat.shiftRight_eq_div_pow]
  have hkey : bitsOf (0x3C5F0004 + 16 * src.val) 16 16 = 0x3C5F := by rw [hdiv]; omega
  have hcmd : bitsOf (0x3C5F0004 + 16 * src.val) 0 4 = 4 := by rw [hdiv]; omega
  have harg : bitsOf (0x3C5F0004 + 16 * src.val) 4 9 = src.val := by rw [hdiv]; omega
  rw [faultCmd, hword, if_pos hkey, hcmd]
  simp only [harg]

/-- A source that some page raises. -/
theorem sourceRaised_of {s : Nat} {k : PageKind} {i b : Nat} (h : sourceOf s = some (k, i, b)) (hk : k ≠ .scaolo ∨ b ≤ 8) :
    sourceRaised s = true := by
  simp only [sourceRaised, h]
  split
  · next heq =>
    obtain ⟨rfl, -, rfl⟩ : k = .scaolo ∧ i = _ ∧ b = _ := by simpa using heq
    exact decide_eq_true (hk.resolve_left fun hne => hne rfl)
  · rfl
  · next heq => cases heq

section Sources
variable {d : Dev} {s : Nat} {k : PageKind} {i b : Nat} (h : sourceOf s = some (k, i, b)) (hk : k ≠ .scaolo ∨ b ≤ 8)
include h hk

theorem faultEvent_listed (how : Happening) (n : Nat) : d.faultEvent s how n = match how with
    | .begins => d.raiseLevel k i b n
    | .ends => d.lower k i b
    | .instant => d.raise k i b n := by
  cases how <;> simp only [faultEvent, h, sourceRaised_of h hk, if_true]

end Sources

theorem faultEvent_unlisted {d : Dev} {s : Nat} (h : sourceOf s = none) (how : Happening) (n : Nat) : d.faultEvent s how n = d := by
  simp only [faultEvent, h]

/-! ## Severities (R398) -/

/-- Field `j` of a written word of SEV lies between its minimum and 5. -/
abbrev SevAdmitted (w new j : Nat) : Prop := (sevPairOf (8 * w + j)).2 ≤ bitsOf new (4 * j) 3 ∧ bitsOf new (4 * j) 3 ≤ 5

/-- One field of a written word of SEV taken where it may be. -/
def sevField (w new acc j : Nat) : Nat := if SevAdmitted w new j then setBits acc (4 * j) 3 (bitsOf new (4 * j) 3) else acc

theorem sevTaken_eq (w old new : Nat) : sevTaken w old new = (List.range 8).foldl (sevField w new) old := rfl

theorem bitsOf_sevField (w new acc x j : Nat) : bitsOf (sevField w new acc x) (4 * j) 3 =
    if x = j ∧ SevAdmitted w new j then bitsOf new (4 * j) 3 else bitsOf acc (4 * j) 3 := by
  unfold sevField
  by_cases hx : x = j
  · subst hx
    by_cases hok : SevAdmitted w new x
    · rw [if_pos hok, if_pos ⟨rfl, hok⟩, bitsOf_setBits_self, Nat.mod_eq_of_lt (bitsOf_lt _ _ _)]
    · rw [if_neg hok, if_neg fun hc => hok hc.2]
  · refine Eq.trans ?_ (if_neg fun hc => hx hc.1).symm
    split
    · exact bitsOf_setBits_other _ _ _ _ _ _ (by omega)
    · rfl

theorem bitsOf_foldl_sevField (w new j : Nat) (l : List Nat) (acc : Nat) : bitsOf (l.foldl (sevField w new) acc) (4 * j) 3 =
    if j ∈ l ∧ SevAdmitted w new j then bitsOf new (4 * j) 3 else bitsOf acc (4 * j) 3 := by
  induction l generalizing acc with
  | nil => rw [if_neg fun hc => by cases hc.1]; rfl
  | cons x l ih =>
    rw [List.foldl_cons, ih, bitsOf_sevField]
    by_cases hok : SevAdmitted w new j
    · by_cases hin : j ∈ l
      · rw [if_pos ⟨hin, hok⟩, if_pos ⟨List.mem_cons_of_mem _ hin, hok⟩]
      · rw [if_neg fun hc => hin hc.1]
        by_cases hx : x = j
        · rw [if_pos ⟨hx, hok⟩, if_pos ⟨List.mem_cons.mpr (.inl hx.symm), hok⟩]
        · rw [if_neg fun hc => hx hc.1, if_neg fun hc => (List.mem_cons.mp hc.1).elim (fun h => hx h.symm) hin]
    · rw [if_neg fun hc => hok hc.2, if_neg fun hc => hok hc.2, if_neg fun hc => hok hc.2]

/-- A field of the word of SEV that a write leaves. -/
theorem bitsOf_sevTaken (w old new : Nat) {j : Nat} (h : j < 8) : bitsOf (sevTaken w old new) (4 * j) 3 =
    if SevAdmitted w new j then bitsOf new (4 * j) 3 else bitsOf old (4 * j) 3 := by
  have hin : (j ∈ List.range 8 ∧ SevAdmitted w new j) ↔ SevAdmitted w new j := by simp [h]
  rw [sevTaken_eq, bitsOf_foldl_sevField]
  simp only [hin]

/-- SEV[`i`] as a write leaves it. -/
def sevStored (d : Dev) (i : Nat) (w : Word) : Nat := sevTaken i (d.reg (pg .fault) (R.FAULT.SEV + 4 * i)).toNat w.toNat

/-- Both copies of SEV[`i`] written. -/
def sevCopied (d : Dev) (i : Nat) (w : Word) : Dev :=
  (d.setReg (pg .fault) (R.FAULT.SEV + 4 * i) (BitVec.ofNat 32 (d.sevStored i w))).modFc
    (fun f => { f with sevCopy := (i, BitVec.ofNat 32 (d.sevStored i w)) :: f.sevCopy.filter (fun e => e.1 != i) })

theorem sevWrite_eq (d : Dev) (i : Nat) (w : Word) : d.sevWrite i w =
    if d.sevStored i w = w.toNat &&& 0x77777777 then d.sevCopied i w else (d.sevCopied i w).event (pg .fault) F.FAULT.EVENT_RANGE := rfl

theorem reg_sevWrite (d : Dev) {i : Nat} (w : Word) : (d.sevWrite i w).reg (pg .fault) (R.FAULT.SEV + 4 * i) =
    BitVec.ofNat 32 (d.sevStored i w) := by
  have hcopied : (d.sevCopied i w).reg (pg .fault) (R.FAULT.SEV + 4 * i) = BitVec.ofNat 32 (d.sevStored i w) := by
    rw [sevCopied, reg_modFc, reg_setReg_self]
  rw [sevWrite_eq]
  split
  · exact hcopied
  · refine (reg_event_apart _ ?_).trans hcopied
    simp only [R.FAULT.SEV, F.FAULT.EVENT_RANGE]
    omega

theorem sevOf_field (d : Dev) (i : Nat) {j : Nat} (h : j < 8) :
    d.sevOf (8 * i + j) = bitsOf (d.reg (pg .fault) (R.FAULT.SEV + 4 * i)).toNat (4 * j) 3 := by
  rw [sevOf, show (8 * i + j) / 8 = i by omega, show (8 * i + j) % 8 = j by omega]

theorem sevOf_sevWrite (d : Dev) (i : Nat) (w : Word) {j : Nat} (h : j < 8) : (d.sevWrite i w).sevOf (8 * i + j) =
    if SevAdmitted i w.toNat j then bitsOf w.toNat (4 * j) 3 else d.sevOf (8 * i + j) := by
  rw [sevOf_field _ _ h, sevOf_field _ _ h, reg_sevWrite, BitVec.toNat_ofNat, bitsOf_mod32 _ _ _ (by omega), sevStored, bitsOf_sevTaken _ _ _ h]

/-- A field that a write may not set, and that it would change, marks RANGE. -/
theorem sevWrite_range {d : Dev} {i : Nat} {w : Word} {j : Nat} (h : j < 8) (hbad : ¬ SevAdmitted i w.toNat j)
    (hnew : d.sevOf (8 * i + j) ≠ bitsOf w.toNat (4 * j) 3) : (d.sevWrite i w).flag (pg .fault) F.FAULT.EVENT_RANGE = true := by
  have hmask : ∀ j < 8, bitsOf 0x77777777 (4 * j) 3 = 2 ^ 3 - 1 := by decide
  have hne : d.sevStored i w ≠ w.toNat &&& 0x77777777 := fun heq => by
    have hfield := congrArg (bitsOf · (4 * j) 3) heq
    simp only [bitsOf_and_mask (hmask j h)] at hfield
    rw [sevStored, bitsOf_sevTaken _ _ _ h, if_neg hbad, ← sevOf_field _ _ h] at hfield
    exact hnew hfield
  rw [sevWrite_eq, if_neg hne]
  exact flag_setFlag_self _ _ _ true (by decide) (by decide)

theorem faultPageOnly_sevWrite (d : Dev) {i : Nat} (hi : i < 48) (w : Word) : d.FaultPageOnly (d.sevWrite i w) := by
  have hofs : R.FAULT.SEV + 4 * i < 0x1000 := by simp only [R.FAULT.SEV]; omega
  have hcopied : d.FaultPageOnly (d.sevCopied i w) := FaultPageOnly.modFc ((FaultPageOnly.rfl' d).setReg _ hofs) _
  rw [sevWrite_eq]
  split
  · exact hcopied
  · exact hcopied.event (by decide)

end Dev

/-- A permitted write of a register of the FAULT page that does not break check 0xA runs as the block's. -/
theorem Runs.faultPage {c : Instr} {d e : Dev} {m : Master} {ofs : Nat} {w : Word} (h : d.CanWrite m .fault 0 ofs)
    (ho : 0x100 ≤ ofs ∧ ofs < 0x800) (hc : ∀ s, exec c s = .next (s.onDev fun d => d.portWrite m .fault 0 ofs w))
    (he : d.faultWrite m ofs w = e) (hok : (d.armedHolds && !e.armedHolds) = false) : Runs c d e.done := by
  have hhdr : ¬ ofs < 0x100 := by omega
  refine Runs.port h (by omega) hc ?_
  simp only [Dev.regWrite, hhdr, ho.2, if_true, if_false, Dev.blockWrite, he, hok, Bool.false_eq_true]

/-- Settles O45: a source's events, the record of the first of them, HIST_RD, SEV, and the commands of the page. -/
theorem faultRecordingRuns : Obligations.FaultRecordingRuns := by
  unfold Obligations.FaultRecordingRuns
  intro d m p
  refine ⟨fun src how n hoff => Runs.dev (fun _ => rfl) (Dev.whenIsland_neg hoff), ?listed, ?unlisted, ?empty, ?first, ?some, ?record, ?read,
    ?severity, ?commands⟩
  case listed =>
    intro src n k i b hon h hk
    exact ⟨Runs.island hon (fun _ => rfl) (Dev.faultEvent_listed h hk .begins _),
      Runs.island hon (fun _ => rfl) (Dev.faultEvent_listed h hk .ends _), Runs.island hon (fun _ => rfl) (Dev.faultEvent_listed h hk .instant _)⟩
  case unlisted =>
    intro src how n h
    have hnone : ∀ e : Dev, e.faultEvent src.val how n.toNat = e := fun e => Dev.faultEvent_unlisted h how _
    refine Runs.dev (fun _ => rfl) (?_ : (d.whenIsland fun d => d.faultEvent src.val how n.toNat) = d)
    simp only [hnone, Dev.whenIsland, ite_self]
  case empty =>
    intro h
    have hnone : d.historyRecord = d := by simp only [Dev.historyRecord, Dev.nextRecord_none h]
    refine Runs.dev (fun _ => rfl) (?_ : (d.whenIsland fun d => d.historyRecord) = d)
    simp only [Dev.whenIsland, hnone, ite_self]
  case first =>
    intro e he
    have hne : d.fc.pend ≠ [] := fun hnil => by simp [Dev.nextRecord_none hnil] at he
    obtain ⟨x, hx, hin, hall⟩ := Dev.nextRecord_some hne
    obtain rfl : e = x := Option.some.inj (he.symm.trans hx)
    exact ⟨hin, hall⟩
  case some =>
    intro h
    obtain ⟨e, he, -⟩ := Dev.nextRecord_some h
    exact ⟨e, he⟩
  case record =>
    exact fun e hon hnext hempty hreps => ⟨_, Runs.island hon (fun _ => rfl) (Dev.historyRecord_empty hnext hempty hreps), Dev.recorded_spec e⟩
  case read =>
    intro w h
    have hwrite := d.faultWrite_histRd m w
    refine ⟨fun hle => Runs.faultPage h (by decide) (fun _ => rfl) (hwrite.trans (if_pos hle)) ?_,
      fun hlt => Runs.faultPage h (by decide) (fun _ => rfl) (hwrite.trans (if_neg (Nat.not_le.mpr hlt))) ?_⟩
    · exact ((Dev.FaultPageOnly.rfl' d).setReg w (by decide)).keepsArmed
    · exact ((Dev.FaultPageOnly.rfl' d).refuse m _).keepsArmed
  case severity =>
    intro i w h
    have hi := i.isLt
    have hofs : 0x100 ≤ R.FAULT.SEV + 4 * i.val ∧ R.FAULT.SEV + 4 * i.val < 0x800 := by simp only [R.FAULT.SEV]; omega
    have hwrite := d.faultWrite_sev m i w
    refine ⟨fun hfree => ?_, fun hlock hnew => ?_⟩
    · have hrun : Runs (.sevWrite m i w) d (d.sevWrite i.val w).done := Runs.faultPage h hofs (fun _ => rfl) (hwrite.trans (if_neg (by simp [p] at hfree; simp [hfree])))
        (d.faultPageOnly_sevWrite hi w).keepsArmed
      refine ⟨_, hrun, by simp [Dev.done], by simp [Dev.done], fun j hj => ⟨fun hmin hmax => ?_, fun hout => ⟨?_, fun hne => ?_⟩⟩⟩
      · exact (d.sevOf_sevWrite i.val w hj).trans (if_pos ⟨hmin, hmax⟩)
      · exact (d.sevOf_sevWrite i.val w hj).trans (if_neg fun hc => by omega)
      · exact (Dev.flag_done ..).trans (Dev.sevWrite_range hj (fun hc => by omega) hne)
    · refine Runs.faultPage h hofs (fun _ => rfl) (hwrite.trans ((if_pos hlock).trans (if_neg hnew))) ?_
      exact ((Dev.FaultPageOnly.rfl' d).refuse m _).keepsArmed
  case commands =>
    intro h
    have hsame := Dev.FaultPageOnly.rfl' d
    have hcmd := fun w => d.faultWrite_cmd m w
    have hinject : ∀ src : Fin 512, d.faultWrite m R.FAULT.CMD (BitVec.ofNat 32 (0x3C5F0004 + 16 * src.val)) = d.inject src.val :=
      fun src => (hcmd _).trans (d.faultCmd_inject src)
    refine ⟨?_, ?_, ?_, fun src hrun => ?_, fun src k i b hrun hs hk hok => ?_, fun src hs => ?_⟩
    · exact Runs.faultPage h (by decide) (fun _ => rfl) ((hcmd _).trans (d.faultCmd_keyed (by decide))) (hsame.setFlag false (by decide)).keepsArmed
    · exact Runs.faultPage h (by decide) (fun _ => rfl) ((hcmd _).trans (d.faultCmd_keyed (by decide)))
        (((hsame.setFlag false (by decide)).setFlag false (by decide)).setFld 0 (by decide)).keepsArmed
    · exact Runs.faultPage h (by decide) (fun _ => rfl) ((hcmd _).trans (d.faultCmd_keyed (by decide))) (hsame.setFlag false (by decide)).keepsArmed
    · exact Runs.faultPage h (by decide) (fun _ => rfl) ((hinject src).trans (if_pos hrun)) hsame.keepsArmed
    · exact Runs.faultPage h (by decide) (fun _ => rfl) ((hinject src).trans ((if_neg hrun).trans (Dev.faultEvent_listed hs hk .instant 0))) hok
    · refine Runs.faultPage h (by decide) (fun _ => rfl) ((hinject src).trans ?_) hsame.keepsArmed
      simp only [Dev.inject, Dev.faultEvent_unlisted hs, ite_self]

end Sys2Proof.Machine
end

section
/-!
PROOFS. Recovery from SAFE and the reaction's checks (R402, R412, R413, R416).
-/
namespace Sys2Proof.Machine
namespace Dev

/-! ## Tiles let go (R124) -/

/-- A change of one tile that keeps its SAFE cause keeps that of every tile. -/
theorem killSafe_modTile {d : Dev} {n : Nat} (hn : n < 24) {f : TileS → TileS} (h : ∀ t : TileS, (f t).killSafe = t.killSafe) (j : Nat) :
    ((d.modTile n f).tileS j).killSafe = (d.tileS j).killSafe := by
  refine (congrArg TileS.killSafe (vget_vmod d.tile hn f j {})).trans ?_
  split
  · next hj => rw [h, hj]; rfl
  · rfl

theorem killSafe_takeTable (d : Dev) {n : Nat} (hn : n < 24) (j : Nat) : ((d.takeTable n).tileS j).killSafe = (d.tileS j).killSafe := by
  obtain heq | ⟨c, heq⟩ := d.takeTable_eq_or n
  · rw [heq]
  · rw [heq, killSafe_modTile hn, tileS_setFld]
    exact fun _ => rfl

theorem killSafe_unkillTile (d : Dev) {n : Nat} (hn : n < 24) (j : Nat) : ((d.unkillTile n).tileS j).killSafe = (d.tileS j).killSafe := by
  simp only [unkillTile]
  split
  · simp only [tileStopped]
    rw [killSafe_modTile hn, outputsLow, killSafe_modTile hn, killSafe_takeTable _ hn, tileS_setFlag, tileS_setReg, tileS_setReg, tileS_setFld]
    · exact fun _ => rfl
    · exact fun _ => rfl
  · rfl

/-- One tile let go. -/
def releaseTile (d : Dev) (n : Nat) : Dev := (d.modTile n (fun t => { t with killSafe := false })).unkillTile n

theorem killSafe_releaseTile (d : Dev) {n : Nat} (hn : n < 24) (j : Nat) :
    ((d.releaseTile n).tileS j).killSafe = if j = n then false else (d.tileS j).killSafe := by
  rw [releaseTile, killSafe_unkillTile _ hn]
  refine (congrArg TileS.killSafe (vget_vmod d.tile hn _ j {})).trans ?_
  split <;> rfl

theorem releaseTiles_eq (d : Dev) : d.releaseTiles = d.each (List.range 24) releaseTile := rfl

/-- Tiles let go stay let go as others are. -/
theorem killSafe_eachRelease (l : List Nat) (hl : ∀ n ∈ l, n < 24) (d : Dev) {j : Nat} (h : j ∈ l ∨ (d.tileS j).killSafe = false) :
    ((d.each l releaseTile).tileS j).killSafe = false := by
  induction l generalizing d with
  | nil => exact h.resolve_left fun hin => by cases hin
  | cons x l ih =>
    rw [each_cons]
    refine ih (fun n hn => hl n (List.mem_cons_of_mem _ hn)) _ ?_
    rw [killSafe_releaseTile _ (hl x (List.mem_cons.mpr (.inl rfl)))]
    by_cases hx : j = x
    · exact .inr (if_pos hx)
    · rw [if_neg hx]
      exact h.imp_left fun hin => (List.mem_cons.mp hin).resolve_left hx

theorem killSafe_releaseTiles (d : Dev) {n : Nat} (h : n < 24) : ((d.releaseTiles).tileS n).killSafe = false :=
  killSafe_eachRelease _ (fun _ => List.mem_range.mp) d (.inl (List.mem_range.mpr h))

theorem offStage_unkillTile (d : Dev) (n : Nat) : (d.unkillTile n).offStage = d.offStage := by
  have htile := stagePage_tile n
  simp only [unkillTile]
  split
  · simp only [tileStopped]
    rw [offStage_modTile, offStage_outputsLow, offStage_setFlag _ _ htile (by decide), offStage_setReg _ _ htile (by decide),
      offStage_setReg _ _ htile (by decide), offStage_setFld _ _ htile (by decide)]
  · rfl

theorem offStage_releaseTiles (d : Dev) : d.releaseTiles.offStage = d.offStage := by
  rw [releaseTiles_eq]
  exact each_keeps offStage d _ _ fun e n _ => (offStage_unkillTile _ n).trans (offStage_modTile e n _)

/-! ## The ways out of SAFE (R412, R413) -/

theorem offSettle_none {d : Dev} (h : d.flag (pg .seq) F.SEQ.SEQ_STATUS_OFF_REQ = false) : d.offSettle = d :=
  if_neg fun hc => by simp [h] at hc

theorem pageRegs_modFc (d : Dev) (f : FaultS → FaultS) (p : Nat) : (d.modFc f).pageRegs p = d.pageRegs p := rfl

theorem pageRegs_countRecovery (d : Dev) {p : Nat} (h : p ≠ pg .fault) : d.countRecovery.pageRegs p = d.pageRegs p := by
  simp only [countRecovery]
  rw [pageRegs_event _ ⟨h, by decide⟩, pageRegs_bump _ _ ⟨h, by decide⟩, pageRegs_setFld _ _ ⟨h, by decide⟩]
  split
  · exact pageRegs_modFc ..
  · rfl

/-- The window of a recovery that is counted. -/
def recoveryWindow (d : Dev) : Dev :=
  if d.fld (pg .fault) F.FAULT.RECOV_STATUS_COUNT = 0 then d.modFc (fun f => { f with windowFrom := d.now }) else d

theorem countRecovery_eq (d : Dev) : d.countRecovery = ((d.recoveryWindow.setFld (pg .fault) F.FAULT.RECOV_STATUS_COUNT
    (d.fld (pg .fault) F.FAULT.RECOV_STATUS_COUNT + 1)).bump (pg .fault) R.FAULT.RECOVERIES).event (pg .fault) F.FAULT.EVENT_RECOVERED := rfl

theorem reg_recoveryWindow (d : Dev) (p o : Nat) : d.recoveryWindow.reg p o = d.reg p o := by
  unfold recoveryWindow
  split
  · exact reg_modFc ..
  · rfl

/-- A recovery below the limit is counted. -/
theorem count_countRecovery {d : Dev} (h : d.fld (pg .fault) F.FAULT.RECOV_STATUS_COUNT < d.fld (pg .fault) F.FAULT.RECOV_CFG_MAX) :
    d.countRecovery.fld (pg .fault) F.FAULT.RECOV_STATUS_COUNT = d.fld (pg .fault) F.FAULT.RECOV_STATUS_COUNT + 1 ∧
      d.countRecovery.reg (pg .fault) R.FAULT.RECOVERIES = d.reg (pg .fault) R.FAULT.RECOVERIES + 1 := by
  have hmax : d.fld (pg .fault) F.FAULT.RECOV_CFG_MAX < 2 ^ 8 := bitsOf_lt _ _ _
  rw [countRecovery_eq]
  constructor
  · simp (disch := decide) only [reads_apart, reads_apart_reg, reads_self]
    exact Nat.mod_eq_of_lt (by simp only [F.FAULT.RECOV_STATUS_COUNT] at h ⊢; omega)
  · simp (disch := decide) only [reads_ofs, reg_bump_self, reg_recoveryWindow]
    rfl

theorem quietElapsed_eq {d : Dev} (hst : d.state = 5) (hdue : d.quietDue = true) (hsafe : d.safeActive = false) (hbk : d.fc.backup = false) :
    d.quietElapsed = if d.fld (pg .fault) F.FAULT.RECOV_STATUS_COUNT < d.fld (pg .fault) F.FAULT.RECOV_CFG_MAX then
      d.countRecovery.leaveSafe 0x09 else (d.modFc (fun f => { f with quietSince := none })).latchRecovery := by
  refine if_pos ⟨hst, hdue, ?_, ?_⟩
  · simp [hsafe]
  · simp [hbk]

theorem quietElapsed_idle {d : Dev} (h : d.state ≠ 5 ∨ d.quietDue = false ∨ d.safeActive = true ∨ d.fc.backup = true) : d.quietElapsed = d := by
  refine if_neg fun hc => ?_
  obtain ⟨hst, hdue, hsafe, hbk⟩ := hc
  rcases h with h | h | h | h
  · exact h hst
  · simp [h] at hdue
  · simp [h] at hsafe
  · simp [h] at hbk

/-- SAFE left for READY. -/
theorem recovered_spec {d : Dev} (h : d.fld (pg .fault) F.FAULT.RECOV_STATUS_COUNT < d.fld (pg .fault) F.FAULT.RECOV_CFG_MAX)
    (hoff : d.flag (pg .seq) F.SEQ.SEQ_STATUS_OFF_REQ = false) : let t := ((d.countRecovery.transition 3 0x09).releaseTiles).offSettle
    t.state = 3 ∧ t.fld (pg .sys) F.SYS.STATE_CAUSE = 9 ∧
    t.fld (pg .fault) F.FAULT.RECOV_STATUS_COUNT = d.fld (pg .fault) F.FAULT.RECOV_STATUS_COUNT + 1 ∧
    t.reg (pg .fault) R.FAULT.RECOVERIES = d.reg (pg .fault) R.FAULT.RECOVERIES + 1 ∧
    (∀ n < 24, (t.tileS n).killSafe = false) ∧ t.mem = d.mem ∧ t.keys = d.keys := by
  have hpages : ∀ p < 0x24, (d.countRecovery.transition 3 0x09).releaseTiles.pageRegs p = (d.countRecovery.transition 3 0x09).pageRegs p :=
    fun p hp => pageRegs_of_offStage (offStage_releaseTiles _) hp
  have hseq : (d.countRecovery.transition 3 0x09).releaseTiles.flag (pg .seq) F.SEQ.SEQ_STATUS_OFF_REQ = false := by
    refine (flag_of_pageRegs ((hpages _ (by decide)).trans ?_) (by decide)).trans hoff
    rw [pageRegs_transition _ _ _ (by decide), pageRegs_countRecovery _ (by decide)]
  have hsys := hpages (pg .sys) (by decide)
  have hfault : (d.countRecovery.transition 3 0x09).releaseTiles.pageRegs (pg .fault) = d.countRecovery.pageRegs (pg .fault) :=
    (hpages _ (by decide)).trans (pageRegs_transition _ _ _ (by decide))
  obtain ⟨hcount, hrecov⟩ := count_countRecovery h
  intro t
  have ht : t = (d.countRecovery.transition 3 0x09).releaseTiles := offSettle_none hseq
  clear_value t
  subst ht
  refine ⟨?_, ?_, ?_, ?_, fun n hn => killSafe_releaseTiles _ hn, by simp, by simp⟩
  · exact (state_of_pageRegs hsys).trans (state_transition _ _ _ (by decide))
  · exact (fld_of_pageRegs hsys (by decide)).trans (cause_transition _ _ _ (by decide) (by decide))
  · exact (fld_of_pageRegs hfault (by decide)).trans hcount
  · exact (reg_of_pageRegs hfault (by decide)).trans hrecov

/-- The recovery limit reached, with the quiet timer stopped. -/
theorem latchRecovery_spec (d : Dev) : let t := (d.modFc (fun f => { f with quietSince := none })).latchRecovery
    t.state = d.state ∧ t.flag (pg .fault) F.FAULT.STATUS_RECOV_LATCHED = true ∧ t.fc.quietSince = none ∧ t.mem = d.mem ∧ t.keys = d.keys := by
  refine ⟨?_, ?_, by simp [latchRecovery, modFc], by simp [latchRecovery], by simp [latchRecovery]⟩
  · refine (state_of_pageRegs ?_)
    rw [latchRecovery, pageRegs_setFlag _ _ ⟨by decide, by decide⟩, pageRegs_setFlag _ _ ⟨by decide, by decide⟩, pageRegs_modFc]
  · simp (disch := decide) only [latchRecovery, reads_apart, reads_self]

/-! ## The reaction's checks (R416) -/

theorem checkDue_cons {d : Dev} {t : Nat} {l : List Nat} (h : d.fc.checks = t :: l) : d.checkDue = decide (t + 35643 ≤ d.now) := by
  simp only [checkDue, h]

theorem checkDue_none {d : Dev} (h : d.fc.checks = [] ∨ ∃ t, d.fc.checks.head? = some t ∧ d.now < t + 35643) : d.checkDue = false := by
  rcases h with h | ⟨t, h, hlt⟩
  · simp only [checkDue, h]
  · obtain ⟨l, hl⟩ := List.head?_eq_some_iff.mp h
    simpa [checkDue_cons hl] using hlt

theorem reactionCheck_early {d : Dev} (h : d.checkDue = false) (a b c : Bool) : d.reactionCheck a b c = d := by
  simp only [reactionCheck, h, Bool.not_false, if_true]

/-- The oldest check is made. -/
theorem reactionCheck_due {d : Dev} (h : d.checkDue = true) (a b c : Bool) : d.reactionCheck a b c =
    let past := d.modFc (fun f => { f with checks := f.checks.tail })
    if d.checkFailed a b c = 0 then past
    else (if d.fc.cmdReset then (past.modFc (fun f => { f with cmdReset := false })).refuseCmd 0x20 else past).backupReaction
      (d.checkFailed a b c) := by
  simp only [reactionCheck, h, Bool.not_true, Bool.false_eq_true, if_false]
  rfl

theorem checkFailed_none {d : Dev} (h : ∀ n < 24, d.tstate n ≠ 3) : d.checkFailed true true true = 0 := by
  have hnone : (List.range 24).any (fun n => d.tstate n == 3) = false := by
    simpa using h
  rw [checkFailed, hnone]
  rfl

theorem reactionCheckDone_kept {d : Dev} {a b c : Bool} {e : Dev} (he : d.reactionCheck a b c = e) (hcmd : e.fc.cmdReset = false) :
    d.reactionCheckDone a b c = e := by
  simp only [reactionCheckDone, he, hcmd, Bool.false_eq_true, false_and, if_false]

theorem reactionCheckDone_reset {d : Dev} {a b c : Bool} {e : Dev} (he : d.reactionCheck a b c = e) (hcmd : e.fc.cmdReset = true)
    (hlast : e.fc.checks = []) : d.reactionCheckDone a b c = e.enterBoot 0x05 := by
  simp only [reactionCheckDone, he, hcmd, hlast, and_self, if_true]

theorem resetByReaction_idle {d : Dev} (h : d.fc.resetDue = false ∨ d.fc.pend ≠ [] ∨ d.fc.checks ≠ [] ∨ d.fc.backup = true ∨
    d.now < d.fc.resetAt + 4000) : d.resetByReaction = d := by
  refine if_neg fun hc => ?_
  obtain ⟨hdue, hpend, hchecks, hbk, hat⟩ := hc
  rcases h with h | h | h | h | h
  · simp [h] at hdue
  · exact h hpend
  · exact h hchecks
  · simp [h] at hbk
  · omega

end Dev

/-- Settles O46: the quiet period's ways out of SAFE, the recovery window, the due checks and the reset by a reaction. -/
theorem recoveryRuns : Obligations.RecoveryRuns := by
  unfold Obligations.RecoveryRuns
  intro d p
  refine ⟨fun h => Runs.dev (fun _ => rfl) (Dev.quietElapsed_idle h), fun hst hdue hsafe hbk => ?quiet, fun t ht => ?reached, fun hnone => ?none,
    fun hon => ⟨fun hdue => ?_, fun hdue => ?_⟩, fun a b c hon hchecks hcmd => ?early, fun t l hon hchecks hdue => ?due, fun h => ?idle,
    fun hon hdue hpend hchecks hbk hat => ?reset⟩
  case quiet =>
    have hrun := Dev.quietElapsed_eq hst hdue hsafe hbk
    refine ⟨fun hlt hprev hoff => ⟨_, ?_, Dev.recovered_spec hlt hoff⟩, fun hlt hprev => ?_, fun hle => ?_⟩
    · refine Runs.dev (fun _ => rfl) (hrun.trans ((if_pos hlt).trans (if_neg ?_)))
      rw [Dev.fld_of_pageRegs (Dev.pageRegs_countRecovery d (by decide)) (by decide)]
      exact hprev
    · have hboot := Dev.enterBoot_leaves d.countRecovery (cause := 0x09) (by decide)
      refine ⟨_, Runs.dev (fun _ => rfl) (hrun.trans ((if_pos hlt).trans (if_pos ?_))), hboot.1, hboot.2.1, hboot.2.2.2⟩
      rw [Dev.fld_of_pageRegs (Dev.pageRegs_countRecovery d (by decide)) (by decide)]
      exact hprev
    · obtain ⟨hstate, hrest⟩ := Dev.latchRecovery_spec d
      exact ⟨_, Runs.dev (fun _ => rfl) (hrun.trans (if_neg (Nat.not_lt.mpr hle))), hstate.trans hst, hrest⟩
  case reached =>
    simp only [Dev.quietDue, ht, decide_eq_true_eq]
    exact Iff.rfl
  case none =>
    simp only [Dev.quietDue, hnone]
  · exact Runs.island hon (fun _ => rfl) (if_pos hdue)
  · exact Runs.island hon (fun _ => rfl) (if_neg (Nat.not_le.mpr hdue))
  case early =>
    exact Runs.island hon (fun _ => rfl) (Dev.reactionCheckDone_kept (Dev.reactionCheck_early (Dev.checkDue_none hchecks) a b c) hcmd)
  case due =>
    intro past
    have hcheck := fun a b c => Dev.reactionCheck_due ((Dev.checkDue_cons hchecks).trans (decide_eq_true hdue)) a b c
    have hpast : (d.modFc fun f => { f with checks := f.checks.tail }) = past := by
      simp only [past, Dev.modFc, hchecks, List.tail_cons]
    simp only [hpast] at hcheck
    refine ⟨fun hstop => ?_, fun a b c => ?_⟩
    · have hpass := (hcheck true true true).trans (if_pos (Dev.checkFailed_none hstop))
      refine ⟨fun hcmd => Runs.island hon (fun _ => rfl) (Dev.reactionCheckDone_kept hpass hcmd), fun hcmd hl => ?_⟩
      have hboot := Dev.enterBoot_leaves past (cause := 0x05) (by decide)
      exact ⟨_, Runs.island hon (fun _ => rfl) (Dev.reactionCheckDone_reset hpass hcmd hl), hboot.1, hboot.2.1, hboot.2.2.2⟩
    · intro bad hbad
      refine ⟨fun hcmd hecmd => ?_, fun hcmd hecmd => ?_⟩
      · refine Runs.island hon (fun _ => rfl) (Dev.reactionCheckDone_kept ((hcheck a b c).trans ((if_neg hbad).trans ?_)) hecmd)
        simp only [hcmd, Bool.false_eq_true, if_false]
        rfl
      · refine Runs.island hon (fun _ => rfl) (Dev.reactionCheckDone_kept ((hcheck a b c).trans ((if_neg hbad).trans ?_)) hecmd)
        simp only [hcmd, if_true]
        rfl
  case idle =>
    refine Runs.dev (fun _ => rfl) (?_ : (d.whenIsland fun d => d.resetByReaction) = d)
    simp only [Dev.whenIsland, Dev.resetByReaction_idle h, ite_self]
  case reset =>
    have hboot := Dev.enterBoot_leaves ((d.bump (pg .fault) R.FAULT.RESETS).countRecovery) (cause := 0x08) (by decide)
    refine ⟨_, Runs.island hon (fun _ => rfl) (if_pos ⟨hdue, hpend, hchecks, ?_, hat⟩), hboot.1, hboot.2.1, hboot.2.2.2⟩
    simp [hbk]

end Sys2Proof.Machine
end

section
/-!
PROOFS. What the raising of a source leaves alone (R397–R403, R406): the registers of a page that no reaction writes, and the state of
the blocks that no reaction reaches.
-/
namespace Sys2Proof.Machine
namespace Dev

/-- The state of the blocks that no reaction reaches. -/
def bystanders (d : Dev) : (CompS × MramS × Vector NetS 3 × Vector CheckS 4 × HostS × SeqS × CellarS × SupplyS) × Bool × Nat × KeyFile :=
  ((d.comp, d.mram, d.net, d.check, d.host, d.seq, d.cel, d.supply), d.fc.selftestRun, d.now, d.keys)

/-- The registers of page `p`, and the blocks that no reaction reaches. -/
def beside (p : Nat) (d : Dev) := (d.pageRegs p, d.bystanders)

/-- A page that no reaction writes, but for its own FAULT. -/
abbrev Bystander (p : Nat) : Prop :=
  p ≠ pg .sys ∧ p ≠ pg .fault ∧ p ≠ pg .secboot ∧ p ≠ pg .gauge ∧ p ≠ pg .disch ∧ (p < 0x30 ∨ 0x58 ≤ p)

theorem Bystander.tile {p n : Nat} (h : Bystander p) (hn : n < 24) : p ≠ pg .tile n := by
  obtain ⟨-, -, -, -, -, h⟩ := h
  simp only [pg, PageKind.first]
  omega

theorem Bystander.conv {p g : Nat} (h : Bystander p) (hg : g < 8) : p ≠ pg .conv g := by
  obtain ⟨-, -, -, -, -, h⟩ := h
  simp only [pg, PageKind.first]
  omega

section Writes
variable (d : Dev) {p q : Nat}

theorem beside_setReg {o : Nat} (v : Word) (h : p ≠ q ∧ o < 0x1000) : beside p (d.setReg q o v) = beside p d :=
  Prod.ext (pageRegs_setReg d v h) (by simp [beside, bystanders])

theorem beside_bump {o : Nat} (k : Nat) (h : p ≠ q ∧ o < 0x1000) : beside p (d.bump q o k) = beside p d := beside_setReg d _ h

theorem beside_setFld {f : Fld} (v : Nat) (h : p ≠ q ∧ f.ofs < 0x1000) : beside p (d.setFld q f v) = beside p d := beside_setReg d _ h

theorem beside_setFlag {f : Fld} (b : Bool) (h : p ≠ q ∧ f.ofs < 0x1000) : beside p (d.setFlag q f b) = beside p d := beside_setFld d _ h

theorem beside_event {f : Fld} (h : p ≠ q ∧ f.ofs < 0x1000) : beside p (d.event q f) = beside p d := beside_setFld d _ h

@[simp] theorem beside_ite (c : Prop) [Decidable c] (a b : Dev) : beside p (if c then a else b) = if c then beside p a else beside p b :=
  apply_ite (beside p) _ _ _

@[simp] theorem beside_modTile (n : Nat) (f : TileS → TileS) : beside p (d.modTile n f) = beside p d := rfl
@[simp] theorem beside_modConv (n : Nat) (f : ConvS → ConvS) : beside p (d.modConv n f) = beside p d := rfl
@[simp] theorem beside_modGauge (f : GaugeS → GaugeS) : beside p (d.modGauge f) = beside p d := rfl
@[simp] theorem beside_withDisch (x : DischS) : beside p { d with disch := x } = beside p d := rfl
@[simp] theorem beside_withMemBoot (m : Mem) (b : BootS) : beside p { d with mem := m, boot := b } = beside p d := rfl
@[simp] theorem beside_bootDiscard : beside p d.bootDiscard = beside p d := rfl
@[simp] theorem beside_chgReacted : beside p d.chgReacted = beside p d := rfl
@[simp] theorem beside_restartQuiet : beside p d.restartQuiet = beside p d := rfl

end Writes

/-! ## Tiles -/

section Tiles
variable {p n : Nat} (d : Dev)

@[simp] theorem beside_cutPulse (c : Cmp) (x : Nat) : beside p (d.cutPulse n c x) = beside p d := by
  simp only [cutPulse]
  split
  · rfl
  · exact beside_modTile ..

@[simp] theorem beside_blankFrom (o : Out) (x : Nat) (c : Cmp) : beside p (d.blankFrom n o x c) = beside p d := by
  simp [blankFrom]

@[simp] theorem beside_levelAt (o : Out) (x : Nat) (c : Cmp) : beside p (d.levelAt n o x c) = beside p d := by
  simp [levelAt]

variable (h : p ≠ pg .tile n)
include h

theorem beside_rise (o : Out) (i : Interval) : beside p (d.rise n o i) = beside p d := by
  simp only [rise]
  split
  · rw [beside_modTile, beside_event _ ⟨h, by decide⟩, beside_bump _ _ ⟨h, by decide⟩, beside_modTile]
  · simp

theorem beside_rises (x k : Nat) : beside p (d.rises n x k) = beside p d := by
  induction k generalizing d with
  | zero => rfl
  | succ k ih =>
    simp only [rises]
    split
    · rfl
    · rw [ih, beside_rise _ h]

theorem beside_outputsLow : beside p (d.outputsLow n) = beside p d := by
  rw [outputsLow, beside_modTile]
  obtain heq | ⟨c, heq⟩ := d.takeTable_eq_or n
  · rw [heq]
  · rw [heq, beside_modTile, beside_setFld _ _ ⟨h, by decide⟩]

theorem beside_killTile (cause : TileS → TileS) : beside p (d.killTile n cause) = beside p d := by
  simp only [killTile]
  split
  · rfl
  · rw [beside_modTile, beside_setFld _ _ ⟨h, by decide⟩, stopNow, beside_outputsLow _ h, tileAdvance, beside_ite, beside_rises _ h, ite_self]

end Tiles

/-! ## Groups and DISCH -/

section Reaction
variable {p : Nat} (hp : Bystander p) (d : Dev)
include hp

theorem beside_gaugeProbeEnd_aborted (g : Nat) : beside p (d.gaugeProbeEnd g true) = beside p d := by
  obtain ⟨-, -, -, hgauge, -, -⟩ := hp
  have hfit : ∀ (e : Dev) (c : Nat), beside p (e.fitResult c) = beside p e := fun e c => by
    simp only [fitResult, beside_ite, beside_event _ (⟨hgauge, by decide⟩ : p ≠ pg .gauge ∧ F.GAUGE.EVENT_FIT.ofs < 0x1000),
      beside_event _ (⟨hgauge, by decide⟩ : p ≠ pg .gauge ∧ F.GAUGE.EVENT_FIT_REJECT.ofs < 0x1000),
      beside_bump _ _ (⟨hgauge, by decide⟩ : p ≠ pg .gauge ∧ R.GAUGE.FITS < 0x1000),
      beside_bump _ _ (⟨hgauge, by decide⟩ : p ≠ pg .gauge ∧ R.GAUGE.FIT_REJECTS < 0x1000),
      beside_setFld _ _ (⟨hgauge, by decide⟩ : p ≠ pg .gauge ∧ F.GAUGE.LAST_FIT_RESULT.ofs < 0x1000), ite_self]
  simp only [gaugeProbeEnd]
  split
  · rfl
  · simp [hfit]

theorem beside_clearGo {g : Nat} (hg : g < 8) : beside p (d.clearGo g) = beside p d := by
  have hconv := hp.conv hg
  have hdisch : p ≠ pg .disch := hp.2.2.2.2.1
  have hprobe : ∀ e : Dev, beside p (e.abortProbe g) = beside p e := fun e => by
    simp only [abortProbe]
    split
    · rw [beside_gaugeProbeEnd_aborted hp, beside_modConv, beside_setFlag _ _ ⟨hconv, by decide⟩, beside_setReg _ _ ⟨hconv, by decide⟩,
        beside_bump _ _ ⟨hconv, by decide⟩, beside_event _ ⟨hconv, by decide⟩]
    · rfl
  have hcirc : ∀ e : Dev, beside p (e.endCirc g) = beside p e := fun e => by
    simp only [endCirc]
    split
    · rw [beside_modConv, beside_ite, beside_setFld _ _ ⟨hdisch, by decide⟩, ite_self]
    · rfl
  have hrun : ∀ e : Dev, beside p (e.endRun g) = beside p e := fun e => by
    rw [endRun, beside_modConv, cleanPause, beside_modConv, hcirc, hprobe]
  have hwant : ∀ e : Dev, beside p (e.wantTiles g .stop) = beside p e := fun e => each_keeps (beside p) e _ _ fun _ _ _ => rfl
  have hgo := beside_setFlag d (f := F.CONV.GROUP_CTRL_GO) false (⟨hconv, by decide⟩ : p ≠ pg .conv g ∧ _)
  simp only [clearGo, enterStopped]
  split
  · exact hgo
  · rw [beside_setFlag _ _ ⟨hconv, by decide⟩, beside_setFld _ _ ⟨hconv, by decide⟩, hwant, hrun, hgo]

theorem beside_clearGos : beside p (d.each (List.range 8) clearGo) = beside p d :=
  each_keeps (beside p) d _ _ fun e _ hg => beside_clearGo hp e (List.mem_range.mp hg)

theorem beside_dischOn (trig : Nat) (guard byStart : Bool) : beside p (d.dischOn trig guard byStart) = beside p d := by
  obtain ⟨-, -, -, -, hdisch, -⟩ := hp
  have hmark : beside p (d.dischMarked trig guard) = beside p d := by
    simp only [dischMarked, beside_ite, beside_withDisch]
    rw [beside_setFld _ _ ⟨hdisch, by decide⟩, ite_self]
  rw [dischOn_eq]
  split
  · exact hmark
  · simp only [dischStarted, driveDisch, beside_withDisch, beside_ite]
    rw [beside_setFlag _ _ ⟨hdisch, by decide⟩, ite_self, beside_setFld _ _ ⟨hdisch, by decide⟩, hmark]

/-! ## The reaction of a severity -/

theorem beside_transition (st cause : Nat) (hst : 2 ≤ st ∧ st ≤ 5) : beside p (d.transition st cause) = beside p d := by
  simp only [transition, if_pos hst]
  exact beside_setReg _ _ ⟨hp.1, by decide⟩

theorem beside_record (s sev : Nat) (data : Word) (rep : Bool) : beside p (d.record s sev data rep) = beside p d := by
  obtain ⟨-, hfault, -⟩ := hp
  have hcount := beside_bump d 1 (⟨hfault, by decide⟩ : p ≠ pg .fault ∧ R.FAULT.RAISED < 0x1000)
  simp only [record]
  split
  · exact hcount
  · exact hcount

omit hp in
theorem beside_setFault (k : PageKind) (i b : Nat) (cause : Word) (h : p ≠ pg k i) : beside p (d.setFault k i b cause) = beside p d := by
  simp only [setFault, beside_ite]
  rw [beside_setReg _ _ ⟨h, by decide⟩, beside_ite, beside_setReg _ _ ⟨h, by decide⟩, ite_self, ite_self]

theorem beside_haltReaction : beside p d.haltReaction = beside p d := by
  have hstop : beside p (((d.chgReacted).transition 3 0x06).each (List.range 8) clearGo) = beside p d := by
    rw [beside_clearGos hp, beside_transition hp _ _ _ (by decide), beside_chgReacted]
  simp only [haltReaction]
  split
  · split <;> exact hstop
  · rfl

theorem beside_bootInterrupted : beside p d.bootInterrupted = beside p d := by
  have hboot : p ≠ pg .secboot := hp.2.2.1
  simp only [bootInterrupted]
  split
  · rw [beside_record hp, beside_setFault _ _ _ _ _ hboot, setBootState, beside_setFld _ _ ⟨hboot, by decide⟩, bootFailed,
      beside_bump _ _ ⟨hboot, by decide⟩, beside_setReg _ _ ⟨hboot, by decide⟩, beside_setFld _ _ ⟨hboot, by decide⟩, beside_bootDiscard]
  · rfl

theorem beside_safeReaction (rep : Bool) : beside p (d.safeReaction rep) = beside p d := by
  have hstopped : beside p d.stagesStopped = beside p d := by
    rw [stagesStopped, beside_clearGos hp, beside_dischOn hp]
    exact each_keeps (beside p) d _ _ fun e n hn => beside_killTile e (hp.tile (List.mem_range.mp hn)) _
  have hsettled : ∀ e : Dev, beside p (e.safeSettled rep) = beside p e := fun e => by cases rep <;> rfl
  rw [safeReaction_eq, hsettled, safeEntered, beside_ite, beside_transition hp _ _ _ (by decide), ite_self, beside_bootInterrupted hp,
    hstopped]

theorem beside_resetReaction : beside p d.resetReaction = beside p d := by
  obtain ⟨-, hfault, -⟩ := hp
  simp only [resetReaction]
  split
  · rfl
  · rw [beside_setFlag _ _ ⟨hfault, by decide⟩, beside_setFlag _ _ ⟨hfault, by decide⟩]

theorem beside_react (sev : Nat) (rep : Bool) : beside p (d.react sev rep) = beside p d := by
  have hfault : p ≠ pg .fault := hp.2.1
  have hevent : ∀ (e : Dev) (f : Fld), f.ofs < 0x1000 → beside p (e.event (pg .fault) f) = beside p e := fun e f hf => beside_event e ⟨hfault, hf⟩
  have hbump : ∀ (e : Dev) (o : Nat), o < 0x1000 → beside p (e.bump (pg .fault) o) = beside p e := fun e o ho => beside_bump e 1 ⟨hfault, ho⟩
  simp only [react]
  split
  · split <;> rfl
  · split
    · rfl
    · simp (disch := decide) only [beside_ite, beside_resetReaction hp, beside_safeReaction hp, beside_haltReaction hp, hevent, hbump, ite_self]

theorem beside_actOn (s : Nat) (data : Word) (rep : Bool) : beside p (d.actOn s data rep) = beside p d :=
  (beside_react hp _ _ _).trans (beside_record hp _ _ _ _ _)

theorem beside_setActive {s : Nat} (hs : s < 512) (on : Bool) : beside p (d.setActive s on) = beside p d :=
  beside_setFld d _ ⟨hp.2.1, by simp only [R.FAULT.ACTIVE]; omega⟩

section Source
variable {k : PageKind} {i b : Nat} (h : p ≠ pg k i) (hs : srcNo k i b < 512)
include h

theorem beside_raise (detail : Nat) : beside p (d.raise k i b detail) = beside p d := by
  simp only [raise, raiseWith, Bool.false_and, Bool.or_false, Bool.false_eq_true, if_false]
  split
  · rfl
  · rw [beside_actOn hp, beside_setFault _ _ _ _ _ h]

include hs

theorem beside_raiseLevel (detail : Nat) : beside p (d.raiseLevel k i b detail) = beside p d := by
  have hactive := beside_setActive hp d hs true
  simp only [raiseLevel, raiseWith, if_true]
  split
  · rfl
  · rw [beside_actOn hp, beside_setFault _ _ _ _ _ h]
    exact hactive

omit h in
theorem beside_lower : beside p (d.lower k i b) = beside p d := by
  have hactive := beside_setActive hp d hs false
  simp only [lower]
  split
  · split
    · exact hactive
    · exact hactive
  · rfl

theorem beside_level (on : Bool) (detail : Nat) : beside p (d.level k i b on detail) = beside p d := by
  rw [level, beside_ite, beside_raiseLevel hp d h hs, beside_lower hp d hs, ite_self]

end Source
end Reaction

theorem pageRegs_of_beside {p : Nat} {d e : Dev} (h : beside p e = beside p d) : e.pageRegs p = d.pageRegs p := congrArg Prod.fst h

theorem bystanders_of_beside {p : Nat} {d e : Dev} (h : beside p e = beside p d) : e.bystanders = d.bystanders := congrArg Prod.snd h

theorem selftestRun_of_beside {p : Nat} {d e : Dev} (h : beside p e = beside p d) : e.fc.selftestRun = d.fc.selftestRun :=
  congrArg (fun x => x.2.2.1) h

end Dev
end Sys2Proof.Machine
end

section
/-!
PROOFS. The safety island's own checks (R404, R405, R415, R417–R420, R423).
-/
namespace Sys2Proof.Machine
namespace Dev

/-! ## Comparisons (R404, R405, R415, R417) -/

/-- The first word of SEV whose copies differ. -/
def differingSev (d : Dev) : Option Nat :=
  (List.range 48).find? (fun w => d.sevCopyWord w != d.reg (pg .fault) (R.FAULT.SEV + 4 * w))

theorem configCompare_named (d : Dev) (w : Nat) : d.configCompare (some w) = d.raiseLevel .scaolo 0 B.SCAOLO.ISL_CONFIG w := rfl

theorem configCompare_alike {d : Dev} (h : ∀ w < 48, d.sevCopyWord w = d.reg (pg .fault) (R.FAULT.SEV + 4 * w)) :
    d.configCompare none = d.lower .scaolo 0 B.SCAOLO.ISL_CONFIG := by
  have hnone : d.differingSev = none := List.find?_eq_none.mpr fun w hw => by
    simp [h w (List.mem_range.mp hw)]
  show (match d.differingSev with | some w => _ | none => _) = _
  rw [hnone]

theorem configCompare_first {d : Dev} {w : Nat} (hw : w < 48) (hne : d.sevCopyWord w ≠ d.reg (pg .fault) (R.FAULT.SEV + 4 * w))
    (h : ∀ v < w, d.sevCopyWord v = d.reg (pg .fault) (R.FAULT.SEV + 4 * v)) :
    d.configCompare none = d.raiseLevel .scaolo 0 B.SCAOLO.ISL_CONFIG w := by
  have hsome : d.differingSev = some w := by
    rw [differingSev, List.find?_range_eq_some]
    refine ⟨by simpa using hne, List.mem_range.mpr hw, fun v hv => ?_⟩
    simp [h v hv]
  show (match d.differingSev with | some w => _ | none => _) = _
  rw [hsome]

/-- The references alike at a comparison. -/
theorem referenceCompare_alike {d : Dev} {diff : Nat} (h : diff ≤ 20) :
    d.referenceCompare diff = (d.modFc (fun f => { f with refDiffs := 0 })).lower .scaolo 0 B.SCAOLO.ISL_REF := by
  simp only [referenceCompare, if_neg (Nat.not_lt.mpr h), if_true]

theorem referenceCompare_differ {d : Dev} {diff : Nat} (h : 20 < diff) : d.referenceCompare diff =
    if 3 ≤ d.fc.refDiffs + 1 then (d.modFc (fun f => { f with refDiffs := d.fc.refDiffs + 1 })).raiseLevel .scaolo 0 B.SCAOLO.ISL_REF diff
    else d.modFc (fun f => { f with refDiffs := d.fc.refDiffs + 1 }) := by
  simp only [referenceCompare, if_pos h, if_neg (Nat.succ_ne_zero _)]

theorem islandCompare_eq (d : Dev) : d.islandCompare true = d.raiseLevel .scaolo 0 B.SCAOLO.ISL_COMPARE ∧
    d.islandCompare false = d.lower .scaolo 0 B.SCAOLO.ISL_COMPARE := by
  simp [islandCompare, level]

theorem readback_follows (d : Dev) (b us : Nat) : d.readback b false us = d.lower .scaolo 0 b := by
  simp [readback]

theorem readback_differs (d : Dev) (b us : Nat) : d.readback b true us = if 10 ≤ us then d.raiseLevel .scaolo 0 b else d := by
  simp [readback]

/-! ## The start of the self-tests (R419) -/

theorem selftestRun_idle {d : Dev} (h : d.state ≠ 2 ∨ (d.phase ≠ 0 ∧ d.phase ≠ 9) ∨ d.fc.selftestRun = true ∨ d.seq.upDue = true) :
    d.selftestRun = d := by
  refine if_neg fun hc => ?_
  obtain ⟨hst, hph, hrun, hup⟩ := hc
  rcases h with h | ⟨h0, h9⟩ | h | h
  · exact h hst
  · exact hph.elim h0 h9
  · simp [h] at hrun
  · simp [h] at hup

/-- What is left of an earlier run: the kept bit of ISL_BIST, and ISL_SELFTEST where that failed. -/
def selftestCleared (d : Dev) : Dev :=
  let keep := d.fld (pg .scaolo) ⟨R.SCAOLO.SELFTEST, 0, 1⟩
  let d := d.setReg (pg .scaolo) R.SCAOLO.SELFTEST (BitVec.ofNat 32 keep)
  if keep = 1 then d.lower .scaolo 0 B.SCAOLO.ISL_SELFTEST else d

theorem selftestRun_begins {d : Dev} (hst : d.state = 2) (hph : d.phase = 0 ∨ d.phase = 9) (hrun : d.fc.selftestRun = false)
    (hup : d.seq.upDue = false) : d.selftestRun = d.selftestCleared.modFc (fun f => { f with selftestRun := true }) := by
  refine if_pos ⟨hst, hph, ?_, ?_⟩
  · simp [hrun]
  · simp [hup]

theorem bystander_scaolo : Bystander (pg .scaolo) := by decide
theorem bystander_cal : Bystander (pg .cal) := by decide

theorem reg_selftestCleared (d : Dev) : d.selftestCleared.reg (pg .scaolo) R.SCAOLO.SELFTEST =
    BitVec.ofNat 32 (d.fld (pg .scaolo) ⟨R.SCAOLO.SELFTEST, 0, 1⟩) := by
  simp only [selftestCleared]
  split
  · rw [reg_of_pageRegs (pageRegs_of_beside (beside_lower bystander_scaolo _ (by decide))) (by decide), reg_setReg_self]
  · exact reg_setReg_self ..

/-- The results of a run that begins: the kept bit alone. -/
theorem selftestBegun_spec (d : Dev) : let t := d.selftestCleared.modFc (fun f => { f with selftestRun := true })
    t.fc.selftestRun = true ∧ t.fld (pg .scaolo) F.SCAOLO.SELFTEST_PASSED = d.fld (pg .scaolo) ⟨R.SCAOLO.SELFTEST, 0, 1⟩ ∧
    t.flag (pg .scaolo) F.SCAOLO.SELFTEST_PASS = false ∧ t.flag (pg .scaolo) F.SCAOLO.SELFTEST_DONE = false ∧ t.mem = d.mem ∧
    t.keys = d.keys := by
  have hreg := d.reg_selftestCleared
  have hbit : d.fld (pg .scaolo) ⟨R.SCAOLO.SELFTEST, 0, 1⟩ = 0 ∨ d.fld (pg .scaolo) ⟨R.SCAOLO.SELFTEST, 0, 1⟩ = 1 := by
    have hlt : d.fld (pg .scaolo) ⟨R.SCAOLO.SELFTEST, 0, 1⟩ < 2 ^ 1 := bitsOf_lt _ _ _
    omega
  have hfld : ∀ f : Fld, f.ofs = R.SCAOLO.SELFTEST →
      (d.selftestCleared.modFc (fun f => { f with selftestRun := true })).fld (pg .scaolo) f =
        bitsOf (BitVec.ofNat 32 (d.fld (pg .scaolo) ⟨R.SCAOLO.SELFTEST, 0, 1⟩)).toNat f.lo f.w := fun f hf => by
    rw [fld_modFc, fld, hf, hreg]
  intro t
  refine ⟨rfl, ?_, ?_, ?_, ?_, ?_⟩
  · rw [hfld _ rfl]
    rcases hbit with h | h <;> rw [h] <;> decide
  · rw [flag, hfld _ rfl]
    rcases hbit with h | h <;> rw [h] <;> decide
  · rw [flag, hfld _ rfl]
    rcases hbit with h | h <;> rw [h] <;> decide
  · simp [t, selftestCleared]
  · simp [t, selftestCleared]

/-! ## Their end (R204, R419, R420) -/

section Failed
variable (d : Dev) (x : BitVec 10) (y : BitVec 17)

theorem bitAt_testsFailed (i : Nat) : bitAt (d.testsFailed x.toNat y.toNat) i =
    if i = 7 then (List.range 24).all (fun n => !d.flag (pg .tile n) F.TILE.CAL_STATUS_VALID)
    else if i = 3 then y.toNat != 0
    else if i = 0 then !d.flag (pg .scaolo) ⟨R.SCAOLO.SELFTEST, 0, 1⟩
    else bitAt x.toNat i := by
  have hb2n : ∀ b : Bool, (b2n b).testBit 0 = b := by decide
  have hx : x.toNat % 1024 = x.toNat := Nat.mod_eq_of_lt x.isLt
  have hbit : d.fld (pg .scaolo) ⟨R.SCAOLO.SELFTEST, 0, 1⟩ = 0 ∨ d.fld (pg .scaolo) ⟨R.SCAOLO.SELFTEST, 0, 1⟩ = 1 := by
    have hlt : d.fld (pg .scaolo) ⟨R.SCAOLO.SELFTEST, 0, 1⟩ < 2 ^ 1 := bitsOf_lt _ _ _
    omega
  have hkept : (1 - d.fld (pg .scaolo) ⟨R.SCAOLO.SELFTEST, 0, 1⟩).testBit 0 = !d.flag (pg .scaolo) ⟨R.SCAOLO.SELFTEST, 0, 1⟩ := by
    rw [flag]
    rcases hbit with h | h <;> rw [h] <;> decide
  have hat : ∀ n : Nat, (n ≤ i ∧ i < n + 1) ↔ i = n := fun n => by omega
  simp only [bitAt_eq_testBit, testsFailed, testBit_setBits, hx, hat]
  split
  · next h => rw [h]; exact hb2n _
  · split
    · next h => rw [h]; exact hb2n _
    · split
      · next h => rw [h]; exact hkept
      · rfl

/-- No trim fails where no test does. -/
theorem trims_of_testsFailed (h : d.testsFailed x.toNat y.toNat = 0) : y = 0 := by
  have h3 := d.bitAt_testsFailed x y 3
  rw [h] at h3
  have : (y.toNat != 0) = false := h3.symm
  exact BitVec.eq_of_toNat_eq (by simpa using this)

end Failed

/-- The trims of the converters as the check of the factory trim leaves them. -/
def trimMarked (d : Dev) (bad : Nat) : Dev := d.setReg (pg .cal) R.CAL.FACTORY (BitVec.ofNat 32 (0x1FFFF - bad % 0x20000))

theorem trimCheck_eq (d : Dev) (bad : Nat) : d.trimCheck bad =
    ((d.trimMarked bad).each (List.range 16) fun d c => d.level .adc c B.ADC.ADC_TRIM (bitAt bad c)).level .monadc 0 B.MONADC.MON_TRIM
      (bitAt bad 16) := rfl

/-- A page below those of the converters keeps its registers as the trims are judged. -/
theorem beside_trimCheck {p : Nat} (hp : Bystander p) (hmon : p ≠ pg .monadc) (hadc : p < 0x60) (d : Dev) (bad : Nat) :
    beside p (d.trimCheck bad) = beside p (d.trimMarked bad) := by
  rw [trimCheck_eq, beside_level hp _ hmon (by decide)]
  refine each_keeps (beside p) _ _ _ fun e c hc => beside_level hp _ ?_ (srcNo_lt (List.mem_range.mp hc) (by decide)) _ _
  simp only [pg, PageKind.first]
  omega

theorem store_trimCheck_none (d : Dev) : (d.trimCheck 0).mem = d.mem ∧ (d.trimCheck 0).keys = d.keys := by
  have heach := each_keeps (fun e : Dev => (e.mem, e.keys)) (d.trimMarked 0) (List.range 16)
    (fun d c => d.level .adc c B.ADC.ADC_TRIM (bitAt 0 c)) fun e c _ => by simp [level, bitAt]
  obtain ⟨hmem, hkeys⟩ := Prod.mk.inj heach
  rw [trimCheck_eq]
  have hlower : ∀ e : Dev, e.level .monadc 0 B.MONADC.MON_TRIM (bitAt 0 16) = e.lower .monadc 0 B.MONADC.MON_TRIM := fun _ => rfl
  rw [hlower, (lower_store ..).1, (lower_store ..).2]
  exact ⟨hmem.trans (by simp [trimMarked]), hkeys.trans (by simp [trimMarked])⟩

/-- The results of a run of the self-tests, before ISL_SELFTEST. -/
def selftestJudged (d : Dev) (bad trims : Nat) : Dev :=
  ((((d.modFc (fun f => { f with selftestRun := false })).trimCheck trims).setFld (pg .scaolo) F.SCAOLO.SELFTEST_PASSED
    (1023 - bad)).setFlag (pg .scaolo) F.SCAOLO.SELFTEST_DONE true).event (pg .scaolo) F.SCAOLO.EVENT_SELFTEST_DONE

theorem selftestDone_idle {d : Dev} (h : d.fc.selftestRun = false) (failed trims : Nat) : d.selftestDone failed trims = d :=
  if_neg (by simp [h])

theorem selftestDone_run {d : Dev} (h : d.fc.selftestRun = true) (failed trims : Nat) : d.selftestDone failed trims =
    let bad := d.testsFailed failed trims
    let e := d.selftestJudged bad trims
    if bad = 0 then (e.setFlag (pg .scaolo) F.SCAOLO.SELFTEST_PASS true).modFc (fun f => { f with faultnLatch := false })
    else if e.active (srcNo .scaolo 0 B.SCAOLO.ISL_SELFTEST) then
      e.refault .scaolo 0 B.SCAOLO.ISL_SELFTEST (causeWord B.SCAOLO.ISL_SELFTEST bad)
    else e.raiseLevel .scaolo 0 B.SCAOLO.ISL_SELFTEST bad := if_pos h

theorem selftestJudged_spec (d : Dev) (bad : Nat) (y : BitVec 17) : let e := d.selftestJudged bad y.toNat
    e.fld (pg .scaolo) F.SCAOLO.SELFTEST_PASSED = 1023 - bad ∧
    e.flag (pg .scaolo) F.SCAOLO.SELFTEST_PASS = d.flag (pg .scaolo) F.SCAOLO.SELFTEST_PASS ∧
    e.flag (pg .scaolo) F.SCAOLO.SELFTEST_DONE = true ∧ e.fc.selftestRun = false ∧
    e.reg (pg .cal) R.CAL.FACTORY = BitVec.ofNat 32 (0x1FFFF - y.toNat) ∧ (y = 0 → e.mem = d.mem ∧ e.keys = d.keys) := by
  have hy : y.toNat % 0x20000 = y.toNat := Nat.mod_eq_of_lt y.isLt
  have hscaolo := beside_trimCheck bystander_scaolo (by decide) (by decide) (d.modFc (fun f => { f with selftestRun := false })) y.toNat
  have hcal := beside_trimCheck bystander_cal (by decide) (by decide) (d.modFc (fun f => { f with selftestRun := false })) y.toNat
  have hresults : beside (pg .cal) (d.selftestJudged bad y.toNat) =
      beside (pg .cal) ((d.modFc (fun f => { f with selftestRun := false })).trimMarked y.toNat) := by
    rw [selftestJudged, beside_event _ ⟨by decide, by decide⟩, beside_setFlag _ _ ⟨by decide, by decide⟩,
      beside_setFld _ _ ⟨by decide, by decide⟩, hcal]
  intro e
  refine ⟨?_, ?_, ?_, (selftestRun_of_beside hresults).trans rfl, ?_, fun h => ?_⟩
  · simp (disch := decide) only [e, selftestJudged, reads_apart, reads_self]
    exact Nat.mod_eq_of_lt (by simp only [F.SCAOLO.SELFTEST_PASSED]; omega)
  · simp (disch := decide) only [e, selftestJudged, reads_apart]
    rw [flag_of_pageRegs (pageRegs_of_beside hscaolo) (by decide), trimMarked,
      flag_of_pageRegs (pageRegs_setReg _ _ ⟨by decide, by decide⟩) (by decide), flag_modFc]
  · simp (disch := decide) only [e, selftestJudged, reads_apart, reads_self]
  · rw [reg_of_pageRegs (pageRegs_of_beside hresults) (by decide), trimMarked, reg_setReg_self, hy]
  · have hstore := store_trimCheck_none (d.modFc (fun f => { f with selftestRun := false }))
    subst h
    simp only [e, selftestJudged]
    exact ⟨by simpa using hstore.1, by simp⟩

/-- Every self-test passed. -/
theorem selftestPassed_spec (e : Dev) : let t := (e.setFlag (pg .scaolo) F.SCAOLO.SELFTEST_PASS true).modFc (fun f => { f with faultnLatch := false })
    t.fld (pg .scaolo) F.SCAOLO.SELFTEST_PASSED = e.fld (pg .scaolo) F.SCAOLO.SELFTEST_PASSED ∧
    t.flag (pg .scaolo) F.SCAOLO.SELFTEST_PASS = true ∧
    t.flag (pg .scaolo) F.SCAOLO.SELFTEST_DONE = e.flag (pg .scaolo) F.SCAOLO.SELFTEST_DONE ∧
    t.reg (pg .cal) R.CAL.FACTORY = e.reg (pg .cal) R.CAL.FACTORY ∧ t.fc.faultnLatch = false ∧ t.mem = e.mem ∧ t.keys = e.keys := by
  refine ⟨?_, ?_, ?_, ?_, rfl, by simp, by simp⟩
  · rw [fld_modFc, fld_setFlag_apart _ _ (by decide)]
  · rw [flag_modFc, flag_setFlag_self _ _ _ _ (by decide) (by decide)]
  · rw [flag_modFc, flag_setFlag_apart _ _ (by decide)]
  · rw [reg_modFc, reg_of_pageRegs (pageRegs_setFlag _ _ ⟨by decide, by decide⟩) (by decide)]

theorem bitAt_testsFailed_trims (d : Dev) (x : BitVec 10) (y : BitVec 17) : bitAt (d.testsFailed x.toNat y.toNat) 3 = true ↔ y ≠ 0 := by
  rw [bitAt_testsFailed]
  simp [BitVec.toNat_eq]

theorem bitAt_testsFailed_tiles (d : Dev) (x : BitVec 10) (y : BitVec 17) : bitAt (d.testsFailed x.toNat y.toNat) 7 = true ↔
    ∀ n < 24, d.flag (pg .tile n) F.TILE.CAL_STATUS_VALID = false := by
  rw [bitAt_testsFailed]
  simp

/-! ## Stop-line tests and arming (R418, R423) -/

/-- The stop line of a tile is due for a test. -/
abbrev PathTestDue (d : Dev) (n : Nat) : Prop := d.tstate n ≠ 3 ∧ ((d.state = 2 ∧ vget d.fc.ptBoot n false = false) ∨
  (d.flag (pg .scaolo) F.SCAOLO.PATHTEST_CFG_EN = true ∧
    vget d.fc.ptLast n 0 + 400000 * d.fld (pg .scaolo) F.SCAOLO.PATHTEST_CFG_INTERVAL ≤ d.now))

theorem pathTestDue_iff (d : Dev) (n : Nat) : d.pathTestDue n = true ↔ d.PathTestDue n := by
  simp [pathTestDue]

/-- A stop-line test counted. -/
def pathTested (d : Dev) (n : Nat) : Dev := (d.bump (pg .scaolo) R.SCAOLO.PATHTESTS).modFc (fun f =>
  { f with ptLast := vmod f.ptLast n (fun _ => d.now), ptBoot := vmod f.ptBoot n (fun _ => true) })

theorem pathTest_due {d : Dev} {n : Nat} (h : d.PathTestDue n) (ack : Bool) :
    d.pathTest n ack = if ack then d.pathTested n else (d.pathTested n).raise .scaolo 0 B.SCAOLO.ISL_PATHTEST n :=
  if_pos ((d.pathTestDue_iff n).mpr h)

theorem pathTest_idle {d : Dev} {n : Nat} (h : ¬ d.PathTestDue n) (ack : Bool) : d.pathTest n ack = d :=
  if_neg fun hc => h ((d.pathTestDue_iff n).mp hc)

theorem armResult_otherState {d : Dev} (h : d.state ≠ 3) : d.armResult = 2 := if_pos h

theorem armResult_noPass {d : Dev} (hst : d.state = 3) (h : d.flag (pg .scaolo) F.SCAOLO.SELFTEST_PASS = false) : d.armResult = 3 := by
  simp only [armResult, hst, h, ne_eq, not_true_eq_false, if_false, Bool.not_false, if_true]

theorem scaoloArm_keyed (d : Dev) {w : Word} (hkey : bitsOf w.toNat 16 16 = 0xA3E1 ∧ bitAt w.toNat 0 = true) : d.scaoloArm w =
    if d.armResult = 1 then ((d.setFld (pg .scaolo) F.SCAOLO.ARM_STATUS_RESULT 1).setFlag (pg .scaolo) F.SCAOLO.ARM_STATUS_ARMED
      true).event (pg .scaolo) F.SCAOLO.EVENT_ARMED
    else d.setFld (pg .scaolo) F.SCAOLO.ARM_STATUS_RESULT d.armResult := by
  rw [scaoloArm, if_pos hkey]
  by_cases h : d.armResult = 1
  · simp only [h, if_true]
  · simp only [h, if_false]

theorem blockWrite_scaoloArm (d : Dev) (m : Master) (w : Word) : d.blockWrite m .scaolo 0 R.SCAOLO.ARM w {} = d.scaoloArm w := by
  rw [blockWrite, if_pos rfl]

end Dev

/-- Settles O47: the comparisons, the self-tests, the stop-line tests and the arming request of the island. -/
theorem islandChecksRun : Obligations.IslandChecksRun := by
  unfold Obligations.IslandChecksRun
  intro d m p
  refine ⟨fun hoff => ⟨Runs.dev (fun _ => rfl) (Dev.whenIsland_neg hoff), Runs.dev (fun _ => rfl) (Dev.whenIsland_neg hoff),
    Runs.dev (fun _ => rfl) (Dev.whenIsland_neg hoff), Runs.dev (fun _ => rfl) (Dev.whenIsland_neg hoff)⟩, fun hon => ?island,
    fun n hlive => ?pathtest, fun h => ?arming⟩
  case island =>
    refine ⟨fun w => Runs.island hon (fun _ => rfl) (d.configCompare_named w), fun h => Runs.island hon (fun _ => rfl) (Dev.configCompare_alike h),
      fun w hw hne h => Runs.island hon (fun _ => rfl) (Dev.configCompare_first hw hne h),
      Runs.island hon (fun _ => rfl) (Dev.islandCompare_eq d).1, Runs.island hon (fun _ => rfl) (Dev.islandCompare_eq d).2, fun diff => ?references, fun us => ?readbacks, fun hst hph hrun hup => ?begin,
      fun h => Runs.island hon (fun _ => rfl) (Dev.selftestRun_idle h),
      fun x y h => Runs.island hon (fun _ => rfl) (Dev.selftestDone_idle h _ _), fun x y hrun => ?done⟩
    case references =>
      intro e
      refine ⟨fun h => Runs.island hon (fun _ => rfl) (Dev.referenceCompare_alike h), fun h hfew => ?_, fun h hmany => ?_⟩
      · exact Runs.island hon (fun _ => rfl) ((Dev.referenceCompare_differ h).trans (if_neg (by omega)))
      · exact Runs.island hon (fun _ => rfl) ((Dev.referenceCompare_differ h).trans (if_pos (by omega)))
    case readbacks =>
      intro alive faultn
      refine ⟨Runs.island hon (fun _ => rfl) (d.readback_follows alive _), Runs.island hon (fun _ => rfl) (d.readback_differs alive _),
        Runs.island hon (fun _ => rfl) (d.readback_follows faultn _), fun hn => Runs.island hon (fun _ => rfl) ?_,
        fun hn => Runs.island hon (fun _ => rfl) ?_⟩
      · rw [Dev.faultnReadback, hn]
        exact d.readback_follows faultn _
      · rw [Dev.faultnReadback, hn]
        exact d.readback_differs faultn _
    case begin =>
      exact ⟨_, Runs.island hon (fun _ => rfl) (Dev.selftestRun_begins hst hph hrun hup), Dev.selftestBegun_spec d⟩
    case done =>
      intro bad
      have hbits := d.bitAt_testsFailed x y
      have hdone := Dev.selftestDone_run hrun x.toNat y.toNat
      obtain ⟨hpassed, hpass, hmark, hover, htrims, hstore⟩ := d.selftestJudged_spec bad y
      refine ⟨(hbits 0).trans rfl, d.bitAt_testsFailed_trims x y, d.bitAt_testsFailed_tiles x y, fun i _ h0 h3 h7 => ?_, fun h => ?_,
        fun h => ?_⟩
      · exact (hbits i).trans (by rw [if_neg h7, if_neg h3, if_neg h0])
      · have hy := d.trims_of_testsFailed x y h
        obtain ⟨hmem, hkeys⟩ := hstore hy
        obtain ⟨tpassed, tpass, tmark, ttrims, tlatch, tmem, tkeys⟩ := Dev.selftestPassed_spec (d.selftestJudged bad y.toNat)
        exact ⟨_, Runs.island hon (fun _ => rfl) (hdone.trans (if_pos h)), tpassed.trans (hpassed.trans (by rw [h])), tpass,
          tmark.trans hmark, ttrims.trans (htrims.trans (by rw [hy]; rfl)), tlatch, tmem.trans hmem, tkeys.trans hkeys⟩
      · refine ⟨d.selftestJudged bad y.toNat, hpassed, hpass, hover, htrims, hstore, fun hact => ?_, fun hact => ?_⟩
        · exact Runs.island hon (fun _ => rfl) (hdone.trans ((if_neg h).trans (if_neg (by simp [bad] at hact; simp [hact]))))
        · exact Runs.island hon (fun _ => rfl) (hdone.trans ((if_neg h).trans (if_pos hact)))
  case pathtest =>
    intro due e
    refine ⟨fun h ack => Runs.live hlive (fun _ => rfl) (Dev.pathTest_idle h ack), fun h => ⟨?_, ?_⟩⟩
    · exact Runs.live hlive (fun _ => rfl) ((Dev.pathTest_due h true).trans (if_pos rfl))
    · exact Runs.live hlive (fun _ => rfl) ((Dev.pathTest_due h false).trans (if_neg Bool.false_ne_true))
  case arming =>
    have hwrite := (d.blockWrite_scaoloArm m 0xA3E10001).trans (d.scaoloArm_keyed (by decide))
    refine ⟨fun hok => Runs.block (by decide) (by decide) h (by decide) (fun _ => rfl) (hwrite.trans (if_pos hok)),
      fun hbad => Runs.block (by decide) (by decide) h (by decide) (fun _ => rfl) (hwrite.trans (if_neg hbad)),
      fun hst => Dev.armResult_otherState hst, fun hst hpass => Dev.armResult_noPass hst hpass⟩

end Sys2Proof.Machine
end

section
/-!
PROOFS. A discarded boot attempt (R439): only the part of the load ranges that its segments have filled is cleared, so that a byte which a load
range covers and no segment has reached keeps what memory held before the attempt.
-/
namespace Sys2Proof.Machine

/-- A header whose first load range is the first word of system SRAM. -/
def headerOfOneWord : List Nat := List.replicate 0x20 0 ++ [0, 0, 0, 0x20, 4, 0, 0, 0]

/-- A device in BOOT with a header accepted and no segment taken, whose system SRAM holds a byte from before. -/
def attemptBegun : Dev :=
  { ({} : Dev).setReg (pg .sys) R.SYS.STATE 2 with mem := Mem.setByte [] 0x20000000 1, boot := { hdr := headerOfOneWord } }.setBootState 2

theorem attemptBegun_covers : (0x20000000, 4) ∈ Image.ranges attemptBegun.boot.hdr := by decide

/-- The failure of the attempt leaves the byte. -/
theorem byte_attemptBegun_failed : Mem.byte (attemptBegun.bootFail 0x08).mem 0x20000000 = 1 := by decide

/-- Refutes O48: the attempt that `attemptBegun` discards has taken no segment, and a byte that its load ranges cover keeps its value. -/
theorem not_bootTransfersRun : ¬ Obligations.BootTransfersRun := by
  unfold Obligations.BootTransfersRun
  intro h
  obtain ⟨-, -, -, -, -, -, -, -, -, -, -, -, -, -, -, -, hfail⟩ := h attemptBegun 0 [] (by decide)
  obtain ⟨-, -, -, -, -, hclear⟩ := hfail 0x08
  have hzero := hclear 0x20000000 ⟨(0x20000000, 4), attemptBegun_covers, by decide, by decide⟩
  rw [byte_attemptBegun_failed] at hzero
  cases hzero

end Sys2Proof.Machine
end

section
/-!
PROOFS. The host port and boot frames in fragments (R445, R525–R529).
-/
namespace Sys2Proof.Machine
namespace Dev

/-! ## Fragments on the boot path of the T1S network (R529) -/

theorem bootFragment_elsewhere {d : Dev} {way : Way} (h : d.state ≠ 2 ∨ way = .port ∨ d.fld (pg .secboot) F.SECBOOT.BOOT_CFG_PATH ≠ wayPath way)
    (first last : Bool) (n : Nat) (l : List Nat) : d.bootFragment way first last n l = d := if_pos h

section Fragment
variable {d : Dev} (hst : d.state = 2) (hpath : d.fld (pg .secboot) F.SECBOOT.BOOT_CFG_PATH = 2)
include hst hpath

theorem fragment_heard : ¬ (d.state ≠ 2 ∨ Way.t1s = .port ∨ d.fld (pg .secboot) F.SECBOOT.BOOT_CFG_PATH ≠ wayPath .t1s) := by
  simp [hst, hpath, wayPath]

/-- A fragment that begins a frame. -/
theorem bootFragment_first (hnone : d.boot.frag = none) (last : Bool) (n : Nat) (l : List Nat) :
    d.bootFragment .t1s true last n l = d.fragJoin .t1s l ((n + 1) % 65536) last := by
  simp only [bootFragment, if_neg (fragment_heard hst hpath), fragDiscard, hnone, if_true]

theorem bootFragment_orphan (hnone : d.boot.frag = none) (last : Bool) (n : Nat) (l : List Nat) : d.bootFragment .t1s false last n l = d := by
  simp only [bootFragment, if_neg (fragment_heard hst hpath), hnone, Bool.false_eq_true, if_false]

/-- A fragment beside a partial frame. -/
theorem bootFragment_next {old : List Nat} {c : Nat} (hfrag : d.boot.frag = some (old, c)) (last : Bool) {n : Nat} (hn : n < 65536)
    (l : List Nat) : d.bootFragment .t1s false last n l =
      if c = n then d.fragJoin .t1s (old ++ l) ((n + 1) % 65536) last else d.fragDiscard .t1s := by
  simp only [bootFragment, if_neg (fragment_heard hst hpath), hfrag, Bool.false_eq_true, if_false, Nat.mod_eq_of_lt hn]

end Fragment

theorem fragDiscard_some {d : Dev} {old : List Nat} {c : Nat} (h : d.boot.frag = some (old, c)) (way : Way) : d.fragDiscard way =
    (d.modBoot (fun b => { b with frag := none })).frameCrcError ⟨way, le old 0 1, le old 1 1, le old 2 2⟩ (bootCode (le old 0 1)) := by
  simp only [fragDiscard, h]

theorem fragDiscard_none {d : Dev} (h : d.boot.frag = none) (way : Way) : d.fragDiscard way = d := by
  simp only [fragDiscard, h]

/-- A gap ends the partial frame once it exceeds 10 ms. -/
theorem fragmentGap_t1s {d : Dev} (hpath : d.fld (pg .secboot) F.SECBOOT.BOOT_CFG_PATH = 2) :
    d.fragmentGap = if d.now ≤ d.boot.fragAt + 4000000 then d else d.fragDiscard .t1s := by
  simp only [fragmentGap, hpath, (by decide : ¬ (2 : Nat) = 1), if_false]

/-! ## Requests (R445, R525, R526) -/

theorem portRead_of_lenOk {d : Dev} {len : BitVec 16} (h : len.toNat ≤ 16384) (tag : BitVec 8) (a : Word) :
    d.portRead tag len a = d.hostRead ⟨.port, 0x20, tag.toNat, len.toNat⟩ a.toNat := by
  refine if_pos ?_
  simpa [lenOk] using h

theorem portRead_tooLong {d : Dev} {len : BitVec 16} (h : 16384 < len.toNat) (tag : BitVec 8) (a : Word) :
    d.portRead tag len a = d.respond ⟨.port, 0x20, tag.toNat, len.toNat⟩ 3 [] := by
  refine if_neg ?_
  simpa [lenOk] using h

theorem portWords_of_lenOk {d : Dev} {l : List Word} (h : l.length ≤ 16384) (tag : BitVec 8) (a : Word) :
    d.portWords tag a l = d.hostWrite ⟨.port, 0x21, tag.toNat, l.length⟩ a.toNat l := by
  refine if_pos ?_
  simpa [lenOk] using h

theorem portWords_tooLong {d : Dev} {l : List Word} (h : 16384 < l.length) (tag : BitVec 8) (a : Word) :
    d.portWords tag a l = d.respond ⟨.port, 0x21, tag.toNat, l.length⟩ 3 [] := by
  refine if_neg ?_
  simpa [lenOk] using h

/-- A word read, as the one that a request names. -/
theorem hostWords_one {d : Dev} {a : Nat} {w : Word} (h : (d.busRead .host a).bus = .data w) :
    d.hostWords 1 a = (d.busRead .host a, 0, [w]) := by
  simp only [hostWords, h]

theorem hostWords_fault {d : Dev} {a n : Nat} (hn : 1 ≤ n) (h : (d.busRead .host a).bus = .fault) :
    d.hostWords n a = (d.busRead .host a, d.hostFault a false, []) := by
  obtain ⟨k, rfl⟩ := Nat.exists_eq_add_of_le' hn
  simp only [hostWords, h]

theorem hostStores_done {d : Dev} {a : Nat} {w : Word} (h : (d.busWrite .host a w).bus = .done) (l : List Word) :
    d.hostStores (w :: l) a = (d.busWrite .host a w).hostStores l (a + 4) := by
  simp only [hostStores, h]

theorem hostStores_stopped {d : Dev} {a : Nat} {w : Word} (h : (d.busWrite .host a w).bus ≠ .done) (l : List Word) :
    d.hostStores (w :: l) a = (d.busWrite .host a w, d.hostFault a true) := by
  simp only [hostStores]

section Closed
variable {d : Dev} {a : Nat} (ha : regionOf a 4 = some .pages) (hsess : d.sessionOpen = false)
  (hbox : openBox ((a - 0x40000000) / 0x1000) = false)
include ha hsess hbox

/-- Outside a session the host reaches no page but the open mailboxes. -/
theorem pageReached_closed (wr : Bool) : d.pageReached .host a wr = none := by
  have hnot : d.reaches .host a 4 wr = false := by
    simp [reaches, ha, hsess, hbox]
  simp [pageReached, hnot]

theorem hostFault_closed (wr : Bool) : d.hostFault a wr = 5 := by
  simp [hostFault, ha, hsess, hbox]

theorem busRead_closed (hlive : d.busLive = true) : d.busRead .host a = d.busFault .host := by
  simp [busRead, hlive, ha, pageReached_closed ha hsess hbox]

theorem busWrite_closed (hlive : d.busLive = true) (w : Word) : d.busWrite .host a w = d.busFault .host :=
  (busWrite_page hlive ha _ _ _).trans (pageWrite_unreached (pageReached_closed ha hsess hbox true) _ _)

end Closed

theorem hostRead_one {d : Dev} {r : Req} (hlen : r.len = 1) {a : Nat} {w : Word} (h : (d.busRead .host a).bus = .data w) :
    d.hostRead r a = (d.busRead .host a).respond r 0 [w] := by
  rw [hostRead, hlen, hostWords_one h, if_pos rfl]

theorem hostRead_fault {d : Dev} {r : Req} (hlen : 1 ≤ r.len) {a : Nat} (h : (d.busRead .host a).bus = .fault) {code : Nat}
    (hcode : d.hostFault a false = code + 1) : d.hostRead r a = (d.busRead .host a).respond r (code + 1) [] := by
  rw [hostRead, hostWords_fault hlen h, hcode, if_neg (Nat.succ_ne_zero _)]

theorem hostWrite_stopped {d : Dev} {r : Req} {a : Nat} {w : Word} (h : (d.busWrite .host a w).bus ≠ .done) (l : List Word) :
    d.hostWrite r a (w :: l) = (d.busWrite .host a w).respond r (d.hostFault a true) [] := by
  rw [hostWrite, hostStores_stopped h]

theorem hostWrite_one {d : Dev} {r : Req} {a : Nat} {w : Word} (h : (d.busWrite .host a w).bus = .done) :
    d.hostWrite r a [w] = (d.busWrite .host a w).respond r 0 [] := by
  rw [hostWrite, hostStores_done h, hostStores]

/-! ## Responses (R525–R528) -/

/-- A response with RESULT `r` on the host port. -/
theorem respond_spec (d : Dev) (cmd tag len : Nat) {r : Nat} (ws : List Word) : let t := d.respond ⟨.port, cmd, tag, len⟩ r ws
    t.host.resp = some ⟨cmd, tag, len, r, ws⟩ ∧
    t.reg (pg .hostport) R.HOSTPORT.FRAMES = d.reg (pg .hostport) R.HOSTPORT.FRAMES + 1 ∧
    t.reg (pg .hostport) R.HOSTPORT.DENIED =
      (if r = 4 ∨ r = 5 then d.reg (pg .hostport) R.HOSTPORT.DENIED + 1 else d.reg (pg .hostport) R.HOSTPORT.DENIED) ∧
    t.mem = d.mem ∧ t.keys = d.keys := by
  refine ⟨rfl, ?_, ?_, by simp, by simp⟩
  · have hhost : ∀ (e : Dev) (f : HostS → HostS) (o : Nat), (e.modHost f).reg (pg .hostport) o = e.reg (pg .hostport) o := fun _ _ _ => rfl
    rw [respond, hhost]
    split
    · simp (disch := decide) only [reads_reg, reads_ofs, reg_bump_self]
      rfl
    · simp (disch := decide) only [reads_ofs, reg_bump_self]
      rfl
  · have hhost : ∀ (e : Dev) (f : HostS → HostS) (o : Nat), (e.modHost f).reg (pg .hostport) o = e.reg (pg .hostport) o := fun _ _ _ => rfl
    rw [respond, hhost]
    split
    · simp (disch := decide) only [reads_reg, reads_ofs, reg_bump_self]
      rfl
    · simp (disch := decide) only [reads_reg, reads_ofs]

theorem crcRun_respond_failed (d : Dev) (r : Req) : (d.respond r 1 []).host.crcRun = d.host.crcRun + 1 := by
  simp [respond, modHost]

/-- A frame that failed its CRC, other than a boot transfer and the eighth in a row. -/
theorem frameCrcError_counted {d : Dev} (r : Req) (h : d.host.crcRun ≠ 7) : d.frameCrcError r false =
    ((d.respond r 1 []).bump (pg .hostport) R.HOSTPORT.CRC_ERRS).event (pg .hostport) F.HOSTPORT.EVENT_CRC_ERR := by
  have hrun : (((d.respond r 1 []).bump (pg .hostport) R.HOSTPORT.CRC_ERRS).event (pg .hostport) F.HOSTPORT.EVENT_CRC_ERR).host.crcRun ≠ 8 := by
    have hhost : (((d.respond r 1 []).bump (pg .hostport) R.HOSTPORT.CRC_ERRS).event (pg .hostport) F.HOSTPORT.EVENT_CRC_ERR).host =
        (d.respond r 1 []).host := by simp
    rw [hhost, crcRun_respond_failed]
    omega
  rw [frameCrcError, if_neg hrun, if_neg Bool.false_ne_true]

theorem bootCode_outside {cmd : Nat} (h : cmd < 0x10 ∨ 0x12 < cmd) : bootCode cmd = false := by
  simp only [bootCode, Bool.and_eq_false_iff, decide_eq_false_iff_not]
  omega

/-- A frame whose CRC held, and that is refused all the same. -/
theorem frameRefused_known (d : Dev) (cmd tag : BitVec 8) (len : BitVec 16) : d.frameRefused cmd tag len true false =
    if commandCodes.contains cmd.toNat then d.respond ⟨.port, cmd.toNat, tag.toNat, len.toNat⟩ 3 []
    else d.respond ⟨.port, cmd.toNat, tag.toNat, len.toNat⟩ 2 [] := by
  rw [frameRefused, if_neg Bool.false_ne_true, if_neg (by decide)]
  by_cases h : commandCodes.contains cmd.toNat = true
  · rw [if_neg (by rw [h]; decide), if_pos h]
  · rw [if_pos (by simpa using h), if_neg h]

theorem frameRefused_bad (d : Dev) (cmd tag : BitVec 8) (len : BitVec 16) (ok : Bool) :
    d.frameRefused cmd tag len ok true = (d.bump (pg .hostport) R.HOSTPORT.FRAMES).raise .hostport 0 B.HOSTPORT.HP_RAM := by
  rw [frameRefused, if_pos rfl]

theorem frameRefused_crc (d : Dev) (cmd tag : BitVec 8) (len : BitVec 16) : d.frameRefused cmd tag len false false =
    d.frameCrcError ⟨.port, cmd.toNat, tag.toNat, len.toNat⟩ (bootCode cmd.toNat) := by
  rw [frameRefused, if_neg Bool.false_ne_true, if_pos (by decide)]

theorem hostStatus_eq (d : Dev) (r : Req) : d.hostStatus r = d.respond r 0 [d.bootStatus, BitVec.ofNat 32 d.hstatus] := by
  rw [hostStatus]

theorem statusWordsRead_eq (d : Dev) : d.statusWordsRead =
    let ws := Crc.wordBytes d.bootStatus ++ Crc.wordBytes (BitVec.ofNat 32 d.hstatus)
    d.modHost (fun h => { h with out := ws ++ Crc.wordBytes (BitVec.ofNat 32 (Crc.crc32 ws)), lastAt := d.now }) := by
  rw [statusWordsRead]

theorem responseRead_none {d : Dev} (h : d.host.resp = none) : d.responseRead = d := by
  simp only [responseRead, h]

theorem responseRead_some {d : Dev} {x : Response} (h : d.host.resp = some x) :
    d.responseRead = d.modHost (fun h => { h with resp := none, out := x.bytes, lastAt := d.now }) := by
  simp only [responseRead, h]

end Dev

/-- Settles O49: fragments of boot frames, requests and what answers them, and the reading of the port. -/
theorem hostFramesRun : Obligations.HostFramesRun := by
  unfold Obligations.HostFramesRun
  intro d n l p keep hlive
  refine ⟨fun first last => Runs.live hlive (fun _ => rfl) (Dev.bootFragment_elsewhere (.inr (.inl rfl)) _ _ _ _),
    fun way first last hst => Runs.live hlive (fun _ => rfl) (Dev.bootFragment_elsewhere (.inl hst) _ _ _ _), fun hst hpath => ?fragments,
    fun tag => ?requests, fun cmd tag len r ws _ => d.respond_spec cmd tag len ws,
    fun h => Runs.live hlive (fun _ => rfl) (Dev.responseRead_none h), fun x h => Runs.live hlive (fun _ => rfl) (Dev.responseRead_some h),
    Runs.live hlive (fun _ => rfl) d.statusWordsRead_eq⟩
  case fragments =>
    have hgap := Dev.fragmentGap_t1s hpath
    refine ⟨fun first last => Runs.live hlive (fun _ => rfl) (Dev.bootFragment_elsewhere (.inr (.inr ?_)) _ _ _ _), fun hnone => ?_,
      fun old c hfrag => ⟨fun hc => ?_, fun hc => ?_, fun hearly => ?_, fun hlate => ?_⟩⟩
    · rw [hpath]
      decide
    · refine ⟨Runs.live hlive (fun _ => rfl) (Dev.bootFragment_first hst hpath hnone false _ _), Runs.live hlive (fun _ => rfl) ?_,
        Runs.live hlive (fun _ => rfl) (Dev.bootFragment_orphan hst hpath hnone true _ _), Runs.live hlive (fun _ => rfl) ?_⟩
      · exact Dev.bootFragment_first hst hpath hnone true _ _
      · rw [hgap, Dev.fragDiscard_none hnone, ite_self]
    · exact Runs.live hlive (fun _ => rfl) ((Dev.bootFragment_next hst hpath hfrag false n.isLt _).trans (if_pos hc))
    · exact Runs.live hlive (fun _ => rfl)
        ((Dev.bootFragment_next hst hpath hfrag false n.isLt _).trans ((if_neg hc).trans (Dev.fragDiscard_some hfrag _)))
    · exact Runs.live hlive (fun _ => rfl) (hgap.trans (if_pos hearly))
    · exact Runs.live hlive (fun _ => rfl) (hgap.trans ((if_neg (Nat.not_le.mpr hlate)).trans (Dev.fragDiscard_some hfrag _)))
  case requests =>
    intro req
    refine ⟨Runs.live hlive (fun _ => rfl) (d.hostStatus_eq _), fun len a hlen => Runs.live hlive (fun _ => rfl) (Dev.portRead_tooLong hlen tag a),
      fun a w hread => Runs.live hlive (fun _ => rfl) ?_, fun len a hlo hhi hregion hsess hbox => ⟨?_, fun w => ?_⟩,
      fun a ws hlen => Runs.live hlive (fun _ => rfl) (Dev.portWords_tooLong hlen tag a),
      fun a => Runs.live hlive (fun _ => rfl) (Dev.portWords_of_lenOk (by decide) tag a),
      fun a w hdone => Runs.live hlive (fun _ => rfl) ?_, fun a w v hstop => Runs.live hlive (fun _ => rfl) ?_,
      fun cmd len hcmd => Runs.live hlive (fun _ => rfl) ((d.frameRefused_known cmd tag len).trans (if_neg (by rw [hcmd]; decide))),
      fun cmd len hcmd => Runs.live hlive (fun _ => rfl) ((d.frameRefused_known cmd tag len).trans (if_pos hcmd)),
      fun cmd len hcmd hrun => Runs.live hlive (fun _ => rfl) ?_, fun cmd len ok => Runs.live hlive (fun _ => rfl) (d.frameRefused_bad cmd tag len ok)⟩
    · exact (Dev.portRead_of_lenOk (by decide) tag a).trans (Dev.hostRead_one rfl hread)
    · have hfault := Dev.busRead_closed hregion hsess hbox hlive
      have hread := Dev.hostRead_fault (r := req 0x20 len.toNat) hlo ((congrArg Dev.bus hfault).trans (Dev.bus_busFault ..))
        (Dev.hostFault_closed hregion hsess hbox false)
      rw [hfault] at hread
      exact Runs.live hlive (fun _ => rfl) ((Dev.portRead_of_lenOk hhi tag a).trans hread)
    · have hfault := Dev.busWrite_closed hregion hsess hbox hlive w
      have hstop : (d.busWrite .host a.toNat w).bus ≠ .done := by
        rw [hfault, Dev.bus_busFault]
        decide
      have hwrite := Dev.hostWrite_stopped (r := req 0x21 1) hstop []
      rw [hfault, Dev.hostFault_closed hregion hsess hbox] at hwrite
      exact Runs.live hlive (fun _ => rfl) ((Dev.portWords_of_lenOk (l := [w]) (by simp) tag a).trans hwrite)
    · exact (Dev.portWords_of_lenOk (l := [w]) (by simp) tag a).trans (Dev.hostWrite_one hdone)
    · exact (Dev.portWords_of_lenOk (l := [w, v]) (by simp) tag a).trans (Dev.hostWrite_stopped hstop [v])
    · have hboot := Dev.bootCode_outside hcmd
      exact (Dev.frameRefused_crc d cmd tag len).trans ((congrArg _ hboot).trans (Dev.frameCrcError_counted _ hrun))

end Sys2Proof.Machine
end

section
/-!
PROOFS. OTP, keys and rollback (R440, R441, R448, R450–R453, R458, R460).
-/
namespace Sys2Proof.Machine
namespace Dev

/-! ## The command words (R458, R460) -/

section CommandWord
variable {c v : Nat} (hc : c < 16) (hv : v < 256)
include hc hv

theorem sbWord_fields : bitsOf (BitVec.ofNat 32 (0x5EB00000 + c + 16 * v)).toNat 16 16 = 0x5EB0 ∧
    bitsOf (BitVec.ofNat 32 (0x5EB00000 + c + 16 * v)).toNat 0 4 = c ∧ bitsOf (BitVec.ofNat 32 (0x5EB00000 + c + 16 * v)).toNat 4 8 = v := by
  have hword : (BitVec.ofNat 32 (0x5EB00000 + c + 16 * v)).toNat = 0x5EB00000 + c + 16 * v := by
    rw [BitVec.toNat_ofNat]
    omega
  rw [hword]
  have hdiv : ∀ n lo w, bitsOf n lo w = n / 2 ^ lo % 2 ^ w := fun n lo w => by rw [bitsOf, Nat.shiftRight_eq_div_pow]
  refine ⟨?_, ?_, ?_⟩ <;> rw [hdiv] <;> omega

end CommandWord

theorem secbootWrite_arb (d : Dev) (m : Master) (v : BitVec 8) (b : Bool) :
    d.secbootWrite m R.SECBOOT.CMD (BitVec.ofNat 32 (0x5EB00001 + 16 * v.toNat)) b = d.arbAdvance v.toNat b := by
  obtain ⟨hkey, hcmd, harg⟩ := sbWord_fields (c := 1) (by decide) v.isLt
  simp only [secbootWrite, if_true, hcmd, harg, sbKeyed, hkey]

theorem secbootWrite_revoke (d : Dev) (m : Master) (v : BitVec 8) (b : Bool) :
    d.secbootWrite m R.SECBOOT.CMD (BitVec.ofNat 32 (0x5EB00002 + 16 * v.toNat)) b = d.revoke v.toNat b := by
  obtain ⟨hkey, hcmd, harg⟩ := sbWord_fields (c := 2) (by decide) v.isLt
  simp only [secbootWrite, if_true, hcmd, harg, sbKeyed, hkey]

theorem secbootWrite_attest (d : Dev) (m : Master) : d.secbootWrite m R.SECBOOT.CMD 0x5EB00003 false = d.attest := by
  obtain ⟨hkey, hcmd, -⟩ := sbWord_fields (c := 3) (v := 0) (by decide) (by decide)
  rw [secbootWrite, if_pos rfl]
  exact if_pos hkey

theorem otpCmd_keyed (d : Dev) (b : Bool) {w : Word} (hkey : bitsOf w.toNat 16 16 = 0x71E5) :
    (bitsOf w.toNat 0 3 = 1 → d.otpCmd w b = d.otpProgram b) ∧ (bitsOf w.toNat 0 3 = 2 → d.otpCmd w b = d.otpReburn b) ∧
    (bitsOf w.toNat 0 3 = 3 → d.otpCmd w b = d.otpMargin) ∧ (bitsOf w.toNat 0 3 = 4 → d.otpCmd w b = d.otpResense) := by
  refine ⟨fun h => ?_, fun h => ?_, fun h => ?_, fun h => ?_⟩ <;> simp only [otpCmd, h, otpKeyed, hkey, if_true]

/-- A command of the OTP page with its key. -/
theorem otpWrite_keyed (d : Dev) (m : Master) (b : Bool) :
    d.otpWrite m R.OTP.CMD 0x71E50001 b = d.otpProgram b ∧ d.otpWrite m R.OTP.CMD 0x71E50002 b = d.otpReburn b ∧
    d.otpWrite m R.OTP.CMD 0x71E50003 b = d.otpMargin ∧ d.otpWrite m R.OTP.CMD 0x71E50004 b = d.otpResense := by
  have hwrite : ∀ w : Word, d.otpWrite m R.OTP.CMD w b = d.otpCmd w b := fun w => by rw [otpWrite, if_pos rfl]
  exact ⟨(hwrite _).trans ((d.otpCmd_keyed b (by decide)).1 (by decide)), (hwrite _).trans ((d.otpCmd_keyed b (by decide)).2.1 (by decide)),
    (hwrite _).trans ((d.otpCmd_keyed b (by decide)).2.2.1 (by decide)), (hwrite _).trans ((d.otpCmd_keyed b (by decide)).2.2.2 (by decide))⟩

/-! ## ARB_ADVANCE and REVOKE (R440, R441) -/

theorem sb_busy {d : Dev} (h : d.boot.job ≠ .none) (v : Nat) (b : Bool) : d.arbAdvance v b = d.sbResult 3 ∧ d.revoke v b = d.sbResult 3 :=
  ⟨if_pos h, if_pos h⟩

theorem sb_cannotBurn {d : Dev} (h : d.boot.job = .none) {b : Bool} (hburn : d.canBurn b = false) (v : Nat) :
    d.arbAdvance v b = d.sbResult 2 ∧ d.revoke v b = d.sbResult 2 := by
  simp [arbAdvance, revoke, h, hburn]

section Burning
variable {d : Dev} {b : Bool} (hjob : d.boot.job = .none) (hburn : d.canBurn b = true)
include hjob hburn

theorem arbAdvance_able (v : Nat) : d.arbAdvance v b = if d.fld (pg .secboot) F.SECBOOT.IMAGE_INFO_ARB < v then d.sbResult 4
    else if v ≤ d.arbCounter then d.sbResult 0 else d.sbStart (.arb v) := by
  simp [arbAdvance, hjob, hburn]

theorem revoke_refused {i : Nat} (h : 4 ≤ i ∨ d.fld (pg .secboot) F.SECBOOT.IMAGE_INFO_KEY_INDEX = i ∨
    (∀ j < 4, j ≠ i → d.slotUsable j = false)) : d.revoke i b = d.sbResult 4 := by
  have hbad : 4 ≤ i ∨ d.slotBlank i = true ∨ d.fld (pg .secboot) F.SECBOOT.IMAGE_INFO_KEY_INDEX = i ∨
      (!(List.range 4).any (fun j => j != i && d.slotUsable j)) = true := by
    rcases h with h | h | h
    · exact .inl h
    · exact .inr (.inr (.inl h))
    · exact .inr (.inr (.inr (by simpa using h)))
  have hbusy : ¬ d.boot.job ≠ .none := fun h => h hjob
  rw [revoke, if_neg hbusy, if_neg (by simp [hburn]), if_pos hbad]

theorem revoke_begins {i : Nat} (hi : i < 4) (hblank : d.slotBlank i = false) (hkey : d.fld (pg .secboot) F.SECBOOT.IMAGE_INFO_KEY_INDEX ≠ i)
    (hother : ∃ j < 4, j ≠ i ∧ d.slotUsable j = true) : d.revoke i b = d.sbStart (.revoke i) := by
  have hok : ¬ (4 ≤ i ∨ d.slotBlank i = true ∨ d.fld (pg .secboot) F.SECBOOT.IMAGE_INFO_KEY_INDEX = i ∨
      (!(List.range 4).any (fun j => j != i && d.slotUsable j)) = true) := by
    rintro (h | h | h | h)
    · omega
    · simp [hblank] at h
    · exact hkey h
    · obtain ⟨j, hj, hne, huse⟩ := hother
      have hnone : ∀ j < 4, j ≠ i → d.slotUsable j = false := by simpa using h
      simp [hnone j hj hne] at huse
  have hbusy : ¬ d.boot.job ≠ .none := fun h => h hjob
  rw [revoke, if_neg hbusy, if_neg (by simp [hburn]), if_neg hok]

end Burning

/-! ## Commands of the OTP page (R450–R453) -/

theorem otpBurn_unable {d : Dev} {b : Bool} (h : d.state ≠ 3 ∨ d.canBurn b = false) (data : Nat → Word) : d.otpBurn b data = d.otpResult 2 :=
  if_pos (h.imp_right fun h => by simp [h])

theorem otpBurn_able {d : Dev} {b : Bool} (hst : d.state = 3) (hburn : d.canBurn b = true) (hjob : d.boot.job = .none) (data : Nat → Word) :
    d.otpBurn b data = if d.otpWriteLocked (d.fld (pg .otp) F.OTP.ADDR_WORD) then d.otpResult 3
      else if otpReserved (d.fld (pg .otp) F.OTP.ADDR_WORD) then d.otpResult 6
      else d.otpStart (.program (d.fld (pg .otp) F.OTP.ADDR_WORD) (data (d.fld (pg .otp) F.OTP.ADDR_WORD))) := by
  simp [otpBurn, hst, hburn, hjob]

theorem otpReads_busy {d : Dev} (h : d.boot.job ≠ .none) : d.otpMargin = d.otpResult 5 ∧ d.otpResense = d.otpResult 5 := ⟨if_pos h, if_pos h⟩

theorem otpReads_begin {d : Dev} (h : d.boot.job = .none) :
    d.otpMargin = d.otpStart (.margin (d.fld (pg .otp) F.OTP.ADDR_REGION)) ∧ d.otpResense = d.otpStart .resense :=
  ⟨if_neg fun hc => hc h, if_neg fun hc => hc h⟩

/-! ## Their completion -/

theorem otpDone_early {d : Dev} {x : OtpFacts} (h : d.boot.job = .none ∨ d.now < d.boot.jobAt + jobClocks d.boot.job x.pulses) :
    d.otpDone x = d := by
  unfold otpDone
  by_cases hearly : d.now < d.boot.jobAt + jobClocks d.boot.job x.pulses
  · rw [if_pos hearly]
  · rw [if_neg hearly]
    simp only [h.resolve_right hearly]

theorem otpCell_of_otp {d e : Dev} (h : e.boot.otp = d.boot.otp) (w : Nat) : e.otpCell w = d.otpCell w := by
  rw [otpCell, h, otpCell]

/-- A word burned and sensed again. -/
def burned (d : Dev) (w : Nat) (v : Word) : Dev := (d.burn w v).senseWord w

theorem otpCell_burned (d : Dev) (w u : Nat) (v : Word) : (d.burned w v).otpCell u = if u = w then d.otpCell w ||| v else d.otpCell u :=
  Sparse.get_put otpDefault d.boot.otp w u (d.otpCell w ||| v)

theorem otpShadow_burned (d : Dev) (w : Nat) (v : Word) : (d.burned w v).otpShadow w = (d.burned w v).otpCell w :=
  Sparse.get_put_self otpDefault d.boot.shadow w _

theorem reg_burned (d : Dev) (w : Nat) (v : Word) (p o : Nat) : (d.burned w v).reg p o = d.reg p o := by
  rw [burned, senseWord, reg_modBoot, burn, reg_modBoot]

/-- What the end of an OTP command leaves. -/
theorem otpEnd_spec (d : Dev) (r pulses w : Nat) : let t := d.otpEnd r pulses w
    t.boot.otp = d.boot.otp ∧ t.boot.shadow = d.boot.shadow ∧ t.boot.job = .none ∧ t.flag (pg .otp) F.OTP.EVENT_DONE = true ∧
    (∀ o, o ≠ R.OTP.CMD_STATUS → o ≠ R.HDR.EVENT → o ≠ R.OTP.DATA → t.reg (pg .otp) o = d.reg (pg .otp) o) ∧ t.mem = d.mem ∧ t.keys = d.keys := by
  refine ⟨by simp [otpEnd, modBoot], by simp [otpEnd, modBoot], rfl, ?_, fun o hstatus hevent hdata => ?_, by simp [otpEnd], by simp [otpEnd]⟩
  · rw [otpEnd, flag_modBoot, flag_setReg_apart _ _ (by decide)]
    exact flag_setFlag_self _ _ _ true (by decide) (by decide)
  · rw [otpEnd, reg_modBoot, reg_setReg_apart _ _ hdata, reg_event_apart _ hevent, reg_setReg_apart _ _ hstatus]

theorem and_not_zero (v : Word) : v &&& ~~~ 0 = v := by
  rw [show ~~~ (0 : Word) = BitVec.allOnes 32 by decide, BitVec.and_allOnes]

section Done
variable {d : Dev} {x : OtpFacts} (hdue : d.boot.jobAt + jobClocks d.boot.job x.pulses ≤ d.now)
include hdue

theorem otpDone_program {w : Nat} {v : Word} (hjob : d.boot.job = .program w v) (hgood : v &&& x.bad = 0) :
    d.otpDone x = ((d.burned w v).bump (pg .otp) R.OTP.PROGRAMS).otpEnd 0 (min 8 x.pulses) w := by
  rw [otpDone, if_neg (Nat.not_lt.mpr hdue)]
  simp only [hjob, hgood, if_true, and_not_zero]
  rfl

theorem otpDone_resense (hjob : d.boot.job = .resense) (hdiff : x.diff = []) : d.otpDone x =
    ((d.modBoot (fun b => { b with shadow := b.otp })).bump (pg .otp) R.OTP.SENSES).otpEnd 0 0
      (((d.modBoot (fun b => { b with shadow := b.otp })).bump (pg .otp) R.OTP.SENSES).fld (pg .otp) F.OTP.ADDR_WORD) := by
  have haddr : d.fld (pg .otp) F.OTP.ADDR_WORD =
      ((d.modBoot (fun b => { b with shadow := b.otp })).bump (pg .otp) R.OTP.SENSES).fld (pg .otp) F.OTP.ADDR_WORD := by
    rw [fld_bump_apart _ (by decide), fld_modBoot]
  rw [otpDone, if_neg (Nat.not_lt.mpr hdue)]
  simp only [hjob, sense, hdiff, ← haddr]
  rfl

theorem otpDone_margin {n : Nat} (hjob : d.boot.job = .margin n) (hweak : x.weak = 0) (hleak : x.leak = 0) : d.otpDone x =
    (d.setReg (pg .otp) R.OTP.WEAK (BitVec.ofNat 32 (x.first % 1024))).otpEnd 0 0
      ((d.setReg (pg .otp) R.OTP.WEAK (BitVec.ofNat 32 (x.first % 1024))).fld (pg .otp) F.OTP.ADDR_WORD) := by
  rw [otpDone, if_neg (Nat.not_lt.mpr hdue)]
  simp only [hjob, hweak, hleak, Nat.min_zero, Nat.mul_zero, Nat.add_zero, if_true]

theorem otpDone_revoke {i : Nat} (hjob : d.boot.job = .revoke i) (hgood : x.bad = 0) :
    d.otpDone x = (d.burned 0x160 (BitVec.ofNat 32 (2 ^ i))).sbEnd 0 := by
  have hnone : bitAt (0 : Word).toNat i = false := by simp [bitAt]
  rw [otpDone, if_neg (Nat.not_lt.mpr hdue)]
  simp only [hjob, hgood, and_not_zero, hnone, Bool.false_eq_true, if_false]
  rfl

end Done

/-- A slot revoked, and no other one. -/
theorem slotRevoked_burned (d : Dev) (j : Nat) {i : Nat} (hi : i < 4) :
    (d.burned 0x160 (BitVec.ofNat 32 (2 ^ i))).slotRevoked j = (d.slotRevoked j || decide (j = i)) := by
  have hpow : (2 ^ i) % 2 ^ 32 = 2 ^ i := Nat.mod_eq_of_lt (Nat.pow_lt_pow_right (by decide) (by omega))
  simp only [slotRevoked, otpCell_burned, if_true, bitAt_eq_testBit, BitVec.toNat_or, BitVec.toNat_ofNat, hpow, Nat.testBit_or, Nat.testBit_two_pow]
  simp only [eq_comm]

/-! ## Attestation (R448) -/

theorem numLE_bytesLE_word (w : Word) : Crypto.numLE (Crypto.bytesLE w.toNat 4) = w.toNat := by
  have hlt := w.isLt
  simp only [Crypto.numLE, Crypto.bytesLE, List.foldr_cons, List.foldr_nil]
  omega

theorem length_bytesLE (n k : Nat) : (Crypto.bytesLE n k).length = k := by
  induction k generalizing n with
  | zero => rfl
  | succ k ih => rw [Crypto.bytesLE, List.length_cons, ih]

/-- Words spelled as bytes, read back by their offset. -/
theorem le_words (f : Nat → Word) (n : Nat) (rest : List Nat) {i : Nat} (hi : i < n) :
    le ((List.range n).flatMap (fun j => Crypto.bytesLE (f j).toNat 4) ++ rest) (4 * i) 4 = (f i).toNat := by
  induction n generalizing f i with
  | zero => omega
  | succ n ih =>
    have hsplit : (List.range (n + 1)).flatMap (fun j => Crypto.bytesLE (f j).toNat 4) ++ rest =
        Crypto.bytesLE (f 0).toNat 4 ++ ((List.range n).flatMap (fun j => Crypto.bytesLE (f (j + 1)).toNat 4) ++ rest) := by
      rw [List.range_succ_eq_map, List.flatMap_cons, List.flatMap_map, List.append_assoc]
    have hlen := length_bytesLE (f 0).toNat 4
    rw [hsplit]
    cases i with
    | zero =>
      rw [le, Nat.mul_zero, List.drop_zero, List.take_append_of_le_length (by omega), List.take_of_length_le (by omega), numLE_bytesLE_word]
    | succ i =>
      have hdrop : 4 * (i + 1) = (Crypto.bytesLE (f 0).toNat 4).length + 4 * i := by omega
      rw [le, hdrop, List.drop_length_add_append]
      exact ih (fun j => f (j + 1)) (Nat.lt_of_succ_lt_succ hi)

/-- A word that is not 0 has a byte that is not 0. -/
theorem otpBytes_live {d : Dev} {o n : Nat} (h : ∃ i < n, d.otpCell (o + i) ≠ 0) : (d.otpBytes o n).all (· == 0) = false := by
  obtain ⟨i, hi, hne⟩ := h
  rw [← Bool.not_eq_true, List.all_eq_true]
  intro hall
  have hbytes : ∀ b ∈ Crypto.bytesLE (d.otpCell (o + i)).toNat 4, b = 0 := fun b hb => by
    simpa using hall b (List.mem_flatMap.mpr ⟨i, List.mem_range.mpr hi, hb⟩)
  have hzero : Crypto.numLE (Crypto.bytesLE (d.otpCell (o + i)).toNat 4) = 0 := by
    simp only [Crypto.bytesLE, List.mem_cons, List.not_mem_nil, or_false, forall_eq_or_imp, forall_eq] at hbytes
    obtain ⟨h0, h1, h2, h3⟩ := hbytes
    simp only [Crypto.numLE, Crypto.bytesLE, List.foldr_cons, List.foldr_nil, h0, h1, h2, h3]
  rw [numLE_bytesLE_word] at hzero
  exact hne (BitVec.eq_of_toNat_eq hzero)

/-- The bytes of the report after the device's own words. -/
def reportRest (d : Dev) : List Nat :=
  let p := pg .secboot
  let ii := (d.reg p R.SECBOOT.IMAGE_INFO).toNat
  let w10 := ii % 4 + 256 * bitsOf ii 8 8 + 65536 * d.arbCounter +
    16777216 * b2n (decide (1 ≤ d.fld (pg .debug) F.DEBUG.DBG_STATUS_LEVEL))
  d.regBytes p R.SECBOOT.IMAGE_DIGEST 8 ++ Crypto.bytesLE w10 4 ++ Crypto.bytesLE (pageId .sys 0) 4 ++ d.regBytes p R.SECBOOT.ATT_NONCE 8

/-- The report as bytes: the signed message, and its code. -/
def attestReport (d : Dev) : List Nat :=
  d.otpBytes 0 2 ++ (d.reportRest ++ Crypto.hmac (Crypto.hmac (d.otpBytes 0x190 8) attestLabel) (d.otpBytes 0 2 ++ d.reportRest))

/-- The report written and counted. -/
def attested (d : Dev) : Dev :=
  ((d.each (List.range 28) fun d' i => d'.setReg (pg .secboot) (R.SECBOOT.ATT_REPORT + 4 * i) (BitVec.ofNat 32 (le d.attestReport (4 * i) 4))).bump
    (pg .secboot) R.SECBOOT.ATTESTS).sbResult 0

theorem attest_provisioning {d : Dev} (h : d.inProvisioning = true) : d.attest = d.sbResult 6 := if_pos (.inl h)

theorem attest_reported {d : Dev} (h : d.inProvisioning = false) (huds : ∃ i < 8, d.otpCell (0x190 + i) ≠ 0) : d.attest = d.attested := by
  have hno : ¬ (d.inProvisioning = true ∨ (d.otpBytes 0x190 8).all (· == 0) = true) := by
    rw [h, otpBytes_live huds]
    decide
  rw [attest, if_neg hno]
  simp only [attested, attestReport, reportRest, List.append_assoc]

theorem attested_spec (d : Dev) : let t := d.attested.done
    (∀ i < 2, t.reg (pg .secboot) (R.SECBOOT.ATT_REPORT + 4 * i) = d.otpCell i) ∧
    t.reg (pg .secboot) R.SECBOOT.ATTESTS = d.reg (pg .secboot) R.SECBOOT.ATTESTS + 1 ∧
    t.fld (pg .secboot) F.SECBOOT.CMD_STATUS_RESULT = 0 ∧ t.mem = d.mem ∧ t.keys = d.keys := by
  have hcell : ∀ i < 2, le d.attestReport (4 * i) 4 = (d.otpCell i).toNat := fun i hi => by
    have hwords := le_words (fun j => d.otpCell (0 + j)) 2 (d.reportRest ++ Crypto.hmac (Crypto.hmac (d.otpBytes 0x190 8) attestLabel)
      (d.otpBytes 0 2 ++ d.reportRest)) hi
    rw [Nat.zero_add] at hwords
    exact hwords
  refine ⟨fun i hi => ?_, ?_, ?_, by simp [attested, sbResult], by simp [attested, sbResult]⟩
  · rw [reg_done, attested, sbResult, reg_setFld_apart _ _ (by simp only [R.SECBOOT.ATT_REPORT, F.SECBOOT.CMD_STATUS_RESULT]; omega),
      (reads_reg _ (by simp only [R.SECBOOT.ATT_REPORT, R.SECBOOT.ATTESTS]; omega)).2, reg_each_words _ _ _ _ _ (by omega), hcell i hi,
      BitVec.ofNat_toNat, BitVec.setWidth_eq]
  · rw [reg_done, attested, sbResult, reg_setFld_apart _ _ (by decide), reg_bump_self]
    refine congrArg (· + 1) (each_keeps (fun e : Dev => e.reg (pg .secboot) R.SECBOOT.ATTESTS) d _ _ fun e i hi => reg_setReg_apart _ _ ?_)
    have := List.mem_range.mp hi
    simp only [R.SECBOOT.ATT_REPORT, R.SECBOOT.ATTESTS]
    omega
  · rw [fld_done, attested, sbResult, fld_setFld_self _ _ _ _ (by decide), Nat.zero_mod]

end Dev

/-- Settles O50: the commands of SECBOOT and OTP with their refusals, and what their completion leaves of the cells. -/
theorem otpAndKeysRun : Obligations.OtpAndKeysRun := by
  unfold Obligations.OtpAndKeysRun
  intro d m p o job ojob
  refine ⟨fun v b h => ?secboot, fun h => ?attest, fun b h => ?otp, fun hlive x => ?done, fun w h => ?slock⟩
  case secboot =>
    have harb : ∀ e, d.arbAdvance v.toNat b = e → Runs (.arbAdvance m v b) d e.done := fun e he =>
      Runs.port h (by decide) (fun _ => rfl) ((Dev.regWrite_block (by decide) (by decide) d m 0 (by decide) _ _).trans
        ((d.secbootWrite_arb m v b).trans he))
    have hrevoke : ∀ e, d.revoke v.toNat b = e → Runs (.revoke m v b) d e.done := fun e he =>
      Runs.port h (by decide) (fun _ => rfl) ((Dev.regWrite_block (by decide) (by decide) d m 0 (by decide) _ _).trans
        ((d.secbootWrite_revoke m v b).trans he))
    refine ⟨fun hjob => ⟨harb _ (Dev.sb_busy hjob _ _).1, hrevoke _ (Dev.sb_busy hjob _ _).2⟩,
      fun hjob hburn => ⟨harb _ (Dev.sb_cannotBurn hjob hburn _).1, hrevoke _ (Dev.sb_cannotBurn hjob hburn _).2⟩, fun hjob hburn => ?_⟩
    have hable := Dev.arbAdvance_able hjob hburn v.toNat
    exact ⟨fun hlow => harb _ (hable.trans (if_pos hlow)),
      fun hok hcount => harb _ (hable.trans ((if_neg (Nat.not_lt.mpr hok)).trans (if_pos hcount))),
      fun hok hcount => harb _ (hable.trans ((if_neg (Nat.not_lt.mpr hok)).trans (if_neg (Nat.not_le.mpr hcount)))),
      fun hbad => hrevoke _ (Dev.revoke_refused hjob hburn hbad),
      fun hslot hblank hkey hother => hrevoke _ (Dev.revoke_begins hjob hburn hslot hblank hkey hother)⟩
  case attest =>
    have hrun : ∀ e, d.attest = e → Runs (.attest m) d e.done := fun e he =>
      Runs.block (by decide) (by decide) h (by decide) (fun _ => rfl) ((d.secbootWrite_attest m).trans he)
    refine ⟨fun hprov => hrun _ (Dev.attest_provisioning hprov), fun hprov huds => ?_⟩
    exact ⟨_, hrun _ (Dev.attest_reported hprov huds), d.attested_spec⟩
  case otp =>
    obtain ⟨hprogram, hreburn, -, -⟩ := d.otpWrite_keyed m b
    obtain ⟨-, -, hmargin, hresense⟩ := d.otpWrite_keyed m false
    have hport : ∀ (c : Instr) (w : Word) (f : WriteFacts) (e : Dev), (∀ s, exec c s = .next (s.onDev fun d => d.portWrite m .otp 0 R.OTP.CMD w f)) →
        d.otpWrite m R.OTP.CMD w f.burn = e → Runs c d e.done := fun c w f e hc he =>
      Runs.port h (by decide) hc ((Dev.regWrite_block (by decide) (by decide) d m 0 (by decide) _ _).trans he)
    have hp : ∀ e, d.otpProgram b = e → Runs (.program m b) d e.done := fun e he =>
      hport (.program m b) 0x71E50001 { burn := b } e (fun _ => rfl) (hprogram.trans he)
    have hr : ∀ e, d.otpReburn b = e → Runs (.reburn m b) d e.done := fun e he =>
      hport (.reburn m b) 0x71E50002 { burn := b } e (fun _ => rfl) (hreburn.trans he)
    have hm : ∀ e, d.otpMargin = e → Runs (.margin m) d e.done := fun e he => hport (.margin m) 0x71E50003 {} e (fun _ => rfl) (hmargin.trans he)
    have hs : ∀ e, d.otpResense = e → Runs (.resense m) d e.done := fun e he => hport (.resense m) 0x71E50004 {} e (fun _ => rfl) (hresense.trans he)
    intro w
    refine ⟨fun hbad => ⟨hp _ (Dev.otpBurn_unable hbad _), hr _ (Dev.otpBurn_unable hbad _)⟩,
      fun hjob => ⟨hm _ (Dev.otpReads_busy hjob).1, hs _ (Dev.otpReads_busy hjob).2⟩,
      fun hjob => ⟨hm _ (Dev.otpReads_begin hjob).1, hs _ (Dev.otpReads_begin hjob).2⟩, fun hst hburn hjob => ?_⟩
    have hable := Dev.otpBurn_able hst hburn hjob
    refine ⟨fun hlock => hp _ ((hable _).trans (if_pos hlock)), fun hlock hres => hp _ ((hable _).trans ((if_neg ?_).trans (if_pos hres))),
      fun hlock hres => ⟨hp _ ((hable _).trans ((if_neg ?_).trans (if_neg ?_))), hr _ ((hable _).trans ((if_neg ?_).trans (if_neg ?_)))⟩⟩
    · exact fun hc => Bool.false_ne_true (hlock.symm.trans hc)
    · exact fun hc => Bool.false_ne_true (hlock.symm.trans hc)
    · exact fun hc => Bool.false_ne_true (hres.symm.trans hc)
    · exact fun hc => Bool.false_ne_true (hlock.symm.trans hc)
    · exact fun hc => Bool.false_ne_true (hres.symm.trans hc)
  case done =>
    refine ⟨fun h => Runs.live hlive (fun _ => rfl) (Dev.otpDone_early h), fun hdue => ⟨fun w v hjob hgood => ?program, fun hjob hdiff => ?resense,
      fun n hjob hweak hleak => ?margin, fun i hi hjob hgood => ?revoke⟩⟩
    case program =>
      obtain ⟨hotp, hshadow, hidle, hdone, hregs, hmem, hkeys⟩ := ((d.burned w v).bump (pg .otp) R.OTP.PROGRAMS).otpEnd_spec 0 (min 8 x.pulses) w
      have hcell : ∀ u, (((d.burned w v).bump (pg .otp) R.OTP.PROGRAMS).otpEnd 0 (min 8 x.pulses) w).otpCell u = (d.burned w v).otpCell u :=
        Dev.otpCell_of_otp (hotp.trans (by simp))
      refine ⟨_, Runs.live hlive (fun _ => rfl) (Dev.otpDone_program hdue hjob hgood), ?_, ?_, fun u hu => ?_, hidle, ?_, hdone, ?_, ?_⟩
      · rw [hcell, Dev.otpCell_burned, if_pos rfl]
      · rw [hcell, ← Dev.otpShadow_burned, Dev.otpShadow, hshadow]
        simp [Dev.otpShadow]
      · rw [hcell, Dev.otpCell_burned, if_neg hu]
      · rw [hregs _ (by decide) (by decide) (by decide), Dev.reg_bump_self, Dev.reg_burned]
        rfl
      · exact hmem.trans (by simp [Dev.burned])
      · exact hkeys.trans (by simp [Dev.burned])
    case resense =>
      obtain ⟨hotp, hshadow, hidle, -, hregs, hmem, -⟩ := Dev.otpEnd_spec ((d.modBoot (fun b => { b with shadow := b.otp })).bump (pg .otp) R.OTP.SENSES) 0 0
        (((d.modBoot (fun b => { b with shadow := b.otp })).bump (pg .otp) R.OTP.SENSES).fld (pg .otp) F.OTP.ADDR_WORD)
      refine ⟨_, Runs.live hlive (fun _ => rfl) (Dev.otpDone_resense hdue hjob hdiff), fun w => ?_, hidle, ?_, hotp.trans (by simp [Dev.modBoot]),
        hmem.trans (by simp)⟩
      · rw [Dev.otpShadow, hshadow, Dev.otpCell]
        simp [Dev.modBoot]
      · rw [hregs _ (by decide) (by decide) (by decide), Dev.reg_bump_self, Dev.reg_modBoot]
        rfl
    case margin =>
      obtain ⟨hotp, -, hidle, -, hregs, hmem, -⟩ := Dev.otpEnd_spec (d.setReg (pg .otp) R.OTP.WEAK (BitVec.ofNat 32 (x.first % 1024))) 0 0
        ((d.setReg (pg .otp) R.OTP.WEAK (BitVec.ofNat 32 (x.first % 1024))).fld (pg .otp) F.OTP.ADDR_WORD)
      refine ⟨_, Runs.live hlive (fun _ => rfl) (Dev.otpDone_margin hdue hjob hweak hleak), ?_, hidle, hotp.trans (by simp), hmem.trans (by simp)⟩
      rw [hregs _ (by decide) (by decide) (by decide), Dev.reg_setReg_self]
    case revoke =>
      have hrevoked : ∀ j < 4, ((d.burned 0x160 (BitVec.ofNat 32 (2 ^ i))).sbEnd 0).slotRevoked j = (d.slotRevoked j || decide (j = i)) :=
        fun j hj => by
          rw [← d.slotRevoked_burned j hi, Dev.slotRevoked, Dev.slotRevoked, Dev.otpCell_of_otp (d := d.burned 0x160 (BitVec.ofNat 32 (2 ^ i)))]
          simp [Dev.sbEnd, Dev.modBoot]
      refine ⟨_, Runs.live hlive (fun _ => rfl) (Dev.otpDone_revoke hdue hjob hgood), ?_, fun j hj hne => ?_, ?_, rfl, ?_⟩
      · rw [hrevoked i hi]
        simp
      · rw [hrevoked j hj]
        simp [hne]
      · rw [Dev.sbEnd, Dev.reg_modBoot, Dev.reg_setReg_self]
        rfl
      · simp [Dev.sbEnd, Dev.burned]
  case slock =>
    refine Runs.block (by decide) (by decide) h (by decide) (fun _ => rfl) ?_
    rw [Dev.blockWrite, Dev.otpWrite, if_neg (by decide), if_pos rfl]
    rfl

end Sys2Proof.Machine
end

section
/-!
PROOFS. Mailboxes set free with their holder (R444, R447, R486), and the registers that a nonce is written to.
-/
namespace Sys2Proof.Machine
namespace Dev

/-! ## Mailboxes whose holder ceases to exist (R486) -/

/-- One mailbox set free, its lock expired. -/
def orphanBox (d : Dev) (n : Nat) : Dev :=
  ((((d.setReg (pg .mbox n) R.MBOX.DOORBELL 0).mbBell n).mbFree n).event (pg .mbox n) F.MBOX.EVENT_LOCK_EXPIRED).bump (pg .mbox n) R.MBOX.EXPIRIES

theorem mbOrphan_eq (d : Dev) (who : Nat) (l : List Nat) :
    d.mbOrphan who l = d.each (l.filter fun n => d.mbState n != 0 && d.mbHolder n == who) orphanBox := rfl

/-- A mailbox free, with its lock expired. -/
def BoxExpired (n : Nat) (d : Dev) : Prop :=
  d.mbState n = 0 ∧ d.mbHolder n = 0 ∧ d.flag (pg .mbox n) F.MBOX.EVENT_LOCK_EXPIRED = true

theorem BoxExpired.of_pageRegs {d e : Dev} {n : Nat} (h : BoxExpired n d) (hregs : e.pageRegs (pg .mbox n) = d.pageRegs (pg .mbox n)) :
    BoxExpired n e := by
  obtain ⟨hstate, hholder, hevent⟩ := h
  exact ⟨(fld_of_pageRegs hregs (by decide)).trans hstate, (fld_of_pageRegs hregs (by decide)).trans hholder,
    (flag_of_pageRegs hregs (by decide)).trans hevent⟩

/-- The message words of a mailbox hold neither its state nor its header. -/
theorem reg_mbFree (d : Dev) (n : Nat) {o : Nat} (h : o < R.MBOX.MSG) : (d.mbFree n).reg (pg .mbox n) o =
    ((d.setFld (pg .mbox n) F.MBOX.STATE_STATE 0).setFld (pg .mbox n) F.MBOX.STATE_HOLDER 0).reg (pg .mbox n) o :=
  each_keeps (reg · (pg .mbox n) o) _ _ _ fun e i _ => reg_setReg_apart e _ (by omega)

theorem boxExpired_orphanBox (d : Dev) (n : Nat) : BoxExpired n (d.orphanBox n) := by
  have hstate : R.MBOX.STATE < R.MBOX.MSG := by decide
  refine ⟨?_, ?_, ?_⟩
  · simp (disch := decide) only [mbState, orphanBox, reads_apart_reg, reads_apart]
    rw [fld_of_reg (reg_mbFree _ n hstate), fld_setFld_apart _ _ (by decide), fld_setFld_self _ _ _ _ (by decide), Nat.zero_mod]
  · simp (disch := decide) only [mbHolder, orphanBox, reads_apart_reg, reads_apart]
    rw [fld_of_reg (reg_mbFree _ n hstate), fld_setFld_self _ _ _ _ (by decide), Nat.zero_mod]
  · simp (disch := decide) only [orphanBox, reads_apart_reg, reads_self]

theorem pageRegs_mbFree (d : Dev) {p n : Nat} (h : p ≠ pg .mbox n) : (d.mbFree n).pageRegs p = d.pageRegs p := by
  rw [mbFree, each_keeps (pageRegs · p) _ _ _ ?words, pageRegs_setFld _ _ ⟨h, by decide⟩, pageRegs_setFld _ _ ⟨h, by decide⟩]
  case words =>
    intro e i hi
    refine pageRegs_setReg e _ ⟨h, ?_⟩
    have := List.mem_range.mp hi
    simp only [R.MBOX.MSG]
    omega

theorem pageRegs_orphanBox (d : Dev) {p n : Nat} (h : p ≠ pg .mbox n) : (d.orphanBox n).pageRegs p = d.pageRegs p := by
  rw [orphanBox, pageRegs_bump _ _ ⟨h, by decide⟩, pageRegs_event _ ⟨h, by decide⟩, pageRegs_mbFree _ h, mbBell,
    pageRegs_setFlag _ _ ⟨h, by decide⟩, pageRegs_setReg _ _ ⟨h, by decide⟩]

/-- A mailbox of the list is set free, and one that is free with its lock expired stays so. -/
theorem boxExpired_each (l : List Nat) (d : Dev) {n : Nat} (h : n ∈ l ∨ BoxExpired n d) : BoxExpired n (d.each l orphanBox) := by
  induction l generalizing d with
  | nil => exact h.resolve_left fun hin => by cases hin
  | cons x l ih =>
    rw [each_cons]
    refine ih _ ?_
    by_cases hx : x = n
    · exact .inr (hx ▸ boxExpired_orphanBox d x)
    · refine h.imp (fun hin => (List.mem_cons.mp hin).resolve_left fun h => hx h.symm) fun hexp => hexp.of_pageRegs (pageRegs_orphanBox d ?_)
      simp only [pg]
      omega

theorem boxExpired_mbOrphan {d : Dev} {who n k : Nat} (hn : n < k) (hstate : d.mbState n ≠ 0) (hholder : d.mbHolder n = who) :
    BoxExpired n (d.mbOrphan who (List.range k)) :=
  boxExpired_each _ d (.inl (List.mem_filter.mpr ⟨List.mem_range.mpr hn, by simp [hstate, hholder]⟩))

/-- Below the pages of the mailboxes nothing changes. -/
theorem pageRegs_mbOrphan (d : Dev) (who : Nat) (l : List Nat) {p : Nat} (h : p < 0x70) : (d.mbOrphan who l).pageRegs p = d.pageRegs p := by
  rw [mbOrphan_eq]
  refine each_keeps (pageRegs · p) d _ _ fun e n _ => pageRegs_orphanBox e ?_
  simp only [pg, PageKind.first]
  omega

/-! ## Sessions (R444) -/

theorem sessChallenge_refused {d : Dev} (h : d.sessionsOn = false ∨ d.now < d.boot.blockUntil) (healthy : Bool) :
    d.sessChallenge healthy = (d, 5) := if_pos (h.imp_left fun h => by simp [h])

/-- A nonce written to the eight registers of SESS_NONCE. -/
def nonceGiven (d : Dev) : Dev :=
  ((d.writeNonce (pg .secboot) R.SECBOOT.SESS_NONCE).setFlag (pg .secboot) F.SECBOOT.SESS_STATUS_NONCE_VALID true).modBoot
    (fun b => { b with nonceAt := d.now })

theorem now_writeNonce (d : Dev) (p o : Nat) : (d.writeNonce p o).now = d.now := by
  refine each_keeps Dev.now _ _ _ fun e i _ => ?_
  simp

theorem sessChallenge_open {d : Dev} (hon : d.sessionsOn = true) (hblock : d.boot.blockUntil ≤ d.now) (healthy : Bool) :
    d.sessChallenge healthy = if healthy then (d.nonceGiven, 0) else (d.raise .secboot 0 B.SECBOOT.SB_SESSION 0xFF, 5) := by
  have hopen : ¬ ((!d.sessionsOn) = true ∨ d.now < d.boot.blockUntil) := by
    rintro (h | h)
    · simp [hon] at h
    · omega
  rw [sessChallenge, if_neg hopen]
  cases healthy
  · rfl
  · rfl

/-- Word `i` of the next nonce. -/
def nonceWord (d : Dev) (i : Nat) : Word := BitVec.ofNat 32 (bitsOf (Config.nonce d.fresh).toNat (32 * i) 32)

theorem reg_writeNonce (d : Dev) (p o : Nat) {i : Nat} (hi : i < 8) : (d.writeNonce p o).reg p (o + 4 * i) = d.nonceWord i :=
  reg_each_words { d with fresh := d.fresh + 1 } p o 8 d.nonceWord hi

theorem frame_writeNonce (d : Dev) (p o : Nat) : (d.writeNonce p o).fresh = d.fresh + 1 ∧ (d.writeNonce p o).mem = d.mem ∧
    (d.writeNonce p o).keys = d.keys ∧ (d.writeNonce p o).host = d.host := by
  have h := each_keeps (fun e : Dev => (e.fresh, e.mem, e.keys, e.host)) ({ d with fresh := d.fresh + 1 } : Dev) (List.range 8)
    (fun e i => e.setReg p (o + 4 * i) (d.nonceWord i)) fun e i _ => by simp
  simp only [Prod.mk.injEq] at h
  exact h

theorem nonceGiven_spec (d : Dev) : d.nonceGiven.flag (pg .secboot) F.SECBOOT.SESS_STATUS_NONCE_VALID = true ∧
    (∀ i < 8, d.nonceGiven.reg (pg .secboot) (R.SECBOOT.SESS_NONCE + 4 * i) = d.nonceWord i) ∧ d.nonceGiven.fresh = d.fresh + 1 ∧
    d.nonceGiven.mem = d.mem ∧ d.nonceGiven.keys = d.keys := by
  obtain ⟨hfresh, hmem, hkeys, -⟩ := d.frame_writeNonce (pg .secboot) R.SECBOOT.SESS_NONCE
  refine ⟨?_, fun i hi => ?_, ?_, ?_, ?_⟩
  · rw [nonceGiven, flag_modBoot, flag_setFlag_self _ _ _ _ (by decide) (by decide)]
  · rw [nonceGiven, reg_modBoot, reg_setFlag_apart _ _ ?_, reg_writeNonce _ _ _ hi]
    simp only [R.SECBOOT.SESS_NONCE, F.SECBOOT.SESS_STATUS_NONCE_VALID]
    omega
  · simpa [nonceGiven] using hfresh
  · simp [nonceGiven]
  · simp [nonceGiven]

/-- What a response of the host port leaves of the other pages and of what is free. -/
theorem pageRegs_respond (d : Dev) (r : Req) (result : Nat) (ws : List Word) {p : Nat} (h : p ≠ pg .hostport) :
    (d.respond r result ws).pageRegs p = d.pageRegs p := by
  have hhost : ∀ (e : Dev) (f : HostS → HostS), (e.modHost f).pageRegs p = e.pageRegs p := fun _ _ => rfl
  rw [respond, hhost, pageRegs_ite, pageRegs_bump _ _ ⟨h, by decide⟩, ite_self, pageRegs_setFld _ _ ⟨h, by decide⟩, pageRegs_bump _ _ ⟨h, by decide⟩]

theorem fresh_respond (d : Dev) (r : Req) (result : Nat) (ws : List Word) : (d.respond r result ws).fresh = d.fresh := by
  simp only [respond, modHost]
  split <;> simp

/-- The words of a challenge's response. -/
theorem hostChallenge_given {d : Dev} (hon : d.sessionsOn = true) (hblock : d.boot.blockUntil ≤ d.now) (r : Req) :
    d.hostChallenge r true = d.nonceGiven.respond r 0 ((List.range 8).map d.nonceWord) := by
  have hwords : (List.range 8).map (fun i => d.nonceGiven.reg (pg .secboot) (R.SECBOOT.SESS_NONCE + 4 * i)) = (List.range 8).map d.nonceWord :=
    List.map_congr_left fun i hi => d.nonceGiven_spec.2.1 i (List.mem_range.mp hi)
  rw [hostChallenge, sessChallenge_open hon hblock, if_pos rfl, if_pos rfl, hwords]

theorem hostChallenge_unhealthy {d : Dev} (hon : d.sessionsOn = true) (hblock : d.boot.blockUntil ≤ d.now) (r : Req) :
    d.hostChallenge r false = (d.raise .secboot 0 B.SECBOOT.SB_SESSION 0xFF).respond r 5 [] := by
  rw [hostChallenge, sessChallenge_open hon hblock, if_neg Bool.false_ne_true]
  rfl

theorem hostChallenge_refused {d : Dev} (h : d.sessionsOn = false ∨ d.now < d.boot.blockUntil) (healthy : Bool) (r : Req) :
    d.hostChallenge r healthy = d.respond r 5 [] := by
  rw [hostChallenge, sessChallenge_refused h]
  rfl

theorem portMac_sized (d : Dev) (tag : BitVec 8) (l : List Byte) : d.portMac tag l =
    if l.length = 32 then d.hostResponse ⟨.port, 0x41, tag.toNat, 8⟩ (payloadBytes l) else d.respond ⟨.port, 0x41, tag.toNat, 8⟩ 3 [] := rfl

theorem sessResponse_refused {d : Dev} (h : d.flag (pg .secboot) F.SECBOOT.SESS_STATUS_NONCE_VALID = false ∨ d.nonceOld = true ∨
    d.sessionsOn = false) (mac : List Nat) : d.sessResponse mac = (d, 5) := by
  refine if_pos ?_
  rcases h with h | h | h
  · exact .inl (by simp [h])
  · exact .inr (.inl h)
  · exact .inr (.inr (by simp [h]))

/-- The nonce used up. -/
def nonceUsed (d : Dev) : Dev := d.setFlag (pg .secboot) F.SECBOOT.SESS_STATUS_NONCE_VALID false

/-- The session opened by a right MAC. -/
def sessOpened (d : Dev) : Dev :=
  ((d.nonceUsed.setFlag (pg .secboot) F.SECBOOT.SESS_STATUS_OPEN true).bump (pg .secboot) R.SECBOOT.SESSIONS).event (pg .secboot)
    F.SECBOOT.EVENT_SESSION

theorem sessMac_nonceUsed (d : Dev) : d.nonceUsed.sessMac = d.sessMac := by
  have hcells : ∀ w n, d.nonceUsed.otpBytes w n = d.otpBytes w n := fun w n => by
    simp [otpBytes, otpCell, nonceUsed]
  have hnonce : d.nonceUsed.regBytes (pg .secboot) R.SECBOOT.SESS_NONCE 8 = d.regBytes (pg .secboot) R.SECBOOT.SESS_NONCE 8 := by
    refine congrArg List.flatten (List.map_congr_left fun i _ => ?_)
    rw [nonceUsed, reg_setFlag_apart]
    simp only [R.SECBOOT.SESS_NONCE, F.SECBOOT.SESS_STATUS_NONCE_VALID]
    omega
  rw [sessMac, sessMac, hcells, hcells, hnonce]

theorem sessResponse_judged {d : Dev} (hnonce : d.flag (pg .secboot) F.SECBOOT.SESS_STATUS_NONCE_VALID = true) (hfresh : d.nonceOld = false)
    (hon : d.sessionsOn = true) (mac : List Nat) : d.sessResponse mac = if mac = d.sessMac then (d.sessOpened, 0)
      else (((d.nonceUsed.bump (pg .secboot) R.SECBOOT.SESS_FAILS).modBoot (fun b => { b with blockUntil := d.now + 40000000 })).raise .secboot 0
        B.SECBOOT.SB_SESSION 1, 5) := by
  have hok : ¬ ((!d.flag (pg .secboot) F.SECBOOT.SESS_STATUS_NONCE_VALID) = true ∨ d.nonceOld = true ∨ (!d.sessionsOn) = true) := by
    simp [hnonce, hfresh, hon]
  rw [sessResponse, if_neg hok, ← sessMac_nonceUsed]
  rfl

theorem sessOpened_spec (d : Dev) : d.sessOpened.sessionOpen = true ∧ d.sessOpened.flag (pg .secboot) F.SECBOOT.SESS_STATUS_NONCE_VALID = false ∧
    d.sessOpened.reg (pg .secboot) R.SECBOOT.SESSIONS = d.reg (pg .secboot) R.SECBOOT.SESSIONS + 1 ∧ d.sessOpened.mem = d.mem ∧
    d.sessOpened.keys = d.keys := by
  refine ⟨?_, ?_, ?_, by simp [sessOpened, nonceUsed], by simp [sessOpened, nonceUsed]⟩
  · simp (disch := decide) only [sessionOpen, sessOpened, reads_apart, reads_apart_reg, reads_self]
  · simp (disch := decide) only [sessOpened, nonceUsed, reads_apart, reads_apart_reg, reads_self]
  · simp (disch := decide) only [sessOpened, nonceUsed, reads_ofs, reg_bump_self]
    rfl

/-! ## The end of a session -/

theorem sessEnd_closed {d : Dev} (h : d.sessionOpen = false) : d.sessEnd = d := if_neg fun hc => Bool.false_ne_true (h.symm.trans hc)

theorem sessEnd_open {d : Dev} (h : d.sessionOpen = true) :
    d.sessEnd = (d.setFlag (pg .secboot) F.SECBOOT.SESS_STATUS_OPEN false).mbOrphan 1 (List.range 4) := if_pos h

theorem pg_mbox_ne {p : Nat} (h : p < 0x70) (n : Nat) : pg .mbox n ≠ p := by
  simp only [pg, PageKind.first]
  omega

/-- A register of a page below the mailboxes changed does not change which of them are held. -/
theorem mbHeld_of_pageRegs {d e : Dev} {n : Nat} (h : e.pageRegs (pg .mbox n) = d.pageRegs (pg .mbox n)) :
    e.mbState n = d.mbState n ∧ e.mbHolder n = d.mbHolder n := ⟨fld_of_pageRegs h (by decide), fld_of_pageRegs h (by decide)⟩

theorem sessEnd_spec {d : Dev} : d.sessEnd.sessionOpen = false ∧ (d.sessionOpen = true → ∀ b < 4, d.mbState b ≠ 0 → d.mbHolder b = 1 →
    BoxExpired b d.sessEnd) ∧ d.sessEnd.mem = d.mem ∧ d.sessEnd.keys = d.keys := by
  refine ⟨?_, fun h b hb hstate hholder => ?_, by simp [sessEnd], by simp [sessEnd]⟩
  · by_cases h : d.sessionOpen = true
    · rw [sessEnd_open h, sessionOpen, flag_of_pageRegs (pageRegs_mbOrphan _ _ _ (by decide)) (by decide),
        flag_setFlag_self _ _ _ _ (by decide) (by decide)]
    · rw [Bool.not_eq_true] at h
      rw [sessEnd_closed h, h]
  · obtain ⟨hs, hh⟩ := mbHeld_of_pageRegs (pageRegs_setFlag d (q := pg .secboot) (f := F.SECBOOT.SESS_STATUS_OPEN) false
      ⟨pg_mbox_ne (by decide) b, by decide⟩)
    rw [sessEnd_open h]
    exact boxExpired_mbOrphan hb (hs.trans_ne hstate) (hh.trans hholder)

/-- The session ended by the host, with its response. -/
theorem hostClose_spec {d : Dev} (h : d.sessionOpen = true) (r : Req) : (d.hostClose r).sessionOpen = false ∧
    (∀ b < 4, d.mbState b ≠ 0 → d.mbHolder b = 1 → BoxExpired b (d.hostClose r)) ∧ (d.hostClose r).mem = d.mem ∧ (d.hostClose r).keys = d.keys := by
  obtain ⟨hclosed, hfreed, hmem, hkeys⟩ := d.sessEnd_spec
  refine ⟨?_, fun b hb hstate hholder => ?_, ?_, ?_⟩
  · rw [hostClose, sessionOpen, flag_of_pageRegs (pageRegs_respond _ _ _ _ (by decide)) (by decide)]
    exact hclosed
  · exact (hfreed h b hb hstate hholder).of_pageRegs (pageRegs_respond _ _ _ _ (pg_mbox_ne (by decide) b))
  · simp [hostClose]
  · simp [hostClose]

/-- The session ended by a write of SECBOOT.CMD. -/
theorem sessClosed_spec (d : Dev) : (d.sessEnd.sbResult 0).done.sessionOpen = false ∧
    (d.sessionOpen = true → ∀ b < 4, d.mbState b ≠ 0 → d.mbHolder b = 1 → BoxExpired b (d.sessEnd.sbResult 0).done) ∧
    (d.sessEnd.sbResult 0).done.fld (pg .secboot) F.SECBOOT.CMD_STATUS_RESULT = 0 ∧ (d.sessEnd.sbResult 0).done.mem = d.mem ∧
    (d.sessEnd.sbResult 0).done.keys = d.keys := by
  obtain ⟨hclosed, hfreed, hmem, hkeys⟩ := d.sessEnd_spec
  refine ⟨?_, fun h b hb hstate hholder => ?_, ?_, ?_, ?_⟩
  · rw [sessionOpen, flag_done, sbResult, flag_setFld_apart _ _ (by decide)]
    exact hclosed
  · exact (hfreed h b hb hstate hholder).of_pageRegs (pageRegs_setFld _ _ ⟨pg_mbox_ne (by decide) b, by decide⟩)
  · rw [fld_done, sbResult, fld_setFld_self _ _ _ _ (by decide), Nat.zero_mod]
  · simp [sbResult, done]
  · simp [sbResult, done]

theorem secbootWrite_close (d : Dev) (m : Master) : d.secbootWrite m R.SECBOOT.CMD 0x5EB00004 false = d.sessEnd.sbResult 0 := by
  rw [secbootWrite, if_pos rfl]
  exact if_pos (by decide)

/-! ## Debug (R446, R447, R464) -/

theorem debugWrite_command (d : Dev) (m : Master) : d.debugWrite m R.DEBUG.DBG_CMD 1 = d.dbgChallenge ∧
    d.debugWrite m R.DEBUG.DBG_CMD 2 = d.dbgSubmit ∧ d.debugWrite m R.DEBUG.DBG_CMD 3 = d.dbgRelock := by
  refine ⟨?_, ?_, ?_⟩ <;> rw [debugWrite, if_pos rfl] <;> rfl

theorem dbgChallenge_spec (d : Dev) : d.dbgChallenge.done.flag (pg .debug) F.DEBUG.DBG_STATUS_NONCE_VALID = true ∧
    (∀ i < 8, d.dbgChallenge.done.reg (pg .debug) (R.DEBUG.NONCE + 4 * i) = d.nonceWord i) ∧ d.dbgChallenge.done.fresh = d.fresh + 1 ∧
    d.dbgChallenge.done.mem = d.mem ∧ d.dbgChallenge.done.keys = d.keys := by
  obtain ⟨hfresh, hmem, hkeys, -⟩ := d.frame_writeNonce (pg .debug) R.DEBUG.NONCE
  refine ⟨?_, fun i hi => ?_, ?_, ?_, ?_⟩
  · rw [flag_done, dbgChallenge, flag_setFlag_self _ _ _ _ (by decide) (by decide)]
  · rw [reg_done, dbgChallenge, reg_setFlag_apart _ _ ?_, reg_writeNonce _ _ _ hi]
    simp only [R.DEBUG.NONCE, F.DEBUG.DBG_STATUS_NONCE_VALID]
    omega
  · simpa [dbgChallenge, done] using hfresh
  · simp [dbgChallenge, done]
  · simp [dbgChallenge, done]

/-- In RUN no token is right. -/
theorem tokenCode_run {d : Dev} (h : d.state = 4) (t : List Nat) : d.tokenCode t ≠ 0 := by
  unfold tokenCode
  dsimp only
  split
  · decide
  · split
    · decide
    · decide

/-- What SUBMIT leaves of the nonce, with its result. -/
def tokenJudged (d : Dev) : Dev :=
  (d.setFld (pg .debug) F.DEBUG.DBG_STATUS_RESULT (d.tokenCode d.tokenBytes)).setFlag (pg .debug) F.DEBUG.DBG_STATUS_NONCE_VALID false

theorem dbgSubmit_eq (d : Dev) : d.dbgSubmit = if d.tokenCode d.tokenBytes = 0 then
      ((d.tokenJudged.setFld (pg .debug) F.DEBUG.DBG_STATUS_LEVEL (le d.tokenBytes 4 1)).bump (pg .debug) R.DEBUG.UNLOCKS).event (pg .debug)
        F.DEBUG.EVENT_UNLOCKED
    else ((d.tokenJudged.bump (pg .debug) R.DEBUG.UNLOCK_FAILS).event (pg .debug) F.DEBUG.EVENT_REFUSED_TOKEN).raise .debug 0 B.DEBUG.DBG_TOKEN
      (d.tokenCode d.tokenBytes) := rfl

theorem dbgRelock_spec (d : Dev) : d.dbgRelock.done.debugLevel = 0 ∧
    (∀ b < 8, d.mbState b ≠ 0 → d.mbHolder b = 4 → BoxExpired b d.dbgRelock.done) ∧ d.dbgRelock.done.mem = d.mem ∧ d.dbgRelock.done.keys = d.keys := by
  refine ⟨?_, fun b hb hstate hholder => ?_, by simp [dbgRelock, done], by simp [dbgRelock, done]⟩
  · rw [debugLevel, fld_done, dbgRelock, fld_of_pageRegs (pageRegs_mbOrphan _ _ _ (by decide)) (by decide), fld_setFld_self _ _ _ _ (by decide),
      Nat.zero_mod]
  · obtain ⟨hs, hh⟩ := mbHeld_of_pageRegs (pageRegs_setFld d (q := pg .debug) (f := F.DEBUG.DBG_STATUS_LEVEL) 0
      ⟨pg_mbox_ne (by decide) b, by decide⟩)
    exact (boxExpired_mbOrphan hb (hs.trans_ne hstate) (hh.trans hholder)).of_pageRegs rfl

end Dev

/-- Settles O51: challenges and responses of a session, its end, and the commands of the debug page. -/
theorem sessionsAndDebugRun : Obligations.SessionsAndDebugRun := by
  unfold Obligations.SessionsAndDebugRun
  intro d m tag p q r40 r41 nonce freed
  refine ⟨fun hlive => ⟨fun h hrefused => Runs.live hlive (fun _ => rfl) (Dev.hostChallenge_refused hrefused h _), fun hon hblock => ?challenge,
    fun l => ?response, fun hclosed => ?closed, fun hopen => ?close, ?old, fun hold => Runs.live hlive (fun _ => rfl) (if_pos hold), fun hold => ?young⟩,
    fun h => ?sessClose, fun h => ?debug⟩
  case challenge =>
    obtain ⟨hvalid, hwords, hfresh, hmem, hkeys⟩ := d.nonceGiven_spec
    have hpage := Dev.pageRegs_respond d.nonceGiven r40 0 ((List.range 8).map d.nonceWord) (p := pg .secboot) (by decide)
    refine ⟨Runs.live hlive (fun _ => rfl) (Dev.hostChallenge_unhealthy hon hblock _), _,
      Runs.live hlive (fun _ => rfl) (Dev.hostChallenge_given hon hblock _), (Dev.flag_of_pageRegs hpage (by decide)).trans hvalid, fun i hi => ?_,
      (Dev.fresh_respond ..).trans hfresh, (Dev.respond_spec _ _ _ _ _).1, (Dev.respond_spec _ _ _ _ _).2.2.2.1.trans hmem,
      (Dev.respond_spec _ _ _ _ _).2.2.2.2.trans hkeys⟩
    refine (Dev.reg_of_pageRegs hpage ?_).trans (hwords i hi)
    simp only [R.SECBOOT.SESS_NONCE]
    omega
  case response =>
    have hsized := d.portMac_sized tag l
    refine ⟨fun hlen => Runs.live hlive (fun _ => rfl) (hsized.trans (if_neg hlen)), fun hlen hrefused => Runs.live hlive (fun _ => rfl) ?_,
      fun hlen hvalid hyoung hon => ⟨fun hmac => ?_, fun hmac => Runs.live hlive (fun _ => rfl) ?_⟩⟩
    · rw [hsized, if_pos hlen, Dev.hostResponse, Dev.sessResponse_refused hrefused]
    · obtain ⟨hopen, hused, hcount, hmem, hkeys⟩ := d.sessOpened_spec
      have hpage := Dev.pageRegs_respond d.sessOpened r41 0 [] (p := pg .secboot) (by decide)
      have hrun : d.portMac tag l = d.sessOpened.respond r41 0 [] := by
        rw [hsized, if_pos hlen, Dev.hostResponse, Dev.sessResponse_judged hvalid hyoung hon, if_pos hmac]
      exact ⟨_, Runs.live hlive (fun _ => rfl) hrun, (Dev.flag_of_pageRegs hpage (by decide)).trans hopen,
        (Dev.flag_of_pageRegs hpage (by decide)).trans hused, (Dev.reg_of_pageRegs hpage (by decide)).trans hcount, (Dev.respond_spec _ _ _ _ _).1,
        (Dev.respond_spec _ _ _ _ _).2.2.2.1.trans hmem, (Dev.respond_spec _ _ _ _ _).2.2.2.2.trans hkeys⟩
    · rw [hsized, if_pos hlen, Dev.hostResponse, Dev.sessResponse_judged hvalid hyoung hon, if_neg hmac]
      rfl
  case closed =>
    have hend := Dev.sessEnd_closed hclosed
    refine ⟨Runs.live hlive (fun _ => rfl) ?_, Runs.live hlive (fun _ => rfl) ?_⟩
    · rw [Dev.hostClose, hend]
    · rw [Dev.sessIdle, hend, ite_self]
  case close =>
    obtain ⟨hclosed, hfreed, hmem, hkeys⟩ := Dev.hostClose_spec hopen ⟨.port, 0x42, tag.toNat, 0⟩
    obtain ⟨iclosed, ifreed, imem, ikeys⟩ := d.sessEnd_spec
    refine ⟨⟨_, Runs.live hlive (fun _ => rfl) rfl, hclosed, hfreed, (Dev.respond_spec _ _ _ _ _).1, hmem, hkeys⟩, fun hdue => ?_, fun hdue => ?_⟩
    · exact ⟨_, Runs.live hlive (fun _ => rfl) (if_pos hdue), iclosed, ifreed hopen, imem, ikeys⟩
    · exact Runs.live hlive (fun _ => rfl) (if_neg (Nat.not_le.mpr hdue))
  case old => exact decide_eq_true_iff
  case young =>
    refine Runs.live hlive (fun _ => rfl) (if_neg ?_)
    rw [hold]
    decide
  case sessClose =>
    exact ⟨_, Runs.block (by decide) (by decide) h (by decide) (fun _ => rfl) (d.secbootWrite_close m), d.sessClosed_spec⟩
  case debug =>
    obtain ⟨hchallenge, hsubmit, hrelock⟩ := d.debugWrite_command m
    refine ⟨⟨_, Runs.block (by decide) (by decide) h (by decide) (fun _ => rfl) hchallenge, d.dbgChallenge_spec⟩, ?_,
      fun hst => Dev.tokenCode_run hst _, ⟨_, Runs.block (by decide) (by decide) h (by decide) (fun _ => rfl) hrelock, d.dbgRelock_spec⟩⟩
    intro c e
    exact ⟨fun hc => Runs.block (by decide) (by decide) h (by decide) (fun _ => rfl) (hsubmit.trans (d.dbgSubmit_eq.trans (if_pos hc))),
      fun hc => Runs.block (by decide) (by decide) h (by decide) (fun _ => rfl) (hsubmit.trans (d.dbgSubmit_eq.trans (if_neg hc)))⟩

end Sys2Proof.Machine
end

section
/-!
PROOFS. The state of a pair under its instructions (R465, R466, R481): what a pair reads after its state is changed, what an instruction that
completes and a trap leave.
-/
namespace Sys2Proof.Machine

/-! ## Registers of a core (R466) -/

-- Checked in its turn, so that the proofs above are complete before the ones below begin.
set_option Elab.async false in
theorem CoreS.xr_zero (c : CoreS) : c.xr 0 = 0 := rfl

theorem CoreS.xr_of_x {c c' : CoreS} (h : c'.x = c.x) (r : Nat) : c'.xr r = c.xr r := by rw [CoreS.xr, CoreS.xr, h]

theorem CoreS.xr_setX_self (c : CoreS) {r : Nat} (hr : r < 32) (h0 : r ≠ 0) (v : Word) : (c.setX r v).xr r = v := by
  rw [CoreS.xr, if_neg h0, CoreS.setX, if_neg h0]
  exact vget_vmod_self _ hr _ _

theorem CoreS.xr_setX_other (c : CoreS) {r j : Nat} (hr : r < 32) (h : j ≠ r) (v : Word) : (c.setX r v).xr j = c.xr j := by
  unfold CoreS.setX
  split
  · rfl
  · simp only [CoreS.xr, vget_vmod _ hr, if_neg h]

/-- The state of a core but for its x registers, its pc and its counts. -/
def CoreS.Beside (c c' : CoreS) : Prop :=
  c'.f = c.f ∧ c'.mach = c.mach ∧ c'.mstatus = c.mstatus ∧ c'.mepc = c.mepc ∧ c'.mcause = c.mcause ∧ c'.mtval = c.mtval

theorem CoreS.beside_setX (c : CoreS) (r : Nat) (v : Word) : c.Beside (c.setX r v) := by
  unfold CoreS.setX
  split <;> exact ⟨rfl, rfl, rfl, rfl, rfl, rfl⟩

theorem bitAt_setBits_self (n i : Nat) (v : Nat) : bitAt (setBits n i 1 v) i = bitAt v 0 := by
  rw [bitAt_eq_testBit, bitAt_eq_testBit, testBit_setBits, if_pos ⟨Nat.le_refl i, Nat.lt_succ_self i⟩, Nat.sub_self]

theorem bitAt_setBits_other (n lo w v : Nat) {i : Nat} (h : i < lo ∨ lo + w ≤ i) : bitAt (setBits n lo w v) i = bitAt n i := by
  rw [bitAt_eq_testBit, bitAt_eq_testBit, testBit_setBits, if_neg (by omega)]

theorem bitAt_bitsOf_one (n i : Nat) : bitAt (bitsOf n i 1) 0 = bitAt n i := by
  rw [bitAt_eq_testBit, bitAt_eq_testBit, testBit_bitsOf]
  simp

namespace Dev

/-! ## The two pairs -/

theorem pairNo_lt (i : Pair) : pairNo i < 2 := by cases i <;> decide

theorem coreS_modCore_self (d : Dev) {n : Nat} (h : n < 2) (f : CoreS → CoreS) : (d.modCore n f).coreS n = f (d.coreS n) :=
  vget_vmod_self _ h _ _

theorem coreS_modCore_other (d : Dev) {n j : Nat} (h : n < 2) (hj : j ≠ n) (f : CoreS → CoreS) :
    (d.modCore n f).coreS j = d.coreS j :=
  (vget_vmod _ h _ _ _).trans (if_neg hj)

theorem otherPair_ne {n : Nat} (h : n < 2) : 1 - n ≠ n := by omega

section
variable {n : Nat} (hn : n < 2)

/-! ## An instruction that completes -/

/-- Device `t` differs from `e` in the x registers, the pc and the counts of pair `n` only. -/
def OnlyRegisters (n : Nat) (e t : Dev) : Prop :=
  t.coreS (1 - n) = e.coreS (1 - n) ∧ t.regs = e.regs ∧ t.mem = e.mem ∧ t.keys = e.keys ∧ t.bus = e.bus ∧
    (t.coreS n).f = (e.coreS n).f ∧ (t.coreS n).mach = (e.coreS n).mach ∧ (t.coreS n).mstatus = (e.coreS n).mstatus ∧
    (t.coreS n).mepc = (e.coreS n).mepc ∧ (t.coreS n).mcause = (e.coreS n).mcause ∧ (t.coreS n).mtval = (e.coreS n).mtval

/-- Pair `n` goes on at `pc` with `v` in register `rd`, and its other x registers as before. -/
def Sets (n : Nat) (e t : Dev) (rd : Nat) (v pc : Word) : Prop :=
  (t.coreS n).pc = pc ∧ (rd ≠ 0 → (t.coreS n).xr rd = v) ∧ (∀ r, r ≠ rd → (t.coreS n).xr r = (e.coreS n).xr r) ∧ (t.coreS n).xr 0 = 0

include hn

theorem pc_retire (d : Dev) (pc : Word) (count : Bool) : ((d.retire n pc count).coreS n).pc = pc := by
  rw [retire, coreS_modCore_self d hn]

theorem x_retire (d : Dev) (pc : Word) (count : Bool) : ((d.retire n pc count).coreS n).x = (d.coreS n).x := by
  rw [retire, coreS_modCore_self d hn]

theorem beside_retire (d : Dev) (pc : Word) (count : Bool) : (d.coreS n).Beside ((d.retire n pc count).coreS n) := by
  rw [retire, coreS_modCore_self d hn]
  exact ⟨rfl, rfl, rfl, rfl, rfl, rfl⟩

theorem other_retire (d : Dev) (pc : Word) (count : Bool) : (d.retire n pc count).coreS (1 - n) = d.coreS (1 - n) :=
  coreS_modCore_other d hn (otherPair_ne hn) _

theorem onlyRegisters_retire (d : Dev) (pc : Word) (count : Bool) : OnlyRegisters n d (d.retire n pc count) :=
  ⟨other_retire hn d pc count, rfl, rfl, rfl, rfl, beside_retire hn d pc count⟩

theorem onlyRegisters_retireX (d : Dev) (rd : Nat) (v pc : Word) : OnlyRegisters n d (d.retireX n rd v pc) := by
  refine ⟨?_, rfl, rfl, rfl, rfl, ?_⟩
  · rw [retireX, other_retire hn, coreS_modCore_other d hn (otherPair_ne hn)]
  · obtain ⟨hf, hmach, hstatus, hepc, hcause, htval⟩ := beside_retire hn (d.modCore n fun c => c.setX rd v) pc true
    rw [coreS_modCore_self d hn] at hf hmach hstatus hepc hcause htval
    obtain ⟨gf, gmach, gstatus, gepc, gcause, gtval⟩ := (d.coreS n).beside_setX rd v
    exact ⟨hf.trans gf, hmach.trans gmach, hstatus.trans gstatus, hepc.trans gepc, hcause.trans gcause, htval.trans gtval⟩

theorem sets_retireX (d : Dev) {rd : Nat} (hrd : rd < 32) (v pc : Word) : Sets n d (d.retireX n rd v pc) rd v pc := by
  have hx : ∀ r, ((d.retireX n rd v pc).coreS n).xr r = ((d.coreS n).setX rd v).xr r := fun r => by
    rw [retireX, CoreS.xr_of_x (x_retire hn _ pc true), coreS_modCore_self d hn]
  refine ⟨pc_retire hn _ pc true, fun h0 => ?_, fun r hr => ?_, CoreS.xr_zero _⟩
  · rw [hx, CoreS.xr_setX_self _ hrd h0]
  · rw [hx, CoreS.xr_setX_other _ hrd hr]

/-! ## Traps -/

omit hn in
/-- Device `t` is `e` after a trap of pair `n`: the pc and the status are saved, and the pair goes on at mtvec in machine mode. -/
def Traps (n : Nat) (e t : Dev) (cause : Word) : Prop :=
  (t.coreS n).pc = BitVec.ofNat 32 (e.coreS n).mtvec ∧ (t.coreS n).mepc = (e.coreS n).pc.toNat ∧
    (t.coreS n).mcause = cause ∧ (t.coreS n).mach = true ∧ bitAt (t.coreS n).mstatus 3 = false ∧
    bitAt (t.coreS n).mstatus 7 = bitAt (e.coreS n).mstatus 3 ∧ bitsOf (t.coreS n).mstatus 11 2 = (if (e.coreS n).mach then 3 else 0) ∧
    (t.coreS n).x = (e.coreS n).x ∧ t.coreS (1 - n) = e.coreS (1 - n) ∧ t.regs = e.regs ∧ t.mem = e.mem ∧ t.keys = e.keys

omit hn in
/-- MIE, MPIE and MPP as a trap leaves them. -/
theorem status_trap (c : CoreS) (cause tval pc : Word) :
    bitAt (c.trap cause tval pc).mstatus 3 = false ∧ bitAt (c.trap cause tval pc).mstatus 7 = bitAt c.mstatus 3 ∧
      bitsOf (c.trap cause tval pc).mstatus 11 2 = (if c.mach then 3 else 0) := by
  simp only [CoreS.trap]
  refine ⟨?_, ?_, ?_⟩
  · rw [bitAt_setBits_other _ _ _ _ (by decide), bitAt_setBits_self]
    rfl
  · rw [bitAt_setBits_other _ _ _ _ (by decide), bitAt_setBits_other _ _ _ _ (by decide), bitAt_setBits_self, bitAt_bitsOf_one]
  · rw [bitsOf_setBits_self]
    cases c.mach <;> rfl

/-- A trap of a pair on a device that is `e` but for its free values. -/
theorem traps_of_trap {e x : Dev} (hcore : x.comp = e.comp) (hregs : x.regs = e.regs) (hmem : x.mem = e.mem) (hkeys : x.keys = e.keys)
    (cause tval : CoreS → Word) :
    Traps n e (x.modCore n fun c => c.trap (cause c) (tval c) (BitVec.ofNat 32 c.mtvec)) (cause (e.coreS n)) := by
  have hx : ∀ j, x.coreS j = e.coreS j := fun j => by rw [coreS, coreS, hcore]
  obtain ⟨hmie, hmpie, hmpp⟩ := status_trap (e.coreS n) (cause (e.coreS n)) (tval (e.coreS n)) (BitVec.ofNat 32 (e.coreS n).mtvec)
  have hself := x.coreS_modCore_self hn fun c => c.trap (cause c) (tval c) (BitVec.ofNat 32 c.mtvec)
  have hother := x.coreS_modCore_other hn (otherPair_ne hn) fun c => c.trap (cause c) (tval c) (BitVec.ofNat 32 c.mtvec)
  rw [hx] at hself hother
  unfold Traps
  rw [hself]
  exact ⟨rfl, rfl, rfl, rfl, hmie, hmpie, hmpp, rfl, hother, hregs, hmem, hkeys⟩

theorem traps_coreTrap (e : Dev) (cause tval : Nat) : Traps n e (e.coreTrap n cause tval) (BitVec.ofNat 32 cause) :=
  traps_of_trap hn rfl rfl rfl rfl (fun _ => BitVec.ofNat 32 cause) fun _ => if bitAt e.takeFree.1.toNat 0 then BitVec.ofNat 32 tval else 0

theorem traps_coreCall (e : Dev) : Traps n e (e.coreCall n) (if (e.coreS n).mach then 11#32 else 8#32) :=
  traps_of_trap hn rfl rfl rfl rfl (fun c => if c.mach then 11#32 else 8#32) fun _ => 0

omit hn in
/-- mstatus as MRET restores it: MIE from MPIE, and MPRV cleared on a return to user mode. -/
def mretStatus (ms : Nat) : Nat :=
  let back := setBits (setBits (setBits ms 3 1 (bitsOf ms 7 1)) 7 1 1) 11 2 0
  if bitsOf ms 11 2 == 3 then back else setBits back 17 1 0

omit hn in
theorem mretStatus_spec (ms : Nat) :
    bitAt (mretStatus ms) 3 = bitAt ms 7 ∧ bitAt (mretStatus ms) 7 = true ∧ bitsOf (mretStatus ms) 11 2 = 0 := by
  set back := setBits (setBits (setBits ms 3 1 (bitsOf ms 7 1)) 7 1 1) 11 2 0 with hback
  have hmie : bitAt back 3 = bitAt ms 7 := by
    rw [hback, bitAt_setBits_other _ _ _ _ (by decide), bitAt_setBits_other _ _ _ _ (by decide), bitAt_setBits_self, bitAt_bitsOf_one]
  have hmpie : bitAt back 7 = true := by
    rw [hback, bitAt_setBits_other _ _ _ _ (by decide), bitAt_setBits_self]
    rfl
  have hmpp : bitsOf back 11 2 = 0 := by rw [hback, bitsOf_setBits_self, Nat.zero_mod]
  rw [mretStatus, ← hback]
  split
  case isTrue => exact ⟨hmie, hmpie, hmpp⟩
  case isFalse =>
    exact ⟨(bitAt_setBits_other _ _ _ _ (by decide)).trans hmie, (bitAt_setBits_other _ _ _ _ (by decide)).trans hmpie,
      (bitsOf_setBits_other _ _ _ _ _ _ (by decide)).trans hmpp⟩

omit hn in
/-- A core with the mode and mstatus that MRET restores from `ms`. -/
def mretCore (ms : Nat) (c : CoreS) : CoreS := { c with mstatus := mretStatus ms, mach := bitsOf ms 11 2 == 3 }

/-- MRET restores MIE and the mode, and goes on at mepc. -/
theorem coreMret_spec (e : Dev) : let t := e.coreMret n
    (t.coreS n).pc = BitVec.ofNat 32 (e.coreS n).mepc ∧ (t.coreS n).mach = (bitsOf (e.coreS n).mstatus 11 2 == 3) ∧
      bitAt (t.coreS n).mstatus 3 = bitAt (e.coreS n).mstatus 7 ∧ bitAt (t.coreS n).mstatus 7 = true ∧ bitsOf (t.coreS n).mstatus 11 2 = 0 ∧
      (t.coreS n).x = (e.coreS n).x ∧ t.mem = e.mem ∧ t.regs = e.regs := by
  intro t
  let restore := mretCore (e.coreS n).mstatus
  have hself := e.coreS_modCore_self hn restore
  obtain ⟨-, hmach, hstatus, -⟩ := beside_retire hn (e.modCore n restore) (BitVec.ofNat 32 (e.coreS n).mepc) true
  have hx := x_retire hn (e.modCore n restore) (BitVec.ofNat 32 (e.coreS n).mepc) true
  rw [hself] at hmach hstatus hx
  obtain ⟨hmie, hmpie, hmpp⟩ := mretStatus_spec (e.coreS n).mstatus
  rw [show (t.coreS n).mstatus = mretStatus (e.coreS n).mstatus from hstatus]
  exact ⟨pc_retire hn _ _ true, hmach, hmie, hmpie, hmpp, hx, rfl, rfl⟩

omit hn in
theorem sram_bounds {a : Nat} (h : regionOf a 4 = some .sram) : 0x20000000 ≤ a ∧ a + 4 ≤ 0x20400000 := by
  simp only [regionOf, Bool.and_eq_true, decide_eq_true_eq] at h
  split_ifs at h <;> simp_all

omit hn in
theorem memNo_sram {a : Nat} (h : regionOf a 4 = some .sram) : memNo a = some 1 := by
  obtain ⟨hlo, hhi⟩ := sram_bounds h
  have hr : regionOf a 1 = some .sram := by
    simp only [regionOf, Bool.and_eq_true, decide_eq_true_eq]
    rw [if_neg (by omega), if_neg (by omega), if_neg (by omega), if_pos (by omega)]
  rw [memNo, hr]

omit hn in
/-- A master that may read a clean word of system SRAM is answered the word (R473). -/
theorem busRead_sram {e : Dev} (hlive : e.busLive = true) {a : Nat} (hsram : regionOf a 4 = some .sram) (halign : a % 4 = 0) {m : Master}
    (hallow : e.memAllowed m a 4 false = true) (bit : Nat) : e.busRead m a .clean bit = { e with bus := .data (Mem.word e.mem a) } := by
  have hclean : e.eccRead a m.cls .clean bit = (e, false) := by simp only [eccRead, memNo_sram hsram]
  rw [busRead, hlive, hsram]
  simp [memoryRead, hlive, memNo_sram hsram, halign, hallow, hclean]

omit hn in
theorem coreLoad_misaligned (e : Dev) {a : Nat} (ha : a % 4 ≠ 0) (pc : Word) (flaw : Flaw) (bit : Nat) (put : CoreS → Word → CoreS) :
    e.coreLoad n a 4 pc flaw bit put = e.coreTrap n 4 a := by
  simp [coreLoad, ha]

omit hn in
theorem coreStore_misaligned (e : Dev) {a : Nat} (ha : a % 4 ≠ 0) (v pc : Word) (flaw : Flaw) (bit : Nat) :
    e.coreStore n a 4 v pc flaw bit = e.coreTrap n 6 a := by
  simp [coreStore, ha]

omit hn in
/-- A word of system SRAM loaded: the answered word is put into its register. -/
theorem coreLoad_sram {e : Dev} (hlive : e.busLive = true) {a : Nat} (hsram : regionOf a 4 = some .sram) (halign : a % 4 = 0)
    (hpmp : (e.coreS n).pmpOk (dataMode (e.coreS n)) a 4 1 = true) (hallow : e.memAllowed (pairMaster n) a 4 false = true) (pc : Word)
    (bit : Nat) (put : CoreS → Word → CoreS) : e.coreLoad n a 4 pc .clean bit put =
      (({ e with bus := .data (Mem.word e.mem a) } : Dev).modCore n fun c => put c (Mem.word e.mem a)).retire n pc := by
  have hwait : e.loadWaits a 4 = false := by rw [loadWaits, hsram]; rfl
  simp [coreLoad, halign, hpmp, hwait, busLoad, busRead_sram hlive hsram halign hallow]

theorem secure_retire (d : Dev) (pc : Word) (count : Bool) (m : Master) : (d.retire n pc count).secure m = d.secure m := by
  have hmach : ∀ j, ((d.retire n pc count).coreS j).mach = (d.coreS j).mach := fun j => by
    by_cases hj : j = n
    · obtain ⟨-, hmach, -⟩ := beside_retire hn d pc count
      rw [hj, hmach]
    · exact congrArg CoreS.mach (coreS_modCore_other d hn hj _)
  cases m with
  | ctrl => exact congrArg (· && _) (hmach 0)
  | svc => exact congrArg (· && _) (hmach 1)
  | host => rfl
  | debug => rfl

theorem memAllowed_retire (d : Dev) (pc : Word) (count : Bool) (m : Master) (a k : Nat) (wr : Bool) :
    (d.retire n pc count).memAllowed m a k wr = d.memAllowed m a k wr := by
  show (d.reaches m a k wr && (!d.memSecure a || (d.retire n pc count).secure m)) = _
  rw [secure_retire hn, memAllowed]

/-- A word stored into system SRAM. -/
theorem coreStore_sram {e : Dev} (hlive : e.busLive = true) {a : Nat} (hsram : regionOf a 4 = some .sram) (halign : a % 4 = 0)
    (hpmp : (e.coreS n).pmpOk (dataMode (e.coreS n)) a 4 2 = true) (hallow : e.memAllowed (pairMaster n) a 4 true = true) (v pc : Word)
    (flaw : Flaw) (bit : Nat) :
    e.coreStore n a 4 v pc flaw bit = { e.retire n pc with mem := Mem.setWord e.mem a v, bus := .done } := by
  have hstore : (e.retire n pc).busStore (pairMaster n) a 4 v flaw bit = { e.retire n pc with mem := Mem.setWord e.mem a v, bus := .done } := by
    rw [busStore, if_pos rfl, busWrite_memory (d := e.retire n pc) hlive (by rw [hsram]; decide), memStore, memAllowed_retire hn, hsram,
      if_pos ⟨halign, hallow⟩, if_neg (by decide)]
    rfl
  simp [coreStore, halign, hpmp, hstore]

omit hn in
theorem signed_word (w : Word) : BitVec.ofInt 32 (toSigned (8 * 4) w.toNat) = w := by
  apply BitVec.eq_of_toInt_eq
  have hlt := w.isLt
  rw [BitVec.toInt_ofInt, toSigned, Nat.mod_eq_of_lt (by omega), BitVec.toInt_eq_toNat_cond]
  split <;> rename_i h <;> simp only [Int.bmod] <;> omega

omit hn in
theorem execRv_load {e : Dev} {rs : Nat} {off : Int} {a : Nat} (ha : ((e.coreS n).xr rs + BitVec.ofInt 32 off).toNat = a)
    (rd raw : Nat) (pc : Word) (flaw : Flaw) (bit : Nat) : e.execRv n (.load 4 true rd rs off) raw pc flaw bit =
      e.coreLoad n a 4 pc flaw bit fun c w => c.setX rd (BitVec.ofInt 32 (toSigned (8 * 4) w.toNat)) := by
  subst ha
  rfl

omit hn in
theorem execRv_store {e : Dev} {rs : Nat} {off : Int} {a : Nat} (ha : ((e.coreS n).xr rs + BitVec.ofInt 32 off).toNat = a)
    (rd raw : Nat) (pc : Word) (flaw : Flaw) (bit : Nat) : e.execRv n (.store 4 rs rd off) raw pc flaw bit =
      e.coreStore n a 4 ((e.coreS n).xr rd) pc flaw bit := by
  subst ha
  rfl

/-- A word of system SRAM loaded into a register (R466). -/
theorem load_spec {e : Dev} (hlive : e.busLive = true) (rs : Nat) (off : Int) {a : Nat}
    (ha : ((e.coreS n).xr rs + BitVec.ofInt 32 off).toNat = a) (hsram : regionOf a 4 = some .sram) (halign : a % 4 = 0)
    (hpmp : (e.coreS n).pmpOk (dataMode (e.coreS n)) a 4 1 = true) (hallow : e.memAllowed (pairMaster n) a 4 false = true)
    {rd : Nat} (hrd : rd < 32) (raw : Nat) (pc : Word) (bit : Nat) :
    let t := e.execRv n (.load 4 true rd rs off) raw pc .clean bit
    Sets n e t rd (Mem.word e.mem a) pc ∧ t.mem = e.mem ∧ t.regs = e.regs ∧ t.keys = e.keys := by
  intro t
  have ht : t = ({ e with bus := .data (Mem.word e.mem a) } : Dev).retireX n rd (Mem.word e.mem a) pc := by
    refine (execRv_load ha rd raw pc .clean bit).trans ((coreLoad_sram hlive hsram halign hpmp hallow _ _ _).trans ?_)
    rw [signed_word, retireX]
  rw [ht]
  exact ⟨sets_retireX hn _ hrd _ _, rfl, rfl, rfl⟩

/-- A word stored into system SRAM (R466). -/
theorem store_spec {e : Dev} (hlive : e.busLive = true) (rs : Nat) (off : Int) {a : Nat}
    (ha : ((e.coreS n).xr rs + BitVec.ofInt 32 off).toNat = a) (hsram : regionOf a 4 = some .sram) (halign : a % 4 = 0)
    (hpmp : (e.coreS n).pmpOk (dataMode (e.coreS n)) a 4 2 = true) (hallow : e.memAllowed (pairMaster n) a 4 true = true)
    (rd raw : Nat) (pc : Word) (flaw : Flaw) (bit : Nat) :
    let t := e.execRv n (.store 4 rs rd off) raw pc flaw bit
    (t.coreS n).pc = pc ∧ (t.coreS n).x = (e.coreS n).x ∧ Mem.word t.mem a = (e.coreS n).xr rd ∧
      (∀ b, b < a ∨ a + 4 ≤ b → Mem.byte t.mem b = Mem.byte e.mem b) ∧ t.regs = e.regs ∧ t.keys = e.keys := by
  intro t
  have ht : t = { e.retire n pc with mem := Mem.setWord e.mem a ((e.coreS n).xr rd), bus := .done } :=
    (execRv_store ha rd raw pc flaw bit).trans (coreStore_sram hn hlive hsram halign hpmp hallow _ _ _ _)
  rw [ht]
  exact ⟨pc_retire hn e pc true, x_retire hn e pc true, Mem.word_setWord_self _ _ _, fun b hb => Mem.byte_write_outside _ _ _ _ hb, rfl, rfl⟩

/-- A word at an address that is not aligned is neither loaded nor stored (R466). -/
theorem misaligned_spec (e : Dev) (rd rs raw : Nat) (off : Int) (pc : Word) (flaw : Flaw) (bit : Nat) {a : Nat}
    (ha : ((e.coreS n).xr rs + BitVec.ofInt 32 off).toNat = a) (halign : a % 4 ≠ 0) :
    Traps n e (e.execRv n (.load 4 true rd rs off) raw pc flaw bit) 4#32 ∧
      Traps n e (e.execRv n (.store 4 rs rd off) raw pc flaw bit) 6#32 := by
  rw [execRv_load ha, execRv_store ha, coreLoad_misaligned e halign, coreStore_misaligned e halign]
  exact ⟨traps_coreTrap hn e 4 a, traps_coreTrap hn e 6 a⟩

/-- MRET outside machine mode is illegal. -/
theorem mret_spec (e : Dev) (raw : Nat) (pc : Word) (flaw : Flaw) (bit : Nat) :
    ((e.coreS n).mach = false → Traps n e (e.execRv n .mret raw pc flaw bit) 2#32) ∧
      ((e.coreS n).mach = true → e.execRv n .mret raw pc flaw bit = e.coreMret n) := by
  have hm : e.execRv n .mret raw pc flaw bit = if (e.coreS n).mach then e.coreMret n else e.coreTrap n 2 raw := rfl
  rw [hm]
  constructor
  · intro h
    rw [h, if_neg (by decide)]
    exact traps_coreTrap hn e 2 raw
  · intro h
    rw [h, if_pos rfl]

theorem branch_spec (e : Dev) (b : Br) (r1 r2 raw : Nat) (off : Int) (pc : Word) (flaw : Flaw) (bit : Nat) :
    let t := e.execRv n (.branch b r1 r2 off) raw pc flaw bit
    (t.coreS n).pc = (if b.taken ((e.coreS n).xr r1) ((e.coreS n).xr r2) then (e.coreS n).pc + BitVec.ofInt 32 off else pc) ∧
      (t.coreS n).x = (e.coreS n).x ∧ OnlyRegisters n e t :=
  ⟨pc_retire hn e _ true, x_retire hn e _ true, onlyRegisters_retire hn e _ true⟩

end

/-! ## Commands of a pair -/

section
variable {d : Dev} {i : Pair}

theorem pairExecutes_live {n : Nat} (h : d.pairExecutes n = true) : d.busLive = true := by
  simp only [pairExecutes, Bool.and_eq_true] at h
  exact h.1.1

/-- A command of a pair that executes. -/
theorem runs_coreInstruction (h : d.pairExecutes (pairNo i) = true) (ff df : Flaw) (bit : Fin 72) :
    Runs (.coreInstruction i ff df bit) d (d.coreInstruction (pairNo i) ff df bit.val) :=
  Runs.live (pairExecutes_live h) (fun _ => rfl) (by rw [corePair, if_pos h])

theorem runs_wfi_of (h : d.busLive = true) {t : Dev} (ht : d.pairWfi (pairNo i) = t) : Runs (.wfi i) d t :=
  Runs.live h (fun _ => rfl) ht

/-- A command that leaves the device as it is. -/
theorem runs_unchanged {c : Instr} {f : Dev → Dev} (hc : ∀ s, exec c s = .next (s.onDev fun d => d.whenLive f)) (h : f d = d) : Runs c d d :=
  Runs.dev hc (by simp [whenLive, h])

/-- A pair that does not execute does nothing. -/
theorem runs_resting (h : d.pairExecutes (pairNo i) = false) (ff df : Flaw) (bit : Fin 72) :
    Runs (.coreInstruction i ff df bit) d d ∧ Runs (.wfi i) d d :=
  ⟨runs_unchanged (fun _ => rfl) (by simp [corePair, h]), runs_unchanged (fun _ => rfl) (by simp [pairWfi, h])⟩

/-- The device as a fetch begins, no access answered. -/
def fetching (d : Dev) : Dev := { d with bus := .none }

section
variable {n : Nat} {ff df : Flaw} {bit : Nat} {e : Dev}

theorem coreInstruction_patched {b : Word} (hjump : d.fetching.romJump (d.coreS n).pc.toNat = some b) {lo : Nat}
    (hfetch : d.fetching.fetchHalf n (d.coreS n).pc.toNat .clean 0 = (e, some lo)) :
    d.coreInstruction n ff df bit = (d.fetching.bump (pg .rompatch) R.ROMPATCH.HITS).modCore n fun c => { c with pc := b } := by
  rw [fetching] at hjump hfetch
  simp only [coreInstruction, hjump, hfetch, fetching]

theorem coreInstruction_patchFault {b : Word} (hjump : d.fetching.romJump (d.coreS n).pc.toNat = some b)
    (hfetch : d.fetching.fetchHalf n (d.coreS n).pc.toNat .clean 0 = (e, none)) :
    d.coreInstruction n ff df bit = e.coreTrap n 1 (d.coreS n).pc.toNat := by
  rw [fetching] at hjump hfetch
  simp only [coreInstruction, hjump, hfetch]

variable (hjump : d.fetching.romJump (d.coreS n).pc.toNat = none)
include hjump

theorem coreInstruction_fault {a : Nat} (hfetch : d.fetching.fetch n ff bit = (e, .error a)) :
    d.coreInstruction n ff df bit = e.coreTrap n 1 a := by
  rw [fetching] at hjump hfetch
  simp only [coreInstruction, hjump, hfetch]

theorem coreInstruction_illegal {len raw : Nat} (hfetch : d.fetching.fetch n ff bit = (e, .ok (len, raw, none))) :
    d.coreInstruction n ff df bit = e.coreTrap n 2 raw := by
  rw [fetching] at hjump hfetch
  simp only [coreInstruction, hjump, hfetch]

theorem coreInstruction_executed {len raw : Nat} {ins : Rv} (hfetch : d.fetching.fetch n ff bit = (e, .ok (len, raw, some ins))) :
    d.coreInstruction n ff df bit = e.execRv n ins raw ((d.coreS n).pc + BitVec.ofNat 32 len) df bit := by
  rw [fetching] at hjump hfetch
  simp only [coreInstruction, hjump, hfetch]

omit hjump in
theorem romJump_fetching (d : Dev) (a : Nat) : d.fetching.romJump a = d.romJump a := rfl

/-- WFI is executed where it stands at the pc and no patch takes it. -/
theorem pairWfi_wfi (h : d.pairExecutes n = true) {len raw : Nat} (hfetch : d.fetch n .clean 0 = (e, .ok (len, raw, some .wfi))) :
    d.pairWfi n = d.coreInstruction n .clean .clean 0 := by
  rw [romJump_fetching] at hjump
  simp only [pairWfi, h, hjump, Option.isNone_none, and_self, if_true, hfetch]

theorem pairWfi_illegal (h : d.pairExecutes n = true) {len raw : Nat} (hfetch : d.fetch n .clean 0 = (e, .ok (len, raw, none))) :
    d.pairWfi n = d := by
  rw [romJump_fetching] at hjump
  simp only [pairWfi, h, hjump, Option.isNone_none, and_self, if_true, hfetch]

omit hjump in
theorem pairWfi_patched {b : Word} (hjump : d.fetching.romJump (d.coreS n).pc.toNat = some b) : d.pairWfi n = d := by
  rw [romJump_fetching] at hjump
  simp [pairWfi, hjump]

end

theorem runs_wfiWake (hlive : d.busLive = true) (h : d.pairStatus (pairNo i) = 2) :
    Runs (.wfiWake i) d ((d.setPair (pairNo i) 1).bump (pg .intc (pairNo i)) R.INTC.WAKES) :=
  Runs.live hlive (fun _ => rfl) (by simp [wfiWake, h])

/-- A pair that is not in WFI is not restarted. -/
theorem runs_wfiWake_awake (h : d.pairStatus (pairNo i) ≠ 2) : Runs (.wfiWake i) d d :=
  runs_unchanged (fun _ => rfl) (by simp [wfiWake, h])

/-- A pair in reset, or stopped before, makes no difference. -/
theorem runs_lockstepMismatch_silent (h : d.pairStatus (pairNo i) = 0 ∨ d.pairStopped (pairNo i) = true) : Runs (.lockstepMismatch i) d d :=
  runs_unchanged (fun _ => rfl) (by simp [lockstepMismatch, h])

theorem runs_lockstepMismatch (hlive : d.busLive = true) (h : d.pairStatus (pairNo i) ≠ 0) (hs : d.pairStopped (pairNo i) = false) :
    Runs (.lockstepMismatch i) d
      (((d.setFlag (pg .sys) ⟨R.SYS.PAIR_STATUS, 4 + pairNo i, 1⟩ true).mbOrphan (pairNo i + 2) (List.range 8)).raiseLevel .sys 0
        (if pairNo i = 0 then B.SYS.CORE_LOCK_CTRL else B.SYS.CORE_LOCK_SVC)) :=
  Runs.live hlive (fun _ => rfl) (by simp [lockstepMismatch, h, hs, pairOwner])

end
end Dev

open Dev in
/-- Settles O52: an instruction that completes changes the state of its own pair only, and a trap saves it. -/
theorem coreInstructionsRun : Obligations.CoreInstructionsRun := by
  unfold Obligations.CoreInstructionsRun
  intro d i ff df bit n c z only sets traps
  have hn : n < 2 := pairNo_lt i
  refine ⟨fun h => runs_resting h ff df bit, fun h => ?executes, ?integer, fun e b r1 r2 raw off pc => branch_spec hn e b r1 r2 raw off pc df bit.val,
    ?memory, ?traps, runs_wfiWake, runs_wfiWake_awake, runs_lockstepMismatch_silent, runs_lockstepMismatch⟩
  case executes =>
    have hrun := runs_coreInstruction h ff df bit
    have hlive := pairExecutes_live h
    refine ⟨fun b e lo hjump => ⟨fun hfetch => ?taken, fun hfetch => ?faulted, ?asleep⟩, fun hjump => ⟨fun e a hfetch => ?fault,
      fun e len raw hfetch => ?illegal, fun e len raw ins hfetch => ?executed, fun x len raw hfetch => ?wfi, fun x len raw hfetch => ?other⟩⟩
    case taken => exact coreInstruction_patched hjump hfetch ▸ hrun
    case faulted => exact coreInstruction_patchFault hjump hfetch ▸ hrun
    case asleep => exact runs_wfi_of hlive (pairWfi_patched hjump)
    case fault => exact coreInstruction_fault hjump hfetch ▸ hrun
    case illegal => exact coreInstruction_illegal hjump hfetch ▸ hrun
    case executed => exact coreInstruction_executed hjump hfetch ▸ hrun
    case wfi => exact runs_wfi_of hlive (pairWfi_wfi hjump h hfetch)
    case other => exact runs_wfi_of hlive (pairWfi_illegal hjump h hfetch)
  case integer =>
    intro e o rd r1 r2 raw imm pc hrd k
    exact ⟨⟨sets_retireX hn e hrd _ _, onlyRegisters_retireX hn e _ _ _⟩, ⟨sets_retireX hn e hrd _ _, onlyRegisters_retireX hn e _ _ _⟩,
      ⟨sets_retireX hn e hrd _ _, onlyRegisters_retireX hn e _ _ _⟩, ⟨sets_retireX hn e hrd _ _, onlyRegisters_retireX hn e _ _ _⟩⟩
  case memory =>
    intro e rd rs raw off pc k a
    exact ⟨misaligned_spec hn e rd rs raw off pc df bit.val rfl, fun halign hlive hsram =>
      ⟨fun hrd hpmp hallow => load_spec hn hlive rs off rfl hsram halign hpmp hallow hrd raw pc bit.val,
       fun hpmp hallow => store_spec hn hlive rs off rfl hsram halign hpmp hallow rd raw pc df bit.val⟩⟩
  case traps =>
    intro e raw pc
    obtain ⟨huser, hmachine⟩ := mret_spec hn e raw pc df bit.val
    refine ⟨traps_coreTrap hn e 3 _, traps_coreCall hn e, fun cause tval => traps_coreTrap hn e cause tval, huser, fun hm => ?_⟩
    rw [hmachine hm]
    exact coreMret_spec hn e
end Sys2Proof.Machine
end

section
/-!
PROOFS. Check bits of the memories (R473–R475), the secure configuration (R468, R469) and debug of a pair (R471).
-/
namespace Sys2Proof.Machine
namespace Dev

theorem reg_bump_apart (d : Dev) {p o o' k : Nat} (h : o' ≠ o) : (d.bump p o k).reg p o' = d.reg p o' := reg_setReg_apart d _ h

/-! ## Memory under check bits (R473–R475) -/

theorem memNo_lt {a k : Nat} (h : memNo a = some k) : k < 3 := by
  unfold memNo at h
  split at h <;> simp_all <;> omega

section
variable {d : Dev} {a k : Nat} (hk : memNo a = some k)
include hk

theorem eccRead_clean (cls bit : Nat) : d.eccRead a cls .clean bit = (d, false) := by simp only [eccRead, hk]

theorem eccRead_single (cls bit : Nat) : d.eccRead a cls .single bit = (d.eccCorrect k a cls (bit % 39) false, false) := by
  simp only [eccRead, hk]

theorem eccRead_double (cls bit : Nat) : d.eccRead a cls .double bit = (d.eccFail k a cls false, true) := by simp only [eccRead, hk]

variable (hlive : d.busLive = true)
include hlive

theorem memoryRead_master {m : Master} (ha : a % 4 = 0 ∧ d.memAllowed m a 4 false = true) (flaw : Flaw) (bit : Nat) :
    d.memoryRead (.master m) a flaw bit =
      if (d.eccRead a m.cls flaw bit).2 then { (d.eccRead a m.cls flaw bit).1 with bus := .fault }
      else { (d.eccRead a m.cls flaw bit).1 with bus := .data (Mem.word (d.eccRead a m.cls flaw bit).1.mem a) } := by
  simp only [memoryRead, hlive, hk, ha, Bool.not_true, Option.isNone_some, Bool.false_eq_true, or_self, if_false, and_self, if_true]

theorem memoryRead_refused {m : Master} (ha : ¬(a % 4 = 0 ∧ d.memAllowed m a 4 false = true)) (flaw : Flaw) (bit : Nat) :
    d.memoryRead (.master m) a flaw bit = d.busFault m := by
  simp only [memoryRead, hlive, hk, ha, Bool.not_true, Option.isNone_some, Bool.false_eq_true, or_self, if_false]

theorem memoryRead_ringSecure (r : Fin 96) (hs : d.memSecure a = true) (flaw : Flaw) (bit : Nat) :
    d.memoryRead (.ring r) a flaw bit = (d.busErr 5).raise .ring r B.RING.RING_BUS a := by
  simp only [memoryRead, hlive, hk, hs, Bool.not_true, Option.isNone_some, Bool.false_eq_true, or_self, if_false, if_true]

theorem memoryRead_ring (r : Fin 96) (hs : d.memSecure a = false) (flaw : Flaw) (bit : Nat) :
    d.memoryRead (.ring r) a flaw bit =
      if (d.eccRead a 5 flaw bit).2 then (d.eccRead a 5 flaw bit).1.raise .ring r B.RING.RING_BUS a else (d.eccRead a 5 flaw bit).1 := by
  simp only [memoryRead, hlive, hk, hs, Bool.not_true, Option.isNone_some, Bool.false_eq_true, or_self, if_false]

theorem subwordStore_permitted {m : Master} {n : Nat} (ha : a % n = 0 ∧ d.memAllowed m a n true = true) (v : Word) (flaw : Flaw)
    (bit : Nat) : d.subwordStore m a n v flaw bit =
      if (d.eccRead a m.cls flaw bit).2 then { (d.eccRead a m.cls flaw bit).1 with bus := .fault }
      else { (d.eccRead a m.cls flaw bit).1 with mem := Mem.write (d.eccRead a m.cls flaw bit).1.mem a v.toNat n, bus := .done } := by
  simp only [subwordStore, hlive, hk, ha, Bool.not_true, Option.isNone_some, Bool.false_eq_true, or_self, if_false, and_self, if_true]

theorem subwordStore_refused {m : Master} {n : Nat} (ha : ¬(a % n = 0 ∧ d.memAllowed m a n true = true)) (v : Word) (flaw : Flaw)
    (bit : Nat) : d.subwordStore m a n v flaw bit = d.busFault m := by
  simp only [subwordStore, hlive, hk, ha, Bool.not_true, Option.isNone_some, Bool.false_eq_true, or_self, if_false]

end

/-- A single error corrected outside a scrub period is counted and recorded (R473, R475). -/
theorem eccCorrect_spec (d : Dev) {k a cls bit : Nat} (hk : k < 3) (hscrub : d.fld (pg .sys) F.SYS.ECC_CFG_SCRUB = 0) (ha : a % 4 = 0) :
    let t := d.eccCorrect k a cls bit false
    t.mem = d.mem ∧ t.keys = d.keys ∧ t.state = d.state ∧
      t.reg (pg .sys) (R.SYS.CORR_TCM + 4 * k) = d.reg (pg .sys) (R.SYS.CORR_TCM + 4 * k) + 1 ∧
      t.reg (pg .sys) R.SYS.ECC_LAST = BitVec.ofNat 32 a ∧
      t.reg (pg .sys) R.SYS.ECC_LAST_INFO = BitVec.ofNat 32 (k + 16 * bit + 4096 * cls) := by
  intro t
  have hstate : F.SYS.STATE_STATE.ofs ≠ R.SYS.CORR_TCM + 4 * k := by simp only [F.SYS.STATE_STATE, R.SYS.CORR_TCM]; omega
  have hcfg : F.SYS.ECC_CFG_SCRUB.ofs ≠ R.SYS.CORR_TCM + 4 * k := by simp only [F.SYS.ECC_CFG_SCRUB, R.SYS.CORR_TCM]; omega
  have hlast : R.SYS.ECC_LAST ≠ R.SYS.CORR_TCM + 4 * k := by simp only [R.SYS.ECC_LAST, R.SYS.CORR_TCM]; omega
  have hinfo : R.SYS.ECC_LAST_INFO ≠ R.SYS.CORR_TCM + 4 * k := by simp only [R.SYS.ECC_LAST_INFO, R.SYS.CORR_TCM]; omega
  have ht : t = (d.eccLast k a cls bit false false).bump (pg .sys) (R.SYS.CORR_TCM + 4 * k) := by
    have hscrub' : ((d.eccLast k a cls bit false false).bump (pg .sys) (R.SYS.CORR_TCM + 4 * k)).fld (pg .sys) F.SYS.ECC_CFG_SCRUB = 0 := by
      rw [fld_bump_apart _ hcfg, eccLast, fld_setReg_apart _ _ (by decide), fld_setReg_apart _ _ (by decide), hscrub]
    exact if_pos hscrub'
  rw [ht]
  refine ⟨by simp [eccLast], by simp [eccLast], ?_, ?_, ?_, ?_⟩
  · rw [state, fld_bump_apart _ hstate, eccLast, fld_setReg_apart _ _ (by decide), fld_setReg_apart _ _ (by decide), state]
  · rw [reg_bump_self, eccLast, reg_setReg_apart _ _ hinfo.symm, reg_setReg_apart _ _ hlast.symm]
    rfl
  · rw [reg_bump_apart _ hlast, eccLast, reg_setReg_apart _ _ (by decide), reg_setReg_self, ha, Nat.sub_zero]
  · rw [reg_bump_apart _ hinfo, eccLast, reg_setReg_self]
    simp

/-! ## Scrub (R475) -/

theorem now_raise_sys (d : Dev) (b detail : Nat) : (d.raise .sys 0 b detail).now = d.now :=
  congrArg (fun x => x.2.2.2.1) (beside_raise (p := pg .rompatch) (by decide) d (by decide) detail)

theorem now_eccFail (d : Dev) (k a cls : Nat) (scrub : Bool) : (d.eccFail k a cls scrub).now = d.now := by
  rw [eccFail, now_raise_sys, eccLast]
  simp

theorem now_eccCorrect (d : Dev) (k a cls bit : Nat) (scrub : Bool) : (d.eccCorrect k a cls bit scrub).now = d.now := by
  simp only [eccCorrect]
  split
  · simp [eccLast]
  · split
    · simp [now_raise_sys, eccLast]
    · simp [eccLast]

/-- One error that a scrub pass meets. -/
def scrubError (d : Dev) (e : ScrubError) : Dev :=
  match memNo e.addr.toNat with
  | some k => if e.double then d.eccFail k e.addr.toNat 0xF true else d.eccCorrect k e.addr.toNat 0xF e.bit true
  | none => d

/-- The end of a scrub pass: a new scrub period begins at clock `t`. -/
def scrubbed (d : Dev) (t : Nat) : Dev :=
  ({ d with comp := { d.comp with corr := Vector.replicate 3 0, scrubAt := t } } : Dev).bump (pg .sys) R.SYS.SCRUB_PASSES

theorem scrubPass_due {d : Dev} (hlive : d.busLive = true) (hn : d.fld (pg .sys) F.SYS.ECC_CFG_SCRUB ≠ 0)
    (hdue : d.comp.scrubAt + 400000000 * d.fld (pg .sys) F.SYS.ECC_CFG_SCRUB ≤ d.now) (l : List ScrubError) :
    d.scrubPass l = (d.each l scrubError).scrubbed (d.each l scrubError).now := by
  rw [scrubPass, if_neg (by simp [hlive, hn, Nat.not_lt.mpr hdue])]
  rfl

theorem scrubPass_early {d : Dev} (h : d.busLive = false ∨ d.fld (pg .sys) F.SYS.ECC_CFG_SCRUB = 0 ∨
    d.now < d.comp.scrubAt + 400000000 * d.fld (pg .sys) F.SYS.ECC_CFG_SCRUB) (l : List ScrubError) : d.scrubPass l = d := by
  rw [scrubPass, if_pos]
  rcases h with h | h | h
  · exact .inl (by rw [h]; rfl)
  · exact .inr (.inl h)
  · exact .inr (.inr h)

theorem scrubError_of_memNo {x : ScrubError} {k : Nat} (h : memNo x.addr.toNat = some k) (d : Dev) : d.scrubError x =
    if x.double then d.eccFail k x.addr.toNat 0xF true else d.eccCorrect k x.addr.toNat 0xF x.bit true := by
  rw [scrubError, h]

theorem now_scrubError (d : Dev) {x : ScrubError} {k : Nat} (h : memNo x.addr.toNat = some k) : (d.scrubError x).now = d.now := by
  rw [scrubError_of_memNo h]
  split
  · exact now_eccFail d _ _ _ _
  · exact now_eccCorrect d _ _ _ _ _

/-! ## Secure configuration (R468, R469) -/

/-- SEC_CFG with its SECURE bits cleared where the word has 0. -/
def secureCleared (d : Dev) (w : Word) : Dev :=
  (d.setFlag (pg .sys) F.SYS.SEC_CFG_CTRL_SECURE (d.flag (pg .sys) F.SYS.SEC_CFG_CTRL_SECURE && bitAt w.toNat 0)).setFlag (pg .sys)
    F.SYS.SEC_CFG_SVC_SECURE (d.flag (pg .sys) F.SYS.SEC_CFG_SVC_SECURE && bitAt w.toNat 1)

theorem secCfgWrite_secure {d : Dev} {m : Master} (h : d.secure m = true) (w : Word) : d.secCfgWrite m w =
    if bitAt w.toNat 2 = d.flag (pg .sys) F.SYS.SEC_CFG_TCM_SEC then d.secureCleared w
    else if d.lockSet (pg .sys) then (d.secureCleared w).refuse m (pg .sys) R.SYS.SEC_CFG
    else (d.secureCleared w).setFlag (pg .sys) F.SYS.SEC_CFG_TCM_SEC (bitAt w.toNat 2) := by
  have hbit : ∀ f : Fld, f.ofs = R.SYS.SEC_CFG → f.w = 1 → bitAt (d.reg (pg .sys) R.SYS.SEC_CFG).toNat f.lo = d.flag (pg .sys) f := fun f ho hw => by
    rw [flag, fld, ho, hw, bitAt_eq_bitsOf]
  have hlock : (d.secureCleared w).lockSet (pg .sys) = d.lockSet (pg .sys) := by
    simp (disch := decide) only [lockSet, secureCleared, reads_apart]
  rw [← hlock]
  simp only [secCfgWrite, h, Bool.not_true, Bool.false_eq_true, if_false, ← hbit _ (show F.SYS.SEC_CFG_TCM_SEC.ofs = _ from rfl) rfl,
    secureCleared, ← hbit _ (show F.SYS.SEC_CFG_CTRL_SECURE.ofs = _ from rfl) rfl,
    ← hbit _ (show F.SYS.SEC_CFG_SVC_SECURE.ofs = _ from rfl) rfl]
  rfl

theorem secCfgWrite_spec {d : Dev} {m : Master} (h : d.secure m = true) (w : Word) : let t := (d.secCfgWrite m w).done
    t.flag (pg .sys) F.SYS.SEC_CFG_CTRL_SECURE = (d.flag (pg .sys) F.SYS.SEC_CFG_CTRL_SECURE && bitAt w.toNat 0) ∧
      t.flag (pg .sys) F.SYS.SEC_CFG_SVC_SECURE = (d.flag (pg .sys) F.SYS.SEC_CFG_SVC_SECURE && bitAt w.toNat 1) ∧
      t.flag (pg .sys) F.SYS.SEC_CFG_TCM_SEC =
        (if d.lockSet (pg .sys) then d.flag (pg .sys) F.SYS.SEC_CFG_TCM_SEC else bitAt w.toNat 2) ∧ t.mem = d.mem ∧ t.keys = d.keys := by
  intro t
  have hstore : t.mem = d.mem ∧ t.keys = d.keys := by simp [t, done]
  suffices hflags : (d.secCfgWrite m w).flag (pg .sys) F.SYS.SEC_CFG_CTRL_SECURE = (d.flag (pg .sys) F.SYS.SEC_CFG_CTRL_SECURE && bitAt w.toNat 0) ∧
      (d.secCfgWrite m w).flag (pg .sys) F.SYS.SEC_CFG_SVC_SECURE = (d.flag (pg .sys) F.SYS.SEC_CFG_SVC_SECURE && bitAt w.toNat 1) ∧
      (d.secCfgWrite m w).flag (pg .sys) F.SYS.SEC_CFG_TCM_SEC =
        (if d.lockSet (pg .sys) then d.flag (pg .sys) F.SYS.SEC_CFG_TCM_SEC else bitAt w.toNat 2) from
    ⟨hflags.1, hflags.2.1, hflags.2.2, hstore⟩
  rw [secCfgWrite_secure h]
  split
  case isTrue hsame =>
    simp (disch := decide) only [secureCleared, reads_apart, reads_self, hsame, ite_self, true_and]
  case isFalse =>
    split
    case isTrue hlock =>
      simp (disch := decide) only [refuse, secureCleared, reads_apart_reg, reads_apart, reads_self, true_and]
    case isFalse hlock =>
      simp (disch := decide) only [secureCleared, reads_apart, reads_self, true_and]

/-! ## Halt, step and resume (R471) -/

theorem pairCtrlOk_iff (d : Dev) (m : Master) : d.pairCtrlOk m = true ↔ m = .debug ∧ 1 ≤ d.debugLevel := by
  simp [pairCtrlOk]

theorem pairRegOk_iff (d : Dev) (m : Master) : d.pairRegOk m = true ↔
    m = .debug ∧ 1 ≤ d.debugLevel ∧ d.pairStatus (d.fld (pg .sys) F.SYS.PAIR_REG_SEL_PAIR) = 3 := by
  rw [pairRegOk, Bool.and_eq_true, pairCtrlOk_iff, beq_iff_eq, and_assoc]

section
variable {d : Dev} {m : Master} {i : Pair} (h : d.CanWrite m .sys 0 R.SYS.PAIR_CTRL)
include h

theorem runs_pairHalt {t : Dev} (ht : d.pairHalt m (pairNo i) = t) : Runs (.pairHalt m i) d t.done :=
  Runs.block (by decide) (by decide) h (by decide) (fun _ => rfl) (Eq.trans (by cases i <;> rfl) ht)

theorem runs_pairResume {t : Dev} (ht : d.pairResume m (pairNo i) = t) : Runs (.pairResume m i) d t.done :=
  Runs.block (by decide) (by decide) h (by decide) (fun _ => rfl) (Eq.trans (by cases i <;> rfl) ht)

theorem busWrite_pairStep : d.busWrite m (pageAddr (pg .sys) R.SYS.PAIR_CTRL) (BitVec.ofNat 32 (2 + 16 * pairNo i)) {} = d.done := by
  refine (busWrite_eq h _ _ (by decide)).trans (congrArg done ?_)
  rw [regWrite_block (by decide) (by decide) d m 0 (by decide)]
  cases i <;> rfl

theorem runs_pairStep {ff df : Flaw} {bit : Fin 72} {t : Dev} (ht : d.done.pairStep m (pairNo i) ff df bit.val = t) :
    Runs (.pairStep m i ff df bit) d t := by
  have hop : bitsOf (BitVec.ofNat 32 (2 + 16 * pairNo i)).toNat 0 2 = 2 ∧ bitsOf (BitVec.ofNat 32 (2 + 16 * pairNo i)).toNat 4 1 = pairNo i := by
    cases i <;> decide
  refine Runs.dev (fun _ => rfl) ?_
  show d.masterWrite m (pageAddr (pg .sys) R.SYS.PAIR_CTRL) (BitVec.ofNat 32 (2 + 16 * pairNo i)) {} ff df bit.val = _
  simp only [masterWrite, busWrite_pairStep h]
  rw [if_pos ⟨h.live, rfl⟩, if_pos ⟨trivial, hop.1⟩, hop.2, ht]

end

section
variable {d : Dev} {m : Master} {n : Nat}

theorem pairHalt_deaf (h : ¬(m = .debug ∧ 1 ≤ d.debugLevel) ∨ d.state = 4) : d.pairHalt m n = d := by
  rw [← pairCtrlOk_iff] at h
  rw [pairHalt, if_pos]
  rcases h with h | h
  · exact .inl (by simpa using h)
  · exact .inr (.inl h)

theorem pairHalt_running (hmay : m = .debug ∧ 1 ≤ d.debugLevel) (hstate : d.state ≠ 4) (hstop : d.pairStopped n = false)
    (h : d.pairStatus n = 1 ∨ d.pairStatus n = 2) : d.pairHalt m n = d.setPair n 3 := by
  rw [← pairCtrlOk_iff] at hmay
  simp [pairHalt, hmay, hstate, hstop, h]

theorem pairResume_deaf (h : ¬(m = .debug ∧ 1 ≤ d.debugLevel) ∨ d.pairStatus n ≠ 3) : d.pairResume m n = d := by
  rw [← pairCtrlOk_iff] at h
  rw [pairResume, if_neg]
  exact fun hc => h.elim (· hc.1) (· hc.2)

theorem pairResume_halted (hmay : m = .debug ∧ 1 ≤ d.debugLevel) (h : d.pairStatus n = 3) : d.pairResume m n = d.setPair n 1 := by
  rw [pairResume, if_pos ⟨(pairCtrlOk_iff d m).mpr hmay, h⟩]

theorem pairStep_deaf (h : ¬(m = .debug ∧ 1 ≤ d.debugLevel) ∨ d.state = 4 ∨ d.pairStatus n ≠ 3) (ff df : Flaw) (bit : Nat) :
    d.pairStep m n ff df bit = d := by
  rw [← pairCtrlOk_iff] at h
  rw [pairStep, if_neg]
  rintro ⟨hok, hstate, -, -, hstatus, -⟩
  exact h.elim (· hok) fun h => h.elim hstate (· hstatus)

theorem pairStep_halted (hmay : m = .debug ∧ 1 ≤ d.debugLevel) (hstate : d.state ≠ 4) (hlive : d.busLive = true) (hboot : d.bootState = 6)
    (h : d.pairStatus n = 3) (hstop : d.pairStopped n = false) (ff df : Flaw) (bit : Nat) :
    d.pairStep m n ff df bit = d.coreInstruction n ff df bit := by
  rw [pairStep, if_pos ⟨(pairCtrlOk_iff d m).mpr hmay, hstate, hlive, hboot, h, by rw [hstop]; rfl⟩]

/-! ## Registers of a halted pair (R471) -/

theorem pairRegWrite_deaf (h : ¬(m = .debug ∧ 1 ≤ d.debugLevel ∧ d.pairStatus (d.fld (pg .sys) F.SYS.PAIR_REG_SEL_PAIR) = 3) ∨
    d.flag (pg .sys) F.SYS.PAIR_REG_SEL_WRITE = false) (w : Word) : d.pairRegWrite m w = d := by
  rw [← pairRegOk_iff] at h
  simp only [pairRegWrite]
  rw [if_neg]
  rintro ⟨hok, hwrite⟩
  exact h.elim (· hok) fun h => by rw [h] at hwrite; cases hwrite

section
variable (hmay : m = .debug ∧ 1 ≤ d.debugLevel ∧ d.pairStatus (d.fld (pg .sys) F.SYS.PAIR_REG_SEL_PAIR) = 3)
include hmay

theorem pairRegWrite_x (hwrite : d.flag (pg .sys) F.SYS.PAIR_REG_SEL_WRITE = true) (hspace : d.fld (pg .sys) F.SYS.PAIR_REG_SEL_SPACE = 0)
    (hx : d.fld (pg .sys) F.SYS.PAIR_REG_SEL_INDEX < 32) (w : Word) : d.pairRegWrite m w =
      (d.setReg (pg .sys) R.SYS.PAIR_REG_DATA w).modCore (d.fld (pg .sys) F.SYS.PAIR_REG_SEL_PAIR)
        fun c => c.setX (d.fld (pg .sys) F.SYS.PAIR_REG_SEL_INDEX) w := by
  simp only [pairRegWrite]
  rw [if_pos ⟨(pairRegOk_iff d m).mpr hmay, hwrite⟩, fld_setReg_apart _ _ (by decide), hspace]
  exact if_pos hx

theorem pairRegWrite_pc (hwrite : d.flag (pg .sys) F.SYS.PAIR_REG_SEL_WRITE = true) (hspace : d.fld (pg .sys) F.SYS.PAIR_REG_SEL_SPACE = 3)
    (w : Word) : d.pairRegWrite m w = (d.setReg (pg .sys) R.SYS.PAIR_REG_DATA w).modCore (d.fld (pg .sys) F.SYS.PAIR_REG_SEL_PAIR)
        fun c => { c with pc := BitVec.ofNat 32 (w.toNat / 2 * 2) } := by
  simp only [pairRegWrite]
  rw [if_pos ⟨(pairRegOk_iff d m).mpr hmay, hwrite⟩, fld_setReg_apart _ _ (by decide), hspace]
  rfl

theorem pairRegRead_of_pairReg (hwrite : d.flag (pg .sys) F.SYS.PAIR_REG_SEL_WRITE = false) (hspace : d.fld (pg .sys) F.SYS.PAIR_REG_SEL_SPACE ≠ 2)
    {v : Word} (hv : d.pairReg = some v) : d.pairRegRead m = { d.setReg (pg .sys) R.SYS.PAIR_REG_DATA v with bus := .data v } := by
  simp only [pairRegRead]
  rw [if_pos ⟨(pairRegOk_iff d m).mpr hmay, by rw [hwrite]; rfl⟩, hv, if_neg hspace]

omit hmay

theorem pairReg_x (hspace : d.fld (pg .sys) F.SYS.PAIR_REG_SEL_SPACE = 0) (hx : d.fld (pg .sys) F.SYS.PAIR_REG_SEL_INDEX < 32) :
    d.pairReg = some ((d.coreS (d.fld (pg .sys) F.SYS.PAIR_REG_SEL_PAIR)).xr (d.fld (pg .sys) F.SYS.PAIR_REG_SEL_INDEX)) := by
  simp only [pairReg, hspace]
  exact if_pos hx

theorem pairReg_pc (hspace : d.fld (pg .sys) F.SYS.PAIR_REG_SEL_SPACE = 3) :
    d.pairReg = some (d.coreS (d.fld (pg .sys) F.SYS.PAIR_REG_SEL_PAIR)).pc := by
  simp only [pairReg, hspace]

end

theorem runs_pairRegWrite (h : d.CanWrite m .sys 0 R.SYS.PAIR_REG_DATA) {w : Word} {t : Dev} (ht : d.done.pairRegWrite m w = t) :
    Runs (.pairRegAccess m true w) d t := by
  have hbus : d.busWrite m (pageAddr (pg .sys) R.SYS.PAIR_REG_DATA) w {} = d.done := by
    refine (busWrite_eq h _ _ (by decide)).trans (congrArg done ?_)
    rw [regWrite_block (by decide) (by decide) d m 0 (by decide)]
    rfl
  refine Runs.dev (fun _ => rfl) ?_
  rw [if_pos rfl]
  simp only [masterWrite, hbus]
  rw [if_pos ⟨h.live, rfl⟩, if_neg fun hc => absurd hc.1 (by decide), if_pos trivial, ht]

/-- A read of PAIR_REG_DATA is answered from the pair, whatever the register held. -/
theorem runs_pairRegRead (h : d.CanRead m .sys 0 R.SYS.PAIR_REG_DATA) (w : Word) {t : Dev}
    (ht : ∀ x, ({ d with bus := .data x } : Dev).pairRegRead m = t) : Runs (.pairRegAccess m false w) d t := by
  have hbus : d.busRead m (pageAddr (pg .sys) R.SYS.PAIR_REG_DATA) = { d with bus := .data (d.regRead m .sys 0 R.SYS.PAIR_REG_DATA).1 } :=
    busRead_eq h _ _ (by decide)
  refine Runs.dev (fun _ => rfl) ?_
  rw [if_neg (by decide)]
  simp only [masterRead, hbus]
  rw [if_pos ⟨h.live, by simp, trivial⟩]
  exact ht _

/-! ## Commands of a memory -/

theorem runs_memoryRead {r : Reader} {a : Word} {flaw : Flaw} {bit : Fin 39} (hlive : d.busLive = true) {t : Dev}
    (ht : d.memoryRead r a.toNat flaw bit.val = t) : Runs (.memoryRead r a flaw bit) d t :=
  Runs.live hlive (fun _ => rfl) ht

theorem memoryRead_elsewhere {a : Nat} (hk : memNo a = none) (r : Reader) (flaw : Flaw) (bit : Nat) : d.memoryRead r a flaw bit = d := by
  have hno : (!d.busLive) = true ∨ (memNo a).isNone = true := .inr (by rw [hk]; rfl)
  cases r <;> exact if_pos hno

theorem size_ne_four (half : Bool) : (if half then 2 else 1 : Nat) ≠ 4 := by cases half <;> decide

theorem runs_subwordStore {a w : Word} {half : Bool} {flaw : Flaw} {bit : Fin 39} (hlive : d.busLive = true) {k : Nat}
    (hk : memNo a.toNat = some k) {t : Dev} (ht : d.subwordStore m a.toNat (if half then 2 else 1) w flaw bit.val = t) :
    Runs (.subwordStore m a half w flaw bit) d t := by
  refine Runs.dev (fun _ => rfl) ?_
  rw [busStore, if_neg (size_ne_four half), if_neg (by rw [hlive]; decide), if_pos (by rw [hk]; rfl), ht]

theorem runs_subwordStore_elsewhere {a w : Word} {half : Bool} {flaw : Flaw} {bit : Fin 39} (hlive : d.busLive = true)
    (hk : memNo a.toNat = none) : Runs (.subwordStore m a half w flaw bit) d (d.busFault m) := by
  refine Runs.dev (fun _ => rfl) ?_
  rw [busStore, if_neg (size_ne_four half), if_neg (by rw [hlive]; decide), if_neg (by rw [hk]; decide)]

theorem runs_memory_unsupplied {a w : Word} {half : Bool} {flaw : Flaw} {bit : Fin 39} (h : d.busLive = false) :
    (∀ r, Runs (.memoryRead r a flaw bit) d d) ∧ Runs (.subwordStore m a half w flaw bit) d d := by
  refine ⟨fun r => Runs.dev (fun _ => rfl) (whenLive_neg h), Runs.dev (fun _ => rfl) ?_⟩
  rw [busStore, if_neg (size_ne_four half), if_pos (by rw [h]; rfl)]

section
variable {a w : Word} {half : Bool} {bit : Fin 39} {k : Nat} (hlive : d.busLive = true) (hk : memNo a.toNat = some k)
include hlive hk

theorem runs_read_clean (ha : a.toNat % 4 = 0 ∧ d.memAllowed m a.toNat 4 false = true) :
    Runs (.memoryRead (.master m) a .clean bit) d { d with bus := .data (Mem.word d.mem a.toNat) } := by
  refine runs_memoryRead hlive ((memoryRead_master hk hlive ha .clean bit.val).trans ?_)
  rw [eccRead_clean hk]
  rfl

theorem runs_read_single (ha : a.toNat % 4 = 0 ∧ d.memAllowed m a.toNat 4 false = true) {e : Dev}
    (he : d.eccCorrect k a.toNat m.cls bit.val false = e) :
    Runs (.memoryRead (.master m) a .single bit) d { e with bus := .data (Mem.word e.mem a.toNat) } := by
  refine runs_memoryRead hlive ((memoryRead_master hk hlive ha .single bit.val).trans ?_)
  rw [eccRead_single hk, Nat.mod_eq_of_lt bit.isLt, he]
  rfl

theorem runs_read_double (ha : a.toNat % 4 = 0 ∧ d.memAllowed m a.toNat 4 false = true) :
    Runs (.memoryRead (.master m) a .double bit) d { d.eccFail k a.toNat m.cls false with bus := .fault } := by
  refine runs_memoryRead hlive ((memoryRead_master hk hlive ha .double bit.val).trans ?_)
  rw [eccRead_double hk]
  rfl

theorem runs_read_ring (r : Fin 96) (hs : d.memSecure a.toNat = false) :
    Runs (.memoryRead (.ring r) a .clean bit) d d ∧
      Runs (.memoryRead (.ring r) a .double bit) d ((d.eccFail k a.toNat 5 false).raise .ring r B.RING.RING_BUS a.toNat) := by
  constructor
  · refine runs_memoryRead hlive ((memoryRead_ring hk hlive r hs .clean bit.val).trans ?_)
    rw [eccRead_clean hk]
    rfl
  · refine runs_memoryRead hlive ((memoryRead_ring hk hlive r hs .double bit.val).trans ?_)
    simp only [eccRead_double hk, if_true]

theorem runs_store_clean (ha : a.toNat % (if half then 2 else 1) = 0 ∧ d.memAllowed m a.toNat (if half then 2 else 1) true = true) :
    Runs (.subwordStore m a half w .clean bit) d
      { d with mem := Mem.write d.mem a.toNat w.toNat (if half then 2 else 1), bus := .done } := by
  refine runs_subwordStore hlive hk ((subwordStore_permitted hk hlive ha w .clean bit.val).trans ?_)
  rw [eccRead_clean hk]
  rfl

theorem runs_store_double (ha : a.toNat % (if half then 2 else 1) = 0 ∧ d.memAllowed m a.toNat (if half then 2 else 1) true = true) :
    Runs (.subwordStore m a half w .double bit) d { d.eccFail k a.toNat m.cls false with bus := .fault } := by
  refine runs_subwordStore hlive hk ((subwordStore_permitted hk hlive ha w .double bit.val).trans ?_)
  rw [eccRead_double hk]
  rfl

/-- A corrected word is answered, and the correction is counted and recorded. -/
theorem runs_read_corrected (ha : a.toNat % 4 = 0 ∧ d.memAllowed m a.toNat 4 false = true)
    (hscrub : d.fld (pg .sys) F.SYS.ECC_CFG_SCRUB = 0) :
    ∃ t, Runs (.memoryRead (.master m) a .single bit) d t ∧ t.bus = .data (Mem.word d.mem a.toNat) ∧ t.mem = d.mem ∧
      t.keys = d.keys ∧ t.state = d.state ∧
      t.reg (pg .sys) (R.SYS.CORR_TCM + 4 * k) = d.reg (pg .sys) (R.SYS.CORR_TCM + 4 * k) + 1 ∧
      t.reg (pg .sys) R.SYS.ECC_LAST = BitVec.ofNat 32 a.toNat ∧
      t.reg (pg .sys) R.SYS.ECC_LAST_INFO = BitVec.ofNat 32 (k + 16 * bit.val + 4096 * m.cls) := by
  have hspec := eccCorrect_spec d (cls := m.cls) (bit := bit.val) (memNo_lt hk) hscrub ha.1
  generalize he : d.eccCorrect k a.toNat m.cls bit.val false = e at hspec
  obtain ⟨hmem, hkeys, hstate, hcount, hlast, hinfo⟩ := hspec
  have hrun := runs_read_single hlive hk ha he
  exact ⟨_, hrun, congrArg (fun x => BusResult.data (Mem.word x a.toNat)) hmem, hmem, hkeys, hstate, hcount, hlast, hinfo⟩

end

end
end Dev

open Dev in
/-- Settles O53: the check bits, the masters' secure state and the state of a pair decide what is done. -/
theorem memoriesAndPairDebugRun : Obligations.MemoriesAndPairDebugRun := by
  unfold Obligations.MemoriesAndPairDebugRun
  intro d m i a w half flaw ff bit sbit s n sz A
  refine ⟨runs_memory_unsupplied, fun hlive hno => ⟨fun r => runs_memoryRead hlive (memoryRead_elsewhere hno r flaw bit.val), runs_subwordStore_elsewhere hlive hno⟩,
    ?memory, fun h l => Runs.dev (fun _ => rfl) (by simp [whenLive, scrubPass_early h]), ?scrub, fun g hlive => Runs.live hlive (fun _ => rfl) rfl,
    ?secure, ?debug, ?registers⟩
  case memory =>
    intro k hlive hk
    exact ⟨fun halign hallow => ⟨runs_read_clean hlive hk ⟨halign, hallow⟩, fun hscrub => runs_read_corrected hlive hk ⟨halign, hallow⟩ hscrub,
        runs_read_double hlive hk ⟨halign, hallow⟩⟩,
      fun hno => runs_memoryRead hlive (memoryRead_refused hk hlive hno flaw bit.val),
      fun r => ⟨fun hs => runs_memoryRead hlive (memoryRead_ringSecure hk hlive r hs flaw bit.val), runs_read_ring hlive hk r⟩,
      fun halign hallow => ⟨⟨_, runs_store_clean hlive hk ⟨halign, hallow⟩, rfl, rfl, rfl, fun j hj => Mem.byte_write_inside _ _ _ _ hj,
        fun b hb => Mem.byte_write_outside _ _ _ _ hb⟩, runs_store_double hlive hk ⟨halign, hallow⟩⟩,
      fun hno => runs_subwordStore hlive hk (subwordStore_refused hk hlive hno w flaw bit.val)⟩
  case scrub =>
    intro hlive hn hdue z
    refine ⟨Runs.live hlive (fun _ => rfl) (scrubPass_due hlive hn hdue []), fun x k hk => Runs.live hlive (fun _ => rfl) ?_⟩
    have hnow := now_scrubError d hk
    rw [scrubPass_due hlive hn hdue, ← scrubError_of_memNo hk]
    exact congrArg (d.scrubError x).scrubbed hnow
  case secure =>
    intro h
    have hrun : Runs (.secCfgWrite m w) d (d.secCfgWrite m w).done := Runs.block (by decide) (by decide) h (by decide) (fun _ => rfl) rfl
    refine ⟨fun hs => ?_, fun hs => ⟨_, hrun, secCfgWrite_spec hs w⟩⟩
    have hrefused : d.secCfgWrite m w = d.refuse m (pg .sys) R.SYS.SEC_CFG := by rw [secCfgWrite, hs]; rfl
    exact hrefused ▸ hrun
  case debug =>
    intro h may
    exact ⟨fun hno => ⟨runs_pairHalt h (pairHalt_deaf (.inl hno)), runs_pairStep h (pairStep_deaf (d := d.done) (.inl hno) _ _ _),
        runs_pairResume h (pairResume_deaf (.inl hno))⟩,
      fun hstate => ⟨runs_pairHalt h (pairHalt_deaf (.inr hstate)), runs_pairStep h (pairStep_deaf (d := d.done) (.inr (.inl hstate)) _ _ _)⟩,
      fun hmay hstate hstop hst => runs_pairHalt h (pairHalt_running hmay hstate hstop hst),
      fun hmay hstate hstop hst hboot => runs_pairStep h (pairStep_halted (d := d.done) hmay hstate h.live hboot hst hstop _ _ _),
      fun hmay hst => runs_pairResume h (pairResume_halted hmay hst),
      fun hst => ⟨runs_pairResume h (pairResume_deaf (.inr hst)), runs_pairStep h (pairStep_deaf (d := d.done) (.inr (.inr hst)) _ _ _)⟩⟩
  case registers =>
    intro p x may
    refine ⟨fun h => ⟨fun hno => runs_pairRegWrite h (pairRegWrite_deaf (d := d.done) hno w),
      fun hmay hwrite hspace hx => runs_pairRegWrite h (pairRegWrite_x (d := d.done) hmay hwrite hspace hx w),
      fun hmay hwrite hspace => runs_pairRegWrite h (pairRegWrite_pc (d := d.done) hmay hwrite hspace w)⟩,
      fun h hmay hwrite => ⟨fun hspace hx => ?readX, fun hspace => ?readPc⟩⟩
    case readX =>
      exact runs_pairRegRead h w fun b => pairRegRead_of_pairReg (d := { d with bus := .data b }) hmay hwrite
        (fun hc => absurd (hc.symm.trans hspace) (by decide)) (pairReg_x (d := { d with bus := .data b }) hspace hx)
    case readPc =>
      exact runs_pairRegRead h w fun b => pairRegRead_of_pairReg (d := { d with bus := .data b }) hmay hwrite
        (fun hc => absurd (hc.symm.trans hspace) (by decide)) (pairReg_pc (d := { d with bus := .data b }) hspace)

end Sys2Proof.Machine
end

section
/-!
PROOFS. Check-value units (R530–R532): the completion of a check, and the commands of a unit that a core feeds.
-/
namespace Sys2Proof.Machine
namespace Dev

/-! ## The completion of a check (R531–R533) -/

section
variable (d : Dev) (n : Nat)

/-- RESULT of a check. -/
def resultShown (res : Nat) : Dev :=
  (d.setReg (pg .check n) R.CHECK.RESULT_LO (BitVec.ofNat 32 res)).setReg (pg .check n) R.CHECK.RESULT_HI (BitVec.ofNat 32 (res / 4294967296))

/-- A check whose CRC does not hold is counted. -/
def crcCounted (ok : Bool) : Dev := if ok then d else d.bump (pg .check n) R.CHECK.CRC_BAD

/-- A counter that repeats or skips is counted. -/
def acCounted (ac : Nat) : Dev :=
  if ac = 3 then d.bump (pg .check n) R.CHECK.REPEATS else if ac = 4 then d.bump (pg .check n) R.CHECK.SKIPS else d

/-- The word of VERDICT: the CRC, the counter, the bad checks in a row and the sequence number. -/
def verdictWord (ok : Bool) (ac : Nat) : Nat :=
  let run := if !ok || ac == 3 || ac == 4 then min (d.fld (pg .check n) F.CHECK.VERDICT_BAD_RUN + 1) 255 else 0
  b2n ok + 2 * ac + 16 * run + 65536 * ((d.fld (pg .check n) F.CHECK.VERDICT_SEQ + 1) % 65536)

/-- The verdict shown, and the check counted. -/
def verdictPut (ok : Bool) (ac : Nat) : Dev :=
  (((d.setReg (pg .check n) R.CHECK.VERDICT (BitVec.ofNat 32 (d.verdictWord n ok ac))).bump (pg .check n) R.CHECK.CHECKS).event (pg .check n)
    F.CHECK.EVENT_DONE).noteCheck n

/-- The verdict shown, and what it finds counted. -/
def verdictShown (ok : Bool) (ac : Nat) : Dev := ((d.verdictPut n ok ac).crcCounted n ok).acCounted n ac

/-- The counter's last value, taken. -/
def aliveTaken (v : Nat) : Dev := d.modCheck n fun s => { s with last := v, init := false }

/-- The number of bad checks in a row does not reach BAD_MAX with one more. -/
def Calm : Prop := d.fld (pg .check n) F.CHECK.VERDICT_BAD_RUN + 1 ≠ d.fld (pg .check n) F.CHECK.CFG_BAD_MAX

theorem calm_resultShown (res : Nat) : (d.resultShown n res).Calm n ↔ d.Calm n := by
  simp (disch := decide) only [Calm, resultShown, reads_apart_reg]

variable {d n}

/-- A check whose counter is not judged. -/
theorem completeCheck_unjudged (hcalm : d.Calm n) (res : Nat) {ok : Bool} {counter : Option Nat} (h : ok = false ∨ counter = none) :
    d.completeCheck n res ok counter = (d.resultShown n res).verdictShown n ok 0 := by
  have hreach := beq_eq_false_iff_ne.mpr ((calm_resultShown d n res).mpr hcalm)
  rw [resultShown] at hreach
  cases ok with
  | false =>
    simp only [completeCheck, hreach, Bool.and_false, Bool.false_eq_true, if_false]
    rfl
  | true =>
    obtain rfl := h.resolve_left (by decide)
    simp only [completeCheck, hreach, Bool.and_false, Bool.false_eq_true, if_false]
    rfl

/-- A check whose CRC holds, with its counter judged. -/
theorem completeCheck_judged (hcalm : d.Calm n) (res c : Nat) : let k := 2 ^ d.fld (pg .check n) F.CHECK.LAYOUT_2_AC_BITS
    d.completeCheck n res true (some c) =
      ((d.resultShown n res).aliveTaken n (aliveVerdict (d.checkS n) k (c % k)).2).verdictShown n true (aliveVerdict (d.checkS n) k (c % k)).1 := by
  intro k
  have hreach := beq_eq_false_iff_ne.mpr ((calm_resultShown d n res).mpr hcalm)
  have hbits : (d.resultShown n res).fld (pg .check n) F.CHECK.LAYOUT_2_AC_BITS = d.fld (pg .check n) F.CHECK.LAYOUT_2_AC_BITS := by
    simp (disch := decide) only [resultShown, reads_apart_reg]
  rw [resultShown] at hreach hbits
  have hquiet : ∀ bad : Bool, ¬((bad && (d.resultShown n res).fld (pg .check n) F.CHECK.VERDICT_BAD_RUN + 1 ==
      (d.resultShown n res).fld (pg .check n) F.CHECK.CFG_BAD_MAX) = true) := fun bad => by rw [resultShown, hreach, Bool.and_false]; decide
  simp only [completeCheck, hbits]
  exact if_neg (hquiet _)

end

theorem reg_acCounted (d : Dev) (n ac : Nat) {o : Nat} (h : o ≠ R.CHECK.REPEATS ∧ o ≠ R.CHECK.SKIPS) :
    (d.acCounted n ac).reg (pg .check n) o = d.reg (pg .check n) o := by
  unfold acCounted
  split
  · exact reg_bump_apart d h.1
  · split
    · exact reg_bump_apart d h.2
    · rfl

theorem reg_crcCounted (d : Dev) (n : Nat) (ok : Bool) {o : Nat} (h : o ≠ R.CHECK.CRC_BAD) :
    (d.crcCounted n ok).reg (pg .check n) o = d.reg (pg .check n) o := by
  cases ok
  · exact reg_bump_apart d h
  · rfl

theorem stores_acCounted (d : Dev) (n ac : Nat) :
    (d.acCounted n ac).check = d.check ∧ (d.acCounted n ac).mem = d.mem ∧ (d.acCounted n ac).keys = d.keys := by
  unfold acCounted
  split
  · exact ⟨rfl, rfl, rfl⟩
  · split <;> exact ⟨rfl, rfl, rfl⟩

theorem stores_crcCounted (d : Dev) (n : Nat) (ok : Bool) :
    (d.crcCounted n ok).check = d.check ∧ (d.crcCounted n ok).mem = d.mem ∧ (d.crcCounted n ok).keys = d.keys := by
  cases ok <;> exact ⟨rfl, rfl, rfl⟩

theorem reg_noteCheck (d : Dev) (n p o : Nat) : (d.noteCheck n).reg p o = d.reg p o := rfl

theorem flag_noteCheck (d : Dev) (n p : Nat) (f : Fld) : (d.noteCheck n).flag p f = d.flag p f := rfl

/-- The CRC's and the counter's verdict stand in the word of VERDICT. -/
theorem verdictWord_fields (d : Dev) (n : Nat) (ok : Bool) {ac : Nat} (hac : ac ≤ 4) :
    bitsOf (BitVec.ofNat 32 (d.verdictWord n ok ac)).toNat 0 1 = b2n ok ∧ bitsOf (BitVec.ofNat 32 (d.verdictWord n ok ac)).toNat 1 3 = ac := by
  have hok := b2n_lt ok
  simp only [verdictWord]
  generalize (if !ok || ac == 3 || ac == 4 then min (d.fld (pg .check n) F.CHECK.VERDICT_BAD_RUN + 1) 255 else 0) = run
  generalize (d.fld (pg .check n) F.CHECK.VERDICT_SEQ + 1) % 65536 = seq
  simp only [bitsOf, BitVec.toNat_ofNat, Nat.shiftRight_eq_div_pow]
  omega

theorem verdictPut_regs (d : Dev) (n : Nat) (ok : Bool) (ac : Nat) :
    (d.verdictPut n ok ac).reg (pg .check n) R.CHECK.VERDICT = BitVec.ofNat 32 (d.verdictWord n ok ac) ∧
      (∀ o, o ≠ R.CHECK.VERDICT ∧ o ≠ R.CHECK.CHECKS ∧ o ≠ F.CHECK.EVENT_DONE.ofs →
        (d.verdictPut n ok ac).reg (pg .check n) o = d.reg (pg .check n) o) ∧
      (d.verdictPut n ok ac).flag (pg .check n) F.CHECK.EVENT_DONE = true ∧
      (d.verdictPut n ok ac).reg (pg .check n) R.CHECK.CHECKS = d.reg (pg .check n) R.CHECK.CHECKS + 1 := by
  rw [verdictPut]
  refine ⟨?_, fun o ⟨hverdict, hchecks, hevent⟩ => ?_, ?_, ?_⟩
  · rw [reg_noteCheck, reg_event_apart _ (by decide), reg_bump_apart _ (by decide), reg_setReg_self]
  · rw [reg_noteCheck, reg_event_apart _ hevent, reg_bump_apart _ hchecks, reg_setReg_apart _ _ hverdict]
  · rw [flag_noteCheck]
    exact flag_event_self _ _ _ (by decide) (by decide)
  · rw [reg_noteCheck, reg_event_apart _ (by decide), reg_bump_self, reg_setReg_apart _ _ (by decide)]
    rfl

theorem stores_verdictPut (d : Dev) (n : Nat) (ok : Bool) (ac : Nat) :
    (d.verdictPut n ok ac).check = d.check ∧ (d.verdictPut n ok ac).mem = d.mem ∧ (d.verdictPut n ok ac).keys = d.keys := by
  simp [verdictPut, noteCheck]

/-- What a verdict shows and counts. -/
theorem verdictShown_spec (d : Dev) (n : Nat) (ok : Bool) {ac : Nat} (hac : ac ≤ 4) : let t := d.verdictShown n ok ac
    t.flag (pg .check n) F.CHECK.VERDICT_CRC_OK = ok ∧ t.fld (pg .check n) F.CHECK.VERDICT_AC = ac ∧
      t.flag (pg .check n) F.CHECK.EVENT_DONE = true ∧ t.reg (pg .check n) R.CHECK.CHECKS = d.reg (pg .check n) R.CHECK.CHECKS + 1 ∧
      t.reg (pg .check n) R.CHECK.CRC_BAD =
        (if ok then d.reg (pg .check n) R.CHECK.CRC_BAD else d.reg (pg .check n) R.CHECK.CRC_BAD + 1) ∧
      t.reg (pg .check n) R.CHECK.RESULT_LO = d.reg (pg .check n) R.CHECK.RESULT_LO ∧ t.checkS n = d.checkS n ∧ t.mem = d.mem ∧ t.keys = d.keys := by
  intro t
  have hreg : ∀ o, o ≠ R.CHECK.REPEATS ∧ o ≠ R.CHECK.SKIPS → o ≠ R.CHECK.CRC_BAD →
      t.reg (pg .check n) o = (d.verdictPut n ok ac).reg (pg .check n) o := fun o hac hcrc =>
    (reg_acCounted _ n ac hac).trans (reg_crcCounted _ n ok hcrc)
  obtain ⟨hput, hother, hdone, hchecks⟩ := verdictPut_regs d n ok ac
  obtain ⟨hok, hcount⟩ := verdictWord_fields d n ok hac
  obtain ⟨acCheck, acMem, acKeys⟩ := stores_acCounted ((d.verdictPut n ok ac).crcCounted n ok) n ac
  obtain ⟨crcCheck, crcMem, crcKeys⟩ := stores_crcCounted (d.verdictPut n ok ac) n ok
  obtain ⟨putCheck, putMem, putKeys⟩ := stores_verdictPut d n ok ac
  have hverdict := (hreg R.CHECK.VERDICT (by decide) (by decide)).trans hput
  refine ⟨?_, ?_, ?_, ?_, ?_, ?_, ?_, acMem.trans (crcMem.trans putMem), acKeys.trans (crcKeys.trans putKeys)⟩
  · rw [flag, fld, show F.CHECK.VERDICT_CRC_OK.ofs = R.CHECK.VERDICT from rfl, hverdict]
    exact (congrArg (· != 0) hok).trans (by cases ok <;> rfl)
  · rw [fld, show F.CHECK.VERDICT_AC.ofs = R.CHECK.VERDICT from rfl, hverdict]
    exact hcount
  · exact (flag_of_fld (fld_of_reg (hreg _ (by decide) (by decide)))).trans hdone
  · exact (hreg _ (by decide) (by decide)).trans hchecks
  · rw [show t.reg (pg .check n) R.CHECK.CRC_BAD = _ from reg_acCounted _ n ac (by decide), crcCounted, apply_ite (reg · (pg .check n) R.CHECK.CRC_BAD),
      reg_bump_self, hother _ (by decide)]
    rfl
  · exact (hreg _ (by decide) (by decide)).trans (hother _ (by decide))
  · exact congrArg (vget · n {}) (acCheck.trans (crcCheck.trans putCheck))

theorem checkS_resultShown (d : Dev) (n res : Nat) : (d.resultShown n res).checkS n = d.checkS n := by simp [checkS, resultShown]

theorem checkS_modCheck (d : Dev) {n : Nat} (hn : n < 4) (f : CheckS → CheckS) : (d.modCheck n f).checkS n = f (d.checkS n) :=
  vget_vmod_self _ hn _ _

theorem regs_resultShown (d : Dev) (n res : Nat) :
    (d.resultShown n res).reg (pg .check n) R.CHECK.RESULT_LO = BitVec.ofNat 32 res ∧
      ∀ o, o ≠ R.CHECK.RESULT_LO → o ≠ R.CHECK.RESULT_HI → (d.resultShown n res).reg (pg .check n) o = d.reg (pg .check n) o := by
  rw [resultShown]
  refine ⟨?_, fun o hlo hhi => ?_⟩
  · rw [reg_setReg_apart _ _ (by decide), reg_setReg_self]
  · rw [reg_setReg_apart _ _ hhi, reg_setReg_apart _ _ hlo]

theorem aliveVerdict_le (s : CheckS) (k c : Nat) : (aliveVerdict s k c).1 ≤ 4 := by
  unfold aliveVerdict
  split_ifs <;> simp

/-- A check completes with the result `res` (R531–R533): its CRC holds where `ok` says so, and its counter is judged where there is one. -/
theorem completeCheck_spec {d : Dev} {n : Nat} (hn : n < 4) (hcalm : d.Calm n) (res : Nat) (ok guard : Bool) (c : Nat) :
    let t := d.completeCheck n res ok (if guard then some c else none)
    let k := 2 ^ d.fld (pg .check n) F.CHECK.LAYOUT_2_AC_BITS
    let v := aliveVerdict (d.checkS n) k (c % k)
    t.reg (pg .check n) R.CHECK.RESULT_LO = BitVec.ofNat 32 res ∧ t.flag (pg .check n) F.CHECK.VERDICT_CRC_OK = ok ∧
      t.fld (pg .check n) F.CHECK.VERDICT_AC = (if ok && guard then v.1 else 0) ∧ t.flag (pg .check n) F.CHECK.EVENT_DONE = true ∧
      t.reg (pg .check n) R.CHECK.CHECKS = d.reg (pg .check n) R.CHECK.CHECKS + 1 ∧
      t.reg (pg .check n) R.CHECK.CRC_BAD = (if ok then d.reg (pg .check n) R.CHECK.CRC_BAD else d.reg (pg .check n) R.CHECK.CRC_BAD + 1) ∧
      t.checkS n = (if ok && guard then { d.checkS n with last := v.2, init := false } else d.checkS n) ∧ t.mem = d.mem ∧ t.keys = d.keys := by
  intro t k v
  obtain ⟨hresult, hkept⟩ := regs_resultShown d n res
  have hmem : (d.resultShown n res).mem = d.mem := rfl
  have hkeys : (d.resultShown n res).keys = d.keys := rfl
  have hchecks := hkept R.CHECK.CHECKS (by decide) (by decide)
  have hbad := hkept R.CHECK.CRC_BAD (by decide) (by decide)
  cases hj : ok && guard with
  | false =>
    have hnone : ok = false ∨ (if guard then some c else none) = none := by
      cases ok
      · exact .inl rfl
      · cases guard
        · exact .inr rfl
        · exact absurd hj (by decide)
    have ht : t = (d.resultShown n res).verdictShown n ok 0 := completeCheck_unjudged hcalm res hnone
    obtain ⟨tok, tac, tdone, tchecks, tbad, tres, tS, tmem, tkeys⟩ := verdictShown_spec (d.resultShown n res) n ok (Nat.zero_le 4)
    rw [ht]
    rw [hchecks] at tchecks
    rw [hbad] at tbad
    exact ⟨tres.trans hresult, tok, tac, tdone, tchecks, tbad, tS.trans (checkS_resultShown d n res), tmem.trans hmem, tkeys.trans hkeys⟩
  | true =>
    obtain ⟨rfl, rfl⟩ := Bool.and_eq_true_iff.mp hj
    have ht : t = ((d.resultShown n res).aliveTaken n v.2).verdictShown n true v.1 := completeCheck_judged hcalm res c
    obtain ⟨tok, tac, tdone, tchecks, tbad, tres, tS, tmem, tkeys⟩ :=
      verdictShown_spec ((d.resultShown n res).aliveTaken n v.2) n true (aliveVerdict_le (d.checkS n) k (c % k))
    rw [ht]
    rw [aliveTaken, reg_modCheck] at tchecks tbad tres
    rw [hchecks] at tchecks
    rw [hbad] at tbad
    rw [aliveTaken, checkS_modCheck _ hn, checkS_resultShown] at tS
    exact ⟨tres.trans hresult, tok, tac, tdone, tchecks, tbad, tS, tmem.trans hmem, tkeys.trans hkeys⟩

/-! ## A unit that a core feeds (R531) -/

section
variable {d : Dev} {n : Nat}

theorem checkStart_unfed (h : d.checkFed n 0 = false) : d.checkStart n = d := by rw [checkStart, h]; rfl

theorem checkFinish_unfed (h : d.checkFed n 0 = false) : d.checkFinish n = d := by rw [checkFinish, h]; rfl

theorem checkDin_unfed (h : d.checkFed n 0 = false) (k : Nat) (w : Word) : d.checkDin n k w = d := by rw [checkDin, h]; rfl

theorem checkStart_fed (h : d.checkFed n 0 = true) : d.checkStart n = d.modCheck n fun s => { s with crc := d.checkPair n R.CHECK.INIT_LO } := by
  rw [checkStart, if_pos h]

theorem checkDin_fed (h : d.checkFed n 0 = true) (k : Nat) (w : Word) :
    d.checkDin n k w = d.modCheck n fun s => { s with crc := d.crcFeed n (d.checkS n).crc ((Crc.wordBytes w).take k) } := by
  rw [checkDin, if_pos h]

theorem checkFinish_fed (h : d.checkFed n 0 = true) : d.checkFinish n =
    d.completeCheck n (d.crcResult n (d.checkS n).crc) (d.crcResult n (d.checkS n).crc == d.checkPair n R.CHECK.EXPECT_LO)
      (if d.flag (pg .check n) F.CHECK.CFG_GUARD_EN then some (d.reg (pg .check n) R.CHECK.AC_IN).toNat else none) := by
  rw [checkFinish, if_pos h]

end

/-- A unit changed as it stands is as a unit changed by its own state. -/
theorem modCheck_checkS (d : Dev) {n : Nat} (hn : n < 4) (f : CheckS → CheckS → CheckS) :
    (d.modCheck n (f (d.checkS n))) = d.modCheck n fun s => f s s := by
  rw [modCheck, modCheck, vmod, vmod, dif_pos hn, dif_pos hn, checkS, vget]
  simp [hn]

/-! ## A unit that observes a ring (R530, R531) -/

/-- A check completes on a device that takes the record from its unit. -/
theorem completeCheck_taken {d e : Dev} {n : Nat} (hn : n < 4) (hcalm : d.Calm n) (hS : (e.checkS n).seen = none) (hregs : e.regs = d.regs)
    (hmem : e.mem = d.mem) (hkeys : e.keys = d.keys) (res : Nat) (ok : Bool) (c : Nat) : let t := e.completeCheck n res ok (some c)
    (t.checkS n).seen = none ∧ t.reg (pg .check n) R.CHECK.CHECKS = d.reg (pg .check n) R.CHECK.CHECKS + 1 ∧
      t.flag (pg .check n) F.CHECK.EVENT_DONE = true ∧ t.mem = d.mem ∧ t.keys = d.keys := by
  intro t
  have hreg : ∀ o, e.reg (pg .check n) o = d.reg (pg .check n) o := fun o => by rw [reg, reg, hregs]
  have hcalm' : e.Calm n := by rw [Calm, fld_of_reg (hreg _), fld_of_reg (hreg _)]; exact hcalm
  obtain ⟨-, -, -, hdone, hchecks, -, htS, htmem, htkeys⟩ := completeCheck_spec hn hcalm' res ok true c
  refine ⟨?_, hchecks.trans (by rw [hreg]), hdone, htmem.trans hmem, htkeys.trans hkeys⟩
  rw [show t.checkS n = _ from htS]
  split
  · exact hS
  · exact hS

/-- The record under way completes, whatever its fields show. -/
theorem checkRecord_due {d : Dev} {n : Nat} (hn : n < 4) {ws : List Word} (hseen : (d.checkS n).seen = some ws)
    (hdue : (d.checkS n).seenAt + (d.fld (pg .check n) F.CHECK.LAYOUT_DATA_LEN + 3) / 4 ≤ d.now) :
    ∃ e res ok c, d.checkRecord n = Dev.completeCheck e n res ok (some c) ∧ (e.checkS n).seen = none ∧ e.regs = d.regs ∧ e.mem = d.mem ∧
      e.keys = d.keys := by
  have hnone : ((d.modCheck n fun s => { s with seen := none }).checkS n).seen = none := by rw [checkS_modCheck _ hn]
  simp only [checkRecord, hseen]
  rw [if_neg (Nat.not_lt.mpr hdue)]
  split
  · exact ⟨_, _, _, _, rfl, hnone, rfl, rfl, rfl⟩
  · exact ⟨_, _, _, _, rfl, hnone, rfl, rfl, rfl⟩

theorem checkRecord_early {d : Dev} {n : Nat} (h : (d.checkS n).seen = none ∨
    d.now < (d.checkS n).seenAt + (d.fld (pg .check n) F.CHECK.LAYOUT_DATA_LEN + 3) / 4) : d.checkRecord n = d := by
  cases hseen : (d.checkS n).seen with
  | none => simp only [checkRecord, hseen]
  | some ws =>
    simp only [checkRecord, hseen]
    exact if_pos (h.resolve_left (by rw [hseen]; exact Option.some_ne_none ws))

/-! ## ENABLE (R531) -/

section
variable {d : Dev} {n : Nat}

theorem checkEnable_off (hn : n < 4) : let t := (d.checkEnable n false).done
    t.flag (pg .check n) F.HDR.CTRL_ENABLE = false ∧ (t.checkS n).seen = none ∧ t.mem = d.mem ∧ t.keys = d.keys := by
  refine ⟨?_, ?_, rfl, rfl⟩
  · exact flag_setFld_self d _ _ _ (by decide)
  · exact congrArg CheckS.seen (checkS_modCheck _ hn _)

theorem checkEnable_overlap (h : d.flag (pg .check n) F.HDR.CTRL_ENABLE = false) (hover : d.checkOverlap n = true) :
    d.checkEnable n true = d.event (pg .check n) F.CHECK.EVENT_CFG_BAD := by
  simp [checkEnable, h, hover]

theorem checkEnable_on (hn : n < 4) (h : d.flag (pg .check n) F.HDR.CTRL_ENABLE = false) (hover : d.checkOverlap n = false)
    (hsrc : d.fld (pg .check n) F.CHECK.CFG_SRC = 0 ∨ d.ringOn (d.fld (pg .check n) F.CHECK.RING_CFG_RING) = true) :
    let t := (d.checkEnable n true).done
    t.flag (pg .check n) F.HDR.CTRL_ENABLE = true ∧ (t.checkS n).init = true ∧ t.mem = d.mem ∧ t.keys = d.keys := by
  have hring : (d.fld (pg .check n) F.CHECK.CFG_SRC == 1 && !d.ringOn (d.fld (pg .check n) F.CHECK.RING_CFG_RING)) = false := by
    rcases hsrc with h | h <;> simp [h]
  have ht : d.checkEnable n true = (d.setFld (pg .check n) F.HDR.CTRL_ENABLE 1).modCheck n fun s => { s with init := true } := by
    simp only [checkEnable, h, hover, hring, Bool.not_true, Bool.false_eq_true, if_false, Bool.or_self]
  rw [ht]
  exact ⟨flag_setFld_self d _ _ _ (by decide), congrArg CheckS.init (checkS_modCheck _ hn _), rfl, rfl⟩

end

end Dev
end Sys2Proof.Machine
end

section
/-!
PROOFS. Multiplexed balls (R547, R548) and the ageing monitor (R587), and the statement of the three.
-/
namespace Sys2Proof.Machine

theorem FieldsApart.at {f g : Fld} (h : FieldsApart f g) (k : Nat) : FieldsApart (f.at k) (g.at k) := by
  simp only [FieldsApart, Fld.at] at h ⊢
  omega

theorem fits_at {f : Fld} (k : Nat) (h : f.lo + f.w ≤ 32) : (f.at k).lo + (f.at k).w ≤ 32 := h

namespace Dev

/-! ## MXCFG (R548) -/

/-- A field with a range taken where its value is in range, and EVENT.RANGE otherwise. -/
def putRanged (d : Dev) (f : Fld) (ok : Prop) [Decidable ok] (v : Nat) : Dev :=
  if ok then d.setFld (pg .pinmux) f v else d.eventRange (pg .pinmux)

section
variable (d : Dev) {f g : Fld} (ok : Prop) [Decidable ok] (v : Nat)

theorem fld_eventRange_pinmux (h : g.ofs ≠ R.HDR.EVENT) : (d.eventRange (pg .pinmux)).fld (pg .pinmux) g = d.fld (pg .pinmux) g :=
  fld_event_apart d (.inl h)

theorem fld_putRanged_apart (h : FieldsApart g f) (he : g.ofs ≠ R.HDR.EVENT) :
    (d.putRanged f ok v).fld (pg .pinmux) g = d.fld (pg .pinmux) g := by
  unfold putRanged
  split
  · exact fld_setFld_apart d v h
  · exact fld_eventRange_pinmux d he

theorem fld_putRanged_self (h : f.lo + f.w ≤ 32) (he : f.ofs ≠ R.HDR.EVENT) :
    (d.putRanged f ok v).fld (pg .pinmux) f = if ok then v % 2 ^ f.w else d.fld (pg .pinmux) f := by
  unfold putRanged
  split
  · exact fld_setFld_self d _ _ _ h
  · exact fld_eventRange_pinmux d he

end

/-- The fields of MXCFG[k] that no lock guards. -/
def mxSet (d : Dev) (k n : Nat) : Dev :=
  ((((d.putRanged (F.PINMUX.MXCFG_FUNC.at k) (mxAdmits k (bitsOf n 0 2) = true) (bitsOf n 0 2)).putRanged (F.PINMUX.MXCFG_PULL.at k)
    (bitsOf n 2 2 ≠ 3) (bitsOf n 2 2)).setFld (pg .pinmux) (F.PINMUX.MXCFG_DRIVE.at k) (bitsOf n 4 1)).setFld (pg .pinmux)
    (F.PINMUX.MXCFG_OD.at k) (bitsOf n 5 1)).setFld (pg .pinmux) (F.PINMUX.MXCFG_WSEL.at k) (bitsOf n 8 4)

/-- The safe level of MXCFG[k], which LOCK guards. -/
def mxSafe (d : Dev) (k n : Nat) : Dev :=
  let e := d.setFld (pg .pinmux) (F.PINMUX.MXCFG_SAFE_LVL.at k) (bitsOf n 13 1)
  if bitAt n 12 ∧ (k = 9 ∨ k = 10) then e.eventRange (pg .pinmux) else e.setFld (pg .pinmux) (F.PINMUX.MXCFG_SAFE_EN.at k) (bitsOf n 12 1)

section
variable (d : Dev) (k n : Nat)

theorem mx_ofs_ne {f : Fld} (h : f.ofs = R.PINMUX.MXCFG) {o : Nat} (ho : o < R.PINMUX.MXCFG) : (f.at k).ofs ≠ o := by
  simp only [Fld.at]
  omega

theorem fld_mxSet {f : Fld} (ho : f.ofs = R.PINMUX.MXCFG) (hfunc : FieldsApart f F.PINMUX.MXCFG_FUNC) (hpull : FieldsApart f F.PINMUX.MXCFG_PULL)
    (hdrive : FieldsApart f F.PINMUX.MXCFG_DRIVE) (hod : FieldsApart f F.PINMUX.MXCFG_OD) (hwsel : FieldsApart f F.PINMUX.MXCFG_WSEL) :
    (d.mxSet k n).fld (pg .pinmux) (f.at k) = d.fld (pg .pinmux) (f.at k) := by
  have hevent := mx_ofs_ne k ho (o := R.HDR.EVENT) (by decide)
  rw [mxSet, fld_setFld_apart _ _ (hwsel.at k), fld_setFld_apart _ _ (hod.at k), fld_setFld_apart _ _ (hdrive.at k),
    fld_putRanged_apart _ _ _ (hpull.at k) hevent, fld_putRanged_apart _ _ _ (hfunc.at k) hevent]

theorem mxSet_spec :
    (d.mxSet k n).fld (pg .pinmux) (F.PINMUX.MXCFG_FUNC.at k) =
        (if mxAdmits k (bitsOf n 0 2) then bitsOf n 0 2 else d.fld (pg .pinmux) (F.PINMUX.MXCFG_FUNC.at k)) ∧
      (d.mxSet k n).fld (pg .pinmux) (F.PINMUX.MXCFG_PULL.at k) =
        (if bitsOf n 2 2 = 3 then d.fld (pg .pinmux) (F.PINMUX.MXCFG_PULL.at k) else bitsOf n 2 2) ∧
      (d.mxSet k n).fld (pg .pinmux) (F.PINMUX.MXCFG_OD.at k) = bitsOf n 5 1 ∧
      (d.mxSet k n).fld (pg .pinmux) (F.PINMUX.MXCFG_WSEL.at k) = bitsOf n 8 4 := by
  have hevent : ∀ f : Fld, f.ofs = R.PINMUX.MXCFG → (f.at k).ofs ≠ R.HDR.EVENT := fun f ho => mx_ofs_ne k ho (by decide)
  have hlt : ∀ lo w, bitsOf n lo w % 2 ^ w = bitsOf n lo w := fun lo w => Nat.mod_mod _ _
  have happart : ∀ {f g : Fld}, FieldsApart f g → FieldsApart (f.at k) (g.at k) := fun h => h.at k
  refine ⟨?_, ?_, ?_, ?_⟩
  · rw [mxSet, fld_setFld_apart _ _ (happart (by decide)), fld_setFld_apart _ _ (happart (by decide)), fld_setFld_apart _ _ (happart (by decide)),
      fld_putRanged_apart _ _ _ (happart (by decide)) (hevent _ rfl), fld_putRanged_self _ _ _ (fits_at k (by decide)) (hevent F.PINMUX.MXCFG_FUNC rfl)]
    exact if_congr Iff.rfl (hlt 0 2) rfl
  · rw [mxSet, fld_setFld_apart _ _ (happart (by decide)), fld_setFld_apart _ _ (happart (by decide)), fld_setFld_apart _ _ (happart (by decide)),
      fld_putRanged_self _ _ _ (fits_at k (by decide)) (hevent F.PINMUX.MXCFG_PULL rfl), fld_putRanged_apart _ _ _ (happart (by decide)) (hevent F.PINMUX.MXCFG_PULL rfl), ite_not]
    exact if_congr Iff.rfl rfl (hlt 2 2)
  · rw [mxSet, fld_setFld_apart _ _ (happart (by decide)), fld_setFld_self _ _ _ _ (fits_at k (by decide))]
    exact hlt 5 1
  · rw [mxSet, fld_setFld_self _ _ _ _ (fits_at k (by decide))]
    exact hlt 8 4

end

section
variable {d : Dev} {m : Master} {k : Nat} {w : Word}

theorem mxcfgWrite_unheld (h : d.keyHeldBy m k = false) : d.mxcfgWrite m k w = d.event (pg .pinmux) F.HDR.EVENT_NOKEY := by
  rw [mxcfgWrite, h]
  rfl

/-- The holder's write: the safe level is taken without LOCK only. -/
theorem mxcfgWrite_held (h : d.keyHeldBy m k = true) :
    ((d.mxSet k w.toNat).flag (pg .pinmux) F.HDR.LOCK_LOCK = true ∧
      (d.mxcfgWrite m k w = d.mxSet k w.toNat ∨
        d.mxcfgWrite m k w = (d.mxSet k w.toNat).refuse m (pg .pinmux) (R.PINMUX.MXCFG + 4 * k))) ∨
    ((d.mxSet k w.toNat).flag (pg .pinmux) F.HDR.LOCK_LOCK = false ∧ d.mxcfgWrite m k w = (d.mxSet k w.toNat).mxSafe k w.toNat) := by
  have hw : d.mxcfgWrite m k w =
      if (d.mxSet k w.toNat).flag (pg .pinmux) F.HDR.LOCK_LOCK then
        (if bitsOf w.toNat 12 2 != bitsOf ((d.mxSet k w.toNat).reg (pg .pinmux) (R.PINMUX.MXCFG + 4 * k)).toNat 12 2 then
          (d.mxSet k w.toNat).refuse m (pg .pinmux) (R.PINMUX.MXCFG + 4 * k) else d.mxSet k w.toNat)
      else (d.mxSet k w.toNat).mxSafe k w.toNat := by
    have hheld : ¬((!d.keyHeldBy m k) = true) := by rw [h]; decide
    rw [mxcfgWrite]
    exact if_neg hheld
  rw [hw]
  cases (d.mxSet k w.toNat).flag (pg .pinmux) F.HDR.LOCK_LOCK with
  | false => exact .inr ⟨rfl, rfl⟩
  | true =>
    refine .inl ⟨rfl, ?_⟩
    simp only [if_true]
    split
    · exact .inr rfl
    · exact .inl rfl

theorem fld_refuse_pinmux (e : Dev) (m : Master) (ofs : Nat) {f : Fld} (h : f.ofs ≠ R.HDR.EVENT ∧ f.ofs ≠ R.HDR.REFUSED_AT) :
    (e.refuse m (pg .pinmux) ofs).fld (pg .pinmux) f = e.fld (pg .pinmux) f := by
  rw [refuse, fld_setReg_apart _ _ h.2, fld_event_apart _ (.inl h.1)]

/-- A field of MXCFG[k] that SAFE_EN does not hold is as SAFE_LVL leaves it. -/
theorem fld_mxSafe_lvl (e : Dev) (k n : Nat) {f : Fld} (ho : f.ofs = R.PINMUX.MXCFG) (hen : FieldsApart f F.PINMUX.MXCFG_SAFE_EN) :
    (e.mxSafe k n).fld (pg .pinmux) (f.at k) =
      (e.setFld (pg .pinmux) (F.PINMUX.MXCFG_SAFE_LVL.at k) (bitsOf n 13 1)).fld (pg .pinmux) (f.at k) := by
  rw [mxSafe]
  split
  · exact fld_eventRange_pinmux _ (mx_ofs_ne k ho (by decide))
  · exact fld_setFld_apart _ _ (hen.at k)

theorem fld_mxSafe (e : Dev) (k n : Nat) {f : Fld} (ho : f.ofs = R.PINMUX.MXCFG) (hlvl : FieldsApart f F.PINMUX.MXCFG_SAFE_LVL)
    (hen : FieldsApart f F.PINMUX.MXCFG_SAFE_EN) : (e.mxSafe k n).fld (pg .pinmux) (f.at k) = e.fld (pg .pinmux) (f.at k) :=
  (fld_mxSafe_lvl e k n ho hen).trans (fld_setFld_apart _ _ (hlvl.at k))

theorem safeLvl_mxSafe (e : Dev) (k n : Nat) :
    (e.mxSafe k n).fld (pg .pinmux) (F.PINMUX.MXCFG_SAFE_LVL.at k) = bitsOf n 13 1 := by
  rw [fld_mxSafe_lvl e k n rfl (by decide), fld_setFld_self _ _ _ _ (fits_at k (by decide))]
  exact Nat.mod_mod _ _

/-- A field that LOCK does not guard is as the write's first part leaves it. -/
theorem fld_mxcfgWrite (h : d.keyHeldBy m k = true) {f : Fld} (ho : f.ofs = R.PINMUX.MXCFG) (hlvl : FieldsApart f F.PINMUX.MXCFG_SAFE_LVL)
    (hen : FieldsApart f F.PINMUX.MXCFG_SAFE_EN) :
    (d.mxcfgWrite m k w).fld (pg .pinmux) (f.at k) = (d.mxSet k w.toNat).fld (pg .pinmux) (f.at k) := by
  rcases mxcfgWrite_held (w := w) h with ⟨-, hw | hw⟩ | ⟨-, hw⟩
  · rw [hw]
  · rw [hw, fld_refuse_pinmux _ _ _ ⟨mx_ofs_ne k ho (by decide), mx_ofs_ne k ho (by decide)⟩]
  · rw [hw, fld_mxSafe _ _ _ ho hlvl hen]

theorem lock_mxSet : (d.mxSet k w.toNat).flag (pg .pinmux) F.HDR.LOCK_LOCK = d.lockSet (pg .pinmux) := by
  have hne : ∀ f : Fld, f.ofs = R.PINMUX.MXCFG → FieldsApart F.HDR.LOCK_LOCK (f.at k) := fun f ho => .inl (Ne.symm (mx_ofs_ne k ho (by decide)))
  refine flag_of_fld ?_
  rw [mxSet, fld_setFld_apart _ _ (hne _ rfl), fld_setFld_apart _ _ (hne _ rfl), fld_setFld_apart _ _ (hne _ rfl),
    fld_putRanged_apart _ _ _ (hne _ rfl) (by decide), fld_putRanged_apart _ _ _ (hne _ rfl) (by decide)]

/-- The safe level is kept under LOCK, and taken without it. -/
theorem safe_mxcfgWrite (h : d.keyHeldBy m k = true) :
    (d.lockSet (pg .pinmux) = true → (d.mxcfgWrite m k w).flag (pg .pinmux) (F.PINMUX.MXCFG_SAFE_EN.at k) =
        d.flag (pg .pinmux) (F.PINMUX.MXCFG_SAFE_EN.at k)) ∧
      (d.lockSet (pg .pinmux) = false → (d.mxcfgWrite m k w).flag (pg .pinmux) (F.PINMUX.MXCFG_SAFE_LVL.at k) = bitAt w.toNat 13) := by
  have hkept : (d.mxSet k w.toNat).fld (pg .pinmux) (F.PINMUX.MXCFG_SAFE_EN.at k) = d.fld (pg .pinmux) (F.PINMUX.MXCFG_SAFE_EN.at k) :=
    fld_mxSet d k _ rfl (by decide) (by decide) (by decide) (by decide) (by decide)
  constructor
  · intro hlock
    refine flag_of_fld ?_
    rcases mxcfgWrite_held (w := w) h with ⟨-, hw | hw⟩ | ⟨hun, -⟩
    · rw [hw, hkept]
    · rw [hw, fld_refuse_pinmux _ _ _ ⟨mx_ofs_ne k rfl (by decide), mx_ofs_ne k rfl (by decide)⟩, hkept]
    · rw [lock_mxSet, hlock] at hun
      exact absurd hun (by decide)
  · intro hlock
    rcases mxcfgWrite_held (w := w) h with ⟨hlocked, -⟩ | ⟨-, hw⟩
    · rw [lock_mxSet, hlock] at hlocked
      exact absurd hlocked (by decide)
    · rw [hw, flag, safeLvl_mxSafe, bitAt_eq_bitsOf]

/-- A write of MXCFG[k] by the holder of its key. -/
theorem mxcfgWrite_spec (h : d.keyHeldBy m k = true) : let t := (d.mxcfgWrite m k w).done
    t.fld (pg .pinmux) (F.PINMUX.MXCFG_FUNC.at k) =
        (if mxAdmits k (bitsOf w.toNat 0 2) then bitsOf w.toNat 0 2 else d.fld (pg .pinmux) (F.PINMUX.MXCFG_FUNC.at k)) ∧
      t.fld (pg .pinmux) (F.PINMUX.MXCFG_PULL.at k) =
        (if bitsOf w.toNat 2 2 = 3 then d.fld (pg .pinmux) (F.PINMUX.MXCFG_PULL.at k) else bitsOf w.toNat 2 2) ∧
      t.flag (pg .pinmux) (F.PINMUX.MXCFG_OD.at k) = bitAt w.toNat 5 ∧ t.fld (pg .pinmux) (F.PINMUX.MXCFG_WSEL.at k) = bitsOf w.toNat 8 4 ∧
      (d.lockSet (pg .pinmux) = true →
        t.flag (pg .pinmux) (F.PINMUX.MXCFG_SAFE_EN.at k) = d.flag (pg .pinmux) (F.PINMUX.MXCFG_SAFE_EN.at k)) ∧
      (d.lockSet (pg .pinmux) = false → t.flag (pg .pinmux) (F.PINMUX.MXCFG_SAFE_LVL.at k) = bitAt w.toNat 13) ∧
      t.mem = d.mem ∧ t.keys = d.keys := by
  obtain ⟨hfunc, hpull, hod, hwsel⟩ := mxSet_spec d k w.toNat
  obtain ⟨hen, hlvl⟩ := safe_mxcfgWrite (w := w) h
  have hfree : ∀ f : Fld, f.ofs = R.PINMUX.MXCFG → FieldsApart f F.PINMUX.MXCFG_SAFE_LVL → FieldsApart f F.PINMUX.MXCFG_SAFE_EN →
      (d.mxcfgWrite m k w).done.fld (pg .pinmux) (f.at k) = (d.mxSet k w.toNat).fld (pg .pinmux) (f.at k) := fun f => fld_mxcfgWrite h
  refine ⟨(hfree _ rfl (by decide) (by decide)).trans hfunc, (hfree _ rfl (by decide) (by decide)).trans hpull, ?_,
    (hfree _ rfl (by decide) (by decide)).trans hwsel, hen, hlvl, (mxcfgWrite_store d m k w).1, (mxcfgWrite_store d m k w).2⟩
  rw [flag, hfree _ rfl (by decide) (by decide), hod, bitAt_eq_bitsOf]

end

/-! ## GPIO (R548) -/

/-- A bit of a register of PINMUX given the written word's. -/
def gpioBit (ofs : Nat) (w : Word) (d : Dev) (k : Nat) : Dev := d.setFld (pg .pinmux) ⟨ofs, k, 1⟩ (b2n (bitAt w.toNat k))

theorem bitAt_ofNat (n : Nat) {k : Nat} (hk : k < 32) : bitAt (BitVec.ofNat 32 n).toNat k = bitAt n k := by
  rw [bitAt_eq_testBit, bitAt_eq_testBit, BitVec.toNat_ofNat, Nat.testBit_mod_two_pow]
  simp [hk]

theorem bit_gpioBit (d : Dev) (ofs : Nat) (w : Word) {j k : Nat} (hk : k < 32) :
    bitAt ((d.gpioBit ofs w j).reg (pg .pinmux) ofs).toNat k = if k = j then bitAt w.toNat j else bitAt (d.reg (pg .pinmux) ofs).toNat k := by
  rw [gpioBit, setFld, reg_setReg_self, bitAt_ofNat _ hk]
  split
  case isTrue h =>
    rw [h, bitAt_setBits_self]
    cases bitAt w.toNat j <;> rfl
  case isFalse h => exact bitAt_setBits_other _ _ _ _ (show k < j ∨ j + 1 ≤ k by omega)

/-- The bits of a list take the written word's, and the others stay. -/
theorem bit_each_gpioBit (l : List Nat) (d : Dev) (ofs : Nat) (w : Word) {k : Nat} (hk : k < 32) :
    bitAt ((d.each l (gpioBit ofs w)).reg (pg .pinmux) ofs).toNat k =
      if k ∈ l then bitAt w.toNat k else bitAt (d.reg (pg .pinmux) ofs).toNat k := by
  induction l generalizing d with
  | nil => rfl
  | cons j l ih =>
    rw [each_cons, ih, bit_gpioBit d ofs w hk]
    by_cases hkj : k = j
    · simp [hkj]
    · simp [hkj]

/-- The bits that the write would change. -/
def gpioDiff (d : Dev) (ofs : Nat) (w : Word) : List Nat :=
  numbers 27 fun k => bitAt (d.reg (pg .pinmux) ofs).toNat k != bitAt w.toNat k

section
variable (d : Dev) (m : Master) (ofs : Nat) (w : Word)

/-- The device with the bits that the writer may change. -/
def gpioTaken : Dev := d.each ((d.gpioDiff ofs w).filter (d.keyHeldBy m)) (gpioBit ofs w)

theorem gpioWrite_eq : d.gpioWrite m ofs w =
    if (d.gpioDiff ofs w).any (fun k => !d.keyHeldBy m k) then (d.gpioTaken m ofs w).refuse m (pg .pinmux) ofs else d.gpioTaken m ofs w := rfl

theorem mem_gpioDiff {k : Nat} (hk : k < 27) : k ∈ d.gpioDiff ofs w ↔ bitAt (d.reg (pg .pinmux) ofs).toNat k ≠ bitAt w.toNat k := by
  simp [gpioDiff, numbers, hk]

theorem bit_gpioTaken {k : Nat} (hk : k < 27) : bitAt ((d.gpioTaken m ofs w).reg (pg .pinmux) ofs).toNat k =
    if d.keyHeldBy m k then bitAt w.toNat k else bitAt (d.reg (pg .pinmux) ofs).toNat k := by
  rw [gpioTaken, bit_each_gpioBit _ _ _ _ (show k < 32 by omega)]
  simp only [List.mem_filter, mem_gpioDiff d ofs w hk]
  cases d.keyHeldBy m k
  · simp
  · by_cases hdiff : bitAt (d.reg (pg .pinmux) ofs).toNat k = bitAt w.toNat k
    · simp [hdiff]
    · simp [hdiff]

variable {ofs}

/-- A write of GPIO_OUT or GPIO_OE (R548). -/
theorem gpioWrite_spec (ho : ofs ≠ R.HDR.EVENT ∧ ofs ≠ R.HDR.REFUSED_AT) : let t := (d.gpioWrite m ofs w).done
    t.mem = d.mem ∧ t.keys = d.keys ∧
      (∀ k < 27, bitAt (t.reg (pg .pinmux) ofs).toNat k =
        if d.keyHeldBy m k then bitAt w.toNat k else bitAt (d.reg (pg .pinmux) ofs).toNat k) ∧
      ((∃ k < 27, d.keyHeldBy m k = false ∧ bitAt w.toNat k ≠ bitAt (d.reg (pg .pinmux) ofs).toNat k) →
        t.flag (pg .pinmux) F.HDR.EVENT_REFUSED = true) := by
  refine ⟨(gpioWrite_store d m ofs w).1, (gpioWrite_store d m ofs w).2, fun k hk => ?_, fun ⟨k, hk, hheld, hdiff⟩ => ?_⟩
  · have hreg : (d.gpioWrite m ofs w).reg (pg .pinmux) ofs = (d.gpioTaken m ofs w).reg (pg .pinmux) ofs := by
      rw [gpioWrite_eq]
      split
      · rw [refuse, reg_setReg_apart _ _ ho.2, reg_event_apart _ ho.1]
      · rfl
    show bitAt ((d.gpioWrite m ofs w).reg (pg .pinmux) ofs).toNat k = _
    rw [hreg, bit_gpioTaken d m ofs w hk]
  · have hany : (d.gpioDiff ofs w).any (fun k => !d.keyHeldBy m k) = true :=
      List.any_eq_true.mpr ⟨k, (mem_gpioDiff d ofs w hk).mpr (Ne.symm hdiff), by rw [hheld]; rfl⟩
    show (d.gpioWrite m ofs w).flag (pg .pinmux) F.HDR.EVENT_REFUSED = true
    rw [gpioWrite_eq, if_pos hany, refuse, flag_setReg_apart _ _ (by decide)]
    exact flag_event_self _ _ _ (by decide) (by decide)

end

/-! ## The ageing monitor (R587) -/

theorem ageCmd_refused {d : Dev} (h : d.state = 2 ∨ d.comp.ageBusy = true) :
    d.ageCmd 0xA6E10001#32 = d.event (pg .sys) ⟨R.HDR.EVENT, 10, 1⟩ := by
  have hkey : ¬((0xA6E10001#32).toNat / 65536 ≠ 0xA6E1 ∨ (!bitAt (0xA6E10001#32).toNat 0) = true) := by decide
  rw [ageCmd, if_neg hkey, if_pos h]

theorem ageCmd_taken {d : Dev} (hboot : d.state ≠ 2) (hidle : d.comp.ageBusy = false) :
    d.ageCmd 0xA6E10001#32 = { d with comp := { d.comp with ageBusy := true, ageAt := d.now } } := by
  have hkey : ¬((0xA6E10001#32).toNat / 65536 ≠ 0xA6E1 ∨ (!bitAt (0xA6E10001#32).toNat 0) = true) := by decide
  have hfree : ¬(d.state = 2 ∨ d.comp.ageBusy = true) := by simp [hboot, hidle]
  rw [ageCmd, if_neg hkey, if_neg hfree]

/-- A measurement's end with the shift `x` on a device whose free values may have been taken. -/
def ageShown (e : Dev) (x : Nat) : Dev :=
  (((({ e with comp := { e.comp with ageBusy := false } } : Dev).setReg (pg .sys) R.SYS.AGE_RESULT (BitVec.ofNat 32 (65536 + x))).bump
    (pg .sys) R.SYS.AGE_RUNS).event (pg .sys) ⟨R.HDR.EVENT, 8, 1⟩)

/-- AGE_WARN where the shift is at the limit or below it. -/
def ageWarned (e : Dev) (x : Nat) : Dev :=
  if toSigned 16 x ≤ e.sfld (pg .sys) F.SYS.AGE_CFG_WARN then e.event (pg .sys) ⟨R.HDR.EVENT, 9, 1⟩ else e

/-- The shift that the counts Ns and Nr give (R587). -/
def ageShift (d : Dev) (ns nr : Nat) : Int :=
  divRound (10000 * (((ns * (d.otpShadow 0x7E).toNat : Nat) : Int) - ((nr * 1073741824 : Nat) : Int))) (nr * 1073741824)

/-- The 16 bits of the shift, free where it does not fit or Nr is 0. -/
def ageFit (d : Dev) (ns nr : Nat) : Nat × Dev := d.fit 16 (if nr = 0 then 1 else -32768) (if nr = 0 then 0 else 32767) (d.ageShift ns nr)

section
variable {d : Dev} {ns nr : Nat}

theorem ageDone_early (h : d.comp.ageBusy = false ∨ d.now < d.comp.ageAt + 400000) : d.ageDone ns nr = d := by
  rw [ageDone]
  exact if_pos (h.imp_left fun hb => by rw [hb]; rfl)

theorem ageDone_due (hbusy : d.comp.ageBusy = true) (hdue : d.comp.ageAt + 400000 ≤ d.now) :
    d.ageDone ns nr = ((d.ageFit ns nr).2.ageShown (d.ageFit ns nr).1).ageWarned (d.ageFit ns nr).1 := by
  have hrun : ¬((!d.comp.ageBusy) = true ∨ d.now < d.comp.ageAt + 400000) := by simp [hbusy, hdue]
  rw [ageDone]
  exact if_neg hrun

theorem regs_ageFit (d : Dev) (ns nr : Nat) : (d.ageFit ns nr).2.regs = d.regs := by
  rw [ageFit, fit, apply_ite Prod.snd, apply_ite Dev.regs]
  exact ite_id _

theorem ageFit_fits (hnr : nr ≠ 0) (hlo : -32768 ≤ d.ageShift ns nr) (hhi : d.ageShift ns nr ≤ 32767) :
    (d.ageFit ns nr).1 = ofSigned 16 (d.ageShift ns nr) := by
  rw [ageFit, fit, if_neg hnr, if_neg hnr, if_pos ⟨hlo, hhi⟩]

end

/-- A signed value of 16 bits through its two's complement. -/
theorem ofSigned_16 {v : Int} (hlo : -32768 ≤ v) (hhi : v ≤ 32767) : ofSigned 16 v < 65536 ∧ toSigned 16 (ofSigned 16 v) = v := by
  have hpow : (2 : Nat) ^ 16 = 65536 := by norm_num
  simp only [toSigned, ofSigned, hpow]
  constructor
  · omega
  · split_ifs <;> omega

theorem ageWarned_keeps (e : Dev) (x : Nat) : (e.ageWarned x).comp = e.comp ∧
    (∀ o, o ≠ R.HDR.EVENT → (e.ageWarned x).reg (pg .sys) o = e.reg (pg .sys) o) ∧
    (e.flag (pg .sys) ⟨R.HDR.EVENT, 8, 1⟩ = true → (e.ageWarned x).flag (pg .sys) ⟨R.HDR.EVENT, 8, 1⟩ = true) := by
  rw [ageWarned]
  split
  · exact ⟨by simp, fun o ho => reg_event_apart _ ho, fun h => (flag_event_apart e (by decide)).trans h⟩
  · exact ⟨rfl, fun o _ => rfl, id⟩

/-- What a measurement's end shows. -/
theorem ageShown_spec (e : Dev) (x : Nat) : (e.ageShown x).comp.ageBusy = false ∧
    (e.ageShown x).reg (pg .sys) R.SYS.AGE_RUNS = e.reg (pg .sys) R.SYS.AGE_RUNS + 1 ∧
    (e.ageShown x).reg (pg .sys) R.SYS.AGE_RESULT = BitVec.ofNat 32 (65536 + x) ∧
    (e.ageShown x).flag (pg .sys) ⟨R.HDR.EVENT, 8, 1⟩ = true ∧
    (e.ageShown x).sfld (pg .sys) F.SYS.AGE_CFG_WARN = e.sfld (pg .sys) F.SYS.AGE_CFG_WARN := by
  rw [ageShown]
  refine ⟨rfl, ?_, ?_, flag_event_self _ _ _ (by decide) (by decide), ?_⟩
  · rw [reg_event_apart _ (by decide), reg_bump_self, reg_setReg_apart _ _ (by decide)]
    rfl
  · rw [reg_event_apart _ (by decide), reg_bump_apart _ (by decide), reg_setReg_self]
  · rw [sfld, fld_event_apart _ (by decide), fld_bump_apart _ (by decide), fld_setReg_apart _ _ (by decide)]
    rfl

/-- The measurement ends after 1 ms: SHIFT, AGE_RUNS, AGE_DONE and AGE_WARN. -/
theorem ageDone_spec {d : Dev} (ns nr : Nat) (hbusy : d.comp.ageBusy = true) (hdue : d.comp.ageAt + 400000 ≤ d.now) :
    let t := d.ageDone ns nr
    t.comp.ageBusy = false ∧ t.reg (pg .sys) R.SYS.AGE_RUNS = d.reg (pg .sys) R.SYS.AGE_RUNS + 1 ∧
      t.flag (pg .sys) ⟨R.HDR.EVENT, 8, 1⟩ = true ∧ t.mem = d.mem ∧ t.keys = d.keys ∧
      (nr ≠ 0 → -32768 ≤ d.ageShift ns nr → d.ageShift ns nr ≤ 32767 →
        (t.reg (pg .sys) R.SYS.AGE_RESULT).toNat = 65536 + ofSigned 16 (d.ageShift ns nr) ∧
        (d.ageShift ns nr ≤ d.sfld (pg .sys) F.SYS.AGE_CFG_WARN → t.flag (pg .sys) ⟨R.HDR.EVENT, 9, 1⟩ = true)) := by
  intro t
  have ht : t = _ := ageDone_due hbusy hdue
  have hregs := regs_ageFit d ns nr
  obtain ⟨sbusy, sruns, sresult, sevent, swarn⟩ := ageShown_spec (d.ageFit ns nr).2 (d.ageFit ns nr).1
  obtain ⟨wcomp, wreg, wevent⟩ := ageWarned_keeps ((d.ageFit ns nr).2.ageShown (d.ageFit ns nr).1) (d.ageFit ns nr).1
  have hreg : ∀ p o, (d.ageFit ns nr).2.reg p o = d.reg p o := fun p o => by rw [reg, reg, hregs]
  refine ⟨?_, ?_, ?_, (ageDone_store d ns nr).1, (ageDone_store d ns nr).2, fun hnr hlo hhi => ?_⟩
  · rw [ht, wcomp, sbusy]
  · rw [ht, wreg _ (by decide), sruns, hreg]
  · rw [ht]
    exact wevent sevent
  · obtain ⟨hlt, hback⟩ := ofSigned_16 hlo hhi
    have hfit := ageFit_fits hnr hlo hhi
    constructor
    · rw [ht, wreg _ (by decide), sresult, hfit, BitVec.toNat_ofNat, Nat.mod_eq_of_lt (by omega)]
    · intro hwarn
      have hlimit : toSigned 16 (d.ageFit ns nr).1 ≤ ((d.ageFit ns nr).2.ageShown (d.ageFit ns nr).1).sfld (pg .sys) F.SYS.AGE_CFG_WARN := by
        rw [swarn, hfit, hback, sfld, fld_of_regs hregs]
        exact hwarn
      rw [ht, ageWarned, if_pos hlimit]
      exact flag_event_self _ _ _ (by decide) (by decide)

/-! ## The verdict of the counter (R532) -/

theorem aliveVerdict_cases (s : CheckS) (k c : Nat) : (s.init = true → (aliveVerdict s k c).1 = 1) ∧
    (s.init = false → c = (s.last + 1) % k → (aliveVerdict s k c).1 = 2) ∧
    (s.init = false → c ≠ (s.last + 1) % k → (aliveVerdict s k c).1 = (if c = s.last then 3 else 4)) := by
  refine ⟨fun hi => ?_, fun hi hc => ?_, fun hi hc => ?_⟩
  · simp only [aliveVerdict, hi, if_true]
  · simp only [aliveVerdict, hi, Bool.false_eq_true, if_false, if_pos hc]
  · simp only [aliveVerdict, hi, Bool.false_eq_true, if_false, if_neg hc]
    split
    · rfl
    · rfl

end Dev

/-! ## The writes, traced to the units -/

section
variable {d t : Dev} {m : Master} {n : Fin 4}

theorem pageKey_check (n : Fin 4) : ∃ key, pageKey (pg .check n.val) = some key :=
  Option.isSome_iff_exists.mp (by revert n; decide)

theorem Runs.checkEnable {on : Bool} (h : d.CanWrite m .check n R.HDR.CTRL)
    (hheld : ∀ key, pageKey (pg .check n) = some key → d.keyHeldBy m key = true) (ht : d.checkEnable n on = t) :
    Runs (.checkEnable m n on) d t.done := by
  obtain ⟨key, hkey⟩ := pageKey_check n
  exact Runs.keyedEnable (by decide) (by decide) h hkey (fun _ => hheld key hkey) (fun _ => rfl) ht

/-- A command of a check unit runs as the unit's. -/
theorem Runs.checkCmd {c : Instr} {w : Word} (h : d.CanWrite m .check n R.CHECK.CMD)
    (hc : ∀ s, exec c s = .next (s.onDev fun d => d.portWrite m .check n R.CHECK.CMD w)) (ht : d.checkCmd n w = t) : Runs c d t.done :=
  Runs.block (by decide) (by decide) h (by decide) hc ht

theorem Runs.checkStart (h : d.CanWrite m .check n R.CHECK.CMD) (ht : d.checkStart n = t) : Runs (.checkStart m n) d t.done :=
  Runs.checkCmd h (fun _ => rfl) ht

theorem Runs.finish (h : d.CanWrite m .check n R.CHECK.CMD) (ht : d.checkFinish n = t) : Runs (.finish m n) d t.done :=
  Runs.checkCmd h (fun _ => rfl) ht

theorem Runs.resync (h : d.CanWrite m .check n R.CHECK.CMD) (ht : d.checkResync n = t) : Runs (.resync m n) d t.done :=
  Runs.checkCmd h (fun _ => rfl) ht

/-- DIN1, DIN2 and DIN4 take one, two and four bytes. -/
theorem checkWrite_din (d : Dev) (m : Master) (n : Nat) (size : Fin 3) (w : Word) :
    d.checkWrite m n (R.CHECK.DIN1 + 4 * size.val) w = d.checkDin n (2 ^ size.val) w := by
  match size with
  | 0 => rfl
  | 1 => rfl
  | 2 => rfl

theorem Runs.dinWrite {size : Fin 3} {w : Word} (h : d.CanWrite m .check n (R.CHECK.DIN1 + 4 * size.val))
    (ht : d.checkDin n (2 ^ size.val) w = t) : Runs (.dinWrite m n size w) d t.done := by
  have hofs : 0x100 ≤ R.CHECK.DIN1 + 4 * size.val ∧ R.CHECK.DIN1 + 4 * size.val < 0x800 := by
    have hsize := size.isLt
    have hbase : 0x100 ≤ R.CHECK.DIN1 ∧ R.CHECK.DIN1 < 0x700 := by decide
    omega
  exact Runs.block (by decide) (by decide) h hofs (fun _ => rfl) ((checkWrite_din d m n size w).trans ht)

theorem Runs.mxcfgWrite {k : Fin 27} {w : Word} (h : d.CanWrite m .pinmux 0 (R.PINMUX.MXCFG + 4 * k.val)) (ht : d.mxcfgWrite m k w = t) :
    Runs (.mxcfgWrite m k w) d t.done := by
  have hk := k.isLt
  have hlo : R.PINMUX.MXCFG ≤ R.PINMUX.MXCFG + 4 * k.val ∧ R.PINMUX.MXCFG + 4 * k.val < R.PINMUX.MXCFG + 108 := by omega
  have hofs : 0x100 ≤ R.PINMUX.MXCFG + 4 * k.val ∧ R.PINMUX.MXCFG + 4 * k.val < 0x800 := by
    have hbase : R.PINMUX.MXCFG = 0x100 := rfl
    omega
  have hindex : (R.PINMUX.MXCFG + 4 * k.val - R.PINMUX.MXCFG) / 4 = k.val := by omega
  refine Runs.block (by decide) (by decide) h hofs (fun _ => rfl) ?_
  show d.pinmuxWrite m (R.PINMUX.MXCFG + 4 * k.val) w = t
  rw [Dev.pinmuxWrite, if_pos hlo, hindex]
  exact ht

theorem Runs.gpioWrite {oe : Bool} {w : Word} (h : d.CanWrite m .pinmux 0 (if oe then R.PINMUX.GPIO_OE else R.PINMUX.GPIO_OUT))
    (ht : d.gpioWrite m (if oe then R.PINMUX.GPIO_OE else R.PINMUX.GPIO_OUT) w = t) : Runs (.gpioWrite m oe w) d t.done := by
  cases oe with
  | false => exact Runs.block (by decide) (by decide) h (by decide) (fun _ => rfl) ht
  | true => exact Runs.block (by decide) (by decide) h (by decide) (fun _ => rfl) ht

theorem Runs.measure (h : d.CanWrite m .sys 0 R.SYS.AGE_CMD) (ht : d.ageCmd 0xA6E10001#32 = t) : Runs (.measure m) d t.done :=
  Runs.block (by decide) (by decide) h (by decide) (fun _ => rfl) ht

theorem Runs.checkRecord_idle (h : d.busLive = false ∨ d.checkRecord n = d) : Runs (.checkRecord n) d d := by
  refine Runs.dev (fun _ => rfl) ?_
  cases hlive : d.busLive with
  | false => exact Dev.whenLive_neg hlive
  | true => exact (Dev.whenLive_pos hlive).trans (h.resolve_left (by rw [hlive]; decide))

theorem Runs.ageMeasureDone_idle {ns nr : Word} (h : d.busLive = false ∨ d.ageDone ns.toNat nr.toNat = d) :
    Runs (.ageMeasureDone ns nr) d d := by
  refine Runs.dev (fun _ => rfl) ?_
  cases hlive : d.busLive with
  | false => exact Dev.whenLive_neg hlive
  | true => exact (Dev.whenLive_pos hlive).trans (h.resolve_left (by rw [hlive]; decide))

end

/-- Settles O57: a check unit by its enable, its commands and its record, the counter's verdict by its three cases, a ball by its word and its
levels, and the ageing monitor by its command and its end. -/
theorem checksAndPinsRun : Obligations.ChecksAndPinsRun := by
  unfold Obligations.ChecksAndPinsRun
  intro d m
  refine ⟨fun n => ?_, Dev.aliveVerdict_cases, ⟨fun k w h => ?_, fun oe w h => ?_⟩, fun h => ?_, fun ns nr h => ?_, fun ns nr hlive hbusy hdue => ?_⟩
  · refine ⟨fun h hheld => ?_, fun h => ?_, fun size w h => ?_, fun h => ?_, fun ws hlive hseen hdue hcalm => ?_⟩
    · refine ⟨⟨_, Runs.checkEnable h hheld rfl, Dev.checkEnable_off n.isLt⟩,
        fun hoff hover => Runs.checkEnable h hheld (Dev.checkEnable_overlap hoff hover),
        fun hoff hover hsrc => ⟨_, Runs.checkEnable h hheld rfl, Dev.checkEnable_on n.isLt hoff hover hsrc⟩⟩
    · refine ⟨fun hfed => ?_, fun hfed => Runs.checkStart h (Dev.checkStart_fed hfed), Runs.resync h rfl, fun hfed hcalm => ?_⟩
      · have hunfed := Bool.eq_false_iff.mpr hfed
        exact ⟨Runs.checkStart h (Dev.checkStart_unfed hunfed), Runs.finish h (Dev.checkFinish_unfed hunfed)⟩
      · exact ⟨_, Runs.finish h (Dev.checkFinish_fed hfed), Dev.completeCheck_spec n.isLt hcalm _ _ _ _⟩
    · refine ⟨fun hfed => Runs.dinWrite h (Dev.checkDin_unfed (Bool.eq_false_iff.mpr hfed) _ _), fun hfed => Runs.dinWrite h ?_⟩
      rw [Dev.checkDin_fed hfed]
      exact Dev.modCheck_checkS d n.isLt fun s0 s => { s with crc := d.crcFeed n s0.crc ((Crc.wordBytes w).take (2 ^ size.val)) }
    · exact Runs.checkRecord_idle (h.imp_right Dev.checkRecord_early)
    · obtain ⟨e, res, ok, c, he, hnone, hregs, hmem, hkeys⟩ := Dev.checkRecord_due n.isLt hseen hdue
      exact ⟨_, Runs.live hlive (fun _ => rfl) he, Dev.completeCheck_taken n.isLt hcalm hnone hregs hmem hkeys res ok c⟩
  · exact ⟨fun hheld => Runs.mxcfgWrite h (Dev.mxcfgWrite_unheld hheld), fun hheld => ⟨_, Runs.mxcfgWrite h rfl, Dev.mxcfgWrite_spec hheld⟩⟩
  · exact ⟨_, Runs.gpioWrite h rfl, Dev.gpioWrite_spec d m w (by cases oe <;> decide)⟩
  · exact ⟨fun hb => Runs.measure h (Dev.ageCmd_refused hb), fun hboot hidle => Runs.measure h (Dev.ageCmd_taken hboot hidle)⟩
  · exact Runs.ageMeasureDone_idle (h.imp_right Dev.ageDone_early)
  · obtain ⟨tbusy, truns, tevent, tmem, tkeys, tshift⟩ := Dev.ageDone_spec ns.toNat nr.toNat hbusy hdue
    exact ⟨_, Runs.live hlive (fun _ => rfl) rfl, tbusy, truns, tevent, tmem, tkeys,
      fun hnr => tshift fun h0 => hnr (BitVec.eq_of_toNat_eq h0)⟩

end Sys2Proof.Machine
end

section
/-!
PROOFS. Interrupt controllers (R477–R482): the registers of a source, an edge, the winner and its delivery, EOI, and a write of PRIO.
-/
namespace Sys2Proof.Machine

/-- PENDING of source `s` as a field of the controller's page. -/
def pendFld (s : Nat) : Fld := ⟨R.INTC.PENDING + 4 * (s / 32), s % 32, 1⟩

/-- ACTIVE of source `s` as a field of the controller's page. -/
def actFld (s : Nat) : Fld := ⟨R.INTC.ACTIVE + 4 * (s / 32), s % 32, 1⟩

/-- PRIO of source `s` as a field of the controller's page. -/
def prioFld (s : Nat) : Fld := ⟨R.INTC.PRIO + 4 * (s / 8), 4 * (s % 8), 4⟩

/-- LOST of source `s` as a field of the controller's page. -/
def lostFld (s : Nat) : Fld := ⟨R.INTC.LOST + 4 * (s / 4), 8 * (s % 4), 8⟩

section
variable {s : Nat}

-- Checked in its turn, so that the proofs above are complete before the ones below begin.
set_option Elab.async false in
theorem pendFld_fits : (pendFld s).lo + (pendFld s).w ≤ 32 ∧ 0 < (pendFld s).w := by
  simp only [pendFld]
  omega

theorem actFld_fits : (actFld s).lo + (actFld s).w ≤ 32 ∧ 0 < (actFld s).w := by
  simp only [actFld]
  omega

theorem prioFld_fits : (prioFld s).lo + (prioFld s).w ≤ 32 := by
  simp only [prioFld]
  omega

theorem lostFld_fits : (lostFld s).lo + (lostFld s).w ≤ 32 := by
  simp only [lostFld]
  omega

theorem pendFld_apart {s' : Nat} (h : s' ≠ s) : FieldsApart (pendFld s') (pendFld s) := by
  simp only [FieldsApart, pendFld]
  omega

theorem prioFld_apart {s' : Nat} (h : s' ≠ s) : FieldsApart (prioFld s') (prioFld s) := by
  simp only [FieldsApart, prioFld]
  omega

theorem pendFld_ofs (h : s < 256) : 0x180 ≤ (pendFld s).ofs ∧ (pendFld s).ofs < 0x1A0 := by
  simp only [pendFld, R.INTC.PENDING]
  omega

theorem actFld_ofs (h : s < 256) : 0x1A0 ≤ (actFld s).ofs ∧ (actFld s).ofs < 0x1C0 := by
  simp only [actFld, R.INTC.ACTIVE]
  omega

theorem prioFld_ofs (h : s < 256) : 0x100 ≤ (prioFld s).ofs ∧ (prioFld s).ofs < 0x180 := by
  simp only [prioFld, R.INTC.PRIO]
  omega

theorem lostFld_ofs (h : s < 256) : 0x200 ≤ (lostFld s).ofs ∧ (lostFld s).ofs < 0x300 := by
  simp only [lostFld, R.INTC.LOST]
  omega

end

namespace Dev

/-! ## The registers of a source -/

section
variable (d : Dev) (i : Nat) {s : Nat}

theorem intPending_eq (s : Nat) : d.intPending i s = d.flag (pg .intc i) (pendFld s) := rfl

theorem intActive_eq (s : Nat) : d.intActive i s = d.flag (pg .intc i) (actFld s) := rfl

theorem prio_eq (s : Nat) : d.prio i s = d.fld (pg .intc i) (prioFld s) := rfl

theorem intPending_setPend (s : Nat) (on : Bool) : (d.setPend i s on).intPending i s = on :=
  flag_setFlag_self d _ _ _ pendFld_fits.1 pendFld_fits.2

theorem intPending_setPend_other {s' : Nat} (h : s' ≠ s) (on : Bool) : (d.setPend i s on).intPending i s' = d.intPending i s' :=
  flag_setFlag_apart d _ (pendFld_apart h)

theorem intActive_setAct (s : Nat) (on : Bool) : (d.setAct i s on).intActive i s = on :=
  flag_setFlag_self d _ _ _ actFld_fits.1 actFld_fits.2

theorem reg_setPend {o : Nat} (hs : s < 256) (h : o < 0x180 ∨ 0x1A0 ≤ o) (on : Bool) :
    (d.setPend i s on).reg (pg .intc i) o = d.reg (pg .intc i) o := by
  have hofs := pendFld_ofs hs
  exact reg_setFlag_apart d on (show o ≠ (pendFld s).ofs by omega)

theorem reg_setAct {o : Nat} (hs : s < 256) (h : o < 0x1A0 ∨ 0x1C0 ≤ o) (on : Bool) :
    (d.setAct i s on).reg (pg .intc i) o = d.reg (pg .intc i) o := by
  have hofs := actFld_ofs hs
  exact reg_setFlag_apart d on (show o ≠ (actFld s).ofs by omega)

theorem reg_setStack {o : Nat} (h : o ≠ R.INTC.LEVEL) (l : List Nat) : (d.setStack i l).reg (pg .intc i) o = d.reg (pg .intc i) o := by
  unfold setStack
  exact reg_setReg_apart _ _ h

theorem level_setStack (s : Nat) (l : List Nat) :
    (d.setStack i (s :: l)).reg (pg .intc i) R.INTC.LEVEL = BitVec.ofNat 32 (d.prio i s + 16 * (l.length + 1) + 256 * s) := by
  unfold setStack
  rw [reg_setReg_self]
  rfl

variable {i}

theorem intStack_setStack (hi : i < 2) (l : List Nat) : (d.setStack i l).intStack i = l := by
  unfold setStack
  exact vget_vmod_self _ hi _ _

theorem intc_page_ne {q : Nat} (h : q ≠ pg .intc i) (l : List Nat) : (d.setStack i l).pageRegs q = d.pageRegs q :=
  pageRegs_setReg _ _ ⟨h, by decide⟩

end

/-! ## An edge (R478) -/

section
variable {d : Dev} {i s : Nat}

theorem intEdge_idle (hprio : d.prio i s ≠ 0) (hsource : intSource s = true) (h : ¬(d.intPending i s = true ∨ d.intActive i s = true)) :
    d.intEdge i s = d.setPend i s true := by
  have hgo : ¬(d.prio i s = 0 ∨ (!intSource s) = true) := by simp [hprio, hsource]
  have hfree : ¬((d.intPending i s || d.intActive i s) = true) := by simpa using h
  rw [intEdge, if_neg hgo, if_neg hfree]

/-- An edge of a source that is pending or active already is counted. -/
theorem intEdge_lost (hs : s < 256) (hprio : d.prio i s ≠ 0) (hsource : intSource s = true) (h : d.intPending i s = true ∨ d.intActive i s = true) :
    (d.intEdge i s).reg (pg .intc i) R.INTC.LOST_TOTAL = d.reg (pg .intc i) R.INTC.LOST_TOTAL + 1 ∧
      (d.intEdge i s).fld (pg .intc i) (lostFld s) = min 255 (d.fld (pg .intc i) (lostFld s) + 1) ∧
      (d.intEdge i s).intPending i s = d.intPending i s := by
  have hgo : ¬(d.prio i s = 0 ∨ (!intSource s) = true) := by simp [hprio, hsource]
  have hbusy : (d.intPending i s || d.intActive i s) = true := by simpa using h
  have hedge : d.intEdge i s = (d.bumpFldSat (pg .intc i) (lostFld s)).bump (pg .intc i) R.INTC.LOST_TOTAL := by
    rw [intEdge, if_neg hgo, if_pos hbusy]
    rfl
  have hlost := lostFld_ofs hs
  have hpend := pendFld_ofs hs
  have htotal : R.INTC.LOST_TOTAL = 0x304 := rfl
  rw [hedge]
  refine ⟨?_, ?_, ?_⟩
  · rw [reg_bump_self, reg_bumpFldSat_apart _ (by omega)]
    rfl
  · rw [fld_bump_apart _ (by omega)]
    exact fld_bumpFldSat d _ lostFld_fits
  · rw [intPending_eq, intPending_eq, flag_bump_apart _ (by omega)]
    exact flag_of_fld (fld_of_reg (reg_bumpFldSat_apart _ (by omega)))

theorem interruptEdge_none (h : d.intLine i s = false ∨ d.prio i s = 0 ∨ intSource s = false) : d.interruptEdge i s = d := by
  have hstay : d.prio i s = 0 ∨ (!intSource s) = true → (if d.intLine i s then d.intEdge i s else d) = d := fun hno => by
    rw [intEdge, if_pos hno, ite_self]
  rw [interruptEdge]
  rcases h with h | h | h
  · rw [if_neg (by rw [h]; decide)]
  · exact hstay (.inl h)
  · exact hstay (.inr (by rw [h]; rfl))

theorem interruptEdge_high (h : d.intLine i s = true) : d.interruptEdge i s = d.intEdge i s := if_pos h

end

/-! ## The winner (R479) -/

/-- The better of the best source so far and another one. -/
def winnerStep (f : Nat → Nat) (best : Option Nat) (s : Nat) : Option Nat :=
  match best with
  | none => some s
  | some b => if f b < f s then some s else some b

/-- A source that wins over another one: of higher PRIO, or of the same and not of a higher number. -/
def WinsOver (f : Nat → Nat) (s s' : Nat) : Prop := f s' < f s ∨ f s' = f s ∧ s ≤ s'

theorem winsOver_refl (f : Nat → Nat) (s : Nat) : WinsOver f s s := .inr ⟨rfl, Nat.le_refl s⟩

theorem WinsOver.trans {f : Nat → Nat} {a b c : Nat} (h : WinsOver f a b) (h' : WinsOver f b c) : WinsOver f a c := by
  unfold WinsOver at *
  omega

/-- The step keeps one of the two, which wins over both. -/
theorem winnerStep_spec (f : Nat → Nat) (best : Option Nat) (x : Nat) (h : ∀ b, best = some b → b < x) :
    ∃ w, winnerStep f best x = some w ∧ (w = x ∨ best = some w) ∧ WinsOver f w x ∧ ∀ b, best = some b → WinsOver f w b := by
  cases best with
  | none => exact ⟨x, rfl, .inl rfl, winsOver_refl f x, fun b hb => nomatch hb⟩
  | some b =>
    have hbx := h b rfl
    by_cases hlt : f b < f x
    · refine ⟨x, if_pos hlt, .inl rfl, winsOver_refl f x, fun c hc => ?_⟩
      obtain rfl := Option.some.inj hc
      exact .inl hlt
    · refine ⟨b, if_neg hlt, .inr rfl, ?_, fun c hc => ?_⟩
      · unfold WinsOver
        omega
      · obtain rfl := Option.some.inj hc
        exact winsOver_refl f b

/-- The winner of a list in ascending order is one of the list's and wins over all of them. -/
theorem foldl_winnerStep (f : Nat → Nat) (l : List Nat) (hl : l.Pairwise (· < ·)) (best : Option Nat)
    (hbest : ∀ b, best = some b → ∀ y ∈ l, b < y) {s : Nat} (h : l.foldl (winnerStep f) best = some s) :
    (best = some s ∨ s ∈ l) ∧ ∀ y, best = some y ∨ y ∈ l → WinsOver f s y := by
  induction l generalizing best with
  | nil =>
    refine ⟨.inl h, fun y hy => ?_⟩
    obtain rfl := Option.some.inj (h.symm.trans (hy.resolve_right List.not_mem_nil))
    exact winsOver_refl f s
  | cons x l ih =>
    obtain ⟨hx, hl⟩ := List.pairwise_cons.mp hl
    obtain ⟨w, hw, hfrom, hwx, hwb⟩ := winnerStep_spec f best x fun b hb => hbest b hb x List.mem_cons_self
    rw [List.foldl_cons, hw] at h
    have hnext : ∀ b, some w = some b → ∀ y ∈ l, b < y := by
      intro b hb y hy
      obtain rfl := Option.some.inj hb
      rcases hfrom with rfl | hfrom
      · exact hx y hy
      · exact hbest w hfrom y (List.mem_cons_of_mem x hy)
    obtain ⟨hs, hall⟩ := ih hl (some w) hnext h
    have hsw := hall w (.inl rfl)
    refine ⟨?_, fun y hy => ?_⟩
    · rcases hs with hs | hs
      · obtain rfl := Option.some.inj hs
        rcases hfrom with rfl | hfrom
        · exact .inr List.mem_cons_self
        · exact .inl hfrom
      · exact .inr (List.mem_cons_of_mem x hs)
    · rcases hy with hy | hy
      · exact hsw.trans (hwb y hy)
      · rcases List.mem_cons.mp hy with rfl | hy
        · exact hsw.trans hwx
        · exact hall y (.inr hy)

/-- The pending sources of one register, in ascending order. -/
def pendingWord (d : Dev) (i w : Nat) : List Nat :=
  let v := (d.reg (pg .intc i) (R.INTC.PENDING + 4 * w)).toNat
  if v = 0 then [] else (numbers 32 (bitAt v)).map fun b => 32 * w + b

/-- The pending sources, in ascending order. -/
def pendingList (d : Dev) (i : Nat) : List Nat := (List.range 8).flatMap (d.pendingWord i)

theorem intWinner_eq (d : Dev) (i : Nat) : d.intWinner i = (d.pendingList i).foldl (winnerStep (d.prio i)) none := rfl

theorem mem_pendingWord {d : Dev} {i w s : Nat} :
    s ∈ d.pendingWord i w ↔ s / 32 = w ∧ bitAt (d.reg (pg .intc i) (R.INTC.PENDING + 4 * w)).toNat (s % 32) = true := by
  have hword : s ∈ d.pendingWord i w ↔ s ∈ (numbers 32 (bitAt (d.reg (pg .intc i) (R.INTC.PENDING + 4 * w)).toNat)).map fun b => 32 * w + b := by
    rw [pendingWord]
    split
    case isTrue h => simp [h, numbers, bitAt_eq_testBit]
    case isFalse => rfl
  rw [hword]
  simp only [numbers, List.mem_map, List.mem_filter, List.mem_range]
  constructor
  · rintro ⟨b, ⟨hb, hbit⟩, rfl⟩
    rw [show (32 * w + b) % 32 = b by omega]
    exact ⟨by omega, hbit⟩
  · rintro ⟨rfl, hbit⟩
    exact ⟨s % 32, ⟨by omega, hbit⟩, by omega⟩

theorem mem_pendingList {d : Dev} {i s : Nat} : s ∈ d.pendingList i ↔ s < 256 ∧ d.intPending i s = true := by
  rw [pendingList, List.mem_flatMap, intPending_eq, flag, fld, pendFld, ← bitAt_eq_bitsOf]
  simp only [mem_pendingWord, List.mem_range]
  constructor
  · rintro ⟨w, hw, rfl, hbit⟩
    exact ⟨by omega, hbit⟩
  · rintro ⟨hs, hbit⟩
    exact ⟨s / 32, by omega, rfl, hbit⟩

theorem pairwise_pendingList (d : Dev) (i : Nat) : (d.pendingList i).Pairwise (· < ·) := by
  rw [pendingList, List.pairwise_flatMap]
  constructor
  · intro w _
    rw [pendingWord]
    split
    · exact .nil
    · refine (List.pairwise_lt_range.filter _).map _ fun a b hab => ?_
      omega
  · refine List.pairwise_lt_range.imp fun {w w'} hlt x hx y hy => ?_
    have hx := (mem_pendingWord.mp hx).1
    have hy := (mem_pendingWord.mp hy).1
    omega

/-- The source that is ready: pending, over LEVEL and THRESH, and the winner. -/
theorem intReady_spec {d : Dev} {i s : Nat} (h : d.intReady i = some s) : s < 256 ∧ d.intPending i s = true ∧
    d.fld (pg .intc i) F.INTC.LEVEL_LEVEL < d.prio i s ∧ d.fld (pg .intc i) F.INTC.THRESH_THRESH < d.prio i s ∧
    ∀ s' < 256, d.intPending i s' = true → d.prio i s' < d.prio i s ∨ d.prio i s' = d.prio i s ∧ s ≤ s' := by
  obtain ⟨hwin, hpass⟩ := Option.filter_eq_some_iff.mp h
  rw [intWinner_eq] at hwin
  obtain ⟨hmem, hall⟩ := foldl_winnerStep _ _ (d.pairwise_pendingList i) none (fun b hb => nomatch hb) hwin
  obtain ⟨hs, hpend⟩ := mem_pendingList.mp (hmem.resolve_left fun hnone => nomatch hnone)
  obtain ⟨hlevel, hthresh⟩ := Bool.and_eq_true_iff.mp hpass
  exact ⟨hs, hpend, of_decide_eq_true hlevel, of_decide_eq_true hthresh, fun s' hs' hp => hall s' (.inr (mem_pendingList.mpr ⟨hs', hp⟩))⟩

/-! ## Delivery (R479) -/

/-- The source taken from PENDING to ACTIVE and onto the level stack. -/
def sourceTaken (d : Dev) (i s : Nat) : Dev := ((d.setPend i s false).setAct i s true).setStack i (s :: d.intStack i)

/-- The source delivered: its trap to its vector. -/
def delivered (d : Dev) (i s : Nat) : Dev :=
  let e := d.sourceTaken i s
  (e.bump (pg .intc i) R.INTC.DELIVERED).modCore i fun c =>
    { c.trap 0x8000000B#32 0 (e.reg (pg .intc i) (R.INTC.VECTOR + 4 * s)) with mintsrc := s }

section
variable {d : Dev} {i s : Nat}

theorem interruptDelivery_none (h : d.intReady i = none) : d.interruptDelivery i = d := by simp only [interruptDelivery, h]

/-- The pair may take an interrupt. -/
def TakesInterrupt (d : Dev) (i : Nat) : Prop :=
  d.pairRuns i = true ∧ ((d.coreS i).mach = false ∨ bitAt (d.coreS i).mstatus 3 = true) ∧ bitAt (d.coreS i).mie 11 = true

theorem interruptDelivery_untaken (h : d.intReady i = some s) (hno : ¬d.TakesInterrupt i) : d.interruptDelivery i = d := by
  simp only [interruptDelivery, h]
  exact if_neg fun hyes => hno (by simpa [TakesInterrupt] using hyes)

theorem interruptDelivery_taken (h : d.intReady i = some s) (hyes : d.TakesInterrupt i) : d.interruptDelivery i = d.delivered i s := by
  simp only [interruptDelivery, h]
  exact if_pos (by simpa [TakesInterrupt] using hyes)

/-- Away from PENDING, ACTIVE and LEVEL the page is as it was. -/
theorem reg_sourceTaken (hs : s < 256) {o : Nat} (h : o < 0x180 ∨ 0x1C8 ≤ o) :
    (d.sourceTaken i s).reg (pg .intc i) o = d.reg (pg .intc i) o := by
  have hlevel : R.INTC.LEVEL = 0x1C4 := rfl
  rw [sourceTaken, reg_setStack _ _ (by omega), reg_setAct _ _ hs (by omega), reg_setPend _ _ hs (by omega)]

theorem sourceTaken_spec (hi : i < 2) (hs : s < 256) : (d.sourceTaken i s).intPending i s = false ∧ (d.sourceTaken i s).intActive i s = true ∧
    (d.sourceTaken i s).intStack i = s :: d.intStack i ∧
    (d.sourceTaken i s).reg (pg .intc i) R.INTC.LEVEL = BitVec.ofNat 32 (d.prio i s + 16 * ((d.intStack i).length + 1) + 256 * s) := by
  have hpend := pendFld_ofs hs
  have hact := actFld_ofs hs
  have hprio := prioFld_ofs hs
  have hlevel : R.INTC.LEVEL = 0x1C4 := rfl
  rw [sourceTaken]
  refine ⟨?_, ?_, intStack_setStack _ hi _, ?_⟩
  · rw [intPending_eq, flag_of_fld (fld_of_reg (reg_setStack _ _ (by omega) _)), flag_of_fld (fld_of_reg (reg_setAct _ _ hs (by omega) _))]
    exact intPending_setPend d i s false
  · rw [intActive_eq, flag_of_fld (fld_of_reg (reg_setStack _ _ (by omega) _))]
    exact intActive_setAct _ i s true
  · rw [level_setStack, prio_eq, prio_eq, fld_of_reg (reg_setAct _ _ hs (by omega) _), fld_of_reg (reg_setPend _ _ hs (by omega) _)]

theorem coreS_sourceTaken : (d.sourceTaken i s).coreS i = d.coreS i := rfl

theorem delivered_stores : (d.delivered i s).mem = d.mem ∧ (d.delivered i s).keys = d.keys := by simp [delivered, sourceTaken]

/-- What a delivery leaves in the controller and the pair. -/
theorem delivered_spec (hi : i < 2) (hs : s < 256) : let t := d.delivered i s
    t.intPending i s = false ∧ t.intActive i s = true ∧ t.intStack i = s :: d.intStack i ∧
      t.reg (pg .intc i) R.INTC.LEVEL = BitVec.ofNat 32 (d.prio i s + 16 * ((d.intStack i).length + 1) + 256 * s) ∧
      t.reg (pg .intc i) R.INTC.DELIVERED = d.reg (pg .intc i) R.INTC.DELIVERED + 1 ∧
      (t.coreS i).pc = d.reg (pg .intc i) (R.INTC.VECTOR + 4 * s) ∧ (t.coreS i).mepc = (d.coreS i).pc.toNat ∧
      (t.coreS i).mcause = 0x8000000B#32 ∧ (t.coreS i).mintsrc = s ∧ (t.coreS i).mach = true ∧ bitAt (t.coreS i).mstatus 3 = false ∧
      t.mem = d.mem ∧ t.keys = d.keys := by
  intro t
  obtain ⟨tpend, tact, tstack, tlevel⟩ := sourceTaken_spec (d := d) hi hs
  have hpend := pendFld_ofs hs
  have hact := actFld_ofs hs
  have hbump : ∀ o, o ≠ R.INTC.DELIVERED → t.reg (pg .intc i) o = (d.sourceTaken i s).reg (pg .intc i) o := fun o ho =>
    reg_bump_apart (d.sourceTaken i s) ho
  have hcore : t.coreS i = { (d.coreS i).trap 0x8000000B#32 0 ((d.sourceTaken i s).reg (pg .intc i) (R.INTC.VECTOR + 4 * s)) with mintsrc := s } :=
    coreS_modCore_self _ hi _
  have hvector : (d.sourceTaken i s).reg (pg .intc i) (R.INTC.VECTOR + 4 * s) = d.reg (pg .intc i) (R.INTC.VECTOR + 4 * s) :=
    reg_sourceTaken hs (by simp only [R.INTC.VECTOR]; omega)
  rw [hvector] at hcore
  refine ⟨?_, ?_, tstack, (hbump _ (by decide)).trans tlevel, ?_, ?_, ?_, ?_, ?_, ?_, ?_, delivered_stores.1, delivered_stores.2⟩
  · exact (flag_of_fld (fld_of_reg (hbump _ (show (pendFld s).ofs ≠ 0x300 by omega)))).trans tpend
  · exact (flag_of_fld (fld_of_reg (hbump _ (show (actFld s).ofs ≠ 0x300 by omega)))).trans tact
  · exact (reg_bump_self (d.sourceTaken i s) _ _ _).trans (by rw [reg_sourceTaken hs (by decide)]; rfl)
  · rw [hcore]
    rfl
  · rw [hcore]
    rfl
  · rw [hcore]
    rfl
  · rw [hcore]
  · rw [hcore]
    rfl
  · rw [hcore]
    exact (status_trap (d.coreS i) 0x8000000B#32 0 (d.reg (pg .intc i) (R.INTC.VECTOR + 4 * s))).1

end

/-! ## Request lines -/

/-- Two words whose bits are also another word's: what the mask leaves of the first, it leaves of the second. -/
theorem and_ne_zero_of_bits {a b : Word} (m : Word) (h : ∀ k, bitAt a.toNat k = true → bitAt b.toNat k = true) (hne : (a &&& m != 0) = true) :
    (b &&& m != 0) = true := by
  refine bne_iff_ne.mpr fun hzero => bne_iff_ne.mp hne (BitVec.eq_of_getLsbD_eq fun k _ => ?_)
  have hk := congrArg (BitVec.getLsbD · k) hzero
  have hab := h k
  rw [bitAt_eq_testBit, bitAt_eq_testBit, BitVec.testBit_toNat, BitVec.testBit_toNat] at hab
  simp only [BitVec.getLsbD_and, BitVec.ofNat_eq_ofNat, BitVec.getLsbD_zero] at hk ⊢
  cases ha : a.getLsbD k
  · rfl
  · rw [hab ha] at hk
    exact hk

/-- What the request lines are made of stands, and EVENT only gains bits. -/
structure LinesStand (d e : Dev) : Prop where
  mask : ∀ p, e.reg p R.HDR.EVENT_MASK = d.reg p R.HDR.EVENT_MASK
  route : ∀ p, e.reg p R.HDR.INT_ROUTE = d.reg p R.HDR.INT_ROUTE
  event : ∀ p k, bitAt (d.reg p R.HDR.EVENT).toNat k = true → bitAt (e.reg p R.HDR.EVENT).toNat k = true
  box : ∀ n i, e.mbLine n i = d.mbLine n i

section
variable {d e : Dev} {i s : Nat}

theorem intLine_box {n : Nat} (hs : s < 0xE0) (hp : pageOf s = some ⟨.mbox, n⟩) : d.intLine i s = d.mbLine n i := by
  rw [intLine, if_pos hs, hp]

theorem intLine_page {q : Page} (hs : s < 0xE0) (hp : pageOf s = some q) (hk : q.kind ≠ .mbox) :
    d.intLine i s = (bitAt (d.reg s R.HDR.INT_ROUTE).toNat i && (d.reg s R.HDR.EVENT &&& d.reg s R.HDR.EVENT_MASK != 0)) := by
  rw [intLine, if_pos hs, hp]
  split
  case h_1 heq => exact absurd (congrArg Page.kind (Option.some.inj heq)) hk
  case h_2 => rfl
  case h_3 heq => cases heq

theorem intLine_none (h : ¬ s < 0xE0 ∨ pageOf s = none) : d.intLine i s = false := by
  have hnone : (if s < 0xE0 then pageOf s else none) = none := by
    rcases h with h | h
    · exact if_neg h
    · rw [h, ite_self]
  rw [intLine, hnone]

theorem LinesStand.line (h : LinesStand d e) (hline : d.intLine i s = true) : e.intLine i s = true := by
  by_cases hs : s < 0xE0
  · cases hp : pageOf s with
    | none =>
      rw [intLine_none (.inr hp)] at hline
      exact Bool.noConfusion hline
    | some q =>
      obtain ⟨k, n⟩ := q
      by_cases hk : k = .mbox
      · subst hk
        rw [intLine_box hs hp] at hline ⊢
        rw [h.box, hline]
      · rw [intLine_page hs hp hk] at hline ⊢
        obtain ⟨hroute, hevent⟩ := Bool.and_eq_true_iff.mp hline
        rw [h.route, h.mask, hroute, and_ne_zero_of_bits _ (h.event s) hevent, Bool.and_self]
  · rw [intLine_none (.inl hs)] at hline
    exact Bool.noConfusion hline

theorem intc_ne_mbox (hi : i < 2) (n : Nat) : pg .mbox n ≠ pg .intc i := by
  simp only [pg, PageKind.first]
  omega

/-- A change of a controller's own page beyond the header, but for bits that EVENT gains. -/
theorem linesStand_intc (hi : i < 2) (hother : ∀ q, q ≠ pg .intc i → e.pageRegs q = d.pageRegs q)
    (hown : ∀ o, o < 0x100 → o ≠ R.HDR.EVENT → e.reg (pg .intc i) o = d.reg (pg .intc i) o)
    (hevent : ∀ k, bitAt (d.reg (pg .intc i) R.HDR.EVENT).toNat k = true → bitAt (e.reg (pg .intc i) R.HDR.EVENT).toNat k = true) :
    LinesStand d e := by
  have hreg : ∀ p o, o < 0x100 → o ≠ R.HDR.EVENT → e.reg p o = d.reg p o := fun p o ho hne => by
    by_cases hp : p = pg .intc i
    · rw [hp]
      exact hown o ho hne
    · exact reg_of_pageRegs (hother p hp) (by omega)
  refine ⟨fun p => hreg p _ (by decide) (by decide), fun p => hreg p _ (by decide) (by decide), fun p k hk => ?_, fun n j => ?_⟩
  · by_cases hp : p = pg .intc i
    · subst hp
      exact hevent k hk
    · rw [reg_of_pageRegs (hother p hp) (by decide)]
      exact hk
  · have hbox := hother _ (intc_ne_mbox hi n)
    simp only [mbLine, mbHolder, fld_of_pageRegs hbox (show F.MBOX.STATE_HOLDER.ofs < 0x1000 by decide),
      fld_of_pageRegs hbox (show F.MBOX.STATE_LAST_HOLDER.ofs < 0x1000 by decide), reg_of_pageRegs hbox (show R.HDR.EVENT_MASK < 0x1000 by decide),
      reg_of_pageRegs hbox (show R.HDR.EVENT < 0x1000 by decide), reg_of_pageRegs hbox (show R.HDR.INT_ROUTE < 0x1000 by decide)]

/-! ## EOI (R480) -/

/-- A source that is ACTIVE no longer, with the rest of the level stack. -/
def sourceEnded (d : Dev) (i s : Nat) (l : List Nat) : Dev := (d.setStack i l).setAct i s false

theorem intComplete_eq (d : Dev) (i s : Nat) (l : List Nat) : (d.setStack i l).intComplete i s =
    if (d.sourceEnded i s l).intLine i s ∧ (d.sourceEnded i s l).prio i s ≠ 0 then (d.sourceEnded i s l).setPend i s true
    else d.sourceEnded i s l := rfl

theorem eoi_inactive (h : d.intActive i s = false) : d.eoi i s = d.event (pg .intc i) F.INTC.EVENT_EOI_BAD := by
  rw [eoi, if_neg (by rw [h]; decide)]

theorem eoi_newest (h : d.intActive i s = true) (hhead : (d.intStack i).head? = some s) :
    d.eoi i s = (d.setStack i (d.intStack i).tail).intComplete i s := by
  rw [eoi, if_pos h, if_pos hhead]

theorem eoi_older (h : d.intActive i s = true) (hhead : (d.intStack i).head? ≠ some s) :
    d.eoi i s = ((d.setStack i ((d.intStack i).filter fun x => x != s)).raise .intc i B.INTC.INTC_ORDER s).intComplete i s := by
  rw [eoi, if_pos h, if_neg hhead]

theorem reg_sourceEnded (hs : s < 256) {o : Nat} (h : o < 0x1A0) (l : List Nat) :
    (d.sourceEnded i s l).reg (pg .intc i) o = d.reg (pg .intc i) o := by
  have hlevel : R.INTC.LEVEL = 0x1C4 := rfl
  rw [sourceEnded, reg_setAct _ _ hs (.inl h), reg_setStack _ _ (by omega)]

theorem linesStand_sourceEnded (hi : i < 2) (hs : s < 256) (l : List Nat) : LinesStand d (d.sourceEnded i s l) := by
  have hact := actFld_ofs hs
  refine linesStand_intc hi (fun q hq => ?_) (fun o ho _ => reg_sourceEnded hs (by omega) l) fun k hk => ?_
  · exact (pageRegs_setFlag _ _ ⟨hq, show (actFld s).ofs < 0x1000 by omega⟩).trans (intc_page_ne d hq l)
  · rw [reg_sourceEnded hs (by decide)]
    exact hk

/-- The newest source has ended: it is no longer ACTIVE, the stack has lost it, and it is pending again where its line is high. -/
def Ended (i s : Nat) (l : List Nat) (d t : Dev) : Prop :=
  t.intActive i s = false ∧ t.intStack i = l ∧ (d.intLine i s = true → d.prio i s ≠ 0 → t.intPending i s = true) ∧
    (d.prio i s = 0 → t.intPending i s = d.intPending i s) ∧ t.mem = d.mem ∧ t.keys = d.keys

theorem Ended.done {l : List Nat} {t : Dev} (h : Ended i s l d t) : Ended i s l d t.done := h

theorem ended_intComplete (hi : i < 2) (hs : s < 256) (l : List Nat) : Ended i s l d ((d.setStack i l).intComplete i s) := by
  set t := (d.setStack i l).intComplete i s with hdef
  have hact := actFld_ofs hs
  have hpend := pendFld_ofs hs
  have hprio := prioFld_ofs hs
  have hkept : (d.sourceEnded i s l).prio i s = d.prio i s := fld_of_reg (reg_sourceEnded hs (show (prioFld s).ofs < 0x1A0 by omega) l)
  have hended : (d.sourceEnded i s l).intActive i s = false := intActive_setAct _ i s false
  have hstack : (d.sourceEnded i s l).intStack i = l := intStack_setStack d hi l
  have ht : t = if (d.sourceEnded i s l).intLine i s ∧ d.prio i s ≠ 0 then (d.sourceEnded i s l).setPend i s true
      else d.sourceEnded i s l := by rw [← hkept]; exact intComplete_eq d i s l
  refine ⟨?_, ?_, fun hline hp => ?_, fun hp => ?_, by simp [hdef], by simp [hdef]⟩
  · rw [ht]
    split
    · rw [intActive_eq, flag_of_fld (fld_of_reg (reg_setPend _ _ hs (show (actFld s).ofs < 0x180 ∨ 0x1A0 ≤ (actFld s).ofs by omega) _))]
      exact hended
    · exact hended
  · rw [ht]
    split
    · exact hstack
    · exact hstack
  · rw [ht, if_pos ⟨(linesStand_sourceEnded hi hs l).line hline, hp⟩]
    exact intPending_setPend _ i s true
  · rw [ht, if_neg fun h => h.2 hp]
    exact flag_of_fld (fld_of_reg (reg_sourceEnded hs (show (pendFld s).ofs < 0x1A0 by omega) l))

end

/-! ## A write of PRIO (R482) -/

/-- One source's field of a written word of PRIO. -/
def prioStep (i w : Nat) (v : Word) (d : Dev) (j : Nat) : Dev :=
  if bitsOf v.toNat (4 * j) 4 ≠ 0 ∧ d.reg (pg .intc i) (R.INTC.VECTOR + 4 * (8 * w + j)) = 0 then d.event (pg .intc i) F.INTC.EVENT_RANGE
  else
    let e := d.setFld (pg .intc i) ⟨R.INTC.PRIO + 4 * w, 4 * j, 4⟩ (bitsOf v.toNat (4 * j) 4)
    if bitsOf v.toNat (4 * j) 4 ≠ 0 ∧ e.intLine i (8 * w + j) ∧ !e.intActive i (8 * w + j) then e.setPend i (8 * w + j) true else e

/-- The fields of the word, taken. -/
def prioTaken (d : Dev) (i w : Nat) (v : Word) : Dev := d.each (List.range 8) (prioStep i w v)

theorem prioWrite_eq (d : Dev) (i w : Nat) (v : Word) :
    d.prioWrite i w v = (d.prioTaken i w v).setStack i ((d.prioTaken i w v).intStack i) := rfl

/-- What a part of a write of PRIO leaves as it is: other pages, the controller's registers but EVENT, PRIO and PENDING, which gain bits only, and
what is not a register. -/
structure PrioKeeps (i : Nat) (d e : Dev) : Prop where
  other : ∀ q, q ≠ pg .intc i → e.pageRegs q = d.pageRegs q
  own : ∀ o, o ≠ R.HDR.EVENT → o < 0x100 ∨ 0x1A0 ≤ o → e.reg (pg .intc i) o = d.reg (pg .intc i) o
  event : ∀ k, bitAt (d.reg (pg .intc i) R.HDR.EVENT).toNat k = true → bitAt (e.reg (pg .intc i) R.HDR.EVENT).toNat k = true
  pend : ∀ s, d.intPending i s = true → e.intPending i s = true
  comp : e.comp = d.comp

section
variable {d e : Dev} {i w j : Nat} {v : Word}

theorem PrioKeeps.refl (i : Nat) (d : Dev) : PrioKeeps i d d := ⟨fun _ _ => rfl, fun _ _ _ => rfl, fun _ => id, fun _ => id, rfl⟩

theorem PrioKeeps.trans {f : Dev} (h : PrioKeeps i d e) (h' : PrioKeeps i e f) : PrioKeeps i d f :=
  ⟨fun q hq => (h'.other q hq).trans (h.other q hq), fun o hne ho => (h'.own o hne ho).trans (h.own o hne ho),
    fun k hk => h'.event k (h.event k hk), fun s hs => h'.pend s (h.pend s hs), h'.comp.trans h.comp⟩

theorem PrioKeeps.linesStand (hi : i < 2) (h : PrioKeeps i d e) : LinesStand d e :=
  linesStand_intc hi h.other (fun o ho hne => h.own o hne (.inl ho)) h.event

theorem bitAt_event (d : Dev) (p : Nat) (lo : Nat) {k : Nat} (hk : bitAt (d.reg p R.HDR.EVENT).toNat k = true) :
    bitAt ((d.event p ⟨R.HDR.EVENT, lo, 1⟩).reg p R.HDR.EVENT).toNat k = true := by
  have hlt : k < 32 := by
    by_contra hge
    rw [bitAt_eq_testBit, Nat.testBit_lt_two_pow (Nat.lt_of_lt_of_le (d.reg p R.HDR.EVENT).isLt (Nat.pow_le_pow_right (by decide) (by omega)))] at hk
    exact Bool.noConfusion hk
  have hreg : (d.event p ⟨R.HDR.EVENT, lo, 1⟩).reg p R.HDR.EVENT = BitVec.ofNat 32 (setBits (d.reg p R.HDR.EVENT).toNat lo 1 1) := by
    rw [event, setFld, reg_setReg_self]
  rw [hreg, bitAt_ofNat _ hlt]
  by_cases hkl : k = lo
  · rw [hkl, bitAt_setBits_self]
    rfl
  · rw [bitAt_setBits_other _ _ _ _ (show k < lo ∨ lo + 1 ≤ k by omega)]
    exact hk

theorem prioKeeps_range (i : Nat) (d : Dev) : PrioKeeps i d (d.event (pg .intc i) F.INTC.EVENT_RANGE) where
  other q hq := pageRegs_event d ⟨hq, by decide⟩
  own o hne _ := reg_event_apart d hne
  event _ hk := bitAt_event d _ _ hk
  pend s hs := by
    rw [intPending_eq, flag_event_apart d (.inl (show (pendFld s).ofs ≠ R.HDR.EVENT by simp only [pendFld, R.INTC.PENDING, R.HDR.EVENT]; omega))]
    exact hs
  comp := by simp

theorem prioKeeps_prio (hw : w < 32) (n : Nat) (d : Dev) : PrioKeeps i d (d.setFld (pg .intc i) ⟨R.INTC.PRIO + 4 * w, 4 * j, 4⟩ n) where
  other q hq := pageRegs_setFld d _ ⟨hq, show R.INTC.PRIO + 4 * w < 0x1000 by simp only [R.INTC.PRIO]; omega⟩
  own o _ ho := reg_setFld_apart d _ (show o ≠ R.INTC.PRIO + 4 * w by simp only [R.INTC.PRIO]; omega)
  event k hk := by
    rw [reg_setFld_apart d _ (show R.HDR.EVENT ≠ R.INTC.PRIO + 4 * w by simp only [R.INTC.PRIO, R.HDR.EVENT]; omega)]
    exact hk
  pend s hs := by
    rw [intPending_eq, flag_setFld_apart d _ (.inl (show (pendFld s).ofs ≠ R.INTC.PRIO + 4 * w by
      simp only [pendFld, R.INTC.PENDING, R.INTC.PRIO]; omega))]
    exact hs
  comp := by simp

theorem prioKeeps_pend {s : Nat} (hs : s < 256) (d : Dev) : PrioKeeps i d (d.setPend i s true) where
  other q hq := by
    have hofs := pendFld_ofs hs
    exact pageRegs_setFlag d _ ⟨hq, show (pendFld s).ofs < 0x1000 by omega⟩
  own o _ ho := reg_setPend d i hs (by omega) true
  event k hk := by
    rw [reg_setPend d i hs (.inl (by decide))]
    exact hk
  pend s' hs' := by
    by_cases hne : s' = s
    · rw [hne]
      exact intPending_setPend d i s true
    · rw [intPending_setPend_other d i hne]
      exact hs'
  comp := rfl

theorem prioStep_range (h : bitsOf v.toNat (4 * j) 4 ≠ 0) (hvec : d.reg (pg .intc i) (R.INTC.VECTOR + 4 * (8 * w + j)) = 0) :
    prioStep i w v d j = d.event (pg .intc i) F.INTC.EVENT_RANGE := if_pos ⟨h, hvec⟩

/-- A field that is taken, and the source perhaps pending with it. -/
theorem prioStep_taken (h : bitsOf v.toNat (4 * j) 4 = 0 ∨ d.reg (pg .intc i) (R.INTC.VECTOR + 4 * (8 * w + j)) ≠ 0) :
    let e := d.setFld (pg .intc i) ⟨R.INTC.PRIO + 4 * w, 4 * j, 4⟩ (bitsOf v.toNat (4 * j) 4)
    prioStep i w v d j =
      if bitsOf v.toNat (4 * j) 4 ≠ 0 ∧ e.intLine i (8 * w + j) ∧ !e.intActive i (8 * w + j) then e.setPend i (8 * w + j) true else e :=
  if_neg fun hno => h.elim hno.1 fun hvec => hvec hno.2

theorem prioKeeps_step (hw : w < 32) (hj : j < 8) (v : Word) (d : Dev) : PrioKeeps i d (prioStep i w v d j) := by
  by_cases h : bitsOf v.toNat (4 * j) 4 ≠ 0 ∧ d.reg (pg .intc i) (R.INTC.VECTOR + 4 * (8 * w + j)) = 0
  · rw [prioStep_range h.1 h.2]
    exact prioKeeps_range i d
  · rw [prioStep_taken ((Decidable.not_and_iff_or_not.mp h).imp_left Decidable.not_not.mp)]
    split
    · exact (prioKeeps_prio hw _ d).trans (prioKeeps_pend (by omega) _)
    · exact prioKeeps_prio hw _ d

theorem prioFld_eq (w : Nat) (hj : j < 8) : (⟨R.INTC.PRIO + 4 * w, 4 * j, 4⟩ : Fld) = prioFld (8 * w + j) := by
  have hdiv : (8 * w + j) / 8 = w := by omega
  have hmod : (8 * w + j) % 8 = j := by omega
  rw [prioFld, hdiv, hmod]

theorem prio_event (i : Nat) (d : Dev) (q : Nat) : (d.event (pg .intc i) F.INTC.EVENT_RANGE).prio i q = d.prio i q :=
  fld_event_apart d (.inl (show (prioFld q).ofs ≠ R.HDR.EVENT by simp only [prioFld, R.INTC.PRIO, R.HDR.EVENT]; omega))

theorem prio_setPend {s q : Nat} (hs : s < 256) (hq : q < 256) (d : Dev) : (d.setPend i s true).prio i q = d.prio i q := by
  have hofs := prioFld_ofs hq
  exact fld_of_reg (reg_setPend d i hs (show (prioFld q).ofs < 0x180 ∨ 0x1A0 ≤ (prioFld q).ofs by omega) true)

/-- A field that is taken gives its source its PRIO, and no other source. -/
theorem prio_prioStep {q : Nat} (hw : w < 32) (hj : j < 8) (hq : q < 256)
    (h : bitsOf v.toNat (4 * j) 4 = 0 ∨ d.reg (pg .intc i) (R.INTC.VECTOR + 4 * (8 * w + j)) ≠ 0) :
    (prioStep i w v d j).prio i q = if q = 8 * w + j then bitsOf v.toNat (4 * j) 4 else d.prio i q := by
  have hfield : (d.setFld (pg .intc i) ⟨R.INTC.PRIO + 4 * w, 4 * j, 4⟩ (bitsOf v.toNat (4 * j) 4)).prio i q =
      if q = 8 * w + j then bitsOf v.toNat (4 * j) 4 else d.prio i q := by
    rw [prioFld_eq w hj, prio_eq]
    split
    case isTrue heq =>
      rw [heq, fld_setFld_self _ _ _ _ prioFld_fits]
      exact Nat.mod_mod _ _
    case isFalse hne => exact fld_setFld_apart d _ (prioFld_apart hne)
  rw [prioStep_taken h]
  split
  · exact (prio_setPend (by omega) hq _).trans hfield
  · exact hfield

theorem prio_prioStep_other {q : Nat} (hw : w < 32) (hj : j < 8) (hq : q < 256) (hne : q ≠ 8 * w + j) (v : Word) (d : Dev) :
    (prioStep i w v d j).prio i q = d.prio i q := by
  by_cases h : bitsOf v.toNat (4 * j) 4 ≠ 0 ∧ d.reg (pg .intc i) (R.INTC.VECTOR + 4 * (8 * w + j)) = 0
  · rw [prioStep_range h.1 h.2]
    exact prio_event i d q
  · rw [prio_prioStep hw hj hq ((Decidable.not_and_iff_or_not.mp h).imp_left Decidable.not_not.mp), if_neg hne]

/-- A source whose line is high and which is not active is pending once its field is taken. -/
theorem pend_prioStep (hi : i < 2) (hw : w < 32) (h : bitsOf v.toNat (4 * j) 4 ≠ 0)
    (hvec : d.reg (pg .intc i) (R.INTC.VECTOR + 4 * (8 * w + j)) ≠ 0) (hj : j < 8) (hline : d.intLine i (8 * w + j) = true)
    (hact : d.intActive i (8 * w + j) = false) : (prioStep i w v d j).intPending i (8 * w + j) = true := by
  have hkeep := prioKeeps_prio (i := i) (j := j) hw (bitsOf v.toNat (4 * j) 4) d
  have hofs := actFld_ofs (show 8 * w + j < 256 by omega)
  have hevent : R.HDR.EVENT < 0x100 := by decide
  have hstill := (fld_of_reg (hkeep.own (actFld (8 * w + j)).ofs (by omega) (.inr (by omega))))
  rw [prioStep_taken (.inr hvec), if_pos]
  · exact intPending_setPend _ i _ true
  · refine ⟨h, (hkeep.linesStand hi).line hline, ?_⟩
    rw [intActive_eq, flag_of_fld hstill, ← intActive_eq, hact]
    rfl

/-! ### The eight fields in their order -/

/-- A list gone through, cut at one of its members. -/
theorem each_split {α : Type} {l : List α} (hl : l.Nodup) {x : α} (hx : x ∈ l) (d : Dev) (f : Dev → α → Dev) :
    ∃ l₁ l₂ : List α, d.each l f = (f (d.each l₁ f) x).each l₂ f ∧ (∀ y ∈ l₁, y ∈ l ∧ y ≠ x) ∧ ∀ y ∈ l₂, y ∈ l ∧ y ≠ x := by
  obtain ⟨l₁, l₂, rfl⟩ := List.append_of_mem hx
  obtain ⟨-, hright, hapart⟩ := List.nodup_append.mp hl
  refine ⟨l₁, l₂, ?_, fun y hy => ⟨List.mem_append_left _ hy, hapart y hy x List.mem_cons_self⟩, fun y hy =>
    ⟨List.mem_append_right _ (List.mem_cons_of_mem x hy), fun hyx => (List.nodup_cons.mp hright).1 (hyx ▸ hy)⟩⟩
  rw [each, List.foldl_append]
  rfl

theorem prioKeeps_each (hw : w < 32) (l : List Nat) (hl : ∀ j ∈ l, j < 8) (v : Word) (d : Dev) : PrioKeeps i d (d.each l (prioStep i w v)) :=
  List.foldlRecOn (motive := PrioKeeps i d) l _ (PrioKeeps.refl i d) fun e he j hj => he.trans (prioKeeps_step hw (hl j hj) v e)

theorem prio_each {q : Nat} (hw : w < 32) (hq : q < 256) (l : List Nat) (hl : ∀ j ∈ l, j < 8 ∧ q ≠ 8 * w + j) (v : Word) (d : Dev) :
    (d.each l (prioStep i w v)).prio i q = d.prio i q :=
  each_keeps (prio · i q) d l _ fun e j hj => prio_prioStep_other hw (hl j hj).1 hq (hl j hj).2 v e

/-- EVENT.RANGE is a bit of EVENT, which the steps keep. -/
theorem PrioKeeps.range (h : PrioKeeps i d e) (hd : d.flag (pg .intc i) F.INTC.EVENT_RANGE = true) :
    e.flag (pg .intc i) F.INTC.EVENT_RANGE = true := by
  have hbit : ∀ x : Dev, x.flag (pg .intc i) F.INTC.EVENT_RANGE = bitAt (x.reg (pg .intc i) R.HDR.EVENT).toNat F.INTC.EVENT_RANGE.lo := fun x =>
    (bitAt_eq_bitsOf _ _).symm
  rw [hbit] at hd ⊢
  exact h.event _ hd

/-- A write of a word of PRIO, source by source. -/
theorem prioTaken_spec (hi : i < 2) (hw : w < 32) (hj : j < 8) (v : Word) (d : Dev) : let t := d.prioTaken i w v
    (bitsOf v.toNat (4 * j) 4 ≠ 0 → d.reg (pg .intc i) (R.INTC.VECTOR + 4 * (8 * w + j)) = 0 →
      t.prio i (8 * w + j) = d.prio i (8 * w + j) ∧ t.flag (pg .intc i) F.INTC.EVENT_RANGE = true) ∧
    (bitsOf v.toNat (4 * j) 4 = 0 ∨ d.reg (pg .intc i) (R.INTC.VECTOR + 4 * (8 * w + j)) ≠ 0 →
      t.prio i (8 * w + j) = bitsOf v.toNat (4 * j) 4) ∧
    (bitsOf v.toNat (4 * j) 4 ≠ 0 → d.reg (pg .intc i) (R.INTC.VECTOR + 4 * (8 * w + j)) ≠ 0 → d.intLine i (8 * w + j) = true →
      d.intActive i (8 * w + j) = false → t.intPending i (8 * w + j) = true) := by
  intro t
  have hq : 8 * w + j < 256 := by omega
  obtain ⟨l₁, l₂, ht, hl₁, hl₂⟩ := each_split (List.nodup_range (n := 8)) (List.mem_range.mpr hj) d (prioStep i w v)
  have hbefore := prioKeeps_each (i := i) hw l₁ (fun y hy => List.mem_range.mp (hl₁ y hy).1) v d
  have hafter := prioKeeps_each (i := i) hw l₂ (fun y hy => List.mem_range.mp (hl₂ y hy).1) v (prioStep i w v (d.each l₁ (prioStep i w v)) j)
  have hprio₁ := prio_each (i := i) hw hq l₁ (fun y hy => ⟨List.mem_range.mp (hl₁ y hy).1, by have := (hl₁ y hy).2; omega⟩) v d
  have hprio₂ := prio_each (i := i) hw hq l₂ (fun y hy => ⟨List.mem_range.mp (hl₂ y hy).1, by have := (hl₂ y hy).2; omega⟩) v
    (prioStep i w v (d.each l₁ (prioStep i w v)) j)
  have hvec : (d.each l₁ (prioStep i w v)).reg (pg .intc i) (R.INTC.VECTOR + 4 * (8 * w + j)) =
      d.reg (pg .intc i) (R.INTC.VECTOR + 4 * (8 * w + j)) :=
    hbefore.own _ (by simp only [R.INTC.VECTOR, R.HDR.EVENT]; omega) (.inr (by simp only [R.INTC.VECTOR]; omega))
  rw [← ht] at hafter hprio₂
  refine ⟨fun hv hzero => ?_, fun h => ?_, fun hv hnz hline hact => ?_⟩
  · rw [prioStep_range hv (hvec.trans hzero)] at hafter hprio₂
    exact ⟨hprio₂.trans ((prio_event i _ _).trans hprio₁), hafter.range (flag_event_self _ _ _ (by decide) (by decide))⟩
  · exact hprio₂.trans ((prio_prioStep hw hj hq (by rwa [hvec])).trans (if_pos rfl))
  · have hofs := actFld_ofs hq
    have hstill := flag_of_fld (fld_of_reg (hbefore.own (actFld (8 * w + j)).ofs (by simp only [R.HDR.EVENT]; omega) (.inr (by omega))))
    exact hafter.pend _ (pend_prioStep hi hw hv (by rwa [hvec]) hj ((hbefore.linesStand hi).line hline) (hstill.trans hact))

theorem prioWrite_spec (hi : i < 2) (hw : w < 32) (v : Word) (d : Dev) : let t := (d.prioWrite i w v).done
    t.mem = d.mem ∧ t.keys = d.keys ∧ t.intStack i = d.intStack i ∧ ∀ j < 8,
      (bitsOf v.toNat (4 * j) 4 ≠ 0 → d.reg (pg .intc i) (R.INTC.VECTOR + 4 * (8 * w + j)) = 0 →
        t.prio i (8 * w + j) = d.prio i (8 * w + j) ∧ t.flag (pg .intc i) F.INTC.EVENT_RANGE = true) ∧
      (bitsOf v.toNat (4 * j) 4 = 0 ∨ d.reg (pg .intc i) (R.INTC.VECTOR + 4 * (8 * w + j)) ≠ 0 →
        t.prio i (8 * w + j) = bitsOf v.toNat (4 * j) 4) ∧
      (bitsOf v.toNat (4 * j) 4 ≠ 0 → d.reg (pg .intc i) (R.INTC.VECTOR + 4 * (8 * w + j)) ≠ 0 → d.intLine i (8 * w + j) = true →
        d.intActive i (8 * w + j) = false → t.intPending i (8 * w + j) = true) := by
  intro t
  have hkeep := prioKeeps_each (i := i) hw (List.range 8) (fun j hj => List.mem_range.mp hj) v d
  have hreg : ∀ o, o ≠ R.INTC.LEVEL → t.reg (pg .intc i) o = (d.prioTaken i w v).reg (pg .intc i) o := fun o ho =>
    reg_setStack (d.prioTaken i w v) i ho _
  have hstack : t.intStack i = (d.prioTaken i w v).intStack i := intStack_setStack (d.prioTaken i w v) hi _
  refine ⟨(prioWrite_store d i w v).1, (prioWrite_store d i w v).2, hstack.trans ?_, fun j hj => ?_⟩
  · rw [intStack, intStack]
    exact congrArg (fun c : CompS => vget c.stack i []) hkeep.comp
  · have hq : 8 * w + j < 256 := by omega
    have hprio := prioFld_ofs hq
    have hpend := pendFld_ofs hq
    have tprio : t.prio i (8 * w + j) = (d.prioTaken i w v).prio i (8 * w + j) :=
      fld_of_reg (hreg _ (show (prioFld (8 * w + j)).ofs ≠ 0x1C4 by omega))
    have tpend : t.intPending i (8 * w + j) = (d.prioTaken i w v).intPending i (8 * w + j) :=
      flag_of_fld (fld_of_reg (hreg _ (show (pendFld (8 * w + j)).ofs ≠ 0x1C4 by omega)))
    have trange : t.flag (pg .intc i) F.INTC.EVENT_RANGE = (d.prioTaken i w v).flag (pg .intc i) F.INTC.EVENT_RANGE :=
      flag_of_fld (fld_of_reg (hreg _ (by decide)))
    rw [tprio, tpend, trange]
    exact prioTaken_spec hi hw hj v d

end

end Dev
end Sys2Proof.Machine
end

section
/-!
PROOFS. Mailboxes (R483–R486), and the statement of both.
-/
namespace Sys2Proof.Machine
namespace Dev

section
variable (d : Dev) (n : Nat)

/-- A mailbox set free: its state, its holder and its words; the rest of its page is as it was. -/
theorem mbFree_spec : (d.mbFree n).mbState n = 0 ∧ (d.mbFree n).mbHolder n = 0 ∧
    (∀ k < 16, (d.mbFree n).reg (pg .mbox n) (R.MBOX.MSG + 4 * k) = 0) ∧
    (d.mbFree n).fld (pg .mbox n) F.MBOX.STATE_LAST_HOLDER = d.fld (pg .mbox n) F.MBOX.STATE_LAST_HOLDER ∧
    ∀ o, o < R.MBOX.MSG ∨ R.MBOX.MSG + 64 ≤ o → o ≠ R.MBOX.STATE → (d.mbFree n).reg (pg .mbox n) o = d.reg (pg .mbox n) o := by
  have hstate : R.MBOX.STATE < R.MBOX.MSG := by decide
  refine ⟨?_, ?_, fun k hk => reg_each_words _ _ _ _ _ hk, ?_, fun o ho hne => ?_⟩
  · rw [mbState, fld_of_reg (reg_mbFree d n hstate), fld_setFld_apart _ _ (by decide), fld_setFld_self _ _ _ _ (by decide), Nat.zero_mod]
  · rw [mbHolder, fld_of_reg (reg_mbFree d n hstate), fld_setFld_self _ _ _ _ (by decide), Nat.zero_mod]
  · rw [fld_of_reg (reg_mbFree d n hstate), fld_setFld_apart _ _ (by decide), fld_setFld_apart _ _ (by decide)]
  · rw [mbFree, each_keeps (reg · (pg .mbox n) o) _ _ _ ?words, reg_setFld_apart _ _ hne, reg_setFld_apart _ _ hne]
    case words =>
      intro e k hk
      have := List.mem_range.mp hk
      exact reg_setReg_apart e _ (by omega)

theorem cls_lt (m : Master) : m.cls < 8 := by cases m <;> decide

/-! ## LOCK (R483) -/

/-- The lock obtained by a master. -/
def lockTaken (who : Nat) : Dev :=
  ((({ d with comp := { d.comp with lockAt := vmod d.comp.lockAt n (fun _ => d.now) } } : Dev).setFld (pg .mbox n) F.MBOX.STATE_STATE 1).setFld
    (pg .mbox n) F.MBOX.STATE_HOLDER who)

variable {d n} {who : Nat}

theorem mbLockRead_off (h : d.flag (pg .mbox n) F.HDR.CTRL_ENABLE = false) : d.mbLockRead n who = (d, 0xF) := by
  rw [mbLockRead, h]
  rfl

section
variable (hon : d.flag (pg .mbox n) F.HDR.CTRL_ENABLE = true)
include hon

theorem mbLockRead_free (h : d.mbState n = 0) : d.mbLockRead n who = (d.lockTaken n who, 0) := by
  rw [mbLockRead, hon]
  exact if_pos h

theorem mbLockRead_mine (h : d.mbState n ≠ 0) (hmine : d.mbHolder n = who) : d.mbLockRead n who = (d, 0) := by
  rw [mbLockRead, hon]
  exact (if_neg h).trans (if_pos hmine)

theorem mbLockRead_denied (h : d.mbState n ≠ 0) (hother : d.mbHolder n ≠ who) :
    d.mbLockRead n who = (d.bump (pg .mbox n) R.MBOX.DENIED, d.mbHolder n) := by
  rw [mbLockRead, hon]
  exact (if_neg h).trans (if_neg hother)

end

theorem lockTaken_spec (hwho : who < 8) : (d.lockTaken n who).mbState n = 1 ∧ (d.lockTaken n who).mbHolder n = who ∧
    (d.lockTaken n who).mem = d.mem ∧ (d.lockTaken n who).keys = d.keys := by
  refine ⟨?_, ?_, rfl, rfl⟩
  · rw [mbState, lockTaken, fld_setFld_apart _ _ (by decide), fld_setFld_self _ _ _ _ (by decide)]
    rfl
  · rw [mbHolder, lockTaken, fld_setFld_self _ _ _ _ (by decide)]
    exact Nat.mod_eq_of_lt hwho

theorem mbRelease_none (h : ¬(d.mbState n = 1 ∧ d.mbHolder n = who)) : d.mbRelease n who = none := if_neg h

theorem mbRelease_some (hs : d.mbState n = 1) (hmine : d.mbHolder n = who) :
    d.mbRelease n who = some ((d.setFld (pg .mbox n) F.MBOX.STATE_LAST_HOLDER who).mbFree n) := if_pos ⟨hs, hmine⟩

/-- What a release leaves: a free mailbox with its last holder and no words. -/
def BoxReleased (n last : Nat) (d t : Dev) : Prop :=
  t.mbState n = 0 ∧ t.mbHolder n = 0 ∧ t.fld (pg .mbox n) F.MBOX.STATE_LAST_HOLDER = last ∧
    (∀ k < 16, t.reg (pg .mbox n) (R.MBOX.MSG + 4 * k) = 0) ∧ t.mem = d.mem ∧ t.keys = d.keys

theorem BoxReleased.done {last : Nat} {t : Dev} (h : BoxReleased n last d t) : BoxReleased n last d t.done := h

theorem boxReleased_mbFree (hwho : who < 8) : BoxReleased n who d ((d.setFld (pg .mbox n) F.MBOX.STATE_LAST_HOLDER who).mbFree n) := by
  obtain ⟨hstate, hholder, hwords, hlast, -⟩ := mbFree_spec (d.setFld (pg .mbox n) F.MBOX.STATE_LAST_HOLDER who) n
  rw [fld_setFld_self _ _ _ _ (by decide), show who % 2 ^ F.MBOX.STATE_LAST_HOLDER.w = who from Nat.mod_eq_of_lt hwho] at hlast
  exact ⟨hstate, hholder, hlast, hwords, by simp, by simp⟩

/-! ## The message words and the doorbell (R483, R485) -/

theorem mbMsg_none {k : Nat} {w : Word} (h : ¬(d.mbState n = 1 ∧ d.mbHolder n = who)) : d.mbMsg n who k w = none := if_neg h

theorem mbMsg_some {k : Nat} {w : Word} (hs : d.mbState n = 1) (hmine : d.mbHolder n = who) :
    d.mbMsg n who k w = some (d.setReg (pg .mbox n) (R.MBOX.MSG + 4 * k) w) := if_pos ⟨hs, hmine⟩

/-- The entry into FULL, counted. -/
def boxFilled (d : Dev) (n : Nat) : Dev :=
  if d.mbState n = 1 then (d.setFld (pg .mbox n) F.MBOX.STATE_STATE 2).bump (pg .mbox n) R.MBOX.SENDS else d

/-- The doorbell rung. -/
def bellSet (d : Dev) (n : Nat) (w : Word) : Dev :=
  (d.setReg (pg .mbox n) R.MBOX.DOORBELL (d.reg (pg .mbox n) R.MBOX.DOORBELL ||| w)).mbBell n

theorem mbDbSet_none {w : Word} (h : ¬((d.mbState n = 1 ∨ d.mbState n = 2) ∧ d.mbHolder n = who)) : d.mbDbSet n who w = none := if_neg h

theorem mbDbSet_some {w : Word} (hs : d.mbState n = 1 ∨ d.mbState n = 2) (hmine : d.mbHolder n = who) :
    d.mbDbSet n who w = some ((d.boxFilled n).bellSet n w) := if_pos ⟨hs, hmine⟩

theorem boxFilled_spec (hs : d.mbState n = 1 ∨ d.mbState n = 2) : (d.boxFilled n).mbState n = 2 ∧
    (d.boxFilled n).reg (pg .mbox n) R.MBOX.SENDS =
      (if d.mbState n = 1 then d.reg (pg .mbox n) R.MBOX.SENDS + 1 else d.reg (pg .mbox n) R.MBOX.SENDS) ∧
    (d.boxFilled n).mbHolder n = d.mbHolder n ∧
    (∀ o, o ≠ R.MBOX.SENDS → o ≠ R.MBOX.STATE → (d.boxFilled n).reg (pg .mbox n) o = d.reg (pg .mbox n) o) ∧
    (d.boxFilled n).mem = d.mem ∧ (d.boxFilled n).keys = d.keys := by
  unfold boxFilled
  split
  case isTrue =>
    refine ⟨?_, ?_, ?_, fun o hsends hstate => ?_, by simp, by simp⟩
    · rw [mbState, fld_bump_apart _ (by decide), fld_setFld_self _ _ _ _ (by decide)]
      rfl
    · rw [reg_bump_self, reg_setFld_apart _ _ (by decide)]
      rfl
    · rw [mbHolder, fld_bump_apart _ (by decide), fld_setFld_apart _ _ (by decide)]
      rfl
    · rw [reg_bump_apart _ hsends, reg_setFld_apart _ _ hstate]
  case isFalse h => exact ⟨hs.resolve_left h, rfl, rfl, fun _ _ _ => rfl, rfl, rfl⟩

theorem bellSet_spec (d : Dev) (n : Nat) (w : Word) : (d.bellSet n w).reg (pg .mbox n) R.MBOX.DOORBELL = d.reg (pg .mbox n) R.MBOX.DOORBELL ||| w ∧
    (d.bellSet n w).flag (pg .mbox n) F.MBOX.EVENT_DOORBELL =
      ((d.reg (pg .mbox n) R.MBOX.DOORBELL ||| w) &&& d.reg (pg .mbox n) R.MBOX.DB_MASK != 0) ∧
    ∀ o, o ≠ R.MBOX.DOORBELL → o ≠ R.HDR.EVENT → (d.bellSet n w).reg (pg .mbox n) o = d.reg (pg .mbox n) o := by
  rw [bellSet, mbBell]
  refine ⟨?_, ?_, fun o hbell hevent => ?_⟩
  · rw [reg_setFlag_apart _ _ (by decide), reg_setReg_self]
  · rw [flag_setFlag_self _ _ _ _ (by decide) (by decide), reg_setReg_self, reg_setReg_apart _ _ (by decide)]
  · rw [reg_setFlag_apart _ _ hevent, reg_setReg_apart _ _ hbell]

/-- What a doorbell leaves: a full mailbox with its holder, and the bits rung. -/
def BoxRung (n : Nat) (w : Word) (d t : Dev) : Prop :=
  t.mbState n = 2 ∧ t.mbHolder n = d.mbHolder n ∧ t.reg (pg .mbox n) R.MBOX.DOORBELL = d.reg (pg .mbox n) R.MBOX.DOORBELL ||| w ∧
    t.flag (pg .mbox n) F.MBOX.EVENT_DOORBELL = ((d.reg (pg .mbox n) R.MBOX.DOORBELL ||| w) &&& d.reg (pg .mbox n) R.MBOX.DB_MASK != 0) ∧
    t.reg (pg .mbox n) R.MBOX.SENDS = (if d.mbState n = 1 then d.reg (pg .mbox n) R.MBOX.SENDS + 1 else d.reg (pg .mbox n) R.MBOX.SENDS) ∧
    t.mem = d.mem ∧ t.keys = d.keys

theorem BoxRung.done {w : Word} {t : Dev} (h : BoxRung n w d t) : BoxRung n w d t.done := h

theorem boxRung_bellSet (hs : d.mbState n = 1 ∨ d.mbState n = 2) (w : Word) : BoxRung n w d ((d.boxFilled n).bellSet n w) := by
  obtain ⟨fstate, fsends, fholder, fother, fmem, fkeys⟩ := boxFilled_spec hs
  obtain ⟨hbell, hevent, hother⟩ := bellSet_spec (d.boxFilled n) n w
  have hbell' := fother R.MBOX.DOORBELL (by decide) (by decide)
  have hmask := fother R.MBOX.DB_MASK (by decide) (by decide)
  rw [hbell'] at hbell
  rw [hbell', hmask] at hevent
  exact ⟨(fld_of_reg (hother _ (by decide) (by decide))).trans fstate, (fld_of_reg (hother _ (by decide) (by decide))).trans fholder, hbell, hevent,
    (hother _ (by decide) (by decide)).trans fsends, by simp [bellSet, fmem], by simp [bellSet, fkeys]⟩

/-! ## DONE (R483, R485) -/

/-- A mailbox emptied by a master that does not hold it. -/
def boxEmptied (d : Dev) (n : Nat) : Dev :=
  ((((d.setFld (pg .mbox n) F.MBOX.STATE_LAST_HOLDER (d.mbHolder n)).setReg (pg .mbox n) R.MBOX.DOORBELL 0).mbBell n).event (pg .mbox n)
    F.MBOX.EVENT_EMPTIED).bump (pg .mbox n) R.MBOX.EMPTIES

theorem mbDone_none (h : ¬(d.mbState n = 2 ∧ ¬d.mbHolder n = who)) : d.mbDone n who = none := if_neg h

theorem mbDone_some (hs : d.mbState n = 2) (hother : ¬d.mbHolder n = who) : d.mbDone n who = some ((d.boxEmptied n).mbFree n) := if_pos ⟨hs, hother⟩

theorem boxEmptied_spec (d : Dev) (n : Nat) : (d.boxEmptied n).fld (pg .mbox n) F.MBOX.STATE_LAST_HOLDER = d.mbHolder n ∧
    (d.boxEmptied n).reg (pg .mbox n) R.MBOX.DOORBELL = 0 ∧ (d.boxEmptied n).flag (pg .mbox n) F.MBOX.EVENT_DOORBELL = false ∧
    (d.boxEmptied n).flag (pg .mbox n) F.MBOX.EVENT_EMPTIED = true ∧
    (d.boxEmptied n).reg (pg .mbox n) R.MBOX.EMPTIES = d.reg (pg .mbox n) R.MBOX.EMPTIES + 1 := by
  have hholder : d.mbHolder n < 2 ^ 3 := bitsOf_lt _ _ _
  rw [boxEmptied, mbBell]
  refine ⟨?_, ?_, ?_, ?_, ?_⟩
  · rw [fld_bump_apart _ (by decide), fld_event_apart _ (by decide), fld_setFlag_apart _ _ (by decide), fld_setReg_apart _ _ (by decide),
      fld_setFld_self _ _ _ _ (by decide)]
    exact Nat.mod_eq_of_lt hholder
  · rw [reg_bump_apart _ (by decide), reg_event_apart _ (by decide), reg_setFlag_apart _ _ (by decide), reg_setReg_self]
  · rw [flag_bump_apart _ (by decide), flag_event_apart _ (by decide), flag_setFlag_self _ _ _ _ (by decide) (by decide), reg_setReg_self,
      BitVec.ofNat_eq_ofNat, BitVec.zero_and]
    rfl
  · rw [flag_bump_apart _ (by decide)]
    exact flag_event_self _ _ _ (by decide) (by decide)
  · rw [reg_bump_self, reg_event_apart _ (by decide), reg_setFlag_apart _ _ (by decide), reg_setReg_apart _ _ (by decide),
      reg_setFld_apart _ _ (by decide)]
    rfl

/-- What DONE leaves: a free mailbox that the last holder's message has left, counted. -/
def BoxEmptied (n : Nat) (d t : Dev) : Prop :=
  t.mbState n = 0 ∧ t.mbHolder n = 0 ∧ t.fld (pg .mbox n) F.MBOX.STATE_LAST_HOLDER = d.mbHolder n ∧ t.reg (pg .mbox n) R.MBOX.DOORBELL = 0 ∧
    t.flag (pg .mbox n) F.MBOX.EVENT_DOORBELL = false ∧ t.flag (pg .mbox n) F.MBOX.EVENT_EMPTIED = true ∧
    t.reg (pg .mbox n) R.MBOX.EMPTIES = d.reg (pg .mbox n) R.MBOX.EMPTIES + 1 ∧ (∀ k < 16, t.reg (pg .mbox n) (R.MBOX.MSG + 4 * k) = 0) ∧
    t.mem = d.mem ∧ t.keys = d.keys

theorem BoxEmptied.done {t : Dev} (h : BoxEmptied n d t) : BoxEmptied n d t.done := h

theorem boxEmptied_mbFree (d : Dev) (n : Nat) : BoxEmptied n d ((d.boxEmptied n).mbFree n) := by
  obtain ⟨hstate, hholder, hwords, hlast, hother⟩ := mbFree_spec (d.boxEmptied n) n
  obtain ⟨elast, ebell, edoor, eempty, ecount⟩ := boxEmptied_spec d n
  exact ⟨hstate, hholder, hlast.trans elast, (hother _ (by decide) (by decide)).trans ebell,
    (flag_of_fld (fld_of_reg (hother _ (by decide) (by decide)))).trans edoor,
    (flag_of_fld (fld_of_reg (hother _ (by decide) (by decide)))).trans eempty, (hother _ (by decide) (by decide)).trans ecount, hwords,
    by simp [boxEmptied], by simp [boxEmptied]⟩

/-! ## The lock's timeout (R486) -/

theorem mbTimeout_early (h : ¬(d.mbState n = 1 ∧ d.fld (pg .mbox n) F.MBOX.CFG_TIMEOUT ≠ 0 ∧
    vget d.comp.lockAt n 0 + 400000 * d.fld (pg .mbox n) F.MBOX.CFG_TIMEOUT ≤ d.now)) : d.mbTimeout n = d := if_neg h

theorem mbTimeout_due (hs : d.mbState n = 1) (hms : d.fld (pg .mbox n) F.MBOX.CFG_TIMEOUT ≠ 0)
    (hdue : vget d.comp.lockAt n 0 + 400000 * d.fld (pg .mbox n) F.MBOX.CFG_TIMEOUT ≤ d.now) : d.mbTimeout n =
      (((d.mbFree n).event (pg .mbox n) F.MBOX.EVENT_LOCK_EXPIRED).bump (pg .mbox n) R.MBOX.EXPIRIES).raise .mbox n B.MBOX.MBOX_LOCK
        (d.mbHolder n) := if_pos ⟨hs, hms, hdue⟩

/-! ## The commands of the controllers -/

theorem swi_none (d : Dev) (i : Nat) : d.swi i (BitVec.ofNat 32 (0#16).toNat) = d := rfl

theorem numbers_swi (b : Fin 16) : numbers 16 (bitAt (BitVec.ofNat 32 (BitVec.ofNat 16 (2 ^ b.val)).toNat).toNat) = [b.val] := by
  revert b
  decide

theorem swi_one (d : Dev) (i : Nat) (b : Fin 16) : d.swi i (BitVec.ofNat 32 (BitVec.ofNat 16 (2 ^ b.val)).toNat) = d.intEdge i (0xE0 + b.val) := by
  rw [swi, numbers_swi]
  rfl

theorem intTick_early {i : Nat} (h : d.fld (pg .intc i) F.INTC.TICK_PERIOD = 0 ∨
    d.now < vget d.comp.tickAt i 0 + 400 * d.fld (pg .intc i) F.INTC.TICK_PERIOD) : d.intTick i = d :=
  if_pos (h.imp_left fun h => by rw [h])

theorem intTick_due {i : Nat} (hperiod : d.fld (pg .intc i) F.INTC.TICK_PERIOD ≠ 0)
    (hdue : vget d.comp.tickAt i 0 + 400 * d.fld (pg .intc i) F.INTC.TICK_PERIOD ≤ d.now) :
    d.intTick i = (d.setTick i (vget d.comp.tickAt i 0 + 400 * d.fld (pg .intc i) F.INTC.TICK_PERIOD)).intEdge i 0xF0 := by
  have hrun : ¬(400 * d.fld (pg .intc i) F.INTC.TICK_PERIOD = 0 ∨
      d.now < vget d.comp.tickAt i 0 + 400 * d.fld (pg .intc i) F.INTC.TICK_PERIOD) := by omega
  exact if_neg hrun

end

end Dev

/-! ## The writes and reads, traced to the pages -/

section
variable {d t : Dev} {m : Master} {c : Instr}

/-- A source's number in the low byte of the written word. -/
theorem source_ofNat (s : Fin 256) : bitsOf (BitVec.ofNat 32 s.val).toNat 0 8 = s.val := by
  have hs := s.isLt
  simp only [bitsOf, BitVec.toNat_ofNat, Nat.shiftRight_zero]
  omega

theorem Runs.intc {i : Fin 2} {ofs : Nat} {w : Word} (h : d.CanWrite m .intc i ofs) (ho : 0x100 ≤ ofs ∧ ofs < 0x800)
    (hc : ∀ s, exec c s = .next (s.onDev fun d => d.portWrite m .intc i ofs w)) (ht : d.intcWrite m i ofs w = t) : Runs c d t.done :=
  Runs.block (by decide) (by decide) h ho hc ht

theorem Runs.eoi {i : Fin 2} {s : Fin 256} (h : d.CanWrite m .intc i R.INTC.EOI) (ht : d.eoi i s = t) : Runs (.eoi m i s) d t.done := by
  refine Runs.intc h (by decide) (fun _ => rfl) ?_
  show d.eoi i (bitsOf (BitVec.ofNat 32 s.val).toNat 0 8) = t
  rw [source_ofNat, ht]

theorem Runs.clrPend {i : Fin 2} {s : Fin 256} (h : d.CanWrite m .intc i R.INTC.CLR_PEND) :
    Runs (.clrPend m i s) d (d.setPend i s false).done := by
  refine Runs.intc h (by decide) (fun _ => rfl) ?_
  show d.setPend i (bitsOf (BitVec.ofNat 32 s.val).toNat 0 8) false = _
  rw [source_ofNat]

theorem Runs.swi {i : Fin 2} {x : BitVec 16} (h : d.CanWrite m .intc i R.INTC.SWI) (ht : d.swi i (BitVec.ofNat 32 x.toNat) = t) :
    Runs (.swi m i x) d t.done :=
  Runs.intc h (by decide) (fun _ => rfl) ht

theorem Runs.prioWrite {i : Fin 2} {k : Fin 32} {w : Word} (h : d.CanWrite m .intc i (R.INTC.PRIO + 4 * k.val)) (ht : d.prioWrite i k w = t) :
    Runs (.prioWrite m i k w) d t.done := by
  have hk := k.isLt
  have hofs : 0x100 ≤ R.INTC.PRIO + 4 * k.val ∧ R.INTC.PRIO + 4 * k.val < 0x800 := by
    simp only [R.INTC.PRIO]
    omega
  have hindex : (R.INTC.PRIO + 4 * k.val - R.INTC.PRIO) / 4 = k.val := by omega
  refine Runs.intc h hofs (fun _ => rfl) ?_
  rw [Dev.intcWrite, if_pos (by omega), hindex]
  exact ht

theorem Runs.mbox {n : Fin 8} {ofs : Nat} {w : Word} (h : d.CanWrite m .mbox n ofs) (ho : 0x100 ≤ ofs ∧ ofs < 0x800)
    (hc : ∀ s, exec c s = .next (s.onDev fun d => d.portWrite m .mbox n ofs w)) (ht : d.mboxWrite m n ofs w = t) : Runs c d t.done :=
  Runs.block (by decide) (by decide) h ho hc ht

theorem Runs.lockRead {n : Fin 8} (h : d.CanRead m .mbox n R.MBOX.LOCK) {x : Nat} (ht : d.mbLockRead n m.cls = (t, x)) :
    Runs (.lockRead m n) d { t with bus := .data (BitVec.ofNat 32 x) } := by
  refine Runs.dev (fun _ => rfl) ?_
  have hpage : 1 ≤ pg .mbox n.val := by
    simp only [pg, PageKind.first]
    omega
  have hread : d.regRead m .mbox n.val R.MBOX.LOCK = (BitVec.ofNat 32 (d.mbLockRead n.val m.cls).2, (d.mbLockRead n.val m.cls).1) := rfl
  rw [Dev.masterRead_eq h (by decide) hpage, hread, ht]

theorem Runs.lockRelease {n : Fin 8} (h : d.CanWrite m .mbox n R.MBOX.LOCK)
    (ht : (d.mbRelease n m.cls).getD (d.refuse m (pg .mbox n) R.MBOX.LOCK) = t) : Runs (.lockRelease m n) d t.done :=
  Runs.mbox h (by decide) (fun _ => rfl) ht

theorem Runs.msgWrite {n : Fin 8} {k : Fin 16} {w : Word} (h : d.CanWrite m .mbox n (R.MBOX.MSG + 4 * k.val))
    (ht : (d.mbMsg n m.cls k w).getD (d.refuse m (pg .mbox n) (R.MBOX.MSG + 4 * k.val)) = t) : Runs (.msgWrite m n k w) d t.done := by
  have hk := k.isLt
  have hofs : R.MBOX.MSG = 0x140 := rfl
  have hindex : (R.MBOX.MSG + 4 * k.val - R.MBOX.MSG) / 4 = k.val := by omega
  have hlock : R.MBOX.MSG + 4 * k.val ≠ R.MBOX.LOCK := by simp only [R.MBOX.MSG, R.MBOX.LOCK]; omega
  have hset : R.MBOX.MSG + 4 * k.val ≠ R.MBOX.DB_SET := by simp only [R.MBOX.MSG, R.MBOX.DB_SET]; omega
  have hdone : R.MBOX.MSG + 4 * k.val ≠ R.MBOX.DONE := by simp only [R.MBOX.MSG, R.MBOX.DONE]; omega
  refine Runs.mbox h (by omega) (fun _ => rfl) ?_
  rw [Dev.mboxWrite, if_neg hlock, if_neg hset, if_neg hdone, if_pos (by omega), hindex]
  exact ht

theorem Runs.dbSet {n : Fin 8} {w : Word} (h : d.CanWrite m .mbox n R.MBOX.DB_SET)
    (ht : (d.mbDbSet n m.cls w).getD (d.refuse m (pg .mbox n) R.MBOX.DB_SET) = t) : Runs (.dbSet m n w) d t.done :=
  Runs.mbox h (by decide) (fun _ => rfl) ht

theorem Runs.boxDone {n : Fin 8} (h : d.CanWrite m .mbox n R.MBOX.DONE)
    (ht : (d.mbDone n m.cls).getD (d.refuse m (pg .mbox n) R.MBOX.DONE) = t) : Runs (.done m n) d t.done :=
  Runs.mbox h (by decide) (fun _ => rfl) ht

theorem answered_of_some {o : Option Dev} {e no : Dev} (h : o = some e) : o.getD no = e := by
  rw [h]
  rfl

theorem refused_of_none {o : Option Dev} {no : Dev} (h : o = none) : o.getD no = no := by
  rw [h]
  rfl

/-! ## The clauses -/

/-- The edge of a request line, by what its source is. -/
theorem interruptEdge_clause (hlive : d.busLive = true) (i : Fin 2) (s : Fin 256) :
    (d.intLine i s = false ∨ d.prio i s = 0 ∨ Dev.intSource s = false → Runs (.interruptEdge i s) d d) ∧
    (d.intLine i s = true → d.prio i s ≠ 0 → Dev.intSource s = true → ¬(d.intPending i s = true ∨ d.intActive i s = true) →
      Runs (.interruptEdge i s) d (d.setPend i s true)) ∧
    (d.intLine i s = true → d.prio i s ≠ 0 → Dev.intSource s = true → d.intPending i s = true ∨ d.intActive i s = true →
      ∃ t, Runs (.interruptEdge i s) d t ∧ t.reg (pg .intc i) R.INTC.LOST_TOTAL = d.reg (pg .intc i) R.INTC.LOST_TOTAL + 1 ∧
        (let f : Fld := ⟨R.INTC.LOST + 4 * (s.val / 4), 8 * (s.val % 4), 8⟩
         t.fld (pg .intc i) f = min 255 (d.fld (pg .intc i) f + 1)) ∧
        t.intPending i s = d.intPending i s ∧ t.mem = d.mem ∧ t.keys = d.keys) ∧
    (∀ on, (d.setPend i s on).intPending i s = on ∧ ∀ s' : Fin 256, s' ≠ s → (d.setPend i s on).intPending i s' = d.intPending i s') := by
  refine ⟨fun h => Runs.live hlive (fun _ => rfl) (Dev.interruptEdge_none h), fun hline hprio hsource hfree => ?_,
    fun hline hprio hsource hbusy => ?_, fun on => ⟨Dev.intPending_setPend d i s on, fun s' hne => ?_⟩⟩
  · exact Runs.live hlive (fun _ => rfl) ((Dev.interruptEdge_high hline).trans (Dev.intEdge_idle hprio hsource hfree))
  · obtain ⟨htotal, hlost, hpend⟩ := Dev.intEdge_lost s.isLt hprio hsource hbusy
    exact ⟨_, Runs.live hlive (fun _ => rfl) (Dev.interruptEdge_high hline), htotal, hlost, hpend, (Dev.intEdge_store d i s).1,
      (Dev.intEdge_store d i s).2⟩
  · exact Dev.intPending_setPend_other d i (fun h => hne (Fin.ext h)) on

/-- The winner's delivery to a pair, and the tick. -/
theorem delivery_clause (hlive : d.busLive = true) (i : Fin 2) : let p := pg .intc i
    (d.intReady i = none → Runs (.interruptDelivery i) d d) ∧
    (∀ s, d.intReady i = some s → s < 256 ∧ d.intPending i s = true ∧ d.fld p F.INTC.LEVEL_LEVEL < d.prio i s ∧
      d.fld p F.INTC.THRESH_THRESH < d.prio i s ∧
      (∀ s' < 256, d.intPending i s' = true → d.prio i s' < d.prio i s ∨ d.prio i s' = d.prio i s ∧ s ≤ s') ∧
      ((¬d.TakesInterrupt i → Runs (.interruptDelivery i) d d) ∧
       (d.TakesInterrupt i → ∃ t, Runs (.interruptDelivery i) d t ∧ t.intPending i s = false ∧ t.intActive i s = true ∧
         t.intStack i = s :: d.intStack i ∧ t.reg p R.INTC.LEVEL = BitVec.ofNat 32 (d.prio i s + 16 * ((d.intStack i).length + 1) + 256 * s) ∧
         t.reg p R.INTC.DELIVERED = d.reg p R.INTC.DELIVERED + 1 ∧ (t.coreS i).pc = d.reg p (R.INTC.VECTOR + 4 * s) ∧
         (t.coreS i).mepc = (d.coreS i).pc.toNat ∧ (t.coreS i).mcause = 0x8000000B#32 ∧ (t.coreS i).mintsrc = s ∧ (t.coreS i).mach = true ∧
         bitAt (t.coreS i).mstatus 3 = false ∧ t.mem = d.mem ∧ t.keys = d.keys))) ∧
    (let due := vget d.comp.tickAt i.val 0 + 400 * d.fld p F.INTC.TICK_PERIOD
     (d.fld p F.INTC.TICK_PERIOD = 0 ∨ d.now < due → Runs (.tick i) d d) ∧
     (d.fld p F.INTC.TICK_PERIOD ≠ 0 → due ≤ d.now → Runs (.tick i) d ((d.setTick i due).intEdge i 0xF0))) := by
  refine ⟨fun h => Runs.live hlive (fun _ => rfl) (Dev.interruptDelivery_none h), fun s h => ?_,
    fun h => Runs.live hlive (fun _ => rfl) (Dev.intTick_early h), fun hperiod hdue => Runs.live hlive (fun _ => rfl) (Dev.intTick_due hperiod hdue)⟩
  obtain ⟨hs, hpend, hlevel, hthresh, hwins⟩ := Dev.intReady_spec h
  exact ⟨hs, hpend, hlevel, hthresh, hwins, fun hno => Runs.live hlive (fun _ => rfl) (Dev.interruptDelivery_untaken h hno),
    fun hyes => ⟨_, Runs.live hlive (fun _ => rfl) (Dev.interruptDelivery_taken h hyes), Dev.delivered_spec i.isLt hs⟩⟩

theorem lockRead_clause {n : Fin 8} (h : d.CanRead m .mbox n R.MBOX.LOCK) :
    (d.flag (pg .mbox n) F.HDR.CTRL_ENABLE = false → Runs (.lockRead m n) d { d with bus := .data 0xF#32 }) ∧
    (d.flag (pg .mbox n) F.HDR.CTRL_ENABLE = true →
      (d.mbState n = 0 → ∃ t, Runs (.lockRead m n) d t ∧ t.bus = .data 0#32 ∧ t.mbState n = 1 ∧ t.mbHolder n = m.cls ∧ t.mem = d.mem ∧
        t.keys = d.keys) ∧
      (d.mbState n ≠ 0 → d.mbHolder n = m.cls → Runs (.lockRead m n) d { d with bus := .data 0#32 }) ∧
      (d.mbState n ≠ 0 → ¬d.mbHolder n = m.cls →
        Runs (.lockRead m n) d { d.bump (pg .mbox n) R.MBOX.DENIED with bus := .data (BitVec.ofNat 32 (d.mbHolder n)) })) := by
  refine ⟨fun hoff => Runs.lockRead h (Dev.mbLockRead_off hoff), fun hon => ⟨fun hfree => ?_,
    fun hs hmine => Runs.lockRead h (Dev.mbLockRead_mine hon hs hmine), fun hs hother => Runs.lockRead h (Dev.mbLockRead_denied hon hs hother)⟩⟩
  exact ⟨_, Runs.lockRead h (Dev.mbLockRead_free hon hfree), rfl, Dev.lockTaken_spec (Dev.cls_lt m)⟩

end

section
variable {d : Dev} {m : Master} {n : Fin 8}

theorem lockRelease_clause (h : d.CanWrite m .mbox n R.MBOX.LOCK) :
    (d.mbState n = 1 → d.mbHolder n = m.cls → ∃ t, Runs (.lockRelease m n) d t ∧ t.mbState n = 0 ∧ t.mbHolder n = 0 ∧
      t.fld (pg .mbox n) F.MBOX.STATE_LAST_HOLDER = m.cls ∧ (∀ k < 16, t.reg (pg .mbox n) (R.MBOX.MSG + 4 * k) = 0) ∧ t.mem = d.mem ∧
      t.keys = d.keys) ∧
    (¬(d.mbState n = 1 ∧ d.mbHolder n = m.cls) → Runs (.lockRelease m n) d (d.refuse m (pg .mbox n) R.MBOX.LOCK).done) :=
  ⟨fun hs hmine => ⟨_, Runs.lockRelease h (answered_of_some (Dev.mbRelease_some hs hmine)), (Dev.boxReleased_mbFree (Dev.cls_lt m)).done⟩,
    fun hno => Runs.lockRelease h (refused_of_none (Dev.mbRelease_none hno))⟩

theorem msgWrite_clause (k : Fin 16) (w : Word) (h : d.CanWrite m .mbox n (R.MBOX.MSG + 4 * k.val)) :
    (d.mbState n = 1 → d.mbHolder n = m.cls → Runs (.msgWrite m n k w) d (d.setReg (pg .mbox n) (R.MBOX.MSG + 4 * k.val) w).done) ∧
    (¬(d.mbState n = 1 ∧ d.mbHolder n = m.cls) → Runs (.msgWrite m n k w) d (d.refuse m (pg .mbox n) (R.MBOX.MSG + 4 * k.val)).done) :=
  ⟨fun hs hmine => Runs.msgWrite h (answered_of_some (Dev.mbMsg_some hs hmine)),
    fun hno => Runs.msgWrite h (refused_of_none (Dev.mbMsg_none hno))⟩

theorem dbSet_clause (w : Word) (h : d.CanWrite m .mbox n R.MBOX.DB_SET) : let p := pg .mbox n
    (d.mbState n = 1 ∨ d.mbState n = 2 → d.mbHolder n = m.cls → ∃ t, Runs (.dbSet m n w) d t ∧ t.mbState n = 2 ∧ t.mbHolder n = m.cls ∧
      t.reg p R.MBOX.DOORBELL = d.reg p R.MBOX.DOORBELL ||| w ∧
      t.flag p F.MBOX.EVENT_DOORBELL = ((d.reg p R.MBOX.DOORBELL ||| w) &&& d.reg p R.MBOX.DB_MASK != 0) ∧
      t.reg p R.MBOX.SENDS = (if d.mbState n = 1 then d.reg p R.MBOX.SENDS + 1 else d.reg p R.MBOX.SENDS) ∧ t.mem = d.mem ∧ t.keys = d.keys) ∧
    (¬((d.mbState n = 1 ∨ d.mbState n = 2) ∧ d.mbHolder n = m.cls) → Runs (.dbSet m n w) d (d.refuse m p R.MBOX.DB_SET).done) := by
  refine ⟨fun hs hmine => ?_, fun hno => Runs.dbSet h (refused_of_none (Dev.mbDbSet_none hno))⟩
  obtain ⟨tstate, tholder, trest⟩ := (Dev.boxRung_bellSet hs w).done
  exact ⟨_, Runs.dbSet h (answered_of_some (Dev.mbDbSet_some hs hmine)), tstate, tholder.trans hmine, trest⟩

theorem done_clause (h : d.CanWrite m .mbox n R.MBOX.DONE) : let p := pg .mbox n
    (d.mbState n = 2 → ¬d.mbHolder n = m.cls → ∃ t, Runs (.done m n) d t ∧ t.mbState n = 0 ∧ t.mbHolder n = 0 ∧
      t.fld p F.MBOX.STATE_LAST_HOLDER = d.mbHolder n ∧ t.reg p R.MBOX.DOORBELL = 0 ∧ t.flag p F.MBOX.EVENT_DOORBELL = false ∧
      t.flag p F.MBOX.EVENT_EMPTIED = true ∧ t.reg p R.MBOX.EMPTIES = d.reg p R.MBOX.EMPTIES + 1 ∧
      (∀ k < 16, t.reg p (R.MBOX.MSG + 4 * k) = 0) ∧ t.mem = d.mem ∧ t.keys = d.keys) ∧
    (¬(d.mbState n = 2 ∧ ¬d.mbHolder n = m.cls) → Runs (.done m n) d (d.refuse m p R.MBOX.DONE).done) :=
  ⟨fun hs hother => ⟨_, Runs.boxDone h (answered_of_some (Dev.mbDone_some hs hother)), (Dev.boxEmptied_mbFree d n).done⟩,
    fun hno => Runs.boxDone h (refused_of_none (Dev.mbDone_none hno))⟩

theorem eoi_clause {i : Fin 2} {s : Fin 256} (h : d.CanWrite m .intc i R.INTC.EOI) :
    (d.intActive i s = false → Runs (.eoi m i s) d (d.event (pg .intc i) F.INTC.EVENT_EOI_BAD).done) ∧
    (d.intActive i s = true → (d.intStack i).head? = some s.val → ∃ t, Runs (.eoi m i s) d t ∧ t.intActive i s = false ∧
      t.intStack i = (d.intStack i).tail ∧ (d.intLine i s = true → d.prio i s ≠ 0 → t.intPending i s = true) ∧
      (d.prio i s = 0 → t.intPending i s = d.intPending i s) ∧ t.mem = d.mem ∧ t.keys = d.keys) ∧
    (d.intActive i s = true → (d.intStack i).head? ≠ some s.val → Runs (.eoi m i s) d
      (((d.setStack i ((d.intStack i).filter (fun x => x != s.val))).raise .intc i B.INTC.INTC_ORDER s).intComplete i s).done) := by
  exact ⟨fun hoff => Runs.eoi h (Dev.eoi_inactive hoff),
    fun hact hhead => ⟨_, Runs.eoi h (Dev.eoi_newest hact hhead), (Dev.ended_intComplete i.isLt s.isLt _).done⟩,
    fun hact hhead => Runs.eoi h (Dev.eoi_older hact hhead)⟩

end

open Dev in
/-- Settles O54: an edge by its source, the winner by its delivery, EOI by the stack, a word of PRIO source by source, and each command of a
mailbox by its state and holder. -/
theorem interruptsAndMailboxesRun : Obligations.InterruptsAndMailboxesRun := by
  unfold Obligations.InterruptsAndMailboxesRun
  intro d m hlive
  refine ⟨interruptEdge_clause hlive, delivery_clause hlive, fun i s => ⟨fun h => ?_, fun h => Runs.clrPend h, fun h => ?_, fun k w h => ?_⟩, fun n => ?_⟩
  · exact eoi_clause h
  · exact ⟨Runs.swi h (swi_none d i), fun b => Runs.swi h (swi_one d i b)⟩
  · exact ⟨_, Runs.prioWrite h rfl, prioWrite_spec i.isLt k.isLt w d⟩
  · exact ⟨lockRead_clause, lockRelease_clause, msgWrite_clause, dbSet_clause, done_clause,
      fun h => Runs.live hlive (fun _ => rfl) (mbTimeout_early h), fun hs hms hdue => Runs.live hlive (fun _ => rfl) (mbTimeout_due hs hms hdue)⟩

end Sys2Proof.Machine
end

section
/-!
PROOFS. The parameter store (R496–R509): the registers that masters have of their own, and the commands.
-/
namespace Sys2Proof.Machine

/-- A master's registers of the store as a page of their own. -/
def mramBank (m : Master) : Nat := pg .mram + 0x100 * m.cls

-- Checked in its turn, so that the proofs above are complete before the ones below begin.
set_option Elab.async false in
theorem mramBank_ne (m : Master) : mramBank m ≠ pg .mram ∧ pg .mram ≠ mramBank m := by cases m <;> decide

namespace Dev

theorem regKey_mramBank (o : Nat) (m : Master) : regKey (pg .mram) o m.cls = regKey (mramBank m) o := by
  simp only [regKey, mramBank]
  omega

theorem reg_mramBank (d : Dev) (o : Nat) (m : Master) : d.reg (pg .mram) o m.cls = d.reg (mramBank m) o := by
  rw [reg, regKey_mramBank]
  rfl

theorem setReg_mramBank (d : Dev) (o : Nat) (v : Word) (m : Master) : d.setReg (pg .mram) o v m.cls = d.setReg (mramBank m) o v := by
  rw [setReg, regKey_mramBank]
  rfl

theorem setBankFld_eq (d : Dev) (m : Master) (f : Fld) (v : Nat) : d.setBankFld m f v = d.setFld (mramBank m) f v := by
  rw [setBankFld, setReg_mramBank, reg_mramBank]
  rfl

/-- RESULT of a master's last command. -/
theorem result_eq (d : Dev) (m : Master) : bitsOf (d.reg (pg .mram) R.MRAM.CMD_STATUS m.cls).toNat 4 4 = d.fld (mramBank m) F.MRAM.CMD_STATUS_RESULT := by
  rw [reg_mramBank]
  rfl

/-- BUSY of a master's command. -/
theorem busy_eq (d : Dev) (m : Master) : bitAt (d.reg (pg .mram) R.MRAM.CMD_STATUS m.cls).toNat 0 = d.flag (mramBank m) F.MRAM.CMD_STATUS_BUSY := by
  rw [reg_mramBank, bitAt_eq_bitsOf]
  rfl

/-! ## A command accepted (R498) -/

/-- A command of a master is under way: the job, BUSY, and no result yet. -/
def StoreStarts (d : Dev) (m : Master) (j : MramJob) (t : Dev) : Prop :=
  t.mram.job = j ∧ t.flag (pg .mram) F.MRAM.STATUS_JOB = true ∧ bitAt (t.reg (pg .mram) R.MRAM.CMD_STATUS m.cls).toNat 0 = true ∧
    bitsOf (t.reg (pg .mram) R.MRAM.CMD_STATUS m.cls).toNat 4 4 = 0 ∧ t.mem = d.mem ∧ t.keys = d.keys

section
variable {d : Dev} {m : Master} {j : MramJob}

theorem StoreStarts.done {t : Dev} (h : StoreStarts d m j t) : StoreStarts d m j t.done := h

theorem mramStart_eq (d : Dev) (m : Master) (j : MramJob) : d.mramStart m j =
    ((((d.setFld (mramBank m) F.MRAM.CMD_STATUS_BUSY 1).setFld (mramBank m) F.MRAM.CMD_STATUS_RESULT 0).setFld (mramBank m)
      F.MRAM.CMD_STATUS_UNITS 0).setJob j) := by
  rw [mramStart, mramResult, setBankFld_eq, setBankFld_eq, setBankFld_eq]

theorem reg_setJob_bank (d : Dev) (m : Master) (j : MramJob) {o : Nat} (ho : o < 0x1000) : (d.setJob j).reg (mramBank m) o = d.reg (mramBank m) o :=
  reg_of_pageRegs (pageRegs_setFlag (d.modMram fun s => { s with job := j, jobAt := d.now }) _ ⟨(mramBank_ne m).1, by decide⟩) ho

theorem status_setJob (d : Dev) (hj : j ≠ .none) : (d.setJob j).flag (pg .mram) F.MRAM.STATUS_JOB = true := by
  rw [setJob, flag_setFlag_self _ _ _ _ (by decide) (by decide)]
  exact decide_eq_true hj

theorem storeStarts_mramStart (hj : j ≠ .none) : StoreStarts d m j (d.mramStart m j) := by
  rw [StoreStarts, busy_eq, result_eq, mramStart_eq]
  refine ⟨rfl, status_setJob _ hj, ?_, ?_, by simp, by simp⟩
  · rw [flag_of_fld (fld_of_reg (reg_setJob_bank _ m j (by decide))), flag_setFld_apart _ _ (by decide), flag_setFld_apart _ _ (by decide),
      flag_setFld_self _ _ _ _ (by decide)]
    rfl
  · rw [fld_of_reg (reg_setJob_bank _ m j (by decide)), fld_setFld_apart _ _ (by decide), fld_setFld_self _ _ _ _ (by decide)]
    rfl

/-- A rescan shows SCANNING beside. -/
theorem StoreStarts.scanStart {t : Dev} {r : Nat} (hr : r < 16) (hj : j ≠ .none) (h : StoreStarts d m j t) :
    StoreStarts d m j (t.scanStart j r) := by
  obtain ⟨-, -, hbusy, hresult, hmem, hkeys⟩ := h
  have hscan : (F.MRAM.SR_STATUS_SCANNING.at r).ofs < 0x1000 ∧ F.MRAM.STATUS_JOB.ofs ≠ (F.MRAM.SR_STATUS_SCANNING.at r).ofs := by
    simp only [Fld.at, F.MRAM.SR_STATUS_SCANNING, F.MRAM.STATUS_JOB]
    omega
  have hbank : ∀ o < 0x1000, (t.scanStart j r).reg (mramBank m) o = t.reg (mramBank m) o := fun o ho =>
    (reg_of_pageRegs (pageRegs_setFlag (t.setJob j) _ ⟨(mramBank_ne m).1, hscan.1⟩) ho).trans (reg_setJob_bank t m j ho)
  rw [StoreStarts, reg_mramBank, hbank _ (by decide), ← reg_mramBank]
  refine ⟨rfl, ?_, hbusy, hresult, (by simp [Dev.scanStart, hmem]), (by simp [Dev.scanStart, hkeys])⟩
  rw [Dev.scanStart, flag_setFlag_apart _ _ (.inl hscan.2)]
  exact status_setJob t hj

end

/-! ## CMD (R498) -/

/-- A command by its OP. -/
def storeOp (d : Dev) (m : Master) (op r : Nat) : Dev :=
  if op = 1 then d.mramWrite m else if op = 2 then d.srWriteCmd m r else if op = 3 then d.srReadCmd m r
  else if op = 4 then d.srRescanCmd m r else d

section
variable {d : Dev} {m : Master} {op r : Nat}

theorem cmdWord_fields (hop : op < 16) (hr : r < 16) : (BitVec.ofNat 32 (0xD17A0000 + op + 16 * r)).toNat / 65536 = 0xD17A ∧
    bitsOf (BitVec.ofNat 32 (0xD17A0000 + op + 16 * r)).toNat 4 4 = r ∧ bitsOf (BitVec.ofNat 32 (0xD17A0000 + op + 16 * r)).toNat 0 4 = op := by
  simp only [bitsOf, BitVec.toNat_ofNat, Nat.shiftRight_eq_div_pow]
  omega

/-- A keyed command: refused while a job runs. -/
theorem mramCmd_keyed (hop : 1 ≤ op ∧ op ≤ 4) (hr : r < 16) : d.mramCmd m (BitVec.ofNat 32 (0xD17A0000 + op + 16 * r)) =
    if d.mram.job ≠ .none then d.mramResult m 2 else d.storeOp m op r := by
  obtain ⟨hkey, hring, hcode⟩ := cmdWord_fields (show op < 16 by omega) hr
  have hknown : ¬(True ∧ (op = 0 ∨ 4 < op)) := by omega
  simp only [mramCmd, hkey, hring, hcode, mramKeyed]
  rw [if_neg hknown]
  rfl

theorem mramCmd_busy (hop : 1 ≤ op ∧ op ≤ 4) (hr : r < 16) (h : d.mram.job ≠ .none) :
    d.mramCmd m (BitVec.ofNat 32 (0xD17A0000 + op + 16 * r)) = d.mramResult m 2 := (mramCmd_keyed hop hr).trans (if_pos h)

theorem mramCmd_idle (hop : 1 ≤ op ∧ op ≤ 4) (hr : r < 16) (h : d.mram.job = .none) :
    d.mramCmd m (BitVec.ofNat 32 (0xD17A0000 + op + 16 * r)) = d.storeOp m op r := (mramCmd_keyed hop hr).trans (if_neg fun hne => hne h)

end

/-! ## WRITE (R499) -/

section
variable (d : Dev) (m : Master)

/-- The offset of a plain write. -/
def writeOfs : Nat := (d.reg (pg .mram) R.MRAM.ADDR m.cls).toNat

/-- The length of a plain write. -/
def writeLen : Nat := (d.reg (pg .mram) R.MRAM.LEN m.cls).toNat

/-- A plain write of what does not lie in the array or is not whole words. -/
def WriteBad : Prop :=
  d.writeOfs m % 4 ≠ 0 ∨ d.writeLen m % 4 ≠ 0 ∨ d.writeLen m < 4 ∨ 256 < d.writeLen m ∨ 0x40000 < d.writeOfs m + d.writeLen m

/-- A plain write that reaches into an enabled ring. -/
def WriteInRing : Prop := ∃ r < 16, d.srOn r = true ∧ areasMeet (d.writeOfs m, d.writeLen m) (d.srArea r) = true

variable {d m}

theorem mramWrite_bad (h : d.WriteBad m) : d.mramWrite m = d.mramResult m 3 := if_pos h

theorem mramWrite_protected (h : ¬d.WriteBad m) (hp : d.mramProtected (d.writeOfs m) (d.writeLen m) = true) : d.mramWrite m = d.mramResult m 4 :=
  (if_neg h).trans (if_pos hp)

theorem any_inRing : ((List.range 16).any fun r => d.srOn r && areasMeet (d.writeOfs m, d.writeLen m) (d.srArea r)) = true ↔ d.WriteInRing m := by
  simp [WriteInRing, List.any_eq_true]

theorem mramWrite_inRing (h : ¬d.WriteBad m) (hp : d.mramProtected (d.writeOfs m) (d.writeLen m) = false) (hring : d.WriteInRing m) :
    d.mramWrite m = d.mramResult m 9 :=
  (if_neg h).trans ((if_neg (Bool.eq_false_iff.mp hp)).trans (if_pos (any_inRing.mpr hring)))

theorem mramWrite_starts (h : ¬d.WriteBad m) (hp : d.mramProtected (d.writeOfs m) (d.writeLen m) = false) (hring : ¬d.WriteInRing m) :
    d.mramWrite m = d.mramStart m (.write m (d.writeOfs m) (d.bufBytes m (d.writeLen m))) :=
  (if_neg h).trans ((if_neg (Bool.eq_false_iff.mp hp)).trans (if_neg fun hyes => hring (any_inRing.mp hyes)))

end

/-! ## The commands of a slot ring (R507–R509) -/

section
variable {d : Dev} {m : Master} {r : Nat}

/-- The slot that a slot write goes to: the one after the newest. -/
def slotAfter (d : Dev) (r : Nat) : Nat :=
  if d.flag (pg .mram) (F.MRAM.SR_STATUS_EMPTY.at r) then 0 else (d.fld (pg .mram) (F.MRAM.SR_STATUS_NEWEST.at r) + 1) % d.slotCount r

/-- SEQ of the slot that is written next. -/
def seqAfter (d : Dev) (r : Nat) : Nat :=
  if d.flag (pg .mram) (F.MRAM.SR_STATUS_EMPTY.at r) then 1 else ((d.reg (pg .mram) (R.MRAM.SR_NSEQ + 4 * r)).toNat + 1) % 4294967296

theorem srWriteCmd_off (h : d.srOn r = false) : d.srWriteCmd m r = d.mramResult m 6 := by
  rw [srWriteCmd, h]
  rfl

theorem srReadCmd_off (h : d.srOn r = false) : d.srReadCmd m r = d.mramResult m 6 := by
  rw [srReadCmd, h]
  rfl

theorem srRescanCmd_off (h : d.srOn r = false) : d.srRescanCmd m r = d.mramResult m 6 := by
  rw [srRescanCmd, h]
  rfl

theorem srReadCmd_on (h : d.srOn r = true) : d.srReadCmd m r = d.mramStart m (.srRead m r) := if_pos h

theorem srRescanCmd_on (h : d.srOn r = true) : d.srRescanCmd m r = (d.mramStart m (.rescan m r)).scanStart (.rescan m r) r := if_pos h

theorem srWriteCmd_protected (h : d.srOn r = true) (hp : d.mramProtected (d.slotOfs r (d.slotAfter r)) (d.slotSize r) = true) :
    d.srWriteCmd m r = d.mramResult m 4 := by
  rw [srWriteCmd, h]
  exact if_pos hp

theorem srWriteCmd_starts (h : d.srOn r = true) (hp : d.mramProtected (d.slotOfs r (d.slotAfter r)) (d.slotSize r) = false) :
    d.srWriteCmd m r = d.mramStart m (.srWrite m r (d.slotAfter r) (d.seqAfter r)
      (slotImage r (d.seqAfter r) (d.bufBytes m (d.slotSize r - 8)))) := by
  have hopen : ¬(d.mramProtected (d.slotOfs r (d.slotAfter r)) (d.slotSize r) = true) := by rw [hp]; decide
  rw [srWriteCmd, h]
  exact if_neg hopen

end

end Dev

/-! ## The image of a slot (R506) -/

section
variable {w poly : Nat}

/-- One shift of the register. -/
theorem crc_step_lt (hp : poly < 2 ^ w) (r : Nat) : (if bitAt r (w - 1) then (2 * r) % 2 ^ w ^^^ poly else (2 * r) % 2 ^ w) < 2 ^ w := by
  have hmod : (2 * r) % 2 ^ w < 2 ^ w := Nat.mod_lt _ (by positivity)
  split
  · exact Nat.xor_lt_two_pow hmod hp
  · exact hmod

theorem crc_shift_lt (hp : poly < 2 ^ w) (k : Nat) {r : Nat} (hr : r < 2 ^ w) : Crc.shift w poly k r < 2 ^ w := by
  induction k generalizing r with
  | zero => exact hr
  | succ k ih => exact ih (crc_step_lt hp r)

theorem crc_byte_lt (hp : poly < 2 ^ w) (hw : 8 ≤ w) (refin : Bool) (r b : Nat) : Crc.byte w poly refin r b < 2 ^ w := by
  rw [Crc.byte, if_pos hw]
  exact crc_shift_lt hp 7 (crc_step_lt hp _)

theorem crc_feed_lt (hp : poly < 2 ^ w) (hw : 8 ≤ w) (refin : Bool) (l : List Nat) {r : Nat} (hr : r < 2 ^ w) : Crc.feed w poly refin r l < 2 ^ w :=
  List.foldlRecOn (motive := (· < 2 ^ w)) l _ hr fun a _ b _ => crc_byte_lt hp hw refin a b

end

theorem slotCrc_lt (l : List Nat) : slotCrc l < 65536 := by
  rw [slotCrc, Crc.final]
  simp only [Bool.false_eq_true, if_false, Nat.xor_zero]
  exact crc_feed_lt (w := 16) (by decide) (by decide) false _ (by decide)

/-- The two bytes of a number below 65536 spell it. -/
theorem numLE_two (c : Nat) (h : c < 65536) : Crypto.numLE [c % 256, c / 256 % 256] = c := by
  simp only [Crypto.numLE, List.foldr_cons, List.foldr_nil]
  omega

/-- The CRC does not cover itself. -/
theorem slotCrc_image (a0 a1 a2 a3 c0 c1 : Nat) (rest : List Nat) :
    slotCrc ([a0, a1, a2, a3] ++ [c0, c1] ++ rest) = slotCrc ([a0, a1, a2, a3] ++ [0, 0] ++ rest) := rfl

theorem slotHolds_slotImage (ring seq : Nat) (payload : List Nat) : slotHolds ring (slotImage ring seq payload) = true := by
  have hcrc := slotCrc_image (seq % 256) (seq / 256 % 256) (seq / 256 / 256 % 256) (seq / 256 / 256 / 256 % 256)
  have himage : ∃ c < 65536, slotImage ring seq payload = [seq % 256, seq / 256 % 256, seq / 256 / 256 % 256, seq / 256 / 256 / 256 % 256] ++
      [c % 256, c / 256 % 256] ++ ([ring, 0xA5] ++ payload) ∧ c = slotCrc (slotImage ring seq payload) := by
    refine ⟨_, slotCrc_lt (Crypto.bytesLE seq 4 ++ [0, 0, ring, 0xA5] ++ payload), rfl, ?_⟩
    exact (hcrc _ _ ([ring, 0xA5] ++ payload)).symm
  obtain ⟨c, hc, himage, hcrc⟩ := himage
  have htag : le (slotImage ring seq payload) 7 1 = 0xA5 := by rw [himage]; rfl
  have hring : le (slotImage ring seq payload) 6 1 = ring := by
    rw [himage]
    simp [le, Crypto.numLE]
  have hsum : le (slotImage ring seq payload) 4 2 = slotCrc (slotImage ring seq payload) := by
    rw [← hcrc, himage]
    exact numLE_two c hc
  rw [slotHolds, htag, hring, hsum]
  simp

/-! ## The writes of CMD, traced to the store -/

section
variable {d t : Dev} {m : Master} {c : Instr} {j : MramJob}

/-- A command of the store runs as its OP says. -/
theorem Runs.storeCmd {op r : Nat} {w : Word} (hop : 1 ≤ op ∧ op ≤ 4) (hr : r < 16) (hw : w = BitVec.ofNat 32 (0xD17A0000 + op + 16 * r))
    (h : d.CanWrite m .mram 0 R.MRAM.CMD) (hc : ∀ s, exec c s = .next (s.onDev fun d => d.portWrite m .mram 0 R.MRAM.CMD w))
    (ht : (if d.mram.job ≠ .none then d.mramResult m 2 else d.storeOp m op r) = t) : Runs c d t.done := by
  refine Runs.block (by decide) (by decide) h (by decide) hc ?_
  subst hw
  exact (Dev.mramCmd_keyed hop hr).trans ht

theorem ofNat_command (n a b : Nat) (h : n = a) : BitVec.ofNat 32 (n + b) = BitVec.ofNat 32 (a + b) := by rw [h]

section
variable (h : d.CanWrite m .mram 0 R.MRAM.CMD)
include h

theorem Runs.mramWrite (ht : (if d.mram.job ≠ .none then d.mramResult m 2 else d.mramWrite m) = t) : Runs (.mramWrite m) d t.done :=
  Runs.storeCmd (op := 1) (r := 0) (by decide) (by decide) rfl h (fun _ => rfl) ht

variable (r : Fin 16)

theorem Runs.srWrite (ht : (if d.mram.job ≠ .none then d.mramResult m 2 else d.srWriteCmd m r) = t) : Runs (.srWrite m r) d t.done :=
  Runs.storeCmd (op := 2) (by decide) r.isLt rfl h (fun _ => rfl) ht

theorem Runs.srRead (ht : (if d.mram.job ≠ .none then d.mramResult m 2 else d.srReadCmd m r) = t) : Runs (.srRead m r) d t.done :=
  Runs.storeCmd (op := 3) (by decide) r.isLt rfl h (fun _ => rfl) ht

theorem Runs.srRescan (ht : (if d.mram.job ≠ .none then d.mramResult m 2 else d.srRescanCmd m r) = t) : Runs (.srRescan m r) d t.done :=
  Runs.storeCmd (op := 4) (by decide) r.isLt rfl h (fun _ => rfl) ht

end

/-- A command that is accepted leaves a job that has started. -/
theorem starts_of_runs (hrun : Runs c d t.done) (ht : d.StoreStarts m j t) : ∃ t, Runs c d t ∧ t.mram.job = j ∧
    t.flag (pg .mram) F.MRAM.STATUS_JOB = true ∧ bitAt (t.reg (pg .mram) R.MRAM.CMD_STATUS m.cls).toNat 0 = true ∧
    bitsOf (t.reg (pg .mram) R.MRAM.CMD_STATUS m.cls).toNat 4 4 = 0 ∧ t.mem = d.mem ∧ t.keys = d.keys := ⟨t.done, hrun, ht.done⟩

theorem if_idle (h : d.mram.job = .none) {a b : Dev} : (if d.mram.job ≠ .none then a else b) = b := if_neg fun hne => hne h

end

end Sys2Proof.Machine
end

section
/-!
PROOFS. Slot rings of the parameter store: their enabling and their scan (R505–R507).
-/
namespace Sys2Proof.Machine

theorem FieldsApart.at_any {f g : Fld} (hofs : f.ofs = g.ofs) (h : FieldsApart f g) (q r : Nat) : FieldsApart (f.at q) (g.at r) := by
  simp only [FieldsApart, Fld.at] at h ⊢
  omega

/-- A word with bit 0 set, as SR_ENABLE writes it, holds the word's other fields. -/
theorem bitsOf_or_one (w : Word) {lo : Nat} (k : Nat) (h : 1 ≤ lo) : bitsOf (w ||| 1#32).toNat lo k = bitsOf w.toNat lo k := by
  have hone : 1 >>> lo = 0 := by
    rw [Nat.shiftRight_eq_div_pow]
    exact Nat.div_eq_of_lt (Nat.one_lt_two_pow (by omega))
  rw [bitsOf, bitsOf, BitVec.toNat_or, Nat.shiftRight_or_distrib, show (1#32).toNat = 1 from rfl, hone, Nat.or_zero]

theorem bitAt_or_one (w : Word) : bitAt (w ||| 1#32).toNat 0 = true := by
  rw [bitAt_eq_testBit, BitVec.toNat_or, Nat.testBit_or]
  simp

/-- The high twelve bits of a word. -/
theorem div_eq_bitsOf (w : Word) : w.toNat / 1048576 = bitsOf w.toNat 20 12 := by
  have hw := w.isLt
  simp only [bitsOf, Nat.shiftRight_eq_div_pow]
  omega

namespace Dev

/-! ## SR_CFG (R505, R510) -/

section
variable {d e : Dev} {m : Master} {r : Nat} {w : Word}

/-- The fields that an enabled ring keeps, as the word has them. -/
def SameRing (w old : Word) : Prop :=
  bitsOf w.toNat 4 14 = bitsOf old.toNat 4 14 ∧ bitsOf w.toNat 20 12 = bitsOf old.toNat 20 12

theorem srCfgWrite_on (h : d.srOn r = true) : d.srCfgWrite m r (w ||| 1#32) =
    if (w ||| 1#32).toNat / 2 ≠ (d.reg (pg .mram) (R.MRAM.SR_CFG + 4 * r)).toNat / 2 ∧
      (bitsOf (w ||| 1#32).toNat 4 14 ≠ bitsOf (d.reg (pg .mram) (R.MRAM.SR_CFG + 4 * r)).toNat 4 14 ∨
        (w ||| 1#32).toNat / 1048576 ≠ (d.reg (pg .mram) (R.MRAM.SR_CFG + 4 * r)).toNat / 1048576)
    then d.refuse m (pg .mram) (R.MRAM.SR_CFG + 4 * r) else d := by
  simp only [srCfgWrite, h, if_true, bitAt_or_one]

theorem srCfgWrite_same (h : d.srOn r = true) (hsame : SameRing w (d.reg (pg .mram) (R.MRAM.SR_CFG + 4 * r))) :
    d.srCfgWrite m r (w ||| 1#32) = d := by
  obtain ⟨hbase, hsize⟩ := hsame
  rw [srCfgWrite_on h, div_eq_bitsOf, div_eq_bitsOf, bitsOf_or_one w 14 (by decide), bitsOf_or_one w 12 (by decide), hbase, hsize]
  exact if_neg fun ⟨_, hne⟩ => hne.elim (fun hne => hne rfl) fun hne => hne rfl

theorem srCfgWrite_moved (h : d.srOn r = true) (hother : ¬SameRing w (d.reg (pg .mram) (R.MRAM.SR_CFG + 4 * r))) :
    d.srCfgWrite m r (w ||| 1#32) = d.refuse m (pg .mram) (R.MRAM.SR_CFG + 4 * r) := by
  have hparts := Decidable.not_and_iff_or_not.mp hother
  have hhalf : (w ||| 1#32).toNat / 2 ≠ (d.reg (pg .mram) (R.MRAM.SR_CFG + 4 * r)).toNat / 2 := by
    intro heq
    have hbits : ∀ lo k, 1 ≤ lo → bitsOf w.toNat lo k = bitsOf (d.reg (pg .mram) (R.MRAM.SR_CFG + 4 * r)).toNat lo k := fun lo k hlo => by
      obtain ⟨lo, rfl⟩ : ∃ lo', lo = 1 + lo' := ⟨lo - 1, by omega⟩
      rw [← bitsOf_or_one w k hlo, bitsOf, bitsOf, Nat.shiftRight_add, Nat.shiftRight_add, Nat.shiftRight_one, Nat.shiftRight_one, heq]
    exact hother ⟨hbits 4 14 (by decide), hbits 20 12 (by decide)⟩
  rw [srCfgWrite_on h, div_eq_bitsOf, div_eq_bitsOf, bitsOf_or_one w 14 (by decide), bitsOf_or_one w 12 (by decide)]
  exact if_pos ⟨hhalf, hparts⟩

/-- The fields of a ring that is not enabled, from a word within their ranges. -/
def ringTaken (d : Dev) (r : Nat) (w : Word) : Dev :=
  ((d.setFld (pg .mram) (F.MRAM.SR_CFG_BASE.at r) (bitsOf w.toNat 4 14)).setFld (pg .mram) (F.MRAM.SR_CFG_SLOT_LOG.at r)
    (bitsOf w.toNat 20 4)).setFld (pg .mram) (F.MRAM.SR_CFG_NM1.at r) (bitsOf w.toNat 24 8)

/-- The ring enabled: its scan starts, or waits for the job. -/
def ringEnabled (e : Dev) (r : Nat) : Dev :=
  let e := e.setFlag (pg .mram) (F.MRAM.SR_CFG_EN.at r) true
  if e.mram.job = .none then e.scanStart (.scan r) r else e.modMram (fun s => { s with scanQ := s.scanQ ++ [r] })

theorem srCfgWrite_off (h : d.srOn r = false) (hlog : 4 ≤ bitsOf w.toNat 20 4 ∧ bitsOf w.toNat 20 4 ≤ 8) (hcount : 1 ≤ bitsOf w.toNat 24 8) :
    d.srCfgWrite m r (w ||| 1#32) =
      if !(d.ringTaken r w).srConfigOk r then (d.ringTaken r w).event (pg .mram) F.MRAM.EVENT_CFG_BAD else (d.ringTaken r w).ringEnabled r := by
  simp only [srCfgWrite, h, Bool.false_eq_true, if_false, bitAt_or_one, bitsOf_or_one w 14 (show 1 ≤ 4 by decide),
    bitsOf_or_one w 4 (show 1 ≤ 20 by decide), bitsOf_or_one w 8 (show 1 ≤ 24 by decide), if_pos hlog, if_pos hcount, Bool.not_true]
  rfl

/-- A ring's configuration stands: the registers of all sixteen. -/
def RingsKept (d e : Dev) : Prop := ∀ q < 16, e.reg (pg .mram) (R.MRAM.SR_CFG + 4 * q) = d.reg (pg .mram) (R.MRAM.SR_CFG + 4 * q)

theorem RingsKept.fld (h : RingsKept d e) {q : Nat} (hq : q < 16) {f : Fld} (hf : f.ofs = R.MRAM.SR_CFG) :
    e.fld (pg .mram) (f.at q) = d.fld (pg .mram) (f.at q) :=
  fld_of_reg (by
    rw [show (f.at q).ofs = R.MRAM.SR_CFG + 4 * q by rw [← hf]; rfl]
    exact h q hq)

theorem RingsKept.srArea (h : RingsKept d e) {q : Nat} (hq : q < 16) : e.srArea q = d.srArea q := by
  simp only [Dev.srArea, slotCount, slotSize, h.fld hq (show F.MRAM.SR_CFG_BASE.ofs = R.MRAM.SR_CFG from rfl),
    h.fld hq (show F.MRAM.SR_CFG_NM1.ofs = R.MRAM.SR_CFG from rfl), h.fld hq (show F.MRAM.SR_CFG_SLOT_LOG.ofs = R.MRAM.SR_CFG from rfl)]

theorem RingsKept.srOn (h : RingsKept d e) {q : Nat} (hq : q < 16) : e.srOn q = d.srOn q := flag_of_fld (h.fld hq rfl)

theorem RingsKept.trans {f : Dev} (h : RingsKept d e) (h' : RingsKept e f) : RingsKept d f := fun q hq => (h' q hq).trans (h q hq)

/-- The checks of a ring depend on its own fields, and on the areas of the other enabled rings. -/
theorem srConfigOk_congr (hr : r < 16) (hfld : ∀ q < 16, ∀ f : Fld, f.ofs = R.MRAM.SR_CFG → FieldsApart f F.MRAM.SR_CFG_EN →
    e.fld (pg .mram) (f.at q) = d.fld (pg .mram) (f.at q)) (hon : ∀ q < 16, q ≠ r → e.srOn q = d.srOn q) :
    e.srConfigOk r = d.srConfigOk r := by
  have hlog : ∀ q < 16, e.fld (pg .mram) (F.MRAM.SR_CFG_SLOT_LOG.at q) = d.fld (pg .mram) (F.MRAM.SR_CFG_SLOT_LOG.at q) := fun q hq =>
    hfld q hq _ rfl (by decide)
  have hcount : ∀ q < 16, e.fld (pg .mram) (F.MRAM.SR_CFG_NM1.at q) = d.fld (pg .mram) (F.MRAM.SR_CFG_NM1.at q) := fun q hq =>
    hfld q hq _ rfl (by decide)
  have harea : ∀ q < 16, e.srArea q = d.srArea q := fun q hq => by
    simp only [Dev.srArea, slotCount, slotSize, hlog q hq, hcount q hq, hfld q hq F.MRAM.SR_CFG_BASE rfl (by decide)]
  have hall : ∀ q ∈ List.range 16, (q == r || !e.srOn q || !areasMeet (e.srArea r) (e.srArea q)) =
      (q == r || !d.srOn q || !areasMeet (d.srArea r) (d.srArea q)) := fun q hq => by
    have hq := List.mem_range.mp hq
    by_cases hqr : q = r
    · rw [hqr, beq_self_eq_true, Bool.true_or, Bool.true_or]
      rfl
    · rw [hon q hq hqr, harea r hr, harea q hq]
  have hlist : ((List.range 16).all fun q => q == r || !e.srOn q || !areasMeet (e.srArea r) (e.srArea q)) =
      (List.range 16).all fun q => q == r || !d.srOn q || !areasMeet (d.srArea r) (d.srArea q) := by
    rw [Bool.eq_iff_iff, List.all_eq_true, List.all_eq_true]
    exact forall₂_congr fun q hq => by rw [hall q hq]
  rw [srConfigOk, srConfigOk, hlist, harea r hr, hlog r hr, hcount r hr, slotSize, slotSize, hlog r hr]

/-! ### What a write of SR_CFG leaves -/

theorem ringTaken_fields (d : Dev) (r : Nat) (w : Word) : (d.ringTaken r w).fld (pg .mram) (F.MRAM.SR_CFG_BASE.at r) = bitsOf w.toNat 4 14 ∧
    (d.ringTaken r w).fld (pg .mram) (F.MRAM.SR_CFG_SLOT_LOG.at r) = bitsOf w.toNat 20 4 ∧
    (d.ringTaken r w).fld (pg .mram) (F.MRAM.SR_CFG_NM1.at r) = bitsOf w.toNat 24 8 ∧
    (d.ringTaken r w).srOn r = d.srOn r := by
  have hlt : ∀ lo k, bitsOf w.toNat lo k % 2 ^ k = bitsOf w.toNat lo k := fun lo k => Nat.mod_mod _ _
  have hapart : ∀ {f g : Fld}, FieldsApart f g → FieldsApart (f.at r) (g.at r) := fun h => h.at r
  rw [ringTaken]
  refine ⟨?_, ?_, ?_, ?_⟩
  · rw [fld_setFld_apart _ _ (hapart (by decide)), fld_setFld_apart _ _ (hapart (by decide)), fld_setFld_self _ _ _ _ (fits_at r (by decide))]
    exact hlt 4 14
  · rw [fld_setFld_apart _ _ (hapart (by decide)), fld_setFld_self _ _ _ _ (fits_at r (by decide))]
    exact hlt 20 4
  · rw [fld_setFld_self _ _ _ _ (fits_at r (by decide))]
    exact hlt 24 8
  · rw [srOn, flag_setFld_apart _ _ (hapart (by decide)), flag_setFld_apart _ _ (hapart (by decide)), flag_setFld_apart _ _ (hapart (by decide))]
    rfl

theorem area_ringTaken (d : Dev) (r : Nat) (w : Word) :
    (d.ringTaken r w).srArea r = (16 * bitsOf w.toNat 4 14, (bitsOf w.toNat 24 8 + 1) * 2 ^ bitsOf w.toNat 20 4) := by
  obtain ⟨hbase, hlog, hcount, -⟩ := ringTaken_fields d r w
  rw [srArea, slotCount, slotSize, hbase, hlog, hcount]

theorem ringsKept_event (e : Dev) : RingsKept e (e.event (pg .mram) F.MRAM.EVENT_CFG_BAD) := fun q _ =>
  reg_event_apart e (show R.MRAM.SR_CFG + 4 * q ≠ 0x014 by simp only [R.MRAM.SR_CFG]; omega)

theorem ringsKept_setJob (e : Dev) (j : MramJob) : RingsKept e (e.setJob j) := fun q _ =>
  reg_setFlag_apart (e.modMram _) _ (show R.MRAM.SR_CFG + 4 * q ≠ 0x010 by simp only [R.MRAM.SR_CFG]; omega)

/-- A field of SR_STATUS is another register than SR_CFG of any ring. -/
theorem ringsKept_status (e : Dev) (r v : Nat) {f : Fld} (hf : f.ofs = R.MRAM.SR_STATUS) : RingsKept e (e.setFld (pg .mram) (f.at r) v) :=
  fun q hq => reg_setFld_apart e _ (show R.MRAM.SR_CFG + 4 * q ≠ f.ofs + 4 * r by rw [hf]; simp only [R.MRAM.SR_CFG, R.MRAM.SR_STATUS]; omega)

theorem ringsKept_scanStart (e : Dev) (j : MramJob) (r : Nat) : RingsKept e (e.scanStart j r) :=
  (ringsKept_setJob e j).trans (ringsKept_status (e.setJob j) r (b2n true) rfl)

/-- EN of a ring is no other ring's, and no other field of a ring. -/
theorem config_setEn (e : Dev) (r : Nat) : (∀ q < 16, ∀ f : Fld, f.ofs = R.MRAM.SR_CFG → FieldsApart f F.MRAM.SR_CFG_EN →
    (e.setFlag (pg .mram) (F.MRAM.SR_CFG_EN.at r) true).fld (pg .mram) (f.at q) = e.fld (pg .mram) (f.at q)) ∧
    (∀ q < 16, q ≠ r → (e.setFlag (pg .mram) (F.MRAM.SR_CFG_EN.at r) true).srOn q = e.srOn q) ∧
    (e.setFlag (pg .mram) (F.MRAM.SR_CFG_EN.at r) true).srOn r = true := by
  refine ⟨fun q _ f hf hapart => fld_setFlag_apart e _ (hapart.at_any (by rw [hf]; rfl) q r), fun q _ hne => ?_, ?_⟩
  · exact flag_setFlag_apart e _ (.inl (by simp only [Fld.at]; omega))
  · exact flag_setFlag_self e _ _ _ (fits_at r (by decide)) (show 0 < F.MRAM.SR_CFG_EN.w by decide)

theorem srConfigOk_of_kept (hr : r < 16) (h : RingsKept d e) : e.srConfigOk r = d.srConfigOk r :=
  srConfigOk_congr hr (fun _ hq _ hf _ => h.fld hq hf) fun _ hq _ => h.srOn hq

/-- What SR_ENABLE of a ring that is off leaves: its area, EN where its checks hold, and the scan that follows. -/
def RingSet (d : Dev) (r : Nat) (w : Word) (t : Dev) : Prop :=
  t.mem = d.mem ∧ t.keys = d.keys ∧ t.srArea r = (16 * bitsOf w.toNat 4 14, (bitsOf w.toNat 24 8 + 1) * 2 ^ bitsOf w.toNat 20 4) ∧
    t.srOn r = t.srConfigOk r ∧ (t.srConfigOk r = false → t.flag (pg .mram) F.MRAM.EVENT_CFG_BAD = true ∧ t.mram = d.mram) ∧
    (t.srConfigOk r = true → d.mram.job = .none → t.mram.job = .scan r ∧ t.flag (pg .mram) (F.MRAM.SR_STATUS_SCANNING.at r) = true) ∧
    (t.srConfigOk r = true → d.mram.job ≠ .none → t.mram = { d.mram with scanQ := d.mram.scanQ ++ [r] })

theorem RingSet.done {t : Dev} (h : RingSet d r w t) : RingSet d r w t.done := h

theorem mram_ringTaken : (d.ringTaken r w).mram = d.mram ∧ (d.ringTaken r w).mem = d.mem ∧ (d.ringTaken r w).keys = d.keys := by simp [ringTaken]

theorem ringSet_bad (hr : r < 16) (hoff : d.srOn r = false) (hbad : (d.ringTaken r w).srConfigOk r = false) :
    RingSet d r w ((d.ringTaken r w).event (pg .mram) F.MRAM.EVENT_CFG_BAD) := by
  have hkept := ringsKept_event (d.ringTaken r w)
  have hok := (srConfigOk_of_kept hr hkept).trans hbad
  have hstill := (hkept.srOn hr).trans ((ringTaken_fields d r w).2.2.2.trans hoff)
  refine ⟨by simp [ringTaken], by simp [ringTaken], (hkept.srArea hr).trans (area_ringTaken d r w), hstill.trans hok.symm, fun _ => ⟨?_, by simp [ringTaken]⟩,
    fun h => ?_, fun h => ?_⟩
  · exact flag_event_self _ _ _ (by decide) (by decide)
  · rw [hok] at h
    exact Bool.noConfusion h
  · rw [hok] at h
    exact Bool.noConfusion h

/-- Enabling keeps the ring's checks and its area. -/
theorem ringEnabled_config (e : Dev) (hr : r < 16) : (e.ringEnabled r).srConfigOk r = e.srConfigOk r ∧ (e.ringEnabled r).srArea r = e.srArea r ∧
    (e.ringEnabled r).srOn r = true := by
  obtain ⟨hfld, hon, hself⟩ := config_setEn e r
  have hok := srConfigOk_congr hr hfld hon
  have harea : (e.setFlag (pg .mram) (F.MRAM.SR_CFG_EN.at r) true).srArea r = e.srArea r := by
    rw [srArea, slotCount, slotSize, hfld r hr _ rfl (by decide), hfld r hr _ rfl (by decide), hfld r hr _ rfl (by decide)]
    rfl
  have hkept : RingsKept (e.setFlag (pg .mram) (F.MRAM.SR_CFG_EN.at r) true) (e.ringEnabled r) := by
    simp only [ringEnabled]
    split
    · exact ringsKept_scanStart _ _ r
    · exact fun _ _ => rfl
  exact ⟨(srConfigOk_of_kept hr hkept).trans hok, (hkept.srArea hr).trans harea, (hkept.srOn hr).trans hself⟩

theorem ringEnabled_idle (e : Dev) (h : e.mram.job = .none) :
    e.ringEnabled r = (e.setFlag (pg .mram) (F.MRAM.SR_CFG_EN.at r) true).scanStart (.scan r) r := if_pos h

theorem ringEnabled_busy (e : Dev) (h : e.mram.job ≠ .none) :
    e.ringEnabled r = (e.setFlag (pg .mram) (F.MRAM.SR_CFG_EN.at r) true).modMram fun s => { s with scanQ := s.scanQ ++ [r] } := if_neg h

theorem ringSet_ok (hr : r < 16) (hok : (d.ringTaken r w).srConfigOk r = true) : RingSet d r w ((d.ringTaken r w).ringEnabled r) := by
  obtain ⟨hsame, harea, hon⟩ := ringEnabled_config (d.ringTaken r w) hr
  have hstill := hsame.trans hok
  have hstores : ((d.ringTaken r w).ringEnabled r).mem = d.mem ∧ ((d.ringTaken r w).ringEnabled r).keys = d.keys := by
    simp only [ringEnabled]
    split
    · simp [scanStart, ringTaken]
    · simp [ringTaken, modMram]
  refine ⟨hstores.1, hstores.2, harea.trans (area_ringTaken d r w), hon.trans hstill.symm, fun h => ?_, fun _ hjob => ?_, fun _ hjob => ?_⟩
  · rw [hstill] at h
    exact Bool.noConfusion h
  · rw [ringEnabled_idle (d.ringTaken r w) (by rw [mram_ringTaken.1, hjob])]
    exact ⟨rfl, flag_setFlag_self _ _ _ _ (fits_at r (by decide)) (show 0 < F.MRAM.SR_STATUS_SCANNING.w by decide)⟩
  · rw [ringEnabled_busy (d.ringTaken r w) (by rw [mram_ringTaken.1]; exact hjob), ← (mram_ringTaken (d := d) (r := r) (w := w)).1]
    rfl

theorem ringSet_srCfgWrite (hr : r < 16) (hoff : d.srOn r = false) (hlog : 4 ≤ bitsOf w.toNat 20 4 ∧ bitsOf w.toNat 20 4 ≤ 8)
    (hcount : 1 ≤ bitsOf w.toNat 24 8) : RingSet d r w (d.srCfgWrite m r (w ||| 1#32)) := by
  rw [srCfgWrite_off hoff hlog hcount]
  cases hok : (d.ringTaken r w).srConfigOk r with
  | false => exact ringSet_bad hr hoff hok
  | true => exact ringSet_ok hr hok

end

end Dev

theorem Runs.srEnable {d t : Dev} {m : Master} {r : Fin 16} {w : Word} (h : d.CanWrite m .mram 0 (R.MRAM.SR_CFG + 4 * r.val))
    (ht : d.srCfgWrite m r (w ||| 1#32) = t) : Runs (.srEnable m r w) d t.done := by
  have hr := r.isLt
  have hbase : R.MRAM.SR_CFG = 0x140 := rfl
  have hcmd : R.MRAM.SR_CFG + 4 * r.val ≠ R.MRAM.CMD := by simp only [R.MRAM.SR_CFG, R.MRAM.CMD]; omega
  have hindex : (R.MRAM.SR_CFG + 4 * r.val - R.MRAM.SR_CFG) / 4 = r.val := by omega
  refine Runs.block (by decide) (by decide) h (by omega) (fun _ => rfl) ?_
  show d.mramPageWrite m (R.MRAM.SR_CFG + 4 * r.val) (w ||| 1#32) = t
  rw [Dev.mramPageWrite, if_neg hcmd, if_pos (by omega), hindex]
  exact ht

end Sys2Proof.Machine
end

section
/-!
PROOFS. The end of a scan, of a plain write and of a slot read (R499–R503, R507, R509).
-/
namespace Sys2Proof.Machine
namespace Dev

/-! ## The end of a job -/

section
variable {d e : Dev} {r q : Nat}

theorem reg_setJob (d : Dev) (j : MramJob) {o : Nat} (ho : o ≠ 0x010) : (d.setJob j).reg (pg .mram) o = d.reg (pg .mram) o :=
  reg_setFlag_apart (d.modMram fun s => { s with job := j, jobAt := d.now }) _ ho

theorem jobNext_alone (h : d.mram.scanQ = []) : d.jobNext = d.setJob .none := by
  have hq : (d.setJob .none).mram.scanQ = [] := h
  simp only [jobNext, hq]

theorem srScanDone_early (h : d.now < d.mram.jobAt + d.mramClocks) (ue : List Nat) : d.srScanDone ue = d := by
  have hnot : d.mramDue = false := decide_eq_false (Nat.not_le.mpr h)
  rw [srScanDone, hnot]
  rfl

theorem mramDone_early (h : d.now < d.mram.jobAt + d.mramClocks) (f : MramFacts) : d.mramDone f = d := by
  have hnot : d.mramDue = false := decide_eq_false (Nat.not_le.mpr h)
  rw [mramDone, hnot]
  rfl

section
variable (hdue : d.mram.jobAt + d.mramClocks ≤ d.now)
include hdue

theorem mramDue_eq : d.mramDue = true := decide_eq_true hdue

theorem srScanDone_scan (h : d.mram.job = .scan q) (ue : List Nat) : d.srScanDone ue = (d.scanEnd q ue).jobNext := by
  simp only [srScanDone, mramDue_eq hdue, h, Bool.not_true, Bool.false_eq_true, if_false]

theorem srScanDone_other (hscan : ∀ q, d.mram.job ≠ .scan q) (hrescan : ∀ w q, d.mram.job ≠ .rescan w q) (ue : List Nat) :
    d.srScanDone ue = d := by
  simp only [srScanDone, mramDue_eq hdue, Bool.not_true, Bool.false_eq_true, if_false]

theorem mramDone_none (h : d.mram.job = .none ∨ ∃ q, d.mram.job = .scan q) (f : MramFacts) : d.mramDone f = d := by
  simp only [mramDone, mramDue_eq hdue, Bool.not_true, Bool.false_eq_true, if_false]
  rcases h with h | ⟨q, h⟩
  · simp only [h]
  · simp only [h]

end

/-! ## A scan (R506, R507) -/

/-- A scan's count of the valid slots. -/
def slotsCounted (d : Dev) (q : Nat) (good : List Nat) : Dev :=
  (d.setFld (pg .mram) (F.MRAM.SR_STATUS_VALID.at q) good.length).setFlag (pg .mram) (F.MRAM.SR_STATUS_EMPTY.at q) good.isEmpty

/-- The newest slot that a scan has found, shown. -/
def newestShown (d : Dev) (q : Nat) : Option Nat → Dev
  | none => d
  | some t => (d.setFld (pg .mram) (F.MRAM.SR_STATUS_NEWEST.at q) t).setReg (pg .mram) (R.MRAM.SR_NSEQ + 4 * q) (BitVec.ofNat 32 (d.slotSeq q t))

/-- The valid slots of a ring, none of them uncorrectable. -/
def goodSlots (d : Dev) (q : Nat) : List Nat := (List.range (d.slotCount q)).filter fun t => d.slotValid q t []

/-- A scan's end, with no job after it. -/
def scanClosed (e : Dev) (q : Nat) : Dev :=
  ((e.setFlag (pg .mram) (F.MRAM.SR_STATUS_SCANNING.at q) false).event (pg .mram) F.MRAM.EVENT_SR_SCANNED).setJob .none

theorem scanRing_clean (d : Dev) (q : Nat) : d.scanRing q [] =
    (d.slotsCounted q (d.goodSlots q)).newestShown q ((d.slotsCounted q (d.goodSlots q)).newestSlot q (d.goodSlots q)) := by
  have hnone : ∀ l : List Nat, l.filterMap (fun _ => (none : Option Nat)) = [] := fun l => by simp
  simp only [scanRing, List.find?_nil, hnone]
  rw [each, List.foldl_nil]
  cases hnew : (d.slotsCounted q (d.goodSlots q)).newestSlot q (d.goodSlots q) with
  | none =>
    rw [slotsCounted, goodSlots] at hnew
    simp only [hnew]
    rfl
  | some t =>
    rw [slotsCounted, goodSlots] at hnew
    simp only [hnew]
    rfl

theorem ringsKept_slotsCounted (d : Dev) (q : Nat) (good : List Nat) : RingsKept d (d.slotsCounted q good) :=
  (ringsKept_status d q good.length rfl).trans (ringsKept_status _ q (b2n good.isEmpty) rfl)

theorem slotSeq_of_kept (h : RingsKept d e) (hmem : e.mem = d.mem) (hq : q < 16) (t : Nat) : e.slotSeq q t = d.slotSeq q t := by
  rw [slotSeq, slotSeq, slotOfs, slotOfs, slotSize, slotSize, h.srArea hq, h.fld hq rfl, hmem]

/-- The newer of the newest slot so far and another one. -/
def newerStep (d : Dev) (r : Nat) (best : Option Nat) (t : Nat) : Option Nat :=
  match best with
  | none => some t
  | some b => if sub32 (d.slotSeq r t) (d.slotSeq r b) < 2147483648 then some t else some b

theorem newestSlot_eq (d : Dev) (r : Nat) (l : List Nat) : d.newestSlot r l = l.foldl (d.newerStep r) none := rfl

theorem newerStep_congr (h : ∀ t, e.slotSeq r t = d.slotSeq r t) : e.newerStep r = d.newerStep r := by
  funext best t
  cases best with
  | none => rfl
  | some b => simp only [newerStep, h]

theorem newestSlot_mem (d : Dev) (r : Nat) (l : List Nat) {b : Nat} (h : d.newestSlot r l = some b) : b ∈ l := by
  have hall : ∀ b, l.foldl (d.newerStep r) none = some b → b ∈ l :=
    List.foldlRecOn (motive := fun best => ∀ b, best = some b → b ∈ l) l _ (fun b hb => nomatch hb) fun best hbest t ht b hb => by
      cases best with
      | none =>
        obtain rfl := Option.some.inj hb
        exact ht
      | some c =>
        simp only [newerStep] at hb
        split at hb
        · obtain rfl := Option.some.inj hb
          exact ht
        · obtain rfl := Option.some.inj hb
          exact hbest c rfl
  exact hall b h

/-- SR_STATUS of a ring as the end of the scan leaves it, and what lies elsewhere. -/
theorem scanClosed_regs (e : Dev) (q : Nat) : (∀ f : Fld, f.ofs = R.MRAM.SR_STATUS → FieldsApart f F.MRAM.SR_STATUS_SCANNING →
    (e.scanClosed q).fld (pg .mram) (f.at q) = e.fld (pg .mram) (f.at q)) ∧
    (e.scanClosed q).reg (pg .mram) (R.MRAM.SR_NSEQ + 4 * q) = e.reg (pg .mram) (R.MRAM.SR_NSEQ + 4 * q) ∨ 16 ≤ q := by
  by_cases hq : 16 ≤ q
  · exact .inr hq
  · refine .inl ⟨fun f hf hapart => ?_, ?_⟩
    · have hofs : (f.at q).ofs ≠ 0x010 ∧ (f.at q).ofs ≠ 0x014 := by
        simp only [Fld.at, hf, R.MRAM.SR_STATUS]
        omega
      rw [scanClosed, fld_of_reg (reg_setJob _ _ hofs.1), fld_event_apart _ (.inl hofs.2), fld_setFlag_apart _ _ (hapart.at q)]
    · have hofs : R.MRAM.SR_NSEQ + 4 * q ≠ 0x010 ∧ R.MRAM.SR_NSEQ + 4 * q ≠ 0x014 ∧ R.MRAM.SR_NSEQ + 4 * q ≠ 0x180 + 4 * q := by
        simp only [R.MRAM.SR_NSEQ]
        omega
      rw [scanClosed, reg_setJob _ _ hofs.1, reg_event_apart _ hofs.2.1, reg_setFlag_apart _ _ hofs.2.2]

theorem scanClosed_flags (e : Dev) (q : Nat) : (e.scanClosed q).flag (pg .mram) (F.MRAM.SR_STATUS_SCANNING.at q) = false ∧
    (e.scanClosed q).flag (pg .mram) F.MRAM.EVENT_SR_SCANNED = true ∧ (e.scanClosed q).mram.job = .none ∧ (e.scanClosed q).mem = e.mem ∧
    (e.scanClosed q).keys = e.keys := by
  refine ⟨?_, ?_, rfl, by simp [scanClosed], by simp [scanClosed]⟩
  · have hofs : (F.MRAM.SR_STATUS_SCANNING.at q).ofs ≠ 0x010 ∧ (F.MRAM.SR_STATUS_SCANNING.at q).ofs ≠ 0x014 := by
      simp only [Fld.at, F.MRAM.SR_STATUS_SCANNING]
      omega
    rw [scanClosed, flag_of_fld (fld_of_reg (reg_setJob _ _ hofs.1)), flag_event_apart _ (.inl hofs.2),
      flag_setFlag_self e _ (F.MRAM.SR_STATUS_SCANNING.at q) _ (fits_at q (by decide)) (show 0 < F.MRAM.SR_STATUS_SCANNING.w by decide)]
  · rw [scanClosed, flag_of_fld (fld_of_reg (reg_setJob _ _ (by decide)))]
    exact flag_event_self _ _ _ (by decide) (by decide)

theorem slotCount_le (d : Dev) (q : Nat) : d.slotCount q ≤ 256 := by
  have hlt : d.fld (pg .mram) (F.MRAM.SR_CFG_NM1.at q) < 2 ^ 8 := bitsOf_lt _ _ _
  rw [slotCount]
  omega

/-- What the newest slot's showing leaves of SR_STATUS. -/
theorem newestShown_fld (d : Dev) (q : Nat) (best : Option Nat) {f : Fld} (hf : f.ofs = R.MRAM.SR_STATUS)
    (hapart : FieldsApart f F.MRAM.SR_STATUS_NEWEST) : (d.newestShown q best).fld (pg .mram) (f.at q) = d.fld (pg .mram) (f.at q) := by
  cases best with
  | none => rfl
  | some t =>
    have hofs : (f.at q).ofs ≠ R.MRAM.SR_NSEQ + 4 * q := by
      simp only [Fld.at, hf, R.MRAM.SR_STATUS, R.MRAM.SR_NSEQ]
      omega
    rw [newestShown, fld_setReg_apart _ _ hofs, fld_setFld_apart _ _ (hapart.at q)]

theorem newestShown_some (d : Dev) (q b : Nat) (hb : b < 256) :
    (d.newestShown q (some b)).fld (pg .mram) (F.MRAM.SR_STATUS_NEWEST.at q) = b ∧
      (d.newestShown q (some b)).reg (pg .mram) (R.MRAM.SR_NSEQ + 4 * q) = BitVec.ofNat 32 (d.slotSeq q b) := by
  have hofs : (F.MRAM.SR_STATUS_NEWEST.at q).ofs ≠ R.MRAM.SR_NSEQ + 4 * q := by
    simp only [Fld.at, F.MRAM.SR_STATUS_NEWEST, R.MRAM.SR_NSEQ]
    omega
  rw [newestShown]
  refine ⟨?_, reg_setReg_self ..⟩
  rw [fld_setReg_apart _ _ hofs, fld_setFld_self _ _ _ _ (fits_at q (by decide))]
  exact Nat.mod_eq_of_lt hb

theorem slotsCounted_fields (d : Dev) (q : Nat) {good : List Nat} (h : good.length ≤ 256) :
    (d.slotsCounted q good).fld (pg .mram) (F.MRAM.SR_STATUS_VALID.at q) = good.length ∧
      (d.slotsCounted q good).flag (pg .mram) (F.MRAM.SR_STATUS_EMPTY.at q) = good.isEmpty := by
  have hapart : FieldsApart F.MRAM.SR_STATUS_VALID F.MRAM.SR_STATUS_EMPTY := by decide
  rw [slotsCounted]
  refine ⟨?_, flag_setFlag_self _ _ _ _ (fits_at q (by decide)) (show 0 < F.MRAM.SR_STATUS_EMPTY.w by decide)⟩
  rw [fld_setFlag_apart _ _ (hapart.at q), fld_setFld_self _ _ _ _ (fits_at q (by decide))]
  exact Nat.mod_eq_of_lt (show good.length < 2 ^ 9 by omega)

/-- What a scan's end leaves of a ring. -/
def ScanShown (d : Dev) (q : Nat) (t : Dev) : Prop :=
  t.mem = d.mem ∧ t.keys = d.keys ∧ t.mram.job = .none ∧ t.flag (pg .mram) (F.MRAM.SR_STATUS_SCANNING.at q) = false ∧
    t.flag (pg .mram) F.MRAM.EVENT_SR_SCANNED = true ∧ t.fld (pg .mram) (F.MRAM.SR_STATUS_VALID.at q) = (d.goodSlots q).length ∧
    t.flag (pg .mram) (F.MRAM.SR_STATUS_EMPTY.at q) = (d.goodSlots q).isEmpty ∧
    ∀ b, d.newestSlot q (d.goodSlots q) = some b → b ∈ d.goodSlots q ∧ t.fld (pg .mram) (F.MRAM.SR_STATUS_NEWEST.at q) = b ∧
      t.reg (pg .mram) (R.MRAM.SR_NSEQ + 4 * q) = BitVec.ofNat 32 (d.slotSeq q b)

theorem stores_newestShown (d : Dev) (q : Nat) (best : Option Nat) : (d.newestShown q best).mem = d.mem ∧ (d.newestShown q best).keys = d.keys ∧
    (d.newestShown q best).mram = d.mram := by
  cases best with
  | none => exact ⟨rfl, rfl, rfl⟩
  | some t => simp [newestShown]

theorem scanShown_scanEnd (hq : q < 16) (h : d.mram.scanQ = []) : ScanShown d q (d.scanEnd q []).jobNext := by
  have hkept := ringsKept_slotsCounted d q (d.goodSlots q)
  have hseq : ∀ t, (d.slotsCounted q (d.goodSlots q)).slotSeq q t = d.slotSeq q t := slotSeq_of_kept hkept (by simp [slotsCounted]) hq
  have hnewest : (d.slotsCounted q (d.goodSlots q)).newestSlot q (d.goodSlots q) = d.newestSlot q (d.goodSlots q) := by
    rw [newestSlot_eq, newestSlot_eq, newerStep_congr hseq]
  have hring : d.scanRing q [] = (d.slotsCounted q (d.goodSlots q)).newestShown q (d.newestSlot q (d.goodSlots q)) := by
    rw [scanRing_clean, hnewest]
  obtain ⟨smem, skeys, smram⟩ := stores_newestShown (d.slotsCounted q (d.goodSlots q)) q (d.newestSlot q (d.goodSlots q))
  have hclosed : (d.scanEnd q []).jobNext = (d.scanRing q []).scanClosed q := by
    have hqueue : (d.scanEnd q []).mram.scanQ = [] := by
      rw [scanEnd, hring]
      exact (congrArg MramS.scanQ smram).trans h
    rw [jobNext_alone hqueue]
    rfl
  have hcount : (d.goodSlots q).length ≤ 256 :=
    (List.length_filter_le _ _).trans ((List.length_range (n := d.slotCount q)).le.trans (slotCount_le d q))
  obtain ⟨cvalid, cempty⟩ := slotsCounted_fields d q hcount
  rw [hclosed, hring]
  set e := (d.slotsCounted q (d.goodSlots q)).newestShown q (d.newestSlot q (d.goodSlots q)) with he
  obtain ⟨hstatus, hnseq⟩ := (scanClosed_regs e q).resolve_right (by omega)
  obtain ⟨fscan, fevent, fjob, fmem, fkeys⟩ := scanClosed_flags e q
  have evalid : e.fld (pg .mram) (F.MRAM.SR_STATUS_VALID.at q) = (d.goodSlots q).length := (newestShown_fld _ q _ rfl (by decide)).trans cvalid
  have eempty : e.flag (pg .mram) (F.MRAM.SR_STATUS_EMPTY.at q) = (d.goodSlots q).isEmpty :=
    (flag_of_fld (newestShown_fld _ q _ rfl (by decide))).trans cempty
  refine ⟨fmem.trans (smem.trans (by simp [slotsCounted])), fkeys.trans (skeys.trans (by simp [slotsCounted])), fjob, fscan, fevent,
    (hstatus _ rfl (by decide)).trans evalid, (flag_of_fld (hstatus _ rfl (by decide))).trans eempty, fun b hb => ?_⟩
  have hmem := newestSlot_mem d q _ hb
  have hlt : b < 256 := (List.mem_range.mp (List.mem_filter.mp hmem).1).trans_le (slotCount_le d q)
  obtain ⟨nnewest, nseq⟩ := newestShown_some (d.slotsCounted q (d.goodSlots q)) q b hlt
  rw [← hb, ← he] at nnewest nseq
  exact ⟨hmem, (hstatus _ rfl (by decide)).trans nnewest, hnseq.trans (nseq.trans (by rw [hseq]))⟩

end

/-! ## The end of a command (R500) -/

section
variable {d e : Dev} {w : Master} {r : Nat}

/-- What a command's end leaves: the result, no job, and the command counted. -/
def CommandEnded (d : Dev) (w : Master) (r : Nat) (t : Dev) : Prop :=
  bitAt (t.reg (pg .mram) R.MRAM.CMD_STATUS w.cls).toNat 0 = false ∧ bitsOf (t.reg (pg .mram) R.MRAM.CMD_STATUS w.cls).toNat 4 4 = r ∧
    t.mem = d.mem ∧ t.keys = d.keys ∧ t.mram.job = .none ∧ t.flag (pg .mram) F.MRAM.EVENT_DONE = true ∧
    t.reg (pg .mram) R.MRAM.COMMANDS = d.reg (pg .mram) R.MRAM.COMMANDS + 1 ∧ t.mram.stalled = d.mram.stalled ∧
    ∀ o < 0x1000, o ≠ R.MRAM.CMD_STATUS → t.reg (pg .mram) o w.cls = d.reg (pg .mram) o w.cls

theorem mramEnd_eq (h : d.mram.scanQ = []) : d.mramEnd w r =
    ((((d.setFld (mramBank w) F.MRAM.CMD_STATUS_BUSY 0).setFld (mramBank w) F.MRAM.CMD_STATUS_RESULT r).event (pg .mram) F.MRAM.EVENT_DONE).bump
      (pg .mram) R.MRAM.COMMANDS).setJob .none := by
  have hqueue : ((((d.setFld (mramBank w) F.MRAM.CMD_STATUS_BUSY 0).setFld (mramBank w) F.MRAM.CMD_STATUS_RESULT r).event (pg .mram)
      F.MRAM.EVENT_DONE).bump (pg .mram) R.MRAM.COMMANDS).mram.scanQ = [] := by simpa using h
  rw [mramEnd, mramResult, setBankFld_eq, setBankFld_eq]
  exact jobNext_alone hqueue

theorem commandEnded_mramEnd (h : d.mram.scanQ = []) (hr : r < 16) : CommandEnded d w r (d.mramEnd w r) := by
  obtain ⟨hne, hne'⟩ := mramBank_ne w
  have hbank : ∀ o < 0x1000, (d.mramEnd w r).reg (mramBank w) o =
      ((d.setFld (mramBank w) F.MRAM.CMD_STATUS_BUSY 0).setFld (mramBank w) F.MRAM.CMD_STATUS_RESULT r).reg (mramBank w) o := fun o ho => by
    rw [mramEnd_eq h, reg_setJob_bank _ w _ ho, reg_of_pageRegs (pageRegs_bump _ _ ⟨hne, by decide⟩) ho,
      reg_of_pageRegs (pageRegs_event _ ⟨hne, by decide⟩) ho]
  have hown : ∀ o < 0x1000, ((d.setFld (mramBank w) F.MRAM.CMD_STATUS_BUSY 0).setFld (mramBank w) F.MRAM.CMD_STATUS_RESULT r).reg (pg .mram) o =
      d.reg (pg .mram) o := fun o ho => by
    rw [reg_of_pageRegs (pageRegs_setFld _ _ ⟨hne', by decide⟩) ho, reg_of_pageRegs (pageRegs_setFld _ _ ⟨hne', by decide⟩) ho]
  refine ⟨?_, ?_, by simp, by simp, by rw [mramEnd_eq h]; rfl, ?_, ?_, by rw [mramEnd_eq h]; simp [setJob, modMram], fun o ho hst => ?_⟩
  · rw [busy_eq, flag_of_fld (fld_of_reg (hbank _ (by decide))), flag_setFld_apart _ _ (by decide), flag_setFld_self _ _ _ _ (by decide)]
    rfl
  · rw [result_eq, fld_of_reg (hbank _ (by decide)), fld_setFld_self _ _ _ _ (by decide)]
    exact Nat.mod_eq_of_lt hr
  · rw [mramEnd_eq h, flag_of_fld (fld_of_reg (reg_setJob _ _ (by decide))), flag_bump_apart _ (by decide)]
    exact flag_event_self _ _ _ (by decide) (by decide)
  · rw [mramEnd_eq h, reg_setJob _ _ (by decide), reg_bump_self, reg_event_apart _ (by decide), hown _ (by decide)]
    rfl
  · rw [reg_mramBank, reg_mramBank, hbank o ho, reg_setFld_apart _ _ hst, reg_setFld_apart _ _ hst]

theorem serveStalled_none (h : d.mram.stalled = []) : d.serveStalled = d.modMram fun s => { s with stalled := [] } := by
  rw [serveStalled, h]
  rfl

end

/-! ## The units of a plain write (R499–R501) -/

/-- A byte after a run of bytes has been written. -/
theorem byte_writeBytes (l : List Byte) (m : Mem) (a b : Nat) :
    (m.writeBytes a l).byte b = if a ≤ b ∧ b < a + l.length then l.getD (b - a) 0 else m.byte b := by
  induction l generalizing m a with
  | nil =>
    rw [if_neg (by simp only [List.length_nil]; omega)]
    rfl
  | cons x l ih =>
    rw [Mem.writeBytes, ih, Mem.byte_setByte]
    simp only [List.length_cons]
    by_cases hin : a + 1 ≤ b ∧ b < a + 1 + l.length
    · rw [if_pos hin, if_pos (by omega), show b - a = b - (a + 1) + 1 by omega, List.getD_cons_succ]
    · rw [if_neg hin]
      by_cases hba : b = a
      · rw [if_pos hba, if_pos (by omega), hba, Nat.sub_self, List.getD_cons_zero]
      · rw [if_neg hba, if_neg (by omega)]

section
variable {d : Dev} {y : Nat} {l : List Nat}

/-- The part of a run of bytes that a unit takes. -/
def unitBytes (y : Nat) (l : List Nat) (u : Nat) : List Byte :=
  (sub l (max y (8 * u) - y) (min (y + l.length) (8 * u + 8) - max y (8 * u))).map (BitVec.ofNat 8)

theorem putUnit_mem (d : Dev) (y : Nat) (l : List Nat) (u : Nat) :
    (d.putUnit y l u).mem = Mem.writeBytes d.mem (mramBase + max y (8 * u)) (unitBytes y l u) := rfl

theorem length_unitBytes (y : Nat) (l : List Nat) (u : Nat) :
    (unitBytes y l u).length = min (y + l.length) (8 * u + 8) - max y (8 * u) := by
  rw [unitBytes, List.length_map, sub, List.length_take, List.length_drop]
  omega

/-- A byte of the run is written with its unit, and with no other. -/
theorem byte_putUnit_inside (d : Dev) (u : Nat) {j : Nat} (hj : j < l.length) :
    Mem.byte (d.putUnit y l u).mem (mramBase + y + j) =
      if (y + j) / 8 = u then BitVec.ofNat 8 (l.getD j 0) else Mem.byte d.mem (mramBase + y + j) := by
  rw [putUnit_mem, byte_writeBytes, length_unitBytes]
  by_cases hu : (y + j) / 8 = u
  · have hk : mramBase + y + j - (mramBase + max y (8 * u)) = y + j - max y (8 * u) := by omega
    have hlt : y + j - max y (8 * u) < (unitBytes y l u).length := by
      rw [length_unitBytes]
      omega
    rw [if_pos (by omega), if_pos hu, hk, List.getD_eq_getElem _ _ hlt, List.getD_eq_getElem _ _ hj]
    simp only [unitBytes, sub, List.getElem_map, List.getElem_take, List.getElem_drop]
    congr 2
    omega
  · rw [if_neg (by omega), if_neg hu]

theorem byte_putUnit_outside (d : Dev) (u : Nat) {a : Nat} (h : a < mramBase + y ∨ mramBase + y + l.length ≤ a) :
    Mem.byte (d.putUnit y l u).mem a = Mem.byte d.mem a := by
  rw [putUnit_mem, byte_writeBytes, length_unitBytes, if_neg (by omega)]

/-- A byte of the run holds its value once its unit has been written, and then keeps it. -/
theorem byte_each_putUnit (us : List Nat) (d : Dev) {j : Nat} (hj : j < l.length)
    (h : (y + j) / 8 ∈ us ∨ Mem.byte d.mem (mramBase + y + j) = BitVec.ofNat 8 (l.getD j 0)) :
    Mem.byte (d.each us fun d u => d.putUnit y l u).mem (mramBase + y + j) = BitVec.ofNat 8 (l.getD j 0) := by
  induction us generalizing d with
  | nil => exact h.resolve_left List.not_mem_nil
  | cons u us ih =>
    rw [each_cons]
    refine ih _ ?_
    rw [byte_putUnit_inside d u hj]
    by_cases hu : (y + j) / 8 = u
    · exact .inr (if_pos hu)
    · rw [if_neg hu]
      exact h.imp_left fun hin => (List.mem_cons.mp hin).resolve_left hu

theorem unit_mem_unitsOf {j : Nat} (hj : j < l.length) : (y + j) / 8 ∈ unitsOf y l.length := by
  refine List.mem_map.mpr ⟨(y + j) / 8 - y / 8, List.mem_range.mpr ?_, ?_⟩
  · omega
  · omega

variable {w : Master} {f : MramFacts}

/-- A plain write with all its units, verified. -/
def unitsVerified (d : Dev) (w : Master) (y : Nat) (l : List Nat) (k : Nat) : Dev :=
  (((d.each (unitsOf y l.length) fun d u => d.putUnit y l u).bump (pg .mram) R.MRAM.VERIFY_RETRIES k).setFld (mramBank w)
    F.MRAM.CMD_STATUS_UNITS (unitsOf y l.length).length)

theorem verifyUnits_write (hjob : d.mram.job = .write w y l) (hbad : f.bad = none) :
    d.verifyUnits w f = (d.unitsVerified w y l (f.retries + b2n false), true) := by
  have hwrites : d.jobWrites = some (y, l, unitsOf y l.length) := by simp only [jobWrites, hjob]
  simp only [verifyUnits, hwrites, hbad, Option.map_none, Option.filter_none, writeUnits, List.take_length, setBankFld_eq]
  rfl

theorem unitsVerified_spec (d : Dev) (w : Master) (y : Nat) (l : List Nat) (k : Nat) : let e := d.unitsVerified w y l k
    (∀ j < l.length, Mem.byte e.mem (mramBase + y + j) = BitVec.ofNat 8 (l.getD j 0)) ∧
      (∀ a, a < mramBase + y ∨ mramBase + y + l.length ≤ a → Mem.byte e.mem a = Mem.byte d.mem a) ∧ e.keys = d.keys ∧
      e.reg (pg .mram) R.MRAM.COMMANDS = d.reg (pg .mram) R.MRAM.COMMANDS ∧ e.mram = d.mram := by
  intro e
  have hmem : e.mem = (d.each (unitsOf y l.length) fun d u => d.putUnit y l u).mem := by simp [e, unitsVerified]
  refine ⟨fun j hj => ?_, fun a ha => ?_, ?_, ?_, ?_⟩
  · rw [hmem]
    exact byte_each_putUnit _ d hj (.inl (unit_mem_unitsOf hj))
  · rw [hmem]
    exact each_keeps (fun e => Mem.byte e.mem a) d _ _ fun e u _ => byte_putUnit_outside e u ha
  · simp [e, unitsVerified]
  · simp only [e, unitsVerified]
    rw [reg_of_pageRegs (pageRegs_setFld _ _ ⟨(mramBank_ne w).2, by decide⟩) (by decide), reg_bump_apart _ (by decide)]
    exact each_keeps (reg · (pg .mram) R.MRAM.COMMANDS) d _ _ fun _ _ _ => rfl
  · simp only [e, unitsVerified, setFld_frame, bump_frame]
    exact each_keeps Dev.mram d _ _ fun _ _ _ => rfl

end

end Dev
end Sys2Proof.Machine
end

section
/-!
PROOFS. The completion of a command, a read of the window, and the statement of the parameter store (R496–R509).
-/
namespace Sys2Proof.Machine
namespace Dev

section
variable {d : Dev} {w : Master} {f : MramFacts}

/-! ## A plain write that holds (R499, R501) -/

/-- What a plain write that holds leaves: its bytes and no other, and the command ended. -/
def WriteHeld (d : Dev) (w : Master) (y : Nat) (l : List Nat) (t : Dev) : Prop :=
  (∀ j < l.length, Mem.byte t.mem (mramBase + y + j) = BitVec.ofNat 8 (l.getD j 0)) ∧
    (∀ a, a < mramBase + y ∨ mramBase + y + l.length ≤ a → Mem.byte t.mem a = Mem.byte d.mem a) ∧ t.keys = d.keys ∧
    bitAt (t.reg (pg .mram) R.MRAM.CMD_STATUS w.cls).toNat 0 = false ∧ bitsOf (t.reg (pg .mram) R.MRAM.CMD_STATUS w.cls).toNat 4 4 = 0 ∧
    t.mram.job = .none ∧ t.flag (pg .mram) F.MRAM.EVENT_DONE = true ∧
    t.reg (pg .mram) R.MRAM.COMMANDS = d.reg (pg .mram) R.MRAM.COMMANDS + 1

theorem mramDone_write {y : Nat} {l : List Nat} (hdue : d.mram.jobAt + d.mramClocks ≤ d.now) (hjob : d.mram.job = .write w y l)
    (hbad : f.bad = none) : d.mramDone f = ((d.unitsVerified w y l (f.retries + b2n false)).mramEnd w 0).serveStalled := by
  simp only [mramDone, mramDue_eq hdue, Bool.not_true, Bool.false_eq_true, if_false, hjob, verifyUnits_write hjob hbad, if_true]

theorem writeHeld_mramDone {y : Nat} {l : List Nat} (hdue : d.mram.jobAt + d.mramClocks ≤ d.now) (hscan : d.mram.scanQ = [])
    (hstalled : d.mram.stalled = []) (hjob : d.mram.job = .write w y l) (hbad : f.bad = none) : WriteHeld d w y l (d.mramDone f) := by
  obtain ⟨vin, vout, vkeys, vcount, vmram⟩ := unitsVerified_spec d w y l (f.retries + b2n false)
  rw [mramDone_write hdue hjob hbad]
  generalize d.unitsVerified w y l (f.retries + b2n false) = e at *
  obtain ⟨ebusy, eresult, emem, ekeys, ejob, edone, ecount, estalled, -⟩ :=
    commandEnded_mramEnd (w := w) (show e.mram.scanQ = [] by rw [vmram, hscan]) (show 0 < 16 by decide)
  rw [serveStalled_none (estalled.trans (by rw [vmram, hstalled]))]
  generalize e.mramEnd w 0 = t at *
  refine ⟨fun j hj => ?_, fun a ha => ?_, ekeys.trans vkeys, ebusy, eresult, ejob, edone, ecount.trans (by rw [vcount])⟩
  · exact (congrArg (Mem.byte · _) emem).trans (vin j hj)
  · exact (congrArg (Mem.byte · a) emem).trans (vout a ha)

/-! ## A slot read (R509) -/

theorem srReadDo_empty {q : Nat} (h : d.flag (pg .mram) (F.MRAM.SR_STATUS_EMPTY.at q) = true) (ue : List Nat) : d.srReadDo w q ue = (d, false) := by
  simp only [srReadDo, h, Bool.true_or, if_true]

/-- The payload of a slot in a master's buffer. -/
def bufFilled (d : Dev) (w : Master) (q b : Nat) : Dev :=
  d.each (List.range ((d.slotSize q - 8) / 4)) fun e i =>
    e.setReg (mramBank w) (R.MRAM.BUF + 4 * i) (Mem.word e.mem (mramBase + d.slotOfs q b + 8 + 4 * i))

/-- The newest slot read by a master. -/
def slotRead (d : Dev) (w : Master) (q b : Nat) : Dev :=
  (d.bufFilled w q b).setReg (mramBank w) R.MRAM.SR_SEQ (BitVec.ofNat 32 ((d.bufFilled w q b).slotSeq q b))

theorem srReadDo_valid {q : Nat} {ue : List Nat} (h : d.flag (pg .mram) (F.MRAM.SR_STATUS_EMPTY.at q) = false)
    (hvalid : d.slotValid q (d.fld (pg .mram) (F.MRAM.SR_STATUS_NEWEST.at q)) ue = true) :
    d.srReadDo w q ue = (d.slotRead w q (d.fld (pg .mram) (F.MRAM.SR_STATUS_NEWEST.at q)), true) := by
  simp only [srReadDo, h, hvalid, Bool.or_true, if_true, Bool.false_eq_true, if_false, setReg_mramBank]
  rfl

theorem mem_bufFilled (d : Dev) (w : Master) (q b : Nat) : (d.bufFilled w q b).mem = d.mem ∧ (d.bufFilled w q b).keys = d.keys ∧
    (d.bufFilled w q b).mram = d.mram :=
  ⟨each_keeps Dev.mem d _ _ fun _ _ _ => rfl, each_keeps Dev.keys d _ _ fun _ _ _ => rfl, each_keeps Dev.mram d _ _ fun _ _ _ => rfl⟩

/-- The words of the buffer come from memory as it was. -/
theorem each_words_mem (d : Dev) (p o a n : Nat) : d.each (List.range n) (fun e i => e.setReg p (o + 4 * i) (Mem.word e.mem (a + 4 * i))) =
    d.each (List.range n) fun e i => e.setReg p (o + 4 * i) (Mem.word d.mem (a + 4 * i)) := by
  induction n with
  | zero => rfl
  | succ n ih =>
    have hmem : (d.each (List.range n) fun e i => e.setReg p (o + 4 * i) (Mem.word d.mem (a + 4 * i))).mem = d.mem :=
      each_keeps Dev.mem d _ _ fun _ _ _ => rfl
    rw [each, each, List.range_succ, List.foldl_concat, List.foldl_concat]
    rw [each, each] at ih
    rw [each] at hmem
    rw [ih, hmem]

theorem reg_bufFilled (d : Dev) (w : Master) (q b : Nat) {k : Nat} (hk : k < (d.slotSize q - 8) / 4) :
    (d.bufFilled w q b).reg (mramBank w) (R.MRAM.BUF + 4 * k) = Mem.word d.mem (mramBase + d.slotOfs q b + 8 + 4 * k) := by
  rw [bufFilled, each_words_mem]
  exact reg_each_words d _ _ _ _ hk

theorem ringsKept_bufFilled (d : Dev) (w : Master) {q : Nat} (hsize : d.slotSize q ≤ 256) (b : Nat) : RingsKept d (d.bufFilled w q b) := by
  intro i hi
  refine each_keeps (reg · (pg .mram) (R.MRAM.SR_CFG + 4 * i)) d _ _ fun e k hk => ?_
  have hk := List.mem_range.mp hk
  have hofs : R.MRAM.BUF + 4 * k < 0x1000 ∧ R.MRAM.SR_CFG + 4 * i < 0x1000 := by
    simp only [R.MRAM.BUF, R.MRAM.SR_CFG]
    omega
  exact reg_of_pageRegs (pageRegs_setReg e _ ⟨(mramBank_ne w).2, hofs.1⟩) hofs.2

/-- What a slot read leaves in the master's registers. -/
def SlotCopied (d : Dev) (w : Master) (q b : Nat) (t : Dev) : Prop :=
  bitsOf (t.reg (pg .mram) R.MRAM.CMD_STATUS w.cls).toNat 4 4 = 0 ∧ t.mem = d.mem ∧ t.keys = d.keys ∧
    (∀ k < (d.slotSize q - 8) / 4, t.reg (pg .mram) (R.MRAM.BUF + 4 * k) w.cls = Mem.word d.mem (mramBase + d.slotOfs q b + 8 + 4 * k)) ∧
    t.reg (pg .mram) R.MRAM.SR_SEQ w.cls = BitVec.ofNat 32 (d.slotSeq q b)

/-- The slot's words and its SEQ stand in the master's registers. -/
def SlotHeld (d : Dev) (w : Master) (q b : Nat) (e : Dev) : Prop :=
  (∀ k < (d.slotSize q - 8) / 4, e.reg (mramBank w) (R.MRAM.BUF + 4 * k) = Mem.word d.mem (mramBase + d.slotOfs q b + 8 + 4 * k)) ∧
    e.reg (mramBank w) R.MRAM.SR_SEQ = BitVec.ofNat 32 (d.slotSeq q b) ∧ e.mem = d.mem ∧ e.keys = d.keys ∧ e.mram = d.mram

theorem slotHeld_slotRead (d : Dev) (w : Master) {q : Nat} (hq : q < 16) (hsize : d.slotSize q ≤ 256) (b : Nat) :
    SlotHeld d w q b (d.slotRead w q b) := by
  obtain ⟨hmem, hkeys, hmram⟩ := mem_bufFilled d w q b
  have hseq := slotSeq_of_kept (ringsKept_bufFilled d w hsize b) hmem hq b
  rw [slotRead, hseq]
  refine ⟨fun k hk => ?_, reg_setReg_self .., hmem, hkeys, hmram⟩
  have hofs : R.MRAM.BUF + 4 * k ≠ R.MRAM.SR_SEQ := by
    simp only [R.MRAM.BUF, R.MRAM.SR_SEQ]
    omega
  exact (reg_setReg_apart _ _ hofs).trans (reg_bufFilled d w q b hk)

theorem SlotHeld.mramEnd {q b : Nat} {e : Dev} (h : SlotHeld d w q b e) (hscan : d.mram.scanQ = []) (hsize : d.slotSize q ≤ 256) :
    SlotCopied d w q b (e.mramEnd w 0) := by
  obtain ⟨hbuf, hseq, hmem, hkeys, hmram⟩ := h
  obtain ⟨-, eresult, emem, ekeys, -, -, -, -, ekept⟩ :=
    commandEnded_mramEnd (w := w) (show e.mram.scanQ = [] by rw [hmram, hscan]) (show 0 < 16 by decide)
  refine ⟨eresult, emem.trans hmem, ekeys.trans hkeys, fun k hk => ?_, ?_⟩
  · have hofs : R.MRAM.BUF + 4 * k < 0x1000 ∧ R.MRAM.BUF + 4 * k ≠ R.MRAM.CMD_STATUS := by
      simp only [R.MRAM.BUF, R.MRAM.CMD_STATUS]
      omega
    rw [ekept _ hofs.1 hofs.2, reg_mramBank, hbuf k hk]
  · rw [ekept _ (by decide) (by decide), reg_mramBank, hseq]

theorem mramDone_srRead {q : Nat} {e : Dev} {found : Bool} (hdue : d.mram.jobAt + d.mramClocks ≤ d.now) (hjob : d.mram.job = .srRead w q)
    (hx : d.srReadDo w q (f.ue.map (·.val)) = (e, found)) : d.mramDone f = e.mramEnd w (if found then 0 else 7) := by
  simp only [mramDone, mramDue_eq hdue, Bool.not_true, Bool.false_eq_true, if_false, hjob, hx]

theorem mramDone_found {q : Nat} {e : Dev} (hdue : d.mram.jobAt + d.mramClocks ≤ d.now) (hjob : d.mram.job = .srRead w q)
    (hx : d.srReadDo w q (f.ue.map (·.val)) = (e, true)) : d.mramDone f = e.mramEnd w 0 := by
  rw [mramDone_srRead hdue hjob hx, if_pos rfl]

theorem mramDone_notFound {q : Nat} {e : Dev} (hdue : d.mram.jobAt + d.mramClocks ≤ d.now) (hjob : d.mram.job = .srRead w q)
    (hx : d.srReadDo w q (f.ue.map (·.val)) = (e, false)) : d.mramDone f = e.mramEnd w 7 := by
  rw [mramDone_srRead hdue hjob hx, if_neg Bool.false_ne_true]

theorem slotCopied_mramDone {q : Nat} (hq : q < 16) (hdue : d.mram.jobAt + d.mramClocks ≤ d.now) (hscan : d.mram.scanQ = [])
    (hjob : d.mram.job = .srRead w q) (hfull : d.flag (pg .mram) (F.MRAM.SR_STATUS_EMPTY.at q) = false) (hsize : d.slotSize q ≤ 256)
    (hvalid : d.slotValid q (d.fld (pg .mram) (F.MRAM.SR_STATUS_NEWEST.at q)) (f.ue.map (·.val)) = true) :
    SlotCopied d w q (d.fld (pg .mram) (F.MRAM.SR_STATUS_NEWEST.at q)) (d.mramDone f) := by
  rw [mramDone_found hdue hjob (srReadDo_valid hfull hvalid)]
  exact (slotHeld_slotRead d w hq hsize _).mramEnd hscan hsize

/-- A slot read of an empty ring ends with result 7. -/
theorem emptyRead_mramDone {q : Nat} (hdue : d.mram.jobAt + d.mramClocks ≤ d.now) (hscan : d.mram.scanQ = [])
    (hjob : d.mram.job = .srRead w q) (hempty : d.flag (pg .mram) (F.MRAM.SR_STATUS_EMPTY.at q) = true) : CommandEnded d w 7 (d.mramDone f) := by
  rw [mramDone_notFound hdue hjob (srReadDo_empty hempty _)]
  exact commandEnded_mramEnd hscan (by decide)

end

/-! ## A read of the window (R496, R503) -/

section
variable {d : Dev} {m : Master} {x n : Nat} {flaw : Flaw} {bit : Nat}

theorem windowRead_refused (hlive : d.busLive = true) (h : ¬(d.reaches m (mramBase + x) n false = true ∧ x % n = 0)) :
    d.windowRead (.master m) x n flaw bit = d.busFault m := by
  have hno : (d.reaches m (mramBase + x) n false && decide (x % n = 0)) = false := by simpa using h
  simp only [windowRead, hlive, hno, Bool.not_true, Bool.not_false, Bool.false_eq_true, if_false, if_true]

section
variable (hlive : d.busLive = true) (h : d.reaches m (mramBase + x) n false = true ∧ x % n = 0)
include hlive h

theorem windowRead_free (hjob : d.jobWrites = none) :
    d.windowRead (.master m) x n flaw bit = d.windowServe (.master m) (mramBase + x) n flaw bit := by
  have hmay : (d.reaches m (mramBase + x) n false && decide (x % n = 0)) = true := by simpa using h
  simp only [windowRead, hlive, hmay, hjob, Bool.not_true, Bool.false_eq_true, if_false]

theorem windowRead_waits {b : Nat} {l us : List Nat} (hjob : d.jobWrites = some (b, l, us)) (hmeet : areasMeet (x, n) (b, l.length) = true) :
    d.windowRead (.master m) x n flaw bit =
      d.modMram fun s => { s with stalled := s.stalled ++ [(.master m, mramBase + x, n, flaw, bit)] } := by
  have hmay : (d.reaches m (mramBase + x) n false && decide (x % n = 0)) = true := by simpa using h
  simp only [windowRead, hlive, hmay, hjob, hmeet, Bool.not_true, Bool.false_eq_true, if_false, if_true]

end

theorem windowServe_unit (x : Nat) : (mramBase + x - mramBase) / 8 = x / 8 := by rw [Nat.add_sub_cancel_left]

theorem windowServe_clean : d.windowServe (.master m) (mramBase + x) n .clean bit =
    { d with bus := .data (BitVec.ofNat 32 (Mem.read d.mem (mramBase + x) n)) } := rfl

theorem windowServe_single : d.windowServe (.master m) (mramBase + x) n .single bit =
    { ((d.bump (pg .mram) R.MRAM.CORRECTED).setReg (pg .mram) R.MRAM.ECC_LAST (BitVec.ofNat 32 (x / 8 + 65536 * bit))) with
      bus := .data (BitVec.ofNat 32 (Mem.read d.mem (mramBase + x) n)) } := by
  simp [windowServe]

theorem windowServe_double : d.windowServe (.master m) (mramBase + x) n .double bit =
    ((d.bump (pg .mram) R.MRAM.UE_COUNT).raise .mram 0 B.MRAM.MRAM_UE (x / 8)).busFault m := by
  simp only [windowServe, windowServe_unit]

end

end Dev

/-! ## The clauses -/

section
variable {d : Dev} {m : Master}

theorem mramWrite_clause (h : d.CanWrite m .mram 0 R.MRAM.CMD) (hidle : d.mram.job = .none) :
    (d.WriteBad m → Runs (.mramWrite m) d (d.mramResult m 3).done) ∧
    (¬d.WriteBad m → d.mramProtected (d.writeOfs m) (d.writeLen m) = true → Runs (.mramWrite m) d (d.mramResult m 4).done) ∧
    (¬d.WriteBad m → d.mramProtected (d.writeOfs m) (d.writeLen m) = false → d.WriteInRing m → Runs (.mramWrite m) d (d.mramResult m 9).done) ∧
    (¬d.WriteBad m → d.mramProtected (d.writeOfs m) (d.writeLen m) = false → ¬d.WriteInRing m →
      ∃ t, Runs (.mramWrite m) d t ∧ d.StoreStarts m (.write m (d.writeOfs m) (d.bufBytes m (d.writeLen m))) t) :=
  ⟨fun hbad => Runs.mramWrite h ((if_idle hidle).trans (Dev.mramWrite_bad hbad)),
    fun hgood hp => Runs.mramWrite h ((if_idle hidle).trans (Dev.mramWrite_protected hgood hp)),
    fun hgood hp hring => Runs.mramWrite h ((if_idle hidle).trans (Dev.mramWrite_inRing hgood hp hring)),
    fun hgood hp hring => starts_of_runs (Runs.mramWrite h ((if_idle hidle).trans (Dev.mramWrite_starts hgood hp hring)))
      (Dev.storeStarts_mramStart (by simp))⟩

theorem ringCommands_clause (h : d.CanWrite m .mram 0 R.MRAM.CMD) (hidle : d.mram.job = .none) (r : Fin 16) :
    (d.srOn r = false → Runs (.srWrite m r) d (d.mramResult m 6).done ∧ Runs (.srRead m r) d (d.mramResult m 6).done ∧
      Runs (.srRescan m r) d (d.mramResult m 6).done) ∧
    (d.srOn r = true → (∃ t, Runs (.srRead m r) d t ∧ d.StoreStarts m (.srRead m r) t) ∧
      (∃ t, Runs (.srRescan m r) d t ∧ d.StoreStarts m (.rescan m r) t) ∧
      (d.mramProtected (d.slotOfs r (d.slotAfter r)) (d.slotSize r) = true → Runs (.srWrite m r) d (d.mramResult m 4).done) ∧
      (d.mramProtected (d.slotOfs r (d.slotAfter r)) (d.slotSize r) = false → ∃ t, Runs (.srWrite m r) d t ∧
        d.StoreStarts m (.srWrite m r (d.slotAfter r) (d.seqAfter r) (slotImage r (d.seqAfter r) (d.bufBytes m (d.slotSize r - 8)))) t)) := by
  refine ⟨fun hoff => ⟨Runs.srWrite h r ((if_idle hidle).trans (Dev.srWriteCmd_off hoff)),
    Runs.srRead h r ((if_idle hidle).trans (Dev.srReadCmd_off hoff)), Runs.srRescan h r ((if_idle hidle).trans (Dev.srRescanCmd_off hoff))⟩,
    fun hon => ⟨?_, ?_, fun hp => ?_, fun hp => ?_⟩⟩
  · exact starts_of_runs (Runs.srRead h r ((if_idle hidle).trans (Dev.srReadCmd_on hon))) (Dev.storeStarts_mramStart (by simp))
  · exact starts_of_runs (Runs.srRescan h r ((if_idle hidle).trans (Dev.srRescanCmd_on hon)))
      ((Dev.storeStarts_mramStart (by simp)).scanStart r.isLt (by simp))
  · exact Runs.srWrite h r ((if_idle hidle).trans (Dev.srWriteCmd_protected hon hp))
  · exact starts_of_runs (Runs.srWrite h r ((if_idle hidle).trans (Dev.srWriteCmd_starts hon hp))) (Dev.storeStarts_mramStart (by simp))

theorem busyCommands_clause (h : d.CanWrite m .mram 0 R.MRAM.CMD) (hbusy : d.mram.job ≠ .none) :
    Runs (.mramWrite m) d (d.mramResult m 2).done ∧ ∀ r, Runs (.srWrite m r) d (d.mramResult m 2).done ∧
      Runs (.srRead m r) d (d.mramResult m 2).done ∧ Runs (.srRescan m r) d (d.mramResult m 2).done :=
  ⟨Runs.mramWrite h (if_pos hbusy), fun r => ⟨Runs.srWrite h r (if_pos hbusy), Runs.srRead h r (if_pos hbusy), Runs.srRescan h r (if_pos hbusy)⟩⟩

theorem srEnable_clause (r : Fin 16) (w : Word) (h : d.CanWrite m .mram 0 (R.MRAM.SR_CFG + 4 * r.val)) :
    (d.srOn r = true → bitsOf w.toNat 4 14 = bitsOf (d.reg (pg .mram) (R.MRAM.SR_CFG + 4 * r.val)).toNat 4 14 →
      bitsOf w.toNat 20 12 = bitsOf (d.reg (pg .mram) (R.MRAM.SR_CFG + 4 * r.val)).toNat 20 12 → Runs (.srEnable m r w) d d.done) ∧
    (d.srOn r = true → ¬(bitsOf w.toNat 4 14 = bitsOf (d.reg (pg .mram) (R.MRAM.SR_CFG + 4 * r.val)).toNat 4 14 ∧
      bitsOf w.toNat 20 12 = bitsOf (d.reg (pg .mram) (R.MRAM.SR_CFG + 4 * r.val)).toNat 20 12) →
      Runs (.srEnable m r w) d (d.refuse m (pg .mram) (R.MRAM.SR_CFG + 4 * r.val)).done) ∧
    (d.srOn r = false → 4 ≤ bitsOf w.toNat 20 4 → bitsOf w.toNat 20 4 ≤ 8 → 1 ≤ bitsOf w.toNat 24 8 →
      ∃ t, Runs (.srEnable m r w) d t ∧ d.RingSet r w t) :=
  ⟨fun hon hbase hsize => Runs.srEnable h (Dev.srCfgWrite_same hon ⟨hbase, hsize⟩), fun hon hother => Runs.srEnable h (Dev.srCfgWrite_moved hon hother),
    fun hoff hlo hhi hcount => ⟨_, Runs.srEnable h rfl, (Dev.ringSet_srCfgWrite r.isLt hoff ⟨hlo, hhi⟩ hcount).done⟩⟩

theorem Runs.whenLive {c : Instr} {f : Dev → Dev} (hc : ∀ s, exec c s = .next (s.onDev fun d => d.whenLive f)) (h : f d = d) : Runs c d d := by
  refine Runs.dev hc ?_
  cases hlive : d.busLive with
  | false => exact Dev.whenLive_neg hlive
  | true => exact (Dev.whenLive_pos hlive).trans h

theorem window_clause (y : BitVec 18) (size : Fin 3) (flaw : Flaw) (bit : Fin 72) : let a := mramBase + y.toNat
    let sz := 2 ^ size.val
    let may := d.reaches m a sz false = true ∧ y.toNat % sz = 0
    (d.busLive = false → ∀ r, Runs (.mramWindowRead r y size flaw bit) d d) ∧
    (d.busLive = true → ¬may → Runs (.mramWindowRead (.master m) y size flaw bit) d (d.busFault m)) ∧
    (d.busLive = true → may → d.jobWrites = none →
      Runs (.mramWindowRead (.master m) y size .clean bit) d { d with bus := .data (BitVec.ofNat 32 (Mem.read d.mem a sz)) } ∧
      Runs (.mramWindowRead (.master m) y size .single bit) d { ((d.bump (pg .mram) R.MRAM.CORRECTED).setReg (pg .mram) R.MRAM.ECC_LAST
        (BitVec.ofNat 32 (y.toNat / 8 + 65536 * bit.val))) with bus := .data (BitVec.ofNat 32 (Mem.read d.mem a sz)) } ∧
      Runs (.mramWindowRead (.master m) y size .double bit) d
        (((d.bump (pg .mram) R.MRAM.UE_COUNT).raise .mram 0 B.MRAM.MRAM_UE (y.toNat / 8)).busFault m)) ∧
    (∀ b l us, d.busLive = true → may → d.jobWrites = some (b, l, us) → Dev.areasMeet (y.toNat, sz) (b, l.length) = true →
      Runs (.mramWindowRead (.master m) y size flaw bit) d
        (d.modMram (fun s => { s with stalled := s.stalled ++ [(.master m, a, sz, flaw, bit.val)] }))) :=
  ⟨fun hoff _ => Runs.dev (fun _ => rfl) (Dev.whenLive_neg hoff),
    fun hlive hno => Runs.live hlive (fun _ => rfl) (Dev.windowRead_refused hlive hno),
    fun hlive hmay hjob => ⟨Runs.live hlive (fun _ => rfl) ((Dev.windowRead_free hlive hmay hjob).trans Dev.windowServe_clean),
      Runs.live hlive (fun _ => rfl) ((Dev.windowRead_free hlive hmay hjob).trans Dev.windowServe_single),
      Runs.live hlive (fun _ => rfl) ((Dev.windowRead_free hlive hmay hjob).trans Dev.windowServe_double)⟩,
    fun _ _ _ hlive hmay hjob hmeet => Runs.live hlive (fun _ => rfl) (Dev.windowRead_waits hlive hmay hjob hmeet)⟩

theorem commandDone_clause (hlive : d.busLive = true) (hdue : d.mram.jobAt + d.mramClocks ≤ d.now) (hscan : d.mram.scanQ = [])
    (hstalled : d.mram.stalled = []) (f : MramFacts) (hbad : f.bad = none) :
    (∀ w y l, d.mram.job = .write w y l → ∃ t, Runs (.mramCommandDone f) d t ∧ d.WriteHeld w y l t) ∧
    (∀ w q, d.mram.job = .srRead w q → d.flag (pg .mram) (F.MRAM.SR_STATUS_EMPTY.at q) = true →
      ∃ t, Runs (.mramCommandDone f) d t ∧ d.CommandEnded w 7 t) ∧
    (∀ w q, q < 16 → d.mram.job = .srRead w q → d.flag (pg .mram) (F.MRAM.SR_STATUS_EMPTY.at q) = false → d.slotSize q ≤ 256 →
      d.slotValid q (d.fld (pg .mram) (F.MRAM.SR_STATUS_NEWEST.at q)) (f.ue.map (·.val)) = true →
      ∃ t, Runs (.mramCommandDone f) d t ∧ d.SlotCopied w q (d.fld (pg .mram) (F.MRAM.SR_STATUS_NEWEST.at q)) t) :=
  ⟨fun _ _ _ hjob => ⟨_, Runs.live hlive (fun _ => rfl) rfl, Dev.writeHeld_mramDone hdue hscan hstalled hjob hbad⟩,
    fun _ _ hjob hempty => ⟨_, Runs.live hlive (fun _ => rfl) rfl, Dev.emptyRead_mramDone hdue hscan hjob hempty⟩,
    fun _ _ hq hjob hfull hsize hvalid =>
      ⟨_, Runs.live hlive (fun _ => rfl) rfl, Dev.slotCopied_mramDone hq hdue hscan hjob hfull hsize hvalid⟩⟩

end

open Dev in
/-- Settles O55: each command by its first reason, a slot's image by its check, SR_ENABLE by the ring's state, a scan and the completions by the
job, and a read of the window by its flaw. -/
theorem storeCommandsRun : Obligations.StoreCommandsRun := by
  unfold Obligations.StoreCommandsRun
  intro d m
  refine ⟨fun h => ⟨busyCommands_clause h, fun hidle => ⟨mramWrite_clause h hidle, ringCommands_clause h hidle⟩,
    fun ring seq l _ => slotHolds_slotImage ring seq l⟩, srEnable_clause, fun hearly => ⟨fun ue => ?_, fun f => ?_⟩, fun hlive hdue => ?_, window_clause⟩
  · exact Runs.whenLive (fun _ => rfl) (srScanDone_early hearly _)
  · exact Runs.whenLive (fun _ => rfl) (mramDone_early hearly f)
  · refine ⟨fun q hq hjob hscan => ?_, fun hscan hrescan ue => ?_, fun h f => ?_, fun hscan hstalled f hbad => ?_⟩
    · exact ⟨_, Runs.live hlive (fun _ => rfl) (srScanDone_scan hdue hjob _), scanShown_scanEnd hq hscan⟩
    · exact Runs.whenLive (fun _ => rfl) (srScanDone_other hdue hscan hrescan _)
    · exact Runs.whenLive (fun _ => rfl) (mramDone_none hdue h f)
    · obtain ⟨hwrite, hempty, hread⟩ := commandDone_clause hlive hdue hscan hstalled f hbad
      refine ⟨fun w y l hjob _ => hwrite w y l hjob, fun w q _ hjob he => ?_, hread⟩
      obtain ⟨t, hrun, tbusy, tresult, tmem, tkeys, tjob, -⟩ := hempty w q hjob he
      exact ⟨t, hrun, tbusy, tresult, tmem, tkeys, tjob⟩

end Sys2Proof.Machine
end

section
/-!
PROOFS. The networks (R514–R524, R535): the filters, the pending buffers and their winner, and what a frame changes.
-/
namespace Sys2Proof.Machine

/-! ## Filters (R517) -/

-- Checked in its turn, so that the proofs above are complete before the ones below begin.
set_option Elab.async false in
theorem kindAdmits_iff (kind : Nat) (xl : Bool) :
    kindAdmits kind xl = true ↔ kind = 2 ∨ kind = 0 ∧ xl = false ∨ kind = 1 ∧ xl = true := by
  match kind with
  | 0 => simp [kindAdmits]
  | 1 => simp [kindAdmits]
  | 2 => simp [kindAdmits]
  | k + 3 => simp [kindAdmits]

/-- The bits of a mask that count are the 29 of an identifier. -/
theorem idMatches_iff (x id mask : Nat) : idMatches x id mask = true ↔ ∀ j < 29, bitAt mask j = true → bitAt x j = bitAt id j := by
  have hbit : ∀ j, (bitsOf ((x ^^^ id) &&& mask) 0 29).testBit j = (decide (j < 29) && ((x.testBit j ^^ id.testBit j) && mask.testBit j)) :=
    fun j => by rw [testBit_bitsOf, Nat.zero_add, Nat.testBit_and, Nat.testBit_xor]
  simp only [idMatches, beq_iff_eq, bitAt_eq_testBit]
  constructor
  · intro h j hj hmask
    have hzero := hbit j
    rw [h, Nat.zero_testBit, hmask, decide_eq_true hj] at hzero
    simpa using hzero.symm
  · intro h
    refine Nat.eq_of_testBit_eq fun j => ?_
    rw [hbit, Nat.zero_testBit]
    by_cases hj : j < 29
    · cases hmask : mask.testBit j
      · simp
      · simp [h j hj hmask]
    · simp [hj]

namespace Dev

theorem filterMatches_iff (d : Dev) (n i : Nat) (f : CanFrame) : let a := (d.reg (pg .can n) (R.CAN.FILT + 8 * i)).toNat
    let b := (d.reg (pg .can n) (R.CAN.FILT + 8 * i + 4)).toNat
    let kind := bitsOf a 30 2
    d.filterMatches n i f = true ↔ (kind = 2 ∨ kind = 0 ∧ f.fmt ≠ .xl ∨ kind = 1 ∧ f.fmt = .xl) ∧
      ∀ j < 29, bitAt b j = true → bitAt f.id.toNat j = bitAt a j := by
  intro a b kind
  have hxl : (f.fmt == .xl) = true ↔ f.fmt = .xl := beq_iff_eq
  have hnot : (f.fmt == .xl) = false ↔ f.fmt ≠ .xl := by simp
  rw [filterMatches, Bool.and_eq_true, kindAdmits_iff, idMatches_iff, hxl, hnot]

/-! ## The pending buffers (R519) -/

/-- The record that waits in a transmit buffer. -/
abbrev waiting (d : Dev) (c : Net) (k : Nat) : List Word := vget (d.netS c).tx k []

theorem netNo_lt (c : Net) : netNo c < 3 := by
  cases c with
  | can n => exact Nat.lt_succ_of_lt n.isLt
  | t1s => decide

theorem netS_modNet (d : Dev) (c : Net) (f : NetS → NetS) : (d.modNet c f).netS c = f (d.netS c) := vget_vmod_self _ (netNo_lt c) f {}

/-- The buffers that hold something, as a mask of the first `n`. -/
def heldMask (held : Nat → Bool) (n : Nat) : Nat := (List.range n).foldl (fun a k => if held k then a else a + 2 ^ k) 0

theorem heldMask_spec (held : Nat → Bool) (n : Nat) : heldMask held n < 2 ^ n ∧ ∀ k < n, (heldMask held n).testBit k = !held k := by
  induction n with
  | zero => exact ⟨Nat.one_pos, fun k hk => absurd hk (Nat.not_lt_zero k)⟩
  | succ n ih =>
    obtain ⟨hlt, hbits⟩ := ih
    have hstep : heldMask held (n + 1) = if held n then heldMask held n else heldMask held n + 2 ^ n := by
      simp only [heldMask, List.range_succ, List.foldl_append, List.foldl_cons, List.foldl_nil]
    have hpow : 2 ^ (n + 1) = 2 ^ n + 2 ^ n := by rw [pow_succ, Nat.mul_two]
    rw [hstep]
    cases hn : held n with
    | true =>
      refine ⟨by simp only [if_true]; omega, fun k hk => ?_⟩
      simp only [if_true]
      rcases Nat.lt_succ_iff_lt_or_eq.mp hk with h | rfl
      · exact hbits k h
      · rw [hn, Nat.testBit_lt_two_pow hlt]
        rfl
    | false =>
      refine ⟨by simp only [Bool.false_eq_true, if_false]; omega, fun k hk => ?_⟩
      simp only [Bool.false_eq_true, if_false, Nat.add_comm _ (2 ^ n)]
      rcases Nat.lt_succ_iff_lt_or_eq.mp hk with h | rfl
      · rw [Nat.testBit_two_pow_add_gt h, hbits k h]
      · rw [Nat.testBit_two_pow_add_eq, Nat.testBit_lt_two_pow hlt, hn]

theorem bitAt_txPending (d : Dev) (c : Net) {k : Nat} (hk : k < 8) : bitAt (d.txPending c) k = !(d.waiting c k).isEmpty := by
  rw [bitAt_eq_testBit]
  exact (heldMask_spec (fun k => (d.waiting c k).isEmpty) 8).2 k hk

/-- A buffer's record set, beside the registers that show it. -/
def txPut (d : Dev) (c : Net) (k : Nat) (ws : List Word) : Dev := d.modNet c fun s => { s with tx := vmod s.tx k fun _ => ws }

theorem net_setTx (d : Dev) (c : Net) (k : Nat) (ws : List Word) : (d.setTx c k ws).net = (d.txPut c k ws).net := by
  have hset : ∀ (e : Dev) (p : Nat) (f : Fld) (b : Bool), (e.setFlag p f b).net = e.net := fun e p f b => rfl
  have hfld : ∀ (e : Dev) (p : Nat) (f : Fld) (v : Nat), (e.setFld p f v).net = e.net := fun e p f v => rfl
  simp only [setTx, txPut]
  cases c <;> simp only [apply_ite Dev.net, hset, hfld, ite_self]

theorem netS_setTx (d : Dev) (c : Net) (k : Nat) (ws : List Word) :
    (d.setTx c k ws).netS c = { d.netS c with tx := vmod (d.netS c).tx k fun _ => ws } := by
  rw [netS, net_setTx]
  exact netS_modNet d c _

theorem waiting_setTx (d : Dev) (c : Net) {k : Nat} (hk : k < 8) (ws : List Word) (j : Nat) :
    (d.setTx c k ws).waiting c j = if j = k then ws else d.waiting c j := by
  rw [waiting, netS_setTx]
  exact vget_vmod _ hk _ j []

/-- REQ and ABORT of a buffer's record set. -/
def txFlags (d : Dev) (c : Net) (k : Nat) (ws : List Word) : Dev :=
  let e := (d.txPut c k ws).setFlag (netPage c) ⟨R.CAN.TX_CTRL, k, 1⟩ (!ws.isEmpty)
  if ws.isEmpty then e.setFlag (netPage c) ⟨R.CAN.TX_CTRL, 8 + k, 1⟩ false else e

theorem setTx_can (d : Dev) (n : Fin 2) (k : Nat) (ws : List Word) : d.setTx (.can n) k ws =
    (d.txFlags (.can n) k ws).setFld (pg .can n) F.CAN.TX_CTRL_PEND ((d.txFlags (.can n) k ws).txPending (.can n)) := rfl

theorem setTx_t1s (d : Dev) (k : Nat) (ws : List Word) : d.setTx .t1s k ws = d.txFlags .t1s k ws := rfl

/-- A buffer shows in TX_CTRL alone. -/
theorem reg_setTx (d : Dev) (c : Net) (k : Nat) (ws : List Word) {o : Nat} (h : o ≠ R.CAN.TX_CTRL) :
    (d.setTx c k ws).reg (netPage c) o = d.reg (netPage c) o := by
  have hflags : (d.txFlags c k ws).reg (netPage c) o = d.reg (netPage c) o := by
    simp only [txFlags]
    split
    · exact (reg_setFlag_apart _ _ h).trans (reg_setFlag_apart _ _ h)
    · exact reg_setFlag_apart _ _ h
  cases c with
  | can n =>
    rw [setTx_can]
    exact (reg_setFld_apart _ _ h).trans hflags
  | t1s =>
    rw [setTx_t1s]
    exact hflags

/-! ## The winner (R514, R519) -/

/-- The better of the best buffer so far and another one. -/
def lowerStep (key : Nat → Nat) (best : Option Nat) (k : Nat) : Option Nat :=
  match best with
  | none => some k
  | some b => if key k < key b then some k else some b

theorem foldl_lowerStep_mem (key : Nat → Nat) (l : List Nat) : ∀ b, l.foldl (lowerStep key) none = some b → b ∈ l := by
  refine List.foldlRecOn (motive := fun best => ∀ b, best = some b → b ∈ l) l (lowerStep key) (fun b hb => nomatch hb) fun best ih k hk b hb => ?_
  cases best with
  | none => exact Option.some.inj hb ▸ hk
  | some c =>
    simp only [lowerStep] at hb
    split at hb
    · exact Option.some.inj hb ▸ hk
    · exact ih b hb

/-- In a list in rising order the first one of the lowest key wins. -/
theorem foldl_lowerStep (key : Nat → Nat) {l : List Nat} (hl : l.Pairwise (· < ·)) {k : Nat} (hk : k ∈ l)
    (hwins : ∀ j ∈ l, key k < key j ∨ key k = key j ∧ k ≤ j) : l.foldl (lowerStep key) none = some k := by
  obtain ⟨l₁, l₂, rfl⟩ := List.append_of_mem hk
  obtain ⟨-, hright, hcross⟩ := List.pairwise_append.mp hl
  have hhere : lowerStep key (l₁.foldl (lowerStep key) none) k = some k := by
    cases hbest : l₁.foldl (lowerStep key) none with
    | none => rfl
    | some b =>
      have hb := foldl_lowerStep_mem key l₁ b hbest
      have hlt : b < k := hcross b hb k List.mem_cons_self
      have hwin := hwins b (List.mem_append_left _ hb)
      exact if_pos (by omega)
  rw [List.foldl_append, List.foldl_cons, hhere]
  refine List.foldlRecOn (motive := fun best => best = some k) l₂ (lowerStep key) rfl fun best ih j hj => ?_
  have hwin := hwins j (List.mem_append_right _ (List.mem_cons_of_mem k hj))
  subst ih
  exact if_neg (by omega)

/-- The pending buffers in rising order. -/
def pendingBuffers (d : Dev) (c : Net) : List Nat := (List.range 8).filter fun k => bitAt (d.txPending c) k

theorem mem_pendingBuffers {d : Dev} {c : Net} {k : Nat} : k ∈ d.pendingBuffers c ↔ k < 8 ∧ d.waiting c k ≠ [] := by
  rw [pendingBuffers, List.mem_filter, List.mem_range]
  refine and_congr_right fun hk => ?_
  rw [bitAt_txPending d c hk, Bool.not_eq_true', ← Bool.not_eq_true, List.isEmpty_iff]

theorem txWinner_eq (d : Dev) (c : Net) : d.txWinner c = (d.pendingBuffers c).foldl (lowerStep fun k => txKey c (d.waiting c k)) none := rfl

theorem txWinner_none {d : Dev} {c : Net} (h : ∀ k < 8, d.waiting c k = []) : d.txWinner c = none := by
  have hnil : d.pendingBuffers c = [] := List.eq_nil_iff_forall_not_mem.mpr fun k hk => by
    obtain ⟨hlt, hne⟩ := mem_pendingBuffers.mp hk
    exact hne (h k hlt)
  rw [txWinner_eq, hnil]
  rfl

theorem txWinner_some {d : Dev} {c : Net} {k : Nat} (hk : k < 8) (hne : d.waiting c k ≠ [])
    (hwins : ∀ j < 8, d.waiting c j ≠ [] → txKey c (d.waiting c k) < txKey c (d.waiting c j) ∨
      txKey c (d.waiting c k) = txKey c (d.waiting c j) ∧ k ≤ j) : d.txWinner c = some k := by
  rw [txWinner_eq]
  refine foldl_lowerStep _ (List.pairwise_lt_range.filter _) (mem_pendingBuffers.mpr ⟨hk, hne⟩) fun j hj => ?_
  obtain ⟨hlt, hsome⟩ := mem_pendingBuffers.mp hj
  exact hwins j hlt hsome

/-! ## What a failed transmission and the error state change (R514, R519) -/

theorem txFailed_cases (d : Dev) (n : Fin 2) : d.txFailed n = d ∨ ∃ k, d.txFailed n = d.setTx (.can n) k [] := by
  simp only [txFailed]
  split
  · split
    · exact .inr ⟨_, rfl⟩
    · exact .inl rfl
  · exact .inl rfl

theorem reg_txFailed (d : Dev) (n : Fin 2) {o : Nat} (h : o ≠ R.CAN.TX_CTRL) : (d.txFailed n).reg (pg .can n) o = d.reg (pg .can n) o := by
  rcases d.txFailed_cases n with heq | ⟨k, heq⟩
  · rw [heq]
  · rw [heq]
    exact reg_setTx d (.can n) k [] h

theorem offDue_txFailed (d : Dev) (n : Fin 2) : ((d.txFailed n).netS (.can n)).offDue = (d.netS (.can n)).offDue := by
  rcases d.txFailed_cases n with heq | ⟨k, heq⟩
  · rw [heq]
  · rw [heq, netS_setTx]

theorem net_canState (d : Dev) (n : Nat) : (d.canState n).net = d.net := by
  have hset : ∀ (e : Dev) (p : Nat) (f : Fld) (v : Nat), (e.setFld p f v).net = e.net := fun e p f v => rfl
  simp only [canState, apply_ite Dev.net, hset, ite_self]

theorem reg_canState (d : Dev) (n : Nat) {o : Nat} (h : o ≠ R.CAN.ERR) : (d.canState n).reg (pg .can n) o = d.reg (pg .can n) o := by
  simp only [canState]
  split
  · rfl
  · exact reg_setFld_apart d _ h

theorem fld_canState (d : Dev) (n : Nat) {f : Fld} (h : FieldsApart f F.CAN.ERR_ESTATE) : (d.canState n).fld (pg .can n) f = d.fld (pg .can n) f := by
  simp only [canState]
  split
  · rfl
  · exact fld_setFld_apart d _ h

/-- Passive above 127 (R514). -/
theorem estate_canState {d : Dev} {n : Nat} (h : d.fld (pg .can n) F.CAN.ERR_ESTATE ≠ 2) :
    (d.canState n).fld (pg .can n) F.CAN.ERR_ESTATE = 1 ↔
      127 < (d.canState n).fld (pg .can n) F.CAN.ERR_TEC ∨ 127 < (d.canState n).fld (pg .can n) F.CAN.ERR_REC := by
  rw [fld_canState d n (f := F.CAN.ERR_TEC) (by decide), fld_canState d n (f := F.CAN.ERR_REC) (by decide), canState, if_neg h,
    fld_setFld_self _ _ _ _ (by decide)]
  by_cases htec : 127 < d.fld (pg .can n) F.CAN.ERR_TEC
  · simp [htec, b2n, F.CAN.ERR_ESTATE]
  · by_cases hrec : 127 < d.fld (pg .can n) F.CAN.ERR_REC
    · simp [hrec, b2n, F.CAN.ERR_ESTATE]
    · simp [htec, hrec, b2n, F.CAN.ERR_ESTATE]

/-! ## Errors and bus-off (R514, R520) -/

section Errors
variable {d : Dev} {n : Fin 2}

theorem canLive_iff : d.canLive n = true ↔ d.flag (pg .can n) F.HDR.CTRL_ENABLE = true ∧ d.fld (pg .can n) F.CAN.ERR_ESTATE ≠ 2 := by
  simp [canLive]

/-- An error that gives a counter a value. -/
def counterPut (d : Dev) (n : Fin 2) (f : Fld) (v : Nat) : Dev := (d.bump (pg .can n) R.CAN.ERR_FRAMES).setFld (pg .can n) f v

/-- An error counted: the transmitter's in TEC, the receiver's in REC, and TEC beyond 255 ends in bus-off. -/
def errCounted (d : Dev) (n : Fin 2) (e : CanError) : Dev :=
  let tec := d.fld (pg .can n) F.CAN.ERR_TEC
  let r := d.fld (pg .can n) F.CAN.ERR_REC
  match e with
  | .tx =>
    let y := d.counterPut n F.CAN.ERR_TEC (min (tec + 8) 255)
    if 255 < tec + 8 then y.modNet (.can n) (fun s => { s with offDue := true }) else y
  | .rx => d.counterPut n F.CAN.ERR_REC (min (r + 1) 255)
  | .rxDominant => d.counterPut n F.CAN.ERR_REC (min (r + 8) 255)
  | .exempt => d.bump (pg .can n) R.CAN.ERR_FRAMES

theorem canError_unseen {e : CanError} (h : d.canLive n = false ∨ d.flag (pg .can n) F.CAN.MODE_LOOPBACK = true) : d.canError n e = d :=
  if_pos (h.imp_left fun h => by simp [h])

theorem canError_seen (e : CanError) (hlive : d.canLive n = true) (hbus : d.flag (pg .can n) F.CAN.MODE_LOOPBACK = false) :
    d.canError n e = if e = .tx ∨ e = .exempt then ((d.errCounted n e).canState n).txFailed n else (d.errCounted n e).canState n := by
  have hno : ¬((!d.canLive n) = true ∨ d.flag (pg .can n) F.CAN.MODE_LOOPBACK = true) := by simp [hlive, hbus]
  have htec : (d.bump (pg .can n) R.CAN.ERR_FRAMES).fld (pg .can n) F.CAN.ERR_TEC = d.fld (pg .can n) F.CAN.ERR_TEC := fld_bump_apart d (by decide)
  have hrec : (d.bump (pg .can n) R.CAN.ERR_FRAMES).fld (pg .can n) F.CAN.ERR_REC = d.fld (pg .can n) F.CAN.ERR_REC := fld_bump_apart d (by decide)
  rw [canError, if_neg hno]
  cases e <;> simp only [errCounted, counterPut, htec, hrec]

theorem stores_canError (d : Dev) (n : Fin 2) (e : CanError) : (d.canError n e).mem = d.mem ∧ (d.canError n e).keys = d.keys := by simp

theorem counterPut_spec (d : Dev) (n : Fin 2) {f : Fld} (hf : f.ofs = R.CAN.ERR) (v : Nat) :
    (d.counterPut n f v).reg (pg .can n) R.CAN.ERR_FRAMES = d.reg (pg .can n) R.CAN.ERR_FRAMES + 1 ∧
    (f.lo + f.w ≤ 32 → (d.counterPut n f v).fld (pg .can n) f = v % 2 ^ f.w) ∧
    (∀ g : Fld, g.ofs = R.CAN.ERR → FieldsApart g f → (d.counterPut n f v).fld (pg .can n) g = d.fld (pg .can n) g) ∧
    (d.counterPut n f v).netS (.can n) = d.netS (.can n) :=
  ⟨(reg_setFld_apart _ _ (by rw [hf]; decide)).trans (reg_bump_self ..), fun hfit => fld_setFld_self _ _ _ _ hfit,
    fun _ hg hapart => (fld_setFld_apart _ _ hapart).trans (fld_bump_apart d (by rw [hg]; decide)), rfl⟩

/-- What an error makes of the counters. -/
def ErrCounted (n : Fin 2) (e : CanError) (d t : Dev) : Prop :=
  let tec := d.fld (pg .can n) F.CAN.ERR_TEC
  let r := d.fld (pg .can n) F.CAN.ERR_REC
  t.reg (pg .can n) R.CAN.ERR_FRAMES = d.reg (pg .can n) R.CAN.ERR_FRAMES + 1 ∧
  t.fld (pg .can n) F.CAN.ERR_TEC = (if e = .tx then min (tec + 8) 255 else tec) ∧
  t.fld (pg .can n) F.CAN.ERR_REC = (if e = .rx then min (r + 1) 255 else if e = .rxDominant then min (r + 8) 255 else r) ∧
  t.fld (pg .can n) F.CAN.ERR_ESTATE = d.fld (pg .can n) F.CAN.ERR_ESTATE ∧
  (t.netS (.can n)).offDue = ((d.netS (.can n)).offDue || decide (e = .tx ∧ 255 < tec + 8))

theorem capped (x : Nat) : min x 255 % 2 ^ 8 = min x 255 := Nat.mod_eq_of_lt (by omega)

theorem errCounted_tx (d : Dev) (n : Fin 2) : ErrCounted n .tx d (d.errCounted n .tx) := by
  obtain ⟨hframes, hself, hothers, hnet⟩ := d.counterPut_spec n (f := F.CAN.ERR_TEC) rfl (min (d.fld (pg .can n) F.CAN.ERR_TEC + 8) 255)
  have htec := (hself (by decide)).trans (capped _)
  have hrec := hothers F.CAN.ERR_REC rfl (by decide)
  have hestate := hothers F.CAN.ERR_ESTATE rfl (by decide)
  simp only [errCounted]
  by_cases hoff : 255 < d.fld (pg .can n) F.CAN.ERR_TEC + 8
  · rw [if_pos hoff]
    refine ⟨hframes, htec, hrec, hestate, ?_⟩
    rw [netS_modNet]
    simp [hoff]
  · rw [if_neg hoff]
    refine ⟨hframes, htec, hrec, hestate, ?_⟩
    rw [hnet]
    simp [hoff]

theorem errCounted_spec (d : Dev) (n : Fin 2) (e : CanError) : ErrCounted n e d (d.errCounted n e) := by
  cases e with
  | tx => exact errCounted_tx d n
  | rx =>
    obtain ⟨hframes, hself, hothers, hnet⟩ := d.counterPut_spec n (f := F.CAN.ERR_REC) rfl (min (d.fld (pg .can n) F.CAN.ERR_REC + 1) 255)
    exact ⟨hframes, hothers _ rfl (by decide), (hself (by decide)).trans (capped _), hothers _ rfl (by decide),
      (congrArg NetS.offDue hnet).trans (by simp)⟩
  | rxDominant =>
    obtain ⟨hframes, hself, hothers, hnet⟩ := d.counterPut_spec n (f := F.CAN.ERR_REC) rfl (min (d.fld (pg .can n) F.CAN.ERR_REC + 8) 255)
    exact ⟨hframes, hothers _ rfl (by decide), (hself (by decide)).trans (capped _), hothers _ rfl (by decide),
      (congrArg NetS.offDue hnet).trans (by simp)⟩
  | exempt =>
    have hfld : ∀ f : Fld, f.ofs = R.CAN.ERR → (d.bump (pg .can n) R.CAN.ERR_FRAMES).fld (pg .can n) f = d.fld (pg .can n) f :=
      fun f hf => fld_bump_apart d (by rw [hf]; decide)
    refine ⟨reg_bump_self .., hfld _ rfl, hfld _ rfl, hfld _ rfl, ?_⟩
    simp only [reduceCtorEq, false_and, decide_false, Bool.or_false]
    rfl

/-- ESTATE and a frame that is not retried leave the counters to the error itself. -/
theorem errorState_keeps (d : Dev) (n : Fin 2) (e : CanError) : let x := d.canState n
    let t := if e = .tx ∨ e = .exempt then x.txFailed n else x
    (∀ o, o ≠ R.CAN.TX_CTRL → t.reg (pg .can n) o = x.reg (pg .can n) o) ∧ (t.netS (.can n)).offDue = (d.netS (.can n)).offDue := by
  intro x t
  have hnet : x.netS (.can n) = d.netS (.can n) := by rw [netS, net_canState, netS]
  simp only [t]
  split
  · exact ⟨fun o ho => reg_txFailed x n ho, (offDue_txFailed x n).trans (congrArg NetS.offDue hnet)⟩
  · exact ⟨fun _ _ => rfl, congrArg NetS.offDue hnet⟩

theorem canError_spec (e : CanError) (hlive : d.canLive n = true) (hbus : d.flag (pg .can n) F.CAN.MODE_LOOPBACK = false) :
    let p := pg .can n
    let tec := d.fld p F.CAN.ERR_TEC
    let r := d.fld p F.CAN.ERR_REC
    let t := d.canError n e
    t.reg p R.CAN.ERR_FRAMES = d.reg p R.CAN.ERR_FRAMES + 1 ∧
    t.fld p F.CAN.ERR_TEC = (if e = .tx then min (tec + 8) 255 else tec) ∧
    t.fld p F.CAN.ERR_REC = (if e = .rx then min (r + 1) 255 else if e = .rxDominant then min (r + 8) 255 else r) ∧
    (t.netS (.can n)).offDue = ((d.netS (.can n)).offDue || decide (e = .tx ∧ 255 < tec + 8)) ∧
    (t.fld p F.CAN.ERR_ESTATE = 1 ↔ 127 < t.fld p F.CAN.ERR_TEC ∨ 127 < t.fld p F.CAN.ERR_REC) ∧ t.mem = d.mem ∧ t.keys = d.keys := by
  intro p tec r t
  obtain ⟨hframes, htec, hrec, hestate, hoff⟩ := errCounted_spec d n e
  obtain ⟨hkeep, hdue⟩ := errorState_keeps (d.errCounted n e) n e
  rw [← canError_seen e hlive hbus] at hkeep hdue
  have hfld : ∀ f : Fld, f.ofs = R.CAN.ERR → t.fld p f = ((d.errCounted n e).canState n).fld p f :=
    fun f hf => fld_of_reg (hkeep _ (by rw [hf]; decide))
  have hcounter : ∀ f : Fld, f.ofs = R.CAN.ERR → FieldsApart f F.CAN.ERR_ESTATE → t.fld p f = (d.errCounted n e).fld p f :=
    fun f hf hapart => (hfld f hf).trans (fld_canState _ _ hapart)
  have hactive : (d.errCounted n e).fld (pg .can n) F.CAN.ERR_ESTATE ≠ 2 := by
    rw [hestate]
    exact (canLive_iff.mp hlive).2
  refine ⟨(hkeep _ (by decide)).trans ((reg_canState _ _ (by decide)).trans hframes), (hcounter _ rfl (by decide)).trans htec,
    (hcounter _ rfl (by decide)).trans hrec, hdue.trans hoff, ?_, stores_canError d n e⟩
  rw [hfld F.CAN.ERR_ESTATE rfl, hfld F.CAN.ERR_TEC rfl, hfld F.CAN.ERR_REC rfl]
  exact estate_canState hactive

theorem busOff_none (h : ¬(d.canLive n = true ∧ (d.netS (.can n)).offDue = true)) : d.busOff n = d := if_neg h

/-- The controller off the bus, its recovery begun where AUTO_REC says so. -/
def offBus (d : Dev) (n : Fin 2) : Dev :=
  (((d.setFld (pg .can n) F.CAN.ERR_ESTATE 2).modNet (.can n) (fun s =>
    { s with offDue := false, recov := d.flag (pg .can n) F.CAN.MODE_AUTO_REC })).event (pg .can n) F.CAN.EVENT_BUSOFF).bump (pg .can n) R.CAN.BUSOFFS

theorem fld_offBus (d : Dev) (n : Fin 2) {f : Fld} (h : f.ofs = R.CAN.ERR) :
    (d.offBus n).fld (pg .can n) f = (d.setFld (pg .can n) F.CAN.ERR_ESTATE 2).fld (pg .can n) f := by
  have hapart : f.ofs ≠ R.CAN.BUSOFFS ∧ FieldsApart f F.CAN.EVENT_BUSOFF := ⟨by rw [h]; decide, .inl (by rw [h]; decide)⟩
  rw [offBus, fld_bump_apart _ hapart.1, fld_event_apart _ hapart.2, fld_modNet]

theorem busOff_due (hlive : d.canLive n = true) (hdue : (d.netS (.can n)).offDue = true) :
    d.busOff n = (d.offBus n).raiseLevel .can n B.CAN.CAN_BUSOFF (d.fld (pg .can n) F.CAN.ERR_TEC) ∧ (d.offBus n).canLive n = false := by
  have htec : (d.offBus n).fld (pg .can n) F.CAN.ERR_TEC = d.fld (pg .can n) F.CAN.ERR_TEC :=
    (fld_offBus d n rfl).trans (fld_setFld_apart d 2 (by decide))
  have hstate : (d.offBus n).fld (pg .can n) F.CAN.ERR_ESTATE = 2 :=
    (fld_offBus d n rfl).trans (fld_setFld_self _ _ _ _ (by decide))
  refine ⟨?_, by simp [canLive, hstate]⟩
  rw [← htec]
  exact if_pos ⟨hlive, hdue⟩

theorem canRecover_on (h : d.fld (pg .can n) F.CAN.ERR_ESTATE ≠ 2) : d.canRecover n = d := if_neg h

theorem canRecover_off (h : d.fld (pg .can n) F.CAN.ERR_ESTATE = 2) : d.canRecover n = d.modNet (.can n) (fun s => { s with recov := true }) := if_pos h

theorem ptpCommit_late (h : (d.netS .t1s).capAt = none ∨ ∃ u, (d.netS .t1s).capAt = some u ∧ u + 400000000 < d.now) :
    d.ptpCommit = d.event (pg .t1s) F.T1S.EVENT_PTP_LATE := by
  rcases h with h | ⟨u, h, hlate⟩
  · simp only [ptpCommit, h]
  · simp only [ptpCommit, h]
    exact if_neg (by omega)

theorem ptpCommit_taken {u : Nat} (h : (d.netS .t1s).capAt = some u) (htime : d.now ≤ u + 400000000) :
    let base := d.cel.meas.tick / 65536
    d.ptpCommit = d.measCapture 2 ((base + sub32 (d.reg (pg .t1s) R.T1S.CAP_TICKS).toNat base) * 65536)
      ((d.reg (pg .t1s) R.T1S.GM_SEC).toNat * 1000000000 + d.fld (pg .t1s) F.T1S.GM_NS_NS) := by
  simp only [ptpCommit, h]
  exact if_pos htime

theorem t1sPlca_due {cycles : Nat} (hcycles : 8 ≤ cycles) (hon : d.flag (pg .t1s) F.HDR.CTRL_ENABLE = true)
    (hplca : d.flag (pg .t1s) F.T1S.MODE_PLCA_EN = true) : d.t1sPlca cycles =
      (d.setFlag (pg .t1s) F.T1S.PHY_STATUS_BEACON_SEEN false).raise .t1s 0 B.T1S.T1S_PLCA (d.fld (pg .t1s) F.T1S.PLCA_NODE_ID) := by
  rw [t1sPlca, if_pos ⟨hcycles, hon, hplca⟩]

end Errors

/-! ## The ring engine beside a controller (R218, R221) -/

section RingPut
variable {p r : Nat} (hp : Bystander p) (hr : p ≠ pg .ring r) (d : Dev)

@[simp] theorem beside_modRing (f : RingS → RingS) : beside p (d.modRing r f) = beside p d := rfl
@[simp] theorem beside_withMem (m : Mem) : beside p { d with mem := m } = beside p d := rfl

theorem beside_busErr (hp : Bystander p) (cls : Nat) : beside p (d.busErr cls) = beside p d := by
  rw [busErr, beside_raise hp _ hp.1, beside_bump _ _ ⟨hp.1, by decide⟩]

include hr

theorem beside_advancePi (k : Nat) : beside p (d.advancePi r k) = beside p d := by
  have hhigh : ∀ e : Dev, beside p (e.noteHighFill r) = beside p e := fun e => by
    rw [noteHighFill, beside_ite, beside_setReg _ _ ⟨hr, by decide⟩, ite_self]
  have hmark : ∀ (e : Dev) (x : Nat), beside p (e.noteWatermark r x) = beside p e := fun e x => by
    rw [noteWatermark, beside_ite, beside_event _ ⟨hr, by decide⟩, ite_self]
  rw [advancePi, hmark, hhigh, beside_setReg _ _ ⟨hr, by decide⟩]

theorem beside_passOver (need fuel : Nat) : beside p (d.passOver r need fuel) = beside p d := by
  induction fuel generalizing d with
  | zero => rfl
  | succ fuel ih =>
    simp only [passOver]
    split
    · rfl
    · rw [ih, beside_bump _ _ ⟨hr, by decide⟩, beside_setReg _ _ ⟨hr, by decide⟩]

theorem beside_storeRecord (ws : List Word) : beside p (d.storeRecord r ws) = beside p d := by
  rw [storeRecord, beside_advancePi hr, beside_bump _ _ ⟨hr, by decide⟩, beside_withMem]

theorem beside_storePad (pad : Nat) : beside p (d.storePad r pad) = beside p d := by
  rw [storePad]
  split
  · rfl
  · rw [beside_advancePi hr, beside_withMem]

theorem beside_dropRecord : beside p (d.dropRecord r) = beside p d := by
  rw [dropRecord, beside_modRing, beside_bump _ _ ⟨hr, by decide⟩]

include hp

theorem beside_fitRecord (ws : List Word) : beside p (d.fitRecord r ws).1 = beside p d := by
  simp only [fitRecord]
  split
  · show beside p (Dev.modRing _ r _) = _
    rw [beside_modRing, beside_bump _ _ ⟨hr, by decide⟩, beside_event _ ⟨hr, by decide⟩, beside_setFlag _ _ ⟨hr, by decide⟩]
  · split
    · exact beside_bump _ _ ⟨hr, by decide⟩
    · split
      · show beside p (Dev.bump _ _ _) = _
        rw [beside_bump _ _ ⟨hr, by decide⟩, beside_raise hp _ hr, beside_busErr _ hp]
      · show beside p (Dev.storeRecord _ r ws) = _
        rw [beside_storeRecord hr, beside_storePad hr]
        split
        · exact beside_passOver hr d _ _
        · rfl

theorem beside_putGap (folio : Nat) : beside p (d.putGap r folio).1 = beside p d := by
  simp only [putGap]
  split
  · rw [beside_ite, beside_modRing, ite_self, beside_fitRecord hp hr]
  · rfl

theorem beside_putStamp (folio : Nat) : beside p (d.putStamp r folio).1 = beside p d := by
  simp only [putStamp]
  split
  · rw [beside_ite, beside_modRing, ite_self, beside_fitRecord hp hr]
  · rfl

theorem beside_ringPut (ws : List Word) : beside p (d.ringPut r ws).1 = beside p d := by
  simp only [ringPut]
  split
  · rfl
  · split
    · exact beside_dropRecord hr d
    · split
      · rw [beside_dropRecord hr, beside_putGap hp hr]
      · split
        · rw [beside_dropRecord hr, beside_putStamp hp hr, beside_putGap hp hr]
        · rw [beside_fitRecord hp hr, beside_putStamp hp hr, beside_putGap hp hr]

end RingPut

theorem bystander_can (n : Fin 2) : Bystander (pg .can n) := by
  fin_cases n <;> decide

theorem can_ne_ring (n : Fin 2) (r : Nat) : pg .can n ≠ pg .ring r := by
  simp only [pg, PageKind.first]
  omega

theorem can_ne_check (n : Fin 2) (u : Nat) : pg .can n ≠ pg .check u := by
  simp only [pg, PageKind.first]
  omega

theorem net_of_beside {p : Nat} {d e : Dev} (h : beside p e = beside p d) : e.net = d.net := congrArg (fun x => x.2.1.2.2.1) h

theorem net_observeRecord (d : Dev) (ring : Nat) (ws : List Word) : (d.observeRecord ring ws).net = d.net := by
  refine each_keeps Dev.net d _ _ fun e u _ => ?_
  split
  · split <;> rfl
  · rfl

/-! ## Reception (R517, R518) -/

section Reception
variable {d : Dev} {n : Fin 2}

/-- Whether the ring takes a record or not, a controller's own page shows it in RX_DROPPED alone. -/
theorem receiveInto_keeps (d : Dev) (n : Fin 2) (r : Nat) (ws : List Word) : (d.receiveInto (.can n) r ws).net = d.net ∧
    ∀ o < 0x1000, o ≠ R.CAN.RX_DROPPED → (d.receiveInto (.can n) r ws).reg (pg .can n) o = d.reg (pg .can n) o := by
  have hput := beside_ringPut (bystander_can n) (can_ne_ring n r) d ws
  have hkept : ∀ e : Dev, beside (pg .can n) e = beside (pg .can n) d →
      (e.bump (pg .can n) R.CAN.RX_DROPPED).net = d.net ∧
      ∀ o < 0x1000, o ≠ R.CAN.RX_DROPPED → (e.bump (pg .can n) R.CAN.RX_DROPPED).reg (pg .can n) o = d.reg (pg .can n) o := fun e he =>
    ⟨show e.net = d.net from net_of_beside he, fun o ho hne => (reg_setReg_apart e _ hne).trans (reg_of_pageRegs (pageRegs_of_beside he) ho)⟩
  simp only [receiveInto]
  by_cases hprod : d.ringProducer r = netPage (.can n)
  · rw [if_pos hprod]
    split
    · refine ⟨(net_observeRecord _ _ _).trans (net_of_beside hput), fun o ho _ => ?_⟩
      exact (reg_of_pageRegs (pageRegs_observeRecord _ r ws fun u _ => can_ne_check n u) ho).trans (reg_of_pageRegs (pageRegs_of_beside hput) ho)
    · exact hkept _ hput
  · rw [if_neg hprod]
    exact hkept _ rfl

theorem receiveInto_other {r : Nat} {ws : List Word} (h : d.ringProducer r ≠ pg .can n) :
    d.receiveInto (.can n) r ws = d.bump (pg .can n) R.CAN.RX_DROPPED := by
  have hprod : ¬d.ringProducer r = netPage (.can n) := h
  simp only [receiveInto, if_neg hprod]
  rfl

theorem find_range_none {q : Nat → Bool} (h : ∀ i < 128, q i = false) : (List.range 128).find? q = none :=
  List.find?_eq_none.mpr fun i hi => by simp [h i (List.mem_range.mp hi)]

theorem find_range_some {q : Nat → Bool} {i : Nat} (hi : i < 128) (hq : q i = true) (hlow : ∀ j < i, q j = false) :
    (List.range 128).find? q = some i :=
  List.find?_range_eq_some.mpr ⟨hq, List.mem_range.mpr hi, fun j hj => by simp [hlow j hj]⟩

variable {f : CanFrame} {e : Dev} (he : e = d.bump (pg .can n) R.CAN.RX_FRAMES)
include he

theorem canAccept_bad (hbad : f.bad = true) : d.canAccept n f = e.raise .can n B.CAN.CAN_RAM := by
  rw [he, canAccept, if_pos hbad]

theorem canAccept_unmatched (hgood : f.bad = false) (h : ∀ i < 128, e.filterMatches n i f = false) :
    d.canAccept n f = e.bump (pg .can n) R.CAN.NOMATCH := by
  subst he
  simp only [canAccept, hgood, find_range_none h]
  rfl

theorem canAccept_matched (hgood : f.bad = false) {i : Nat} (hi : i < 128) (h : e.filterMatches n i f = true) (hlow : ∀ j < i, e.filterMatches n j f = false) :
    d.canAccept n f = if bitAt (e.reg (pg .can n) (R.CAN.FILT + 8 * i + 4)).toNat 31 then e
      else e.receiveInto (.can n) (bitsOf (e.reg (pg .can n) R.CAN.RX_RING).toNat
        (8 * bitsOf (e.reg (pg .can n) (R.CAN.FILT + 8 * i + 4)).toNat 29 2) 7) (canRecord f i) := by
  subst he
  simp only [canAccept, hgood, find_range_some hi h hlow]
  rfl

end Reception

/-- A good frame taken by the filters shows in the counters of reception alone. -/
theorem canAccept_keeps (d : Dev) (n : Fin 2) {f : CanFrame} (hgood : f.bad = false) : (d.canAccept n f).net = d.net ∧
    ∀ o < 0x1000, o ≠ R.CAN.RX_FRAMES → o ≠ R.CAN.NOMATCH → o ≠ R.CAN.RX_DROPPED →
      (d.canAccept n f).reg (pg .can n) o = d.reg (pg .can n) o := by
  simp only [canAccept, hgood, Bool.false_eq_true, if_false]
  split
  · exact ⟨rfl, fun o _ hframes hno _ => (reg_setReg_apart _ _ hno).trans (reg_setReg_apart _ _ hframes)⟩
  · split
    · exact ⟨rfl, fun o _ hframes _ _ => reg_setReg_apart _ _ hframes⟩
    · obtain ⟨hnet, hreg⟩ := receiveInto_keeps (d.bump (pg .can n) R.CAN.RX_FRAMES) n _ _
      exact ⟨hnet, fun o ho hframes _ hdrop => (hreg o ho hdrop).trans (reg_setReg_apart _ _ hframes)⟩

/-! ## A whole frame on CAN (R514, R517–R519) -/

theorem pageRegs_setTx (d : Dev) (c : Net) (k : Nat) (ws : List Word) {q : Nat} (h : q ≠ netPage c) : (d.setTx c k ws).pageRegs q = d.pageRegs q := by
  have hctrl : ∀ (e : Dev) (j : Nat) (b : Bool), (e.setFlag (netPage c) ⟨R.CAN.TX_CTRL, j, 1⟩ b).pageRegs q = e.pageRegs q :=
    fun e j b => pageRegs_setFlag e b ⟨h, show R.CAN.TX_CTRL < 0x1000 by decide⟩
  have hflags : (d.txFlags c k ws).pageRegs q = d.pageRegs q := by
    simp only [txFlags]
    split
    · exact (hctrl _ _ _).trans (hctrl _ _ _)
    · exact hctrl _ _ _
  cases c with
  | can n =>
    rw [setTx_can]
    exact (pageRegs_setFld _ _ ⟨h, by decide⟩).trans hflags
  | t1s => exact hflags

/-- A whole frame as the fault confinement takes it: REC falls, and a frame of the controller's own that lost to it is retried. -/
def recovered (d : Dev) (n : Fin 2) (f : CanFrame) : Dev :=
  let old := d.fld (pg .can n) F.CAN.ERR_REC
  let x := (d.setFld (pg .can n) F.CAN.ERR_REC (if 127 < old then 127 else old - 1)).canState n
  if f.lost then x.txFailed n else x

theorem recovered_keeps (d : Dev) (n : Fin 2) (f : CanFrame) :
    (∀ o, o ≠ R.CAN.ERR → o ≠ R.CAN.TX_CTRL → (d.recovered n f).reg (pg .can n) o = d.reg (pg .can n) o) ∧
    (∀ q, q ≠ pg .can n → (d.recovered n f).pageRegs q = d.pageRegs q) := by
  have hpage : ∀ (e : Dev) (q : Nat), q ≠ pg .can n → (e.canState n).pageRegs q = e.pageRegs q := fun e q hq => by
    rw [canState, pageRegs_ite, pageRegs_setFld _ _ ⟨hq, by decide⟩, ite_self]
  have hfailed : ∀ (e : Dev) (q : Nat), q ≠ pg .can n → (e.txFailed n).pageRegs q = e.pageRegs q := fun e q hq => by
    rcases e.txFailed_cases n with heq | ⟨k, heq⟩
    · rw [heq]
    · rw [heq, pageRegs_setTx e (.can n) k [] hq]
  simp only [recovered]
  split
  · exact ⟨fun o herr htx => (reg_txFailed _ n htx).trans ((reg_canState _ _ herr).trans (reg_setFld_apart _ _ herr)),
      fun q hq => (hfailed _ q hq).trans ((hpage _ q hq).trans (pageRegs_setFld _ _ ⟨hq, by decide⟩))⟩
  · exact ⟨fun o herr _ => (reg_canState _ _ herr).trans (reg_setFld_apart _ _ herr),
      fun q hq => (hpage _ q hq).trans (pageRegs_setFld _ _ ⟨hq, by decide⟩)⟩

theorem stores_recovered (d : Dev) (n : Fin 2) (f : CanFrame) : (d.recovered n f).mem = d.mem ∧ (d.recovered n f).keys = d.keys := by
  simp only [recovered]
  split <;> simp

section CanFrames
variable {d : Dev} {n : Fin 2} {f : CanFrame}

/-- A frame on the bus that the controller takes part in, in a format that it knows. -/
def TakesPart (d : Dev) (n : Fin 2) (f : CanFrame) : Prop :=
  d.canLive n = true ∧ d.flag (pg .can n) F.CAN.MODE_LOOPBACK = false ∧ d.fmtOn n (fmtCode f.fmt) = true

theorem canReceived_apart (h : ¬d.TakesPart n f) : d.canReceived n f = d := by
  refine if_pos ?_
  by_contra hno
  simp only [not_or, Bool.not_eq_true, Bool.not_eq_false'] at hno
  exact h hno

theorem canReceived_taken (h : d.TakesPart n f) : d.canReceived n f = (d.recovered n f).canAccept n f := by
  obtain ⟨hlive, hbus, hfmt⟩ := h
  refine if_neg ?_
  simp [hlive, hbus, hfmt]

/-- The frame counted. -/
def heard (d : Dev) (n : Fin 2) (f : CanFrame) : Dev := (d.recovered n f).bump (pg .can n) R.CAN.RX_FRAMES

theorem reg_heard {o : Nat} (h : o ≠ R.CAN.ERR ∧ o ≠ R.CAN.TX_CTRL ∧ o ≠ R.CAN.RX_FRAMES) : (d.heard n f).reg (pg .can n) o = d.reg (pg .can n) o := by
  obtain ⟨herr, htx, hframes⟩ := h
  exact (reg_setReg_apart _ _ hframes).trans ((recovered_keeps d n f).1 o herr htx)

theorem heard_counts : (d.heard n f).reg (pg .can n) R.CAN.RX_FRAMES = d.reg (pg .can n) R.CAN.RX_FRAMES + 1 ∧
    (d.heard n f).mem = d.mem ∧ (d.heard n f).keys = d.keys := by
  obtain ⟨hmem, hkeys⟩ := stores_recovered d n f
  refine ⟨(reg_bump_self ..).trans ?_, hmem, hkeys⟩
  rw [(recovered_keeps d n f).1 _ (by decide) (by decide)]
  rfl

theorem reg_heard_filter (i k : Nat) : (d.heard n f).reg (pg .can n) (R.CAN.FILT + 8 * i + k) = d.reg (pg .can n) (R.CAN.FILT + 8 * i + k) := by
  refine reg_heard ⟨?_, ?_, ?_⟩ <;> simp only [R.CAN.FILT, R.CAN.ERR, R.CAN.TX_CTRL, R.CAN.RX_FRAMES] <;> omega

theorem filterMatches_heard (i : Nat) (g : CanFrame) : (d.heard n f).filterMatches n i g = d.filterMatches n i g := by
  have hid : (d.heard n f).reg (pg .can n) (R.CAN.FILT + 8 * i) = d.reg (pg .can n) (R.CAN.FILT + 8 * i) := reg_heard_filter i 0
  rw [filterMatches, hid, reg_heard_filter, filterMatches]

theorem ringProducer_heard (r : Nat) : (d.heard n f).ringProducer r = d.ringProducer r := by
  have hpage : pg .ring r ≠ pg .can n := (can_ne_ring n r).symm
  have hring : (d.heard n f).pageRegs (pg .ring r) = d.pageRegs (pg .ring r) :=
    (pageRegs_bump _ 1 ⟨hpage, by decide⟩).trans ((recovered_keeps d n f).2 _ hpage)
  exact fld_of_pageRegs hring (by decide)

theorem canReceived_bad (h : d.TakesPart n f) (hbad : f.bad = true) : d.canReceived n f = (d.heard n f).raise .can n B.CAN.CAN_RAM :=
  (canReceived_taken h).trans (canAccept_bad rfl hbad)

theorem canReceived_unmatched (h : d.TakesPart n f) (hgood : f.bad = false) (hno : ∀ i < 128, d.filterMatches n i f = false) :
    d.canReceived n f = (d.heard n f).bump (pg .can n) R.CAN.NOMATCH :=
  (canReceived_taken h).trans (canAccept_unmatched rfl hgood fun i hi => (filterMatches_heard i f).trans (hno i hi))

theorem canReceived_matched (h : d.TakesPart n f) (hgood : f.bad = false) {i : Nat} (hi : i < 128) (hmatch : d.filterMatches n i f = true)
    (hlow : ∀ j < i, d.filterMatches n j f = false) : let b := (d.reg (pg .can n) (R.CAN.FILT + 8 * i + 4)).toNat
    let ring := bitsOf (d.reg (pg .can n) R.CAN.RX_RING).toNat (8 * bitsOf b 29 2) 7
    (bitAt b 31 = true → d.canReceived n f = d.heard n f) ∧
    (bitAt b 31 = false → d.canReceived n f = (d.heard n f).receiveInto (.can n) ring (canRecord f i) ∧
      (d.ringProducer ring ≠ pg .can n → d.canReceived n f = (d.heard n f).bump (pg .can n) R.CAN.RX_DROPPED)) := by
  intro b ring
  have heq := (canReceived_taken h).trans (canAccept_matched (e := d.heard n f) rfl hgood hi ((filterMatches_heard i f).trans hmatch)
    fun j hj => (filterMatches_heard j f).trans (hlow j hj))
  have hring : (d.heard n f).reg (pg .can n) R.CAN.RX_RING = d.reg (pg .can n) R.CAN.RX_RING := reg_heard (by decide)
  rw [reg_heard_filter, hring] at heq
  refine ⟨fun hreject => heq.trans (if_pos hreject), fun htake => ?_⟩
  have hput : d.canReceived n f = (d.heard n f).receiveInto (.can n) ring (canRecord f i) := heq.trans (if_neg (by rw [Bool.not_eq_true]; exact htake))
  exact ⟨hput, fun hother => hput.trans (receiveInto_other (by rwa [ringProducer_heard]))⟩

end CanFrames

/-! ## A whole frame on 10BASE-T1S (R521–R523) -/

/-- Whether the bytes of a frame are those of a Sync message. -/
def syncBytes (l : List Nat) : Bool := l.getD 12 0 == 0x88 && l.getD 13 0 == 0xF7 && l.getD 14 0 % 16 == 0

theorem syncBytes_iff (l : List Nat) : syncBytes l = true ↔ l.getD 12 0 = 0x88 ∧ l.getD 13 0 = 0xF7 ∧ l.getD 14 0 % 16 = 0 := by
  simp [syncBytes, and_assoc]

/-- The capture of a Sync message. -/
def latched (d : Dev) (ts : Nat) (ticks : Word) : Dev :=
  (((d.setReg (pg .t1s) R.T1S.CAP_TS (BitVec.ofNat 32 ts)).setReg (pg .t1s) (R.T1S.CAP_TS + 4) (BitVec.ofNat 32 (ts / 4294967296))).setReg
    (pg .t1s) R.T1S.CAP_TICKS ticks).modNet .t1s fun s => { s with capAt := some d.now }

/-- The addresses that decide acceptance. -/
theorem t1sAccepts_congr {d e : Dev} (h : ∀ o, o < 0x118 ∨ 0x180 ≤ o ∧ o < 0x200 → e.reg (pg .t1s) o = d.reg (pg .t1s) o) (dst : Nat) :
    e.t1sAccepts dst = d.t1sAccepts dst := by
  have hlo := h R.T1S.MAC_LO (.inl (by decide))
  have hhi : e.fld (pg .t1s) F.T1S.MAC_HI_ADDR = d.fld (pg .t1s) F.T1S.MAC_HI_ADDR := fld_of_reg (h _ (.inl (by decide)))
  have hpromisc : e.flag (pg .t1s) F.T1S.MODE_PROMISC = d.flag (pg .t1s) F.T1S.MODE_PROMISC := flag_of_fld (fld_of_reg (h _ (.inl (by decide))))
  have hcast : ∀ i ∈ List.range 16, e.reg (pg .t1s) (R.T1S.MCAST + 8 * i) = d.reg (pg .t1s) (R.T1S.MCAST + 8 * i) ∧
      e.reg (pg .t1s) (R.T1S.MCAST + 8 * i + 4) = d.reg (pg .t1s) (R.T1S.MCAST + 8 * i + 4) := fun i hi => by
    have hlt := List.mem_range.mp hi
    constructor <;> refine h _ (.inr ?_) <;> simp only [R.T1S.MCAST] <;> omega
  simp only [t1sAccepts, hlo, hhi, hpromisc]
  refine congrArg (Bool.or _) ?_
  rw [Bool.eq_iff_iff, List.any_eq_true, List.any_eq_true]
  exact exists_congr fun i => and_congr_right fun hi => by rw [(hcast i hi).1, (hcast i hi).2]

theorem t1sAccepts_counted (d : Dev) (dst : Nat) : (d.bump (pg .t1s) R.T1S.RX_FRAMES).t1sAccepts dst = d.t1sAccepts dst :=
  t1sAccepts_congr (fun o ho => reg_setReg_apart d _ (by simp only [R.T1S.RX_FRAMES]; omega)) dst

theorem t1sAccepts_latched (d : Dev) (ts : Nat) (ticks : Word) (dst : Nat) : (d.latched ts ticks).t1sAccepts dst = d.t1sAccepts dst := by
  refine t1sAccepts_congr (fun o ho => ?_) dst
  have hne : o ≠ R.T1S.CAP_TICKS ∧ o ≠ R.T1S.CAP_TS + 4 ∧ o ≠ R.T1S.CAP_TS := by
    simp only [R.T1S.CAP_TICKS, R.T1S.CAP_TS]
    omega
  rw [latched, reg_modNet, reg_setReg_apart _ _ hne.1, reg_setReg_apart _ _ hne.2.1, reg_setReg_apart _ _ hne.2.2]

section T1sFrames
variable {d : Dev} {f : T1sFrame}

theorem t1sReceived_off (h : d.flag (pg .t1s) F.HDR.CTRL_ENABLE = false) : d.t1sReceived f = d := if_pos (by rw [h]; rfl)

variable (hon : d.flag (pg .t1s) F.HDR.CTRL_ENABLE = true)
include hon

theorem t1sReceived_wrong (h : f.fcsOk = false ∨ (f.bytes.map (·.toNat)).length < 60 ∨ 1518 < (f.bytes.map (·.toNat)).length) :
    d.t1sReceived f = d.bump (pg .t1s) R.T1S.RX_ERRS := by
  have henabled : ¬(!d.flag (pg .t1s) F.HDR.CTRL_ENABLE) = true := by simp [hon]
  exact (if_neg henabled).trans (if_pos (h.imp_left fun h => by simp [h]))

/-- A frame of a length in the range, with its FCS. -/
def wellFormed (f : T1sFrame) : Prop := f.fcsOk = true ∧ 60 ≤ (f.bytes.map (·.toNat)).length ∧ (f.bytes.map (·.toNat)).length ≤ 1518

theorem t1sReceived_wellFormed (h : wellFormed f) : d.t1sReceived f =
    if f.bad then (d.bump (pg .t1s) R.T1S.RX_FRAMES).raise .t1s 0 B.T1S.T1S_RAM
    else
      let l := f.bytes.map (·.toNat)
      let x := d.bump (pg .t1s) R.T1S.RX_FRAMES
      let y := if syncBytes l then x.latched (d.sfdTime f.age.toNat) f.ticks else x
      if y.t1sAccepts (dstOf l) then y.receiveInto .t1s (y.fld (pg .t1s) F.T1S.RX_RING_RING) (t1sRecord f (d.sfdTime f.age.toNat)) else y := by
  obtain ⟨hfcs, hlo, hhi⟩ := h
  have henabled : ¬(!d.flag (pg .t1s) F.HDR.CTRL_ENABLE) = true := by simp [hon]
  have hright : ¬((!f.fcsOk) = true ∨ (f.bytes.map (·.toNat)).length < 60 ∨ 1518 < (f.bytes.map (·.toNat)).length) := by
    rw [hfcs]
    rintro (h | h | h)
    · exact absurd h (by decide)
    · omega
    · omega
  exact (if_neg henabled).trans (if_neg hright)

variable (h : wellFormed f)
include h

theorem t1sReceived_bad (hbad : f.bad = true) : d.t1sReceived f = (d.bump (pg .t1s) R.T1S.RX_FRAMES).raise .t1s 0 B.T1S.T1S_RAM :=
  (t1sReceived_wellFormed hon h).trans (if_pos hbad)

variable (hgood : f.bad = false)
include hgood

theorem t1sReceived_plain (hsync : syncBytes (f.bytes.map (·.toNat)) = false) : let l := f.bytes.map (·.toNat)
    (d.t1sAccepts (dstOf l) = false → d.t1sReceived f = d.bump (pg .t1s) R.T1S.RX_FRAMES) ∧
    (d.t1sAccepts (dstOf l) = true → d.t1sReceived f = (d.bump (pg .t1s) R.T1S.RX_FRAMES).receiveInto .t1s (d.fld (pg .t1s) F.T1S.RX_RING_RING)
      (t1sRecord f (d.now - d.comp.resetAt - f.age.toNat))) := by
  intro l
  have heq := t1sReceived_wellFormed hon h
  have hring : (d.bump (pg .t1s) R.T1S.RX_FRAMES).fld (pg .t1s) F.T1S.RX_RING_RING = d.fld (pg .t1s) F.T1S.RX_RING_RING := fld_bump_apart d (by decide)
  simp only [hgood, hsync, Bool.false_eq_true, if_false, t1sAccepts_counted, hring] at heq
  exact ⟨fun hno => heq.trans (if_neg (by rw [Bool.not_eq_true]; exact hno)), fun hyes => heq.trans (if_pos hyes)⟩

theorem t1sReceived_sync (hsync : syncBytes (f.bytes.map (·.toNat)) = true) (hno : d.t1sAccepts (dstOf (f.bytes.map (·.toNat))) = false) :
    d.t1sReceived f = (d.bump (pg .t1s) R.T1S.RX_FRAMES).latched (d.sfdTime f.age.toNat) f.ticks := by
  have heq := t1sReceived_wellFormed hon h
  simp only [hgood, hsync, Bool.false_eq_true, if_false, if_true, t1sAccepts_latched, t1sAccepts_counted, hno] at heq
  exact heq

end T1sFrames

theorem latched_spec (d : Dev) (ts : Nat) (ticks : Word) : let t := (d.bump (pg .t1s) R.T1S.RX_FRAMES).latched ts ticks
    t.reg (pg .t1s) R.T1S.CAP_TS = BitVec.ofNat 32 ts ∧ t.reg (pg .t1s) (R.T1S.CAP_TS + 4) = BitVec.ofNat 32 (ts / 4294967296) ∧
    t.reg (pg .t1s) R.T1S.CAP_TICKS = ticks ∧ (t.netS .t1s).capAt = some d.now ∧
    t.reg (pg .t1s) R.T1S.RX_FRAMES = d.reg (pg .t1s) R.T1S.RX_FRAMES + 1 ∧ t.mem = d.mem ∧ t.keys = d.keys := by
  refine ⟨?_, ?_, ?_, ?_, ?_, rfl, rfl⟩
  · rw [latched, reg_modNet, reg_setReg_apart _ _ (by decide), reg_setReg_apart _ _ (by decide), reg_setReg_self]
  · rw [latched, reg_modNet, reg_setReg_apart _ _ (by decide), reg_setReg_self]
  · rw [latched, reg_modNet, reg_setReg_self]
  · rw [latched, netS_modNet]
    rfl
  · rw [latched, reg_modNet, reg_setReg_apart _ _ (by decide), reg_setReg_apart _ _ (by decide), reg_setReg_apart _ _ (by decide), reg_bump_self]
    rfl

/-! ## TX_CTRL (R519) -/

theorem netPage_ne_sys (c : Net) : pg .sys ≠ netPage c := by
  cases c with
  | can n => exact (bystander_can n).1.symm
  | t1s => decide

theorem memSecure_congr {d e : Dev} (h : e.pageRegs (pg .sys) = d.pageRegs (pg .sys)) (a : Nat) : e.memSecure a = d.memSecure a := by
  have htcm : e.flag (pg .sys) F.SYS.SEC_CFG_TCM_SEC = d.flag (pg .sys) F.SYS.SEC_CFG_TCM_SEC := flag_of_pageRegs h (by decide)
  have hlo : e.reg (pg .sys) R.SYS.SRAM_SEC_LO = d.reg (pg .sys) R.SYS.SRAM_SEC_LO := reg_of_pageRegs h (by decide)
  have hhi : e.reg (pg .sys) R.SYS.SRAM_SEC_HI = d.reg (pg .sys) R.SYS.SRAM_SEC_HI := reg_of_pageRegs h (by decide)
  rw [memSecure, htcm, hlo, hhi, memSecure]

/-- DONE taken back and TS taken over by a write of TX_CTRL. -/
def txCleared (d : Dev) (c : Net) (w : Word) : Dev :=
  let e := d.setReg (netPage c) R.CAN.TX_CTRL (d.reg (netPage c) R.CAN.TX_CTRL &&& ~~~(w &&& 0x00FF0000#32))
  match c with
  | .t1s => e.setReg (netPage c) R.T1S.TX_CTRL (e.reg (netPage c) R.T1S.TX_CTRL ||| (w &&& 0xFF000000#32))
  | .can _ => e

/-- What a write of TX_CTRL does to one buffer. -/
def txStep (c : Net) (n started : Nat) (d : Dev) (k : Nat) : Dev :=
  if bitAt n (8 + k) then
    if bitAt started k && bitAt (d.txPending c) k then d.setFlag (netPage c) ⟨R.CAN.TX_CTRL, 8 + k, 1⟩ true else d.setTx c k []
  else if bitAt n k then d.txRequest c k
  else d

theorem txCtrl_eq (d : Dev) (c : Net) (w : Word) (started : Nat) :
    d.txCtrl c w started = (d.txCleared c w).each (List.range 8) (txStep c w.toNat started) := by
  cases c <;> rfl

theorem txCleared_keeps (d : Dev) (c : Net) (w : Word) : let e := d.txCleared c w
    (∀ o, o ≠ R.CAN.TX_CTRL → e.reg (netPage c) o = d.reg (netPage c) o) ∧ e.pageRegs (pg .sys) = d.pageRegs (pg .sys) ∧
    e.net = d.net ∧ e.mem = d.mem ∧ e.keys = d.keys := by
  have hsys := netPage_ne_sys c
  cases c with
  | can n => exact ⟨fun o ho => reg_setReg_apart d _ ho, pageRegs_setReg d _ ⟨hsys, by decide⟩, rfl, rfl, rfl⟩
  | t1s =>
    exact ⟨fun o ho => (reg_setReg_apart _ _ (o := R.T1S.TX_CTRL) ho).trans (reg_setReg_apart d _ ho),
      (pageRegs_setReg _ _ (o := R.T1S.TX_CTRL) ⟨hsys, by decide⟩).trans (pageRegs_setReg d _ ⟨hsys, by decide⟩), rfl, rfl, rfl⟩

/-! ### REQ -/

theorem request_bits : ∀ k j : Fin 8, let n := (BitVec.ofNat 32 (BitVec.ofNat 8 (2 ^ k.val)).toNat).toNat
    bitAt n (8 + j.val) = false ∧ bitAt n j.val = decide (j = k) := by decide

/-- A request of one buffer leaves the others. -/
theorem txCtrl_request (d : Dev) (c : Net) (k : Fin 8) (started : Nat) : let w := BitVec.ofNat 32 (BitVec.ofNat 8 (2 ^ k.val)).toNat
    d.txCtrl c w started = (d.txCleared c w).txRequest c k := by
  intro w
  have hother : ∀ (e : Dev) (l : List Nat), (∀ y ∈ l, y ∈ List.range 8 ∧ y ≠ k.val) → e.each l (txStep c w.toNat started) = e := by
    intro e l hl
    refine each_unchanged e l _ fun j hj => ?_
    obtain ⟨hmem, hne⟩ := hl j hj
    obtain ⟨habort, hreq⟩ := request_bits k ⟨j, List.mem_range.mp hmem⟩
    have hno : bitAt w.toNat j = false := hreq.trans (decide_eq_false fun h => hne (congrArg Fin.val h))
    have habort' : bitAt w.toNat (8 + j) = false := habort
    simp only [txStep, habort', hno, Bool.false_eq_true, if_false]
  have hthis : txStep c w.toNat started (d.txCleared c w) k.val = (d.txCleared c w).txRequest c k := by
    obtain ⟨habort, hreq⟩ := request_bits k k
    have hyes : bitAt w.toNat k.val = true := hreq.trans (decide_eq_true rfl)
    have habort' : bitAt w.toNat (8 + k.val) = false := habort
    simp only [txStep, habort', hyes, Bool.false_eq_true, if_false, if_true]
  obtain ⟨l₁, l₂, heq, h₁, h₂⟩ := each_split List.nodup_range (List.mem_range.mpr k.isLt) (d.txCleared c w) (txStep c w.toNat started)
  rw [txCtrl_eq, heq, hother _ l₁ h₁, hthis, hother _ l₂ h₂]

section Request
variable {d : Dev} {c : Net} {k : Nat}

theorem txRequest_off (h : d.flag (netPage c) F.HDR.CTRL_ENABLE = false) : d.txRequest c k = d := if_pos (by rw [h]; rfl)

/-- Where a record lies, as TXBUF names it. -/
abbrev txAt (d : Dev) (c : Net) (k : Nat) : Nat := (d.reg (netPage c) (R.CAN.TXBUF + 4 * k)).toNat

theorem txRequest_good {ws : List Word} (hon : d.flag (netPage c) F.HDR.CTRL_ENABLE = true) (hrec : d.txRecord c k = some ws)
    (hsafe : ∀ j < ws.length, d.memSecure (d.txAt c k + 4 * j) = false) (hgood : d.txGood c ws = true) :
    d.txRequest c k = (d.setTx c k ws).modNet c fun s => { s with txAddr := vmod s.txAddr k fun _ => d.txAt c k } := by
  have hany : ((List.range ws.length).any fun i => d.memSecure (d.txAt c k + 4 * i)) = false :=
    List.any_eq_false.mpr fun j hj => by simp [hsafe j (List.mem_range.mp hj)]
  simp only [txRequest, hon, hrec, hany, hgood]
  rfl

theorem txRequest_bad (hon : d.flag (netPage c) F.HDR.CTRL_ENABLE = true)
    (h : d.txRecord c k = none ∨ ∃ ws, d.txRecord c k = some ws ∧ (∀ j < ws.length, d.memSecure (d.txAt c k + 4 * j) = false) ∧ d.txGood c ws = false) :
    d.txRequest c k = d.txBad c := by
  rcases h with hrec | ⟨ws, hrec, hsafe, hbad⟩
  · simp only [txRequest, hon, hrec]
    rfl
  · have hany : ((List.range ws.length).any fun i => d.memSecure (d.txAt c k + 4 * i)) = false :=
      List.any_eq_false.mpr fun j hj => by simp [hsafe j (List.mem_range.mp hj)]
    simp only [txRequest, hon, hrec, hany, hbad]
    rfl

/-- A request refused with TX_BAD, the buffers unchanged. -/
def RequestBad (c : Net) (d t : Dev) : Prop :=
  t.flag (netPage c) F.CAN.EVENT_TX_BAD = true ∧ t.net = d.net ∧ t.mem = d.mem ∧ t.keys = d.keys

theorem RequestBad.done {t : Dev} (h : RequestBad c d t) : RequestBad c d t.done := h

theorem requestBad_txBad {e : Dev} (hnet : e.net = d.net) (hmem : e.mem = d.mem) (hkeys : e.keys = d.keys) : RequestBad c d (e.txBad c) := by
  refine ⟨flag_event_self e (netPage c) F.CAN.EVENT_TX_BAD (by decide) (by decide), ?_, ?_, ?_⟩
  · simp [txBad, hnet]
  · simp [txBad, hmem]
  · simp [txBad, hkeys]

theorem waiting_txAddr (e : Dev) (c : Net) (g : NetS → Vector Nat 8) (j : Nat) :
    (e.modNet c fun s => { s with txAddr := g s }).waiting c j = e.waiting c j := by
  rw [waiting, netS_modNet]

theorem txOfs_ne (hk : k < 8) : R.CAN.TXBUF + 4 * k ≠ R.CAN.TX_CTRL := by
  simp only [R.CAN.TXBUF, R.CAN.TX_CTRL]
  omega

/-- What decides a request reads as before its write. -/
theorem txCleared_reads (d : Dev) (c : Net) (hk : k < 8) (w : Word) : let e := d.txCleared c w
    e.flag (netPage c) F.HDR.CTRL_ENABLE = d.flag (netPage c) F.HDR.CTRL_ENABLE ∧ e.txAt c k = d.txAt c k ∧
    e.txRecord c k = d.txRecord c k ∧ (∀ a, e.memSecure a = d.memSecure a) ∧ ∀ ws, e.txGood c ws = d.txGood c ws := by
  intro e
  obtain ⟨hreg, hsys, -, hmem, -⟩ := txCleared_keeps d c w
  have hbuf := hreg _ (txOfs_ne hk)
  refine ⟨flag_of_fld (fld_of_reg (hreg _ (by decide))), congrArg BitVec.toNat hbuf, ?_, memSecure_congr hsys, fun ws => ?_⟩
  · simp only [txRecord, e, hbuf, hmem]
  · cases c with
    | t1s => rfl
    | can n =>
      have hfd : e.flag (pg .can n) F.CAN.MODE_FD_EN = d.flag (pg .can n) F.CAN.MODE_FD_EN := flag_of_fld (fld_of_reg (hreg R.CAN.MODE (by decide)))
      have hxl : e.flag (pg .can n) F.CAN.MODE_XL_EN = d.flag (pg .can n) F.CAN.MODE_XL_EN := flag_of_fld (fld_of_reg (hreg R.CAN.MODE (by decide)))
      simp only [txGood, fmtOn, hfd, hxl]

end Request

/-! ### ABORT -/

theorem abort_bits (req : BitVec 8) {j : Nat} (hj : j < 8) : let n := (BitVec.ofNat 32 (256 * req.toNat)).toNat
    bitAt n (8 + j) = bitAt req.toNat j ∧ bitAt n j = false := by
  intro n
  constructor
  · rw [bitAt_ofNat _ (by omega), bitAt_eq_testBit, bitAt_eq_testBit, show (256 : Nat) = 2 ^ 8 from rfl, Nat.testBit_two_pow_mul]
    simp
  · rw [bitAt_ofNat _ (by omega), bitAt_eq_testBit, show (256 : Nat) = 2 ^ 8 from rfl, Nat.testBit_two_pow_mul]
    simp [hj]

/-- What a buffer holds after a withdrawal that is not too late. -/
theorem waiting_abortStep (c : Net) (req : BitVec 8) (started : Nat) (d : Dev) {k : Nat} (hk : k < 8) (j : Nat) :
    (txStep c (BitVec.ofNat 32 (256 * req.toNat)).toNat started d k).waiting c j =
      if j = k ∧ (bitAt req.toNat k && !bitAt started k) = true then [] else d.waiting c j := by
  obtain ⟨habort, hreq⟩ := abort_bits req hk
  simp only [txStep, habort, hreq, Bool.false_eq_true, if_false]
  cases hthis : bitAt req.toNat k with
  | false => simp
  | true =>
    simp only [if_true, Bool.true_and]
    cases hbus : bitAt started k with
    | false =>
      simp only [Bool.false_and, Bool.false_eq_true, if_false, waiting_setTx d c hk, Bool.not_false, and_true]
    | true =>
      simp only [Bool.true_and, Bool.not_true, Bool.false_eq_true, and_false, if_false, bitAt_txPending d c hk]
      cases hempty : (d.waiting c k).isEmpty with
      | false => rfl
      | true =>
        simp only [Bool.not_true, Bool.false_eq_true, if_false, waiting_setTx d c hk]
        split
        case isTrue hjk => rw [hjk, List.isEmpty_iff.mp hempty]
        case isFalse => rfl

theorem waiting_txCtrl_abort (d : Dev) (c : Net) (req : BitVec 8) (started : Nat) {k : Nat} (hk : k < 8) :
    (d.txCtrl c (BitVec.ofNat 32 (256 * req.toNat)) started).waiting c k = if bitAt req.toNat k && !bitAt started k then [] else d.waiting c k := by
  have hother : ∀ (e : Dev) (l : List Nat), (∀ y ∈ l, y ∈ List.range 8 ∧ y ≠ k) →
      (e.each l (txStep c (BitVec.ofNat 32 (256 * req.toNat)).toNat started)).waiting c k = e.waiting c k := fun e l hl =>
    each_keeps (fun x => x.waiting c k) e l _ fun x y hy => by
      obtain ⟨hmem, hne⟩ := hl y hy
      exact (waiting_abortStep c req started x (List.mem_range.mp hmem) k).trans (if_neg fun h => hne h.1.symm)
  have hclear : (d.txCleared c (BitVec.ofNat 32 (256 * req.toNat))).waiting c k = d.waiting c k := by
    obtain ⟨-, -, hnet, -⟩ := txCleared_keeps d c (BitVec.ofNat 32 (256 * req.toNat))
    rw [waiting, netS, hnet, waiting, netS]
  obtain ⟨l₁, l₂, heq, h₁, h₂⟩ := each_split List.nodup_range (List.mem_range.mpr hk) (d.txCleared c (BitVec.ofNat 32 (256 * req.toNat)))
    (txStep c (BitVec.ofNat 32 (256 * req.toNat)).toNat started)
  rw [txCtrl_eq, heq, hother _ l₂ h₂, waiting_abortStep c req started _ hk, hother _ l₁ h₁, hclear]
  simp only [true_and]

theorem stores_txCtrl_abort (d : Dev) (c : Net) (req : BitVec 8) (started : Nat) : let t := d.txCtrl c (BitVec.ofNat 32 (256 * req.toNat)) started
    t.mem = d.mem ∧ t.keys = d.keys := by
  intro t
  have hstep : ∀ e : Dev, ∀ k ∈ List.range 8, let x := txStep c (BitVec.ofNat 32 (256 * req.toNat)).toNat started e k
      (x.mem, x.keys) = (e.mem, e.keys) := by
    intro e k hk
    obtain ⟨habort, hreq⟩ := abort_bits req (List.mem_range.mp hk)
    simp only [txStep, habort, hreq, Bool.false_eq_true, if_false]
    split
    · split
      · rfl
      · exact Prod.ext (setTx_store e c k []).1 (setTx_store e c k []).2
    · rfl
  obtain ⟨-, -, -, hmem, hkeys⟩ := txCleared_keeps d c (BitVec.ofNat 32 (256 * req.toNat))
  have heach := each_keeps (fun x : Dev => (x.mem, x.keys)) (d.txCleared c (BitVec.ofNat 32 (256 * req.toNat))) _ _ hstep
  rw [← txCtrl_eq, Prod.mk.injEq, hmem, hkeys] at heach
  exact heach

/-! ## A frame sent (R519, R522, R535) -/

section Sent
variable {d : Dev} {c : Net} {k : Nat}

/-- Whether MODE and the state of a controller let it send. -/
def maySend (d : Dev) (c : Net) : Bool :=
  match c with
  | .can n => d.canLive n && !d.flag (netPage c) F.CAN.MODE_LISTEN && !d.flag (netPage c) F.CAN.MODE_RESTRICTED
  | .t1s => d.flag (netPage c) F.HDR.CTRL_ENABLE

/-- DONE of a buffer, and the event of the page. -/
def markSent (d : Dev) (c : Net) (k : Nat) : Dev :=
  (d.setFlag (netPage c) ⟨R.CAN.TX_CTRL, 16 + k, 1⟩ true).event (netPage c) F.CAN.EVENT_TX_DONE

/-- A frame discarded for an error in its buffer. -/
def frameLost (d : Dev) (c : Net) : Dev :=
  match c with
  | .can n => d.raise .can n B.CAN.CAN_RAM
  | .t1s => d.raise .t1s 0 B.T1S.T1S_RAM

/-- A frame put on the bus whole. -/
def frameOut (d : Dev) (c : Net) (k : Nat) (ws : List Word) (age coll : Nat) (fo : Word) (an : BitVec 16) : Dev :=
  match c with
  | .can n => d.canSent n ws fo an
  | .t1s => d.t1sSent k age coll

variable {age coll : Nat} {fo : Word} {an : BitVec 16}

theorem frameSent_eq (bad : Bool) : d.frameSent c age coll bad fo an = match (if d.maySend c then d.txWinner c else none) with
    | none => d
    | some k => if bad then (d.setTx c k []).frameLost c else ((d.setTx c k []).frameOut c k (d.waiting c k) age coll fo an).markSent c k := by
  cases c <;> rfl

theorem frameSent_none {bad : Bool} (h : d.maySend c = false ∨ ∀ k < 8, d.waiting c k = []) : d.frameSent c age coll bad fo an = d := by
  have hwin : (if d.maySend c then d.txWinner c else none) = none := by
    rcases h with h | h
    · rw [h]
      rfl
    · rw [txWinner_none h, ite_self]
  rw [frameSent_eq, hwin]

theorem frameSent_some (bad : Bool) (hmay : d.maySend c = true) (hwin : d.txWinner c = some k) : d.frameSent c age coll bad fo an =
    if bad then (d.setTx c k []).frameLost c else ((d.setTx c k []).frameOut c k (d.waiting c k) age coll fo an).markSent c k := by
  rw [frameSent_eq, hmay, if_pos rfl, hwin]

/-- The frame counted, TEC one lower. -/
def sentCounted (d : Dev) (n : Fin 2) : Dev :=
  ((d.setFld (pg .can n) F.CAN.ERR_TEC (d.fld (pg .can n) F.CAN.ERR_TEC - 1)).canState n).bump (pg .can n) R.CAN.TX_FRAMES

theorem sentCounted_reg (d : Dev) (n : Fin 2) {o : Nat} (h : o ≠ R.CAN.ERR ∧ o ≠ R.CAN.TX_FRAMES) :
    (d.sentCounted n).reg (pg .can n) o = d.reg (pg .can n) o :=
  (reg_setReg_apart _ _ h.2).trans ((reg_canState _ _ h.1).trans (reg_setFld_apart _ _ h.1))

theorem sentCounted_spec (d : Dev) (n : Fin 2) : let t := d.sentCounted n
    t.reg (pg .can n) R.CAN.TX_FRAMES = d.reg (pg .can n) R.CAN.TX_FRAMES + 1 ∧ t.net = d.net ∧ t.mem = d.mem ∧ t.keys = d.keys ∧
    t.fld (pg .can n) F.CAN.ERR_TEC = d.fld (pg .can n) F.CAN.ERR_TEC - 1 := by
  have htec : d.fld (pg .can n) F.CAN.ERR_TEC < 2 ^ 8 := Nat.mod_lt _ (by decide)
  refine ⟨(reg_bump_self ..).trans ?_, net_canState _ _, (canState_store _ _).1, (canState_store _ _).2, ?_⟩
  · rw [reg_canState _ _ (by decide), reg_setFld_apart _ _ (by decide)]
    rfl
  · rw [sentCounted, fld_bump_apart _ (by decide), fld_canState _ _ (by decide), fld_setFld_self _ _ _ _ (by decide)]
    exact Nat.mod_eq_of_lt (show _ < 2 ^ 8 by omega)

theorem loopback_sentCounted (d : Dev) (n : Fin 2) : (d.sentCounted n).flag (pg .can n) F.CAN.MODE_LOOPBACK = d.flag (pg .can n) F.CAN.MODE_LOOPBACK :=
  flag_of_fld (fld_of_reg (sentCounted_reg d n (by decide)))

theorem canSent_bus {n : Fin 2} (ws : List Word) (h : d.flag (pg .can n) F.CAN.MODE_LOOPBACK = false) : d.canSent n ws fo an = d.sentCounted n := by
  rw [← loopback_sentCounted] at h
  exact if_neg (by rw [Bool.not_eq_true]; exact h)

theorem canSent_loopback {n : Fin 2} (ws : List Word) (h : d.flag (pg .can n) F.CAN.MODE_LOOPBACK = true) :
    d.canSent n ws fo an = (d.sentCounted n).canAccept n (frameOf ws fo an) := by
  rw [← loopback_sentCounted] at h
  exact if_pos h

/-- In loopback too the frame that is sent counts once, and the buffers stay. -/
theorem canSent_counts (d : Dev) (n : Fin 2) (ws : List Word) (fo : Word) (an : BitVec 16) :
    (d.canSent n ws fo an).net = d.net ∧ (d.canSent n ws fo an).reg (pg .can n) R.CAN.TX_FRAMES = d.reg (pg .can n) R.CAN.TX_FRAMES + 1 := by
  obtain ⟨hframes, hnet, -⟩ := sentCounted_spec d n
  cases hloop : d.flag (pg .can n) F.CAN.MODE_LOOPBACK with
  | false =>
    rw [canSent_bus ws hloop]
    exact ⟨hnet, hframes⟩
  | true =>
    obtain ⟨hkeep, hreg⟩ := canAccept_keeps (d.sentCounted n) n (f := frameOf ws fo an) rfl
    rw [canSent_loopback ws hloop]
    exact ⟨hkeep.trans hnet, (hreg _ (by decide) (by decide) (by decide) (by decide)).trans hframes⟩

theorem fits_done (hk : k < 8) : (⟨R.CAN.TX_CTRL, 16 + k, 1⟩ : Fld).lo + (⟨R.CAN.TX_CTRL, 16 + k, 1⟩ : Fld).w ≤ 32 := by
  show 16 + k + 1 ≤ 32
  omega

theorem markSent_spec (d : Dev) (c : Net) (hk : k < 8) : let t := d.markSent c k
    t.flag (netPage c) ⟨R.CAN.TX_CTRL, 16 + k, 1⟩ = true ∧ t.flag (netPage c) F.CAN.EVENT_TX_DONE = true ∧
    (∀ o, o ≠ R.CAN.TX_CTRL → o ≠ R.HDR.EVENT → t.reg (netPage c) o = d.reg (netPage c) o) ∧ t.net = d.net ∧ t.mem = d.mem ∧ t.keys = d.keys := by
  have hne : R.CAN.TX_CTRL ≠ F.CAN.EVENT_TX_DONE.ofs := by decide
  refine ⟨?_, flag_event_self _ _ _ (by decide) (by decide), fun o htx hev => (reg_event_apart _ hev).trans (reg_setFlag_apart d true htx), rfl, rfl, rfl⟩
  exact (flag_event_apart _ (.inl hne)).trans (flag_setFlag_self d _ _ true (fits_done hk) Nat.one_pos)

/-- A time stamp asked for is put behind the record's first two words (R522). -/
theorem t1sSent_eq (d : Dev) (k age coll : Nat) : let x := (d.bump (pg .t1s) R.T1S.TX_FRAMES).bump (pg .t1s) R.T1S.COLLISIONS coll
    d.t1sSent k age coll = if bitAt (d.reg (pg .t1s) R.T1S.TX_CTRL).toNat (24 + k) then
      { x.setFlag (pg .t1s) ⟨R.T1S.TX_CTRL, 24 + k, 1⟩ false with
        mem := Mem.write d.mem (vget (d.netS .t1s).txAddr k 0 + 8) (d.sfdTime age) 8 } else x := by
  intro x
  have hctrl : x.reg (pg .t1s) R.T1S.TX_CTRL = d.reg (pg .t1s) R.T1S.TX_CTRL :=
    (reg_setReg_apart _ _ (by decide)).trans (reg_setReg_apart _ _ (by decide))
  have heq : d.t1sSent k age coll = if bitAt (x.reg (pg .t1s) R.T1S.TX_CTRL).toNat (24 + k) then
      { x.setFlag (pg .t1s) ⟨R.T1S.TX_CTRL, 24 + k, 1⟩ false with
        mem := Mem.write d.mem (vget (d.netS .t1s).txAddr k 0 + 8) (d.sfdTime age) 8 } else x := rfl
  rw [heq, hctrl]

theorem t1sSent_spec (d : Dev) (k age coll : Nat) : let t := d.t1sSent k age coll
    let a := vget (d.netS .t1s).txAddr k 0 + 8
    let ts := d.now - d.comp.resetAt - age
    t.net = d.net ∧ t.keys = d.keys ∧ t.reg (pg .t1s) R.T1S.TX_FRAMES = d.reg (pg .t1s) R.T1S.TX_FRAMES + 1 ∧
    (bitAt (d.reg (pg .t1s) R.T1S.TX_CTRL).toNat (24 + k) = false → t.mem = d.mem) ∧
    (bitAt (d.reg (pg .t1s) R.T1S.TX_CTRL).toNat (24 + k) = true → t.mem = Mem.write d.mem a ts 8) := by
  have hframes : ((d.bump (pg .t1s) R.T1S.TX_FRAMES).bump (pg .t1s) R.T1S.COLLISIONS coll).reg (pg .t1s) R.T1S.TX_FRAMES =
      d.reg (pg .t1s) R.T1S.TX_FRAMES + 1 := (reg_setReg_apart _ _ (by decide)).trans (reg_bump_self ..)
  rw [t1sSent_eq]
  cases hts : bitAt (d.reg (pg .t1s) R.T1S.TX_CTRL).toNat (24 + k) with
  | false => exact ⟨rfl, rfl, hframes, fun _ => rfl, fun h => nomatch h⟩
  | true => exact ⟨rfl, rfl, (reg_setFlag_apart _ false (show R.T1S.TX_FRAMES ≠ R.T1S.TX_CTRL by decide)).trans hframes, (fun h => nomatch h), fun _ => rfl⟩

/-- TS of a buffer stays as its record goes. -/
theorem ts_setTx (d : Dev) (j : Nat) (ws : List Word) {k : Nat} (hj : j < 8) (hk : k < 8) :
    bitAt ((d.setTx .t1s j ws).reg (pg .t1s) R.T1S.TX_CTRL).toNat (24 + k) = bitAt (d.reg (pg .t1s) R.T1S.TX_CTRL).toNat (24 + k) := by
  have hflag : ∀ e : Dev, bitAt (e.reg (pg .t1s) R.T1S.TX_CTRL).toNat (24 + k) = e.flag (pg .t1s) ⟨R.CAN.TX_CTRL, 24 + k, 1⟩ :=
    fun e => bitAt_eq_bitsOf _ _
  have hapart : ∀ i < 16, FieldsApart ⟨R.CAN.TX_CTRL, 24 + k, 1⟩ ⟨R.CAN.TX_CTRL, i, 1⟩ := fun i hi => by
    simp only [FieldsApart]
    omega
  have hset : ∀ (e : Dev) (i : Nat) (b : Bool), i < 16 → (e.setFlag (netPage .t1s) ⟨R.CAN.TX_CTRL, i, 1⟩ b).flag (pg .t1s) ⟨R.CAN.TX_CTRL, 24 + k, 1⟩ =
      e.flag (pg .t1s) ⟨R.CAN.TX_CTRL, 24 + k, 1⟩ := fun e i b hi => flag_setFlag_apart e b (hapart i hi)
  rw [hflag, hflag, setTx_t1s, txFlags]
  split
  · exact (hset _ _ _ (by omega)).trans (hset _ _ _ (by omega))
  · exact hset _ _ _ (by omega)

end Sent

end Dev

/-! ## The clauses of the statement -/

section Clauses
variable {d : Dev} {m : Master}
open Dev

theorem canFrame_clause (n : Fin 2) (f : CanFrame) : let p := pg .can n
    let part := d.canLive n = true ∧ d.flag p F.CAN.MODE_LOOPBACK = false ∧ d.fmtOn n (fmtCode f.fmt) = true
    let e := d.heard n f
    (d.busLive = false ∨ ¬part → Runs (.canFrameReceived n f) d d) ∧
    (d.busLive = true → part → f.bad = true → Runs (.canFrameReceived n f) d (e.raise .can n B.CAN.CAN_RAM)) ∧
    (d.busLive = true → part → f.bad = false →
      e.reg p R.CAN.RX_FRAMES = d.reg p R.CAN.RX_FRAMES + 1 ∧ e.mem = d.mem ∧ e.keys = d.keys ∧
      ((∀ i < 128, d.filterMatches n i f = false) → Runs (.canFrameReceived n f) d (e.bump p R.CAN.NOMATCH)) ∧
      (∀ i < 128, d.filterMatches n i f = true → (∀ j < i, d.filterMatches n j f = false) → let b := (d.reg p (R.CAN.FILT + 8 * i + 4)).toNat
        (bitAt b 31 = true → Runs (.canFrameReceived n f) d e) ∧
        (bitAt b 31 = false → let ring := bitsOf (d.reg p R.CAN.RX_RING).toNat (8 * bitsOf b 29 2) 7
          Runs (.canFrameReceived n f) d (e.receiveInto (.can n) ring (Dev.canRecord f i)) ∧
          (d.ringProducer ring ≠ p → Runs (.canFrameReceived n f) d (e.bump p R.CAN.RX_DROPPED))))) := by
  intro p part e
  refine ⟨fun h => ?_, fun hlive h hbad => Runs.live hlive (fun _ => rfl) (canReceived_bad h hbad), fun hlive h hgood => ?_⟩
  · rcases h with hdead | hapart
    · exact Runs.dev (fun _ => rfl) (Dev.whenLive_neg hdead)
    · exact Runs.whenLive (fun _ => rfl) (canReceived_apart hapart)
  · obtain ⟨hframes, hmem, hkeys⟩ := heard_counts (d := d) (n := n) (f := f)
    refine ⟨hframes, hmem, hkeys, fun hno => Runs.live hlive (fun _ => rfl) (canReceived_unmatched h hgood hno), fun i hi hmatch hlow => ?_⟩
    obtain ⟨hreject, htake⟩ := canReceived_matched h hgood hi hmatch hlow
    exact ⟨fun hb => Runs.live hlive (fun _ => rfl) (hreject hb), fun hb => ⟨Runs.live hlive (fun _ => rfl) (htake hb).1,
      fun hother => Runs.live hlive (fun _ => rfl) ((htake hb).2 hother)⟩⟩

theorem t1sFrame_clause (f : T1sFrame) : let p := pg .t1s
    let l := f.bytes.map (·.toNat)
    let on := d.busLive = true ∧ d.flag p F.HDR.CTRL_ENABLE = true
    (¬on → Runs (.t1sFrameReceived f) d d) ∧
    (on → f.fcsOk = false ∨ l.length < 60 ∨ 1518 < l.length → Runs (.t1sFrameReceived f) d (d.bump p R.T1S.RX_ERRS)) ∧
    (on → f.fcsOk = true → 60 ≤ l.length → l.length ≤ 1518 → f.bad = true → Runs (.t1sFrameReceived f) d
      ((d.bump p R.T1S.RX_FRAMES).raise .t1s 0 B.T1S.T1S_RAM)) ∧
    (on → f.fcsOk = true → 60 ≤ l.length → l.length ≤ 1518 → f.bad = false → let ts := d.now - d.comp.resetAt - f.age.toNat
      let sync := l.getD 12 0 = 0x88 ∧ l.getD 13 0 = 0xF7 ∧ l.getD 14 0 % 16 = 0
      (¬sync → d.t1sAccepts (Dev.dstOf l) = false → Runs (.t1sFrameReceived f) d (d.bump p R.T1S.RX_FRAMES)) ∧
      (¬sync → d.t1sAccepts (Dev.dstOf l) = true →
        Runs (.t1sFrameReceived f) d ((d.bump p R.T1S.RX_FRAMES).receiveInto .t1s (d.fld p F.T1S.RX_RING_RING) (Dev.t1sRecord f ts))) ∧
      (sync → d.t1sAccepts (Dev.dstOf l) = false → ∃ t, Runs (.t1sFrameReceived f) d t ∧ t.reg p R.T1S.CAP_TS = BitVec.ofNat 32 ts ∧
        t.reg p (R.T1S.CAP_TS + 4) = BitVec.ofNat 32 (ts / 4294967296) ∧
        t.reg p R.T1S.CAP_TICKS = f.ticks ∧ (t.netS .t1s).capAt = some d.now ∧ t.reg p R.T1S.RX_FRAMES = d.reg p R.T1S.RX_FRAMES + 1 ∧
        t.mem = d.mem ∧ t.keys = d.keys)) := by
  intro p l on
  refine ⟨fun h => ?off, fun ⟨hlive, hon⟩ hwrong => Runs.live hlive (fun _ => rfl) (t1sReceived_wrong hon hwrong),
    fun ⟨hlive, hon⟩ hfcs hlo hhi hbad => Runs.live hlive (fun _ => rfl) (t1sReceived_bad hon ⟨hfcs, hlo, hhi⟩ hbad),
    fun ⟨hlive, hon⟩ hfcs hlo hhi hgood => ?good⟩
  case off =>
    cases hlive : d.busLive with
    | false => exact Runs.dev (fun _ => rfl) (Dev.whenLive_neg hlive)
    | true => exact Runs.live hlive (fun _ => rfl) (t1sReceived_off (Bool.eq_false_iff.mpr fun hon => h ⟨hlive, hon⟩))
  case good =>
    intro ts sync
    have hplain : ¬sync → syncBytes l = false := fun hno => Bool.eq_false_iff.mpr fun hs => hno ((syncBytes_iff l).mp hs)
    exact ⟨fun hno haccept => Runs.live hlive (fun _ => rfl) ((t1sReceived_plain hon ⟨hfcs, hlo, hhi⟩ hgood (hplain hno)).1 haccept),
      fun hno haccept => Runs.live hlive (fun _ => rfl) ((t1sReceived_plain hon ⟨hfcs, hlo, hhi⟩ hgood (hplain hno)).2 haccept),
      fun hsync haccept => ⟨_, Runs.live hlive (fun _ => rfl) (t1sReceived_sync hon ⟨hfcs, hlo, hhi⟩ hgood ((syncBytes_iff l).mpr hsync) haccept),
        latched_spec d ts f.ticks⟩⟩

/-- A permitted write of TX_CTRL of a controller. -/
def CanWriteTx (d : Dev) (m : Master) (c : Net) : Prop :=
  match c with
  | .can n => d.CanWrite m .can n R.CAN.TX_CTRL
  | .t1s => d.CanWrite m .t1s 0 R.CAN.TX_CTRL

theorem Runs.txCtrl {c : Net} {i : Instr} {w : Word} {started : BitVec 8} {t : Dev} (h : CanWriteTx d m c)
    (hc : ∀ s, exec i s = .next (s.onDev fun d => d.busWrite m (pageAddr (netPage c) R.CAN.TX_CTRL) w { started := started }))
    (ht : d.txCtrl c w started.toNat = t) : Runs i d t.done := by
  refine Runs.dev hc ?_
  cases c with
  | can n =>
    refine (busWrite_eq h w { started := started } (by decide)).trans (congrArg Dev.done ((regWrite_block (by decide) (by decide) d m n (by decide) w _).trans ?_))
    rw [← ht]
    fin_cases n <;> rfl
  | t1s =>
    exact (busWrite_eq h w { started := started } (by decide)).trans
      (congrArg Dev.done ((regWrite_block (by decide) (by decide) d m 0 (by decide) w _).trans ht))

theorem txRequest_clause (c : Net) (h : CanWriteTx d m c) (k : Fin 8) : let p := netPage c
    let req := BitVec.ofNat 8 (2 ^ k.val)
    let safe := fun (ws : List Word) => ∀ j < ws.length, d.memSecure ((d.reg p (R.CAN.TXBUF + 4 * k.val)).toNat + 4 * j) = false
    (∀ ws, d.flag p F.HDR.CTRL_ENABLE = true → d.txRecord c k = some ws → safe ws → d.txGood c ws = true → ∃ t, Runs (.txRequest m c req) d t ∧
      t.waiting c k = ws ∧ (∀ j < 8, j ≠ k.val → t.waiting c j = d.waiting c j) ∧ t.mem = d.mem ∧ t.keys = d.keys) ∧
    (d.flag p F.HDR.CTRL_ENABLE = true → (d.txRecord c k = none ∨ ∃ ws, d.txRecord c k = some ws ∧ safe ws ∧ d.txGood c ws = false) →
      ∃ t, Runs (.txRequest m c req) d t ∧ t.flag p F.CAN.EVENT_TX_BAD = true ∧ t.net = d.net ∧ t.mem = d.mem ∧ t.keys = d.keys) ∧
    (d.flag p F.HDR.CTRL_ENABLE = false → ∃ t, Runs (.txRequest m c req) d t ∧ t.net = d.net ∧ t.mem = d.mem ∧ t.keys = d.keys) := by
  intro p req safe
  have hruns : ∀ t, (d.txCleared c (BitVec.ofNat 32 req.toNat)).txRequest c k = t → Runs (.txRequest m c req) d t.done := fun t ht =>
    Runs.txCtrl (started := 0) h (fun _ => rfl) ((txCtrl_request d c k 0).trans ht)
  obtain ⟨-, -, hnet, hmem, hkeys⟩ := txCleared_keeps d c (BitVec.ofNat 32 req.toNat)
  obtain ⟨hon, hat, hrec, hsecure, hgood⟩ := txCleared_reads d c k.isLt (BitVec.ofNat 32 req.toNat)
  have hwait : ∀ j, (d.txCleared c (BitVec.ofNat 32 req.toNat)).waiting c j = d.waiting c j := fun j => by rw [waiting, netS, hnet, waiting, netS]
  refine ⟨fun ws hen hws hsafe hg => ?good, fun hen hbad => ?bad, fun hoff => ?off⟩
  case good =>
    refine ⟨_, hruns _ (txRequest_good (hon.trans hen) (hrec.trans hws) (fun j hj => ?_) ((hgood ws).trans hg)), ?_, fun j _ hne => ?_, ?_, ?_⟩
    · rw [hsecure, hat]
      exact hsafe j hj
    · refine (waiting_txAddr _ _ _ _).trans ((waiting_setTx _ _ k.isLt _ _).trans (if_pos rfl))
    · exact (waiting_txAddr _ _ _ _).trans ((waiting_setTx _ _ k.isLt _ _).trans ((if_neg hne).trans (hwait j)))
    · exact (setTx_store _ _ _ _).1.trans hmem
    · exact (setTx_store _ _ _ _).2.trans hkeys
  case bad =>
    refine ⟨_, hruns _ (txRequest_bad (hon.trans hen) ?_), (requestBad_txBad hnet hmem hkeys).done⟩
    refine hbad.imp hrec.trans ?_
    rintro ⟨ws, hws, hsafe, hg⟩
    refine ⟨ws, hrec.trans hws, fun j hj => ?_, (hgood ws).trans hg⟩
    rw [hsecure, hat]
    exact hsafe j hj
  case off => exact ⟨_, hruns _ (txRequest_off (hon.trans hoff)), hnet, hmem, hkeys⟩

theorem txAbort_clause (c : Net) (h : CanWriteTx d m c) (req started : BitVec 8) : ∃ t, Runs (.txAbort m c req started) d t ∧ t.mem = d.mem ∧ t.keys = d.keys ∧
    ∀ k < 8, t.waiting c k = if bitAt req.toNat k && !bitAt started.toNat k then [] else d.waiting c k := by
  obtain ⟨hmem, hkeys⟩ := stores_txCtrl_abort d c req started.toNat
  exact ⟨_, Runs.txCtrl h (fun _ => rfl) rfl, hmem, hkeys, fun k hk => waiting_txCtrl_abort d c req started.toNat hk⟩

theorem maySend_iff (d : Dev) (c : Net) : d.maySend c = true ↔ (match c with
    | .can n => d.canLive n = true ∧ d.flag (netPage c) F.CAN.MODE_LISTEN = false ∧ d.flag (netPage c) F.CAN.MODE_RESTRICTED = false
    | .t1s => d.flag (netPage c) F.HDR.CTRL_ENABLE = true) := by
  cases c with
  | can n => simp [maySend, and_assoc]
  | t1s => exact Iff.rfl

theorem frameSent_idle (c : Net) (age : BitVec 32) (coll : BitVec 8) (bad : Bool) (fo : Word) (an : BitVec 16)
    (h : ¬(d.busLive = true ∧ d.maySend c = true) ∨ ∀ k < 8, d.waiting c k = []) : Runs (.frameSent c age coll bad fo an) d d := by
  cases hlive : d.busLive with
  | false => exact Runs.dev (fun _ => rfl) (Dev.whenLive_neg hlive)
  | true =>
    exact Runs.live hlive (fun _ => rfl) (frameSent_none (h.imp_left fun hno => Bool.eq_false_iff.mpr fun hmay => hno ⟨hlive, hmay⟩))

/-- What a frame that has gone out leaves in the buffers and in TX_CTRL. -/
theorem frameOut_marked (c : Net) {k : Nat} (hk : k < 8) {x : Dev} (hnet : x.net = (d.setTx c k []).net) : let t := x.markSent c k
    t.waiting c k = [] ∧ (∀ j < 8, j ≠ k → t.waiting c j = d.waiting c j) ∧
    t.flag (netPage c) ⟨R.CAN.TX_CTRL, 16 + k, 1⟩ = true ∧ t.flag (netPage c) F.CAN.EVENT_TX_DONE = true := by
  intro t
  obtain ⟨hdone, hevent, -, hsame, -⟩ := markSent_spec x c hk
  have hwait : ∀ j, t.waiting c j = (d.setTx c k []).waiting c j := fun j => by rw [waiting, netS, hsame, hnet, waiting, netS]
  exact ⟨(hwait k).trans ((waiting_setTx d c hk [] k).trans (if_pos rfl)),
    fun j _ hne => (hwait j).trans ((waiting_setTx d c hk [] j).trans (if_neg hne)), hdone, hevent⟩

/-- What a CAN frame counts, against the device before its buffer was emptied. -/
def CanOut (n : Fin 2) (d t : Dev) : Prop :=
  t.reg (pg .can n) R.CAN.TX_FRAMES = d.reg (pg .can n) R.CAN.TX_FRAMES + 1 ∧
  (d.flag (pg .can n) F.CAN.MODE_LOOPBACK = false → t.mem = d.mem ∧ t.keys = d.keys ∧
    t.fld (pg .can n) F.CAN.ERR_TEC = d.fld (pg .can n) F.CAN.ERR_TEC - 1)

theorem canOut_canSent (d : Dev) (n : Fin 2) (ws : List Word) (fo : Word) (an : BitVec 16) : CanOut n d (d.canSent n ws fo an) := by
  refine ⟨(canSent_counts d n ws fo an).2, fun hbus => ?_⟩
  obtain ⟨-, -, hmem, hkeys, htec⟩ := sentCounted_spec d n
  rw [canSent_bus ws hbus]
  exact ⟨hmem, hkeys, htec⟩

theorem CanOut.marked {n : Fin 2} {x : Dev} (h : CanOut n d x) {k : Nat} (hk : k < 8) : CanOut n d (x.markSent (.can n) k) := by
  obtain ⟨hframes, hbus⟩ := h
  obtain ⟨-, -, hreg, -, hmem, hkeys⟩ := markSent_spec x (.can n) hk
  refine ⟨(hreg _ (by decide) (by decide)).trans hframes, fun hoff => ?_⟩
  obtain ⟨hxmem, hxkeys, htec⟩ := hbus hoff
  exact ⟨hmem.trans hxmem, hkeys.trans hxkeys, (fld_of_reg (hreg _ (by decide) (by decide))).trans htec⟩

theorem CanOut.emptied {n : Fin 2} {k : Nat} {t : Dev} (h : CanOut n (d.setTx (.can n) k []) t) : CanOut n d t := by
  obtain ⟨hframes, hbus⟩ := h
  obtain ⟨hmem, hkeys⟩ := setTx_store d (.can n) k []
  have hreg : ∀ o, o ≠ R.CAN.TX_CTRL → (d.setTx (.can n) k []).reg (pg .can n) o = d.reg (pg .can n) o := fun o ho => reg_setTx d (.can n) k [] ho
  have hloop : (d.setTx (.can n) k []).flag (pg .can n) F.CAN.MODE_LOOPBACK = d.flag (pg .can n) F.CAN.MODE_LOOPBACK :=
    flag_of_fld (fld_of_reg (hreg _ (by decide)))
  have htec : (d.setTx (.can n) k []).fld (pg .can n) F.CAN.ERR_TEC = d.fld (pg .can n) F.CAN.ERR_TEC := fld_of_reg (hreg _ (by decide))
  rw [hreg _ (by decide)] at hframes
  rw [hloop, hmem, hkeys, htec] at hbus
  exact ⟨hframes, hbus⟩

theorem t1sOut_spec {k : Nat} (hk : k < 8) (age coll : Nat) : let p := pg .t1s
    let x := (d.setTx .t1s k []).t1sSent k age coll
    let t := x.markSent .t1s k
    let a := vget (d.netS .t1s).txAddr k 0 + 8
    let ts := d.now - d.comp.resetAt - age
    x.net = (d.setTx .t1s k []).net ∧ t.keys = d.keys ∧ t.reg p R.T1S.TX_FRAMES = d.reg p R.T1S.TX_FRAMES + 1 ∧
    (bitAt (d.reg p R.T1S.TX_CTRL).toNat (24 + k) = false → t.mem = d.mem) ∧
    (bitAt (d.reg p R.T1S.TX_CTRL).toNat (24 + k) = true →
      (∀ j < 8, Mem.byte t.mem (a + j) = BitVec.ofNat 8 (ts / 256 ^ j)) ∧ ∀ b, b < a ∨ a + 8 ≤ b → Mem.byte t.mem b = Mem.byte d.mem b) := by
  intro p x t a ts
  obtain ⟨hmem, hkeys⟩ := setTx_store d .t1s k []
  obtain ⟨hxnet, hxkeys, hxframes, hxplain, hxstamp⟩ := t1sSent_spec (d.setTx .t1s k []) k age coll
  obtain ⟨-, -, hreg, -, htmem, htkeys⟩ := markSent_spec x .t1s hk
  have haddr : (d.setTx .t1s k []).netS .t1s = { d.netS .t1s with tx := vmod (d.netS .t1s).tx k fun _ => [] } := netS_setTx d .t1s k []
  have htime : (d.setTx .t1s k []).now = d.now ∧ (d.setTx .t1s k []).comp = d.comp := by
    constructor <;> simp [setTx, modNet]
  rw [ts_setTx d k [] hk hk] at hxplain hxstamp
  rw [haddr, htime.1, htime.2, hmem] at hxstamp
  refine ⟨hxnet, htkeys.trans (hxkeys.trans hkeys), (hreg _ (by decide) (by decide)).trans (hxframes.trans (congrArg (· + 1) ?_)),
    fun hno => htmem.trans ((hxplain hno).trans hmem), fun hyes => ?_⟩
  · exact reg_setTx d .t1s k [] (by decide)
  · have hwritten : t.mem = Mem.write d.mem a ts 8 := htmem.trans (hxstamp hyes)
    rw [hwritten]
    exact ⟨fun j hj => Mem.byte_write_inside _ _ _ _ hj, fun b hb => Mem.byte_write_outside _ _ _ _ hb⟩

theorem frameSent_clause (c : Net) (age : BitVec 32) (coll : BitVec 8) (fo : Word) (an : BitVec 16) (k : Fin 8) (hlive : d.busLive = true)
    (hmay : d.maySend c = true) (hne : d.waiting c k ≠ []) (hwins : ∀ j < 8, d.waiting c j ≠ [] →
      txKey c (d.waiting c k) < txKey c (d.waiting c j) ∨ txKey c (d.waiting c k) = txKey c (d.waiting c j) ∧ k.val ≤ j) :
    let p := netPage c
    Runs (.frameSent c age coll true fo an) d ((d.setTx c k []).frameLost c) ∧
    ∃ t, Runs (.frameSent c age coll false fo an) d t ∧ t.waiting c k = [] ∧ (∀ j < 8, j ≠ k.val → t.waiting c j = d.waiting c j) ∧
      t.flag p ⟨R.CAN.TX_CTRL, 16 + k.val, 1⟩ = true ∧ t.flag p F.CAN.EVENT_TX_DONE = true ∧
      (c ≠ .t1s → t.reg p R.CAN.TX_FRAMES = d.reg p R.CAN.TX_FRAMES + 1 ∧
        (d.flag p F.CAN.MODE_LOOPBACK = false → t.mem = d.mem ∧ t.keys = d.keys ∧ t.fld p F.CAN.ERR_TEC = d.fld p F.CAN.ERR_TEC - 1)) ∧
      (c = .t1s → let a := vget (d.netS .t1s).txAddr k.val 0 + 8
        let ts := d.now - d.comp.resetAt - age.toNat
        t.keys = d.keys ∧ t.reg p R.T1S.TX_FRAMES = d.reg p R.T1S.TX_FRAMES + 1 ∧
        (bitAt (d.reg p R.T1S.TX_CTRL).toNat (24 + k.val) = false → t.mem = d.mem) ∧
        (bitAt (d.reg p R.T1S.TX_CTRL).toNat (24 + k.val) = true →
          (∀ j < 8, Mem.byte t.mem (a + j) = BitVec.ofNat 8 (ts / 256 ^ j)) ∧
          ∀ b, b < a ∨ a + 8 ≤ b → Mem.byte t.mem b = Mem.byte d.mem b)) := by
  intro p
  have hwin := txWinner_some k.isLt hne hwins
  have hlost := frameSent_some (age := age.toNat) (coll := coll.toNat) (fo := fo) (an := an) true hmay hwin
  have hout := frameSent_some (age := age.toNat) (coll := coll.toNat) (fo := fo) (an := an) false hmay hwin
  refine ⟨Runs.live hlive (fun _ => rfl) (hlost.trans (if_pos rfl)), _, Runs.live hlive (fun _ => rfl) (hout.trans (if_neg Bool.false_ne_true)), ?_⟩
  cases c with
  | can n =>
    have hnet := (canSent_counts (d.setTx (.can n) k []) n (d.waiting (.can n) k) fo an).1
    have hspec := ((canOut_canSent (d.setTx (.can n) k []) n (d.waiting (.can n) k) fo an).marked k.isLt).emptied
    obtain ⟨hthis, hothers, hdone, hevent⟩ := frameOut_marked (d := d) (.can n) k.isLt hnet
    exact ⟨hthis, hothers, hdone, hevent, fun _ => hspec, fun h => nomatch h⟩
  | t1s =>
    obtain ⟨hnet, hspec⟩ := t1sOut_spec (d := d) k.isLt age.toNat coll.toNat
    obtain ⟨hthis, hothers, hdone, hevent⟩ := frameOut_marked (d := d) .t1s k.isLt hnet
    exact ⟨hthis, hothers, hdone, hevent, fun h => absurd rfl h, fun _ => hspec⟩

/-- An error, bus-off and the way back of a CAN controller. -/
theorem canErrorFrame_clause (n : Fin 2) (e : CanError) : let p := pg .can n
    let tec := d.fld p F.CAN.ERR_TEC
    let r := d.fld p F.CAN.ERR_REC
    let seen := (d.busLive = true ∧ d.canLive n = true) ∧ d.flag p F.CAN.MODE_LOOPBACK = false
    (¬seen → Runs (.canErrorFrame n e) d d) ∧
    (seen → ∃ t, Runs (.canErrorFrame n e) d t ∧
      t.reg p R.CAN.ERR_FRAMES = d.reg p R.CAN.ERR_FRAMES + 1 ∧
      t.fld p F.CAN.ERR_TEC = (if e = .tx then min (tec + 8) 255 else tec) ∧
      t.fld p F.CAN.ERR_REC = (if e = .rx then min (r + 1) 255 else if e = .rxDominant then min (r + 8) 255 else r) ∧
      (t.netS (.can n)).offDue = ((d.netS (.can n)).offDue || decide (e = .tx ∧ 255 < tec + 8)) ∧
      (t.fld p F.CAN.ERR_ESTATE = 1 ↔ 127 < t.fld p F.CAN.ERR_TEC ∨ 127 < t.fld p F.CAN.ERR_REC) ∧ t.mem = d.mem ∧ t.keys = d.keys) := by
  intro p tec r seen
  refine ⟨fun hno => ?_, fun ⟨⟨hbus, hlive⟩, hloop⟩ => ⟨_, Runs.live hbus (fun _ => rfl) rfl, canError_spec e hlive hloop⟩⟩
  cases hbus : d.busLive with
  | false => exact Runs.dev (fun _ => rfl) (Dev.whenLive_neg hbus)
  | true =>
    refine Runs.live hbus (fun _ => rfl) (canError_unseen ?_)
    by_contra hpart
    simp only [not_or, Bool.not_eq_true, Bool.not_eq_false] at hpart
    exact hno ⟨⟨hbus, hpart.1⟩, hpart.2⟩

theorem busOff_clause (n : Fin 2) : let on := d.busLive = true ∧ d.canLive n = true
    (¬(on ∧ (d.netS (.can n)).offDue = true) → Runs (.busOff n) d d) ∧
    (on → (d.netS (.can n)).offDue = true →
      Runs (.busOff n) d ((d.offBus n).raiseLevel .can n B.CAN.CAN_BUSOFF (d.fld (pg .can n) F.CAN.ERR_TEC)) ∧ (d.offBus n).canLive n = false) := by
  refine ⟨fun h => ?_, fun ⟨hbus, hlive⟩ hdue => ⟨Runs.live hbus (fun _ => rfl) (busOff_due hlive hdue).1, (busOff_due hlive hdue).2⟩⟩
  cases hbus : d.busLive with
  | false => exact Runs.dev (fun _ => rfl) (Dev.whenLive_neg hbus)
  | true => exact Runs.live hbus (fun _ => rfl) (busOff_none fun hoff => h ⟨⟨hbus, hoff.1⟩, hoff.2⟩)

theorem recover_clause (n : Fin 2) (h : d.CanWrite m .can n R.CAN.CMD) :
    (d.fld (pg .can n) F.CAN.ERR_ESTATE ≠ 2 → Runs (.recover m n) d d.done) ∧
    (d.fld (pg .can n) F.CAN.ERR_ESTATE = 2 → Runs (.recover m n) d (d.modNet (.can n) (fun s => { s with recov := true })).done) := by
  have hruns : ∀ t, d.canRecover n = t → Runs (.recover m n) d t.done := fun t ht => by
    refine Runs.block (by decide) (by decide) h (by decide) (fun _ => rfl) ?_
    rw [← ht]
    fin_cases n <;> rfl
  exact ⟨fun hactive => hruns _ (canRecover_on hactive), fun hoff => hruns _ (canRecover_off hoff)⟩

theorem recovery_clause (n : Fin 2) (seqs : BitVec 8) : let p := pg .can n
    let back := d.busLive = true ∧ d.flag p F.HDR.CTRL_ENABLE = true ∧ d.fld p F.CAN.ERR_ESTATE = 2 ∧ (d.netS (.can n)).recov = true
    (¬back ∨ seqs.toNat < 128 → Runs (.busOffRecovery n seqs) d d) ∧
    (back → 128 ≤ seqs.toNat → Runs (.busOffRecovery n seqs) d
      (((d.setReg p R.CAN.ERR 0).modNet (.can n) (fun s => { s with recov := false })).lower .can n B.CAN.CAN_BUSOFF)) := by
  intro p back
  refine ⟨fun h => ?_, fun ⟨hbus, hon, hoff, hrecov⟩ hseqs => Runs.live hbus (fun _ => rfl) (if_pos ⟨hseqs, hon, hoff, hrecov⟩)⟩
  cases hbus : d.busLive with
  | false => exact Runs.dev (fun _ => rfl) (Dev.whenLive_neg hbus)
  | true =>
    refine Runs.live hbus (fun _ => rfl) (if_neg fun ⟨hseqs, hback⟩ => ?_)
    rcases h with hno | hfew
    · exact hno ⟨hbus, hback⟩
    · omega

theorem busWake_clause (n : Fin 2) (us : BitVec 16) :
    (d.state = 6 → bitAt d.seq.wakeCan n = true → vget d.seq.wakeDom n.val 0 ≤ us.toNat → Runs (.busWake n us) d (d.wakeEvent 10)) ∧
    (d.state ≠ 6 ∨ bitAt d.seq.wakeCan n = false ∨ us.toNat < vget d.seq.wakeDom n.val 0 → Runs (.busWake n us) d d) := by
  refine ⟨fun hstate hwake htime => Runs.dev (fun _ => rfl) (if_pos ⟨hstate, hwake, htime⟩),
    fun h => Runs.dev (fun _ => rfl) (if_neg fun ⟨hstate, hwake, htime⟩ => ?_)⟩
  rcases h with hother | hoff | hshort
  · exact hother hstate
  · exact absurd hwake (by rw [hoff]; decide)
  · omega

theorem hostPortWake_clause (us : BitVec 8) : (d.state = 6 → d.seq.wakeHost = true → 10 ≤ us.toNat → Runs (.hostPortWake us) d (d.wakeEvent 9)) ∧
    (d.state ≠ 6 ∨ d.seq.wakeHost = false ∨ us.toNat < 10 → Runs (.hostPortWake us) d d) := by
  refine ⟨fun hstate hwake htime => Runs.dev (fun _ => rfl) (if_pos ⟨hstate, hwake, htime⟩),
    fun h => Runs.dev (fun _ => rfl) (if_neg fun ⟨hstate, hwake, htime⟩ => ?_)⟩
  rcases h with hother | hoff | hshort
  · exact hother hstate
  · exact absurd hwake (by rw [hoff]; decide)
  · omega

theorem Runs.ptpCommit (h : d.CanWrite m .t1s 0 R.T1S.PTP_CMD) {t : Dev} (ht : d.ptpCommit = t) : Runs (.ptpCommit m) d t.done :=
  Runs.block (by decide) (by decide) h (by decide) (fun _ => rfl) ht

theorem t1sPlca_clause (cycles : BitVec 8) : let p := pg .t1s
    let plca := d.busLive = true ∧ d.flag p F.HDR.CTRL_ENABLE = true ∧ d.flag p F.T1S.MODE_PLCA_EN = true
    (¬plca ∨ cycles.toNat < 8 → Runs (.t1sPlca cycles) d d) ∧
    (plca → 8 ≤ cycles.toNat → Runs (.t1sPlca cycles) d
      ((d.setFlag p F.T1S.PHY_STATUS_BEACON_SEEN false).raise .t1s 0 B.T1S.T1S_PLCA (d.fld p F.T1S.PLCA_NODE_ID))) := by
  intro p plca
  refine ⟨fun h => ?_, fun ⟨hbus, hon, hplca⟩ hcycles => Runs.live hbus (fun _ => rfl) (t1sPlca_due hcycles hon hplca)⟩
  cases hbus : d.busLive with
  | false => exact Runs.dev (fun _ => rfl) (Dev.whenLive_neg hbus)
  | true =>
    refine Runs.live hbus (fun _ => rfl) (if_neg fun ⟨hcycles, hplca⟩ => ?_)
    rcases h with hno | hfew
    · exact hno ⟨hbus, hplca⟩
    · omega

end Clauses

open Dev in
/-- Settles O56: each command of a controller by what it finds, the pending buffers through their one equation, and the frame that is sent as the
first of the lowest key. -/
theorem networksRun : Obligations.NetworksRun := by
  unfold Obligations.NetworksRun
  intro d m
  refine ⟨fun n i f => filterMatches_iff d n i f, fun n f => canFrame_clause n f, fun f => t1sFrame_clause f, fun c => ?net,
    fun n => ⟨fun e => (canErrorFrame_clause n e).1, fun e => (canErrorFrame_clause n e).2, (busOff_clause n).1, (busOff_clause n).2, recover_clause n,
      ⟨fun seqs => (recovery_clause n seqs).1, fun seqs => (recovery_clause n seqs).2⟩, busWake_clause n⟩,
    hostPortWake_clause, fun h => ⟨fun hlate => Runs.ptpCommit h (ptpCommit_late hlate), fun _ hcap htime => Runs.ptpCommit h (ptpCommit_taken hcap htime)⟩,
    fun cycles => (t1sPlca_clause cycles).1, fun cycles => (t1sPlca_clause cycles).2⟩
  intro p tx may
  refine ⟨fun h => ?write, ?sent⟩
  case write =>
    have hmay : CanWriteTx d m c := by cases c <;> exact h
    exact ⟨txRequest_clause c hmay, txAbort_clause c hmay⟩
  case sent =>
    intro sends
    have hsends : sends ↔ d.busLive = true ∧ d.maySend c = true := by
      cases c with
      | can n => exact and_congr_right fun _ => (maySend_iff d (.can n)).symm
      | t1s => exact and_congr_right fun _ => (maySend_iff d .t1s).symm
    refine ⟨fun age coll bad fo an h => frameSent_idle c age coll bad fo an (h.imp_left (hsends.not.mp ·)), fun age coll fo an k h hne hwins => ?_⟩
    obtain ⟨hlive, hmay⟩ := hsends.mp h
    obtain ⟨hlost, hout⟩ := frameSent_clause c age coll fo an k hlive hmay hne hwins
    refine ⟨?_, hout⟩
    cases c <;> exact hlost

end Sys2Proof.Machine
end
